-- ==== Sys2Proof/Word.lean ====
section
/-!
DEFINITION. The word types of the XT4820: 48-bit register, angle and time words (00_scope, "Registers and
levels", "The angle word", "The time word"), bytes, and 40-bit event arguments (11_links, Table 11.4).
-/
namespace Sys2Proof

/-- A register, memory, angle or time word: 48 bits, numbered 47 down to 0. -/
abbrev Word := BitVec 48

/-- One byte of a byte-oriented layout (R5, R6). -/
abbrev Byte := BitVec 8

end Sys2Proof
end

