-- ==== Sys2Proof/Syntax.lean ====
section
/-!
DEFINITION. The commands of the block: one constructor per row of spec/opcode_table.json, in its order. Every command
carries the time word of its instant (log entry 1); the other operands are the row's own: the tile or instance it acts
on, what it writes, and what the outside shows at that instant (levels, measured values, received frames).
-/
namespace Sys2Proof

/-- What a wheel input shows at a transition (R118, R119, R122): a HALL level fully through the hysteresis band, a VR
half-wave of either polarity with its peak in mV, or a VR zero crossing through the 20 mV hysteresis, positive-going
(`rising`) or negative-going. -/
inductive WheelIn where
  | level (high : Bool)
  | vrPeak (positive : Bool) (mV : Nat)
  | vrZero (rising : Bool)
deriving DecidableEq, Repr


/-- Where a ROTATION_LOST token arrives (R154). -/
inductive TokenDest where
  | shuttle (n : Fin 64)
  | bank (b : Fin 12)
deriving DecidableEq, Repr

/-- A service tile whose CNT_CLR word is written (R483). -/
inductive SvcTile where
  | cmb (j : Fin 24)
  | map (q : Fin 2)
  | rail
deriving DecidableEq, Repr

/-- A CAN frame as the bus shows it and Table 11.8 stores it: the identifier as bits 47..19 of word 0 hold it (an 11-bit
identifier in its upper 11 bits), whether it is a remote frame, the data length code and the bytes. -/
structure CanFrame where
  id : Nat
  ide : Bool
  fdf : Bool
  brs : Bool
  esi : Bool
  rtr : Bool
  dlc : Nat
  data : List Nat
deriving DecidableEq, Repr

/-- What 100 µs of samples of a Selvedge line show (R489): the least voltage in mV and the largest line current in µA. -/
structure LineSamples where
  line : Fin 14
  mv : Nat
  ua : Nat
deriving DecidableEq, Repr

/-- A link block with a counter-clear word (11_links, "Link registers"). -/
inductive LnkBlock where
  | hspi
  | can (c : Fin 4)
  | eth (p : Fin 2)
  | str (s : Fin 8)
deriving DecidableEq, Repr

/-- What is wrong with a host frame (R513 to R515): a length other than 80 bits, a CRC that does not match, an unknown
opcode; ADDR as received where the length is right. -/
inductive FrameFault where
  | length
  | crc (addr : BitVec 16)
  | opcode (addr : BitVec 16)
deriving DecidableEq, Repr

/-- A command of the block. -/
inductive Instr where
  /-- REGISTER_WRITE (R14): A write to a register that has no row of its own sets its fields as their access codes
  allow, or sets SYS_STATUS.WREJ when rejected. -/
  | registerWrite (t : Word) (addr : Fin 65536) (value : Word)
  /-- EVENT_MERGE (R63): A reportable outcome reaches the event merge, gets the next ESN and goes to the host FIFO,
  partner, Strandline and links. -/
  | eventMerge (t : Word)
  /-- INVALID_CODE_DETECT (R38): An invalid 1-of-4 pattern held longer than 4 ns is reported to Headland and flagged
  in SYS_REGION.INVALID. -/
  | invalidCodeDetect (t : Word) (region : Fin 8)
  /-- HANDSHAKE_STALL (R43): A request unacknowledged for 16 us sets the region's STALL bit and reports to Headland. -/
  | handshakeStall (t : Word) (region : Fin 8)
  /-- CLOCK_LOST (R47): A monitored domain clock absent for 0.5 us sets its SYS_CLKLOST bit and makes every request
  to that domain complete with DOMAIN_OFF. -/
  | clockLost (t : Word) (d : Fin 7)
  /-- CROSSING_RESUME (R47): 10 us after a lost clock returns, that domain's crossings resume. -/
  | crossingResume (t : Word) (d : Fin 7)
  /-- GOVERNOR_SAMPLE (R53): Every microsecond the slack governor times each replica stage against its budget. -/
  | governorSample (t : Word) (pcts : Vector Nat 16)
  /-- VCORE_RAISE (R53): Every 2 us while a replica exceeds GOV_UP, the governor raises VCORE by 10 mV. -/
  | vcoreRaise (t : Word)
  /-- VCORE_LOWER (R54): After 1 ms with every replica below GOV_DOWN, the governor lowers VCORE by 10 mV. -/
  | vcoreLower (t : Word)
  /-- SYS_LAT_CLR (R76): A write to SYS_LAT_CLR clears both latency fields of SYS_LAT. -/
  | sysLatClr (t : Word)
  /-- LOAD (R115): The LOAD command, accepted only while the Loom is stopped and no load runs, starts a weave load. -/
  | loadWeave (t : Word)
  /-- LOAD_COMPLETE (R91): At the end of the load the device sets STATE LOADED and the level, starts the governor and
  requests a Loom start when AUTORUN is set. -/
  | loadComplete (t : Word) (refA refB : Word)
  /-- RUN (R101): The RUN command, accepted only in LOADED, requests the Loom start. -/
  | runLoom (t : Word)
  /-- LOOM_START (R507): Once any enumeration has ended and effective values are formed, the Loom starts: LOOM_RUN
  and RUNNING are set and every Warp goes to STALL. -/
  | loomStart (t : Word)
  /-- STOP (R100): The STOP command at standstill while RUNNING cancels pending pulses, turns gates and boost off,
  halts regions 0 to 6 and sets LOADED. -/
  | stop (t : Word)
  /-- MIRROR (R107): The MIRROR command copies the selected ply to flash ply n. -/
  | mirror (t : Word) (ply : Fin 4)
  /-- MIRROR_DONE (R107): The mirror copy to flash ends and MIRROR_BUSY clears. -/
  | mirrorDone (t : Word)
  /-- VERIFY (R116): The VERIFY command starts the ply check of load step 1 without selecting or applying. -/
  | verify (t : Word)
  /-- VERIFY_DONE (R116): The verify check ends and the WVE_PLYn registers show the ply states. -/
  | verifyDone (t : Word)
  /-- ERASE (R106): The ERASE command for ply n starts writing 0 to that ply's words 0 to 3. -/
  | erase (t : Word) (ply : Fin 4)
  /-- ERASE_DONE (R106): The erase of the ply header ends and the ply reads EMPTY. -/
  | eraseDone (t : Word)
  /-- WVE_CMD_REJECT (R115): A WVE_CMD code that is undefined, or PLY 0b11 with ERASE or MIRROR, has no action and
  sets CMD_REJ. -/
  | wveCmdReject (t : Word) (code : Fin 16) (ply : Fin 4)
  /-- WEAVE_STORE_WRITE (R104): A host or DMA write to a weave store word starts its programming, or is refused while
  a word is still programming. -/
  | weaveStoreWrite (t : Word) (dma : Bool) (ply : Fin 3) (addr : Fin 21845) (value : Word)
  /-- WEAVE_PROGRAM_DONE (R104): Programming of a weave store word completes within 25 us. -/
  | weaveProgramDone (t : Word)
  /-- SCRUB_SECTION_END (R109): At the end of a section's scrub read, the CRC-32 is compared with the reference, and
  a mismatch sets UPSET and reports to Headland. -/
  | scrubSectionEnd (t : Word) (k : Fin 5) (upsets : List Nat)
  /-- STORED_PLY_CHECK (R110): Every 60 s while RUNNING, each stored ply is checked and WVE_PLYn updated, with an
  event on change. -/
  | storedPlyCheck (t : Word)
  /-- WHEEL_TRANSITION (R128): A level change or VR crossing occurs on a wheel input and starts its filter. -/
  | wheelTransition (t : Word) (n : Fin 6) (w : WheelIn)
  /-- EDGE_FILTER_EXPIRY (R128): A transition that has held for FILT becomes an edge and is stamped, and the Warp
  classifies it and runs its state machine. -/
  | edgeFilterExpiry (t : Word) (n : Fin 6)
  /-- DIR_SPLIT_EXPIRY (R124): A HALL_DIR pulse still active DIR_SPLIT after its leading edge declares reverse
  rotation. -/
  | dirSplitExpiry (t : Word) (n : Fin 6)
  /-- DIR_MAX_EXPIRY (R126): A HALL_DIR pulse still active at DIR_MAX raises WIDTH_ERR. -/
  | dirMaxExpiry (t : Word) (n : Fin 6)
  /-- STALL_TIMEOUT (R159): The crank stall timeout expires, and the Warp falls back or enters STALL and sends
  ROTATION_LOST. -/
  | stallTimeout (t : Word) (n : Fin 2)
  /-- CAM_STALL_TIMEOUT (R182): A cam Warp's stall timeout expires, and it goes to NONE. -/
  | camStallTimeout (t : Word) (n : Fin 6)
  /-- WRP_CNT_CLR (R186): A write to WRPn_CNT_CLR clears all that Warp's counters. -/
  | wrpCntClr (t : Word) (n : Fin 6)
  /-- SYNC_LOST (R272): A SYNC_LOST token reaching a Shuttle cancels pending entries and closes open gates as Table
  5.4 states. -/
  | syncLost (t : Word) (n : Fin 64)
  /-- ROTATION_LOST (R306): A ROTATION_LOST token cancels pending and committed starts and ends energised pulses
  through recovery. -/
  | rotationLost (t : Word) (dst : TokenDest)
  /-- TOOTH_UPDATE_BROADCAST (R50): Once every consumer has acknowledged the previous update, the delivering Weft
  broadcasts the new tooth update. -/
  | toothUpdateBroadcast (t : Word) (n : Fin 2)
  /-- MICROTICK_HOLD (R203): The timebase reaches TIME + PERIOD before the next tooth, so the angle holds and HOLDS
  is raised. -/
  | microtickHold (t : Word) (n : Fin 2)
  /-- WFT_UPD_READ (R234): A read of WFTn_UPD0 latches the last completed update for reads of UPD1 to UPD5. -/
  | wftUpdRead (t : Word) (n : Fin 2)
  /-- WFT_SNAP_READ (R235): A read of WFTn_SNAPT captures the timebase and ANGLE_AT at that instant. -/
  | wftSnapRead (t : Word) (n : Fin 2)
  /-- WFT_CNT_CLR (R236): A write to WFTn_CNT_CLR clears WFTn_CNT and WFTn_ERR.MAXABS. -/
  | wftCntClr (t : Word) (n : Fin 2)
  /-- SHUTTLE_TOOTH_UPDATE (R256): A Shuttle takes a tooth update, tests for a window begin and recomputes and
  projects the current start or gate edge. -/
  | shuttleToothUpdate (t : Word) (n : Fin 64)
  /-- START_COMMIT (R261): At candidate minus HORIZON the start commits, or is refused by state, overspeed or
  divergence window, and the commit goes to the bank. -/
  | startCommit (t : Word) (n : Fin 64)
  /-- STOP_COMMIT (R265): Under end lock the stop commits at t_stop minus HORIZON. -/
  | stopCommit (t : Word) (n : Fin 64)
  /-- PULSE_STOP (R266): At t_stop the Shuttle issues the stop request to the bank, and the next entry becomes
  current. -/
  | pulseStop (t : Word) (n : Fin 64)
  /-- GATE_OPEN_COMMIT (R275): A gate opening commits at HORIZON before its placed time. -/
  | gateOpenCommit (t : Word) (n : Fin 64)
  /-- GATE_OPEN (R275): At its placed instant a gate opens and sends its opening token to the sequencer and
  combustion tile. -/
  | gateOpen (t : Word) (n : Fin 64)
  /-- GATE_CLOSE_COMMIT (R275): A gate closing commits at HORIZON before its placed time. -/
  | gateCloseCommit (t : Word) (n : Fin 64)
  /-- GATE_CLOSE (R280): A gate closes and sends the closing token with the tick count and LATE and INCOMPLETE flags. -/
  | gateClose (t : Word) (n : Fin 64)
  /-- GRID_TICK_COMMIT (R277): A grid tick of an open gate commits at HORIZON before its placed time. -/
  | gridTickCommit (t : Word) (n : Fin 64)
  /-- GRID_TICK (R277): A grid tick is issued with its index, subject to the 0.5 us spacing. -/
  | gridTick (t : Word) (n : Fin 64)
  /-- SHT_EN_SET (R252): Setting SHTn_CTRL.EN starts serving lists, and the next update serves only as the previous
  update. -/
  | shtEnSet (t : Word) (n : Fin 64)
  /-- SHT_EN_CLEAR (R272): Clearing EN cancels pending entries and closes open gates by Table 5.4. -/
  | shtEnClear (t : Word) (n : Fin 64)
  /-- SHT_READY_SET (R247): A writer sets READY to offer the inactive page, or the write is refused when WRITER is 1. -/
  | shtReadySet (t : Word) (n : Fin 64) (service : Bool)
  /-- SHT_CNT_CLR (R288): A write to SHTn_CNT_CLR clears that Shuttle's four counter words. -/
  | shtCntClr (t : Word) (n : Fin 64)
  /-- PULSE_OUTPUT_UPDATE (R284): A pulse output takes a tooth update, plans its edges and handles steps. -/
  | pulseOutputUpdate (t : Word) (p : Fin 2)
  /-- PULSE_OUTPUT_EDGE (R281): An encoder A, B or Z edge is issued at its placed instant, delayed to 2.5 us spacing
  when needed. -/
  | pulseOutputEdge (t : Word)
  /-- TACH_EDGE (R282): A tachometer edge is issued at its placed instant. -/
  | tachEdge (t : Word)
  /-- BANK_COMMIT (R301): A committed start reaches the placement unit, which prepares the bank and applies the
  MIN_OFF postponement. -/
  | bankCommit (t : Word) (b : Fin 12)
  /-- BANK_START_DECISION (R297): At the start's time word the placement unit drops, queues or grants the request. -/
  | bankStartDecision (t : Word) (b : Fin 12)
  /-- DEAD_TIME_EXPIRY (R291): DEAD after a gate turns off, the gates of the new drive state turn on. -/
  | deadTimeExpiry (t : Word) (b : Fin 12)
  /-- TRAP (R317): The TRAP instruction, or any trapping condition, sets OFF, sets TRAP, reports cause 6 and recovers
  with RMAX. -/
  | trapInstr (t : Word) (b : Fin 12)
  /-- DRV (R315): DRV sets a drive state and continues T after the gate change. -/
  | drv (t : Word) (b : Fin 12)
  /-- RISE (R314): RISE sets a drive state and waits for the peak threshold or T. -/
  | riseInstr (t : Word) (b : Fin 12)
  /-- FALL (R314): FALL sets a drive state and waits for current below the valley threshold or T. -/
  | fallInstr (t : Word) (b : Fin 12)
  /-- CHOP (R314): CHOP regulates between valley and peak with on-state D and off-state C until T or the stop. -/
  | chop (t : Word) (b : Fin 12) (uv : Nat)
  /-- RECOV (R312): RECOV sets OFF and puts the bank in RECOVERY. -/
  | recov (t : Word) (b : Fin 12)
  /-- CONT (R320): CONT regulates the continuous channel between thresholds taken from BNKb_CONT. -/
  | contInstr (t : Word) (b : Fin 12) (uv : Nat)
  /-- SETPK (R314): SETPK loads the peak DAC, scaled by the thermal level. -/
  | setpk (t : Word) (b : Fin 12)
  /-- SETVY (R314): SETVY loads the valley DAC, scaled by the thermal level. -/
  | setvy (t : Word) (b : Fin 12)
  /-- BLANK (R294): BLANK sets the blanking time to ARG x 5 ns. -/
  | blank (t : Word) (b : Fin 12)
  /-- JMP (R314): JMP continues at instruction ARG. -/
  | jmp (t : Word) (b : Fin 12)
  /-- BRF (R314): BRF branches to ARG when its condition of Table 6.8 holds. -/
  | brf (t : Word) (b : Fin 12) (uv : Nat)
  /-- LOOP (R314): LOOP loads the loop counter with ARG. -/
  | loopInstr (t : Word) (b : Fin 12)
  /-- FLT (R314): FLT records its code in FCODE and reports cause 8. -/
  | flt (t : Word) (b : Fin 12)
  /-- HEDDLE_TIMED_EXPIRY (R315): The time T of a timed instruction expires and the Heddle continues. -/
  | heddleTimedExpiry (t : Word) (b : Fin 12)
  /-- COMPARATOR_TRIP (R294): A peak, valley or zero comparator trips outside blanking and the Heddle changes drive
  or continues. -/
  | comparatorTrip (t : Word) (b : Fin 12) (k : Fin 3) (uv : Nat)
  /-- BLANKING_END (R294): The blanking time ends, and a comparator condition that holds counts as tripped. -/
  | blankingEnd (t : Word) (b : Fin 12) (uv : Nat)
  /-- RECOVERY_END_ZTH (R312): Recovery ends when the current is below ZTH, REND is recorded, ownership is released
  and a waiting request is granted. -/
  | recoveryEndZth (t : Word) (b : Fin 12) (uv : Nat)
  /-- RECOVERY_END_RMAX (R312): Recovery ends at T or RMAX, which sets RMAX_HIT and releases ownership. -/
  | recoveryEndRmax (t : Word) (b : Fin 12)
  /-- OVERLAP_RECOVERY_END (R303): A recovery under overlap ends at its entry + RMAX. -/
  | overlapRecoveryEnd (t : Word) (b : Fin 12)
  /-- POSTPONE_EXPIRY (R299): A waiting request reaches POSTPONE_MAX and is dropped with cause 1. -/
  | postponeExpiry (t : Word) (b : Fin 12)
  /-- CONT_ENABLE (R318): Setting BNKb_CONT.EN grants the continuous channel at once, or at the owner's recovery end. -/
  | contEnable (t : Word) (b : Fin 12)
  /-- CONT_DISABLE (R321): Clearing EN sets OFF and the Heddle continues at STOPV. -/
  | contDisable (t : Word) (b : Fin 12)
  /-- CONT_SETPOINT_WRITE (R322): A write of SET or BAND loads new thresholds at once, or is refused when WRITER is
  1. -/
  | contSetpointWrite (t : Word) (b : Fin 12) (service : Bool) (set : Fin 1024) (band : Fin 256)
  /-- CONT_DWELL_END (R320): The minimum dwell of a CONT drive state ends, and a pending trip takes place. -/
  | contDwellEnd (t : Word) (b : Fin 12) (uv : Nat)
  /-- BNK_CNT_CLR (R328): A write to BNKb_CNT_CLR clears the bank counters, WMAX and, in banks 0, 4 and 8, BSTg_CNT. -/
  | bnkCntClr (t : Word) (b : Fin 12)
  /-- BOOST_ENABLE (R324): A boost controller is enabled and starts switching once MODE, LOOM_RUN and Headland RUN
  all hold. -/
  | boostEnable (t : Word) (g : Fin 3)
  /-- BOOST_RAIL_SAMPLE (R324): Every 10 us the controller updates VRAIL, READY, LOW and OV. -/
  | boostRailSample (t : Word) (g : Fin 3) (v : Fin 4096)
  /-- BOOST_OV_PERSIST (R356): OV held for 1 ms reports a boost overvoltage to Headland. -/
  | boostOvPersist (t : Word) (g : Fin 3)
  /-- OPEN_LOAD_CHECK (R332): At OL_T after the entry gate change, a current below OL_ITH declares OPEN_ON. -/
  | openLoadCheck (t : Word) (b : Fin 12) (uv : Nat)
  /-- LS_DESAT (R333): A drain at or above VDS_TH for 0.5 us with the low side on declares LS_DESAT. -/
  | lsDesat (t : Word) (b : Fin 12) (mv : Nat)
  /-- HS_DESAT (R335): High-side desaturation held for 0.2 us turns the high side off and declares HS_DESAT. -/
  | hsDesat (t : Word) (b : Fin 12) (mv : Nat)
  /-- CROSS_CHECK_FAIL (R336): A non-owner drain below 4.0 V for 1 us sets SUSPECT and requests an early off-state
  test. -/
  | crossCheckFail (t : Word) (b : Fin 12) (c : Fin 4) (mv : Nat)
  /-- OFFT_PERIOD (R338): An OFFT_PER period ends, raising OFFT_MISS when no test has completed, and a new period
  starts. -/
  | offtPeriod (t : Word) (b : Fin 12)
  /-- OFFT_START (R338): With the bank idle and no request or commit, the off-state test starts its bias. -/
  | offtStart (t : Word) (b : Fin 12)
  /-- OFFT_DECIDE (R341): At 60 us the off-state test removes the bias and decides its verdict by Table 7.3. -/
  | offtDecide (t : Word) (b : Fin 12) (low high : Fin 16) (blim : Bool)
  /-- RESIDUAL (R342): Current at or above ZTH or CL_LIM for RESID_T after a recovery declares RESIDUAL. -/
  | residualCurrent (t : Word) (b : Fin 12) (uv : Nat)
  /-- LATCH_CLEAR (R352): A host write of 1 to LATCH clears a channel or bank latch and reloads the retry count. -/
  | latchClear (t : Word) (b : Fin 12) (c : Option (Fin 4))
  /-- TAIL_SAMPLE (R360): Every 0.5 us during a tail, the tail converter samples the shunt and updates the means. -/
  | tailSample (t : Word) (b : Fin 12) (v : Fin 1024)
  /-- TAIL_WINDOW_END (R359): The tail window CLW expires without a closure, giving NOT_FOUND. -/
  | tailWindowEnd (t : Word) (b : Fin 12)
  /-- THERMAL_STEP (R365): The coil thermal model steps at a recovery end or every 10 ms. -/
  | thermalStep (t : Word) (b : Fin 12) (c : Fin 4)
  /-- BNK_DCNT_CLR (R372): A write to BNKb_DCNT_CLR clears BNKb_DCNT. -/
  | bnkDcntClr (t : Word) (b : Fin 12)
  /-- CONVERSION_SAMPLE (R375): A conversion samples its input on a slice at its sample instant. -/
  | conversionSample (t : Word) (k : Fin 16)
  /-- CONVERSION_COMPLETE (R373): A conversion completes 375 ns later, is corrected and is written to the buffer and
  ADC_INi. -/
  | conversionComplete (t : Word) (k : Fin 16) (raw : Int)
  /-- OPEN_WIRE_SETTLE (R402): An open-wire settle time OW_SET expires and the next step of the test runs. -/
  | openWireSettle (t : Word) (k : Fin 16)
  /-- ROTATION_START (R381): Every CAL_PER a spare rotation starts for the next slot. -/
  | rotationStart (t : Word)
  /-- SLICE_SWITCH_START (R382): When the slot is free and the spare is OK, the switch of the slot to the spare
  begins. -/
  | sliceSwitchStart (t : Word)
  /-- SLICE_SWITCH_END (R385): The 1 us switch ends, the relieved slice becomes the spare and its calibration starts. -/
  | sliceSwitchEnd (t : Word)
  /-- ROTATION_ABANDON (R384): No switching instant occurred within ROT_WAIT, so the rotation is abandoned and
  ROT_SKIP is raised. -/
  | rotationAbandon (t : Word)
  /-- SPARE_CAL_VERDICT (R385): Spare calibration ends with new O_p and G_p and a verdict of OK or FAILED. -/
  | spareCalVerdict (t : Word) (agnd refp refn : Int)
  /-- SEQ_GO (R390): A host write of GO triggers a HOST pass. -/
  | seqGo (t : Word) (k : Fin 16)
  /-- SEQ_EN (R390): Writing SEQk_CTRL.EN enables or disables trigger acceptance and starts the TIMER period. -/
  | seqEn (t : Word) (k : Fin 16) (en : Bool)
  /-- SEQ_TIMER (R390): A TIMER sequencer's period instant triggers a pass. -/
  | seqTimer (t : Word) (k : Fin 16)
  /-- SEQ_GATE_OPEN (R395): An opening token from SRC_SHT starts a window or triggers a GATE pass. -/
  | seqGateOpen (t : Word) (k : Fin 16)
  /-- SEQ_GRID_TICK (R395): A grid tick triggers a pass, or fills the pending slot, or is discarded with OVERRUN and
  0x8000 fills. -/
  | seqGridTick (t : Word) (k : Fin 16)
  /-- SEQ_GATE_CLOSE (R398): A closing token ends a sequencer window. -/
  | seqGateClose (t : Word) (k : Fin 16)
  /-- PASS_START (R389): A granted pass takes its slot and starts its conversions. -/
  | passStart (t : Word) (l : Fin 8)
  /-- PASS_END (R389): A pass ends, releasing its slot, starting a pending pass and triggering CHAIN sequencers. -/
  | passEnd (t : Word) (k : Fin 16)
  /-- WINDOW_FINALISE (R398): Once no pass runs or is pending after a close, the window is finalised, SEQk_WIN
  written and the combustion tile signalled. -/
  | windowFinalise (t : Word) (k : Fin 16)
  /-- SEQ_CNT_CLR (R427): Writing SEQk_CTRL.CLR clears SEQk_CNT0 and SEQk_CNT1. -/
  | seqCntClr (t : Word) (k : Fin 16)
  /-- WINDOW_CROSSING (R413): A window monitor input crosses LO or HI, changing its class, latch, trip count and
  event. -/
  | windowCrossing (t : Word) (m : Fin 8) (mv : Fin 65536)
  /-- WM_BLANK_END (R417): BLK_T after blanking ends, the monitor takes its current class. -/
  | wmBlankEnd (t : Word) (m : Fin 8)
  /-- WM_LATCH_CLEAR (R419): A host write of 1 to LATCHED clears the latch unless the class is still outside. -/
  | wmLatchClear (t : Word) (m : Fin 8)
  /-- PERIOD_TIMER_EDGE (R416): A period timer ends its HIGH or LOW phase and changes level. -/
  | periodTimerEdge (t : Word) (p : Fin 4)
  /-- PT_ENABLE (R416): Writing PTp_CFG.EN 1 starts the period timer high. -/
  | ptEnable (t : Word) (p : Fin 4)
  /-- WM_CNT_CLR (R420): A write to WMm_CNT_CLR clears WMm_CNT. -/
  | wmCntClr (t : Word) (m : Fin 8)
  /-- BANK_SELFTEST_DONE (R426): A bank comparator self-test ends, setting FAILMASK and latching the bank on failure. -/
  | bankSelftestDone (t : Word) (b : Fin 12) (outs : Vector (Fin 256) 4)
  /-- MONITOR_SELFTEST (R425): Every ST_PER a window or supply monitor self-test starts. -/
  | monitorSelftest (t : Word)
  /-- MONITOR_SELFTEST_DONE (R426): A monitor self-test ends, setting STF and reporting to Headland on failure. -/
  | monitorSelftestDone (t : Word) (low high : Fin 16)
  /-- PIN_TIMEOUT (R430): A pressure input's source has not delivered for 5 ms, so the input becomes not valid. -/
  | pinTimeout (t : Word) (p : Fin 4)
  /-- ANALYSIS_START (R431): A finalise signal starts a combustion analysis, or is held pending or discarded with
  OVERRUN. -/
  | analysisStart (t : Word) (j : Fin 24)
  /-- RECORD_COMMIT (R448): The analysis ends and its result record is written to the ring and given its ESN. -/
  | recordCommit (t : Word) (j : Fin 24)
  /-- TRIM_UPDATE (R449): A VALID record updates the timing and balance trims of its cylinder. -/
  | trimUpdate (t : Word)
  /-- LIST_BUILD (R459): A quantity mapping tile builds a cylinder's pulse list into the inactive page and sets
  READY. -/
  | listBuild (t : Word) (q : Fin 2) (k : Fin 24)
  /-- DEMAND_SWAP (R454): A write of SVC_DEM.SWAP makes the other demand page active and sets VALID. -/
  | demandSwap (t : Word)
  /-- DEMAND_TIMEOUT (R455): DEM_TMO cycles without a swap set DEM_STALE and report an event. -/
  | demandTimeout (t : Word)
  /-- DRIFT_UPDATE (R470): A FOUND closure of a long MAIN or GAS pulse updates CD_F and DRIFT. -/
  | driftUpdate (t : Word)
  /-- RAIL_LOOP_STEP (R474): Every RP_PER the rail loop computes u and writes SET of the continuous bank. -/
  | railLoopStep (t : Word)
  /-- SETPOINT_RAMP (R473): Each millisecond p_set moves toward RP_SET by at most RAMP. -/
  | setpointRamp (t : Word)
  /-- PIN_DISAGREE (R472): PIN0 and PIN1 differing by more than RP_DEV for 10 ms set DISAGREE. -/
  | pinDisagree (t : Word)
  /-- RAIL_OVERPRESSURE (R476): p_meas at or above RP_MAX for 10 ms sets OVP and reports to Headland. -/
  | railOverpressure (t : Word)
  /-- OVERSPEED_UPDATE (R477): At each tooth update the overspeed tile forms the speed, sets or clears CUT and
  reports TRIP. -/
  | overspeedUpdate (t : Word)
  /-- SERVICE_CNT_CLR (R483): A write to a service tile's CNT_CLR word clears its counters. -/
  | serviceCntClr (t : Word) (which : SvcTile)
  /-- ENUM (R495): The ENUM command while the Loom is stopped starts an identity enumeration, otherwise sets CMD_REJ. -/
  | enumIdn (t : Word)
  /-- IDN_CMD_INVALID (R495): An undefined IDN_CMD code has no action and sets CMD_REJ. -/
  | idnCmdInvalid (t : Word) (code : Fin 16)
  /-- SELVEDGE_LINE_READY (R489): A line held at H for 100 us is ready for its first reset. -/
  | selvedgeLineReady (t : Word) (x : LineSamples)
  /-- SELVEDGE_LINE_SHORT (R489): A line not ready within 1 ms takes fault SHORT. -/
  | selvedgeLineShort (t : Word) (l : Fin 14)
  /-- SELVEDGE_RESET (R490): The controller drives a 160 us reset and wake on a line. -/
  | selvedgeReset (t : Word) (l : Fin 14)
  /-- ROLL_CALL (R492): ROLL_CALL collects the PRESENT answers of the sites, with COLLIDE marking DUP. -/
  | rollCall (t : Word) (l : Fin 14) (base : Int) (ua : Vector Int 16)
  /-- SELECT_SITE (R492): SELECT_SITE reads the mark and the serial of one site's memory. -/
  | selectSite (t : Word) (l : Fin 14) (base : Int) (ua : Vector Int 49)
  /-- SELVEDGE_READ (R492): READ collects record bytes from the selected memory. -/
  | selvedgeRead (t : Word) (l : Fin 14) (base : Int) (ua : List Int)
  /-- ENUM_DONE (R497): An enumeration ends and each site takes its state against IDN_EXPx. -/
  | enumDone (t : Word)
  /-- BACKGROUND_ROLL_CALL (R510): Every RC_PER while running, each line performs a roll call and reports lost or
  found memories. -/
  | backgroundRollCall (t : Word) (l : Fin 14) (base : Int) (ua : Vector Int 16)
  /-- HOST_READ (R515): A valid host READ frame reads ADDR and returns the data in the next response. -/
  | hostRead (t : Word) (addr : Fin 65536) (late : Bool)
  /-- HOST_WRITE (R515): A valid host WRITE frame writes DATA to ADDR. -/
  | hostWrite (t : Word) (addr : Fin 65536) (value : Word) (late : Bool)
  /-- HOST_NOP (R515): A host NOP frame makes no access and returns a response. -/
  | hostNop (t : Word) (addr : Fin 65536)
  /-- HOST_FRAME_ERROR (R514): A host frame of wrong length, bad CRC or unknown opcode is not executed and its status
  is recorded. -/
  | hostFrameError (t : Word) (f : FrameFault)
  /-- EVENT_POP (R521): A read of SYS_EVPOP returns, and on a good response consumes, the next event word. -/
  | eventPop (t : Word) (late : Bool)
  /-- CAN_TX_REQUEST (R528): A write of 1 to a TXREQ bit makes a transmit buffer pending. -/
  | canTxRequest (t : Word) (c : Fin 4) (m : Fin 16)
  /-- CAN_TX_DONE (R528): A CAN frame has been sent and its TXREQ bit clears. -/
  | canTxDone (t : Word) (c : Fin 4) (sof : Word) (fails : Nat)
  /-- CAN_RX_FRAME (R529): A received CAN frame that matches a filter enters the receive FIFO, or raises RXOVF. -/
  | canRxFrame (t : Word) (c : Fin 4) (f : CanFrame) (sof : Word) (errs : Nat)
  /-- CAN_RX_ACK (R529): A write of RXACK frees the receive entry at RXHEAD. -/
  | canRxAck (t : Word) (c : Fin 4)
  /-- CAN_BUS_OFF (R526): A controller enters bus-off by fault confinement and reports an event. -/
  | canBusOff (t : Word) (c : Fin 4)
  /-- CAN_BUS_ON (R526): Bus-off recovery after 128 x 11 recessive bits ends and the controller returns error-active. -/
  | canBusOn (t : Word) (c : Fin 4)
  /-- CAN_BUSOFF_REQ (R526): A write of BUSOFF_REQ starts bus-off recovery when AUTO_REC is 0. -/
  | canBusoffReq (t : Word) (c : Fin 4)
  /-- PHY_LINK_POLL (R532): Every 10 ms a port reads the PHY link status over MDIO. -/
  | phyLinkPoll (t : Word) (p : Fin 2) (up : Bool)
  /-- DATAGRAM_START (R536): A port starts the earliest ready datagram no sooner than PACE after its previous one. -/
  | datagramStart (t : Word) (p : Fin 2)
  /-- STREAM_FLUSH (R534): FLUSH_T after its first item, a partly filled stream datagram becomes ready. -/
  | streamFlush (t : Word) (k : Fin 8)
  /-- ETH_RX_FRAME (R531): A received Ethernet frame is counted and discarded. -/
  | ethRxFrame (t : Word) (p : Fin 2)
  /-- SENT_FRAME (R539): A SENT frame ends and is accepted or counted as failed. -/
  | sentFrame (t : Word) (n : Fin 8) (fall : Word) (sync : Nat) (pulses : List Nat)
  /-- SENT_STALE (R540): 5 ms without an accepted frame sets STALE and reports an event. -/
  | sentStale (t : Word) (n : Fin 8)
  /-- FLASH_READ (R542): LNK_FCMD READ copies bytes from flash into working memory. -/
  | flashRead (t : Word) (faddr : Fin 16777216) (len : Fin 256)
  /-- FLASH_PROGRAM (R542): LNK_FCMD PROGRAM writes bytes from working memory into flash outside the mirror area. -/
  | flashProgram (t : Word) (faddr : Fin 16777216) (len : Fin 256)
  /-- FLASH_ERASE (R542): LNK_FCMD ERASE erases the 4 KiB sector holding FADDR outside the mirror area. -/
  | flashErase (t : Word) (faddr : Fin 16777216)
  /-- FLASH_CMD_DONE (R541): A flash command completes and BUSY clears. -/
  | flashCmdDone (t : Word)
  /-- JTAG_EXTEST (R544): The EXTEST instruction takes effect while the Loom is stopped, otherwise BYPASS and
  REFUSED. -/
  | jtagExtest (t : Word)
  /-- JTAG_IDCODE (R543): The IDCODE instruction selects the identification register. -/
  | jtagIdcode (t : Word)
  /-- JTAG_SAMPLE_PRELOAD (R543): The SAMPLE/PRELOAD instruction selects the boundary register for sampling. -/
  | jtagSamplePreload (t : Word)
  /-- JTAG_HIGHZ (R544): The HIGHZ instruction takes effect only while the Loom is stopped. -/
  | jtagHighz (t : Word)
  /-- JTAG_CLAMP (R544): The CLAMP instruction takes effect only while the Loom is stopped. -/
  | jtagClamp (t : Word)
  /-- JTAG_BYPASS (R543): BYPASS, or any unlisted code, selects the bypass register. -/
  | jtagBypass (t : Word)
  /-- JTAG_DBG_ACCESS (R545): Update-DR under DBG_ACCESS executes an 80-bit frame as bus master 1. -/
  | jtagDbgAccess (t : Word) (op : Fin 256) (addr : Fin 65536) (crc : Fin 256) (value : Word)
  /-- DMA_GO (R554): A write of GO triggers the channel from every source. -/
  | dmaGo (t : Word) (c : Fin 16)
  /-- DMA_TRIGGER (R555): A trigger from the selected source loads the descriptor, fills the pending slot or is
  counted lost. -/
  | dmaTrigger (t : Word) (c : Fin 16)
  /-- DMA_DESCRIPTOR_LOAD (R551): The descriptor fetch completes and its check passes or halts the channel with
  LOAD_ERR. -/
  | dmaDescriptorLoad (t : Word) (c : Fin 16)
  /-- DMA_BEAT_RESPONSE (R560): A beat response arrives and is done, repeated, retried, paused or halts the channel. -/
  | dmaBeatResponse (t : Word) (c : Fin 16) (busy : Bool)
  /-- DMA_STOP (R563): A write of STOP stops the channel at a descriptor boundary. -/
  | dmaStop (t : Word) (c : Fin 16)
  /-- DMA_RESUME (R565): A write of RESUME in STOPPED or HALTED returns the channel to WAIT. -/
  | dmaResume (t : Word) (c : Fin 16)
  /-- DMA_ENABLE (R567): Setting EN moves the channel from IDLE to WAIT. -/
  | dmaEnable (t : Word) (c : Fin 16)
  /-- DMA_DISABLE (R567): Clearing EN acts as STOP and leads to IDLE. -/
  | dmaDisable (t : Word) (c : Fin 16)
  /-- DMA_DOMAIN_RETURN (R569): The refusing domain returns and a DOMAIN_PAUSE channel reloads its descriptor. -/
  | dmaDomainReturn (t : Word) (c : Fin 16)
  /-- COMMIT_TIMER (R584): COMMIT_PER of running time elapses and requests a full commit. -/
  | commitTimer (t : Word)
  /-- STRANDLINE_COMMIT (R584): The host COMMIT command requests a full commit. -/
  | strandlineCommit (t : Word)
  /-- FULL_COMMIT (R586): A requested or pending commit starts writing records after any running commit ends. -/
  | fullCommit (t : Word)
  /-- RECORD_WRITE_DONE (R586): A record's words and MARK have been written and the next record starts. -/
  | recordWriteDone (t : Word)
  /-- COIL_TEMP_BIN (R576): Every 10 ms the COIL_TEMP histogram bins each site's modelled temperature. -/
  | coilTempBin (t : Word)
  /-- BOOST_BIN (R576): Every 1 ms the BOOST histogram bins each ready controller's rail. -/
  | boostBin (t : Word)
  /-- RUN_SECONDS (R578): Each second of running with angle raises COUNTERS word 1. -/
  | runSeconds (t : Word)
  /-- STRANDLINE_READY (R590): The recovery scan ends and REC_STAT.READY sets. -/
  | strandlineReady (t : Word)
  /-- PROEX_ALIGN (R601): The receiver aligns on 16 K28.5 characters and LINK goes from DOWN to TRAIN. -/
  | proexAlign (t : Word)
  /-- PROEX_TOOTH_FRAME (R617): A TOOTH frame is received, fed to Weft 1 in BORROWED and compared with the own angle. -/
  | proexToothFrame (t : Word) (fseq : Fin 256) (p : List Nat)
  /-- PROEX_BEAT_FRAME (R603): A BEAT frame is received, updating LINK, CHECK, time offset and partner state. -/
  | proexBeatFrame (t : Word) (fseq : Fin 256) (p : List Nat) (arrival : Word)
  /-- PROEX_EVENT_FRAME (R629): A partner EVENT frame enters the pair FIFO. -/
  | proexEventFrame (t : Word) (fseq : Fin 256) (p : List Nat)
  /-- PROEX_RECORD_FRAME (R609): A partner RECORD frame is stored in the mirror area. -/
  | proexRecordFrame (t : Word) (fseq : Fin 256) (p : List Nat)
  /-- PROEX_BLOCK_FRAME (R611): A BLOCK frame stores mirrored table words and tracks series completeness. -/
  | proexBlockFrame (t : Word) (fseq : Fin 256) (p : List Nat)
  /-- PROEX_FRAME_ERROR (R599): A frame with a bad header or bad characters is discarded and counted. -/
  | proexFrameError (t : Word) (header : Bool)
  /-- BEAT_DUE (R602): Every 100 us a BEAT frame falls due for transmission. -/
  | beatDue (t : Word)
  /-- PROEX_FRAME_SEND (R597): The next normal frame by priority starts on the link, or a TOOTH frame suspends one. -/
  | proexFrameSend (t : Word)
  /-- BLOCK_SERIES_DUE (R609): A signature, profile or Strandline BLOCK series falls due for sending. -/
  | blockSeriesDue (t : Word) (id : Fin 4)
  /-- BEAT_TIMEOUT (R601): 300 us without an accepted BEAT sets LINK DOWN and reports a Proex loss. -/
  | beatTimeout (t : Word)
  /-- MAP_TIMEOUT (R606): 300 us without an accepted offset sample clears MAP_VALID. -/
  | mapTimeout (t : Word)
  /-- MIRROR_TOOTH_TIMEOUT (R614): No TOOTH frame within the stall limit makes the partner's angle invalid. -/
  | mirrorToothTimeout (t : Word)
  /-- DIV_CLR (R620): A write of DIV_CLR ends BOTH_STOP. -/
  | divClr (t : Word)
  /-- PAIR_EVENT_POP (R629): A read of PRX_PEVPOP returns the next word of the oldest released pair-FIFO entry. -/
  | pairEventPop (t : Word) (late : Bool)
  /-- SUPPLY_MONITOR_TRIP (R634): A supply falls below its monitor threshold and the monitor becomes active. -/
  | supplyMonitorTrip (t : Word) (m : Fin 6)
  /-- SUPPLY_MONITOR_RELEASE (R634): A supply rises above threshold plus hysteresis and the monitor becomes inactive. -/
  | supplyMonitorRelease (t : Word) (m : Fin 6)
  /-- SENSOR_SUPPLY_LOW (R634): SM5 active for 100 us sets SENS_LOW and reports an event. -/
  | sensorSupplyLow (t : Word)
  /-- EBB_ACTIVE (R635): SM0 active for 10 us activates the Ebb warning, which counts, reports and requests a commit. -/
  | ebbActive (t : Word) (vbat : Fin 4096)
  /-- EBB_INACTIVE (R635): SM0 inactive for 10 us clears the Ebb warning. -/
  | ebbInactive (t : Word) (vbat : Fin 4096)
  /-- LOW_WATER_RESET (R639): A Low-water reset turns gates off, drops SAFE_N and holds the Loom in reset. -/
  | lowWaterReset (t : Word)
  /-- LOW_WATER_END (R640): 100 us after SM1 to SM4 are inactive the Low-water reset ends. -/
  | lowWaterEnd (t : Word)
  /-- POWER_ON_RESET (R641): VBAT rising through 6.0 V after below 4.0 V causes a POR and the start-up sequence. -/
  | powerOnReset (t : Word)
  /-- PIN_RESET (R645): RESET_N held low resets the device. -/
  | pinReset (t : Word)
  /-- PIN_RESET_END (R645): 100 us after RESET_N goes high the reset ends. -/
  | pinResetEnd (t : Word)
  /-- SOFTWARE_RESET (R644): A write of 0x5EA1 to SYS_RST.KEY under the allowed condition resets the device. -/
  | softwareReset (t : Word) (key : Fin 65536)
  /-- RESET_END (R642): A reset ends and the weave load, enumeration, Strandline recovery and Headland self-test
  start. -/
  | resetEnd (t : Word) (side mirror : Bool)
  /-- START_LATE_TIMEOUT (R649): 40 ms without sync-ready sets SYS_START.LATE and reports the start event. -/
  | startLateTimeout (t : Word)
  /-- DOMAIN_OFF_REQUEST (R653): Clearing a SYS_PWR.ON bit puts the domain into DRAIN. -/
  | domainOffRequest (t : Word) (d : Fin 6)
  /-- DOMAIN_ON_REQUEST (R656): Setting an ON bit wakes an OFF domain or returns a draining one to ON. -/
  | domainOnRequest (t : Word) (d : Fin 6)
  /-- DRAIN_END (R654): A draining domain has no admitted work left and goes OFF. -/
  | drainEnd (t : Word) (d : Fin 6)
  /-- DRAIN_TIMEOUT (R570): 200 us into DRAIN the domain goes OFF and remaining beats tear their channels. -/
  | drainTimeout (t : Word) (d : Fin 6)
  /-- DOMAIN_WAKE_DONE (R656): A WAKING domain reaches ON after its wake time. -/
  | domainWakeDone (t : Word) (d : Fin 6)
  /-- STANDBY_REQUEST (R658): A write of 0x5EA1 to STBY_KEY at standstill starts standby entry. -/
  | standbyRequest (t : Word) (key : Fin 65536)
  /-- STANDBY_COMPLETE (R660): After the commit and drains, CORE switches off and the device is in standby. -/
  | standbyComplete (t : Word)
  /-- WAKE_INPUT (R662): The WAKE input changes level and starts its filter. -/
  | wakeInput (t : Word) (level : Bool)
  /-- WAKE_FILTER_EXPIRY (R662): WAKE held a new level for WAKE_FILT, updating WAKE_LVL and waking from standby. -/
  | wakeFilterExpiry (t : Word)
  /-- WAKE_TIMER (R659): WAKE_T seconds in standby cause a wake reset. -/
  | wakeTimer (t : Word)
  /-- HEADLAND_CAUSE (R667): Headland detects a cause and applies the highest reaction, with its cut, SAFE_N and
  state. -/
  | headlandCause (t : Word)
  /-- CUT_HOLD_EXPIRY (R668): CUT_HOLD after its condition ends, a CUT cause lapses and Headland can return to RUN. -/
  | cutHoldExpiry (t : Word)
  /-- SAFE_RELEASE (R669): A write of RELEASE moves SAFE to RUN when its conditions hold, otherwise sets CMD_REJ. -/
  | safeRelease (t : Word) (above : Fin 4096)
  /-- HEADLAND_SELFTEST_DONE (R671): Headland's start self-test ends, passing or setting STFAIL. -/
  | headlandSelftestDone (t : Word) (fails : Fin 32)
  /-- HEADLAND_RUN_ENTRY (R663): With the self-test passed and LOOM_RUN 1, Headland enters RUN and raises SAFE_N. -/
  | headlandRunEntry (t : Word)
  /-- CLOCK_MONITOR_WINDOW (R673): Each 50 us window the clock monitor compares TB and XO counts with BRC. -/
  | clockMonitorWindow (t : Word) (tb xo : Nat)
  /-- HOUSEKEEPING_SAMPLE (R674): Every 1 ms Headland samples VBAT and die temperature into SAF_HK. -/
  | housekeepingSample (t : Word) (vbat : Fin 4096) (tdie : Fin 65536)
  /-- SAFE_N_MISMATCH (R676): SAFE_N readback differing from its drive for 10 us declares code 23. -/
  | safeNMismatch (t : Word)
  /-- SAFE_IN_CHANGE (R677): A filtered fall of SAFE_IN in a pair starts code 22. -/
  | safeInChange (t : Word) (level : Bool)
  /-- CLOCK_RETURN (R47): The clock of a monitored domain returns after an absence, which clears its SYS_CLKLOST bit
  and starts the 10 us wait before its crossings resume. -/
  | clockReturn (t : Word) (d : Fin 7)
  /-- SAF_CNT_CLR (R670): A write to SAF_CNT_CLR clears SAF_CNT and SYS_SUPPLY.EBB_CNT, and an increment at the same
  instant is counted after the clear. -/
  | safCntClr (t : Word)
  /-- PRX_CNT_CLR (R600): A write to PRX_CNT_CLR clears PRX_CNT0, PRX_CNT1, PRX_DIFF.MAXABS and PRX_PEVSTAT.LOST. -/
  | prxCntClr (t : Word)
  /-- REC_CNT_CLR (R584): A write to REC_CNT_CLR clears the Strandline SUPP and EVICT counters. -/
  | recCntClr (t : Word)
  /-- DMA_CNT_CLR (R555): A write to a DMA channel's CNT_CLR word clears TRIG_OVR, TRIG_LOST and HALTS of that
  channel. -/
  | dmaCntClr (t : Word) (c : Fin 16)
  /-- LNK_CNT_CLR (R514): A write to a link block's CNT_CLR word (host SPI, CAN, Ethernet port or stream) clears that
  block's counters. -/
  | lnkCntClr (t : Word) (which : LnkBlock)
deriving DecidableEq, Repr

end Sys2Proof
end

