-- ==== Sys2Proof/Decode.lean ====
section
/-!
DEFINITION. The command that a word spells by the bits of spec/opcode_table.json. The table gives no row any bits: the
commands are register accesses, link frames, timer expiries and events of pins, which the spec gives no encoding.
-/
namespace Sys2Proof

/-- No row of the table gives bits, so no word spells a command (log entry 5). -/
def decodeTableWord (_nbits _w : Nat) : Option Instr := none

end Sys2Proof
end

