-- ==== Sys2Proof/Config.lean ====
section
/-!
DEFINITION. What the spec leaves open and each device fixes. Every constant here is opaque and has no body:
nothing in Lean can evaluate it, so a statement holds for every value it may have. notes/assumptions/ names each.
-/
namespace Sys2Proof

/-- Whether a tile type (Table 2.7 code) has a port: `out` for an output port. The silicon fixes the port lists and
the spec does not print them (Table 2.8). UNVERIFIED; safe. -/
opaque Config.hasPort : (type : Nat) → (out : Bool) → (port : Nat) → Bool

/-- A fresh 48-bit value that the spec leaves undefined; the step applies it to the counter `State.fresh`. Safe. -/
opaque Config.freeWord : Nat → Word

/-- What word `a` of trace memory holds after its domain has lost its contents for the `n`-th time: Table 14.4 leaves it
undefined. Safe. -/
opaque Config.lostTrace : (n : Nat) → (a : Nat) → Word

/-- What a tile takes for word `a` of trace memory when its access completes with DOMAIN_OFF (R653, R655), which carries no word; `n` is
the counter `State.fresh`. Safe. -/
opaque Config.offWord : (n : Nat) → (a : Nat) → Word

/-- What cell of a ball the boundary register holds: no command of the table shifts it. Safe. -/
opaque Config.boundaryCell : (row : Nat) → (col : Nat) → Bool

/-- The factory offset and gain trims of analogue input `i` (R379, Table 10.13 "factory"). Safe. -/
opaque Config.factoryOfs : (i : Nat) → BitVec 16
opaque Config.factoryGain : (i : Nat) → BitVec 16

/-- The factory linearity trim applied to a raw result (R379); its form is not given. Safe. -/
opaque Config.linearity : (slice : Nat) → (raw : Int) → Int

/-- Where the spec holds a real value to a unit and does not say how it is rounded: whether to the unit above. Safe. -/
opaque Config.roundsUp : Rat → Bool

/-- How long comparator `who` takes to change its mode when the change begins at an instant: R407 bounds it and fixes no value;
the model cuts it to the bound. Safe. -/
opaque Config.modeDelay : (who : Nat) → (since : Word) → Nat

/-- Which of the four edges of the quadrature cycle lies at Z_ANG (R281). Safe. -/
opaque Config.encPhase : Nat

end Sys2Proof
end

