-- ==== Sys2Proof/Machine/Operands.lean ====
section
/-!
DEFINITION. The number formats of the spec and the arithmetic on them that several chapters share: modular angle and
time words (R22, R25), rounding to nearest with halves up (R23, R26, R207), saturation, signed fields (R3), bytes of
words (R5, R6), the CRCs (R82, R512) and windows (R8 to R11).
-/
namespace Sys2Proof.Machine

/-- 2^48, the span of an angle or time word. -/
abbrev W48 : Nat := 281474976710656

/-- One microsecond and one millisecond in time-word LSB of 0.625 ns. -/
abbrev us : Nat := 1600
abbrev ms : Nat := 1600000

/-- The signed difference of two words, in [-2^47, 2^47) (R22, R25). -/
def sdiff (a b : Word) : Int := (a - b).toInt

/-- Time elapsed from `a` to `b`, modulo 2^48 (R25). -/
def elapsed (a b : Word) : Nat := (b - a).toNat

/-- A word from an integer, modulo 2^48. -/
def wordOf (x : Int) : Word := BitVec.ofInt 48 x

/-- `a` is at or after `b` (R25). -/
def notBefore (a b : Word) : Bool := decide (0 ≤ sdiff a b)

/-- A word moved by a number of LSB. -/
def addW (a : Word) (n : Nat) : Word := a + BitVec.ofNat 48 n

/-- num / den rounded to the nearest integer, halves up; 0 for a denominator of 0. -/
def rdiv (num : Int) (den : Nat) : Int := (2 * num + den) / (2 * den)

/-- A rational rounded to the nearest integer, halves up (R207). -/
def roundUp (q : Rat) : Int := (q + 1 / 2).floor

/-- Clamps to a closed range. -/
def clampI (lo hi x : Int) : Int := if x < lo then lo else if hi < x then hi else x

/-- An unsigned field of `w` bits read as two's complement (R3). -/
def signed (w : Nat) (v : Nat) : Int := if v < 2 ^ (w - 1) then (v : Int) else (v : Int) - 2 ^ w

/-- A two's complement field of `w` bits holding `x`. -/
def unsign (w : Nat) (x : Int) : Nat := (x % (2 ^ w : Int)).toNat

/-- `x` saturated to a signed field of `w` bits. -/
def satS (w : Nat) (x : Int) : Int := clampI (-(2 ^ (w - 1) : Int)) (2 ^ (w - 1) - 1) x

/-- `x` saturated to an unsigned field of `w` bits. -/
def satU (w : Nat) (x : Nat) : Nat := min x (2 ^ w - 1)

/-- An integer saturated to an unsigned field of `w` bits. -/
def satUI (w : Nat) (x : Int) : Nat := satU w x.toNat

/-- The bits `lo .. lo + w - 1` of a number. -/
def bitsOf (v lo w : Nat) : Nat := v / 2 ^ lo % 2 ^ w

/-- Half-open window test with wrap through 0 (R8, R10, R11). -/
def inWindow (v op cl : Nat) : Bool :=
  if op = cl then false else if op < cl then decide (op ≤ v ∧ v < cl) else decide (op ≤ v ∨ v < cl)

/-- Byte `k`, 0 to 5, of a word, bits 47..40 first (R6). -/
def byteOf (w : Word) (k : Nat) : Nat := w.toNat / 2 ^ (8 * (5 - k)) % 256

/-- The bytes of a list of words (R6). -/
def wordBytes (ws : List Word) : List Nat := ws.flatMap (fun w => (List.range 6).map (byteOf w))

/-- A number stored most significant byte first (R5). -/
def beNat (bs : List Nat) : Nat := bs.foldl (fun a b => a * 256 + b) 0

/-- The six bytes from `n` of a byte list as a word; missing bytes are 0. -/
def wordAt (bs : List Nat) (n : Nat) : Word :=
  BitVec.ofNat 48 (beNat ((List.range 6).map (fun k => bs.getD (n + k) 0)))

/-- One shift of the reflected CRC-32 (R82). -/
def crc32Shift (c : Nat) : Nat := if c % 2 = 1 then (c / 2) ^^^ 0xEDB88320 else c / 2

/-- CRC-32 register after one byte. -/
def crc32Byte (c b : Nat) : Nat := (List.range 8).foldl (fun c _ => crc32Shift c) (c ^^^ b)

/-- CRC-32 of the ply format (R82). -/
def crc32 (bs : List Nat) : Nat := bs.foldl crc32Byte 0xFFFFFFFF ^^^ 0xFFFFFFFF

/-- One shift of the CRC-8 with polynomial 0x1D (R512). -/
def crc8Shift (c : Nat) : Nat := if 128 ≤ c then (2 * c ^^^ 0x1D) % 256 else 2 * c

/-- CRC-8 of host and Proex frames (R512). -/
def crc8 (bs : List Nat) : Nat :=
  bs.foldl (fun c b => (List.range 8).foldl (fun c _ => crc8Shift c) (c ^^^ b)) 0xFF ^^^ 0xFF

/-- One shift of a CRC-16 with polynomial `p`. -/
def crc16Shift (p c : Nat) : Nat := if 32768 ≤ c then (2 * c ^^^ p) % 65536 else 2 * c

/-- CRC-16, not reflected, with polynomial `p` and initial value `init`. -/
def crc16 (p init : Nat) (bs : List Nat) : Nat :=
  bs.foldl (fun c b => (List.range 8).foldl (fun c _ => crc16Shift p c) (c ^^^ (b * 256))) init

/-- The list with entry `n` replaced. -/
def setAt {α : Type} (l : List α) (n : Nat) (v : α) : List α := l.set n v

end Sys2Proof.Machine
end

