-- ==== Sys2Proof/Machine/Fields.lean ====
section
/-!
DEFINITION. The named fields of the register map: each is the word address (of an indexed register, as a function
of its indices), the lowest bit and the width that the register tables of spec/ 00 to 14 give. Generated from those
tables; the comment above each group names the table.
-/
namespace Sys2Proof.Machine

/-- A register field: word address, lowest bit, width (00_scope, "Registers and levels"). -/
structure Fld where
  addr : Nat
  lo : Nat
  wid : Nat
deriving DecidableEq, Repr

namespace Reg

-- Table 0.2: SYS_ID
abbrev SYS_ID_addr : Nat := 0x0000
abbrev SYS_ID_PART : Fld := ⟨0x0000, 32, 16⟩
abbrev SYS_ID_FAMILY : Fld := ⟨0x0000, 24, 8⟩
abbrev SYS_ID_REV : Fld := ⟨0x0000, 16, 8⟩
abbrev SYS_ID_GRADE : Fld := ⟨0x0000, 8, 8⟩
-- Table 1.12: SYS_PAGE
abbrev SYS_PAGE_addr : Nat := 0x0001
abbrev SYS_PAGE_PAGE : Fld := ⟨0x0001, 0, 4⟩
-- Table 1.13: SYS_STATUS
abbrev SYS_STATUS_addr : Nat := 0x0002
abbrev SYS_STATUS_SLACK_LOW : Fld := ⟨0x0002, 4, 1⟩
abbrev SYS_STATUS_STALL : Fld := ⟨0x0002, 3, 1⟩
abbrev SYS_STATUS_LEVEL : Fld := ⟨0x0002, 2, 1⟩
abbrev SYS_STATUS_LOOM_RUN : Fld := ⟨0x0002, 1, 1⟩
abbrev SYS_STATUS_WREJ : Fld := ⟨0x0002, 0, 1⟩
-- Table 1.14: SYS_ESN
abbrev SYS_ESN_addr : Nat := 0x0003
abbrev SYS_ESN_LAST : Fld := ⟨0x0003, 0, 32⟩
-- Table 14.10: SYS_RSTCAUSE
abbrev SYS_RSTCAUSE_addr : Nat := 0x0004
abbrev SYS_RSTCAUSE_POR : Fld := ⟨0x0004, 47, 1⟩
abbrev SYS_RSTCAUSE_LWR : Fld := ⟨0x0004, 46, 1⟩
abbrev SYS_RSTCAUSE_LWR_SM : Fld := ⟨0x0004, 43, 3⟩
abbrev SYS_RSTCAUSE_PIN : Fld := ⟨0x0004, 42, 1⟩
abbrev SYS_RSTCAUSE_SOFT : Fld := ⟨0x0004, 41, 1⟩
abbrev SYS_RSTCAUSE_WAKE : Fld := ⟨0x0004, 40, 1⟩
abbrev SYS_RSTCAUSE_WAKE_SRC : Fld := ⟨0x0004, 38, 2⟩
abbrev SYS_RSTCAUSE_RESETS : Fld := ⟨0x0004, 0, 32⟩
-- Table 14.10: SYS_RST
abbrev SYS_RST_addr : Nat := 0x0005
abbrev SYS_RST_KEY : Fld := ⟨0x0005, 32, 16⟩
-- Table 1.15: SYS_GOV_CTRL
abbrev SYS_GOV_CTRL_addr : Nat := 0x0010
abbrev SYS_GOV_CTRL_GOV_UP : Fld := ⟨0x0010, 7, 7⟩
abbrev SYS_GOV_CTRL_GOV_DOWN : Fld := ⟨0x0010, 0, 7⟩
-- Table 1.16: SYS_GOV
abbrev SYS_GOV_addr : Nat := 0x0011
abbrev SYS_GOV_WORST_PCT : Fld := ⟨0x0011, 16, 8⟩
abbrev SYS_GOV_WORST_REG : Fld := ⟨0x0011, 12, 4⟩
abbrev SYS_GOV_SLACK_LOW : Fld := ⟨0x0011, 8, 1⟩
abbrev SYS_GOV_VCODE : Fld := ⟨0x0011, 0, 5⟩
-- Table 1.17: SYS_REGION
abbrev SYS_REGION_addr : Nat := 0x0012
abbrev SYS_REGION_INVALID : Fld := ⟨0x0012, 8, 8⟩
abbrev SYS_REGION_STALL : Fld := ⟨0x0012, 0, 8⟩
-- Table 1.18: SYS_CLKLOST
abbrev SYS_CLKLOST_addr : Nat := 0x0013
abbrev SYS_CLKLOST_STBY : Fld := ⟨0x0013, 6, 1⟩
abbrev SYS_CLKLOST_PXR : Fld := ⟨0x0013, 5, 1⟩
abbrev SYS_CLKLOST_PXT : Fld := ⟨0x0013, 4, 1⟩
abbrev SYS_CLKLOST_FSPI : Fld := ⟨0x0013, 3, 1⟩
abbrev SYS_CLKLOST_ETH : Fld := ⟨0x0013, 2, 1⟩
abbrev SYS_CLKLOST_CAN : Fld := ⟨0x0013, 1, 1⟩
abbrev SYS_CLKLOST_ADC : Fld := ⟨0x0013, 0, 1⟩
-- Table 1.19: SYS_LAT
abbrev SYS_LAT_addr : Nat := 0x0014
abbrev SYS_LAT_COMMIT : Fld := ⟨0x0014, 16, 16⟩
abbrev SYS_LAT_TOOTH : Fld := ⟨0x0014, 0, 16⟩
-- R76: SYS_LAT_CLR
abbrev SYS_LAT_CLR_addr : Nat := 0x0015
abbrev SYS_LAT_CLR_CLR : Fld := ⟨0x0015, 0, 48⟩
-- Table 11.15: SYS_EVSTAT
abbrev SYS_EVSTAT_addr : Nat := 0x0020
abbrev SYS_EVSTAT_LEVEL : Fld := ⟨0x0020, 39, 9⟩
abbrev SYS_EVSTAT_IRQ_LEVEL : Fld := ⟨0x0020, 31, 8⟩
abbrev SYS_EVSTAT_OVF : Fld := ⟨0x0020, 30, 1⟩
abbrev SYS_EVSTAT_LOST : Fld := ⟨0x0020, 0, 16⟩
-- Table 11.15: SYS_EVPOP
abbrev SYS_EVPOP_addr : Nat := 0x0021
abbrev SYS_EVPOP_WORD : Fld := ⟨0x0021, 0, 48⟩
-- Table 14.11: SYS_SUPPLY
abbrev SYS_SUPPLY_addr : Nat := 0x0030
abbrev SYS_SUPPLY_EBB_TH : Fld := ⟨0x0030, 42, 6⟩
abbrev SYS_SUPPLY_EBB : Fld := ⟨0x0030, 41, 1⟩
abbrev SYS_SUPPLY_SENS_LOW : Fld := ⟨0x0030, 40, 1⟩
abbrev SYS_SUPPLY_EBB_CNT : Fld := ⟨0x0030, 0, 16⟩
-- Table 14.12: SYS_PWR
abbrev SYS_PWR_addr : Nat := 0x0040
abbrev SYS_PWR_STBY_KEY : Fld := ⟨0x0040, 32, 16⟩
abbrev SYS_PWR_ON : Fld := ⟨0x0040, 0, 6⟩
-- Table 14.12: SYS_PWRSTAT
abbrev SYS_PWRSTAT_addr : Nat := 0x0041
abbrev SYS_PWRSTAT_TIMEOUTS : Fld := ⟨0x0041, 32, 16⟩
abbrev SYS_PWRSTAT_STATE : Fld := ⟨0x0041, 0, 12⟩
-- Table 14.12: SYS_WAKE
abbrev SYS_WAKE_addr : Nat := 0x0042
abbrev SYS_WAKE_WAKE_T : Fld := ⟨0x0042, 32, 16⟩
abbrev SYS_WAKE_WAKE_FILT : Fld := ⟨0x0042, 24, 8⟩
abbrev SYS_WAKE_EBB_WAKE : Fld := ⟨0x0042, 23, 1⟩
abbrev SYS_WAKE_WAKE_LVL : Fld := ⟨0x0042, 22, 1⟩
abbrev SYS_WAKE_WAKE_INIT : Fld := ⟨0x0042, 21, 1⟩
-- Table 14.11: SYS_START
abbrev SYS_START_addr : Nat := 0x0050
abbrev SYS_START_TIME : Fld := ⟨0x0050, 32, 16⟩
abbrev SYS_START_READY : Fld := ⟨0x0050, 31, 1⟩
abbrev SYS_START_LATE : Fld := ⟨0x0050, 30, 1⟩
-- Table 2.17: WVE_CMD
abbrev WVE_CMD_addr : Nat := 0x0400
abbrev WVE_CMD_PLY : Fld := ⟨0x0400, 6, 2⟩
abbrev WVE_CMD_CMD : Fld := ⟨0x0400, 0, 4⟩
-- Table 2.18: WVE_STATUS
abbrev WVE_STATUS_addr : Nat := 0x0401
abbrev WVE_STATUS_STATE : Fld := ⟨0x0401, 44, 4⟩
abbrev WVE_STATUS_SEL : Fld := ⟨0x0401, 42, 2⟩
abbrev WVE_STATUS_SRC : Fld := ⟨0x0401, 41, 1⟩
abbrev WVE_STATUS_PROG_BUSY : Fld := ⟨0x0401, 40, 1⟩
abbrev WVE_STATUS_CMD_REJ : Fld := ⟨0x0401, 39, 1⟩
abbrev WVE_STATUS_MIRROR_BUSY : Fld := ⟨0x0401, 38, 1⟩
abbrev WVE_STATUS_FAULT_SEC : Fld := ⟨0x0401, 35, 3⟩
abbrev WVE_STATUS_GEN : Fld := ⟨0x0401, 0, 32⟩
-- Table 2.19: WVE_PLY
abbrev WVE_PLY_addr (i : Nat) : Nat := 0x0402 + i
abbrev WVE_PLY_STATE (i : Nat) : Fld := ⟨0x0402 + i, 36, 2⟩
abbrev WVE_PLY_REASON (i : Nat) : Fld := ⟨0x0402 + i, 32, 4⟩
abbrev WVE_PLY_GEN (i : Nat) : Fld := ⟨0x0402 + i, 0, 32⟩
-- Table 2.20: WVE_SCRUB
abbrev WVE_SCRUB_addr : Nat := 0x0408
abbrev WVE_SCRUB_UPSET : Fld := ⟨0x0408, 32, 1⟩
abbrev WVE_SCRUB_SECTION : Fld := ⟨0x0408, 24, 4⟩
abbrev WVE_SCRUB_PASS : Fld := ⟨0x0408, 0, 16⟩
-- Table 2.21: WVE_LOADTIME
abbrev WVE_LOADTIME_addr : Nat := 0x0409
abbrev WVE_LOADTIME_TIME : Fld := ⟨0x0409, 0, 16⟩
-- Table 3.8: WRP_CFG
abbrev WRP_CFG_addr (i : Nat) : Nat := 0x0800 + 128 * i
abbrev WRP_CFG_TYPE (i : Nat) : Fld := ⟨0x0800 + 128 * i, 46, 2⟩
abbrev WRP_CFG_EDGE (i : Nat) : Fld := ⟨0x0800 + 128 * i, 45, 1⟩
abbrev WRP_CFG_FILT (i : Nat) : Fld := ⟨0x0800 + 128 * i, 42, 3⟩
abbrev WRP_CFG_VR_FRAC (i : Nat) : Fld := ⟨0x0800 + 128 * i, 40, 2⟩
abbrev WRP_CFG_VR_MIN (i : Nat) : Fld := ⟨0x0800 + 128 * i, 32, 8⟩
abbrev WRP_CFG_POS (i : Nat) : Fld := ⟨0x0800 + 128 * i, 21, 11⟩
abbrev WRP_CFG_NMARK (i : Nat) : Fld := ⟨0x0800 + 128 * i, 17, 4⟩
abbrev WRP_CFG_ID_MARKS (i : Nat) : Fld := ⟨0x0800 + 128 * i, 13, 4⟩
-- Table 3.9: WRP_ACC0
abbrev WRP_ACC0_addr (i : Nat) : Nat := 0x0801 + 128 * i
abbrev WRP_ACC0_QLO (i : Nat) : Fld := ⟨0x0801 + 128 * i, 32, 16⟩
abbrev WRP_ACC0_QHI (i : Nat) : Fld := ⟨0x0801 + 128 * i, 16, 16⟩
abbrev WRP_ACC0_MISS_LO (i : Nat) : Fld := ⟨0x0801 + 128 * i, 0, 16⟩
-- Table 3.10: WRP_ACC1
abbrev WRP_ACC1_addr (i : Nat) : Nat := 0x0802 + 128 * i
abbrev WRP_ACC1_MISS_HI (i : Nat) : Fld := ⟨0x0802 + 128 * i, 32, 16⟩
abbrev WRP_ACC1_MLO (i : Nat) : Fld := ⟨0x0802 + 128 * i, 16, 16⟩
abbrev WRP_ACC1_MHI (i : Nat) : Fld := ⟨0x0802 + 128 * i, 0, 16⟩
-- Table 3.11: WRP_MODE
abbrev WRP_MODE_addr (i : Nat) : Nat := 0x0803 + 128 * i
abbrev WRP_MODE_MISS_INS (i : Nat) : Fld := ⟨0x0803 + 128 * i, 47, 1⟩
abbrev WRP_MODE_GAP_CHECK (i : Nat) : Fld := ⟨0x0803 + 128 * i, 43, 4⟩
abbrev WRP_MODE_STALL_N (i : Nat) : Fld := ⟨0x0803 + 128 * i, 39, 4⟩
abbrev WRP_MODE_STALL_CAP (i : Nat) : Fld := ⟨0x0803 + 128 * i, 29, 10⟩
abbrev WRP_MODE_CAM_WIN (i : Nat) : Fld := ⟨0x0803 + 128 * i, 22, 7⟩
abbrev WRP_MODE_CAM_RETAIN (i : Nat) : Fld := ⟨0x0803 + 128 * i, 21, 1⟩
abbrev WRP_MODE_REV_RPM (i : Nat) : Fld := ⟨0x0803 + 128 * i, 14, 7⟩
abbrev WRP_MODE_CRK_MODE (i : Nat) : Fld := ⟨0x0803 + 128 * i, 12, 2⟩
abbrev WRP_MODE_BORROW_EN (i : Nat) : Fld := ⟨0x0803 + 128 * i, 11, 1⟩
abbrev WRP_MODE_LIMP_EN (i : Nat) : Fld := ⟨0x0803 + 128 * i, 10, 1⟩
abbrev WRP_MODE_PHASE_CAM (i : Nat) : Fld := ⟨0x0803 + 128 * i, 8, 2⟩
abbrev WRP_MODE_LIMP_CAM (i : Nat) : Fld := ⟨0x0803 + 128 * i, 6, 2⟩
-- Table 3.12: WRP_DIR
abbrev WRP_DIR_addr (i : Nat) : Nat := 0x0804 + 128 * i
abbrev WRP_DIR_DIR_MIN (i : Nat) : Fld := ⟨0x0804 + 128 * i, 36, 12⟩
abbrev WRP_DIR_DIR_SPLIT (i : Nat) : Fld := ⟨0x0804 + 128 * i, 24, 12⟩
abbrev WRP_DIR_DIR_MAX (i : Nat) : Fld := ⟨0x0804 + 128 * i, 12, 12⟩
-- Table 3.13: WRP_MARK
abbrev WRP_MARK_addr (i j : Nat) : Nat := 0x0808 + 128 * i + j
abbrev WRP_MARK_POS (i j : Nat) : Fld := ⟨0x0808 + 128 * i + j, 38, 10⟩
abbrev WRP_MARK_KIND (i j : Nat) : Fld := ⟨0x0808 + 128 * i + j, 37, 1⟩
abbrev WRP_MARK_LEN (i j : Nat) : Fld := ⟨0x0808 + 128 * i + j, 35, 2⟩
-- Table 3.14: WRP_SYNC
abbrev WRP_SYNC_addr (i : Nat) : Nat := 0x0810 + 128 * i
abbrev WRP_SYNC_STATE (i : Nat) : Fld := ⟨0x0810 + 128 * i, 44, 4⟩
abbrev WRP_SYNC_BG (i : Nat) : Fld := ⟨0x0810 + 128 * i, 40, 4⟩
abbrev WRP_SYNC_REV_PEND (i : Nat) : Fld := ⟨0x0810 + 128 * i, 39, 1⟩
abbrev WRP_SYNC_INIT (i : Nat) : Fld := ⟨0x0810 + 128 * i, 38, 1⟩
abbrev WRP_SYNC_CAMST (i : Nat) : Fld := ⟨0x0810 + 128 * i, 36, 2⟩
abbrev WRP_SYNC_SRC (i : Nat) : Fld := ⟨0x0810 + 128 * i, 34, 2⟩
abbrev WRP_SYNC_CRANK_LOST (i : Nat) : Fld := ⟨0x0810 + 128 * i, 33, 1⟩
abbrev WRP_SYNC_CRANK_MISMATCH (i : Nat) : Fld := ⟨0x0810 + 128 * i, 32, 1⟩
abbrev WRP_SYNC_TOOTH (i : Nat) : Fld := ⟨0x0810 + 128 * i, 0, 12⟩
-- Table 3.15: WRP_EDGE
abbrev WRP_EDGE_addr (i : Nat) : Nat := 0x0811 + 128 * i
abbrev WRP_EDGE_LAST (i : Nat) : Fld := ⟨0x0811 + 128 * i, 0, 48⟩
-- Table 3.16: WRP_PER
abbrev WRP_PER_addr (i : Nat) : Nat := 0x0812 + 128 * i
abbrev WRP_PER_PERIOD (i : Nat) : Fld := ⟨0x0812 + 128 * i, 16, 32⟩
abbrev WRP_PER_Q (i : Nat) : Fld := ⟨0x0812 + 128 * i, 0, 16⟩
-- Table 3.17: WRP_CNT0
abbrev WRP_CNT0_addr (i : Nat) : Nat := 0x0813 + 128 * i
abbrev WRP_CNT0_NOISE (i : Nat) : Fld := ⟨0x0813 + 128 * i, 32, 16⟩
abbrev WRP_CNT0_MISSED (i : Nat) : Fld := ⟨0x0813 + 128 * i, 16, 16⟩
abbrev WRP_CNT0_SYNCF (i : Nat) : Fld := ⟨0x0813 + 128 * i, 0, 16⟩
-- Table 3.18: WRP_CNT1
abbrev WRP_CNT1_addr (i : Nat) : Nat := 0x0814 + 128 * i
abbrev WRP_CNT1_CAMF (i : Nat) : Fld := ⟨0x0814 + 128 * i, 32, 16⟩
abbrev WRP_CNT1_STALLS (i : Nat) : Fld := ⟨0x0814 + 128 * i, 16, 16⟩
abbrev WRP_CNT1_REVS (i : Nat) : Fld := ⟨0x0814 + 128 * i, 0, 16⟩
-- Table 3.19: WRP_CNT2
abbrev WRP_CNT2_addr (i : Nat) : Nat := 0x0815 + 128 * i
abbrev WRP_CNT2_WIDTH_ERR (i : Nat) : Fld := ⟨0x0815 + 128 * i, 32, 16⟩
abbrev WRP_CNT2_HRST (i : Nat) : Fld := ⟨0x0815 + 128 * i, 16, 16⟩
abbrev WRP_CNT2_SWITCH (i : Nat) : Fld := ⟨0x0815 + 128 * i, 0, 16⟩
-- R186: WRP_CNT_CLR
abbrev WRP_CNT_CLR_addr (i : Nat) : Nat := 0x0816 + 128 * i
abbrev WRP_CNT_CLR_CLR (i : Nat) : Fld := ⟨0x0816 + 128 * i, 0, 48⟩
-- Table 3.20: WRP_CAME
abbrev WRP_CAME_addr (i j : Nat) : Nat := 0x0840 + 128 * i + j
abbrev WRP_CAME_ANGLE (i j : Nat) : Fld := ⟨0x0840 + 128 * i + j, 16, 32⟩
-- Table 4.10: WFT_CTRL
abbrev WFT_CTRL_addr (i : Nat) : Nat := 0x0C00 + 512 * i
abbrev WFT_CTRL_MODE (i : Nat) : Fld := ⟨0x0C00 + 512 * i, 47, 1⟩
abbrev WFT_CTRL_K (i : Nat) : Fld := ⟨0x0C00 + 512 * i, 43, 4⟩
abbrev WFT_CTRL_COAST (i : Nat) : Fld := ⟨0x0C00 + 512 * i, 37, 6⟩
abbrev WFT_CTRL_A_SH (i : Nat) : Fld := ⟨0x0C00 + 512 * i, 34, 3⟩
abbrev WFT_CTRL_B_SH (i : Nat) : Fld := ⟨0x0C00 + 512 * i, 30, 4⟩
abbrev WFT_CTRL_FP_SH (i : Nat) : Fld := ⟨0x0C00 + 512 * i, 27, 3⟩
abbrev WFT_CTRL_FP_MIN (i : Nat) : Fld := ⟨0x0C00 + 512 * i, 19, 8⟩
abbrev WFT_CTRL_FIRE_DIV (i : Nat) : Fld := ⟨0x0C00 + 512 * i, 14, 5⟩
abbrev WFT_CTRL_SIG_EN (i : Nat) : Fld := ⟨0x0C00 + 512 * i, 13, 1⟩
abbrev WFT_CTRL_FP_EN (i : Nat) : Fld := ⟨0x0C00 + 512 * i, 12, 1⟩
abbrev WFT_CTRL_SIG_RESTORE (i : Nat) : Fld := ⟨0x0C00 + 512 * i, 11, 1⟩
-- Table 4.11: WFT_CL
abbrev WFT_CL_addr (i : Nat) : Nat := 0x0C01 + 512 * i
abbrev WFT_CL_CL_EN (i : Nat) : Fld := ⟨0x0C01 + 512 * i, 47, 1⟩
abbrev WFT_CL_CL_LO (i : Nat) : Fld := ⟨0x0C01 + 512 * i, 39, 8⟩
abbrev WFT_CL_CL_HI (i : Nat) : Fld := ⟨0x0C01 + 512 * i, 31, 8⟩
abbrev WFT_CL_CL_SH (i : Nat) : Fld := ⟨0x0C01 + 512 * i, 28, 3⟩
abbrev WFT_CL_CL_CONV (i : Nat) : Fld := ⟨0x0C01 + 512 * i, 23, 5⟩
abbrev WFT_CL_CL_EPS (i : Nat) : Fld := ⟨0x0C01 + 512 * i, 7, 16⟩
-- Table 4.12: WFT_CLST
abbrev WFT_CLST_addr (i : Nat) : Nat := 0x0C02 + 512 * i
abbrev WFT_CLST_STATE (i : Nat) : Fld := ⟨0x0C02 + 512 * i, 45, 3⟩
abbrev WFT_CLST_CAUSE (i : Nat) : Fld := ⟨0x0C02 + 512 * i, 41, 4⟩
abbrev WFT_CLST_REVS (i : Nat) : Fld := ⟨0x0C02 + 512 * i, 34, 7⟩
abbrev WFT_CLST_BANK1 (i : Nat) : Fld := ⟨0x0C02 + 512 * i, 33, 1⟩
abbrev WFT_CLST_BANK0 (i : Nat) : Fld := ⟨0x0C02 + 512 * i, 32, 1⟩
abbrev WFT_CLST_SWAPS (i : Nat) : Fld := ⟨0x0C02 + 512 * i, 24, 8⟩
abbrev WFT_CLST_SIG_VALID (i : Nat) : Fld := ⟨0x0C02 + 512 * i, 23, 1⟩
abbrev WFT_CLST_FP_VALID (i : Nat) : Fld := ⟨0x0C02 + 512 * i, 22, 1⟩
abbrev WFT_CLST_MAXCHG (i : Nat) : Fld := ⟨0x0C02 + 512 * i, 0, 16⟩
-- Table 4.13: WFT_UPD0
abbrev WFT_UPD0_addr (i : Nat) : Nat := 0x0C08 + 512 * i
abbrev WFT_UPD0_TIDX (i : Nat) : Fld := ⟨0x0C08 + 512 * i, 36, 12⟩
abbrev WFT_UPD0_SRC (i : Nat) : Fld := ⟨0x0C08 + 512 * i, 34, 2⟩
abbrev WFT_UPD0_MODE (i : Nat) : Fld := ⟨0x0C08 + 512 * i, 33, 1⟩
abbrev WFT_UPD0_INS (i : Nat) : Fld := ⟨0x0C08 + 512 * i, 32, 1⟩
abbrev WFT_UPD0_MARK (i : Nat) : Fld := ⟨0x0C08 + 512 * i, 31, 1⟩
abbrev WFT_UPD0_HALF (i : Nat) : Fld := ⟨0x0C08 + 512 * i, 30, 1⟩
abbrev WFT_UPD0_STEP (i : Nat) : Fld := ⟨0x0C08 + 512 * i, 29, 1⟩
abbrev WFT_UPD0_NSPAN (i : Nat) : Fld := ⟨0x0C08 + 512 * i, 26, 3⟩
-- Table 4.13: WFT_UPD1
abbrev WFT_UPD1_addr (i : Nat) : Nat := 0x0C09 + 512 * i
abbrev WFT_UPD1_TIME (i : Nat) : Fld := ⟨0x0C09 + 512 * i, 0, 48⟩
-- Table 4.13: WFT_UPD2
abbrev WFT_UPD2_addr (i : Nat) : Nat := 0x0C0A + 512 * i
abbrev WFT_UPD2_ANGLE (i : Nat) : Fld := ⟨0x0C0A + 512 * i, 0, 48⟩
-- Table 4.13: WFT_UPD3
abbrev WFT_UPD3_addr (i : Nat) : Nat := 0x0C0B + 512 * i
abbrev WFT_UPD3_DANG (i : Nat) : Fld := ⟨0x0C0B + 512 * i, 0, 48⟩
-- Table 4.13: WFT_UPD4
abbrev WFT_UPD4_addr (i : Nat) : Nat := 0x0C0C + 512 * i
abbrev WFT_UPD4_PERIOD (i : Nat) : Fld := ⟨0x0C0C + 512 * i, 16, 32⟩
-- Table 4.13: WFT_UPD5
abbrev WFT_UPD5_addr (i : Nat) : Nat := 0x0C0D + 512 * i
abbrev WFT_UPD5_SLOPE (i : Nat) : Fld := ⟨0x0C0D + 512 * i, 16, 32⟩
-- Table 4.14: WFT_SNAPT
abbrev WFT_SNAPT_addr (i : Nat) : Nat := 0x0C10 + 512 * i
abbrev WFT_SNAPT_TIME (i : Nat) : Fld := ⟨0x0C10 + 512 * i, 0, 48⟩
-- Table 4.14: WFT_SNAPA
abbrev WFT_SNAPA_addr (i : Nat) : Nat := 0x0C11 + 512 * i
abbrev WFT_SNAPA_ANGLE (i : Nat) : Fld := ⟨0x0C11 + 512 * i, 0, 48⟩
-- Table 4.15: WFT_ERR
abbrev WFT_ERR_addr (i : Nat) : Nat := 0x0C12 + 512 * i
abbrev WFT_ERR_LAST (i : Nat) : Fld := ⟨0x0C12 + 512 * i, 24, 24⟩
abbrev WFT_ERR_MAXABS (i : Nat) : Fld := ⟨0x0C12 + 512 * i, 0, 24⟩
-- Table 4.16: WFT_CNT
abbrev WFT_CNT_addr (i : Nat) : Nat := 0x0C13 + 512 * i
abbrev WFT_CNT_COASTX (i : Nat) : Fld := ⟨0x0C13 + 512 * i, 32, 16⟩
abbrev WFT_CNT_HOLDS (i : Nat) : Fld := ⟨0x0C13 + 512 * i, 16, 16⟩
abbrev WFT_CNT_STEPS (i : Nat) : Fld := ⟨0x0C13 + 512 * i, 0, 16⟩
-- R236: WFT_CNT_CLR
abbrev WFT_CNT_CLR_addr (i : Nat) : Nat := 0x0C14 + 512 * i
abbrev WFT_CNT_CLR_CLR (i : Nat) : Fld := ⟨0x0C14 + 512 * i, 0, 48⟩
-- Table 5.10: SHT_CFG
abbrev SHT_CFG_addr (i : Nat) : Nat := 0x1000 + 16 * i
abbrev SHT_CFG_FUNC (i : Nat) : Fld := ⟨0x1000 + 16 * i, 46, 2⟩
abbrev SHT_CFG_WRITER (i : Nat) : Fld := ⟨0x1000 + 16 * i, 45, 1⟩
abbrev SHT_CFG_HALF_OK (i : Nat) : Fld := ⟨0x1000 + 16 * i, 44, 1⟩
abbrev SHT_CFG_REP_START (i : Nat) : Fld := ⟨0x1000 + 16 * i, 43, 1⟩
abbrev SHT_CFG_REP_STOP (i : Nat) : Fld := ⟨0x1000 + 16 * i, 42, 1⟩
abbrev SHT_CFG_REP_SKIP (i : Nat) : Fld := ⟨0x1000 + 16 * i, 41, 1⟩
-- Table 5.11: SHT_LIM
abbrev SHT_LIM_addr (i : Nat) : Nat := 0x1001 + 16 * i
abbrev SHT_LIM_LATE_TOL (i : Nat) : Fld := ⟨0x1001 + 16 * i, 40, 8⟩
abbrev SHT_LIM_HORIZON (i : Nat) : Fld := ⟨0x1001 + 16 * i, 32, 8⟩
abbrev SHT_LIM_ENDLOCK_MAX (i : Nat) : Fld := ⟨0x1001 + 16 * i, 26, 6⟩
abbrev SHT_LIM_LIMP_RPM (i : Nat) : Fld := ⟨0x1001 + 16 * i, 18, 8⟩
-- Table 5.12: SHT_LIST
abbrev SHT_LIST_addr (i : Nat) : Nat := 0x1002 + 16 * i
abbrev SHT_LIST_LIST_ANG (i : Nat) : Fld := ⟨0x1002 + 16 * i, 0, 48⟩
-- Table 5.13: SHT_GATE
abbrev SHT_GATE_addr (i : Nat) : Nat := 0x1003 + 16 * i
abbrev SHT_GATE_SEQ (i : Nat) : Fld := ⟨0x1003 + 16 * i, 44, 4⟩
abbrev SHT_GATE_CTILE_EN (i : Nat) : Fld := ⟨0x1003 + 16 * i, 43, 1⟩
abbrev SHT_GATE_CTILE (i : Nat) : Fld := ⟨0x1003 + 16 * i, 38, 5⟩
abbrev SHT_GATE_STEP (i : Nat) : Fld := ⟨0x1003 + 16 * i, 14, 24⟩
-- Table 5.14: SHT_CTRL
abbrev SHT_CTRL_addr (i : Nat) : Nat := 0x1004 + 16 * i
abbrev SHT_CTRL_READY (i : Nat) : Fld := ⟨0x1004 + 16 * i, 1, 1⟩
abbrev SHT_CTRL_EN (i : Nat) : Fld := ⟨0x1004 + 16 * i, 0, 1⟩
-- Table 5.15: SHT_STAT
abbrev SHT_STAT_addr (i : Nat) : Nat := 0x1005 + 16 * i
abbrev SHT_STAT_STATE (i : Nat) : Fld := ⟨0x1005 + 16 * i, 44, 4⟩
abbrev SHT_STAT_PAGE (i : Nat) : Fld := ⟨0x1005 + 16 * i, 43, 1⟩
abbrev SHT_STAT_CUR (i : Nat) : Fld := ⟨0x1005 + 16 * i, 40, 3⟩
abbrev SHT_STAT_WINS (i : Nat) : Fld := ⟨0x1005 + 16 * i, 0, 32⟩
-- Table 5.16: SHT_NEXT
abbrev SHT_NEXT_addr (i : Nat) : Nat := 0x1006 + 16 * i
abbrev SHT_NEXT_TIME (i : Nat) : Fld := ⟨0x1006 + 16 * i, 0, 48⟩
-- Table 5.16: SHT_LAST
abbrev SHT_LAST_addr (i : Nat) : Nat := 0x1007 + 16 * i
abbrev SHT_LAST_TIME (i : Nat) : Fld := ⟨0x1007 + 16 * i, 0, 48⟩
-- Table 5.17: SHT_LSTAT
abbrev SHT_LSTAT_addr (i : Nat) : Nat := 0x1008 + 16 * i
abbrev SHT_LSTAT_LATE (i : Nat) : Fld := ⟨0x1008 + 16 * i, 32, 16⟩
abbrev SHT_LSTAT_ENDCORR (i : Nat) : Fld := ⟨0x1008 + 16 * i, 16, 16⟩
abbrev SHT_LSTAT_CAUSE (i : Nat) : Fld := ⟨0x1008 + 16 * i, 12, 4⟩
abbrev SHT_LSTAT_CENTRY (i : Nat) : Fld := ⟨0x1008 + 16 * i, 9, 3⟩
-- Table 5.18: SHT_CNT0
abbrev SHT_CNT0_addr (i : Nat) : Nat := 0x1009 + 16 * i
abbrev SHT_CNT0_SKIP_LATE (i : Nat) : Fld := ⟨0x1009 + 16 * i, 32, 16⟩
abbrev SHT_CNT0_SKIP_STATE (i : Nat) : Fld := ⟨0x1009 + 16 * i, 16, 16⟩
abbrev SHT_CNT0_CANCEL (i : Nat) : Fld := ⟨0x1009 + 16 * i, 0, 16⟩
-- Table 5.18: SHT_CNT1
abbrev SHT_CNT1_addr (i : Nat) : Nat := 0x100A + 16 * i
abbrev SHT_CNT1_POSTPONE (i : Nat) : Fld := ⟨0x100A + 16 * i, 32, 16⟩
abbrev SHT_CNT1_DROP_OFF (i : Nat) : Fld := ⟨0x100A + 16 * i, 16, 16⟩
abbrev SHT_CNT1_LISTERR (i : Nat) : Fld := ⟨0x100A + 16 * i, 0, 16⟩
-- Table 5.18: SHT_CNT2
abbrev SHT_CNT2_addr (i : Nat) : Nat := 0x100B + 16 * i
abbrev SHT_CNT2_STALE (i : Nat) : Fld := ⟨0x100B + 16 * i, 32, 16⟩
abbrev SHT_CNT2_CLAMP (i : Nat) : Fld := ⟨0x100B + 16 * i, 16, 16⟩
abbrev SHT_CNT2_CUT (i : Nat) : Fld := ⟨0x100B + 16 * i, 0, 16⟩
-- Table 5.18: SHT_CNT3
abbrev SHT_CNT3_addr (i : Nat) : Nat := 0x100C + 16 * i
abbrev SHT_CNT3_GATE_LATE (i : Nat) : Fld := ⟨0x100C + 16 * i, 32, 16⟩
abbrev SHT_CNT3_TICK_LATE (i : Nat) : Fld := ⟨0x100C + 16 * i, 16, 16⟩
abbrev SHT_CNT3_INCOMPLETE (i : Nat) : Fld := ⟨0x100C + 16 * i, 0, 16⟩
-- R288: SHT_CNT_CLR
abbrev SHT_CNT_CLR_addr (i : Nat) : Nat := 0x100D + 16 * i
abbrev SHT_CNT_CLR_CLR (i : Nat) : Fld := ⟨0x100D + 16 * i, 0, 48⟩
-- Table 6.12: BNK_CFG
abbrev BNK_CFG_addr (i : Nat) : Nat := 0x1400 + 64 * i
abbrev BNK_CFG_CH_EN (i : Nat) : Fld := ⟨0x1400 + 64 * i, 44, 4⟩
abbrev BNK_CFG_RECOV_OVERLAP (i : Nat) : Fld := ⟨0x1400 + 64 * i, 43, 1⟩
abbrev BNK_CFG_POSTPONE_MAX (i : Nat) : Fld := ⟨0x1400 + 64 * i, 32, 11⟩
abbrev BNK_CFG_RSHUNT (i : Nat) : Fld := ⟨0x1400 + 64 * i, 20, 12⟩
abbrev BNK_CFG_DEAD (i : Nat) : Fld := ⟨0x1400 + 64 * i, 12, 8⟩
abbrev BNK_CFG_BLANK0 (i : Nat) : Fld := ⟨0x1400 + 64 * i, 4, 8⟩
abbrev BNK_CFG_PATHS (i : Nat) : Fld := ⟨0x1400 + 64 * i, 2, 2⟩
-- Table 6.13: BNK_PROG
abbrev BNK_PROG_addr (i j : Nat) : Nat := 0x1401 + 64 * i + j
abbrev BNK_PROG_ENTRY (i j : Nat) : Fld := ⟨0x1401 + 64 * i + j, 40, 8⟩
abbrev BNK_PROG_STOPV (i j : Nat) : Fld := ⟨0x1401 + 64 * i + j, 32, 8⟩
abbrev BNK_PROG_PK0 (i j : Nat) : Fld := ⟨0x1401 + 64 * i + j, 22, 10⟩
abbrev BNK_PROG_VY0 (i j : Nat) : Fld := ⟨0x1401 + 64 * i + j, 12, 10⟩
-- Table 6.14: BNK_OFF
abbrev BNK_OFF_addr (i j : Nat) : Nat := 0x1405 + 64 * i + j
abbrev BNK_OFF_MIN_OFF (i j : Nat) : Fld := ⟨0x1405 + 64 * i + j, 35, 13⟩
abbrev BNK_OFF_OFF_DROP (i j : Nat) : Fld := ⟨0x1405 + 64 * i + j, 34, 1⟩
-- Table 6.15: BNK_REND
abbrev BNK_REND_addr (i j : Nat) : Nat := 0x1409 + 64 * i + j
abbrev BNK_REND_TIME (i j : Nat) : Fld := ⟨0x1409 + 64 * i + j, 0, 48⟩
-- Table 6.16: BNK_CFG1
abbrev BNK_CFG1_addr (i : Nat) : Nat := 0x140D + 64 * i
abbrev BNK_CFG1_RMAX (i : Nat) : Fld := ⟨0x140D + 64 * i, 37, 11⟩
abbrev BNK_CFG1_ZTH (i : Nat) : Fld := ⟨0x140D + 64 * i, 27, 10⟩
-- Table 6.17: BNK_STAT
abbrev BNK_STAT_addr (i : Nat) : Nat := 0x140E + 64 * i
abbrev BNK_STAT_BSTATE (i : Nat) : Fld := ⟨0x140E + 64 * i, 46, 2⟩
abbrev BNK_STAT_OWNER (i : Nat) : Fld := ⟨0x140E + 64 * i, 44, 2⟩
abbrev BNK_STAT_WAIT (i : Nat) : Fld := ⟨0x140E + 64 * i, 40, 4⟩
abbrev BNK_STAT_PC (i : Nat) : Fld := ⟨0x140E + 64 * i, 32, 8⟩
abbrev BNK_STAT_LOOPC (i : Nat) : Fld := ⟨0x140E + 64 * i, 24, 8⟩
abbrev BNK_STAT_FCODE (i : Nat) : Fld := ⟨0x140E + 64 * i, 16, 8⟩
abbrev BNK_STAT_TO (i : Nat) : Fld := ⟨0x140E + 64 * i, 15, 1⟩
abbrev BNK_STAT_OVL (i : Nat) : Fld := ⟨0x140E + 64 * i, 14, 1⟩
abbrev BNK_STAT_RMAX_HIT (i : Nat) : Fld := ⟨0x140E + 64 * i, 3, 1⟩
abbrev BNK_STAT_EARLY (i : Nat) : Fld := ⟨0x140E + 64 * i, 2, 1⟩
abbrev BNK_STAT_TRAP (i : Nat) : Fld := ⟨0x140E + 64 * i, 1, 1⟩
abbrev BNK_STAT_DROPPED (i : Nat) : Fld := ⟨0x140E + 64 * i, 0, 1⟩
-- Table 6.18: BNK_CNT0
abbrev BNK_CNT0_addr (i : Nat) : Nat := 0x140F + 64 * i
abbrev BNK_CNT0_WAITED (i : Nat) : Fld := ⟨0x140F + 64 * i, 32, 16⟩
abbrev BNK_CNT0_DROP_WAIT (i : Nat) : Fld := ⟨0x140F + 64 * i, 16, 16⟩
abbrev BNK_CNT0_DROP_OTHER (i : Nat) : Fld := ⟨0x140F + 64 * i, 0, 16⟩
-- Table 6.18: BNK_CNT1
abbrev BNK_CNT1_addr (i : Nat) : Nat := 0x1410 + 64 * i
abbrev BNK_CNT1_TRAPS (i : Nat) : Fld := ⟨0x1410 + 64 * i, 32, 16⟩
abbrev BNK_CNT1_EARLY (i : Nat) : Fld := ⟨0x1410 + 64 * i, 16, 16⟩
abbrev BNK_CNT1_FLTS (i : Nat) : Fld := ⟨0x1410 + 64 * i, 0, 16⟩
-- R328: BNK_CNT_CLR
abbrev BNK_CNT_CLR_addr (i : Nat) : Nat := 0x1411 + 64 * i
abbrev BNK_CNT_CLR_CLR (i : Nat) : Fld := ⟨0x1411 + 64 * i, 0, 48⟩
-- Table 6.19: BNK_CONT
abbrev BNK_CONT_addr (i : Nat) : Nat := 0x1412 + 64 * i
abbrev BNK_CONT_EN (i : Nat) : Fld := ⟨0x1412 + 64 * i, 47, 1⟩
abbrev BNK_CONT_WRITER (i : Nat) : Fld := ⟨0x1412 + 64 * i, 46, 1⟩
abbrev BNK_CONT_CH (i : Nat) : Fld := ⟨0x1412 + 64 * i, 44, 2⟩
abbrev BNK_CONT_SET (i : Nat) : Fld := ⟨0x1412 + 64 * i, 34, 10⟩
abbrev BNK_CONT_BAND (i : Nat) : Fld := ⟨0x1412 + 64 * i, 26, 8⟩
abbrev BNK_CONT_TMIN (i : Nat) : Fld := ⟨0x1412 + 64 * i, 18, 8⟩
-- Table 6.20: BNK_WMAX
abbrev BNK_WMAX_addr (i : Nat) : Nat := 0x1413 + 64 * i
abbrev BNK_WMAX_WAIT (i : Nat) : Fld := ⟨0x1413 + 64 * i, 0, 16⟩
-- Table 7.7: BNK_DCFG
abbrev BNK_DCFG_addr (i : Nat) : Nat := 0x1414 + 64 * i
abbrev BNK_DCFG_OFFT_EN (i : Nat) : Fld := ⟨0x1414 + 64 * i, 47, 1⟩
abbrev BNK_DCFG_OFFT_PER (i : Nat) : Fld := ⟨0x1414 + 64 * i, 39, 8⟩
abbrev BNK_DCFG_DSAT_TH (i : Nat) : Fld := ⟨0x1414 + 64 * i, 31, 8⟩
abbrev BNK_DCFG_DSAT_BLANK (i : Nat) : Fld := ⟨0x1414 + 64 * i, 26, 5⟩
abbrev BNK_DCFG_RESID_T (i : Nat) : Fld := ⟨0x1414 + 64 * i, 21, 5⟩
abbrev BNK_DCFG_LSD_BLANK (i : Nat) : Fld := ⟨0x1414 + 64 * i, 13, 8⟩
abbrev BNK_DCFG_BRETRY (i : Nat) : Fld := ⟨0x1414 + 64 * i, 10, 3⟩
abbrev BNK_DCFG_VPB (i : Nat) : Fld := ⟨0x1414 + 64 * i, 5, 5⟩
abbrev BNK_DCFG_VF (i : Nat) : Fld := ⟨0x1414 + 64 * i, 0, 5⟩
-- Table 7.8: BNK_CLCFG
abbrev BNK_CLCFG_addr (i : Nat) : Nat := 0x1415 + 64 * i
abbrev BNK_CLCFG_CL_EN (i : Nat) : Fld := ⟨0x1415 + 64 * i, 44, 4⟩
abbrev BNK_CLCFG_CLW (i : Nat) : Fld := ⟨0x1415 + 64 * i, 36, 8⟩
abbrev BNK_CLCFG_CL_BLANK (i : Nat) : Fld := ⟨0x1415 + 64 * i, 31, 5⟩
abbrev BNK_CLCFG_CL_FRAC (i : Nat) : Fld := ⟨0x1415 + 64 * i, 27, 4⟩
abbrev BNK_CLCFG_CL_MIN (i : Nat) : Fld := ⟨0x1415 + 64 * i, 17, 10⟩
abbrev BNK_CLCFG_CL_LIM (i : Nat) : Fld := ⟨0x1415 + 64 * i, 7, 10⟩
-- Table 7.9: BNK_THCFG
abbrev BNK_THCFG_addr (i : Nat) : Nat := 0x1416 + 64 * i
abbrev BNK_THCFG_TH1 (i : Nat) : Fld := ⟨0x1416 + 64 * i, 40, 8⟩
abbrev BNK_THCFG_TH2 (i : Nat) : Fld := ⟨0x1416 + 64 * i, 32, 8⟩
abbrev BNK_THCFG_TH3 (i : Nat) : Fld := ⟨0x1416 + 64 * i, 24, 8⟩
abbrev BNK_THCFG_HYS (i : Nat) : Fld := ⟨0x1416 + 64 * i, 20, 4⟩
abbrev BNK_THCFG_DS1 (i : Nat) : Fld := ⟨0x1416 + 64 * i, 16, 4⟩
abbrev BNK_THCFG_DS2 (i : Nat) : Fld := ⟨0x1416 + 64 * i, 12, 4⟩
abbrev BNK_THCFG_TH_SH (i : Nat) : Fld := ⟨0x1416 + 64 * i, 9, 3⟩
abbrev BNK_THCFG_TAMB (i : Nat) : Fld := ⟨0x1416 + 64 * i, 1, 8⟩
-- Table 7.10: BNK_DSTAT
abbrev BNK_DSTAT_addr (i : Nat) : Nat := 0x1417 + 64 * i
abbrev BNK_DSTAT_LATCH (i : Nat) : Fld := ⟨0x1417 + 64 * i, 47, 1⟩
abbrev BNK_DSTAT_FCODE (i : Nat) : Fld := ⟨0x1417 + 64 * i, 43, 4⟩
abbrev BNK_DSTAT_BRETRY_LEFT (i : Nat) : Fld := ⟨0x1417 + 64 * i, 40, 3⟩
-- Table 7.11: BNK_OFFT
abbrev BNK_OFFT_addr (i : Nat) : Nat := 0x1418 + 64 * i
abbrev BNK_OFFT_LEVELS (i : Nat) : Fld := ⟨0x1418 + 64 * i, 40, 8⟩
abbrev BNK_OFFT_BLIM (i : Nat) : Fld := ⟨0x1418 + 64 * i, 39, 1⟩
abbrev BNK_OFFT_VERDICT (i : Nat) : Fld := ⟨0x1418 + 64 * i, 35, 4⟩
-- Table 7.12: BNK_CDCFG
abbrev BNK_CDCFG_addr (i j : Nat) : Nat := 0x1419 + 64 * i + j
abbrev BNK_CDCFG_OL_ITH (i j : Nat) : Fld := ⟨0x1419 + 64 * i + j, 38, 10⟩
abbrev BNK_CDCFG_OL_T (i j : Nat) : Fld := ⟨0x1419 + 64 * i + j, 30, 8⟩
abbrev BNK_CDCFG_VDS_TH (i j : Nat) : Fld := ⟨0x1419 + 64 * i + j, 22, 8⟩
abbrev BNK_CDCFG_RISE_MIN (i j : Nat) : Fld := ⟨0x1419 + 64 * i + j, 12, 10⟩
abbrev BNK_CDCFG_RETRY (i j : Nat) : Fld := ⟨0x1419 + 64 * i + j, 9, 3⟩
-- Table 7.13: BNK_CDSTAT
abbrev BNK_CDSTAT_addr (i j : Nat) : Nat := 0x141D + 64 * i + j
abbrev BNK_CDSTAT_LATCH (i j : Nat) : Fld := ⟨0x141D + 64 * i + j, 47, 1⟩
abbrev BNK_CDSTAT_FCODE (i j : Nat) : Fld := ⟨0x141D + 64 * i + j, 43, 4⟩
abbrev BNK_CDSTAT_SUSPECT (i j : Nat) : Fld := ⟨0x141D + 64 * i + j, 42, 1⟩
abbrev BNK_CDSTAT_RETRY_LEFT (i j : Nat) : Fld := ⟨0x141D + 64 * i + j, 39, 3⟩
-- Table 7.14: BNK_CLRES
abbrev BNK_CLRES_addr (i j : Nat) : Nat := 0x1421 + 64 * i + j
abbrev BNK_CLRES_FLAG (i j : Nat) : Fld := ⟨0x1421 + 64 * i + j, 46, 2⟩
abbrev BNK_CLRES_PEAK (i j : Nat) : Fld := ⟨0x1421 + 64 * i + j, 36, 10⟩
abbrev BNK_CLRES_DELAY (i j : Nat) : Fld := ⟨0x1421 + 64 * i + j, 12, 24⟩
abbrev BNK_CLRES_SEQ (i j : Nat) : Fld := ⟨0x1421 + 64 * i + j, 4, 8⟩
-- Table 7.15: BNK_THM
abbrev BNK_THM_addr (i j : Nat) : Nat := 0x1425 + 64 * i + j
abbrev BNK_THM_TEMP (i j : Nat) : Fld := ⟨0x1425 + 64 * i + j, 32, 16⟩
abbrev BNK_THM_LEVEL (i j : Nat) : Fld := ⟨0x1425 + 64 * i + j, 30, 2⟩
abbrev BNK_THM_VALID (i j : Nat) : Fld := ⟨0x1425 + 64 * i + j, 29, 1⟩
abbrev BNK_THM_RMEAS (i j : Nat) : Fld := ⟨0x1425 + 64 * i + j, 13, 16⟩
-- Table 7.16: BNK_THP
abbrev BNK_THP_addr (i j : Nat) : Nat := 0x1429 + 64 * i + j
abbrev BNK_THP_R_REF (i j : Nat) : Fld := ⟨0x1429 + 64 * i + j, 32, 16⟩
abbrev BNK_THP_R_EXT (i j : Nat) : Fld := ⟨0x1429 + 64 * i + j, 20, 12⟩
abbrev BNK_THP_C_TH (i j : Nat) : Fld := ⟨0x1429 + 64 * i + j, 10, 10⟩
abbrev BNK_THP_TAU (i j : Nat) : Fld := ⟨0x1429 + 64 * i + j, 0, 10⟩
-- Table 7.17: BNK_DCNT
abbrev BNK_DCNT_addr (i : Nat) : Nat := 0x142D + 64 * i
abbrev BNK_DCNT_DIAGS (i : Nat) : Fld := ⟨0x142D + 64 * i, 36, 12⟩
abbrev BNK_DCNT_DROP_FAULT (i : Nat) : Fld := ⟨0x142D + 64 * i, 24, 12⟩
abbrev BNK_DCNT_DROP_HOT (i : Nat) : Fld := ⟨0x142D + 64 * i, 12, 12⟩
abbrev BNK_DCNT_OFFT_MISS (i : Nat) : Fld := ⟨0x142D + 64 * i, 0, 12⟩
-- R372: BNK_DCNT_CLR
abbrev BNK_DCNT_CLR_addr (i : Nat) : Nat := 0x142E + 64 * i
abbrev BNK_DCNT_CLR_CLR (i : Nat) : Fld := ⟨0x142E + 64 * i, 0, 48⟩
-- Table 6.21: BST_CFG
abbrev BST_CFG_addr (i : Nat) : Nat := 0x1430 + 256 * i
abbrev BST_CFG_MODE (i : Nat) : Fld := ⟨0x1430 + 256 * i, 47, 1⟩
abbrev BST_CFG_VSET (i : Nat) : Fld := ⟨0x1430 + 256 * i, 39, 8⟩
abbrev BST_CFG_FSW (i : Nat) : Fld := ⟨0x1430 + 256 * i, 36, 3⟩
abbrev BST_CFG_ILIM (i : Nat) : Fld := ⟨0x1430 + 256 * i, 28, 8⟩
-- Table 6.22: BST_LIM
abbrev BST_LIM_addr (i : Nat) : Nat := 0x1431 + 256 * i
abbrev BST_LIM_LOW_M (i : Nat) : Fld := ⟨0x1431 + 256 * i, 40, 8⟩
abbrev BST_LIM_OV_M (i : Nat) : Fld := ⟨0x1431 + 256 * i, 32, 8⟩
abbrev BST_LIM_HYST (i : Nat) : Fld := ⟨0x1431 + 256 * i, 24, 8⟩
-- Table 6.23: BST_STAT
abbrev BST_STAT_addr (i : Nat) : Nat := 0x1432 + 256 * i
abbrev BST_STAT_VRAIL (i : Nat) : Fld := ⟨0x1432 + 256 * i, 36, 12⟩
abbrev BST_STAT_READY (i : Nat) : Fld := ⟨0x1432 + 256 * i, 35, 1⟩
abbrev BST_STAT_LOW (i : Nat) : Fld := ⟨0x1432 + 256 * i, 34, 1⟩
abbrev BST_STAT_OV (i : Nat) : Fld := ⟨0x1432 + 256 * i, 33, 1⟩
abbrev BST_STAT_OV_SEEN (i : Nat) : Fld := ⟨0x1432 + 256 * i, 32, 1⟩
-- Table 6.23: BST_CNT
abbrev BST_CNT_addr (i : Nat) : Nat := 0x1433 + 256 * i
abbrev BST_CNT_LOWS (i : Nat) : Fld := ⟨0x1433 + 256 * i, 32, 16⟩
abbrev BST_CNT_OVS (i : Nat) : Fld := ⟨0x1433 + 256 * i, 16, 16⟩
-- Table 1.10: HDL
abbrev HDL_addr (i j : Nat) : Nat := 0x1800 + 128 * i + j
abbrev HDL_EVEN (i j : Nat) : Fld := ⟨0x1800 + 128 * i + j, 24, 24⟩
abbrev HDL_ODD (i j : Nat) : Fld := ⟨0x1800 + 128 * i + j, 0, 24⟩
-- Table 8.15: ADC_CTRL
abbrev ADC_CTRL_addr : Nat := 0x2000
abbrev ADC_CTRL_CAL_EN : Fld := ⟨0x2000, 47, 1⟩
abbrev ADC_CTRL_CAL_PER : Fld := ⟨0x2000, 39, 8⟩
abbrev ADC_CTRL_ROT_WAIT : Fld := ⟨0x2000, 31, 8⟩
-- Table 8.16: ADC_MAP
abbrev ADC_MAP_addr : Nat := 0x2001
abbrev ADC_MAP_SPARE : Fld := ⟨0x2001, 44, 4⟩
abbrev ADC_MAP_SLOT : Fld := ⟨0x2001, 0, 32⟩
-- Table 8.16: ADC_CALST
abbrev ADC_CALST_addr : Nat := 0x2002
abbrev ADC_CALST_STATE : Fld := ⟨0x2002, 45, 3⟩
abbrev ADC_CALST_SLOT : Fld := ⟨0x2002, 42, 3⟩
abbrev ADC_CALST_SLICE : Fld := ⟨0x2002, 38, 4⟩
abbrev ADC_CALST_ROTS : Fld := ⟨0x2002, 16, 16⟩
abbrev ADC_CALST_ROT_SKIP : Fld := ⟨0x2002, 0, 16⟩
-- Table 8.16: ADC_OWTH
abbrev ADC_OWTH_addr : Nat := 0x2003
abbrev ADC_OWTH_OW_TH : Fld := ⟨0x2003, 0, 16⟩
-- Table 8.17: ADC_SL
abbrev ADC_SL_addr (i : Nat) : Nat := 0x2008 + i
abbrev ADC_SL_OFS (i : Nat) : Fld := ⟨0x2008 + i, 32, 16⟩
abbrev ADC_SL_GAIN (i : Nat) : Fld := ⟨0x2008 + i, 16, 16⟩
abbrev ADC_SL_CST (i : Nat) : Fld := ⟨0x2008 + i, 14, 2⟩
-- Table 8.18: SEQ_CFG
abbrev SEQ_CFG_addr (i : Nat) : Nat := 0x2100 + 16 * i
abbrev SEQ_CFG_TRIG (i : Nat) : Fld := ⟨0x2100 + 16 * i, 45, 3⟩
abbrev SEQ_CFG_SLOT (i : Nat) : Fld := ⟨0x2100 + 16 * i, 42, 3⟩
abbrev SEQ_CFG_NENT (i : Nat) : Fld := ⟨0x2100 + 16 * i, 39, 3⟩
abbrev SEQ_CFG_FORMAT (i : Nat) : Fld := ⟨0x2100 + 16 * i, 38, 1⟩
abbrev SEQ_CFG_SRC_SHT (i : Nat) : Fld := ⟨0x2100 + 16 * i, 32, 6⟩
abbrev SEQ_CFG_CHAIN_SRC (i : Nat) : Fld := ⟨0x2100 + 16 * i, 28, 4⟩
abbrev SEQ_CFG_OW_SET (i : Nat) : Fld := ⟨0x2100 + 16 * i, 20, 8⟩
-- Table 8.19: SEQ_BUF
abbrev SEQ_BUF_addr (i : Nat) : Nat := 0x2101 + 16 * i
abbrev SEQ_BUF_BASE (i : Nat) : Fld := ⟨0x2101 + 16 * i, 31, 17⟩
abbrev SEQ_BUF_LOG2LEN (i : Nat) : Fld := ⟨0x2101 + 16 * i, 26, 5⟩
-- Table 8.19: SEQ_TIMER
abbrev SEQ_TIMER_addr (i : Nat) : Nat := 0x2102 + 16 * i
abbrev SEQ_TIMER_PER (i : Nat) : Fld := ⟨0x2102 + 16 * i, 28, 20⟩
-- Table 8.19: SEQ_CTRL
abbrev SEQ_CTRL_addr (i : Nat) : Nat := 0x2103 + 16 * i
abbrev SEQ_CTRL_CLR (i : Nat) : Fld := ⟨0x2103 + 16 * i, 2, 1⟩
abbrev SEQ_CTRL_GO (i : Nat) : Fld := ⟨0x2103 + 16 * i, 1, 1⟩
abbrev SEQ_CTRL_EN (i : Nat) : Fld := ⟨0x2103 + 16 * i, 0, 1⟩
-- Table 8.20: SEQ_STAT
abbrev SEQ_STAT_addr (i : Nat) : Nat := 0x2104 + 16 * i
abbrev SEQ_STAT_WIN (i : Nat) : Fld := ⟨0x2104 + 16 * i, 47, 1⟩
abbrev SEQ_STAT_RUN (i : Nat) : Fld := ⟨0x2104 + 16 * i, 46, 1⟩
abbrev SEQ_STAT_PEND (i : Nat) : Fld := ⟨0x2104 + 16 * i, 45, 1⟩
abbrev SEQ_STAT_WPTR (i : Nat) : Fld := ⟨0x2104 + 16 * i, 28, 17⟩
abbrev SEQ_STAT_PASSES (i : Nat) : Fld := ⟨0x2104 + 16 * i, 0, 28⟩
-- Table 8.20: SEQ_WIN
abbrev SEQ_WIN_addr (i : Nat) : Nat := 0x2105 + 16 * i
abbrev SEQ_WIN_START (i : Nat) : Fld := ⟨0x2105 + 16 * i, 31, 17⟩
abbrev SEQ_WIN_TICKS (i : Nat) : Fld := ⟨0x2105 + 16 * i, 15, 16⟩
abbrev SEQ_WIN_OMIT (i : Nat) : Fld := ⟨0x2105 + 16 * i, 7, 8⟩
abbrev SEQ_WIN_LATE (i : Nat) : Fld := ⟨0x2105 + 16 * i, 6, 1⟩
abbrev SEQ_WIN_INCOMPLETE (i : Nat) : Fld := ⟨0x2105 + 16 * i, 5, 1⟩
-- Table 8.21: SEQ_CNT0
abbrev SEQ_CNT0_addr (i : Nat) : Nat := 0x2106 + 16 * i
abbrev SEQ_CNT0_OVERRUN (i : Nat) : Fld := ⟨0x2106 + 16 * i, 32, 16⟩
abbrev SEQ_CNT0_SLIP (i : Nat) : Fld := ⟨0x2106 + 16 * i, 16, 16⟩
abbrev SEQ_CNT0_OWSKIP (i : Nat) : Fld := ⟨0x2106 + 16 * i, 0, 16⟩
-- Table 8.21: SEQ_CNT1
abbrev SEQ_CNT1_addr (i : Nat) : Nat := 0x2107 + 16 * i
abbrev SEQ_CNT1_OW_CLASH (i : Nat) : Fld := ⟨0x2107 + 16 * i, 32, 16⟩
abbrev SEQ_CNT1_SRC_ERR (i : Nat) : Fld := ⟨0x2107 + 16 * i, 16, 16⟩
-- Table 8.22: SEQ_ENT
abbrev SEQ_ENT_addr (i j : Nat) : Nat := 0x2108 + 16 * i + j
abbrev SEQ_ENT_INPUT (i j : Nat) : Fld := ⟨0x2108 + 16 * i + j, 42, 6⟩
abbrev SEQ_ENT_RAW (i j : Nat) : Fld := ⟨0x2108 + 16 * i + j, 41, 1⟩
abbrev SEQ_ENT_OW (i j : Nat) : Fld := ⟨0x2108 + 16 * i + j, 39, 2⟩
-- Table 8.23: ADC_IN
abbrev ADC_IN_addr (i : Nat) : Nat := 0x2200 + i
abbrev ADC_IN_VALUE (i : Nat) : Fld := ⟨0x2200 + i, 32, 16⟩
abbrev ADC_IN_INPUT (i : Nat) : Fld := ⟨0x2200 + i, 26, 6⟩
abbrev ADC_IN_SAT (i : Nat) : Fld := ⟨0x2200 + i, 25, 1⟩
abbrev ADC_IN_OWACT (i : Nat) : Fld := ⟨0x2200 + i, 24, 1⟩
abbrev ADC_IN_TIME (i : Nat) : Fld := ⟨0x2200 + i, 0, 24⟩
-- Table 8.23: ADC_OW
abbrev ADC_OW_addr (i : Nat) : Nat := 0x2240 + i
abbrev ADC_OW_VERDICT (i : Nat) : Fld := ⟨0x2240 + i, 45, 3⟩
abbrev ADC_OW_RUNS (i : Nat) : Fld := ⟨0x2240 + i, 37, 8⟩
abbrev ADC_OW_DPOS (i : Nat) : Fld := ⟨0x2240 + i, 16, 16⟩
abbrev ADC_OW_DNEG (i : Nat) : Fld := ⟨0x2240 + i, 0, 16⟩
-- Table 8.24: CMP_CTRL
abbrev CMP_CTRL_addr : Nat := 0x2400
abbrev CMP_CTRL_ST_EN : Fld := ⟨0x2400, 47, 1⟩
abbrev CMP_CTRL_ST_PER : Fld := ⟨0x2400, 39, 8⟩
-- Table 8.24: CMP_STAT
abbrev CMP_STAT_addr : Nat := 0x2401
abbrev CMP_STAT_BANK_STF : Fld := ⟨0x2401, 36, 12⟩
abbrev CMP_STAT_WM_STF : Fld := ⟨0x2401, 28, 8⟩
abbrev CMP_STAT_SM_STF : Fld := ⟨0x2401, 22, 6⟩
-- Table 8.24: CMP_BK
abbrev CMP_BK_addr (i : Nat) : Nat := 0x2410 + i
abbrev CMP_BK_INIT (i : Nat) : Fld := ⟨0x2410 + i, 40, 8⟩
abbrev CMP_BK_FAILMASK (i : Nat) : Fld := ⟨0x2410 + i, 32, 8⟩
abbrev CMP_BK_ST_RUNS (i : Nat) : Fld := ⟨0x2410 + i, 16, 16⟩
-- Table 8.25: PT_CFG
abbrev PT_CFG_addr (i : Nat) : Nat := 0x2420 + i
abbrev PT_CFG_EN (i : Nat) : Fld := ⟨0x2420 + i, 47, 1⟩
abbrev PT_CFG_PER (i : Nat) : Fld := ⟨0x2420 + i, 31, 16⟩
abbrev PT_CFG_HIGH (i : Nat) : Fld := ⟨0x2420 + i, 15, 16⟩
-- Table 8.26: WM_CFG
abbrev WM_CFG_addr (i : Nat) : Nat := 0x2440 + 8 * i
abbrev WM_CFG_EN (i : Nat) : Fld := ⟨0x2440 + 8 * i, 47, 1⟩
abbrev WM_CFG_SRC (i : Nat) : Fld := ⟨0x2440 + 8 * i, 43, 4⟩
abbrev WM_CFG_MODE (i : Nat) : Fld := ⟨0x2440 + 8 * i, 41, 2⟩
abbrev WM_CFG_LMODE (i : Nat) : Fld := ⟨0x2440 + 8 * i, 39, 2⟩
abbrev WM_CFG_PSEL (i : Nat) : Fld := ⟨0x2440 + 8 * i, 32, 7⟩
abbrev WM_CFG_ACT (i : Nat) : Fld := ⟨0x2440 + 8 * i, 31, 1⟩
abbrev WM_CFG_ST_EN (i : Nat) : Fld := ⟨0x2440 + 8 * i, 30, 1⟩
abbrev WM_CFG_RATE (i : Nat) : Fld := ⟨0x2440 + 8 * i, 22, 8⟩
-- Table 8.26: WM_TH
abbrev WM_TH_addr (i : Nat) : Nat := 0x2441 + 8 * i
abbrev WM_TH_LO (i : Nat) : Fld := ⟨0x2441 + 8 * i, 38, 10⟩
abbrev WM_TH_HI (i : Nat) : Fld := ⟨0x2441 + 8 * i, 28, 10⟩
abbrev WM_TH_HYS (i : Nat) : Fld := ⟨0x2441 + 8 * i, 22, 6⟩
-- Table 8.26: WM_BLK
abbrev WM_BLK_addr (i : Nat) : Nat := 0x2442 + 8 * i
abbrev WM_BLK_BSEL (i : Nat) : Fld := ⟨0x2442 + 8 * i, 41, 7⟩
abbrev WM_BLK_BLK_T (i : Nat) : Fld := ⟨0x2442 + 8 * i, 29, 12⟩
-- Table 8.27: WM_STAT
abbrev WM_STAT_addr (i : Nat) : Nat := 0x2443 + 8 * i
abbrev WM_STAT_CLASS (i : Nat) : Fld := ⟨0x2443 + 8 * i, 46, 2⟩
abbrev WM_STAT_LATCHED (i : Nat) : Fld := ⟨0x2443 + 8 * i, 45, 1⟩
abbrev WM_STAT_LCLASS (i : Nat) : Fld := ⟨0x2443 + 8 * i, 43, 2⟩
abbrev WM_STAT_INIT_LO (i : Nat) : Fld := ⟨0x2443 + 8 * i, 42, 1⟩
abbrev WM_STAT_INIT_HI (i : Nat) : Fld := ⟨0x2443 + 8 * i, 41, 1⟩
abbrev WM_STAT_STF (i : Nat) : Fld := ⟨0x2443 + 8 * i, 40, 1⟩
-- Table 8.27: WM_CNT
abbrev WM_CNT_addr (i : Nat) : Nat := 0x2444 + 8 * i
abbrev WM_CNT_TRIPS (i : Nat) : Fld := ⟨0x2444 + 8 * i, 32, 16⟩
abbrev WM_CNT_SUPP (i : Nat) : Fld := ⟨0x2444 + 8 * i, 16, 16⟩
-- Table 8.27: WM_CNT_CLR
abbrev WM_CNT_CLR_addr (i : Nat) : Nat := 0x2445 + 8 * i
abbrev WM_CNT_CLR_CLR (i : Nat) : Fld := ⟨0x2445 + 8 * i, 0, 48⟩
-- Table 8.28: SM_STAT
abbrev SM_STAT_addr (i : Nat) : Nat := 0x2480 + i
abbrev SM_STAT_OUT (i : Nat) : Fld := ⟨0x2480 + i, 47, 1⟩
abbrev SM_STAT_INIT (i : Nat) : Fld := ⟨0x2480 + i, 46, 1⟩
abbrev SM_STAT_MODE (i : Nat) : Fld := ⟨0x2480 + i, 44, 2⟩
abbrev SM_STAT_ST_EN (i : Nat) : Fld := ⟨0x2480 + i, 43, 1⟩
abbrev SM_STAT_STF (i : Nat) : Fld := ⟨0x2480 + i, 42, 1⟩
-- Table 9.9: CMB_CFG
abbrev CMB_CFG_addr (i : Nat) : Nat := 0x2800 + 32 * i
abbrev CMB_CFG_EN (i : Nat) : Fld := ⟨0x2800 + 32 * i, 47, 1⟩
abbrev CMB_CFG_PEG_MODE (i : Nat) : Fld := ⟨0x2800 + 32 * i, 46, 1⟩
abbrev CMB_CFG_PEG_HW (i : Nat) : Fld := ⟨0x2800 + 32 * i, 43, 3⟩
abbrev CMB_CFG_NV (i : Nat) : Fld := ⟨0x2800 + 32 * i, 31, 12⟩
abbrev CMB_CFG_TABERR (i : Nat) : Fld := ⟨0x2800 + 32 * i, 30, 1⟩
-- Table 9.9: CMB_IDX0
abbrev CMB_IDX0_addr (i : Nat) : Nat := 0x2801 + 32 * i
abbrev CMB_IDX0_PEG_IA (i : Nat) : Fld := ⟨0x2801 + 32 * i, 36, 12⟩
abbrev CMB_IDX0_PEG_IB (i : Nat) : Fld := ⟨0x2801 + 32 * i, 24, 12⟩
abbrev CMB_IDX0_HR_IA (i : Nat) : Fld := ⟨0x2801 + 32 * i, 12, 12⟩
abbrev CMB_IDX0_HR_IB (i : Nat) : Fld := ⟨0x2801 + 32 * i, 0, 12⟩
-- Table 9.9: CMB_IDX1
abbrev CMB_IDX1_addr (i : Nat) : Nat := 0x2802 + 32 * i
abbrev CMB_IDX1_RING_IA (i : Nat) : Fld := ⟨0x2802 + 32 * i, 36, 12⟩
abbrev CMB_IDX1_RING_IB (i : Nat) : Fld := ⟨0x2802 + 32 * i, 24, 12⟩
-- Table 9.9: CMB_GEO
abbrev CMB_GEO_addr (i : Nat) : Nat := 0x2803 + 32 * i
abbrev CMB_GEO_OPEN_REL (i : Nat) : Fld := ⟨0x2803 + 32 * i, 16, 32⟩
-- Table 9.9: CMB_STEP
abbrev CMB_STEP_addr (i : Nat) : Nat := 0x2804 + 32 * i
abbrev CMB_STEP_STEP (i : Nat) : Fld := ⟨0x2804 + 32 * i, 24, 24⟩
abbrev CMB_STEP_INV2STEP (i : Nat) : Fld := ⟨0x2804 + 32 * i, 0, 24⟩
-- Table 9.9: CMB_RN
abbrev CMB_RN_addr (i : Nat) : Nat := 0x2805 + 32 * i
abbrev CMB_RN_RN (i : Nat) : Fld := ⟨0x2805 + 32 * i, 0, 48⟩
-- Table 9.9: CMB_PSC
abbrev CMB_PSC_addr (i : Nat) : Nat := 0x2806 + 32 * i
abbrev CMB_PSC_PSCALE (i : Nat) : Fld := ⟨0x2806 + 32 * i, 0, 48⟩
-- Table 9.9: CMB_STAT
abbrev CMB_STAT_addr (i : Nat) : Nat := 0x2807 + 32 * i
abbrev CMB_STAT_RECS (i : Nat) : Fld := ⟨0x2807 + 32 * i, 32, 16⟩
abbrev CMB_STAT_INVALID (i : Nat) : Fld := ⟨0x2807 + 32 * i, 16, 16⟩
abbrev CMB_STAT_OVERRUN (i : Nat) : Fld := ⟨0x2807 + 32 * i, 0, 16⟩
-- R483: CMB_CNT_CLR
abbrev CMB_CNT_CLR_addr (i : Nat) : Nat := 0x2808 + 32 * i
abbrev CMB_CNT_CLR_CLR (i : Nat) : Fld := ⟨0x2808 + 32 * i, 0, 48⟩
-- Table 9.9: CMB_RES
abbrev CMB_RES_addr (i j : Nat) : Nat := 0x2810 + 32 * i + j
abbrev CMB_RES_WORD (i j : Nat) : Fld := ⟨0x2810 + 32 * i + j, 0, 48⟩
-- Table 9.10: QM_CFG
abbrev QM_CFG_addr (i : Nat) : Nat := 0x2C00 + 64 * i
abbrev QM_CFG_EN (i : Nat) : Fld := ⟨0x2C00 + 64 * i, 47, 1⟩
abbrev QM_CFG_SEP_EN (i : Nat) : Fld := ⟨0x2C00 + 64 * i, 46, 1⟩
abbrev QM_CFG_DR_EN (i : Nat) : Fld := ⟨0x2C00 + 64 * i, 45, 1⟩
abbrev QM_CFG_NX (i : Nat) : Fld := ⟨0x2C00 + 64 * i, 40, 5⟩
abbrev QM_CFG_NY (i : Nat) : Fld := ⟨0x2C00 + 64 * i, 35, 5⟩
abbrev QM_CFG_NS (i : Nat) : Fld := ⟨0x2C00 + 64 * i, 30, 5⟩
abbrev QM_CFG_Y_PIN (i : Nat) : Fld := ⟨0x2C00 + 64 * i, 28, 2⟩
abbrev QM_CFG_BUILD_OFS (i : Nat) : Fld := ⟨0x2C00 + 64 * i, 12, 16⟩
abbrev QM_CFG_TABERR (i : Nat) : Fld := ⟨0x2C00 + 64 * i, 11, 1⟩
abbrev QM_CFG_PIN_LOST (i : Nat) : Fld := ⟨0x2C00 + 64 * i, 10, 1⟩
-- Table 9.10: QM_DLIM
abbrev QM_DLIM_addr (i : Nat) : Nat := 0x2C01 + 64 * i
abbrev QM_DLIM_DMIN (i : Nat) : Fld := ⟨0x2C01 + 64 * i, 24, 24⟩
abbrev QM_DLIM_DMAX (i : Nat) : Fld := ⟨0x2C01 + 64 * i, 0, 24⟩
-- Table 9.10: QM_DR
abbrev QM_DR_addr (i : Nat) : Nat := 0x2C02 + 64 * i
abbrev QM_DR_DR_SH (i : Nat) : Fld := ⟨0x2C02 + 64 * i, 45, 3⟩
abbrev QM_DR_DR_GAIN (i : Nat) : Fld := ⟨0x2C02 + 64 * i, 37, 8⟩
abbrev QM_DR_DRIFT_MAX (i : Nat) : Fld := ⟨0x2C02 + 64 * i, 21, 16⟩
abbrev QM_DR_DR_DMIN (i : Nat) : Fld := ⟨0x2C02 + 64 * i, 5, 16⟩
-- Table 9.10: QM_DR1
abbrev QM_DR1_addr (i : Nat) : Nat := 0x2C03 + 64 * i
abbrev QM_DR1_DR_PLO (i : Nat) : Fld := ⟨0x2C03 + 64 * i, 28, 20⟩
abbrev QM_DR1_DR_PHI (i : Nat) : Fld := ⟨0x2C03 + 64 * i, 8, 20⟩
-- Table 9.10: QM_STAT
abbrev QM_STAT_addr (i : Nat) : Nat := 0x2C04 + 64 * i
abbrev QM_STAT_BUILDS (i : Nat) : Fld := ⟨0x2C04 + 64 * i, 32, 16⟩
abbrev QM_STAT_CLAMPS (i : Nat) : Fld := ⟨0x2C04 + 64 * i, 16, 16⟩
abbrev QM_STAT_BUILD_SKIP (i : Nat) : Fld := ⟨0x2C04 + 64 * i, 0, 16⟩
-- R483: QM_CNT_CLR
abbrev QM_CNT_CLR_addr (i : Nat) : Nat := 0x2C05 + 64 * i
abbrev QM_CNT_CLR_CLR (i : Nat) : Fld := ⟨0x2C05 + 64 * i, 0, 48⟩
-- Table 9.10: QM_CYL
abbrev QM_CYL_addr (i j : Nat) : Nat := 0x2C20 + 64 * i + j
abbrev QM_CYL_TDC (i j : Nat) : Fld := ⟨0x2C20 + 64 * i + j, 16, 32⟩
abbrev QM_CYL_SHT (i j : Nat) : Fld := ⟨0x2C20 + 64 * i + j, 10, 6⟩
abbrev QM_CYL_BANK (i j : Nat) : Fld := ⟨0x2C20 + 64 * i + j, 6, 4⟩
abbrev QM_CYL_CH (i j : Nat) : Fld := ⟨0x2C20 + 64 * i + j, 4, 2⟩
abbrev QM_CYL_EN (i j : Nat) : Fld := ⟨0x2C20 + 64 * i + j, 3, 1⟩
-- Table 9.11: TRM_CTRL
abbrev TRM_CTRL_addr : Nat := 0x2D00
abbrev TRM_CTRL_TL_EN : Fld := ⟨0x2D00, 47, 1⟩
abbrev TRM_CTRL_BAL_EN : Fld := ⟨0x2D00, 46, 1⟩
abbrev TRM_CTRL_BAL_KIND : Fld := ⟨0x2D00, 45, 1⟩
abbrev TRM_CTRL_KT : Fld := ⟨0x2D00, 37, 8⟩
abbrev TRM_CTRL_KB : Fld := ⟨0x2D00, 29, 8⟩
abbrev TRM_CTRL_INV_HOLD : Fld := ⟨0x2D00, 21, 8⟩
-- Table 9.11: TRM_LIM
abbrev TRM_LIM_addr : Nat := 0x2D01
abbrev TRM_LIM_TT_LIM : Fld := ⟨0x2D01, 38, 10⟩
abbrev TRM_LIM_TT_STEP : Fld := ⟨0x2D01, 30, 8⟩
abbrev TRM_LIM_BAL_LIM : Fld := ⟨0x2D01, 22, 8⟩
abbrev TRM_LIM_BAL_STEP : Fld := ⟨0x2D01, 14, 8⟩
-- Table 9.11: TRM_STAT
abbrev TRM_STAT_addr : Nat := 0x2D02
abbrev TRM_STAT_LOST : Fld := ⟨0x2D02, 24, 24⟩
abbrev TRM_STAT_UPDATES : Fld := ⟨0x2D02, 0, 24⟩
-- Table 9.11: RP_CFG
abbrev RP_CFG_addr : Nat := 0x2D80
abbrev RP_CFG_EN : Fld := ⟨0x2D80, 47, 1⟩
abbrev RP_CFG_INV : Fld := ⟨0x2D80, 46, 1⟩
abbrev RP_CFG_RP_PER : Fld := ⟨0x2D80, 38, 8⟩
abbrev RP_CFG_RP_DEV : Fld := ⟨0x2D80, 18, 20⟩
-- Table 9.11: RP_SET
abbrev RP_SET_addr : Nat := 0x2D81
abbrev RP_SET_RP_SET : Fld := ⟨0x2D81, 28, 20⟩
abbrev RP_SET_RAMP : Fld := ⟨0x2D81, 12, 16⟩
-- Table 9.11: RP_GAIN
abbrev RP_GAIN_addr : Nat := 0x2D82
abbrev RP_GAIN_KP : Fld := ⟨0x2D82, 24, 24⟩
abbrev RP_GAIN_KI : Fld := ⟨0x2D82, 0, 24⟩
-- Table 9.11: RP_OUT
abbrev RP_OUT_addr : Nat := 0x2D83
abbrev RP_OUT_FF : Fld := ⟨0x2D83, 36, 12⟩
abbrev RP_OUT_IMIN : Fld := ⟨0x2D83, 24, 12⟩
abbrev RP_OUT_IMAX : Fld := ⟨0x2D83, 12, 12⟩
abbrev RP_OUT_FAIL : Fld := ⟨0x2D83, 0, 12⟩
-- Table 9.11: RP_LIM
abbrev RP_LIM_addr : Nat := 0x2D84
abbrev RP_LIM_RP_MAX : Fld := ⟨0x2D84, 28, 20⟩
abbrev RP_LIM_FF_BASE : Fld := ⟨0x2D84, 16, 12⟩
-- Table 9.11: RP_STAT
abbrev RP_STAT_addr : Nat := 0x2D85
abbrev RP_STAT_P_MEAS : Fld := ⟨0x2D85, 28, 20⟩
abbrev RP_STAT_U : Fld := ⟨0x2D85, 16, 12⟩
abbrev RP_STAT_BACKUP : Fld := ⟨0x2D85, 15, 1⟩
abbrev RP_STAT_SENSF : Fld := ⟨0x2D85, 14, 1⟩
abbrev RP_STAT_DISAGREE : Fld := ⟨0x2D85, 13, 1⟩
abbrev RP_STAT_OVP : Fld := ⟨0x2D85, 12, 1⟩
abbrev RP_STAT_EVENTS : Fld := ⟨0x2D85, 0, 12⟩
-- R483: RP_CNT_CLR
abbrev RP_CNT_CLR_addr : Nat := 0x2D86
abbrev RP_CNT_CLR_CLR : Fld := ⟨0x2D86, 0, 48⟩
-- Table 9.11: OVS_CFG
abbrev OVS_CFG_addr : Nat := 0x2E00
abbrev OVS_CFG_CUT : Fld := ⟨0x2E00, 35, 13⟩
abbrev OVS_CFG_HYS : Fld := ⟨0x2E00, 27, 8⟩
abbrev OVS_CFG_TRIP : Fld := ⟨0x2E00, 14, 13⟩
-- Table 9.11: OVS_STAT
abbrev OVS_STAT_addr : Nat := 0x2E01
abbrev OVS_STAT_SPEED : Fld := ⟨0x2E01, 32, 16⟩
abbrev OVS_STAT_CUT : Fld := ⟨0x2E01, 31, 1⟩
abbrev OVS_STAT_CUTS : Fld := ⟨0x2E01, 0, 16⟩
-- Table 9.12: SVC_PINCFG
abbrev SVC_PINCFG_addr (i : Nat) : Nat := 0x2E40 + 2 * i
abbrev SVC_PINCFG_SRC (i : Nat) : Fld := ⟨0x2E40 + 2 * i, 42, 6⟩
abbrev SVC_PINCFG_RLO (i : Nat) : Fld := ⟨0x2E40 + 2 * i, 22, 20⟩
abbrev SVC_PINCFG_RHI (i : Nat) : Fld := ⟨0x2E40 + 2 * i, 2, 20⟩
-- Table 9.12: SVC_PINSCL
abbrev SVC_PINSCL_addr (i : Nat) : Nat := 0x2E41 + 2 * i
abbrev SVC_PINSCL_SCALE (i : Nat) : Fld := ⟨0x2E41 + 2 * i, 24, 24⟩
abbrev SVC_PINSCL_OFFS (i : Nat) : Fld := ⟨0x2E41 + 2 * i, 0, 24⟩
-- Table 9.12: SVC_PINSTAT
abbrev SVC_PINSTAT_addr (i : Nat) : Nat := 0x2E48 + i
abbrev SVC_PINSTAT_VALUE (i : Nat) : Fld := ⟨0x2E48 + i, 24, 24⟩
abbrev SVC_PINSTAT_VALID (i : Nat) : Fld := ⟨0x2E48 + i, 23, 1⟩
-- Table 9.12: SVC_DEM
abbrev SVC_DEM_addr : Nat := 0x2E80
abbrev SVC_DEM_SWAP : Fld := ⟨0x2E80, 47, 1⟩
abbrev SVC_DEM_PAGE : Fld := ⟨0x2E80, 46, 1⟩
abbrev SVC_DEM_VALID : Fld := ⟨0x2E80, 45, 1⟩
abbrev SVC_DEM_DEM_STALE : Fld := ⟨0x2E80, 44, 1⟩
abbrev SVC_DEM_DEM_TMO : Fld := ⟨0x2E80, 36, 8⟩
abbrev SVC_DEM_Q_FB : Fld := ⟨0x2E80, 12, 24⟩
-- Table 9.12: SVC_CYCLE
abbrev SVC_CYCLE_addr : Nat := 0x2E81
abbrev SVC_CYCLE_CYCLE : Fld := ⟨0x2E81, 0, 32⟩
-- Table 9.12: SVC_HR
abbrev SVC_HR_addr : Nat := 0x2F00
abbrev SVC_HR_G1 : Fld := ⟨0x2F00, 24, 24⟩
abbrev SVC_HR_G2 : Fld := ⟨0x2F00, 0, 24⟩
-- Table 9.12: SVC_VS
abbrev SVC_VS_addr : Nat := 0x2F01
abbrev SVC_VS_VS : Fld := ⟨0x2F01, 0, 48⟩
-- Table 9.12: SVC_PEGLIM
abbrev SVC_PEGLIM_addr : Nat := 0x2F02
abbrev SVC_PEGLIM_PEG_MIN : Fld := ⟨0x2F02, 24, 24⟩
abbrev SVC_PEGLIM_PEG_MAX : Fld := ⟨0x2F02, 0, 24⟩
-- Table 9.12: SVC_RLIM
abbrev SVC_RLIM_addr : Nat := 0x2F03
abbrev SVC_RLIM_IMEP_MIN : Fld := ⟨0x2F03, 24, 24⟩
abbrev SVC_RLIM_IMEP_MAX : Fld := ⟨0x2F03, 0, 24⟩
-- Table 9.12: SVC_PLIM
abbrev SVC_PLIM_addr : Nat := 0x2F04
abbrev SVC_PLIM_PMAX_LIM : Fld := ⟨0x2F04, 24, 24⟩
abbrev SVC_PLIM_QMIN : Fld := ⟨0x2F04, 0, 24⟩
-- Table 10.8: IDN_CMD
abbrev IDN_CMD_addr : Nat := 0x3000
abbrev IDN_CMD_CMD : Fld := ⟨0x3000, 0, 4⟩
-- Table 10.8: IDN_STAT
abbrev IDN_STAT_addr : Nat := 0x3001
abbrev IDN_STAT_STATE : Fld := ⟨0x3001, 46, 2⟩
abbrev IDN_STAT_CMD_REJ : Fld := ⟨0x3001, 45, 1⟩
abbrev IDN_STAT_RC_EN : Fld := ⟨0x3001, 44, 1⟩
abbrev IDN_STAT_RC_PER : Fld := ⟨0x3001, 36, 8⟩
abbrev IDN_STAT_TIME : Fld := ⟨0x3001, 0, 16⟩
-- Table 10.9: IDN_LINE
abbrev IDN_LINE_addr (i : Nat) : Nat := 0x3010 + i
abbrev IDN_LINE_PRESENT (i : Nat) : Fld := ⟨0x3010 + i, 32, 16⟩
abbrev IDN_LINE_LOST (i : Nat) : Fld := ⟨0x3010 + i, 16, 16⟩
abbrev IDN_LINE_FAULT (i : Nat) : Fld := ⟨0x3010 + i, 14, 2⟩
abbrev IDN_LINE_INIT (i : Nat) : Fld := ⟨0x3010 + i, 13, 1⟩
-- Table 10.10: IDN_EXP
abbrev IDN_EXP_addr (i : Nat) : Nat := 0x3020 + i
abbrev IDN_EXP_TYPE (i : Nat) : Fld := ⟨0x3020 + i, 40, 8⟩
-- Table 10.10: IDN_SITE0
abbrev IDN_SITE0_addr (i : Nat) : Nat := 0x3080 + 2 * i
abbrev IDN_SITE0_SERIAL (i : Nat) : Fld := ⟨0x3080 + 2 * i, 0, 48⟩
-- Table 10.10: IDN_SITE1
abbrev IDN_SITE1_addr (i : Nat) : Nat := 0x3081 + 2 * i
abbrev IDN_SITE1_STATE (i : Nat) : Fld := ⟨0x3081 + 2 * i, 44, 4⟩
abbrev IDN_SITE1_TYPE (i : Nat) : Fld := ⟨0x3081 + 2 * i, 36, 8⟩
abbrev IDN_SITE1_REPLACED (i : Nat) : Fld := ⟨0x3081 + 2 * i, 35, 1⟩
abbrev IDN_SITE1_MOVED (i : Nat) : Fld := ⟨0x3081 + 2 * i, 34, 1⟩
-- Table 10.11: CAL_CTRL
abbrev CAL_CTRL_addr : Nat := 0x3400
abbrev CAL_CTRL_USE_ID : Fld := ⟨0x3400, 47, 1⟩
abbrev CAL_CTRL_REQ_ID : Fld := ⟨0x3400, 46, 1⟩
-- Table 10.11: CAL_STAT
abbrev CAL_STAT_addr : Nat := 0x3401
abbrev CAL_STAT_CLAMPED : Fld := ⟨0x3401, 47, 1⟩
abbrev CAL_STAT_FORMS : Fld := ⟨0x3401, 0, 32⟩
-- Table 10.11: CAL_NOM
abbrev CAL_NOM_addr (i : Nat) : Nat := 0x3408 + i
abbrev CAL_NOM_RREF (i : Nat) : Fld := ⟨0x3408 + i, 32, 16⟩
abbrev CAL_NOM_CD0 (i : Nat) : Fld := ⟨0x3408 + i, 16, 16⟩
-- Table 10.11: CAL_NOM4
abbrev CAL_NOM4_addr : Nat := 0x340B
abbrev CAL_NOM4_SENS : Fld := ⟨0x340B, 16, 32⟩
-- Table 10.12: CAL_IN
abbrev CAL_IN_addr (i : Nat) : Nat := 0x3410 + i
abbrev CAL_IN_UO (i : Nat) : Fld := ⟨0x3410 + i, 32, 16⟩
abbrev CAL_IN_UG (i : Nat) : Fld := ⟨0x3410 + i, 16, 16⟩
-- Table 10.12: CAL_ACT
abbrev CAL_ACT_addr (i : Nat) : Nat := 0x3440 + i
abbrev CAL_ACT_UIG (i : Nat) : Fld := ⟨0x3440 + i, 32, 16⟩
abbrev CAL_ACT_UIO (i : Nat) : Fld := ⟨0x3440 + i, 16, 16⟩
abbrev CAL_ACT_UCD (i : Nat) : Fld := ⟨0x3440 + i, 0, 16⟩
-- Table 10.12: CAL_ACTR
abbrev CAL_ACTR_addr (i : Nat) : Nat := 0x3470 + i
abbrev CAL_ACTR_URR (i : Nat) : Fld := ⟨0x3470 + i, 32, 16⟩
-- Table 10.12: CAL_PS
abbrev CAL_PS_addr (i : Nat) : Nat := 0x34A0 + i
abbrev CAL_PS_INPUT (i : Nat) : Fld := ⟨0x34A0 + i, 42, 6⟩
abbrev CAL_PS_UG (i : Nat) : Fld := ⟨0x34A0 + i, 26, 16⟩
-- Table 10.13: CAL_FIN
abbrev CAL_FIN_addr (i : Nat) : Nat := 0x3500 + i
abbrev CAL_FIN_OFS (i : Nat) : Fld := ⟨0x3500 + i, 32, 16⟩
abbrev CAL_FIN_GAIN (i : Nat) : Fld := ⟨0x3500 + i, 16, 16⟩
-- Table 10.13: CAL_EA
abbrev CAL_EA_addr (i : Nat) : Nat := 0x3540 + i
abbrev CAL_EA_IG (i : Nat) : Fld := ⟨0x3540 + i, 32, 16⟩
abbrev CAL_EA_IO (i : Nat) : Fld := ⟨0x3540 + i, 16, 16⟩
abbrev CAL_EA_CD0 (i : Nat) : Fld := ⟨0x3540 + i, 0, 16⟩
-- Table 11.15: LNK_HSPI
abbrev LNK_HSPI_addr : Nat := 0x3800
abbrev LNK_HSPI_CRCERR : Fld := ⟨0x3800, 32, 16⟩
abbrev LNK_HSPI_LENERR : Fld := ⟨0x3800, 16, 16⟩
abbrev LNK_HSPI_LATES : Fld := ⟨0x3800, 0, 16⟩
-- Table 11.15: LNK_HSPI_CNT_CLR
abbrev LNK_HSPI_CNT_CLR_addr : Nat := 0x3801
abbrev LNK_HSPI_CNT_CLR_CLR : Fld := ⟨0x3801, 0, 48⟩
-- Table 11.16: CAN_CFG
abbrev CAN_CFG_addr (i : Nat) : Nat := 0x3820 + 32 * i
abbrev CAN_CFG_EN (i : Nat) : Fld := ⟨0x3820 + 32 * i, 47, 1⟩
abbrev CAN_CFG_MODE (i : Nat) : Fld := ⟨0x3820 + 32 * i, 45, 2⟩
abbrev CAN_CFG_FD_EN (i : Nat) : Fld := ⟨0x3820 + 32 * i, 44, 1⟩
abbrev CAN_CFG_AUTO_REC (i : Nat) : Fld := ⟨0x3820 + 32 * i, 43, 1⟩
abbrev CAN_CFG_BRS_EN (i : Nat) : Fld := ⟨0x3820 + 32 * i, 42, 1⟩
abbrev CAN_CFG_TDCO (i : Nat) : Fld := ⟨0x3820 + 32 * i, 35, 7⟩
abbrev CAN_CFG_RES_EN (i : Nat) : Fld := ⟨0x3820 + 32 * i, 34, 1⟩
abbrev CAN_CFG_RES_IDE (i : Nat) : Fld := ⟨0x3820 + 32 * i, 33, 1⟩
abbrev CAN_CFG_RES_ID (i : Nat) : Fld := ⟨0x3820 + 32 * i, 4, 29⟩
-- Table 11.16: CAN_NBT
abbrev CAN_NBT_addr (i : Nat) : Nat := 0x3821 + 32 * i
abbrev CAN_NBT_NBRP (i : Nat) : Fld := ⟨0x3821 + 32 * i, 39, 9⟩
abbrev CAN_NBT_NTSEG1 (i : Nat) : Fld := ⟨0x3821 + 32 * i, 31, 8⟩
abbrev CAN_NBT_NTSEG2 (i : Nat) : Fld := ⟨0x3821 + 32 * i, 24, 7⟩
abbrev CAN_NBT_NSJW (i : Nat) : Fld := ⟨0x3821 + 32 * i, 17, 7⟩
abbrev CAN_NBT_DBRP (i : Nat) : Fld := ⟨0x3821 + 32 * i, 12, 5⟩
abbrev CAN_NBT_DTSEG1 (i : Nat) : Fld := ⟨0x3821 + 32 * i, 7, 5⟩
abbrev CAN_NBT_DTSEG2 (i : Nat) : Fld := ⟨0x3821 + 32 * i, 3, 4⟩
abbrev CAN_NBT_DSJW (i : Nat) : Fld := ⟨0x3821 + 32 * i, 0, 3⟩
-- Table 11.16: CAN_TXREQ
abbrev CAN_TXREQ_addr (i : Nat) : Nat := 0x3822 + 32 * i
abbrev CAN_TXREQ_TXREQ (i : Nat) : Fld := ⟨0x3822 + 32 * i, 0, 16⟩
-- Table 11.16: CAN_RX
abbrev CAN_RX_addr (i : Nat) : Nat := 0x3823 + 32 * i
abbrev CAN_RX_RXHEAD (i : Nat) : Fld := ⟨0x3823 + 32 * i, 43, 5⟩
abbrev CAN_RX_RXLEVEL (i : Nat) : Fld := ⟨0x3823 + 32 * i, 37, 6⟩
abbrev CAN_RX_RXACK (i : Nat) : Fld := ⟨0x3823 + 32 * i, 0, 1⟩
-- Table 11.16: CAN_STAT
abbrev CAN_STAT_addr (i : Nat) : Nat := 0x3824 + 32 * i
abbrev CAN_STAT_STATE (i : Nat) : Fld := ⟨0x3824 + 32 * i, 46, 2⟩
abbrev CAN_STAT_TEC (i : Nat) : Fld := ⟨0x3824 + 32 * i, 38, 8⟩
abbrev CAN_STAT_REC (i : Nat) : Fld := ⟨0x3824 + 32 * i, 30, 8⟩
abbrev CAN_STAT_BUSOFF_REQ (i : Nat) : Fld := ⟨0x3824 + 32 * i, 29, 1⟩
-- Table 11.16: CAN_CNT
abbrev CAN_CNT_addr (i : Nat) : Nat := 0x3825 + 32 * i
abbrev CAN_CNT_RXOVF (i : Nat) : Fld := ⟨0x3825 + 32 * i, 32, 16⟩
abbrev CAN_CNT_RESDROP (i : Nat) : Fld := ⟨0x3825 + 32 * i, 16, 16⟩
abbrev CAN_CNT_RTR (i : Nat) : Fld := ⟨0x3825 + 32 * i, 0, 16⟩
-- Table 11.16: CAN_CNT_CLR
abbrev CAN_CNT_CLR_addr (i : Nat) : Nat := 0x3826 + 32 * i
abbrev CAN_CNT_CLR_CLR (i : Nat) : Fld := ⟨0x3826 + 32 * i, 0, 48⟩
-- Table 11.16: CAN_FID
abbrev CAN_FID_addr (i j : Nat) : Nat := 0x3828 + 32 * i + 2 * j
abbrev CAN_FID_ID (i j : Nat) : Fld := ⟨0x3828 + 32 * i + 2 * j, 19, 29⟩
abbrev CAN_FID_IDE (i j : Nat) : Fld := ⟨0x3828 + 32 * i + 2 * j, 18, 1⟩
abbrev CAN_FID_EN (i j : Nat) : Fld := ⟨0x3828 + 32 * i + 2 * j, 17, 1⟩
-- Table 11.16: CAN_FMASK
abbrev CAN_FMASK_addr (i j : Nat) : Nat := 0x3829 + 32 * i + 2 * j
abbrev CAN_FMASK_MASK (i j : Nat) : Fld := ⟨0x3829 + 32 * i + 2 * j, 19, 29⟩
-- Table 11.17: ETH_CFG
abbrev ETH_CFG_addr (i : Nat) : Nat := 0x38A0 + 16 * i
abbrev ETH_CFG_EN (i : Nat) : Fld := ⟨0x38A0 + 16 * i, 47, 1⟩
abbrev ETH_CFG_PHYAD (i : Nat) : Fld := ⟨0x38A0 + 16 * i, 42, 5⟩
abbrev ETH_CFG_VLAN_EN (i : Nat) : Fld := ⟨0x38A0 + 16 * i, 41, 1⟩
abbrev ETH_CFG_PCP (i : Nat) : Fld := ⟨0x38A0 + 16 * i, 38, 3⟩
abbrev ETH_CFG_VID (i : Nat) : Fld := ⟨0x38A0 + 16 * i, 26, 12⟩
abbrev ETH_CFG_TTL (i : Nat) : Fld := ⟨0x38A0 + 16 * i, 18, 8⟩
abbrev ETH_CFG_DSCP (i : Nat) : Fld := ⟨0x38A0 + 16 * i, 12, 6⟩
abbrev ETH_CFG_PACE (i : Nat) : Fld := ⟨0x38A0 + 16 * i, 0, 12⟩
-- Table 11.17: ETH_SMAC
abbrev ETH_SMAC_addr (i : Nat) : Nat := 0x38A1 + 16 * i
abbrev ETH_SMAC_SMAC (i : Nat) : Fld := ⟨0x38A1 + 16 * i, 0, 48⟩
-- Table 11.17: ETH_SIP
abbrev ETH_SIP_addr (i : Nat) : Nat := 0x38A2 + 16 * i
abbrev ETH_SIP_SIP (i : Nat) : Fld := ⟨0x38A2 + 16 * i, 0, 32⟩
-- Table 11.17: ETH_STAT
abbrev ETH_STAT_addr (i : Nat) : Nat := 0x38A3 + 16 * i
abbrev ETH_STAT_LINK (i : Nat) : Fld := ⟨0x38A3 + 16 * i, 47, 1⟩
abbrev ETH_STAT_TXD (i : Nat) : Fld := ⟨0x38A3 + 16 * i, 0, 32⟩
-- Table 11.17: ETH_CNT
abbrev ETH_CNT_addr (i : Nat) : Nat := 0x38A4 + 16 * i
abbrev ETH_CNT_RXFRAMES (i : Nat) : Fld := ⟨0x38A4 + 16 * i, 32, 16⟩
-- Table 11.17: ETH_CNT_CLR
abbrev ETH_CNT_CLR_addr (i : Nat) : Nat := 0x38A5 + 16 * i
abbrev ETH_CNT_CLR_CLR (i : Nat) : Fld := ⟨0x38A5 + 16 * i, 0, 48⟩
-- Table 11.18: STR_CFG
abbrev STR_CFG_addr (i : Nat) : Nat := 0x38C0 + 8 * i
abbrev STR_CFG_EN (i : Nat) : Fld := ⟨0x38C0 + 8 * i, 47, 1⟩
abbrev STR_CFG_PORT (i : Nat) : Fld := ⟨0x38C0 + 8 * i, 46, 1⟩
abbrev STR_CFG_KIND (i : Nat) : Fld := ⟨0x38C0 + 8 * i, 43, 3⟩
abbrev STR_CFG_SRC (i : Nat) : Fld := ⟨0x38C0 + 8 * i, 39, 4⟩
abbrev STR_CFG_FLUSH_T (i : Nat) : Fld := ⟨0x38C0 + 8 * i, 27, 12⟩
-- Table 11.18: STR_DMAC
abbrev STR_DMAC_addr (i : Nat) : Nat := 0x38C1 + 8 * i
abbrev STR_DMAC_DMAC (i : Nat) : Fld := ⟨0x38C1 + 8 * i, 0, 48⟩
-- Table 11.18: STR_DST
abbrev STR_DST_addr (i : Nat) : Nat := 0x38C2 + 8 * i
abbrev STR_DST_DIP (i : Nat) : Fld := ⟨0x38C2 + 8 * i, 16, 32⟩
abbrev STR_DST_DPORT (i : Nat) : Fld := ⟨0x38C2 + 8 * i, 0, 16⟩
-- Table 11.18: STR_SPORT
abbrev STR_SPORT_addr (i : Nat) : Nat := 0x38C3 + 8 * i
abbrev STR_SPORT_SPORT (i : Nat) : Fld := ⟨0x38C3 + 8 * i, 0, 16⟩
-- Table 11.18: STR_STAT
abbrev STR_STAT_addr (i : Nat) : Nat := 0x38C4 + 8 * i
abbrev STR_STAT_DROPS (i : Nat) : Fld := ⟨0x38C4 + 8 * i, 32, 16⟩
abbrev STR_STAT_DSEQ (i : Nat) : Fld := ⟨0x38C4 + 8 * i, 0, 32⟩
-- Table 11.18: STR_CNT_CLR
abbrev STR_CNT_CLR_addr (i : Nat) : Nat := 0x38C5 + 8 * i
abbrev STR_CNT_CLR_CLR (i : Nat) : Fld := ⟨0x38C5 + 8 * i, 0, 48⟩
-- Table 11.19: SENT_CFG
abbrev SENT_CFG_addr (i : Nat) : Nat := 0x3900 + 4 * i
abbrev SENT_CFG_EN (i : Nat) : Fld := ⟨0x3900 + 4 * i, 47, 1⟩
abbrev SENT_CFG_TICK (i : Nat) : Fld := ⟨0x3900 + 4 * i, 37, 10⟩
abbrev SENT_CFG_NIB (i : Nat) : Fld := ⟨0x3900 + 4 * i, 34, 3⟩
abbrev SENT_CFG_CRC_MODE (i : Nat) : Fld := ⟨0x3900 + 4 * i, 33, 1⟩
abbrev SENT_CFG_PAUSE (i : Nat) : Fld := ⟨0x3900 + 4 * i, 32, 1⟩
abbrev SENT_CFG_FC2_REV (i : Nat) : Fld := ⟨0x3900 + 4 * i, 31, 1⟩
-- Table 11.19: SENT_DATA
abbrev SENT_DATA_addr (i : Nat) : Nat := 0x3901 + 4 * i
abbrev SENT_DATA_FC1 (i : Nat) : Fld := ⟨0x3901 + 4 * i, 36, 12⟩
abbrev SENT_DATA_FC2 (i : Nat) : Fld := ⟨0x3901 + 4 * i, 24, 12⟩
abbrev SENT_DATA_STATUS (i : Nat) : Fld := ⟨0x3901 + 4 * i, 20, 4⟩
abbrev SENT_DATA_STALE (i : Nat) : Fld := ⟨0x3901 + 4 * i, 19, 1⟩
-- Table 11.19: SENT_TIME
abbrev SENT_TIME_addr (i : Nat) : Nat := 0x3902 + 4 * i
abbrev SENT_TIME_TIME (i : Nat) : Fld := ⟨0x3902 + 4 * i, 0, 48⟩
-- Table 11.19: SENT_CNT
abbrev SENT_CNT_addr (i : Nat) : Nat := 0x3903 + 4 * i
abbrev SENT_CNT_CRCERR (i : Nat) : Fld := ⟨0x3903 + 4 * i, 32, 16⟩
abbrev SENT_CNT_TIMERR (i : Nat) : Fld := ⟨0x3903 + 4 * i, 16, 16⟩
abbrev SENT_CNT_FRAMES (i : Nat) : Fld := ⟨0x3903 + 4 * i, 0, 16⟩
-- Table 11.20: LNK_FCMD
abbrev LNK_FCMD_addr : Nat := 0x3920
abbrev LNK_FCMD_CMD : Fld := ⟨0x3920, 46, 2⟩
abbrev LNK_FCMD_FADDR : Fld := ⟨0x3920, 22, 24⟩
abbrev LNK_FCMD_LEN : Fld := ⟨0x3920, 14, 8⟩
-- Table 11.20: LNK_FWADDR
abbrev LNK_FWADDR_addr : Nat := 0x3921
abbrev LNK_FWADDR_WADDR : Fld := ⟨0x3921, 0, 15⟩
-- Table 11.20: LNK_FSTAT
abbrev LNK_FSTAT_addr : Nat := 0x3922
abbrev LNK_FSTAT_BUSY : Fld := ⟨0x3922, 47, 1⟩
abbrev LNK_FSTAT_CMD_REJ : Fld := ⟨0x3922, 46, 1⟩
abbrev LNK_FSTAT_QUAD : Fld := ⟨0x3922, 45, 1⟩
-- Table 11.20: PLS_ENC
abbrev PLS_ENC_addr : Nat := 0x3930
abbrev PLS_ENC_EN : Fld := ⟨0x3930, 47, 1⟩
abbrev PLS_ENC_ENC_PPR : Fld := ⟨0x3930, 34, 13⟩
abbrev PLS_ENC_Z_MODE : Fld := ⟨0x3930, 33, 1⟩
abbrev PLS_ENC_Z_ANG : Fld := ⟨0x3930, 0, 32⟩
-- Table 11.20: PLS_TACH
abbrev PLS_TACH_addr : Nat := 0x3931
abbrev PLS_TACH_EN : Fld := ⟨0x3931, 47, 1⟩
abbrev PLS_TACH_TACH_PPR : Fld := ⟨0x3931, 40, 7⟩
-- Table 11.20: PLS_CNT
abbrev PLS_CNT_addr : Nat := 0x3932
abbrev PLS_CNT_LATE_ENC : Fld := ⟨0x3932, 32, 16⟩
abbrev PLS_CNT_LATE_TACH : Fld := ⟨0x3932, 16, 16⟩
-- Table 11.20: LNK_JTAG
abbrev LNK_JTAG_addr : Nat := 0x3938
abbrev LNK_JTAG_REFUSED : Fld := ⟨0x3938, 47, 1⟩
-- Table 11.21: SENT_SLOW
abbrev SENT_SLOW_addr (i : Nat) : Nat := 0x3940 + i
abbrev SENT_SLOW_SDATA (i : Nat) : Fld := ⟨0x3940 + i, 32, 16⟩
abbrev SENT_SLOW_SID (i : Nat) : Fld := ⟨0x3940 + i, 24, 8⟩
abbrev SENT_SLOW_SKIND (i : Nat) : Fld := ⟨0x3940 + i, 22, 2⟩
abbrev SENT_SLOW_SCOUNT (i : Nat) : Fld := ⟨0x3940 + i, 14, 8⟩
abbrev SENT_SLOW_SCRCERR (i : Nat) : Fld := ⟨0x3940 + i, 6, 8⟩
-- Table 12.13: DMA_CFG
abbrev DMA_CFG_addr (i : Nat) : Nat := 0x4000 + 16 * i
abbrev DMA_CFG_TRIG (i : Nat) : Fld := ⟨0x4000 + 16 * i, 45, 3⟩
abbrev DMA_CFG_TRIG_IDX (i : Nat) : Fld := ⟨0x4000 + 16 * i, 39, 6⟩
abbrev DMA_CFG_RUNMODE (i : Nat) : Fld := ⟨0x4000 + 16 * i, 38, 1⟩
abbrev DMA_CFG_RETRY (i : Nat) : Fld := ⟨0x4000 + 16 * i, 35, 3⟩
-- Table 12.13: DMA_PTR
abbrev DMA_PTR_addr (i : Nat) : Nat := 0x4001 + 16 * i
abbrev DMA_PTR_PTR (i : Nat) : Fld := ⟨0x4001 + 16 * i, 0, 20⟩
-- Table 12.13: DMA_CTRL
abbrev DMA_CTRL_addr (i : Nat) : Nat := 0x4002 + 16 * i
abbrev DMA_CTRL_EN (i : Nat) : Fld := ⟨0x4002 + 16 * i, 3, 1⟩
abbrev DMA_CTRL_RESUME (i : Nat) : Fld := ⟨0x4002 + 16 * i, 2, 1⟩
abbrev DMA_CTRL_STOP (i : Nat) : Fld := ⟨0x4002 + 16 * i, 1, 1⟩
abbrev DMA_CTRL_GO (i : Nat) : Fld := ⟨0x4002 + 16 * i, 0, 1⟩
-- Table 12.13: DMA_STAT
abbrev DMA_STAT_addr (i : Nat) : Nat := 0x4003 + 16 * i
abbrev DMA_STAT_STATE (i : Nat) : Fld := ⟨0x4003 + 16 * i, 45, 3⟩
abbrev DMA_STAT_CAUSE (i : Nat) : Fld := ⟨0x4003 + 16 * i, 42, 3⟩
abbrev DMA_STAT_PEND (i : Nat) : Fld := ⟨0x4003 + 16 * i, 41, 1⟩
abbrev DMA_STAT_DONES (i : Nat) : Fld := ⟨0x4003 + 16 * i, 18, 23⟩
abbrev DMA_STAT_COUNT (i : Nat) : Fld := ⟨0x4003 + 16 * i, 0, 18⟩
-- Table 12.13: DMA_CUR
abbrev DMA_CUR_addr (i : Nat) : Nat := 0x4004 + 16 * i
abbrev DMA_CUR_SRC (i : Nat) : Fld := ⟨0x4004 + 16 * i, 20, 20⟩
abbrev DMA_CUR_DST (i : Nat) : Fld := ⟨0x4004 + 16 * i, 0, 20⟩
-- Table 12.13: DMA_FAIL
abbrev DMA_FAIL_addr (i : Nat) : Nat := 0x4005 + 16 * i
abbrev DMA_FAIL_RETRIES (i : Nat) : Fld := ⟨0x4005 + 16 * i, 45, 3⟩
abbrev DMA_FAIL_ACK (i : Nat) : Fld := ⟨0x4005 + 16 * i, 43, 2⟩
abbrev DMA_FAIL_ADDR (i : Nat) : Fld := ⟨0x4005 + 16 * i, 0, 20⟩
-- Table 12.13: DMA_CMP
abbrev DMA_CMP_addr (i : Nat) : Nat := 0x4006 + 16 * i
abbrev DMA_CMP_FIRST (i : Nat) : Fld := ⟨0x4006 + 16 * i, 30, 18⟩
abbrev DMA_CMP_MISM (i : Nat) : Fld := ⟨0x4006 + 16 * i, 29, 1⟩
abbrev DMA_CMP_MISMS (i : Nat) : Fld := ⟨0x4006 + 16 * i, 0, 18⟩
-- Table 12.13: DMA_CNT
abbrev DMA_CNT_addr (i : Nat) : Nat := 0x4007 + 16 * i
abbrev DMA_CNT_TRIG_OVR (i : Nat) : Fld := ⟨0x4007 + 16 * i, 32, 16⟩
abbrev DMA_CNT_TRIG_LOST (i : Nat) : Fld := ⟨0x4007 + 16 * i, 16, 16⟩
abbrev DMA_CNT_HALTS (i : Nat) : Fld := ⟨0x4007 + 16 * i, 0, 16⟩
-- Table 12.13: DMA_CNT_CLR
abbrev DMA_CNT_CLR_addr (i : Nat) : Nat := 0x4008 + 16 * i
abbrev DMA_CNT_CLR_CLR (i : Nat) : Fld := ⟨0x4008 + 16 * i, 0, 48⟩
-- Table 12.14: REC_CTRL
abbrev REC_CTRL_addr : Nat := 0x4400
abbrev REC_CTRL_COMMIT_PER : Fld := ⟨0x4400, 36, 12⟩
abbrev REC_CTRL_TRIG_MIN : Fld := ⟨0x4400, 24, 12⟩
abbrev REC_CTRL_SPD_W : Fld := ⟨0x4400, 16, 8⟩
abbrev REC_CTRL_LOAD_W : Fld := ⟨0x4400, 8, 8⟩
abbrev REC_CTRL_DBIN_W : Fld := ⟨0x4400, 0, 8⟩
-- Table 12.14: REC_CMD
abbrev REC_CMD_addr : Nat := 0x4401
abbrev REC_CMD_CMD : Fld := ⟨0x4401, 0, 4⟩
-- Table 12.14: REC_STAT
abbrev REC_STAT_addr : Nat := 0x4402
abbrev REC_STAT_READY : Fld := ⟨0x4402, 47, 1⟩
abbrev REC_STAT_BUSY : Fld := ⟨0x4402, 46, 1⟩
abbrev REC_STAT_PENDING : Fld := ⟨0x4402, 45, 1⟩
abbrev REC_STAT_WPTR : Fld := ⟨0x4402, 32, 12⟩
abbrev REC_STAT_TORN : Fld := ⟨0x4402, 0, 12⟩
-- Table 12.14: REC_SEQ
abbrev REC_SEQ_addr : Nat := 0x4403
abbrev REC_SEQ_NEXT : Fld := ⟨0x4403, 16, 32⟩
-- Table 12.14: REC_TRIG
abbrev REC_TRIG_addr (i : Nat) : Nat := 0x4408 + i
abbrev REC_TRIG_EN (i : Nat) : Fld := ⟨0x4408 + i, 47, 1⟩
abbrev REC_TRIG_SRC (i : Nat) : Fld := ⟨0x4408 + i, 39, 8⟩
abbrev REC_TRIG_CODE (i : Nat) : Fld := ⟨0x4408 + i, 31, 8⟩
-- Table 12.14: REC_CNT
abbrev REC_CNT_addr : Nat := 0x4410
abbrev REC_CNT_COMMITS : Fld := ⟨0x4410, 16, 32⟩
abbrev REC_CNT_SUPP : Fld := ⟨0x4410, 8, 8⟩
abbrev REC_CNT_EVICT : Fld := ⟨0x4410, 0, 8⟩
-- Table 12.14: REC_CNT_CLR
abbrev REC_CNT_CLR_addr : Nat := 0x4411
abbrev REC_CNT_CLR_CLR : Fld := ⟨0x4411, 0, 48⟩
-- Table 13.11: PRX_CTRL
abbrev PRX_CTRL_addr : Nat := 0x4800
abbrev PRX_CTRL_PEV_EN : Fld := ⟨0x4800, 47, 1⟩
abbrev PRX_CTRL_BAL_PAIR : Fld := ⟨0x4800, 46, 1⟩
abbrev PRX_CTRL_SOLO_FULL : Fld := ⟨0x4800, 45, 1⟩
abbrev PRX_CTRL_DIV_CLR : Fld := ⟨0x4800, 44, 1⟩
abbrev PRX_CTRL_SIG_TOL : Fld := ⟨0x4800, 28, 16⟩
-- Table 13.11: PRX_DIVCFG
abbrev PRX_DIVCFG_addr : Nat := 0x4801
abbrev PRX_DIVCFG_DIV_TOL : Fld := ⟨0x4801, 40, 8⟩
abbrev PRX_DIVCFG_HARD : Fld := ⟨0x4801, 30, 10⟩
abbrev PRX_DIVCFG_DIV_TEETH : Fld := ⟨0x4801, 26, 4⟩
-- Table 13.11: PRX_WIN
abbrev PRX_WIN_addr : Nat := 0x4802
abbrev PRX_WIN_DW_OPEN : Fld := ⟨0x4802, 36, 12⟩
abbrev PRX_WIN_DW_CLOSE : Fld := ⟨0x4802, 24, 12⟩
abbrev PRX_WIN_DW_KIND : Fld := ⟨0x4802, 20, 4⟩
-- Table 13.12: PRX_STAT
abbrev PRX_STAT_addr : Nat := 0x4803
abbrev PRX_STAT_LINK : Fld := ⟨0x4803, 46, 2⟩
abbrev PRX_STAT_SIDE : Fld := ⟨0x4803, 45, 1⟩
abbrev PRX_STAT_CHECK : Fld := ⟨0x4803, 42, 3⟩
abbrev PRX_STAT_MAP_VALID : Fld := ⟨0x4803, 41, 1⟩
abbrev PRX_STAT_DIV : Fld := ⟨0x4803, 38, 3⟩
abbrev PRX_STAT_VERD : Fld := ⟨0x4803, 36, 2⟩
abbrev PRX_STAT_CYC_OFS : Fld := ⟨0x4803, 0, 32⟩
-- Table 13.12: PRX_OFS
abbrev PRX_OFS_addr : Nat := 0x4804
abbrev PRX_OFS_OFS : Fld := ⟨0x4804, 0, 48⟩
-- Table 13.12: PRX_DLY
abbrev PRX_DLY_addr : Nat := 0x4805
abbrev PRX_DLY_DELAY : Fld := ⟨0x4805, 36, 12⟩
-- Table 13.12: PRX_PART
abbrev PRX_PART_addr : Nat := 0x4806
abbrev PRX_PART_STATE : Fld := ⟨0x4806, 44, 4⟩
abbrev PRX_PART_SRC : Fld := ⟨0x4806, 42, 2⟩
abbrev PRX_PART_DIV : Fld := ⟨0x4806, 39, 3⟩
abbrev PRX_PART_VERD : Fld := ⟨0x4806, 37, 2⟩
abbrev PRX_PART_LOOM_RUN : Fld := ⟨0x4806, 36, 1⟩
abbrev PRX_PART_SIG_VALID : Fld := ⟨0x4806, 35, 1⟩
abbrev PRX_PART_LAST_ESN : Fld := ⟨0x4806, 0, 32⟩
-- Table 13.12: PRX_DIFF
abbrev PRX_DIFF_addr : Nat := 0x4807
abbrev PRX_DIFF_LAST : Fld := ⟨0x4807, 24, 24⟩
abbrev PRX_DIFF_MAXABS : Fld := ⟨0x4807, 0, 24⟩
-- Table 13.12: PRX_MIRST
abbrev PRX_MIRST_addr : Nat := 0x4808
abbrev PRX_MIRST_SIG_OK : Fld := ⟨0x4808, 47, 1⟩
abbrev PRX_MIRST_FP_OK : Fld := ⟨0x4808, 46, 1⟩
abbrev PRX_MIRST_SIGDIFF : Fld := ⟨0x4808, 30, 16⟩
-- Table 13.13: PRX_CNT0
abbrev PRX_CNT0_addr : Nat := 0x4809
abbrev PRX_CNT0_HCRCERR : Fld := ⟨0x4809, 32, 16⟩
abbrev PRX_CNT0_CODEERR : Fld := ⟨0x4809, 16, 16⟩
abbrev PRX_CNT0_SEQGAP : Fld := ⟨0x4809, 0, 16⟩
-- Table 13.13: PRX_CNT1
abbrev PRX_CNT1_addr : Nat := 0x480A
abbrev PRX_CNT1_LOSSES : Fld := ⟨0x480A, 32, 16⟩
abbrev PRX_CNT1_SOFTS : Fld := ⟨0x480A, 16, 16⟩
abbrev PRX_CNT1_HARDS : Fld := ⟨0x480A, 0, 16⟩
-- Table 13.13: PRX_CNT_CLR
abbrev PRX_CNT_CLR_addr : Nat := 0x480B
abbrev PRX_CNT_CLR_CLR : Fld := ⟨0x480B, 0, 48⟩
-- Table 13.13: PRX_PEVSTAT
abbrev PRX_PEVSTAT_addr : Nat := 0x4810
abbrev PRX_PEVSTAT_LEVEL : Fld := ⟨0x4810, 40, 8⟩
abbrev PRX_PEVSTAT_OVF : Fld := ⟨0x4810, 39, 1⟩
abbrev PRX_PEVSTAT_LOST : Fld := ⟨0x4810, 0, 16⟩
-- Table 13.13: PRX_PEVPOP
abbrev PRX_PEVPOP_addr : Nat := 0x4811
abbrev PRX_PEVPOP_WORD : Fld := ⟨0x4811, 0, 48⟩
-- Table 14.13: SAF_STAT
abbrev SAF_STAT_addr : Nat := 0x4C00
abbrev SAF_STAT_STATE : Fld := ⟨0x4C00, 45, 3⟩
abbrev SAF_STAT_FIRST : Fld := ⟨0x4C00, 40, 5⟩
abbrev SAF_STAT_LAST : Fld := ⟨0x4C00, 35, 5⟩
abbrev SAF_STAT_SAFE_N_LVL : Fld := ⟨0x4C00, 34, 1⟩
abbrev SAF_STAT_SAFE_IN_LVL : Fld := ⟨0x4C00, 33, 1⟩
abbrev SAF_STAT_STFAIL : Fld := ⟨0x4C00, 32, 1⟩
abbrev SAF_STAT_CMD_REJ : Fld := ⟨0x4C00, 31, 1⟩
-- Table 14.13: SAF_CAUSE
abbrev SAF_CAUSE_addr : Nat := 0x4C01
abbrev SAF_CAUSE_SEEN : Fld := ⟨0x4C01, 0, 25⟩
-- Table 14.13: SAF_ACT
abbrev SAF_ACT_addr : Nat := 0x4C02
abbrev SAF_ACT_ACT_SLACK : Fld := ⟨0x4C02, 46, 2⟩
abbrev SAF_ACT_ACT_OVP : Fld := ⟨0x4C02, 44, 2⟩
abbrev SAF_ACT_ACT_WM : Fld := ⟨0x4C02, 42, 2⟩
abbrev SAF_ACT_ACT_SAFEIN : Fld := ⟨0x4C02, 40, 2⟩
abbrev SAF_ACT_CUT_HOLD : Fld := ⟨0x4C02, 32, 8⟩
-- Table 14.13: SAF_CMD
abbrev SAF_CMD_addr : Nat := 0x4C03
abbrev SAF_CMD_RELEASE : Fld := ⟨0x4C03, 0, 1⟩
-- Table 14.13: SAF_CNT
abbrev SAF_CNT_addr : Nat := 0x4C04
abbrev SAF_CNT_CUTS : Fld := ⟨0x4C04, 32, 16⟩
abbrev SAF_CNT_SAFES : Fld := ⟨0x4C04, 16, 16⟩
abbrev SAF_CNT_HALTS : Fld := ⟨0x4C04, 0, 16⟩
-- Table 14.13: SAF_HK
abbrev SAF_HK_addr : Nat := 0x4C05
abbrev SAF_HK_VBAT : Fld := ⟨0x4C05, 36, 12⟩
abbrev SAF_HK_TDIE : Fld := ⟨0x4C05, 20, 16⟩
-- Table 14.13: SAF_CNT_CLR
abbrev SAF_CNT_CLR_addr : Nat := 0x4C06
abbrev SAF_CNT_CLR_CLR : Fld := ⟨0x4C06, 0, 48⟩

end Reg

end Sys2Proof.Machine
end

