-- ==== Sys2Proof/Machine/RegMap.lean ====
section
/-!
DEFINITION. The register map as data: for every register of the tables of spec/ 00 to 14 its word addresses, the tile it
belongs to (R79, Table 2.7), and for every field its bits, access code (Table 0.4), reset value (R17), level (R18),
stated range (R327 and the rules like it) and which instances hold it (R699; Table 4.10 to 4.12 for Weft 0).
A bit that no field covers is reserved (R16). Generated from the tables.
-/
namespace Sys2Proof.Machine

/-- The access codes of Table 0.4. -/
inductive Acc where
  | rw | ro | wo | w1c | ws | wv
deriving DecidableEq, Repr

/-- Which instances of a register hold a field (R699, Table 3.7a; 04_angle_prediction, "Weft registers"). -/
inductive Held where
  | all | crank | cam | warp1 | weft0
deriving DecidableEq, Repr

/-- One field of a register table. `lvlE` is level E; `lo..hi` are its bits; `min..max` its stated range;
`weave` says that its Reset column reads "weave". -/
structure FRow where
  hi : Nat
  lo : Nat
  acc : Acc
  reset : Nat
  lvlE : Bool := false
  weave : Bool := false
  rng : Option (Nat × Nat) := none
  held : Held := .all
deriving DecidableEq, Repr

/-- The tile a register belongs to: its type code of Table 2.7 and its index, the register instance plus `idx` when
`perInst`, otherwise `idx` itself. -/
structure TileRef where
  type : Nat
  idx : Nat
  perInst : Bool
deriving DecidableEq, Repr

/-- One register of the map: addresses `base + s1 * i + s2 * j` for `i < n1`, `j < n2`. -/
structure RegRow where
  base : Nat
  n1 : Nat
  s1 : Nat
  n2 : Nat
  s2 : Nat
  tile : Option TileRef
  fields : List FRow
deriving DecidableEq, Repr

/-- Registers of the SYS block (Table 1.10). -/
def sysRows : List RegRow :=
  [ ⟨0x0000, 1, 0, 1, 0, none,
     [{ hi := 47, lo := 32, acc := .ro, reset := 18464 },
      { hi := 31, lo := 24, acc := .ro, reset := 1 },
      { hi := 23, lo := 16, acc := .ro, reset := 3 },
      { hi := 15, lo := 8, acc := .ro, reset := 1 }]⟩
  , ⟨0x0001, 1, 0, 1, 0, none,
     [{ hi := 3, lo := 0, acc := .rw, reset := 0 }]⟩
  , ⟨0x0002, 1, 0, 1, 0, none,
     [{ hi := 4, lo := 4, acc := .ro, reset := 0 },
      { hi := 3, lo := 3, acc := .ro, reset := 0 },
      { hi := 2, lo := 2, acc := .ro, reset := 0, weave := true },
      { hi := 1, lo := 1, acc := .ro, reset := 0 },
      { hi := 0, lo := 0, acc := .w1c, reset := 0 }]⟩
  , ⟨0x0003, 1, 0, 1, 0, none,
     [{ hi := 31, lo := 0, acc := .ro, reset := 4294967295 }]⟩
  , ⟨0x0004, 1, 0, 1, 0, none,
     [{ hi := 47, lo := 47, acc := .w1c, reset := 0 },
      { hi := 46, lo := 46, acc := .w1c, reset := 0 },
      { hi := 45, lo := 43, acc := .ro, reset := 0 },
      { hi := 42, lo := 42, acc := .w1c, reset := 0 },
      { hi := 41, lo := 41, acc := .w1c, reset := 0 },
      { hi := 40, lo := 40, acc := .w1c, reset := 0 },
      { hi := 39, lo := 38, acc := .ro, reset := 0 },
      { hi := 31, lo := 0, acc := .ro, reset := 0 }]⟩
  , ⟨0x0005, 1, 0, 1, 0, none,
     [{ hi := 47, lo := 32, acc := .wo, reset := 0 }]⟩
  , ⟨0x0010, 1, 0, 1, 0, none,
     [{ hi := 13, lo := 7, acc := .rw, reset := 85, lvlE := true, rng := some (60, 90) },
      { hi := 6, lo := 0, acc := .rw, reset := 70, lvlE := true, rng := some (40, 80) }]⟩
  , ⟨0x0011, 1, 0, 1, 0, none,
     [{ hi := 23, lo := 16, acc := .ro, reset := 0 },
      { hi := 15, lo := 12, acc := .ro, reset := 0 },
      { hi := 8, lo := 8, acc := .w1c, reset := 0 },
      { hi := 4, lo := 0, acc := .ro, reset := 30 }]⟩
  , ⟨0x0012, 1, 0, 1, 0, none,
     [{ hi := 15, lo := 8, acc := .w1c, reset := 0 },
      { hi := 7, lo := 0, acc := .w1c, reset := 0 }]⟩
  , ⟨0x0013, 1, 0, 1, 0, none,
     [{ hi := 6, lo := 6, acc := .ro, reset := 0 },
      { hi := 5, lo := 5, acc := .ro, reset := 0 },
      { hi := 4, lo := 4, acc := .ro, reset := 0 },
      { hi := 3, lo := 3, acc := .ro, reset := 0 },
      { hi := 2, lo := 2, acc := .ro, reset := 0 },
      { hi := 1, lo := 1, acc := .ro, reset := 0 },
      { hi := 0, lo := 0, acc := .ro, reset := 0 }]⟩
  , ⟨0x0014, 1, 0, 1, 0, none,
     [{ hi := 31, lo := 16, acc := .ro, reset := 0, lvlE := true },
      { hi := 15, lo := 0, acc := .ro, reset := 0, lvlE := true }]⟩
  , ⟨0x0015, 1, 0, 1, 0, none,
     [{ hi := 47, lo := 0, acc := .wo, reset := 0, lvlE := true }]⟩
  , ⟨0x0020, 1, 0, 1, 0, none,
     [{ hi := 47, lo := 39, acc := .ro, reset := 0 },
      { hi := 38, lo := 31, acc := .rw, reset := 1 },
      { hi := 30, lo := 30, acc := .w1c, reset := 0 },
      { hi := 15, lo := 0, acc := .ro, reset := 0 }]⟩
  , ⟨0x0021, 1, 0, 1, 0, none,
     [{ hi := 47, lo := 0, acc := .ro, reset := 0 }]⟩
  , ⟨0x0030, 1, 0, 1, 0, none,
     [{ hi := 47, lo := 42, acc := .rw, reset := 10, rng := some (0, 54) },
      { hi := 41, lo := 41, acc := .ro, reset := 0 },
      { hi := 40, lo := 40, acc := .ro, reset := 1 },
      { hi := 15, lo := 0, acc := .ro, reset := 0 }]⟩
  , ⟨0x0040, 1, 0, 1, 0, none,
     [{ hi := 47, lo := 32, acc := .wo, reset := 0 },
      { hi := 5, lo := 0, acc := .rw, reset := 63 }]⟩
  , ⟨0x0041, 1, 0, 1, 0, none,
     [{ hi := 47, lo := 32, acc := .ro, reset := 0 },
      { hi := 11, lo := 0, acc := .ro, reset := 0 }]⟩
  , ⟨0x0042, 1, 0, 1, 0, none,
     [{ hi := 47, lo := 32, acc := .rw, reset := 0 },
      { hi := 31, lo := 24, acc := .rw, reset := 10, rng := some (1, 255) },
      { hi := 23, lo := 23, acc := .rw, reset := 0 },
      { hi := 22, lo := 22, acc := .ro, reset := 0 },
      { hi := 21, lo := 21, acc := .ro, reset := 1 }]⟩
  , ⟨0x0050, 1, 0, 1, 0, none,
     [{ hi := 47, lo := 32, acc := .ro, reset := 0 },
      { hi := 31, lo := 31, acc := .ro, reset := 0 },
      { hi := 30, lo := 30, acc := .ro, reset := 0 }]⟩
  ]

/-- Registers of the WVE block (Table 1.10). -/
def wveRows : List RegRow :=
  [ ⟨0x0400, 1, 0, 1, 0, none,
     [{ hi := 7, lo := 6, acc := .wo, reset := 0 },
      { hi := 3, lo := 0, acc := .wo, reset := 0 }]⟩
  , ⟨0x0401, 1, 0, 1, 0, none,
     [{ hi := 47, lo := 44, acc := .ro, reset := 1 },
      { hi := 43, lo := 42, acc := .ro, reset := 3 },
      { hi := 41, lo := 41, acc := .ro, reset := 0 },
      { hi := 40, lo := 40, acc := .w1c, reset := 0 },
      { hi := 39, lo := 39, acc := .w1c, reset := 0 },
      { hi := 38, lo := 38, acc := .ro, reset := 0 },
      { hi := 37, lo := 35, acc := .ro, reset := 0 },
      { hi := 31, lo := 0, acc := .ro, reset := 0 }]⟩
  , ⟨0x0402, 3, 1, 1, 0, none,
     [{ hi := 37, lo := 36, acc := .ro, reset := 0 },
      { hi := 35, lo := 32, acc := .ro, reset := 0 },
      { hi := 31, lo := 0, acc := .ro, reset := 0 }]⟩
  , ⟨0x0408, 1, 0, 1, 0, none,
     [{ hi := 32, lo := 32, acc := .w1c, reset := 0 },
      { hi := 27, lo := 24, acc := .ro, reset := 0 },
      { hi := 15, lo := 0, acc := .ro, reset := 0, lvlE := true }]⟩
  , ⟨0x0409, 1, 0, 1, 0, none,
     [{ hi := 15, lo := 0, acc := .ro, reset := 0 }]⟩
  ]

/-- Registers of the WRP block (Table 1.10). -/
def wrpRows : List RegRow :=
  [ ⟨0x0800, 6, 128, 1, 0, (some ⟨1, 0, true⟩),
     [{ hi := 47, lo := 46, acc := .wv, reset := 0, weave := true, rng := some (0, 2) },
      { hi := 45, lo := 45, acc := .wv, reset := 0, weave := true },
      { hi := 44, lo := 42, acc := .wv, reset := 0, weave := true, rng := some (0, 5) },
      { hi := 41, lo := 40, acc := .wv, reset := 0, weave := true },
      { hi := 39, lo := 32, acc := .wv, reset := 0, weave := true, rng := some (5, 125) },
      { hi := 31, lo := 21, acc := .wv, reset := 0, weave := true, rng := some (1, 1024) },
      { hi := 20, lo := 17, acc := .wv, reset := 0, weave := true, rng := some (0, 8), held := .crank },
      { hi := 16, lo := 13, acc := .wv, reset := 0, weave := true, rng := some (1, 8), held := .crank }]⟩
  , ⟨0x0801, 6, 128, 1, 0, (some ⟨1, 0, true⟩),
     [{ hi := 47, lo := 32, acc := .ws, reset := 2458, lvlE := true },
      { hi := 31, lo := 16, acc := .ws, reset := 6144, lvlE := true, held := .crank },
      { hi := 15, lo := 0, acc := .ws, reset := 6554, lvlE := true, held := .crank }]⟩
  , ⟨0x0802, 6, 128, 1, 0, (some ⟨1, 0, true⟩),
     [{ hi := 47, lo := 32, acc := .ws, reset := 9830, lvlE := true, held := .crank },
      { hi := 31, lo := 16, acc := .ws, reset := 2867, lvlE := true },
      { hi := 15, lo := 0, acc := .ws, reset := 5325, lvlE := true }]⟩
  , ⟨0x0803, 6, 128, 1, 0, (some ⟨1, 0, true⟩),
     [{ hi := 47, lo := 47, acc := .ws, reset := 1, lvlE := true, held := .crank },
      { hi := 46, lo := 43, acc := .ws, reset := 4, lvlE := true, rng := some (1, 15), held := .crank },
      { hi := 42, lo := 39, acc := .ws, reset := 4, lvlE := true, rng := some (2, 15) },
      { hi := 38, lo := 29, acc := .ws, reset := 200, lvlE := true, rng := some (10, 1000) },
      { hi := 28, lo := 22, acc := .ws, reset := 8, lvlE := true, rng := some (2, 64), held := .crank },
      { hi := 21, lo := 21, acc := .ws, reset := 0, lvlE := true, held := .crank },
      { hi := 20, lo := 14, acc := .ws, reset := 60, lvlE := true, rng := some (0, 120), held := .crank },
      { hi := 13, lo := 12, acc := .ws, reset := 0, rng := some (0, 2), held := .warp1 },
      { hi := 11, lo := 11, acc := .ws, reset := 1, held := .crank },
      { hi := 10, lo := 10, acc := .ws, reset := 1, held := .crank },
      { hi := 9, lo := 8, acc := .ws, reset := 0, held := .crank },
      { hi := 7, lo := 6, acc := .ws, reset := 0, held := .crank }]⟩
  , ⟨0x0804, 6, 128, 1, 0, (some ⟨1, 0, true⟩),
     [{ hi := 47, lo := 36, acc := .ws, reset := 400, lvlE := true, rng := some (100, 4000) },
      { hi := 35, lo := 24, acc := .ws, reset := 1350, lvlE := true, rng := some (101, 4000) },
      { hi := 23, lo := 12, acc := .ws, reset := 2700, lvlE := true, rng := some (102, 4095) }]⟩
  , ⟨0x0808, 6, 128, 8, 1, (some ⟨1, 0, true⟩),
     [{ hi := 47, lo := 38, acc := .wv, reset := 0, weave := true, held := .crank },
      { hi := 37, lo := 37, acc := .wv, reset := 0, weave := true, held := .crank },
      { hi := 36, lo := 35, acc := .wv, reset := 0, weave := true, rng := some (1, 3), held := .crank }]⟩
  , ⟨0x0810, 6, 128, 1, 0, (some ⟨1, 0, true⟩),
     [{ hi := 47, lo := 44, acc := .ro, reset := 0 },
      { hi := 43, lo := 40, acc := .ro, reset := 0, held := .crank },
      { hi := 39, lo := 39, acc := .ro, reset := 0, held := .crank },
      { hi := 38, lo := 38, acc := .ro, reset := 1 },
      { hi := 37, lo := 36, acc := .ro, reset := 0, held := .cam },
      { hi := 35, lo := 34, acc := .ro, reset := 0, held := .crank },
      { hi := 33, lo := 33, acc := .w1c, reset := 0, held := .crank },
      { hi := 32, lo := 32, acc := .w1c, reset := 0, held := .crank },
      { hi := 11, lo := 0, acc := .ro, reset := 4095 }]⟩
  , ⟨0x0811, 6, 128, 1, 0, (some ⟨1, 0, true⟩),
     [{ hi := 47, lo := 0, acc := .ro, reset := 0 }]⟩
  , ⟨0x0812, 6, 128, 1, 0, (some ⟨1, 0, true⟩),
     [{ hi := 47, lo := 16, acc := .ro, reset := 0 },
      { hi := 15, lo := 0, acc := .ro, reset := 0 }]⟩
  , ⟨0x0813, 6, 128, 1, 0, (some ⟨1, 0, true⟩),
     [{ hi := 47, lo := 32, acc := .ro, reset := 0 },
      { hi := 31, lo := 16, acc := .ro, reset := 0, held := .crank },
      { hi := 15, lo := 0, acc := .ro, reset := 0, held := .crank }]⟩
  , ⟨0x0814, 6, 128, 1, 0, (some ⟨1, 0, true⟩),
     [{ hi := 47, lo := 32, acc := .ro, reset := 0 },
      { hi := 31, lo := 16, acc := .ro, reset := 0 },
      { hi := 15, lo := 0, acc := .ro, reset := 0, held := .crank }]⟩
  , ⟨0x0815, 6, 128, 1, 0, (some ⟨1, 0, true⟩),
     [{ hi := 47, lo := 32, acc := .ro, reset := 0 },
      { hi := 31, lo := 16, acc := .ro, reset := 0, held := .crank },
      { hi := 15, lo := 0, acc := .ro, reset := 0, held := .crank }]⟩
  , ⟨0x0816, 6, 128, 1, 0, (some ⟨1, 0, true⟩),
     [{ hi := 47, lo := 0, acc := .wo, reset := 0 }]⟩
  , ⟨0x0840, 6, 128, 64, 1, (some ⟨1, 0, true⟩),
     [{ hi := 47, lo := 16, acc := .wv, reset := 0, weave := true, held := .cam }]⟩
  ]

/-- Registers of the WFT block (Table 1.10). -/
def wftRows : List RegRow :=
  [ ⟨0x0C00, 2, 512, 1, 0, (some ⟨2, 0, true⟩),
     [{ hi := 47, lo := 47, acc := .ws, reset := 0, lvlE := true, weave := true, held := .weft0 },
      { hi := 46, lo := 43, acc := .ws, reset := 0, lvlE := true, weave := true, rng := some (4, 12) },
      { hi := 42, lo := 37, acc := .ws, reset := 24, lvlE := true, rng := some (16, 48), held := .weft0 },
      { hi := 36, lo := 34, acc := .ws, reset := 2, lvlE := true, rng := some (1, 5), held := .weft0 },
      { hi := 33, lo := 30, acc := .ws, reset := 5, lvlE := true, rng := some (3, 12), held := .weft0 },
      { hi := 29, lo := 27, acc := .ws, reset := 4, lvlE := true, rng := some (2, 7), held := .weft0 },
      { hi := 26, lo := 19, acc := .ws, reset := 40, lvlE := true, held := .weft0 },
      { hi := 18, lo := 14, acc := .wv, reset := 0, lvlE := true, weave := true, rng := some (1, 24), held := .weft0 },
      { hi := 13, lo := 13, acc := .ws, reset := 1, lvlE := true, held := .weft0 },
      { hi := 12, lo := 12, acc := .ws, reset := 1, lvlE := true, held := .weft0 },
      { hi := 11, lo := 11, acc := .ws, reset := 1, lvlE := true, held := .weft0 }]⟩
  , ⟨0x0C01, 2, 512, 1, 0, (some ⟨2, 0, true⟩),
     [{ hi := 47, lo := 47, acc := .rw, reset := 0, lvlE := true, held := .weft0 },
      { hi := 46, lo := 39, acc := .rw, reset := 50, lvlE := true, rng := some (10, 254), held := .weft0 },
      { hi := 38, lo := 31, acc := .rw, reset := 200, lvlE := true, rng := some (11, 255), held := .weft0 },
      { hi := 30, lo := 28, acc := .rw, reset := 3, lvlE := true, rng := some (1, 6), held := .weft0 },
      { hi := 27, lo := 23, acc := .rw, reset := 8, lvlE := true, rng := some (2, 31), held := .weft0 },
      { hi := 22, lo := 7, acc := .rw, reset := 27, lvlE := true, rng := some (1, 65535), held := .weft0 }]⟩
  , ⟨0x0C02, 2, 512, 1, 0, (some ⟨2, 0, true⟩),
     [{ hi := 47, lo := 45, acc := .ro, reset := 0, lvlE := true, held := .weft0 },
      { hi := 44, lo := 41, acc := .ro, reset := 0, lvlE := true, held := .weft0 },
      { hi := 40, lo := 34, acc := .ro, reset := 0, lvlE := true, held := .weft0 },
      { hi := 33, lo := 33, acc := .ro, reset := 0, lvlE := true, held := .weft0 },
      { hi := 32, lo := 32, acc := .ro, reset := 0, lvlE := true, held := .weft0 },
      { hi := 31, lo := 24, acc := .ro, reset := 0, lvlE := true, held := .weft0 },
      { hi := 23, lo := 23, acc := .ro, reset := 0, held := .weft0 },
      { hi := 22, lo := 22, acc := .ro, reset := 0, held := .weft0 },
      { hi := 15, lo := 0, acc := .ro, reset := 0, lvlE := true, held := .weft0 }]⟩
  , ⟨0x0C08, 2, 512, 1, 0, (some ⟨2, 0, true⟩),
     [{ hi := 47, lo := 36, acc := .ro, reset := 4095 },
      { hi := 35, lo := 34, acc := .ro, reset := 0 },
      { hi := 33, lo := 33, acc := .ro, reset := 0 },
      { hi := 32, lo := 32, acc := .ro, reset := 0 },
      { hi := 31, lo := 31, acc := .ro, reset := 0 },
      { hi := 30, lo := 30, acc := .ro, reset := 0 },
      { hi := 29, lo := 29, acc := .ro, reset := 0 },
      { hi := 28, lo := 26, acc := .ro, reset := 0 }]⟩
  , ⟨0x0C09, 2, 512, 1, 0, (some ⟨2, 0, true⟩),
     [{ hi := 47, lo := 0, acc := .ro, reset := 0 }]⟩
  , ⟨0x0C0A, 2, 512, 1, 0, (some ⟨2, 0, true⟩),
     [{ hi := 47, lo := 0, acc := .ro, reset := 0 }]⟩
  , ⟨0x0C0B, 2, 512, 1, 0, (some ⟨2, 0, true⟩),
     [{ hi := 47, lo := 0, acc := .ro, reset := 0 }]⟩
  , ⟨0x0C0C, 2, 512, 1, 0, (some ⟨2, 0, true⟩),
     [{ hi := 47, lo := 16, acc := .ro, reset := 0 }]⟩
  , ⟨0x0C0D, 2, 512, 1, 0, (some ⟨2, 0, true⟩),
     [{ hi := 47, lo := 16, acc := .ro, reset := 0, lvlE := true }]⟩
  , ⟨0x0C10, 2, 512, 1, 0, (some ⟨2, 0, true⟩),
     [{ hi := 47, lo := 0, acc := .ro, reset := 0 }]⟩
  , ⟨0x0C11, 2, 512, 1, 0, (some ⟨2, 0, true⟩),
     [{ hi := 47, lo := 0, acc := .ro, reset := 0 }]⟩
  , ⟨0x0C12, 2, 512, 1, 0, (some ⟨2, 0, true⟩),
     [{ hi := 47, lo := 24, acc := .ro, reset := 0, lvlE := true },
      { hi := 23, lo := 0, acc := .ro, reset := 0, lvlE := true }]⟩
  , ⟨0x0C13, 2, 512, 1, 0, (some ⟨2, 0, true⟩),
     [{ hi := 47, lo := 32, acc := .ro, reset := 0 },
      { hi := 31, lo := 16, acc := .ro, reset := 0 },
      { hi := 15, lo := 0, acc := .ro, reset := 0 }]⟩
  , ⟨0x0C14, 2, 512, 1, 0, (some ⟨2, 0, true⟩),
     [{ hi := 47, lo := 0, acc := .wo, reset := 0 }]⟩
  ]

/-- Registers of the SHT block (Table 1.10). -/
def shtRows : List RegRow :=
  [ ⟨0x1000, 64, 16, 1, 0, (some ⟨3, 0, true⟩),
     [{ hi := 47, lo := 46, acc := .wv, reset := 0, weave := true, rng := some (0, 2) },
      { hi := 45, lo := 45, acc := .wv, reset := 0, weave := true },
      { hi := 44, lo := 44, acc := .ws, reset := 0, lvlE := true },
      { hi := 43, lo := 43, acc := .rw, reset := 0 },
      { hi := 42, lo := 42, acc := .rw, reset := 0 },
      { hi := 41, lo := 41, acc := .rw, reset := 1 }]⟩
  , ⟨0x1001, 64, 16, 1, 0, (some ⟨3, 0, true⟩),
     [{ hi := 47, lo := 40, acc := .ws, reset := 0, lvlE := true, weave := true },
      { hi := 39, lo := 32, acc := .ws, reset := 0, lvlE := true, weave := true, rng := some (17, 255) },
      { hi := 31, lo := 26, acc := .ws, reset := 0, lvlE := true, weave := true, rng := some (1, 40) },
      { hi := 25, lo := 18, acc := .rw, reset := 0, weave := true }]⟩
  , ⟨0x1002, 64, 16, 1, 0, (some ⟨3, 0, true⟩),
     [{ hi := 47, lo := 0, acc := .ws, reset := 0, weave := true }]⟩
  , ⟨0x1003, 64, 16, 1, 0, (some ⟨3, 0, true⟩),
     [{ hi := 47, lo := 44, acc := .ws, reset := 0, weave := true },
      { hi := 43, lo := 43, acc := .ws, reset := 0, weave := true },
      { hi := 42, lo := 38, acc := .ws, reset := 0, weave := true, rng := some (0, 23) },
      { hi := 37, lo := 14, acc := .ws, reset := 0, weave := true }]⟩
  , ⟨0x1004, 64, 16, 1, 0, (some ⟨3, 0, true⟩),
     [{ hi := 1, lo := 1, acc := .rw, reset := 0 },
      { hi := 0, lo := 0, acc := .rw, reset := 0 }]⟩
  , ⟨0x1005, 64, 16, 1, 0, (some ⟨3, 0, true⟩),
     [{ hi := 47, lo := 44, acc := .ro, reset := 0 },
      { hi := 43, lo := 43, acc := .ro, reset := 0 },
      { hi := 42, lo := 40, acc := .ro, reset := 0 },
      { hi := 31, lo := 0, acc := .ro, reset := 0 }]⟩
  , ⟨0x1006, 64, 16, 1, 0, (some ⟨3, 0, true⟩),
     [{ hi := 47, lo := 0, acc := .ro, reset := 0 }]⟩
  , ⟨0x1007, 64, 16, 1, 0, (some ⟨3, 0, true⟩),
     [{ hi := 47, lo := 0, acc := .ro, reset := 0 }]⟩
  , ⟨0x1008, 64, 16, 1, 0, (some ⟨3, 0, true⟩),
     [{ hi := 47, lo := 32, acc := .ro, reset := 0 },
      { hi := 31, lo := 16, acc := .ro, reset := 0, lvlE := true },
      { hi := 15, lo := 12, acc := .ro, reset := 0 },
      { hi := 11, lo := 9, acc := .ro, reset := 0 }]⟩
  , ⟨0x1009, 64, 16, 1, 0, (some ⟨3, 0, true⟩),
     [{ hi := 47, lo := 32, acc := .ro, reset := 0 },
      { hi := 31, lo := 16, acc := .ro, reset := 0 },
      { hi := 15, lo := 0, acc := .ro, reset := 0 }]⟩
  , ⟨0x100A, 64, 16, 1, 0, (some ⟨3, 0, true⟩),
     [{ hi := 47, lo := 32, acc := .ro, reset := 0 },
      { hi := 31, lo := 16, acc := .ro, reset := 0 },
      { hi := 15, lo := 0, acc := .ro, reset := 0 }]⟩
  , ⟨0x100B, 64, 16, 1, 0, (some ⟨3, 0, true⟩),
     [{ hi := 47, lo := 32, acc := .ro, reset := 0 },
      { hi := 31, lo := 16, acc := .ro, reset := 0, lvlE := true },
      { hi := 15, lo := 0, acc := .ro, reset := 0 }]⟩
  , ⟨0x100C, 64, 16, 1, 0, (some ⟨3, 0, true⟩),
     [{ hi := 47, lo := 32, acc := .ro, reset := 0 },
      { hi := 31, lo := 16, acc := .ro, reset := 0 },
      { hi := 15, lo := 0, acc := .ro, reset := 0 }]⟩
  , ⟨0x100D, 64, 16, 1, 0, (some ⟨3, 0, true⟩),
     [{ hi := 47, lo := 0, acc := .wo, reset := 0 }]⟩
  ]

/-- Registers of the BNK block (Table 1.10). -/
def bnkRows : List RegRow :=
  [ ⟨0x1400, 12, 64, 1, 0, (some ⟨4, 0, true⟩),
     [{ hi := 47, lo := 44, acc := .wv, reset := 0, weave := true },
      { hi := 43, lo := 43, acc := .ws, reset := 0, lvlE := true },
      { hi := 42, lo := 32, acc := .ws, reset := 100, lvlE := true, rng := some (0, 2000) },
      { hi := 31, lo := 20, acc := .wv, reset := 0, weave := true, rng := some (10, 4095) },
      { hi := 19, lo := 12, acc := .ws, reset := 10, lvlE := true, rng := some (4, 100) },
      { hi := 11, lo := 4, acc := .ws, reset := 0, lvlE := true, weave := true },
      { hi := 3, lo := 2, acc := .wv, reset := 0, weave := true }]⟩
  , ⟨0x1401, 12, 64, 4, 1, (some ⟨4, 0, true⟩),
     [{ hi := 47, lo := 40, acc := .wv, reset := 0, weave := true },
      { hi := 39, lo := 32, acc := .wv, reset := 0, weave := true },
      { hi := 31, lo := 22, acc := .ws, reset := 0, lvlE := true, weave := true, rng := some (0, 840) },
      { hi := 21, lo := 12, acc := .ws, reset := 0, lvlE := true, weave := true, rng := some (0, 840) }]⟩
  , ⟨0x1405, 12, 64, 4, 1, (some ⟨4, 0, true⟩),
     [{ hi := 47, lo := 35, acc := .ws, reset := 0, lvlE := true, weave := true, rng := some (20, 5000) },
      { hi := 34, lo := 34, acc := .ws, reset := 0, lvlE := true }]⟩
  , ⟨0x1409, 12, 64, 4, 1, (some ⟨4, 0, true⟩),
     [{ hi := 47, lo := 0, acc := .ro, reset := 0 }]⟩
  , ⟨0x140D, 12, 64, 1, 0, (some ⟨4, 0, true⟩),
     [{ hi := 47, lo := 37, acc := .ws, reset := 0, lvlE := true, weave := true, rng := some (10, 2000) },
      { hi := 36, lo := 27, acc := .ws, reset := 8, lvlE := true, rng := some (1, 840) }]⟩
  , ⟨0x140E, 12, 64, 1, 0, (some ⟨4, 0, true⟩),
     [{ hi := 47, lo := 46, acc := .ro, reset := 0 },
      { hi := 45, lo := 44, acc := .ro, reset := 0 },
      { hi := 43, lo := 40, acc := .ro, reset := 0 },
      { hi := 39, lo := 32, acc := .ro, reset := 0, lvlE := true },
      { hi := 31, lo := 24, acc := .ro, reset := 0, lvlE := true },
      { hi := 23, lo := 16, acc := .ro, reset := 0 },
      { hi := 15, lo := 15, acc := .ro, reset := 0, lvlE := true },
      { hi := 14, lo := 14, acc := .ro, reset := 0 },
      { hi := 3, lo := 3, acc := .w1c, reset := 0 },
      { hi := 2, lo := 2, acc := .w1c, reset := 0 },
      { hi := 1, lo := 1, acc := .w1c, reset := 0 },
      { hi := 0, lo := 0, acc := .w1c, reset := 0 }]⟩
  , ⟨0x140F, 12, 64, 1, 0, (some ⟨4, 0, true⟩),
     [{ hi := 47, lo := 32, acc := .ro, reset := 0 },
      { hi := 31, lo := 16, acc := .ro, reset := 0 },
      { hi := 15, lo := 0, acc := .ro, reset := 0 }]⟩
  , ⟨0x1410, 12, 64, 1, 0, (some ⟨4, 0, true⟩),
     [{ hi := 47, lo := 32, acc := .ro, reset := 0 },
      { hi := 31, lo := 16, acc := .ro, reset := 0 },
      { hi := 15, lo := 0, acc := .ro, reset := 0 }]⟩
  , ⟨0x1411, 12, 64, 1, 0, (some ⟨4, 0, true⟩),
     [{ hi := 47, lo := 0, acc := .wo, reset := 0 }]⟩
  , ⟨0x1412, 12, 64, 1, 0, (some ⟨4, 0, true⟩),
     [{ hi := 47, lo := 47, acc := .rw, reset := 0 },
      { hi := 46, lo := 46, acc := .wv, reset := 0, weave := true },
      { hi := 45, lo := 44, acc := .wv, reset := 0, weave := true },
      { hi := 43, lo := 34, acc := .rw, reset := 0, rng := some (0, 840) },
      { hi := 33, lo := 26, acc := .rw, reset := 0, lvlE := true, weave := true, rng := some (2, 255) },
      { hi := 25, lo := 18, acc := .rw, reset := 0, lvlE := true, weave := true, rng := some (1, 255) }]⟩
  , ⟨0x1413, 12, 64, 1, 0, (some ⟨4, 0, true⟩),
     [{ hi := 15, lo := 0, acc := .ro, reset := 0 }]⟩
  , ⟨0x1414, 12, 64, 1, 0, (some ⟨4, 0, true⟩),
     [{ hi := 47, lo := 47, acc := .rw, reset := 1 },
      { hi := 46, lo := 39, acc := .rw, reset := 10, lvlE := true, rng := some (1, 255) },
      { hi := 38, lo := 31, acc := .ws, reset := 60, lvlE := true, rng := some (10, 200) },
      { hi := 30, lo := 26, acc := .ws, reset := 10, lvlE := true, rng := some (2, 31) },
      { hi := 25, lo := 21, acc := .ws, reset := 20, lvlE := true, rng := some (5, 30) },
      { hi := 20, lo := 13, acc := .ws, reset := 20, lvlE := true, rng := some (5, 100) },
      { hi := 12, lo := 10, acc := .rw, reset := 0 },
      { hi := 9, lo := 5, acc := .ws, reset := 14, lvlE := true },
      { hi := 4, lo := 0, acc := .ws, reset := 16, lvlE := true }]⟩
  , ⟨0x1415, 12, 64, 1, 0, (some ⟨4, 0, true⟩),
     [{ hi := 47, lo := 44, acc := .rw, reset := 0, weave := true },
      { hi := 43, lo := 36, acc := .ws, reset := 0, lvlE := true, weave := true, rng := some (10, 255) },
      { hi := 35, lo := 31, acc := .ws, reset := 5, lvlE := true, rng := some (1, 31) },
      { hi := 30, lo := 27, acc := .ws, reset := 8, lvlE := true, rng := some (2, 14) },
      { hi := 26, lo := 17, acc := .ws, reset := 40, lvlE := true, rng := some (1, 1023) },
      { hi := 16, lo := 7, acc := .ws, reset := 100, lvlE := true, rng := some (1, 840) }]⟩
  , ⟨0x1416, 12, 64, 1, 0, (some ⟨4, 0, true⟩),
     [{ hi := 47, lo := 40, acc := .rw, reset := 150, lvlE := true },
      { hi := 39, lo := 32, acc := .rw, reset := 165, lvlE := true },
      { hi := 31, lo := 24, acc := .rw, reset := 180, lvlE := true },
      { hi := 23, lo := 20, acc := .rw, reset := 10, lvlE := true, rng := some (1, 15) },
      { hi := 19, lo := 16, acc := .rw, reset := 15, lvlE := true, rng := some (8, 15) },
      { hi := 15, lo := 12, acc := .rw, reset := 13, lvlE := true, rng := some (8, 15) },
      { hi := 11, lo := 9, acc := .rw, reset := 2, lvlE := true },
      { hi := 8, lo := 1, acc := .rw, reset := 130 }]⟩
  , ⟨0x1417, 12, 64, 1, 0, (some ⟨4, 0, true⟩),
     [{ hi := 47, lo := 47, acc := .w1c, reset := 0 },
      { hi := 46, lo := 43, acc := .ro, reset := 0 },
      { hi := 42, lo := 40, acc := .ro, reset := 0 }]⟩
  , ⟨0x1418, 12, 64, 1, 0, (some ⟨4, 0, true⟩),
     [{ hi := 47, lo := 40, acc := .ro, reset := 255 },
      { hi := 39, lo := 39, acc := .ro, reset := 0 },
      { hi := 38, lo := 35, acc := .ro, reset := 0 }]⟩
  , ⟨0x1419, 12, 64, 4, 1, (some ⟨4, 0, true⟩),
     [{ hi := 47, lo := 38, acc := .ws, reset := 0, lvlE := true, weave := true, rng := some (1, 840) },
      { hi := 37, lo := 30, acc := .ws, reset := 0, lvlE := true, weave := true, rng := some (1, 255) },
      { hi := 29, lo := 22, acc := .ws, reset := 40, lvlE := true, rng := some (10, 255) },
      { hi := 21, lo := 12, acc := .ws, reset := 0, lvlE := true, weave := true },
      { hi := 11, lo := 9, acc := .rw, reset := 2 }]⟩
  , ⟨0x141D, 12, 64, 4, 1, (some ⟨4, 0, true⟩),
     [{ hi := 47, lo := 47, acc := .w1c, reset := 0 },
      { hi := 46, lo := 43, acc := .ro, reset := 0 },
      { hi := 42, lo := 42, acc := .ro, reset := 0 },
      { hi := 41, lo := 39, acc := .ro, reset := 2 }]⟩
  , ⟨0x1421, 12, 64, 4, 1, (some ⟨4, 0, true⟩),
     [{ hi := 47, lo := 46, acc := .ro, reset := 0 },
      { hi := 45, lo := 36, acc := .ro, reset := 0 },
      { hi := 35, lo := 12, acc := .ro, reset := 0 },
      { hi := 11, lo := 4, acc := .ro, reset := 0 }]⟩
  , ⟨0x1425, 12, 64, 4, 1, (some ⟨4, 0, true⟩),
     [{ hi := 47, lo := 32, acc := .ro, reset := 1440 },
      { hi := 31, lo := 30, acc := .ro, reset := 0 },
      { hi := 29, lo := 29, acc := .ro, reset := 0 },
      { hi := 28, lo := 13, acc := .ro, reset := 0, lvlE := true }]⟩
  , ⟨0x1429, 12, 64, 4, 1, (some ⟨4, 0, true⟩),
     [{ hi := 47, lo := 32, acc := .ws, reset := 0, weave := true },
      { hi := 31, lo := 20, acc := .ws, reset := 0, lvlE := true, weave := true },
      { hi := 19, lo := 10, acc := .ws, reset := 0, lvlE := true, weave := true, rng := some (1, 1023) },
      { hi := 9, lo := 0, acc := .ws, reset := 0, lvlE := true, weave := true, rng := some (1, 1023) }]⟩
  , ⟨0x142D, 12, 64, 1, 0, (some ⟨4, 0, true⟩),
     [{ hi := 47, lo := 36, acc := .ro, reset := 0 },
      { hi := 35, lo := 24, acc := .ro, reset := 0 },
      { hi := 23, lo := 12, acc := .ro, reset := 0 },
      { hi := 11, lo := 0, acc := .ro, reset := 0 }]⟩
  , ⟨0x142E, 12, 64, 1, 0, (some ⟨4, 0, true⟩),
     [{ hi := 47, lo := 0, acc := .wo, reset := 0 }]⟩
  , ⟨0x1430, 3, 256, 1, 0, (some ⟨5, 0, true⟩),
     [{ hi := 47, lo := 47, acc := .ws, reset := 0, weave := true },
      { hi := 46, lo := 39, acc := .ws, reset := 0, weave := true, rng := some (48, 190) },
      { hi := 38, lo := 36, acc := .ws, reset := 0, lvlE := true, weave := true, rng := some (0, 4) },
      { hi := 35, lo := 28, acc := .ws, reset := 0, lvlE := true, weave := true, rng := some (20, 200) }]⟩
  , ⟨0x1431, 3, 256, 1, 0, (some ⟨5, 0, true⟩),
     [{ hi := 47, lo := 40, acc := .ws, reset := 12, lvlE := true, rng := some (2, 40) },
      { hi := 39, lo := 32, acc := .ws, reset := 16, lvlE := true, rng := some (4, 40) },
      { hi := 31, lo := 24, acc := .ws, reset := 1, lvlE := true, rng := some (1, 8) }]⟩
  , ⟨0x1432, 3, 256, 1, 0, (some ⟨5, 0, true⟩),
     [{ hi := 47, lo := 36, acc := .ro, reset := 0 },
      { hi := 35, lo := 35, acc := .ro, reset := 0 },
      { hi := 34, lo := 34, acc := .ro, reset := 0 },
      { hi := 33, lo := 33, acc := .ro, reset := 0 },
      { hi := 32, lo := 32, acc := .w1c, reset := 0 }]⟩
  , ⟨0x1433, 3, 256, 1, 0, (some ⟨5, 0, true⟩),
     [{ hi := 47, lo := 32, acc := .ro, reset := 0 },
      { hi := 31, lo := 16, acc := .ro, reset := 0 }]⟩
  ]

/-- Registers of the HDL block (Table 1.10). -/
def hdlRows : List RegRow :=
  [ ⟨0x1800, 12, 128, 128, 1, (some ⟨4, 0, true⟩),
     [{ hi := 47, lo := 24, acc := .wv, reset := 0, weave := true },
      { hi := 23, lo := 0, acc := .wv, reset := 0, weave := true }]⟩
  ]

/-- Registers of the ADC block (Table 1.10). -/
def adcRows : List RegRow :=
  [ ⟨0x2000, 1, 0, 1, 0, none,
     [{ hi := 47, lo := 47, acc := .rw, reset := 1, lvlE := true },
      { hi := 46, lo := 39, acc := .rw, reset := 50, lvlE := true, rng := some (1, 255) },
      { hi := 38, lo := 31, acc := .rw, reset := 20, lvlE := true, rng := some (1, 255) }]⟩
  , ⟨0x2001, 1, 0, 1, 0, none,
     [{ hi := 47, lo := 44, acc := .ro, reset := 8 },
      { hi := 31, lo := 0, acc := .ro, reset := 1985229328 }]⟩
  , ⟨0x2002, 1, 0, 1, 0, none,
     [{ hi := 47, lo := 45, acc := .ro, reset := 0 },
      { hi := 44, lo := 42, acc := .ro, reset := 0 },
      { hi := 41, lo := 38, acc := .ro, reset := 8 },
      { hi := 31, lo := 16, acc := .ro, reset := 0 },
      { hi := 15, lo := 0, acc := .ro, reset := 0 }]⟩
  , ⟨0x2003, 1, 0, 1, 0, none,
     [{ hi := 15, lo := 0, acc := .rw, reset := 3277, lvlE := true, rng := some (1, 32767) }]⟩
  , ⟨0x2008, 9, 1, 1, 0, (some ⟨7, 0, true⟩),
     [{ hi := 47, lo := 32, acc := .ro, reset := 0, lvlE := true },
      { hi := 31, lo := 16, acc := .ro, reset := 16384, lvlE := true },
      { hi := 15, lo := 14, acc := .ro, reset := 0 }]⟩
  , ⟨0x2100, 16, 16, 1, 0, (some ⟨6, 0, true⟩),
     [{ hi := 47, lo := 45, acc := .ws, reset := 0, weave := true, rng := some (0, 5) },
      { hi := 44, lo := 42, acc := .ws, reset := 0, weave := true },
      { hi := 41, lo := 39, acc := .ws, reset := 0, weave := true },
      { hi := 38, lo := 38, acc := .ws, reset := 0, weave := true },
      { hi := 37, lo := 32, acc := .ws, reset := 0, weave := true },
      { hi := 31, lo := 28, acc := .ws, reset := 0, lvlE := true, weave := true },
      { hi := 27, lo := 20, acc := .ws, reset := 50, lvlE := true, rng := some (1, 255) }]⟩
  , ⟨0x2101, 16, 16, 1, 0, (some ⟨6, 0, true⟩),
     [{ hi := 47, lo := 31, acc := .ws, reset := 0, weave := true },
      { hi := 30, lo := 26, acc := .ws, reset := 0, weave := true, rng := some (4, 17) }]⟩
  , ⟨0x2102, 16, 16, 1, 0, (some ⟨6, 0, true⟩),
     [{ hi := 47, lo := 28, acc := .rw, reset := 1000, rng := some (2, 1048575) }]⟩
  , ⟨0x2103, 16, 16, 1, 0, (some ⟨6, 0, true⟩),
     [{ hi := 2, lo := 2, acc := .wo, reset := 0 },
      { hi := 1, lo := 1, acc := .wo, reset := 0 },
      { hi := 0, lo := 0, acc := .rw, reset := 0 }]⟩
  , ⟨0x2104, 16, 16, 1, 0, (some ⟨6, 0, true⟩),
     [{ hi := 47, lo := 47, acc := .ro, reset := 0 },
      { hi := 46, lo := 46, acc := .ro, reset := 0 },
      { hi := 45, lo := 45, acc := .ro, reset := 0 },
      { hi := 44, lo := 28, acc := .ro, reset := 0 },
      { hi := 27, lo := 0, acc := .ro, reset := 0 }]⟩
  , ⟨0x2105, 16, 16, 1, 0, (some ⟨6, 0, true⟩),
     [{ hi := 47, lo := 31, acc := .ro, reset := 0 },
      { hi := 30, lo := 15, acc := .ro, reset := 0 },
      { hi := 14, lo := 7, acc := .ro, reset := 0 },
      { hi := 6, lo := 6, acc := .ro, reset := 0 },
      { hi := 5, lo := 5, acc := .ro, reset := 0 }]⟩
  , ⟨0x2106, 16, 16, 1, 0, (some ⟨6, 0, true⟩),
     [{ hi := 47, lo := 32, acc := .ro, reset := 0 },
      { hi := 31, lo := 16, acc := .ro, reset := 0 },
      { hi := 15, lo := 0, acc := .ro, reset := 0 }]⟩
  , ⟨0x2107, 16, 16, 1, 0, (some ⟨6, 0, true⟩),
     [{ hi := 47, lo := 32, acc := .ro, reset := 0 },
      { hi := 31, lo := 16, acc := .ro, reset := 0 }]⟩
  , ⟨0x2108, 16, 16, 8, 1, (some ⟨6, 0, true⟩),
     [{ hi := 47, lo := 42, acc := .ws, reset := 0, weave := true },
      { hi := 41, lo := 41, acc := .ws, reset := 0, lvlE := true },
      { hi := 40, lo := 39, acc := .ws, reset := 0 }]⟩
  , ⟨0x2200, 46, 1, 1, 0, none,
     [{ hi := 47, lo := 32, acc := .ro, reset := 32768 },
      { hi := 31, lo := 26, acc := .ro, reset := 0 },
      { hi := 25, lo := 25, acc := .ro, reset := 0 },
      { hi := 24, lo := 24, acc := .ro, reset := 0 },
      { hi := 23, lo := 0, acc := .ro, reset := 0 }]⟩
  , ⟨0x2240, 40, 1, 1, 0, none,
     [{ hi := 47, lo := 45, acc := .ro, reset := 0 },
      { hi := 44, lo := 37, acc := .ro, reset := 0 },
      { hi := 31, lo := 16, acc := .ro, reset := 0 },
      { hi := 15, lo := 0, acc := .ro, reset := 0 }]⟩
  ]

/-- Registers of the CMP block (Table 1.10). -/
def cmpRows : List RegRow :=
  [ ⟨0x2400, 1, 0, 1, 0, none,
     [{ hi := 47, lo := 47, acc := .rw, reset := 1 },
      { hi := 46, lo := 39, acc := .rw, reset := 10, lvlE := true, rng := some (1, 255) }]⟩
  , ⟨0x2401, 1, 0, 1, 0, none,
     [{ hi := 47, lo := 36, acc := .ro, reset := 0 },
      { hi := 35, lo := 28, acc := .ro, reset := 0 },
      { hi := 27, lo := 22, acc := .ro, reset := 0 }]⟩
  , ⟨0x2410, 12, 1, 1, 0, none,
     [{ hi := 47, lo := 40, acc := .ro, reset := 255 },
      { hi := 39, lo := 32, acc := .ro, reset := 0 },
      { hi := 31, lo := 16, acc := .ro, reset := 0, lvlE := true }]⟩
  , ⟨0x2420, 4, 1, 1, 0, none,
     [{ hi := 47, lo := 47, acc := .rw, reset := 0 },
      { hi := 46, lo := 31, acc := .rw, reset := 10000, rng := some (10, 65535) },
      { hi := 30, lo := 15, acc := .rw, reset := 5000, rng := some (1, 65534) }]⟩
  , ⟨0x2440, 8, 8, 1, 0, none,
     [{ hi := 47, lo := 47, acc := .rw, reset := 0 },
      { hi := 46, lo := 43, acc := .ws, reset := 0, weave := true },
      { hi := 42, lo := 41, acc := .rw, reset := 1 },
      { hi := 40, lo := 39, acc := .rw, reset := 0, rng := some (0, 2) },
      { hi := 38, lo := 32, acc := .rw, reset := 127 },
      { hi := 31, lo := 31, acc := .rw, reset := 0 },
      { hi := 30, lo := 30, acc := .rw, reset := 1 },
      { hi := 29, lo := 22, acc := .rw, reset := 10, lvlE := true }]⟩
  , ⟨0x2441, 8, 8, 1, 0, none,
     [{ hi := 47, lo := 38, acc := .rw, reset := 0 },
      { hi := 37, lo := 28, acc := .rw, reset := 1023 },
      { hi := 27, lo := 22, acc := .rw, reset := 4, rng := some (1, 63) }]⟩
  , ⟨0x2442, 8, 8, 1, 0, none,
     [{ hi := 47, lo := 41, acc := .rw, reset := 127 },
      { hi := 40, lo := 29, acc := .rw, reset := 0 }]⟩
  , ⟨0x2443, 8, 8, 1, 0, none,
     [{ hi := 47, lo := 46, acc := .ro, reset := 0 },
      { hi := 45, lo := 45, acc := .w1c, reset := 0 },
      { hi := 44, lo := 43, acc := .ro, reset := 0 },
      { hi := 42, lo := 42, acc := .ro, reset := 1 },
      { hi := 41, lo := 41, acc := .ro, reset := 1 },
      { hi := 40, lo := 40, acc := .w1c, reset := 0 }]⟩
  , ⟨0x2444, 8, 8, 1, 0, none,
     [{ hi := 47, lo := 32, acc := .ro, reset := 0 },
      { hi := 31, lo := 16, acc := .ro, reset := 0 }]⟩
  , ⟨0x2445, 8, 8, 1, 0, none,
     [{ hi := 47, lo := 0, acc := .wo, reset := 0 }]⟩
  , ⟨0x2480, 6, 1, 1, 0, none,
     [{ hi := 47, lo := 47, acc := .ro, reset := 1 },
      { hi := 46, lo := 46, acc := .ro, reset := 1 },
      { hi := 45, lo := 44, acc := .ro, reset := 1 },
      { hi := 43, lo := 43, acc := .rw, reset := 1 },
      { hi := 42, lo := 42, acc := .w1c, reset := 0 }]⟩
  ]

/-- Registers of the SVC block (Table 1.10). -/
def svcRows : List RegRow :=
  [ ⟨0x2800, 24, 32, 1, 0, (some ⟨8, 0, true⟩),
     [{ hi := 47, lo := 47, acc := .rw, reset := 0 },
      { hi := 46, lo := 46, acc := .ws, reset := 0, lvlE := true, weave := true },
      { hi := 45, lo := 43, acc := .ws, reset := 2, lvlE := true },
      { hi := 42, lo := 31, acc := .wv, reset := 0, weave := true, rng := some (16, 4095) },
      { hi := 30, lo := 30, acc := .ro, reset := 0 }]⟩
  , ⟨0x2801, 24, 32, 1, 0, (some ⟨8, 0, true⟩),
     [{ hi := 47, lo := 36, acc := .ws, reset := 0, lvlE := true, weave := true },
      { hi := 35, lo := 24, acc := .ws, reset := 0, lvlE := true, weave := true },
      { hi := 23, lo := 12, acc := .ws, reset := 0, lvlE := true, weave := true },
      { hi := 11, lo := 0, acc := .ws, reset := 0, lvlE := true, weave := true }]⟩
  , ⟨0x2802, 24, 32, 1, 0, (some ⟨8, 0, true⟩),
     [{ hi := 47, lo := 36, acc := .ws, reset := 0, lvlE := true, weave := true },
      { hi := 35, lo := 24, acc := .ws, reset := 0, lvlE := true, weave := true }]⟩
  , ⟨0x2803, 24, 32, 1, 0, (some ⟨8, 0, true⟩),
     [{ hi := 47, lo := 16, acc := .wv, reset := 0, weave := true }]⟩
  , ⟨0x2804, 24, 32, 1, 0, (some ⟨8, 0, true⟩),
     [{ hi := 47, lo := 24, acc := .wv, reset := 0, weave := true },
      { hi := 23, lo := 0, acc := .wv, reset := 0, weave := true }]⟩
  , ⟨0x2805, 24, 32, 1, 0, (some ⟨8, 0, true⟩),
     [{ hi := 47, lo := 0, acc := .ws, reset := 0, lvlE := true, weave := true }]⟩
  , ⟨0x2806, 24, 32, 1, 0, (some ⟨8, 0, true⟩),
     [{ hi := 47, lo := 0, acc := .ro, reset := 0 }]⟩
  , ⟨0x2807, 24, 32, 1, 0, (some ⟨8, 0, true⟩),
     [{ hi := 47, lo := 32, acc := .ro, reset := 0 },
      { hi := 31, lo := 16, acc := .ro, reset := 0 },
      { hi := 15, lo := 0, acc := .ro, reset := 0 }]⟩
  , ⟨0x2808, 24, 32, 1, 0, (some ⟨8, 0, true⟩),
     [{ hi := 47, lo := 0, acc := .wo, reset := 0 }]⟩
  , ⟨0x2810, 24, 32, 12, 1, (some ⟨8, 0, true⟩),
     [{ hi := 47, lo := 0, acc := .ro, reset := 0 }]⟩
  , ⟨0x2C00, 2, 64, 1, 0, (some ⟨9, 0, true⟩),
     [{ hi := 47, lo := 47, acc := .rw, reset := 0 },
      { hi := 46, lo := 46, acc := .rw, reset := 0, lvlE := true, weave := true },
      { hi := 45, lo := 45, acc := .rw, reset := 0, lvlE := true, weave := true },
      { hi := 44, lo := 40, acc := .wv, reset := 0, weave := true, rng := some (2, 24) },
      { hi := 39, lo := 35, acc := .wv, reset := 0, weave := true, rng := some (2, 24) },
      { hi := 34, lo := 30, acc := .wv, reset := 0, lvlE := true, weave := true, rng := some (2, 16) },
      { hi := 29, lo := 28, acc := .ws, reset := 0, weave := true },
      { hi := 27, lo := 12, acc := .ws, reset := 0, lvlE := true, weave := true },
      { hi := 11, lo := 11, acc := .ro, reset := 0 },
      { hi := 10, lo := 10, acc := .w1c, reset := 0 }]⟩
  , ⟨0x2C01, 2, 64, 1, 0, (some ⟨9, 0, true⟩),
     [{ hi := 47, lo := 24, acc := .ws, reset := 0, weave := true },
      { hi := 23, lo := 0, acc := .ws, reset := 0, weave := true }]⟩
  , ⟨0x2C02, 2, 64, 1, 0, (some ⟨9, 0, true⟩),
     [{ hi := 47, lo := 45, acc := .ws, reset := 5, lvlE := true, rng := some (2, 7) },
      { hi := 44, lo := 37, acc := .ws, reset := 128, lvlE := true },
      { hi := 36, lo := 21, acc := .ws, reset := 500, lvlE := true, rng := some (0, 50000) },
      { hi := 20, lo := 5, acc := .ws, reset := 500, lvlE := true }]⟩
  , ⟨0x2C03, 2, 64, 1, 0, (some ⟨9, 0, true⟩),
     [{ hi := 47, lo := 28, acc := .ws, reset := 0, lvlE := true, weave := true },
      { hi := 27, lo := 8, acc := .ws, reset := 0, lvlE := true, weave := true }]⟩
  , ⟨0x2C04, 2, 64, 1, 0, (some ⟨9, 0, true⟩),
     [{ hi := 47, lo := 32, acc := .ro, reset := 0 },
      { hi := 31, lo := 16, acc := .ro, reset := 0 },
      { hi := 15, lo := 0, acc := .ro, reset := 0 }]⟩
  , ⟨0x2C05, 2, 64, 1, 0, (some ⟨9, 0, true⟩),
     [{ hi := 47, lo := 0, acc := .wo, reset := 0 }]⟩
  , ⟨0x2C20, 2, 64, 24, 1, (some ⟨9, 0, true⟩),
     [{ hi := 47, lo := 16, acc := .wv, reset := 0, weave := true },
      { hi := 15, lo := 10, acc := .wv, reset := 0, weave := true },
      { hi := 9, lo := 6, acc := .wv, reset := 0, weave := true },
      { hi := 5, lo := 4, acc := .wv, reset := 0, weave := true },
      { hi := 3, lo := 3, acc := .rw, reset := 0, weave := true }]⟩
  , ⟨0x2D00, 1, 0, 1, 0, (some ⟨10, 0, false⟩),
     [{ hi := 47, lo := 47, acc := .rw, reset := 0 },
      { hi := 46, lo := 46, acc := .rw, reset := 0 },
      { hi := 45, lo := 45, acc := .ws, reset := 0, weave := true },
      { hi := 44, lo := 37, acc := .rw, reset := 32, lvlE := true },
      { hi := 36, lo := 29, acc := .rw, reset := 64, lvlE := true },
      { hi := 28, lo := 21, acc := .rw, reset := 16, lvlE := true, rng := some (1, 255) }]⟩
  , ⟨0x2D01, 1, 0, 1, 0, (some ⟨10, 0, false⟩),
     [{ hi := 47, lo := 38, acc := .rw, reset := 192, lvlE := true, rng := some (0, 640) },
      { hi := 37, lo := 30, acc := .rw, reset := 16, lvlE := true, rng := some (1, 255) },
      { hi := 29, lo := 22, acc := .rw, reset := 100, lvlE := true, rng := some (0, 200) },
      { hi := 21, lo := 14, acc := .rw, reset := 10, lvlE := true, rng := some (1, 255) }]⟩
  , ⟨0x2D02, 1, 0, 1, 0, (some ⟨10, 0, false⟩),
     [{ hi := 47, lo := 24, acc := .ro, reset := 0 },
      { hi := 23, lo := 0, acc := .ro, reset := 0 }]⟩
  , ⟨0x2D80, 1, 0, 1, 0, (some ⟨11, 0, false⟩),
     [{ hi := 47, lo := 47, acc := .rw, reset := 0 },
      { hi := 46, lo := 46, acc := .ws, reset := 0, weave := true },
      { hi := 45, lo := 38, acc := .ws, reset := 10, lvlE := true, rng := some (1, 255) },
      { hi := 37, lo := 18, acc := .ws, reset := 10000, lvlE := true }]⟩
  , ⟨0x2D81, 1, 0, 1, 0, (some ⟨11, 0, false⟩),
     [{ hi := 47, lo := 28, acc := .rw, reset := 0 },
      { hi := 27, lo := 12, acc := .rw, reset := 1000, rng := some (1, 65535) }]⟩
  , ⟨0x2D82, 1, 0, 1, 0, (some ⟨11, 0, false⟩),
     [{ hi := 47, lo := 24, acc := .ws, reset := 0, lvlE := true, weave := true },
      { hi := 23, lo := 0, acc := .ws, reset := 0, lvlE := true, weave := true }]⟩
  , ⟨0x2D83, 1, 0, 1, 0, (some ⟨11, 0, false⟩),
     [{ hi := 47, lo := 36, acc := .ws, reset := 0, weave := true },
      { hi := 35, lo := 24, acc := .ws, reset := 0, weave := true },
      { hi := 23, lo := 12, acc := .ws, reset := 0, weave := true },
      { hi := 11, lo := 0, acc := .ws, reset := 0, weave := true }]⟩
  , ⟨0x2D84, 1, 0, 1, 0, (some ⟨11, 0, false⟩),
     [{ hi := 47, lo := 28, acc := .ws, reset := 0, weave := true },
      { hi := 27, lo := 16, acc := .wv, reset := 0, weave := true }]⟩
  , ⟨0x2D85, 1, 0, 1, 0, (some ⟨11, 0, false⟩),
     [{ hi := 47, lo := 28, acc := .ro, reset := 0 },
      { hi := 27, lo := 16, acc := .ro, reset := 0 },
      { hi := 15, lo := 15, acc := .ro, reset := 0 },
      { hi := 14, lo := 14, acc := .ro, reset := 0 },
      { hi := 13, lo := 13, acc := .w1c, reset := 0 },
      { hi := 12, lo := 12, acc := .w1c, reset := 0 },
      { hi := 11, lo := 0, acc := .ro, reset := 0 }]⟩
  , ⟨0x2D86, 1, 0, 1, 0, (some ⟨11, 0, false⟩),
     [{ hi := 47, lo := 0, acc := .wo, reset := 0 }]⟩
  , ⟨0x2E00, 1, 0, 1, 0, (some ⟨12, 0, false⟩),
     [{ hi := 47, lo := 35, acc := .ws, reset := 0, weave := true },
      { hi := 34, lo := 27, acc := .ws, reset := 50, lvlE := true, rng := some (1, 255) },
      { hi := 26, lo := 14, acc := .ws, reset := 0, weave := true }]⟩
  , ⟨0x2E01, 1, 0, 1, 0, (some ⟨12, 0, false⟩),
     [{ hi := 47, lo := 32, acc := .ro, reset := 0 },
      { hi := 31, lo := 31, acc := .ro, reset := 0 },
      { hi := 15, lo := 0, acc := .ro, reset := 0 }]⟩
  , ⟨0x2E40, 4, 2, 1, 0, none,
     [{ hi := 47, lo := 42, acc := .ws, reset := 63 },
      { hi := 41, lo := 22, acc := .ws, reset := 0, weave := true },
      { hi := 21, lo := 2, acc := .ws, reset := 0, weave := true }]⟩
  , ⟨0x2E41, 4, 2, 1, 0, none,
     [{ hi := 47, lo := 24, acc := .ws, reset := 0, weave := true },
      { hi := 23, lo := 0, acc := .ws, reset := 0, weave := true }]⟩
  , ⟨0x2E48, 4, 1, 1, 0, none,
     [{ hi := 47, lo := 24, acc := .ro, reset := 0 },
      { hi := 23, lo := 23, acc := .ro, reset := 0 }]⟩
  , ⟨0x2E80, 1, 0, 1, 0, none,
     [{ hi := 47, lo := 47, acc := .wo, reset := 0 },
      { hi := 46, lo := 46, acc := .ro, reset := 0 },
      { hi := 45, lo := 45, acc := .ro, reset := 0 },
      { hi := 44, lo := 44, acc := .ro, reset := 0 },
      { hi := 43, lo := 36, acc := .rw, reset := 8 },
      { hi := 35, lo := 12, acc := .rw, reset := 0 }]⟩
  , ⟨0x2E81, 1, 0, 1, 0, none,
     [{ hi := 31, lo := 0, acc := .ro, reset := 0 }]⟩
  , ⟨0x2F00, 1, 0, 1, 0, none,
     [{ hi := 47, lo := 24, acc := .ws, reset := 0, lvlE := true, weave := true },
      { hi := 23, lo := 0, acc := .ws, reset := 0, lvlE := true, weave := true }]⟩
  , ⟨0x2F01, 1, 0, 1, 0, none,
     [{ hi := 47, lo := 0, acc := .wv, reset := 0, weave := true }]⟩
  , ⟨0x2F02, 1, 0, 1, 0, none,
     [{ hi := 47, lo := 24, acc := .ws, reset := 16777166, lvlE := true },
      { hi := 23, lo := 0, acc := .ws, reset := 500, lvlE := true }]⟩
  , ⟨0x2F03, 1, 0, 1, 0, none,
     [{ hi := 47, lo := 24, acc := .ws, reset := 0, lvlE := true, weave := true },
      { hi := 23, lo := 0, acc := .ws, reset := 0, lvlE := true, weave := true }]⟩
  , ⟨0x2F04, 1, 0, 1, 0, none,
     [{ hi := 47, lo := 24, acc := .ws, reset := 0, lvlE := true, weave := true },
      { hi := 23, lo := 0, acc := .ws, reset := 0, lvlE := true, weave := true }]⟩
  ]

/-- Registers of the IDN block (Table 1.10). -/
def idnRows : List RegRow :=
  [ ⟨0x3000, 1, 0, 1, 0, none,
     [{ hi := 3, lo := 0, acc := .wo, reset := 0 }]⟩
  , ⟨0x3001, 1, 0, 1, 0, none,
     [{ hi := 47, lo := 46, acc := .ro, reset := 0 },
      { hi := 45, lo := 45, acc := .w1c, reset := 0 },
      { hi := 44, lo := 44, acc := .rw, reset := 1 },
      { hi := 43, lo := 36, acc := .rw, reset := 10, lvlE := true, rng := some (1, 255) },
      { hi := 15, lo := 0, acc := .ro, reset := 0 }]⟩
  , ⟨0x3010, 14, 1, 1, 0, none,
     [{ hi := 47, lo := 32, acc := .ro, reset := 0 },
      { hi := 31, lo := 16, acc := .w1c, reset := 0 },
      { hi := 15, lo := 14, acc := .ro, reset := 0 },
      { hi := 13, lo := 13, acc := .ro, reset := 1 }]⟩
  , ⟨0x3020, 72, 1, 1, 0, none,
     [{ hi := 47, lo := 40, acc := .wv, reset := 0, weave := true }]⟩
  , ⟨0x3080, 72, 2, 1, 0, none,
     [{ hi := 47, lo := 0, acc := .ro, reset := 0 }]⟩
  , ⟨0x3081, 72, 2, 1, 0, none,
     [{ hi := 47, lo := 44, acc := .ro, reset := 0 },
      { hi := 43, lo := 36, acc := .ro, reset := 0 },
      { hi := 35, lo := 35, acc := .w1c, reset := 0 },
      { hi := 34, lo := 34, acc := .w1c, reset := 0 }]⟩
  ]

/-- Registers of the CAL block (Table 1.10). -/
def calRows : List RegRow :=
  [ ⟨0x3400, 1, 0, 1, 0, none,
     [{ hi := 47, lo := 47, acc := .ws, reset := 1 },
      { hi := 46, lo := 46, acc := .ws, reset := 0 }]⟩
  , ⟨0x3401, 1, 0, 1, 0, none,
     [{ hi := 47, lo := 47, acc := .w1c, reset := 0 },
      { hi := 31, lo := 0, acc := .ro, reset := 0 }]⟩
  , ⟨0x3408, 3, 1, 1, 0, none,
     [{ hi := 47, lo := 32, acc := .wv, reset := 0, weave := true },
      { hi := 31, lo := 16, acc := .wv, reset := 0, weave := true }]⟩
  , ⟨0x340B, 1, 0, 1, 0, none,
     [{ hi := 47, lo := 16, acc := .wv, reset := 0, weave := true }]⟩
  , ⟨0x3410, 46, 1, 1, 0, none,
     [{ hi := 47, lo := 32, acc := .ws, reset := 0, lvlE := true },
      { hi := 31, lo := 16, acc := .ws, reset := 0, lvlE := true }]⟩
  , ⟨0x3440, 48, 1, 1, 0, none,
     [{ hi := 47, lo := 32, acc := .ws, reset := 0 },
      { hi := 31, lo := 16, acc := .ws, reset := 0 },
      { hi := 15, lo := 0, acc := .ws, reset := 0, lvlE := true }]⟩
  , ⟨0x3470, 48, 1, 1, 0, none,
     [{ hi := 47, lo := 32, acc := .ws, reset := 0, lvlE := true }]⟩
  , ⟨0x34A0, 24, 1, 1, 0, none,
     [{ hi := 47, lo := 42, acc := .wv, reset := 0, weave := true, rng := some (0, 23) },
      { hi := 41, lo := 26, acc := .ws, reset := 0 }]⟩
  , ⟨0x3500, 46, 1, 1, 0, none,
     [{ hi := 47, lo := 32, acc := .ro, reset := 0, lvlE := true },
      { hi := 31, lo := 16, acc := .ro, reset := 0, lvlE := true }]⟩
  , ⟨0x3540, 48, 1, 1, 0, none,
     [{ hi := 47, lo := 32, acc := .ro, reset := 0 },
      { hi := 31, lo := 16, acc := .ro, reset := 0 },
      { hi := 15, lo := 0, acc := .ro, reset := 0 }]⟩
  ]

/-- Registers of the LNK block (Table 1.10). -/
def lnkRows : List RegRow :=
  [ ⟨0x3800, 1, 0, 1, 0, (some ⟨17, 6, false⟩),
     [{ hi := 47, lo := 32, acc := .ro, reset := 0 },
      { hi := 31, lo := 16, acc := .ro, reset := 0 },
      { hi := 15, lo := 0, acc := .ro, reset := 0 }]⟩
  , ⟨0x3801, 1, 0, 1, 0, (some ⟨17, 6, false⟩),
     [{ hi := 47, lo := 0, acc := .wo, reset := 0 }]⟩
  , ⟨0x3820, 4, 32, 1, 0, (some ⟨17, 0, true⟩),
     [{ hi := 47, lo := 47, acc := .ws, reset := 0 },
      { hi := 46, lo := 45, acc := .ws, reset := 0, rng := some (0, 2) },
      { hi := 44, lo := 44, acc := .ws, reset := 1 },
      { hi := 43, lo := 43, acc := .rw, reset := 1 },
      { hi := 42, lo := 42, acc := .rw, reset := 1 },
      { hi := 41, lo := 35, acc := .ws, reset := 16, lvlE := true },
      { hi := 34, lo := 34, acc := .rw, reset := 0 },
      { hi := 33, lo := 33, acc := .rw, reset := 0 },
      { hi := 32, lo := 4, acc := .rw, reset := 0 }]⟩
  , ⟨0x3821, 4, 32, 1, 0, (some ⟨17, 0, true⟩),
     [{ hi := 47, lo := 39, acc := .ws, reset := 1 },
      { hi := 38, lo := 31, acc := .ws, reset := 127 },
      { hi := 30, lo := 24, acc := .ws, reset := 32 },
      { hi := 23, lo := 17, acc := .ws, reset := 32, rng := some (1, 127) },
      { hi := 16, lo := 12, acc := .ws, reset := 1 },
      { hi := 11, lo := 7, acc := .ws, reset := 31, rng := some (1, 31) },
      { hi := 6, lo := 3, acc := .ws, reset := 8, rng := some (1, 15) },
      { hi := 2, lo := 0, acc := .ws, reset := 4, rng := some (1, 7) }]⟩
  , ⟨0x3822, 4, 32, 1, 0, (some ⟨17, 0, true⟩),
     [{ hi := 15, lo := 0, acc := .rw, reset := 0 }]⟩
  , ⟨0x3823, 4, 32, 1, 0, (some ⟨17, 0, true⟩),
     [{ hi := 47, lo := 43, acc := .ro, reset := 0 },
      { hi := 42, lo := 37, acc := .ro, reset := 0 },
      { hi := 0, lo := 0, acc := .wo, reset := 0 }]⟩
  , ⟨0x3824, 4, 32, 1, 0, (some ⟨17, 0, true⟩),
     [{ hi := 47, lo := 46, acc := .ro, reset := 0 },
      { hi := 45, lo := 38, acc := .ro, reset := 0 },
      { hi := 37, lo := 30, acc := .ro, reset := 0 },
      { hi := 29, lo := 29, acc := .wo, reset := 0 }]⟩
  , ⟨0x3825, 4, 32, 1, 0, (some ⟨17, 0, true⟩),
     [{ hi := 47, lo := 32, acc := .ro, reset := 0 },
      { hi := 31, lo := 16, acc := .ro, reset := 0 },
      { hi := 15, lo := 0, acc := .ro, reset := 0 }]⟩
  , ⟨0x3826, 4, 32, 1, 0, (some ⟨17, 0, true⟩),
     [{ hi := 47, lo := 0, acc := .wo, reset := 0 }]⟩
  , ⟨0x3828, 4, 32, 8, 2, (some ⟨17, 0, true⟩),
     [{ hi := 47, lo := 19, acc := .rw, reset := 0 },
      { hi := 18, lo := 18, acc := .rw, reset := 0 },
      { hi := 17, lo := 17, acc := .rw, reset := 0 }]⟩
  , ⟨0x3829, 4, 32, 8, 2, (some ⟨17, 0, true⟩),
     [{ hi := 47, lo := 19, acc := .rw, reset := 0 }]⟩
  , ⟨0x38A0, 2, 16, 1, 0, (some ⟨17, 4, true⟩),
     [{ hi := 47, lo := 47, acc := .ws, reset := 0 },
      { hi := 46, lo := 42, acc := .ws, reset := 0 },
      { hi := 41, lo := 41, acc := .ws, reset := 0 },
      { hi := 40, lo := 38, acc := .ws, reset := 0 },
      { hi := 37, lo := 26, acc := .ws, reset := 0 },
      { hi := 25, lo := 18, acc := .ws, reset := 64, rng := some (1, 255) },
      { hi := 17, lo := 12, acc := .ws, reset := 0 },
      { hi := 11, lo := 0, acc := .rw, reset := 150, rng := some (124, 4095) }]⟩
  , ⟨0x38A1, 2, 16, 1, 0, (some ⟨17, 4, true⟩),
     [{ hi := 47, lo := 0, acc := .ws, reset := 0 }]⟩
  , ⟨0x38A2, 2, 16, 1, 0, (some ⟨17, 4, true⟩),
     [{ hi := 31, lo := 0, acc := .ws, reset := 0 }]⟩
  , ⟨0x38A3, 2, 16, 1, 0, (some ⟨17, 4, true⟩),
     [{ hi := 47, lo := 47, acc := .ro, reset := 0 },
      { hi := 31, lo := 0, acc := .ro, reset := 0 }]⟩
  , ⟨0x38A4, 2, 16, 1, 0, (some ⟨17, 4, true⟩),
     [{ hi := 47, lo := 32, acc := .ro, reset := 0 }]⟩
  , ⟨0x38A5, 2, 16, 1, 0, (some ⟨17, 4, true⟩),
     [{ hi := 47, lo := 0, acc := .wo, reset := 0 }]⟩
  , ⟨0x38C0, 8, 8, 1, 0, (some ⟨17, 4, false⟩),
     [{ hi := 47, lo := 47, acc := .rw, reset := 0 },
      { hi := 46, lo := 46, acc := .ws, reset := 0 },
      { hi := 45, lo := 43, acc := .ws, reset := 0, rng := some (0, 4) },
      { hi := 42, lo := 39, acc := .ws, reset := 0 },
      { hi := 38, lo := 27, acc := .rw, reset := 1000, rng := some (1, 4095) }]⟩
  , ⟨0x38C1, 8, 8, 1, 0, (some ⟨17, 4, false⟩),
     [{ hi := 47, lo := 0, acc := .ws, reset := 0 }]⟩
  , ⟨0x38C2, 8, 8, 1, 0, (some ⟨17, 4, false⟩),
     [{ hi := 47, lo := 16, acc := .ws, reset := 0 },
      { hi := 15, lo := 0, acc := .ws, reset := 0 }]⟩
  , ⟨0x38C3, 8, 8, 1, 0, (some ⟨17, 4, false⟩),
     [{ hi := 15, lo := 0, acc := .ws, reset := 0 }]⟩
  , ⟨0x38C4, 8, 8, 1, 0, (some ⟨17, 4, false⟩),
     [{ hi := 47, lo := 32, acc := .ro, reset := 0 },
      { hi := 31, lo := 0, acc := .ro, reset := 0 }]⟩
  , ⟨0x38C5, 8, 8, 1, 0, (some ⟨17, 4, false⟩),
     [{ hi := 47, lo := 0, acc := .wo, reset := 0 }]⟩
  , ⟨0x3900, 8, 4, 1, 0, none,
     [{ hi := 47, lo := 47, acc := .ws, reset := 0 },
      { hi := 46, lo := 37, acc := .ws, reset := 12, rng := some (12, 360) },
      { hi := 36, lo := 34, acc := .ws, reset := 6, rng := some (3, 6) },
      { hi := 33, lo := 33, acc := .ws, reset := 0 },
      { hi := 32, lo := 32, acc := .ws, reset := 0 },
      { hi := 31, lo := 31, acc := .ws, reset := 0 }]⟩
  , ⟨0x3901, 8, 4, 1, 0, none,
     [{ hi := 47, lo := 36, acc := .ro, reset := 0 },
      { hi := 35, lo := 24, acc := .ro, reset := 0 },
      { hi := 23, lo := 20, acc := .ro, reset := 0 },
      { hi := 19, lo := 19, acc := .ro, reset := 1 }]⟩
  , ⟨0x3902, 8, 4, 1, 0, none,
     [{ hi := 47, lo := 0, acc := .ro, reset := 0 }]⟩
  , ⟨0x3903, 8, 4, 1, 0, none,
     [{ hi := 47, lo := 32, acc := .ro, reset := 0 },
      { hi := 31, lo := 16, acc := .ro, reset := 0 },
      { hi := 15, lo := 0, acc := .ro, reset := 0 }]⟩
  , ⟨0x3920, 1, 0, 1, 0, (some ⟨17, 7, false⟩),
     [{ hi := 47, lo := 46, acc := .wo, reset := 0 },
      { hi := 45, lo := 22, acc := .wo, reset := 0 },
      { hi := 21, lo := 14, acc := .wo, reset := 0 }]⟩
  , ⟨0x3921, 1, 0, 1, 0, (some ⟨17, 7, false⟩),
     [{ hi := 14, lo := 0, acc := .rw, reset := 0 }]⟩
  , ⟨0x3922, 1, 0, 1, 0, (some ⟨17, 7, false⟩),
     [{ hi := 47, lo := 47, acc := .ro, reset := 0 },
      { hi := 46, lo := 46, acc := .w1c, reset := 0 },
      { hi := 45, lo := 45, acc := .ws, reset := 1 }]⟩
  , ⟨0x3930, 1, 0, 1, 0, (some ⟨13, 0, false⟩),
     [{ hi := 47, lo := 47, acc := .rw, reset := 0 },
      { hi := 46, lo := 34, acc := .rw, reset := 1024, rng := some (1, 4096) },
      { hi := 33, lo := 33, acc := .rw, reset := 0 },
      { hi := 31, lo := 0, acc := .rw, reset := 0 }]⟩
  , ⟨0x3931, 1, 0, 1, 0, (some ⟨13, 1, false⟩),
     [{ hi := 47, lo := 47, acc := .rw, reset := 0 },
      { hi := 46, lo := 40, acc := .rw, reset := 1, rng := some (1, 64) }]⟩
  , ⟨0x3932, 1, 0, 1, 0, none,
     [{ hi := 47, lo := 32, acc := .ro, reset := 0 },
      { hi := 31, lo := 16, acc := .ro, reset := 0 }]⟩
  , ⟨0x3938, 1, 0, 1, 0, none,
     [{ hi := 47, lo := 47, acc := .w1c, reset := 0 }]⟩
  , ⟨0x3940, 8, 1, 1, 0, none,
     [{ hi := 47, lo := 32, acc := .ro, reset := 0 },
      { hi := 31, lo := 24, acc := .ro, reset := 0 },
      { hi := 23, lo := 22, acc := .ro, reset := 0 },
      { hi := 21, lo := 14, acc := .ro, reset := 0 },
      { hi := 13, lo := 6, acc := .ro, reset := 0 }]⟩
  ]

/-- Registers of the DMA block (Table 1.10). -/
def dmaRows : List RegRow :=
  [ ⟨0x4000, 16, 16, 1, 0, (some ⟨14, 0, false⟩),
     [{ hi := 47, lo := 45, acc := .rw, reset := 0, rng := some (0, 6) },
      { hi := 44, lo := 39, acc := .rw, reset := 0 },
      { hi := 38, lo := 38, acc := .rw, reset := 0 },
      { hi := 37, lo := 35, acc := .rw, reset := 3 }]⟩
  , ⟨0x4001, 16, 16, 1, 0, (some ⟨14, 0, false⟩),
     [{ hi := 19, lo := 0, acc := .rw, reset := 0 }]⟩
  , ⟨0x4002, 16, 16, 1, 0, (some ⟨14, 0, false⟩),
     [{ hi := 3, lo := 3, acc := .rw, reset := 0 },
      { hi := 2, lo := 2, acc := .wo, reset := 0 },
      { hi := 1, lo := 1, acc := .wo, reset := 0 },
      { hi := 0, lo := 0, acc := .wo, reset := 0 }]⟩
  , ⟨0x4003, 16, 16, 1, 0, (some ⟨14, 0, false⟩),
     [{ hi := 47, lo := 45, acc := .ro, reset := 0 },
      { hi := 44, lo := 42, acc := .ro, reset := 0 },
      { hi := 41, lo := 41, acc := .ro, reset := 0 },
      { hi := 40, lo := 18, acc := .ro, reset := 0 },
      { hi := 17, lo := 0, acc := .ro, reset := 0 }]⟩
  , ⟨0x4004, 16, 16, 1, 0, (some ⟨14, 0, false⟩),
     [{ hi := 39, lo := 20, acc := .ro, reset := 0 },
      { hi := 19, lo := 0, acc := .ro, reset := 0 }]⟩
  , ⟨0x4005, 16, 16, 1, 0, (some ⟨14, 0, false⟩),
     [{ hi := 47, lo := 45, acc := .ro, reset := 0 },
      { hi := 44, lo := 43, acc := .ro, reset := 0 },
      { hi := 19, lo := 0, acc := .ro, reset := 0 }]⟩
  , ⟨0x4006, 16, 16, 1, 0, (some ⟨14, 0, false⟩),
     [{ hi := 47, lo := 30, acc := .ro, reset := 0 },
      { hi := 29, lo := 29, acc := .ro, reset := 0 },
      { hi := 17, lo := 0, acc := .ro, reset := 0 }]⟩
  , ⟨0x4007, 16, 16, 1, 0, (some ⟨14, 0, false⟩),
     [{ hi := 47, lo := 32, acc := .ro, reset := 0 },
      { hi := 31, lo := 16, acc := .ro, reset := 0 },
      { hi := 15, lo := 0, acc := .ro, reset := 0 }]⟩
  , ⟨0x4008, 16, 16, 1, 0, (some ⟨14, 0, false⟩),
     [{ hi := 47, lo := 0, acc := .wo, reset := 0 }]⟩
  ]

/-- Registers of the REC block (Table 1.10). -/
def recRows : List RegRow :=
  [ ⟨0x4400, 1, 0, 1, 0, (some ⟨15, 0, false⟩),
     [{ hi := 47, lo := 36, acc := .rw, reset := 30, lvlE := true, rng := some (1, 4095) },
      { hi := 35, lo := 24, acc := .rw, reset := 60, lvlE := true, rng := some (1, 4095) },
      { hi := 23, lo := 16, acc := .ws, reset := 15, lvlE := true, rng := some (1, 255) },
      { hi := 15, lo := 8, acc := .ws, reset := 20, lvlE := true, rng := some (1, 255) },
      { hi := 7, lo := 0, acc := .ws, reset := 10, lvlE := true, rng := some (1, 255) }]⟩
  , ⟨0x4401, 1, 0, 1, 0, (some ⟨15, 0, false⟩),
     [{ hi := 3, lo := 0, acc := .wo, reset := 0 }]⟩
  , ⟨0x4402, 1, 0, 1, 0, (some ⟨15, 0, false⟩),
     [{ hi := 47, lo := 47, acc := .ro, reset := 0 },
      { hi := 46, lo := 46, acc := .ro, reset := 0 },
      { hi := 45, lo := 45, acc := .ro, reset := 0 },
      { hi := 43, lo := 32, acc := .ro, reset := 0 },
      { hi := 11, lo := 0, acc := .ro, reset := 0 }]⟩
  , ⟨0x4403, 1, 0, 1, 0, (some ⟨15, 0, false⟩),
     [{ hi := 47, lo := 16, acc := .ro, reset := 0 }]⟩
  , ⟨0x4408, 8, 1, 1, 0, (some ⟨15, 0, false⟩),
     [{ hi := 47, lo := 47, acc := .rw, reset := 0 },
      { hi := 46, lo := 39, acc := .rw, reset := 0 },
      { hi := 38, lo := 31, acc := .rw, reset := 0 }]⟩
  , ⟨0x4410, 1, 0, 1, 0, (some ⟨15, 0, false⟩),
     [{ hi := 47, lo := 16, acc := .ro, reset := 0 },
      { hi := 15, lo := 8, acc := .ro, reset := 0 },
      { hi := 7, lo := 0, acc := .ro, reset := 0 }]⟩
  , ⟨0x4411, 1, 0, 1, 0, (some ⟨15, 0, false⟩),
     [{ hi := 47, lo := 0, acc := .wo, reset := 0 }]⟩
  ]

/-- Registers of the PRX block (Table 1.10). -/
def prxRows : List RegRow :=
  [ ⟨0x4800, 1, 0, 1, 0, (some ⟨16, 0, false⟩),
     [{ hi := 47, lo := 47, acc := .rw, reset := 0, lvlE := true },
      { hi := 46, lo := 46, acc := .rw, reset := 1 },
      { hi := 45, lo := 45, acc := .rw, reset := 0, lvlE := true },
      { hi := 44, lo := 44, acc := .wo, reset := 0 },
      { hi := 43, lo := 28, acc := .rw, reset := 262, lvlE := true, rng := some (1, 65535) }]⟩
  , ⟨0x4801, 1, 0, 1, 0, (some ⟨16, 0, false⟩),
     [{ hi := 47, lo := 40, acc := .ws, reset := 32, lvlE := true, rng := some (1, 255) },
      { hi := 39, lo := 30, acc := .ws, reset := 160, lvlE := true, rng := some (2, 1023) },
      { hi := 29, lo := 26, acc := .ws, reset := 3, lvlE := true, rng := some (1, 15) }]⟩
  , ⟨0x4802, 1, 0, 1, 0, (some ⟨16, 0, false⟩),
     [{ hi := 47, lo := 36, acc := .rw, reset := 2816 },
      { hi := 35, lo := 24, acc := .rw, reset := 640 },
      { hi := 23, lo := 20, acc := .rw, reset := 4 }]⟩
  , ⟨0x4803, 1, 0, 1, 0, (some ⟨16, 0, false⟩),
     [{ hi := 47, lo := 46, acc := .ro, reset := 0 },
      { hi := 45, lo := 45, acc := .ro, reset := 0 },
      { hi := 44, lo := 42, acc := .ro, reset := 4 },
      { hi := 41, lo := 41, acc := .ro, reset := 0 },
      { hi := 40, lo := 38, acc := .ro, reset := 0 },
      { hi := 37, lo := 36, acc := .ro, reset := 0 },
      { hi := 31, lo := 0, acc := .ro, reset := 0 }]⟩
  , ⟨0x4804, 1, 0, 1, 0, (some ⟨16, 0, false⟩),
     [{ hi := 47, lo := 0, acc := .ro, reset := 0, lvlE := true }]⟩
  , ⟨0x4805, 1, 0, 1, 0, (some ⟨16, 0, false⟩),
     [{ hi := 47, lo := 36, acc := .ro, reset := 0, lvlE := true }]⟩
  , ⟨0x4806, 1, 0, 1, 0, (some ⟨16, 0, false⟩),
     [{ hi := 47, lo := 44, acc := .ro, reset := 0 },
      { hi := 43, lo := 42, acc := .ro, reset := 0 },
      { hi := 41, lo := 39, acc := .ro, reset := 0 },
      { hi := 38, lo := 37, acc := .ro, reset := 0 },
      { hi := 36, lo := 36, acc := .ro, reset := 0 },
      { hi := 35, lo := 35, acc := .ro, reset := 0 },
      { hi := 31, lo := 0, acc := .ro, reset := 0 }]⟩
  , ⟨0x4807, 1, 0, 1, 0, (some ⟨16, 0, false⟩),
     [{ hi := 47, lo := 24, acc := .ro, reset := 0 },
      { hi := 23, lo := 0, acc := .ro, reset := 0 }]⟩
  , ⟨0x4808, 1, 0, 1, 0, (some ⟨16, 0, false⟩),
     [{ hi := 47, lo := 47, acc := .ro, reset := 0 },
      { hi := 46, lo := 46, acc := .ro, reset := 0 },
      { hi := 45, lo := 30, acc := .ro, reset := 0, lvlE := true }]⟩
  , ⟨0x4809, 1, 0, 1, 0, (some ⟨16, 0, false⟩),
     [{ hi := 47, lo := 32, acc := .ro, reset := 0 },
      { hi := 31, lo := 16, acc := .ro, reset := 0 },
      { hi := 15, lo := 0, acc := .ro, reset := 0 }]⟩
  , ⟨0x480A, 1, 0, 1, 0, (some ⟨16, 0, false⟩),
     [{ hi := 47, lo := 32, acc := .ro, reset := 0 },
      { hi := 31, lo := 16, acc := .ro, reset := 0 },
      { hi := 15, lo := 0, acc := .ro, reset := 0 }]⟩
  , ⟨0x480B, 1, 0, 1, 0, (some ⟨16, 0, false⟩),
     [{ hi := 47, lo := 0, acc := .wo, reset := 0 }]⟩
  , ⟨0x4810, 1, 0, 1, 0, (some ⟨16, 0, false⟩),
     [{ hi := 47, lo := 40, acc := .ro, reset := 0, lvlE := true },
      { hi := 39, lo := 39, acc := .w1c, reset := 0, lvlE := true },
      { hi := 15, lo := 0, acc := .ro, reset := 0, lvlE := true }]⟩
  , ⟨0x4811, 1, 0, 1, 0, (some ⟨16, 0, false⟩),
     [{ hi := 47, lo := 0, acc := .ro, reset := 0, lvlE := true }]⟩
  ]

/-- Registers of the SAF block (Table 1.10). -/
def safRows : List RegRow :=
  [ ⟨0x4C00, 1, 0, 1, 0, none,
     [{ hi := 47, lo := 45, acc := .ro, reset := 0 },
      { hi := 44, lo := 40, acc := .ro, reset := 0 },
      { hi := 39, lo := 35, acc := .ro, reset := 0 },
      { hi := 34, lo := 34, acc := .ro, reset := 0 },
      { hi := 33, lo := 33, acc := .ro, reset := 0 },
      { hi := 32, lo := 32, acc := .ro, reset := 0 },
      { hi := 31, lo := 31, acc := .w1c, reset := 0 }]⟩
  , ⟨0x4C01, 1, 0, 1, 0, none,
     [{ hi := 24, lo := 0, acc := .w1c, reset := 0 }]⟩
  , ⟨0x4C02, 1, 0, 1, 0, none,
     [{ hi := 47, lo := 46, acc := .rw, reset := 0, lvlE := true },
      { hi := 45, lo := 44, acc := .rw, reset := 1, lvlE := true },
      { hi := 43, lo := 42, acc := .rw, reset := 1, lvlE := true },
      { hi := 41, lo := 40, acc := .rw, reset := 0, lvlE := true },
      { hi := 39, lo := 32, acc := .rw, reset := 10, lvlE := true, rng := some (1, 255) }]⟩
  , ⟨0x4C03, 1, 0, 1, 0, none,
     [{ hi := 0, lo := 0, acc := .wo, reset := 0 }]⟩
  , ⟨0x4C04, 1, 0, 1, 0, none,
     [{ hi := 47, lo := 32, acc := .ro, reset := 0 },
      { hi := 31, lo := 16, acc := .ro, reset := 0 },
      { hi := 15, lo := 0, acc := .ro, reset := 0 }]⟩
  , ⟨0x4C05, 1, 0, 1, 0, none,
     [{ hi := 47, lo := 36, acc := .ro, reset := 0 },
      { hi := 35, lo := 20, acc := .ro, reset := 0 }]⟩
  , ⟨0x4C06, 1, 0, 1, 0, none,
     [{ hi := 47, lo := 0, acc := .wo, reset := 0 }]⟩
  ]

/-- The rows that can name an address, by its block (Table 1.10). -/
def rowsOf (a : Nat) : List RegRow :=
  match a / 0x400 with
  | 0 => sysRows
  | 1 => wveRows
  | 2 => wrpRows
  | 3 => wftRows
  | 4 => shtRows
  | 5 => bnkRows
  | 6 => hdlRows
  | 7 => hdlRows
  | 8 => adcRows
  | 9 => cmpRows
  | 10 => svcRows
  | 11 => svcRows
  | 12 => idnRows
  | 13 => calRows
  | 14 => lnkRows
  | 16 => dmaRows
  | 17 => recRows
  | 18 => prxRows
  | 19 => safRows
  | _ => []

/-- The instance of `r` that an address names, if any. -/
def RegRow.inst (r : RegRow) (a : Nat) : Option (Nat × Nat) :=
  if a < r.base then none
  else
    let off := a - r.base
    let i := if r.s1 = 0 then 0 else off / r.s1
    let rem := if r.s1 = 0 then off else off % r.s1
    let j := if r.s2 = 0 then 0 else rem / r.s2
    let rem2 := if r.s2 = 0 then rem else rem % r.s2
    if i < r.n1 ∧ j < r.n2 ∧ rem2 = 0 then some (i, j) else none

/-- The register that an address names, with its instance; none for a reserved address (R72). -/
def findReg : List RegRow → Nat → Option (RegRow × Nat × Nat)
  | [], _ => none
  | r :: rs, a =>
    match r.inst a with
    | some (i, j) => some (r, i, j)
    | none => findReg rs a

/-- The register that an address names. -/
def regAt (a : Nat) : Option (RegRow × Nat × Nat) := findReg (rowsOf a) a

/-- The Reset-column word of a list of fields. -/
def FRow.resetWord : List FRow → Word
  | [] => 0
  | f :: fs => (BitVec.ofNat 48 f.reset <<< f.lo) ||| FRow.resetWord fs

/-- Whether instance `i` of the block at `a` holds the field (R699; Weft 0 only fields). -/
def Held.holds (h : Held) (a i : Nat) : Bool :=
  match h with
  | .all => true
  | .crank => decide (i < 2)
  | .cam => decide (2 ≤ i)
  | .warp1 => decide (i = 1)
  | .weft0 => decide (a < 0x0E00)

/-- The reset value of a register word (R17): each held field at its Reset column, reserved bits 0. -/
def regReset (a : Nat) : Word :=
  match regAt a with
  | none => 0
  | some (r, i, _) => FRow.resetWord (r.fields.filter (fun f => f.held.holds a i))

end Sys2Proof.Machine
end

