-- ==== Sys2Proof/Machine/Store.lean ====
section
/-!
DEFINITION. Sparse memories in one canonical form: a list of (address, value) pairs with strictly rising
addresses, holding no entry equal to what an unlisted address reads as. Register words, window memories and
flash bytes are all held so; the default of each is a function of the address.
-/
namespace Sys2Proof.Machine

/-- The listed cells of a memory of `n`-bit units. -/
abbrev Cells (n : Nat) := List (Nat × BitVec n)

/-- The listed value at `a`, if any. -/
def Cells.find {n : Nat} : Cells n → Nat → Option (BitVec n)
  | [], _ => none
  | (k, v) :: m, a => if a = k then some v else Cells.find m a

/-- Lists `v` at `a`, in its place. -/
def Cells.insert {n : Nat} : Cells n → Nat → BitVec n → Cells n
  | [], a, v => [(a, v)]
  | (k, w) :: m, a, v =>
    if a = k then (a, v) :: m else if a < k then (a, v) :: (k, w) :: m else (k, w) :: Cells.insert m a v

/-- Unlists `a`. -/
def Cells.erase {n : Nat} (m : Cells n) (a : Nat) : Cells n := m.filter (fun c => decide (c.1 ≠ a))

/-- A read: the listed value, or the default `d a`. -/
def Cells.get {n : Nat} (d : Nat → BitVec n) (m : Cells n) (a : Nat) : BitVec n :=
  (m.find a).getD (d a)

/-- A write that keeps the canonical form: writing the default unlists the address. -/
def Cells.set {n : Nat} (d : Nat → BitVec n) (m : Cells n) (a : Nat) (v : BitVec n) : Cells n :=
  if v = d a then m.erase a else m.insert a v

/-- Every address of `m` is above `b`, and they rise strictly. -/
def Cells.above {n : Nat} : Nat → Cells n → Bool
  | _, [] => true
  | b, (k, _) :: m => decide (b < k) && Cells.above k m

/-- The addresses rise strictly. -/
def Cells.sorted {n : Nat} : Cells n → Bool
  | [] => true
  | (k, _) :: m => Cells.above k m

/-- The canonical form: strictly rising addresses and no entry equal to the default. -/
def Cells.wf {n : Nat} (d : Nat → BitVec n) (m : Cells n) : Bool :=
  m.sorted && m.all (fun c => decide (c.2 ≠ d c.1))

end Sys2Proof.Machine
end

