-- ==== Sys2Proof/Machine/State.lean ====
section
/-!
DEFINITION. The state of the XT4820 as plain data. Register words are one sparse memory over the word addresses of the
register map (named fields: Machine/Fields.lean); the window memories and the external flash are sparse memories; what
the spec gives each tile beyond its registers stands in one structure per tile; reports that wait for the event merge,
Headland detections that wait for their reaction, and the commands that wait are queues. State.reset is the device at
the end of a power-on reset, before RESET_END has started the load.
-/
namespace Sys2Proof.Machine

/-- A reportable outcome waiting for the event merge (R63, R520, Table 11.4). `time` none: the timebase at the merge. -/
structure Report where
  src : Nat
  idx : Nat
  code : Nat
  arg : Nat
  time : Option Word := none
deriving DecidableEq, Repr

/-- An entry of the event FIFO or the pair FIFO: the three words of Table 11.4. -/
structure Entry where
  w0 : Word
  w1 : Word
  w2 : Word
deriving DecidableEq, Repr, Inhabited

/-- The device runs, is held in a reset, or stands by (R642, R658). -/
inductive Power where
  | up | held | standby
deriving DecidableEq, Repr, Inhabited

/-! ### 01 The Loom -/

/-- A monitored clock domain's crossing (R47): requests refused, and the instant the clock returned. -/
structure Crossing where
  blocked : Bool := false
  returned : Option Word := none
deriving DecidableEq, Repr, Inhabited

/-- What hardware did to a counter, a maximum or a sticky bit at an instant (R15, R76, R186 and the rules like it): the field by
its address and lowest bit, and what it was raised by, raised to, or which bits were set. -/
structure Tick where
  time : Word
  addr : Nat
  lo : Nat
  n : Nat
deriving DecidableEq, Repr, Inhabited

/-- The slack governor beyond its registers (R53 to R57, Table 1.16). -/
structure Governor where
  on : Bool := false
  overUp : Bool := false
  slack : Bool := false
  belowSince : Option Word := none
  lastRaise : Option Word := none
  lastLower : Option Word := none
  /-- (instant, percent, region) of the samples of the last 1 ms -/
  hist : List (Word × Nat × Nat) := []
deriving DecidableEq, Repr, Inhabited

/-! ### 02 Weave -/

/-- A pin assignment record that the running ply holds (Table 2.9). -/
structure PinRec where
  row : Nat
  col : Nat
  type : Nat
  idx : Nat
  signal : Nat
  opt : Nat
deriving DecidableEq, Repr, Inhabited

/-- A routing record that the running ply holds (Table 2.8). -/
structure Route where
  src : Nat × Nat × Nat
  dst : Nat × Nat × Nat
  delay : Nat
deriving DecidableEq, Repr, Inhabited

/-- A MIRROR copy that waits or runs: the flash ply it fills, and the selected ply that it copies with its length in words as
they were when the command came (R107). -/
structure MirrorJob where
  dst : Nat
  onFlash : Bool
  src : Nat
  words : Nat
deriving DecidableEq, Repr, Inhabited

/-- The weave beyond its registers: load, verify, programming, erase and mirror in progress, and what the selected ply
set up (R77 to R116). -/
structure Weave where
  loading : Bool := false
  loadStart : Word := 0
  verifying : Bool := false
  /-- the store word being programmed: ply, word, value (R104) -/
  prog : Option (Nat × Nat × Word) := none
  /-- the plies being erased, first one first (R106) -/
  erasing : List Nat := []
  /-- the MIRROR copies, first one first (R107) -/
  mirror : List MirrorJob := []
  /-- W of the selected ply -/
  selW : Nat := 0
  twoStroke : Bool := false
  cyl : Nat := 0
  autorun : Bool := false
  pair : Bool := false
  descId : Nat := 0
  /-- the instantiated tiles: type code and index (R34) -/
  tiles : List (Nat × Nat) := []
  routes : List Route := []
  pins : List PinRec := []
  /-- the configuration cells and microcode words of sections 1 to 5, as the bytes the load put there (R108) -/
  cells : List (List Nat) := []
  /-- reference signature per section type (R108) -/
  sigs : List (Nat × Nat) := []
  /-- the section type that the scrub reads, and when its pass began (R108) -/
  scrubNext : Nat := 1
  scrubStart : Word := 0
  /-- when the stored plies were last checked, or step 6 (R110, R111) -/
  checkAt : Word := 0
  /-- reference angles REF of the two crank Warps (Table 3.1): no register holds them -/
  refA : Word := 0
  refB : Word := 0
  /-- a RUN or AUTORUN request waits for the Loom start (R507) -/
  runReq : Bool := false
deriving DecidableEq, Repr, Inhabited

/-! ### 03, 04 Wheel inputs and prediction -/

/-- A tooth update (R191, Table 4.2). -/
structure Update where
  tidx : Nat
  src : Nat
  mode : Bool
  ins : Bool
  mark : Bool
  half : Bool
  step : Bool
  nspan : Nat
  time : Word
  angle : Word
  dang : Nat
  period : Nat
  slope : Int
deriving DecidableEq, Repr, Inhabited

/-- A mark candidate of a hunt (R150): its kind and length, and the teeth counted since the candidate before it. -/
structure Cand where
  extra : Bool
  len : Nat
  teeth : Nat
deriving DecidableEq, Repr, Inhabited

/-- A measured interval kept for learning (R221, R228): start position, pitches, M, and W of R205 as W × 2^28 (its
signature-corrected period is M / W); `skip` when R209 excludes it. -/
structure Interval where
  p : Nat
  n : Nat
  m : Nat
  w : Int
  skip : Bool
deriving DecidableEq, Repr, Inhabited

/-- A Warp beyond its registers (R117 to R185, R698): front end, classifier, position, hypotheses, cam lock. -/
structure Warp where
  /-- validated front-end output at its active level (R131) -/
  level : Bool := false
  /-- a transition in its filter: new output, time word (R128, R134) -/
  pend : Option (Bool × Word) := none
  /-- VR: armed, largest voltage of the opposite half-wave that runs, of the one before the last edge until the edge has been classified,
  peak memory [mV] (R118 to R120) -/
  armed : Bool := false
  vrNow : Nat := 0
  vrEdge : Nat := 0
  vrPeak : Nat := 0
  /-- HALL_DIR: leading edge of the pulse that is active, reverse declared, WIDTH_ERR raised (R123 to R126) -/
  pulse : Option Word := none
  pulseRev : Bool := false
  pulseErr : Bool := false
  /-- HALL_DIR: the edge of the pulse was noise, so the pulse is no tooth's (R176) -/
  pulseNoise : Bool := false
  /-- a reference or accepted edge has been taken since the hunt began (R133) -/
  hasRef : Bool := false
  /-- periods accepted since the reference (R149) -/
  nper : Nat := 0
  /-- last accepted per-pitch period (R140) -/
  per : Nat := 0
  /-- extra-tooth sub-periods accepted, their sum, and the LEN they are matched with in a hunt (R138, R140); the edges of a hunt that may end
  sub-periods of an extra mark, each with its half-wave: they count once all LEN + 1 have come (R149) -/
  sub : Nat := 0
  subSum : Nat := 0
  subLen : Nat := 0
  subEdges : List (Word × Nat) := []
  /-- mark candidates of the hunt, first one first, and the teeth since the last (R150) -/
  cands : List Cand := []
  count : Nat := 0
  /-- position in the revolution (R137); `track`: identified, forward rotation not yet confirmed (R151, R176) -/
  pos : Option Nat := none
  track : Bool := false
  /-- revolutions since identification and the half of H0 in revolution 0 -/
  rev : Nat := 0
  par : Nat := 0
  /-- hypotheses alive, half decided, restart at the next position 0 (R163 to R165) -/
  live0 : Bool := false
  live1 : Bool := false
  known : Bool := false
  restart : Bool := false
  /-- windows that open before this are not judged; last tooth; centres of windows that saw an edge (R163) -/
  a0 : Int := 0
  aLast : Int := 0
  seen : List Int := []
  /-- an insertion was made in this revolution (R147) -/
  inserted : Bool := false
  /-- normal teeth accepted since the mark (GAP_CHECK), teeth since the last mark tooth -/
  gapn : Nat := 0
  sinceMark : Nat := 0
  /-- consecutive pulses with the forward code; the first PHASE_CAM edge after the mark is awaited (R176) -/
  fwdRun : Nat := 0
  confArm : Bool := false
  /-- stall timeout: where it runs from and the P in force (R158) -/
  stallBase : Option Word := none
  stallP : Option Nat := none
  /-- when reverse was declared last: no other transition is taken at that instant (R156) -/
  revAt : Option Word := none
  /-- the prediction kept for this Warp and the one before it (R192, R698) -/
  own : Option Update := none
  ownPrev : Option Update := none
  /-- cam Warps: previous accepted interval, candidate edge indices, edge index (R179, R180) -/
  camIv : Nat := 0
  camCand : List Nat := []
  camEdge : Nat := 0
  /-- BORROWED: consecutive agreeing comparisons (R175) -/
  agree : Nat := 0
  /-- learning: intervals of the running revolution and of the one before, revolution times newest first (R221) -/
  ivCur : List Interval := []
  ivPrev : List Interval := []
  revs : List Nat := []
  revStart : Option Word := none
  /-- this Warp's convergence run, and a swap that falls due at the next position 0 (R223 to R225) -/
  conv : Nat := 0
  swapDue : Bool := false
  /-- the learning region holds the progress of an earlier session (R226) -/
  kept : Bool := false
  /-- a noise edge, and a noise edge or insertion, occurred in the running revolution and the one before (R209, R226) -/
  noisy : Bool := false
  dirty : Bool := false
  dirtyPrev : Bool := false
deriving DecidableEq, Repr, Inhabited

/-- A SYNC_LOST or ROTATION_LOST token and a change of the delivered angle that have not reached a tile yet. -/
structure Tokens where
  sync : Bool := false
  rotation : Bool := false
deriving DecidableEq, Repr, Inhabited

/-- A Weft beyond its registers. -/
structure Weft where
  /-- updates formed and not yet broadcast, oldest first (R50) -/
  formed : List Update := []
  /-- the last completed update and the one before it (R199, R698) -/
  last : Option Update := none
  prev : Option Update := none
  /-- B^ and V of the tracker, 16 fraction bits; none before the first prediction (R205, R208) -/
  bhat : Option Int := none
  vhat : Int := 0
  /-- the last update issued and the one issued before it, whatever came between (R234) -/
  issued : Option Update := none
  issuedPrev : Option Update := none
  /-- the next update carries STEP = 1: the half was decided against H0 (R194), the source has changed (R190) -/
  stepDue : Bool := false
  switched : Bool := false
  /-- the Weft has begun to predict anew: the next update has no earlier one (R698) -/
  restarted : Bool := true
  /-- this interval has reached the hold (R203) -/
  held : Bool := false
deriving DecidableEq, Repr, Inhabited

/-- Coast and profile learning (R219 to R229). -/
structure Learn where
  /-- a session is active -/
  active : Bool := false
  /-- the Warps that have converged and swapped in it (R225) -/
  done : List Nat := []
  /-- the signature regions, 2 × Warp + region, that come from a restored record or a converged session (R219) -/
  sigGood : List Nat := []
  /-- pulses started in the running cycle and in the last full one: any fuel, main (R220, R227) -/
  fuelNow : Bool := false
  fuelLast : Bool := false
  mainNow : Bool := false
  /-- revolutions completed within the session -/
  sess : Nat := 0
  /-- start of the running cycle, cycle times newest first, phases (x as a fraction, phase, tau) by cycle (R228) -/
  cycStart : Option Word := none
  cycs : List Nat := []
  ivCyc : List Interval := []
  ivCycPrev : List Interval := []
  okPrev : Bool := false
  learned : Nat := 0
deriving DecidableEq, Repr, Inhabited

/-! ### 05 Angle events -/

/-- An entry of a Shuttle's internal list (Tables 5.2, 5.3): END or OPEN, DUR or LEN. -/
structure ListEntry where
  ang : Word
  len : Nat
  kind : Nat
  bank : Nat
  ch : Nat
  lock : Bool
deriving DecidableEq, Repr

/-- A committed or energised pulse (R262 to R267): its start is the committed time word until the bank returns the start
made; `late` is the lateness in angle counts. -/
structure Pulse where
  idx : Nat
  ent : ListEntry
  late : Nat
  started : Bool
  start : Word
  stop : Word
  stopDone : Bool
deriving DecidableEq, Repr

/-- A committed or open gate (R275 to R280): its opening; the angle passed since OPEN at the last update; closing and
next tick as planned and whether they have committed; ticks issued and omitted. -/
structure Gate where
  idx : Nat
  ent : ListEntry
  opened : Bool
  at_ : Word
  late : Bool
  gone : Int
  close : Option Word
  closeDone : Bool
  tick : Nat
  tickAt : Option Word
  tickDone : Bool
  tickLate : Bool
  issued : Nat
  omitted : Nat
deriving DecidableEq, Repr

/-- A Shuttle beyond its registers. -/
structure Shuttle where
  /-- an update that has been broadcast and not yet taken (R50), the last one taken, and the one taken before it (R698) -/
  upd : Option Update := none
  prev : Option Update := none
  prev2 : Option Update := none
  /-- the next update begins no window (R252) -/
  noWindow : Bool := true
  /-- the advance since the last window began (R251) -/
  advance : Option Int := none
  /-- the internal list (R244): none is EMPTY -/
  list : List (Option ListEntry) := []
  /-- the next entry to serve (8: none), the current entry, and how far past LIST_ANG the last served one lies (R249) -/
  next : Nat := 8
  cur : Option Nat := none
  lastDist : Option Nat := none
  /-- candidate time word and the angle it stands for (R258) -/
  cand : Option (Word × Word) := none
  pulse : Option Pulse := none
  gate : Option Gate := none
  /-- the last grid tick issued (R279) -/
  lastTick : Option Word := none
  /-- when READY was last set (R246) -/
  readyAt : Option Word := none
  /-- when the Shuttle's pulse or gate last ended: the end of its timer signal (R417) -/
  sigEnd : Option Word := none
deriving DecidableEq, Repr, Inhabited

/-- A gate token to a sequencer (R275 to R280): the Shuttle that sends it and what it carries. -/
inductive GateTok where
  | opening (sht : Nat) (t : Word)
  | tick (sht k : Nat) (t : Word)
  | closing (sht issued omitted : Nat) (late incomplete : Bool) (t : Word)
deriving DecidableEq, Repr

/-- A pulse output (R281 to R285): the edges per cycle and the base angle in force, the last edge passed, how far the next edge lies
ahead of the last update's ANGLE (in angle counts, negative when a step has passed it), the planned next edge, the last
edge's instant and the levels. -/
structure PulseOut where
  upd : Option Update := none
  last : Option Update := none
  run : Bool := false
  edges : Nat := 0
  perZ : Nat := 0
  base : Word := 0
  idx : Nat := 0
  ahead : Int := 0
  at_ : Option Word := none
  delayed : Bool := false
  lastAt : Option Word := none
  a : Bool := false
  b : Bool := false
  z : Bool := false
deriving DecidableEq, Repr, Inhabited

/-! ### 06, 07 Actuator banks -/

/-- A start that a Shuttle has committed on a bank (R297 to R304): the Shuttle and its entry, the channel, its time
word, the commit instant; whether the placement unit has received it, and whether it waits. -/
structure Request where
  sht : Nat
  idx : Nat
  ch : Nat
  kind : Nat
  time : Word
  commit : Word
  placed : Bool
  waiting : Bool
deriving DecidableEq, Repr

/-- What a Heddle does (R308 to R317): nothing, about to issue the instruction at its PC, in a timed or threshold wait,
regulating, or recovering. -/
inductive HPhase where
  | idle | issue | wait | chop | recov
deriving DecidableEq, Repr, Inhabited

/-- Heddle b beyond BNKb_STAT. -/
structure Heddle where
  phase : HPhase := .idle
  /-- the instruction address; 256 is past the store (R317) -/
  pc : Nat := 0
  /-- peak and valley codes in the DACs, blanking time in LSB, non-driving instructions in a row -/
  pk : Nat := 0
  vy : Nat := 0
  blank : Nat := 0
  nd : Nat := 0
  /-- drive state in force, its change instant, the last gate change (Table 6.2, R294, R315) -/
  drive : Nat := 0
  changeAt : Word := 0
  gateAt : Word := 0
  /-- the grant has applied the entry instruction's drive (R309) -/
  applied : Bool := false
  /-- where T of the running instruction is measured from, and T; 0: no limit (R315) -/
  base : Word := 0
  limit : Nat := 0
  /-- the stop sequence runs (R310) -/
  stopping : Bool := false
  /-- the regulation's on-state and off-state, and which is in force -/
  onD : Nat := 0
  offD : Nat := 0
  isOn : Bool := false
  cont : Bool := false
deriving DecidableEq, Repr, Inhabited

/-- The gates of a bank (Table 6.1): what is on, and what turns on when DEAD has elapsed (R291). -/
structure Gates where
  hsb : Bool := false
  hsv : Bool := false
  ls : Option Nat := none
  next : Option (Bool × Bool × Option Nat) := none
  nextAt : Word := 0
  /-- when the high side and the low side last turned on (R333, R335) -/
  hsAt : Word := 0
  lsAt : Word := 0
  /-- when a gate last turned off (R291) -/
  offAt : Option Word := none
deriving DecidableEq, Repr, Inhabited

/-- What a pulse has shown for its channel's thermal model (R364, R365): the last regulated band, chop cycles measured
and the sums of their rise and fall times, the transition that began the running half cycle, and whether VBAT left its
range; the measurement of an earlier instruction of the pulse; the start of CONT's 1 ms window. -/
structure ChopLog where
  band : Option (Nat × Nat) := none
  first : Bool := true
  n : Nat := 0
  rise : Nat := 0
  fall : Nat := 0
  lastRise : Option Nat := none
  since : Option Word := none
  bad : Bool := false
  meas : Option Rat := none
  winAt : Word := 0
deriving DecidableEq, Repr, Inhabited

/-- A channel's thermal model beyond BNKb_CHc_THM (R365): its last step, a step that a recovery end has made due, and the pulse
(sum of the band's codes, duration) and measurement (R_MEAS in 0.1 mΩ) that the next step takes. -/
structure Thermal where
  last : Word := 0
  due : Bool := false
  pulse : Option (Nat × Nat) := none
  meas : Option Rat := none
deriving DecidableEq, Repr, Inhabited

/-- A closure tail (R357 to R361): its channel, where its window and its sampling start, the pulse, the samples newest
first, the highest mean and its index, the mean before (means times four). -/
structure Tail where
  ch : Nat
  start : Word
  tStart : Word
  tStop : Word
  samples : List Nat
  count : Nat
  peak : Nat
  peakAt : Nat
  before : Option Nat
  drift : Option Nat
deriving DecidableEq, Repr

/-- Bank b beyond its registers. -/
structure Bank where
  /-- committed starts that the bank has not granted, oldest first; the last commit on the bank (R510) -/
  reqs : List Request := []
  commitAt : Option Word := none
  /-- the owner's channel, and its pulse: Shuttle, entry, start, stop -/
  owner : Option Nat := none
  pulse : Option (Nat × Nat) := none
  tStart : Word := 0
  tStop : Word := 0
  /-- the quantity mapping tile whose drift a closure of the pulse teaches (R470) -/
  drift : Option Nat := none
  /-- a latch was set during the pulse; its closure is not available (R344, R357) -/
  spoiled : Bool := false
  /-- the peak comparator has tripped since the entry gate change; OPEN_ON was checked (R332) -/
  peaked : Bool := false
  checked : Bool := false
  /-- the last instant at which a stop or a fault turned the owner's gates off, the gates before it and their last change: a fault of
  that very instant is still detected (R346, R347) -/
  before : Option (Word × Gates × Word) := none
  /-- entry into RECOVERY; recovery under overlap: channel, end, of a pulse (R302, R303) -/
  recAt : Word := 0
  /-- CONT is to begin when the bank can (R319, R350) -/
  contDue : Bool := false
  ovl : Option (Nat × Word × Bool) := none
  /-- channels' last recovery ends (R268) -/
  rend : List (Option Word) := [none, none, none, none]
  /-- the thermal level the owner was granted at (R370) -/
  level : Nat := 0
  heddle : Heddle := {}
  gates : Gates := {}
  chop : ChopLog := {}
  thermal : Vector Thermal 4 := Vector.replicate 4 {}
  tail : Option Tail := none
  /-- the last recovery end, while the bank has stayed IDLE since; RESIDUAL declared since (R342) -/
  idleAt : Option Word := none
  residual : Bool := false
  /-- the off-state test: its period, a test completed in it, a running test, an early test due, the self-test that
  follows it with its start, and an abandoned self-test that is to be retried (R338 to R341, R424) -/
  period : Word := 0
  tested : Bool := false
  test : Option Word := none
  early : Bool := false
  selftest : Option Word := none
  retest : Bool := false
  /-- the outputs of the peak, valley and recovery-zero comparators: at or above the peak DAC, below the valley DAC, below ZTH;
  an output holds its last value while its mode changes (R407, R411) -/
  outPk : Bool := false
  outVy : Bool := false
  outZ : Bool := false
  /-- latches that the comparator self-test holds: the bank's (R426) -/
  cmpLatch : Bool := false
  /-- channel fault conditions that Headland watches (Table 14.6a) -/
  shortSupply : Bool := false
  /-- when each LATCH last set, and when the host last cleared it and the retries it had then: the channels', then the
  bank's (R353) -/
  latchAt : Vector (Option Word) 5 := Vector.replicate 5 none
  clearAt : Vector (Option (Word × Nat)) 5 := Vector.replicate 5 none
deriving DecidableEq, Repr, Inhabited

/-- The mode of a comparator (Table 8.8) and when it last changed (R407). -/
structure Mode where
  code : Nat := 2
  since : Option Word := none
deriving DecidableEq, Repr, Inhabited

/-- The modes of a bank's comparators (R329, R330, R408): peak, valley and desaturation; recovery zero; the drains. -/
structure CmpModes where
  main : Mode := {}
  zero : Mode := { code := 1 }
  drain : Mode := {}
deriving DecidableEq, Repr, Inhabited

/-- A boost controller beyond its registers (R323 to R326, R356): enabled, switching, since when OV is 1, whether that
was reported. -/
structure Boost where
  enabled : Bool := false
  switching : Bool := false
  ovSince : Option Word := none
  told : Bool := false
deriving DecidableEq, Repr, Inhabited

/-! ### 08 Measurement front end -/

/-- A trigger that waits for its pass (R390 to R392): the time word of its first sample; the instant at which it arrived (R61); it
waited through a slice switch (R383). -/
structure Trig where
  t : Word
  at_ : Word := 0
  slip : Bool := false
deriving DecidableEq, Repr, Inhabited

/-- A conversion in flight (R373, R379): its slice, input, sample instant, and whether another test's open-wire current
was applied to its input (R406). -/
structure Conv where
  slice : Nat
  input : Nat
  at_ : Word
  owact : Bool
deriving DecidableEq, Repr, Inhabited

/-- A running pass (R388, R389, Table 8.6): the entry; the instant of the next sample; the open-wire step of the entry
(0 A, 1 B+, 2 B−, 3 current removed) and where its settle time runs from; A and B+; a slip counted; the last entry is
complete. -/
structure Pass where
  entry : Nat := 0
  next : Option Word := none
  step : Nat := 0
  settle : Option Word := none
  a : Int := 0
  bPos : Int := 0
  slipped : Bool := false
  done : Bool := false
deriving DecidableEq, Repr, Inhabited

/-- What a closing token carries (R280): ticks issued and omitted, LATE, INCOMPLETE; and SVC_CYCLE
at that instant (R447). -/
structure Closing where
  issued : Nat
  omitted : Nat
  late : Bool
  incomplete : Bool
  cycle : Nat
deriving DecidableEq, Repr, Inhabited

/-- A sequencer beyond its registers (R388 to R406): the pending-trigger slot, the running pass, the conversion in
flight, discarded passes to be marked after the running and after the pending pass (R396), the samples of a partly
filled PACK3 word, the first word of the open window, its closing, the next TIMER instant. -/
structure Sequencer where
  pend : Option Trig := none
  run : Option Pass := none
  conv : Option Conv := none
  fillsRun : Nat := 0
  fillsPend : Nat := 0
  pack : List Nat := []
  winStart : Nat := 0
  closing : Option Closing := none
  timer : Option Word := none
deriving DecidableEq, Repr, Inhabited

/-- The spare rotation beyond ADC_MAP and ADC_CALST (R381 to R386): the start of the last rotation, the slot that the
next one relieves, the start of the switch or of the calibration. -/
structure Rotation where
  start : Word := 0
  next : Nat := 0
  mark : Word := 0
deriving DecidableEq, Repr, Inhabited

/-- A window monitor beyond its registers (R407, R410 to R420): its comparators against LO and HI, the input last seen [mV],
the instant of the last latch set, the last reported event, the last change of its mode. -/
structure WMon where
  lo : Bool := false
  hi : Bool := false
  v : Option Nat := none
  latchAt : Option Word := none
  told : Option Word := none
  modeAt : Option Word := none
deriving DecidableEq, Repr, Inhabited

/-- A period timer (R416): its level, the end of the running phase, the end of the last high phase. -/
structure PTimer where
  high : Bool := false
  edge : Option Word := none
  sigEnd : Option Word := none
deriving DecidableEq, Repr, Inhabited

/-- The monitor self-tests (R425): the start of the running period, the next monitor to test (0 to 7 window, 8 to 13
supply, 14 none), the monitor under test and since when. -/
structure MonTest where
  period : Word := 0
  next : Nat := 14
  run : Option (Nat × Word) := none
deriving DecidableEq, Repr, Inhabited

/-! ### 09 Engine services -/

/-- A closure found (R362): bank and channel, the pulse, the closure instant, the mapping tile that learns from it. -/
structure Closure where
  bank : Nat
  ch : Nat
  tStart : Word
  tStop : Word
  at_ : Word
  drift : Option Nat
deriving DecidableEq, Repr, Inhabited

/-- A finalised window as its signal carries it (R398, R447): the sequencer, its SEQk_WIN word, SVC_CYCLE at the closing. -/
structure CmbWin where
  seq : Nat
  win : Word
  cycle : Nat
deriving DecidableEq, Repr, Inhabited

/-- A combustion tile beyond its registers (R431 to R448): the running analysis with PIN3's VALUE at its start, the pending
signal, records committed modulo 8, records that wait for their ESN (slot and words), IMEP and CYCLE of the last VALID
record (R451). -/
structure Combust where
  run : Option (CmbWin × Option Int) := none
  pend : Option CmbWin := none
  ring : Nat := 0
  merge : List (Nat × List Word) := []
  lastValid : Option (Int × Nat) := none
deriving DecidableEq, Repr, Inhabited

/-- A record commit as the trim tile sees it (R449 to R452): the cylinder, VALID, whether the primary was PHASED or
BORROWED, CA50, IMEP, CYCLE, and the instant of the commit. -/
structure Commit where
  cyl : Nat
  valid : Bool
  phased : Bool
  ca50 : Int
  imep : Int
  cycle : Nat
  at_ : Word
deriving DecidableEq, Repr, Inhabited

/-- A cylinder of a quantity mapping tile (R459): built since its firing TDC, and a build that is due. -/
structure MapCyl where
  built : Bool := false
  due : Bool := false
deriving DecidableEq, Repr, Inhabited

/-- The cycle count and the demand pages beyond their registers (R428, R454, R455): the update before, the increments of SVC_CYCLE
since the last swap, and what a swap of this instant replaced (its instant; PAGE, VALID and DEM_STALE before it). -/
structure Service where
  prev : Option Update := none
  sinceSwap : Option Nat := none
  before : Option (Word × Nat × Bool × Bool) := none
deriving DecidableEq, Repr, Inhabited

/-- The rail-pressure tile beyond its registers (R472 to R476): p_set, I_int in mA × 65,536 × 10^7, the last loop step and
the last ramp step; since when PIN0 and PIN1 differ, and whether the higher is in use; since when p_meas is at or above
RP_MAX, and whether that was declared. -/
structure Rail where
  pset : Nat := 0
  iint : Int := 0
  stepAt : Word := 0
  rampAt : Word := 0
  disSince : Option Word := none
  higher : Bool := false
  ovpSince : Option Word := none
  ovpTold : Bool := false
deriving DecidableEq, Repr, Inhabited

/-- The overspeed tile beyond its registers (R477, R478, R480): an update not yet taken, and the one before; the overspeed
was reported and its condition has not ended (Table 14.6a). -/
structure Overspeed where
  upd : Option Update := none
  prev : Option Update := none
  trip : Bool := false
deriving DecidableEq, Repr, Inhabited

/-! ### 10 Identity and calibration -/

/-- Where a Selvedge line stands in R496: not enumerating, waiting for 100 µs at H, before a reset, after a reset, after a
SELECT_SITE that was answered, at its end. -/
inductive SelvPhase where
  | off | high | ready | fresh | selected | done
deriving DecidableEq, Repr, Inhabited

/-- A Selvedge line beyond IDN_LINEl (R489 to R496): the start of its wait at H; whether the roll call was made; the sites to
read; failed tries on the first of them, by kind (0 no answer or a collision, 1 CRC, 2 format); sites judged so far with
the state code they have by themselves (1 accepted); the last background roll call. -/
structure SelvLine where
  phase : SelvPhase := .off
  since : Word := 0
  rolled : Bool := false
  todo : List Nat := []
  fails : List Nat := []
  results : List (Nat × Nat) := []
  rollAt : Word := 0
deriving DecidableEq, Repr, Inhabited

/-! ### 11 Links -/

/-- The response a host frame gets (Table 11.3); `pop`: its DATA is a word read from SYS_EVPOP or PRX_PEVPOP, which the
frame that shifts it out consumes: whether of the pair FIFO, the entry and the word of it (R521, R629). -/
structure Response where
  status : Nat := 0
  addr : Nat := 0
  data : Word := 0
  pop : Option (Bool × Entry × Nat) := none
deriving DecidableEq, Repr, Inhabited

/-- A CAN controller beyond its registers and buffers: the requests of its transmit buffers and their instants (R528);
result frames that wait and their instants, oldest first (R530); recovery from bus-off runs (R526). -/
structure Can where
  asked : List (Nat × Word) := []
  results : List (CanFrame × Word) := []
  recovering : Bool := false
deriving DecidableEq, Repr, Inhabited

/-- A window that a TRACE stream sends (R534): SVC_CYCLE of the window, its first word in trace memory, the buffer's base
and length, its words, the words sent, the instant it became ready. -/
structure TraceWin where
  cycle : Nat
  start : Nat
  base : Nat
  len : Nat
  total : Nat
  sent : Nat
  ready : Word
deriving DecidableEq, Repr, Inhabited

/-- A datagram of the other kinds (R534, R535): its words, its items, TAG, the instant of its first item, the instant it
became ready. -/
structure Datagram where
  words : List Word
  count : Nat
  tag : Nat
  first : Word
  ready : Option Word := none
deriving DecidableEq, Repr, Inhabited

/-- A stream beyond its registers (R535): windows that wait, the datagram that waits, the one that collects. -/
structure Stream where
  wins : List TraceWin := []
  wait : Option Datagram := none
  coll : Option Datagram := none
deriving DecidableEq, Repr, Inhabited

/-- An Ethernet port beyond its registers: start of its previous datagram, the frame it put on the wire then, the IPv4
identification of the next, its last link poll (R532, R533, R536). -/
structure EthPort where
  start : Option Word := none
  frame : List Nat := []
  ident : Nat := 0
  poll : Option Word := none
deriving DecidableEq, Repr, Inhabited

/-- A SENT channel beyond its registers: the sync pulse of the previous frame [0.625 ns], the status nibbles of the accepted
frames since the last message or rejected frame, oldest first, the instant of the last accepted frame (R538 to R540,
R547). -/
structure Sent where
  sync : Option Nat := none
  slow : List Nat := []
  heard : Option Word := none
deriving DecidableEq, Repr, Inhabited

/-- The instructions of the TAP (Table 11.14). -/
inductive JtagInstr where
  | bypass | extest | idcode | sample | highz | clamp | dbg
deriving DecidableEq, Repr, Inhabited

/-- The JTAG port: the instruction in force and the response to the last debug frame (R543 to R545). -/
structure Jtag where
  ir : Nat := 1
  instr : JtagInstr := .idcode
  resp : Response := {}
deriving DecidableEq, Repr, Inhabited

/-- The host side: the response to the previous frame, words of the oldest event entry that are consumed (R516, R521); the JTAG port; the
commands that the flash master has sent for the last host command, with their addresses (R541). -/
structure HostPort where
  resp : Response := {}
  popped : Nat := 0
  jtag : Jtag := {}
  fspi : List (Nat × Nat) := []
deriving DecidableEq, Repr, Inhabited

/-! ### 12 DMA engine and Strandline -/

/-- A descriptor that a channel runs (Table 12.1). `src` is the constant word in modes FILL and CHECK. -/
structure Desc where
  mode : Nat
  sinc : Bool
  dinc : Bool
  swrap : Nat
  dwrap : Nat
  last : Bool
  cpl : Nat
  count : Nat
  src : Nat
  dst : Nat
  next : Nat
deriving DecidableEq, Repr, Inhabited

/-- A beat in flight (R558): its index, its addresses, retries used, when its request arrived at the bus, and the acknowledge digit and
address of its access once the bus has served it (R59, R61); its write has been made and has not completed with ACCEPT (R561). -/
structure Beat where
  idx : Nat
  src : Nat
  dst : Nat
  retries : Nat := 0
  asked : Word := 0
  ans : Option (Nat × Nat) := none
  wrote : Bool := false
deriving DecidableEq, Repr, Inhabited

/-- A DMA channel beyond its registers (R554 to R570): the pending slot's time word, the time word of the trigger that
started the descriptor, the instant it left WAIT, the descriptor, beats issued and in flight (oldest first), TRACE has
admitted it (R568), STOP waits for its end, a beat that failed for good while another is in flight (its address); when the request
for the descriptor arrived at the bus, and once the bus has served it its words and the access that was not accepted (R59, R61); the
words of it that were accepted before, and the retries used for the next (R560). -/
structure DmaChan where
  slot : Option Word := none
  time : Word := 0
  left : Option Word := none
  desc : Option Desc := none
  issued : Nat := 0
  flight : List Beat := []
  admitted : Bool := false
  stop : Bool := false
  failed : Option Nat := none
  asked : Word := 0
  fetched : Option (List Word × Option (Nat × Nat)) := none
  got : List Word := []
  tries : Nat := 0
deriving DecidableEq, Repr, Inhabited

/-- The record being written (R586): TYPE, KEY, first slot, its words in order of writing, start. -/
structure RecJob where
  type : Nat
  key : Nat
  slot : Nat
  words : List Word
  start : Word
deriving DecidableEq, Repr, Inhabited

/-- Strandline beyond its registers, memory and accumulators (R584 to R590): a full commit that is requested; the running commit is
a full one (R585); records that remain of the running commit, the one being written, and the first SEQ of the commit; first slots of the current SIGNATURE
records; start of the recovery scan; Ebb warnings before READY (R637) and Low-water resets not yet counted (R578); running time counted toward COMMIT_PER
[0.625 ns] and since when; the time toward the next second of COUNTERS word 1 [0.625 ns] and up to when it is counted; last histogram steps; last match
of each REC_TRIGn. -/
structure Strand where
  want : Bool := false
  full : Bool := false
  todo : List (Nat × Nat) := []
  cur : Option RecJob := none
  first : Nat := 0
  sigSlot : Vector (Option Nat) 2 := Vector.replicate 2 none
  scan : Word := 0
  ebbs : Nat := 0
  lwrs : Nat := 0
  period : Nat := 0
  counted : Word := 0
  secAt : Word := 0
  secs : Nat := 0
  coilAt : Word := 0
  boostAt : Word := 0
  trigAt : Vector (Option Word) 8 := Vector.replicate 8 none
deriving DecidableEq, Repr, Inhabited

/-! ### 13 Pair operation -/

/-- An entry of the pair FIFO (R629): the event, its merge key as one 80-bit number, and whether the B-side reported it. -/
structure PairEntry where
  ev : Entry
  key : Nat
  bSide : Bool
deriving DecidableEq, Repr, Inhabited

/-- A frame that waits or is on the link (Table 13.3): TYPE and payload. -/
structure ProexFrame where
  type : Nat
  payload : List Nat
deriving DecidableEq, Repr, Inhabited

/-- The Proex controller beyond its registers (13_pair_operation). -/
structure Pair where
  /-- consecutive comparisons of R618 -/
  dc : Nat := 0
  hc : Nat := 0
  ac : Nat := 0
  /-- own SRC at the hard declaration; the primary crank Warp has entered HUNT, STALL or REVERSE since (Table 13.8) -/
  hardSrc : Nat := 0
  leftSync : Bool := false
  /-- acceptance of the last TOOTH frame with HALF 0 and how long it stays valid (R614) -/
  toothAt : Option Word := none
  toothFor : Nat := 0
  /-- last accepted FSEQ of each TYPE, and frames of each TYPE sent (R600, Table 13.2) -/
  rxSeq : List (Nat × Nat) := []
  txSeq : List (Nat × Nat) := []
  /-- T1 of the last four BEATs sent, newest first; T1 and arrival of the last BEAT accepted (R603, Table 13.4) -/
  sent : List Word := []
  echo : Option (Word × Word) := none
  /-- since when no BEAT has been accepted, and no offset sample (R601, R606) -/
  beatAt : Word := 0
  mapAt : Word := 0
  /-- the partner's merge key from its last BEAT or EVENT, and its key and CYC_OFS from its last BEAT (R627 to R629) -/
  partKey : Nat := 0
  beatKey : Nat := 0
  partOfs : Nat := 0
  /-- own merge key (R627); CYC_OFS has been set since the last entry to UP (R628) -/
  key : Nat := 0
  ofsSet : Bool := false
  /-- the pair FIFO in order of key, and the words read of its oldest entry (R629) -/
  fifo : List PairEntry := []
  popped : Nat := 0
  /-- transmitter: the next BEAT falls due at; a BEAT is due; TOOTH frames and normal frames that wait, oldest first; the
  link is busy with a normal and with an urgent frame until; the characters sent last as normal and as urgent frame (R595 to R602) -/
  dueAt : Word := 0
  beatDue : Bool := false
  teeth : List ProexFrame := []
  queue : List ProexFrame := []
  busyTo : Option Word := none
  toothTo : Option Word := none
  sentNormal : List Nat := []
  sentTooth : List Nat := []
  /-- bodies of the COUNTERS and EXTREMES records written last (Table 13.6) -/
  cntBody : List Word := []
  extBody : List Word := []
  /-- BLOCK series: IDs due at once; last series of IDs 1 and 2; series being received: ID and the offset that follows;
  whether it is whole so far (R609, R611) -/
  blockDue : List Nat := []
  sigAt : Word := 0
  fpAt : Word := 0
  series : Option (Nat × Nat) := none
  whole : Bool := false
deriving DecidableEq, Repr, Inhabited

/-! ### 14 Supply, reset, Headland -/

/-- Headland beyond its registers: RUN has been entered since the reset (R324); where SYS_START.TIME counts from (R648); the
self-test passed (R671); the first SAFE cause of START; CUT causes in force with the end of their condition (R668); code 5 whose condition has not ended, and the banks that
code 6 has named while theirs may not have (R701); the instant of the last SAFE or HALT detection (R669); the instant of the last Headland transition (R103); consecutive deviating windows and hot samples (R673, R674); SAFE_IN has held high (R677). -/
structure Headland where
  runSeen : Bool := false
  startAt : Word := 0
  tested : Bool := false
  startCause : Option Nat := none
  cuts : List (Nat × Nat × Option Word) := []
  upset : Bool := false
  residual : List Nat := []
  severeAt : Option Word := none
  movedAt : Option Word := none
  clockBad : Nat := 0
  hot : Nat := 0
  safeInSeen : Bool := false
deriving DecidableEq, Repr, Inhabited

/-- Why the device is held in reset (Table 14.2). -/
inductive ResetKind where
  | por | lowWater | pin | soft | wake
deriving DecidableEq, Repr, Inhabited

/-- Supplies, power domains and wake (14_supply_reset_safety): the reset that holds the device and the start of the last
reset; the instants at which supply monitors SM0 to SM5 last changed; RESET_N is low; the instants at which their modes last changed;
the Low-water reset is asserted; the instants at which domains 2 to 7 last changed; a standby request runs; the WAKE comparator and the instant it last changed; entry to standby; how often trace
memory has lost its contents (the model's own count, log entry 3). -/
structure Supply where
  hold : Option ResetKind := none
  holdAt : Word := 0
  smAt : Vector Word 6 := Vector.replicate 6 0
  smModeAt : Vector (Option Word) 6 := Vector.replicate 6 none
  resetLow : Bool := false
  lowWater : Bool := false
  domAt : Vector Word 6 := Vector.replicate 6 0
  standby : Bool := false
  wakePin : Bool := false
  wakeAt : Word := 0
  standbyAt : Word := 0
  traceLost : Nat := 0
deriving DecidableEq, Repr, Inhabited

/-! ### The state -/

/-- The machine's state. -/
structure State where
  /-- the timebase at the last command (00_scope, "The time word") -/
  now : Word := 0
  /-- MODEL's own field: counts the undefined values drawn from Config.freeWord; no statement rests on it -/
  fresh : Nat := 0
  /-- whether the device runs, is held in reset or stands by (R642, R658) -/
  power : Power := .held
  /-- straps SIDE and FLASH_MIRROR as sampled at the last reset end (R684) -/
  straps : Bool × Bool := (false, false)
  /-- register words over the register map; unlisted: the Reset column (R17) -/
  regs : Cells 48 := []
  /-- trace memory (Table 1.11), each word as its bitwise difference to State.traceBase (Machine/Ops.lean, log entry 3) -/
  trace : Cells 48 := []
  /-- working memory -/
  work : Cells 48 := []
  /-- Strandline record memory -/
  recMem : Cells 48 := []
  /-- weave store, ply 0 -/
  ply0 : Cells 48 := []
  /-- weave store, ply 1 -/
  ply1 : Cells 48 := []
  /-- weave store, ply 2 -/
  ply2 : Cells 48 := []
  /-- external configuration flash, by byte address -/
  flash : Cells 8 := []
  /-- what hardware counted and set at the last instant at which it did; a clear at that instant spares it (R15, R76, R186) -/
  ticks : List Tick := []
  /-- reportable outcomes that wait for the event merge, oldest first (R63, R646) -/
  reports : List Report := []
  /-- the reset event has been emitted, so the merge assigns ESNs (R646) -/
  mergeOpen : Bool := false
  /-- the event FIFO, oldest first (R519) -/
  fifo : List Entry := []
  /-- Headland detections (code of Table 14.7, index) that HEADLAND_CAUSE has not yet taken -/
  causes : List (Nat × Nat) := []
  /-- crossings of the seven monitored domains, in SYS_CLKLOST bit order -/
  crossings : Vector Crossing 7 := Vector.replicate 7 {}
  /-- slack governor -/
  gov : Governor := {}
  /-- weave -/
  weave : Weave := {}
  /-- the primary crank Warp, 0 or 1 (Table 4.1) -/
  primary : Nat := 0
  /-- Warps -/
  warps : Vector Warp 6 := Vector.replicate 6 {}
  /-- Wefts -/
  wefts : Vector Weft 2 := Vector.replicate 2 {}
  /-- coast and profile learning -/
  learn : Learn := {}
  /-- tokens on their way to each Shuttle (R153, R154) -/
  shTok : Vector Tokens 64 := Vector.replicate 64 {}
  /-- tokens on their way to each bank (R154) -/
  bkTok : Vector Tokens 12 := Vector.replicate 12 {}
  /-- Proex controller -/
  pair : Pair := {}
  /-- Strandline records that an event asks to be written: its time word, type and key, in the order of their service (R59, R224, R587) -/
  recJobs : List (Word × Nat × Nat) := []
  /-- Strandline accumulators, by accKey (R576 to R582) -/
  acc : Cells 48 := []
  /-- Shuttles -/
  shuttles : Vector Shuttle 64 := Vector.replicate 64 {}
  /-- gate tokens on their way to each sequencer, oldest first -/
  seqTok : Vector (List GateTok) 16 := Vector.replicate 16 []
  /-- pulse outputs: encoder, tachometer -/
  pulseOuts : Vector PulseOut 2 := Vector.replicate 2 {}
  /-- actuator banks -/
  banks : Vector Bank 12 := Vector.replicate 12 {}
  /-- modes of the banks' comparators (R295, R329, R330, R408) -/
  cmps : Vector CmpModes 12 := Vector.replicate 12 {}
  /-- boost controllers -/
  boosts : Vector Boost 3 := Vector.replicate 3 {}
  /-- closures found and not yet taken by the drift update (R362, R470) -/
  closures : List Closure := []
  /-- sequencers -/
  seqs : Vector Sequencer 16 := Vector.replicate 16 {}
  /-- last sample instant of each physical slice (R373) -/
  slices : Vector (Option Word) 9 := Vector.replicate 9 none
  /-- spare rotation -/
  rot : Rotation := {}
  /-- effective offset and gain of each analogue input, once formed (R379, R506) -/
  inCal : List (Int × Nat) := []
  /-- window monitors -/
  wmons : Vector WMon 8 := Vector.replicate 8 {}
  /-- period timers -/
  ptimers : Vector PTimer 4 := Vector.replicate 4 {}
  /-- monitor self-tests -/
  monTest : MonTest := {}
  /-- window signals on their way to combustion tiles (R398) -/
  cmbSig : List (Nat × CmbWin) := []
  /-- last delivery of each pressure input's source, none after a bad one (R430) -/
  pins : Vector (Option Word) 4 := Vector.replicate 4 none
  /-- combustion tiles -/
  combust : Vector Combust 24 := Vector.replicate 24 {}
  /-- record commits that the trim tile has not taken, oldest first (R449) -/
  trimDue : List Commit := []
  /-- quantity mapping: cylinder k of tile q at 24 q + k -/
  maps : Vector MapCyl 48 := Vector.replicate 48 {}
  /-- cycle count and demand pages -/
  svc : Service := {}
  /-- rail-pressure tile -/
  rail : Rail := {}
  /-- overspeed tile -/
  ovs : Overspeed := {}
  /-- Selvedge lines -/
  selv : Vector SelvLine 14 := Vector.replicate 14 {}
  /-- start of the enumeration that runs (R495) -/
  enumStart : Option Word := none
  /-- host SPI, JTAG and the words of the oldest event entry read out -/
  host : HostPort := {}
  /-- CAN FD controllers -/
  cans : Vector Can 4 := Vector.replicate 4 {}
  /-- Ethernet streams -/
  streams : Vector Stream 8 := Vector.replicate 8 {}
  /-- Ethernet ports -/
  ports : Vector EthPort 2 := Vector.replicate 2 {}
  /-- SENT channels -/
  sents : Vector Sent 8 := Vector.replicate 8 {}
  /-- DMA channels -/
  dma : Vector DmaChan 16 := Vector.replicate 16 {}
  /-- triggers on their way to DMA channels: channel and time word, oldest first (R554) -/
  dmaTrigs : List (Nat × Word) := []
  /-- commands of the queue that a decision of the internal bus has carried out before their turn (R59, R61) -/
  ahead : List Instr := []
  /-- Strandline -/
  strand : Strand := {}
  /-- supplies, power domains and wake -/
  supply : Supply := {}
  /-- Headland -/
  saf : Headland := {}
  /-- the commands that wait, first in, first out -/
  pending : List Instr := []
deriving DecidableEq, Repr

/-- Why the machine would stop with a fault. The spec gives the block no condition in which a command has no outcome:
every error is an effect on the state. No constructor; safe. -/
inductive Fault where
deriving DecidableEq, Repr

/-- Why a command is refused. -/
inductive Refusal where
  /-- A row of the opcode table whose meaning has not been written; raised by Machine/Dispatch.lean alone. Safe. -/
  | notModelled (mnemonic : String)
deriving DecidableEq, Repr

/-- The machine at the end of a power-on reset (R17, R642, R643): every register at its Reset column, SYS_RSTCAUSE.POR
set, every memory with nothing listed, nothing in progress. RESET_END then starts the load (R91). -/
def State.reset : State := { regs := [(4, 0x800000000000)], supply := { hold := some .por } }

end Sys2Proof.Machine
end

