-- ==== Sys2Proof/Machine/Ops.lean ====
section
/-!
DEFINITION. The named operations on the state: register words and fields, counters, the window memories and flash, the
Strandline accumulators, reports to the event merge and to Headland, the instantiated tiles, and free values.
-/
namespace Sys2Proof.Machine

/-! ### Fields of words -/

/-- A field of a word. -/
def Fld.get (f : Fld) (w : Word) : Nat := (w >>> f.lo).toNat % 2 ^ f.wid

/-- The word with a field replaced; the value is taken modulo the field's width. -/
def Fld.put (f : Fld) (w : Word) (v : Nat) : Word :=
  let m : Word := (BitVec.ofNat 48 (2 ^ f.wid - 1)) <<< f.lo
  (w &&& ~~~m) ||| ((BitVec.ofNat 48 (v % 2 ^ f.wid)) <<< f.lo)

/-- The value a field saturates at: all ones. -/
def Fld.max (f : Fld) : Nat := 2 ^ f.wid - 1

/-! ### Registers -/

/-- The stored word of the register at `a`; an unlisted register holds its Reset column (R17). -/
def State.reg (s : State) (a : Nat) : Word := s.regs.get regReset a

/-- Stores a register word. -/
def State.setReg (s : State) (a : Nat) (w : Word) : State := { s with regs := s.regs.set regReset a w }

/-- Reads a field as an unsigned number. -/
def State.get (s : State) (f : Fld) : Nat := f.get (s.reg f.addr)

/-- Reads a field as a signed number (R3). -/
def State.getI (s : State) (f : Fld) : Int := signed f.wid (s.get f)

/-- Writes a field. -/
def State.set (s : State) (f : Fld) (v : Nat) : State := s.setReg f.addr (f.put (s.reg f.addr) v)

/-- Writes a signed field. -/
def State.setI (s : State) (f : Fld) (v : Int) : State := s.set f (unsign f.wid v)

/-- Sets a one-bit field, or sets it to 0. -/
def State.flag (s : State) (f : Fld) (b : Bool) : State := s.set f (if b then 1 else 0)

/-- Whether a one-bit field is 1. -/
def State.is (s : State) (f : Fld) : Bool := decide (s.get f = 1)

/-- Remembers what hardware does to a field at this instant; what it did at earlier instants is forgotten. -/
def State.note (s : State) (f : Fld) (n : Nat) : State :=
  { s with ticks := { time := s.now, addr := f.addr, lo := f.lo, n } :: s.ticks.filter (fun k => decide (k.time = s.now)) }

/-- What hardware has done to a field at this instant, latest first. -/
def State.noted (s : State) (f : Fld) : List Nat :=
  (s.ticks.filter (fun k => decide (k.time = s.now ∧ k.addr = f.addr ∧ k.lo = f.lo))).map (·.n)

/-- Sets bits of a sticky field: a clear at this instant leaves them set (R15). -/
def State.stick (s : State) (f : Fld) (bits : Nat) : State := (s.set f (s.get f ||| bits)).note f bits

/-- The bits of a sticky field that were set at this instant. -/
def State.stuck (s : State) (f : Fld) : Nat := (s.noted f).foldl (· ||| ·) 0

/-- Adds to a counter that saturates at its all-ones value. -/
def State.add (s : State) (f : Fld) (n : Nat) : State := (s.set f (min (s.get f + n) f.max)).note f n

/-- Raises a saturating counter by one. -/
def State.inc (s : State) (f : Fld) : State := s.add f 1

/-- Raises a counter that counts modulo its width. -/
def State.incMod (s : State) (f : Fld) : State := s.set f (s.get f + 1)

/-- Raises a field to `v` when `v` is larger, saturating. -/
def State.maxTo (s : State) (f : Fld) (v : Nat) : State :=
  (if s.get f < v then s.set f (min v f.max) else s).note f v

/-- Clears counters: what was counted at this very instant counts after the clear (R186 and the rules like it). -/
def State.clearCounts (s : State) (fs : List Fld) : State := fs.foldl (fun s f => s.set f (min (s.noted f).sum f.max)) s

/-- Clears longest times and largest values: what was recorded at this very instant is recorded after the clear (R76). -/
def State.clearMax (s : State) (f : Fld) : State := s.set f (min ((s.noted f).foldl max 0) f.max)

/-- Sets SYS_STATUS.WREJ (R14). -/
def State.wrej (s : State) : State := s.stick Reg.SYS_STATUS_WREJ 1

/-- The device runs at level E (R18). -/
def State.levelE (s : State) : Bool := s.is Reg.SYS_STATUS_LEVEL

/-- SYS_STATUS.LOOM_RUN. -/
def State.running (s : State) : Bool := s.is Reg.SYS_STATUS_LOOM_RUN

/-- STATE codes of Table 2.18. -/
abbrev stLoading : Nat := 1
abbrev stLoaded : Nat := 2
abbrev stRunning : Nat := 3
abbrev stNoPly : Nat := 4
abbrev stConflict : Nat := 5
abbrev stFault : Nat := 6

/-- WVE_STATUS.STATE. -/
def State.wstate (s : State) : Nat := s.get Reg.WVE_STATUS_STATE

/-- STATE is LOADED or RUNNING. -/
def State.woven (s : State) : Bool := decide (s.wstate = stLoaded ∨ s.wstate = stRunning)

/-- A tile is instantiated by the running weave (R34). -/
def State.hasTile (s : State) (type idx : Nat) : Bool := s.weave.tiles.contains (type, idx)

/-- A routable ball carries signal `k` of the tile: the weave holds its pin record and instantiates the tile (R680, Table 15.5). -/
def State.assigned (s : State) (type idx k : Nat) : Bool :=
  s.hasTile type idx && s.weave.pins.any (fun p => decide (p.type = type ∧ p.idx = idx ∧ p.signal = k))

/-- A register of a tile that the weave does not instantiate (R34). -/
def State.absent (s : State) (r : RegRow) (i : Nat) : Bool :=
  match r.tile with
  | some t => !s.hasTile t.type (if t.perInst then t.idx + i else t.idx)
  | none => false

/-- The register at `a` belongs to a tile that the weave does not instantiate: a write of it is refused (R34). -/
def State.gone (s : State) (a : Nat) : Bool :=
  match regAt a with
  | some (r, i, _) => s.absent r i
  | none => false

/-! ### Memories -/

/-- What a byte or word of RAM or weave store that nothing has written reads as (log entry 3). -/
def memDefault (_ : Nat) : Word := 0

/-- What a flash byte that nothing has written reads as (log entry 3). -/
def flashDefault (_ : Nat) : BitVec 8 := 0xFF

def State.workGet (s : State) (a : Nat) : Word := s.work.get memDefault a
def State.workSet (s : State) (a : Nat) (w : Word) : State := { s with work := s.work.set memDefault a w }

/-- What trace word `a` reads when nothing has been written to it since the memory last lost its contents: undefined after an
OFF of its domain, a standby or a further power-on reset (Table 14.4), 0 before (log entry 3). -/
def State.traceBase (s : State) (a : Nat) : Word :=
  if s.supply.traceLost = 0 then 0 else Config.lostTrace s.supply.traceLost a

/-- Trace memory lists the bitwise difference of each word to its base, so that its canonical form needs no undefined value. -/
def State.traceGet (s : State) (a : Nat) : Word := s.trace.get memDefault a ^^^ s.traceBase a
def State.traceSet (s : State) (a : Nat) (w : Word) : State :=
  { s with trace := s.trace.set memDefault a (w ^^^ s.traceBase a) }

/-- A tile reads trace word `a`: while TRACE is not ON the access completes with DOMAIN_OFF and the tile takes an undefined word (R653,
R655; log entry 166). -/
def State.traceTile (s : State) (a : Nat) : Word :=
  if bitsOf (s.get Reg.SYS_PWRSTAT_STATE) 0 2 = 0 then s.traceGet a else Config.offWord s.fresh a

/-- The counter of free values moves on when a tile has read while TRACE is not ON. -/
def State.traceRead (s : State) : State :=
  if bitsOf (s.get Reg.SYS_PWRSTAT_STATE) 0 2 = 0 then s else { s with fresh := s.fresh + 1 }

def State.recGet (s : State) (a : Nat) : Word := s.recMem.get memDefault a
def State.recSet (s : State) (a : Nat) (w : Word) : State := { s with recMem := s.recMem.set memDefault a w }
def State.flashGet (s : State) (a : Nat) : Nat := (s.flash.get flashDefault a).toNat
def State.flashSet (s : State) (a : Nat) (v : Nat) : State :=
  { s with flash := s.flash.set flashDefault a (BitVec.ofNat 8 v) }

/-- A word of the weave store of ply `n`. -/
def State.plyGet (s : State) (n a : Nat) : Word :=
  (if n = 0 then s.ply0 else if n = 1 then s.ply1 else s.ply2).get memDefault a

/-- Programs a word of the weave store of ply `n`. -/
def State.plySet (s : State) (n a : Nat) (w : Word) : State :=
  if n = 0 then { s with ply0 := s.ply0.set memDefault a w }
  else if n = 1 then { s with ply1 := s.ply1.set memDefault a w }
  else { s with ply2 := s.ply2.set memDefault a w }

/-- Writes consecutive words of working memory. -/
def State.workWrite (s : State) (a : Nat) : List Word → State
  | [] => s
  | w :: ws => (s.workSet a w).workWrite (a + 1) ws

/-- Reads `n` consecutive words of working memory. -/
def State.workRead (s : State) (a n : Nat) : List Word := (List.range n).map (fun k => s.workGet (a + k))

/-! ### Strandline accumulators (12_dma_and_strandline, R576 to R582) -/

/-- The key of accumulator word `w` of the record TYPE and KEY. -/
def accKey (type key w : Nat) : Nat := (type * 16 + key) * 1024 + w

/-- What an accumulator word holds before anything is loaded: 0, and INDEX 0xFF in the even words of EXTREMES (R579,
Table 12.10). -/
def accDefault (k : Nat) : Word :=
  if k / 1024 = 2 * 16 ∧ k % 1024 < 32 ∧ k % 2 = 0 then 0xFF00 else 0

def State.accGet (s : State) (type key w : Nat) : Word := s.acc.get accDefault (accKey type key w)
def State.accSet (s : State) (type key w : Nat) (v : Word) : State :=
  { s with acc := s.acc.set accDefault (accKey type key w) v }

/-- Adds to a U48 accumulator word, saturating (R576, R578). -/
def State.accAdd (s : State) (type key w n : Nat) : State :=
  s.accSet type key w (BitVec.ofNat 48 (min ((s.accGet type key w).toNat + n) (W48 - 1)))

/-- Raises a U48 accumulator word, saturating (R576, R578). -/
def State.accInc (s : State) (type key w : Nat) : State := s.accAdd type key w 1

/-- What COUNTERS and EXTREMES are to hold is taken: the Strandline tile runs, or READY is not set yet, and then it is held until the
recovery ends (R34, R591; log entry 80). -/
def State.strandTakes (s : State) : Bool := s.hasTile 0x0F 0 || !s.is Reg.REC_STAT_READY

/-- Raises COUNTERS word `w` (R578). -/
def State.counter (s : State) (w : Nat) : State := if s.strandTakes then s.accInc 1 0 w else s

/-- One half of COUNTERS word 8 + b: the upper half counts WAITED, the lower half drops (R578). -/
def bankHalf (upper : Bool) : Fld := ⟨0, if upper then 24 else 0, 24⟩

/-- Adds to one half of COUNTERS word 8 + b, saturating (R578). -/
def State.halfAdd (s : State) (b : Nat) (upper : Bool) (n : Nat) : State :=
  let f := bankHalf upper
  let w := s.accGet 1 0 (8 + b)
  s.accSet 1 0 (8 + b) (f.put w (min (f.get w + n) f.max))

/-- Raises one half of COUNTERS word 8 + b (R578). -/
def State.counterBank (s : State) (b : Nat) (upper : Bool) : State := if s.strandTakes then s.halfAdd b upper 1 else s

/-- Offers a value to extreme `e` (R579): a maximum, or a minimum when `isMin`; values are 32-bit, signed when `sgn`. -/
def State.extreme (s : State) (e idx : Nat) (v : Int) (isMin sgn : Bool) : State :=
  let fv : Fld := ⟨0, 16, 32⟩
  let fi : Fld := ⟨0, 8, 8⟩
  let w := s.accGet 2 0 (2 * e)
  let old : Int := if sgn then signed 32 (fv.get w) else fv.get w
  if s.strandTakes ∧ (fi.get w = 0xFF ∨ (if isMin then v < old else old < v)) then
    (s.accSet 2 0 (2 * e) (fi.put (fv.put 0 (unsign 32 v)) idx)).accSet 2 0 (2 * e + 1)
      (fv.put 0 (s.get Reg.REC_SEQ_NEXT))
  else s

/-! ### Reports -/

/-- Reports an outcome to the event merge (R520). -/
def State.report (s : State) (src idx code arg : Nat) (time : Option Word := none) : State :=
  { s with reports := s.reports ++ [{ src, idx, code, arg, time }] }

/-- Reports a detection to Headland: a code of Table 14.7 and its index. -/
def State.cause (s : State) (code idx : Nat) : State := { s with causes := s.causes ++ [(code, idx)] }

/-! ### Units -/

/-- Entry `i` of a vector, with a default beyond its end. -/
def vget {α : Type} {n : Nat} [Inhabited α] (v : Vector α n) (i : Nat) : α := v.toList.getD i default

/-- The vector with entry `i` replaced; unchanged beyond its end. -/
def vset {α : Type} {n : Nat} (v : Vector α n) (i : Nat) (x : α) : Vector α n := v.setIfInBounds i x

/-- The state of power domain `d`, 2 to 7 (Table 14.12): 0 ON, 1 DRAIN, 2 OFF, 3 WAKING. -/
def State.domain (s : State) (d : Nat) : Nat := bitsOf (s.get Reg.SYS_PWRSTAT_STATE) (2 * d - 4) 2

/-- The crossing of monitored domain `k` (SYS_CLKLOST bit order) refuses requests (R47). -/
def State.crossingOff (s : State) (k : Nat) : Bool := (vget s.crossings k).blocked

/-- A free value: a word that the spec leaves undefined (log entry 2). -/
def State.free (s : State) : Word × State := (Config.freeWord s.fresh, { s with fresh := s.fresh + 1 })

/-- A value held to a unit where the spec does not say how it is rounded: one of the two units around it (log entry
10). -/
def openRound (q : Rat) : Int := if q.den = 1 then q.num else q.floor + (if Config.roundsUp q then 1 else 0)

/-- A span of the timebase held to units of `u` LSB; the rounding is the spec's open one (log entry 10). -/
def heldTo (u n : Nat) : Nat := (openRound ((n : Rat) / u)).toNat

/-- A decision of the internal bus has carried the command out before its turn (R59, R61; log entry 132). -/
def State.early (s : State) (c : Instr) : Bool := s.ahead.contains c

/-- Its turn comes: it has nothing left to do. -/
def State.passed (s : State) (c : Instr) : State := { s with ahead := s.ahead.erase c }

/-- The command has been carried out before its turn. -/
def State.took (s : State) (c : Instr) : State := { s with ahead := s.ahead ++ [c] }

/-- The outcome of a command. -/
abbrev Out := Host.Outcome State Fault Refusal

/-- The state that an outcome leads to. -/
def State.after (s : State) (o : Out) : State :=
  match o with
  | .next x => x
  | _ => s

/-- The machine with its timebase at the instant of a command (log entry 1). -/
def State.at (s : State) (t : Word) : State := { s with now := t }

end Sys2Proof.Machine
end

