-- ==== Sys2Proof/Machine/Fabric.lean ====
section
/-!
DEFINITION. The Loom's integrity monitors, the slack governor and the latency record (01_loom_fabric). The clock and
crossing commands of R47 stand in Machine/Supply.lean, the event merge in Machine/Merge.lean.
-/
namespace Sys2Proof.Machine

/-- Sets one bit of a field. -/
def State.setBit (s : State) (f : Fld) (n : Nat) : State := s.set f (s.get f ||| 2 ^ n)

/-- Sets one bit of a sticky field. -/
def State.stickBit (s : State) (f : Fld) (n : Nat) : State := s.stick f (2 ^ n)

/-- Clears one bit of a field. -/
def State.clearBit (s : State) (f : Fld) (n : Nat) : State :=
  s.set f (s.get f - if (s.get f).testBit n then 2 ^ n else 0)

/-- The condition of a cause whose reaction may be CUT still holds (R668): SLACK, RAIL_OVP, WM_TRIP, SAFE_IN. -/
def State.cutCond (s : State) (code idx : Nat) : Bool :=
  match code with
  | 4 => s.gov.slack
  | 18 => s.rail.ovpSince.isSome
  | 19 => decide (s.get (Reg.WM_STAT_CLASS idx) ≠ 0)
  | 22 => decide (s.get Reg.SAF_STAT_SAFE_IN_LVL = 0)
  | _ => false

/-- Each CUT cause in force knows since when its condition has ended (R668). -/
def State.cutWatch (s : State) : State :=
  { s with saf := { s.saf with cuts := s.saf.cuts.map (fun (c, i, e) =>
      (c, i, if s.cutCond c i then none else some (e.getD s.now))) } }

/-- INVALID_CODE_DETECT: the region's INVALID bit is set and Headland hears of code 1 (R38, Table 1.17). -/
def execInvalidCodeDetect (t : Word) (region : Fin 8) (s : State) : Out :=
  .next (((s.at t).stickBit Reg.SYS_REGION_INVALID region).cause 1 region)

/-- HANDSHAKE_STALL: the region's STALL bit is set and Headland hears of code 2 (R43). -/
def execHandshakeStall (t : Word) (region : Fin 8) (s : State) : Out :=
  .next (((s.at t).stickBit Reg.SYS_REGION_STALL region).cause 2 region)

/-- The (percent, region) of the worst replica: two stages per region, the first largest (Table 1.2, Table 1.16). -/
def worstReplica (pcts : List Nat) : Nat × Nat :=
  pcts.zipIdx.foldl (fun w (p, k) => if w.1 < p then (p, k / 2) else w) (pcts.headD 0, 0)

/-- The samples of the last 1 ms (Table 1.16; half-open by R8). -/
def recentSamples (t : Word) (h : List (Word × Nat × Nat)) : List (Word × Nat × Nat) :=
  h.filter (fun e => decide (elapsed e.1 t < ms))

/-- The worst sample of a history, the oldest of equal ones. -/
def worstSample (h : List (Word × Nat × Nat)) : Nat × Nat :=
  h.foldl (fun w e => if w.1 < e.2.1 then e.2 else w) ((h.map Prod.snd).headD (0, 0))

/-- GOVERNOR_SAMPLE: the two replica results of each region in percent, region 0 first (R53 to R56). -/
def execGovernorSample (t : Word) (pcts : Vector Nat 16) (s : State) : Out :=
  let s := s.at t
  let ps := pcts.toList
  let hist := recentSamples t s.gov.hist ++ [(t, worstReplica ps)]
  let worst := worstSample hist
  let risk := decide (s.get Reg.SYS_GOV_VCODE = 30) && ps.any (fun p => decide (95 ≤ p))
  let calm := ps.all (fun p => decide (p < s.get Reg.SYS_GOV_CTRL_GOV_DOWN))
  let newRisk := risk && !s.gov.slack
  let g := { s.gov with
    hist
    overUp := ps.any (fun p => decide (s.get Reg.SYS_GOV_CTRL_GOV_UP < p))
    slack := risk
    belowSince := if calm then some (s.gov.belowSince.getD t) else none }
  let s := { s with gov := g }
  let s := (s.set Reg.SYS_GOV_WORST_PCT (satU 8 worst.1)).set Reg.SYS_GOV_WORST_REG worst.2
  let s := if risk then s.stick Reg.SYS_GOV_SLACK_LOW 1 else s
  .next (if newRisk then s.cause 4 worst.2 else s).cutWatch

/-- VCORE_RAISE: 10 mV up, every 2 µs while a replica exceeds GOV_UP, to at most 0.90 V (R53, R55, R57). -/
def execVcoreRaise (t : Word) (s : State) : Out :=
  let s := s.at t
  let due := s.gov.lastRaise.all (fun r => decide (2 * us ≤ elapsed r t))
  .next (if s.gov.on && s.gov.overUp && due && decide (s.get Reg.SYS_GOV_VCODE < 30) then
    { s.inc Reg.SYS_GOV_VCODE with gov := { s.gov with lastRaise := some t } } else s)

/-- VCORE_LOWER: 10 mV down after 1 ms below GOV_DOWN without a break, at most every 100 µs, to at least 0.60 V
(R54, R55, R57). -/
def execVcoreLower (t : Word) (s : State) : Out :=
  let s := s.at t
  let calm := s.gov.belowSince.any (fun b => decide (ms ≤ elapsed b t))
  let due := s.gov.lastLower.all (fun r => decide (100 * us ≤ elapsed r t))
  .next (if s.gov.on && calm && due && decide (0 < s.get Reg.SYS_GOV_VCODE) then
    { s.set Reg.SYS_GOV_VCODE (s.get Reg.SYS_GOV_VCODE - 1) with gov := { s.gov with lastLower := some t } } else s)

/-- A write of SYS_LAT_CLR: clears both fields of SYS_LAT; a path recorded at this instant stays (R76). -/
def State.latClear (s : State) : State := (s.clearMax Reg.SYS_LAT_COMMIT).clearMax Reg.SYS_LAT_TOOTH

/-- SYS_LAT_CLR, at either level (R19). -/
def execSysLatClr (t : Word) (s : State) : Out := .next (s.at t).latClear

/-- The time with the Loom RUNNING and the unit in PHASED, LIMP or BORROWED is counted up to now (R578). -/
def State.countSeconds (s : State) : State :=
  let st := s.get (Reg.WRP_SYNC_STATE s.primary)
  let add := if s.running ∧ 4 ≤ st ∧ st ≤ 6 then elapsed s.strand.secAt s.now else 0
  { s with strand := { s.strand with secAt := s.now, secs := s.strand.secs + add } }

/-- Records a path of SYS_LAT in 5 ns units, saturating (Table 1.19; log entry 10). -/
def State.latency (s : State) (f : Fld) (since : Word) : State := s.maxTo f (heldTo 8 (elapsed since s.now))

end Sys2Proof.Machine
end

