-- ==== Sys2Proof/Machine/Copies.lean ====
section
/-!
DEFINITION. Copies of what the fabric does that other units take on their own: trigger pulses for DMA channels
(12_dma_and_strandline, Table 12.3) and items for the Ethernet streams (11_links, R534, R535).
-/
namespace Sys2Proof.Machine

/-- A trigger of source `trig` and index `idx` with time word `t` sets out for every channel that selects it (R554,
Table 12.3; sources 1 and 4 have no index). -/
def State.dmaPulse (s : State) (trig idx : Nat) (t : Word) : State :=
  { s with dmaTrigs := s.dmaTrigs ++ ((List.range 16).filter (fun c =>
      decide (s.get (Reg.DMA_CFG_TRIG c) = trig ∧ (trig = 4 ∨ s.get (Reg.DMA_CFG_TRIG_IDX c) = idx)))).map (·, t) }

def State.str (s : State) (k : Nat) : Stream := vget s.streams k
def State.setStr (s : State) (k : Nat) (x : Stream) : State := { s with streams := vset s.streams k x }

/-- The streams that are on and send `kind` (Table 11.10). -/
def State.streamsOf (s : State) (kind : Nat) : List Nat :=
  (List.range 8).filter (fun k => s.is (Reg.STR_CFG_EN k) && decide (s.get (Reg.STR_CFG_KIND k) = kind))

/-- The most items in a datagram (Table 11.11). -/
def mostItems (kind : Nat) : Nat := [0, 0, 20, 80, 40].getD kind 0

/-- A collecting datagram that is ready waits as soon as none waits before it (R535). -/
def Stream.settle (x : Stream) : Stream :=
  match x.wait, x.coll with
  | none, some d => if d.ready.isSome then { x with wait := some d, coll := none } else x
  | _, _ => x

/-- An item of `kind` for stream `k`: it joins the collecting datagram, or is not sent when both are full (R534, R535). -/
def State.streamItem (s : State) (kind k : Nat) (ws : List Word) (tag : Nat) : State :=
  let x := s.str k
  let n := mostItems kind
  let put := fun (d : Datagram) =>
    let d := { d with words := d.words ++ ws, count := d.count + 1 }
    let full := decide (n ≤ d.count) && d.ready.isNone
    s.setStr k ({ x with coll := some { d with ready := if full then some s.now else d.ready } }).settle
  match x.coll with
  | none => put { words := [], count := 0, tag, first := s.now }
  | some d => if d.count < n then put d else s.inc (Reg.STR_STAT_DROPS k)

/-- An item of `kind` for every stream that sends it. -/
def State.streamAll (s : State) (kind : Nat) (ws : List Word) (tag : Nat) : State :=
  (s.streamsOf kind).foldl (fun s k => s.streamItem kind k ws tag) s

/-- The window of sequencer `q` is finalised: each TRACE stream of it takes the window, or raises DROPS while two wait
(R534, R535). -/
def State.streamWindow (s : State) (q cycle : Nat) : State :=
  (s.streamsOf 1).foldl (fun s k =>
    let x := s.str k
    if s.get (Reg.STR_CFG_SRC k) ≠ q then s
    else if 2 ≤ x.wins.length then s.inc (Reg.STR_STAT_DROPS k)
    else
      let total := (s.get (Reg.SEQ_WIN_TICKS q) * (s.get (Reg.SEQ_CFG_NENT q) + 1) + 2) / 3
      let w : TraceWin := {
        cycle, start := s.get (Reg.SEQ_WIN_START q), base := s.get (Reg.SEQ_BUF_BASE q)
        len := 2 ^ s.get (Reg.SEQ_BUF_LOG2LEN q), total, sent := 0, ready := s.now }
      s.setStr k { x with wins := x.wins ++ [w] }) s

end Sys2Proof.Machine
end

