-- ==== Sys2Proof/Machine/Dma.lean ====
section
/-!
DEFINITION. The control of the DMA channels (12_dma_and_strandline, R554 to R569): triggers, the pending slot, STOP, RESUME
and EN, halts and pauses. Descriptors and beats stand in Machine/Beats.lean.
-/
namespace Sys2Proof.Machine

def State.ch (s : State) (c : Nat) : DmaChan := vget s.dma c
def State.setCh (s : State) (c : Nat) (k : DmaChan) : State := { s with dma := vset s.dma c k }

/-! DMAc_STAT.STATE and CAUSE (Table 12.4). -/

abbrev dmIdle : Nat := 0
abbrev dmWait : Nat := 1
abbrev dmLoad : Nat := 2
abbrev dmRun : Nat := 3
abbrev dmStopped : Nat := 4
abbrev dmPause : Nat := 5
abbrev dmHalted : Nat := 6
abbrev hcLoad : Nat := 1
abbrev hcBeat : Nat := 2
abbrev hcTail : Nat := 3
abbrev hcTorn : Nat := 4

/-- The DMA engine is instantiated. -/
def State.dmaOn (s : State) : Bool := s.hasTile 0x0E 0

def State.dmState (s : State) (c : Nat) : Nat := s.get (Reg.DMA_STAT_STATE c)
def State.dmGo (s : State) (c st : Nat) : State := s.set (Reg.DMA_STAT_STATE c) st

/-- The channel loads the descriptor at PTR for a trigger with time word `t` (R554, R557); FAIL.RETRIES counts anew (log entry 84). -/
def State.dmaLoad (s : State) (c : Nat) (t : Word) : State :=
  let k := s.ch c
  ((s.setCh c { k with
      time := t, left := none, desc := none, issued := 0, flight := [], admitted := false, failed := none
      asked := s.now, fetched := none, got := [], tries := 0 }).set (Reg.DMA_FAIL_RETRIES c) 0).dmGo c dmLoad

/-- The channel reaches WAIT; a pending trigger is served at once (R555). -/
def State.dmaWait (s : State) (c : Nat) : State :=
  let s := s.dmGo c dmWait
  match (s.ch c).slot with
  | some t => (((s.setCh c { s.ch c with slot := none }).set (Reg.DMA_STAT_PEND c) 0)).dmaLoad c t
  | none => s

/-- A trigger arrives (R554, R555). -/
def State.dmaArrive (s : State) (c : Nat) (t : Word) : State :=
  let st := s.dmState c
  if ¬ s.dmaOn then s
  else if st = dmWait then
    let s := s.dmaLoad c t
    s.setCh c { s.ch c with left := some s.now }
  else if st = dmLoad ∨ st = dmRun ∨ st = dmPause then
    if (s.ch c).slot.isSome then s.inc (Reg.DMA_CNT_TRIG_OVR c)
    else (s.setCh c { s.ch c with slot := some t }).set (Reg.DMA_STAT_PEND c) 1
  else s.inc (Reg.DMA_CNT_TRIG_LOST c)

/-- A write of 1 to GO is a trigger from every source (R554). -/
def State.dmaGo (s : State) (c : Nat) : State := if s.dmaOn then s.dmaArrive c s.now else s.wrej

/-- DMA_GO. -/
def execDmaGo (t : Word) (c : Fin 16) (s : State) : Out :=
  let s := s.at t
  .next (if s.early (.dmaGo t c) then s.passed (.dmaGo t c) else s.dmaGo c)

/-- The first trigger on its way to channel `c`, and the others. -/
def takeTrigger (c : Nat) : List (Nat × Word) → Option Word × List (Nat × Word)
  | [] => (none, [])
  | (d, t) :: l => if d = c then (some t, l) else let r := takeTrigger c l; (r.1, (d, t) :: r.2)

/-- The first trigger on its way to the channel arrives (R554, R555). -/
def State.dmaTrigger (s : State) (c : Nat) : State :=
  let r := takeTrigger c s.dmaTrigs
  match r.1 with
  | some a => ({ s with dmaTrigs := r.2 }).dmaArrive c a
  | none => s

/-- DMA_TRIGGER. -/
def execDmaTrigger (t : Word) (c : Fin 16) (s : State) : Out :=
  let s := s.at t
  .next (if s.early (.dmaTrigger t c) then s.passed (.dmaTrigger t c) else s.dmaTrigger c)

/-- Where a STOP leads: STOPPED, or IDLE when EN is 0 (R563, R567). -/
def State.dmaStopped (s : State) (c : Nat) : State :=
  (s.setCh c { s.ch c with stop := false, left := none }).dmGo c
    (if s.is (Reg.DMA_CTRL_EN c) then dmStopped else dmIdle)

/-- STOP: at a descriptor boundary; the pending slot is cleared (R563, R564). -/
def State.dmaStop (s : State) (c : Nat) : State :=
  let st := s.dmState c
  let k := s.ch c
  let s := (s.setCh c { k with slot := none }).set (Reg.DMA_STAT_PEND c) 0
  if ¬ s.dmaOn then s
  else if st = dmWait ∨ st = dmPause then s.dmaStopped c
  else if st = dmLoad ∧ k.left = some s.now ∧ k.desc.isNone then (s.dmaStopped c).inc (Reg.DMA_CNT_TRIG_LOST c)
  else if st = dmLoad ∨ st = dmRun then s.setCh c { s.ch c with stop := true }
  else s

/-- DMA_STOP. -/
def execDmaStop (t : Word) (c : Fin 16) (s : State) : Out :=
  let s := s.at t
  .next (if s.dmaOn then s.dmaStop c else s.wrej)

/-- RESUME (R565). -/
def State.dmaResume (s : State) (c : Nat) : State :=
  let st := s.dmState c
  if s.dmaOn ∧ (st = dmStopped ∨ st = dmHalted) then (s.set (Reg.DMA_STAT_CAUSE c) 0).dmaWait c else s.wrej

/-- DMA_RESUME. -/
def execDmaResume (t : Word) (c : Fin 16) (s : State) : Out :=
  let s := s.at t
  .next (if s.early (.dmaResume t c) then s.passed (.dmaResume t c) else s.dmaResume c)

/-- EN is set: IDLE becomes WAIT (R567). -/
def State.dmaEnable (s : State) (c : Nat) : State :=
  if ¬ s.dmaOn then s
  else
    let s := s.set (Reg.DMA_CTRL_EN c) 1
    if s.dmState c = dmIdle then s.dmaWait c else s

/-- The host writes 1 to EN. -/
def State.dmaSwitchOn (s : State) (c : Nat) : State := if s.dmaOn then s.dmaEnable c else s.wrej

/-- DMA_ENABLE. -/
def execDmaEnable (t : Word) (c : Fin 16) (s : State) : Out :=
  let s := s.at t
  .next (if s.early (.dmaEnable t c) then s.passed (.dmaEnable t c) else s.dmaSwitchOn c)

/-- EN is cleared: STOP, leading to IDLE (R567). -/
def State.dmaDisable (s : State) (c : Nat) : State :=
  if ¬ s.dmaOn then s
  else
    let s := (s.set (Reg.DMA_CTRL_EN c) 0).dmaStop c
    if s.dmState c = dmStopped then s.dmGo c dmIdle else s

/-- DMA_DISABLE. -/
def execDmaDisable (t : Word) (c : Fin 16) (s : State) : Out :=
  let s := s.at t
  .next (if s.dmaOn then s.dmaDisable c else s.wrej)

/-- The channel halts; PTR stays on the descriptor (R561, R562). -/
def State.dmaHalt (s : State) (c cause : Nat) : State :=
  let s := s.setCh c { s.ch c with flight := [], failed := none, stop := false, left := none, fetched := none }
  let s := ((s.dmGo c dmHalted).set (Reg.DMA_STAT_CAUSE c) cause).inc (Reg.DMA_CNT_HALTS c)
  s.report 0x0E c 2 (cause * 2 ^ 37 + s.get (Reg.DMA_STAT_COUNT c))

/-- The channel pauses on its descriptor for a domain (R560, R562); a STOP that waits takes it at once (R563). -/
def State.dmaToPause (s : State) (c : Nat) : State :=
  let s := s.setCh c { s.ch c with flight := [], failed := none, desc := none, issued := 0, fetched := none }
  let s := (s.dmGo c dmPause).report 0x0E c 3 0
  if (s.ch c).stop then s.dmaStopped c else s

/-- FAIL records an access that did not complete with ACCEPT (R561, Table 1.5 digit). -/
def State.dmaFail (s : State) (c addr ack retries : Nat) : State :=
  ((s.set (Reg.DMA_FAIL_ADDR c) addr).set (Reg.DMA_FAIL_ACK c) ack).set (Reg.DMA_FAIL_RETRIES c) retries

/-- The descriptor has ended: completion pulse, DONES, PTR, the next state (R556, R559, R563). -/
def State.dmaEnd (s : State) (c : Nat) (d : Desc) : State :=
  let s :=
    if d.cpl = 17 then s.report 0x0E c 1 0
    else if 1 ≤ d.cpl ∧ d.cpl ≤ 16 ∧ s.get (Reg.DMA_CFG_TRIG (d.cpl - 1)) = 1 then
      { s with dmaTrigs := s.dmaTrigs ++ [(d.cpl - 1, s.now)] }
    else s
  let s := (s.incMod (Reg.DMA_STAT_DONES c)).set (Reg.DMA_PTR_PTR c) d.next
  let k := s.ch c
  let s := s.setCh c { k with desc := none, flight := [], left := none }
  if d.last ∨ k.stop then s.dmaStopped c
  else if s.is (Reg.DMA_CFG_RUNMODE c) then s.dmaLoad c k.time
  else s.dmaWait c

/-- TRACE, the one switchable domain that DMA addresses reach, is on again (R569, log entry 27). -/
def State.dmaReturn (s : State) (c : Nat) : State :=
  if s.dmState c = dmPause ∧ bitsOf (s.get Reg.SYS_PWRSTAT_STATE) 0 2 = 0 then s.dmaLoad c (s.ch c).time else s

/-- DMA_DOMAIN_RETURN. -/
def execDmaDomainReturn (t : Word) (c : Fin 16) (s : State) : Out :=
  let s := s.at t
  .next (if s.early (.dmaDomainReturn t c) then s.passed (.dmaDomainReturn t c) else s.dmaReturn c)

/-- Clears TRIG_OVR, TRIG_LOST and HALTS; what this very instant counts stays. -/
def State.dmaClear (s : State) (c : Nat) : State :=
  s.clearCounts [Reg.DMA_CNT_TRIG_OVR c, Reg.DMA_CNT_TRIG_LOST c, Reg.DMA_CNT_HALTS c]

/-- DMA_CNT_CLR. -/
def execDmaCntClr (t : Word) (c : Fin 16) (s : State) : Out :=
  let s := s.at t
  .next (if s.dmaOn then s.dmaClear c else s.wrej)

end Sys2Proof.Machine
end

