-- ==== Sys2Proof/Machine/RegRules.lean ====
section
/-!
DEFINITION. What a register write may change: access codes (R13, Table 0.4), the rejections of R14, levels (R19, R20),
stated ranges (R75, R184, R233, R287, R293, R327, R482), the orderings between fields of one register, and the fields
that an instance holds (R699). The same checks serve a ply's register entries (R93).
-/
namespace Sys2Proof.Machine

/-- A field of a register table row as a field of the register's word. -/
def FRow.fld (f : FRow) (a : Nat) : Fld := ⟨a, f.lo, f.hi - f.lo + 1⟩

/-- The field's value in a word. -/
def FRow.val (f : FRow) (w : Word) : Nat := (f.fld 0).get w

/-- Whether bit `b` belongs to a field of the register. -/
def RegRow.covers (r : RegRow) (b : Nat) : Bool := r.fields.any (fun f => decide (f.lo ≤ b ∧ b ≤ f.hi))

/-- Whether a word sets a reserved bit (R16). -/
def RegRow.reservedSet (r : RegRow) (w : Word) : Bool := (List.range 48).any (fun b => w.getLsbD b && !r.covers b)

/-- Whether some write can change a field of the register (R14, first case). -/
def RegRow.writable (r : RegRow) : Bool := r.fields.any (fun f => f.acc != .ro && f.acc != .wv)

/-- A field value lies in its stated range. -/
def FRow.inRange (f : FRow) (v : Nat) : Bool :=
  match f.rng with
  | none => true
  | some (lo, hi) => decide (lo ≤ v ∧ v ≤ hi)

/-- Register word `a` lies `o` words into an instance of a block of `n` instances `stride` apart. -/
def isWord (a base n stride o : Nat) : Bool :=
  decide (base ≤ a ∧ a < base + n * stride ∧ (a - base) % stride = o)

/-- The codes of Table 8.11 that a monitor may select (R415). -/
def timerSignalOk (c : Nat) : Bool := decide (c ≤ 0x4B ∨ (0x50 ≤ c ∧ c ≤ 0x53) ∨ c = 0x7F)

/-- The source codes of SVC_PINCFGp.SRC (R429). -/
def pinSourceOk (c : Nat) : Bool := decide (c ≤ 7 ∨ (24 ≤ c ∧ c ≤ 39) ∨ c = 0x3F)

/-- The length that a CAN segment code stands for: code 0 is the largest (Table 11.16). -/
def canSeg (w code : Nat) : Nat := if code = 0 then 2 ^ w else code

/-- R144 on the two ratio words of Warp `i`. -/
def ratiosOk (i : Nat) (a0 a1 : Word) : Bool :=
  let mm := decide ((Reg.WRP_ACC1_MLO i).get a1 < (Reg.WRP_ACC1_MHI i).get a1)
  if i < 2 then
    mm && decide ((Reg.WRP_ACC0_QLO i).get a0 < (Reg.WRP_ACC0_QHI i).get a0
      ∧ (Reg.WRP_ACC0_QHI i).get a0 ≤ (Reg.WRP_ACC0_MISS_LO i).get a0
      ∧ (Reg.WRP_ACC0_MISS_LO i).get a0 < (Reg.WRP_ACC1_MISS_HI i).get a1)
  else mm

/-- R400: the buffer is aligned to its length and ends inside trace memory. -/
def seqBufOk (w : Word) : Bool :=
  let n := 2 ^ (Reg.SEQ_BUF_LOG2LEN 0).get w
  let b := (Reg.SEQ_BUF_BASE 0).get w
  decide (b % n = 0 ∧ b + n ≤ 131072)

/-- Field `f` of `a` below field `g`, both read as signed. -/
def signedBelow (f g : Fld) (w : Word) : Bool := decide (signed f.wid (f.get w) < signed g.wid (g.get w))

/-- The orderings and reserved codes that a rule states for a whole register word (R75, R144, R376, R400, R414, R415,
R429, R441, R445, R482 and the register tables); `w` is the word as the write would leave it. -/
def State.comboOk (s : State) (a : Nat) (w : Word) : Bool :=
  if a = Reg.SYS_GOV_CTRL_addr then
    decide (Reg.SYS_GOV_CTRL_GOV_DOWN.get w + 10 ≤ Reg.SYS_GOV_CTRL_GOV_UP.get w)
  else if isWord a 0x0800 6 128 0 then
    let p := (Reg.WRP_CFG_POS 0).get w
    if a < 0x0900 then decide (2 ≤ p) else decide (p ≤ 64)
  else if isWord a 0x0800 6 128 1 then ratiosOk ((a - 0x0800) / 128) w (s.reg (a + 1))
  else if isWord a 0x0800 6 128 2 then ratiosOk ((a - 0x0800) / 128) (s.reg (a - 1)) w
  else if isWord a 0x0800 6 128 4 then
    decide ((Reg.WRP_DIR_DIR_MIN 0).get w < (Reg.WRP_DIR_DIR_SPLIT 0).get w
      ∧ (Reg.WRP_DIR_DIR_SPLIT 0).get w < (Reg.WRP_DIR_DIR_MAX 0).get w)
  else if a = 0x0C01 then decide ((Reg.WFT_CL_CL_LO 0).get w < (Reg.WFT_CL_CL_HI 0).get w)
  else if isWord a 0x1400 12 64 0x16 then
    decide ((Reg.BNK_THCFG_TH1 0).get w < (Reg.BNK_THCFG_TH2 0).get w
      ∧ (Reg.BNK_THCFG_TH2 0).get w < (Reg.BNK_THCFG_TH3 0).get w
      ∧ (Reg.BNK_THCFG_DS2 0).get w ≤ (Reg.BNK_THCFG_DS1 0).get w)
  else if isWord a 0x2100 16 16 1 then seqBufOk w
  else if decide (0x2100 ≤ a ∧ a < 0x2200 ∧ 8 ≤ a % 16) then decide ((Reg.SEQ_ENT_INPUT 0 0).get w ≤ 45)
  else if decide (0x2420 ≤ a ∧ a < 0x2424) then
    decide ((Reg.PT_CFG_HIGH 0).get w + 1 ≤ (Reg.PT_CFG_PER 0).get w)
  else if isWord a 0x2440 8 8 0 then timerSignalOk ((Reg.WM_CFG_PSEL 0).get w)
  else if isWord a 0x2440 8 8 1 then
    decide ((Reg.WM_TH_LO 0).get w + 2 * (Reg.WM_TH_HYS 0).get w ≤ (Reg.WM_TH_HI 0).get w)
  else if isWord a 0x2440 8 8 2 then timerSignalOk ((Reg.WM_BLK_BSEL 0).get w)
  else if a = Reg.RP_OUT_addr then decide (Reg.RP_OUT_IMIN.get w < Reg.RP_OUT_IMAX.get w)
  else if a = Reg.OVS_CFG_addr then decide (Reg.OVS_CFG_CUT.get w < Reg.OVS_CFG_TRIP.get w)
  else if isWord a 0x2E40 4 2 0 then
    decide ((Reg.SVC_PINCFG_RLO 0).get w < (Reg.SVC_PINCFG_RHI 0).get w) && pinSourceOk ((Reg.SVC_PINCFG_SRC 0).get w)
  else if a = Reg.SVC_PEGLIM_addr then signedBelow Reg.SVC_PEGLIM_PEG_MIN Reg.SVC_PEGLIM_PEG_MAX w
  else if a = Reg.SVC_RLIM_addr then signedBelow Reg.SVC_RLIM_IMEP_MIN Reg.SVC_RLIM_IMEP_MAX w
  else if isWord a 0x3820 4 32 1 then
    decide ((Reg.CAN_NBT_NTSEG1 0).get w ≠ 1 ∧ (Reg.CAN_NBT_NTSEG2 0).get w ≠ 1
      ∧ (Reg.CAN_NBT_NSJW 0).get w ≤ canSeg 7 ((Reg.CAN_NBT_NTSEG2 0).get w))
  else if isWord a 0x2800 24 32 1 then
    let nv := (Reg.CMB_CFG_NV 0).get (s.reg (a - 1))
    decide (1 ≤ (Reg.CMB_IDX0_HR_IA 0).get w ∧ (Reg.CMB_IDX0_HR_IA 0).get w < (Reg.CMB_IDX0_HR_IB 0).get w
      ∧ (Reg.CMB_IDX0_HR_IB 0).get w + 1 ≤ nv)
  else if isWord a 0x2800 24 32 2 then
    let nv := (Reg.CMB_CFG_NV 0).get (s.reg (a - 2))
    decide (4 ≤ (Reg.CMB_IDX1_RING_IA 0).get w ∧ (Reg.CMB_IDX1_RING_IB 0).get w + 4 ≤ nv)
  else if a = Reg.PRX_DIVCFG_addr then decide (Reg.PRX_DIVCFG_DIV_TOL.get w < Reg.PRX_DIVCFG_HARD.get w)
  else if a = Reg.PRX_WIN_addr then signedBelow Reg.PRX_WIN_DW_OPEN Reg.PRX_WIN_DW_CLOSE w
  else true

/-- A field that another rule makes unchangeable by the host now (R247, R322). -/
def State.ruleLocked (s : State) (a : Nat) (f : FRow) : Bool :=
  if isWord a 0x1000 64 16 (Reg.SHT_CTRL_addr 0 - 0x1000) then
    decide (f.lo = (Reg.SHT_CTRL_READY 0).lo) && decide ((Reg.SHT_CFG_WRITER 0).get (s.reg (a - 4)) = 1)
  else if isWord a 0x1400 12 64 (Reg.BNK_CONT_addr 0 - 0x1400) then
    decide (f.lo = (Reg.BNK_CONT_SET 0).lo) && decide ((Reg.BNK_CONT_WRITER 0).get (s.reg a) = 1)
  else false

/-- The level-E clear words, whose action stays at level B (R19). -/
def clearWord (a : Nat) (f : FRow) : Bool := f.acc == .wo && decide (f.lo = 0 ∧ f.hi = 47 ∧ a < 0x8000)

/-- Whether the write can change the field in the present state (R14, third case). -/
def State.fieldOpen (s : State) (a i : Nat) (f : FRow) : Bool :=
  f.held.holds a i && !s.ruleLocked a f &&
  match f.acc with
  | .rw => s.levelE || !f.lvlE
  | .ws => !s.running && (s.levelE || !f.lvlE)
  | .wo => s.levelE || !f.lvlE || clearWord a f
  | .w1c => true
  | .ro => false
  | .wv => false

/-- The field's new value when written `v` over `old`: W1C bits clear on 1, but those set at this instant (`stuck`) stay (R15);
WO fields store nothing. -/
def FRow.written (f : FRow) (old v stuck : Nat) : Nat :=
  match f.acc with
  | .w1c => (old &&& ((2 ^ (f.hi - f.lo + 1) - 1) ^^^ v)) ||| (old &&& stuck)
  | .wo => 0
  | .rw | .ws | .wv => v
  | .ro => old

/-- The result of merging a write: the new word, whether a part was refused (WREJ), whether every range holds. -/
structure Merge where
  word : Word
  rej : Bool
  fits : Bool
deriving DecidableEq, Repr

/-- A field reads 0 whatever is stored: a WO field, a field that the instance does not hold and, before a weave is in force, a
WV field (R13, R97, R699). -/
def State.readsZero (s : State) (a i : Nat) (f : FRow) : Bool :=
  f.acc == .wo || !f.held.holds a i || (f.acc == .wv && !s.woven)

/-- The word with its fields that read 0 put to 0. -/
def State.maskRead (s : State) (r : RegRow) (a i : Nat) (w : Word) : Word :=
  r.fields.foldl (fun w f => if s.readsZero a i f then (f.fld a).put w 0 else w) w

/-- Merges one field of a host write (R14): a value that the field cannot take is refused unless it is the one the field
reads as. -/
def State.mergeField (s : State) (a i : Nat) (w : Word) (m : Merge) (f : FRow) : Merge :=
  let old := f.val m.word
  let v := f.val w
  if s.fieldOpen a i f then
    { m with
      word := (f.fld a).put m.word (f.written old v (s.stuck (f.fld a)))
      fits := m.fits && (f.inRange v || f.acc == .wo) }
  else if f.acc == .ro then m
  else { m with rej := m.rej || decide (v ≠ if s.readsZero a i f then 0 else old) }

/-- Merges a whole host write (R14): whole-write rules come last. -/
def State.mergeWrite (s : State) (r : RegRow) (a i : Nat) (w : Word) : Merge :=
  let m := r.fields.foldl (s.mergeField a i w) { word := s.reg a, rej := !r.writable || r.reservedSet w, fits := true }
  { m with fits := m.fits && s.comboOk a m.word }

/-- A write of a register by the host, a debug master or DMA, without the actions that some words trigger:
refused whole for a range or an ordering, otherwise merged; WREJ on any refusal (R14). -/
def State.writeReg (s : State) (r : RegRow) (a i : Nat) (w : Word) : State :=
  let m := s.mergeWrite r a i w
  if m.fits then (let s := s.setReg a m.word; if m.rej then s.wrej else s) else s.wrej

/-- Merges one field of a ply's register entry: a field that the instance does not hold must be 0 (R699), RO values are ignored
(R93), WO values trigger nothing and a W1C field loses the bits that are 1 (log entry 9). -/
def entryField (a i : Nat) (w : Word) (m : Merge) (f : FRow) : Merge :=
  let v := f.val w
  if !f.held.holds a i then { m with fits := m.fits && decide (v = 0) }
  else if f.acc == .ro || f.acc == .wo then m
  else { m with word := (f.fld a).put m.word (f.written (f.val m.word) v 0), fits := m.fits && f.inRange v }

/-- A ply's register entry: none when R93 stops the load. -/
def State.entryWrite (s : State) (r : RegRow) (a i : Nat) (w : Word) : Option State :=
  let m := r.fields.foldl (entryField a i w) { word := s.reg a, rej := false, fits := !r.reservedSet w }
  if m.fits && s.comboOk a m.word then some (s.setReg a m.word) else none

end Sys2Proof.Machine
end

