-- ==== Sys2Proof/Machine/Comparator.lean ====
section
/-!
DEFINITION. The modes of the comparators (08_measurement_front_end, Table 8.8, R407, R408; R295, R329, R330): what a bank's
state asks of its bank and drain comparators, and how long an output holds while a mode changes. Every change of a bank goes
through `State.setBk`, so that the modes follow it.
-/
namespace Sys2Proof.Machine

/-! Comparator modes (Table 8.8). -/

abbrev mdF : Nat := 0
abbrev mdM : Nat := 1
abbrev mdL : Nat := 2
abbrev mdU : Nat := 3

/-- The time in which a change to a mode takes effect (R407). -/
def modeBound (mode : Nat) : Nat := if mode = mdL then 5 * us else if mode = mdU then 50 * us else us

/-- The output of comparator `who`, which changed to `mode` at `since`, still holds its last value (R407): how much of the
time of R407 a change takes is open (log entry 139). -/
def modeHolds (who mode : Nat) (since : Option Word) (now : Word) : Bool :=
  since.any (fun a => decide (elapsed a now < min (Config.modeDelay who a) (modeBound mode)))

/-- The bank is IDLE: no owner and no recovery (Table 6.3). -/
def Bank.idle (k : Bank) : Bool := k.owner.isNone && k.ovl.isNone

/-- The bank's comparators are up for a pulse: from a commit until the bank is IDLE and no tail runs (R295, R408; log entry
106). -/
def Bank.raised (k : Bank) : Bool := !k.idle || k.tail.isSome || !k.reqs.isEmpty

/-- The mode that the bank asks of its peak, valley and desaturation comparators (R295, R330, R408, Table 8.14). -/
def Bank.mainMode (k : Bank) : Nat := if k.raised || k.selftest.isSome then mdF else mdL

/-- The mode of its recovery-zero comparator (R295, R330, R408, Table 8.14). -/
def Bank.zeroMode (k : Bank) : Nat := if k.raised || k.selftest.isSome then mdF else mdM

/-- The mode of its drain comparators (R329, R408, Table 8.14). -/
def Bank.drainMode (k : Bank) : Nat := if k.raised || k.test.isSome || k.selftest.isSome then mdM else mdL

/-- A mode follows what is asked of it. -/
def Mode.follow (m : Mode) (want : Nat) (t : Word) : Mode := if m.code = want then m else { code := want, since := some t }

/-- The modes of a bank's comparators follow its state. -/
def CmpModes.follow (m : CmpModes) (k : Bank) (t : Word) : CmpModes :=
  { main := m.main.follow k.mainMode t, zero := m.zero.follow k.zeroMode t, drain := m.drain.follow k.drainMode t }

def State.bk (s : State) (b : Nat) : Bank := vget s.banks b

/-- The bank takes a new state; the modes of its comparators follow. -/
def State.setBk (s : State) (b : Nat) (k : Bank) : State :=
  { s with banks := vset s.banks b k, cmps := vset s.cmps b ((vget s.cmps b).follow k s.now) }

/-- The mode of comparator `x` of bank `b`, numbered as in CMP_BKb.INIT: 7 peak, 6 valley, 5 zero, 4 desaturation, 3 to 0 the
drains (Table 8.24). -/
def State.cmpMode (s : State) (b x : Nat) : Mode :=
  let m := vget s.cmps b
  if x < 4 then m.drain else if x = 5 then m.zero else m.main

/-- Comparator `x` of bank `b` holds its output: its mode changes, or it is under self-test (R407, Table 8.14). -/
def State.cmpHolds (s : State) (b x : Nat) : Bool :=
  (s.bk b).selftest.isSome || modeHolds (16 * b + x) (s.cmpMode b x).code (s.cmpMode b x).since s.now

/-- Supply monitor `m` takes a mode (R407, R422, Table 8.12). -/
def State.smMode (s : State) (m mode : Nat) : State :=
  let s := s.set (Reg.SM_STAT_MODE m) mode
  { s with supply := { s.supply with smModeAt := vset s.supply.smModeAt m (some s.now) } }

end Sys2Proof.Machine
end

