-- ==== Sys2Proof/Machine/Monitor.lean ====
section
/-!
DEFINITION. What window monitors do at the edges of their timer signals: the period clear of LMODE 2 (08_measurement
_front_end, R418, R419). Shuttles, banks and period timers call it when their signal rises (Table 8.11).
-/
namespace Sys2Proof.Machine

def State.wm (s : State) (m : Nat) : WMon := vget s.wmons m
def State.setWm (s : State) (m : Nat) (k : WMon) : State := { s with wmons := vset s.wmons m k }

/-- Clears the latch of monitor `m`, or renews it when its class is BELOW or ABOVE (R419); a latch set at this instant
stays (R15). -/
def State.clearLatch (s : State) (m : Nat) : State :=
  let c := s.get (Reg.WM_STAT_CLASS m)
  if ¬ s.is (Reg.WM_STAT_LATCHED m) ∨ (s.wm m).latchAt = some s.now then s
  else if c = 0 then s.set (Reg.WM_STAT_LATCHED m) 0
  else s.set (Reg.WM_STAT_LCLASS m) c

/-- The timer signal `code` rises: monitors in LMODE 2 that select it as their period signal clear their latch when their
class is INSIDE, and renew it otherwise (R418, R419). -/
def State.periodRise (s : State) (code : Nat) : State :=
  (List.range 8).foldl (fun s m =>
    if s.get (Reg.WM_CFG_LMODE m) = 2 ∧ s.get (Reg.WM_CFG_PSEL m) = code then s.clearLatch m else s) s

end Sys2Proof.Machine
end

