-- ==== Sys2Proof/Machine/Diverge.lean ====
section
/-!
DEFINITION. The divergence states of a pair (13_pair_operation, "Comparing the two angles"): the states of Table 13.7,
their entry, the cam verdict and its resolution, and the validity of the partner's angle.
-/
namespace Sys2Proof.Machine

/-- The unit runs as a pair member (R592). -/
def State.pairMember (s : State) : Bool := s.weave.pair && s.hasTile 0x10 0

/-- PRX_STAT.LINK is UP. -/
def State.linkUp (s : State) : Bool := decide (s.get Reg.PRX_STAT_LINK = 2)

/-- PRX_STAT.CHECK is OK. -/
def State.checkOk (s : State) : Bool := decide (s.get Reg.PRX_STAT_CHECK = 0)

/-- The divergence codes of Table 13.7. -/
abbrev dvAgree : Nat := 0
abbrev dvSoft : Nat := 1
abbrev dvSolo : Nat := 2
abbrev dvHardWait : Nat := 3
abbrev dvSole : Nat := 4
abbrev dvStopOwn : Nat := 5
abbrev dvBothStop : Nat := 6

/-- PRX_STAT.DIV. -/
def State.div (s : State) : Nat := s.get Reg.PRX_STAT_DIV

/-- WRPn_SYNC.SRC of the primary crank Warp. -/
def State.src (s : State) : Nat := s.get (Reg.WRP_SYNC_SRC s.primary)

/-- Sets the divergence state; a change restarts the counts, raises SOFTS or HARDS and is reported (R618, R620, R626). -/
def State.setDiv (s : State) (new : Nat) : State :=
  let old := s.div
  if new = old then s
  else
    let s := { s.set Reg.PRX_STAT_DIV new with pair := { s.pair with dc := 0, hc := 0, ac := 0 } }
    let s := if new = dvSoft then s.inc Reg.PRX_CNT1_SOFTS else s
    let s := if new = dvHardWait then
        { (s.inc Reg.PRX_CNT1_HARDS).set Reg.PRX_STAT_VERD 0 with
          pair := { s.pair with hardSrc := s.src, leftSync := false } }
      else s
    s.report 0x10 0 3 (old * 2 ^ 37 + new * 2 ^ 34 + s.get Reg.PRX_DIFF_LAST) (some s.now)

/-- The partner's verdict, by its VERD in HARD_WAIT and by its state after it: 0 none, 1 PASS, 2 FAIL (R623). -/
def State.partnerVerdict (s : State) : Nat :=
  match s.get Reg.PRX_PART_DIV with
  | 3 => s.get Reg.PRX_PART_VERD
  | 4 | 6 => 1
  | 5 => 2
  | _ => 0

/-- Leaves STOP_OWN when SRC has changed or the primary crank Warp has lost sync since the hard declaration
(Table 13.8). -/
def State.leaveStopOwn (s : State) : State :=
  if s.div = dvStopOwn ∧ (s.pair.leftSync ∨ s.src ≠ s.pair.hardSrc) then
    s.setDiv (if s.linkUp then dvSoft else dvSolo)
  else s

/-- HARD_WAIT resolves once both verdicts are known, or the own one with LINK lost (Table 13.8). -/
def State.hardDue (s : State) : Bool :=
  decide (s.div = dvHardWait ∧ s.get Reg.PRX_STAT_VERD ≠ 0) && (decide (s.partnerVerdict ≠ 0) || !s.linkUp)

/-- The resolution of HARD_WAIT, when it is due (Table 13.9). What ends STOP_OWN counts from the hard declaration on (Table 13.8). -/
def State.resolveHard (s : State) : State :=
  if ¬ s.hardDue then s
  else if s.get Reg.PRX_STAT_VERD = 2 then (s.setDiv dvStopOwn).leaveStopOwn
  else match s.partnerVerdict with
    | 2 => s.setDiv dvSole
    | 1 => (s.setDiv dvBothStop).cause 14 0
    | _ => s.setDiv dvSolo

/-- The first judgement of the PHASE_CAM Warp after entry to HARD_WAIT forms the unit's verdict (R622). -/
def State.verdict (s : State) (pass : Bool) : State :=
  if s.div = dvHardWait ∧ s.get Reg.PRX_STAT_VERD = 0 then
    (s.set Reg.PRX_STAT_VERD (if pass then 1 else 2)).resolveHard
  else s

/-- The partner's mirrored angle is valid (R608, R614). -/
def State.partnerAngle (s : State) : Bool :=
  s.linkUp && s.checkOk && s.is Reg.PRX_STAT_MAP_VALID && decide (s.get Reg.PRX_PART_STATE = 4)
    && decide (s.get Reg.PRX_PART_SRC < 2)
    && s.pair.toothAt.any (fun t0 => decide (elapsed t0 s.now < s.pair.toothFor))

end Sys2Proof.Machine
end

