-- ==== Sys2Proof/Machine/Predict.lean ====
section
/-!
DEFINITION. Predicting angle between teeth (04_angle_prediction): wheel geometry, the tooth update, projection from angle
to time and back in both modes, the expert tracker, and what coast and profile learning do to the tables. Rationals are
exact; every rounding is the one R207 names.
-/
namespace Sys2Proof.Machine

/-! ### Wheel geometry (R137, R193, Table 3.1) -/

def State.wp (s : State) (n : Nat) : Warp := vget s.warps n
def State.setWp (s : State) (n : Nat) (w : Warp) : State := { s with warps := vset s.warps n w }
def State.wf (s : State) (n : Nat) : Weft := vget s.wefts n
def State.setWf (s : State) (n : Nat) (w : Weft) : State := { s with wefts := vset s.wefts n w }

/-- Positions per revolution of crank Warp `n`; edges per cycle of a cam Warp. -/
def State.posn (s : State) (n : Nat) : Nat := s.get (Reg.WRP_CFG_POS n)

/-- Teeth per cycle, NCYC (R193). -/
def State.ncyc (s : State) (n : Nat) : Nat := if s.weave.twoStroke then s.posn n else 2 * s.posn n

/-- One crank revolution as angle counts. -/
def State.revLen (s : State) : Nat := if s.weave.twoStroke then W48 else W48 / 2

/-- The reference angle REF of a crank Warp. -/
def State.refOf (s : State) (n : Nat) : Word := if n = 0 then s.weave.refA else s.weave.refB

/-- Position `i` as angle counts from index 0. -/
def State.posAngle (s : State) (n i : Nat) : Int := rdiv (i * W48) (s.ncyc n)

/-- The angle word of cycle tooth index `i` (R193). -/
def State.angleOf (s : State) (n i : Nat) : Word := s.refOf n + wordOf (s.posAngle n i)

/-- A mark of a crank pattern (Table 3.13). -/
structure Mark where
  pos : Nat
  extra : Bool
  len : Nat
deriving DecidableEq, Repr

/-- The marks of crank Warp `n`, in register order. -/
def State.marks (s : State) (n : Nat) : List Mark :=
  (List.range (s.get (Reg.WRP_CFG_NMARK n))).map (fun m =>
    ⟨s.get (Reg.WRP_MARK_POS n m), s.is (Reg.WRP_MARK_KIND n m), s.get (Reg.WRP_MARK_LEN n m)⟩)

/-- The mark whose first tooth is at position `p`. -/
def State.markAt (s : State) (n p : Nat) : Option Mark := (s.marks n).find? (fun m => decide (m.pos = p))

/-- Nominal pitches from the tooth at position `p` to the next indexed tooth (Table 4.2). -/
def State.spanFrom (s : State) (n p : Nat) : Nat :=
  match (s.marks n).find? (fun m => !m.extra && decide ((p + m.len + 1) % s.posn n = m.pos)) with
  | some m => m.len + 1
  | none => 1

/-- The position `k` pitches after `p`. -/
def State.posAfter (s : State) (n p k : Nat) : Nat := (p + k) % s.posn n

/-- Whether position `p` is one of a gap's missing positions. -/
def State.missingPos (s : State) (n p : Nat) : Bool :=
  (s.marks n).any (fun m => !m.extra &&
    (List.range m.len).any (fun k => decide ((m.pos + s.posn n - 1 - k) % s.posn n = p)))

/-! ### Projection (R198 to R211, R698) -/

/-- The result of PROJ (R198). -/
inductive Proj where
  | past (late : Nat)
  | at (t : Word)
  | wait
deriving DecidableEq, Repr

/-- Division rounded up. -/
def ceilDiv (a b : Nat) : Nat := (a + b - 1) / b

/-- The number N of micro-ticks of an interval (R201). -/
def ticksOf (k : Nat) (u : Update) : Nat := u.nspan * 2 ^ k

/-- PROJ in basic mode for a distance `d` (R202). -/
def projBasic (k : Nat) (u : Update) (d : Nat) : Proj :=
  let n := ticksOf k u
  let j := ceilDiv (d * n) u.dang
  if j < n then .at (addW u.time (j * u.period / n)) else .wait

/-- The elapsed time x of R210 at fraction f = `f` / 2^30, as numerator and denominator. -/
def expertX (u : Update) (f : Nat) : Int × Nat :=
  if f < 2 ^ 30 then ((2 * u.period - u.slope) * f * 2 ^ 30 + u.slope * f * f, 2 ^ 61)
  else (u.period * 2 ^ 31 + (f - 2 ^ 30) * (2 * u.period + u.slope), 2 ^ 31)

/-- PROJ in expert mode for a distance `d` (R210). -/
def projExpert (coast : Nat) (u : Update) (d : Nat) : Proj :=
  let f := 2 ^ 30 * d / u.dang
  if coast * 2 ^ 26 ≤ f then .wait
  else
    let x := expertX u f
    .at (u.time + wordOf (rdiv x.1 x.2))

/-- PROJ of the angle a distance `d` after ANGLE (R198). -/
def projDist (k coast : Nat) (u : Update) (d : Int) : Proj :=
  if d < 0 then .past (-d).toNat
  else if u.mode then projExpert coast u d.toNat else projBasic k u d.toNat

/-- PROJ from an update (R198). -/
def projOf (k coast : Nat) (u : Update) (theta : Word) : Proj := projDist k coast u (sdiff theta u.angle)

/-- ANGLE_AT in basic mode, `d` after TIME (R203). -/
def angleBasic (k : Nat) (u : Update) (d : Nat) : Word :=
  let n := ticksOf k u
  let j := if u.period = 0 then n - 1 else min (n - 1) (((d + 1) * n - 1) / u.period)
  addW u.angle (j * u.dang / n)

/-- ANGLE_AT in expert mode, `d` after TIME: g is a multiple of 2^-12 below the coast limit (R211). -/
def angleExpert (coast : Nat) (u : Update) (d : Nat) : Word :=
  let g := (List.range (coast * 256)).foldl (fun g k =>
    let x := expertX u (k * 2 ^ 18)
    if x.1 ≤ d * x.2 then k else g) 0
  addW u.angle (g * u.dang / 4096)

/-- ANGLE_AT of one update. -/
def angleIn (k coast : Nat) (u : Update) (t : Word) : Word :=
  if u.mode then angleExpert coast u (elapsed u.time t) else angleBasic k u (elapsed u.time t)

/-- ANGLE_AT from the last update and the one before it (R199, R698). -/
def angleAtOf (k coast : Nat) (last : Update) (prev : Option Update) (t : Word) : Word :=
  if notBefore t last.time then angleIn k coast last t
  else match prev with
    | none => last.angle
    | some u => if notBefore t u.time then angleIn k coast u t else u.angle

/-- A Weft that has nothing to predict from; the updates it issued stay readable (R234). -/
def Weft.blank (w : Weft) : Weft := { issued := w.issued, issuedPrev := w.issuedPrev }

/-- K of Weft `n`. -/
def State.wk (s : State) (n : Nat) : Nat := s.get (Reg.WFT_CTRL_K n)

/-- COAST of Weft 0. -/
def State.coast (s : State) : Nat := s.get (Reg.WFT_CTRL_COAST 0)

/-- The delivering Weft (R188). -/
def State.delivering (s : State) : Nat := if s.src < 2 then 0 else 1

/-- PROJ from the last completed update of the delivering Weft. -/
def State.proj (s : State) (theta : Word) : Proj :=
  match (s.wf s.delivering).last with
  | some u => projOf (s.wk s.delivering) s.coast u theta
  | none => .wait

/-- A consumer has not yet acknowledged update `u` (R50). -/
def State.unacknowledged (s : State) (u : Update) : Bool :=
  (List.range 64).any (fun k => s.hasTile 3 k && (vget s.shuttles k).upd == some u)
    || (List.range 2).any (fun p => s.hasTile 0x0D p && (vget s.pulseOuts p).upd == some u)
    || (s.hasTile 0x0C 0 && s.ovs.upd == some u)

/-- ANGLE_AT from the completed updates of Weft `n` (R199, R698); 0 before the first. An update that a consumer still has to
acknowledge is not completed, unless it is the only one. -/
def State.angleAt (s : State) (n : Nat) (t : Word) : Word :=
  match (s.wf n).last, (s.wf n).prev with
  | some u, some v => if s.unacknowledged u then angleAtOf (s.wk n) s.coast v none t else angleAtOf (s.wk n) s.coast u (some v) t
  | some u, none => angleAtOf (s.wk n) s.coast u none t
  | none, _ => 0

/-- ANGLE_AT of the prediction that Weft 0 keeps for Warp `n` (R161, R192). -/
def State.ownAngleAt (s : State) (n : Nat) (t : Word) : Word :=
  match (s.wp n).own with
  | some u => angleAtOf (s.wk 0) s.coast u (s.wp n).ownPrev t
  | none => 0

/-! ### Tables (R206, R214, R215) -/

/-- A signed 24-bit entry of working memory. -/
def State.entry24 (s : State) (a : Nat) : Int := signed 24 (bitsOf (s.workGet a).toNat 0 24)

/-- Stores a signed 24-bit entry, saturated; the reserved bits are 0. -/
def State.setEntry24 (s : State) (a : Nat) (v : Int) : State :=
  s.workSet a (BitVec.ofNat 48 (unsign 24 (satS 24 v)))

/-- The first word of signature region `r` of crank Warp `n` (Table 4.6). -/
def sigBase (n r : Nat) : Nat := n * 0x800 + r * 0x400

/-- The active signature region of Warp `n` (R215). -/
def State.sigBank (s : State) (n : Nat) : Nat := s.get (if n = 0 then Reg.WFT_CLST_BANK0 0 else Reg.WFT_CLST_BANK1 0)

/-- The applied signature entry of Warp `n`, 0 while SIG_EN is 0. -/
def State.sigEntry (s : State) (n p : Nat) : Int :=
  if s.is (Reg.WFT_CTRL_SIG_EN 0) then s.entry24 (sigBase n (s.sigBank n) + p) else 0

/-- L = NCYC / FIRE_DIV (R206). -/
def State.phases (s : State) (n : Nat) : Nat := s.ncyc n / s.get (Reg.WFT_CTRL_FIRE_DIV 0)

/-- The speed `60 / (POS × period)` is below `rpm`, for a period of `num / den` LSB. -/
def State.slower (s : State) (n : Nat) (num : Int) (den : Nat) (rpm : Nat) : Bool :=
  decide ((96000000000 * den : Int) < rpm * s.posn n * num)

/-- The applied profile value of an interval of `k` pitches from cycle index `i`, as a sum and a count (R206); `slow`
says that the speed is below FP_MIN. -/
def State.profile (s : State) (n i k : Nat) (slow : Bool) : Rat :=
  let l := s.phases n
  if !s.is (Reg.WFT_CTRL_FP_EN 0) || slow || decide (l = 0) || decide (k = 0) then 0
  else ((List.range k).foldl (fun a j => a + s.entry24 (0x1000 + (i + j) % l)) (0 : Int) : Rat) / k

/-- W × 2^28 of an interval of `k` pitches from position `p` (R205): the sum over the positions for an insertion. -/
def State.weight (s : State) (n p k : Nat) (ins : Bool) : Int :=
  if ins then (List.range k).foldl (fun a j => a + 2 ^ 28 + s.sigEntry n (s.posAfter n p j)) 0
  else k * (2 ^ 28 + s.sigEntry n p)

/-! ### Forming an update (R200, R205) -/

/-- A rational rounded to 16 fraction bits, scaled by 2^16 (R207). -/
def fix16 (q : Rat) : Int := roundUp (q * 65536)

/-- 2^28, the scale of S and F. -/
abbrev q28 : Rat := 268435456

/-- What the tracker leaves: the period, the slope, the new B and V of R205 scaled by 2^16. -/
structure Track where
  period : Nat
  slope : Int
  bhat : Int
  vhat : Int
deriving DecidableEq, Repr

/-- The expert update of Warp `n` at cycle index `i`, position `p`, for the interval of `k` pitches and `m` LSB that
ended there; `ins`: a folded insertion (R205 to R208). -/
def State.expertTrack (s : State) (n i p k m : Nat) (ins : Bool) : Track :=
  let wf := s.wf 0
  let nc := s.ncyc n
  let back := fun x => (x + nc - k % nc) % nc
  let tau : Rat := (m : Rat) * q28 / s.weight n ((p + s.posn n - k % s.posn n) % s.posn n) k ins
  let slow := s.slower n tau.num tau.den (10 * s.get (Reg.WFT_CTRL_FP_MIN 0))
  let u := tau / (1 + s.profile n (back i) k slow / q28)
  let bh : Rat := match wf.bhat with
    | some b => (b : Rat) / 65536
    | none => tau
  let vh : Rat := if wf.bhat.isSome then (wf.vhat : Rat) / 65536 else 0
  let e := u - bh
  let b := fix16 (bh + e / 2 ^ s.get (Reg.WFT_CTRL_A_SH 0))
  let v := fix16 (vh + e / 2 ^ s.get (Reg.WFT_CTRL_B_SH 0))
  let k1 := s.spanFrom n p
  let p1 := s.posAfter n p k1
  let w1 : Rat := (s.weight n p k1 false : Rat) / q28
  let f1 := 1 + s.profile n i k1 slow / q28
  let f2 := 1 + s.profile n ((i + k1) % nc) (s.spanFrom n p1) slow / q28
  let bt : Rat := (b + v : Rat) / 65536
  let b2 : Rat := (b + 2 * v : Rat) / 65536
  { period := satUI 32 (roundUp (w1 * bt * f1)), slope := satS 32 (roundUp (w1 * (b2 * f2 - tau) / 2))
    bhat := b + v, vhat := v }

/-- The period of a basic update (R200). -/
def basicPeriod (m k span : Nat) : Nat := satU 32 (m / k * span)

/-- The prediction of Warp `n` at cycle index `i`, formed from the interval of `k` pitches and `m` LSB that ended at
`t` (R191, R193, R200, R205). -/
def State.formUpdate (s : State) (n i k m : Nat) (t : Word) (ins mark half step : Bool) : State × Update :=
  let p := i % s.posn n
  let span := s.spanFrom n p
  let ang := s.angleOf n i
  let dang := ((s.angleOf n ((i + span) % s.ncyc n)) - ang).toNat
  let expert := s.is (Reg.WFT_CTRL_MODE 0) && decide (n = s.primary)
  let base : Update :=
    { tidx := i, src := if n = 1 then 1 else 0, mode := expert, ins, mark, half, step, nspan := span, time := t
      angle := ang, dang, period := basicPeriod m k span, slope := 0 }
  if expert then
    let tr := s.expertTrack n i p k m ins
    (s.setWf 0 { s.wf 0 with bhat := some tr.bhat, vhat := tr.vhat },
      { base with period := tr.period, slope := tr.slope })
  else (s, base)

/-! ### Registers of a Weft -/

/-- Records the error of a prediction against the measured interval (Table 4.15) and, for Weft 0, the coast limit (R212). -/
def State.weftError (s : State) (n : Nat) (u : Update) (m : Nat) : State :=
  let e : Int := if u.period = 0 then 0 else satS 24 (rdiv (((m : Int) - u.period) * u.nspan * 65536) u.period)
  let s := (s.setI (Reg.WFT_ERR_LAST n) e).maxTo (Reg.WFT_ERR_MAXABS n) e.natAbs
  if n = 0 ∧ s.coast * u.period / 16 ≤ m then s.inc (Reg.WFT_CNT_COASTX 0) else s

/-- The Warp whose edges Weft `n` predicts from: the primary crank, or the limp cam; none while the partner's updates feed it. -/
def State.edgeWarp (s : State) (n : Nat) : Option Nat :=
  if n = 0 then some s.primary
  else if s.get (Reg.WRP_SYNC_STATE s.primary) = 5 then some (2 + s.get (Reg.WRP_MODE_LIMP_CAM s.primary))
  else none

/-- MICROTICK_HOLD: the timebase reaches TIME + PERIOD before the next indexed tooth's edge is stamped; an
edge that the filter still holds counts by its stamp (R203). -/
def execMicrotickHold (t : Word) (n : Fin 2) (s : State) : Out :=
  let s := s.at t
  let w := s.wf n
  .next (match w.last with
    | some u =>
      let fed := s.get (Reg.WRP_SYNC_STATE s.primary)
      let alive := if n.val = 0 then fed = 3 ∨ fed = 4 else fed = 5 ∨ fed = 6
      if alive ∧ ¬ u.mode ∧ ¬ w.held ∧ w.formed = [] ∧ u.period ≤ elapsed u.time t
          ∧ (s.edgeWarp n).any (fun k =>
              (s.wp k).pend.any (fun (lv, t0) => lv && decide (elapsed u.time t0 ≤ u.period))) = false then
        (s.setWf n { w with held := true }).inc (Reg.WFT_CNT_HOLDS n)
      else s
    | none => s)

/-- The six words of an update (Table 4.13). -/
def Update.words (u : Update) : List Word :=
  let b := fun (x : Bool) (k : Nat) => if x then 2 ^ k else 0
  [BitVec.ofNat 48 (u.tidx * 2 ^ 36 + u.src * 2 ^ 34 + b u.mode 33 + b u.ins 32 + b u.mark 31 + b u.half 30
      + b u.step 29 + u.nspan * 2 ^ 26),
    u.time, u.angle, BitVec.ofNat 48 u.dang, BitVec.ofNat 48 (u.period * 2 ^ 16),
    BitVec.ofNat 48 (unsign 32 u.slope * 2 ^ 16)]

/-- WFT_UPD_READ: a read of WFTn_UPD0 latches the last completed update (R234). -/
def State.updRead (s : State) (n : Nat) : State :=
  let w := s.wf n
  match (if w.issued.any s.unacknowledged then w.issuedPrev else w.issued) with
  | some u =>
    u.words.zipIdx.foldl (fun s (w, k) => s.setReg (Reg.WFT_UPD0_addr n + k) w) s
  | none => s

/-- WFT_SNAP_READ: a read of WFTn_SNAPT captures the timebase and ANGLE_AT of it; both read 0 while the Weft does not
deliver (R235). Before its first update the Weft has no angle to give: the one captured is a free value (log entry 125). -/
def State.snapRead (s : State) (n : Nat) : State :=
  if s.delivering ≠ n then (s.setReg (Reg.WFT_SNAPT_addr n) 0).setReg (Reg.WFT_SNAPA_addr n) 0
  else if (s.wf n).last.isSome then
    (s.setReg (Reg.WFT_SNAPT_addr n) s.now).setReg (Reg.WFT_SNAPA_addr n) (s.angleAt n s.now)
  else (s.free.2.setReg (Reg.WFT_SNAPT_addr n) s.now).setReg (Reg.WFT_SNAPA_addr n) s.free.1

/-- WFT_UPD_READ. -/
def execWftUpdRead (t : Word) (n : Fin 2) (s : State) : Out := .next ((s.at t).updRead n)

/-- WFT_SNAP_READ. -/
def execWftSnapRead (t : Word) (n : Fin 2) (s : State) : Out := .next ((s.at t).snapRead n)

/-- WFT_CNT_CLR: clears WFTn_CNT and WFTn_ERR.MAXABS; what this instant adds is counted after it (R236). -/
def State.weftClear (s : State) (n : Nat) : State :=
  (s.clearCounts [Reg.WFT_CNT_COASTX n, Reg.WFT_CNT_HOLDS n, Reg.WFT_CNT_STEPS n]).clearMax (Reg.WFT_ERR_MAXABS n)

/-- WFT_CNT_CLR. -/
def execWftCntClr (t : Word) (n : Fin 2) (s : State) : Out :=
  let s := s.at t
  .next (if s.gone (Reg.WFT_CNT_CLR_addr n) then s.wrej else s.weftClear n)

/-! ### Coast learning (R219 to R226) -/

/-- WFT0_CLST.STATE codes. -/
abbrev clIdle : Nat := 0
abbrev clWait : Nat := 1
abbrev clActive : Nat := 2
abbrev clConverged : Nat := 3
abbrev clAborted : Nat := 4

/-- Shows SIG_VALID for Weft 0's source Warp (R219). -/
def State.showSigValid (s : State) : State :=
  s.flag (Reg.WFT_CLST_SIG_VALID 0) (s.learn.sigGood.contains (2 * s.primary + s.sigBank s.primary))

/-- What the end of a session leaves of Warp `n`'s learning: its region is kept but for cause 6, which also cancels a swap that
is due; a Warp that has swapped has no progress to keep (R224, R226; log entry 126). -/
def State.sessionEnds (s : State) (n cause : Nat) : State :=
  let keep := decide (cause ≠ 6 ∧ n ∉ s.learn.done)
  s.setWp n { s.wp n with kept := keep, conv := 0, swapDue := (s.wp n).swapDue && decide (cause ≠ 6) }

/-- A session ends with a cause of Table 4.8 (R226). -/
def State.learnAbort (s : State) (cause : Nat) : State :=
  if s.learn.active then
    let s := (s.sessionEnds 0 cause).sessionEnds 1 cause
    { (s.set (Reg.WFT_CLST_STATE 0) clAborted).set (Reg.WFT_CLST_CAUSE 0) cause with
      learn := { s.learn with active := false } }
  else s

/-- The mean of a list of integers, rounded to the nearest. -/
def meanOf (l : List Int) : Int := rdiv (l.foldl (· + ·) 0) l.length

/-- The learning region's base of Warp `n`. -/
def State.learnBase (s : State) (n : Nat) : Nat := sigBase n (1 - s.sigBank n)

/-- Applies the intervals of revolution r to the learning region (R221, R222): `r0`, `r1`, `r2` are REV(r-1), REV(r) and
REV(r+1). -/
def State.learnIntervals (s : State) (n r0 r1 r2 : Nat) (ivs : List Interval) : State :=
  let g : Rat := ((r2 : Rat) - r0) / (2 * r1)
  let base := s.learnBase n
  ivs.foldl (fun s iv =>
    if iv.skip || decide (iv.n = 0) || decide (r1 = 0) then s
    else
      let x : Rat := ((iv.p : Rat) + (iv.n : Rat) / 2) / s.posn n
      let d : Rat := (iv.m : Rat) / ((iv.n : Rat) * r1 / s.posn n * (1 + g * (x - 1 / 2))) - 1
      let old := s.entry24 (base + iv.p)
      s.setEntry24 (base + iv.p) (old + roundUp ((d * q28 - old) / 2 ^ s.get (Reg.WFT_CL_CL_SH 0)))) s

/-- Removes each phase class's mean over the real positions (R222). -/
def State.removeMeans (s : State) (n : Nat) : State :=
  let base := s.learnBase n
  let l := s.phases n
  let real := (List.range (s.posn n)).filter (fun p => !s.missingPos n p)
  let mean := fun (c : Nat) => meanOf ((real.filter (fun p => decide (p % l = c))).map (fun p => s.entry24 (base + p)))
  real.foldl (fun x p => x.setEntry24 (base + p) (s.entry24 (base + p) - mean (p % l))) s

/-- The largest change of an entry of the learning region between two states. -/
def State.largestChange (s s' : State) (n : Nat) : Nat :=
  let base := s.learnBase n
  (List.range (s.posn n)).foldl (fun a p => max a (s'.entry24 (base + p) - s.entry24 (base + p)).natAbs) 0

/-- Learns one revolution of Warp `n` and counts towards its convergence (R221 to R225). -/
def State.learnRevolution (s : State) (n r0 r1 r2 : Nat) : State :=
  let w := s.wp n
  if w.dirtyPrev then s.set (Reg.WFT_CLST_CAUSE 0) 5
  else
    let s' := (s.learnIntervals n r0 r1 r2 w.ivPrev).removeMeans n
    let chg := s.largestChange s' n
    let conv := if chg < s.get (Reg.WFT_CL_CL_EPS 0) * 1024 then w.conv + 1 else 0
    let due := decide (s.get (Reg.WFT_CL_CL_CONV 0) ≤ conv)
    let s' := s'.setWp n { w with conv, swapDue := w.swapDue || due }
    if n = s.primary then
      let s' := (s'.set (Reg.WFT_CLST_MAXCHG 0) (satU 16 (chg / 1024))).add (Reg.WFT_CLST_REVS 0) 1
      if due then s'.set (Reg.WFT_CLST_STATE 0) clConverged else s'
    else s'

/-- A record to be written joins those that wait: the earliest time word is served first, then the lowest key (R59). -/
def insertJob (j : Word × Nat × Nat) : List (Word × Nat × Nat) → List (Word × Nat × Nat)
  | [] => [j]
  | k :: l => if sdiff j.1 k.1 < 0 ∨ (j.1 = k.1 ∧ j.2.2 < k.2.2) then j :: k :: l else k :: insertJob j l

/-- The SIGNATURE accumulator of Warp `n` takes its active region, and a commit of that record is requested (R582); the
Proex controller owes the partner a series of it (Table 13.6). -/
def State.signatureTaken (s : State) (n : Nat) (t : Word) : State :=
  let base := sigBase n (s.sigBank n)
  let s := if n = s.primary then { s with pair := { s.pair with blockDue := s.pair.blockDue ++ [1] } } else s
  if s.hasTile 0x0F 0 then
    let s := s.accSet 8 n 0 (BitVec.ofNat 48 (s.posn n * 2 ^ 37 + s.weave.descId % 2 ^ 32))
    let e := fun k => bitsOf (s.workGet (base + k)).toNat 0 24
    let s := (List.range 512).foldl (fun s i =>
      s.accSet 8 n (i + 1) (BitVec.ofNat 48 (e (2 * i) * 2 ^ 24 + e (2 * i + 1)))) s
    { s with recJobs := insertJob (t, 8, n) s.recJobs }
  else s

/-- The Warps that learn in a session: the primary, and Warp 1 while it monitors or stands by (R225). -/
def State.learners (s : State) : List Nat :=
  [0, 1].filter (fun n => decide (n = s.primary) || (decide (n = 1 ∧ s.get (Reg.WRP_MODE_CRK_MODE 1) ≠ 0) && s.hasTile 1 1))

/-- Signature region `r` (2 × Warp + region) comes from a restored record or a converged session, or no longer does (R219). -/
def Learn.mark (l : Learn) (r : Nat) (good : Bool) : Learn :=
  { l with sigGood := l.sigGood.filter (fun x => decide (x ≠ r)) ++ (if good then [r] else []) }

/-- Swaps the regions of Warp `n` when its convergence has made it due; the session ends when every Warp that learns in it has
swapped (R224, R225). -/
def State.learnSwap (s : State) (n : Nat) (t : Word) : State :=
  let w := s.wp n
  if w.swapDue then
    let s := s.setWp n { w with swapDue := false, kept := false, conv := 0 }
    let s := s.set (if n = 0 then Reg.WFT_CLST_BANK0 0 else Reg.WFT_CLST_BANK1 0) (1 - s.sigBank n)
    let done := s.learn.done ++ [n]
    let l := { s.learn.mark (2 * n + s.sigBank n) true with
      done, active := s.learn.active && !s.learners.all (fun k => done.contains k) }
    ({ s.incMod (Reg.WFT_CLST_SWAPS 0) with learn := l }.signatureTaken n t).showSigValid
  else s

/-- The speed of a revolution of `r` LSB lies in [CL_LO, CL_HI), in 10 rpm. -/
def State.clSpeed (s : State) (r : Nat) : Bool :=
  decide (10 * s.get (Reg.WFT_CL_CL_LO 0) * r ≤ 96000000000 ∧ 96000000000 < 10 * s.get (Reg.WFT_CL_CL_HI 0) * r)

/-- The unit is PHASED with SRC 0 or 1. -/
def State.ownPhased (s : State) : Bool := decide (s.get (Reg.WRP_SYNC_STATE s.primary) = 4 ∧ s.src < 2)

/-- Copies the active region of Warp `n` into its learning region unless the last session kept it (R220). -/
def State.prepareRegion (s : State) (n : Nat) : State :=
  if (s.wp n).kept then s
  else
    let s := s.workWrite (s.learnBase n) (s.workRead (sigBase n (s.sigBank n)) 0x400)
    { s with learn := s.learn.mark (2 * n + (1 - s.sigBank n)) false }

/-- Starts a session when Table 4.7 holds (R220). -/
def State.learnStart (s : State) : State :=
  let w := s.wp s.primary
  let fuel := s.learn.fuelNow || (s.learn.fuelLast && !s.weave.twoStroke)
  let enabled := s.is (Reg.WFT_CL_CL_EN 0) && s.is (Reg.WFT_CTRL_MODE 0)
  match w.revs with
  | r :: r' :: _ =>
    if enabled && s.ownPhased && !fuel && s.clSpeed r && decide (r' < r) then
      let s := (s.prepareRegion 0).prepareRegion 1
      let s := (s.setWp 0 { s.wp 0 with conv := 0 }).setWp 1 { s.wp 1 with conv := 0 }
      { (s.set (Reg.WFT_CLST_STATE 0) clActive).set (Reg.WFT_CLST_REVS 0) 0 with
        learn := { s.learn with active := true, sess := 0, done := [] } }
    else if enabled && decide (s.get (Reg.WFT_CLST_STATE 0) = clIdle) then s.set (Reg.WFT_CLST_STATE 0) clWait else s
  | _ => s

/-- What an active session does when the primary accepts position 0: aborts, then learns the revolution before the one
that ended (R221, R226). -/
def State.learnStep (s : State) : State :=
  let w := s.wp s.primary
  match w.revs with
  | r2 :: r1 :: _ =>
    if !s.clSpeed r2 then s.learnAbort 2
    else if r2 ≤ r1 then s.learnAbort 3
    else if 105 * r1 < 100 * r2 then s.learnAbort 4
    else
      let s := { s with learn := { s.learn with sess := s.learn.sess + 1 } }
      let s := if w.dirty then s.set (Reg.WFT_CLST_CAUSE 0) 5 else s
      match w.revs with
      | r2 :: r1 :: r0 :: _ =>
        if 3 ≤ s.learn.sess ∧ s.primary ∉ s.learn.done then s.learnRevolution s.primary r0 r1 r2 else s
      | _ => s
  | _ => s

/-- Closes the revolution of Warp `n` that ends when position 0 is accepted at `t`. -/
def State.closeRevolution (s : State) (n : Nat) (t : Word) : State :=
  let w := s.wp n
  let revs := match w.revStart with
    | some r => (elapsed r t :: w.revs).take 3
    | none => []
  s.setWp n { w with revs, revStart := some t }

/-- Moves the learning record of Warp `n` on to the next revolution. -/
def State.nextRevolution (s : State) (n : Nat) : State :=
  let w := s.wp n
  s.setWp n { w with ivPrev := w.ivCur, ivCur := [], dirtyPrev := w.dirty, dirty := false, noisy := false }

/-- Coast learning at the acceptance of position 0 by Warp `n` (R220 to R225). -/
def State.coastAtZero (s : State) (n : Nat) (t : Word) : State :=
  let s := s.closeRevolution n t
  let s :=
    if n = s.primary then
      let swapped := (s.wp n).swapDue
      let s := s.learnSwap n t
      let s := if s.learn.active then s.learnStep else if swapped then s else s.learnStart
      { s with learn := { s.learn with fuelLast := s.learn.fuelNow, fuelNow := false } }
    else
      let s := s.learnSwap n t
      match (s.wp n).revs with
      | r2 :: r1 :: r0 :: _ =>
        if s.learn.active && s.learners.contains n && !s.learn.done.contains n && decide (3 ≤ s.learn.sess) then
          s.learnRevolution n r0 r1 r2
        else s
      | _ => s
  s.nextRevolution n

/-! ### Learning the firing pulsation (R227 to R229) -/

/-- The conditions of R227 for the cycle of `c` LSB that ends, `c'` being the one before it. -/
def State.fpConditions (s : State) (n c c' : Nat) : Bool :=
  s.is (Reg.WFT_CTRL_MODE 0) && s.is (Reg.WFT_CTRL_FP_EN 0) && s.ownPhased && s.learn.mainNow
    && decide (10 * s.get (Reg.WFT_CTRL_FP_MIN 0) * c ≤ 96000000000 * (if s.weave.twoStroke then 1 else 2))
    && decide (64 * ((c : Int) - c').natAbs < c') && decide (0 < s.phases n)

/-- Learns cycle c from its intervals: `c0`, `c1`, `c2` are the cycle times before, of and after it (R228). -/
def State.fpLearn (s : State) (n c0 c1 c2 : Nat) (ivs : List Interval) : State :=
  let l := s.phases n
  let nc := s.ncyc n
  let g : Rat := ((c2 : Rat) - c0) / (2 * c1)
  let h := fun (iv : Interval) =>
    let x : Rat := ((iv.p : Rat) + 1 / 2) / nc
    (iv.m : Rat) * q28 / iv.w / ((c1 : Rat) / nc * (1 + g * (x - 1 / 2))) - 1
  let used := ivs.filter (fun iv => !iv.skip && decide (iv.n = 1))
  let s' := (List.range l).foldl (fun s phi =>
    let hs := (used.filter (fun iv => decide (iv.p % l = phi))).map h
    if hs.isEmpty then s
    else
      let m : Rat := hs.foldl (· + ·) 0 / hs.length
      let old := s.entry24 (0x1000 + phi)
      s.setEntry24 (0x1000 + phi) (old + roundUp ((m * q28 - old) / 2 ^ s.get (Reg.WFT_CTRL_FP_SH 0)))) s
  let mean := meanOf ((List.range l).map (fun phi => s'.entry24 (0x1000 + phi)))
  let s' := (List.range l).foldl (fun x phi => x.setEntry24 (0x1000 + phi) (s'.entry24 (0x1000 + phi) - mean)) s'
  let k := s.learn.learned + 1
  let s' := { s' with learn := { s'.learn with learned := k } }
  if 2 ^ (s.get (Reg.WFT_CTRL_FP_SH 0) + 2) ≤ k then s'.set (Reg.WFT_CLST_FP_VALID 0) 1 else s'

/-- Profile learning at the acceptance of cycle index 0 by the primary Warp at `t`. -/
def State.profileAtZero (s : State) (n : Nat) (t : Word) : State :=
  let l := s.learn
  let cycs := match l.cycStart with
    | some c => (elapsed c t :: l.cycs).take 3
    | none => []
  let ok := match cycs with
    | c :: c' :: _ => s.fpConditions n c c'
    | _ => false
  let s := match cycs with
    | c2 :: c1 :: c0 :: _ =>
      if l.okPrev && s.ownPhased && s.is (Reg.WFT_CTRL_FP_EN 0) then s.fpLearn n c0 c1 c2 l.ivCycPrev else s
    | _ => s
  { s with learn := { s.learn with
      cycStart := some t, cycs, okPrev := ok, ivCycPrev := l.ivCyc, ivCyc := [], mainNow := false } }

/-- The cycles measured so far are forgotten: profile learning needs three in a row (R227, R228). -/
def State.cyclesGone (s : State) : State :=
  { s with learn := { s.learn with okPrev := false, ivCyc := [], ivCycPrev := [], cycs := [], cycStart := none } }

/-- Clears the profile and FP_VALID (R229). -/
def State.clearProfile (s : State) : State :=
  let s := { s with work := s.work.filter (fun c => decide (c.1 < 0x1000 ∨ 0x1800 ≤ c.1)) }
  let s := { s.set (Reg.WFT_CLST_FP_VALID 0) 0 with learn := { s.learn with learned := 0 } }
  s.cyclesGone

/-- A pulse of KIND `kind` starts: pilot, main, post or gas (R220, R226, R227; kinds of Table 5.2). -/
def State.fuelStarted (s : State) (kind : Nat) : State :=
  if kind < 1 ∨ 4 < kind then s
  else
    let s := s.learnAbort 1
    { s with learn := { s.learn with fuelNow := true, mainNow := s.learn.mainNow || decide (kind = 2) } }

end Sys2Proof.Machine
end

