-- ==== Sys2Proof/Machine/Wheel.lean ====
section
/-!
DEFINITION. Wheel inputs and synchronisation (03_wheel_inputs_and_sync): front ends and filters, tooth classification,
the hunt, the synchronisation state machine with fallback and reverse, phasing by the cam and cam lock. A Warp's hidden
state is `Warp`; angles of a revolution count are absolute: revolution × revolution length + position angle.
-/
namespace Sys2Proof.Machine

/-! ### States (Table 3.5) -/

abbrev ssOff : Nat := 0
abbrev ssHunt : Nat := 1
abbrev ssGapFound : Nat := 2
abbrev ssCrankSync : Nat := 3
abbrev ssPhased : Nat := 4
abbrev ssLimp : Nat := 5
abbrev ssBorrowed : Nat := 6
abbrev ssStall : Nat := 7
abbrev ssReverse : Nat := 8

/-- WRPn_SYNC.STATE. -/
def State.sync (s : State) (n : Nat) : Nat := s.get (Reg.WRP_SYNC_STATE n)

/-- The unit runs on another source than its own crank. -/
def State.away (s : State) (n : Nat) : Bool := decide (s.sync n = ssLimp ∨ s.sync n = ssBorrowed)

/-- The state in which the own crank is tracked: BG in LIMP and BORROWED (R170). -/
def State.trk (s : State) (n : Nat) : Nat := if s.away n then s.get (Reg.WRP_SYNC_BG n) else s.sync n

/-- Sends a SYNC_LOST token to every Shuttle (R153). -/
def State.sendSyncLost (s : State) : State := { s with shTok := s.shTok.map (fun k => { k with sync := true }) }

/-- Sends a ROTATION_LOST token to every Shuttle and every bank (R154). -/
def State.sendRotationLost (s : State) : State :=
  { s with
    shTok := s.shTok.map (fun k => { k with rotation := true })
    bkTok := s.bkTok.map (fun k => { k with rotation := true }) }

/-- The delivering states of Table 5.1. -/
def angleState (st : Nat) : Bool := decide (st = ssCrankSync ∨ st = ssPhased ∨ st = ssLimp ∨ st = ssBorrowed)

/-- An angle is delivered anew: the next update begins no window (R252), counts no cycle (R428) and forms no speed (R478); no list
has been built since the firing TDCs (R459). -/
def State.angleRegained (s : State) : State :=
  { s with
    shuttles := s.shuttles.map (fun k => { k with noWindow := true })
    maps := s.maps.map (fun m => { m with built := false })
    svc := { s.svc with prev := none }
    ovs := { s.ovs with prev := none } }

/-- An edge at `t` keeps its distance of 2.5 µs to the last one; the answer says whether it is delayed for that (R285). -/
def PulseOut.spaced (k : PulseOut) (t : Word) : Word × Bool :=
  match k.lastAt with
  | some l => if elapsed l t < 4000 then (addW l 4000, true) else (t, false)
  | none => (t, false)

/-- A pulse output that no longer runs is low from `t` on. -/
def PulseOut.fallen (k : PulseOut) (t : Word) : PulseOut :=
  { k with run := false, at_ := none, delayed := false, a := false, b := false, z := false, lastAt := some t }

/-- A pulse output that no longer runs is low. Where a level is high the change is an edge, and it keeps the 2.5 µs to the last
one: it falls then, and counts as late (R283, R285). -/
def PulseOut.low (k : PulseOut) (now : Word) : PulseOut :=
  if !(k.a || k.b || k.z) then { k with run := false, at_ := none, delayed := false }
  else if !k.run && k.at_.isSome then k
  else if (k.spaced now).2 then { k with run := false, at_ := some (k.spaced now).1, delayed := true }
  else k.fallen now

/-- No angle is delivered: the pulse outputs are low (R283). -/
def State.angleGone (s : State) : State := { s with pulseOuts := s.pulseOuts.map (fun k => k.low s.now) }

/-- What a change of the primary's state means for the unit: tokens, the Weft, learning, the pair. -/
def State.primaryChanged (s : State) (old new : Nat) : State :=
  let s := if new = ssHunt then s.sendSyncLost else s
  let s := if new = ssStall ∨ new = ssReverse then s.sendRotationLost else s
  let s := if angleState new && !angleState old then s.angleRegained else s
  let s := if angleState new then s
    else { s.angleGone with wefts := s.wefts.map (fun w => { w with formed := [], restarted := true }) }
  let s := if new = ssOff ∨ new = ssStall ∨ new = ssReverse then { s with ovs := { s.ovs with trip := false } } else s
  let s := if old = ssPhased then (s.learnAbort 6).cyclesGone.verdict false else s
  let s := if new = ssPhased then s.counter 3 else s
  let s := if new = ssHunt ∨ new = ssStall ∨ new = ssReverse then { s with pair := { s.pair with leftSync := true } } else s
  s.leaveStopOwn

/-- A state change of crank Warp `n`, reported with the cycle tooth index `i` at which it took place (R157). -/
def State.goFrom (s : State) (n new : Nat) (t : Word) (i : Nat) : State :=
  let old := s.sync n
  if new = old then s
  else
    let s := s.countSeconds.set (Reg.WRP_SYNC_STATE n) new
    let s := s.report 1 n 1 (old * 2 ^ 36 + new * 2 ^ 32 + i) (some t)
    let s := if new = ssStall ∧ old ≠ ssOff then s.inc (Reg.WRP_CNT1_STALLS n) else s
    if n = s.primary then s.primaryChanged old new else s

/-- The tooth index of crank Warp `n` as WRPn_SYNC shows it (Table 3.15). -/
def State.toothIdx (s : State) (n : Nat) : Nat := s.get (Reg.WRP_SYNC_TOOTH n)

/-- A state change at the last accepted tooth. -/
def State.goState (s : State) (n new : Nat) (t : Word) : State := s.goFrom n new t (s.toothIdx n)

/-- A change of the tracked state: BG while the unit is away. -/
def State.goTrk (s : State) (n new : Nat) (t : Word) : State :=
  if s.away n then s.set (Reg.WRP_SYNC_BG n) new else s.goState n new t

/-! ### Front end (R117 to R135) -/

/-- The filter time of Warp `n` in LSB (Table 3.8). -/
def State.filt (s : State) (n : Nat) : Nat := [0, 400, 800, 1600, 3200, 6400].getD (s.get (Reg.WRP_CFG_FILT n)) 0

/-- The VR arming threshold in mV: armed when a half-wave exceeds it (R118). The peak × (VR_FRAC + 1) / 8 is compared
eightfold. -/
def State.vrArms (s : State) (n mV : Nat) : Bool :=
  decide (4 * s.get (Reg.WRP_CFG_VR_MIN n) < mV ∧ (s.get (Reg.WRP_CFG_VR_FRAC n) + 1) * (s.wp n).vrPeak < 8 * mV)

/-- The input of Warp `n` reaches it: the tile runs and its balls are assigned, _P and, for the differential VR input, _N (R680,
R683). -/
def State.wheelLive (s : State) (n : Nat) : Bool :=
  s.running && s.assigned 1 n 0 && (decide (s.get (Reg.WRP_CFG_TYPE n) ≠ 0) || s.assigned 1 n 1)

/-- An edge that the classifier accepts takes over its half-wave as the peak memory (R118). -/
def Warp.tookPeak (w : Warp) : Warp := if w.vrEdge = 0 then w else { w with vrPeak := w.vrEdge, vrEdge := 0 }

/-! ### Hunt (R148 to R151) -/

/-- The last accepted real edge (Table 3.15). -/
def State.lastEdge (s : State) (n : Nat) : Word := s.reg (Reg.WRP_EDGE_addr n)

/-- Starts the hunt of Warp `n` anew; `ref` is the reference edge, when the hunt begins at one (R133, R148, R158). -/
def State.restartHunt (s : State) (n : Nat) (ref : Option Word) : State :=
  let w := s.wp n
  let w := { w with
    hasRef := ref.isSome, nper := 0, sub := 0, subSum := 0, subEdges := [], cands := [], count := 0, pos := none, track := false
    own := none, ownPrev := none, known := false, live0 := false, live1 := false, restart := false, seen := []
    inserted := false, gapn := 0, confArm := false, revs := [], revStart := none, ivCur := [], ivPrev := [], agree := 0 }
  let s := s.set (Reg.WRP_SYNC_TOOTH n) 0xFFF
  let s := if n = s.primary then s.setWf 0 { s.wf 0 with bhat := none, stepDue := false } else s
  match ref with
  | some t => (s.setReg (Reg.WRP_EDGE_addr n) t).setWp n { w.tookPeak with stallBase := some t, stallP := none }
  | none => s.setWp n w

/-- Entry to STALL: no timeout runs, and the peak memory holds VR_MIN (R120). -/
def State.stallReset (s : State) (n : Nat) : State :=
  let s := s.restartHunt n none
  s.setWp n { s.wp n with stallBase := none, stallP := none, vrPeak := 4 * s.get (Reg.WRP_CFG_VR_MIN n) }

/-- Indexed teeth from mark `a`'s tooth up to and with mark `b`'s tooth. -/
def markDistance (pos : Nat) (a b : Mark) : Nat :=
  (if b.pos ≤ a.pos then b.pos + pos - a.pos else b.pos - a.pos) - (if b.extra then 0 else b.len)

/-- The marks in order of position. -/
def State.sortedMarks (s : State) (n : Nat) : List Mark := (s.marks n).mergeSort (fun a b => decide (a.pos ≤ b.pos))

/-- The candidates seen fit the pattern when the first is mark `j`, and the teeth since the last fit too (R150). -/
def candsFit (pos : Nat) (ms : List Mark) (j count : Nat) (cands : List Cand) : Bool :=
  let l := ms.length
  let mk := fun k => ms.getD ((j + k) % l) ⟨0, false, 0⟩
  cands.zipIdx.all (fun (c, k) =>
    (mk k).extra == c.extra && decide ((mk k).len = c.len) &&
      (decide (k = 0) || decide (c.teeth = markDistance pos (mk (k - 1)) (mk k)))) &&
  decide (count < markDistance pos (mk (cands.length - 1)) (mk cands.length))

/-- The pattern indices that the candidates may have begun at. -/
def State.hypotheses (s : State) (n : Nat) : List Nat :=
  let w := s.wp n
  let ms := s.sortedMarks n
  (List.range ms.length).filter (fun j => candsFit (s.posn n) ms j w.count w.cands)

/-- The position that hypothesis `j` gives to the last accepted tooth. -/
def State.hypPosition (s : State) (n j : Nat) : Nat :=
  let w := s.wp n
  let ms := s.sortedMarks n
  ((ms.getD ((j + w.cands.length - 1) % ms.length) ⟨0, false, 0⟩).pos + w.count) % s.posn n

/-- The gap length whose mark window an interval fits best, the smaller on a tie (Table 3.4, R149). `q` gives the ratio
for a length, `err` the distance. -/
def State.gapFit (s : State) (n : Nat) (q err : Nat → Nat) : Option Nat :=
  let ls := [1, 2, 3].filter (fun l => (s.marks n).any (fun m => !m.extra && decide (m.len = l))
    && decide (s.get (Reg.WRP_ACC1_MLO n) ≤ q l ∧ q l < s.get (Reg.WRP_ACC1_MHI n)))
  ls.foldl (fun b l => match b with
    | none => some l
    | some k => if err l < err k then some l else some k) none

/-- The extra-tooth length whose sub-period window an interval fits, the smallest of several (log entry 127); `want` is the length
begun, 0 for any. -/
def State.extraFit (s : State) (n m p want : Nat) : Option Nat :=
  [1, 2, 3].find? (fun l => (s.marks n).any (fun x => x.extra && decide (x.len = l))
    && decide ((want = 0 ∨ want = l) ∧ s.get (Reg.WRP_ACC1_MLO n) ≤ 4096 * m * (l + 1) / p
      ∧ 4096 * m * (l + 1) / p < s.get (Reg.WRP_ACC1_MHI n)))

/-- What an edge in the hunt is (Table 3.4). -/
inductive HuntEdge where
  | gap (len : Nat)
  | sub (len : Nat)
  | tooth
  | firstGap (len : Nat)
  | noise
  | restart
deriving DecidableEq, Repr

/-- The ratio q of R139, saturating. -/
def ratioQ (m p : Nat) : Nat := min 0xFFFF (4096 * m / p)

/-- Table 3.4 for an interval `m`; the first row that matches decides. `sub`: the interval may begin a run of extra-tooth
sub-periods. -/
def State.huntRow (s : State) (n m : Nat) (sub : Bool) : HuntEdge :=
  let w := s.wp n
  let p := w.per
  let q := ratioQ m p
  match s.gapFit n (fun l => 4096 * m / ((l + 1) * p)) (fun l => ((m : Int) - (l + 1) * p).natAbs) with
  | some l => .gap l
  | none =>
    match (if sub then s.extraFit n m p 0 else none) with
    | some l => .sub l
    | none =>
      if s.get (Reg.WRP_ACC0_QLO n) ≤ q ∧ q < s.get (Reg.WRP_ACC0_QHI n) then .tooth
      else
        match (if w.nper = 1 then
          s.gapFit n (fun l => 4096 * p / ((l + 1) * m)) (fun l => ((p : Int) - (l + 1) * m).natAbs) else none) with
        | some l => .firstGap l
        | none => if q < s.get (Reg.WRP_ACC0_QLO n) then .noise else .restart

/-- A noise edge: discarded and counted; nothing else changes (R145). -/
def State.noiseEdge (s : State) (n : Nat) : State :=
  let w := s.wp n
  (s.inc (Reg.WRP_CNT0_NOISE n)).setWp n { w with vrEdge := 0, noisy := true, dirty := true, pulseNoise := true }

/-- A hunt restart: the edge becomes the reference, and HRST is raised. -/
def State.huntRestart (s : State) (n : Nat) (t : Word) : State :=
  (s.inc (Reg.WRP_CNT2_HRST n)).restartHunt n (some t)

/-- Shows an accepted per-pitch period (Table 3.16). -/
def State.showPeriod (s : State) (n per : Nat) : State := s.set (Reg.WRP_PER_PERIOD n) (satU 32 per)

/-- Cycle index of position `p` of Warp `n` in its present revolution, under the decided half or H0 (Table 4.2). -/
def State.cycleIndex (s : State) (n p : Nat) : Nat :=
  let w := s.wp n
  if s.weave.twoStroke then p else p + s.posn n * ((w.par + w.rev) % 2)

/-- The absolute angle of the last tooth. -/
def State.absAngle (s : State) (n : Nat) : Int :=
  let w := s.wp n
  (w.rev * s.revLen : Int) + s.posAngle n (w.pos.getD 0)

/-! ### Losing and leaving (R168 to R177) -/

/-- Shows a fallback to a row of Table 3.6 (R169). -/
def State.fellBack (s : State) (n src : Nat) (t : Word) : State :=
  ((s.stick (Reg.WRP_SYNC_CRANK_LOST n) 1).inc (Reg.WRP_CNT2_SWITCH n)).report 1 n 2 (src * 2 ^ 38) (some t)

/-- Row 1 of Table 3.6 is available. -/
def State.standbyReady (s : State) : Bool :=
  decide (s.primary = 0 ∧ s.get (Reg.WRP_MODE_CRK_MODE 1) = 2 ∧ s.sync 1 = ssPhased) && s.hasTile 1 1

/-- Row 2 of Table 3.6 is available. -/
def State.borrowReady (s : State) (n : Nat) : Bool := s.is (Reg.WRP_MODE_BORROW_EN n) && s.pairMember && s.partnerAngle

/-- Row 3 of Table 3.6 is available. -/
def State.limpReady (s : State) (n : Nat) : Bool :=
  let c := 2 + s.get (Reg.WRP_MODE_LIMP_CAM n)
  s.is (Reg.WRP_MODE_LIMP_EN n) && s.hasTile 1 c && decide (s.get (Reg.WRP_SYNC_CAMST c) = 2)

/-- Takes the angle of the partner or the limp cam. -/
def State.goAway (s : State) (n new src : Nat) (t : Word) (i : Nat) : State :=
  let s := (s.set (Reg.WRP_SYNC_SRC n) src).goFrom n new t i
  let s := s.set (Reg.WRP_SYNC_BG n) ssHunt
  let s := s.setWp n { s.wp n with agree := 0 }
  let s := s.setWf 0 { s.wf 0 with formed := [] }
  let w := s.wf 1
  (s.setWf 1 { w with switched := true, formed := [], last := none, prev := none, restarted := true, held := false }).fellBack n src t

/-- Switches to the standby crank (Table 3.6, row 1): the unit enters PHASED where it was not (R578), and an own verdict falls where the
primary leaves PHASED (R622). -/
def State.goStandby (s : State) (new : Nat) (t : Word) (i : Nat) : State :=
  let s := (s.learnAbort 6).cyclesGone.countSeconds
  let s := if s.sync 0 = ssPhased then s.verdict false else s.counter 3
  let s := ({ s with primary := 1 }).goFrom 0 new t i
  let s := (s.set (Reg.WRP_SYNC_SRC 1) 1).fellBack 0 1 t
  let w := s.wf 0
  (s.setWf 0 { w with switched := true, bhat := none, restarted := true }).showSigValid.leaveStopOwn

/-- Weft 0 delivers again: its first update carries STEP = 1 (R190). -/
def State.weft0Returns (s : State) : State :=
  s.setWf 0 { s.wf 0 with switched := true, formed := [], restarted := true }

/-- Own crank lost in CRANK_SYNC or PHASED: the first available source of Table 3.6 (R168). A fallback keeps the peak memory, and
the timeout of a tracking that ended without an edge (R120, R158). -/
def State.lostCrank (s : State) (n : Nat) (t : Word) (ref : Option Word) (stall : Bool) : State :=
  let i := s.toothIdx n
  let s := s.restartHunt n ref
  let rest := if stall then ssStall else ssHunt
  let lost := if stall then s.stallReset n else s
  if s.standbyReady then lost.goStandby rest t i
  else if s.borrowReady n then s.goAway n ssBorrowed 2 t i
  else if s.limpReady n then s.goAway n ssLimp 3 t i
  else lost.goFrom n rest t i

/-- The source of LIMP or BORROWED is lost (R171). -/
def State.sourceLost (s : State) (t : Word) : State :=
  let n := s.primary
  if s.sync n = ssBorrowed ∧ s.limpReady n = true then
    let bg := s.get (Reg.WRP_SYNC_BG n)
    (s.goAway n ssLimp 3 t (s.toothIdx n)).set (Reg.WRP_SYNC_BG n) bg
  else if s.away n then
    let i := s.toothIdx n
    let s := if s.get (Reg.WRP_SYNC_BG n) = ssHunt then s else s.restartHunt n none
    ((s.set (Reg.WRP_SYNC_BG n) 0).set (Reg.WRP_SYNC_SRC n) n).weft0Returns.goFrom n ssHunt t i
  else s

/-- The unit returns to its own crank (R174, R175, R190). -/
def State.ownReturn (s : State) (n : Nat) (t : Word) : State :=
  (((s.set (Reg.WRP_SYNC_BG n) 0).set (Reg.WRP_SYNC_SRC n) n).goState n ssPhased t).weft0Returns.leaveStopOwn

/-- Reverse is declared (R172, R173, R177). -/
def State.declareReverse (s : State) (n : Nat) (t : Word) (ref : Option Word) : State :=
  let i := s.toothIdx n
  let s := (s.inc (Reg.WRP_CNT1_REVS n)).set (Reg.WRP_SYNC_REV_PEND n) 1
  let s := s.restartHunt n ref
  let s := if s.away n then ((s.set (Reg.WRP_SYNC_BG n) 0).set (Reg.WRP_SYNC_SRC n) n).weft0Returns else s
  let s := s.setWp n { s.wp n with revAt := some t }
  s.goFrom n ssReverse t i

/-- The speed of the last accepted period is below REV_RPM (R173). -/
def State.rockingSpeed (s : State) (n : Nat) : Bool :=
  let per := (s.wp n).per
  decide (0 < per) && s.slower n per 1 (5 * s.get (Reg.WRP_MODE_REV_RPM n))

/-- A sync fault (R148), or with `cam` a cam cross-check failure (R167). -/
def State.fault (s : State) (n : Nat) (t : Word) (ref : Option Word) (cam : Bool) : State :=
  if s.rockingSpeed n then s.declareReverse n t ref
  else
    let s := (if cam then s.inc (Reg.WRP_CNT1_CAMF n) else s).cause 11 n
    if cam && s.is (Reg.WRP_MODE_CAM_RETAIN n) then s
    else
      let s := s.inc (Reg.WRP_CNT0_SYNCF n)
      if n = s.primary ∧ (s.sync n = ssCrankSync ∨ s.sync n = ssPhased) then s.lostCrank n t ref false
      else if s.away n then (s.restartHunt n ref).set (Reg.WRP_SYNC_BG n) ssHunt
      else (s.restartHunt n ref).goFrom n ssHunt t (s.toothIdx n)

/-! ### What falls due at an instant (R124, R156, R158, R160) -/

/-- The stall timeout of a Warp in LSB (R158, R182). -/
def State.stallLimit (s : State) (n : Nat) : Nat :=
  let cap := s.get (Reg.WRP_MODE_STALL_CAP n) * ms
  match (s.wp n).stallP with
  | some p => min (s.get (Reg.WRP_MODE_STALL_N n) * p) cap
  | none => cap

/-- The instant at which the stall timeout of Warp `n` expires, when that is at or before `t` (R12, R158, R160). -/
def State.stallBy (s : State) (n : Nat) (t : Word) : Option Word :=
  match (s.wp n).stallBase with
  | some b => if s.stallLimit n ≤ elapsed b t then some (addW b (s.stallLimit n)) else none
  | none => none

/-- The HALL_DIR pulse that began at `t0` was still active `d` later; an end that its filter still holds counts by its time
word (R123, R129). -/
def Warp.pulseLasts (w : Warp) (t0 now : Word) (d : Nat) : Bool :=
  decide (d ≤ elapsed t0 now) && !w.pend.any (fun (lv, t1) => !lv && decide (elapsed t0 t1 < d))

/-- Reverse is declared at this instant, or falls due at it (R124, R156). -/
def State.reverseNow (s : State) (n : Nat) : Bool :=
  let w := s.wp n
  decide (w.revAt = some s.now) || w.pulse.any (fun t0 =>
    !w.pulseRev && w.pulseLasts t0 s.now (80 * s.get (Reg.WRP_DIR_DIR_SPLIT n)))

/-- The stall timeout of Warp `n` has expired; an edge with an earlier time word that its filter still holds comes first (R129,
R160). -/
def State.stallDue (s : State) (n : Nat) : Bool :=
  s.running && (s.stallBy n s.now).any (fun e =>
    !(s.wp n).pend.any (fun (lv, t0) => lv && decide (elapsed t0 e ≠ 0 ∧ notBefore e t0 = true)))

/-! ### Phasing and the cam cross-check (R161 to R167) -/

/-- Half-width of a cam window in angle counts (R162). -/
def State.camHalf (s : State) (n : Nat) : Int := rdiv (s.get (Reg.WRP_MODE_CAM_WIN n) * W48) (16 * s.ncyc n)

/-- The centres of the cam windows that hypothesis `h` expects around the present revolution. -/
def State.camCentres (s : State) (n h : Nat) : List Int :=
  let c := 2 + s.get (Reg.WRP_MODE_PHASE_CAM n)
  let rl := s.revLen
  let edges := (List.range (s.posn c)).map (fun m =>
    ((s.reg (Reg.WRP_CAME_addr c m) - s.refOf n).toNat))
  let revs : List Int := [(s.wp n).rev - 1, (s.wp n).rev, (s.wp n).rev + 1]
  revs.flatMap (fun r => (edges.filter (fun (e : Nat) => decide (((h : Int) + r) % 2 = ((e / rl : Nat) : Int)) || s.weave.twoStroke)).map
    (fun (e : Nat) => r * rl + ((e % rl : Nat) : Int)))

/-- A judged window of hypothesis `h` has closed empty between the last tooth and absolute angle `a` (R163). -/
def State.closedEmpty (s : State) (n h : Nat) (a : Int) : Bool :=
  let w := s.wp n
  let hw := s.camHalf n
  (s.camCentres n h).any (fun c => decide (w.a0 ≤ c - hw ∧ w.aLast < c + hw ∧ c + hw ≤ a ∧ c ∉ w.seen))

/-- The centre of the window of hypothesis `h` that holds `x`. -/
def State.windowAt (s : State) (n h : Nat) (x : Int) : Option Int :=
  let hw := s.camHalf n
  (s.camCentres n h).find? (fun c => decide (c - hw ≤ x ∧ x < c + hw))

/-- A window that holds `x` opened before the position was identified (R163). -/
def State.unjudgedAt (s : State) (n : Nat) (x : Int) : Bool :=
  let hw := s.camHalf n
  [0, 1].any (fun h => (s.camCentres n h).any (fun c => decide (c - hw ≤ x ∧ x < c + hw ∧ c - hw < (s.wp n).a0)))

/-- The hypotheses fail as told; phasing follows (R163 to R165). -/
def State.hypothesesFail (s : State) (n : Nat) (f0 f1 : Bool) (t : Word) : State :=
  let w := s.wp n
  if s.weave.twoStroke || w.known || w.restart then s
  else
    let l0 := w.live0 && !f0
    let l1 := w.live1 && !f1
    let s := s.setWp n { w with live0 := l0, live1 := l1 }
    if l0 && l1 then s
    else if !l0 && !l1 then
      (s.inc (Reg.WRP_CNT1_CAMF n)).setWp n { w with live0 := false, live1 := false, restart := true }
    else
      let s := s.setWp n { w with live0 := l0, live1 := l1, known := true, par := if l1 then 1 else 0 }
      let s := s.set (Reg.WRP_SYNC_TOOTH n) (s.cycleIndex n (w.pos.getD 0))
      if s.trk n = ssCrankSync then
        let s := if l1 && !s.away n && decide (n = s.primary) then s.setWf 0 { s.wf 0 with stepDue := true } else s
        s.goTrk n ssPhased t
      else s

/-- The hypothesis that PHASED relies on. -/
def State.decided (s : State) (n : Nat) : Nat := if s.weave.twoStroke then 0 else (s.wp n).par

/-- Judges the windows that close at the tooth just accepted; true when the cross-check fails (R163, R167). -/
def State.judgeTooth (s : State) (n : Nat) (t : Word) : State × Bool :=
  let a := s.absAngle n
  let k := s.trk n
  let h := s.decided n
  let bad := decide (k = ssPhased) && s.closedEmpty n h a
  let f0 := s.closedEmpty n 0 a
  let f1 := s.closedEmpty n 1 a
  let hw := s.camHalf n
  let w := s.wp n
  let s := s.setWp n { w with aLast := a, seen := w.seen.filter (fun c => decide (a < c + hw)) }
  let s := if k = ssGapFound ∨ k = ssCrankSync then s.hypothesesFail n f0 f1 t else s
  (if bad && decide (n = s.primary) then s.verdict false else s, bad)

/-- A PHASE_CAM edge at `t` as crank Warp `n` sees it (R161 to R167, R176); at the instant of a reverse or a stall it brings no transition
(R156). While an identified Warp in REVERSE awaits R176 no hypothesis fails (log entry 155), and the first edge after the mark tooth is the
first to arrive (log entry 157). -/
def State.phaseEdge (s : State) (n : Nat) (t : Word) : State :=
  let w := s.wp n
  match (if s.reverseNow n || s.stallDue n then none else w.own) with
  | none => s
  | some u =>
    let x := s.absAngle n + sdiff (s.ownAngleAt n t) u.angle
    let k := s.trk n
    let seen := w.seen ++ (s.windowAt n 0 x).toList ++ (s.windowAt n 1 x).toList
    if w.track then
      if w.confArm && decide (s.get (Reg.WRP_CFG_TYPE n) ≠ 2) then
        if (s.windowAt n 0 x).isSome || (!s.weave.twoStroke && (s.windowAt n 1 x).isSome) then
          let s := s.setWp n { w with seen, confArm := false, track := false, gapn := w.sinceMark, aLast := s.absAngle n }
          (s.set (Reg.WRP_SYNC_REV_PEND n) 0).goState n ssGapFound t
        else
          let s := s.set (Reg.WRP_SYNC_TOOTH n) 0xFFF
          let s := if n = s.primary then s.setWf 0 { s.wf 0 with bhat := none } else s
          s.setWp n { w with track := false, confArm := false, pos := none, own := none, ownPrev := none, cands := [], count := 0 }
      else s.setWp n { w with seen }
    else
      let free := s.unjudgedAt n x
      let out := fun h => !free && (s.windowAt n h x).isNone
      let s := s.setWp n { w with seen }
      if k = ssGapFound ∨ k = ssCrankSync then s.hypothesesFail n (out 0) (out 1) t
      else if k = ssPhased then
        let bad := out (s.decided n)
        let inside := (s.windowAt n (s.decided n) x).isSome
        let s := if n = s.primary ∧ (bad ∨ inside) then s.verdict (!bad) else s
        if bad && decide (s.trk n = ssPhased) then s.fault n t none true else s
      else s

/-! ### Teeth with a known position (R139 to R147) -/

/-- Records the interval that ended at a tooth for learning (R209, R221, R228). -/
def State.recordInterval (s : State) (n p i k m : Nat) (ins : Bool) : State :=
  if s.is (Reg.WFT_CTRL_MODE 0) then
    let iv : Interval := { p, n := k, m, w := s.weight n p k ins, skip := ins }
    let w := s.wp n
    let s := s.setWp n { w with ivCur := w.ivCur ++ [iv], dirty := w.dirty || ins }
    if n = s.primary then { s with learn := { s.learn with ivCyc := s.learn.ivCyc ++ [{ iv with p := i }] } } else s
  else s

/-- Excludes the intervals of the revolution that ends from profile learning when it held a noise edge (R209). -/
def State.excludeNoisy (s : State) (n i : Nat) : State :=
  let half := (i + s.ncyc n - s.posn n) % s.ncyc n / s.posn n
  if (s.wp n).noisy && decide (n = s.primary) then
    { s with learn := { s.learn with
      ivCyc := s.learn.ivCyc.map (fun iv => if iv.p / s.posn n = half then { iv with skip := true } else iv) } }
  else s

/-- Learning at the acceptance of position 0 (R220, R227). -/
def State.atZero (s : State) (n i : Nat) (t : Word) : State :=
  let s := (s.excludeNoisy n i).coastAtZero n t
  if n = s.primary ∧ i = 0 ∧ s.is (Reg.WFT_CTRL_MODE 0) then s.profileAtZero n t else s

/-- Compares a monitoring Warp 1 with the primary at its tooth, while both are PHASED (R185; log entry 160). -/
def State.monitorCompare (s : State) (n : Nat) (t : Word) : State :=
  match (s.wp n).own with
  | some u =>
    if n = 1 ∧ s.primary = 0 ∧ s.get (Reg.WRP_MODE_CRK_MODE 1) = 1 ∧ s.sync 1 = ssPhased ∧ s.sync 0 = ssPhased
        ∧ 2 * W48 < (sdiff u.angle (s.ownAngleAt 0 t)).natAbs * s.ncyc 0 then
      s.stick (Reg.WRP_SYNC_CRANK_MISMATCH 0) 1
    else s
  | none => s

/-- The error of Weft 0's prediction for the indexed tooth that ends an interval of `m` (Table 4.15, R212). -/
def State.toothError (s : State) (n m : Nat) : State :=
  match (s.wp n).own with
  | some u => if n = s.primary then s.weftError 0 u m else s
  | none => s

/-- Forms the prediction at the tooth just accepted, and issues the update when the state feeds consumers
(Table 4.1, R187 to R195). A Warp that only tracks in REVERSE goes on with its last accepted period for the stall timeout (R140, R158). -/
def State.predictTooth (s : State) (n k m : Nat) (t : Word) (ins mark : Bool) : State :=
  let i := s.cycleIndex n ((s.wp n).pos.getD 0)
  let s := s.toothError n m
  let feeds := decide (n = s.primary ∧ (s.sync n = ssCrankSync ∨ s.sync n = ssPhased))
  let (s, u) := s.formUpdate n i k m t ins mark (decide (s.sync n = ssCrankSync)) (feeds && ((s.wf 0).stepDue || (s.wf 0).switched))
  let w := s.wp n
  let s := s.setWp n { w with own := some u, ownPrev := w.own, stallP := some (if w.track then w.per else u.period / u.nspan) }
  if feeds then
    let f := s.wf 0
    s.setWf 0 { f with formed := f.formed ++ [u], stepDue := false, switched := false }
  else s

/-- Moves Warp `n` to position `p`, `k` pitches and `m` LSB after the last indexed tooth; `zero`: a revolution begins. -/
def State.moveTo (s : State) (n p per : Nat) (t : Word) (ins mark zero : Bool) : State :=
  let w := s.wp n
  let s := (s.setReg (Reg.WRP_EDGE_addr n) t).showPeriod n per
  let s := s.setWp n { w.tookPeak with
    pos := some p, per, sub := 0, subSum := 0, stallBase := some t, stallP := some per
    rev := if zero then w.rev + 1 else w.rev
    inserted := if zero then ins else w.inserted || ins
    gapn := if mark then w.gapn else w.gapn + 1
    sinceMark := if mark then 0 else w.sinceMark + 1
    confArm := w.confArm || (mark && w.track) }
  s.set (Reg.WRP_SYNC_TOOTH n) (s.cycleIndex n p)

/-- Restarts both hypotheses at position 0 when both have failed (R165); windows that opened before it are left out of judgement (log entry
156). -/
def State.restartHypotheses (s : State) (n : Nat) : State :=
  let w := s.wp n
  if w.restart then
    let a := s.absAngle n
    s.setWp n { w with restart := false, live0 := true, live1 := true, a0 := a, aLast := a, seen := [] }
  else s

/-- The states that an accepted tooth leads on to (Table 3.5). -/
def State.advance (s : State) (n : Nat) (t : Word) : State :=
  let w := s.wp n
  if s.trk n = ssGapFound ∧ s.get (Reg.WRP_MODE_GAP_CHECK n) ≤ w.gapn then
    s.goTrk n (if s.weave.twoStroke || w.known then ssPhased else ssCrankSync) t
  else s

/-- An accepted indexed tooth at a known position: `p`, `k` pitches after the last one, interval `m`, per-pitch period
`per`. A unit in LIMP whose own crank was phased before this tooth returns at it (R174), unless the tooth brings a fault
(R156). -/
def State.accept (s : State) (n p k m per : Nat) (t : Word) (ins mark zero : Bool) : State :=
  let returns := decide (s.sync n = ssLimp ∧ s.get (Reg.WRP_SYNC_BG n) = ssPhased)
  let p0 := (s.wp n).pos.getD 0
  let s := s.recordInterval n p0 (s.cycleIndex n p0) k m ins
  let s := s.moveTo n p per t ins mark zero
  let s := if zero then (s.atZero n (s.cycleIndex n p) t).restartHypotheses n else s
  let (s, bad) := s.judgeTooth n t
  if bad && decide (s.trk n = ssPhased) && !(s.is (Reg.WRP_MODE_CAM_RETAIN n) && !s.rockingSpeed n) then
    (s.toothError n m).fault n t (some t) true
  else
    let s := if bad then s.fault n t (some t) true else s
    let s := if returns then s.ownReturn n t else s
    let s := s.advance n t
    let s := s.set (Reg.WRP_SYNC_TOOTH n) (s.cycleIndex n p)
    (s.predictTooth n k m t ins mark).monitorCompare n t

/-- What an edge at a known position is (Table 3.2). -/
inductive KnownEdge where
  | noise
  | tooth
  | missed
  | mark
  | sub
  | fault
deriving DecidableEq, Repr

/-- The predicted per-pitch period (R140, R197). -/
def State.predicted (s : State) (n : Nat) : Nat :=
  match (s.wp n).own with
  | some u => u.period / u.nspan
  | none => (s.wp n).per

/-- Table 3.2 for an interval `m` after position `p`; the first row that matches decides. -/
def State.knownRow (s : State) (n p m : Nat) : KnownEdge :=
  let w := s.wp n
  let pp := s.predicted n
  let nxt := s.posAfter n p (s.spanFrom n p)
  let mlo := s.get (Reg.WRP_ACC1_MLO n)
  let mhi := s.get (Reg.WRP_ACC1_MHI n)
  let qlo := s.get (Reg.WRP_ACC0_QLO n)
  if m < 22857 then .noise
  else match s.markAt n nxt with
    | some k =>
      let qm := if k.extra then ratioQ (m * (k.len + 1)) pp else ratioQ m ((k.len + 1) * pp)
      if qm < qlo then .noise
      else if mlo ≤ qm ∧ qm < mhi then (if k.extra && decide (w.sub < k.len) then .sub else .mark)
      else .fault
    | none =>
      let q := ratioQ m pp
      let nn := s.posAfter n nxt 1
      if q < qlo then .noise
      else if q < s.get (Reg.WRP_ACC0_QHI n) then .tooth
      else if s.get (Reg.WRP_ACC0_MISS_LO n) ≤ q ∧ q < s.get (Reg.WRP_ACC1_MISS_HI n)
          ∧ s.is (Reg.WRP_MODE_MISS_INS n) = true ∧ s.spanFrom n nxt = 1 ∧ (s.markAt n nn).isNone = true
          ∧ (w.inserted = false ∨ nxt = 0 ∨ nn = 0) then .missed
      else .fault

/-- An edge in GAP_FOUND, CRANK_SYNC or PHASED, foreground or background (R143). -/
def State.knownEdge (s : State) (n p : Nat) (t : Word) : State :=
  let w := s.wp n
  let m := elapsed (s.lastEdge n) t
  let span := s.spanFrom n p
  let nxt := s.posAfter n p span
  let s := s.set (Reg.WRP_PER_Q n) (ratioQ m (s.predicted n))
  match s.knownRow n p m with
  | .noise => s.noiseEdge n
  | .tooth => s.accept n nxt 1 m m t false false (decide (nxt = 0))
  | .missed =>
    let nn := s.posAfter n nxt 1
    (s.inc (Reg.WRP_CNT0_MISSED n)).accept n nn 2 m (m / 2) t true false (decide (nxt = 0 ∨ nn = 0))
  | .mark =>
    let extra := decide (span = 1)
    let tot := w.subSum + m
    s.accept n nxt span tot (if extra then tot else m / span) t false true (decide (nxt = 0))
  | .sub =>
    (s.setReg (Reg.WRP_EDGE_addr n) t).setWp n
      { w.tookPeak with sub := w.sub + 1, subSum := w.subSum + m, stallBase := some t }
  | .fault => s.fault n t (some t) false

/-! ### Edges in the hunt -/

/-- A position is identified at a tooth: the last interval spanned `k` pitches and `m` LSB (R150, R151, R163, R208). -/
def State.identified (s : State) (n p k m : Nat) (t : Word) (mark : Bool) : State :=
  let w := s.wp n
  let rev := decide (s.sync n = ssReverse) || s.is (Reg.WRP_SYNC_REV_PEND n)
  let s := s.setWp n { w with
    pos := some p, track := rev, rev := 0, par := 0, live0 := true, live1 := true, known := false, restart := false
    seen := [], inserted := false, gapn := if mark then 0 else 1, sinceMark := if mark then 0 else 1
    confArm := rev, revs := [], revStart := none, ivCur := [], ivPrev := [], dirty := false, noisy := false }
  let a := s.absAngle n
  let s := s.setWp n { s.wp n with a0 := a, aLast := a }
  let s := s.set (Reg.WRP_SYNC_TOOTH n) (s.cycleIndex n p)
  let s := if rev then s else s.goTrk n ssGapFound t
  s.predictTooth n k m t false mark

/-- An accepted tooth of the hunt, already counted: identification, mismatch, or tracking in REVERSE (R150, R176). -/
def State.huntAccepted (s : State) (n k m : Nat) (t : Word) (cand mark : Bool) : State :=
  let w := s.wp n
  if w.cands = [] then s
  else match s.hypotheses n with
    | [] => s.huntRestart n t
    | [j] =>
      let p := s.hypPosition n j
      if w.track then
        let s := s.setWp n { w with
          pos := some p, rev := if p < w.pos.getD 0 then w.rev + 1 else w.rev
          sinceMark := if mark then 0 else w.sinceMark + 1, confArm := w.confArm || mark }
        let s := s.set (Reg.WRP_SYNC_TOOTH n) (s.cycleIndex n p)
        s.predictTooth n k m t false mark
      else if cand then s.identified n p k m t mark
      else s
    | _ => s

/-- Registers of an accepted edge of the hunt, with its per-pitch period. -/
def State.huntTake (s : State) (n per : Nat) (t : Word) (f : Warp → Warp) : State :=
  let w := s.wp n
  ((s.setReg (Reg.WRP_EDGE_addr n) t).showPeriod n per).setWp n
    (f { w.tookPeak with per, nper := w.nper + 1, stallBase := some t, stallP := some per, sub := 0, subSum := 0 })

/-- A mark candidate joins the list (R150). -/
def Warp.addCand (w : Warp) (extra : Bool) (len after : Nat) : Warp :=
  { w with cands := w.cands ++ [⟨extra, len, w.count + 1⟩], count := after }

/-- An edge in HUNT or REVERSE that no run of sub-periods precedes (R149); in the background HUNT of LIMP and BORROWED P is the last accepted
period, too (R140, log entry 134). `sub`: it may begin such a run. -/
def State.huntOne (s : State) (n : Nat) (t : Word) (sub : Bool) : State :=
  let w := s.wp n
  if !w.hasRef then s.restartHunt n (some t)
  else
    let m := elapsed (s.lastEdge n) t
    let s := if w.per = 0 then s else s.set (Reg.WRP_PER_Q n) (ratioQ m w.per)
    if m < 22857 then s.noiseEdge n
    else if w.nper = 0 then s.huntTake n m t (fun w => { w with count := w.count + 1 })
    else
      match s.huntRow n m sub with
      | .gap l => (s.huntTake n (m / (l + 1)) t (fun w => w.addCand false l 0)).huntAccepted n (l + 1) m t true true
      | .sub l => s.setWp n { w with subLen := l, subEdges := [(t, w.vrEdge)] }
      | .tooth =>
        (s.huntTake n m t (fun w => { w with count := w.count + 1 })).huntAccepted n 1 m t false false
      | .firstGap l => (s.huntTake n m t (fun w => { w with cands := [⟨false, l, 0⟩], count := 1 })).huntAccepted n 1 m t true false
      | .noise => s.noiseEdge n
      | .restart => s.huntRestart n t

/-- The edge at `t` after a run of sub-periods that has begun: its interval ends one more, or is noise by R135; none when it breaks the run
off (R149). The last sub-period makes the candidate. -/
def State.huntRun (s : State) (n : Nat) (t : Word) : Option State :=
  let w := s.wp n
  match w.subEdges.getLast? with
  | none => none
  | some (t0, _) =>
    let m := elapsed t0 t
    if m < 22857 then some (s.noiseEdge n)
    else if (s.extraFit n m w.per w.subLen).isNone then none
    else if w.subEdges.length = w.subLen then
      let tot := elapsed (s.lastEdge n) t
      some ((s.huntTake n tot t (fun w => { w.addCand true w.subLen 0 with subEdges := [] })).huntAccepted n 1 tot t true true)
    else some (s.setWp n { w with subEdges := w.subEdges ++ [(t, w.vrEdge)] })

/-- An edge of a run that was broken off is classified anew: when it is noise, the pulse of its HALL_DIR input was no tooth's, and the pulse
that is active now is another's (R145, R176). -/
def State.huntAnew (s : State) (n : Nat) (e : Word × Nat) (sub : Bool) : State :=
  let w := s.wp n
  let x := (s.setWp n { w with vrEdge := e.2, pulseNoise := false }).huntOne n e.1 sub
  let y := x.wp n
  x.setWp n { y with pulseNoise := w.pulseNoise, vrEdge := w.vrEdge, fwdRun := if y.pulseNoise then y.fwdRun - 1 else y.fwdRun }

/-- Edges in the hunt, oldest first, the last one that of now: a run of sub-periods that one of them breaks off leaves the edges of the run to
the other rows of Table 3.4, the first of them at once (R149). -/
def State.huntEdges (n : Nat) : (fuel : Nat) → List (Word × Nat) → (sub : Bool) → State → State
  | 0, _, _, s => s
  | _ + 1, [], _, s => s
  | fuel + 1, e :: es, sub, s =>
    let run := (s.wp n).subEdges
    if run = [] then
      State.huntEdges n fuel es true (if es = [] then s.huntOne n e.1 sub else s.huntAnew n e sub)
    else match s.huntRun n e.1 with
      | some x => State.huntEdges n fuel es true x
      | none => State.huntEdges n fuel (run ++ e :: es) false (s.setWp n { s.wp n with subEdges := [] })

/-- An edge in HUNT or REVERSE (R149). A run holds at most three edges. -/
def State.huntEdge (s : State) (n : Nat) (t : Word) : State := State.huntEdges n 16 [(t, (s.wp n).vrEdge)] true s

/-! ### Stall (R158 to R160, R182) -/

/-- Crank Warp `n` stalls at `t` (R159, R168, R212); a stall in the background of LIMP or BORROWED only restarts the hunt. -/
def State.stall (s : State) (n : Nat) (t : Word) : State :=
  let k := s.sync n
  let s := if n = s.primary ∧ (s.wp n).own.isSome then s.inc (Reg.WFT_CNT_COASTX 0) else s
  if n = s.primary ∧ (k = ssCrankSync ∨ k = ssPhased) then s.lostCrank n t none true
  else if s.away n then (s.restartHunt n none).set (Reg.WRP_SYNC_BG n) ssHunt
  else (s.stallReset n).goFrom n ssStall t (s.toothIdx n)

/-- An edge of crank Warp `n` that passed the filter, stamped `t`. An edge at or after the expiry of the stall timeout arrives
after it (R160). -/
def State.crankEdge (s : State) (n : Nat) (t : Word) : State :=
  if n = 1 ∧ s.primary = 0 ∧ s.get (Reg.WRP_MODE_CRK_MODE 1) = 0 then s
  else if s.sync n = ssOff then s
  else
    let s := match (if s.sync n = ssStall then none else s.stallBy n t) with
      | some e => s.stall n e
      | none => s
    if s.sync n = ssStall then (s.restartHunt n (some t)).goState n ssHunt t
    else match (s.wp n).pos with
      | some p => if (s.wp n).track then s.huntEdge n t else s.knownEdge n p t
      | none => s.huntEdge n t

/-! ### Cam Warps (R178 to R182) -/

/-- The span before cam edge `k`, as coarse angle (R179). -/
def State.camSpan (s : State) (n k : Nat) : Nat :=
  let l := s.posn n
  let a := fun j => s.get (Reg.WRP_CAME_ANGLE n (j % l))
  if l ≤ 1 then 2 ^ 32 else (a k + 2 ^ 32 - a (k + l - 1)) % 2 ^ 32

/-- r of R179 for edge `k` after edge `k` − 1. -/
def State.camRatio (s : State) (n k iv ivPrev : Nat) : Nat :=
  ratioQ (iv * s.camSpan n (k + s.posn n - 1)) (ivPrev * s.camSpan n k)

/-- An accepted edge of a cam Warp, with its interval; the interval that R182 predicts in SEEK is the last one (log entry 159). -/
def State.camTake (s : State) (n iv : Nat) (t : Word) (st : Nat) (cand : List Nat) : State :=
  let w := s.wp n
  let s := ((s.setReg (Reg.WRP_EDGE_addr n) t).showPeriod n iv).set (Reg.WRP_SYNC_CAMST n) st
  let k := cand.headD 0
  let pred := if st = 2 then iv * s.camSpan n (k + 1) / s.camSpan n k else iv
  let s := s.set (Reg.WRP_SYNC_TOOTH n) (if st = 2 then k else 0xFFF)
  s.setWp n { w.tookPeak with camIv := iv, camCand := cand, camEdge := k, stallBase := some t, stallP := some pred }

/-- The secondary Weft's update from the limp cam (R200, R230). -/
def State.limpUpdate (s : State) (n iv : Nat) (t : Word) : State :=
  let k := (s.wp n).camEdge
  let next := s.camSpan n (k + 1)
  let f := s.wf 1
  let u : Update :=
    { tidx := 0x800 + k, src := 3, mode := false, ins := false, mark := false, half := false, step := f.switched, nspan := 1
      time := t, angle := s.reg (Reg.WRP_CAME_addr n k), dang := next * 2 ^ 16
      period := satU 32 (iv * next / s.camSpan n k), slope := 0 }
  let s := match f.formed.getLast? <|> f.last with
    | some v => s.weftError 1 v iv
    | none => s
  s.setWf 1 { f with formed := f.formed ++ [u], switched := false }

/-- The LIMP_CAM Warp is lost while the unit limps on it (R171). -/
def State.limpLost (s : State) (n : Nat) (t : Word) : State :=
  if s.sync s.primary = ssLimp ∧ n = 2 + s.get (Reg.WRP_MODE_LIMP_CAM s.primary) then s.sourceLost t else s

/-- The crank Warps judge an edge of their PHASE_CAM Warp. -/
def State.camToCranks (s : State) (n : Nat) (t : Word) : State :=
  [0, 1].foldl (fun s k =>
    if s.hasTile 1 k ∧ n = 2 + s.get (Reg.WRP_MODE_PHASE_CAM k) then s.phaseEdge k t else s) s

/-- The stall timeout of cam Warp `n` has expired: NONE, and the next edge is a reference (R182). -/
def State.camStall (s : State) (n : Nat) (t : Word) : State :=
  let s := ((s.inc (Reg.WRP_CNT1_STALLS n)).set (Reg.WRP_SYNC_CAMST n) 0).set (Reg.WRP_SYNC_TOOTH n) 0xFFF
  let s := s.setWp n { s.wp n with
    hasRef := false, stallBase := none, stallP := none, camCand := [], vrPeak := 4 * s.get (Reg.WRP_CFG_VR_MIN n) }
  s.limpLost n t

/-- A cam edge in LOCKED or SEEK (R179 to R181); true when it was noise. WRPn_PER.Q shows r of the edges of LOCKED (log entry
128). A SEEK that no index fits any more begins anew (log entry 158). -/
def State.camInterval (s : State) (n : Nat) (t : Word) : State × Bool :=
  let w := s.wp n
  let l := s.posn n
  let iv := elapsed (s.lastEdge n) t
  let mlo := s.get (Reg.WRP_ACC1_MLO n)
  let mhi := s.get (Reg.WRP_ACC1_MHI n)
  let fits := fun r => decide (mlo ≤ r ∧ r < mhi)
  if iv < 22857 then (s.noiseEdge n, true)
  else if s.get (Reg.WRP_SYNC_CAMST n) = 0 then (s.camTake n iv t 1 (List.range l), false)
  else if s.get (Reg.WRP_SYNC_CAMST n) = 1 then
    let cand := (w.camCand.map (fun j => (j + 1) % l)).filter (fun k => fits (s.camRatio n k iv w.camIv))
    match cand with
    | [] => (s.camTake n iv t 1 (List.range l), false)
    | [k] => (s.camTake n iv t 2 [k], false)
    | ks => (s.camTake n iv t 1 ks, false)
  else
    let k := (w.camEdge + 1) % l
    let r := s.camRatio n k iv w.camIv
    let s := s.set (Reg.WRP_PER_Q n) r
    if r < s.get (Reg.WRP_ACC0_QLO n) then (s.noiseEdge n, true)
    else if fits r then (s.camTake n iv t 2 [k], false)
    else (((s.inc (Reg.WRP_CNT1_CAMF n)).camTake n iv t 1 (List.range l)).limpLost n t, false)

/-- An edge of cam Warp `n` that passed the filter, stamped `t`; one at or after the expiry of its stall timeout comes after it. -/
def State.camEdge (s : State) (n : Nat) (t : Word) : State :=
  let s := match s.stallBy n t with
    | some e => s.camStall n e
    | none => s
  let w := s.wp n
  if !w.hasRef then
    (((s.setReg (Reg.WRP_EDGE_addr n) t).setWp n
      { w.tookPeak with hasRef := true, stallBase := some t, stallP := none })).camToCranks n t
  else
    let (s, noise) := s.camInterval n t
    if noise then s
    else
      let s := s.camToCranks n t
      if s.sync s.primary = ssLimp ∧ n = 2 + s.get (Reg.WRP_MODE_LIMP_CAM s.primary)
          ∧ s.get (Reg.WRP_SYNC_CAMST n) = 2 then
        s.limpUpdate n (s.wp n).camIv t
      else s

/-! ### Transitions and timers -/

/-- Pulses from the last normal tooth before the last mark to the last tooth: extra teeth of the mark count (R176). -/
def State.markPulses (s : State) (n : Nat) : Nat :=
  let w := s.wp n
  let p := (w.pos.getD 0 + s.posn n - w.sinceMark % s.posn n) % s.posn n
  w.sinceMark + 2 + (match s.markAt n p with
    | some k => if k.extra then k.len else 0
    | none => 0)

/-- Forward rotation confirmed by the direction code across a mark (R176). -/
def State.confirmByCode (s : State) (n : Nat) (t : Word) : State :=
  let w := s.wp n
  if n < 2 ∧ w.track = true ∧ s.get (Reg.WRP_MODE_GAP_CHECK n) ≤ w.sinceMark ∧ s.markPulses n ≤ w.fwdRun then
    let s := s.setWp n { w with track := false, confArm := false, gapn := w.sinceMark, aLast := s.absAngle n }
    (s.set (Reg.WRP_SYNC_REV_PEND n) 0).goState n ssGapFound t
  else s

/-- The pulse of a HALL_DIR input ends at `t`: its width code (R125, R126). -/
def State.pulseEnd (s : State) (n : Nat) (t : Word) : State :=
  let w := s.wp n
  match w.pulse with
  | none => s
  | some t0 =>
    let width := elapsed t0 t
    let short := decide (width < 80 * s.get (Reg.WRP_DIR_DIR_MIN n))
    let fwd := !short && decide (width < 80 * s.get (Reg.WRP_DIR_DIR_SPLIT n))
    let s := if short then s.inc (Reg.WRP_CNT2_WIDTH_ERR n) else s
    let run := if !fwd then 0 else if w.pulseNoise then w.fwdRun else w.fwdRun + 1
    let s := s.setWp n { w with pulse := none, pulseRev := false, pulseErr := false, fwdRun := run }
    s.confirmByCode n t

/-- A validated output change of Warp `n` at `t`: an edge when the output becomes active (R123, R128, R134). -/
def State.outputChange (s : State) (n : Nat) (active : Bool) (t : Word) : State :=
  let dir := decide (s.get (Reg.WRP_CFG_TYPE n) = 2)
  let was := (s.wp n).level
  let s := (s.setWp n { s.wp n with level := active, pend := none }).set (Reg.WRP_SYNC_INIT n) 0
  if active = was then s
  else if active then
    let s := if dir then s.setWp n { s.wp n with pulse := some t, pulseNoise := false } else s
    if n < 2 then s.crankEdge n t else s.camEdge n t
  else if dir then s.pulseEnd n t
  else s

/-- A transition of the front-end output at `t`, into its filter (R128, R129, R132). -/
def State.transition (s : State) (n : Nat) (active : Bool) (t : Word) : State :=
  let w := s.wp n
  match w.pend with
  | some (lv, _) => if active = lv then s else s.setWp n { w with pend := none }
  | none =>
    if active = w.level ∧ ¬ s.is (Reg.WRP_SYNC_INIT n) then s
    else if s.filt n = 0 then s.outputChange n active t
    else s.setWp n { w with pend := some (active, t) }

/-- WHEEL_TRANSITION. A VR half-wave counts when its polarity is opposite to the active edge, and ends with the next active crossing (R118);
an active crossing uses the arming up, also when the filter rejects it (R119, R128; log entry 129). -/
def execWheelTransition (t : Word) (n : Fin 6) (w : WheelIn) (s : State) : Out :=
  let s := s.at t
  let x := s.wp n
  .next (if !s.wheelLive n then s
    else match w with
    | .level high =>
      if s.get (Reg.WRP_CFG_TYPE n) = 0 then s else s.transition n (high == s.is (Reg.WRP_CFG_EDGE n)) t
    | .vrPeak positive mV =>
      if s.get (Reg.WRP_CFG_TYPE n) = 0 ∧ positive ≠ s.is (Reg.WRP_CFG_EDGE n) then
        s.setWp n { x with vrNow := max x.vrNow mV, armed := x.armed || s.vrArms n mV }
      else s
    | .vrZero rising =>
      if s.get (Reg.WRP_CFG_TYPE n) ≠ 0 then s
      else if rising = s.is (Reg.WRP_CFG_EDGE n) then
        if x.armed then (s.setWp n { x with armed := false, vrNow := 0, vrEdge := x.vrNow }).transition n true t
        else s.setWp n { x with vrNow := 0 }
      else if x.level || x.pend.isSome then s.transition n false t else s)

/-- EDGE_FILTER_EXPIRY: the output has held its new level for FILT (R12, R128, R134). -/
def execEdgeFilterExpiry (t : Word) (n : Fin 6) (s : State) : Out :=
  let s := s.at t
  .next (match (s.wp n).pend with
    | some (lv, t0) => if s.running ∧ s.filt n ≤ elapsed t0 t then s.outputChange n lv t0 else s
    | none => s)

/-- DIR_SPLIT_EXPIRY: the pulse is still active DIR_SPLIT after its leading edge (R124, R172). -/
def execDirSplitExpiry (t : Word) (n : Fin 6) (s : State) : Out :=
  let s := s.at t
  let w := s.wp n
  .next (match w.pulse with
    | some t0 =>
      if s.running ∧ ¬ w.pulseRev ∧ w.pulseLasts t0 t (80 * s.get (Reg.WRP_DIR_DIR_SPLIT n)) then
        let s := s.setWp n { w with pulseRev := true, fwdRun := 0 }
        if n.val < 2 ∧ s.sync n ≠ ssOff then s.declareReverse n (addW t0 (80 * s.get (Reg.WRP_DIR_DIR_SPLIT n))) none else s
      else s
    | none => s)

/-- DIR_MAX_EXPIRY: the pulse is still active at DIR_MAX (R126). -/
def execDirMaxExpiry (t : Word) (n : Fin 6) (s : State) : Out :=
  let s := s.at t
  let w := s.wp n
  .next (match w.pulse with
    | some t0 =>
      if s.running ∧ ¬ w.pulseErr ∧ w.pulseLasts t0 t (80 * s.get (Reg.WRP_DIR_DIR_MAX n)) then
        (s.inc (Reg.WRP_CNT2_WIDTH_ERR n)).setWp n { w with pulseErr := true }
      else s
    | none => s)

/-- STALL_TIMEOUT of a crank Warp; a reverse of the same instant takes its place (R156). -/
def execStallTimeout (t : Word) (n : Fin 2) (s : State) : Out :=
  let s := s.at t
  .next (if s.stallDue n && decide (s.sync n ≠ ssOff ∧ s.sync n ≠ ssStall) && !s.reverseNow n then s.stall n t else s)

/-- CAM_STALL_TIMEOUT of a cam Warp (R182). -/
def execCamStallTimeout (t : Word) (n : Fin 6) (s : State) : Out :=
  let s := s.at t
  .next (if s.stallDue n && decide (2 ≤ n.val) then s.camStall n t else s)

/-- Clears the counters of Warp `n`; an increment of this instant is counted after it (R186). -/
def State.warpClear (s : State) (n : Nat) : State :=
  s.clearCounts [Reg.WRP_CNT0_NOISE n, Reg.WRP_CNT0_MISSED n, Reg.WRP_CNT0_SYNCF n, Reg.WRP_CNT1_CAMF n, Reg.WRP_CNT1_STALLS n,
    Reg.WRP_CNT1_REVS n, Reg.WRP_CNT2_WIDTH_ERR n, Reg.WRP_CNT2_HRST n, Reg.WRP_CNT2_SWITCH n]

/-- WRP_CNT_CLR; refused while the Warp is not instantiated (R34). -/
def execWrpCntClr (t : Word) (n : Fin 6) (s : State) : Out :=
  let s := s.at t
  .next (if s.gone (Reg.WRP_CNT_CLR_addr n) then s.wrej else s.warpClear n)

end Sys2Proof.Machine
end

