-- ==== Sys2Proof/Machine/Shuttle.lean ====
section
/-!
DEFINITION. Scheduling events in degrees (05_angle_events): Shuttle windows and lists, starts, stops and end lock, what
the tokens do, gates and the angle grid, and the pulse outputs. A Shuttle commits a start by handing a request to its
bank; what the bank answers comes back through `pulseStarted` and its neighbours. Commands that stop a pulse at the bank
stand in Machine/Bank.lean.
-/
namespace Sys2Proof.Machine

def State.sh (s : State) (n : Nat) : Shuttle := vget s.shuttles n
def State.setSh (s : State) (n : Nat) (k : Shuttle) : State := { s with shuttles := vset s.shuttles n k }

/-- SHTn_CFG.FUNC codes (R237). -/
abbrev fnOff : Nat := 0
abbrev fnPulse : Nat := 1
abbrev fnGate : Nat := 2

/-- Degrees of an engine cycle (Table 0.5). -/
def State.cycleDeg (s : State) : Nat := if s.weave.twoStroke then 360 else 720

/-- LATE_TOL in angle counts (R286). -/
def State.lateTol (s : State) (n : Nat) : Nat :=
  (rdiv (s.get (Reg.SHT_LIM_LATE_TOL n) * W48) (64 * s.cycleDeg)).toNat

/-- HORIZON in LSB. -/
def State.horizon (s : State) (n : Nat) : Nat := s.get (Reg.SHT_LIM_HORIZON n) * 160

/-- The Shuttle serves its lists. -/
def State.serving (s : State) (n : Nat) : Bool := s.is (Reg.SHT_CTRL_EN n) && s.hasTile 3 n

/-- The K of the Weft that issued an update (R201). -/
def State.kOf (s : State) (u : Update) : Nat := s.wk (if u.src < 2 then 0 else 1)

/-- PROJ of a distance after the ANGLE of an update. -/
def State.projAt (s : State) (u : Update) (d : Int) : Proj := projDist (s.kOf u) s.coast u d

/-- The later of two time words (R25). -/
def laterOf (a b : Word) : Word := if notBefore a b then a else b

/-! ### Permission to start (R238 to R240) -/

/-- The speed of an update is below `rpm` (R239). -/
def State.speedBelow (s : State) (u : Update) (rpm : Nat) : Bool :=
  decide (u.dang * (s.cycleDeg / 360) * 96000000000 < rpm * W48 * u.period)

/-- Table 5.1 for a pulse KIND. -/
def State.kindAllowed (s : State) (n kind : Nat) : Bool :=
  let st := s.sync s.primary
  if st = ssPhased ∨ st = ssBorrowed then true
  else if st = ssCrankSync then decide (kind = 5)
  else if st = ssLimp then
    decide (kind = 5) || (decide (kind = 2) && match (s.sh n).prev with
      | some u => s.speedBelow u (10 * s.get (Reg.SHT_LIM_LIMP_RPM n))
      | none => false)
  else false

/-- Table 5.1 for a gate. -/
def State.gateAllowed (s : State) (n : Nat) : Bool :=
  let st := s.sync s.primary
  decide (st = ssPhased ∨ st = ssBorrowed ∨ st = ssLimp) || (decide (st = ssCrankSync) && s.is (Reg.SHT_CFG_HALF_OK n))

/-- The start angle's phase lies in the divergence timing window (R621). -/
def State.inDivWindow (s : State) (a : Word) : Bool :=
  let m := W48 / s.get (Reg.WFT_CTRL_FIRE_DIV 0)
  let phi := (sdiff (a - wordOf (m * rdiv a.toNat m)) 0) * (64 * s.cycleDeg)
  decide (s.getI Reg.PRX_WIN_DW_OPEN * W48 ≤ phi ∧ phi < s.getI Reg.PRX_WIN_DW_CLOSE * W48)

/-- The divergence state lets a start of KIND `kind` at angle `a` run (R621, Table 13.7). -/
def State.divAllows (s : State) (kind : Nat) (a : Word) : Bool :=
  let d := s.div
  if d = dvAgree then true
  else if d = dvSoft ∨ d = dvSole ∨ (d = dvSolo ∧ ¬ s.is Reg.PRX_CTRL_SOLO_FULL) then
    s.get Reg.PRX_WIN_DW_KIND / 2 ^ (4 - kind) % 2 == 1 && s.inDivWindow a
  else decide (d = dvSolo)

/-- The start that commits now may start (R238, R240). -/
def State.startAllowed (s : State) (n kind : Nat) (a : Word) : Bool :=
  s.kindAllowed n kind && (decide (kind = 5) || (!s.is Reg.OVS_STAT_CUT && s.divAllows kind a))

/-! ### What a Shuttle shows and counts -/

/-- The time word that SHTn_NEXT shows (Table 5.16). -/
def Shuttle.nextTime (k : Shuttle) : Word :=
  match k.pulse, k.gate with
  | some p, _ => if p.started then p.stop else p.start
  | none, some g =>
    if g.opened then
      match g.close, g.tickAt with
      | some c, some t => if notBefore c t then t else c
      | some c, none => c
      | none, some t => t
      | none, none => 0
    else g.at_
  | none, none => match k.cand with
    | some (t, _) => t
    | none => 0

/-- SHTn_STAT.STATE, Table 5.15. -/
def State.shtCode (s : State) (n : Nat) : Nat :=
  let k := s.sh n
  match k.pulse, k.gate with
  | some p, _ => if p.started then 5 else 4
  | none, some g => if g.opened then 6 else 4
  | none, none =>
    if !s.serving n || !s.running || decide (s.get (Reg.SHT_CFG_FUNC n) = fnOff) then 0
    else if k.cur.isNone then 1 else if k.cand.isSome then 3 else 2

/-- Shows STATE, CUR and NEXT. -/
def State.shtShow (s : State) (n : Nat) : State :=
  let k := s.sh n
  let cur := match k.pulse, k.gate with
    | some p, _ => p.idx
    | none, some g => g.idx
    | none, none => k.cur.getD 0
  ((s.set (Reg.SHT_STAT_STATE n) (s.shtCode n)).set (Reg.SHT_STAT_CUR n) cur).setReg (Reg.SHT_NEXT_addr n) k.nextTime

/-- The causes of Table 5.6. -/
abbrev skLate : Nat := 1
abbrev skState : Nat := 2
abbrev skCancel : Nat := 3
abbrev skListErr : Nat := 4
abbrev skDropOff : Nat := 5
abbrev skCut : Nat := 6

/-- Counts in `f`, records and reports the skip, drop or cancellation of entry `i` (R271, Table 5.17). -/
def State.shtSkipAs (s : State) (n i cause : Nat) (f : Fld) : State :=
  let s := ((s.inc f).set (Reg.SHT_LSTAT_CAUSE n) cause).set (Reg.SHT_LSTAT_CENTRY n) i
  if s.is (Reg.SHT_CFG_REP_SKIP n) then s.report 3 n 3 (i * 2 ^ 37 + cause * 2 ^ 32) (some s.now) else s

/-- The counter of a cause (Table 5.18). -/
def skipCounter (n cause : Nat) : Fld :=
  if cause = skLate then Reg.SHT_CNT0_SKIP_LATE n
  else if cause = skState then Reg.SHT_CNT0_SKIP_STATE n
  else if cause = skCancel then Reg.SHT_CNT0_CANCEL n
  else if cause = skListErr then Reg.SHT_CNT1_LISTERR n
  else if cause = skDropOff then Reg.SHT_CNT1_DROP_OFF n
  else Reg.SHT_CNT2_CUT n

def State.shtSkip (s : State) (n i cause : Nat) : State := s.shtSkipAs n i cause (skipCounter n cause)

/-! ### Lists (R241 to R249) -/

/-- Reads entry `m` of page `g` (Tables 5.2, 5.3). -/
def State.listEntry (s : State) (n g m : Nat) : ListEntry :=
  let a := 0x2000 + 32 * n + 16 * g + 2 * m
  let w := (s.workGet (a + 1)).toNat
  { ang := s.workGet a, len := bitsOf w 16 32, kind := bitsOf w 13 3, bank := bitsOf w 9 4, ch := bitsOf w 7 2
    lock := decide (bitsOf w 6 1 = 1) }

/-- R248: the entry is in error. -/
def State.entryBad (s : State) (n : Nat) (e : ListEntry) : Bool :=
  if s.get (Reg.SHT_CFG_FUNC n) = fnGate then decide (1 < e.kind ∨ e.len = 0)
  else decide (5 < e.kind ∨ e.len = 0 ∨ 11 < e.bank) || !s.hasTile 4 e.bank

/-- Copies page `g` into the internal list (R244, R248). -/
def State.copyPage (s : State) (n g : Nat) : State :=
  let es := (List.range 8).map (fun m => s.listEntry n g m)
  let keep := fun (e : ListEntry) => if e.kind = 0 || s.entryBad n e then none else some e
  let s' := s.setSh n { s.sh n with list := es.map keep }
  es.zipIdx.foldl (fun x (e, m) => if e.kind ≠ 0 ∧ s.entryBad n e then x.shtSkip n m skListErr else x) s'

/-- Cancels the current entry and every later one not yet served (R253, R272). -/
def State.cancelRest (s : State) (n : Nat) : State :=
  let k := s.sh n
  let rest := (List.range 8).filter (fun m => decide (k.next ≤ m) && (k.list.getD m none).isSome)
  let s := s.setSh n { k with cur := none, cand := none, next := 8 }
  (k.cur.toList ++ rest).foldl (fun s m => s.shtSkip n m skCancel) s

/-! ### Starts (R256 to R261) -/

/-- The request of an entry's start leaves for its bank (R60, R261). -/
def State.sendRequest (s : State) (n i : Nat) (e : ListEntry) (t : Word) : State :=
  let b := s.bk e.bank
  let r : Request :=
    { sht := n, idx := i, ch := e.ch, kind := e.kind, time := t, commit := s.now, placed := false, waiting := false }
  s.setBk e.bank { b with reqs := b.reqs ++ [r], commitAt := some s.now }

/-- The current entry's start at `t` commits, or is refused; the answer says whether the entry is done with (R240,
R261). -/
def State.commitStart (s : State) (n i : Nat) (e : ListEntry) (t a : Word) (late : Nat) : State × Bool :=
  if s.startAllowed n e.kind a then
    let k := s.sh n
    let p : Pulse := { idx := i, ent := e, late, started := false, start := t, stop := t, stopDone := false }
    let s := s.setSh n { k with cur := none, cand := none, pulse := some p }
    (s.sendRequest n i e t, false)
  else (s.shtSkip n i skState, true)

/-- The start angle A_S (R257); a rate of 0 leaves the quotient unstated, and it is a free value (log entry 40). -/
def State.startAngle (s : State) (u : Update) (e : ListEntry) : Word × State :=
  let rate2 := 2 * (u.period : Int) + u.slope
  if rate2 = 0 then s.free else (e.ang - wordOf (roundUp (((2 * e.len * u.dang : Nat) : Rat) / rate2)), s)

/-- A start whose angle was passed `late` LSB ago commits at once within LATE_TOL, else its entry is skipped (R258 to
R260). -/
def State.latePulse (s : State) (n i : Nat) (e : ListEntry) (a : Word) (late : Nat) : State × Bool :=
  if late ≤ s.lateTol n then s.commitStart n i e s.now a late else (s.shtSkip n i skLate, true)

/-- Finds the start of the current entry `i` from update `u` (R258 to R261). -/
def State.aimPulse (s : State) (n i : Nat) (e : ListEntry) (u : Update) : State × Bool :=
  let r := s.startAngle u e
  let a := r.1
  let s := r.2
  match s.projAt u (sdiff a u.angle) with
  | .wait => (s, false)
  | .past l => s.latePulse n i e a l
  | .at t =>
    if sdiff t s.now < 0 then s.latePulse n i e a (sdiff (angleIn (s.kOf u) s.coast u s.now) a).toNat
    else if elapsed s.now t < s.horizon n then s.commitStart n i e t a 0
    else (s.setSh n { s.sh n with cand := some (t, a) }, false)

/-! ### Gates (R275 to R280) -/

/-- LEN and STEP in angle counts. -/
def Gate.len (g : Gate) : Nat := g.ent.len * 65536
def State.gateStep (s : State) (n : Nat) : Nat := s.get (Reg.SHT_GATE_STEP n) * 65536

/-- Sends a token to the sequencer that SHTn_GATE.SEQ names. -/
def State.sendTok (s : State) (n : Nat) (k : GateTok) : State :=
  let q := s.get (Reg.SHT_GATE_SEQ n)
  { s with seqTok := vset s.seqTok q (vget s.seqTok q ++ [k]) }

/-- Where an edge that PROJ gives falls: its instant and whether it is already past (R258). -/
def State.placed (s : State) (u : Update) (d : Int) : Option (Word × Bool) :=
  match s.projAt u d with
  | .wait => none
  | .past _ => some (s.now, true)
  | .at t => if sdiff t s.now < 0 then some (s.now, true) else some (t, false)

/-- Plans the closing (R275); the distance to CLOSE is LEN less the angle passed since OPEN. -/
def State.planClose (s : State) (n : Nat) (u : Update) (g : Gate) : State :=
  if g.closeDone then s
  else s.setSh n { s.sh n with gate := some { g with close := (s.placed u (g.len - g.gone)).map (·.1) } }

/-- Plans the next tick (R277 to R279). -/
def State.planTick (s : State) (n : Nat) (u : Update) : State :=
  let k := s.sh n
  match k.gate with
  | none => s
  | some g =>
    let st := s.gateStep n
    if g.tickDone || decide (st = 0 ∨ g.len ≤ g.tick * st) then s
    else
      let (at_, late) := match s.placed u (g.tick * st - g.gone) with
        | none => (none, false)
        | some (t, past) => match k.lastTick with
          | none => (some t, past)
          | some l => if elapsed l t < 800 then (some (addW l 800), true) else (some t, past)
      s.setSh n { k with gate := some { g with tickAt := at_, tickLate := late } }

/-- A gate opens at `t` (R275 to R278). -/
def State.openGate (s : State) (n : Nat) (g : Gate) (t : Word) (u : Update) : State :=
  let gone := sdiff u.angle g.ent.ang
  let st := s.gateStep n
  let passed := (sdiff (angleIn (s.kOf u) s.coast u s.now) g.ent.ang).toNat
  let k0 := if g.late ∧ 0 < st then min (ceilDiv passed st) (ceilDiv g.len st) else 0
  let g := { g with opened := true, at_ := t, gone, tick := k0, omitted := k0 }
  let s := (s.setSh n { s.sh n with gate := some g }).setReg (Reg.SHT_LAST_addr n) t
  let s := s.periodRise n
  let s := if g.late then s.inc (Reg.SHT_CNT3_GATE_LATE n) else s
  let s := s.sendTok n (.opening n t)
  let s := if s.is (Reg.SHT_CFG_REP_START n) then
      s.report 3 n 4 (g.idx * 2 ^ 37 + (if g.late then 2 ^ 36 else 0)) (some t) else s
  (s.planClose n u g).planTick n u

/-- A gate closes at `t` (R280). -/
def State.closeGate (s : State) (n : Nat) (g : Gate) (incomplete : Bool) (t : Word) : State :=
  let s := s.setSh n { s.sh n with gate := none, sigEnd := some s.now }
  let s := if incomplete then s.inc (Reg.SHT_CNT3_INCOMPLETE n) else s
  let s := (s.sendTok n (.closing n g.issued g.omitted g.late incomplete t)).dmaPulse 6 n t
  if s.is (Reg.SHT_CFG_REP_STOP n) then
    s.report 3 n 5 (g.idx * 2 ^ 37 + (if g.late then 2 ^ 36 else 0) + (if incomplete then 2 ^ 35 else 0)
      + g.issued % 65536) (some t)
  else s

/-- A gate of entry `i` that has not opened. -/
def newGate (i : Nat) (e : ListEntry) (t : Word) (late : Bool) : Gate :=
  { idx := i, ent := e, opened := false, at_ := t, late, gone := 0, close := none, closeDone := false, tick := 0
    tickAt := none, tickDone := false, tickLate := false, issued := 0, omitted := 0 }

/-- The current entry's opening at `t` commits, or is refused (R238, R240, R275). -/
def State.commitGate (s : State) (n i : Nat) (e : ListEntry) (t : Word) : State × Bool :=
  if s.gateAllowed n then
    (s.setSh n { s.sh n with cur := none, cand := none, gate := some (newGate i e t false) }, false)
  else (s.shtSkip n i skState, true)

/-- Finds the opening of the current entry `i` from update `u` (R275, R276). -/
def State.aimGate (s : State) (n i : Nat) (e : ListEntry) (u : Update) : State × Bool :=
  match s.placed u (sdiff e.ang u.angle) with
  | none => (s, false)
  | some (t, false) =>
    if elapsed s.now t < s.horizon n then s.commitGate n i e t
    else (s.setSh n { s.sh n with cand := some (t, e.ang) }, false)
  | some (_, true) =>
    if (e.len * 65536 : Int) ≤ sdiff (angleIn (s.kOf u) s.coast u s.now) e.ang then
      (s.shtSkipAs n i skLate (Reg.SHT_CNT3_GATE_LATE n), true)
    else if s.gateAllowed n then
      let s := s.setSh n { s.sh n with cur := none, cand := none }
      (s.openGate n (newGate i e s.now true) s.now u, false)
    else (s.shtSkip n i skState, true)

/-! ### Serving the list (R249, R256) -/

/-- Makes entries current and aims them, until one is pending, committed or none is left. -/
def State.shtServe (n : Nat) : Nat → State → State
  | 0, s => s
  | fuel + 1, s =>
    let k := s.sh n
    if k.pulse.isSome || k.gate.isSome then s
    else match k.cur with
      | some i =>
        let s := s.setSh n { k with cand := none }
        match k.prev, k.list.getD i none with
        | some u, some e =>
          let r := if s.get (Reg.SHT_CFG_FUNC n) = fnGate then s.aimGate n i e u else s.aimPulse n i e u
          if r.2 then (r.1.setSh n { r.1.sh n with cur := none, cand := none }).shtServe n fuel else r.1
        | _, _ => s
      | none =>
        if 8 ≤ k.next then s
        else match k.list.getD k.next none with
          | none => (s.setSh n { k with next := k.next + 1 }).shtServe n fuel
          | some e =>
            let d := (e.ang - s.reg (Reg.SHT_LIST_addr n)).toNat
            if k.lastDist.any (fun l => decide (d ≤ l)) then
              ((s.setSh n { k with next := k.next + 1, lastDist := some d }).shtSkip n k.next skListErr).shtServe n fuel
            else (s.setSh n { k with next := k.next + 1, cur := some k.next, lastDist := some d }).shtServe n fuel

/-- Serves on, then shows. -/
def State.serve (s : State) (n : Nat) : State := (s.shtServe n 32).shtShow n

/-! ### Windows (R250 to R255) -/

/-- A window begins (R244 to R246, R250, R253). -/
def State.beginWindow (s : State) (n : Nat) : State :=
  let s := (s.cancelRest n).incMod (Reg.SHT_STAT_WINS n)
  let s :=
    if s.is (Reg.SHT_CTRL_READY n) ∧ (s.sh n).readyAt ≠ some s.now then
      let g := 1 - s.get (Reg.SHT_STAT_PAGE n)
      ((s.set (Reg.SHT_STAT_PAGE n) g).copyPage n g).set (Reg.SHT_CTRL_READY n) 0
    else s.inc (Reg.SHT_CNT2_STALE n)
  s.setSh n { s.sh n with advance := some 0, next := 0, cur := none, cand := none, lastDist := none }

/-- The Shuttle's timer signal ends at `t` when a started pulse ends (R417, Table 8.11). -/
def Shuttle.endPulse (k : Shuttle) (t : Word) : Shuttle :=
  match k.pulse with
  | some p => if p.started then { k with sigEnd := some t } else k
  | none => k

/-- Withdraws the Shuttle's requests from its banks. -/
def State.withdraw (s : State) (n : Nat) : State :=
  (List.range 12).foldl (fun s b => s.setBk b { s.bk b with reqs := (s.bk b).reqs.filter (fun r => decide (r.sht ≠ n)) }) s

/-- The window ends (R253, R272): pending entries are cancelled, an open gate closes early; `all`: what has committed is
cancelled too and an energised pulse is counted as cut. -/
def State.endWindow (s : State) (n : Nat) (all : Bool) : State :=
  let s := s.cancelRest n
  let k := s.sh n
  let s := match k.gate with
    | some g =>
      if g.opened then s.closeGate n g true s.now
      else if all then (s.setSh n { k with gate := none }).shtSkip n g.idx skCancel
      else s
    | none => s
  if all then
    match k.pulse with
    | some p =>
      let s := (s.setSh n { (s.sh n).endPulse s.now with pulse := none }).withdraw n
      s.shtSkip n p.idx (if p.started then skCut else skCancel)
    | none => s
  else s

/-! ### End lock and stops (R263 to R267) -/

/-- The time word that an end-locked pulse would stop at without the lock. -/
def Pulse.plain (p : Pulse) : Word := addW p.start p.ent.len

/-- End lock is in force for a pulse (R264). -/
def State.lockInForce (s : State) (p : Pulse) : Bool :=
  p.ent.lock && s.levelE && decide (s.sync s.primary = ssPhased ∨ s.sync s.primary = ssBorrowed)

/-- Recomputes the stop of the energised pulse (R263, R264). -/
def State.aimStop (s : State) (n : Nat) (u : Update) : State :=
  let k := s.sh n
  match k.pulse with
  | none => s
  | some p =>
    if !p.started || p.stopDone then s
    else if s.lockInForce p then
      match s.placed u (sdiff p.ent.ang u.angle) with
      | none => s
      | some (te, _) =>
        let x : Int := p.ent.len * s.get (Reg.SHT_LIM_ENDLOCK_MAX n) / 200
        let d := sdiff te p.plain
        let c := clampI (-x) (max (-x) (x - 1)) d
        let s := s.setSh n { k with pulse := some { p with stop := p.plain + wordOf c } }
        if c = d then s else s.inc (Reg.SHT_CNT2_CLAMP n)
    else s.setSh n { k with pulse := some { p with stop := laterOf p.plain (if p.stop = p.plain then p.plain else s.now) } }

/-- The stop commits: its correction is recorded (R265, R267). -/
def State.commitStop (s : State) (n : Nat) (p : Pulse) : State :=
  let s := s.setSh n { s.sh n with pulse := some { p with stopDone := true } }
  s.setI (Reg.SHT_LSTAT_ENDCORR n) (satS 16 (openRound ((sdiff p.stop p.plain : Rat) / 1000)))

/-! ### What a bank answers -/

/-- The pulse of Shuttle `n` is the entry `i` that a bank speaks of. -/
def State.pulseIs (s : State) (n i : Nat) (started : Bool) : Option Pulse :=
  (s.sh n).pulse.filter (fun p => decide (p.idx = i) && (p.started == started))

/-- The bank has started the pulse at `t` (R267, R270, R271, R300). -/
def State.pulseStarted (s : State) (n i : Nat) (t : Word) : State :=
  match s.pulseIs n i false with
  | none => s
  | some p =>
    let p := { p with started := true, start := t, stop := addW t p.ent.len }
    let s := ((s.setSh n { s.sh n with pulse := some p }).setReg (Reg.SHT_LAST_addr n) t).periodRise n
    let late := satUI 16 (openRound ((p.late * 64 * s.cycleDeg : Nat) / (W48 : Nat) : Rat))
    let s := s.set (Reg.SHT_LSTAT_LATE n) late
    let s := if s.is (Reg.SHT_CFG_REP_START n) then s.report 3 n 1 (i * 2 ^ 37) (some t) else s
    (s.fuelStarted p.ent.kind).shtShow n

/-- The bank has postponed the start to `t` (R268). -/
def State.pulsePostponed (s : State) (n i : Nat) (t : Word) : State :=
  match s.pulseIs n i false with
  | none => s
  | some p => ((s.setSh n { s.sh n with pulse := some { p with start := t } }).inc (Reg.SHT_CNT1_POSTPONE n)).shtShow n

/-- The pulse is over for the Shuttle; the next entry becomes current. -/
def State.pulseOver (s : State) (n : Nat) : State := (s.setSh n { (s.sh n).endPulse s.now with pulse := none }).serve n

/-- The bank has dropped the start; the bank counts it (R262, R305). -/
def State.pulseDropped (s : State) (n i : Nat) : State :=
  if (s.pulseIs n i false).isSome then s.pulseOver n else s

/-- The bank has cancelled the start, or dropped it by OFF_DROP (R268, Table 5.4). -/
def State.pulseCancelled (s : State) (n i cause : Nat) : State :=
  if (s.pulseIs n i false).isSome then (s.shtSkip n i cause).pulseOver n else s

/-- The bank has cut the energised pulse (Table 5.4). -/
def State.pulseCut (s : State) (n i : Nat) : State :=
  if (s.pulseIs n i true).isSome then (s.shtSkip n i skCut).pulseOver n else s

/-! ### Tooth updates -/

/-- Plans the open gate's edges anew. -/
def State.aimGateEdges (s : State) (n : Nat) (u : Update) : State :=
  match (s.sh n).gate with
  | some g => if g.opened then (s.planClose n u g).planTick n u else s
  | none => s

/-- The angle that the updates before `u` give for its TIME (R254, R698). -/
def State.angleBefore (s : State) (n : Nat) (old u : Update) : Word :=
  if notBefore u.time old.time then angleIn (s.kOf old) s.coast old u.time
  else match (s.sh n).prev2 with
    | some v => if notBefore u.time v.time then angleIn (s.kOf v) s.coast v u.time else v.angle
    | none => old.angle

/-- The jump J of an update with STEP = 1 lies in the tolerance (R254). -/
def State.jumpSmall (s : State) (n : Nat) (old u : Update) : Bool :=
  decide ((sdiff u.angle (s.angleBefore n old u)).natAbs ≤ s.lateTol n)

/-- An update crosses LIST_ANG forward and half a cycle has passed since the last window (R250, R251). -/
def State.crosses (s : State) (n : Nat) (old u : Update) : Bool :=
  let l := s.reg (Reg.SHT_LIST_addr n)
  decide (0 ≤ sdiff u.angle l ∧ sdiff old.angle l < 0)
    && (s.sh n).advance.all (fun a => decide (2 ^ 47 ≤ a))

/-- The Shuttle takes update `u` (R250 to R258, R264). -/
def State.shtUpdate (s : State) (n : Nat) (u : Update) : State :=
  let k := s.sh n
  let moved := match k.prev with
    | some o => sdiff u.angle o.angle
    | none => 0
  let s := s.setSh n { k with upd := none, prev := some u }
  let small := k.prev.any (fun o => s.jumpSmall n o u)
  let s := s.setSh n { s.sh n with
    prev2 := k.prev.filter (fun o => decide (o.src < 2 ↔ u.src < 2)), noWindow := !s.serving n, advance := k.advance.map (· + moved)
    gate := k.gate.map (fun g => { g with gone := g.gone + moved }) }
  if s.get (Reg.SHT_CFG_FUNC n) = fnOff then s
  else
    let s := match k.prev with
      | none => s
      | some o =>
        if k.noWindow || !s.serving n then s
        else if u.step && !small then s.endWindow n false
        else if s.crosses n o u then s.beginWindow n
        else s
    ((s.aimStop n u).aimGateEdges n u).serve n

/-- Some Shuttle of the weave has still to take the broadcast. -/
def State.updating (s : State) : Bool := (List.range 64).any (fun m => s.hasTile 3 m && (s.sh m).upd.isSome)

/-- SHUTTLE_TOOTH_UPDATE: a Shuttle takes the update that was broadcast (R256); the path from the tooth ends when the last one has
(Table 1.7). -/
def execShuttleToothUpdate (t : Word) (n : Fin 64) (s : State) : Out :=
  let s := s.at t
  .next (match (s.sh n).upd with
    | some u =>
      let s := s.shtUpdate n u
      if s.updating then s else s.latency Reg.SYS_LAT_TOOTH u.time
    | none => s)

/-- START_COMMIT: the candidate commits at HORIZON before it (R240, R261). -/
def execStartCommit (t : Word) (n : Fin 64) (s : State) : Out :=
  let s := s.at t
  let k := s.sh n
  .next (match k.cur, k.cand with
    | some i, some (c, a) =>
      match k.list.getD i none with
      | some e =>
        if s.get (Reg.SHT_CFG_FUNC n) = fnPulse ∧ k.pulse = none ∧ sdiff c t ≤ s.horizon n then
          let r := s.commitStart n i e c a 0
          if r.2 then (r.1.setSh n { r.1.sh n with cur := none, cand := none }).serve n else r.1.shtShow n
        else s
      | none => s
    | _, _ => s)

/-- STOP_COMMIT: the stop of the energised pulse commits at HORIZON before it (R265). -/
def execStopCommit (t : Word) (n : Fin 64) (s : State) : Out :=
  let s := s.at t
  .next (match (s.sh n).pulse with
    | some p =>
      if p.started ∧ ¬ p.stopDone ∧ sdiff p.stop t ≤ s.horizon n then s.commitStop n p else s
    | none => s)

/-! ### Gate commands -/

/-- GATE_OPEN_COMMIT: the opening commits at HORIZON before its instant (R238, R275). -/
def execGateOpenCommit (t : Word) (n : Fin 64) (s : State) : Out :=
  let s := s.at t
  let k := s.sh n
  .next (match k.cur, k.cand with
    | some i, some (c, _) =>
      match k.list.getD i none with
      | some e =>
        if s.get (Reg.SHT_CFG_FUNC n) = fnGate ∧ k.gate = none ∧ sdiff c t ≤ s.horizon n then
          let r := s.commitGate n i e c
          if r.2 then (r.1.setSh n { r.1.sh n with cur := none, cand := none }).serve n else r.1.shtShow n
        else s
      | none => s
    | _, _ => s)

/-- GATE_OPEN: the gate opens at its committed instant (R275). -/
def execGateOpen (t : Word) (n : Fin 64) (s : State) : Out :=
  let s := s.at t
  .next (match (s.sh n).gate, (s.sh n).prev with
    | some g, some u => if ¬ g.opened ∧ notBefore t g.at_ then (s.openGate n g g.at_ u).shtShow n else s
    | _, _ => s)

/-- GATE_CLOSE_COMMIT: the closing commits at HORIZON before its instant (R275). -/
def execGateCloseCommit (t : Word) (n : Fin 64) (s : State) : Out :=
  let s := s.at t
  .next (match (s.sh n).gate with
    | some g =>
      if g.opened ∧ g.close.any (fun c => decide (sdiff c t ≤ s.horizon n)) then
        (s.setSh n { s.sh n with gate := some { g with closeDone := true } }).shtShow n
      else s
    | none => s)

/-- GATE_CLOSE: the gate closes at its placed instant and the next entry becomes current (R280). -/
def execGateClose (t : Word) (n : Fin 64) (s : State) : Out :=
  let s := s.at t
  .next (match (s.sh n).gate with
    | some g => match g.close with
      | some c => if g.opened ∧ notBefore t c then (s.closeGate n g false c).serve n else s
      | none => s
    | none => s)

/-- GRID_TICK_COMMIT: a tick commits at HORIZON before its instant (R277). -/
def execGridTickCommit (t : Word) (n : Fin 64) (s : State) : Out :=
  let s := s.at t
  .next (match (s.sh n).gate with
    | some g =>
      if g.opened ∧ g.tickAt.any (fun c => decide (sdiff c t ≤ s.horizon n)) then
        (s.setSh n { s.sh n with gate := some { g with tickDone := true } }).shtShow n
      else s
    | none => s)

/-- GRID_TICK: a tick is issued with its index; the next one is planned (R277 to R279). -/
def execGridTick (t : Word) (n : Fin 64) (s : State) : Out :=
  let s := s.at t
  .next (match (s.sh n).gate, (s.sh n).prev with
    | some g, some u => match g.tickAt with
      | some c =>
        if g.opened ∧ notBefore t c then
          let s := s.sendTok n (.tick n g.tick c)
          let s := if g.tickLate then s.inc (Reg.SHT_CNT3_TICK_LATE n) else s
          let g := { g with
            tick := g.tick + 1, issued := g.issued + 1, tickAt := none, tickDone := false, tickLate := false }
          let s := s.setSh n { s.sh n with gate := some g, lastTick := some c }
          (s.planTick n u).shtShow n
        else s
      | none => s
    | _, _ => s)

/-! ### Tokens and control -/

/-- SYNC_LOST reaches the Shuttle: pending entries are cancelled, an open gate closes, end lock ends (R272, Table 5.4). -/
def State.shtSyncLost (s : State) (n : Nat) : State :=
  let s := s.endWindow n false
  let k := s.sh n
  let s := s.setSh n { k with noWindow := true, pulse := k.pulse.map (fun p =>
    if p.started && !p.stopDone && decide (p.stop ≠ p.plain) then { p with stop := laterOf p.plain s.now } else p) }
  s.shtShow n

/-- The Shuttle loses the rotation, or the Loom stops: everything not energised is cancelled, an energised pulse counts
as cut (R272, Table 5.4). -/
def State.shtLoseAll (s : State) (n : Nat) : State :=
  let s := s.endWindow n true
  (s.setSh n { s.sh n with noWindow := true }).shtShow n

/-- SYNC_LOST: the token reaches Shuttle `n` (R153, R272). -/
def execSyncLost (t : Word) (n : Fin 64) (s : State) : Out :=
  let s := s.at t
  let k := vget s.shTok n
  .next (if k.sync then
      let s := { s with shTok := vset s.shTok n { k with sync := false } }
      if s.hasTile 3 n then s.shtSyncLost n else s
    else s)

/-- EN becomes 1: the Shuttle serves its lists; its next update begins no window (R252). -/
def State.shtEnable (s : State) (n : Nat) : State :=
  if s.is (Reg.SHT_CTRL_EN n) then s
  else ((s.set (Reg.SHT_CTRL_EN n) 1).setSh n { s.sh n with noWindow := true }).shtShow n

/-- EN becomes 0: pending entries are cancelled, an open gate closes (R272, Table 5.4). -/
def State.shtDisable (s : State) (n : Nat) : State :=
  if s.is (Reg.SHT_CTRL_EN n) then ((s.endWindow n false).set (Reg.SHT_CTRL_EN n) 0).shtShow n else s

/-- SHT_EN_SET. -/
def execShtEnSet (t : Word) (n : Fin 64) (s : State) : Out :=
  let s := s.at t
  .next (if s.gone (Reg.SHT_CTRL_addr n) then s.wrej else s.shtEnable n)

/-- SHT_EN_CLEAR. -/
def execShtEnClear (t : Word) (n : Fin 64) (s : State) : Out :=
  let s := s.at t
  .next (if s.gone (Reg.SHT_CTRL_addr n) then s.wrej else s.shtDisable n)

/-- READY becomes 1 (R244, R246). -/
def State.shtOffer (s : State) (n : Nat) : State :=
  if s.is (Reg.SHT_CTRL_READY n) then s
  else (s.set (Reg.SHT_CTRL_READY n) 1).setSh n { s.sh n with readyAt := some s.now }

/-- SHT_READY_SET: a writer offers the inactive page; where the service tiles write the channel, a host write that would
change READY is refused with WREJ (R247). -/
def execShtReadySet (t : Word) (n : Fin 64) (service : Bool) (s : State) : Out :=
  let s := s.at t
  .next (if s.gone (Reg.SHT_CTRL_addr n) then if service then s else s.wrej
    else if s.is (Reg.SHT_CFG_WRITER n) == service then s.shtOffer n
    else if service || s.is (Reg.SHT_CTRL_READY n) then s
    else s.wrej)

/-- Clears the four counter words; an increment of this instant is counted after it (R288). -/
def State.shtClear (s : State) (n : Nat) : State :=
  s.clearCounts [Reg.SHT_CNT0_SKIP_LATE n, Reg.SHT_CNT0_SKIP_STATE n, Reg.SHT_CNT0_CANCEL n, Reg.SHT_CNT1_POSTPONE n,
    Reg.SHT_CNT1_DROP_OFF n, Reg.SHT_CNT1_LISTERR n, Reg.SHT_CNT2_STALE n, Reg.SHT_CNT2_CLAMP n, Reg.SHT_CNT2_CUT n,
    Reg.SHT_CNT3_GATE_LATE n, Reg.SHT_CNT3_TICK_LATE n, Reg.SHT_CNT3_INCOMPLETE n]

/-- SHT_CNT_CLR. -/
def execShtCntClr (t : Word) (n : Fin 64) (s : State) : Out :=
  let s := s.at t
  .next (if s.gone (Reg.SHT_CNT_CLR_addr n) then s.wrej else s.shtClear n)

/-! ### Pulse outputs (R281 to R285, R546) -/

def State.po (s : State) (p : Nat) : PulseOut := vget s.pulseOuts p
def State.setPo (s : State) (p : Nat) (k : PulseOut) : State := { s with pulseOuts := vset s.pulseOuts p k }

/-- Crank revolutions of a cycle. -/
def State.revs (s : State) : Nat := if s.weave.twoStroke then 1 else 2

/-- The levels after the last edge passed. -/
def State.outLevels (s : State) (p : Nat) (k : PulseOut) : PulseOut :=
  if p = 0 then
    let q := (k.idx + Config.encPhase) % 4
    let zOn := decide (k.idx % k.perZ = 0) && (decide (s.sync s.primary ≠ ssCrankSync) || decide (k.perZ ≠ k.edges))
    { k with a := decide (q = 0 ∨ q = 1), b := decide (q = 1 ∨ q = 2), z := zOn }
  else { k with a := decide (k.idx % 2 = 0) }

/-- The angle of edge `i`. -/
def PulseOut.edgeAngle (k : PulseOut) (i : Nat) : Word := k.base + wordOf (rdiv ((i % k.edges : Nat) * W48) k.edges)

/-- Plans the next edge: one that a forward step has passed falls due at once, one that a backward step has left ahead waits for
the angle (R281, R282, R284, R285). -/
def State.planEdge (s : State) (p : Nat) (u : Update) : State :=
  let k := s.po p
  match s.placed u k.ahead with
  | none => s.setPo p { k with at_ := none, delayed := false }
  | some (t, _) => s.setPo p { k with at_ := some (k.spaced t).1, delayed := (k.spaced t).2 }

/-- The output runs in the sync state (R283). -/
def State.outRuns (s : State) (p : Nat) : Bool :=
  s.is (if p = 0 then Reg.PLS_ENC_EN else Reg.PLS_TACH_EN) && angleState (s.sync s.primary)

/-- A pulse output begins to run, or takes another pattern over: its levels are those of the angle now, at once or 2.5 µs after
its last edge (R283, R285). -/
def State.outStart (s : State) (p : Nat) (u : Update) (k : PulseOut) : State :=
  let idx := (angleIn (s.kOf u) s.coast u s.now - k.base).toNat * k.edges / W48
  let k := { k with run := true, idx, at_ := none, delayed := false, ahead := (k.edgeAngle (idx + 1) - u.angle).toNat }
  let k' := s.outLevels p k
  let same := decide (k'.a = k.a ∧ k'.b = k.b ∧ k'.z = k.z)
  if same || !(k.spaced s.now).2 then
    (s.setPo p (if same then k' else { k' with lastAt := some s.now })).planEdge p u
  else
    (s.setPo p { k with idx := (idx + k.edges - 1) % k.edges, ahead := sdiff (k.edgeAngle idx) u.angle }).planEdge p u

/-- A pulse output takes an update: it takes the fields of its register over and plans its next edge; an edge committed
2 µs ahead stays (R284, R546). -/
def State.outUpdate (s : State) (p : Nat) (u : Update) : State :=
  let old := s.po p
  let moved := match old.last with
    | some v => sdiff u.angle v.angle
    | none => 0
  let k := { old with upd := none, last := some u, ahead := old.ahead - moved }
  if !s.outRuns p then s.setPo p (k.low s.now)
  else
    let ppr := if p = 0 then 4 * s.get Reg.PLS_ENC_ENC_PPR else 2 * s.get Reg.PLS_TACH_TACH_PPR
    let edges := ppr * s.revs
    let perZ := if p = 0 ∧ s.is Reg.PLS_ENC_Z_MODE then edges else ppr
    let base : Word := if p = 0 then BitVec.ofNat 48 (s.get Reg.PLS_ENC_Z_ANG * 65536) else 0
    if k.run && decide (k.edges = edges ∧ k.base = base ∧ k.perZ = perZ) then
      let s := s.setPo p k
      if k.at_.any (fun c => decide (sdiff c s.now ≤ 3200)) then s else s.planEdge p u
    else s.outStart p u { k with edges, perZ, base }

/-- PULSE_OUTPUT_UPDATE: pulse output `p` (0 the encoder, 1 the tachometer) takes the update that was broadcast. -/
def execPulseOutputUpdate (t : Word) (p : Fin 2) (s : State) : Out :=
  let s := s.at t
  .next (match (s.po p).upd with
    | some u => s.outUpdate p u
    | none => s)

/-- The planned edge is issued; the next one is planned (R281, R285). Of an output that no longer runs the fall is what is
left. -/
def State.issueEdge (s : State) (p : Nat) (late : Fld) : State :=
  let k := s.po p
  match k.at_, k.last with
  | some c, some u =>
    if notBefore s.now c then
      let s := if k.delayed then s.inc late else s
      if !k.run then s.setPo p (k.fallen c)
      else
      let k := { k with
        idx := (k.idx + 1) % k.edges, lastAt := some c, at_ := none, delayed := false
        ahead := k.ahead + ((k.edgeAngle (k.idx + 2) - k.edgeAngle (k.idx + 1)).toNat : Nat) }
      (s.setPo p (s.outLevels p k)).planEdge p u
    else s
  | _, _ => s

/-- PULSE_OUTPUT_EDGE: an encoder edge. -/
def execPulseOutputEdge (t : Word) (s : State) : Out := .next ((s.at t).issueEdge 0 Reg.PLS_CNT_LATE_ENC)

/-- TACH_EDGE: a tachometer edge. -/
def execTachEdge (t : Word) (s : State) : Out := .next ((s.at t).issueEdge 1 Reg.PLS_CNT_LATE_TACH)

/-! ### Loom start -/

/-- A Loom start leaves a Shuttle with no window and no entry (R252). -/
def State.shtLoomStart (s : State) (n : Nat) : State :=
  let k := s.sh n
  (s.setSh n { k with
    upd := none, prev := none, prev2 := none, noWindow := true, advance := none, next := 8, cur := none, cand := none, lastDist := none
    pulse := none, gate := none }).shtShow n

end Sys2Proof.Machine
end

