-- ==== Sys2Proof/Machine/Bank.lean ====
section
/-!
DEFINITION. Actuator banks and the Heddle (06_actuator_banks), and the operations of 07_actuator_protection that they
share: gates, requests, ownership and drops, detections and latches, tails, the microcode, recovery, continuous mode and
the boost controllers. Comparators see the shunt voltage, which commands carry in µV: a threshold code k stands for
k × 250 µV (R292).
-/
namespace Sys2Proof.Machine

/-! ### Values -/

/-- A shunt voltage reaches a threshold code (R292). -/
def reaches (uv code : Nat) : Bool := decide (code * 250 ≤ uv)

/-- The Headland injection cut is in force (Table 14.6). -/
def State.cutInForce (s : State) : Bool := decide (s.get Reg.SAF_STAT_STATE ≠ 1)

/-- Channel `c` is enabled (R297, R509). -/
def State.chEnabled (s : State) (b c : Nat) : Bool :=
  s.get (Reg.BNK_CFG_CH_EN b) / 2 ^ c % 2 == 1
    && (!s.is Reg.CAL_CTRL_REQ_ID || decide (s.get (Reg.IDN_SITE1_STATE (4 * b + c)) = 1))

/-- Channel `c` is populated. -/
def State.populated (s : State) (b c : Nat) : Bool := s.get (Reg.BNK_CFG_CH_EN b) / 2 ^ c % 2 == 1

/-- Channel `c` or the bank is latched (R348). -/
def State.latched (s : State) (b c : Nat) : Bool := s.is (Reg.BNK_DSTAT_LATCH b) || s.is (Reg.BNK_CDSTAT_LATCH b c)

/-- A pulse owns the bank and has not entered RECOVERY. -/
def Bank.energised (k : Bank) : Bool := k.owner.isSome && k.pulse.isSome && k.heddle.phase != .recov

/-- The gates as they were just before a stop or fault of this very instant turned them off (R346, R347). -/
def Bank.gatesAt (k : Bank) (t : Word) : Gates :=
  match k.before with
  | some (a, g, _) => if a = t then g else k.gates
  | none => k.gates

/-- The gate change that blanking runs from, as it was then. -/
def Bank.gateChange (k : Bank) (t : Word) : Word :=
  match k.before with
  | some (a, _, g) => if a = t then g else k.heddle.gateAt
  | none => k.heddle.gateAt

/-- The owner's pulse drives, or did so until a stop or fault of this very instant (R346, R347). -/
def Bank.live (k : Bank) (t : Word) : Bool :=
  k.owner.isSome && k.pulse.isSome
    && ((k.heddle.phase != .recov && !k.heddle.stopping) || k.before.any (fun x => decide (x.1 = t)))

/-- A channel runs in continuous mode (Table 6.3). -/
def Bank.inCont (k : Bank) : Bool := k.owner.isSome && k.pulse.isNone && k.heddle.phase != .recov

/-- Shows BSTATE, OWNER, WAIT, OVL and PC (Table 6.17). -/
def State.bnkShow (s : State) (b : Nat) : State :=
  let k := s.bk b
  let st := if k.inCont then 3 else if k.energised then 1 else if k.idle then 0 else 2
  let own := match k.owner, k.ovl with
    | some c, _ => c
    | none, some (c, _) => c
    | none, none => 0
  let waits := (List.range 4).foldl (fun a c => if k.reqs.any (fun r => r.waiting && decide (r.ch = c)) then a + 2 ^ c else a) 0
  ((((s.set (Reg.BNK_STAT_BSTATE b) st).set (Reg.BNK_STAT_OWNER b) own).set (Reg.BNK_STAT_WAIT b) waits).flag
    (Reg.BNK_STAT_OVL b) k.ovl.isSome).set (Reg.BNK_STAT_PC b) k.heddle.pc

/-- A bank event (Table 11.5). -/
def State.bankEvent (s : State) (b cause ch code : Nat) (t : Word) : State :=
  s.report 4 b 1 (cause * 2 ^ 36 + ch * 2 ^ 34 + code * 2 ^ 24) (some t)

/-! ### Gates (R290, R291, R294) -/

/-- The gates of a drive state for owner `c` (Table 6.2). -/
def driveGates (d c : Nat) : Bool × Bool × Option Nat :=
  (decide (d = 1), decide (d = 2), if d = 0 then none else some c)

/-- Applies a set of gates at `t`: what turns on takes its turn-on instant. -/
def Gates.apply (g : Gates) (x : Bool × Bool × Option Nat) (t : Word) : Gates :=
  { g with
    hsb := x.1, hsv := x.2.1, ls := x.2.2, next := none
    hsAt := if (x.1 && !g.hsb) || (x.2.1 && !g.hsv) then t else g.hsAt
    lsAt := if x.2.2.isSome && g.ls.isNone then t else g.lsAt }

/-- A change to drive state `d` of channel `c` at `t`: what turns on in it does so DEAD later when a gate turns off in it, be it in
two steps of one instant (R291, R359). -/
def Gates.change (g : Gates) (d c dead : Nat) (t : Word) : Gates :=
  let x := driveGates d c
  let off := (g.hsb && !x.1) || (g.hsv && !x.2.1) || (g.ls.isSome && decide (g.ls ≠ x.2.2))
  let now := (g.hsb && x.1, g.hsv && x.2.1, if g.ls = x.2.2 then g.ls else none)
  let g := if off then { g with offAt := some t } else g
  if now = x then g.apply x t
  else if g.offAt = some t then { g.apply now t with next := some x, nextAt := addW t dead }
  else if g.next.isSome then { g with next := some x }
  else g.apply x t

/-- The bank changes to drive state `d` of channel `c` at `t`; no change of state is no gate change. -/
def State.drive (s : State) (b d c : Nat) (t : Word) : State :=
  let k := s.bk b
  if k.heddle.drive = d ∧ (d = 0 ∨ k.gates.ls = some c ∨ k.gates.next = some (driveGates d c)) then s
  else (s.setBk b { k with
    gates := k.gates.change d c (8 * s.get (Reg.BNK_CFG_DEAD b)) t
    heddle := { k.heddle with drive := d, changeAt := t, gateAt := t } }).periodRise (0x40 + b)

/-- Blanking is over (R294). -/
def State.unblanked (s : State) (b : Nat) : Bool :=
  let h := (s.bk b).heddle
  notBefore s.now (addW h.gateAt h.blank)

/-! ### Tails (R357 to R363) -/

/-- Writes a closure result (R362, R363). -/
def State.closureResult (s : State) (b c flag : Nat) : State :=
  (s.set (Reg.BNK_CLRES_FLAG b c) flag).incMod (Reg.BNK_CLRES_SEQ b c)

/-- The record of a tail with result `flag`: 1 FOUND, 2 NOT_FOUND, 3 NOT_AVAILABLE (R359); the gates stay. -/
def State.closeTail (s : State) (b flag : Nat) : State :=
  match (s.bk b).tail with
  | none => s
  | some tl =>
    let s := s.closureResult b tl.ch flag
    s.setBk b { s.bk b with tail := none }

/-- Ends a tail with result `flag` and drive OFF (R359). -/
def State.endTail (s : State) (b flag : Nat) : State :=
  match (s.bk b).tail with
  | none => s
  | some tl => (s.drive b 0 tl.ch s.now).closeTail b flag

/-! ### Requests (R297 to R305, R700) -/

/-- The bank's controller. -/
def State.boostOf (b : Nat) : Nat := b / 4

/-- Microcode instruction fields (Table 6.6). -/
structure HInstr where
  raw : Nat
deriving DecidableEq, Repr

def HInstr.op (i : HInstr) : Nat := bitsOf i.raw 19 5
def HInstr.c (i : HInstr) : Nat := bitsOf i.raw 18 1
def HInstr.d (i : HInstr) : Nat := bitsOf i.raw 16 2
def HInstr.cond (i : HInstr) : Nat := bitsOf i.raw 16 3
def HInstr.n (i : HInstr) : Nat := bitsOf i.raw 0 14
def HInstr.code (i : HInstr) : Nat := bitsOf i.raw 0 10
def HInstr.arg (i : HInstr) : Nat := bitsOf i.raw 0 8

/-- T in LSB (Table 6.8). -/
def HInstr.time (i : HInstr) : Nat := i.n * [8, 64, 512, 4096].getD (bitsOf i.raw 14 2) 0

/-- The instruction at address `pc` of Heddle `b` (R81). -/
def State.instr (s : State) (b pc : Nat) : HInstr :=
  ⟨s.get (if pc % 2 = 0 then Reg.HDL_EVEN b (pc / 2) else Reg.HDL_ODD b (pc / 2))⟩

/-- A driving instruction that may open a profile: DRV, RISE, FALL, CHOP or CONT (R308). -/
def HInstr.opens (i : HInstr) : Bool := decide (i.op = 1 ∨ i.op = 2 ∨ i.op = 3 ∨ i.op = 4 ∨ i.op = 6)

/-- The instruction itself traps: an opcode or field code that traps, a bit that must be 0 (R317, Tables 6.6 to 6.8). -/
def HInstr.traps (i : HInstr) : Bool :=
  match i.op with
  | 1 => decide (i.c = 1)
  | 2 | 3 => decide (i.c = 1 ∨ i.n = 0)
  | 4 => false
  | 5 => decide (bitsOf i.raw 16 3 ≠ 0)
  | 6 => decide (bitsOf i.raw 0 16 ≠ 0)
  | 8 | 9 => decide (bitsOf i.raw 10 9 ≠ 0 ∨ 840 < i.code)
  | 10 | 12 | 14 | 15 => decide (bitsOf i.raw 8 11 ≠ 0)
  | 13 => decide (bitsOf i.raw 8 8 ≠ 0 ∨ 6 ≤ i.cond)
  | _ => true

/-- The entry instruction's drive, when it is a driving instruction (R297, R309). -/
def State.entryDrive (s : State) (b c : Nat) : Option Nat :=
  let i := s.instr b (s.get (Reg.BNK_PROG_ENTRY b c))
  if i.opens && !i.traps then some i.d else none

/-- The first drop cause that holds for a request, in the order of R700, without the wait limit. -/
def State.dropCause (s : State) (b : Nat) (r : Request) : Option Nat :=
  let g := boostOf b
  if s.latched b r.ch then some 10
  else if s.get (Reg.BNK_THM_LEVEL b r.ch) = 3 then some 11
  else if s.is (Reg.BST_STAT_OV g) then some 12
  else if !s.chEnabled b r.ch then some 2
  else if s.entryDrive b r.ch = some 1 ∧ ¬ s.is (Reg.BST_STAT_READY g) then some 3
  else if s.is (Reg.BNK_CONT_EN b) then some 4
  else if (s.bk b).reqs.any (fun q => q.waiting && decide (q.ch = r.ch ∧ q ≠ r)) then some 5
  else none

/-- The counter of a drop cause (Tables 6.4, 7.4). -/
def dropCounter (b cause : Nat) : Fld :=
  if cause = 1 then Reg.BNK_CNT0_DROP_WAIT b
  else if cause = 11 then Reg.BNK_DCNT_DROP_HOT b
  else if cause = 10 ∨ cause = 12 then Reg.BNK_DCNT_DROP_FAULT b
  else Reg.BNK_CNT0_DROP_OTHER b

/-- Takes a request off the bank's list. -/
def State.unqueue (s : State) (b : Nat) (r : Request) : State :=
  s.setBk b { s.bk b with reqs := (s.bk b).reqs.erase r }

/-- Puts a changed request back in its place. -/
def State.requeue (s : State) (b : Nat) (r r' : Request) : State :=
  s.setBk b { s.bk b with reqs := (s.bk b).reqs.map (fun q => if q = r then r' else q) }

/-- Drops a request (R305, R700). -/
def State.drop (s : State) (b : Nat) (r : Request) (cause : Nat) : State :=
  let s := ((s.unqueue b r).stick (Reg.BNK_STAT_DROPPED b) 1).inc (dropCounter b cause)
  ((s.counterBank b false).bankEvent b cause r.ch 0 r.time).pulseDropped r.sht r.idx

/-- Cancels a request; the Shuttle counts it (R306, Table 5.4). -/
def State.cancelRequest (s : State) (b : Nat) (r : Request) : State :=
  (s.unqueue b r).pulseCancelled r.sht r.idx skCancel

/-- MIN_OFF of a request's channel: none when the start stands, else the instant it moves to (R268, R269). -/
def State.minOff (s : State) (b : Nat) (r : Request) (t : Word) : Option Word :=
  match (s.bk b).rend.getD r.ch none with
  | none => none
  | some e =>
    let m := addW e (s.get (Reg.BNK_OFF_MIN_OFF b r.ch) * us)
    if sdiff t m < 0 then some m else none

/-- Moves or drops a request that comes too early after its channel's recovery end (R268, R270). -/
def State.postpone (s : State) (b : Nat) (r : Request) (m : Word) : State :=
  if s.is (Reg.BNK_OFF_OFF_DROP b r.ch) then (s.unqueue b r).pulseCancelled r.sht r.idx skDropOff
  else (s.requeue b r { r with time := m, waiting := false }).pulsePostponed r.sht r.idx m

/-- Whether request `a` comes before `b`: the earlier time word, then the lower channel (R59, R298). -/
def Request.before (a b : Request) : Bool := decide (sdiff a.time b.time < 0 ∨ (a.time = b.time ∧ a.ch < b.ch))

/-- The first of a list of requests by R59. A request arrives at its time word (R60), so it is the first of those in the window of
R61, too (log entry 135). -/
def firstRequest (l : List Request) : Option Request :=
  l.foldl (fun a r => match a with
    | none => some r
    | some q => if r.before q then some r else some q) none

/-- The bank admits another owner: it is IDLE, or its owner recovers under overlap and no other channel does (R297, R302). -/
def State.admits (s : State) (b : Nat) : Bool :=
  let k := s.bk b
  k.ovl.isNone && (k.owner.isNone || (k.heddle.phase == .recov && s.is (Reg.BNK_CFG_RECOV_OVERLAP b)))

/-- The channel's own previous pulse has not ended its recovery (R304). -/
def Bank.busyWith (k : Bank) (c : Nat) : Bool := decide (k.owner = some c) || (k.ovl.map (·.1) == some c)

/-! ### Chop measurements (R364) -/

/-- R of R364 from a log, in 0.1 mΩ. -/
def State.chopResistance (s : State) (b : Nat) (l : ChopLog) : Option Rat :=
  match l.band with
  | none => none
  | some (p, v) =>
    if l.n < 4 ∨ l.bad ∨ p + v = 0 ∨ l.rise + l.fall = 0 then none
    else
      let vb : Int := (s.get Reg.SAF_HK_VBAT : Int) - s.get (Reg.BNK_DCFG_VPB b)
      let num : Int := 400 * s.get (Reg.BNK_CFG_RSHUNT b) * (vb * l.rise - s.get (Reg.BNK_DCFG_VF b) * l.fall)
      some ((num : Rat) / ((p + v) * (l.rise + l.fall) : Nat))

/-- VBAT lies outside [8.0, 36.0) V. -/
def State.vbatOut (s : State) : Bool := !decide (160 ≤ s.get Reg.SAF_HK_VBAT ∧ s.get Reg.SAF_HK_VBAT < 720)

/-- The 1 ms windows of CONT that have ended: a window gives its measurement at its end, and the cycle that runs on into the next
counts in neither (R364). -/
def State.contWindow (s : State) (b : Nat) : State :=
  let k := s.bk b
  let n := elapsed k.chop.winAt s.now / ms
  if k.inCont ∧ 0 < n then
    let c := k.owner.getD 0
    let th := vget k.thermal c
    s.setBk b { k with
      thermal := vset k.thermal c { th with meas := (s.chopResistance b k.chop) <|> th.meas }
      chop := { k.chop with
        n := 0, rise := 0, fall := 0, lastRise := none, bad := s.vbatOut, winAt := addW k.chop.winAt (n * ms) } }
  else s

/-- VBAT before a sample closes the windows that ended by then; outside its range it spoils the measurements of every pulse and window
that runs (R364). -/
def State.vbatMark (s : State) (vbat : Nat) : State :=
  let s := (List.range 12).foldl (fun s b => s.contWindow b) s
  let s := s.set Reg.SAF_HK_VBAT vbat
  if s.vbatOut then (List.range 12).foldl (fun s b => s.setBk b { s.bk b with chop := { (s.bk b).chop with bad := true } }) s
  else s

/-- A regulating instruction issues: a new band, and its first cycle is not measured. -/
def State.chopIssue (s : State) (b : Nat) : State :=
  let k := s.bk b
  let l := k.chop
  let meas := (s.chopResistance b l) <|> l.meas
  s.setBk b { k with chop := { l with
    band := some (k.heddle.pk, k.heddle.vy), first := true, n := 0, rise := 0, fall := 0, lastRise := none
    since := some s.now, bad := l.bad || s.vbatOut, meas } }

/-- Logs a transition of the regulation to the on-state (`on`) or the off-state (R364). -/
def State.chopLog (s : State) (b : Nat) (on : Bool) : State :=
  let s := s.contWindow b
  let k := s.bk b
  let l := k.chop
  -- a half cycle that began before the window is no part of it
  let d := (l.since.filter (fun a => !(k.inCont && decide (sdiff a l.winAt < 0)))).map (fun a => elapsed a s.now)
  let l :=
    if k.heddle.onD ≠ 2 ∨ k.heddle.offD ≠ 3 then l
    else if on then match l.lastRise, d with
      | some r, some f =>
        if l.first then { l with first := false, lastRise := none }
        else if l.n < 64 then { l with n := l.n + 1, rise := l.rise + r, fall := l.fall + f, lastRise := none }
        else { l with lastRise := none }
      | _, _ => l
    else { l with lastRise := d }
  s.setBk b { k with chop := { l with since := some s.now } }

/-- What a pulse leaves for the step of its channel's thermal model that its recovery end makes due (R364, R365). -/
def State.leaveHeat (s : State) (b c : Nat) : State :=
  let k := s.bk b
  let band := match k.chop.band with
    | some (p, v) => p + v
    | none => s.get (Reg.BNK_PROG_PK0 b c) + s.get (Reg.BNK_PROG_VY0 b c)
  let th := vget k.thermal c
  let meas := if k.chop.bad then th.meas else (s.chopResistance b k.chop) <|> k.chop.meas <|> th.meas
  s.setBk b { k with thermal := vset k.thermal c { th with pulse := some (band, elapsed k.tStart k.tStop), meas } }

/-- A recovery end of channel `c` makes a step of its thermal model due (R365). -/
def State.heatDue (s : State) (b c : Nat) : State :=
  let k := s.bk b
  s.setBk b { k with thermal := vset k.thermal c { vget k.thermal c with due := true } }

/-! ### Grants (R300, R302, R309) -/

/-- A threshold code scaled by the thermal level (R368, R369). -/
def State.scaled (s : State) (b level code : Nat) : Nat :=
  if level = 0 then code
  else code * s.get (if level = 1 then Reg.BNK_THCFG_DS1 b else Reg.BNK_THCFG_DS2 b) / 16

/-- The Heddle starts on channel `c` at `t` (R309). -/
def State.heddleStart (s : State) (b c : Nat) (t : Word) : State :=
  let k := s.bk b
  let h : Heddle := { k.heddle with
    phase := .issue, pc := s.get (Reg.BNK_PROG_ENTRY b c), pk := s.get (Reg.BNK_PROG_PK0 b c)
    vy := s.get (Reg.BNK_PROG_VY0 b c), blank := 8 * s.get (Reg.BNK_CFG_BLANK0 b), nd := 0, applied := true
    stopping := false, cont := false, limit := 0 }
  let s := ((s.setBk b { k with heddle := h }).set (Reg.BNK_STAT_LOOPC b) 0).set (Reg.BNK_STAT_TO b) 0
  match s.entryDrive b c with
  | some d => s.drive b d c t
  | none => s.drive b 0 c t

/-- Gives the bank to channel `c` at `t`; an owner in RECOVERY goes on beside it (R302, R303). -/
def State.takeBank (s : State) (b c : Nat) (pulse : Option (Nat × Nat)) (t : Word) : State :=
  let s := s.closeTail b 3
  let s := match (s.bk b).owner with
    | some o => if (s.bk b).pulse.isSome then s.leaveHeat b o else s
    | none => s
  let k := s.bk b
  let ovl := match k.owner with
    | some o => some (o, addW k.recAt (s.get (Reg.BNK_CFG1_RMAX b) * us), k.pulse.isSome)
    | none => k.ovl
  let k := { k with
    owner := some c, pulse, tStart := t, tStop := t, spoiled := false, peaked := false, checked := false, ovl
    level := s.get (Reg.BNK_THM_LEVEL b c), chop := { winAt := t, bad := s.vbatOut }, idleAt := none, residual := false
    test := none, selftest := none, before := none }
  (s.setBk b k).heddleStart b c t

/-- The mapping tile that learns from a MAIN or GAS pulse which starts now: its pressure input lies in [DR_PLO, DR_PHI)
(R470). -/
def State.driftTile (s : State) (kind : Nat) : Option Nat :=
  if kind ≠ 2 ∧ kind ≠ 4 then none
  else
    let q := if kind = 2 then 0 else 1
    let p := s.get (Reg.QM_CFG_Y_PIN q)
    let v := s.getI (Reg.SVC_PINSTAT_VALUE p)
    if s.is (Reg.SVC_PINSTAT_VALID p) ∧ s.get (Reg.QM_DR1_DR_PLO q) ≤ v ∧ v < s.get (Reg.QM_DR1_DR_PHI q) then some q
    else none

/-- Grants a request; its start is made at `t` (R298, R300, R309). -/
def State.grant (s : State) (b : Nat) (r : Request) (t : Word) : State :=
  let s := s.unqueue b r
  let s := if r.waiting then
      ((s.inc (Reg.BNK_CNT0_WAITED b)).counterBank b true).maxTo (Reg.BNK_WMAX_WAIT b)
        (openRound ((elapsed r.time t : Rat) / 160)).toNat
    else s
  let s := s.takeBank b r.ch (some (r.sht, r.idx)) t
  (s.setBk b { s.bk b with drift := s.driftTile r.kind }).pulseStarted r.sht r.idx t

/-- Grants waiting requests while the bank admits an owner (R298, R302). -/
def State.grantWaiting (b : Nat) : Nat → State → State
  | 0, s => s
  | fuel + 1, s =>
    if !s.admits b || s.is (Reg.BNK_CONT_EN b) then s
    else match firstRequest ((s.bk b).reqs.filter (fun r => r.waiting && !(s.bk b).busyWith r.ch)) with
      | none => s
      | some r => match s.minOff b r s.now with
        | some m => (s.postpone b r m).grantWaiting b fuel
        | none => s.grant b r s.now

/-- Drops waiting requests whose wait has reached POSTPONE_MAX (R299). -/
def State.expireWaits (s : State) (b : Nat) : State :=
  let lim := s.get (Reg.BNK_CFG_POSTPONE_MAX b) * us
  ((s.bk b).reqs.filter (fun r => r.waiting && decide (lim ≤ elapsed r.time s.now))).foldl
    (fun s r => s.drop b r ((s.dropCause b r).getD 1)) s

/-! ### Detections and latches (R343 to R350) -/

/-- Ends the owner's main flow: OFF, and the Heddle goes to STOPV (R310, R344). -/
def State.toStop (s : State) (b : Nat) (t : Word) : State :=
  let s := s.contWindow b
  let k := s.bk b
  match k.owner with
  | none => s
  | some c =>
    if k.heddle.stopping || k.heddle.phase == .recov then s
    else
      let s := (s.setBk b { k with before := some (t, k.gates, k.heddle.gateAt) }).drive b 0 c t
      let k := s.bk b
      (s.setBk b { k with tStop := t, heddle := { k.heddle with
        phase := .issue, pc := s.get (Reg.BNK_PROG_STOPV b c), nd := 0, applied := false, stopping := true
        cont := false, limit := 0 } }).bnkShow b

/-- The pulse is ended by a fault; its closure is not available (R344). -/
def State.endPulse (s : State) (b : Nat) : State :=
  let s := s.toStop b s.now
  s.setBk b { s.bk b with spoiled := true }

/-- The LATCH bit of channel `c` or of the bank, its retry counter and its place in the bank's lists. -/
def latchFld (b : Nat) (c : Option Nat) : Fld := match c with
  | some c => Reg.BNK_CDSTAT_LATCH b c
  | none => Reg.BNK_DSTAT_LATCH b
def retryFld (b : Nat) (c : Option Nat) : Fld := match c with
  | some c => Reg.BNK_CDSTAT_RETRY_LEFT b c
  | none => Reg.BNK_DSTAT_BRETRY_LEFT b
def latchIdx (c : Option Nat) : Nat := c.getD 4

/-- A detection sets LATCH; a host clear at the same instant then has had no other effect (R353). -/
def State.latchSet (s : State) (b : Nat) (c : Option Nat) : State :=
  let k := s.bk b
  let s := (s.set (latchFld b c) 1).setBk b { k with latchAt := vset k.latchAt (latchIdx c) (some s.now) }
  match vget k.clearAt (latchIdx c) with
  | some (t, n) => if t = s.now then s.set (retryFld b c) n else s
  | none => s

/-- A latch arises: waiting requests drop, CONT ends, a tail ends (R349, R350, R359). -/
def State.latchArises (s : State) (b : Nat) (c : Option Nat) : State :=
  let s := s.endTail b 3
  let s := s.setBk b { s.bk b with spoiled := true }
  let hit := fun (x : Nat) => c.all (fun y => decide (y = x))
  let s := ((s.bk b).reqs.filter (fun r => r.waiting && hit r.ch)).foldl (fun s r => s.drop b r 10) s
  if (s.bk b).inCont then
    let s := s.toStop b s.now
    s.setBk b { s.bk b with contDue := true }
  else s

/-- Codes of Table 7.1 that latch a channel, and those that latch the bank. -/
def latchesChannel (code : Nat) : Bool := decide (code ≤ 4)
def latchesBank (code : Nat) : Bool := decide (code ∈ [5, 6, 7, 8, 10, 11])

/-- FCODE takes a detection's code; of several at one instant it keeps the highest (R345, R346). -/
def State.faultCode (s : State) (f : Fld) (code : Nat) : State := (s.set f ((s.noted f).foldl max code)).note f code

/-- Reports a detection, before those of the same bank and instant with higher codes (R345, R346). -/
def State.reportFault (s : State) (b ch code : Nat) : State :=
  let r : Report := { src := 4, idx := b, code := 1, arg := 9 * 2 ^ 36 + ch * 2 ^ 34 + code * 2 ^ 24, time := some s.now }
  let first := fun (q : Report) => !(decide (q.src = 4 ∧ q.idx = b ∧ q.code = 1 ∧ q.time = some s.now ∧ q.arg / 2 ^ 36 = 9)
    && decide (code < q.arg / 2 ^ 24 % 1024))
  { s with reports := s.reports.takeWhile first ++ r :: s.reports.dropWhile first }

/-- A detection: FCODE, DIAGS, the event, Headland, and the reaction of Table 7.1 (R343 to R346). -/
def State.detect (s : State) (b : Nat) (c : Option Nat) (code : Nat) : State :=
  let s := s.faultCode (match c with
    | some c => Reg.BNK_CDSTAT_FCODE b c
    | none => Reg.BNK_DSTAT_FCODE b) code
  let ch := (c <|> (s.bk b).owner).getD 0
  let s := (s.inc (Reg.BNK_DCNT_DIAGS b)).reportFault b ch code
  let s := if code = 5 then s.cause 7 b else if code = 8 then s.cause 8 b else if code = 9 then s.cause 6 b else s
  let s := if code = 1 ∨ code = 3 ∨ code = 4 ∨ code = 5 then s.endPulse b else s
  let s := if latchesChannel code then (s.latchSet b (some (c.getD 0))).latchArises b c
    else if latchesBank code then (s.latchSet b none).latchArises b none
    else s
  s.bnkShow b

/-! ### Continuous mode (R318 to R322) -/

/-- CONT begins on the bank: a tail's low side turns off at the grant, and every waiting request is dropped (R318, R319,
R359). -/
def State.contBegin (s : State) (b : Nat) : State :=
  let c := s.get (Reg.BNK_CONT_CH b)
  let s := s.endTail b 3
  let s := s.setBk b { s.bk b with contDue := false }
  let s := s.takeBank b c none s.now
  (((s.bk b).reqs.filter (·.waiting)).foldl (fun s r => s.drop b r ((s.dropCause b r).getD 4)) s).bnkShow b

/-- Begins CONT when it is due and can run: on an IDLE bank, or at the recovery end of the pulse that owned the bank, whatever
recovers beside it (R318, R319). -/
def State.contTry (s : State) (b : Nat) (ended : Bool) : State :=
  let c := s.get (Reg.BNK_CONT_CH b)
  let k := s.bk b
  if k.contDue && (if ended then k.owner.isNone else k.idle) && s.is (Reg.BNK_CONT_EN b) && s.running && !s.latched b c
      && decide (s.get (Reg.BNK_THM_LEVEL b c) ≠ 3) then s.contBegin b
  else s

/-- The thresholds of CONT, scaled by the level in force; a measurement takes the midpoint of those in force at its end (R320, R364,
R370). -/
def State.contLevels (s : State) (b : Nat) : State :=
  let s := s.contWindow b
  let k := s.bk b
  let set := s.get (Reg.BNK_CONT_SET b)
  let half := s.get (Reg.BNK_CONT_BAND b) / 2
  let pk := s.scaled b k.level (min (set + half) 840)
  let vy := s.scaled b k.level (set - half)
  s.setBk b { k with heddle := { k.heddle with pk, vy }, chop := { k.chop with band := some (pk, vy) } }

/-! ### Recovery (R302, R303, R312, R313) -/

/-- Records a recovery end (R303, R312). -/
def State.markEnd (s : State) (b c : Nat) (t : Word) : State :=
  (s.setReg (Reg.BNK_REND_addr b c) t).setBk b { s.bk b with rend := (s.bk b).rend.set c (some t) }

/-- The requests of channel `c` that waited for its own recovery meet R268 (R304). -/
def State.ownWaits (s : State) (b c : Nat) : State :=
  ((s.bk b).reqs.filter (fun r => r.waiting && decide (r.ch = c))).foldl (fun s r =>
    match s.minOff b r s.now with
    | some m => s.postpone b r m
    | none => s) s

/-- A bank whose channel `c` has ended its recovery: due drops, CONT, the waiting grant (R298, R299, R304, R319). -/
def State.release (s : State) (b c : Nat) : State :=
  ((((s.expireWaits b).contTry b true).ownWaits b c).grantWaiting b 8).bnkShow b

/-- Starts a tail on channel `c` (R357, R358). -/
def State.startTail (s : State) (b c : Nat) : State :=
  let s := s.drive b 3 c s.now
  let k := s.bk b
  let tl : Tail :=
    { ch := c, start := s.now, tStart := k.tStart, tStop := k.tStop, samples := [], count := 0, peak := 0, peakAt := 0
      before := none, drift := k.drift }
  s.setBk b { k with tail := some tl }

/-- The owner's recovery ends at `t`, by its time limit or below ZTH (R298, R312, R337, R357, R365). -/
def State.recoveryEnd (s : State) (b : Nat) (limit : Bool) : State :=
  let k := s.bk b
  match k.owner with
  | none => s
  | some c =>
    let t := s.now
    let s := if k.pulse.isSome then s.leaveHeat b c else s
    let s := ((s.markEnd b c t).heatDue b c).flag (Reg.BNK_STAT_TO b) limit
    let s := if limit then (s.stick (Reg.BNK_STAT_RMAX_HIT b) 1).set (Reg.BNK_CDSTAT_SUSPECT b c) 1 else s
    let k' := s.bk b
    let s := s.setBk b { k' with
      owner := none, pulse := none, early := k'.early || limit, idleAt := some t, residual := false
      heddle := { k'.heddle with phase := .idle, stopping := false, cont := false, limit := 0 } }
    let s := s.release b c
    if k.pulse.isNone then s
    else if !limit && !k.spoiled && (s.bk b).owner.isNone && s.get (Reg.BNK_CLCFG_CL_EN b) / 2 ^ c % 2 == 1 then
      s.startTail b c
    else s.closureResult b c 3

/-- The Heddle enters RECOVERY with limit `lim`; before the stop that is an early end (R302, R312, R313). -/
def State.recover (s : State) (b lim : Nat) : State :=
  let k := s.bk b
  match k.owner with
  | none => s
  | some c =>
    let main := !k.heddle.stopping
    let s := s.drive b 0 c s.now
    let s := if main then
        ((s.stick (Reg.BNK_STAT_EARLY b) 1).inc (Reg.BNK_CNT1_EARLY b)).bankEvent b 7 c 0 s.now else s
    let k := s.bk b
    let h := { k.heddle with phase := .recov, base := s.now, limit := lim, cont := false }
    let s := s.setBk b { k with recAt := s.now, tStop := if main then s.now else k.tStop, heddle := h }
    ((if s.is (Reg.BNK_CFG_RECOV_OVERLAP b) then (s.expireWaits b).grantWaiting b 8 else s)).bnkShow b

/-- RMAX in LSB. -/
def State.rmax (s : State) (b : Nat) : Nat := s.get (Reg.BNK_CFG1_RMAX b) * us

/-! ### The Heddle (R308 to R317) -/

/-- The instruction at the PC traps (R308, R311, R317). -/
def State.mustTrap (s : State) (b : Nat) : Bool :=
  let h := (s.bk b).heddle
  let i := s.instr b h.pc
  decide (255 < h.pc) || i.traps || (h.stopping && i.opens) || (h.applied && !i.opens)
    || (decide (16 ≤ h.nd) && !i.opens && decide (i.op ≠ 5))

/-- The Heddle is about to issue an instruction with opcode `op`. -/
def State.issues (s : State) (b op : Nat) : Bool :=
  let k := s.bk b
  k.owner.isSome && k.heddle.phase == .issue && decide (k.heddle.pc ≤ 255 ∧ (s.instr b k.heddle.pc).op = op)

/-- A trap: OFF, TRAP, cause 6, then recovery with RMAX (R313, R317). -/
def State.trap (s : State) (b : Nat) : State :=
  let c := (s.bk b).owner.getD 0
  let s := s.drive b 0 c s.now
  let s := ((s.stick (Reg.BNK_STAT_TRAP b) 1).inc (Reg.BNK_CNT1_TRAPS b)).bankEvent b 6 c 0 s.now
  s.recover b (s.rmax b)

/-- TRAP: the TRAP instruction, or any other trapping condition (R317). -/
def execTrap (t : Word) (b : Fin 12) (s : State) : Out :=
  let s := s.at t
  .next (if (s.bk b).owner.isSome && (s.bk b).heddle.phase == .issue && s.mustTrap b then s.trap b else s)

/-- Runs an instruction that is about to issue, or traps. -/
def State.whenIssued (s : State) (b op : Nat) (f : HInstr → State) : State :=
  if s.issues b op then (if s.mustTrap b then s.trap b else f (s.instr b (s.bk b).heddle.pc)) else s

/-- A driving instruction sets drive `d` and waits for a threshold or T (R315): T counts from its gate change, or from
its issue when the drive does not change. -/
def State.driveAndWait (s : State) (b d lim : Nat) : State :=
  let k := s.bk b
  let c := k.owner.getD 0
  let base := if k.heddle.applied then k.tStart else s.now
  let s := s.drive b d c base
  let k := s.bk b
  (s.setBk b { k with heddle := { k.heddle with phase := .wait, base, limit := lim } }).bnkShow b

/-- DRV (Table 6.7). -/
def execDrv (t : Word) (b : Fin 12) (s : State) : Out :=
  let s := s.at t
  .next (s.whenIssued b 1 (fun i => s.driveAndWait b i.d i.time))

/-- RISE (Table 6.7). -/
def execRise (t : Word) (b : Fin 12) (s : State) : Out :=
  let s := s.at t
  .next (s.whenIssued b 2 (fun i => s.driveAndWait b i.d i.time))

/-- FALL (Table 6.7). -/
def execFall (t : Word) (b : Fin 12) (s : State) : Out :=
  let s := s.at t
  .next (s.whenIssued b 3 (fun i => s.driveAndWait b i.d i.time))

/-- The threshold comparators see the shunt voltage, but for those that hold their outputs (R407; Table 8.9). -/
def State.look (s : State) (b uv : Nat) : State :=
  let k := s.bk b
  s.setBk b { k with
    outPk := if s.cmpHolds b 7 then k.outPk else reaches uv k.heddle.pk
    outVy := if s.cmpHolds b 6 then k.outVy else !reaches uv k.heddle.vy
    outZ := if s.cmpHolds b 5 then k.outZ else !reaches uv (s.get (Reg.BNK_CFG1_ZTH b)) }

/-- A regulating instruction issues: the off-state when the current is at the peak outside blanking, the on-state
otherwise (Table 6.7, R294, R320). -/
def State.regulate (s : State) (b onD offD lim : Nat) (cont : Bool) (uv : Nat) : State :=
  let s := (if cont then s.contLevels b else s).look b uv
  let k := s.bk b
  let c := k.owner.getD 0
  let base := if k.heddle.applied then k.tStart else s.now
  let isOn := !(s.unblanked b && k.outPk)
  let s := s.drive b (if isOn then onD else offD) c base
  let k := s.bk b
  ((s.setBk b { k with heddle := { k.heddle with phase := .chop, base, limit := lim, onD, offD, isOn, cont } }).chopIssue
    b).bnkShow b

/-- CHOP: `uv` is the shunt voltage at its issue (Table 6.7). -/
def execChop (t : Word) (b : Fin 12) (uv : Nat) (s : State) : Out :=
  let s := s.at t
  .next (s.whenIssued b 4 (fun i => s.regulate b i.d (if i.c = 1 then 0 else 3) i.time false uv))

/-- RECOV: recovery with T, or with RMAX when T is 0 (R312). -/
def execRecov (t : Word) (b : Fin 12) (s : State) : Out :=
  let s := s.at t
  .next (s.whenIssued b 5 (fun i => s.recover b (if i.time = 0 then s.rmax b else i.time)))

/-- CONT: regulates as CHOP does, between the thresholds of BNKb_CONT, until the stop (R320). -/
def execCont (t : Word) (b : Fin 12) (uv : Nat) (s : State) : Out :=
  let s := s.at t
  .next (s.whenIssued b 6 (fun i => s.regulate b i.d (if i.c = 1 then 0 else 3) 0 true uv))

/-- A non-driving instruction has run; the Heddle goes on at `pc`. -/
def State.heddleGo (s : State) (b pc : Nat) : State :=
  let k := s.bk b
  (s.setBk b { k with heddle := { k.heddle with pc, nd := k.heddle.nd + 1 } }).bnkShow b

/-- The next address. -/
def State.nextPc (s : State) (b : Nat) : Nat := (s.bk b).heddle.pc + 1

/-- SETPK: loads the peak DAC, scaled by the level the pulse was granted at (R368, R369). -/
def execSetpk (t : Word) (b : Fin 12) (s : State) : Out :=
  let s := s.at t
  .next (s.whenIssued b 8 (fun i =>
    let k := s.bk b
    (s.setBk b { k with heddle := { k.heddle with pk := s.scaled b k.level i.code } }).heddleGo b (s.nextPc b)))

/-- SETVY: loads the valley DAC, scaled likewise. -/
def execSetvy (t : Word) (b : Fin 12) (s : State) : Out :=
  let s := s.at t
  .next (s.whenIssued b 9 (fun i =>
    let k := s.bk b
    (s.setBk b { k with heddle := { k.heddle with vy := s.scaled b k.level i.code } }).heddleGo b (s.nextPc b)))

/-- BLANK: sets the blanking time to ARG × 5 ns (R294). -/
def execBlank (t : Word) (b : Fin 12) (s : State) : Out :=
  let s := s.at t
  .next (s.whenIssued b 10 (fun i =>
    let k := s.bk b
    (s.setBk b { k with heddle := { k.heddle with blank := 8 * i.arg } }).heddleGo b (s.nextPc b)))

/-- JMP: continues at ARG. -/
def execJmp (t : Word) (b : Fin 12) (s : State) : Out :=
  let s := s.at t
  .next (s.whenIssued b 12 (fun i => s.heddleGo b i.arg))

/-- A condition of Table 6.8; PK and LV are the comparators' outputs and do not hold in blanking (R294, R407). -/
def State.condHolds (s : State) (b cond : Nat) : Bool :=
  match cond with
  | 0 => s.is (Reg.BNK_STAT_TO b)
  | 1 => s.unblanked b && (s.bk b).outPk
  | 2 => s.unblanked b && (s.bk b).outVy
  | 3 => s.is (Reg.BST_STAT_LOW (boostOf b))
  | 4 => decide (s.get (Reg.BNK_STAT_LOOPC b) ≠ 0)
  | _ => s.is Reg.SYS_SUPPLY_EBB

/-- BRF: continues at ARG when COND holds; LNZ taken lowers the loop counter (Tables 6.7, 6.8). -/
def execBrf (t : Word) (b : Fin 12) (uv : Nat) (s : State) : Out :=
  let s := s.at t
  .next (s.whenIssued b 13 (fun i =>
    let s := s.look b uv
    if s.condHolds b i.cond then
      let s := if i.cond = 4 then s.set (Reg.BNK_STAT_LOOPC b) (s.get (Reg.BNK_STAT_LOOPC b) - 1) else s
      s.heddleGo b i.arg
    else s.heddleGo b (s.nextPc b)))

/-- LOOP: loads the loop counter. -/
def execLoop (t : Word) (b : Fin 12) (s : State) : Out :=
  let s := s.at t
  .next (s.whenIssued b 14 (fun i => (s.set (Reg.BNK_STAT_LOOPC b) i.arg).heddleGo b (s.nextPc b)))

/-- FLT: records ARG in FCODE and reports cause 8. -/
def execFlt (t : Word) (b : Fin 12) (s : State) : Out :=
  let s := s.at t
  .next (s.whenIssued b 15 (fun i =>
    let s := (s.set (Reg.BNK_STAT_FCODE b) i.arg).inc (Reg.BNK_CNT1_FLTS b)
    (s.bankEvent b 8 ((s.bk b).owner.getD 0) i.arg s.now).heddleGo b (s.nextPc b)))

/-- A driving instruction is over; the next one issues (R315). `out` sets the TO flag, none keeps it. -/
def State.heddleNext (s : State) (b : Nat) (out : Option Bool) : State :=
  let s := match out with
    | some x => s.flag (Reg.BNK_STAT_TO b) x
    | none => s
  let k := s.bk b
  (s.setBk b { k with heddle := { k.heddle with
    phase := .issue, pc := k.heddle.pc + 1, nd := 0, applied := false, limit := 0, cont := false } }).bnkShow b

/-- HEDDLE_TIMED_EXPIRY: T of the running instruction has elapsed (R315, Table 6.7). -/
def execHeddleTimedExpiry (t : Word) (b : Fin 12) (s : State) : Out :=
  let s := s.at t
  let h := (s.bk b).heddle
  let due := h.limit ≤ elapsed h.base t
  .next (match h.phase, (s.instr b h.pc).op with
    | .wait, 1 => if due then s.heddleNext b none else s
    | .wait, _ => if due then s.heddleNext b (some true) else s
    | .chop, _ => if due ∧ h.limit ≠ 0 then s.heddleNext b (some false) else s
    | _, _ => s)

/-- The least time a drive state lasts in CONT (R320). -/
def State.dwell (s : State) (b : Nat) : Nat :=
  let h := (s.bk b).heddle
  if h.cont then max (s.get (Reg.BNK_CONT_TMIN b) * us) h.blank else h.blank

/-- The regulation changes to its on-state or off-state. -/
def State.chopTo (s : State) (b : Nat) (on : Bool) : State :=
  let k := s.bk b
  let s := s.drive b (if on then k.heddle.onD else k.heddle.offD) (k.owner.getD 0) s.now
  let k := s.bk b
  (s.setBk b { k with heddle := { k.heddle with isOn := on } }).chopLog b on

/-- The peak comparator trips outside blanking while a pulse drives: OPEN_ON is off the table (R332), and an entry RISE whose
peak comes before RISE_MIN is SHORT_LOAD (R334). -/
def State.peakSees (s : State) (b : Nat) : State :=
  let k := s.bk b
  if k.live s.now && notBefore s.now (addW (k.gateChange s.now) k.heddle.blank) && k.outPk then
    let c := k.owner.getD 0
    let early := !k.peaked && decide ((s.instr b (s.get (Reg.BNK_PROG_ENTRY b c))).op = 2
      ∧ elapsed k.tStart s.now < s.get (Reg.BNK_CDCFG_RISE_MIN b c) * us)
    let s := s.setBk b { k with peaked := true }
    if early then s.detect b (some c) 4 else s
  else s

/-- The threshold comparators act on the shunt voltage outside blanking: RISE and FALL continue, the regulation changes
state, a recovery ends (R294, R312, R320, R334, Table 6.7). Their outputs hold while their mode changes (R407). A trip in CONT takes
the channel's thermal level: at level 3 CONT ends through STOPV (R370, Table 7.6). -/
def State.heddleSees (s : State) (b uv : Nat) : State :=
  let s := (s.look b uv).peakSees b
  if !s.unblanked b then s
  else
    let k := s.bk b
    let h := k.heddle
    match h.phase, (s.instr b h.pc).op with
    | .wait, 2 => if k.outPk then s.heddleNext b (some false) else s
    | .wait, 3 => if k.outVy then s.heddleNext b (some false) else s
    | .chop, _ =>
      if elapsed h.changeAt s.now < s.dwell b then s
      else
        let want := if h.isOn then !k.outPk else k.outVy
        let level := s.get (Reg.BNK_THM_LEVEL b (k.owner.getD 0))
        if want = h.isOn then s
        else if h.cont && decide (level = 3) then
          let s := s.toStop b s.now
          s.setBk b { s.bk b with contDue := true }
        else
          let s := s.chopTo b want
          if h.cont then (s.setBk b { s.bk b with level }).contLevels b else s
    | .recov, _ => if k.outZ then s.recoveryEnd b false else s
    | _, _ => s

/-- The threshold of R342: CL_LIM in a tail, ZTH otherwise. -/
def State.residualTh (s : State) (b : Nat) : Nat :=
  s.get (if (s.bk b).tail.isSome then Reg.BNK_CLCFG_CL_LIM b else Reg.BNK_CFG1_ZTH b)

/-- COMPARATOR_TRIP: comparator `k` (0 peak, 1 valley, 2 zero) changes at shunt voltage `uv`, unless its output holds (R294,
R407, R411). -/
def execComparatorTrip (t : Word) (b : Fin 12) (k : Fin 3) (uv : Nat) (s : State) : Out :=
  let s := s.at t
  .next (if s.cmpHolds b (7 - k) then s
    else
      let s := s.clearBit (Reg.CMP_BK_INIT b) (7 - k)
      let s := if (s.bk b).idle && (s.bk b).residual && !reaches uv (s.residualTh b) then
          s.setBk b { s.bk b with residual := false } else s
      if s.running then s.heddleSees b uv else s)

/-- BLANKING_END: a comparator condition that holds at the end of blanking counts as tripped at that instant (R294). -/
def execBlankingEnd (t : Word) (b : Fin 12) (uv : Nat) (s : State) : Out :=
  let s := s.at t
  .next (if s.running then s.heddleSees b uv else s)

/-- CONT_DWELL_END: the least time of a CONT drive state is over, and a trip that is called for takes place (R320). -/
def execContDwellEnd (t : Word) (b : Fin 12) (uv : Nat) (s : State) : Out :=
  let s := s.at t
  .next (if (s.bk b).inCont ∧ s.dwell b ≤ elapsed (s.bk b).heddle.changeAt t then s.heddleSees b uv else s)

/-- RECOVERY_END_ZTH: the summed current lies below ZTH at or after the end of blanking, as the recovery-zero comparator sees it
(R312, R407); that it falls below is a crossing (R411). -/
def execRecoveryEndZth (t : Word) (b : Fin 12) (uv : Nat) (s : State) : Out :=
  let s := s.at t
  .next (if s.running = true ∧ (s.bk b).heddle.phase = .recov then
      let s := if s.cmpHolds b 5 ∨ reaches uv (s.get (Reg.BNK_CFG1_ZTH b)) then s else s.clearBit (Reg.CMP_BK_INIT b) 5
      let s := s.look b uv
      if s.unblanked b ∧ (s.bk b).outZ then s.recoveryEnd b false else s
    else s)

/-- RECOVERY_END_RMAX: T or RMAX after RECOV's gate change (R312). -/
def execRecoveryEndRmax (t : Word) (b : Fin 12) (s : State) : Out :=
  let s := s.at t
  let h := (s.bk b).heddle
  .next (if h.phase = .recov ∧ h.limit ≤ elapsed h.base t then s.recoveryEnd b true else s)

/-- OVERLAP_RECOVERY_END: a recovery under overlap ends at its entry + RMAX, the instant that its recovery end has (R303). -/
def execOverlapRecoveryEnd (t : Word) (b : Fin 12) (s : State) : Out :=
  let s := s.at t
  .next (match (s.bk b).ovl with
    | some (c, e, pulse) =>
      if notBefore t e then
        let s := (s.markEnd b c e).heatDue b c
        let k := s.bk b
        let s := s.setBk b { k with ovl := none, idleAt := if k.owner.isNone then some (laterOf e (k.idleAt.getD e)) else none }
        let s := if pulse then s.closureResult b c 3 else s
        s.release b c
      else s
    | none => s)

/-- POSTPONE_EXPIRY: a waiting request reaches POSTPONE_MAX and is dropped (R299). -/
def execPostponeExpiry (t : Word) (b : Fin 12) (s : State) : Out := .next (((s.at t).expireWaits b).bnkShow b)

/-- DEAD_TIME_EXPIRY: DEAD after a gate turned off, the gates of the new drive state turn on: a gate change of the bank (R291,
Table 8.11). -/
def execDeadTimeExpiry (t : Word) (b : Fin 12) (s : State) : Out :=
  let s := s.at t
  let k := s.bk b
  .next (match k.gates.next with
    | some x =>
      if notBefore t k.gates.nextAt then
        (s.setBk b { k with gates := k.gates.apply x k.gates.nextAt, heddle := { k.heddle with gateAt := k.gates.nextAt } }
          ).periodRise (0x40 + b.val)
      else s
    | none => s)

/-! ### Commits and decisions (R268, R297, R301, R340, R359) -/

/-- A running test is abandoned without a verdict; a self-test is retried in the same period (R338, R340, R424). -/
def State.dropTests (s : State) (b : Nat) : State :=
  let k := s.bk b
  s.setBk b { k with test := none, selftest := none, retest := k.retest || k.selftest.isSome }

/-- The bank prepares for a committed start: a running test is abandoned, a tail ends (R340, R359, R424). -/
def State.prepare (s : State) (b : Nat) : State := (s.endTail b 3).dropTests b

/-- BANK_COMMIT: the oldest committed start that has not reached the placement unit does so (R268, R301, R664). -/
def execBankCommit (t : Word) (b : Fin 12) (s : State) : Out :=
  let s := s.at t
  .next (match (s.bk b).reqs.find? (fun r => !r.placed) with
    | none => s
    | some r =>
      let s := (s.prepare b).latency Reg.SYS_LAT_COMMIT r.commit
      let r' := { r with placed := true, time := laterOf (laterOf r.time (addW r.commit us)) t }
      let s := s.requeue b r r'
      if s.cutInForce then (s.cancelRequest b r').bnkShow b
      else match s.minOff b r' r'.time with
        | some m => s.postpone b r' m
        | none => s)

/-- A request meets its decision (R297, R304). -/
def State.decideStart (s : State) (b : Nat) (r : Request) : State :=
  if s.cutInForce then s.cancelRequest b r
  else match s.dropCause b r with
    | some cause => s.drop b r cause
    | none =>
      let k := s.bk b
      if k.busyWith r.ch then s.requeue b r { r with waiting := true }
      else match s.minOff b r r.time with
        | some m => s.postpone b r m
        | none => if s.admits b then s.grant b r r.time else s.requeue b r { r with waiting := true }

/-- BANK_START_DECISION: the placement unit decides the first request whose time word has come (R59, R62, R297). -/
def execBankStartDecision (t : Word) (b : Fin 12) (s : State) : Out :=
  let s := s.at t
  .next (match firstRequest ((s.bk b).reqs.filter (fun r => r.placed && !r.waiting && notBefore t r.time)) with
    | some r => (s.decideStart b r).bnkShow b
    | none => s)

/-! ### Stops and cuts (R266, R306, R310) -/

/-- The Shuttle's stop reaches the bank (R310, R313). -/
def State.bankStop (s : State) (b n i : Nat) (t : Word) : State :=
  if (s.bk b).pulse = some (n, i) then s.toStop b t else s

/-- PULSE_STOP: at t_stop the Shuttle stops its pulse at the bank and serves its next entry (R263, R266, R271). -/
def execPulseStop (t : Word) (n : Fin 64) (s : State) : Out :=
  let s := s.at t
  .next (match (s.sh n).pulse with
    | some p =>
      if p.started ∧ notBefore t p.stop then
        let s := if p.stopDone then s else s.commitStop n p
        let s := if s.is (Reg.SHT_CFG_REP_STOP n) then s.report 3 n 2 (p.idx * 2 ^ 37) (some p.stop) else s
        (s.bankStop p.ent.bank n p.idx p.stop).pulseOver n
      else s
    | none => s)

/-- ROTATION_LOST or the injection cut reaches a bank: its pulse goes to its stop vector, requests are cancelled, a tail
ends; CONT goes on (R306, R359, R664). `all` takes the requests that have not reached it too. -/
def State.bankCut (s : State) (b : Nat) (all : Bool) : State :=
  let s := s.endTail b 3
  let k := s.bk b
  let s := match k.pulse with
    | some (n, i) => if k.energised && !k.heddle.stopping then (s.toStop b s.now).pulseCut n i else s
    | none => s
  (((s.bk b).reqs.filter (fun r => r.placed || all)).foldl (fun s r => s.cancelRequest b r) s).bnkShow b

/-- ROTATION_LOST: the token reaches a Shuttle or a bank (R154, R272, R306). -/
def execRotationLost (t : Word) (dst : TokenDest) (s : State) : Out :=
  let s := s.at t
  .next (match dst with
    | .shuttle n =>
      let k := vget s.shTok n
      if k.rotation then
        let s := { s with shTok := vset s.shTok n { k with rotation := false } }
        if s.hasTile 3 n then s.shtLoseAll n else s
      else s
    | .bank b =>
      let k := vget s.bkTok b
      if k.rotation then
        let s := { s with bkTok := vset s.bkTok b { k with rotation := false } }
        if s.hasTile 4 b then s.bankCut b true else s
      else s)

/-! ### Continuous mode commands -/

/-- EN becomes 1 (R318, R319). -/
def State.contEnable (s : State) (b : Nat) : State :=
  let s := s.setBk b { s.bk b with contDue := true }
  s.contTry b false

/-- EN becomes 0 (R321). -/
def State.contDisable (s : State) (b : Nat) : State :=
  let s := s.setBk b { s.bk b with contDue := false }
  if (s.bk b).inCont then s.toStop b s.now else s

/-- CONT_ENABLE: BNKb_CONT.EN is set. -/
def execContEnable (t : Word) (b : Fin 12) (s : State) : Out :=
  let s := s.at t
  .next (if ¬ s.hasTile 4 b then s.wrej
    else if s.is (Reg.BNK_CONT_EN b) then s else (s.set (Reg.BNK_CONT_EN b) 1).contEnable b)

/-- CONT_DISABLE: BNKb_CONT.EN is cleared. -/
def execContDisable (t : Word) (b : Fin 12) (s : State) : Out :=
  let s := s.at t
  .next (if ¬ s.hasTile 4 b then s.wrej
    else if s.is (Reg.BNK_CONT_EN b) then (s.set (Reg.BNK_CONT_EN b) 0).contDisable b else s)

/-- The thresholds of a running CONT follow a new SET or BAND at once (R320). -/
def State.contRetune (s : State) (b : Nat) : State :=
  if (s.bk b).inCont && (s.bk b).heddle.cont then s.contLevels b else s

/-- CONT_SETPOINT_WRITE: SET and BAND are written by the host, or SET by the rail-pressure tile (R293, R320, R322). -/
def execContSetpointWrite (t : Word) (b : Fin 12) (service : Bool) (set : Fin 1024) (band : Fin 256) (s : State) : Out :=
  let s := s.at t
  let w := s.get (Reg.BNK_CONT_WRITER b)
  .next (if !s.hasTile 4 b then (if service then s else s.wrej)
    else if service then
      if w = 1 ∧ set.val ≤ 840 then (s.set (Reg.BNK_CONT_SET b) set).contRetune b else s
    else
      let word := s.reg (Reg.BNK_CONT_addr b)
      let word := (Reg.BNK_CONT_BAND b).put ((Reg.BNK_CONT_SET b).put word set) band
      match regAt (Reg.BNK_CONT_addr b) with
      | some (r, i, _) => (s.writeReg r (Reg.BNK_CONT_addr b) i word).contRetune b
      | none => s)

/-- Clears the counters of Table 6.18, BNKb_WMAX and in banks 0, 4 and 8 BSTg_CNT; what this very instant counts stays (R328). -/
def State.bankClear (s : State) (b : Nat) : State :=
  let s := (s.clearCounts [Reg.BNK_CNT0_DROP_WAIT b, Reg.BNK_CNT0_DROP_OTHER b, Reg.BNK_CNT0_WAITED b, Reg.BNK_CNT1_TRAPS b,
    Reg.BNK_CNT1_EARLY b, Reg.BNK_CNT1_FLTS b]).clearMax (Reg.BNK_WMAX_WAIT b)
  if b % 4 = 0 ∧ s.hasTile 5 (b / 4) then s.clearCounts [Reg.BST_CNT_OVS (b / 4), Reg.BST_CNT_LOWS (b / 4)] else s

/-- BNK_CNT_CLR. -/
def execBnkCntClr (t : Word) (b : Fin 12) (s : State) : Out :=
  let s := s.at t
  .next (if s.hasTile 4 b then s.bankClear b else s.wrej)

/-! ### Boost controllers (R323 to R326, R356, R647) -/

def State.bst (s : State) (g : Nat) : Boost := vget s.boosts g
def State.setBst (s : State) (g : Nat) (k : Boost) : State := { s with boosts := vset s.boosts g k }

/-- The start event (R649, Table 14.9). -/
def State.startEvent (s : State) : State :=
  s.report 0x18 0 5 ((if s.is Reg.SYS_START_LATE then 2 ^ 39 else 0) + s.get Reg.SYS_START_TIME) (some s.now)

/-- Records that the device has become sync-ready (R647, R649, Table 14.11). -/
def State.checkReady (s : State) : State :=
  let boosts := (List.range 3).all (fun g =>
    !(s.hasTile 5 g && s.is (Reg.BST_CFG_MODE g)) || s.is (Reg.BST_STAT_READY g))
  if ¬ s.is Reg.SYS_START_READY ∧ s.running ∧ s.get Reg.SAF_STAT_STATE = 1 ∧ boosts then
    let d := satUI 16 (openRound ((elapsed s.saf.startAt s.now : Rat) / 16000))
    ((s.set Reg.SYS_START_TIME d).set Reg.SYS_START_READY 1).startEvent
  else s

/-- A boost controller is disabled (R324). -/
def State.boostOff (s : State) (g : Nat) : State :=
  (s.set (Reg.BST_STAT_READY g) 0).setBst g { s.bst g with enabled := false, switching := false }

/-- BOOST_ENABLE: MODE, LOOM_RUN and a RUN of Headland since the last reset all hold; a rail at or above VSET does not switch
(R324, R326). -/
def execBoostEnable (t : Word) (g : Fin 3) (s : State) : Out :=
  let s := s.at t
  .next (if s.hasTile 5 g && s.is (Reg.BST_CFG_MODE g) && s.running && s.saf.runSeen && !(s.bst g).enabled then
      (s.set (Reg.BST_STAT_READY g) 0).setBst g { s.bst g with
        enabled := true
        switching := decide (s.get (Reg.BST_STAT_VRAIL g) < 10 * s.get (Reg.BST_CFG_VSET g)) }
    else s)

/-- LOW and OV follow the rail while MODE is BOOST (R324, R326). -/
def State.railLevels (s : State) (g v : Nat) : State :=
  let vset := 10 * s.get (Reg.BST_CFG_VSET g)
  let low := decide (v < vset - 10 * s.get (Reg.BST_LIM_LOW_M g))
  let ov := decide (min (vset + 10 * s.get (Reg.BST_LIM_OV_M g)) 1960 ≤ v)
  let s := if low && !s.is (Reg.BST_STAT_LOW g) then s.inc (Reg.BST_CNT_LOWS g) else s
  let s := if ov && !s.is (Reg.BST_STAT_OV g) then
      ((s.inc (Reg.BST_CNT_OVS g)).report 5 g 1 v (some s.now)).setBst g { s.bst g with ovSince := some s.now, told := false }
    else if !ov then s.setBst g { s.bst g with ovSince := none, told := false } else s
  let s := (s.flag (Reg.BST_STAT_LOW g) low).flag (Reg.BST_STAT_OV g) ov
  if ov then s.stick (Reg.BST_STAT_OV_SEEN g) 1 else s

/-- BOOST_RAIL_SAMPLE: every 10 µs the controller takes the rail voltage [0.05 V] (R323, R324, R326, Table 12.10). -/
def execBoostRailSample (t : Word) (g : Fin 3) (rail : Fin 4096) (s : State) : Out :=
  let s := s.at t
  let v := rail.val
  .next (if !s.hasTile 5 g then s
    else
      let s := (s.set (Reg.BST_STAT_VRAIL g) v).extreme 5 g v false false
      if !s.is (Reg.BST_CFG_MODE g) then
        ((s.set (Reg.BST_STAT_LOW g) 0).set (Reg.BST_STAT_OV g) 0).setBst g { s.bst g with ovSince := none, told := false }
      else
        let vset := 10 * s.get (Reg.BST_CFG_VSET g)
        let k := s.bst g
        let sw := if v < vset - 10 * s.get (Reg.BST_LIM_HYST g) then k.enabled else if vset ≤ v then false else k.switching
        let s := s.setBst g { k with switching := sw }
        let s := if k.enabled ∧ vset ≤ v then s.set (Reg.BST_STAT_READY g) 1 else s
        (s.railLevels g v).checkReady)

/-- BOOST_OV_PERSIST: OV has stayed 1 for 1 ms (R356). -/
def execBoostOvPersist (t : Word) (g : Fin 3) (s : State) : Out :=
  let s := s.at t
  let k := s.bst g
  .next (match k.ovSince with
    | some a =>
      if s.is (Reg.BST_CFG_MODE g) ∧ s.is (Reg.BST_STAT_OV g) ∧ ¬ k.told ∧ ms ≤ elapsed a t then (s.setBst g { k with told := true }).cause 10 g else s
    | none => s)

end Sys2Proof.Machine
end

