-- ==== Sys2Proof/Machine/Diag.lean ====
section
/-!
DEFINITION. Actuator diagnostics, closure detection and coil heat (07_actuator_protection), with the bank comparator
self-test of 08_measurement_front_end (R423 to R426). Commands carry what the comparators and converters see: voltages in
mV or µV, tail codes, drain levels.
-/
namespace Sys2Proof.Machine

/-! ### On-state and cross checks (R332 to R337) -/

/-- OPEN_LOAD_CHECK: OL_T after the entry gate change the current is below OL_ITH, and the peak comparator has not
tripped (R332). -/
def execOpenLoadCheck (t : Word) (b : Fin 12) (uv : Nat) (s : State) : Out :=
  let s := s.at t
  let k := s.bk b
  .next (match k.owner with
    | some c =>
      let d := (s.entryDrive b c).getD 0
      if k.live t ∧ ¬ k.checked ∧ (d = 1 ∨ d = 2)
          ∧ s.get (Reg.BNK_CDCFG_OL_T b c) * us ≤ elapsed k.tStart t then
        let s := s.setBk b { k with checked := true }
        if k.peaked || reaches uv (s.get (Reg.BNK_CDCFG_OL_ITH b c)) then s else s.detect b (some c) 1
      else s
    | none => s)

/-- LS_DESAT: the owner's drain comparator crosses; the drain has been at or above VDS_TH for 0.5 µs and its low side on past
LSD_BLANK (R331, R333, R411). -/
def execLsDesat (t : Word) (b : Fin 12) (mv : Nat) (s : State) : Out :=
  let s := s.at t
  let k := s.bk b
  .next (match k.owner with
    | some c =>
      let wait := s.get (Reg.BNK_DCFG_LSD_BLANK b) * 160 + 800
      let g := k.gatesAt t
      if s.cmpHolds b c then s
      else
        let s := s.clearBit (Reg.CMP_BK_INIT b) c
        if s.get (Reg.BNK_CDCFG_VDS_TH b c) * 50 ≤ mv ∧ g.ls = some c ∧ wait ≤ elapsed g.lsAt t then s.detect b (some c) 3 else s
    | none => s)

/-- HS_DESAT: the desaturation comparator crosses; the conducting path has dropped DSAT_TH or more for 0.2 µs, past DSAT_BLANK
(R331, R335, R411). -/
def execHsDesat (t : Word) (b : Fin 12) (mv : Nat) (s : State) : Out :=
  let s := s.at t
  let k := s.bk b
  let wait := s.get (Reg.BNK_DCFG_DSAT_BLANK b) * 160 + 320
  let g := k.gatesAt t
  .next (if s.cmpHolds b 4 then s
    else
      let s := s.clearBit (Reg.CMP_BK_INIT b) 4
      if s.get (Reg.BNK_DCFG_DSAT_TH b) * 50 ≤ mv ∧ (g.hsb || g.hsv) ∧ wait ≤ elapsed g.hsAt t then s.detect b none 5 else s)

/-- CROSS_CHECK_FAIL: a populated non-owner drain has been below 4.0 V for 1 µs while the high side is on (R336). A drain that
stays low is no crossing, so INIT stays (R411). -/
def execCrossCheckFail (t : Word) (b : Fin 12) (c : Fin 4) (mv : Nat) (s : State) : Out :=
  let s := s.at t
  let k := s.bk b
  .next (if (k.gates.hsb || k.gates.hsv) ∧ k.heddle.blank + us ≤ elapsed k.heddle.gateAt t ∧ s.populated b c
      ∧ k.owner ≠ some c.val ∧ ¬ s.cmpHolds b c ∧ mv < 4000 then
      (s.set (Reg.BNK_CDSTAT_SUSPECT b c) 1).setBk b { k with early := true }
    else s)

/-! ### Off-state test (R338 to R341) -/

/-- OFFT_PERIOD: a period ends (R338). -/
def execOfftPeriod (t : Word) (b : Fin 12) (s : State) : Out :=
  let s := s.at t
  let k := s.bk b
  .next (if s.hasTile 4 b ∧ s.running ∧ s.get (Reg.BNK_DCFG_OFFT_PER b) * ms ≤ elapsed k.period t then
      let s := if k.tested || !s.is (Reg.BNK_DCFG_OFFT_EN b) then s else s.inc (Reg.BNK_DCNT_OFFT_MISS b)
      s.setBk b { k with period := t, tested := false, retest := false }
    else s)

/-- The conditions of R338 for a test on the bank, with none running. -/
def State.testable (s : State) (b : Nat) : Bool :=
  let k := s.bk b
  s.hasTile 4 b && s.running && s.is (Reg.BNK_DCFG_OFFT_EN b) && k.test.isNone && k.selftest.isNone && k.idle && k.tail.isNone
    && k.reqs.isEmpty

/-- OFFT_START: the test of the period, or an early one, starts on an idle bank (R338, R339); with that test done, the retry of a
self-test that a commit ended (R424, log entry 131). -/
def execOfftStart (t : Word) (b : Fin 12) (s : State) : Out :=
  let s := s.at t
  let k := s.bk b
  .next (if ¬ s.testable b then s
    else if !k.tested || k.early then s.setBk b { k with test := some t }
    else if k.retest && s.is Reg.CMP_CTRL_ST_EN then s.setBk b { k with selftest := some t, retest := false }
    else s)

/-- The code of a drain in BNKb_OFFT.LEVELS: 0 LOW, 1 MID, 2 HIGH, 3 not tested (R339). -/
def State.drainLevel (s : State) (b low high c : Nat) : Nat :=
  if !s.populated b c then 3 else if low / 2 ^ c % 2 = 1 then 0 else if high / 2 ^ c % 2 = 1 then 2 else 1

/-- The verdict of Table 7.3 over the populated channels' levels. -/
def offVerdict (ls : List Nat) (blim : Bool) : Nat :=
  let pop := ls.filter (fun l => decide (l ≠ 3))
  let all := fun (x : Nat) => pop.all (fun l => decide (l = x))
  if all 1 && !blim then 0
  else if all 2 then 8
  else if all 0 && decide (2 ≤ pop.length) then (if blim then 7 else 6)
  else if pop.all (fun l => decide (l = 0 ∨ l = 1)) && !blim then 2
  else 10

/-- A latch clears by retry (R351). -/
def State.retryChannel (s : State) (b c : Nat) : State :=
  if s.is (Reg.BNK_CDSTAT_LATCH b c) ∧ 0 < s.get (Reg.BNK_CDSTAT_RETRY_LEFT b c) then
    (s.set (Reg.BNK_CDSTAT_LATCH b c) 0).set (Reg.BNK_CDSTAT_RETRY_LEFT b c) (s.get (Reg.BNK_CDSTAT_RETRY_LEFT b c) - 1)
  else s

def State.retryBank (s : State) (b : Nat) : State :=
  if s.is (Reg.BNK_DSTAT_LATCH b) ∧ 0 < s.get (Reg.BNK_DSTAT_BRETRY_LEFT b) then
    (s.set (Reg.BNK_DSTAT_LATCH b) 0).set (Reg.BNK_DSTAT_BRETRY_LEFT b) (s.get (Reg.BNK_DSTAT_BRETRY_LEFT b) - 1)
  else s

/-- What an off-state verdict does (R341, R343, R346, R351). -/
def State.offReact (s : State) (b verdict : Nat) (ls : List Nat) : State :=
  let s := s.setBk b { s.bk b with shortSupply := decide (verdict = 8) }
  if verdict = 0 then
    let s := (List.range 4).foldl (fun s c => s.retryChannel b c) s
    (if (s.bk b).cmpLatch then s else s.retryBank b).contTry b false
  else if verdict = 2 then
    ls.zipIdx.foldl (fun s (l, c) => if l = 0 then s.detect b (some c) 2 else s) s
  else s.detect b none verdict

/-- OFFT_DECIDE: 60 µs after its start the test ends with its verdict. `low` and `high` say which drains were below
1.5 V at step 2 and at or above 4.5 V at step 3, `blim` that the source was at its limit (R339, R341, Table 7.2); a drain that
the bias lifts past a threshold is a crossing of its comparator (R411). -/
def execOfftDecide (t : Word) (b : Fin 12) (low high : Fin 16) (blim : Bool) (s : State) : Out :=
  let s := s.at t
  let k := s.bk b
  .next (match k.test with
    | some a =>
      if s.is (Reg.BNK_DCFG_OFFT_EN b) ∧ 60 * us ≤ elapsed a t then
        let ls := (List.range 4).map (fun c => s.drainLevel b low high c)
        let v := offVerdict ls blim
        let code := ls.zipIdx.foldl (fun n (l, c) => n + l * 4 ^ c) 0
        let s := (((s.set (Reg.BNK_OFFT_LEVELS b) code).flag (Reg.BNK_OFFT_BLIM b) blim).set (Reg.BNK_OFFT_VERDICT b) v)
        let s := (List.range 4).foldl (fun s c => s.set (Reg.BNK_CDSTAT_SUSPECT b c) 0) s
        let s := (List.range 4).foldl (fun s c => if ls.getD c 3 = 1 ∨ ls.getD c 3 = 2 then s.clearBit (Reg.CMP_BK_INIT b) c else s) s
        let s := s.setBk b { k with
          test := none, tested := true, early := false, retest := false
          selftest := if s.is Reg.CMP_CTRL_ST_EN then some t else none }
        s.offReact b v ls
      else s
    | none => s)

/-- The outputs that a bank's comparators must have at the end of phases 1 to 4, bits as in CMP_BKb.INIT: valley and recovery zero
are active below their threshold (Table 8.13). -/
def selftestExpected (phase : Nat) : Nat := if phase % 2 = 0 then 0x60 else 0x9F

/-- The comparators that failed a bank's self-test, from their outputs at the end of the four phases (R423, R426). -/
def selftestFails (outs : List Nat) : Nat := outs.zipIdx.foldl (fun m (o, p) => m ||| (o ^^^ selftestExpected p)) 0

/-- BANK_SELFTEST_DONE: 2.0 µs after its start the comparator self-test that follows an off-state test ends; `outs` has the
outputs of the bank's comparators at the end of its four phases, bits 7..4 peak, valley, zero, desaturation, 3..0 the drains
(R423, R424, R426). -/
def execBankSelftestDone (t : Word) (b : Fin 12) (outs : Vector (Fin 256) 4) (s : State) : Out :=
  let s := s.at t
  let k := s.bk b
  let fails := selftestFails (outs.toList.map (·.val))
  .next (if k.selftest.any (fun a => decide (2 * us ≤ elapsed a t)) then
      let s := ((s.setBk b { k with selftest := none }).set (Reg.CMP_BK_FAILMASK b) fails).incMod (Reg.CMP_BK_ST_RUNS b)
      let s := if fails = 0 then s.clearBit Reg.CMP_STAT_BANK_STF b else s.setBit Reg.CMP_STAT_BANK_STF b
      if fails = 0 then
        if k.cmpLatch then
          let s := s.retryBank b
          (s.setBk b { s.bk b with cmpLatch := s.is (Reg.BNK_DSTAT_LATCH b) }).contTry b false
        else s
      else
        let s := s.detect b none 11
        s.setBk b { s.bk b with cmpLatch := true }
    else s)

/-! ### Residual current (R342) -/

/-- RESIDUAL: from 10 µs after a recovery end the current has been at or above its threshold for RESID_T (R331, R342); that it rose
there is a crossing of the recovery-zero comparator (R411). -/
def execResidual (t : Word) (b : Fin 12) (uv : Nat) (s : State) : Out :=
  let s := s.at t
  let k := s.bk b
  .next (match k.idleAt with
    | some a =>
      let wait := 10 * us + s.get (Reg.BNK_DCFG_RESID_T b) * us
      if k.idle ∧ ¬ k.residual ∧ wait ≤ elapsed a t ∧ ¬ s.cmpHolds b 5 ∧ reaches uv (s.residualTh b) then
        ((s.clearBit (Reg.CMP_BK_INIT b) 5).setBk b { k with residual := true }).detect b none 9
      else s
    | none => s)

/-! ### Tails (R360 to R363) -/

/-- The closure of a tail whose newest mean is `a` (means are four samples summed): CLRES and the delivery (R361, R362). -/
def State.closureFound (s : State) (b : Nat) (tl : Tail) (prev a : Nat) : State :=
  let frac := s.get (Reg.BNK_CLCFG_CL_FRAC b)
  -- the crossing, in sixteenths of a summed mean, lies (16 prev - peak frac) / (16 (prev - a)) of 0.5 µs after t(i-1)
  let back : Int := rdiv (800 * (16 * prev - tl.peak * frac : Int) - 2000 * (16 * (prev - a))) (16 * (prev - a))
  let clo := s.now + wordOf back
  let s := (s.set (Reg.BNK_CLRES_PEAK b tl.ch) (openRound ((tl.peak : Rat) / 4)).toNat).set (Reg.BNK_CLRES_DELAY b tl.ch)
    (satU 24 (elapsed tl.tStop clo))
  let s := s.endTail b 1
  { s with closures := s.closures ++ [{ bank := b, ch := tl.ch, tStart := tl.tStart, tStop := tl.tStop, at_ := clo, drift := tl.drift }] }

/-- TAIL_SAMPLE: the tail converter samples code `v` of the shunt, 12.5 µV a step (R360, R361). -/
def execTailSample (t : Word) (b : Fin 12) (v : Fin 1024) (s : State) : Out :=
  let s := s.at t
  let k := s.bk b
  .next (match k.tail with
    | none => s
    | some tl =>
      if elapsed tl.start t < s.get (Reg.BNK_CLCFG_CL_BLANK b) * 2 * us then s
      else
        let samples := (v.val :: tl.samples).take 4
        let tl := { tl with samples, count := tl.count + 1 }
        if samples.length < 4 then s.setBk b { k with tail := some tl }
        else
          let a := samples.foldl (· + ·) 0
          let prev := tl.before
          let up := decide (tl.peak < a)
          let tl := { tl with
            before := some a, peak := if up then a else tl.peak, peakAt := if up then tl.count else tl.peakAt }
          let s := s.setBk b { k with tail := some tl }
          match prev with
          | some p =>
            if tl.peakAt < tl.count ∧ 4 * s.get (Reg.BNK_CLCFG_CL_MIN b) ≤ tl.peak ∧ a < p
                ∧ 16 * a < tl.peak * s.get (Reg.BNK_CLCFG_CL_FRAC b) then s.closureFound b tl p a
            else s
          | none => s)

/-- TAIL_WINDOW_END: CLW after the recovery end the tail ends without a closure (R359). -/
def execTailWindowEnd (t : Word) (b : Fin 12) (s : State) : Out :=
  let s := s.at t
  .next (match (s.bk b).tail with
    | some tl => if s.get (Reg.BNK_CLCFG_CLW b) * 2 * us ≤ elapsed tl.start t then s.endTail b 2 else s
    | none => s)

/-! ### Latches (R352, R353) -/

/-- What a command of this instant detects on bank `b`. -/
def State.detectStep (b : Nat) (s : State) (c : Instr) : State :=
  let go := fun (t : Word) (x : Fin 12) (o : Out) => if t = s.now ∧ x.val = b then s.after o else s
  match c with
  | .openLoadCheck t x uv => go t x (execOpenLoadCheck t x uv s)
  | .comparatorTrip t x k uv => go t x (execComparatorTrip t x k uv s)
  | .blankingEnd t x uv => go t x (execBlankingEnd t x uv s)
  | .lsDesat t x mv => go t x (execLsDesat t x mv s)
  | .hsDesat t x mv => go t x (execHsDesat t x mv s)
  | .offtDecide t x low high blim => go t x (execOfftDecide t x low high blim s)
  | .bankSelftestDone t x outs => go t x (execBankSelftestDone t x outs s)
  | _ => s

/-- A latch is set at this instant: by a detection made already, or by one whose command waits in the queue (R353). -/
def State.detectsNow (s : State) (b : Nat) (c : Option Nat) : Bool :=
  decide (vget ((s.pending.foldl (State.detectStep b) s).bk b).latchAt (latchIdx c) = some s.now)

/-- A host clear of a latch reloads its retries (R352); at the instant of a detection it has no effect (R353). -/
def State.latchClear (s : State) (b : Nat) (c : Option Nat) : State :=
  let k := s.bk b
  if s.detectsNow b c then s
  else
    let left := s.get (retryFld b c)
    let s := s.setBk b { k with clearAt := vset k.clearAt (latchIdx c) (some (s.now, left)) }
    let s := (s.set (latchFld b c) 0).set (retryFld b c)
      (match c with
        | some c => s.get (Reg.BNK_CDCFG_RETRY b c)
        | none => s.get (Reg.BNK_DCFG_BRETRY b))
    (match c with
      | some _ => s
      | none => s.setBk b { s.bk b with cmpLatch := false }).contTry b false

/-- LATCH_CLEAR: a host write of 1 to the LATCH of channel `c`, or of the bank (R34, R352). -/
def execLatchClear (t : Word) (b : Fin 12) (c : Option (Fin 4)) (s : State) : Out :=
  let s := s.at t
  .next (if s.hasTile 4 b then s.latchClear b (c.map (·.val)) else s.wrej)

/-! ### Coil heat (R364 to R371) -/

/-- exp(-num/den), to about 18 digits: the series of exp(-y/64) in 64-bit fractions, squared six times. -/
def expNeg (num den : Nat) : Rat :=
  if den = 0 ∨ 64 * den ≤ num then 0
  else
    let y : Nat := num * 2 ^ 64 / (64 * den)
    let e : Nat := (List.range 20).foldr (fun (k a : Nat) => 2 ^ 64 - y * a / 2 ^ 64 / (k + 1)) (2 ^ 64)
    let e : Nat := (List.range 6).foldl (fun (e : Nat) _ => e * e / 2 ^ 64) e
    mkRat (e : Int) (2 ^ 64)

/-- TAMB in °C (Table 7.9). -/
def State.tAmb (s : State) (b : Nat) : Int := (s.get (Reg.BNK_THCFG_TAMB b) : Int) - 40

/-- The new T of R365 in °C. -/
def State.heatModel (s : State) (b c : Nat) : Rat :=
  let th := vget (s.bk b).thermal c
  let amb : Rat := s.tAmb b
  let t0 : Rat := (s.getI (Reg.BNK_THM_TEMP b c) : Rat) / 16
  let rRef : Rat := (s.get (Reg.BNK_THP_R_REF b c) : Rat)
  let e := expNeg (elapsed th.last s.now) (s.get (Reg.BNK_THP_TAU b c) * 1600000000)
  let t1 := amb + (t0 - amb) * e
  let t2 := match th.pulse with
    | some (band, d) =>
      let im : Rat := (band : Rat) * (5 / 4) / (s.get (Reg.BNK_CFG_RSHUNT b) : Rat)
      let r : Rat := rRef / 10000 * (1 + 393 / 100000 * (t1 - 20))
      t1 + im * im * r * ((d : Rat) / 1600000000) / ((s.get (Reg.BNK_THP_C_TH b c) : Rat) / 10)
    | none => t1
  match th.meas with
  | some r =>
    let tm := 20 + ((r - (s.get (Reg.BNK_THP_R_EXT b c) : Rat)) / rRef - 1) / (393 / 100000)
    t2 + (tm - t2) / 2 ^ s.get (Reg.BNK_THCFG_TH_SH b)
  | none => t2

/-- The threshold of a thermal level in 1/16 °C (Table 7.6). -/
def State.levelAt (s : State) (b l : Nat) : Int :=
  16 * s.get (if l = 1 then Reg.BNK_THCFG_TH1 b else if l = 2 then Reg.BNK_THCFG_TH2 b else Reg.BNK_THCFG_TH3 b)

/-- The level that follows from T in 1/16 °C (R368). -/
def State.nextLevel (s : State) (b old : Nat) (temp : Int) : Nat :=
  let up := if s.levelAt b 3 ≤ temp then 3 else if s.levelAt b 2 ≤ temp then 2 else if s.levelAt b 1 ≤ temp then 1 else 0
  if old < up then up
  else if old = 0 then 0
  else if temp < s.levelAt b old - 16 * s.get (Reg.BNK_THCFG_HYS b) then old - 1
  else old

/-- A thermal level change (R368, R371); a pulse keeps its level, and CONT takes the new one at its next trip (R370). -/
def State.setLevel (s : State) (b c new : Nat) : State :=
  let s := (s.set (Reg.BNK_THM_LEVEL b c) new).bankEvent b 13 c new s.now
  let s :=
    if new = 3 then
      ((s.bk b).reqs.filter (fun r => r.waiting && decide (r.ch = c))).foldl
        (fun s r => s.drop b r ((s.dropCause b r).getD 11)) s
    else s.contTry b false
  s.bnkShow b

/-- While R_REF is 0 the model does not run, VALID is 0 and LEVEL is 0; a level that falls so is a change (R367, R370). -/
def State.thermalOff (s : State) (b c : Nat) : State :=
  if s.get (Reg.BNK_THP_R_REF b c) ≠ 0 then s
  else
    let s := s.set (Reg.BNK_THM_VALID b c) 0
    if s.get (Reg.BNK_THM_LEVEL b c) = 0 then s else s.setLevel b c 0

/-- One step of a channel's thermal model (R365 to R368). -/
def State.thermalStep (s : State) (b c : Nat) : State :=
  let s := s.contWindow b
  let k := s.bk b
  let th := vget k.thermal c
  let clear := fun (s : State) =>
    s.setBk b { s.bk b with thermal := vset (s.bk b).thermal c { last := s.now, pulse := none, meas := none } }
  if s.get (Reg.BNK_THP_R_REF b c) = 0 then
    clear (s.thermalOff b c)
  else
    let temp := satS 16 (openRound (16 * s.heatModel b c))
    let s' := s.setI (Reg.BNK_THM_TEMP b c) temp
    let s' := match th.meas with
      | some r => (s'.set (Reg.BNK_THM_RMEAS b c) (satUI 16 (openRound r))).set (Reg.BNK_THM_VALID b c) 1
      | none => s'
    let s' := clear s'
    let s' := if s'.is (Reg.BNK_THM_VALID b c) then s'.extreme 4 (4 * b + c) temp false true else s'
    let old := s.get (Reg.BNK_THM_LEVEL b c)
    let new := s'.nextLevel b old temp
    if new = old then s' else s'.setLevel b c new

/-- THERMAL_STEP: at a recovery end of channel `c`, and every 10 ms while it has no pulse that drives or recovers (R365). -/
def execThermalStep (t : Word) (b : Fin 12) (c : Fin 4) (s : State) : Out :=
  let s := s.at t
  let k := s.bk b
  let th := vget k.thermal c.val
  .next (if s.hasTile 4 b ∧ (th.due ∨ (10 * ms ≤ elapsed th.last t ∧ ¬ (k.owner = some c.val ∧ k.pulse.isSome)
      ∧ ¬ k.ovl.any (fun o => o.1 == c.val && o.2.2))) then
      s.thermalStep b c
    else s)

/-- Clears BNKb_DCNT; what this very instant counts stays (R372). -/
def State.dcntClear (s : State) (b : Nat) : State :=
  s.clearCounts [Reg.BNK_DCNT_DIAGS b, Reg.BNK_DCNT_DROP_FAULT b, Reg.BNK_DCNT_DROP_HOT b, Reg.BNK_DCNT_OFFT_MISS b]

/-- BNK_DCNT_CLR (R34, R372). -/
def execBnkDcntClr (t : Word) (b : Fin 12) (s : State) : Out :=
  let s := s.at t
  .next (if s.hasTile 4 b then s.dcntClear b else s.wrej)

end Sys2Proof.Machine
end

