-- ==== Sys2Proof/Machine/Inputs.lean ====
section
/-!
DEFINITION. Pressure inputs and the rail-pressure loop (09_engine_services, R429, R430, R472 to R476).
-/
namespace Sys2Proof.Machine

/-- Rounds to the nearest integer where the spec does not say which way a half goes (log entry 10). -/
def nearestOpen (q : Rat) : Int :=
  if (2 * q).den = 1 ∧ q.den ≠ 1 then q.floor + (if Config.roundsUp q then 1 else 0) else roundUp q

/-! ### Rail pressure (R472 to R476) -/

/-- The rail tile runs. -/
def State.railOn (s : State) : Bool := s.hasTile 0x0B 0 && s.running && s.is Reg.RP_CFG_EN

/-- PINp's VALUE while it is valid. -/
def State.pinNow (s : State) (p : Nat) : Option Int :=
  if s.is (Reg.SVC_PINSTAT_VALID p) then some (s.getI (Reg.SVC_PINSTAT_VALUE p)) else none

/-- A rail event (Table 11.5): 1 DISAGREE, 2 SENSF, 3 OVP. -/
def State.railEvent (s : State) (code : Nat) : State :=
  (s.inc Reg.RP_STAT_EVENTS).report 0x0B 0 code (s.get Reg.RP_STAT_P_MEAS * 2 ^ 20) (some s.now)

/-- Writes SET := round(u × RSHUNT / 0.25 mV) of every bank whose CONT the tile writes, `u` in mA (R322, R475). -/
def State.railSet (s : State) (u : Rat) : State :=
  (List.range 12).foldl (fun s b =>
    if s.hasTile 4 b ∧ s.is (Reg.BNK_CONT_WRITER b) then
      let v := clampI 0 840 (nearestOpen (u * s.get (Reg.BNK_CFG_RSHUNT b) / 2500))
      (s.set (Reg.BNK_CONT_SET b) v.toNat).contRetune b
    else s) s

/-- u becomes `u` mA. -/
def State.railOut (s : State) (u : Rat) : State := (s.set Reg.RP_STAT_U (satUI 12 (openRound u))).railSet u

/-- Forms p_meas anew (R472, R476): with neither input valid the tile applies FAIL. A tile that does not run forms no p_meas, and its
10 ms begin anew. -/
def State.railForm (s : State) : State :=
  if ¬ s.railOn then { s with rail := { s.rail with disSince := none, higher := false, ovpSince := none, ovpTold := false } }
  else
    let a := s.pinNow 0
    let b := s.pinNow 1
    let apart := match a, b with
      | some x, some y => decide ((s.get Reg.RP_CFG_RP_DEV : Int) < (x - y).natAbs)
      | _, _ => false
    let k := s.rail
    let k := if apart then { k with disSince := some (k.disSince.getD s.now) } else { k with disSince := none, higher := false }
    match (match a, b with
        | some x, some y => some (if k.higher then max x y else x)
        | some x, none => some x
        | none, y => y) with
    | none =>
      let s' := { s with rail := { k with ovpSince := none, ovpTold := false } }
      let s' := s'.set Reg.RP_STAT_BACKUP 0
      let s' := if s.is Reg.RP_STAT_SENSF then s' else ((s'.set Reg.RP_STAT_SENSF 1).railEvent 2).cause 17 0
      s'.railOut (s.get Reg.RP_OUT_FAIL)
    | some p =>
      let high := decide ((s.get Reg.RP_LIM_RP_MAX : Int) ≤ p)
      let k := { k with
        ovpSince := if high then some (k.ovpSince.getD s.now) else none, ovpTold := high && k.ovpTold }
      let s := ({ s with rail := k }.set Reg.RP_STAT_P_MEAS (satUI 20 p)).flag Reg.RP_STAT_BACKUP a.isNone
      s.set Reg.RP_STAT_SENSF 0

/-- Forms p_meas anew; the condition of RAIL_OVP follows (R668). -/
def State.railEval (s : State) : State := s.railForm.cutWatch

/-- RAIL_LOOP_STEP: every RP_PER the loop forms u and writes SET (R474, R475). I_int is exact, in mA × 65,536 × 10^7. -/
def execRailLoopStep (t : Word) (s : State) : Out :=
  let s := s.at t
  .next (if ¬ s.railOn ∨ elapsed s.rail.stepAt t < s.get Reg.RP_CFG_RP_PER * 160000 then s
    else
      let s := { s with rail := { s.rail with stepAt := t } }.railEval
      if s.is Reg.RP_STAT_SENSF then s
      else
        let unit : Int := 655360000000
        let lo := s.get Reg.RP_OUT_IMIN * unit
        let hi := s.get Reg.RP_OUT_IMAX * unit
        let sgn : Int := if s.is Reg.RP_CFG_INV then -1 else 1
        let e : Int := s.rail.pset - s.get Reg.RP_STAT_P_MEAS
        let raw := s.get Reg.RP_OUT_FF * unit + sgn * (s.get Reg.RP_GAIN_KP * e * 10000 + s.rail.iint)
        let u := clampI lo hi raw
        let more := s.get Reg.RP_GAIN_KI * e * s.get Reg.RP_CFG_RP_PER
        let stuck := decide ((hi < raw ∧ 0 < sgn * more) ∨ (raw < lo ∧ sgn * more < 0))
        let i := if stuck then s.rail.iint else clampI (lo - hi) (hi - lo) (s.rail.iint + more)
        { s with rail := { s.rail with iint := i } }.railOut ((u : Rat) / unit))

/-- SETPOINT_RAMP: each millisecond p_set moves toward RP_SET by at most RAMP (R473). -/
def execSetpointRamp (t : Word) (s : State) : Out :=
  let s := s.at t
  .next (if ¬ s.railOn ∨ elapsed s.rail.rampAt t < ms then s
    else
      let r := s.get Reg.RP_SET_RAMP
      let goal := s.get Reg.RP_SET_RP_SET
      let p := s.rail.pset
      let p := if p < goal then min goal (p + r) else max goal (p - r)
      { s with rail := { s.rail with pset := p, rampAt := t } })

/-- PIN_DISAGREE: PIN0 and PIN1 have differed by more than RP_DEV for 10 ms (R472). -/
def execPinDisagree (t : Word) (s : State) : Out :=
  let s := s.at t
  .next (if s.railOn ∧ ¬ s.rail.higher ∧ s.rail.disSince.any (fun a => decide (10 * ms ≤ elapsed a t)) then
      ({ s with rail := { s.rail with higher := true } }.railEval.stick Reg.RP_STAT_DISAGREE 1).railEvent 1
    else s)

/-- RAIL_OVERPRESSURE: p_meas has been at or above RP_MAX for 10 ms (R476). -/
def execRailOverpressure (t : Word) (s : State) : Out :=
  let s := s.at t
  .next (if s.railOn ∧ ¬ s.rail.ovpTold ∧ s.rail.ovpSince.any (fun a => decide (10 * ms ≤ elapsed a t)) then
      (({ s with rail := { s.rail with ovpTold := true } }.stick Reg.RP_STAT_OVP 1).railEvent 3).cause 18 0
    else s)

/-! ### Pressure inputs (R429, R430) -/

/-- Sets VALID of PINp: a delivery within the last 5 ms, no bad open-wire verdict of an SE source, VALUE in [RLO, RHI). -/
def State.pinCheck (s : State) (p : Nat) : State :=
  let src := s.get (Reg.SVC_PINCFG_SRC p)
  let v := s.getI (Reg.SVC_PINSTAT_VALUE p)
  let ok := decide (src ≠ 0x3F) && (vget s.pins p).any (fun a => decide (elapsed a s.now < 5 * ms))
    && (decide (src < 24) || decide (s.get (Reg.ADC_OW_VERDICT src) ≤ 1))
    && decide (s.get (Reg.SVC_PINCFG_RLO p) ≤ v ∧ v < s.get (Reg.SVC_PINCFG_RHI p))
  s.flag (Reg.SVC_PINSTAT_VALID p) ok

/-- The code of source `src`: the last frame's fast channel 1, or the VALUE of ADC_INi (R429). -/
def State.pinCode (s : State) (src : Nat) : Int :=
  if src < 8 then s.get (Reg.SENT_DATA_FC1 src) else s.getI (Reg.ADC_IN_VALUE src)

/-- VALUE of PINp, from its source's code (R429). -/
def State.pinForm (s : State) (p : Nat) : State :=
  let src := s.get (Reg.SVC_PINCFG_SRC p)
  if src = 0x3F then s
  else
    let v := s.getI (Reg.SVC_PINSCL_OFFS p) + nearestOpen ((s.get (Reg.SVC_PINSCL_SCALE p) * s.pinCode src : Int) / 65536)
    s.setI (Reg.SVC_PINSTAT_VALUE p) (satS 24 v)

/-- Source `src` has delivered its code; after one that is not `good` the input is not valid (R430). -/
def State.pinDeliver (s : State) (src : Nat) (good : Bool) : State :=
  if (List.range 4).all (fun p => decide (s.get (Reg.SVC_PINCFG_SRC p) ≠ src)) then s
  else
    ((List.range 4).foldl (fun s p =>
      if s.get (Reg.SVC_PINCFG_SRC p) = src then
        ({ s with pins := vset s.pins p (if good then some s.now else none) }.pinForm p).pinCheck p
      else s) s).railEval

/-- The open-wire verdict of input `i` has changed (R430). -/
def State.pinVerdict (s : State) (i : Nat) : State :=
  if (List.range 4).all (fun p => decide (s.get (Reg.SVC_PINCFG_SRC p) ≠ i)) then s
  else ((List.range 4).foldl (fun s p => if s.get (Reg.SVC_PINCFG_SRC p) = i then s.pinCheck p else s) s).railEval

/-- A write of SVC_PINCFGp or SVC_PINSCLp: a new source has delivered nothing yet; VALUE follows SRC, OFFS and SCALE, and VALID
SRC, RLO and RHI (R429, R430). -/
def State.pinConfig (s : State) (p : Nat) (old new : Word) : State :=
  let s := if (Reg.SVC_PINCFG_SRC p).get old = (Reg.SVC_PINCFG_SRC p).get new then s else { s with pins := vset s.pins p none }
  ((s.pinForm p).pinCheck p).railEval

/-- PIN_TIMEOUT: the source of PINp has not delivered for 5 ms (R430, R476). -/
def execPinTimeout (t : Word) (p : Fin 4) (s : State) : Out := .next (((s.at t).pinCheck p).railEval)

end Sys2Proof.Machine
end

