-- ==== Sys2Proof/Machine/Front.lean ====
section
/-!
DEFINITION. Converters, sequencers, window monitors, period timers and the monitor self-tests (08_measurement
_front_end). A trigger arrives at its time word; a conversion's raw code and a comparator's input are what the command
carries.
-/
namespace Sys2Proof.Machine

def State.sq (s : State) (k : Nat) : Sequencer := vget s.seqs k
def State.setSq (s : State) (k : Nat) (q : Sequencer) : State := { s with seqs := vset s.seqs k q }

/-- SEQk_CFG.TRIG codes (Table 8.3). -/
abbrev tgHost : Nat := 1
abbrev tgTimer : Nat := 2
abbrev tgGate : Nat := 3
abbrev tgGrid : Nat := 4
abbrev tgChain : Nat := 5

/-- Shows RUN, PEND and WIN (Table 8.20). -/
def State.seqShow (s : State) (k : Nat) : State :=
  (s.flag (Reg.SEQ_STAT_RUN k) (s.sq k).run.isSome).flag (Reg.SEQ_STAT_PEND k) (s.sq k).pend.isSome

/-- The sequencer accepts triggers. -/
def State.seqOn (s : State) (k : Nat) : Bool := s.hasTile 6 k && s.running && s.is (Reg.SEQ_CTRL_EN k)

def State.trigOf (s : State) (k : Nat) : Nat := s.get (Reg.SEQ_CFG_TRIG k)
def State.slotOf (s : State) (k : Nat) : Nat := s.get (Reg.SEQ_CFG_SLOT k)

/-! ### Buffers (R395 to R400) -/

/-- Writes the next buffer word and moves the write pointer, which wraps (R400). While TRACE is not on the write completes
with DOMAIN_OFF (R653, R655). -/
def State.bufWord (s : State) (k : Nat) (w : Word) : State :=
  let a := s.get (Reg.SEQ_STAT_WPTR k)
  let base := s.get (Reg.SEQ_BUF_BASE k)
  let n := if a + 1 = base + 2 ^ s.get (Reg.SEQ_BUF_LOG2LEN k) then base else a + 1
  (if s.domain 2 = 0 then s.traceSet a w else s).set (Reg.SEQ_STAT_WPTR k) n

/-- Three samples in a word, the earliest in bits 47..32 (R7). -/
def pack3 (l : List Nat) : Word := BitVec.ofNat 48 (l.foldl (fun a v => a * 65536 + v) 0)

/-- Writes one sample of a PACK3 buffer (R399). -/
def State.packSample (s : State) (k v : Nat) : State :=
  let l := (s.sq k).pack ++ [v]
  if l.length = 3 then (s.setSq k { s.sq k with pack := [] }).bufWord k (pack3 l)
  else s.setSq k { s.sq k with pack := l }

/-- Completes a partly filled PACK3 word with 0x8000 (R398). -/
def State.packFlush (s : State) (k : Nat) : State :=
  let l := (s.sq k).pack
  if l = [] then s
  else (s.setSq k { s.sq k with pack := [] }).bufWord k (pack3 (l ++ List.replicate (3 - l.length) 0x8000))

/-- Writes a result, given as the word of Table 8.5, to the buffer (R399). -/
def State.bufResult (s : State) (k : Nat) (w : Word) : State :=
  if s.is (Reg.SEQ_CFG_FORMAT k) then s.bufWord k w else s.packSample k ((Reg.ADC_IN_VALUE 0).get w)

/-- Writes 0x8000 in place of the samples of a discarded pass, from entry `e` on (R396). -/
def State.fillFrom (s : State) (k : Nat) : Nat → Nat → State
  | 0, _ => s
  | n + 1, e =>
    let r := s.free
    let w := (Reg.ADC_IN_INPUT 0).put ((Reg.ADC_IN_VALUE 0).put r.1 0x8000) (s.get (Reg.SEQ_ENT_INPUT k e))
    ((if s.is (Reg.SEQ_CFG_FORMAT k) then r.2 else s).bufResult k w).fillFrom k n (e + 1)

/-- Writes the marks of `n` discarded passes. -/
def State.fillPasses (s : State) (k n : Nat) : State :=
  (List.range n).foldl (fun s _ => s.fillFrom k (s.get (Reg.SEQ_CFG_NENT k) + 1) 0) s

/-! ### Triggers (R390 to R394) -/

/-- A trigger with time word `t` arrives: it waits in the pending slot, or is discarded when the slot is full (R392). -/
def State.seqTrigger (s : State) (k : Nat) (t : Word) : State :=
  let q := s.sq k
  if ¬ s.seqOn k then s
  else if q.pend.isNone then (s.setSq k { q with pend := some { t, at_ := s.now } }).seqShow k
  else
    let s := s.inc (Reg.SEQ_CNT0_OVERRUN k)
    let s := if s.trigOf k = tgGrid then s.setSq k { q with fillsPend := q.fillsPend + 1 } else s
    s.report 6 k 1 (s.get (Reg.SEQ_CNT0_OVERRUN k)) (some t)

/-- SEQ_GO: a host write of GO triggers a HOST pass at the instant of acceptance (R34, R390, Table 8.3). -/
def execSeqGo (t : Word) (k : Fin 16) (s : State) : Out :=
  let s := s.at t
  .next (if ¬ s.hasTile 6 k then s.wrej else if s.trigOf k = tgHost then s.seqTrigger k t else s)

/-- A write of EN: the periods of SEQk_TIMER run from it (Table 8.3). -/
def State.seqEnable (s : State) (k : Nat) (en : Bool) : State :=
  if ¬ s.hasTile 6 k ∨ s.is (Reg.SEQ_CTRL_EN k) = en then s
  else
    let t := if en then some (addW s.now (s.get (Reg.SEQ_TIMER_PER k) * us)) else none
    (s.flag (Reg.SEQ_CTRL_EN k) en).setSq k { s.sq k with timer := t }

/-- SEQ_EN: the host writes SEQk_CTRL.EN (R34). -/
def execSeqEn (t : Word) (k : Fin 16) (en : Bool) (s : State) : Out :=
  let s := s.at t
  .next (if s.hasTile 6 k then s.seqEnable k en else s.wrej)

/-- SEQ_TIMER: a period instant triggers a pass of a TIMER sequencer (Table 8.3). -/
def execSeqTimer (t : Word) (k : Fin 16) (s : State) : Out :=
  let s := s.at t
  .next (match (s.sq k).timer with
    | some p =>
      if notBefore t p then
        let s := s.setSq k { s.sq k with timer := some (addW p (s.get (Reg.SEQ_TIMER_PER k) * us)) }
        if s.trigOf k = tgTimer then s.seqTrigger k p else s
      else s
    | none => s)

/-- Takes the oldest gate token off. -/
def State.popTok (s : State) (k : Nat) : State := { s with seqTok := vset s.seqTok k (vget s.seqTok k).tail }

/-- A token of a Shuttle that SRC_SHT does not name is discarded (R394). -/
def State.srcOk (s : State) (k n : Nat) : Bool := decide (s.get (Reg.SEQ_CFG_SRC_SHT k) = n)

/-- SEQ_GATE_OPEN: an opening token starts a window, or triggers a GATE pass (R394, R395). A window that waits to be
finalised is finalised first. -/
def execSeqGateOpen (t : Word) (k : Fin 16) (s : State) : Out :=
  let s := s.at t
  .next (match (vget s.seqTok k).head? with
    | some (.opening n at_) =>
      if ¬ s.srcOk k n then (s.popTok k).inc (Reg.SEQ_CNT1_SRC_ERR k)
      else if s.trigOf k = tgGrid then
        if (s.sq k).closing.isSome then s
        else if s.seqOn k then
          let s := (s.popTok k).packFlush k
          (s.setSq k { s.sq k with winStart := s.get (Reg.SEQ_STAT_WPTR k) }).set (Reg.SEQ_STAT_WIN k) 1
        else s.popTok k
      else if s.trigOf k = tgGate then (s.popTok k).seqTrigger k at_
      else s.popTok k
    | _ => s)

/-- SEQ_GRID_TICK: a tick of the open window triggers a pass (R392, R394 to R396). -/
def execSeqGridTick (t : Word) (k : Fin 16) (s : State) : Out :=
  let s := s.at t
  .next (match (vget s.seqTok k).head? with
    | some (.tick n _ at_) =>
      let s := s.popTok k
      if ¬ s.srcOk k n then s.inc (Reg.SEQ_CNT1_SRC_ERR k)
      else if s.trigOf k = tgGrid ∧ s.is (Reg.SEQ_STAT_WIN k) then s.seqTrigger k at_
      else s
    | _ => s)

/-- SEQ_GATE_CLOSE: the closing token ends the window, which waits to be finalised (R394, R398). -/
def execSeqGateClose (t : Word) (k : Fin 16) (s : State) : Out :=
  let s := s.at t
  .next (match (vget s.seqTok k).head? with
    | some (.closing n issued omitted late incomplete _) =>
      let s := s.popTok k
      if ¬ s.srcOk k n then s.inc (Reg.SEQ_CNT1_SRC_ERR k)
      else if s.trigOf k = tgGrid ∧ s.is (Reg.SEQ_STAT_WIN k) then
        (s.setSq k { s.sq k with
          closing := some { issued, omitted, late, incomplete, cycle := s.get Reg.SVC_CYCLE_CYCLE } }).set (Reg.SEQ_STAT_WIN k) 0
      else s
    | _ => s)

/-! ### Slots and slices (R373 to R375, R381 to R391) -/

/-- The physical slice that serves slot `l` (R374). -/
def State.sliceOf (s : State) (l : Nat) : Nat := bitsOf (s.get Reg.ADC_MAP_SLOT) (4 * l) 4

/-- The slot is in a switch (R382). -/
def State.switching (s : State) (l : Nat) : Bool :=
  decide (s.get Reg.ADC_CALST_STATE = 2 ∧ s.get Reg.ADC_CALST_SLOT = l)

/-- A pass holds its slot but for the settle times of an open-wire test (R389, R403). -/
def Sequencer.holds (q : Sequencer) : Bool := q.run.any (fun p => p.settle.isNone)

/-- The sequencers of slot `l`. -/
def State.seqsOf (s : State) (l : Nat) : List Nat := (List.range 16).filter (fun k => decide (s.slotOf k = l))

/-- The committed instant of the next pass of sequencer `k` that has not been triggered (Table 8.3). -/
def State.committedAt (s : State) (k : Nat) : Option Word :=
  let n := s.get (Reg.SEQ_CFG_SRC_SHT k)
  let g := if s.get (Reg.SHT_GATE_SEQ n) = k then (s.sh n).gate else none
  if ¬ s.seqOn k then none
  else if s.trigOf k = tgTimer then (s.sq k).timer.filter (fun p => decide (sdiff p s.now ≤ 2 * us))
  else match g with
    | none => none
    | some g =>
      if s.trigOf k = tgGate then (if g.opened then none else some g.at_)
      else if s.trigOf k = tgGrid then (if g.tickDone then g.tickAt else none)
      else none

/-- The time words of the gate tokens that wait to trigger passes of the sequencer. -/
def State.tokTimes (s : State) (k : Nat) : List Word :=
  if ¬ s.seqOn k then []
  else (vget s.seqTok k).filterMap (fun x => match x with
    | .opening _ t => if s.trigOf k = tgGate then some t else none
    | .tick _ _ t => if s.trigOf k = tgGrid then some t else none
    | .closing _ _ _ _ _ _ => none)

/-- The committed sample instants of sequencer `k` that no pass has taken yet: of triggers to come, on their way and waiting. -/
def State.instants (s : State) (k : Nat) : List Word :=
  (s.committedAt k).toList ++ s.tokTimes k ++ ((s.sq k).pend.map (·.t)).toList

/-- No committed sample instant of the slot lies within the next `d` LSB, and none has come that the free slot has still to take;
of a sequencer whose pass runs only an instant to come counts, since a trigger that waits behind it starts when it ends (R382, R392,
R403). -/
def State.slotQuiet (s : State) (l d : Nat) (but : Option Nat) : Bool :=
  (s.seqsOf l).all (fun k =>
    !(s.instants k).any (fun c => decide (sdiff c s.now < d) && ((s.sq k).run.isNone || decide (0 ≤ sdiff c s.now)))
      && (decide (but = some k) || !(s.sq k).holds))

/-- The triggers that await slot `l`, with their sequencers. -/
def State.awaiting (s : State) (l : Nat) : List (Nat × Trig) :=
  (s.seqsOf l).filterMap (fun k => match (s.sq k).pend, (s.sq k).run with
    | some g, none => some (k, g)
    | _, _ => none)

/-- Those that arrived within 8 ns of the first of them: the slot decides over these (R61; 8 ns are 12.8 LSB, log entry 135). -/
def firstArrivals (l : List (Nat × Trig)) : List (Nat × Trig) :=
  match l with
  | [] => []
  | (_, g) :: rest =>
    let a := rest.foldl (fun a x => if sdiff x.2.at_ a < 0 then x.2.at_ else a) g.at_
    l.filter (fun x => decide (elapsed a x.2.at_ ≤ 12))

/-- The request that a free slot takes: the earliest time word, the lower sequencer on a tie (R59, R61, R391). -/
def State.slotWinner (s : State) (l : Nat) : Option (Nat × Trig) :=
  (firstArrivals (s.awaiting l)).foldl (fun w x => match w with
    | none => some x
    | some h => if sdiff x.2.t h.2.t < 0 then some x else w) none

/-- PASS_START: the slot, free of passes, takes the first of the passes that await it (R383, R389, R391). -/
def execPassStart (t : Word) (l : Fin 8) (s : State) : Out :=
  let s := s.at t
  .next (if s.switching l || (s.seqsOf l).any (fun k => (s.sq k).holds) then s
    else match s.slotWinner l with
      | none => s
      | some (k, g) =>
        let q := s.sq k
        let s := if g.slip then s.inc (Reg.SEQ_CNT0_SLIP k) else s
        (s.setSq k { q with
          pend := none, run := some { next := some g.t, slipped := g.slip }, fillsRun := q.fillsPend
          fillsPend := 0 }).seqShow k)

/-- Entry `e` asks for an open-wire test (R402). -/
def State.owEntry (s : State) (k e : Nat) : Bool := decide (s.get (Reg.SEQ_ENT_OW k e) ≠ 0)

/-- The sequencer tests entry `e`: the inputs with current sources are the external ones (R402). -/
def State.owRuns (s : State) (k e : Nat) : Bool :=
  s.owEntry k e && decide (s.trigOf k ≠ tgGrid ∧ s.get (Reg.SEQ_ENT_INPUT k e) < 40)

/-- The input that an open-wire current of sequencer `k` is applied to (Table 8.6). -/
def State.owInput (s : State) (k : Nat) : Option Nat :=
  match (s.sq k).run with
  | some p => if p.step = 1 ∨ p.step = 2 then some (s.get (Reg.SEQ_ENT_INPUT k p.entry)) else none
  | none => none

/-- The converter slices take requests: power domain 3 is on and the ADC clock is present (R47, R653, R655). -/
def State.anaUp (s : State) : Bool := decide (s.domain 3 = 0) && !s.crossingOff 0

/-- Entry `p.entry` is complete: the next one samples at `nx`, or the pass is done. -/
def State.entryDone (s : State) (k : Nat) (p : Pass) (nx : Word) : Pass :=
  if s.get (Reg.SEQ_CFG_NENT k) ≤ p.entry then { p with done := true, step := 0, settle := none, next := none }
  else { p with entry := p.entry + 1, step := 0, settle := none, next := some nx }

/-- A conversion request completes with DOMAIN_OFF: there is no result, so the sample's place in the buffer takes a free value, no
verdict is formed, and the pass goes on with the instant `nx` (R47, R653; log entry 57). -/
def State.convOff (s : State) (k : Nat) (p : Pass) (nx : Word) : State :=
  let r := s.free
  let s := r.2.bufResult k r.1
  s.setSq k { s.sq k with conv := none, run := some (s.entryDone k p nx) }

/-- CONVERSION_SAMPLE: the running pass of sequencer `k` samples its input, on a 5 ns edge, at least 400 ns after the
slice's sample before, on a slice that the weave instantiates (R34, R373, R375, R383, R393, R406). Without the ADC domain the request
completes with DOMAIN_OFF at once (R47). -/
def execConversionSample (t : Word) (k : Fin 16) (s : State) : Out :=
  let s := s.at t
  let q := s.sq k
  .next (match q.run with
    | none => s
    | some p => match p.next with
      | none => s
      | some nx =>
        let l := s.slotOf k
        let slice := s.sliceOf l
        if ¬ notBefore t nx ∨ s.switching l ∨ ¬ s.hasTile 7 slice then s
        else if ¬ s.anaUp then s.convOff k p (addW t 640)
        else if t.toNat % 8 ≠ 0
            ∨ (vget s.slices slice).any (fun a => decide (elapsed a t < 640)) then s
        else
          let input := s.get (Reg.SEQ_ENT_INPUT k p.entry)
          let owact := (List.range 16).any (fun j => decide (j ≠ k.val) && decide (s.owInput j = some input))
          let slip := decide (p.step = 0) && !p.slipped && decide (8 < sdiff t nx)
          let s := if slip then s.inc (Reg.SEQ_CNT0_SLIP k) else s
          let s := if p.step = 0 ∧ s.owEntry k p.entry ∧ s.trigOf k = tgGrid then s.inc (Reg.SEQ_CNT0_OWSKIP k) else s
          let s := { s with slices := vset s.slices slice (some t) }
          s.setSq k { q with
            run := some { p with next := none, slipped := p.slipped || slip }
            conv := some { slice, input, at_ := t, owact } })

/-- The effective offset and gain of input `i` (R379, R506): the factory layer until values have been formed. -/
def State.inputCal (s : State) (i : Nat) : Int × Nat :=
  s.inCal.getD i ((Config.factoryOfs i).toInt, (Config.factoryGain i).toNat)

/-- The result of a raw code, and whether it was clamped (R377, R379, R380). -/
def State.correct (s : State) (slice input : Nat) (raw : Bool) (r : Int) : Int × Bool :=
  let x := nearestOpen (((Config.linearity slice r - s.getI (Reg.ADC_SL_OFS slice)) * s.get (Reg.ADC_SL_GAIN slice) : Int) / 16384)
  let c := s.inputCal input
  let y := if raw then x else nearestOpen (((x - c.1) * c.2 : Int) / 16384)
  let z := clampI (-32767) 32767 y
  (z, decide (z ≠ y))

/-- The code of the TEMP input at a die temperature of `m` thousandths of a degree Celsius (R377, R696). -/
def tempCode (m : Int) : Int := nearestOpen (-13107 + 65536 / 1000 * ((m : Rat) / 1000 - 25))

/-- The result of a conversion, and whether it was clamped. Of the TEMP input, Table 8.1's 43, the command carries the die's temperature
in thousandths of a degree (R696; log entry 170). -/
def State.result (s : State) (slice input : Nat) (raw : Bool) (r : Int) : Int × Bool :=
  if input = 43 then (clampI (-32767) 32767 (tempCode r), decide (clampI (-32767) 32767 (tempCode r) ≠ tempCode r))
  else s.correct slice input raw r

/-- The word of Table 8.5. -/
def taggedWord (y : Int) (sat : Bool) (c : Conv) : Word :=
  let w := (Reg.ADC_IN_INPUT 0).put ((Reg.ADC_IN_VALUE 0).put 0 (unsign 16 y)) c.input
  let w := (Reg.ADC_IN_SAT 0).put w (if sat then 1 else 0)
  (Reg.ADC_IN_TIME 0).put ((Reg.ADC_IN_OWACT 0).put w (if c.owact then 1 else 0)) (c.at_.toNat / 8)

/-- The verdict of an open-wire test (Table 8.7). -/
def owVerdict (th : Nat) (a p n : Int) : Nat :=
  if 32000 ≤ p ∧ n ≤ -32000 then 2
  else if 32000 ≤ a ∧ 32000 ≤ p ∧ 32000 ≤ n then 3
  else if a ≤ -32000 ∧ p ≤ -32000 ∧ n ≤ -32000 then 4
  else if th ≤ (p - a).natAbs ∨ th ≤ (n - a).natAbs then 5
  else 1

/-- Writes a verdict (R405). -/
def State.owResult (s : State) (i : Nat) (a p n : Int) : State :=
  let s := (s.set (Reg.ADC_OW_VERDICT i) (owVerdict (s.get Reg.ADC_OWTH_OW_TH) a p n)).incMod (Reg.ADC_OW_RUNS i)
  ((s.setI (Reg.ADC_OW_DPOS i) (satS 16 (p - a))).setI (Reg.ADC_OW_DNEG i) (satS 16 (n - a))).pinVerdict i

/-- What a completed conversion does to its pass (Table 8.6). -/
def State.passAdvance (s : State) (k : Nat) (p : Pass) (c : Conv) (y : Int) : State :=
  let put := fun (s : State) (p : Pass) => s.setSq k { s.sq k with run := some p }
  if s.owRuns k p.entry then
    if p.step = 0 then put s { p with a := y, step := 1, settle := some s.now }
    else if p.step = 1 then put s { p with bPos := y, step := 2, settle := some s.now }
    else
      let s := s.owResult c.input p.a p.bPos y
      if s.get (Reg.SEQ_CFG_NENT k) ≤ p.entry then put s (s.entryDone k p s.now)
      else put s { p with step := 3, settle := some s.now }
  else put s (s.entryDone k p (addW c.at_ 640))

/-- CONVERSION_COMPLETE: 375 ns after its sample instant the conversion of sequencer `k`, raw code `raw` (before any
clamp; of TEMP the temperature), becomes a result (R373, R377 to R380, R399 to R401, R405, R406, R696); without the ADC domain it completes with DOMAIN_OFF
(R47). -/
def execConversionComplete (t : Word) (k : Fin 16) (raw : Int) (s : State) : Out :=
  let s := s.at t
  let q := s.sq k
  .next (match q.run, q.conv with
    | some p, some c =>
      if ¬ s.anaUp then s.convOff k p (addW c.at_ 640)
      else if elapsed c.at_ t < 600 then s
      else
        let r := s.result c.slice c.input (s.is (Reg.SEQ_ENT_RAW k p.entry)) raw
        let w := taggedWord r.1 r.2 c
        let s := (s.setSq k { q with conv := none }).setReg (Reg.ADC_IN_addr c.input) w
        let s := if c.owact then s.inc (Reg.SEQ_CNT1_OW_CLASH k) else s
        let s := (s.bufResult k w).passAdvance k p c r.1
        if 24 ≤ c.input ∧ c.input < 40 then s.pinDeliver c.input (!r.2) else s
    | _, _ => s)

/-- OPEN_WIRE_SETTLE: OW_SET has passed; the next conversion of the test starts when the slot is free of passes and
committed instants for 0.4 µs, or the pass goes on with its next entry (R402, R403, Table 8.6). -/
def execOpenWireSettle (t : Word) (k : Fin 16) (s : State) : Out :=
  let s := s.at t
  let q := s.sq k
  .next (match q.run with
    | some p => match p.settle with
      | some a =>
        if elapsed a t < s.get (Reg.SEQ_CFG_OW_SET k) * us ∨ s.switching (s.slotOf k) ∨ ¬ s.slotQuiet (s.slotOf k) 640 (some k)
        then s
        else if p.step = 3 then s.setSq k { q with run := some (s.entryDone k p t) }
        else s.setSq k { q with run := some { p with settle := none, next := some t } }
      | none => s
    | none => s)

/-- PASS_END: the pass whose last conversion is complete ends: its slot is free, its marks follow, chained sequencers are
triggered (R389, R392, R396, Table 8.3). -/
def execPassEnd (t : Word) (k : Fin 16) (s : State) : Out :=
  let s := s.at t
  let q := s.sq k
  .next (if q.run.any (·.done) then
      let s := (s.setSq k { q with run := none, fillsRun := 0 }).fillPasses k q.fillsRun
      let s := (s.incMod (Reg.SEQ_STAT_PASSES k)).seqShow k
      (List.range 16).foldl (fun s j =>
        if s.trigOf j = tgChain ∧ s.get (Reg.SEQ_CFG_CHAIN_SRC j) = k.val then s.seqTrigger j t else s) s
    else s)

/-- WINDOW_FINALISE: after the closing token, once no pass runs or is pending (R397, R398). -/
def execWindowFinalise (t : Word) (k : Fin 16) (s : State) : Out :=
  let s := s.at t
  let q := s.sq k
  .next (match q.closing with
    | none => s
    | some c =>
      if q.run.isSome || q.pend.isSome then s
      else
        let s := (s.setSq k { q with closing := none }).packFlush k
        let s := (s.set (Reg.SEQ_WIN_START k) q.winStart).set (Reg.SEQ_WIN_TICKS k) c.issued
        let s := (s.set (Reg.SEQ_WIN_OMIT k) (satU 8 c.omitted)).flag (Reg.SEQ_WIN_LATE k) c.late
        let s := s.flag (Reg.SEQ_WIN_INCOMPLETE k) c.incomplete
        let s := (s.dmaPulse 2 k t).streamWindow k c.cycle
        let n := s.get (Reg.SEQ_CFG_SRC_SHT k)
        if s.is (Reg.SHT_GATE_CTILE_EN n) then
          { s with cmbSig := s.cmbSig ++ [(s.get (Reg.SHT_GATE_CTILE n), ⟨k, s.reg (Reg.SEQ_WIN_addr k), c.cycle⟩)] }
        else s)

/-- Clears the counters of a sequencer; what this very instant counts stays (R427). -/
def State.seqClear (s : State) (k : Nat) : State :=
  s.clearCounts [Reg.SEQ_CNT0_OVERRUN k, Reg.SEQ_CNT0_SLIP k, Reg.SEQ_CNT0_OWSKIP k, Reg.SEQ_CNT1_OW_CLASH k,
    Reg.SEQ_CNT1_SRC_ERR k]

/-- SEQ_CNT_CLR: SEQk_CTRL.CLR (R34, R427). -/
def execSeqCntClr (t : Word) (k : Fin 16) (s : State) : Out :=
  let s := s.at t
  .next (if s.hasTile 6 k then s.seqClear k else s.wrej)

/-! ### The spare rotation (R381 to R387) -/

/-- ROTATION_START: every CAL_PER a rotation starts for the next slot (R381). -/
def execRotationStart (t : Word) (s : State) : Out :=
  let s := s.at t
  .next (if s.is Reg.ADC_CTRL_CAL_EN ∧ s.get Reg.ADC_CALST_STATE = 0
      ∧ s.get Reg.ADC_CTRL_CAL_PER * ms ≤ elapsed s.rot.start t then
      let s := (s.set Reg.ADC_CALST_STATE 1).set Reg.ADC_CALST_SLOT s.rot.next
      { s with rot := { s.rot with start := t, next := (s.rot.next + 1) % 8 } }
    else s)

/-- No pass of the slot runs. -/
def State.slotIdle (s : State) (l : Nat) : Bool := (s.seqsOf l).all (fun k => (s.sq k).run.isNone)

/-- SLICE_SWITCH_START: the slot begins its change to the spare, within ROT_WAIT, at an instant that R382 allows. A spare
without a verdict since the reset counts as OK. -/
def execSliceSwitchStart (t : Word) (s : State) : Out :=
  let s := s.at t
  let l := s.get Reg.ADC_CALST_SLOT
  .next (if s.get Reg.ADC_CALST_STATE = 1 ∧ elapsed s.rot.start t < s.get Reg.ADC_CTRL_ROT_WAIT * ms
      ∧ s.hasTile 7 (s.get Reg.ADC_MAP_SPARE) ∧ s.get (Reg.ADC_SL_CST (s.get Reg.ADC_MAP_SPARE)) ≠ 2 ∧ s.slotIdle l ∧ s.slotQuiet l us none then
      { s.set Reg.ADC_CALST_STATE 2 with rot := { s.rot with mark := t } }
    else s)

/-- SLICE_SWITCH_END: 1.0 µs later the spare serves the slot and the relieved slice is calibrated (R374, R383, R385). -/
def execSliceSwitchEnd (t : Word) (s : State) : Out :=
  let s := s.at t
  let l := s.get Reg.ADC_CALST_SLOT
  .next (if s.get Reg.ADC_CALST_STATE = 2 ∧ us ≤ elapsed s.rot.mark t then
      let old := s.sliceOf l
      let s := s.set ⟨Reg.ADC_MAP_SLOT.addr, 4 * l, 4⟩ (s.get Reg.ADC_MAP_SPARE)
      let s := (s.set Reg.ADC_MAP_SPARE old).set Reg.ADC_CALST_SLICE old
      let s := { s.set Reg.ADC_CALST_STATE 3 with rot := { s.rot with mark := t } }
      (s.seqsOf l).foldl (fun s k => match (s.sq k).pend, (s.sq k).run with
        | some g, none => s.setSq k { s.sq k with pend := some { g with slip := true } }
        | _, _ => s) s
    else s)

/-- ROTATION_ABANDON: no instant allowed the switch within ROT_WAIT (R384). -/
def execRotationAbandon (t : Word) (s : State) : Out :=
  let s := s.at t
  .next (if s.get Reg.ADC_CALST_STATE = 1 ∧ s.get Reg.ADC_CTRL_ROT_WAIT * ms ≤ elapsed s.rot.start t then
      (s.set Reg.ADC_CALST_STATE 0).inc Reg.ADC_CALST_ROT_SKIP
    else s)

/-- SPARE_CAL_VERDICT: 600 µs after the switch the calibration ends; the command carries the sums of the slice's 64 codes
of AGND, REFP and REFN (Table 8.2, R386). G_p is undefined when the two means are equal. Without the ADC domain the conversions
complete with DOMAIN_OFF: the sums are free values (R47; log entry 57). -/
def execSpareCalVerdict (t : Word) (agnd refp refn : Int) (s : State) : Out :=
  let s := s.at t
  .next (if s.get Reg.ADC_CALST_STATE ≠ 3 ∨ elapsed s.rot.mark t < 600 * us then s
    else
      let off := !s.anaUp
      let a := s.free
      let b := a.2.free
      let c := b.2.free
      let s := if off then c.2 else s
      let agnd := if off then a.1.toInt else agnd
      let refp := if off then b.1.toInt else refp
      let refn := if off then c.1.toInt else refn
      let p := s.get Reg.ADC_CALST_SLICE
      let o := nearestOpen ((agnd : Rat) / 64)
      let d : Rat := ((refp - refn : Int) : Rat) / 64
      let r := if d = 0 then (let x := s.free; ((x.1.toNat : Int), x.2)) else (nearestOpen (16384 * 52429 / d), s)
      let g := r.1
      let s := (r.2.setI (Reg.ADC_SL_OFS p) (satS 16 o)).set (Reg.ADC_SL_GAIN p) (satUI 16 g)
      if -512 ≤ o ∧ o < 512 ∧ 16128 ≤ g ∧ g < 16640 then
        ((s.set (Reg.ADC_SL_CST p) 1).set Reg.ADC_CALST_STATE 0).incMod Reg.ADC_CALST_ROTS
      else
        (((s.set (Reg.ADC_SL_CST p) 2).set Reg.ADC_CALST_STATE 4).report 7 p 1 (p * 2 ^ 36) (some t)).cause 21 p)

/-! ### Window monitors (R410 to R421) -/

/-- The timer signal `code` is active (Table 8.11). -/
def State.sigActive (s : State) (code : Nat) : Bool :=
  if code < 64 then (s.sh code).pulse.any (·.started) || (s.sh code).gate.any (·.opened)
  else if 0x50 ≤ code ∧ code < 0x54 then (vget s.ptimers (code - 0x50)).high
  else false

/-- When the timer signal last ended. -/
def State.sigEnd (s : State) (code : Nat) : Option Word :=
  if code < 64 then (s.sh code).sigEnd
  else if 0x40 ≤ code ∧ code < 0x4C then
    let a := (s.bk (code - 0x40)).heddle.gateAt
    if a = 0 then none else some a
  else if 0x50 ≤ code ∧ code < 0x54 then (vget s.ptimers (code - 0x50)).sigEnd
  else none

/-- The monitor's blanking holds its class (R417). -/
def State.wmBlanked (s : State) (m : Nat) : Bool :=
  let c := s.get (Reg.WM_BLK_BSEL m)
  s.sigActive c
    || (s.sigEnd c).any (fun e => decide (elapsed e s.now < s.get (Reg.WM_BLK_BLK_T m) * 160))

/-- The output of the monitor holds: it is under self-test, or its mode changes (R407, R425). -/
def State.wmHeld (s : State) (m : Nat) : Bool :=
  s.monTest.run.any (fun r => decide (r.1 = m)) || modeHolds (0x100 + m) (s.get (Reg.WM_CFG_MODE m)) (s.wm m).modeAt s.now

/-- The class that the comparators give (Table 8.10). -/
def WMon.cls (k : WMon) : Nat := if k.lo then 1 else if k.hi then 2 else 0

/-- The monitor takes class `c`: entry to BELOW or ABOVE counts, latches and is reported (R418, R420, R421). -/
def State.wmEnter (s : State) (m c : Nat) : State :=
  if s.get (Reg.WM_STAT_CLASS m) = c then s
  else
    let s := (s.set (Reg.WM_STAT_CLASS m) c).cutWatch
    if c = 0 then s
    else
      let s := s.inc (Reg.WM_CNT_TRIPS m)
      let s := if s.get (Reg.WM_CFG_LMODE m) = 0 then s
        else ((s.stick (Reg.WM_STAT_LATCHED m) 1).set (Reg.WM_STAT_LCLASS m) c).setWm m { s.wm m with latchAt := some s.now }
      let soon := (s.wm m).told.any (fun a => decide (elapsed a s.now < s.get (Reg.WM_CFG_RATE m) * (10 * us)))
      let s := if soon then s.inc (Reg.WM_CNT_SUPP m)
        else (s.setWm m { s.wm m with told := some s.now }).report 0x16 m 1 (c * 2 ^ 38) (some s.now)
      if s.is (Reg.WM_CFG_ACT m) then s.cause 19 m else s

/-- A comparator of threshold `th` and hysteresis `h`, active below (`below`) or at and above its threshold, sees `v`
(R410): its output, and whether a crossing completed. The input before, if any, tells whether one did when the output
does not change (R411). -/
def crossing (below out : Bool) (th h v : Nat) (before : Option Nat) : Bool × Bool :=
  let cond := fun (x : Nat) => if below then decide (x < th) else decide (th ≤ x)
  let back := fun (x : Nat) => if below then decide (th + h ≤ x) else decide (x + h < th)
  let out' := if out then !back v else cond v
  (out', (out' != out) || (before.any cond && back v))

/-- The comparators of monitor `m` see `mv` millivolts (R410, R411, R413). -/
def State.wmCompare (s : State) (m mv : Nat) : State :=
  let k := s.wm m
  let h := 5 * s.get (Reg.WM_TH_HYS m)
  let lo := crossing true k.lo (5 * s.get (Reg.WM_TH_LO m)) h mv k.v
  let hi := crossing false k.hi (5 * s.get (Reg.WM_TH_HI m)) h mv k.v
  let s := if lo.2 then s.set (Reg.WM_STAT_INIT_LO m) 0 else s
  let s := if hi.2 then s.set (Reg.WM_STAT_INIT_HI m) 0 else s
  s.setWm m { k with lo := lo.1, hi := hi.1, v := some mv }

/-- An enabled monitor whose output does not hold compares its input `mv` and, unless it is blanked, takes its class; otherwise it
only sees the input (R407, R413, R417, R425). -/
def State.wmSees (s : State) (m mv : Nat) : State :=
  if ¬ s.is (Reg.WM_CFG_EN m) ∨ s.wmHeld m then s.setWm m { s.wm m with v := some mv }
  else
    let s := s.wmCompare m mv
    if s.wmBlanked m then s else s.wmEnter m (s.wm m).cls

/-- WINDOW_CROSSING: the input of monitor `m` reaches `mv` millivolts (R413 to R421). -/
def execWindowCrossing (t : Word) (m : Fin 8) (mv : Fin 65536) (s : State) : Out := .next ((s.at t).wmSees m mv)

/-- The monitor looks at its input once more, after blanking or a held output. -/
def State.wmLook (s : State) (m : Nat) : State :=
  match (s.wm m).v with
  | some mv => s.wmSees m mv
  | none => s

/-- WM_BLANK_END: BLK_T after the blanking signal ended the monitor takes its present class (R417). -/
def execWmBlankEnd (t : Word) (m : Fin 8) (s : State) : Out := .next ((s.at t).wmLook m)

/-- A change of WMm_CFG.MODE holds the output (R407). -/
def State.wmMode (s : State) (m : Nat) (old new : Word) : State :=
  if (Reg.WM_CFG_MODE m).get old = (Reg.WM_CFG_MODE m).get new then s
  else s.setWm m { s.wm m with modeAt := some s.now }

/-- WM_LATCH_CLEAR: the host writes 1 to LATCHED (R418, R419). -/
def execWmLatchClear (t : Word) (m : Fin 8) (s : State) : Out := .next ((s.at t).clearLatch m)

/-- Clears WMm_CNT; what this very instant counts stays (R427). -/
def State.wmClear (s : State) (m : Nat) : State := s.clearCounts [Reg.WM_CNT_TRIPS m, Reg.WM_CNT_SUPP m]

/-- WM_CNT_CLR. -/
def execWmCntClr (t : Word) (m : Fin 8) (s : State) : Out := .next ((s.at t).wmClear m)

/-! ### Period timers (R416) -/

def State.setPt (s : State) (p : Nat) (k : PTimer) : State := { s with ptimers := vset s.ptimers p k }

/-- The timer starts high at the write that sets EN. -/
def State.ptStart (s : State) (p : Nat) : State :=
  ((s.setPt p { vget s.ptimers p with high := true, edge := some (addW s.now (160 * s.get (Reg.PT_CFG_HIGH p))) }).periodRise
    (0x50 + p)).dmaPulse 5 p s.now

/-- EN is cleared: the timer is low and stands still. -/
def State.ptStop (s : State) (p : Nat) : State :=
  let k := vget s.ptimers p
  s.setPt p { high := false, edge := none, sigEnd := if k.high then some s.now else k.sigEnd }

/-- PT_ENABLE: the host sets PTp_CFG.EN. -/
def execPtEnable (t : Word) (p : Fin 4) (s : State) : Out :=
  let s := s.at t
  .next (if s.is (Reg.PT_CFG_EN p) then s else (s.set (Reg.PT_CFG_EN p) 1).ptStart p)

/-- PERIOD_TIMER_EDGE: the running phase ends. -/
def execPeriodTimerEdge (t : Word) (p : Fin 4) (s : State) : Out :=
  let s := s.at t
  let k := vget s.ptimers p
  .next (match k.edge with
    | none => s
    | some e =>
      if ¬ notBefore t e then s
      else if k.high then
        let low := s.get (Reg.PT_CFG_PER p) - s.get (Reg.PT_CFG_HIGH p)
        s.setPt p { high := false, edge := some (addW e (160 * low)), sigEnd := some e }
      else
        ((s.setPt p { k with high := true, edge := some (addW e (160 * s.get (Reg.PT_CFG_HIGH p))) }).periodRise
          (0x50 + p.val)).dmaPulse 5 p e)

/-! ### Monitor self-tests (R423, R425, R426) -/

/-- A monitor is to be tested: ST_EN of window monitor 0 to 7, supply monitor 8 to 13. -/
def State.monEnabled (s : State) (i : Nat) : Bool :=
  if i < 8 then s.is (Reg.WM_CFG_ST_EN i) else s.is (Reg.SM_STAT_ST_EN (i - 8))

/-- A supply monitor under test is in mode M (Table 8.14). -/
def State.testMode (s : State) (i : Nat) : State :=
  if 8 ≤ i ∧ s.get (Reg.SM_STAT_MODE (i - 8)) ≠ mdM then s.smMode (i - 8) mdM else s

/-- MONITOR_SELFTEST: the next test of the running ST_PER starts, one monitor at a time, in mode M (R425, Table 8.14). -/
def execMonitorSelftest (t : Word) (s : State) : Out :=
  let s := s.at t
  let m := s.monTest
  let m := if s.get Reg.CMP_CTRL_ST_PER * ms ≤ elapsed m.period t ∧ m.run = none then { m with period := t, next := 0 } else m
  .next (if m.run.isSome then s
    else match ((List.range 14).filter (fun i => decide (m.next ≤ i) && s.monEnabled i)).head? with
      | none => { s with monTest := { m with next := 14 } }
      | some i => { s with monTest := { m with next := i + 1, run := some (i, t) } }.testMode i)

/-- Monitor `i` fails its self-test (R426): window monitor `i`, or supply monitor `i` - 8. -/
def State.monFail (s : State) (i : Nat) : State :=
  if i < 8 then ((s.stick (Reg.WM_STAT_STF i) 1).report 0x16 i 2 (i * 2 ^ 36) (some s.now)).cause 20 i
  else
    ((s.stick (Reg.SM_STAT_STF (i - 8)) 1).report 0x16 (i - 8) 2 (2 ^ 39 + (i - 8) * 2 ^ 36) (some s.now)).cause 20 (i - 8)

/-- The mode of supply monitor `m` while the device is awake (Table 8.12). -/
def smOwn (m : Nat) : Nat := if m = 5 then mdL else mdM

/-- Monitor `i` is back in its own mode after a self-test in mode M; its output follows its input again (R407, R425; log entry
141). -/
def State.monBack (s : State) (i : Nat) : State :=
  if i < 8 then
    (if s.get (Reg.WM_CFG_MODE i) = mdM then s else s.setWm i { s.wm i with modeAt := some s.now }).wmLook i
  else if smOwn (i - 8) = mdM then s
  else s.smMode (i - 8) (smOwn (i - 8))

/-- MONITOR_SELFTEST_DONE: the test ends after its four phases; bit k of `low` and `high` is the output at the end of phase
k + 1 of the comparator active below its threshold (LO, or the supply monitor) and of HI (Tables 8.13, 8.14, R426). -/
def execMonitorSelftestDone (t : Word) (low high : Fin 16) (s : State) : Out :=
  let s := s.at t
  .next (match s.monTest.run with
    | none => s
    | some (i, a) =>
      if elapsed a t < (if i < 8 then 6400 else 3840) then s
      else
        let s := { s with monTest := { s.monTest with run := none } }
        (if low.val = 5 ∧ (8 ≤ i ∨ high.val = 10) then s else s.monFail i).monBack i)

end Sys2Proof.Machine
end

