-- ==== Sys2Proof/Machine/Combust.lean ====
section
/-!
DEFINITION. Combustion analysis (09_engine_services, R431 to R448). Quantities stand as integers in the formats of Table
9.2: pressures in 1/65,536 kPa, volumes in 1/65,536 mm³; sums are exact and each result is rounded once (R435). Where a
configuration leaves a result without a value (an index outside the window, an empty range, a divisor of 0), the result
is a free value.
-/
namespace Sys2Proof.Machine

def State.cmb (s : State) (j : Nat) : Combust := vget s.combust j
def State.setCmb (s : State) (j : Nat) (k : Combust) : State := { s with combust := vset s.combust j k }

/-- The tile analyses: instantiated, enabled, its table in order (R458). -/
def State.cmbOn (s : State) (j : Nat) : Bool := s.hasTile 8 j && s.is (Reg.CMB_CFG_EN j) && !s.is (Reg.CMB_CFG_TABERR j)

/-! ### The window (R432 to R434) -/

/-- The 16-bit field k of the window (R432), as the tile reads it (R653, R655). -/
def State.windowField (s : State) (w : CmbWin) (k : Nat) : Nat :=
  let base := s.get (Reg.SEQ_BUF_BASE w.seq)
  let n := 2 ^ s.get (Reg.SEQ_BUF_LOG2LEN w.seq)
  let a := base + ((Reg.SEQ_WIN_START 0).get w.win - base + k / 3) % n
  bitsOf (s.traceTile a).toNat (32 - 16 * (k % 3)) 16

/-- R433. -/
def State.windowBad (s : State) (j : Nat) (w : CmbWin) : Bool :=
  s.is (Reg.SEQ_CFG_FORMAT w.seq) || decide ((Reg.SEQ_WIN_TICKS 0).get w.win ≠ s.get (Reg.CMB_CFG_NV j))
    || decide ((Reg.SEQ_WIN_OMIT 0).get w.win ≠ 0) || decide ((Reg.SEQ_WIN_LATE 0).get w.win = 1)
    || decide ((Reg.SEQ_WIN_INCOMPLETE 0).get w.win = 1)

/-- Sample k of the fields `f` after repair (R434): none where a sample is missing for good. -/
def repaired (f : Array Nat) (nv k : Nat) : Option Int :=
  let x := f.getD k 0x8000
  if x ≠ 0x8000 then some (signed 16 x)
  else
    let a := if k = 0 then 0x8000 else f.getD (k - 1) 0x8000
    let b := if k + 1 < nv then f.getD (k + 1) 0x8000 else 0x8000
    if a = 0x8000 ∨ b = 0x8000 then none else some (rdiv (signed 16 a + signed 16 b) 2)

/-! ### Searches -/

/-- The largest value of `f` over [a, b) and the first index at which it occurs. -/
def maxOver (f : Nat → Int) (a b : Nat) : Option (Int × Nat) :=
  (List.range (b - a)).foldl (fun m i => match m with
    | none => some (f (a + i), a + i)
    | some (x, _) => if x < f (a + i) then some (f (a + i), a + i) else m) none

/-- The sum of `f` over [a, b). -/
def sumOver (f : Nat → Int) (a b : Nat) : Int := (List.range (b - a)).foldl (fun t i => t + f (a + i)) 0

/-- The running sums of `f` over [a, b). -/
def runSums (f : Nat → Int) (a b : Nat) : Array Int :=
  ((List.range (b - a)).foldl (fun (r : Array Int × Int) i => let t := r.2 + f (a + i); (r.1.push t, t)) (#[], 0)).1

/-! ### Results (R436 to R446) -/

/-- What an analysis gives: the flags of Table 9.4 and words 2 to 11 of the record. -/
structure CmbRes where
  flags : Nat
  words : List Word
deriving DecidableEq, Repr, Inhabited

/-- Flags of Table 9.4. -/
abbrev fgValid : Nat := 128
abbrev fgWinErr : Nat := 64
abbrev fgGap : Nat := 32
abbrev fgRepaired : Nat := 16
abbrev fgPegFail : Nat := 8
abbrev fgNoHr : Nat := 4
abbrev fgRange : Nat := 2
abbrev fgSat : Nat := 1

/-- A 48-bit signed result. -/
def word48 (x : Int) : Word := BitVec.ofInt 48 (satS 48 x)

/-- A 32-bit signed result in bits 47..16. -/
def word32 (x : Int) : Word := BitVec.ofNat 48 (unsign 32 (satS 32 x) * 65536)

/-- p_k of a sample (R436). -/
def State.relPressure (s : State) (j : Nat) (x : Int) : Int := satS 48 (rdiv (s.get (Reg.CMB_PSC_PSCALE j) * x) 65536)

/-- The pegging offset c (R437), from relative pressures. -/
def State.pegging (s : State) (j : Nat) (p : Nat → Int) (pman : Option Int) : Option Int × State :=
  let nv := s.get (Reg.CMB_CFG_NV j)
  let hw := s.get (Reg.CMB_CFG_PEG_HW j)
  let ia := s.get (Reg.CMB_IDX0_PEG_IA j)
  let ib := s.get (Reg.CMB_IDX0_PEG_IB j)
  let rn : Int := s.get (Reg.CMB_RN_RN j)
  let n : Int := 2 * hw + 1
  let inside := fun i => decide (hw ≤ i ∧ i + hw < nv)
  let sa := sumOver p (ia - hw) (ia + hw + 1)
  let sb := sumOver p (ib - hw) (ib + hw + 1)
  let open_ := let r := s.free; (some r.1.toInt, r.2)
  if s.is (Reg.CMB_CFG_PEG_MODE j) then
    match pman with
    | none => (none, s)
    | some v => if inside ia then (some (satS 48 (roundUp (v * 65536 - (sa : Rat) / n))), s) else open_
  else if inside ia && inside ib && decide (rn ≠ 2 ^ 40) then
    (some (satS 48 (roundUp ((sb * 2 ^ 40 - sa * rn : Int) / (n * (rn - 2 ^ 40) : Int) : Rat))), s)
  else open_

/-- CA10, CA50 or CA90 (R443) from the running sums `c` that start at HR_IA. -/
def State.burnAngle (s : State) (j x : Nat) (c : Array Int) (cMin cMax : Int) (kMin kMax : Nat) : Int × State :=
  let ia := s.get (Reg.CMB_IDX0_HR_IA j)
  let l := 100 * cMin + x * (cMax - cMin)
  match (List.range (kMax - kMin)).find? (fun i => decide (l ≤ 100 * c.getD (kMin + 1 + i - ia) 0)) with
  | none => let r := s.free; (signed 32 (r.1.toNat % 2 ^ 32), r.2)
  | some i =>
    let k := kMin + 1 + i
    let a := c.getD (k - 1 - ia) 0
    let b := c.getD (k - ia) 0
    let step := s.get (Reg.CMB_STEP_STEP j)
    let theta := s.getI (Reg.CMB_GEO_OPEN_REL j) + ((k - 1) * step : Nat)
    (satS 32 (theta + rdiv (step * (l - 100 * a)) (100 * (b - a)).toNat), s)

/-- Three free angles. -/
def State.free3 (s : State) : List Int × State :=
  let a := s.free
  let b := a.2.free
  let c := b.2.free
  ([a.1, b.1, c.1].map (fun w => signed 32 (w.toNat % 2 ^ 32)), c.2)

/-- Heat release (R441 to R443): QTOT, then NOHR and CA10, CA50, CA90. -/
def State.heatRelease (s : State) (j : Nat) (p v : Nat → Int) : (Nat × Bool × List Int) × State :=
  let ia := s.get (Reg.CMB_IDX0_HR_IA j)
  let ib := s.get (Reg.CMB_IDX0_HR_IB j)
  let g1 : Int := s.get Reg.SVC_HR_G1
  let g2 : Int := s.get Reg.SVC_HR_G2
  let noHr := [signed 32 0x80000000, signed 32 0x80000000, signed 32 0x80000000]
  let low := fun (q : Nat) => decide (q < s.get Reg.SVC_PLIM_QMIN * 65536)
  let openAll :=
    let r := s.free
    if low r.1.toNat then ((r.1.toNat, true, noHr), r.2)
    else let f := r.2.free3; ((r.1.toNat, false, f.1), f.2)
  if ¬ (1 ≤ ia ∧ ia < ib ∧ ib ≤ s.get (Reg.CMB_CFG_NV j) - 1) then openAll
  else
    let dq := fun k => g1 * p k * (v (k + 1) - v (k - 1)) + g2 * v k * (p (k + 1) - p (k - 1))
    let c := runSums dq ia ib
    let at_ := fun k => c.getD (k - ia) 0
    match maxOver at_ ia ib with
    | none => openAll
    | some (cMax, kMax) =>
      match maxOver (fun k => - at_ k) ia (kMax + 1) with
      | none => openAll
      | some (m, kMin) =>
        let q := satU 48 (rdiv (cMax + m) (1000 * 2 ^ 33)).toNat
        if low q then ((q, true, noHr), s)
        else
          let a := s.burnAngle j 10 c (-m) cMax kMin kMax
          let b := a.2.burnAngle j 50 c (-m) cMax kMin kMax
          let d := b.2.burnAngle j 90 c (-m) cMax kMin kMax
          ((q, false, [a.1, b.1, d.1]), d.2)

/-- The ringing index (R445). -/
def State.ringing (s : State) (j : Nat) (p : Nat → Int) : Int × State :=
  let ia := s.get (Reg.CMB_IDX1_RING_IA j)
  let ib := s.get (Reg.CMB_IDX1_RING_IB j)
  let dev := fun k => ((16 * p k - (p (k - 4) + 2 * sumOver p (k - 3) (k + 4) + p (k + 4))).natAbs : Int)
  if 4 ≤ ia ∧ ib + 4 ≤ s.get (Reg.CMB_CFG_NV j) then
    match maxOver dev ia ib with
    | some (m, _) => (satS 48 (rdiv m 16), s)
    | none => let r := s.free; (r.1.toInt, r.2)
  else let r := s.free; (r.1.toInt, r.2)

/-- IMEP (R440). -/
def State.imepOf (s : State) (j : Nat) (p v : Nat → Int) : Int × State :=
  let vs := s.get Reg.SVC_VS_VS
  if vs = 0 then (let r := s.free; (r.1.toInt, r.2))
  else (satS 48 (rdiv (sumOver (fun k => (p k + p (k + 1)) * (v (k + 1) - v k)) 0 (s.get (Reg.CMB_CFG_NV j) - 1)) (2 * vs)), s)

/-- RANGE (R446). -/
def State.outOfRange (s : State) (imep pmax : Int) : Bool :=
  !decide (s.getI Reg.SVC_RLIM_IMEP_MIN * 65536 ≤ imep ∧ imep < s.getI Reg.SVC_RLIM_IMEP_MAX * 65536)
    || decide ((s.get Reg.SVC_PLIM_PMAX_LIM * 65536 : Int) ≤ pmax)

/-- The results of absolute pressures `p` with offset `c` (R439 to R446); `fl`: the flags so far. -/
def State.cmbResults (s : State) (j fl : Nat) (p : Nat → Int) (c : Int) : CmbRes × State :=
  let nv := s.get (Reg.CMB_CFG_NV j)
  let vols := ((List.range nv).map (fun k => ((s.workGet (0x3800 + k)).toNat : Int))).toArray
  let v := fun k => vols.getD k 0
  let im := s.imepOf j p v
  let hr := im.2.heatRelease j p v
  let ri := hr.2.ringing j p
  let pm := (maxOver p 0 nv).getD (0, 0)
  let theta := s.getI (Reg.CMB_GEO_OPEN_REL j) + (pm.2 * s.get (Reg.CMB_STEP_STEP j) : Nat)
  let mp := ((maxOver (fun k => p (k + 1) - p (k - 1)) 1 (nv - 1)).getD (0, 0)).1 * s.get (Reg.CMB_STEP_INV2STEP j)
  let fl := fl + (if hr.1.2.1 then fgNoHr else 0) + (if s.outOfRange im.1 pm.1 then fgRange else 0)
  let fl := if fl % fgRepaired = 0 then fl + fgValid else fl
  let ca := hr.1.2.2
  ({ flags := fl
     words := [word48 im.1, word48 pm.1, word32 theta, word48 (rdiv mp 65536), word48 ri.1, BitVec.ofNat 48 hr.1.1,
       word32 (ca.getD 0 0), word32 (ca.getD 1 0), word32 (ca.getD 2 0), word48 c] }, ri.2)

/-- The analysis of a window (R433 to R446). -/
def State.analyse (s : State) (j : Nat) (w : CmbWin) (pman : Option Int) : CmbRes × State :=
  let none_ := fun fl => ({ flags := fl, words := List.replicate 10 0 } : CmbRes)
  if s.windowBad j w then (none_ fgWinErr, s)
  else
    let nv := s.get (Reg.CMB_CFG_NV j)
    let f := ((List.range nv).map (s.windowField w)).toArray
    let s := s.traceRead
    let xs := (List.range nv).map (repaired f nv)
    let fl := (if f.any (fun x => x == 0x8000) then (if xs.all Option.isSome then fgRepaired else 0) else 0)
      + (if f.any (fun x => x == 32767 || x == 0x8001) then fgSat else 0)
    let mended := (List.range nv).any (fun k => f.getD k 0 == 0x8000 && (xs.getD k none).isSome)
    if xs.any Option.isNone then (none_ (fgGap + (if mended then fgRepaired else 0) + fl), s)
    else
      let rel := (xs.map (fun x => s.relPressure j (x.getD 0))).toArray
      let r := s.pegging j (fun k => rel.getD k 0) pman
      match r.1 with
      | none => (none_ (fl + fgPegFail), r.2)
      | some c =>
        if ¬ (s.getI Reg.SVC_PEGLIM_PEG_MIN * 65536 ≤ c ∧ c < s.getI Reg.SVC_PEGLIM_PEG_MAX * 65536) then
          (none_ (fl + fgPegFail), r.2)
        else
          let abs := (rel.map (fun x => satS 48 (x + c)))
          r.2.cmbResults j fl (fun k => abs.getD k 0) c

/-! ### Starting and committing (R431, R447, R448) -/

/-- Starts the analysis of a window: PIN3 is read now (R437). -/
def State.cmbStart (s : State) (j : Nat) (w : CmbWin) : State :=
  s.setCmb j { s.cmb j with run := some (w, s.pinNow 3), pend := none }

/-- ANALYSIS_START: the oldest signal for tile `j` starts an analysis, is held pending, or is discarded (R431). -/
def execAnalysisStart (t : Word) (j : Fin 24) (s : State) : Out :=
  let s := s.at t
  .next (match s.cmbSig.find? (fun x => decide (x.1 = j.val)) with
    | none => s
    | some x =>
      let s := { s with cmbSig := s.cmbSig.erase x }
      let k := s.cmb j
      if ¬ s.cmbOn j then s
      else if k.run.isNone then s.cmbStart j x.2
      else if k.pend.isNone then s.setCmb j { k with pend := some x.2 }
      else s.inc (Reg.CMB_STAT_OVERRUN j))

/-- A 32-bit signed field in bits 47..16 of a word. -/
def high32 (w : Word) : Int := signed 32 (w.toNat / 65536)

/-- The extremes that a VALID record feeds (Table 12.10). -/
def State.recordExtremes (s : State) (j : Nat) (ws : List Word) : State :=
  let kpa := fun n => openRound (((ws.getD n 0).toInt : Rat) / 65536)
  ((s.extreme 1 j (kpa 1) false true).extreme 2 j (kpa 3) false true).extreme 3 j (kpa 4) false true

/-- RECORD_COMMIT: the running analysis of tile `j` ends; its record goes to the ring, to the event merge and to the trim
tile, and a pending signal starts (R431, R446 to R449). -/
def execRecordCommit (t : Word) (j : Fin 24) (s : State) : Out :=
  let s := s.at t
  let k := s.cmb j
  .next (match k.run with
    | none => s
    | some (w, pman) =>
      let a := s.analyse j w pman
      let res := a.1
      let s := a.2
      let valid := decide (fgValid ≤ res.flags)
      let cycle := w.cycle % 2 ^ 32
      let w0 : Word := BitVec.ofNat 48 (j * 2 ^ 40 + res.flags * 2 ^ 32 + cycle)
      let ticks := if res.flags / fgWinErr % 2 = 1 then 0 else s.get (Reg.CMB_CFG_NV j)
      let slot := 0x4800 + 128 * j + 16 * k.ring
      let s := (s.workSet slot w0).workWrite (slot + 2) (res.words ++ [0, 0, 0, 0])
      let s := (s.report 8 j 1 (res.flags * 2 ^ 32 + cycle) (some t)).dmaPulse 3 j t
      let s := s.inc (Reg.CMB_STAT_RECS j)
      let s := if valid then s.recordExtremes j res.words else s.inc (Reg.CMB_STAT_INVALID j)
      let imep := (res.words.getD 0 0).toInt
      let k := s.cmb j
      let s := s.setCmb j { k with
        run := none, ring := (k.ring + 1) % 8
        merge := k.merge ++ [(slot, w0 :: BitVec.ofNat 48 (ticks * 2 ^ 32) :: res.words)]
        lastValid := if valid then some (imep, cycle) else k.lastValid }
      let phased := decide (s.sync s.primary = ssPhased ∨ s.sync s.primary = ssBorrowed)
      let c : Commit := { cyl := j, valid, phased, ca50 := high32 (res.words.getD 7 0), imep, cycle, at_ := t }
      let s := { s with trimDue := s.trimDue ++ [c] }
      match (s.cmb j).pend with
      | some w => s.cmbStart j w
      | none => s)

/-- The event merge has given the oldest waiting record of tile `j` its ESN: word 1 of the slot and CMBj_RES (R448). -/
def State.recordMerged (s : State) (j esn : Nat) : State :=
  match (s.cmb j).merge with
  | [] => s
  | (slot, ws) :: rest =>
    let w1 := (ws.getD 1 0) ||| BitVec.ofNat 48 esn
    let ws := ws.set 1 w1
    let s := (s.setCmb j { s.cmb j with merge := rest }).workSet (slot + 1) w1
    ws.zipIdx.foldl (fun s x => s.set (Reg.CMB_RES_WORD j x.2) x.1.toNat) s

end Sys2Proof.Machine
end

