-- ==== Sys2Proof/Machine/Service.lean ====
section
/-!
DEFINITION. The cycle count, trims, quantity mapping, drift and overspeed (09_engine_services, R428, R449 to R471, R477
to R483). Durations from D_map to D3 stand in 1/65,536 LSB (R468).
-/
namespace Sys2Proof.Machine

/-! ### Cylinder words (Table 9.6) -/

/-- Bits `lo .. lo + w - 1` of word `n` of cylinder `k`. -/
def State.cyl (s : State) (k n : Nat) (f : Fld) : Nat := f.get (s.workGet (0x5600 + 8 * k + n))

def State.setCyl (s : State) (k n : Nat) (f : Fld) (v : Nat) : State :=
  let a := 0x5600 + 8 * k + n
  s.workSet a (f.put (s.workGet a) v)

/-- Fields of a cylinder's words: TT; BAL and the run of invalid records; CD_0; CD_F; DRIFT of the injector and of the
gas valve. -/
abbrev cyTT : Fld := ⟨0, 16, 32⟩
abbrev cyBal : Fld := ⟨0, 24, 24⟩
abbrev cyInv : Fld := ⟨0, 16, 8⟩
abbrev cyCd0 : Fld := ⟨0, 16, 32⟩
abbrev cyCdF : Fld := ⟨0, 0, 48⟩
def cyDrift (q : Nat) : Fld := ⟨0, if q = 0 then 24 else 0, 24⟩

def State.tt (s : State) (k : Nat) : Int := signed 32 (s.cyl k 0 cyTT)
def State.bal (s : State) (k : Nat) : Int := signed 24 (s.cyl k 1 cyBal)
def State.drift (s : State) (q k : Nat) : Int := signed 24 (s.cyl k 6 (cyDrift q))

/-- The primary is PHASED or BORROWED. -/
def State.phasedNow (s : State) : Bool := decide (s.sync s.primary = ssPhased ∨ s.sync s.primary = ssBorrowed)

/-! ### Trims (R449 to R452) -/

/-- The cylinders that the mapping tile of BAL_KIND has enabled. -/
def State.balCyls (s : State) : List Nat :=
  let q := s.get Reg.TRM_CTRL_BAL_KIND
  (List.range 24).filter (fun k => s.is (Reg.QM_CYL_EN q k))

/-- Adds the VALID records of the partner's tiles that the mirror holds (R613). -/
def State.partnerSum (s : State) (cycle : Nat) (a : Int × Nat) : Int × Nat :=
  if s.pairMember && s.is Reg.PRX_CTRL_BAL_PAIR && s.checkOk then
    (List.range 24).foldl (fun a j =>
      let w := (s.workGet (0x1C00 + 16 * j)).toNat
      let c := (bitsOf w 0 32 + s.pair.partOfs + 2 ^ 32 - s.get Reg.PRX_STAT_CYC_OFS) % 2 ^ 32
      if bitsOf w 39 1 = 1 ∧ cycle ≤ c + 1 then (a.1 + (s.workGet (0x1C00 + 16 * j + 2)).toInt, a.2 + 1) else a) a
  else a

/-- Σ IMEP and the number of enabled cylinders, and of the partner's in a pair, whose last VALID record lies no more than
one cycle below `cycle`, over the cylinders `cyls` (R451, R613). -/
def State.imepSum (s : State) (cyls : List Nat) (cycle : Nat) : Int × Nat :=
  s.partnerSum cycle (cyls.foldl (fun a k => match (s.cmb k).lastValid with
    | some (v, c) => if cycle ≤ c + 1 then (a.1 + v, a.2 + 1) else a
    | none => a) (0, 0))

/-- 1/64 °CA in coarse counts, times `n`. -/
def State.coarse64 (s : State) (n : Nat) : Rat := (n * 2 ^ 32 : Nat) / (64 * s.cycleDeg : Nat)

/-- Moves `x` against `d`, by at most `step`, within ± `lim`. -/
def trimStep (x d step lim : Rat) : Rat :=
  let d := if d < -step then -step else if step < d then step else d
  let y := x - d
  if y < -lim then -lim else if lim < y then lim else y

/-- TT_k of a VALID record (R450). -/
def State.trimTiming (s : State) (c : Commit) : State :=
  if ¬ s.is Reg.TRM_CTRL_TL_EN then s.setCyl c.cyl 0 cyTT 0
  else
    let page := s.get Reg.SVC_DEM_PAGE
    let t50 := high32 (s.workGet (0x5400 + 192 * page + 8 * c.cyl + 4))
    let d : Rat := (s.get Reg.TRM_CTRL_KT * (c.ca50 - t50) : Int) / 128
    let y := trimStep (s.tt c.cyl) d (s.coarse64 (s.get Reg.TRM_LIM_TT_STEP)) (s.coarse64 (s.get Reg.TRM_LIM_TT_LIM))
    s.setCyl c.cyl 0 cyTT (unsign 32 (openRound y))

/-- BAL_k of a VALID record; cylinder k is one of the mean's even where it is not enabled (R451); with a mean of 0 it is a free
value. -/
def State.trimBalance (s : State) (c : Commit) : State :=
  if ¬ s.is Reg.TRM_CTRL_BAL_EN then s.setCyl c.cyl 1 cyBal 0
  else
    let m := s.imepSum (if c.cyl ∈ s.balCyls then s.balCyls else c.cyl :: s.balCyls) c.cycle
    if m.2 < 2 then s
    else if m.1 = 0 then (let r := s.free; r.2.setCyl c.cyl 1 cyBal (r.1.toNat % 2 ^ 24))
    else
      let e : Rat := (c.imep * m.2 - m.1 : Int) / (m.1 : Rat)
      let lsb : Rat := 1048576 / 2000
      let y := trimStep (s.bal c.cyl) (e * s.get Reg.TRM_CTRL_KB / 128 * 1048576) (lsb * s.get Reg.TRM_LIM_BAL_STEP)
        (lsb * s.get Reg.TRM_LIM_BAL_LIM)
      s.setCyl c.cyl 1 cyBal (unsign 24 (openRound y))

/-- The run of invalid records; its event carries the instant of the commit `t` (R452, Table 11.5). -/
def State.trimInvalid (s : State) (k : Nat) (t : Word) : State :=
  let n := min (s.cyl k 1 cyInv + 1) 255
  let s := s.setCyl k 1 cyInv n
  if s.get Reg.TRM_CTRL_INV_HOLD ≤ n ∧ ¬ (s.get Reg.TRM_STAT_LOST).testBit k then
    let s := (s.setCyl k 0 cyTT 0).setCyl k 1 cyBal 0
    (s.setBit Reg.TRM_STAT_LOST k).report 0x0A 0 1 (k * 2 ^ 32) (some t)
  else s

/-- The quantity maps whose list of cylinder `k` falls due (R459). -/
def State.buildDue (s : State) (k : Nat) : State :=
  let f := fun (m : MapCyl) => { m with due := m.due || !m.built }
  { s with maps := vset (vset s.maps k (f (vget s.maps k))) (24 + k) (f (vget s.maps (24 + k))) }

/-- TRIM_UPDATE: the trim tile takes the oldest record commit; the cylinder's lists fall due (R449 to R452, R459). -/
def execTrimUpdate (t : Word) (s : State) : Out :=
  let s := s.at t
  .next (match s.trimDue with
    | [] => s
    | c :: rest =>
      let s := { s with trimDue := rest }
      let s :=
        if ¬ s.hasTile 0x0A 0 then s
        else if c.valid then
          let s := (s.setCyl c.cyl 1 cyInv 0).clearBit Reg.TRM_STAT_LOST c.cyl
          if c.phased then ((s.trimTiming c).trimBalance c).incMod Reg.TRM_STAT_UPDATES else s
        else s.trimInvalid c.cyl c.at_
      s.buildDue c.cyl)

/-- Trims that are off are 0, be it by a write of TRM_CTRL, a load or a reset (R452). -/
def State.trimOff (s : State) : State :=
  let s := if s.is Reg.TRM_CTRL_TL_EN then s else (List.range 24).foldl (fun s k => s.setCyl k 0 cyTT 0) s
  if s.is Reg.TRM_CTRL_BAL_EN then s else (List.range 24).foldl (fun s k => s.setCyl k 1 cyBal 0) s

/-! ### Demand (R453 to R455) -/

/-- DEMAND_SWAP: the other page becomes active (R454, R455). -/
def State.demandSwap (s : State) : State :=
  let p := s.get Reg.SVC_DEM_PAGE
  let b := (s.now, p, s.is Reg.SVC_DEM_VALID, s.is Reg.SVC_DEM_DEM_STALE)
  let s := ((s.set Reg.SVC_DEM_PAGE (1 - p)).set Reg.SVC_DEM_VALID 1).set Reg.SVC_DEM_DEM_STALE 0
  { s with svc := { s.svc with sinceSwap := some 0, before := some b } }

def execDemandSwap (t : Word) (s : State) : Out := .next ((s.at t).demandSwap)

/-- DEMAND_TIMEOUT: DEM_TMO increments of SVC_CYCLE have passed since the last swap, whatever Loom starts lie between (R455). -/
def execDemandTimeout (t : Word) (s : State) : Out :=
  let s := s.at t
  let c := s.get Reg.SVC_CYCLE_CYCLE
  let n := s.get Reg.SVC_DEM_DEM_TMO
  .next (if n ≠ 0 ∧ ¬ s.is Reg.SVC_DEM_DEM_STALE
      ∧ s.svc.sinceSwap.any (fun a => decide (n ≤ a)) then
      (s.set Reg.SVC_DEM_DEM_STALE 1).report 9 0 2 c (some t)
    else s)

/-- The page that a build reads, VALID and DEM_STALE for it: those before a swap of the same instant (R454). -/
def State.buildPage (s : State) : Nat × Bool × Bool :=
  let here := (s.get Reg.SVC_DEM_PAGE, s.is Reg.SVC_DEM_VALID, s.is Reg.SVC_DEM_DEM_STALE)
  match s.svc.before with
  | some (t, x) => if t = s.now then x else here
  | none => here

/-! ### Tables (R456, R458, R464, R467) -/

/-- Axis entry `i` from word `a`: bits 47..24. -/
def State.axis (s : State) (a i : Nat) : Nat := bitsOf (s.workGet (a + i)).toNat 24 24

/-- The n entries from word `a` rise strictly. -/
def State.rises (s : State) (a n : Nat) : Bool := (List.range (n - 1)).all (fun i => decide (s.axis a i < s.axis a (i + 1)))

/-- TABLE_CHECK: at RUN the enabled tiles check their tables (R458). -/
def State.tableCheck (s : State) : State :=
  let s := (List.range 2).foldl (fun s q =>
    let a := 0x3000 + 1024 * q
    let ok := s.rises a (s.get (Reg.QM_CFG_NX q)) && s.rises (a + 24) (s.get (Reg.QM_CFG_NY q))
      && s.rises (a + 640) (s.get (Reg.QM_CFG_NS q))
    s.flag (Reg.QM_CFG_TABERR q) (s.hasTile 9 q && s.is (Reg.QM_CFG_EN q) && !ok)) s
  (List.range 24).foldl (fun s j =>
    let ok := (List.range (s.get (Reg.CMB_CFG_NV j))).all (fun k => decide (s.workGet (0x3800 + k) ≠ 0))
    s.flag (Reg.CMB_CFG_TABERR j) (s.hasTile 8 j && s.is (Reg.CMB_CFG_EN j) && !ok)) s

/-- Where `x` lies on an axis of `n` entries from word `a`: the cell and the fraction, clamped to the ends. -/
def State.locate (s : State) (a n : Nat) (x : Rat) : Nat × Rat :=
  let i := min ((List.range n).countP (fun i => decide ((s.axis a i : Rat) ≤ x)) - 1) (n - 2)
  let lo : Rat := s.axis a i
  let hi : Rat := s.axis a (i + 1)
  let f := (x - lo) / (hi - lo)
  (i, if f < 0 then 0 else if 1 < f then 1 else f)

/-- D_map in 1/65,536 LSB (R464, R468); `x` is the quantity in 1/256 mg. -/
def State.mapDuration (s : State) (q : Nat) (x : Rat) (y : Int) : Int :=
  let a := 0x3000 + 1024 * q
  let nx := s.get (Reg.QM_CFG_NX q)
  let cx := s.locate a nx x
  let cy := s.locate (a + 24) (s.get (Reg.QM_CFG_NY q)) y
  let d := fun i j => ((bitsOf (s.workGet (a + 48 + nx * (cy.1 + j) + cx.1 + i)).toNat 16 32 : Nat) : Rat)
  let row := fun j => d 0 j + cx.2 * (d 1 j - d 0 j)
  roundUp ((row 0 + cy.2 * (row 1 - row 0)) * 65536)

/-- SEP of a separation of `sep` LSB, in LSB (R467). -/
def State.separation (s : State) (q : Nat) (sep : Rat) : Rat :=
  let a := 0x3000 + 1024 * q + 640
  let c := s.locate a (s.get (Reg.QM_CFG_NS q)) (sep / 160)
  let v := fun i => (signed 24 (bitsOf (s.workGet (a + i)).toNat 0 24) : Rat)
  v c.1 + c.2 * (v (c.1 + 1) - v c.1)

/-! ### Building a list (R459 to R469) -/

/-- A pulse wanted by the demand page: KIND, END and quantity in 1/256 mg. -/
structure Want where
  kind : Nat
  end_ : Word
  qty : Rat
deriving DecidableEq, Repr, Inhabited

/-- Demand word `w` of cylinder `k` as a wanted pulse; `stale`: Q is held to Q_FB (R455, R462, R463). -/
def State.want (s : State) (q k page : Nat) (stale : Bool) (w : Nat) : Option Want :=
  let d := s.workGet (0x5400 + 192 * page + 8 * k + w)
  if ¬ d.getLsbD 0 then none
  else
    let rel : Int := signed 16 (bitsOf d.toNat 32 16)
    let tt : Int := if w < 3 ∧ s.phasedNow then s.tt k else 0
    let end_ := wordOf (s.get (Reg.QM_CYL_TDC q k) * 65536 + rdiv (rel * W48) (64 * s.cycleDeg) + tt * 65536)
    let q0 := bitsOf d.toNat 8 24
    let q0 := if stale then min q0 (s.get Reg.SVC_DEM_Q_FB) else q0
    let cyls := s.balCyls
    let mean : Rat := if cyls = [] then 0 else ((cyls.foldl (fun a c => a + s.bal c) (0 : Int) : Int) : Rat) / cyls.length
    let trimmed := decide (w = if s.is Reg.TRM_CTRL_BAL_KIND then 3 else 1) && s.phasedNow
    some { kind := w + 1, end_, qty := if trimmed then q0 * (1 + (s.bal k - mean) / 1048576) else q0 }

/-- Insertion by (END − LIST_ANG) mod 2^48, equal ENDs in demand order (R469). -/
def insertWant (l : Word) (w : Want) : List Want → List Want
  | [] => [w]
  | x :: xs => if (w.end_ - l).toNat < (x.end_ - l).toNat then w :: x :: xs else x :: insertWant l w xs

/-- D2 of a wanted pulse in 1/65,536 LSB (R464 to R466). -/
def State.d2 (s : State) (q k : Nat) (y : Int) (w : Want) : Int :=
  let x := 4 * s.get (Reg.QM_CYL_BANK q k) + s.get (Reg.QM_CYL_CH q k)
  let d := s.mapDuration q w.qty y
  let d1 := roundUp ((d * (10000 + s.getI (Reg.CAL_EA_IG x)) : Int) / 10000) + s.getI (Reg.CAL_EA_IO x) * 160 * 65536
  if s.is (Reg.QM_CFG_DR_EN q) then d1 - s.get (Reg.QM_DR_DR_GAIN q) * s.drift q k * 512 else d1

/-- D3 of a wanted pulse (R467): `before` is the END of the pulse before it, `u` the last tooth update. Where the rate is
not positive the separation is a free value. -/
def State.d3 (s : State) (q : Nat) (u : Update) (before : Option Word) (w : Want) (d2 : Int) : Int × State :=
  match before with
  | none => (d2, s)
  | some e =>
    if ¬ s.is (Reg.QM_CFG_SEP_EN q) then (d2, s)
    else
      let rate2 := 2 * (u.period : Int) + u.slope
      if rate2 ≤ 0 ∨ u.dang = 0 then (let r := s.free; (d2 + r.1.toInt, r.2))
      else
        let back := rdiv (2 * d2 * u.dang) (65536 * rate2.toNat)
        let sep : Rat := (sdiff (w.end_ - wordOf back) e * rate2 : Int) / (2 * u.dang : Nat)
        (roundUp ((d2 : Rat) + s.separation q sep * 65536), s)

/-- One entry of the list (R468, R469): none leaves it EMPTY. -/
def State.buildEntry (s : State) (q k : Nat) (y : Int) (u : Update) (before : Option Word) (w : Want) :
    Option (Word × Word) × State :=
  if before = some w.end_ then (none, s.inc (Reg.QM_STAT_CLAMPS q))
  else
    let r := s.d3 q u before w (s.d2 q k y w)
    let s := r.2
    let dur := rdiv r.1 65536
    let lo := s.get (Reg.QM_DLIM_DMIN q) * 160
    let hi := s.get (Reg.QM_DLIM_DMAX q) * 160
    if dur < lo then (none, s.inc (Reg.QM_STAT_CLAMPS q))
    else
      let s := if (hi : Int) < dur then s.inc (Reg.QM_STAT_CLAMPS q) else s
      let n := min dur.toNat hi % 2 ^ 32
      (some (w.end_, BitVec.ofNat 48 (n * 2 ^ 16 + w.kind * 2 ^ 13 + s.get (Reg.QM_CYL_BANK q k) * 2 ^ 9
        + s.get (Reg.QM_CYL_CH q k) * 2 ^ 7)), s)

/-- Builds the entries in order, two words each; one that is left EMPTY keeps its place (R468, R469, Table 5.2). -/
def State.buildAll (s : State) (q k : Nat) (y : Int) (u : Update) (before : Option Word) : List Want → List Word × State
  | [] => ([], s)
  | w :: ws =>
    let r := s.buildEntry q k y u before w
    let rest := r.2.buildAll q k y u (some w.end_) ws
    let e := r.1.getD (0, 0)
    (e.1 :: e.2 :: rest.1, rest.2)

/-- Builds the list of cylinder `k` into the inactive page of its Shuttle and offers it (R461 to R469). -/
def State.buildList (s : State) (q k page : Nat) (stale : Bool) : State :=
  let n := s.get (Reg.QM_CYL_SHT q k)
  let wants := (if q = 0 then [0, 1, 2] else [3]).filterMap (s.want q k page stale)
  let pin := s.get (Reg.QM_CFG_Y_PIN q)
  let r := match s.pinNow pin with
    | none =>
      if wants = [] then ([], s)
      else ([], (s.stick (Reg.QM_CFG_PIN_LOST q) 1).report 9 q 1 (pin * 2 ^ 38) (some s.now))
    | some y =>
      let sorted := wants.foldl (fun l w => insertWant (s.reg (Reg.SHT_LIST_addr n)) w l) []
      s.buildAll q k y ((s.wf s.delivering).last.getD default) none sorted
  let g := 1 - s.get (Reg.SHT_STAT_PAGE n)
  let s := r.2.workWrite (0x2000 + 32 * n + 16 * g) (r.1 ++ List.replicate (16 - r.1.length) 0)
  (s.shtOffer n).inc (Reg.QM_STAT_BUILDS q)

/-- The build of cylinder `k` of mapping tile `q` is done or passed over: it writes only the list of a Shuttle whose WRITER names it
(R247, R459, R460). -/
def State.listBuild (s : State) (q k : Nat) : State :=
  let s := { s with maps := vset s.maps (24 * q + k) { built := true, due := false } }
  let st := s.sync s.primary
  if ¬ s.hasTile 9 q ∨ ¬ s.is (Reg.QM_CFG_EN q) ∨ s.is (Reg.QM_CFG_TABERR q) ∨ ¬ s.is (Reg.QM_CYL_EN q k)
      ∨ ¬ s.is (Reg.SHT_CFG_WRITER (s.get (Reg.QM_CYL_SHT q k))) then s
  else if s.is (Reg.SHT_CTRL_READY (s.get (Reg.QM_CYL_SHT q k))) then s.inc (Reg.QM_STAT_BUILD_SKIP q)
  else if ¬ s.buildPage.2.1 ∨ ¬ (st = ssPhased ∨ st = ssBorrowed ∨ st = ssLimp) then s
  else s.buildList q k s.buildPage.1 s.buildPage.2.2

/-- LIST_BUILD: mapping tile `q` starts the build of cylinder `k` that is due. -/
def execListBuild (t : Word) (q : Fin 2) (k : Fin 24) (s : State) : Out :=
  let s := s.at t
  .next (if (vget s.maps (24 * q.val + k.val)).due then s.listBuild q k else s)

/-! ### The tooth update (R428, R459, R576) -/

/-- The update crosses angle `a` going forward (R250). -/
def crossesAngle (old u : Update) (a : Word) : Bool := decide (0 ≤ sdiff u.angle a ∧ sdiff old.angle a < 0)

/-- The cell of SPEED_LOAD (Table 12.9). -/
def State.speedLoad (s : State) : State :=
  if s.phasedNow && s.hasTile 0x0F 0 then
    let m := s.imepSum s.balCyls (s.get Reg.SVC_CYCLE_CYCLE)
    let sp := min (s.get Reg.OVS_STAT_SPEED / (40 * s.get Reg.REC_CTRL_SPD_W)) 15
    let w := (10 * s.get Reg.REC_CTRL_LOAD_W * 65536 * m.2 : Int)
    let l := if m.2 = 0 then 15 else if m.1 < 0 then 0 else min (m.1 / w).toNat 14
    (s.accInc 3 0 (16 * sp + l)).accInc 1 0 0
  else s

/-- SVC_CYCLE increases; so do the increments since the last swap (R428, R455). -/
def State.cycleCount (s : State) : State :=
  let s := s.incMod Reg.SVC_CYCLE_CYCLE
  { s with svc := { s.svc with sinceSwap := s.svc.sinceSwap.map (fun n => satU 8 (n + 1)) } }

/-- The cycle count and the build angles take an update of the delivering Weft (R428, R459). -/
def State.svcUpdate (s : State) (u : Update) : State :=
  let old := s.svc.prev
  let s := { s with svc := { s.svc with prev := some u } }
  match old with
  | none => s
  | some o =>
    let s := if crossesAngle o u 0 then s.cycleCount.speedLoad else s
    { s with maps := Vector.ofFn (fun (i : Fin 48) =>
        let m := vget s.maps i
        let q := i.val / 24
        let k := i.val % 24
        if ¬ s.is (Reg.QM_CYL_EN q k) then m
        else
          let tdc : Word := BitVec.ofNat 48 (s.get (Reg.QM_CYL_TDC q k) * 65536)
          let ofs := wordOf (rdiv (s.getI (Reg.QM_CFG_BUILD_OFS q) * W48) (64 * s.cycleDeg))
          let m := if crossesAngle o u tdc then { m with built := false } else m
          if crossesAngle o u (tdc + ofs) && !m.built then { m with due := true } else m) }

/-! ### Drift (R470, R471) -/

/-- The cylinder of the ply's that tile `q` gives bank `b`, channel `c`. -/
def State.cylOf (s : State) (q b c : Nat) : Option Nat :=
  if s.hasTile 9 q then
    (List.range s.weave.cyl).find? (fun k => decide (s.get (Reg.QM_CYL_BANK q k) = b ∧ s.get (Reg.QM_CYL_CH q k) = c))
  else none

/-- Entry `i` of the DRIFT accumulator (Table 12.11). -/
def State.driftSite (s : State) (i : Nat) : Nat := bitsOf (s.accGet 7 0 (3 * i + 2)).toNat 32 8

/-- The DRIFT entry of site `x`: the occupied entry that names it. -/
def State.driftEntry (s : State) (x : Nat) : Option Nat :=
  (List.range 96).find? (fun i => s.accGet 7 0 (3 * i) ≠ 0 && decide (s.driftSite i = x))

/-- CD_F of a cylinder also stands in the DRIFT entry of its site (R581). -/
def State.driftRecord (s : State) (q k x : Nat) : State :=
  match s.hasTile 0x0F 0, s.driftEntry x with
  | true, some i => s.accSet 7 0 (3 * i + 1) (s.workGet (0x5600 + 8 * k + 3 + 2 * q))
  | _, _ => s

/-- The cell of DRIFT_HIST (Table 12.9). -/
def State.driftHist (s : State) (b c : Nat) (d : Int) : State :=
  if s.hasTile 0x0F 0 then
    s.accInc 4 b (16 * c + (clampI 0 15 (d / (160 * s.get Reg.REC_CTRL_DBIN_W : Nat) + 8)).toNat)
  else s

/-- DRIFT_UPDATE: the oldest closure found teaches its actuator (R470). -/
def execDriftUpdate (t : Word) (s : State) : Out :=
  let s := s.at t
  .next (match s.closures with
    | [] => s
    | c :: rest =>
      let s := { s with closures := rest }
      match c.drift with
      | none => s
      | some q => match s.cylOf q c.bank c.ch with
        | none => s
        | some k =>
          if elapsed c.tStart c.tStop < s.get (Reg.QM_DR_DR_DMIN q) * us then s
          else
            let cd := (elapsed c.tStop c.at_ : Int)
            let f := (s.cyl k (3 + 2 * q) cyCdF : Int)
            let f' := satUI 48 (f + openRound ((cd * 65536 - f : Rat) / 2 ^ s.get (Reg.QM_DR_DR_SH q)))
            let s := s.setCyl k (3 + 2 * q) cyCdF f'
            let lim := (s.get (Reg.QM_DR_DRIFT_MAX q) * 160 : Int)
            let raw := openRound ((f' : Rat) / 65536 - s.cyl k (2 + 2 * q) cyCd0)
            let d := clampI (-lim) lim raw
            let s := s.setCyl k 6 (cyDrift q) (unsign 24 d)
            let x := 4 * c.bank + c.ch
            let s := (s.driftRecord q k x).driftHist c.bank c.ch d
            if d = raw then s else s.report 9 q 3 (x * 2 ^ 32) (some c.at_))

/-! ### Overspeed (R477 to R480) -/

/-- 4 N of R477, from the update before: a speed in 0.25 rpm. -/
def State.speedOf (s : State) (old u : Update) : Nat :=
  let da := if u.ins then (u.angle - old.angle).toNat else old.dang
  let dt := elapsed old.time u.time
  satU 16 (rdiv (da * s.revs * 384000000000 : Nat) (W48 * dt)).toNat

/-- The tile forms a speed (R477, R479, R480). -/
def State.speedFormed (s : State) (n : Nat) (u : Update) : State :=
  let s := (s.set Reg.OVS_STAT_SPEED n).extreme 0 0 n false false
  let cut := 4 * s.get Reg.OVS_CFG_CUT
  let s :=
    if cut ≤ n then
      if s.is Reg.OVS_STAT_CUT then s
      else ((s.set Reg.OVS_STAT_CUT 1).inc Reg.OVS_STAT_CUTS).report 0x0C 0 1 n (some u.time)
    else if n + 4 * s.get Reg.OVS_CFG_HYS < cut then s.set Reg.OVS_STAT_CUT 0
    else s
  let fast := decide (4 * s.get Reg.OVS_CFG_TRIP ≤ n)
  let s' := { s with ovs := { s.ovs with trip := fast } }
  if fast && !s.ovs.trip then s'.cause 9 0 else s'

/-- OVERSPEED_UPDATE: the tile takes the update that was broadcast (R477 to R480). -/
def execOverspeedUpdate (t : Word) (s : State) : Out :=
  let s := s.at t
  .next (match s.ovs.upd with
    | none => s
    | some u =>
      let old := s.ovs.prev
      let s := { s with ovs := { s.ovs with upd := none, prev := some u } }
      match old with
      | none => s
      | some o =>
        if u.step ∨ (o.src < 2) ≠ (u.src < 2) ∨ ¬ s.hasTile 0x0C 0 ∨ o.time = u.time then s
        else s.speedFormed (s.speedOf o u) u)

/-! ### Counters (R483) -/

/-- The counters of combustion tile `j`, of mapping tile `q` and of the rail tile. -/
def cmbCounters (j : Nat) : List Fld := [Reg.CMB_STAT_RECS j, Reg.CMB_STAT_INVALID j, Reg.CMB_STAT_OVERRUN j]
def mapCounters (q : Nat) : List Fld := [Reg.QM_STAT_BUILDS q, Reg.QM_STAT_CLAMPS q, Reg.QM_STAT_BUILD_SKIP q]
def railCounters : List Fld := [Reg.RP_STAT_EVENTS]

/-- SERVICE_CNT_CLR: a write to the CNT_CLR word of a service tile (R34, R483). -/
def State.serviceClear (s : State) : SvcTile → State
  | .cmb j => if s.hasTile 8 j then s.clearCounts (cmbCounters j) else s.wrej
  | .map q => if s.hasTile 9 q then s.clearCounts (mapCounters q) else s.wrej
  | .rail => if s.hasTile 0x0B 0 then s.clearCounts railCounters else s.wrej

def execServiceCntClr (t : Word) (which : SvcTile) (s : State) : Out := .next ((s.at t).serviceClear which)

end Sys2Proof.Machine
end

