-- ==== Sys2Proof/Machine/Ident.lean ====
section
/-!
DEFINITION. Identity memories, enumeration, calibration layers and the background roll call (10_identity_and
_calibration). Commands carry what the controller measures on a line: the current of each answer slot and the baseline
of the turnaround before, in µA.
-/
namespace Sys2Proof.Machine

def State.line (s : State) (l : Nat) : SelvLine := vget s.selv l
def State.setLine (s : State) (l : Nat) (k : SelvLine) : State := { s with selv := vset s.selv l k }

/-- What an answer slot shows (R491). -/
inductive Slot where
  | zero | one | collide
deriving DecidableEq, Repr, Inhabited

/-- Classifies a slot's current against the baseline (R491). -/
def slotOf (base ua : Int) : Slot :=
  if ua - base < 1500 then .zero else if ua - base < 6000 then .one else .collide

/-- The sites of line `l` that have an index (R486). -/
def sitesOf (l : Nat) : Nat := if l < 12 then 4 else 12

/-- The index x of a site (R486). -/
def siteIndex (l site : Nat) : Nat := if l < 12 then 4 * l + site else 48 + 12 * (l - 12) + site

/-- The line and site of an index. -/
def siteLine (x : Nat) : Nat × Nat := if x < 48 then (x / 4, x % 4) else (12 + (x - 48) / 12, (x - 48) % 12)

/-! ### Enumeration (R489, R495, R496) -/

/-- An enumeration starts on every line (R495, R499). -/
def State.enumBegin (s : State) : State :=
  let s := { s with
    enumStart := some s.now
    selv := s.selv.map (fun (k : SelvLine) => { k with
      phase := .high, since := s.now, rolled := false, todo := [], fails := [], results := [] }) }
  let s := (List.range 14).foldl (fun s l => s.set (Reg.IDN_LINE_FAULT l) 0) s
  let s := (List.range 72).foldl (fun s x => s.set (Reg.IDN_SITE1_STATE x) 0) s
  s.set Reg.IDN_STAT_STATE 1

/-- A write of IDN_CMD (R495, Table 10.8). -/
def State.idnCommand (s : State) (code : Nat) : State :=
  if code = 1 ∧ ¬ s.running ∧ s.enumStart = none then s.enumBegin else s.stick Reg.IDN_STAT_CMD_REJ 1

/-- ENUM: the host writes 1 to IDN_CMD. -/
def execEnum (t : Word) (s : State) : Out := .next ((s.at t).idnCommand 1)

/-- IDN_CMD_INVALID: the host writes another code. -/
def execIdnCmdInvalid (t : Word) (code : Fin 16) (s : State) : Out :=
  let s := s.at t
  .next (if code.val = 1 then s else s.idnCommand code)

/-- SELVEDGE_LINE_READY: the line has been sampled for 100 µs; `x` holds the least voltage of those samples and the largest line
current, so a break shows in them. The receiver's crossing of 4.0 V clears INIT; at 4.0 V and below 3.0 mA throughout, and
within 1.0 ms, the line is ready (R411, R489; log entry 142). -/
def execSelvedgeLineReady (t : Word) (x : LineSamples) (s : State) : Out :=
  let s := s.at t
  let k := s.line x.line
  let s := if 4000 ≤ x.mv then s.set (Reg.IDN_LINE_INIT x.line) 0 else s
  .next (if k.phase = .high ∧ 4000 ≤ x.mv ∧ x.ua < 3000 ∧ 100 * us ≤ elapsed k.since t ∧ elapsed k.since t ≤ ms then
      s.setLine x.line { k with phase := .ready }
    else s)

/-- SELVEDGE_LINE_SHORT: the line was not ready within 1.0 ms (R489). -/
def execSelvedgeLineShort (t : Word) (l : Fin 14) (s : State) : Out :=
  let s := s.at t
  let k := s.line l
  .next (if k.phase = .high ∧ ms ≤ elapsed k.since t then
      (s.setLine l { k with phase := .done }).set (Reg.IDN_LINE_FAULT l) 1
    else s)

/-- SELVEDGE_RESET: a reset of 160 µs, after which the line's memories listen (R490, R492). -/
def execSelvedgeReset (t : Word) (l : Fin 14) (s : State) : Out :=
  let s := s.at t
  let k := s.line l
  .next (if k.phase = .ready then s.setLine l { k with phase := .fresh } else s)

/-- The line goes on to its next site, or is at its end. -/
def SelvLine.goOn (k : SelvLine) : SelvLine :=
  { k with phase := if k.todo = [] then .done else .ready, fails := [] }

/-- PRESENT of a roll call: 1 and COLLIDE both count (R496). -/
def presentMask (slots : List Slot) : Nat :=
  slots.zipIdx.foldl (fun m x => if x.1 = .zero then m else m + 2 ^ x.2) 0

/-- ROLL_CALL: the answers of the sixteen sites (R492, R494, R496). -/
def execRollCall (t : Word) (l : Fin 14) (base : Int) (ua : Vector Int 16) (s : State) : Out :=
  let s := s.at t
  let k := s.line l
  let slots := ua.toList.map (slotOf base)
  let m := presentMask slots
  .next (if k.phase ≠ .fresh ∨ k.rolled then s
    else
      let s := s.set (Reg.IDN_LINE_PRESENT l) m
      if m = 0 then (s.setLine l { k with phase := .done, rolled := true }).set (Reg.IDN_LINE_FAULT l) 2
      else
        let sites := List.range (sitesOf l)
        let dup := sites.filter (fun i => decide (slots.getD i .zero = .collide))
        let todo := sites.filter (fun i => decide (slots.getD i .zero = .one))
        s.setLine l ({ k with rolled := true, todo, results := dup.map (fun i => (i, 6)) } : SelvLine).goOn)

/-- The first site of a line has its result. -/
def State.siteDone (s : State) (l : Nat) (code : Nat) : State :=
  let k := s.line l
  match k.todo with
  | [] => s
  | i :: rest => s.setLine l ({ k with todo := rest, results := k.results ++ [(i, code)] } : SelvLine).goOn

/-- A read of the first site has failed: after two the site has the state of its failures (Table 10.3); two failures that
no row of the table names give one of CRC_ERR and FORMAT_ERR, which of them is open. -/
def State.siteFailed (s : State) (l kind : Nat) : State :=
  let k := s.line l
  match k.fails with
  | [] => s.setLine l { k with phase := .ready, fails := [kind] }
  | a :: _ =>
    if a = 1 ∧ kind = 1 then s.siteDone l 3
    else if a = 2 ∧ kind = 2 then s.siteDone l 4
    else let r := s.free; r.2.siteDone l (if r.1.getLsbD 0 then 4 else 3)

/-- SELECT_SITE: the mark and the 48 serial slots of the first site still to be read (R492, R494). -/
def execSelectSite (t : Word) (l : Fin 14) (base : Int) (ua : Vector Int 49) (s : State) : Out :=
  let s := s.at t
  let k := s.line l
  let slots := ua.toList.map (slotOf base)
  .next (if k.phase ≠ .fresh ∨ ¬ k.rolled ∨ k.todo = [] then s
    else if slots.contains .collide then s.siteDone l 6
    else if slots.getD 0 .zero = .zero then s.siteFailed l 0
    else s.setLine l { k with phase := .selected })

/-! ### Records (R499, R501, R505) -/

/-- The CRC-16 of a record (R501). -/
def recordCrc (bs : List Nat) : Nat := crc16 0x1021 0xFFFF bs

/-- The least LEN of a TYPE (Table 10.4). -/
def minLen (type : Nat) : Nat :=
  if type = 1 then 64 else if type = 2 then 48 else if type = 3 ∨ type = 4 then 32 else 16

/-- What is wrong with a record: 2 its format, 1 its CRC; none: it is accepted (R501). -/
def recordFault (bs : List Nat) : Option Nat :=
  let len := beNat [bs.getD 4 0, bs.getD 5 0]
  if bs.getD 0 0 ≠ 0x58 ∨ bs.getD 1 0 ≠ 0x49 ∨ bs.getD 2 0 ≠ 1 ∨ len < 16 ∨ 256 < len ∨ len < minLen (bs.getD 3 0) then some 2
  else if recordCrc (bs.take (len - 2)) ≠ beNat [bs.getD (len - 2) 0, bs.getD (len - 1) 0] then some 1
  else none

/-- Writes a record area: six bytes a word, unused bytes 0 (R505). -/
def State.areaWrite (s : State) (x : Nat) (bs : List Nat) : State :=
  s.workWrite (0x6000 + 64 * x) ((List.range 64).map (fun n => wordAt bs (6 * n)))

/-- Byte `n` of a site's record area. -/
def State.areaByte (s : State) (x n : Nat) : Nat := byteOf (s.workGet (0x6000 + 64 * x + n / 6)) (n % 6)

/-- Two bytes of a site's record area. -/
def State.area16 (s : State) (x n : Nat) : Nat := s.areaByte x n * 256 + s.areaByte x (n + 1)

/-- The bytes that answer slots spell, most significant bit first (R490). -/
def slotBytes (slots : List Slot) : List Nat :=
  (List.range (slots.length / 8)).map (fun n =>
    (List.range 8).foldl (fun a i => 2 * a + (if slots.getD (8 * n + i) .zero = .one then 1 else 0)) 0)

/-- SELVEDGE_READ: the record of the selected memory from byte 0, up to LEN (R492, R494, R496, R501). -/
def execSelvedgeRead (t : Word) (l : Fin 14) (base : Int) (ua : List Int) (s : State) : Out :=
  let s := s.at t
  let k := s.line l
  let slots := ua.map (slotOf base)
  let bs := slotBytes slots
  .next (if k.phase ≠ .selected then s
    else if slots.contains .collide then s.siteFailed l 0
    else match recordFault bs with
      | some kind => s.siteFailed l kind
      | none =>
        let x := siteIndex l (k.todo.headD 0)
        let s := s.areaWrite x (bs.take (beNat [bs.getD 4 0, bs.getD 5 0]))
        let s := s.set (Reg.IDN_SITE0_SERIAL x) (beNat ((bs.drop 6).take 6))
        (s.set (Reg.IDN_SITE1_TYPE x) (bs.getD 3 0)).siteDone l 1)

/-! ### Judging the sites (R497 to R499) -/

/-- The state of site x (Table 10.3). -/
def State.judge (s : State) (x : Nat) : Nat :=
  let (l, i) := siteLine x
  let exp := s.get (Reg.IDN_EXP_TYPE x)
  if s.get (Reg.IDN_LINE_FAULT l) = 1 then (if exp = 0 then 0 else 8)
  else match (s.line l).results.find? (fun r => decide (r.1 = i)) with
    | none => if exp = 0 then 0 else 2
    | some (_, code) =>
      if code = 6 then 6
      else if exp = 0 then 7
      else if code ≠ 1 then code
      else if s.get (Reg.IDN_SITE1_TYPE x) = exp then 1 else 5

/-- Site x takes its state; an area without an accepted record of a wanted type is cleared (R498, R499). -/
def State.siteState (s : State) (x : Nat) : State :=
  let c := s.judge x
  let got := (s.line (siteLine x).1).results.contains ((siteLine x).2, 1)
  let s := if c = 1 ∨ c = 5 then s else s.areaWrite x []
  let s := if got then s else (s.set (Reg.IDN_SITE0_SERIAL x) 0).set (Reg.IDN_SITE1_TYPE x) 0
  let s := s.set (Reg.IDN_SITE1_STATE x) c
  if c ≤ 1 then s else s.report 0x14 0 1 (x * 2 ^ 32 + c * 2 ^ 28) (some s.now)

/-- Site x is VALID. -/
def State.siteValid (s : State) (x : Nat) : Bool := decide (s.get (Reg.IDN_SITE1_STATE x) = 1)

/-- The DRIFT entry of a serial and type (R502, R580). -/
def State.driftOf (s : State) (serial type : Nat) : Option Nat :=
  if serial = 0 then none
  else (List.range 96).find? (fun i => decide ((s.accGet 7 0 (3 * i)).toNat = serial
    ∧ bitsOf (s.accGet 7 0 (3 * i + 2)).toNat 40 8 = type))

def State.siteDrift (s : State) (x : Nat) : Option Nat :=
  if s.hasTile 0x0F 0 then s.driftOf (s.get (Reg.IDN_SITE0_SERIAL x)) (s.get (Reg.IDN_SITE1_TYPE x)) else none

/-- R502, R577: a VALID actuator site is looked up in Strandline. -/
def State.lookup (s : State) (x : Nat) : State :=
  let clear := fun (s : State) =>
    if s.hasTile 0x0F 0 then (List.range 16).foldl (fun s d => s.accSet 4 (x / 4) (16 * (x % 4) + d) 0) s else s
  if ¬ s.siteValid x then s
  else match s.siteDrift x with
    | none => clear ((s.stick (Reg.IDN_SITE1_REPLACED x) 1).report 0x14 0 2 (x * 2 ^ 32) (some s.now))
    | some i =>
      if s.driftSite i = x then s
      else clear ((s.stick (Reg.IDN_SITE1_MOVED x) 1).report 0x14 0 3 (x * 2 ^ 32) (some s.now))

/-! ### Formation (R503 to R506) -/

/-- Rounds and clamps a value to [lo, hi) in the unit of its field (R503); whether it was clamped. -/
def clampUnit (x lo hi : Rat) : Int × Bool :=
  let top := -(-hi).floor - 1
  if x < lo then (roundUp lo, true)
  else if hi ≤ x ∨ top < roundUp x then (top, true)
  else (roundUp x, false)

/-- Records a clamp of Table 10.6 row `row`, index `i`. -/
def State.clampedAt (s : State) (row i : Nat) (c : Bool) : State :=
  if c then (s.stick Reg.CAL_STAT_CLAMPED 1).report 0x15 0 1 (row * 2 ^ 32 + i * 2 ^ 24) (some s.now) else s

/-- B + B × UG / 2^16 + UO (R503). -/
def layered (b : Rat) (ug uo : Int) : Rat := b + b * ug / 65536 + uo

/-- The record base applies to site x (R504). -/
def State.useRecord (s : State) (x : Nat) : Bool := s.siteValid x && s.is Reg.CAL_CTRL_USE_ID

/-- Offset and gain of input `i`. -/
def State.formInput (s : State) (i : Nat) : State :=
  let o := clampUnit (layered (Config.factoryOfs i).toInt 0 (s.getI (Reg.CAL_IN_UO i))) (-512) 512
  let g := clampUnit (layered (Config.factoryGain i).toNat (s.getI (Reg.CAL_IN_UG i)) 0) 14746 18022
  let s := (s.clampedAt 2 i o.2).clampedAt 3 i g.2
  { s with inCal := s.inCal ++ [(o.1, g.1.toNat)] }

/-- PSCALE of tile `j`; with a sensitivity of 0 it is a free value. -/
def State.formScale (s : State) (j : Nat) : State :=
  if ¬ s.hasTile 8 j then s
  else
    let x := 48 + s.get (Reg.CAL_PS_INPUT j)
    let sens := if s.useRecord x then s.area16 x 18 * 65536 + s.area16 x 20 else s.get Reg.CAL_NOM4_SENS
    let r := s.free
    let s := if sens = 0 then r.2 else s
    let b : Rat := if sens = 0 then r.1.toNat else (762939453125 * 2 ^ 32 : Nat) / (10000000 * sens : Nat)
    let v := clampUnit (layered b (s.getI (Reg.CAL_PS_UG j)) 0) (2 ^ 32 / 20) (20 * 2 ^ 32)
    (s.clampedAt 4 j v.2).set (Reg.CMB_PSC_PSCALE j) v.1.toNat

/-- The closure delay of actuator site x in 0.1 µs, before the clamp of Table 10.6. -/
def State.siteDelay (s : State) (x : Nat) : Rat :=
  layered (if s.useRecord x then s.area16 x 26 else s.get (Reg.CAL_NOM_CD0 (s.get (Reg.IDN_EXP_TYPE x) - 1))) 0
    (s.getI (Reg.CAL_ACT_UCD x))

/-- CD_0 of site x in LSB, the unit of its consumer field: HI maps to the largest LSB below it (R503, Table 9.6). -/
def State.siteCd0 (s : State) (x : Nat) : Nat := (clampUnit (160 * s.siteDelay x) 80000 3200000).1.toNat

/-- CD_0 of site x, into CAL_EAx and the word of the cylinder that names it; a site that no cylinder names gets none (R504). -/
def State.formDelay (s : State) (x : Nat) : State :=
  let v := s.siteCd0 x
  let cd := clampUnit (s.siteDelay x) 500 20000
  let s := if (List.range 2).any (fun q => (s.cylOf q (x / 4) (x % 4)).isSome) then
      (s.clampedAt 7 x cd.2).set (Reg.CAL_EA_CD0 x) cd.1.toNat
    else s
  (List.range 2).foldl (fun s q => match s.cylOf q (x / 4) (x % 4) with
    | some k => s.setCyl k (2 + 2 * q) cyCd0 v
    | none => s) s

/-- The effective values of actuator site x (Table 10.6). -/
def State.formSite (s : State) (x : Nat) : State :=
  let type := s.get (Reg.IDN_EXP_TYPE x)
  let rec_ := s.useRecord x
  if type = 0 ∨ 3 < type then s
  else
    let s :=
      if type = 3 then s
      else
        let base := fun n => if rec_ then signed 16 (s.area16 x n) else 0
        let ig := clampUnit (layered (base 22) 0 (s.getI (Reg.CAL_ACT_UIG x))) (-2000) 2000
        let io := clampUnit (layered (base 24) 0 (s.getI (Reg.CAL_ACT_UIO x))) (-500) 500
        let s := (s.clampedAt 5 x ig.2).clampedAt 6 x io.2
        ((s.setI (Reg.CAL_EA_IG x) ig.1).setI (Reg.CAL_EA_IO x) io.1).formDelay x
    let rref := if rec_ then s.area16 x 18 else s.get (Reg.CAL_NOM_RREF (type - 1))
    let r := clampUnit (layered rref (s.getI (Reg.CAL_ACTR_URR x)) 0) 500 65535
    (s.clampedAt 8 x r.2).set (Reg.BNK_THP_R_REF (x / 4) (x % 4)) r.1.toNat

/-- The pump current offset of the bank that the rail tile regulates: the record's IOFS where an accepted record of a pump valve gives
it, 0 otherwise (R504, Table 10.6). -/
def State.formPump (s : State) : State :=
  match (List.range 12).find? (fun b => s.hasTile 4 b && s.is (Reg.BNK_CONT_WRITER b)) with
  | none => s
  | some b =>
    let x := 4 * b + s.get (Reg.BNK_CONT_CH b)
    let base := if s.useRecord x ∧ s.get (Reg.IDN_EXP_TYPE x) = 3 then signed 16 (s.area16 x 22) else 0
    let v := clampUnit (layered base 0 (s.getI (Reg.CAL_ACT_UIG x))) (-200) 200
    (s.clampedAt 9 x v.2).set Reg.RP_OUT_FF (clampI 0 4095 (s.get Reg.RP_LIM_FF_BASE + v.1)).toNat

/-- CAL_FORMATION: all effective values are formed (R506). -/
def State.form (s : State) : State :=
  let s := (List.range 46).foldl State.formInput { s with inCal := [] }
  let s := (List.range 24).foldl State.formScale s
  let s := ((List.range 48).foldl State.formSite s).formPump
  s.incMod Reg.CAL_STAT_FORMS

/-! ### The drift table (R581) -/

/-- The word 3i + 2 of a DRIFT entry. -/
def driftWord (type site last : Nat) : Word := BitVec.ofNat 48 (type * 2 ^ 40 + site * 2 ^ 32 + last)

/-- The absent entry with the oldest LAST. -/
def State.oldestAbsent (s : State) : Option Nat :=
  let last := fun i => bitsOf (s.accGet 7 0 (3 * i + 2)).toNat 0 32
  (List.range 96).foldl (fun m i =>
    if s.driftSite i ≠ 0xFF then m
    else match m with
      | none => some i
      | some j => if signed 32 ((last i + 2 ^ 32 - last j) % 2 ^ 32) < 0 then some i else m) none

/-- DRIFT takes VALID actuator site x: any other entry that named it is absent then, also where the part at x is new (R581; log
entry 68). -/
def State.driftTake (s : State) (x : Nat) : State :=
  if ¬ s.siteValid x then s
  else
    let serial := s.get (Reg.IDN_SITE0_SERIAL x)
    let type := s.get (Reg.IDN_SITE1_TYPE x)
    let last := s.get Reg.REC_SEQ_NEXT
    let found := s.siteDrift x
    let s := (List.range 96).foldl (fun s j =>
      if found ≠ some j ∧ s.accGet 7 0 (3 * j) ≠ 0 ∧ s.driftSite j = x then
        let w := (s.accGet 7 0 (3 * j + 2)).toNat
        s.accSet 7 0 (3 * j + 2) (driftWord (bitsOf w 40 8) 0xFF (bitsOf w 0 32))
      else s) s
    match found with
      | some i => s.accSet 7 0 (3 * i + 2) (driftWord type x last)
      | none =>
        let put := fun (s : State) i =>
          ((s.accSet 7 0 (3 * i) (BitVec.ofNat 48 serial)).accSet 7 0 (3 * i + 1)
            (BitVec.ofNat 48 (s.siteCd0 x * 65536))).accSet 7 0 (3 * i + 2) (driftWord type x last)
        match (List.range 96).find? (fun i => decide (s.accGet 7 0 (3 * i) = 0)) with
        | some i => put s i
        | none => match s.oldestAbsent with
          | some i => ((put s i).inc Reg.REC_CNT_EVICT).report 0x0F 0 2 0
          | none => s

/-- ENUM_DONE: every line is at its end and the weave has loaded: states, lookups, formation, the drift table (R497 to R500,
R502, R506, R581, R591). -/
def execEnumDone (t : Word) (s : State) : Out :=
  let s := s.at t
  .next (match s.enumStart with
    | none => s
    | some a =>
      if s.weave.loading || s.selv.toList.any (fun k => decide (k.phase ≠ .done))
          || (s.hasTile 0x0F 0 && !s.is Reg.REC_STAT_READY) then s
      else
        let s := (List.range 72).foldl State.siteState s
        let s := ((List.range 48).foldl State.lookup s).form
        let s := if s.hasTile 0x0F 0 then (List.range 48).foldl State.driftTake s else s
        let s := (s.set Reg.IDN_STAT_TIME (satUI 16 (openRound ((elapsed a t : Rat) / us)))).set Reg.IDN_STAT_STATE 2
        { s with enumStart := none, selv := s.selv.map (fun (k : SelvLine) => { k with phase := .off }) })

/-! ### The background roll call (R510) -/

/-- One site of a background roll call. -/
def State.rollSite (s : State) (l i : Nat) (bit : Bool) : State :=
  let st := s.get (Reg.IDN_SITE1_STATE (siteIndex l i))
  let ev := fun (s : State) (found : Nat) => s.report 0x14 0 4 (l * 2 ^ 32 + i * 2 ^ 28 + found * 2 ^ 27) (some s.now)
  if st = 1 ∧ ¬ bit then ev (s.stickBit (Reg.IDN_LINE_LOST l) i) 0
  else if (st = 0 ∨ st = 2) ∧ bit then ev s 1
  else s

/-- BACKGROUND_ROLL_CALL: every RC_PER while the Loom runs, never within 200 µs of a commit on the line's bank. -/
def execBackgroundRollCall (t : Word) (l : Fin 14) (base : Int) (ua : Vector Int 16) (s : State) : Out :=
  let s := s.at t
  let k := s.line l
  let near := decide (l.val < 12) && (s.bk l).commitAt.any (fun a => decide (elapsed a t < 200 * us))
  .next (if ¬ s.running ∨ ¬ s.is Reg.IDN_STAT_RC_EN ∨ s.enumStart.isSome ∨ near
        ∨ elapsed k.rollAt t < s.get Reg.IDN_STAT_RC_PER * (100 * ms) then s
    else
      let m := presentMask (ua.toList.map (slotOf base))
      let s := (s.setLine l { k with rollAt := t }).set (Reg.IDN_LINE_PRESENT l) m
      (List.range (sitesOf l)).foldl (fun s i => s.rollSite l i (m.testBit i)) s)

end Sys2Proof.Machine
end

