-- ==== Sys2Proof/Machine/Weave.lean ====
section
/-!
DEFINITION. Weaving a configuration (02_weave_configuration): the ply format and its check, selection, the load with its
apply rules, microcode, the weave store, mirror, scrub and the commands of WVE_CMD but RUN's start and STOP
(Machine/Loom.lean).
-/
namespace Sys2Proof.Machine

/-! ### Ply bytes -/

/-- Where a ply lies: the on-chip store or the configuration flash (R87). -/
inductive PlySrc where
  | chip (n : Nat)
  | flash (n : Nat)
deriving DecidableEq, Repr

/-- Byte `k` of a ply (R6, R87). -/
def State.plyByte (s : State) : PlySrc → Nat → Nat
  | .chip n, k => byteOf (s.plyGet n (k / 6)) (k % 6)
  | .flash n, k => s.flashGet (0x20000 * n + k)

/-- `n` bytes of a ply from `o`. -/
def State.plyBytes (s : State) (p : PlySrc) (o n : Nat) : List Nat := (List.range n).map (fun k => s.plyByte p (o + k))

/-- A multi-byte field of a ply (R5). -/
def State.plyNat (s : State) (p : PlySrc) (o n : Nat) : Nat := beNat (s.plyBytes p o n)

/-- A section of a ply: type, byte offset, length (Table 2.3). -/
structure Section where
  type : Nat
  off : Nat
  len : Nat
deriving DecidableEq, Repr

/-- The section directory (Table 2.3). -/
def State.directory (s : State) (p : PlySrc) : List Section :=
  (List.range (s.plyNat p 16 1)).map (fun k =>
    ⟨s.plyByte p (32 + 12 * k), s.plyNat p (36 + 12 * k) 4, s.plyNat p (40 + 12 * k) 4⟩)

/-- Neither byte range begins inside the other; an empty range strictly inside another counts as an overlap (log entry 122). -/
def Section.apart (a b : Section) : Bool := decide (a.off + a.len ≤ b.off ∨ b.off + b.len ≤ a.off)

/-- No two sections of a list overlap. -/
def sectionsApart : List Section → Bool
  | [] => true
  | a :: l => l.all a.apart && sectionsApart l

/-- R78 with the limits of Tables 2.1 to 2.3. -/
def directoryOk (w : Nat) (d : List Section) : Bool :=
  let count := fun t => (d.filter (fun x => decide (x.type = t))).length
  decide (5 ≤ d.length ∧ d.length ≤ 16) && [1, 2, 3, 4, 5].all (fun t => decide (count t = 1)) && decide (count 6 ≤ 1)
    && d.all (fun x => decide (x.off % 6 = 0 ∧ 32 + 12 * d.length ≤ x.off ∧ x.off + x.len ≤ 6 * w - 4))
    && sectionsApart d

/-- The result of a ply check: state code, reason code, generation (Tables 2.11 and 2.19). -/
structure PlyCheck where
  state : Nat
  reason : Nat
  gen : Nat
deriving DecidableEq, Repr

/-- The check of a stored ply, in the order of Table 2.11 (R83). -/
def State.plyCheck (s : State) (p : PlySrc) : PlyCheck :=
  let w := s.plyNat p 14 2
  let gen := s.plyNat p 8 4
  if s.plyNat p 0 2 ≠ 0x5756 then ⟨0, 1, 0⟩
  else if w < 16 ∨ 21845 < w then ⟨1, 2, 0⟩
  else if crc32 (s.plyBytes p 0 (6 * w - 4)) ≠ s.plyNat p (6 * w - 4) 4 then ⟨1, 3, 0⟩
  else if s.plyByte p 2 ≠ 1 then ⟨2, 4, gen⟩
  else if 1 < s.plyByte p 3 then ⟨2, 9, gen⟩
  else if s.plyNat p 4 2 ≠ 0x4820 then ⟨2, 5, gen⟩
  else if 3 < s.plyByte p 6 then ⟨2, 6, gen⟩
  else if gen = 0 ∨ gen = 0xFFFFFFFF then ⟨2, 7, gen⟩
  else if !directoryOk w (s.directory p) then ⟨2, 8, gen⟩
  else ⟨3, 0, gen⟩

/-- Two INTACT plies are identical (R85). -/
def State.plySame (s : State) (p q : PlySrc) : Bool :=
  let w := s.plyNat p 14 2
  decide (w = s.plyNat q 14 2) && (List.range (6 * w)).all (fun k => decide (s.plyByte p k = s.plyByte q k))

/-- The outcome of a selection by Table 2.12. -/
inductive Choice where
  | none
  | conflict
  | ply (p : PlySrc)
deriving DecidableEq, Repr

/-- Selection among plies of one store (Table 2.12). -/
def State.choose (s : State) (plies : List PlySrc) : Choice :=
  let intact := plies.filter (fun p => decide ((s.plyCheck p).state = 3))
  let top := (intact.map (fun p => (s.plyCheck p).gen)).foldl max 0
  match intact.filter (fun p => decide ((s.plyCheck p).gen = top)) with
  | [] => .none
  | p :: ps => if ps.all (s.plySame p) then .ply p else .conflict

/-- The flash can be reached: power domain 7 on and its clock present. -/
def State.flashUp (s : State) : Bool := decide (s.domain 7 = 0) && !s.crossingOff 3

/-- Load step 3 (R84 to R89). -/
def State.selectPly (s : State) : Choice :=
  match s.choose [.chip 0, .chip 1, .chip 2] with
  | .none => if s.straps.2 && s.flashUp then s.choose [.flash 0, .flash 1, .flash 2] else .none
  | c => c

/-- Load step 1: shows the check of each on-chip ply in WVE_PLYn. -/
def State.checkPlies (s : State) : State :=
  [0, 1, 2].foldl (fun s n =>
    let c := s.plyCheck (.chip n)
    ((s.set (Reg.WVE_PLY_STATE n) c.state).set (Reg.WVE_PLY_REASON n) c.reason).set (Reg.WVE_PLY_GEN n) c.gen) s

/-! ### Tiles, regions and balls -/

/-- How many tiles of a type exist; 0 for an unknown type (Tables 1.1 and 2.7). -/
def tileCount (type : Nat) : Nat :=
  [0, 6, 2, 64, 12, 3, 16, 9, 24, 2, 1, 1, 1, 2, 1, 1, 1, 8, 1, 1].getD type 0

/-- The handshake region of a tile (Table 1.2, R36). -/
def tileRegion (type idx : Nat) : Nat :=
  match type with
  | 1 | 2 | 0x0C => 0
  | 3 => if idx < 32 then 1 else 2
  | 0x0D => 2
  | 4 => if idx < 6 then 3 else 4
  | 5 => 4
  | 6 | 7 => 5
  | 8 => if idx < 8 then 5 else 6
  | 9 | 0x0A | 0x0B => 6
  | _ => 7

/-- The tile that register word `a` belongs to, none for a register of no tile (R79); the outer none is a reserved
address. -/
def ownerOf (a : Nat) : Option (Option (Nat × Nat)) :=
  (regAt a).map (fun (r, i, _) => r.tile.map (fun t => (t.type, if t.perInst then t.idx + i else t.idx)))

/-- The bank of a ball in the outer rows, and its place in the bank's two rows of seven (Table 15.1). -/
def bankBall (row col : Nat) : Option (Nat × Bool × Nat) :=
  let blk := (col - 1) / 7
  let o := (col - 1) % 7
  if col = 0 ∨ 21 < col then none
  else match row with
  | 1 => some (blk, true, o)
  | 2 => some (blk, false, o)
  | 3 => some (3 + blk, true, o)
  | 4 => some (3 + blk, false, o)
  | 22 => some (6 + blk, true, o)
  | 21 => some (6 + blk, false, o)
  | 20 => some (9 + blk, true, o)
  | 19 => some (9 + blk, false, o)
  | _ => none

/-- The routable ball of rows E to W: tile type, index, signal number (Tables 15.3 and 15.5); row E is 0. -/
def innerBall (r col : Nat) : Option (Nat × Nat × Nat) :=
  match col with
  | 7 => if r < 12 then some (1, r / 2, r % 2) else none
  | 10 => if r < 9 then some (5, r / 3, r % 3) else none
  | 19 => if r = 0 then some (0x0D, 0, 2) else if r = 1 then some (0x0D, 1, 0) else none
  | 20 => if 8 ≤ r ∧ r < 12 then some (0x10, 0, r - 8) else if r = 12 then some (0x0D, 0, 0)
      else if r = 13 then some (0x0D, 0, 1) else none
  | 21 => if r < 3 then some (0x11, 5, 5 + r) else if r < 11 then some (0x11, (r - 3) / 2, (r - 3) % 2) else none
  | 22 => if r < 8 then some (0x11, 4, r) else if 9 ≤ r then some (0x11, 5, r - 9) else none
  | _ => none

/-- The tile signal that a routable ball carries (Table 15.5); none for a fixed ball (R681). -/
def ballSignal (row col : Nat) : Option (Nat × Nat × Nat) :=
  match bankBall row col with
  | some (b, first, o) =>
    some (4, b, if first then (if o < 6 then o else 10) else if o < 4 then 6 + o else 7 + o)
  | none => if 5 ≤ row ∧ row ≤ 18 then innerBall (row - 5) col else none

/-! ### Applying a ply (R93, R697) -/

/-- The sections' records are read through this view: a ply of the store that the load selected. -/
structure PlyView where
  src : PlySrc
  sec : Section
deriving DecidableEq, Repr

def State.vb (s : State) (v : PlyView) (k : Nat) : Nat := s.plyByte v.src (v.sec.off + k)
def State.vn (s : State) (v : PlyView) (k n : Nat) : Nat := s.plyNat v.src (v.sec.off + k) n

/-- Applies `n` register entries that start at section byte `o`; `owner` is the tile they must belong to, none for a
global entry (R79). `src` is the state whose store holds the ply. -/
def State.applyEntries (src : State) (v : PlyView) (owner : Option (Nat × Nat)) :
    (n o : Nat) → State → Option State
  | 0, _, s => some s
  | n + 1, o, s =>
    let a := src.vn v o 2
    let w := BitVec.ofNat 48 (src.vn v (o + 2) 6)
    match regAt a with
    | none => none
    | some (r, i, _) =>
      if ownerOf a = some owner then
        match s.entryWrite r a i w with
        | some s' => src.applyEntries v owner n (o + 8) s'
        | none => none
      else none

/-- The Global section (Table 2.5). -/
def State.applyGlobal (src : State) (v : PlyView) (s : State) : Option State :=
  let cycle := src.vb v 0
  let cyl := src.vb v 1
  let flags := src.vb v 2
  let n := src.vb v 3
  if v.sec.len = 4 + 8 * n ∧ (cycle = 4 ∨ cycle = 2) ∧ 1 ≤ cyl ∧ cyl ≤ 24 ∧ flags < 4 then
    src.applyEntries v none n 4 { s with weave := { s.weave with
      twoStroke := decide (cycle = 2), cyl, autorun := decide (flags % 2 = 1), pair := decide (2 ≤ flags) } }
  else none

/-- The Tiles section, record by record; `fuel` bounds the records by the section's length (Table 2.6). -/
def State.applyTiles (src : State) (v : PlyView) : (fuel o : Nat) → State → Option State
  | 0, _, _ => none
  | fuel + 1, o, s =>
    if o = v.sec.len then some s
    else
      let type := src.vb v o
      let idx := src.vb v (o + 1)
      let n := src.vb v (o + 3)
      if o + 4 + 8 * n ≤ v.sec.len ∧ idx < tileCount type ∧ src.vb v (o + 2) = tileRegion type idx
          ∧ (type, idx) ∉ s.weave.tiles then
        match src.applyEntries v (some (type, idx)) n (o + 4)
            { s with weave := { s.weave with tiles := s.weave.tiles ++ [(type, idx)] } } with
        | some s' => src.applyTiles v fuel (o + 4 + 8 * n) s'
        | none => none
      else none

/-- The tiles that every ply instantiates (R80). -/
def requiredTiles : List (Nat × Nat) := [(0x12, 0), (0x13, 0), (0x11, 6), (0x11, 7)]

/-- The Routing section (Table 2.8): checked and stored (log entry 136). -/
def State.applyRoutes (src : State) (v : PlyView) (s : State) : Option State :=
  let rec1 := fun k => (⟨(src.vb v (8 * k), src.vb v (8 * k + 1), src.vb v (8 * k + 2)),
    (src.vb v (8 * k + 3), src.vb v (8 * k + 4), src.vb v (8 * k + 5)), src.vb v (8 * k + 6)⟩ : Route)
  let rs := (List.range (v.sec.len / 8)).map rec1
  let ok := fun (r : Route) => s.weave.tiles.contains (r.src.1, r.src.2.1) && s.weave.tiles.contains (r.dst.1, r.dst.2.1)
    && Config.hasPort r.src.1 true r.src.2.2 && Config.hasPort r.dst.1 false r.dst.2.2
  if v.sec.len % 8 = 0 ∧ rs.all ok = true then some { s with weave := { s.weave with routes := rs } } else none

/-- No ball is named twice. -/
def ballsApart : List PinRec → Bool
  | [] => true
  | p :: l => l.all (fun q => decide ((p.row, p.col) ≠ (q.row, q.col))) && ballsApart l

/-- The Pins section (Table 2.9, R680 to R682). -/
def State.applyPins (src : State) (v : PlyView) (s : State) : Option State :=
  let rec1 := fun k => (⟨src.vb v (8 * k), src.vb v (8 * k + 1), src.vb v (8 * k + 2), src.vb v (8 * k + 3),
    src.vb v (8 * k + 4), src.vb v (8 * k + 5)⟩ : PinRec)
  let ps := (List.range (v.sec.len / 8)).map rec1
  let ok := fun (p : PinRec) => decide (p.opt < 8 ∧ p.opt % 4 ≠ 3 ∧ ballSignal p.row p.col = some (p.type, p.idx, p.signal))
  if v.sec.len % 8 = 0 ∧ ballsApart ps = true ∧ ps.all ok = true then
    some { s with weave := { s.weave with pins := ps } } else none

/-- Word `k` of a bank's microcode from a block of `m` instructions at section byte `o` (R81). -/
def State.codeWord (src : State) (v : PlyView) (o m k : Nat) : Word :=
  let ins := fun i => if i < m then src.vn v (o + 3 * i) 3 else 0
  BitVec.ofNat 48 (ins (2 * k) * 2 ^ 24 + ins (2 * k + 1))

/-- The Microcode section (Table 2.10): all 128 words of a bank that has a block, the slots above the block 0 (R81); `banks` are the banks that already have a block. -/
def State.applyCode (src : State) (v : PlyView) : (fuel o : Nat) → (banks : List Nat) → State → Option State
  | 0, _, _, _ => none
  | fuel + 1, o, banks, s =>
    if o = v.sec.len then some s
    else
      let b := src.vb v o
      let m := src.vn v (o + 2) 2
      if b ≤ 11 ∧ b ∉ banks ∧ 1 ≤ m ∧ m ≤ 256 ∧ o + 4 + 3 * m ≤ v.sec.len then
        src.applyCode v fuel (o + 4 + 3 * m) (b :: banks)
          ((List.range 128).foldl (fun s k => s.setReg (Reg.HDL_addr b k) (src.codeWord v (o + 4) m k)) s)
      else none

/-- R697: tile registers take their Reset column, and fields that read "weave" take 0. -/
def resetWeaveWord (r : RegRow) (a : Nat) (w : Word) : Word :=
  r.fields.foldl (fun w f => if f.weave then (f.fld a).put w 0 else w) w

/-- R697 on every listed register. -/
def State.resetTileRegs (s : State) : State :=
  { s with regs := s.regs.filterMap (fun (a, w) =>
      match regAt a with
      | some (r, _, _) =>
        if r.tile.isSome then none
        else
          let w' := resetWeaveWord r a w
          if w' = regReset a then none else some (a, w')
      | none => some (a, w)) }

/-- R697 on what the tiles hold beyond their registers. -/
def State.resetUnits (s : State) : State :=
  { s with
    primary := 0
    warps := Vector.replicate 6 {}
    wefts := Vector.replicate 2 {}
    learn := {}
    shTok := Vector.replicate 64 {}
    bkTok := Vector.replicate 12 {}
    seqTok := Vector.replicate 16 []
    pair := { dueAt := s.now, beatAt := s.now, mapAt := s.now }
    shuttles := Vector.replicate 64 {}
    pulseOuts := Vector.replicate 2 {}
    banks := s.banks.map (fun (k : Bank) => { ({} : Bank) with shortSupply := k.shortSupply })
    cmps := Vector.replicate 12 {}
    boosts := Vector.replicate 3 {}
    closures := []
    seqs := Vector.replicate 16 {}
    cmbSig := []
    combust := Vector.replicate 24 {}
    trimDue := []
    maps := Vector.replicate 48 {}
    rail := {}
    ovs := {}
    cans := Vector.replicate 4 {}
    streams := Vector.replicate 8 {}
    ports := Vector.replicate 2 {}
    dma := Vector.replicate 16 {}
    dmaTrigs := [] }

/-- R697: the tiles as a load finds them. Strandline's state and the straps' shadow are no tile settings and stay (log
entry 56); REV_PEND stays by R177 (log entry 133). -/
def State.resetTiles (s : State) : State :=
  let s' := s.resetTileRegs.resetUnits
  let s' := [0, 1].foldl (fun (x : State) n => x.flag (Reg.WRP_SYNC_REV_PEND n) (s.is (Reg.WRP_SYNC_REV_PEND n))) s'
  let s' := (s'.setReg Reg.REC_STAT_addr (s.reg Reg.REC_STAT_addr)).setReg Reg.REC_SEQ_addr (s.reg Reg.REC_SEQ_addr)
  s'.flag Reg.PRX_STAT_SIDE s.straps.1

/-- The reset event, the first after each reset (R646, Table 14.9); events that waited follow it. -/
def State.resetEvent (s : State) : State :=
  if s.mergeOpen then s
  else
    { s with
      mergeOpen := true
      reports := { src := 0x18, idx := 0, code := 4, arg := bitsOf (s.reg Reg.SYS_RSTCAUSE_POR.addr).toNat 40 8 * 2 ^ 32,
                   time := some s.strand.scan } :: s.reports }

/-- The section of a type. -/
def State.sectionOf (s : State) (p : PlySrc) (type : Nat) : PlyView :=
  ⟨p, ((s.directory p).find? (fun x => decide (x.type = type))).getD ⟨type, 0, 0⟩⟩

/-- Applies the sections in order; the left result names the section that stops the load (R93). -/
def State.applyPly (s0 : State) (p : PlySrc) (s : State) : Except Nat State :=
  match s0.applyGlobal (s0.sectionOf p 1) s with
  | none => .error 1
  | some s1 =>
    let v2 := s0.sectionOf p 2
    match s0.applyTiles v2 (v2.sec.len + 1) 0 s1 with
    | none => .error 2
    | some s2 =>
      if requiredTiles.all s2.weave.tiles.contains then
        match s0.applyRoutes (s0.sectionOf p 3) s2 with
        | none => .error 3
        | some s3 =>
          match s0.applyPins (s0.sectionOf p 4) s3 with
          | none => .error 4
          | some s4 =>
            let v5 := s0.sectionOf p 5
            match s0.applyCode v5 (v5.sec.len + 1) 0 [] s4 with
            | none => .error 5
            | some s5 => .ok s5
      else .error 2

/-- The bytes of the microcode store, every word of every bank: what the blocks of section 5 put there and the fill of R81, and in
banks without a block what R697 left. -/
def State.microcode (s : State) : List Nat :=
  (List.range 12).flatMap (fun b => wordBytes ((List.range 128).map (fun k => s.reg (Reg.HDL_addr b k))))

/-- The configuration cells of sections 1 to 4 and the microcode store as the load leaves them; `s` is the state with the ply
applied (R81, R108). -/
def State.plyCells (s : State) (p : PlySrc) : List (List Nat) :=
  [1, 2, 3, 4].map (fun t => s.plyBytes p (s.sectionOf p t).sec.off (s.sectionOf p t).sec.len) ++ [s.microcode]

/-! ### Loading -/

/-- A command of WVE_CMD had no effect (R99, R115). -/
def State.cmdRej (s : State) : State := s.stick Reg.WVE_STATUS_CMD_REJ 1

/-- A load starts (R91, R95, R97): nothing of the former weave stays in force. A VERIFY under way ends without its answer: step 1 of
the load shows the plies (log entry 154). -/
def State.startLoad (s : State) : State :=
  { s.set Reg.WVE_STATUS_STATE stLoading with
    weave := { s.weave with loading := true, loadStart := s.now, verifying := false, runReq := false } }

/-- The load ends without a weave: NO_PLY, PLY_CONFLICT or FAULT (R86, R89, R93). The tiles, routes and pins of the former weave are
gone, whether or not step 4 has reset their registers (log entries 14, 153). -/
def State.loadFailed (s : State) (st : Nat) : State :=
  { s.set Reg.WVE_STATUS_STATE st with
    weave := { s.weave with loading := false, tiles := [], routes := [], pins := [] }
    saf := { s.saf with upset := false } }

/-- The index and the store of a ply. -/
def PlySrc.index : PlySrc → Nat
  | .chip n => n
  | .flash n => n
def PlySrc.onFlash : PlySrc → Bool
  | .chip _ => false
  | .flash _ => true

/-- Shows the selected ply in WVE_STATUS. -/
def State.showSel (s : State) (p : PlySrc) : State :=
  ((s.set Reg.WVE_STATUS_SEL p.index).flag Reg.WVE_STATUS_SRC p.onFlash).set Reg.WVE_STATUS_GEN (s.plyNat p 8 4)

/-! ### Commands -/

/-- LOAD (R91, R115). -/
def State.doLoad (s : State) : State := if s.running || s.weave.loading then s.cmdRej else s.startLoad

/-- VERIFY (R115, R116); one under way goes on, and its end answers both (log entry 154). -/
def State.doVerify (s : State) : State :=
  if s.running || s.weave.loading then s.cmdRej else { s with weave := { s.weave with verifying := true } }

/-- ERASE of ply `n` (R106, R115). -/
def State.doErase (s : State) (n : Nat) : State :=
  if s.running || s.weave.loading || decide (n = 3) then s.cmdRej
  else { s with weave := { s.weave with erasing := s.weave.erasing ++ [n] } }

/-- MIRROR to flash ply `n` of the ply that is selected now (R107, R115). It is taken, too, while the flash cannot be reached (log
entry 123). -/
def State.doMirror (s : State) (n : Nat) : State :=
  if (s.wstate = stLoaded ∨ s.wstate = stRunning) ∧ n ≠ 3 then
    let job : MirrorJob :=
      { dst := n, onFlash := s.is Reg.WVE_STATUS_SRC, src := s.get Reg.WVE_STATUS_SEL, words := s.weave.selW }
    { s.set Reg.WVE_STATUS_MIRROR_BUSY 1 with weave := { s.weave with mirror := s.weave.mirror ++ [job] } }
  else s.cmdRej

/-- LOAD. -/
def execLoad (t : Word) (s : State) : Out := .next (s.at t).doLoad

/-- VERIFY. -/
def execVerify (t : Word) (s : State) : Out := .next (s.at t).doVerify

/-- ERASE. -/
def execErase (t : Word) (ply : Fin 4) (s : State) : Out := .next ((s.at t).doErase ply)

/-- MIRROR. -/
def execMirror (t : Word) (ply : Fin 4) (s : State) : Out := .next ((s.at t).doMirror ply)

/-- WVE_CMD_REJECT: an undefined code, or PLY 0b11 with ERASE or MIRROR (R115, Table 2.17). -/
def execWveCmdReject (t : Word) (code : Fin 16) (ply : Fin 4) (s : State) : Out :=
  let s := s.at t
  .next (if (code.val = 0 ∨ 6 < code.val) ∨ ((code.val = 4 ∨ code.val = 6) ∧ ply.val = 3) then s.cmdRej else s)

/-- VERIFY_DONE: WVE_PLYn show the plies as they are at the end of the check (R116; log entry 124). -/
def execVerifyDone (t : Word) (s : State) : Out :=
  let s := s.at t
  .next (if s.weave.verifying then { s.checkPlies with weave := { s.weave with verifying := false } } else s)

/-- ERASE_DONE: words 0 to 3 of the ply are 0 (R106); the store changes only while the Loom is stopped (R102). -/
def execEraseDone (t : Word) (s : State) : Out :=
  let s := s.at t
  .next (match s.weave.erasing with
    | [] => s
    | n :: l =>
      if s.running then s
      else [0, 1, 2, 3].foldl (fun s k => s.plySet n k 0) { s with weave := { s.weave with erasing := l } })

/-- Copies `n` bytes of a ply to flash from byte address `base`. -/
def State.mirrorCopy (s : State) (p : PlySrc) (base n : Nat) : State :=
  (List.range n).foldl (fun s k => s.flashSet (base + k) (s.plyByte p k)) s

/-- MIRROR_DONE (R87, R107): the words of the ply are those that stand in it now (log entry 152). While power domain 7 or the FSPI
clock is off, every access of the copy has completed with DOMAIN_OFF, and the flash holds what it held (R47, R653, R655). -/
def execMirrorDone (t : Word) (s : State) : Out :=
  let s := s.at t
  .next (match s.weave.mirror with
    | [] => s
    | j :: l =>
      let s := if s.flashUp then
          s.mirrorCopy (if j.onFlash then .flash j.src else .chip j.src) (0x20000 * j.dst) (6 * j.words) else s
      { s.flag Reg.WVE_STATUS_MIRROR_BUSY (!l.isEmpty) with weave := { s.weave with mirror := l } })

/-- A write of a weave store word by the host (`dma` false) or the DMA engine (R14, R95, R102, R104). The outcome is the
new state and, for a DMA master, the acknowledge digit of Table 1.5; for a store that is locked the digit is the model's choice (log
entry 151). -/
def State.storeWrite (s : State) (dma : Bool) (ply addr : Nat) (w : Word) : State × Nat :=
  let refused := if dma || s.plyGet ply addr == w then s else s.wrej
  if s.weave.prog.isSome || !s.weave.erasing.isEmpty then
    if dma then (s, 1) else ((s.stick Reg.WVE_STATUS_PROG_BUSY 1).wrej, 0)
  else if s.running || s.weave.loading then (refused, if dma && s.running then 2 else 0)
  else ({ s with weave := { s.weave with prog := some (ply, addr, w) } }, 0)

/-- WEAVE_STORE_WRITE. -/
def execWeaveStoreWrite (t : Word) (dma : Bool) (ply : Fin 3) (addr : Fin 21845) (value : Word) (s : State) : Out :=
  .next ((s.at t).storeWrite dma ply addr value).1

/-- WEAVE_PROGRAM_DONE; the store changes only while the Loom is stopped (R102). -/
def execWeaveProgramDone (t : Word) (s : State) : Out :=
  let s := s.at t
  .next (match s.weave.prog with
    | none => s
    | some (p, a, w) =>
      if s.running then s else { s.plySet p a w with weave := { s.weave with prog := none } })

/-- Bit `p` of a byte list changed. -/
def flipBit (bs : List Nat) (p : Nat) : List Nat := bs.set (p / 8) (bs.getD (p / 8) 0 ^^^ 2 ^ (p % 8))

/-- SCRUB_SECTION_END: the scrub has read section `sec` + 1, whose turn it is, `upsets` of whose bits have changed since it was last
read (log entry 137). Its CRC-32 is compared with the reference; the pass ends with section 5, its duration held to 1 µs by the open
rounding (R108, R109, R111, Table 2.20; log entry 10). -/
def execScrubSectionEnd (t : Word) (sec : Fin 5) (upsets : List Nat) (s : State) : Out :=
  let s := s.at t
  let k := sec.val + 1
  let cells := upsets.foldl flipBit (s.weave.cells.getD (k - 1) [])
  let bad := decide ((s.weave.sigs.find? (fun x => decide (x.1 = k))).map Prod.snd ≠ some (crc32 cells))
  .next (if s.woven && !s.weave.loading && decide (k = s.weave.scrubNext) then
    let s := { s with weave := { s.weave with
      cells := s.weave.cells.set (k - 1) cells, scrubNext := if k < 5 then k + 1 else 1 } }
    let s := if bad then ((s.stick Reg.WVE_SCRUB_UPSET 1).set Reg.WVE_SCRUB_SECTION k).cause 5 0 else s
    if k < 5 then s
    else
      { s.set Reg.WVE_SCRUB_PASS (satU 16 (heldTo us (elapsed s.weave.scrubStart t))) with
        weave := { s.weave with scrubStart := t } }
  else s)

/-- STORED_PLY_CHECK: every 60 s while RUNNING, counted from step 6 or the check before (R110, R111; log entry 138). -/
def execStoredPlyCheck (t : Word) (s : State) : Out :=
  let s := s.at t
  .next (if s.wstate = stRunning ∧ 60 * 1000 * ms ≤ elapsed s.weave.checkAt t then
    let s' := { s.checkPlies with weave := { s.weave with checkAt := t } }
    [0, 1, 2].foldl (fun x n =>
      let st := s'.get (Reg.WVE_PLY_STATE n)
      if st = s.get (Reg.WVE_PLY_STATE n) then x
      else x.report 0x17 0 1 (n * 2 ^ 38 + st * 2 ^ 36) (some t)) s'
  else s)

end Sys2Proof.Machine
end

