-- ==== Sys2Proof/Machine/Links.lean ====
section
/-!
DEFINITION. The links that the host, the engine network, the test cell and the smart sensors use (11_links): the event
FIFO, CAN FD, the Ethernet streams, SENT, the flash commands and the TAP instructions. Host and debug frames stand in
Machine/Host.lean, the event merge in Machine/Merge.lean.
-/
namespace Sys2Proof.Machine

/-! ### Event FIFO (R519 to R524) -/

/-- Word `k` of an entry (Table 11.4). -/
def Entry.word (e : Entry) (k : Nat) : Word := if k = 0 then e.w0 else if k = 1 then e.w1 else e.w2

/-- Shows the entries held. -/
def State.evShow (s : State) : State := s.set Reg.SYS_EVSTAT_LEVEL s.fifo.length

/-- The next unread word of the oldest entry (R521). -/
def State.evWord (s : State) : Word :=
  match s.fifo with
  | [] => 0
  | e :: _ => e.word s.host.popped

/-- Consumes the next unread word; the entry leaves with its word 2 (R521). -/
def State.evConsume (s : State) : State :=
  match s.fifo with
  | [] => s
  | _ :: rest =>
    if s.host.popped < 2 then { s with host := { s.host with popped := s.host.popped + 1 } }
    else { s with fifo := rest, host := { s.host with popped := 0 } }.evShow

/-- The level of HIRQ_N, true for low (R524). -/
def State.hirq (s : State) : Bool :=
  let irq := s.get Reg.SYS_EVSTAT_IRQ_LEVEL
  decide ((if irq = 0 then 256 else irq) ≤ s.get Reg.SYS_EVSTAT_LEVEL) || s.is Reg.SYS_EVSTAT_OVF

/-! ### CAN FD (R526 to R530) -/

def State.can (s : State) (c : Nat) : Can := vget s.cans c
def State.setCan (s : State) (c : Nat) (k : Can) : State := { s with cans := vset s.cans c k }

/-- The first word of transmit buffer `m` and of receive entry `e` (R527). -/
def canTx (c m : Nat) : Nat := 0x7200 + 624 * c + 13 * m
def canRx (c e : Nat) : Nat := 0x7200 + 624 * c + 208 + 13 * e

/-- The CAN domain is on and its clock runs (R47, R655). -/
def State.canUp (s : State) : Bool := decide (s.domain 4 = 0) && !s.crossingOff 1

/-- The controller is on, on the bus, and its clock runs. -/
def State.canOn (s : State) (c : Nat) : Bool :=
  s.is (Reg.CAN_CFG_EN c) && s.canUp && decide (s.get (Reg.CAN_STAT_STATE c) < 2)

/-- The bus reaches the controller on CRX, and it the bus on CTX too (R680). -/
def State.canBus (s : State) (c : Nat) : Bool := s.assigned 0x11 c 1
def State.canLine (s : State) (c : Nat) : Bool := s.assigned 0x11 c 0 && s.canBus c

/-- The bytes that a data length code stands for (ISO 11898-1; PRESUMED). -/
def canLen (fdf : Bool) (dlc : Nat) : Nat :=
  if fdf then (if dlc ≤ 8 then dlc else [12, 16, 20, 24, 32, 48, 64].getD (dlc - 9) 64) else min dlc 8

/-- The frame in transmit buffer `m` (Table 11.8): without IDE the identifier is the eleven bits 47..37 alone. -/
def State.canBuffer (s : State) (c m : Nat) : CanFrame :=
  let w := (s.workGet (canTx c m)).toNat
  let fdf := bitsOf w 17 1 == 1
  let dlc := bitsOf w 11 4
  let ide := bitsOf w 18 1 == 1
  { id := if ide then bitsOf w 19 29 else bitsOf w 37 11 * 2 ^ 18, ide, fdf, brs := bitsOf w 16 1 == 1, esi := false, rtr := false, dlc
    data := (wordBytes (s.workRead (canTx c m + 2) 11)).take (canLen fdf dlc) }

/-- The 13 words of a frame with time word `t` (Table 11.8, R527). -/
def canWords (f : CanFrame) (t : Word) : List Word :=
  let b := fun (x : Bool) (k : Nat) => if x then 2 ^ k else 0
  let data := f.data.take (canLen f.fdf f.dlc)
  BitVec.ofNat 48 (f.id % 2 ^ 29 * 2 ^ 19 + b f.ide 18 + b f.fdf 17 + b f.brs 16 + b f.esi 15 + f.dlc % 16 * 2 ^ 11) :: t ::
    (List.range 11).map (fun k => wordAt data (6 * k))

/-- CAN_TX_REQUEST: a write of 1 makes buffer `m` pending (R528). -/
def State.canRequest (s : State) (c m : Nat) : State :=
  if (s.get (Reg.CAN_TXREQ_TXREQ c)).testBit m then s
  else (s.setBit (Reg.CAN_TXREQ_TXREQ c) m).setCan c { s.can c with asked := (s.can c).asked ++ [(m, s.now)] }

/-- CAN_TX_REQUEST. -/
def execCanTxRequest (t : Word) (c : Fin 4) (m : Fin 16) (s : State) : Out :=
  let s := s.at t
  .next (if s.gone (Reg.CAN_TXREQ_addr c) then s.wrej else s.canRequest c m)

/-- The frames that the controller could offer at `sof`: buffer index (16 for the result queue) and frame. An FD frame is
not sent while FD_EN is 0 (Table 11.16). -/
def State.canOffers (s : State) (c : Nat) (sof : Word) : List (Nat × CanFrame) :=
  let k := s.can c
  let own := (k.asked.filter (fun a => notBefore sof a.2)).map (fun a => (a.1, s.canBuffer c a.1))
  let res := ((k.results.take 1).filter (fun r => notBefore sof r.2)).map (fun r => (16, r.1))
  (own ++ res).filter (fun o => !o.2.fdf || s.is (Reg.CAN_CFG_FD_EN c))

/-- The lowest identifier first, then the lower buffer index (R528). -/
def canWinner (l : List (Nat × CanFrame)) : Option (Nat × CanFrame) :=
  l.foldl (fun w o => match w with
    | none => some o
    | some v => if o.2.id < v.2.id ∨ (o.2.id = v.2.id ∧ o.1 < v.1) then some o else some v) none

/-- Shows error active or passive by the error counters (ISO 11898-1; PRESUMED). -/
def State.canShow (s : State) (c : Nat) : State :=
  if s.get (Reg.CAN_STAT_STATE c) = 2 then s
  else s.set (Reg.CAN_STAT_STATE c) (if 128 ≤ s.get (Reg.CAN_STAT_TEC c) ∨ 128 ≤ s.get (Reg.CAN_STAT_REC c) then 1 else 0)

/-- A frame matches an enabled filter (R529). -/
def State.canMatches (s : State) (c : Nat) (f : CanFrame) : Bool :=
  (List.range 8).any (fun i => s.is (Reg.CAN_FID_EN c i)
    && decide ((f.id ^^^ s.get (Reg.CAN_FID_ID c i)) &&& s.get (Reg.CAN_FMASK_MASK c i) = 0)
    && (s.is (Reg.CAN_FID_IDE c i) == f.ide))

/-- A frame received whole at `sof`: remote frames are counted and discarded, a matching frame enters the FIFO or raises
RXOVF (R526, R529). -/
def State.canDeliver (s : State) (c : Nat) (f : CanFrame) (sof : Word) : State :=
  let n := s.get (Reg.CAN_RX_RXLEVEL c)
  if f.rtr then s.inc (Reg.CAN_CNT_RTR c)
  else if f.fdf ∧ ¬ s.is (Reg.CAN_CFG_FD_EN c) then s
  else if ¬ s.canMatches c f then s
  else if 32 ≤ n then s.inc (Reg.CAN_CNT_RXOVF c)
  else
    let e := (s.get (Reg.CAN_RX_RXHEAD c) + n) % 32
    (s.workWrite (canRx c e) (canWords f sof)).set (Reg.CAN_RX_RXLEVEL c) (n + 1)

/-- The frame that the controller offered at the start-of-frame bit `sof` has been sent, after `fails` failed attempts (R527, R528,
R530). -/
def State.canSent (s : State) (c : Nat) (sof : Word) (fails : Nat) : State :=
  match canWinner (s.canOffers c sof) with
  | none => s
  | some (m, f) =>
    let k := s.can c
    let s := if m = 16 then s.setCan c { k with results := k.results.tail }
      else (((s.setCan c { k with asked := k.asked.filter (fun a => decide (a.1 ≠ m)) }).clearBit
        (Reg.CAN_TXREQ_TXREQ c) m).workSet (canTx c m + 1) sof)
    let tec := min 255 (s.get (Reg.CAN_STAT_TEC c) + 8 * fails) - 1
    let s := (s.set (Reg.CAN_STAT_TEC c) tec).canShow c
    if s.get (Reg.CAN_CFG_MODE c) = 2 then s.canDeliver c f sof else s

/-- REC after a good reception that followed `errs` errors: one less, or from above 127 some value of 119 to 127, which the standard
leaves open (R526; ISO 11898-1; log entry 165). -/
def State.canGood (s : State) (c errs : Nat) : State :=
  let n := min 255 (s.get (Reg.CAN_STAT_REC c) + errs)
  if n ≤ 127 then s.set (Reg.CAN_STAT_REC c) (n - 1)
  else
    let r := s.free
    r.2.set (Reg.CAN_STAT_REC c) (119 + r.1.toNat % 9)

/-- A frame has come from the bus after `errs` errors (R526, R529). -/
def State.canReceived (s : State) (c : Nat) (f : CanFrame) (sof : Word) (errs : Nat) : State :=
  ((s.canGood c errs).canShow c).canDeliver c f sof

/-- A write of RXACK frees the entry at RXHEAD (R529). -/
def State.canAck (s : State) (c : Nat) : State :=
  let n := s.get (Reg.CAN_RX_RXLEVEL c)
  if n = 0 then s
  else (s.set (Reg.CAN_RX_RXLEVEL c) (n - 1)).set (Reg.CAN_RX_RXHEAD c) (s.get (Reg.CAN_RX_RXHEAD c) + 1)

/-- CAN_RX_ACK. -/
def execCanRxAck (t : Word) (c : Fin 4) (s : State) : Out :=
  let s := s.at t
  .next (if s.gone (Reg.CAN_RX_addr c) then s.wrej else s.canAck c)

/-- CAN_BUS_OFF: fault confinement takes the controller off the bus; recovery starts at once when AUTO_REC is 1 (R526,
Table 11.5). -/
def execCanBusOff (t : Word) (c : Fin 4) (s : State) : Out :=
  let s := s.at t
  .next (if s.canOn c then
    let s := (s.set (Reg.CAN_STAT_STATE c) 2).set (Reg.CAN_STAT_TEC c) 255
    (s.setCan c { s.can c with recovering := s.is (Reg.CAN_CFG_AUTO_REC c) }).report 0x11 c 1 0 (some t)
    else s)

/-- CAN_BUS_ON: 128 × 11 recessive bits have passed in recovery; the controller is error active (R526, Table 11.5). -/
def execCanBusOn (t : Word) (c : Fin 4) (s : State) : Out :=
  let s := s.at t
  .next (if s.get (Reg.CAN_STAT_STATE c) = 2 ∧ (s.can c).recovering ∧ s.canUp ∧ s.canBus c then
    let s := ((s.set (Reg.CAN_STAT_STATE c) 0).set (Reg.CAN_STAT_TEC c) 0).set (Reg.CAN_STAT_REC c) 0
    (s.setCan c { s.can c with recovering := false }).report 0x11 c 2 (2 ^ 39) (some t)
    else s)

/-- A write of BUSOFF_REQ starts recovery when AUTO_REC is 0 (R526). -/
def State.canRecover (s : State) (c : Nat) : State :=
  if s.get (Reg.CAN_STAT_STATE c) = 2 ∧ ¬ s.is (Reg.CAN_CFG_AUTO_REC c) then
    s.setCan c { s.can c with recovering := true } else s

/-- CAN_BUSOFF_REQ. -/
def execCanBusoffReq (t : Word) (c : Fin 4) (s : State) : Out :=
  let s := s.at t
  .next (if s.gone (Reg.CAN_STAT_addr c) then s.wrej else s.canRecover c)

/-- The 64 bytes of a result frame from the twelve words of a record (Table 11.9, Table 9.3). -/
def resultBytes (j : Nat) (ws : List Word) : List Nat :=
  let w := fun k => ws.getD k 0
  let bs := fun k => (List.range 6).map (byteOf (w k))
  [j, byteOf (w 0) 1] ++ (bs 0).drop 2 ++ (bs 1).drop 2 ++ [2, 3, 5, 6, 7, 11].flatMap bs
    ++ [4, 8, 9, 10].flatMap (fun k => (bs k).take 4) ++ (bs 1).take 2

/-- A committed record of tile `j` joins the result queue of each controller with RES_EN, or raises RESDROP (R530). -/
def State.canResult (s : State) (j : Nat) (ws : List Word) : State :=
  (List.range 4).foldl (fun s c =>
    if ¬ (s.is (Reg.CAN_CFG_EN c) ∧ s.is (Reg.CAN_CFG_RES_EN c)) then s
    else if 24 ≤ (s.can c).results.length then s.inc (Reg.CAN_CNT_RESDROP c)
    else
      let id := s.get (Reg.CAN_CFG_RES_ID c) + j
      let ide := s.is (Reg.CAN_CFG_RES_IDE c)
      let f : CanFrame := {
        id := if ide then id % 2 ^ 29 else id % 2 ^ 11 * 2 ^ 18
        ide, fdf := true, brs := s.is (Reg.CAN_CFG_BRS_EN c), esi := false, rtr := false, dlc := 15
        data := resultBytes j ws }
      s.setCan c { s.can c with results := (s.can c).results ++ [(f, s.now)] }) s

/-! ### Ethernet (R531 to R537) -/

def State.port (s : State) (p : Nat) : EthPort := vget s.ports p
def State.setPort (s : State) (p : Nat) (k : EthPort) : State := { s with ports := vset s.ports p k }

/-- The port is on, and the ETH domain runs (R47, R655). -/
def State.ethOn (s : State) (p : Nat) : Bool := s.is (Reg.ETH_CFG_EN p) && decide (s.domain 5 = 0) && !s.crossingOff 2

/-- The port's receive balls, and those of its PHY's management interface, are assigned (R680). -/
def State.ethHears (s : State) (p : Nat) : Bool := [3, 4, 5].all (fun k => s.assigned 0x11 (4 + p) k)
def State.ethManages (s : State) (p : Nat) : Bool := [6, 7].all (fun k => s.assigned 0x11 (4 + p) k)

/-- PHY_LINK_POLL: bit 2 of PHY register 1 as it reads; over balls that are not assigned it reads as a free value (R532, R680). -/
def execPhyLinkPoll (t : Word) (p : Fin 2) (up : Bool) (s : State) : Out :=
  let s := s.at t
  let k := s.port p
  .next (if s.ethOn p ∧ k.poll.all (fun a => decide (10 * ms ≤ elapsed a t)) then
    let up := if s.ethManages p then up else s.free.1.getLsbD 0
    let s := (if s.ethManages p then s else s.free.2).setPort p { k with poll := some t }
    if s.is (Reg.ETH_STAT_LINK p) = up then s
    else (s.flag (Reg.ETH_STAT_LINK p) up).report 0x11 p 3 (if up then 2 ^ 39 else 0) (some t)
  else s)

/-- When the next datagram of stream `k` became ready, if one waits. -/
def Stream.due (x : Stream) : Option Word :=
  match x.wins with
  | w :: _ => some w.ready
  | [] => x.wait.bind (·.ready)

/-- The stream whose datagram port `p` takes next (R536). -/
def State.nextStream (s : State) (p : Nat) : Option Nat :=
  ((List.range 8).foldl (fun (w : Option (Nat × Word)) k =>
    if ¬ (s.is (Reg.STR_CFG_EN k) ∧ s.get (Reg.STR_CFG_PORT k) = p) then w
    else match (s.str k).due, w with
      | none, w => w
      | some a, none => some (k, a)
      | some a, some (j, b) => if sdiff a b < 0 then some (k, a) else some (j, b)) none).map Prod.fst

/-- A number in `n` bytes, most significant first (R5). -/
def beBytes (n v : Nat) : List Nat := (List.range n).map (fun k => v / 2 ^ (8 * (n - 1 - k)) % 256)

/-- The ones' complement sum of 16-bit words, as IPv4 forms its header checksum (PRESUMED). -/
def onesSum (bs : List Nat) : Nat :=
  let t := (List.range (bs.length / 2)).foldl (fun a k => a + bs.getD (2 * k) 0 * 256 + bs.getD (2 * k + 1) 0) 0
  let f := fun x => x / 65536 + x % 65536
  65535 - f (f t)

/-- The Ethernet frame of a datagram with its FCS (R531, R533). -/
def State.ethFrame (s : State) (p k : Nat) (payload : List Nat) : List Nat :=
  let tag := if s.is (Reg.ETH_CFG_VLAN_EN p) then
      [0x81, 0x00] ++ beBytes 2 (s.get (Reg.ETH_CFG_PCP p) * 2 ^ 13 + s.get (Reg.ETH_CFG_VID p)) else []
  let eth := beBytes 6 (s.get (Reg.STR_DMAC_DMAC k)) ++ beBytes 6 (s.get (Reg.ETH_SMAC_SMAC p)) ++ tag ++ [0x08, 0x00]
  let udp := beBytes 2 (s.get (Reg.STR_SPORT_SPORT k)) ++ beBytes 2 (s.get (Reg.STR_DST_DPORT k))
    ++ beBytes 2 (8 + payload.length) ++ [0, 0]
  let ip := fun sum => [0x45, s.get (Reg.ETH_CFG_DSCP p) * 4] ++ beBytes 2 (28 + payload.length)
    ++ beBytes 2 (s.port p).ident ++ [0x40, 0x00] ++ [s.get (Reg.ETH_CFG_TTL p), 17] ++ beBytes 2 sum
    ++ beBytes 4 (s.get (Reg.ETH_SIP_SIP p)) ++ beBytes 4 (s.get (Reg.STR_DST_DIP k))
  let body := eth ++ ip (onesSum (ip 0)) ++ udp ++ payload
  body ++ (beBytes 4 (crc32 body)).reverse

/-- The stream header of Table 11.10. -/
def State.streamHeader (s : State) (k nwords tag aux : Nat) : List Nat :=
  let unit := if s.pairMember then s.get Reg.PRX_STAT_SIDE else 0
  [0x58, 0x54, 0x01, s.get (Reg.STR_CFG_KIND k), unit, k] ++ beBytes 2 nwords ++ beBytes 4 (s.get (Reg.STR_STAT_DSEQ k))
    ++ beBytes 6 s.now.toNat ++ beBytes 4 tag ++ beBytes 2 aux

/-- The next datagram of stream `k`: its payload and the stream without it (R533, R534, R537). -/
def State.takeDatagram (s : State) (k : Nat) : List Nat × Stream :=
  let x := s.str k
  match x.wins with
  | w :: rest =>
    let n := min 241 (w.total - w.sent)
    let words := (List.range n).map (fun i => s.traceTile (w.base + (w.start - w.base + w.sent + i) % w.len))
    (s.streamHeader k n w.cycle (s.get (Reg.STR_CFG_SRC k) * 4096 + w.sent % 4096) ++ wordBytes words,
      { x with wins := if w.sent + n < w.total then { w with sent := w.sent + n } :: rest else rest })
  | [] =>
    match x.wait with
    | some d => (s.streamHeader k d.words.length d.tag d.count ++ wordBytes d.words, ({ x with wait := none }).settle)
    | none => ([], x)

/-- A datagram falls due at port `p`: enough of PACE has passed since the one before (R536). -/
def State.paced (s : State) (p : Nat) : Bool :=
  s.ethOn p && (s.port p).start.all (fun a => decide (s.get (Reg.ETH_CFG_PACE p) * us ≤ elapsed a s.now))

/-- The port starts the earliest ready datagram; while LINK is 0 it discards it (R532, R536). -/
def State.startDatagram (s : State) (p : Nat) : State :=
  let k := s.port p
  match s.nextStream p with
  | none => s
  | some n =>
    let d := s.takeDatagram n
    let s := s.traceRead
    if s.is (Reg.ETH_STAT_LINK p) then
      let s := s.setPort p { k with start := some s.now, frame := s.ethFrame p n d.1, ident := (k.ident + 1) % 65536 }
      ((s.setStr n d.2).incMod (Reg.STR_STAT_DSEQ n)).incMod (Reg.ETH_STAT_TXD p)
    else (s.setStr n d.2).inc (Reg.STR_STAT_DROPS n)

/-- STREAM_FLUSH: FLUSH_T after its first item the collecting datagram becomes ready (R534). -/
def execStreamFlush (t : Word) (k : Fin 8) (s : State) : Out :=
  let s := s.at t
  let x := s.str k
  .next (match x.coll with
    | none => s
    | some d =>
      if d.ready.isNone ∧ s.get (Reg.STR_CFG_FLUSH_T k) * (10 * us) ≤ elapsed d.first t then
        s.setStr k ({ x with coll := some { d with ready := some t } }).settle
      else s)

/-- ETH_RX_FRAME: counted and discarded (R531). -/
def execEthRxFrame (t : Word) (p : Fin 2) (s : State) : Out :=
  let s := s.at t
  .next (if s.ethOn p && s.ethHears p then s.inc (Reg.ETH_CNT_RXFRAMES p) else s)

/-! ### SENT (R538 to R540, R547) -/

/-- `n` shifts of a register of `w` bits with polynomial `p`. -/
def sentShift (w p : Nat) : Nat → Nat → Nat
  | 0, c => c
  | n + 1, c => sentShift w p n (if 2 ^ (w - 1) ≤ c then (2 * c) % 2 ^ w ^^^ p else 2 * c)

/-- A SENT CRC of `w` bits over `w`-bit values; `pad` appends a value of zero bits (SAE J2716; PRESUMED). -/
def sentCrc (w p seed : Nat) (pad : Bool) (vs : List Nat) : Nat :=
  (vs ++ (if pad then [0] else [])).foldl (fun c v => sentShift w p w c ^^^ v) seed

/-- A completed short message: ID and data, or none for a bad CRC (SAE J2716; PRESUMED). -/
def shortMessage (st : List Nat) : Option (Nat × Nat) :=
  let v := st.foldl (fun a x => a * 2 + x / 4 % 2) 0
  let id := v / 4096
  let data := v / 16 % 256
  if sentCrc 4 0xD 5 true [id, data / 16, data % 16] = v % 16 then some (id, data) else none

/-- A completed enhanced message: kind, ID and data, or none for a bad CRC (SAE J2716; PRESUMED). -/
def enhancedMessage (st : List Nat) : Option (Nat × Nat × Nat) :=
  let lo := fun a n => ((st.drop a).take n).foldl (fun a x => a * 2 + x / 4 % 2) 0
  let hi := fun a n => ((st.drop a).take n).foldl (fun a x => a * 2 + x / 8 % 2) 0
  let chunks := (List.range 4).map (fun k =>
    ((st.drop (6 + 3 * k)).take 3).foldl (fun a x => a * 4 + x / 4 % 2 * 2 + x / 8 % 2) 0)
  if sentCrc 6 0x19 0x15 true chunks ≠ lo 0 6 then none
  else if hi 7 1 = 0 then some (2, hi 8 4 * 16 + hi 13 4, lo 6 12)
  else some (3, hi 8 4, hi 13 4 * 4096 + lo 6 12)

/-- An accepted message updates the four fields of SENTn_SLOW together (R547, Table 11.21). -/
def State.slowAccept (s : State) (n kind id data : Nat) : State :=
  let s := (s.set (Reg.SENT_SLOW_SDATA n) data).set (Reg.SENT_SLOW_SID n) id
  (s.set (Reg.SENT_SLOW_SKIND n) kind).incMod (Reg.SENT_SLOW_SCOUNT n)

/-- The slow-channel bits that SENT channel `n` has collected. -/
def State.setSlow (s : State) (n : Nat) (l : List Nat) : State :=
  { s with sents := vset s.sents n { vget s.sents n with slow := l } }

/-- The status nibble of an accepted frame joins the slow channel (R547). -/
def State.slowStep (s : State) (n st : Nat) : State :=
  let k := vget s.sents n
  let l := (k.slow ++ [st]).drop ((k.slow.length + 1) - 18)
  let top := fun (l : List Nat) => l.map (· / 8 % 2)
  let enh := l.length = 18 ∧ (top l).take 7 = [1, 1, 1, 1, 1, 1, 0] ∧ (top l).getD 12 1 = 0 ∧ (top l).getD 17 1 = 0
  let l16 := l.drop (l.length - 16)
  let short := l16.length = 16 ∧ top l16 = 1 :: List.replicate 15 0
  if enh then
    match enhancedMessage l with
    | some (kind, id, data) => (s.setSlow n []).slowAccept n kind id data
    | none => (s.setSlow n []).inc (Reg.SENT_SLOW_SCRCERR n)
  else if short then
    match shortMessage l16 with
    | some (id, data) => (s.setSlow n []).slowAccept n 1 id data
    | none => (s.setSlow n []).inc (Reg.SENT_SLOW_SCRCERR n)
  else s.setSlow n l

/-- The value of a nibble pulse of `d` in a frame whose sync pulse lasts `sync`; none outside 12 to 27 ticks (R538). -/
def nibbleOf (sync d : Nat) : Option Nat :=
  let ticks := rdiv (56 * d) sync
  if 12 ≤ ticks ∧ ticks ≤ 27 then some (ticks - 12).toNat else none

/-- A frame fails: its counter is raised, and the message being assembled is abandoned (R539, R547). -/
def State.sentFail (s : State) (n : Nat) (f : Fld) : State :=
  (s.setSlow n []).inc f

/-- SENT_FRAME: a frame with the sync pulse that began at `fall` and lasted `sync`, and the pulses that followed: status,
data and CRC nibbles, and the pause pulse where one came, all in time-word LSB (R538, R539). -/
def execSentFrame (t : Word) (n : Fin 8) (fall : Word) (sync : Nat) (pulses : List Nat) (s : State) : Out :=
  let s := s.at t
  let k := vget s.sents n
  let nib := s.get (Reg.SENT_CFG_NIB n)
  let nominal := 56 * 400 * s.get (Reg.SENT_CFG_TICK n)
  let inTick := 4 * nominal ≤ 5 * sync ∧ 5 * sync ≤ 6 * nominal
  let calOk := k.sync.all (fun p => decide (64 * (sync - p + (p - sync)) < p))
  let count := nib + 2 + s.get (Reg.SENT_CFG_PAUSE n)
  let vals := (pulses.take (nib + 2)).map (nibbleOf sync)
  .next (if ¬ s.is (Reg.SENT_CFG_EN n) then s
    else
      let s := { s with sents := vset s.sents n { k with sync := some sync } }
      if ¬ inTick ∨ calOk = false ∨ pulses.length ≠ count ∨ vals.any Option.isNone then s.sentFail n (Reg.SENT_CNT_TIMERR n)
      else
        let vs := vals.filterMap id
        let data := (vs.drop 1).take nib
        let legacy := s.is (Reg.SENT_CFG_CRC_MODE n)
        if sentCrc 4 0xD 5 (!legacy) data ≠ vs.getD (nib + 1) 0 then s.sentFail n (Reg.SENT_CNT_CRCERR n)
        else
          let fc1 := data.getD 0 0 * 256 + data.getD 1 0 * 16 + data.getD 2 0
          let hi := data.drop 3
          let ord := if s.is (Reg.SENT_CFG_FC2_REV n) then hi.reverse else hi
          let open2 := s.free
          let s := if nib = 6 then s else open2.2
          let fc2 := if nib = 6 then ord.getD 0 0 * 256 + ord.getD 1 0 * 16 + ord.getD 2 0 else open2.1.toNat
          let s := ((s.set (Reg.SENT_DATA_FC1 n) fc1).set (Reg.SENT_DATA_FC2 n) fc2).set (Reg.SENT_DATA_STATUS n) (vs.getD 0 0)
          let s := ((s.set (Reg.SENT_DATA_STALE n) 0).setReg (Reg.SENT_TIME_addr n) fall).inc (Reg.SENT_CNT_FRAMES n)
          let s := { s with sents := vset s.sents n { vget s.sents n with heard := some t } }
          (s.slowStep n (vs.getD 0 0)).pinDeliver n true)

/-- SENT_STALE: 5 ms without an accepted frame (R540). -/
def execSentStale (t : Word) (n : Fin 8) (s : State) : Out :=
  let s := s.at t
  .next (if s.is (Reg.SENT_CFG_EN n) ∧ ¬ s.is (Reg.SENT_DATA_STALE n)
      ∧ (vget s.sents n).heard.all (fun a => decide (5 * ms ≤ elapsed a t)) then
    (s.set (Reg.SENT_DATA_STALE n) 1).report 0x11 n 4 0 (some t)
  else s)

/-! ### Flash commands (R541, R542) -/

/-- The bytes [a, a + n) of the flash touch the mirror plies (R87, R542). -/
def touchesMirror (a n : Nat) : Bool := (List.range n).any (fun k => decide ((a + k) % 2 ^ 24 < 0x060000))

/-- R542's conditions under which a command only sets CMD_REJ. -/
def State.flashRejects (s : State) (cmd a n : Nat) : Bool :=
  (decide (cmd = 2) && touchesMirror a n) || (decide (cmd = 3) && decide (a / 4096 * 4096 < 0x060000))
    || s.weave.loading || !s.weave.mirror.isEmpty || s.is Reg.LNK_FSTAT_BUSY

/-- Byte `k` of the working-memory area from word `w`; addresses wrap at the end of the memory (log entry 34). -/
def State.workByte (s : State) (w k : Nat) : Nat := byteOf (s.workGet ((w + k / 6) % 32768)) (k % 6)

/-- The word with byte `k` replaced (R6). -/
def putByte (w : Word) (k v : Nat) : Word := (Fld.mk 0 (8 * (5 - k)) 8).put w v

/-- Moves one byte into working memory. -/
def State.setWorkByte (s : State) (w k v : Nat) : State :=
  let a := (w + k / 6) % 32768
  s.workSet a (putByte (s.workGet a) (k % 6) v)

/-- `n` bytes moved into working memory from word `w`: a signature region that they touch is no longer one that was restored or
converged (R219). -/
def State.overwritten (s : State) (w n : Nat) : State :=
  let touched := (List.range ((n + 5) / 6)).map (fun k => (w + k) % 32768 / 0x400)
  { s with learn := ((List.range 4).filter touched.contains).foldl (fun l r => l.mark r false) s.learn }.showSigValid

/-- The commands that the flash master sends for a READ (1), a PROGRAM (2) or an ERASE (3) at address `a`, each with its address: 0x6B
or, without QUAD, 0x0B reads; 0x06 goes before each write; 0x02 programs within one page of 256 bytes, so that bytes beyond its end take
a second one; 0x20 erases a sector (R541). -/
def flashCodes (quad : Bool) (cmd a n : Nat) : List (Nat × Nat) :=
  let next := a / 256 * 256 + 256
  match cmd with
  | 1 => [(if quad then 0x6B else 0x0B, a)]
  | 2 => [(0x06, 0), (0x02, a)] ++ if next < a + n then [(0x06, 0), (0x02, next % 2 ^ 24)] else []
  | 3 => [(0x06, 0), (0x20, a / 4096 * 4096)]
  | _ => []

/-- The commands of the flash master for the last host command (R541). -/
def State.flashSend (s : State) (l : List (Nat × Nat)) : State := { s with host := { s.host with fspi := l } }

/-- A command written to LNK_FCMD: READ, PROGRAM or ERASE (R541, R542); 0 does nothing. -/
def State.flashCommand (s : State) (cmd a len : Nat) : State :=
  let n := len + 1
  let w := s.get Reg.LNK_FWADDR_WADDR
  if cmd = 0 ∨ ¬ s.flashUp then s
  else if s.flashRejects cmd a n then s.stick Reg.LNK_FSTAT_CMD_REJ 1
  else
    let s := (s.set Reg.LNK_FSTAT_BUSY 1).flashSend (flashCodes (s.is Reg.LNK_FSTAT_QUAD) cmd a n)
    if cmd = 1 then ((List.range n).foldl (fun s k => s.setWorkByte w k (s.flashGet ((a + k) % 2 ^ 24))) s).overwritten w n
    else if cmd = 2 then (List.range n).foldl (fun s k => s.flashSet ((a + k) % 2 ^ 24) (s.workByte w k)) s
    else { s with flash := s.flash.filter (fun c => decide (c.1 / 4096 ≠ a / 4096)) }

/-- The host writes a command to LNK_FCMD, a register of link interface 7 (R34, R79). -/
def State.flashWrite (s : State) (cmd a len : Nat) : State :=
  if s.gone Reg.LNK_FCMD_addr then s.wrej else s.flashCommand cmd a len

/-- FLASH_READ. -/
def execFlashRead (t : Word) (faddr : Fin 16777216) (len : Fin 256) (s : State) : Out :=
  .next ((s.at t).flashWrite 1 faddr len)

/-- FLASH_PROGRAM. -/
def execFlashProgram (t : Word) (faddr : Fin 16777216) (len : Fin 256) (s : State) : Out :=
  .next ((s.at t).flashWrite 2 faddr len)

/-- FLASH_ERASE: the 4 KiB sector that holds FADDR reads 0xFF. -/
def execFlashErase (t : Word) (faddr : Fin 16777216) (s : State) : Out := .next ((s.at t).flashWrite 3 faddr 0)

/-- FLASH_CMD_DONE: a poll of status 0x05 has read bit 0 as 0; BUSY clears (R541). -/
def execFlashCmdDone (t : Word) (s : State) : Out :=
  let s := s.at t
  .next ((s.set Reg.LNK_FSTAT_BUSY 0).flashSend (s.host.fspi ++ [(0x05, 0)]))

/-! ### JTAG instructions (R543, R544) -/

/-- The instruction that a code of the 8-bit instruction register selects; every other code selects BYPASS (R543, Table 11.14). -/
def jtagDecode (code : Nat) : JtagInstr :=
  match code with
  | 0x00 => .extest
  | 0x01 => .idcode
  | 0x02 => .sample
  | 0x03 => .highz
  | 0x04 => .clamp
  | 0x20 => .dbg
  | _ => .bypass

/-- Update-IR with a code: the instruction it selects is in force (R543). -/
def State.jtagSelect (s : State) (code : Nat) : State :=
  { s with host := { s.host with jtag := { s.host.jtag with ir := code, instr := jtagDecode code } } }

/-- An instruction that acts on the balls: only while the Loom is stopped; otherwise the update selects BYPASS and sets REFUSED
(R544). -/
def State.jtagStopped (s : State) (code : Nat) : State :=
  if s.running then (s.jtagSelect 0xFF).stick Reg.LNK_JTAG_REFUSED 1 else s.jtagSelect code

/-- The boundary register drives the balls: EXTEST, HIGHZ and CLAMP have their effect only while the Loom is stopped (R544). -/
def State.tapDrives (s : State) : Bool :=
  decide (s.host.jtag.instr = .extest ∨ s.host.jtag.instr = .highz ∨ s.host.jtag.instr = .clamp) && !s.running

/-- JTAG_EXTEST. -/
def execJtagExtest (t : Word) (s : State) : Out := .next ((s.at t).jtagStopped 0x00)

/-- JTAG_IDCODE: the identification register 0x348205CB is selected. -/
def execJtagIdcode (t : Word) (s : State) : Out := .next ((s.at t).jtagSelect 0x01)

/-- JTAG_SAMPLE_PRELOAD: the boundary register is selected for sampling. -/
def execJtagSamplePreload (t : Word) (s : State) : Out := .next ((s.at t).jtagSelect 0x02)

/-- JTAG_HIGHZ. -/
def execJtagHighz (t : Word) (s : State) : Out := .next ((s.at t).jtagStopped 0x03)

/-- JTAG_CLAMP. -/
def execJtagClamp (t : Word) (s : State) : Out := .next ((s.at t).jtagStopped 0x04)

/-- JTAG_BYPASS: BYPASS selects the bypass register, as an unlisted code does, which jtagDecode reads alike. -/
def execJtagBypass (t : Word) (s : State) : Out := .next ((s.at t).jtagSelect 0xFF)

/-- The identification code: version 0x3, part 0x4820, manufacturer 0x2E5 and the 1 of IEEE 1149.1 (R543). -/
def idcode : Nat := 0x3 * 2 ^ 28 + 0x4820 * 2 ^ 12 + 0x2E5 * 2 + 1

/-! ### Counters -/

/-- Clears the counters of a link block; what this very instant counts stays (11_links, "Link registers"). -/
def State.linkClear (s : State) : LnkBlock → State
  | .hspi => s.clearCounts [Reg.LNK_HSPI_CRCERR, Reg.LNK_HSPI_LENERR, Reg.LNK_HSPI_LATES]
  | .can c => s.clearCounts [Reg.CAN_CNT_RXOVF c, Reg.CAN_CNT_RESDROP c, Reg.CAN_CNT_RTR c]
  | .eth p => s.clearCounts [Reg.ETH_CNT_RXFRAMES p]
  | .str k => s.clearCounts [Reg.STR_STAT_DROPS k]

/-- The CNT_CLR word of a link block. -/
def lnkClearWord : LnkBlock → Nat
  | .hspi => Reg.LNK_HSPI_CNT_CLR_addr
  | .can c => Reg.CAN_CNT_CLR_addr c
  | .eth p => Reg.ETH_CNT_CLR_addr p
  | .str k => Reg.STR_CNT_CLR_addr k

/-- LNK_CNT_CLR. -/
def execLnkCntClr (t : Word) (which : LnkBlock) (s : State) : Out :=
  let s := s.at t
  .next (if s.gone (lnkClearWord which) then s.wrej else s.linkClear which)

end Sys2Proof.Machine
end

