-- ==== Sys2Proof/Machine/Proex.lean ====
section
/-!
DEFINITION. The Proex controller (13_pair_operation): link states, frames received and sent, the partner's time, pair check,
mirror, comparison of the two angles, merge keys and the pair FIFO. The divergence states stand in Machine/Diverge.lean.
-/
namespace Sys2Proof.Machine

/-- The Proex controller is instantiated, its domain on, and its receive or transmit clock runs (R47, R655); it receives over the balls
PXRX (R680). -/
def State.proexOn (s : State) : Bool := s.hasTile 0x10 0 && decide (s.domain 6 = 0)
def State.proexRx (s : State) : Bool := s.proexOn && !s.crossingOff 5 && s.assigned 0x10 0 2 && s.assigned 0x10 0 3
def State.proexTx (s : State) : Bool := s.proexOn && !s.crossingOff 4

def State.setPair (s : State) (k : Pair) : State := { s with pair := k }

/-- The entry of an association list, if any, and the list with it replaced. -/
def lookupNat (l : List (Nat × Nat)) (k : Nat) : Option Nat := (l.find? (fun e => decide (e.1 = k))).map (·.2)
def replaceNat (l : List (Nat × Nat)) (k v : Nat) : List (Nat × Nat) := (k, v) :: l.filter (fun e => decide (e.1 ≠ k))

/-! ### The pair FIFO (R627 to R630) -/

/-- PRX_STAT.SIDE is B (R592). -/
def State.sideB (s : State) : Bool := s.is Reg.PRX_STAT_SIDE

/-- The entry is released (R629); received frames hold none back while the unit is no pair member (R593; log entry 149). -/
def State.released (s : State) (e : PairEntry) : Bool :=
  let other := if e.bSide = s.sideB then s.pair.partKey else s.pair.key
  !s.linkUp || !s.pairMember || (if e.bSide then decide (e.key ≤ other) else decide (e.key < other))

/-- Shows the readable entries (Table 13.13). -/
def State.pevShow (s : State) : State := s.set Reg.PRX_PEVSTAT_LEVEL (s.pair.fifo.takeWhile s.released).length

/-- Puts an entry in its place: by key, the A-side first on equal keys, later ones of one side behind. -/
def insertPair (e : PairEntry) : List PairEntry → List PairEntry
  | [] => [e]
  | x :: l => if e.key < x.key ∨ (e.key = x.key ∧ e.bSide = false ∧ x.bSide = true) then e :: x :: l
      else x :: insertPair e l

/-- An entry arrives at the pair FIFO (R629, R630). -/
def State.pairPush (s : State) (e : PairEntry) : State :=
  if ¬ (s.hasTile 0x10 0 ∧ s.is Reg.PRX_CTRL_PEV_EN) then s
  else if 128 ≤ s.pair.fifo.length then
    let s := (s.stick Reg.PRX_PEVSTAT_OVF 1).inc Reg.PRX_PEVSTAT_LOST
    s.report 0x10 0 5 (s.get Reg.PRX_PEVSTAT_LOST) (some s.now)
  else
    match s.pair.fifo with
    | [] => (s.setPair { s.pair with fifo := [e] }).pevShow
    | x :: l =>
      let fifo := if s.pair.popped = 0 then insertPair e (x :: l) else x :: insertPair e l
      (s.setPair { s.pair with fifo }).pevShow

/-- Word `k` of an entry (R629). -/
def PairEntry.word (e : PairEntry) (k : Nat) : Word :=
  if k < 3 then e.ev.word k
  else if k = 3 then BitVec.ofNat 48 (e.key / W48 * 65536 + (if e.bSide then 1 else 0))
  else BitVec.ofNat 48 e.key

/-- The next word of the oldest released entry; 0 when none is (R629). -/
def State.pevWord (s : State) : Word :=
  match s.pair.fifo with
  | e :: _ => if s.released e then e.word s.pair.popped else 0
  | [] => 0

/-- Consumes the next word; the entry leaves with its word 4 (R629). -/
def State.pevConsume (s : State) : State :=
  match s.pair.fifo with
  | e :: l =>
    if ¬ s.released e then s
    else if s.pair.popped < 4 then s.setPair { s.pair with popped := s.pair.popped + 1 }
    else (s.setPair { s.pair with fifo := l, popped := 0 }).pevShow
  | [] => s

/-- The cycle count under which the unit's events are keyed, and the angle at `t`; none while no Weft delivers (R627). -/
def State.keyCycle (s : State) : Nat := (s.get Reg.SVC_CYCLE_CYCLE + s.get Reg.PRX_STAT_CYC_OFS) % 2 ^ 32

/-- A Weft delivers (R188, R207). -/
def State.delivers (s : State) : Bool :=
  s.running && angleState (s.sync s.primary) && (s.wf s.delivering).last.isSome

/-- The merge key moves at an ESN assignment; it never falls (R627). -/
def State.moveKey (s : State) : State :=
  let a := if s.delivers then (s.angleAt s.delivering s.now).toNat else s.pair.key % W48
  let k := s.keyCycle * W48 + a
  if s.pair.key ≤ k then s.setPair { s.pair with key := k } else s

/-- The B-side unit chooses CYC_OFS at its first agreeing comparison after UP (R628). -/
def State.chooseOfs (s : State) : State :=
  if s.sideB ∧ ¬ s.pair.ofsSet then
    let d := roundUp (((s.pair.beatKey : Int) - s.pair.key : Rat) / W48)
    let ofs := unsign 32 ((s.get Reg.PRX_STAT_CYC_OFS : Int) + d)
    let key := ((s.pair.key : Int) + d * W48).toNat
    (s.setPair { s.pair with ofsSet := true, key }).set Reg.PRX_STAT_CYC_OFS ofs
  else s

/-! ### Link, check and what follows from them (R601, R607, R616, R620) -/

/-- BORROWED ends at the instant at which the mirrored angle is not valid (R616). -/
def State.borrowCheck (s : State) : State :=
  if s.sync s.primary = ssBorrowed ∧ s.partnerAngle = false then s.sourceLost s.now else s

/-- The divergence transitions that follow from LINK and CHECK (Table 13.8). -/
def State.divLink (s : State) : State :=
  if ¬ s.pairMember then s
  else if s.linkUp && s.checkOk then (if s.div = dvSolo then s.setDiv dvSoft else s)
  else if s.div = dvAgree ∨ s.div = dvSoft ∨ s.div = dvSole then s.setDiv dvSolo
  else s.resolveHard

/-- CHECK changes (R607, R608). -/
def State.setCheck (s : State) (code : Nat) : State :=
  if s.get Reg.PRX_STAT_CHECK = code then s
  else (s.set Reg.PRX_STAT_CHECK code).report 0x10 0 2 (code * 2 ^ 37) (some s.now)

/-- LINK changes (R601): reported; on entry to DOWN, CHECK is NONE, and from UP a loss is counted and Headland hears of it. -/
def State.setLink (s : State) (new : Nat) : State :=
  let old := s.get Reg.PRX_STAT_LINK
  if old = new then s
  else
    let s := (s.set Reg.PRX_STAT_LINK new).report 0x10 0 1 (new * 2 ^ 38) (some s.now)
    let s := if new = 2 then s.setPair { s.pair with ofsSet := false } else s
    let s := if new = 0 then s.setCheck 4 else s
    let s := if new = 0 ∧ old = 2 then (s.inc Reg.PRX_CNT1_LOSSES).cause 15 0 else s
    s.divLink.borrowCheck.pevShow

/-- PROEX_ALIGN: 16 consecutive K28.5 characters; DOWN becomes TRAIN (R601). -/
def execProexAlign (t : Word) (s : State) : Out :=
  let s := s.at t
  .next (if s.proexRx ∧ s.get Reg.PRX_STAT_LINK = 0 then (s.setPair { s.pair with beatAt := t }).setLink 1 else s)

/-- LINK goes DOWN when no BEAT has been accepted for 300 µs (R601). -/
def State.beatLost (s : State) : State :=
  if s.get Reg.PRX_STAT_LINK ≠ 0 ∧ 300 * us ≤ elapsed s.pair.beatAt s.now then s.setLink 0 else s

/-- BEAT_TIMEOUT: 300 µs without an accepted BEAT (R601). -/
def execBeatTimeout (t : Word) (s : State) : Out := .next (s.at t).beatLost

/-- MAP_TIMEOUT: 300 µs without an accepted sample (R606, R616). -/
def execMapTimeout (t : Word) (s : State) : Out :=
  let s := s.at t
  .next (if s.is Reg.PRX_STAT_MAP_VALID ∧ 300 * us ≤ elapsed s.pair.mapAt t then
    (s.set Reg.PRX_STAT_MAP_VALID 0).borrowCheck else s)

/-- MIRROR_TOOTH_TIMEOUT: no TOOTH frame within the stall limit (R614, R616). -/
def execMirrorToothTimeout (t : Word) (s : State) : Out := .next ((s.at t).borrowCheck)

/-! ### Reception (R599, R600) -/

/-- An accepted frame of `type` with FSEQ `f`: a gap raises SEQGAP (R600). The result says whether there was one. -/
def State.seqAccept (s : State) (type f : Nat) : State × Bool :=
  let gap := match lookupNat s.pair.rxSeq type with
    | some g => decide (f ≠ (g + 1) % 256)
    | none => false
  let s := s.setPair { s.pair with rxSeq := replaceNat s.pair.rxSeq type f }
  (if gap then s.inc Reg.PRX_CNT0_SEQGAP else s, gap)

/-- The receiver takes frames: its clock runs and it is aligned (R601). -/
def State.receives (s : State) : Bool := s.proexRx && decide (s.get Reg.PRX_STAT_LINK ≠ 0)

/-- Bytes a .. a + n of a payload as a number (R5). -/
def payNat (p : List Nat) (a n : Nat) : Nat := beNat ((p.drop a).take n)

/-- PROEX_FRAME_ERROR: discarded and counted; `header`: header check, TYPE or LEN, else characters (R599). -/
def execProexFrameError (t : Word) (header : Bool) (s : State) : Out :=
  let s := s.at t
  .next (if s.receives then s.inc (if header then Reg.PRX_CNT0_HCRCERR else Reg.PRX_CNT0_CODEERR) else s)

/-- The offset sample of a BEAT (R603, R604); while the unit is no pair member it leaves PRX_OFS and PRX_DLY alone
(R593, log entry 149). -/
def State.beatSample (s : State) (p : List Nat) (d : Word) : State :=
  let a := wordAt p 6
  let b := wordAt p 12
  let c := wordAt p 0
  if ¬ s.pair.sent.contains a then s
  else
    let theta := rdiv (sdiff b a + sdiff c d) 2
    let delay := rdiv (sdiff d a - sdiff c b) 2
    if 0 ≤ delay ∧ delay < 3200 then
      let s := if s.pairMember then (s.setI Reg.PRX_OFS_OFS theta).set Reg.PRX_DLY_DELAY delay.toNat else s
      (s.setPair { s.pair with mapAt := s.now }).set Reg.PRX_STAT_MAP_VALID 1
    else s.inc Reg.PRX_CNT0_SEQGAP

/-- PRX_PART from a BEAT (Tables 13.4, 13.12), and in a pair member the partner's merge key and CYC_OFS (R593). -/
def State.beatPart (s : State) (p : List Nat) : State :=
  let fl := payNat p 18 1
  let sy := payNat p 19 1
  let s := (s.set Reg.PRX_PART_STATE (sy / 16)).set Reg.PRX_PART_SRC (sy / 4 % 4)
  let s := (s.set Reg.PRX_PART_DIV (payNat p 20 1 / 32)).set Reg.PRX_PART_VERD (fl / 4 % 4)
  let s := (s.set Reg.PRX_PART_LOOM_RUN (fl / 32 % 2)).set Reg.PRX_PART_SIG_VALID (fl / 16 % 2)
  let s := s.set Reg.PRX_PART_LAST_ESN (payNat p 22 4)
  let key := payNat p 30 4 * W48 + payNat p 34 6
  if s.pairMember then s.setPair { s.pair with partKey := key, beatKey := key, partOfs := payNat p 40 4 } else s

/-- The pair check of a BEAT (Table 13.6a). -/
def State.beatCheck (s : State) (p : List Nat) : Nat :=
  let fl := payNat p 18 1
  if fl / 64 % 2 = 0 ∨ s.weave.pair = false then 1
  else if fl / 128 = s.get Reg.PRX_STAT_SIDE then 2
  else if payNat p 26 4 ≠ s.weave.descId then 3
  else 0

/-- What the partner's divergence state brings about (Tables 13.8, 13.9, R624). -/
def State.beatDiv (s : State) : State :=
  let d := s.get Reg.PRX_PART_DIV
  if ¬ s.pairMember then s
  else if d = dvHardWait ∧ (s.div = dvAgree ∨ s.div = dvSoft) then s.setDiv dvHardWait
  else if s.div = dvSole ∧ d ≠ dvStopOwn then s.setDiv dvSoft
  else s.resolveHard

/-- PROEX_BEAT_FRAME: a BEAT with FSEQ `fseq` whose start character arrived at `arrival` (R601 to R608, R616, R620). -/
def execProexBeatFrame (t : Word) (fseq : Fin 256) (p : List Nat) (arrival : Word) (s : State) : Out :=
  let s := s.at t
  .next (if s.receives then
    let s := (s.seqAccept 2 fseq).1
    let s := s.setPair { s.pair with beatAt := t, echo := if s.pairMember then some (wordAt p 0, arrival) else s.pair.echo }
    let s := (s.beatPart p).setCheck (s.beatCheck p)
    let s := s.setLink 2
    let s := s.beatSample p arrival
    (s.divLink.beatDiv).borrowCheck.pevShow
  else s)

/-- The partner's update in this unit's time and angle (R605, R615, R231, Table 13.5). -/
def State.partnerUpdate (s : State) (p : List Nat) : Update :=
  let w := payNat p 0 4
  let n := s.primary
  let tidx := bitsOf w 20 12
  let nspan := bitsOf w 10 3
  let ang := s.angleOf n tidx
  { tidx, src := bitsOf w 18 2, mode := bitsOf w 17 1 == 1, ins := bitsOf w 16 1 == 1, mark := bitsOf w 15 1 == 1
    half := bitsOf w 14 1 == 1, step := bitsOf w 13 1 == 1, nspan, time := wordAt p 4 - s.reg Reg.PRX_OFS_addr, angle := ang
    dang := (s.angleOf n ((tidx + nspan) % s.ncyc n) - ang).toNat, period := payNat p 10 4, slope := signed 32 (payNat p 14 4) }

/-- Weft 1 issues the partner's update in BORROWED; the first one after the switch carries STEP = 1 (R190, R231). -/
def State.borrowUpdate (s : State) (u : Update) : State :=
  if s.sync s.primary ≠ ssBorrowed then s
  else
    let f := s.wf 1
    let s := match f.formed.getLast? <|> f.last with
      | some v => s.weftError 1 v (elapsed v.time u.time)
      | none => s
    s.setWf 1 { s.wf 1 with formed := (s.wf 1).formed ++ [{ u with src := 2, step := u.step || f.switched }], switched := false }

/-- The comparison may be formed (R617). -/
def State.comparable (s : State) (u : Update) : Bool :=
  let n := s.primary
  !u.half && decide (u.src < 2) && s.checkOk && s.is Reg.PRX_STAT_MAP_VALID && decide (s.get Reg.PRX_PART_STATE = 4)
    && (decide (s.sync n = ssPhased ∧ s.src < 2) || decide (s.sync n = ssBorrowed ∧ s.get (Reg.WRP_SYNC_BG n) = 4))

/-- A Loom stop of this instant, by a HALT cause that waits for Headland, comes before what a comparison brings about (R625); a
STOP needs standstill, in which nothing is compared (R98, R617; log entry 150). -/
def State.haltFirst (s : State) : Bool :=
  s.causes.any (fun c => [1, 2, 3, 23].contains c.1)
    && s.pending.any (fun c => match c with
      | .headlandCause t => decide (t = s.now)
      | _ => false)

/-- The counts of R618 and the transitions they cause (R620, R625), and R175 in BORROWED. -/
def State.compared (s : State) (d : Nat) : State :=
  let tol := s.get Reg.PRX_DIVCFG_DIV_TOL
  let n := s.get Reg.PRX_DIVCFG_DIV_TEETH
  let k := s.pair
  let k := { k with
    dc := if tol < d then k.dc + 1 else 0
    hc := if s.get Reg.PRX_DIVCFG_HARD < d then k.hc + 1 else 0
    ac := if d ≤ tol then k.ac + 1 else 0 }
  let s := s.setPair k
  let s := if d ≤ tol then s.chooseOfs else s
  let s :=
    if s.haltFirst then s
    else if (s.div = dvAgree ∨ s.div = dvSoft) ∧ n ≤ k.hc then (s.setDiv dvHardWait).cause 13 0
    else if s.div = dvAgree ∧ n ≤ k.dc then (s.setDiv dvSoft).cause 12 0
    else if s.div = dvSoft ∧ n ≤ k.ac then s.setDiv dvAgree
    else s
  let p := s.primary
  if s.sync p = ssBorrowed then
    let a := if d ≤ tol then (s.wp p).agree + 1 else 0
    let s := s.setWp p { s.wp p with agree := a }
    if n ≤ a then s.ownReturn p s.now else s
  else s

/-- PROEX_TOOTH_FRAME: a TOOTH frame: validity of the partner's angle, Weft 1 in BORROWED, comparison (R231, R614, R617); a
loss of LINK that falls due at this instant comes first (R625). -/
def execProexToothFrame (t : Word) (fseq : Fin 256) (p : List Nat) (s : State) : Out :=
  let s := (s.at t).beatLost
  .next (if s.receives then
    let s := (s.seqAccept 1 fseq).1
    if ¬ s.pairMember then s
    else
      let u := s.partnerUpdate p
      let n := s.primary
      let lim := min ((s.get (Reg.WRP_MODE_STALL_N n) * u.period + max u.nspan 1 - 1) / max u.nspan 1) (s.get (Reg.WRP_MODE_STALL_CAP n) * ms)
      let s := if u.half then s else s.setPair { s.pair with toothAt := some t, toothFor := lim }
      let cmp := s.comparable u
      let own := if s.sync n = ssBorrowed then s.ownAngleAt n u.time else s.angleAt s.delivering u.time
      let d := rdiv (sdiff u.angle own * (64 * s.cycleDeg)) W48
      let s := s.borrowUpdate u
      if cmp then
        let s := (s.setI Reg.PRX_DIFF_LAST (satS 24 d)).maxTo Reg.PRX_DIFF_MAXABS d.natAbs
        s.compared d.natAbs
      else s
  else s)

/-- PROEX_EVENT_FRAME: the partner's event enters the pair FIFO (R629). -/
def execProexEventFrame (t : Word) (fseq : Fin 256) (p : List Nat) (s : State) : Out :=
  let s := s.at t
  .next (if s.receives then
    let s := (s.seqAccept 3 fseq).1
    if ¬ s.pairMember then s
    else
      let key := payNat p 18 4 * W48 + payNat p 22 6
      let s := s.setPair { s.pair with partKey := key }
      (s.pairPush { ev := ⟨wordAt p 0, wordAt p 6, wordAt p 12⟩, key, bSide := !s.sideB }).pevShow
  else s)

/-- A RECORD frame is received: words 0 to 11 of the partner's record are stored, words 12 to 15 are 0 (R608, Table 13.6). -/
def State.recordFrame (s : State) (f : Nat) (p : List Nat) : State :=
  if s.receives then
    let s := (s.seqAccept 4 f).1
    let j := payNat p 0 1
    if s.pairMember ∧ s.checkOk ∧ j < 24 then
      s.workWrite (0x1C00 + 16 * j) ((List.range 12).map (fun k => wordAt p (6 * k)) ++ [0, 0, 0, 0])
    else s
  else s

/-- First word and length of the area of a BLOCK ID (Table 13.6); length 0 for an unknown one. -/
def State.blockArea (s : State) (id : Nat) : Nat × Nat :=
  match id with
  | 1 => (0x1800, s.posn s.primary)
  | 2 => (0x2800, s.phases s.primary)
  | 3 => (0x1D80, 20)
  | 4 => (0x1D94, 32)
  | _ => (0, 0)

/-- SIG_OK or FP_OK, for IDs 1 and 2 (R611). -/
def State.seriesOk (s : State) (id : Nat) (ok : Bool) : State :=
  if id = 1 then s.flag Reg.PRX_MIRST_SIG_OK ok else if id = 2 then s.flag Reg.PRX_MIRST_FP_OK ok else s

/-- SIGDIFF after a whole signature series (R612). -/
def State.signatureDiff (s : State) : State :=
  if ¬ (s.is (Reg.WFT_CLST_SIG_VALID 0) ∧ s.is Reg.PRX_PART_SIG_VALID) then s
  else
    let n := s.primary
    let base := sigBase n (s.sigBank n)
    let worst := (List.range (s.posn n)).foldl (fun m p =>
      max m (s.entry24 (base + p) - s.entry24 (0x1800 + p)).natAbs) 0
    let d := satUI 16 (openRound ((worst : Rat) / 1024))
    let s := s.set Reg.PRX_MIRST_SIGDIFF d
    if s.get Reg.PRX_CTRL_SIG_TOL ≤ d then s.report 0x10 0 4 d (some s.now) else s

/-- A BLOCK frame is received: eight words of a series (R608, R611, R612). -/
def State.blockFrame (s : State) (f : Nat) (p : List Nat) : State :=
  if s.receives then
    let r := s.seqAccept 5 f
    let s := r.1
    if ¬ s.pairMember ∨ ¬ s.checkOk then s
    else
      let id := payNat p 0 1
      let ofs := payNat p 2 2
      let area := s.blockArea id
      if area.2 = 0 then s
      else
        let s := (List.range 8).foldl (fun s k =>
          if ofs + k < area.2 then s.workSet (area.1 + ofs + k) (wordAt p (4 + 6 * k)) else s) s
        let whole := decide (ofs = 0) || (s.pair.whole && !r.2 && decide (s.pair.series = some (id, ofs)))
        let s := if ofs = 0 ∨ ¬ whole then s.seriesOk id false else s
        let done := decide (area.2 ≤ ofs + 8)
        let s := s.setPair { s.pair with series := if done then none else some (id, ofs + 8), whole }
        if done && whole then
          let s := s.seriesOk id true
          if id = 1 then s.signatureDiff else s
        else s
  else s

/-- DIV_CLR ends BOTH_STOP (Table 13.8). -/
def State.divClear (s : State) : State :=
  if s.div = dvBothStop then s.setDiv (if s.linkUp then dvSoft else dvSolo) else s

/-- DIV_CLR. -/
def execDivClr (t : Word) (s : State) : Out :=
  let s := s.at t
  .next (if s.gone Reg.PRX_CTRL_addr then s.wrej else s.divClear)

/-! ### Transmission (R595 to R598, R602, R609) -/

/-- A normal frame waits for the link; a frame meets a dead transmitter and is gone (R47, R655). -/
def State.proexQueue (s : State) (type : Nat) (payload : List Nat) : State :=
  if s.proexTx then s.setPair { s.pair with queue := s.pair.queue ++ [{ type, payload }] } else s

/-- A TOOTH frame of a Weft 0 update (R189, Table 13.5). -/
def State.proexTooth (s : State) (u : Update) : State :=
  let b := fun (x : Bool) (k : Nat) => if x then 2 ^ k else 0
  let w := u.tidx * 2 ^ 20 + u.src * 2 ^ 18 + b u.mode 17 + b u.ins 16 + b u.mark 15 + b u.half 14 + b u.step 13
    + u.nspan * 2 ^ 10
  let payload := beBytes 4 w ++ beBytes 6 u.time.toNat ++ beBytes 4 u.period ++ beBytes 4 (unsign 32 u.slope)
  if s.proexTx then s.setPair { s.pair with teeth := s.pair.teeth ++ [{ type := 1, payload }] } else s

/-- A BEAT falls due now: every 100 µs from the controller's start, the first one at it (R602, Table 13.10). -/
def State.beatNow (s : State) : Bool :=
  s.proexTx && notBefore s.now s.pair.dueAt && decide (elapsed s.pair.dueAt s.now % (100 * us) = 0)

/-- BEAT_DUE. -/
def execBeatDue (t : Word) (s : State) : Out :=
  let s := s.at t
  .next (if s.beatNow then s.setPair { s.pair with dueAt := addW t (100 * us), beatDue := true } else s)

/-- The payload of a BEAT that starts now (Table 13.4); VERD is sent in HARD_WAIT only (R622). -/
def State.beatPayload (s : State) : List Nat :=
  let b := fun (f : Fld) (k : Nat) => s.get f * 2 ^ k
  let fl := b Reg.PRX_STAT_SIDE 7 + (if s.weave.pair then 64 else 0) + b Reg.SYS_STATUS_LOOM_RUN 5
    + b (Reg.WFT_CLST_SIG_VALID 0) 4 + (if s.div = dvHardWait then b Reg.PRX_STAT_VERD 2 else 0)
  let sy := s.sync s.primary * 16 + s.src * 4
  let echo := s.pair.echo.getD (0, 0)
  beBytes 6 s.now.toNat ++ beBytes 6 echo.1.toNat ++ beBytes 6 echo.2.toNat ++ [fl, sy, s.div * 32, 0]
    ++ beBytes 4 (s.get Reg.SYS_ESN_LAST) ++ beBytes 4 s.weave.descId ++ beBytes 4 (s.pair.key / W48)
    ++ beBytes 6 (s.pair.key % W48) ++ beBytes 4 (s.get Reg.PRX_STAT_CYC_OFS)

/-- The characters of a frame; control characters are 256 above their code (Tables 13.1, 13.2). -/
def frameChars (f : ProexFrame) (fseq : Nat) : List Nat :=
  let h := [f.type, f.payload.length, fseq]
  [256 + (if f.type = 1 then 0x3C else 0xFB)] ++ h ++ [crc8 h] ++ f.payload ++ [256 + 0xFD]

/-- The FSEQ of the next frame of a TYPE. -/
def State.nextFseq (s : State) (type : Nat) : Nat := (lookupNat s.pair.txSeq type).getD 0

/-- Counts a frame of a TYPE as sent. -/
def State.countFrame (s : State) (type : Nat) : State :=
  s.setPair { s.pair with txSeq := replaceNat s.pair.txSeq type ((s.nextFseq type + 1) % 256) }

/-- A normal frame starts: 40 ns a character (R597, R598). -/
def State.startNormal (s : State) (f : ProexFrame) : State :=
  let cs := frameChars f (s.nextFseq f.type)
  (s.setPair { s.pair with sentNormal := cs, busyTo := some (addW s.now (64 * cs.length)) }).countFrame f.type

/-- An urgent frame is on the link, or waits for the character boundary. -/
def State.urgentRuns (s : State) : Bool := !s.pair.toothTo.all (fun b => notBefore s.now b)

/-- A normal frame is on the link, or suspended. -/
def State.normalRuns (s : State) : Bool := !s.pair.busyTo.all (fun b => notBefore s.now b)

/-- The link is free. -/
def State.linkFree (s : State) : Bool := !s.urgentRuns && !s.normalRuns

/-- The character that leaves now, 40 ns each: of the urgent frame from the character boundary on, else of the normal frame, else K28.5
(R594, R595, R597). -/
def State.lineChar (s : State) : Nat :=
  let left := fun (b : Option Word) => (b.map (fun e => (elapsed s.now e + 63) / 64)).getD 0
  let u := if s.urgentRuns then left s.pair.toothTo else 0
  let n := if s.normalRuns then left s.pair.busyTo else 0
  let urgent := s.pair.sentTooth.length
  let normal := s.pair.sentNormal
  if 0 < u ∧ u ≤ urgent then s.pair.sentTooth.getD (urgent - u) (256 + 0xBC)
  else if 0 < n then normal.getD (normal.length - (n - if urgent < u then urgent else 0)) (256 + 0xBC)
  else 256 + 0xBC

/-- A TOOTH frame starts at the next character boundary; a normal frame in progress is suspended and ends that much later (R597). -/
def State.startUrgent (s : State) (f : ProexFrame) : State :=
  let cs := frameChars f (s.nextFseq 1)
  let n := 64 * cs.length
  let wait := if s.normalRuns then (s.pair.busyTo.map (fun b => elapsed s.now b % 64)).getD 0 else 0
  let busyTo := if s.normalRuns then s.pair.busyTo.map (fun b => addW b n) else s.pair.busyTo
  (s.setPair { s.pair with sentTooth := cs, toothTo := some (addW s.now (wait + n)), busyTo }).countFrame 1

/-- The first waiting frame of a TYPE, taken from the queue. -/
def State.takeFrame (s : State) (type : Nat) : Option (ProexFrame × State) :=
  match s.pair.queue.find? (fun f => decide (f.type = type)) with
  | some f => some (f, s.setPair { s.pair with queue := s.pair.queue.erase f })
  | none => none

/-- PROEX_FRAME_SEND: a TOOTH frame starts, suspending a normal frame in progress but no urgent one; else, on a free link, the next normal
frame by priority (R597, R602). -/
def execProexFrameSend (t : Word) (s : State) : Out :=
  let s := s.at t
  .next (if ¬ s.proexTx then s
    else match s.pair.teeth with
    | f :: l => if s.urgentRuns then s else (s.setPair { s.pair with teeth := l }).startUrgent f
    | [] =>
      if ¬ s.linkFree then s
      else if s.pair.beatDue then
        let s := s.setPair { s.pair with beatDue := false, sent := (t :: s.pair.sent).take 4 }
        s.startNormal { type := 2, payload := s.beatPayload }
      else match s.takeFrame 3, s.takeFrame 4, s.takeFrame 5 with
        | some (f, s), _, _ => s.startNormal f
        | none, some (f, s), _ => s.startNormal f
        | none, none, some (f, s) => s.startNormal f
        | none, none, none => s)

/-- The body of COUNTERS (1) or EXTREMES (2) as the accumulator holds it. -/
def State.recordBody (s : State) (type : Nat) : List Word := (List.range (if type = 1 then 20 else 32)).map (s.accGet type 0)

/-- The words of a series (Table 13.6); a commit before the first full one since the load sends what the accumulators hold (log entry
169). -/
def State.seriesWords (s : State) (id : Nat) : List Word :=
  let n := s.primary
  match id with
  | 1 => s.workRead (sigBase n (s.sigBank n)) (s.posn n)
  | 2 => s.workRead 0x1000 (s.phases n)
  | 3 => if s.pair.cntBody = [] then s.recordBody 1 else s.pair.cntBody
  | _ => if s.pair.extBody = [] then s.recordBody 2 else s.pair.extBody

/-- Queues the BLOCK frames of a series, eight words each, the last filled with 0 (R611, Table 13.3). -/
def State.queueSeries (s : State) (id : Nat) : State :=
  let ws := s.seriesWords id
  (List.range ((ws.length + 7) / 8)).foldl (fun s k =>
    let w8 := (List.range 8).map (fun i => ws.getD (8 * k + i) 0)
    s.proexQueue 5 ([id, 0] ++ beBytes 2 (8 * k) ++ wordBytes w8)) s

/-- BLOCK_SERIES_DUE: series `id` + 1 falls due: after its event, or by its period (Table 13.6). -/
def execBlockSeriesDue (t : Word) (id : Fin 4) (s : State) : Out :=
  let s := s.at t
  let n := id.val + 1
  let asked := s.pair.blockDue.contains n
  let timed := (n = 1 ∧ 10000 * ms ≤ elapsed s.pair.sigAt t)
    ∨ (n = 2 ∧ s.is (Reg.WFT_CLST_FP_VALID 0) ∧ 1000 * ms ≤ elapsed s.pair.fpAt t)
  .next (if s.proexTx ∧ (asked = true ∨ timed) then
    let k := s.pair
    (s.setPair { k with
      blockDue := k.blockDue.filter (fun i => decide (i ≠ n))
      sigAt := if n = 1 then t else k.sigAt
      fpAt := if n = 2 then t else k.fpAt }).queueSeries n
  else s)

/-- PRX_CNT_CLR clears PRX_CNT0, PRX_CNT1, PRX_DIFF.MAXABS and PRX_PEVSTAT.LOST; what this very instant counts stays. -/
def State.prxClear (s : State) : State :=
  (s.clearCounts [Reg.PRX_CNT0_HCRCERR, Reg.PRX_CNT0_CODEERR, Reg.PRX_CNT0_SEQGAP, Reg.PRX_CNT1_LOSSES, Reg.PRX_CNT1_SOFTS,
    Reg.PRX_CNT1_HARDS, Reg.PRX_PEVSTAT_LOST]).clearMax Reg.PRX_DIFF_MAXABS

/-- PRX_CNT_CLR. -/
def execPrxCntClr (t : Word) (s : State) : Out :=
  let s := s.at t
  .next (if s.gone Reg.PRX_CNT_CLR_addr then s.wrej else s.prxClear)

end Sys2Proof.Machine
end

