-- ==== Sys2Proof/Machine/Strand.lean ====
section
/-!
DEFINITION. The Strandline recorder (12_dma_and_strandline, R572 to R591): records and their validity, commits, the
histograms of timers, the recovery scan.
-/
namespace Sys2Proof.Machine

/-- The Strandline tile runs. -/
def State.strandOn (s : State) : Bool := s.hasTile 0x0F 0

/-- LEN of a TYPE, and how many KEYs it has; 0 for no row (Table 12.8). -/
def recLen (type : Nat) : Nat := [0, 20, 32, 256, 64, 384, 48, 288, 513].getD type 0
def recKeys (type : Nat) : Nat := [0, 1, 1, 1, 12, 1, 1, 1, 2].getD type 0

/-- The slots that a record of TYPE takes (Table 12.8). -/
def recSlots (type : Nat) : Nat := (recLen type + 3 + 15) / 16

/-- The records of a full commit, in order (Table 12.8, R586). -/
def fullList : List (Nat × Nat) :=
  [(7, 0), (2, 0), (1, 0)] ++ (List.range 12).map (fun b => (4, b)) ++ [(3, 0), (5, 0), (6, 0)]

/-- The MARK word that a SEQ requires (Table 12.7). -/
def markWord (seq : Nat) : Word := BitVec.ofNat 48 ((2 ^ 32 - 1 - seq % 2 ^ 32) * 65536 + 0xC3A5)

/-- The words of a record in ascending order, MARK last (Table 12.7). -/
def State.recordWords (s : State) (type key : Nat) : List Word :=
  let seq := s.get Reg.REC_SEQ_NEXT
  [BitVec.ofNat 48 (type * 2 ^ 40 + 2 ^ 32 + recLen type * 2 ^ 16 + key), BitVec.ofNat 48 (seq * 65536)]
    ++ (List.range (recLen type)).map (s.accGet type key) ++ [markWord seq]

/-- The writes of a record that begins at `slot`, in order: 0 to MARK's position, then every word (R586). -/
def RecJob.writes (j : RecJob) : List (Nat × Word) :=
  let a := 16 * j.slot
  (a + (j.words.length - 1), 0) :: j.words.zipIdx.map (fun (w, k) => (a + k, w))

/-- Performs the first `n` writes of a record. -/
def State.recordWrite (s : State) (j : RecJob) (n : Nat) : State :=
  (j.writes.take n).foldl (fun s (a, w) => s.recSet a w) s

/-- The time that a record takes: 2 µs a write (R586). -/
def RecJob.time (j : RecJob) : Nat := (j.words.length + 1) * (2 * us)

/-- Starts the next record of the commit at `t`; its SEQ, STAMP and body are those of this instant (R586, R587; log entry 146). -/
def State.startRecord (s : State) (t : Word) : State :=
  match s.strand.todo with
  | [] => s
  | (type, key) :: rest =>
    let w := s.get Reg.REC_STAT_WPTR
    let slot := if 65535 < 16 * w + recLen type + 2 then 0 else w
    { s with strand := { s.strand with
        todo := rest, cur := some { type, key, slot, words := s.recordWords type key, start := t } } }

/-! ### Validity of records (R573, R574) -/

/-- A record as the scan finds it at a slot: TYPE, KEY, slot, SEQ. -/
structure Found where
  type : Nat
  key : Nat
  slot : Nat
  seq : Nat
deriving DecidableEq, Repr

/-- Word 0 of the record at `slot` passes the first three tests of R573. -/
def State.headerOk (s : State) (slot : Nat) : Bool :=
  let w := (s.recGet (16 * slot)).toNat
  let type := bitsOf w 40 8
  decide (bitsOf w 32 8 = 1 ∧ 0 < recLen type ∧ bitsOf w 16 16 = recLen type ∧ bitsOf w 0 16 < recKeys type
    ∧ 16 * slot + recLen type + 2 ≤ 65535)

/-- The record at `slot` and whether its MARK is right (R573). -/
def State.foundAt (s : State) (slot : Nat) : Found × Bool :=
  let w := (s.recGet (16 * slot)).toNat
  let type := bitsOf w 40 8
  let seq := bitsOf (s.recGet (16 * slot + 1)).toNat 16 32
  ({ type, key := bitsOf w 0 16, slot, seq }, decide (s.recGet (16 * slot + recLen type + 2) = markWord seq))

/-- `a` is newer than `b` (R574). -/
def newer (a b : Found) : Bool := decide (0 < signed 32 ((a.seq + 2 ^ 32 - b.seq) % 2 ^ 32))

/-- The newest of some records. -/
def newestOf (l : List Found) : Option Found :=
  l.foldl (fun w f => match w with
    | none => some f
    | some v => if newer f v then some f else some v) none

/-- The records that the scan finds, and whether each one's MARK is right (R573). -/
def State.scanned (s : State) : List (Found × Bool) := ((List.range 4096).filter s.headerOk).map s.foundAt

/-- The valid records. -/
def State.validRecords (s : State) : List Found := (s.scanned.filter (·.2)).map (·.1)

/-- The current copy of a TYPE and KEY: the newest valid record of it (R574). -/
def State.currentCopy (s : State) (type key : Nat) : Option Found :=
  newestOf (s.validRecords.filter (fun f => decide (f.type = type ∧ f.key = key)))

/-- The first slots of the current SIGNATURE records (R574). -/
def State.signatureSlots (s : State) : Vector (Option Nat) 2 :=
  Vector.ofFn (fun (i : Fin 2) => (s.currentCopy 8 i.val).map (·.slot))

/-! ### Requests (R584, R585) -/

/-- A full commit is requested; during a commit PENDING is set (R585). -/
def State.requestCommit (s : State) : State :=
  let s := { s with strand := { s.strand with want := true } }
  if s.is Reg.REC_STAT_BUSY then s.set Reg.REC_STAT_PENDING 1 else s

/-- An Ebb warning requests a commit unless a full commit runs (R585) or READY is not set (R637). -/
def State.ebbCommit (s : State) : State :=
  if s.is Reg.REC_STAT_BUSY ∧ s.strand.full then s
  else s.requestCommit

/-- STRANDLINE_COMMIT: the host writes COMMIT to REC_CMD. -/
def State.commitCommand (s : State) (cmd : Nat) : State := if cmd = 1 ∧ s.strandOn then s.requestCommit else s

/-- STRANDLINE_COMMIT. -/
def execStrandlineCommit (t : Word) (s : State) : Out :=
  let s := s.at t
  .next (if s.gone Reg.REC_CMD_addr then s.wrej else s.commitCommand 1)

/-- An event of `src` and `code` meets the enabled REC_TRIGn (R584). -/
def State.recTriggers (s : State) (src code : Nat) : State :=
  if ¬ s.strandOn then s
  else (List.range 8).foldl (fun s n =>
    if s.is (Reg.REC_TRIG_EN n) ∧ s.get (Reg.REC_TRIG_SRC n) = src ∧ s.get (Reg.REC_TRIG_CODE n) = code then
      if (vget s.strand.trigAt n).all (fun a => decide (s.get Reg.REC_CTRL_TRIG_MIN * (1000 * ms) ≤ elapsed a s.now)) then
        ({ s with strand := { s.strand with trigAt := vset s.strand.trigAt n (some s.now) } }).requestCommit
      else s.inc Reg.REC_CNT_SUPP
    else s) s

/-- RUNNING time toward COMMIT_PER is counted up to now (R584). -/
def State.countRunning (s : State) : State :=
  let add := if s.running then elapsed s.strand.counted s.now else 0
  { s with strand := { s.strand with counted := s.now, period := s.strand.period + add } }

/-- COMMIT_TIMER: COMMIT_PER of RUNNING time has passed (R584). -/
def execCommitTimer (t : Word) (s : State) : Out :=
  let s := (s.at t).countRunning
  let per := s.get Reg.REC_CTRL_COMMIT_PER * (10000 * ms)
  .next (if s.strandOn ∧ per ≤ s.strand.period then
    ({ s with strand := { s.strand with period := s.strand.period - per } }).requestCommit else s)

/-! ### Commits (R585 to R589) -/

/-- The current SIGNATURE records that a full commit rewrites first: those whose first slot lies in the window (R588). -/
def State.rewrites (s : State) : List (Nat × Nat) :=
  ([0, 1].filter (fun n => match vget s.strand.sigSlot n with
    | some a => decide ((a + 4096 - s.get Reg.REC_STAT_WPTR) % 4096 < 256)
    | none => false)).map (fun n => (8, n))

/-- FULL_COMMIT: a requested commit starts, once none runs and the recovery is done (R584 to R588). -/
def execFullCommit (t : Word) (s : State) : Out :=
  let s := s.at t
  .next (if ¬ s.strandOn ∨ ¬ s.is Reg.REC_STAT_READY ∨ s.is Reg.REC_STAT_BUSY ∨ (s.strand.want = false ∧ s.recJobs = []) then s
    else
      let pre := if s.strand.want then s.rewrites else []
      let singles := ((s.recJobs.map Prod.snd).filter (fun j => !pre.contains j)).eraseDups
      let todo := pre ++ singles ++ (if s.strand.want then fullList else [])
      let first := s.get Reg.REC_SEQ_NEXT + (if s.strand.want then pre.length else 0)
      let s := { s with
        strand := { s.strand with want := false, full := s.strand.want, todo, first := first % 2 ^ 32 }
        recJobs := [] }
      (((s.set Reg.REC_STAT_BUSY 1).set Reg.REC_STAT_PENDING 0).counter 7).startRecord t)

/-- The commit ends (R589). -/
def State.commitEnd (s : State) : State :=
  let s := ((s.set Reg.REC_STAT_BUSY 0).set Reg.REC_STAT_PENDING 0).incMod Reg.REC_CNT_COMMITS
  let s := { s with pair := { s.pair with blockDue := s.pair.blockDue ++ [3, 4] } }
  s.report 0x0F 0 1 s.strand.first

/-- RECORD_WRITE_DONE: the words and MARK of the current record are written, which may have made it the current copy or overwritten one; SEQ
and the pointer move on, and the next record starts or the commit ends (R574, R586, R587, R589). -/
def execRecordWriteDone (t : Word) (s : State) : Out :=
  let s := s.at t
  .next (match s.strand.cur with
    | none => s
    | some j =>
      if elapsed j.start t < j.time then s
      else
        let stop := addW j.start j.time
        let s := s.recordWrite j (j.words.length + 1)
        let s := (s.incMod Reg.REC_SEQ_NEXT).set Reg.REC_STAT_WPTR ((j.slot + recSlots j.type) % 4096)
        let s := { s with strand := { s.strand with
          cur := none
          sigSlot := s.signatureSlots } }
        let body := (j.words.drop 2).take (recLen j.type)
        let s := { s with pair := { s.pair with
          cntBody := if j.type = 1 then body else s.pair.cntBody
          extBody := if j.type = 2 then body else s.pair.extBody } }
        if s.strand.todo = [] then s.commitEnd else s.startRecord stop)

/-- A word of record memory as it reads now: of the record being written, the writes done by then stand (R586). -/
def State.recView (s : State) (a : Nat) : Word :=
  match s.strand.cur with
  | none => s.recGet a
  | some j => (s.recordWrite j (elapsed j.start s.now / (2 * us))).recGet a

/-- A reset stops a commit where it is: the writes done by then stand (R639, Table 12.12). -/
def State.tornCommit (s : State) : State :=
  match s.strand.cur with
  | none => s
  | some j => s.recordWrite j (elapsed j.start s.now / (2 * us))

/-! ### Histograms of timers (R576, R578) -/

/-- The temperature bin of COIL_TEMP from T in 1/16 °C (Table 12.9). -/
def tempBin (t16 : Int) : Nat :=
  ([60, 80, 100, 120, 140, 150, 165].filter (fun (x : Int) => decide (16 * x ≤ t16))).length

/-- COIL_TEMP_BIN: every 10 ms each site whose model is VALID is counted (Table 12.9). -/
def execCoilTempBin (t : Word) (s : State) : Out :=
  let s := s.at t
  .next (if s.strandOn ∧ 10 * ms ≤ elapsed s.strand.coilAt t then
    let s := { s with strand := { s.strand with coilAt := t } }
    (List.range 48).foldl (fun s x =>
      let b := x / 4
      let c := x % 4
      if s.is (Reg.BNK_THM_VALID b c) then s.accInc 5 0 (8 * x + tempBin (s.getI (Reg.BNK_THM_TEMP b c))) else s) s
  else s)

/-- BOOST_BIN: every 1 ms each ready controller in MODE BOOST is counted (Table 12.9). -/
def execBoostBin (t : Word) (s : State) : Out :=
  let s := s.at t
  .next (if s.strandOn ∧ ms ≤ elapsed s.strand.boostAt t then
    let s := { s with strand := { s.strand with boostAt := t } }
    (List.range 3).foldl (fun s g =>
      if s.get (Reg.BST_CFG_MODE g) = 1 ∧ s.is (Reg.BST_STAT_READY g) then
        let v : Int := ((s.get (Reg.BST_STAT_VRAIL g) : Int) - 10 * s.get (Reg.BST_CFG_VSET g)) / 10 + 8
        s.accInc 6 0 (16 * g + (clampI 0 15 v).toNat)
      else s) s
  else s)

/-- RUN_SECONDS: a second of running in PHASED, LIMP or BORROWED is full (R578). -/
def execRunSeconds (t : Word) (s : State) : Out :=
  let s := (s.at t).countSeconds
  .next (if 1000 * ms ≤ s.strand.secs then
    ({ s with strand := { s.strand with secs := s.strand.secs - 1000 * ms } }).counter 1 else s)

/-! ### Recovery (R572 to R574, R590) -/

/-- Loads an accumulator from its current copy (R590). -/
def State.loadCopy (s : State) (f : Found) : State :=
  (List.range (recLen f.type)).foldl (fun s k => s.accSet f.type f.key k (s.recGet (16 * f.slot + 2 + k))) s

/-- The pairs of TYPE and KEY of Table 12.8. -/
def recKinds : List (Nat × Nat) := fullList ++ [(8, 0), (8, 1)]

/-- The whole recovery (R590): current copies, accumulators, pointer, next SEQ, TORN. -/
def State.recovery (s : State) : State :=
  let valid := s.validRecords
  let torn := (s.scanned.filter (fun f => !f.2)).length
  let current := recKinds.filterMap (fun (ty, k) => s.currentCopy ty k)
  let slots := s.signatureSlots
  let s := current.foldl State.loadCopy { s with acc := [] }
  let s := { s with strand := { s.strand with sigSlot := slots } }
  let s := match newestOf valid with
    | some f => (s.set Reg.REC_STAT_WPTR ((f.slot + recSlots f.type) % 4096)).set Reg.REC_SEQ_NEXT (f.seq + 1)
    | none => (s.set Reg.REC_STAT_WPTR 0).set Reg.REC_SEQ_NEXT 1
  s.set Reg.REC_STAT_TORN (satU 12 torn)

/-- What COUNTERS and EXTREMES took before READY, as `held` shows it, joins what the recovery has loaded (R578, R579, R591; log entry 80). -/
def State.joinHeld (s held : State) : State :=
  let s := (List.range 8).foldl (fun s w => s.accAdd 1 0 w (held.accGet 1 0 w).toNat) s
  let s := (List.range 12).foldl (fun s b => [true, false].foldl (fun s up =>
    s.halfAdd b up ((bankHalf up).get (held.accGet 1 0 (8 + b)))) s) s
  (List.range 8).foldl (fun s e =>
    let w := (held.accGet 2 0 (2 * e)).toNat
    let idx := bitsOf w 8 8
    let sgn := decide (e = 4 ∨ e = 7)
    if idx = 0xFF then s else s.extreme e idx (if sgn then signed 32 (bitsOf w 16 32) else bitsOf w 16 32) (decide (e = 6)) sgn) s

/-- STRANDLINE_READY: the recovery scan ends; what came before READY is counted then, Ebb warnings and Low-water resets too (R578, R590,
R591, R637). -/
def execStrandlineReady (t : Word) (s : State) : Out :=
  let s := s.at t
  .next (if s.is Reg.REC_STAT_READY ∨ s.power ≠ .up then s
    else
      let s := (s.recovery.joinHeld s).set Reg.REC_STAT_READY 1
      let s := (s.accAdd 1 0 6 s.strand.ebbs).accAdd 1 0 4 s.strand.lwrs
      { s with strand := { s.strand with ebbs := 0, lwrs := 0 } })

/-- REC_CNT_CLR: clears SUPP and EVICT; what this very instant counts stays. -/
def State.recClear (s : State) : State := s.clearCounts [Reg.REC_CNT_SUPP, Reg.REC_CNT_EVICT]

/-- REC_CNT_CLR. -/
def execRecCntClr (t : Word) (s : State) : Out :=
  let s := s.at t
  .next (if s.gone Reg.REC_CNT_CLR_addr then s.wrej else s.recClear)

end Sys2Proof.Machine
end

