-- ==== Sys2Proof/Machine/Loom.lean ====
section
/-!
DEFINITION. The Loom starts, stops, and broadcasts its tooth updates (02_weave_configuration, R98 to R103; 01_loom_fabric,
R50; 10_identity_and_calibration, R506, R507; 04_angle_prediction, R217, R218).
-/
namespace Sys2Proof.Machine

/-- Standstill (R98). -/
def State.standstill (s : State) : Bool :=
  [0, 1].all (fun n => !s.hasTile 1 n || decide (s.sync n = ssOff ∨ s.sync n = ssStall))
    && s.banks.toList.all (fun k => (k.idle || k.inCont) && k.ovl.isNone)

/-! ### Start -/

/-- Word `k` of the body of the record that starts in a slot, as record memory holds it. -/
def State.sigWord (s : State) (f : Found) (k : Nat) : Nat := (s.recView (16 * f.slot + 2 + k)).toNat

/-- The record is of this wheel and engine (R218). -/
def State.sigFits (s : State) (n : Nat) (f : Found) : Bool :=
  decide (bitsOf (s.sigWord f 0) 37 11 = s.posn n ∧ bitsOf (s.sigWord f 0) 0 32 = s.weave.descId)

/-- Entry `p` of the record's table. -/
def State.sigItem (s : State) (f : Found) (p : Nat) : Word :=
  BitVec.ofNat 48 (bitsOf (s.sigWord f (p / 2 + 1)) (if p % 2 = 0 then 24 else 0) 24)

/-- Region 0 takes the record's table, or 0. -/
def State.sigLoad (s : State) (n : Nat) (f : Found) : State :=
  (List.range 1024).foldl (fun x p => x.workSet (sigBase n 0 + p) (if s.sigFits n f then s.sigItem f p else 0)) s

/-- Region 0 of crank Warp `n` and its BANK after the restoration from the newest valid record, as record memory holds it now: without one
the region stays as it is, and a record of another wheel or engine leaves it at 0 (R217, R218). What the learning region had kept, and a swap
that was due, are lost when BANK changes. -/
def State.restoreSignature (s : State) (n : Nat) : State :=
  let s := if s.sigBank n = 0 then s else s.setWp n { s.wp n with kept := false, swapDue := false }
  let s := s.set (if n = 0 then Reg.WFT_CLST_BANK0 0 else Reg.WFT_CLST_BANK1 0) 0
  match (if s.strandOn then s.tornCommit.currentCopy 8 n else none) with
  | none => s
  | some f =>
    let x := s.sigLoad n f
    { x with learn := x.learn.mark (2 * n) (s.sigFits n f) }

/-- R217 at a Loom start. -/
def State.restoreSignatures (s : State) : State :=
  if s.is (Reg.WFT_CTRL_SIG_RESTORE 0) then
    let s := ([0, 1].filter (fun n => s.hasTile 1 n)).foldl State.restoreSignature s
    let s := { s with pair := { s.pair with blockDue := s.pair.blockDue ++ [1] } }
    s.showSigValid
  else s

/-- CD_F, and the DRIFT it gives, of the actuator of cylinder `k` of tile `q` (R470, R471). -/
def State.restoreDrift (s : State) (q k : Nat) : State :=
  let x := 4 * s.get (Reg.QM_CYL_BANK q k) + s.get (Reg.QM_CYL_CH q k)
  let cd0 := s.cyl k (2 + 2 * q) cyCd0
  let f : Nat := match (if s.siteValid x then s.siteDrift x else none) with
    | some i => (s.accGet 7 0 (3 * i + 1)).toNat
    | none => cd0 * 65536
  let lim := (s.get (Reg.QM_DR_DRIFT_MAX q) * 160 : Int)
  let d := clampI (-lim) lim (openRound ((f : Rat) / 65536 - cd0))
  (s.setCyl k (3 + 2 * q) cyCdF f).setCyl k 6 (cyDrift q) (unsign 24 d)

/-- Warp `n` with nothing measured, whatever it did before; a cam Warp is in NONE (R133, R178). A learning region that was kept
stays so (Table 4.8), and a swap that is due stays due (R224; log entry 126). -/
def State.blankWarp (s : State) (n : Nat) : State :=
  let s := s.setWp n { kept := (s.wp n).kept, swapDue := (s.wp n).swapDue }
  let s := s.set (Reg.WRP_SYNC_TOOTH n) 0xFFF
  if n < 2 then s else s.set (Reg.WRP_SYNC_CAMST n) 0

/-- Warp `n` starts: OFF to STALL, INIT 1, nothing accepted yet; REV_PEND keeps its value (R101, R131, R133). A cam Warp shows
STALL as well, from here to the Loom stop (log entry 130). -/
def State.startWarp (s : State) (n : Nat) : State :=
  let s := (s.blankWarp n).stallReset n
  let s := s.set (Reg.WRP_SYNC_INIT n) 1
  if n < 2 then s.goState n ssStall s.now else s.set (Reg.WRP_SYNC_STATE n) ssStall

/-- T and VALID of the thermal models of bank `b`, and LEVEL where the model is off (R366, R367). -/
def State.thermalReset (s : State) (b : Nat) : State :=
  let s := (List.range 4).foldl (fun s c =>
    ((s.setI (Reg.BNK_THM_TEMP b c) (16 * s.tAmb b)).set (Reg.BNK_THM_VALID b c) 0).thermalOff b c) s
  s.setBk b { s.bk b with thermal := Vector.replicate 4 { ({} : Thermal) with last := s.now } }

/-- SVC_CYCLE, demand validity and trims at a Loom start (R428, R452, R455). -/
def State.startServices (s : State) : State :=
  let s := (s.set Reg.SVC_CYCLE_CYCLE 0).set Reg.SVC_DEM_VALID 0
  let s := { s with
    svc := { sinceSwap := s.svc.sinceSwap }, trimDue := [], closures := [], cmbSig := [], maps := Vector.replicate 48 {}, rail := {}, ovs := {}
    combust := s.combust.map (fun (k : Combust) => { ({} : Combust) with merge := k.merge }) }
  let s := (List.range 24).foldl (fun s k => (s.setCyl k 0 cyTT 0).setCyl k 1 cyBal 0) s
  s.set Reg.OVS_STAT_SPEED 0

/-- The Loom starts (R101, R217, R318, R366, R452, R458, R471, R506, R578, R619). -/
def State.loomStart (s : State) : State :=
  let s := s.form
  let s := [0, 1].foldl (fun s q => (List.range s.weave.cyl).foldl (fun s k =>
    if s.hasTile 9 q then s.restoreDrift q k else s) s) s
  let s := s.tableCheck.countRunning.countSeconds
  let s := (s.set Reg.SYS_STATUS_LOOM_RUN 1).set Reg.WVE_STATUS_STATE stRunning
  let s := { s with
    weave := { s.weave with runReq := false }
    selv := s.selv.map (fun (k : SelvLine) => { k with rollAt := s.now })
    strand := { s.strand with coilAt := s.now, boostAt := s.now }
    pair := { s.pair with key := 0 }
    wefts := s.wefts.map Weft.blank }
  let s := s.startServices
  let s := ((List.range 6).filter (fun n => s.hasTile 1 n)).foldl State.startWarp s
  let s := s.restoreSignatures
  let s := ((List.range 64).filter (fun n => s.hasTile 3 n)).foldl State.shtLoomStart s
  let s := ((List.range 12).filter (fun b => s.hasTile 4 b)).foldl (fun s b =>
    let s := s.thermalReset b
    let s := s.setBk b { s.bk b with period := s.now, tested := false, retest := false }
    if s.is (Reg.BNK_CONT_EN b) then s.contEnable b else s) s
  let s := s.counter 2
  (s.setDiv (if s.pairMember then dvSolo else dvAgree)).divLink.cutWatch.checkReady

/-- A requested start may take place: LOADED, no enumeration, READY where the start uses what Strandline holds, Headland not in HALT, the
weave store not being programmed or erased, no standby under way (R101, R102, R507, R591, R666; log entries 162, 168). -/
def State.startReady (s : State) : Bool :=
  s.weave.runReq && decide (s.wstate = stLoaded ∧ s.enumStart = none ∧ s.get Reg.SAF_STAT_STATE ≠ 4
    ∧ s.weave.prog = none ∧ s.weave.erasing = []) && !s.supply.standby && (!s.strandOn || s.is Reg.REC_STAT_READY)

/-- LOOM_START. -/
def execLoomStart (t : Word) (s : State) : Out :=
  let s := s.at t
  .next (if s.startReady then s.loomStart else s)

/-! ### Stop -/

/-- A bank at the Loom stop: gates off, nothing granted, committed or recovering; a pulse that was driving or recovering gets its
closure result (R363); latches and an early test that is due stay. -/
def State.bankOff (s : State) (b : Nat) : State :=
  let s := s.endTail b 3
  let k := s.bk b
  let s := match k.owner with
    | some c => if k.pulse.isSome then (s.drive b 0 c s.now).closureResult b c 3 else s.drive b 0 c s.now
    | none => s
  let s := match k.ovl with
    | some (c, _, true) => s.closureResult b c 3
    | _ => s
  let k := s.bk b
  let s := s.setBk b { k with
    reqs := [], owner := none, pulse := none, ovl := none, contDue := false, heddle := { gateAt := k.heddle.gateAt }, gates := {}
    chop := {}, tail := none, test := none, selftest := none, before := none, idleAt := none }
  s.bnkShow b

/-- Warp `n` at the Loom stop: OFF. -/
def State.stopWarp (s : State) (n : Nat) : State :=
  let s := if n < 2 then s.goState n ssOff s.now else s.set (Reg.WRP_SYNC_STATE n) ssOff
  let s := if n < 2 then (s.set (Reg.WRP_SYNC_BG n) 0).set (Reg.WRP_SYNC_SRC n) n else s
  s.blankWarp n

/-- The divergence state at a Loom stop: what LINK and CHECK bring about in SOLO follows at once (Table 13.8). -/
def State.stopDiv (s : State) : State :=
  if ¬ s.pairMember then s.setDiv dvAgree
  else if s.div = dvBothStop then s.divClear
  else (s.setDiv dvSolo).divLink

/-- The Loom stops (R100, R229, R272, R322, R324): entries cancelled, gates and boost off, regions 0 to 6 halted. The divergence state takes
the stop before what the Warps' stop brings about (R625); the primary crank stays the one it was (log entry 161). -/
def State.loomStop (s : State) : State :=
  if ¬ s.running then s
  else
    let s := s.stopDiv.countRunning.countSeconds.learnAbort 7
    let s := ((List.range 64).filter (fun n => s.hasTile 3 n)).foldl State.shtLoseAll s
    let s := ((List.range 12).filter (fun b => s.hasTile 4 b)).foldl State.bankOff s
    let s := (List.range 3).foldl (fun s g => if s.hasTile 5 g then s.boostOff g else s) s
    let s := ((List.range 6).filter (fun n => s.hasTile 1 n)).foldl State.stopWarp s
    let s := (s.set Reg.SYS_STATUS_LOOM_RUN 0).set Reg.WVE_STATUS_STATE stLoaded
    let s := { s with
      weave := { s.weave with runReq := false }
      wefts := s.wefts.map Weft.blank
      shTok := Vector.replicate 64 {}, bkTok := Vector.replicate 12 {}, seqTok := Vector.replicate 16 []
      seqs := s.seqs.map (fun (q : Sequencer) => { timer := q.timer }), cmbSig := [], combust := s.combust.map (fun (k : Combust) => { k with run := none, pend := none })
      trimDue := [], closures := [] }
    let s := (List.range 16).foldl (fun s k => if s.hasTile 6 k then s.seqShow k else s) s
    s.angleGone.clearProfile

/-! ### The tooth update -/

/-- Every consumer has acknowledged the previous update (R50). -/
def State.allAcknowledged (s : State) : Bool :=
  (List.range 64).all (fun n => !s.hasTile 3 n || (s.sh n).upd.isNone)
    && (List.range 2).all (fun p => !s.hasTile 0x0D p || (s.po p).upd.isNone)
    && (!s.hasTile 0x0C 0 || s.ovs.upd.isNone)

/-- Gives an update to every consumer (R188, R189, R428, Table 11.11). -/
def State.broadcast (s : State) (n : Nat) (u : Update) : State :=
  let s := (List.range 64).foldl (fun s k => if s.hasTile 3 k then s.setSh k { s.sh k with upd := some u } else s) s
  let s := (List.range 2).foldl (fun s p => if s.hasTile 0x0D p then s.setPo p { s.po p with upd := some u } else s) s
  let s := if s.hasTile 0x0C 0 then { s with ovs := { s.ovs with upd := some u } } else s
  let s := if n = 0 ∧ u.src < 2 then s.proexTooth u else s
  (s.svcUpdate u).streamAll 4 u.words u.tidx

/-- TOOTH_UPDATE_BROADCAST: the delivering Weft issues its next update (R50, R188, R190, R698). -/
def execToothUpdateBroadcast (t : Word) (n : Fin 2) (s : State) : Out :=
  let s := s.at t
  let w := s.wf n
  .next (match w.formed with
    | [] => s
    | u :: rest =>
      if s.running ∧ s.delivering = n.val ∧ s.allAcknowledged then
        let s := s.setWf n { w with
          formed := rest, last := some u, prev := if w.restarted then none else w.last, restarted := false, held := false
          issued := some u, issuedPrev := w.issued }
        let s := if u.step then s.inc (Reg.WFT_CNT_STEPS n) else s
        s.broadcast n u
      else s)

end Sys2Proof.Machine
end

