-- ==== Sys2Proof/Machine/Headland.lean ====
section
/-!
DEFINITION. Headland (14_supply_reset_safety, R663 to R677): causes and their reactions, the injection cut, SAFE_N, the
start self-test, the clock monitor and housekeeping.
-/
namespace Sys2Proof.Machine

/-! Headland states (Table 14.6) and reactions (Table 14.7; the codes of SAF_ACT). -/

abbrev hsStart : Nat := 0
abbrev hsRun : Nat := 1
abbrev hsCut : Nat := 2
abbrev hsSafe : Nat := 3
abbrev hsHalt : Nat := 4

/-- SAF_STAT.STATE. -/
def State.hs (s : State) : Nat := s.get Reg.SAF_STAT_STATE

/-- The reaction to a cause: 0 REPORT, 1 CUT, 2 SAFE, 3 HALT (Table 14.7). -/
def State.reaction (s : State) (code : Nat) : Nat :=
  match code with
  | 1 | 2 | 3 | 23 => 3
  | 5 | 6 | 8 | 9 | 10 | 14 | 24 => 2
  | 4 => s.get Reg.SAF_ACT_ACT_SLACK
  | 18 => s.get Reg.SAF_ACT_ACT_OVP
  | 19 => s.get Reg.SAF_ACT_ACT_WM
  | 22 => s.get Reg.SAF_ACT_ACT_SAFEIN
  | _ => 0

/-! ### Changes of state (R663 to R666, R670, R675) -/

/-- The level that SAFE_N is driven to (R675). -/
def State.safeNDrive (s : State) : Bool := decide (s.hs = hsRun ∨ s.hs = hsCut) && !s.supply.standby

/-- The counters of an entry (R670): SAF_CNT, and COUNTERS word 5 for SAFE and HALT. -/
def State.headCount (s : State) (new : Nat) : State :=
  match new with
  | 2 => s.inc Reg.SAF_CNT_CUTS
  | 3 => (s.inc Reg.SAF_CNT_SAFES).counter 5
  | 4 => (s.inc Reg.SAF_CNT_HALTS).counter 5
  | _ => s

/-- The injection cut reaches every bank (R306, R664). -/
def State.cutBanks (s : State) : State :=
  ((List.range 12).filter (fun b => s.hasTile 4 b)).foldl (fun s b => s.bankCut b false) s

/-- Headland enters state `new` for cause `code`, 0 for none: the pin SAFE_N follows a drive that changes (R676), leaving RUN starts the injection cut, HALT
stops the Loom. -/
def State.headGo (s : State) (new code : Nat) : State :=
  let old := s.hs
  let drive := s.safeNDrive
  let s := s.set Reg.SAF_STAT_STATE new
  let s := if s.safeNDrive = drive then s else s.flag Reg.SAF_STAT_SAFE_N_LVL s.safeNDrive
  let s := if new = hsRun then s else s.set Reg.SAF_STAT_FIRST code
  let s := { s with saf := { s.saf with movedAt := some s.now } }
  let s := (s.headCount new).report 0x18 0 1 (old * 2 ^ 37 + new * 2 ^ 34 + code * 2 ^ 29) (some s.now)
  let s := if old = hsRun then s.cutBanks else s
  if new = hsHalt then s.loomStop else s

/-- Headland enters RUN, and leaves it at once for a SAFE cause of START or a CUT cause that is still in force (R648, R663,
R668; log entry 58). -/
def State.headRun (s : State) : State :=
  let s := s.headGo hsRun 0
  let s := { s with saf := { s.saf with runSeen := true } }
  match s.saf.startCause, s.saf.cuts with
  | some c, _ => { s with saf := { s.saf with startCause := none } }.headGo hsSafe c
  | none, (c, _, _) :: _ => s.headGo hsCut c
  | none, [] => s.checkReady

/-- A cause is recorded (R667), and stays in force when its reaction is CUT (R668) or its condition matters (R701). -/
def State.headRecord (s : State) (code idx : Nat) : State :=
  let s := (s.stickBit Reg.SAF_CAUSE_SEEN (code - 1)).set Reg.SAF_STAT_LAST code
  let r := s.reaction code
  let e := if s.cutCond code idx then none else some s.now
  let s := if r = 1 then
      { s with saf := { s.saf with
        cuts := s.saf.cuts.filter (fun (c, i, _) => decide ((c, i) ≠ (code, idx))) ++ [(code, idx, e)] } }
    else s
  let s := if 2 ≤ r then { s with saf := { s.saf with severeAt := some s.now } } else s
  if code = 5 then { s with saf := { s.saf with upset := true } }
  else if code = 6 then { s with saf := { s.saf with residual := idx :: s.saf.residual.filter (fun b => decide (b ≠ idx)) } }
  else s

/-- Whether the highest reaction `top` changes the state of Headland (Table 14.6); after a failed self-test it stays in START (R671). -/
def State.headMoves (s : State) (top : Nat) : Bool :=
  match top with
  | 3 => decide (s.hs ≠ hsHalt) && !s.is Reg.SAF_STAT_STFAIL
  | 2 => decide (s.hs = hsRun ∨ s.hs = hsCut)
  | 1 => decide (s.hs = hsRun)
  | _ => false

/-- The cause with the highest reaction, the first of equal ones. -/
def State.topCause (s : State) (cs : List (Nat × Nat)) : Option (Nat × Nat) :=
  cs.foldl (fun w c => match w with
    | none => some c
    | some v => if s.reaction v.1 < s.reaction c.1 then some c else some v) none

/-- The causes that Headland has detected take effect together (R667). -/
def State.headTake (s : State) : State :=
  let cs := s.causes
  let s := cs.foldl (fun s c => s.headRecord c.1 c.2) { s with causes := [] }
  match s.topCause cs with
  | none => s
  | some top =>
    let r := s.reaction top.1
    let moves := s.headMoves r
    let told := if moves then cs.erase top else cs
    let s := if moves then s.headGo (r + 1) top.1
      else if r = 2 ∧ s.hs = hsStart ∧ s.saf.startCause.isNone then
        { s with saf := { s.saf with startCause := some top.1 } }
      else s
    told.foldl (fun s c => s.report 0x18 c.2 2 (c.1 * 2 ^ 29) (some s.now)) s

/-- HEADLAND_CAUSE (R665 to R668, R670, R672). -/
def execHeadlandCause (t : Word) (s : State) : Out := .next ((s.at t).headTake)

/-- CUT causes whose condition ended CUT_HOLD ago lapse; without one, CUT returns to RUN (R668). -/
def State.cutLapse (s : State) : State :=
  let s := { s with saf := { s.saf with
    cuts := s.saf.cuts.filter (fun (_, _, e) => !e.any (fun a => decide (s.get Reg.SAF_ACT_CUT_HOLD * ms ≤ elapsed a s.now))) } }
  if s.hs == hsCut && s.saf.cuts.isEmpty then s.headRun else s

/-- CUT_HOLD_EXPIRY. -/
def execCutHoldExpiry (t : Word) (s : State) : Out := .next (s.at t).cutLapse

/-! ### RELEASE (R669, R701) -/

/-- A condition of Table 14.6a is present, of the banks and controllers that a cause has named. `above` has bit b set while the summed
current of bank b is at or above the threshold of R342. -/
def State.safeCondition (s : State) (above : Nat) : Bool :=
  s.saf.upset
    || (List.range 12).any (fun b => s.hasTile 4 b && (s.bk b).shortSupply)
    || s.saf.residual.any (fun b => s.hasTile 4 b && above.testBit b)
    || s.ovs.trip
    || (List.range 3).any (fun g => s.hasTile 5 g && s.is (Reg.BST_STAT_OV g) && (s.bst g).told)
    || decide (s.div = dvBothStop)
    || decide (2 ≤ s.saf.hot)
    || (decide (s.reaction 4 = 2) && s.cutCond 4 0)
    || (decide (s.reaction 18 = 2) && s.cutCond 18 0)
    || (decide (s.reaction 19 = 2) && (List.range 8).any (fun m => s.is (Reg.WM_CFG_ACT m) && s.cutCond 19 m))
    || (decide (s.reaction 22 = 2) && s.weave.pair && s.saf.safeInSeen && s.cutCond 22 0)

/-- The banks whose RESIDUAL current has fallen below the threshold are named no more (R701). -/
def State.residualGone (s : State) (above : Nat) : State :=
  { s with saf := { s.saf with residual := s.saf.residual.filter (fun b => above.testBit b) } }

/-- A write of 1 to SAF_CMD.RELEASE (R669). -/
def State.safeRelease (s : State) (above : Nat) : State :=
  let s := s.residualGone above
  if s.hs = hsSafe ∧ s.standstill = true ∧ ¬ s.is Reg.SAF_STAT_SAFE_N_LVL ∧ s.safeCondition above = false
      ∧ s.saf.severeAt ≠ some s.now ∧ s.causes.all (fun c => decide (s.reaction c.1 < 2)) = true then s.headRun
  else s.stick Reg.SAF_STAT_CMD_REJ 1

/-- A bus write of 1 to SAF_CMD.RELEASE, which tells nothing of the currents. -/
def State.releaseWrite (s : State) : State :=
  let f := s.free
  f.2.safeRelease (f.1.toNat % 4096)

/-- SAFE_RELEASE. -/
def execSafeRelease (t : Word) (above : Fin 4096) (s : State) : Out := .next ((s.at t).safeRelease above)

/-! ### Start self-test and entry to RUN (R671, Table 14.3) -/

/-- HEADLAND_SELFTEST_DONE: `fails` has the failed checks as ARG of Table 14.9 shows them (bit 4 stall to bit 0 supply
monitors). -/
def execHeadlandSelftestDone (t : Word) (fails : Fin 32) (s : State) : Out :=
  let s := s.at t
  .next (if s.power ≠ .up ∨ s.hs ≠ hsStart ∨ s.saf.tested ∨ s.is Reg.SAF_STAT_STFAIL then s
    else if fails.val = 0 then { s with saf := { s.saf with tested := true } }
    else ((s.headRecord 25 0).set Reg.SAF_STAT_STFAIL 1).report 0x18 0 8 fails (some t))

/-- START is left for RUN once the self-test has passed and the Loom runs (Table 14.6). -/
def State.runEntry (s : State) : State := if s.hs = hsStart ∧ s.saf.tested ∧ s.running then s.headRun else s

/-- HEADLAND_RUN_ENTRY. -/
def execHeadlandRunEntry (t : Word) (s : State) : Out := .next (s.at t).runEntry

/-! ### Monitors (R673, R674, R676, R677) -/

/-- A count deviates from `nominal` by 5 % or more. -/
def deviates (count nominal : Nat) : Bool := decide (nominal ≤ 20 * ((count : Int) - nominal).natAbs)

/-- CLOCK_MONITOR_WINDOW: the counts of TB and XO cycles in 50 µs of BRC; two deviating windows in a row are code 3
(R673). -/
def execClockMonitorWindow (t : Word) (tb xo : Nat) (s : State) : Out :=
  let s := s.at t
  let n := if deviates tb 10000 || deviates xo 1250 then s.saf.clockBad + 1 else 0
  .next (if s.power ≠ .up then s
    else
      let s := { s with saf := { s.saf with clockBad := n } }
      if n = 2 then s.cause 3 0 else s)

/-- HOUSEKEEPING_SAMPLE: VBAT [0.05 V] and die temperature [1/16 °C] (R364, R579, R674). -/
def execHousekeepingSample (t : Word) (vbat : Fin 4096) (tdie : Fin 65536) (s : State) : Out :=
  let s := s.at t
  .next (if s.power ≠ .up then s
    else
      let d := signed 16 tdie
      let s := (s.vbatMark vbat).set Reg.SAF_HK_TDIE tdie
      let s := if s.running then s.extreme 6 0 vbat true false else s
      let s := s.extreme 7 0 d false true
      let n := if 165 * 16 ≤ d then s.saf.hot + 1 else 0
      let s := { s with saf := { s.saf with hot := n } }
      if n = 2 then s.cause 24 0 else s)

/-- SAFE_N_MISMATCH: the readback of SAFE_N has differed from its drive for 10 µs (R676). -/
def execSafeNMismatch (t : Word) (s : State) : Out :=
  let s := s.at t
  .next (if s.power ≠ .up then s
    else (s.flag Reg.SAF_STAT_SAFE_N_LVL (!s.safeNDrive)).cause 23 0)

/-- SAFE_IN_CHANGE: the filtered level of SAFE_IN becomes `level` (R677). -/
def execSafeInChange (t : Word) (level : Bool) (s : State) : Out :=
  let s := s.at t
  .next (if s.power ≠ .up ∨ s.is Reg.SAF_STAT_SAFE_IN_LVL = level then s
    else
      let s := (s.flag Reg.SAF_STAT_SAFE_IN_LVL level).cutWatch
      if level then { s with saf := { s.saf with safeInSeen := true } }
      else if s.weave.pair ∧ s.saf.safeInSeen then s.cause 22 0
      else s)

/-- Clears SAF_CNT and EBB_CNT; what this very instant counts stays. -/
def State.safClear (s : State) : State :=
  s.clearCounts [Reg.SAF_CNT_CUTS, Reg.SAF_CNT_SAFES, Reg.SAF_CNT_HALTS, Reg.SYS_SUPPLY_EBB_CNT]

/-- SAF_CNT_CLR. -/
def execSafCntClr (t : Word) (s : State) : Out := .next ((s.at t).safClear)

/-! ### RUN and STOP (R99, R101, R103) -/

/-- What command `c` of this instant does that Headland may answer with a transition: its own commands, those that raise a cause with a
reaction of Table 14.7, and writes of SAF_CMD. -/
def State.headlandStep (s : State) (c : Instr) : State :=
  let go := fun (t : Word) (o : Out) => if t = s.now then s.after o else s
  let write := fun (t : Word) (a : Nat) (v : Word) =>
    if t = s.now ∧ a = Reg.SAF_CMD_addr ∧ Reg.SAF_CMD_RELEASE.get v = 1 then s.releaseWrite else s
  match c with
  | .headlandCause t => go t (execHeadlandCause t s)
  | .cutHoldExpiry t => go t (execCutHoldExpiry t s)
  | .safeRelease t above => go t (execSafeRelease t above s)
  | .headlandRunEntry t => go t (execHeadlandRunEntry t s)
  | .headlandSelftestDone t fails => go t (execHeadlandSelftestDone t fails s)
  | .invalidCodeDetect t region => go t (execInvalidCodeDetect t region s)
  | .handshakeStall t region => go t (execHandshakeStall t region s)
  | .governorSample t pcts => go t (execGovernorSample t pcts s)
  | .scrubSectionEnd t k upsets => go t (execScrubSectionEnd t k upsets s)
  | .clockMonitorWindow t tb xo => go t (execClockMonitorWindow t tb xo s)
  | .housekeepingSample t vbat tdie => go t (execHousekeepingSample t vbat tdie s)
  | .safeNMismatch t => go t (execSafeNMismatch t s)
  | .safeInChange t level => go t (execSafeInChange t level s)
  | .boostOvPersist t g => go t (execBoostOvPersist t g s)
  | .offtDecide t b low high blim => go t (execOfftDecide t b low high blim s)
  | .residualCurrent t b uv => go t (execResidual t b uv s)
  | .railOverpressure t => go t (execRailOverpressure t s)
  | .windowCrossing t m mv => go t (execWindowCrossing t m mv s)
  | .wmBlankEnd t m => go t (execWmBlankEnd t m s)
  | .overspeedUpdate t => go t (execOverspeedUpdate t s)
  | .proexBeatFrame t fseq p arrival => go t (execProexBeatFrame t fseq p arrival s)
  | .hostWrite t a v _ => write t a v
  | .registerWrite t a v => write t a v
  | .jtagDbgAccess t op a _ v => if op.val = 0x22 then write t a v else s
  | _ => s

/-- A safe-state transition of Headland at this instant, past or still to come by the commands that wait: RUN and STOP then have no effect
(R103). -/
def State.headlandFirst (s : State) : Bool :=
  decide ((s.pending.foldl State.headlandStep s).saf.movedAt = some s.now)

/-- RUN (R101, R103): the Loom start follows as LOOM_START (R507). In HALT it has no effect (R666, Table 2.18). -/
def State.doRun (s : State) : State :=
  if s.wstate = stLoaded ∧ s.hs ≠ hsHalt ∧ s.headlandFirst = false then
    { s with weave := { s.weave with runReq := true } }
  else s.cmdRej

/-- RUN. -/
def execRun (t : Word) (s : State) : Out := .next (s.at t).doRun

/-- STOP (R99, R100, R103). -/
def State.stopCommand (s : State) : State :=
  if s.wstate = stRunning ∧ s.standstill ∧ s.headlandFirst = false then s.loomStop else s.cmdRej

/-- STOP. -/
def execStop (t : Word) (s : State) : Out := .next ((s.at t).stopCommand)

end Sys2Proof.Machine
end

