-- ==== Sys2Proof/Machine/Supply.lean ====
section
/-!
DEFINITION. Supplies, resets, start-up, power domains and standby (14_supply_reset_safety, R631 to R662), and the clocks of
the monitored domains (01_loom_fabric, R47).
-/
namespace Sys2Proof.Machine

/-! ### Domain clocks (R47) -/

/-- The power domain of a monitored clock, in the bit order of SYS_CLKLOST; none for STBY. -/
def clockDomain (d : Nat) : Option Nat := [some 3, some 4, some 5, some 7, some 6, some 6].getD d none

/-- SYS_CLKLOST as one field, a bit a domain (Table 1.18). -/
def clkLost : Fld := ⟨Reg.SYS_CLKLOST_addr, 0, 7⟩

/-- CLOCK_LOST: a clock has been absent for 0.5 µs; a domain that the host switched off does not show it (R47, R655). Loss of
the Proex receive clock takes the link DOWN (R601). -/
def execClockLost (t : Word) (d : Fin 7) (s : State) : Out :=
  let s := s.at t
  .next (if s.power ≠ .up ∨ (clockDomain d).any (fun p => decide (2 ≤ s.domain p)) = true then s
    else
      let s : State := { s.setBit clkLost d with crossings := vset s.crossings d { blocked := true, returned := none } }
      if d.val = 5 ∧ s.hasTile 0x10 0 then s.setLink 0 else s)

/-- CLOCK_RETURN: the clock is back; its bit clears and the wait of 10 µs starts (R47). -/
def execClockReturn (t : Word) (d : Fin 7) (s : State) : Out :=
  let s := s.at t
  .next (if (s.get clkLost).testBit d then
      { s.clearBit clkLost d with crossings := vset s.crossings d { vget s.crossings d with returned := some t } }
    else s)

/-- CROSSING_RESUME: 10 µs after the return the crossings resume (R47). -/
def execCrossingResume (t : Word) (d : Fin 7) (s : State) : Out :=
  let s := s.at t
  .next (if (vget s.crossings d).returned.any (fun a => decide (10 * us ≤ elapsed a t)) then
      { s with crossings := vset s.crossings d {} }
    else s)

/-! ### Resets (R638 to R646) -/

/-- SYS_RSTCAUSE after a reset: POR clears the other bits and RESETS; any other adds its own bit and counts (R643,
Table 14.10). `code` is LWR_SM of a Low-water reset or WAKE_SRC of a wake. -/
def rstCause (old : Word) (kind : ResetKind) (code : Nat) : Word :=
  let one := fun (f : Fld) (w : Word) => f.put w 1
  let w := Reg.SYS_RSTCAUSE_RESETS.put old (Reg.SYS_RSTCAUSE_RESETS.get old + 1)
  match kind with
  | .por => one Reg.SYS_RSTCAUSE_POR 0
  | .lowWater => one Reg.SYS_RSTCAUSE_LWR (Reg.SYS_RSTCAUSE_LWR_SM.put w code)
  | .pin => one Reg.SYS_RSTCAUSE_PIN w
  | .soft => one Reg.SYS_RSTCAUSE_SOFT w
  | .wake => one Reg.SYS_RSTCAUSE_WAKE (Reg.SYS_RSTCAUSE_WAKE_SRC.put w code)

/-- The registers through a reset: every field at its Reset column but SYS_RSTCAUSE (R642, R643). -/
def State.resetRegs (s : State) (kind : ResetKind) (code : Nat) : State → State := fun r =>
  r.setReg Reg.SYS_RSTCAUSE_addr (rstCause (s.reg Reg.SYS_RSTCAUSE_addr) kind code)

/-- A weave store word that was being programmed or erased when a reset came holds what the spec does not say. -/
def State.tornStore (s : State) : State :=
  let cells := (match s.weave.prog with
      | some (p, a, _) => [(p, a)]
      | none => []) ++ s.weave.erasing.flatMap (fun n => (List.range 4).map (fun k => (n, k)))
  cells.foldl (fun s (p, a) =>
    let r := s.free
    r.2.plySet p a r.1) s

/-- The words of Table 4.6 are 0 after power-up and a Low-water reset (R217); after a POR and standby the RAM holds nothing
that was written (log entry 3). -/
def State.resetWork (s : State) (kind : ResetKind) : Cells 48 :=
  match kind with
  | .por | .wake => []
  | .lowWater => s.work.filter (fun c => decide (0x1800 ≤ c.1))
  | _ => s.work

/-- A reset is asserted: registers and units take their reset values, gate drivers are off, SAFE_N is low, Headland is in
START, a commit stops where it is, trims are 0 (R452, R590, R639, R642). SM0 and SM1 leave the mode of standby (R422). The device
stays held until RESET_END. -/
def State.resetTo (s : State) (kind : ResetKind) (code : Nat) : State :=
  let s := s.tornCommit.tornStore
  let fresh : State := {
    now := s.now, fresh := s.fresh, power := .held, straps := s.straps
    work := s.resetWork kind
    trace := if kind = .por ∨ kind = .wake then [] else s.trace
    recMem := s.recMem, ply0 := s.ply0, ply1 := s.ply1, ply2 := s.ply2, flash := s.flash
    host := { jtag := { ir := s.host.jtag.ir, instr := s.host.jtag.instr } }
    strand := { ebbs := s.strand.ebbs, lwrs := s.strand.lwrs + (if kind = .lowWater then 1 else 0) }
    supply := { hold := some kind, holdAt := s.now, smAt := Vector.replicate 6 s.now
                smModeAt := if kind = .wake then (Vector.replicate 6 none).set 0 (some s.now) |>.set 1 (some s.now)
                  else Vector.replicate 6 none
                resetLow := s.supply.resetLow
                lowWater := decide (kind = .lowWater) || (s.supply.lowWater && decide (kind = .pin))
                traceLost := s.supply.traceLost + (if kind = .por ∨ kind = .wake then 1 else 0) }
    ahead := s.ahead, pending := s.pending }
  (s.resetRegs kind code fresh).trimOff

/-- The supplies let the device leave a reset: SM1 to SM4 are inactive (Table 14.3, R640). -/
def State.railsUp (s : State) : Bool := [1, 2, 3, 4].all (fun m => decide (s.get (Reg.SM_STAT_OUT m) = 0))

/-- POWER_ON_RESET: VBAT rises through 6.0 V after it has been below 4.0 V (R641). -/
def execPowerOnReset (t : Word) (s : State) : Out := .next ((s.at t).resetTo .por 0)

/-- The first of SM1 to SM4 that became active, of those that are. One that is active from the reset on (R412), with no crossing
yet (R411), has not become active. -/
def State.firstTrip (s : State) : Option Nat :=
  ([1, 2, 3, 4].filter (fun m => decide (s.get (Reg.SM_STAT_OUT m) = 1 ∧ s.get (Reg.SM_STAT_INIT m) = 0))).foldl (fun w m => match w with
    | none => some m
    | some v => if elapsed (vget s.supply.smAt v) s.now < elapsed (vget s.supply.smAt m) s.now then some m else some v) none

/-- LOW_WATER_RESET: one of SM1 to SM4 has become active, outside standby; a Low-water reset that is asserted stays so (R638, R639,
R661). -/
def execLowWaterReset (t : Word) (s : State) : Out :=
  let s := s.at t
  .next (match s.firstTrip with
    | some m => if s.power = .standby ∨ s.supply.lowWater then s else s.resetTo .lowWater m
    | none => s)

/-- LOW_WATER_END: SM1 to SM4 have all been inactive for 100 µs (R640); RESET_N may go on holding the device (R645). -/
def execLowWaterEnd (t : Word) (s : State) : Out :=
  let s := s.at t
  let quiet := [1, 2, 3, 4].all (fun m => decide (100 * us ≤ elapsed (vget s.supply.smAt m) t))
  .next (if s.supply.lowWater = true ∧ s.railsUp = true ∧ quiet = true then
      { s with supply := { s.supply with lowWater := false, hold := if s.supply.resetLow then some .pin else none } }
    else s)

/-- PIN_RESET: RESET_N has been low for 1.0 µs (R641, R645). -/
def execPinReset (t : Word) (s : State) : Out :=
  let s := (s.at t).resetTo .pin 0
  .next { s with supply := { s.supply with resetLow := true } }

/-- PIN_RESET_END: 100 µs after RESET_N went high (R645); a Low-water reset may go on holding the device (R640). -/
def execPinResetEnd (t : Word) (s : State) : Out :=
  let s := s.at t
  .next { s with supply := { s.supply with
    resetLow := false
    hold := if s.supply.hold ≠ some .pin then s.supply.hold else if s.supply.lowWater then some .lowWater else none } }

/-- A write of SYS_RST.KEY (R641, R644). -/
def State.softReset (s : State) (key : Nat) : State :=
  if key = 0x5EA1 ∧ (¬ s.running ∨ s.hs = hsHalt) then s.resetTo .soft 0 else s.wrej

/-- SOFTWARE_RESET. -/
def execSoftwareReset (t : Word) (key : Fin 65536) (s : State) : Out :=
  let s := s.at t
  .next (if s.power = .up then s.softReset key else s)

/-- RESET_END: no reset holds the device; the straps SIDE and FLASH_MIRROR are read, SM5 takes its mode awake, and the load, the
enumeration and the recovery start (R422, R592, R642, R684, Table 14.3). -/
def execResetEnd (t : Word) (side mirror : Bool) (s : State) : Out :=
  let s := s.at t
  let k : Supply := s.supply
  .next (if s.power = .held ∧ ¬ k.lowWater ∧ k.hold ≠ some .pin ∧ ¬ k.resetLow ∧ s.railsUp then
      let s := { s with
        power := .up, straps := (side, mirror)
        supply := { k with hold := none }
        saf := { s.saf with startAt := if k.hold = some ResetKind.por then k.holdAt else t }
        strand := { s.strand with scan := t } }
      (((s.smMode 5 mdL).flag Reg.PRX_STAT_SIDE side).startLoad).enumBegin
    else s)

/-- START_LATE_TIMEOUT: 40 ms without sync-ready (R649). -/
def execStartLateTimeout (t : Word) (s : State) : Out :=
  let s := s.at t
  .next (if s.power = .up ∧ ¬ s.is Reg.SYS_START_READY ∧ ¬ s.is Reg.SYS_START_LATE ∧ 40 * ms ≤ elapsed s.supply.holdAt t then
      (s.set Reg.SYS_START_LATE 1).startEvent
    else s)

/-! ### Wake conditions (R659) -/

/-- The WAKE input has been high for WAKE_FILT. -/
def State.wakeHigh (s : State) : Bool :=
  s.supply.wakePin && decide (s.get Reg.SYS_WAKE_WAKE_FILT * ms ≤ elapsed s.supply.wakeAt s.now)

/-- WAKE_T seconds of standby have elapsed. -/
def State.wakeTimeUp (s : State) : Bool :=
  let n := s.get Reg.SYS_WAKE_WAKE_T
  decide (n ≠ 0 ∧ n * (1000 * ms) ≤ elapsed s.supply.standbyAt s.now)

/-- WAKE_SRC when condition `own` holds now: the lowest of those that do (R659). -/
def State.wakeCode (s : State) (own : Nat) : Nat := if s.wakeHigh then 1 else if s.wakeTimeUp then 2 else own

/-! ### Supply monitors and the Ebb warning (R634 to R637) -/

/-- An event of Table 14.9 with index 0. -/
def State.supplyEvent (s : State) (code arg : Nat) : State := s.report 0x18 0 code arg (some s.now)

/-- The monitor runs: SM2 to SM5 are off in standby (Table 8.12). -/
def State.smRuns (s : State) (m : Nat) : Bool := decide (s.power ≠ .standby ∨ m < 2)

/-- The output of monitor `m` changes: a definitive crossing (R410, R411). -/
def State.smChange (s : State) (m out : Nat) : State :=
  let s := (s.set (Reg.SM_STAT_OUT m) out).set (Reg.SM_STAT_INIT m) 0
  { s with supply := { s.supply with smAt := vset s.supply.smAt m s.now } }

/-- The output of monitor `m` holds: it is under self-test, or its mode changes (R407, R425). -/
def State.smHeld (s : State) (m : Nat) : Bool :=
  s.monTest.run.any (fun r => decide (r.1 = 8 + m))
    || modeHolds (0x200 + m) (s.get (Reg.SM_STAT_MODE m)) (vget s.supply.smModeAt m) s.now

/-- SUPPLY_MONITOR_TRIP (R634); an output that holds changes with a later crossing command (R407, R425; log entry 141). -/
def execSupplyMonitorTrip (t : Word) (m : Fin 6) (s : State) : Out :=
  let s := s.at t
  .next (if s.smRuns m && !s.smHeld m && !s.is (Reg.SM_STAT_OUT m) then s.smChange m 1 else s)

/-- SUPPLY_MONITOR_RELEASE (R412, R634); SM5 restores the sensor supply (Table 14.9), SM0 may wake the device (R659). -/
def execSupplyMonitorRelease (t : Word) (m : Fin 6) (s : State) : Out :=
  let s := s.at t
  .next (if s.smRuns m && !s.smHeld m && s.is (Reg.SM_STAT_OUT m) then
      let s := s.smChange m 0
      if m.val = 5 ∧ s.is Reg.SYS_SUPPLY_SENS_LOW then
        let s := s.set Reg.SYS_SUPPLY_SENS_LOW 0
        if s.power = .up then s.supplyEvent 6 0 else s
      else if m.val = 0 ∧ s.power = .standby ∧ s.is Reg.SYS_WAKE_EBB_WAKE then s.resetTo .wake (s.wakeCode 3)
      else s
    else s)

/-- SENSOR_SUPPLY_LOW: SM5 has been active for 100 µs (R634, Table 14.11). -/
def execSensorSupplyLow (t : Word) (s : State) : Out :=
  let s := s.at t
  .next (if s.power = .up ∧ s.is (Reg.SM_STAT_OUT 5) ∧ ¬ s.is Reg.SYS_SUPPLY_SENS_LOW
      ∧ 100 * us ≤ elapsed (vget s.supply.smAt 5) t then
      (s.set Reg.SYS_SUPPLY_SENS_LOW 1).supplyEvent 6 (2 ^ 39)
    else s)

/-- EBB_ACTIVE: SM0 has been active for 10 µs; VBAT in 0.05 V (R635 to R637). -/
def execEbbActive (t : Word) (vbat : Fin 4096) (s : State) : Out :=
  let s := s.at t
  .next (if s.power ≠ .standby ∧ s.is (Reg.SM_STAT_OUT 0) ∧ ¬ s.is Reg.SYS_SUPPLY_EBB
      ∧ 10 * us ≤ elapsed (vget s.supply.smAt 0) t then
      let s := ((s.set Reg.SYS_SUPPLY_EBB 1).inc Reg.SYS_SUPPLY_EBB_CNT).supplyEvent 3 (2 ^ 39 + vbat)
      if s.is Reg.REC_STAT_READY then (s.accAdd 1 0 6 1).ebbCommit
      else { s with strand := { s.strand with ebbs := s.strand.ebbs + 1 } }
    else s)

/-- EBB_INACTIVE: SM0 has been inactive for 10 µs (R635). -/
def execEbbInactive (t : Word) (vbat : Fin 4096) (s : State) : Out :=
  let s := s.at t
  .next (if s.power ≠ .standby ∧ ¬ s.is (Reg.SM_STAT_OUT 0) ∧ s.is Reg.SYS_SUPPLY_EBB
      ∧ 10 * us ≤ elapsed (vget s.supply.smAt 0) t then
      (s.set Reg.SYS_SUPPLY_EBB 0).supplyEvent 3 vbat
    else s)

/-! ### Power domains (R651 to R657) -/

abbrev pdOn : Nat := 0
abbrev pdDrain : Nat := 1
abbrev pdOff : Nat := 2
abbrev pdWaking : Nat := 3

/-- Domain `d`, 2 to 7, changes state: reported (R657). -/
def State.domainGo (s : State) (d st : Nat) : State :=
  let s := s.set ⟨Reg.SYS_PWRSTAT_addr, 2 * d - 4, 2⟩ st
  let s := { s with supply := { s.supply with domAt := vset s.supply.domAt (d - 2) s.now } }
  s.report 0x18 d 7 (st * 2 ^ 38) (some s.now)

/-- Whether the ON bit of domain `d` may change now (Table 14.4). -/
def State.switchable (s : State) (d : Nat) : Bool :=
  match d with
  | 2 | 3 => !s.running
  | 6 => !(s.running && s.weave.pair)
  | 7 => !(s.weave.loading || !s.weave.mirror.isEmpty || s.is Reg.LNK_FSTAT_BUSY)
  | _ => true

/-- What domain `d` does when its ON bit changes to `on` (R653, R656). -/
def State.domainFollow (s : State) (d : Nat) (on : Bool) : State :=
  if ¬ on then s.domainGo d pdDrain
  else if s.domain d = pdOff then s.domainGo d pdWaking
  else if s.domain d = pdDrain then s.domainGo d pdOn
  else s

/-- The ON bit of domain `d` becomes `on` (R653, R656). -/
def State.domainSwitch (s : State) (d : Nat) (on : Bool) : State :=
  let bit : Fld := ⟨Reg.SYS_PWR_addr, d - 2, 1⟩
  if s.is bit = on then s else (s.flag bit on).domainFollow d on

/-- The ON bits that a value would change. -/
def State.powerChange (s : State) (on : Nat) : List Nat :=
  (List.range 6).filter (fun k => decide ((s.get Reg.SYS_PWR_ON).testBit k ≠ on.testBit k))

/-- Whether Table 14.4 allows every change that a value of ON makes (R652). -/
def State.powerOk (s : State) (on : Nat) : Bool := (s.powerChange on).all (fun k => s.switchable (k + 2))

/-- The ON field is written: refused whole when a change breaks Table 14.4 (R652). -/
def State.powerWrite (s : State) (on : Nat) : State :=
  if s.powerOk on then (s.powerChange on).foldl (fun s k => s.domainSwitch (k + 2) (on.testBit k)) s else s.wrej

/-- DOMAIN_OFF_REQUEST: the host clears the ON bit of domain d + 2. -/
def execDomainOffRequest (t : Word) (d : Fin 6) (s : State) : Out :=
  let s := s.at t
  let on := s.get Reg.SYS_PWR_ON
  .next (if s.power = .up ∧ on.testBit d then s.powerWrite (on - 2 ^ d.val) else s)

/-- DOMAIN_ON_REQUEST: the host sets the ON bit of domain d + 2. -/
def execDomainOnRequest (t : Word) (d : Fin 6) (s : State) : Out :=
  let s := s.at t
  let on := s.get Reg.SYS_PWR_ON
  .next (if s.power = .up ∧ ¬ on.testBit d then s.powerWrite (on + 2 ^ d.val) else s)

/-- The domain is off: trace memory loses what it held, the link is DOWN (Table 14.4). -/
def State.domainOff (s : State) (d : Nat) : State :=
  let s := s.domainGo d pdOff
  if d = 2 then
    let s := { s with supply := { s.supply with traceLost := s.supply.traceLost + 1 } }
    { s with trace := [] }
  else if d = 6 ∧ s.hasTile 0x10 0 then s.setLink 0
  else s

/-- The channels whose running descriptor a domain has admitted; TRACE is the one that DMA addresses reach (R568, log
entry 27). -/
def State.admittedTo (s : State) (d : Nat) : List Nat :=
  (List.range 16).filter (fun c => decide (d = 2) && (s.ch c).admitted && decide (s.dmState c = dmRun))

/-- The side of a beat that lies in TRACE. -/
def Beat.inTrace (d : Desc) (b : Beat) : Bool :=
  let tr := fun a => decide (0x8000 ≤ a % 65536 ∧ a / 65536 < 4)
  tr b.dst || (decide (d.mode % 2 = 0) && tr b.src)

/-- A beat into the domain is in flight, admitted or not (R654). -/
def State.flightTo (s : State) (d : Nat) : Bool :=
  decide (d = 2) && (List.range 16).any (fun c => decide (s.dmState c = dmRun) && match (s.ch c).desc with
    | some x => (s.ch c).flight.any (Beat.inTrace x)
    | none => false)

/-- No admitted descriptor is unfinished and no beat into the domain is in flight (R654). -/
def State.drained (s : State) (d : Nat) : Bool := decide (s.admittedTo d = []) && !s.flightTo d

/-- DRAIN_END (R654). -/
def execDrainEnd (t : Word) (d : Fin 6) (s : State) : Out :=
  let s := s.at t
  .next (if s.domain (d + 2) = pdDrain ∧ s.drained (d + 2) then s.domainOff (d + 2) else s)

/-- The waking times of Table 14.4. -/
def wakeTime (d : Nat) : Nat := [20, 200, 20, 20, 20, 5].getD (d - 2) 0 * us

/-- A domain is on again: CAN controllers restart error active, Ethernet reads LINK anew (Table 14.4). -/
def State.domainWoken (s : State) (d : Nat) : State :=
  let s := s.domainGo d pdOn
  if d = 4 then
    (List.range 4).foldl (fun s c =>
      let s := ((s.set (Reg.CAN_STAT_STATE c) 0).set (Reg.CAN_STAT_TEC c) 0).set (Reg.CAN_STAT_REC c) 0
      s.setCan c { s.can c with recovering := false }) s
  else if d = 5 then { s with ports := s.ports.map (fun (p : EthPort) => { p with poll := none }) }
  else s

/-- DOMAIN_WAKE_DONE (R656). -/
def execDomainWakeDone (t : Word) (d : Fin 6) (s : State) : Out :=
  let s := s.at t
  .next (if s.domain (d + 2) = pdWaking ∧ wakeTime (d + 2) ≤ elapsed (vget s.supply.domAt d) t then s.domainWoken (d + 2)
    else s)

/-! ### Standby and wake (R658 to R662) -/

/-- A write of STBY_KEY (R658, Table 14.5 step 1): the Loom stops, SAFE_N goes low, and a full commit is requested. While the clock of the
STBY domain is lost the request completes with DOMAIN_OFF and does nothing (R47; log entry 167). -/
def State.standbyRequest (s : State) (key : Nat) : State :=
  if s.crossingOff 6 then s
  else if key = 0x5EA1 ∧ s.standstill = true ∧ s.hs ≠ hsHalt ∧ ¬ s.supply.standby then
    let s := s.loomStop
    let s := (List.range 3).foldl (fun s g => if s.hasTile 5 g then s.boostOff g else s) s
    let s := if s.safeNDrive then s.set Reg.SAF_STAT_SAFE_N_LVL 0 else s
    { s with supply := { s.supply with standby := true } }.requestCommit
  else s.wrej

/-- STANDBY_REQUEST. -/
def execStandbyRequest (t : Word) (key : Fin 65536) (s : State) : Out :=
  let s := s.at t
  .next (if s.power = .up then s.standbyRequest key else s)

/-- CORE is off: registers but the standby logic's are reset, RAM holds nothing; a WAKE level that is present wakes at once
(R651, R660, Table 14.5 step 4). -/
def State.standbyEnter (s : State) : State :=
  let kept := [Reg.SYS_RSTCAUSE_addr, Reg.SYS_SUPPLY_addr, Reg.SYS_WAKE_addr, Reg.SM_STAT_addr 0, Reg.SM_STAT_addr 1]
  let off : State := {
    now := s.now, fresh := s.fresh, power := .standby, straps := s.straps
    recMem := s.recMem, ply0 := s.ply0, ply1 := s.ply1, ply2 := s.ply2, flash := s.flash
    host := { jtag := { ir := s.host.jtag.ir, instr := s.host.jtag.instr } }
    strand := { ebbs := s.strand.ebbs, lwrs := s.strand.lwrs }
    supply := { smAt := s.supply.smAt, smModeAt := s.supply.smModeAt, wakePin := s.supply.wakePin, wakeAt := s.supply.wakeAt, standbyAt := s.now,
                traceLost := s.supply.traceLost + 1 }
    ahead := s.ahead, pending := s.pending }
  let off := kept.foldl (fun o a => o.setReg a (s.reg a)) off
  let off := (off.smMode 0 mdU).smMode 1 mdU
  if off.is Reg.SYS_WAKE_WAKE_LVL || off.wakeHigh then off.resetTo .wake 1 else off

/-- Domains 2 to 7 go off through DRAIN; one with an admitted descriptor or a beat in flight stays in it (R654, Table 14.5 step 3). -/
def State.standbyDrain (s : State) : State :=
  (List.range 6).foldl (fun s k =>
    let d := k + 2
    let s := if s.domain d = pdOff ∨ s.domain d = pdDrain then s else s.domainGo d pdDrain
    if s.domain d = pdDrain ∧ s.drained d then s.domainOff d else s) s

/-- STANDBY_COMPLETE: the commit is done and domains 2 to 7 are off, as they are at once when no admitted descriptor drains (R658,
R660); otherwise DRAIN_END or DRAIN_TIMEOUT comes first (log entry 148). -/
def execStandbyComplete (t : Word) (s : State) : Out :=
  let s := s.at t
  let done := !s.strandOn || (!s.strand.want && !s.is Reg.REC_STAT_BUSY)
  .next (if s.power = .up ∧ s.supply.standby ∧ done then
    let s := s.standbyDrain
    if (List.range 6).all (fun k => decide (s.domain (k + 2) = pdOff)) then s.standbyEnter else s
  else s)

/-- WAKE_INPUT: the WAKE comparator changes level (R411, R662). -/
def execWakeInput (t : Word) (level : Bool) (s : State) : Out :=
  let s := s.at t
  .next (if s.power = .held ∨ s.supply.wakePin = level then s
    else { s.set Reg.SYS_WAKE_WAKE_INIT 0 with supply := { s.supply with wakePin := level, wakeAt := t } })

/-- WAKE_FILTER_EXPIRY: WAKE has held a new level for WAKE_FILT (R659, R662). -/
def execWakeFilterExpiry (t : Word) (s : State) : Out :=
  let s := s.at t
  let pin := s.supply.wakePin
  .next (if s.power ≠ .held ∧ s.is Reg.SYS_WAKE_WAKE_LVL ≠ pin
      ∧ s.get Reg.SYS_WAKE_WAKE_FILT * ms ≤ elapsed s.supply.wakeAt t then
      let s := s.flag Reg.SYS_WAKE_WAKE_LVL pin
      if pin ∧ s.power = .standby then s.resetTo .wake 1 else s
    else s)

/-- WAKE_TIMER: WAKE_T seconds in standby (R659). -/
def execWakeTimer (t : Word) (s : State) : Out :=
  let s := s.at t
  .next (if s.power = .standby ∧ s.wakeTimeUp then s.resetTo .wake (s.wakeCode 2) else s)

end Sys2Proof.Machine
end

