-- ==== Sys2Proof/Machine/Bus.lean ====
section
/-!
DEFINITION. The internal bus (01_loom_fabric, R70 to R74): reads and writes of registers, memories and the window by the
host, the debug port and DMA channels; what a register reads as; what the writes of some registers set off.
-/
namespace Sys2Proof.Machine

/-- A master of the internal bus (Table 11.6). -/
inductive Master where
  | host
  | debug
  | dma (c : Nat)
  | proex
  | ethernet
  | can
deriving DecidableEq, Repr

/-- The index that decides between equal time words (R525, Table 11.6). -/
def Master.index : Master → Nat
  | .host => 0
  | .debug => 1
  | .dma c => 2 + c
  | .proex => 18
  | .ethernet => 19
  | .can => 20

/-- The master is a DMA channel. -/
def Master.isDma : Master → Bool
  | .dma _ => true
  | _ => false

/-! Acknowledge digits (Table 1.5). -/

abbrev ackAccept : Nat := 0
abbrev ackBusy : Nat := 1
abbrev ackError : Nat := 2
abbrev ackOff : Nat := 3

/-! ### What a register reads as -/

/-- Fields that show what other units hold: SYS_STATUS (Table 1.13), CMP_STAT (Table 8.24), CAL_FIN (Table 10.13), PLS_CNT
(R79), REC_STAT.PENDING (R585). -/
def State.liveRead (s : State) (a i : Nat) (w : Word) : Word :=
  let bits := fun (n : Nat) (p : Nat → Bool) => ((List.range n).map (fun k => if p k then 2 ^ k else 0)).foldl (· + ·) 0
  let flag := fun (b : Bool) => if b then 1 else 0
  if a = Reg.SYS_STATUS_addr then
    Reg.SYS_STATUS_SLACK_LOW.put (Reg.SYS_STATUS_STALL.put w (flag (decide (s.get Reg.SYS_REGION_STALL ≠ 0))))
      (s.get Reg.SYS_GOV_SLACK_LOW)
  else if a = Reg.CMP_STAT_addr then
    Reg.CMP_STAT_BANK_STF.put (Reg.CMP_STAT_WM_STF.put (Reg.CMP_STAT_SM_STF.put w
      (bits 6 (fun k => s.is (Reg.SM_STAT_STF k)))) (bits 8 (fun k => s.is (Reg.WM_STAT_STF k))))
      (bits 12 (fun k => decide (s.get (Reg.CMP_BK_FAILMASK k) ≠ 0)))
  else if a = Reg.CAL_FIN_addr i then
    (Reg.CAL_FIN_OFS i).put ((Reg.CAL_FIN_GAIN i).put w (Config.factoryGain i).toNat) (Config.factoryOfs i).toNat
  else if a = Reg.PLS_CNT_addr then
    let w := if s.hasTile 0x0D 0 then w else Reg.PLS_CNT_LATE_ENC.put w 0
    if s.hasTile 0x0D 1 then w else Reg.PLS_CNT_LATE_TACH.put w 0
  else if a = Reg.REC_STAT_addr then
    Reg.REC_STAT_PENDING.put w (flag (s.is Reg.REC_STAT_PENDING || (s.is Reg.REC_STAT_BUSY && !s.recJobs.isEmpty)))
  else w

/-- SNAPT and SNAPA of a Weft that delivers no updates read 0 (R235). -/
def State.snapDead (s : State) (a : Nat) : Bool :=
  [0, 1].any (fun n => decide ((a = Reg.WFT_SNAPT_addr n ∨ a = Reg.WFT_SNAPA_addr n) ∧ s.delivering ≠ n))

/-- What the register at `a` reads as, without the effects of the read; none for a reserved address. -/
def State.regView (s : State) (a : Nat) : Option Word :=
  match regAt a with
  | none => none
  | some (r, i, _) =>
    some (if s.absent r i || s.snapDead a then 0
      else if a = Reg.SYS_EVPOP_addr then s.evWord
      else if a = Reg.PRX_PEVPOP_addr then s.pevWord
      else s.maskRead r a i (s.liveRead a i (s.reg a)))

/-- What a read of the register at `a` does first (R234, R235). -/
def State.readEffect (s : State) (a : Nat) : State :=
  [0, 1].foldl (fun s n =>
    if ¬ s.hasTile 2 n then s
    else if a = Reg.WFT_UPD0_addr n then s.updRead n
    else if a = Reg.WFT_SNAPT_addr n then s.snapRead n
    else s) s

/-! ### What writes set off -/

/-- A write of WVE_CMD (R99, R115, Table 2.17). -/
def State.weaveCommand (s : State) (cmd ply : Nat) : State :=
  match cmd with
  | 1 => s.doLoad
  | 2 => s.doRun
  | 3 => s.stopCommand
  | 4 => s.doMirror ply
  | 5 => s.doVerify
  | 6 => s.doErase ply
  | _ => s.cmdRej

/-- The RW fields of a register whose change is an event for their unit: the write hands them to it. -/
def unitFields (a i : Nat) : List Fld :=
  if a = Reg.SHT_CTRL_addr i then [Reg.SHT_CTRL_EN i, Reg.SHT_CTRL_READY i]
  else if a = Reg.BNK_CONT_addr i then [Reg.BNK_CONT_EN i]
  else if a = Reg.SEQ_CTRL_addr i then [Reg.SEQ_CTRL_EN i]
  else if a = Reg.DMA_CTRL_addr i then [Reg.DMA_CTRL_EN i]
  else if a = Reg.CAN_TXREQ_addr i then [Reg.CAN_TXREQ_TXREQ i]
  else []

/-- Writes to the fabric's, the weave's and the supply's registers. -/
def State.actSystem (s : State) (a : Nat) (v : Word) : State :=
  if a = Reg.SYS_RST_addr then s.softReset (Reg.SYS_RST_KEY.get v)
  else if a = Reg.SYS_LAT_CLR_addr then s.latClear
  else if a = Reg.WVE_CMD_addr then s.weaveCommand (Reg.WVE_CMD_CMD.get v) (Reg.WVE_CMD_PLY.get v)
  else if a = Reg.SAF_CMD_addr then
    if Reg.SAF_CMD_RELEASE.get v = 1 then s.releaseWrite else s
  else if a = Reg.SAF_CNT_CLR_addr then s.safClear
  else s

/-- A write of SHTn_CTRL: EN, READY. -/
def State.shtCtrlWrite (s : State) (i : Nat) (new : Word) : State :=
  let s := if (Reg.SHT_CTRL_EN i).get new = 1 then s.shtEnable i else s.shtDisable i
  if (Reg.SHT_CTRL_READY i).get new = 1 then s.shtOffer i else s.set (Reg.SHT_CTRL_READY i) 0

/-- A write of BNKb_CONT: the set point, EN. -/
def State.contWrite (s : State) (i : Nat) (new : Word) : State :=
  let s := s.contRetune i
  let on := (Reg.BNK_CONT_EN i).get new
  if on = s.get (Reg.BNK_CONT_EN i) then s
  else if on = 1 then (s.set (Reg.BNK_CONT_EN i) 1).contEnable i
  else (s.set (Reg.BNK_CONT_EN i) 0).contDisable i

/-- Writes to Warp, Weft, Shuttle and bank registers; `new` is the merged word, `old` the word before. -/
def State.actAngle (s : State) (a i j : Nat) (v old new : Word) : State :=
  if a = Reg.WRP_CNT_CLR_addr i then s.warpClear i
  else if a = Reg.WFT_CL_addr 0 then if (Reg.WFT_CL_CL_EN 0).get new = 0 then s.learnAbort 7 else s
  else if a = Reg.WFT_CTRL_addr 0 then
    if (Reg.WFT_CTRL_FP_EN 0).get old = (Reg.WFT_CTRL_FP_EN 0).get new then s else s.clearProfile
  else if a = Reg.BNK_THP_addr i j then s.thermalOff i j
  else if a = Reg.BNK_DCFG_addr i then if (Reg.BNK_DCFG_OFFT_EN i).get new = 0 then s.dropTests i else s
  else if a = Reg.WFT_CNT_CLR_addr i then s.weftClear i
  else if a = Reg.SHT_CNT_CLR_addr i then s.shtClear i
  else if a = Reg.SHT_CTRL_addr i then s.shtCtrlWrite i new
  else if a = Reg.BNK_CNT_CLR_addr i then s.bankClear i
  else if a = Reg.BNK_DCNT_CLR_addr i then s.dcntClear i
  else if a = Reg.BNK_CONT_addr i then s.contWrite i new
  else if a = Reg.BNK_DSTAT_addr i then
    if (Reg.BNK_DSTAT_LATCH i).get v = 1 then
      (s.set (Reg.BNK_DSTAT_LATCH i) ((Reg.BNK_DSTAT_LATCH i).get old)).latchClear i none
    else s
  else if a = Reg.BNK_CDSTAT_addr i j then
    if (Reg.BNK_CDSTAT_LATCH i j).get v = 1 then
      (s.set (Reg.BNK_CDSTAT_LATCH i j) ((Reg.BNK_CDSTAT_LATCH i j).get old)).latchClear i (some j)
    else s
  else s

/-- A write of SEQk_CTRL: CLR, EN, GO. -/
def State.seqCtrlWrite (s : State) (i : Nat) (v new : Word) : State :=
  let s := if (Reg.SEQ_CTRL_CLR i).get v = 1 then s.seqClear i else s
  let s := s.seqEnable i (decide ((Reg.SEQ_CTRL_EN i).get new = 1))
  if (Reg.SEQ_CTRL_GO i).get v = 1 ∧ s.trigOf i = tgHost then s.seqTrigger i s.now else s

/-- A write of PTp_CFG: EN starts or stops the timer. -/
def State.ptCfgWrite (s : State) (i : Nat) (old new : Word) : State :=
  if (Reg.PT_CFG_EN i).get old = (Reg.PT_CFG_EN i).get new then s
  else if (Reg.PT_CFG_EN i).get new = 1 then s.ptStart i
  else s.ptStop i

/-- Writes to front-end registers. -/
def State.actFront (s : State) (a i : Nat) (v old new : Word) : State :=
  if a = Reg.SEQ_CTRL_addr i then s.seqCtrlWrite i v new
  else if a = Reg.SEQ_BUF_addr i then if s.running then s else s.set (Reg.SEQ_STAT_WPTR i) (s.get (Reg.SEQ_BUF_BASE i))
  else if a = Reg.WM_CFG_addr i then s.wmMode i old new
  else if a = Reg.ADC_CTRL_addr then
    if Reg.ADC_CTRL_CAL_EN.get old = 0 ∧ Reg.ADC_CTRL_CAL_EN.get new = 1 then { s with rot := { s.rot with start := s.now } }
    else s
  else if a = Reg.PT_CFG_addr i then s.ptCfgWrite i old new
  else if a = Reg.WM_STAT_addr i then
    if (Reg.WM_STAT_LATCHED i).get v = 1 then (s.set (Reg.WM_STAT_LATCHED i) ((Reg.WM_STAT_LATCHED i).get old)).clearLatch i
    else s
  else if a = Reg.WM_CNT_CLR_addr i then s.wmClear i
  else s

/-- Writes to service registers. -/
def State.actService (s : State) (a i : Nat) (v old new : Word) : State :=
  if a = Reg.CMB_CNT_CLR_addr i then s.clearCounts (cmbCounters i)
  else if a = Reg.QM_CNT_CLR_addr i then s.clearCounts (mapCounters i)
  else if a = Reg.RP_CNT_CLR_addr then s.clearCounts railCounters
  else if a = Reg.SVC_PINCFG_addr i then s.pinConfig i old new
  else if a = Reg.SVC_PINSCL_addr i then
    s.pinConfig i (s.reg (Reg.SVC_PINCFG_addr i)) (s.reg (Reg.SVC_PINCFG_addr i))
  else if a = Reg.RP_CFG_addr then s.railEval
  else if a = Reg.SVC_DEM_addr then if Reg.SVC_DEM_SWAP.get v = 1 then s.demandSwap else s
  else if a = Reg.TRM_CTRL_addr then s.trimOff
  else if a = Reg.IDN_CMD_addr then s.idnCommand (Reg.IDN_CMD_CMD.get v)
  else s

/-- Pulse outputs that lose EN are low (R283). -/
def State.actPulse (s : State) (a : Nat) : State :=
  let p := if a = Reg.PLS_ENC_addr then some 0 else if a = Reg.PLS_TACH_addr then some 1 else none
  match p with
  | some p =>
    if s.is (if p = 0 then Reg.PLS_ENC_EN else Reg.PLS_TACH_EN) then s
    else s.setPo p ((s.po p).low s.now)
  | none => s

/-- Writes to link registers. -/
def State.actLink (s : State) (a i : Nat) (v : Word) : State :=
  if a = Reg.CAN_TXREQ_addr i then
    (List.range 16).foldl (fun s m => if ((Reg.CAN_TXREQ_TXREQ i).get v).testBit m then s.canRequest i m else s) s
  else if a = Reg.CAN_RX_addr i then if (Reg.CAN_RX_RXACK i).get v = 1 then s.canAck i else s
  else if a = Reg.CAN_STAT_addr i then if (Reg.CAN_STAT_BUSOFF_REQ i).get v = 1 then s.canRecover i else s
  else if a = Reg.CAN_CNT_CLR_addr i then s.linkClear (.can (Fin.ofNat 4 i))
  else if a = Reg.ETH_CNT_CLR_addr i then s.linkClear (.eth (Fin.ofNat 2 i))
  else if a = Reg.STR_CNT_CLR_addr i then s.linkClear (.str (Fin.ofNat 8 i))
  else if a = Reg.LNK_HSPI_CNT_CLR_addr then s.linkClear .hspi
  else if a = Reg.LNK_FCMD_addr then
    s.flashCommand (Reg.LNK_FCMD_CMD.get v) (Reg.LNK_FCMD_FADDR.get v) (Reg.LNK_FCMD_LEN.get v)
  else s

/-- A write of DMAc_CTRL: EN, RESUME, STOP, GO. -/
def State.dmaCtrlWrite (s : State) (i : Nat) (v new : Word) : State :=
  let on := (Reg.DMA_CTRL_EN i).get new
  let s := if on = s.get (Reg.DMA_CTRL_EN i) then s else if on = 1 then s.dmaEnable i else s.dmaDisable i
  let s := if (Reg.DMA_CTRL_RESUME i).get v = 1 then s.dmaResume i else s
  let s := if (Reg.DMA_CTRL_STOP i).get v = 1 then s.dmaStop i else s
  if (Reg.DMA_CTRL_GO i).get v = 1 then s.dmaArrive i s.now else s

/-- Writes to DMA, Strandline and Proex registers. -/
def State.actData (s : State) (a i : Nat) (v new : Word) : State :=
  if a = Reg.DMA_CTRL_addr i then s.dmaCtrlWrite i v new
  else if a = Reg.DMA_CNT_CLR_addr i then s.dmaClear i
  else if a = Reg.REC_CMD_addr then s.commitCommand (Reg.REC_CMD_CMD.get v)
  else if a = Reg.REC_CNT_CLR_addr then s.recClear
  else if a = Reg.PRX_CTRL_addr then if Reg.PRX_CTRL_DIV_CLR.get v = 1 then s.divClear else s
  else if a = Reg.PRX_CNT_CLR_addr then s.prxClear
  else s

/-- R566: CFG and PTR of a busy DMA channel. -/
def State.dmaLocked (s : State) (a i : Nat) : Bool :=
  decide (a = Reg.DMA_CFG_addr i ∨ a = Reg.DMA_PTR_addr i) && decide (s.dmState i ∈ [dmWait, dmLoad, dmRun, dmPause])

/-- A write of SYS_PWR: refused whole when it breaks Table 14.4 (R652); a key of 0 asks for nothing (R658; log entry 60). -/
def State.writePower (s : State) (r : RegRow) (v : Word) : State :=
  if ¬ s.powerOk (Reg.SYS_PWR_ON.get v) then s.wrej
  else
    let s := if r.reservedSet v then s.wrej else s
    let s := s.powerWrite (Reg.SYS_PWR_ON.get v)
    let key := Reg.SYS_PWR_STBY_KEY.get v
    if key = 0 then s else s.standbyRequest key

/-- A write of the register at `a`, row `r`, instance `i`, `j`, and what it sets off (R13, R14, R34, R566). -/
def State.regWrite (s : State) (r : RegRow) (a i j : Nat) (v : Word) : State :=
  if s.absent r i || (r.tile.isSome && s.dmaLocked a i) then s.wrej
  else if a = Reg.SYS_PWR_addr then s.writePower r v
  else
    let old := s.reg a
    let m := s.mergeWrite r a i v
    if ¬ m.fits then s.wrej
    else
      let held := (unitFields a i).foldl (fun (w : Word) f => f.put w (f.get old)) m.word
      let s := s.setReg a held
      let s := if m.rej then s.wrej else s
      ((((((s.actSystem a v).actAngle a i j v old m.word).actFront a i v old m.word).actService a i v old m.word).actPulse a).actLink a i v
        ).actData a i v m.word

/-! ### Memories (R73, R74) -/

/-- TRACE answers an access: it is on, or it drains and the access belongs to an admitted descriptor (R653, R655, R568). -/
def State.traceUp (s : State) (admitted : Bool) : Bool :=
  decide (s.domain 2 = 0) || (decide (s.domain 2 = 1) && admitted)

/-- Words of working memory that no master may write now: the tables of R216, R457, R505 and R610 while the Loom runs, the
transmit buffers that wait (R528). -/
def State.workLocked (s : State) (w : Nat) : Bool :=
  (s.running && decide (w < 0x1DB4 ∨ (0x2800 ≤ w ∧ w < 0x4800) ∨ (0x5600 ≤ w ∧ w < 0x56C0) ∨ (0x6000 ≤ w ∧ w < 0x7200)))
    || (decide (0x7200 ≤ w ∧ w < 0x7200 + 624 * 4 ∧ (w - 0x7200) % 624 < 208)
      && (s.get (Reg.CAN_TXREQ_TXREQ ((w - 0x7200) / 624))).testBit ((w - 0x7200) % 624 / 13))

/-- A master writes working memory; a signature table written so is no longer valid (R219). -/
def State.workWriteBy (s : State) (w : Nat) (v : Word) : State :=
  let s := s.workSet w v
  if w < 0x1000 then { s with learn := s.learn.mark (w / 0x400) false }.showSigValid else s

/-- A write that a reserved address gets (R72). -/
def State.reservedWrite (s : State) (m : Master) : State × Nat :=
  if m = .host then (s.wrej, ackAccept) else (s, ackError)

/-- A write of window word `w` of page `p` (Table 1.11). -/
def State.pageWrite (s : State) (m : Master) (admitted : Bool) (p w : Nat) (v : Word) : State × Nat :=
  if p < 4 then
    if s.traceUp admitted then (s.traceSet (32768 * p + w) v, ackAccept) else (s, ackOff)
  else if p = 4 then
    if s.workLocked w then (if m.isDma then (s, ackError) else (s.wrej, ackAccept)) else (s.workWriteBy w v, ackAccept)
  else if p < 7 then (s.wrej, ackAccept)
  else if p < 10 ∧ w < 21845 then s.storeWrite m.isDma (p - 7) w v
  else s.reservedWrite m

/-- What window word `w` of page `p` reads as; none for a reserved address. -/
def State.pageView (s : State) (p w : Nat) : Option Word :=
  if p < 4 then some (s.traceGet (32768 * p + w))
  else if p = 4 then some (s.workGet w)
  else if p < 7 then some (s.recView (32768 * (p - 5) + w))
  else if p < 10 ∧ w < 21845 then some (s.plyGet (p - 7) w)
  else none

/-! ### Accesses -/

/-- The write asks the STBY domain for standby while its clock is lost (R47; log entry 167). -/
def State.stbyLost (s : State) (a : Nat) (v : Word) : Bool :=
  decide (a = Reg.SYS_PWR_addr ∧ Reg.SYS_PWR_STBY_KEY.get v ≠ 0) && s.crossingOff 6

/-- A write by master `m` of word address `a`; the window shows page `p`. -/
def State.busWrite (s : State) (m : Master) (admitted : Bool) (p a : Nat) (v : Word) : State × Nat :=
  if 0x8000 ≤ a then s.pageWrite m admitted p (a - 0x8000) v
  else if s.stbyLost a v then (s, ackOff)
  else match regAt a with
    | some (r, i, j) => (s.regWrite r a i j v, ackAccept)
    | none => s.reservedWrite m

/-- The answer to a read by master `m` of what reads as `v`; none is a reserved address. -/
def State.readAnswer (s : State) (m : Master) (v : Option Word) : Word × State × Nat :=
  match v with
  | some w => (w, s, ackAccept)
  | none => (0, s, if m = .host then ackAccept else ackError)

/-- A read by master `m` of word address `a`: the word, the state after the effects of the read, the acknowledge digit. -/
def State.busRead (s : State) (m : Master) (admitted : Bool) (p a : Nat) : Word × State × Nat :=
  if 0x8000 ≤ a then
    if p < 4 ∧ ¬ s.traceUp admitted then (0, s, ackOff) else s.readAnswer m (s.pageView p (a - 0x8000))
  else
    (s.readEffect a).readAnswer m ((s.readEffect a).regView a)

end Sys2Proof.Machine
end

