-- ==== Sys2Proof/Machine/Beats.lean ====
section
/-!
DEFINITION. Descriptors and beats of the DMA channels (12_dma_and_strandline, R548 to R553, R557 to R562, R568), and the
grant of the internal bus (01_loom_fabric, R59 to R61; 11_links, R525).
-/
namespace Sys2Proof.Machine

/-! ### Addresses (R548, R549, R552) -/

/-- A DMA address names window memory. -/
def isWin (a : Nat) : Bool := decide (0x8000 ≤ a % 65536)

/-- PAGE and ADDR bits 14..0 of a window address as one value (R549). -/
def winVal (a : Nat) : Nat := a / 65536 * 32768 + a % 32768

/-- The window address of such a value. -/
def winAddr (v : Nat) : Nat := v / 32768 % 16 * 65536 + 32768 + v % 32768

/-- The address `k` increments after `a`, on a side that wraps in 2^`wrap` addresses when `wrap` is not 0 (R549, R552). -/
def stepAddr (a : Nat) (inc : Bool) (wrap k : Nat) : Nat :=
  if ¬ inc then a
  else
    let move := fun (v : Nat) => if wrap = 0 then v + k else v / 2 ^ wrap * 2 ^ wrap + (v + k) % 2 ^ wrap
    if isWin a then winAddr (move (winVal a)) else a / 65536 * 65536 + move (a % 65536) % 65536

/-- The bounds of the memory of Table 1.11 that a window value lies in. -/
def memoryOf (v : Nat) : Option (Nat × Nat) :=
  if v < 131072 then some (0, 131072)
  else if v < 163840 then some (131072, 163840)
  else if v < 229376 then some (163840, 229376)
  else if v < 327680 ∧ (v - 229376) % 32768 < 21845 then
    let b := v / 32768 * 32768
    some (b, b + 21845)
  else none

/-- The first addresses of the register blocks of Table 1.10, and the end of the last. -/
def blockStarts : List Nat :=
  [0x0000, 0x0400, 0x0800, 0x0C00, 0x1000, 0x1400, 0x1700, 0x1800, 0x1E00, 0x2000, 0x2400, 0x2800, 0x3000, 0x3400, 0x3800,
    0x3C00, 0x4000, 0x4400, 0x4800, 0x4C00, 0x5000]

/-- The end of the block that a register address lies in. -/
def blockEnd (a : Nat) : Nat := ((blockStarts.filter (fun b => decide (a < b)))[0]?).getD 0

/-- A region of `n` addresses lies inside one block or memory and touches no reserved address (R551). -/
def regionOk (a n : Nat) : Bool :=
  if isWin a then
    match memoryOf (winVal a) with
    | some (_, e) => decide (winVal a + n ≤ e)
    | none => false
  else
    decide (a < 65536 ∧ a + n ≤ blockEnd a) && (List.range n).all (fun k => (regAt (a + k)).isSome)

/-- A side of a descriptor keeps to R551. -/
def sideOk (a : Nat) (inc : Bool) (wrap count : Nat) : Bool :=
  if ¬ inc then decide (wrap = 0) && regionOk a 1
  else if wrap = 0 then regionOk a count
  else decide (wrap ≤ 17) && regionOk
    (if isWin a then winAddr (winVal a / 2 ^ wrap * 2 ^ wrap) else a / 2 ^ wrap * 2 ^ wrap) (2 ^ wrap)

/-! ### Accesses -/

/-- A read of a DMA address; a word of an event FIFO is consumed as the read completes (R521). -/
def State.dmaRead (s : State) (c : Nat) (admitted : Bool) (a : Nat) : Word × State × Nat :=
  if ¬ isWin a ∧ 65536 ≤ a then (0, s, ackError)
  else
    let adr := a % 65536
    let r := s.busRead (.dma c) admitted (a / 65536) adr
    if r.2.2 ≠ ackAccept then r
    else if adr = Reg.SYS_EVPOP_addr then (r.1, r.2.1.evConsume, ackAccept)
    else if adr = Reg.PRX_PEVPOP_addr ∧ s.hasTile 0x10 0 then (r.1, r.2.1.pevConsume, ackAccept)
    else r

/-- A write of a DMA address. -/
def State.dmaWrite (s : State) (c : Nat) (admitted : Bool) (a : Nat) (v : Word) : State × Nat :=
  if ¬ isWin a ∧ 65536 ≤ a then (s, ackError) else s.busWrite (.dma c) admitted (a / 65536) (a % 65536) v

/-! ### Loading (R70, R550, R551) -/

/-- The fetch of four words from `a`: the words, the state, and the address and digit of the first that was not accepted. -/
def State.fetchWords (s : State) (c a : Nat) : Nat → List Word × State × Option (Nat × Nat)
  | 0 => ([], s, none)
  | n + 1 =>
    let r := s.dmaRead c false a
    if r.2.2 ≠ ackAccept then ([], r.2.1, some (a, r.2.2))
    else
      let q := r.2.1.fetchWords c (stepAddr a true 0 1) n
      (r.1 :: q.1, q.2)

/-- The descriptor that four words hold (Table 12.1). -/
def descOf (ws : List Word) : Desc :=
  let w := fun k => (ws.getD k 0).toNat
  let b := fun lo n => bitsOf (w 0) lo n
  let mode := b 46 2
  { mode, sinc := b 45 1 == 1, dinc := b 44 1 == 1, swrap := b 39 5, dwrap := b 34 5, last := b 33 1 == 1, cpl := b 28 5
    count := b 0 18, src := if mode % 2 = 0 then w 1 % 2 ^ 20 else w 1, dst := w 2 % 2 ^ 20, next := w 3 % 2 ^ 20 }

/-- The descriptor passes the checks of R70 and R551. -/
def descOk (ws : List Word) : Bool :=
  let w := fun k => (ws.getD k 0).toNat
  let d := descOf ws
  decide (bitsOf (w 0) 18 10 = 0 ∧ (d.mode % 2 = 1 ∨ w 1 < 2 ^ 20) ∧ w 2 < 2 ^ 20 ∧ w 3 < 2 ^ 20
      ∧ d.count ≠ 0 ∧ d.cpl ≤ 17 ∧ d.swrap ≤ 17 ∧ d.dwrap ≤ 17)
    && (d.sinc || decide (d.swrap = 0)) && regionOk d.next 1 && sideOk d.dst d.dinc d.dwrap d.count
    && (decide (d.mode % 2 = 1) || sideOk d.src d.sinc d.swrap d.count)

/-- The address of the source and the destination of beat `k`. -/
def Desc.srcAt (d : Desc) (k : Nat) : Nat := stepAddr d.src d.sinc d.swrap k
def Desc.dstAt (d : Desc) (k : Nat) : Nat := stepAddr d.dst d.dinc d.dwrap k

/-- Issues beats while fewer than two are in flight (R558); none after one that failed for good (Table 12.5). -/
def State.dmaIssue (s : State) (c : Nat) : Nat → State
  | 0 => s
  | n + 1 =>
    let k := s.ch c
    match k.desc with
    | none => s
    | some d =>
      if k.flight.length < 2 ∧ k.issued < d.count ∧ k.failed.isNone then
        let beat : Beat := { idx := k.issued, src := d.srcAt k.issued, dst := d.dstAt k.issued, asked := s.now }
        let i := k.issued + 1
        let s := s.setCh c { k with issued := i, flight := k.flight ++ [beat] }
        let s := (s.set (Reg.DMA_STAT_COUNT c) (d.count - i)).set (Reg.DMA_CUR_DST c) (d.dstAt i)
        let s := if d.mode % 2 = 0 then s.set (Reg.DMA_CUR_SRC c) (d.srcAt i) else s
        s.dmaIssue c n
      else s

/-! ### The accesses of a beat (R553, Table 12.2) -/

/-- A compared pair of words of beat `k` (R553). -/
def State.dmaCompare (s : State) (c k : Nat) (x y : Word) : State :=
  if x = y then s
  else
    let s := if s.is (Reg.DMA_CMP_MISM c) then s else (s.set (Reg.DMA_CMP_MISM c) 1).set (Reg.DMA_CMP_FIRST c) k
    s.inc (Reg.DMA_CMP_MISMS c)

/-- The accesses of a beat: the state, the digit, and the address that was not accepted (Table 12.2). -/
def State.beatAccess (s : State) (c : Nat) (d : Desc) (b : Beat) : State × Nat × Nat :=
  let adm := (s.ch c).admitted
  let fill : Word := BitVec.ofNat 48 d.src
  let r := if d.mode % 2 = 0 then s.dmaRead c adm b.src else (fill, s, ackAccept)
  if r.2.2 ≠ ackAccept then (r.2.1, r.2.2, b.src)
  else if d.mode < 2 then
    let q := r.2.1.dmaWrite c adm b.dst r.1
    (q.1, q.2, b.dst)
  else
    let q := r.2.1.dmaRead c adm b.dst
    if q.2.2 ≠ ackAccept then (q.2.1, q.2.2, b.dst) else (q.2.1.dmaCompare c b.idx r.1 q.1, ackAccept, b.dst)

/-- A beat into TRACE was accepted: the descriptor is admitted (R568). -/
def touchesTrace (d : Desc) (b : Beat) : Bool :=
  let tr := fun a => isWin a && decide (a / 65536 < 4)
  tr b.dst || (decide (d.mode % 2 = 0) && tr b.src)

/-! ### The grant of the internal bus (R59 to R61, R525, R557) -/

/-- A request that waits at the internal bus: when it arrived, its time word, its master's index. -/
structure BusReq where
  asked : Word
  time : Word
  idx : Nat
deriving DecidableEq, Repr

/-- The request of channel `c` that the bus has not served: its descriptor fetch, or its oldest such beat (R557). -/
def State.dmaRequest (s : State) (c : Nat) : Option BusReq :=
  let k := s.ch c
  let req := fun (a : Word) => ({ asked := a, time := k.time, idx := (Master.dma c).index } : BusReq)
  if s.dmState c = dmLoad then if k.fetched.isNone then some (req k.asked) else none
  else if s.dmState c = dmRun then (k.flight.find? (fun b => b.ans.isNone)).map (fun b => req b.asked)
  else none

/-- The requests of the DMA channels. -/
def State.busRequests (s : State) : List BusReq := (List.range 16).filterMap s.dmaRequest

/-- The request that the bus serves next: of those that arrived within 8 ns of the first, the earliest time word, then the lowest
master index (R59, R61, R525; 8 ns are 12.8 LSB, log entry 135). -/
def busWinner (l : List BusReq) : Option BusReq :=
  match l with
  | [] => none
  | r :: rest =>
    let a := rest.foldl (fun a x => if sdiff x.asked a < 0 then x.asked else a) r.asked
    (l.filter (fun x => decide (elapsed a x.asked ≤ 12))).foldl (fun w x => match w with
      | none => some x
      | some y => if sdiff x.time y.time < 0 ∨ (x.time = y.time ∧ x.idx < y.idx) then some x else w) none

/-- The bus serves the descriptor fetch of channel `c`, from the first word that has not been accepted; at a PTR that is no multiple of 4
nothing is fetched (R551, R560). A word that is reached anew has all its retries. -/
def State.grantFetch (s : State) (c : Nat) : State :=
  let p := s.get (Reg.DMA_PTR_PTR c)
  let got := (s.ch c).got
  let r := if p % 4 = 0 then s.fetchWords c (stepAddr p true 0 got.length) (4 - got.length) else ([], s, none)
  let k := r.2.1.ch c
  r.2.1.setCh c { k with fetched := some (got ++ r.1, r.2.2), tries := if r.1 = [] then k.tries else 0 }

/-- The bus serves the oldest beat of channel `c` that it has not served (R568). -/
def State.grantBeat (s : State) (c : Nat) : State :=
  match (s.ch c).desc, (s.ch c).flight.find? (fun b => b.ans.isNone) with
  | some d, some b =>
    let r := s.beatAccess c d b
    let k := r.1.ch c
    let wrote := decide (r.2.1 ≠ ackAccept ∧ d.mode < 2) && (b.wrote || decide (r.2.2 = b.dst))
    r.1.setCh c { k with
      flight := k.flight.map (fun x => if x.idx = b.idx then { x with ans := some (r.2.1, r.2.2), wrote } else x)
      admitted := k.admitted || (decide (r.2.1 = ackAccept) && touchesTrace d b) }
  | _, _ => s

/-- The bus serves channel `c`. -/
def State.grantBus (s : State) (c : Nat) : State :=
  if s.dmState c = dmLoad then s.grantFetch c else s.grantBeat c

/-- The bus serves the channels that win before the request `own` of another master. -/
def State.grantsBefore (s : State) (own : BusReq) : Nat → State
  | 0 => s
  | n + 1 => match busWinner (own :: s.busRequests) with
    | some r => if r = own then s else (s.grantBus (r.idx - 2)).grantsBefore own n
    | none => s

/-- The bus serves the channels that win before channel `c`, and it (R59). -/
def State.grantsTo (s : State) (c : Nat) : Nat → State
  | 0 => s
  | n + 1 => match busWinner s.busRequests with
    | some r => if r.idx = (Master.dma c).index then s.grantBus c else (s.grantBus (r.idx - 2)).grantsTo c n
    | none => s

/-- The most requests that the channels can have at the bus. -/
abbrev busFuel : Nat := 40

/-! ### Responses (R559 to R561) -/

/-- An access is requested again after ERROR: FAIL.RETRIES is raised by 1, saturating (Table 12.5). -/
def State.dmaRetried (s : State) (c : Nat) : State :=
  s.set (Reg.DMA_FAIL_RETRIES c) (min (s.get (Reg.DMA_FAIL_RETRIES c) + 1) 7)

/-- The fetch of the descriptor at PTR completes: its check passes, or completes the load with ERROR and halts
the channel with LOAD_ERR; the address of a failed check is PTR (R70, R551, R560, R561; log entry 147). -/
def State.fetchAnswer (s : State) (c : Nat) : State :=
  let p := s.get (Reg.DMA_PTR_PTR c)
  let retry := s.get (Reg.DMA_CFG_RETRY c)
  match (s.ch c).fetched with
  | none => s
  | some (ws, some (a, ack)) =>
    if ack = ackOff then s.dmaToPause c
    else if ack = ackBusy then s.setCh c { s.ch c with fetched := none, got := ws, asked := s.now }
    else if (s.ch c).tries < retry then
      (s.setCh c { s.ch c with fetched := none, got := ws, asked := s.now, tries := (s.ch c).tries + 1 }).dmaRetried c
    else (s.dmaFail c a ack (s.ch c).tries).dmaHalt c hcLoad
  | some (ws, none) =>
    if p % 4 ≠ 0 ∨ ¬ descOk ws then (s.dmaFail c p ackError (s.ch c).tries).dmaHalt c hcLoad
    else
      let s := s.setCh c { s.ch c with
        desc := some (descOf ws), issued := 0, flight := [], admitted := false, failed := none, fetched := none }
      let s := (s.set (Reg.DMA_CMP_MISM c) 0).set (Reg.DMA_CMP_FIRST c) 0
      (s.dmGo c dmRun).dmaIssue c 2

/-- The responses to the descriptor fetch arrive. -/
def State.descriptorLoad (s : State) (c : Nat) : State :=
  if ¬ s.dmaOn ∨ s.dmState c ≠ dmLoad then s
  else
    let s := if (s.ch c).fetched.isNone then s.grantsTo c busFuel else s
    if s.dmState c = dmLoad then s.fetchAnswer c else s

/-- DMA_DESCRIPTOR_LOAD. -/
def execDmaDescriptorLoad (t : Word) (c : Fin 16) (s : State) : Out :=
  let s := s.at t
  .next (if s.early (.dmaDescriptorLoad t c) then s.passed (.dmaDescriptorLoad t c) else s.descriptorLoad c)

/-- The target word of a write that was made and did not complete with ACCEPT is undefined (R561). Only RAM can be meant: a weave store
that is locked keeps its words (R95, R102), registers and reserved addresses are not written. -/
def State.undefineTarget (s : State) (d : Desc) (b : Beat) : State :=
  if 2 ≤ d.mode ∨ ¬ isWin b.dst then s
  else
    let v := winVal b.dst
    let f := s.free
    if v < 131072 then f.2.traceSet v f.1
    else if v < 163840 then f.2.workSet (v - 131072) f.1
    else s

/-- The channel halts: the target words of its writes that were made and did not complete with ACCEPT are undefined (R561). -/
def State.dmaTorn (s : State) (c : Nat) (d : Desc) : State :=
  (((s.ch c).flight.filter (fun b => b.wrote)).foldl (fun s b => s.undefineTarget d b) s).dmaHalt c hcTorn

/-- The accepted beat leaves; the descriptor ends, halts for an older failure, or goes on (R559, Table 12.5). -/
def State.beatDone (s : State) (c : Nat) (d : Desc) (b : Beat) : State :=
  let k := s.ch c
  let s := s.setCh c { k with flight := k.flight.drop 1 }
  if k.failed.isSome then s.dmaHalt c hcBeat
  else if b.idx + 1 = d.count then s.dmaEnd c d
  else s.dmaIssue c 2

/-- ERROR with every retry used: FAIL, and the halt once no beat is in flight (Table 12.5). -/
def State.beatFailed (s : State) (c : Nat) (d : Desc) (b : Beat) (a : Nat) : State :=
  let s := s.dmaFail c a ackError b.retries
  let s := if a = b.dst then s.undefineTarget d b else s
  let k := s.ch c
  let rest := k.flight.drop 1
  let s := s.setCh c { k with flight := rest, failed := some a }
  if k.failed.isSome then s.dmaHalt c hcBeat
  else if b.idx + 1 = d.count then s.dmaHalt c hcTail
  else if rest = [] then s.dmaHalt c hcBeat
  else s

/-- The oldest beat in flight is requested again (R558). -/
def State.beatAgain (s : State) (c retries : Nat) : State :=
  let k := s.ch c
  s.setCh c { k with flight := match k.flight with
    | b :: rest => { b with retries, ans := none, asked := s.now } :: rest
    | [] => [] }

/-- The response to the oldest beat in flight, which the bus has served (Table 12.5). -/
def State.beatAnswer (s : State) (c : Nat) : State :=
  match (s.ch c).desc, (s.ch c).flight with
  | some d, b :: _ => match b.ans with
    | none => s
    | some (0, _) => s.beatDone c d b
    | some (1, _) => s.beatAgain c b.retries
    | some (2, a) =>
      if b.retries < s.get (Reg.DMA_CFG_RETRY c) then
        (s.beatAgain c (b.retries + 1)).dmaRetried c
      else s.beatFailed c d b a
    | some (_, a) =>
      if b.idx = 0 then s.dmaToPause c
      else (s.dmaFail c a ackOff b.retries).dmaTorn c d
  | _, _ => s

/-- The response to the oldest beat in flight arrives. -/
def State.beatResponse (s : State) (c : Nat) (busy : Bool) : State :=
  if s.dmState c ≠ dmRun then s
  else match (s.ch c).flight with
    | [] => s
    | b :: _ =>
      if b.ans.isSome then s.beatAnswer c
      else if busy then s.beatAgain c b.retries
      else
        let s := s.grantsTo c busFuel
        if s.dmState c = dmRun then s.beatAnswer c else s

/-- DMA_BEAT_RESPONSE: the response to the oldest beat in flight arrives; `busy` when the target answered BUSY to a beat that the
bus had not served before (R560; log entry 132). -/
def execDmaBeatResponse (t : Word) (c : Fin 16) (busy : Bool) (s : State) : Out :=
  let s := s.at t
  .next (if s.early (.dmaBeatResponse t c busy) then s.passed (.dmaBeatResponse t c busy) else s.beatResponse c busy)

/-! ### The turn of another master (R59 to R61) -/

/-- The instant of a command that can bring a channel's request to the bus. -/
def dmaTime : Instr → Option Word
  | .dmaGo t _ | .dmaTrigger t _ | .dmaResume t _ | .dmaEnable t _ | .dmaDomainReturn t _ | .dmaDescriptorLoad t _
  | .dmaBeatResponse t _ _ => some t
  | _ => none

/-- What such a command does. -/
def State.dmaMove (s : State) (c : Instr) : State :=
  match c with
  | .dmaGo _ k => s.dmaGo k
  | .dmaTrigger _ k => s.dmaTrigger k
  | .dmaResume _ k => s.dmaResume k
  | .dmaEnable _ k => s.dmaSwitchOn k
  | .dmaDomainReturn _ k => s.dmaReturn k
  | .dmaDescriptorLoad _ k => s.descriptorLoad k
  | .dmaBeatResponse _ k busy => s.beatResponse k busy
  | _ => s

/-- Command `c` of the queue carried out already, where it is one that can bring a channel's request to the bus, comes within 8 ns (12 LSB)
of now and has not been carried out (R61; log entries 132, 135). -/
def State.dmaSoon (s : State) (c : Instr) : Option State :=
  match dmaTime c with
  | some t => if elapsed s.now t ≤ 12 ∧ ¬ s.early c then some ((s.at t).dmaMove c) else none
  | none => none

/-- Where command `c` brings a request that wins before `own`, it is carried out and its request served. -/
def State.turnSoon (own : BusReq) (s : State) (c : Instr) : State :=
  match s.dmaSoon c with
  | some x => if busWinner (own :: x.busRequests) = some own then s else ((x.grantsBefore own busFuel).at s.now).took c
  | none => s

/-- An access of master `m` reaches the bus now: of the requests that wait and those that arrive within 8 ns, the ones that win before it
are served first (R59 to R61). -/
def State.busTurn (s : State) (m : Master) : State :=
  let own : BusReq := { asked := s.now, time := s.now, idx := m.index }
  let s := s.grantsBefore own busFuel
  s.pending.foldl (State.turnSoon own) s

/-! ### The drain timeout (R570, R654) -/

/-- The beat that completes with DOMAIN_OFF when the drain times out, with the retries used: the oldest in flight that was not accepted,
else the next to be issued, else the oldest in flight. -/
def DmaChan.tornBeat (k : DmaChan) (d : Desc) : Beat :=
  match k.flight.filter (fun b => decide (b.ans.map Prod.fst ≠ some ackAccept)), k.flight with
  | b :: _, _ => b
  | [], b :: _ => if k.issued < d.count then { idx := k.issued, src := d.srcAt k.issued, dst := d.dstAt k.issued } else b
  | [], [] => { idx := k.issued, src := d.srcAt k.issued, dst := d.dstAt k.issued }

/-- A channel with beats left when the drain times out is torn: FAIL has the address in the domain (R561, R570). -/
def State.drainTear (s : State) (c : Nat) : State :=
  match (s.ch c).desc with
  | none => s.dmaHalt c hcTorn
  | some d =>
    let b := (s.ch c).tornBeat d
    (s.dmaFail c (if b.dst / 65536 < 4 ∧ 0x8000 ≤ b.dst % 65536 then b.dst else b.src) ackOff b.retries).dmaTorn c d

/-- The responses of this instant to channel `c` that still wait in the queue. -/
def State.responsesNow (s : State) (c : Nat) : List Bool :=
  s.pending.filterMap (fun i => match i with
    | .dmaBeatResponse t d busy => if t = s.now ∧ d.val = c then some busy else none
    | _ => none)

/-- The drain of domain `d` times out at channel `c`: a response that arrives at this instant is taken before (R654). -/
def State.drainExpire (s : State) (d c : Nat) : State :=
  let s := (s.responsesNow c).foldl (fun s busy => s.beatResponse c busy) s
  if c ∈ s.admittedTo d then s.drainTear c else s

/-- DRAIN_TIMEOUT: 200 µs in DRAIN; channels with beats left are torn (R570, R654). -/
def execDrainTimeout (t : Word) (d : Fin 6) (s : State) : Out :=
  let s := s.at t
  .next (if s.domain (d + 2) = pdDrain ∧ 200 * us ≤ elapsed (vget s.supply.domAt d) t then
      let s := (s.admittedTo (d + 2)).foldl (fun s c => s.drainExpire (d + 2) c) (s.inc Reg.SYS_PWRSTAT_TIMEOUTS)
      s.domainOff (d + 2)
    else s)

end Sys2Proof.Machine
end

