-- ==== Sys2Proof/Machine/Merge.lean ====
section
/-!
DEFINITION. The event merge (01_loom_fabric, R63 to R67; 11_links, R519 to R524): the next report gets its ESN and goes to
the host's FIFO, the partner, Strandline, the links and the pair FIFO.
-/
namespace Sys2Proof.Machine

/-- The entry of a report with its ESN (Table 11.4). -/
def State.entryOf (s : State) (r : Report) (esn : Nat) : Entry :=
  { w0 := BitVec.ofNat 48 (r.src % 256 * 2 ^ 40 + r.idx % 256 * 2 ^ 32 + esn)
    w1 := BitVec.ofNat 48 (r.code % 256 * 2 ^ 40 + r.arg % 2 ^ 40)
    w2 := r.time.getD s.now }

/-- IRQ_LEVEL as a number of entries: 0 stands for 256 (Table 11.15). -/
def State.irqLevel (s : State) : Nat :=
  let n := s.get Reg.SYS_EVSTAT_IRQ_LEVEL
  if n = 0 then 256 else n

/-- A host frame of 80 bits ends at the instant of the command. -/
def frameAt (t : Word) (c : Instr) : Bool :=
  match c with
  | .hostRead u _ _ | .hostWrite u _ _ _ | .hostNop u _ | .eventPop u _ | .pairEventPop u _ => decide (u = t)
  | .hostFrameError u f => decide (u = t ∧ f ≠ .length)
  | _ => false

/-- The response to a beat of channel `c` that the bus has not served brings a word of the event FIFO: the oldest beat in flight reads
SYS_EVPOP (Table 12.2). -/
def State.beatPops (s : State) (c : Nat) : Bool :=
  match (s.ch c).desc, (s.ch c).flight with
  | some d, b :: _ => b.ans.isNone
      && ((decide (d.mode % 2 = 0) && decide (b.src = Reg.SYS_EVPOP_addr)) || (decide (2 ≤ d.mode) && decide (b.dst = Reg.SYS_EVPOP_addr)))
  | _, _ => false

/-- A DMA read of SYS_EVPOP completes at this instant: the response waits in the queue (R521, R523; log entry 144). -/
def State.dmaPops (s : State) : Bool :=
  s.pending.any (fun i => match i with
    | .dmaBeatResponse u c false => decide (u = s.now ∧ s.dmState c = dmRun) && !s.early i && s.beatPops c
    | _ => false)

/-- The oldest entry leaves the FIFO at this instant: a host or debug frame, or the response to a DMA beat, that waits in the queue
consumes its word 2 (R521, R523; log entry 144). -/
def State.entryLeaves (s : State) : Bool :=
  match s.fifo with
  | [] => false
  | e :: _ =>
    let last := decide (s.host.popped = 2)
    (last && s.dmaPops) || (last && decide (s.host.resp.pop = some (false, e, 2)) && s.pending.any (frameAt s.now))
      || (last && decide (s.host.jtag.resp.pop = some (false, e, 2)) && s.pending.any (fun c => match c with
        | .jtagDbgAccess u _ _ _ _ => decide (u = s.now)
        | _ => false))

/-- An entry arrives at the event FIFO; a departure of the same instant comes before it (R519, R522, R523); reaching IRQ_LEVEL is a DMA trigger (Table 12.3). -/
def State.fifoPush (s : State) (e : Entry) : State :=
  let held := if s.entryLeaves then s.fifo.length - 1 else s.fifo.length
  if 256 ≤ held then (s.stick Reg.SYS_EVSTAT_OVF 1).inc Reg.SYS_EVSTAT_LOST
  else
    let s := { s with fifo := s.fifo ++ [e] }.evShow
    if held + 1 = s.irqLevel then s.dmaPulse 4 0 s.now else s

/-- The bytes of an EVENT frame: the entry, KCYC, KANG (Table 13.3). -/
def eventPayload (e : Entry) (key : Nat) : List Nat :=
  wordBytes [e.w0, e.w1, e.w2] ++ beBytes 4 (key / W48) ++ beBytes 6 (key % W48)

/-- What a record commit does once its event has an ESN: the record is completed and copied (R448, R530, R534,
Table 13.6). -/
def State.recordCopies (s : State) (j esn : Nat) : State :=
  match (s.cmb j).merge with
  | [] => s
  | (_, ws) :: _ =>
    let ws := ws.set 1 ((ws.getD 1 0) ||| BitVec.ofNat 48 esn)
    let s := (s.recordMerged j esn).canResult j ws
    (s.streamAll 2 (ws.take 12) esn).proexQueue 4 (wordBytes (ws.take 12))

/-- The report gets the next ESN and its copies (R63, R64, R520, R584, R627, R629). -/
def State.mergeReport (s : State) (r : Report) : State :=
  let esn := (s.get Reg.SYS_ESN_LAST + 1) % 2 ^ 32
  let s := (s.set Reg.SYS_ESN_LAST esn).moveKey
  let e := s.entryOf r esn
  let s := (s.fifoPush e).recTriggers r.src r.code
  let s := s.streamAll 3 [e.w0, e.w1, e.w2] esn
  let s := s.proexQueue 3 (eventPayload e s.pair.key)
  let s := s.pairPush { ev := e, key := s.pair.key, bSide := s.sideB }
  if r.src = 8 then s.recordCopies r.idx esn else s

/-- The oldest report that waits is merged, once the reset event stands before all others (R63, R646). -/
def State.mergeNext (s : State) : State :=
  match s.reports with
  | [] => s
  | r :: rest => if s.mergeOpen then { s with reports := rest }.mergeReport r else s

/-- `n` reports are merged. -/
def State.mergeAll (s : State) : Nat → State
  | 0 => s
  | n + 1 => s.mergeNext.mergeAll n

/-- EVENT_MERGE: the oldest report that waits is merged, once the reset event stands before all others (R63, R646). -/
def execEventMerge (t : Word) (s : State) : Out :=
  let s := s.at t
  .next s.mergeNext

end Sys2Proof.Machine
end

