-- ==== Sys2Proof/Machine/Host.lean ====
section
/-!
DEFINITION. Register writes by the host, frames of the host SPI and of JTAG DBG_ACCESS (01_loom_fabric, R14, R65; 11_links, R511 to
R521, R545; R629 for the pair FIFO).
-/
namespace Sys2Proof.Machine

/-- The host writes a register that has no command of its own (R14). -/
def State.registerWrite (s : State) (a : Nat) (v : Word) : State :=
  if s.power = .up then
    let s := s.busTurn .host
    (s.busWrite .host false (s.get Reg.SYS_PAGE_PAGE) a v).1
  else s

/-- REGISTER_WRITE. -/
def execRegisterWrite (t : Word) (addr : Fin 65536) (value : Word) (s : State) : Out :=
  let s := s.at t
  .next (if s.early (.registerWrite t addr value) then s.passed (.registerWrite t addr value) else s.registerWrite addr value)

/-! ### Frames (R511 to R516) -/

/-- The fields of an 80-bit frame, bit 79 shifted in first (Table 11.1). -/
def frameOpcode (w : Nat) : Nat := bitsOf w 72 8
def frameAddr (w : Nat) : Fin 65536 := Fin.ofNat 65536 (w / 2 ^ 56)
def frameCrc (w : Nat) : Nat := bitsOf w 48 8
def frameData (w : Nat) : Word := BitVec.ofNat 48 w

/-- The CRC of a frame with this OPCODE and ADDR (Table 11.1, R512). -/
def frameCheck (op a : Nat) : Nat := crc8 [op, a / 256 % 256, a % 256]

/-- The command of a host frame that ends at `t`: `edges` rising edges of HSCK were seen while HCS_N was low, and the last 80 bits are
`w` (R511, R513 to R515, Table 11.2). -/
def hostCommand (t : Word) (edges w : Nat) (late : Bool) : Instr :=
  let a := frameAddr w
  if edges ≠ 80 then .hostFrameError t .length
  else if frameCrc w ≠ frameCheck (frameOpcode w) a then .hostFrameError t (.crc (BitVec.ofNat 16 a))
  else match frameOpcode w with
    | 0x11 =>
      if a.val = Reg.SYS_EVPOP_addr then .eventPop t late
      else if a.val = Reg.PRX_PEVPOP_addr then .pairEventPop t late
      else .hostRead t a late
    | 0x22 => .hostWrite t a (frameData w) late
    | 0x44 => .hostNop t a
    | _ => .hostFrameError t (.opcode (BitVec.ofNat 16 a))

/-- The command of an Update-DR under DBG_ACCESS with `w` in the 80-bit data register (R545). -/
def debugCommand (t : Word) (w : Nat) : Instr :=
  .jtagDbgAccess t (Fin.ofNat 256 (frameOpcode w)) (frameAddr w) (Fin.ofNat 256 (frameCrc w)) (frameData w)

/-- The 80 bits of a response, bit 79 first on HMISO (Table 11.3, R516); RCRC covers STATUS and ADDR. -/
def Response.bits (r : Response) : Nat :=
  r.status * 2 ^ 72 + r.addr * 2 ^ 56 + frameCheck r.status r.addr * 2 ^ 48 + r.data.toNat

/-- HMISO at bit `k` of a frame, 0 for the first: the response to the previous frame, and high-impedance while HCS_N is high (R511,
R516). -/
def State.hmiso (s : State) (hcsHigh : Bool) (k : Nat) : Option Bool :=
  if hcsHigh then none else some (s.host.resp.bits.testBit (79 - k))

/-! STATUS codes of a response (Table 11.3). -/

abbrev rsNone : Nat := 0
abbrev rsOk : Nat := 1
abbrev rsCrc : Nat := 2
abbrev rsOpcode : Nat := 3
abbrev rsBus : Nat := 4
abbrev rsLate : Nat := 5
abbrev rsLength : Nat := 6

/-- A frame of the right length has shifted the response `r` out: the word it carried is consumed if it is still the next
(R521, R629). -/
def State.shiftedOut (s : State) (r : Response) : State :=
  match r.pop with
  | some (false, e, k) => if s.fifo.head? = some e ∧ s.host.popped = k then s.evConsume else s
  | some (true, e, k) => if s.pair.fifo.head?.map (·.ev) = some e ∧ s.pair.popped = k then s.pevConsume else s
  | none => s

/-- Which word a read of SYS_EVPOP or PRX_PEVPOP carries. -/
def State.popOf (s : State) (a : Nat) : Option (Bool × Entry × Nat) :=
  if a = Reg.SYS_EVPOP_addr then s.fifo.head?.map (fun e => (false, e, s.host.popped))
  else if a = Reg.PRX_PEVPOP_addr ∧ s.hasTile 0x10 0 then
    match s.pair.fifo with
    | e :: _ => if s.released e then some (true, e.ev, s.pair.popped) else none
    | [] => none
  else none

/-- The status bits that a report tells of, each with its value before (Table 14.9; 0x16 of Table 11.5). -/
def toldBits (r : Report) : List (Fld × Nat) :=
  let seen := fun (c : Nat) => if c = 0 then [] else [((⟨Reg.SAF_CAUSE_addr, c - 1, 1⟩ : Fld), 0)]
  let before := 1 - bitsOf r.arg 39 1
  match r.src, r.code with
  | 0x18, 1 | 0x18, 2 => seen (bitsOf r.arg 29 5)
  | 0x18, 3 => [(Reg.SYS_SUPPLY_EBB, before)]
  | 0x18, 5 => [(Reg.SYS_START_LATE, 0), (Reg.SYS_START_READY, 0)]
  | 0x18, 6 => [(Reg.SYS_SUPPLY_SENS_LOW, before)]
  | 0x18, 8 => (Reg.SAF_STAT_STFAIL, 0) :: seen 25
  | 0x16, 2 => [(if r.arg < 2 ^ 39 then Reg.WM_STAT_STF r.idx else Reg.SM_STAT_STF r.idx, 0)]
  | _, _ => []

/-- What the host sees of the word `w` of register `a`: a status bit whose event still waits for the reset event shows its value before
(R65, R646; log entry 143). -/
def State.veil (s : State) (a : Nat) (w : Word) : Word :=
  s.reports.foldr (fun r w => (toldBits r).foldl (fun w b => if b.1.addr = a then b.1.put w b.2 else w) w) w

/-- The access of a READ and its response (R515 to R518). -/
def State.frameRead (s : State) (m : Master) (a : Nat) (late : Bool) : State × Response :=
  let s := s.busTurn m
  let pop := s.popOf a
  let r := s.busRead m false (s.get Reg.SYS_PAGE_PAGE) a
  let resp : Response :=
    if late then { status := rsLate, addr := a }
    else if r.2.2 ≠ ackAccept then { status := rsBus, addr := a }
    else { status := rsOk, addr := a, data := if s.mergeOpen then r.1 else s.veil a r.1, pop }
  (r.2.1, resp)

/-- The access of a WRITE and its response; a late one takes effect all the same (R517). -/
def State.frameWrite (s : State) (m : Master) (a : Nat) (v : Word) (late : Bool) : State × Response :=
  let s := s.busTurn m
  let r := s.busWrite m false (s.get Reg.SYS_PAGE_PAGE) a v
  (r.1, { status := if late then rsLate else if r.2 = ackAccept then rsOk else rsBus, addr := a })

/-- The response to the next host frame; LATES counts (Table 11.15). -/
def State.respond (s : State) (r : Response) : State :=
  let s := { s with host := { s.host with resp := r } }
  if r.status = rsLate then s.inc Reg.LNK_HSPI_LATES else s

/-- HOST_READ; `late` when HCS_N asserts again before the access completes (R517). Events whose status bits the read may show enter
the FIFO before it (R65). -/
def State.hostRead (s : State) (a : Nat) (late : Bool) : State :=
  if s.power ≠ .up then s
  else
    let s := s.shiftedOut s.host.resp
    let s := s.mergeAll s.reports.length
    let r := s.frameRead .host a late
    r.1.respond r.2

/-- HOST_READ. -/
def execHostRead (t : Word) (addr : Fin 65536) (late : Bool) (s : State) : Out :=
  let s := s.at t
  .next (if s.early (.hostRead t addr late) then s.passed (.hostRead t addr late) else s.hostRead addr late)

/-- A valid WRITE frame (R515). -/
def State.hostWrite (s : State) (a : Nat) (v : Word) (late : Bool) : State :=
  if s.power ≠ .up then s
  else
    let s := s.shiftedOut s.host.resp
    let r := s.frameWrite .host a v late
    if r.1.power = .up then r.1.respond r.2 else r.1

/-- HOST_WRITE. -/
def execHostWrite (t : Word) (addr : Fin 65536) (value : Word) (late : Bool) (s : State) : Out :=
  let s := s.at t
  .next (if s.early (.hostWrite t addr value late) then s.passed (.hostWrite t addr value late) else s.hostWrite addr value late)

/-- HOST_NOP: no access; ADDR as received (R515, Table 11.3). -/
def execHostNop (t : Word) (addr : Fin 65536) (s : State) : Out :=
  let s := s.at t
  .next (if s.power ≠ .up then s else (s.shiftedOut s.host.resp).respond { status := rsOk, addr })

/-- HOST_FRAME_ERROR (R513 to R515): a frame of a wrong length is discarded; one with a wrong CRC or an unknown opcode is not
executed, but has shifted the response out. -/
def execHostFrameError (t : Word) (f : FrameFault) (s : State) : Out :=
  let s := s.at t
  .next (if s.power ≠ .up then s
    else match f with
      | .length => (s.inc Reg.LNK_HSPI_LENERR).respond { status := rsLength }
      | .crc a => ((s.shiftedOut s.host.resp).inc Reg.LNK_HSPI_CRCERR).respond { status := rsCrc, addr := a.toNat }
      | .opcode a => (s.shiftedOut s.host.resp).respond { status := rsOpcode, addr := a.toNat })

/-- EVENT_POP: the host reads SYS_EVPOP (R521). -/
def execEventPop (t : Word) (late : Bool) (s : State) : Out :=
  let s := s.at t
  .next (if s.early (.eventPop t late) then s.passed (.eventPop t late) else s.hostRead Reg.SYS_EVPOP_addr late)

/-- PAIR_EVENT_POP: the host reads PRX_PEVPOP (R629). -/
def execPairEventPop (t : Word) (late : Bool) (s : State) : Out :=
  let s := s.at t
  .next (if s.early (.pairEventPop t late) then s.passed (.pairEventPop t late) else s.hostRead Reg.PRX_PEVPOP_addr late)

/-! ### The debug port (R543 to R545) -/

/-- What Capture-DR loads into the data register that the instruction in force selects: IDCODE the identification code, BYPASS a 0,
DBG_ACCESS the 80 bits of the response to the previous executed frame, the others the boundary register, whose cells the spec does not lay
out (R543, R545; IEEE 1149.1; log entry 77). -/
def State.captureDr (s : State) : Option Nat :=
  match s.host.jtag.instr with
  | .idcode => some idcode
  | .bypass | .highz | .clamp => some 0
  | .dbg => some s.host.jtag.resp.bits
  | .extest | .sample => none

/-- The response of an executed debug frame stands until the next (R545). -/
def State.debugResponse (s : State) (r : Response) : State :=
  { s with host := { s.host with jtag := { s.host.jtag with resp := r } } }

/-- A frame of the debug port is executed when its CRC and opcode are right (R514, R515). -/
def debugRuns (op a crc : Nat) : Bool := decide (crc = frameCheck op a) && [0x11, 0x22, 0x44].contains op

/-- A debug frame that is executed as master 1 (Table 11.2, R545). -/
def State.debugFrame (s : State) (op a : Nat) (v : Word) : State × Response :=
  if op = 0x11 then s.frameRead .debug a false
  else if op = 0x22 then s.frameWrite .debug a v false
  else (s, { status := rsOk, addr := a })

/-- Update-DR under DBG_ACCESS: Capture-DR has shifted the response to the previous executed frame out; a frame that is not executed
leaves that response in place (R545). -/
def State.debugAccess (s : State) (op a crc : Nat) (v : Word) : State :=
  let s := s.jtagSelect 0x20
  if s.power ≠ .up then s
  else
    let s := s.shiftedOut s.host.jtag.resp
    if ¬ debugRuns op a crc then s
    else
      let r := s.debugFrame op a v
      if r.1.power = .up then r.1.debugResponse r.2 else r.1

/-! ### Masters of one instant (R59, R525) -/

/-- The host access that command `c` of the queue makes at this instant (master 0). -/
def State.hostAccess (s : State) (c : Instr) : Option State :=
  match c with
  | .hostRead t a late => if t = s.now then some (s.hostRead a late) else none
  | .hostWrite t a v late => if t = s.now then some (s.hostWrite a v late) else none
  | .registerWrite t a v => if t = s.now then some (s.registerWrite a v) else none
  | .eventPop t late => if t = s.now then some (s.hostRead Reg.SYS_EVPOP_addr late) else none
  | .pairEventPop t late => if t = s.now then some (s.hostRead Reg.PRX_PEVPOP_addr late) else none
  | _ => none

/-- The debug access that command `c` of the queue makes at this instant (master 1). -/
def State.debugTurn (s : State) (c : Instr) : Option State :=
  match c with
  | .jtagDbgAccess t op a crc v => if t = s.now then some (s.debugAccess op a crc v) else none
  | _ => none

/-- Command `c` of the queue is carried out where `f` knows it and it has not been. -/
def State.take (f : State → Instr → Option State) (s : State) (c : Instr) : State :=
  if s.early c then s else match f s c with
    | some x => x.took c
    | none => s

/-- The host's accesses of this instant come before those of every other master (R59, R525). -/
def State.hostFirst (s : State) : State := s.pending.foldl (State.take State.hostAccess) s

/-- JTAG_DBG_ACCESS: Update-DR under DBG_ACCESS; the host's accesses of this instant come before it (R59, R525, R545). -/
def execJtagDbgAccess (t : Word) (op : Fin 256) (addr : Fin 65536) (crc : Fin 256) (value : Word) (s : State) : Out :=
  let s := s.at t
  .next (if s.early (.jtagDbgAccess t op addr crc value) then s.passed (.jtagDbgAccess t op addr crc value)
    else s.hostFirst.debugAccess op addr crc value)

/-- The accesses of the host and of the debug port of this instant, and the DMA requests that win, come before an access of master `m` (R59
to R61, R525; log entry 132). -/
def State.memTurn (s : State) (m : Master) : State :=
  let s := s.hostFirst
  (s.pending.foldl (State.take State.debugTurn) s).busTurn m

end Sys2Proof.Machine
end

