-- ==== Sys2Proof/Machine/Balls.lean ====
section
/-!
DEFINITION. What the balls carry (15_pins_and_electrical, R680, R681, R691; 11_links, R543, R544): a routable ball its tile's signal,
where the weave holds a pin record for it and instantiates the tile; a gate output held off, any other ball high-impedance otherwise;
and what the boundary register drives.
-/
namespace Sys2Proof.Machine

/-- What a ball carries: nothing (high-impedance), the off level of the passive pull-down of R691, a level, or a signal of its
function that is no level of the state (an input, a sense input, a clocked or modulated signal). -/
inductive BallState where
  | highZ
  | heldOff
  | drives (high : Bool)
  | carries
deriving DecidableEq, Repr

/-- The gate outputs LSG, HSBG, HSVG and BSTG among the signals of Table 15.5 (R691). -/
def gateSignal (type k : Nat) : Bool := decide ((type = 4 ∧ (k = 0 ∨ k = 3 ∨ (6 ≤ k ∧ k ≤ 9))) ∨ (type = 5 ∧ k = 0))

/-- The outputs among the signals of Table 15.5. -/
def outputSignal (type idx k : Nat) : Bool :=
  gateSignal type k || decide (type = 0x0D) || decide (type = 0x10 ∧ k < 2)
    || decide (type = 0x11 ∧ ((idx < 4 ∧ k = 0) ∨ (4 ≤ idx ∧ (k < 3 ∨ 6 ≤ k))))

/-- Signal `k` of a tile at its ball, once the ball carries it. -/
def State.signalOut (s : State) (type idx k : Nat) : BallState :=
  match type with
  | 4 =>
    let g := (s.bk idx).gates
    if k = 0 then .drives g.hsb else if k = 3 then .drives g.hsv
    else if 6 ≤ k ∧ k ≤ 9 then .drives (g.ls == some (k - 6)) else .carries
  | 5 => if k = 0 ∧ ¬ (s.bst idx).switching then .drives false else .carries
  | 0x0D =>
    let p := s.po idx
    .drives (if k = 0 then p.a else if k = 1 then p.b else p.z)
  | _ => .carries

/-- A routable ball with signal `k` of a tile (R680, R691). -/
def State.routable (s : State) (type idx k : Nat) : BallState :=
  if gateSignal type k then (if s.running && s.assigned type idx k then s.signalOut type idx k else .heldOff)
  else if s.assigned type idx k then s.signalOut type idx k else .highZ

/-- A fixed ball (R681): SAFE_N on N9 and HIRQ_N on F20 have levels; every other carries its function (Tables 15.3, 15.4). HMISO on
W21, which is high-impedance while HCS_N is high, is `State.hmiso`. -/
def State.fixedBall (s : State) (row col : Nat) : BallState :=
  if row = 13 ∧ col = 9 then .drives s.safeNDrive
  else if row = 6 ∧ col = 20 then .drives (!s.hirq)
  else .carries

/-- The fixed balls that are outputs of the boundary register: SAFE_N, HIRQ_N, HMISO, the flash's FSCK, FCS_N and FIO, SELV (Table 15.3). -/
def fixedOutput (row col : Nat) : Bool :=
  decide ((row = 13 ∧ col = 9) ∨ (row = 6 ∧ col = 20) ∨ (row = 18 ∧ col = 21) ∨ (col = 20 ∧ 7 ≤ row ∧ row ≤ 12)
    ∨ (col = 8 ∧ 5 ≤ row ∧ row ≤ 18))

/-- The ball in row `row`, column `col`, rows coded 1 to 22 (R680, R681). While the Loom is stopped EXTEST and CLAMP drive the outputs
from the boundary register and HIGHZ takes them to high impedance (R543, R544; log entry 77). -/
def State.ball (s : State) (row col : Nat) : BallState :=
  let out := match ballSignal row col with
    | some (t, i, k) => outputSignal t i k
    | none => fixedOutput row col
  if s.tapDrives && out then
    if s.host.jtag.instr = .highz then .highZ else .drives (Config.boundaryCell row col)
  else match ballSignal row col with
    | some (t, i, k) => s.routable t i k
    | none => s.fixedBall row col

end Sys2Proof.Machine
end

