-- ==== Sys2Proof/Machine/Load.lean ====
section
/-!
DEFINITION. The end of a weave load (02_weave_configuration, R91, R93, R97, R697): the selected ply takes effect, and the units
follow what its entries set.
-/
namespace Sys2Proof.Machine

/-- Sequencers, period timers, monitors and pressure inputs follow the fields that a ply has set, as they follow a write of them;
`old` is the state before the load (R93, R400, R407, R416, R430). -/
def State.plyFront (s old : State) : State :=
  let s := (List.range 16).foldl (fun s k => s.set (Reg.SEQ_STAT_WPTR k) (s.get (Reg.SEQ_BUF_BASE k))) s
  let s := (List.range 16).foldl (fun s k =>
    if s.is (Reg.SEQ_CTRL_EN k) then (s.set (Reg.SEQ_CTRL_EN k) 0).seqEnable k true else s) s
  let s := (List.range 4).foldl (fun s p => s.ptCfgWrite p (old.reg (Reg.PT_CFG_addr p)) (s.reg (Reg.PT_CFG_addr p))) s
  let s := (List.range 8).foldl (fun s m => s.wmMode m (old.reg (Reg.WM_CFG_addr m)) (s.reg (Reg.WM_CFG_addr m))) s
  let s := (List.range 4).foldl (fun s p =>
    s.pinConfig p (old.reg (Reg.SVC_PINCFG_addr p)) (s.reg (Reg.SVC_PINCFG_addr p))) s
  if old.is Reg.ADC_CTRL_CAL_EN ∨ ¬ s.is Reg.ADC_CTRL_CAL_EN then s else { s with rot := { s.rot with start := s.now } }

/-- The transmit buffers that the ply requests wait (R528). -/
def State.plyCan (s : State) : State :=
  (List.range 4).foldl (fun s c =>
    let req := s.get (Reg.CAN_TXREQ_TXREQ c)
    (List.range 16).foldl (fun s m => if req.testBit m then s.canRequest c m else s) (s.set (Reg.CAN_TXREQ_TXREQ c) 0)) s

/-- Power domains and DMA channels follow the fields that a ply has set (R567, R653, R656). -/
def State.plyData (s old : State) : State :=
  let s := (List.range 6).foldl (fun s k =>
    let on := (s.get Reg.SYS_PWR_ON).testBit k
    if on = (old.get Reg.SYS_PWR_ON).testBit k then s else s.domainFollow (k + 2) on) s
  (List.range 16).foldl (fun s c => if s.is (Reg.DMA_CTRL_EN c) then s.dmaEnable c else s) s

/-- Step 6 of the load with ply `p`: the weave is in force; the scrub and the stored-ply check begin anew (R91, R108, R111). -/
def State.loaded (s : State) (p : PlySrc) : State :=
  let cells := s.plyCells p
  let s := (s.resetEvent.set Reg.WVE_STATUS_STATE stLoaded).set Reg.SYS_STATUS_LEVEL (s.plyByte p 3)
  { s with
    gov := { s.gov with on := true }
    saf := { s.saf with upset := false }
    weave := { s.weave with
      loading := false, cells, sigs := cells.zipIdx.map (fun (bs, k) => (k + 1, crc32 bs))
      scrubNext := 1, scrubStart := s.now, checkAt := s.now, runReq := s.weave.autorun } }

/-- Load steps 4 to 6 with ply `p`: the tiles are reset (R697), trims are off (R452), and the ply applies. -/
def State.loadPly (s : State) (p : PlySrc) (refA refB : Word) : State :=
  let base := { (s.showSel p).resetTiles.trimOff with weave := { s.weave with
    tiles := [], routes := [], pins := [], selW := s.plyNat p 14 2, descId := s.plyNat p 28 4, refA, refB } }
  match s.applyPly p base with
  | .error sec => (base.set Reg.WVE_STATUS_FAULT_SEC sec).loadFailed stFault
  | .ok s' => (((s'.plyFront s).plyCan).plyData s).loaded p

/-- The whole load at its end (Table 2.13); LOADTIME is held to 1 µs by the open rounding (log entry 10). -/
def State.finishLoad (s : State) (refA refB : Word) : State :=
  let s := (s.checkPlies).set Reg.WVE_STATUS_FAULT_SEC 0
  let s := s.set Reg.WVE_LOADTIME_TIME (satU 16 (heldTo us (elapsed s.weave.loadStart s.now)))
  let none' := ((s.set Reg.WVE_STATUS_SEL 3).set Reg.WVE_STATUS_SRC 0).set Reg.WVE_STATUS_GEN 0
  match s.selectPly with
  | .none => none'.loadFailed stNoPly
  | .conflict => none'.loadFailed stConflict
  | .ply p => s.loadPly p refA refB

/-- LOAD_COMPLETE; `refA` and `refB` are the reference angles REF of the two crank Warps, which the weave sets and no
register holds (Table 3.1, log entry 8). -/
def execLoadComplete (t : Word) (refA refB : Word) (s : State) : Out :=
  let s := s.at t
  .next (if s.weave.loading then s.finishLoad refA refB else s)

end Sys2Proof.Machine
end

