-- ==== Sys2Proof/Machine/Masters.lean ====
section
/-!
DEFINITION. The accesses of the Proex controller, the Ethernet streams and the CAN controllers to working and trace memory, as the bus
masters 18 to 20 (R59 to R61, R525; log entry 132): each comes after the requests that win before it.
-/
namespace Sys2Proof.Machine

/-! ### Proex (master 18; R608, R611) -/

/-- PROEX_RECORD_FRAME. -/
def State.recordArrives (s : State) (f : Nat) (p : List Nat) : State :=
  (if s.receives then s.memTurn .proex else s).recordFrame f p

/-- PROEX_BLOCK_FRAME. -/
def State.blockArrives (s : State) (f : Nat) (p : List Nat) : State :=
  (if s.receives then s.memTurn .proex else s).blockFrame f p

/-- PROEX_RECORD_FRAME: words 0 to 11 of the partner's record are stored, words 12 to 15 are 0 (R608, Table 13.6). -/
def execProexRecordFrame (t : Word) (fseq : Fin 256) (p : List Nat) (s : State) : Out :=
  let s := s.at t
  .next (if s.early (.proexRecordFrame t fseq p) then s.passed (.proexRecordFrame t fseq p) else s.recordArrives fseq p)

/-- PROEX_BLOCK_FRAME: eight words of a series (R608, R611, R612). -/
def execProexBlockFrame (t : Word) (fseq : Fin 256) (p : List Nat) (s : State) : Out :=
  let s := s.at t
  .next (if s.early (.proexBlockFrame t fseq p) then s.passed (.proexBlockFrame t fseq p) else s.blockArrives fseq p)

/-- The Proex access that command `c` of the queue makes at this instant. -/
def State.proexAccess (s : State) (c : Instr) : Option State :=
  match c with
  | .proexRecordFrame t f p => if t = s.now then some (s.recordArrives f p) else none
  | .proexBlockFrame t f p => if t = s.now then some (s.blockArrives f p) else none
  | _ => none

/-- The Proex accesses of this instant. -/
def State.proexFirst (s : State) : State := s.pending.foldl (State.take State.proexAccess) s

/-! ### Ethernet (master 19; R532, R536) -/

/-- A datagram starts at port `p`, when one falls due. -/
def State.datagram (s : State) (p : Nat) : State :=
  let s := if s.paced p then s.proexFirst.memTurn .ethernet else s
  if s.paced p then s.startDatagram p else s

/-- DATAGRAM_START: the port starts the earliest ready datagram, no sooner than PACE after the previous one; while LINK is
0 it discards it (R532, R536). -/
def execDatagramStart (t : Word) (p : Fin 2) (s : State) : Out :=
  let s := s.at t
  .next (if s.early (.datagramStart t p) then s.passed (.datagramStart t p) else s.datagram p)

/-- The Ethernet access that command `c` of the queue makes at this instant. -/
def State.ethernetAccess (s : State) (c : Instr) : Option State :=
  match c with
  | .datagramStart t p => if t = s.now then some (s.datagram p) else none
  | _ => none

/-! ### CAN (master 20; R526 to R530) -/

/-- The requests that win before an access of a CAN controller. -/
def State.canTurn (s : State) : State :=
  let s := s.proexFirst
  (s.pending.foldl (State.take State.ethernetAccess) s).memTurn .can

/-- The controller sends; in MODE 1 it only listens, in MODE 2 it sends to itself (Table 11.16, R680). -/
def State.canSends (s : State) (c : Nat) : Bool :=
  s.canOn c && decide (s.get (Reg.CAN_CFG_MODE c) ≠ 1) && (decide (s.get (Reg.CAN_CFG_MODE c) = 2) || s.canLine c)

/-- The controller takes frames from the bus; in MODE 2 it hears its own alone (Table 11.16, R680). -/
def State.canHears (s : State) (c : Nat) : Bool := s.canOn c && decide (s.get (Reg.CAN_CFG_MODE c) ≠ 2) && s.canBus c

/-- CAN_TX_DONE: the frame that the controller offered at the start-of-frame bit `sof` has been sent, after `fails` failed
attempts (R527, R528, R530). -/
def execCanTxDone (t : Word) (c : Fin 4) (sof : Word) (fails : Nat) (s : State) : Out :=
  let s := s.at t
  let s := if s.canSends c then s.canTurn else s
  .next (if s.canSends c then s.canSent c sof fails else s)

/-- CAN_RX_FRAME: a frame from the bus, received after `errs` frames with receive errors (R526, R529). -/
def execCanRxFrame (t : Word) (c : Fin 4) (f : CanFrame) (sof : Word) (errs : Nat) (s : State) : Out :=
  let s := s.at t
  let s := if s.canHears c then s.canTurn else s
  .next (if s.canHears c then s.canReceived c f sof errs else s)

end Sys2Proof.Machine
end

