-- ==== Sys2Proof/Machine/Dispatch.lean ====
section
/-!
DEFINITION. The command's effect, one arm per constructor, each one direct call of its meaning.
-/
namespace Sys2Proof.Machine

def exec (i : Instr) (s : State) : Host.Outcome State Fault Refusal :=
  match i with
  | .registerWrite t addr value => Sys2Proof.Machine.execRegisterWrite t addr value s
  | .eventMerge t => Sys2Proof.Machine.execEventMerge t s
  | .invalidCodeDetect t region => Sys2Proof.Machine.execInvalidCodeDetect t region s
  | .handshakeStall t region => Sys2Proof.Machine.execHandshakeStall t region s
  | .clockLost t d => Sys2Proof.Machine.execClockLost t d s
  | .crossingResume t d => Sys2Proof.Machine.execCrossingResume t d s
  | .governorSample t pcts => Sys2Proof.Machine.execGovernorSample t pcts s
  | .vcoreRaise t => Sys2Proof.Machine.execVcoreRaise t s
  | .vcoreLower t => Sys2Proof.Machine.execVcoreLower t s
  | .sysLatClr t => Sys2Proof.Machine.execSysLatClr t s
  | .loadWeave t => Sys2Proof.Machine.execLoad t s
  | .loadComplete t refA refB => Sys2Proof.Machine.execLoadComplete t refA refB s
  | .runLoom t => Sys2Proof.Machine.execRun t s
  | .loomStart t => Sys2Proof.Machine.execLoomStart t s
  | .stop t => Sys2Proof.Machine.execStop t s
  | .mirror t ply => Sys2Proof.Machine.execMirror t ply s
  | .mirrorDone t => Sys2Proof.Machine.execMirrorDone t s
  | .verify t => Sys2Proof.Machine.execVerify t s
  | .verifyDone t => Sys2Proof.Machine.execVerifyDone t s
  | .erase t ply => Sys2Proof.Machine.execErase t ply s
  | .eraseDone t => Sys2Proof.Machine.execEraseDone t s
  | .wveCmdReject t code ply => Sys2Proof.Machine.execWveCmdReject t code ply s
  | .weaveStoreWrite t dma ply addr value => Sys2Proof.Machine.execWeaveStoreWrite t dma ply addr value s
  | .weaveProgramDone t => Sys2Proof.Machine.execWeaveProgramDone t s
  | .scrubSectionEnd t k upsets => Sys2Proof.Machine.execScrubSectionEnd t k upsets s
  | .storedPlyCheck t => Sys2Proof.Machine.execStoredPlyCheck t s
  | .wheelTransition t n w => Sys2Proof.Machine.execWheelTransition t n w s
  | .edgeFilterExpiry t n => Sys2Proof.Machine.execEdgeFilterExpiry t n s
  | .dirSplitExpiry t n => Sys2Proof.Machine.execDirSplitExpiry t n s
  | .dirMaxExpiry t n => Sys2Proof.Machine.execDirMaxExpiry t n s
  | .stallTimeout t n => Sys2Proof.Machine.execStallTimeout t n s
  | .camStallTimeout t n => Sys2Proof.Machine.execCamStallTimeout t n s
  | .wrpCntClr t n => Sys2Proof.Machine.execWrpCntClr t n s
  | .syncLost t n => Sys2Proof.Machine.execSyncLost t n s
  | .rotationLost t dst => Sys2Proof.Machine.execRotationLost t dst s
  | .toothUpdateBroadcast t n => Sys2Proof.Machine.execToothUpdateBroadcast t n s
  | .microtickHold t n => Sys2Proof.Machine.execMicrotickHold t n s
  | .wftUpdRead t n => Sys2Proof.Machine.execWftUpdRead t n s
  | .wftSnapRead t n => Sys2Proof.Machine.execWftSnapRead t n s
  | .wftCntClr t n => Sys2Proof.Machine.execWftCntClr t n s
  | .shuttleToothUpdate t n => Sys2Proof.Machine.execShuttleToothUpdate t n s
  | .startCommit t n => Sys2Proof.Machine.execStartCommit t n s
  | .stopCommit t n => Sys2Proof.Machine.execStopCommit t n s
  | .pulseStop t n => Sys2Proof.Machine.execPulseStop t n s
  | .gateOpenCommit t n => Sys2Proof.Machine.execGateOpenCommit t n s
  | .gateOpen t n => Sys2Proof.Machine.execGateOpen t n s
  | .gateCloseCommit t n => Sys2Proof.Machine.execGateCloseCommit t n s
  | .gateClose t n => Sys2Proof.Machine.execGateClose t n s
  | .gridTickCommit t n => Sys2Proof.Machine.execGridTickCommit t n s
  | .gridTick t n => Sys2Proof.Machine.execGridTick t n s
  | .shtEnSet t n => Sys2Proof.Machine.execShtEnSet t n s
  | .shtEnClear t n => Sys2Proof.Machine.execShtEnClear t n s
  | .shtReadySet t n service => Sys2Proof.Machine.execShtReadySet t n service s
  | .shtCntClr t n => Sys2Proof.Machine.execShtCntClr t n s
  | .pulseOutputUpdate t p => Sys2Proof.Machine.execPulseOutputUpdate t p s
  | .pulseOutputEdge t => Sys2Proof.Machine.execPulseOutputEdge t s
  | .tachEdge t => Sys2Proof.Machine.execTachEdge t s
  | .bankCommit t b => Sys2Proof.Machine.execBankCommit t b s
  | .bankStartDecision t b => Sys2Proof.Machine.execBankStartDecision t b s
  | .deadTimeExpiry t b => Sys2Proof.Machine.execDeadTimeExpiry t b s
  | .trapInstr t b => Sys2Proof.Machine.execTrap t b s
  | .drv t b => Sys2Proof.Machine.execDrv t b s
  | .riseInstr t b => Sys2Proof.Machine.execRise t b s
  | .fallInstr t b => Sys2Proof.Machine.execFall t b s
  | .chop t b uv => Sys2Proof.Machine.execChop t b uv s
  | .recov t b => Sys2Proof.Machine.execRecov t b s
  | .contInstr t b uv => Sys2Proof.Machine.execCont t b uv s
  | .setpk t b => Sys2Proof.Machine.execSetpk t b s
  | .setvy t b => Sys2Proof.Machine.execSetvy t b s
  | .blank t b => Sys2Proof.Machine.execBlank t b s
  | .jmp t b => Sys2Proof.Machine.execJmp t b s
  | .brf t b uv => Sys2Proof.Machine.execBrf t b uv s
  | .loopInstr t b => Sys2Proof.Machine.execLoop t b s
  | .flt t b => Sys2Proof.Machine.execFlt t b s
  | .heddleTimedExpiry t b => Sys2Proof.Machine.execHeddleTimedExpiry t b s
  | .comparatorTrip t b k uv => Sys2Proof.Machine.execComparatorTrip t b k uv s
  | .blankingEnd t b uv => Sys2Proof.Machine.execBlankingEnd t b uv s
  | .recoveryEndZth t b uv => Sys2Proof.Machine.execRecoveryEndZth t b uv s
  | .recoveryEndRmax t b => Sys2Proof.Machine.execRecoveryEndRmax t b s
  | .overlapRecoveryEnd t b => Sys2Proof.Machine.execOverlapRecoveryEnd t b s
  | .postponeExpiry t b => Sys2Proof.Machine.execPostponeExpiry t b s
  | .contEnable t b => Sys2Proof.Machine.execContEnable t b s
  | .contDisable t b => Sys2Proof.Machine.execContDisable t b s
  | .contSetpointWrite t b service set band => Sys2Proof.Machine.execContSetpointWrite t b service set band s
  | .contDwellEnd t b uv => Sys2Proof.Machine.execContDwellEnd t b uv s
  | .bnkCntClr t b => Sys2Proof.Machine.execBnkCntClr t b s
  | .boostEnable t g => Sys2Proof.Machine.execBoostEnable t g s
  | .boostRailSample t g v => Sys2Proof.Machine.execBoostRailSample t g v s
  | .boostOvPersist t g => Sys2Proof.Machine.execBoostOvPersist t g s
  | .openLoadCheck t b uv => Sys2Proof.Machine.execOpenLoadCheck t b uv s
  | .lsDesat t b mv => Sys2Proof.Machine.execLsDesat t b mv s
  | .hsDesat t b mv => Sys2Proof.Machine.execHsDesat t b mv s
  | .crossCheckFail t b c mv => Sys2Proof.Machine.execCrossCheckFail t b c mv s
  | .offtPeriod t b => Sys2Proof.Machine.execOfftPeriod t b s
  | .offtStart t b => Sys2Proof.Machine.execOfftStart t b s
  | .offtDecide t b low high blim => Sys2Proof.Machine.execOfftDecide t b low high blim s
  | .residualCurrent t b uv => Sys2Proof.Machine.execResidual t b uv s
  | .latchClear t b c => Sys2Proof.Machine.execLatchClear t b c s
  | .tailSample t b v => Sys2Proof.Machine.execTailSample t b v s
  | .tailWindowEnd t b => Sys2Proof.Machine.execTailWindowEnd t b s
  | .thermalStep t b c => Sys2Proof.Machine.execThermalStep t b c s
  | .bnkDcntClr t b => Sys2Proof.Machine.execBnkDcntClr t b s
  | .conversionSample t k => Sys2Proof.Machine.execConversionSample t k s
  | .conversionComplete t k raw => Sys2Proof.Machine.execConversionComplete t k raw s
  | .openWireSettle t k => Sys2Proof.Machine.execOpenWireSettle t k s
  | .rotationStart t => Sys2Proof.Machine.execRotationStart t s
  | .sliceSwitchStart t => Sys2Proof.Machine.execSliceSwitchStart t s
  | .sliceSwitchEnd t => Sys2Proof.Machine.execSliceSwitchEnd t s
  | .rotationAbandon t => Sys2Proof.Machine.execRotationAbandon t s
  | .spareCalVerdict t agnd refp refn => Sys2Proof.Machine.execSpareCalVerdict t agnd refp refn s
  | .seqGo t k => Sys2Proof.Machine.execSeqGo t k s
  | .seqEn t k en => Sys2Proof.Machine.execSeqEn t k en s
  | .seqTimer t k => Sys2Proof.Machine.execSeqTimer t k s
  | .seqGateOpen t k => Sys2Proof.Machine.execSeqGateOpen t k s
  | .seqGridTick t k => Sys2Proof.Machine.execSeqGridTick t k s
  | .seqGateClose t k => Sys2Proof.Machine.execSeqGateClose t k s
  | .passStart t l => Sys2Proof.Machine.execPassStart t l s
  | .passEnd t k => Sys2Proof.Machine.execPassEnd t k s
  | .windowFinalise t k => Sys2Proof.Machine.execWindowFinalise t k s
  | .seqCntClr t k => Sys2Proof.Machine.execSeqCntClr t k s
  | .windowCrossing t m mv => Sys2Proof.Machine.execWindowCrossing t m mv s
  | .wmBlankEnd t m => Sys2Proof.Machine.execWmBlankEnd t m s
  | .wmLatchClear t m => Sys2Proof.Machine.execWmLatchClear t m s
  | .periodTimerEdge t p => Sys2Proof.Machine.execPeriodTimerEdge t p s
  | .ptEnable t p => Sys2Proof.Machine.execPtEnable t p s
  | .wmCntClr t m => Sys2Proof.Machine.execWmCntClr t m s
  | .bankSelftestDone t b outs => Sys2Proof.Machine.execBankSelftestDone t b outs s
  | .monitorSelftest t => Sys2Proof.Machine.execMonitorSelftest t s
  | .monitorSelftestDone t low high => Sys2Proof.Machine.execMonitorSelftestDone t low high s
  | .pinTimeout t p => Sys2Proof.Machine.execPinTimeout t p s
  | .analysisStart t j => Sys2Proof.Machine.execAnalysisStart t j s
  | .recordCommit t j => Sys2Proof.Machine.execRecordCommit t j s
  | .trimUpdate t => Sys2Proof.Machine.execTrimUpdate t s
  | .listBuild t q k => Sys2Proof.Machine.execListBuild t q k s
  | .demandSwap t => Sys2Proof.Machine.execDemandSwap t s
  | .demandTimeout t => Sys2Proof.Machine.execDemandTimeout t s
  | .driftUpdate t => Sys2Proof.Machine.execDriftUpdate t s
  | .railLoopStep t => Sys2Proof.Machine.execRailLoopStep t s
  | .setpointRamp t => Sys2Proof.Machine.execSetpointRamp t s
  | .pinDisagree t => Sys2Proof.Machine.execPinDisagree t s
  | .railOverpressure t => Sys2Proof.Machine.execRailOverpressure t s
  | .overspeedUpdate t => Sys2Proof.Machine.execOverspeedUpdate t s
  | .serviceCntClr t which => Sys2Proof.Machine.execServiceCntClr t which s
  | .enumIdn t => Sys2Proof.Machine.execEnum t s
  | .idnCmdInvalid t code => Sys2Proof.Machine.execIdnCmdInvalid t code s
  | .selvedgeLineReady t x => Sys2Proof.Machine.execSelvedgeLineReady t x s
  | .selvedgeLineShort t l => Sys2Proof.Machine.execSelvedgeLineShort t l s
  | .selvedgeReset t l => Sys2Proof.Machine.execSelvedgeReset t l s
  | .rollCall t l base ua => Sys2Proof.Machine.execRollCall t l base ua s
  | .selectSite t l base ua => Sys2Proof.Machine.execSelectSite t l base ua s
  | .selvedgeRead t l base ua => Sys2Proof.Machine.execSelvedgeRead t l base ua s
  | .enumDone t => Sys2Proof.Machine.execEnumDone t s
  | .backgroundRollCall t l base ua => Sys2Proof.Machine.execBackgroundRollCall t l base ua s
  | .hostRead t addr late => Sys2Proof.Machine.execHostRead t addr late s
  | .hostWrite t addr value late => Sys2Proof.Machine.execHostWrite t addr value late s
  | .hostNop t addr => Sys2Proof.Machine.execHostNop t addr s
  | .hostFrameError t f => Sys2Proof.Machine.execHostFrameError t f s
  | .eventPop t late => Sys2Proof.Machine.execEventPop t late s
  | .canTxRequest t c m => Sys2Proof.Machine.execCanTxRequest t c m s
  | .canTxDone t c sof fails => Sys2Proof.Machine.execCanTxDone t c sof fails s
  | .canRxFrame t c f sof errs => Sys2Proof.Machine.execCanRxFrame t c f sof errs s
  | .canRxAck t c => Sys2Proof.Machine.execCanRxAck t c s
  | .canBusOff t c => Sys2Proof.Machine.execCanBusOff t c s
  | .canBusOn t c => Sys2Proof.Machine.execCanBusOn t c s
  | .canBusoffReq t c => Sys2Proof.Machine.execCanBusoffReq t c s
  | .phyLinkPoll t p up => Sys2Proof.Machine.execPhyLinkPoll t p up s
  | .datagramStart t p => Sys2Proof.Machine.execDatagramStart t p s
  | .streamFlush t k => Sys2Proof.Machine.execStreamFlush t k s
  | .ethRxFrame t p => Sys2Proof.Machine.execEthRxFrame t p s
  | .sentFrame t n fall sync pulses => Sys2Proof.Machine.execSentFrame t n fall sync pulses s
  | .sentStale t n => Sys2Proof.Machine.execSentStale t n s
  | .flashRead t faddr len => Sys2Proof.Machine.execFlashRead t faddr len s
  | .flashProgram t faddr len => Sys2Proof.Machine.execFlashProgram t faddr len s
  | .flashErase t faddr => Sys2Proof.Machine.execFlashErase t faddr s
  | .flashCmdDone t => Sys2Proof.Machine.execFlashCmdDone t s
  | .jtagExtest t => Sys2Proof.Machine.execJtagExtest t s
  | .jtagIdcode t => Sys2Proof.Machine.execJtagIdcode t s
  | .jtagSamplePreload t => Sys2Proof.Machine.execJtagSamplePreload t s
  | .jtagHighz t => Sys2Proof.Machine.execJtagHighz t s
  | .jtagClamp t => Sys2Proof.Machine.execJtagClamp t s
  | .jtagBypass t => Sys2Proof.Machine.execJtagBypass t s
  | .jtagDbgAccess t op addr crc value => Sys2Proof.Machine.execJtagDbgAccess t op addr crc value s
  | .dmaGo t c => Sys2Proof.Machine.execDmaGo t c s
  | .dmaTrigger t c => Sys2Proof.Machine.execDmaTrigger t c s
  | .dmaDescriptorLoad t c => Sys2Proof.Machine.execDmaDescriptorLoad t c s
  | .dmaBeatResponse t c busy => Sys2Proof.Machine.execDmaBeatResponse t c busy s
  | .dmaStop t c => Sys2Proof.Machine.execDmaStop t c s
  | .dmaResume t c => Sys2Proof.Machine.execDmaResume t c s
  | .dmaEnable t c => Sys2Proof.Machine.execDmaEnable t c s
  | .dmaDisable t c => Sys2Proof.Machine.execDmaDisable t c s
  | .dmaDomainReturn t c => Sys2Proof.Machine.execDmaDomainReturn t c s
  | .commitTimer t => Sys2Proof.Machine.execCommitTimer t s
  | .strandlineCommit t => Sys2Proof.Machine.execStrandlineCommit t s
  | .fullCommit t => Sys2Proof.Machine.execFullCommit t s
  | .recordWriteDone t => Sys2Proof.Machine.execRecordWriteDone t s
  | .coilTempBin t => Sys2Proof.Machine.execCoilTempBin t s
  | .boostBin t => Sys2Proof.Machine.execBoostBin t s
  | .runSeconds t => Sys2Proof.Machine.execRunSeconds t s
  | .strandlineReady t => Sys2Proof.Machine.execStrandlineReady t s
  | .proexAlign t => Sys2Proof.Machine.execProexAlign t s
  | .proexToothFrame t fseq p => Sys2Proof.Machine.execProexToothFrame t fseq p s
  | .proexBeatFrame t fseq p arrival => Sys2Proof.Machine.execProexBeatFrame t fseq p arrival s
  | .proexEventFrame t fseq p => Sys2Proof.Machine.execProexEventFrame t fseq p s
  | .proexRecordFrame t fseq p => Sys2Proof.Machine.execProexRecordFrame t fseq p s
  | .proexBlockFrame t fseq p => Sys2Proof.Machine.execProexBlockFrame t fseq p s
  | .proexFrameError t header => Sys2Proof.Machine.execProexFrameError t header s
  | .beatDue t => Sys2Proof.Machine.execBeatDue t s
  | .proexFrameSend t => Sys2Proof.Machine.execProexFrameSend t s
  | .blockSeriesDue t id => Sys2Proof.Machine.execBlockSeriesDue t id s
  | .beatTimeout t => Sys2Proof.Machine.execBeatTimeout t s
  | .mapTimeout t => Sys2Proof.Machine.execMapTimeout t s
  | .mirrorToothTimeout t => Sys2Proof.Machine.execMirrorToothTimeout t s
  | .divClr t => Sys2Proof.Machine.execDivClr t s
  | .pairEventPop t late => Sys2Proof.Machine.execPairEventPop t late s
  | .supplyMonitorTrip t m => Sys2Proof.Machine.execSupplyMonitorTrip t m s
  | .supplyMonitorRelease t m => Sys2Proof.Machine.execSupplyMonitorRelease t m s
  | .sensorSupplyLow t => Sys2Proof.Machine.execSensorSupplyLow t s
  | .ebbActive t vbat => Sys2Proof.Machine.execEbbActive t vbat s
  | .ebbInactive t vbat => Sys2Proof.Machine.execEbbInactive t vbat s
  | .lowWaterReset t => Sys2Proof.Machine.execLowWaterReset t s
  | .lowWaterEnd t => Sys2Proof.Machine.execLowWaterEnd t s
  | .powerOnReset t => Sys2Proof.Machine.execPowerOnReset t s
  | .pinReset t => Sys2Proof.Machine.execPinReset t s
  | .pinResetEnd t => Sys2Proof.Machine.execPinResetEnd t s
  | .softwareReset t key => Sys2Proof.Machine.execSoftwareReset t key s
  | .resetEnd t side mirror => Sys2Proof.Machine.execResetEnd t side mirror s
  | .startLateTimeout t => Sys2Proof.Machine.execStartLateTimeout t s
  | .domainOffRequest t d => Sys2Proof.Machine.execDomainOffRequest t d s
  | .domainOnRequest t d => Sys2Proof.Machine.execDomainOnRequest t d s
  | .drainEnd t d => Sys2Proof.Machine.execDrainEnd t d s
  | .drainTimeout t d => Sys2Proof.Machine.execDrainTimeout t d s
  | .domainWakeDone t d => Sys2Proof.Machine.execDomainWakeDone t d s
  | .standbyRequest t key => Sys2Proof.Machine.execStandbyRequest t key s
  | .standbyComplete t => Sys2Proof.Machine.execStandbyComplete t s
  | .wakeInput t level => Sys2Proof.Machine.execWakeInput t level s
  | .wakeFilterExpiry t => Sys2Proof.Machine.execWakeFilterExpiry t s
  | .wakeTimer t => Sys2Proof.Machine.execWakeTimer t s
  | .headlandCause t => Sys2Proof.Machine.execHeadlandCause t s
  | .cutHoldExpiry t => Sys2Proof.Machine.execCutHoldExpiry t s
  | .safeRelease t above => Sys2Proof.Machine.execSafeRelease t above s
  | .headlandSelftestDone t fails => Sys2Proof.Machine.execHeadlandSelftestDone t fails s
  | .headlandRunEntry t => Sys2Proof.Machine.execHeadlandRunEntry t s
  | .clockMonitorWindow t tb xo => Sys2Proof.Machine.execClockMonitorWindow t tb xo s
  | .housekeepingSample t vbat tdie => Sys2Proof.Machine.execHousekeepingSample t vbat tdie s
  | .safeNMismatch t => Sys2Proof.Machine.execSafeNMismatch t s
  | .safeInChange t level => Sys2Proof.Machine.execSafeInChange t level s
  | .clockReturn t d => Sys2Proof.Machine.execClockReturn t d s
  | .safCntClr t => Sys2Proof.Machine.execSafCntClr t s
  | .prxCntClr t => Sys2Proof.Machine.execPrxCntClr t s
  | .recCntClr t => Sys2Proof.Machine.execRecCntClr t s
  | .dmaCntClr t c => Sys2Proof.Machine.execDmaCntClr t c s
  | .lnkCntClr t which => Sys2Proof.Machine.execLnkCntClr t which s

end Sys2Proof.Machine
end

