-- ==== Sys2Proof/Machine/Step.lean ====
section
/-!
DEFINITION. One step of the block: the command at the front of the queue takes its effect on the state that holds the
queue's rest; on an empty queue the block idles (log entry 4).
-/
namespace Sys2Proof.Machine

/-- The machine without its first waiting command. -/
def State.popped (s : State) : State := { s with pending := s.pending.tail }

/-- One step (log entry 4). -/
def step (s : State) : Host.Outcome State Fault Refusal :=
  match s.pending with
  | [] => .next s
  | c :: _ => exec c s.popped

/-- The machine with the command that a word spells in front of its queue. No row of the opcode table gives bits, so no
word spells a command and the state stays as it is (log entry 5). -/
def State.withFetchWord (s : State) (nbits w : Nat) : State :=
  match Sys2Proof.decodeTableWord nbits w with
  | some c => { s with pending := c :: s.pending }
  | none => s

end Sys2Proof.Machine
end

