-- ==== Sys2Proof/Safety.lean ====
section
/-!
DEFINITION. What claims about the block are stated in: the parts of the state, what it is for two states to differ in named
parts only, the canonical form of every memory, and for each command the parts that it may change.
-/
namespace Sys2Proof.Machine

/-- The parts of the state: every field of `State` but the command queue. -/
inductive Part where
  | now | fresh | power | straps | regs | trace | work | recMem | ply0 | ply1
  | ply2 | flash | ticks | reports | mergeOpen | fifo | causes | crossings | gov | weave
  | primary | warps | wefts | learn | shTok | bkTok | pair | recJobs | acc | shuttles
  | seqTok | pulseOuts | banks | cmps | boosts | closures | seqs | slices | rot | inCal
  | wmons | ptimers | monTest | cmbSig | pins | combust | trimDue | maps | svc | rail
  | ovs | selv | enumStart | host | cans | streams | ports | sents | dma | dmaTrigs
  | ahead | strand | supply | saf
deriving DecidableEq, Repr

/-- Part `p` is the same in both states. -/
def Part.same (p : Part) (s s' : State) : Prop :=
  match p with
  | .now => s'.now = s.now
  | .fresh => s'.fresh = s.fresh
  | .power => s'.power = s.power
  | .straps => s'.straps = s.straps
  | .regs => s'.regs = s.regs
  | .trace => s'.trace = s.trace
  | .work => s'.work = s.work
  | .recMem => s'.recMem = s.recMem
  | .ply0 => s'.ply0 = s.ply0
  | .ply1 => s'.ply1 = s.ply1
  | .ply2 => s'.ply2 = s.ply2
  | .flash => s'.flash = s.flash
  | .ticks => s'.ticks = s.ticks
  | .reports => s'.reports = s.reports
  | .mergeOpen => s'.mergeOpen = s.mergeOpen
  | .fifo => s'.fifo = s.fifo
  | .causes => s'.causes = s.causes
  | .crossings => s'.crossings = s.crossings
  | .gov => s'.gov = s.gov
  | .weave => s'.weave = s.weave
  | .primary => s'.primary = s.primary
  | .warps => s'.warps = s.warps
  | .wefts => s'.wefts = s.wefts
  | .learn => s'.learn = s.learn
  | .shTok => s'.shTok = s.shTok
  | .bkTok => s'.bkTok = s.bkTok
  | .pair => s'.pair = s.pair
  | .recJobs => s'.recJobs = s.recJobs
  | .acc => s'.acc = s.acc
  | .shuttles => s'.shuttles = s.shuttles
  | .seqTok => s'.seqTok = s.seqTok
  | .pulseOuts => s'.pulseOuts = s.pulseOuts
  | .banks => s'.banks = s.banks
  | .cmps => s'.cmps = s.cmps
  | .boosts => s'.boosts = s.boosts
  | .closures => s'.closures = s.closures
  | .seqs => s'.seqs = s.seqs
  | .slices => s'.slices = s.slices
  | .rot => s'.rot = s.rot
  | .inCal => s'.inCal = s.inCal
  | .wmons => s'.wmons = s.wmons
  | .ptimers => s'.ptimers = s.ptimers
  | .monTest => s'.monTest = s.monTest
  | .cmbSig => s'.cmbSig = s.cmbSig
  | .pins => s'.pins = s.pins
  | .combust => s'.combust = s.combust
  | .trimDue => s'.trimDue = s.trimDue
  | .maps => s'.maps = s.maps
  | .svc => s'.svc = s.svc
  | .rail => s'.rail = s.rail
  | .ovs => s'.ovs = s.ovs
  | .selv => s'.selv = s.selv
  | .enumStart => s'.enumStart = s.enumStart
  | .host => s'.host = s.host
  | .cans => s'.cans = s.cans
  | .streams => s'.streams = s.streams
  | .ports => s'.ports = s.ports
  | .sents => s'.sents = s.sents
  | .dma => s'.dma = s.dma
  | .dmaTrigs => s'.dmaTrigs = s.dmaTrigs
  | .ahead => s'.ahead = s.ahead
  | .strand => s'.strand = s.strand
  | .supply => s'.supply = s.supply
  | .saf => s'.saf = s.saf

/-- The states differ in the parts `ps` only. -/
def SameBut (ps : List Part) (s s' : State) : Prop := ∀ p, p ∉ ps → p.same s s'

/-- Every memory holds its canonical form: registers, trace, working and record memory, the weave stores, flash, the
Strandline accumulators. -/
def State.canonical (s : State) : Bool :=
  s.regs.wf regReset && s.trace.wf memDefault && s.work.wf memDefault && s.recMem.wf memDefault && s.ply0.wf memDefault
    && s.ply1.wf memDefault && s.ply2.wf memDefault && s.flash.wf flashDefault && s.acc.wf accDefault

/-- The comparators of every bank are in the modes that its state asks for (R295, R329, R330, R408). -/
def State.modesOk (s : State) : Bool :=
  (List.range 12).all (fun b => decide ((vget s.cmps b).main.code = (s.bk b).mainMode
    ∧ (vget s.cmps b).zero.code = (s.bk b).zeroMode ∧ (vget s.cmps b).drain.code = (s.bk b).drainMode))

/-- The command completes, and `p` holds of the state that it leaves. -/
def Does (c : Instr) (s : State) (p : State → Prop) : Prop := ∃ s', exec c s = .next s' ∧ p s'

/-- The command has nothing to do: only the timebase moves to its instant. -/
def Idles (c : Instr) (s : State) (t : Word) : Prop := exec c s = .next (s.at t)

/-- After a clear at `t` the counters `fs` hold what was counted at that very instant, the largest values `ms` what was recorded
at it, and every other register is as it was. -/
def Cleared (fs ms : List Fld) (t : Word) (s s' : State) : Prop :=
  (∀ f ∈ fs, s'.get f = min ((s.at t).noted f).sum f.max) ∧ (∀ f ∈ ms, s'.get f = min (((s.at t).noted f).foldl max 0) f.max)
    ∧ ∀ a, a ∉ (fs ++ ms).map Fld.addr → s'.reg a = s.reg a

/-- The command is refused: SYS_STATUS.WREJ is set and no other register changes (R14, R34). -/
def Refused (c : Instr) (s : State) : Prop :=
  Does c s (fun s' => s'.get Reg.SYS_STATUS_WREJ = 1 ∧ ∀ a, a ≠ Reg.SYS_STATUS_addr → s'.reg a = s.reg a)

/-- Every part. -/
def allParts : List Part :=
  [.now, .fresh, .power, .straps, .regs, .trace, .work, .recMem, .ply0, .ply1, .ply2, .flash,
   .ticks, .reports, .mergeOpen, .fifo, .causes, .crossings, .gov, .weave, .primary, .warps, .wefts, .learn,
   .shTok, .bkTok, .pair, .recJobs, .acc, .shuttles, .seqTok, .pulseOuts, .banks, .cmps, .boosts, .closures,
   .seqs, .slices, .rot, .inCal, .wmons, .ptimers, .monTest, .cmbSig, .pins, .combust, .trimDue, .maps,
   .svc, .rail, .ovs, .selv, .enumStart, .host, .cans, .streams, .ports, .sents, .dma, .dmaTrigs,
   .ahead, .strand, .supply, .saf]

/-- What a reset or standby may change: not the straps read at the last reset end, not the flash, and not which commands of the queue
have been carried out. -/
def resetParts : List Part := allParts.filter (fun p => decide (p ≠ .straps ∧ p ≠ .flash ∧ p ≠ .ahead))

/-- What a register or memory access from outside may set off: everything but the straps. -/
def accessParts : List Part := allParts.filter (fun p => decide (p ≠ .straps))

/-- The parts that a command may change. -/
def touches : Instr → List Part
  | .registerWrite _ _ _ => accessParts
  | .eventMerge _ => [.now, .regs, .work, .ticks, .reports, .fifo, .pair, .combust, .cans, .streams, .dmaTrigs, .strand]
  | .invalidCodeDetect _ _ => [.now, .regs, .ticks, .causes]
  | .handshakeStall _ _ => [.now, .regs, .ticks, .causes]
  | .clockLost _ _ =>
    [.now, .regs, .ticks, .reports, .causes, .crossings, .warps, .wefts, .learn, .shTok, .bkTok, .pair, .acc, .shuttles,
     .pulseOuts, .maps, .svc, .ovs, .strand]
  | .crossingResume _ _ => [.now, .crossings]
  | .governorSample _ _ => [.now, .regs, .ticks, .causes, .gov, .saf]
  | .vcoreRaise _ => [.now, .regs, .ticks, .gov]
  | .vcoreLower _ => [.now, .regs, .gov]
  | .sysLatClr _ => [.now, .regs]
  | .loadWeave _ => [.now, .regs, .ticks, .weave]
  | .loadComplete _ _ _ =>
    [.now, .regs, .work, .ticks, .reports, .mergeOpen, .causes, .gov, .weave, .primary, .warps, .wefts, .learn, .shTok,
     .bkTok, .pair, .shuttles, .seqTok, .pulseOuts, .banks, .cmps, .boosts, .closures, .seqs, .rot, .wmons, .ptimers,
     .cmbSig, .pins, .combust, .trimDue, .maps, .rail, .ovs, .cans, .streams, .ports, .dma, .dmaTrigs, .supply, .saf]
  | .runLoom _ => [.now, .regs, .ticks, .weave]
  | .loomStart _ =>
    [.now, .fresh, .regs, .work, .recMem, .ticks, .reports, .causes, .weave, .warps, .wefts, .learn, .shTok, .bkTok,
     .pair, .acc, .shuttles, .seqTok, .pulseOuts, .banks, .cmps, .closures, .inCal, .cmbSig, .combust, .trimDue, .maps,
     .svc, .rail, .ovs, .selv, .strand, .saf]
  | .stop _ =>
    [.now, .regs, .work, .ticks, .reports, .causes, .weave, .warps, .wefts, .learn, .shTok, .bkTok, .pair, .acc,
     .shuttles, .seqTok, .pulseOuts, .banks, .cmps, .boosts, .closures, .seqs, .cmbSig, .combust, .trimDue, .maps, .svc,
     .ovs, .dmaTrigs, .strand]
  | .mirror _ _ => [.now, .regs, .ticks, .weave]
  | .mirrorDone _ => [.now, .regs, .flash, .weave]
  | .verify _ => [.now, .regs, .ticks, .weave]
  | .verifyDone _ => [.now, .regs, .weave]
  | .erase _ _ => [.now, .regs, .ticks, .weave]
  | .eraseDone _ => [.now, .ply0, .ply1, .ply2, .weave]
  | .wveCmdReject _ _ _ => [.now, .regs, .ticks]
  | .weaveStoreWrite _ _ _ _ _ => [.now, .regs, .ticks, .weave]
  | .weaveProgramDone _ => [.now, .ply0, .ply1, .ply2, .weave]
  | .scrubSectionEnd _ _ _ => [.now, .regs, .ticks, .causes, .weave]
  | .storedPlyCheck _ => [.now, .regs, .reports, .weave]
  | .wheelTransition _ _ _ =>
    [.now, .regs, .work, .ticks, .reports, .causes, .primary, .warps, .wefts, .learn, .shTok, .bkTok, .pair, .recJobs,
     .acc, .shuttles, .pulseOuts, .maps, .svc, .ovs, .strand]
  | .edgeFilterExpiry _ _ =>
    [.now, .regs, .work, .ticks, .reports, .causes, .primary, .warps, .wefts, .learn, .shTok, .bkTok, .pair, .recJobs,
     .acc, .shuttles, .pulseOuts, .maps, .svc, .ovs, .strand]
  | .dirSplitExpiry _ _ =>
    [.now, .regs, .ticks, .reports, .causes, .warps, .wefts, .learn, .shTok, .bkTok, .pair, .acc, .shuttles, .pulseOuts,
     .maps, .svc, .ovs, .strand]
  | .dirMaxExpiry _ _ => [.now, .regs, .ticks, .warps]
  | .stallTimeout _ _ =>
    [.now, .regs, .ticks, .reports, .causes, .primary, .warps, .wefts, .learn, .shTok, .bkTok, .pair, .acc, .shuttles,
     .pulseOuts, .maps, .svc, .ovs, .strand]
  | .camStallTimeout _ _ =>
    [.now, .regs, .ticks, .reports, .causes, .warps, .wefts, .learn, .shTok, .bkTok, .pair, .acc, .shuttles, .pulseOuts,
     .maps, .svc, .ovs, .strand]
  | .wrpCntClr _ _ => [.now, .regs, .ticks]
  | .syncLost _ _ => [.now, .regs, .ticks, .reports, .shTok, .shuttles, .seqTok, .banks, .cmps, .dmaTrigs]
  | .rotationLost _ _ =>
    [.now, .fresh, .regs, .ticks, .reports, .shTok, .bkTok, .shuttles, .seqTok, .banks, .cmps, .dmaTrigs]
  | .toothUpdateBroadcast _ _ =>
    [.now, .regs, .ticks, .wefts, .pair, .acc, .shuttles, .pulseOuts, .maps, .svc, .ovs, .streams]
  | .microtickHold _ _ => [.now, .regs, .ticks, .wefts]
  | .wftUpdRead _ _ => [.now, .regs]
  | .wftSnapRead _ _ => [.now, .fresh, .regs]
  | .wftCntClr _ _ => [.now, .regs, .ticks]
  | .shuttleToothUpdate _ _ => [.now, .fresh, .regs, .ticks, .reports, .shuttles, .seqTok, .banks, .cmps, .dmaTrigs]
  | .startCommit _ _ => [.now, .fresh, .regs, .ticks, .reports, .shuttles, .seqTok, .banks, .cmps]
  | .stopCommit _ _ => [.now, .regs, .shuttles]
  | .pulseStop _ _ => [.now, .fresh, .regs, .ticks, .reports, .shuttles, .seqTok, .banks, .cmps]
  | .gateOpenCommit _ _ => [.now, .fresh, .regs, .ticks, .reports, .shuttles, .seqTok, .banks, .cmps]
  | .gateOpen _ _ => [.now, .regs, .ticks, .reports, .shuttles, .seqTok]
  | .gateCloseCommit _ _ => [.now, .regs, .shuttles]
  | .gateClose _ _ => [.now, .fresh, .regs, .ticks, .reports, .shuttles, .seqTok, .banks, .cmps, .dmaTrigs]
  | .gridTickCommit _ _ => [.now, .regs, .shuttles]
  | .gridTick _ _ => [.now, .regs, .ticks, .shuttles, .seqTok]
  | .shtEnSet _ _ => [.now, .regs, .ticks, .shuttles]
  | .shtEnClear _ _ => [.now, .regs, .ticks, .reports, .shuttles, .seqTok, .banks, .cmps, .dmaTrigs]
  | .shtReadySet _ _ _ => [.now, .regs, .ticks, .shuttles]
  | .shtCntClr _ _ => [.now, .regs, .ticks]
  | .pulseOutputUpdate _ _ => [.now, .pulseOuts]
  | .pulseOutputEdge _ => [.now, .regs, .ticks, .pulseOuts]
  | .tachEdge _ => [.now, .regs, .ticks, .pulseOuts]
  | .bankCommit _ _ => [.now, .fresh, .regs, .ticks, .reports, .shuttles, .seqTok, .banks, .cmps]
  | .bankStartDecision _ _ =>
    [.now, .fresh, .regs, .ticks, .reports, .warps, .learn, .acc, .shuttles, .seqTok, .banks, .cmps]
  | .deadTimeExpiry _ _ => [.now, .regs, .banks, .cmps]
  | .trapInstr _ _ => [.now, .fresh, .regs, .ticks, .reports, .warps, .learn, .acc, .shuttles, .seqTok, .banks, .cmps]
  | .drv _ _ => [.now, .fresh, .regs, .ticks, .reports, .warps, .learn, .acc, .shuttles, .seqTok, .banks, .cmps]
  | .riseInstr _ _ => [.now, .fresh, .regs, .ticks, .reports, .warps, .learn, .acc, .shuttles, .seqTok, .banks, .cmps]
  | .fallInstr _ _ => [.now, .fresh, .regs, .ticks, .reports, .warps, .learn, .acc, .shuttles, .seqTok, .banks, .cmps]
  | .chop _ _ _ => [.now, .fresh, .regs, .ticks, .reports, .warps, .learn, .acc, .shuttles, .seqTok, .banks, .cmps]
  | .recov _ _ => [.now, .fresh, .regs, .ticks, .reports, .warps, .learn, .acc, .shuttles, .seqTok, .banks, .cmps]
  | .contInstr _ _ _ => [.now, .fresh, .regs, .ticks, .reports, .warps, .learn, .acc, .shuttles, .seqTok, .banks, .cmps]
  | .setpk _ _ => [.now, .fresh, .regs, .ticks, .reports, .warps, .learn, .acc, .shuttles, .seqTok, .banks, .cmps]
  | .setvy _ _ => [.now, .fresh, .regs, .ticks, .reports, .warps, .learn, .acc, .shuttles, .seqTok, .banks, .cmps]
  | .blank _ _ => [.now, .fresh, .regs, .ticks, .reports, .warps, .learn, .acc, .shuttles, .seqTok, .banks, .cmps]
  | .jmp _ _ => [.now, .fresh, .regs, .ticks, .reports, .warps, .learn, .acc, .shuttles, .seqTok, .banks, .cmps]
  | .brf _ _ _ => [.now, .fresh, .regs, .ticks, .reports, .warps, .learn, .acc, .shuttles, .seqTok, .banks, .cmps]
  | .loopInstr _ _ => [.now, .fresh, .regs, .ticks, .reports, .warps, .learn, .acc, .shuttles, .seqTok, .banks, .cmps]
  | .flt _ _ => [.now, .fresh, .regs, .ticks, .reports, .warps, .learn, .acc, .shuttles, .seqTok, .banks, .cmps]
  | .heddleTimedExpiry _ _ => [.now, .regs, .banks, .cmps]
  | .comparatorTrip _ _ _ _ =>
    [.now, .fresh, .regs, .ticks, .reports, .causes, .warps, .learn, .acc, .shuttles, .seqTok, .banks, .cmps]
  | .blankingEnd _ _ _ =>
    [.now, .fresh, .regs, .ticks, .reports, .causes, .warps, .learn, .acc, .shuttles, .seqTok, .banks, .cmps]
  | .recoveryEndZth _ _ _ => [.now, .fresh, .regs, .ticks, .reports, .warps, .learn, .acc, .shuttles, .seqTok, .banks, .cmps]
  | .recoveryEndRmax _ _ => [.now, .fresh, .regs, .ticks, .reports, .warps, .learn, .acc, .shuttles, .seqTok, .banks, .cmps]
  | .overlapRecoveryEnd _ _ =>
    [.now, .fresh, .regs, .ticks, .reports, .warps, .learn, .acc, .shuttles, .seqTok, .banks, .cmps]
  | .postponeExpiry _ _ => [.now, .fresh, .regs, .ticks, .reports, .acc, .shuttles, .seqTok, .banks, .cmps]
  | .contEnable _ _ => [.now, .fresh, .regs, .ticks, .reports, .acc, .shuttles, .seqTok, .banks, .cmps]
  | .contDisable _ _ => [.now, .regs, .ticks, .banks, .cmps]
  | .contSetpointWrite _ _ _ _ _ => [.now, .regs, .ticks, .banks, .cmps]
  | .contDwellEnd _ _ _ =>
    [.now, .fresh, .regs, .ticks, .reports, .causes, .warps, .learn, .acc, .shuttles, .seqTok, .banks, .cmps]
  | .bnkCntClr _ _ => [.now, .regs, .ticks]
  | .boostEnable _ _ => [.now, .regs, .boosts]
  | .boostRailSample _ _ _ => [.now, .regs, .ticks, .reports, .acc, .boosts]
  | .boostOvPersist _ _ => [.now, .causes, .boosts]
  | .openLoadCheck _ _ _ => [.now, .fresh, .regs, .ticks, .reports, .causes, .acc, .shuttles, .seqTok, .banks, .cmps]
  | .lsDesat _ _ _ => [.now, .fresh, .regs, .ticks, .reports, .causes, .acc, .shuttles, .seqTok, .banks, .cmps]
  | .hsDesat _ _ _ => [.now, .fresh, .regs, .ticks, .reports, .causes, .acc, .shuttles, .seqTok, .banks, .cmps]
  | .crossCheckFail _ _ _ _ => [.now, .regs, .banks, .cmps]
  | .offtPeriod _ _ => [.now, .regs, .ticks, .banks, .cmps]
  | .offtStart _ _ => [.now, .banks, .cmps]
  | .offtDecide _ _ _ _ _ => [.now, .fresh, .regs, .ticks, .reports, .causes, .acc, .shuttles, .seqTok, .banks, .cmps]
  | .residualCurrent _ _ _ => [.now, .fresh, .regs, .ticks, .reports, .causes, .acc, .shuttles, .seqTok, .banks, .cmps]
  | .latchClear _ _ _ => [.now, .fresh, .regs, .ticks, .reports, .acc, .shuttles, .seqTok, .banks, .cmps]
  | .tailSample _ _ _ => [.now, .regs, .banks, .cmps, .closures]
  | .tailWindowEnd _ _ => [.now, .regs, .banks, .cmps]
  | .thermalStep _ _ _ => [.now, .fresh, .regs, .ticks, .reports, .acc, .shuttles, .seqTok, .banks, .cmps]
  | .bnkDcntClr _ _ => [.now, .regs, .ticks]
  | .conversionSample _ _ => [.now, .fresh, .regs, .trace, .ticks, .seqs, .slices]
  | .conversionComplete _ _ _ =>
    [.now, .fresh, .regs, .trace, .ticks, .reports, .causes, .banks, .cmps, .seqs, .pins, .rail, .saf]
  | .openWireSettle _ _ => [.now, .seqs]
  | .rotationStart _ => [.now, .regs, .rot]
  | .sliceSwitchStart _ => [.now, .regs, .rot]
  | .sliceSwitchEnd _ => [.now, .regs, .seqs, .rot]
  | .rotationAbandon _ => [.now, .regs, .ticks]
  | .spareCalVerdict _ _ _ _ => [.now, .fresh, .regs, .reports, .causes]
  | .seqGo _ _ => [.now, .regs, .ticks, .reports, .seqs]
  | .seqEn _ _ _ => [.now, .regs, .ticks, .seqs]
  | .seqTimer _ _ => [.now, .regs, .ticks, .reports, .seqs]
  | .seqGateOpen _ _ => [.now, .regs, .trace, .ticks, .reports, .seqTok, .seqs]
  | .seqGridTick _ _ => [.now, .regs, .ticks, .reports, .seqTok, .seqs]
  | .seqGateClose _ _ => [.now, .regs, .ticks, .seqTok, .seqs]
  | .passStart _ _ => [.now, .regs, .ticks, .seqs]
  | .passEnd _ _ => [.now, .fresh, .regs, .trace, .ticks, .reports, .seqs]
  | .windowFinalise _ _ => [.now, .regs, .trace, .ticks, .seqs, .cmbSig, .streams, .dmaTrigs]
  | .seqCntClr _ _ => [.now, .regs, .ticks]
  | .windowCrossing _ _ _ => [.now, .regs, .ticks, .reports, .causes, .wmons, .saf]
  | .wmBlankEnd _ _ => [.now, .regs, .ticks, .reports, .causes, .wmons, .saf]
  | .wmLatchClear _ _ => [.now, .regs]
  | .periodTimerEdge _ _ => [.now, .regs, .ptimers, .dmaTrigs]
  | .ptEnable _ _ => [.now, .regs, .ptimers, .dmaTrigs]
  | .wmCntClr _ _ => [.now, .regs]
  | .bankSelftestDone _ _ _ => [.now, .fresh, .regs, .ticks, .reports, .causes, .acc, .shuttles, .seqTok, .banks, .cmps]
  | .monitorSelftest _ => [.now, .regs, .monTest, .supply]
  | .monitorSelftestDone _ _ _ => [.now, .regs, .ticks, .reports, .causes, .wmons, .monTest, .supply, .saf]
  | .pinTimeout _ _ => [.now, .regs, .ticks, .reports, .causes, .banks, .cmps, .rail, .saf]
  | .analysisStart _ _ => [.now, .regs, .ticks, .cmbSig, .combust]
  | .recordCommit _ _ => [.now, .fresh, .regs, .work, .ticks, .reports, .acc, .combust, .trimDue, .dmaTrigs]
  | .trimUpdate _ => [.now, .fresh, .regs, .work, .reports, .trimDue, .maps]
  | .listBuild _ _ _ => [.now, .fresh, .regs, .work, .ticks, .reports, .shuttles, .maps]
  | .demandSwap _ => [.now, .regs, .svc]
  | .demandTimeout _ => [.now, .regs, .reports]
  | .driftUpdate _ => [.now, .work, .reports, .acc, .closures]
  | .railLoopStep _ => [.now, .regs, .ticks, .reports, .causes, .banks, .cmps, .rail, .saf]
  | .setpointRamp _ => [.now, .rail]
  | .pinDisagree _ => [.now, .regs, .ticks, .reports, .causes, .banks, .cmps, .rail, .saf]
  | .railOverpressure _ => [.now, .regs, .ticks, .reports, .causes, .rail]
  | .overspeedUpdate _ => [.now, .regs, .ticks, .reports, .causes, .acc, .ovs]
  | .serviceCntClr _ _ => [.now, .regs, .ticks]
  | .enumIdn _ => [.now, .regs, .ticks, .selv, .enumStart]
  | .idnCmdInvalid _ _ => [.now, .regs, .ticks, .selv, .enumStart]
  | .selvedgeLineReady _ _ => [.now, .regs, .selv]
  | .selvedgeLineShort _ _ => [.now, .regs, .selv]
  | .selvedgeReset _ _ => [.now, .selv]
  | .rollCall _ _ _ _ => [.now, .regs, .selv]
  | .selectSite _ _ _ _ => [.now, .fresh, .selv]
  | .selvedgeRead _ _ _ _ => [.now, .fresh, .regs, .work, .selv]
  | .enumDone _ => [.now, .fresh, .regs, .work, .ticks, .reports, .acc, .inCal, .selv, .enumStart]
  | .backgroundRollCall _ _ _ _ => [.now, .regs, .ticks, .reports, .selv]
  | .hostRead _ _ _ => accessParts
  | .hostWrite _ _ _ _ => accessParts
  | .hostNop _ _ => [.now, .regs, .ticks, .fifo, .pair, .host]
  | .hostFrameError _ _ => [.now, .regs, .ticks, .fifo, .pair, .host]
  | .eventPop _ _ => accessParts
  | .canTxRequest _ _ _ => [.now, .regs, .ticks, .cans]
  | .canTxDone _ _ _ _ => accessParts
  | .canRxFrame _ _ _ _ _ => accessParts
  | .canRxAck _ _ => [.now, .regs, .ticks]
  | .canBusOff _ _ => [.now, .regs, .reports, .cans]
  | .canBusOn _ _ => [.now, .regs, .reports, .cans]
  | .canBusoffReq _ _ => [.now, .regs, .ticks, .cans]
  | .phyLinkPoll _ _ _ => [.now, .fresh, .regs, .reports, .ports]
  | .datagramStart _ _ => accessParts
  | .streamFlush _ _ => [.now, .streams]
  | .ethRxFrame _ _ => [.now, .regs, .ticks]
  | .sentFrame _ _ _ _ _ => [.now, .fresh, .regs, .ticks, .reports, .causes, .banks, .cmps, .pins, .rail, .sents, .saf]
  | .sentStale _ _ => [.now, .regs, .reports]
  | .flashRead _ _ _ => [.now, .regs, .work, .flash, .ticks, .learn, .host]
  | .flashProgram _ _ _ => [.now, .regs, .work, .flash, .ticks, .learn, .host]
  | .flashErase _ _ => [.now, .regs, .work, .flash, .ticks, .learn, .host]
  | .flashCmdDone _ => [.now, .regs, .host]
  | .jtagExtest _ => [.now, .regs, .ticks, .host]
  | .jtagIdcode _ => [.now, .host]
  | .jtagSamplePreload _ => [.now, .host]
  | .jtagHighz _ => [.now, .regs, .ticks, .host]
  | .jtagClamp _ => [.now, .regs, .ticks, .host]
  | .jtagBypass _ => [.now, .host]
  | .jtagDbgAccess _ _ _ _ _ => accessParts
  | .dmaGo _ _ => [.now, .regs, .ticks, .dma, .ahead]
  | .dmaTrigger _ _ => [.now, .regs, .ticks, .dma, .dmaTrigs, .ahead]
  | .dmaDescriptorLoad _ _ => accessParts
  | .dmaBeatResponse _ _ _ => accessParts
  | .dmaStop _ _ => [.now, .regs, .ticks, .dma]
  | .dmaResume _ _ => [.now, .regs, .ticks, .dma, .ahead]
  | .dmaEnable _ _ => [.now, .regs, .ticks, .dma, .ahead]
  | .dmaDisable _ _ => [.now, .regs, .ticks, .dma]
  | .dmaDomainReturn _ _ => [.now, .regs, .dma, .ahead]
  | .commitTimer _ => [.now, .regs, .strand]
  | .strandlineCommit _ => [.now, .regs, .ticks, .strand]
  | .fullCommit _ => [.now, .regs, .recJobs, .acc, .strand]
  | .recordWriteDone _ => [.now, .regs, .recMem, .reports, .pair, .strand]
  | .coilTempBin _ => [.now, .acc, .strand]
  | .boostBin _ => [.now, .acc, .strand]
  | .runSeconds _ => [.now, .acc, .strand]
  | .strandlineReady _ => [.now, .regs, .acc, .strand]
  | .proexAlign _ =>
    [.now, .regs, .ticks, .reports, .causes, .warps, .wefts, .learn, .shTok, .bkTok, .pair, .acc, .shuttles, .pulseOuts,
     .maps, .svc, .ovs, .strand]
  | .proexToothFrame _ _ _ =>
    [.now, .regs, .ticks, .reports, .causes, .warps, .wefts, .learn, .shTok, .bkTok, .pair, .acc, .shuttles, .pulseOuts,
     .maps, .svc, .ovs, .strand]
  | .proexBeatFrame _ _ _ _ =>
    [.now, .regs, .ticks, .reports, .causes, .warps, .wefts, .learn, .shTok, .bkTok, .pair, .acc, .shuttles, .pulseOuts,
     .maps, .svc, .ovs, .strand]
  | .proexEventFrame _ _ _ => [.now, .regs, .ticks, .reports, .pair]
  | .proexRecordFrame _ _ _ => accessParts
  | .proexBlockFrame _ _ _ => accessParts
  | .proexFrameError _ _ => [.now, .regs, .ticks]
  | .beatDue _ => [.now, .pair]
  | .proexFrameSend _ => [.now, .pair]
  | .blockSeriesDue _ _ => [.now, .pair]
  | .beatTimeout _ =>
    [.now, .regs, .ticks, .reports, .causes, .warps, .wefts, .learn, .shTok, .bkTok, .pair, .acc, .shuttles, .pulseOuts,
     .maps, .svc, .ovs, .strand]
  | .mapTimeout _ =>
    [.now, .regs, .ticks, .reports, .causes, .warps, .wefts, .learn, .shTok, .bkTok, .pair, .acc, .shuttles, .pulseOuts,
     .maps, .svc, .ovs, .strand]
  | .mirrorToothTimeout _ =>
    [.now, .regs, .ticks, .reports, .causes, .warps, .wefts, .learn, .shTok, .bkTok, .pair, .acc, .shuttles, .pulseOuts,
     .maps, .svc, .ovs, .strand]
  | .divClr _ => [.now, .regs, .ticks, .reports, .pair]
  | .pairEventPop _ _ => accessParts
  | .supplyMonitorTrip _ _ => [.now, .regs, .supply]
  | .supplyMonitorRelease _ _ => resetParts
  | .sensorSupplyLow _ => [.now, .regs, .reports]
  | .ebbActive _ _ => [.now, .regs, .ticks, .reports, .acc, .strand]
  | .ebbInactive _ _ => [.now, .regs, .reports]
  | .lowWaterReset _ => resetParts
  | .lowWaterEnd _ => [.now, .supply]
  | .powerOnReset _ => resetParts
  | .pinReset _ => resetParts
  | .pinResetEnd _ => [.now, .supply]
  | .softwareReset _ _ => resetParts
  | .resetEnd _ _ _ => [.now, .power, .straps, .regs, .weave, .selv, .enumStart, .strand, .supply, .saf]
  | .startLateTimeout _ => [.now, .regs, .reports]
  | .domainOffRequest _ _ => [.now, .regs, .ticks, .reports, .supply]
  | .domainOnRequest _ _ => [.now, .regs, .ticks, .reports, .supply]
  | .drainEnd _ _ =>
    [.now, .regs, .trace, .ticks, .reports, .causes, .warps, .wefts, .learn, .shTok, .bkTok, .pair, .acc, .shuttles,
     .pulseOuts, .maps, .svc, .ovs, .strand, .supply]
  | .drainTimeout _ _ => accessParts
  | .domainWakeDone _ _ => [.now, .regs, .reports, .cans, .ports, .supply]
  | .standbyRequest _ _ =>
    [.now, .regs, .work, .ticks, .reports, .causes, .weave, .warps, .wefts, .learn, .shTok, .bkTok, .pair, .acc,
     .shuttles, .seqTok, .pulseOuts, .banks, .cmps, .boosts, .closures, .seqs, .cmbSig, .combust, .trimDue, .maps, .svc,
     .ovs, .dmaTrigs, .strand, .supply]
  | .standbyComplete _ => resetParts
  | .wakeInput _ _ => [.now, .regs, .supply]
  | .wakeFilterExpiry _ => resetParts
  | .wakeTimer _ => resetParts
  | .headlandCause _ =>
    [.now, .fresh, .regs, .work, .ticks, .reports, .causes, .weave, .warps, .wefts, .learn, .shTok, .bkTok, .pair, .acc,
     .shuttles, .seqTok, .pulseOuts, .banks, .cmps, .boosts, .closures, .seqs, .cmbSig, .combust, .trimDue, .maps, .svc,
     .ovs, .dmaTrigs, .strand, .saf]
  | .cutHoldExpiry _ =>
    [.now, .fresh, .regs, .work, .ticks, .reports, .causes, .weave, .warps, .wefts, .learn, .shTok, .bkTok, .pair, .acc,
     .shuttles, .seqTok, .pulseOuts, .banks, .cmps, .boosts, .closures, .seqs, .cmbSig, .combust, .trimDue, .maps, .svc,
     .ovs, .dmaTrigs, .strand, .saf]
  | .safeRelease _ _ =>
    [.now, .fresh, .regs, .work, .ticks, .reports, .causes, .weave, .warps, .wefts, .learn, .shTok, .bkTok, .pair, .acc,
     .shuttles, .seqTok, .pulseOuts, .banks, .cmps, .boosts, .closures, .seqs, .cmbSig, .combust, .trimDue, .maps, .svc,
     .ovs, .dmaTrigs, .strand, .saf]
  | .headlandSelftestDone _ _ => [.now, .regs, .ticks, .reports, .saf]
  | .headlandRunEntry _ =>
    [.now, .fresh, .regs, .work, .ticks, .reports, .causes, .weave, .warps, .wefts, .learn, .shTok, .bkTok, .pair, .acc,
     .shuttles, .seqTok, .pulseOuts, .banks, .cmps, .boosts, .closures, .seqs, .cmbSig, .combust, .trimDue, .maps, .svc,
     .ovs, .dmaTrigs, .strand, .saf]
  | .clockMonitorWindow _ _ _ => [.now, .causes, .saf]
  | .housekeepingSample _ _ _ => [.now, .regs, .causes, .acc, .banks, .cmps, .saf]
  | .safeNMismatch _ => [.now, .regs, .causes]
  | .safeInChange _ _ => [.now, .regs, .causes, .saf]
  | .clockReturn _ _ => [.now, .regs, .crossings]
  | .safCntClr _ => [.now, .regs]
  | .prxCntClr _ => [.now, .regs, .ticks]
  | .recCntClr _ => [.now, .regs, .ticks]
  | .dmaCntClr _ _ => [.now, .regs, .ticks]
  | .lnkCntClr _ _ => [.now, .regs, .ticks]

end Sys2Proof.Machine
end

