-- ==== Sys2Proof/Certificates/Slice0/Obligations.lean ====
section
/-!
DEFINITION. What is to be proved of the model: the statements, each from the rules of spec/ that OBLIGATIONS.json cites.
`Does c s p` says that command `c` completes in state `s` and that `p` holds of the state it leaves; `Idles c s t` says that it
has nothing to do but to take the timebase to its instant.
-/
open Sys2Proof Sys2Proof.Machine

/-! ### The block -/

/-- A step takes the command at the front of the queue, in the state that holds the queue's rest; with an empty queue the block
idles (the model's choice, log entry 4). -/
def Obligations.StepRunsTheFrontCommand : Prop :=
  (∀ (c : Instr) (cs : List Instr) (s : State), s.pending = c :: cs → step s = exec c { s with pending := cs })
    ∧ ∀ s : State, s.pending = [] → step s = .next s

/-- Every command completes in every state: none stops the block with a fault or a refusal. No command changes the queue: the queue
after a step is the rest of the queue before it. A bus access that was carried out ahead of its turn in the queue, because it
wins against one of its instant (R59 to R61, R525; log entry 132), has no further effect when its turn comes. -/
def Obligations.CommandsCompleteAndLeaveTheQueue : Prop :=
  (∀ (c : Instr) (s : State), ∃ s', exec c s = .next s')
  ∧ (∀ (c : Instr) (s s' : State), exec c s = .next s' → s'.pending = s.pending)
  ∧ (∀ (t : Word) (a : Fin 65536) (v : Word) (late : Bool) (k : Fin 16) (p : Fin 2) (f : Fin 256) (l : List Nat) (op crc : Fin 256) (s : State),
    ∀ c ∈ [Instr.registerWrite t a v, .hostRead t a late, .hostWrite t a v late, .eventPop t late, .pairEventPop t late,
        .jtagDbgAccess t op a crc v, .dmaGo t k, .dmaTrigger t k, .dmaResume t k, .dmaEnable t k, .dmaDomainReturn t k,
        .dmaDescriptorLoad t k, .dmaBeatResponse t k late, .datagramStart t p, .proexRecordFrame t f l, .proexBlockFrame t f l],
      s.early c = true → Does c s (fun s' => s' = (s.at t).passed c ∧ s'.ahead.count c + 1 = s.ahead.count c))

/-- A power-on reset leaves every register at its Reset column, but SYS_RSTCAUSE, whose POR bit is set. Where the column gives no
number (weave, factory, strap) the model's choice is 0 (log entry 119). At reset every memory has its canonical form, and the
comparators of every bank are in the modes that its state asks for. -/
def Obligations.ResetState : Prop :=
  ((∀ a, a ≠ Reg.SYS_RSTCAUSE_addr → State.reset.reg a = regReset a) ∧ State.reset.get Reg.SYS_RSTCAUSE_POR = 1
    ∧ State.reset.pending = [])
  ∧ (State.reset.canonical = true ∧ State.reset.modesOk = true)

/-- Every step keeps the canonical form of every memory, so equal memories stay equal data. -/
def Obligations.StepKeepsMemoriesCanonical : Prop :=
  ∀ s s' : State, s.canonical = true → step s = .next s' → s'.canonical = true

/-- Every step keeps the comparators of every bank in the modes that the bank's state asks for: F, with the drains in M, from a commit on
while the bank is not IDLE or a tail or a test runs, and L, M for recovery zero, else (R295, R329, R330, R408; log entry 106). -/
def Obligations.StepKeepsComparatorModes : Prop :=
  ∀ s s' : State, s.modesOk = true → step s = .next s' → s'.modesOk = true

/-- The frame of every command: only the parts that `touches` names for it can differ. -/
def Obligations.EveryCommandFrame : Prop :=
  ∀ (c : Instr) (s s' : State), exec c s = .next s' → SameBut (touches c) s s'

/-! ### Counter clears -/

/-- A write of the clear word of a Warp, a Weft, a Shuttle, a bank, its diagnostics, a sequencer or a window monitor puts every
counter of that unit, and the largest error or wait it keeps, to 0, but for what is counted at that very instant; no other
register changes. The clear word of a bank 0, 4 or 8 clears the boost controller's counters, too. A clear word of a tile that is
not instantiated is refused. -/
def Obligations.CounterClears : Prop :=
  (∀ (t : Word) (s : State),
    (∀ n : Fin 6, s.hasTile 1 n = true → Does (.wrpCntClr t n) s (Cleared
      [Reg.WRP_CNT0_NOISE n, Reg.WRP_CNT0_MISSED n, Reg.WRP_CNT0_SYNCF n, Reg.WRP_CNT1_CAMF n, Reg.WRP_CNT1_STALLS n,
        Reg.WRP_CNT1_REVS n, Reg.WRP_CNT2_WIDTH_ERR n, Reg.WRP_CNT2_HRST n, Reg.WRP_CNT2_SWITCH n] [] t s))
    ∧ (∀ n : Fin 2, s.hasTile 2 n = true → Does (.wftCntClr t n) s (Cleared
      [Reg.WFT_CNT_COASTX n, Reg.WFT_CNT_HOLDS n, Reg.WFT_CNT_STEPS n] [Reg.WFT_ERR_MAXABS n] t s))
    ∧ (∀ n : Fin 64, s.hasTile 3 n = true → Does (.shtCntClr t n) s (Cleared
      [Reg.SHT_CNT0_SKIP_LATE n, Reg.SHT_CNT0_SKIP_STATE n, Reg.SHT_CNT0_CANCEL n, Reg.SHT_CNT1_POSTPONE n,
        Reg.SHT_CNT1_DROP_OFF n, Reg.SHT_CNT1_LISTERR n, Reg.SHT_CNT2_STALE n, Reg.SHT_CNT2_CLAMP n, Reg.SHT_CNT2_CUT n,
        Reg.SHT_CNT3_GATE_LATE n, Reg.SHT_CNT3_TICK_LATE n, Reg.SHT_CNT3_INCOMPLETE n] [] t s))
    ∧ (∀ b : Fin 12, s.hasTile 4 b = true → Does (.bnkCntClr t b) s (Cleared
      ([Reg.BNK_CNT0_DROP_WAIT b, Reg.BNK_CNT0_DROP_OTHER b, Reg.BNK_CNT0_WAITED b, Reg.BNK_CNT1_TRAPS b, Reg.BNK_CNT1_EARLY b,
        Reg.BNK_CNT1_FLTS b] ++ if b.val % 4 = 0 ∧ s.hasTile 5 (b.val / 4) = true then
          [Reg.BST_CNT_OVS (b.val / 4), Reg.BST_CNT_LOWS (b.val / 4)] else []) [Reg.BNK_WMAX_WAIT b] t s))
    ∧ (∀ b : Fin 12, s.hasTile 4 b = true → Does (.bnkDcntClr t b) s (Cleared
      [Reg.BNK_DCNT_DIAGS b, Reg.BNK_DCNT_DROP_FAULT b, Reg.BNK_DCNT_DROP_HOT b, Reg.BNK_DCNT_OFFT_MISS b] [] t s))
    ∧ (∀ k : Fin 16, s.hasTile 6 k = true → Does (.seqCntClr t k) s (Cleared
      [Reg.SEQ_CNT0_OVERRUN k, Reg.SEQ_CNT0_SLIP k, Reg.SEQ_CNT0_OWSKIP k, Reg.SEQ_CNT1_OW_CLASH k, Reg.SEQ_CNT1_SRC_ERR k]
      [] t s))
    ∧ (∀ m : Fin 8, Does (.wmCntClr t m) s (Cleared [Reg.WM_CNT_TRIPS m, Reg.WM_CNT_SUPP m] [] t s))
    ∧ (∀ c : Instr, (∃ n : Fin 6, s.hasTile 1 n = false ∧ c = .wrpCntClr t n)
      ∨ (∃ n : Fin 2, s.hasTile 2 n = false ∧ c = .wftCntClr t n) ∨ (∃ n : Fin 64, s.hasTile 3 n = false ∧ c = .shtCntClr t n)
      ∨ (∃ b : Fin 12, s.hasTile 4 b = false ∧ (c = .bnkCntClr t b ∨ c = .bnkDcntClr t b))
      ∨ (∃ k : Fin 16, s.hasTile 6 k = false ∧ c = .seqCntClr t k) → Refused c s))

/-- The clear words of the fabric, Headland, Strandline, the Proex controller, the DMA engine, the links and the engine
services: the counters of each, and the longest times or the largest difference beside them, are 0 but for what is counted at that
very instant, and no other register changes. -/
def Obligations.ServiceAndLinkClears : Prop :=
  ∀ (t : Word) (s : State),
    Does (.sysLatClr t) s (Cleared [] [Reg.SYS_LAT_COMMIT, Reg.SYS_LAT_TOOTH] t s)
    ∧ Does (.safCntClr t) s (Cleared [Reg.SAF_CNT_CUTS, Reg.SAF_CNT_SAFES, Reg.SAF_CNT_HALTS, Reg.SYS_SUPPLY_EBB_CNT] [] t s)
    ∧ (s.hasTile 0x0F 0 = true → Does (.recCntClr t) s (Cleared [Reg.REC_CNT_SUPP, Reg.REC_CNT_EVICT] [] t s))
    ∧ (s.hasTile 0x10 0 = true → Does (.prxCntClr t) s (Cleared
      [Reg.PRX_CNT0_HCRCERR, Reg.PRX_CNT0_CODEERR, Reg.PRX_CNT0_SEQGAP, Reg.PRX_CNT1_LOSSES, Reg.PRX_CNT1_SOFTS,
        Reg.PRX_CNT1_HARDS, Reg.PRX_PEVSTAT_LOST] [Reg.PRX_DIFF_MAXABS] t s))
    ∧ (∀ c : Fin 16, s.dmaOn = true → Does (.dmaCntClr t c) s (Cleared
      [Reg.DMA_CNT_TRIG_OVR c, Reg.DMA_CNT_TRIG_LOST c, Reg.DMA_CNT_HALTS c] [] t s))
    ∧ (s.hasTile 0x11 6 = true → Does (.lnkCntClr t .hspi) s (Cleared
      [Reg.LNK_HSPI_CRCERR, Reg.LNK_HSPI_LENERR, Reg.LNK_HSPI_LATES] [] t s))
    ∧ (∀ c : Fin 4, s.hasTile 0x11 c = true → Does (.lnkCntClr t (.can c)) s (Cleared
      [Reg.CAN_CNT_RXOVF c, Reg.CAN_CNT_RESDROP c, Reg.CAN_CNT_RTR c] [] t s))
    ∧ (∀ p : Fin 2, s.hasTile 0x11 (4 + p.val) = true → Does (.lnkCntClr t (.eth p)) s (Cleared
      [Reg.ETH_CNT_RXFRAMES p] [] t s))
    ∧ (∀ k : Fin 8, s.hasTile 0x11 4 = true → Does (.lnkCntClr t (.str k)) s (Cleared
      [Reg.STR_STAT_DROPS k] [] t s))
    ∧ (∀ j : Fin 24, s.hasTile 8 j = true → Does (.serviceCntClr t (.cmb j)) s (Cleared
      [Reg.CMB_STAT_RECS j, Reg.CMB_STAT_INVALID j, Reg.CMB_STAT_OVERRUN j] [] t s))
    ∧ (∀ q : Fin 2, s.hasTile 9 q = true → Does (.serviceCntClr t (.map q)) s (Cleared
      [Reg.QM_STAT_BUILDS q, Reg.QM_STAT_CLAMPS q, Reg.QM_STAT_BUILD_SKIP q] [] t s))
    ∧ (s.hasTile 0x0B 0 = true → Does (.serviceCntClr t .rail) s (Cleared [Reg.RP_STAT_EVENTS] [] t s))
    ∧ (∀ c : Instr, (s.hasTile 0x0F 0 = false ∧ c = .recCntClr t) ∨ (s.hasTile 0x10 0 = false ∧ c = .prxCntClr t)
      ∨ (s.dmaOn = false ∧ ∃ k, c = .dmaCntClr t k) ∨ (∃ j : Fin 24, s.hasTile 8 j = false ∧ c = .serviceCntClr t (.cmb j))
      ∨ (∃ q : Fin 2, s.hasTile 9 q = false ∧ c = .serviceCntClr t (.map q))
      ∨ (s.hasTile 0x0B 0 = false ∧ c = .serviceCntClr t .rail) ∨ (s.hasTile 0x11 6 = false ∧ c = .lnkCntClr t .hspi)
      ∨ (∃ k : Fin 4, s.hasTile 0x11 k = false ∧ c = .lnkCntClr t (.can k))
      ∨ (∃ p : Fin 2, s.hasTile 0x11 (4 + p.val) = false ∧ c = .lnkCntClr t (.eth p))
      ∨ (s.hasTile 0x11 4 = false ∧ ∃ k, c = .lnkCntClr t (.str k)) → Refused c s)

/-! ### Fabric -/

/-- The integrity monitors: an invalid code or a stalled handshake sets the bit of its region and no other bit of SYS_REGION,
changes no other register, and reports cause 1 or 2 to Headland with the region as its index. The clock of domain `d`, in the
bit order of SYS_CLKLOST. Its loss sets the bit of the domain and blocks its crossings, for the receive clock of a Proex
controller with LINK taken DOWN; its return clears the bit, and the crossings resume 10 µs after it, no register changing at
that. A loss has no effect while the device is held in reset or stands by, or in a domain that the host has switched off. -/
def Obligations.FabricMonitors : Prop :=
  (∀ (t : Word) (r : Fin 8) (s : State),
    Does (.invalidCodeDetect t r) s (fun s' => s'.causes = s.causes ++ [(1, r.val)]
      ∧ s'.get Reg.SYS_REGION_INVALID = s.get Reg.SYS_REGION_INVALID ||| 2 ^ r.val
      ∧ s'.get Reg.SYS_REGION_STALL = s.get Reg.SYS_REGION_STALL ∧ ∀ a, a ≠ Reg.SYS_REGION_addr → s'.reg a = s.reg a)
    ∧ Does (.handshakeStall t r) s (fun s' => s'.causes = s.causes ++ [(2, r.val)]
      ∧ s'.get Reg.SYS_REGION_STALL = s.get Reg.SYS_REGION_STALL ||| 2 ^ r.val
      ∧ s'.get Reg.SYS_REGION_INVALID = s.get Reg.SYS_REGION_INVALID ∧ ∀ a, a ≠ Reg.SYS_REGION_addr → s'.reg a = s.reg a))
  ∧ (∀ (t : Word) (d : Fin 7) (s : State),
    (s.power = .up → (clockDomain d).all (fun p => decide (s.domain p < 2)) = true → d.val ≠ 5 →
      Does (.clockLost t d) s (fun s' => s'.crossingOff d = true ∧ s'.get clkLost = s.get clkLost ||| 2 ^ d.val
        ∧ (∀ k : Fin 7, k ≠ d → s'.crossingOff k = s.crossingOff k) ∧ ∀ a, a ≠ Reg.SYS_CLKLOST_addr → s'.reg a = s.reg a))
    ∧ (s.power = .up → s.domain 6 < 2 → Does (.clockLost t 5) s (fun s' => s'.crossingOff 5 = true
        ∧ (s.hasTile 0x10 0 = true → s.get Reg.PRX_STAT_LINK ≤ 2 → s'.get Reg.PRX_STAT_LINK = 0)
        ∧ (s.hasTile 0x10 0 = false → s'.get clkLost = s.get clkLost ||| 2 ^ 5)))
    ∧ (s.power ≠ .up ∨ (clockDomain d).any (fun p => decide (2 ≤ s.domain p)) = true → Idles (.clockLost t d) s t)
    ∧ ((s.get clkLost).testBit d = true → Does (.clockReturn t d) s (fun s' =>
      (s'.get clkLost).testBit d = false ∧ (∀ k : Fin 7, k ≠ d → (s'.get clkLost).testBit k = (s.get clkLost).testBit k)
        ∧ (vget s'.crossings d).returned = some t ∧ s'.crossingOff d = s.crossingOff d
        ∧ ∀ a, a ≠ Reg.SYS_CLKLOST_addr → s'.reg a = s.reg a))
    ∧ ((s.get clkLost).testBit d = false → Idles (.clockReturn t d) s t)
    ∧ (∀ a, (vget s.crossings d).returned = some a → 10 * us ≤ elapsed a t →
      Does (.crossingResume t d) s (fun s' => s'.crossingOff d = false ∧ s'.regs = s.regs))
    ∧ ((∀ a, (vget s.crossings d).returned = some a → elapsed a t < 10 * us) → Idles (.crossingResume t d) s t))

/-- The slack governor. A sample at VCORE 0.90 V (code 30) in which a replica is at 95 % or more sets SLACK_LOW, and reports cause 4
when the sample before showed no such replica (the model's reading, log entry 19); other samples leave SLACK_LOW. Once the weave has loaded, VCORE rises by one
step of 10 mV every 2 µs while a replica of the last sample exceeds GOV_UP, up to code 30, and falls by one step when every replica
has stayed below GOV_DOWN for 1 ms without a break, at most every 100 µs, down to code 0; otherwise it stays. -/
def Obligations.SlackGovernor : Prop :=
  ∀ (t : Word) (s : State),
    (∀ pcts : Vector Nat 16,
      let risk : Bool := decide (s.get Reg.SYS_GOV_VCODE = 30) && pcts.toList.any (fun p => decide (95 ≤ p))
      Does (.governorSample t pcts) s (fun s' =>
        s'.get Reg.SYS_GOV_SLACK_LOW = (if risk then 1 else s.get Reg.SYS_GOV_SLACK_LOW) ∧ s'.gov.slack = risk
        ∧ (∃ region, s'.causes = s.causes ++ (if risk = true ∧ s.gov.slack = false then [(4, region)] else []))
        ∧ s'.gov.overUp = pcts.toList.any (fun p => decide (s.get Reg.SYS_GOV_CTRL_GOV_UP < p))
        ∧ s'.gov.belowSince = (if ∀ p ∈ pcts.toList, p < s.get Reg.SYS_GOV_CTRL_GOV_DOWN then some (s.gov.belowSince.getD t)
          else none)
        ∧ s'.get Reg.SYS_GOV_VCODE = s.get Reg.SYS_GOV_VCODE ∧ ∀ a, a ≠ Reg.SYS_GOV_addr → s'.reg a = s.reg a))
    ∧ (let up : Prop := s.gov.on = true ∧ s.gov.overUp = true ∧ (∀ r, s.gov.lastRaise = some r → 2 * us ≤ elapsed r t)
        ∧ s.get Reg.SYS_GOV_VCODE < 30
      (up → Does (.vcoreRaise t) s (fun s' => s'.get Reg.SYS_GOV_VCODE = s.get Reg.SYS_GOV_VCODE + 1
          ∧ s'.gov = { s.gov with lastRaise := some t } ∧ ∀ a, a ≠ Reg.SYS_GOV_addr → s'.reg a = s.reg a))
        ∧ (¬ up → Idles (.vcoreRaise t) s t))
    ∧ (let down : Prop := s.gov.on = true ∧ (∃ b, s.gov.belowSince = some b ∧ ms ≤ elapsed b t)
        ∧ (∀ r, s.gov.lastLower = some r → 100 * us ≤ elapsed r t) ∧ 0 < s.get Reg.SYS_GOV_VCODE
      (down → Does (.vcoreLower t) s (fun s' => s'.get Reg.SYS_GOV_VCODE + 1 = s.get Reg.SYS_GOV_VCODE
          ∧ s'.gov = { s.gov with lastLower := some t } ∧ ∀ a, a ≠ Reg.SYS_GOV_addr → s'.reg a = s.reg a))
        ∧ (¬ down → Idles (.vcoreLower t) s t))

/-! ### Weave -/

/-- LOAD, RUN, VERIFY, ERASE and MIRROR: an accepted command begins its work, with the weave otherwise as it was; one that its
conditions refuse (LOAD, VERIFY and ERASE while the Loom runs or a load runs, RUN outside LOADED, in HALT or at the instant of a
change of Headland's state, MIRROR outside LOADED and RUNNING, ERASE and MIRROR with PLY 0b11, an undefined code) sets CMD_REJ and changes no other
register and nothing of the weave. A second ERASE or MIRROR waits behind the first (the model's reading, log entry 17), and RUN is refused in
HALT (its reading, log entry 94). -/
def Obligations.WeaveCommands : Prop :=
  ∀ (t : Word) (s : State),
    let rejected := fun (c : Instr) => Does c s (fun s' => s'.get Reg.WVE_STATUS_CMD_REJ = 1 ∧ s'.weave = s.weave
      ∧ ∀ a, a ≠ Reg.WVE_STATUS_addr → s'.reg a = s.reg a)
    (s.running = false → s.weave.loading = false → Does (.loadWeave t) s (fun s' =>
      s'.wstate = stLoading ∧ s'.weave = { s.weave with loading := true, loadStart := t, verifying := false, runReq := false }
        ∧ ∀ a, a ≠ Reg.WVE_STATUS_addr → s'.reg a = s.reg a))
    ∧ (s.wstate = stLoaded → s.get Reg.SAF_STAT_STATE ≠ 4 → (s.at t).headlandFirst = false → Does (.runLoom t) s (fun s' =>
      s'.weave = { s.weave with runReq := true } ∧ s'.regs = s.regs))
    ∧ (s.running = false → s.weave.loading = false → Does (.verify t) s (fun s' =>
      s'.weave = { s.weave with verifying := true } ∧ s'.regs = s.regs))
    ∧ (∀ p : Fin 4, s.running = false → s.weave.loading = false → p.val ≠ 3 → Does (.erase t p) s (fun s' =>
      s'.weave = { s.weave with erasing := s.weave.erasing ++ [p.val] } ∧ s'.regs = s.regs))
    ∧ (∀ p : Fin 4, s.wstate = stLoaded ∨ s.wstate = stRunning → p.val ≠ 3 → Does (.mirror t p) s (fun s' =>
      s'.weave = { s.weave with mirror := s.weave.mirror ++ [{ dst := p.val, onFlash := s.is Reg.WVE_STATUS_SRC
                                                               src := s.get Reg.WVE_STATUS_SEL, words := s.weave.selW }] }
        ∧ s'.get Reg.WVE_STATUS_MIRROR_BUSY = 1 ∧ ∀ a, a ≠ Reg.WVE_STATUS_addr → s'.reg a = s.reg a))
    ∧ (s.running = true ∨ s.weave.loading = true → rejected (.loadWeave t) ∧ rejected (.verify t) ∧ ∀ p, rejected (.erase t p))
    ∧ (s.wstate ≠ stLoaded ∨ s.get Reg.SAF_STAT_STATE = 4 ∨ (s.at t).headlandFirst = true → rejected (.runLoom t))
    ∧ (¬ (s.wstate = stLoaded ∨ s.wstate = stRunning) → ∀ p, rejected (.mirror t p))
    ∧ rejected (.erase t 3) ∧ rejected (.mirror t 3)
    ∧ ∀ (code : Fin 16) (p : Fin 4),
      let bad : Prop := (code.val = 0 ∨ 6 < code.val) ∨ ((code.val = 4 ∨ code.val = 6) ∧ p.val = 3)
      (bad → rejected (.wveCmdReject t code p)) ∧ (¬ bad → Idles (.wveCmdReject t code p) s t)

/-- The ends of the weave's long operations; each idles when its operation is not under way. A load ends LOADED, NO_PLY, PLY_CONFLICT
or FAULT. A verification shows what the checks find of each ply. While the Loom is stopped an erased ply has words 0 to 3 at 0 and
a programmed word its value, every other word of the ply staying; while it runs neither ends. A mirrored ply
has in flash the bytes of the ply that was selected at the MIRROR, on chip or in flash, and no other byte of flash changes; while the flash
cannot be reached the MIRROR ends with flash as it was (log entry 123). The plies are read at the instant of the end (the model's choice,
log entries 124, 152). Commands that wait are served in order (the model's reading, log entry 17). -/
def Obligations.WeaveOperationsEnd : Prop :=
  ∀ (t : Word) (s : State),
    (s.weave.loading = true → ∀ ra rb, Does (.loadComplete t ra rb) s (fun s' =>
      s'.weave.loading = false ∧ s'.wstate ∈ [stLoaded, stNoPly, stConflict, stFault]))
    ∧ (s.weave.loading = false → ∀ ra rb, Idles (.loadComplete t ra rb) s t)
    ∧ (s.weave.verifying = true → Does (.verifyDone t) s (fun s' => s'.weave = { s.weave with verifying := false }
      ∧ ∀ n < 3, s'.get (Reg.WVE_PLY_STATE n) = (s.plyCheck (.chip n)).state
        ∧ s'.get (Reg.WVE_PLY_REASON n) = (s.plyCheck (.chip n)).reason))
    ∧ (s.weave.verifying = false → Idles (.verifyDone t) s t)
    ∧ (∀ n l, s.weave.erasing = n :: l → s.running = false → Does (.eraseDone t) s (fun s' =>
      s'.weave = { s.weave with erasing := l } ∧ (∀ k < 4, s'.plyGet n k = 0) ∧ (∀ k, 4 ≤ k → s'.plyGet n k = s.plyGet n k)
        ∧ s'.regs = s.regs))
    ∧ (s.weave.erasing = [] ∨ s.running = true → Idles (.eraseDone t) s t)
    ∧ (∀ j l, s.weave.mirror = j :: l → j.words ≤ 21845 → Does (.mirrorDone t) s (fun s' =>
      s'.weave = { s.weave with mirror := l }
      ∧ (s.flashUp = true → ∀ k < 6 * j.words, s'.flashGet (0x20000 * j.dst + k) =
        if j.onFlash then s.flashGet (0x20000 * j.src + k) else byteOf (s.plyGet j.src (k / 6)) (k % 6))
      ∧ (∀ a, ¬ (s.flashUp = true ∧ 0x20000 * j.dst ≤ a ∧ a < 0x20000 * j.dst + 6 * j.words) → s'.flashGet a = s.flashGet a)
      ∧ s'.get Reg.WVE_STATUS_MIRROR_BUSY = if l = [] then 0 else 1))
    ∧ (s.weave.mirror = [] → Idles (.mirrorDone t) s t)
    ∧ (∀ p a w, s.weave.prog = some (p, a, w) → s.running = false → Does (.weaveProgramDone t) s (fun s' =>
      s'.weave = { s.weave with prog := none } ∧ s'.plyGet p a = w ∧ (∀ k, k ≠ a → s'.plyGet p k = s.plyGet p k)
        ∧ s'.regs = s.regs))
    ∧ (s.weave.prog = none ∨ s.running = true → Idles (.weaveProgramDone t) s t)

/-- While nothing is loaded, programmed or erased and the Loom is stopped, a write of a weave store word begins to program it. While
a word is programmed or a ply erased a host's write sets PROG_BUSY and WREJ, and while the Loom runs a host's write of another
value sets WREJ; in both cases the store, and what is being programmed, stay as they are. An ERASE counts as programming (the
model's reading, log entry 17). The scrub reads the sections of the configuration cells in turn while a weave is LOADED or
RUNNING. A section whose CRC-32, over the cells with the bits that have changed, is not its signature sets UPSET, names the
section and reports cause 5; one that matches changes none of these. After section 5 the pass ends, with its duration in PASS
(held to 1 µs by the open rounding, log entry 10), and section 1 follows. The stored plies are checked once every 60 s while
RUNNING, and a ply whose state has changed is reported. What changes in the cells is what the command says, and the 60 s run
from step 6 or the check before (the model's choices, log entries 137, 138). -/
def Obligations.WeaveStoreAndScrub : Prop :=
  (∀ (t : Word) (dma : Bool) (p : Fin 3) (a : Fin 21845) (w : Word) (s : State),
    let idle : Prop := s.weave.prog = none ∧ s.weave.erasing = []
    (idle → s.running = false → s.weave.loading = false → Does (.weaveStoreWrite t dma p a w) s (fun s' =>
      s'.weave = { s.weave with prog := some (p.val, a.val, w) } ∧ s'.regs = s.regs ∧ s'.plyGet p a = s.plyGet p a))
    ∧ (¬ idle → Does (.weaveStoreWrite t dma p a w) s (fun s' => s'.weave = s.weave ∧ s'.plyGet p a = s.plyGet p a
      ∧ (dma = false → s'.get Reg.WVE_STATUS_PROG_BUSY = 1 ∧ s'.get Reg.SYS_STATUS_WREJ = 1) ∧ (dma = true → s'.regs = s.regs)))
    ∧ (idle → s.running = true ∨ s.weave.loading = true → Does (.weaveStoreWrite t dma p a w) s (fun s' =>
      s'.weave = s.weave ∧ s'.plyGet p a = s.plyGet p a
      ∧ (dma = false → s.plyGet p a ≠ w → s'.get Reg.SYS_STATUS_WREJ = 1) ∧ (dma = true → s'.regs = s.regs))))
  ∧ (∀ (t : Word) (s : State),
    (∀ (sec : Fin 5) (upsets : List Nat), s.woven = true → s.weave.loading = false → s.weave.scrubNext = sec.val + 1 →
      let k := sec.val + 1
      let crc := crc32 (upsets.foldl flipBit (s.weave.cells.getD (k - 1) []))
      let same : Prop := (s.weave.sigs.find? (fun x => decide (x.1 = k))).map Prod.snd = some crc
      Does (.scrubSectionEnd t sec upsets) s (fun s' =>
        (¬ same → s'.get Reg.WVE_SCRUB_UPSET = 1 ∧ s'.get Reg.WVE_SCRUB_SECTION = k ∧ s'.causes = s.causes ++ [(5, 0)])
        ∧ (same → s'.get Reg.WVE_SCRUB_UPSET = s.get Reg.WVE_SCRUB_UPSET
          ∧ s'.get Reg.WVE_SCRUB_SECTION = s.get Reg.WVE_SCRUB_SECTION ∧ s'.causes = s.causes)
        ∧ s'.weave.scrubNext = (if k < 5 then k + 1 else 1)
        ∧ (k = 5 → s'.weave.scrubStart = t ∧ s'.get Reg.WVE_SCRUB_PASS = satU 16 (heldTo us (elapsed s.weave.scrubStart t)))
        ∧ ∀ a, a ≠ Reg.WVE_SCRUB_addr → s'.reg a = s.reg a))
    ∧ (∀ (sec : Fin 5) (upsets : List Nat), s.woven = false ∨ s.weave.loading = true ∨ s.weave.scrubNext ≠ sec.val + 1 →
      Idles (.scrubSectionEnd t sec upsets) s t)
    ∧ (s.wstate = stRunning → 60 * 1000 * ms ≤ elapsed s.weave.checkAt t → Does (.storedPlyCheck t) s (fun s' =>
      s'.weave = { s.weave with checkAt := t }
      ∧ ∀ n < 3, s'.get (Reg.WVE_PLY_STATE n) = (s.plyCheck (.chip n)).state
        ∧ (s.get (Reg.WVE_PLY_STATE n) ≠ (s.plyCheck (.chip n)).state →
          { src := 0x17, idx := 0, code := 1, arg := n * 2 ^ 38 + (s.plyCheck (.chip n)).state * 2 ^ 36, time := some t }
            ∈ s'.reports)))
    ∧ (¬ (s.wstate = stRunning ∧ 60 * 1000 * ms ≤ elapsed s.weave.checkAt t) → Idles (.storedPlyCheck t) s t))

/-! ### Loom -/

/-- The Loom start that RUN asked for is made when the weave is LOADED, no enumeration runs, Headland is not in HALT, no standby is
under way, the weave store is neither programmed nor erased and a Strandline that the weave instantiates is READY (that it waits for these
is the model's reading, log entries 162 and 168): LOOM_RUN becomes 1 and the state RUNNING, every Warp of the weave goes to STALL with INIT
set, the request is taken, and what follows from the start on counts from its instant. While one of these conditions fails the start
waits. STOP stops the Loom at standstill: LOOM_RUN is 0, the state LOADED, every Warp of the weave OFF, every bank without owner and with
its gates off, no boost controller switches, and no token, gate signal or window signal is left on its way; a STOP in any other state, or
at the instant of a change of Headland's state, sets CMD_REJ and changes no other register. Standstill is read as log entry 93 says. -/
def Obligations.LoomStartAndStop : Prop :=
  ∀ (t : Word) (s : State),
    let may : Prop := s.weave.runReq = true ∧ s.wstate = stLoaded ∧ s.enumStart = none ∧ s.get Reg.SAF_STAT_STATE ≠ 4
      ∧ s.weave.prog = none ∧ s.weave.erasing = [] ∧ s.supply.standby = false
      ∧ (s.strandOn = true → s.get Reg.REC_STAT_READY = 1)
    let stops : Prop := s.wstate = stRunning ∧ (s.at t).standstill = true ∧ (s.at t).headlandFirst = false
    (may → Does (.loomStart t) s (fun s' => s'.running = true ∧ s'.wstate = stRunning
      ∧ (∀ n : Fin 6, s.hasTile 1 n = true → s'.sync n = ssStall ∧ s'.get (Reg.WRP_SYNC_INIT n) = 1)
      ∧ s'.weave = { s.weave with runReq := false } ∧ s'.strand.secAt = t
      ∧ s'.strand.coilAt = t ∧ s'.strand.boostAt = t ∧ s'.closures = [] ∧ s'.cmbSig = []))
    ∧ (¬ may → Idles (.loomStart t) s t)
    ∧ (stops → s.running = true → Does (.stop t) s (fun s' =>
      s'.running = false ∧ s'.wstate = stLoaded ∧ (∀ n : Fin 6, s.hasTile 1 n = true → s'.sync n = ssOff)
        ∧ (∀ b : Fin 12, s.hasTile 4 b = true → (s'.bk b).owner = none ∧ (s'.bk b).gates = {})
        ∧ (∀ g : Fin 3, s.hasTile 5 g = true → (s'.bst g).switching = false)
        ∧ s'.shTok = Vector.replicate 64 {} ∧ s'.bkTok = Vector.replicate 12 {}
        ∧ s'.seqTok = Vector.replicate 16 [] ∧ s'.cmbSig = [] ∧ s'.trimDue = [] ∧ s'.weave = { s.weave with runReq := false }))
    ∧ (¬ stops → Does (.stop t) s (fun s' =>
      s'.get Reg.WVE_STATUS_CMD_REJ = 1 ∧ ∀ a, a ≠ Reg.WVE_STATUS_addr → s'.reg a = s.reg a))

/-- The delivering Weft issues its oldest update once every consumer has acknowledged the one before: the update leaves the queue,
every instantiated Shuttle receives it and no other does, and an update with STEP is counted. Until then, or while the other
Weft delivers, the Loom is stopped or no update waits, nothing is issued. -/
def Obligations.ToothUpdateBroadcast : Prop :=
  ∀ (t : Word) (n : Fin 2) (s : State),
    (∀ u rest, (s.wf n).formed = u :: rest → s.running = true → s.delivering = n.val → s.allAcknowledged = true →
      Does (.toothUpdateBroadcast t n) s (fun s' =>
        (s'.wf n).formed = rest ∧ (s'.wf n).last = some u
          ∧ s'.get (Reg.WFT_CNT_STEPS n) = (if u.step then min (s.get (Reg.WFT_CNT_STEPS n) + 1) (Reg.WFT_CNT_STEPS n).max
            else s.get (Reg.WFT_CNT_STEPS n))
          ∧ (∀ k : Fin 64, s.hasTile 3 k = true → (s'.sh k).upd = some u)
          ∧ ∀ k : Fin 64, s.hasTile 3 k = false → (s'.sh k).upd = (s.sh k).upd))
    ∧ ((s.wf n).formed = [] ∨ s.running = false ∨ s.delivering ≠ n.val ∨ s.allAcknowledged = false →
      Idles (.toothUpdateBroadcast t n) s t)

/-! ### Actuator banks and the Heddle -/

/-- A request's way to a grant. A committed start that reaches the placement unit outside an injection cut and after MIN_OFF is
placed, not before 1 µs after its commit, and ends a tail, an off-state test and a self-test. At its time word it is granted
where no drop cause holds, MIN_OFF has passed and the bank admits an owner other than its own channel, and waits where the bank
admits none or the channel itself has not recovered. No request waits beyond POSTPONE_MAX. A gate change held by DEAD takes
place at its end. MIN_OFF and the drop causes are judged at the commit and at the decision (the model's reading, log entry 47).
A request arrives at its time word (the model's reading, log entry 135). -/
def Obligations.BankRequests : Prop :=
  ∀ (t : Word) (b : Fin 12) (s : State),
    (∀ r, (s.bk b).reqs.find? (fun q => !q.placed) = some r →
      let r' := { r with placed := true, time := laterOf (laterOf r.time (addW r.commit us)) t }
      let moved := (s.bk b).reqs.map (fun q => if q = r then r' else q)
      (s.cutInForce = false → s.minOff b r' r'.time = none → Does (.bankCommit t b) s (fun s' =>
        (s'.bk b).reqs = moved ∧ (s'.bk b).tail = none ∧ (s'.bk b).test = none
          ∧ (s'.bk b).selftest = none)))
    ∧ (∀ r, firstRequest ((s.bk b).reqs.filter (fun q => q.placed && !q.waiting && notBefore t q.time)) = some r →
      s.cutInForce = false → s.dropCause b r = none →
      let waits := Does (.bankStartDecision t b) s (fun s' => (s'.bk b).owner = (s.bk b).owner
        ∧ (s'.bk b).reqs = (s.bk b).reqs.map (fun q => if q = r then { r with waiting := true } else q))
      ((s.bk b).busyWith r.ch = true → waits)
        ∧ ((s.bk b).busyWith r.ch = false → s.minOff b r r.time = none → s.admits b = false → waits)
        ∧ ((s.bk b).busyWith r.ch = false → s.minOff b r r.time = none → s.admits b = true →
          Does (.bankStartDecision t b) s (fun s' =>
            (s'.bk b).owner = some r.ch ∧ (s'.bk b).pulse = some (r.sht, r.idx) ∧ (s'.bk b).tStart = r.time
              ∧ (s'.bk b).reqs = (s.bk b).reqs.erase r)))
    ∧ (firstRequest ((s.bk b).reqs.filter (fun q => q.placed && !q.waiting && notBefore t q.time)) = none →
      Idles (.bankStartDecision t b) s t)
    ∧ ((s.bk b).reqs.find? (fun q => !q.placed) = none → Idles (.bankCommit t b) s t)
    ∧ Does (.postponeExpiry t b) s (fun s' => ∀ q ∈ (s'.bk b).reqs, q.waiting = true →
        elapsed q.time t < s.get (Reg.BNK_CFG_POSTPONE_MAX b) * us)
    ∧ (∀ x, (s.bk b).gates.next = some x →
      (notBefore t (s.bk b).gates.nextAt = true → Does (.deadTimeExpiry t b) s (fun s' =>
          (s'.bk b).gates.hsb = x.1 ∧ (s'.bk b).gates.hsv = x.2.1 ∧ (s'.bk b).gates.ls = x.2.2
            ∧ (s'.bk b).gates.next = none ∧ (s'.bk b).heddle.gateAt = (s.bk b).gates.nextAt))
        ∧ (notBefore t (s.bk b).gates.nextAt = false → Idles (.deadTimeExpiry t b) s t))
    ∧ ((s.bk b).gates.next = none → Idles (.deadTimeExpiry t b) s t)

/-- The non-driving instructions of the Heddle: what each changes in the Heddle, and nothing else there; BRF on LNZ lowers the loop
counter, FLT leaves its argument in FCODE and reports cause 8. The driving instructions wait in their drive state: DRV, RISE and
FALL for T or a threshold, CHOP and CONT while they regulate between their on-state and off-state; they begin in the off-state
where the peak comparator shows the current at the peak outside blanking: what it sees, or the output it holds while its mode
changes (log entry 139). An instruction of any kind that must trap runs as TRAP, and a Heddle that is not about to issue the
instruction stays as it is. -/
def Obligations.HeddleInstructions : Prop :=
  (∀ (t : Word) (b : Fin 12) (uv : Nat) (s : State), s.mustTrap b = false →
    let h := (s.bk b).heddle
    let i := s.instr b h.pc
    let on := { h with pc := h.pc + 1, nd := h.nd + 1 }
    let jump := { h with pc := i.arg, nd := h.nd + 1 }
    (s.issues b 8 = true → Does (.setpk t b) s (fun s' =>
      (s'.bk b).heddle = { on with pk := s.scaled b (s.bk b).level i.code }))
    ∧ (s.issues b 9 = true → Does (.setvy t b) s (fun s' =>
      (s'.bk b).heddle = { on with vy := s.scaled b (s.bk b).level i.code }))
    ∧ (s.issues b 10 = true → Does (.blank t b) s (fun s' => (s'.bk b).heddle = { on with blank := 8 * i.arg }))
    ∧ (s.issues b 12 = true → Does (.jmp t b) s (fun s' => (s'.bk b).heddle = jump))
    ∧ (s.issues b 13 = true → Does (.brf t b uv) s (fun s' =>
      (s'.bk b).heddle = (if ((s.at t).look b uv).condHolds b i.cond then jump else on)
        ∧ s'.get (Reg.BNK_STAT_LOOPC b) = s.get (Reg.BNK_STAT_LOOPC b)
          - (if ((s.at t).look b uv).condHolds b i.cond = true ∧ i.cond = 4 then 1 else 0)))
    ∧ (s.issues b 14 = true → Does (.loopInstr t b) s (fun s' =>
      (s'.bk b).heddle = on ∧ s'.get (Reg.BNK_STAT_LOOPC b) = i.arg))
    ∧ (s.issues b 15 = true → Does (.flt t b) s (fun s' =>
      (s'.bk b).heddle = on ∧ s'.get (Reg.BNK_STAT_FCODE b) = i.arg
        ∧ s'.get (Reg.BNK_CNT1_FLTS b) = min (s.get (Reg.BNK_CNT1_FLTS b) + 1) 0xFFFF
        ∧ s'.reports = s.reports ++ [⟨4, b, 1,
          8 * 2 ^ 36 + (s.bk b).owner.getD 0 * 2 ^ 34 + i.arg * 2 ^ 24, some t⟩])))
  ∧ (∀ (t : Word) (b : Fin 12) (uv : Nat) (s : State),
    let h := (s.bk b).heddle
    let i := s.instr b h.pc
    let base := if h.applied then (s.bk b).tStart else t
    let waits := fun (s' : State) => (s'.bk b).heddle.phase = .wait ∧ (s'.bk b).heddle.drive = i.d
      ∧ (s'.bk b).heddle.base = base ∧ (s'.bk b).heddle.limit = i.time ∧ (s'.bk b).heddle.pc = h.pc
    let regulates := fun (cont : Bool) (s' : State) =>
      let h' := (s'.bk b).heddle
      h'.phase = .chop ∧ h'.onD = i.d ∧ h'.offD = (if i.c = 1 then 0 else 3) ∧ h'.base = base
        ∧ h'.limit = (if cont then 0 else i.time) ∧ h'.cont = cont ∧ h'.drive = (if h'.isOn then h'.onD else h'.offD)
        ∧ h'.pc = h.pc
        ∧ (s.modesOk = true → h'.isOn = !((s.at t).unblanked b && (if (s.at t).cmpHolds b 7 then (s.bk b).outPk else reaches uv h'.pk)))
    (s.mustTrap b = false →
      (s.issues b 1 = true → Does (.drv t b) s waits) ∧ (s.issues b 2 = true → Does (.riseInstr t b) s waits)
        ∧ (s.issues b 3 = true → Does (.fallInstr t b) s waits)
        ∧ (s.issues b 4 = true → Does (.chop t b uv) s (regulates false))
        ∧ (s.issues b 6 = true → Does (.contInstr t b uv) s (regulates true)))
    ∧ ∀ x ∈ [(1, Instr.drv t b), (2, .riseInstr t b), (3, .fallInstr t b), (4, .chop t b uv), (5, .recov t b),
        (6, .contInstr t b uv), (8, .setpk t b), (9, .setvy t b), (10, .blank t b), (12, .jmp t b), (13, .brf t b uv),
        (14, .loopInstr t b), (15, .flt t b)],
      (s.issues b x.1 = false → Idles x.2 s t)
        ∧ (s.issues b x.1 = true → s.mustTrap b = true → exec x.2 s = exec (.trapInstr t b) s))

/-- Waits end. A DRV ends at T; a RISE and a FALL at T, with TO set, or at the peak and below the valley, outside blanking, with TO
clear; a CHOP at T, unless T is 0. The next instruction then issues. A regulation outside blanking drives off at the peak and on below
the valley; in CONT not before its dwell is over, and at thermal level 3 the next trip ends CONT at its stop vector (R370). A RISE of the entry whose peak comes before RISE_MIN is a short load, and not meant
here. A comparator whose mode changes holds its output (log entry 139). -/
def Obligations.HeddleWaitsEnd : Prop :=
  ∀ (t : Word) (b : Fin 12) (uv : Nat) (s : State),
    let k := s.bk b
    let h := k.heddle
    let op := (s.instr b h.pc).op
    let issuesNext := fun (s' : State) => (s'.bk b).heddle.phase = .issue ∧ (s'.bk b).heddle.pc = h.pc + 1
      ∧ (s'.bk b).heddle.nd = 0 ∧ (s'.bk b).heddle.drive = h.drive
    (h.phase = .wait → h.limit ≤ elapsed h.base t → Does (.heddleTimedExpiry t b) s (fun s' =>
      issuesNext s' ∧ s'.get (Reg.BNK_STAT_TO b) = if op = 1 then s.get (Reg.BNK_STAT_TO b) else 1))
    ∧ (h.phase = .chop → h.limit ≠ 0 → h.limit ≤ elapsed h.base t → Does (.heddleTimedExpiry t b) s (fun s' =>
      issuesNext s' ∧ s'.get (Reg.BNK_STAT_TO b) = 0))
    ∧ (elapsed h.base t < h.limit ∨ (h.phase = .chop ∧ h.limit = 0) ∨ (h.phase ≠ .wait ∧ h.phase ≠ .chop) →
      Idles (.heddleTimedExpiry t b) s t)
    ∧ (∀ (k' : Fin 3) (c : Instr), c ∈ [.comparatorTrip t b k' uv, .blankingEnd t b uv] → s.running = true →
      s.modesOk = true → (k.idle && k.residual) = false → (s.at t).cmpHolds b (7 - k') = false →
      (s.at t).cmpHolds b 7 = false → (s.at t).cmpHolds b 6 = false → (s.at t).unblanked b = true →
      (k.pulse = none ∨ k.peaked = true ∨ s.get (Reg.BNK_CDCFG_RISE_MIN b (k.owner.getD 0)) * us ≤ elapsed k.tStart t) →
        (h.phase = .wait → op = 3 → reaches uv h.vy = false → Does c s (fun s' =>
            issuesNext s' ∧ s'.get (Reg.BNK_STAT_TO b) = 0))
          ∧ (h.phase = .wait → op = 2 → reaches uv h.pk = true → Does c s (fun s' =>
            issuesNext s' ∧ s'.get (Reg.BNK_STAT_TO b) = 0))
          ∧ (h.phase = .chop → h.cont = false → h.blank ≤ elapsed h.changeAt t → h.isOn = true → reaches uv h.pk = true →
            Does c s (fun s' => (s'.bk b).heddle.isOn = false ∧ (s'.bk b).heddle.drive = h.offD))
          ∧ (h.phase = .chop → h.cont = false → h.blank ≤ elapsed h.changeAt t → h.isOn = false → reaches uv h.vy = false →
            Does c s (fun s' => (s'.bk b).heddle.isOn = true ∧ (s'.bk b).heddle.drive = h.onD)))
    ∧ (∀ k' : Fin 3, (s.at t).cmpHolds b (7 - k') = true → Idles (.comparatorTrip t b k' uv) s t)
    ∧ (∀ k' : Fin 3, (s.at t).cmpHolds b (7 - k') = false → s.running = false → Does (.comparatorTrip t b k' uv) s (fun s' =>
      s'.get (Reg.CMP_BK_INIT b) / 2 ^ (7 - k'.val) % 2 = 0))
    ∧ (k.owner.isSome = true → k.pulse = none → (s.at t).unblanked b = true → (s.at t).cmpHolds b 7 = false →
      (s.at t).cmpHolds b 6 = false → h.phase = .chop → h.cont = true → s.dwell b ≤ elapsed h.changeAt t →
      let hot := s.get (Reg.BNK_THM_LEVEL b (k.owner.getD 0)) = 3
      (h.isOn = true → reaches uv h.pk = true → ¬ hot → Does (.contDwellEnd t b uv) s (fun s' =>
          (s'.bk b).heddle.isOn = false ∧ (s'.bk b).heddle.drive = h.offD))
          ∧ (h.isOn = false → reaches uv h.vy = false → ¬ hot → Does (.contDwellEnd t b uv) s (fun s' =>
            (s'.bk b).heddle.isOn = true ∧ (s'.bk b).heddle.drive = h.onD))
          ∧ (h.stopping = false → hot → (if h.isOn then reaches uv h.pk else !reaches uv h.vy) = true →
            ∀ o : Fin 4, k.owner = some o.val → Does (.contDwellEnd t b uv) s (fun s' =>
              (s'.bk b).heddle.phase = .issue ∧ (s'.bk b).heddle.stopping = true ∧ (s'.bk b).heddle.drive = 0
                ∧ (s'.bk b).heddle.pc = s.get (Reg.BNK_PROG_STOPV b o) ∧ (s'.bk b).contDue = true)))
    ∧ (k.inCont = false ∨ elapsed h.changeAt t < s.dwell b → Idles (.contDwellEnd t b uv) s t)
    ∧ (s.running = false → Idles (.blankingEnd t b uv) s t)

/-- A trap and RECOV drive OFF and enter RECOVERY, which ends below ZTH outside blanking or at its limit; where the bank holds no
request and no CONT is due it then has no owner. A recovery under overlap ends at its
entry and RMAX, and that instant is its recovery end (R303). -/
def Obligations.BankRecovery : Prop :=
  ∀ (t : Word) (b : Fin 12) (uv : Nat) (s : State),
    let k := s.bk b
    let i := s.instr b k.heddle.pc
    let recovers := fun (lim : Nat) (s' : State) => (s'.bk b).heddle.phase = .recov ∧ (s'.bk b).heddle.drive = 0
      ∧ (s'.bk b).heddle.base = t ∧ (s'.bk b).heddle.limit = lim ∧ (s'.bk b).owner = k.owner ∧ (s'.bk b).recAt = t
    let free := fun (c : Nat) (s' : State) => (s'.bk b).owner = none ∧ (s'.bk b).pulse = none
      ∧ (s'.bk b).heddle.phase = .idle ∧ s'.reg (Reg.BNK_REND_addr b c) = t
    (s.is (Reg.BNK_CFG_RECOV_OVERLAP b) = false →
      (k.owner.isSome = true → k.heddle.phase = .issue → s.mustTrap b = true → Does (.trapInstr t b) s (recovers (s.rmax b)))
        ∧ (s.issues b 5 = true → s.mustTrap b = false → Does (.recov t b) s
            (recovers (if i.time = 0 then s.rmax b else i.time))))
    ∧ (s.mustTrap b = false → Idles (.trapInstr t b) s t)
    ∧ (∀ c : Fin 4, k.owner = some c.val → k.heddle.phase = .recov → k.reqs = [] → k.contDue = false →
      (s.running = true → (s.at t).unblanked b = true → (s.at t).cmpHolds b 5 = false →
          reaches uv (s.get (Reg.BNK_CFG1_ZTH b)) = false →
          Does (.recoveryEndZth t b uv) s (free c))
        ∧ (k.heddle.limit ≤ elapsed k.heddle.base t → Does (.recoveryEndRmax t b) s (free c)))
    ∧ (k.heddle.phase ≠ .recov → Idles (.recoveryEndZth t b uv) s t ∧ Idles (.recoveryEndRmax t b) s t)
    ∧ (s.running = false → Idles (.recoveryEndZth t b uv) s t)
    ∧ (∀ c : Fin 4, ∀ e x, k.ovl = some (c.val, e, x) → k.reqs = [] → k.contDue = false →
      (notBefore t e = true → Does (.overlapRecoveryEnd t b) s (fun s' => (s'.bk b).ovl = none ∧ (s'.bk b).owner = k.owner
          ∧ s'.reg (Reg.BNK_REND_addr b c) = e))
        ∧ (notBefore t e = false → Idles (.overlapRecoveryEnd t b) s t))

/-- Continuous mode and cuts. Setting EN begins CONT on an idle bank that can run it; clearing it takes a running CONT to its stop
vector; the rail-pressure tile writes SET only where the bank gives it the writer's part; a host write to a bank that the weave does
not instantiate is refused. At its stop a pulse goes to its stop vector, and lost rotation takes the token and, at a bank, ends an
energised pulse. -/
def Obligations.ContinuousModeAndStops : Prop :=
  ∀ (t : Word) (b : Fin 12) (s : State),
    let k := s.bk b
    let c := s.get (Reg.BNK_CONT_CH b)
    let stops := fun (o : Fin 4) (s' : State) => (s'.bk b).heddle.phase = .issue ∧ (s'.bk b).heddle.stopping = true
      ∧ (s'.bk b).heddle.drive = 0 ∧ (s'.bk b).heddle.pc = s.get (Reg.BNK_PROG_STOPV b o)
    (s.hasTile 4 b = true → s.is (Reg.BNK_CONT_EN b) = false → k.idle = true → s.running = true → s.latched b c = false →
      s.get (Reg.BNK_THM_LEVEL b c) ≠ 3 → k.reqs = [] → Does (.contEnable t b) s (fun s' =>
        s'.get (Reg.BNK_CONT_EN b) = 1 ∧ (s'.bk b).owner = some c ∧ (s'.bk b).pulse = none ∧ (s'.bk b).contDue = false
          ∧ (s'.bk b).heddle.phase = .issue ∧ (s'.bk b).heddle.pc = s.get (Reg.BNK_PROG_ENTRY b c)))
    ∧ (s.hasTile 4 b = true → s.is (Reg.BNK_CONT_EN b) = true → k.inCont = true → k.heddle.stopping = false →
      ∀ o : Fin 4, k.owner = some o.val → Does (.contDisable t b) s (fun s' => stops o s' ∧ s'.get (Reg.BNK_CONT_EN b) = 0))
    ∧ (s.hasTile 4 b = true → (s.is (Reg.BNK_CONT_EN b) = true → Idles (.contEnable t b) s t)
      ∧ (s.is (Reg.BNK_CONT_EN b) = false → Idles (.contDisable t b) s t))
    ∧ (s.hasTile 4 b = false → Refused (.contEnable t b) s ∧ Refused (.contDisable t b) s
      ∧ ∀ (set : Fin 1024) (band : Fin 256), Refused (.contSetpointWrite t b false set band) s
        ∧ Idles (.contSetpointWrite t b true set band) s t)
    ∧ (∀ (set : Fin 1024) (band : Fin 256), s.hasTile 4 b = true →
      (s.get (Reg.BNK_CONT_WRITER b) = 1 → set.val ≤ 840 → Does (.contSetpointWrite t b true set band) s
          (fun s' => s'.get (Reg.BNK_CONT_SET b) = set ∧ s'.get (Reg.BNK_CONT_BAND b) = s.get (Reg.BNK_CONT_BAND b)))
        ∧ (s.get (Reg.BNK_CONT_WRITER b) ≠ 1 ∨ 840 < set.val → Idles (.contSetpointWrite t b true set band) s t)
        ∧ (s.get (Reg.BNK_CONT_WRITER b) = 0 → set.val ≤ 840 →
          (s.levelE = false → Does (.contSetpointWrite t b false set band) s
              (fun s' => s'.get (Reg.BNK_CONT_SET b) = set ∧ s'.get (Reg.BNK_CONT_BAND b) = s.get (Reg.BNK_CONT_BAND b)))
            ∧ (s.levelE = true → 2 ≤ band.val → 1 ≤ s.get (Reg.BNK_CONT_TMIN b) →
              Does (.contSetpointWrite t b false set band) s
                (fun s' => s'.get (Reg.BNK_CONT_SET b) = set ∧ s'.get (Reg.BNK_CONT_BAND b) = band))))
    ∧ (∀ (n : Fin 64) (p : Pulse), (s.sh n).pulse = some p → p.started = true → notBefore t p.stop = true →
      p.ent.bank = b.val → k.pulse = some (n.val, p.idx) → ∀ o : Fin 4, k.owner = some o.val → k.heddle.stopping = false →
      k.heddle.phase ≠ .recov → Does (.pulseStop t n) s (fun s' => stops o s' ∧ (s'.bk b).tStop = p.stop))
    ∧ (∀ n : Fin 64, ((vget s.shTok n).rotation = true →
        Does (.rotationLost t (.shuttle n)) s (fun s' => (vget s'.shTok n).rotation = false))
      ∧ ((vget s.shTok n).rotation = false → Idles (.rotationLost t (.shuttle n)) s t))
    ∧ ((vget s.bkTok b).rotation = false → Idles (.rotationLost t (.bank b)) s t)
    ∧ ((vget s.bkTok b).rotation = true → Does (.rotationLost t (.bank b)) s (fun s' => (vget s'.bkTok b).rotation = false
        ∧ (s.hasTile 4 b = true → k.energised = true → k.heddle.stopping = false → ∀ o : Fin 4, k.owner = some o.val → stops o s')))

/-- A boost controller: it is enabled when MODE, the Loom and a RUN of Headland allow it, and then switches unless the rail is already at
VSET; at each sample VRAIL shows the rail, switching goes on below VSET by more than HYST and ends at VSET, READY rises with an enabled
rail at VSET, and LOW and OV follow their limits, both 0 while MODE is OFF. An overvoltage that has lasted 1 ms is told to Headland
once. -/
def Obligations.BoostControllers : Prop :=
  ∀ (t : Word) (g : Fin 3) (v : Fin 4096) (s : State),
    let k := s.bst g
    let vset := 10 * s.get (Reg.BST_CFG_VSET g)
    let may := s.hasTile 5 g && s.is (Reg.BST_CFG_MODE g) && s.running && s.saf.runSeen && !k.enabled
    (may = true → Does (.boostEnable t g) s (fun s' => (s'.bst g).enabled = true
      ∧ (s'.bst g).switching = decide (s.get (Reg.BST_STAT_VRAIL g) < vset)
      ∧ s'.get (Reg.BST_STAT_READY g) = 0 ∧ ∀ a, a ≠ Reg.BST_STAT_addr g → s'.reg a = s.reg a))
    ∧ (may = false → Idles (.boostEnable t g) s t)
    ∧ (s.hasTile 5 g = false → Idles (.boostRailSample t g v) s t)
    ∧ (s.hasTile 5 g = true → Does (.boostRailSample t g v) s (fun s' => s'.get (Reg.BST_STAT_VRAIL g) = v
      ∧ (s.is (Reg.BST_CFG_MODE g) = true → (s'.bst g).enabled = k.enabled
        ∧ (s'.bst g).switching = (if v.val < vset - 10 * s.get (Reg.BST_LIM_HYST g) then k.enabled
            else if vset ≤ v.val then false else k.switching)
        ∧ (k.enabled = true → vset ≤ v.val → s'.get (Reg.BST_STAT_READY g) = 1)
        ∧ s'.is (Reg.BST_STAT_LOW g) = decide (v.val < vset - 10 * s.get (Reg.BST_LIM_LOW_M g))
        ∧ s'.is (Reg.BST_STAT_OV g) = decide (min (vset + 10 * s.get (Reg.BST_LIM_OV_M g)) 1960 ≤ v.val))
      ∧ (s.is (Reg.BST_CFG_MODE g) = false → s'.get (Reg.BST_STAT_LOW g) = 0 ∧ s'.get (Reg.BST_STAT_OV g) = 0
        ∧ (s'.bst g).ovSince = none)))
    ∧ (∀ a, s.is (Reg.BST_CFG_MODE g) = true → s.is (Reg.BST_STAT_OV g) = true → k.ovSince = some a → k.told = false → ms ≤ elapsed a t → Does (.boostOvPersist t g) s (fun s' =>
      s'.causes = s.causes ++ [(10, g.val)] ∧ (s'.bst g).told = true ∧ s'.regs = s.regs))
    ∧ (s.is (Reg.BST_CFG_MODE g) = false ∨ s.is (Reg.BST_STAT_OV g) = false ∨ k.told = true ∨ k.ovSince = none → Idles (.boostOvPersist t g) s t)

/-! ### Actuator protection -/

/-- The detections of Table 7.1: an open load, a low-side or high-side desaturation ends the pulse, records the highest code of the
instant and latches the channel or the bank; a residual current is reported and latches nothing; a failed cross check marks the channel
SUSPECT. A crossing clears its comparator's INIT
bit, and with the gates off or downwards does nothing else. RESIDUAL is declared once for one stay in IDLE (the model's reading, log
entry 49); a comparator whose mode changes holds its output (log entry 139). -/
def Obligations.BankDetections : Prop :=
  ∀ (t : Word) (b : Fin 12) (uv : Nat) (s : State),
    let k := s.bk b
    let ends := fun (s' : State) => k.owner.isSome = true → k.heddle.phase ≠ .recov → (s'.bk b).heddle.stopping = true
    let quiet := k.reqs.all (fun r => !r.waiting) = true
    let g := k.gatesAt t
    let crossed := fun (x : Nat) (s' : State) => s'.get (Reg.CMP_BK_INIT b) / 2 ^ x % 2 = 0
    let onlyInit := fun (x : Nat) (s' : State) => crossed x s' ∧ ∀ a, a ≠ (Reg.CMP_BK_INIT b).addr → s'.reg a = s.reg a
    (∀ c : Fin 4, k.owner = some c.val →
      let d := s.entryDrive b c
      (k.energised = true → k.heddle.stopping = false → k.checked = false → (d = some 1 ∨ d = some 2) →
        s.get (Reg.BNK_CDCFG_OL_T b c) * us ≤ elapsed k.tStart t →
          (k.peaked = false → reaches uv (s.get (Reg.BNK_CDCFG_OL_ITH b c)) = false → Does (.openLoadCheck t b uv) s (fun s' =>
              ends s' ∧ (quiet → s'.get (Reg.BNK_CDSTAT_FCODE b c) = ((s.at t).noted (Reg.BNK_CDSTAT_FCODE b c)).foldl max 1
                ∧ s'.get (Reg.BNK_CDSTAT_LATCH b c) = 1)))
            ∧ (k.peaked = true ∨ reaches uv (s.get (Reg.BNK_CDCFG_OL_ITH b c)) = true →
              Does (.openLoadCheck t b uv) s (fun s' => s'.regs = s.regs ∧ s'.bk b = { k with checked := true })))
        ∧ ((s.at t).cmpHolds b c = true → Idles (.lsDesat t b uv) s t)
        ∧ ((s.at t).cmpHolds b c = false →
          (s.get (Reg.BNK_CDCFG_VDS_TH b c) * 50 ≤ uv → g.ls = some c.val → s.get (Reg.BNK_DCFG_LSD_BLANK b) * 160 + 800 ≤ elapsed g.lsAt t →
            Does (.lsDesat t b uv) s (fun s' => ends s' ∧ crossed c s'
              ∧ (quiet → s'.get (Reg.BNK_CDSTAT_FCODE b c) = ((s.at t).noted (Reg.BNK_CDSTAT_FCODE b c)).foldl max 3
                ∧ s'.get (Reg.BNK_CDSTAT_LATCH b c) = 1)))
          ∧ (uv < s.get (Reg.BNK_CDCFG_VDS_TH b c) * 50 ∨ g.ls ≠ some c.val → Does (.lsDesat t b uv) s (onlyInit c))))
    ∧ ((s.at t).cmpHolds b 4 = true → Idles (.hsDesat t b uv) s t)
    ∧ ((s.at t).cmpHolds b 4 = false →
      (s.get (Reg.BNK_DCFG_DSAT_TH b) * 50 ≤ uv → (g.hsb || g.hsv) = true → s.get (Reg.BNK_DCFG_DSAT_BLANK b) * 160 + 320 ≤ elapsed g.hsAt t →
        Does (.hsDesat t b uv) s (fun s' => ends s' ∧ crossed 4 s' ∧ s'.causes = s.causes ++ [(7, b.val)]
          ∧ (quiet → s'.get (Reg.BNK_DSTAT_FCODE b) = ((s.at t).noted (Reg.BNK_DSTAT_FCODE b)).foldl max 5
            ∧ s'.get (Reg.BNK_DSTAT_LATCH b) = 1)))
        ∧ (uv < s.get (Reg.BNK_DCFG_DSAT_TH b) * 50 ∨ (g.hsb || g.hsv) = false → Does (.hsDesat t b uv) s (onlyInit 4)))
    ∧ ((k.gates.hsb || k.gates.hsv) = false → ∀ c, Idles (.crossCheckFail t b c uv) s t)
    ∧ (∀ a, k.idleAt = some a → k.idle = true → k.residual = false → (s.at t).cmpHolds b 5 = false →
      10 * us + s.get (Reg.BNK_DCFG_RESID_T b) * us ≤ elapsed a t →
        (reaches uv (s.residualTh b) = true → Does (.residualCurrent t b uv) s (fun s' =>
            s'.causes = s.causes ++ [(6, b.val)] ∧ (s'.bk b).residual = true ∧ crossed 5 s'
              ∧ s'.get (Reg.BNK_DSTAT_FCODE b) = ((s.at t).noted (Reg.BNK_DSTAT_FCODE b)).foldl max 9
              ∧ s'.get (Reg.BNK_DSTAT_LATCH b) = s.get (Reg.BNK_DSTAT_LATCH b)))
          ∧ (reaches uv (s.residualTh b) = false → Idles (.residualCurrent t b uv) s t))
    ∧ (∀ c : Fin 4, (k.gates.hsb || k.gates.hsv) = true → k.heddle.blank + us ≤ elapsed k.heddle.gateAt t →
      s.populated b c = true → k.owner ≠ some c.val → (s.at t).cmpHolds b c = false →
        (uv < 4000 → Does (.crossCheckFail t b c uv) s (fun s' => s'.get (Reg.BNK_CDSTAT_SUSPECT b c) = 1
            ∧ (s'.bk b).early = true ∧ ∀ a, a ≠ Reg.BNK_CDSTAT_addr b c → s'.reg a = s.reg a))
          ∧ (4000 ≤ uv → Idles (.crossCheckFail t b c uv) s t))

/-- The off-state test: once in each period, on an idle bank without requests or a tail, or as an early test; 60 µs later its levels
and verdict are written and the bank is tested. The comparator self-test after it takes 2 µs and shows its failures; a failure
latches the bank. The levels and outputs come as operands (log entry 50), and a self-test that a commit ended is tried again in
its period (log entry 131). A host clear of a latch takes it away and reloads its retries, unless its detection came at that
instant: it has come already, or its command of that instant waits in the queue (R353). A tail ends at its window with NOT_FOUND
and OFF, or at the first mean below the previous one and below the fraction of its peak, with FOUND and a closure delivered; the
converter's first three samples only fill its mean. A clear acts whether or not anything is latched (the model's reading, log
entry 52). -/
def Obligations.BankTestsAndLatches : Prop :=
  (∀ (t : Word) (b : Fin 12) (s : State),
    let k := s.bk b
    let quiet := k.reqs.all (fun r => !r.waiting) = true
    (s.hasTile 4 b = true → s.running = true →
      (s.get (Reg.BNK_DCFG_OFFT_PER b) * ms ≤ elapsed k.period t → Does (.offtPeriod t b) s (fun s' =>
          s'.bk b = { k with period := t, tested := false, retest := false }
            ∧ (k.tested = true ∨ s.is (Reg.BNK_DCFG_OFFT_EN b) = false → s'.regs = s.regs)
            ∧ (k.tested = false → s.is (Reg.BNK_DCFG_OFFT_EN b) = true →
              s'.get (Reg.BNK_DCNT_OFFT_MISS b) = min (s.get (Reg.BNK_DCNT_OFFT_MISS b) + 1) (Reg.BNK_DCNT_OFFT_MISS b).max)))
        ∧ (elapsed k.period t < s.get (Reg.BNK_DCFG_OFFT_PER b) * ms → Idles (.offtPeriod t b) s t))
    ∧ (s.testable b = true → (k.tested = false ∨ k.early = true) → Does (.offtStart t b) s (fun s' =>
        s'.bk b = { k with test := some t } ∧ s'.regs = s.regs))
    ∧ (s.testable b = true → k.tested = true → k.early = false → k.retest = true → s.is Reg.CMP_CTRL_ST_EN = true →
      Does (.offtStart t b) s (fun s' => s'.bk b = { k with selftest := some t, retest := false } ∧ s'.regs = s.regs))
    ∧ (s.testable b = false ∨ (k.tested = true ∧ k.early = false ∧ (k.retest = false ∨ s.is Reg.CMP_CTRL_ST_EN = false)) →
      Idles (.offtStart t b) s t)
    ∧ (∀ (low high : Fin 16) (blim : Bool) (a : Word), k.test = some a → s.is (Reg.BNK_DCFG_OFFT_EN b) = true →
      60 * us ≤ elapsed a t → Does (.offtDecide t b low high blim) s (fun s' => (s'.bk b).test = none ∧ (s'.bk b).tested = true
        ∧ (quiet → k.contDue = false → s'.get (Reg.BNK_OFFT_VERDICT b)
            = offVerdict ((List.range 4).map (fun c => s.drainLevel b low high c)) blim
          ∧ s'.is (Reg.BNK_OFFT_BLIM b) = blim
          ∧ ∀ c : Fin 4, s'.get (Reg.BNK_OFFT_LEVELS b) / 4 ^ c.val % 4 = s.drainLevel b low high c)))
    ∧ (k.test = none ∨ s.is (Reg.BNK_DCFG_OFFT_EN b) = false → ∀ low high blim, Idles (.offtDecide t b low high blim) s t)
    ∧ (∀ (outs : Vector (Fin 256) 4) (a : Word), k.selftest = some a → 2 * us ≤ elapsed a t → quiet → k.contDue = false →
      let fails := selftestFails (outs.toList.map (·.val))
      Does (.bankSelftestDone t b outs) s (fun s' =>
        (s'.bk b).selftest = none ∧ s'.get (Reg.CMP_BK_FAILMASK b) = fails
          ∧ (s'.get Reg.CMP_STAT_BANK_STF).testBit b = decide (fails ≠ 0)
          ∧ (fails ≠ 0 → (s'.bk b).cmpLatch = true ∧ s'.get (Reg.BNK_DSTAT_LATCH b) = 1
            ∧ s'.get (Reg.BNK_DSTAT_FCODE b) = ((s.at t).noted (Reg.BNK_DSTAT_FCODE b)).foldl max 11)))
    ∧ (∀ outs, (k.selftest = none ∨ ∃ a, k.selftest = some a ∧ elapsed a t < 2 * us) → Idles (.bankSelftestDone t b outs) s t))
  ∧ (∀ (t : Word) (b : Fin 12) (s : State),
    let k := s.bk b
    (∀ c : Fin 4, s.hasTile 4 b = true → k.contDue = false →
      ((s.at t).detectsNow b (some c.val) = false → Does (.latchClear t b (some c)) s (fun s' =>
          s'.get (Reg.BNK_CDSTAT_LATCH b c) = 0
            ∧ s'.get (Reg.BNK_CDSTAT_RETRY_LEFT b c) = s.get (Reg.BNK_CDCFG_RETRY b c)
            ∧ ∀ a, a ≠ Reg.BNK_CDSTAT_addr b c → s'.reg a = s.reg a))
        ∧ ((s.at t).detectsNow b (some c.val) = true → Idles (.latchClear t b (some c)) s t))
    ∧ (s.hasTile 4 b = true → k.contDue = false → (s.at t).detectsNow b none = false →
      Does (.latchClear t b none) s (fun s' => s'.get (Reg.BNK_DSTAT_LATCH b) = 0
        ∧ s'.get (Reg.BNK_DSTAT_BRETRY_LEFT b) = s.get (Reg.BNK_DCFG_BRETRY b) ∧ (s'.bk b).cmpLatch = false
        ∧ ∀ a, a ≠ Reg.BNK_DSTAT_addr b → s'.reg a = s.reg a))
    ∧ (∀ c : Option (Fin 4), vget k.latchAt (latchIdx (c.map (·.val))) = some t → s.pending = [] →
      (s.at t).detectsNow b (c.map (·.val)) = true)
    ∧ (s.hasTile 4 b = true → (s.at t).detectsNow b none = true → Idles (.latchClear t b none) s t)
    ∧ (s.hasTile 4 b = false → ∀ c, Refused (.latchClear t b c) s)
    ∧ (∀ tl c, k.tail = some tl → tl.ch = c → c < 4 →
      (s.get (Reg.BNK_CLCFG_CLW b) * 2 * us ≤ elapsed tl.start t → Does (.tailWindowEnd t b) s (fun s' =>
          (s'.bk b).tail = none ∧ (s'.bk b).heddle.drive = 0 ∧ s'.get (Reg.BNK_CLRES_FLAG b c) = 2
            ∧ s'.get (Reg.BNK_CLRES_SEQ b c) = (s.get (Reg.BNK_CLRES_SEQ b c) + 1) % 256 ∧ s'.closures = s.closures))
        ∧ (elapsed tl.start t < s.get (Reg.BNK_CLCFG_CLW b) * 2 * us → Idles (.tailWindowEnd t b) s t)
        ∧ (∀ v : Fin 1024, elapsed tl.start t < s.get (Reg.BNK_CLCFG_CL_BLANK b) * 2 * us → Idles (.tailSample t b v) s t)
        ∧ (∀ v : Fin 1024, s.get (Reg.BNK_CLCFG_CL_BLANK b) * 2 * us ≤ elapsed tl.start t → tl.samples.length < 3 →
          Does (.tailSample t b v) s (fun s' => s'.regs = s.regs
            ∧ (s'.bk b).tail = some { tl with samples := v.val :: tl.samples, count := tl.count + 1 }))
        ∧ (∀ (v : Fin 1024) (x y z : Nat) (l : List Nat) (p : Nat),
          s.get (Reg.BNK_CLCFG_CL_BLANK b) * 2 * us ≤ elapsed tl.start t → tl.samples = x :: y :: z :: l → tl.before = some p →
          let m := v.val + x + y + z
          m < p → m ≤ tl.peak → tl.peakAt ≤ tl.count → 4 * s.get (Reg.BNK_CLCFG_CL_MIN b) ≤ tl.peak →
          16 * m < tl.peak * s.get (Reg.BNK_CLCFG_CL_FRAC b) → Does (.tailSample t b v) s (fun s' =>
            (s'.bk b).tail = none ∧ s'.get (Reg.BNK_CLRES_FLAG b c) = 1 ∧ s'.closures.length = s.closures.length + 1
              ∧ ∀ q, s'.closures.getLast? = some q → q.bank = b.val ∧ q.ch = c ∧ q.tStart = tl.tStart ∧ q.drift = tl.drift)))
    ∧ (k.tail = none → Idles (.tailWindowEnd t b) s t ∧ ∀ v, Idles (.tailSample t b v) s t))

/-- A step of a channel's coil model takes what the pulse and the chop measurement left; the windows of a CONT that
have ended by then have given theirs (R364). Without R_REF the channel is not valid and
its level is 0; otherwise TEMP is the rounded model value and the level follows it. A step is due at a recovery end, and each 10 ms
while the channel has no pulse that drives or recovers. The exponential of the model and the rounding are the model's (log entries 10 and 48). -/
def Obligations.CoilHeat : Prop :=
  ∀ (t : Word) (b : Fin 12) (c : Fin 4) (s : State),
    let k := s.bk b
    let th := vget k.thermal c
    let temp := satS 16 (openRound (16 * ((s.at t).contWindow b).heatModel b c))
    let due := th.due = true ∨ (10 * ms ≤ elapsed th.last t ∧ ¬ (k.owner = some c.val ∧ k.pulse.isSome)
      ∧ ¬ k.ovl.any (fun o => o.1 == c.val && o.2.2))
    (s.hasTile 4 b = true → due → Does (.thermalStep t b c) s (fun s' =>
      (vget (s'.bk b).thermal c).last = t ∧ (vget (s'.bk b).thermal c).pulse = none ∧ (vget (s'.bk b).thermal c).meas = none
        ∧ (vget (s'.bk b).thermal c).due = false
        ∧ (s.get (Reg.BNK_THP_R_REF b c) = 0 → s'.get (Reg.BNK_THM_VALID b c) = 0 ∧ s'.get (Reg.BNK_THM_LEVEL b c) = 0)
        ∧ (s.get (Reg.BNK_THP_R_REF b c) ≠ 0 → k.contDue = false → k.reqs.all (fun r => !r.waiting) = true →
          s'.getI (Reg.BNK_THM_TEMP b c) = temp
            ∧ s'.get (Reg.BNK_THM_LEVEL b c) = s.nextLevel b (s.get (Reg.BNK_THM_LEVEL b c)) temp)))
    ∧ (s.hasTile 4 b = false ∨ ¬ due → Idles (.thermalStep t b c) s t)

/-! ### Shuttles -/

/-- A Shuttle takes the update that was broadcast once. A window begins where the update passes LIST_ANG forward, half a cycle after
the last window: with READY the pages swap and the eight entries of the new page are copied, else the list is served again as
STALE (R244 to R246, R250 to R252, R254); without such an update PAGE, READY, WINS and the list stay. The update computes the
current entry's start anew (R256 to R261): it waits, becomes the candidate, commits within HORIZON or within LATE_TOL after its
angle, or is skipped. A start that reaches its horizon commits: its request goes to its bank with its time word, and the entry
is served. A stop that reaches its horizon commits and keeps its instant from then on. A rate of 0 leaves the start angle free
(log entry 40); an open rounding goes either way (log entry 10). -/
def Obligations.ShuttleStartsAndStops : Prop :=
  ∀ (t : Word) (n : Fin 64) (s : State),
    let k := s.sh n
    (∀ u, k.upd = some u → Does (.shuttleToothUpdate t n) s (fun s' => (s'.sh n).upd = none ∧ (s'.sh n).prev = some u
      ∧ (s.get (Reg.SHT_CFG_FUNC n) = fnOff → (s'.sh n).cur = k.cur ∧ (s'.sh n).pulse = k.pulse ∧ (s'.sh n).list = k.list)))
    ∧ (k.upd = none → Idles (.shuttleToothUpdate t n) s t)
    ∧ (∀ u, k.upd = some u → s.get (Reg.SHT_CFG_FUNC n) ≠ fnOff →
      let l := s.reg (Reg.SHT_LIST_addr n)
      let begins := k.noWindow = false ∧ s.serving n = true ∧ ∃ o, k.prev = some o ∧ 0 ≤ sdiff u.angle l ∧ sdiff o.angle l < 0
        ∧ (u.step = false ∨ (s.at t).jumpSmall n o u = true)
        ∧ ∀ a, k.advance = some a → 2 ^ 47 ≤ a + sdiff u.angle o.angle
      let offered := s.is (Reg.SHT_CTRL_READY n) = true ∧ k.readyAt ≠ some t
      let page := 1 - s.get (Reg.SHT_STAT_PAGE n)
      (begins → offered → Does (.shuttleToothUpdate t n) s (fun s' =>
          s'.get (Reg.SHT_STAT_PAGE n) = page ∧ s'.get (Reg.SHT_CTRL_READY n) = 0
            ∧ s'.get (Reg.SHT_STAT_WINS n) = (s.get (Reg.SHT_STAT_WINS n) + 1) % ((Reg.SHT_STAT_WINS n).max + 1)
            ∧ (s'.sh n).list = (List.range 8).map (fun m =>
                let e := s.listEntry n page m
                if e.kind = 0 ∨ s.entryBad n e = true then none else some e)))
        ∧ (begins → ¬ offered → Does (.shuttleToothUpdate t n) s (fun s' =>
          s'.get (Reg.SHT_STAT_PAGE n) = s.get (Reg.SHT_STAT_PAGE n) ∧ (s'.sh n).list = k.list
            ∧ s'.get (Reg.SHT_CTRL_READY n) = s.get (Reg.SHT_CTRL_READY n)
            ∧ s'.get (Reg.SHT_STAT_WINS n) = (s.get (Reg.SHT_STAT_WINS n) + 1) % ((Reg.SHT_STAT_WINS n).max + 1)
            ∧ s'.get (Reg.SHT_CNT2_STALE n) = min (s.get (Reg.SHT_CNT2_STALE n) + 1) (Reg.SHT_CNT2_STALE n).max))
        ∧ (¬ begins → Does (.shuttleToothUpdate t n) s (fun s' =>
          s'.get (Reg.SHT_STAT_PAGE n) = s.get (Reg.SHT_STAT_PAGE n) ∧ (s'.sh n).list = k.list
            ∧ s'.get (Reg.SHT_CTRL_READY n) = s.get (Reg.SHT_CTRL_READY n)
            ∧ s'.get (Reg.SHT_STAT_WINS n) = s.get (Reg.SHT_STAT_WINS n)
            ∧ s'.get (Reg.SHT_CNT2_STALE n) = s.get (Reg.SHT_CNT2_STALE n)))
        ∧ (∀ i e, ¬ begins → u.step = false → s.get (Reg.SHT_CFG_FUNC n) = fnPulse → k.pulse = none → k.gate = none →
          k.cur = some i → k.list.getD i none = some e → e.bank < 12 → 2 * (u.period : Int) + u.slope ≠ 0 →
            let a := ((s.at t).startAngle u e).1
            let allowed := ((s.at t).setSh n { k with upd := none, prev := some u }).startAllowed n e.kind a = true
            let x := (s.at t).projAt u (sdiff a u.angle)
            let commits := fun (c : Word) (late : Nat) (s' : State) => (s'.sh n).cur = none
              ∧ (s'.sh n).pulse = some { idx := i, ent := e, late, started := false, start := c, stop := c, stopDone := false }
              ∧ (s'.bk e.bank).reqs = (s.bk e.bank).reqs ++
                [{ sht := n, idx := i, ch := e.ch, kind := e.kind, time := c, commit := t, placed := false, waiting := false }]
            (x = .wait → Does (.shuttleToothUpdate t n) s (fun s' => (s'.sh n).cur = some i ∧ (s'.sh n).cand = none))
              ∧ (∀ c, x = .at c → 0 ≤ sdiff c t → s.horizon n ≤ elapsed t c → Does (.shuttleToothUpdate t n) s (fun s' =>
                (s'.sh n).cur = some i ∧ (s'.sh n).cand = some (c, a) ∧ (s'.sh n).pulse = none))
              ∧ (∀ c, x = .at c → 0 ≤ sdiff c t → elapsed t c < s.horizon n → allowed →
                Does (.shuttleToothUpdate t n) s (commits c 0))
              ∧ (∀ late, x = .past late → late ≤ s.lateTol n → allowed → Does (.shuttleToothUpdate t n) s (commits t late))
              ∧ (∀ late, x = .past late → s.lateTol n < late → 8 ≤ k.next → Does (.shuttleToothUpdate t n) s (fun s' =>
                (s'.sh n).cur = none ∧ (s'.sh n).pulse = none ∧ s'.get (Reg.SHT_LSTAT_CAUSE n) = skLate
                  ∧ s'.get (Reg.SHT_CNT0_SKIP_LATE n)
                    = min (s.get (Reg.SHT_CNT0_SKIP_LATE n) + 1) (Reg.SHT_CNT0_SKIP_LATE n).max))))
    ∧ (∀ i c a e, k.cur = some i → k.cand = some (c, a) → k.list.getD i none = some e →
      s.get (Reg.SHT_CFG_FUNC n) = fnPulse → k.pulse = none →
        (sdiff c t ≤ s.horizon n → e.bank < 12 → s.startAllowed n e.kind a = true → Does (.startCommit t n) s (fun s' =>
            (s'.sh n).cur = none ∧ (s'.sh n).cand = none
              ∧ (s'.sh n).pulse = some
                { idx := i, ent := e, late := 0, started := false, start := c, stop := c, stopDone := false }
              ∧ (s'.bk e.bank).reqs = (s.bk e.bank).reqs ++
                [{ sht := n, idx := i, ch := e.ch, kind := e.kind, time := c, commit := t, placed := false, waiting := false }]))
          ∧ ((s.horizon n : Int) < sdiff c t → Idles (.startCommit t n) s t))
    ∧ (k.cand = none → Idles (.startCommit t n) s t)
    ∧ (∀ p, k.pulse = some p →
      (p.started = true → p.stopDone = false → sdiff p.stop t ≤ s.horizon n → Does (.stopCommit t n) s (fun s' =>
          s'.sh n = { k with pulse := some { p with stopDone := true } }
            ∧ s'.getI (Reg.SHT_LSTAT_ENDCORR n) = satS 16 (openRound ((sdiff p.stop p.plain : Rat) / 1000))
            ∧ ∀ a, a ≠ Reg.SHT_LSTAT_addr n → s'.reg a = s.reg a))
        ∧ (p.started = false ∨ p.stopDone = true ∨ (s.horizon n : Int) < sdiff p.stop t → Idles (.stopCommit t n) s t))

/-- A gate's opening, ticks and closing commit at their horizon and take place at their instants, each with its token to the
sequencer that SHTn_GATE names. They take place at their time words (the model's reading, log entry 113). -/
def Obligations.ShuttleGates : Prop :=
  ∀ (t : Word) (n : Fin 64) (s : State),
    let k := s.sh n
    let q := s.get (Reg.SHT_GATE_SEQ n)
    (∀ i c a e, k.cur = some i → k.cand = some (c, a) → k.list.getD i none = some e →
      s.get (Reg.SHT_CFG_FUNC n) = fnGate → k.gate = none → sdiff c t ≤ s.horizon n → s.gateAllowed n = true →
        Does (.gateOpenCommit t n) s (fun s' =>
          s'.sh n = { k with cur := none, cand := none, gate := some (newGate i e c false) }))
    ∧ (k.cand = none → Idles (.gateOpenCommit t n) s t)
    ∧ (∀ g u, k.gate = some g → k.prev = some u →
      (g.opened = false → notBefore t g.at_ = true → Does (.gateOpen t n) s (fun s' =>
          (∃ g', (s'.sh n).gate = some g' ∧ g'.opened = true ∧ g'.at_ = g.at_ ∧ g'.ent = g.ent ∧ g'.issued = g.issued)
            ∧ s'.reg (Reg.SHT_LAST_addr n) = g.at_ ∧ vget s'.seqTok q = vget s.seqTok q ++ [.opening n g.at_]))
        ∧ (g.opened = true ∨ notBefore t g.at_ = false → Idles (.gateOpen t n) s t)
        ∧ (∀ c, g.opened = true → g.tickAt = some c → notBefore t c = true → Does (.gridTick t n) s (fun s' =>
          (∃ g', (s'.sh n).gate = some g' ∧ g'.tick = g.tick + 1 ∧ g'.issued = g.issued + 1) ∧ (s'.sh n).lastTick = some c
            ∧ vget s'.seqTok q = vget s.seqTok q ++ [.tick n g.tick c])))
    ∧ (∀ g, k.gate = some g →
      (∀ c, g.opened = true → g.close = some c →
          (sdiff c t ≤ s.horizon n → Does (.gateCloseCommit t n) s (fun s' =>
            s'.sh n = { k with gate := some { g with closeDone := true } }))
            ∧ ((s.horizon n : Int) < sdiff c t → Idles (.gateCloseCommit t n) s t)
            ∧ (notBefore t c = true → Does (.gateClose t n) s (fun s' => (s'.sh n).sigEnd = some t
              ∧ GateTok.closing n g.issued g.omitted g.late false c ∈ vget s'.seqTok q))
            ∧ (notBefore t c = false → Idles (.gateClose t n) s t))
        ∧ (∀ c, g.opened = true → g.tickAt = some c →
          (sdiff c t ≤ s.horizon n → Does (.gridTickCommit t n) s (fun s' =>
            s'.sh n = { k with gate := some { g with tickDone := true } }))
            ∧ ((s.horizon n : Int) < sdiff c t → Idles (.gridTickCommit t n) s t)
            ∧ (notBefore t c = false → Idles (.gridTick t n) s t))
        ∧ (g.opened = false → Idles (.gateCloseCommit t n) s t ∧ Idles (.gateClose t n) s t ∧ Idles (.gridTickCommit t n) s t
          ∧ Idles (.gridTick t n) s t))
    ∧ (k.gate = none → Idles (.gateOpen t n) s t ∧ Idles (.gateClose t n) s t ∧ Idles (.gateCloseCommit t n) s t
      ∧ Idles (.gridTickCommit t n) s t ∧ Idles (.gridTick t n) s t)

/-- Lost synchronisation and a cleared EN cancel what is pending and close an open gate; an update after either begins no window.
READY is set by the writer that the channel names; a host write where the service tiles write is refused, and so is one to a Shuttle
that the weave does not instantiate. -/
def Obligations.ShuttleControl : Prop :=
  ∀ (t : Word) (n : Fin 64) (s : State),
    let k := s.sh n
    let idleList := fun (s' : State) => (s'.sh n).cur = none ∧ (s'.sh n).cand = none ∧ (s'.sh n).next = 8
      ∧ ∀ g, (s'.sh n).gate = some g → g.opened = false
    ((vget s.shTok n).sync = true → Does (.syncLost t n) s (fun s' => (vget s'.shTok n).sync = false
        ∧ (s.hasTile 3 n = true → idleList s' ∧ (s'.sh n).noWindow = true)
        ∧ (s.hasTile 3 n = false → s'.sh n = k ∧ s'.regs = s.regs)))
    ∧ ((vget s.shTok n).sync = false → Idles (.syncLost t n) s t)
    ∧ (s.hasTile 3 n = true →
      (s.is (Reg.SHT_CTRL_EN n) = false → Does (.shtEnSet t n) s (fun s' => s'.get (Reg.SHT_CTRL_EN n) = 1
          ∧ s'.sh n = { k with noWindow := true }) ∧ Idles (.shtEnClear t n) s t)
        ∧ (s.is (Reg.SHT_CTRL_EN n) = true → Does (.shtEnClear t n) s (fun s' => s'.get (Reg.SHT_CTRL_EN n) = 0
          ∧ idleList s') ∧ Idles (.shtEnSet t n) s t)
        ∧ (∀ service, s.is (Reg.SHT_CTRL_READY n) = false →
          (s.is (Reg.SHT_CFG_WRITER n) = service → Does (.shtReadySet t n service) s (fun s' =>
              s'.get (Reg.SHT_CTRL_READY n) = 1 ∧ s'.sh n = { k with readyAt := some t }
                ∧ ∀ a, a ≠ Reg.SHT_CTRL_addr n → s'.reg a = s.reg a))
            ∧ (s.is (Reg.SHT_CFG_WRITER n) = true → service = false → Does (.shtReadySet t n service) s (fun s' =>
              s'.get Reg.SYS_STATUS_WREJ = 1 ∧ s'.sh n = k ∧ ∀ a, a ≠ Reg.SYS_STATUS_addr → s'.reg a = s.reg a)))
        ∧ (s.is (Reg.SHT_CFG_WRITER n) = false → Idles (.shtReadySet t n true) s t)
        ∧ (∀ service, s.is (Reg.SHT_CTRL_READY n) = true → Idles (.shtReadySet t n service) s t))
    ∧ (s.hasTile 3 n = false → Refused (.shtEnSet t n) s ∧ Refused (.shtEnClear t n) s ∧ Refused (.shtReadySet t n false) s
      ∧ Idles (.shtReadySet t n true) s t)

/-- A pulse output takes each update once and runs only where it is enabled and an angle exists; its edge is issued at its instant,
steps the index by one around the cycle, and counts as late where the previous edge delayed it. One that no longer runs is low: what was
high falls at once, or 2.5 µs after the last edge and then as a late one (R283, R285). The phase of the quadrature cycle is open (log
entry 44). -/
def Obligations.PulseOutputs : Prop :=
  ∀ (t : Word) (p : Fin 2) (s : State),
    let k := s.po p
    (∀ u, k.upd = some u → Does (.pulseOutputUpdate t p) s (fun s' =>
      (s'.po p).upd = none ∧ (s'.po p).last = some u ∧ (s'.po p).run = s.outRuns p ∧ s'.regs = s.regs
        ∧ (s.outRuns p = false → (s'.po p).run = false
          ∧ ((k.a || k.b || k.z) = false → (s'.po p).at_ = none
            ∧ (s'.po p).a = false ∧ (s'.po p).b = false ∧ (s'.po p).z = false)
          ∧ ((k.a || k.b || k.z) = true → k.run = true →
            ((k.spaced t).2 = false → (s'.po p).at_ = none ∧ (s'.po p).lastAt = some t
                ∧ (s'.po p).a = false ∧ (s'.po p).b = false ∧ (s'.po p).z = false)
              ∧ ((k.spaced t).2 = true → (s'.po p).at_ = some (k.spaced t).1 ∧ (s'.po p).delayed = true
                ∧ (s'.po p).a = k.a ∧ (s'.po p).b = k.b ∧ (s'.po p).z = k.z)))))
    ∧ (k.upd = none → Idles (.pulseOutputUpdate t p) s t)
    ∧ (let edge := fun (p : Nat) (late : Fld) (cmd : Instr) (level : Nat → PulseOut → Prop) =>
        let k := s.po p
        (∀ c, k.at_ = some c → k.last.isSome = true → k.run = true → notBefore t c = true → Does cmd s (fun s' =>
            (s'.po p).idx = (k.idx + 1) % k.edges ∧ (s'.po p).lastAt = some c ∧ level ((k.idx + 1) % k.edges) (s'.po p)
              ∧ s'.get late = if k.delayed then min (s.get late + 1) late.max else s.get late))
          ∧ (∀ c, k.at_ = some c → k.last.isSome = true → k.run = false → notBefore t c = true → Does cmd s (fun s' =>
            (s'.po p).a = false ∧ (s'.po p).b = false ∧ (s'.po p).z = false ∧ (s'.po p).at_ = none ∧ (s'.po p).lastAt = some c
              ∧ s'.get late = if k.delayed then min (s.get late + 1) late.max else s.get late))
          ∧ (k.last = none ∨ k.at_.all (fun c => !notBefore t c) = true → Idles cmd s t)
      edge 0 Reg.PLS_CNT_LATE_ENC (.pulseOutputEdge t) (fun i k' => k'.a = decide ((i + Config.encPhase) % 4 < 2)
          ∧ k'.b = decide ((i + Config.encPhase) % 4 = 1 ∨ (i + Config.encPhase) % 4 = 2))
        ∧ edge 1 Reg.PLS_CNT_LATE_TACH (.tachEdge t) (fun i k' => k'.a = decide (i % 2 = 0)))

/-! ### Wheel inputs, synchronisation and prediction -/

/-- The input filter of a Warp: a transition starts it, a return before its time takes it back, and a change that it has held for
its time becomes the Warp's level. A VR half-wave of the polarity before the active crossing arms the input, and the crossing
uses that up before the filter decides (log entry 129); it also ends the half-wave. A crank edge so validated in STALL is the
reference of a new hunt. HALL_DIR pulses beyond DIR_SPLIT are reverse, beyond DIR_MAX a width error. A pulse end in the filter
counts by its time word (the model's reading, log entry 23). Stall. A crank that neither synchronises the unit nor is away from
its own source goes to STALL; the primary in CRANK_SYNC or PHASED goes to the first source of Table 3.6 that is there, and to
STALL where none is. A stalled cam is in SEARCH, and a unit that limps on it goes to HUNT. A reverse that falls due at the same
instant takes a stall's place. An edge in the filter counts by its time word, and a background that stalls hunts (the model's
readings, log entries 23 and 25); a Warp that gives the unit to the standby crank begins its hunt anew (log entry 26). -/
def Obligations.WheelFilterAndStall : Prop :=
  (∀ (t : Word) (n : Fin 6) (s : State),
    let w := s.wp n
    (∀ high, s.wheelLive n = true → s.get (Reg.WRP_CFG_TYPE n) ≠ 0 →
      let active := high == s.is (Reg.WRP_CFG_EDGE n)
      (w.pend = none → (active ≠ w.level ∨ s.is (Reg.WRP_SYNC_INIT n) = true) → s.filt n ≠ 0 →
          Does (.wheelTransition t n (.level high)) s (fun s' =>
            s'.wp n = { w with pend := some (active, t) } ∧ s'.regs = s.regs))
        ∧ (∀ lv t0, w.pend = some (lv, t0) → lv ≠ active → Does (.wheelTransition t n (.level high)) s (fun s' =>
            s'.wp n = { w with pend := none } ∧ s'.regs = s.regs))
        ∧ ((∃ t0, w.pend = some (active, t0)) ∨ (w.pend = none ∧ active = w.level ∧ s.is (Reg.WRP_SYNC_INIT n) = false) →
          Idles (.wheelTransition t n (.level high)) s t))
    ∧ (∀ positive mV, s.wheelLive n = true → s.get (Reg.WRP_CFG_TYPE n) = 0 →
      (positive ≠ s.is (Reg.WRP_CFG_EDGE n) → Does (.wheelTransition t n (.vrPeak positive mV)) s (fun s' =>
          s'.wp n = { w with vrNow := max w.vrNow mV, armed := w.armed || s.vrArms n mV } ∧ s'.regs = s.regs))
        ∧ (positive = s.is (Reg.WRP_CFG_EDGE n) → Idles (.wheelTransition t n (.vrPeak positive mV)) s t)
        ∧ (positive = s.is (Reg.WRP_CFG_EDGE n) → w.armed = false → Does (.wheelTransition t n (.vrZero positive)) s (fun s' =>
          s'.wp n = { w with vrNow := 0 } ∧ s'.regs = s.regs))
        ∧ (positive = s.is (Reg.WRP_CFG_EDGE n) → w.armed = true → w.pend = none →
          (w.level = false ∨ s.is (Reg.WRP_SYNC_INIT n) = true) → s.filt n ≠ 0 →
            Does (.wheelTransition t n (.vrZero positive)) s (fun s' =>
              s'.wp n = { w with armed := false, vrNow := 0, vrEdge := w.vrNow, pend := some (true, t) } ∧ s'.regs = s.regs)))
    ∧ (∀ x, s.wheelLive n = false → Idles (.wheelTransition t n x) s t)
    ∧ (∀ t0, w.pend = some (false, t0) → s.running = true → s.filt n ≤ elapsed t0 t → s.get (Reg.WRP_CFG_TYPE n) ≠ 2 →
      Does (.edgeFilterExpiry t n) s (fun s' => s'.wp n = { w with pend := none, level := false }
        ∧ s'.get (Reg.WRP_SYNC_INIT n) = 0 ∧ ∀ a, a ≠ Reg.WRP_SYNC_addr n → s'.reg a = s.reg a))
    ∧ (∀ t0, w.pend = some (true, t0) → s.running = true → s.filt n ≤ elapsed t0 t → w.level = false → n.val < 2 →
      s.sync n = ssStall → (n.val = 0 ∨ s.primary ≠ 0 ∨ s.get (Reg.WRP_MODE_CRK_MODE 1) ≠ 0) →
      Does (.edgeFilterExpiry t n) s (fun s' => s'.sync n = ssHunt ∧ s'.reg (Reg.WRP_EDGE_addr n) = t0
        ∧ (s'.wp n).hasRef = true ∧ (s'.wp n).pos = none ∧ (s'.wp n).level = true))
    ∧ (∀ lv t0, w.pend = some (lv, t0) → elapsed t0 t < s.filt n → Idles (.edgeFilterExpiry t n) s t)
    ∧ (w.pend = none ∨ s.running = false → Idles (.edgeFilterExpiry t n) s t)
    ∧ (∀ t0, w.pulse = some t0 → s.running = true →
      (w.pulseRev = false → w.pulseLasts t0 t (80 * s.get (Reg.WRP_DIR_DIR_SPLIT n)) = true → n.val < 2 → s.sync n ≠ ssOff →
          Does (.dirSplitExpiry t n) s (fun s' => s'.sync n = ssReverse ∧ s'.get (Reg.WRP_SYNC_REV_PEND n) = 1
            ∧ (s'.wp n).pulseRev = true ∧ (s'.wp n).pos = none
            ∧ (n.val = s.primary → s.sync n ≠ ssReverse → ∀ k : Fin 64, (vget s'.shTok k).rotation = true)))
        ∧ (w.pulseRev = false → w.pulseLasts t0 t (80 * s.get (Reg.WRP_DIR_DIR_SPLIT n)) = true → 2 ≤ n.val →
          Does (.dirSplitExpiry t n) s (fun s' => s'.wp n = { w with pulseRev := true, fwdRun := 0 } ∧ s'.regs = s.regs))
        ∧ (w.pulseErr = false → w.pulseLasts t0 t (80 * s.get (Reg.WRP_DIR_DIR_MAX n)) = true →
          Does (.dirMaxExpiry t n) s (fun s' => s'.wp n = { w with pulseErr := true }
            ∧ s'.get (Reg.WRP_CNT2_WIDTH_ERR n)
              = min (s.get (Reg.WRP_CNT2_WIDTH_ERR n) + 1) (Reg.WRP_CNT2_WIDTH_ERR n).max)))
    ∧ (w.pulse = none ∨ s.running = false → Idles (.dirSplitExpiry t n) s t ∧ Idles (.dirMaxExpiry t n) s t)
    ∧ (w.pulseRev = true → Idles (.dirSplitExpiry t n) s t) ∧ (w.pulseErr = true → Idles (.dirMaxExpiry t n) s t))
  ∧ (∀ (t : Word) (s : State), s.primary < 2 →
    let p := s.primary
    let insync := s.sync p = ssCrankSync ∨ s.sync p = ssPhased
    (∀ n : Fin 2, (s.at t).stallDue n = true → (s.at t).reverseNow n = false → s.sync n ≠ ssOff → s.sync n ≠ ssStall →
      (¬ (n.val = p ∧ insync) → s.away n = false → Does (.stallTimeout t n) s (fun s' => s'.sync n = ssStall
          ∧ (s'.wp n).stallBase = none ∧ (s'.wp n).pos = none))
        ∧ (n.val = p → insync → (s.at t).standbyReady = true → Does (.stallTimeout t n) s (fun s' =>
          s'.primary = 1 ∧ s'.sync 0 = ssStall ∧ s'.get (Reg.WRP_SYNC_CRANK_LOST 0) = 1 ∧ (s'.wf 0).switched = true))
        ∧ (n.val = p → insync → (s.at t).standbyReady = false → (s.at t).borrowReady n = true → Does (.stallTimeout t n) s (fun s' =>
          s'.sync n = ssBorrowed ∧ s'.get (Reg.WRP_SYNC_SRC n) = 2 ∧ s'.get (Reg.WRP_SYNC_BG n) = ssHunt
            ∧ s'.get (Reg.WRP_SYNC_CRANK_LOST n) = 1))
        ∧ (n.val = p → insync → (s.at t).standbyReady = false → (s.at t).borrowReady n = false → (s.at t).limpReady n = true →
          Does (.stallTimeout t n) s (fun s' => s'.sync n = ssLimp ∧ s'.get (Reg.WRP_SYNC_SRC n) = 3
            ∧ s'.get (Reg.WRP_SYNC_BG n) = ssHunt ∧ s'.get (Reg.WRP_SYNC_CRANK_LOST n) = 1))
        ∧ (n.val = p → insync → (s.at t).standbyReady = false → (s.at t).borrowReady n = false → (s.at t).limpReady n = false →
          Does (.stallTimeout t n) s (fun s' => s'.sync n = ssStall ∧ ∀ k : Fin 64, (vget s'.shTok k).rotation = true)))
    ∧ (∀ n : Fin 2, (s.at t).stallDue n = false ∨ (s.at t).reverseNow n = true ∨ s.sync n = ssOff ∨ s.sync n = ssStall → Idles (.stallTimeout t n) s t)
    ∧ (∀ n : Fin 6, 2 ≤ n.val → (s.at t).stallDue n = true → Does (.camStallTimeout t n) s (fun s' =>
        s'.get (Reg.WRP_SYNC_CAMST n) = 0 ∧ s'.get (Reg.WRP_SYNC_TOOTH n) = 0xFFF ∧ (s'.wp n).hasRef = false
          ∧ s'.get (Reg.WRP_CNT1_STALLS n) = min (s.get (Reg.WRP_CNT1_STALLS n) + 1) (Reg.WRP_CNT1_STALLS n).max
          ∧ (s.sync p = ssLimp → n.val = 2 + s.get (Reg.WRP_MODE_LIMP_CAM p) → s'.sync p = ssHunt)))
    ∧ (∀ n : Fin 6, (s.at t).stallDue n = false ∨ n.val < 2 → Idles (.camStallTimeout t n) s t))

/-- An edge that the filter validates, before the stall timeout of its Warp expired. Where a crank's position is known Table 3.2
classifies it (R139, R141, R143): noise is counted and changes nothing else (R145); a tooth, a mark, and a real tooth after a missed one
(R146) are accepted with their per-pitch period; any other edge is a sync fault or, below REV_RPM, reverse (R148, R173), and becomes the
reference. GAP_FOUND ends after GAP_CHECK normal teeth (R164, R166). In the hunt (R149, R150) the first edge is the reference, the second
gives the first period, then Table 3.4 decides; candidates that leave one position identify it, and with none the hunt begins anew. A cam
edge in SEEK and LOCKED follows R179 to R182; an edge of the PHASE_CAM decides the cycle half (R163 to R165) and is held to its window in
PHASED (R167). WRPn_PER.Q, a run of extra-tooth sub-periods and a SEEK that nothing fits follow log entries 127, 128 and 158; no tie of
windows and no stall of the same instant is meant here. -/
def Obligations.WheelEdges : Prop :=
  ∀ (t t0 : Word) (n : Fin 6) (s : State), (s.wp n).pend = some (true, t0) → s.running = true → s.filt n ≤ elapsed t0 t →
    (s.wp n).level = false → s.stallBy n t0 = none →
    let w := s.wp n
    let m := elapsed (s.lastEdge n) t0
    let edge := Does (.edgeFilterExpiry t n) s
    let qlo := s.get (Reg.WRP_ACC0_QLO n)
    let qhi := s.get (Reg.WRP_ACC0_QHI n)
    let mlo := s.get (Reg.WRP_ACC1_MLO n)
    let mhi := s.get (Reg.WRP_ACC1_MHI n)
    let counts := fun (f : Fld) (s' : State) => s'.get f = min (s.get f + 1) f.max
    let at0 := fun (s' : State) => s'.reg (Reg.WRP_EDGE_addr n) = t0
    let noise := edge (fun s' => counts (Reg.WRP_CNT0_NOISE n) s' ∧ s'.reg (Reg.WRP_EDGE_addr n) = s.reg (Reg.WRP_EDGE_addr n)
      ∧ (s'.wp n).pos = w.pos ∧ (s'.wp n).cands = w.cands ∧ (s'.wp n).count = w.count ∧ (s'.wp n).stallBase = w.stallBase
      ∧ s'.sync n = s.sync n)
    (n.val < 2 → s.sync n ≠ ssOff → s.sync n ≠ ssStall →
      (n.val = 0 ∨ s.primary ≠ 0 ∨ s.get (Reg.WRP_MODE_CRK_MODE 1) ≠ 0) →
      (∀ p, w.pos = some p → w.track = false →
        let span := s.spanFrom n p
        let nxt := s.posAfter n p span
        let pp := s.predicted n
        let taken := fun (p' per : Nat) (c : State → Prop) => edge (fun s' => at0 s' ∧ s'.get (Reg.WRP_PER_PERIOD n) = satU 32 per
          ∧ (s.trk n ≠ ssPhased ∨ s'.trk n = ssPhased → (s'.wp n).pos = some p' ∧ (s'.wp n).stallBase = some t0) ∧ c s')
        let lost := (s.rockingSpeed n = true → edge (fun s' => counts (Reg.WRP_CNT1_REVS n) s' ∧ s'.sync n = ssReverse
            ∧ s'.get (Reg.WRP_SYNC_REV_PEND n) = 1 ∧ (s'.wp n).pos = none ∧ at0 s'))
          ∧ (s.rockingSpeed n = false → edge (fun s' => counts (Reg.WRP_CNT0_SYNCF n) s' ∧ s'.causes = s.causes ++ [(11, n.val)]
            ∧ (s'.wp n).pos = none ∧ (s'.wp n).hasRef = true ∧ at0 s'))
        (m < 22857 → noise)
          ∧ (22857 ≤ m → s.markAt n nxt = none →
            let q := ratioQ m pp
            let nn := s.posAfter n nxt 1
            let second := s.get (Reg.WRP_ACC0_MISS_LO n) ≤ q ∧ q < s.get (Reg.WRP_ACC1_MISS_HI n)
              ∧ s.is (Reg.WRP_MODE_MISS_INS n) = true ∧ s.spanFrom n nxt = 1 ∧ s.markAt n nn = none
              ∧ (w.inserted = false ∨ nxt = 0 ∨ nn = 0)
            (q < qlo → noise)
              ∧ (qlo ≤ q → q < qhi → taken nxt m (fun s' => s.sync n = ssGapFound →
                s'.sync n = if s.get (Reg.WRP_MODE_GAP_CHECK n) ≤ w.gapn + 1
                  then (if s.weave.twoStroke || (s'.wp n).known then ssPhased else ssCrankSync) else ssGapFound))
              ∧ (qlo ≤ q → qhi ≤ q → second → taken nn (m / 2) (counts (Reg.WRP_CNT0_MISSED n)))
              ∧ (qlo ≤ q → qhi ≤ q → ¬ second → lost))
          ∧ (22857 ≤ m → ∀ k, s.markAt n nxt = some k →
            let q := if k.extra then ratioQ (m * (k.len + 1)) pp else ratioQ m ((k.len + 1) * pp)
            let tot := w.subSum + m
            (q < qlo → noise)
              ∧ (qlo ≤ q → mlo ≤ q → q < mhi → k.extra = true → w.sub < k.len → edge (fun s' => at0 s'
                ∧ (s'.wp n).pos = w.pos ∧ (s'.wp n).sub = w.sub + 1 ∧ (s'.wp n).subSum = tot))
              ∧ (qlo ≤ q → mlo ≤ q → q < mhi → (k.extra = false ∨ k.len ≤ w.sub) →
                taken nxt (if span = 1 then tot else m / span) (fun _ => True))
              ∧ (qlo ≤ q → (q < mlo ∨ mhi ≤ q) → lost)))
        ∧ ((w.pos = none ∨ w.track = true) → w.subEdges = [] →
          let gap := s.gapFit n (fun l => 4096 * m / ((l + 1) * w.per)) (fun l => ((m : Int) - (l + 1) * w.per).natAbs)
          let first := if w.nper = 1 then
            s.gapFit n (fun l => 4096 * w.per / ((l + 1) * m)) (fun l => ((w.per : Int) - (l + 1) * m).natAbs) else none
          let q := ratioQ m w.per
          (w.hasRef = false → edge (fun s' => at0 s' ∧ (s'.wp n).hasRef = true ∧ (s'.wp n).nper = 0))
            ∧ (w.hasRef = true → m < 22857 → noise)
            ∧ (w.hasRef = true → 22857 ≤ m → w.nper = 0 → edge (fun s' => at0 s'
              ∧ s'.get (Reg.WRP_PER_PERIOD n) = satU 32 m ∧ (s'.wp n).per = m ∧ (s'.wp n).nper = 1 ∧ (s'.wp n).count = w.count + 1))
            ∧ (w.hasRef = true → 22857 ≤ m → w.nper ≠ 0 →
              (∀ l, gap = some l → w.track = false → s.sync n = ssHunt → s.is (Reg.WRP_SYNC_REV_PEND n) = false →
                let x := s.setWp n { w with cands := w.cands ++ [⟨false, l, w.count + 1⟩], count := 0 }
                (∀ j, x.hypotheses n = [j] → edge (fun s' => at0 s' ∧ s'.sync n = ssGapFound
                    ∧ (s'.wp n).pos = some (x.hypPosition n j) ∧ (s'.wp n).gapn = 0
                    ∧ s'.get (Reg.WRP_PER_PERIOD n) = satU 32 (m / (l + 1))))
                  ∧ (x.hypotheses n = [] → edge (fun s' => at0 s' ∧ counts (Reg.WRP_CNT2_HRST n) s' ∧ (s'.wp n).cands = []
                    ∧ (s'.wp n).nper = 0))
                  ∧ (2 ≤ (x.hypotheses n).length → edge (fun s' => at0 s' ∧ s'.sync n = ssHunt
                    ∧ (s'.wp n).cands = (x.wp n).cands ∧ (s'.wp n).count = 0)))
              ∧ (gap = none → ∀ l, s.extraFit n m w.per 0 = some l → edge (fun s' =>
                (s'.wp n).subEdges = [(t0, w.vrEdge)] ∧ (s'.wp n).subLen = l
                  ∧ s'.reg (Reg.WRP_EDGE_addr n) = s.reg (Reg.WRP_EDGE_addr n)))
              ∧ (gap = none → s.extraFit n m w.per 0 = none →
                (qlo ≤ q → q < qhi → w.cands = [] → edge (fun s' => at0 s' ∧ s'.get (Reg.WRP_PER_PERIOD n) = satU 32 m
                    ∧ (s'.wp n).per = m ∧ (s'.wp n).count = w.count + 1 ∧ (s'.wp n).pos = w.pos ∧ s'.sync n = s.sync n))
                  ∧ (¬ (qlo ≤ q ∧ q < qhi) → first = none → q < qlo → noise)
                  ∧ (¬ (qlo ≤ q ∧ q < qhi) → first = none → qlo ≤ q → edge (fun s' => at0 s'
                    ∧ counts (Reg.WRP_CNT2_HRST n) s' ∧ (s'.wp n).cands = [] ∧ (s'.wp n).nper = 0)))))
        )
    ∧ (2 ≤ n.val →
      let l := s.posn n
      let camst := s.get (Reg.WRP_SYNC_CAMST n)
      let fits := fun (k : Nat) => mlo ≤ s.camRatio n k m w.camIv ∧ s.camRatio n k m w.camIv < mhi
      let shows := fun (st tooth : Nat) (s' : State) => at0 s' ∧ s'.get (Reg.WRP_SYNC_CAMST n) = st
        ∧ s'.get (Reg.WRP_SYNC_TOOTH n) = tooth % 4096
      (w.hasRef = false → edge (fun s' => at0 s' ∧ (s'.wp n).hasRef = true))
        ∧ (w.hasRef = true → m < 22857 → noise)
        ∧ (w.hasRef = true → 22857 ≤ m →
          (camst = 0 → edge (shows 1 0xFFF))
            ∧ (camst = 1 →
              let cand := (w.camCand.map (fun j => (j + 1) % l)).filter (fun k => decide (fits k))
              (∀ k, cand = [k] → edge (shows 2 k)) ∧ (cand.length ≠ 1 → edge (shows 1 0xFFF)))
            ∧ (camst = 2 →
              let k := (w.camEdge + 1) % l
              (s.camRatio n k m w.camIv < qlo → noise)
                ∧ (qlo ≤ s.camRatio n k m w.camIv → fits k → edge (shows 2 k))
                ∧ (qlo ≤ s.camRatio n k m w.camIv → ¬ fits k → edge (fun s' => shows 1 0xFFF s'
                  ∧ counts (Reg.WRP_CNT1_CAMF n) s'))))
        ∧ (∀ (k : Fin 2) (u : Update), (s.wp k).own = some u → s.hasTile 1 k = true → n.val = 2 + s.get (Reg.WRP_MODE_PHASE_CAM k) →
          (w.hasRef = false ∨ (22857 ≤ m ∧ camst < 2)) → (s.at t).reverseNow k = false → (s.at t).stallDue k = false →
          (s.wp k).track = false →
          let x := s.absAngle k + sdiff (s.ownAngleAt k t0) u.angle
          let hits := fun (h : Nat) => (s.windowAt k h x).isSome = true
          s.unjudgedAt k x = false →
            (s.sync k = ssCrankSync → s.weave.twoStroke = false → (s.wp k).known = false → (s.wp k).restart = false →
              (s.wp k).live0 = true → (s.wp k).live1 = true →
              (hits 0 → ¬ hits 1 → edge (fun s' => s'.sync k = ssPhased ∧ (s'.wp k).par = 0))
                ∧ (¬ hits 0 → hits 1 → edge (fun s' => s'.sync k = ssPhased ∧ (s'.wp k).par = 1
                  ∧ (k.val = s.primary → (s'.wf 0).stepDue = true)))
                ∧ (hits 0 → hits 1 → edge (fun s' => s'.sync k = ssCrankSync))
                ∧ (¬ hits 0 → ¬ hits 1 → edge (fun s' => s'.sync k = ssCrankSync ∧ (s'.wp k).restart = true
                  ∧ counts (Reg.WRP_CNT1_CAMF k) s')))
            ∧ (s.sync k = ssPhased →
              (hits (s.decided k) → edge (fun s' => s'.sync k = ssPhased ∧ (s'.wp k).pos = (s.wp k).pos))
                ∧ (¬ hits (s.decided k) → s.rockingSpeed k = false → edge (fun s' => counts (Reg.WRP_CNT1_CAMF k) s'
                  ∧ (s.is (Reg.WRP_MODE_CAM_RETAIN k) = true → s'.sync k = ssPhased)
                  ∧ (s.is (Reg.WRP_MODE_CAM_RETAIN k) = false → counts (Reg.WRP_CNT0_SYNCF k) s' ∧ (s'.wp k).pos = none))))))

/-- The update that an accepted normal tooth forms (R191 to R194, R200, R205 to R207): its index, time, angle, span and distance to
the next indexed tooth. The basic period is floor(M / n) × NSPAN and the slope 0; in expert mode period and slope come from the
new B and V of R205. It joins the updates that Weft 0 has to broadcast where the primary is in CRANK_SYNC or PHASED before and
after it. Its STEP is 1 where the half was decided as H1 or Weft 0 returned (R190, R194), and its HALF is 1 in CRANK_SYNC. A
tooth at position 0 may change the tables that the expert sum reads, and is not meant there. The registers of a Weft. The
microtick holds once in an interval that has reached its prediction, and counts. A read of WFTn_UPD0 latches the six words of
the last update that every consumer has acknowledged; a read of WFTn_SNAPT captures the timebase and the angle while the Weft
delivers, and zeros otherwise. Before the first update the angle is a free value (log entry 125). An edge in the filter counts
by its time word (the model's reading, log entry 23). -/
def Obligations.WeftUpdatesAndRegisters : Prop :=
  (∀ (t t0 : Word) (n : Fin 6) (p : Nat) (s : State), n.val < 2 → (s.wp n).pend = some (true, t0) → s.running = true →
    s.filt n ≤ elapsed t0 t → (s.wp n).level = false → s.stallBy n t0 = none →
    s.sync n ≠ ssOff → s.sync n ≠ ssStall → (n.val = 0 ∨ s.primary ≠ 0 ∨ s.get (Reg.WRP_MODE_CRK_MODE 1) ≠ 0) →
    (s.wp n).pos = some p → (s.wp n).track = false → p < s.posn n → s.spanFrom n p = 1 →
    let m := elapsed (s.lastEdge n) t0
    let nxt := s.posAfter n p 1
    let q := ratioQ m (s.predicted n)
    s.markAt n nxt = none → 22857 ≤ m → s.get (Reg.WRP_ACC0_QLO n) ≤ q → q < s.get (Reg.WRP_ACC0_QHI n) →
    let expert := s.is (Reg.WFT_CTRL_MODE 0) = true ∧ n.val = s.primary
    let k1 := s.spanFrom n nxt
    Does (.edgeFilterExpiry t n) s (fun s' =>
      let i := s'.cycleIndex n nxt
      let before := (s.sync n = ssCrankSync ∨ s.sync n = ssPhased) ∧ n.val = s.primary
      (s.trk n ≠ ssPhased ∨ s'.trk n = ssPhased) → ∃ u, (s'.wp n).own = some u
        ∧ u.tidx = i ∧ u.src = n.val ∧ u.time = t0 ∧ u.angle = s.angleOf n i ∧ u.nspan = k1 ∧ u.ins = false ∧ u.mark = false
        ∧ u.dang = (s.angleOf n ((i + k1) % s.ncyc n) - s.angleOf n i).toNat
        ∧ (¬ expert → u.mode = false ∧ u.period = satU 32 (m * k1) ∧ u.slope = 0)
        ∧ (before → (s'.sync n = ssCrankSync ∨ s'.sync n = ssPhased) → (s'.wf 0).formed = (s.wf 0).formed ++ [u]
          ∧ (s'.wf 0).stepDue = false ∧ (s'.wf 0).switched = false ∧ (u.half = true ↔ s'.sync n = ssCrankSync)
          ∧ (s.sync n = ssPhased → u.step = ((s.wf 0).stepDue || (s.wf 0).switched)))
        ∧ (expert → nxt ≠ 0 →
          let nc := s.ncyc n
          let tau : Rat := (m : Rat) * q28 / s.weight n p 1 false
          let slow := s.slower n tau.num tau.den (10 * s.get (Reg.WFT_CTRL_FP_MIN 0))
          let b0 : Rat := match (s.wf 0).bhat with
            | some b => (b : Rat) / 65536
            | none => tau
          let v0 : Rat := if (s.wf 0).bhat.isSome then ((s.wf 0).vhat : Rat) / 65536 else 0
          let e := tau / (1 + s.profile n ((i + nc - 1 % nc) % nc) 1 slow / q28) - b0
          let b : Rat := (fix16 (b0 + e / 2 ^ s.get (Reg.WFT_CTRL_A_SH 0)) : Rat) / 65536
          let v : Rat := (fix16 (v0 + e / 2 ^ s.get (Reg.WFT_CTRL_B_SH 0)) : Rat) / 65536
          let w1 : Rat := (s.weight n nxt k1 false : Rat) / q28
          let f1 := 1 + s.profile n i k1 slow / q28
          let f2 := 1 + s.profile n ((i + k1) % nc) (s.spanFrom n (s.posAfter n nxt k1)) slow / q28
          u.mode = true ∧ u.period = satUI 32 (roundUp (w1 * (b + v) * f1))
            ∧ u.slope = satS 32 (roundUp (w1 * ((b + 2 * v) * f2 - tau) / 2)))))
  ∧ (∀ (t : Word) (n : Fin 2) (s : State),
    let w := s.wf n
    let fed := s.get (Reg.WRP_SYNC_STATE s.primary)
    let alive := if n.val = 0 then fed = ssCrankSync ∨ fed = ssPhased else fed = ssLimp ∨ fed = ssBorrowed
    let done := if w.issued.any s.unacknowledged then w.issuedPrev else w.issued
    (∀ u, w.last = some u → alive → u.mode = false → w.held = false → w.formed = [] → u.period ≤ elapsed u.time t →
      (∀ k, s.edgeWarp n = some k → (s.wp k).pend = none) → Does (.microtickHold t n) s (fun s' => s'.wf n = { w with held := true }
        ∧ s'.get (Reg.WFT_CNT_HOLDS n) = min (s.get (Reg.WFT_CNT_HOLDS n) + 1) (Reg.WFT_CNT_HOLDS n).max))
    ∧ (w.held = true ∨ w.last = none ∨ ¬ alive → Idles (.microtickHold t n) s t)
    ∧ (∀ u, done = some u → Does (.wftUpdRead t n) s (fun s' => s'.wf n = w
      ∧ s'.reg (Reg.WFT_UPD0_addr n + 1) = u.time ∧ s'.reg (Reg.WFT_UPD0_addr n + 2) = u.angle
      ∧ ∀ k, s'.reg (Reg.WFT_UPD0_addr n + k) = if k < 6 then u.words.getD k 0 else s.reg (Reg.WFT_UPD0_addr n + k)))
    ∧ (done = none → Idles (.wftUpdRead t n) s t)
    ∧ Does (.wftSnapRead t n) s (fun s' =>
      s'.reg (Reg.WFT_SNAPT_addr n) = (if s.delivering = n.val then t else 0)
        ∧ s'.reg (Reg.WFT_SNAPA_addr n) = (if s.delivering ≠ n.val then 0
          else if w.last.isSome then (s.at t).angleAt n t else Config.freeWord s.fresh)
        ∧ ∀ a, a ≠ Reg.WFT_SNAPT_addr n → a ≠ Reg.WFT_SNAPA_addr n → s'.reg a = s.reg a))

/-! ### Measurement front end -/

/-- The triggers of a sequencer: GO, its period, and the tokens of the Shuttle that SRC_SHT names, each in its own TRIG. A trigger
waits in the free pending slot; a token of another Shuttle is discarded and counted. EN starts and stops the
period, whose instants trigger passes while TRIG is TIMER; a write to a
sequencer that the weave does not instantiate is refused. That a trigger arrives at its time word and that an opening waits for a window
to be finalised are the model's readings (log entries 54 and 55). -/
def Obligations.SequencerTriggers : Prop :=
  ∀ (t : Word) (k : Fin 16) (s : State),
    let q := s.sq k
    let waits := fun (at_ : Word) (s' : State) => (s'.sq k).pend = some { t := at_, at_ := t } ∧ (s'.sq k).run = q.run
      ∧ s'.get (Reg.SEQ_STAT_PEND k) = 1
    let ready := s.seqOn k = true ∧ q.pend = none
    let popped := fun (s' : State) => vget s'.seqTok k = (vget s.seqTok k).tail
    (s.trigOf k = tgHost →
      (ready → Does (.seqGo t k) s (waits t))
        ∧ (s.seqOn k = true → q.pend.isSome = true → Does (.seqGo t k) s (fun s' => s'.sq k = q
          ∧ s'.get (Reg.SEQ_CNT0_OVERRUN k) = min (s.get (Reg.SEQ_CNT0_OVERRUN k) + 1) (Reg.SEQ_CNT0_OVERRUN k).max)))
    ∧ (s.hasTile 6 k = true → s.trigOf k ≠ tgHost ∨ s.seqOn k = false → Idles (.seqGo t k) s t)
    ∧ (s.hasTile 6 k = false → Refused (.seqGo t k) s ∧ ∀ en, Refused (.seqEn t k en) s)
    ∧ (∀ en, s.hasTile 6 k = true → s.is (Reg.SEQ_CTRL_EN k) ≠ en → Does (.seqEn t k en) s (fun s' =>
      let timer := if en = true then some (addW t (s.get (Reg.SEQ_TIMER_PER k) * us)) else none
      s'.is (Reg.SEQ_CTRL_EN k) = en ∧ s'.sq k = { q with timer := timer }))
    ∧ (∀ en, s.hasTile 6 k = true → s.is (Reg.SEQ_CTRL_EN k) = en → Idles (.seqEn t k en) s t)
    ∧ (q.timer = none → Idles (.seqTimer t k) s t)
    ∧ (∀ p, q.timer = some p →
      (notBefore t p = true → Does (.seqTimer t k) s (fun s' =>
          (s'.sq k).timer = some (addW p (s.get (Reg.SEQ_TIMER_PER k) * us)) ∧ (s.trigOf k = tgTimer → ready → waits p s')
            ∧ (s.trigOf k ≠ tgTimer → (s'.sq k).pend = q.pend ∧ s'.regs = s.regs)))
        ∧ (notBefore t p = false → Idles (.seqTimer t k) s t))
    ∧ (∀ n at_ l, vget s.seqTok k = .opening n at_ :: l → s.srcOk k n = true →
      (s.trigOf k = tgGate → ready → Does (.seqGateOpen t k) s (fun s' => popped s' ∧ waits at_ s'))
        ∧ (s.trigOf k = tgGrid → q.closing = none → s.seqOn k = true → q.pack = [] → Does (.seqGateOpen t k) s (fun s' =>
          popped s' ∧ s'.get (Reg.SEQ_STAT_WIN k) = 1 ∧ s'.sq k = { q with winStart := s.get (Reg.SEQ_STAT_WPTR k) }))
        ∧ (s.trigOf k = tgGrid → q.closing.isSome = true → Idles (.seqGateOpen t k) s t))
    ∧ (∀ n i at_ l, vget s.seqTok k = .tick n i at_ :: l → s.srcOk k n = true → s.trigOf k = tgGrid →
      s.is (Reg.SEQ_STAT_WIN k) = true → ready → Does (.seqGridTick t k) s (fun s' => popped s' ∧ waits at_ s'))
    ∧ (∀ n i o late inc a l, vget s.seqTok k = .closing n i o late inc a :: l → s.srcOk k n = true → s.trigOf k = tgGrid →
      s.is (Reg.SEQ_STAT_WIN k) = true → Does (.seqGateClose t k) s (fun s' => popped s' ∧ s'.get (Reg.SEQ_STAT_WIN k) = 0
        ∧ s'.sq k = { q with closing := some ⟨i, o, late, inc, s.get Reg.SVC_CYCLE_CYCLE⟩ }))
    ∧ (∀ x l, vget s.seqTok k = x :: l →
      let other := fun (n : Nat) (s' : State) => s.srcOk k n = false → popped s' ∧ s'.sq k = q
        ∧ s'.get (Reg.SEQ_CNT1_SRC_ERR k) = min (s.get (Reg.SEQ_CNT1_SRC_ERR k) + 1) (Reg.SEQ_CNT1_SRC_ERR k).max
      (∀ n a, x = .opening n a → Does (.seqGateOpen t k) s (other n))
        ∧ (∀ n i a, x = .tick n i a → Does (.seqGridTick t k) s (other n))
        ∧ (∀ n i o la inc a, x = .closing n i o la inc a → Does (.seqGateClose t k) s (other n)))
    ∧ (vget s.seqTok k = [] → Idles (.seqGateOpen t k) s t ∧ Idles (.seqGridTick t k) s t ∧ Idles (.seqGateClose t k) s t)

/-- A pass. A free slot starts the pass that its triggers ask for first. Its input is sampled on a 5 ns edge at or after its
instant, on a slice that the weave instantiates; 375 ns later the result stands in the input's register and the pass goes on.
The pass that is done ends, and a closed window is finalised once nothing runs or waits. Without the converter's power or clock
a request completes with DOMAIN_OFF, and its sample's place takes a free value (the model's reading, log entry 57). A pass on a
slice that the weave does not instantiate waits (log entry 110). Of the TEMP input, 43, the command carries the die's
temperature in thousandths of a degree (R696, log entry 170). A half rounds either way (log entry 10). -/
def Obligations.SequencerPasses : Prop :=
  ∀ (t : Word) (s : State),
    (∀ (l : Fin 8) (k : Nat) (g : Trig), s.switching l = false → (s.seqsOf l).all (fun j => !(s.sq j).holds) = true →
      s.slotWinner l = some (k, g) → Does (.passStart t l) s (fun s' => (s'.sq k).pend = none
        ∧ (s'.sq k).run = some { next := some g.t, slipped := g.slip } ∧ s'.get (Reg.SEQ_STAT_RUN k) = 1))
    ∧ (∀ l : Fin 8, s.slotWinner l = none ∨ s.switching l = true ∨ (s.seqsOf l).any (fun j => (s.sq j).holds) = true → Idles (.passStart t l) s t)
    ∧ ∀ k : Fin 16,
      let q := s.sq k
      let l := s.slotOf k
      (∀ p nx, q.run = some p → p.next = some nx →
          (t.toNat % 8 = 0 → s.anaUp = true → notBefore t nx = true → s.switching l = false → s.hasTile 7 (s.sliceOf l) = true →
            (vget s.slices (s.sliceOf l)).all (fun a => decide (640 ≤ elapsed a t)) = true →
              Does (.conversionSample t k) s (fun s' => (∃ c, (s'.sq k).conv = some c ∧ c.at_ = t ∧ c.slice = s.sliceOf l
                ∧ c.input = s.get (Reg.SEQ_ENT_INPUT k p.entry))
                ∧ ∃ p', (s'.sq k).run = some p' ∧ p'.next = none ∧ p'.entry = p.entry ∧ p'.step = p.step))
            ∧ (s.anaUp = false → notBefore t nx = true → s.switching l = false → s.hasTile 7 (s.sliceOf l) = true →
              Does (.conversionSample t k) s (fun s' => (s'.sq k).conv = none
                ∧ (s'.sq k).run = some (s.entryDone k p (addW t 640))))
            ∧ ((s.anaUp = true ∧ t.toNat % 8 ≠ 0) ∨ notBefore t nx = false ∨ s.switching l = true
              ∨ s.hasTile 7 (s.sliceOf l) = false → Idles (.conversionSample t k) s t))
        ∧ (q.run = none → Idles (.conversionSample t k) s t ∧ Idles (.openWireSettle t k) s t
          ∧ ∀ raw, Idles (.conversionComplete t k raw) s t)
        ∧ (∀ p c raw, q.run = some p → q.conv = some c →
          (s.anaUp = false → Does (.conversionComplete t k raw) s (fun s' => (s'.sq k).conv = none
            ∧ (s'.sq k).run = some (s.entryDone k p (addW c.at_ 640))))
          ∧ (600 ≤ elapsed c.at_ t → s.anaUp = true → c.input < 46 →
            let r := s.result c.slice c.input (s.is (Reg.SEQ_ENT_RAW k p.entry)) raw
            (c.input = 43 → r.1 = clampI (-32767) 32767 (nearestOpen (-13107 + 65536 / 1000 * ((raw : Rat) / 1000 - 25))))
              ∧ Does (.conversionComplete t k raw) s (fun s' => (s'.sq k).conv = none
              ∧ (s.owRuns k p.entry = false → s'.reg (Reg.ADC_IN_addr c.input) = taggedWord r.1 r.2 c
                ∧ (s'.sq k).run = some (s.entryDone k p (addW c.at_ 640)))
              ∧ (s.owRuns k p.entry = true → p.step = 0 → (s'.sq k).run = some { p with a := r.1, step := 1, settle := some t })
              ∧ (s.owRuns k p.entry = true → p.step = 1 →
                (s'.sq k).run = some { p with bPos := r.1, step := 2, settle := some t })
              ∧ (s.owRuns k p.entry = true → p.step = 2 → c.input < 40 → s'.get (Reg.ADC_OW_VERDICT c.input)
                = owVerdict (s.get Reg.ADC_OWTH_OW_TH) p.a p.bPos r.1)))
            ∧ (s.anaUp = true → elapsed c.at_ t < 600 → Idles (.conversionComplete t k raw) s t))
        ∧ (∀ p a, q.run = some p → p.settle = some a →
          (s.get (Reg.SEQ_CFG_OW_SET k) * us ≤ elapsed a t → s.switching l = false → (s.at t).slotQuiet l 640 (some k.val) = true →
            Does (.openWireSettle t k) s (fun s' => s'.regs = s.regs ∧ (s'.sq k).run =
              some (if p.step = 3 then s.entryDone k p t else { p with settle := none, next := some t })))
            ∧ (elapsed a t < s.get (Reg.SEQ_CFG_OW_SET k) * us ∨ s.switching l = true
              ∨ (s.at t).slotQuiet l 640 (some k.val) = false → Idles (.openWireSettle t k) s t))
        ∧ (q.run.any (·.done) = true → Does (.passEnd t k) s (fun s' => (s'.sq k).run = none ∧ (s'.sq k).fillsRun = 0
          ∧ (q.fillsRun = 0 → s'.get (Reg.SEQ_STAT_PASSES k) = (s.get (Reg.SEQ_STAT_PASSES k) + 1) % 2 ^ 28)))
        ∧ (q.run = none → Idles (.passEnd t k) s t)
        ∧ (∀ c, q.closing = some c → q.run = none → q.pend = none → q.pack = [] → Does (.windowFinalise t k) s (fun s' =>
          s'.sq k = { q with closing := none }
            ∧ s'.get (Reg.SEQ_WIN_TICKS k) = c.issued % 2 ^ 16 ∧ s'.get (Reg.SEQ_WIN_START k) = q.winStart % 2 ^ 17
            ∧ s'.is (Reg.SEQ_WIN_LATE k) = c.late ∧ s'.is (Reg.SEQ_WIN_INCOMPLETE k) = c.incomplete))
        ∧ (q.closing = none ∨ q.run.isSome = true ∨ q.pend.isSome = true → Idles (.windowFinalise t k) s t)

/-- The spare rotation: it starts when its period has passed, switches a quiet slot to the spare within ROT_WAIT or is given up,
relieves the slice 1 µs later, and ends after 600 µs with the slice's offset, gain and verdict. A spare that was never
calibrated counts as good (the model's reading, log entry 107), and without the converter's clock or power its sums are free
values (log entry 57). Window monitors and period timers. An enabled monitor whose output does not hold compares its input at
each change of it and at the end of blanking, and its class follows outside blanking; a latch is cleared in the window and
renewed outside it. A period timer starts high and alternates. One monitor is tested at a time, each once in ST_PER, and a test
that fails sets STF and tells Headland. The fifth supply monitor's test runs in mode M, and its own mode L comes back at its end
(Tables 8.12 and 8.14). An output holds while its mode changes (log entry 139). A half rounds either way (log entry 10). -/
def Obligations.RotationMonitorsAndTimers : Prop :=
  (∀ (t : Word) (s : State),
    let st := s.get Reg.ADC_CALST_STATE
    let l := s.get Reg.ADC_CALST_SLOT
    let wait := s.get Reg.ADC_CTRL_ROT_WAIT * ms
    (s.is Reg.ADC_CTRL_CAL_EN = true → st = 0 → s.get Reg.ADC_CTRL_CAL_PER * ms ≤ elapsed s.rot.start t →
      Does (.rotationStart t) s (fun s' => s'.get Reg.ADC_CALST_STATE = 1 ∧ s'.get Reg.ADC_CALST_SLOT = s.rot.next % 8
        ∧ s'.rot = { s.rot with start := t, next := (s.rot.next + 1) % 8 }))
    ∧ (st ≠ 0 ∨ s.is Reg.ADC_CTRL_CAL_EN = false ∨ elapsed s.rot.start t < s.get Reg.ADC_CTRL_CAL_PER * ms →
      Idles (.rotationStart t) s t)
    ∧ (st = 1 → elapsed s.rot.start t < wait → s.hasTile 7 (s.get Reg.ADC_MAP_SPARE) = true → s.get (Reg.ADC_SL_CST (s.get Reg.ADC_MAP_SPARE)) ≠ 2 → s.slotIdle l = true →
      (s.at t).slotQuiet l us none = true → Does (.sliceSwitchStart t) s (fun s' => s'.get Reg.ADC_CALST_STATE = 2
        ∧ s'.rot = { s.rot with mark := t }))
    ∧ (st ≠ 1 → Idles (.sliceSwitchStart t) s t ∧ Idles (.rotationAbandon t) s t)
    ∧ (st = 2 → us ≤ elapsed s.rot.mark t → Does (.sliceSwitchEnd t) s (fun s' => s'.get Reg.ADC_CALST_STATE = 3
      ∧ s'.sliceOf l = s.get Reg.ADC_MAP_SPARE ∧ s'.get Reg.ADC_MAP_SPARE = s.sliceOf l
      ∧ s'.get Reg.ADC_CALST_SLICE = s.sliceOf l ∧ ∀ j : Fin 8, j.val ≠ l → s'.sliceOf j = s.sliceOf j))
    ∧ (st ≠ 2 ∨ elapsed s.rot.mark t < us → Idles (.sliceSwitchEnd t) s t)
    ∧ (st = 1 → wait ≤ elapsed s.rot.start t → Does (.rotationAbandon t) s (fun s' => s'.get Reg.ADC_CALST_STATE = 0
      ∧ s'.get Reg.ADC_CALST_ROT_SKIP = min (s.get Reg.ADC_CALST_ROT_SKIP + 1) Reg.ADC_CALST_ROT_SKIP.max))
    ∧ (∀ agnd refp refn : Int, st = 3 → 600 * us ≤ elapsed s.rot.mark t →
      let judges := fun (agnd refp refn : Int) (s' : State) =>
        let p := s.get Reg.ADC_CALST_SLICE
        let o := nearestOpen ((agnd : Rat) / 64)
        let g := nearestOpen (16384 * 52429 / (((refp - refn : Int) : Rat) / 64))
        let ok := -512 ≤ o ∧ o < 512 ∧ 16128 ≤ g ∧ g < 16640
        s'.getI (Reg.ADC_SL_OFS p) = satS 16 o ∧ s'.get (Reg.ADC_SL_GAIN p) = satUI 16 g
          ∧ (ok → s'.get (Reg.ADC_SL_CST p) = 1 ∧ s'.get Reg.ADC_CALST_STATE = 0 ∧ s'.causes = s.causes)
          ∧ (¬ ok → s'.get (Reg.ADC_SL_CST p) = 2 ∧ s'.get Reg.ADC_CALST_STATE = 4 ∧ s'.causes = s.causes ++ [(21, p)])
      let open_ := fun (k : Nat) => (Config.freeWord (s.fresh + k)).toInt
      (s.anaUp = true → refp ≠ refn → Does (.spareCalVerdict t agnd refp refn) s (judges agnd refp refn))
        ∧ (s.anaUp = false → Does (.spareCalVerdict t agnd refp refn) s (fun s' =>
          open_ 1 ≠ open_ 2 → judges (open_ 0) (open_ 1) (open_ 2) s')))
    ∧ (∀ a b c, st ≠ 3 ∨ elapsed s.rot.mark t < 600 * us → Idles (.spareCalVerdict t a b c) s t))
  ∧ (∀ (t : Word) (s : State),
    (∀ (m : Fin 8) (mv : Fin 65536),
      let k := s.wm m
      let lo := crossing true k.lo (5 * s.get (Reg.WM_TH_LO m)) (5 * s.get (Reg.WM_TH_HYS m)) mv k.v
      let hi := crossing false k.hi (5 * s.get (Reg.WM_TH_HI m)) (5 * s.get (Reg.WM_TH_HYS m)) mv k.v
      let sees := fun (c : Instr) =>
        (s.is (Reg.WM_CFG_EN m) = true → (s.at t).wmHeld m = false → Does c s (fun s' =>
            (s'.wm m).lo = lo.1 ∧ (s'.wm m).hi = hi.1 ∧ (s'.wm m).v = some mv.val
              ∧ ((s.at t).wmBlanked m = true → s'.get (Reg.WM_STAT_CLASS m) = s.get (Reg.WM_STAT_CLASS m))
              ∧ ((s.at t).wmBlanked m = false → s'.get (Reg.WM_STAT_CLASS m) = (s'.wm m).cls)))
          ∧ (s.is (Reg.WM_CFG_EN m) = false ∨ (s.at t).wmHeld m = true → Does c s (fun s' =>
            s'.regs = s.regs ∧ s'.wm m = { k with v := some mv.val }))
      sees (.windowCrossing t m mv) ∧ (k.v = some mv.val → sees (.wmBlankEnd t m)) ∧ (k.v = none → Idles (.wmBlankEnd t m) s t)
        ∧ (s.is (Reg.WM_STAT_LATCHED m) = true → k.latchAt ≠ some t → Does (.wmLatchClear t m) s (fun s' =>
          s'.get (Reg.WM_STAT_LATCHED m) = (if s.get (Reg.WM_STAT_CLASS m) = 0 then 0 else 1)
            ∧ (s.get (Reg.WM_STAT_CLASS m) ≠ 0 → s'.get (Reg.WM_STAT_LCLASS m) = s.get (Reg.WM_STAT_CLASS m))
            ∧ ∀ a, a ≠ Reg.WM_STAT_addr m → s'.reg a = s.reg a))
        ∧ (s.is (Reg.WM_STAT_LATCHED m) = false ∨ k.latchAt = some t → Idles (.wmLatchClear t m) s t))
    ∧ (∀ p : Fin 4,
      let k := vget s.ptimers p
      let high := 160 * s.get (Reg.PT_CFG_HIGH p)
      (s.is (Reg.PT_CFG_EN p) = false → Does (.ptEnable t p) s (fun s' => s'.get (Reg.PT_CFG_EN p) = 1
          ∧ vget s'.ptimers p = { k with high := true, edge := some (addW t high) }))
        ∧ (s.is (Reg.PT_CFG_EN p) = true → Idles (.ptEnable t p) s t)
        ∧ (∀ e, k.edge = some e →
          (notBefore t e = true → Does (.periodTimerEdge t p) s (fun s' => vget s'.ptimers p =
              if k.high then { high := false, edge := some (addW e (160 * (s.get (Reg.PT_CFG_PER p) - s.get (Reg.PT_CFG_HIGH p))))
                               sigEnd := some e }
              else { k with high := true, edge := some (addW e high) }))
            ∧ (notBefore t e = false → Idles (.periodTimerEdge t p) s t)))
    ∧ (s.monTest.run = none →
      let past := decide (s.get Reg.CMP_CTRL_ST_PER * ms ≤ elapsed s.monTest.period t)
      let from_ := if past then 0 else s.monTest.next
      let period := if past then t else s.monTest.period
      (∀ i < 14, from_ ≤ i → s.monEnabled i = true → (∀ j < i, from_ ≤ j → s.monEnabled j = false) →
          Does (.monitorSelftest t) s (fun s' =>
            s'.monTest = { period := period, next := i + 1, run := some (i, t) }
              ∧ (i = 13 → s'.get (Reg.SM_STAT_MODE 5) = mdM) ∧ (i ≠ 13 → s'.regs = s.regs)))
        ∧ ((∀ i < 14, from_ ≤ i → s.monEnabled i = false) → Does (.monitorSelftest t) s (fun s' =>
          s'.monTest = { period := period, next := 14, run := none } ∧ s'.regs = s.regs)))
    ∧ (s.monTest.run.isSome = true → Idles (.monitorSelftest t) s t)
    ∧ (∀ (low high : Fin 16) (i : Nat) (a : Word), s.monTest.run = some (i, a) →
      (8 ≤ i → i < 14 → 3840 ≤ elapsed a t → Does (.monitorSelftestDone t low high) s (fun s' => s'.monTest.run = none
          ∧ (i = 13 → s'.get (Reg.SM_STAT_MODE 5) = mdL)
          ∧ (low.val = 5 → s'.get (Reg.SM_STAT_STF (i - 8)) = s.get (Reg.SM_STAT_STF (i - 8)) ∧ s'.causes = s.causes)
          ∧ (low.val ≠ 5 → s'.get (Reg.SM_STAT_STF (i - 8)) = 1 ∧ s'.causes = s.causes ++ [(20, i - 8)])))
        ∧ (i < 8 → 6400 ≤ elapsed a t → Does (.monitorSelftestDone t low high) s (fun s' => s'.monTest.run = none
          ∧ (low.val = 5 → high.val = 10 → s'.get (Reg.WM_STAT_STF i) = s.get (Reg.WM_STAT_STF i))
          ∧ (¬ (low.val = 5 ∧ high.val = 10) → s'.get (Reg.WM_STAT_STF i) = 1 ∧ (20, i) ∈ s'.causes)))
        ∧ (elapsed a t < (if i < 8 then 6400 else 3840) → Idles (.monitorSelftestDone t low high) s t))
    ∧ (s.monTest.run = none → ∀ low high, Idles (.monitorSelftestDone t low high) s t))

/-! ### Combustion analysis and engine services -/

/-- A signal starts the analysis of its tile, waits behind a running one, or is discarded and counted; a tile that is off takes
none. The commit of a record writes word 0 of its ring slot, hands the record to the trim tile and starts the waiting one. -/
def Obligations.CombustionRecords : Prop :=
  ∀ (t : Word) (j : Fin 24) (s : State),
    let k := s.cmb j
    (∀ x, s.cmbSig.find? (fun x => decide (x.1 = j.val)) = some x →
      let taken := fun (s' : State) => s'.cmbSig = s.cmbSig.erase x
      (s.cmbOn j = true → k.run = none → Does (.analysisStart t j) s (fun s' => taken s' ∧ s'.regs = s.regs
          ∧ s'.cmb j = { k with run := some (x.2, s.pinNow 3), pend := none }))
        ∧ (s.cmbOn j = true → k.run.isSome = true → k.pend = none → Does (.analysisStart t j) s (fun s' => taken s'
          ∧ s'.regs = s.regs ∧ s'.cmb j = { k with pend := some x.2 }))
        ∧ (s.cmbOn j = true → k.run.isSome = true → k.pend.isSome = true → Does (.analysisStart t j) s (fun s' => taken s'
          ∧ s'.cmb j = k
          ∧ s'.get (Reg.CMB_STAT_OVERRUN j) = min (s.get (Reg.CMB_STAT_OVERRUN j) + 1) (Reg.CMB_STAT_OVERRUN j).max))
        ∧ (s.cmbOn j = false → Does (.analysisStart t j) s (fun s' => taken s' ∧ s'.cmb j = k ∧ s'.regs = s.regs)))
    ∧ (s.cmbSig.find? (fun x => decide (x.1 = j.val)) = none → Idles (.analysisStart t j) s t)
    ∧ (∀ w pman, k.run = some (w, pman) → k.ring < 8 →
      let r := ((s.at t).analyse j w pman).1
      let valid := decide (fgValid ≤ r.flags)
      Does (.recordCommit t j) s (fun s' =>
        s'.workGet (0x4800 + 128 * j + 16 * k.ring) = BitVec.ofNat 48 (j * 2 ^ 40 + r.flags * 2 ^ 32 + w.cycle % 2 ^ 32)
          ∧ (s'.cmb j).ring = (k.ring + 1) % 8 ∧ (s'.cmb j).pend = none
          ∧ (k.pend = none → (s'.cmb j).run = none) ∧ (∀ w', k.pend = some w' → ∃ q, (s'.cmb j).run = some (w', q))
          ∧ (∃ c : Commit, s'.trimDue = s.trimDue ++ [c] ∧ c.cyl = j.val ∧ c.valid = valid ∧ c.cycle = w.cycle % 2 ^ 32)))
    ∧ (k.run = none → Idles (.recordCommit t j) s t)

/-- The demand pages and the lists built from them. A swap takes the other page and makes it valid and fresh; a page as old as
DEM_TMO cycles is stale, which is reported. A list that falls due for a Shuttle that the service tiles write is built once and offered
to it, or skipped and counted while the Shuttle has not taken the last one. That a build falls due once is the model's reading (log
entry 64). -/
def Obligations.DemandAndLists : Prop :=
  ∀ (t : Word) (s : State),
    Does (.demandSwap t) s (fun s' => s'.get Reg.SVC_DEM_PAGE = 1 - s.get Reg.SVC_DEM_PAGE ∧ s'.get Reg.SVC_DEM_VALID = 1
      ∧ s'.get Reg.SVC_DEM_DEM_STALE = 0 ∧ s'.svc.sinceSwap = some 0
      ∧ s'.get Reg.SVC_DEM_DEM_TMO = s.get Reg.SVC_DEM_DEM_TMO ∧ ∀ a, a ≠ Reg.SVC_DEM_addr → s'.reg a = s.reg a)
    ∧ (∀ age, s.svc.sinceSwap = some age → s.get Reg.SVC_DEM_DEM_TMO ≠ 0 → s.is Reg.SVC_DEM_DEM_STALE = false →
      (s.get Reg.SVC_DEM_DEM_TMO ≤ age → Does (.demandTimeout t) s (fun s' => s'.get Reg.SVC_DEM_DEM_STALE = 1
          ∧ s'.reports = s.reports ++ [⟨9, 0, 2, s.get Reg.SVC_CYCLE_CYCLE, some t⟩]
          ∧ ∀ x, x ≠ Reg.SVC_DEM_addr → s'.reg x = s.reg x))
        ∧ (age < s.get Reg.SVC_DEM_DEM_TMO → Idles (.demandTimeout t) s t))
    ∧ (s.get Reg.SVC_DEM_DEM_TMO = 0 ∨ s.svc.sinceSwap = none ∨ s.is Reg.SVC_DEM_DEM_STALE = true → Idles (.demandTimeout t) s t)
    ∧ (∀ (q : Fin 2) (k : Fin 24),
      let m := vget s.maps (24 * q + k)
      let n := s.get (Reg.QM_CYL_SHT q k)
      let on := s.hasTile 9 q && s.is (Reg.QM_CFG_EN q) && !s.is (Reg.QM_CFG_TABERR q) && s.is (Reg.QM_CYL_EN q k)
        && s.is (Reg.SHT_CFG_WRITER n)
      let built := fun (s' : State) => vget s'.maps (24 * q + k) = { m with built := true, due := false }
      let may := (s.at t).buildPage.2.1 = true ∧ (s.sync s.primary = ssPhased ∨ s.sync s.primary = ssBorrowed
        ∨ s.sync s.primary = ssLimp)
      (m.due = true → Does (.listBuild t q k) s (fun s' => built s' ∧ (on = false → s'.regs = s.regs ∧ s'.work = s.work)))
        ∧ (m.due = true → on = true → s.is (Reg.SHT_CTRL_READY n) = true → Does (.listBuild t q k) s (fun s' =>
          s'.work = s.work
            ∧ s'.get (Reg.QM_STAT_BUILD_SKIP q) = min (s.get (Reg.QM_STAT_BUILD_SKIP q) + 1) (Reg.QM_STAT_BUILD_SKIP q).max))
        ∧ (m.due = true → on = true → s.is (Reg.SHT_CTRL_READY n) = false → may → Does (.listBuild t q k) s (fun s' =>
          s'.get (Reg.SHT_CTRL_READY n) = 1 ∧ (s'.sh n).readyAt = some t
            ∧ s'.get (Reg.QM_STAT_BUILDS q) = min (s.get (Reg.QM_STAT_BUILDS q) + 1) (Reg.QM_STAT_BUILDS q).max))
        ∧ (m.due = false → Idles (.listBuild t q k) s t))

/-- Trims and drift take what waits for them, oldest first. A VALID record ends its cylinder's run of invalid ones, and in PHASED or
BORROWED counts as an update; without the trim tile nothing is trimmed. A closure that is long enough moves the filtered closing
delay of its cylinder by its share of the difference. An open rounding goes either way (log entry 10). -/
def Obligations.TrimsAndDrift : Prop :=
  ∀ (t : Word) (s : State),
    (∀ c rest, s.trimDue = c :: rest → Does (.trimUpdate t) s (fun s' => s'.trimDue = rest
      ∧ (s.hasTile 0x0A 0 = false → s'.regs = s.regs ∧ s'.work = s.work)
      ∧ (s.hasTile 0x0A 0 = true → c.valid = true → c.cyl < 24 → s'.cyl c.cyl 1 cyInv = 0
        ∧ (s'.get Reg.TRM_STAT_LOST).testBit c.cyl = false
        ∧ s'.get Reg.TRM_STAT_UPDATES = if c.phased then (s.get Reg.TRM_STAT_UPDATES + 1) % 2 ^ 24
            else s.get Reg.TRM_STAT_UPDATES)
      ∧ (s.hasTile 0x0A 0 = true → c.valid = false → c.cyl < 24 → s'.cyl c.cyl 1 cyInv = min (s.cyl c.cyl 1 cyInv + 1) 255
        ∧ (s.get Reg.TRM_CTRL_INV_HOLD ≤ s.cyl c.cyl 1 cyInv + 1 → s.cyl c.cyl 1 cyInv < 255 →
          (s'.get Reg.TRM_STAT_LOST).testBit c.cyl = true))))
    ∧ (s.trimDue = [] → Idles (.trimUpdate t) s t)
    ∧ (∀ c rest, s.closures = c :: rest → Does (.driftUpdate t) s (fun s' => s'.closures = rest
      ∧ (c.drift = none → s'.regs = s.regs ∧ s'.work = s.work)
      ∧ ∀ q : Fin 2, c.drift = some q.val → ∀ k : Fin 24, s.cylOf q c.bank c.ch = some k.val →
        s.get (Reg.QM_DR_DR_DMIN q) * us ≤ elapsed c.tStart c.tStop →
          let f := (s.cyl k (3 + 2 * q) cyCdF : Int)
          let cd := (elapsed c.tStop c.at_ : Int)
          (s'.cyl k (3 + 2 * q) cyCdF : Int)
            = satUI 48 (f + openRound ((cd * 65536 - f : Rat) / 2 ^ s.get (Reg.QM_DR_DR_SH q)))))
    ∧ (s.closures = [] → Idles (.driftUpdate t) s t)

/-- The rail-pressure loop. With PIN0 alone valid p_meas is its value and a step limits u to [IMIN, IMAX]; p_set moves to RP_SET by
at most RAMP each millisecond. A deviation of the pins for 10 ms sets DISAGREE, an overpressure for 10 ms OVP, and an input is
valid with a source that has delivered within 5 ms, no bad open-wire verdict and a value in its range. An open rounding goes
either way (log entry 10). The overspeed tile forms a speed from two updates of one source. The cut is set at CUT and cleared
below CUT by more than HYST; Headland hears of a speed that reaches TRIP. It hears of one stay at or above TRIP once (the
model's reading, log entry 65). -/
def Obligations.RailPressureAndOverspeed : Prop :=
  (∀ (t : Word) (s : State),
    let p := s.rail.pset
    let goal := s.get Reg.RP_SET_RP_SET
    let ramp := s.get Reg.RP_SET_RAMP
    let stepDue := s.get Reg.RP_CFG_RP_PER * 160000 ≤ elapsed s.rail.stepAt t
    (s.railOn = true → ms ≤ elapsed s.rail.rampAt t → Does (.setpointRamp t) s (fun s' => s'.regs = s.regs
      ∧ s'.rail = { s.rail with rampAt := t, pset := if p < goal then min goal (p + ramp) else max goal (p - ramp) }))
    ∧ (s.railOn = false ∨ elapsed s.rail.rampAt t < ms → Idles (.setpointRamp t) s t)
    ∧ (∀ x, s.railOn = true → stepDue → s.pinNow 0 = some x → s.pinNow 1 = none → Does (.railLoopStep t) s (fun s' =>
      let unit : Int := 655360000000
      let e : Int := (p : Int) - satUI 20 x
      let sgn : Int := if s.is Reg.RP_CFG_INV then -1 else 1
      let raw := s.get Reg.RP_OUT_FF * unit + sgn * (s.get Reg.RP_GAIN_KP * e * 10000 + s.rail.iint)
      let u := clampI (s.get Reg.RP_OUT_IMIN * unit) (s.get Reg.RP_OUT_IMAX * unit) raw
      s'.get Reg.RP_STAT_P_MEAS = satUI 20 x ∧ s'.get Reg.RP_STAT_SENSF = 0 ∧ s'.rail.stepAt = t
        ∧ s'.get Reg.RP_STAT_U = satUI 12 (openRound ((u : Rat) / unit))))
    ∧ (s.railOn = true → stepDue → s.pinNow 0 = none → s.pinNow 1 = none → Does (.railLoopStep t) s (fun s' =>
      s'.get Reg.RP_STAT_SENSF = 1 ∧ s'.rail.stepAt = t
        ∧ s'.causes = s.causes ++ if s.is Reg.RP_STAT_SENSF then [] else [(17, 0)]))
    ∧ (s.railOn = false ∨ ¬ stepDue → Idles (.railLoopStep t) s t)
    ∧ (∀ a, s.railOn = true → s.rail.higher = false → s.rail.disSince = some a → 10 * ms ≤ elapsed a t →
      Does (.pinDisagree t) s (fun s' => s'.get Reg.RP_STAT_DISAGREE = 1))
    ∧ (s.rail.disSince.all (fun a => decide (elapsed a t < 10 * ms)) = true ∨ s.rail.higher = true ∨ s.railOn = false → Idles (.pinDisagree t) s t)
    ∧ (∀ a, s.railOn = true → s.rail.ovpTold = false → s.rail.ovpSince = some a → 10 * ms ≤ elapsed a t →
      Does (.railOverpressure t) s (fun s' => s'.get Reg.RP_STAT_OVP = 1 ∧ s'.causes = s.causes ++ [(18, 0)]
        ∧ s'.rail = { s.rail with ovpTold := true }
        ∧ s'.get Reg.RP_STAT_EVENTS = min (s.get Reg.RP_STAT_EVENTS + 1) Reg.RP_STAT_EVENTS.max))
    ∧ (s.rail.ovpSince.all (fun a => decide (elapsed a t < 10 * ms)) = true ∨ s.rail.ovpTold = true ∨ s.railOn = false → Idles (.railOverpressure t) s t)
    ∧ (∀ i : Fin 4,
      let src := s.get (Reg.SVC_PINCFG_SRC i)
      let v := s.getI (Reg.SVC_PINSTAT_VALUE i)
      Does (.pinTimeout t i) s (fun s' => s'.getI (Reg.SVC_PINSTAT_VALUE i) = v
        ∧ (s'.get (Reg.SVC_PINSTAT_VALID i) = 1 ↔ src ≠ 0x3F
          ∧ (vget s.pins i).any (fun a => decide (elapsed a t < 5 * ms)) = true
          ∧ (src < 24 ∨ s.get (Reg.ADC_OW_VERDICT src) ≤ 1)
          ∧ s.get (Reg.SVC_PINCFG_RLO i) ≤ v ∧ v < s.get (Reg.SVC_PINCFG_RHI i))
        ∧ (s.railOn = false → ∀ a, a ≠ Reg.SVC_PINSTAT_addr i → s'.reg a = s.reg a))))
  ∧ ((∀ (t : Word) (s : State), s.ovs.upd = none → Idles (.overspeedUpdate t) s t)
  ∧ ∀ (t : Word) (u o : Update) (s : State), s.ovs.upd = some u →
    let n := s.speedOf o u
    let cut := 4 * s.get Reg.OVS_CFG_CUT
    let fast := decide (4 * s.get Reg.OVS_CFG_TRIP ≤ n)
    (s.ovs.prev = none → Does (.overspeedUpdate t) s (fun s' => s'.regs = s.regs ∧ s'.ovs.prev = some u
      ∧ s'.ovs.upd = none))
    ∧ (s.ovs.prev = some o → u.step = false → (o.src < 2 ↔ u.src < 2) → s.hasTile 0x0C 0 = true → o.time ≠ u.time →
      Does (.overspeedUpdate t) s (fun s' => s'.ovs = { upd := none, prev := some u, trip := fast }
        ∧ s'.get Reg.OVS_STAT_SPEED = n
        ∧ s'.get Reg.OVS_STAT_CUT = (if cut ≤ n then 1 else if n + 4 * s.get Reg.OVS_CFG_HYS < cut then 0
            else s.get Reg.OVS_STAT_CUT)
        ∧ s'.causes = s.causes ++ if fast && !s.ovs.trip then [(9, 0)] else []))
    ∧ (s.ovs.prev = some o →
      u.step = true ∨ ¬ (o.src < 2 ↔ u.src < 2) ∨ s.hasTile 0x0C 0 = false ∨ o.time = u.time → Does (.overspeedUpdate t) s (fun s' => s'.regs = s.regs ∧ s'.causes = s.causes
      ∧ s'.ovs.prev = some u)))

/-! ### Identity -/

/-- The enumeration of a line. ENUM starts it on every line while the Loom is stopped; a line that has stood at 4.0 V and below 3.0
mA for 100 µs within the first millisecond is ready, one that has not is faulty. A reset makes the memories listen, the roll
call gives the sites that answered alone, and each is selected and read: an accepted record gives the site's serial and type, a
first failure is tried again. The voltages and currents are operands (log entries 66 and 142). The end of the enumeration, once
every line is done, the weave has loaded and Strandline is ready; and the background roll call, which marks a VALID site that no
longer answers as lost. That it waits for the load and for Strandline is the model's reading (log entry 69). -/
def Obligations.Enumeration : Prop :=
  (∀ (t : Word) (s : State),
    (s.running = false → s.enumStart = none → Does (.enumIdn t) s (fun s' => s'.enumStart = some t
      ∧ s'.get Reg.IDN_STAT_STATE = 1
      ∧ (∀ l : Fin 14, (s'.line l).phase = .high ∧ (s'.line l).since = t ∧ (s'.line l).results = []
        ∧ s'.get (Reg.IDN_LINE_FAULT l) = 0)
      ∧ ∀ x : Fin 72, s'.get (Reg.IDN_SITE1_STATE x) = 0))
    ∧ (let refused := fun (s' : State) => s'.get Reg.IDN_STAT_CMD_REJ = 1 ∧ s'.enumStart = s.enumStart
        ∧ ∀ a, a ≠ Reg.IDN_STAT_addr → s'.reg a = s.reg a
      (s.running = true ∨ s.enumStart.isSome = true → Does (.enumIdn t) s refused)
        ∧ ∀ code : Fin 16, code.val ≠ 1 → Does (.idnCmdInvalid t code) s refused)
    ∧ ∀ l : Fin 14,
      let k := s.line l
      (∀ mv ua : Nat,
        (k.phase = .high → 4000 ≤ mv → ua < 3000 → 100 * us ≤ elapsed k.since t → elapsed k.since t ≤ ms →
          Does (.selvedgeLineReady t ⟨l, mv, ua⟩) s (fun s' => s'.line l = { k with phase := .ready }
            ∧ s'.get (Reg.IDN_LINE_INIT l) = 0))
        ∧ (mv < 4000 → Idles (.selvedgeLineReady t ⟨l, mv, ua⟩) s t)
        ∧ (4000 ≤ mv → k.phase ≠ .high ∨ 3000 ≤ ua ∨ elapsed k.since t < 100 * us ∨ ms < elapsed k.since t →
          Does (.selvedgeLineReady t ⟨l, mv, ua⟩) s (fun s' => s'.line l = k ∧ s'.get (Reg.IDN_LINE_INIT l) = 0)))
      ∧ (k.phase = .high → ms ≤ elapsed k.since t → Does (.selvedgeLineShort t l) s (fun s' =>
          s'.line l = { k with phase := .done } ∧ s'.get (Reg.IDN_LINE_FAULT l) = 1))
      ∧ (k.phase ≠ .high ∨ elapsed k.since t < ms → Idles (.selvedgeLineShort t l) s t)
      ∧ (k.phase = .ready → Does (.selvedgeReset t l) s (fun s' => s'.line l = { k with phase := .fresh } ∧ s'.regs = s.regs))
      ∧ (k.phase ≠ .ready → Idles (.selvedgeReset t l) s t)
      ∧ (∀ (base : Int) (ua : Vector Int 16), k.phase = .fresh → k.rolled = false →
        let slots := ua.toList.map (slotOf base)
        let alone := (List.range (sitesOf l)).filter (fun i => decide (slots.getD i .zero = .one))
        Does (.rollCall t l base ua) s (fun s' => s'.get (Reg.IDN_LINE_PRESENT l) = presentMask slots
          ∧ (s'.line l).rolled = true
          ∧ (presentMask slots = 0 → (s'.line l).phase = .done ∧ s'.get (Reg.IDN_LINE_FAULT l) = 2)
          ∧ (presentMask slots ≠ 0 → (s'.line l).todo = alone
            ∧ (s'.line l).phase = if alone = [] then .done else .ready)))
      ∧ (∀ base ua, k.phase ≠ .fresh ∨ k.rolled = true → Idles (.rollCall t l base ua) s t)
      ∧ (∀ (base : Int) (i : Nat) (rest : List Nat), k.todo = i :: rest →
        let judged := fun (code : Nat) (s' : State) => (s'.line l).todo = rest ∧ (s'.line l).results = k.results ++ [(i, code)]
        let again := fun (s' : State) => s'.line l = { k with phase := .ready, fails := [0] } ∧ s'.regs = s.regs
        (∀ ua : Vector Int 49, k.phase = .fresh → k.rolled = true →
          let slots := ua.toList.map (slotOf base)
          (slots.contains .collide = true → Does (.selectSite t l base ua) s (judged 6))
            ∧ (slots.contains .collide = false → slots.getD 0 .zero = .one → Does (.selectSite t l base ua) s (fun s' =>
              s'.line l = { k with phase := .selected } ∧ s'.regs = s.regs))
            ∧ (slots.contains .collide = false → slots.getD 0 .zero = .zero → k.fails = [] →
              Does (.selectSite t l base ua) s again))
          ∧ (∀ ua : List Int, k.phase = .selected →
            let slots := ua.map (slotOf base)
            let bs := slotBytes slots
            let x := siteIndex l i
            (slots.contains .collide = false → recordFault bs = none → i < sitesOf l → Does (.selvedgeRead t l base ua) s
                (fun s' => judged 1 s' ∧ s'.get (Reg.IDN_SITE0_SERIAL x) = beNat ((bs.drop 6).take 6)
                  ∧ s'.get (Reg.IDN_SITE1_TYPE x) = bs.getD 3 0))
              ∧ (slots.contains .collide = true → k.fails = [] → Does (.selvedgeRead t l base ua) s again)
              ∧ (∀ kind, slots.contains .collide = false → recordFault bs = some kind → k.fails = [] →
                Does (.selvedgeRead t l base ua) s (fun s' =>
                  s'.line l = { k with phase := .ready, fails := [kind] } ∧ s'.regs = s.regs))))
      ∧ (∀ base ua, k.phase ≠ .fresh ∨ k.rolled = false ∨ k.todo = [] → Idles (.selectSite t l base ua) s t)
      ∧ (∀ base ua, k.phase ≠ .selected → Idles (.selvedgeRead t l base ua) s t))
  ∧ (∀ (t : Word) (s : State),
    (s.enumStart.isSome = true → s.weave.loading = false → (∀ l : Fin 14, (s.line l).phase = .done) →
      (s.hasTile 0x0F 0 = true → s.is Reg.REC_STAT_READY = true) → Does (.enumDone t) s (fun s' => s'.enumStart = none
        ∧ s'.get Reg.IDN_STAT_STATE = 2 ∧ s'.inCal.length = 46 ∧ ∀ l : Fin 14, (s'.line l).phase = .off))
    ∧ (s.enumStart = none ∨ s.weave.loading = true ∨ (∃ l : Fin 14, (s.line l).phase ≠ .done)
      ∨ (s.hasTile 0x0F 0 = true ∧ s.is Reg.REC_STAT_READY = false) → Idles (.enumDone t) s t)
    ∧ ∀ (l : Fin 14) (base : Int) (ua : Vector Int 16),
      let m := presentMask (ua.toList.map (slotOf base))
      let due := s.get Reg.IDN_STAT_RC_PER * (100 * ms) ≤ elapsed (s.line l).rollAt t
      (s.running = true → s.is Reg.IDN_STAT_RC_EN = true → s.enumStart = none →
        (12 ≤ l.val ∨ ∀ a, (s.bk l).commitAt = some a → 200 * us ≤ elapsed a t) → due →
          Does (.backgroundRollCall t l base ua) s (fun s' => s'.get (Reg.IDN_LINE_PRESENT l) = m ∧ (s'.line l).rollAt = t
            ∧ ∀ i < sitesOf l, s.get (Reg.IDN_SITE1_STATE (siteIndex l i)) = 1 → m.testBit i = false →
              (s'.get (Reg.IDN_LINE_LOST l)).testBit i = true))
      ∧ (s.running = false ∨ s.is Reg.IDN_STAT_RC_EN = false ∨ s.enumStart.isSome = true ∨ ¬ due → Idles (.backgroundRollCall t l base ua) s t))

/-! ### Headland -/

/-- Headland takes its causes. A cause sets its SEEN bit and LAST; a reporting one changes no state; a CUT one takes RUN to CUT and stays
in force until CUT_HOLD after its condition ended, and without one CUT returns to RUN; a SAFE one takes RUN and CUT to SAFE, a HALT one
every state to HALT, with FIRST its code and SAFE_N driven low; a failed self-test keeps START (R671). SAFE is left by a RELEASE whose conditions all hold, START by the passed
self-test and the running Loom. What a cause does in START, that a RELEASE outside SAFE sets CMD_REJ, and how a cut ends
are the model's readings (log entries 58, 94 and 112). -/
def Obligations.HeadlandStates : Prop :=
  ∀ (t : Word) (s : State),
    let toRun := s.saf.startCause = none ∧ s.saf.cuts = [] ∧ s.supply.standby = false
    let level := s.get Reg.SAF_STAT_SAFE_N_LVL
    let low := fun (s' : State) => s'.get Reg.SAF_STAT_SAFE_N_LVL = if s.safeNDrive then 0 else level
    let inRun := fun (s' : State) => s'.hs = hsRun ∧ s'.get Reg.SAF_STAT_SAFE_N_LVL = (if s.safeNDrive then level else 1)
      ∧ s'.saf.runSeen = true
    (s.causes = [] → Idles (.headlandCause t) s t)
    ∧ (∀ code idx, s.causes = [(code, idx)] → 1 ≤ code → code ≤ 25 →
      (s.reaction code = 0 → Does (.headlandCause t) s (fun s' => s'.causes = [] ∧ s'.hs = s.hs
          ∧ s'.get Reg.SAF_STAT_LAST = code ∧ (s'.get Reg.SAF_CAUSE_SEEN).testBit (code - 1) = true ∧ s'.saf.cuts = s.saf.cuts))
        ∧ (s.reaction code = 1 → Does (.headlandCause t) s (fun s' => s'.causes = [] ∧ (∃ e, (code, idx, e) ∈ s'.saf.cuts)
          ∧ (s.hs = hsRun → s'.hs = hsCut ∧ s'.get Reg.SAF_STAT_FIRST = code)))
        ∧ (s.reaction code = 3 → s.hs ≠ hsHalt → s.is Reg.SAF_STAT_STFAIL = false → Does (.headlandCause t) s (fun s' => s'.hs = hsHalt
          ∧ s'.get Reg.SAF_STAT_FIRST = code ∧ s'.get Reg.SAF_STAT_LAST = code ∧ low s'))
        ∧ (s.reaction code = 3 → s.is Reg.SAF_STAT_STFAIL = true → Does (.headlandCause t) s (fun s' => s'.hs = s.hs
          ∧ (s'.get Reg.SAF_CAUSE_SEEN).testBit (code - 1) = true))
        ∧ (s.reaction code = 2 → s.hs = hsRun ∨ s.hs = hsCut → Does (.headlandCause t) s (fun s' => s'.causes = [] ∧ s'.hs = hsSafe
          ∧ s'.get Reg.SAF_STAT_FIRST = code ∧ s'.get Reg.SAF_STAT_LAST = code ∧ low s'
          ∧ s'.get Reg.SAF_CNT_SAFES = min (s.get Reg.SAF_CNT_SAFES + 1) Reg.SAF_CNT_SAFES.max))
        ∧ (2 ≤ s.reaction code → Does (.headlandCause t) s (fun s' => s'.saf.severeAt = some t)))
    ∧ (let left := s.saf.cuts.filter (fun (_, _, e) => !e.any (fun a => decide (s.get Reg.SAF_ACT_CUT_HOLD * ms ≤ elapsed a t)))
      (s.hs ≠ hsCut ∨ left ≠ [] → Does (.cutHoldExpiry t) s (fun s' => s'.saf.cuts = left ∧ s'.regs = s.regs))
        ∧ (s.hs = hsCut → left = [] → s.saf.startCause = none → s.supply.standby = false → Does (.cutHoldExpiry t) s inRun))
    ∧ (∀ above : Fin 4096,
      let may := s.hs = hsSafe ∧ s.standstill = true ∧ s.is Reg.SAF_STAT_SAFE_N_LVL = false
        ∧ (s.at t).safeCondition above = false ∧ s.saf.severeAt ≠ some t
        ∧ s.causes.all (fun c => decide (s.reaction c.1 < 2)) = true
      (may → toRun → Does (.safeRelease t above) s inRun)
        ∧ (¬ may → Does (.safeRelease t above) s (fun s' => s'.get Reg.SAF_STAT_CMD_REJ = 1 ∧ s'.hs = s.hs
          ∧ ∀ a, a ≠ Reg.SAF_STAT_addr → s'.reg a = s.reg a)))
    ∧ (∀ fails : Fin 32, s.power = .up → s.hs = hsStart → s.saf.tested = false → s.is Reg.SAF_STAT_STFAIL = false →
      (fails.val = 0 → Does (.headlandSelftestDone t fails) s (fun s' => s'.saf = { s.saf with tested := true }
          ∧ s'.regs = s.regs))
        ∧ (fails.val ≠ 0 → Does (.headlandSelftestDone t fails) s (fun s' => s'.saf.tested = false
          ∧ s'.get Reg.SAF_STAT_STFAIL = 1 ∧ (s'.get Reg.SAF_CAUSE_SEEN).testBit 24 = true)))
    ∧ (∀ fails, s.power ≠ .up ∨ s.hs ≠ hsStart ∨ s.saf.tested = true ∨ s.is Reg.SAF_STAT_STFAIL = true → Idles (.headlandSelftestDone t fails) s t)
    ∧ (s.hs = hsStart → s.saf.tested = true → s.running = true → toRun → Does (.headlandRunEntry t) s inRun)
    ∧ (s.hs ≠ hsStart ∨ s.saf.tested = false ∨ s.running = false → Idles (.headlandRunEntry t) s t)

/-- Headland's monitors while the device runs. The second deviating clock window in a row is cause 3; the second housekeeping
sample in a row at or above 165 °C is cause 24, and the samples stand in SAF_HK; a SAFE_N readback that differs is cause 23; in a
pair SAFE_IN going low after it was seen high is cause 22. Each code is declared at the second value and not again at the third (the
model's reading, log entry 111). -/
def Obligations.HeadlandMonitors : Prop :=
  (∀ (t : Word) (s : State), s.power ≠ .up → (∀ tb xo, Idles (.clockMonitorWindow t tb xo) s t)
    ∧ (∀ vbat tdie, Idles (.housekeepingSample t vbat tdie) s t) ∧ Idles (.safeNMismatch t) s t
    ∧ ∀ level, Idles (.safeInChange t level) s t)
  ∧ ∀ (t : Word) (s : State), s.power = .up →
    (∀ tb xo,
      let n := if deviates tb 10000 || deviates xo 1250 then s.saf.clockBad + 1 else 0
      Does (.clockMonitorWindow t tb xo) s (fun s' => s'.saf = { s.saf with clockBad := n } ∧ s'.regs = s.regs
        ∧ s'.causes = s.causes ++ if n = 2 then [(3, 0)] else []))
    ∧ (∀ (vbat : Fin 4096) (tdie : Fin 65536),
      let n := if 165 * 16 ≤ signed 16 tdie then s.saf.hot + 1 else 0
      Does (.housekeepingSample t vbat tdie) s (fun s' => s'.get Reg.SAF_HK_VBAT = vbat ∧ s'.get Reg.SAF_HK_TDIE = tdie
        ∧ s'.saf = { s.saf with hot := n } ∧ s'.causes = s.causes ++ (if n = 2 then [(24, 0)] else [])
        ∧ ∀ a, a ≠ Reg.SAF_HK_addr → s'.reg a = s.reg a))
    ∧ Does (.safeNMismatch t) s (fun s' => s'.causes = s.causes ++ [(23, 0)]
      ∧ s'.is Reg.SAF_STAT_SAFE_N_LVL = !s.safeNDrive ∧ ∀ a, a ≠ Reg.SAF_STAT_addr → s'.reg a = s.reg a)
    ∧ (∀ level, s.is Reg.SAF_STAT_SAFE_IN_LVL ≠ level → Does (.safeInChange t level) s (fun s' =>
      s'.is Reg.SAF_STAT_SAFE_IN_LVL = level ∧ s'.saf.safeInSeen = (level || s.saf.safeInSeen)
        ∧ s'.causes = s.causes ++ (if level = false ∧ s.weave.pair = true ∧ s.saf.safeInSeen = true then [(22, 0)] else [])
        ∧ ∀ a, a ≠ Reg.SAF_STAT_addr → s'.reg a = s.reg a))
    ∧ (∀ level, s.is Reg.SAF_STAT_SAFE_IN_LVL = level → Idles (.safeInChange t level) s t)

/-! ### Supplies, resets and power -/

/-- A reset: what it was asked by decides its cause. The device is held, every register but SYS_RSTCAUSE is at its Reset column,
SYS_RSTCAUSE has the cause, the gates are off, trims are 0, and flash is kept. A pin or software reset keeps the rest of working memory
(log entry 101, the model's reading), and after a power-on reset it reads as 0 (log entry 3, the model's choice); a Reset column without a
number counts as 0 (log entry 119, the model's choice). A trip of SM1 to SM4 is a Low-water reset in every state but standby and one that
is asserted already (log entry 98, the model's reading). It waits until SM1 to SM4 have been inactive for 100 µs, also where the reset pin
holds the device meanwhile. PIN_RESET_END is the instant 100 µs after the pin went high (R645). While either holds the device, a reset
does not end. -/
def Obligations.Resets : Prop :=
  ∀ (t : Word) (s : State),
    let cold := fun (kind : ResetKind) (code : Nat) (s' : State) => s'.power = .held ∧ s'.supply.hold = some kind
      ∧ s'.flash = s.flash ∧ s'.pending = s.pending ∧ s'.straps = s.straps
      ∧ s'.reg Reg.SYS_RSTCAUSE_addr = rstCause (s.reg Reg.SYS_RSTCAUSE_addr) kind code
      ∧ (∀ b : Fin 12, (s'.bk b).gates = {}) ∧ s'.running = false
      ∧ (∀ k : Fin 24, s'.tt k = 0 ∧ s'.bal k = 0) ∧ ∀ a, a ≠ Reg.SYS_RSTCAUSE_addr → s'.reg a = regReset a
    let ram := fun (from_ : Nat) (s' : State) => ∀ a, from_ ≤ a → (∀ k < 24, a ≠ 0x5600 + 8 * k ∧ a ≠ 0x5601 + 8 * k) →
      s'.workGet a = s.workGet a
    Does (.powerOnReset t) s (fun s' => cold .por 0 s' ∧ s'.work = [] ∧ s'.trace = [])
    ∧ Does (.pinReset t) s (fun s' => cold .pin 0 s' ∧ s'.supply.resetLow = true
      ∧ s'.supply.lowWater = s.supply.lowWater ∧ ram 0 s')
    ∧ Does (.pinResetEnd t) s (fun s' => s'.supply.resetLow = false ∧ s'.regs = s.regs
      ∧ s'.supply.hold = if s.supply.hold ≠ some .pin then s.supply.hold else if s.supply.lowWater then some .lowWater else none)
    ∧ (∀ key : Fin 65536,
      (s.power = .up → key.val = 0x5EA1 → (s.running = false ∨ s.hs = hsHalt) → Does (.softwareReset t key) s (fun s' =>
          cold .soft 0 s' ∧ ram 0 s'))
        ∧ (s.power = .up → (key.val ≠ 0x5EA1 ∨ (s.running = true ∧ s.hs ≠ hsHalt)) → Refused (.softwareReset t key) s)
        ∧ (s.power ≠ .up → Idles (.softwareReset t key) s t))
    ∧ (let awake := s.power ≠ .standby ∧ s.supply.lowWater = false
      (∀ m, (s.at t).firstTrip = some m → awake → Does (.lowWaterReset t) s (fun s' => cold .lowWater m s'
        ∧ s'.supply.lowWater = true ∧ (∀ a < 0x1800, s'.workGet a = 0) ∧ ram 0x1800 s'))
        ∧ ((s.at t).firstTrip = none ∨ ¬ awake → Idles (.lowWaterReset t) s t))
    ∧ (s.supply.lowWater = true → s.railsUp = true →
      [1, 2, 3, 4].all (fun m => decide (100 * us ≤ elapsed (vget s.supply.smAt m) t)) = true →
        Does (.lowWaterEnd t) s (fun s' => s'.supply.lowWater = false ∧ s'.supply.hold = (if s.supply.resetLow then some .pin else none)
          ∧ s'.regs = s.regs))
    ∧ (s.supply.lowWater = false ∨ s.railsUp = false
      ∨ (∃ m, 1 ≤ m ∧ m ≤ 4 ∧ elapsed (vget s.supply.smAt m) t < 100 * us) → Idles (.lowWaterEnd t) s t)
    ∧ (∀ side mirror, s.power = .held → s.supply.lowWater = false → s.supply.hold ≠ some .pin →
      s.supply.resetLow = false → s.railsUp = true → Does (.resetEnd t side mirror) s (fun s' => s'.power = .up
        ∧ s'.straps = (side, mirror) ∧ s'.supply.hold = none ∧ s'.get (Reg.SM_STAT_MODE 5) = 2 ∧ s'.wstate = stLoading ∧ s'.weave.loading = true
        ∧ s'.enumStart = some t ∧ s'.get Reg.IDN_STAT_STATE = 1))
    ∧ (∀ side mirror, s.power ≠ .held ∨ s.supply.lowWater = true ∨ s.supply.hold = some .pin ∨ s.supply.resetLow = true
      ∨ s.railsUp = false → Idles (.resetEnd t side mirror) s t)

/-- Supply monitors and what follows from them: a change shows in OUT and ends INIT, but in its self-test or while its mode changes a
monitor's output holds (how a crossing in between shows is log entry 141, the model's choice); SM5 active for 100 µs is the loss of the sensor
supply; SM0 active for 10 µs is the Ebb warning, inactive for 10 µs its end. Without sync-ready in 40 ms the start is LATE. -/
def Obligations.SupplyMonitors : Prop :=
  ∀ (t : Word) (s : State),
    (∀ m : Fin 6, s.smRuns m = true → (s.at t).smHeld m = false →
      (s.is (Reg.SM_STAT_OUT m) = false → Does (.supplyMonitorTrip t m) s (fun s' => s'.get (Reg.SM_STAT_OUT m) = 1
          ∧ s'.get (Reg.SM_STAT_INIT m) = 0 ∧ vget s'.supply.smAt m = t
          ∧ ∀ a, a ≠ Reg.SM_STAT_addr m → s'.reg a = s.reg a) ∧ Idles (.supplyMonitorRelease t m) s t)
        ∧ (s.is (Reg.SM_STAT_OUT m) = true → Idles (.supplyMonitorTrip t m) s t)
        ∧ (s.is (Reg.SM_STAT_OUT m) = true → s.power ≠ .standby ∨ m.val ≠ 0 ∨ s.is Reg.SYS_WAKE_EBB_WAKE = false → Does (.supplyMonitorRelease t m) s (fun s' =>
          s'.get (Reg.SM_STAT_OUT m) = 0 ∧ s'.get (Reg.SM_STAT_INIT m) = 0 ∧ vget s'.supply.smAt m = t
            ∧ (m.val = 5 → s'.get Reg.SYS_SUPPLY_SENS_LOW = 0)))
        ∧ (s.is (Reg.SM_STAT_OUT m) = true → s.power = .standby → m.val = 0 → s.is Reg.SYS_WAKE_EBB_WAKE = true →
          Does (.supplyMonitorRelease t m) s (fun s' => s'.power = .held ∧ s'.supply.hold = some .wake
            ∧ s'.get Reg.SYS_RSTCAUSE_WAKE_SRC = (s.at t).wakeCode 3)))
    ∧ (∀ m : Fin 6, s.smRuns m = false ∨ (s.at t).smHeld m = true → Idles (.supplyMonitorTrip t m) s t
      ∧ Idles (.supplyMonitorRelease t m) s t)
    ∧ (s.power = .up → s.is (Reg.SM_STAT_OUT 5) = true → s.is Reg.SYS_SUPPLY_SENS_LOW = false →
      100 * us ≤ elapsed (vget s.supply.smAt 5) t → Does (.sensorSupplyLow t) s (fun s' =>
        s'.get Reg.SYS_SUPPLY_SENS_LOW = 1 ∧ ∀ a, a ≠ Reg.SYS_SUPPLY_addr → s'.reg a = s.reg a))
    ∧ (s.power ≠ .up ∨ s.is (Reg.SM_STAT_OUT 5) = false ∨ s.is Reg.SYS_SUPPLY_SENS_LOW = true
      ∨ elapsed (vget s.supply.smAt 5) t < 100 * us → Idles (.sensorSupplyLow t) s t)
    ∧ (∀ vbat : Fin 4096, s.power ≠ .standby → 10 * us ≤ elapsed (vget s.supply.smAt 0) t →
      (s.is (Reg.SM_STAT_OUT 0) = true → s.is Reg.SYS_SUPPLY_EBB = false → Does (.ebbActive t vbat) s (fun s' =>
          s'.get Reg.SYS_SUPPLY_EBB = 1
            ∧ s'.get Reg.SYS_SUPPLY_EBB_CNT = min (s.get Reg.SYS_SUPPLY_EBB_CNT + 1) Reg.SYS_SUPPLY_EBB_CNT.max
            ∧ (s.is Reg.REC_STAT_READY = false → s'.strand = { s.strand with ebbs := s.strand.ebbs + 1 })))
        ∧ (s.is (Reg.SM_STAT_OUT 0) = false → s.is Reg.SYS_SUPPLY_EBB = true → Does (.ebbInactive t vbat) s (fun s' =>
          s'.get Reg.SYS_SUPPLY_EBB = 0 ∧ s'.get Reg.SYS_SUPPLY_EBB_CNT = s.get Reg.SYS_SUPPLY_EBB_CNT
            ∧ ∀ a, a ≠ Reg.SYS_SUPPLY_addr → s'.reg a = s.reg a)))
    ∧ (∀ vbat, (s.power = .standby ∨ s.is (Reg.SM_STAT_OUT 0) = false ∨ s.is Reg.SYS_SUPPLY_EBB = true
        ∨ elapsed (vget s.supply.smAt 0) t < 10 * us → Idles (.ebbActive t vbat) s t)
      ∧ (s.power = .standby ∨ s.is (Reg.SM_STAT_OUT 0) = true ∨ s.is Reg.SYS_SUPPLY_EBB = false
        ∨ elapsed (vget s.supply.smAt 0) t < 10 * us → Idles (.ebbInactive t vbat) s t))
    ∧ (s.power = .up → s.is Reg.SYS_START_READY = false → s.is Reg.SYS_START_LATE = false →
      40 * ms ≤ elapsed s.supply.holdAt t → Does (.startLateTimeout t) s (fun s' => s'.get Reg.SYS_START_LATE = 1
        ∧ ∀ a, a ≠ Reg.SYS_START_addr → s'.reg a = s.reg a))
    ∧ (s.power ≠ .up ∨ s.is Reg.SYS_START_READY = true ∨ s.is Reg.SYS_START_LATE = true ∨ elapsed s.supply.holdAt t < 40 * ms → Idles (.startLateTimeout t) s t)

/-- Power domains. A switch that Table 14.4 allows drains an ON domain and wakes an OFF one, any other is refused; a drained domain,
with no admitted descriptor unfinished and no beat into it in flight (DMA addresses reach TRACE alone: log entry 27), is OFF, at
the latest 200 µs after its DRAIN began; a waking one is ON after its time. Which ON bits are locked is read as log entry 103
says. Standby. A keyed request at standstill stops the Loom and takes SAFE_N low, any other is refused; when the commit is done
domains 2 to 7 drain, and once they are off the device stands by, keeping its plies, its records and flash and no RAM, until a
filtered WAKE level or the wake timer resets it; a WAKE level that stands at the entry wakes at once. That RAM then reads as at
power-on is the model's choice (log entry 3), as is that the command itself starts the drain and comes again when it is over
(log entry 148). Standstill is read as log entry 93 says; a second keyed request during standby is refused (log entry 163), and
without the STBY clock a request completes with DOMAIN_OFF and does nothing (log entry 167). -/
def Obligations.DomainsAndStandby : Prop :=
  (∀ (t : Word) (d : Fin 6) (s : State),
    let on := (s.get Reg.SYS_PWR_ON).testBit d
    let st := s.domain (d + 2)
    let at_ := vget s.supply.domAt d
    let goes := fun (n : Nat) (s' : State) => s'.domain (d + 2) = n ∧ vget s'.supply.domAt d = t
    let others := fun (s' : State) => ∀ k : Fin 6, k ≠ d → s'.domain (k + 2) = s.domain (k + 2)
    (s.power = .up → on = true → s.switchable (d + 2) = true → Does (.domainOffRequest t d) s (fun s' => goes pdDrain s'
      ∧ others s' ∧ (s'.get Reg.SYS_PWR_ON).testBit d = false))
    ∧ (s.power = .up → on = true → s.switchable (d + 2) = false → Refused (.domainOffRequest t d) s)
    ∧ (s.power ≠ .up ∨ on = false → Idles (.domainOffRequest t d) s t)
    ∧ (s.power = .up → on = false → s.switchable (d + 2) = true →
      (st = pdOff → Does (.domainOnRequest t d) s (fun s' => goes pdWaking s' ∧ others s'
          ∧ (s'.get Reg.SYS_PWR_ON).testBit d = true))
        ∧ (st = pdDrain → Does (.domainOnRequest t d) s (fun s' => goes pdOn s' ∧ others s'
          ∧ (s'.get Reg.SYS_PWR_ON).testBit d = true)))
    ∧ (s.power = .up → on = false → s.switchable (d + 2) = false → Refused (.domainOnRequest t d) s)
    ∧ (s.power ≠ .up ∨ on = true → Idles (.domainOnRequest t d) s t)
    ∧ (st = pdDrain → s.drained (d + 2) = true → Does (.drainEnd t d) s (fun s' => vget s'.supply.domAt d = t
      ∧ (d.val = 0 → s'.trace = []) ∧ goes pdOff s' ∧ others s'))
    ∧ (st ≠ pdDrain ∨ s.drained (d + 2) = false → Idles (.drainEnd t d) s t)
    ∧ (st ≠ pdDrain ∨ elapsed at_ t < 200 * us → Idles (.drainTimeout t d) s t)
    ∧ (st = pdDrain → 200 * us ≤ elapsed at_ t → Does (.drainTimeout t d) s (fun s' => vget s'.supply.domAt d = t
      ∧ (d.val = 0 → s'.trace = []) ∧ goes pdOff s'
        ∧ (s.admittedTo (d + 2) = [] → others s' ∧ s'.get Reg.SYS_PWRSTAT_TIMEOUTS = min (s.get Reg.SYS_PWRSTAT_TIMEOUTS + 1) Reg.SYS_PWRSTAT_TIMEOUTS.max)))
    ∧ (st = pdWaking → wakeTime (d + 2) ≤ elapsed at_ t → Does (.domainWakeDone t d) s (fun s' => goes pdOn s' ∧ others s'))
    ∧ (st ≠ pdWaking ∨ elapsed at_ t < wakeTime (d + 2) → Idles (.domainWakeDone t d) s t))
  ∧ (∀ (t : Word) (s : State),
    let woken := fun (src : Nat) (s' : State) => s'.power = .held ∧ s'.supply.hold = some .wake
      ∧ s'.get Reg.SYS_RSTCAUSE_WAKE = 1 ∧ s'.get Reg.SYS_RSTCAUSE_WAKE_SRC = src ∧ s'.flash = s.flash ∧ s'.work = []
    (∀ key : Fin 65536, s.power = .up →
      let may := s.crossingOff 6 = false ∧ key.val = 0x5EA1 ∧ s.standstill = true ∧ s.hs ≠ hsHalt ∧ s.supply.standby = false
      (may → Does (.standbyRequest t key) s (fun s' => s'.supply.standby = true
          ∧ s'.get Reg.SAF_STAT_SAFE_N_LVL = (if s.safeNDrive then 0 else s.get Reg.SAF_STAT_SAFE_N_LVL)
          ∧ s'.strand.want = true))
        ∧ (s.crossingOff 6 = true → Idles (.standbyRequest t key) s t)
        ∧ (s.crossingOff 6 = false → ¬ may → Refused (.standbyRequest t key) s))
    ∧ (∀ key, s.power ≠ .up → Idles (.standbyRequest t key) s t)
    ∧ (let done := s.strandOn = false ∨ (s.strand.want = false ∧ s.is Reg.REC_STAT_BUSY = false)
      let drained := s.domain 2 ≠ pdOff → s.drained 2 = true
      let wakes := s.is Reg.SYS_WAKE_WAKE_LVL = true ∨ (s.at t).wakeHigh = true
      (s.power = .up → s.supply.standby = true → done →
        (drained → ¬ wakes → Does (.standbyComplete t) s (fun s' => s'.power = .standby
            ∧ s'.supply.standbyAt = t ∧ s'.work = [] ∧ s'.trace = [] ∧ s'.flash = s.flash ∧ s'.recMem = s.recMem
            ∧ s'.ply0 = s.ply0 ∧ s'.ply1 = s.ply1 ∧ s'.ply2 = s.ply2 ∧ s'.reg Reg.SYS_WAKE_addr = s.reg Reg.SYS_WAKE_addr
            ∧ s'.reg Reg.SYS_RSTCAUSE_addr = s.reg Reg.SYS_RSTCAUSE_addr))
          ∧ (drained → wakes → Does (.standbyComplete t) s (woken 1))
          ∧ (¬ drained → Does (.standbyComplete t) s (fun s' => s'.power = .up ∧ s'.domain 2 = pdDrain)))
        ∧ (s.power ≠ .up ∨ s.supply.standby = false ∨ ¬ done → Idles (.standbyComplete t) s t))
    ∧ (∀ level, s.power ≠ .held → s.supply.wakePin ≠ level → Does (.wakeInput t level) s (fun s' =>
      s'.supply = { s.supply with wakePin := level, wakeAt := t } ∧ s'.get Reg.SYS_WAKE_WAKE_INIT = 0
        ∧ ∀ a, a ≠ Reg.SYS_WAKE_addr → s'.reg a = s.reg a))
    ∧ (∀ level, s.power = .held ∨ s.supply.wakePin = level → Idles (.wakeInput t level) s t)
    ∧ (let due := s.get Reg.SYS_WAKE_WAKE_FILT * ms ≤ elapsed s.supply.wakeAt t
      (s.power ≠ .held → s.is Reg.SYS_WAKE_WAKE_LVL ≠ s.supply.wakePin → due →
          (s.power = .up ∨ s.supply.wakePin = false → Does (.wakeFilterExpiry t) s (fun s' =>
            s'.is Reg.SYS_WAKE_WAKE_LVL = s.supply.wakePin ∧ ∀ a, a ≠ Reg.SYS_WAKE_addr → s'.reg a = s.reg a))
            ∧ (s.power = .standby → s.supply.wakePin = true → Does (.wakeFilterExpiry t) s (woken 1)))
        ∧ (s.power = .held ∨ s.is Reg.SYS_WAKE_WAKE_LVL = s.supply.wakePin ∨ ¬ due → Idles (.wakeFilterExpiry t) s t))
    ∧ (let n := s.get Reg.SYS_WAKE_WAKE_T
      (s.power = .standby → n ≠ 0 → n * (1000 * ms) ≤ elapsed s.supply.standbyAt t → Does (.wakeTimer t) s (woken ((s.at t).wakeCode 2)))
        ∧ (s.power ≠ .standby ∨ n = 0 ∨ elapsed s.supply.standbyAt t < n * (1000 * ms) → Idles (.wakeTimer t) s t)))

/-! ### Links -/

/-- The CAN controllers send: a request makes its buffer pending; of the frames offered at the start of frame the lowest identifier
is sent, its buffer is free again and holds the time of its start of frame; accesses of other masters that win come before (log
entry 132). Bus-off, its recovery and the return to the bus over assigned balls. A request of either kind to a controller that
is not instantiated is refused. The error counts follow ISO 11898-1 (PRESUMED, log entry 71); the winner is judged at the named
start of frame, with the head of the result queue alone (log entry 72). A controller reaches the bus over its balls, but for
MODE 2 (the model's reading, log entry 171). The CAN controllers receive, after the accesses of other masters that win (log
entry 132): a good reception lowers REC by 1, or from above 127 to some value of 119 to 127 (log entry 165); remote frames are
counted and discarded, a frame that matches a filter takes the next entry of the receive FIFO, its 13 words in the layout of
Table 11.8, or raises RXOVF where the FIFO is full; RXACK frees the oldest entry, and is refused where the controller is not
instantiated. What an FD frame and a loopback do is the model's reading (log entry 73). -/
def Obligations.CanControllers : Prop :=
  (∀ (t : Word) (c : Fin 4) (s : State),
    let k := s.can c
    let u := (s.at t).canTurn
    (s.pending = [] → s.busRequests = [] → u = s.at t)
    ∧ (∀ m : Fin 16, s.gone (Reg.CAN_TXREQ_addr c) = false →
      ((s.get (Reg.CAN_TXREQ_TXREQ c)).testBit m = false → Does (.canTxRequest t c m) s (fun s' =>
          (s'.get (Reg.CAN_TXREQ_TXREQ c)).testBit m = true ∧ (s'.can c).asked = k.asked ++ [(m.val, t)]
            ∧ ∀ a, a ≠ Reg.CAN_TXREQ_addr c → s'.reg a = s.reg a))
        ∧ ((s.get (Reg.CAN_TXREQ_TXREQ c)).testBit m = true → Idles (.canTxRequest t c m) s t))
    ∧ (∀ m, s.gone (Reg.CAN_TXREQ_addr c) = true → Refused (.canTxRequest t c m) s)
    ∧ (∀ (sof : Word) (fails m : Nat) (f : CanFrame), s.canSends c = true → u.canSends c = true →
      canWinner (u.canOffers c sof) = some (m, f) →
      (m < 16 → Does (.canTxDone t c sof fails) s (fun s' => (s'.get (Reg.CAN_TXREQ_TXREQ c)).testBit m = false
          ∧ (s'.can c).asked = (u.can c).asked.filter (fun a => decide (a.1 ≠ m)) ∧ (s'.can c).results = (u.can c).results
          ∧ s'.workGet (canTx c m + 1) = sof
          ∧ s'.get (Reg.CAN_STAT_TEC c) = min 255 (u.get (Reg.CAN_STAT_TEC c) + 8 * fails) - 1))
        ∧ (m = 16 → Does (.canTxDone t c sof fails) s (fun s' => (s'.can c).results = (u.can c).results.tail
          ∧ (s'.can c).asked = (u.can c).asked ∧ s'.get (Reg.CAN_TXREQ_TXREQ c) = u.get (Reg.CAN_TXREQ_TXREQ c))))
    ∧ (∀ (sof : Word) (fails : Nat), (s.canSends c = false → Idles (.canTxDone t c sof fails) s t)
      ∧ (s.canSends c = true → u.canSends c = false ∨ canWinner (u.canOffers c sof) = none →
        Does (.canTxDone t c sof fails) s (fun s' => s' = u)))
    ∧ (s.canOn c = false → Idles (.canBusOff t c) s t)
    ∧ (s.canOn c = true → Does (.canBusOff t c) s (fun s' => s'.get (Reg.CAN_STAT_STATE c) = 2
      ∧ s'.get (Reg.CAN_STAT_TEC c) = 255 ∧ (s'.can c).recovering = s.is (Reg.CAN_CFG_AUTO_REC c)
      ∧ s'.reports = s.reports ++ [⟨0x11, c, 1, 0, some t⟩]))
    ∧ (s.get (Reg.CAN_STAT_STATE c) = 2 → k.recovering = true → s.canUp = true → s.canBus c = true → Does (.canBusOn t c) s (fun s' =>
      s'.get (Reg.CAN_STAT_STATE c) = 0 ∧ s'.get (Reg.CAN_STAT_TEC c) = 0 ∧ s'.get (Reg.CAN_STAT_REC c) = 0
        ∧ (s'.can c).recovering = false
        ∧ s'.reports = s.reports ++ [⟨0x11, c, 2, 2 ^ 39, some t⟩]))
    ∧ (s.get (Reg.CAN_STAT_STATE c) ≠ 2 ∨ k.recovering = false ∨ s.canUp = false ∨ s.canBus c = false → Idles (.canBusOn t c) s t)
    ∧ (s.gone (Reg.CAN_STAT_addr c) = false →
      (s.get (Reg.CAN_STAT_STATE c) = 2 → s.is (Reg.CAN_CFG_AUTO_REC c) = false → Does (.canBusoffReq t c) s (fun s' =>
          (s'.can c).recovering = true ∧ (s'.can c).asked = k.asked ∧ s'.regs = s.regs))
        ∧ (s.get (Reg.CAN_STAT_STATE c) ≠ 2 ∨ s.is (Reg.CAN_CFG_AUTO_REC c) = true → Idles (.canBusoffReq t c) s t))
    ∧ (s.gone (Reg.CAN_STAT_addr c) = true → Refused (.canBusoffReq t c) s))
  ∧ (∀ (t : Word) (c : Fin 4) (f : CanFrame) (sof : Word) (errs : Nat) (s : State),
    let n := s.get (Reg.CAN_RX_RXLEVEL c)
    let h := s.get (Reg.CAN_RX_RXHEAD c)
    let u := (s.at t).canTurn
    let held := u.get (Reg.CAN_RX_RXLEVEL c)
    let first := u.get (Reg.CAN_RX_RXHEAD c)
    let rec' := min 255 (u.get (Reg.CAN_STAT_REC c) + errs)
    let hears := fun (p : State → Prop) => Does (.canRxFrame t c f sof errs) s (fun s' => p s'
      ∧ (rec' ≤ 127 → s'.get (Reg.CAN_STAT_REC c) = rec' - 1)
      ∧ (127 < rec' → 119 ≤ s'.get (Reg.CAN_STAT_REC c) ∧ s'.get (Reg.CAN_STAT_REC c) ≤ 127))
    (s.pending = [] → s.busRequests = [] → u = s.at t)
    ∧ (s.canHears c = true → u.canHears c = true →
      (f.rtr = true → hears (fun s' =>
          s'.get (Reg.CAN_CNT_RTR c) = min (u.get (Reg.CAN_CNT_RTR c) + 1) (Reg.CAN_CNT_RTR c).max ∧ s'.work = u.work
            ∧ s'.get (Reg.CAN_RX_RXLEVEL c) = held))
        ∧ (f.rtr = false → (f.fdf = false ∨ u.is (Reg.CAN_CFG_FD_EN c) = true) → u.canMatches c f = true →
          (held < 32 → hears (fun s' => s'.get (Reg.CAN_RX_RXLEVEL c) = held + 1
              ∧ s'.get (Reg.CAN_RX_RXHEAD c) = first
              ∧ ∀ k < 13, s'.workGet (canRx c ((first + held) % 32) + k) = (canWords f sof).getD k 0))
            ∧ (32 ≤ held → hears (fun s' => s'.work = u.work
              ∧ s'.get (Reg.CAN_CNT_RXOVF c) = min (u.get (Reg.CAN_CNT_RXOVF c) + 1) (Reg.CAN_CNT_RXOVF c).max)))
        ∧ (f.rtr = false → (f.fdf = true ∧ u.is (Reg.CAN_CFG_FD_EN c) = false) ∨ u.canMatches c f = false →
          hears (fun s' => s'.work = u.work ∧ s'.get (Reg.CAN_RX_RXLEVEL c) = held)))
    ∧ (s.canHears c = false → Idles (.canRxFrame t c f sof errs) s t)
    ∧ (s.gone (Reg.CAN_RX_addr c) = true → Refused (.canRxAck t c) s)
    ∧ (s.gone (Reg.CAN_RX_addr c) = false → n ≠ 0 → Does (.canRxAck t c) s (fun s' => s'.get (Reg.CAN_RX_RXLEVEL c) = n - 1
      ∧ s'.get (Reg.CAN_RX_RXHEAD c) = (h + 1) % 32 ∧ ∀ a, a ≠ Reg.CAN_RX_addr c → s'.reg a = s.reg a))
    ∧ (s.gone (Reg.CAN_RX_addr c) = false → n = 0 → Idles (.canRxAck t c) s t))

/-- The Ethernet streams: a poll shows the link, over balls that are not assigned some value (log entry 171); a datagram starts no
sooner than PACE after the one before, after the accesses of other masters that win (log entry 132), and leaves its stream, with
a frame on the wire while the link is up and as a drop while it is down; FLUSH_T makes a collecting datagram ready; a received
frame is only counted. The bytes of a frame and its collecting are the model's (log entries 74 and 75). A SENT channel: a frame
out of its timing raises TIMERR and one with a wrong CRC raises CRCERR, with no new data; a good one gives its channels, its
status, its time and ends STALE. 5 ms without one is STALE. The CRC is that of SAE J2716 (PRESUMED, log entry 76). -/
def Obligations.LinkStreams : Prop :=
  (∀ (t : Word) (p : Fin 2) (s : State),
    let k := s.port p
    let u := (s.at t).proexFirst.memTurn .ethernet
    (∀ up, s.ethOn p = true → k.poll.all (fun a => decide (10 * ms ≤ elapsed a t)) = true →
      let seen := if s.ethManages p then up else (Config.freeWord s.fresh).getLsbD 0
      Does (.phyLinkPoll t p up) s (fun s' => s'.is (Reg.ETH_STAT_LINK p) = seen ∧ (s'.port p).poll = some t
        ∧ s'.reports = (if s.is (Reg.ETH_STAT_LINK p) = seen then s.reports
          else s.reports ++ [⟨0x11, p, 3, if seen then 2 ^ 39 else 0, some t⟩])))
    ∧ (∀ up, s.ethOn p = false ∨ k.poll.any (fun a => decide (elapsed a t < 10 * ms)) = true → Idles (.phyLinkPoll t p up) s t)
    ∧ (s.pending = [] → s.busRequests = [] → u = s.at t)
    ∧ (s.early (.datagramStart t p) = false →
      (∀ n, s.ethOn p = true → k.start.all (fun a => decide (s.get (Reg.ETH_CFG_PACE p) * us ≤ elapsed a t)) = true →
        u.paced p = true → u.nextStream p = some n →
        let d := u.takeDatagram n
        (u.is (Reg.ETH_STAT_LINK p) = true → Does (.datagramStart t p) s (fun s' => (s'.port p).start = some t
            ∧ (s'.port p).frame = u.ethFrame p n d.1 ∧ (s'.port p).ident = ((u.port p).ident + 1) % 65536 ∧ s'.str n = d.2
            ∧ s'.get (Reg.STR_STAT_DSEQ n) = (u.get (Reg.STR_STAT_DSEQ n) + 1) % 2 ^ 32
            ∧ s'.get (Reg.ETH_STAT_TXD p) = (u.get (Reg.ETH_STAT_TXD p) + 1) % 2 ^ 32))
          ∧ (u.is (Reg.ETH_STAT_LINK p) = false → Does (.datagramStart t p) s (fun s' => s'.str n = d.2 ∧ s'.ports = u.ports
            ∧ s'.get (Reg.STR_STAT_DROPS n) = min (u.get (Reg.STR_STAT_DROPS n) + 1) (Reg.STR_STAT_DROPS n).max)))
      ∧ (s.ethOn p = false ∨ k.start.any (fun a => decide (elapsed a t < s.get (Reg.ETH_CFG_PACE p) * us)) = true →
        Idles (.datagramStart t p) s t)
      ∧ (s.ethOn p = true → k.start.all (fun a => decide (s.get (Reg.ETH_CFG_PACE p) * us ≤ elapsed a t)) = true →
        u.nextStream p = none → Does (.datagramStart t p) s (fun s' => s' = u)))
    ∧ (∀ (n : Fin 8) (d : Datagram), (s.str n).coll = some d →
      (d.ready = none → s.get (Reg.STR_CFG_FLUSH_T n) * (10 * us) ≤ elapsed d.first t → Does (.streamFlush t n) s (fun s' =>
          (if (s.str n).wait = none then (s'.str n).wait = some { d with ready := some t } ∧ (s'.str n).coll = none
            else (s'.str n).wait = (s.str n).wait ∧ (s'.str n).coll = some { d with ready := some t }) ∧ s'.regs = s.regs))
        ∧ (d.ready ≠ none ∨ elapsed d.first t < s.get (Reg.STR_CFG_FLUSH_T n) * (10 * us) → Idles (.streamFlush t n) s t))
    ∧ (∀ n : Fin 8, (s.str n).coll = none → Idles (.streamFlush t n) s t)
    ∧ (s.ethOn p = true → s.ethHears p = true → Does (.ethRxFrame t p) s (fun s' =>
      s'.get (Reg.ETH_CNT_RXFRAMES p) = min (s.get (Reg.ETH_CNT_RXFRAMES p) + 1) (Reg.ETH_CNT_RXFRAMES p).max
        ∧ ∀ a, a ≠ Reg.ETH_CNT_addr p → s'.reg a = s.reg a))
    ∧ (s.ethOn p = false ∨ s.ethHears p = false → Idles (.ethRxFrame t p) s t))
  ∧ (∀ (t : Word) (n : Fin 8) (fall : Word) (sync : Nat) (pulses : List Nat) (s : State),
    let k := vget s.sents n
    let nib := s.get (Reg.SENT_CFG_NIB n)
    let nominal := 56 * 400 * s.get (Reg.SENT_CFG_TICK n)
    let vals := (pulses.take (nib + 2)).map (nibbleOf sync)
    let vs := vals.filterMap id
    let data := (vs.drop 1).take nib
    let timed := (4 * nominal ≤ 5 * sync ∧ 5 * sync ≤ 6 * nominal)
      ∧ (∀ p, k.sync = some p → 64 * (sync - p + (p - sync)) < p)
      ∧ pulses.length = nib + 2 + s.get (Reg.SENT_CFG_PAUSE n) ∧ ∀ v ∈ vals, v.isSome = true
    let crcOk := sentCrc 4 0xD 5 (!s.is (Reg.SENT_CFG_CRC_MODE n)) data = vs.getD (nib + 1) 0
    let fails := fun (f : Fld) (s' : State) => s'.get f = min (s.get f + 1) f.max
      ∧ vget s'.sents n = { k with sync := some sync, slow := [] } ∧ ∀ a, a ≠ f.addr → s'.reg a = s.reg a
    (s.is (Reg.SENT_CFG_EN n) = true →
      (¬ timed → Does (.sentFrame t n fall sync pulses) s (fails (Reg.SENT_CNT_TIMERR n)))
        ∧ (timed → ¬ crcOk → Does (.sentFrame t n fall sync pulses) s (fails (Reg.SENT_CNT_CRCERR n)))
        ∧ (timed → crcOk → Does (.sentFrame t n fall sync pulses) s (fun s' =>
          s'.get (Reg.SENT_DATA_FC1 n) = (data.getD 0 0 * 256 + data.getD 1 0 * 16 + data.getD 2 0) % 4096
            ∧ (nib = 6 → s.is (Reg.SENT_CFG_FC2_REV n) = false →
              s'.get (Reg.SENT_DATA_FC2 n) = (data.getD 3 0 * 256 + data.getD 4 0 * 16 + data.getD 5 0) % 4096)
            ∧ (nib = 6 → s.is (Reg.SENT_CFG_FC2_REV n) = true →
              s'.get (Reg.SENT_DATA_FC2 n) = (data.getD 5 0 * 256 + data.getD 4 0 * 16 + data.getD 3 0) % 4096)
            ∧ s'.get (Reg.SENT_DATA_STATUS n) = vs.getD 0 0 % 16 ∧ s'.get (Reg.SENT_DATA_STALE n) = 0
            ∧ s'.reg (Reg.SENT_TIME_addr n) = fall
            ∧ s'.get (Reg.SENT_CNT_FRAMES n) = min (s.get (Reg.SENT_CNT_FRAMES n) + 1) (Reg.SENT_CNT_FRAMES n).max
            ∧ (vget s'.sents n).heard = some t ∧ (vget s'.sents n).sync = some sync)))
    ∧ (s.is (Reg.SENT_CFG_EN n) = false → Idles (.sentFrame t n fall sync pulses) s t)
    ∧ (s.is (Reg.SENT_CFG_EN n) = false ∨ s.is (Reg.SENT_DATA_STALE n) = true ∨ k.heard.any (fun a => decide (elapsed a t < 5 * ms)) = true →
      Idles (.sentStale t n) s t)
    ∧ (s.is (Reg.SENT_CFG_EN n) = true → s.is (Reg.SENT_DATA_STALE n) = false →
      (∀ a, k.heard = some a → 5 * ms ≤ elapsed a t) → Does (.sentStale t n) s (fun s' => s'.get (Reg.SENT_DATA_STALE n) = 1
        ∧ s'.reports = s.reports ++ [⟨0x11, n, 4, 0, some t⟩])))

/-- The flash commands of the host: READ copies LEN + 1 bytes to working memory, PROGRAM copies them from there, ERASE makes a sector
read 0xFF, each with BUSY set until its end and with the flash's own codes sent, 0x6B or 0x0B, 0x06 and 0x02, 0x06 and 0x20; a command
that R542 forbids only sets CMD_REJ, and without the link interface it is refused. A READ into a signature region makes that
region's signature not valid. The bytes move at the command (the model's choice, log entry 35); addresses wrap in working memory and in
the flash (log entries 34 and 164). -/
def Obligations.FlashCommands : Prop :=
  ∀ (t : Word) (a : Fin 16777216) (len : Fin 256) (s : State),
    let w := s.get Reg.LNK_FWADDR_WADDR
    let busy := fun (cmd n : Nat) (s' : State) => s'.get Reg.LNK_FSTAT_BUSY = 1
      ∧ s'.host.fspi = flashCodes (s.is Reg.LNK_FSTAT_QUAD) cmd a n ∧ ∀ x, x ≠ Reg.LNK_FSTAT_addr → x ≠ Reg.WFT_CLST_addr 0 →
      s'.reg x = s.reg x
    let refused := fun (s' : State) => s'.get Reg.LNK_FSTAT_CMD_REJ = 1 ∧ s'.flash = s.flash ∧ s'.work = s.work
      ∧ ∀ x, x ≠ Reg.LNK_FSTAT_addr → s'.reg x = s.reg x
    (∀ (quad : Bool) (b n : Nat), flashCodes quad 1 b n = [(if quad then 0x6B else 0x0B, b)]
      ∧ (b % 256 + n ≤ 256 → flashCodes quad 2 b n = [(0x06, 0), (0x02, b)])
      ∧ (256 < b % 256 + n → flashCodes quad 2 b n = [(0x06, 0), (0x02, b), (0x06, 0), (0x02, (b / 256 * 256 + 256) % 2 ^ 24)])
      ∧ flashCodes quad 3 b n = [(0x06, 0), (0x20, b / 4096 * 4096)])
    ∧ (s.gone Reg.LNK_FCMD_addr = true →
      Refused (.flashRead t a len) s ∧ Refused (.flashProgram t a len) s ∧ Refused (.flashErase t a) s)
    ∧ (s.gone Reg.LNK_FCMD_addr = false → s.flashUp = false →
      Idles (.flashRead t a len) s t ∧ Idles (.flashProgram t a len) s t ∧ Idles (.flashErase t a) s t)
    ∧ (s.gone Reg.LNK_FCMD_addr = false → s.flashUp = true →
    (s.flashRejects 1 a (len + 1) = false → Does (.flashRead t a len) s (fun s' => busy 1 (len + 1) s' ∧ s'.flash = s.flash
      ∧ (∀ k < len.val + 1, s'.workByte w k = s.flashGet ((a + k) % 2 ^ 24))
      ∧ (∀ r < 4, (∃ k < (len.val + 6) / 6, (w + k) % 32768 / 0x400 = r) → r ∉ s'.learn.sigGood)
      ∧ ∀ x, (∀ k < len.val + 1, x ≠ (w + k / 6) % 32768) → s'.workGet x = s.workGet x))
    ∧ (s.flashRejects 2 a (len + 1) = false → Does (.flashProgram t a len) s (fun s' => busy 2 (len + 1) s' ∧ s'.work = s.work
      ∧ (∀ k < len.val + 1, s'.flashGet ((a + k) % 2 ^ 24) = s.workByte w k)
      ∧ ∀ x, (∀ k < len.val + 1, x ≠ (a + k) % 2 ^ 24) → s'.flashGet x = s.flashGet x))
    ∧ (s.flashRejects 3 a 1 = false → Does (.flashErase t a) s (fun s' => busy 3 1 s' ∧ s'.work = s.work
      ∧ ∀ x, s'.flashGet x = if x / 4096 = a.val / 4096 then 0xFF else s.flashGet x))
    ∧ (s.flashRejects 1 a (len + 1) = true → Does (.flashRead t a len) s refused)
    ∧ (s.flashRejects 2 a (len + 1) = true → Does (.flashProgram t a len) s refused)
    ∧ (s.flashRejects 3 a 1 = true → Does (.flashErase t a) s refused))
    ∧ Does (.flashCmdDone t) s (fun s' => s'.get Reg.LNK_FSTAT_BUSY = 0 ∧ s'.flash = s.flash
      ∧ s'.host.fspi = s.host.fspi ++ [(0x05, 0)]
      ∧ ∀ x, x ≠ Reg.LNK_FSTAT_addr → s'.reg x = s.reg x)

/-- The TAP instructions, by the codes of Table 11.14: IDCODE, SAMPLE/PRELOAD and BYPASS are always taken; EXTEST, HIGHZ and CLAMP
only while the Loom is stopped, and while it runs BYPASS is selected and REFUSED set. Every other code selects BYPASS. The data
register that Capture-DR loads, and what the output balls then carry: the boundary register under EXTEST and CLAMP, nothing
under HIGHZ, their own signals otherwise; that HIGHZ and CLAMP capture as BYPASS does is the model's reading (log entry 77).
DBG_ACCESS: a frame with a wrong CRC or an unknown opcode is not executed, and the response to the last executed one stands; a
READ answers what the register reads as, and BUS_ERR at a reserved address; a WRITE of working memory is done; Capture-DR then
gives the 80 bits of that response. The host's accesses of the instant and DMA requests that win the internal bus come before
the access (log entry 132). CRC errors of the debug port are not counted (the model's reading, log entry 77). Before the reset
event a status bit whose event waits reads as it did (log entry 143). -/
def Obligations.DebugPort : Prop :=
  ((∀ code : Nat, code ∉ [0x00, 0x01, 0x02, 0x03, 0x04, 0x20] → jtagDecode code = .bypass)
  ∧ ∀ (t : Word) (s : State),
    let selects := fun (i : JtagInstr) (s' : State) => s'.host.jtag.instr = i ∧ jtagDecode s'.host.jtag.ir = i
      ∧ s'.host.jtag.resp = s.host.jtag.resp
    let takes := fun (c : Instr) (i : JtagInstr) (p : State → Prop) => Does c s (fun s' => selects i s' ∧ s'.regs = s.regs ∧ p s')
    let plain := fun (s' : State) => ∀ row col, s'.ball row col = match ballSignal row col with
      | some (y, i, k) => s.routable y i k
      | none => s.fixedBall row col
    let out := fun (b : BallState) (s' : State) (row col : Nat) => (∀ y i k, ballSignal row col = some (y, i, k) →
        s'.ball row col = if outputSignal y i k then b else s.routable y i k)
      ∧ (ballSignal row col = none → s'.ball row col = if fixedOutput row col then b else s.fixedBall row col)
    let bypassed := fun (c : Instr) => Does c s (fun s' => selects .bypass s' ∧ s'.get Reg.LNK_JTAG_REFUSED = 1 ∧ plain s'
      ∧ ∀ a, a ≠ Reg.LNK_JTAG_addr → s'.reg a = s.reg a)
    takes (.jtagIdcode t) .idcode (fun s' => s'.captureDr = some 0x348205CB ∧ plain s')
    ∧ takes (.jtagSamplePreload t) .sample plain ∧ takes (.jtagBypass t) .bypass (fun s' => s'.captureDr = some 0 ∧ plain s')
    ∧ (s.running = false →
      takes (.jtagExtest t) .extest (fun s' => ∀ row col, out (.drives (Config.boundaryCell row col)) s' row col)
        ∧ takes (.jtagHighz t) .highz (fun s' => ∀ row col, out .highZ s' row col)
        ∧ takes (.jtagClamp t) .clamp (fun s' => ∀ row col, out (.drives (Config.boundaryCell row col)) s' row col))
    ∧ (s.running = true → bypassed (.jtagExtest t) ∧ bypassed (.jtagHighz t) ∧ bypassed (.jtagClamp t)))
  ∧ (∀ (t : Word) (op : Fin 256) (a : Fin 65536) (crc : Fin 256) (v : Word) (s : State),
    let u := (s.at t).hostFirst
    let s0 := (u.jtagSelect 0x20).shiftedOut u.host.jtag.resp
    let s1 := s0.busTurn .debug
    let answers := fun (s1 : State) (r : Response) (s' : State) => s'.host.jtag.resp = r ∧ s'.host.jtag.instr = .dbg
      ∧ s'.regs = s1.regs ∧ s'.fifo = s1.fifo ∧ s'.captureDr = some r.bits
    let good := crc.val = frameCheck op a
    let read := fun (w : Word) => if s1.mergeOpen then w else s1.veil a w
    (s.pending = [] → u = s.at t)
    ∧ debugCommand t (op.val * 2 ^ 72 + a.val * 2 ^ 56 + crc.val * 2 ^ 48 + v.toNat) = .jtagDbgAccess t op a crc v
    ∧ (s.early (.jtagDbgAccess t op a crc v) = false → u.power = .up →
    (¬ good ∨ (op.val ≠ 0x11 ∧ op.val ≠ 0x22 ∧ op.val ≠ 0x44) →
      Does (.jtagDbgAccess t op a crc v) s (answers s0 u.host.jtag.resp))
    ∧ (good → op.val = 0x44 → Does (.jtagDbgAccess t op a crc v) s (answers s0 { status := rsOk, addr := a }))
    ∧ (s1.power = .up → good → op.val = 0x11 → a.val < 0x8000 → a.val ∉ [Reg.SYS_EVPOP_addr, Reg.PRX_PEVPOP_addr, Reg.WFT_UPD0_addr 0,
        Reg.WFT_UPD0_addr 1, Reg.WFT_SNAPT_addr 0, Reg.WFT_SNAPT_addr 1] →
      (∀ w, s1.regView a = some w → Does (.jtagDbgAccess t op a crc v) s (answers s1 { status := rsOk, addr := a, data := read w }))
        ∧ (s1.regView a = none → Does (.jtagDbgAccess t op a crc v) s (answers s1 { status := rsBus, addr := a })))
    ∧ (s1.power = .up → good → op.val = 0x22 → 0x8000 ≤ a.val → s1.get Reg.SYS_PAGE_PAGE = 4 → s1.workLocked (a - 0x8000) = false →
      Does (.jtagDbgAccess t op a crc v) s (fun s' => s'.workGet (a - 0x8000) = v
        ∧ s'.host.jtag.resp = { status := rsOk, addr := a.val }))))

/-! ### Host frames, register writes and events -/

/-- Writes of registers and memories (R14, R72 to R74): an address that names nothing, a register of an absent tile and a value out
of its range leave every register as it was and set WREJ; a word of working memory is written unless it is locked, the record
memory is never written, and TRACE is written while it answers. DMA requests that win the internal bus are served before the
write; with none it meets the state at its instant (log entry 132). A reserved code counts as out of range (log entry 11), and
the bounds of the combustion indices are log entry 140. Levels: while the device runs at level B, a write that would change the
thresholds of the slack governor changes nothing and sets WREJ; at level E thresholds in their ranges and order are taken. The
write comes after the accesses that win (log entry 132). -/
def Obligations.RegisterWrites : Prop :=
  (∀ (t : Word) (a : Fin 65536) (v : Word) (s : State),
    let s0 := (s.at t).busTurn .host
    let page := s0.get Reg.SYS_PAGE_PAGE
    let rejected := fun (s' : State) => s'.get Reg.SYS_STATUS_WREJ = 1 ∧ s'.work = s0.work ∧ s'.trace = s0.trace
      ∧ s'.recMem = s0.recMem ∧ ∀ x, x ≠ Reg.SYS_STATUS_addr → s'.reg x = s0.reg x
    s.early (.registerWrite t a v) = false →
    (s.busRequests = [] → s.pending = [] → s0 = s.at t)
    ∧ (s.power ≠ .up → Idles (.registerWrite t a v) s t)
    ∧ (s.power = .up →
      (a.val < 0x8000 → regAt a = none → Does (.registerWrite t a v) s rejected)
        ∧ (∀ r i j, a.val < 0x8000 → regAt a = some (r, i, j) →
          (s0.absent r i = true → Does (.registerWrite t a v) s rejected)
            ∧ (a.val ≠ Reg.SYS_PWR_addr → (s0.mergeWrite r a i v).fits = false → Does (.registerWrite t a v) s rejected))
        ∧ (a.val = Reg.SYS_PAGE_addr → Does (.registerWrite t a v) s (fun s' =>
          s'.get Reg.SYS_PAGE_PAGE = Reg.SYS_PAGE_PAGE.get v ∧ (16 ≤ v.toNat → s'.get Reg.SYS_STATUS_WREJ = 1)
            ∧ ∀ x, x ≠ Reg.SYS_PAGE_addr → x ≠ Reg.SYS_STATUS_addr → s'.reg x = s0.reg x))
        ∧ (0x8000 ≤ a.val → page = 4 →
          (s0.workLocked (a - 0x8000) = true → Does (.registerWrite t a v) s rejected)
            ∧ (s0.workLocked (a - 0x8000) = false → Does (.registerWrite t a v) s (fun s' =>
              s'.workGet (a - 0x8000) = v ∧ ∀ x : Nat, x ≠ a - 0x8000 → s'.workGet x = s0.workGet x)))
        ∧ (0x8000 ≤ a.val → page = 5 ∨ page = 6 → Does (.registerWrite t a v) s rejected)
        ∧ (0x8000 ≤ a.val → page < 4 →
          (s0.domain 2 = 0 → Does (.registerWrite t a v) s (fun s' => s'.regs = s0.regs
              ∧ s'.traceGet (32768 * page + (a - 0x8000)) = v
              ∧ ∀ x, x ≠ 32768 * page + (a - 0x8000) → s'.traceGet x = s0.traceGet x))
            ∧ (s0.domain 2 ≠ 0 → Does (.registerWrite t a v) s (fun s' => s' = s0)))))
  ∧ (∀ (t : Word) (v : Word) (s : State), s.power = .up →
    let c : Instr := .registerWrite t ⟨Reg.SYS_GOV_CTRL_addr, by decide⟩ v
    let s0 := (s.at t).busTurn .host
    let up := Reg.SYS_GOV_CTRL_GOV_UP.get v
    let down := Reg.SYS_GOV_CTRL_GOV_DOWN.get v
    s.early c = false →
    (s0.levelE = false → up ≠ s0.get Reg.SYS_GOV_CTRL_GOV_UP ∨ down ≠ s0.get Reg.SYS_GOV_CTRL_GOV_DOWN → Does c s (fun s' =>
      s'.get Reg.SYS_STATUS_WREJ = 1 ∧ ∀ x, x ≠ Reg.SYS_STATUS_addr → s'.reg x = s0.reg x))
    ∧ (s0.levelE = true → 60 ≤ up → up ≤ 90 → 40 ≤ down → down ≤ 80 → down + 10 ≤ up → Does c s (fun s' =>
      s'.get Reg.SYS_GOV_CTRL_GOV_UP = up ∧ s'.get Reg.SYS_GOV_CTRL_GOV_DOWN = down
        ∧ ∀ x, x ≠ Reg.SYS_GOV_CTRL_addr → x ≠ Reg.SYS_STATUS_addr → s'.reg x = s0.reg x)))

/-- Host frames. A frame first consumes the word that its response carried. A READ of a register or memory meets every event that
waits already in the FIFO, and answers what then reads there, 0 for a reserved address, in the next frame's response; a late one
answers LATE and counts; TRACE that is off answers BUS_ERR (log entry 27). While the reset event is due, no event waits in the
FIFO and the word read shows no status bit whose event still waits (log entry 143). A NOP answers OK, a faulty frame its fault.
A HOST_WRITE does what the write of the register does and answers OK or BUS_ERR, a late one LATE. DMA requests that win the
internal bus are served before the access (log entry 132). The 80 bits of a frame are those of Tables 11.1 to 11.3, and HMISO is
high-impedance while HCS_N is high. While the device is held in reset or stands by, the host's frames and the debug port's
accesses have no effect. -/
def Obligations.HostFrames : Prop :=
  (∀ (t : Word) (a : Fin 65536) (late : Bool) (s : State), s.power = .up →
    let s0 := (s.at t).shiftedOut s.host.resp
    let s1 := (s0.mergeAll s0.reports.length).busTurn .host
    let page := s1.get Reg.SYS_PAGE_PAGE
    let answers := fun (s1 : State) (r : Response) (s' : State) => s'.host.resp = r ∧ s'.fifo = s1.fifo ∧ s'.host.popped = s1.host.popped
      ∧ s'.work = s1.work ∧ s'.trace = s1.trace ∧ ∀ x, x ≠ Reg.LNK_HSPI_addr → s'.reg x = s1.reg x
    let lates := fun (s1 s' : State) => s'.get Reg.LNK_HSPI_LATES
      = if late then min (s1.get Reg.LNK_HSPI_LATES + 1) Reg.LNK_HSPI_LATES.max else s1.get Reg.LNK_HSPI_LATES
    let value := fun (w : Option Word) => if late then { status := rsLate, addr := a.val }
      else ({ status := rsOk, addr := a.val, data := if s1.mergeOpen then w.getD 0 else s1.veil a (w.getD 0) } : Response)
    let bits := fun (op : Nat) (v : Word) => op * 2 ^ 72 + a.val * 2 ^ 56 + frameCheck op a.val * 2 ^ 48 + v.toNat
    (∀ v : Word, hostCommand t 80 (bits 0x22 v) late = .hostWrite t a v late
      ∧ hostCommand t 80 (bits 0x44 v) late = .hostNop t a
      ∧ (a.val ≠ Reg.SYS_EVPOP_addr → a.val ≠ Reg.PRX_PEVPOP_addr → hostCommand t 80 (bits 0x11 v) late = .hostRead t a late)
      ∧ ∀ n, n ≠ 80 → hostCommand t n (bits 0x22 v) late = .hostFrameError t .length)
    ∧ (∀ (k : Nat) (s : State), s.hmiso true k = none ∧ s.hmiso false k = some (s.host.resp.bits.testBit (79 - k)))
    ∧ (s.early (.hostRead t a late) = false → a.val < 0x8000 → a.val ∉ [Reg.SYS_EVPOP_addr, Reg.PRX_PEVPOP_addr,
        Reg.WFT_UPD0_addr 0, Reg.WFT_UPD0_addr 1, Reg.WFT_SNAPT_addr 0, Reg.WFT_SNAPT_addr 1] →
      Does (.hostRead t a late) s (fun s' => answers s1 (value (s1.regView a)) s' ∧ lates s1 s'))
    ∧ (s.early (.hostRead t a late) = false → 0x8000 ≤ a.val → (page < 4 → s1.domain 2 = 0) →
      Does (.hostRead t a late) s (fun s' => answers s1 (value (s1.pageView page (a - 0x8000))) s' ∧ lates s1 s'))
    ∧ (s.early (.hostRead t a late) = false → 0x8000 ≤ a.val → page < 4 → s1.domain 2 ≠ 0 →
      Does (.hostRead t a late) s (fun s' => answers s1 { status := if late then rsLate else rsBus, addr := a } s' ∧ lates s1 s'))
    ∧ Does (.hostNop t a) s (answers s0 { status := rsOk, addr := a })
    ∧ Does (.hostFrameError t .length) s (fun s' => answers (s.at t) { status := rsLength } s'
      ∧ s'.get Reg.LNK_HSPI_LENERR = min (s.get Reg.LNK_HSPI_LENERR + 1) Reg.LNK_HSPI_LENERR.max)
    ∧ (∀ x : Fin 65536, Does (.hostFrameError t (.crc x)) s (fun s' => answers s0 { status := rsCrc, addr := x } s'
        ∧ s'.get Reg.LNK_HSPI_CRCERR = min (s.get Reg.LNK_HSPI_CRCERR + 1) Reg.LNK_HSPI_CRCERR.max)
      ∧ Does (.hostFrameError t (.opcode x)) s (answers s0 { status := rsOpcode, addr := x }))
    ∧ (∀ v : Word,
      let s2 := s0.busTurn .host
      let w := s2.busWrite .host false (s2.get Reg.SYS_PAGE_PAGE) a v
      s.early (.hostWrite t a v late) = false → w.1.power = .up → Does (.hostWrite t a v late) s (fun s' => lates w.1 s' ∧ s'.work = w.1.work ∧ s'.trace = w.1.trace
        ∧ (∀ x, x ≠ Reg.LNK_HSPI_addr → s'.reg x = w.1.reg x)
        ∧ s'.host.resp = { status := if late then rsLate else if w.2 = ackAccept then rsOk else rsBus, addr := a.val })))
  ∧ (∀ (t : Word) (a : Fin 65536) (v : Word) (late : Bool) (f : FrameFault) (s : State), s.power ≠ .up →
    (∀ c ∈ [Instr.hostRead t a late, .hostWrite t a v late, .hostNop t a, .hostFrameError t f, .eventPop t late,
      .pairEventPop t late], s.early c = false → Idles c s t)
    ∧ ∀ op crc, Does (.jtagDbgAccess t op a crc v) s (fun s' => s'.regs = s.regs ∧ s'.work = s.work ∧ s'.fifo = s.fifo))

/-- The event FIFOs as the host reads them: SYS_EVPOP answers the next unread word of the oldest entry, which is consumed only when
a later frame has shifted the response out, and the entry leaves with its word 2; an empty FIFO answers 0, and a late read
consumes nothing. PRX_PEVPOP does so for the released entries of the pair FIFO, which leave with their word 4. Reports that wait
are merged before the read (log entry 143), and DMA requests that win are served (log entry 132). In a unit that is no pair
member nothing holds an entry back (the model's reading, log entry 149). -/
def Obligations.EventPops : Prop :=
  ∀ (t : Word) (a : Fin 65536) (s : State), s.power = .up →
    (let s0 := (s.at t).shiftedOut s.host.resp
      let s1 := (s0.mergeAll s0.reports.length).busTurn .host
      let kept := fun (s' : State) => s'.fifo = s1.fifo ∧ s'.host.popped = s1.host.popped ∧ s'.pair = s1.pair
      let pops := fun (late : Bool) (r : Response) => s.early (.eventPop t late) = false →
        Does (.eventPop t late) s (fun s' => kept s' ∧ s'.host.resp = r)
      let pairPops := fun (late : Bool) (r : Response) => s.early (.pairEventPop t late) = false →
        Does (.pairEventPop t late) s (fun s' => kept s' ∧ s'.host.resp = r)
      let read := fun (a : Nat) (w : Word) => if s1.mergeOpen then w else s1.veil a w
      (∀ e rest, s1.fifo = e :: rest → pops false { status := rsOk, addr := Reg.SYS_EVPOP_addr
                                                    data := read Reg.SYS_EVPOP_addr (e.word s1.host.popped)
                                                    pop := some (false, e, s1.host.popped) })
        ∧ pops true { status := rsLate, addr := Reg.SYS_EVPOP_addr }
        ∧ (s1.fifo = [] → pops false { status := rsOk, addr := Reg.SYS_EVPOP_addr, data := read Reg.SYS_EVPOP_addr 0 })
        ∧ pairPops true { status := rsLate, addr := Reg.PRX_PEVPOP_addr }
        ∧ (s1.hasTile 0x10 0 = true → ∀ e rest, s1.pair.fifo = e :: rest → s1.released e = true →
          pairPops false { status := rsOk, addr := Reg.PRX_PEVPOP_addr, data := read Reg.PRX_PEVPOP_addr (e.word s1.pair.popped)
                           pop := some (true, e.ev, s1.pair.popped) })
        ∧ (s1.hasTile 0x10 0 = false ∨ s1.pair.fifo = [] ∨ (∃ e rest, s1.pair.fifo = e :: rest ∧ s1.released e = false) →
          pairPops false { status := rsOk, addr := Reg.PRX_PEVPOP_addr, data := read Reg.PRX_PEVPOP_addr 0 }))
    ∧ (∀ e rest, s.fifo = e :: rest → s.host.resp.pop = some (false, e, s.host.popped) →
      (s.host.popped < 2 → Does (.hostNop t a) s (fun s' => s'.fifo = s.fifo ∧ s'.host.popped = s.host.popped + 1))
        ∧ (2 ≤ s.host.popped → Does (.hostNop t a) s (fun s' => s'.fifo = rest ∧ s'.host.popped = 0
          ∧ s'.get Reg.SYS_EVSTAT_LEVEL = rest.length % 512))
        ∧ Does (.hostFrameError t .length) s (fun s' => s'.fifo = s.fifo ∧ s'.host.popped = s.host.popped))
    ∧ (∀ e rest, s.pair.fifo = e :: rest → s.released e = true → s.host.resp.pop = some (true, e.ev, s.pair.popped) →
      (s.pair.popped < 4 → Does (.hostNop t a) s (fun s' => s'.pair = { s.pair with popped := s.pair.popped + 1 }))
        ∧ (4 ≤ s.pair.popped → Does (.hostNop t a) s (fun s' => s'.pair = { s.pair with fifo := rest, popped := 0 })))

/-- The event merge: the oldest report gets the next ESN and joins the host's FIFO, or raises LOST where 256 entries wait, but for one that leaves at
this instant; nothing is merged while the reset event is due. Which report is the oldest is the order of the commands, and which frames
end at this instant is read from the queue (the model's choices, log entries 33 and 144). -/
def Obligations.EventMerge : Prop :=
  ∀ (t : Word) (r : Report) (rest : List Report) (s : State),
    (s.reports = r :: rest → s.mergeOpen = true →
      let held := if (s.at t).entryLeaves then s.fifo.length - 1 else s.fifo.length
      let esn := (s.get Reg.SYS_ESN_LAST + 1) % 2 ^ 32
      Does (.eventMerge t) s (fun s' => s'.get Reg.SYS_ESN_LAST = esn ∧ rest <+: s'.reports
        ∧ (held < 256 → s'.fifo = s.fifo ++ [(s.at t).entryOf r esn]
          ∧ s'.get Reg.SYS_EVSTAT_LEVEL = s.fifo.length + 1 ∧ s'.get Reg.SYS_EVSTAT_LOST = s.get Reg.SYS_EVSTAT_LOST)
        ∧ (256 ≤ held → s'.fifo = s.fifo ∧ s'.get Reg.SYS_EVSTAT_OVF = 1
          ∧ s'.get Reg.SYS_EVSTAT_LOST = min (s.get Reg.SYS_EVSTAT_LOST + 1) Reg.SYS_EVSTAT_LOST.max)))
    ∧ (s.reports = [] ∨ s.mergeOpen = false → Idles (.eventMerge t) s t)

/-! ### DMA channels -/

/-- Triggers (R554, R555): a GO or a trigger on its way starts a load in WAIT, waits in the pending slot while a descriptor loads,
runs or pauses, is counted TRIG_OVR where the slot is taken and TRIG_LOST in the other states. Without the DMA tile a GO is
refused. That FAIL.RETRIES counts anew from the load is log entry 84. STOP, RESUME, EN and the return of a domain (R563 to R567,
R569). STOP ends WAIT and PAUSE at once and a descriptor that runs at its end; one at the instant of the trigger that left WAIT
comes first, and the trigger is lost; RESUME serves STOPPED and HALTED only; EN takes IDLE to WAIT, and cleared leads to IDLE.
Without the DMA tile each is refused. EN cleared in STOPPED is the model's reading (log entry 83), and the domain whose return
counts is TRACE alone (log entry 27). -/
def Obligations.DmaTriggersAndControl : Prop :=
  (∀ (t a : Word) (c : Fin 16) (rest : List (Nat × Word)) (s : State),
    let st := s.dmState c
    let served := fun (time : Word) (s' : State) =>
      (st = dmWait → s'.dmState c = dmLoad ∧ (s'.ch c).time = time ∧ (s'.ch c).left = some t ∧ (s'.ch c).slot = (s.ch c).slot
        ∧ s'.get (Reg.DMA_FAIL_RETRIES c) = 0)
        ∧ (st ∈ [dmLoad, dmRun, dmPause] → (s.ch c).slot = none → s'.dmState c = st ∧ (s'.ch c).slot = some time
          ∧ s'.get (Reg.DMA_STAT_PEND c) = 1)
        ∧ (st ∈ [dmLoad, dmRun, dmPause] → (s.ch c).slot ≠ none → s'.ch c = s.ch c
          ∧ s'.get (Reg.DMA_CNT_TRIG_OVR c) = min (s.get (Reg.DMA_CNT_TRIG_OVR c) + 1) (Reg.DMA_CNT_TRIG_OVR c).max)
        ∧ (st ∉ [dmWait, dmLoad, dmRun, dmPause] → s'.ch c = s.ch c ∧ s'.dmState c = st
          ∧ s'.get (Reg.DMA_CNT_TRIG_LOST c) = min (s.get (Reg.DMA_CNT_TRIG_LOST c) + 1) (Reg.DMA_CNT_TRIG_LOST c).max)
    (s.early (.dmaGo t c) = false → s.dmaOn = true → Does (.dmaGo t c) s (served t))
    ∧ (s.early (.dmaTrigger t c) = false → s.dmaOn = true → takeTrigger c s.dmaTrigs = (some a, rest) → Does (.dmaTrigger t c) s (fun s' => served a s' ∧ s'.dmaTrigs = rest))
    ∧ (s.early (.dmaTrigger t c) = false → (takeTrigger c s.dmaTrigs).1 = none → Idles (.dmaTrigger t c) s t)
    ∧ (s.early (.dmaGo t c) = false → s.dmaOn = false → Refused (.dmaGo t c) s))
  ∧ (∀ (t : Word) (c : Fin 16) (s : State),
    (s.dmaOn = false → Refused (.dmaStop t c) s ∧ Refused (.dmaDisable t c) s
      ∧ (s.early (.dmaResume t c) = false → Refused (.dmaResume t c) s)
      ∧ (s.early (.dmaEnable t c) = false → Refused (.dmaEnable t c) s))
    ∧ (s.dmaOn = true →
    let st := s.dmState c
    let k := s.ch c
    let early := st = dmLoad ∧ k.left = some t ∧ k.desc = none
    let on := s.is (Reg.DMA_CTRL_EN c)
    let waits := fun (s' : State) => (k.slot = none → s'.dmState c = dmWait ∧ s'.ch c = k)
      ∧ ∀ a, k.slot = some a → s'.dmState c = dmLoad ∧ (s'.ch c).time = a ∧ (s'.ch c).slot = none
        ∧ s'.get (Reg.DMA_STAT_PEND c) = 0
    (st = dmWait ∨ st = dmPause → Does (.dmaStop t c) s (fun s' => s'.dmState c = (if on then dmStopped else dmIdle)
      ∧ (s'.ch c).slot = none ∧ s'.get (Reg.DMA_STAT_PEND c) = 0))
    ∧ (early → Does (.dmaStop t c) s (fun s' => s'.dmState c = (if on then dmStopped else dmIdle) ∧ (s'.ch c).slot = none
      ∧ s'.get (Reg.DMA_CNT_TRIG_LOST c) = min (s.get (Reg.DMA_CNT_TRIG_LOST c) + 1) (Reg.DMA_CNT_TRIG_LOST c).max))
    ∧ (st = dmIdle ∨ st = dmStopped ∨ st = dmHalted → Does (.dmaStop t c) s (fun s' => s'.dmState c = st
      ∧ (s'.ch c).slot = none ∧ s'.get (Reg.DMA_STAT_PEND c) = 0))
    ∧ (st = dmRun ∨ (st = dmLoad ∧ ¬ early) → Does (.dmaStop t c) s (fun s' => s'.dmState c = st
      ∧ (s'.ch c).stop = true ∧ (s'.ch c).slot = none ∧ (s'.ch c).desc = k.desc))
    ∧ (s.early (.dmaResume t c) = false → st = dmStopped ∨ st = dmHalted → Does (.dmaResume t c) s (fun s' => waits s' ∧ s'.get (Reg.DMA_STAT_CAUSE c) = 0))
    ∧ (s.early (.dmaResume t c) = false → st ≠ dmStopped ∧ st ≠ dmHalted → Does (.dmaResume t c) s (fun s' => s'.get Reg.SYS_STATUS_WREJ = 1 ∧ s'.dma = s.dma
      ∧ ∀ a, a ≠ Reg.SYS_STATUS_addr → s'.reg a = s.reg a))
    ∧ (s.early (.dmaEnable t c) = false → st = dmIdle → Does (.dmaEnable t c) s (fun s' => waits s' ∧ s'.get (Reg.DMA_CTRL_EN c) = 1))
    ∧ (s.early (.dmaEnable t c) = false → st ≠ dmIdle → Does (.dmaEnable t c) s (fun s' => s'.dmState c = st ∧ s'.dma = s.dma
      ∧ s'.get (Reg.DMA_CTRL_EN c) = 1))
    ∧ (st = dmIdle ∨ st = dmHalted → Does (.dmaDisable t c) s (fun s' => s'.dmState c = st ∧ s'.get (Reg.DMA_CTRL_EN c) = 0))
    ∧ (st ∈ [dmWait, dmPause, dmStopped] ∨ early → Does (.dmaDisable t c) s (fun s' => s'.dmState c = dmIdle
      ∧ s'.get (Reg.DMA_CTRL_EN c) = 0))
    ∧ (st = dmRun ∨ (st = dmLoad ∧ ¬ early) → Does (.dmaDisable t c) s (fun s' => s'.dmState c = st ∧ (s'.ch c).stop = true
      ∧ s'.get (Reg.DMA_CTRL_EN c) = 0))
    ∧ (s.early (.dmaDomainReturn t c) = false → st = dmPause → s.domain 2 = 0 → Does (.dmaDomainReturn t c) s (fun s' => s'.dmState c = dmLoad
      ∧ (s'.ch c).time = k.time ∧ (s'.ch c).desc = none ∧ s'.get (Reg.DMA_PTR_PTR c) = s.get (Reg.DMA_PTR_PTR c)))
    ∧ (s.early (.dmaDomainReturn t c) = false → st ≠ dmPause ∨ s.domain 2 ≠ 0 → Idles (.dmaDomainReturn t c) s t)))

/-- A descriptor load (R550, R551, R560) and the bus grant (R59, R61, R525). Of two requests that arrive within 8 ns the bus serves the
one with the earlier time word, on equal ones the lower master index, else the one that came first (that 8 ns are 12 whole time units is
log entry 135). Four words that pass the checks start the descriptor, with up to two beats in flight; a PTR that is no multiple
of 4 and words that fail the checks complete with ERROR and halt the channel with LOAD_ERR, as does a fetch whose ERROR has used up RETRY;
that the address of a failed check is PTR is the model's reading (log entry 147). A fetch from a domain that is off pauses the channel.
Words that were accepted are not fetched again. That MISM and FIRST are cleared at the load, that NEXT is checked with LAST and that
BUSY keeps LOAD is log entry 84; the fetch takes place at its grant (log entry 132). -/
def Obligations.DmaDescriptorLoad : Prop :=
  (∀ r x : BusReq, 0 ≤ sdiff x.asked r.asked → busWinner [r, x] =
    if elapsed r.asked x.asked ≤ 12 ∧ (sdiff x.time r.time < 0 ∨ (x.time = r.time ∧ x.idx < r.idx)) then some x else some r)
  ∧ ∀ (t : Word) (c : Fin 16) (s : State),
    s.early (.dmaDescriptorLoad t c) = false →
    (s.dmaOn = false ∨ s.dmState c ≠ dmLoad → Idles (.dmaDescriptorLoad t c) s t)
    ∧ (s.dmaOn = true → s.dmState c = dmLoad →
    let s1 := if (s.ch c).fetched = none then (s.at t).grantsTo c busFuel else s.at t
    let p := s1.get (Reg.DMA_PTR_PTR c)
    let tries := (s1.ch c).tries
    let halted := fun (a ack : Nat) (s' : State) => s'.dmState c = dmHalted ∧ s'.get (Reg.DMA_STAT_CAUSE c) = hcLoad
      ∧ s'.get (Reg.DMA_PTR_PTR c) = p ∧ s'.get (Reg.DMA_FAIL_ADDR c) = a % 2 ^ 20 ∧ s'.get (Reg.DMA_FAIL_ACK c) = ack
    (∀ x, (s.ch c).fetched = none → busWinner s.busRequests = some x → x.idx = (Master.dma c).index →
      let q := s.get (Reg.DMA_PTR_PTR c)
      let got := (s.ch c).got
      let r := (s.at t).fetchWords c (stepAddr q true 0 got.length) (4 - got.length)
      (s1.ch c).fetched = if q % 4 = 0 then some (got ++ r.1, r.2.2) else some (got, none))
    ∧ (∀ ws, s1.dmState c = dmLoad → (s1.ch c).fetched = some (ws, none) →
      let d := descOf ws
      (p % 4 = 0 → descOk ws = true → Does (.dmaDescriptorLoad t c) s (fun s' => s'.dmState c = dmRun
          ∧ (s'.ch c).desc = some d ∧ (s'.ch c).issued = min 2 d.count ∧ (s'.ch c).flight.length = min 2 d.count
          ∧ (∃ b ∈ (s'.ch c).flight[0]?, b.idx = 0 ∧ b.dst = d.dst ∧ (d.mode % 2 = 0 → b.src = d.src))
          ∧ s'.get (Reg.DMA_CMP_MISM c) = 0 ∧ s'.get (Reg.DMA_CMP_FIRST c) = 0
          ∧ s'.get (Reg.DMA_STAT_COUNT c) = d.count - min 2 d.count))
        ∧ (p % 4 ≠ 0 ∨ descOk ws = false → Does (.dmaDescriptorLoad t c) s (halted p ackError)))
    ∧ (∀ ws a, s1.dmState c = dmLoad →
      ((s1.ch c).fetched = some (ws, some (a, ackError)) →
          (s1.get (Reg.DMA_CFG_RETRY c) ≤ tries → Does (.dmaDescriptorLoad t c) s (halted a ackError))
            ∧ (tries < s1.get (Reg.DMA_CFG_RETRY c) → Does (.dmaDescriptorLoad t c) s (fun s' => s'.dmState c = dmLoad
              ∧ (s'.ch c).fetched = none ∧ (s'.ch c).got = ws ∧ (s'.ch c).tries = tries + 1
              ∧ s'.get (Reg.DMA_FAIL_RETRIES c) = min (s1.get (Reg.DMA_FAIL_RETRIES c) + 1) 7)))
        ∧ ((s1.ch c).fetched = some (ws, some (a, ackBusy)) → Does (.dmaDescriptorLoad t c) s (fun s' => s'.dmState c = dmLoad
          ∧ (s'.ch c).fetched = none ∧ (s'.ch c).got = ws ∧ (s'.ch c).tries = tries))
        ∧ ((s1.ch c).fetched = some (ws, some (a, ackOff)) → (s1.ch c).stop = false → Does (.dmaDescriptorLoad t c) s (fun s' =>
          s'.dmState c = dmPause ∧ s'.get (Reg.DMA_PTR_PTR c) = p))))

/-- Beats (R549, R552, R553, R558 to R561). How an address steps, with and without wrap. A granted beat inside working memory moves
its word in COPY, writes the fill word in FILL, and compares two words in COMPARE or the fill word with one in CHECK, where a difference
raises MISMS and the first one sets MISM and FIRST; an accepted one lets the next go, and the
last one ends the descriptor: DONES counts, PTR goes on to NEXT. ERROR is tried again until RETRY is used up, each retry raising
FAIL.RETRIES, then FAIL names the access, and the channel halts once no beat is in flight; a domain that is off pauses the channel at its
first beat and halts it later. A beat that met BUSY is requested again. Responses arrive oldest first (log entry 82); an access takes place
at its grant, and the operand of the command holds for a beat that was not granted before (log entry 132). -/
def Obligations.DmaBeats : Prop :=
  (∀ a k : Nat, (∀ w, stepAddr a false w k = a)
    ∧ (a < 0x8000 → stepAddr a true 0 k = (a + k) % 65536)
    ∧ (∀ w, w ≠ 0 → w ≤ 15 → a < 0x8000 → stepAddr a true w k = a / 2 ^ w * 2 ^ w + (a + k) % 2 ^ w)
    ∧ (∀ w, w ≤ 17 → a < 2 ^ 20 → isWin a = true → isWin (stepAddr a true w k) = true ∧ winVal (stepAddr a true w k)
      = if w = 0 then (winVal a + k) % 2 ^ 19 else winVal a / 2 ^ w * 2 ^ w + (winVal a + k) % 2 ^ w))
  ∧ ∀ (t : Word) (c : Fin 16) (busy : Bool) (s : State), s.early (.dmaBeatResponse t c busy) = false →
    (s.dmState c ≠ dmRun ∨ (s.ch c).flight = [] → Idles (.dmaBeatResponse t c busy) s t)
    ∧ ∀ (d : Desc) (b : Beat) (rest : List Beat), s.dmState c = dmRun →
    (s.ch c).desc = some d → (s.ch c).flight = b :: rest → (s.ch c).failed = none →
    let again := fun (n : Nat) (s' : State) => s'.dmState c = dmRun
      ∧ (s'.ch c).flight = { b with retries := n, ans := none, asked := t } :: rest ∧ s'.work = s.work
    let goesOn := fun (s' : State) => s'.dmState c = dmRun ∧ rest <+: (s'.ch c).flight
      ∧ (s'.ch c).flight.length = max rest.length (min 2 (rest.length + (d.count - (s.ch c).issued)))
      ∧ ∀ o ∈ (s'.ch c).flight.drop rest.length, o.dst = stepAddr d.dst d.dinc d.dwrap o.idx
        ∧ (d.mode % 2 = 0 → o.src = stepAddr d.src d.sinc d.swrap o.idx)
    let ends := fun (s' : State) => s'.get (Reg.DMA_STAT_DONES c) = (s.get (Reg.DMA_STAT_DONES c) + 1) % 2 ^ 23
      ∧ s'.get (Reg.DMA_PTR_PTR c) = d.next % 2 ^ 20 ∧ (s'.ch c).desc = none
      ∧ (d.last = true → s'.dmState c = if s.is (Reg.DMA_CTRL_EN c) then dmStopped else dmIdle)
    let accepted := fun (busy : Bool) (p : State → Prop) =>
      (b.idx + 1 ≠ d.count → Does (.dmaBeatResponse t c busy) s (fun s' => p s' ∧ goesOn s'))
        ∧ (b.idx + 1 = d.count → Does (.dmaBeatResponse t c busy) s (fun s' => p s' ∧ ends s'))
    (b.ans = none → busy = true → Does (.dmaBeatResponse t c busy) s (again b.retries))
    ∧ (∀ (r : BusReq) (x y : Fin 32768), b.ans = none → busy = false → busWinner s.busRequests = some r →
      r.idx = (Master.dma c).index → (∀ o ∈ rest, o.idx ≠ b.idx) → d.mode < 4 → (d.mode % 2 = 0 → b.src = 0x48000 + x) →
      b.dst = 0x48000 + y →
      let word : Word := if d.mode % 2 = 0 then s.workGet x else BitVec.ofNat 48 d.src
      (d.mode < 2 → s.workLocked y = false → accepted busy (fun s' => s'.workGet y = word ∧ ∀ z, z ≠ y.val → s'.workGet z = s.workGet z))
        ∧ (2 ≤ d.mode → accepted busy (fun s' => s'.work = s.work
          ∧ (word = s.workGet y → s'.reg (Reg.DMA_CMP_addr c) = s.reg (Reg.DMA_CMP_addr c))
          ∧ (word ≠ s.workGet y → s'.get (Reg.DMA_CMP_MISM c) = 1
            ∧ s'.get (Reg.DMA_CMP_FIRST c)
              = (if s.is (Reg.DMA_CMP_MISM c) then s.get (Reg.DMA_CMP_FIRST c) else b.idx % 2 ^ 18)
            ∧ s'.get (Reg.DMA_CMP_MISMS c) = min (s.get (Reg.DMA_CMP_MISMS c) + 1) (Reg.DMA_CMP_MISMS c).max))))
    ∧ (∀ a, b.ans = some (ackAccept, a) → accepted busy (fun s' => s'.work = s.work))
    ∧ (∀ a, b.ans = some (ackBusy, a) → Does (.dmaBeatResponse t c busy) s (again b.retries))
    ∧ (∀ a, b.ans = some (ackError, a) →
      (b.retries < s.get (Reg.DMA_CFG_RETRY c) → Does (.dmaBeatResponse t c busy) s (fun s' => again (b.retries + 1) s'
          ∧ s'.get (Reg.DMA_FAIL_RETRIES c) = min (s.get (Reg.DMA_FAIL_RETRIES c) + 1) 7))
        ∧ (s.get (Reg.DMA_CFG_RETRY c) ≤ b.retries → Does (.dmaBeatResponse t c busy) s (fun s' =>
          s'.get (Reg.DMA_FAIL_ADDR c) = a % 2 ^ 20 ∧ s'.get (Reg.DMA_FAIL_ACK c) = ackError
            ∧ (b.idx + 1 = d.count ∨ rest = [] → s'.dmState c = dmHalted)
            ∧ (b.idx + 1 ≠ d.count → rest ≠ [] → s'.dmState c = dmRun ∧ (s'.ch c).flight = rest))))
    ∧ (∀ a, b.ans = some (ackOff, a) →
      (b.idx = 0 → (s.ch c).stop = false → Does (.dmaBeatResponse t c busy) s (fun s' => s'.dmState c = dmPause
          ∧ (s'.ch c).flight = []))
        ∧ (b.idx ≠ 0 → Does (.dmaBeatResponse t c busy) s (fun s' => s'.dmState c = dmHalted
          ∧ s'.get (Reg.DMA_STAT_CAUSE c) = hcTorn ∧ s'.get (Reg.DMA_FAIL_ADDR c) = a % 2 ^ 20
          ∧ s'.get (Reg.DMA_FAIL_ACK c) = ackOff)))

/-! ### Strandline -/

/-- Commits are asked for: by the host, at once or PENDING during a commit, and by COMMIT_PER of RUNNING time. Without the
Strandline tile the host's command is refused. A full commit and its records. It starts when one is asked for, the recovery is
done and none runs: BUSY, the signature rewrites, the single records asked for and the list of R586 in order, the first record
with its words at the pointer, or at slot 0 where it does not fit. A record is done when its writes have had their time: its
words stand in record memory, SEQ and the pointer go on, and with the last one the commit ends with its event. That one commit
serves what is pending is the model's reading (log entry 78), that a commit waits for READY is log entry 80, and that a record's
body is taken at the start of its writing is log entry 146. -/
def Obligations.StrandlineCommits : Prop :=
  (∀ (t : Word) (s : State),
    (s.strandOn = true → s.is Reg.REC_STAT_BUSY = false → Does (.strandlineCommit t) s (fun s' =>
      s'.strand = { s.strand with want := true } ∧ s'.regs = s.regs))
    ∧ (s.strandOn = true → s.is Reg.REC_STAT_BUSY = true → Does (.strandlineCommit t) s (fun s' =>
      s'.strand = { s.strand with want := true } ∧ s'.get Reg.REC_STAT_PENDING = 1
        ∧ ∀ a, a ≠ Reg.REC_STAT_addr → s'.reg a = s.reg a))
    ∧ (s.strandOn = false → Refused (.strandlineCommit t) s)
    ∧ (let per := s.get Reg.REC_CTRL_COMMIT_PER * (10000 * ms)
      let sum := s.strand.period + (if s.running then elapsed s.strand.counted t else 0)
      (s.strandOn = true → per ≤ sum → Does (.commitTimer t) s (fun s' =>
          s'.strand = { s.strand with want := true, counted := t, period := sum - per }))
        ∧ (s.strandOn = false ∨ sum < per → Does (.commitTimer t) s (fun s' =>
          s'.strand = { s.strand with counted := t, period := sum } ∧ s'.regs = s.regs))))
  ∧ (∀ (t : Word) (s : State),
    (s.strandOn = true → s.is Reg.REC_STAT_READY = true → s.is Reg.REC_STAT_BUSY = false → s.strand.want = true ∨ s.recJobs ≠ [] →
      let pre := if s.strand.want then s.rewrites else []
      Does (.fullCommit t) s (fun s' => s'.get Reg.REC_STAT_BUSY = 1 ∧ s'.get Reg.REC_STAT_PENDING = 0
        ∧ s'.strand.want = false ∧ s'.strand.full = s.strand.want ∧ s'.recJobs = [] ∧ s'.accGet 1 0 7 = BitVec.ofNat 48 (min ((s.accGet 1 0 7).toNat + 1) (W48 - 1))
        ∧ ∃ j, s'.strand.cur = some j ∧ (j.type, j.key) :: s'.strand.todo
            = pre ++ ((s.recJobs.map Prod.snd).filter (fun x => !pre.contains x)).eraseDups ++ (if s.strand.want then fullList else [])
          ∧ j.start = t
          ∧ j.slot = (if 65535 < 16 * s.get Reg.REC_STAT_WPTR + recLen j.type + 2 then 0 else s.get Reg.REC_STAT_WPTR)
          ∧ j.words = s'.recordWords j.type j.key))
    ∧ (s.strandOn = false ∨ s.is Reg.REC_STAT_READY = false ∨ s.is Reg.REC_STAT_BUSY = true
        ∨ (s.strand.want = false ∧ s.recJobs = []) → Idles (.fullCommit t) s t)
    ∧ (∀ j, s.strand.cur = some j → j.words ≠ [] →
      let stop := addW j.start j.time
      let written := fun (s' : State) => (∀ k < j.words.length, s'.recGet (16 * j.slot + k) = j.words.getD k 0)
        ∧ (∀ x, x < 16 * j.slot ∨ 16 * j.slot + j.words.length ≤ x → s'.recGet x = s.recGet x)
        ∧ s'.get Reg.REC_SEQ_NEXT = (s.get Reg.REC_SEQ_NEXT + 1) % 2 ^ 32
        ∧ s'.get Reg.REC_STAT_WPTR = (j.slot + recSlots j.type) % 4096
      (j.time ≤ elapsed j.start t → s.strand.todo = [] → Does (.recordWriteDone t) s (fun s' => written s'
          ∧ s'.strand.cur = none ∧ s'.get Reg.REC_STAT_BUSY = 0 ∧ s'.get Reg.REC_STAT_PENDING = 0
          ∧ s'.get Reg.REC_CNT_COMMITS = (s.get Reg.REC_CNT_COMMITS + 1) % 2 ^ 32
          ∧ s'.reports = s.reports ++ [⟨0x0F, 0, 1, s.strand.first, none⟩]))
        ∧ (∀ n l, j.time ≤ elapsed j.start t → s.strand.todo = n :: l → Does (.recordWriteDone t) s (fun s' => written s'
          ∧ s'.strand.todo = l ∧ s'.get Reg.REC_STAT_BUSY = s.get Reg.REC_STAT_BUSY
          ∧ ∃ j', s'.strand.cur = some j' ∧ (j'.type, j'.key) = n ∧ j'.start = stop))
        ∧ (elapsed j.start t < j.time → Idles (.recordWriteDone t) s t))
    ∧ (s.strand.cur = none → Idles (.recordWriteDone t) s t))

/-- The histograms of timers and the running time: each valid site counts in its temperature bin, each ready boost controller in
BOOST in its voltage bin, every full second of running in PHASED, LIMP or BORROWED in COUNTERS, before READY too (log entry 80).
The recovery scan ends (R590): pointer and next SEQ follow the newest valid record, 0 and 1 where none is valid; TORN counts the
records without their MARK; the accumulators hold the current copies, or what Table 12.9 begins with where there is none; what
COUNTERS counted before READY is added, with the warnings and Low-water resets of the meantime in its words 6 and 4 (log entry
80). -/
def Obligations.StrandlineTimersAndRecovery : Prop :=
  (∀ (t : Word) (s : State),
    let plus := fun (w : Word) => BitVec.ofNat 48 (min (w.toNat + 1) (W48 - 1))
    (s.strandOn = true → 10 * ms ≤ elapsed s.strand.coilAt t → Does (.coilTempBin t) s (fun s' =>
      s'.strand = { s.strand with coilAt := t } ∧ s'.regs = s.regs ∧ ∀ (b : Fin 12) (c : Fin 4), ∀ n < 8,
        let w := 8 * (4 * b.val + c.val) + n
        s'.accGet 5 0 w = if s.is (Reg.BNK_THM_VALID b c) ∧ n = tempBin (s.getI (Reg.BNK_THM_TEMP b c))
          then plus (s.accGet 5 0 w) else s.accGet 5 0 w))
    ∧ (s.strandOn = false ∨ elapsed s.strand.coilAt t < 10 * ms → Idles (.coilTempBin t) s t)
    ∧ (s.strandOn = true → ms ≤ elapsed s.strand.boostAt t → Does (.boostBin t) s (fun s' =>
      s'.strand = { s.strand with boostAt := t } ∧ s'.regs = s.regs ∧ ∀ (g : Fin 3), ∀ n < 16,
        let v : Int := ((s.get (Reg.BST_STAT_VRAIL g) : Int) - 10 * s.get (Reg.BST_CFG_VSET g)) / 10 + 8
        let w := 16 * g.val + n
        s'.accGet 6 0 w = if s.get (Reg.BST_CFG_MODE g) = 1 ∧ s.is (Reg.BST_STAT_READY g) = true
            ∧ (n : Int) = max 0 (min 15 v)
          then plus (s.accGet 6 0 w) else s.accGet 6 0 w))
    ∧ (s.strandOn = false ∨ elapsed s.strand.boostAt t < ms → Idles (.boostBin t) s t)
    ∧ (let st := s.get (Reg.WRP_SYNC_STATE s.primary)
      let total := s.strand.secs + if s.running = true ∧ 4 ≤ st ∧ st ≤ 6 then elapsed s.strand.secAt t else 0
      (1000 * ms ≤ total → Does (.runSeconds t) s (fun s' => s'.regs = s.regs
          ∧ s'.strand = { s.strand with secAt := t, secs := total - 1000 * ms }
          ∧ s'.accGet 1 0 1 = if s.strandTakes then plus (s.accGet 1 0 1) else s.accGet 1 0 1))
        ∧ (total < 1000 * ms → Does (.runSeconds t) s (fun s' => s'.regs = s.regs ∧ s'.acc = s.acc
          ∧ s'.strand = { s.strand with secAt := t, secs := total }))))
  ∧ (∀ (t : Word) (s : State),
    let all := ((List.range 4096).filter s.headerOk).map s.foundAt
    let valid := (all.filter (·.2)).map (·.1)
    let base := fun (type key k : Nat) => match newestOf (valid.filter (fun f => decide (f.type = type ∧ f.key = key))) with
      | some f => s.recGet (16 * f.slot + 2 + k)
      | none => accDefault (accKey type key k)
    (s.power = .up → s.is Reg.REC_STAT_READY = false → Does (.strandlineReady t) s (fun s' =>
      s'.get Reg.REC_STAT_READY = 1 ∧ s'.recMem = s.recMem
        ∧ s'.get Reg.REC_STAT_TORN = min (all.filter (fun f => !f.2)).length 4095
        ∧ (valid = [] → s'.get Reg.REC_STAT_WPTR = 0 ∧ s'.get Reg.REC_SEQ_NEXT = 1)
        ∧ (∀ f, newestOf valid = some f → s'.get Reg.REC_STAT_WPTR = (f.slot + recSlots f.type) % 4096
          ∧ s'.get Reg.REC_SEQ_NEXT = (f.seq + 1) % 2 ^ 32)
        ∧ (∀ type key, (type, key) ∈ recKinds → type ≠ 1 →
          (type = 2 → ∀ e < 8, bitsOf (s.accGet 2 0 (2 * e)).toNat 8 8 = 0xFF) →
          ∀ k < recLen type, s'.accGet type key k = base type key k)
        ∧ (∀ w < 8, (s'.accGet 1 0 w).toNat = min ((base 1 0 w).toNat + (s.accGet 1 0 w).toNat
          + (if w = 6 then s.strand.ebbs else if w = 4 then s.strand.lwrs else 0)) (2 ^ 48 - 1))
        ∧ (∀ b < 12, ∀ up, (bankHalf up).get (s'.accGet 1 0 (8 + b))
          = min ((bankHalf up).get (base 1 0 (8 + b)) + (bankHalf up).get (s.accGet 1 0 (8 + b))) (2 ^ 24 - 1))
        ∧ s'.strand.ebbs = 0 ∧ s'.strand.lwrs = 0))
    ∧ (s.is Reg.REC_STAT_READY = true ∨ s.power ≠ .up → Idles (.strandlineReady t) s t))

/-! ### Proex -/

/-- The link and what ends it: an alignment takes DOWN to TRAIN; 300 µs without a BEAT takes it DOWN with CHECK NONE, and from UP
counts a loss and reports cause 15; 300 µs without a sample ends the time map; a faulty frame is counted; DIV_CLR ends
BOTH_STOP, and is refused without the tile. In BORROWED the angle source is lost with the partner's angle. Which row BOTH_STOP takes is
read as log entry 90 says. -/
def Obligations.ProexLink : Prop :=
  ∀ (t : Word) (s : State),
    let link := s.get Reg.PRX_STAT_LINK
    (s.proexRx = true → link = 0 → Does (.proexAlign t) s (fun s' => s'.get Reg.PRX_STAT_LINK = 1 ∧ s'.pair.beatAt = t))
    ∧ (s.proexRx = false ∨ link ≠ 0 → Idles (.proexAlign t) s t)
    ∧ (link ≠ 0 → 300 * us ≤ elapsed s.pair.beatAt t → Does (.beatTimeout t) s (fun s' => s'.get Reg.PRX_STAT_LINK = 0
      ∧ s'.get Reg.PRX_STAT_CHECK = 4 ∧ (link = 2 → (15, 0) ∈ s'.causes
        ∧ s'.get Reg.PRX_CNT1_LOSSES = min (s.get Reg.PRX_CNT1_LOSSES + 1) Reg.PRX_CNT1_LOSSES.max)))
    ∧ (link = 0 ∨ elapsed s.pair.beatAt t < 300 * us → Idles (.beatTimeout t) s t)
    ∧ (s.is Reg.PRX_STAT_MAP_VALID = true → 300 * us ≤ elapsed s.pair.mapAt t → Does (.mapTimeout t) s (fun s' =>
      s'.get Reg.PRX_STAT_MAP_VALID = 0 ∧ s'.get Reg.PRX_STAT_LINK = link))
    ∧ (s.is Reg.PRX_STAT_MAP_VALID = false ∨ elapsed s.pair.mapAt t < 300 * us → Idles (.mapTimeout t) s t)
    ∧ (s.primary < 2 → s.sync s.primary = ssBorrowed → (s.at t).partnerAngle = false → Does (.mirrorToothTimeout t) s (fun s' =>
      s'.sync s.primary ≠ ssBorrowed))
    ∧ (s.sync s.primary ≠ ssBorrowed ∨ (s.at t).partnerAngle = true → Idles (.mirrorToothTimeout t) s t)
    ∧ (∀ header, s.receives = true → Does (.proexFrameError t header) s (fun s' =>
      let f := if header then Reg.PRX_CNT0_HCRCERR else Reg.PRX_CNT0_CODEERR
      s'.get f = min (s.get f + 1) f.max ∧ ∀ a, a ≠ Reg.PRX_CNT0_addr → s'.reg a = s.reg a))
    ∧ (∀ header, s.receives = false → Idles (.proexFrameError t header) s t)
    ∧ (s.gone Reg.PRX_CTRL_addr = true → Refused (.divClr t) s)
    ∧ (s.gone Reg.PRX_CTRL_addr = false →
      (s.div = dvBothStop → Does (.divClr t) s (fun s' => s'.div = if s.linkUp then dvSoft else dvSolo))
        ∧ (s.div ≠ dvBothStop → Idles (.divClr t) s t))

/-- A BEAT: the link is UP, CHECK follows Table 13.6a, PRX_PART and the partner's key show what it says, its time and arrival wait
to be echoed; a BEAT that echoes an own one is an offset sample by R604 when the delay is in range, and gives a pair member its
OFS and DELAY. A unit that is no pair member keeps them, the key and the echo (the model's reading, log entry 149). A TOOTH
frame (R614, R617 to R620): it starts the time for which the partner's angle is valid; a comparison shows its difference in
PRX_DIFF, and DIV_TEETH in a row above HARD, above DIV_TOL or within it bring HARD_WAIT, SOFT and AGREE. A loss of LINK that
falls due at this instant comes before the frame, and a Loom stop of this instant before what the comparison brings about (R625;
which stops wait is read from the queue, log entry 150). -/
def Obligations.ProexBeatsAndTeeth : Prop :=
  (∀ (t : Word) (fseq : Fin 256) (p : List Nat) (arrival : Word) (s : State), (∀ x ∈ p, x < 256) →
    let c : Instr := .proexBeatFrame t fseq p arrival
    let theta := rdiv (sdiff (wordAt p 12) (wordAt p 6) + sdiff (wordAt p 0) arrival) 2
    let delay := rdiv (sdiff arrival (wordAt p 6) - sdiff (wordAt p 0) (wordAt p 12)) 2
    (s.receives = true → Does c s (fun s' => s'.get Reg.PRX_STAT_LINK = 2 ∧ s'.pair.beatAt = t
      ∧ s'.pair.echo = (if s.pairMember then some (wordAt p 0, arrival) else s.pair.echo) ∧ s'.get Reg.PRX_STAT_CHECK = s.beatCheck p
      ∧ s'.get Reg.PRX_PART_STATE = payNat p 19 1 / 16 ∧ s'.get Reg.PRX_PART_SRC = payNat p 19 1 / 4 % 4
      ∧ s'.get Reg.PRX_PART_DIV = payNat p 20 1 / 32 ∧ s'.get Reg.PRX_PART_LAST_ESN = payNat p 22 4
      ∧ (s.pairMember = true → s'.pair.partKey = payNat p 30 4 * W48 + payNat p 34 6 ∧ s'.pair.beatKey = s'.pair.partKey
        ∧ s'.pair.partOfs = payNat p 40 4)
      ∧ (s.pairMember = false → s'.pair.partKey = s.pair.partKey ∧ s'.pair.partOfs = s.pair.partOfs)
      ∧ (2, fseq.val) ∈ s'.pair.rxSeq))
    ∧ (s.receives = true → s.pair.sent.contains (wordAt p 6) = true → 0 ≤ delay → delay < 3200 →
      Does c s (fun s' => s'.get Reg.PRX_STAT_MAP_VALID = 1 ∧ s'.pair.mapAt = t
        ∧ (s.pairMember = true → s'.get Reg.PRX_OFS_OFS = unsign 48 theta ∧ s'.get Reg.PRX_DLY_DELAY = delay.toNat)
        ∧ (s.pairMember = false → s'.get Reg.PRX_OFS_OFS = s.get Reg.PRX_OFS_OFS
          ∧ s'.get Reg.PRX_DLY_DELAY = s.get Reg.PRX_DLY_DELAY)))
    ∧ (s.receives = true → s.pair.sent.contains (wordAt p 6) = false ∨ delay < 0 ∨ 3200 ≤ delay →
      Does c s (fun s' => s'.get Reg.PRX_OFS_OFS = s.get Reg.PRX_OFS_OFS ∧ s'.pair.mapAt = s.pair.mapAt))
    ∧ (s.receives = false → Idles c s t))
  ∧ (∀ (t : Word) (fseq : Fin 256) (p : List Nat) (s : State),
    let c : Instr := .proexToothFrame t fseq p
    let u := s.partnerUpdate p
    let lost := s.get Reg.PRX_STAT_LINK ≠ 0 ∧ 300 * us ≤ elapsed s.pair.beatAt t
    let lim := min ((s.get (Reg.WRP_MODE_STALL_N s.primary) * u.period + max u.nspan 1 - 1) / max u.nspan 1)
      (s.get (Reg.WRP_MODE_STALL_CAP s.primary) * ms)
    let own := if s.sync s.primary = ssBorrowed then (s.at t).ownAngleAt s.primary u.time else (s.at t).angleAt s.delivering u.time
    let d := rdiv (sdiff u.angle own * (64 * s.cycleDeg)) W48
    let tol := s.get Reg.PRX_DIVCFG_DIV_TOL
    let hard := s.get Reg.PRX_DIVCFG_HARD
    let n := s.get Reg.PRX_DIVCFG_DIV_TEETH
    (lost → Does c s (fun s' => s'.get Reg.PRX_STAT_LINK = 0 ∧ s'.get Reg.PRX_STAT_CHECK = 4
      ∧ s'.get Reg.PRX_DIFF_LAST = s.get Reg.PRX_DIFF_LAST))
    ∧ (¬ lost → s.receives = true → s.pairMember = true → u.half = false → Does c s (fun s' => s'.pair.toothAt = some t
      ∧ s'.pair.toothFor = lim))
    ∧ (¬ lost → s.receives = true → s.pairMember = true → s.primary < 2 → s.comparable u = true →
      Does c s (fun s' => s'.get Reg.PRX_DIFF_LAST = unsign 24 (satS 24 d)
        ∧ min d.natAbs Reg.PRX_DIFF_MAXABS.max ≤ s'.get Reg.PRX_DIFF_MAXABS)
        ∧ ((s.at t).haltFirst = true → s.div = dvAgree ∨ s.div = dvSoft → Does c s (fun s' => s'.div = s.div))
        ∧ ((s.at t).haltFirst = false → 0 < n → tol < hard →
          (s.div = dvAgree ∨ s.div = dvSoft → hard < d.natAbs → n ≤ s.pair.hc + 1 → Does c s (fun s' =>
              s'.div = dvHardWait ∧ (13, 0) ∈ s'.causes))
            ∧ (s.div = dvAgree → tol < d.natAbs → d.natAbs ≤ hard → n ≤ s.pair.dc + 1 → Does c s (fun s' =>
              s'.div = dvSoft ∧ (12, 0) ∈ s'.causes))
            ∧ (s.div = dvSoft → d.natAbs ≤ tol → n ≤ s.pair.ac + 1 → Does c s (fun s' => s'.div = dvAgree))))
    ∧ (¬ lost → s.receives = false → Idles c s t))

/-- EVENT, RECORD and BLOCK frames of a pair member: an event joins the pair FIFO in its place by R629, by key and with the A-side
first on equal keys, but never before an entry that has begun to be read, or is lost where 128 wait; words 0 to 11 of a record
and the words of a series go to working memory, and a signature or fingerprint received whole is OK. A unit whose link is DOWN
receives none; one that is no pair member only notes their sequence. Accesses of other masters that win come before the words of
a record or a series (log entry 132). What the transmitter does: a BEAT falls due at every 100 µs of the controller's grid (log
entry 88); a TOOTH frame goes at the next character boundary, suspending a normal frame on its way, but not while one is on the
link; else, on a free link, the due BEAT, then an EVENT, a RECORD, a BLOCK. A series that falls due, by its event or its period,
is queued in BLOCKs of eight words. A commit before the first full one since the load sends what the accumulators hold (the
model's reading, log entry 169). -/
def Obligations.ProexFramesAndTransmission : Prop :=
  (∀ (t : Word) (fseq : Fin 256) (p : List Nat) (s : State),
    let u := (s.at t).memTurn .proex
    let fromU := fun (s' : State) => s'.work = u.work ∧ s'.pair.fifo = u.pair.fifo ∧ s'.pair.partKey = u.pair.partKey
    let before := fun (x y : PairEntry) => x.key < y.key ∨ (x.key = y.key ∧ x.bSide = false ∧ y.bSide = true)
    let read := if s.pair.popped = 0 then 0 else 1
    (s.pending = [] → s.busRequests = [] → u = s.at t)
    ∧ (s.receives = false → Idles (.proexEventFrame t fseq p) s t
      ∧ (s.early (.proexRecordFrame t fseq p) = false → Idles (.proexRecordFrame t fseq p) s t)
      ∧ (s.early (.proexBlockFrame t fseq p) = false → Idles (.proexBlockFrame t fseq p) s t))
    ∧ (s.receives = true → s.pairMember = false → Does (.proexEventFrame t fseq p) s (fun s' => s'.work = s.work
      ∧ s'.pair.fifo = s.pair.fifo ∧ s'.pair.partKey = s.pair.partKey))
    ∧ (s.receives = true → u.receives = true → u.pairMember = false →
      (s.early (.proexRecordFrame t fseq p) = false → Does (.proexRecordFrame t fseq p) s fromU)
        ∧ (s.early (.proexBlockFrame t fseq p) = false → Does (.proexBlockFrame t fseq p) s fromU))
    ∧ (s.receives = true → s.pairMember = true →
    (let key := payNat p 18 4 * W48 + payNat p 22 6
      let e : PairEntry := { ev := ⟨wordAt p 0, wordAt p 6, wordAt p 12⟩, key, bSide := !s.sideB }
      s.hasTile 0x10 0 = true → s.is Reg.PRX_CTRL_PEV_EN = true →
        (s.pair.fifo.length < 128 → Does (.proexEventFrame t fseq p) s (fun s' => s'.pair.partKey = key
            ∧ ∃ l l', s.pair.fifo = l ++ l' ∧ s'.pair.fifo = l ++ e :: l' ∧ (∀ x ∈ l.drop read, ¬ before e x)
              ∧ (∀ x ∈ l'.head?, before e x) ∧ (s.pair.popped ≠ 0 → s.pair.fifo ≠ [] → l ≠ [])))
          ∧ (128 ≤ s.pair.fifo.length → Does (.proexEventFrame t fseq p) s (fun s' => s'.pair.fifo = s.pair.fifo
            ∧ s'.get Reg.PRX_PEVSTAT_OVF = 1
            ∧ s'.get Reg.PRX_PEVSTAT_LOST = min (s.get Reg.PRX_PEVSTAT_LOST + 1) Reg.PRX_PEVSTAT_LOST.max))))
    ∧ (s.receives = true → u.receives = true → u.pairMember = true →
    (s.early (.proexRecordFrame t fseq p) = false →
      let j := payNat p 0 1
      (u.checkOk = true → j < 24 → Does (.proexRecordFrame t fseq p) s (fun s' =>
          (∀ k < 12, s'.workGet (0x1C00 + 16 * j + k) = wordAt p (6 * k))
            ∧ (∀ k < 4, s'.workGet (0x1C00 + 16 * j + 12 + k) = 0)
            ∧ ∀ x, x < 0x1C00 + 16 * j ∨ 0x1C00 + 16 * j + 16 ≤ x → s'.workGet x = u.workGet x))
        ∧ (u.checkOk = false ∨ 24 ≤ j → Does (.proexRecordFrame t fseq p) s (fun s' => s'.work = u.work)))
    ∧ (s.early (.proexBlockFrame t fseq p) = false →
      let id := payNat p 0 1
      let ofs := payNat p 2 2
      let area := u.blockArea id
      (u.checkOk = true → Does (.proexBlockFrame t fseq p) s (fun s' =>
          (∀ k < 8, ofs + k < area.2 → s'.workGet (area.1 + ofs + k) = wordAt p (4 + 6 * k))
            ∧ ∀ x, (∀ k < 8, ofs + k < area.2 → x ≠ area.1 + ofs + k) → s'.workGet x = u.workGet x))
        ∧ (u.checkOk = true → area.2 ≠ 0 → area.2 ≤ ofs + 8 →
          (ofs = 0 ∨ (u.pair.whole = true ∧ (u.seqAccept 5 fseq).2 = false ∧ u.pair.series = some (id, ofs))) →
          Does (.proexBlockFrame t fseq p) s (fun s' => s'.pair.series = none ∧ (id = 1 → s'.get Reg.PRX_MIRST_SIG_OK = 1)
            ∧ (id = 2 → s'.get Reg.PRX_MIRST_FP_OK = 1)))
        ∧ (u.checkOk = false → Does (.proexBlockFrame t fseq p) s (fun s' => s'.work = u.work)))))
  ∧ (∀ (t : Word) (s : State),
    let free := (s.at t).linkFree
    let starts := fun (f : ProexFrame) (q : List ProexFrame) (s' : State) =>
      let cs := frameChars f (s.nextFseq f.type)
      s'.pair.sentNormal = cs ∧ s'.pair.busyTo = some (addW t (64 * cs.length)) ∧ s'.pair.queue = q
        ∧ s'.nextFseq f.type = (s.nextFseq f.type + 1) % 256 ∧ s'.regs = s.regs
    let first := fun (n : Nat) => s.pair.queue.find? (fun f => decide (f.type = n))
    let due := notBefore t s.pair.dueAt = true ∧ elapsed s.pair.dueAt t % (100 * us) = 0
    (s.proexTx = true → due → Does (.beatDue t) s (fun s' =>
      s'.pair = { s.pair with dueAt := addW t (100 * us), beatDue := true } ∧ s'.regs = s.regs))
    ∧ (s.proexTx = false ∨ ¬ due → Idles (.beatDue t) s t)
    ∧ (s.proexTx = true →
      (∀ f l, s.pair.teeth = f :: l → (s.at t).urgentRuns = true → Idles (.proexFrameSend t) s t)
        ∧ (∀ f l, s.pair.teeth = f :: l → (s.at t).urgentRuns = false →
          let cs := frameChars f (s.nextFseq 1)
          let sent := fun (s' : State) => s'.pair.teeth = l ∧ s'.pair.sentTooth = cs ∧ s'.nextFseq 1 = (s.nextFseq 1 + 1) % 256
          (free = true → Does (.proexFrameSend t) s (fun s' => sent s' ∧ s'.pair.busyTo = s.pair.busyTo
              ∧ s'.pair.toothTo = some (addW t (64 * cs.length))))
            ∧ (∀ b, free = false → s.pair.busyTo = some b → Does (.proexFrameSend t) s (fun s' => sent s'
              ∧ s'.pair.busyTo = some (addW b (64 * cs.length))
              ∧ s'.pair.toothTo = some (addW t (elapsed t b % 64 + 64 * cs.length)))))
        ∧ (s.pair.teeth = [] → free = true →
          (s.pair.beatDue = true → Does (.proexFrameSend t) s (fun s' =>
              starts { type := 2, payload := (s.at t).beatPayload } s.pair.queue s' ∧ s'.pair.beatDue = false
                ∧ s'.pair.sent = (t :: s.pair.sent).take 4))
            ∧ (s.pair.beatDue = false →
              (∀ f, first 3 = some f → Does (.proexFrameSend t) s (starts f (s.pair.queue.erase f)))
                ∧ (∀ f, first 3 = none → first 4 = some f → Does (.proexFrameSend t) s (starts f (s.pair.queue.erase f)))
                ∧ (∀ f, first 3 = none → first 4 = none → first 5 = some f →
                  Does (.proexFrameSend t) s (starts f (s.pair.queue.erase f)))))
        ∧ (s.pair.teeth = [] → free = false → Idles (.proexFrameSend t) s t))
    ∧ (s.proexTx = false → Idles (.proexFrameSend t) s t)
    ∧ (∀ id : Fin 4,
      let n := id.val + 1
      let asked := s.pair.blockDue.contains n
      let ws := s.seriesWords n
      let payload := fun (k : Nat) => [n, 0] ++ beBytes 2 (8 * k) ++ wordBytes ((List.range 8).map (fun i => ws.getD (8 * k + i) 0))
      let block := fun (k : Nat) => ({ type := 5, payload := payload k } : ProexFrame)
      let timed := (n = 1 ∧ 10000 * ms ≤ elapsed s.pair.sigAt t)
        ∨ (n = 2 ∧ s.is (Reg.WFT_CLST_FP_VALID 0) = true ∧ 1000 * ms ≤ elapsed s.pair.fpAt t)
      (s.proexTx = true → asked = true ∨ timed → Does (.blockSeriesDue t id) s (fun s' => n ∉ s'.pair.blockDue
          ∧ s'.pair.queue = s.pair.queue ++ (List.range ((ws.length + 7) / 8)).map block))
        ∧ (s.proexTx = false ∨ (asked = false ∧ ¬ timed) → Idles (.blockSeriesDue t id) s t)))
end

