-- ==== Sys2Proof/Laws/Store.lean ====
section
/-!
SUPPORT. The laws of the canonical memories of Machine/Store.lean: a read after a write, and that every write keeps the
canonical form.
-/
namespace Sys2Proof.Machine
variable {n : Nat}

/-! ### Reads -/

theorem Cells.find_insert_same (m : Cells n) (a : Nat) (v : BitVec n) : (m.insert a v).find a = some v := by
  induction m with
  | nil => simp [Cells.insert, Cells.find]
  | cons c m ih =>
    obtain ⟨k, w⟩ := c
    simp only [Cells.insert]
    split
    · simp [Cells.find]
    · split <;> simp_all [Cells.find]

theorem Cells.find_insert_ne (m : Cells n) {a b : Nat} (v : BitVec n) (h : b ≠ a) :
    (m.insert a v).find b = m.find b := by
  induction m with
  | nil => simp [Cells.insert, Cells.find, h]
  | cons c m ih =>
    obtain ⟨k, w⟩ := c
    simp only [Cells.insert]
    split
    · subst_vars; simp [Cells.find, h]
    · split
      · simp [Cells.find, h]
      · simp [Cells.find, ih]

theorem Cells.erase_cons_same (m : Cells n) (a : Nat) (v : BitVec n) :
    Cells.erase ((a, v) :: m) a = Cells.erase m a := by simp [Cells.erase]

theorem Cells.erase_cons_ne (m : Cells n) {a k : Nat} (v : BitVec n) (h : k ≠ a) :
    Cells.erase ((k, v) :: m) a = (k, v) :: Cells.erase m a := by simp [Cells.erase, h]

theorem Cells.find_erase_same (m : Cells n) (a : Nat) : (m.erase a).find a = none := by
  induction m with
  | nil => rfl
  | cons c m ih =>
    obtain ⟨k, w⟩ := c
    by_cases hk : k = a
    · simpa [Cells.erase, hk] using ih
    · simpa [Cells.erase, hk, Cells.find, Ne.symm hk] using ih

theorem Cells.find_erase_ne (m : Cells n) {a b : Nat} (h : b ≠ a) : (m.erase a).find b = m.find b := by
  induction m with
  | nil => rfl
  | cons c m ih =>
    obtain ⟨k, w⟩ := c
    by_cases hk : k = a
    · subst hk; simpa [Cells.erase, Cells.find, h] using ih
    · simp only [Cells.erase, List.filter_cons, hk, decide_not, decide_false, Bool.not_false, if_true, Cells.find]
      split
      · rfl
      · simpa [Cells.erase] using ih

/-- A read of the address just written gives the value written. -/
@[simp] theorem Cells.get_set_same (d : Nat → BitVec n) (m : Cells n) (a : Nat) (v : BitVec n) :
    (m.set d a v).get d a = v := by
  unfold Cells.set Cells.get
  split
  · simp_all [Cells.find_erase_same]
  · simp [Cells.find_insert_same]

/-- A write leaves every other address alone. -/
theorem Cells.get_set_ne (d : Nat → BitVec n) (m : Cells n) {a b : Nat} (v : BitVec n) (h : b ≠ a) :
    (m.set d a v).get d b = m.get d b := by
  unfold Cells.set Cells.get
  split
  · rw [Cells.find_erase_ne m h]
  · rw [Cells.find_insert_ne m v h]

/-! ### The canonical form -/

theorem Cells.above_mono {b c : Nat} (h : b ≤ c) : ∀ (m : Cells n), m.above c = true → m.above b = true
  | [], _ => rfl
  | (k, v) :: m, hm => by
    simp only [Cells.above, Bool.and_eq_true, decide_eq_true_eq] at hm ⊢
    exact ⟨by omega, hm.2⟩

theorem Cells.above_erase (a : Nat) : ∀ (b : Nat) (m : Cells n), m.above b = true → Cells.above b (Cells.erase m a) = true
  | _, [], _ => rfl
  | b, (k, v) :: m, hm => by
    simp only [Cells.above, Bool.and_eq_true, decide_eq_true_eq] at hm
    have ih := above_erase a k m hm.2
    by_cases hk : k = a
    · subst hk
      rw [Cells.erase_cons_same]
      exact above_mono (Nat.le_of_lt hm.1) _ ih
    · rw [Cells.erase_cons_ne m v hk]
      simp [Cells.above, hm.1, ih]

theorem Cells.above_insert (a : Nat) (v : BitVec n) :
    ∀ (b : Nat) (m : Cells n), b < a → m.above b = true → (m.insert a v).above b = true
  | b, [], h, _ => by simp [Cells.insert, Cells.above, h]
  | b, (k, w) :: m, h, hm => by
    simp only [Cells.above, Bool.and_eq_true, decide_eq_true_eq] at hm
    simp only [Cells.insert]
    split
    · subst_vars; simp [Cells.above, hm]
    · split
      · simp [Cells.above, hm.2, *]
      · have hk : k < a := by omega
        simpa [Cells.above, hm.1] using above_insert a v k m hk hm.2

theorem Cells.sorted_of_above {b : Nat} : ∀ (m : Cells n), m.above b = true → m.sorted = true
  | [], _ => rfl
  | (k, v) :: m, hm => by
    simp only [Cells.above, Bool.and_eq_true] at hm
    exact hm.2

theorem Cells.sorted_erase (a : Nat) : ∀ (m : Cells n), m.sorted = true → Cells.sorted (Cells.erase m a) = true
  | [], _ => rfl
  | (k, v) :: m, hm => by
    have h := above_erase a k m hm
    by_cases hk : k = a
    · subst hk
      rw [Cells.erase_cons_same]
      exact sorted_of_above _ h
    · rw [Cells.erase_cons_ne m v hk]
      exact h

theorem Cells.sorted_insert (a : Nat) (v : BitVec n) : ∀ (m : Cells n), m.sorted = true → (m.insert a v).sorted = true
  | [], _ => rfl
  | (k, w) :: m, hm => by
    simp only [Cells.sorted] at hm
    simp only [Cells.insert]
    split
    · subst_vars; simpa [Cells.sorted] using hm
    · split
      · simp [Cells.sorted, Cells.above, *]
      · have hk : k < a := by omega
        simpa [Cells.sorted] using above_insert a v k m hk hm

theorem Cells.mem_insert (m : Cells n) (a : Nat) (v : BitVec n) (c : Nat × BitVec n) (h : c ∈ m.insert a v) :
    c = (a, v) ∨ c ∈ m := by
  induction m with
  | nil => simpa [Cells.insert] using h
  | cons e m ih =>
    obtain ⟨k, w⟩ := e
    simp only [Cells.insert] at h
    split at h
    · simp only [List.mem_cons] at h ⊢; tauto
    · split at h
      · simp only [List.mem_cons] at h ⊢; tauto
      · simp only [List.mem_cons] at h ⊢
        rcases h with h | h
        · tauto
        · rcases ih h with h | h <;> tauto

/-- Every write keeps the canonical form. -/
theorem Cells.wf_set (d : Nat → BitVec n) (m : Cells n) (a : Nat) (v : BitVec n) (h : m.wf d = true) :
    (m.set d a v).wf d = true := by
  simp only [Cells.wf, Bool.and_eq_true, List.all_eq_true, decide_eq_true_eq] at h ⊢
  unfold Cells.set
  split
  · exact ⟨Cells.sorted_erase a m h.1, fun c hc => h.2 c (List.mem_filter.1 hc).1⟩
  · rename_i hv
    refine ⟨Cells.sorted_insert a v m h.1, fun c hc => ?_⟩
    rcases Cells.mem_insert m a v c hc with rfl | hc
    · exact hv
    · exact h.2 c hc

/-- A partial map that keeps the addresses and answers no default keeps the canonical form. -/
theorem Cells.wf_filterMap (d : Nat → BitVec n) (g : Nat × BitVec n → Option (Nat × BitVec n))
    (hk : ∀ c c', g c = some c' → c'.1 = c.1) (m : Cells n)
    (hd : ∀ c ∈ m, ∀ c', g c = some c' → c'.2 ≠ d c'.1) (h : m.wf d = true) : Cells.wf d (m.filterMap g) = true := by
  simp only [Cells.wf, Bool.and_eq_true, List.all_eq_true, decide_eq_true_eq] at h ⊢
  have ha : ∀ (m : Cells n) (b : Nat), m.above b = true → Cells.above b (m.filterMap g) = true := by
    intro m
    induction m with
    | nil => intro b _; rfl
    | cons c m ih =>
      obtain ⟨k, v⟩ := c
      intro b hb
      simp only [Cells.above, Bool.and_eq_true, decide_eq_true_eq] at hb
      cases e : g (k, v) with
      | none => rw [List.filterMap_cons_none e]; exact Cells.above_mono (Nat.le_of_lt hb.1) _ (ih k hb.2)
      | some c' =>
        obtain ⟨k', v'⟩ := c'
        have hkk : k' = k := hk _ _ e
        subst hkk
        rw [List.filterMap_cons_some e]
        simp [Cells.above, hb.1, ih _ hb.2]
  refine ⟨?_, fun c hc => ?_⟩
  · cases m with
    | nil => rfl
    | cons c m =>
      obtain ⟨k, v⟩ := c
      have hm : Cells.above k m = true := h.1
      cases e : g (k, v) with
      | none => rw [List.filterMap_cons_none e]; exact Cells.sorted_of_above _ (ha m k hm)
      | some c' =>
        obtain ⟨k', v'⟩ := c'
        have hkk : k' = k := hk _ _ e
        subst hkk
        rw [List.filterMap_cons_some e]
        exact ha m _ hm
  · obtain ⟨x, hx, e⟩ := List.mem_filterMap.1 hc
    exact hd x hx c e

/-- Unlisting cells keeps the canonical form. -/
theorem Cells.wf_filter (d : Nat → BitVec n) (q : Nat × BitVec n → Bool) (m : Cells n) (h : m.wf d = true) :
    Cells.wf d (m.filter q) = true := by
  have hne := h
  simp only [Cells.wf, Bool.and_eq_true, List.all_eq_true, decide_eq_true_eq] at hne
  have e : m.filter q = m.filterMap (Option.guard q) := by rw [List.filterMap_eq_filter]
  rw [e]
  refine Cells.wf_filterMap d _ (fun c c' hc => ?_) m (fun c hm c' hc => ?_) h
  · rw [Option.guard_eq_some_iff] at hc; rw [hc.1]
  · rw [Option.guard_eq_some_iff] at hc; rw [← hc.1]; exact hne.2 c hm

@[simp] theorem Cells.wf_nil (d : Nat → BitVec n) : Cells.wf d ([] : Cells n) = true := rfl

end Sys2Proof.Machine
end

