-- ==== Sys2Proof/Laws/Keeps.lean ====
section
/-!
SUPPORT. What an operation may change, said once for each: `Keeps P s₀ s` says that `s` differs from `s₀` in the parts of the
mask `P` only, that the queue is as it was, that the free-value counter has not gone back and that memories which were in
canonical form are still, as are the modes of the banks' comparators where they fit. The lemma of each operation extends it by that operation.
-/
namespace Sys2Proof.Machine

/-- The place of a part in a mask. -/
def Part.idx (p : Part) : Nat := p.ctorIdx

theorem Part.idx_inj {p q : Part} (h : p.idx = q.idx) : p = q := by
  have hp : Part.ofNat p.ctorIdx = p := by cases p <;> rfl
  have hq : Part.ofNat q.ctorIdx = q := by cases q <;> rfl
  rw [← hp, ← hq]
  exact congrArg Part.ofNat h

/-- The mask of a list of parts. -/
def maskOf : List Part → Nat
  | [] => 0
  | p :: ps => 2 ^ p.idx ||| maskOf ps

theorem testBit_maskOf (p : Part) : ∀ ps, p ∉ ps → (maskOf ps).testBit p.idx = false
  | [], _ => by simp [maskOf]
  | q :: ps, h => by
    have h1 : q ≠ p := fun e => h (e ▸ List.mem_cons_self)
    have h2 : q.idx ≠ p.idx := fun e => h1 (Part.idx_inj e)
    simp [maskOf, Nat.testBit_or, h2, testBit_maskOf p ps (fun e => h (List.mem_cons_of_mem _ e))]

/-- Everything an operation may do to the state at large. -/
structure Keeps (P : Nat) (s₀ s : State) : Prop where
  same : ∀ p : Part, P.testBit p.idx = false → p.same s₀ s
  queue : s.pending = s₀.pending
  fresh : s₀.fresh ≤ s.fresh
  canon : s₀.canonical = true → s.canonical = true
  modes : s₀.modesOk = true → s.modesOk = true

theorem Keeps.refl (P : Nat) (s : State) : Keeps P s s :=
  ⟨fun p _ => by cases p <;> rfl, rfl, Nat.le_refl _, id, id⟩

/-- Only the listed parts differ. -/
theorem Keeps.sameBut {ps : List Part} {s₀ s : State} (h : Keeps (maskOf ps) s₀ s) : SameBut ps s₀ s :=
  fun p hp => h.same p (testBit_maskOf p ps hp)

/-- A command's outcome, when it is a next state. -/
def OutKeeps (P : Nat) (s₀ : State) (o : Out) : Prop := match o with
  | .next s => Keeps P s₀ s
  | _ => True

theorem OutKeeps.next {P : Nat} {s₀ s : State} (h : Keeps P s₀ s) : OutKeeps P s₀ (.next s) := h

/-- The state inside an optional result, when there is one. -/
def OptKeeps (P : Nat) (s₀ : State) (o : Option State) : Prop := match o with
  | some s => Keeps P s₀ s
  | none => True

theorem OptKeeps.some {P : Nat} {s₀ s : State} (h : Keeps P s₀ s) : OptKeeps P s₀ (.some s) := h
theorem OptKeeps.none {P : Nat} {s₀ : State} : OptKeeps P s₀ .none := trivial
theorem OptKeeps.of {P : Nat} {s₀ s : State} {o : Option State} (e : o = .some s) (h : OptKeeps P s₀ o) : Keeps P s₀ s := by
  subst e; exact h

/-- The state beside a value inside an optional result. -/
def OptKeeps₂ {α : Type} (P : Nat) (s₀ : State) (o : Option (α × State)) : Prop := match o with
  | some r => Keeps P s₀ r.2
  | none => True

theorem OptKeeps₂.some {α : Type} {P : Nat} {s₀ s : State} {x : α} (h : Keeps P s₀ s) : OptKeeps₂ P s₀ (.some (x, s)) := h
theorem OptKeeps₂.none {α : Type} {P : Nat} {s₀ : State} : OptKeeps₂ (α := α) P s₀ .none := trivial
theorem OptKeeps₂.of {α : Type} {P : Nat} {s₀ s : State} {x : α} {o : Option (α × State)} (e : o = .some (x, s))
    (h : OptKeeps₂ P s₀ o) : Keeps P s₀ s := by subst e; exact h

/-- The state of a result that is no error. -/
def ExKeeps {ε : Type} (P : Nat) (s₀ : State) (o : Except ε State) : Prop := match o with
  | .ok s => Keeps P s₀ s
  | .error _ => True

theorem ExKeeps.ok {ε : Type} {P : Nat} {s₀ s : State} (h : Keeps P s₀ s) : ExKeeps (ε := ε) P s₀ (.ok s) := h
theorem ExKeeps.error {ε : Type} {P : Nat} {s₀ : State} {e : ε} : ExKeeps P s₀ (.error e) := trivial
theorem ExKeeps.of {ε : Type} {P : Nat} {s₀ s : State} {o : Except ε State} (e : o = .ok s) (h : ExKeeps P s₀ o) :
    Keeps P s₀ s := by subst e; exact h

theorem Mask.sub {m n P : Nat} (h : m &&& P = m) (hn : n &&& m = n) : n &&& P = n := by
  rw [← hn, Nat.and_assoc, h]

theorem Mask.bit {i P : Nat} (h : 2 ^ i &&& P = 2 ^ i) : P.testBit i = true := by
  have := congrArg (fun x => x.testBit i) h
  simpa [Nat.testBit_and, Nat.testBit_two_pow] using this

theorem Mask.mem {m P i : Nat} (h : m &&& P = m) (hm : m.testBit i = true) : P.testBit i = true := by
  rw [← h, Nat.testBit_and, Bool.and_eq_true] at hm
  exact hm.2

/-- An update of several parts. -/
theorem Keeps.many {P : Nat} {s₀ s s' : State} (h : Keeps P s₀ s)
    (hp : ∀ p : Part, P.testBit p.idx = true ∨ p.same s s') (hq : s'.pending = s.pending) (hf : s.fresh ≤ s'.fresh)
    (hc : s.canonical = true → s'.canonical = true) (hm : s.modesOk = true → s'.modesOk = true) : Keeps P s₀ s' := by
  refine ⟨fun p hb => ?_, hq.trans h.queue, Nat.le_trans h.fresh hf, fun c => hc (h.canon c), fun c => hm (h.modes c)⟩
  rcases hp p with hp | hp
  · rw [hp] at hb; cases hb
  · have h0 := h.same p hb
    cases p <;> exact Eq.trans hp h0

/-- A bank that takes a new state takes its comparators with it. -/
theorem State.setBk_modes (s : State) (b : Nat) (k : Bank) (h : s.modesOk = true) : (s.setBk b k).modesOk = true := by
  simp only [State.modesOk, List.all_eq_true, List.mem_range, decide_eq_true_eq] at h ⊢
  intro c hc
  by_cases e : c = b
  · subst e
    simp only [State.setBk, State.bk, vget, vset, Vector.toList_setIfInBounds, List.getD_eq_getElem?_getD]
    simp [hc, CmpModes.follow, Mode.follow]
    refine ⟨?_, ?_, ?_⟩ <;> split <;> first | assumption | rfl
  · have := h c hc
    simpa [State.setBk, State.bk, vget, vset, List.getD_eq_getElem?_getD, List.getElem?_set_ne (Ne.symm e)] using this

/-- Banks that hold nothing but their supply's word ask of their comparators what they have after a reset. -/
theorem freshBanks_modes (s : State) (v : Vector Bank 12)
    (hb : s.banks = v.map (fun k => { ({} : Bank) with shortSupply := k.shortSupply }))
    (hc : s.cmps = Vector.replicate 12 {}) : s.modesOk = true := by
  simp only [State.modesOk, List.all_eq_true, List.mem_range, decide_eq_true_eq]
  intro b h
  have e : s.bk b = { ({} : Bank) with shortSupply := (vget v b).shortSupply } := by
    simp [State.bk, hb, vget, List.getD_eq_getElem?_getD, h]
  rw [e, hc]
  have e2 : vget (Vector.replicate 12 ({} : CmpModes)) b = {} := by
    rw [vget, Vector.toList_replicate, List.getD_eq_getElem?_getD, List.getElem?_replicate, if_pos h]; rfl
  rw [e2]
  exact ⟨rfl, rfl, rfl⟩

/-! ### Rules for the shapes of a definition -/
variable {P : Nat} {s₀ : State}

/-- Names an intermediate state. -/
theorem Keeps.cut (P : Nat) (s₀ : State) {G : Prop} (s : State) (h : Keeps P s₀ s) (k : Keeps P s₀ s → G) : G := k h
theorem Keeps.cutFst (P : Nat) (s₀ : State) {α : Type} {G : Prop} (r : State × α) (h : Keeps P s₀ r.1) (k : Keeps P s₀ r.1 → G) : G := k h
theorem Keeps.cutSnd (P : Nat) (s₀ : State) {α : Type} {G : Prop} (r : α × State) (h : Keeps P s₀ r.2) (k : Keeps P s₀ r.2 → G) : G := k h
theorem Keeps.cutMid (P : Nat) (s₀ : State) {α β : Type} {G : Prop} (r : α × State × β) (h : Keeps P s₀ r.2.1) (k : Keeps P s₀ r.2.1 → G) : G := k h
theorem Keeps.cutFun (P : Nat) (s₀ : State) {α : Type} {G : Prop} (f : State → α → State) (h : ∀ s x, Keeps P s₀ s → Keeps P s₀ (f s x))
    (k : (∀ s x, Keeps P s₀ s → Keeps P s₀ (f s x)) → G) : G := k h

theorem Keeps.cutFunFst (P : Nat) (s₀ : State) {α β : Type} {G : Prop} (f : State → α → State × β)
    (h : ∀ s x, Keeps P s₀ s → Keeps P s₀ (f s x).1) (k : (∀ s x, Keeps P s₀ s → Keeps P s₀ (f s x).1) → G) : G := k h
theorem Keeps.cutFn (P : Nat) (s₀ : State) {α : Type} {G : Prop} (f : α → State) (h : ∀ x, Keeps P s₀ (f x))
    (k : (∀ x, Keeps P s₀ (f x)) → G) : G := k h
theorem Keeps.cutOp (P : Nat) (s₀ : State) {G : Prop} (f : State → State) (h : ∀ s, Keeps P s₀ s → Keeps P s₀ (f s))
    (k : (∀ s, Keeps P s₀ s → Keeps P s₀ (f s)) → G) : G := k h

theorem Keeps.ofFst {α : Type} {r : State × α} {a : State} {b : α} (e : r = (a, b)) (h : Keeps P s₀ r.1) : Keeps P s₀ a := by
  subst e; exact h
theorem Keeps.ofSnd {α : Type} {r : α × State} {a : State} {b : α} (e : r = (b, a)) (h : Keeps P s₀ r.2) : Keeps P s₀ a := by
  subst e; exact h
theorem Keeps.ofMid {α β : Type} {r : α × State × β} {a : State} {b : α} {c : β} (e : r = (b, a, c))
    (h : Keeps P s₀ r.2.1) : Keeps P s₀ a := by subst e; exact h

/-- A choice between two operations. -/
theorem Keeps.ite {c : Prop} [Decidable c] {s s' : State} (h : Keeps P s₀ s) (h' : Keeps P s₀ s') :
    Keeps P s₀ (if c then s else s') := by
  split
  · exact h
  · exact h'

/-- A fold of an operation. -/
theorem Keeps.foldl {α : Type} {f : State → α → State} (hf : ∀ s x, Keeps P s₀ s → Keeps P s₀ (f s x)) :
    ∀ (l : List α) (s : State), Keeps P s₀ s → Keeps P s₀ (l.foldl f s)
  | [], _, h => h
  | x :: l, s, h => Keeps.foldl hf l (f s x) (hf s x h)

/-! ### Updates of one part -/

theorem Keeps.upd_now {s : State} {x} (hP : 2 ^ 0 &&& P = 2 ^ 0) (h : Keeps P s₀ s) :
    Keeps P s₀ { s with now := x } := by
  refine ⟨fun p hp => ?_, h.queue, h.fresh, h.canon, h.modes⟩
  · have hs := h.same p hp
    have hq := Mask.bit hP
    cases p <;> first | exact hs | exact absurd (hq.symm.trans hp) Bool.noConfusion

theorem Keeps.upd_fresh {s : State} {x} (hx : s.fresh ≤ x) (hP : 2 ^ 1 &&& P = 2 ^ 1) (h : Keeps P s₀ s) :
    Keeps P s₀ { s with fresh := x } := by
  refine ⟨fun p hp => ?_, h.queue, Nat.le_trans h.fresh hx, h.canon, h.modes⟩
  · have hs := h.same p hp
    have hq := Mask.bit hP
    cases p <;> first | exact hs | exact absurd (hq.symm.trans hp) Bool.noConfusion

theorem Keeps.upd_power {s : State} {x} (hP : 2 ^ 2 &&& P = 2 ^ 2) (h : Keeps P s₀ s) :
    Keeps P s₀ { s with power := x } := by
  refine ⟨fun p hp => ?_, h.queue, h.fresh, h.canon, h.modes⟩
  · have hs := h.same p hp
    have hq := Mask.bit hP
    cases p <;> first | exact hs | exact absurd (hq.symm.trans hp) Bool.noConfusion

theorem Keeps.upd_straps {s : State} {x} (hP : 2 ^ 3 &&& P = 2 ^ 3) (h : Keeps P s₀ s) :
    Keeps P s₀ { s with straps := x } := by
  refine ⟨fun p hp => ?_, h.queue, h.fresh, h.canon, h.modes⟩
  · have hs := h.same p hp
    have hq := Mask.bit hP
    cases p <;> first | exact hs | exact absurd (hq.symm.trans hp) Bool.noConfusion

theorem Keeps.upd_regs {s : State} {x} (hx : s.regs.wf regReset = true → Cells.wf regReset x = true) (hP : 2 ^ 4 &&& P = 2 ^ 4) (h : Keeps P s₀ s) :
    Keeps P s₀ { s with regs := x } := by
  refine ⟨fun p hp => ?_, h.queue, h.fresh, fun hc => ?_, h.modes⟩
  · have hs := h.same p hp
    have hq := Mask.bit hP
    cases p <;> first | exact hs | exact absurd (hq.symm.trans hp) Bool.noConfusion
  · have hw := h.canon hc
    simp only [State.canonical, Bool.and_eq_true] at hw ⊢
    simp_all only [and_self]

theorem Keeps.upd_trace {s : State} {x} (hx : s.trace.wf memDefault = true → Cells.wf memDefault x = true) (hP : 2 ^ 5 &&& P = 2 ^ 5) (h : Keeps P s₀ s) :
    Keeps P s₀ { s with trace := x } := by
  refine ⟨fun p hp => ?_, h.queue, h.fresh, fun hc => ?_, h.modes⟩
  · have hs := h.same p hp
    have hq := Mask.bit hP
    cases p <;> first | exact hs | exact absurd (hq.symm.trans hp) Bool.noConfusion
  · have hw := h.canon hc
    simp only [State.canonical, Bool.and_eq_true] at hw ⊢
    simp_all only [and_self]

theorem Keeps.upd_work {s : State} {x} (hx : s.work.wf memDefault = true → Cells.wf memDefault x = true) (hP : 2 ^ 6 &&& P = 2 ^ 6) (h : Keeps P s₀ s) :
    Keeps P s₀ { s with work := x } := by
  refine ⟨fun p hp => ?_, h.queue, h.fresh, fun hc => ?_, h.modes⟩
  · have hs := h.same p hp
    have hq := Mask.bit hP
    cases p <;> first | exact hs | exact absurd (hq.symm.trans hp) Bool.noConfusion
  · have hw := h.canon hc
    simp only [State.canonical, Bool.and_eq_true] at hw ⊢
    simp_all only [and_self]

theorem Keeps.upd_recMem {s : State} {x} (hx : s.recMem.wf memDefault = true → Cells.wf memDefault x = true) (hP : 2 ^ 7 &&& P = 2 ^ 7) (h : Keeps P s₀ s) :
    Keeps P s₀ { s with recMem := x } := by
  refine ⟨fun p hp => ?_, h.queue, h.fresh, fun hc => ?_, h.modes⟩
  · have hs := h.same p hp
    have hq := Mask.bit hP
    cases p <;> first | exact hs | exact absurd (hq.symm.trans hp) Bool.noConfusion
  · have hw := h.canon hc
    simp only [State.canonical, Bool.and_eq_true] at hw ⊢
    simp_all only [and_self]

theorem Keeps.upd_ply0 {s : State} {x} (hx : s.ply0.wf memDefault = true → Cells.wf memDefault x = true) (hP : 2 ^ 8 &&& P = 2 ^ 8) (h : Keeps P s₀ s) :
    Keeps P s₀ { s with ply0 := x } := by
  refine ⟨fun p hp => ?_, h.queue, h.fresh, fun hc => ?_, h.modes⟩
  · have hs := h.same p hp
    have hq := Mask.bit hP
    cases p <;> first | exact hs | exact absurd (hq.symm.trans hp) Bool.noConfusion
  · have hw := h.canon hc
    simp only [State.canonical, Bool.and_eq_true] at hw ⊢
    simp_all only [and_self]

theorem Keeps.upd_ply1 {s : State} {x} (hx : s.ply1.wf memDefault = true → Cells.wf memDefault x = true) (hP : 2 ^ 9 &&& P = 2 ^ 9) (h : Keeps P s₀ s) :
    Keeps P s₀ { s with ply1 := x } := by
  refine ⟨fun p hp => ?_, h.queue, h.fresh, fun hc => ?_, h.modes⟩
  · have hs := h.same p hp
    have hq := Mask.bit hP
    cases p <;> first | exact hs | exact absurd (hq.symm.trans hp) Bool.noConfusion
  · have hw := h.canon hc
    simp only [State.canonical, Bool.and_eq_true] at hw ⊢
    simp_all only [and_self]

theorem Keeps.upd_ply2 {s : State} {x} (hx : s.ply2.wf memDefault = true → Cells.wf memDefault x = true) (hP : 2 ^ 10 &&& P = 2 ^ 10) (h : Keeps P s₀ s) :
    Keeps P s₀ { s with ply2 := x } := by
  refine ⟨fun p hp => ?_, h.queue, h.fresh, fun hc => ?_, h.modes⟩
  · have hs := h.same p hp
    have hq := Mask.bit hP
    cases p <;> first | exact hs | exact absurd (hq.symm.trans hp) Bool.noConfusion
  · have hw := h.canon hc
    simp only [State.canonical, Bool.and_eq_true] at hw ⊢
    simp_all only [and_self]

theorem Keeps.upd_flash {s : State} {x} (hx : s.flash.wf flashDefault = true → Cells.wf flashDefault x = true) (hP : 2 ^ 11 &&& P = 2 ^ 11) (h : Keeps P s₀ s) :
    Keeps P s₀ { s with flash := x } := by
  refine ⟨fun p hp => ?_, h.queue, h.fresh, fun hc => ?_, h.modes⟩
  · have hs := h.same p hp
    have hq := Mask.bit hP
    cases p <;> first | exact hs | exact absurd (hq.symm.trans hp) Bool.noConfusion
  · have hw := h.canon hc
    simp only [State.canonical, Bool.and_eq_true] at hw ⊢
    simp_all only [and_self]

theorem Keeps.upd_ticks {s : State} {x} (hP : 2 ^ 12 &&& P = 2 ^ 12) (h : Keeps P s₀ s) :
    Keeps P s₀ { s with ticks := x } := by
  refine ⟨fun p hp => ?_, h.queue, h.fresh, h.canon, h.modes⟩
  · have hs := h.same p hp
    have hq := Mask.bit hP
    cases p <;> first | exact hs | exact absurd (hq.symm.trans hp) Bool.noConfusion

theorem Keeps.upd_reports {s : State} {x} (hP : 2 ^ 13 &&& P = 2 ^ 13) (h : Keeps P s₀ s) :
    Keeps P s₀ { s with reports := x } := by
  refine ⟨fun p hp => ?_, h.queue, h.fresh, h.canon, h.modes⟩
  · have hs := h.same p hp
    have hq := Mask.bit hP
    cases p <;> first | exact hs | exact absurd (hq.symm.trans hp) Bool.noConfusion

theorem Keeps.upd_mergeOpen {s : State} {x} (hP : 2 ^ 14 &&& P = 2 ^ 14) (h : Keeps P s₀ s) :
    Keeps P s₀ { s with mergeOpen := x } := by
  refine ⟨fun p hp => ?_, h.queue, h.fresh, h.canon, h.modes⟩
  · have hs := h.same p hp
    have hq := Mask.bit hP
    cases p <;> first | exact hs | exact absurd (hq.symm.trans hp) Bool.noConfusion

theorem Keeps.upd_fifo {s : State} {x} (hP : 2 ^ 15 &&& P = 2 ^ 15) (h : Keeps P s₀ s) :
    Keeps P s₀ { s with fifo := x } := by
  refine ⟨fun p hp => ?_, h.queue, h.fresh, h.canon, h.modes⟩
  · have hs := h.same p hp
    have hq := Mask.bit hP
    cases p <;> first | exact hs | exact absurd (hq.symm.trans hp) Bool.noConfusion

theorem Keeps.upd_causes {s : State} {x} (hP : 2 ^ 16 &&& P = 2 ^ 16) (h : Keeps P s₀ s) :
    Keeps P s₀ { s with causes := x } := by
  refine ⟨fun p hp => ?_, h.queue, h.fresh, h.canon, h.modes⟩
  · have hs := h.same p hp
    have hq := Mask.bit hP
    cases p <;> first | exact hs | exact absurd (hq.symm.trans hp) Bool.noConfusion

theorem Keeps.upd_crossings {s : State} {x} (hP : 2 ^ 17 &&& P = 2 ^ 17) (h : Keeps P s₀ s) :
    Keeps P s₀ { s with crossings := x } := by
  refine ⟨fun p hp => ?_, h.queue, h.fresh, h.canon, h.modes⟩
  · have hs := h.same p hp
    have hq := Mask.bit hP
    cases p <;> first | exact hs | exact absurd (hq.symm.trans hp) Bool.noConfusion

theorem Keeps.upd_gov {s : State} {x} (hP : 2 ^ 18 &&& P = 2 ^ 18) (h : Keeps P s₀ s) :
    Keeps P s₀ { s with gov := x } := by
  refine ⟨fun p hp => ?_, h.queue, h.fresh, h.canon, h.modes⟩
  · have hs := h.same p hp
    have hq := Mask.bit hP
    cases p <;> first | exact hs | exact absurd (hq.symm.trans hp) Bool.noConfusion

theorem Keeps.upd_weave {s : State} {x} (hP : 2 ^ 19 &&& P = 2 ^ 19) (h : Keeps P s₀ s) :
    Keeps P s₀ { s with weave := x } := by
  refine ⟨fun p hp => ?_, h.queue, h.fresh, h.canon, h.modes⟩
  · have hs := h.same p hp
    have hq := Mask.bit hP
    cases p <;> first | exact hs | exact absurd (hq.symm.trans hp) Bool.noConfusion

theorem Keeps.upd_primary {s : State} {x} (hP : 2 ^ 20 &&& P = 2 ^ 20) (h : Keeps P s₀ s) :
    Keeps P s₀ { s with primary := x } := by
  refine ⟨fun p hp => ?_, h.queue, h.fresh, h.canon, h.modes⟩
  · have hs := h.same p hp
    have hq := Mask.bit hP
    cases p <;> first | exact hs | exact absurd (hq.symm.trans hp) Bool.noConfusion

theorem Keeps.upd_warps {s : State} {x} (hP : 2 ^ 21 &&& P = 2 ^ 21) (h : Keeps P s₀ s) :
    Keeps P s₀ { s with warps := x } := by
  refine ⟨fun p hp => ?_, h.queue, h.fresh, h.canon, h.modes⟩
  · have hs := h.same p hp
    have hq := Mask.bit hP
    cases p <;> first | exact hs | exact absurd (hq.symm.trans hp) Bool.noConfusion

theorem Keeps.upd_wefts {s : State} {x} (hP : 2 ^ 22 &&& P = 2 ^ 22) (h : Keeps P s₀ s) :
    Keeps P s₀ { s with wefts := x } := by
  refine ⟨fun p hp => ?_, h.queue, h.fresh, h.canon, h.modes⟩
  · have hs := h.same p hp
    have hq := Mask.bit hP
    cases p <;> first | exact hs | exact absurd (hq.symm.trans hp) Bool.noConfusion

theorem Keeps.upd_learn {s : State} {x} (hP : 2 ^ 23 &&& P = 2 ^ 23) (h : Keeps P s₀ s) :
    Keeps P s₀ { s with learn := x } := by
  refine ⟨fun p hp => ?_, h.queue, h.fresh, h.canon, h.modes⟩
  · have hs := h.same p hp
    have hq := Mask.bit hP
    cases p <;> first | exact hs | exact absurd (hq.symm.trans hp) Bool.noConfusion

theorem Keeps.upd_shTok {s : State} {x} (hP : 2 ^ 24 &&& P = 2 ^ 24) (h : Keeps P s₀ s) :
    Keeps P s₀ { s with shTok := x } := by
  refine ⟨fun p hp => ?_, h.queue, h.fresh, h.canon, h.modes⟩
  · have hs := h.same p hp
    have hq := Mask.bit hP
    cases p <;> first | exact hs | exact absurd (hq.symm.trans hp) Bool.noConfusion

theorem Keeps.upd_bkTok {s : State} {x} (hP : 2 ^ 25 &&& P = 2 ^ 25) (h : Keeps P s₀ s) :
    Keeps P s₀ { s with bkTok := x } := by
  refine ⟨fun p hp => ?_, h.queue, h.fresh, h.canon, h.modes⟩
  · have hs := h.same p hp
    have hq := Mask.bit hP
    cases p <;> first | exact hs | exact absurd (hq.symm.trans hp) Bool.noConfusion

theorem Keeps.upd_pair {s : State} {x} (hP : 2 ^ 26 &&& P = 2 ^ 26) (h : Keeps P s₀ s) :
    Keeps P s₀ { s with pair := x } := by
  refine ⟨fun p hp => ?_, h.queue, h.fresh, h.canon, h.modes⟩
  · have hs := h.same p hp
    have hq := Mask.bit hP
    cases p <;> first | exact hs | exact absurd (hq.symm.trans hp) Bool.noConfusion

theorem Keeps.upd_recJobs {s : State} {x} (hP : 2 ^ 27 &&& P = 2 ^ 27) (h : Keeps P s₀ s) :
    Keeps P s₀ { s with recJobs := x } := by
  refine ⟨fun p hp => ?_, h.queue, h.fresh, h.canon, h.modes⟩
  · have hs := h.same p hp
    have hq := Mask.bit hP
    cases p <;> first | exact hs | exact absurd (hq.symm.trans hp) Bool.noConfusion

theorem Keeps.upd_acc {s : State} {x} (hx : s.acc.wf accDefault = true → Cells.wf accDefault x = true) (hP : 2 ^ 28 &&& P = 2 ^ 28) (h : Keeps P s₀ s) :
    Keeps P s₀ { s with acc := x } := by
  refine ⟨fun p hp => ?_, h.queue, h.fresh, fun hc => ?_, h.modes⟩
  · have hs := h.same p hp
    have hq := Mask.bit hP
    cases p <;> first | exact hs | exact absurd (hq.symm.trans hp) Bool.noConfusion
  · have hw := h.canon hc
    simp only [State.canonical, Bool.and_eq_true] at hw ⊢
    simp_all only [and_self]

theorem Keeps.upd_shuttles {s : State} {x} (hP : 2 ^ 29 &&& P = 2 ^ 29) (h : Keeps P s₀ s) :
    Keeps P s₀ { s with shuttles := x } := by
  refine ⟨fun p hp => ?_, h.queue, h.fresh, h.canon, h.modes⟩
  · have hs := h.same p hp
    have hq := Mask.bit hP
    cases p <;> first | exact hs | exact absurd (hq.symm.trans hp) Bool.noConfusion

theorem Keeps.upd_seqTok {s : State} {x} (hP : 2 ^ 30 &&& P = 2 ^ 30) (h : Keeps P s₀ s) :
    Keeps P s₀ { s with seqTok := x } := by
  refine ⟨fun p hp => ?_, h.queue, h.fresh, h.canon, h.modes⟩
  · have hs := h.same p hp
    have hq := Mask.bit hP
    cases p <;> first | exact hs | exact absurd (hq.symm.trans hp) Bool.noConfusion

theorem Keeps.upd_pulseOuts {s : State} {x} (hP : 2 ^ 31 &&& P = 2 ^ 31) (h : Keeps P s₀ s) :
    Keeps P s₀ { s with pulseOuts := x } := by
  refine ⟨fun p hp => ?_, h.queue, h.fresh, h.canon, h.modes⟩
  · have hs := h.same p hp
    have hq := Mask.bit hP
    cases p <;> first | exact hs | exact absurd (hq.symm.trans hp) Bool.noConfusion

theorem Keeps.upd_banks {s : State} {x} (hm : s.modesOk = true → ({ s with banks := x } : State).modesOk = true) (hP : 2 ^ 32 &&& P = 2 ^ 32) (h : Keeps P s₀ s) :
    Keeps P s₀ { s with banks := x } := by
  refine ⟨fun p hp => ?_, h.queue, h.fresh, h.canon, fun m => hm (h.modes m)⟩
  · have hs := h.same p hp
    have hq := Mask.bit hP
    cases p <;> first | exact hs | exact absurd (hq.symm.trans hp) Bool.noConfusion

theorem Keeps.upd_cmps {s : State} {x} (hm : s.modesOk = true → ({ s with cmps := x } : State).modesOk = true) (hP : 2 ^ 33 &&& P = 2 ^ 33) (h : Keeps P s₀ s) :
    Keeps P s₀ { s with cmps := x } := by
  refine ⟨fun p hp => ?_, h.queue, h.fresh, h.canon, fun m => hm (h.modes m)⟩
  · have hs := h.same p hp
    have hq := Mask.bit hP
    cases p <;> first | exact hs | exact absurd (hq.symm.trans hp) Bool.noConfusion

theorem Keeps.upd_boosts {s : State} {x} (hP : 2 ^ 34 &&& P = 2 ^ 34) (h : Keeps P s₀ s) :
    Keeps P s₀ { s with boosts := x } := by
  refine ⟨fun p hp => ?_, h.queue, h.fresh, h.canon, h.modes⟩
  · have hs := h.same p hp
    have hq := Mask.bit hP
    cases p <;> first | exact hs | exact absurd (hq.symm.trans hp) Bool.noConfusion

theorem Keeps.upd_closures {s : State} {x} (hP : 2 ^ 35 &&& P = 2 ^ 35) (h : Keeps P s₀ s) :
    Keeps P s₀ { s with closures := x } := by
  refine ⟨fun p hp => ?_, h.queue, h.fresh, h.canon, h.modes⟩
  · have hs := h.same p hp
    have hq := Mask.bit hP
    cases p <;> first | exact hs | exact absurd (hq.symm.trans hp) Bool.noConfusion

theorem Keeps.upd_seqs {s : State} {x} (hP : 2 ^ 36 &&& P = 2 ^ 36) (h : Keeps P s₀ s) :
    Keeps P s₀ { s with seqs := x } := by
  refine ⟨fun p hp => ?_, h.queue, h.fresh, h.canon, h.modes⟩
  · have hs := h.same p hp
    have hq := Mask.bit hP
    cases p <;> first | exact hs | exact absurd (hq.symm.trans hp) Bool.noConfusion

theorem Keeps.upd_slices {s : State} {x} (hP : 2 ^ 37 &&& P = 2 ^ 37) (h : Keeps P s₀ s) :
    Keeps P s₀ { s with slices := x } := by
  refine ⟨fun p hp => ?_, h.queue, h.fresh, h.canon, h.modes⟩
  · have hs := h.same p hp
    have hq := Mask.bit hP
    cases p <;> first | exact hs | exact absurd (hq.symm.trans hp) Bool.noConfusion

theorem Keeps.upd_rot {s : State} {x} (hP : 2 ^ 38 &&& P = 2 ^ 38) (h : Keeps P s₀ s) :
    Keeps P s₀ { s with rot := x } := by
  refine ⟨fun p hp => ?_, h.queue, h.fresh, h.canon, h.modes⟩
  · have hs := h.same p hp
    have hq := Mask.bit hP
    cases p <;> first | exact hs | exact absurd (hq.symm.trans hp) Bool.noConfusion

theorem Keeps.upd_inCal {s : State} {x} (hP : 2 ^ 39 &&& P = 2 ^ 39) (h : Keeps P s₀ s) :
    Keeps P s₀ { s with inCal := x } := by
  refine ⟨fun p hp => ?_, h.queue, h.fresh, h.canon, h.modes⟩
  · have hs := h.same p hp
    have hq := Mask.bit hP
    cases p <;> first | exact hs | exact absurd (hq.symm.trans hp) Bool.noConfusion

theorem Keeps.upd_wmons {s : State} {x} (hP : 2 ^ 40 &&& P = 2 ^ 40) (h : Keeps P s₀ s) :
    Keeps P s₀ { s with wmons := x } := by
  refine ⟨fun p hp => ?_, h.queue, h.fresh, h.canon, h.modes⟩
  · have hs := h.same p hp
    have hq := Mask.bit hP
    cases p <;> first | exact hs | exact absurd (hq.symm.trans hp) Bool.noConfusion

theorem Keeps.upd_ptimers {s : State} {x} (hP : 2 ^ 41 &&& P = 2 ^ 41) (h : Keeps P s₀ s) :
    Keeps P s₀ { s with ptimers := x } := by
  refine ⟨fun p hp => ?_, h.queue, h.fresh, h.canon, h.modes⟩
  · have hs := h.same p hp
    have hq := Mask.bit hP
    cases p <;> first | exact hs | exact absurd (hq.symm.trans hp) Bool.noConfusion

theorem Keeps.upd_monTest {s : State} {x} (hP : 2 ^ 42 &&& P = 2 ^ 42) (h : Keeps P s₀ s) :
    Keeps P s₀ { s with monTest := x } := by
  refine ⟨fun p hp => ?_, h.queue, h.fresh, h.canon, h.modes⟩
  · have hs := h.same p hp
    have hq := Mask.bit hP
    cases p <;> first | exact hs | exact absurd (hq.symm.trans hp) Bool.noConfusion

theorem Keeps.upd_cmbSig {s : State} {x} (hP : 2 ^ 43 &&& P = 2 ^ 43) (h : Keeps P s₀ s) :
    Keeps P s₀ { s with cmbSig := x } := by
  refine ⟨fun p hp => ?_, h.queue, h.fresh, h.canon, h.modes⟩
  · have hs := h.same p hp
    have hq := Mask.bit hP
    cases p <;> first | exact hs | exact absurd (hq.symm.trans hp) Bool.noConfusion

theorem Keeps.upd_pins {s : State} {x} (hP : 2 ^ 44 &&& P = 2 ^ 44) (h : Keeps P s₀ s) :
    Keeps P s₀ { s with pins := x } := by
  refine ⟨fun p hp => ?_, h.queue, h.fresh, h.canon, h.modes⟩
  · have hs := h.same p hp
    have hq := Mask.bit hP
    cases p <;> first | exact hs | exact absurd (hq.symm.trans hp) Bool.noConfusion

theorem Keeps.upd_combust {s : State} {x} (hP : 2 ^ 45 &&& P = 2 ^ 45) (h : Keeps P s₀ s) :
    Keeps P s₀ { s with combust := x } := by
  refine ⟨fun p hp => ?_, h.queue, h.fresh, h.canon, h.modes⟩
  · have hs := h.same p hp
    have hq := Mask.bit hP
    cases p <;> first | exact hs | exact absurd (hq.symm.trans hp) Bool.noConfusion

theorem Keeps.upd_trimDue {s : State} {x} (hP : 2 ^ 46 &&& P = 2 ^ 46) (h : Keeps P s₀ s) :
    Keeps P s₀ { s with trimDue := x } := by
  refine ⟨fun p hp => ?_, h.queue, h.fresh, h.canon, h.modes⟩
  · have hs := h.same p hp
    have hq := Mask.bit hP
    cases p <;> first | exact hs | exact absurd (hq.symm.trans hp) Bool.noConfusion

theorem Keeps.upd_maps {s : State} {x} (hP : 2 ^ 47 &&& P = 2 ^ 47) (h : Keeps P s₀ s) :
    Keeps P s₀ { s with maps := x } := by
  refine ⟨fun p hp => ?_, h.queue, h.fresh, h.canon, h.modes⟩
  · have hs := h.same p hp
    have hq := Mask.bit hP
    cases p <;> first | exact hs | exact absurd (hq.symm.trans hp) Bool.noConfusion

theorem Keeps.upd_svc {s : State} {x} (hP : 2 ^ 48 &&& P = 2 ^ 48) (h : Keeps P s₀ s) :
    Keeps P s₀ { s with svc := x } := by
  refine ⟨fun p hp => ?_, h.queue, h.fresh, h.canon, h.modes⟩
  · have hs := h.same p hp
    have hq := Mask.bit hP
    cases p <;> first | exact hs | exact absurd (hq.symm.trans hp) Bool.noConfusion

theorem Keeps.upd_rail {s : State} {x} (hP : 2 ^ 49 &&& P = 2 ^ 49) (h : Keeps P s₀ s) :
    Keeps P s₀ { s with rail := x } := by
  refine ⟨fun p hp => ?_, h.queue, h.fresh, h.canon, h.modes⟩
  · have hs := h.same p hp
    have hq := Mask.bit hP
    cases p <;> first | exact hs | exact absurd (hq.symm.trans hp) Bool.noConfusion

theorem Keeps.upd_ovs {s : State} {x} (hP : 2 ^ 50 &&& P = 2 ^ 50) (h : Keeps P s₀ s) :
    Keeps P s₀ { s with ovs := x } := by
  refine ⟨fun p hp => ?_, h.queue, h.fresh, h.canon, h.modes⟩
  · have hs := h.same p hp
    have hq := Mask.bit hP
    cases p <;> first | exact hs | exact absurd (hq.symm.trans hp) Bool.noConfusion

theorem Keeps.upd_selv {s : State} {x} (hP : 2 ^ 51 &&& P = 2 ^ 51) (h : Keeps P s₀ s) :
    Keeps P s₀ { s with selv := x } := by
  refine ⟨fun p hp => ?_, h.queue, h.fresh, h.canon, h.modes⟩
  · have hs := h.same p hp
    have hq := Mask.bit hP
    cases p <;> first | exact hs | exact absurd (hq.symm.trans hp) Bool.noConfusion

theorem Keeps.upd_enumStart {s : State} {x} (hP : 2 ^ 52 &&& P = 2 ^ 52) (h : Keeps P s₀ s) :
    Keeps P s₀ { s with enumStart := x } := by
  refine ⟨fun p hp => ?_, h.queue, h.fresh, h.canon, h.modes⟩
  · have hs := h.same p hp
    have hq := Mask.bit hP
    cases p <;> first | exact hs | exact absurd (hq.symm.trans hp) Bool.noConfusion

theorem Keeps.upd_host {s : State} {x} (hP : 2 ^ 53 &&& P = 2 ^ 53) (h : Keeps P s₀ s) :
    Keeps P s₀ { s with host := x } := by
  refine ⟨fun p hp => ?_, h.queue, h.fresh, h.canon, h.modes⟩
  · have hs := h.same p hp
    have hq := Mask.bit hP
    cases p <;> first | exact hs | exact absurd (hq.symm.trans hp) Bool.noConfusion

theorem Keeps.upd_cans {s : State} {x} (hP : 2 ^ 54 &&& P = 2 ^ 54) (h : Keeps P s₀ s) :
    Keeps P s₀ { s with cans := x } := by
  refine ⟨fun p hp => ?_, h.queue, h.fresh, h.canon, h.modes⟩
  · have hs := h.same p hp
    have hq := Mask.bit hP
    cases p <;> first | exact hs | exact absurd (hq.symm.trans hp) Bool.noConfusion

theorem Keeps.upd_streams {s : State} {x} (hP : 2 ^ 55 &&& P = 2 ^ 55) (h : Keeps P s₀ s) :
    Keeps P s₀ { s with streams := x } := by
  refine ⟨fun p hp => ?_, h.queue, h.fresh, h.canon, h.modes⟩
  · have hs := h.same p hp
    have hq := Mask.bit hP
    cases p <;> first | exact hs | exact absurd (hq.symm.trans hp) Bool.noConfusion

theorem Keeps.upd_ports {s : State} {x} (hP : 2 ^ 56 &&& P = 2 ^ 56) (h : Keeps P s₀ s) :
    Keeps P s₀ { s with ports := x } := by
  refine ⟨fun p hp => ?_, h.queue, h.fresh, h.canon, h.modes⟩
  · have hs := h.same p hp
    have hq := Mask.bit hP
    cases p <;> first | exact hs | exact absurd (hq.symm.trans hp) Bool.noConfusion

theorem Keeps.upd_sents {s : State} {x} (hP : 2 ^ 57 &&& P = 2 ^ 57) (h : Keeps P s₀ s) :
    Keeps P s₀ { s with sents := x } := by
  refine ⟨fun p hp => ?_, h.queue, h.fresh, h.canon, h.modes⟩
  · have hs := h.same p hp
    have hq := Mask.bit hP
    cases p <;> first | exact hs | exact absurd (hq.symm.trans hp) Bool.noConfusion

theorem Keeps.upd_dma {s : State} {x} (hP : 2 ^ 58 &&& P = 2 ^ 58) (h : Keeps P s₀ s) :
    Keeps P s₀ { s with dma := x } := by
  refine ⟨fun p hp => ?_, h.queue, h.fresh, h.canon, h.modes⟩
  · have hs := h.same p hp
    have hq := Mask.bit hP
    cases p <;> first | exact hs | exact absurd (hq.symm.trans hp) Bool.noConfusion

theorem Keeps.upd_dmaTrigs {s : State} {x} (hP : 2 ^ 59 &&& P = 2 ^ 59) (h : Keeps P s₀ s) :
    Keeps P s₀ { s with dmaTrigs := x } := by
  refine ⟨fun p hp => ?_, h.queue, h.fresh, h.canon, h.modes⟩
  · have hs := h.same p hp
    have hq := Mask.bit hP
    cases p <;> first | exact hs | exact absurd (hq.symm.trans hp) Bool.noConfusion

theorem Keeps.upd_ahead {s : State} {x} (hP : 2 ^ 60 &&& P = 2 ^ 60) (h : Keeps P s₀ s) :
    Keeps P s₀ { s with ahead := x } := by
  refine ⟨fun p hp => ?_, h.queue, h.fresh, h.canon, h.modes⟩
  · have hs := h.same p hp
    have hq := Mask.bit hP
    cases p <;> first | exact hs | exact absurd (hq.symm.trans hp) Bool.noConfusion

theorem Keeps.upd_strand {s : State} {x} (hP : 2 ^ 61 &&& P = 2 ^ 61) (h : Keeps P s₀ s) :
    Keeps P s₀ { s with strand := x } := by
  refine ⟨fun p hp => ?_, h.queue, h.fresh, h.canon, h.modes⟩
  · have hs := h.same p hp
    have hq := Mask.bit hP
    cases p <;> first | exact hs | exact absurd (hq.symm.trans hp) Bool.noConfusion

theorem Keeps.upd_supply {s : State} {x} (hP : 2 ^ 62 &&& P = 2 ^ 62) (h : Keeps P s₀ s) :
    Keeps P s₀ { s with supply := x } := by
  refine ⟨fun p hp => ?_, h.queue, h.fresh, h.canon, h.modes⟩
  · have hs := h.same p hp
    have hq := Mask.bit hP
    cases p <;> first | exact hs | exact absurd (hq.symm.trans hp) Bool.noConfusion

theorem Keeps.upd_saf {s : State} {x} (hP : 2 ^ 63 &&& P = 2 ^ 63) (h : Keeps P s₀ s) :
    Keeps P s₀ { s with saf := x } := by
  refine ⟨fun p hp => ?_, h.queue, h.fresh, h.canon, h.modes⟩
  · have hs := h.same p hp
    have hq := Mask.bit hP
    cases p <;> first | exact hs | exact absurd (hq.symm.trans hp) Bool.noConfusion

end Sys2Proof.Machine
end

