-- ==== Sys2Proof/Laws/KeepsOps.lean ====
section
/-!
SUPPORT. What each operation of Machine/Ops.lean may change (Laws/Keeps.lean).
-/
set_option linter.unusedTactic false
set_option linter.unreachableTactic false
namespace Sys2Proof.Machine

/-- Changes at most: regs. -/
theorem State.setReg_keeps {P : Nat} {s₀ : State} (s : State) (a : ℕ) (w : Word)
    (hP : 16 &&& P = 16) (h : Keeps P s₀ s) :
    Keeps P s₀ (State.setReg s a w) := by
  unfold State.setReg
  repeat' (first
    | with_reducible assumption
    | exact Mask.sub hP (by decide)
    | (extract_lets +onlyGivenNames x; refine Keeps.cut P s₀ x ?_ fun hx => ?_; (on_goal 2 => clear_value x); revert x; change Keeps _ _ _)
    | (extract_lets +onlyGivenNames x; clear_value x)
    | exact Cells.wf_set _ _ _ _
    | exact Cells.wf_filter _ _ _
    | exact fun _ => rfl
    | with_reducible apply Keeps.upd_regs)

/-- Changes at most: regs. -/
theorem State.set_keeps {P : Nat} {s₀ : State} (s : State) (f : Fld) (v : ℕ)
    (hP : 16 &&& P = 16) (h : Keeps P s₀ s) :
    Keeps P s₀ (State.set s f v) := by
  unfold State.set
  repeat' (first
    | with_reducible assumption
    | exact Mask.sub hP (by decide)
    | with_reducible apply State.setReg_keeps)

/-- Changes at most: regs. -/
theorem State.setI_keeps {P : Nat} {s₀ : State} (s : State) (f : Fld) (v : ℤ)
    (hP : 16 &&& P = 16) (h : Keeps P s₀ s) :
    Keeps P s₀ (State.setI s f v) := by
  unfold State.setI
  repeat' (first
    | with_reducible assumption
    | exact Mask.sub hP (by decide)
    | with_reducible apply State.set_keeps)

/-- Changes at most: regs. -/
theorem State.flag_keeps {P : Nat} {s₀ : State} (s : State) (f : Fld) (b : Bool)
    (hP : 16 &&& P = 16) (h : Keeps P s₀ s) :
    Keeps P s₀ (State.flag s f b) := by
  unfold State.flag
  repeat' (first
    | with_reducible assumption
    | exact Mask.sub hP (by decide)
    | with_reducible apply State.set_keeps
    | split)

/-- Changes at most: ticks. -/
theorem State.note_keeps {P : Nat} {s₀ : State} (s : State) (f : Fld) (n : ℕ)
    (hP : 4096 &&& P = 4096) (h : Keeps P s₀ s) :
    Keeps P s₀ (State.note s f n) := by
  unfold State.note
  repeat' (first
    | with_reducible assumption
    | exact Mask.sub hP (by decide)
    | (extract_lets +onlyGivenNames x; refine Keeps.cut P s₀ x ?_ fun hx => ?_; (on_goal 2 => clear_value x); revert x; change Keeps _ _ _)
    | (extract_lets +onlyGivenNames x; clear_value x)
    | with_reducible apply Keeps.upd_ticks)

/-- Changes at most: regs, ticks. -/
theorem State.stick_keeps {P : Nat} {s₀ : State} (s : State) (f : Fld) (bits : ℕ)
    (hP : 4112 &&& P = 4112) (h : Keeps P s₀ s) :
    Keeps P s₀ (State.stick s f bits) := by
  unfold State.stick
  repeat' (first
    | with_reducible assumption
    | exact Mask.sub hP (by decide)
    | with_reducible apply State.set_keeps
    | with_reducible apply State.note_keeps)

/-- Changes at most: regs, ticks. -/
theorem State.add_keeps {P : Nat} {s₀ : State} (s : State) (f : Fld) (n : ℕ)
    (hP : 4112 &&& P = 4112) (h : Keeps P s₀ s) :
    Keeps P s₀ (State.add s f n) := by
  unfold State.add
  repeat' (first
    | with_reducible assumption
    | exact Mask.sub hP (by decide)
    | with_reducible apply State.set_keeps
    | with_reducible apply State.note_keeps)

/-- Changes at most: regs, ticks. -/
theorem State.inc_keeps {P : Nat} {s₀ : State} (s : State) (f : Fld)
    (hP : 4112 &&& P = 4112) (h : Keeps P s₀ s) :
    Keeps P s₀ (State.inc s f) := by
  unfold State.inc
  repeat' (first
    | with_reducible assumption
    | exact Mask.sub hP (by decide)
    | with_reducible apply State.add_keeps)

/-- Changes at most: regs. -/
theorem State.incMod_keeps {P : Nat} {s₀ : State} (s : State) (f : Fld)
    (hP : 16 &&& P = 16) (h : Keeps P s₀ s) :
    Keeps P s₀ (State.incMod s f) := by
  unfold State.incMod
  repeat' (first
    | with_reducible assumption
    | exact Mask.sub hP (by decide)
    | with_reducible apply State.set_keeps)

/-- Changes at most: regs, ticks. -/
theorem State.maxTo_keeps {P : Nat} {s₀ : State} (s : State) (f : Fld) (v : ℕ)
    (hP : 4112 &&& P = 4112) (h : Keeps P s₀ s) :
    Keeps P s₀ (State.maxTo s f v) := by
  unfold State.maxTo
  repeat' (first
    | with_reducible assumption
    | exact Mask.sub hP (by decide)
    | with_reducible apply State.set_keeps
    | with_reducible apply State.note_keeps
    | split)

/-- Changes at most: regs. -/
theorem State.clearCounts_keeps {P : Nat} {s₀ : State} (s : State) (fs : List Fld)
    (hP : 16 &&& P = 16) (h : Keeps P s₀ s) :
    Keeps P s₀ (State.clearCounts s fs) := by
  unfold State.clearCounts
  repeat' (first
    | with_reducible assumption
    | exact Mask.sub hP (by decide)
    | with_reducible apply State.set_keeps
    | with_reducible apply Keeps.foldl
    | (intro _ _ _))

/-- Changes at most: regs. -/
theorem State.clearMax_keeps {P : Nat} {s₀ : State} (s : State) (f : Fld)
    (hP : 16 &&& P = 16) (h : Keeps P s₀ s) :
    Keeps P s₀ (State.clearMax s f) := by
  unfold State.clearMax
  repeat' (first
    | with_reducible assumption
    | exact Mask.sub hP (by decide)
    | with_reducible apply State.set_keeps
    | with_reducible apply Keeps.foldl
    | (intro _ _ _))

/-- Changes at most: regs, ticks. -/
theorem State.wrej_keeps {P : Nat} {s₀ : State} (s : State)
    (hP : 4112 &&& P = 4112) (h : Keeps P s₀ s) :
    Keeps P s₀ (State.wrej s) := by
  unfold State.wrej
  repeat' (first
    | with_reducible assumption
    | exact Mask.sub hP (by decide)
    | with_reducible apply State.stick_keeps)

/-- Changes at most: work. -/
theorem State.workSet_keeps {P : Nat} {s₀ : State} (s : State) (a : ℕ) (w : Word)
    (hP : 64 &&& P = 64) (h : Keeps P s₀ s) :
    Keeps P s₀ (State.workSet s a w) := by
  unfold State.workSet
  repeat' (first
    | with_reducible assumption
    | exact Mask.sub hP (by decide)
    | (extract_lets +onlyGivenNames x; refine Keeps.cut P s₀ x ?_ fun hx => ?_; (on_goal 2 => clear_value x); revert x; change Keeps _ _ _)
    | (extract_lets +onlyGivenNames x; clear_value x)
    | exact Cells.wf_set _ _ _ _
    | exact Cells.wf_filter _ _ _
    | exact fun _ => rfl
    | with_reducible apply Keeps.upd_work)

/-- Changes at most: trace. -/
theorem State.traceSet_keeps {P : Nat} {s₀ : State} (s : State) (a : ℕ) (w : Word)
    (hP : 32 &&& P = 32) (h : Keeps P s₀ s) :
    Keeps P s₀ (State.traceSet s a w) := by
  unfold State.traceSet
  repeat' (first
    | with_reducible assumption
    | exact Mask.sub hP (by decide)
    | (extract_lets +onlyGivenNames x; refine Keeps.cut P s₀ x ?_ fun hx => ?_; (on_goal 2 => clear_value x); revert x; change Keeps _ _ _)
    | (extract_lets +onlyGivenNames x; clear_value x)
    | exact Cells.wf_set _ _ _ _
    | exact Cells.wf_filter _ _ _
    | exact fun _ => rfl
    | with_reducible apply Keeps.upd_trace)

/-- Changes at most: fresh. -/
theorem State.traceRead_keeps {P : Nat} {s₀ : State} (s : State)
    (hP : 2 &&& P = 2) (h : Keeps P s₀ s) :
    Keeps P s₀ (State.traceRead s) := by
  unfold State.traceRead
  repeat' (first
    | with_reducible assumption
    | exact Mask.sub hP (by decide)
    | (extract_lets +onlyGivenNames x; refine Keeps.cut P s₀ x ?_ fun hx => ?_; (on_goal 2 => clear_value x); revert x; change Keeps _ _ _)
    | (extract_lets +onlyGivenNames x; clear_value x)
    | exact Nat.le_succ _
    | split
    | with_reducible apply Keeps.upd_fresh)

/-- Changes at most: recMem. -/
theorem State.recSet_keeps {P : Nat} {s₀ : State} (s : State) (a : ℕ) (w : Word)
    (hP : 128 &&& P = 128) (h : Keeps P s₀ s) :
    Keeps P s₀ (State.recSet s a w) := by
  unfold State.recSet
  repeat' (first
    | with_reducible assumption
    | exact Mask.sub hP (by decide)
    | (extract_lets +onlyGivenNames x; refine Keeps.cut P s₀ x ?_ fun hx => ?_; (on_goal 2 => clear_value x); revert x; change Keeps _ _ _)
    | (extract_lets +onlyGivenNames x; clear_value x)
    | exact Cells.wf_set _ _ _ _
    | exact Cells.wf_filter _ _ _
    | exact fun _ => rfl
    | with_reducible apply Keeps.upd_recMem)

/-- Changes at most: flash. -/
theorem State.flashSet_keeps {P : Nat} {s₀ : State} (s : State) (a : ℕ) (v : ℕ)
    (hP : 2048 &&& P = 2048) (h : Keeps P s₀ s) :
    Keeps P s₀ (State.flashSet s a v) := by
  unfold State.flashSet
  repeat' (first
    | with_reducible assumption
    | exact Mask.sub hP (by decide)
    | (extract_lets +onlyGivenNames x; refine Keeps.cut P s₀ x ?_ fun hx => ?_; (on_goal 2 => clear_value x); revert x; change Keeps _ _ _)
    | (extract_lets +onlyGivenNames x; clear_value x)
    | exact Cells.wf_set _ _ _ _
    | exact Cells.wf_filter _ _ _
    | exact fun _ => rfl
    | with_reducible apply Keeps.upd_flash)

/-- Changes at most: ply0, ply1, ply2. -/
theorem State.plySet_keeps {P : Nat} {s₀ : State} (s : State) (n : ℕ) (a : ℕ) (w : Word)
    (hP : 1792 &&& P = 1792) (h : Keeps P s₀ s) :
    Keeps P s₀ (State.plySet s n a w) := by
  unfold State.plySet
  repeat' (first
    | with_reducible assumption
    | exact Mask.sub hP (by decide)
    | (extract_lets +onlyGivenNames x; refine Keeps.cut P s₀ x ?_ fun hx => ?_; (on_goal 2 => clear_value x); revert x; change Keeps _ _ _)
    | (extract_lets +onlyGivenNames x; clear_value x)
    | exact Cells.wf_set _ _ _ _
    | exact Cells.wf_filter _ _ _
    | exact fun _ => rfl
    | split
    | with_reducible apply Keeps.upd_ply0
    | with_reducible apply Keeps.upd_ply1
    | with_reducible apply Keeps.upd_ply2
    | (apply Keeps.many; (case h => assumption); (case hq => rfl); (case hf => exact Nat.le_refl _); (case hc => exact fun hc => hc); (case hm => exact fun h => h); (case hp => (intro p; cases p <;> first | exact Or.inr rfl | exact Or.inl (Mask.mem hP (by decide))))))

/-- Changes at most: work. -/
theorem State.workWrite_keeps {P : Nat} {s₀ : State} (s : State) (a : ℕ) (x2 : List Word)
    (hP : 64 &&& P = 64) (h : Keeps P s₀ s) :
    Keeps P s₀ (State.workWrite s a x2) := by
  induction x2 generalizing s a with
  | nil =>
    unfold State.workWrite
    repeat' (first
      | with_reducible assumption
      | exact Mask.sub hP (by decide)
      | with_reducible apply State.workSet_keeps
      | split)
  | cons w ws ih =>
    unfold State.workWrite
    repeat' (first
      | with_reducible assumption
      | exact Mask.sub hP (by decide)
      | with_reducible apply State.workSet_keeps
      | split
      | apply ih)

/-- Changes at most: acc. -/
theorem State.accSet_keeps {P : Nat} {s₀ : State} (s : State) (type : ℕ) (key : ℕ) (w : ℕ) (v : Word)
    (hP : 268435456 &&& P = 268435456) (h : Keeps P s₀ s) :
    Keeps P s₀ (State.accSet s type key w v) := by
  unfold State.accSet
  repeat' (first
    | with_reducible assumption
    | exact Mask.sub hP (by decide)
    | (extract_lets +onlyGivenNames x; refine Keeps.cut P s₀ x ?_ fun hx => ?_; (on_goal 2 => clear_value x); revert x; change Keeps _ _ _)
    | (extract_lets +onlyGivenNames x; clear_value x)
    | exact Cells.wf_set _ _ _ _
    | exact Cells.wf_filter _ _ _
    | exact fun _ => rfl
    | with_reducible apply Keeps.upd_acc)

/-- Changes at most: acc. -/
theorem State.accAdd_keeps {P : Nat} {s₀ : State} (s : State) (type : ℕ) (key : ℕ) (w : ℕ) (n : ℕ)
    (hP : 268435456 &&& P = 268435456) (h : Keeps P s₀ s) :
    Keeps P s₀ (State.accAdd s type key w n) := by
  unfold State.accAdd
  repeat' (first
    | with_reducible assumption
    | exact Mask.sub hP (by decide)
    | with_reducible apply State.accSet_keeps)

/-- Changes at most: acc. -/
theorem State.accInc_keeps {P : Nat} {s₀ : State} (s : State) (type : ℕ) (key : ℕ) (w : ℕ)
    (hP : 268435456 &&& P = 268435456) (h : Keeps P s₀ s) :
    Keeps P s₀ (State.accInc s type key w) := by
  unfold State.accInc
  repeat' (first
    | with_reducible assumption
    | exact Mask.sub hP (by decide)
    | with_reducible apply State.accAdd_keeps)

/-- Changes at most: acc. -/
theorem State.counter_keeps {P : Nat} {s₀ : State} (s : State) (w : ℕ)
    (hP : 268435456 &&& P = 268435456) (h : Keeps P s₀ s) :
    Keeps P s₀ (State.counter s w) := by
  unfold State.counter
  repeat' (first
    | with_reducible assumption
    | exact Mask.sub hP (by decide)
    | with_reducible apply State.accInc_keeps
    | split)

/-- Changes at most: acc. -/
theorem State.halfAdd_keeps {P : Nat} {s₀ : State} (s : State) (b : ℕ) (upper : Bool) (n : ℕ)
    (hP : 268435456 &&& P = 268435456) (h : Keeps P s₀ s) :
    Keeps P s₀ (State.halfAdd s b upper n) := by
  unfold State.halfAdd
  repeat' (first
    | with_reducible assumption
    | exact Mask.sub hP (by decide)
    | (extract_lets +onlyGivenNames x; refine Keeps.cut P s₀ x ?_ fun hx => ?_; (on_goal 2 => clear_value x); revert x; change Keeps _ _ _)
    | (extract_lets +onlyGivenNames x; clear_value x)
    | with_reducible apply State.accSet_keeps)

/-- Changes at most: acc. -/
theorem State.counterBank_keeps {P : Nat} {s₀ : State} (s : State) (b : ℕ) (upper : Bool)
    (hP : 268435456 &&& P = 268435456) (h : Keeps P s₀ s) :
    Keeps P s₀ (State.counterBank s b upper) := by
  unfold State.counterBank
  repeat' (first
    | with_reducible assumption
    | exact Mask.sub hP (by decide)
    | with_reducible apply State.halfAdd_keeps
    | split)

/-- Changes at most: acc. -/
theorem State.extreme_keeps {P : Nat} {s₀ : State} (s : State) (e : ℕ) (idx : ℕ) (v : ℤ) (isMin : Bool) (sgn : Bool)
    (hP : 268435456 &&& P = 268435456) (h : Keeps P s₀ s) :
    Keeps P s₀ (State.extreme s e idx v isMin sgn) := by
  unfold State.extreme
  repeat' (first
    | with_reducible assumption
    | exact Mask.sub hP (by decide)
    | (extract_lets +onlyGivenNames x; refine Keeps.cut P s₀ x ?_ fun hx => ?_; (on_goal 2 => clear_value x); revert x; change Keeps _ _ _)
    | (extract_lets +onlyGivenNames x; clear_value x)
    | (extract_lets +onlyGivenNames x)
    | with_reducible apply State.accSet_keeps
    | split)

/-- Changes at most: reports. -/
theorem State.report_keeps {P : Nat} {s₀ : State} (s : State) (src : ℕ) (idx : ℕ) (code : ℕ) (arg : ℕ) (time : optParam (Option Word) none)
    (hP : 8192 &&& P = 8192) (h : Keeps P s₀ s) :
    Keeps P s₀ (State.report s src idx code arg time) := by
  unfold State.report
  repeat' (first
    | with_reducible assumption
    | exact Mask.sub hP (by decide)
    | (extract_lets +onlyGivenNames x; refine Keeps.cut P s₀ x ?_ fun hx => ?_; (on_goal 2 => clear_value x); revert x; change Keeps _ _ _)
    | (extract_lets +onlyGivenNames x; clear_value x)
    | with_reducible apply Keeps.upd_reports)

/-- Changes at most: causes. -/
theorem State.cause_keeps {P : Nat} {s₀ : State} (s : State) (code : ℕ) (idx : ℕ)
    (hP : 65536 &&& P = 65536) (h : Keeps P s₀ s) :
    Keeps P s₀ (State.cause s code idx) := by
  unfold State.cause
  repeat' (first
    | with_reducible assumption
    | exact Mask.sub hP (by decide)
    | (extract_lets +onlyGivenNames x; refine Keeps.cut P s₀ x ?_ fun hx => ?_; (on_goal 2 => clear_value x); revert x; change Keeps _ _ _)
    | (extract_lets +onlyGivenNames x; clear_value x)
    | with_reducible apply Keeps.upd_causes)

/-- Changes at most: fresh. -/
theorem State.free_keeps {P : Nat} {s₀ : State} (s : State)
    (hP : 2 &&& P = 2) (h : Keeps P s₀ s) :
    Keeps P s₀ (State.free s).2 := by
  unfold State.free
  repeat' (first
    | with_reducible assumption
    | exact Mask.sub hP (by decide)
    | (extract_lets +onlyGivenNames x; refine Keeps.cut P s₀ x ?_ fun hx => ?_; (on_goal 2 => clear_value x); revert x; change Keeps _ _ _)
    | (extract_lets +onlyGivenNames x; clear_value x)
    | exact Nat.le_succ _
    | with_reducible apply Keeps.upd_fresh)

/-- Changes at most: ahead. -/
theorem State.passed_keeps {P : Nat} {s₀ : State} (s : State) (c : Instr)
    (hP : 1152921504606846976 &&& P = 1152921504606846976) (h : Keeps P s₀ s) :
    Keeps P s₀ (State.passed s c) := by
  unfold State.passed
  repeat' (first
    | with_reducible assumption
    | exact Mask.sub hP (by decide)
    | (extract_lets +onlyGivenNames x; refine Keeps.cut P s₀ x ?_ fun hx => ?_; (on_goal 2 => clear_value x); revert x; change Keeps _ _ _)
    | (extract_lets +onlyGivenNames x; clear_value x)
    | with_reducible apply Keeps.upd_ahead)

/-- Changes at most: ahead. -/
theorem State.took_keeps {P : Nat} {s₀ : State} (s : State) (c : Instr)
    (hP : 1152921504606846976 &&& P = 1152921504606846976) (h : Keeps P s₀ s) :
    Keeps P s₀ (State.took s c) := by
  unfold State.took
  repeat' (first
    | with_reducible assumption
    | exact Mask.sub hP (by decide)
    | (extract_lets +onlyGivenNames x; refine Keeps.cut P s₀ x ?_ fun hx => ?_; (on_goal 2 => clear_value x); revert x; change Keeps _ _ _)
    | (extract_lets +onlyGivenNames x; clear_value x)
    | with_reducible apply Keeps.upd_ahead)

/-- Changes at most: now. -/
theorem State.at_keeps {P : Nat} {s₀ : State} (s : State) (t : Word)
    (hP : 1 &&& P = 1) (h : Keeps P s₀ s) :
    Keeps P s₀ (State.at s t) := by
  unfold State.at
  repeat' (first
    | with_reducible assumption
    | exact Mask.sub hP (by decide)
    | (extract_lets +onlyGivenNames x; refine Keeps.cut P s₀ x ?_ fun hx => ?_; (on_goal 2 => clear_value x); revert x; change Keeps _ _ _)
    | (extract_lets +onlyGivenNames x; clear_value x)
    | with_reducible apply Keeps.upd_now)

end Sys2Proof.Machine
end

