-- ==== Sys2Proof/Laws/KeepsRegRules.lean ====
section
/-!
SUPPORT. What each operation of Machine/RegRules.lean may change (Laws/Keeps.lean).
-/
set_option linter.unusedTactic false
set_option linter.unreachableTactic false
namespace Sys2Proof.Machine

/-- Changes at most: regs, ticks. -/
theorem State.writeReg_keeps {P : Nat} {s₀ : State} (s : State) (r : RegRow) (a : ℕ) (i : ℕ) (w : Word)
    (hP : 4112 &&& P = 4112) (h : Keeps P s₀ s) :
    Keeps P s₀ (State.writeReg s r a i w) := by
  unfold State.writeReg
  repeat' (first
    | with_reducible assumption
    | exact Mask.sub hP (by decide)
    | (extract_lets +onlyGivenNames x; refine Keeps.cut P s₀ x ?_ fun hx => ?_; (on_goal 2 => clear_value x); revert x; change Keeps _ _ _)
    | (extract_lets +onlyGivenNames x; clear_value x)
    | with_reducible apply State.setReg_keeps
    | with_reducible apply State.wrej_keeps
    | split)

/-- Changes at most: regs. -/
theorem State.entryWrite_keeps {P : Nat} {s₀ : State} (s : State) (r : RegRow) (a : ℕ) (i : ℕ) (w : Word)
    (hP : 16 &&& P = 16) (h : Keeps P s₀ s) :
    OptKeeps P s₀ (State.entryWrite s r a i w) := by
  unfold State.entryWrite
  repeat' (first
    | with_reducible assumption
    | exact Mask.sub hP (by decide)
    | (extract_lets +onlyGivenNames x; refine Keeps.cut P s₀ x ?_ fun hx => ?_; (on_goal 2 => clear_value x); revert x; change Keeps _ _ _)
    | (extract_lets +onlyGivenNames x; clear_value x)
    | with_reducible apply OptKeeps.some
    | with_reducible exact OptKeeps.none
    | with_reducible apply OptKeeps₂.some
    | with_reducible exact OptKeeps₂.none
    | with_reducible apply State.setReg_keeps
    | with_reducible apply Keeps.foldl
    | split
    | (intro _ _ _))

end Sys2Proof.Machine
end

