-- ==== Sys2Proof/Laws/KeepsComparator.lean ====
section
/-!
SUPPORT. What each operation of Machine/Comparator.lean may change (Laws/Keeps.lean).
-/
set_option linter.unusedTactic false
set_option linter.unreachableTactic false
namespace Sys2Proof.Machine

/-- Changes at most: banks, cmps. -/
theorem State.setBk_keeps {P : Nat} {s₀ : State} (s : State) (b : ℕ) (k : Bank)
    (hP : 12884901888 &&& P = 12884901888) (h : Keeps P s₀ s) :
    Keeps P s₀ (State.setBk s b k) := by
  unfold State.setBk
  repeat' (first
    | with_reducible assumption
    | exact Mask.sub hP (by decide)
    | (extract_lets +onlyGivenNames x; refine Keeps.cut P s₀ x ?_ fun hx => ?_; (on_goal 2 => clear_value x); revert x; change Keeps _ _ _)
    | (extract_lets +onlyGivenNames x; clear_value x)
    | with_reducible apply Keeps.upd_banks
    | with_reducible apply Keeps.upd_cmps
    | (apply Keeps.many; (case h => assumption); (case hq => rfl); (case hf => exact Nat.le_refl _); (case hc => exact fun hc => hc); (case hm => exact State.setBk_modes s b k); (case hp => (intro p; cases p <;> first | exact Or.inr rfl | exact Or.inl (Mask.mem hP (by decide))))))

/-- Changes at most: regs, supply. -/
theorem State.smMode_keeps {P : Nat} {s₀ : State} (s : State) (m : ℕ) (mode : ℕ)
    (hP : 4611686018427387920 &&& P = 4611686018427387920) (h : Keeps P s₀ s) :
    Keeps P s₀ (State.smMode s m mode) := by
  unfold State.smMode
  repeat' (first
    | with_reducible assumption
    | exact Mask.sub hP (by decide)
    | (extract_lets +onlyGivenNames x; refine Keeps.cut P s₀ x ?_ fun hx => ?_; (on_goal 2 => clear_value x); revert x; change Keeps _ _ _)
    | (extract_lets +onlyGivenNames x; clear_value x)
    | with_reducible apply State.set_keeps
    | with_reducible apply Keeps.upd_supply)

end Sys2Proof.Machine
end

