-- ==== Sys2Proof/Laws/KeepsFabric.lean ====
section
/-!
SUPPORT. What each operation of Machine/Fabric.lean may change (Laws/Keeps.lean).
-/
set_option linter.unusedTactic false
set_option linter.unreachableTactic false
namespace Sys2Proof.Machine

/-- Changes at most: regs. -/
theorem State.setBit_keeps {P : Nat} {s₀ : State} (s : State) (f : Fld) (n : ℕ)
    (hP : 16 &&& P = 16) (h : Keeps P s₀ s) :
    Keeps P s₀ (State.setBit s f n) := by
  unfold State.setBit
  repeat' (first
    | with_reducible assumption
    | exact Mask.sub hP (by decide)
    | with_reducible apply State.set_keeps)

/-- Changes at most: regs, ticks. -/
theorem State.stickBit_keeps {P : Nat} {s₀ : State} (s : State) (f : Fld) (n : ℕ)
    (hP : 4112 &&& P = 4112) (h : Keeps P s₀ s) :
    Keeps P s₀ (State.stickBit s f n) := by
  unfold State.stickBit
  repeat' (first
    | with_reducible assumption
    | exact Mask.sub hP (by decide)
    | with_reducible apply State.stick_keeps)

/-- Changes at most: regs. -/
theorem State.clearBit_keeps {P : Nat} {s₀ : State} (s : State) (f : Fld) (n : ℕ)
    (hP : 16 &&& P = 16) (h : Keeps P s₀ s) :
    Keeps P s₀ (State.clearBit s f n) := by
  unfold State.clearBit
  repeat' (first
    | with_reducible assumption
    | exact Mask.sub hP (by decide)
    | with_reducible apply State.set_keeps
    | split)

/-- Changes at most: saf. -/
theorem State.cutWatch_keeps {P : Nat} {s₀ : State} (s : State)
    (hP : 9223372036854775808 &&& P = 9223372036854775808) (h : Keeps P s₀ s) :
    Keeps P s₀ (State.cutWatch s) := by
  unfold State.cutWatch
  repeat' (first
    | with_reducible assumption
    | exact Mask.sub hP (by decide)
    | (extract_lets +onlyGivenNames x; refine Keeps.cut P s₀ x ?_ fun hx => ?_; (on_goal 2 => clear_value x); revert x; change Keeps _ _ _)
    | (extract_lets +onlyGivenNames x; clear_value x)
    | split
    | with_reducible apply Keeps.upd_saf)

/-- Changes at most: now, regs, ticks, causes. -/
theorem execInvalidCodeDetect_keeps {P : Nat} {s₀ : State} (t : Word) (region : Fin 8) (s : State)
    (hP : 69649 &&& P = 69649) (h : Keeps P s₀ s) :
    OutKeeps P s₀ (execInvalidCodeDetect t region s) := by
  unfold execInvalidCodeDetect
  repeat' (first
    | with_reducible assumption
    | exact Mask.sub hP (by decide)
    | with_reducible apply OutKeeps.next
    | with_reducible apply State.stickBit_keeps
    | with_reducible apply State.cause_keeps
    | with_reducible apply State.at_keeps)

/-- Changes at most: now, regs, ticks, causes. -/
theorem execHandshakeStall_keeps {P : Nat} {s₀ : State} (t : Word) (region : Fin 8) (s : State)
    (hP : 69649 &&& P = 69649) (h : Keeps P s₀ s) :
    OutKeeps P s₀ (execHandshakeStall t region s) := by
  unfold execHandshakeStall
  repeat' (first
    | with_reducible assumption
    | exact Mask.sub hP (by decide)
    | with_reducible apply OutKeeps.next
    | with_reducible apply State.stickBit_keeps
    | with_reducible apply State.cause_keeps
    | with_reducible apply State.at_keeps)

/-- Changes at most: now, regs, ticks, causes, gov, saf. -/
theorem execGovernorSample_keeps {P : Nat} {s₀ : State} (t : Word) (pcts : Vector ℕ 16) (s : State)
    (hP : 9223372036855107601 &&& P = 9223372036855107601) (h : Keeps P s₀ s) :
    OutKeeps P s₀ (execGovernorSample t pcts s) := by
  unfold execGovernorSample
  repeat' (first
    | with_reducible assumption
    | exact Mask.sub hP (by decide)
    | (extract_lets +onlyGivenNames x; refine Keeps.cut P s₀ x ?_ fun hx => ?_; (on_goal 2 => clear_value x); revert x; change Keeps _ _ _)
    | (extract_lets +onlyGivenNames x; clear_value x)
    | with_reducible apply OutKeeps.next
    | with_reducible apply State.cutWatch_keeps
    | with_reducible apply State.set_keeps
    | with_reducible apply State.stick_keeps
    | with_reducible apply State.cause_keeps
    | with_reducible apply State.at_keeps
    | split
    | with_reducible apply Keeps.upd_gov)

/-- Changes at most: now, regs, ticks, gov. -/
theorem execVcoreRaise_keeps {P : Nat} {s₀ : State} (t : Word) (s : State)
    (hP : 266257 &&& P = 266257) (h : Keeps P s₀ s) :
    OutKeeps P s₀ (execVcoreRaise t s) := by
  unfold execVcoreRaise
  repeat' (first
    | with_reducible assumption
    | exact Mask.sub hP (by decide)
    | (extract_lets +onlyGivenNames x; refine Keeps.cut P s₀ x ?_ fun hx => ?_; (on_goal 2 => clear_value x); revert x; change Keeps _ _ _)
    | (extract_lets +onlyGivenNames x; clear_value x)
    | with_reducible apply OutKeeps.next
    | with_reducible apply State.inc_keeps
    | with_reducible apply State.at_keeps
    | split
    | with_reducible apply Keeps.upd_gov)

/-- Changes at most: now, regs, gov. -/
theorem execVcoreLower_keeps {P : Nat} {s₀ : State} (t : Word) (s : State)
    (hP : 262161 &&& P = 262161) (h : Keeps P s₀ s) :
    OutKeeps P s₀ (execVcoreLower t s) := by
  unfold execVcoreLower
  repeat' (first
    | with_reducible assumption
    | exact Mask.sub hP (by decide)
    | (extract_lets +onlyGivenNames x; refine Keeps.cut P s₀ x ?_ fun hx => ?_; (on_goal 2 => clear_value x); revert x; change Keeps _ _ _)
    | (extract_lets +onlyGivenNames x; clear_value x)
    | with_reducible apply OutKeeps.next
    | with_reducible apply State.set_keeps
    | with_reducible apply State.at_keeps
    | split
    | with_reducible apply Keeps.upd_gov)

/-- Changes at most: regs. -/
theorem State.latClear_keeps {P : Nat} {s₀ : State} (s : State)
    (hP : 16 &&& P = 16) (h : Keeps P s₀ s) :
    Keeps P s₀ (State.latClear s) := by
  unfold State.latClear
  repeat' (first
    | with_reducible assumption
    | exact Mask.sub hP (by decide)
    | with_reducible apply State.clearMax_keeps)

/-- Changes at most: now, regs. -/
theorem execSysLatClr_keeps {P : Nat} {s₀ : State} (t : Word) (s : State)
    (hP : 17 &&& P = 17) (h : Keeps P s₀ s) :
    OutKeeps P s₀ (execSysLatClr t s) := by
  unfold execSysLatClr
  repeat' (first
    | with_reducible assumption
    | exact Mask.sub hP (by decide)
    | with_reducible apply OutKeeps.next
    | with_reducible apply State.latClear_keeps
    | with_reducible apply State.at_keeps)

/-- Changes at most: strand. -/
theorem State.countSeconds_keeps {P : Nat} {s₀ : State} (s : State)
    (hP : 2305843009213693952 &&& P = 2305843009213693952) (h : Keeps P s₀ s) :
    Keeps P s₀ (State.countSeconds s) := by
  unfold State.countSeconds
  repeat' (first
    | with_reducible assumption
    | exact Mask.sub hP (by decide)
    | (extract_lets +onlyGivenNames x; refine Keeps.cut P s₀ x ?_ fun hx => ?_; (on_goal 2 => clear_value x); revert x; change Keeps _ _ _)
    | (extract_lets +onlyGivenNames x; clear_value x)
    | (extract_lets +onlyGivenNames x)
    | split
    | with_reducible apply Keeps.upd_strand)

/-- Changes at most: regs, ticks. -/
theorem State.latency_keeps {P : Nat} {s₀ : State} (s : State) (f : Fld) (since : Word)
    (hP : 4112 &&& P = 4112) (h : Keeps P s₀ s) :
    Keeps P s₀ (State.latency s f since) := by
  unfold State.latency
  repeat' (first
    | with_reducible assumption
    | exact Mask.sub hP (by decide)
    | with_reducible apply State.maxTo_keeps)

end Sys2Proof.Machine
end

