-- ==== Sys2Proof/Laws/KeepsCopies.lean ====
section
/-!
SUPPORT. What each operation of Machine/Copies.lean may change (Laws/Keeps.lean).
-/
set_option linter.unusedTactic false
set_option linter.unreachableTactic false
namespace Sys2Proof.Machine

/-- Changes at most: dmaTrigs. -/
theorem State.dmaPulse_keeps {P : Nat} {s₀ : State} (s : State) (trig : ℕ) (idx : ℕ) (t : Word)
    (hP : 576460752303423488 &&& P = 576460752303423488) (h : Keeps P s₀ s) :
    Keeps P s₀ (State.dmaPulse s trig idx t) := by
  unfold State.dmaPulse
  repeat' (first
    | with_reducible assumption
    | exact Mask.sub hP (by decide)
    | (extract_lets +onlyGivenNames x; refine Keeps.cut P s₀ x ?_ fun hx => ?_; (on_goal 2 => clear_value x); revert x; change Keeps _ _ _)
    | (extract_lets +onlyGivenNames x; clear_value x)
    | (extract_lets +onlyGivenNames x)
    | with_reducible apply Keeps.upd_dmaTrigs)

/-- Changes at most: streams. -/
theorem State.setStr_keeps {P : Nat} {s₀ : State} (s : State) (k : ℕ) (x : Stream)
    (hP : 36028797018963968 &&& P = 36028797018963968) (h : Keeps P s₀ s) :
    Keeps P s₀ (State.setStr s k x) := by
  unfold State.setStr
  repeat' (first
    | with_reducible assumption
    | exact Mask.sub hP (by decide)
    | (extract_lets +onlyGivenNames x; refine Keeps.cut P s₀ x ?_ fun hx => ?_; (on_goal 2 => clear_value x); revert x; change Keeps _ _ _)
    | (extract_lets +onlyGivenNames x; clear_value x)
    | with_reducible apply Keeps.upd_streams)

/-- Changes at most: regs, ticks, streams. -/
theorem State.streamItem_keeps {P : Nat} {s₀ : State} (s : State) (kind : ℕ) (k : ℕ) (ws : List Word) (tag : ℕ)
    (hP : 36028797018968080 &&& P = 36028797018968080) (h : Keeps P s₀ s) :
    Keeps P s₀ (State.streamItem s kind k ws tag) := by
  unfold State.streamItem
  repeat' (first
    | with_reducible assumption
    | exact Mask.sub hP (by decide)
    | (extract_lets +onlyGivenNames x; refine Keeps.cut P s₀ x ?_ fun hx => ?_; (on_goal 2 => clear_value x); revert x; change Keeps _ _ _)
    | (extract_lets +onlyGivenNames x; refine Keeps.cutOp P s₀ x ?_ fun hx => ?_; (on_goal 2 => clear_value x); revert x; change ∀ s, Keeps _ _ s → Keeps _ _ _; intro s hs)
    | (extract_lets +onlyGivenNames x; refine Keeps.cutFun P s₀ x ?_ fun hx => ?_; (on_goal 2 => clear_value x); revert x; change ∀ s x, Keeps _ _ s → Keeps _ _ _; intro s x hs)
    | (extract_lets +onlyGivenNames x; refine Keeps.cutFn P s₀ x ?_ fun hx => ?_; (on_goal 2 => clear_value x); revert x; change ∀ x, Keeps _ _ _; intro x)
    | (extract_lets +onlyGivenNames x; clear_value x)
    | with_reducible apply State.setStr_keeps
    | with_reducible apply State.inc_keeps
    | split
    | with_reducible apply_assumption)

/-- Changes at most: regs, ticks, streams. -/
theorem State.streamAll_keeps {P : Nat} {s₀ : State} (s : State) (kind : ℕ) (ws : List Word) (tag : ℕ)
    (hP : 36028797018968080 &&& P = 36028797018968080) (h : Keeps P s₀ s) :
    Keeps P s₀ (State.streamAll s kind ws tag) := by
  unfold State.streamAll
  repeat' (first
    | with_reducible assumption
    | exact Mask.sub hP (by decide)
    | with_reducible apply State.streamItem_keeps
    | with_reducible apply Keeps.foldl
    | (intro _ _ _))

/-- Changes at most: regs, ticks, streams. -/
theorem State.streamWindow_keeps {P : Nat} {s₀ : State} (s : State) (q : ℕ) (cycle : ℕ)
    (hP : 36028797018968080 &&& P = 36028797018968080) (h : Keeps P s₀ s) :
    Keeps P s₀ (State.streamWindow s q cycle) := by
  unfold State.streamWindow
  repeat' (first
    | with_reducible assumption
    | exact Mask.sub hP (by decide)
    | (extract_lets +onlyGivenNames x; refine Keeps.cut P s₀ x ?_ fun hx => ?_; (on_goal 2 => clear_value x); revert x; change Keeps _ _ _)
    | (extract_lets +onlyGivenNames x; clear_value x)
    | with_reducible apply State.setStr_keeps
    | with_reducible apply State.inc_keeps
    | with_reducible apply Keeps.foldl
    | split
    | (intro _ _ _))

end Sys2Proof.Machine
end

