-- ==== Sys2Proof/Laws/KeepsMonitor.lean ====
section
/-!
SUPPORT. What each operation of Machine/Monitor.lean may change (Laws/Keeps.lean).
-/
set_option linter.unusedTactic false
set_option linter.unreachableTactic false
namespace Sys2Proof.Machine

/-- Changes at most: wmons. -/
theorem State.setWm_keeps {P : Nat} {s₀ : State} (s : State) (m : ℕ) (k : WMon)
    (hP : 1099511627776 &&& P = 1099511627776) (h : Keeps P s₀ s) :
    Keeps P s₀ (State.setWm s m k) := by
  unfold State.setWm
  repeat' (first
    | with_reducible assumption
    | exact Mask.sub hP (by decide)
    | (extract_lets +onlyGivenNames x; refine Keeps.cut P s₀ x ?_ fun hx => ?_; (on_goal 2 => clear_value x); revert x; change Keeps _ _ _)
    | (extract_lets +onlyGivenNames x; clear_value x)
    | with_reducible apply Keeps.upd_wmons)

/-- Changes at most: regs. -/
theorem State.clearLatch_keeps {P : Nat} {s₀ : State} (s : State) (m : ℕ)
    (hP : 16 &&& P = 16) (h : Keeps P s₀ s) :
    Keeps P s₀ (State.clearLatch s m) := by
  unfold State.clearLatch
  repeat' (first
    | with_reducible assumption
    | exact Mask.sub hP (by decide)
    | (extract_lets +onlyGivenNames x; refine Keeps.cut P s₀ x ?_ fun hx => ?_; (on_goal 2 => clear_value x); revert x; change Keeps _ _ _)
    | (extract_lets +onlyGivenNames x; clear_value x)
    | (extract_lets +onlyGivenNames x)
    | with_reducible apply State.set_keeps
    | split)

/-- Changes at most: regs. -/
theorem State.periodRise_keeps {P : Nat} {s₀ : State} (s : State) (code : ℕ)
    (hP : 16 &&& P = 16) (h : Keeps P s₀ s) :
    Keeps P s₀ (State.periodRise s code) := by
  unfold State.periodRise
  repeat' (first
    | with_reducible assumption
    | exact Mask.sub hP (by decide)
    | with_reducible apply State.clearLatch_keeps
    | with_reducible apply Keeps.foldl
    | split
    | (intro _ _ _))

end Sys2Proof.Machine
end

