-- ==== Sys2Proof/Laws/KeepsDiverge.lean ====
section
/-!
SUPPORT. What each operation of Machine/Diverge.lean may change (Laws/Keeps.lean).
-/
set_option linter.unusedTactic false
set_option linter.unreachableTactic false
namespace Sys2Proof.Machine

/-- Changes at most: regs, ticks, reports, pair. -/
theorem State.setDiv_keeps {P : Nat} {s₀ : State} (s : State) (new : ℕ)
    (hP : 67121168 &&& P = 67121168) (h : Keeps P s₀ s) :
    Keeps P s₀ (State.setDiv s new) := by
  unfold State.setDiv
  repeat' (first
    | with_reducible assumption
    | exact Mask.sub hP (by decide)
    | (extract_lets +onlyGivenNames x; refine Keeps.cut P s₀ x ?_ fun hx => ?_; (on_goal 2 => clear_value x); revert x; change Keeps _ _ _)
    | (extract_lets +onlyGivenNames x; clear_value x)
    | with_reducible apply State.set_keeps
    | with_reducible apply State.inc_keeps
    | with_reducible apply State.report_keeps
    | split
    | with_reducible apply Keeps.upd_pair)

/-- Changes at most: regs, ticks, reports, pair. -/
theorem State.leaveStopOwn_keeps {P : Nat} {s₀ : State} (s : State)
    (hP : 67121168 &&& P = 67121168) (h : Keeps P s₀ s) :
    Keeps P s₀ (State.leaveStopOwn s) := by
  unfold State.leaveStopOwn
  repeat' (first
    | with_reducible assumption
    | exact Mask.sub hP (by decide)
    | with_reducible apply State.setDiv_keeps
    | split)

/-- Changes at most: regs, ticks, reports, causes, pair. -/
theorem State.resolveHard_keeps {P : Nat} {s₀ : State} (s : State)
    (hP : 67186704 &&& P = 67186704) (h : Keeps P s₀ s) :
    Keeps P s₀ (State.resolveHard s) := by
  unfold State.resolveHard
  repeat' (first
    | with_reducible assumption
    | exact Mask.sub hP (by decide)
    | (extract_lets +onlyGivenNames x; refine Keeps.cut P s₀ x ?_ fun hx => ?_; (on_goal 2 => clear_value x); revert x; change Keeps _ _ _)
    | (extract_lets +onlyGivenNames x; clear_value x)
    | with_reducible apply State.setDiv_keeps
    | with_reducible apply State.leaveStopOwn_keeps
    | with_reducible apply State.cause_keeps
    | split)

/-- Changes at most: regs, ticks, reports, causes, pair. -/
theorem State.verdict_keeps {P : Nat} {s₀ : State} (s : State) (pass : Bool)
    (hP : 67186704 &&& P = 67186704) (h : Keeps P s₀ s) :
    Keeps P s₀ (State.verdict s pass) := by
  unfold State.verdict
  repeat' (first
    | with_reducible assumption
    | exact Mask.sub hP (by decide)
    | with_reducible apply State.resolveHard_keeps
    | with_reducible apply State.set_keeps
    | split)

end Sys2Proof.Machine
end

