-- ==== Sys2Proof/Laws/KeepsPredict.lean ====
section
/-!
SUPPORT. What each operation of Machine/Predict.lean may change (Laws/Keeps.lean).
-/
set_option linter.unusedTactic false
set_option linter.unreachableTactic false
namespace Sys2Proof.Machine

/-- Changes at most: warps. -/
theorem State.setWp_keeps {P : Nat} {s₀ : State} (s : State) (n : ℕ) (w : Warp)
    (hP : 2097152 &&& P = 2097152) (h : Keeps P s₀ s) :
    Keeps P s₀ (State.setWp s n w) := by
  unfold State.setWp
  repeat' (first
    | with_reducible assumption
    | exact Mask.sub hP (by decide)
    | (extract_lets +onlyGivenNames x; refine Keeps.cut P s₀ x ?_ fun hx => ?_; (on_goal 2 => clear_value x); revert x; change Keeps _ _ _)
    | (extract_lets +onlyGivenNames x; clear_value x)
    | with_reducible apply Keeps.upd_warps)

/-- Changes at most: wefts. -/
theorem State.setWf_keeps {P : Nat} {s₀ : State} (s : State) (n : ℕ) (w : Weft)
    (hP : 4194304 &&& P = 4194304) (h : Keeps P s₀ s) :
    Keeps P s₀ (State.setWf s n w) := by
  unfold State.setWf
  repeat' (first
    | with_reducible assumption
    | exact Mask.sub hP (by decide)
    | (extract_lets +onlyGivenNames x; refine Keeps.cut P s₀ x ?_ fun hx => ?_; (on_goal 2 => clear_value x); revert x; change Keeps _ _ _)
    | (extract_lets +onlyGivenNames x; clear_value x)
    | with_reducible apply Keeps.upd_wefts)

/-- Changes at most: work. -/
theorem State.setEntry24_keeps {P : Nat} {s₀ : State} (s : State) (a : ℕ) (v : ℤ)
    (hP : 64 &&& P = 64) (h : Keeps P s₀ s) :
    Keeps P s₀ (State.setEntry24 s a v) := by
  unfold State.setEntry24
  repeat' (first
    | with_reducible assumption
    | exact Mask.sub hP (by decide)
    | with_reducible apply State.workSet_keeps)

/-- Changes at most: wefts. -/
theorem State.formUpdate_keeps {P : Nat} {s₀ : State} (s : State) (n : ℕ) (i : ℕ) (k : ℕ) (m : ℕ) (t : Word) (ins : Bool) (mark : Bool) (half : Bool) (step : Bool)
    (hP : 4194304 &&& P = 4194304) (h : Keeps P s₀ s) :
    Keeps P s₀ (State.formUpdate s n i k m t ins mark half step).1 := by
  unfold State.formUpdate
  repeat' (first
    | with_reducible assumption
    | exact Mask.sub hP (by decide)
    | (extract_lets +onlyGivenNames x; refine Keeps.cut P s₀ x ?_ fun hx => ?_; (on_goal 2 => clear_value x); revert x; change Keeps _ _ _)
    | (extract_lets +onlyGivenNames x; clear_value x)
    | with_reducible apply State.setWf_keeps
    | split)

/-- Changes at most: regs, ticks. -/
theorem State.weftError_keeps {P : Nat} {s₀ : State} (s : State) (n : ℕ) (u : Update) (m : ℕ)
    (hP : 4112 &&& P = 4112) (h : Keeps P s₀ s) :
    Keeps P s₀ (State.weftError s n u m) := by
  unfold State.weftError
  repeat' (first
    | with_reducible assumption
    | exact Mask.sub hP (by decide)
    | (extract_lets +onlyGivenNames x; refine Keeps.cut P s₀ x ?_ fun hx => ?_; (on_goal 2 => clear_value x); revert x; change Keeps _ _ _)
    | (extract_lets +onlyGivenNames x; clear_value x)
    | (extract_lets +onlyGivenNames x)
    | with_reducible apply State.setI_keeps
    | with_reducible apply State.inc_keeps
    | with_reducible apply State.maxTo_keeps
    | split)

/-- Changes at most: now, regs, ticks, wefts. -/
theorem execMicrotickHold_keeps {P : Nat} {s₀ : State} (t : Word) (n : Fin 2) (s : State)
    (hP : 4198417 &&& P = 4198417) (h : Keeps P s₀ s) :
    OutKeeps P s₀ (execMicrotickHold t n s) := by
  unfold execMicrotickHold
  repeat' (first
    | with_reducible assumption
    | exact Mask.sub hP (by decide)
    | (extract_lets +onlyGivenNames x; refine Keeps.cut P s₀ x ?_ fun hx => ?_; (on_goal 2 => clear_value x); revert x; change Keeps _ _ _)
    | (extract_lets +onlyGivenNames x; clear_value x)
    | (extract_lets +onlyGivenNames x)
    | with_reducible apply OutKeeps.next
    | with_reducible apply State.inc_keeps
    | with_reducible apply State.at_keeps
    | with_reducible apply State.setWf_keeps
    | split)

/-- Changes at most: regs. -/
theorem State.updRead_keeps {P : Nat} {s₀ : State} (s : State) (n : ℕ)
    (hP : 16 &&& P = 16) (h : Keeps P s₀ s) :
    Keeps P s₀ (State.updRead s n) := by
  unfold State.updRead
  repeat' (first
    | with_reducible assumption
    | exact Mask.sub hP (by decide)
    | (extract_lets +onlyGivenNames x; refine Keeps.cut P s₀ x ?_ fun hx => ?_; (on_goal 2 => clear_value x); revert x; change Keeps _ _ _)
    | (extract_lets +onlyGivenNames x; clear_value x)
    | with_reducible apply State.setReg_keeps
    | with_reducible apply Keeps.foldl
    | split
    | (intro _ _ _))

/-- Changes at most: fresh, regs. -/
theorem State.snapRead_keeps {P : Nat} {s₀ : State} (s : State) (n : ℕ)
    (hP : 18 &&& P = 18) (h : Keeps P s₀ s) :
    Keeps P s₀ (State.snapRead s n) := by
  unfold State.snapRead
  repeat' (first
    | with_reducible assumption
    | exact Mask.sub hP (by decide)
    | with_reducible apply State.setReg_keeps
    | with_reducible apply State.free_keeps
    | split
    | refine Keeps.ofFst (by assumption) ?_
    | refine Keeps.ofSnd (by assumption) ?_
    | refine Keeps.ofMid (by assumption) ?_)

/-- Changes at most: now, regs. -/
theorem execWftUpdRead_keeps {P : Nat} {s₀ : State} (t : Word) (n : Fin 2) (s : State)
    (hP : 17 &&& P = 17) (h : Keeps P s₀ s) :
    OutKeeps P s₀ (execWftUpdRead t n s) := by
  unfold execWftUpdRead
  repeat' (first
    | with_reducible assumption
    | exact Mask.sub hP (by decide)
    | with_reducible apply OutKeeps.next
    | with_reducible apply State.at_keeps
    | with_reducible apply State.updRead_keeps)

/-- Changes at most: now, fresh, regs. -/
theorem execWftSnapRead_keeps {P : Nat} {s₀ : State} (t : Word) (n : Fin 2) (s : State)
    (hP : 19 &&& P = 19) (h : Keeps P s₀ s) :
    OutKeeps P s₀ (execWftSnapRead t n s) := by
  unfold execWftSnapRead
  repeat' (first
    | with_reducible assumption
    | exact Mask.sub hP (by decide)
    | with_reducible apply OutKeeps.next
    | with_reducible apply State.at_keeps
    | with_reducible apply State.snapRead_keeps)

/-- Changes at most: regs. -/
theorem State.weftClear_keeps {P : Nat} {s₀ : State} (s : State) (n : ℕ)
    (hP : 16 &&& P = 16) (h : Keeps P s₀ s) :
    Keeps P s₀ (State.weftClear s n) := by
  unfold State.weftClear
  repeat' (first
    | with_reducible assumption
    | exact Mask.sub hP (by decide)
    | with_reducible apply State.clearCounts_keeps
    | with_reducible apply State.clearMax_keeps)

/-- Changes at most: now, regs, ticks. -/
theorem execWftCntClr_keeps {P : Nat} {s₀ : State} (t : Word) (n : Fin 2) (s : State)
    (hP : 4113 &&& P = 4113) (h : Keeps P s₀ s) :
    OutKeeps P s₀ (execWftCntClr t n s) := by
  unfold execWftCntClr
  repeat' (first
    | with_reducible assumption
    | exact Mask.sub hP (by decide)
    | (extract_lets +onlyGivenNames x; refine Keeps.cut P s₀ x ?_ fun hx => ?_; (on_goal 2 => clear_value x); revert x; change Keeps _ _ _)
    | (extract_lets +onlyGivenNames x; clear_value x)
    | with_reducible apply OutKeeps.next
    | with_reducible apply State.wrej_keeps
    | with_reducible apply State.at_keeps
    | with_reducible apply State.weftClear_keeps
    | split)

/-- Changes at most: regs. -/
theorem State.showSigValid_keeps {P : Nat} {s₀ : State} (s : State)
    (hP : 16 &&& P = 16) (h : Keeps P s₀ s) :
    Keeps P s₀ (State.showSigValid s) := by
  unfold State.showSigValid
  repeat' (first
    | with_reducible assumption
    | exact Mask.sub hP (by decide)
    | with_reducible apply State.flag_keeps)

/-- Changes at most: warps. -/
theorem State.sessionEnds_keeps {P : Nat} {s₀ : State} (s : State) (n : ℕ) (cause : ℕ)
    (hP : 2097152 &&& P = 2097152) (h : Keeps P s₀ s) :
    Keeps P s₀ (State.sessionEnds s n cause) := by
  unfold State.sessionEnds
  repeat' (first
    | with_reducible assumption
    | exact Mask.sub hP (by decide)
    | (extract_lets +onlyGivenNames x; refine Keeps.cut P s₀ x ?_ fun hx => ?_; (on_goal 2 => clear_value x); revert x; change Keeps _ _ _)
    | (extract_lets +onlyGivenNames x; clear_value x)
    | (extract_lets +onlyGivenNames x)
    | with_reducible apply State.setWp_keeps)

/-- Changes at most: regs, warps, learn. -/
theorem State.learnAbort_keeps {P : Nat} {s₀ : State} (s : State) (cause : ℕ)
    (hP : 10485776 &&& P = 10485776) (h : Keeps P s₀ s) :
    Keeps P s₀ (State.learnAbort s cause) := by
  unfold State.learnAbort
  repeat' (first
    | with_reducible assumption
    | exact Mask.sub hP (by decide)
    | (extract_lets +onlyGivenNames x; refine Keeps.cut P s₀ x ?_ fun hx => ?_; (on_goal 2 => clear_value x); revert x; change Keeps _ _ _)
    | (extract_lets +onlyGivenNames x; clear_value x)
    | with_reducible apply State.set_keeps
    | with_reducible apply State.sessionEnds_keeps
    | split
    | with_reducible apply Keeps.upd_learn)

/-- Changes at most: work. -/
theorem State.learnIntervals_keeps {P : Nat} {s₀ : State} (s : State) (n : ℕ) (r0 : ℕ) (r1 : ℕ) (r2 : ℕ) (ivs : List Interval)
    (hP : 64 &&& P = 64) (h : Keeps P s₀ s) :
    Keeps P s₀ (State.learnIntervals s n r0 r1 r2 ivs) := by
  unfold State.learnIntervals
  repeat' (first
    | with_reducible assumption
    | exact Mask.sub hP (by decide)
    | (extract_lets +onlyGivenNames x; refine Keeps.cut P s₀ x ?_ fun hx => ?_; (on_goal 2 => clear_value x); revert x; change Keeps _ _ _)
    | (extract_lets +onlyGivenNames x; clear_value x)
    | with_reducible apply State.setEntry24_keeps
    | with_reducible apply Keeps.foldl
    | split
    | (intro _ _ _))

/-- Changes at most: work. -/
theorem State.removeMeans_keeps {P : Nat} {s₀ : State} (s : State) (n : ℕ)
    (hP : 64 &&& P = 64) (h : Keeps P s₀ s) :
    Keeps P s₀ (State.removeMeans s n) := by
  unfold State.removeMeans
  repeat' (first
    | with_reducible assumption
    | exact Mask.sub hP (by decide)
    | (extract_lets +onlyGivenNames x; refine Keeps.cut P s₀ x ?_ fun hx => ?_; (on_goal 2 => clear_value x); revert x; change Keeps _ _ _)
    | (extract_lets +onlyGivenNames x; refine Keeps.cutOp P s₀ x ?_ fun hx => ?_; (on_goal 2 => clear_value x); revert x; change ∀ s, Keeps _ _ s → Keeps _ _ _; intro s hs)
    | (extract_lets +onlyGivenNames x; refine Keeps.cutFun P s₀ x ?_ fun hx => ?_; (on_goal 2 => clear_value x); revert x; change ∀ s x, Keeps _ _ s → Keeps _ _ _; intro s x hs)
    | (extract_lets +onlyGivenNames x; refine Keeps.cutFn P s₀ x ?_ fun hx => ?_; (on_goal 2 => clear_value x); revert x; change ∀ x, Keeps _ _ _; intro x)
    | (extract_lets +onlyGivenNames x; clear_value x)
    | with_reducible apply State.setEntry24_keeps
    | with_reducible apply Keeps.foldl
    | with_reducible apply_assumption
    | (intro _ _ _))

/-- Changes at most: regs, work, ticks, warps. -/
theorem State.learnRevolution_keeps {P : Nat} {s₀ : State} (s : State) (n : ℕ) (r0 : ℕ) (r1 : ℕ) (r2 : ℕ)
    (hP : 2101328 &&& P = 2101328) (h : Keeps P s₀ s) :
    Keeps P s₀ (State.learnRevolution s n r0 r1 r2) := by
  unfold State.learnRevolution
  repeat' (first
    | with_reducible assumption
    | exact Mask.sub hP (by decide)
    | (extract_lets +onlyGivenNames x; refine Keeps.cut P s₀ x ?_ fun hx => ?_; (on_goal 2 => clear_value x); revert x; change Keeps _ _ _)
    | (extract_lets +onlyGivenNames x; clear_value x)
    | with_reducible apply State.set_keeps
    | with_reducible apply State.add_keeps
    | with_reducible apply State.setWp_keeps
    | with_reducible apply State.learnIntervals_keeps
    | with_reducible apply State.removeMeans_keeps
    | split)

/-- Changes at most: pair, recJobs, acc. -/
theorem State.signatureTaken_keeps {P : Nat} {s₀ : State} (s : State) (n : ℕ) (t : Word)
    (hP : 469762048 &&& P = 469762048) (h : Keeps P s₀ s) :
    Keeps P s₀ (State.signatureTaken s n t) := by
  unfold State.signatureTaken
  repeat' (first
    | with_reducible assumption
    | exact Mask.sub hP (by decide)
    | (extract_lets +onlyGivenNames x; refine Keeps.cut P s₀ x ?_ fun hx => ?_; (on_goal 2 => clear_value x); revert x; change Keeps _ _ _)
    | (extract_lets +onlyGivenNames x; refine Keeps.cutOp P s₀ x ?_ fun hx => ?_; (on_goal 2 => clear_value x); revert x; change ∀ s, Keeps _ _ s → Keeps _ _ _; intro s hs)
    | (extract_lets +onlyGivenNames x; refine Keeps.cutFun P s₀ x ?_ fun hx => ?_; (on_goal 2 => clear_value x); revert x; change ∀ s x, Keeps _ _ s → Keeps _ _ _; intro s x hs)
    | (extract_lets +onlyGivenNames x; refine Keeps.cutFn P s₀ x ?_ fun hx => ?_; (on_goal 2 => clear_value x); revert x; change ∀ x, Keeps _ _ _; intro x)
    | (extract_lets +onlyGivenNames x; clear_value x)
    | with_reducible apply State.accSet_keeps
    | with_reducible apply Keeps.foldl
    | split
    | with_reducible apply_assumption
    | (intro _ _ _)
    | with_reducible apply Keeps.upd_pair
    | with_reducible apply Keeps.upd_recJobs
    | (apply Keeps.many; (case h => assumption); (case hq => rfl); (case hf => exact Nat.le_refl _); (case hc => exact fun hc => hc); (case hm => exact fun h => h); (case hp => (intro p; cases p <;> first | exact Or.inr rfl | exact Or.inl (Mask.mem hP (by decide))))))

/-- Changes at most: regs, warps, learn, pair, recJobs, acc. -/
theorem State.learnSwap_keeps {P : Nat} {s₀ : State} (s : State) (n : ℕ) (t : Word)
    (hP : 480247824 &&& P = 480247824) (h : Keeps P s₀ s) :
    Keeps P s₀ (State.learnSwap s n t) := by
  unfold State.learnSwap
  repeat' (first
    | with_reducible assumption
    | exact Mask.sub hP (by decide)
    | (extract_lets +onlyGivenNames x; refine Keeps.cut P s₀ x ?_ fun hx => ?_; (on_goal 2 => clear_value x); revert x; change Keeps _ _ _)
    | (extract_lets +onlyGivenNames x; clear_value x)
    | with_reducible apply State.set_keeps
    | with_reducible apply State.incMod_keeps
    | with_reducible apply State.setWp_keeps
    | with_reducible apply State.showSigValid_keeps
    | with_reducible apply State.signatureTaken_keeps
    | split
    | with_reducible apply Keeps.upd_learn)

/-- Changes at most: work, learn. -/
theorem State.prepareRegion_keeps {P : Nat} {s₀ : State} (s : State) (n : ℕ)
    (hP : 8388672 &&& P = 8388672) (h : Keeps P s₀ s) :
    Keeps P s₀ (State.prepareRegion s n) := by
  unfold State.prepareRegion
  repeat' (first
    | with_reducible assumption
    | exact Mask.sub hP (by decide)
    | (extract_lets +onlyGivenNames x; refine Keeps.cut P s₀ x ?_ fun hx => ?_; (on_goal 2 => clear_value x); revert x; change Keeps _ _ _)
    | (extract_lets +onlyGivenNames x; clear_value x)
    | with_reducible apply State.workWrite_keeps
    | split
    | with_reducible apply Keeps.upd_learn)

/-- Changes at most: regs, work, warps, learn. -/
theorem State.learnStart_keeps {P : Nat} {s₀ : State} (s : State)
    (hP : 10485840 &&& P = 10485840) (h : Keeps P s₀ s) :
    Keeps P s₀ (State.learnStart s) := by
  unfold State.learnStart
  repeat' (first
    | with_reducible assumption
    | exact Mask.sub hP (by decide)
    | (extract_lets +onlyGivenNames x; refine Keeps.cut P s₀ x ?_ fun hx => ?_; (on_goal 2 => clear_value x); revert x; change Keeps _ _ _)
    | (extract_lets +onlyGivenNames x; clear_value x)
    | with_reducible apply State.set_keeps
    | with_reducible apply State.setWp_keeps
    | with_reducible apply State.prepareRegion_keeps
    | split
    | with_reducible apply Keeps.upd_learn)

/-- Changes at most: regs, work, ticks, warps, learn. -/
theorem State.learnStep_keeps {P : Nat} {s₀ : State} (s : State)
    (hP : 10489936 &&& P = 10489936) (h : Keeps P s₀ s) :
    Keeps P s₀ (State.learnStep s) := by
  unfold State.learnStep
  repeat' (first
    | with_reducible assumption
    | exact Mask.sub hP (by decide)
    | (extract_lets +onlyGivenNames x; refine Keeps.cut P s₀ x ?_ fun hx => ?_; (on_goal 2 => clear_value x); revert x; change Keeps _ _ _)
    | (extract_lets +onlyGivenNames x; clear_value x)
    | (extract_lets +onlyGivenNames x)
    | with_reducible apply State.set_keeps
    | with_reducible apply State.learnAbort_keeps
    | with_reducible apply State.learnRevolution_keeps
    | split
    | with_reducible apply Keeps.upd_learn)

/-- Changes at most: warps. -/
theorem State.closeRevolution_keeps {P : Nat} {s₀ : State} (s : State) (n : ℕ) (t : Word)
    (hP : 2097152 &&& P = 2097152) (h : Keeps P s₀ s) :
    Keeps P s₀ (State.closeRevolution s n t) := by
  unfold State.closeRevolution
  repeat' (first
    | with_reducible assumption
    | exact Mask.sub hP (by decide)
    | (extract_lets +onlyGivenNames x; refine Keeps.cut P s₀ x ?_ fun hx => ?_; (on_goal 2 => clear_value x); revert x; change Keeps _ _ _)
    | (extract_lets +onlyGivenNames x; clear_value x)
    | with_reducible apply State.setWp_keeps
    | split)

/-- Changes at most: warps. -/
theorem State.nextRevolution_keeps {P : Nat} {s₀ : State} (s : State) (n : ℕ)
    (hP : 2097152 &&& P = 2097152) (h : Keeps P s₀ s) :
    Keeps P s₀ (State.nextRevolution s n) := by
  unfold State.nextRevolution
  repeat' (first
    | with_reducible assumption
    | exact Mask.sub hP (by decide)
    | (extract_lets +onlyGivenNames x; refine Keeps.cut P s₀ x ?_ fun hx => ?_; (on_goal 2 => clear_value x); revert x; change Keeps _ _ _)
    | (extract_lets +onlyGivenNames x; clear_value x)
    | with_reducible apply State.setWp_keeps)

/-- Changes at most: regs, work, ticks, warps, learn, pair, recJobs, acc. -/
theorem State.coastAtZero_keeps {P : Nat} {s₀ : State} (s : State) (n : ℕ) (t : Word)
    (hP : 480251984 &&& P = 480251984) (h : Keeps P s₀ s) :
    Keeps P s₀ (State.coastAtZero s n t) := by
  unfold State.coastAtZero
  repeat' (first
    | with_reducible assumption
    | exact Mask.sub hP (by decide)
    | (extract_lets +onlyGivenNames x; refine Keeps.cut P s₀ x ?_ fun hx => ?_; (on_goal 2 => clear_value x); revert x; change Keeps _ _ _)
    | (extract_lets +onlyGivenNames x; clear_value x)
    | with_reducible apply State.learnRevolution_keeps
    | with_reducible apply State.learnSwap_keeps
    | with_reducible apply State.learnStart_keeps
    | with_reducible apply State.learnStep_keeps
    | with_reducible apply State.closeRevolution_keeps
    | with_reducible apply State.nextRevolution_keeps
    | split
    | with_reducible apply Keeps.upd_learn)

/-- Changes at most: regs, work, learn. -/
theorem State.fpLearn_keeps {P : Nat} {s₀ : State} (s : State) (n : ℕ) (c0 : ℕ) (c1 : ℕ) (c2 : ℕ) (ivs : List Interval)
    (hP : 8388688 &&& P = 8388688) (h : Keeps P s₀ s) :
    Keeps P s₀ (State.fpLearn s n c0 c1 c2 ivs) := by
  unfold State.fpLearn
  repeat' (first
    | with_reducible assumption
    | exact Mask.sub hP (by decide)
    | (extract_lets +onlyGivenNames x; refine Keeps.cut P s₀ x ?_ fun hx => ?_; (on_goal 2 => clear_value x); revert x; change Keeps _ _ _)
    | (extract_lets +onlyGivenNames x; refine Keeps.cutOp P s₀ x ?_ fun hx => ?_; (on_goal 2 => clear_value x); revert x; change ∀ s, Keeps _ _ s → Keeps _ _ _; intro s hs)
    | (extract_lets +onlyGivenNames x; refine Keeps.cutFun P s₀ x ?_ fun hx => ?_; (on_goal 2 => clear_value x); revert x; change ∀ s x, Keeps _ _ s → Keeps _ _ _; intro s x hs)
    | (extract_lets +onlyGivenNames x; refine Keeps.cutFn P s₀ x ?_ fun hx => ?_; (on_goal 2 => clear_value x); revert x; change ∀ x, Keeps _ _ _; intro x)
    | (extract_lets +onlyGivenNames x; clear_value x)
    | with_reducible apply State.set_keeps
    | with_reducible apply State.setEntry24_keeps
    | with_reducible apply Keeps.foldl
    | split
    | with_reducible apply_assumption
    | (intro _ _ _)
    | with_reducible apply Keeps.upd_learn)

/-- Changes at most: regs, work, learn. -/
theorem State.profileAtZero_keeps {P : Nat} {s₀ : State} (s : State) (n : ℕ) (t : Word)
    (hP : 8388688 &&& P = 8388688) (h : Keeps P s₀ s) :
    Keeps P s₀ (State.profileAtZero s n t) := by
  unfold State.profileAtZero
  repeat' (first
    | with_reducible assumption
    | exact Mask.sub hP (by decide)
    | (extract_lets +onlyGivenNames x; refine Keeps.cut P s₀ x ?_ fun hx => ?_; (on_goal 2 => clear_value x); revert x; change Keeps _ _ _)
    | (extract_lets +onlyGivenNames x; clear_value x)
    | with_reducible apply State.fpLearn_keeps
    | split
    | with_reducible apply Keeps.upd_learn)

/-- Changes at most: learn. -/
theorem State.cyclesGone_keeps {P : Nat} {s₀ : State} (s : State)
    (hP : 8388608 &&& P = 8388608) (h : Keeps P s₀ s) :
    Keeps P s₀ (State.cyclesGone s) := by
  unfold State.cyclesGone
  repeat' (first
    | with_reducible assumption
    | exact Mask.sub hP (by decide)
    | (extract_lets +onlyGivenNames x; refine Keeps.cut P s₀ x ?_ fun hx => ?_; (on_goal 2 => clear_value x); revert x; change Keeps _ _ _)
    | (extract_lets +onlyGivenNames x; clear_value x)
    | with_reducible apply Keeps.upd_learn)

/-- Changes at most: regs, work, learn. -/
theorem State.clearProfile_keeps {P : Nat} {s₀ : State} (s : State)
    (hP : 8388688 &&& P = 8388688) (h : Keeps P s₀ s) :
    Keeps P s₀ (State.clearProfile s) := by
  unfold State.clearProfile
  repeat' (first
    | with_reducible assumption
    | exact Mask.sub hP (by decide)
    | (extract_lets +onlyGivenNames x; refine Keeps.cut P s₀ x ?_ fun hx => ?_; (on_goal 2 => clear_value x); revert x; change Keeps _ _ _)
    | (extract_lets +onlyGivenNames x; clear_value x)
    | (extract_lets +onlyGivenNames x)
    | with_reducible apply State.set_keeps
    | with_reducible apply State.cyclesGone_keeps
    | exact Cells.wf_set _ _ _ _
    | exact Cells.wf_filter _ _ _
    | exact fun _ => rfl
    | with_reducible apply Keeps.upd_work
    | with_reducible apply Keeps.upd_learn
    | (apply Keeps.many; (case h => assumption); (case hq => rfl); (case hf => exact Nat.le_refl _); (case hc => exact fun hc => hc); (case hm => exact fun h => h); (case hp => (intro p; cases p <;> first | exact Or.inr rfl | exact Or.inl (Mask.mem hP (by decide))))))

/-- Changes at most: regs, warps, learn. -/
theorem State.fuelStarted_keeps {P : Nat} {s₀ : State} (s : State) (kind : ℕ)
    (hP : 10485776 &&& P = 10485776) (h : Keeps P s₀ s) :
    Keeps P s₀ (State.fuelStarted s kind) := by
  unfold State.fuelStarted
  repeat' (first
    | with_reducible assumption
    | exact Mask.sub hP (by decide)
    | (extract_lets +onlyGivenNames x; refine Keeps.cut P s₀ x ?_ fun hx => ?_; (on_goal 2 => clear_value x); revert x; change Keeps _ _ _)
    | (extract_lets +onlyGivenNames x; clear_value x)
    | (extract_lets +onlyGivenNames x)
    | with_reducible apply State.learnAbort_keeps
    | split
    | with_reducible apply Keeps.upd_learn)

end Sys2Proof.Machine
end

