-- ==== Sys2Proof/Laws/KeepsWheel.lean ====
section
/-!
SUPPORT. What each operation of Machine/Wheel.lean may change (Laws/Keeps.lean).
-/
set_option linter.unusedTactic false
set_option linter.unreachableTactic false
namespace Sys2Proof.Machine

/-- Changes at most: shTok. -/
theorem State.sendSyncLost_keeps {P : Nat} {s₀ : State} (s : State)
    (hP : 16777216 &&& P = 16777216) (h : Keeps P s₀ s) :
    Keeps P s₀ (State.sendSyncLost s) := by
  unfold State.sendSyncLost
  repeat' (first
    | with_reducible assumption
    | exact Mask.sub hP (by decide)
    | (extract_lets +onlyGivenNames x; refine Keeps.cut P s₀ x ?_ fun hx => ?_; (on_goal 2 => clear_value x); revert x; change Keeps _ _ _)
    | (extract_lets +onlyGivenNames x; clear_value x)
    | with_reducible apply Keeps.upd_shTok)

/-- Changes at most: shTok, bkTok. -/
theorem State.sendRotationLost_keeps {P : Nat} {s₀ : State} (s : State)
    (hP : 50331648 &&& P = 50331648) (h : Keeps P s₀ s) :
    Keeps P s₀ (State.sendRotationLost s) := by
  unfold State.sendRotationLost
  repeat' (first
    | with_reducible assumption
    | exact Mask.sub hP (by decide)
    | (extract_lets +onlyGivenNames x; refine Keeps.cut P s₀ x ?_ fun hx => ?_; (on_goal 2 => clear_value x); revert x; change Keeps _ _ _)
    | (extract_lets +onlyGivenNames x; clear_value x)
    | with_reducible apply Keeps.upd_shTok
    | with_reducible apply Keeps.upd_bkTok
    | (apply Keeps.many; (case h => assumption); (case hq => rfl); (case hf => exact Nat.le_refl _); (case hc => exact fun hc => hc); (case hm => exact fun h => h); (case hp => (intro p; cases p <;> first | exact Or.inr rfl | exact Or.inl (Mask.mem hP (by decide))))))

/-- Changes at most: shuttles, maps, svc, ovs. -/
theorem State.angleRegained_keeps {P : Nat} {s₀ : State} (s : State)
    (hP : 1548112908779520 &&& P = 1548112908779520) (h : Keeps P s₀ s) :
    Keeps P s₀ (State.angleRegained s) := by
  unfold State.angleRegained
  repeat' (first
    | with_reducible assumption
    | exact Mask.sub hP (by decide)
    | (extract_lets +onlyGivenNames x; refine Keeps.cut P s₀ x ?_ fun hx => ?_; (on_goal 2 => clear_value x); revert x; change Keeps _ _ _)
    | (extract_lets +onlyGivenNames x; clear_value x)
    | with_reducible apply Keeps.upd_shuttles
    | with_reducible apply Keeps.upd_maps
    | with_reducible apply Keeps.upd_svc
    | with_reducible apply Keeps.upd_ovs
    | (apply Keeps.many; (case h => assumption); (case hq => rfl); (case hf => exact Nat.le_refl _); (case hc => exact fun hc => hc); (case hm => exact fun h => h); (case hp => (intro p; cases p <;> first | exact Or.inr rfl | exact Or.inl (Mask.mem hP (by decide))))))

/-- Changes at most: pulseOuts. -/
theorem State.angleGone_keeps {P : Nat} {s₀ : State} (s : State)
    (hP : 2147483648 &&& P = 2147483648) (h : Keeps P s₀ s) :
    Keeps P s₀ (State.angleGone s) := by
  unfold State.angleGone
  repeat' (first
    | with_reducible assumption
    | exact Mask.sub hP (by decide)
    | (extract_lets +onlyGivenNames x; refine Keeps.cut P s₀ x ?_ fun hx => ?_; (on_goal 2 => clear_value x); revert x; change Keeps _ _ _)
    | (extract_lets +onlyGivenNames x; clear_value x)
    | with_reducible apply Keeps.upd_pulseOuts)

/-- Changes at most: regs, ticks, reports, causes, warps, wefts, learn, shTok, bkTok, pair, acc, shuttles, pulseOuts, maps, svc, ovs. -/
theorem State.primaryChanged_keeps {P : Nat} {s₀ : State} (s : State) (old : ℕ) (new : ℕ)
    (hP : 1548115456897040 &&& P = 1548115456897040) (h : Keeps P s₀ s) :
    Keeps P s₀ (State.primaryChanged s old new) := by
  unfold State.primaryChanged
  repeat' (first
    | with_reducible assumption
    | exact Mask.sub hP (by decide)
    | (extract_lets +onlyGivenNames x; refine Keeps.cut P s₀ x ?_ fun hx => ?_; (on_goal 2 => clear_value x); revert x; change Keeps _ _ _)
    | (extract_lets +onlyGivenNames x; clear_value x)
    | (extract_lets +onlyGivenNames x)
    | with_reducible apply State.leaveStopOwn_keeps
    | with_reducible apply State.verdict_keeps
    | with_reducible apply State.counter_keeps
    | with_reducible apply State.learnAbort_keeps
    | with_reducible apply State.cyclesGone_keeps
    | with_reducible apply State.sendSyncLost_keeps
    | with_reducible apply State.sendRotationLost_keeps
    | with_reducible apply State.angleRegained_keeps
    | with_reducible apply State.angleGone_keeps
    | split
    | with_reducible apply Keeps.upd_wefts
    | with_reducible apply Keeps.upd_pair
    | with_reducible apply Keeps.upd_ovs
    | (apply Keeps.many; (case h => assumption); (case hq => rfl); (case hf => exact Nat.le_refl _); (case hc => exact fun hc => hc); (case hm => exact fun h => h); (case hp => (intro p; cases p <;> first | exact Or.inr rfl | exact Or.inl (Mask.mem hP (by decide))))))

/-- Changes at most: regs, ticks, reports, causes, warps, wefts, learn, shTok, bkTok, pair, acc, shuttles, pulseOuts, maps, svc, ovs, strand. -/
theorem State.goFrom_keeps {P : Nat} {s₀ : State} (s : State) (n : ℕ) (new : ℕ) (t : Word) (i : ℕ)
    (hP : 2307391124670590992 &&& P = 2307391124670590992) (h : Keeps P s₀ s) :
    Keeps P s₀ (State.goFrom s n new t i) := by
  unfold State.goFrom
  repeat' (first
    | with_reducible assumption
    | exact Mask.sub hP (by decide)
    | (extract_lets +onlyGivenNames x; refine Keeps.cut P s₀ x ?_ fun hx => ?_; (on_goal 2 => clear_value x); revert x; change Keeps _ _ _)
    | (extract_lets +onlyGivenNames x; clear_value x)
    | (extract_lets +onlyGivenNames x)
    | with_reducible apply State.countSeconds_keeps
    | with_reducible apply State.set_keeps
    | with_reducible apply State.inc_keeps
    | with_reducible apply State.report_keeps
    | with_reducible apply State.primaryChanged_keeps
    | split)

/-- Changes at most: regs, ticks, reports, causes, warps, wefts, learn, shTok, bkTok, pair, acc, shuttles, pulseOuts, maps, svc, ovs, strand. -/
theorem State.goState_keeps {P : Nat} {s₀ : State} (s : State) (n : ℕ) (new : ℕ) (t : Word)
    (hP : 2307391124670590992 &&& P = 2307391124670590992) (h : Keeps P s₀ s) :
    Keeps P s₀ (State.goState s n new t) := by
  unfold State.goState
  repeat' (first
    | with_reducible assumption
    | exact Mask.sub hP (by decide)
    | with_reducible apply State.goFrom_keeps)

/-- Changes at most: regs, ticks, reports, causes, warps, wefts, learn, shTok, bkTok, pair, acc, shuttles, pulseOuts, maps, svc, ovs, strand. -/
theorem State.goTrk_keeps {P : Nat} {s₀ : State} (s : State) (n : ℕ) (new : ℕ) (t : Word)
    (hP : 2307391124670590992 &&& P = 2307391124670590992) (h : Keeps P s₀ s) :
    Keeps P s₀ (State.goTrk s n new t) := by
  unfold State.goTrk
  repeat' (first
    | with_reducible assumption
    | exact Mask.sub hP (by decide)
    | with_reducible apply State.set_keeps
    | with_reducible apply State.goState_keeps
    | split)

/-- Changes at most: regs, warps, wefts. -/
theorem State.restartHunt_keeps {P : Nat} {s₀ : State} (s : State) (n : ℕ) (ref : Option Word)
    (hP : 6291472 &&& P = 6291472) (h : Keeps P s₀ s) :
    Keeps P s₀ (State.restartHunt s n ref) := by
  unfold State.restartHunt
  repeat' (first
    | with_reducible assumption
    | exact Mask.sub hP (by decide)
    | (extract_lets +onlyGivenNames x; refine Keeps.cut P s₀ x ?_ fun hx => ?_; (on_goal 2 => clear_value x); revert x; change Keeps _ _ _)
    | (extract_lets +onlyGivenNames x; clear_value x)
    | with_reducible apply State.setReg_keeps
    | with_reducible apply State.set_keeps
    | with_reducible apply State.setWp_keeps
    | with_reducible apply State.setWf_keeps
    | split)

/-- Changes at most: regs, warps, wefts. -/
theorem State.stallReset_keeps {P : Nat} {s₀ : State} (s : State) (n : ℕ)
    (hP : 6291472 &&& P = 6291472) (h : Keeps P s₀ s) :
    Keeps P s₀ (State.stallReset s n) := by
  unfold State.stallReset
  repeat' (first
    | with_reducible assumption
    | exact Mask.sub hP (by decide)
    | (extract_lets +onlyGivenNames x; refine Keeps.cut P s₀ x ?_ fun hx => ?_; (on_goal 2 => clear_value x); revert x; change Keeps _ _ _)
    | (extract_lets +onlyGivenNames x; clear_value x)
    | with_reducible apply State.setWp_keeps
    | with_reducible apply State.restartHunt_keeps)

/-- Changes at most: regs, ticks, warps. -/
theorem State.noiseEdge_keeps {P : Nat} {s₀ : State} (s : State) (n : ℕ)
    (hP : 2101264 &&& P = 2101264) (h : Keeps P s₀ s) :
    Keeps P s₀ (State.noiseEdge s n) := by
  unfold State.noiseEdge
  repeat' (first
    | with_reducible assumption
    | exact Mask.sub hP (by decide)
    | (extract_lets +onlyGivenNames x; refine Keeps.cut P s₀ x ?_ fun hx => ?_; (on_goal 2 => clear_value x); revert x; change Keeps _ _ _)
    | (extract_lets +onlyGivenNames x; clear_value x)
    | with_reducible apply State.inc_keeps
    | with_reducible apply State.setWp_keeps)

/-- Changes at most: regs, ticks, warps, wefts. -/
theorem State.huntRestart_keeps {P : Nat} {s₀ : State} (s : State) (n : ℕ) (t : Word)
    (hP : 6295568 &&& P = 6295568) (h : Keeps P s₀ s) :
    Keeps P s₀ (State.huntRestart s n t) := by
  unfold State.huntRestart
  repeat' (first
    | with_reducible assumption
    | exact Mask.sub hP (by decide)
    | with_reducible apply State.inc_keeps
    | with_reducible apply State.restartHunt_keeps)

/-- Changes at most: regs. -/
theorem State.showPeriod_keeps {P : Nat} {s₀ : State} (s : State) (n : ℕ) (per : ℕ)
    (hP : 16 &&& P = 16) (h : Keeps P s₀ s) :
    Keeps P s₀ (State.showPeriod s n per) := by
  unfold State.showPeriod
  repeat' (first
    | with_reducible assumption
    | exact Mask.sub hP (by decide)
    | with_reducible apply State.set_keeps)

/-- Changes at most: regs, ticks, reports. -/
theorem State.fellBack_keeps {P : Nat} {s₀ : State} (s : State) (n : ℕ) (src : ℕ) (t : Word)
    (hP : 12304 &&& P = 12304) (h : Keeps P s₀ s) :
    Keeps P s₀ (State.fellBack s n src t) := by
  unfold State.fellBack
  repeat' (first
    | with_reducible assumption
    | exact Mask.sub hP (by decide)
    | with_reducible apply State.stick_keeps
    | with_reducible apply State.inc_keeps
    | with_reducible apply State.report_keeps)

/-- Changes at most: regs, ticks, reports, causes, warps, wefts, learn, shTok, bkTok, pair, acc, shuttles, pulseOuts, maps, svc, ovs, strand. -/
theorem State.goAway_keeps {P : Nat} {s₀ : State} (s : State) (n : ℕ) (new : ℕ) (src : ℕ) (t : Word) (i : ℕ)
    (hP : 2307391124670590992 &&& P = 2307391124670590992) (h : Keeps P s₀ s) :
    Keeps P s₀ (State.goAway s n new src t i) := by
  unfold State.goAway
  repeat' (first
    | with_reducible assumption
    | exact Mask.sub hP (by decide)
    | (extract_lets +onlyGivenNames x; refine Keeps.cut P s₀ x ?_ fun hx => ?_; (on_goal 2 => clear_value x); revert x; change Keeps _ _ _)
    | (extract_lets +onlyGivenNames x; clear_value x)
    | with_reducible apply State.set_keeps
    | with_reducible apply State.setWp_keeps
    | with_reducible apply State.setWf_keeps
    | with_reducible apply State.goFrom_keeps
    | with_reducible apply State.fellBack_keeps)

/-- Changes at most: regs, ticks, reports, causes, primary, warps, wefts, learn, shTok, bkTok, pair, acc, shuttles, pulseOuts, maps, svc, ovs, strand. -/
theorem State.goStandby_keeps {P : Nat} {s₀ : State} (s : State) (new : ℕ) (t : Word) (i : ℕ)
    (hP : 2307391124671639568 &&& P = 2307391124671639568) (h : Keeps P s₀ s) :
    Keeps P s₀ (State.goStandby s new t i) := by
  unfold State.goStandby
  repeat' (first
    | with_reducible assumption
    | exact Mask.sub hP (by decide)
    | (extract_lets +onlyGivenNames x; refine Keeps.cut P s₀ x ?_ fun hx => ?_; (on_goal 2 => clear_value x); revert x; change Keeps _ _ _)
    | (extract_lets +onlyGivenNames x; clear_value x)
    | with_reducible apply State.leaveStopOwn_keeps
    | with_reducible apply State.verdict_keeps
    | with_reducible apply State.countSeconds_keeps
    | with_reducible apply State.set_keeps
    | with_reducible apply State.counter_keeps
    | with_reducible apply State.setWf_keeps
    | with_reducible apply State.showSigValid_keeps
    | with_reducible apply State.learnAbort_keeps
    | with_reducible apply State.cyclesGone_keeps
    | with_reducible apply State.goFrom_keeps
    | with_reducible apply State.fellBack_keeps
    | split
    | with_reducible apply Keeps.upd_primary)

/-- Changes at most: wefts. -/
theorem State.weft0Returns_keeps {P : Nat} {s₀ : State} (s : State)
    (hP : 4194304 &&& P = 4194304) (h : Keeps P s₀ s) :
    Keeps P s₀ (State.weft0Returns s) := by
  unfold State.weft0Returns
  repeat' (first
    | with_reducible assumption
    | exact Mask.sub hP (by decide)
    | (extract_lets +onlyGivenNames x; refine Keeps.cut P s₀ x ?_ fun hx => ?_; (on_goal 2 => clear_value x); revert x; change Keeps _ _ _)
    | (extract_lets +onlyGivenNames x; clear_value x)
    | with_reducible apply State.setWf_keeps)

/-- Changes at most: regs, ticks, reports, causes, primary, warps, wefts, learn, shTok, bkTok, pair, acc, shuttles, pulseOuts, maps, svc, ovs, strand. -/
theorem State.lostCrank_keeps {P : Nat} {s₀ : State} (s : State) (n : ℕ) (t : Word) (ref : Option Word) (stall : Bool)
    (hP : 2307391124671639568 &&& P = 2307391124671639568) (h : Keeps P s₀ s) :
    Keeps P s₀ (State.lostCrank s n t ref stall) := by
  unfold State.lostCrank
  repeat' (first
    | with_reducible assumption
    | exact Mask.sub hP (by decide)
    | (extract_lets +onlyGivenNames x; refine Keeps.cut P s₀ x ?_ fun hx => ?_; (on_goal 2 => clear_value x); revert x; change Keeps _ _ _)
    | (extract_lets +onlyGivenNames x; clear_value x)
    | with_reducible apply State.goFrom_keeps
    | with_reducible apply State.restartHunt_keeps
    | with_reducible apply State.stallReset_keeps
    | with_reducible apply State.goAway_keeps
    | with_reducible apply State.goStandby_keeps
    | split)

/-- Changes at most: regs, ticks, reports, causes, warps, wefts, learn, shTok, bkTok, pair, acc, shuttles, pulseOuts, maps, svc, ovs, strand. -/
theorem State.sourceLost_keeps {P : Nat} {s₀ : State} (s : State) (t : Word)
    (hP : 2307391124670590992 &&& P = 2307391124670590992) (h : Keeps P s₀ s) :
    Keeps P s₀ (State.sourceLost s t) := by
  unfold State.sourceLost
  repeat' (first
    | with_reducible assumption
    | exact Mask.sub hP (by decide)
    | (extract_lets +onlyGivenNames x; refine Keeps.cut P s₀ x ?_ fun hx => ?_; (on_goal 2 => clear_value x); revert x; change Keeps _ _ _)
    | (extract_lets +onlyGivenNames x; clear_value x)
    | (extract_lets +onlyGivenNames x)
    | with_reducible apply State.set_keeps
    | with_reducible apply State.goFrom_keeps
    | with_reducible apply State.restartHunt_keeps
    | with_reducible apply State.goAway_keeps
    | with_reducible apply State.weft0Returns_keeps
    | split)

/-- Changes at most: regs, ticks, reports, causes, warps, wefts, learn, shTok, bkTok, pair, acc, shuttles, pulseOuts, maps, svc, ovs, strand. -/
theorem State.ownReturn_keeps {P : Nat} {s₀ : State} (s : State) (n : ℕ) (t : Word)
    (hP : 2307391124670590992 &&& P = 2307391124670590992) (h : Keeps P s₀ s) :
    Keeps P s₀ (State.ownReturn s n t) := by
  unfold State.ownReturn
  repeat' (first
    | with_reducible assumption
    | exact Mask.sub hP (by decide)
    | with_reducible apply State.leaveStopOwn_keeps
    | with_reducible apply State.set_keeps
    | with_reducible apply State.goState_keeps
    | with_reducible apply State.weft0Returns_keeps)

/-- Changes at most: regs, ticks, reports, causes, warps, wefts, learn, shTok, bkTok, pair, acc, shuttles, pulseOuts, maps, svc, ovs, strand. -/
theorem State.declareReverse_keeps {P : Nat} {s₀ : State} (s : State) (n : ℕ) (t : Word) (ref : Option Word)
    (hP : 2307391124670590992 &&& P = 2307391124670590992) (h : Keeps P s₀ s) :
    Keeps P s₀ (State.declareReverse s n t ref) := by
  unfold State.declareReverse
  repeat' (first
    | with_reducible assumption
    | exact Mask.sub hP (by decide)
    | (extract_lets +onlyGivenNames x; refine Keeps.cut P s₀ x ?_ fun hx => ?_; (on_goal 2 => clear_value x); revert x; change Keeps _ _ _)
    | (extract_lets +onlyGivenNames x; clear_value x)
    | with_reducible apply State.set_keeps
    | with_reducible apply State.inc_keeps
    | with_reducible apply State.setWp_keeps
    | with_reducible apply State.goFrom_keeps
    | with_reducible apply State.restartHunt_keeps
    | with_reducible apply State.weft0Returns_keeps
    | split)

/-- Changes at most: regs, ticks, reports, causes, primary, warps, wefts, learn, shTok, bkTok, pair, acc, shuttles, pulseOuts, maps, svc, ovs, strand. -/
theorem State.fault_keeps {P : Nat} {s₀ : State} (s : State) (n : ℕ) (t : Word) (ref : Option Word) (cam : Bool)
    (hP : 2307391124671639568 &&& P = 2307391124671639568) (h : Keeps P s₀ s) :
    Keeps P s₀ (State.fault s n t ref cam) := by
  unfold State.fault
  repeat' (first
    | with_reducible assumption
    | exact Mask.sub hP (by decide)
    | (extract_lets +onlyGivenNames x; refine Keeps.cut P s₀ x ?_ fun hx => ?_; (on_goal 2 => clear_value x); revert x; change Keeps _ _ _)
    | (extract_lets +onlyGivenNames x; clear_value x)
    | (extract_lets +onlyGivenNames x)
    | with_reducible apply State.set_keeps
    | with_reducible apply State.inc_keeps
    | with_reducible apply State.cause_keeps
    | with_reducible apply State.goFrom_keeps
    | with_reducible apply State.restartHunt_keeps
    | with_reducible apply State.lostCrank_keeps
    | with_reducible apply State.declareReverse_keeps
    | split)

/-- Changes at most: regs, ticks, reports, causes, warps, wefts, learn, shTok, bkTok, pair, acc, shuttles, pulseOuts, maps, svc, ovs, strand. -/
theorem State.hypothesesFail_keeps {P : Nat} {s₀ : State} (s : State) (n : ℕ) (f0 : Bool) (f1 : Bool) (t : Word)
    (hP : 2307391124670590992 &&& P = 2307391124670590992) (h : Keeps P s₀ s) :
    Keeps P s₀ (State.hypothesesFail s n f0 f1 t) := by
  unfold State.hypothesesFail
  repeat' (first
    | with_reducible assumption
    | exact Mask.sub hP (by decide)
    | (extract_lets +onlyGivenNames x; refine Keeps.cut P s₀ x ?_ fun hx => ?_; (on_goal 2 => clear_value x); revert x; change Keeps _ _ _)
    | (extract_lets +onlyGivenNames x; clear_value x)
    | with_reducible apply State.set_keeps
    | with_reducible apply State.inc_keeps
    | with_reducible apply State.setWp_keeps
    | with_reducible apply State.setWf_keeps
    | with_reducible apply State.goTrk_keeps
    | split)

/-- Changes at most: regs, ticks, reports, causes, warps, wefts, learn, shTok, bkTok, pair, acc, shuttles, pulseOuts, maps, svc, ovs, strand. -/
theorem State.judgeTooth_keeps {P : Nat} {s₀ : State} (s : State) (n : ℕ) (t : Word)
    (hP : 2307391124670590992 &&& P = 2307391124670590992) (h : Keeps P s₀ s) :
    Keeps P s₀ (State.judgeTooth s n t).1 := by
  unfold State.judgeTooth
  repeat' (first
    | with_reducible assumption
    | exact Mask.sub hP (by decide)
    | (extract_lets +onlyGivenNames x; refine Keeps.cut P s₀ x ?_ fun hx => ?_; (on_goal 2 => clear_value x); revert x; change Keeps _ _ _)
    | (extract_lets +onlyGivenNames x; clear_value x)
    | (extract_lets +onlyGivenNames x)
    | with_reducible apply State.verdict_keeps
    | with_reducible apply State.setWp_keeps
    | with_reducible apply State.hypothesesFail_keeps
    | split)

/-- Changes at most: regs, ticks, reports, causes, primary, warps, wefts, learn, shTok, bkTok, pair, acc, shuttles, pulseOuts, maps, svc, ovs, strand. -/
theorem State.phaseEdge_keeps {P : Nat} {s₀ : State} (s : State) (n : ℕ) (t : Word)
    (hP : 2307391124671639568 &&& P = 2307391124671639568) (h : Keeps P s₀ s) :
    Keeps P s₀ (State.phaseEdge s n t) := by
  unfold State.phaseEdge
  repeat' (first
    | with_reducible assumption
    | exact Mask.sub hP (by decide)
    | (extract_lets +onlyGivenNames x; refine Keeps.cut P s₀ x ?_ fun hx => ?_; (on_goal 2 => clear_value x); revert x; change Keeps _ _ _)
    | (extract_lets +onlyGivenNames x; refine Keeps.cutOp P s₀ x ?_ fun hx => ?_; (on_goal 2 => clear_value x); revert x; change ∀ s, Keeps _ _ s → Keeps _ _ _; intro s hs)
    | (extract_lets +onlyGivenNames x; refine Keeps.cutFun P s₀ x ?_ fun hx => ?_; (on_goal 2 => clear_value x); revert x; change ∀ s x, Keeps _ _ s → Keeps _ _ _; intro s x hs)
    | (extract_lets +onlyGivenNames x; refine Keeps.cutFn P s₀ x ?_ fun hx => ?_; (on_goal 2 => clear_value x); revert x; change ∀ x, Keeps _ _ _; intro x)
    | (extract_lets +onlyGivenNames x; clear_value x)
    | (extract_lets +onlyGivenNames x)
    | with_reducible apply State.verdict_keeps
    | with_reducible apply State.set_keeps
    | with_reducible apply State.setWp_keeps
    | with_reducible apply State.setWf_keeps
    | with_reducible apply State.goState_keeps
    | with_reducible apply State.fault_keeps
    | with_reducible apply State.hypothesesFail_keeps
    | split
    | with_reducible apply_assumption)

/-- Changes at most: warps, learn. -/
theorem State.recordInterval_keeps {P : Nat} {s₀ : State} (s : State) (n : ℕ) (p : ℕ) (i : ℕ) (k : ℕ) (m : ℕ) (ins : Bool)
    (hP : 10485760 &&& P = 10485760) (h : Keeps P s₀ s) :
    Keeps P s₀ (State.recordInterval s n p i k m ins) := by
  unfold State.recordInterval
  repeat' (first
    | with_reducible assumption
    | exact Mask.sub hP (by decide)
    | (extract_lets +onlyGivenNames x; refine Keeps.cut P s₀ x ?_ fun hx => ?_; (on_goal 2 => clear_value x); revert x; change Keeps _ _ _)
    | (extract_lets +onlyGivenNames x; clear_value x)
    | with_reducible apply State.setWp_keeps
    | split
    | with_reducible apply Keeps.upd_learn)

/-- Changes at most: learn. -/
theorem State.excludeNoisy_keeps {P : Nat} {s₀ : State} (s : State) (n : ℕ) (i : ℕ)
    (hP : 8388608 &&& P = 8388608) (h : Keeps P s₀ s) :
    Keeps P s₀ (State.excludeNoisy s n i) := by
  unfold State.excludeNoisy
  repeat' (first
    | with_reducible assumption
    | exact Mask.sub hP (by decide)
    | (extract_lets +onlyGivenNames x; refine Keeps.cut P s₀ x ?_ fun hx => ?_; (on_goal 2 => clear_value x); revert x; change Keeps _ _ _)
    | (extract_lets +onlyGivenNames x; clear_value x)
    | split
    | with_reducible apply Keeps.upd_learn)

/-- Changes at most: regs, work, ticks, warps, learn, pair, recJobs, acc. -/
theorem State.atZero_keeps {P : Nat} {s₀ : State} (s : State) (n : ℕ) (i : ℕ) (t : Word)
    (hP : 480251984 &&& P = 480251984) (h : Keeps P s₀ s) :
    Keeps P s₀ (State.atZero s n i t) := by
  unfold State.atZero
  repeat' (first
    | with_reducible assumption
    | exact Mask.sub hP (by decide)
    | (extract_lets +onlyGivenNames x; refine Keeps.cut P s₀ x ?_ fun hx => ?_; (on_goal 2 => clear_value x); revert x; change Keeps _ _ _)
    | (extract_lets +onlyGivenNames x; clear_value x)
    | (extract_lets +onlyGivenNames x)
    | with_reducible apply State.coastAtZero_keeps
    | with_reducible apply State.profileAtZero_keeps
    | with_reducible apply State.excludeNoisy_keeps
    | split)

/-- Changes at most: regs, ticks. -/
theorem State.monitorCompare_keeps {P : Nat} {s₀ : State} (s : State) (n : ℕ) (t : Word)
    (hP : 4112 &&& P = 4112) (h : Keeps P s₀ s) :
    Keeps P s₀ (State.monitorCompare s n t) := by
  unfold State.monitorCompare
  repeat' (first
    | with_reducible assumption
    | exact Mask.sub hP (by decide)
    | (extract_lets +onlyGivenNames x; refine Keeps.cut P s₀ x ?_ fun hx => ?_; (on_goal 2 => clear_value x); revert x; change Keeps _ _ _)
    | (extract_lets +onlyGivenNames x; clear_value x)
    | (extract_lets +onlyGivenNames x)
    | with_reducible apply State.stick_keeps
    | split)

/-- Changes at most: regs, ticks. -/
theorem State.toothError_keeps {P : Nat} {s₀ : State} (s : State) (n : ℕ) (m : ℕ)
    (hP : 4112 &&& P = 4112) (h : Keeps P s₀ s) :
    Keeps P s₀ (State.toothError s n m) := by
  unfold State.toothError
  repeat' (first
    | with_reducible assumption
    | exact Mask.sub hP (by decide)
    | (extract_lets +onlyGivenNames x; refine Keeps.cut P s₀ x ?_ fun hx => ?_; (on_goal 2 => clear_value x); revert x; change Keeps _ _ _)
    | (extract_lets +onlyGivenNames x; clear_value x)
    | with_reducible apply State.weftError_keeps
    | split)

/-- Changes at most: regs, ticks, warps, wefts. -/
theorem State.predictTooth_keeps {P : Nat} {s₀ : State} (s : State) (n : ℕ) (k : ℕ) (m : ℕ) (t : Word) (ins : Bool) (mark : Bool)
    (hP : 6295568 &&& P = 6295568) (h : Keeps P s₀ s) :
    Keeps P s₀ (State.predictTooth s n k m t ins mark) := by
  unfold State.predictTooth
  repeat' (first
    | with_reducible assumption
    | exact Mask.sub hP (by decide)
    | (extract_lets +onlyGivenNames x; refine Keeps.cut P s₀ x ?_ fun hx => ?_; (on_goal 2 => clear_value x); revert x; change Keeps _ _ _)
    | (extract_lets +onlyGivenNames x; refine Keeps.cutFst P s₀ x ?_ fun hx => ?_; (on_goal 2 => clear_value x); revert x; change Keeps _ _ _)
    | (extract_lets +onlyGivenNames x; refine Keeps.cutMid P s₀ x ?_ fun hx => ?_; (on_goal 2 => clear_value x); revert x; change Keeps _ _ _)
    | (extract_lets +onlyGivenNames x; refine Keeps.cutSnd P s₀ x ?_ fun hx => ?_; (on_goal 2 => clear_value x); revert x; change Keeps _ _ _)
    | (extract_lets +onlyGivenNames x; clear_value x)
    | (extract_lets +onlyGivenNames x)
    | with_reducible apply State.setWp_keeps
    | with_reducible apply State.setWf_keeps
    | with_reducible apply State.formUpdate_keeps
    | with_reducible apply State.toothError_keeps
    | split
    | refine Keeps.ofFst (by assumption) ?_
    | refine Keeps.ofSnd (by assumption) ?_
    | refine Keeps.ofMid (by assumption) ?_)

/-- Changes at most: regs, warps. -/
theorem State.moveTo_keeps {P : Nat} {s₀ : State} (s : State) (n : ℕ) (p : ℕ) (per : ℕ) (t : Word) (ins : Bool) (mark : Bool) (zero : Bool)
    (hP : 2097168 &&& P = 2097168) (h : Keeps P s₀ s) :
    Keeps P s₀ (State.moveTo s n p per t ins mark zero) := by
  unfold State.moveTo
  repeat' (first
    | with_reducible assumption
    | exact Mask.sub hP (by decide)
    | (extract_lets +onlyGivenNames x; refine Keeps.cut P s₀ x ?_ fun hx => ?_; (on_goal 2 => clear_value x); revert x; change Keeps _ _ _)
    | (extract_lets +onlyGivenNames x; clear_value x)
    | with_reducible apply State.setReg_keeps
    | with_reducible apply State.set_keeps
    | with_reducible apply State.setWp_keeps
    | with_reducible apply State.showPeriod_keeps
    | split)

/-- Changes at most: warps. -/
theorem State.restartHypotheses_keeps {P : Nat} {s₀ : State} (s : State) (n : ℕ)
    (hP : 2097152 &&& P = 2097152) (h : Keeps P s₀ s) :
    Keeps P s₀ (State.restartHypotheses s n) := by
  unfold State.restartHypotheses
  repeat' (first
    | with_reducible assumption
    | exact Mask.sub hP (by decide)
    | (extract_lets +onlyGivenNames x; refine Keeps.cut P s₀ x ?_ fun hx => ?_; (on_goal 2 => clear_value x); revert x; change Keeps _ _ _)
    | (extract_lets +onlyGivenNames x; clear_value x)
    | with_reducible apply State.setWp_keeps
    | split)

/-- Changes at most: regs, ticks, reports, causes, warps, wefts, learn, shTok, bkTok, pair, acc, shuttles, pulseOuts, maps, svc, ovs, strand. -/
theorem State.advance_keeps {P : Nat} {s₀ : State} (s : State) (n : ℕ) (t : Word)
    (hP : 2307391124670590992 &&& P = 2307391124670590992) (h : Keeps P s₀ s) :
    Keeps P s₀ (State.advance s n t) := by
  unfold State.advance
  repeat' (first
    | with_reducible assumption
    | exact Mask.sub hP (by decide)
    | (extract_lets +onlyGivenNames x; refine Keeps.cut P s₀ x ?_ fun hx => ?_; (on_goal 2 => clear_value x); revert x; change Keeps _ _ _)
    | (extract_lets +onlyGivenNames x; clear_value x)
    | (extract_lets +onlyGivenNames x)
    | with_reducible apply State.goTrk_keeps
    | split)

/-- Changes at most: regs, work, ticks, reports, causes, primary, warps, wefts, learn, shTok, bkTok, pair, recJobs, acc, shuttles, pulseOuts, maps, svc, ovs, strand. -/
theorem State.accept_keeps {P : Nat} {s₀ : State} (s : State) (n : ℕ) (p : ℕ) (k : ℕ) (m : ℕ) (per : ℕ) (t : Word) (ins : Bool) (mark : Bool) (zero : Bool)
    (hP : 2307391124805857360 &&& P = 2307391124805857360) (h : Keeps P s₀ s) :
    Keeps P s₀ (State.accept s n p k m per t ins mark zero) := by
  unfold State.accept
  repeat' (first
    | with_reducible assumption
    | exact Mask.sub hP (by decide)
    | (extract_lets +onlyGivenNames x; refine Keeps.cut P s₀ x ?_ fun hx => ?_; (on_goal 2 => clear_value x); revert x; change Keeps _ _ _)
    | (extract_lets +onlyGivenNames x; refine Keeps.cutFst P s₀ x ?_ fun hx => ?_; (on_goal 2 => clear_value x); revert x; change Keeps _ _ _)
    | (extract_lets +onlyGivenNames x; refine Keeps.cutMid P s₀ x ?_ fun hx => ?_; (on_goal 2 => clear_value x); revert x; change Keeps _ _ _)
    | (extract_lets +onlyGivenNames x; refine Keeps.cutSnd P s₀ x ?_ fun hx => ?_; (on_goal 2 => clear_value x); revert x; change Keeps _ _ _)
    | (extract_lets +onlyGivenNames x; clear_value x)
    | (extract_lets +onlyGivenNames x)
    | with_reducible apply State.set_keeps
    | with_reducible apply State.ownReturn_keeps
    | with_reducible apply State.fault_keeps
    | with_reducible apply State.judgeTooth_keeps
    | with_reducible apply State.recordInterval_keeps
    | with_reducible apply State.atZero_keeps
    | with_reducible apply State.monitorCompare_keeps
    | with_reducible apply State.toothError_keeps
    | with_reducible apply State.predictTooth_keeps
    | with_reducible apply State.moveTo_keeps
    | with_reducible apply State.restartHypotheses_keeps
    | with_reducible apply State.advance_keeps
    | split
    | refine Keeps.ofFst (by assumption) ?_
    | refine Keeps.ofSnd (by assumption) ?_
    | refine Keeps.ofMid (by assumption) ?_)

/-- Changes at most: regs, work, ticks, reports, causes, primary, warps, wefts, learn, shTok, bkTok, pair, recJobs, acc, shuttles, pulseOuts, maps, svc, ovs, strand. -/
theorem State.knownEdge_keeps {P : Nat} {s₀ : State} (s : State) (n : ℕ) (p : ℕ) (t : Word)
    (hP : 2307391124805857360 &&& P = 2307391124805857360) (h : Keeps P s₀ s) :
    Keeps P s₀ (State.knownEdge s n p t) := by
  unfold State.knownEdge
  repeat' (first
    | with_reducible assumption
    | exact Mask.sub hP (by decide)
    | (extract_lets +onlyGivenNames x; refine Keeps.cut P s₀ x ?_ fun hx => ?_; (on_goal 2 => clear_value x); revert x; change Keeps _ _ _)
    | (extract_lets +onlyGivenNames x; clear_value x)
    | (extract_lets +onlyGivenNames x)
    | with_reducible apply State.setReg_keeps
    | with_reducible apply State.set_keeps
    | with_reducible apply State.inc_keeps
    | with_reducible apply State.setWp_keeps
    | with_reducible apply State.noiseEdge_keeps
    | with_reducible apply State.fault_keeps
    | with_reducible apply State.accept_keeps
    | split)

/-- Changes at most: regs, ticks, reports, causes, warps, wefts, learn, shTok, bkTok, pair, acc, shuttles, pulseOuts, maps, svc, ovs, strand. -/
theorem State.identified_keeps {P : Nat} {s₀ : State} (s : State) (n : ℕ) (p : ℕ) (k : ℕ) (m : ℕ) (t : Word) (mark : Bool)
    (hP : 2307391124670590992 &&& P = 2307391124670590992) (h : Keeps P s₀ s) :
    Keeps P s₀ (State.identified s n p k m t mark) := by
  unfold State.identified
  repeat' (first
    | with_reducible assumption
    | exact Mask.sub hP (by decide)
    | (extract_lets +onlyGivenNames x; refine Keeps.cut P s₀ x ?_ fun hx => ?_; (on_goal 2 => clear_value x); revert x; change Keeps _ _ _)
    | (extract_lets +onlyGivenNames x; clear_value x)
    | with_reducible apply State.set_keeps
    | with_reducible apply State.setWp_keeps
    | with_reducible apply State.goTrk_keeps
    | with_reducible apply State.predictTooth_keeps
    | split)

/-- Changes at most: regs, ticks, reports, causes, warps, wefts, learn, shTok, bkTok, pair, acc, shuttles, pulseOuts, maps, svc, ovs, strand. -/
theorem State.huntAccepted_keeps {P : Nat} {s₀ : State} (s : State) (n : ℕ) (k : ℕ) (m : ℕ) (t : Word) (cand : Bool) (mark : Bool)
    (hP : 2307391124670590992 &&& P = 2307391124670590992) (h : Keeps P s₀ s) :
    Keeps P s₀ (State.huntAccepted s n k m t cand mark) := by
  unfold State.huntAccepted
  repeat' (first
    | with_reducible assumption
    | exact Mask.sub hP (by decide)
    | (extract_lets +onlyGivenNames x; refine Keeps.cut P s₀ x ?_ fun hx => ?_; (on_goal 2 => clear_value x); revert x; change Keeps _ _ _)
    | (extract_lets +onlyGivenNames x; clear_value x)
    | with_reducible apply State.set_keeps
    | with_reducible apply State.setWp_keeps
    | with_reducible apply State.huntRestart_keeps
    | with_reducible apply State.predictTooth_keeps
    | with_reducible apply State.identified_keeps
    | split)

/-- Changes at most: regs, warps. -/
theorem State.huntTake_keeps {P : Nat} {s₀ : State} (s : State) (n : ℕ) (per : ℕ) (t : Word) (f : Warp → Warp)
    (hP : 2097168 &&& P = 2097168) (h : Keeps P s₀ s) :
    Keeps P s₀ (State.huntTake s n per t f) := by
  unfold State.huntTake
  repeat' (first
    | with_reducible assumption
    | exact Mask.sub hP (by decide)
    | (extract_lets +onlyGivenNames x; refine Keeps.cut P s₀ x ?_ fun hx => ?_; (on_goal 2 => clear_value x); revert x; change Keeps _ _ _)
    | (extract_lets +onlyGivenNames x; clear_value x)
    | with_reducible apply State.setReg_keeps
    | with_reducible apply State.setWp_keeps
    | with_reducible apply State.showPeriod_keeps)

/-- Changes at most: regs, ticks, reports, causes, warps, wefts, learn, shTok, bkTok, pair, acc, shuttles, pulseOuts, maps, svc, ovs, strand. -/
theorem State.huntOne_keeps {P : Nat} {s₀ : State} (s : State) (n : ℕ) (t : Word) (sub : Bool)
    (hP : 2307391124670590992 &&& P = 2307391124670590992) (h : Keeps P s₀ s) :
    Keeps P s₀ (State.huntOne s n t sub) := by
  unfold State.huntOne
  repeat' (first
    | with_reducible assumption
    | exact Mask.sub hP (by decide)
    | (extract_lets +onlyGivenNames x; refine Keeps.cut P s₀ x ?_ fun hx => ?_; (on_goal 2 => clear_value x); revert x; change Keeps _ _ _)
    | (extract_lets +onlyGivenNames x; clear_value x)
    | with_reducible apply State.set_keeps
    | with_reducible apply State.setWp_keeps
    | with_reducible apply State.restartHunt_keeps
    | with_reducible apply State.noiseEdge_keeps
    | with_reducible apply State.huntRestart_keeps
    | with_reducible apply State.huntAccepted_keeps
    | with_reducible apply State.huntTake_keeps
    | split)

/-- Changes at most: regs, ticks, reports, causes, warps, wefts, learn, shTok, bkTok, pair, acc, shuttles, pulseOuts, maps, svc, ovs, strand. -/
theorem State.huntRun_keeps {P : Nat} {s₀ : State} (s : State) (n : ℕ) (t : Word)
    (hP : 2307391124670590992 &&& P = 2307391124670590992) (h : Keeps P s₀ s) :
    OptKeeps P s₀ (State.huntRun s n t) := by
  unfold State.huntRun
  repeat' (first
    | with_reducible assumption
    | exact Mask.sub hP (by decide)
    | (extract_lets +onlyGivenNames x; refine Keeps.cut P s₀ x ?_ fun hx => ?_; (on_goal 2 => clear_value x); revert x; change Keeps _ _ _)
    | (extract_lets +onlyGivenNames x; clear_value x)
    | with_reducible apply OptKeeps.some
    | with_reducible exact OptKeeps.none
    | with_reducible apply OptKeeps₂.some
    | with_reducible exact OptKeeps₂.none
    | with_reducible apply State.setWp_keeps
    | with_reducible apply State.noiseEdge_keeps
    | with_reducible apply State.huntAccepted_keeps
    | with_reducible apply State.huntTake_keeps
    | split)

/-- Changes at most: regs, ticks, reports, causes, warps, wefts, learn, shTok, bkTok, pair, acc, shuttles, pulseOuts, maps, svc, ovs, strand. -/
theorem State.huntAnew_keeps {P : Nat} {s₀ : State} (s : State) (n : ℕ) (e : Word × ℕ) (sub : Bool)
    (hP : 2307391124670590992 &&& P = 2307391124670590992) (h : Keeps P s₀ s) :
    Keeps P s₀ (State.huntAnew s n e sub) := by
  unfold State.huntAnew
  repeat' (first
    | with_reducible assumption
    | exact Mask.sub hP (by decide)
    | (extract_lets +onlyGivenNames x; refine Keeps.cut P s₀ x ?_ fun hx => ?_; (on_goal 2 => clear_value x); revert x; change Keeps _ _ _)
    | (extract_lets +onlyGivenNames x; clear_value x)
    | with_reducible apply State.setWp_keeps
    | with_reducible apply State.huntOne_keeps
    | split)

/-- Changes at most: regs, ticks, reports, causes, warps, wefts, learn, shTok, bkTok, pair, acc, shuttles, pulseOuts, maps, svc, ovs, strand. -/
theorem State.huntEdges_keeps {P : Nat} {s₀ : State} (n : ℕ) (fuel : ℕ) (x2 : List (Word × ℕ)) (sub : Bool) (x4 : State)
    (hP : 2307391124670590992 &&& P = 2307391124670590992) (h : Keeps P s₀ x4) :
    Keeps P s₀ (State.huntEdges n fuel x2 sub x4) := by
  induction fuel generalizing x2 sub x4 with
  | zero =>
    unfold State.huntEdges
    repeat' (first
      | with_reducible assumption
      | exact Mask.sub hP (by decide)
      | (extract_lets +onlyGivenNames x; refine Keeps.cut P s₀ x ?_ fun hx => ?_; (on_goal 2 => clear_value x); revert x; change Keeps _ _ _)
      | (extract_lets +onlyGivenNames x; clear_value x)
      | with_reducible apply State.setWp_keeps
      | with_reducible apply State.huntOne_keeps
      | with_reducible apply State.huntRun_keeps
      | with_reducible apply State.huntAnew_keeps
      | (cases ‹_ + 1 = Nat.succ _›; apply ih)
      | split
      | refine OptKeeps.of (by assumption) ?_
      | refine OptKeeps₂.of (by assumption) ?_)
  | succ m ih =>
    unfold State.huntEdges
    repeat' (first
      | with_reducible assumption
      | exact Mask.sub hP (by decide)
      | (extract_lets +onlyGivenNames x; refine Keeps.cut P s₀ x ?_ fun hx => ?_; (on_goal 2 => clear_value x); revert x; change Keeps _ _ _)
      | (extract_lets +onlyGivenNames x; clear_value x)
      | with_reducible apply State.setWp_keeps
      | with_reducible apply State.huntOne_keeps
      | with_reducible apply State.huntRun_keeps
      | with_reducible apply State.huntAnew_keeps
      | (cases ‹_ + 1 = Nat.succ _›; apply ih)
      | split
      | refine OptKeeps.of (by assumption) ?_
      | refine OptKeeps₂.of (by assumption) ?_
      | apply ih)

/-- Changes at most: regs, ticks, reports, causes, warps, wefts, learn, shTok, bkTok, pair, acc, shuttles, pulseOuts, maps, svc, ovs, strand. -/
theorem State.huntEdge_keeps {P : Nat} {s₀ : State} (s : State) (n : ℕ) (t : Word)
    (hP : 2307391124670590992 &&& P = 2307391124670590992) (h : Keeps P s₀ s) :
    Keeps P s₀ (State.huntEdge s n t) := by
  unfold State.huntEdge
  repeat' (first
    | with_reducible assumption
    | exact Mask.sub hP (by decide)
    | with_reducible apply State.huntEdges_keeps)

/-- Changes at most: regs, ticks, reports, causes, primary, warps, wefts, learn, shTok, bkTok, pair, acc, shuttles, pulseOuts, maps, svc, ovs, strand. -/
theorem State.stall_keeps {P : Nat} {s₀ : State} (s : State) (n : ℕ) (t : Word)
    (hP : 2307391124671639568 &&& P = 2307391124671639568) (h : Keeps P s₀ s) :
    Keeps P s₀ (State.stall s n t) := by
  unfold State.stall
  repeat' (first
    | with_reducible assumption
    | exact Mask.sub hP (by decide)
    | (extract_lets +onlyGivenNames x; refine Keeps.cut P s₀ x ?_ fun hx => ?_; (on_goal 2 => clear_value x); revert x; change Keeps _ _ _)
    | (extract_lets +onlyGivenNames x; clear_value x)
    | (extract_lets +onlyGivenNames x)
    | with_reducible apply State.set_keeps
    | with_reducible apply State.inc_keeps
    | with_reducible apply State.goFrom_keeps
    | with_reducible apply State.restartHunt_keeps
    | with_reducible apply State.stallReset_keeps
    | with_reducible apply State.lostCrank_keeps
    | split)

/-- Changes at most: regs, work, ticks, reports, causes, primary, warps, wefts, learn, shTok, bkTok, pair, recJobs, acc, shuttles, pulseOuts, maps, svc, ovs, strand. -/
theorem State.crankEdge_keeps {P : Nat} {s₀ : State} (s : State) (n : ℕ) (t : Word)
    (hP : 2307391124805857360 &&& P = 2307391124805857360) (h : Keeps P s₀ s) :
    Keeps P s₀ (State.crankEdge s n t) := by
  unfold State.crankEdge
  repeat' (first
    | with_reducible assumption
    | exact Mask.sub hP (by decide)
    | (extract_lets +onlyGivenNames x; refine Keeps.cut P s₀ x ?_ fun hx => ?_; (on_goal 2 => clear_value x); revert x; change Keeps _ _ _)
    | (extract_lets +onlyGivenNames x; clear_value x)
    | (extract_lets +onlyGivenNames x)
    | with_reducible apply State.goState_keeps
    | with_reducible apply State.restartHunt_keeps
    | with_reducible apply State.knownEdge_keeps
    | with_reducible apply State.huntEdge_keeps
    | with_reducible apply State.stall_keeps
    | split)

/-- Changes at most: regs, warps. -/
theorem State.camTake_keeps {P : Nat} {s₀ : State} (s : State) (n : ℕ) (iv : ℕ) (t : Word) (st : ℕ) (cand : List ℕ)
    (hP : 2097168 &&& P = 2097168) (h : Keeps P s₀ s) :
    Keeps P s₀ (State.camTake s n iv t st cand) := by
  unfold State.camTake
  repeat' (first
    | with_reducible assumption
    | exact Mask.sub hP (by decide)
    | (extract_lets +onlyGivenNames x; refine Keeps.cut P s₀ x ?_ fun hx => ?_; (on_goal 2 => clear_value x); revert x; change Keeps _ _ _)
    | (extract_lets +onlyGivenNames x; clear_value x)
    | with_reducible apply State.setReg_keeps
    | with_reducible apply State.set_keeps
    | with_reducible apply State.setWp_keeps
    | with_reducible apply State.showPeriod_keeps
    | split)

/-- Changes at most: regs, ticks, wefts. -/
theorem State.limpUpdate_keeps {P : Nat} {s₀ : State} (s : State) (n : ℕ) (iv : ℕ) (t : Word)
    (hP : 4198416 &&& P = 4198416) (h : Keeps P s₀ s) :
    Keeps P s₀ (State.limpUpdate s n iv t) := by
  unfold State.limpUpdate
  repeat' (first
    | with_reducible assumption
    | exact Mask.sub hP (by decide)
    | (extract_lets +onlyGivenNames x; refine Keeps.cut P s₀ x ?_ fun hx => ?_; (on_goal 2 => clear_value x); revert x; change Keeps _ _ _)
    | (extract_lets +onlyGivenNames x; clear_value x)
    | with_reducible apply State.setWf_keeps
    | with_reducible apply State.weftError_keeps
    | split)

/-- Changes at most: regs, ticks, reports, causes, warps, wefts, learn, shTok, bkTok, pair, acc, shuttles, pulseOuts, maps, svc, ovs, strand. -/
theorem State.limpLost_keeps {P : Nat} {s₀ : State} (s : State) (n : ℕ) (t : Word)
    (hP : 2307391124670590992 &&& P = 2307391124670590992) (h : Keeps P s₀ s) :
    Keeps P s₀ (State.limpLost s n t) := by
  unfold State.limpLost
  repeat' (first
    | with_reducible assumption
    | exact Mask.sub hP (by decide)
    | with_reducible apply State.sourceLost_keeps
    | split)

/-- Changes at most: regs, ticks, reports, causes, primary, warps, wefts, learn, shTok, bkTok, pair, acc, shuttles, pulseOuts, maps, svc, ovs, strand. -/
theorem State.camToCranks_keeps {P : Nat} {s₀ : State} (s : State) (n : ℕ) (t : Word)
    (hP : 2307391124671639568 &&& P = 2307391124671639568) (h : Keeps P s₀ s) :
    Keeps P s₀ (State.camToCranks s n t) := by
  unfold State.camToCranks
  repeat' (first
    | with_reducible assumption
    | exact Mask.sub hP (by decide)
    | with_reducible apply State.phaseEdge_keeps
    | with_reducible apply Keeps.foldl
    | split
    | (intro _ _ _))

/-- Changes at most: regs, ticks, reports, causes, warps, wefts, learn, shTok, bkTok, pair, acc, shuttles, pulseOuts, maps, svc, ovs, strand. -/
theorem State.camStall_keeps {P : Nat} {s₀ : State} (s : State) (n : ℕ) (t : Word)
    (hP : 2307391124670590992 &&& P = 2307391124670590992) (h : Keeps P s₀ s) :
    Keeps P s₀ (State.camStall s n t) := by
  unfold State.camStall
  repeat' (first
    | with_reducible assumption
    | exact Mask.sub hP (by decide)
    | (extract_lets +onlyGivenNames x; refine Keeps.cut P s₀ x ?_ fun hx => ?_; (on_goal 2 => clear_value x); revert x; change Keeps _ _ _)
    | (extract_lets +onlyGivenNames x; clear_value x)
    | with_reducible apply State.set_keeps
    | with_reducible apply State.inc_keeps
    | with_reducible apply State.setWp_keeps
    | with_reducible apply State.limpLost_keeps)

/-- Changes at most: regs, ticks, reports, causes, warps, wefts, learn, shTok, bkTok, pair, acc, shuttles, pulseOuts, maps, svc, ovs, strand. -/
theorem State.camInterval_keeps {P : Nat} {s₀ : State} (s : State) (n : ℕ) (t : Word)
    (hP : 2307391124670590992 &&& P = 2307391124670590992) (h : Keeps P s₀ s) :
    Keeps P s₀ (State.camInterval s n t).1 := by
  unfold State.camInterval
  repeat' (first
    | with_reducible assumption
    | exact Mask.sub hP (by decide)
    | (extract_lets +onlyGivenNames x; refine Keeps.cut P s₀ x ?_ fun hx => ?_; (on_goal 2 => clear_value x); revert x; change Keeps _ _ _)
    | (extract_lets +onlyGivenNames x; refine Keeps.cutOp P s₀ x ?_ fun hx => ?_; (on_goal 2 => clear_value x); revert x; change ∀ s, Keeps _ _ s → Keeps _ _ _; intro s hs)
    | (extract_lets +onlyGivenNames x; refine Keeps.cutFun P s₀ x ?_ fun hx => ?_; (on_goal 2 => clear_value x); revert x; change ∀ s x, Keeps _ _ s → Keeps _ _ _; intro s x hs)
    | (extract_lets +onlyGivenNames x; refine Keeps.cutFn P s₀ x ?_ fun hx => ?_; (on_goal 2 => clear_value x); revert x; change ∀ x, Keeps _ _ _; intro x)
    | (extract_lets +onlyGivenNames x; clear_value x)
    | (extract_lets +onlyGivenNames x)
    | with_reducible apply State.set_keeps
    | with_reducible apply State.inc_keeps
    | with_reducible apply State.noiseEdge_keeps
    | with_reducible apply State.camTake_keeps
    | with_reducible apply State.limpLost_keeps
    | split
    | with_reducible apply_assumption)

/-- Changes at most: regs, ticks, reports, causes, primary, warps, wefts, learn, shTok, bkTok, pair, acc, shuttles, pulseOuts, maps, svc, ovs, strand. -/
theorem State.camEdge_keeps {P : Nat} {s₀ : State} (s : State) (n : ℕ) (t : Word)
    (hP : 2307391124671639568 &&& P = 2307391124671639568) (h : Keeps P s₀ s) :
    Keeps P s₀ (State.camEdge s n t) := by
  unfold State.camEdge
  repeat' (first
    | with_reducible assumption
    | exact Mask.sub hP (by decide)
    | (extract_lets +onlyGivenNames x; refine Keeps.cut P s₀ x ?_ fun hx => ?_; (on_goal 2 => clear_value x); revert x; change Keeps _ _ _)
    | (extract_lets +onlyGivenNames x; refine Keeps.cutFst P s₀ x ?_ fun hx => ?_; (on_goal 2 => clear_value x); revert x; change Keeps _ _ _)
    | (extract_lets +onlyGivenNames x; refine Keeps.cutMid P s₀ x ?_ fun hx => ?_; (on_goal 2 => clear_value x); revert x; change Keeps _ _ _)
    | (extract_lets +onlyGivenNames x; refine Keeps.cutSnd P s₀ x ?_ fun hx => ?_; (on_goal 2 => clear_value x); revert x; change Keeps _ _ _)
    | (extract_lets +onlyGivenNames x; clear_value x)
    | (extract_lets +onlyGivenNames x)
    | with_reducible apply State.setReg_keeps
    | with_reducible apply State.setWp_keeps
    | with_reducible apply State.limpUpdate_keeps
    | with_reducible apply State.camToCranks_keeps
    | with_reducible apply State.camStall_keeps
    | with_reducible apply State.camInterval_keeps
    | split
    | refine Keeps.ofFst (by assumption) ?_
    | refine Keeps.ofSnd (by assumption) ?_
    | refine Keeps.ofMid (by assumption) ?_)

/-- Changes at most: regs, ticks, reports, causes, warps, wefts, learn, shTok, bkTok, pair, acc, shuttles, pulseOuts, maps, svc, ovs, strand. -/
theorem State.confirmByCode_keeps {P : Nat} {s₀ : State} (s : State) (n : ℕ) (t : Word)
    (hP : 2307391124670590992 &&& P = 2307391124670590992) (h : Keeps P s₀ s) :
    Keeps P s₀ (State.confirmByCode s n t) := by
  unfold State.confirmByCode
  repeat' (first
    | with_reducible assumption
    | exact Mask.sub hP (by decide)
    | (extract_lets +onlyGivenNames x; refine Keeps.cut P s₀ x ?_ fun hx => ?_; (on_goal 2 => clear_value x); revert x; change Keeps _ _ _)
    | (extract_lets +onlyGivenNames x; clear_value x)
    | (extract_lets +onlyGivenNames x)
    | with_reducible apply State.set_keeps
    | with_reducible apply State.setWp_keeps
    | with_reducible apply State.goState_keeps
    | split)

/-- Changes at most: regs, ticks, reports, causes, warps, wefts, learn, shTok, bkTok, pair, acc, shuttles, pulseOuts, maps, svc, ovs, strand. -/
theorem State.pulseEnd_keeps {P : Nat} {s₀ : State} (s : State) (n : ℕ) (t : Word)
    (hP : 2307391124670590992 &&& P = 2307391124670590992) (h : Keeps P s₀ s) :
    Keeps P s₀ (State.pulseEnd s n t) := by
  unfold State.pulseEnd
  repeat' (first
    | with_reducible assumption
    | exact Mask.sub hP (by decide)
    | (extract_lets +onlyGivenNames x; refine Keeps.cut P s₀ x ?_ fun hx => ?_; (on_goal 2 => clear_value x); revert x; change Keeps _ _ _)
    | (extract_lets +onlyGivenNames x; clear_value x)
    | with_reducible apply State.inc_keeps
    | with_reducible apply State.setWp_keeps
    | with_reducible apply State.confirmByCode_keeps
    | split)

/-- Changes at most: regs, work, ticks, reports, causes, primary, warps, wefts, learn, shTok, bkTok, pair, recJobs, acc, shuttles, pulseOuts, maps, svc, ovs, strand. -/
theorem State.outputChange_keeps {P : Nat} {s₀ : State} (s : State) (n : ℕ) (active : Bool) (t : Word)
    (hP : 2307391124805857360 &&& P = 2307391124805857360) (h : Keeps P s₀ s) :
    Keeps P s₀ (State.outputChange s n active t) := by
  unfold State.outputChange
  repeat' (first
    | with_reducible assumption
    | exact Mask.sub hP (by decide)
    | (extract_lets +onlyGivenNames x; refine Keeps.cut P s₀ x ?_ fun hx => ?_; (on_goal 2 => clear_value x); revert x; change Keeps _ _ _)
    | (extract_lets +onlyGivenNames x; clear_value x)
    | with_reducible apply State.set_keeps
    | with_reducible apply State.setWp_keeps
    | with_reducible apply State.crankEdge_keeps
    | with_reducible apply State.camEdge_keeps
    | with_reducible apply State.pulseEnd_keeps
    | split)

/-- Changes at most: regs, work, ticks, reports, causes, primary, warps, wefts, learn, shTok, bkTok, pair, recJobs, acc, shuttles, pulseOuts, maps, svc, ovs, strand. -/
theorem State.transition_keeps {P : Nat} {s₀ : State} (s : State) (n : ℕ) (active : Bool) (t : Word)
    (hP : 2307391124805857360 &&& P = 2307391124805857360) (h : Keeps P s₀ s) :
    Keeps P s₀ (State.transition s n active t) := by
  unfold State.transition
  repeat' (first
    | with_reducible assumption
    | exact Mask.sub hP (by decide)
    | (extract_lets +onlyGivenNames x; refine Keeps.cut P s₀ x ?_ fun hx => ?_; (on_goal 2 => clear_value x); revert x; change Keeps _ _ _)
    | (extract_lets +onlyGivenNames x; clear_value x)
    | (extract_lets +onlyGivenNames x)
    | with_reducible apply State.setWp_keeps
    | with_reducible apply State.outputChange_keeps
    | split)

/-- Changes at most: now, regs, work, ticks, reports, causes, primary, warps, wefts, learn, shTok, bkTok, pair, recJobs, acc, shuttles, pulseOuts, maps, svc, ovs, strand. -/
theorem execWheelTransition_keeps {P : Nat} {s₀ : State} (t : Word) (n : Fin 6) (w : WheelIn) (s : State)
    (hP : 2307391124805857361 &&& P = 2307391124805857361) (h : Keeps P s₀ s) :
    OutKeeps P s₀ (execWheelTransition t n w s) := by
  unfold execWheelTransition
  repeat' (first
    | with_reducible assumption
    | exact Mask.sub hP (by decide)
    | (extract_lets +onlyGivenNames x; refine Keeps.cut P s₀ x ?_ fun hx => ?_; (on_goal 2 => clear_value x); revert x; change Keeps _ _ _)
    | (extract_lets +onlyGivenNames x; clear_value x)
    | (extract_lets +onlyGivenNames x)
    | with_reducible apply OutKeeps.next
    | with_reducible apply State.at_keeps
    | with_reducible apply State.setWp_keeps
    | with_reducible apply State.transition_keeps
    | split)

/-- Changes at most: now, regs, work, ticks, reports, causes, primary, warps, wefts, learn, shTok, bkTok, pair, recJobs, acc, shuttles, pulseOuts, maps, svc, ovs, strand. -/
theorem execEdgeFilterExpiry_keeps {P : Nat} {s₀ : State} (t : Word) (n : Fin 6) (s : State)
    (hP : 2307391124805857361 &&& P = 2307391124805857361) (h : Keeps P s₀ s) :
    OutKeeps P s₀ (execEdgeFilterExpiry t n s) := by
  unfold execEdgeFilterExpiry
  repeat' (first
    | with_reducible assumption
    | exact Mask.sub hP (by decide)
    | (extract_lets +onlyGivenNames x; refine Keeps.cut P s₀ x ?_ fun hx => ?_; (on_goal 2 => clear_value x); revert x; change Keeps _ _ _)
    | (extract_lets +onlyGivenNames x; clear_value x)
    | (extract_lets +onlyGivenNames x)
    | with_reducible apply OutKeeps.next
    | with_reducible apply State.at_keeps
    | with_reducible apply State.outputChange_keeps
    | split)

/-- Changes at most: now, regs, ticks, reports, causes, warps, wefts, learn, shTok, bkTok, pair, acc, shuttles, pulseOuts, maps, svc, ovs, strand. -/
theorem execDirSplitExpiry_keeps {P : Nat} {s₀ : State} (t : Word) (n : Fin 6) (s : State)
    (hP : 2307391124670590993 &&& P = 2307391124670590993) (h : Keeps P s₀ s) :
    OutKeeps P s₀ (execDirSplitExpiry t n s) := by
  unfold execDirSplitExpiry
  repeat' (first
    | with_reducible assumption
    | exact Mask.sub hP (by decide)
    | (extract_lets +onlyGivenNames x; refine Keeps.cut P s₀ x ?_ fun hx => ?_; (on_goal 2 => clear_value x); revert x; change Keeps _ _ _)
    | (extract_lets +onlyGivenNames x; clear_value x)
    | (extract_lets +onlyGivenNames x)
    | with_reducible apply OutKeeps.next
    | with_reducible apply State.at_keeps
    | with_reducible apply State.setWp_keeps
    | with_reducible apply State.declareReverse_keeps
    | split)

/-- Changes at most: now, regs, ticks, warps. -/
theorem execDirMaxExpiry_keeps {P : Nat} {s₀ : State} (t : Word) (n : Fin 6) (s : State)
    (hP : 2101265 &&& P = 2101265) (h : Keeps P s₀ s) :
    OutKeeps P s₀ (execDirMaxExpiry t n s) := by
  unfold execDirMaxExpiry
  repeat' (first
    | with_reducible assumption
    | exact Mask.sub hP (by decide)
    | (extract_lets +onlyGivenNames x; refine Keeps.cut P s₀ x ?_ fun hx => ?_; (on_goal 2 => clear_value x); revert x; change Keeps _ _ _)
    | (extract_lets +onlyGivenNames x; clear_value x)
    | (extract_lets +onlyGivenNames x)
    | with_reducible apply OutKeeps.next
    | with_reducible apply State.inc_keeps
    | with_reducible apply State.at_keeps
    | with_reducible apply State.setWp_keeps
    | split)

/-- Changes at most: now, regs, ticks, reports, causes, primary, warps, wefts, learn, shTok, bkTok, pair, acc, shuttles, pulseOuts, maps, svc, ovs, strand. -/
theorem execStallTimeout_keeps {P : Nat} {s₀ : State} (t : Word) (n : Fin 2) (s : State)
    (hP : 2307391124671639569 &&& P = 2307391124671639569) (h : Keeps P s₀ s) :
    OutKeeps P s₀ (execStallTimeout t n s) := by
  unfold execStallTimeout
  repeat' (first
    | with_reducible assumption
    | exact Mask.sub hP (by decide)
    | (extract_lets +onlyGivenNames x; refine Keeps.cut P s₀ x ?_ fun hx => ?_; (on_goal 2 => clear_value x); revert x; change Keeps _ _ _)
    | (extract_lets +onlyGivenNames x; clear_value x)
    | (extract_lets +onlyGivenNames x)
    | with_reducible apply OutKeeps.next
    | with_reducible apply State.at_keeps
    | with_reducible apply State.stall_keeps
    | split)

/-- Changes at most: now, regs, ticks, reports, causes, warps, wefts, learn, shTok, bkTok, pair, acc, shuttles, pulseOuts, maps, svc, ovs, strand. -/
theorem execCamStallTimeout_keeps {P : Nat} {s₀ : State} (t : Word) (n : Fin 6) (s : State)
    (hP : 2307391124670590993 &&& P = 2307391124670590993) (h : Keeps P s₀ s) :
    OutKeeps P s₀ (execCamStallTimeout t n s) := by
  unfold execCamStallTimeout
  repeat' (first
    | with_reducible assumption
    | exact Mask.sub hP (by decide)
    | (extract_lets +onlyGivenNames x; refine Keeps.cut P s₀ x ?_ fun hx => ?_; (on_goal 2 => clear_value x); revert x; change Keeps _ _ _)
    | (extract_lets +onlyGivenNames x; clear_value x)
    | with_reducible apply OutKeeps.next
    | with_reducible apply State.at_keeps
    | with_reducible apply State.camStall_keeps
    | split)

/-- Changes at most: regs. -/
theorem State.warpClear_keeps {P : Nat} {s₀ : State} (s : State) (n : ℕ)
    (hP : 16 &&& P = 16) (h : Keeps P s₀ s) :
    Keeps P s₀ (State.warpClear s n) := by
  unfold State.warpClear
  repeat' (first
    | with_reducible assumption
    | exact Mask.sub hP (by decide)
    | with_reducible apply State.clearCounts_keeps)

/-- Changes at most: now, regs, ticks. -/
theorem execWrpCntClr_keeps {P : Nat} {s₀ : State} (t : Word) (n : Fin 6) (s : State)
    (hP : 4113 &&& P = 4113) (h : Keeps P s₀ s) :
    OutKeeps P s₀ (execWrpCntClr t n s) := by
  unfold execWrpCntClr
  repeat' (first
    | with_reducible assumption
    | exact Mask.sub hP (by decide)
    | (extract_lets +onlyGivenNames x; refine Keeps.cut P s₀ x ?_ fun hx => ?_; (on_goal 2 => clear_value x); revert x; change Keeps _ _ _)
    | (extract_lets +onlyGivenNames x; clear_value x)
    | with_reducible apply OutKeeps.next
    | with_reducible apply State.wrej_keeps
    | with_reducible apply State.at_keeps
    | with_reducible apply State.warpClear_keeps
    | split)

end Sys2Proof.Machine
end

