-- ==== Sys2Proof/Laws/KeepsShuttle.lean ====
section
/-!
SUPPORT. What each operation of Machine/Shuttle.lean may change (Laws/Keeps.lean).
-/
set_option linter.unusedTactic false
set_option linter.unreachableTactic false
namespace Sys2Proof.Machine

/-- Changes at most: shuttles. -/
theorem State.setSh_keeps {P : Nat} {s₀ : State} (s : State) (n : ℕ) (k : Shuttle)
    (hP : 536870912 &&& P = 536870912) (h : Keeps P s₀ s) :
    Keeps P s₀ (State.setSh s n k) := by
  unfold State.setSh
  repeat' (first
    | with_reducible assumption
    | exact Mask.sub hP (by decide)
    | (extract_lets +onlyGivenNames x; refine Keeps.cut P s₀ x ?_ fun hx => ?_; (on_goal 2 => clear_value x); revert x; change Keeps _ _ _)
    | (extract_lets +onlyGivenNames x; clear_value x)
    | with_reducible apply Keeps.upd_shuttles)

/-- Changes at most: regs. -/
theorem State.shtShow_keeps {P : Nat} {s₀ : State} (s : State) (n : ℕ)
    (hP : 16 &&& P = 16) (h : Keeps P s₀ s) :
    Keeps P s₀ (State.shtShow s n) := by
  unfold State.shtShow
  repeat' (first
    | with_reducible assumption
    | exact Mask.sub hP (by decide)
    | (extract_lets +onlyGivenNames x; refine Keeps.cut P s₀ x ?_ fun hx => ?_; (on_goal 2 => clear_value x); revert x; change Keeps _ _ _)
    | (extract_lets +onlyGivenNames x; clear_value x)
    | with_reducible apply State.setReg_keeps
    | with_reducible apply State.set_keeps
    | split)

/-- Changes at most: regs, ticks, reports. -/
theorem State.shtSkipAs_keeps {P : Nat} {s₀ : State} (s : State) (n : ℕ) (i : ℕ) (cause : ℕ) (f : Fld)
    (hP : 12304 &&& P = 12304) (h : Keeps P s₀ s) :
    Keeps P s₀ (State.shtSkipAs s n i cause f) := by
  unfold State.shtSkipAs
  repeat' (first
    | with_reducible assumption
    | exact Mask.sub hP (by decide)
    | (extract_lets +onlyGivenNames x; refine Keeps.cut P s₀ x ?_ fun hx => ?_; (on_goal 2 => clear_value x); revert x; change Keeps _ _ _)
    | (extract_lets +onlyGivenNames x; clear_value x)
    | with_reducible apply State.set_keeps
    | with_reducible apply State.inc_keeps
    | with_reducible apply State.report_keeps
    | split)

/-- Changes at most: regs, ticks, reports. -/
theorem State.shtSkip_keeps {P : Nat} {s₀ : State} (s : State) (n : ℕ) (i : ℕ) (cause : ℕ)
    (hP : 12304 &&& P = 12304) (h : Keeps P s₀ s) :
    Keeps P s₀ (State.shtSkip s n i cause) := by
  unfold State.shtSkip
  repeat' (first
    | with_reducible assumption
    | exact Mask.sub hP (by decide)
    | with_reducible apply State.shtSkipAs_keeps)

/-- Changes at most: regs, ticks, reports, shuttles. -/
theorem State.copyPage_keeps {P : Nat} {s₀ : State} (s : State) (n : ℕ) (g : ℕ)
    (hP : 536883216 &&& P = 536883216) (h : Keeps P s₀ s) :
    Keeps P s₀ (State.copyPage s n g) := by
  unfold State.copyPage
  repeat' (first
    | with_reducible assumption
    | exact Mask.sub hP (by decide)
    | (extract_lets +onlyGivenNames x; refine Keeps.cut P s₀ x ?_ fun hx => ?_; (on_goal 2 => clear_value x); revert x; change Keeps _ _ _)
    | (extract_lets +onlyGivenNames x; refine Keeps.cutOp P s₀ x ?_ fun hx => ?_; (on_goal 2 => clear_value x); revert x; change ∀ s, Keeps _ _ s → Keeps _ _ _; intro s hs)
    | (extract_lets +onlyGivenNames x; refine Keeps.cutFun P s₀ x ?_ fun hx => ?_; (on_goal 2 => clear_value x); revert x; change ∀ s x, Keeps _ _ s → Keeps _ _ _; intro s x hs)
    | (extract_lets +onlyGivenNames x; refine Keeps.cutFn P s₀ x ?_ fun hx => ?_; (on_goal 2 => clear_value x); revert x; change ∀ x, Keeps _ _ _; intro x)
    | (extract_lets +onlyGivenNames x; clear_value x)
    | (extract_lets +onlyGivenNames x)
    | with_reducible apply State.setSh_keeps
    | with_reducible apply State.shtSkip_keeps
    | with_reducible apply Keeps.foldl
    | split
    | with_reducible apply_assumption
    | (intro _ _ _))

/-- Changes at most: regs, ticks, reports, shuttles. -/
theorem State.cancelRest_keeps {P : Nat} {s₀ : State} (s : State) (n : ℕ)
    (hP : 536883216 &&& P = 536883216) (h : Keeps P s₀ s) :
    Keeps P s₀ (State.cancelRest s n) := by
  unfold State.cancelRest
  repeat' (first
    | with_reducible assumption
    | exact Mask.sub hP (by decide)
    | (extract_lets +onlyGivenNames x; refine Keeps.cut P s₀ x ?_ fun hx => ?_; (on_goal 2 => clear_value x); revert x; change Keeps _ _ _)
    | (extract_lets +onlyGivenNames x; clear_value x)
    | with_reducible apply State.setSh_keeps
    | with_reducible apply State.shtSkip_keeps
    | with_reducible apply Keeps.foldl
    | (intro _ _ _))

/-- Changes at most: banks, cmps. -/
theorem State.sendRequest_keeps {P : Nat} {s₀ : State} (s : State) (n : ℕ) (i : ℕ) (e : ListEntry) (t : Word)
    (hP : 12884901888 &&& P = 12884901888) (h : Keeps P s₀ s) :
    Keeps P s₀ (State.sendRequest s n i e t) := by
  unfold State.sendRequest
  repeat' (first
    | with_reducible assumption
    | exact Mask.sub hP (by decide)
    | (extract_lets +onlyGivenNames x; refine Keeps.cut P s₀ x ?_ fun hx => ?_; (on_goal 2 => clear_value x); revert x; change Keeps _ _ _)
    | (extract_lets +onlyGivenNames x; clear_value x)
    | with_reducible apply State.setBk_keeps)

/-- Changes at most: regs, ticks, reports, shuttles, banks, cmps. -/
theorem State.commitStart_keeps {P : Nat} {s₀ : State} (s : State) (n : ℕ) (i : ℕ) (e : ListEntry) (t : Word) (a : Word) (late : ℕ)
    (hP : 13421785104 &&& P = 13421785104) (h : Keeps P s₀ s) :
    Keeps P s₀ (State.commitStart s n i e t a late).1 := by
  unfold State.commitStart
  repeat' (first
    | with_reducible assumption
    | exact Mask.sub hP (by decide)
    | (extract_lets +onlyGivenNames x; refine Keeps.cut P s₀ x ?_ fun hx => ?_; (on_goal 2 => clear_value x); revert x; change Keeps _ _ _)
    | (extract_lets +onlyGivenNames x; clear_value x)
    | with_reducible apply State.setSh_keeps
    | with_reducible apply State.shtSkip_keeps
    | with_reducible apply State.sendRequest_keeps
    | split)

/-- Changes at most: fresh. -/
theorem State.startAngle_keeps {P : Nat} {s₀ : State} (s : State) (u : Update) (e : ListEntry)
    (hP : 2 &&& P = 2) (h : Keeps P s₀ s) :
    Keeps P s₀ (State.startAngle s u e).2 := by
  unfold State.startAngle
  repeat' (first
    | with_reducible assumption
    | exact Mask.sub hP (by decide)
    | (extract_lets +onlyGivenNames x; refine Keeps.cut P s₀ x ?_ fun hx => ?_; (on_goal 2 => clear_value x); revert x; change Keeps _ _ _)
    | (extract_lets +onlyGivenNames x; refine Keeps.cutFst P s₀ x ?_ fun hx => ?_; (on_goal 2 => clear_value x); revert x; change Keeps _ _ _)
    | (extract_lets +onlyGivenNames x; refine Keeps.cutMid P s₀ x ?_ fun hx => ?_; (on_goal 2 => clear_value x); revert x; change Keeps _ _ _)
    | (extract_lets +onlyGivenNames x; refine Keeps.cutSnd P s₀ x ?_ fun hx => ?_; (on_goal 2 => clear_value x); revert x; change Keeps _ _ _)
    | (extract_lets +onlyGivenNames x; clear_value x)
    | with_reducible apply State.free_keeps
    | split
    | refine Keeps.ofFst (by assumption) ?_
    | refine Keeps.ofSnd (by assumption) ?_
    | refine Keeps.ofMid (by assumption) ?_)

/-- Changes at most: regs, ticks, reports, shuttles, banks, cmps. -/
theorem State.latePulse_keeps {P : Nat} {s₀ : State} (s : State) (n : ℕ) (i : ℕ) (e : ListEntry) (a : Word) (late : ℕ)
    (hP : 13421785104 &&& P = 13421785104) (h : Keeps P s₀ s) :
    Keeps P s₀ (State.latePulse s n i e a late).1 := by
  unfold State.latePulse
  repeat' (first
    | with_reducible assumption
    | exact Mask.sub hP (by decide)
    | with_reducible apply State.shtSkip_keeps
    | with_reducible apply State.commitStart_keeps
    | split
    | refine Keeps.ofFst (by assumption) ?_
    | refine Keeps.ofSnd (by assumption) ?_
    | refine Keeps.ofMid (by assumption) ?_)

/-- Changes at most: fresh, regs, ticks, reports, shuttles, banks, cmps. -/
theorem State.aimPulse_keeps {P : Nat} {s₀ : State} (s : State) (n : ℕ) (i : ℕ) (e : ListEntry) (u : Update)
    (hP : 13421785106 &&& P = 13421785106) (h : Keeps P s₀ s) :
    Keeps P s₀ (State.aimPulse s n i e u).1 := by
  unfold State.aimPulse
  repeat' (first
    | with_reducible assumption
    | exact Mask.sub hP (by decide)
    | (extract_lets +onlyGivenNames x; refine Keeps.cut P s₀ x ?_ fun hx => ?_; (on_goal 2 => clear_value x); revert x; change Keeps _ _ _)
    | (extract_lets +onlyGivenNames x; refine Keeps.cutFst P s₀ x ?_ fun hx => ?_; (on_goal 2 => clear_value x); revert x; change Keeps _ _ _)
    | (extract_lets +onlyGivenNames x; refine Keeps.cutMid P s₀ x ?_ fun hx => ?_; (on_goal 2 => clear_value x); revert x; change Keeps _ _ _)
    | (extract_lets +onlyGivenNames x; refine Keeps.cutSnd P s₀ x ?_ fun hx => ?_; (on_goal 2 => clear_value x); revert x; change Keeps _ _ _)
    | (extract_lets +onlyGivenNames x; clear_value x)
    | with_reducible apply State.setSh_keeps
    | with_reducible apply State.commitStart_keeps
    | with_reducible apply State.startAngle_keeps
    | with_reducible apply State.latePulse_keeps
    | split
    | refine Keeps.ofFst (by assumption) ?_
    | refine Keeps.ofSnd (by assumption) ?_
    | refine Keeps.ofMid (by assumption) ?_)

/-- Changes at most: seqTok. -/
theorem State.sendTok_keeps {P : Nat} {s₀ : State} (s : State) (n : ℕ) (k : GateTok)
    (hP : 1073741824 &&& P = 1073741824) (h : Keeps P s₀ s) :
    Keeps P s₀ (State.sendTok s n k) := by
  unfold State.sendTok
  repeat' (first
    | with_reducible assumption
    | exact Mask.sub hP (by decide)
    | (extract_lets +onlyGivenNames x; refine Keeps.cut P s₀ x ?_ fun hx => ?_; (on_goal 2 => clear_value x); revert x; change Keeps _ _ _)
    | (extract_lets +onlyGivenNames x; clear_value x)
    | with_reducible apply Keeps.upd_seqTok)

/-- Changes at most: shuttles. -/
theorem State.planClose_keeps {P : Nat} {s₀ : State} (s : State) (n : ℕ) (u : Update) (g : Gate)
    (hP : 536870912 &&& P = 536870912) (h : Keeps P s₀ s) :
    Keeps P s₀ (State.planClose s n u g) := by
  unfold State.planClose
  repeat' (first
    | with_reducible assumption
    | exact Mask.sub hP (by decide)
    | (extract_lets +onlyGivenNames x; refine Keeps.cut P s₀ x ?_ fun hx => ?_; (on_goal 2 => clear_value x); revert x; change Keeps _ _ _)
    | (extract_lets +onlyGivenNames x; clear_value x)
    | with_reducible apply State.setSh_keeps
    | split)

/-- Changes at most: shuttles. -/
theorem State.planTick_keeps {P : Nat} {s₀ : State} (s : State) (n : ℕ) (u : Update)
    (hP : 536870912 &&& P = 536870912) (h : Keeps P s₀ s) :
    Keeps P s₀ (State.planTick s n u) := by
  unfold State.planTick
  repeat' (first
    | with_reducible assumption
    | exact Mask.sub hP (by decide)
    | (extract_lets +onlyGivenNames x; refine Keeps.cut P s₀ x ?_ fun hx => ?_; (on_goal 2 => clear_value x); revert x; change Keeps _ _ _)
    | (extract_lets +onlyGivenNames x; clear_value x)
    | (extract_lets +onlyGivenNames x)
    | with_reducible apply State.setSh_keeps
    | split)

/-- Changes at most: regs, ticks, reports, shuttles, seqTok. -/
theorem State.openGate_keeps {P : Nat} {s₀ : State} (s : State) (n : ℕ) (g : Gate) (t : Word) (u : Update)
    (hP : 1610625040 &&& P = 1610625040) (h : Keeps P s₀ s) :
    Keeps P s₀ (State.openGate s n g t u) := by
  unfold State.openGate
  repeat' (first
    | with_reducible assumption
    | exact Mask.sub hP (by decide)
    | (extract_lets +onlyGivenNames x; refine Keeps.cut P s₀ x ?_ fun hx => ?_; (on_goal 2 => clear_value x); revert x; change Keeps _ _ _)
    | (extract_lets +onlyGivenNames x; clear_value x)
    | (extract_lets +onlyGivenNames x)
    | with_reducible apply State.periodRise_keeps
    | with_reducible apply State.setReg_keeps
    | with_reducible apply State.inc_keeps
    | with_reducible apply State.report_keeps
    | with_reducible apply State.setSh_keeps
    | with_reducible apply State.sendTok_keeps
    | with_reducible apply State.planClose_keeps
    | with_reducible apply State.planTick_keeps
    | split)

/-- Changes at most: regs, ticks, reports, shuttles, seqTok, dmaTrigs. -/
theorem State.closeGate_keeps {P : Nat} {s₀ : State} (s : State) (n : ℕ) (g : Gate) (incomplete : Bool) (t : Word)
    (hP : 576460753914048528 &&& P = 576460753914048528) (h : Keeps P s₀ s) :
    Keeps P s₀ (State.closeGate s n g incomplete t) := by
  unfold State.closeGate
  repeat' (first
    | with_reducible assumption
    | exact Mask.sub hP (by decide)
    | (extract_lets +onlyGivenNames x; refine Keeps.cut P s₀ x ?_ fun hx => ?_; (on_goal 2 => clear_value x); revert x; change Keeps _ _ _)
    | (extract_lets +onlyGivenNames x; clear_value x)
    | with_reducible apply State.dmaPulse_keeps
    | with_reducible apply State.inc_keeps
    | with_reducible apply State.report_keeps
    | with_reducible apply State.setSh_keeps
    | with_reducible apply State.sendTok_keeps
    | split)

/-- Changes at most: regs, ticks, reports, shuttles. -/
theorem State.commitGate_keeps {P : Nat} {s₀ : State} (s : State) (n : ℕ) (i : ℕ) (e : ListEntry) (t : Word)
    (hP : 536883216 &&& P = 536883216) (h : Keeps P s₀ s) :
    Keeps P s₀ (State.commitGate s n i e t).1 := by
  unfold State.commitGate
  repeat' (first
    | with_reducible assumption
    | exact Mask.sub hP (by decide)
    | (extract_lets +onlyGivenNames x; refine Keeps.cut P s₀ x ?_ fun hx => ?_; (on_goal 2 => clear_value x); revert x; change Keeps _ _ _)
    | (extract_lets +onlyGivenNames x; clear_value x)
    | with_reducible apply State.setSh_keeps
    | with_reducible apply State.shtSkip_keeps
    | split)

/-- Changes at most: regs, ticks, reports, shuttles, seqTok. -/
theorem State.aimGate_keeps {P : Nat} {s₀ : State} (s : State) (n : ℕ) (i : ℕ) (e : ListEntry) (u : Update)
    (hP : 1610625040 &&& P = 1610625040) (h : Keeps P s₀ s) :
    Keeps P s₀ (State.aimGate s n i e u).1 := by
  unfold State.aimGate
  repeat' (first
    | with_reducible assumption
    | exact Mask.sub hP (by decide)
    | (extract_lets +onlyGivenNames x; refine Keeps.cut P s₀ x ?_ fun hx => ?_; (on_goal 2 => clear_value x); revert x; change Keeps _ _ _)
    | (extract_lets +onlyGivenNames x; refine Keeps.cutFst P s₀ x ?_ fun hx => ?_; (on_goal 2 => clear_value x); revert x; change Keeps _ _ _)
    | (extract_lets +onlyGivenNames x; refine Keeps.cutMid P s₀ x ?_ fun hx => ?_; (on_goal 2 => clear_value x); revert x; change Keeps _ _ _)
    | (extract_lets +onlyGivenNames x; refine Keeps.cutSnd P s₀ x ?_ fun hx => ?_; (on_goal 2 => clear_value x); revert x; change Keeps _ _ _)
    | (extract_lets +onlyGivenNames x; clear_value x)
    | with_reducible apply State.setSh_keeps
    | with_reducible apply State.shtSkipAs_keeps
    | with_reducible apply State.shtSkip_keeps
    | with_reducible apply State.openGate_keeps
    | with_reducible apply State.commitGate_keeps
    | split
    | refine Keeps.ofFst (by assumption) ?_
    | refine Keeps.ofSnd (by assumption) ?_
    | refine Keeps.ofMid (by assumption) ?_)

/-- Changes at most: fresh, regs, ticks, reports, shuttles, seqTok, banks, cmps. -/
theorem State.shtServe_keeps {P : Nat} {s₀ : State} (n : ℕ) (x1 : ℕ) (x2 : State)
    (hP : 14495526930 &&& P = 14495526930) (h : Keeps P s₀ x2) :
    Keeps P s₀ (State.shtServe n x1 x2) := by
  induction x1 generalizing x2 with
  | zero =>
    unfold State.shtServe
    repeat' (first
      | with_reducible assumption
      | exact Mask.sub hP (by decide)
      | (extract_lets +onlyGivenNames x; refine Keeps.cut P s₀ x ?_ fun hx => ?_; (on_goal 2 => clear_value x); revert x; change Keeps _ _ _)
      | (extract_lets +onlyGivenNames x; refine Keeps.cutFst P s₀ x ?_ fun hx => ?_; (on_goal 2 => clear_value x); revert x; change Keeps _ _ _)
      | (extract_lets +onlyGivenNames x; refine Keeps.cutMid P s₀ x ?_ fun hx => ?_; (on_goal 2 => clear_value x); revert x; change Keeps _ _ _)
      | (extract_lets +onlyGivenNames x; refine Keeps.cutSnd P s₀ x ?_ fun hx => ?_; (on_goal 2 => clear_value x); revert x; change Keeps _ _ _)
      | (extract_lets +onlyGivenNames x; clear_value x)
      | with_reducible apply State.setSh_keeps
      | with_reducible apply State.shtSkip_keeps
      | with_reducible apply State.aimPulse_keeps
      | with_reducible apply State.aimGate_keeps
      | split
      | refine Keeps.ofFst (by assumption) ?_
      | refine Keeps.ofSnd (by assumption) ?_
      | refine Keeps.ofMid (by assumption) ?_)
  | succ m ih =>
    unfold State.shtServe
    repeat' (first
      | with_reducible assumption
      | exact Mask.sub hP (by decide)
      | (extract_lets +onlyGivenNames x; refine Keeps.cut P s₀ x ?_ fun hx => ?_; (on_goal 2 => clear_value x); revert x; change Keeps _ _ _)
      | (extract_lets +onlyGivenNames x; refine Keeps.cutFst P s₀ x ?_ fun hx => ?_; (on_goal 2 => clear_value x); revert x; change Keeps _ _ _)
      | (extract_lets +onlyGivenNames x; refine Keeps.cutMid P s₀ x ?_ fun hx => ?_; (on_goal 2 => clear_value x); revert x; change Keeps _ _ _)
      | (extract_lets +onlyGivenNames x; refine Keeps.cutSnd P s₀ x ?_ fun hx => ?_; (on_goal 2 => clear_value x); revert x; change Keeps _ _ _)
      | (extract_lets +onlyGivenNames x; clear_value x)
      | with_reducible apply State.setSh_keeps
      | with_reducible apply State.shtSkip_keeps
      | with_reducible apply State.aimPulse_keeps
      | with_reducible apply State.aimGate_keeps
      | split
      | refine Keeps.ofFst (by assumption) ?_
      | refine Keeps.ofSnd (by assumption) ?_
      | refine Keeps.ofMid (by assumption) ?_
      | apply ih)

/-- Changes at most: fresh, regs, ticks, reports, shuttles, seqTok, banks, cmps. -/
theorem State.serve_keeps {P : Nat} {s₀ : State} (s : State) (n : ℕ)
    (hP : 14495526930 &&& P = 14495526930) (h : Keeps P s₀ s) :
    Keeps P s₀ (State.serve s n) := by
  unfold State.serve
  repeat' (first
    | with_reducible assumption
    | exact Mask.sub hP (by decide)
    | with_reducible apply State.shtShow_keeps
    | with_reducible apply State.shtServe_keeps)

/-- Changes at most: regs, ticks, reports, shuttles. -/
theorem State.beginWindow_keeps {P : Nat} {s₀ : State} (s : State) (n : ℕ)
    (hP : 536883216 &&& P = 536883216) (h : Keeps P s₀ s) :
    Keeps P s₀ (State.beginWindow s n) := by
  unfold State.beginWindow
  repeat' (first
    | with_reducible assumption
    | exact Mask.sub hP (by decide)
    | (extract_lets +onlyGivenNames x; refine Keeps.cut P s₀ x ?_ fun hx => ?_; (on_goal 2 => clear_value x); revert x; change Keeps _ _ _)
    | (extract_lets +onlyGivenNames x; clear_value x)
    | (extract_lets +onlyGivenNames x)
    | with_reducible apply State.set_keeps
    | with_reducible apply State.inc_keeps
    | with_reducible apply State.incMod_keeps
    | with_reducible apply State.setSh_keeps
    | with_reducible apply State.copyPage_keeps
    | with_reducible apply State.cancelRest_keeps
    | split)

/-- Changes at most: banks, cmps. -/
theorem State.withdraw_keeps {P : Nat} {s₀ : State} (s : State) (n : ℕ)
    (hP : 12884901888 &&& P = 12884901888) (h : Keeps P s₀ s) :
    Keeps P s₀ (State.withdraw s n) := by
  unfold State.withdraw
  repeat' (first
    | with_reducible assumption
    | exact Mask.sub hP (by decide)
    | (extract_lets +onlyGivenNames x; refine Keeps.cut P s₀ x ?_ fun hx => ?_; (on_goal 2 => clear_value x); revert x; change Keeps _ _ _)
    | (extract_lets +onlyGivenNames x; clear_value x)
    | with_reducible apply State.setBk_keeps
    | with_reducible apply Keeps.foldl
    | (intro _ _ _))

/-- Changes at most: regs, ticks, reports, shuttles, seqTok, banks, cmps, dmaTrigs. -/
theorem State.endWindow_keeps {P : Nat} {s₀ : State} (s : State) (n : ℕ) (all : Bool)
    (hP : 576460766798950416 &&& P = 576460766798950416) (h : Keeps P s₀ s) :
    Keeps P s₀ (State.endWindow s n all) := by
  unfold State.endWindow
  repeat' (first
    | with_reducible assumption
    | exact Mask.sub hP (by decide)
    | (extract_lets +onlyGivenNames x; refine Keeps.cut P s₀ x ?_ fun hx => ?_; (on_goal 2 => clear_value x); revert x; change Keeps _ _ _)
    | (extract_lets +onlyGivenNames x; clear_value x)
    | with_reducible apply State.setSh_keeps
    | with_reducible apply State.shtSkip_keeps
    | with_reducible apply State.cancelRest_keeps
    | with_reducible apply State.closeGate_keeps
    | with_reducible apply State.withdraw_keeps
    | split)

/-- Changes at most: regs, ticks, shuttles. -/
theorem State.aimStop_keeps {P : Nat} {s₀ : State} (s : State) (n : ℕ) (u : Update)
    (hP : 536875024 &&& P = 536875024) (h : Keeps P s₀ s) :
    Keeps P s₀ (State.aimStop s n u) := by
  unfold State.aimStop
  repeat' (first
    | with_reducible assumption
    | exact Mask.sub hP (by decide)
    | (extract_lets +onlyGivenNames x; refine Keeps.cut P s₀ x ?_ fun hx => ?_; (on_goal 2 => clear_value x); revert x; change Keeps _ _ _)
    | (extract_lets +onlyGivenNames x; clear_value x)
    | with_reducible apply State.inc_keeps
    | with_reducible apply State.setSh_keeps
    | split)

/-- Changes at most: regs, shuttles. -/
theorem State.commitStop_keeps {P : Nat} {s₀ : State} (s : State) (n : ℕ) (p : Pulse)
    (hP : 536870928 &&& P = 536870928) (h : Keeps P s₀ s) :
    Keeps P s₀ (State.commitStop s n p) := by
  unfold State.commitStop
  repeat' (first
    | with_reducible assumption
    | exact Mask.sub hP (by decide)
    | (extract_lets +onlyGivenNames x; refine Keeps.cut P s₀ x ?_ fun hx => ?_; (on_goal 2 => clear_value x); revert x; change Keeps _ _ _)
    | (extract_lets +onlyGivenNames x; clear_value x)
    | with_reducible apply State.setI_keeps
    | with_reducible apply State.setSh_keeps)

/-- Changes at most: regs, reports, warps, learn, shuttles. -/
theorem State.pulseStarted_keeps {P : Nat} {s₀ : State} (s : State) (n : ℕ) (i : ℕ) (t : Word)
    (hP : 547364880 &&& P = 547364880) (h : Keeps P s₀ s) :
    Keeps P s₀ (State.pulseStarted s n i t) := by
  unfold State.pulseStarted
  repeat' (first
    | with_reducible assumption
    | exact Mask.sub hP (by decide)
    | (extract_lets +onlyGivenNames x; refine Keeps.cut P s₀ x ?_ fun hx => ?_; (on_goal 2 => clear_value x); revert x; change Keeps _ _ _)
    | (extract_lets +onlyGivenNames x; clear_value x)
    | with_reducible apply State.periodRise_keeps
    | with_reducible apply State.setReg_keeps
    | with_reducible apply State.set_keeps
    | with_reducible apply State.report_keeps
    | with_reducible apply State.fuelStarted_keeps
    | with_reducible apply State.setSh_keeps
    | with_reducible apply State.shtShow_keeps
    | split)

/-- Changes at most: regs, ticks, shuttles. -/
theorem State.pulsePostponed_keeps {P : Nat} {s₀ : State} (s : State) (n : ℕ) (i : ℕ) (t : Word)
    (hP : 536875024 &&& P = 536875024) (h : Keeps P s₀ s) :
    Keeps P s₀ (State.pulsePostponed s n i t) := by
  unfold State.pulsePostponed
  repeat' (first
    | with_reducible assumption
    | exact Mask.sub hP (by decide)
    | (extract_lets +onlyGivenNames x; refine Keeps.cut P s₀ x ?_ fun hx => ?_; (on_goal 2 => clear_value x); revert x; change Keeps _ _ _)
    | (extract_lets +onlyGivenNames x; clear_value x)
    | with_reducible apply State.inc_keeps
    | with_reducible apply State.setSh_keeps
    | with_reducible apply State.shtShow_keeps
    | split)

/-- Changes at most: fresh, regs, ticks, reports, shuttles, seqTok, banks, cmps. -/
theorem State.pulseOver_keeps {P : Nat} {s₀ : State} (s : State) (n : ℕ)
    (hP : 14495526930 &&& P = 14495526930) (h : Keeps P s₀ s) :
    Keeps P s₀ (State.pulseOver s n) := by
  unfold State.pulseOver
  repeat' (first
    | with_reducible assumption
    | exact Mask.sub hP (by decide)
    | (extract_lets +onlyGivenNames x; refine Keeps.cut P s₀ x ?_ fun hx => ?_; (on_goal 2 => clear_value x); revert x; change Keeps _ _ _)
    | (extract_lets +onlyGivenNames x; clear_value x)
    | with_reducible apply State.setSh_keeps
    | with_reducible apply State.serve_keeps)

/-- Changes at most: fresh, regs, ticks, reports, shuttles, seqTok, banks, cmps. -/
theorem State.pulseDropped_keeps {P : Nat} {s₀ : State} (s : State) (n : ℕ) (i : ℕ)
    (hP : 14495526930 &&& P = 14495526930) (h : Keeps P s₀ s) :
    Keeps P s₀ (State.pulseDropped s n i) := by
  unfold State.pulseDropped
  repeat' (first
    | with_reducible assumption
    | exact Mask.sub hP (by decide)
    | with_reducible apply State.pulseOver_keeps
    | split)

/-- Changes at most: fresh, regs, ticks, reports, shuttles, seqTok, banks, cmps. -/
theorem State.pulseCancelled_keeps {P : Nat} {s₀ : State} (s : State) (n : ℕ) (i : ℕ) (cause : ℕ)
    (hP : 14495526930 &&& P = 14495526930) (h : Keeps P s₀ s) :
    Keeps P s₀ (State.pulseCancelled s n i cause) := by
  unfold State.pulseCancelled
  repeat' (first
    | with_reducible assumption
    | exact Mask.sub hP (by decide)
    | with_reducible apply State.shtSkip_keeps
    | with_reducible apply State.pulseOver_keeps
    | split)

/-- Changes at most: fresh, regs, ticks, reports, shuttles, seqTok, banks, cmps. -/
theorem State.pulseCut_keeps {P : Nat} {s₀ : State} (s : State) (n : ℕ) (i : ℕ)
    (hP : 14495526930 &&& P = 14495526930) (h : Keeps P s₀ s) :
    Keeps P s₀ (State.pulseCut s n i) := by
  unfold State.pulseCut
  repeat' (first
    | with_reducible assumption
    | exact Mask.sub hP (by decide)
    | with_reducible apply State.shtSkip_keeps
    | with_reducible apply State.pulseOver_keeps
    | split)

/-- Changes at most: shuttles. -/
theorem State.aimGateEdges_keeps {P : Nat} {s₀ : State} (s : State) (n : ℕ) (u : Update)
    (hP : 536870912 &&& P = 536870912) (h : Keeps P s₀ s) :
    Keeps P s₀ (State.aimGateEdges s n u) := by
  unfold State.aimGateEdges
  repeat' (first
    | with_reducible assumption
    | exact Mask.sub hP (by decide)
    | (extract_lets +onlyGivenNames x; refine Keeps.cut P s₀ x ?_ fun hx => ?_; (on_goal 2 => clear_value x); revert x; change Keeps _ _ _)
    | (extract_lets +onlyGivenNames x; clear_value x)
    | with_reducible apply State.planClose_keeps
    | with_reducible apply State.planTick_keeps
    | split)

/-- Changes at most: fresh, regs, ticks, reports, shuttles, seqTok, banks, cmps, dmaTrigs. -/
theorem State.shtUpdate_keeps {P : Nat} {s₀ : State} (s : State) (n : ℕ) (u : Update)
    (hP : 576460766798950418 &&& P = 576460766798950418) (h : Keeps P s₀ s) :
    Keeps P s₀ (State.shtUpdate s n u) := by
  unfold State.shtUpdate
  repeat' (first
    | with_reducible assumption
    | exact Mask.sub hP (by decide)
    | (extract_lets +onlyGivenNames x; refine Keeps.cut P s₀ x ?_ fun hx => ?_; (on_goal 2 => clear_value x); revert x; change Keeps _ _ _)
    | (extract_lets +onlyGivenNames x; clear_value x)
    | with_reducible apply State.setSh_keeps
    | with_reducible apply State.serve_keeps
    | with_reducible apply State.beginWindow_keeps
    | with_reducible apply State.endWindow_keeps
    | with_reducible apply State.aimStop_keeps
    | with_reducible apply State.aimGateEdges_keeps
    | split)

/-- Changes at most: now, fresh, regs, ticks, reports, shuttles, seqTok, banks, cmps, dmaTrigs. -/
theorem execShuttleToothUpdate_keeps {P : Nat} {s₀ : State} (t : Word) (n : Fin 64) (s : State)
    (hP : 576460766798950419 &&& P = 576460766798950419) (h : Keeps P s₀ s) :
    OutKeeps P s₀ (execShuttleToothUpdate t n s) := by
  unfold execShuttleToothUpdate
  repeat' (first
    | with_reducible assumption
    | exact Mask.sub hP (by decide)
    | (extract_lets +onlyGivenNames x; refine Keeps.cut P s₀ x ?_ fun hx => ?_; (on_goal 2 => clear_value x); revert x; change Keeps _ _ _)
    | (extract_lets +onlyGivenNames x; clear_value x)
    | with_reducible apply OutKeeps.next
    | with_reducible apply State.latency_keeps
    | with_reducible apply State.at_keeps
    | with_reducible apply State.shtUpdate_keeps
    | split)

/-- Changes at most: now, fresh, regs, ticks, reports, shuttles, seqTok, banks, cmps. -/
theorem execStartCommit_keeps {P : Nat} {s₀ : State} (t : Word) (n : Fin 64) (s : State)
    (hP : 14495526931 &&& P = 14495526931) (h : Keeps P s₀ s) :
    OutKeeps P s₀ (execStartCommit t n s) := by
  unfold execStartCommit
  repeat' (first
    | with_reducible assumption
    | exact Mask.sub hP (by decide)
    | (extract_lets +onlyGivenNames x; refine Keeps.cut P s₀ x ?_ fun hx => ?_; (on_goal 2 => clear_value x); revert x; change Keeps _ _ _)
    | (extract_lets +onlyGivenNames x; refine Keeps.cutFst P s₀ x ?_ fun hx => ?_; (on_goal 2 => clear_value x); revert x; change Keeps _ _ _)
    | (extract_lets +onlyGivenNames x; refine Keeps.cutMid P s₀ x ?_ fun hx => ?_; (on_goal 2 => clear_value x); revert x; change Keeps _ _ _)
    | (extract_lets +onlyGivenNames x; refine Keeps.cutSnd P s₀ x ?_ fun hx => ?_; (on_goal 2 => clear_value x); revert x; change Keeps _ _ _)
    | (extract_lets +onlyGivenNames x; clear_value x)
    | (extract_lets +onlyGivenNames x)
    | with_reducible apply OutKeeps.next
    | with_reducible apply State.at_keeps
    | with_reducible apply State.setSh_keeps
    | with_reducible apply State.shtShow_keeps
    | with_reducible apply State.commitStart_keeps
    | with_reducible apply State.serve_keeps
    | split
    | refine Keeps.ofFst (by assumption) ?_
    | refine Keeps.ofSnd (by assumption) ?_
    | refine Keeps.ofMid (by assumption) ?_)

/-- Changes at most: now, regs, shuttles. -/
theorem execStopCommit_keeps {P : Nat} {s₀ : State} (t : Word) (n : Fin 64) (s : State)
    (hP : 536870929 &&& P = 536870929) (h : Keeps P s₀ s) :
    OutKeeps P s₀ (execStopCommit t n s) := by
  unfold execStopCommit
  repeat' (first
    | with_reducible assumption
    | exact Mask.sub hP (by decide)
    | (extract_lets +onlyGivenNames x; refine Keeps.cut P s₀ x ?_ fun hx => ?_; (on_goal 2 => clear_value x); revert x; change Keeps _ _ _)
    | (extract_lets +onlyGivenNames x; clear_value x)
    | (extract_lets +onlyGivenNames x)
    | with_reducible apply OutKeeps.next
    | with_reducible apply State.at_keeps
    | with_reducible apply State.commitStop_keeps
    | split)

/-- Changes at most: now, fresh, regs, ticks, reports, shuttles, seqTok, banks, cmps. -/
theorem execGateOpenCommit_keeps {P : Nat} {s₀ : State} (t : Word) (n : Fin 64) (s : State)
    (hP : 14495526931 &&& P = 14495526931) (h : Keeps P s₀ s) :
    OutKeeps P s₀ (execGateOpenCommit t n s) := by
  unfold execGateOpenCommit
  repeat' (first
    | with_reducible assumption
    | exact Mask.sub hP (by decide)
    | (extract_lets +onlyGivenNames x; refine Keeps.cut P s₀ x ?_ fun hx => ?_; (on_goal 2 => clear_value x); revert x; change Keeps _ _ _)
    | (extract_lets +onlyGivenNames x; refine Keeps.cutFst P s₀ x ?_ fun hx => ?_; (on_goal 2 => clear_value x); revert x; change Keeps _ _ _)
    | (extract_lets +onlyGivenNames x; refine Keeps.cutMid P s₀ x ?_ fun hx => ?_; (on_goal 2 => clear_value x); revert x; change Keeps _ _ _)
    | (extract_lets +onlyGivenNames x; refine Keeps.cutSnd P s₀ x ?_ fun hx => ?_; (on_goal 2 => clear_value x); revert x; change Keeps _ _ _)
    | (extract_lets +onlyGivenNames x; clear_value x)
    | (extract_lets +onlyGivenNames x)
    | with_reducible apply OutKeeps.next
    | with_reducible apply State.at_keeps
    | with_reducible apply State.setSh_keeps
    | with_reducible apply State.shtShow_keeps
    | with_reducible apply State.commitGate_keeps
    | with_reducible apply State.serve_keeps
    | split
    | refine Keeps.ofFst (by assumption) ?_
    | refine Keeps.ofSnd (by assumption) ?_
    | refine Keeps.ofMid (by assumption) ?_)

/-- Changes at most: now, regs, ticks, reports, shuttles, seqTok. -/
theorem execGateOpen_keeps {P : Nat} {s₀ : State} (t : Word) (n : Fin 64) (s : State)
    (hP : 1610625041 &&& P = 1610625041) (h : Keeps P s₀ s) :
    OutKeeps P s₀ (execGateOpen t n s) := by
  unfold execGateOpen
  repeat' (first
    | with_reducible assumption
    | exact Mask.sub hP (by decide)
    | (extract_lets +onlyGivenNames x; refine Keeps.cut P s₀ x ?_ fun hx => ?_; (on_goal 2 => clear_value x); revert x; change Keeps _ _ _)
    | (extract_lets +onlyGivenNames x; clear_value x)
    | (extract_lets +onlyGivenNames x)
    | with_reducible apply OutKeeps.next
    | with_reducible apply State.at_keeps
    | with_reducible apply State.shtShow_keeps
    | with_reducible apply State.openGate_keeps
    | split)

/-- Changes at most: now, regs, shuttles. -/
theorem execGateCloseCommit_keeps {P : Nat} {s₀ : State} (t : Word) (n : Fin 64) (s : State)
    (hP : 536870929 &&& P = 536870929) (h : Keeps P s₀ s) :
    OutKeeps P s₀ (execGateCloseCommit t n s) := by
  unfold execGateCloseCommit
  repeat' (first
    | with_reducible assumption
    | exact Mask.sub hP (by decide)
    | (extract_lets +onlyGivenNames x; refine Keeps.cut P s₀ x ?_ fun hx => ?_; (on_goal 2 => clear_value x); revert x; change Keeps _ _ _)
    | (extract_lets +onlyGivenNames x; clear_value x)
    | (extract_lets +onlyGivenNames x)
    | with_reducible apply OutKeeps.next
    | with_reducible apply State.at_keeps
    | with_reducible apply State.setSh_keeps
    | with_reducible apply State.shtShow_keeps
    | split)

/-- Changes at most: now, fresh, regs, ticks, reports, shuttles, seqTok, banks, cmps, dmaTrigs. -/
theorem execGateClose_keeps {P : Nat} {s₀ : State} (t : Word) (n : Fin 64) (s : State)
    (hP : 576460766798950419 &&& P = 576460766798950419) (h : Keeps P s₀ s) :
    OutKeeps P s₀ (execGateClose t n s) := by
  unfold execGateClose
  repeat' (first
    | with_reducible assumption
    | exact Mask.sub hP (by decide)
    | (extract_lets +onlyGivenNames x; refine Keeps.cut P s₀ x ?_ fun hx => ?_; (on_goal 2 => clear_value x); revert x; change Keeps _ _ _)
    | (extract_lets +onlyGivenNames x; clear_value x)
    | (extract_lets +onlyGivenNames x)
    | with_reducible apply OutKeeps.next
    | with_reducible apply State.at_keeps
    | with_reducible apply State.closeGate_keeps
    | with_reducible apply State.serve_keeps
    | split)

/-- Changes at most: now, regs, shuttles. -/
theorem execGridTickCommit_keeps {P : Nat} {s₀ : State} (t : Word) (n : Fin 64) (s : State)
    (hP : 536870929 &&& P = 536870929) (h : Keeps P s₀ s) :
    OutKeeps P s₀ (execGridTickCommit t n s) := by
  unfold execGridTickCommit
  repeat' (first
    | with_reducible assumption
    | exact Mask.sub hP (by decide)
    | (extract_lets +onlyGivenNames x; refine Keeps.cut P s₀ x ?_ fun hx => ?_; (on_goal 2 => clear_value x); revert x; change Keeps _ _ _)
    | (extract_lets +onlyGivenNames x; clear_value x)
    | (extract_lets +onlyGivenNames x)
    | with_reducible apply OutKeeps.next
    | with_reducible apply State.at_keeps
    | with_reducible apply State.setSh_keeps
    | with_reducible apply State.shtShow_keeps
    | split)

/-- Changes at most: now, regs, ticks, shuttles, seqTok. -/
theorem execGridTick_keeps {P : Nat} {s₀ : State} (t : Word) (n : Fin 64) (s : State)
    (hP : 1610616849 &&& P = 1610616849) (h : Keeps P s₀ s) :
    OutKeeps P s₀ (execGridTick t n s) := by
  unfold execGridTick
  repeat' (first
    | with_reducible assumption
    | exact Mask.sub hP (by decide)
    | (extract_lets +onlyGivenNames x; refine Keeps.cut P s₀ x ?_ fun hx => ?_; (on_goal 2 => clear_value x); revert x; change Keeps _ _ _)
    | (extract_lets +onlyGivenNames x; clear_value x)
    | (extract_lets +onlyGivenNames x)
    | with_reducible apply OutKeeps.next
    | with_reducible apply State.inc_keeps
    | with_reducible apply State.at_keeps
    | with_reducible apply State.setSh_keeps
    | with_reducible apply State.shtShow_keeps
    | with_reducible apply State.sendTok_keeps
    | with_reducible apply State.planTick_keeps
    | split)

/-- Changes at most: regs, ticks, reports, shuttles, seqTok, banks, cmps, dmaTrigs. -/
theorem State.shtSyncLost_keeps {P : Nat} {s₀ : State} (s : State) (n : ℕ)
    (hP : 576460766798950416 &&& P = 576460766798950416) (h : Keeps P s₀ s) :
    Keeps P s₀ (State.shtSyncLost s n) := by
  unfold State.shtSyncLost
  repeat' (first
    | with_reducible assumption
    | exact Mask.sub hP (by decide)
    | (extract_lets +onlyGivenNames x; refine Keeps.cut P s₀ x ?_ fun hx => ?_; (on_goal 2 => clear_value x); revert x; change Keeps _ _ _)
    | (extract_lets +onlyGivenNames x; clear_value x)
    | with_reducible apply State.setSh_keeps
    | with_reducible apply State.shtShow_keeps
    | with_reducible apply State.endWindow_keeps
    | split)

/-- Changes at most: regs, ticks, reports, shuttles, seqTok, banks, cmps, dmaTrigs. -/
theorem State.shtLoseAll_keeps {P : Nat} {s₀ : State} (s : State) (n : ℕ)
    (hP : 576460766798950416 &&& P = 576460766798950416) (h : Keeps P s₀ s) :
    Keeps P s₀ (State.shtLoseAll s n) := by
  unfold State.shtLoseAll
  repeat' (first
    | with_reducible assumption
    | exact Mask.sub hP (by decide)
    | (extract_lets +onlyGivenNames x; refine Keeps.cut P s₀ x ?_ fun hx => ?_; (on_goal 2 => clear_value x); revert x; change Keeps _ _ _)
    | (extract_lets +onlyGivenNames x; clear_value x)
    | with_reducible apply State.setSh_keeps
    | with_reducible apply State.shtShow_keeps
    | with_reducible apply State.endWindow_keeps)

/-- Changes at most: now, regs, ticks, reports, shTok, shuttles, seqTok, banks, cmps, dmaTrigs. -/
theorem execSyncLost_keeps {P : Nat} {s₀ : State} (t : Word) (n : Fin 64) (s : State)
    (hP : 576460766815727633 &&& P = 576460766815727633) (h : Keeps P s₀ s) :
    OutKeeps P s₀ (execSyncLost t n s) := by
  unfold execSyncLost
  repeat' (first
    | with_reducible assumption
    | exact Mask.sub hP (by decide)
    | (extract_lets +onlyGivenNames x; refine Keeps.cut P s₀ x ?_ fun hx => ?_; (on_goal 2 => clear_value x); revert x; change Keeps _ _ _)
    | (extract_lets +onlyGivenNames x; clear_value x)
    | with_reducible apply OutKeeps.next
    | with_reducible apply State.at_keeps
    | with_reducible apply State.shtSyncLost_keeps
    | split
    | with_reducible apply Keeps.upd_shTok)

/-- Changes at most: regs, shuttles. -/
theorem State.shtEnable_keeps {P : Nat} {s₀ : State} (s : State) (n : ℕ)
    (hP : 536870928 &&& P = 536870928) (h : Keeps P s₀ s) :
    Keeps P s₀ (State.shtEnable s n) := by
  unfold State.shtEnable
  repeat' (first
    | with_reducible assumption
    | exact Mask.sub hP (by decide)
    | (extract_lets +onlyGivenNames x; refine Keeps.cut P s₀ x ?_ fun hx => ?_; (on_goal 2 => clear_value x); revert x; change Keeps _ _ _)
    | (extract_lets +onlyGivenNames x; clear_value x)
    | with_reducible apply State.set_keeps
    | with_reducible apply State.setSh_keeps
    | with_reducible apply State.shtShow_keeps
    | split)

/-- Changes at most: regs, ticks, reports, shuttles, seqTok, banks, cmps, dmaTrigs. -/
theorem State.shtDisable_keeps {P : Nat} {s₀ : State} (s : State) (n : ℕ)
    (hP : 576460766798950416 &&& P = 576460766798950416) (h : Keeps P s₀ s) :
    Keeps P s₀ (State.shtDisable s n) := by
  unfold State.shtDisable
  repeat' (first
    | with_reducible assumption
    | exact Mask.sub hP (by decide)
    | with_reducible apply State.set_keeps
    | with_reducible apply State.shtShow_keeps
    | with_reducible apply State.endWindow_keeps
    | split)

/-- Changes at most: now, regs, ticks, shuttles. -/
theorem execShtEnSet_keeps {P : Nat} {s₀ : State} (t : Word) (n : Fin 64) (s : State)
    (hP : 536875025 &&& P = 536875025) (h : Keeps P s₀ s) :
    OutKeeps P s₀ (execShtEnSet t n s) := by
  unfold execShtEnSet
  repeat' (first
    | with_reducible assumption
    | exact Mask.sub hP (by decide)
    | (extract_lets +onlyGivenNames x; refine Keeps.cut P s₀ x ?_ fun hx => ?_; (on_goal 2 => clear_value x); revert x; change Keeps _ _ _)
    | (extract_lets +onlyGivenNames x; clear_value x)
    | with_reducible apply OutKeeps.next
    | with_reducible apply State.wrej_keeps
    | with_reducible apply State.at_keeps
    | with_reducible apply State.shtEnable_keeps
    | split)

/-- Changes at most: now, regs, ticks, reports, shuttles, seqTok, banks, cmps, dmaTrigs. -/
theorem execShtEnClear_keeps {P : Nat} {s₀ : State} (t : Word) (n : Fin 64) (s : State)
    (hP : 576460766798950417 &&& P = 576460766798950417) (h : Keeps P s₀ s) :
    OutKeeps P s₀ (execShtEnClear t n s) := by
  unfold execShtEnClear
  repeat' (first
    | with_reducible assumption
    | exact Mask.sub hP (by decide)
    | (extract_lets +onlyGivenNames x; refine Keeps.cut P s₀ x ?_ fun hx => ?_; (on_goal 2 => clear_value x); revert x; change Keeps _ _ _)
    | (extract_lets +onlyGivenNames x; clear_value x)
    | with_reducible apply OutKeeps.next
    | with_reducible apply State.wrej_keeps
    | with_reducible apply State.at_keeps
    | with_reducible apply State.shtDisable_keeps
    | split)

/-- Changes at most: regs, shuttles. -/
theorem State.shtOffer_keeps {P : Nat} {s₀ : State} (s : State) (n : ℕ)
    (hP : 536870928 &&& P = 536870928) (h : Keeps P s₀ s) :
    Keeps P s₀ (State.shtOffer s n) := by
  unfold State.shtOffer
  repeat' (first
    | with_reducible assumption
    | exact Mask.sub hP (by decide)
    | (extract_lets +onlyGivenNames x; refine Keeps.cut P s₀ x ?_ fun hx => ?_; (on_goal 2 => clear_value x); revert x; change Keeps _ _ _)
    | (extract_lets +onlyGivenNames x; clear_value x)
    | with_reducible apply State.set_keeps
    | with_reducible apply State.setSh_keeps
    | split)

/-- Changes at most: now, regs, ticks, shuttles. -/
theorem execShtReadySet_keeps {P : Nat} {s₀ : State} (t : Word) (n : Fin 64) (service : Bool) (s : State)
    (hP : 536875025 &&& P = 536875025) (h : Keeps P s₀ s) :
    OutKeeps P s₀ (execShtReadySet t n service s) := by
  unfold execShtReadySet
  repeat' (first
    | with_reducible assumption
    | exact Mask.sub hP (by decide)
    | (extract_lets +onlyGivenNames x; refine Keeps.cut P s₀ x ?_ fun hx => ?_; (on_goal 2 => clear_value x); revert x; change Keeps _ _ _)
    | (extract_lets +onlyGivenNames x; clear_value x)
    | with_reducible apply OutKeeps.next
    | with_reducible apply State.wrej_keeps
    | with_reducible apply State.at_keeps
    | with_reducible apply State.shtOffer_keeps
    | split)

/-- Changes at most: regs. -/
theorem State.shtClear_keeps {P : Nat} {s₀ : State} (s : State) (n : ℕ)
    (hP : 16 &&& P = 16) (h : Keeps P s₀ s) :
    Keeps P s₀ (State.shtClear s n) := by
  unfold State.shtClear
  repeat' (first
    | with_reducible assumption
    | exact Mask.sub hP (by decide)
    | with_reducible apply State.clearCounts_keeps)

/-- Changes at most: now, regs, ticks. -/
theorem execShtCntClr_keeps {P : Nat} {s₀ : State} (t : Word) (n : Fin 64) (s : State)
    (hP : 4113 &&& P = 4113) (h : Keeps P s₀ s) :
    OutKeeps P s₀ (execShtCntClr t n s) := by
  unfold execShtCntClr
  repeat' (first
    | with_reducible assumption
    | exact Mask.sub hP (by decide)
    | (extract_lets +onlyGivenNames x; refine Keeps.cut P s₀ x ?_ fun hx => ?_; (on_goal 2 => clear_value x); revert x; change Keeps _ _ _)
    | (extract_lets +onlyGivenNames x; clear_value x)
    | with_reducible apply OutKeeps.next
    | with_reducible apply State.wrej_keeps
    | with_reducible apply State.at_keeps
    | with_reducible apply State.shtClear_keeps
    | split)

/-- Changes at most: pulseOuts. -/
theorem State.setPo_keeps {P : Nat} {s₀ : State} (s : State) (p : ℕ) (k : PulseOut)
    (hP : 2147483648 &&& P = 2147483648) (h : Keeps P s₀ s) :
    Keeps P s₀ (State.setPo s p k) := by
  unfold State.setPo
  repeat' (first
    | with_reducible assumption
    | exact Mask.sub hP (by decide)
    | (extract_lets +onlyGivenNames x; refine Keeps.cut P s₀ x ?_ fun hx => ?_; (on_goal 2 => clear_value x); revert x; change Keeps _ _ _)
    | (extract_lets +onlyGivenNames x; clear_value x)
    | with_reducible apply Keeps.upd_pulseOuts)

/-- Changes at most: pulseOuts. -/
theorem State.planEdge_keeps {P : Nat} {s₀ : State} (s : State) (p : ℕ) (u : Update)
    (hP : 2147483648 &&& P = 2147483648) (h : Keeps P s₀ s) :
    Keeps P s₀ (State.planEdge s p u) := by
  unfold State.planEdge
  repeat' (first
    | with_reducible assumption
    | exact Mask.sub hP (by decide)
    | (extract_lets +onlyGivenNames x; refine Keeps.cut P s₀ x ?_ fun hx => ?_; (on_goal 2 => clear_value x); revert x; change Keeps _ _ _)
    | (extract_lets +onlyGivenNames x; clear_value x)
    | with_reducible apply State.setPo_keeps
    | split)

/-- Changes at most: pulseOuts. -/
theorem State.outStart_keeps {P : Nat} {s₀ : State} (s : State) (p : ℕ) (u : Update) (k : PulseOut)
    (hP : 2147483648 &&& P = 2147483648) (h : Keeps P s₀ s) :
    Keeps P s₀ (State.outStart s p u k) := by
  unfold State.outStart
  repeat' (first
    | with_reducible assumption
    | exact Mask.sub hP (by decide)
    | (extract_lets +onlyGivenNames x; refine Keeps.cut P s₀ x ?_ fun hx => ?_; (on_goal 2 => clear_value x); revert x; change Keeps _ _ _)
    | (extract_lets +onlyGivenNames x; clear_value x)
    | (extract_lets +onlyGivenNames x)
    | with_reducible apply State.setPo_keeps
    | with_reducible apply State.planEdge_keeps
    | split)

/-- Changes at most: pulseOuts. -/
theorem State.outUpdate_keeps {P : Nat} {s₀ : State} (s : State) (p : ℕ) (u : Update)
    (hP : 2147483648 &&& P = 2147483648) (h : Keeps P s₀ s) :
    Keeps P s₀ (State.outUpdate s p u) := by
  unfold State.outUpdate
  repeat' (first
    | with_reducible assumption
    | exact Mask.sub hP (by decide)
    | (extract_lets +onlyGivenNames x; refine Keeps.cut P s₀ x ?_ fun hx => ?_; (on_goal 2 => clear_value x); revert x; change Keeps _ _ _)
    | (extract_lets +onlyGivenNames x; clear_value x)
    | (extract_lets +onlyGivenNames x)
    | with_reducible apply State.setPo_keeps
    | with_reducible apply State.planEdge_keeps
    | with_reducible apply State.outStart_keeps
    | split)

/-- Changes at most: now, pulseOuts. -/
theorem execPulseOutputUpdate_keeps {P : Nat} {s₀ : State} (t : Word) (p : Fin 2) (s : State)
    (hP : 2147483649 &&& P = 2147483649) (h : Keeps P s₀ s) :
    OutKeeps P s₀ (execPulseOutputUpdate t p s) := by
  unfold execPulseOutputUpdate
  repeat' (first
    | with_reducible assumption
    | exact Mask.sub hP (by decide)
    | (extract_lets +onlyGivenNames x; refine Keeps.cut P s₀ x ?_ fun hx => ?_; (on_goal 2 => clear_value x); revert x; change Keeps _ _ _)
    | (extract_lets +onlyGivenNames x; clear_value x)
    | with_reducible apply OutKeeps.next
    | with_reducible apply State.at_keeps
    | with_reducible apply State.outUpdate_keeps
    | split)

/-- Changes at most: regs, ticks, pulseOuts. -/
theorem State.issueEdge_keeps {P : Nat} {s₀ : State} (s : State) (p : ℕ) (late : Fld)
    (hP : 2147487760 &&& P = 2147487760) (h : Keeps P s₀ s) :
    Keeps P s₀ (State.issueEdge s p late) := by
  unfold State.issueEdge
  repeat' (first
    | with_reducible assumption
    | exact Mask.sub hP (by decide)
    | (extract_lets +onlyGivenNames x; refine Keeps.cut P s₀ x ?_ fun hx => ?_; (on_goal 2 => clear_value x); revert x; change Keeps _ _ _)
    | (extract_lets +onlyGivenNames x; clear_value x)
    | with_reducible apply State.inc_keeps
    | with_reducible apply State.setPo_keeps
    | with_reducible apply State.planEdge_keeps
    | split)

/-- Changes at most: now, regs, ticks, pulseOuts. -/
theorem execPulseOutputEdge_keeps {P : Nat} {s₀ : State} (t : Word) (s : State)
    (hP : 2147487761 &&& P = 2147487761) (h : Keeps P s₀ s) :
    OutKeeps P s₀ (execPulseOutputEdge t s) := by
  unfold execPulseOutputEdge
  repeat' (first
    | with_reducible assumption
    | exact Mask.sub hP (by decide)
    | with_reducible apply OutKeeps.next
    | with_reducible apply State.at_keeps
    | with_reducible apply State.issueEdge_keeps)

/-- Changes at most: now, regs, ticks, pulseOuts. -/
theorem execTachEdge_keeps {P : Nat} {s₀ : State} (t : Word) (s : State)
    (hP : 2147487761 &&& P = 2147487761) (h : Keeps P s₀ s) :
    OutKeeps P s₀ (execTachEdge t s) := by
  unfold execTachEdge
  repeat' (first
    | with_reducible assumption
    | exact Mask.sub hP (by decide)
    | with_reducible apply OutKeeps.next
    | with_reducible apply State.at_keeps
    | with_reducible apply State.issueEdge_keeps)

/-- Changes at most: regs, shuttles. -/
theorem State.shtLoomStart_keeps {P : Nat} {s₀ : State} (s : State) (n : ℕ)
    (hP : 536870928 &&& P = 536870928) (h : Keeps P s₀ s) :
    Keeps P s₀ (State.shtLoomStart s n) := by
  unfold State.shtLoomStart
  repeat' (first
    | with_reducible assumption
    | exact Mask.sub hP (by decide)
    | (extract_lets +onlyGivenNames x; refine Keeps.cut P s₀ x ?_ fun hx => ?_; (on_goal 2 => clear_value x); revert x; change Keeps _ _ _)
    | (extract_lets +onlyGivenNames x; clear_value x)
    | with_reducible apply State.setSh_keeps
    | with_reducible apply State.shtShow_keeps)

end Sys2Proof.Machine
end

