-- ==== Sys2Proof/Laws/KeepsBank.lean ====
section
/-!
SUPPORT. What each operation of Machine/Bank.lean may change (Laws/Keeps.lean).
-/
set_option linter.unusedTactic false
set_option linter.unreachableTactic false
namespace Sys2Proof.Machine

/-- Changes at most: regs. -/
theorem State.bnkShow_keeps {P : Nat} {s₀ : State} (s : State) (b : ℕ)
    (hP : 16 &&& P = 16) (h : Keeps P s₀ s) :
    Keeps P s₀ (State.bnkShow s b) := by
  unfold State.bnkShow
  repeat' (first
    | with_reducible assumption
    | exact Mask.sub hP (by decide)
    | (extract_lets +onlyGivenNames x; refine Keeps.cut P s₀ x ?_ fun hx => ?_; (on_goal 2 => clear_value x); revert x; change Keeps _ _ _)
    | (extract_lets +onlyGivenNames x; clear_value x)
    | with_reducible apply State.set_keeps
    | with_reducible apply State.flag_keeps
    | with_reducible apply Keeps.foldl
    | split
    | (intro _ _ _))

/-- Changes at most: reports. -/
theorem State.bankEvent_keeps {P : Nat} {s₀ : State} (s : State) (b : ℕ) (cause : ℕ) (ch : ℕ) (code : ℕ) (t : Word)
    (hP : 8192 &&& P = 8192) (h : Keeps P s₀ s) :
    Keeps P s₀ (State.bankEvent s b cause ch code t) := by
  unfold State.bankEvent
  repeat' (first
    | with_reducible assumption
    | exact Mask.sub hP (by decide)
    | with_reducible apply State.report_keeps)

/-- Changes at most: regs, banks, cmps. -/
theorem State.drive_keeps {P : Nat} {s₀ : State} (s : State) (b : ℕ) (d : ℕ) (c : ℕ) (t : Word)
    (hP : 12884901904 &&& P = 12884901904) (h : Keeps P s₀ s) :
    Keeps P s₀ (State.drive s b d c t) := by
  unfold State.drive
  repeat' (first
    | with_reducible assumption
    | exact Mask.sub hP (by decide)
    | (extract_lets +onlyGivenNames x; refine Keeps.cut P s₀ x ?_ fun hx => ?_; (on_goal 2 => clear_value x); revert x; change Keeps _ _ _)
    | (extract_lets +onlyGivenNames x; clear_value x)
    | (extract_lets +onlyGivenNames x)
    | with_reducible apply State.setBk_keeps
    | with_reducible apply State.periodRise_keeps
    | split)

/-- Changes at most: regs. -/
theorem State.closureResult_keeps {P : Nat} {s₀ : State} (s : State) (b : ℕ) (c : ℕ) (flag : ℕ)
    (hP : 16 &&& P = 16) (h : Keeps P s₀ s) :
    Keeps P s₀ (State.closureResult s b c flag) := by
  unfold State.closureResult
  repeat' (first
    | with_reducible assumption
    | exact Mask.sub hP (by decide)
    | with_reducible apply State.set_keeps
    | with_reducible apply State.incMod_keeps)

/-- Changes at most: regs, banks, cmps. -/
theorem State.closeTail_keeps {P : Nat} {s₀ : State} (s : State) (b : ℕ) (flag : ℕ)
    (hP : 12884901904 &&& P = 12884901904) (h : Keeps P s₀ s) :
    Keeps P s₀ (State.closeTail s b flag) := by
  unfold State.closeTail
  repeat' (first
    | with_reducible assumption
    | exact Mask.sub hP (by decide)
    | (extract_lets +onlyGivenNames x; refine Keeps.cut P s₀ x ?_ fun hx => ?_; (on_goal 2 => clear_value x); revert x; change Keeps _ _ _)
    | (extract_lets +onlyGivenNames x; clear_value x)
    | with_reducible apply State.closureResult_keeps
    | with_reducible apply State.setBk_keeps
    | split)

/-- Changes at most: regs, banks, cmps. -/
theorem State.endTail_keeps {P : Nat} {s₀ : State} (s : State) (b : ℕ) (flag : ℕ)
    (hP : 12884901904 &&& P = 12884901904) (h : Keeps P s₀ s) :
    Keeps P s₀ (State.endTail s b flag) := by
  unfold State.endTail
  repeat' (first
    | with_reducible assumption
    | exact Mask.sub hP (by decide)
    | (extract_lets +onlyGivenNames x; refine Keeps.cut P s₀ x ?_ fun hx => ?_; (on_goal 2 => clear_value x); revert x; change Keeps _ _ _)
    | (extract_lets +onlyGivenNames x; clear_value x)
    | with_reducible apply State.drive_keeps
    | with_reducible apply State.closeTail_keeps
    | split)

/-- Changes at most: banks, cmps. -/
theorem State.unqueue_keeps {P : Nat} {s₀ : State} (s : State) (b : ℕ) (r : Request)
    (hP : 12884901888 &&& P = 12884901888) (h : Keeps P s₀ s) :
    Keeps P s₀ (State.unqueue s b r) := by
  unfold State.unqueue
  repeat' (first
    | with_reducible assumption
    | exact Mask.sub hP (by decide)
    | (extract_lets +onlyGivenNames x; refine Keeps.cut P s₀ x ?_ fun hx => ?_; (on_goal 2 => clear_value x); revert x; change Keeps _ _ _)
    | (extract_lets +onlyGivenNames x; clear_value x)
    | with_reducible apply State.setBk_keeps)

/-- Changes at most: banks, cmps. -/
theorem State.requeue_keeps {P : Nat} {s₀ : State} (s : State) (b : ℕ) (r : Request) (r' : Request)
    (hP : 12884901888 &&& P = 12884901888) (h : Keeps P s₀ s) :
    Keeps P s₀ (State.requeue s b r r') := by
  unfold State.requeue
  repeat' (first
    | with_reducible assumption
    | exact Mask.sub hP (by decide)
    | (extract_lets +onlyGivenNames x; refine Keeps.cut P s₀ x ?_ fun hx => ?_; (on_goal 2 => clear_value x); revert x; change Keeps _ _ _)
    | (extract_lets +onlyGivenNames x; clear_value x)
    | with_reducible apply State.setBk_keeps
    | split)

/-- Changes at most: fresh, regs, ticks, reports, acc, shuttles, seqTok, banks, cmps. -/
theorem State.drop_keeps {P : Nat} {s₀ : State} (s : State) (b : ℕ) (r : Request) (cause : ℕ)
    (hP : 14763962386 &&& P = 14763962386) (h : Keeps P s₀ s) :
    Keeps P s₀ (State.drop s b r cause) := by
  unfold State.drop
  repeat' (first
    | with_reducible assumption
    | exact Mask.sub hP (by decide)
    | (extract_lets +onlyGivenNames x; refine Keeps.cut P s₀ x ?_ fun hx => ?_; (on_goal 2 => clear_value x); revert x; change Keeps _ _ _)
    | (extract_lets +onlyGivenNames x; clear_value x)
    | with_reducible apply State.bankEvent_keeps
    | with_reducible apply State.unqueue_keeps
    | with_reducible apply State.stick_keeps
    | with_reducible apply State.inc_keeps
    | with_reducible apply State.counterBank_keeps
    | with_reducible apply State.pulseDropped_keeps)

/-- Changes at most: fresh, regs, ticks, reports, shuttles, seqTok, banks, cmps. -/
theorem State.cancelRequest_keeps {P : Nat} {s₀ : State} (s : State) (b : ℕ) (r : Request)
    (hP : 14495526930 &&& P = 14495526930) (h : Keeps P s₀ s) :
    Keeps P s₀ (State.cancelRequest s b r) := by
  unfold State.cancelRequest
  repeat' (first
    | with_reducible assumption
    | exact Mask.sub hP (by decide)
    | with_reducible apply State.unqueue_keeps
    | with_reducible apply State.pulseCancelled_keeps)

/-- Changes at most: fresh, regs, ticks, reports, shuttles, seqTok, banks, cmps. -/
theorem State.postpone_keeps {P : Nat} {s₀ : State} (s : State) (b : ℕ) (r : Request) (m : Word)
    (hP : 14495526930 &&& P = 14495526930) (h : Keeps P s₀ s) :
    Keeps P s₀ (State.postpone s b r m) := by
  unfold State.postpone
  repeat' (first
    | with_reducible assumption
    | exact Mask.sub hP (by decide)
    | (extract_lets +onlyGivenNames x; refine Keeps.cut P s₀ x ?_ fun hx => ?_; (on_goal 2 => clear_value x); revert x; change Keeps _ _ _)
    | (extract_lets +onlyGivenNames x; clear_value x)
    | with_reducible apply State.unqueue_keeps
    | with_reducible apply State.requeue_keeps
    | with_reducible apply State.pulsePostponed_keeps
    | with_reducible apply State.pulseCancelled_keeps
    | split)

/-- Changes at most: banks, cmps. -/
theorem State.contWindow_keeps {P : Nat} {s₀ : State} (s : State) (b : ℕ)
    (hP : 12884901888 &&& P = 12884901888) (h : Keeps P s₀ s) :
    Keeps P s₀ (State.contWindow s b) := by
  unfold State.contWindow
  repeat' (first
    | with_reducible assumption
    | exact Mask.sub hP (by decide)
    | (extract_lets +onlyGivenNames x; refine Keeps.cut P s₀ x ?_ fun hx => ?_; (on_goal 2 => clear_value x); revert x; change Keeps _ _ _)
    | (extract_lets +onlyGivenNames x; clear_value x)
    | (extract_lets +onlyGivenNames x)
    | with_reducible apply State.setBk_keeps
    | split)

/-- Changes at most: regs, banks, cmps. -/
theorem State.vbatMark_keeps {P : Nat} {s₀ : State} (s : State) (vbat : ℕ)
    (hP : 12884901904 &&& P = 12884901904) (h : Keeps P s₀ s) :
    Keeps P s₀ (State.vbatMark s vbat) := by
  unfold State.vbatMark
  repeat' (first
    | with_reducible assumption
    | exact Mask.sub hP (by decide)
    | (extract_lets +onlyGivenNames x; refine Keeps.cut P s₀ x ?_ fun hx => ?_; (on_goal 2 => clear_value x); revert x; change Keeps _ _ _)
    | (extract_lets +onlyGivenNames x; clear_value x)
    | with_reducible apply State.contWindow_keeps
    | with_reducible apply State.setBk_keeps
    | with_reducible apply State.set_keeps
    | with_reducible apply Keeps.foldl
    | split
    | (intro _ _ _))

/-- Changes at most: banks, cmps. -/
theorem State.chopIssue_keeps {P : Nat} {s₀ : State} (s : State) (b : ℕ)
    (hP : 12884901888 &&& P = 12884901888) (h : Keeps P s₀ s) :
    Keeps P s₀ (State.chopIssue s b) := by
  unfold State.chopIssue
  repeat' (first
    | with_reducible assumption
    | exact Mask.sub hP (by decide)
    | (extract_lets +onlyGivenNames x; refine Keeps.cut P s₀ x ?_ fun hx => ?_; (on_goal 2 => clear_value x); revert x; change Keeps _ _ _)
    | (extract_lets +onlyGivenNames x; clear_value x)
    | with_reducible apply State.setBk_keeps)

/-- Changes at most: banks, cmps. -/
theorem State.chopLog_keeps {P : Nat} {s₀ : State} (s : State) (b : ℕ) (on : Bool)
    (hP : 12884901888 &&& P = 12884901888) (h : Keeps P s₀ s) :
    Keeps P s₀ (State.chopLog s b on) := by
  unfold State.chopLog
  repeat' (first
    | with_reducible assumption
    | exact Mask.sub hP (by decide)
    | (extract_lets +onlyGivenNames x; refine Keeps.cut P s₀ x ?_ fun hx => ?_; (on_goal 2 => clear_value x); revert x; change Keeps _ _ _)
    | (extract_lets +onlyGivenNames x; clear_value x)
    | (extract_lets +onlyGivenNames x)
    | with_reducible apply State.contWindow_keeps
    | with_reducible apply State.setBk_keeps
    | split)

/-- Changes at most: banks, cmps. -/
theorem State.leaveHeat_keeps {P : Nat} {s₀ : State} (s : State) (b : ℕ) (c : ℕ)
    (hP : 12884901888 &&& P = 12884901888) (h : Keeps P s₀ s) :
    Keeps P s₀ (State.leaveHeat s b c) := by
  unfold State.leaveHeat
  repeat' (first
    | with_reducible assumption
    | exact Mask.sub hP (by decide)
    | (extract_lets +onlyGivenNames x; refine Keeps.cut P s₀ x ?_ fun hx => ?_; (on_goal 2 => clear_value x); revert x; change Keeps _ _ _)
    | (extract_lets +onlyGivenNames x; clear_value x)
    | with_reducible apply State.setBk_keeps
    | split)

/-- Changes at most: banks, cmps. -/
theorem State.heatDue_keeps {P : Nat} {s₀ : State} (s : State) (b : ℕ) (c : ℕ)
    (hP : 12884901888 &&& P = 12884901888) (h : Keeps P s₀ s) :
    Keeps P s₀ (State.heatDue s b c) := by
  unfold State.heatDue
  repeat' (first
    | with_reducible assumption
    | exact Mask.sub hP (by decide)
    | (extract_lets +onlyGivenNames x; refine Keeps.cut P s₀ x ?_ fun hx => ?_; (on_goal 2 => clear_value x); revert x; change Keeps _ _ _)
    | (extract_lets +onlyGivenNames x; clear_value x)
    | with_reducible apply State.setBk_keeps)

/-- Changes at most: regs, banks, cmps. -/
theorem State.heddleStart_keeps {P : Nat} {s₀ : State} (s : State) (b : ℕ) (c : ℕ) (t : Word)
    (hP : 12884901904 &&& P = 12884901904) (h : Keeps P s₀ s) :
    Keeps P s₀ (State.heddleStart s b c t) := by
  unfold State.heddleStart
  repeat' (first
    | with_reducible assumption
    | exact Mask.sub hP (by decide)
    | (extract_lets +onlyGivenNames x; refine Keeps.cut P s₀ x ?_ fun hx => ?_; (on_goal 2 => clear_value x); revert x; change Keeps _ _ _)
    | (extract_lets +onlyGivenNames x; clear_value x)
    | with_reducible apply State.drive_keeps
    | with_reducible apply State.setBk_keeps
    | with_reducible apply State.set_keeps
    | split)

/-- Changes at most: regs, banks, cmps. -/
theorem State.takeBank_keeps {P : Nat} {s₀ : State} (s : State) (b : ℕ) (c : ℕ) (pulse : Option (ℕ × ℕ)) (t : Word)
    (hP : 12884901904 &&& P = 12884901904) (h : Keeps P s₀ s) :
    Keeps P s₀ (State.takeBank s b c pulse t) := by
  unfold State.takeBank
  repeat' (first
    | with_reducible assumption
    | exact Mask.sub hP (by decide)
    | (extract_lets +onlyGivenNames x; refine Keeps.cut P s₀ x ?_ fun hx => ?_; (on_goal 2 => clear_value x); revert x; change Keeps _ _ _)
    | (extract_lets +onlyGivenNames x; clear_value x)
    | with_reducible apply State.closeTail_keeps
    | with_reducible apply State.leaveHeat_keeps
    | with_reducible apply State.heddleStart_keeps
    | with_reducible apply State.setBk_keeps
    | split)

/-- Changes at most: regs, ticks, reports, warps, learn, acc, shuttles, banks, cmps. -/
theorem State.grant_keeps {P : Nat} {s₀ : State} (s : State) (b : ℕ) (r : Request) (t : Word)
    (hP : 13700706320 &&& P = 13700706320) (h : Keeps P s₀ s) :
    Keeps P s₀ (State.grant s b r t) := by
  unfold State.grant
  repeat' (first
    | with_reducible assumption
    | exact Mask.sub hP (by decide)
    | (extract_lets +onlyGivenNames x; refine Keeps.cut P s₀ x ?_ fun hx => ?_; (on_goal 2 => clear_value x); revert x; change Keeps _ _ _)
    | (extract_lets +onlyGivenNames x; clear_value x)
    | with_reducible apply State.unqueue_keeps
    | with_reducible apply State.takeBank_keeps
    | with_reducible apply State.setBk_keeps
    | with_reducible apply State.inc_keeps
    | with_reducible apply State.maxTo_keeps
    | with_reducible apply State.counterBank_keeps
    | with_reducible apply State.pulseStarted_keeps
    | split)

/-- Changes at most: fresh, regs, ticks, reports, warps, learn, acc, shuttles, seqTok, banks, cmps. -/
theorem State.grantWaiting_keeps {P : Nat} {s₀ : State} (b : ℕ) (x1 : ℕ) (x2 : State)
    (hP : 14774448146 &&& P = 14774448146) (h : Keeps P s₀ x2) :
    Keeps P s₀ (State.grantWaiting b x1 x2) := by
  induction x1 generalizing x2 with
  | zero =>
    unfold State.grantWaiting
    repeat' (first
      | with_reducible assumption
      | exact Mask.sub hP (by decide)
      | (extract_lets +onlyGivenNames x; refine Keeps.cut P s₀ x ?_ fun hx => ?_; (on_goal 2 => clear_value x); revert x; change Keeps _ _ _)
      | (extract_lets +onlyGivenNames x; clear_value x)
      | with_reducible apply State.postpone_keeps
      | with_reducible apply State.grant_keeps
      | split)
  | succ m ih =>
    unfold State.grantWaiting
    repeat' (first
      | with_reducible assumption
      | exact Mask.sub hP (by decide)
      | (extract_lets +onlyGivenNames x; refine Keeps.cut P s₀ x ?_ fun hx => ?_; (on_goal 2 => clear_value x); revert x; change Keeps _ _ _)
      | (extract_lets +onlyGivenNames x; clear_value x)
      | with_reducible apply State.postpone_keeps
      | with_reducible apply State.grant_keeps
      | split
      | apply ih)

/-- Changes at most: fresh, regs, ticks, reports, acc, shuttles, seqTok, banks, cmps. -/
theorem State.expireWaits_keeps {P : Nat} {s₀ : State} (s : State) (b : ℕ)
    (hP : 14763962386 &&& P = 14763962386) (h : Keeps P s₀ s) :
    Keeps P s₀ (State.expireWaits s b) := by
  unfold State.expireWaits
  repeat' (first
    | with_reducible assumption
    | exact Mask.sub hP (by decide)
    | (extract_lets +onlyGivenNames x; refine Keeps.cut P s₀ x ?_ fun hx => ?_; (on_goal 2 => clear_value x); revert x; change Keeps _ _ _)
    | (extract_lets +onlyGivenNames x; clear_value x)
    | with_reducible apply State.drop_keeps
    | with_reducible apply Keeps.foldl
    | (intro _ _ _))

/-- Changes at most: regs, banks, cmps. -/
theorem State.toStop_keeps {P : Nat} {s₀ : State} (s : State) (b : ℕ) (t : Word)
    (hP : 12884901904 &&& P = 12884901904) (h : Keeps P s₀ s) :
    Keeps P s₀ (State.toStop s b t) := by
  unfold State.toStop
  repeat' (first
    | with_reducible assumption
    | exact Mask.sub hP (by decide)
    | (extract_lets +onlyGivenNames x; refine Keeps.cut P s₀ x ?_ fun hx => ?_; (on_goal 2 => clear_value x); revert x; change Keeps _ _ _)
    | (extract_lets +onlyGivenNames x; clear_value x)
    | with_reducible apply State.bnkShow_keeps
    | with_reducible apply State.drive_keeps
    | with_reducible apply State.contWindow_keeps
    | with_reducible apply State.setBk_keeps
    | split)

/-- Changes at most: regs, banks, cmps. -/
theorem State.endPulse_keeps {P : Nat} {s₀ : State} (s : State) (b : ℕ)
    (hP : 12884901904 &&& P = 12884901904) (h : Keeps P s₀ s) :
    Keeps P s₀ (State.endPulse s b) := by
  unfold State.endPulse
  repeat' (first
    | with_reducible assumption
    | exact Mask.sub hP (by decide)
    | (extract_lets +onlyGivenNames x; refine Keeps.cut P s₀ x ?_ fun hx => ?_; (on_goal 2 => clear_value x); revert x; change Keeps _ _ _)
    | (extract_lets +onlyGivenNames x; clear_value x)
    | with_reducible apply State.toStop_keeps
    | with_reducible apply State.setBk_keeps)

/-- Changes at most: regs, banks, cmps. -/
theorem State.latchSet_keeps {P : Nat} {s₀ : State} (s : State) (b : ℕ) (c : Option ℕ)
    (hP : 12884901904 &&& P = 12884901904) (h : Keeps P s₀ s) :
    Keeps P s₀ (State.latchSet s b c) := by
  unfold State.latchSet
  repeat' (first
    | with_reducible assumption
    | exact Mask.sub hP (by decide)
    | (extract_lets +onlyGivenNames x; refine Keeps.cut P s₀ x ?_ fun hx => ?_; (on_goal 2 => clear_value x); revert x; change Keeps _ _ _)
    | (extract_lets +onlyGivenNames x; clear_value x)
    | with_reducible apply State.setBk_keeps
    | with_reducible apply State.set_keeps
    | split)

/-- Changes at most: fresh, regs, ticks, reports, acc, shuttles, seqTok, banks, cmps. -/
theorem State.latchArises_keeps {P : Nat} {s₀ : State} (s : State) (b : ℕ) (c : Option ℕ)
    (hP : 14763962386 &&& P = 14763962386) (h : Keeps P s₀ s) :
    Keeps P s₀ (State.latchArises s b c) := by
  unfold State.latchArises
  repeat' (first
    | with_reducible assumption
    | exact Mask.sub hP (by decide)
    | (extract_lets +onlyGivenNames x; refine Keeps.cut P s₀ x ?_ fun hx => ?_; (on_goal 2 => clear_value x); revert x; change Keeps _ _ _)
    | (extract_lets +onlyGivenNames x; refine Keeps.cutOp P s₀ x ?_ fun hx => ?_; (on_goal 2 => clear_value x); revert x; change ∀ s, Keeps _ _ s → Keeps _ _ _; intro s hs)
    | (extract_lets +onlyGivenNames x; refine Keeps.cutFun P s₀ x ?_ fun hx => ?_; (on_goal 2 => clear_value x); revert x; change ∀ s x, Keeps _ _ s → Keeps _ _ _; intro s x hs)
    | (extract_lets +onlyGivenNames x; refine Keeps.cutFn P s₀ x ?_ fun hx => ?_; (on_goal 2 => clear_value x); revert x; change ∀ x, Keeps _ _ _; intro x)
    | (extract_lets +onlyGivenNames x; clear_value x)
    | with_reducible apply State.endTail_keeps
    | with_reducible apply State.drop_keeps
    | with_reducible apply State.toStop_keeps
    | with_reducible apply State.setBk_keeps
    | with_reducible apply Keeps.foldl
    | split
    | with_reducible apply_assumption
    | (intro _ _ _))

/-- Changes at most: regs, ticks. -/
theorem State.faultCode_keeps {P : Nat} {s₀ : State} (s : State) (f : Fld) (code : ℕ)
    (hP : 4112 &&& P = 4112) (h : Keeps P s₀ s) :
    Keeps P s₀ (State.faultCode s f code) := by
  unfold State.faultCode
  repeat' (first
    | with_reducible assumption
    | exact Mask.sub hP (by decide)
    | with_reducible apply State.set_keeps
    | with_reducible apply State.note_keeps
    | with_reducible apply Keeps.foldl
    | (intro _ _ _))

/-- Changes at most: reports. -/
theorem State.reportFault_keeps {P : Nat} {s₀ : State} (s : State) (b : ℕ) (ch : ℕ) (code : ℕ)
    (hP : 8192 &&& P = 8192) (h : Keeps P s₀ s) :
    Keeps P s₀ (State.reportFault s b ch code) := by
  unfold State.reportFault
  repeat' (first
    | with_reducible assumption
    | exact Mask.sub hP (by decide)
    | (extract_lets +onlyGivenNames x; refine Keeps.cut P s₀ x ?_ fun hx => ?_; (on_goal 2 => clear_value x); revert x; change Keeps _ _ _)
    | (extract_lets +onlyGivenNames x; refine Keeps.cutOp P s₀ x ?_ fun hx => ?_; (on_goal 2 => clear_value x); revert x; change ∀ s, Keeps _ _ s → Keeps _ _ _; intro s hs)
    | (extract_lets +onlyGivenNames x; refine Keeps.cutFun P s₀ x ?_ fun hx => ?_; (on_goal 2 => clear_value x); revert x; change ∀ s x, Keeps _ _ s → Keeps _ _ _; intro s x hs)
    | (extract_lets +onlyGivenNames x; refine Keeps.cutFn P s₀ x ?_ fun hx => ?_; (on_goal 2 => clear_value x); revert x; change ∀ x, Keeps _ _ _; intro x)
    | (extract_lets +onlyGivenNames x; clear_value x)
    | (extract_lets +onlyGivenNames x)
    | with_reducible apply_assumption
    | with_reducible apply Keeps.upd_reports)

/-- Changes at most: fresh, regs, ticks, reports, causes, acc, shuttles, seqTok, banks, cmps. -/
theorem State.detect_keeps {P : Nat} {s₀ : State} (s : State) (b : ℕ) (c : Option ℕ) (code : ℕ)
    (hP : 14764027922 &&& P = 14764027922) (h : Keeps P s₀ s) :
    Keeps P s₀ (State.detect s b c code) := by
  unfold State.detect
  repeat' (first
    | with_reducible assumption
    | exact Mask.sub hP (by decide)
    | (extract_lets +onlyGivenNames x; refine Keeps.cut P s₀ x ?_ fun hx => ?_; (on_goal 2 => clear_value x); revert x; change Keeps _ _ _)
    | (extract_lets +onlyGivenNames x; clear_value x)
    | (extract_lets +onlyGivenNames x)
    | with_reducible apply State.bnkShow_keeps
    | with_reducible apply State.endPulse_keeps
    | with_reducible apply State.latchSet_keeps
    | with_reducible apply State.latchArises_keeps
    | with_reducible apply State.faultCode_keeps
    | with_reducible apply State.reportFault_keeps
    | with_reducible apply State.inc_keeps
    | with_reducible apply State.cause_keeps
    | split)

/-- Changes at most: fresh, regs, ticks, reports, acc, shuttles, seqTok, banks, cmps. -/
theorem State.contBegin_keeps {P : Nat} {s₀ : State} (s : State) (b : ℕ)
    (hP : 14763962386 &&& P = 14763962386) (h : Keeps P s₀ s) :
    Keeps P s₀ (State.contBegin s b) := by
  unfold State.contBegin
  repeat' (first
    | with_reducible assumption
    | exact Mask.sub hP (by decide)
    | (extract_lets +onlyGivenNames x; refine Keeps.cut P s₀ x ?_ fun hx => ?_; (on_goal 2 => clear_value x); revert x; change Keeps _ _ _)
    | (extract_lets +onlyGivenNames x; clear_value x)
    | with_reducible apply State.bnkShow_keeps
    | with_reducible apply State.endTail_keeps
    | with_reducible apply State.drop_keeps
    | with_reducible apply State.takeBank_keeps
    | with_reducible apply State.setBk_keeps
    | with_reducible apply Keeps.foldl
    | (intro _ _ _))

/-- Changes at most: fresh, regs, ticks, reports, acc, shuttles, seqTok, banks, cmps. -/
theorem State.contTry_keeps {P : Nat} {s₀ : State} (s : State) (b : ℕ) (ended : Bool)
    (hP : 14763962386 &&& P = 14763962386) (h : Keeps P s₀ s) :
    Keeps P s₀ (State.contTry s b ended) := by
  unfold State.contTry
  repeat' (first
    | with_reducible assumption
    | exact Mask.sub hP (by decide)
    | (extract_lets +onlyGivenNames x; refine Keeps.cut P s₀ x ?_ fun hx => ?_; (on_goal 2 => clear_value x); revert x; change Keeps _ _ _)
    | (extract_lets +onlyGivenNames x; clear_value x)
    | with_reducible apply State.contBegin_keeps
    | split)

/-- Changes at most: banks, cmps. -/
theorem State.contLevels_keeps {P : Nat} {s₀ : State} (s : State) (b : ℕ)
    (hP : 12884901888 &&& P = 12884901888) (h : Keeps P s₀ s) :
    Keeps P s₀ (State.contLevels s b) := by
  unfold State.contLevels
  repeat' (first
    | with_reducible assumption
    | exact Mask.sub hP (by decide)
    | (extract_lets +onlyGivenNames x; refine Keeps.cut P s₀ x ?_ fun hx => ?_; (on_goal 2 => clear_value x); revert x; change Keeps _ _ _)
    | (extract_lets +onlyGivenNames x; clear_value x)
    | with_reducible apply State.contWindow_keeps
    | with_reducible apply State.setBk_keeps)

/-- Changes at most: regs, banks, cmps. -/
theorem State.markEnd_keeps {P : Nat} {s₀ : State} (s : State) (b : ℕ) (c : ℕ) (t : Word)
    (hP : 12884901904 &&& P = 12884901904) (h : Keeps P s₀ s) :
    Keeps P s₀ (State.markEnd s b c t) := by
  unfold State.markEnd
  repeat' (first
    | with_reducible assumption
    | exact Mask.sub hP (by decide)
    | (extract_lets +onlyGivenNames x; refine Keeps.cut P s₀ x ?_ fun hx => ?_; (on_goal 2 => clear_value x); revert x; change Keeps _ _ _)
    | (extract_lets +onlyGivenNames x; clear_value x)
    | with_reducible apply State.setBk_keeps
    | with_reducible apply State.setReg_keeps)

/-- Changes at most: fresh, regs, ticks, reports, shuttles, seqTok, banks, cmps. -/
theorem State.ownWaits_keeps {P : Nat} {s₀ : State} (s : State) (b : ℕ) (c : ℕ)
    (hP : 14495526930 &&& P = 14495526930) (h : Keeps P s₀ s) :
    Keeps P s₀ (State.ownWaits s b c) := by
  unfold State.ownWaits
  repeat' (first
    | with_reducible assumption
    | exact Mask.sub hP (by decide)
    | (extract_lets +onlyGivenNames x; refine Keeps.cut P s₀ x ?_ fun hx => ?_; (on_goal 2 => clear_value x); revert x; change Keeps _ _ _)
    | (extract_lets +onlyGivenNames x; clear_value x)
    | with_reducible apply State.postpone_keeps
    | with_reducible apply Keeps.foldl
    | split
    | (intro _ _ _))

/-- Changes at most: fresh, regs, ticks, reports, warps, learn, acc, shuttles, seqTok, banks, cmps. -/
theorem State.release_keeps {P : Nat} {s₀ : State} (s : State) (b : ℕ) (c : ℕ)
    (hP : 14774448146 &&& P = 14774448146) (h : Keeps P s₀ s) :
    Keeps P s₀ (State.release s b c) := by
  unfold State.release
  repeat' (first
    | with_reducible assumption
    | exact Mask.sub hP (by decide)
    | with_reducible apply State.bnkShow_keeps
    | with_reducible apply State.grantWaiting_keeps
    | with_reducible apply State.expireWaits_keeps
    | with_reducible apply State.contTry_keeps
    | with_reducible apply State.ownWaits_keeps)

/-- Changes at most: regs, banks, cmps. -/
theorem State.startTail_keeps {P : Nat} {s₀ : State} (s : State) (b : ℕ) (c : ℕ)
    (hP : 12884901904 &&& P = 12884901904) (h : Keeps P s₀ s) :
    Keeps P s₀ (State.startTail s b c) := by
  unfold State.startTail
  repeat' (first
    | with_reducible assumption
    | exact Mask.sub hP (by decide)
    | (extract_lets +onlyGivenNames x; refine Keeps.cut P s₀ x ?_ fun hx => ?_; (on_goal 2 => clear_value x); revert x; change Keeps _ _ _)
    | (extract_lets +onlyGivenNames x; clear_value x)
    | with_reducible apply State.drive_keeps
    | with_reducible apply State.setBk_keeps)

/-- Changes at most: fresh, regs, ticks, reports, warps, learn, acc, shuttles, seqTok, banks, cmps. -/
theorem State.recoveryEnd_keeps {P : Nat} {s₀ : State} (s : State) (b : ℕ) (limit : Bool)
    (hP : 14774448146 &&& P = 14774448146) (h : Keeps P s₀ s) :
    Keeps P s₀ (State.recoveryEnd s b limit) := by
  unfold State.recoveryEnd
  repeat' (first
    | with_reducible assumption
    | exact Mask.sub hP (by decide)
    | (extract_lets +onlyGivenNames x; refine Keeps.cut P s₀ x ?_ fun hx => ?_; (on_goal 2 => clear_value x); revert x; change Keeps _ _ _)
    | (extract_lets +onlyGivenNames x; clear_value x)
    | with_reducible apply State.closureResult_keeps
    | with_reducible apply State.leaveHeat_keeps
    | with_reducible apply State.heatDue_keeps
    | with_reducible apply State.markEnd_keeps
    | with_reducible apply State.release_keeps
    | with_reducible apply State.startTail_keeps
    | with_reducible apply State.setBk_keeps
    | with_reducible apply State.set_keeps
    | with_reducible apply State.flag_keeps
    | with_reducible apply State.stick_keeps
    | split)

/-- Changes at most: fresh, regs, ticks, reports, warps, learn, acc, shuttles, seqTok, banks, cmps. -/
theorem State.recover_keeps {P : Nat} {s₀ : State} (s : State) (b : ℕ) (lim : ℕ)
    (hP : 14774448146 &&& P = 14774448146) (h : Keeps P s₀ s) :
    Keeps P s₀ (State.recover s b lim) := by
  unfold State.recover
  repeat' (first
    | with_reducible assumption
    | exact Mask.sub hP (by decide)
    | (extract_lets +onlyGivenNames x; refine Keeps.cut P s₀ x ?_ fun hx => ?_; (on_goal 2 => clear_value x); revert x; change Keeps _ _ _)
    | (extract_lets +onlyGivenNames x; clear_value x)
    | with_reducible apply State.bnkShow_keeps
    | with_reducible apply State.bankEvent_keeps
    | with_reducible apply State.drive_keeps
    | with_reducible apply State.grantWaiting_keeps
    | with_reducible apply State.expireWaits_keeps
    | with_reducible apply State.setBk_keeps
    | with_reducible apply State.stick_keeps
    | with_reducible apply State.inc_keeps
    | split)

/-- Changes at most: fresh, regs, ticks, reports, warps, learn, acc, shuttles, seqTok, banks, cmps. -/
theorem State.trap_keeps {P : Nat} {s₀ : State} (s : State) (b : ℕ)
    (hP : 14774448146 &&& P = 14774448146) (h : Keeps P s₀ s) :
    Keeps P s₀ (State.trap s b) := by
  unfold State.trap
  repeat' (first
    | with_reducible assumption
    | exact Mask.sub hP (by decide)
    | (extract_lets +onlyGivenNames x; refine Keeps.cut P s₀ x ?_ fun hx => ?_; (on_goal 2 => clear_value x); revert x; change Keeps _ _ _)
    | (extract_lets +onlyGivenNames x; clear_value x)
    | with_reducible apply State.bankEvent_keeps
    | with_reducible apply State.drive_keeps
    | with_reducible apply State.recover_keeps
    | with_reducible apply State.stick_keeps
    | with_reducible apply State.inc_keeps)

/-- Changes at most: now, fresh, regs, ticks, reports, warps, learn, acc, shuttles, seqTok, banks, cmps. -/
theorem execTrap_keeps {P : Nat} {s₀ : State} (t : Word) (b : Fin 12) (s : State)
    (hP : 14774448147 &&& P = 14774448147) (h : Keeps P s₀ s) :
    OutKeeps P s₀ (execTrap t b s) := by
  unfold execTrap
  repeat' (first
    | with_reducible assumption
    | exact Mask.sub hP (by decide)
    | (extract_lets +onlyGivenNames x; refine Keeps.cut P s₀ x ?_ fun hx => ?_; (on_goal 2 => clear_value x); revert x; change Keeps _ _ _)
    | (extract_lets +onlyGivenNames x; clear_value x)
    | with_reducible apply OutKeeps.next
    | with_reducible apply State.trap_keeps
    | with_reducible apply State.at_keeps
    | split)

/-- Changes at most: fresh, regs, ticks, reports, warps, learn, acc, shuttles, seqTok, banks, cmps. -/
theorem State.whenIssued_keeps {P : Nat} {s₀ : State} (s : State) (b : ℕ) (op : ℕ) (f : HInstr → State)
    (hf : ∀ i, Keeps P s₀ (f i)) (hP : 14774448146 &&& P = 14774448146) (h : Keeps P s₀ s) :
    Keeps P s₀ (State.whenIssued s b op f) := by
  unfold State.whenIssued
  repeat' (first
    | with_reducible assumption
    | exact Mask.sub hP (by decide)
    | with_reducible apply State.trap_keeps
    | split
    | with_reducible apply hf
    | intro _)

/-- Changes at most: regs, banks, cmps. -/
theorem State.driveAndWait_keeps {P : Nat} {s₀ : State} (s : State) (b : ℕ) (d : ℕ) (lim : ℕ)
    (hP : 12884901904 &&& P = 12884901904) (h : Keeps P s₀ s) :
    Keeps P s₀ (State.driveAndWait s b d lim) := by
  unfold State.driveAndWait
  repeat' (first
    | with_reducible assumption
    | exact Mask.sub hP (by decide)
    | (extract_lets +onlyGivenNames x; refine Keeps.cut P s₀ x ?_ fun hx => ?_; (on_goal 2 => clear_value x); revert x; change Keeps _ _ _)
    | (extract_lets +onlyGivenNames x; clear_value x)
    | with_reducible apply State.bnkShow_keeps
    | with_reducible apply State.drive_keeps
    | with_reducible apply State.setBk_keeps
    | split)

/-- Changes at most: now, fresh, regs, ticks, reports, warps, learn, acc, shuttles, seqTok, banks, cmps. -/
theorem execDrv_keeps {P : Nat} {s₀ : State} (t : Word) (b : Fin 12) (s : State)
    (hP : 14774448147 &&& P = 14774448147) (h : Keeps P s₀ s) :
    OutKeeps P s₀ (execDrv t b s) := by
  unfold execDrv
  repeat' (first
    | with_reducible assumption
    | exact Mask.sub hP (by decide)
    | (extract_lets +onlyGivenNames x; refine Keeps.cut P s₀ x ?_ fun hx => ?_; (on_goal 2 => clear_value x); revert x; change Keeps _ _ _)
    | (extract_lets +onlyGivenNames x; clear_value x)
    | with_reducible apply OutKeeps.next
    | with_reducible apply State.whenIssued_keeps
    | with_reducible apply State.driveAndWait_keeps
    | with_reducible apply State.at_keeps
    | intro _)

/-- Changes at most: now, fresh, regs, ticks, reports, warps, learn, acc, shuttles, seqTok, banks, cmps. -/
theorem execRise_keeps {P : Nat} {s₀ : State} (t : Word) (b : Fin 12) (s : State)
    (hP : 14774448147 &&& P = 14774448147) (h : Keeps P s₀ s) :
    OutKeeps P s₀ (execRise t b s) := by
  unfold execRise
  repeat' (first
    | with_reducible assumption
    | exact Mask.sub hP (by decide)
    | (extract_lets +onlyGivenNames x; refine Keeps.cut P s₀ x ?_ fun hx => ?_; (on_goal 2 => clear_value x); revert x; change Keeps _ _ _)
    | (extract_lets +onlyGivenNames x; clear_value x)
    | with_reducible apply OutKeeps.next
    | with_reducible apply State.whenIssued_keeps
    | with_reducible apply State.driveAndWait_keeps
    | with_reducible apply State.at_keeps
    | intro _)

/-- Changes at most: now, fresh, regs, ticks, reports, warps, learn, acc, shuttles, seqTok, banks, cmps. -/
theorem execFall_keeps {P : Nat} {s₀ : State} (t : Word) (b : Fin 12) (s : State)
    (hP : 14774448147 &&& P = 14774448147) (h : Keeps P s₀ s) :
    OutKeeps P s₀ (execFall t b s) := by
  unfold execFall
  repeat' (first
    | with_reducible assumption
    | exact Mask.sub hP (by decide)
    | (extract_lets +onlyGivenNames x; refine Keeps.cut P s₀ x ?_ fun hx => ?_; (on_goal 2 => clear_value x); revert x; change Keeps _ _ _)
    | (extract_lets +onlyGivenNames x; clear_value x)
    | with_reducible apply OutKeeps.next
    | with_reducible apply State.whenIssued_keeps
    | with_reducible apply State.driveAndWait_keeps
    | with_reducible apply State.at_keeps
    | intro _)

/-- Changes at most: banks, cmps. -/
theorem State.look_keeps {P : Nat} {s₀ : State} (s : State) (b : ℕ) (uv : ℕ)
    (hP : 12884901888 &&& P = 12884901888) (h : Keeps P s₀ s) :
    Keeps P s₀ (State.look s b uv) := by
  unfold State.look
  repeat' (first
    | with_reducible assumption
    | exact Mask.sub hP (by decide)
    | (extract_lets +onlyGivenNames x; refine Keeps.cut P s₀ x ?_ fun hx => ?_; (on_goal 2 => clear_value x); revert x; change Keeps _ _ _)
    | (extract_lets +onlyGivenNames x; clear_value x)
    | with_reducible apply State.setBk_keeps
    | split)

/-- Changes at most: regs, banks, cmps. -/
theorem State.regulate_keeps {P : Nat} {s₀ : State} (s : State) (b : ℕ) (onD : ℕ) (offD : ℕ) (lim : ℕ) (cont : Bool) (uv : ℕ)
    (hP : 12884901904 &&& P = 12884901904) (h : Keeps P s₀ s) :
    Keeps P s₀ (State.regulate s b onD offD lim cont uv) := by
  unfold State.regulate
  repeat' (first
    | with_reducible assumption
    | exact Mask.sub hP (by decide)
    | (extract_lets +onlyGivenNames x; refine Keeps.cut P s₀ x ?_ fun hx => ?_; (on_goal 2 => clear_value x); revert x; change Keeps _ _ _)
    | (extract_lets +onlyGivenNames x; clear_value x)
    | with_reducible apply State.bnkShow_keeps
    | with_reducible apply State.drive_keeps
    | with_reducible apply State.chopIssue_keeps
    | with_reducible apply State.contLevels_keeps
    | with_reducible apply State.look_keeps
    | with_reducible apply State.setBk_keeps
    | split)

/-- Changes at most: now, fresh, regs, ticks, reports, warps, learn, acc, shuttles, seqTok, banks, cmps. -/
theorem execChop_keeps {P : Nat} {s₀ : State} (t : Word) (b : Fin 12) (uv : ℕ) (s : State)
    (hP : 14774448147 &&& P = 14774448147) (h : Keeps P s₀ s) :
    OutKeeps P s₀ (execChop t b uv s) := by
  unfold execChop
  repeat' (first
    | with_reducible assumption
    | exact Mask.sub hP (by decide)
    | (extract_lets +onlyGivenNames x; refine Keeps.cut P s₀ x ?_ fun hx => ?_; (on_goal 2 => clear_value x); revert x; change Keeps _ _ _)
    | (extract_lets +onlyGivenNames x; clear_value x)
    | with_reducible apply OutKeeps.next
    | with_reducible apply State.whenIssued_keeps
    | with_reducible apply State.regulate_keeps
    | with_reducible apply State.at_keeps
    | split
    | intro _)

/-- Changes at most: now, fresh, regs, ticks, reports, warps, learn, acc, shuttles, seqTok, banks, cmps. -/
theorem execRecov_keeps {P : Nat} {s₀ : State} (t : Word) (b : Fin 12) (s : State)
    (hP : 14774448147 &&& P = 14774448147) (h : Keeps P s₀ s) :
    OutKeeps P s₀ (execRecov t b s) := by
  unfold execRecov
  repeat' (first
    | with_reducible assumption
    | exact Mask.sub hP (by decide)
    | (extract_lets +onlyGivenNames x; refine Keeps.cut P s₀ x ?_ fun hx => ?_; (on_goal 2 => clear_value x); revert x; change Keeps _ _ _)
    | (extract_lets +onlyGivenNames x; clear_value x)
    | with_reducible apply OutKeeps.next
    | with_reducible apply State.recover_keeps
    | with_reducible apply State.whenIssued_keeps
    | with_reducible apply State.at_keeps
    | split
    | intro _)

/-- Changes at most: now, fresh, regs, ticks, reports, warps, learn, acc, shuttles, seqTok, banks, cmps. -/
theorem execCont_keeps {P : Nat} {s₀ : State} (t : Word) (b : Fin 12) (uv : ℕ) (s : State)
    (hP : 14774448147 &&& P = 14774448147) (h : Keeps P s₀ s) :
    OutKeeps P s₀ (execCont t b uv s) := by
  unfold execCont
  repeat' (first
    | with_reducible assumption
    | exact Mask.sub hP (by decide)
    | (extract_lets +onlyGivenNames x; refine Keeps.cut P s₀ x ?_ fun hx => ?_; (on_goal 2 => clear_value x); revert x; change Keeps _ _ _)
    | (extract_lets +onlyGivenNames x; clear_value x)
    | with_reducible apply OutKeeps.next
    | with_reducible apply State.whenIssued_keeps
    | with_reducible apply State.regulate_keeps
    | with_reducible apply State.at_keeps
    | split
    | intro _)

/-- Changes at most: regs, banks, cmps. -/
theorem State.heddleGo_keeps {P : Nat} {s₀ : State} (s : State) (b : ℕ) (pc : ℕ)
    (hP : 12884901904 &&& P = 12884901904) (h : Keeps P s₀ s) :
    Keeps P s₀ (State.heddleGo s b pc) := by
  unfold State.heddleGo
  repeat' (first
    | with_reducible assumption
    | exact Mask.sub hP (by decide)
    | (extract_lets +onlyGivenNames x; refine Keeps.cut P s₀ x ?_ fun hx => ?_; (on_goal 2 => clear_value x); revert x; change Keeps _ _ _)
    | (extract_lets +onlyGivenNames x; clear_value x)
    | with_reducible apply State.bnkShow_keeps
    | with_reducible apply State.setBk_keeps)

/-- Changes at most: now, fresh, regs, ticks, reports, warps, learn, acc, shuttles, seqTok, banks, cmps. -/
theorem execSetpk_keeps {P : Nat} {s₀ : State} (t : Word) (b : Fin 12) (s : State)
    (hP : 14774448147 &&& P = 14774448147) (h : Keeps P s₀ s) :
    OutKeeps P s₀ (execSetpk t b s) := by
  unfold execSetpk
  repeat' (first
    | with_reducible assumption
    | exact Mask.sub hP (by decide)
    | (extract_lets +onlyGivenNames x; refine Keeps.cut P s₀ x ?_ fun hx => ?_; (on_goal 2 => clear_value x); revert x; change Keeps _ _ _)
    | (extract_lets +onlyGivenNames x; clear_value x)
    | with_reducible apply OutKeeps.next
    | with_reducible apply State.whenIssued_keeps
    | with_reducible apply State.heddleGo_keeps
    | with_reducible apply State.setBk_keeps
    | with_reducible apply State.at_keeps
    | intro _)

/-- Changes at most: now, fresh, regs, ticks, reports, warps, learn, acc, shuttles, seqTok, banks, cmps. -/
theorem execSetvy_keeps {P : Nat} {s₀ : State} (t : Word) (b : Fin 12) (s : State)
    (hP : 14774448147 &&& P = 14774448147) (h : Keeps P s₀ s) :
    OutKeeps P s₀ (execSetvy t b s) := by
  unfold execSetvy
  repeat' (first
    | with_reducible assumption
    | exact Mask.sub hP (by decide)
    | (extract_lets +onlyGivenNames x; refine Keeps.cut P s₀ x ?_ fun hx => ?_; (on_goal 2 => clear_value x); revert x; change Keeps _ _ _)
    | (extract_lets +onlyGivenNames x; clear_value x)
    | with_reducible apply OutKeeps.next
    | with_reducible apply State.whenIssued_keeps
    | with_reducible apply State.heddleGo_keeps
    | with_reducible apply State.setBk_keeps
    | with_reducible apply State.at_keeps
    | intro _)

/-- Changes at most: now, fresh, regs, ticks, reports, warps, learn, acc, shuttles, seqTok, banks, cmps. -/
theorem execBlank_keeps {P : Nat} {s₀ : State} (t : Word) (b : Fin 12) (s : State)
    (hP : 14774448147 &&& P = 14774448147) (h : Keeps P s₀ s) :
    OutKeeps P s₀ (execBlank t b s) := by
  unfold execBlank
  repeat' (first
    | with_reducible assumption
    | exact Mask.sub hP (by decide)
    | (extract_lets +onlyGivenNames x; refine Keeps.cut P s₀ x ?_ fun hx => ?_; (on_goal 2 => clear_value x); revert x; change Keeps _ _ _)
    | (extract_lets +onlyGivenNames x; clear_value x)
    | with_reducible apply OutKeeps.next
    | with_reducible apply State.whenIssued_keeps
    | with_reducible apply State.heddleGo_keeps
    | with_reducible apply State.setBk_keeps
    | with_reducible apply State.at_keeps
    | intro _)

/-- Changes at most: now, fresh, regs, ticks, reports, warps, learn, acc, shuttles, seqTok, banks, cmps. -/
theorem execJmp_keeps {P : Nat} {s₀ : State} (t : Word) (b : Fin 12) (s : State)
    (hP : 14774448147 &&& P = 14774448147) (h : Keeps P s₀ s) :
    OutKeeps P s₀ (execJmp t b s) := by
  unfold execJmp
  repeat' (first
    | with_reducible assumption
    | exact Mask.sub hP (by decide)
    | (extract_lets +onlyGivenNames x; refine Keeps.cut P s₀ x ?_ fun hx => ?_; (on_goal 2 => clear_value x); revert x; change Keeps _ _ _)
    | (extract_lets +onlyGivenNames x; clear_value x)
    | with_reducible apply OutKeeps.next
    | with_reducible apply State.whenIssued_keeps
    | with_reducible apply State.heddleGo_keeps
    | with_reducible apply State.at_keeps
    | intro _)

/-- Changes at most: now, fresh, regs, ticks, reports, warps, learn, acc, shuttles, seqTok, banks, cmps. -/
theorem execBrf_keeps {P : Nat} {s₀ : State} (t : Word) (b : Fin 12) (uv : ℕ) (s : State)
    (hP : 14774448147 &&& P = 14774448147) (h : Keeps P s₀ s) :
    OutKeeps P s₀ (execBrf t b uv s) := by
  unfold execBrf
  repeat' (first
    | with_reducible assumption
    | exact Mask.sub hP (by decide)
    | (extract_lets +onlyGivenNames x; refine Keeps.cut P s₀ x ?_ fun hx => ?_; (on_goal 2 => clear_value x); revert x; change Keeps _ _ _)
    | (extract_lets +onlyGivenNames x; clear_value x)
    | with_reducible apply OutKeeps.next
    | with_reducible apply State.whenIssued_keeps
    | with_reducible apply State.look_keeps
    | with_reducible apply State.heddleGo_keeps
    | with_reducible apply State.set_keeps
    | with_reducible apply State.at_keeps
    | split
    | intro _)

/-- Changes at most: now, fresh, regs, ticks, reports, warps, learn, acc, shuttles, seqTok, banks, cmps. -/
theorem execLoop_keeps {P : Nat} {s₀ : State} (t : Word) (b : Fin 12) (s : State)
    (hP : 14774448147 &&& P = 14774448147) (h : Keeps P s₀ s) :
    OutKeeps P s₀ (execLoop t b s) := by
  unfold execLoop
  repeat' (first
    | with_reducible assumption
    | exact Mask.sub hP (by decide)
    | (extract_lets +onlyGivenNames x; refine Keeps.cut P s₀ x ?_ fun hx => ?_; (on_goal 2 => clear_value x); revert x; change Keeps _ _ _)
    | (extract_lets +onlyGivenNames x; clear_value x)
    | with_reducible apply OutKeeps.next
    | with_reducible apply State.whenIssued_keeps
    | with_reducible apply State.heddleGo_keeps
    | with_reducible apply State.set_keeps
    | with_reducible apply State.at_keeps
    | intro _)

/-- Changes at most: now, fresh, regs, ticks, reports, warps, learn, acc, shuttles, seqTok, banks, cmps. -/
theorem execFlt_keeps {P : Nat} {s₀ : State} (t : Word) (b : Fin 12) (s : State)
    (hP : 14774448147 &&& P = 14774448147) (h : Keeps P s₀ s) :
    OutKeeps P s₀ (execFlt t b s) := by
  unfold execFlt
  repeat' (first
    | with_reducible assumption
    | exact Mask.sub hP (by decide)
    | (extract_lets +onlyGivenNames x; refine Keeps.cut P s₀ x ?_ fun hx => ?_; (on_goal 2 => clear_value x); revert x; change Keeps _ _ _)
    | (extract_lets +onlyGivenNames x; clear_value x)
    | with_reducible apply OutKeeps.next
    | with_reducible apply State.bankEvent_keeps
    | with_reducible apply State.whenIssued_keeps
    | with_reducible apply State.heddleGo_keeps
    | with_reducible apply State.set_keeps
    | with_reducible apply State.inc_keeps
    | with_reducible apply State.at_keeps
    | intro _)

/-- Changes at most: regs, banks, cmps. -/
theorem State.heddleNext_keeps {P : Nat} {s₀ : State} (s : State) (b : ℕ) (out : Option Bool)
    (hP : 12884901904 &&& P = 12884901904) (h : Keeps P s₀ s) :
    Keeps P s₀ (State.heddleNext s b out) := by
  unfold State.heddleNext
  repeat' (first
    | with_reducible assumption
    | exact Mask.sub hP (by decide)
    | (extract_lets +onlyGivenNames x; refine Keeps.cut P s₀ x ?_ fun hx => ?_; (on_goal 2 => clear_value x); revert x; change Keeps _ _ _)
    | (extract_lets +onlyGivenNames x; clear_value x)
    | with_reducible apply State.bnkShow_keeps
    | with_reducible apply State.setBk_keeps
    | with_reducible apply State.flag_keeps
    | split)

/-- Changes at most: now, regs, banks, cmps. -/
theorem execHeddleTimedExpiry_keeps {P : Nat} {s₀ : State} (t : Word) (b : Fin 12) (s : State)
    (hP : 12884901905 &&& P = 12884901905) (h : Keeps P s₀ s) :
    OutKeeps P s₀ (execHeddleTimedExpiry t b s) := by
  unfold execHeddleTimedExpiry
  repeat' (first
    | with_reducible assumption
    | exact Mask.sub hP (by decide)
    | (extract_lets +onlyGivenNames x; refine Keeps.cut P s₀ x ?_ fun hx => ?_; (on_goal 2 => clear_value x); revert x; change Keeps _ _ _)
    | (extract_lets +onlyGivenNames x; clear_value x)
    | (extract_lets +onlyGivenNames x)
    | with_reducible apply OutKeeps.next
    | with_reducible apply State.heddleNext_keeps
    | with_reducible apply State.at_keeps
    | split)

/-- Changes at most: regs, banks, cmps. -/
theorem State.chopTo_keeps {P : Nat} {s₀ : State} (s : State) (b : ℕ) (on : Bool)
    (hP : 12884901904 &&& P = 12884901904) (h : Keeps P s₀ s) :
    Keeps P s₀ (State.chopTo s b on) := by
  unfold State.chopTo
  repeat' (first
    | with_reducible assumption
    | exact Mask.sub hP (by decide)
    | (extract_lets +onlyGivenNames x; refine Keeps.cut P s₀ x ?_ fun hx => ?_; (on_goal 2 => clear_value x); revert x; change Keeps _ _ _)
    | (extract_lets +onlyGivenNames x; clear_value x)
    | with_reducible apply State.drive_keeps
    | with_reducible apply State.chopLog_keeps
    | with_reducible apply State.setBk_keeps
    | split)

/-- Changes at most: fresh, regs, ticks, reports, causes, acc, shuttles, seqTok, banks, cmps. -/
theorem State.peakSees_keeps {P : Nat} {s₀ : State} (s : State) (b : ℕ)
    (hP : 14764027922 &&& P = 14764027922) (h : Keeps P s₀ s) :
    Keeps P s₀ (State.peakSees s b) := by
  unfold State.peakSees
  repeat' (first
    | with_reducible assumption
    | exact Mask.sub hP (by decide)
    | (extract_lets +onlyGivenNames x; refine Keeps.cut P s₀ x ?_ fun hx => ?_; (on_goal 2 => clear_value x); revert x; change Keeps _ _ _)
    | (extract_lets +onlyGivenNames x; clear_value x)
    | (extract_lets +onlyGivenNames x)
    | with_reducible apply State.detect_keeps
    | with_reducible apply State.setBk_keeps
    | split)

/-- Changes at most: fresh, regs, ticks, reports, causes, warps, learn, acc, shuttles, seqTok, banks, cmps. -/
theorem State.heddleSees_keeps {P : Nat} {s₀ : State} (s : State) (b : ℕ) (uv : ℕ)
    (hP : 14774513682 &&& P = 14774513682) (h : Keeps P s₀ s) :
    Keeps P s₀ (State.heddleSees s b uv) := by
  unfold State.heddleSees
  repeat' (first
    | with_reducible assumption
    | exact Mask.sub hP (by decide)
    | (extract_lets +onlyGivenNames x; refine Keeps.cut P s₀ x ?_ fun hx => ?_; (on_goal 2 => clear_value x); revert x; change Keeps _ _ _)
    | (extract_lets +onlyGivenNames x; clear_value x)
    | with_reducible apply State.toStop_keeps
    | with_reducible apply State.contLevels_keeps
    | with_reducible apply State.recoveryEnd_keeps
    | with_reducible apply State.look_keeps
    | with_reducible apply State.heddleNext_keeps
    | with_reducible apply State.chopTo_keeps
    | with_reducible apply State.peakSees_keeps
    | with_reducible apply State.setBk_keeps
    | split)

/-- Changes at most: now, fresh, regs, ticks, reports, causes, warps, learn, acc, shuttles, seqTok, banks, cmps. -/
theorem execComparatorTrip_keeps {P : Nat} {s₀ : State} (t : Word) (b : Fin 12) (k : Fin 3) (uv : ℕ) (s : State)
    (hP : 14774513683 &&& P = 14774513683) (h : Keeps P s₀ s) :
    OutKeeps P s₀ (execComparatorTrip t b k uv s) := by
  unfold execComparatorTrip
  repeat' (first
    | with_reducible assumption
    | exact Mask.sub hP (by decide)
    | (extract_lets +onlyGivenNames x; refine Keeps.cut P s₀ x ?_ fun hx => ?_; (on_goal 2 => clear_value x); revert x; change Keeps _ _ _)
    | (extract_lets +onlyGivenNames x; clear_value x)
    | with_reducible apply OutKeeps.next
    | with_reducible apply State.heddleSees_keeps
    | with_reducible apply State.setBk_keeps
    | with_reducible apply State.clearBit_keeps
    | with_reducible apply State.at_keeps
    | split)

/-- Changes at most: now, fresh, regs, ticks, reports, causes, warps, learn, acc, shuttles, seqTok, banks, cmps. -/
theorem execBlankingEnd_keeps {P : Nat} {s₀ : State} (t : Word) (b : Fin 12) (uv : ℕ) (s : State)
    (hP : 14774513683 &&& P = 14774513683) (h : Keeps P s₀ s) :
    OutKeeps P s₀ (execBlankingEnd t b uv s) := by
  unfold execBlankingEnd
  repeat' (first
    | with_reducible assumption
    | exact Mask.sub hP (by decide)
    | (extract_lets +onlyGivenNames x; refine Keeps.cut P s₀ x ?_ fun hx => ?_; (on_goal 2 => clear_value x); revert x; change Keeps _ _ _)
    | (extract_lets +onlyGivenNames x; clear_value x)
    | with_reducible apply OutKeeps.next
    | with_reducible apply State.heddleSees_keeps
    | with_reducible apply State.at_keeps
    | split)

/-- Changes at most: now, fresh, regs, ticks, reports, causes, warps, learn, acc, shuttles, seqTok, banks, cmps. -/
theorem execContDwellEnd_keeps {P : Nat} {s₀ : State} (t : Word) (b : Fin 12) (uv : ℕ) (s : State)
    (hP : 14774513683 &&& P = 14774513683) (h : Keeps P s₀ s) :
    OutKeeps P s₀ (execContDwellEnd t b uv s) := by
  unfold execContDwellEnd
  repeat' (first
    | with_reducible assumption
    | exact Mask.sub hP (by decide)
    | (extract_lets +onlyGivenNames x; refine Keeps.cut P s₀ x ?_ fun hx => ?_; (on_goal 2 => clear_value x); revert x; change Keeps _ _ _)
    | (extract_lets +onlyGivenNames x; clear_value x)
    | (extract_lets +onlyGivenNames x)
    | with_reducible apply OutKeeps.next
    | with_reducible apply State.heddleSees_keeps
    | with_reducible apply State.at_keeps
    | split)

/-- Changes at most: now, fresh, regs, ticks, reports, warps, learn, acc, shuttles, seqTok, banks, cmps. -/
theorem execRecoveryEndZth_keeps {P : Nat} {s₀ : State} (t : Word) (b : Fin 12) (uv : ℕ) (s : State)
    (hP : 14774448147 &&& P = 14774448147) (h : Keeps P s₀ s) :
    OutKeeps P s₀ (execRecoveryEndZth t b uv s) := by
  unfold execRecoveryEndZth
  repeat' (first
    | with_reducible assumption
    | exact Mask.sub hP (by decide)
    | (extract_lets +onlyGivenNames x; refine Keeps.cut P s₀ x ?_ fun hx => ?_; (on_goal 2 => clear_value x); revert x; change Keeps _ _ _)
    | (extract_lets +onlyGivenNames x; clear_value x)
    | (extract_lets +onlyGivenNames x)
    | with_reducible apply OutKeeps.next
    | with_reducible apply State.recoveryEnd_keeps
    | with_reducible apply State.look_keeps
    | with_reducible apply State.clearBit_keeps
    | with_reducible apply State.at_keeps
    | split)

/-- Changes at most: now, fresh, regs, ticks, reports, warps, learn, acc, shuttles, seqTok, banks, cmps. -/
theorem execRecoveryEndRmax_keeps {P : Nat} {s₀ : State} (t : Word) (b : Fin 12) (s : State)
    (hP : 14774448147 &&& P = 14774448147) (h : Keeps P s₀ s) :
    OutKeeps P s₀ (execRecoveryEndRmax t b s) := by
  unfold execRecoveryEndRmax
  repeat' (first
    | with_reducible assumption
    | exact Mask.sub hP (by decide)
    | (extract_lets +onlyGivenNames x; refine Keeps.cut P s₀ x ?_ fun hx => ?_; (on_goal 2 => clear_value x); revert x; change Keeps _ _ _)
    | (extract_lets +onlyGivenNames x; clear_value x)
    | (extract_lets +onlyGivenNames x)
    | with_reducible apply OutKeeps.next
    | with_reducible apply State.recoveryEnd_keeps
    | with_reducible apply State.at_keeps
    | split)

/-- Changes at most: now, fresh, regs, ticks, reports, warps, learn, acc, shuttles, seqTok, banks, cmps. -/
theorem execOverlapRecoveryEnd_keeps {P : Nat} {s₀ : State} (t : Word) (b : Fin 12) (s : State)
    (hP : 14774448147 &&& P = 14774448147) (h : Keeps P s₀ s) :
    OutKeeps P s₀ (execOverlapRecoveryEnd t b s) := by
  unfold execOverlapRecoveryEnd
  repeat' (first
    | with_reducible assumption
    | exact Mask.sub hP (by decide)
    | (extract_lets +onlyGivenNames x; refine Keeps.cut P s₀ x ?_ fun hx => ?_; (on_goal 2 => clear_value x); revert x; change Keeps _ _ _)
    | (extract_lets +onlyGivenNames x; clear_value x)
    | with_reducible apply OutKeeps.next
    | with_reducible apply State.closureResult_keeps
    | with_reducible apply State.heatDue_keeps
    | with_reducible apply State.markEnd_keeps
    | with_reducible apply State.release_keeps
    | with_reducible apply State.setBk_keeps
    | with_reducible apply State.at_keeps
    | split)

/-- Changes at most: now, fresh, regs, ticks, reports, acc, shuttles, seqTok, banks, cmps. -/
theorem execPostponeExpiry_keeps {P : Nat} {s₀ : State} (t : Word) (b : Fin 12) (s : State)
    (hP : 14763962387 &&& P = 14763962387) (h : Keeps P s₀ s) :
    OutKeeps P s₀ (execPostponeExpiry t b s) := by
  unfold execPostponeExpiry
  repeat' (first
    | with_reducible assumption
    | exact Mask.sub hP (by decide)
    | with_reducible apply OutKeeps.next
    | with_reducible apply State.bnkShow_keeps
    | with_reducible apply State.expireWaits_keeps
    | with_reducible apply State.at_keeps)

/-- Changes at most: now, regs, banks, cmps. -/
theorem execDeadTimeExpiry_keeps {P : Nat} {s₀ : State} (t : Word) (b : Fin 12) (s : State)
    (hP : 12884901905 &&& P = 12884901905) (h : Keeps P s₀ s) :
    OutKeeps P s₀ (execDeadTimeExpiry t b s) := by
  unfold execDeadTimeExpiry
  repeat' (first
    | with_reducible assumption
    | exact Mask.sub hP (by decide)
    | (extract_lets +onlyGivenNames x; refine Keeps.cut P s₀ x ?_ fun hx => ?_; (on_goal 2 => clear_value x); revert x; change Keeps _ _ _)
    | (extract_lets +onlyGivenNames x; clear_value x)
    | with_reducible apply OutKeeps.next
    | with_reducible apply State.setBk_keeps
    | with_reducible apply State.periodRise_keeps
    | with_reducible apply State.at_keeps
    | split)

/-- Changes at most: banks, cmps. -/
theorem State.dropTests_keeps {P : Nat} {s₀ : State} (s : State) (b : ℕ)
    (hP : 12884901888 &&& P = 12884901888) (h : Keeps P s₀ s) :
    Keeps P s₀ (State.dropTests s b) := by
  unfold State.dropTests
  repeat' (first
    | with_reducible assumption
    | exact Mask.sub hP (by decide)
    | (extract_lets +onlyGivenNames x; refine Keeps.cut P s₀ x ?_ fun hx => ?_; (on_goal 2 => clear_value x); revert x; change Keeps _ _ _)
    | (extract_lets +onlyGivenNames x; clear_value x)
    | with_reducible apply State.setBk_keeps)

/-- Changes at most: regs, banks, cmps. -/
theorem State.prepare_keeps {P : Nat} {s₀ : State} (s : State) (b : ℕ)
    (hP : 12884901904 &&& P = 12884901904) (h : Keeps P s₀ s) :
    Keeps P s₀ (State.prepare s b) := by
  unfold State.prepare
  repeat' (first
    | with_reducible assumption
    | exact Mask.sub hP (by decide)
    | with_reducible apply State.endTail_keeps
    | with_reducible apply State.dropTests_keeps)

/-- Changes at most: now, fresh, regs, ticks, reports, shuttles, seqTok, banks, cmps. -/
theorem execBankCommit_keeps {P : Nat} {s₀ : State} (t : Word) (b : Fin 12) (s : State)
    (hP : 14495526931 &&& P = 14495526931) (h : Keeps P s₀ s) :
    OutKeeps P s₀ (execBankCommit t b s) := by
  unfold execBankCommit
  repeat' (first
    | with_reducible assumption
    | exact Mask.sub hP (by decide)
    | (extract_lets +onlyGivenNames x; refine Keeps.cut P s₀ x ?_ fun hx => ?_; (on_goal 2 => clear_value x); revert x; change Keeps _ _ _)
    | (extract_lets +onlyGivenNames x; clear_value x)
    | with_reducible apply OutKeeps.next
    | with_reducible apply State.bnkShow_keeps
    | with_reducible apply State.requeue_keeps
    | with_reducible apply State.cancelRequest_keeps
    | with_reducible apply State.postpone_keeps
    | with_reducible apply State.prepare_keeps
    | with_reducible apply State.latency_keeps
    | with_reducible apply State.at_keeps
    | split)

/-- Changes at most: fresh, regs, ticks, reports, warps, learn, acc, shuttles, seqTok, banks, cmps. -/
theorem State.decideStart_keeps {P : Nat} {s₀ : State} (s : State) (b : ℕ) (r : Request)
    (hP : 14774448146 &&& P = 14774448146) (h : Keeps P s₀ s) :
    Keeps P s₀ (State.decideStart s b r) := by
  unfold State.decideStart
  repeat' (first
    | with_reducible assumption
    | exact Mask.sub hP (by decide)
    | (extract_lets +onlyGivenNames x; refine Keeps.cut P s₀ x ?_ fun hx => ?_; (on_goal 2 => clear_value x); revert x; change Keeps _ _ _)
    | (extract_lets +onlyGivenNames x; clear_value x)
    | with_reducible apply State.requeue_keeps
    | with_reducible apply State.drop_keeps
    | with_reducible apply State.cancelRequest_keeps
    | with_reducible apply State.postpone_keeps
    | with_reducible apply State.grant_keeps
    | split)

/-- Changes at most: now, fresh, regs, ticks, reports, warps, learn, acc, shuttles, seqTok, banks, cmps. -/
theorem execBankStartDecision_keeps {P : Nat} {s₀ : State} (t : Word) (b : Fin 12) (s : State)
    (hP : 14774448147 &&& P = 14774448147) (h : Keeps P s₀ s) :
    OutKeeps P s₀ (execBankStartDecision t b s) := by
  unfold execBankStartDecision
  repeat' (first
    | with_reducible assumption
    | exact Mask.sub hP (by decide)
    | (extract_lets +onlyGivenNames x; refine Keeps.cut P s₀ x ?_ fun hx => ?_; (on_goal 2 => clear_value x); revert x; change Keeps _ _ _)
    | (extract_lets +onlyGivenNames x; clear_value x)
    | with_reducible apply OutKeeps.next
    | with_reducible apply State.bnkShow_keeps
    | with_reducible apply State.decideStart_keeps
    | with_reducible apply State.at_keeps
    | split)

/-- Changes at most: regs, banks, cmps. -/
theorem State.bankStop_keeps {P : Nat} {s₀ : State} (s : State) (b : ℕ) (n : ℕ) (i : ℕ) (t : Word)
    (hP : 12884901904 &&& P = 12884901904) (h : Keeps P s₀ s) :
    Keeps P s₀ (State.bankStop s b n i t) := by
  unfold State.bankStop
  repeat' (first
    | with_reducible assumption
    | exact Mask.sub hP (by decide)
    | with_reducible apply State.toStop_keeps
    | split)

/-- Changes at most: now, fresh, regs, ticks, reports, shuttles, seqTok, banks, cmps. -/
theorem execPulseStop_keeps {P : Nat} {s₀ : State} (t : Word) (n : Fin 64) (s : State)
    (hP : 14495526931 &&& P = 14495526931) (h : Keeps P s₀ s) :
    OutKeeps P s₀ (execPulseStop t n s) := by
  unfold execPulseStop
  repeat' (first
    | with_reducible assumption
    | exact Mask.sub hP (by decide)
    | (extract_lets +onlyGivenNames x; refine Keeps.cut P s₀ x ?_ fun hx => ?_; (on_goal 2 => clear_value x); revert x; change Keeps _ _ _)
    | (extract_lets +onlyGivenNames x; clear_value x)
    | (extract_lets +onlyGivenNames x)
    | with_reducible apply OutKeeps.next
    | with_reducible apply State.bankStop_keeps
    | with_reducible apply State.report_keeps
    | with_reducible apply State.at_keeps
    | with_reducible apply State.commitStop_keeps
    | with_reducible apply State.pulseOver_keeps
    | split)

/-- Changes at most: fresh, regs, ticks, reports, shuttles, seqTok, banks, cmps. -/
theorem State.bankCut_keeps {P : Nat} {s₀ : State} (s : State) (b : ℕ) (all : Bool)
    (hP : 14495526930 &&& P = 14495526930) (h : Keeps P s₀ s) :
    Keeps P s₀ (State.bankCut s b all) := by
  unfold State.bankCut
  repeat' (first
    | with_reducible assumption
    | exact Mask.sub hP (by decide)
    | (extract_lets +onlyGivenNames x; refine Keeps.cut P s₀ x ?_ fun hx => ?_; (on_goal 2 => clear_value x); revert x; change Keeps _ _ _)
    | (extract_lets +onlyGivenNames x; clear_value x)
    | with_reducible apply State.bnkShow_keeps
    | with_reducible apply State.endTail_keeps
    | with_reducible apply State.cancelRequest_keeps
    | with_reducible apply State.toStop_keeps
    | with_reducible apply State.pulseCut_keeps
    | with_reducible apply Keeps.foldl
    | split
    | (intro _ _ _))

/-- Changes at most: now, fresh, regs, ticks, reports, shTok, bkTok, shuttles, seqTok, banks, cmps, dmaTrigs. -/
theorem execRotationLost_keeps {P : Nat} {s₀ : State} (t : Word) (dst : TokenDest) (s : State)
    (hP : 576460766849282067 &&& P = 576460766849282067) (h : Keeps P s₀ s) :
    OutKeeps P s₀ (execRotationLost t dst s) := by
  unfold execRotationLost
  repeat' (first
    | with_reducible assumption
    | exact Mask.sub hP (by decide)
    | (extract_lets +onlyGivenNames x; refine Keeps.cut P s₀ x ?_ fun hx => ?_; (on_goal 2 => clear_value x); revert x; change Keeps _ _ _)
    | (extract_lets +onlyGivenNames x; clear_value x)
    | with_reducible apply OutKeeps.next
    | with_reducible apply State.bankCut_keeps
    | with_reducible apply State.at_keeps
    | with_reducible apply State.shtLoseAll_keeps
    | split
    | with_reducible apply Keeps.upd_shTok
    | with_reducible apply Keeps.upd_bkTok
    | (apply Keeps.many; (case h => assumption); (case hq => rfl); (case hf => exact Nat.le_refl _); (case hc => exact fun hc => hc); (case hm => exact fun h => h); (case hp => (intro p; cases p <;> first | exact Or.inr rfl | exact Or.inl (Mask.mem hP (by decide))))))

/-- Changes at most: fresh, regs, ticks, reports, acc, shuttles, seqTok, banks, cmps. -/
theorem State.contEnable_keeps {P : Nat} {s₀ : State} (s : State) (b : ℕ)
    (hP : 14763962386 &&& P = 14763962386) (h : Keeps P s₀ s) :
    Keeps P s₀ (State.contEnable s b) := by
  unfold State.contEnable
  repeat' (first
    | with_reducible assumption
    | exact Mask.sub hP (by decide)
    | (extract_lets +onlyGivenNames x; refine Keeps.cut P s₀ x ?_ fun hx => ?_; (on_goal 2 => clear_value x); revert x; change Keeps _ _ _)
    | (extract_lets +onlyGivenNames x; clear_value x)
    | with_reducible apply State.contTry_keeps
    | with_reducible apply State.setBk_keeps)

/-- Changes at most: regs, banks, cmps. -/
theorem State.contDisable_keeps {P : Nat} {s₀ : State} (s : State) (b : ℕ)
    (hP : 12884901904 &&& P = 12884901904) (h : Keeps P s₀ s) :
    Keeps P s₀ (State.contDisable s b) := by
  unfold State.contDisable
  repeat' (first
    | with_reducible assumption
    | exact Mask.sub hP (by decide)
    | (extract_lets +onlyGivenNames x; refine Keeps.cut P s₀ x ?_ fun hx => ?_; (on_goal 2 => clear_value x); revert x; change Keeps _ _ _)
    | (extract_lets +onlyGivenNames x; clear_value x)
    | with_reducible apply State.toStop_keeps
    | with_reducible apply State.setBk_keeps
    | split)

/-- Changes at most: now, fresh, regs, ticks, reports, acc, shuttles, seqTok, banks, cmps. -/
theorem execContEnable_keeps {P : Nat} {s₀ : State} (t : Word) (b : Fin 12) (s : State)
    (hP : 14763962387 &&& P = 14763962387) (h : Keeps P s₀ s) :
    OutKeeps P s₀ (execContEnable t b s) := by
  unfold execContEnable
  repeat' (first
    | with_reducible assumption
    | exact Mask.sub hP (by decide)
    | (extract_lets +onlyGivenNames x; refine Keeps.cut P s₀ x ?_ fun hx => ?_; (on_goal 2 => clear_value x); revert x; change Keeps _ _ _)
    | (extract_lets +onlyGivenNames x; clear_value x)
    | with_reducible apply OutKeeps.next
    | with_reducible apply State.contEnable_keeps
    | with_reducible apply State.set_keeps
    | with_reducible apply State.wrej_keeps
    | with_reducible apply State.at_keeps
    | split)

/-- Changes at most: now, regs, ticks, banks, cmps. -/
theorem execContDisable_keeps {P : Nat} {s₀ : State} (t : Word) (b : Fin 12) (s : State)
    (hP : 12884906001 &&& P = 12884906001) (h : Keeps P s₀ s) :
    OutKeeps P s₀ (execContDisable t b s) := by
  unfold execContDisable
  repeat' (first
    | with_reducible assumption
    | exact Mask.sub hP (by decide)
    | (extract_lets +onlyGivenNames x; refine Keeps.cut P s₀ x ?_ fun hx => ?_; (on_goal 2 => clear_value x); revert x; change Keeps _ _ _)
    | (extract_lets +onlyGivenNames x; clear_value x)
    | with_reducible apply OutKeeps.next
    | with_reducible apply State.contDisable_keeps
    | with_reducible apply State.set_keeps
    | with_reducible apply State.wrej_keeps
    | with_reducible apply State.at_keeps
    | split)

/-- Changes at most: banks, cmps. -/
theorem State.contRetune_keeps {P : Nat} {s₀ : State} (s : State) (b : ℕ)
    (hP : 12884901888 &&& P = 12884901888) (h : Keeps P s₀ s) :
    Keeps P s₀ (State.contRetune s b) := by
  unfold State.contRetune
  repeat' (first
    | with_reducible assumption
    | exact Mask.sub hP (by decide)
    | with_reducible apply State.contLevels_keeps
    | split)

/-- Changes at most: now, regs, ticks, banks, cmps. -/
theorem execContSetpointWrite_keeps {P : Nat} {s₀ : State} (t : Word) (b : Fin 12) (service : Bool) (set : Fin 1024) (band : Fin 256) (s : State)
    (hP : 12884906001 &&& P = 12884906001) (h : Keeps P s₀ s) :
    OutKeeps P s₀ (execContSetpointWrite t b service set band s) := by
  unfold execContSetpointWrite
  repeat' (first
    | with_reducible assumption
    | exact Mask.sub hP (by decide)
    | (extract_lets +onlyGivenNames x; refine Keeps.cut P s₀ x ?_ fun hx => ?_; (on_goal 2 => clear_value x); revert x; change Keeps _ _ _)
    | (extract_lets +onlyGivenNames x; clear_value x)
    | (extract_lets +onlyGivenNames x)
    | with_reducible apply OutKeeps.next
    | with_reducible apply State.contRetune_keeps
    | with_reducible apply State.set_keeps
    | with_reducible apply State.wrej_keeps
    | with_reducible apply State.at_keeps
    | with_reducible apply State.writeReg_keeps
    | split)

/-- Changes at most: regs. -/
theorem State.bankClear_keeps {P : Nat} {s₀ : State} (s : State) (b : ℕ)
    (hP : 16 &&& P = 16) (h : Keeps P s₀ s) :
    Keeps P s₀ (State.bankClear s b) := by
  unfold State.bankClear
  repeat' (first
    | with_reducible assumption
    | exact Mask.sub hP (by decide)
    | (extract_lets +onlyGivenNames x; refine Keeps.cut P s₀ x ?_ fun hx => ?_; (on_goal 2 => clear_value x); revert x; change Keeps _ _ _)
    | (extract_lets +onlyGivenNames x; clear_value x)
    | (extract_lets +onlyGivenNames x)
    | with_reducible apply State.clearCounts_keeps
    | with_reducible apply State.clearMax_keeps
    | split)

/-- Changes at most: now, regs, ticks. -/
theorem execBnkCntClr_keeps {P : Nat} {s₀ : State} (t : Word) (b : Fin 12) (s : State)
    (hP : 4113 &&& P = 4113) (h : Keeps P s₀ s) :
    OutKeeps P s₀ (execBnkCntClr t b s) := by
  unfold execBnkCntClr
  repeat' (first
    | with_reducible assumption
    | exact Mask.sub hP (by decide)
    | (extract_lets +onlyGivenNames x; refine Keeps.cut P s₀ x ?_ fun hx => ?_; (on_goal 2 => clear_value x); revert x; change Keeps _ _ _)
    | (extract_lets +onlyGivenNames x; clear_value x)
    | with_reducible apply OutKeeps.next
    | with_reducible apply State.bankClear_keeps
    | with_reducible apply State.wrej_keeps
    | with_reducible apply State.at_keeps
    | split)

/-- Changes at most: boosts. -/
theorem State.setBst_keeps {P : Nat} {s₀ : State} (s : State) (g : ℕ) (k : Boost)
    (hP : 17179869184 &&& P = 17179869184) (h : Keeps P s₀ s) :
    Keeps P s₀ (State.setBst s g k) := by
  unfold State.setBst
  repeat' (first
    | with_reducible assumption
    | exact Mask.sub hP (by decide)
    | (extract_lets +onlyGivenNames x; refine Keeps.cut P s₀ x ?_ fun hx => ?_; (on_goal 2 => clear_value x); revert x; change Keeps _ _ _)
    | (extract_lets +onlyGivenNames x; clear_value x)
    | with_reducible apply Keeps.upd_boosts)

/-- Changes at most: reports. -/
theorem State.startEvent_keeps {P : Nat} {s₀ : State} (s : State)
    (hP : 8192 &&& P = 8192) (h : Keeps P s₀ s) :
    Keeps P s₀ (State.startEvent s) := by
  unfold State.startEvent
  repeat' (first
    | with_reducible assumption
    | exact Mask.sub hP (by decide)
    | with_reducible apply State.report_keeps
    | split)

/-- Changes at most: regs, reports. -/
theorem State.checkReady_keeps {P : Nat} {s₀ : State} (s : State)
    (hP : 8208 &&& P = 8208) (h : Keeps P s₀ s) :
    Keeps P s₀ (State.checkReady s) := by
  unfold State.checkReady
  repeat' (first
    | with_reducible assumption
    | exact Mask.sub hP (by decide)
    | (extract_lets +onlyGivenNames x; refine Keeps.cut P s₀ x ?_ fun hx => ?_; (on_goal 2 => clear_value x); revert x; change Keeps _ _ _)
    | (extract_lets +onlyGivenNames x; clear_value x)
    | (extract_lets +onlyGivenNames x)
    | with_reducible apply State.startEvent_keeps
    | with_reducible apply State.set_keeps
    | split)

/-- Changes at most: regs, boosts. -/
theorem State.boostOff_keeps {P : Nat} {s₀ : State} (s : State) (g : ℕ)
    (hP : 17179869200 &&& P = 17179869200) (h : Keeps P s₀ s) :
    Keeps P s₀ (State.boostOff s g) := by
  unfold State.boostOff
  repeat' (first
    | with_reducible assumption
    | exact Mask.sub hP (by decide)
    | (extract_lets +onlyGivenNames x; refine Keeps.cut P s₀ x ?_ fun hx => ?_; (on_goal 2 => clear_value x); revert x; change Keeps _ _ _)
    | (extract_lets +onlyGivenNames x; clear_value x)
    | with_reducible apply State.setBst_keeps
    | with_reducible apply State.set_keeps)

/-- Changes at most: now, regs, boosts. -/
theorem execBoostEnable_keeps {P : Nat} {s₀ : State} (t : Word) (g : Fin 3) (s : State)
    (hP : 17179869201 &&& P = 17179869201) (h : Keeps P s₀ s) :
    OutKeeps P s₀ (execBoostEnable t g s) := by
  unfold execBoostEnable
  repeat' (first
    | with_reducible assumption
    | exact Mask.sub hP (by decide)
    | (extract_lets +onlyGivenNames x; refine Keeps.cut P s₀ x ?_ fun hx => ?_; (on_goal 2 => clear_value x); revert x; change Keeps _ _ _)
    | (extract_lets +onlyGivenNames x; clear_value x)
    | with_reducible apply OutKeeps.next
    | with_reducible apply State.setBst_keeps
    | with_reducible apply State.set_keeps
    | with_reducible apply State.at_keeps
    | split)

/-- Changes at most: regs, ticks, reports, boosts. -/
theorem State.railLevels_keeps {P : Nat} {s₀ : State} (s : State) (g : ℕ) (v : ℕ)
    (hP : 17179881488 &&& P = 17179881488) (h : Keeps P s₀ s) :
    Keeps P s₀ (State.railLevels s g v) := by
  unfold State.railLevels
  repeat' (first
    | with_reducible assumption
    | exact Mask.sub hP (by decide)
    | (extract_lets +onlyGivenNames x; refine Keeps.cut P s₀ x ?_ fun hx => ?_; (on_goal 2 => clear_value x); revert x; change Keeps _ _ _)
    | (extract_lets +onlyGivenNames x; clear_value x)
    | with_reducible apply State.setBst_keeps
    | with_reducible apply State.flag_keeps
    | with_reducible apply State.stick_keeps
    | with_reducible apply State.inc_keeps
    | with_reducible apply State.report_keeps
    | split)

/-- Changes at most: now, regs, ticks, reports, acc, boosts. -/
theorem execBoostRailSample_keeps {P : Nat} {s₀ : State} (t : Word) (g : Fin 3) (rail : Fin 4096) (s : State)
    (hP : 17448316945 &&& P = 17448316945) (h : Keeps P s₀ s) :
    OutKeeps P s₀ (execBoostRailSample t g rail s) := by
  unfold execBoostRailSample
  repeat' (first
    | with_reducible assumption
    | exact Mask.sub hP (by decide)
    | (extract_lets +onlyGivenNames x; refine Keeps.cut P s₀ x ?_ fun hx => ?_; (on_goal 2 => clear_value x); revert x; change Keeps _ _ _)
    | (extract_lets +onlyGivenNames x; clear_value x)
    | (extract_lets +onlyGivenNames x)
    | with_reducible apply OutKeeps.next
    | with_reducible apply State.setBst_keeps
    | with_reducible apply State.checkReady_keeps
    | with_reducible apply State.railLevels_keeps
    | with_reducible apply State.set_keeps
    | with_reducible apply State.extreme_keeps
    | with_reducible apply State.at_keeps
    | split)

/-- Changes at most: now, causes, boosts. -/
theorem execBoostOvPersist_keeps {P : Nat} {s₀ : State} (t : Word) (g : Fin 3) (s : State)
    (hP : 17179934721 &&& P = 17179934721) (h : Keeps P s₀ s) :
    OutKeeps P s₀ (execBoostOvPersist t g s) := by
  unfold execBoostOvPersist
  repeat' (first
    | with_reducible assumption
    | exact Mask.sub hP (by decide)
    | (extract_lets +onlyGivenNames x; refine Keeps.cut P s₀ x ?_ fun hx => ?_; (on_goal 2 => clear_value x); revert x; change Keeps _ _ _)
    | (extract_lets +onlyGivenNames x; clear_value x)
    | (extract_lets +onlyGivenNames x)
    | with_reducible apply OutKeeps.next
    | with_reducible apply State.setBst_keeps
    | with_reducible apply State.cause_keeps
    | with_reducible apply State.at_keeps
    | split)

end Sys2Proof.Machine
end

