-- ==== Sys2Proof/Laws/KeepsDma.lean ====
section
/-!
SUPPORT. What each operation of Machine/Dma.lean may change (Laws/Keeps.lean).
-/
set_option linter.unusedTactic false
set_option linter.unreachableTactic false
namespace Sys2Proof.Machine

/-- Changes at most: dma. -/
theorem State.setCh_keeps {P : Nat} {s₀ : State} (s : State) (c : ℕ) (k : DmaChan)
    (hP : 288230376151711744 &&& P = 288230376151711744) (h : Keeps P s₀ s) :
    Keeps P s₀ (State.setCh s c k) := by
  unfold State.setCh
  repeat' (first
    | with_reducible assumption
    | exact Mask.sub hP (by decide)
    | (extract_lets +onlyGivenNames x; refine Keeps.cut P s₀ x ?_ fun hx => ?_; (on_goal 2 => clear_value x); revert x; change Keeps _ _ _)
    | (extract_lets +onlyGivenNames x; clear_value x)
    | with_reducible apply Keeps.upd_dma)

/-- Changes at most: regs. -/
theorem State.dmGo_keeps {P : Nat} {s₀ : State} (s : State) (c : ℕ) (st : ℕ)
    (hP : 16 &&& P = 16) (h : Keeps P s₀ s) :
    Keeps P s₀ (State.dmGo s c st) := by
  unfold State.dmGo
  repeat' (first
    | with_reducible assumption
    | exact Mask.sub hP (by decide)
    | with_reducible apply State.set_keeps)

/-- Changes at most: regs, dma. -/
theorem State.dmaLoad_keeps {P : Nat} {s₀ : State} (s : State) (c : ℕ) (t : Word)
    (hP : 288230376151711760 &&& P = 288230376151711760) (h : Keeps P s₀ s) :
    Keeps P s₀ (State.dmaLoad s c t) := by
  unfold State.dmaLoad
  repeat' (first
    | with_reducible assumption
    | exact Mask.sub hP (by decide)
    | (extract_lets +onlyGivenNames x; refine Keeps.cut P s₀ x ?_ fun hx => ?_; (on_goal 2 => clear_value x); revert x; change Keeps _ _ _)
    | (extract_lets +onlyGivenNames x; clear_value x)
    | with_reducible apply State.setCh_keeps
    | with_reducible apply State.dmGo_keeps
    | with_reducible apply State.set_keeps)

/-- Changes at most: regs, dma. -/
theorem State.dmaWait_keeps {P : Nat} {s₀ : State} (s : State) (c : ℕ)
    (hP : 288230376151711760 &&& P = 288230376151711760) (h : Keeps P s₀ s) :
    Keeps P s₀ (State.dmaWait s c) := by
  unfold State.dmaWait
  repeat' (first
    | with_reducible assumption
    | exact Mask.sub hP (by decide)
    | (extract_lets +onlyGivenNames x; refine Keeps.cut P s₀ x ?_ fun hx => ?_; (on_goal 2 => clear_value x); revert x; change Keeps _ _ _)
    | (extract_lets +onlyGivenNames x; clear_value x)
    | with_reducible apply State.setCh_keeps
    | with_reducible apply State.dmGo_keeps
    | with_reducible apply State.dmaLoad_keeps
    | with_reducible apply State.set_keeps
    | split)

/-- Changes at most: regs, ticks, dma. -/
theorem State.dmaArrive_keeps {P : Nat} {s₀ : State} (s : State) (c : ℕ) (t : Word)
    (hP : 288230376151715856 &&& P = 288230376151715856) (h : Keeps P s₀ s) :
    Keeps P s₀ (State.dmaArrive s c t) := by
  unfold State.dmaArrive
  repeat' (first
    | with_reducible assumption
    | exact Mask.sub hP (by decide)
    | (extract_lets +onlyGivenNames x; refine Keeps.cut P s₀ x ?_ fun hx => ?_; (on_goal 2 => clear_value x); revert x; change Keeps _ _ _)
    | (extract_lets +onlyGivenNames x; clear_value x)
    | (extract_lets +onlyGivenNames x)
    | with_reducible apply State.setCh_keeps
    | with_reducible apply State.dmaLoad_keeps
    | with_reducible apply State.set_keeps
    | with_reducible apply State.inc_keeps
    | split)

/-- Changes at most: regs, ticks, dma. -/
theorem State.dmaGo_keeps {P : Nat} {s₀ : State} (s : State) (c : ℕ)
    (hP : 288230376151715856 &&& P = 288230376151715856) (h : Keeps P s₀ s) :
    Keeps P s₀ (State.dmaGo s c) := by
  unfold State.dmaGo
  repeat' (first
    | with_reducible assumption
    | exact Mask.sub hP (by decide)
    | with_reducible apply State.dmaArrive_keeps
    | with_reducible apply State.wrej_keeps
    | split)

/-- Changes at most: now, regs, ticks, dma, ahead. -/
theorem execDmaGo_keeps {P : Nat} {s₀ : State} (t : Word) (c : Fin 16) (s : State)
    (hP : 1441151880758562833 &&& P = 1441151880758562833) (h : Keeps P s₀ s) :
    OutKeeps P s₀ (execDmaGo t c s) := by
  unfold execDmaGo
  repeat' (first
    | with_reducible assumption
    | exact Mask.sub hP (by decide)
    | (extract_lets +onlyGivenNames x; refine Keeps.cut P s₀ x ?_ fun hx => ?_; (on_goal 2 => clear_value x); revert x; change Keeps _ _ _)
    | (extract_lets +onlyGivenNames x; clear_value x)
    | with_reducible apply OutKeeps.next
    | with_reducible apply State.dmaGo_keeps
    | with_reducible apply State.passed_keeps
    | with_reducible apply State.at_keeps
    | split)

/-- Changes at most: regs, ticks, dma, dmaTrigs. -/
theorem State.dmaTrigger_keeps {P : Nat} {s₀ : State} (s : State) (c : ℕ)
    (hP : 864691128455139344 &&& P = 864691128455139344) (h : Keeps P s₀ s) :
    Keeps P s₀ (State.dmaTrigger s c) := by
  unfold State.dmaTrigger
  repeat' (first
    | with_reducible assumption
    | exact Mask.sub hP (by decide)
    | (extract_lets +onlyGivenNames x; refine Keeps.cut P s₀ x ?_ fun hx => ?_; (on_goal 2 => clear_value x); revert x; change Keeps _ _ _)
    | (extract_lets +onlyGivenNames x; clear_value x)
    | with_reducible apply State.dmaArrive_keeps
    | split
    | with_reducible apply Keeps.upd_dmaTrigs)

/-- Changes at most: now, regs, ticks, dma, dmaTrigs, ahead. -/
theorem execDmaTrigger_keeps {P : Nat} {s₀ : State} (t : Word) (c : Fin 16) (s : State)
    (hP : 2017612633061986321 &&& P = 2017612633061986321) (h : Keeps P s₀ s) :
    OutKeeps P s₀ (execDmaTrigger t c s) := by
  unfold execDmaTrigger
  repeat' (first
    | with_reducible assumption
    | exact Mask.sub hP (by decide)
    | (extract_lets +onlyGivenNames x; refine Keeps.cut P s₀ x ?_ fun hx => ?_; (on_goal 2 => clear_value x); revert x; change Keeps _ _ _)
    | (extract_lets +onlyGivenNames x; clear_value x)
    | with_reducible apply OutKeeps.next
    | with_reducible apply State.dmaTrigger_keeps
    | with_reducible apply State.passed_keeps
    | with_reducible apply State.at_keeps
    | split)

/-- Changes at most: regs, dma. -/
theorem State.dmaStopped_keeps {P : Nat} {s₀ : State} (s : State) (c : ℕ)
    (hP : 288230376151711760 &&& P = 288230376151711760) (h : Keeps P s₀ s) :
    Keeps P s₀ (State.dmaStopped s c) := by
  unfold State.dmaStopped
  repeat' (first
    | with_reducible assumption
    | exact Mask.sub hP (by decide)
    | (extract_lets +onlyGivenNames x; refine Keeps.cut P s₀ x ?_ fun hx => ?_; (on_goal 2 => clear_value x); revert x; change Keeps _ _ _)
    | (extract_lets +onlyGivenNames x; clear_value x)
    | with_reducible apply State.setCh_keeps
    | with_reducible apply State.dmGo_keeps
    | split)

/-- Changes at most: regs, ticks, dma. -/
theorem State.dmaStop_keeps {P : Nat} {s₀ : State} (s : State) (c : ℕ)
    (hP : 288230376151715856 &&& P = 288230376151715856) (h : Keeps P s₀ s) :
    Keeps P s₀ (State.dmaStop s c) := by
  unfold State.dmaStop
  repeat' (first
    | with_reducible assumption
    | exact Mask.sub hP (by decide)
    | (extract_lets +onlyGivenNames x; refine Keeps.cut P s₀ x ?_ fun hx => ?_; (on_goal 2 => clear_value x); revert x; change Keeps _ _ _)
    | (extract_lets +onlyGivenNames x; clear_value x)
    | (extract_lets +onlyGivenNames x)
    | with_reducible apply State.setCh_keeps
    | with_reducible apply State.dmaStopped_keeps
    | with_reducible apply State.set_keeps
    | with_reducible apply State.inc_keeps
    | split)

/-- Changes at most: now, regs, ticks, dma. -/
theorem execDmaStop_keeps {P : Nat} {s₀ : State} (t : Word) (c : Fin 16) (s : State)
    (hP : 288230376151715857 &&& P = 288230376151715857) (h : Keeps P s₀ s) :
    OutKeeps P s₀ (execDmaStop t c s) := by
  unfold execDmaStop
  repeat' (first
    | with_reducible assumption
    | exact Mask.sub hP (by decide)
    | (extract_lets +onlyGivenNames x; refine Keeps.cut P s₀ x ?_ fun hx => ?_; (on_goal 2 => clear_value x); revert x; change Keeps _ _ _)
    | (extract_lets +onlyGivenNames x; clear_value x)
    | with_reducible apply OutKeeps.next
    | with_reducible apply State.dmaStop_keeps
    | with_reducible apply State.wrej_keeps
    | with_reducible apply State.at_keeps
    | split)

/-- Changes at most: regs, ticks, dma. -/
theorem State.dmaResume_keeps {P : Nat} {s₀ : State} (s : State) (c : ℕ)
    (hP : 288230376151715856 &&& P = 288230376151715856) (h : Keeps P s₀ s) :
    Keeps P s₀ (State.dmaResume s c) := by
  unfold State.dmaResume
  repeat' (first
    | with_reducible assumption
    | exact Mask.sub hP (by decide)
    | (extract_lets +onlyGivenNames x; refine Keeps.cut P s₀ x ?_ fun hx => ?_; (on_goal 2 => clear_value x); revert x; change Keeps _ _ _)
    | (extract_lets +onlyGivenNames x; clear_value x)
    | (extract_lets +onlyGivenNames x)
    | with_reducible apply State.dmaWait_keeps
    | with_reducible apply State.set_keeps
    | with_reducible apply State.wrej_keeps
    | split)

/-- Changes at most: now, regs, ticks, dma, ahead. -/
theorem execDmaResume_keeps {P : Nat} {s₀ : State} (t : Word) (c : Fin 16) (s : State)
    (hP : 1441151880758562833 &&& P = 1441151880758562833) (h : Keeps P s₀ s) :
    OutKeeps P s₀ (execDmaResume t c s) := by
  unfold execDmaResume
  repeat' (first
    | with_reducible assumption
    | exact Mask.sub hP (by decide)
    | (extract_lets +onlyGivenNames x; refine Keeps.cut P s₀ x ?_ fun hx => ?_; (on_goal 2 => clear_value x); revert x; change Keeps _ _ _)
    | (extract_lets +onlyGivenNames x; clear_value x)
    | with_reducible apply OutKeeps.next
    | with_reducible apply State.dmaResume_keeps
    | with_reducible apply State.passed_keeps
    | with_reducible apply State.at_keeps
    | split)

/-- Changes at most: regs, dma. -/
theorem State.dmaEnable_keeps {P : Nat} {s₀ : State} (s : State) (c : ℕ)
    (hP : 288230376151711760 &&& P = 288230376151711760) (h : Keeps P s₀ s) :
    Keeps P s₀ (State.dmaEnable s c) := by
  unfold State.dmaEnable
  repeat' (first
    | with_reducible assumption
    | exact Mask.sub hP (by decide)
    | (extract_lets +onlyGivenNames x; refine Keeps.cut P s₀ x ?_ fun hx => ?_; (on_goal 2 => clear_value x); revert x; change Keeps _ _ _)
    | (extract_lets +onlyGivenNames x; clear_value x)
    | with_reducible apply State.dmaWait_keeps
    | with_reducible apply State.set_keeps
    | split)

/-- Changes at most: regs, ticks, dma. -/
theorem State.dmaSwitchOn_keeps {P : Nat} {s₀ : State} (s : State) (c : ℕ)
    (hP : 288230376151715856 &&& P = 288230376151715856) (h : Keeps P s₀ s) :
    Keeps P s₀ (State.dmaSwitchOn s c) := by
  unfold State.dmaSwitchOn
  repeat' (first
    | with_reducible assumption
    | exact Mask.sub hP (by decide)
    | with_reducible apply State.dmaEnable_keeps
    | with_reducible apply State.wrej_keeps
    | split)

/-- Changes at most: now, regs, ticks, dma, ahead. -/
theorem execDmaEnable_keeps {P : Nat} {s₀ : State} (t : Word) (c : Fin 16) (s : State)
    (hP : 1441151880758562833 &&& P = 1441151880758562833) (h : Keeps P s₀ s) :
    OutKeeps P s₀ (execDmaEnable t c s) := by
  unfold execDmaEnable
  repeat' (first
    | with_reducible assumption
    | exact Mask.sub hP (by decide)
    | (extract_lets +onlyGivenNames x; refine Keeps.cut P s₀ x ?_ fun hx => ?_; (on_goal 2 => clear_value x); revert x; change Keeps _ _ _)
    | (extract_lets +onlyGivenNames x; clear_value x)
    | with_reducible apply OutKeeps.next
    | with_reducible apply State.dmaSwitchOn_keeps
    | with_reducible apply State.passed_keeps
    | with_reducible apply State.at_keeps
    | split)

/-- Changes at most: regs, ticks, dma. -/
theorem State.dmaDisable_keeps {P : Nat} {s₀ : State} (s : State) (c : ℕ)
    (hP : 288230376151715856 &&& P = 288230376151715856) (h : Keeps P s₀ s) :
    Keeps P s₀ (State.dmaDisable s c) := by
  unfold State.dmaDisable
  repeat' (first
    | with_reducible assumption
    | exact Mask.sub hP (by decide)
    | (extract_lets +onlyGivenNames x; refine Keeps.cut P s₀ x ?_ fun hx => ?_; (on_goal 2 => clear_value x); revert x; change Keeps _ _ _)
    | (extract_lets +onlyGivenNames x; clear_value x)
    | with_reducible apply State.dmGo_keeps
    | with_reducible apply State.dmaStop_keeps
    | with_reducible apply State.set_keeps
    | split)

/-- Changes at most: now, regs, ticks, dma. -/
theorem execDmaDisable_keeps {P : Nat} {s₀ : State} (t : Word) (c : Fin 16) (s : State)
    (hP : 288230376151715857 &&& P = 288230376151715857) (h : Keeps P s₀ s) :
    OutKeeps P s₀ (execDmaDisable t c s) := by
  unfold execDmaDisable
  repeat' (first
    | with_reducible assumption
    | exact Mask.sub hP (by decide)
    | (extract_lets +onlyGivenNames x; refine Keeps.cut P s₀ x ?_ fun hx => ?_; (on_goal 2 => clear_value x); revert x; change Keeps _ _ _)
    | (extract_lets +onlyGivenNames x; clear_value x)
    | with_reducible apply OutKeeps.next
    | with_reducible apply State.dmaDisable_keeps
    | with_reducible apply State.wrej_keeps
    | with_reducible apply State.at_keeps
    | split)

/-- Changes at most: regs, ticks, reports, dma. -/
theorem State.dmaHalt_keeps {P : Nat} {s₀ : State} (s : State) (c : ℕ) (cause : ℕ)
    (hP : 288230376151724048 &&& P = 288230376151724048) (h : Keeps P s₀ s) :
    Keeps P s₀ (State.dmaHalt s c cause) := by
  unfold State.dmaHalt
  repeat' (first
    | with_reducible assumption
    | exact Mask.sub hP (by decide)
    | (extract_lets +onlyGivenNames x; refine Keeps.cut P s₀ x ?_ fun hx => ?_; (on_goal 2 => clear_value x); revert x; change Keeps _ _ _)
    | (extract_lets +onlyGivenNames x; clear_value x)
    | with_reducible apply State.setCh_keeps
    | with_reducible apply State.dmGo_keeps
    | with_reducible apply State.set_keeps
    | with_reducible apply State.inc_keeps
    | with_reducible apply State.report_keeps)

/-- Changes at most: regs, reports, dma. -/
theorem State.dmaToPause_keeps {P : Nat} {s₀ : State} (s : State) (c : ℕ)
    (hP : 288230376151719952 &&& P = 288230376151719952) (h : Keeps P s₀ s) :
    Keeps P s₀ (State.dmaToPause s c) := by
  unfold State.dmaToPause
  repeat' (first
    | with_reducible assumption
    | exact Mask.sub hP (by decide)
    | (extract_lets +onlyGivenNames x; refine Keeps.cut P s₀ x ?_ fun hx => ?_; (on_goal 2 => clear_value x); revert x; change Keeps _ _ _)
    | (extract_lets +onlyGivenNames x; clear_value x)
    | with_reducible apply State.setCh_keeps
    | with_reducible apply State.dmGo_keeps
    | with_reducible apply State.dmaStopped_keeps
    | with_reducible apply State.report_keeps
    | split)

/-- Changes at most: regs. -/
theorem State.dmaFail_keeps {P : Nat} {s₀ : State} (s : State) (c : ℕ) (addr : ℕ) (ack : ℕ) (retries : ℕ)
    (hP : 16 &&& P = 16) (h : Keeps P s₀ s) :
    Keeps P s₀ (State.dmaFail s c addr ack retries) := by
  unfold State.dmaFail
  repeat' (first
    | with_reducible assumption
    | exact Mask.sub hP (by decide)
    | with_reducible apply State.set_keeps)

/-- Changes at most: regs, reports, dma, dmaTrigs. -/
theorem State.dmaEnd_keeps {P : Nat} {s₀ : State} (s : State) (c : ℕ) (d : Desc)
    (hP : 864691128455143440 &&& P = 864691128455143440) (h : Keeps P s₀ s) :
    Keeps P s₀ (State.dmaEnd s c d) := by
  unfold State.dmaEnd
  repeat' (first
    | with_reducible assumption
    | exact Mask.sub hP (by decide)
    | (extract_lets +onlyGivenNames x; refine Keeps.cut P s₀ x ?_ fun hx => ?_; (on_goal 2 => clear_value x); revert x; change Keeps _ _ _)
    | (extract_lets +onlyGivenNames x; clear_value x)
    | (extract_lets +onlyGivenNames x)
    | with_reducible apply State.setCh_keeps
    | with_reducible apply State.dmaLoad_keeps
    | with_reducible apply State.dmaWait_keeps
    | with_reducible apply State.dmaStopped_keeps
    | with_reducible apply State.set_keeps
    | with_reducible apply State.incMod_keeps
    | with_reducible apply State.report_keeps
    | split
    | with_reducible apply Keeps.upd_dmaTrigs)

/-- Changes at most: regs, dma. -/
theorem State.dmaReturn_keeps {P : Nat} {s₀ : State} (s : State) (c : ℕ)
    (hP : 288230376151711760 &&& P = 288230376151711760) (h : Keeps P s₀ s) :
    Keeps P s₀ (State.dmaReturn s c) := by
  unfold State.dmaReturn
  repeat' (first
    | with_reducible assumption
    | exact Mask.sub hP (by decide)
    | with_reducible apply State.dmaLoad_keeps
    | split)

/-- Changes at most: now, regs, dma, ahead. -/
theorem execDmaDomainReturn_keeps {P : Nat} {s₀ : State} (t : Word) (c : Fin 16) (s : State)
    (hP : 1441151880758558737 &&& P = 1441151880758558737) (h : Keeps P s₀ s) :
    OutKeeps P s₀ (execDmaDomainReturn t c s) := by
  unfold execDmaDomainReturn
  repeat' (first
    | with_reducible assumption
    | exact Mask.sub hP (by decide)
    | (extract_lets +onlyGivenNames x; refine Keeps.cut P s₀ x ?_ fun hx => ?_; (on_goal 2 => clear_value x); revert x; change Keeps _ _ _)
    | (extract_lets +onlyGivenNames x; clear_value x)
    | with_reducible apply OutKeeps.next
    | with_reducible apply State.dmaReturn_keeps
    | with_reducible apply State.passed_keeps
    | with_reducible apply State.at_keeps
    | split)

/-- Changes at most: regs. -/
theorem State.dmaClear_keeps {P : Nat} {s₀ : State} (s : State) (c : ℕ)
    (hP : 16 &&& P = 16) (h : Keeps P s₀ s) :
    Keeps P s₀ (State.dmaClear s c) := by
  unfold State.dmaClear
  repeat' (first
    | with_reducible assumption
    | exact Mask.sub hP (by decide)
    | with_reducible apply State.clearCounts_keeps)

/-- Changes at most: now, regs, ticks. -/
theorem execDmaCntClr_keeps {P : Nat} {s₀ : State} (t : Word) (c : Fin 16) (s : State)
    (hP : 4113 &&& P = 4113) (h : Keeps P s₀ s) :
    OutKeeps P s₀ (execDmaCntClr t c s) := by
  unfold execDmaCntClr
  repeat' (first
    | with_reducible assumption
    | exact Mask.sub hP (by decide)
    | (extract_lets +onlyGivenNames x; refine Keeps.cut P s₀ x ?_ fun hx => ?_; (on_goal 2 => clear_value x); revert x; change Keeps _ _ _)
    | (extract_lets +onlyGivenNames x; clear_value x)
    | with_reducible apply OutKeeps.next
    | with_reducible apply State.dmaClear_keeps
    | with_reducible apply State.wrej_keeps
    | with_reducible apply State.at_keeps
    | split)

end Sys2Proof.Machine
end

