-- ==== Sys2Proof/Laws/KeepsDiag.lean ====
section
/-!
SUPPORT. What each operation of Machine/Diag.lean may change (Laws/Keeps.lean).
-/
set_option linter.unusedTactic false
set_option linter.unreachableTactic false
namespace Sys2Proof.Machine

/-- Changes at most: now, fresh, regs, ticks, reports, causes, acc, shuttles, seqTok, banks, cmps. -/
theorem execOpenLoadCheck_keeps {P : Nat} {s₀ : State} (t : Word) (b : Fin 12) (uv : ℕ) (s : State)
    (hP : 14764027923 &&& P = 14764027923) (h : Keeps P s₀ s) :
    OutKeeps P s₀ (execOpenLoadCheck t b uv s) := by
  unfold execOpenLoadCheck
  repeat' (first
    | with_reducible assumption
    | exact Mask.sub hP (by decide)
    | (extract_lets +onlyGivenNames x; refine Keeps.cut P s₀ x ?_ fun hx => ?_; (on_goal 2 => clear_value x); revert x; change Keeps _ _ _)
    | (extract_lets +onlyGivenNames x; clear_value x)
    | (extract_lets +onlyGivenNames x)
    | with_reducible apply OutKeeps.next
    | with_reducible apply State.detect_keeps
    | with_reducible apply State.setBk_keeps
    | with_reducible apply State.at_keeps
    | split)

/-- Changes at most: now, fresh, regs, ticks, reports, causes, acc, shuttles, seqTok, banks, cmps. -/
theorem execLsDesat_keeps {P : Nat} {s₀ : State} (t : Word) (b : Fin 12) (mv : ℕ) (s : State)
    (hP : 14764027923 &&& P = 14764027923) (h : Keeps P s₀ s) :
    OutKeeps P s₀ (execLsDesat t b mv s) := by
  unfold execLsDesat
  repeat' (first
    | with_reducible assumption
    | exact Mask.sub hP (by decide)
    | (extract_lets +onlyGivenNames x; refine Keeps.cut P s₀ x ?_ fun hx => ?_; (on_goal 2 => clear_value x); revert x; change Keeps _ _ _)
    | (extract_lets +onlyGivenNames x; clear_value x)
    | (extract_lets +onlyGivenNames x)
    | with_reducible apply OutKeeps.next
    | with_reducible apply State.detect_keeps
    | with_reducible apply State.clearBit_keeps
    | with_reducible apply State.at_keeps
    | split)

/-- Changes at most: now, fresh, regs, ticks, reports, causes, acc, shuttles, seqTok, banks, cmps. -/
theorem execHsDesat_keeps {P : Nat} {s₀ : State} (t : Word) (b : Fin 12) (mv : ℕ) (s : State)
    (hP : 14764027923 &&& P = 14764027923) (h : Keeps P s₀ s) :
    OutKeeps P s₀ (execHsDesat t b mv s) := by
  unfold execHsDesat
  repeat' (first
    | with_reducible assumption
    | exact Mask.sub hP (by decide)
    | (extract_lets +onlyGivenNames x; refine Keeps.cut P s₀ x ?_ fun hx => ?_; (on_goal 2 => clear_value x); revert x; change Keeps _ _ _)
    | (extract_lets +onlyGivenNames x; clear_value x)
    | (extract_lets +onlyGivenNames x)
    | with_reducible apply OutKeeps.next
    | with_reducible apply State.detect_keeps
    | with_reducible apply State.clearBit_keeps
    | with_reducible apply State.at_keeps
    | split)

/-- Changes at most: now, regs, banks, cmps. -/
theorem execCrossCheckFail_keeps {P : Nat} {s₀ : State} (t : Word) (b : Fin 12) (c : Fin 4) (mv : ℕ) (s : State)
    (hP : 12884901905 &&& P = 12884901905) (h : Keeps P s₀ s) :
    OutKeeps P s₀ (execCrossCheckFail t b c mv s) := by
  unfold execCrossCheckFail
  repeat' (first
    | with_reducible assumption
    | exact Mask.sub hP (by decide)
    | (extract_lets +onlyGivenNames x; refine Keeps.cut P s₀ x ?_ fun hx => ?_; (on_goal 2 => clear_value x); revert x; change Keeps _ _ _)
    | (extract_lets +onlyGivenNames x; clear_value x)
    | (extract_lets +onlyGivenNames x)
    | with_reducible apply OutKeeps.next
    | with_reducible apply State.setBk_keeps
    | with_reducible apply State.set_keeps
    | with_reducible apply State.at_keeps
    | split)

/-- Changes at most: now, regs, ticks, banks, cmps. -/
theorem execOfftPeriod_keeps {P : Nat} {s₀ : State} (t : Word) (b : Fin 12) (s : State)
    (hP : 12884906001 &&& P = 12884906001) (h : Keeps P s₀ s) :
    OutKeeps P s₀ (execOfftPeriod t b s) := by
  unfold execOfftPeriod
  repeat' (first
    | with_reducible assumption
    | exact Mask.sub hP (by decide)
    | (extract_lets +onlyGivenNames x; refine Keeps.cut P s₀ x ?_ fun hx => ?_; (on_goal 2 => clear_value x); revert x; change Keeps _ _ _)
    | (extract_lets +onlyGivenNames x; clear_value x)
    | (extract_lets +onlyGivenNames x)
    | with_reducible apply OutKeeps.next
    | with_reducible apply State.setBk_keeps
    | with_reducible apply State.inc_keeps
    | with_reducible apply State.at_keeps
    | split)

/-- Changes at most: now, banks, cmps. -/
theorem execOfftStart_keeps {P : Nat} {s₀ : State} (t : Word) (b : Fin 12) (s : State)
    (hP : 12884901889 &&& P = 12884901889) (h : Keeps P s₀ s) :
    OutKeeps P s₀ (execOfftStart t b s) := by
  unfold execOfftStart
  repeat' (first
    | with_reducible assumption
    | exact Mask.sub hP (by decide)
    | (extract_lets +onlyGivenNames x; refine Keeps.cut P s₀ x ?_ fun hx => ?_; (on_goal 2 => clear_value x); revert x; change Keeps _ _ _)
    | (extract_lets +onlyGivenNames x; clear_value x)
    | with_reducible apply OutKeeps.next
    | with_reducible apply State.setBk_keeps
    | with_reducible apply State.at_keeps
    | split)

/-- Changes at most: regs. -/
theorem State.retryChannel_keeps {P : Nat} {s₀ : State} (s : State) (b : ℕ) (c : ℕ)
    (hP : 16 &&& P = 16) (h : Keeps P s₀ s) :
    Keeps P s₀ (State.retryChannel s b c) := by
  unfold State.retryChannel
  repeat' (first
    | with_reducible assumption
    | exact Mask.sub hP (by decide)
    | with_reducible apply State.set_keeps
    | split)

/-- Changes at most: regs. -/
theorem State.retryBank_keeps {P : Nat} {s₀ : State} (s : State) (b : ℕ)
    (hP : 16 &&& P = 16) (h : Keeps P s₀ s) :
    Keeps P s₀ (State.retryBank s b) := by
  unfold State.retryBank
  repeat' (first
    | with_reducible assumption
    | exact Mask.sub hP (by decide)
    | with_reducible apply State.set_keeps
    | split)

/-- Changes at most: fresh, regs, ticks, reports, causes, acc, shuttles, seqTok, banks, cmps. -/
theorem State.offReact_keeps {P : Nat} {s₀ : State} (s : State) (b : ℕ) (verdict : ℕ) (ls : List ℕ)
    (hP : 14764027922 &&& P = 14764027922) (h : Keeps P s₀ s) :
    Keeps P s₀ (State.offReact s b verdict ls) := by
  unfold State.offReact
  repeat' (first
    | with_reducible assumption
    | exact Mask.sub hP (by decide)
    | (extract_lets +onlyGivenNames x; refine Keeps.cut P s₀ x ?_ fun hx => ?_; (on_goal 2 => clear_value x); revert x; change Keeps _ _ _)
    | (extract_lets +onlyGivenNames x; clear_value x)
    | with_reducible apply State.detect_keeps
    | with_reducible apply State.contTry_keeps
    | with_reducible apply State.setBk_keeps
    | with_reducible apply State.retryChannel_keeps
    | with_reducible apply State.retryBank_keeps
    | with_reducible apply Keeps.foldl
    | split
    | (intro _ _ _))

/-- Changes at most: now, fresh, regs, ticks, reports, causes, acc, shuttles, seqTok, banks, cmps. -/
theorem execOfftDecide_keeps {P : Nat} {s₀ : State} (t : Word) (b : Fin 12) (low : Fin 16) (high : Fin 16) (blim : Bool) (s : State)
    (hP : 14764027923 &&& P = 14764027923) (h : Keeps P s₀ s) :
    OutKeeps P s₀ (execOfftDecide t b low high blim s) := by
  unfold execOfftDecide
  repeat' (first
    | with_reducible assumption
    | exact Mask.sub hP (by decide)
    | (extract_lets +onlyGivenNames x; refine Keeps.cut P s₀ x ?_ fun hx => ?_; (on_goal 2 => clear_value x); revert x; change Keeps _ _ _)
    | (extract_lets +onlyGivenNames x; clear_value x)
    | (extract_lets +onlyGivenNames x)
    | with_reducible apply OutKeeps.next
    | with_reducible apply State.setBk_keeps
    | with_reducible apply State.offReact_keeps
    | with_reducible apply State.clearBit_keeps
    | with_reducible apply State.set_keeps
    | with_reducible apply State.flag_keeps
    | with_reducible apply State.at_keeps
    | with_reducible apply Keeps.foldl
    | split
    | (intro _ _ _))

/-- Changes at most: now, fresh, regs, ticks, reports, causes, acc, shuttles, seqTok, banks, cmps. -/
theorem execBankSelftestDone_keeps {P : Nat} {s₀ : State} (t : Word) (b : Fin 12) (outs : Vector (Fin 256) 4) (s : State)
    (hP : 14764027923 &&& P = 14764027923) (h : Keeps P s₀ s) :
    OutKeeps P s₀ (execBankSelftestDone t b outs s) := by
  unfold execBankSelftestDone
  repeat' (first
    | with_reducible assumption
    | exact Mask.sub hP (by decide)
    | (extract_lets +onlyGivenNames x; refine Keeps.cut P s₀ x ?_ fun hx => ?_; (on_goal 2 => clear_value x); revert x; change Keeps _ _ _)
    | (extract_lets +onlyGivenNames x; clear_value x)
    | with_reducible apply OutKeeps.next
    | with_reducible apply State.detect_keeps
    | with_reducible apply State.contTry_keeps
    | with_reducible apply State.setBk_keeps
    | with_reducible apply State.retryBank_keeps
    | with_reducible apply State.setBit_keeps
    | with_reducible apply State.clearBit_keeps
    | with_reducible apply State.set_keeps
    | with_reducible apply State.incMod_keeps
    | with_reducible apply State.at_keeps
    | split)

/-- Changes at most: now, fresh, regs, ticks, reports, causes, acc, shuttles, seqTok, banks, cmps. -/
theorem execResidual_keeps {P : Nat} {s₀ : State} (t : Word) (b : Fin 12) (uv : ℕ) (s : State)
    (hP : 14764027923 &&& P = 14764027923) (h : Keeps P s₀ s) :
    OutKeeps P s₀ (execResidual t b uv s) := by
  unfold execResidual
  repeat' (first
    | with_reducible assumption
    | exact Mask.sub hP (by decide)
    | (extract_lets +onlyGivenNames x; refine Keeps.cut P s₀ x ?_ fun hx => ?_; (on_goal 2 => clear_value x); revert x; change Keeps _ _ _)
    | (extract_lets +onlyGivenNames x; clear_value x)
    | (extract_lets +onlyGivenNames x)
    | with_reducible apply OutKeeps.next
    | with_reducible apply State.detect_keeps
    | with_reducible apply State.setBk_keeps
    | with_reducible apply State.clearBit_keeps
    | with_reducible apply State.at_keeps
    | split)

/-- Changes at most: regs, banks, cmps, closures. -/
theorem State.closureFound_keeps {P : Nat} {s₀ : State} (s : State) (b : ℕ) (tl : Tail) (prev : ℕ) (a : ℕ)
    (hP : 47244640272 &&& P = 47244640272) (h : Keeps P s₀ s) :
    Keeps P s₀ (State.closureFound s b tl prev a) := by
  unfold State.closureFound
  repeat' (first
    | with_reducible assumption
    | exact Mask.sub hP (by decide)
    | (extract_lets +onlyGivenNames x; refine Keeps.cut P s₀ x ?_ fun hx => ?_; (on_goal 2 => clear_value x); revert x; change Keeps _ _ _)
    | (extract_lets +onlyGivenNames x; clear_value x)
    | with_reducible apply State.endTail_keeps
    | with_reducible apply State.set_keeps
    | with_reducible apply Keeps.upd_closures)

/-- Changes at most: now, regs, banks, cmps, closures. -/
theorem execTailSample_keeps {P : Nat} {s₀ : State} (t : Word) (b : Fin 12) (v : Fin 1024) (s : State)
    (hP : 47244640273 &&& P = 47244640273) (h : Keeps P s₀ s) :
    OutKeeps P s₀ (execTailSample t b v s) := by
  unfold execTailSample
  repeat' (first
    | with_reducible assumption
    | exact Mask.sub hP (by decide)
    | (extract_lets +onlyGivenNames x; refine Keeps.cut P s₀ x ?_ fun hx => ?_; (on_goal 2 => clear_value x); revert x; change Keeps _ _ _)
    | (extract_lets +onlyGivenNames x; clear_value x)
    | (extract_lets +onlyGivenNames x)
    | with_reducible apply OutKeeps.next
    | with_reducible apply State.setBk_keeps
    | with_reducible apply State.closureFound_keeps
    | with_reducible apply State.at_keeps
    | with_reducible apply Keeps.foldl
    | split
    | (intro _ _ _))

/-- Changes at most: now, regs, banks, cmps. -/
theorem execTailWindowEnd_keeps {P : Nat} {s₀ : State} (t : Word) (b : Fin 12) (s : State)
    (hP : 12884901905 &&& P = 12884901905) (h : Keeps P s₀ s) :
    OutKeeps P s₀ (execTailWindowEnd t b s) := by
  unfold execTailWindowEnd
  repeat' (first
    | with_reducible assumption
    | exact Mask.sub hP (by decide)
    | (extract_lets +onlyGivenNames x; refine Keeps.cut P s₀ x ?_ fun hx => ?_; (on_goal 2 => clear_value x); revert x; change Keeps _ _ _)
    | (extract_lets +onlyGivenNames x; clear_value x)
    | with_reducible apply OutKeeps.next
    | with_reducible apply State.endTail_keeps
    | with_reducible apply State.at_keeps
    | split)

/-- Changes at most: fresh, regs, ticks, reports, acc, shuttles, seqTok, banks, cmps. -/
theorem State.latchClear_keeps {P : Nat} {s₀ : State} (s : State) (b : ℕ) (c : Option ℕ)
    (hP : 14763962386 &&& P = 14763962386) (h : Keeps P s₀ s) :
    Keeps P s₀ (State.latchClear s b c) := by
  unfold State.latchClear
  repeat' (first
    | with_reducible assumption
    | exact Mask.sub hP (by decide)
    | (extract_lets +onlyGivenNames x; refine Keeps.cut P s₀ x ?_ fun hx => ?_; (on_goal 2 => clear_value x); revert x; change Keeps _ _ _)
    | (extract_lets +onlyGivenNames x; clear_value x)
    | with_reducible apply State.contTry_keeps
    | with_reducible apply State.setBk_keeps
    | with_reducible apply State.set_keeps
    | split)

/-- Changes at most: now, fresh, regs, ticks, reports, acc, shuttles, seqTok, banks, cmps. -/
theorem execLatchClear_keeps {P : Nat} {s₀ : State} (t : Word) (b : Fin 12) (c : Option (Fin 4)) (s : State)
    (hP : 14763962387 &&& P = 14763962387) (h : Keeps P s₀ s) :
    OutKeeps P s₀ (execLatchClear t b c s) := by
  unfold execLatchClear
  repeat' (first
    | with_reducible assumption
    | exact Mask.sub hP (by decide)
    | (extract_lets +onlyGivenNames x; refine Keeps.cut P s₀ x ?_ fun hx => ?_; (on_goal 2 => clear_value x); revert x; change Keeps _ _ _)
    | (extract_lets +onlyGivenNames x; clear_value x)
    | with_reducible apply OutKeeps.next
    | with_reducible apply State.latchClear_keeps
    | with_reducible apply State.wrej_keeps
    | with_reducible apply State.at_keeps
    | split)

/-- Changes at most: fresh, regs, ticks, reports, acc, shuttles, seqTok, banks, cmps. -/
theorem State.setLevel_keeps {P : Nat} {s₀ : State} (s : State) (b : ℕ) (c : ℕ) (new : ℕ)
    (hP : 14763962386 &&& P = 14763962386) (h : Keeps P s₀ s) :
    Keeps P s₀ (State.setLevel s b c new) := by
  unfold State.setLevel
  repeat' (first
    | with_reducible assumption
    | exact Mask.sub hP (by decide)
    | (extract_lets +onlyGivenNames x; refine Keeps.cut P s₀ x ?_ fun hx => ?_; (on_goal 2 => clear_value x); revert x; change Keeps _ _ _)
    | (extract_lets +onlyGivenNames x; clear_value x)
    | with_reducible apply State.bnkShow_keeps
    | with_reducible apply State.bankEvent_keeps
    | with_reducible apply State.drop_keeps
    | with_reducible apply State.contTry_keeps
    | with_reducible apply State.set_keeps
    | with_reducible apply Keeps.foldl
    | split
    | (intro _ _ _))

/-- Changes at most: fresh, regs, ticks, reports, acc, shuttles, seqTok, banks, cmps. -/
theorem State.thermalOff_keeps {P : Nat} {s₀ : State} (s : State) (b : ℕ) (c : ℕ)
    (hP : 14763962386 &&& P = 14763962386) (h : Keeps P s₀ s) :
    Keeps P s₀ (State.thermalOff s b c) := by
  unfold State.thermalOff
  repeat' (first
    | with_reducible assumption
    | exact Mask.sub hP (by decide)
    | (extract_lets +onlyGivenNames x; refine Keeps.cut P s₀ x ?_ fun hx => ?_; (on_goal 2 => clear_value x); revert x; change Keeps _ _ _)
    | (extract_lets +onlyGivenNames x; clear_value x)
    | with_reducible apply State.setLevel_keeps
    | with_reducible apply State.set_keeps
    | split)

/-- Changes at most: fresh, regs, ticks, reports, acc, shuttles, seqTok, banks, cmps. -/
theorem State.thermalStep_keeps {P : Nat} {s₀ : State} (s : State) (b : ℕ) (c : ℕ)
    (hP : 14763962386 &&& P = 14763962386) (h : Keeps P s₀ s) :
    Keeps P s₀ (State.thermalStep s b c) := by
  unfold State.thermalStep
  repeat' (first
    | with_reducible assumption
    | exact Mask.sub hP (by decide)
    | (extract_lets +onlyGivenNames x; refine Keeps.cut P s₀ x ?_ fun hx => ?_; (on_goal 2 => clear_value x); revert x; change Keeps _ _ _)
    | (extract_lets +onlyGivenNames x; refine Keeps.cutOp P s₀ x ?_ fun hx => ?_; (on_goal 2 => clear_value x); revert x; change ∀ s, Keeps _ _ s → Keeps _ _ _; intro s hs)
    | (extract_lets +onlyGivenNames x; refine Keeps.cutFun P s₀ x ?_ fun hx => ?_; (on_goal 2 => clear_value x); revert x; change ∀ s x, Keeps _ _ s → Keeps _ _ _; intro s x hs)
    | (extract_lets +onlyGivenNames x; refine Keeps.cutFn P s₀ x ?_ fun hx => ?_; (on_goal 2 => clear_value x); revert x; change ∀ x, Keeps _ _ _; intro x)
    | (extract_lets +onlyGivenNames x; clear_value x)
    | with_reducible apply State.contWindow_keeps
    | with_reducible apply State.setBk_keeps
    | with_reducible apply State.setLevel_keeps
    | with_reducible apply State.thermalOff_keeps
    | with_reducible apply State.set_keeps
    | with_reducible apply State.setI_keeps
    | with_reducible apply State.extreme_keeps
    | split
    | with_reducible apply_assumption)

/-- Changes at most: now, fresh, regs, ticks, reports, acc, shuttles, seqTok, banks, cmps. -/
theorem execThermalStep_keeps {P : Nat} {s₀ : State} (t : Word) (b : Fin 12) (c : Fin 4) (s : State)
    (hP : 14763962387 &&& P = 14763962387) (h : Keeps P s₀ s) :
    OutKeeps P s₀ (execThermalStep t b c s) := by
  unfold execThermalStep
  repeat' (first
    | with_reducible assumption
    | exact Mask.sub hP (by decide)
    | (extract_lets +onlyGivenNames x; refine Keeps.cut P s₀ x ?_ fun hx => ?_; (on_goal 2 => clear_value x); revert x; change Keeps _ _ _)
    | (extract_lets +onlyGivenNames x; clear_value x)
    | (extract_lets +onlyGivenNames x)
    | with_reducible apply OutKeeps.next
    | with_reducible apply State.thermalStep_keeps
    | with_reducible apply State.at_keeps
    | split)

/-- Changes at most: regs. -/
theorem State.dcntClear_keeps {P : Nat} {s₀ : State} (s : State) (b : ℕ)
    (hP : 16 &&& P = 16) (h : Keeps P s₀ s) :
    Keeps P s₀ (State.dcntClear s b) := by
  unfold State.dcntClear
  repeat' (first
    | with_reducible assumption
    | exact Mask.sub hP (by decide)
    | with_reducible apply State.clearCounts_keeps)

/-- Changes at most: now, regs, ticks. -/
theorem execBnkDcntClr_keeps {P : Nat} {s₀ : State} (t : Word) (b : Fin 12) (s : State)
    (hP : 4113 &&& P = 4113) (h : Keeps P s₀ s) :
    OutKeeps P s₀ (execBnkDcntClr t b s) := by
  unfold execBnkDcntClr
  repeat' (first
    | with_reducible assumption
    | exact Mask.sub hP (by decide)
    | (extract_lets +onlyGivenNames x; refine Keeps.cut P s₀ x ?_ fun hx => ?_; (on_goal 2 => clear_value x); revert x; change Keeps _ _ _)
    | (extract_lets +onlyGivenNames x; clear_value x)
    | with_reducible apply OutKeeps.next
    | with_reducible apply State.dcntClear_keeps
    | with_reducible apply State.wrej_keeps
    | with_reducible apply State.at_keeps
    | split)

end Sys2Proof.Machine
end

