-- ==== Sys2Proof/Laws/KeepsInputs.lean ====
section
/-!
SUPPORT. What each operation of Machine/Inputs.lean may change (Laws/Keeps.lean).
-/
set_option linter.unusedTactic false
set_option linter.unreachableTactic false
namespace Sys2Proof.Machine

/-- Changes at most: regs, ticks, reports. -/
theorem State.railEvent_keeps {P : Nat} {s₀ : State} (s : State) (code : ℕ)
    (hP : 12304 &&& P = 12304) (h : Keeps P s₀ s) :
    Keeps P s₀ (State.railEvent s code) := by
  unfold State.railEvent
  repeat' (first
    | with_reducible assumption
    | exact Mask.sub hP (by decide)
    | with_reducible apply State.inc_keeps
    | with_reducible apply State.report_keeps)

/-- Changes at most: regs, banks, cmps. -/
theorem State.railSet_keeps {P : Nat} {s₀ : State} (s : State) (u : ℚ)
    (hP : 12884901904 &&& P = 12884901904) (h : Keeps P s₀ s) :
    Keeps P s₀ (State.railSet s u) := by
  unfold State.railSet
  repeat' (first
    | with_reducible assumption
    | exact Mask.sub hP (by decide)
    | (extract_lets +onlyGivenNames x; refine Keeps.cut P s₀ x ?_ fun hx => ?_; (on_goal 2 => clear_value x); revert x; change Keeps _ _ _)
    | (extract_lets +onlyGivenNames x; clear_value x)
    | (extract_lets +onlyGivenNames x)
    | with_reducible apply State.contRetune_keeps
    | with_reducible apply State.set_keeps
    | with_reducible apply Keeps.foldl
    | split
    | (intro _ _ _))

/-- Changes at most: regs, banks, cmps. -/
theorem State.railOut_keeps {P : Nat} {s₀ : State} (s : State) (u : ℚ)
    (hP : 12884901904 &&& P = 12884901904) (h : Keeps P s₀ s) :
    Keeps P s₀ (State.railOut s u) := by
  unfold State.railOut
  repeat' (first
    | with_reducible assumption
    | exact Mask.sub hP (by decide)
    | with_reducible apply State.railSet_keeps
    | with_reducible apply State.set_keeps)

/-- Changes at most: regs, ticks, reports, causes, banks, cmps, rail. -/
theorem State.railForm_keeps {P : Nat} {s₀ : State} (s : State)
    (hP : 562962838401040 &&& P = 562962838401040) (h : Keeps P s₀ s) :
    Keeps P s₀ (State.railForm s) := by
  unfold State.railForm
  repeat' (first
    | with_reducible assumption
    | exact Mask.sub hP (by decide)
    | (extract_lets +onlyGivenNames x; refine Keeps.cut P s₀ x ?_ fun hx => ?_; (on_goal 2 => clear_value x); revert x; change Keeps _ _ _)
    | (extract_lets +onlyGivenNames x; clear_value x)
    | with_reducible apply State.railEvent_keeps
    | with_reducible apply State.railOut_keeps
    | with_reducible apply State.set_keeps
    | with_reducible apply State.flag_keeps
    | with_reducible apply State.cause_keeps
    | split
    | with_reducible apply Keeps.upd_rail)

/-- Changes at most: regs, ticks, reports, causes, banks, cmps, rail, saf. -/
theorem State.railEval_keeps {P : Nat} {s₀ : State} (s : State)
    (hP : 9223934999693176848 &&& P = 9223934999693176848) (h : Keeps P s₀ s) :
    Keeps P s₀ (State.railEval s) := by
  unfold State.railEval
  repeat' (first
    | with_reducible assumption
    | exact Mask.sub hP (by decide)
    | with_reducible apply State.cutWatch_keeps
    | with_reducible apply State.railForm_keeps)

/-- Changes at most: now, regs, ticks, reports, causes, banks, cmps, rail, saf. -/
theorem execRailLoopStep_keeps {P : Nat} {s₀ : State} (t : Word) (s : State)
    (hP : 9223934999693176849 &&& P = 9223934999693176849) (h : Keeps P s₀ s) :
    OutKeeps P s₀ (execRailLoopStep t s) := by
  unfold execRailLoopStep
  repeat' (first
    | with_reducible assumption
    | exact Mask.sub hP (by decide)
    | (extract_lets +onlyGivenNames x; refine Keeps.cut P s₀ x ?_ fun hx => ?_; (on_goal 2 => clear_value x); revert x; change Keeps _ _ _)
    | (extract_lets +onlyGivenNames x; clear_value x)
    | (extract_lets +onlyGivenNames x)
    | with_reducible apply OutKeeps.next
    | with_reducible apply State.railOut_keeps
    | with_reducible apply State.railEval_keeps
    | with_reducible apply State.at_keeps
    | split
    | with_reducible apply Keeps.upd_rail)

/-- Changes at most: now, rail. -/
theorem execSetpointRamp_keeps {P : Nat} {s₀ : State} (t : Word) (s : State)
    (hP : 562949953421313 &&& P = 562949953421313) (h : Keeps P s₀ s) :
    OutKeeps P s₀ (execSetpointRamp t s) := by
  unfold execSetpointRamp
  repeat' (first
    | with_reducible assumption
    | exact Mask.sub hP (by decide)
    | (extract_lets +onlyGivenNames x; refine Keeps.cut P s₀ x ?_ fun hx => ?_; (on_goal 2 => clear_value x); revert x; change Keeps _ _ _)
    | (extract_lets +onlyGivenNames x; clear_value x)
    | (extract_lets +onlyGivenNames x)
    | with_reducible apply OutKeeps.next
    | with_reducible apply State.at_keeps
    | split
    | with_reducible apply Keeps.upd_rail)

/-- Changes at most: now, regs, ticks, reports, causes, banks, cmps, rail, saf. -/
theorem execPinDisagree_keeps {P : Nat} {s₀ : State} (t : Word) (s : State)
    (hP : 9223934999693176849 &&& P = 9223934999693176849) (h : Keeps P s₀ s) :
    OutKeeps P s₀ (execPinDisagree t s) := by
  unfold execPinDisagree
  repeat' (first
    | with_reducible assumption
    | exact Mask.sub hP (by decide)
    | (extract_lets +onlyGivenNames x; refine Keeps.cut P s₀ x ?_ fun hx => ?_; (on_goal 2 => clear_value x); revert x; change Keeps _ _ _)
    | (extract_lets +onlyGivenNames x; clear_value x)
    | (extract_lets +onlyGivenNames x)
    | with_reducible apply OutKeeps.next
    | with_reducible apply State.railEvent_keeps
    | with_reducible apply State.railEval_keeps
    | with_reducible apply State.stick_keeps
    | with_reducible apply State.at_keeps
    | split
    | with_reducible apply Keeps.upd_rail)

/-- Changes at most: now, regs, ticks, reports, causes, rail. -/
theorem execRailOverpressure_keeps {P : Nat} {s₀ : State} (t : Word) (s : State)
    (hP : 562949953499153 &&& P = 562949953499153) (h : Keeps P s₀ s) :
    OutKeeps P s₀ (execRailOverpressure t s) := by
  unfold execRailOverpressure
  repeat' (first
    | with_reducible assumption
    | exact Mask.sub hP (by decide)
    | (extract_lets +onlyGivenNames x; refine Keeps.cut P s₀ x ?_ fun hx => ?_; (on_goal 2 => clear_value x); revert x; change Keeps _ _ _)
    | (extract_lets +onlyGivenNames x; clear_value x)
    | (extract_lets +onlyGivenNames x)
    | with_reducible apply OutKeeps.next
    | with_reducible apply State.railEvent_keeps
    | with_reducible apply State.stick_keeps
    | with_reducible apply State.cause_keeps
    | with_reducible apply State.at_keeps
    | split
    | with_reducible apply Keeps.upd_rail)

/-- Changes at most: regs. -/
theorem State.pinCheck_keeps {P : Nat} {s₀ : State} (s : State) (p : ℕ)
    (hP : 16 &&& P = 16) (h : Keeps P s₀ s) :
    Keeps P s₀ (State.pinCheck s p) := by
  unfold State.pinCheck
  repeat' (first
    | with_reducible assumption
    | exact Mask.sub hP (by decide)
    | (extract_lets +onlyGivenNames x; refine Keeps.cut P s₀ x ?_ fun hx => ?_; (on_goal 2 => clear_value x); revert x; change Keeps _ _ _)
    | (extract_lets +onlyGivenNames x; clear_value x)
    | (extract_lets +onlyGivenNames x)
    | with_reducible apply State.flag_keeps)

/-- Changes at most: regs. -/
theorem State.pinForm_keeps {P : Nat} {s₀ : State} (s : State) (p : ℕ)
    (hP : 16 &&& P = 16) (h : Keeps P s₀ s) :
    Keeps P s₀ (State.pinForm s p) := by
  unfold State.pinForm
  repeat' (first
    | with_reducible assumption
    | exact Mask.sub hP (by decide)
    | (extract_lets +onlyGivenNames x; refine Keeps.cut P s₀ x ?_ fun hx => ?_; (on_goal 2 => clear_value x); revert x; change Keeps _ _ _)
    | (extract_lets +onlyGivenNames x; clear_value x)
    | with_reducible apply State.setI_keeps
    | split)

/-- Changes at most: regs, ticks, reports, causes, banks, cmps, pins, rail, saf. -/
theorem State.pinDeliver_keeps {P : Nat} {s₀ : State} (s : State) (src : ℕ) (good : Bool)
    (hP : 9223952591879221264 &&& P = 9223952591879221264) (h : Keeps P s₀ s) :
    Keeps P s₀ (State.pinDeliver s src good) := by
  unfold State.pinDeliver
  repeat' (first
    | with_reducible assumption
    | exact Mask.sub hP (by decide)
    | (extract_lets +onlyGivenNames x; refine Keeps.cut P s₀ x ?_ fun hx => ?_; (on_goal 2 => clear_value x); revert x; change Keeps _ _ _)
    | (extract_lets +onlyGivenNames x; clear_value x)
    | with_reducible apply State.railEval_keeps
    | with_reducible apply State.pinCheck_keeps
    | with_reducible apply State.pinForm_keeps
    | with_reducible apply Keeps.foldl
    | split
    | (intro _ _ _)
    | with_reducible apply Keeps.upd_pins)

/-- Changes at most: regs, ticks, reports, causes, banks, cmps, rail, saf. -/
theorem State.pinVerdict_keeps {P : Nat} {s₀ : State} (s : State) (i : ℕ)
    (hP : 9223934999693176848 &&& P = 9223934999693176848) (h : Keeps P s₀ s) :
    Keeps P s₀ (State.pinVerdict s i) := by
  unfold State.pinVerdict
  repeat' (first
    | with_reducible assumption
    | exact Mask.sub hP (by decide)
    | with_reducible apply State.railEval_keeps
    | with_reducible apply State.pinCheck_keeps
    | with_reducible apply Keeps.foldl
    | split
    | (intro _ _ _))

/-- Changes at most: regs, ticks, reports, causes, banks, cmps, pins, rail, saf. -/
theorem State.pinConfig_keeps {P : Nat} {s₀ : State} (s : State) (p : ℕ) (old : Word) (new : Word)
    (hP : 9223952591879221264 &&& P = 9223952591879221264) (h : Keeps P s₀ s) :
    Keeps P s₀ (State.pinConfig s p old new) := by
  unfold State.pinConfig
  repeat' (first
    | with_reducible assumption
    | exact Mask.sub hP (by decide)
    | (extract_lets +onlyGivenNames x; refine Keeps.cut P s₀ x ?_ fun hx => ?_; (on_goal 2 => clear_value x); revert x; change Keeps _ _ _)
    | (extract_lets +onlyGivenNames x; clear_value x)
    | with_reducible apply State.railEval_keeps
    | with_reducible apply State.pinCheck_keeps
    | with_reducible apply State.pinForm_keeps
    | split
    | with_reducible apply Keeps.upd_pins)

/-- Changes at most: now, regs, ticks, reports, causes, banks, cmps, rail, saf. -/
theorem execPinTimeout_keeps {P : Nat} {s₀ : State} (t : Word) (p : Fin 4) (s : State)
    (hP : 9223934999693176849 &&& P = 9223934999693176849) (h : Keeps P s₀ s) :
    OutKeeps P s₀ (execPinTimeout t p s) := by
  unfold execPinTimeout
  repeat' (first
    | with_reducible assumption
    | exact Mask.sub hP (by decide)
    | with_reducible apply OutKeeps.next
    | with_reducible apply State.railEval_keeps
    | with_reducible apply State.pinCheck_keeps
    | with_reducible apply State.at_keeps)

end Sys2Proof.Machine
end

