-- ==== Sys2Proof/Laws/KeepsFront.lean ====
section
/-!
SUPPORT. What each operation of Machine/Front.lean may change (Laws/Keeps.lean).
-/
set_option linter.unusedTactic false
set_option linter.unreachableTactic false
namespace Sys2Proof.Machine

/-- Changes at most: seqs. -/
theorem State.setSq_keeps {P : Nat} {s₀ : State} (s : State) (k : ℕ) (q : Sequencer)
    (hP : 68719476736 &&& P = 68719476736) (h : Keeps P s₀ s) :
    Keeps P s₀ (State.setSq s k q) := by
  unfold State.setSq
  repeat' (first
    | with_reducible assumption
    | exact Mask.sub hP (by decide)
    | (extract_lets +onlyGivenNames x; refine Keeps.cut P s₀ x ?_ fun hx => ?_; (on_goal 2 => clear_value x); revert x; change Keeps _ _ _)
    | (extract_lets +onlyGivenNames x; clear_value x)
    | with_reducible apply Keeps.upd_seqs)

/-- Changes at most: regs. -/
theorem State.seqShow_keeps {P : Nat} {s₀ : State} (s : State) (k : ℕ)
    (hP : 16 &&& P = 16) (h : Keeps P s₀ s) :
    Keeps P s₀ (State.seqShow s k) := by
  unfold State.seqShow
  repeat' (first
    | with_reducible assumption
    | exact Mask.sub hP (by decide)
    | with_reducible apply State.flag_keeps)

/-- Changes at most: regs, trace. -/
theorem State.bufWord_keeps {P : Nat} {s₀ : State} (s : State) (k : ℕ) (w : Word)
    (hP : 48 &&& P = 48) (h : Keeps P s₀ s) :
    Keeps P s₀ (State.bufWord s k w) := by
  unfold State.bufWord
  repeat' (first
    | with_reducible assumption
    | exact Mask.sub hP (by decide)
    | (extract_lets +onlyGivenNames x; refine Keeps.cut P s₀ x ?_ fun hx => ?_; (on_goal 2 => clear_value x); revert x; change Keeps _ _ _)
    | (extract_lets +onlyGivenNames x; clear_value x)
    | with_reducible apply State.set_keeps
    | with_reducible apply State.traceSet_keeps
    | split)

/-- Changes at most: regs, trace, seqs. -/
theorem State.packSample_keeps {P : Nat} {s₀ : State} (s : State) (k : ℕ) (v : ℕ)
    (hP : 68719476784 &&& P = 68719476784) (h : Keeps P s₀ s) :
    Keeps P s₀ (State.packSample s k v) := by
  unfold State.packSample
  repeat' (first
    | with_reducible assumption
    | exact Mask.sub hP (by decide)
    | (extract_lets +onlyGivenNames x; refine Keeps.cut P s₀ x ?_ fun hx => ?_; (on_goal 2 => clear_value x); revert x; change Keeps _ _ _)
    | (extract_lets +onlyGivenNames x; clear_value x)
    | with_reducible apply State.setSq_keeps
    | with_reducible apply State.bufWord_keeps
    | split)

/-- Changes at most: regs, trace, seqs. -/
theorem State.packFlush_keeps {P : Nat} {s₀ : State} (s : State) (k : ℕ)
    (hP : 68719476784 &&& P = 68719476784) (h : Keeps P s₀ s) :
    Keeps P s₀ (State.packFlush s k) := by
  unfold State.packFlush
  repeat' (first
    | with_reducible assumption
    | exact Mask.sub hP (by decide)
    | (extract_lets +onlyGivenNames x; refine Keeps.cut P s₀ x ?_ fun hx => ?_; (on_goal 2 => clear_value x); revert x; change Keeps _ _ _)
    | (extract_lets +onlyGivenNames x; clear_value x)
    | with_reducible apply State.setSq_keeps
    | with_reducible apply State.bufWord_keeps
    | split)

/-- Changes at most: regs, trace, seqs. -/
theorem State.bufResult_keeps {P : Nat} {s₀ : State} (s : State) (k : ℕ) (w : Word)
    (hP : 68719476784 &&& P = 68719476784) (h : Keeps P s₀ s) :
    Keeps P s₀ (State.bufResult s k w) := by
  unfold State.bufResult
  repeat' (first
    | with_reducible assumption
    | exact Mask.sub hP (by decide)
    | with_reducible apply State.bufWord_keeps
    | with_reducible apply State.packSample_keeps
    | split)

/-- Changes at most: fresh, regs, trace, seqs. -/
theorem State.fillFrom_keeps {P : Nat} {s₀ : State} (s : State) (k : ℕ) (x2 : ℕ) (x3 : ℕ)
    (hP : 68719476786 &&& P = 68719476786) (h : Keeps P s₀ s) :
    Keeps P s₀ (State.fillFrom s k x2 x3) := by
  induction x2 generalizing s x3 with
  | zero =>
    unfold State.fillFrom
    repeat' (first
      | with_reducible assumption
      | exact Mask.sub hP (by decide)
      | (extract_lets +onlyGivenNames x; refine Keeps.cut P s₀ x ?_ fun hx => ?_; (on_goal 2 => clear_value x); revert x; change Keeps _ _ _)
      | (extract_lets +onlyGivenNames x; refine Keeps.cutFst P s₀ x ?_ fun hx => ?_; (on_goal 2 => clear_value x); revert x; change Keeps _ _ _)
      | (extract_lets +onlyGivenNames x; refine Keeps.cutMid P s₀ x ?_ fun hx => ?_; (on_goal 2 => clear_value x); revert x; change Keeps _ _ _)
      | (extract_lets +onlyGivenNames x; refine Keeps.cutSnd P s₀ x ?_ fun hx => ?_; (on_goal 2 => clear_value x); revert x; change Keeps _ _ _)
      | (extract_lets +onlyGivenNames x; clear_value x)
      | with_reducible apply State.bufResult_keeps
      | with_reducible apply State.free_keeps
      | split
      | refine Keeps.ofFst (by assumption) ?_
      | refine Keeps.ofSnd (by assumption) ?_
      | refine Keeps.ofMid (by assumption) ?_)
  | succ n ih =>
    unfold State.fillFrom
    repeat' (first
      | with_reducible assumption
      | exact Mask.sub hP (by decide)
      | (extract_lets +onlyGivenNames x; refine Keeps.cut P s₀ x ?_ fun hx => ?_; (on_goal 2 => clear_value x); revert x; change Keeps _ _ _)
      | (extract_lets +onlyGivenNames x; refine Keeps.cutFst P s₀ x ?_ fun hx => ?_; (on_goal 2 => clear_value x); revert x; change Keeps _ _ _)
      | (extract_lets +onlyGivenNames x; refine Keeps.cutMid P s₀ x ?_ fun hx => ?_; (on_goal 2 => clear_value x); revert x; change Keeps _ _ _)
      | (extract_lets +onlyGivenNames x; refine Keeps.cutSnd P s₀ x ?_ fun hx => ?_; (on_goal 2 => clear_value x); revert x; change Keeps _ _ _)
      | (extract_lets +onlyGivenNames x; clear_value x)
      | with_reducible apply State.bufResult_keeps
      | with_reducible apply State.free_keeps
      | split
      | refine Keeps.ofFst (by assumption) ?_
      | refine Keeps.ofSnd (by assumption) ?_
      | refine Keeps.ofMid (by assumption) ?_
      | apply ih)

/-- Changes at most: fresh, regs, trace, seqs. -/
theorem State.fillPasses_keeps {P : Nat} {s₀ : State} (s : State) (k : ℕ) (n : ℕ)
    (hP : 68719476786 &&& P = 68719476786) (h : Keeps P s₀ s) :
    Keeps P s₀ (State.fillPasses s k n) := by
  unfold State.fillPasses
  repeat' (first
    | with_reducible assumption
    | exact Mask.sub hP (by decide)
    | with_reducible apply State.fillFrom_keeps
    | with_reducible apply Keeps.foldl
    | (intro _ _ _))

/-- Changes at most: regs, ticks, reports, seqs. -/
theorem State.seqTrigger_keeps {P : Nat} {s₀ : State} (s : State) (k : ℕ) (t : Word)
    (hP : 68719489040 &&& P = 68719489040) (h : Keeps P s₀ s) :
    Keeps P s₀ (State.seqTrigger s k t) := by
  unfold State.seqTrigger
  repeat' (first
    | with_reducible assumption
    | exact Mask.sub hP (by decide)
    | (extract_lets +onlyGivenNames x; refine Keeps.cut P s₀ x ?_ fun hx => ?_; (on_goal 2 => clear_value x); revert x; change Keeps _ _ _)
    | (extract_lets +onlyGivenNames x; clear_value x)
    | with_reducible apply State.setSq_keeps
    | with_reducible apply State.seqShow_keeps
    | with_reducible apply State.inc_keeps
    | with_reducible apply State.report_keeps
    | split)

/-- Changes at most: now, regs, ticks, reports, seqs. -/
theorem execSeqGo_keeps {P : Nat} {s₀ : State} (t : Word) (k : Fin 16) (s : State)
    (hP : 68719489041 &&& P = 68719489041) (h : Keeps P s₀ s) :
    OutKeeps P s₀ (execSeqGo t k s) := by
  unfold execSeqGo
  repeat' (first
    | with_reducible assumption
    | exact Mask.sub hP (by decide)
    | (extract_lets +onlyGivenNames x; refine Keeps.cut P s₀ x ?_ fun hx => ?_; (on_goal 2 => clear_value x); revert x; change Keeps _ _ _)
    | (extract_lets +onlyGivenNames x; clear_value x)
    | with_reducible apply OutKeeps.next
    | with_reducible apply State.seqTrigger_keeps
    | with_reducible apply State.wrej_keeps
    | with_reducible apply State.at_keeps
    | split)

/-- Changes at most: regs, seqs. -/
theorem State.seqEnable_keeps {P : Nat} {s₀ : State} (s : State) (k : ℕ) (en : Bool)
    (hP : 68719476752 &&& P = 68719476752) (h : Keeps P s₀ s) :
    Keeps P s₀ (State.seqEnable s k en) := by
  unfold State.seqEnable
  repeat' (first
    | with_reducible assumption
    | exact Mask.sub hP (by decide)
    | (extract_lets +onlyGivenNames x; refine Keeps.cut P s₀ x ?_ fun hx => ?_; (on_goal 2 => clear_value x); revert x; change Keeps _ _ _)
    | (extract_lets +onlyGivenNames x; clear_value x)
    | (extract_lets +onlyGivenNames x)
    | with_reducible apply State.setSq_keeps
    | with_reducible apply State.flag_keeps
    | split)

/-- Changes at most: now, regs, ticks, seqs. -/
theorem execSeqEn_keeps {P : Nat} {s₀ : State} (t : Word) (k : Fin 16) (en : Bool) (s : State)
    (hP : 68719480849 &&& P = 68719480849) (h : Keeps P s₀ s) :
    OutKeeps P s₀ (execSeqEn t k en s) := by
  unfold execSeqEn
  repeat' (first
    | with_reducible assumption
    | exact Mask.sub hP (by decide)
    | (extract_lets +onlyGivenNames x; refine Keeps.cut P s₀ x ?_ fun hx => ?_; (on_goal 2 => clear_value x); revert x; change Keeps _ _ _)
    | (extract_lets +onlyGivenNames x; clear_value x)
    | with_reducible apply OutKeeps.next
    | with_reducible apply State.seqEnable_keeps
    | with_reducible apply State.wrej_keeps
    | with_reducible apply State.at_keeps
    | split)

/-- Changes at most: now, regs, ticks, reports, seqs. -/
theorem execSeqTimer_keeps {P : Nat} {s₀ : State} (t : Word) (k : Fin 16) (s : State)
    (hP : 68719489041 &&& P = 68719489041) (h : Keeps P s₀ s) :
    OutKeeps P s₀ (execSeqTimer t k s) := by
  unfold execSeqTimer
  repeat' (first
    | with_reducible assumption
    | exact Mask.sub hP (by decide)
    | (extract_lets +onlyGivenNames x; refine Keeps.cut P s₀ x ?_ fun hx => ?_; (on_goal 2 => clear_value x); revert x; change Keeps _ _ _)
    | (extract_lets +onlyGivenNames x; clear_value x)
    | with_reducible apply OutKeeps.next
    | with_reducible apply State.setSq_keeps
    | with_reducible apply State.seqTrigger_keeps
    | with_reducible apply State.at_keeps
    | split)

/-- Changes at most: seqTok. -/
theorem State.popTok_keeps {P : Nat} {s₀ : State} (s : State) (k : ℕ)
    (hP : 1073741824 &&& P = 1073741824) (h : Keeps P s₀ s) :
    Keeps P s₀ (State.popTok s k) := by
  unfold State.popTok
  repeat' (first
    | with_reducible assumption
    | exact Mask.sub hP (by decide)
    | (extract_lets +onlyGivenNames x; refine Keeps.cut P s₀ x ?_ fun hx => ?_; (on_goal 2 => clear_value x); revert x; change Keeps _ _ _)
    | (extract_lets +onlyGivenNames x; clear_value x)
    | with_reducible apply Keeps.upd_seqTok)

/-- Changes at most: now, regs, trace, ticks, reports, seqTok, seqs. -/
theorem execSeqGateOpen_keeps {P : Nat} {s₀ : State} (t : Word) (k : Fin 16) (s : State)
    (hP : 69793230897 &&& P = 69793230897) (h : Keeps P s₀ s) :
    OutKeeps P s₀ (execSeqGateOpen t k s) := by
  unfold execSeqGateOpen
  repeat' (first
    | with_reducible assumption
    | exact Mask.sub hP (by decide)
    | (extract_lets +onlyGivenNames x; refine Keeps.cut P s₀ x ?_ fun hx => ?_; (on_goal 2 => clear_value x); revert x; change Keeps _ _ _)
    | (extract_lets +onlyGivenNames x; clear_value x)
    | with_reducible apply OutKeeps.next
    | with_reducible apply State.setSq_keeps
    | with_reducible apply State.packFlush_keeps
    | with_reducible apply State.seqTrigger_keeps
    | with_reducible apply State.popTok_keeps
    | with_reducible apply State.set_keeps
    | with_reducible apply State.inc_keeps
    | with_reducible apply State.at_keeps
    | split)

/-- Changes at most: now, regs, ticks, reports, seqTok, seqs. -/
theorem execSeqGridTick_keeps {P : Nat} {s₀ : State} (t : Word) (k : Fin 16) (s : State)
    (hP : 69793230865 &&& P = 69793230865) (h : Keeps P s₀ s) :
    OutKeeps P s₀ (execSeqGridTick t k s) := by
  unfold execSeqGridTick
  repeat' (first
    | with_reducible assumption
    | exact Mask.sub hP (by decide)
    | (extract_lets +onlyGivenNames x; refine Keeps.cut P s₀ x ?_ fun hx => ?_; (on_goal 2 => clear_value x); revert x; change Keeps _ _ _)
    | (extract_lets +onlyGivenNames x; clear_value x)
    | (extract_lets +onlyGivenNames x)
    | with_reducible apply OutKeeps.next
    | with_reducible apply State.seqTrigger_keeps
    | with_reducible apply State.popTok_keeps
    | with_reducible apply State.inc_keeps
    | with_reducible apply State.at_keeps
    | split)

/-- Changes at most: now, regs, ticks, seqTok, seqs. -/
theorem execSeqGateClose_keeps {P : Nat} {s₀ : State} (t : Word) (k : Fin 16) (s : State)
    (hP : 69793222673 &&& P = 69793222673) (h : Keeps P s₀ s) :
    OutKeeps P s₀ (execSeqGateClose t k s) := by
  unfold execSeqGateClose
  repeat' (first
    | with_reducible assumption
    | exact Mask.sub hP (by decide)
    | (extract_lets +onlyGivenNames x; refine Keeps.cut P s₀ x ?_ fun hx => ?_; (on_goal 2 => clear_value x); revert x; change Keeps _ _ _)
    | (extract_lets +onlyGivenNames x; clear_value x)
    | (extract_lets +onlyGivenNames x)
    | with_reducible apply OutKeeps.next
    | with_reducible apply State.setSq_keeps
    | with_reducible apply State.popTok_keeps
    | with_reducible apply State.set_keeps
    | with_reducible apply State.inc_keeps
    | with_reducible apply State.at_keeps
    | split)

/-- Changes at most: now, regs, ticks, seqs. -/
theorem execPassStart_keeps {P : Nat} {s₀ : State} (t : Word) (l : Fin 8) (s : State)
    (hP : 68719480849 &&& P = 68719480849) (h : Keeps P s₀ s) :
    OutKeeps P s₀ (execPassStart t l s) := by
  unfold execPassStart
  repeat' (first
    | with_reducible assumption
    | exact Mask.sub hP (by decide)
    | (extract_lets +onlyGivenNames x; refine Keeps.cut P s₀ x ?_ fun hx => ?_; (on_goal 2 => clear_value x); revert x; change Keeps _ _ _)
    | (extract_lets +onlyGivenNames x; clear_value x)
    | with_reducible apply OutKeeps.next
    | with_reducible apply State.setSq_keeps
    | with_reducible apply State.seqShow_keeps
    | with_reducible apply State.inc_keeps
    | with_reducible apply State.at_keeps
    | split)

/-- Changes at most: fresh, regs, trace, seqs. -/
theorem State.convOff_keeps {P : Nat} {s₀ : State} (s : State) (k : ℕ) (p : Pass) (nx : Word)
    (hP : 68719476786 &&& P = 68719476786) (h : Keeps P s₀ s) :
    Keeps P s₀ (State.convOff s k p nx) := by
  unfold State.convOff
  repeat' (first
    | with_reducible assumption
    | exact Mask.sub hP (by decide)
    | (extract_lets +onlyGivenNames x; refine Keeps.cut P s₀ x ?_ fun hx => ?_; (on_goal 2 => clear_value x); revert x; change Keeps _ _ _)
    | (extract_lets +onlyGivenNames x; refine Keeps.cutFst P s₀ x ?_ fun hx => ?_; (on_goal 2 => clear_value x); revert x; change Keeps _ _ _)
    | (extract_lets +onlyGivenNames x; refine Keeps.cutMid P s₀ x ?_ fun hx => ?_; (on_goal 2 => clear_value x); revert x; change Keeps _ _ _)
    | (extract_lets +onlyGivenNames x; refine Keeps.cutSnd P s₀ x ?_ fun hx => ?_; (on_goal 2 => clear_value x); revert x; change Keeps _ _ _)
    | (extract_lets +onlyGivenNames x; clear_value x)
    | with_reducible apply State.setSq_keeps
    | with_reducible apply State.bufResult_keeps
    | with_reducible apply State.free_keeps
    | refine Keeps.ofFst (by assumption) ?_
    | refine Keeps.ofSnd (by assumption) ?_
    | refine Keeps.ofMid (by assumption) ?_)

/-- Changes at most: now, fresh, regs, trace, ticks, seqs, slices. -/
theorem execConversionSample_keeps {P : Nat} {s₀ : State} (t : Word) (k : Fin 16) (s : State)
    (hP : 206158434355 &&& P = 206158434355) (h : Keeps P s₀ s) :
    OutKeeps P s₀ (execConversionSample t k s) := by
  unfold execConversionSample
  repeat' (first
    | with_reducible assumption
    | exact Mask.sub hP (by decide)
    | (extract_lets +onlyGivenNames x; refine Keeps.cut P s₀ x ?_ fun hx => ?_; (on_goal 2 => clear_value x); revert x; change Keeps _ _ _)
    | (extract_lets +onlyGivenNames x; clear_value x)
    | (extract_lets +onlyGivenNames x)
    | with_reducible apply OutKeeps.next
    | with_reducible apply State.setSq_keeps
    | with_reducible apply State.convOff_keeps
    | with_reducible apply State.inc_keeps
    | with_reducible apply State.at_keeps
    | split
    | with_reducible apply Keeps.upd_slices)

/-- Changes at most: regs, ticks, reports, causes, banks, cmps, rail, saf. -/
theorem State.owResult_keeps {P : Nat} {s₀ : State} (s : State) (i : ℕ) (a : ℤ) (p : ℤ) (n : ℤ)
    (hP : 9223934999693176848 &&& P = 9223934999693176848) (h : Keeps P s₀ s) :
    Keeps P s₀ (State.owResult s i a p n) := by
  unfold State.owResult
  repeat' (first
    | with_reducible assumption
    | exact Mask.sub hP (by decide)
    | (extract_lets +onlyGivenNames x; refine Keeps.cut P s₀ x ?_ fun hx => ?_; (on_goal 2 => clear_value x); revert x; change Keeps _ _ _)
    | (extract_lets +onlyGivenNames x; clear_value x)
    | with_reducible apply State.pinVerdict_keeps
    | with_reducible apply State.set_keeps
    | with_reducible apply State.setI_keeps
    | with_reducible apply State.incMod_keeps)

/-- Changes at most: regs, ticks, reports, causes, banks, cmps, seqs, rail, saf. -/
theorem State.passAdvance_keeps {P : Nat} {s₀ : State} (s : State) (k : ℕ) (p : Pass) (c : Conv) (y : ℤ)
    (hP : 9223935068412653584 &&& P = 9223935068412653584) (h : Keeps P s₀ s) :
    Keeps P s₀ (State.passAdvance s k p c y) := by
  unfold State.passAdvance
  repeat' (first
    | with_reducible assumption
    | exact Mask.sub hP (by decide)
    | (extract_lets +onlyGivenNames x; refine Keeps.cut P s₀ x ?_ fun hx => ?_; (on_goal 2 => clear_value x); revert x; change Keeps _ _ _)
    | (extract_lets +onlyGivenNames x; refine Keeps.cutOp P s₀ x ?_ fun hx => ?_; (on_goal 2 => clear_value x); revert x; change ∀ s, Keeps _ _ s → Keeps _ _ _; intro s hs)
    | (extract_lets +onlyGivenNames x; refine Keeps.cutFun P s₀ x ?_ fun hx => ?_; (on_goal 2 => clear_value x); revert x; change ∀ s x, Keeps _ _ s → Keeps _ _ _; intro s x hs)
    | (extract_lets +onlyGivenNames x; refine Keeps.cutFn P s₀ x ?_ fun hx => ?_; (on_goal 2 => clear_value x); revert x; change ∀ x, Keeps _ _ _; intro x)
    | (extract_lets +onlyGivenNames x; clear_value x)
    | with_reducible apply State.setSq_keeps
    | with_reducible apply State.owResult_keeps
    | split
    | with_reducible apply_assumption)

/-- Changes at most: now, fresh, regs, trace, ticks, reports, causes, banks, cmps, seqs, pins, rail, saf. -/
theorem execConversionComplete_keeps {P : Nat} {s₀ : State} (t : Word) (k : Fin 16) (raw : ℤ) (s : State)
    (hP : 9223952660598698035 &&& P = 9223952660598698035) (h : Keeps P s₀ s) :
    OutKeeps P s₀ (execConversionComplete t k raw s) := by
  unfold execConversionComplete
  repeat' (first
    | with_reducible assumption
    | exact Mask.sub hP (by decide)
    | (extract_lets +onlyGivenNames x; refine Keeps.cut P s₀ x ?_ fun hx => ?_; (on_goal 2 => clear_value x); revert x; change Keeps _ _ _)
    | (extract_lets +onlyGivenNames x; clear_value x)
    | (extract_lets +onlyGivenNames x)
    | with_reducible apply OutKeeps.next
    | with_reducible apply State.setSq_keeps
    | with_reducible apply State.bufResult_keeps
    | with_reducible apply State.convOff_keeps
    | with_reducible apply State.passAdvance_keeps
    | with_reducible apply State.pinDeliver_keeps
    | with_reducible apply State.setReg_keeps
    | with_reducible apply State.inc_keeps
    | with_reducible apply State.at_keeps
    | split)

/-- Changes at most: now, seqs. -/
theorem execOpenWireSettle_keeps {P : Nat} {s₀ : State} (t : Word) (k : Fin 16) (s : State)
    (hP : 68719476737 &&& P = 68719476737) (h : Keeps P s₀ s) :
    OutKeeps P s₀ (execOpenWireSettle t k s) := by
  unfold execOpenWireSettle
  repeat' (first
    | with_reducible assumption
    | exact Mask.sub hP (by decide)
    | (extract_lets +onlyGivenNames x; refine Keeps.cut P s₀ x ?_ fun hx => ?_; (on_goal 2 => clear_value x); revert x; change Keeps _ _ _)
    | (extract_lets +onlyGivenNames x; clear_value x)
    | (extract_lets +onlyGivenNames x)
    | with_reducible apply OutKeeps.next
    | with_reducible apply State.setSq_keeps
    | with_reducible apply State.at_keeps
    | split)

/-- Changes at most: now, fresh, regs, trace, ticks, reports, seqs. -/
theorem execPassEnd_keeps {P : Nat} {s₀ : State} (t : Word) (k : Fin 16) (s : State)
    (hP : 68719489075 &&& P = 68719489075) (h : Keeps P s₀ s) :
    OutKeeps P s₀ (execPassEnd t k s) := by
  unfold execPassEnd
  repeat' (first
    | with_reducible assumption
    | exact Mask.sub hP (by decide)
    | (extract_lets +onlyGivenNames x; refine Keeps.cut P s₀ x ?_ fun hx => ?_; (on_goal 2 => clear_value x); revert x; change Keeps _ _ _)
    | (extract_lets +onlyGivenNames x; clear_value x)
    | (extract_lets +onlyGivenNames x)
    | with_reducible apply OutKeeps.next
    | with_reducible apply State.setSq_keeps
    | with_reducible apply State.seqShow_keeps
    | with_reducible apply State.fillPasses_keeps
    | with_reducible apply State.seqTrigger_keeps
    | with_reducible apply State.incMod_keeps
    | with_reducible apply State.at_keeps
    | with_reducible apply Keeps.foldl
    | split
    | (intro _ _ _))

/-- Changes at most: now, regs, trace, ticks, seqs, cmbSig, streams, dmaTrigs. -/
theorem execWindowFinalise_keeps {P : Nat} {s₀ : State} (t : Word) (k : Fin 16) (s : State)
    (hP : 612498414134890545 &&& P = 612498414134890545) (h : Keeps P s₀ s) :
    OutKeeps P s₀ (execWindowFinalise t k s) := by
  unfold execWindowFinalise
  repeat' (first
    | with_reducible assumption
    | exact Mask.sub hP (by decide)
    | (extract_lets +onlyGivenNames x; refine Keeps.cut P s₀ x ?_ fun hx => ?_; (on_goal 2 => clear_value x); revert x; change Keeps _ _ _)
    | (extract_lets +onlyGivenNames x; clear_value x)
    | with_reducible apply OutKeeps.next
    | with_reducible apply State.dmaPulse_keeps
    | with_reducible apply State.streamWindow_keeps
    | with_reducible apply State.setSq_keeps
    | with_reducible apply State.packFlush_keeps
    | with_reducible apply State.set_keeps
    | with_reducible apply State.flag_keeps
    | with_reducible apply State.at_keeps
    | split
    | with_reducible apply Keeps.upd_cmbSig)

/-- Changes at most: regs. -/
theorem State.seqClear_keeps {P : Nat} {s₀ : State} (s : State) (k : ℕ)
    (hP : 16 &&& P = 16) (h : Keeps P s₀ s) :
    Keeps P s₀ (State.seqClear s k) := by
  unfold State.seqClear
  repeat' (first
    | with_reducible assumption
    | exact Mask.sub hP (by decide)
    | with_reducible apply State.clearCounts_keeps)

/-- Changes at most: now, regs, ticks. -/
theorem execSeqCntClr_keeps {P : Nat} {s₀ : State} (t : Word) (k : Fin 16) (s : State)
    (hP : 4113 &&& P = 4113) (h : Keeps P s₀ s) :
    OutKeeps P s₀ (execSeqCntClr t k s) := by
  unfold execSeqCntClr
  repeat' (first
    | with_reducible assumption
    | exact Mask.sub hP (by decide)
    | (extract_lets +onlyGivenNames x; refine Keeps.cut P s₀ x ?_ fun hx => ?_; (on_goal 2 => clear_value x); revert x; change Keeps _ _ _)
    | (extract_lets +onlyGivenNames x; clear_value x)
    | with_reducible apply OutKeeps.next
    | with_reducible apply State.seqClear_keeps
    | with_reducible apply State.wrej_keeps
    | with_reducible apply State.at_keeps
    | split)

/-- Changes at most: now, regs, rot. -/
theorem execRotationStart_keeps {P : Nat} {s₀ : State} (t : Word) (s : State)
    (hP : 274877906961 &&& P = 274877906961) (h : Keeps P s₀ s) :
    OutKeeps P s₀ (execRotationStart t s) := by
  unfold execRotationStart
  repeat' (first
    | with_reducible assumption
    | exact Mask.sub hP (by decide)
    | (extract_lets +onlyGivenNames x; refine Keeps.cut P s₀ x ?_ fun hx => ?_; (on_goal 2 => clear_value x); revert x; change Keeps _ _ _)
    | (extract_lets +onlyGivenNames x; clear_value x)
    | (extract_lets +onlyGivenNames x)
    | with_reducible apply OutKeeps.next
    | with_reducible apply State.set_keeps
    | with_reducible apply State.at_keeps
    | split
    | with_reducible apply Keeps.upd_rot)

/-- Changes at most: now, regs, rot. -/
theorem execSliceSwitchStart_keeps {P : Nat} {s₀ : State} (t : Word) (s : State)
    (hP : 274877906961 &&& P = 274877906961) (h : Keeps P s₀ s) :
    OutKeeps P s₀ (execSliceSwitchStart t s) := by
  unfold execSliceSwitchStart
  repeat' (first
    | with_reducible assumption
    | exact Mask.sub hP (by decide)
    | (extract_lets +onlyGivenNames x; refine Keeps.cut P s₀ x ?_ fun hx => ?_; (on_goal 2 => clear_value x); revert x; change Keeps _ _ _)
    | (extract_lets +onlyGivenNames x; clear_value x)
    | (extract_lets +onlyGivenNames x)
    | with_reducible apply OutKeeps.next
    | with_reducible apply State.set_keeps
    | with_reducible apply State.at_keeps
    | split
    | with_reducible apply Keeps.upd_rot)

/-- Changes at most: now, regs, seqs, rot. -/
theorem execSliceSwitchEnd_keeps {P : Nat} {s₀ : State} (t : Word) (s : State)
    (hP : 343597383697 &&& P = 343597383697) (h : Keeps P s₀ s) :
    OutKeeps P s₀ (execSliceSwitchEnd t s) := by
  unfold execSliceSwitchEnd
  repeat' (first
    | with_reducible assumption
    | exact Mask.sub hP (by decide)
    | (extract_lets +onlyGivenNames x; refine Keeps.cut P s₀ x ?_ fun hx => ?_; (on_goal 2 => clear_value x); revert x; change Keeps _ _ _)
    | (extract_lets +onlyGivenNames x; clear_value x)
    | (extract_lets +onlyGivenNames x)
    | with_reducible apply OutKeeps.next
    | with_reducible apply State.setSq_keeps
    | with_reducible apply State.set_keeps
    | with_reducible apply State.at_keeps
    | with_reducible apply Keeps.foldl
    | split
    | (intro _ _ _)
    | with_reducible apply Keeps.upd_rot)

/-- Changes at most: now, regs, ticks. -/
theorem execRotationAbandon_keeps {P : Nat} {s₀ : State} (t : Word) (s : State)
    (hP : 4113 &&& P = 4113) (h : Keeps P s₀ s) :
    OutKeeps P s₀ (execRotationAbandon t s) := by
  unfold execRotationAbandon
  repeat' (first
    | with_reducible assumption
    | exact Mask.sub hP (by decide)
    | (extract_lets +onlyGivenNames x; refine Keeps.cut P s₀ x ?_ fun hx => ?_; (on_goal 2 => clear_value x); revert x; change Keeps _ _ _)
    | (extract_lets +onlyGivenNames x; clear_value x)
    | (extract_lets +onlyGivenNames x)
    | with_reducible apply OutKeeps.next
    | with_reducible apply State.set_keeps
    | with_reducible apply State.inc_keeps
    | with_reducible apply State.at_keeps
    | split)

/-- Changes at most: now, fresh, regs, reports, causes. -/
theorem execSpareCalVerdict_keeps {P : Nat} {s₀ : State} (t : Word) (agnd : ℤ) (refp : ℤ) (refn : ℤ) (s : State)
    (hP : 73747 &&& P = 73747) (h : Keeps P s₀ s) :
    OutKeeps P s₀ (execSpareCalVerdict t agnd refp refn s) := by
  unfold execSpareCalVerdict
  repeat' (first
    | with_reducible assumption
    | exact Mask.sub hP (by decide)
    | (extract_lets +onlyGivenNames x; refine Keeps.cut P s₀ x ?_ fun hx => ?_; (on_goal 2 => clear_value x); revert x; change Keeps _ _ _)
    | (extract_lets +onlyGivenNames x; refine Keeps.cutFst P s₀ x ?_ fun hx => ?_; (on_goal 2 => clear_value x); revert x; change Keeps _ _ _)
    | (extract_lets +onlyGivenNames x; refine Keeps.cutMid P s₀ x ?_ fun hx => ?_; (on_goal 2 => clear_value x); revert x; change Keeps _ _ _)
    | (extract_lets +onlyGivenNames x; refine Keeps.cutSnd P s₀ x ?_ fun hx => ?_; (on_goal 2 => clear_value x); revert x; change Keeps _ _ _)
    | (extract_lets +onlyGivenNames x; clear_value x)
    | (extract_lets +onlyGivenNames x)
    | with_reducible apply OutKeeps.next
    | with_reducible apply State.set_keeps
    | with_reducible apply State.setI_keeps
    | with_reducible apply State.incMod_keeps
    | with_reducible apply State.report_keeps
    | with_reducible apply State.cause_keeps
    | with_reducible apply State.free_keeps
    | with_reducible apply State.at_keeps
    | split
    | refine Keeps.ofFst (by assumption) ?_
    | refine Keeps.ofSnd (by assumption) ?_
    | refine Keeps.ofMid (by assumption) ?_)

/-- Changes at most: regs, ticks, reports, causes, wmons, saf. -/
theorem State.wmEnter_keeps {P : Nat} {s₀ : State} (s : State) (m : ℕ) (c : ℕ)
    (hP : 9223373136366481424 &&& P = 9223373136366481424) (h : Keeps P s₀ s) :
    Keeps P s₀ (State.wmEnter s m c) := by
  unfold State.wmEnter
  repeat' (first
    | with_reducible assumption
    | exact Mask.sub hP (by decide)
    | (extract_lets +onlyGivenNames x; refine Keeps.cut P s₀ x ?_ fun hx => ?_; (on_goal 2 => clear_value x); revert x; change Keeps _ _ _)
    | (extract_lets +onlyGivenNames x; clear_value x)
    | with_reducible apply State.cutWatch_keeps
    | with_reducible apply State.setWm_keeps
    | with_reducible apply State.set_keeps
    | with_reducible apply State.stick_keeps
    | with_reducible apply State.inc_keeps
    | with_reducible apply State.report_keeps
    | with_reducible apply State.cause_keeps
    | split)

/-- Changes at most: regs, wmons. -/
theorem State.wmCompare_keeps {P : Nat} {s₀ : State} (s : State) (m : ℕ) (mv : ℕ)
    (hP : 1099511627792 &&& P = 1099511627792) (h : Keeps P s₀ s) :
    Keeps P s₀ (State.wmCompare s m mv) := by
  unfold State.wmCompare
  repeat' (first
    | with_reducible assumption
    | exact Mask.sub hP (by decide)
    | (extract_lets +onlyGivenNames x; refine Keeps.cut P s₀ x ?_ fun hx => ?_; (on_goal 2 => clear_value x); revert x; change Keeps _ _ _)
    | (extract_lets +onlyGivenNames x; clear_value x)
    | with_reducible apply State.setWm_keeps
    | with_reducible apply State.set_keeps
    | split)

/-- Changes at most: regs, ticks, reports, causes, wmons, saf. -/
theorem State.wmSees_keeps {P : Nat} {s₀ : State} (s : State) (m : ℕ) (mv : ℕ)
    (hP : 9223373136366481424 &&& P = 9223373136366481424) (h : Keeps P s₀ s) :
    Keeps P s₀ (State.wmSees s m mv) := by
  unfold State.wmSees
  repeat' (first
    | with_reducible assumption
    | exact Mask.sub hP (by decide)
    | (extract_lets +onlyGivenNames x; refine Keeps.cut P s₀ x ?_ fun hx => ?_; (on_goal 2 => clear_value x); revert x; change Keeps _ _ _)
    | (extract_lets +onlyGivenNames x; clear_value x)
    | (extract_lets +onlyGivenNames x)
    | with_reducible apply State.wmEnter_keeps
    | with_reducible apply State.wmCompare_keeps
    | with_reducible apply State.setWm_keeps
    | split)

/-- Changes at most: now, regs, ticks, reports, causes, wmons, saf. -/
theorem execWindowCrossing_keeps {P : Nat} {s₀ : State} (t : Word) (m : Fin 8) (mv : Fin 65536) (s : State)
    (hP : 9223373136366481425 &&& P = 9223373136366481425) (h : Keeps P s₀ s) :
    OutKeeps P s₀ (execWindowCrossing t m mv s) := by
  unfold execWindowCrossing
  repeat' (first
    | with_reducible assumption
    | exact Mask.sub hP (by decide)
    | with_reducible apply OutKeeps.next
    | with_reducible apply State.wmSees_keeps
    | with_reducible apply State.at_keeps)

/-- Changes at most: regs, ticks, reports, causes, wmons, saf. -/
theorem State.wmLook_keeps {P : Nat} {s₀ : State} (s : State) (m : ℕ)
    (hP : 9223373136366481424 &&& P = 9223373136366481424) (h : Keeps P s₀ s) :
    Keeps P s₀ (State.wmLook s m) := by
  unfold State.wmLook
  repeat' (first
    | with_reducible assumption
    | exact Mask.sub hP (by decide)
    | (extract_lets +onlyGivenNames x; refine Keeps.cut P s₀ x ?_ fun hx => ?_; (on_goal 2 => clear_value x); revert x; change Keeps _ _ _)
    | (extract_lets +onlyGivenNames x; clear_value x)
    | with_reducible apply State.wmSees_keeps
    | split)

/-- Changes at most: now, regs, ticks, reports, causes, wmons, saf. -/
theorem execWmBlankEnd_keeps {P : Nat} {s₀ : State} (t : Word) (m : Fin 8) (s : State)
    (hP : 9223373136366481425 &&& P = 9223373136366481425) (h : Keeps P s₀ s) :
    OutKeeps P s₀ (execWmBlankEnd t m s) := by
  unfold execWmBlankEnd
  repeat' (first
    | with_reducible assumption
    | exact Mask.sub hP (by decide)
    | with_reducible apply OutKeeps.next
    | with_reducible apply State.wmLook_keeps
    | with_reducible apply State.at_keeps)

/-- Changes at most: wmons. -/
theorem State.wmMode_keeps {P : Nat} {s₀ : State} (s : State) (m : ℕ) (old : Word) (new : Word)
    (hP : 1099511627776 &&& P = 1099511627776) (h : Keeps P s₀ s) :
    Keeps P s₀ (State.wmMode s m old new) := by
  unfold State.wmMode
  repeat' (first
    | with_reducible assumption
    | exact Mask.sub hP (by decide)
    | (extract_lets +onlyGivenNames x; refine Keeps.cut P s₀ x ?_ fun hx => ?_; (on_goal 2 => clear_value x); revert x; change Keeps _ _ _)
    | (extract_lets +onlyGivenNames x; clear_value x)
    | with_reducible apply State.setWm_keeps
    | split)

/-- Changes at most: now, regs. -/
theorem execWmLatchClear_keeps {P : Nat} {s₀ : State} (t : Word) (m : Fin 8) (s : State)
    (hP : 17 &&& P = 17) (h : Keeps P s₀ s) :
    OutKeeps P s₀ (execWmLatchClear t m s) := by
  unfold execWmLatchClear
  repeat' (first
    | with_reducible assumption
    | exact Mask.sub hP (by decide)
    | with_reducible apply OutKeeps.next
    | with_reducible apply State.clearLatch_keeps
    | with_reducible apply State.at_keeps)

/-- Changes at most: regs. -/
theorem State.wmClear_keeps {P : Nat} {s₀ : State} (s : State) (m : ℕ)
    (hP : 16 &&& P = 16) (h : Keeps P s₀ s) :
    Keeps P s₀ (State.wmClear s m) := by
  unfold State.wmClear
  repeat' (first
    | with_reducible assumption
    | exact Mask.sub hP (by decide)
    | with_reducible apply State.clearCounts_keeps)

/-- Changes at most: now, regs. -/
theorem execWmCntClr_keeps {P : Nat} {s₀ : State} (t : Word) (m : Fin 8) (s : State)
    (hP : 17 &&& P = 17) (h : Keeps P s₀ s) :
    OutKeeps P s₀ (execWmCntClr t m s) := by
  unfold execWmCntClr
  repeat' (first
    | with_reducible assumption
    | exact Mask.sub hP (by decide)
    | with_reducible apply OutKeeps.next
    | with_reducible apply State.wmClear_keeps
    | with_reducible apply State.at_keeps)

/-- Changes at most: ptimers. -/
theorem State.setPt_keeps {P : Nat} {s₀ : State} (s : State) (p : ℕ) (k : PTimer)
    (hP : 2199023255552 &&& P = 2199023255552) (h : Keeps P s₀ s) :
    Keeps P s₀ (State.setPt s p k) := by
  unfold State.setPt
  repeat' (first
    | with_reducible assumption
    | exact Mask.sub hP (by decide)
    | (extract_lets +onlyGivenNames x; refine Keeps.cut P s₀ x ?_ fun hx => ?_; (on_goal 2 => clear_value x); revert x; change Keeps _ _ _)
    | (extract_lets +onlyGivenNames x; clear_value x)
    | with_reducible apply Keeps.upd_ptimers)

/-- Changes at most: regs, ptimers, dmaTrigs. -/
theorem State.ptStart_keeps {P : Nat} {s₀ : State} (s : State) (p : ℕ)
    (hP : 576462951326679056 &&& P = 576462951326679056) (h : Keeps P s₀ s) :
    Keeps P s₀ (State.ptStart s p) := by
  unfold State.ptStart
  repeat' (first
    | with_reducible assumption
    | exact Mask.sub hP (by decide)
    | (extract_lets +onlyGivenNames x; refine Keeps.cut P s₀ x ?_ fun hx => ?_; (on_goal 2 => clear_value x); revert x; change Keeps _ _ _)
    | (extract_lets +onlyGivenNames x; clear_value x)
    | with_reducible apply State.dmaPulse_keeps
    | with_reducible apply State.setPt_keeps
    | with_reducible apply State.periodRise_keeps)

/-- Changes at most: ptimers. -/
theorem State.ptStop_keeps {P : Nat} {s₀ : State} (s : State) (p : ℕ)
    (hP : 2199023255552 &&& P = 2199023255552) (h : Keeps P s₀ s) :
    Keeps P s₀ (State.ptStop s p) := by
  unfold State.ptStop
  repeat' (first
    | with_reducible assumption
    | exact Mask.sub hP (by decide)
    | (extract_lets +onlyGivenNames x; refine Keeps.cut P s₀ x ?_ fun hx => ?_; (on_goal 2 => clear_value x); revert x; change Keeps _ _ _)
    | (extract_lets +onlyGivenNames x; clear_value x)
    | with_reducible apply State.setPt_keeps
    | split)

/-- Changes at most: now, regs, ptimers, dmaTrigs. -/
theorem execPtEnable_keeps {P : Nat} {s₀ : State} (t : Word) (p : Fin 4) (s : State)
    (hP : 576462951326679057 &&& P = 576462951326679057) (h : Keeps P s₀ s) :
    OutKeeps P s₀ (execPtEnable t p s) := by
  unfold execPtEnable
  repeat' (first
    | with_reducible assumption
    | exact Mask.sub hP (by decide)
    | (extract_lets +onlyGivenNames x; refine Keeps.cut P s₀ x ?_ fun hx => ?_; (on_goal 2 => clear_value x); revert x; change Keeps _ _ _)
    | (extract_lets +onlyGivenNames x; clear_value x)
    | with_reducible apply OutKeeps.next
    | with_reducible apply State.ptStart_keeps
    | with_reducible apply State.set_keeps
    | with_reducible apply State.at_keeps
    | split)

/-- Changes at most: now, regs, ptimers, dmaTrigs. -/
theorem execPeriodTimerEdge_keeps {P : Nat} {s₀ : State} (t : Word) (p : Fin 4) (s : State)
    (hP : 576462951326679057 &&& P = 576462951326679057) (h : Keeps P s₀ s) :
    OutKeeps P s₀ (execPeriodTimerEdge t p s) := by
  unfold execPeriodTimerEdge
  repeat' (first
    | with_reducible assumption
    | exact Mask.sub hP (by decide)
    | (extract_lets +onlyGivenNames x; refine Keeps.cut P s₀ x ?_ fun hx => ?_; (on_goal 2 => clear_value x); revert x; change Keeps _ _ _)
    | (extract_lets +onlyGivenNames x; clear_value x)
    | with_reducible apply OutKeeps.next
    | with_reducible apply State.dmaPulse_keeps
    | with_reducible apply State.setPt_keeps
    | with_reducible apply State.periodRise_keeps
    | with_reducible apply State.at_keeps
    | split)

/-- Changes at most: regs, supply. -/
theorem State.testMode_keeps {P : Nat} {s₀ : State} (s : State) (i : ℕ)
    (hP : 4611686018427387920 &&& P = 4611686018427387920) (h : Keeps P s₀ s) :
    Keeps P s₀ (State.testMode s i) := by
  unfold State.testMode
  repeat' (first
    | with_reducible assumption
    | exact Mask.sub hP (by decide)
    | with_reducible apply State.smMode_keeps
    | split)

/-- Changes at most: now, regs, monTest, supply. -/
theorem execMonitorSelftest_keeps {P : Nat} {s₀ : State} (t : Word) (s : State)
    (hP : 4611690416473899025 &&& P = 4611690416473899025) (h : Keeps P s₀ s) :
    OutKeeps P s₀ (execMonitorSelftest t s) := by
  unfold execMonitorSelftest
  repeat' (first
    | with_reducible assumption
    | exact Mask.sub hP (by decide)
    | (extract_lets +onlyGivenNames x; refine Keeps.cut P s₀ x ?_ fun hx => ?_; (on_goal 2 => clear_value x); revert x; change Keeps _ _ _)
    | (extract_lets +onlyGivenNames x; clear_value x)
    | (extract_lets +onlyGivenNames x)
    | with_reducible apply OutKeeps.next
    | with_reducible apply State.testMode_keeps
    | with_reducible apply State.at_keeps
    | split
    | with_reducible apply Keeps.upd_monTest)

/-- Changes at most: regs, ticks, reports, causes. -/
theorem State.monFail_keeps {P : Nat} {s₀ : State} (s : State) (i : ℕ)
    (hP : 77840 &&& P = 77840) (h : Keeps P s₀ s) :
    Keeps P s₀ (State.monFail s i) := by
  unfold State.monFail
  repeat' (first
    | with_reducible assumption
    | exact Mask.sub hP (by decide)
    | with_reducible apply State.stick_keeps
    | with_reducible apply State.report_keeps
    | with_reducible apply State.cause_keeps
    | split)

/-- Changes at most: regs, ticks, reports, causes, wmons, supply, saf. -/
theorem State.monBack_keeps {P : Nat} {s₀ : State} (s : State) (i : ℕ)
    (hP : 13835059154793869328 &&& P = 13835059154793869328) (h : Keeps P s₀ s) :
    Keeps P s₀ (State.monBack s i) := by
  unfold State.monBack
  repeat' (first
    | with_reducible assumption
    | exact Mask.sub hP (by decide)
    | (extract_lets +onlyGivenNames x; refine Keeps.cut P s₀ x ?_ fun hx => ?_; (on_goal 2 => clear_value x); revert x; change Keeps _ _ _)
    | (extract_lets +onlyGivenNames x; clear_value x)
    | with_reducible apply State.smMode_keeps
    | with_reducible apply State.wmLook_keeps
    | with_reducible apply State.setWm_keeps
    | split)

/-- Changes at most: now, regs, ticks, reports, causes, wmons, monTest, supply, saf. -/
theorem execMonitorSelftestDone_keeps {P : Nat} {s₀ : State} (t : Word) (low : Fin 16) (high : Fin 16) (s : State)
    (hP : 13835063552840380433 &&& P = 13835063552840380433) (h : Keeps P s₀ s) :
    OutKeeps P s₀ (execMonitorSelftestDone t low high s) := by
  unfold execMonitorSelftestDone
  repeat' (first
    | with_reducible assumption
    | exact Mask.sub hP (by decide)
    | (extract_lets +onlyGivenNames x; refine Keeps.cut P s₀ x ?_ fun hx => ?_; (on_goal 2 => clear_value x); revert x; change Keeps _ _ _)
    | (extract_lets +onlyGivenNames x; clear_value x)
    | (extract_lets +onlyGivenNames x)
    | with_reducible apply OutKeeps.next
    | with_reducible apply State.monFail_keeps
    | with_reducible apply State.monBack_keeps
    | with_reducible apply State.at_keeps
    | split
    | with_reducible apply Keeps.upd_monTest)

end Sys2Proof.Machine
end

