-- ==== Sys2Proof/Laws/KeepsCombust.lean ====
section
/-!
SUPPORT. What each operation of Machine/Combust.lean may change (Laws/Keeps.lean).
-/
set_option linter.unusedTactic false
set_option linter.unreachableTactic false
namespace Sys2Proof.Machine

/-- Changes at most: combust. -/
theorem State.setCmb_keeps {P : Nat} {s₀ : State} (s : State) (j : ℕ) (k : Combust)
    (hP : 35184372088832 &&& P = 35184372088832) (h : Keeps P s₀ s) :
    Keeps P s₀ (State.setCmb s j k) := by
  unfold State.setCmb
  repeat' (first
    | with_reducible assumption
    | exact Mask.sub hP (by decide)
    | (extract_lets +onlyGivenNames x; refine Keeps.cut P s₀ x ?_ fun hx => ?_; (on_goal 2 => clear_value x); revert x; change Keeps _ _ _)
    | (extract_lets +onlyGivenNames x; clear_value x)
    | with_reducible apply Keeps.upd_combust)

/-- Changes at most: fresh. -/
theorem State.pegging_keeps {P : Nat} {s₀ : State} (s : State) (j : ℕ) (p : ℕ → ℤ) (pman : Option ℤ)
    (hP : 2 &&& P = 2) (h : Keeps P s₀ s) :
    Keeps P s₀ (State.pegging s j p pman).2 := by
  unfold State.pegging
  repeat' (first
    | with_reducible assumption
    | exact Mask.sub hP (by decide)
    | (extract_lets +onlyGivenNames x; refine Keeps.cut P s₀ x ?_ fun hx => ?_; (on_goal 2 => clear_value x); revert x; change Keeps _ _ _)
    | (extract_lets +onlyGivenNames x; refine Keeps.cutOp P s₀ x ?_ fun hx => ?_; (on_goal 2 => clear_value x); revert x; change ∀ s, Keeps _ _ s → Keeps _ _ _; intro s hs)
    | (extract_lets +onlyGivenNames x; refine Keeps.cutFun P s₀ x ?_ fun hx => ?_; (on_goal 2 => clear_value x); revert x; change ∀ s x, Keeps _ _ s → Keeps _ _ _; intro s x hs)
    | (extract_lets +onlyGivenNames x; refine Keeps.cutFunFst P s₀ x ?_ fun hx => ?_; (on_goal 2 => clear_value x); revert x; change ∀ s x, Keeps _ _ s → Keeps _ _ _; intro s x hs)
    | (extract_lets +onlyGivenNames x; refine Keeps.cutFn P s₀ x ?_ fun hx => ?_; (on_goal 2 => clear_value x); revert x; change ∀ x, Keeps _ _ _; intro x)
    | (extract_lets +onlyGivenNames x; refine Keeps.cutFst P s₀ x ?_ fun hx => ?_; (on_goal 2 => clear_value x); revert x; change Keeps _ _ _)
    | (extract_lets +onlyGivenNames x; refine Keeps.cutMid P s₀ x ?_ fun hx => ?_; (on_goal 2 => clear_value x); revert x; change Keeps _ _ _)
    | (extract_lets +onlyGivenNames x; refine Keeps.cutSnd P s₀ x ?_ fun hx => ?_; (on_goal 2 => clear_value x); revert x; change Keeps _ _ _)
    | (extract_lets +onlyGivenNames x; clear_value x)
    | (extract_lets +onlyGivenNames x)
    | with_reducible apply State.free_keeps
    | split
    | with_reducible apply_assumption
    | refine Keeps.ofFst (by assumption) ?_
    | refine Keeps.ofSnd (by assumption) ?_
    | refine Keeps.ofMid (by assumption) ?_)

/-- Changes at most: fresh. -/
theorem State.burnAngle_keeps {P : Nat} {s₀ : State} (s : State) (j : ℕ) (x : ℕ) (c : Array ℤ) (cMin : ℤ) (cMax : ℤ) (kMin : ℕ) (kMax : ℕ)
    (hP : 2 &&& P = 2) (h : Keeps P s₀ s) :
    Keeps P s₀ (State.burnAngle s j x c cMin cMax kMin kMax).2 := by
  unfold State.burnAngle
  repeat' (first
    | with_reducible assumption
    | exact Mask.sub hP (by decide)
    | (extract_lets +onlyGivenNames x; refine Keeps.cut P s₀ x ?_ fun hx => ?_; (on_goal 2 => clear_value x); revert x; change Keeps _ _ _)
    | (extract_lets +onlyGivenNames x; refine Keeps.cutFst P s₀ x ?_ fun hx => ?_; (on_goal 2 => clear_value x); revert x; change Keeps _ _ _)
    | (extract_lets +onlyGivenNames x; refine Keeps.cutMid P s₀ x ?_ fun hx => ?_; (on_goal 2 => clear_value x); revert x; change Keeps _ _ _)
    | (extract_lets +onlyGivenNames x; refine Keeps.cutSnd P s₀ x ?_ fun hx => ?_; (on_goal 2 => clear_value x); revert x; change Keeps _ _ _)
    | (extract_lets +onlyGivenNames x; clear_value x)
    | with_reducible apply State.free_keeps
    | split
    | refine Keeps.ofFst (by assumption) ?_
    | refine Keeps.ofSnd (by assumption) ?_
    | refine Keeps.ofMid (by assumption) ?_)

/-- Changes at most: fresh. -/
theorem State.free3_keeps {P : Nat} {s₀ : State} (s : State)
    (hP : 2 &&& P = 2) (h : Keeps P s₀ s) :
    Keeps P s₀ (State.free3 s).2 := by
  unfold State.free3
  repeat' (first
    | with_reducible assumption
    | exact Mask.sub hP (by decide)
    | (extract_lets +onlyGivenNames x; refine Keeps.cut P s₀ x ?_ fun hx => ?_; (on_goal 2 => clear_value x); revert x; change Keeps _ _ _)
    | (extract_lets +onlyGivenNames x; refine Keeps.cutFst P s₀ x ?_ fun hx => ?_; (on_goal 2 => clear_value x); revert x; change Keeps _ _ _)
    | (extract_lets +onlyGivenNames x; refine Keeps.cutMid P s₀ x ?_ fun hx => ?_; (on_goal 2 => clear_value x); revert x; change Keeps _ _ _)
    | (extract_lets +onlyGivenNames x; refine Keeps.cutSnd P s₀ x ?_ fun hx => ?_; (on_goal 2 => clear_value x); revert x; change Keeps _ _ _)
    | (extract_lets +onlyGivenNames x; clear_value x)
    | with_reducible apply State.free_keeps
    | refine Keeps.ofFst (by assumption) ?_
    | refine Keeps.ofSnd (by assumption) ?_
    | refine Keeps.ofMid (by assumption) ?_)

/-- Changes at most: fresh. -/
theorem State.heatRelease_keeps {P : Nat} {s₀ : State} (s : State) (j : ℕ) (p : ℕ → ℤ) (v : ℕ → ℤ)
    (hP : 2 &&& P = 2) (h : Keeps P s₀ s) :
    Keeps P s₀ (State.heatRelease s j p v).2 := by
  unfold State.heatRelease
  repeat' (first
    | with_reducible assumption
    | exact Mask.sub hP (by decide)
    | (extract_lets +onlyGivenNames x; refine Keeps.cut P s₀ x ?_ fun hx => ?_; (on_goal 2 => clear_value x); revert x; change Keeps _ _ _)
    | (extract_lets +onlyGivenNames x; refine Keeps.cutOp P s₀ x ?_ fun hx => ?_; (on_goal 2 => clear_value x); revert x; change ∀ s, Keeps _ _ s → Keeps _ _ _; intro s hs)
    | (extract_lets +onlyGivenNames x; refine Keeps.cutFun P s₀ x ?_ fun hx => ?_; (on_goal 2 => clear_value x); revert x; change ∀ s x, Keeps _ _ s → Keeps _ _ _; intro s x hs)
    | (extract_lets +onlyGivenNames x; refine Keeps.cutFunFst P s₀ x ?_ fun hx => ?_; (on_goal 2 => clear_value x); revert x; change ∀ s x, Keeps _ _ s → Keeps _ _ _; intro s x hs)
    | (extract_lets +onlyGivenNames x; refine Keeps.cutFn P s₀ x ?_ fun hx => ?_; (on_goal 2 => clear_value x); revert x; change ∀ x, Keeps _ _ _; intro x)
    | (extract_lets +onlyGivenNames x; refine Keeps.cutFst P s₀ x ?_ fun hx => ?_; (on_goal 2 => clear_value x); revert x; change Keeps _ _ _)
    | (extract_lets +onlyGivenNames x; refine Keeps.cutMid P s₀ x ?_ fun hx => ?_; (on_goal 2 => clear_value x); revert x; change Keeps _ _ _)
    | (extract_lets +onlyGivenNames x; refine Keeps.cutSnd P s₀ x ?_ fun hx => ?_; (on_goal 2 => clear_value x); revert x; change Keeps _ _ _)
    | (extract_lets +onlyGivenNames x; clear_value x)
    | (extract_lets +onlyGivenNames x)
    | with_reducible apply State.burnAngle_keeps
    | with_reducible apply State.free3_keeps
    | with_reducible apply State.free_keeps
    | split
    | with_reducible apply_assumption
    | refine Keeps.ofFst (by assumption) ?_
    | refine Keeps.ofSnd (by assumption) ?_
    | refine Keeps.ofMid (by assumption) ?_)

/-- Changes at most: fresh. -/
theorem State.ringing_keeps {P : Nat} {s₀ : State} (s : State) (j : ℕ) (p : ℕ → ℤ)
    (hP : 2 &&& P = 2) (h : Keeps P s₀ s) :
    Keeps P s₀ (State.ringing s j p).2 := by
  unfold State.ringing
  repeat' (first
    | with_reducible assumption
    | exact Mask.sub hP (by decide)
    | (extract_lets +onlyGivenNames x; refine Keeps.cut P s₀ x ?_ fun hx => ?_; (on_goal 2 => clear_value x); revert x; change Keeps _ _ _)
    | (extract_lets +onlyGivenNames x; refine Keeps.cutOp P s₀ x ?_ fun hx => ?_; (on_goal 2 => clear_value x); revert x; change ∀ s, Keeps _ _ s → Keeps _ _ _; intro s hs)
    | (extract_lets +onlyGivenNames x; refine Keeps.cutFun P s₀ x ?_ fun hx => ?_; (on_goal 2 => clear_value x); revert x; change ∀ s x, Keeps _ _ s → Keeps _ _ _; intro s x hs)
    | (extract_lets +onlyGivenNames x; refine Keeps.cutFunFst P s₀ x ?_ fun hx => ?_; (on_goal 2 => clear_value x); revert x; change ∀ s x, Keeps _ _ s → Keeps _ _ _; intro s x hs)
    | (extract_lets +onlyGivenNames x; refine Keeps.cutFn P s₀ x ?_ fun hx => ?_; (on_goal 2 => clear_value x); revert x; change ∀ x, Keeps _ _ _; intro x)
    | (extract_lets +onlyGivenNames x; refine Keeps.cutFst P s₀ x ?_ fun hx => ?_; (on_goal 2 => clear_value x); revert x; change Keeps _ _ _)
    | (extract_lets +onlyGivenNames x; refine Keeps.cutMid P s₀ x ?_ fun hx => ?_; (on_goal 2 => clear_value x); revert x; change Keeps _ _ _)
    | (extract_lets +onlyGivenNames x; refine Keeps.cutSnd P s₀ x ?_ fun hx => ?_; (on_goal 2 => clear_value x); revert x; change Keeps _ _ _)
    | (extract_lets +onlyGivenNames x; clear_value x)
    | (extract_lets +onlyGivenNames x)
    | with_reducible apply State.free_keeps
    | split
    | with_reducible apply_assumption
    | refine Keeps.ofFst (by assumption) ?_
    | refine Keeps.ofSnd (by assumption) ?_
    | refine Keeps.ofMid (by assumption) ?_)

/-- Changes at most: fresh. -/
theorem State.imepOf_keeps {P : Nat} {s₀ : State} (s : State) (j : ℕ) (p : ℕ → ℤ) (v : ℕ → ℤ)
    (hP : 2 &&& P = 2) (h : Keeps P s₀ s) :
    Keeps P s₀ (State.imepOf s j p v).2 := by
  unfold State.imepOf
  repeat' (first
    | with_reducible assumption
    | exact Mask.sub hP (by decide)
    | (extract_lets +onlyGivenNames x; refine Keeps.cut P s₀ x ?_ fun hx => ?_; (on_goal 2 => clear_value x); revert x; change Keeps _ _ _)
    | (extract_lets +onlyGivenNames x; refine Keeps.cutFst P s₀ x ?_ fun hx => ?_; (on_goal 2 => clear_value x); revert x; change Keeps _ _ _)
    | (extract_lets +onlyGivenNames x; refine Keeps.cutMid P s₀ x ?_ fun hx => ?_; (on_goal 2 => clear_value x); revert x; change Keeps _ _ _)
    | (extract_lets +onlyGivenNames x; refine Keeps.cutSnd P s₀ x ?_ fun hx => ?_; (on_goal 2 => clear_value x); revert x; change Keeps _ _ _)
    | (extract_lets +onlyGivenNames x; clear_value x)
    | with_reducible apply State.free_keeps
    | split
    | refine Keeps.ofFst (by assumption) ?_
    | refine Keeps.ofSnd (by assumption) ?_
    | refine Keeps.ofMid (by assumption) ?_)

/-- Changes at most: fresh. -/
theorem State.cmbResults_keeps {P : Nat} {s₀ : State} (s : State) (j : ℕ) (fl : ℕ) (p : ℕ → ℤ) (c : ℤ)
    (hP : 2 &&& P = 2) (h : Keeps P s₀ s) :
    Keeps P s₀ (State.cmbResults s j fl p c).2 := by
  unfold State.cmbResults
  repeat' (first
    | with_reducible assumption
    | exact Mask.sub hP (by decide)
    | (extract_lets +onlyGivenNames x; refine Keeps.cut P s₀ x ?_ fun hx => ?_; (on_goal 2 => clear_value x); revert x; change Keeps _ _ _)
    | (extract_lets +onlyGivenNames x; refine Keeps.cutOp P s₀ x ?_ fun hx => ?_; (on_goal 2 => clear_value x); revert x; change ∀ s, Keeps _ _ s → Keeps _ _ _; intro s hs)
    | (extract_lets +onlyGivenNames x; refine Keeps.cutFun P s₀ x ?_ fun hx => ?_; (on_goal 2 => clear_value x); revert x; change ∀ s x, Keeps _ _ s → Keeps _ _ _; intro s x hs)
    | (extract_lets +onlyGivenNames x; refine Keeps.cutFunFst P s₀ x ?_ fun hx => ?_; (on_goal 2 => clear_value x); revert x; change ∀ s x, Keeps _ _ s → Keeps _ _ _; intro s x hs)
    | (extract_lets +onlyGivenNames x; refine Keeps.cutFn P s₀ x ?_ fun hx => ?_; (on_goal 2 => clear_value x); revert x; change ∀ x, Keeps _ _ _; intro x)
    | (extract_lets +onlyGivenNames x; refine Keeps.cutFst P s₀ x ?_ fun hx => ?_; (on_goal 2 => clear_value x); revert x; change Keeps _ _ _)
    | (extract_lets +onlyGivenNames x; refine Keeps.cutMid P s₀ x ?_ fun hx => ?_; (on_goal 2 => clear_value x); revert x; change Keeps _ _ _)
    | (extract_lets +onlyGivenNames x; refine Keeps.cutSnd P s₀ x ?_ fun hx => ?_; (on_goal 2 => clear_value x); revert x; change Keeps _ _ _)
    | (extract_lets +onlyGivenNames x; clear_value x)
    | with_reducible apply State.heatRelease_keeps
    | with_reducible apply State.ringing_keeps
    | with_reducible apply State.imepOf_keeps
    | split
    | with_reducible apply_assumption
    | refine Keeps.ofFst (by assumption) ?_
    | refine Keeps.ofSnd (by assumption) ?_
    | refine Keeps.ofMid (by assumption) ?_)

/-- Changes at most: fresh. -/
theorem State.analyse_keeps {P : Nat} {s₀ : State} (s : State) (j : ℕ) (w : CmbWin) (pman : Option ℤ)
    (hP : 2 &&& P = 2) (h : Keeps P s₀ s) :
    Keeps P s₀ (State.analyse s j w pman).2 := by
  unfold State.analyse
  repeat' (first
    | with_reducible assumption
    | exact Mask.sub hP (by decide)
    | (extract_lets +onlyGivenNames x; refine Keeps.cut P s₀ x ?_ fun hx => ?_; (on_goal 2 => clear_value x); revert x; change Keeps _ _ _)
    | (extract_lets +onlyGivenNames x; refine Keeps.cutOp P s₀ x ?_ fun hx => ?_; (on_goal 2 => clear_value x); revert x; change ∀ s, Keeps _ _ s → Keeps _ _ _; intro s hs)
    | (extract_lets +onlyGivenNames x; refine Keeps.cutFun P s₀ x ?_ fun hx => ?_; (on_goal 2 => clear_value x); revert x; change ∀ s x, Keeps _ _ s → Keeps _ _ _; intro s x hs)
    | (extract_lets +onlyGivenNames x; refine Keeps.cutFunFst P s₀ x ?_ fun hx => ?_; (on_goal 2 => clear_value x); revert x; change ∀ s x, Keeps _ _ s → Keeps _ _ _; intro s x hs)
    | (extract_lets +onlyGivenNames x; refine Keeps.cutFn P s₀ x ?_ fun hx => ?_; (on_goal 2 => clear_value x); revert x; change ∀ x, Keeps _ _ _; intro x)
    | (extract_lets +onlyGivenNames x; refine Keeps.cutFst P s₀ x ?_ fun hx => ?_; (on_goal 2 => clear_value x); revert x; change Keeps _ _ _)
    | (extract_lets +onlyGivenNames x; refine Keeps.cutMid P s₀ x ?_ fun hx => ?_; (on_goal 2 => clear_value x); revert x; change Keeps _ _ _)
    | (extract_lets +onlyGivenNames x; refine Keeps.cutSnd P s₀ x ?_ fun hx => ?_; (on_goal 2 => clear_value x); revert x; change Keeps _ _ _)
    | (extract_lets +onlyGivenNames x; clear_value x)
    | (extract_lets +onlyGivenNames x)
    | with_reducible apply State.pegging_keeps
    | with_reducible apply State.cmbResults_keeps
    | with_reducible apply State.traceRead_keeps
    | split
    | with_reducible apply_assumption
    | refine Keeps.ofFst (by assumption) ?_
    | refine Keeps.ofSnd (by assumption) ?_
    | refine Keeps.ofMid (by assumption) ?_)

/-- Changes at most: combust. -/
theorem State.cmbStart_keeps {P : Nat} {s₀ : State} (s : State) (j : ℕ) (w : CmbWin)
    (hP : 35184372088832 &&& P = 35184372088832) (h : Keeps P s₀ s) :
    Keeps P s₀ (State.cmbStart s j w) := by
  unfold State.cmbStart
  repeat' (first
    | with_reducible assumption
    | exact Mask.sub hP (by decide)
    | (extract_lets +onlyGivenNames x; refine Keeps.cut P s₀ x ?_ fun hx => ?_; (on_goal 2 => clear_value x); revert x; change Keeps _ _ _)
    | (extract_lets +onlyGivenNames x; clear_value x)
    | with_reducible apply State.setCmb_keeps)

/-- Changes at most: now, regs, ticks, cmbSig, combust. -/
theorem execAnalysisStart_keeps {P : Nat} {s₀ : State} (t : Word) (j : Fin 24) (s : State)
    (hP : 43980465115153 &&& P = 43980465115153) (h : Keeps P s₀ s) :
    OutKeeps P s₀ (execAnalysisStart t j s) := by
  unfold execAnalysisStart
  repeat' (first
    | with_reducible assumption
    | exact Mask.sub hP (by decide)
    | (extract_lets +onlyGivenNames x; refine Keeps.cut P s₀ x ?_ fun hx => ?_; (on_goal 2 => clear_value x); revert x; change Keeps _ _ _)
    | (extract_lets +onlyGivenNames x; clear_value x)
    | with_reducible apply OutKeeps.next
    | with_reducible apply State.setCmb_keeps
    | with_reducible apply State.cmbStart_keeps
    | with_reducible apply State.inc_keeps
    | with_reducible apply State.at_keeps
    | split
    | with_reducible apply Keeps.upd_cmbSig)

/-- Changes at most: acc. -/
theorem State.recordExtremes_keeps {P : Nat} {s₀ : State} (s : State) (j : ℕ) (ws : List Word)
    (hP : 268435456 &&& P = 268435456) (h : Keeps P s₀ s) :
    Keeps P s₀ (State.recordExtremes s j ws) := by
  unfold State.recordExtremes
  repeat' (first
    | with_reducible assumption
    | exact Mask.sub hP (by decide)
    | (extract_lets +onlyGivenNames x; refine Keeps.cut P s₀ x ?_ fun hx => ?_; (on_goal 2 => clear_value x); revert x; change Keeps _ _ _)
    | (extract_lets +onlyGivenNames x; refine Keeps.cutOp P s₀ x ?_ fun hx => ?_; (on_goal 2 => clear_value x); revert x; change ∀ s, Keeps _ _ s → Keeps _ _ _; intro s hs)
    | (extract_lets +onlyGivenNames x; refine Keeps.cutFun P s₀ x ?_ fun hx => ?_; (on_goal 2 => clear_value x); revert x; change ∀ s x, Keeps _ _ s → Keeps _ _ _; intro s x hs)
    | (extract_lets +onlyGivenNames x; refine Keeps.cutFn P s₀ x ?_ fun hx => ?_; (on_goal 2 => clear_value x); revert x; change ∀ x, Keeps _ _ _; intro x)
    | (extract_lets +onlyGivenNames x; clear_value x)
    | with_reducible apply State.extreme_keeps
    | with_reducible apply_assumption)

/-- Changes at most: now, fresh, regs, work, ticks, reports, acc, combust, trimDue, dmaTrigs. -/
theorem execRecordCommit_keeps {P : Nat} {s₀ : State} (t : Word) (j : Fin 24) (s : State)
    (hP : 576566305688137811 &&& P = 576566305688137811) (h : Keeps P s₀ s) :
    OutKeeps P s₀ (execRecordCommit t j s) := by
  unfold execRecordCommit
  repeat' (first
    | with_reducible assumption
    | exact Mask.sub hP (by decide)
    | (extract_lets +onlyGivenNames x; refine Keeps.cut P s₀ x ?_ fun hx => ?_; (on_goal 2 => clear_value x); revert x; change Keeps _ _ _)
    | (extract_lets +onlyGivenNames x; refine Keeps.cutFst P s₀ x ?_ fun hx => ?_; (on_goal 2 => clear_value x); revert x; change Keeps _ _ _)
    | (extract_lets +onlyGivenNames x; refine Keeps.cutMid P s₀ x ?_ fun hx => ?_; (on_goal 2 => clear_value x); revert x; change Keeps _ _ _)
    | (extract_lets +onlyGivenNames x; refine Keeps.cutSnd P s₀ x ?_ fun hx => ?_; (on_goal 2 => clear_value x); revert x; change Keeps _ _ _)
    | (extract_lets +onlyGivenNames x; clear_value x)
    | (extract_lets +onlyGivenNames x)
    | with_reducible apply OutKeeps.next
    | with_reducible apply State.setCmb_keeps
    | with_reducible apply State.analyse_keeps
    | with_reducible apply State.cmbStart_keeps
    | with_reducible apply State.recordExtremes_keeps
    | with_reducible apply State.dmaPulse_keeps
    | with_reducible apply State.inc_keeps
    | with_reducible apply State.workSet_keeps
    | with_reducible apply State.workWrite_keeps
    | with_reducible apply State.report_keeps
    | with_reducible apply State.at_keeps
    | split
    | refine Keeps.ofFst (by assumption) ?_
    | refine Keeps.ofSnd (by assumption) ?_
    | refine Keeps.ofMid (by assumption) ?_
    | with_reducible apply Keeps.upd_trimDue)

/-- Changes at most: regs, work, combust. -/
theorem State.recordMerged_keeps {P : Nat} {s₀ : State} (s : State) (j : ℕ) (esn : ℕ)
    (hP : 35184372088912 &&& P = 35184372088912) (h : Keeps P s₀ s) :
    Keeps P s₀ (State.recordMerged s j esn) := by
  unfold State.recordMerged
  repeat' (first
    | with_reducible assumption
    | exact Mask.sub hP (by decide)
    | (extract_lets +onlyGivenNames x; refine Keeps.cut P s₀ x ?_ fun hx => ?_; (on_goal 2 => clear_value x); revert x; change Keeps _ _ _)
    | (extract_lets +onlyGivenNames x; clear_value x)
    | with_reducible apply State.setCmb_keeps
    | with_reducible apply State.set_keeps
    | with_reducible apply State.workSet_keeps
    | with_reducible apply Keeps.foldl
    | split
    | (intro _ _ _))

end Sys2Proof.Machine
end

