-- ==== Sys2Proof/Laws/KeepsService.lean ====
section
/-!
SUPPORT. What each operation of Machine/Service.lean may change (Laws/Keeps.lean).
-/
set_option linter.unusedTactic false
set_option linter.unreachableTactic false
namespace Sys2Proof.Machine

/-- Changes at most: work. -/
theorem State.setCyl_keeps {P : Nat} {s₀ : State} (s : State) (k : ℕ) (n : ℕ) (f : Fld) (v : ℕ)
    (hP : 64 &&& P = 64) (h : Keeps P s₀ s) :
    Keeps P s₀ (State.setCyl s k n f v) := by
  unfold State.setCyl
  repeat' (first
    | with_reducible assumption
    | exact Mask.sub hP (by decide)
    | (extract_lets +onlyGivenNames x; refine Keeps.cut P s₀ x ?_ fun hx => ?_; (on_goal 2 => clear_value x); revert x; change Keeps _ _ _)
    | (extract_lets +onlyGivenNames x; clear_value x)
    | with_reducible apply State.workSet_keeps)

/-- Changes at most: work. -/
theorem State.trimTiming_keeps {P : Nat} {s₀ : State} (s : State) (c : Commit)
    (hP : 64 &&& P = 64) (h : Keeps P s₀ s) :
    Keeps P s₀ (State.trimTiming s c) := by
  unfold State.trimTiming
  repeat' (first
    | with_reducible assumption
    | exact Mask.sub hP (by decide)
    | (extract_lets +onlyGivenNames x; refine Keeps.cut P s₀ x ?_ fun hx => ?_; (on_goal 2 => clear_value x); revert x; change Keeps _ _ _)
    | (extract_lets +onlyGivenNames x; clear_value x)
    | with_reducible apply State.setCyl_keeps
    | split)

/-- Changes at most: fresh, work. -/
theorem State.trimBalance_keeps {P : Nat} {s₀ : State} (s : State) (c : Commit)
    (hP : 66 &&& P = 66) (h : Keeps P s₀ s) :
    Keeps P s₀ (State.trimBalance s c) := by
  unfold State.trimBalance
  repeat' (first
    | with_reducible assumption
    | exact Mask.sub hP (by decide)
    | (extract_lets +onlyGivenNames x; refine Keeps.cut P s₀ x ?_ fun hx => ?_; (on_goal 2 => clear_value x); revert x; change Keeps _ _ _)
    | (extract_lets +onlyGivenNames x; refine Keeps.cutFst P s₀ x ?_ fun hx => ?_; (on_goal 2 => clear_value x); revert x; change Keeps _ _ _)
    | (extract_lets +onlyGivenNames x; refine Keeps.cutMid P s₀ x ?_ fun hx => ?_; (on_goal 2 => clear_value x); revert x; change Keeps _ _ _)
    | (extract_lets +onlyGivenNames x; refine Keeps.cutSnd P s₀ x ?_ fun hx => ?_; (on_goal 2 => clear_value x); revert x; change Keeps _ _ _)
    | (extract_lets +onlyGivenNames x; clear_value x)
    | with_reducible apply State.free_keeps
    | with_reducible apply State.setCyl_keeps
    | split
    | refine Keeps.ofFst (by assumption) ?_
    | refine Keeps.ofSnd (by assumption) ?_
    | refine Keeps.ofMid (by assumption) ?_)

/-- Changes at most: regs, work, reports. -/
theorem State.trimInvalid_keeps {P : Nat} {s₀ : State} (s : State) (k : ℕ) (t : Word)
    (hP : 8272 &&& P = 8272) (h : Keeps P s₀ s) :
    Keeps P s₀ (State.trimInvalid s k t) := by
  unfold State.trimInvalid
  repeat' (first
    | with_reducible assumption
    | exact Mask.sub hP (by decide)
    | (extract_lets +onlyGivenNames x; refine Keeps.cut P s₀ x ?_ fun hx => ?_; (on_goal 2 => clear_value x); revert x; change Keeps _ _ _)
    | (extract_lets +onlyGivenNames x; clear_value x)
    | (extract_lets +onlyGivenNames x)
    | with_reducible apply State.setBit_keeps
    | with_reducible apply State.report_keeps
    | with_reducible apply State.setCyl_keeps
    | split)

/-- Changes at most: maps. -/
theorem State.buildDue_keeps {P : Nat} {s₀ : State} (s : State) (k : ℕ)
    (hP : 140737488355328 &&& P = 140737488355328) (h : Keeps P s₀ s) :
    Keeps P s₀ (State.buildDue s k) := by
  unfold State.buildDue
  repeat' (first
    | with_reducible assumption
    | exact Mask.sub hP (by decide)
    | (extract_lets +onlyGivenNames x; refine Keeps.cut P s₀ x ?_ fun hx => ?_; (on_goal 2 => clear_value x); revert x; change Keeps _ _ _)
    | (extract_lets +onlyGivenNames x; refine Keeps.cutOp P s₀ x ?_ fun hx => ?_; (on_goal 2 => clear_value x); revert x; change ∀ s, Keeps _ _ s → Keeps _ _ _; intro s hs)
    | (extract_lets +onlyGivenNames x; refine Keeps.cutFun P s₀ x ?_ fun hx => ?_; (on_goal 2 => clear_value x); revert x; change ∀ s x, Keeps _ _ s → Keeps _ _ _; intro s x hs)
    | (extract_lets +onlyGivenNames x; refine Keeps.cutFn P s₀ x ?_ fun hx => ?_; (on_goal 2 => clear_value x); revert x; change ∀ x, Keeps _ _ _; intro x)
    | (extract_lets +onlyGivenNames x; clear_value x)
    | with_reducible apply_assumption
    | with_reducible apply Keeps.upd_maps)

/-- Changes at most: now, fresh, regs, work, reports, trimDue, maps. -/
theorem execTrimUpdate_keeps {P : Nat} {s₀ : State} (t : Word) (s : State)
    (hP : 211106232541267 &&& P = 211106232541267) (h : Keeps P s₀ s) :
    OutKeeps P s₀ (execTrimUpdate t s) := by
  unfold execTrimUpdate
  repeat' (first
    | with_reducible assumption
    | exact Mask.sub hP (by decide)
    | (extract_lets +onlyGivenNames x; refine Keeps.cut P s₀ x ?_ fun hx => ?_; (on_goal 2 => clear_value x); revert x; change Keeps _ _ _)
    | (extract_lets +onlyGivenNames x; clear_value x)
    | with_reducible apply OutKeeps.next
    | with_reducible apply State.clearBit_keeps
    | with_reducible apply State.incMod_keeps
    | with_reducible apply State.at_keeps
    | with_reducible apply State.setCyl_keeps
    | with_reducible apply State.trimTiming_keeps
    | with_reducible apply State.trimBalance_keeps
    | with_reducible apply State.trimInvalid_keeps
    | with_reducible apply State.buildDue_keeps
    | split
    | with_reducible apply Keeps.upd_trimDue)

/-- Changes at most: work. -/
theorem State.trimOff_keeps {P : Nat} {s₀ : State} (s : State)
    (hP : 64 &&& P = 64) (h : Keeps P s₀ s) :
    Keeps P s₀ (State.trimOff s) := by
  unfold State.trimOff
  repeat' (first
    | with_reducible assumption
    | exact Mask.sub hP (by decide)
    | (extract_lets +onlyGivenNames x; refine Keeps.cut P s₀ x ?_ fun hx => ?_; (on_goal 2 => clear_value x); revert x; change Keeps _ _ _)
    | (extract_lets +onlyGivenNames x; clear_value x)
    | with_reducible apply State.setCyl_keeps
    | with_reducible apply Keeps.foldl
    | split
    | (intro _ _ _))

/-- Changes at most: regs, svc. -/
theorem State.demandSwap_keeps {P : Nat} {s₀ : State} (s : State)
    (hP : 281474976710672 &&& P = 281474976710672) (h : Keeps P s₀ s) :
    Keeps P s₀ (State.demandSwap s) := by
  unfold State.demandSwap
  repeat' (first
    | with_reducible assumption
    | exact Mask.sub hP (by decide)
    | (extract_lets +onlyGivenNames x; refine Keeps.cut P s₀ x ?_ fun hx => ?_; (on_goal 2 => clear_value x); revert x; change Keeps _ _ _)
    | (extract_lets +onlyGivenNames x; clear_value x)
    | with_reducible apply State.set_keeps
    | with_reducible apply Keeps.upd_svc)

/-- Changes at most: now, regs, svc. -/
theorem execDemandSwap_keeps {P : Nat} {s₀ : State} (t : Word) (s : State)
    (hP : 281474976710673 &&& P = 281474976710673) (h : Keeps P s₀ s) :
    OutKeeps P s₀ (execDemandSwap t s) := by
  unfold execDemandSwap
  repeat' (first
    | with_reducible assumption
    | exact Mask.sub hP (by decide)
    | with_reducible apply OutKeeps.next
    | with_reducible apply State.at_keeps
    | with_reducible apply State.demandSwap_keeps)

/-- Changes at most: now, regs, reports. -/
theorem execDemandTimeout_keeps {P : Nat} {s₀ : State} (t : Word) (s : State)
    (hP : 8209 &&& P = 8209) (h : Keeps P s₀ s) :
    OutKeeps P s₀ (execDemandTimeout t s) := by
  unfold execDemandTimeout
  repeat' (first
    | with_reducible assumption
    | exact Mask.sub hP (by decide)
    | (extract_lets +onlyGivenNames x; refine Keeps.cut P s₀ x ?_ fun hx => ?_; (on_goal 2 => clear_value x); revert x; change Keeps _ _ _)
    | (extract_lets +onlyGivenNames x; clear_value x)
    | (extract_lets +onlyGivenNames x)
    | with_reducible apply OutKeeps.next
    | with_reducible apply State.set_keeps
    | with_reducible apply State.report_keeps
    | with_reducible apply State.at_keeps
    | split)

/-- Changes at most: regs. -/
theorem State.tableCheck_keeps {P : Nat} {s₀ : State} (s : State)
    (hP : 16 &&& P = 16) (h : Keeps P s₀ s) :
    Keeps P s₀ (State.tableCheck s) := by
  unfold State.tableCheck
  repeat' (first
    | with_reducible assumption
    | exact Mask.sub hP (by decide)
    | (extract_lets +onlyGivenNames x; refine Keeps.cut P s₀ x ?_ fun hx => ?_; (on_goal 2 => clear_value x); revert x; change Keeps _ _ _)
    | (extract_lets +onlyGivenNames x; clear_value x)
    | with_reducible apply State.flag_keeps
    | with_reducible apply Keeps.foldl
    | (intro _ _ _))

/-- Changes at most: fresh. -/
theorem State.d3_keeps {P : Nat} {s₀ : State} (s : State) (q : ℕ) (u : Update) (before : Option Word) (w : Want) (d2 : ℤ)
    (hP : 2 &&& P = 2) (h : Keeps P s₀ s) :
    Keeps P s₀ (State.d3 s q u before w d2).2 := by
  unfold State.d3
  repeat' (first
    | with_reducible assumption
    | exact Mask.sub hP (by decide)
    | (extract_lets +onlyGivenNames x; refine Keeps.cut P s₀ x ?_ fun hx => ?_; (on_goal 2 => clear_value x); revert x; change Keeps _ _ _)
    | (extract_lets +onlyGivenNames x; refine Keeps.cutFst P s₀ x ?_ fun hx => ?_; (on_goal 2 => clear_value x); revert x; change Keeps _ _ _)
    | (extract_lets +onlyGivenNames x; refine Keeps.cutMid P s₀ x ?_ fun hx => ?_; (on_goal 2 => clear_value x); revert x; change Keeps _ _ _)
    | (extract_lets +onlyGivenNames x; refine Keeps.cutSnd P s₀ x ?_ fun hx => ?_; (on_goal 2 => clear_value x); revert x; change Keeps _ _ _)
    | (extract_lets +onlyGivenNames x; clear_value x)
    | (extract_lets +onlyGivenNames x)
    | with_reducible apply State.free_keeps
    | split
    | refine Keeps.ofFst (by assumption) ?_
    | refine Keeps.ofSnd (by assumption) ?_
    | refine Keeps.ofMid (by assumption) ?_)

/-- Changes at most: fresh, regs, ticks. -/
theorem State.buildEntry_keeps {P : Nat} {s₀ : State} (s : State) (q : ℕ) (k : ℕ) (y : ℤ) (u : Update) (before : Option Word) (w : Want)
    (hP : 4114 &&& P = 4114) (h : Keeps P s₀ s) :
    Keeps P s₀ (State.buildEntry s q k y u before w).2 := by
  unfold State.buildEntry
  repeat' (first
    | with_reducible assumption
    | exact Mask.sub hP (by decide)
    | (extract_lets +onlyGivenNames x; refine Keeps.cut P s₀ x ?_ fun hx => ?_; (on_goal 2 => clear_value x); revert x; change Keeps _ _ _)
    | (extract_lets +onlyGivenNames x; refine Keeps.cutFst P s₀ x ?_ fun hx => ?_; (on_goal 2 => clear_value x); revert x; change Keeps _ _ _)
    | (extract_lets +onlyGivenNames x; refine Keeps.cutMid P s₀ x ?_ fun hx => ?_; (on_goal 2 => clear_value x); revert x; change Keeps _ _ _)
    | (extract_lets +onlyGivenNames x; refine Keeps.cutSnd P s₀ x ?_ fun hx => ?_; (on_goal 2 => clear_value x); revert x; change Keeps _ _ _)
    | (extract_lets +onlyGivenNames x; clear_value x)
    | with_reducible apply State.inc_keeps
    | with_reducible apply State.d3_keeps
    | split
    | refine Keeps.ofFst (by assumption) ?_
    | refine Keeps.ofSnd (by assumption) ?_
    | refine Keeps.ofMid (by assumption) ?_)

/-- Changes at most: fresh, regs, ticks. -/
theorem State.buildAll_keeps {P : Nat} {s₀ : State} (s : State) (q : ℕ) (k : ℕ) (y : ℤ) (u : Update) (before : Option Word) (x6 : List Want)
    (hP : 4114 &&& P = 4114) (h : Keeps P s₀ s) :
    Keeps P s₀ (State.buildAll s q k y u before x6).2 := by
  induction x6 generalizing s before with
  | nil =>
    unfold State.buildAll
    repeat' (first
      | with_reducible assumption
      | exact Mask.sub hP (by decide)
      | (extract_lets +onlyGivenNames x; refine Keeps.cut P s₀ x ?_ fun hx => ?_; (on_goal 2 => clear_value x); revert x; change Keeps _ _ _)
      | (extract_lets +onlyGivenNames x; refine Keeps.cutFst P s₀ x ?_ fun hx => ?_; (on_goal 2 => clear_value x); revert x; change Keeps _ _ _)
      | (extract_lets +onlyGivenNames x; refine Keeps.cutMid P s₀ x ?_ fun hx => ?_; (on_goal 2 => clear_value x); revert x; change Keeps _ _ _)
      | (extract_lets +onlyGivenNames x; refine Keeps.cutSnd P s₀ x ?_ fun hx => ?_; (on_goal 2 => clear_value x); revert x; change Keeps _ _ _)
      | (extract_lets +onlyGivenNames x; clear_value x)
      | with_reducible apply State.buildEntry_keeps
      | split
      | refine Keeps.ofFst (by assumption) ?_
      | refine Keeps.ofSnd (by assumption) ?_
      | refine Keeps.ofMid (by assumption) ?_)
  | cons w ws ih =>
    unfold State.buildAll
    repeat' (first
      | with_reducible assumption
      | exact Mask.sub hP (by decide)
      | (extract_lets +onlyGivenNames x; refine Keeps.cut P s₀ x ?_ fun hx => ?_; (on_goal 2 => clear_value x); revert x; change Keeps _ _ _)
      | (extract_lets +onlyGivenNames x; refine Keeps.cutFst P s₀ x ?_ fun hx => ?_; (on_goal 2 => clear_value x); revert x; change Keeps _ _ _)
      | (extract_lets +onlyGivenNames x; refine Keeps.cutMid P s₀ x ?_ fun hx => ?_; (on_goal 2 => clear_value x); revert x; change Keeps _ _ _)
      | (extract_lets +onlyGivenNames x; refine Keeps.cutSnd P s₀ x ?_ fun hx => ?_; (on_goal 2 => clear_value x); revert x; change Keeps _ _ _)
      | (extract_lets +onlyGivenNames x; clear_value x)
      | with_reducible apply State.buildEntry_keeps
      | split
      | refine Keeps.ofFst (by assumption) ?_
      | refine Keeps.ofSnd (by assumption) ?_
      | refine Keeps.ofMid (by assumption) ?_
      | apply ih)

/-- Changes at most: fresh, regs, work, ticks, reports, shuttles. -/
theorem State.buildList_keeps {P : Nat} {s₀ : State} (s : State) (q : ℕ) (k : ℕ) (page : ℕ) (stale : Bool)
    (hP : 536883282 &&& P = 536883282) (h : Keeps P s₀ s) :
    Keeps P s₀ (State.buildList s q k page stale) := by
  unfold State.buildList
  repeat' (first
    | with_reducible assumption
    | exact Mask.sub hP (by decide)
    | (extract_lets +onlyGivenNames x; refine Keeps.cut P s₀ x ?_ fun hx => ?_; (on_goal 2 => clear_value x); revert x; change Keeps _ _ _)
    | (extract_lets +onlyGivenNames x; refine Keeps.cutFst P s₀ x ?_ fun hx => ?_; (on_goal 2 => clear_value x); revert x; change Keeps _ _ _)
    | (extract_lets +onlyGivenNames x; refine Keeps.cutMid P s₀ x ?_ fun hx => ?_; (on_goal 2 => clear_value x); revert x; change Keeps _ _ _)
    | (extract_lets +onlyGivenNames x; refine Keeps.cutSnd P s₀ x ?_ fun hx => ?_; (on_goal 2 => clear_value x); revert x; change Keeps _ _ _)
    | (extract_lets +onlyGivenNames x; clear_value x)
    | with_reducible apply State.stick_keeps
    | with_reducible apply State.inc_keeps
    | with_reducible apply State.workWrite_keeps
    | with_reducible apply State.report_keeps
    | with_reducible apply State.buildAll_keeps
    | with_reducible apply State.shtOffer_keeps
    | with_reducible apply Keeps.foldl
    | split
    | (intro _ _ _)
    | refine Keeps.ofFst (by assumption) ?_
    | refine Keeps.ofSnd (by assumption) ?_
    | refine Keeps.ofMid (by assumption) ?_)

/-- Changes at most: fresh, regs, work, ticks, reports, shuttles, maps. -/
theorem State.listBuild_keeps {P : Nat} {s₀ : State} (s : State) (q : ℕ) (k : ℕ)
    (hP : 140738025238610 &&& P = 140738025238610) (h : Keeps P s₀ s) :
    Keeps P s₀ (State.listBuild s q k) := by
  unfold State.listBuild
  repeat' (first
    | with_reducible assumption
    | exact Mask.sub hP (by decide)
    | (extract_lets +onlyGivenNames x; refine Keeps.cut P s₀ x ?_ fun hx => ?_; (on_goal 2 => clear_value x); revert x; change Keeps _ _ _)
    | (extract_lets +onlyGivenNames x; clear_value x)
    | (extract_lets +onlyGivenNames x)
    | with_reducible apply State.inc_keeps
    | with_reducible apply State.buildList_keeps
    | split
    | with_reducible apply Keeps.upd_maps)

/-- Changes at most: now, fresh, regs, work, ticks, reports, shuttles, maps. -/
theorem execListBuild_keeps {P : Nat} {s₀ : State} (t : Word) (q : Fin 2) (k : Fin 24) (s : State)
    (hP : 140738025238611 &&& P = 140738025238611) (h : Keeps P s₀ s) :
    OutKeeps P s₀ (execListBuild t q k s) := by
  unfold execListBuild
  repeat' (first
    | with_reducible assumption
    | exact Mask.sub hP (by decide)
    | (extract_lets +onlyGivenNames x; refine Keeps.cut P s₀ x ?_ fun hx => ?_; (on_goal 2 => clear_value x); revert x; change Keeps _ _ _)
    | (extract_lets +onlyGivenNames x; clear_value x)
    | with_reducible apply OutKeeps.next
    | with_reducible apply State.at_keeps
    | with_reducible apply State.listBuild_keeps
    | split)

/-- Changes at most: acc. -/
theorem State.speedLoad_keeps {P : Nat} {s₀ : State} (s : State)
    (hP : 268435456 &&& P = 268435456) (h : Keeps P s₀ s) :
    Keeps P s₀ (State.speedLoad s) := by
  unfold State.speedLoad
  repeat' (first
    | with_reducible assumption
    | exact Mask.sub hP (by decide)
    | (extract_lets +onlyGivenNames x; refine Keeps.cut P s₀ x ?_ fun hx => ?_; (on_goal 2 => clear_value x); revert x; change Keeps _ _ _)
    | (extract_lets +onlyGivenNames x; clear_value x)
    | with_reducible apply State.accInc_keeps
    | split)

/-- Changes at most: regs, svc. -/
theorem State.cycleCount_keeps {P : Nat} {s₀ : State} (s : State)
    (hP : 281474976710672 &&& P = 281474976710672) (h : Keeps P s₀ s) :
    Keeps P s₀ (State.cycleCount s) := by
  unfold State.cycleCount
  repeat' (first
    | with_reducible assumption
    | exact Mask.sub hP (by decide)
    | (extract_lets +onlyGivenNames x; refine Keeps.cut P s₀ x ?_ fun hx => ?_; (on_goal 2 => clear_value x); revert x; change Keeps _ _ _)
    | (extract_lets +onlyGivenNames x; clear_value x)
    | with_reducible apply State.incMod_keeps
    | with_reducible apply Keeps.upd_svc)

/-- Changes at most: regs, acc, maps, svc. -/
theorem State.svcUpdate_keeps {P : Nat} {s₀ : State} (s : State) (u : Update)
    (hP : 422212733501456 &&& P = 422212733501456) (h : Keeps P s₀ s) :
    Keeps P s₀ (State.svcUpdate s u) := by
  unfold State.svcUpdate
  repeat' (first
    | with_reducible assumption
    | exact Mask.sub hP (by decide)
    | (extract_lets +onlyGivenNames x; refine Keeps.cut P s₀ x ?_ fun hx => ?_; (on_goal 2 => clear_value x); revert x; change Keeps _ _ _)
    | (extract_lets +onlyGivenNames x; clear_value x)
    | with_reducible apply State.speedLoad_keeps
    | with_reducible apply State.cycleCount_keeps
    | split
    | with_reducible apply Keeps.upd_maps
    | with_reducible apply Keeps.upd_svc
    | (apply Keeps.many; (case h => assumption); (case hq => rfl); (case hf => exact Nat.le_refl _); (case hc => exact fun hc => hc); (case hm => exact fun h => h); (case hp => (intro p; cases p <;> first | exact Or.inr rfl | exact Or.inl (Mask.mem hP (by decide))))))

/-- Changes at most: acc. -/
theorem State.driftRecord_keeps {P : Nat} {s₀ : State} (s : State) (q : ℕ) (k : ℕ) (x : ℕ)
    (hP : 268435456 &&& P = 268435456) (h : Keeps P s₀ s) :
    Keeps P s₀ (State.driftRecord s q k x) := by
  unfold State.driftRecord
  repeat' (first
    | with_reducible assumption
    | exact Mask.sub hP (by decide)
    | (extract_lets +onlyGivenNames x; refine Keeps.cut P s₀ x ?_ fun hx => ?_; (on_goal 2 => clear_value x); revert x; change Keeps _ _ _)
    | (extract_lets +onlyGivenNames x; clear_value x)
    | with_reducible apply State.accSet_keeps
    | split)

/-- Changes at most: acc. -/
theorem State.driftHist_keeps {P : Nat} {s₀ : State} (s : State) (b : ℕ) (c : ℕ) (d : ℤ)
    (hP : 268435456 &&& P = 268435456) (h : Keeps P s₀ s) :
    Keeps P s₀ (State.driftHist s b c d) := by
  unfold State.driftHist
  repeat' (first
    | with_reducible assumption
    | exact Mask.sub hP (by decide)
    | with_reducible apply State.accInc_keeps
    | split)

/-- Changes at most: now, work, reports, acc, closures. -/
theorem execDriftUpdate_keeps {P : Nat} {s₀ : State} (t : Word) (s : State)
    (hP : 34628182081 &&& P = 34628182081) (h : Keeps P s₀ s) :
    OutKeeps P s₀ (execDriftUpdate t s) := by
  unfold execDriftUpdate
  repeat' (first
    | with_reducible assumption
    | exact Mask.sub hP (by decide)
    | (extract_lets +onlyGivenNames x; refine Keeps.cut P s₀ x ?_ fun hx => ?_; (on_goal 2 => clear_value x); revert x; change Keeps _ _ _)
    | (extract_lets +onlyGivenNames x; clear_value x)
    | with_reducible apply OutKeeps.next
    | with_reducible apply State.report_keeps
    | with_reducible apply State.at_keeps
    | with_reducible apply State.setCyl_keeps
    | with_reducible apply State.driftRecord_keeps
    | with_reducible apply State.driftHist_keeps
    | split
    | with_reducible apply Keeps.upd_closures)

/-- Changes at most: regs, ticks, reports, causes, acc, ovs. -/
theorem State.speedFormed_keeps {P : Nat} {s₀ : State} (s : State) (n : ℕ) (u : Update)
    (hP : 1125900175355920 &&& P = 1125900175355920) (h : Keeps P s₀ s) :
    Keeps P s₀ (State.speedFormed s n u) := by
  unfold State.speedFormed
  repeat' (first
    | with_reducible assumption
    | exact Mask.sub hP (by decide)
    | (extract_lets +onlyGivenNames x; refine Keeps.cut P s₀ x ?_ fun hx => ?_; (on_goal 2 => clear_value x); revert x; change Keeps _ _ _)
    | (extract_lets +onlyGivenNames x; clear_value x)
    | with_reducible apply State.set_keeps
    | with_reducible apply State.inc_keeps
    | with_reducible apply State.extreme_keeps
    | with_reducible apply State.report_keeps
    | with_reducible apply State.cause_keeps
    | split
    | with_reducible apply Keeps.upd_ovs)

/-- Changes at most: now, regs, ticks, reports, causes, acc, ovs. -/
theorem execOverspeedUpdate_keeps {P : Nat} {s₀ : State} (t : Word) (s : State)
    (hP : 1125900175355921 &&& P = 1125900175355921) (h : Keeps P s₀ s) :
    OutKeeps P s₀ (execOverspeedUpdate t s) := by
  unfold execOverspeedUpdate
  repeat' (first
    | with_reducible assumption
    | exact Mask.sub hP (by decide)
    | (extract_lets +onlyGivenNames x; refine Keeps.cut P s₀ x ?_ fun hx => ?_; (on_goal 2 => clear_value x); revert x; change Keeps _ _ _)
    | (extract_lets +onlyGivenNames x; clear_value x)
    | (extract_lets +onlyGivenNames x)
    | with_reducible apply OutKeeps.next
    | with_reducible apply State.at_keeps
    | with_reducible apply State.speedFormed_keeps
    | split
    | with_reducible apply Keeps.upd_ovs)

/-- Changes at most: regs, ticks. -/
theorem State.serviceClear_keeps {P : Nat} {s₀ : State} (s : State) (x1 : SvcTile)
    (hP : 4112 &&& P = 4112) (h : Keeps P s₀ s) :
    Keeps P s₀ (State.serviceClear s x1) := by
  unfold State.serviceClear
  repeat' (first
    | with_reducible assumption
    | exact Mask.sub hP (by decide)
    | with_reducible apply State.clearCounts_keeps
    | with_reducible apply State.wrej_keeps
    | split)

/-- Changes at most: now, regs, ticks. -/
theorem execServiceCntClr_keeps {P : Nat} {s₀ : State} (t : Word) (which : SvcTile) (s : State)
    (hP : 4113 &&& P = 4113) (h : Keeps P s₀ s) :
    OutKeeps P s₀ (execServiceCntClr t which s) := by
  unfold execServiceCntClr
  repeat' (first
    | with_reducible assumption
    | exact Mask.sub hP (by decide)
    | with_reducible apply OutKeeps.next
    | with_reducible apply State.at_keeps
    | with_reducible apply State.serviceClear_keeps)

end Sys2Proof.Machine
end

