-- ==== Sys2Proof/Laws/KeepsIdent.lean ====
section
/-!
SUPPORT. What each operation of Machine/Ident.lean may change (Laws/Keeps.lean).
-/
set_option linter.unusedTactic false
set_option linter.unreachableTactic false
namespace Sys2Proof.Machine

/-- Changes at most: selv. -/
theorem State.setLine_keeps {P : Nat} {s₀ : State} (s : State) (l : ℕ) (k : SelvLine)
    (hP : 2251799813685248 &&& P = 2251799813685248) (h : Keeps P s₀ s) :
    Keeps P s₀ (State.setLine s l k) := by
  unfold State.setLine
  repeat' (first
    | with_reducible assumption
    | exact Mask.sub hP (by decide)
    | (extract_lets +onlyGivenNames x; refine Keeps.cut P s₀ x ?_ fun hx => ?_; (on_goal 2 => clear_value x); revert x; change Keeps _ _ _)
    | (extract_lets +onlyGivenNames x; clear_value x)
    | with_reducible apply Keeps.upd_selv)

/-- Changes at most: regs, selv, enumStart. -/
theorem State.enumBegin_keeps {P : Nat} {s₀ : State} (s : State)
    (hP : 6755399441055760 &&& P = 6755399441055760) (h : Keeps P s₀ s) :
    Keeps P s₀ (State.enumBegin s) := by
  unfold State.enumBegin
  repeat' (first
    | with_reducible assumption
    | exact Mask.sub hP (by decide)
    | (extract_lets +onlyGivenNames x; refine Keeps.cut P s₀ x ?_ fun hx => ?_; (on_goal 2 => clear_value x); revert x; change Keeps _ _ _)
    | (extract_lets +onlyGivenNames x; clear_value x)
    | with_reducible apply State.set_keeps
    | with_reducible apply Keeps.foldl
    | (intro _ _ _)
    | with_reducible apply Keeps.upd_selv
    | with_reducible apply Keeps.upd_enumStart
    | (apply Keeps.many; (case h => assumption); (case hq => rfl); (case hf => exact Nat.le_refl _); (case hc => exact fun hc => hc); (case hm => exact fun h => h); (case hp => (intro p; cases p <;> first | exact Or.inr rfl | exact Or.inl (Mask.mem hP (by decide))))))

/-- Changes at most: regs, ticks, selv, enumStart. -/
theorem State.idnCommand_keeps {P : Nat} {s₀ : State} (s : State) (code : ℕ)
    (hP : 6755399441059856 &&& P = 6755399441059856) (h : Keeps P s₀ s) :
    Keeps P s₀ (State.idnCommand s code) := by
  unfold State.idnCommand
  repeat' (first
    | with_reducible assumption
    | exact Mask.sub hP (by decide)
    | with_reducible apply State.enumBegin_keeps
    | with_reducible apply State.stick_keeps
    | split)

/-- Changes at most: now, regs, ticks, selv, enumStart. -/
theorem execEnum_keeps {P : Nat} {s₀ : State} (t : Word) (s : State)
    (hP : 6755399441059857 &&& P = 6755399441059857) (h : Keeps P s₀ s) :
    OutKeeps P s₀ (execEnum t s) := by
  unfold execEnum
  repeat' (first
    | with_reducible assumption
    | exact Mask.sub hP (by decide)
    | with_reducible apply OutKeeps.next
    | with_reducible apply State.idnCommand_keeps
    | with_reducible apply State.at_keeps)

/-- Changes at most: now, regs, ticks, selv, enumStart. -/
theorem execIdnCmdInvalid_keeps {P : Nat} {s₀ : State} (t : Word) (code : Fin 16) (s : State)
    (hP : 6755399441059857 &&& P = 6755399441059857) (h : Keeps P s₀ s) :
    OutKeeps P s₀ (execIdnCmdInvalid t code s) := by
  unfold execIdnCmdInvalid
  repeat' (first
    | with_reducible assumption
    | exact Mask.sub hP (by decide)
    | (extract_lets +onlyGivenNames x; refine Keeps.cut P s₀ x ?_ fun hx => ?_; (on_goal 2 => clear_value x); revert x; change Keeps _ _ _)
    | (extract_lets +onlyGivenNames x; clear_value x)
    | with_reducible apply OutKeeps.next
    | with_reducible apply State.idnCommand_keeps
    | with_reducible apply State.at_keeps
    | split)

/-- Changes at most: now, regs, selv. -/
theorem execSelvedgeLineReady_keeps {P : Nat} {s₀ : State} (t : Word) (x : LineSamples) (s : State)
    (hP : 2251799813685265 &&& P = 2251799813685265) (h : Keeps P s₀ s) :
    OutKeeps P s₀ (execSelvedgeLineReady t x s) := by
  unfold execSelvedgeLineReady
  repeat' (first
    | with_reducible assumption
    | exact Mask.sub hP (by decide)
    | (extract_lets +onlyGivenNames x; refine Keeps.cut P s₀ x ?_ fun hx => ?_; (on_goal 2 => clear_value x); revert x; change Keeps _ _ _)
    | (extract_lets +onlyGivenNames x; clear_value x)
    | (extract_lets +onlyGivenNames x)
    | with_reducible apply OutKeeps.next
    | with_reducible apply State.setLine_keeps
    | with_reducible apply State.set_keeps
    | with_reducible apply State.at_keeps
    | split)

/-- Changes at most: now, regs, selv. -/
theorem execSelvedgeLineShort_keeps {P : Nat} {s₀ : State} (t : Word) (l : Fin 14) (s : State)
    (hP : 2251799813685265 &&& P = 2251799813685265) (h : Keeps P s₀ s) :
    OutKeeps P s₀ (execSelvedgeLineShort t l s) := by
  unfold execSelvedgeLineShort
  repeat' (first
    | with_reducible assumption
    | exact Mask.sub hP (by decide)
    | (extract_lets +onlyGivenNames x; refine Keeps.cut P s₀ x ?_ fun hx => ?_; (on_goal 2 => clear_value x); revert x; change Keeps _ _ _)
    | (extract_lets +onlyGivenNames x; clear_value x)
    | (extract_lets +onlyGivenNames x)
    | with_reducible apply OutKeeps.next
    | with_reducible apply State.setLine_keeps
    | with_reducible apply State.set_keeps
    | with_reducible apply State.at_keeps
    | split)

/-- Changes at most: now, selv. -/
theorem execSelvedgeReset_keeps {P : Nat} {s₀ : State} (t : Word) (l : Fin 14) (s : State)
    (hP : 2251799813685249 &&& P = 2251799813685249) (h : Keeps P s₀ s) :
    OutKeeps P s₀ (execSelvedgeReset t l s) := by
  unfold execSelvedgeReset
  repeat' (first
    | with_reducible assumption
    | exact Mask.sub hP (by decide)
    | (extract_lets +onlyGivenNames x; refine Keeps.cut P s₀ x ?_ fun hx => ?_; (on_goal 2 => clear_value x); revert x; change Keeps _ _ _)
    | (extract_lets +onlyGivenNames x; clear_value x)
    | with_reducible apply OutKeeps.next
    | with_reducible apply State.setLine_keeps
    | with_reducible apply State.at_keeps
    | split)

/-- Changes at most: now, regs, selv. -/
theorem execRollCall_keeps {P : Nat} {s₀ : State} (t : Word) (l : Fin 14) (base : ℤ) (ua : Vector ℤ 16) (s : State)
    (hP : 2251799813685265 &&& P = 2251799813685265) (h : Keeps P s₀ s) :
    OutKeeps P s₀ (execRollCall t l base ua s) := by
  unfold execRollCall
  repeat' (first
    | with_reducible assumption
    | exact Mask.sub hP (by decide)
    | (extract_lets +onlyGivenNames x; refine Keeps.cut P s₀ x ?_ fun hx => ?_; (on_goal 2 => clear_value x); revert x; change Keeps _ _ _)
    | (extract_lets +onlyGivenNames x; clear_value x)
    | (extract_lets +onlyGivenNames x)
    | with_reducible apply OutKeeps.next
    | with_reducible apply State.setLine_keeps
    | with_reducible apply State.set_keeps
    | with_reducible apply State.at_keeps
    | split)

/-- Changes at most: selv. -/
theorem State.siteDone_keeps {P : Nat} {s₀ : State} (s : State) (l : ℕ) (code : ℕ)
    (hP : 2251799813685248 &&& P = 2251799813685248) (h : Keeps P s₀ s) :
    Keeps P s₀ (State.siteDone s l code) := by
  unfold State.siteDone
  repeat' (first
    | with_reducible assumption
    | exact Mask.sub hP (by decide)
    | (extract_lets +onlyGivenNames x; refine Keeps.cut P s₀ x ?_ fun hx => ?_; (on_goal 2 => clear_value x); revert x; change Keeps _ _ _)
    | (extract_lets +onlyGivenNames x; clear_value x)
    | with_reducible apply State.setLine_keeps
    | split)

/-- Changes at most: fresh, selv. -/
theorem State.siteFailed_keeps {P : Nat} {s₀ : State} (s : State) (l : ℕ) (kind : ℕ)
    (hP : 2251799813685250 &&& P = 2251799813685250) (h : Keeps P s₀ s) :
    Keeps P s₀ (State.siteFailed s l kind) := by
  unfold State.siteFailed
  repeat' (first
    | with_reducible assumption
    | exact Mask.sub hP (by decide)
    | (extract_lets +onlyGivenNames x; refine Keeps.cut P s₀ x ?_ fun hx => ?_; (on_goal 2 => clear_value x); revert x; change Keeps _ _ _)
    | (extract_lets +onlyGivenNames x; refine Keeps.cutFst P s₀ x ?_ fun hx => ?_; (on_goal 2 => clear_value x); revert x; change Keeps _ _ _)
    | (extract_lets +onlyGivenNames x; refine Keeps.cutMid P s₀ x ?_ fun hx => ?_; (on_goal 2 => clear_value x); revert x; change Keeps _ _ _)
    | (extract_lets +onlyGivenNames x; refine Keeps.cutSnd P s₀ x ?_ fun hx => ?_; (on_goal 2 => clear_value x); revert x; change Keeps _ _ _)
    | (extract_lets +onlyGivenNames x; clear_value x)
    | (extract_lets +onlyGivenNames x)
    | with_reducible apply State.setLine_keeps
    | with_reducible apply State.siteDone_keeps
    | with_reducible apply State.free_keeps
    | split
    | refine Keeps.ofFst (by assumption) ?_
    | refine Keeps.ofSnd (by assumption) ?_
    | refine Keeps.ofMid (by assumption) ?_)

/-- Changes at most: now, fresh, selv. -/
theorem execSelectSite_keeps {P : Nat} {s₀ : State} (t : Word) (l : Fin 14) (base : ℤ) (ua : Vector ℤ 49) (s : State)
    (hP : 2251799813685251 &&& P = 2251799813685251) (h : Keeps P s₀ s) :
    OutKeeps P s₀ (execSelectSite t l base ua s) := by
  unfold execSelectSite
  repeat' (first
    | with_reducible assumption
    | exact Mask.sub hP (by decide)
    | (extract_lets +onlyGivenNames x; refine Keeps.cut P s₀ x ?_ fun hx => ?_; (on_goal 2 => clear_value x); revert x; change Keeps _ _ _)
    | (extract_lets +onlyGivenNames x; clear_value x)
    | (extract_lets +onlyGivenNames x)
    | with_reducible apply OutKeeps.next
    | with_reducible apply State.setLine_keeps
    | with_reducible apply State.siteDone_keeps
    | with_reducible apply State.siteFailed_keeps
    | with_reducible apply State.at_keeps
    | split)

/-- Changes at most: work. -/
theorem State.areaWrite_keeps {P : Nat} {s₀ : State} (s : State) (x : ℕ) (bs : List ℕ)
    (hP : 64 &&& P = 64) (h : Keeps P s₀ s) :
    Keeps P s₀ (State.areaWrite s x bs) := by
  unfold State.areaWrite
  repeat' (first
    | with_reducible assumption
    | exact Mask.sub hP (by decide)
    | with_reducible apply State.workWrite_keeps)

/-- Changes at most: now, fresh, regs, work, selv. -/
theorem execSelvedgeRead_keeps {P : Nat} {s₀ : State} (t : Word) (l : Fin 14) (base : ℤ) (ua : List ℤ) (s : State)
    (hP : 2251799813685331 &&& P = 2251799813685331) (h : Keeps P s₀ s) :
    OutKeeps P s₀ (execSelvedgeRead t l base ua s) := by
  unfold execSelvedgeRead
  repeat' (first
    | with_reducible assumption
    | exact Mask.sub hP (by decide)
    | (extract_lets +onlyGivenNames x; refine Keeps.cut P s₀ x ?_ fun hx => ?_; (on_goal 2 => clear_value x); revert x; change Keeps _ _ _)
    | (extract_lets +onlyGivenNames x; clear_value x)
    | with_reducible apply OutKeeps.next
    | with_reducible apply State.siteDone_keeps
    | with_reducible apply State.siteFailed_keeps
    | with_reducible apply State.areaWrite_keeps
    | with_reducible apply State.set_keeps
    | with_reducible apply State.at_keeps
    | split)

/-- Changes at most: regs, work, reports. -/
theorem State.siteState_keeps {P : Nat} {s₀ : State} (s : State) (x : ℕ)
    (hP : 8272 &&& P = 8272) (h : Keeps P s₀ s) :
    Keeps P s₀ (State.siteState s x) := by
  unfold State.siteState
  repeat' (first
    | with_reducible assumption
    | exact Mask.sub hP (by decide)
    | (extract_lets +onlyGivenNames x; refine Keeps.cut P s₀ x ?_ fun hx => ?_; (on_goal 2 => clear_value x); revert x; change Keeps _ _ _)
    | (extract_lets +onlyGivenNames x; clear_value x)
    | (extract_lets +onlyGivenNames x)
    | with_reducible apply State.areaWrite_keeps
    | with_reducible apply State.set_keeps
    | with_reducible apply State.report_keeps
    | split)

/-- Changes at most: regs, ticks, reports, acc. -/
theorem State.lookup_keeps {P : Nat} {s₀ : State} (s : State) (x : ℕ)
    (hP : 268447760 &&& P = 268447760) (h : Keeps P s₀ s) :
    Keeps P s₀ (State.lookup s x) := by
  unfold State.lookup
  repeat' (first
    | with_reducible assumption
    | exact Mask.sub hP (by decide)
    | (extract_lets +onlyGivenNames x; refine Keeps.cut P s₀ x ?_ fun hx => ?_; (on_goal 2 => clear_value x); revert x; change Keeps _ _ _)
    | (extract_lets +onlyGivenNames x; refine Keeps.cutOp P s₀ x ?_ fun hx => ?_; (on_goal 2 => clear_value x); revert x; change ∀ s, Keeps _ _ s → Keeps _ _ _; intro s hs)
    | (extract_lets +onlyGivenNames x; refine Keeps.cutFun P s₀ x ?_ fun hx => ?_; (on_goal 2 => clear_value x); revert x; change ∀ s x, Keeps _ _ s → Keeps _ _ _; intro s x hs)
    | (extract_lets +onlyGivenNames x; refine Keeps.cutFn P s₀ x ?_ fun hx => ?_; (on_goal 2 => clear_value x); revert x; change ∀ x, Keeps _ _ _; intro x)
    | (extract_lets +onlyGivenNames x; clear_value x)
    | with_reducible apply State.stick_keeps
    | with_reducible apply State.accSet_keeps
    | with_reducible apply State.report_keeps
    | with_reducible apply Keeps.foldl
    | split
    | with_reducible apply_assumption
    | (intro _ _ _))

/-- Changes at most: regs, ticks, reports. -/
theorem State.clampedAt_keeps {P : Nat} {s₀ : State} (s : State) (row : ℕ) (i : ℕ) (c : Bool)
    (hP : 12304 &&& P = 12304) (h : Keeps P s₀ s) :
    Keeps P s₀ (State.clampedAt s row i c) := by
  unfold State.clampedAt
  repeat' (first
    | with_reducible assumption
    | exact Mask.sub hP (by decide)
    | with_reducible apply State.stick_keeps
    | with_reducible apply State.report_keeps
    | split)

/-- Changes at most: regs, ticks, reports, inCal. -/
theorem State.formInput_keeps {P : Nat} {s₀ : State} (s : State) (i : ℕ)
    (hP : 549755826192 &&& P = 549755826192) (h : Keeps P s₀ s) :
    Keeps P s₀ (State.formInput s i) := by
  unfold State.formInput
  repeat' (first
    | with_reducible assumption
    | exact Mask.sub hP (by decide)
    | (extract_lets +onlyGivenNames x; refine Keeps.cut P s₀ x ?_ fun hx => ?_; (on_goal 2 => clear_value x); revert x; change Keeps _ _ _)
    | (extract_lets +onlyGivenNames x; clear_value x)
    | with_reducible apply State.clampedAt_keeps
    | with_reducible apply Keeps.upd_inCal)

/-- Changes at most: fresh, regs, ticks, reports. -/
theorem State.formScale_keeps {P : Nat} {s₀ : State} (s : State) (j : ℕ)
    (hP : 12306 &&& P = 12306) (h : Keeps P s₀ s) :
    Keeps P s₀ (State.formScale s j) := by
  unfold State.formScale
  repeat' (first
    | with_reducible assumption
    | exact Mask.sub hP (by decide)
    | (extract_lets +onlyGivenNames x; refine Keeps.cut P s₀ x ?_ fun hx => ?_; (on_goal 2 => clear_value x); revert x; change Keeps _ _ _)
    | (extract_lets +onlyGivenNames x; refine Keeps.cutFst P s₀ x ?_ fun hx => ?_; (on_goal 2 => clear_value x); revert x; change Keeps _ _ _)
    | (extract_lets +onlyGivenNames x; refine Keeps.cutMid P s₀ x ?_ fun hx => ?_; (on_goal 2 => clear_value x); revert x; change Keeps _ _ _)
    | (extract_lets +onlyGivenNames x; refine Keeps.cutSnd P s₀ x ?_ fun hx => ?_; (on_goal 2 => clear_value x); revert x; change Keeps _ _ _)
    | (extract_lets +onlyGivenNames x; clear_value x)
    | with_reducible apply State.clampedAt_keeps
    | with_reducible apply State.set_keeps
    | with_reducible apply State.free_keeps
    | split
    | refine Keeps.ofFst (by assumption) ?_
    | refine Keeps.ofSnd (by assumption) ?_
    | refine Keeps.ofMid (by assumption) ?_)

/-- Changes at most: regs, work, ticks, reports. -/
theorem State.formDelay_keeps {P : Nat} {s₀ : State} (s : State) (x : ℕ)
    (hP : 12368 &&& P = 12368) (h : Keeps P s₀ s) :
    Keeps P s₀ (State.formDelay s x) := by
  unfold State.formDelay
  repeat' (first
    | with_reducible assumption
    | exact Mask.sub hP (by decide)
    | (extract_lets +onlyGivenNames x; refine Keeps.cut P s₀ x ?_ fun hx => ?_; (on_goal 2 => clear_value x); revert x; change Keeps _ _ _)
    | (extract_lets +onlyGivenNames x; clear_value x)
    | with_reducible apply State.clampedAt_keeps
    | with_reducible apply State.set_keeps
    | with_reducible apply State.setCyl_keeps
    | with_reducible apply Keeps.foldl
    | split
    | (intro _ _ _))

/-- Changes at most: regs, work, ticks, reports. -/
theorem State.formSite_keeps {P : Nat} {s₀ : State} (s : State) (x : ℕ)
    (hP : 12368 &&& P = 12368) (h : Keeps P s₀ s) :
    Keeps P s₀ (State.formSite s x) := by
  unfold State.formSite
  repeat' (first
    | with_reducible assumption
    | exact Mask.sub hP (by decide)
    | (extract_lets +onlyGivenNames x; refine Keeps.cut P s₀ x ?_ fun hx => ?_; (on_goal 2 => clear_value x); revert x; change Keeps _ _ _)
    | (extract_lets +onlyGivenNames x; refine Keeps.cutOp P s₀ x ?_ fun hx => ?_; (on_goal 2 => clear_value x); revert x; change ∀ s, Keeps _ _ s → Keeps _ _ _; intro s hs)
    | (extract_lets +onlyGivenNames x; refine Keeps.cutFun P s₀ x ?_ fun hx => ?_; (on_goal 2 => clear_value x); revert x; change ∀ s x, Keeps _ _ s → Keeps _ _ _; intro s x hs)
    | (extract_lets +onlyGivenNames x; refine Keeps.cutFn P s₀ x ?_ fun hx => ?_; (on_goal 2 => clear_value x); revert x; change ∀ x, Keeps _ _ _; intro x)
    | (extract_lets +onlyGivenNames x; clear_value x)
    | (extract_lets +onlyGivenNames x)
    | with_reducible apply State.clampedAt_keeps
    | with_reducible apply State.formDelay_keeps
    | with_reducible apply State.set_keeps
    | with_reducible apply State.setI_keeps
    | split
    | with_reducible apply_assumption)

/-- Changes at most: regs, ticks, reports. -/
theorem State.formPump_keeps {P : Nat} {s₀ : State} (s : State)
    (hP : 12304 &&& P = 12304) (h : Keeps P s₀ s) :
    Keeps P s₀ (State.formPump s) := by
  unfold State.formPump
  repeat' (first
    | with_reducible assumption
    | exact Mask.sub hP (by decide)
    | (extract_lets +onlyGivenNames x; refine Keeps.cut P s₀ x ?_ fun hx => ?_; (on_goal 2 => clear_value x); revert x; change Keeps _ _ _)
    | (extract_lets +onlyGivenNames x; clear_value x)
    | (extract_lets +onlyGivenNames x)
    | with_reducible apply State.clampedAt_keeps
    | with_reducible apply State.set_keeps
    | split)

/-- Changes at most: fresh, regs, work, ticks, reports, inCal. -/
theorem State.form_keeps {P : Nat} {s₀ : State} (s : State)
    (hP : 549755826258 &&& P = 549755826258) (h : Keeps P s₀ s) :
    Keeps P s₀ (State.form s) := by
  unfold State.form
  repeat' (first
    | with_reducible assumption
    | exact Mask.sub hP (by decide)
    | (extract_lets +onlyGivenNames x; refine Keeps.cut P s₀ x ?_ fun hx => ?_; (on_goal 2 => clear_value x); revert x; change Keeps _ _ _)
    | (extract_lets +onlyGivenNames x; clear_value x)
    | with_reducible apply State.formInput_keeps
    | with_reducible apply State.formScale_keeps
    | with_reducible apply State.formSite_keeps
    | with_reducible apply State.formPump_keeps
    | with_reducible apply State.incMod_keeps
    | with_reducible apply Keeps.foldl
    | (intro _ _ _)
    | with_reducible apply Keeps.upd_inCal)

/-- Changes at most: regs, ticks, reports, acc. -/
theorem State.driftTake_keeps {P : Nat} {s₀ : State} (s : State) (x : ℕ)
    (hP : 268447760 &&& P = 268447760) (h : Keeps P s₀ s) :
    Keeps P s₀ (State.driftTake s x) := by
  unfold State.driftTake
  repeat' (first
    | with_reducible assumption
    | exact Mask.sub hP (by decide)
    | (extract_lets +onlyGivenNames x; refine Keeps.cut P s₀ x ?_ fun hx => ?_; (on_goal 2 => clear_value x); revert x; change Keeps _ _ _)
    | (extract_lets +onlyGivenNames x; refine Keeps.cutOp P s₀ x ?_ fun hx => ?_; (on_goal 2 => clear_value x); revert x; change ∀ s, Keeps _ _ s → Keeps _ _ _; intro s hs)
    | (extract_lets +onlyGivenNames x; refine Keeps.cutFun P s₀ x ?_ fun hx => ?_; (on_goal 2 => clear_value x); revert x; change ∀ s x, Keeps _ _ s → Keeps _ _ _; intro s x hs)
    | (extract_lets +onlyGivenNames x; refine Keeps.cutFn P s₀ x ?_ fun hx => ?_; (on_goal 2 => clear_value x); revert x; change ∀ x, Keeps _ _ _; intro x)
    | (extract_lets +onlyGivenNames x; clear_value x)
    | (extract_lets +onlyGivenNames x)
    | with_reducible apply State.inc_keeps
    | with_reducible apply State.accSet_keeps
    | with_reducible apply State.report_keeps
    | with_reducible apply Keeps.foldl
    | split
    | with_reducible apply_assumption
    | (intro _ _ _))

/-- Changes at most: now, fresh, regs, work, ticks, reports, acc, inCal, selv, enumStart. -/
theorem execEnumDone_keeps {P : Nat} {s₀ : State} (t : Word) (s : State)
    (hP : 6755949465317459 &&& P = 6755949465317459) (h : Keeps P s₀ s) :
    OutKeeps P s₀ (execEnumDone t s) := by
  unfold execEnumDone
  repeat' (first
    | with_reducible assumption
    | exact Mask.sub hP (by decide)
    | (extract_lets +onlyGivenNames x; refine Keeps.cut P s₀ x ?_ fun hx => ?_; (on_goal 2 => clear_value x); revert x; change Keeps _ _ _)
    | (extract_lets +onlyGivenNames x; clear_value x)
    | with_reducible apply OutKeeps.next
    | with_reducible apply State.siteState_keeps
    | with_reducible apply State.lookup_keeps
    | with_reducible apply State.form_keeps
    | with_reducible apply State.driftTake_keeps
    | with_reducible apply State.set_keeps
    | with_reducible apply State.at_keeps
    | with_reducible apply Keeps.foldl
    | split
    | (intro _ _ _)
    | with_reducible apply Keeps.upd_selv
    | with_reducible apply Keeps.upd_enumStart
    | (apply Keeps.many; (case h => assumption); (case hq => rfl); (case hf => exact Nat.le_refl _); (case hc => exact fun hc => hc); (case hm => exact fun h => h); (case hp => (intro p; cases p <;> first | exact Or.inr rfl | exact Or.inl (Mask.mem hP (by decide))))))

/-- Changes at most: regs, ticks, reports. -/
theorem State.rollSite_keeps {P : Nat} {s₀ : State} (s : State) (l : ℕ) (i : ℕ) (bit : Bool)
    (hP : 12304 &&& P = 12304) (h : Keeps P s₀ s) :
    Keeps P s₀ (State.rollSite s l i bit) := by
  unfold State.rollSite
  repeat' (first
    | with_reducible assumption
    | exact Mask.sub hP (by decide)
    | (extract_lets +onlyGivenNames x; refine Keeps.cut P s₀ x ?_ fun hx => ?_; (on_goal 2 => clear_value x); revert x; change Keeps _ _ _)
    | (extract_lets +onlyGivenNames x; refine Keeps.cutOp P s₀ x ?_ fun hx => ?_; (on_goal 2 => clear_value x); revert x; change ∀ s, Keeps _ _ s → Keeps _ _ _; intro s hs)
    | (extract_lets +onlyGivenNames x; refine Keeps.cutFun P s₀ x ?_ fun hx => ?_; (on_goal 2 => clear_value x); revert x; change ∀ s x, Keeps _ _ s → Keeps _ _ _; intro s x hs)
    | (extract_lets +onlyGivenNames x; refine Keeps.cutFn P s₀ x ?_ fun hx => ?_; (on_goal 2 => clear_value x); revert x; change ∀ x, Keeps _ _ _; intro x)
    | (extract_lets +onlyGivenNames x; clear_value x)
    | (extract_lets +onlyGivenNames x)
    | with_reducible apply State.stickBit_keeps
    | with_reducible apply State.report_keeps
    | split
    | with_reducible apply_assumption)

/-- Changes at most: now, regs, ticks, reports, selv. -/
theorem execBackgroundRollCall_keeps {P : Nat} {s₀ : State} (t : Word) (l : Fin 14) (base : ℤ) (ua : Vector ℤ 16) (s : State)
    (hP : 2251799813697553 &&& P = 2251799813697553) (h : Keeps P s₀ s) :
    OutKeeps P s₀ (execBackgroundRollCall t l base ua s) := by
  unfold execBackgroundRollCall
  repeat' (first
    | with_reducible assumption
    | exact Mask.sub hP (by decide)
    | (extract_lets +onlyGivenNames x; refine Keeps.cut P s₀ x ?_ fun hx => ?_; (on_goal 2 => clear_value x); revert x; change Keeps _ _ _)
    | (extract_lets +onlyGivenNames x; clear_value x)
    | (extract_lets +onlyGivenNames x)
    | with_reducible apply OutKeeps.next
    | with_reducible apply State.setLine_keeps
    | with_reducible apply State.rollSite_keeps
    | with_reducible apply State.set_keeps
    | with_reducible apply State.at_keeps
    | with_reducible apply Keeps.foldl
    | split
    | (intro _ _ _))

end Sys2Proof.Machine
end

