-- ==== Sys2Proof/Laws/KeepsWeave.lean ====
section
/-!
SUPPORT. What each operation of Machine/Weave.lean may change (Laws/Keeps.lean).
-/
set_option linter.unusedTactic false
set_option linter.unreachableTactic false
namespace Sys2Proof.Machine

/-- Changes at most: regs. -/
theorem State.checkPlies_keeps {P : Nat} {s₀ : State} (s : State)
    (hP : 16 &&& P = 16) (h : Keeps P s₀ s) :
    Keeps P s₀ (State.checkPlies s) := by
  unfold State.checkPlies
  repeat' (first
    | with_reducible assumption
    | exact Mask.sub hP (by decide)
    | (extract_lets +onlyGivenNames x; refine Keeps.cut P s₀ x ?_ fun hx => ?_; (on_goal 2 => clear_value x); revert x; change Keeps _ _ _)
    | (extract_lets +onlyGivenNames x; clear_value x)
    | with_reducible apply State.set_keeps
    | with_reducible apply Keeps.foldl
    | (intro _ _ _))

/-- Changes at most: regs. -/
theorem State.applyEntries_keeps {P : Nat} {s₀ : State} (src : State) (v : PlyView) (owner : Option (ℕ × ℕ)) (n : ℕ) (o : ℕ) (x5 : State)
    (hP : 16 &&& P = 16) (h : Keeps P s₀ x5) :
    OptKeeps P s₀ (State.applyEntries src v owner n o x5) := by
  induction n generalizing o x5 with
  | zero =>
    unfold State.applyEntries
    repeat' (first
      | with_reducible assumption
      | exact Mask.sub hP (by decide)
      | (extract_lets +onlyGivenNames x; refine Keeps.cut P s₀ x ?_ fun hx => ?_; (on_goal 2 => clear_value x); revert x; change Keeps _ _ _)
      | (extract_lets +onlyGivenNames x; clear_value x)
      | with_reducible apply OptKeeps.some
      | with_reducible exact OptKeeps.none
      | with_reducible apply OptKeeps₂.some
      | with_reducible exact OptKeeps₂.none
      | with_reducible apply State.entryWrite_keeps
      | split
      | refine OptKeeps.of (by assumption) ?_
      | refine OptKeeps₂.of (by assumption) ?_)
  | succ m ih =>
    unfold State.applyEntries
    repeat' (first
      | with_reducible assumption
      | exact Mask.sub hP (by decide)
      | (extract_lets +onlyGivenNames x; refine Keeps.cut P s₀ x ?_ fun hx => ?_; (on_goal 2 => clear_value x); revert x; change Keeps _ _ _)
      | (extract_lets +onlyGivenNames x; clear_value x)
      | with_reducible apply OptKeeps.some
      | with_reducible exact OptKeeps.none
      | with_reducible apply OptKeeps₂.some
      | with_reducible exact OptKeeps₂.none
      | with_reducible apply State.entryWrite_keeps
      | split
      | refine OptKeeps.of (by assumption) ?_
      | refine OptKeeps₂.of (by assumption) ?_
      | apply ih)

/-- Changes at most: regs, weave. -/
theorem State.applyGlobal_keeps {P : Nat} {s₀ : State} (src : State) (v : PlyView) (s : State)
    (hP : 524304 &&& P = 524304) (h : Keeps P s₀ s) :
    OptKeeps P s₀ (State.applyGlobal src v s) := by
  unfold State.applyGlobal
  repeat' (first
    | with_reducible assumption
    | exact Mask.sub hP (by decide)
    | (extract_lets +onlyGivenNames x; refine Keeps.cut P s₀ x ?_ fun hx => ?_; (on_goal 2 => clear_value x); revert x; change Keeps _ _ _)
    | (extract_lets +onlyGivenNames x; clear_value x)
    | (extract_lets +onlyGivenNames x)
    | with_reducible apply OptKeeps.some
    | with_reducible exact OptKeeps.none
    | with_reducible apply OptKeeps₂.some
    | with_reducible exact OptKeeps₂.none
    | with_reducible apply State.applyEntries_keeps
    | split
    | refine OptKeeps.of (by assumption) ?_
    | refine OptKeeps₂.of (by assumption) ?_
    | with_reducible apply Keeps.upd_weave)

/-- Changes at most: regs, weave. -/
theorem State.applyTiles_keeps {P : Nat} {s₀ : State} (src : State) (v : PlyView) (fuel : ℕ) (o : ℕ) (x4 : State)
    (hP : 524304 &&& P = 524304) (h : Keeps P s₀ x4) :
    OptKeeps P s₀ (State.applyTiles src v fuel o x4) := by
  induction fuel generalizing o x4 with
  | zero =>
    unfold State.applyTiles
    repeat' (first
      | with_reducible assumption
      | exact Mask.sub hP (by decide)
      | (extract_lets +onlyGivenNames x; refine Keeps.cut P s₀ x ?_ fun hx => ?_; (on_goal 2 => clear_value x); revert x; change Keeps _ _ _)
      | (extract_lets +onlyGivenNames x; clear_value x)
      | (extract_lets +onlyGivenNames x)
      | with_reducible apply OptKeeps.some
      | with_reducible exact OptKeeps.none
      | with_reducible apply OptKeeps₂.some
      | with_reducible exact OptKeeps₂.none
      | with_reducible apply State.applyEntries_keeps
      | split
      | refine OptKeeps.of (by assumption) ?_
      | refine OptKeeps₂.of (by assumption) ?_
      | with_reducible apply Keeps.upd_weave)
  | succ m ih =>
    unfold State.applyTiles
    repeat' (first
      | with_reducible assumption
      | exact Mask.sub hP (by decide)
      | (extract_lets +onlyGivenNames x; refine Keeps.cut P s₀ x ?_ fun hx => ?_; (on_goal 2 => clear_value x); revert x; change Keeps _ _ _)
      | (extract_lets +onlyGivenNames x; clear_value x)
      | (extract_lets +onlyGivenNames x)
      | with_reducible apply OptKeeps.some
      | with_reducible exact OptKeeps.none
      | with_reducible apply OptKeeps₂.some
      | with_reducible exact OptKeeps₂.none
      | with_reducible apply State.applyEntries_keeps
      | split
      | refine OptKeeps.of (by assumption) ?_
      | refine OptKeeps₂.of (by assumption) ?_
      | with_reducible apply Keeps.upd_weave
      | apply ih)

/-- Changes at most: weave. -/
theorem State.applyRoutes_keeps {P : Nat} {s₀ : State} (src : State) (v : PlyView) (s : State)
    (hP : 524288 &&& P = 524288) (h : Keeps P s₀ s) :
    OptKeeps P s₀ (State.applyRoutes src v s) := by
  unfold State.applyRoutes
  repeat' (first
    | with_reducible assumption
    | exact Mask.sub hP (by decide)
    | (extract_lets +onlyGivenNames x; refine Keeps.cut P s₀ x ?_ fun hx => ?_; (on_goal 2 => clear_value x); revert x; change Keeps _ _ _)
    | (extract_lets +onlyGivenNames x; refine Keeps.cutOp P s₀ x ?_ fun hx => ?_; (on_goal 2 => clear_value x); revert x; change ∀ s, Keeps _ _ s → Keeps _ _ _; intro s hs)
    | (extract_lets +onlyGivenNames x; refine Keeps.cutFun P s₀ x ?_ fun hx => ?_; (on_goal 2 => clear_value x); revert x; change ∀ s x, Keeps _ _ s → Keeps _ _ _; intro s x hs)
    | (extract_lets +onlyGivenNames x; refine Keeps.cutFn P s₀ x ?_ fun hx => ?_; (on_goal 2 => clear_value x); revert x; change ∀ x, Keeps _ _ _; intro x)
    | (extract_lets +onlyGivenNames x; clear_value x)
    | (extract_lets +onlyGivenNames x)
    | with_reducible apply OptKeeps.some
    | with_reducible exact OptKeeps.none
    | with_reducible apply OptKeeps₂.some
    | with_reducible exact OptKeeps₂.none
    | split
    | with_reducible apply_assumption
    | with_reducible apply Keeps.upd_weave)

/-- Changes at most: weave. -/
theorem State.applyPins_keeps {P : Nat} {s₀ : State} (src : State) (v : PlyView) (s : State)
    (hP : 524288 &&& P = 524288) (h : Keeps P s₀ s) :
    OptKeeps P s₀ (State.applyPins src v s) := by
  unfold State.applyPins
  repeat' (first
    | with_reducible assumption
    | exact Mask.sub hP (by decide)
    | (extract_lets +onlyGivenNames x; refine Keeps.cut P s₀ x ?_ fun hx => ?_; (on_goal 2 => clear_value x); revert x; change Keeps _ _ _)
    | (extract_lets +onlyGivenNames x; refine Keeps.cutOp P s₀ x ?_ fun hx => ?_; (on_goal 2 => clear_value x); revert x; change ∀ s, Keeps _ _ s → Keeps _ _ _; intro s hs)
    | (extract_lets +onlyGivenNames x; refine Keeps.cutFun P s₀ x ?_ fun hx => ?_; (on_goal 2 => clear_value x); revert x; change ∀ s x, Keeps _ _ s → Keeps _ _ _; intro s x hs)
    | (extract_lets +onlyGivenNames x; refine Keeps.cutFn P s₀ x ?_ fun hx => ?_; (on_goal 2 => clear_value x); revert x; change ∀ x, Keeps _ _ _; intro x)
    | (extract_lets +onlyGivenNames x; clear_value x)
    | (extract_lets +onlyGivenNames x)
    | with_reducible apply OptKeeps.some
    | with_reducible exact OptKeeps.none
    | with_reducible apply OptKeeps₂.some
    | with_reducible exact OptKeeps₂.none
    | split
    | with_reducible apply_assumption
    | with_reducible apply Keeps.upd_weave)

/-- Changes at most: regs. -/
theorem State.applyCode_keeps {P : Nat} {s₀ : State} (src : State) (v : PlyView) (fuel : ℕ) (o : ℕ) (banks : List ℕ) (x5 : State)
    (hP : 16 &&& P = 16) (h : Keeps P s₀ x5) :
    OptKeeps P s₀ (State.applyCode src v fuel o banks x5) := by
  induction fuel generalizing o banks x5 with
  | zero =>
    unfold State.applyCode
    repeat' (first
      | with_reducible assumption
      | exact Mask.sub hP (by decide)
      | (extract_lets +onlyGivenNames x; refine Keeps.cut P s₀ x ?_ fun hx => ?_; (on_goal 2 => clear_value x); revert x; change Keeps _ _ _)
      | (extract_lets +onlyGivenNames x; clear_value x)
      | (extract_lets +onlyGivenNames x)
      | with_reducible apply OptKeeps.some
      | with_reducible exact OptKeeps.none
      | with_reducible apply OptKeeps₂.some
      | with_reducible exact OptKeeps₂.none
      | with_reducible apply State.setReg_keeps
      | with_reducible apply Keeps.foldl
      | split
      | (intro _ _ _)
      | refine OptKeeps.of (by assumption) ?_
      | refine OptKeeps₂.of (by assumption) ?_)
  | succ n ih =>
    unfold State.applyCode
    repeat' (first
      | with_reducible assumption
      | exact Mask.sub hP (by decide)
      | (extract_lets +onlyGivenNames x; refine Keeps.cut P s₀ x ?_ fun hx => ?_; (on_goal 2 => clear_value x); revert x; change Keeps _ _ _)
      | (extract_lets +onlyGivenNames x; clear_value x)
      | (extract_lets +onlyGivenNames x)
      | with_reducible apply OptKeeps.some
      | with_reducible exact OptKeeps.none
      | with_reducible apply OptKeeps₂.some
      | with_reducible exact OptKeeps₂.none
      | with_reducible apply State.setReg_keeps
      | with_reducible apply Keeps.foldl
      | split
      | (intro _ _ _)
      | refine OptKeeps.of (by assumption) ?_
      | refine OptKeeps₂.of (by assumption) ?_
      | apply ih)

/-- Changes at most: regs. -/
theorem State.resetTileRegs_keeps {P : Nat} {s₀ : State} (s : State)
    (hP : 16 &&& P = 16) (h : Keeps P s₀ s) :
    Keeps P s₀ (State.resetTileRegs s) := by
  unfold State.resetTileRegs
  refine Keeps.upd_regs (fun hw => ?_) (Mask.sub hP (by decide)) h
  have hne := hw
  simp only [Cells.wf, Bool.and_eq_true, List.all_eq_true, decide_eq_true_eq] at hne
  refine Cells.wf_filterMap regReset _ (fun c c' e => ?_) _ (fun c hc c' e => ?_) hw
  · grind
  · grind

/-- Changes at most: primary, warps, wefts, learn, shTok, bkTok, pair, shuttles, seqTok, pulseOuts, banks, cmps, boosts, closures, seqs, cmbSig, combust, trimDue, maps, rail, ovs, cans, streams, ports, dma, dmaTrigs. -/
theorem State.resetUnits_keeps {P : Nat} {s₀ : State} (s : State)
    (hP : 992735991614668800 &&& P = 992735991614668800) (h : Keeps P s₀ s) :
    Keeps P s₀ (State.resetUnits s) := by
  refine h.many (fun p => ?_) rfl (Nat.le_refl _) (fun hc => hc) (fun _ => freshBanks_modes _ s.banks rfl rfl)
  cases p <;> first | exact Or.inr rfl | exact Or.inl (Mask.mem hP (by decide))

/-- Changes at most: regs, primary, warps, wefts, learn, shTok, bkTok, pair, shuttles, seqTok, pulseOuts, banks, cmps, boosts, closures, seqs, cmbSig, combust, trimDue, maps, rail, ovs, cans, streams, ports, dma, dmaTrigs. -/
theorem State.resetTiles_keeps {P : Nat} {s₀ : State} (s : State)
    (hP : 992735991614668816 &&& P = 992735991614668816) (h : Keeps P s₀ s) :
    Keeps P s₀ (State.resetTiles s) := by
  unfold State.resetTiles
  repeat' (first
    | with_reducible assumption
    | exact Mask.sub hP (by decide)
    | (extract_lets +onlyGivenNames x; refine Keeps.cut P s₀ x ?_ fun hx => ?_; (on_goal 2 => clear_value x); revert x; change Keeps _ _ _)
    | (extract_lets +onlyGivenNames x; clear_value x)
    | with_reducible apply State.setReg_keeps
    | with_reducible apply State.flag_keeps
    | with_reducible apply State.resetTileRegs_keeps
    | with_reducible apply State.resetUnits_keeps
    | with_reducible apply Keeps.foldl
    | (intro _ _ _))

/-- Changes at most: reports, mergeOpen. -/
theorem State.resetEvent_keeps {P : Nat} {s₀ : State} (s : State)
    (hP : 24576 &&& P = 24576) (h : Keeps P s₀ s) :
    Keeps P s₀ (State.resetEvent s) := by
  unfold State.resetEvent
  repeat' (first
    | with_reducible assumption
    | exact Mask.sub hP (by decide)
    | (extract_lets +onlyGivenNames x; refine Keeps.cut P s₀ x ?_ fun hx => ?_; (on_goal 2 => clear_value x); revert x; change Keeps _ _ _)
    | (extract_lets +onlyGivenNames x; clear_value x)
    | split
    | with_reducible apply Keeps.upd_reports
    | with_reducible apply Keeps.upd_mergeOpen
    | (apply Keeps.many; (case h => assumption); (case hq => rfl); (case hf => exact Nat.le_refl _); (case hc => exact fun hc => hc); (case hm => exact fun h => h); (case hp => (intro p; cases p <;> first | exact Or.inr rfl | exact Or.inl (Mask.mem hP (by decide))))))

/-- Changes at most: regs, weave. -/
theorem State.applyPly_keeps {P : Nat} {s₀ : State} (s0 : State) (p : PlySrc) (s : State)
    (hP : 524304 &&& P = 524304) (h : Keeps P s₀ s) :
    ExKeeps P s₀ (State.applyPly s0 p s) := by
  unfold State.applyPly
  repeat' (first
    | with_reducible assumption
    | exact Mask.sub hP (by decide)
    | (extract_lets +onlyGivenNames x; refine Keeps.cut P s₀ x ?_ fun hx => ?_; (on_goal 2 => clear_value x); revert x; change Keeps _ _ _)
    | (extract_lets +onlyGivenNames x; clear_value x)
    | with_reducible apply ExKeeps.ok
    | with_reducible exact ExKeeps.error
    | with_reducible apply State.applyGlobal_keeps
    | with_reducible apply State.applyTiles_keeps
    | with_reducible apply State.applyRoutes_keeps
    | with_reducible apply State.applyPins_keeps
    | with_reducible apply State.applyCode_keeps
    | split
    | refine OptKeeps.of (by assumption) ?_
    | refine OptKeeps₂.of (by assumption) ?_)

/-- Changes at most: regs, ticks. -/
theorem State.cmdRej_keeps {P : Nat} {s₀ : State} (s : State)
    (hP : 4112 &&& P = 4112) (h : Keeps P s₀ s) :
    Keeps P s₀ (State.cmdRej s) := by
  unfold State.cmdRej
  repeat' (first
    | with_reducible assumption
    | exact Mask.sub hP (by decide)
    | with_reducible apply State.stick_keeps)

/-- Changes at most: regs, weave. -/
theorem State.startLoad_keeps {P : Nat} {s₀ : State} (s : State)
    (hP : 524304 &&& P = 524304) (h : Keeps P s₀ s) :
    Keeps P s₀ (State.startLoad s) := by
  unfold State.startLoad
  repeat' (first
    | with_reducible assumption
    | exact Mask.sub hP (by decide)
    | (extract_lets +onlyGivenNames x; refine Keeps.cut P s₀ x ?_ fun hx => ?_; (on_goal 2 => clear_value x); revert x; change Keeps _ _ _)
    | (extract_lets +onlyGivenNames x; clear_value x)
    | with_reducible apply State.set_keeps
    | with_reducible apply Keeps.upd_weave)

/-- Changes at most: regs, weave, saf. -/
theorem State.loadFailed_keeps {P : Nat} {s₀ : State} (s : State) (st : ℕ)
    (hP : 9223372036855300112 &&& P = 9223372036855300112) (h : Keeps P s₀ s) :
    Keeps P s₀ (State.loadFailed s st) := by
  unfold State.loadFailed
  repeat' (first
    | with_reducible assumption
    | exact Mask.sub hP (by decide)
    | (extract_lets +onlyGivenNames x; refine Keeps.cut P s₀ x ?_ fun hx => ?_; (on_goal 2 => clear_value x); revert x; change Keeps _ _ _)
    | (extract_lets +onlyGivenNames x; clear_value x)
    | with_reducible apply State.set_keeps
    | with_reducible apply Keeps.upd_weave
    | with_reducible apply Keeps.upd_saf
    | (apply Keeps.many; (case h => assumption); (case hq => rfl); (case hf => exact Nat.le_refl _); (case hc => exact fun hc => hc); (case hm => exact fun h => h); (case hp => (intro p; cases p <;> first | exact Or.inr rfl | exact Or.inl (Mask.mem hP (by decide))))))

/-- Changes at most: regs. -/
theorem State.showSel_keeps {P : Nat} {s₀ : State} (s : State) (p : PlySrc)
    (hP : 16 &&& P = 16) (h : Keeps P s₀ s) :
    Keeps P s₀ (State.showSel s p) := by
  unfold State.showSel
  repeat' (first
    | with_reducible assumption
    | exact Mask.sub hP (by decide)
    | with_reducible apply State.set_keeps
    | with_reducible apply State.flag_keeps)

/-- Changes at most: regs, ticks, weave. -/
theorem State.doLoad_keeps {P : Nat} {s₀ : State} (s : State)
    (hP : 528400 &&& P = 528400) (h : Keeps P s₀ s) :
    Keeps P s₀ (State.doLoad s) := by
  unfold State.doLoad
  repeat' (first
    | with_reducible assumption
    | exact Mask.sub hP (by decide)
    | with_reducible apply State.cmdRej_keeps
    | with_reducible apply State.startLoad_keeps
    | split)

/-- Changes at most: regs, ticks, weave. -/
theorem State.doVerify_keeps {P : Nat} {s₀ : State} (s : State)
    (hP : 528400 &&& P = 528400) (h : Keeps P s₀ s) :
    Keeps P s₀ (State.doVerify s) := by
  unfold State.doVerify
  repeat' (first
    | with_reducible assumption
    | exact Mask.sub hP (by decide)
    | (extract_lets +onlyGivenNames x; refine Keeps.cut P s₀ x ?_ fun hx => ?_; (on_goal 2 => clear_value x); revert x; change Keeps _ _ _)
    | (extract_lets +onlyGivenNames x; clear_value x)
    | with_reducible apply State.cmdRej_keeps
    | split
    | with_reducible apply Keeps.upd_weave)

/-- Changes at most: regs, ticks, weave. -/
theorem State.doErase_keeps {P : Nat} {s₀ : State} (s : State) (n : ℕ)
    (hP : 528400 &&& P = 528400) (h : Keeps P s₀ s) :
    Keeps P s₀ (State.doErase s n) := by
  unfold State.doErase
  repeat' (first
    | with_reducible assumption
    | exact Mask.sub hP (by decide)
    | (extract_lets +onlyGivenNames x; refine Keeps.cut P s₀ x ?_ fun hx => ?_; (on_goal 2 => clear_value x); revert x; change Keeps _ _ _)
    | (extract_lets +onlyGivenNames x; clear_value x)
    | with_reducible apply State.cmdRej_keeps
    | split
    | with_reducible apply Keeps.upd_weave)

/-- Changes at most: regs, ticks, weave. -/
theorem State.doMirror_keeps {P : Nat} {s₀ : State} (s : State) (n : ℕ)
    (hP : 528400 &&& P = 528400) (h : Keeps P s₀ s) :
    Keeps P s₀ (State.doMirror s n) := by
  unfold State.doMirror
  repeat' (first
    | with_reducible assumption
    | exact Mask.sub hP (by decide)
    | (extract_lets +onlyGivenNames x; refine Keeps.cut P s₀ x ?_ fun hx => ?_; (on_goal 2 => clear_value x); revert x; change Keeps _ _ _)
    | (extract_lets +onlyGivenNames x; clear_value x)
    | (extract_lets +onlyGivenNames x)
    | with_reducible apply State.set_keeps
    | with_reducible apply State.cmdRej_keeps
    | split
    | with_reducible apply Keeps.upd_weave)

/-- Changes at most: now, regs, ticks, weave. -/
theorem execLoad_keeps {P : Nat} {s₀ : State} (t : Word) (s : State)
    (hP : 528401 &&& P = 528401) (h : Keeps P s₀ s) :
    OutKeeps P s₀ (execLoad t s) := by
  unfold execLoad
  repeat' (first
    | with_reducible assumption
    | exact Mask.sub hP (by decide)
    | with_reducible apply OutKeeps.next
    | with_reducible apply State.at_keeps
    | with_reducible apply State.doLoad_keeps)

/-- Changes at most: now, regs, ticks, weave. -/
theorem execVerify_keeps {P : Nat} {s₀ : State} (t : Word) (s : State)
    (hP : 528401 &&& P = 528401) (h : Keeps P s₀ s) :
    OutKeeps P s₀ (execVerify t s) := by
  unfold execVerify
  repeat' (first
    | with_reducible assumption
    | exact Mask.sub hP (by decide)
    | with_reducible apply OutKeeps.next
    | with_reducible apply State.at_keeps
    | with_reducible apply State.doVerify_keeps)

/-- Changes at most: now, regs, ticks, weave. -/
theorem execErase_keeps {P : Nat} {s₀ : State} (t : Word) (ply : Fin 4) (s : State)
    (hP : 528401 &&& P = 528401) (h : Keeps P s₀ s) :
    OutKeeps P s₀ (execErase t ply s) := by
  unfold execErase
  repeat' (first
    | with_reducible assumption
    | exact Mask.sub hP (by decide)
    | with_reducible apply OutKeeps.next
    | with_reducible apply State.at_keeps
    | with_reducible apply State.doErase_keeps)

/-- Changes at most: now, regs, ticks, weave. -/
theorem execMirror_keeps {P : Nat} {s₀ : State} (t : Word) (ply : Fin 4) (s : State)
    (hP : 528401 &&& P = 528401) (h : Keeps P s₀ s) :
    OutKeeps P s₀ (execMirror t ply s) := by
  unfold execMirror
  repeat' (first
    | with_reducible assumption
    | exact Mask.sub hP (by decide)
    | with_reducible apply OutKeeps.next
    | with_reducible apply State.at_keeps
    | with_reducible apply State.doMirror_keeps)

/-- Changes at most: now, regs, ticks. -/
theorem execWveCmdReject_keeps {P : Nat} {s₀ : State} (t : Word) (code : Fin 16) (ply : Fin 4) (s : State)
    (hP : 4113 &&& P = 4113) (h : Keeps P s₀ s) :
    OutKeeps P s₀ (execWveCmdReject t code ply s) := by
  unfold execWveCmdReject
  repeat' (first
    | with_reducible assumption
    | exact Mask.sub hP (by decide)
    | (extract_lets +onlyGivenNames x; refine Keeps.cut P s₀ x ?_ fun hx => ?_; (on_goal 2 => clear_value x); revert x; change Keeps _ _ _)
    | (extract_lets +onlyGivenNames x; clear_value x)
    | (extract_lets +onlyGivenNames x)
    | with_reducible apply OutKeeps.next
    | with_reducible apply State.at_keeps
    | with_reducible apply State.cmdRej_keeps
    | split)

/-- Changes at most: now, regs, weave. -/
theorem execVerifyDone_keeps {P : Nat} {s₀ : State} (t : Word) (s : State)
    (hP : 524305 &&& P = 524305) (h : Keeps P s₀ s) :
    OutKeeps P s₀ (execVerifyDone t s) := by
  unfold execVerifyDone
  repeat' (first
    | with_reducible assumption
    | exact Mask.sub hP (by decide)
    | (extract_lets +onlyGivenNames x; refine Keeps.cut P s₀ x ?_ fun hx => ?_; (on_goal 2 => clear_value x); revert x; change Keeps _ _ _)
    | (extract_lets +onlyGivenNames x; clear_value x)
    | with_reducible apply OutKeeps.next
    | with_reducible apply State.at_keeps
    | with_reducible apply State.checkPlies_keeps
    | split
    | with_reducible apply Keeps.upd_weave)

/-- Changes at most: now, ply0, ply1, ply2, weave. -/
theorem execEraseDone_keeps {P : Nat} {s₀ : State} (t : Word) (s : State)
    (hP : 526081 &&& P = 526081) (h : Keeps P s₀ s) :
    OutKeeps P s₀ (execEraseDone t s) := by
  unfold execEraseDone
  repeat' (first
    | with_reducible assumption
    | exact Mask.sub hP (by decide)
    | (extract_lets +onlyGivenNames x; refine Keeps.cut P s₀ x ?_ fun hx => ?_; (on_goal 2 => clear_value x); revert x; change Keeps _ _ _)
    | (extract_lets +onlyGivenNames x; clear_value x)
    | with_reducible apply OutKeeps.next
    | with_reducible apply State.plySet_keeps
    | with_reducible apply State.at_keeps
    | with_reducible apply Keeps.foldl
    | split
    | (intro _ _ _)
    | with_reducible apply Keeps.upd_weave)

/-- Changes at most: flash. -/
theorem State.mirrorCopy_keeps {P : Nat} {s₀ : State} (s : State) (p : PlySrc) (base : ℕ) (n : ℕ)
    (hP : 2048 &&& P = 2048) (h : Keeps P s₀ s) :
    Keeps P s₀ (State.mirrorCopy s p base n) := by
  unfold State.mirrorCopy
  repeat' (first
    | with_reducible assumption
    | exact Mask.sub hP (by decide)
    | with_reducible apply State.flashSet_keeps
    | with_reducible apply Keeps.foldl
    | (intro _ _ _))

/-- Changes at most: now, regs, flash, weave. -/
theorem execMirrorDone_keeps {P : Nat} {s₀ : State} (t : Word) (s : State)
    (hP : 526353 &&& P = 526353) (h : Keeps P s₀ s) :
    OutKeeps P s₀ (execMirrorDone t s) := by
  unfold execMirrorDone
  repeat' (first
    | with_reducible assumption
    | exact Mask.sub hP (by decide)
    | (extract_lets +onlyGivenNames x; refine Keeps.cut P s₀ x ?_ fun hx => ?_; (on_goal 2 => clear_value x); revert x; change Keeps _ _ _)
    | (extract_lets +onlyGivenNames x; clear_value x)
    | with_reducible apply OutKeeps.next
    | with_reducible apply State.flag_keeps
    | with_reducible apply State.at_keeps
    | with_reducible apply State.mirrorCopy_keeps
    | split
    | with_reducible apply Keeps.upd_weave)

/-- Changes at most: regs, ticks, weave. -/
theorem State.storeWrite_keeps {P : Nat} {s₀ : State} (s : State) (dma : Bool) (ply : ℕ) (addr : ℕ) (w : Word)
    (hP : 528400 &&& P = 528400) (h : Keeps P s₀ s) :
    Keeps P s₀ (State.storeWrite s dma ply addr w).1 := by
  unfold State.storeWrite
  repeat' (first
    | with_reducible assumption
    | exact Mask.sub hP (by decide)
    | (extract_lets +onlyGivenNames x; refine Keeps.cut P s₀ x ?_ fun hx => ?_; (on_goal 2 => clear_value x); revert x; change Keeps _ _ _)
    | (extract_lets +onlyGivenNames x; clear_value x)
    | with_reducible apply State.stick_keeps
    | with_reducible apply State.wrej_keeps
    | split
    | with_reducible apply Keeps.upd_weave)

/-- Changes at most: now, regs, ticks, weave. -/
theorem execWeaveStoreWrite_keeps {P : Nat} {s₀ : State} (t : Word) (dma : Bool) (ply : Fin 3) (addr : Fin 21845) (value : Word) (s : State)
    (hP : 528401 &&& P = 528401) (h : Keeps P s₀ s) :
    OutKeeps P s₀ (execWeaveStoreWrite t dma ply addr value s) := by
  unfold execWeaveStoreWrite
  repeat' (first
    | with_reducible assumption
    | exact Mask.sub hP (by decide)
    | with_reducible apply OutKeeps.next
    | with_reducible apply State.at_keeps
    | with_reducible apply State.storeWrite_keeps
    | refine Keeps.ofFst (by assumption) ?_
    | refine Keeps.ofSnd (by assumption) ?_
    | refine Keeps.ofMid (by assumption) ?_)

/-- Changes at most: now, ply0, ply1, ply2, weave. -/
theorem execWeaveProgramDone_keeps {P : Nat} {s₀ : State} (t : Word) (s : State)
    (hP : 526081 &&& P = 526081) (h : Keeps P s₀ s) :
    OutKeeps P s₀ (execWeaveProgramDone t s) := by
  unfold execWeaveProgramDone
  repeat' (first
    | with_reducible assumption
    | exact Mask.sub hP (by decide)
    | (extract_lets +onlyGivenNames x; refine Keeps.cut P s₀ x ?_ fun hx => ?_; (on_goal 2 => clear_value x); revert x; change Keeps _ _ _)
    | (extract_lets +onlyGivenNames x; clear_value x)
    | with_reducible apply OutKeeps.next
    | with_reducible apply State.plySet_keeps
    | with_reducible apply State.at_keeps
    | split
    | with_reducible apply Keeps.upd_weave)

/-- Changes at most: now, regs, ticks, causes, weave. -/
theorem execScrubSectionEnd_keeps {P : Nat} {s₀ : State} (t : Word) (sec : Fin 5) (upsets : List ℕ) (s : State)
    (hP : 593937 &&& P = 593937) (h : Keeps P s₀ s) :
    OutKeeps P s₀ (execScrubSectionEnd t sec upsets s) := by
  unfold execScrubSectionEnd
  repeat' (first
    | with_reducible assumption
    | exact Mask.sub hP (by decide)
    | (extract_lets +onlyGivenNames x; refine Keeps.cut P s₀ x ?_ fun hx => ?_; (on_goal 2 => clear_value x); revert x; change Keeps _ _ _)
    | (extract_lets +onlyGivenNames x; clear_value x)
    | with_reducible apply OutKeeps.next
    | with_reducible apply State.set_keeps
    | with_reducible apply State.stick_keeps
    | with_reducible apply State.cause_keeps
    | with_reducible apply State.at_keeps
    | with_reducible apply Keeps.foldl
    | split
    | (intro _ _ _)
    | with_reducible apply Keeps.upd_weave)

/-- Changes at most: now, regs, reports, weave. -/
theorem execStoredPlyCheck_keeps {P : Nat} {s₀ : State} (t : Word) (s : State)
    (hP : 532497 &&& P = 532497) (h : Keeps P s₀ s) :
    OutKeeps P s₀ (execStoredPlyCheck t s) := by
  unfold execStoredPlyCheck
  repeat' (first
    | with_reducible assumption
    | exact Mask.sub hP (by decide)
    | (extract_lets +onlyGivenNames x; refine Keeps.cut P s₀ x ?_ fun hx => ?_; (on_goal 2 => clear_value x); revert x; change Keeps _ _ _)
    | (extract_lets +onlyGivenNames x; clear_value x)
    | (extract_lets +onlyGivenNames x)
    | with_reducible apply OutKeeps.next
    | with_reducible apply State.report_keeps
    | with_reducible apply State.at_keeps
    | with_reducible apply State.checkPlies_keeps
    | with_reducible apply Keeps.foldl
    | split
    | (intro _ _ _)
    | with_reducible apply Keeps.upd_weave)

end Sys2Proof.Machine
end

