-- ==== Sys2Proof/Laws/KeepsLinks.lean ====
section
/-!
SUPPORT. What each operation of Machine/Links.lean may change (Laws/Keeps.lean).
-/
set_option linter.unusedTactic false
set_option linter.unreachableTactic false
namespace Sys2Proof.Machine

/-- Changes at most: regs. -/
theorem State.evShow_keeps {P : Nat} {s₀ : State} (s : State)
    (hP : 16 &&& P = 16) (h : Keeps P s₀ s) :
    Keeps P s₀ (State.evShow s) := by
  unfold State.evShow
  repeat' (first
    | with_reducible assumption
    | exact Mask.sub hP (by decide)
    | with_reducible apply State.set_keeps)

/-- Changes at most: regs, fifo, host. -/
theorem State.evConsume_keeps {P : Nat} {s₀ : State} (s : State)
    (hP : 9007199254773776 &&& P = 9007199254773776) (h : Keeps P s₀ s) :
    Keeps P s₀ (State.evConsume s) := by
  unfold State.evConsume
  repeat' (first
    | with_reducible assumption
    | exact Mask.sub hP (by decide)
    | (extract_lets +onlyGivenNames x; refine Keeps.cut P s₀ x ?_ fun hx => ?_; (on_goal 2 => clear_value x); revert x; change Keeps _ _ _)
    | (extract_lets +onlyGivenNames x; clear_value x)
    | with_reducible apply State.evShow_keeps
    | split
    | with_reducible apply Keeps.upd_fifo
    | with_reducible apply Keeps.upd_host
    | (apply Keeps.many; (case h => assumption); (case hq => rfl); (case hf => exact Nat.le_refl _); (case hc => exact fun hc => hc); (case hm => exact fun h => h); (case hp => (intro p; cases p <;> first | exact Or.inr rfl | exact Or.inl (Mask.mem hP (by decide))))))

/-- Changes at most: cans. -/
theorem State.setCan_keeps {P : Nat} {s₀ : State} (s : State) (c : ℕ) (k : Can)
    (hP : 18014398509481984 &&& P = 18014398509481984) (h : Keeps P s₀ s) :
    Keeps P s₀ (State.setCan s c k) := by
  unfold State.setCan
  repeat' (first
    | with_reducible assumption
    | exact Mask.sub hP (by decide)
    | (extract_lets +onlyGivenNames x; refine Keeps.cut P s₀ x ?_ fun hx => ?_; (on_goal 2 => clear_value x); revert x; change Keeps _ _ _)
    | (extract_lets +onlyGivenNames x; clear_value x)
    | with_reducible apply Keeps.upd_cans)

/-- Changes at most: regs, cans. -/
theorem State.canRequest_keeps {P : Nat} {s₀ : State} (s : State) (c : ℕ) (m : ℕ)
    (hP : 18014398509482000 &&& P = 18014398509482000) (h : Keeps P s₀ s) :
    Keeps P s₀ (State.canRequest s c m) := by
  unfold State.canRequest
  repeat' (first
    | with_reducible assumption
    | exact Mask.sub hP (by decide)
    | (extract_lets +onlyGivenNames x; refine Keeps.cut P s₀ x ?_ fun hx => ?_; (on_goal 2 => clear_value x); revert x; change Keeps _ _ _)
    | (extract_lets +onlyGivenNames x; clear_value x)
    | with_reducible apply State.setBit_keeps
    | with_reducible apply State.setCan_keeps
    | split)

/-- Changes at most: now, regs, ticks, cans. -/
theorem execCanTxRequest_keeps {P : Nat} {s₀ : State} (t : Word) (c : Fin 4) (m : Fin 16) (s : State)
    (hP : 18014398509486097 &&& P = 18014398509486097) (h : Keeps P s₀ s) :
    OutKeeps P s₀ (execCanTxRequest t c m s) := by
  unfold execCanTxRequest
  repeat' (first
    | with_reducible assumption
    | exact Mask.sub hP (by decide)
    | (extract_lets +onlyGivenNames x; refine Keeps.cut P s₀ x ?_ fun hx => ?_; (on_goal 2 => clear_value x); revert x; change Keeps _ _ _)
    | (extract_lets +onlyGivenNames x; clear_value x)
    | with_reducible apply OutKeeps.next
    | with_reducible apply State.canRequest_keeps
    | with_reducible apply State.wrej_keeps
    | with_reducible apply State.at_keeps
    | split)

/-- Changes at most: regs. -/
theorem State.canShow_keeps {P : Nat} {s₀ : State} (s : State) (c : ℕ)
    (hP : 16 &&& P = 16) (h : Keeps P s₀ s) :
    Keeps P s₀ (State.canShow s c) := by
  unfold State.canShow
  repeat' (first
    | with_reducible assumption
    | exact Mask.sub hP (by decide)
    | with_reducible apply State.set_keeps
    | split)

/-- Changes at most: regs, work, ticks. -/
theorem State.canDeliver_keeps {P : Nat} {s₀ : State} (s : State) (c : ℕ) (f : CanFrame) (sof : Word)
    (hP : 4176 &&& P = 4176) (h : Keeps P s₀ s) :
    Keeps P s₀ (State.canDeliver s c f sof) := by
  unfold State.canDeliver
  repeat' (first
    | with_reducible assumption
    | exact Mask.sub hP (by decide)
    | (extract_lets +onlyGivenNames x; refine Keeps.cut P s₀ x ?_ fun hx => ?_; (on_goal 2 => clear_value x); revert x; change Keeps _ _ _)
    | (extract_lets +onlyGivenNames x; clear_value x)
    | (extract_lets +onlyGivenNames x)
    | with_reducible apply State.set_keeps
    | with_reducible apply State.inc_keeps
    | with_reducible apply State.workWrite_keeps
    | split)

/-- Changes at most: regs, work, ticks, cans. -/
theorem State.canSent_keeps {P : Nat} {s₀ : State} (s : State) (c : ℕ) (sof : Word) (fails : ℕ)
    (hP : 18014398509486160 &&& P = 18014398509486160) (h : Keeps P s₀ s) :
    Keeps P s₀ (State.canSent s c sof fails) := by
  unfold State.canSent
  repeat' (first
    | with_reducible assumption
    | exact Mask.sub hP (by decide)
    | (extract_lets +onlyGivenNames x; refine Keeps.cut P s₀ x ?_ fun hx => ?_; (on_goal 2 => clear_value x); revert x; change Keeps _ _ _)
    | (extract_lets +onlyGivenNames x; clear_value x)
    | with_reducible apply State.clearBit_keeps
    | with_reducible apply State.setCan_keeps
    | with_reducible apply State.canShow_keeps
    | with_reducible apply State.canDeliver_keeps
    | with_reducible apply State.set_keeps
    | with_reducible apply State.workSet_keeps
    | split)

/-- Changes at most: fresh, regs. -/
theorem State.canGood_keeps {P : Nat} {s₀ : State} (s : State) (c : ℕ) (errs : ℕ)
    (hP : 18 &&& P = 18) (h : Keeps P s₀ s) :
    Keeps P s₀ (State.canGood s c errs) := by
  unfold State.canGood
  repeat' (first
    | with_reducible assumption
    | exact Mask.sub hP (by decide)
    | (extract_lets +onlyGivenNames x; refine Keeps.cut P s₀ x ?_ fun hx => ?_; (on_goal 2 => clear_value x); revert x; change Keeps _ _ _)
    | (extract_lets +onlyGivenNames x; refine Keeps.cutFst P s₀ x ?_ fun hx => ?_; (on_goal 2 => clear_value x); revert x; change Keeps _ _ _)
    | (extract_lets +onlyGivenNames x; refine Keeps.cutMid P s₀ x ?_ fun hx => ?_; (on_goal 2 => clear_value x); revert x; change Keeps _ _ _)
    | (extract_lets +onlyGivenNames x; refine Keeps.cutSnd P s₀ x ?_ fun hx => ?_; (on_goal 2 => clear_value x); revert x; change Keeps _ _ _)
    | (extract_lets +onlyGivenNames x; clear_value x)
    | with_reducible apply State.set_keeps
    | with_reducible apply State.free_keeps
    | split
    | refine Keeps.ofFst (by assumption) ?_
    | refine Keeps.ofSnd (by assumption) ?_
    | refine Keeps.ofMid (by assumption) ?_)

/-- Changes at most: fresh, regs, work, ticks. -/
theorem State.canReceived_keeps {P : Nat} {s₀ : State} (s : State) (c : ℕ) (f : CanFrame) (sof : Word) (errs : ℕ)
    (hP : 4178 &&& P = 4178) (h : Keeps P s₀ s) :
    Keeps P s₀ (State.canReceived s c f sof errs) := by
  unfold State.canReceived
  repeat' (first
    | with_reducible assumption
    | exact Mask.sub hP (by decide)
    | with_reducible apply State.canShow_keeps
    | with_reducible apply State.canDeliver_keeps
    | with_reducible apply State.canGood_keeps)

/-- Changes at most: regs. -/
theorem State.canAck_keeps {P : Nat} {s₀ : State} (s : State) (c : ℕ)
    (hP : 16 &&& P = 16) (h : Keeps P s₀ s) :
    Keeps P s₀ (State.canAck s c) := by
  unfold State.canAck
  repeat' (first
    | with_reducible assumption
    | exact Mask.sub hP (by decide)
    | (extract_lets +onlyGivenNames x; refine Keeps.cut P s₀ x ?_ fun hx => ?_; (on_goal 2 => clear_value x); revert x; change Keeps _ _ _)
    | (extract_lets +onlyGivenNames x; clear_value x)
    | with_reducible apply State.set_keeps
    | split)

/-- Changes at most: now, regs, ticks. -/
theorem execCanRxAck_keeps {P : Nat} {s₀ : State} (t : Word) (c : Fin 4) (s : State)
    (hP : 4113 &&& P = 4113) (h : Keeps P s₀ s) :
    OutKeeps P s₀ (execCanRxAck t c s) := by
  unfold execCanRxAck
  repeat' (first
    | with_reducible assumption
    | exact Mask.sub hP (by decide)
    | (extract_lets +onlyGivenNames x; refine Keeps.cut P s₀ x ?_ fun hx => ?_; (on_goal 2 => clear_value x); revert x; change Keeps _ _ _)
    | (extract_lets +onlyGivenNames x; clear_value x)
    | with_reducible apply OutKeeps.next
    | with_reducible apply State.canAck_keeps
    | with_reducible apply State.wrej_keeps
    | with_reducible apply State.at_keeps
    | split)

/-- Changes at most: now, regs, reports, cans. -/
theorem execCanBusOff_keeps {P : Nat} {s₀ : State} (t : Word) (c : Fin 4) (s : State)
    (hP : 18014398509490193 &&& P = 18014398509490193) (h : Keeps P s₀ s) :
    OutKeeps P s₀ (execCanBusOff t c s) := by
  unfold execCanBusOff
  repeat' (first
    | with_reducible assumption
    | exact Mask.sub hP (by decide)
    | (extract_lets +onlyGivenNames x; refine Keeps.cut P s₀ x ?_ fun hx => ?_; (on_goal 2 => clear_value x); revert x; change Keeps _ _ _)
    | (extract_lets +onlyGivenNames x; clear_value x)
    | with_reducible apply OutKeeps.next
    | with_reducible apply State.setCan_keeps
    | with_reducible apply State.set_keeps
    | with_reducible apply State.report_keeps
    | with_reducible apply State.at_keeps
    | split)

/-- Changes at most: now, regs, reports, cans. -/
theorem execCanBusOn_keeps {P : Nat} {s₀ : State} (t : Word) (c : Fin 4) (s : State)
    (hP : 18014398509490193 &&& P = 18014398509490193) (h : Keeps P s₀ s) :
    OutKeeps P s₀ (execCanBusOn t c s) := by
  unfold execCanBusOn
  repeat' (first
    | with_reducible assumption
    | exact Mask.sub hP (by decide)
    | (extract_lets +onlyGivenNames x; refine Keeps.cut P s₀ x ?_ fun hx => ?_; (on_goal 2 => clear_value x); revert x; change Keeps _ _ _)
    | (extract_lets +onlyGivenNames x; clear_value x)
    | (extract_lets +onlyGivenNames x)
    | with_reducible apply OutKeeps.next
    | with_reducible apply State.setCan_keeps
    | with_reducible apply State.set_keeps
    | with_reducible apply State.report_keeps
    | with_reducible apply State.at_keeps
    | split)

/-- Changes at most: cans. -/
theorem State.canRecover_keeps {P : Nat} {s₀ : State} (s : State) (c : ℕ)
    (hP : 18014398509481984 &&& P = 18014398509481984) (h : Keeps P s₀ s) :
    Keeps P s₀ (State.canRecover s c) := by
  unfold State.canRecover
  repeat' (first
    | with_reducible assumption
    | exact Mask.sub hP (by decide)
    | (extract_lets +onlyGivenNames x; refine Keeps.cut P s₀ x ?_ fun hx => ?_; (on_goal 2 => clear_value x); revert x; change Keeps _ _ _)
    | (extract_lets +onlyGivenNames x; clear_value x)
    | (extract_lets +onlyGivenNames x)
    | with_reducible apply State.setCan_keeps
    | split)

/-- Changes at most: now, regs, ticks, cans. -/
theorem execCanBusoffReq_keeps {P : Nat} {s₀ : State} (t : Word) (c : Fin 4) (s : State)
    (hP : 18014398509486097 &&& P = 18014398509486097) (h : Keeps P s₀ s) :
    OutKeeps P s₀ (execCanBusoffReq t c s) := by
  unfold execCanBusoffReq
  repeat' (first
    | with_reducible assumption
    | exact Mask.sub hP (by decide)
    | (extract_lets +onlyGivenNames x; refine Keeps.cut P s₀ x ?_ fun hx => ?_; (on_goal 2 => clear_value x); revert x; change Keeps _ _ _)
    | (extract_lets +onlyGivenNames x; clear_value x)
    | with_reducible apply OutKeeps.next
    | with_reducible apply State.canRecover_keeps
    | with_reducible apply State.wrej_keeps
    | with_reducible apply State.at_keeps
    | split)

/-- Changes at most: regs, ticks, cans. -/
theorem State.canResult_keeps {P : Nat} {s₀ : State} (s : State) (j : ℕ) (ws : List Word)
    (hP : 18014398509486096 &&& P = 18014398509486096) (h : Keeps P s₀ s) :
    Keeps P s₀ (State.canResult s j ws) := by
  unfold State.canResult
  repeat' (first
    | with_reducible assumption
    | exact Mask.sub hP (by decide)
    | (extract_lets +onlyGivenNames x; refine Keeps.cut P s₀ x ?_ fun hx => ?_; (on_goal 2 => clear_value x); revert x; change Keeps _ _ _)
    | (extract_lets +onlyGivenNames x; clear_value x)
    | (extract_lets +onlyGivenNames x)
    | with_reducible apply State.setCan_keeps
    | with_reducible apply State.inc_keeps
    | with_reducible apply Keeps.foldl
    | split
    | (intro _ _ _))

/-- Changes at most: ports. -/
theorem State.setPort_keeps {P : Nat} {s₀ : State} (s : State) (p : ℕ) (k : EthPort)
    (hP : 72057594037927936 &&& P = 72057594037927936) (h : Keeps P s₀ s) :
    Keeps P s₀ (State.setPort s p k) := by
  unfold State.setPort
  repeat' (first
    | with_reducible assumption
    | exact Mask.sub hP (by decide)
    | (extract_lets +onlyGivenNames x; refine Keeps.cut P s₀ x ?_ fun hx => ?_; (on_goal 2 => clear_value x); revert x; change Keeps _ _ _)
    | (extract_lets +onlyGivenNames x; clear_value x)
    | with_reducible apply Keeps.upd_ports)

/-- Changes at most: now, fresh, regs, reports, ports. -/
theorem execPhyLinkPoll_keeps {P : Nat} {s₀ : State} (t : Word) (p : Fin 2) (up : Bool) (s : State)
    (hP : 72057594037936147 &&& P = 72057594037936147) (h : Keeps P s₀ s) :
    OutKeeps P s₀ (execPhyLinkPoll t p up s) := by
  unfold execPhyLinkPoll
  repeat' (first
    | with_reducible assumption
    | exact Mask.sub hP (by decide)
    | (extract_lets +onlyGivenNames x; refine Keeps.cut P s₀ x ?_ fun hx => ?_; (on_goal 2 => clear_value x); revert x; change Keeps _ _ _)
    | (extract_lets +onlyGivenNames x; refine Keeps.cutFst P s₀ x ?_ fun hx => ?_; (on_goal 2 => clear_value x); revert x; change Keeps _ _ _)
    | (extract_lets +onlyGivenNames x; refine Keeps.cutMid P s₀ x ?_ fun hx => ?_; (on_goal 2 => clear_value x); revert x; change Keeps _ _ _)
    | (extract_lets +onlyGivenNames x; refine Keeps.cutSnd P s₀ x ?_ fun hx => ?_; (on_goal 2 => clear_value x); revert x; change Keeps _ _ _)
    | (extract_lets +onlyGivenNames x; clear_value x)
    | (extract_lets +onlyGivenNames x)
    | with_reducible apply OutKeeps.next
    | with_reducible apply State.setPort_keeps
    | with_reducible apply State.flag_keeps
    | with_reducible apply State.report_keeps
    | with_reducible apply State.free_keeps
    | with_reducible apply State.at_keeps
    | split
    | refine Keeps.ofFst (by assumption) ?_
    | refine Keeps.ofSnd (by assumption) ?_
    | refine Keeps.ofMid (by assumption) ?_)

/-- Changes at most: fresh, regs, ticks, streams, ports. -/
theorem State.startDatagram_keeps {P : Nat} {s₀ : State} (s : State) (p : ℕ)
    (hP : 108086391056896018 &&& P = 108086391056896018) (h : Keeps P s₀ s) :
    Keeps P s₀ (State.startDatagram s p) := by
  unfold State.startDatagram
  repeat' (first
    | with_reducible assumption
    | exact Mask.sub hP (by decide)
    | (extract_lets +onlyGivenNames x; refine Keeps.cut P s₀ x ?_ fun hx => ?_; (on_goal 2 => clear_value x); revert x; change Keeps _ _ _)
    | (extract_lets +onlyGivenNames x; clear_value x)
    | with_reducible apply State.setStr_keeps
    | with_reducible apply State.setPort_keeps
    | with_reducible apply State.inc_keeps
    | with_reducible apply State.incMod_keeps
    | with_reducible apply State.traceRead_keeps
    | split)

/-- Changes at most: now, streams. -/
theorem execStreamFlush_keeps {P : Nat} {s₀ : State} (t : Word) (k : Fin 8) (s : State)
    (hP : 36028797018963969 &&& P = 36028797018963969) (h : Keeps P s₀ s) :
    OutKeeps P s₀ (execStreamFlush t k s) := by
  unfold execStreamFlush
  repeat' (first
    | with_reducible assumption
    | exact Mask.sub hP (by decide)
    | (extract_lets +onlyGivenNames x; refine Keeps.cut P s₀ x ?_ fun hx => ?_; (on_goal 2 => clear_value x); revert x; change Keeps _ _ _)
    | (extract_lets +onlyGivenNames x; clear_value x)
    | (extract_lets +onlyGivenNames x)
    | with_reducible apply OutKeeps.next
    | with_reducible apply State.setStr_keeps
    | with_reducible apply State.at_keeps
    | split)

/-- Changes at most: now, regs, ticks. -/
theorem execEthRxFrame_keeps {P : Nat} {s₀ : State} (t : Word) (p : Fin 2) (s : State)
    (hP : 4113 &&& P = 4113) (h : Keeps P s₀ s) :
    OutKeeps P s₀ (execEthRxFrame t p s) := by
  unfold execEthRxFrame
  repeat' (first
    | with_reducible assumption
    | exact Mask.sub hP (by decide)
    | (extract_lets +onlyGivenNames x; refine Keeps.cut P s₀ x ?_ fun hx => ?_; (on_goal 2 => clear_value x); revert x; change Keeps _ _ _)
    | (extract_lets +onlyGivenNames x; clear_value x)
    | with_reducible apply OutKeeps.next
    | with_reducible apply State.inc_keeps
    | with_reducible apply State.at_keeps
    | split)

/-- Changes at most: regs. -/
theorem State.slowAccept_keeps {P : Nat} {s₀ : State} (s : State) (n : ℕ) (kind : ℕ) (id : ℕ) (data : ℕ)
    (hP : 16 &&& P = 16) (h : Keeps P s₀ s) :
    Keeps P s₀ (State.slowAccept s n kind id data) := by
  unfold State.slowAccept
  repeat' (first
    | with_reducible assumption
    | exact Mask.sub hP (by decide)
    | (extract_lets +onlyGivenNames x; refine Keeps.cut P s₀ x ?_ fun hx => ?_; (on_goal 2 => clear_value x); revert x; change Keeps _ _ _)
    | (extract_lets +onlyGivenNames x; clear_value x)
    | with_reducible apply State.set_keeps
    | with_reducible apply State.incMod_keeps)

/-- Changes at most: sents. -/
theorem State.setSlow_keeps {P : Nat} {s₀ : State} (s : State) (n : ℕ) (l : List ℕ)
    (hP : 144115188075855872 &&& P = 144115188075855872) (h : Keeps P s₀ s) :
    Keeps P s₀ (State.setSlow s n l) := by
  unfold State.setSlow
  repeat' (first
    | with_reducible assumption
    | exact Mask.sub hP (by decide)
    | (extract_lets +onlyGivenNames x; refine Keeps.cut P s₀ x ?_ fun hx => ?_; (on_goal 2 => clear_value x); revert x; change Keeps _ _ _)
    | (extract_lets +onlyGivenNames x; clear_value x)
    | with_reducible apply Keeps.upd_sents)

/-- Changes at most: regs, ticks, sents. -/
theorem State.slowStep_keeps {P : Nat} {s₀ : State} (s : State) (n : ℕ) (st : ℕ)
    (hP : 144115188075859984 &&& P = 144115188075859984) (h : Keeps P s₀ s) :
    Keeps P s₀ (State.slowStep s n st) := by
  unfold State.slowStep
  repeat' (first
    | with_reducible assumption
    | exact Mask.sub hP (by decide)
    | (extract_lets +onlyGivenNames x; refine Keeps.cut P s₀ x ?_ fun hx => ?_; (on_goal 2 => clear_value x); revert x; change Keeps _ _ _)
    | (extract_lets +onlyGivenNames x; refine Keeps.cutOp P s₀ x ?_ fun hx => ?_; (on_goal 2 => clear_value x); revert x; change ∀ s, Keeps _ _ s → Keeps _ _ _; intro s hs)
    | (extract_lets +onlyGivenNames x; refine Keeps.cutFun P s₀ x ?_ fun hx => ?_; (on_goal 2 => clear_value x); revert x; change ∀ s x, Keeps _ _ s → Keeps _ _ _; intro s x hs)
    | (extract_lets +onlyGivenNames x; refine Keeps.cutFn P s₀ x ?_ fun hx => ?_; (on_goal 2 => clear_value x); revert x; change ∀ x, Keeps _ _ _; intro x)
    | (extract_lets +onlyGivenNames x; clear_value x)
    | (extract_lets +onlyGivenNames x)
    | with_reducible apply State.slowAccept_keeps
    | with_reducible apply State.setSlow_keeps
    | with_reducible apply State.inc_keeps
    | split
    | with_reducible apply_assumption)

/-- Changes at most: regs, ticks, sents. -/
theorem State.sentFail_keeps {P : Nat} {s₀ : State} (s : State) (n : ℕ) (f : Fld)
    (hP : 144115188075859984 &&& P = 144115188075859984) (h : Keeps P s₀ s) :
    Keeps P s₀ (State.sentFail s n f) := by
  unfold State.sentFail
  repeat' (first
    | with_reducible assumption
    | exact Mask.sub hP (by decide)
    | with_reducible apply State.setSlow_keeps
    | with_reducible apply State.inc_keeps)

/-- Changes at most: now, fresh, regs, ticks, reports, causes, banks, cmps, pins, rail, sents, saf. -/
theorem execSentFrame_keeps {P : Nat} {s₀ : State} (t : Word) (n : Fin 8) (fall : Word) (sync : ℕ) (pulses : List ℕ) (s : State)
    (hP : 9368067779955077139 &&& P = 9368067779955077139) (h : Keeps P s₀ s) :
    OutKeeps P s₀ (execSentFrame t n fall sync pulses s) := by
  unfold execSentFrame
  repeat' (first
    | with_reducible assumption
    | exact Mask.sub hP (by decide)
    | (extract_lets +onlyGivenNames x; refine Keeps.cut P s₀ x ?_ fun hx => ?_; (on_goal 2 => clear_value x); revert x; change Keeps _ _ _)
    | (extract_lets +onlyGivenNames x; refine Keeps.cutFst P s₀ x ?_ fun hx => ?_; (on_goal 2 => clear_value x); revert x; change Keeps _ _ _)
    | (extract_lets +onlyGivenNames x; refine Keeps.cutMid P s₀ x ?_ fun hx => ?_; (on_goal 2 => clear_value x); revert x; change Keeps _ _ _)
    | (extract_lets +onlyGivenNames x; refine Keeps.cutSnd P s₀ x ?_ fun hx => ?_; (on_goal 2 => clear_value x); revert x; change Keeps _ _ _)
    | (extract_lets +onlyGivenNames x; clear_value x)
    | (extract_lets +onlyGivenNames x)
    | with_reducible apply OutKeeps.next
    | with_reducible apply State.pinDeliver_keeps
    | with_reducible apply State.slowStep_keeps
    | with_reducible apply State.sentFail_keeps
    | with_reducible apply State.setReg_keeps
    | with_reducible apply State.set_keeps
    | with_reducible apply State.inc_keeps
    | with_reducible apply State.free_keeps
    | with_reducible apply State.at_keeps
    | split
    | refine Keeps.ofFst (by assumption) ?_
    | refine Keeps.ofSnd (by assumption) ?_
    | refine Keeps.ofMid (by assumption) ?_
    | with_reducible apply Keeps.upd_sents)

/-- Changes at most: now, regs, reports. -/
theorem execSentStale_keeps {P : Nat} {s₀ : State} (t : Word) (n : Fin 8) (s : State)
    (hP : 8209 &&& P = 8209) (h : Keeps P s₀ s) :
    OutKeeps P s₀ (execSentStale t n s) := by
  unfold execSentStale
  repeat' (first
    | with_reducible assumption
    | exact Mask.sub hP (by decide)
    | (extract_lets +onlyGivenNames x; refine Keeps.cut P s₀ x ?_ fun hx => ?_; (on_goal 2 => clear_value x); revert x; change Keeps _ _ _)
    | (extract_lets +onlyGivenNames x; clear_value x)
    | (extract_lets +onlyGivenNames x)
    | with_reducible apply OutKeeps.next
    | with_reducible apply State.set_keeps
    | with_reducible apply State.report_keeps
    | with_reducible apply State.at_keeps
    | split)

/-- Changes at most: work. -/
theorem State.setWorkByte_keeps {P : Nat} {s₀ : State} (s : State) (w : ℕ) (k : ℕ) (v : ℕ)
    (hP : 64 &&& P = 64) (h : Keeps P s₀ s) :
    Keeps P s₀ (State.setWorkByte s w k v) := by
  unfold State.setWorkByte
  repeat' (first
    | with_reducible assumption
    | exact Mask.sub hP (by decide)
    | (extract_lets +onlyGivenNames x; refine Keeps.cut P s₀ x ?_ fun hx => ?_; (on_goal 2 => clear_value x); revert x; change Keeps _ _ _)
    | (extract_lets +onlyGivenNames x; clear_value x)
    | with_reducible apply State.workSet_keeps)

/-- Changes at most: regs, learn. -/
theorem State.overwritten_keeps {P : Nat} {s₀ : State} (s : State) (w : ℕ) (n : ℕ)
    (hP : 8388624 &&& P = 8388624) (h : Keeps P s₀ s) :
    Keeps P s₀ (State.overwritten s w n) := by
  unfold State.overwritten
  repeat' (first
    | with_reducible assumption
    | exact Mask.sub hP (by decide)
    | (extract_lets +onlyGivenNames x; refine Keeps.cut P s₀ x ?_ fun hx => ?_; (on_goal 2 => clear_value x); revert x; change Keeps _ _ _)
    | (extract_lets +onlyGivenNames x; clear_value x)
    | with_reducible apply State.showSigValid_keeps
    | with_reducible apply Keeps.foldl
    | (intro _ _ _)
    | with_reducible apply Keeps.upd_learn)

/-- Changes at most: host. -/
theorem State.flashSend_keeps {P : Nat} {s₀ : State} (s : State) (l : List (ℕ × ℕ))
    (hP : 9007199254740992 &&& P = 9007199254740992) (h : Keeps P s₀ s) :
    Keeps P s₀ (State.flashSend s l) := by
  unfold State.flashSend
  repeat' (first
    | with_reducible assumption
    | exact Mask.sub hP (by decide)
    | (extract_lets +onlyGivenNames x; refine Keeps.cut P s₀ x ?_ fun hx => ?_; (on_goal 2 => clear_value x); revert x; change Keeps _ _ _)
    | (extract_lets +onlyGivenNames x; clear_value x)
    | with_reducible apply Keeps.upd_host)

/-- Changes at most: regs, work, flash, ticks, learn, host. -/
theorem State.flashCommand_keeps {P : Nat} {s₀ : State} (s : State) (cmd : ℕ) (a : ℕ) (len : ℕ)
    (hP : 9007199263135824 &&& P = 9007199263135824) (h : Keeps P s₀ s) :
    Keeps P s₀ (State.flashCommand s cmd a len) := by
  unfold State.flashCommand
  repeat' (first
    | with_reducible assumption
    | exact Mask.sub hP (by decide)
    | (extract_lets +onlyGivenNames x; refine Keeps.cut P s₀ x ?_ fun hx => ?_; (on_goal 2 => clear_value x); revert x; change Keeps _ _ _)
    | (extract_lets +onlyGivenNames x; clear_value x)
    | (extract_lets +onlyGivenNames x)
    | with_reducible apply State.setWorkByte_keeps
    | with_reducible apply State.overwritten_keeps
    | with_reducible apply State.flashSend_keeps
    | with_reducible apply State.set_keeps
    | with_reducible apply State.stick_keeps
    | with_reducible apply State.flashSet_keeps
    | exact Cells.wf_set _ _ _ _
    | exact Cells.wf_filter _ _ _
    | exact fun _ => rfl
    | with_reducible apply Keeps.foldl
    | split
    | (intro _ _ _)
    | with_reducible apply Keeps.upd_flash)

/-- Changes at most: regs, work, flash, ticks, learn, host. -/
theorem State.flashWrite_keeps {P : Nat} {s₀ : State} (s : State) (cmd : ℕ) (a : ℕ) (len : ℕ)
    (hP : 9007199263135824 &&& P = 9007199263135824) (h : Keeps P s₀ s) :
    Keeps P s₀ (State.flashWrite s cmd a len) := by
  unfold State.flashWrite
  repeat' (first
    | with_reducible assumption
    | exact Mask.sub hP (by decide)
    | with_reducible apply State.flashCommand_keeps
    | with_reducible apply State.wrej_keeps
    | split)

/-- Changes at most: now, regs, work, flash, ticks, learn, host. -/
theorem execFlashRead_keeps {P : Nat} {s₀ : State} (t : Word) (faddr : Fin 16777216) (len : Fin 256) (s : State)
    (hP : 9007199263135825 &&& P = 9007199263135825) (h : Keeps P s₀ s) :
    OutKeeps P s₀ (execFlashRead t faddr len s) := by
  unfold execFlashRead
  repeat' (first
    | with_reducible assumption
    | exact Mask.sub hP (by decide)
    | with_reducible apply OutKeeps.next
    | with_reducible apply State.flashWrite_keeps
    | with_reducible apply State.at_keeps)

/-- Changes at most: now, regs, work, flash, ticks, learn, host. -/
theorem execFlashProgram_keeps {P : Nat} {s₀ : State} (t : Word) (faddr : Fin 16777216) (len : Fin 256) (s : State)
    (hP : 9007199263135825 &&& P = 9007199263135825) (h : Keeps P s₀ s) :
    OutKeeps P s₀ (execFlashProgram t faddr len s) := by
  unfold execFlashProgram
  repeat' (first
    | with_reducible assumption
    | exact Mask.sub hP (by decide)
    | with_reducible apply OutKeeps.next
    | with_reducible apply State.flashWrite_keeps
    | with_reducible apply State.at_keeps)

/-- Changes at most: now, regs, work, flash, ticks, learn, host. -/
theorem execFlashErase_keeps {P : Nat} {s₀ : State} (t : Word) (faddr : Fin 16777216) (s : State)
    (hP : 9007199263135825 &&& P = 9007199263135825) (h : Keeps P s₀ s) :
    OutKeeps P s₀ (execFlashErase t faddr s) := by
  unfold execFlashErase
  repeat' (first
    | with_reducible assumption
    | exact Mask.sub hP (by decide)
    | with_reducible apply OutKeeps.next
    | with_reducible apply State.flashWrite_keeps
    | with_reducible apply State.at_keeps)

/-- Changes at most: now, regs, host. -/
theorem execFlashCmdDone_keeps {P : Nat} {s₀ : State} (t : Word) (s : State)
    (hP : 9007199254741009 &&& P = 9007199254741009) (h : Keeps P s₀ s) :
    OutKeeps P s₀ (execFlashCmdDone t s) := by
  unfold execFlashCmdDone
  repeat' (first
    | with_reducible assumption
    | exact Mask.sub hP (by decide)
    | (extract_lets +onlyGivenNames x; refine Keeps.cut P s₀ x ?_ fun hx => ?_; (on_goal 2 => clear_value x); revert x; change Keeps _ _ _)
    | (extract_lets +onlyGivenNames x; clear_value x)
    | with_reducible apply OutKeeps.next
    | with_reducible apply State.flashSend_keeps
    | with_reducible apply State.set_keeps
    | with_reducible apply State.at_keeps)

/-- Changes at most: host. -/
theorem State.jtagSelect_keeps {P : Nat} {s₀ : State} (s : State) (code : ℕ)
    (hP : 9007199254740992 &&& P = 9007199254740992) (h : Keeps P s₀ s) :
    Keeps P s₀ (State.jtagSelect s code) := by
  unfold State.jtagSelect
  repeat' (first
    | with_reducible assumption
    | exact Mask.sub hP (by decide)
    | (extract_lets +onlyGivenNames x; refine Keeps.cut P s₀ x ?_ fun hx => ?_; (on_goal 2 => clear_value x); revert x; change Keeps _ _ _)
    | (extract_lets +onlyGivenNames x; clear_value x)
    | with_reducible apply Keeps.upd_host)

/-- Changes at most: regs, ticks, host. -/
theorem State.jtagStopped_keeps {P : Nat} {s₀ : State} (s : State) (code : ℕ)
    (hP : 9007199254745104 &&& P = 9007199254745104) (h : Keeps P s₀ s) :
    Keeps P s₀ (State.jtagStopped s code) := by
  unfold State.jtagStopped
  repeat' (first
    | with_reducible assumption
    | exact Mask.sub hP (by decide)
    | with_reducible apply State.jtagSelect_keeps
    | with_reducible apply State.stick_keeps
    | split)

/-- Changes at most: now, regs, ticks, host. -/
theorem execJtagExtest_keeps {P : Nat} {s₀ : State} (t : Word) (s : State)
    (hP : 9007199254745105 &&& P = 9007199254745105) (h : Keeps P s₀ s) :
    OutKeeps P s₀ (execJtagExtest t s) := by
  unfold execJtagExtest
  repeat' (first
    | with_reducible assumption
    | exact Mask.sub hP (by decide)
    | with_reducible apply OutKeeps.next
    | with_reducible apply State.jtagStopped_keeps
    | with_reducible apply State.at_keeps)

/-- Changes at most: now, host. -/
theorem execJtagIdcode_keeps {P : Nat} {s₀ : State} (t : Word) (s : State)
    (hP : 9007199254740993 &&& P = 9007199254740993) (h : Keeps P s₀ s) :
    OutKeeps P s₀ (execJtagIdcode t s) := by
  unfold execJtagIdcode
  repeat' (first
    | with_reducible assumption
    | exact Mask.sub hP (by decide)
    | with_reducible apply OutKeeps.next
    | with_reducible apply State.jtagSelect_keeps
    | with_reducible apply State.at_keeps)

/-- Changes at most: now, host. -/
theorem execJtagSamplePreload_keeps {P : Nat} {s₀ : State} (t : Word) (s : State)
    (hP : 9007199254740993 &&& P = 9007199254740993) (h : Keeps P s₀ s) :
    OutKeeps P s₀ (execJtagSamplePreload t s) := by
  unfold execJtagSamplePreload
  repeat' (first
    | with_reducible assumption
    | exact Mask.sub hP (by decide)
    | with_reducible apply OutKeeps.next
    | with_reducible apply State.jtagSelect_keeps
    | with_reducible apply State.at_keeps)

/-- Changes at most: now, regs, ticks, host. -/
theorem execJtagHighz_keeps {P : Nat} {s₀ : State} (t : Word) (s : State)
    (hP : 9007199254745105 &&& P = 9007199254745105) (h : Keeps P s₀ s) :
    OutKeeps P s₀ (execJtagHighz t s) := by
  unfold execJtagHighz
  repeat' (first
    | with_reducible assumption
    | exact Mask.sub hP (by decide)
    | with_reducible apply OutKeeps.next
    | with_reducible apply State.jtagStopped_keeps
    | with_reducible apply State.at_keeps)

/-- Changes at most: now, regs, ticks, host. -/
theorem execJtagClamp_keeps {P : Nat} {s₀ : State} (t : Word) (s : State)
    (hP : 9007199254745105 &&& P = 9007199254745105) (h : Keeps P s₀ s) :
    OutKeeps P s₀ (execJtagClamp t s) := by
  unfold execJtagClamp
  repeat' (first
    | with_reducible assumption
    | exact Mask.sub hP (by decide)
    | with_reducible apply OutKeeps.next
    | with_reducible apply State.jtagStopped_keeps
    | with_reducible apply State.at_keeps)

/-- Changes at most: now, host. -/
theorem execJtagBypass_keeps {P : Nat} {s₀ : State} (t : Word) (s : State)
    (hP : 9007199254740993 &&& P = 9007199254740993) (h : Keeps P s₀ s) :
    OutKeeps P s₀ (execJtagBypass t s) := by
  unfold execJtagBypass
  repeat' (first
    | with_reducible assumption
    | exact Mask.sub hP (by decide)
    | with_reducible apply OutKeeps.next
    | with_reducible apply State.jtagSelect_keeps
    | with_reducible apply State.at_keeps)

/-- Changes at most: regs. -/
theorem State.linkClear_keeps {P : Nat} {s₀ : State} (s : State) (x1 : LnkBlock)
    (hP : 16 &&& P = 16) (h : Keeps P s₀ s) :
    Keeps P s₀ (State.linkClear s x1) := by
  unfold State.linkClear
  repeat' (first
    | with_reducible assumption
    | exact Mask.sub hP (by decide)
    | with_reducible apply State.clearCounts_keeps
    | split)

/-- Changes at most: now, regs, ticks. -/
theorem execLnkCntClr_keeps {P : Nat} {s₀ : State} (t : Word) (which : LnkBlock) (s : State)
    (hP : 4113 &&& P = 4113) (h : Keeps P s₀ s) :
    OutKeeps P s₀ (execLnkCntClr t which s) := by
  unfold execLnkCntClr
  repeat' (first
    | with_reducible assumption
    | exact Mask.sub hP (by decide)
    | (extract_lets +onlyGivenNames x; refine Keeps.cut P s₀ x ?_ fun hx => ?_; (on_goal 2 => clear_value x); revert x; change Keeps _ _ _)
    | (extract_lets +onlyGivenNames x; clear_value x)
    | with_reducible apply OutKeeps.next
    | with_reducible apply State.linkClear_keeps
    | with_reducible apply State.wrej_keeps
    | with_reducible apply State.at_keeps
    | split)

end Sys2Proof.Machine
end

