-- ==== Sys2Proof/Laws/KeepsProex.lean ====
section
/-!
SUPPORT. What each operation of Machine/Proex.lean may change (Laws/Keeps.lean).
-/
set_option linter.unusedTactic false
set_option linter.unreachableTactic false
namespace Sys2Proof.Machine

/-- Changes at most: pair. -/
theorem State.setPair_keeps {P : Nat} {s₀ : State} (s : State) (k : Pair)
    (hP : 67108864 &&& P = 67108864) (h : Keeps P s₀ s) :
    Keeps P s₀ (State.setPair s k) := by
  unfold State.setPair
  repeat' (first
    | with_reducible assumption
    | exact Mask.sub hP (by decide)
    | (extract_lets +onlyGivenNames x; refine Keeps.cut P s₀ x ?_ fun hx => ?_; (on_goal 2 => clear_value x); revert x; change Keeps _ _ _)
    | (extract_lets +onlyGivenNames x; clear_value x)
    | with_reducible apply Keeps.upd_pair)

/-- Changes at most: regs. -/
theorem State.pevShow_keeps {P : Nat} {s₀ : State} (s : State)
    (hP : 16 &&& P = 16) (h : Keeps P s₀ s) :
    Keeps P s₀ (State.pevShow s) := by
  unfold State.pevShow
  repeat' (first
    | with_reducible assumption
    | exact Mask.sub hP (by decide)
    | with_reducible apply State.set_keeps)

/-- Changes at most: regs, ticks, reports, pair. -/
theorem State.pairPush_keeps {P : Nat} {s₀ : State} (s : State) (e : PairEntry)
    (hP : 67121168 &&& P = 67121168) (h : Keeps P s₀ s) :
    Keeps P s₀ (State.pairPush s e) := by
  unfold State.pairPush
  repeat' (first
    | with_reducible assumption
    | exact Mask.sub hP (by decide)
    | (extract_lets +onlyGivenNames x; refine Keeps.cut P s₀ x ?_ fun hx => ?_; (on_goal 2 => clear_value x); revert x; change Keeps _ _ _)
    | (extract_lets +onlyGivenNames x; clear_value x)
    | (extract_lets +onlyGivenNames x)
    | with_reducible apply State.stick_keeps
    | with_reducible apply State.inc_keeps
    | with_reducible apply State.report_keeps
    | with_reducible apply State.setPair_keeps
    | with_reducible apply State.pevShow_keeps
    | split)

/-- Changes at most: regs, pair. -/
theorem State.pevConsume_keeps {P : Nat} {s₀ : State} (s : State)
    (hP : 67108880 &&& P = 67108880) (h : Keeps P s₀ s) :
    Keeps P s₀ (State.pevConsume s) := by
  unfold State.pevConsume
  repeat' (first
    | with_reducible assumption
    | exact Mask.sub hP (by decide)
    | (extract_lets +onlyGivenNames x; refine Keeps.cut P s₀ x ?_ fun hx => ?_; (on_goal 2 => clear_value x); revert x; change Keeps _ _ _)
    | (extract_lets +onlyGivenNames x; clear_value x)
    | with_reducible apply State.setPair_keeps
    | with_reducible apply State.pevShow_keeps
    | split)

/-- Changes at most: pair. -/
theorem State.moveKey_keeps {P : Nat} {s₀ : State} (s : State)
    (hP : 67108864 &&& P = 67108864) (h : Keeps P s₀ s) :
    Keeps P s₀ (State.moveKey s) := by
  unfold State.moveKey
  repeat' (first
    | with_reducible assumption
    | exact Mask.sub hP (by decide)
    | (extract_lets +onlyGivenNames x; refine Keeps.cut P s₀ x ?_ fun hx => ?_; (on_goal 2 => clear_value x); revert x; change Keeps _ _ _)
    | (extract_lets +onlyGivenNames x; clear_value x)
    | with_reducible apply State.setPair_keeps
    | split)

/-- Changes at most: regs, pair. -/
theorem State.chooseOfs_keeps {P : Nat} {s₀ : State} (s : State)
    (hP : 67108880 &&& P = 67108880) (h : Keeps P s₀ s) :
    Keeps P s₀ (State.chooseOfs s) := by
  unfold State.chooseOfs
  repeat' (first
    | with_reducible assumption
    | exact Mask.sub hP (by decide)
    | (extract_lets +onlyGivenNames x; refine Keeps.cut P s₀ x ?_ fun hx => ?_; (on_goal 2 => clear_value x); revert x; change Keeps _ _ _)
    | (extract_lets +onlyGivenNames x; clear_value x)
    | (extract_lets +onlyGivenNames x)
    | with_reducible apply State.set_keeps
    | with_reducible apply State.setPair_keeps
    | split)

/-- Changes at most: regs, ticks, reports, causes, warps, wefts, learn, shTok, bkTok, pair, acc, shuttles, pulseOuts, maps, svc, ovs, strand. -/
theorem State.borrowCheck_keeps {P : Nat} {s₀ : State} (s : State)
    (hP : 2307391124670590992 &&& P = 2307391124670590992) (h : Keeps P s₀ s) :
    Keeps P s₀ (State.borrowCheck s) := by
  unfold State.borrowCheck
  repeat' (first
    | with_reducible assumption
    | exact Mask.sub hP (by decide)
    | with_reducible apply State.sourceLost_keeps
    | split)

/-- Changes at most: regs, ticks, reports, causes, pair. -/
theorem State.divLink_keeps {P : Nat} {s₀ : State} (s : State)
    (hP : 67186704 &&& P = 67186704) (h : Keeps P s₀ s) :
    Keeps P s₀ (State.divLink s) := by
  unfold State.divLink
  repeat' (first
    | with_reducible assumption
    | exact Mask.sub hP (by decide)
    | with_reducible apply State.setDiv_keeps
    | with_reducible apply State.resolveHard_keeps
    | split)

/-- Changes at most: regs, reports. -/
theorem State.setCheck_keeps {P : Nat} {s₀ : State} (s : State) (code : ℕ)
    (hP : 8208 &&& P = 8208) (h : Keeps P s₀ s) :
    Keeps P s₀ (State.setCheck s code) := by
  unfold State.setCheck
  repeat' (first
    | with_reducible assumption
    | exact Mask.sub hP (by decide)
    | with_reducible apply State.set_keeps
    | with_reducible apply State.report_keeps
    | split)

/-- Changes at most: regs, ticks, reports, causes, warps, wefts, learn, shTok, bkTok, pair, acc, shuttles, pulseOuts, maps, svc, ovs, strand. -/
theorem State.setLink_keeps {P : Nat} {s₀ : State} (s : State) (new : ℕ)
    (hP : 2307391124670590992 &&& P = 2307391124670590992) (h : Keeps P s₀ s) :
    Keeps P s₀ (State.setLink s new) := by
  unfold State.setLink
  repeat' (first
    | with_reducible assumption
    | exact Mask.sub hP (by decide)
    | (extract_lets +onlyGivenNames x; refine Keeps.cut P s₀ x ?_ fun hx => ?_; (on_goal 2 => clear_value x); revert x; change Keeps _ _ _)
    | (extract_lets +onlyGivenNames x; clear_value x)
    | (extract_lets +onlyGivenNames x)
    | with_reducible apply State.set_keeps
    | with_reducible apply State.inc_keeps
    | with_reducible apply State.report_keeps
    | with_reducible apply State.cause_keeps
    | with_reducible apply State.setPair_keeps
    | with_reducible apply State.pevShow_keeps
    | with_reducible apply State.borrowCheck_keeps
    | with_reducible apply State.divLink_keeps
    | with_reducible apply State.setCheck_keeps
    | split)

/-- Changes at most: now, regs, ticks, reports, causes, warps, wefts, learn, shTok, bkTok, pair, acc, shuttles, pulseOuts, maps, svc, ovs, strand. -/
theorem execProexAlign_keeps {P : Nat} {s₀ : State} (t : Word) (s : State)
    (hP : 2307391124670590993 &&& P = 2307391124670590993) (h : Keeps P s₀ s) :
    OutKeeps P s₀ (execProexAlign t s) := by
  unfold execProexAlign
  repeat' (first
    | with_reducible assumption
    | exact Mask.sub hP (by decide)
    | (extract_lets +onlyGivenNames x; refine Keeps.cut P s₀ x ?_ fun hx => ?_; (on_goal 2 => clear_value x); revert x; change Keeps _ _ _)
    | (extract_lets +onlyGivenNames x; clear_value x)
    | (extract_lets +onlyGivenNames x)
    | with_reducible apply OutKeeps.next
    | with_reducible apply State.at_keeps
    | with_reducible apply State.setPair_keeps
    | with_reducible apply State.setLink_keeps
    | split)

/-- Changes at most: regs, ticks, reports, causes, warps, wefts, learn, shTok, bkTok, pair, acc, shuttles, pulseOuts, maps, svc, ovs, strand. -/
theorem State.beatLost_keeps {P : Nat} {s₀ : State} (s : State)
    (hP : 2307391124670590992 &&& P = 2307391124670590992) (h : Keeps P s₀ s) :
    Keeps P s₀ (State.beatLost s) := by
  unfold State.beatLost
  repeat' (first
    | with_reducible assumption
    | exact Mask.sub hP (by decide)
    | with_reducible apply State.setLink_keeps
    | split)

/-- Changes at most: now, regs, ticks, reports, causes, warps, wefts, learn, shTok, bkTok, pair, acc, shuttles, pulseOuts, maps, svc, ovs, strand. -/
theorem execBeatTimeout_keeps {P : Nat} {s₀ : State} (t : Word) (s : State)
    (hP : 2307391124670590993 &&& P = 2307391124670590993) (h : Keeps P s₀ s) :
    OutKeeps P s₀ (execBeatTimeout t s) := by
  unfold execBeatTimeout
  repeat' (first
    | with_reducible assumption
    | exact Mask.sub hP (by decide)
    | with_reducible apply OutKeeps.next
    | with_reducible apply State.at_keeps
    | with_reducible apply State.beatLost_keeps)

/-- Changes at most: now, regs, ticks, reports, causes, warps, wefts, learn, shTok, bkTok, pair, acc, shuttles, pulseOuts, maps, svc, ovs, strand. -/
theorem execMapTimeout_keeps {P : Nat} {s₀ : State} (t : Word) (s : State)
    (hP : 2307391124670590993 &&& P = 2307391124670590993) (h : Keeps P s₀ s) :
    OutKeeps P s₀ (execMapTimeout t s) := by
  unfold execMapTimeout
  repeat' (first
    | with_reducible assumption
    | exact Mask.sub hP (by decide)
    | (extract_lets +onlyGivenNames x; refine Keeps.cut P s₀ x ?_ fun hx => ?_; (on_goal 2 => clear_value x); revert x; change Keeps _ _ _)
    | (extract_lets +onlyGivenNames x; clear_value x)
    | (extract_lets +onlyGivenNames x)
    | with_reducible apply OutKeeps.next
    | with_reducible apply State.set_keeps
    | with_reducible apply State.at_keeps
    | with_reducible apply State.borrowCheck_keeps
    | split)

/-- Changes at most: now, regs, ticks, reports, causes, warps, wefts, learn, shTok, bkTok, pair, acc, shuttles, pulseOuts, maps, svc, ovs, strand. -/
theorem execMirrorToothTimeout_keeps {P : Nat} {s₀ : State} (t : Word) (s : State)
    (hP : 2307391124670590993 &&& P = 2307391124670590993) (h : Keeps P s₀ s) :
    OutKeeps P s₀ (execMirrorToothTimeout t s) := by
  unfold execMirrorToothTimeout
  repeat' (first
    | with_reducible assumption
    | exact Mask.sub hP (by decide)
    | with_reducible apply OutKeeps.next
    | with_reducible apply State.at_keeps
    | with_reducible apply State.borrowCheck_keeps)

/-- Changes at most: regs, ticks, pair. -/
theorem State.seqAccept_keeps {P : Nat} {s₀ : State} (s : State) (type : ℕ) (f : ℕ)
    (hP : 67112976 &&& P = 67112976) (h : Keeps P s₀ s) :
    Keeps P s₀ (State.seqAccept s type f).1 := by
  unfold State.seqAccept
  repeat' (first
    | with_reducible assumption
    | exact Mask.sub hP (by decide)
    | (extract_lets +onlyGivenNames x; refine Keeps.cut P s₀ x ?_ fun hx => ?_; (on_goal 2 => clear_value x); revert x; change Keeps _ _ _)
    | (extract_lets +onlyGivenNames x; clear_value x)
    | with_reducible apply State.inc_keeps
    | with_reducible apply State.setPair_keeps
    | split)

/-- Changes at most: now, regs, ticks. -/
theorem execProexFrameError_keeps {P : Nat} {s₀ : State} (t : Word) (header : Bool) (s : State)
    (hP : 4113 &&& P = 4113) (h : Keeps P s₀ s) :
    OutKeeps P s₀ (execProexFrameError t header s) := by
  unfold execProexFrameError
  repeat' (first
    | with_reducible assumption
    | exact Mask.sub hP (by decide)
    | (extract_lets +onlyGivenNames x; refine Keeps.cut P s₀ x ?_ fun hx => ?_; (on_goal 2 => clear_value x); revert x; change Keeps _ _ _)
    | (extract_lets +onlyGivenNames x; clear_value x)
    | with_reducible apply OutKeeps.next
    | with_reducible apply State.inc_keeps
    | with_reducible apply State.at_keeps
    | split)

/-- Changes at most: regs, ticks, pair. -/
theorem State.beatSample_keeps {P : Nat} {s₀ : State} (s : State) (p : List ℕ) (d : Word)
    (hP : 67112976 &&& P = 67112976) (h : Keeps P s₀ s) :
    Keeps P s₀ (State.beatSample s p d) := by
  unfold State.beatSample
  repeat' (first
    | with_reducible assumption
    | exact Mask.sub hP (by decide)
    | (extract_lets +onlyGivenNames x; refine Keeps.cut P s₀ x ?_ fun hx => ?_; (on_goal 2 => clear_value x); revert x; change Keeps _ _ _)
    | (extract_lets +onlyGivenNames x; clear_value x)
    | (extract_lets +onlyGivenNames x)
    | with_reducible apply State.set_keeps
    | with_reducible apply State.setI_keeps
    | with_reducible apply State.inc_keeps
    | with_reducible apply State.setPair_keeps
    | split)

/-- Changes at most: regs, pair. -/
theorem State.beatPart_keeps {P : Nat} {s₀ : State} (s : State) (p : List ℕ)
    (hP : 67108880 &&& P = 67108880) (h : Keeps P s₀ s) :
    Keeps P s₀ (State.beatPart s p) := by
  unfold State.beatPart
  repeat' (first
    | with_reducible assumption
    | exact Mask.sub hP (by decide)
    | (extract_lets +onlyGivenNames x; refine Keeps.cut P s₀ x ?_ fun hx => ?_; (on_goal 2 => clear_value x); revert x; change Keeps _ _ _)
    | (extract_lets +onlyGivenNames x; clear_value x)
    | with_reducible apply State.set_keeps
    | with_reducible apply State.setPair_keeps
    | split)

/-- Changes at most: regs, ticks, reports, causes, pair. -/
theorem State.beatDiv_keeps {P : Nat} {s₀ : State} (s : State)
    (hP : 67186704 &&& P = 67186704) (h : Keeps P s₀ s) :
    Keeps P s₀ (State.beatDiv s) := by
  unfold State.beatDiv
  repeat' (first
    | with_reducible assumption
    | exact Mask.sub hP (by decide)
    | (extract_lets +onlyGivenNames x; refine Keeps.cut P s₀ x ?_ fun hx => ?_; (on_goal 2 => clear_value x); revert x; change Keeps _ _ _)
    | (extract_lets +onlyGivenNames x; clear_value x)
    | (extract_lets +onlyGivenNames x)
    | with_reducible apply State.setDiv_keeps
    | with_reducible apply State.resolveHard_keeps
    | split)

/-- Changes at most: now, regs, ticks, reports, causes, warps, wefts, learn, shTok, bkTok, pair, acc, shuttles, pulseOuts, maps, svc, ovs, strand. -/
theorem execProexBeatFrame_keeps {P : Nat} {s₀ : State} (t : Word) (fseq : Fin 256) (p : List ℕ) (arrival : Word) (s : State)
    (hP : 2307391124670590993 &&& P = 2307391124670590993) (h : Keeps P s₀ s) :
    OutKeeps P s₀ (execProexBeatFrame t fseq p arrival s) := by
  unfold execProexBeatFrame
  repeat' (first
    | with_reducible assumption
    | exact Mask.sub hP (by decide)
    | (extract_lets +onlyGivenNames x; refine Keeps.cut P s₀ x ?_ fun hx => ?_; (on_goal 2 => clear_value x); revert x; change Keeps _ _ _)
    | (extract_lets +onlyGivenNames x; refine Keeps.cutFst P s₀ x ?_ fun hx => ?_; (on_goal 2 => clear_value x); revert x; change Keeps _ _ _)
    | (extract_lets +onlyGivenNames x; refine Keeps.cutMid P s₀ x ?_ fun hx => ?_; (on_goal 2 => clear_value x); revert x; change Keeps _ _ _)
    | (extract_lets +onlyGivenNames x; refine Keeps.cutSnd P s₀ x ?_ fun hx => ?_; (on_goal 2 => clear_value x); revert x; change Keeps _ _ _)
    | (extract_lets +onlyGivenNames x; clear_value x)
    | with_reducible apply OutKeeps.next
    | with_reducible apply State.at_keeps
    | with_reducible apply State.setPair_keeps
    | with_reducible apply State.pevShow_keeps
    | with_reducible apply State.borrowCheck_keeps
    | with_reducible apply State.divLink_keeps
    | with_reducible apply State.setCheck_keeps
    | with_reducible apply State.setLink_keeps
    | with_reducible apply State.seqAccept_keeps
    | with_reducible apply State.beatSample_keeps
    | with_reducible apply State.beatPart_keeps
    | with_reducible apply State.beatDiv_keeps
    | split
    | refine Keeps.ofFst (by assumption) ?_
    | refine Keeps.ofSnd (by assumption) ?_
    | refine Keeps.ofMid (by assumption) ?_)

/-- Changes at most: regs, ticks, wefts. -/
theorem State.borrowUpdate_keeps {P : Nat} {s₀ : State} (s : State) (u : Update)
    (hP : 4198416 &&& P = 4198416) (h : Keeps P s₀ s) :
    Keeps P s₀ (State.borrowUpdate s u) := by
  unfold State.borrowUpdate
  repeat' (first
    | with_reducible assumption
    | exact Mask.sub hP (by decide)
    | (extract_lets +onlyGivenNames x; refine Keeps.cut P s₀ x ?_ fun hx => ?_; (on_goal 2 => clear_value x); revert x; change Keeps _ _ _)
    | (extract_lets +onlyGivenNames x; clear_value x)
    | with_reducible apply State.setWf_keeps
    | with_reducible apply State.weftError_keeps
    | split)

/-- Changes at most: regs, ticks, reports, causes, warps, wefts, learn, shTok, bkTok, pair, acc, shuttles, pulseOuts, maps, svc, ovs, strand. -/
theorem State.compared_keeps {P : Nat} {s₀ : State} (s : State) (d : ℕ)
    (hP : 2307391124670590992 &&& P = 2307391124670590992) (h : Keeps P s₀ s) :
    Keeps P s₀ (State.compared s d) := by
  unfold State.compared
  repeat' (first
    | with_reducible assumption
    | exact Mask.sub hP (by decide)
    | (extract_lets +onlyGivenNames x; refine Keeps.cut P s₀ x ?_ fun hx => ?_; (on_goal 2 => clear_value x); revert x; change Keeps _ _ _)
    | (extract_lets +onlyGivenNames x; clear_value x)
    | (extract_lets +onlyGivenNames x)
    | with_reducible apply State.setDiv_keeps
    | with_reducible apply State.cause_keeps
    | with_reducible apply State.setWp_keeps
    | with_reducible apply State.setPair_keeps
    | with_reducible apply State.chooseOfs_keeps
    | with_reducible apply State.ownReturn_keeps
    | split)

/-- Changes at most: now, regs, ticks, reports, causes, warps, wefts, learn, shTok, bkTok, pair, acc, shuttles, pulseOuts, maps, svc, ovs, strand. -/
theorem execProexToothFrame_keeps {P : Nat} {s₀ : State} (t : Word) (fseq : Fin 256) (p : List ℕ) (s : State)
    (hP : 2307391124670590993 &&& P = 2307391124670590993) (h : Keeps P s₀ s) :
    OutKeeps P s₀ (execProexToothFrame t fseq p s) := by
  unfold execProexToothFrame
  repeat' (first
    | with_reducible assumption
    | exact Mask.sub hP (by decide)
    | (extract_lets +onlyGivenNames x; refine Keeps.cut P s₀ x ?_ fun hx => ?_; (on_goal 2 => clear_value x); revert x; change Keeps _ _ _)
    | (extract_lets +onlyGivenNames x; refine Keeps.cutFst P s₀ x ?_ fun hx => ?_; (on_goal 2 => clear_value x); revert x; change Keeps _ _ _)
    | (extract_lets +onlyGivenNames x; refine Keeps.cutMid P s₀ x ?_ fun hx => ?_; (on_goal 2 => clear_value x); revert x; change Keeps _ _ _)
    | (extract_lets +onlyGivenNames x; refine Keeps.cutSnd P s₀ x ?_ fun hx => ?_; (on_goal 2 => clear_value x); revert x; change Keeps _ _ _)
    | (extract_lets +onlyGivenNames x; clear_value x)
    | with_reducible apply OutKeeps.next
    | with_reducible apply State.setI_keeps
    | with_reducible apply State.maxTo_keeps
    | with_reducible apply State.at_keeps
    | with_reducible apply State.setPair_keeps
    | with_reducible apply State.beatLost_keeps
    | with_reducible apply State.seqAccept_keeps
    | with_reducible apply State.borrowUpdate_keeps
    | with_reducible apply State.compared_keeps
    | split
    | refine Keeps.ofFst (by assumption) ?_
    | refine Keeps.ofSnd (by assumption) ?_
    | refine Keeps.ofMid (by assumption) ?_)

/-- Changes at most: now, regs, ticks, reports, pair. -/
theorem execProexEventFrame_keeps {P : Nat} {s₀ : State} (t : Word) (fseq : Fin 256) (p : List ℕ) (s : State)
    (hP : 67121169 &&& P = 67121169) (h : Keeps P s₀ s) :
    OutKeeps P s₀ (execProexEventFrame t fseq p s) := by
  unfold execProexEventFrame
  repeat' (first
    | with_reducible assumption
    | exact Mask.sub hP (by decide)
    | (extract_lets +onlyGivenNames x; refine Keeps.cut P s₀ x ?_ fun hx => ?_; (on_goal 2 => clear_value x); revert x; change Keeps _ _ _)
    | (extract_lets +onlyGivenNames x; refine Keeps.cutFst P s₀ x ?_ fun hx => ?_; (on_goal 2 => clear_value x); revert x; change Keeps _ _ _)
    | (extract_lets +onlyGivenNames x; refine Keeps.cutMid P s₀ x ?_ fun hx => ?_; (on_goal 2 => clear_value x); revert x; change Keeps _ _ _)
    | (extract_lets +onlyGivenNames x; refine Keeps.cutSnd P s₀ x ?_ fun hx => ?_; (on_goal 2 => clear_value x); revert x; change Keeps _ _ _)
    | (extract_lets +onlyGivenNames x; clear_value x)
    | with_reducible apply OutKeeps.next
    | with_reducible apply State.at_keeps
    | with_reducible apply State.setPair_keeps
    | with_reducible apply State.pevShow_keeps
    | with_reducible apply State.pairPush_keeps
    | with_reducible apply State.seqAccept_keeps
    | split
    | refine Keeps.ofFst (by assumption) ?_
    | refine Keeps.ofSnd (by assumption) ?_
    | refine Keeps.ofMid (by assumption) ?_)

/-- Changes at most: regs, work, ticks, pair. -/
theorem State.recordFrame_keeps {P : Nat} {s₀ : State} (s : State) (f : ℕ) (p : List ℕ)
    (hP : 67113040 &&& P = 67113040) (h : Keeps P s₀ s) :
    Keeps P s₀ (State.recordFrame s f p) := by
  unfold State.recordFrame
  repeat' (first
    | with_reducible assumption
    | exact Mask.sub hP (by decide)
    | (extract_lets +onlyGivenNames x; refine Keeps.cut P s₀ x ?_ fun hx => ?_; (on_goal 2 => clear_value x); revert x; change Keeps _ _ _)
    | (extract_lets +onlyGivenNames x; refine Keeps.cutFst P s₀ x ?_ fun hx => ?_; (on_goal 2 => clear_value x); revert x; change Keeps _ _ _)
    | (extract_lets +onlyGivenNames x; refine Keeps.cutMid P s₀ x ?_ fun hx => ?_; (on_goal 2 => clear_value x); revert x; change Keeps _ _ _)
    | (extract_lets +onlyGivenNames x; refine Keeps.cutSnd P s₀ x ?_ fun hx => ?_; (on_goal 2 => clear_value x); revert x; change Keeps _ _ _)
    | (extract_lets +onlyGivenNames x; clear_value x)
    | (extract_lets +onlyGivenNames x)
    | with_reducible apply State.workWrite_keeps
    | with_reducible apply State.seqAccept_keeps
    | split
    | refine Keeps.ofFst (by assumption) ?_
    | refine Keeps.ofSnd (by assumption) ?_
    | refine Keeps.ofMid (by assumption) ?_)

/-- Changes at most: regs. -/
theorem State.seriesOk_keeps {P : Nat} {s₀ : State} (s : State) (id : ℕ) (ok : Bool)
    (hP : 16 &&& P = 16) (h : Keeps P s₀ s) :
    Keeps P s₀ (State.seriesOk s id ok) := by
  unfold State.seriesOk
  repeat' (first
    | with_reducible assumption
    | exact Mask.sub hP (by decide)
    | with_reducible apply State.flag_keeps
    | split)

/-- Changes at most: regs, reports. -/
theorem State.signatureDiff_keeps {P : Nat} {s₀ : State} (s : State)
    (hP : 8208 &&& P = 8208) (h : Keeps P s₀ s) :
    Keeps P s₀ (State.signatureDiff s) := by
  unfold State.signatureDiff
  repeat' (first
    | with_reducible assumption
    | exact Mask.sub hP (by decide)
    | (extract_lets +onlyGivenNames x; refine Keeps.cut P s₀ x ?_ fun hx => ?_; (on_goal 2 => clear_value x); revert x; change Keeps _ _ _)
    | (extract_lets +onlyGivenNames x; clear_value x)
    | (extract_lets +onlyGivenNames x)
    | with_reducible apply State.set_keeps
    | with_reducible apply State.report_keeps
    | with_reducible apply Keeps.foldl
    | split
    | (intro _ _ _))

/-- Changes at most: regs, work, ticks, reports, pair. -/
theorem State.blockFrame_keeps {P : Nat} {s₀ : State} (s : State) (f : ℕ) (p : List ℕ)
    (hP : 67121232 &&& P = 67121232) (h : Keeps P s₀ s) :
    Keeps P s₀ (State.blockFrame s f p) := by
  unfold State.blockFrame
  repeat' (first
    | with_reducible assumption
    | exact Mask.sub hP (by decide)
    | (extract_lets +onlyGivenNames x; refine Keeps.cut P s₀ x ?_ fun hx => ?_; (on_goal 2 => clear_value x); revert x; change Keeps _ _ _)
    | (extract_lets +onlyGivenNames x; refine Keeps.cutFst P s₀ x ?_ fun hx => ?_; (on_goal 2 => clear_value x); revert x; change Keeps _ _ _)
    | (extract_lets +onlyGivenNames x; refine Keeps.cutMid P s₀ x ?_ fun hx => ?_; (on_goal 2 => clear_value x); revert x; change Keeps _ _ _)
    | (extract_lets +onlyGivenNames x; refine Keeps.cutSnd P s₀ x ?_ fun hx => ?_; (on_goal 2 => clear_value x); revert x; change Keeps _ _ _)
    | (extract_lets +onlyGivenNames x; clear_value x)
    | (extract_lets +onlyGivenNames x)
    | with_reducible apply State.workSet_keeps
    | with_reducible apply State.setPair_keeps
    | with_reducible apply State.seqAccept_keeps
    | with_reducible apply State.seriesOk_keeps
    | with_reducible apply State.signatureDiff_keeps
    | with_reducible apply Keeps.foldl
    | split
    | (intro _ _ _)
    | refine Keeps.ofFst (by assumption) ?_
    | refine Keeps.ofSnd (by assumption) ?_
    | refine Keeps.ofMid (by assumption) ?_)

/-- Changes at most: regs, ticks, reports, pair. -/
theorem State.divClear_keeps {P : Nat} {s₀ : State} (s : State)
    (hP : 67121168 &&& P = 67121168) (h : Keeps P s₀ s) :
    Keeps P s₀ (State.divClear s) := by
  unfold State.divClear
  repeat' (first
    | with_reducible assumption
    | exact Mask.sub hP (by decide)
    | with_reducible apply State.setDiv_keeps
    | split)

/-- Changes at most: now, regs, ticks, reports, pair. -/
theorem execDivClr_keeps {P : Nat} {s₀ : State} (t : Word) (s : State)
    (hP : 67121169 &&& P = 67121169) (h : Keeps P s₀ s) :
    OutKeeps P s₀ (execDivClr t s) := by
  unfold execDivClr
  repeat' (first
    | with_reducible assumption
    | exact Mask.sub hP (by decide)
    | (extract_lets +onlyGivenNames x; refine Keeps.cut P s₀ x ?_ fun hx => ?_; (on_goal 2 => clear_value x); revert x; change Keeps _ _ _)
    | (extract_lets +onlyGivenNames x; clear_value x)
    | with_reducible apply OutKeeps.next
    | with_reducible apply State.wrej_keeps
    | with_reducible apply State.at_keeps
    | with_reducible apply State.divClear_keeps
    | split)

/-- Changes at most: pair. -/
theorem State.proexQueue_keeps {P : Nat} {s₀ : State} (s : State) (type : ℕ) (payload : List ℕ)
    (hP : 67108864 &&& P = 67108864) (h : Keeps P s₀ s) :
    Keeps P s₀ (State.proexQueue s type payload) := by
  unfold State.proexQueue
  repeat' (first
    | with_reducible assumption
    | exact Mask.sub hP (by decide)
    | (extract_lets +onlyGivenNames x; refine Keeps.cut P s₀ x ?_ fun hx => ?_; (on_goal 2 => clear_value x); revert x; change Keeps _ _ _)
    | (extract_lets +onlyGivenNames x; clear_value x)
    | with_reducible apply State.setPair_keeps
    | split)

/-- Changes at most: pair. -/
theorem State.proexTooth_keeps {P : Nat} {s₀ : State} (s : State) (u : Update)
    (hP : 67108864 &&& P = 67108864) (h : Keeps P s₀ s) :
    Keeps P s₀ (State.proexTooth s u) := by
  unfold State.proexTooth
  repeat' (first
    | with_reducible assumption
    | exact Mask.sub hP (by decide)
    | (extract_lets +onlyGivenNames x; refine Keeps.cut P s₀ x ?_ fun hx => ?_; (on_goal 2 => clear_value x); revert x; change Keeps _ _ _)
    | (extract_lets +onlyGivenNames x; refine Keeps.cutOp P s₀ x ?_ fun hx => ?_; (on_goal 2 => clear_value x); revert x; change ∀ s, Keeps _ _ s → Keeps _ _ _; intro s hs)
    | (extract_lets +onlyGivenNames x; refine Keeps.cutFun P s₀ x ?_ fun hx => ?_; (on_goal 2 => clear_value x); revert x; change ∀ s x, Keeps _ _ s → Keeps _ _ _; intro s x hs)
    | (extract_lets +onlyGivenNames x; refine Keeps.cutFn P s₀ x ?_ fun hx => ?_; (on_goal 2 => clear_value x); revert x; change ∀ x, Keeps _ _ _; intro x)
    | (extract_lets +onlyGivenNames x; clear_value x)
    | with_reducible apply State.setPair_keeps
    | split
    | with_reducible apply_assumption)

/-- Changes at most: now, pair. -/
theorem execBeatDue_keeps {P : Nat} {s₀ : State} (t : Word) (s : State)
    (hP : 67108865 &&& P = 67108865) (h : Keeps P s₀ s) :
    OutKeeps P s₀ (execBeatDue t s) := by
  unfold execBeatDue
  repeat' (first
    | with_reducible assumption
    | exact Mask.sub hP (by decide)
    | (extract_lets +onlyGivenNames x; refine Keeps.cut P s₀ x ?_ fun hx => ?_; (on_goal 2 => clear_value x); revert x; change Keeps _ _ _)
    | (extract_lets +onlyGivenNames x; clear_value x)
    | with_reducible apply OutKeeps.next
    | with_reducible apply State.at_keeps
    | with_reducible apply State.setPair_keeps
    | split)

/-- Changes at most: pair. -/
theorem State.countFrame_keeps {P : Nat} {s₀ : State} (s : State) (type : ℕ)
    (hP : 67108864 &&& P = 67108864) (h : Keeps P s₀ s) :
    Keeps P s₀ (State.countFrame s type) := by
  unfold State.countFrame
  repeat' (first
    | with_reducible assumption
    | exact Mask.sub hP (by decide)
    | (extract_lets +onlyGivenNames x; refine Keeps.cut P s₀ x ?_ fun hx => ?_; (on_goal 2 => clear_value x); revert x; change Keeps _ _ _)
    | (extract_lets +onlyGivenNames x; clear_value x)
    | with_reducible apply State.setPair_keeps)

/-- Changes at most: pair. -/
theorem State.startNormal_keeps {P : Nat} {s₀ : State} (s : State) (f : ProexFrame)
    (hP : 67108864 &&& P = 67108864) (h : Keeps P s₀ s) :
    Keeps P s₀ (State.startNormal s f) := by
  unfold State.startNormal
  repeat' (first
    | with_reducible assumption
    | exact Mask.sub hP (by decide)
    | (extract_lets +onlyGivenNames x; refine Keeps.cut P s₀ x ?_ fun hx => ?_; (on_goal 2 => clear_value x); revert x; change Keeps _ _ _)
    | (extract_lets +onlyGivenNames x; clear_value x)
    | with_reducible apply State.setPair_keeps
    | with_reducible apply State.countFrame_keeps)

/-- Changes at most: pair. -/
theorem State.startUrgent_keeps {P : Nat} {s₀ : State} (s : State) (f : ProexFrame)
    (hP : 67108864 &&& P = 67108864) (h : Keeps P s₀ s) :
    Keeps P s₀ (State.startUrgent s f) := by
  unfold State.startUrgent
  repeat' (first
    | with_reducible assumption
    | exact Mask.sub hP (by decide)
    | (extract_lets +onlyGivenNames x; refine Keeps.cut P s₀ x ?_ fun hx => ?_; (on_goal 2 => clear_value x); revert x; change Keeps _ _ _)
    | (extract_lets +onlyGivenNames x; clear_value x)
    | with_reducible apply State.setPair_keeps
    | with_reducible apply State.countFrame_keeps
    | split)

/-- Changes at most: pair. -/
theorem State.takeFrame_keeps {P : Nat} {s₀ : State} (s : State) (type : ℕ)
    (hP : 67108864 &&& P = 67108864) (h : Keeps P s₀ s) :
    OptKeeps₂ P s₀ (State.takeFrame s type) := by
  unfold State.takeFrame
  repeat' (first
    | with_reducible assumption
    | exact Mask.sub hP (by decide)
    | (extract_lets +onlyGivenNames x; refine Keeps.cut P s₀ x ?_ fun hx => ?_; (on_goal 2 => clear_value x); revert x; change Keeps _ _ _)
    | (extract_lets +onlyGivenNames x; clear_value x)
    | with_reducible apply OptKeeps.some
    | with_reducible exact OptKeeps.none
    | with_reducible apply OptKeeps₂.some
    | with_reducible exact OptKeeps₂.none
    | with_reducible apply State.setPair_keeps
    | split)

/-- Changes at most: now, pair. -/
theorem execProexFrameSend_keeps {P : Nat} {s₀ : State} (t : Word) (s : State)
    (hP : 67108865 &&& P = 67108865) (h : Keeps P s₀ s) :
    OutKeeps P s₀ (execProexFrameSend t s) := by
  unfold execProexFrameSend
  repeat' (first
    | with_reducible assumption
    | exact Mask.sub hP (by decide)
    | (extract_lets +onlyGivenNames x; refine Keeps.cut P s₀ x ?_ fun hx => ?_; (on_goal 2 => clear_value x); revert x; change Keeps _ _ _)
    | (extract_lets +onlyGivenNames x; clear_value x)
    | with_reducible apply OutKeeps.next
    | with_reducible apply State.at_keeps
    | with_reducible apply State.setPair_keeps
    | with_reducible apply State.startNormal_keeps
    | with_reducible apply State.startUrgent_keeps
    | with_reducible apply State.takeFrame_keeps
    | split
    | refine OptKeeps.of (by assumption) ?_
    | refine OptKeeps₂.of (by assumption) ?_)

/-- Changes at most: pair. -/
theorem State.queueSeries_keeps {P : Nat} {s₀ : State} (s : State) (id : ℕ)
    (hP : 67108864 &&& P = 67108864) (h : Keeps P s₀ s) :
    Keeps P s₀ (State.queueSeries s id) := by
  unfold State.queueSeries
  repeat' (first
    | with_reducible assumption
    | exact Mask.sub hP (by decide)
    | (extract_lets +onlyGivenNames x; refine Keeps.cut P s₀ x ?_ fun hx => ?_; (on_goal 2 => clear_value x); revert x; change Keeps _ _ _)
    | (extract_lets +onlyGivenNames x; clear_value x)
    | with_reducible apply State.proexQueue_keeps
    | with_reducible apply Keeps.foldl
    | (intro _ _ _))

/-- Changes at most: now, pair. -/
theorem execBlockSeriesDue_keeps {P : Nat} {s₀ : State} (t : Word) (id : Fin 4) (s : State)
    (hP : 67108865 &&& P = 67108865) (h : Keeps P s₀ s) :
    OutKeeps P s₀ (execBlockSeriesDue t id s) := by
  unfold execBlockSeriesDue
  repeat' (first
    | with_reducible assumption
    | exact Mask.sub hP (by decide)
    | (extract_lets +onlyGivenNames x; refine Keeps.cut P s₀ x ?_ fun hx => ?_; (on_goal 2 => clear_value x); revert x; change Keeps _ _ _)
    | (extract_lets +onlyGivenNames x; clear_value x)
    | (extract_lets +onlyGivenNames x)
    | with_reducible apply OutKeeps.next
    | with_reducible apply State.at_keeps
    | with_reducible apply State.setPair_keeps
    | with_reducible apply State.queueSeries_keeps
    | split)

/-- Changes at most: regs. -/
theorem State.prxClear_keeps {P : Nat} {s₀ : State} (s : State)
    (hP : 16 &&& P = 16) (h : Keeps P s₀ s) :
    Keeps P s₀ (State.prxClear s) := by
  unfold State.prxClear
  repeat' (first
    | with_reducible assumption
    | exact Mask.sub hP (by decide)
    | with_reducible apply State.clearCounts_keeps
    | with_reducible apply State.clearMax_keeps)

/-- Changes at most: now, regs, ticks. -/
theorem execPrxCntClr_keeps {P : Nat} {s₀ : State} (t : Word) (s : State)
    (hP : 4113 &&& P = 4113) (h : Keeps P s₀ s) :
    OutKeeps P s₀ (execPrxCntClr t s) := by
  unfold execPrxCntClr
  repeat' (first
    | with_reducible assumption
    | exact Mask.sub hP (by decide)
    | (extract_lets +onlyGivenNames x; refine Keeps.cut P s₀ x ?_ fun hx => ?_; (on_goal 2 => clear_value x); revert x; change Keeps _ _ _)
    | (extract_lets +onlyGivenNames x; clear_value x)
    | with_reducible apply OutKeeps.next
    | with_reducible apply State.wrej_keeps
    | with_reducible apply State.at_keeps
    | with_reducible apply State.prxClear_keeps
    | split)

end Sys2Proof.Machine
end

