-- ==== Sys2Proof/Laws/KeepsStrand.lean ====
section
/-!
SUPPORT. What each operation of Machine/Strand.lean may change (Laws/Keeps.lean).
-/
set_option linter.unusedTactic false
set_option linter.unreachableTactic false
namespace Sys2Proof.Machine

/-- Changes at most: recMem. -/
theorem State.recordWrite_keeps {P : Nat} {s₀ : State} (s : State) (j : RecJob) (n : ℕ)
    (hP : 128 &&& P = 128) (h : Keeps P s₀ s) :
    Keeps P s₀ (State.recordWrite s j n) := by
  unfold State.recordWrite
  repeat' (first
    | with_reducible assumption
    | exact Mask.sub hP (by decide)
    | with_reducible apply State.recSet_keeps
    | with_reducible apply Keeps.foldl
    | (intro _ _ _))

/-- Changes at most: strand. -/
theorem State.startRecord_keeps {P : Nat} {s₀ : State} (s : State) (t : Word)
    (hP : 2305843009213693952 &&& P = 2305843009213693952) (h : Keeps P s₀ s) :
    Keeps P s₀ (State.startRecord s t) := by
  unfold State.startRecord
  repeat' (first
    | with_reducible assumption
    | exact Mask.sub hP (by decide)
    | (extract_lets +onlyGivenNames x; refine Keeps.cut P s₀ x ?_ fun hx => ?_; (on_goal 2 => clear_value x); revert x; change Keeps _ _ _)
    | (extract_lets +onlyGivenNames x; clear_value x)
    | split
    | with_reducible apply Keeps.upd_strand)

/-- Changes at most: regs, strand. -/
theorem State.requestCommit_keeps {P : Nat} {s₀ : State} (s : State)
    (hP : 2305843009213693968 &&& P = 2305843009213693968) (h : Keeps P s₀ s) :
    Keeps P s₀ (State.requestCommit s) := by
  unfold State.requestCommit
  repeat' (first
    | with_reducible assumption
    | exact Mask.sub hP (by decide)
    | (extract_lets +onlyGivenNames x; refine Keeps.cut P s₀ x ?_ fun hx => ?_; (on_goal 2 => clear_value x); revert x; change Keeps _ _ _)
    | (extract_lets +onlyGivenNames x; clear_value x)
    | with_reducible apply State.set_keeps
    | split
    | with_reducible apply Keeps.upd_strand)

/-- Changes at most: regs, strand. -/
theorem State.ebbCommit_keeps {P : Nat} {s₀ : State} (s : State)
    (hP : 2305843009213693968 &&& P = 2305843009213693968) (h : Keeps P s₀ s) :
    Keeps P s₀ (State.ebbCommit s) := by
  unfold State.ebbCommit
  repeat' (first
    | with_reducible assumption
    | exact Mask.sub hP (by decide)
    | with_reducible apply State.requestCommit_keeps
    | split)

/-- Changes at most: regs, strand. -/
theorem State.commitCommand_keeps {P : Nat} {s₀ : State} (s : State) (cmd : ℕ)
    (hP : 2305843009213693968 &&& P = 2305843009213693968) (h : Keeps P s₀ s) :
    Keeps P s₀ (State.commitCommand s cmd) := by
  unfold State.commitCommand
  repeat' (first
    | with_reducible assumption
    | exact Mask.sub hP (by decide)
    | with_reducible apply State.requestCommit_keeps
    | split)

/-- Changes at most: now, regs, ticks, strand. -/
theorem execStrandlineCommit_keeps {P : Nat} {s₀ : State} (t : Word) (s : State)
    (hP : 2305843009213698065 &&& P = 2305843009213698065) (h : Keeps P s₀ s) :
    OutKeeps P s₀ (execStrandlineCommit t s) := by
  unfold execStrandlineCommit
  repeat' (first
    | with_reducible assumption
    | exact Mask.sub hP (by decide)
    | (extract_lets +onlyGivenNames x; refine Keeps.cut P s₀ x ?_ fun hx => ?_; (on_goal 2 => clear_value x); revert x; change Keeps _ _ _)
    | (extract_lets +onlyGivenNames x; clear_value x)
    | with_reducible apply OutKeeps.next
    | with_reducible apply State.wrej_keeps
    | with_reducible apply State.at_keeps
    | with_reducible apply State.commitCommand_keeps
    | split)

/-- Changes at most: regs, ticks, strand. -/
theorem State.recTriggers_keeps {P : Nat} {s₀ : State} (s : State) (src : ℕ) (code : ℕ)
    (hP : 2305843009213698064 &&& P = 2305843009213698064) (h : Keeps P s₀ s) :
    Keeps P s₀ (State.recTriggers s src code) := by
  unfold State.recTriggers
  repeat' (first
    | with_reducible assumption
    | exact Mask.sub hP (by decide)
    | (extract_lets +onlyGivenNames x; refine Keeps.cut P s₀ x ?_ fun hx => ?_; (on_goal 2 => clear_value x); revert x; change Keeps _ _ _)
    | (extract_lets +onlyGivenNames x; clear_value x)
    | (extract_lets +onlyGivenNames x)
    | with_reducible apply State.inc_keeps
    | with_reducible apply State.requestCommit_keeps
    | with_reducible apply Keeps.foldl
    | split
    | (intro _ _ _)
    | with_reducible apply Keeps.upd_strand)

/-- Changes at most: strand. -/
theorem State.countRunning_keeps {P : Nat} {s₀ : State} (s : State)
    (hP : 2305843009213693952 &&& P = 2305843009213693952) (h : Keeps P s₀ s) :
    Keeps P s₀ (State.countRunning s) := by
  unfold State.countRunning
  repeat' (first
    | with_reducible assumption
    | exact Mask.sub hP (by decide)
    | (extract_lets +onlyGivenNames x; refine Keeps.cut P s₀ x ?_ fun hx => ?_; (on_goal 2 => clear_value x); revert x; change Keeps _ _ _)
    | (extract_lets +onlyGivenNames x; clear_value x)
    | split
    | with_reducible apply Keeps.upd_strand)

/-- Changes at most: now, regs, strand. -/
theorem execCommitTimer_keeps {P : Nat} {s₀ : State} (t : Word) (s : State)
    (hP : 2305843009213693969 &&& P = 2305843009213693969) (h : Keeps P s₀ s) :
    OutKeeps P s₀ (execCommitTimer t s) := by
  unfold execCommitTimer
  repeat' (first
    | with_reducible assumption
    | exact Mask.sub hP (by decide)
    | (extract_lets +onlyGivenNames x; refine Keeps.cut P s₀ x ?_ fun hx => ?_; (on_goal 2 => clear_value x); revert x; change Keeps _ _ _)
    | (extract_lets +onlyGivenNames x; clear_value x)
    | (extract_lets +onlyGivenNames x)
    | with_reducible apply OutKeeps.next
    | with_reducible apply State.at_keeps
    | with_reducible apply State.requestCommit_keeps
    | with_reducible apply State.countRunning_keeps
    | split
    | with_reducible apply Keeps.upd_strand)

/-- Changes at most: now, regs, recJobs, acc, strand. -/
theorem execFullCommit_keeps {P : Nat} {s₀ : State} (t : Word) (s : State)
    (hP : 2305843009616347153 &&& P = 2305843009616347153) (h : Keeps P s₀ s) :
    OutKeeps P s₀ (execFullCommit t s) := by
  unfold execFullCommit
  repeat' (first
    | with_reducible assumption
    | exact Mask.sub hP (by decide)
    | (extract_lets +onlyGivenNames x; refine Keeps.cut P s₀ x ?_ fun hx => ?_; (on_goal 2 => clear_value x); revert x; change Keeps _ _ _)
    | (extract_lets +onlyGivenNames x; clear_value x)
    | (extract_lets +onlyGivenNames x)
    | with_reducible apply OutKeeps.next
    | with_reducible apply State.set_keeps
    | with_reducible apply State.counter_keeps
    | with_reducible apply State.at_keeps
    | with_reducible apply State.startRecord_keeps
    | split
    | with_reducible apply Keeps.upd_recJobs
    | with_reducible apply Keeps.upd_strand
    | (apply Keeps.many; (case h => assumption); (case hq => rfl); (case hf => exact Nat.le_refl _); (case hc => exact fun hc => hc); (case hm => exact fun h => h); (case hp => (intro p; cases p <;> first | exact Or.inr rfl | exact Or.inl (Mask.mem hP (by decide))))))

/-- Changes at most: regs, reports, pair. -/
theorem State.commitEnd_keeps {P : Nat} {s₀ : State} (s : State)
    (hP : 67117072 &&& P = 67117072) (h : Keeps P s₀ s) :
    Keeps P s₀ (State.commitEnd s) := by
  unfold State.commitEnd
  repeat' (first
    | with_reducible assumption
    | exact Mask.sub hP (by decide)
    | (extract_lets +onlyGivenNames x; refine Keeps.cut P s₀ x ?_ fun hx => ?_; (on_goal 2 => clear_value x); revert x; change Keeps _ _ _)
    | (extract_lets +onlyGivenNames x; clear_value x)
    | with_reducible apply State.set_keeps
    | with_reducible apply State.incMod_keeps
    | with_reducible apply State.report_keeps
    | with_reducible apply Keeps.upd_pair)

/-- Changes at most: now, regs, recMem, reports, pair, strand. -/
theorem execRecordWriteDone_keeps {P : Nat} {s₀ : State} (t : Word) (s : State)
    (hP : 2305843009280811153 &&& P = 2305843009280811153) (h : Keeps P s₀ s) :
    OutKeeps P s₀ (execRecordWriteDone t s) := by
  unfold execRecordWriteDone
  repeat' (first
    | with_reducible assumption
    | exact Mask.sub hP (by decide)
    | (extract_lets +onlyGivenNames x; refine Keeps.cut P s₀ x ?_ fun hx => ?_; (on_goal 2 => clear_value x); revert x; change Keeps _ _ _)
    | (extract_lets +onlyGivenNames x; clear_value x)
    | with_reducible apply OutKeeps.next
    | with_reducible apply State.set_keeps
    | with_reducible apply State.incMod_keeps
    | with_reducible apply State.at_keeps
    | with_reducible apply State.recordWrite_keeps
    | with_reducible apply State.startRecord_keeps
    | with_reducible apply State.commitEnd_keeps
    | split
    | with_reducible apply Keeps.upd_pair
    | with_reducible apply Keeps.upd_strand
    | (apply Keeps.many; (case h => assumption); (case hq => rfl); (case hf => exact Nat.le_refl _); (case hc => exact fun hc => hc); (case hm => exact fun h => h); (case hp => (intro p; cases p <;> first | exact Or.inr rfl | exact Or.inl (Mask.mem hP (by decide))))))

/-- Changes at most: recMem. -/
theorem State.tornCommit_keeps {P : Nat} {s₀ : State} (s : State)
    (hP : 128 &&& P = 128) (h : Keeps P s₀ s) :
    Keeps P s₀ (State.tornCommit s) := by
  unfold State.tornCommit
  repeat' (first
    | with_reducible assumption
    | exact Mask.sub hP (by decide)
    | (extract_lets +onlyGivenNames x; refine Keeps.cut P s₀ x ?_ fun hx => ?_; (on_goal 2 => clear_value x); revert x; change Keeps _ _ _)
    | (extract_lets +onlyGivenNames x; clear_value x)
    | with_reducible apply State.recordWrite_keeps
    | split)

/-- Changes at most: now, acc, strand. -/
theorem execCoilTempBin_keeps {P : Nat} {s₀ : State} (t : Word) (s : State)
    (hP : 2305843009482129409 &&& P = 2305843009482129409) (h : Keeps P s₀ s) :
    OutKeeps P s₀ (execCoilTempBin t s) := by
  unfold execCoilTempBin
  repeat' (first
    | with_reducible assumption
    | exact Mask.sub hP (by decide)
    | (extract_lets +onlyGivenNames x; refine Keeps.cut P s₀ x ?_ fun hx => ?_; (on_goal 2 => clear_value x); revert x; change Keeps _ _ _)
    | (extract_lets +onlyGivenNames x; clear_value x)
    | (extract_lets +onlyGivenNames x)
    | with_reducible apply OutKeeps.next
    | with_reducible apply State.accInc_keeps
    | with_reducible apply State.at_keeps
    | with_reducible apply Keeps.foldl
    | split
    | (intro _ _ _)
    | with_reducible apply Keeps.upd_strand)

/-- Changes at most: now, acc, strand. -/
theorem execBoostBin_keeps {P : Nat} {s₀ : State} (t : Word) (s : State)
    (hP : 2305843009482129409 &&& P = 2305843009482129409) (h : Keeps P s₀ s) :
    OutKeeps P s₀ (execBoostBin t s) := by
  unfold execBoostBin
  repeat' (first
    | with_reducible assumption
    | exact Mask.sub hP (by decide)
    | (extract_lets +onlyGivenNames x; refine Keeps.cut P s₀ x ?_ fun hx => ?_; (on_goal 2 => clear_value x); revert x; change Keeps _ _ _)
    | (extract_lets +onlyGivenNames x; clear_value x)
    | (extract_lets +onlyGivenNames x)
    | with_reducible apply OutKeeps.next
    | with_reducible apply State.accInc_keeps
    | with_reducible apply State.at_keeps
    | with_reducible apply Keeps.foldl
    | split
    | (intro _ _ _)
    | with_reducible apply Keeps.upd_strand)

/-- Changes at most: now, acc, strand. -/
theorem execRunSeconds_keeps {P : Nat} {s₀ : State} (t : Word) (s : State)
    (hP : 2305843009482129409 &&& P = 2305843009482129409) (h : Keeps P s₀ s) :
    OutKeeps P s₀ (execRunSeconds t s) := by
  unfold execRunSeconds
  repeat' (first
    | with_reducible assumption
    | exact Mask.sub hP (by decide)
    | (extract_lets +onlyGivenNames x; refine Keeps.cut P s₀ x ?_ fun hx => ?_; (on_goal 2 => clear_value x); revert x; change Keeps _ _ _)
    | (extract_lets +onlyGivenNames x; clear_value x)
    | with_reducible apply OutKeeps.next
    | with_reducible apply State.countSeconds_keeps
    | with_reducible apply State.counter_keeps
    | with_reducible apply State.at_keeps
    | split
    | with_reducible apply Keeps.upd_strand)

/-- Changes at most: acc. -/
theorem State.loadCopy_keeps {P : Nat} {s₀ : State} (s : State) (f : Found)
    (hP : 268435456 &&& P = 268435456) (h : Keeps P s₀ s) :
    Keeps P s₀ (State.loadCopy s f) := by
  unfold State.loadCopy
  repeat' (first
    | with_reducible assumption
    | exact Mask.sub hP (by decide)
    | with_reducible apply State.accSet_keeps
    | with_reducible apply Keeps.foldl
    | (intro _ _ _))

/-- Changes at most: regs, acc, strand. -/
theorem State.recovery_keeps {P : Nat} {s₀ : State} (s : State)
    (hP : 2305843009482129424 &&& P = 2305843009482129424) (h : Keeps P s₀ s) :
    Keeps P s₀ (State.recovery s) := by
  unfold State.recovery
  repeat' (first
    | with_reducible assumption
    | exact Mask.sub hP (by decide)
    | (extract_lets +onlyGivenNames x; refine Keeps.cut P s₀ x ?_ fun hx => ?_; (on_goal 2 => clear_value x); revert x; change Keeps _ _ _)
    | (extract_lets +onlyGivenNames x; clear_value x)
    | with_reducible apply State.set_keeps
    | with_reducible apply State.loadCopy_keeps
    | exact Cells.wf_set _ _ _ _
    | exact Cells.wf_filter _ _ _
    | exact fun _ => rfl
    | with_reducible apply Keeps.foldl
    | split
    | (intro _ _ _)
    | with_reducible apply Keeps.upd_acc
    | with_reducible apply Keeps.upd_strand
    | (apply Keeps.many; (case h => assumption); (case hq => rfl); (case hf => exact Nat.le_refl _); (case hc => exact fun hc => hc); (case hm => exact fun h => h); (case hp => (intro p; cases p <;> first | exact Or.inr rfl | exact Or.inl (Mask.mem hP (by decide))))))

/-- Changes at most: acc. -/
theorem State.joinHeld_keeps {P : Nat} {s₀ : State} (s : State) (held : State)
    (hP : 268435456 &&& P = 268435456) (h : Keeps P s₀ s) :
    Keeps P s₀ (State.joinHeld s held) := by
  unfold State.joinHeld
  repeat' (first
    | with_reducible assumption
    | exact Mask.sub hP (by decide)
    | (extract_lets +onlyGivenNames x; refine Keeps.cut P s₀ x ?_ fun hx => ?_; (on_goal 2 => clear_value x); revert x; change Keeps _ _ _)
    | (extract_lets +onlyGivenNames x; clear_value x)
    | (extract_lets +onlyGivenNames x)
    | with_reducible apply State.accAdd_keeps
    | with_reducible apply State.halfAdd_keeps
    | with_reducible apply State.extreme_keeps
    | with_reducible apply Keeps.foldl
    | split
    | (intro _ _ _))

/-- Changes at most: now, regs, acc, strand. -/
theorem execStrandlineReady_keeps {P : Nat} {s₀ : State} (t : Word) (s : State)
    (hP : 2305843009482129425 &&& P = 2305843009482129425) (h : Keeps P s₀ s) :
    OutKeeps P s₀ (execStrandlineReady t s) := by
  unfold execStrandlineReady
  repeat' (first
    | with_reducible assumption
    | exact Mask.sub hP (by decide)
    | (extract_lets +onlyGivenNames x; refine Keeps.cut P s₀ x ?_ fun hx => ?_; (on_goal 2 => clear_value x); revert x; change Keeps _ _ _)
    | (extract_lets +onlyGivenNames x; clear_value x)
    | (extract_lets +onlyGivenNames x)
    | with_reducible apply OutKeeps.next
    | with_reducible apply State.set_keeps
    | with_reducible apply State.accAdd_keeps
    | with_reducible apply State.at_keeps
    | with_reducible apply State.recovery_keeps
    | with_reducible apply State.joinHeld_keeps
    | split
    | with_reducible apply Keeps.upd_strand)

/-- Changes at most: regs. -/
theorem State.recClear_keeps {P : Nat} {s₀ : State} (s : State)
    (hP : 16 &&& P = 16) (h : Keeps P s₀ s) :
    Keeps P s₀ (State.recClear s) := by
  unfold State.recClear
  repeat' (first
    | with_reducible assumption
    | exact Mask.sub hP (by decide)
    | with_reducible apply State.clearCounts_keeps)

/-- Changes at most: now, regs, ticks. -/
theorem execRecCntClr_keeps {P : Nat} {s₀ : State} (t : Word) (s : State)
    (hP : 4113 &&& P = 4113) (h : Keeps P s₀ s) :
    OutKeeps P s₀ (execRecCntClr t s) := by
  unfold execRecCntClr
  repeat' (first
    | with_reducible assumption
    | exact Mask.sub hP (by decide)
    | (extract_lets +onlyGivenNames x; refine Keeps.cut P s₀ x ?_ fun hx => ?_; (on_goal 2 => clear_value x); revert x; change Keeps _ _ _)
    | (extract_lets +onlyGivenNames x; clear_value x)
    | with_reducible apply OutKeeps.next
    | with_reducible apply State.wrej_keeps
    | with_reducible apply State.at_keeps
    | with_reducible apply State.recClear_keeps
    | split)

end Sys2Proof.Machine
end

