-- ==== Sys2Proof/Laws/KeepsLoom.lean ====
section
/-!
SUPPORT. What each operation of Machine/Loom.lean may change (Laws/Keeps.lean).
-/
set_option linter.unusedTactic false
set_option linter.unreachableTactic false
namespace Sys2Proof.Machine

/-- Changes at most: work. -/
theorem State.sigLoad_keeps {P : Nat} {s₀ : State} (s : State) (n : ℕ) (f : Found)
    (hP : 64 &&& P = 64) (h : Keeps P s₀ s) :
    Keeps P s₀ (State.sigLoad s n f) := by
  unfold State.sigLoad
  repeat' (first
    | with_reducible assumption
    | exact Mask.sub hP (by decide)
    | with_reducible apply State.workSet_keeps
    | with_reducible apply Keeps.foldl
    | split
    | (intro _ _ _))

/-- Changes at most: regs, work, recMem, warps, learn. -/
theorem State.restoreSignature_keeps {P : Nat} {s₀ : State} (s : State) (n : ℕ)
    (hP : 10485968 &&& P = 10485968) (h : Keeps P s₀ s) :
    Keeps P s₀ (State.restoreSignature s n) := by
  unfold State.restoreSignature
  repeat' (first
    | with_reducible assumption
    | exact Mask.sub hP (by decide)
    | (extract_lets +onlyGivenNames x; refine Keeps.cut P s₀ x ?_ fun hx => ?_; (on_goal 2 => clear_value x); revert x; change Keeps _ _ _)
    | (extract_lets +onlyGivenNames x; clear_value x)
    | with_reducible apply State.sigLoad_keeps
    | with_reducible apply State.set_keeps
    | with_reducible apply State.setWp_keeps
    | with_reducible apply State.tornCommit_keeps
    | split
    | with_reducible apply Keeps.upd_learn)

/-- Changes at most: regs, work, recMem, warps, learn, pair. -/
theorem State.restoreSignatures_keeps {P : Nat} {s₀ : State} (s : State)
    (hP : 77594832 &&& P = 77594832) (h : Keeps P s₀ s) :
    Keeps P s₀ (State.restoreSignatures s) := by
  unfold State.restoreSignatures
  repeat' (first
    | with_reducible assumption
    | exact Mask.sub hP (by decide)
    | (extract_lets +onlyGivenNames x; refine Keeps.cut P s₀ x ?_ fun hx => ?_; (on_goal 2 => clear_value x); revert x; change Keeps _ _ _)
    | (extract_lets +onlyGivenNames x; clear_value x)
    | with_reducible apply State.restoreSignature_keeps
    | with_reducible apply State.showSigValid_keeps
    | with_reducible apply Keeps.foldl
    | split
    | (intro _ _ _)
    | with_reducible apply Keeps.upd_pair)

/-- Changes at most: work. -/
theorem State.restoreDrift_keeps {P : Nat} {s₀ : State} (s : State) (q : ℕ) (k : ℕ)
    (hP : 64 &&& P = 64) (h : Keeps P s₀ s) :
    Keeps P s₀ (State.restoreDrift s q k) := by
  unfold State.restoreDrift
  repeat' (first
    | with_reducible assumption
    | exact Mask.sub hP (by decide)
    | (extract_lets +onlyGivenNames x; refine Keeps.cut P s₀ x ?_ fun hx => ?_; (on_goal 2 => clear_value x); revert x; change Keeps _ _ _)
    | (extract_lets +onlyGivenNames x; clear_value x)
    | with_reducible apply State.setCyl_keeps
    | split)

/-- Changes at most: regs, warps. -/
theorem State.blankWarp_keeps {P : Nat} {s₀ : State} (s : State) (n : ℕ)
    (hP : 2097168 &&& P = 2097168) (h : Keeps P s₀ s) :
    Keeps P s₀ (State.blankWarp s n) := by
  unfold State.blankWarp
  repeat' (first
    | with_reducible assumption
    | exact Mask.sub hP (by decide)
    | (extract_lets +onlyGivenNames x; refine Keeps.cut P s₀ x ?_ fun hx => ?_; (on_goal 2 => clear_value x); revert x; change Keeps _ _ _)
    | (extract_lets +onlyGivenNames x; clear_value x)
    | with_reducible apply State.set_keeps
    | with_reducible apply State.setWp_keeps
    | split)

/-- Changes at most: regs, ticks, reports, causes, warps, wefts, learn, shTok, bkTok, pair, acc, shuttles, pulseOuts, maps, svc, ovs, strand. -/
theorem State.startWarp_keeps {P : Nat} {s₀ : State} (s : State) (n : ℕ)
    (hP : 2307391124670590992 &&& P = 2307391124670590992) (h : Keeps P s₀ s) :
    Keeps P s₀ (State.startWarp s n) := by
  unfold State.startWarp
  repeat' (first
    | with_reducible assumption
    | exact Mask.sub hP (by decide)
    | (extract_lets +onlyGivenNames x; refine Keeps.cut P s₀ x ?_ fun hx => ?_; (on_goal 2 => clear_value x); revert x; change Keeps _ _ _)
    | (extract_lets +onlyGivenNames x; clear_value x)
    | with_reducible apply State.blankWarp_keeps
    | with_reducible apply State.set_keeps
    | with_reducible apply State.goState_keeps
    | with_reducible apply State.stallReset_keeps
    | split)

/-- Changes at most: fresh, regs, ticks, reports, acc, shuttles, seqTok, banks, cmps. -/
theorem State.thermalReset_keeps {P : Nat} {s₀ : State} (s : State) (b : ℕ)
    (hP : 14763962386 &&& P = 14763962386) (h : Keeps P s₀ s) :
    Keeps P s₀ (State.thermalReset s b) := by
  unfold State.thermalReset
  repeat' (first
    | with_reducible assumption
    | exact Mask.sub hP (by decide)
    | (extract_lets +onlyGivenNames x; refine Keeps.cut P s₀ x ?_ fun hx => ?_; (on_goal 2 => clear_value x); revert x; change Keeps _ _ _)
    | (extract_lets +onlyGivenNames x; clear_value x)
    | with_reducible apply State.setBk_keeps
    | with_reducible apply State.thermalOff_keeps
    | with_reducible apply State.set_keeps
    | with_reducible apply State.setI_keeps
    | with_reducible apply Keeps.foldl
    | (intro _ _ _))

/-- Changes at most: regs, work, closures, cmbSig, combust, trimDue, maps, svc, rail, ovs. -/
theorem State.startServices_keeps {P : Nat} {s₀ : State} (s : State)
    (hP : 2225445894357072 &&& P = 2225445894357072) (h : Keeps P s₀ s) :
    Keeps P s₀ (State.startServices s) := by
  unfold State.startServices
  repeat' (first
    | with_reducible assumption
    | exact Mask.sub hP (by decide)
    | (extract_lets +onlyGivenNames x; refine Keeps.cut P s₀ x ?_ fun hx => ?_; (on_goal 2 => clear_value x); revert x; change Keeps _ _ _)
    | (extract_lets +onlyGivenNames x; clear_value x)
    | with_reducible apply State.set_keeps
    | with_reducible apply State.setCyl_keeps
    | with_reducible apply Keeps.foldl
    | (intro _ _ _)
    | with_reducible apply Keeps.upd_closures
    | with_reducible apply Keeps.upd_cmbSig
    | with_reducible apply Keeps.upd_combust
    | with_reducible apply Keeps.upd_trimDue
    | with_reducible apply Keeps.upd_maps
    | with_reducible apply Keeps.upd_svc
    | with_reducible apply Keeps.upd_rail
    | with_reducible apply Keeps.upd_ovs
    | (apply Keeps.many; (case h => assumption); (case hq => rfl); (case hf => exact Nat.le_refl _); (case hc => exact fun hc => hc); (case hm => exact fun h => h); (case hp => (intro p; cases p <;> first | exact Or.inr rfl | exact Or.inl (Mask.mem hP (by decide))))))

/-- Changes at most: fresh, regs, work, recMem, ticks, reports, causes, weave, warps, wefts, learn, shTok, bkTok, pair, acc, shuttles, seqTok, pulseOuts, banks, cmps, closures, inCal, cmbSig, combust, trimDue, maps, svc, rail, ovs, selv, strand, saf. -/
theorem State.loomStart_keeps {P : Nat} {s₀ : State} (s : State)
    (hP : 11533692858576482514 &&& P = 11533692858576482514) (h : Keeps P s₀ s) :
    Keeps P s₀ (State.loomStart s) := by
  unfold State.loomStart
  repeat' (first
    | with_reducible assumption
    | exact Mask.sub hP (by decide)
    | (extract_lets +onlyGivenNames x; refine Keeps.cut P s₀ x ?_ fun hx => ?_; (on_goal 2 => clear_value x); revert x; change Keeps _ _ _)
    | (extract_lets +onlyGivenNames x; clear_value x)
    | with_reducible apply State.contEnable_keeps
    | with_reducible apply State.checkReady_keeps
    | with_reducible apply State.setBk_keeps
    | with_reducible apply State.setDiv_keeps
    | with_reducible apply State.cutWatch_keeps
    | with_reducible apply State.countSeconds_keeps
    | with_reducible apply State.form_keeps
    | with_reducible apply State.restoreSignatures_keeps
    | with_reducible apply State.restoreDrift_keeps
    | with_reducible apply State.startWarp_keeps
    | with_reducible apply State.thermalReset_keeps
    | with_reducible apply State.startServices_keeps
    | with_reducible apply State.set_keeps
    | with_reducible apply State.counter_keeps
    | with_reducible apply State.divLink_keeps
    | with_reducible apply State.tableCheck_keeps
    | with_reducible apply State.shtLoomStart_keeps
    | with_reducible apply State.countRunning_keeps
    | with_reducible apply Keeps.foldl
    | split
    | (intro _ _ _)
    | with_reducible apply Keeps.upd_weave
    | with_reducible apply Keeps.upd_wefts
    | with_reducible apply Keeps.upd_pair
    | with_reducible apply Keeps.upd_selv
    | with_reducible apply Keeps.upd_strand
    | (apply Keeps.many; (case h => assumption); (case hq => rfl); (case hf => exact Nat.le_refl _); (case hc => exact fun hc => hc); (case hm => exact fun h => h); (case hp => (intro p; cases p <;> first | exact Or.inr rfl | exact Or.inl (Mask.mem hP (by decide))))))

/-- Changes at most: now, fresh, regs, work, recMem, ticks, reports, causes, weave, warps, wefts, learn, shTok, bkTok, pair, acc, shuttles, seqTok, pulseOuts, banks, cmps, closures, inCal, cmbSig, combust, trimDue, maps, svc, rail, ovs, selv, strand, saf. -/
theorem execLoomStart_keeps {P : Nat} {s₀ : State} (t : Word) (s : State)
    (hP : 11533692858576482515 &&& P = 11533692858576482515) (h : Keeps P s₀ s) :
    OutKeeps P s₀ (execLoomStart t s) := by
  unfold execLoomStart
  repeat' (first
    | with_reducible assumption
    | exact Mask.sub hP (by decide)
    | (extract_lets +onlyGivenNames x; refine Keeps.cut P s₀ x ?_ fun hx => ?_; (on_goal 2 => clear_value x); revert x; change Keeps _ _ _)
    | (extract_lets +onlyGivenNames x; clear_value x)
    | with_reducible apply OutKeeps.next
    | with_reducible apply State.loomStart_keeps
    | with_reducible apply State.at_keeps
    | split)

/-- Changes at most: regs, banks, cmps. -/
theorem State.bankOff_keeps {P : Nat} {s₀ : State} (s : State) (b : ℕ)
    (hP : 12884901904 &&& P = 12884901904) (h : Keeps P s₀ s) :
    Keeps P s₀ (State.bankOff s b) := by
  unfold State.bankOff
  repeat' (first
    | with_reducible assumption
    | exact Mask.sub hP (by decide)
    | (extract_lets +onlyGivenNames x; refine Keeps.cut P s₀ x ?_ fun hx => ?_; (on_goal 2 => clear_value x); revert x; change Keeps _ _ _)
    | (extract_lets +onlyGivenNames x; clear_value x)
    | with_reducible apply State.bnkShow_keeps
    | with_reducible apply State.drive_keeps
    | with_reducible apply State.closureResult_keeps
    | with_reducible apply State.endTail_keeps
    | with_reducible apply State.setBk_keeps
    | split)

/-- Changes at most: regs, ticks, reports, causes, warps, wefts, learn, shTok, bkTok, pair, acc, shuttles, pulseOuts, maps, svc, ovs, strand. -/
theorem State.stopWarp_keeps {P : Nat} {s₀ : State} (s : State) (n : ℕ)
    (hP : 2307391124670590992 &&& P = 2307391124670590992) (h : Keeps P s₀ s) :
    Keeps P s₀ (State.stopWarp s n) := by
  unfold State.stopWarp
  repeat' (first
    | with_reducible assumption
    | exact Mask.sub hP (by decide)
    | (extract_lets +onlyGivenNames x; refine Keeps.cut P s₀ x ?_ fun hx => ?_; (on_goal 2 => clear_value x); revert x; change Keeps _ _ _)
    | (extract_lets +onlyGivenNames x; clear_value x)
    | with_reducible apply State.blankWarp_keeps
    | with_reducible apply State.set_keeps
    | with_reducible apply State.goState_keeps
    | split)

/-- Changes at most: regs, ticks, reports, causes, pair. -/
theorem State.stopDiv_keeps {P : Nat} {s₀ : State} (s : State)
    (hP : 67186704 &&& P = 67186704) (h : Keeps P s₀ s) :
    Keeps P s₀ (State.stopDiv s) := by
  unfold State.stopDiv
  repeat' (first
    | with_reducible assumption
    | exact Mask.sub hP (by decide)
    | with_reducible apply State.setDiv_keeps
    | with_reducible apply State.divLink_keeps
    | with_reducible apply State.divClear_keeps
    | split)

/-- Changes at most: regs, work, ticks, reports, causes, weave, warps, wefts, learn, shTok, bkTok, pair, acc, shuttles, seqTok, pulseOuts, banks, cmps, boosts, closures, seqs, cmbSig, combust, trimDue, maps, svc, ovs, dmaTrigs, strand. -/
theorem State.loomStop_keeps {P : Nat} {s₀ : State} (s : State)
    (hP : 2883966360401555536 &&& P = 2883966360401555536) (h : Keeps P s₀ s) :
    Keeps P s₀ (State.loomStop s) := by
  unfold State.loomStop
  repeat' (first
    | with_reducible assumption
    | exact Mask.sub hP (by decide)
    | (extract_lets +onlyGivenNames x; refine Keeps.cut P s₀ x ?_ fun hx => ?_; (on_goal 2 => clear_value x); revert x; change Keeps _ _ _)
    | (extract_lets +onlyGivenNames x; clear_value x)
    | with_reducible apply State.boostOff_keeps
    | with_reducible apply State.countSeconds_keeps
    | with_reducible apply State.seqShow_keeps
    | with_reducible apply State.bankOff_keeps
    | with_reducible apply State.stopWarp_keeps
    | with_reducible apply State.stopDiv_keeps
    | with_reducible apply State.set_keeps
    | with_reducible apply State.learnAbort_keeps
    | with_reducible apply State.clearProfile_keeps
    | with_reducible apply State.shtLoseAll_keeps
    | with_reducible apply State.countRunning_keeps
    | with_reducible apply State.angleGone_keeps
    | with_reducible apply Keeps.foldl
    | split
    | (intro _ _ _)
    | with_reducible apply Keeps.upd_weave
    | with_reducible apply Keeps.upd_wefts
    | with_reducible apply Keeps.upd_shTok
    | with_reducible apply Keeps.upd_bkTok
    | with_reducible apply Keeps.upd_seqTok
    | with_reducible apply Keeps.upd_closures
    | with_reducible apply Keeps.upd_seqs
    | with_reducible apply Keeps.upd_cmbSig
    | with_reducible apply Keeps.upd_combust
    | with_reducible apply Keeps.upd_trimDue
    | (apply Keeps.many; (case h => assumption); (case hq => rfl); (case hf => exact Nat.le_refl _); (case hc => exact fun hc => hc); (case hm => exact fun h => h); (case hp => (intro p; cases p <;> first | exact Or.inr rfl | exact Or.inl (Mask.mem hP (by decide))))))

/-- Changes at most: regs, ticks, pair, acc, shuttles, pulseOuts, maps, svc, ovs, streams. -/
theorem State.broadcast_keeps {P : Nat} {s₀ : State} (s : State) (n : ℕ) (u : Update)
    (hP : 37576912410775568 &&& P = 37576912410775568) (h : Keeps P s₀ s) :
    Keeps P s₀ (State.broadcast s n u) := by
  unfold State.broadcast
  repeat' (first
    | with_reducible assumption
    | exact Mask.sub hP (by decide)
    | (extract_lets +onlyGivenNames x; refine Keeps.cut P s₀ x ?_ fun hx => ?_; (on_goal 2 => clear_value x); revert x; change Keeps _ _ _)
    | (extract_lets +onlyGivenNames x; clear_value x)
    | (extract_lets +onlyGivenNames x)
    | with_reducible apply State.streamAll_keeps
    | with_reducible apply State.proexTooth_keeps
    | with_reducible apply State.svcUpdate_keeps
    | with_reducible apply State.setSh_keeps
    | with_reducible apply State.setPo_keeps
    | with_reducible apply Keeps.foldl
    | split
    | (intro _ _ _)
    | with_reducible apply Keeps.upd_ovs)

/-- Changes at most: now, regs, ticks, wefts, pair, acc, shuttles, pulseOuts, maps, svc, ovs, streams. -/
theorem execToothUpdateBroadcast_keeps {P : Nat} {s₀ : State} (t : Word) (n : Fin 2) (s : State)
    (hP : 37576912414969873 &&& P = 37576912414969873) (h : Keeps P s₀ s) :
    OutKeeps P s₀ (execToothUpdateBroadcast t n s) := by
  unfold execToothUpdateBroadcast
  repeat' (first
    | with_reducible assumption
    | exact Mask.sub hP (by decide)
    | (extract_lets +onlyGivenNames x; refine Keeps.cut P s₀ x ?_ fun hx => ?_; (on_goal 2 => clear_value x); revert x; change Keeps _ _ _)
    | (extract_lets +onlyGivenNames x; clear_value x)
    | (extract_lets +onlyGivenNames x)
    | with_reducible apply OutKeeps.next
    | with_reducible apply State.broadcast_keeps
    | with_reducible apply State.inc_keeps
    | with_reducible apply State.at_keeps
    | with_reducible apply State.setWf_keeps
    | split)

end Sys2Proof.Machine
end

