-- ==== Sys2Proof/Laws/KeepsHeadland.lean ====
section
/-!
SUPPORT. What each operation of Machine/Headland.lean may change (Laws/Keeps.lean).
-/
set_option linter.unusedTactic false
set_option linter.unreachableTactic false
namespace Sys2Proof.Machine

/-- Changes at most: regs, ticks, acc. -/
theorem State.headCount_keeps {P : Nat} {s₀ : State} (s : State) (new : ℕ)
    (hP : 268439568 &&& P = 268439568) (h : Keeps P s₀ s) :
    Keeps P s₀ (State.headCount s new) := by
  unfold State.headCount
  repeat' (first
    | with_reducible assumption
    | exact Mask.sub hP (by decide)
    | (extract_lets +onlyGivenNames x; refine Keeps.cut P s₀ x ?_ fun hx => ?_; (on_goal 2 => clear_value x); revert x; change Keeps _ _ _)
    | (extract_lets +onlyGivenNames x; clear_value x)
    | with_reducible apply State.inc_keeps
    | with_reducible apply State.counter_keeps
    | split)

/-- Changes at most: fresh, regs, ticks, reports, shuttles, seqTok, banks, cmps. -/
theorem State.cutBanks_keeps {P : Nat} {s₀ : State} (s : State)
    (hP : 14495526930 &&& P = 14495526930) (h : Keeps P s₀ s) :
    Keeps P s₀ (State.cutBanks s) := by
  unfold State.cutBanks
  repeat' (first
    | with_reducible assumption
    | exact Mask.sub hP (by decide)
    | with_reducible apply State.bankCut_keeps
    | with_reducible apply Keeps.foldl
    | (intro _ _ _))

/-- Changes at most: fresh, regs, work, ticks, reports, causes, weave, warps, wefts, learn, shTok, bkTok, pair, acc, shuttles, seqTok, pulseOuts, banks, cmps, boosts, closures, seqs, cmbSig, combust, trimDue, maps, svc, ovs, dmaTrigs, strand, saf. -/
theorem State.headGo_keeps {P : Nat} {s₀ : State} (s : State) (new : ℕ) (code : ℕ)
    (hP : 12107338397256331346 &&& P = 12107338397256331346) (h : Keeps P s₀ s) :
    Keeps P s₀ (State.headGo s new code) := by
  unfold State.headGo
  repeat' (first
    | with_reducible assumption
    | exact Mask.sub hP (by decide)
    | (extract_lets +onlyGivenNames x; refine Keeps.cut P s₀ x ?_ fun hx => ?_; (on_goal 2 => clear_value x); revert x; change Keeps _ _ _)
    | (extract_lets +onlyGivenNames x; clear_value x)
    | with_reducible apply State.headCount_keeps
    | with_reducible apply State.cutBanks_keeps
    | with_reducible apply State.loomStop_keeps
    | with_reducible apply State.set_keeps
    | with_reducible apply State.flag_keeps
    | with_reducible apply State.report_keeps
    | split
    | with_reducible apply Keeps.upd_saf)

/-- Changes at most: fresh, regs, work, ticks, reports, causes, weave, warps, wefts, learn, shTok, bkTok, pair, acc, shuttles, seqTok, pulseOuts, banks, cmps, boosts, closures, seqs, cmbSig, combust, trimDue, maps, svc, ovs, dmaTrigs, strand, saf. -/
theorem State.headRun_keeps {P : Nat} {s₀ : State} (s : State)
    (hP : 12107338397256331346 &&& P = 12107338397256331346) (h : Keeps P s₀ s) :
    Keeps P s₀ (State.headRun s) := by
  unfold State.headRun
  repeat' (first
    | with_reducible assumption
    | exact Mask.sub hP (by decide)
    | (extract_lets +onlyGivenNames x; refine Keeps.cut P s₀ x ?_ fun hx => ?_; (on_goal 2 => clear_value x); revert x; change Keeps _ _ _)
    | (extract_lets +onlyGivenNames x; clear_value x)
    | with_reducible apply State.checkReady_keeps
    | with_reducible apply State.headGo_keeps
    | split
    | with_reducible apply Keeps.upd_saf)

/-- Changes at most: regs, ticks, saf. -/
theorem State.headRecord_keeps {P : Nat} {s₀ : State} (s : State) (code : ℕ) (idx : ℕ)
    (hP : 9223372036854779920 &&& P = 9223372036854779920) (h : Keeps P s₀ s) :
    Keeps P s₀ (State.headRecord s code idx) := by
  unfold State.headRecord
  repeat' (first
    | with_reducible assumption
    | exact Mask.sub hP (by decide)
    | (extract_lets +onlyGivenNames x; refine Keeps.cut P s₀ x ?_ fun hx => ?_; (on_goal 2 => clear_value x); revert x; change Keeps _ _ _)
    | (extract_lets +onlyGivenNames x; clear_value x)
    | with_reducible apply State.stickBit_keeps
    | with_reducible apply State.set_keeps
    | split
    | with_reducible apply Keeps.upd_saf)

/-- Changes at most: fresh, regs, work, ticks, reports, causes, weave, warps, wefts, learn, shTok, bkTok, pair, acc, shuttles, seqTok, pulseOuts, banks, cmps, boosts, closures, seqs, cmbSig, combust, trimDue, maps, svc, ovs, dmaTrigs, strand, saf. -/
theorem State.headTake_keeps {P : Nat} {s₀ : State} (s : State)
    (hP : 12107338397256331346 &&& P = 12107338397256331346) (h : Keeps P s₀ s) :
    Keeps P s₀ (State.headTake s) := by
  unfold State.headTake
  repeat' (first
    | with_reducible assumption
    | exact Mask.sub hP (by decide)
    | (extract_lets +onlyGivenNames x; refine Keeps.cut P s₀ x ?_ fun hx => ?_; (on_goal 2 => clear_value x); revert x; change Keeps _ _ _)
    | (extract_lets +onlyGivenNames x; clear_value x)
    | (extract_lets +onlyGivenNames x)
    | with_reducible apply State.headGo_keeps
    | with_reducible apply State.headRecord_keeps
    | with_reducible apply State.report_keeps
    | with_reducible apply Keeps.foldl
    | split
    | (intro _ _ _)
    | with_reducible apply Keeps.upd_causes
    | with_reducible apply Keeps.upd_saf
    | (apply Keeps.many; (case h => assumption); (case hq => rfl); (case hf => exact Nat.le_refl _); (case hc => exact fun hc => hc); (case hm => exact fun h => h); (case hp => (intro p; cases p <;> first | exact Or.inr rfl | exact Or.inl (Mask.mem hP (by decide))))))

/-- Changes at most: now, fresh, regs, work, ticks, reports, causes, weave, warps, wefts, learn, shTok, bkTok, pair, acc, shuttles, seqTok, pulseOuts, banks, cmps, boosts, closures, seqs, cmbSig, combust, trimDue, maps, svc, ovs, dmaTrigs, strand, saf. -/
theorem execHeadlandCause_keeps {P : Nat} {s₀ : State} (t : Word) (s : State)
    (hP : 12107338397256331347 &&& P = 12107338397256331347) (h : Keeps P s₀ s) :
    OutKeeps P s₀ (execHeadlandCause t s) := by
  unfold execHeadlandCause
  repeat' (first
    | with_reducible assumption
    | exact Mask.sub hP (by decide)
    | with_reducible apply OutKeeps.next
    | with_reducible apply State.headTake_keeps
    | with_reducible apply State.at_keeps)

/-- Changes at most: fresh, regs, work, ticks, reports, causes, weave, warps, wefts, learn, shTok, bkTok, pair, acc, shuttles, seqTok, pulseOuts, banks, cmps, boosts, closures, seqs, cmbSig, combust, trimDue, maps, svc, ovs, dmaTrigs, strand, saf. -/
theorem State.cutLapse_keeps {P : Nat} {s₀ : State} (s : State)
    (hP : 12107338397256331346 &&& P = 12107338397256331346) (h : Keeps P s₀ s) :
    Keeps P s₀ (State.cutLapse s) := by
  unfold State.cutLapse
  repeat' (first
    | with_reducible assumption
    | exact Mask.sub hP (by decide)
    | (extract_lets +onlyGivenNames x; refine Keeps.cut P s₀ x ?_ fun hx => ?_; (on_goal 2 => clear_value x); revert x; change Keeps _ _ _)
    | (extract_lets +onlyGivenNames x; clear_value x)
    | with_reducible apply State.headRun_keeps
    | split
    | with_reducible apply Keeps.upd_saf)

/-- Changes at most: now, fresh, regs, work, ticks, reports, causes, weave, warps, wefts, learn, shTok, bkTok, pair, acc, shuttles, seqTok, pulseOuts, banks, cmps, boosts, closures, seqs, cmbSig, combust, trimDue, maps, svc, ovs, dmaTrigs, strand, saf. -/
theorem execCutHoldExpiry_keeps {P : Nat} {s₀ : State} (t : Word) (s : State)
    (hP : 12107338397256331347 &&& P = 12107338397256331347) (h : Keeps P s₀ s) :
    OutKeeps P s₀ (execCutHoldExpiry t s) := by
  unfold execCutHoldExpiry
  repeat' (first
    | with_reducible assumption
    | exact Mask.sub hP (by decide)
    | with_reducible apply OutKeeps.next
    | with_reducible apply State.cutLapse_keeps
    | with_reducible apply State.at_keeps)

/-- Changes at most: saf. -/
theorem State.residualGone_keeps {P : Nat} {s₀ : State} (s : State) (above : ℕ)
    (hP : 9223372036854775808 &&& P = 9223372036854775808) (h : Keeps P s₀ s) :
    Keeps P s₀ (State.residualGone s above) := by
  unfold State.residualGone
  repeat' (first
    | with_reducible assumption
    | exact Mask.sub hP (by decide)
    | (extract_lets +onlyGivenNames x; refine Keeps.cut P s₀ x ?_ fun hx => ?_; (on_goal 2 => clear_value x); revert x; change Keeps _ _ _)
    | (extract_lets +onlyGivenNames x; clear_value x)
    | with_reducible apply Keeps.upd_saf)

/-- Changes at most: fresh, regs, work, ticks, reports, causes, weave, warps, wefts, learn, shTok, bkTok, pair, acc, shuttles, seqTok, pulseOuts, banks, cmps, boosts, closures, seqs, cmbSig, combust, trimDue, maps, svc, ovs, dmaTrigs, strand, saf. -/
theorem State.safeRelease_keeps {P : Nat} {s₀ : State} (s : State) (above : ℕ)
    (hP : 12107338397256331346 &&& P = 12107338397256331346) (h : Keeps P s₀ s) :
    Keeps P s₀ (State.safeRelease s above) := by
  unfold State.safeRelease
  repeat' (first
    | with_reducible assumption
    | exact Mask.sub hP (by decide)
    | (extract_lets +onlyGivenNames x; refine Keeps.cut P s₀ x ?_ fun hx => ?_; (on_goal 2 => clear_value x); revert x; change Keeps _ _ _)
    | (extract_lets +onlyGivenNames x; clear_value x)
    | (extract_lets +onlyGivenNames x)
    | with_reducible apply State.headRun_keeps
    | with_reducible apply State.residualGone_keeps
    | with_reducible apply State.stick_keeps
    | split)

/-- Changes at most: fresh, regs, work, ticks, reports, causes, weave, warps, wefts, learn, shTok, bkTok, pair, acc, shuttles, seqTok, pulseOuts, banks, cmps, boosts, closures, seqs, cmbSig, combust, trimDue, maps, svc, ovs, dmaTrigs, strand, saf. -/
theorem State.releaseWrite_keeps {P : Nat} {s₀ : State} (s : State)
    (hP : 12107338397256331346 &&& P = 12107338397256331346) (h : Keeps P s₀ s) :
    Keeps P s₀ (State.releaseWrite s) := by
  unfold State.releaseWrite
  repeat' (first
    | with_reducible assumption
    | exact Mask.sub hP (by decide)
    | (extract_lets +onlyGivenNames x; refine Keeps.cut P s₀ x ?_ fun hx => ?_; (on_goal 2 => clear_value x); revert x; change Keeps _ _ _)
    | (extract_lets +onlyGivenNames x; refine Keeps.cutFst P s₀ x ?_ fun hx => ?_; (on_goal 2 => clear_value x); revert x; change Keeps _ _ _)
    | (extract_lets +onlyGivenNames x; refine Keeps.cutMid P s₀ x ?_ fun hx => ?_; (on_goal 2 => clear_value x); revert x; change Keeps _ _ _)
    | (extract_lets +onlyGivenNames x; refine Keeps.cutSnd P s₀ x ?_ fun hx => ?_; (on_goal 2 => clear_value x); revert x; change Keeps _ _ _)
    | (extract_lets +onlyGivenNames x; clear_value x)
    | with_reducible apply State.safeRelease_keeps
    | with_reducible apply State.free_keeps
    | refine Keeps.ofFst (by assumption) ?_
    | refine Keeps.ofSnd (by assumption) ?_
    | refine Keeps.ofMid (by assumption) ?_)

/-- Changes at most: now, fresh, regs, work, ticks, reports, causes, weave, warps, wefts, learn, shTok, bkTok, pair, acc, shuttles, seqTok, pulseOuts, banks, cmps, boosts, closures, seqs, cmbSig, combust, trimDue, maps, svc, ovs, dmaTrigs, strand, saf. -/
theorem execSafeRelease_keeps {P : Nat} {s₀ : State} (t : Word) (above : Fin 4096) (s : State)
    (hP : 12107338397256331347 &&& P = 12107338397256331347) (h : Keeps P s₀ s) :
    OutKeeps P s₀ (execSafeRelease t above s) := by
  unfold execSafeRelease
  repeat' (first
    | with_reducible assumption
    | exact Mask.sub hP (by decide)
    | with_reducible apply OutKeeps.next
    | with_reducible apply State.safeRelease_keeps
    | with_reducible apply State.at_keeps)

/-- Changes at most: now, regs, ticks, reports, saf. -/
theorem execHeadlandSelftestDone_keeps {P : Nat} {s₀ : State} (t : Word) (fails : Fin 32) (s : State)
    (hP : 9223372036854788113 &&& P = 9223372036854788113) (h : Keeps P s₀ s) :
    OutKeeps P s₀ (execHeadlandSelftestDone t fails s) := by
  unfold execHeadlandSelftestDone
  repeat' (first
    | with_reducible assumption
    | exact Mask.sub hP (by decide)
    | (extract_lets +onlyGivenNames x; refine Keeps.cut P s₀ x ?_ fun hx => ?_; (on_goal 2 => clear_value x); revert x; change Keeps _ _ _)
    | (extract_lets +onlyGivenNames x; clear_value x)
    | (extract_lets +onlyGivenNames x)
    | with_reducible apply OutKeeps.next
    | with_reducible apply State.headRecord_keeps
    | with_reducible apply State.set_keeps
    | with_reducible apply State.report_keeps
    | with_reducible apply State.at_keeps
    | split
    | with_reducible apply Keeps.upd_saf)

/-- Changes at most: fresh, regs, work, ticks, reports, causes, weave, warps, wefts, learn, shTok, bkTok, pair, acc, shuttles, seqTok, pulseOuts, banks, cmps, boosts, closures, seqs, cmbSig, combust, trimDue, maps, svc, ovs, dmaTrigs, strand, saf. -/
theorem State.runEntry_keeps {P : Nat} {s₀ : State} (s : State)
    (hP : 12107338397256331346 &&& P = 12107338397256331346) (h : Keeps P s₀ s) :
    Keeps P s₀ (State.runEntry s) := by
  unfold State.runEntry
  repeat' (first
    | with_reducible assumption
    | exact Mask.sub hP (by decide)
    | with_reducible apply State.headRun_keeps
    | split)

/-- Changes at most: now, fresh, regs, work, ticks, reports, causes, weave, warps, wefts, learn, shTok, bkTok, pair, acc, shuttles, seqTok, pulseOuts, banks, cmps, boosts, closures, seqs, cmbSig, combust, trimDue, maps, svc, ovs, dmaTrigs, strand, saf. -/
theorem execHeadlandRunEntry_keeps {P : Nat} {s₀ : State} (t : Word) (s : State)
    (hP : 12107338397256331347 &&& P = 12107338397256331347) (h : Keeps P s₀ s) :
    OutKeeps P s₀ (execHeadlandRunEntry t s) := by
  unfold execHeadlandRunEntry
  repeat' (first
    | with_reducible assumption
    | exact Mask.sub hP (by decide)
    | with_reducible apply OutKeeps.next
    | with_reducible apply State.runEntry_keeps
    | with_reducible apply State.at_keeps)

/-- Changes at most: now, causes, saf. -/
theorem execClockMonitorWindow_keeps {P : Nat} {s₀ : State} (t : Word) (tb : ℕ) (xo : ℕ) (s : State)
    (hP : 9223372036854841345 &&& P = 9223372036854841345) (h : Keeps P s₀ s) :
    OutKeeps P s₀ (execClockMonitorWindow t tb xo s) := by
  unfold execClockMonitorWindow
  repeat' (first
    | with_reducible assumption
    | exact Mask.sub hP (by decide)
    | (extract_lets +onlyGivenNames x; refine Keeps.cut P s₀ x ?_ fun hx => ?_; (on_goal 2 => clear_value x); revert x; change Keeps _ _ _)
    | (extract_lets +onlyGivenNames x; clear_value x)
    | with_reducible apply OutKeeps.next
    | with_reducible apply State.cause_keeps
    | with_reducible apply State.at_keeps
    | split
    | with_reducible apply Keeps.upd_saf)

/-- Changes at most: now, regs, causes, acc, banks, cmps, saf. -/
theorem execHousekeepingSample_keeps {P : Nat} {s₀ : State} (t : Word) (vbat : Fin 4096) (tdie : Fin 65536) (s : State)
    (hP : 9223372050008178705 &&& P = 9223372050008178705) (h : Keeps P s₀ s) :
    OutKeeps P s₀ (execHousekeepingSample t vbat tdie s) := by
  unfold execHousekeepingSample
  repeat' (first
    | with_reducible assumption
    | exact Mask.sub hP (by decide)
    | (extract_lets +onlyGivenNames x; refine Keeps.cut P s₀ x ?_ fun hx => ?_; (on_goal 2 => clear_value x); revert x; change Keeps _ _ _)
    | (extract_lets +onlyGivenNames x; clear_value x)
    | with_reducible apply OutKeeps.next
    | with_reducible apply State.vbatMark_keeps
    | with_reducible apply State.set_keeps
    | with_reducible apply State.extreme_keeps
    | with_reducible apply State.cause_keeps
    | with_reducible apply State.at_keeps
    | split
    | with_reducible apply Keeps.upd_saf)

/-- Changes at most: now, regs, causes. -/
theorem execSafeNMismatch_keeps {P : Nat} {s₀ : State} (t : Word) (s : State)
    (hP : 65553 &&& P = 65553) (h : Keeps P s₀ s) :
    OutKeeps P s₀ (execSafeNMismatch t s) := by
  unfold execSafeNMismatch
  repeat' (first
    | with_reducible assumption
    | exact Mask.sub hP (by decide)
    | (extract_lets +onlyGivenNames x; refine Keeps.cut P s₀ x ?_ fun hx => ?_; (on_goal 2 => clear_value x); revert x; change Keeps _ _ _)
    | (extract_lets +onlyGivenNames x; clear_value x)
    | with_reducible apply OutKeeps.next
    | with_reducible apply State.flag_keeps
    | with_reducible apply State.cause_keeps
    | with_reducible apply State.at_keeps
    | split)

/-- Changes at most: now, regs, causes, saf. -/
theorem execSafeInChange_keeps {P : Nat} {s₀ : State} (t : Word) (level : Bool) (s : State)
    (hP : 9223372036854841361 &&& P = 9223372036854841361) (h : Keeps P s₀ s) :
    OutKeeps P s₀ (execSafeInChange t level s) := by
  unfold execSafeInChange
  repeat' (first
    | with_reducible assumption
    | exact Mask.sub hP (by decide)
    | (extract_lets +onlyGivenNames x; refine Keeps.cut P s₀ x ?_ fun hx => ?_; (on_goal 2 => clear_value x); revert x; change Keeps _ _ _)
    | (extract_lets +onlyGivenNames x; clear_value x)
    | (extract_lets +onlyGivenNames x)
    | with_reducible apply OutKeeps.next
    | with_reducible apply State.cutWatch_keeps
    | with_reducible apply State.flag_keeps
    | with_reducible apply State.cause_keeps
    | with_reducible apply State.at_keeps
    | split
    | with_reducible apply Keeps.upd_saf)

/-- Changes at most: regs. -/
theorem State.safClear_keeps {P : Nat} {s₀ : State} (s : State)
    (hP : 16 &&& P = 16) (h : Keeps P s₀ s) :
    Keeps P s₀ (State.safClear s) := by
  unfold State.safClear
  repeat' (first
    | with_reducible assumption
    | exact Mask.sub hP (by decide)
    | with_reducible apply State.clearCounts_keeps)

/-- Changes at most: now, regs. -/
theorem execSafCntClr_keeps {P : Nat} {s₀ : State} (t : Word) (s : State)
    (hP : 17 &&& P = 17) (h : Keeps P s₀ s) :
    OutKeeps P s₀ (execSafCntClr t s) := by
  unfold execSafCntClr
  repeat' (first
    | with_reducible assumption
    | exact Mask.sub hP (by decide)
    | with_reducible apply OutKeeps.next
    | with_reducible apply State.safClear_keeps
    | with_reducible apply State.at_keeps)

/-- Changes at most: regs, ticks, weave. -/
theorem State.doRun_keeps {P : Nat} {s₀ : State} (s : State)
    (hP : 528400 &&& P = 528400) (h : Keeps P s₀ s) :
    Keeps P s₀ (State.doRun s) := by
  unfold State.doRun
  repeat' (first
    | with_reducible assumption
    | exact Mask.sub hP (by decide)
    | (extract_lets +onlyGivenNames x; refine Keeps.cut P s₀ x ?_ fun hx => ?_; (on_goal 2 => clear_value x); revert x; change Keeps _ _ _)
    | (extract_lets +onlyGivenNames x; clear_value x)
    | (extract_lets +onlyGivenNames x)
    | with_reducible apply State.cmdRej_keeps
    | split
    | with_reducible apply Keeps.upd_weave)

/-- Changes at most: now, regs, ticks, weave. -/
theorem execRun_keeps {P : Nat} {s₀ : State} (t : Word) (s : State)
    (hP : 528401 &&& P = 528401) (h : Keeps P s₀ s) :
    OutKeeps P s₀ (execRun t s) := by
  unfold execRun
  repeat' (first
    | with_reducible assumption
    | exact Mask.sub hP (by decide)
    | with_reducible apply OutKeeps.next
    | with_reducible apply State.doRun_keeps
    | with_reducible apply State.at_keeps)

/-- Changes at most: regs, work, ticks, reports, causes, weave, warps, wefts, learn, shTok, bkTok, pair, acc, shuttles, seqTok, pulseOuts, banks, cmps, boosts, closures, seqs, cmbSig, combust, trimDue, maps, svc, ovs, dmaTrigs, strand. -/
theorem State.stopCommand_keeps {P : Nat} {s₀ : State} (s : State)
    (hP : 2883966360401555536 &&& P = 2883966360401555536) (h : Keeps P s₀ s) :
    Keeps P s₀ (State.stopCommand s) := by
  unfold State.stopCommand
  repeat' (first
    | with_reducible assumption
    | exact Mask.sub hP (by decide)
    | with_reducible apply State.loomStop_keeps
    | with_reducible apply State.cmdRej_keeps
    | split)

/-- Changes at most: now, regs, work, ticks, reports, causes, weave, warps, wefts, learn, shTok, bkTok, pair, acc, shuttles, seqTok, pulseOuts, banks, cmps, boosts, closures, seqs, cmbSig, combust, trimDue, maps, svc, ovs, dmaTrigs, strand. -/
theorem execStop_keeps {P : Nat} {s₀ : State} (t : Word) (s : State)
    (hP : 2883966360401555537 &&& P = 2883966360401555537) (h : Keeps P s₀ s) :
    OutKeeps P s₀ (execStop t s) := by
  unfold execStop
  repeat' (first
    | with_reducible assumption
    | exact Mask.sub hP (by decide)
    | with_reducible apply OutKeeps.next
    | with_reducible apply State.stopCommand_keeps
    | with_reducible apply State.at_keeps)

end Sys2Proof.Machine
end

