-- ==== Sys2Proof/Laws/KeepsSupply.lean ====
section
/-!
SUPPORT. What each operation of Machine/Supply.lean may change (Laws/Keeps.lean).
-/
set_option linter.unusedTactic false
set_option linter.unreachableTactic false
namespace Sys2Proof.Machine

/-- Changes at most: now, regs, ticks, reports, causes, crossings, warps, wefts, learn, shTok, bkTok, pair, acc, shuttles, pulseOuts, maps, svc, ovs, strand. -/
theorem execClockLost_keeps {P : Nat} {s₀ : State} (t : Word) (d : Fin 7) (s : State)
    (hP : 2307391124670722065 &&& P = 2307391124670722065) (h : Keeps P s₀ s) :
    OutKeeps P s₀ (execClockLost t d s) := by
  unfold execClockLost
  repeat' (first
    | with_reducible assumption
    | exact Mask.sub hP (by decide)
    | (extract_lets +onlyGivenNames x; refine Keeps.cut P s₀ x ?_ fun hx => ?_; (on_goal 2 => clear_value x); revert x; change Keeps _ _ _)
    | (extract_lets +onlyGivenNames x; clear_value x)
    | (extract_lets +onlyGivenNames x)
    | with_reducible apply OutKeeps.next
    | with_reducible apply State.setBit_keeps
    | with_reducible apply State.at_keeps
    | with_reducible apply State.setLink_keeps
    | split
    | with_reducible apply Keeps.upd_crossings)

/-- Changes at most: now, regs, crossings. -/
theorem execClockReturn_keeps {P : Nat} {s₀ : State} (t : Word) (d : Fin 7) (s : State)
    (hP : 131089 &&& P = 131089) (h : Keeps P s₀ s) :
    OutKeeps P s₀ (execClockReturn t d s) := by
  unfold execClockReturn
  repeat' (first
    | with_reducible assumption
    | exact Mask.sub hP (by decide)
    | (extract_lets +onlyGivenNames x; refine Keeps.cut P s₀ x ?_ fun hx => ?_; (on_goal 2 => clear_value x); revert x; change Keeps _ _ _)
    | (extract_lets +onlyGivenNames x; clear_value x)
    | with_reducible apply OutKeeps.next
    | with_reducible apply State.clearBit_keeps
    | with_reducible apply State.at_keeps
    | split
    | with_reducible apply Keeps.upd_crossings)

/-- Changes at most: now, crossings. -/
theorem execCrossingResume_keeps {P : Nat} {s₀ : State} (t : Word) (d : Fin 7) (s : State)
    (hP : 131073 &&& P = 131073) (h : Keeps P s₀ s) :
    OutKeeps P s₀ (execCrossingResume t d s) := by
  unfold execCrossingResume
  repeat' (first
    | with_reducible assumption
    | exact Mask.sub hP (by decide)
    | (extract_lets +onlyGivenNames x; refine Keeps.cut P s₀ x ?_ fun hx => ?_; (on_goal 2 => clear_value x); revert x; change Keeps _ _ _)
    | (extract_lets +onlyGivenNames x; clear_value x)
    | with_reducible apply OutKeeps.next
    | with_reducible apply State.at_keeps
    | split
    | with_reducible apply Keeps.upd_crossings)

/-- Changes at most: regs. -/
theorem State.resetRegs_keeps {P : Nat} {s₀ : State} (s : State) (kind : ResetKind) (code : ℕ) (x3 : State)
    (hP : 16 &&& P = 16) (h : Keeps P s₀ x3) :
    Keeps P s₀ (State.resetRegs s kind code x3) := by
  unfold State.resetRegs
  repeat' (first
    | with_reducible assumption
    | exact Mask.sub hP (by decide)
    | with_reducible apply State.setReg_keeps)

/-- Changes at most: fresh, ply0, ply1, ply2. -/
theorem State.tornStore_keeps {P : Nat} {s₀ : State} (s : State)
    (hP : 1794 &&& P = 1794) (h : Keeps P s₀ s) :
    Keeps P s₀ (State.tornStore s) := by
  unfold State.tornStore
  repeat' (first
    | with_reducible assumption
    | exact Mask.sub hP (by decide)
    | (extract_lets +onlyGivenNames x; refine Keeps.cut P s₀ x ?_ fun hx => ?_; (on_goal 2 => clear_value x); revert x; change Keeps _ _ _)
    | (extract_lets +onlyGivenNames x; refine Keeps.cutFst P s₀ x ?_ fun hx => ?_; (on_goal 2 => clear_value x); revert x; change Keeps _ _ _)
    | (extract_lets +onlyGivenNames x; refine Keeps.cutMid P s₀ x ?_ fun hx => ?_; (on_goal 2 => clear_value x); revert x; change Keeps _ _ _)
    | (extract_lets +onlyGivenNames x; refine Keeps.cutSnd P s₀ x ?_ fun hx => ?_; (on_goal 2 => clear_value x); revert x; change Keeps _ _ _)
    | (extract_lets +onlyGivenNames x; clear_value x)
    | with_reducible apply State.plySet_keeps
    | with_reducible apply State.free_keeps
    | with_reducible apply Keeps.foldl
    | split
    | (intro _ _ _)
    | refine Keeps.ofFst (by assumption) ?_
    | refine Keeps.ofSnd (by assumption) ?_
    | refine Keeps.ofMid (by assumption) ?_)

/-- Working memory after a reset is in canonical form. -/
theorem State.resetWork_wf (s : State) (kind : ResetKind) (h : s.work.wf memDefault = true) :
    (s.resetWork kind).wf memDefault = true := by
  cases kind <;> first | rfl | exact h | exact Cells.wf_filter _ _ _ h

/-- Changes any part but: now, straps, flash, ahead. -/
theorem State.resetTo_keeps {P : Nat} {s₀ : State} (s : State) (kind : ResetKind) (code : ℕ)
    (hP : 17293822569102702582 &&& P = 17293822569102702582) (h : Keeps P s₀ s) :
    Keeps P s₀ (State.resetTo s kind code) := by
  unfold State.resetTo
  repeat' (first
    | with_reducible assumption
    | exact Mask.sub hP (by decide)
    | (extract_lets +onlyGivenNames x; refine Keeps.cut P s₀ x ?_ fun hx => ?_; (on_goal 2 => clear_value x); revert x; change Keeps _ _ _)
    | (extract_lets +onlyGivenNames x; clear_value x)
    | (extract_lets +onlyGivenNames x)
    | with_reducible apply State.trimOff_keeps
    | with_reducible apply State.tornCommit_keeps
    | with_reducible apply State.resetRegs_keeps
    | with_reducible apply State.tornStore_keeps
    | exact Cells.wf_set _ _ _ _
    | exact Cells.wf_filter _ _ _
    | exact fun _ => rfl
    | split
    | with_reducible apply Keeps.upd_power
    | with_reducible apply Keeps.upd_regs
    | with_reducible apply Keeps.upd_trace
    | with_reducible apply Keeps.upd_work
    | with_reducible apply Keeps.upd_ticks
    | with_reducible apply Keeps.upd_reports
    | with_reducible apply Keeps.upd_mergeOpen
    | with_reducible apply Keeps.upd_fifo
    | with_reducible apply Keeps.upd_causes
    | with_reducible apply Keeps.upd_crossings
    | with_reducible apply Keeps.upd_gov
    | with_reducible apply Keeps.upd_weave
    | with_reducible apply Keeps.upd_primary
    | with_reducible apply Keeps.upd_warps
    | with_reducible apply Keeps.upd_wefts
    | with_reducible apply Keeps.upd_learn
    | with_reducible apply Keeps.upd_shTok
    | with_reducible apply Keeps.upd_bkTok
    | with_reducible apply Keeps.upd_pair
    | with_reducible apply Keeps.upd_recJobs
    | with_reducible apply Keeps.upd_acc
    | with_reducible apply Keeps.upd_shuttles
    | with_reducible apply Keeps.upd_seqTok
    | with_reducible apply Keeps.upd_pulseOuts
    | with_reducible apply Keeps.upd_banks
    | with_reducible apply Keeps.upd_cmps
    | with_reducible apply Keeps.upd_boosts
    | with_reducible apply Keeps.upd_closures
    | with_reducible apply Keeps.upd_seqs
    | with_reducible apply Keeps.upd_slices
    | with_reducible apply Keeps.upd_rot
    | with_reducible apply Keeps.upd_inCal
    | with_reducible apply Keeps.upd_wmons
    | with_reducible apply Keeps.upd_ptimers
    | with_reducible apply Keeps.upd_monTest
    | with_reducible apply Keeps.upd_cmbSig
    | with_reducible apply Keeps.upd_pins
    | with_reducible apply Keeps.upd_combust
    | with_reducible apply Keeps.upd_trimDue
    | with_reducible apply Keeps.upd_maps
    | with_reducible apply Keeps.upd_svc
    | with_reducible apply Keeps.upd_rail
    | with_reducible apply Keeps.upd_ovs
    | with_reducible apply Keeps.upd_selv
    | with_reducible apply Keeps.upd_enumStart
    | with_reducible apply Keeps.upd_host
    | with_reducible apply Keeps.upd_cans
    | with_reducible apply Keeps.upd_streams
    | with_reducible apply Keeps.upd_ports
    | with_reducible apply Keeps.upd_sents
    | with_reducible apply Keeps.upd_dma
    | with_reducible apply Keeps.upd_dmaTrigs
    | with_reducible apply Keeps.upd_strand
    | with_reducible apply Keeps.upd_supply
    | with_reducible apply Keeps.upd_saf
    | (apply Keeps.many; (case h => assumption); (case hq => rfl); (case hf => exact Nat.le_refl _); (case hc => (intro hc; simp only [State.canonical, Bool.and_eq_true] at hc ⊢; (try split) <;> simp_all [State.resetWork_wf])); (case hm => (intro _; rfl)); (case hp => (intro p; cases p <;> first | exact Or.inr rfl | exact Or.inl (Mask.mem hP (by decide))))))

/-- Changes any part but: straps, flash, ahead. -/
theorem execPowerOnReset_keeps {P : Nat} {s₀ : State} (t : Word) (s : State)
    (hP : 17293822569102702583 &&& P = 17293822569102702583) (h : Keeps P s₀ s) :
    OutKeeps P s₀ (execPowerOnReset t s) := by
  unfold execPowerOnReset
  repeat' (first
    | with_reducible assumption
    | exact Mask.sub hP (by decide)
    | with_reducible apply OutKeeps.next
    | with_reducible apply State.at_keeps
    | with_reducible apply State.resetTo_keeps)

/-- Changes any part but: straps, flash, ahead. -/
theorem execLowWaterReset_keeps {P : Nat} {s₀ : State} (t : Word) (s : State)
    (hP : 17293822569102702583 &&& P = 17293822569102702583) (h : Keeps P s₀ s) :
    OutKeeps P s₀ (execLowWaterReset t s) := by
  unfold execLowWaterReset
  repeat' (first
    | with_reducible assumption
    | exact Mask.sub hP (by decide)
    | (extract_lets +onlyGivenNames x; refine Keeps.cut P s₀ x ?_ fun hx => ?_; (on_goal 2 => clear_value x); revert x; change Keeps _ _ _)
    | (extract_lets +onlyGivenNames x; clear_value x)
    | (extract_lets +onlyGivenNames x)
    | with_reducible apply OutKeeps.next
    | with_reducible apply State.at_keeps
    | with_reducible apply State.resetTo_keeps
    | split)

/-- Changes at most: now, supply. -/
theorem execLowWaterEnd_keeps {P : Nat} {s₀ : State} (t : Word) (s : State)
    (hP : 4611686018427387905 &&& P = 4611686018427387905) (h : Keeps P s₀ s) :
    OutKeeps P s₀ (execLowWaterEnd t s) := by
  unfold execLowWaterEnd
  repeat' (first
    | with_reducible assumption
    | exact Mask.sub hP (by decide)
    | (extract_lets +onlyGivenNames x; refine Keeps.cut P s₀ x ?_ fun hx => ?_; (on_goal 2 => clear_value x); revert x; change Keeps _ _ _)
    | (extract_lets +onlyGivenNames x; clear_value x)
    | (extract_lets +onlyGivenNames x)
    | with_reducible apply OutKeeps.next
    | with_reducible apply State.at_keeps
    | split
    | with_reducible apply Keeps.upd_supply)

/-- Changes any part but: straps, flash, ahead. -/
theorem execPinReset_keeps {P : Nat} {s₀ : State} (t : Word) (s : State)
    (hP : 17293822569102702583 &&& P = 17293822569102702583) (h : Keeps P s₀ s) :
    OutKeeps P s₀ (execPinReset t s) := by
  unfold execPinReset
  repeat' (first
    | with_reducible assumption
    | exact Mask.sub hP (by decide)
    | (extract_lets +onlyGivenNames x; refine Keeps.cut P s₀ x ?_ fun hx => ?_; (on_goal 2 => clear_value x); revert x; change Keeps _ _ _)
    | (extract_lets +onlyGivenNames x; clear_value x)
    | with_reducible apply OutKeeps.next
    | with_reducible apply State.at_keeps
    | with_reducible apply State.resetTo_keeps
    | with_reducible apply Keeps.upd_supply)

/-- Changes at most: now, supply. -/
theorem execPinResetEnd_keeps {P : Nat} {s₀ : State} (t : Word) (s : State)
    (hP : 4611686018427387905 &&& P = 4611686018427387905) (h : Keeps P s₀ s) :
    OutKeeps P s₀ (execPinResetEnd t s) := by
  unfold execPinResetEnd
  repeat' (first
    | with_reducible assumption
    | exact Mask.sub hP (by decide)
    | (extract_lets +onlyGivenNames x; refine Keeps.cut P s₀ x ?_ fun hx => ?_; (on_goal 2 => clear_value x); revert x; change Keeps _ _ _)
    | (extract_lets +onlyGivenNames x; clear_value x)
    | with_reducible apply OutKeeps.next
    | with_reducible apply State.at_keeps
    | split
    | with_reducible apply Keeps.upd_supply)

/-- Changes any part but: now, straps, flash, ahead. -/
theorem State.softReset_keeps {P : Nat} {s₀ : State} (s : State) (key : ℕ)
    (hP : 17293822569102702582 &&& P = 17293822569102702582) (h : Keeps P s₀ s) :
    Keeps P s₀ (State.softReset s key) := by
  unfold State.softReset
  repeat' (first
    | with_reducible assumption
    | exact Mask.sub hP (by decide)
    | with_reducible apply State.wrej_keeps
    | with_reducible apply State.resetTo_keeps
    | split)

/-- Changes any part but: straps, flash, ahead. -/
theorem execSoftwareReset_keeps {P : Nat} {s₀ : State} (t : Word) (key : Fin 65536) (s : State)
    (hP : 17293822569102702583 &&& P = 17293822569102702583) (h : Keeps P s₀ s) :
    OutKeeps P s₀ (execSoftwareReset t key s) := by
  unfold execSoftwareReset
  repeat' (first
    | with_reducible assumption
    | exact Mask.sub hP (by decide)
    | (extract_lets +onlyGivenNames x; refine Keeps.cut P s₀ x ?_ fun hx => ?_; (on_goal 2 => clear_value x); revert x; change Keeps _ _ _)
    | (extract_lets +onlyGivenNames x; clear_value x)
    | with_reducible apply OutKeeps.next
    | with_reducible apply State.at_keeps
    | with_reducible apply State.softReset_keeps
    | split)

/-- Changes at most: now, power, straps, regs, weave, selv, enumStart, strand, supply, saf. -/
theorem execResetEnd_keeps {P : Nat} {s₀ : State} (t : Word) (side : Bool) (mirror : Bool) (s : State)
    (hP : 16147656463937437725 &&& P = 16147656463937437725) (h : Keeps P s₀ s) :
    OutKeeps P s₀ (execResetEnd t side mirror s) := by
  unfold execResetEnd
  repeat' (first
    | with_reducible assumption
    | exact Mask.sub hP (by decide)
    | (extract_lets +onlyGivenNames x; refine Keeps.cut P s₀ x ?_ fun hx => ?_; (on_goal 2 => clear_value x); revert x; change Keeps _ _ _)
    | (extract_lets +onlyGivenNames x; clear_value x)
    | (extract_lets +onlyGivenNames x)
    | with_reducible apply OutKeeps.next
    | with_reducible apply State.smMode_keeps
    | with_reducible apply State.enumBegin_keeps
    | with_reducible apply State.flag_keeps
    | with_reducible apply State.at_keeps
    | with_reducible apply State.startLoad_keeps
    | split
    | with_reducible apply Keeps.upd_power
    | with_reducible apply Keeps.upd_straps
    | with_reducible apply Keeps.upd_strand
    | with_reducible apply Keeps.upd_supply
    | with_reducible apply Keeps.upd_saf
    | (apply Keeps.many; (case h => assumption); (case hq => rfl); (case hf => exact Nat.le_refl _); (case hc => exact fun hc => hc); (case hm => exact fun h => h); (case hp => (intro p; cases p <;> first | exact Or.inr rfl | exact Or.inl (Mask.mem hP (by decide))))))

/-- Changes at most: now, regs, reports. -/
theorem execStartLateTimeout_keeps {P : Nat} {s₀ : State} (t : Word) (s : State)
    (hP : 8209 &&& P = 8209) (h : Keeps P s₀ s) :
    OutKeeps P s₀ (execStartLateTimeout t s) := by
  unfold execStartLateTimeout
  repeat' (first
    | with_reducible assumption
    | exact Mask.sub hP (by decide)
    | (extract_lets +onlyGivenNames x; refine Keeps.cut P s₀ x ?_ fun hx => ?_; (on_goal 2 => clear_value x); revert x; change Keeps _ _ _)
    | (extract_lets +onlyGivenNames x; clear_value x)
    | (extract_lets +onlyGivenNames x)
    | with_reducible apply OutKeeps.next
    | with_reducible apply State.startEvent_keeps
    | with_reducible apply State.set_keeps
    | with_reducible apply State.at_keeps
    | split)

/-- Changes at most: reports. -/
theorem State.supplyEvent_keeps {P : Nat} {s₀ : State} (s : State) (code : ℕ) (arg : ℕ)
    (hP : 8192 &&& P = 8192) (h : Keeps P s₀ s) :
    Keeps P s₀ (State.supplyEvent s code arg) := by
  unfold State.supplyEvent
  repeat' (first
    | with_reducible assumption
    | exact Mask.sub hP (by decide)
    | with_reducible apply State.report_keeps)

/-- Changes at most: regs, supply. -/
theorem State.smChange_keeps {P : Nat} {s₀ : State} (s : State) (m : ℕ) (out : ℕ)
    (hP : 4611686018427387920 &&& P = 4611686018427387920) (h : Keeps P s₀ s) :
    Keeps P s₀ (State.smChange s m out) := by
  unfold State.smChange
  repeat' (first
    | with_reducible assumption
    | exact Mask.sub hP (by decide)
    | (extract_lets +onlyGivenNames x; refine Keeps.cut P s₀ x ?_ fun hx => ?_; (on_goal 2 => clear_value x); revert x; change Keeps _ _ _)
    | (extract_lets +onlyGivenNames x; clear_value x)
    | with_reducible apply State.set_keeps
    | with_reducible apply Keeps.upd_supply)

/-- Changes at most: now, regs, supply. -/
theorem execSupplyMonitorTrip_keeps {P : Nat} {s₀ : State} (t : Word) (m : Fin 6) (s : State)
    (hP : 4611686018427387921 &&& P = 4611686018427387921) (h : Keeps P s₀ s) :
    OutKeeps P s₀ (execSupplyMonitorTrip t m s) := by
  unfold execSupplyMonitorTrip
  repeat' (first
    | with_reducible assumption
    | exact Mask.sub hP (by decide)
    | (extract_lets +onlyGivenNames x; refine Keeps.cut P s₀ x ?_ fun hx => ?_; (on_goal 2 => clear_value x); revert x; change Keeps _ _ _)
    | (extract_lets +onlyGivenNames x; clear_value x)
    | with_reducible apply OutKeeps.next
    | with_reducible apply State.at_keeps
    | with_reducible apply State.smChange_keeps
    | split)

/-- Changes any part but: straps, flash, ahead. -/
theorem execSupplyMonitorRelease_keeps {P : Nat} {s₀ : State} (t : Word) (m : Fin 6) (s : State)
    (hP : 17293822569102702583 &&& P = 17293822569102702583) (h : Keeps P s₀ s) :
    OutKeeps P s₀ (execSupplyMonitorRelease t m s) := by
  unfold execSupplyMonitorRelease
  repeat' (first
    | with_reducible assumption
    | exact Mask.sub hP (by decide)
    | (extract_lets +onlyGivenNames x; refine Keeps.cut P s₀ x ?_ fun hx => ?_; (on_goal 2 => clear_value x); revert x; change Keeps _ _ _)
    | (extract_lets +onlyGivenNames x; clear_value x)
    | (extract_lets +onlyGivenNames x)
    | with_reducible apply OutKeeps.next
    | with_reducible apply State.set_keeps
    | with_reducible apply State.at_keeps
    | with_reducible apply State.resetTo_keeps
    | with_reducible apply State.supplyEvent_keeps
    | with_reducible apply State.smChange_keeps
    | split)

/-- Changes at most: now, regs, reports. -/
theorem execSensorSupplyLow_keeps {P : Nat} {s₀ : State} (t : Word) (s : State)
    (hP : 8209 &&& P = 8209) (h : Keeps P s₀ s) :
    OutKeeps P s₀ (execSensorSupplyLow t s) := by
  unfold execSensorSupplyLow
  repeat' (first
    | with_reducible assumption
    | exact Mask.sub hP (by decide)
    | (extract_lets +onlyGivenNames x; refine Keeps.cut P s₀ x ?_ fun hx => ?_; (on_goal 2 => clear_value x); revert x; change Keeps _ _ _)
    | (extract_lets +onlyGivenNames x; clear_value x)
    | (extract_lets +onlyGivenNames x)
    | with_reducible apply OutKeeps.next
    | with_reducible apply State.set_keeps
    | with_reducible apply State.at_keeps
    | with_reducible apply State.supplyEvent_keeps
    | split)

/-- Changes at most: now, regs, ticks, reports, acc, strand. -/
theorem execEbbActive_keeps {P : Nat} {s₀ : State} (t : Word) (vbat : Fin 4096) (s : State)
    (hP : 2305843009482141713 &&& P = 2305843009482141713) (h : Keeps P s₀ s) :
    OutKeeps P s₀ (execEbbActive t vbat s) := by
  unfold execEbbActive
  repeat' (first
    | with_reducible assumption
    | exact Mask.sub hP (by decide)
    | (extract_lets +onlyGivenNames x; refine Keeps.cut P s₀ x ?_ fun hx => ?_; (on_goal 2 => clear_value x); revert x; change Keeps _ _ _)
    | (extract_lets +onlyGivenNames x; clear_value x)
    | (extract_lets +onlyGivenNames x)
    | with_reducible apply OutKeeps.next
    | with_reducible apply State.set_keeps
    | with_reducible apply State.inc_keeps
    | with_reducible apply State.accAdd_keeps
    | with_reducible apply State.at_keeps
    | with_reducible apply State.ebbCommit_keeps
    | with_reducible apply State.supplyEvent_keeps
    | split
    | with_reducible apply Keeps.upd_strand)

/-- Changes at most: now, regs, reports. -/
theorem execEbbInactive_keeps {P : Nat} {s₀ : State} (t : Word) (vbat : Fin 4096) (s : State)
    (hP : 8209 &&& P = 8209) (h : Keeps P s₀ s) :
    OutKeeps P s₀ (execEbbInactive t vbat s) := by
  unfold execEbbInactive
  repeat' (first
    | with_reducible assumption
    | exact Mask.sub hP (by decide)
    | (extract_lets +onlyGivenNames x; refine Keeps.cut P s₀ x ?_ fun hx => ?_; (on_goal 2 => clear_value x); revert x; change Keeps _ _ _)
    | (extract_lets +onlyGivenNames x; clear_value x)
    | (extract_lets +onlyGivenNames x)
    | with_reducible apply OutKeeps.next
    | with_reducible apply State.set_keeps
    | with_reducible apply State.at_keeps
    | with_reducible apply State.supplyEvent_keeps
    | split)

/-- Changes at most: regs, reports, supply. -/
theorem State.domainGo_keeps {P : Nat} {s₀ : State} (s : State) (d : ℕ) (st : ℕ)
    (hP : 4611686018427396112 &&& P = 4611686018427396112) (h : Keeps P s₀ s) :
    Keeps P s₀ (State.domainGo s d st) := by
  unfold State.domainGo
  repeat' (first
    | with_reducible assumption
    | exact Mask.sub hP (by decide)
    | (extract_lets +onlyGivenNames x; refine Keeps.cut P s₀ x ?_ fun hx => ?_; (on_goal 2 => clear_value x); revert x; change Keeps _ _ _)
    | (extract_lets +onlyGivenNames x; clear_value x)
    | with_reducible apply State.set_keeps
    | with_reducible apply State.report_keeps
    | with_reducible apply Keeps.upd_supply)

/-- Changes at most: regs, reports, supply. -/
theorem State.domainFollow_keeps {P : Nat} {s₀ : State} (s : State) (d : ℕ) (on : Bool)
    (hP : 4611686018427396112 &&& P = 4611686018427396112) (h : Keeps P s₀ s) :
    Keeps P s₀ (State.domainFollow s d on) := by
  unfold State.domainFollow
  repeat' (first
    | with_reducible assumption
    | exact Mask.sub hP (by decide)
    | with_reducible apply State.domainGo_keeps
    | split)

/-- Changes at most: regs, reports, supply. -/
theorem State.domainSwitch_keeps {P : Nat} {s₀ : State} (s : State) (d : ℕ) (on : Bool)
    (hP : 4611686018427396112 &&& P = 4611686018427396112) (h : Keeps P s₀ s) :
    Keeps P s₀ (State.domainSwitch s d on) := by
  unfold State.domainSwitch
  repeat' (first
    | with_reducible assumption
    | exact Mask.sub hP (by decide)
    | (extract_lets +onlyGivenNames x; refine Keeps.cut P s₀ x ?_ fun hx => ?_; (on_goal 2 => clear_value x); revert x; change Keeps _ _ _)
    | (extract_lets +onlyGivenNames x; clear_value x)
    | with_reducible apply State.flag_keeps
    | with_reducible apply State.domainFollow_keeps
    | split)

/-- Changes at most: regs, ticks, reports, supply. -/
theorem State.powerWrite_keeps {P : Nat} {s₀ : State} (s : State) (on : ℕ)
    (hP : 4611686018427400208 &&& P = 4611686018427400208) (h : Keeps P s₀ s) :
    Keeps P s₀ (State.powerWrite s on) := by
  unfold State.powerWrite
  repeat' (first
    | with_reducible assumption
    | exact Mask.sub hP (by decide)
    | with_reducible apply State.wrej_keeps
    | with_reducible apply State.domainSwitch_keeps
    | with_reducible apply Keeps.foldl
    | split
    | (intro _ _ _))

/-- Changes at most: now, regs, ticks, reports, supply. -/
theorem execDomainOffRequest_keeps {P : Nat} {s₀ : State} (t : Word) (d : Fin 6) (s : State)
    (hP : 4611686018427400209 &&& P = 4611686018427400209) (h : Keeps P s₀ s) :
    OutKeeps P s₀ (execDomainOffRequest t d s) := by
  unfold execDomainOffRequest
  repeat' (first
    | with_reducible assumption
    | exact Mask.sub hP (by decide)
    | (extract_lets +onlyGivenNames x; refine Keeps.cut P s₀ x ?_ fun hx => ?_; (on_goal 2 => clear_value x); revert x; change Keeps _ _ _)
    | (extract_lets +onlyGivenNames x; clear_value x)
    | (extract_lets +onlyGivenNames x)
    | with_reducible apply OutKeeps.next
    | with_reducible apply State.at_keeps
    | with_reducible apply State.powerWrite_keeps
    | split)

/-- Changes at most: now, regs, ticks, reports, supply. -/
theorem execDomainOnRequest_keeps {P : Nat} {s₀ : State} (t : Word) (d : Fin 6) (s : State)
    (hP : 4611686018427400209 &&& P = 4611686018427400209) (h : Keeps P s₀ s) :
    OutKeeps P s₀ (execDomainOnRequest t d s) := by
  unfold execDomainOnRequest
  repeat' (first
    | with_reducible assumption
    | exact Mask.sub hP (by decide)
    | (extract_lets +onlyGivenNames x; refine Keeps.cut P s₀ x ?_ fun hx => ?_; (on_goal 2 => clear_value x); revert x; change Keeps _ _ _)
    | (extract_lets +onlyGivenNames x; clear_value x)
    | (extract_lets +onlyGivenNames x)
    | with_reducible apply OutKeeps.next
    | with_reducible apply State.at_keeps
    | with_reducible apply State.powerWrite_keeps
    | split)

/-- Changes at most: regs, trace, ticks, reports, causes, warps, wefts, learn, shTok, bkTok, pair, acc, shuttles, pulseOuts, maps, svc, ovs, strand, supply. -/
theorem State.domainOff_keeps {P : Nat} {s₀ : State} (s : State) (d : ℕ)
    (hP : 6919077143097978928 &&& P = 6919077143097978928) (h : Keeps P s₀ s) :
    Keeps P s₀ (State.domainOff s d) := by
  unfold State.domainOff
  repeat' (first
    | with_reducible assumption
    | exact Mask.sub hP (by decide)
    | (extract_lets +onlyGivenNames x; refine Keeps.cut P s₀ x ?_ fun hx => ?_; (on_goal 2 => clear_value x); revert x; change Keeps _ _ _)
    | (extract_lets +onlyGivenNames x; clear_value x)
    | (extract_lets +onlyGivenNames x)
    | with_reducible apply State.setLink_keeps
    | with_reducible apply State.domainGo_keeps
    | exact Cells.wf_set _ _ _ _
    | exact Cells.wf_filter _ _ _
    | exact fun _ => rfl
    | split
    | with_reducible apply Keeps.upd_trace
    | with_reducible apply Keeps.upd_supply
    | (apply Keeps.many; (case h => assumption); (case hq => rfl); (case hf => exact Nat.le_refl _); (case hc => exact fun hc => hc); (case hm => exact fun h => h); (case hp => (intro p; cases p <;> first | exact Or.inr rfl | exact Or.inl (Mask.mem hP (by decide))))))

/-- Changes at most: now, regs, trace, ticks, reports, causes, warps, wefts, learn, shTok, bkTok, pair, acc, shuttles, pulseOuts, maps, svc, ovs, strand, supply. -/
theorem execDrainEnd_keeps {P : Nat} {s₀ : State} (t : Word) (d : Fin 6) (s : State)
    (hP : 6919077143097978929 &&& P = 6919077143097978929) (h : Keeps P s₀ s) :
    OutKeeps P s₀ (execDrainEnd t d s) := by
  unfold execDrainEnd
  repeat' (first
    | with_reducible assumption
    | exact Mask.sub hP (by decide)
    | (extract_lets +onlyGivenNames x; refine Keeps.cut P s₀ x ?_ fun hx => ?_; (on_goal 2 => clear_value x); revert x; change Keeps _ _ _)
    | (extract_lets +onlyGivenNames x; clear_value x)
    | (extract_lets +onlyGivenNames x)
    | with_reducible apply OutKeeps.next
    | with_reducible apply State.at_keeps
    | with_reducible apply State.domainOff_keeps
    | split)

/-- Changes at most: regs, reports, cans, ports, supply. -/
theorem State.domainWoken_keeps {P : Nat} {s₀ : State} (s : State) (d : ℕ)
    (hP : 4701758010974806032 &&& P = 4701758010974806032) (h : Keeps P s₀ s) :
    Keeps P s₀ (State.domainWoken s d) := by
  unfold State.domainWoken
  repeat' (first
    | with_reducible assumption
    | exact Mask.sub hP (by decide)
    | (extract_lets +onlyGivenNames x; refine Keeps.cut P s₀ x ?_ fun hx => ?_; (on_goal 2 => clear_value x); revert x; change Keeps _ _ _)
    | (extract_lets +onlyGivenNames x; clear_value x)
    | with_reducible apply State.setCan_keeps
    | with_reducible apply State.set_keeps
    | with_reducible apply State.domainGo_keeps
    | with_reducible apply Keeps.foldl
    | split
    | (intro _ _ _)
    | with_reducible apply Keeps.upd_ports)

/-- Changes at most: now, regs, reports, cans, ports, supply. -/
theorem execDomainWakeDone_keeps {P : Nat} {s₀ : State} (t : Word) (d : Fin 6) (s : State)
    (hP : 4701758010974806033 &&& P = 4701758010974806033) (h : Keeps P s₀ s) :
    OutKeeps P s₀ (execDomainWakeDone t d s) := by
  unfold execDomainWakeDone
  repeat' (first
    | with_reducible assumption
    | exact Mask.sub hP (by decide)
    | (extract_lets +onlyGivenNames x; refine Keeps.cut P s₀ x ?_ fun hx => ?_; (on_goal 2 => clear_value x); revert x; change Keeps _ _ _)
    | (extract_lets +onlyGivenNames x; clear_value x)
    | (extract_lets +onlyGivenNames x)
    | with_reducible apply OutKeeps.next
    | with_reducible apply State.at_keeps
    | with_reducible apply State.domainWoken_keeps
    | split)

/-- Changes at most: regs, work, ticks, reports, causes, weave, warps, wefts, learn, shTok, bkTok, pair, acc, shuttles, seqTok, pulseOuts, banks, cmps, boosts, closures, seqs, cmbSig, combust, trimDue, maps, svc, ovs, dmaTrigs, strand, supply. -/
theorem State.standbyRequest_keeps {P : Nat} {s₀ : State} (s : State) (key : ℕ)
    (hP : 7495652378828943440 &&& P = 7495652378828943440) (h : Keeps P s₀ s) :
    Keeps P s₀ (State.standbyRequest s key) := by
  unfold State.standbyRequest
  repeat' (first
    | with_reducible assumption
    | exact Mask.sub hP (by decide)
    | (extract_lets +onlyGivenNames x; refine Keeps.cut P s₀ x ?_ fun hx => ?_; (on_goal 2 => clear_value x); revert x; change Keeps _ _ _)
    | (extract_lets +onlyGivenNames x; clear_value x)
    | (extract_lets +onlyGivenNames x)
    | with_reducible apply State.boostOff_keeps
    | with_reducible apply State.loomStop_keeps
    | with_reducible apply State.set_keeps
    | with_reducible apply State.wrej_keeps
    | with_reducible apply State.requestCommit_keeps
    | with_reducible apply Keeps.foldl
    | split
    | (intro _ _ _)
    | with_reducible apply Keeps.upd_supply)

/-- Changes at most: now, regs, work, ticks, reports, causes, weave, warps, wefts, learn, shTok, bkTok, pair, acc, shuttles, seqTok, pulseOuts, banks, cmps, boosts, closures, seqs, cmbSig, combust, trimDue, maps, svc, ovs, dmaTrigs, strand, supply. -/
theorem execStandbyRequest_keeps {P : Nat} {s₀ : State} (t : Word) (key : Fin 65536) (s : State)
    (hP : 7495652378828943441 &&& P = 7495652378828943441) (h : Keeps P s₀ s) :
    OutKeeps P s₀ (execStandbyRequest t key s) := by
  unfold execStandbyRequest
  repeat' (first
    | with_reducible assumption
    | exact Mask.sub hP (by decide)
    | (extract_lets +onlyGivenNames x; refine Keeps.cut P s₀ x ?_ fun hx => ?_; (on_goal 2 => clear_value x); revert x; change Keeps _ _ _)
    | (extract_lets +onlyGivenNames x; clear_value x)
    | with_reducible apply OutKeeps.next
    | with_reducible apply State.at_keeps
    | with_reducible apply State.standbyRequest_keeps
    | split)

/-- Changes any part but: now, straps, flash, ahead. -/
theorem State.standbyEnter_keeps {P : Nat} {s₀ : State} (s : State)
    (hP : 17293822569102702582 &&& P = 17293822569102702582) (h : Keeps P s₀ s) :
    Keeps P s₀ (State.standbyEnter s) := by
  unfold State.standbyEnter
  repeat' (first
    | with_reducible assumption
    | exact Mask.sub hP (by decide)
    | (extract_lets +onlyGivenNames x; refine Keeps.cut P s₀ x ?_ fun hx => ?_; (on_goal 2 => clear_value x); revert x; change Keeps _ _ _)
    | (extract_lets +onlyGivenNames x; clear_value x)
    | with_reducible apply State.smMode_keeps
    | with_reducible apply State.setReg_keeps
    | with_reducible apply State.resetTo_keeps
    | exact Cells.wf_set _ _ _ _
    | exact Cells.wf_filter _ _ _
    | exact fun _ => rfl
    | with_reducible apply Keeps.foldl
    | split
    | (intro _ _ _)
    | with_reducible apply Keeps.upd_power
    | with_reducible apply Keeps.upd_regs
    | with_reducible apply Keeps.upd_trace
    | with_reducible apply Keeps.upd_work
    | with_reducible apply Keeps.upd_ticks
    | with_reducible apply Keeps.upd_reports
    | with_reducible apply Keeps.upd_mergeOpen
    | with_reducible apply Keeps.upd_fifo
    | with_reducible apply Keeps.upd_causes
    | with_reducible apply Keeps.upd_crossings
    | with_reducible apply Keeps.upd_gov
    | with_reducible apply Keeps.upd_weave
    | with_reducible apply Keeps.upd_primary
    | with_reducible apply Keeps.upd_warps
    | with_reducible apply Keeps.upd_wefts
    | with_reducible apply Keeps.upd_learn
    | with_reducible apply Keeps.upd_shTok
    | with_reducible apply Keeps.upd_bkTok
    | with_reducible apply Keeps.upd_pair
    | with_reducible apply Keeps.upd_recJobs
    | with_reducible apply Keeps.upd_acc
    | with_reducible apply Keeps.upd_shuttles
    | with_reducible apply Keeps.upd_seqTok
    | with_reducible apply Keeps.upd_pulseOuts
    | with_reducible apply Keeps.upd_banks
    | with_reducible apply Keeps.upd_cmps
    | with_reducible apply Keeps.upd_boosts
    | with_reducible apply Keeps.upd_closures
    | with_reducible apply Keeps.upd_seqs
    | with_reducible apply Keeps.upd_slices
    | with_reducible apply Keeps.upd_rot
    | with_reducible apply Keeps.upd_inCal
    | with_reducible apply Keeps.upd_wmons
    | with_reducible apply Keeps.upd_ptimers
    | with_reducible apply Keeps.upd_monTest
    | with_reducible apply Keeps.upd_cmbSig
    | with_reducible apply Keeps.upd_pins
    | with_reducible apply Keeps.upd_combust
    | with_reducible apply Keeps.upd_trimDue
    | with_reducible apply Keeps.upd_maps
    | with_reducible apply Keeps.upd_svc
    | with_reducible apply Keeps.upd_rail
    | with_reducible apply Keeps.upd_ovs
    | with_reducible apply Keeps.upd_selv
    | with_reducible apply Keeps.upd_enumStart
    | with_reducible apply Keeps.upd_host
    | with_reducible apply Keeps.upd_cans
    | with_reducible apply Keeps.upd_streams
    | with_reducible apply Keeps.upd_ports
    | with_reducible apply Keeps.upd_sents
    | with_reducible apply Keeps.upd_dma
    | with_reducible apply Keeps.upd_dmaTrigs
    | with_reducible apply Keeps.upd_strand
    | with_reducible apply Keeps.upd_supply
    | with_reducible apply Keeps.upd_saf
    | (apply Keeps.many; (case h => assumption); (case hq => rfl); (case hf => exact Nat.le_refl _); (case hc => (intro hc; simp only [State.canonical, Bool.and_eq_true] at hc ⊢; (try split) <;> simp_all [State.resetWork_wf])); (case hm => (intro _; rfl)); (case hp => (intro p; cases p <;> first | exact Or.inr rfl | exact Or.inl (Mask.mem hP (by decide))))))

/-- Changes at most: regs, trace, ticks, reports, causes, warps, wefts, learn, shTok, bkTok, pair, acc, shuttles, pulseOuts, maps, svc, ovs, strand, supply. -/
theorem State.standbyDrain_keeps {P : Nat} {s₀ : State} (s : State)
    (hP : 6919077143097978928 &&& P = 6919077143097978928) (h : Keeps P s₀ s) :
    Keeps P s₀ (State.standbyDrain s) := by
  unfold State.standbyDrain
  repeat' (first
    | with_reducible assumption
    | exact Mask.sub hP (by decide)
    | (extract_lets +onlyGivenNames x; refine Keeps.cut P s₀ x ?_ fun hx => ?_; (on_goal 2 => clear_value x); revert x; change Keeps _ _ _)
    | (extract_lets +onlyGivenNames x; clear_value x)
    | (extract_lets +onlyGivenNames x)
    | with_reducible apply State.domainGo_keeps
    | with_reducible apply State.domainOff_keeps
    | with_reducible apply Keeps.foldl
    | split
    | (intro _ _ _))

/-- Changes any part but: straps, flash, ahead. -/
theorem execStandbyComplete_keeps {P : Nat} {s₀ : State} (t : Word) (s : State)
    (hP : 17293822569102702583 &&& P = 17293822569102702583) (h : Keeps P s₀ s) :
    OutKeeps P s₀ (execStandbyComplete t s) := by
  unfold execStandbyComplete
  repeat' (first
    | with_reducible assumption
    | exact Mask.sub hP (by decide)
    | (extract_lets +onlyGivenNames x; refine Keeps.cut P s₀ x ?_ fun hx => ?_; (on_goal 2 => clear_value x); revert x; change Keeps _ _ _)
    | (extract_lets +onlyGivenNames x; clear_value x)
    | (extract_lets +onlyGivenNames x)
    | with_reducible apply OutKeeps.next
    | with_reducible apply State.at_keeps
    | with_reducible apply State.standbyEnter_keeps
    | with_reducible apply State.standbyDrain_keeps
    | split)

/-- Changes at most: now, regs, supply. -/
theorem execWakeInput_keeps {P : Nat} {s₀ : State} (t : Word) (level : Bool) (s : State)
    (hP : 4611686018427387921 &&& P = 4611686018427387921) (h : Keeps P s₀ s) :
    OutKeeps P s₀ (execWakeInput t level s) := by
  unfold execWakeInput
  repeat' (first
    | with_reducible assumption
    | exact Mask.sub hP (by decide)
    | (extract_lets +onlyGivenNames x; refine Keeps.cut P s₀ x ?_ fun hx => ?_; (on_goal 2 => clear_value x); revert x; change Keeps _ _ _)
    | (extract_lets +onlyGivenNames x; clear_value x)
    | (extract_lets +onlyGivenNames x)
    | with_reducible apply OutKeeps.next
    | with_reducible apply State.set_keeps
    | with_reducible apply State.at_keeps
    | split
    | with_reducible apply Keeps.upd_supply)

/-- Changes any part but: straps, flash, ahead. -/
theorem execWakeFilterExpiry_keeps {P : Nat} {s₀ : State} (t : Word) (s : State)
    (hP : 17293822569102702583 &&& P = 17293822569102702583) (h : Keeps P s₀ s) :
    OutKeeps P s₀ (execWakeFilterExpiry t s) := by
  unfold execWakeFilterExpiry
  repeat' (first
    | with_reducible assumption
    | exact Mask.sub hP (by decide)
    | (extract_lets +onlyGivenNames x; refine Keeps.cut P s₀ x ?_ fun hx => ?_; (on_goal 2 => clear_value x); revert x; change Keeps _ _ _)
    | (extract_lets +onlyGivenNames x; clear_value x)
    | (extract_lets +onlyGivenNames x)
    | with_reducible apply OutKeeps.next
    | with_reducible apply State.flag_keeps
    | with_reducible apply State.at_keeps
    | with_reducible apply State.resetTo_keeps
    | split)

/-- Changes any part but: straps, flash, ahead. -/
theorem execWakeTimer_keeps {P : Nat} {s₀ : State} (t : Word) (s : State)
    (hP : 17293822569102702583 &&& P = 17293822569102702583) (h : Keeps P s₀ s) :
    OutKeeps P s₀ (execWakeTimer t s) := by
  unfold execWakeTimer
  repeat' (first
    | with_reducible assumption
    | exact Mask.sub hP (by decide)
    | (extract_lets +onlyGivenNames x; refine Keeps.cut P s₀ x ?_ fun hx => ?_; (on_goal 2 => clear_value x); revert x; change Keeps _ _ _)
    | (extract_lets +onlyGivenNames x; clear_value x)
    | (extract_lets +onlyGivenNames x)
    | with_reducible apply OutKeeps.next
    | with_reducible apply State.at_keeps
    | with_reducible apply State.resetTo_keeps
    | split)

end Sys2Proof.Machine
end

