-- ==== Sys2Proof/Laws/KeepsBus.lean ====
section
/-!
SUPPORT. What each operation of Machine/Bus.lean may change (Laws/Keeps.lean).
-/
set_option linter.unusedTactic false
set_option linter.unreachableTactic false
namespace Sys2Proof.Machine

/-- Changes at most: fresh, regs. -/
theorem State.readEffect_keeps {P : Nat} {s₀ : State} (s : State) (a : ℕ)
    (hP : 18 &&& P = 18) (h : Keeps P s₀ s) :
    Keeps P s₀ (State.readEffect s a) := by
  unfold State.readEffect
  repeat' (first
    | with_reducible assumption
    | exact Mask.sub hP (by decide)
    | with_reducible apply State.updRead_keeps
    | with_reducible apply State.snapRead_keeps
    | with_reducible apply Keeps.foldl
    | split
    | (intro _ _ _))

/-- Changes at most: regs, work, ticks, reports, causes, weave, warps, wefts, learn, shTok, bkTok, pair, acc, shuttles, seqTok, pulseOuts, banks, cmps, boosts, closures, seqs, cmbSig, combust, trimDue, maps, svc, ovs, dmaTrigs, strand. -/
theorem State.weaveCommand_keeps {P : Nat} {s₀ : State} (s : State) (cmd : ℕ) (ply : ℕ)
    (hP : 2883966360401555536 &&& P = 2883966360401555536) (h : Keeps P s₀ s) :
    Keeps P s₀ (State.weaveCommand s cmd ply) := by
  unfold State.weaveCommand
  repeat' (first
    | with_reducible assumption
    | exact Mask.sub hP (by decide)
    | (extract_lets +onlyGivenNames x; refine Keeps.cut P s₀ x ?_ fun hx => ?_; (on_goal 2 => clear_value x); revert x; change Keeps _ _ _)
    | (extract_lets +onlyGivenNames x; clear_value x)
    | with_reducible apply State.doRun_keeps
    | with_reducible apply State.stopCommand_keeps
    | with_reducible apply State.cmdRej_keeps
    | with_reducible apply State.doLoad_keeps
    | with_reducible apply State.doVerify_keeps
    | with_reducible apply State.doErase_keeps
    | with_reducible apply State.doMirror_keeps
    | split)

/-- Changes any part but: now, straps, flash, ahead. -/
theorem State.actSystem_keeps {P : Nat} {s₀ : State} (s : State) (a : ℕ) (v : Word)
    (hP : 17293822569102702582 &&& P = 17293822569102702582) (h : Keeps P s₀ s) :
    Keeps P s₀ (State.actSystem s a v) := by
  unfold State.actSystem
  repeat' (first
    | with_reducible assumption
    | exact Mask.sub hP (by decide)
    | with_reducible apply State.weaveCommand_keeps
    | with_reducible apply State.latClear_keeps
    | with_reducible apply State.releaseWrite_keeps
    | with_reducible apply State.safClear_keeps
    | with_reducible apply State.softReset_keeps
    | split)

/-- Changes at most: regs, ticks, reports, shuttles, seqTok, banks, cmps, dmaTrigs. -/
theorem State.shtCtrlWrite_keeps {P : Nat} {s₀ : State} (s : State) (i : ℕ) (new : Word)
    (hP : 576460766798950416 &&& P = 576460766798950416) (h : Keeps P s₀ s) :
    Keeps P s₀ (State.shtCtrlWrite s i new) := by
  unfold State.shtCtrlWrite
  repeat' (first
    | with_reducible assumption
    | exact Mask.sub hP (by decide)
    | (extract_lets +onlyGivenNames x; refine Keeps.cut P s₀ x ?_ fun hx => ?_; (on_goal 2 => clear_value x); revert x; change Keeps _ _ _)
    | (extract_lets +onlyGivenNames x; clear_value x)
    | with_reducible apply State.set_keeps
    | with_reducible apply State.shtEnable_keeps
    | with_reducible apply State.shtDisable_keeps
    | with_reducible apply State.shtOffer_keeps
    | split)

/-- Changes at most: fresh, regs, ticks, reports, acc, shuttles, seqTok, banks, cmps. -/
theorem State.contWrite_keeps {P : Nat} {s₀ : State} (s : State) (i : ℕ) (new : Word)
    (hP : 14763962386 &&& P = 14763962386) (h : Keeps P s₀ s) :
    Keeps P s₀ (State.contWrite s i new) := by
  unfold State.contWrite
  repeat' (first
    | with_reducible assumption
    | exact Mask.sub hP (by decide)
    | (extract_lets +onlyGivenNames x; refine Keeps.cut P s₀ x ?_ fun hx => ?_; (on_goal 2 => clear_value x); revert x; change Keeps _ _ _)
    | (extract_lets +onlyGivenNames x; clear_value x)
    | with_reducible apply State.contEnable_keeps
    | with_reducible apply State.contDisable_keeps
    | with_reducible apply State.contRetune_keeps
    | with_reducible apply State.set_keeps
    | split)

/-- Changes at most: fresh, regs, work, ticks, reports, warps, learn, acc, shuttles, seqTok, banks, cmps, dmaTrigs. -/
theorem State.actAngle_keeps {P : Nat} {s₀ : State} (s : State) (a : ℕ) (i : ℕ) (j : ℕ) (v : Word) (old : Word) (new : Word)
    (hP : 576460767077871698 &&& P = 576460767077871698) (h : Keeps P s₀ s) :
    Keeps P s₀ (State.actAngle s a i j v old new) := by
  unfold State.actAngle
  repeat' (first
    | with_reducible assumption
    | exact Mask.sub hP (by decide)
    | with_reducible apply State.dropTests_keeps
    | with_reducible apply State.bankClear_keeps
    | with_reducible apply State.shtCtrlWrite_keeps
    | with_reducible apply State.contWrite_keeps
    | with_reducible apply State.latchClear_keeps
    | with_reducible apply State.thermalOff_keeps
    | with_reducible apply State.dcntClear_keeps
    | with_reducible apply State.set_keeps
    | with_reducible apply State.weftClear_keeps
    | with_reducible apply State.learnAbort_keeps
    | with_reducible apply State.clearProfile_keeps
    | with_reducible apply State.shtClear_keeps
    | with_reducible apply State.warpClear_keeps
    | refine Keeps.ite ?_ ?_
    | split)

/-- Changes at most: regs, ticks, reports, seqs. -/
theorem State.seqCtrlWrite_keeps {P : Nat} {s₀ : State} (s : State) (i : ℕ) (v : Word) (new : Word)
    (hP : 68719489040 &&& P = 68719489040) (h : Keeps P s₀ s) :
    Keeps P s₀ (State.seqCtrlWrite s i v new) := by
  unfold State.seqCtrlWrite
  repeat' (first
    | with_reducible assumption
    | exact Mask.sub hP (by decide)
    | (extract_lets +onlyGivenNames x; refine Keeps.cut P s₀ x ?_ fun hx => ?_; (on_goal 2 => clear_value x); revert x; change Keeps _ _ _)
    | (extract_lets +onlyGivenNames x; clear_value x)
    | (extract_lets +onlyGivenNames x)
    | with_reducible apply State.seqTrigger_keeps
    | with_reducible apply State.seqEnable_keeps
    | with_reducible apply State.seqClear_keeps
    | split)

/-- Changes at most: regs, ptimers, dmaTrigs. -/
theorem State.ptCfgWrite_keeps {P : Nat} {s₀ : State} (s : State) (i : ℕ) (old : Word) (new : Word)
    (hP : 576462951326679056 &&& P = 576462951326679056) (h : Keeps P s₀ s) :
    Keeps P s₀ (State.ptCfgWrite s i old new) := by
  unfold State.ptCfgWrite
  repeat' (first
    | with_reducible assumption
    | exact Mask.sub hP (by decide)
    | with_reducible apply State.ptStart_keeps
    | with_reducible apply State.ptStop_keeps
    | split)

/-- Changes at most: regs, ticks, reports, seqs, rot, wmons, ptimers, dmaTrigs. -/
theorem State.actFront_keeps {P : Nat} {s₀ : State} (s : State) (a : ℕ) (i : ℕ) (v : Word) (old : Word) (new : Word)
    (hP : 576464394435702800 &&& P = 576464394435702800) (h : Keeps P s₀ s) :
    Keeps P s₀ (State.actFront s a i v old new) := by
  unfold State.actFront
  repeat' (first
    | with_reducible assumption
    | exact Mask.sub hP (by decide)
    | (extract_lets +onlyGivenNames x; refine Keeps.cut P s₀ x ?_ fun hx => ?_; (on_goal 2 => clear_value x); revert x; change Keeps _ _ _)
    | (extract_lets +onlyGivenNames x; clear_value x)
    | (extract_lets +onlyGivenNames x)
    | with_reducible apply State.seqCtrlWrite_keeps
    | with_reducible apply State.ptCfgWrite_keeps
    | with_reducible apply State.wmMode_keeps
    | with_reducible apply State.wmClear_keeps
    | with_reducible apply State.clearLatch_keeps
    | with_reducible apply State.set_keeps
    | split
    | with_reducible apply Keeps.upd_rot)

/-- Changes at most: regs, work, ticks, reports, causes, banks, cmps, pins, svc, rail, selv, enumStart, saf. -/
theorem State.actService_keeps {P : Nat} {s₀ : State} (s : State) (a : ℕ) (i : ℕ) (v : Word) (old : Word) (new : Word)
    (hP : 9230989466296987728 &&& P = 9230989466296987728) (h : Keeps P s₀ s) :
    Keeps P s₀ (State.actService s a i v old new) := by
  unfold State.actService
  repeat' (first
    | with_reducible assumption
    | exact Mask.sub hP (by decide)
    | with_reducible apply State.idnCommand_keeps
    | with_reducible apply State.railEval_keeps
    | with_reducible apply State.pinConfig_keeps
    | with_reducible apply State.clearCounts_keeps
    | with_reducible apply State.trimOff_keeps
    | with_reducible apply State.demandSwap_keeps
    | split)

/-- Changes at most: pulseOuts. -/
theorem State.actPulse_keeps {P : Nat} {s₀ : State} (s : State) (a : ℕ)
    (hP : 2147483648 &&& P = 2147483648) (h : Keeps P s₀ s) :
    Keeps P s₀ (State.actPulse s a) := by
  unfold State.actPulse
  repeat' (first
    | with_reducible assumption
    | exact Mask.sub hP (by decide)
    | (extract_lets +onlyGivenNames x; refine Keeps.cut P s₀ x ?_ fun hx => ?_; (on_goal 2 => clear_value x); revert x; change Keeps _ _ _)
    | (extract_lets +onlyGivenNames x; clear_value x)
    | with_reducible apply State.setPo_keeps
    | split)

/-- Changes at most: regs, work, flash, ticks, learn, host, cans. -/
theorem State.actLink_keeps {P : Nat} {s₀ : State} (s : State) (a : ℕ) (i : ℕ) (v : Word)
    (hP : 27021597772617808 &&& P = 27021597772617808) (h : Keeps P s₀ s) :
    Keeps P s₀ (State.actLink s a i v) := by
  unfold State.actLink
  repeat' (first
    | with_reducible assumption
    | exact Mask.sub hP (by decide)
    | with_reducible apply State.canRequest_keeps
    | with_reducible apply State.canAck_keeps
    | with_reducible apply State.canRecover_keeps
    | with_reducible apply State.flashCommand_keeps
    | with_reducible apply State.linkClear_keeps
    | with_reducible apply Keeps.foldl
    | split
    | (intro _ _ _))

/-- Changes at most: regs, ticks, dma. -/
theorem State.dmaCtrlWrite_keeps {P : Nat} {s₀ : State} (s : State) (i : ℕ) (v : Word) (new : Word)
    (hP : 288230376151715856 &&& P = 288230376151715856) (h : Keeps P s₀ s) :
    Keeps P s₀ (State.dmaCtrlWrite s i v new) := by
  unfold State.dmaCtrlWrite
  repeat' (first
    | with_reducible assumption
    | exact Mask.sub hP (by decide)
    | (extract_lets +onlyGivenNames x; refine Keeps.cut P s₀ x ?_ fun hx => ?_; (on_goal 2 => clear_value x); revert x; change Keeps _ _ _)
    | (extract_lets +onlyGivenNames x; clear_value x)
    | with_reducible apply State.dmaArrive_keeps
    | with_reducible apply State.dmaStop_keeps
    | with_reducible apply State.dmaResume_keeps
    | with_reducible apply State.dmaEnable_keeps
    | with_reducible apply State.dmaDisable_keeps
    | split)

/-- Changes at most: regs, ticks, reports, pair, dma, strand. -/
theorem State.actData_keeps {P : Nat} {s₀ : State} (s : State) (a : ℕ) (i : ℕ) (v : Word) (new : Word)
    (hP : 2594073385432526864 &&& P = 2594073385432526864) (h : Keeps P s₀ s) :
    Keeps P s₀ (State.actData s a i v new) := by
  unfold State.actData
  repeat' (first
    | with_reducible assumption
    | exact Mask.sub hP (by decide)
    | with_reducible apply State.dmaCtrlWrite_keeps
    | with_reducible apply State.dmaClear_keeps
    | with_reducible apply State.divClear_keeps
    | with_reducible apply State.prxClear_keeps
    | with_reducible apply State.commitCommand_keeps
    | with_reducible apply State.recClear_keeps
    | split)

/-- Changes at most: regs, work, ticks, reports, causes, weave, warps, wefts, learn, shTok, bkTok, pair, acc, shuttles, seqTok, pulseOuts, banks, cmps, boosts, closures, seqs, cmbSig, combust, trimDue, maps, svc, ovs, dmaTrigs, strand, supply. -/
theorem State.writePower_keeps {P : Nat} {s₀ : State} (s : State) (r : RegRow) (v : Word)
    (hP : 7495652378828943440 &&& P = 7495652378828943440) (h : Keeps P s₀ s) :
    Keeps P s₀ (State.writePower s r v) := by
  unfold State.writePower
  repeat' (first
    | with_reducible assumption
    | exact Mask.sub hP (by decide)
    | (extract_lets +onlyGivenNames x; refine Keeps.cut P s₀ x ?_ fun hx => ?_; (on_goal 2 => clear_value x); revert x; change Keeps _ _ _)
    | (extract_lets +onlyGivenNames x; clear_value x)
    | with_reducible apply State.wrej_keeps
    | with_reducible apply State.powerWrite_keeps
    | with_reducible apply State.standbyRequest_keeps
    | split)

/-- Changes any part but: now, straps, ahead. -/
theorem State.regWrite_keeps {P : Nat} {s₀ : State} (s : State) (r : RegRow) (a : ℕ) (i : ℕ) (j : ℕ) (v : Word)
    (hP : 17293822569102704630 &&& P = 17293822569102704630) (h : Keeps P s₀ s) :
    Keeps P s₀ (State.regWrite s r a i j v) := by
  unfold State.regWrite
  repeat' (first
    | with_reducible assumption
    | exact Mask.sub hP (by decide)
    | (extract_lets +onlyGivenNames x; refine Keeps.cut P s₀ x ?_ fun hx => ?_; (on_goal 2 => clear_value x); revert x; change Keeps _ _ _)
    | (extract_lets +onlyGivenNames x; clear_value x)
    | with_reducible apply State.actSystem_keeps
    | with_reducible apply State.actAngle_keeps
    | with_reducible apply State.actFront_keeps
    | with_reducible apply State.actService_keeps
    | with_reducible apply State.actPulse_keeps
    | with_reducible apply State.actLink_keeps
    | with_reducible apply State.actData_keeps
    | with_reducible apply State.writePower_keeps
    | with_reducible apply State.setReg_keeps
    | with_reducible apply State.wrej_keeps
    | with_reducible apply Keeps.foldl
    | split
    | (intro _ _ _))

/-- Changes at most: regs, work, learn. -/
theorem State.workWriteBy_keeps {P : Nat} {s₀ : State} (s : State) (w : ℕ) (v : Word)
    (hP : 8388688 &&& P = 8388688) (h : Keeps P s₀ s) :
    Keeps P s₀ (State.workWriteBy s w v) := by
  unfold State.workWriteBy
  repeat' (first
    | with_reducible assumption
    | exact Mask.sub hP (by decide)
    | (extract_lets +onlyGivenNames x; refine Keeps.cut P s₀ x ?_ fun hx => ?_; (on_goal 2 => clear_value x); revert x; change Keeps _ _ _)
    | (extract_lets +onlyGivenNames x; clear_value x)
    | with_reducible apply State.workSet_keeps
    | with_reducible apply State.showSigValid_keeps
    | split
    | with_reducible apply Keeps.upd_learn)

/-- Changes at most: regs, ticks. -/
theorem State.reservedWrite_keeps {P : Nat} {s₀ : State} (s : State) (m : Master)
    (hP : 4112 &&& P = 4112) (h : Keeps P s₀ s) :
    Keeps P s₀ (State.reservedWrite s m).1 := by
  unfold State.reservedWrite
  repeat' (first
    | with_reducible assumption
    | exact Mask.sub hP (by decide)
    | with_reducible apply State.wrej_keeps
    | split)

/-- Changes at most: regs, trace, work, ticks, weave, learn. -/
theorem State.pageWrite_keeps {P : Nat} {s₀ : State} (s : State) (m : Master) (admitted : Bool) (p : ℕ) (w : ℕ) (v : Word)
    (hP : 8917104 &&& P = 8917104) (h : Keeps P s₀ s) :
    Keeps P s₀ (State.pageWrite s m admitted p w v).1 := by
  unfold State.pageWrite
  repeat' (first
    | with_reducible assumption
    | exact Mask.sub hP (by decide)
    | with_reducible apply State.workWriteBy_keeps
    | with_reducible apply State.reservedWrite_keeps
    | with_reducible apply State.wrej_keeps
    | with_reducible apply State.traceSet_keeps
    | with_reducible apply State.storeWrite_keeps
    | split
    | refine Keeps.ofFst (by assumption) ?_
    | refine Keeps.ofSnd (by assumption) ?_
    | refine Keeps.ofMid (by assumption) ?_)

/-- Changes any part but: now, straps, ahead. -/
theorem State.busWrite_keeps {P : Nat} {s₀ : State} (s : State) (m : Master) (admitted : Bool) (p : ℕ) (a : ℕ) (v : Word)
    (hP : 17293822569102704630 &&& P = 17293822569102704630) (h : Keeps P s₀ s) :
    Keeps P s₀ (State.busWrite s m admitted p a v).1 := by
  unfold State.busWrite
  repeat' (first
    | with_reducible assumption
    | exact Mask.sub hP (by decide)
    | (extract_lets +onlyGivenNames x; refine Keeps.cut P s₀ x ?_ fun hx => ?_; (on_goal 2 => clear_value x); revert x; change Keeps _ _ _)
    | (extract_lets +onlyGivenNames x; refine Keeps.cutFst P s₀ x ?_ fun hx => ?_; (on_goal 2 => clear_value x); revert x; change Keeps _ _ _)
    | (extract_lets +onlyGivenNames x; refine Keeps.cutMid P s₀ x ?_ fun hx => ?_; (on_goal 2 => clear_value x); revert x; change Keeps _ _ _)
    | (extract_lets +onlyGivenNames x; refine Keeps.cutSnd P s₀ x ?_ fun hx => ?_; (on_goal 2 => clear_value x); revert x; change Keeps _ _ _)
    | (extract_lets +onlyGivenNames x; clear_value x)
    | with_reducible apply State.regWrite_keeps
    | with_reducible apply State.reservedWrite_keeps
    | with_reducible apply State.pageWrite_keeps
    | split
    | refine Keeps.ofFst (by assumption) ?_
    | refine Keeps.ofSnd (by assumption) ?_
    | refine Keeps.ofMid (by assumption) ?_)

/-- Changes at most: nothing. -/
theorem State.readAnswer_keeps {P : Nat} {s₀ : State} (s : State) (m : Master) (v : Option Word)
    (hP : 0 &&& P = 0) (h : Keeps P s₀ s) :
    Keeps P s₀ (State.readAnswer s m v).2.1 := by
  unfold State.readAnswer
  repeat' (first
    | with_reducible assumption
    | exact Mask.sub hP (by decide)
    | (extract_lets +onlyGivenNames x; refine Keeps.cut P s₀ x ?_ fun hx => ?_; (on_goal 2 => clear_value x); revert x; change Keeps _ _ _)
    | (extract_lets +onlyGivenNames x; clear_value x)
    | split)

/-- Changes at most: fresh, regs. -/
theorem State.busRead_keeps {P : Nat} {s₀ : State} (s : State) (m : Master) (admitted : Bool) (p : ℕ) (a : ℕ)
    (hP : 18 &&& P = 18) (h : Keeps P s₀ s) :
    Keeps P s₀ (State.busRead s m admitted p a).2.1 := by
  unfold State.busRead
  repeat' (first
    | with_reducible assumption
    | exact Mask.sub hP (by decide)
    | with_reducible apply State.readEffect_keeps
    | with_reducible apply State.readAnswer_keeps
    | split
    | refine Keeps.ofFst (by assumption) ?_
    | refine Keeps.ofSnd (by assumption) ?_
    | refine Keeps.ofMid (by assumption) ?_)

end Sys2Proof.Machine
end

