-- ==== Sys2Proof/Laws/KeepsBeats.lean ====
section
/-!
SUPPORT. What each operation of Machine/Beats.lean may change (Laws/Keeps.lean).
-/
set_option linter.unusedTactic false
set_option linter.unreachableTactic false
namespace Sys2Proof.Machine

/-- Changes at most: fresh, regs, fifo, pair, host. -/
theorem State.dmaRead_keeps {P : Nat} {s₀ : State} (s : State) (c : ℕ) (admitted : Bool) (a : ℕ)
    (hP : 9007199321882642 &&& P = 9007199321882642) (h : Keeps P s₀ s) :
    Keeps P s₀ (State.dmaRead s c admitted a).2.1 := by
  unfold State.dmaRead
  repeat' (first
    | with_reducible assumption
    | exact Mask.sub hP (by decide)
    | (extract_lets +onlyGivenNames x; refine Keeps.cut P s₀ x ?_ fun hx => ?_; (on_goal 2 => clear_value x); revert x; change Keeps _ _ _)
    | (extract_lets +onlyGivenNames x; refine Keeps.cutFst P s₀ x ?_ fun hx => ?_; (on_goal 2 => clear_value x); revert x; change Keeps _ _ _)
    | (extract_lets +onlyGivenNames x; refine Keeps.cutMid P s₀ x ?_ fun hx => ?_; (on_goal 2 => clear_value x); revert x; change Keeps _ _ _)
    | (extract_lets +onlyGivenNames x; refine Keeps.cutSnd P s₀ x ?_ fun hx => ?_; (on_goal 2 => clear_value x); revert x; change Keeps _ _ _)
    | (extract_lets +onlyGivenNames x; clear_value x)
    | (extract_lets +onlyGivenNames x)
    | with_reducible apply State.busRead_keeps
    | with_reducible apply State.evConsume_keeps
    | with_reducible apply State.pevConsume_keeps
    | split
    | refine Keeps.ofFst (by assumption) ?_
    | refine Keeps.ofSnd (by assumption) ?_
    | refine Keeps.ofMid (by assumption) ?_)

/-- Changes any part but: now, straps, ahead. -/
theorem State.dmaWrite_keeps {P : Nat} {s₀ : State} (s : State) (c : ℕ) (admitted : Bool) (a : ℕ) (v : Word)
    (hP : 17293822569102704630 &&& P = 17293822569102704630) (h : Keeps P s₀ s) :
    Keeps P s₀ (State.dmaWrite s c admitted a v).1 := by
  unfold State.dmaWrite
  repeat' (first
    | with_reducible assumption
    | exact Mask.sub hP (by decide)
    | with_reducible apply State.busWrite_keeps
    | split
    | refine Keeps.ofFst (by assumption) ?_
    | refine Keeps.ofSnd (by assumption) ?_
    | refine Keeps.ofMid (by assumption) ?_)

/-- Changes at most: fresh, regs, fifo, pair, host. -/
theorem State.fetchWords_keeps {P : Nat} {s₀ : State} (s : State) (c : ℕ) (a : ℕ) (x3 : ℕ)
    (hP : 9007199321882642 &&& P = 9007199321882642) (h : Keeps P s₀ s) :
    Keeps P s₀ (State.fetchWords s c a x3).2.1 := by
  induction x3 generalizing s a with
  | zero =>
    unfold State.fetchWords
    repeat' (first
      | with_reducible assumption
      | exact Mask.sub hP (by decide)
      | (extract_lets +onlyGivenNames x; refine Keeps.cut P s₀ x ?_ fun hx => ?_; (on_goal 2 => clear_value x); revert x; change Keeps _ _ _)
      | (extract_lets +onlyGivenNames x; refine Keeps.cutFst P s₀ x ?_ fun hx => ?_; (on_goal 2 => clear_value x); revert x; change Keeps _ _ _)
      | (extract_lets +onlyGivenNames x; refine Keeps.cutMid P s₀ x ?_ fun hx => ?_; (on_goal 2 => clear_value x); revert x; change Keeps _ _ _)
      | (extract_lets +onlyGivenNames x; refine Keeps.cutSnd P s₀ x ?_ fun hx => ?_; (on_goal 2 => clear_value x); revert x; change Keeps _ _ _)
      | (extract_lets +onlyGivenNames x; clear_value x)
      | with_reducible apply State.dmaRead_keeps
      | split
      | refine Keeps.ofFst (by assumption) ?_
      | refine Keeps.ofSnd (by assumption) ?_
      | refine Keeps.ofMid (by assumption) ?_)
  | succ n ih =>
    unfold State.fetchWords
    repeat' (first
      | with_reducible assumption
      | exact Mask.sub hP (by decide)
      | (extract_lets +onlyGivenNames x; refine Keeps.cut P s₀ x ?_ fun hx => ?_; (on_goal 2 => clear_value x); revert x; change Keeps _ _ _)
      | (extract_lets +onlyGivenNames x; refine Keeps.cutFst P s₀ x ?_ fun hx => ?_; (on_goal 2 => clear_value x); revert x; change Keeps _ _ _)
      | (extract_lets +onlyGivenNames x; refine Keeps.cutMid P s₀ x ?_ fun hx => ?_; (on_goal 2 => clear_value x); revert x; change Keeps _ _ _)
      | (extract_lets +onlyGivenNames x; refine Keeps.cutSnd P s₀ x ?_ fun hx => ?_; (on_goal 2 => clear_value x); revert x; change Keeps _ _ _)
      | (extract_lets +onlyGivenNames x; clear_value x)
      | with_reducible apply State.dmaRead_keeps
      | split
      | refine Keeps.ofFst (by assumption) ?_
      | refine Keeps.ofSnd (by assumption) ?_
      | refine Keeps.ofMid (by assumption) ?_
      | apply ih)

/-- Changes at most: regs, dma. -/
theorem State.dmaIssue_keeps {P : Nat} {s₀ : State} (s : State) (c : ℕ) (x2 : ℕ)
    (hP : 288230376151711760 &&& P = 288230376151711760) (h : Keeps P s₀ s) :
    Keeps P s₀ (State.dmaIssue s c x2) := by
  induction x2 generalizing s with
  | zero =>
    unfold State.dmaIssue
    repeat' (first
      | with_reducible assumption
      | exact Mask.sub hP (by decide)
      | (extract_lets +onlyGivenNames x; refine Keeps.cut P s₀ x ?_ fun hx => ?_; (on_goal 2 => clear_value x); revert x; change Keeps _ _ _)
      | (extract_lets +onlyGivenNames x; clear_value x)
      | (extract_lets +onlyGivenNames x)
      | with_reducible apply State.setCh_keeps
      | with_reducible apply State.set_keeps
      | split)
  | succ n ih =>
    unfold State.dmaIssue
    repeat' (first
      | with_reducible assumption
      | exact Mask.sub hP (by decide)
      | (extract_lets +onlyGivenNames x; refine Keeps.cut P s₀ x ?_ fun hx => ?_; (on_goal 2 => clear_value x); revert x; change Keeps _ _ _)
      | (extract_lets +onlyGivenNames x; clear_value x)
      | (extract_lets +onlyGivenNames x)
      | with_reducible apply State.setCh_keeps
      | with_reducible apply State.set_keeps
      | split
      | apply ih)

/-- Changes at most: regs, ticks. -/
theorem State.dmaCompare_keeps {P : Nat} {s₀ : State} (s : State) (c : ℕ) (k : ℕ) (x : Word) (y : Word)
    (hP : 4112 &&& P = 4112) (h : Keeps P s₀ s) :
    Keeps P s₀ (State.dmaCompare s c k x y) := by
  unfold State.dmaCompare
  repeat' (first
    | with_reducible assumption
    | exact Mask.sub hP (by decide)
    | (extract_lets +onlyGivenNames x; refine Keeps.cut P s₀ x ?_ fun hx => ?_; (on_goal 2 => clear_value x); revert x; change Keeps _ _ _)
    | (extract_lets +onlyGivenNames x; clear_value x)
    | with_reducible apply State.set_keeps
    | with_reducible apply State.inc_keeps
    | split)

/-- Changes any part but: now, straps, ahead. -/
theorem State.beatAccess_keeps {P : Nat} {s₀ : State} (s : State) (c : ℕ) (d : Desc) (b : Beat)
    (hP : 17293822569102704630 &&& P = 17293822569102704630) (h : Keeps P s₀ s) :
    Keeps P s₀ (State.beatAccess s c d b).1 := by
  unfold State.beatAccess
  repeat' (first
    | with_reducible assumption
    | exact Mask.sub hP (by decide)
    | (extract_lets +onlyGivenNames x; refine Keeps.cut P s₀ x ?_ fun hx => ?_; (on_goal 2 => clear_value x); revert x; change Keeps _ _ _)
    | (extract_lets +onlyGivenNames x; refine Keeps.cutFst P s₀ x ?_ fun hx => ?_; (on_goal 2 => clear_value x); revert x; change Keeps _ _ _)
    | (extract_lets +onlyGivenNames x; refine Keeps.cutMid P s₀ x ?_ fun hx => ?_; (on_goal 2 => clear_value x); revert x; change Keeps _ _ _)
    | (extract_lets +onlyGivenNames x; refine Keeps.cutSnd P s₀ x ?_ fun hx => ?_; (on_goal 2 => clear_value x); revert x; change Keeps _ _ _)
    | (extract_lets +onlyGivenNames x; clear_value x)
    | with_reducible apply State.dmaRead_keeps
    | with_reducible apply State.dmaWrite_keeps
    | with_reducible apply State.dmaCompare_keeps
    | split
    | refine Keeps.ofFst (by assumption) ?_
    | refine Keeps.ofSnd (by assumption) ?_
    | refine Keeps.ofMid (by assumption) ?_)

/-- Changes at most: fresh, regs, fifo, pair, host, dma. -/
theorem State.grantFetch_keeps {P : Nat} {s₀ : State} (s : State) (c : ℕ)
    (hP : 297237575473594386 &&& P = 297237575473594386) (h : Keeps P s₀ s) :
    Keeps P s₀ (State.grantFetch s c) := by
  unfold State.grantFetch
  repeat' (first
    | with_reducible assumption
    | exact Mask.sub hP (by decide)
    | (extract_lets +onlyGivenNames x; refine Keeps.cut P s₀ x ?_ fun hx => ?_; (on_goal 2 => clear_value x); revert x; change Keeps _ _ _)
    | (extract_lets +onlyGivenNames x; refine Keeps.cutFst P s₀ x ?_ fun hx => ?_; (on_goal 2 => clear_value x); revert x; change Keeps _ _ _)
    | (extract_lets +onlyGivenNames x; refine Keeps.cutMid P s₀ x ?_ fun hx => ?_; (on_goal 2 => clear_value x); revert x; change Keeps _ _ _)
    | (extract_lets +onlyGivenNames x; refine Keeps.cutSnd P s₀ x ?_ fun hx => ?_; (on_goal 2 => clear_value x); revert x; change Keeps _ _ _)
    | (extract_lets +onlyGivenNames x; clear_value x)
    | with_reducible apply State.fetchWords_keeps
    | with_reducible apply State.setCh_keeps
    | split
    | refine Keeps.ofFst (by assumption) ?_
    | refine Keeps.ofSnd (by assumption) ?_
    | refine Keeps.ofMid (by assumption) ?_)

/-- Changes any part but: now, straps, ahead. -/
theorem State.grantBeat_keeps {P : Nat} {s₀ : State} (s : State) (c : ℕ)
    (hP : 17293822569102704630 &&& P = 17293822569102704630) (h : Keeps P s₀ s) :
    Keeps P s₀ (State.grantBeat s c) := by
  unfold State.grantBeat
  repeat' (first
    | with_reducible assumption
    | exact Mask.sub hP (by decide)
    | (extract_lets +onlyGivenNames x; refine Keeps.cut P s₀ x ?_ fun hx => ?_; (on_goal 2 => clear_value x); revert x; change Keeps _ _ _)
    | (extract_lets +onlyGivenNames x; refine Keeps.cutFst P s₀ x ?_ fun hx => ?_; (on_goal 2 => clear_value x); revert x; change Keeps _ _ _)
    | (extract_lets +onlyGivenNames x; refine Keeps.cutMid P s₀ x ?_ fun hx => ?_; (on_goal 2 => clear_value x); revert x; change Keeps _ _ _)
    | (extract_lets +onlyGivenNames x; refine Keeps.cutSnd P s₀ x ?_ fun hx => ?_; (on_goal 2 => clear_value x); revert x; change Keeps _ _ _)
    | (extract_lets +onlyGivenNames x; clear_value x)
    | (extract_lets +onlyGivenNames x)
    | with_reducible apply State.beatAccess_keeps
    | with_reducible apply State.setCh_keeps
    | split
    | refine Keeps.ofFst (by assumption) ?_
    | refine Keeps.ofSnd (by assumption) ?_
    | refine Keeps.ofMid (by assumption) ?_)

/-- Changes any part but: now, straps, ahead. -/
theorem State.grantBus_keeps {P : Nat} {s₀ : State} (s : State) (c : ℕ)
    (hP : 17293822569102704630 &&& P = 17293822569102704630) (h : Keeps P s₀ s) :
    Keeps P s₀ (State.grantBus s c) := by
  unfold State.grantBus
  repeat' (first
    | with_reducible assumption
    | exact Mask.sub hP (by decide)
    | with_reducible apply State.grantFetch_keeps
    | with_reducible apply State.grantBeat_keeps
    | split)

/-- Changes any part but: now, straps, ahead. -/
theorem State.grantsBefore_keeps {P : Nat} {s₀ : State} (s : State) (own : BusReq) (x2 : ℕ)
    (hP : 17293822569102704630 &&& P = 17293822569102704630) (h : Keeps P s₀ s) :
    Keeps P s₀ (State.grantsBefore s own x2) := by
  induction x2 generalizing s with
  | zero =>
    unfold State.grantsBefore
    repeat' (first
      | with_reducible assumption
      | exact Mask.sub hP (by decide)
      | (extract_lets +onlyGivenNames x; refine Keeps.cut P s₀ x ?_ fun hx => ?_; (on_goal 2 => clear_value x); revert x; change Keeps _ _ _)
      | (extract_lets +onlyGivenNames x; clear_value x)
      | with_reducible apply State.grantBus_keeps
      | split)
  | succ n ih =>
    unfold State.grantsBefore
    repeat' (first
      | with_reducible assumption
      | exact Mask.sub hP (by decide)
      | (extract_lets +onlyGivenNames x; refine Keeps.cut P s₀ x ?_ fun hx => ?_; (on_goal 2 => clear_value x); revert x; change Keeps _ _ _)
      | (extract_lets +onlyGivenNames x; clear_value x)
      | with_reducible apply State.grantBus_keeps
      | split
      | apply ih)

/-- Changes any part but: now, straps, ahead. -/
theorem State.grantsTo_keeps {P : Nat} {s₀ : State} (s : State) (c : ℕ) (x2 : ℕ)
    (hP : 17293822569102704630 &&& P = 17293822569102704630) (h : Keeps P s₀ s) :
    Keeps P s₀ (State.grantsTo s c x2) := by
  induction x2 generalizing s with
  | zero =>
    unfold State.grantsTo
    repeat' (first
      | with_reducible assumption
      | exact Mask.sub hP (by decide)
      | (extract_lets +onlyGivenNames x; refine Keeps.cut P s₀ x ?_ fun hx => ?_; (on_goal 2 => clear_value x); revert x; change Keeps _ _ _)
      | (extract_lets +onlyGivenNames x; clear_value x)
      | with_reducible apply State.grantBus_keeps
      | split)
  | succ n ih =>
    unfold State.grantsTo
    repeat' (first
      | with_reducible assumption
      | exact Mask.sub hP (by decide)
      | (extract_lets +onlyGivenNames x; refine Keeps.cut P s₀ x ?_ fun hx => ?_; (on_goal 2 => clear_value x); revert x; change Keeps _ _ _)
      | (extract_lets +onlyGivenNames x; clear_value x)
      | with_reducible apply State.grantBus_keeps
      | split
      | apply ih)

/-- Changes at most: regs. -/
theorem State.dmaRetried_keeps {P : Nat} {s₀ : State} (s : State) (c : ℕ)
    (hP : 16 &&& P = 16) (h : Keeps P s₀ s) :
    Keeps P s₀ (State.dmaRetried s c) := by
  unfold State.dmaRetried
  repeat' (first
    | with_reducible assumption
    | exact Mask.sub hP (by decide)
    | with_reducible apply State.set_keeps)

/-- Changes at most: regs, ticks, reports, dma. -/
theorem State.fetchAnswer_keeps {P : Nat} {s₀ : State} (s : State) (c : ℕ)
    (hP : 288230376151724048 &&& P = 288230376151724048) (h : Keeps P s₀ s) :
    Keeps P s₀ (State.fetchAnswer s c) := by
  unfold State.fetchAnswer
  repeat' (first
    | with_reducible assumption
    | exact Mask.sub hP (by decide)
    | (extract_lets +onlyGivenNames x; refine Keeps.cut P s₀ x ?_ fun hx => ?_; (on_goal 2 => clear_value x); revert x; change Keeps _ _ _)
    | (extract_lets +onlyGivenNames x; clear_value x)
    | (extract_lets +onlyGivenNames x)
    | with_reducible apply State.dmaIssue_keeps
    | with_reducible apply State.dmaRetried_keeps
    | with_reducible apply State.setCh_keeps
    | with_reducible apply State.dmGo_keeps
    | with_reducible apply State.dmaHalt_keeps
    | with_reducible apply State.dmaToPause_keeps
    | with_reducible apply State.dmaFail_keeps
    | with_reducible apply State.set_keeps
    | split)

/-- Changes any part but: now, straps, ahead. -/
theorem State.descriptorLoad_keeps {P : Nat} {s₀ : State} (s : State) (c : ℕ)
    (hP : 17293822569102704630 &&& P = 17293822569102704630) (h : Keeps P s₀ s) :
    Keeps P s₀ (State.descriptorLoad s c) := by
  unfold State.descriptorLoad
  repeat' (first
    | with_reducible assumption
    | exact Mask.sub hP (by decide)
    | (extract_lets +onlyGivenNames x; refine Keeps.cut P s₀ x ?_ fun hx => ?_; (on_goal 2 => clear_value x); revert x; change Keeps _ _ _)
    | (extract_lets +onlyGivenNames x; clear_value x)
    | (extract_lets +onlyGivenNames x)
    | with_reducible apply State.grantsTo_keeps
    | with_reducible apply State.fetchAnswer_keeps
    | split)

/-- Changes any part but: straps. -/
theorem execDmaDescriptorLoad_keeps {P : Nat} {s₀ : State} (t : Word) (c : Fin 16) (s : State)
    (hP : 18446744073709551607 &&& P = 18446744073709551607) (h : Keeps P s₀ s) :
    OutKeeps P s₀ (execDmaDescriptorLoad t c s) := by
  unfold execDmaDescriptorLoad
  repeat' (first
    | with_reducible assumption
    | exact Mask.sub hP (by decide)
    | (extract_lets +onlyGivenNames x; refine Keeps.cut P s₀ x ?_ fun hx => ?_; (on_goal 2 => clear_value x); revert x; change Keeps _ _ _)
    | (extract_lets +onlyGivenNames x; clear_value x)
    | with_reducible apply OutKeeps.next
    | with_reducible apply State.descriptorLoad_keeps
    | with_reducible apply State.passed_keeps
    | with_reducible apply State.at_keeps
    | split)

/-- Changes at most: fresh, trace, work. -/
theorem State.undefineTarget_keeps {P : Nat} {s₀ : State} (s : State) (d : Desc) (b : Beat)
    (hP : 98 &&& P = 98) (h : Keeps P s₀ s) :
    Keeps P s₀ (State.undefineTarget s d b) := by
  unfold State.undefineTarget
  repeat' (first
    | with_reducible assumption
    | exact Mask.sub hP (by decide)
    | (extract_lets +onlyGivenNames x; refine Keeps.cut P s₀ x ?_ fun hx => ?_; (on_goal 2 => clear_value x); revert x; change Keeps _ _ _)
    | (extract_lets +onlyGivenNames x; refine Keeps.cutFst P s₀ x ?_ fun hx => ?_; (on_goal 2 => clear_value x); revert x; change Keeps _ _ _)
    | (extract_lets +onlyGivenNames x; refine Keeps.cutMid P s₀ x ?_ fun hx => ?_; (on_goal 2 => clear_value x); revert x; change Keeps _ _ _)
    | (extract_lets +onlyGivenNames x; refine Keeps.cutSnd P s₀ x ?_ fun hx => ?_; (on_goal 2 => clear_value x); revert x; change Keeps _ _ _)
    | (extract_lets +onlyGivenNames x; clear_value x)
    | (extract_lets +onlyGivenNames x)
    | with_reducible apply State.workSet_keeps
    | with_reducible apply State.traceSet_keeps
    | with_reducible apply State.free_keeps
    | split
    | refine Keeps.ofFst (by assumption) ?_
    | refine Keeps.ofSnd (by assumption) ?_
    | refine Keeps.ofMid (by assumption) ?_)

/-- Changes at most: fresh, regs, trace, work, ticks, reports, dma. -/
theorem State.dmaTorn_keeps {P : Nat} {s₀ : State} (s : State) (c : ℕ) (d : Desc)
    (hP : 288230376151724146 &&& P = 288230376151724146) (h : Keeps P s₀ s) :
    Keeps P s₀ (State.dmaTorn s c d) := by
  unfold State.dmaTorn
  repeat' (first
    | with_reducible assumption
    | exact Mask.sub hP (by decide)
    | with_reducible apply State.undefineTarget_keeps
    | with_reducible apply State.dmaHalt_keeps
    | with_reducible apply Keeps.foldl
    | (intro _ _ _))

/-- Changes at most: regs, ticks, reports, dma, dmaTrigs. -/
theorem State.beatDone_keeps {P : Nat} {s₀ : State} (s : State) (c : ℕ) (d : Desc) (b : Beat)
    (hP : 864691128455147536 &&& P = 864691128455147536) (h : Keeps P s₀ s) :
    Keeps P s₀ (State.beatDone s c d b) := by
  unfold State.beatDone
  repeat' (first
    | with_reducible assumption
    | exact Mask.sub hP (by decide)
    | (extract_lets +onlyGivenNames x; refine Keeps.cut P s₀ x ?_ fun hx => ?_; (on_goal 2 => clear_value x); revert x; change Keeps _ _ _)
    | (extract_lets +onlyGivenNames x; clear_value x)
    | with_reducible apply State.dmaIssue_keeps
    | with_reducible apply State.setCh_keeps
    | with_reducible apply State.dmaHalt_keeps
    | with_reducible apply State.dmaEnd_keeps
    | split)

/-- Changes at most: fresh, regs, trace, work, ticks, reports, dma. -/
theorem State.beatFailed_keeps {P : Nat} {s₀ : State} (s : State) (c : ℕ) (d : Desc) (b : Beat) (a : ℕ)
    (hP : 288230376151724146 &&& P = 288230376151724146) (h : Keeps P s₀ s) :
    Keeps P s₀ (State.beatFailed s c d b a) := by
  unfold State.beatFailed
  repeat' (first
    | with_reducible assumption
    | exact Mask.sub hP (by decide)
    | (extract_lets +onlyGivenNames x; refine Keeps.cut P s₀ x ?_ fun hx => ?_; (on_goal 2 => clear_value x); revert x; change Keeps _ _ _)
    | (extract_lets +onlyGivenNames x; clear_value x)
    | with_reducible apply State.undefineTarget_keeps
    | with_reducible apply State.setCh_keeps
    | with_reducible apply State.dmaHalt_keeps
    | with_reducible apply State.dmaFail_keeps
    | split)

/-- Changes at most: dma. -/
theorem State.beatAgain_keeps {P : Nat} {s₀ : State} (s : State) (c : ℕ) (retries : ℕ)
    (hP : 288230376151711744 &&& P = 288230376151711744) (h : Keeps P s₀ s) :
    Keeps P s₀ (State.beatAgain s c retries) := by
  unfold State.beatAgain
  repeat' (first
    | with_reducible assumption
    | exact Mask.sub hP (by decide)
    | (extract_lets +onlyGivenNames x; refine Keeps.cut P s₀ x ?_ fun hx => ?_; (on_goal 2 => clear_value x); revert x; change Keeps _ _ _)
    | (extract_lets +onlyGivenNames x; clear_value x)
    | with_reducible apply State.setCh_keeps
    | split)

/-- Changes at most: fresh, regs, trace, work, ticks, reports, dma, dmaTrigs. -/
theorem State.beatAnswer_keeps {P : Nat} {s₀ : State} (s : State) (c : ℕ)
    (hP : 864691128455147634 &&& P = 864691128455147634) (h : Keeps P s₀ s) :
    Keeps P s₀ (State.beatAnswer s c) := by
  unfold State.beatAnswer
  repeat' (first
    | with_reducible assumption
    | exact Mask.sub hP (by decide)
    | (extract_lets +onlyGivenNames x; refine Keeps.cut P s₀ x ?_ fun hx => ?_; (on_goal 2 => clear_value x); revert x; change Keeps _ _ _)
    | (extract_lets +onlyGivenNames x; clear_value x)
    | with_reducible apply State.dmaRetried_keeps
    | with_reducible apply State.dmaTorn_keeps
    | with_reducible apply State.beatDone_keeps
    | with_reducible apply State.beatFailed_keeps
    | with_reducible apply State.beatAgain_keeps
    | with_reducible apply State.dmaToPause_keeps
    | with_reducible apply State.dmaFail_keeps
    | split)

/-- Changes any part but: now, straps, ahead. -/
theorem State.beatResponse_keeps {P : Nat} {s₀ : State} (s : State) (c : ℕ) (busy : Bool)
    (hP : 17293822569102704630 &&& P = 17293822569102704630) (h : Keeps P s₀ s) :
    Keeps P s₀ (State.beatResponse s c busy) := by
  unfold State.beatResponse
  repeat' (first
    | with_reducible assumption
    | exact Mask.sub hP (by decide)
    | (extract_lets +onlyGivenNames x; refine Keeps.cut P s₀ x ?_ fun hx => ?_; (on_goal 2 => clear_value x); revert x; change Keeps _ _ _)
    | (extract_lets +onlyGivenNames x; clear_value x)
    | with_reducible apply State.grantsTo_keeps
    | with_reducible apply State.beatAgain_keeps
    | with_reducible apply State.beatAnswer_keeps
    | split)

/-- Changes any part but: straps. -/
theorem execDmaBeatResponse_keeps {P : Nat} {s₀ : State} (t : Word) (c : Fin 16) (busy : Bool) (s : State)
    (hP : 18446744073709551607 &&& P = 18446744073709551607) (h : Keeps P s₀ s) :
    OutKeeps P s₀ (execDmaBeatResponse t c busy s) := by
  unfold execDmaBeatResponse
  repeat' (first
    | with_reducible assumption
    | exact Mask.sub hP (by decide)
    | (extract_lets +onlyGivenNames x; refine Keeps.cut P s₀ x ?_ fun hx => ?_; (on_goal 2 => clear_value x); revert x; change Keeps _ _ _)
    | (extract_lets +onlyGivenNames x; clear_value x)
    | with_reducible apply OutKeeps.next
    | with_reducible apply State.beatResponse_keeps
    | with_reducible apply State.passed_keeps
    | with_reducible apply State.at_keeps
    | split)

/-- Changes any part but: now, straps, ahead. -/
theorem State.dmaMove_keeps {P : Nat} {s₀ : State} (s : State) (c : Instr)
    (hP : 17293822569102704630 &&& P = 17293822569102704630) (h : Keeps P s₀ s) :
    Keeps P s₀ (State.dmaMove s c) := by
  unfold State.dmaMove
  repeat' (first
    | with_reducible assumption
    | exact Mask.sub hP (by decide)
    | (extract_lets +onlyGivenNames x; refine Keeps.cut P s₀ x ?_ fun hx => ?_; (on_goal 2 => clear_value x); revert x; change Keeps _ _ _)
    | (extract_lets +onlyGivenNames x; clear_value x)
    | with_reducible apply State.descriptorLoad_keeps
    | with_reducible apply State.beatResponse_keeps
    | with_reducible apply State.dmaGo_keeps
    | with_reducible apply State.dmaTrigger_keeps
    | with_reducible apply State.dmaResume_keeps
    | with_reducible apply State.dmaSwitchOn_keeps
    | with_reducible apply State.dmaReturn_keeps
    | split)

/-- Changes any part but: straps, ahead. -/
theorem State.dmaSoon_keeps {P : Nat} {s₀ : State} (s : State) (c : Instr)
    (hP : 17293822569102704631 &&& P = 17293822569102704631) (h : Keeps P s₀ s) :
    OptKeeps P s₀ (State.dmaSoon s c) := by
  unfold State.dmaSoon
  repeat' (first
    | with_reducible assumption
    | exact Mask.sub hP (by decide)
    | (extract_lets +onlyGivenNames x; refine Keeps.cut P s₀ x ?_ fun hx => ?_; (on_goal 2 => clear_value x); revert x; change Keeps _ _ _)
    | (extract_lets +onlyGivenNames x; clear_value x)
    | (extract_lets +onlyGivenNames x)
    | with_reducible apply OptKeeps.some
    | with_reducible exact OptKeeps.none
    | with_reducible apply OptKeeps₂.some
    | with_reducible exact OptKeeps₂.none
    | with_reducible apply State.dmaMove_keeps
    | with_reducible apply State.at_keeps
    | split)

/-- Changes any part but: straps. -/
theorem State.turnSoon_keeps {P : Nat} {s₀ : State} (own : BusReq) (s : State) (c : Instr)
    (hP : 18446744073709551607 &&& P = 18446744073709551607) (h : Keeps P s₀ s) :
    Keeps P s₀ (State.turnSoon own s c) := by
  unfold State.turnSoon
  repeat' (first
    | with_reducible assumption
    | exact Mask.sub hP (by decide)
    | (extract_lets +onlyGivenNames x; refine Keeps.cut P s₀ x ?_ fun hx => ?_; (on_goal 2 => clear_value x); revert x; change Keeps _ _ _)
    | (extract_lets +onlyGivenNames x; clear_value x)
    | with_reducible apply State.grantsBefore_keeps
    | with_reducible apply State.dmaSoon_keeps
    | with_reducible apply State.took_keeps
    | with_reducible apply State.at_keeps
    | split
    | refine OptKeeps.of (by assumption) ?_
    | refine OptKeeps₂.of (by assumption) ?_)

/-- Changes any part but: straps. -/
theorem State.busTurn_keeps {P : Nat} {s₀ : State} (s : State) (m : Master)
    (hP : 18446744073709551607 &&& P = 18446744073709551607) (h : Keeps P s₀ s) :
    Keeps P s₀ (State.busTurn s m) := by
  unfold State.busTurn
  repeat' (first
    | with_reducible assumption
    | exact Mask.sub hP (by decide)
    | (extract_lets +onlyGivenNames x; refine Keeps.cut P s₀ x ?_ fun hx => ?_; (on_goal 2 => clear_value x); revert x; change Keeps _ _ _)
    | (extract_lets +onlyGivenNames x; clear_value x)
    | with_reducible apply State.grantsBefore_keeps
    | with_reducible apply State.turnSoon_keeps
    | with_reducible apply Keeps.foldl
    | (intro _ _ _))

/-- Changes at most: fresh, regs, trace, work, ticks, reports, dma. -/
theorem State.drainTear_keeps {P : Nat} {s₀ : State} (s : State) (c : ℕ)
    (hP : 288230376151724146 &&& P = 288230376151724146) (h : Keeps P s₀ s) :
    Keeps P s₀ (State.drainTear s c) := by
  unfold State.drainTear
  repeat' (first
    | with_reducible assumption
    | exact Mask.sub hP (by decide)
    | (extract_lets +onlyGivenNames x; refine Keeps.cut P s₀ x ?_ fun hx => ?_; (on_goal 2 => clear_value x); revert x; change Keeps _ _ _)
    | (extract_lets +onlyGivenNames x; clear_value x)
    | (extract_lets +onlyGivenNames x)
    | with_reducible apply State.dmaTorn_keeps
    | with_reducible apply State.dmaHalt_keeps
    | with_reducible apply State.dmaFail_keeps
    | split)

/-- Changes any part but: now, straps, ahead. -/
theorem State.drainExpire_keeps {P : Nat} {s₀ : State} (s : State) (d : ℕ) (c : ℕ)
    (hP : 17293822569102704630 &&& P = 17293822569102704630) (h : Keeps P s₀ s) :
    Keeps P s₀ (State.drainExpire s d c) := by
  unfold State.drainExpire
  repeat' (first
    | with_reducible assumption
    | exact Mask.sub hP (by decide)
    | (extract_lets +onlyGivenNames x; refine Keeps.cut P s₀ x ?_ fun hx => ?_; (on_goal 2 => clear_value x); revert x; change Keeps _ _ _)
    | (extract_lets +onlyGivenNames x; clear_value x)
    | with_reducible apply State.beatResponse_keeps
    | with_reducible apply State.drainTear_keeps
    | with_reducible apply Keeps.foldl
    | split
    | (intro _ _ _))

/-- Changes any part but: straps, ahead. -/
theorem execDrainTimeout_keeps {P : Nat} {s₀ : State} (t : Word) (d : Fin 6) (s : State)
    (hP : 17293822569102704631 &&& P = 17293822569102704631) (h : Keeps P s₀ s) :
    OutKeeps P s₀ (execDrainTimeout t d s) := by
  unfold execDrainTimeout
  repeat' (first
    | with_reducible assumption
    | exact Mask.sub hP (by decide)
    | (extract_lets +onlyGivenNames x; refine Keeps.cut P s₀ x ?_ fun hx => ?_; (on_goal 2 => clear_value x); revert x; change Keeps _ _ _)
    | (extract_lets +onlyGivenNames x; clear_value x)
    | (extract_lets +onlyGivenNames x)
    | with_reducible apply OutKeeps.next
    | with_reducible apply State.drainExpire_keeps
    | with_reducible apply State.inc_keeps
    | with_reducible apply State.at_keeps
    | with_reducible apply State.domainOff_keeps
    | with_reducible apply Keeps.foldl
    | split
    | (intro _ _ _))

end Sys2Proof.Machine
end

