-- ==== Sys2Proof/Laws/KeepsMerge.lean ====
section
/-!
SUPPORT. What each operation of Machine/Merge.lean may change (Laws/Keeps.lean).
-/
set_option linter.unusedTactic false
set_option linter.unreachableTactic false
namespace Sys2Proof.Machine

/-- Changes at most: regs, ticks, fifo, dmaTrigs. -/
theorem State.fifoPush_keeps {P : Nat} {s₀ : State} (s : State) (e : Entry)
    (hP : 576460752303460368 &&& P = 576460752303460368) (h : Keeps P s₀ s) :
    Keeps P s₀ (State.fifoPush s e) := by
  unfold State.fifoPush
  repeat' (first
    | with_reducible assumption
    | exact Mask.sub hP (by decide)
    | (extract_lets +onlyGivenNames x; refine Keeps.cut P s₀ x ?_ fun hx => ?_; (on_goal 2 => clear_value x); revert x; change Keeps _ _ _)
    | (extract_lets +onlyGivenNames x; clear_value x)
    | with_reducible apply State.dmaPulse_keeps
    | with_reducible apply State.evShow_keeps
    | with_reducible apply State.stick_keeps
    | with_reducible apply State.inc_keeps
    | split
    | with_reducible apply Keeps.upd_fifo)

/-- Changes at most: regs, work, ticks, pair, combust, cans, streams. -/
theorem State.recordCopies_keeps {P : Nat} {s₀ : State} (s : State) (j : ℕ) (esn : ℕ)
    (hP : 54078379967647824 &&& P = 54078379967647824) (h : Keeps P s₀ s) :
    Keeps P s₀ (State.recordCopies s j esn) := by
  unfold State.recordCopies
  repeat' (first
    | with_reducible assumption
    | exact Mask.sub hP (by decide)
    | (extract_lets +onlyGivenNames x; refine Keeps.cut P s₀ x ?_ fun hx => ?_; (on_goal 2 => clear_value x); revert x; change Keeps _ _ _)
    | (extract_lets +onlyGivenNames x; clear_value x)
    | with_reducible apply State.recordMerged_keeps
    | with_reducible apply State.streamAll_keeps
    | with_reducible apply State.canResult_keeps
    | with_reducible apply State.proexQueue_keeps
    | split)

/-- Changes at most: regs, work, ticks, reports, fifo, pair, combust, cans, streams, dmaTrigs, strand. -/
theorem State.mergeReport_keeps {P : Nat} {s₀ : State} (s : State) (r : Report)
    (hP : 2936382141484806224 &&& P = 2936382141484806224) (h : Keeps P s₀ s) :
    Keeps P s₀ (State.mergeReport s r) := by
  unfold State.mergeReport
  repeat' (first
    | with_reducible assumption
    | exact Mask.sub hP (by decide)
    | (extract_lets +onlyGivenNames x; refine Keeps.cut P s₀ x ?_ fun hx => ?_; (on_goal 2 => clear_value x); revert x; change Keeps _ _ _)
    | (extract_lets +onlyGivenNames x; clear_value x)
    | with_reducible apply State.streamAll_keeps
    | with_reducible apply State.fifoPush_keeps
    | with_reducible apply State.recordCopies_keeps
    | with_reducible apply State.set_keeps
    | with_reducible apply State.pairPush_keeps
    | with_reducible apply State.moveKey_keeps
    | with_reducible apply State.proexQueue_keeps
    | with_reducible apply State.recTriggers_keeps
    | split)

/-- Changes at most: regs, work, ticks, reports, fifo, pair, combust, cans, streams, dmaTrigs, strand. -/
theorem State.mergeNext_keeps {P : Nat} {s₀ : State} (s : State)
    (hP : 2936382141484806224 &&& P = 2936382141484806224) (h : Keeps P s₀ s) :
    Keeps P s₀ (State.mergeNext s) := by
  unfold State.mergeNext
  repeat' (first
    | with_reducible assumption
    | exact Mask.sub hP (by decide)
    | (extract_lets +onlyGivenNames x; refine Keeps.cut P s₀ x ?_ fun hx => ?_; (on_goal 2 => clear_value x); revert x; change Keeps _ _ _)
    | (extract_lets +onlyGivenNames x; clear_value x)
    | with_reducible apply State.mergeReport_keeps
    | split
    | with_reducible apply Keeps.upd_reports)

/-- Changes at most: regs, work, ticks, reports, fifo, pair, combust, cans, streams, dmaTrigs, strand. -/
theorem State.mergeAll_keeps {P : Nat} {s₀ : State} (s : State) (x1 : ℕ)
    (hP : 2936382141484806224 &&& P = 2936382141484806224) (h : Keeps P s₀ s) :
    Keeps P s₀ (State.mergeAll s x1) := by
  induction x1 generalizing s with
  | zero =>
    unfold State.mergeAll
    repeat' (first
      | with_reducible assumption
      | exact Mask.sub hP (by decide)
      | with_reducible apply State.mergeNext_keeps
      | split)
  | succ n ih =>
    unfold State.mergeAll
    repeat' (first
      | with_reducible assumption
      | exact Mask.sub hP (by decide)
      | with_reducible apply State.mergeNext_keeps
      | split
      | apply ih)

/-- Changes at most: now, regs, work, ticks, reports, fifo, pair, combust, cans, streams, dmaTrigs, strand. -/
theorem execEventMerge_keeps {P : Nat} {s₀ : State} (t : Word) (s : State)
    (hP : 2936382141484806225 &&& P = 2936382141484806225) (h : Keeps P s₀ s) :
    OutKeeps P s₀ (execEventMerge t s) := by
  unfold execEventMerge
  repeat' (first
    | with_reducible assumption
    | exact Mask.sub hP (by decide)
    | (extract_lets +onlyGivenNames x; refine Keeps.cut P s₀ x ?_ fun hx => ?_; (on_goal 2 => clear_value x); revert x; change Keeps _ _ _)
    | (extract_lets +onlyGivenNames x; clear_value x)
    | with_reducible apply OutKeeps.next
    | with_reducible apply State.mergeNext_keeps
    | with_reducible apply State.at_keeps)

end Sys2Proof.Machine
end

