-- ==== Sys2Proof/Laws/KeepsHost.lean ====
section
/-!
SUPPORT. What each operation of Machine/Host.lean may change (Laws/Keeps.lean).
-/
set_option linter.unusedTactic false
set_option linter.unreachableTactic false
namespace Sys2Proof.Machine

/-- Changes any part but: straps. -/
theorem State.registerWrite_keeps {P : Nat} {s₀ : State} (s : State) (a : ℕ) (v : Word)
    (hP : 18446744073709551607 &&& P = 18446744073709551607) (h : Keeps P s₀ s) :
    Keeps P s₀ (State.registerWrite s a v) := by
  unfold State.registerWrite
  repeat' (first
    | with_reducible assumption
    | exact Mask.sub hP (by decide)
    | (extract_lets +onlyGivenNames x; refine Keeps.cut P s₀ x ?_ fun hx => ?_; (on_goal 2 => clear_value x); revert x; change Keeps _ _ _)
    | (extract_lets +onlyGivenNames x; refine Keeps.cutFst P s₀ x ?_ fun hx => ?_; (on_goal 2 => clear_value x); revert x; change Keeps _ _ _)
    | (extract_lets +onlyGivenNames x; refine Keeps.cutMid P s₀ x ?_ fun hx => ?_; (on_goal 2 => clear_value x); revert x; change Keeps _ _ _)
    | (extract_lets +onlyGivenNames x; refine Keeps.cutSnd P s₀ x ?_ fun hx => ?_; (on_goal 2 => clear_value x); revert x; change Keeps _ _ _)
    | (extract_lets +onlyGivenNames x; clear_value x)
    | with_reducible apply State.busTurn_keeps
    | with_reducible apply State.busWrite_keeps
    | split
    | refine Keeps.ofFst (by assumption) ?_
    | refine Keeps.ofSnd (by assumption) ?_
    | refine Keeps.ofMid (by assumption) ?_)

/-- Changes any part but: straps. -/
theorem execRegisterWrite_keeps {P : Nat} {s₀ : State} (t : Word) (addr : Fin 65536) (value : Word) (s : State)
    (hP : 18446744073709551607 &&& P = 18446744073709551607) (h : Keeps P s₀ s) :
    OutKeeps P s₀ (execRegisterWrite t addr value s) := by
  unfold execRegisterWrite
  repeat' (first
    | with_reducible assumption
    | exact Mask.sub hP (by decide)
    | (extract_lets +onlyGivenNames x; refine Keeps.cut P s₀ x ?_ fun hx => ?_; (on_goal 2 => clear_value x); revert x; change Keeps _ _ _)
    | (extract_lets +onlyGivenNames x; clear_value x)
    | with_reducible apply OutKeeps.next
    | with_reducible apply State.registerWrite_keeps
    | with_reducible apply State.passed_keeps
    | with_reducible apply State.at_keeps
    | split)

/-- Changes at most: regs, fifo, pair, host. -/
theorem State.shiftedOut_keeps {P : Nat} {s₀ : State} (s : State) (r : Response)
    (hP : 9007199321882640 &&& P = 9007199321882640) (h : Keeps P s₀ s) :
    Keeps P s₀ (State.shiftedOut s r) := by
  unfold State.shiftedOut
  repeat' (first
    | with_reducible assumption
    | exact Mask.sub hP (by decide)
    | (extract_lets +onlyGivenNames x; refine Keeps.cut P s₀ x ?_ fun hx => ?_; (on_goal 2 => clear_value x); revert x; change Keeps _ _ _)
    | (extract_lets +onlyGivenNames x; clear_value x)
    | (extract_lets +onlyGivenNames x)
    | with_reducible apply State.evConsume_keeps
    | with_reducible apply State.pevConsume_keeps
    | split)

/-- Changes any part but: straps. -/
theorem State.frameRead_keeps {P : Nat} {s₀ : State} (s : State) (m : Master) (a : ℕ) (late : Bool)
    (hP : 18446744073709551607 &&& P = 18446744073709551607) (h : Keeps P s₀ s) :
    Keeps P s₀ (State.frameRead s m a late).1 := by
  unfold State.frameRead
  repeat' (first
    | with_reducible assumption
    | exact Mask.sub hP (by decide)
    | (extract_lets +onlyGivenNames x; refine Keeps.cut P s₀ x ?_ fun hx => ?_; (on_goal 2 => clear_value x); revert x; change Keeps _ _ _)
    | (extract_lets +onlyGivenNames x; refine Keeps.cutFst P s₀ x ?_ fun hx => ?_; (on_goal 2 => clear_value x); revert x; change Keeps _ _ _)
    | (extract_lets +onlyGivenNames x; refine Keeps.cutMid P s₀ x ?_ fun hx => ?_; (on_goal 2 => clear_value x); revert x; change Keeps _ _ _)
    | (extract_lets +onlyGivenNames x; refine Keeps.cutSnd P s₀ x ?_ fun hx => ?_; (on_goal 2 => clear_value x); revert x; change Keeps _ _ _)
    | (extract_lets +onlyGivenNames x; clear_value x)
    | with_reducible apply State.busTurn_keeps
    | with_reducible apply State.busRead_keeps
    | split
    | refine Keeps.ofFst (by assumption) ?_
    | refine Keeps.ofSnd (by assumption) ?_
    | refine Keeps.ofMid (by assumption) ?_)

/-- Changes any part but: straps. -/
theorem State.frameWrite_keeps {P : Nat} {s₀ : State} (s : State) (m : Master) (a : ℕ) (v : Word) (late : Bool)
    (hP : 18446744073709551607 &&& P = 18446744073709551607) (h : Keeps P s₀ s) :
    Keeps P s₀ (State.frameWrite s m a v late).1 := by
  unfold State.frameWrite
  repeat' (first
    | with_reducible assumption
    | exact Mask.sub hP (by decide)
    | (extract_lets +onlyGivenNames x; refine Keeps.cut P s₀ x ?_ fun hx => ?_; (on_goal 2 => clear_value x); revert x; change Keeps _ _ _)
    | (extract_lets +onlyGivenNames x; refine Keeps.cutFst P s₀ x ?_ fun hx => ?_; (on_goal 2 => clear_value x); revert x; change Keeps _ _ _)
    | (extract_lets +onlyGivenNames x; refine Keeps.cutMid P s₀ x ?_ fun hx => ?_; (on_goal 2 => clear_value x); revert x; change Keeps _ _ _)
    | (extract_lets +onlyGivenNames x; refine Keeps.cutSnd P s₀ x ?_ fun hx => ?_; (on_goal 2 => clear_value x); revert x; change Keeps _ _ _)
    | (extract_lets +onlyGivenNames x; clear_value x)
    | with_reducible apply State.busTurn_keeps
    | with_reducible apply State.busWrite_keeps
    | split
    | refine Keeps.ofFst (by assumption) ?_
    | refine Keeps.ofSnd (by assumption) ?_
    | refine Keeps.ofMid (by assumption) ?_)

/-- Changes at most: regs, ticks, host. -/
theorem State.respond_keeps {P : Nat} {s₀ : State} (s : State) (r : Response)
    (hP : 9007199254745104 &&& P = 9007199254745104) (h : Keeps P s₀ s) :
    Keeps P s₀ (State.respond s r) := by
  unfold State.respond
  repeat' (first
    | with_reducible assumption
    | exact Mask.sub hP (by decide)
    | (extract_lets +onlyGivenNames x; refine Keeps.cut P s₀ x ?_ fun hx => ?_; (on_goal 2 => clear_value x); revert x; change Keeps _ _ _)
    | (extract_lets +onlyGivenNames x; clear_value x)
    | with_reducible apply State.inc_keeps
    | split
    | with_reducible apply Keeps.upd_host)

/-- Changes any part but: straps. -/
theorem State.hostRead_keeps {P : Nat} {s₀ : State} (s : State) (a : ℕ) (late : Bool)
    (hP : 18446744073709551607 &&& P = 18446744073709551607) (h : Keeps P s₀ s) :
    Keeps P s₀ (State.hostRead s a late) := by
  unfold State.hostRead
  repeat' (first
    | with_reducible assumption
    | exact Mask.sub hP (by decide)
    | (extract_lets +onlyGivenNames x; refine Keeps.cut P s₀ x ?_ fun hx => ?_; (on_goal 2 => clear_value x); revert x; change Keeps _ _ _)
    | (extract_lets +onlyGivenNames x; refine Keeps.cutFst P s₀ x ?_ fun hx => ?_; (on_goal 2 => clear_value x); revert x; change Keeps _ _ _)
    | (extract_lets +onlyGivenNames x; refine Keeps.cutMid P s₀ x ?_ fun hx => ?_; (on_goal 2 => clear_value x); revert x; change Keeps _ _ _)
    | (extract_lets +onlyGivenNames x; refine Keeps.cutSnd P s₀ x ?_ fun hx => ?_; (on_goal 2 => clear_value x); revert x; change Keeps _ _ _)
    | (extract_lets +onlyGivenNames x; clear_value x)
    | with_reducible apply State.shiftedOut_keeps
    | with_reducible apply State.frameRead_keeps
    | with_reducible apply State.respond_keeps
    | with_reducible apply State.mergeAll_keeps
    | split
    | refine Keeps.ofFst (by assumption) ?_
    | refine Keeps.ofSnd (by assumption) ?_
    | refine Keeps.ofMid (by assumption) ?_)

/-- Changes any part but: straps. -/
theorem execHostRead_keeps {P : Nat} {s₀ : State} (t : Word) (addr : Fin 65536) (late : Bool) (s : State)
    (hP : 18446744073709551607 &&& P = 18446744073709551607) (h : Keeps P s₀ s) :
    OutKeeps P s₀ (execHostRead t addr late s) := by
  unfold execHostRead
  repeat' (first
    | with_reducible assumption
    | exact Mask.sub hP (by decide)
    | (extract_lets +onlyGivenNames x; refine Keeps.cut P s₀ x ?_ fun hx => ?_; (on_goal 2 => clear_value x); revert x; change Keeps _ _ _)
    | (extract_lets +onlyGivenNames x; clear_value x)
    | with_reducible apply OutKeeps.next
    | with_reducible apply State.hostRead_keeps
    | with_reducible apply State.passed_keeps
    | with_reducible apply State.at_keeps
    | split)

/-- Changes any part but: straps. -/
theorem State.hostWrite_keeps {P : Nat} {s₀ : State} (s : State) (a : ℕ) (v : Word) (late : Bool)
    (hP : 18446744073709551607 &&& P = 18446744073709551607) (h : Keeps P s₀ s) :
    Keeps P s₀ (State.hostWrite s a v late) := by
  unfold State.hostWrite
  repeat' (first
    | with_reducible assumption
    | exact Mask.sub hP (by decide)
    | (extract_lets +onlyGivenNames x; refine Keeps.cut P s₀ x ?_ fun hx => ?_; (on_goal 2 => clear_value x); revert x; change Keeps _ _ _)
    | (extract_lets +onlyGivenNames x; refine Keeps.cutFst P s₀ x ?_ fun hx => ?_; (on_goal 2 => clear_value x); revert x; change Keeps _ _ _)
    | (extract_lets +onlyGivenNames x; refine Keeps.cutMid P s₀ x ?_ fun hx => ?_; (on_goal 2 => clear_value x); revert x; change Keeps _ _ _)
    | (extract_lets +onlyGivenNames x; refine Keeps.cutSnd P s₀ x ?_ fun hx => ?_; (on_goal 2 => clear_value x); revert x; change Keeps _ _ _)
    | (extract_lets +onlyGivenNames x; clear_value x)
    | with_reducible apply State.shiftedOut_keeps
    | with_reducible apply State.frameWrite_keeps
    | with_reducible apply State.respond_keeps
    | split
    | refine Keeps.ofFst (by assumption) ?_
    | refine Keeps.ofSnd (by assumption) ?_
    | refine Keeps.ofMid (by assumption) ?_)

/-- Changes any part but: straps. -/
theorem execHostWrite_keeps {P : Nat} {s₀ : State} (t : Word) (addr : Fin 65536) (value : Word) (late : Bool) (s : State)
    (hP : 18446744073709551607 &&& P = 18446744073709551607) (h : Keeps P s₀ s) :
    OutKeeps P s₀ (execHostWrite t addr value late s) := by
  unfold execHostWrite
  repeat' (first
    | with_reducible assumption
    | exact Mask.sub hP (by decide)
    | (extract_lets +onlyGivenNames x; refine Keeps.cut P s₀ x ?_ fun hx => ?_; (on_goal 2 => clear_value x); revert x; change Keeps _ _ _)
    | (extract_lets +onlyGivenNames x; clear_value x)
    | with_reducible apply OutKeeps.next
    | with_reducible apply State.hostWrite_keeps
    | with_reducible apply State.passed_keeps
    | with_reducible apply State.at_keeps
    | split)

/-- Changes at most: now, regs, ticks, fifo, pair, host. -/
theorem execHostNop_keeps {P : Nat} {s₀ : State} (t : Word) (addr : Fin 65536) (s : State)
    (hP : 9007199321886737 &&& P = 9007199321886737) (h : Keeps P s₀ s) :
    OutKeeps P s₀ (execHostNop t addr s) := by
  unfold execHostNop
  repeat' (first
    | with_reducible assumption
    | exact Mask.sub hP (by decide)
    | (extract_lets +onlyGivenNames x; refine Keeps.cut P s₀ x ?_ fun hx => ?_; (on_goal 2 => clear_value x); revert x; change Keeps _ _ _)
    | (extract_lets +onlyGivenNames x; clear_value x)
    | with_reducible apply OutKeeps.next
    | with_reducible apply State.shiftedOut_keeps
    | with_reducible apply State.respond_keeps
    | with_reducible apply State.at_keeps
    | split)

/-- Changes at most: now, regs, ticks, fifo, pair, host. -/
theorem execHostFrameError_keeps {P : Nat} {s₀ : State} (t : Word) (f : FrameFault) (s : State)
    (hP : 9007199321886737 &&& P = 9007199321886737) (h : Keeps P s₀ s) :
    OutKeeps P s₀ (execHostFrameError t f s) := by
  unfold execHostFrameError
  repeat' (first
    | with_reducible assumption
    | exact Mask.sub hP (by decide)
    | (extract_lets +onlyGivenNames x; refine Keeps.cut P s₀ x ?_ fun hx => ?_; (on_goal 2 => clear_value x); revert x; change Keeps _ _ _)
    | (extract_lets +onlyGivenNames x; clear_value x)
    | with_reducible apply OutKeeps.next
    | with_reducible apply State.shiftedOut_keeps
    | with_reducible apply State.respond_keeps
    | with_reducible apply State.inc_keeps
    | with_reducible apply State.at_keeps
    | split)

/-- Changes any part but: straps. -/
theorem execEventPop_keeps {P : Nat} {s₀ : State} (t : Word) (late : Bool) (s : State)
    (hP : 18446744073709551607 &&& P = 18446744073709551607) (h : Keeps P s₀ s) :
    OutKeeps P s₀ (execEventPop t late s) := by
  unfold execEventPop
  repeat' (first
    | with_reducible assumption
    | exact Mask.sub hP (by decide)
    | (extract_lets +onlyGivenNames x; refine Keeps.cut P s₀ x ?_ fun hx => ?_; (on_goal 2 => clear_value x); revert x; change Keeps _ _ _)
    | (extract_lets +onlyGivenNames x; clear_value x)
    | with_reducible apply OutKeeps.next
    | with_reducible apply State.hostRead_keeps
    | with_reducible apply State.passed_keeps
    | with_reducible apply State.at_keeps
    | split)

/-- Changes any part but: straps. -/
theorem execPairEventPop_keeps {P : Nat} {s₀ : State} (t : Word) (late : Bool) (s : State)
    (hP : 18446744073709551607 &&& P = 18446744073709551607) (h : Keeps P s₀ s) :
    OutKeeps P s₀ (execPairEventPop t late s) := by
  unfold execPairEventPop
  repeat' (first
    | with_reducible assumption
    | exact Mask.sub hP (by decide)
    | (extract_lets +onlyGivenNames x; refine Keeps.cut P s₀ x ?_ fun hx => ?_; (on_goal 2 => clear_value x); revert x; change Keeps _ _ _)
    | (extract_lets +onlyGivenNames x; clear_value x)
    | with_reducible apply OutKeeps.next
    | with_reducible apply State.hostRead_keeps
    | with_reducible apply State.passed_keeps
    | with_reducible apply State.at_keeps
    | split)

/-- Changes at most: host. -/
theorem State.debugResponse_keeps {P : Nat} {s₀ : State} (s : State) (r : Response)
    (hP : 9007199254740992 &&& P = 9007199254740992) (h : Keeps P s₀ s) :
    Keeps P s₀ (State.debugResponse s r) := by
  unfold State.debugResponse
  repeat' (first
    | with_reducible assumption
    | exact Mask.sub hP (by decide)
    | (extract_lets +onlyGivenNames x; refine Keeps.cut P s₀ x ?_ fun hx => ?_; (on_goal 2 => clear_value x); revert x; change Keeps _ _ _)
    | (extract_lets +onlyGivenNames x; clear_value x)
    | with_reducible apply Keeps.upd_host)

/-- Changes any part but: straps. -/
theorem State.debugFrame_keeps {P : Nat} {s₀ : State} (s : State) (op : ℕ) (a : ℕ) (v : Word)
    (hP : 18446744073709551607 &&& P = 18446744073709551607) (h : Keeps P s₀ s) :
    Keeps P s₀ (State.debugFrame s op a v).1 := by
  unfold State.debugFrame
  repeat' (first
    | with_reducible assumption
    | exact Mask.sub hP (by decide)
    | with_reducible apply State.frameRead_keeps
    | with_reducible apply State.frameWrite_keeps
    | split
    | refine Keeps.ofFst (by assumption) ?_
    | refine Keeps.ofSnd (by assumption) ?_
    | refine Keeps.ofMid (by assumption) ?_)

/-- Changes any part but: straps. -/
theorem State.debugAccess_keeps {P : Nat} {s₀ : State} (s : State) (op : ℕ) (a : ℕ) (crc : ℕ) (v : Word)
    (hP : 18446744073709551607 &&& P = 18446744073709551607) (h : Keeps P s₀ s) :
    Keeps P s₀ (State.debugAccess s op a crc v) := by
  unfold State.debugAccess
  repeat' (first
    | with_reducible assumption
    | exact Mask.sub hP (by decide)
    | (extract_lets +onlyGivenNames x; refine Keeps.cut P s₀ x ?_ fun hx => ?_; (on_goal 2 => clear_value x); revert x; change Keeps _ _ _)
    | (extract_lets +onlyGivenNames x; refine Keeps.cutFst P s₀ x ?_ fun hx => ?_; (on_goal 2 => clear_value x); revert x; change Keeps _ _ _)
    | (extract_lets +onlyGivenNames x; refine Keeps.cutMid P s₀ x ?_ fun hx => ?_; (on_goal 2 => clear_value x); revert x; change Keeps _ _ _)
    | (extract_lets +onlyGivenNames x; refine Keeps.cutSnd P s₀ x ?_ fun hx => ?_; (on_goal 2 => clear_value x); revert x; change Keeps _ _ _)
    | (extract_lets +onlyGivenNames x; clear_value x)
    | with_reducible apply State.shiftedOut_keeps
    | with_reducible apply State.debugResponse_keeps
    | with_reducible apply State.debugFrame_keeps
    | with_reducible apply State.jtagSelect_keeps
    | split
    | refine Keeps.ofFst (by assumption) ?_
    | refine Keeps.ofSnd (by assumption) ?_
    | refine Keeps.ofMid (by assumption) ?_)

/-- Changes any part but: straps. -/
theorem State.hostAccess_keeps {P : Nat} {s₀ : State} (s : State) (c : Instr)
    (hP : 18446744073709551607 &&& P = 18446744073709551607) (h : Keeps P s₀ s) :
    OptKeeps P s₀ (State.hostAccess s c) := by
  unfold State.hostAccess
  repeat' (first
    | with_reducible assumption
    | exact Mask.sub hP (by decide)
    | (extract_lets +onlyGivenNames x; refine Keeps.cut P s₀ x ?_ fun hx => ?_; (on_goal 2 => clear_value x); revert x; change Keeps _ _ _)
    | (extract_lets +onlyGivenNames x; clear_value x)
    | with_reducible apply OptKeeps.some
    | with_reducible exact OptKeeps.none
    | with_reducible apply OptKeeps₂.some
    | with_reducible exact OptKeeps₂.none
    | with_reducible apply State.registerWrite_keeps
    | with_reducible apply State.hostRead_keeps
    | with_reducible apply State.hostWrite_keeps
    | split)

/-- Changes any part but: straps. -/
theorem State.debugTurn_keeps {P : Nat} {s₀ : State} (s : State) (c : Instr)
    (hP : 18446744073709551607 &&& P = 18446744073709551607) (h : Keeps P s₀ s) :
    OptKeeps P s₀ (State.debugTurn s c) := by
  unfold State.debugTurn
  repeat' (first
    | with_reducible assumption
    | exact Mask.sub hP (by decide)
    | (extract_lets +onlyGivenNames x; refine Keeps.cut P s₀ x ?_ fun hx => ?_; (on_goal 2 => clear_value x); revert x; change Keeps _ _ _)
    | (extract_lets +onlyGivenNames x; clear_value x)
    | with_reducible apply OptKeeps.some
    | with_reducible exact OptKeeps.none
    | with_reducible apply OptKeeps₂.some
    | with_reducible exact OptKeeps₂.none
    | with_reducible apply State.debugAccess_keeps
    | split)

/-- Changes at most: ahead. -/
theorem State.take_keeps {P : Nat} {s₀ : State} (f : State → Instr → Option State) (s : State) (c : Instr)
    (hf : ∀ x c, Keeps P s₀ x → OptKeeps P s₀ (f x c)) (hP : 1152921504606846976 &&& P = 1152921504606846976) (h : Keeps P s₀ s) :
    Keeps P s₀ (State.take f s c) := by
  unfold State.take
  repeat' (first
    | with_reducible assumption
    | exact Mask.sub hP (by decide)
    | (extract_lets +onlyGivenNames x; refine Keeps.cut P s₀ x ?_ fun hx => ?_; (on_goal 2 => clear_value x); revert x; change Keeps _ _ _)
    | (extract_lets +onlyGivenNames x; clear_value x)
    | with_reducible apply State.took_keeps
    | refine OptKeeps.of (by assumption) ?_
    | exact hf _ _ (by assumption)
    | split
    | with_reducible apply hf
    | (intro _ _ _))

/-- Changes any part but: straps. -/
theorem State.hostFirst_keeps {P : Nat} {s₀ : State} (s : State)
    (hP : 18446744073709551607 &&& P = 18446744073709551607) (h : Keeps P s₀ s) :
    Keeps P s₀ (State.hostFirst s) := by
  unfold State.hostFirst
  repeat' (first
    | with_reducible assumption
    | exact Mask.sub hP (by decide)
    | with_reducible apply State.hostAccess_keeps
    | with_reducible apply State.take_keeps
    | with_reducible apply Keeps.foldl
    | (intro _ _ _)
    | (intro _ _ _)
    | refine OptKeeps.of (by assumption) ?_
    | refine OptKeeps₂.of (by assumption) ?_)

/-- Changes any part but: straps. -/
theorem execJtagDbgAccess_keeps {P : Nat} {s₀ : State} (t : Word) (op : Fin 256) (addr : Fin 65536) (crc : Fin 256) (value : Word) (s : State)
    (hP : 18446744073709551607 &&& P = 18446744073709551607) (h : Keeps P s₀ s) :
    OutKeeps P s₀ (execJtagDbgAccess t op addr crc value s) := by
  unfold execJtagDbgAccess
  repeat' (first
    | with_reducible assumption
    | exact Mask.sub hP (by decide)
    | (extract_lets +onlyGivenNames x; refine Keeps.cut P s₀ x ?_ fun hx => ?_; (on_goal 2 => clear_value x); revert x; change Keeps _ _ _)
    | (extract_lets +onlyGivenNames x; clear_value x)
    | with_reducible apply OutKeeps.next
    | with_reducible apply State.debugAccess_keeps
    | with_reducible apply State.hostFirst_keeps
    | with_reducible apply State.passed_keeps
    | with_reducible apply State.at_keeps
    | split)

/-- Changes any part but: straps. -/
theorem State.memTurn_keeps {P : Nat} {s₀ : State} (s : State) (m : Master)
    (hP : 18446744073709551607 &&& P = 18446744073709551607) (h : Keeps P s₀ s) :
    Keeps P s₀ (State.memTurn s m) := by
  unfold State.memTurn
  repeat' (first
    | with_reducible assumption
    | exact Mask.sub hP (by decide)
    | (extract_lets +onlyGivenNames x; refine Keeps.cut P s₀ x ?_ fun hx => ?_; (on_goal 2 => clear_value x); revert x; change Keeps _ _ _)
    | (extract_lets +onlyGivenNames x; clear_value x)
    | with_reducible apply State.busTurn_keeps
    | with_reducible apply State.debugTurn_keeps
    | with_reducible apply State.take_keeps
    | with_reducible apply State.hostFirst_keeps
    | with_reducible apply Keeps.foldl
    | (intro _ _ _)
    | (intro _ _ _)
    | refine OptKeeps.of (by assumption) ?_
    | refine OptKeeps₂.of (by assumption) ?_)

end Sys2Proof.Machine
end

