-- ==== Sys2Proof/Laws/KeepsLoad.lean ====
section
/-!
SUPPORT. What each operation of Machine/Load.lean may change (Laws/Keeps.lean).
-/
set_option linter.unusedTactic false
set_option linter.unreachableTactic false
namespace Sys2Proof.Machine

/-- Changes at most: regs, ticks, reports, causes, banks, cmps, seqs, rot, wmons, ptimers, pins, rail, dmaTrigs, saf. -/
theorem State.plyFront_keeps {P : Nat} {s₀ : State} (s : State) (old : State)
    (hP : 9800416986314911760 &&& P = 9800416986314911760) (h : Keeps P s₀ s) :
    Keeps P s₀ (State.plyFront s old) := by
  unfold State.plyFront
  repeat' (first
    | with_reducible assumption
    | exact Mask.sub hP (by decide)
    | (extract_lets +onlyGivenNames x; refine Keeps.cut P s₀ x ?_ fun hx => ?_; (on_goal 2 => clear_value x); revert x; change Keeps _ _ _)
    | (extract_lets +onlyGivenNames x; clear_value x)
    | (extract_lets +onlyGivenNames x)
    | with_reducible apply State.ptCfgWrite_keeps
    | with_reducible apply State.seqEnable_keeps
    | with_reducible apply State.wmMode_keeps
    | with_reducible apply State.pinConfig_keeps
    | with_reducible apply State.set_keeps
    | with_reducible apply Keeps.foldl
    | split
    | (intro _ _ _)
    | with_reducible apply Keeps.upd_rot)

/-- Changes at most: regs, cans. -/
theorem State.plyCan_keeps {P : Nat} {s₀ : State} (s : State)
    (hP : 18014398509482000 &&& P = 18014398509482000) (h : Keeps P s₀ s) :
    Keeps P s₀ (State.plyCan s) := by
  unfold State.plyCan
  repeat' (first
    | with_reducible assumption
    | exact Mask.sub hP (by decide)
    | (extract_lets +onlyGivenNames x; refine Keeps.cut P s₀ x ?_ fun hx => ?_; (on_goal 2 => clear_value x); revert x; change Keeps _ _ _)
    | (extract_lets +onlyGivenNames x; clear_value x)
    | with_reducible apply State.canRequest_keeps
    | with_reducible apply State.set_keeps
    | with_reducible apply Keeps.foldl
    | split
    | (intro _ _ _))

/-- Changes at most: regs, reports, dma, supply. -/
theorem State.plyData_keeps {P : Nat} {s₀ : State} (s : State) (old : State)
    (hP : 4899916394579107856 &&& P = 4899916394579107856) (h : Keeps P s₀ s) :
    Keeps P s₀ (State.plyData s old) := by
  unfold State.plyData
  repeat' (first
    | with_reducible assumption
    | exact Mask.sub hP (by decide)
    | (extract_lets +onlyGivenNames x; refine Keeps.cut P s₀ x ?_ fun hx => ?_; (on_goal 2 => clear_value x); revert x; change Keeps _ _ _)
    | (extract_lets +onlyGivenNames x; clear_value x)
    | with_reducible apply State.dmaEnable_keeps
    | with_reducible apply State.domainFollow_keeps
    | with_reducible apply Keeps.foldl
    | split
    | (intro _ _ _))

/-- Changes at most: regs, reports, mergeOpen, gov, weave, saf. -/
theorem State.loaded_keeps {P : Nat} {s₀ : State} (s : State) (p : PlySrc)
    (hP : 9223372036855586832 &&& P = 9223372036855586832) (h : Keeps P s₀ s) :
    Keeps P s₀ (State.loaded s p) := by
  unfold State.loaded
  repeat' (first
    | with_reducible assumption
    | exact Mask.sub hP (by decide)
    | (extract_lets +onlyGivenNames x; refine Keeps.cut P s₀ x ?_ fun hx => ?_; (on_goal 2 => clear_value x); revert x; change Keeps _ _ _)
    | (extract_lets +onlyGivenNames x; clear_value x)
    | with_reducible apply State.set_keeps
    | with_reducible apply State.resetEvent_keeps
    | with_reducible apply Keeps.upd_gov
    | with_reducible apply Keeps.upd_weave
    | with_reducible apply Keeps.upd_saf
    | (apply Keeps.many; (case h => assumption); (case hq => rfl); (case hf => exact Nat.le_refl _); (case hc => exact fun hc => hc); (case hm => exact fun h => h); (case hp => (intro p; cases p <;> first | exact Or.inr rfl | exact Or.inl (Mask.mem hP (by decide))))))

/-- Changes at most: regs, work, ticks, reports, mergeOpen, causes, gov, weave, primary, warps, wefts, learn, shTok, bkTok, pair, shuttles, seqTok, pulseOuts, banks, cmps, boosts, closures, seqs, rot, wmons, ptimers, cmbSig, pins, combust, trimDue, maps, rail, ovs, cans, streams, ports, dma, dmaTrigs, supply, saf. -/
theorem State.loadPly_keeps {P : Nat} {s₀ : State} (s : State) (p : PlySrc) (refA : Word) (refB : Word)
    (hP : 14827815212496547920 &&& P = 14827815212496547920) (h : Keeps P s₀ s) :
    Keeps P s₀ (State.loadPly s p refA refB) := by
  unfold State.loadPly
  repeat' (first
    | with_reducible assumption
    | exact Mask.sub hP (by decide)
    | (extract_lets +onlyGivenNames x; refine Keeps.cut P s₀ x ?_ fun hx => ?_; (on_goal 2 => clear_value x); revert x; change Keeps _ _ _)
    | (extract_lets +onlyGivenNames x; clear_value x)
    | with_reducible apply State.plyFront_keeps
    | with_reducible apply State.plyCan_keeps
    | with_reducible apply State.plyData_keeps
    | with_reducible apply State.loaded_keeps
    | with_reducible apply State.set_keeps
    | with_reducible apply State.trimOff_keeps
    | with_reducible apply State.resetTiles_keeps
    | with_reducible apply State.applyPly_keeps
    | with_reducible apply State.loadFailed_keeps
    | with_reducible apply State.showSel_keeps
    | split
    | refine ExKeeps.of (by assumption) ?_
    | with_reducible apply Keeps.upd_weave)

/-- Changes at most: regs, work, ticks, reports, mergeOpen, causes, gov, weave, primary, warps, wefts, learn, shTok, bkTok, pair, shuttles, seqTok, pulseOuts, banks, cmps, boosts, closures, seqs, rot, wmons, ptimers, cmbSig, pins, combust, trimDue, maps, rail, ovs, cans, streams, ports, dma, dmaTrigs, supply, saf. -/
theorem State.finishLoad_keeps {P : Nat} {s₀ : State} (s : State) (refA : Word) (refB : Word)
    (hP : 14827815212496547920 &&& P = 14827815212496547920) (h : Keeps P s₀ s) :
    Keeps P s₀ (State.finishLoad s refA refB) := by
  unfold State.finishLoad
  repeat' (first
    | with_reducible assumption
    | exact Mask.sub hP (by decide)
    | (extract_lets +onlyGivenNames x; refine Keeps.cut P s₀ x ?_ fun hx => ?_; (on_goal 2 => clear_value x); revert x; change Keeps _ _ _)
    | (extract_lets +onlyGivenNames x; clear_value x)
    | with_reducible apply State.loadPly_keeps
    | with_reducible apply State.set_keeps
    | with_reducible apply State.checkPlies_keeps
    | with_reducible apply State.loadFailed_keeps
    | split)

/-- Changes any part but: fresh, power, straps, trace, recMem, ply0, ply1, ply2, flash, fifo, crossings, recJobs, acc, slices, inCal, monTest, svc, selv, enumStart, host, sents, ahead, strand. -/
theorem execLoadComplete_keeps {P : Nat} {s₀ : State} (t : Word) (refA : Word) (refB : Word) (s : State)
    (hP : 14827815212496547921 &&& P = 14827815212496547921) (h : Keeps P s₀ s) :
    OutKeeps P s₀ (execLoadComplete t refA refB s) := by
  unfold execLoadComplete
  repeat' (first
    | with_reducible assumption
    | exact Mask.sub hP (by decide)
    | (extract_lets +onlyGivenNames x; refine Keeps.cut P s₀ x ?_ fun hx => ?_; (on_goal 2 => clear_value x); revert x; change Keeps _ _ _)
    | (extract_lets +onlyGivenNames x; clear_value x)
    | with_reducible apply OutKeeps.next
    | with_reducible apply State.finishLoad_keeps
    | with_reducible apply State.at_keeps
    | split)

end Sys2Proof.Machine
end

