-- ==== Sys2Proof/Laws/KeepsMasters.lean ====
section
/-!
SUPPORT. What each operation of Machine/Masters.lean may change (Laws/Keeps.lean).
-/
set_option linter.unusedTactic false
set_option linter.unreachableTactic false
namespace Sys2Proof.Machine

/-- Changes any part but: straps. -/
theorem State.recordArrives_keeps {P : Nat} {s₀ : State} (s : State) (f : ℕ) (p : List ℕ)
    (hP : 18446744073709551607 &&& P = 18446744073709551607) (h : Keeps P s₀ s) :
    Keeps P s₀ (State.recordArrives s f p) := by
  unfold State.recordArrives
  repeat' (first
    | with_reducible assumption
    | exact Mask.sub hP (by decide)
    | with_reducible apply State.memTurn_keeps
    | with_reducible apply State.recordFrame_keeps
    | split)

/-- Changes any part but: straps. -/
theorem State.blockArrives_keeps {P : Nat} {s₀ : State} (s : State) (f : ℕ) (p : List ℕ)
    (hP : 18446744073709551607 &&& P = 18446744073709551607) (h : Keeps P s₀ s) :
    Keeps P s₀ (State.blockArrives s f p) := by
  unfold State.blockArrives
  repeat' (first
    | with_reducible assumption
    | exact Mask.sub hP (by decide)
    | with_reducible apply State.memTurn_keeps
    | with_reducible apply State.blockFrame_keeps
    | split)

/-- Changes any part but: straps. -/
theorem execProexRecordFrame_keeps {P : Nat} {s₀ : State} (t : Word) (fseq : Fin 256) (p : List ℕ) (s : State)
    (hP : 18446744073709551607 &&& P = 18446744073709551607) (h : Keeps P s₀ s) :
    OutKeeps P s₀ (execProexRecordFrame t fseq p s) := by
  unfold execProexRecordFrame
  repeat' (first
    | with_reducible assumption
    | exact Mask.sub hP (by decide)
    | (extract_lets +onlyGivenNames x; refine Keeps.cut P s₀ x ?_ fun hx => ?_; (on_goal 2 => clear_value x); revert x; change Keeps _ _ _)
    | (extract_lets +onlyGivenNames x; clear_value x)
    | with_reducible apply OutKeeps.next
    | with_reducible apply State.recordArrives_keeps
    | with_reducible apply State.passed_keeps
    | with_reducible apply State.at_keeps
    | split)

/-- Changes any part but: straps. -/
theorem execProexBlockFrame_keeps {P : Nat} {s₀ : State} (t : Word) (fseq : Fin 256) (p : List ℕ) (s : State)
    (hP : 18446744073709551607 &&& P = 18446744073709551607) (h : Keeps P s₀ s) :
    OutKeeps P s₀ (execProexBlockFrame t fseq p s) := by
  unfold execProexBlockFrame
  repeat' (first
    | with_reducible assumption
    | exact Mask.sub hP (by decide)
    | (extract_lets +onlyGivenNames x; refine Keeps.cut P s₀ x ?_ fun hx => ?_; (on_goal 2 => clear_value x); revert x; change Keeps _ _ _)
    | (extract_lets +onlyGivenNames x; clear_value x)
    | with_reducible apply OutKeeps.next
    | with_reducible apply State.blockArrives_keeps
    | with_reducible apply State.passed_keeps
    | with_reducible apply State.at_keeps
    | split)

/-- Changes any part but: straps. -/
theorem State.proexAccess_keeps {P : Nat} {s₀ : State} (s : State) (c : Instr)
    (hP : 18446744073709551607 &&& P = 18446744073709551607) (h : Keeps P s₀ s) :
    OptKeeps P s₀ (State.proexAccess s c) := by
  unfold State.proexAccess
  repeat' (first
    | with_reducible assumption
    | exact Mask.sub hP (by decide)
    | (extract_lets +onlyGivenNames x; refine Keeps.cut P s₀ x ?_ fun hx => ?_; (on_goal 2 => clear_value x); revert x; change Keeps _ _ _)
    | (extract_lets +onlyGivenNames x; clear_value x)
    | with_reducible apply OptKeeps.some
    | with_reducible exact OptKeeps.none
    | with_reducible apply OptKeeps₂.some
    | with_reducible exact OptKeeps₂.none
    | with_reducible apply State.recordArrives_keeps
    | with_reducible apply State.blockArrives_keeps
    | split)

/-- Changes any part but: straps. -/
theorem State.proexFirst_keeps {P : Nat} {s₀ : State} (s : State)
    (hP : 18446744073709551607 &&& P = 18446744073709551607) (h : Keeps P s₀ s) :
    Keeps P s₀ (State.proexFirst s) := by
  unfold State.proexFirst
  repeat' (first
    | with_reducible assumption
    | exact Mask.sub hP (by decide)
    | with_reducible apply State.take_keeps
    | with_reducible apply State.proexAccess_keeps
    | with_reducible apply Keeps.foldl
    | (intro _ _ _)
    | (intro _ _ _)
    | refine OptKeeps.of (by assumption) ?_
    | refine OptKeeps₂.of (by assumption) ?_)

/-- Changes any part but: straps. -/
theorem State.datagram_keeps {P : Nat} {s₀ : State} (s : State) (p : ℕ)
    (hP : 18446744073709551607 &&& P = 18446744073709551607) (h : Keeps P s₀ s) :
    Keeps P s₀ (State.datagram s p) := by
  unfold State.datagram
  repeat' (first
    | with_reducible assumption
    | exact Mask.sub hP (by decide)
    | (extract_lets +onlyGivenNames x; refine Keeps.cut P s₀ x ?_ fun hx => ?_; (on_goal 2 => clear_value x); revert x; change Keeps _ _ _)
    | (extract_lets +onlyGivenNames x; clear_value x)
    | with_reducible apply State.memTurn_keeps
    | with_reducible apply State.startDatagram_keeps
    | with_reducible apply State.proexFirst_keeps
    | split)

/-- Changes any part but: straps. -/
theorem execDatagramStart_keeps {P : Nat} {s₀ : State} (t : Word) (p : Fin 2) (s : State)
    (hP : 18446744073709551607 &&& P = 18446744073709551607) (h : Keeps P s₀ s) :
    OutKeeps P s₀ (execDatagramStart t p s) := by
  unfold execDatagramStart
  repeat' (first
    | with_reducible assumption
    | exact Mask.sub hP (by decide)
    | (extract_lets +onlyGivenNames x; refine Keeps.cut P s₀ x ?_ fun hx => ?_; (on_goal 2 => clear_value x); revert x; change Keeps _ _ _)
    | (extract_lets +onlyGivenNames x; clear_value x)
    | with_reducible apply OutKeeps.next
    | with_reducible apply State.datagram_keeps
    | with_reducible apply State.passed_keeps
    | with_reducible apply State.at_keeps
    | split)

/-- Changes any part but: straps. -/
theorem State.ethernetAccess_keeps {P : Nat} {s₀ : State} (s : State) (c : Instr)
    (hP : 18446744073709551607 &&& P = 18446744073709551607) (h : Keeps P s₀ s) :
    OptKeeps P s₀ (State.ethernetAccess s c) := by
  unfold State.ethernetAccess
  repeat' (first
    | with_reducible assumption
    | exact Mask.sub hP (by decide)
    | (extract_lets +onlyGivenNames x; refine Keeps.cut P s₀ x ?_ fun hx => ?_; (on_goal 2 => clear_value x); revert x; change Keeps _ _ _)
    | (extract_lets +onlyGivenNames x; clear_value x)
    | with_reducible apply OptKeeps.some
    | with_reducible exact OptKeeps.none
    | with_reducible apply OptKeeps₂.some
    | with_reducible exact OptKeeps₂.none
    | with_reducible apply State.datagram_keeps
    | split)

/-- Changes any part but: straps. -/
theorem State.canTurn_keeps {P : Nat} {s₀ : State} (s : State)
    (hP : 18446744073709551607 &&& P = 18446744073709551607) (h : Keeps P s₀ s) :
    Keeps P s₀ (State.canTurn s) := by
  unfold State.canTurn
  repeat' (first
    | with_reducible assumption
    | exact Mask.sub hP (by decide)
    | (extract_lets +onlyGivenNames x; refine Keeps.cut P s₀ x ?_ fun hx => ?_; (on_goal 2 => clear_value x); revert x; change Keeps _ _ _)
    | (extract_lets +onlyGivenNames x; clear_value x)
    | with_reducible apply State.take_keeps
    | with_reducible apply State.memTurn_keeps
    | with_reducible apply State.proexFirst_keeps
    | with_reducible apply State.ethernetAccess_keeps
    | with_reducible apply Keeps.foldl
    | (intro _ _ _)
    | (intro _ _ _)
    | refine OptKeeps.of (by assumption) ?_
    | refine OptKeeps₂.of (by assumption) ?_)

/-- Changes any part but: straps. -/
theorem execCanTxDone_keeps {P : Nat} {s₀ : State} (t : Word) (c : Fin 4) (sof : Word) (fails : ℕ) (s : State)
    (hP : 18446744073709551607 &&& P = 18446744073709551607) (h : Keeps P s₀ s) :
    OutKeeps P s₀ (execCanTxDone t c sof fails s) := by
  unfold execCanTxDone
  repeat' (first
    | with_reducible assumption
    | exact Mask.sub hP (by decide)
    | (extract_lets +onlyGivenNames x; refine Keeps.cut P s₀ x ?_ fun hx => ?_; (on_goal 2 => clear_value x); revert x; change Keeps _ _ _)
    | (extract_lets +onlyGivenNames x; clear_value x)
    | with_reducible apply OutKeeps.next
    | with_reducible apply State.canSent_keeps
    | with_reducible apply State.canTurn_keeps
    | with_reducible apply State.at_keeps
    | split)

/-- Changes any part but: straps. -/
theorem execCanRxFrame_keeps {P : Nat} {s₀ : State} (t : Word) (c : Fin 4) (f : CanFrame) (sof : Word) (errs : ℕ) (s : State)
    (hP : 18446744073709551607 &&& P = 18446744073709551607) (h : Keeps P s₀ s) :
    OutKeeps P s₀ (execCanRxFrame t c f sof errs s) := by
  unfold execCanRxFrame
  repeat' (first
    | with_reducible assumption
    | exact Mask.sub hP (by decide)
    | (extract_lets +onlyGivenNames x; refine Keeps.cut P s₀ x ?_ fun hx => ?_; (on_goal 2 => clear_value x); revert x; change Keeps _ _ _)
    | (extract_lets +onlyGivenNames x; clear_value x)
    | with_reducible apply OutKeeps.next
    | with_reducible apply State.canReceived_keeps
    | with_reducible apply State.canTurn_keeps
    | with_reducible apply State.at_keeps
    | split)

end Sys2Proof.Machine
end

