-- ==== Sys2Proof/Laws/Regs.lean ====
section
/-!
SUPPORT. The laws of register words and their fields: a read of a field just written gives the value written, cut to the
field's width; a write leaves every other field and every other register alone.
-/
namespace Sys2Proof.Machine

/-! ### Fields of words -/

theorem Fld.get_testBit (f : Fld) (w : Word) (i : Nat) :
    (f.get w).testBit i = (decide (i < f.wid) && w.getLsbD (f.lo + i)) := by
  simp only [Fld.get, Nat.testBit_mod_two_pow, BitVec.toNat_ushiftRight, Nat.testBit_shiftRight]
  rfl

theorem Fld.put_getLsbD (f : Fld) (w : Word) (v i : Nat) (hi : i < 48) (hf : f.lo + f.wid ≤ 48) :
    (f.put w v).getLsbD i
      = if f.lo ≤ i ∧ i < f.lo + f.wid then v.testBit (i - f.lo) else w.getLsbD i := by
  have hm : ∀ k, (2 ^ f.wid - 1).testBit k = decide (k < f.wid) := fun k => by
    simp [Nat.testBit_two_pow_sub_one]
  simp only [Fld.put, BitVec.getLsbD_or, BitVec.getLsbD_and, BitVec.getLsbD_not, BitVec.getLsbD_shiftLeft,
    BitVec.getLsbD_ofNat, hm, Nat.testBit_mod_two_pow, hi]
  by_cases h1 : f.lo ≤ i
  · by_cases h2 : i < f.lo + f.wid
    · have h3 : i - f.lo < f.wid := by omega
      have h4 : i - f.lo < 48 := by omega
      simp [h1, h2, h3, h4, Nat.not_lt.2 h1]
    · have h3 : ¬ i - f.lo < f.wid := by omega
      simp [h1, h2, h3, Nat.not_lt.2 h1]
  · have h2 : i < f.lo := by omega
    simp [h1, h2]

/-- A field just written reads as the value cut to its width. -/
theorem Fld.get_put (f : Fld) (w : Word) (v : Nat) (hf : f.lo + f.wid ≤ 48) : f.get (f.put w v) = v % 2 ^ f.wid := by
  apply Nat.eq_of_testBit_eq
  intro i
  rw [Fld.get_testBit, Nat.testBit_mod_two_pow]
  by_cases h : i < f.wid
  · rw [Fld.put_getLsbD f w v _ (by omega) hf]
    simp [h]
  · simp [h]

/-- A write of a field leaves the fields beside it alone. -/
theorem Fld.get_put_ne (f g : Fld) (w : Word) (v : Nat) (hf : f.lo + f.wid ≤ 48) (hg : g.lo + g.wid ≤ 48)
    (h : f.lo + f.wid ≤ g.lo ∨ g.lo + g.wid ≤ f.lo) : g.get (f.put w v) = g.get w := by
  apply Nat.eq_of_testBit_eq
  intro i
  rw [Fld.get_testBit, Fld.get_testBit]
  by_cases hi : i < g.wid
  · rw [Fld.put_getLsbD f w v _ (by omega) hf, if_neg (by omega)]
  · simp [hi]

theorem Fld.get_lt (f : Fld) (w : Word) : f.get w < 2 ^ f.wid := Nat.mod_lt _ (Nat.two_pow_pos _)

/-! ### Registers -/
variable (s : State)

@[simp] theorem State.reg_setReg (a : Nat) (w : Word) : (s.setReg a w).reg a = w := by
  simp [State.reg, State.setReg]

theorem State.reg_setReg_ne {a b : Nat} (w : Word) (h : b ≠ a) : (s.setReg a w).reg b = s.reg b := by
  simp [State.reg, State.setReg, Cells.get_set_ne _ _ _ h]

/-- Every register after a write of one. -/
theorem State.reg_setReg_if (a b : Nat) (w : Word) : (s.setReg a w).reg b = if b = a then w else s.reg b := by
  split
  · subst_vars; simp
  · exact State.reg_setReg_ne s _ ‹_›

theorem State.get_lt (f : Fld) : s.get f < 2 ^ f.wid := Fld.get_lt _ _

/-- A field just written. -/
theorem State.get_set (f : Fld) (v : Nat) (hf : f.lo + f.wid ≤ 48) : (s.set f v).get f = v % 2 ^ f.wid := by
  simp [State.get, State.set, Fld.get_put f _ _ hf]

/-- Another register, or another field of the same register. -/
theorem State.get_set_ne (f g : Fld) (v : Nat)
    (h : f.addr ≠ g.addr ∨ (f.lo + f.wid ≤ 48 ∧ g.lo + g.wid ≤ 48 ∧ (f.lo + f.wid ≤ g.lo ∨ g.lo + g.wid ≤ f.lo))) :
    (s.set f v).get g = s.get g := by
  by_cases ha : f.addr = g.addr
  · rcases h with h | ⟨h1, h2, h3⟩
    · exact absurd ha h
    · simp [State.get, State.set, ← ha, Fld.get_put_ne f g _ _ h1 h2 h3]
  · simp only [State.get, State.set]
    rw [State.reg_setReg_ne _ _ (Ne.symm ha)]

theorem State.reg_set_ne (f : Fld) (v : Nat) {b : Nat} (h : b ≠ f.addr) : (s.set f v).reg b = s.reg b :=
  State.reg_setReg_ne _ _ h

theorem State.get_setReg (f : Fld) (w : Word) : (s.setReg f.addr w).get f = f.get w := by simp [State.get]

theorem State.get_setReg_ne {a : Nat} (w : Word) (f : Fld) (h : f.addr ≠ a) : (s.setReg a w).get f = s.get f := by
  simp only [State.get]; rw [State.reg_setReg_ne _ _ h]

@[simp] theorem State.get_note (f g : Fld) (n : Nat) : (s.note g n).get f = s.get f := rfl
@[simp] theorem State.reg_note (g : Fld) (n a : Nat) : (s.note g n).reg a = s.reg a := rfl

/-- A saturating counter after one more. -/
theorem State.get_inc (f : Fld) (hf : f.lo + f.wid ≤ 48) : (s.inc f).get f = min (s.get f + 1) f.max := by
  have h : min (s.get f + 1) f.max < 2 ^ f.wid := by
    have := Nat.two_pow_pos f.wid
    simp only [Fld.max]; omega
  rw [State.inc, State.add, State.get_note, State.get_set _ _ _ hf, Nat.mod_eq_of_lt h]

theorem State.is_eq (f : Fld) : s.is f = decide (s.get f = 1) := rfl

end Sys2Proof.Machine
end

