-- ==== Sys2Proof/Laws/State.lean ====
section
/-!
SUPPORT. What each named update of the state leaves alone: every other field, and every reading of other fields.
-/
namespace Sys2Proof.Machine

/-! ### Vectors of units -/

@[simp] theorem vget_vset_same {α : Type} {n : Nat} [Inhabited α] (v : Vector α n) {i : Nat} (x : α) (h : i < n) :
    vget (vset v i x) i = x := by
  simp [vget, vset, List.getD_eq_getElem?_getD, h]

theorem vget_vset_ne {α : Type} {n : Nat} [Inhabited α] (v : Vector α n) {i j : Nat} (x : α) (h : j ≠ i) :
    vget (vset v i x) j = vget v j := by
  simp [vget, vset, List.getD_eq_getElem?_getD, List.getElem?_set_ne h.symm]

/-! ### The updates -/
variable (s : State)

@[simp] theorem State.setReg_rest (a : Nat) (w : Word) :
    (s.setReg a w).now = s.now ∧ (s.setReg a w).fresh = s.fresh ∧ (s.setReg a w).power = s.power ∧
    (s.setReg a w).straps = s.straps ∧ (s.setReg a w).trace = s.trace ∧ (s.setReg a w).work = s.work ∧
    (s.setReg a w).recMem = s.recMem ∧ (s.setReg a w).ply0 = s.ply0 ∧ (s.setReg a w).ply1 = s.ply1 ∧
    (s.setReg a w).ply2 = s.ply2 ∧ (s.setReg a w).flash = s.flash ∧ (s.setReg a w).ticks = s.ticks ∧
    (s.setReg a w).reports = s.reports ∧ (s.setReg a w).mergeOpen = s.mergeOpen ∧ (s.setReg a w).fifo = s.fifo ∧
    (s.setReg a w).causes = s.causes ∧ (s.setReg a w).crossings = s.crossings ∧ (s.setReg a w).gov = s.gov ∧
    (s.setReg a w).weave = s.weave ∧ (s.setReg a w).primary = s.primary ∧ (s.setReg a w).warps = s.warps ∧
    (s.setReg a w).wefts = s.wefts ∧ (s.setReg a w).learn = s.learn ∧ (s.setReg a w).shTok = s.shTok ∧
    (s.setReg a w).bkTok = s.bkTok ∧ (s.setReg a w).pair = s.pair ∧ (s.setReg a w).recJobs = s.recJobs ∧
    (s.setReg a w).acc = s.acc ∧ (s.setReg a w).shuttles = s.shuttles ∧ (s.setReg a w).seqTok = s.seqTok ∧
    (s.setReg a w).pulseOuts = s.pulseOuts ∧ (s.setReg a w).banks = s.banks ∧ (s.setReg a w).cmps = s.cmps ∧
    (s.setReg a w).boosts = s.boosts ∧ (s.setReg a w).closures = s.closures ∧ (s.setReg a w).seqs = s.seqs ∧
    (s.setReg a w).slices = s.slices ∧ (s.setReg a w).rot = s.rot ∧ (s.setReg a w).inCal = s.inCal ∧
    (s.setReg a w).wmons = s.wmons ∧ (s.setReg a w).ptimers = s.ptimers ∧ (s.setReg a w).monTest = s.monTest ∧
    (s.setReg a w).cmbSig = s.cmbSig ∧ (s.setReg a w).pins = s.pins ∧ (s.setReg a w).combust = s.combust ∧
    (s.setReg a w).trimDue = s.trimDue ∧ (s.setReg a w).maps = s.maps ∧ (s.setReg a w).svc = s.svc ∧
    (s.setReg a w).rail = s.rail ∧ (s.setReg a w).ovs = s.ovs ∧ (s.setReg a w).selv = s.selv ∧
    (s.setReg a w).enumStart = s.enumStart ∧ (s.setReg a w).host = s.host ∧ (s.setReg a w).cans = s.cans ∧
    (s.setReg a w).streams = s.streams ∧ (s.setReg a w).ports = s.ports ∧ (s.setReg a w).sents = s.sents ∧
    (s.setReg a w).dma = s.dma ∧ (s.setReg a w).dmaTrigs = s.dmaTrigs ∧ (s.setReg a w).ahead = s.ahead ∧
    (s.setReg a w).strand = s.strand ∧ (s.setReg a w).supply = s.supply ∧ (s.setReg a w).saf = s.saf ∧
    (s.setReg a w).pending = s.pending ∧ (∀ i j, (s.setReg a w).hasTile i j = s.hasTile i j) ∧
    (∀ i, (s.setReg a w).sh i = s.sh i) ∧ (∀ i, (s.setReg a w).bk i = s.bk i) ∧ (∀ i, (s.setReg a w).wp i = s.wp i) ∧
    (∀ i, (s.setReg a w).wf i = s.wf i) ∧ (∀ i, (s.setReg a w).po i = s.po i) ∧ (∀ i, (s.setReg a w).wm i = s.wm i) ∧
    (∀ i, (s.setReg a w).sq i = s.sq i) ∧ (∀ i, (s.setReg a w).bst i = s.bst i) ∧ (∀ i, (s.setReg a w).ch i = s.ch i) ∧
    (∀ i, (s.setReg a w).can i = s.can i) ∧ (∀ i, (s.setReg a w).str i = s.str i) ∧
    (∀ i, (s.setReg a w).cmb i = s.cmb i) ∧ (∀ i, (s.setReg a w).port i = s.port i) ∧
    (∀ i, (s.setReg a w).line i = s.line i) := by
  refine ⟨?_, ?_, ?_, ?_, ?_, ?_, ?_, ?_, ?_, ?_, ?_, ?_, ?_, ?_, ?_, ?_, ?_, ?_, ?_, ?_, ?_, ?_, ?_, ?_, ?_, ?_, ?_, ?_, ?_, ?_, ?_, ?_, ?_, ?_, ?_, ?_, ?_, ?_, ?_, ?_, ?_, ?_, ?_, ?_, ?_, ?_, ?_, ?_, ?_, ?_, ?_, ?_, ?_, ?_, ?_, ?_, ?_, ?_, ?_, ?_, ?_, ?_, ?_, ?_, ?_, ?_, ?_, ?_, ?_, ?_, ?_, ?_, ?_, ?_, ?_, ?_, ?_, ?_, ?_⟩ <;> first | rfl | exact fun _ => rfl | exact fun _ _ => rfl

@[simp] theorem State.set_rest (f : Fld) (v : Nat) :
    (s.set f v).now = s.now ∧ (s.set f v).fresh = s.fresh ∧ (s.set f v).power = s.power ∧ (s.set f v).straps = s.straps ∧
    (s.set f v).trace = s.trace ∧ (s.set f v).work = s.work ∧ (s.set f v).recMem = s.recMem ∧ (s.set f v).ply0 = s.ply0 ∧
    (s.set f v).ply1 = s.ply1 ∧ (s.set f v).ply2 = s.ply2 ∧ (s.set f v).flash = s.flash ∧ (s.set f v).ticks = s.ticks ∧
    (s.set f v).reports = s.reports ∧ (s.set f v).mergeOpen = s.mergeOpen ∧ (s.set f v).fifo = s.fifo ∧
    (s.set f v).causes = s.causes ∧ (s.set f v).crossings = s.crossings ∧ (s.set f v).gov = s.gov ∧
    (s.set f v).weave = s.weave ∧ (s.set f v).primary = s.primary ∧ (s.set f v).warps = s.warps ∧
    (s.set f v).wefts = s.wefts ∧ (s.set f v).learn = s.learn ∧ (s.set f v).shTok = s.shTok ∧
    (s.set f v).bkTok = s.bkTok ∧ (s.set f v).pair = s.pair ∧ (s.set f v).recJobs = s.recJobs ∧ (s.set f v).acc = s.acc ∧
    (s.set f v).shuttles = s.shuttles ∧ (s.set f v).seqTok = s.seqTok ∧ (s.set f v).pulseOuts = s.pulseOuts ∧
    (s.set f v).banks = s.banks ∧ (s.set f v).cmps = s.cmps ∧ (s.set f v).boosts = s.boosts ∧
    (s.set f v).closures = s.closures ∧ (s.set f v).seqs = s.seqs ∧ (s.set f v).slices = s.slices ∧
    (s.set f v).rot = s.rot ∧ (s.set f v).inCal = s.inCal ∧ (s.set f v).wmons = s.wmons ∧
    (s.set f v).ptimers = s.ptimers ∧ (s.set f v).monTest = s.monTest ∧ (s.set f v).cmbSig = s.cmbSig ∧
    (s.set f v).pins = s.pins ∧ (s.set f v).combust = s.combust ∧ (s.set f v).trimDue = s.trimDue ∧
    (s.set f v).maps = s.maps ∧ (s.set f v).svc = s.svc ∧ (s.set f v).rail = s.rail ∧ (s.set f v).ovs = s.ovs ∧
    (s.set f v).selv = s.selv ∧ (s.set f v).enumStart = s.enumStart ∧ (s.set f v).host = s.host ∧
    (s.set f v).cans = s.cans ∧ (s.set f v).streams = s.streams ∧ (s.set f v).ports = s.ports ∧
    (s.set f v).sents = s.sents ∧ (s.set f v).dma = s.dma ∧ (s.set f v).dmaTrigs = s.dmaTrigs ∧
    (s.set f v).ahead = s.ahead ∧ (s.set f v).strand = s.strand ∧ (s.set f v).supply = s.supply ∧
    (s.set f v).saf = s.saf ∧ (s.set f v).pending = s.pending ∧ (∀ i j, (s.set f v).hasTile i j = s.hasTile i j) ∧
    (∀ i, (s.set f v).sh i = s.sh i) ∧ (∀ i, (s.set f v).bk i = s.bk i) ∧ (∀ i, (s.set f v).wp i = s.wp i) ∧
    (∀ i, (s.set f v).wf i = s.wf i) ∧ (∀ i, (s.set f v).po i = s.po i) ∧ (∀ i, (s.set f v).wm i = s.wm i) ∧
    (∀ i, (s.set f v).sq i = s.sq i) ∧ (∀ i, (s.set f v).bst i = s.bst i) ∧ (∀ i, (s.set f v).ch i = s.ch i) ∧
    (∀ i, (s.set f v).can i = s.can i) ∧ (∀ i, (s.set f v).str i = s.str i) ∧ (∀ i, (s.set f v).cmb i = s.cmb i) ∧
    (∀ i, (s.set f v).port i = s.port i) ∧ (∀ i, (s.set f v).line i = s.line i) := by
  refine ⟨?_, ?_, ?_, ?_, ?_, ?_, ?_, ?_, ?_, ?_, ?_, ?_, ?_, ?_, ?_, ?_, ?_, ?_, ?_, ?_, ?_, ?_, ?_, ?_, ?_, ?_, ?_, ?_, ?_, ?_, ?_, ?_, ?_, ?_, ?_, ?_, ?_, ?_, ?_, ?_, ?_, ?_, ?_, ?_, ?_, ?_, ?_, ?_, ?_, ?_, ?_, ?_, ?_, ?_, ?_, ?_, ?_, ?_, ?_, ?_, ?_, ?_, ?_, ?_, ?_, ?_, ?_, ?_, ?_, ?_, ?_, ?_, ?_, ?_, ?_, ?_, ?_, ?_, ?_⟩ <;> first | rfl | exact fun _ => rfl | exact fun _ _ => rfl

@[simp] theorem State.setI_rest (f : Fld) (v : Int) :
    (s.setI f v).now = s.now ∧ (s.setI f v).fresh = s.fresh ∧ (s.setI f v).power = s.power ∧
    (s.setI f v).straps = s.straps ∧ (s.setI f v).trace = s.trace ∧ (s.setI f v).work = s.work ∧
    (s.setI f v).recMem = s.recMem ∧ (s.setI f v).ply0 = s.ply0 ∧ (s.setI f v).ply1 = s.ply1 ∧
    (s.setI f v).ply2 = s.ply2 ∧ (s.setI f v).flash = s.flash ∧ (s.setI f v).ticks = s.ticks ∧
    (s.setI f v).reports = s.reports ∧ (s.setI f v).mergeOpen = s.mergeOpen ∧ (s.setI f v).fifo = s.fifo ∧
    (s.setI f v).causes = s.causes ∧ (s.setI f v).crossings = s.crossings ∧ (s.setI f v).gov = s.gov ∧
    (s.setI f v).weave = s.weave ∧ (s.setI f v).primary = s.primary ∧ (s.setI f v).warps = s.warps ∧
    (s.setI f v).wefts = s.wefts ∧ (s.setI f v).learn = s.learn ∧ (s.setI f v).shTok = s.shTok ∧
    (s.setI f v).bkTok = s.bkTok ∧ (s.setI f v).pair = s.pair ∧ (s.setI f v).recJobs = s.recJobs ∧
    (s.setI f v).acc = s.acc ∧ (s.setI f v).shuttles = s.shuttles ∧ (s.setI f v).seqTok = s.seqTok ∧
    (s.setI f v).pulseOuts = s.pulseOuts ∧ (s.setI f v).banks = s.banks ∧ (s.setI f v).cmps = s.cmps ∧
    (s.setI f v).boosts = s.boosts ∧ (s.setI f v).closures = s.closures ∧ (s.setI f v).seqs = s.seqs ∧
    (s.setI f v).slices = s.slices ∧ (s.setI f v).rot = s.rot ∧ (s.setI f v).inCal = s.inCal ∧
    (s.setI f v).wmons = s.wmons ∧ (s.setI f v).ptimers = s.ptimers ∧ (s.setI f v).monTest = s.monTest ∧
    (s.setI f v).cmbSig = s.cmbSig ∧ (s.setI f v).pins = s.pins ∧ (s.setI f v).combust = s.combust ∧
    (s.setI f v).trimDue = s.trimDue ∧ (s.setI f v).maps = s.maps ∧ (s.setI f v).svc = s.svc ∧
    (s.setI f v).rail = s.rail ∧ (s.setI f v).ovs = s.ovs ∧ (s.setI f v).selv = s.selv ∧
    (s.setI f v).enumStart = s.enumStart ∧ (s.setI f v).host = s.host ∧ (s.setI f v).cans = s.cans ∧
    (s.setI f v).streams = s.streams ∧ (s.setI f v).ports = s.ports ∧ (s.setI f v).sents = s.sents ∧
    (s.setI f v).dma = s.dma ∧ (s.setI f v).dmaTrigs = s.dmaTrigs ∧ (s.setI f v).ahead = s.ahead ∧
    (s.setI f v).strand = s.strand ∧ (s.setI f v).supply = s.supply ∧ (s.setI f v).saf = s.saf ∧
    (s.setI f v).pending = s.pending ∧ (∀ i j, (s.setI f v).hasTile i j = s.hasTile i j) ∧
    (∀ i, (s.setI f v).sh i = s.sh i) ∧ (∀ i, (s.setI f v).bk i = s.bk i) ∧ (∀ i, (s.setI f v).wp i = s.wp i) ∧
    (∀ i, (s.setI f v).wf i = s.wf i) ∧ (∀ i, (s.setI f v).po i = s.po i) ∧ (∀ i, (s.setI f v).wm i = s.wm i) ∧
    (∀ i, (s.setI f v).sq i = s.sq i) ∧ (∀ i, (s.setI f v).bst i = s.bst i) ∧ (∀ i, (s.setI f v).ch i = s.ch i) ∧
    (∀ i, (s.setI f v).can i = s.can i) ∧ (∀ i, (s.setI f v).str i = s.str i) ∧ (∀ i, (s.setI f v).cmb i = s.cmb i) ∧
    (∀ i, (s.setI f v).port i = s.port i) ∧ (∀ i, (s.setI f v).line i = s.line i) := by
  refine ⟨?_, ?_, ?_, ?_, ?_, ?_, ?_, ?_, ?_, ?_, ?_, ?_, ?_, ?_, ?_, ?_, ?_, ?_, ?_, ?_, ?_, ?_, ?_, ?_, ?_, ?_, ?_, ?_, ?_, ?_, ?_, ?_, ?_, ?_, ?_, ?_, ?_, ?_, ?_, ?_, ?_, ?_, ?_, ?_, ?_, ?_, ?_, ?_, ?_, ?_, ?_, ?_, ?_, ?_, ?_, ?_, ?_, ?_, ?_, ?_, ?_, ?_, ?_, ?_, ?_, ?_, ?_, ?_, ?_, ?_, ?_, ?_, ?_, ?_, ?_, ?_, ?_, ?_, ?_⟩ <;> first | rfl | exact fun _ => rfl | exact fun _ _ => rfl

@[simp] theorem State.flag_rest (f : Fld) (b : Bool) :
    (s.flag f b).now = s.now ∧ (s.flag f b).fresh = s.fresh ∧ (s.flag f b).power = s.power ∧
    (s.flag f b).straps = s.straps ∧ (s.flag f b).trace = s.trace ∧ (s.flag f b).work = s.work ∧
    (s.flag f b).recMem = s.recMem ∧ (s.flag f b).ply0 = s.ply0 ∧ (s.flag f b).ply1 = s.ply1 ∧
    (s.flag f b).ply2 = s.ply2 ∧ (s.flag f b).flash = s.flash ∧ (s.flag f b).ticks = s.ticks ∧
    (s.flag f b).reports = s.reports ∧ (s.flag f b).mergeOpen = s.mergeOpen ∧ (s.flag f b).fifo = s.fifo ∧
    (s.flag f b).causes = s.causes ∧ (s.flag f b).crossings = s.crossings ∧ (s.flag f b).gov = s.gov ∧
    (s.flag f b).weave = s.weave ∧ (s.flag f b).primary = s.primary ∧ (s.flag f b).warps = s.warps ∧
    (s.flag f b).wefts = s.wefts ∧ (s.flag f b).learn = s.learn ∧ (s.flag f b).shTok = s.shTok ∧
    (s.flag f b).bkTok = s.bkTok ∧ (s.flag f b).pair = s.pair ∧ (s.flag f b).recJobs = s.recJobs ∧
    (s.flag f b).acc = s.acc ∧ (s.flag f b).shuttles = s.shuttles ∧ (s.flag f b).seqTok = s.seqTok ∧
    (s.flag f b).pulseOuts = s.pulseOuts ∧ (s.flag f b).banks = s.banks ∧ (s.flag f b).cmps = s.cmps ∧
    (s.flag f b).boosts = s.boosts ∧ (s.flag f b).closures = s.closures ∧ (s.flag f b).seqs = s.seqs ∧
    (s.flag f b).slices = s.slices ∧ (s.flag f b).rot = s.rot ∧ (s.flag f b).inCal = s.inCal ∧
    (s.flag f b).wmons = s.wmons ∧ (s.flag f b).ptimers = s.ptimers ∧ (s.flag f b).monTest = s.monTest ∧
    (s.flag f b).cmbSig = s.cmbSig ∧ (s.flag f b).pins = s.pins ∧ (s.flag f b).combust = s.combust ∧
    (s.flag f b).trimDue = s.trimDue ∧ (s.flag f b).maps = s.maps ∧ (s.flag f b).svc = s.svc ∧
    (s.flag f b).rail = s.rail ∧ (s.flag f b).ovs = s.ovs ∧ (s.flag f b).selv = s.selv ∧
    (s.flag f b).enumStart = s.enumStart ∧ (s.flag f b).host = s.host ∧ (s.flag f b).cans = s.cans ∧
    (s.flag f b).streams = s.streams ∧ (s.flag f b).ports = s.ports ∧ (s.flag f b).sents = s.sents ∧
    (s.flag f b).dma = s.dma ∧ (s.flag f b).dmaTrigs = s.dmaTrigs ∧ (s.flag f b).ahead = s.ahead ∧
    (s.flag f b).strand = s.strand ∧ (s.flag f b).supply = s.supply ∧ (s.flag f b).saf = s.saf ∧
    (s.flag f b).pending = s.pending ∧ (∀ i j, (s.flag f b).hasTile i j = s.hasTile i j) ∧
    (∀ i, (s.flag f b).sh i = s.sh i) ∧ (∀ i, (s.flag f b).bk i = s.bk i) ∧ (∀ i, (s.flag f b).wp i = s.wp i) ∧
    (∀ i, (s.flag f b).wf i = s.wf i) ∧ (∀ i, (s.flag f b).po i = s.po i) ∧ (∀ i, (s.flag f b).wm i = s.wm i) ∧
    (∀ i, (s.flag f b).sq i = s.sq i) ∧ (∀ i, (s.flag f b).bst i = s.bst i) ∧ (∀ i, (s.flag f b).ch i = s.ch i) ∧
    (∀ i, (s.flag f b).can i = s.can i) ∧ (∀ i, (s.flag f b).str i = s.str i) ∧ (∀ i, (s.flag f b).cmb i = s.cmb i) ∧
    (∀ i, (s.flag f b).port i = s.port i) ∧ (∀ i, (s.flag f b).line i = s.line i) := by
  refine ⟨?_, ?_, ?_, ?_, ?_, ?_, ?_, ?_, ?_, ?_, ?_, ?_, ?_, ?_, ?_, ?_, ?_, ?_, ?_, ?_, ?_, ?_, ?_, ?_, ?_, ?_, ?_, ?_, ?_, ?_, ?_, ?_, ?_, ?_, ?_, ?_, ?_, ?_, ?_, ?_, ?_, ?_, ?_, ?_, ?_, ?_, ?_, ?_, ?_, ?_, ?_, ?_, ?_, ?_, ?_, ?_, ?_, ?_, ?_, ?_, ?_, ?_, ?_, ?_, ?_, ?_, ?_, ?_, ?_, ?_, ?_, ?_, ?_, ?_, ?_, ?_, ?_, ?_, ?_⟩ <;> first | rfl | exact fun _ => rfl | exact fun _ _ => rfl

@[simp] theorem State.add_rest (f : Fld) (n : Nat) :
    (s.add f n).now = s.now ∧ (s.add f n).fresh = s.fresh ∧ (s.add f n).power = s.power ∧ (s.add f n).straps = s.straps ∧
    (s.add f n).trace = s.trace ∧ (s.add f n).work = s.work ∧ (s.add f n).recMem = s.recMem ∧ (s.add f n).ply0 = s.ply0 ∧
    (s.add f n).ply1 = s.ply1 ∧ (s.add f n).ply2 = s.ply2 ∧ (s.add f n).flash = s.flash ∧
    (s.add f n).reports = s.reports ∧ (s.add f n).mergeOpen = s.mergeOpen ∧ (s.add f n).fifo = s.fifo ∧
    (s.add f n).causes = s.causes ∧ (s.add f n).crossings = s.crossings ∧ (s.add f n).gov = s.gov ∧
    (s.add f n).weave = s.weave ∧ (s.add f n).primary = s.primary ∧ (s.add f n).warps = s.warps ∧
    (s.add f n).wefts = s.wefts ∧ (s.add f n).learn = s.learn ∧ (s.add f n).shTok = s.shTok ∧
    (s.add f n).bkTok = s.bkTok ∧ (s.add f n).pair = s.pair ∧ (s.add f n).recJobs = s.recJobs ∧ (s.add f n).acc = s.acc ∧
    (s.add f n).shuttles = s.shuttles ∧ (s.add f n).seqTok = s.seqTok ∧ (s.add f n).pulseOuts = s.pulseOuts ∧
    (s.add f n).banks = s.banks ∧ (s.add f n).cmps = s.cmps ∧ (s.add f n).boosts = s.boosts ∧
    (s.add f n).closures = s.closures ∧ (s.add f n).seqs = s.seqs ∧ (s.add f n).slices = s.slices ∧
    (s.add f n).rot = s.rot ∧ (s.add f n).inCal = s.inCal ∧ (s.add f n).wmons = s.wmons ∧
    (s.add f n).ptimers = s.ptimers ∧ (s.add f n).monTest = s.monTest ∧ (s.add f n).cmbSig = s.cmbSig ∧
    (s.add f n).pins = s.pins ∧ (s.add f n).combust = s.combust ∧ (s.add f n).trimDue = s.trimDue ∧
    (s.add f n).maps = s.maps ∧ (s.add f n).svc = s.svc ∧ (s.add f n).rail = s.rail ∧ (s.add f n).ovs = s.ovs ∧
    (s.add f n).selv = s.selv ∧ (s.add f n).enumStart = s.enumStart ∧ (s.add f n).host = s.host ∧
    (s.add f n).cans = s.cans ∧ (s.add f n).streams = s.streams ∧ (s.add f n).ports = s.ports ∧
    (s.add f n).sents = s.sents ∧ (s.add f n).dma = s.dma ∧ (s.add f n).dmaTrigs = s.dmaTrigs ∧
    (s.add f n).ahead = s.ahead ∧ (s.add f n).strand = s.strand ∧ (s.add f n).supply = s.supply ∧
    (s.add f n).saf = s.saf ∧ (s.add f n).pending = s.pending ∧ (∀ i j, (s.add f n).hasTile i j = s.hasTile i j) ∧
    (∀ i, (s.add f n).sh i = s.sh i) ∧ (∀ i, (s.add f n).bk i = s.bk i) ∧ (∀ i, (s.add f n).wp i = s.wp i) ∧
    (∀ i, (s.add f n).wf i = s.wf i) ∧ (∀ i, (s.add f n).po i = s.po i) ∧ (∀ i, (s.add f n).wm i = s.wm i) ∧
    (∀ i, (s.add f n).sq i = s.sq i) ∧ (∀ i, (s.add f n).bst i = s.bst i) ∧ (∀ i, (s.add f n).ch i = s.ch i) ∧
    (∀ i, (s.add f n).can i = s.can i) ∧ (∀ i, (s.add f n).str i = s.str i) ∧ (∀ i, (s.add f n).cmb i = s.cmb i) ∧
    (∀ i, (s.add f n).port i = s.port i) ∧ (∀ i, (s.add f n).line i = s.line i) := by
  refine ⟨?_, ?_, ?_, ?_, ?_, ?_, ?_, ?_, ?_, ?_, ?_, ?_, ?_, ?_, ?_, ?_, ?_, ?_, ?_, ?_, ?_, ?_, ?_, ?_, ?_, ?_, ?_, ?_, ?_, ?_, ?_, ?_, ?_, ?_, ?_, ?_, ?_, ?_, ?_, ?_, ?_, ?_, ?_, ?_, ?_, ?_, ?_, ?_, ?_, ?_, ?_, ?_, ?_, ?_, ?_, ?_, ?_, ?_, ?_, ?_, ?_, ?_, ?_, ?_, ?_, ?_, ?_, ?_, ?_, ?_, ?_, ?_, ?_, ?_, ?_, ?_, ?_, ?_⟩ <;> first | rfl | exact fun _ => rfl | exact fun _ _ => rfl

@[simp] theorem State.inc_rest (f : Fld) :
    (s.inc f).now = s.now ∧ (s.inc f).fresh = s.fresh ∧ (s.inc f).power = s.power ∧ (s.inc f).straps = s.straps ∧
    (s.inc f).trace = s.trace ∧ (s.inc f).work = s.work ∧ (s.inc f).recMem = s.recMem ∧ (s.inc f).ply0 = s.ply0 ∧
    (s.inc f).ply1 = s.ply1 ∧ (s.inc f).ply2 = s.ply2 ∧ (s.inc f).flash = s.flash ∧ (s.inc f).reports = s.reports ∧
    (s.inc f).mergeOpen = s.mergeOpen ∧ (s.inc f).fifo = s.fifo ∧ (s.inc f).causes = s.causes ∧
    (s.inc f).crossings = s.crossings ∧ (s.inc f).gov = s.gov ∧ (s.inc f).weave = s.weave ∧
    (s.inc f).primary = s.primary ∧ (s.inc f).warps = s.warps ∧ (s.inc f).wefts = s.wefts ∧ (s.inc f).learn = s.learn ∧
    (s.inc f).shTok = s.shTok ∧ (s.inc f).bkTok = s.bkTok ∧ (s.inc f).pair = s.pair ∧ (s.inc f).recJobs = s.recJobs ∧
    (s.inc f).acc = s.acc ∧ (s.inc f).shuttles = s.shuttles ∧ (s.inc f).seqTok = s.seqTok ∧
    (s.inc f).pulseOuts = s.pulseOuts ∧ (s.inc f).banks = s.banks ∧ (s.inc f).cmps = s.cmps ∧
    (s.inc f).boosts = s.boosts ∧ (s.inc f).closures = s.closures ∧ (s.inc f).seqs = s.seqs ∧
    (s.inc f).slices = s.slices ∧ (s.inc f).rot = s.rot ∧ (s.inc f).inCal = s.inCal ∧ (s.inc f).wmons = s.wmons ∧
    (s.inc f).ptimers = s.ptimers ∧ (s.inc f).monTest = s.monTest ∧ (s.inc f).cmbSig = s.cmbSig ∧
    (s.inc f).pins = s.pins ∧ (s.inc f).combust = s.combust ∧ (s.inc f).trimDue = s.trimDue ∧ (s.inc f).maps = s.maps ∧
    (s.inc f).svc = s.svc ∧ (s.inc f).rail = s.rail ∧ (s.inc f).ovs = s.ovs ∧ (s.inc f).selv = s.selv ∧
    (s.inc f).enumStart = s.enumStart ∧ (s.inc f).host = s.host ∧ (s.inc f).cans = s.cans ∧
    (s.inc f).streams = s.streams ∧ (s.inc f).ports = s.ports ∧ (s.inc f).sents = s.sents ∧ (s.inc f).dma = s.dma ∧
    (s.inc f).dmaTrigs = s.dmaTrigs ∧ (s.inc f).ahead = s.ahead ∧ (s.inc f).strand = s.strand ∧
    (s.inc f).supply = s.supply ∧ (s.inc f).saf = s.saf ∧ (s.inc f).pending = s.pending ∧
    (∀ i j, (s.inc f).hasTile i j = s.hasTile i j) ∧ (∀ i, (s.inc f).sh i = s.sh i) ∧ (∀ i, (s.inc f).bk i = s.bk i) ∧
    (∀ i, (s.inc f).wp i = s.wp i) ∧ (∀ i, (s.inc f).wf i = s.wf i) ∧ (∀ i, (s.inc f).po i = s.po i) ∧
    (∀ i, (s.inc f).wm i = s.wm i) ∧ (∀ i, (s.inc f).sq i = s.sq i) ∧ (∀ i, (s.inc f).bst i = s.bst i) ∧
    (∀ i, (s.inc f).ch i = s.ch i) ∧ (∀ i, (s.inc f).can i = s.can i) ∧ (∀ i, (s.inc f).str i = s.str i) ∧
    (∀ i, (s.inc f).cmb i = s.cmb i) ∧ (∀ i, (s.inc f).port i = s.port i) ∧ (∀ i, (s.inc f).line i = s.line i) := by
  refine ⟨?_, ?_, ?_, ?_, ?_, ?_, ?_, ?_, ?_, ?_, ?_, ?_, ?_, ?_, ?_, ?_, ?_, ?_, ?_, ?_, ?_, ?_, ?_, ?_, ?_, ?_, ?_, ?_, ?_, ?_, ?_, ?_, ?_, ?_, ?_, ?_, ?_, ?_, ?_, ?_, ?_, ?_, ?_, ?_, ?_, ?_, ?_, ?_, ?_, ?_, ?_, ?_, ?_, ?_, ?_, ?_, ?_, ?_, ?_, ?_, ?_, ?_, ?_, ?_, ?_, ?_, ?_, ?_, ?_, ?_, ?_, ?_, ?_, ?_, ?_, ?_, ?_, ?_⟩ <;> first | rfl | exact fun _ => rfl | exact fun _ _ => rfl

@[simp] theorem State.incMod_rest (f : Fld) :
    (s.incMod f).now = s.now ∧ (s.incMod f).fresh = s.fresh ∧ (s.incMod f).power = s.power ∧
    (s.incMod f).straps = s.straps ∧ (s.incMod f).trace = s.trace ∧ (s.incMod f).work = s.work ∧
    (s.incMod f).recMem = s.recMem ∧ (s.incMod f).ply0 = s.ply0 ∧ (s.incMod f).ply1 = s.ply1 ∧
    (s.incMod f).ply2 = s.ply2 ∧ (s.incMod f).flash = s.flash ∧ (s.incMod f).ticks = s.ticks ∧
    (s.incMod f).reports = s.reports ∧ (s.incMod f).mergeOpen = s.mergeOpen ∧ (s.incMod f).fifo = s.fifo ∧
    (s.incMod f).causes = s.causes ∧ (s.incMod f).crossings = s.crossings ∧ (s.incMod f).gov = s.gov ∧
    (s.incMod f).weave = s.weave ∧ (s.incMod f).primary = s.primary ∧ (s.incMod f).warps = s.warps ∧
    (s.incMod f).wefts = s.wefts ∧ (s.incMod f).learn = s.learn ∧ (s.incMod f).shTok = s.shTok ∧
    (s.incMod f).bkTok = s.bkTok ∧ (s.incMod f).pair = s.pair ∧ (s.incMod f).recJobs = s.recJobs ∧
    (s.incMod f).acc = s.acc ∧ (s.incMod f).shuttles = s.shuttles ∧ (s.incMod f).seqTok = s.seqTok ∧
    (s.incMod f).pulseOuts = s.pulseOuts ∧ (s.incMod f).banks = s.banks ∧ (s.incMod f).cmps = s.cmps ∧
    (s.incMod f).boosts = s.boosts ∧ (s.incMod f).closures = s.closures ∧ (s.incMod f).seqs = s.seqs ∧
    (s.incMod f).slices = s.slices ∧ (s.incMod f).rot = s.rot ∧ (s.incMod f).inCal = s.inCal ∧
    (s.incMod f).wmons = s.wmons ∧ (s.incMod f).ptimers = s.ptimers ∧ (s.incMod f).monTest = s.monTest ∧
    (s.incMod f).cmbSig = s.cmbSig ∧ (s.incMod f).pins = s.pins ∧ (s.incMod f).combust = s.combust ∧
    (s.incMod f).trimDue = s.trimDue ∧ (s.incMod f).maps = s.maps ∧ (s.incMod f).svc = s.svc ∧
    (s.incMod f).rail = s.rail ∧ (s.incMod f).ovs = s.ovs ∧ (s.incMod f).selv = s.selv ∧
    (s.incMod f).enumStart = s.enumStart ∧ (s.incMod f).host = s.host ∧ (s.incMod f).cans = s.cans ∧
    (s.incMod f).streams = s.streams ∧ (s.incMod f).ports = s.ports ∧ (s.incMod f).sents = s.sents ∧
    (s.incMod f).dma = s.dma ∧ (s.incMod f).dmaTrigs = s.dmaTrigs ∧ (s.incMod f).ahead = s.ahead ∧
    (s.incMod f).strand = s.strand ∧ (s.incMod f).supply = s.supply ∧ (s.incMod f).saf = s.saf ∧
    (s.incMod f).pending = s.pending ∧ (∀ i j, (s.incMod f).hasTile i j = s.hasTile i j) ∧
    (∀ i, (s.incMod f).sh i = s.sh i) ∧ (∀ i, (s.incMod f).bk i = s.bk i) ∧ (∀ i, (s.incMod f).wp i = s.wp i) ∧
    (∀ i, (s.incMod f).wf i = s.wf i) ∧ (∀ i, (s.incMod f).po i = s.po i) ∧ (∀ i, (s.incMod f).wm i = s.wm i) ∧
    (∀ i, (s.incMod f).sq i = s.sq i) ∧ (∀ i, (s.incMod f).bst i = s.bst i) ∧ (∀ i, (s.incMod f).ch i = s.ch i) ∧
    (∀ i, (s.incMod f).can i = s.can i) ∧ (∀ i, (s.incMod f).str i = s.str i) ∧ (∀ i, (s.incMod f).cmb i = s.cmb i) ∧
    (∀ i, (s.incMod f).port i = s.port i) ∧ (∀ i, (s.incMod f).line i = s.line i) := by
  refine ⟨?_, ?_, ?_, ?_, ?_, ?_, ?_, ?_, ?_, ?_, ?_, ?_, ?_, ?_, ?_, ?_, ?_, ?_, ?_, ?_, ?_, ?_, ?_, ?_, ?_, ?_, ?_, ?_, ?_, ?_, ?_, ?_, ?_, ?_, ?_, ?_, ?_, ?_, ?_, ?_, ?_, ?_, ?_, ?_, ?_, ?_, ?_, ?_, ?_, ?_, ?_, ?_, ?_, ?_, ?_, ?_, ?_, ?_, ?_, ?_, ?_, ?_, ?_, ?_, ?_, ?_, ?_, ?_, ?_, ?_, ?_, ?_, ?_, ?_, ?_, ?_, ?_, ?_, ?_⟩ <;> first | rfl | exact fun _ => rfl | exact fun _ _ => rfl

@[simp] theorem State.wrej_rest  :
    (s.wrej).now = s.now ∧ (s.wrej).fresh = s.fresh ∧ (s.wrej).power = s.power ∧ (s.wrej).straps = s.straps ∧
    (s.wrej).trace = s.trace ∧ (s.wrej).work = s.work ∧ (s.wrej).recMem = s.recMem ∧ (s.wrej).ply0 = s.ply0 ∧
    (s.wrej).ply1 = s.ply1 ∧ (s.wrej).ply2 = s.ply2 ∧ (s.wrej).flash = s.flash ∧ (s.wrej).reports = s.reports ∧
    (s.wrej).mergeOpen = s.mergeOpen ∧ (s.wrej).fifo = s.fifo ∧ (s.wrej).causes = s.causes ∧
    (s.wrej).crossings = s.crossings ∧ (s.wrej).gov = s.gov ∧ (s.wrej).weave = s.weave ∧ (s.wrej).primary = s.primary ∧
    (s.wrej).warps = s.warps ∧ (s.wrej).wefts = s.wefts ∧ (s.wrej).learn = s.learn ∧ (s.wrej).shTok = s.shTok ∧
    (s.wrej).bkTok = s.bkTok ∧ (s.wrej).pair = s.pair ∧ (s.wrej).recJobs = s.recJobs ∧ (s.wrej).acc = s.acc ∧
    (s.wrej).shuttles = s.shuttles ∧ (s.wrej).seqTok = s.seqTok ∧ (s.wrej).pulseOuts = s.pulseOuts ∧
    (s.wrej).banks = s.banks ∧ (s.wrej).cmps = s.cmps ∧ (s.wrej).boosts = s.boosts ∧ (s.wrej).closures = s.closures ∧
    (s.wrej).seqs = s.seqs ∧ (s.wrej).slices = s.slices ∧ (s.wrej).rot = s.rot ∧ (s.wrej).inCal = s.inCal ∧
    (s.wrej).wmons = s.wmons ∧ (s.wrej).ptimers = s.ptimers ∧ (s.wrej).monTest = s.monTest ∧ (s.wrej).cmbSig = s.cmbSig ∧
    (s.wrej).pins = s.pins ∧ (s.wrej).combust = s.combust ∧ (s.wrej).trimDue = s.trimDue ∧ (s.wrej).maps = s.maps ∧
    (s.wrej).svc = s.svc ∧ (s.wrej).rail = s.rail ∧ (s.wrej).ovs = s.ovs ∧ (s.wrej).selv = s.selv ∧
    (s.wrej).enumStart = s.enumStart ∧ (s.wrej).host = s.host ∧ (s.wrej).cans = s.cans ∧ (s.wrej).streams = s.streams ∧
    (s.wrej).ports = s.ports ∧ (s.wrej).sents = s.sents ∧ (s.wrej).dma = s.dma ∧ (s.wrej).dmaTrigs = s.dmaTrigs ∧
    (s.wrej).ahead = s.ahead ∧ (s.wrej).strand = s.strand ∧ (s.wrej).supply = s.supply ∧ (s.wrej).saf = s.saf ∧
    (s.wrej).pending = s.pending ∧ (∀ i j, (s.wrej).hasTile i j = s.hasTile i j) ∧ (∀ i, (s.wrej).sh i = s.sh i) ∧
    (∀ i, (s.wrej).bk i = s.bk i) ∧ (∀ i, (s.wrej).wp i = s.wp i) ∧ (∀ i, (s.wrej).wf i = s.wf i) ∧
    (∀ i, (s.wrej).po i = s.po i) ∧ (∀ i, (s.wrej).wm i = s.wm i) ∧ (∀ i, (s.wrej).sq i = s.sq i) ∧
    (∀ i, (s.wrej).bst i = s.bst i) ∧ (∀ i, (s.wrej).ch i = s.ch i) ∧ (∀ i, (s.wrej).can i = s.can i) ∧
    (∀ i, (s.wrej).str i = s.str i) ∧ (∀ i, (s.wrej).cmb i = s.cmb i) ∧ (∀ i, (s.wrej).port i = s.port i) ∧
    (∀ i, (s.wrej).line i = s.line i) := by
  refine ⟨?_, ?_, ?_, ?_, ?_, ?_, ?_, ?_, ?_, ?_, ?_, ?_, ?_, ?_, ?_, ?_, ?_, ?_, ?_, ?_, ?_, ?_, ?_, ?_, ?_, ?_, ?_, ?_, ?_, ?_, ?_, ?_, ?_, ?_, ?_, ?_, ?_, ?_, ?_, ?_, ?_, ?_, ?_, ?_, ?_, ?_, ?_, ?_, ?_, ?_, ?_, ?_, ?_, ?_, ?_, ?_, ?_, ?_, ?_, ?_, ?_, ?_, ?_, ?_, ?_, ?_, ?_, ?_, ?_, ?_, ?_, ?_, ?_, ?_, ?_, ?_, ?_, ?_⟩ <;> first | rfl | exact fun _ => rfl | exact fun _ _ => rfl

@[simp] theorem State.note_rest (f : Fld) (n : Nat) :
    (s.note f n).now = s.now ∧ (s.note f n).fresh = s.fresh ∧ (s.note f n).power = s.power ∧
    (s.note f n).straps = s.straps ∧ (s.note f n).regs = s.regs ∧ (s.note f n).trace = s.trace ∧
    (s.note f n).work = s.work ∧ (s.note f n).recMem = s.recMem ∧ (s.note f n).ply0 = s.ply0 ∧
    (s.note f n).ply1 = s.ply1 ∧ (s.note f n).ply2 = s.ply2 ∧ (s.note f n).flash = s.flash ∧
    (s.note f n).reports = s.reports ∧ (s.note f n).mergeOpen = s.mergeOpen ∧ (s.note f n).fifo = s.fifo ∧
    (s.note f n).causes = s.causes ∧ (s.note f n).crossings = s.crossings ∧ (s.note f n).gov = s.gov ∧
    (s.note f n).weave = s.weave ∧ (s.note f n).primary = s.primary ∧ (s.note f n).warps = s.warps ∧
    (s.note f n).wefts = s.wefts ∧ (s.note f n).learn = s.learn ∧ (s.note f n).shTok = s.shTok ∧
    (s.note f n).bkTok = s.bkTok ∧ (s.note f n).pair = s.pair ∧ (s.note f n).recJobs = s.recJobs ∧
    (s.note f n).acc = s.acc ∧ (s.note f n).shuttles = s.shuttles ∧ (s.note f n).seqTok = s.seqTok ∧
    (s.note f n).pulseOuts = s.pulseOuts ∧ (s.note f n).banks = s.banks ∧ (s.note f n).cmps = s.cmps ∧
    (s.note f n).boosts = s.boosts ∧ (s.note f n).closures = s.closures ∧ (s.note f n).seqs = s.seqs ∧
    (s.note f n).slices = s.slices ∧ (s.note f n).rot = s.rot ∧ (s.note f n).inCal = s.inCal ∧
    (s.note f n).wmons = s.wmons ∧ (s.note f n).ptimers = s.ptimers ∧ (s.note f n).monTest = s.monTest ∧
    (s.note f n).cmbSig = s.cmbSig ∧ (s.note f n).pins = s.pins ∧ (s.note f n).combust = s.combust ∧
    (s.note f n).trimDue = s.trimDue ∧ (s.note f n).maps = s.maps ∧ (s.note f n).svc = s.svc ∧
    (s.note f n).rail = s.rail ∧ (s.note f n).ovs = s.ovs ∧ (s.note f n).selv = s.selv ∧
    (s.note f n).enumStart = s.enumStart ∧ (s.note f n).host = s.host ∧ (s.note f n).cans = s.cans ∧
    (s.note f n).streams = s.streams ∧ (s.note f n).ports = s.ports ∧ (s.note f n).sents = s.sents ∧
    (s.note f n).dma = s.dma ∧ (s.note f n).dmaTrigs = s.dmaTrigs ∧ (s.note f n).ahead = s.ahead ∧
    (s.note f n).strand = s.strand ∧ (s.note f n).supply = s.supply ∧ (s.note f n).saf = s.saf ∧
    (s.note f n).pending = s.pending ∧ (∀ a, (s.note f n).reg a = s.reg a) ∧ (∀ f, (s.note f n).get f = s.get f) ∧
    (∀ f, (s.note f n).is f = s.is f) ∧ (∀ f, (s.note f n).getI f = s.getI f) ∧
    (∀ i j, (s.note f n).hasTile i j = s.hasTile i j) ∧ (∀ i, (s.note f n).sh i = s.sh i) ∧
    (∀ i, (s.note f n).bk i = s.bk i) ∧ (∀ i, (s.note f n).wp i = s.wp i) ∧ (∀ i, (s.note f n).wf i = s.wf i) ∧
    (∀ i, (s.note f n).po i = s.po i) ∧ (∀ i, (s.note f n).wm i = s.wm i) ∧ (∀ i, (s.note f n).sq i = s.sq i) ∧
    (∀ i, (s.note f n).bst i = s.bst i) ∧ (∀ i, (s.note f n).ch i = s.ch i) ∧ (∀ i, (s.note f n).can i = s.can i) ∧
    (∀ i, (s.note f n).str i = s.str i) ∧ (∀ i, (s.note f n).cmb i = s.cmb i) ∧ (∀ i, (s.note f n).port i = s.port i) ∧
    (∀ i, (s.note f n).line i = s.line i) := by
  refine ⟨?_, ?_, ?_, ?_, ?_, ?_, ?_, ?_, ?_, ?_, ?_, ?_, ?_, ?_, ?_, ?_, ?_, ?_, ?_, ?_, ?_, ?_, ?_, ?_, ?_, ?_, ?_, ?_, ?_, ?_, ?_, ?_, ?_, ?_, ?_, ?_, ?_, ?_, ?_, ?_, ?_, ?_, ?_, ?_, ?_, ?_, ?_, ?_, ?_, ?_, ?_, ?_, ?_, ?_, ?_, ?_, ?_, ?_, ?_, ?_, ?_, ?_, ?_, ?_, ?_, ?_, ?_, ?_, ?_, ?_, ?_, ?_, ?_, ?_, ?_, ?_, ?_, ?_, ?_, ?_, ?_, ?_, ?_⟩ <;> first | rfl | exact fun _ => rfl | exact fun _ _ => rfl

@[simp] theorem State.stick_rest (f : Fld) (bits : Nat) :
    (s.stick f bits).now = s.now ∧ (s.stick f bits).fresh = s.fresh ∧ (s.stick f bits).power = s.power ∧
    (s.stick f bits).straps = s.straps ∧ (s.stick f bits).trace = s.trace ∧ (s.stick f bits).work = s.work ∧
    (s.stick f bits).recMem = s.recMem ∧ (s.stick f bits).ply0 = s.ply0 ∧ (s.stick f bits).ply1 = s.ply1 ∧
    (s.stick f bits).ply2 = s.ply2 ∧ (s.stick f bits).flash = s.flash ∧ (s.stick f bits).reports = s.reports ∧
    (s.stick f bits).mergeOpen = s.mergeOpen ∧ (s.stick f bits).fifo = s.fifo ∧ (s.stick f bits).causes = s.causes ∧
    (s.stick f bits).crossings = s.crossings ∧ (s.stick f bits).gov = s.gov ∧ (s.stick f bits).weave = s.weave ∧
    (s.stick f bits).primary = s.primary ∧ (s.stick f bits).warps = s.warps ∧ (s.stick f bits).wefts = s.wefts ∧
    (s.stick f bits).learn = s.learn ∧ (s.stick f bits).shTok = s.shTok ∧ (s.stick f bits).bkTok = s.bkTok ∧
    (s.stick f bits).pair = s.pair ∧ (s.stick f bits).recJobs = s.recJobs ∧ (s.stick f bits).acc = s.acc ∧
    (s.stick f bits).shuttles = s.shuttles ∧ (s.stick f bits).seqTok = s.seqTok ∧
    (s.stick f bits).pulseOuts = s.pulseOuts ∧ (s.stick f bits).banks = s.banks ∧ (s.stick f bits).cmps = s.cmps ∧
    (s.stick f bits).boosts = s.boosts ∧ (s.stick f bits).closures = s.closures ∧ (s.stick f bits).seqs = s.seqs ∧
    (s.stick f bits).slices = s.slices ∧ (s.stick f bits).rot = s.rot ∧ (s.stick f bits).inCal = s.inCal ∧
    (s.stick f bits).wmons = s.wmons ∧ (s.stick f bits).ptimers = s.ptimers ∧ (s.stick f bits).monTest = s.monTest ∧
    (s.stick f bits).cmbSig = s.cmbSig ∧ (s.stick f bits).pins = s.pins ∧ (s.stick f bits).combust = s.combust ∧
    (s.stick f bits).trimDue = s.trimDue ∧ (s.stick f bits).maps = s.maps ∧ (s.stick f bits).svc = s.svc ∧
    (s.stick f bits).rail = s.rail ∧ (s.stick f bits).ovs = s.ovs ∧ (s.stick f bits).selv = s.selv ∧
    (s.stick f bits).enumStart = s.enumStart ∧ (s.stick f bits).host = s.host ∧ (s.stick f bits).cans = s.cans ∧
    (s.stick f bits).streams = s.streams ∧ (s.stick f bits).ports = s.ports ∧ (s.stick f bits).sents = s.sents ∧
    (s.stick f bits).dma = s.dma ∧ (s.stick f bits).dmaTrigs = s.dmaTrigs ∧ (s.stick f bits).ahead = s.ahead ∧
    (s.stick f bits).strand = s.strand ∧ (s.stick f bits).supply = s.supply ∧ (s.stick f bits).saf = s.saf ∧
    (s.stick f bits).pending = s.pending ∧ (∀ i j, (s.stick f bits).hasTile i j = s.hasTile i j) ∧
    (∀ i, (s.stick f bits).sh i = s.sh i) ∧ (∀ i, (s.stick f bits).bk i = s.bk i) ∧
    (∀ i, (s.stick f bits).wp i = s.wp i) ∧ (∀ i, (s.stick f bits).wf i = s.wf i) ∧
    (∀ i, (s.stick f bits).po i = s.po i) ∧ (∀ i, (s.stick f bits).wm i = s.wm i) ∧
    (∀ i, (s.stick f bits).sq i = s.sq i) ∧ (∀ i, (s.stick f bits).bst i = s.bst i) ∧
    (∀ i, (s.stick f bits).ch i = s.ch i) ∧ (∀ i, (s.stick f bits).can i = s.can i) ∧
    (∀ i, (s.stick f bits).str i = s.str i) ∧ (∀ i, (s.stick f bits).cmb i = s.cmb i) ∧
    (∀ i, (s.stick f bits).port i = s.port i) ∧ (∀ i, (s.stick f bits).line i = s.line i) := by
  refine ⟨?_, ?_, ?_, ?_, ?_, ?_, ?_, ?_, ?_, ?_, ?_, ?_, ?_, ?_, ?_, ?_, ?_, ?_, ?_, ?_, ?_, ?_, ?_, ?_, ?_, ?_, ?_, ?_, ?_, ?_, ?_, ?_, ?_, ?_, ?_, ?_, ?_, ?_, ?_, ?_, ?_, ?_, ?_, ?_, ?_, ?_, ?_, ?_, ?_, ?_, ?_, ?_, ?_, ?_, ?_, ?_, ?_, ?_, ?_, ?_, ?_, ?_, ?_, ?_, ?_, ?_, ?_, ?_, ?_, ?_, ?_, ?_, ?_, ?_, ?_, ?_, ?_, ?_⟩ <;> first | rfl | exact fun _ => rfl | exact fun _ _ => rfl

@[simp] theorem State.at_rest (t : Word) :
    (s.at t).fresh = s.fresh ∧ (s.at t).power = s.power ∧ (s.at t).straps = s.straps ∧ (s.at t).regs = s.regs ∧
    (s.at t).trace = s.trace ∧ (s.at t).work = s.work ∧ (s.at t).recMem = s.recMem ∧ (s.at t).ply0 = s.ply0 ∧
    (s.at t).ply1 = s.ply1 ∧ (s.at t).ply2 = s.ply2 ∧ (s.at t).flash = s.flash ∧ (s.at t).ticks = s.ticks ∧
    (s.at t).reports = s.reports ∧ (s.at t).mergeOpen = s.mergeOpen ∧ (s.at t).fifo = s.fifo ∧
    (s.at t).causes = s.causes ∧ (s.at t).crossings = s.crossings ∧ (s.at t).gov = s.gov ∧ (s.at t).weave = s.weave ∧
    (s.at t).primary = s.primary ∧ (s.at t).warps = s.warps ∧ (s.at t).wefts = s.wefts ∧ (s.at t).learn = s.learn ∧
    (s.at t).shTok = s.shTok ∧ (s.at t).bkTok = s.bkTok ∧ (s.at t).pair = s.pair ∧ (s.at t).recJobs = s.recJobs ∧
    (s.at t).acc = s.acc ∧ (s.at t).shuttles = s.shuttles ∧ (s.at t).seqTok = s.seqTok ∧
    (s.at t).pulseOuts = s.pulseOuts ∧ (s.at t).banks = s.banks ∧ (s.at t).cmps = s.cmps ∧ (s.at t).boosts = s.boosts ∧
    (s.at t).closures = s.closures ∧ (s.at t).seqs = s.seqs ∧ (s.at t).slices = s.slices ∧ (s.at t).rot = s.rot ∧
    (s.at t).inCal = s.inCal ∧ (s.at t).wmons = s.wmons ∧ (s.at t).ptimers = s.ptimers ∧ (s.at t).monTest = s.monTest ∧
    (s.at t).cmbSig = s.cmbSig ∧ (s.at t).pins = s.pins ∧ (s.at t).combust = s.combust ∧ (s.at t).trimDue = s.trimDue ∧
    (s.at t).maps = s.maps ∧ (s.at t).svc = s.svc ∧ (s.at t).rail = s.rail ∧ (s.at t).ovs = s.ovs ∧
    (s.at t).selv = s.selv ∧ (s.at t).enumStart = s.enumStart ∧ (s.at t).host = s.host ∧ (s.at t).cans = s.cans ∧
    (s.at t).streams = s.streams ∧ (s.at t).ports = s.ports ∧ (s.at t).sents = s.sents ∧ (s.at t).dma = s.dma ∧
    (s.at t).dmaTrigs = s.dmaTrigs ∧ (s.at t).ahead = s.ahead ∧ (s.at t).strand = s.strand ∧ (s.at t).supply = s.supply ∧
    (s.at t).saf = s.saf ∧ (s.at t).pending = s.pending ∧ (∀ a, (s.at t).reg a = s.reg a) ∧
    (∀ f, (s.at t).get f = s.get f) ∧ (∀ f, (s.at t).is f = s.is f) ∧ (∀ f, (s.at t).getI f = s.getI f) ∧
    (∀ i j, (s.at t).hasTile i j = s.hasTile i j) ∧ (∀ i, (s.at t).sh i = s.sh i) ∧ (∀ i, (s.at t).bk i = s.bk i) ∧
    (∀ i, (s.at t).wp i = s.wp i) ∧ (∀ i, (s.at t).wf i = s.wf i) ∧ (∀ i, (s.at t).po i = s.po i) ∧
    (∀ i, (s.at t).wm i = s.wm i) ∧ (∀ i, (s.at t).sq i = s.sq i) ∧ (∀ i, (s.at t).bst i = s.bst i) ∧
    (∀ i, (s.at t).ch i = s.ch i) ∧ (∀ i, (s.at t).can i = s.can i) ∧ (∀ i, (s.at t).str i = s.str i) ∧
    (∀ i, (s.at t).cmb i = s.cmb i) ∧ (∀ i, (s.at t).port i = s.port i) ∧ (∀ i, (s.at t).line i = s.line i) := by
  refine ⟨?_, ?_, ?_, ?_, ?_, ?_, ?_, ?_, ?_, ?_, ?_, ?_, ?_, ?_, ?_, ?_, ?_, ?_, ?_, ?_, ?_, ?_, ?_, ?_, ?_, ?_, ?_, ?_, ?_, ?_, ?_, ?_, ?_, ?_, ?_, ?_, ?_, ?_, ?_, ?_, ?_, ?_, ?_, ?_, ?_, ?_, ?_, ?_, ?_, ?_, ?_, ?_, ?_, ?_, ?_, ?_, ?_, ?_, ?_, ?_, ?_, ?_, ?_, ?_, ?_, ?_, ?_, ?_, ?_, ?_, ?_, ?_, ?_, ?_, ?_, ?_, ?_, ?_, ?_, ?_, ?_, ?_, ?_⟩ <;> first | rfl | exact fun _ => rfl | exact fun _ _ => rfl

@[simp] theorem State.workSet_rest (a : Nat) (w : Word) :
    (s.workSet a w).now = s.now ∧ (s.workSet a w).fresh = s.fresh ∧ (s.workSet a w).power = s.power ∧
    (s.workSet a w).straps = s.straps ∧ (s.workSet a w).regs = s.regs ∧ (s.workSet a w).trace = s.trace ∧
    (s.workSet a w).recMem = s.recMem ∧ (s.workSet a w).ply0 = s.ply0 ∧ (s.workSet a w).ply1 = s.ply1 ∧
    (s.workSet a w).ply2 = s.ply2 ∧ (s.workSet a w).flash = s.flash ∧ (s.workSet a w).ticks = s.ticks ∧
    (s.workSet a w).reports = s.reports ∧ (s.workSet a w).mergeOpen = s.mergeOpen ∧ (s.workSet a w).fifo = s.fifo ∧
    (s.workSet a w).causes = s.causes ∧ (s.workSet a w).crossings = s.crossings ∧ (s.workSet a w).gov = s.gov ∧
    (s.workSet a w).weave = s.weave ∧ (s.workSet a w).primary = s.primary ∧ (s.workSet a w).warps = s.warps ∧
    (s.workSet a w).wefts = s.wefts ∧ (s.workSet a w).learn = s.learn ∧ (s.workSet a w).shTok = s.shTok ∧
    (s.workSet a w).bkTok = s.bkTok ∧ (s.workSet a w).pair = s.pair ∧ (s.workSet a w).recJobs = s.recJobs ∧
    (s.workSet a w).acc = s.acc ∧ (s.workSet a w).shuttles = s.shuttles ∧ (s.workSet a w).seqTok = s.seqTok ∧
    (s.workSet a w).pulseOuts = s.pulseOuts ∧ (s.workSet a w).banks = s.banks ∧ (s.workSet a w).cmps = s.cmps ∧
    (s.workSet a w).boosts = s.boosts ∧ (s.workSet a w).closures = s.closures ∧ (s.workSet a w).seqs = s.seqs ∧
    (s.workSet a w).slices = s.slices ∧ (s.workSet a w).rot = s.rot ∧ (s.workSet a w).inCal = s.inCal ∧
    (s.workSet a w).wmons = s.wmons ∧ (s.workSet a w).ptimers = s.ptimers ∧ (s.workSet a w).monTest = s.monTest ∧
    (s.workSet a w).cmbSig = s.cmbSig ∧ (s.workSet a w).pins = s.pins ∧ (s.workSet a w).combust = s.combust ∧
    (s.workSet a w).trimDue = s.trimDue ∧ (s.workSet a w).maps = s.maps ∧ (s.workSet a w).svc = s.svc ∧
    (s.workSet a w).rail = s.rail ∧ (s.workSet a w).ovs = s.ovs ∧ (s.workSet a w).selv = s.selv ∧
    (s.workSet a w).enumStart = s.enumStart ∧ (s.workSet a w).host = s.host ∧ (s.workSet a w).cans = s.cans ∧
    (s.workSet a w).streams = s.streams ∧ (s.workSet a w).ports = s.ports ∧ (s.workSet a w).sents = s.sents ∧
    (s.workSet a w).dma = s.dma ∧ (s.workSet a w).dmaTrigs = s.dmaTrigs ∧ (s.workSet a w).ahead = s.ahead ∧
    (s.workSet a w).strand = s.strand ∧ (s.workSet a w).supply = s.supply ∧ (s.workSet a w).saf = s.saf ∧
    (s.workSet a w).pending = s.pending ∧ (∀ a, (s.workSet a w).reg a = s.reg a) ∧
    (∀ f, (s.workSet a w).get f = s.get f) ∧ (∀ f, (s.workSet a w).is f = s.is f) ∧
    (∀ f, (s.workSet a w).getI f = s.getI f) ∧ (∀ i j, (s.workSet a w).hasTile i j = s.hasTile i j) ∧
    (∀ i, (s.workSet a w).sh i = s.sh i) ∧ (∀ i, (s.workSet a w).bk i = s.bk i) ∧ (∀ i, (s.workSet a w).wp i = s.wp i) ∧
    (∀ i, (s.workSet a w).wf i = s.wf i) ∧ (∀ i, (s.workSet a w).po i = s.po i) ∧ (∀ i, (s.workSet a w).wm i = s.wm i) ∧
    (∀ i, (s.workSet a w).sq i = s.sq i) ∧ (∀ i, (s.workSet a w).bst i = s.bst i) ∧
    (∀ i, (s.workSet a w).ch i = s.ch i) ∧ (∀ i, (s.workSet a w).can i = s.can i) ∧
    (∀ i, (s.workSet a w).str i = s.str i) ∧ (∀ i, (s.workSet a w).cmb i = s.cmb i) ∧
    (∀ i, (s.workSet a w).port i = s.port i) ∧ (∀ i, (s.workSet a w).line i = s.line i) := by
  refine ⟨?_, ?_, ?_, ?_, ?_, ?_, ?_, ?_, ?_, ?_, ?_, ?_, ?_, ?_, ?_, ?_, ?_, ?_, ?_, ?_, ?_, ?_, ?_, ?_, ?_, ?_, ?_, ?_, ?_, ?_, ?_, ?_, ?_, ?_, ?_, ?_, ?_, ?_, ?_, ?_, ?_, ?_, ?_, ?_, ?_, ?_, ?_, ?_, ?_, ?_, ?_, ?_, ?_, ?_, ?_, ?_, ?_, ?_, ?_, ?_, ?_, ?_, ?_, ?_, ?_, ?_, ?_, ?_, ?_, ?_, ?_, ?_, ?_, ?_, ?_, ?_, ?_, ?_, ?_, ?_, ?_, ?_, ?_⟩ <;> first | rfl | exact fun _ => rfl | exact fun _ _ => rfl

@[simp] theorem State.traceSet_rest (a : Nat) (w : Word) :
    (s.traceSet a w).now = s.now ∧ (s.traceSet a w).fresh = s.fresh ∧ (s.traceSet a w).power = s.power ∧
    (s.traceSet a w).straps = s.straps ∧ (s.traceSet a w).regs = s.regs ∧ (s.traceSet a w).work = s.work ∧
    (s.traceSet a w).recMem = s.recMem ∧ (s.traceSet a w).ply0 = s.ply0 ∧ (s.traceSet a w).ply1 = s.ply1 ∧
    (s.traceSet a w).ply2 = s.ply2 ∧ (s.traceSet a w).flash = s.flash ∧ (s.traceSet a w).ticks = s.ticks ∧
    (s.traceSet a w).reports = s.reports ∧ (s.traceSet a w).mergeOpen = s.mergeOpen ∧ (s.traceSet a w).fifo = s.fifo ∧
    (s.traceSet a w).causes = s.causes ∧ (s.traceSet a w).crossings = s.crossings ∧ (s.traceSet a w).gov = s.gov ∧
    (s.traceSet a w).weave = s.weave ∧ (s.traceSet a w).primary = s.primary ∧ (s.traceSet a w).warps = s.warps ∧
    (s.traceSet a w).wefts = s.wefts ∧ (s.traceSet a w).learn = s.learn ∧ (s.traceSet a w).shTok = s.shTok ∧
    (s.traceSet a w).bkTok = s.bkTok ∧ (s.traceSet a w).pair = s.pair ∧ (s.traceSet a w).recJobs = s.recJobs ∧
    (s.traceSet a w).acc = s.acc ∧ (s.traceSet a w).shuttles = s.shuttles ∧ (s.traceSet a w).seqTok = s.seqTok ∧
    (s.traceSet a w).pulseOuts = s.pulseOuts ∧ (s.traceSet a w).banks = s.banks ∧ (s.traceSet a w).cmps = s.cmps ∧
    (s.traceSet a w).boosts = s.boosts ∧ (s.traceSet a w).closures = s.closures ∧ (s.traceSet a w).seqs = s.seqs ∧
    (s.traceSet a w).slices = s.slices ∧ (s.traceSet a w).rot = s.rot ∧ (s.traceSet a w).inCal = s.inCal ∧
    (s.traceSet a w).wmons = s.wmons ∧ (s.traceSet a w).ptimers = s.ptimers ∧ (s.traceSet a w).monTest = s.monTest ∧
    (s.traceSet a w).cmbSig = s.cmbSig ∧ (s.traceSet a w).pins = s.pins ∧ (s.traceSet a w).combust = s.combust ∧
    (s.traceSet a w).trimDue = s.trimDue ∧ (s.traceSet a w).maps = s.maps ∧ (s.traceSet a w).svc = s.svc ∧
    (s.traceSet a w).rail = s.rail ∧ (s.traceSet a w).ovs = s.ovs ∧ (s.traceSet a w).selv = s.selv ∧
    (s.traceSet a w).enumStart = s.enumStart ∧ (s.traceSet a w).host = s.host ∧ (s.traceSet a w).cans = s.cans ∧
    (s.traceSet a w).streams = s.streams ∧ (s.traceSet a w).ports = s.ports ∧ (s.traceSet a w).sents = s.sents ∧
    (s.traceSet a w).dma = s.dma ∧ (s.traceSet a w).dmaTrigs = s.dmaTrigs ∧ (s.traceSet a w).ahead = s.ahead ∧
    (s.traceSet a w).strand = s.strand ∧ (s.traceSet a w).supply = s.supply ∧ (s.traceSet a w).saf = s.saf ∧
    (s.traceSet a w).pending = s.pending ∧ (∀ a, (s.traceSet a w).reg a = s.reg a) ∧
    (∀ f, (s.traceSet a w).get f = s.get f) ∧ (∀ f, (s.traceSet a w).is f = s.is f) ∧
    (∀ f, (s.traceSet a w).getI f = s.getI f) ∧ (∀ i j, (s.traceSet a w).hasTile i j = s.hasTile i j) ∧
    (∀ i, (s.traceSet a w).sh i = s.sh i) ∧ (∀ i, (s.traceSet a w).bk i = s.bk i) ∧
    (∀ i, (s.traceSet a w).wp i = s.wp i) ∧ (∀ i, (s.traceSet a w).wf i = s.wf i) ∧
    (∀ i, (s.traceSet a w).po i = s.po i) ∧ (∀ i, (s.traceSet a w).wm i = s.wm i) ∧
    (∀ i, (s.traceSet a w).sq i = s.sq i) ∧ (∀ i, (s.traceSet a w).bst i = s.bst i) ∧
    (∀ i, (s.traceSet a w).ch i = s.ch i) ∧ (∀ i, (s.traceSet a w).can i = s.can i) ∧
    (∀ i, (s.traceSet a w).str i = s.str i) ∧ (∀ i, (s.traceSet a w).cmb i = s.cmb i) ∧
    (∀ i, (s.traceSet a w).port i = s.port i) ∧ (∀ i, (s.traceSet a w).line i = s.line i) := by
  refine ⟨?_, ?_, ?_, ?_, ?_, ?_, ?_, ?_, ?_, ?_, ?_, ?_, ?_, ?_, ?_, ?_, ?_, ?_, ?_, ?_, ?_, ?_, ?_, ?_, ?_, ?_, ?_, ?_, ?_, ?_, ?_, ?_, ?_, ?_, ?_, ?_, ?_, ?_, ?_, ?_, ?_, ?_, ?_, ?_, ?_, ?_, ?_, ?_, ?_, ?_, ?_, ?_, ?_, ?_, ?_, ?_, ?_, ?_, ?_, ?_, ?_, ?_, ?_, ?_, ?_, ?_, ?_, ?_, ?_, ?_, ?_, ?_, ?_, ?_, ?_, ?_, ?_, ?_, ?_, ?_, ?_, ?_, ?_⟩ <;> first | rfl | exact fun _ => rfl | exact fun _ _ => rfl

@[simp] theorem State.recSet_rest (a : Nat) (w : Word) :
    (s.recSet a w).now = s.now ∧ (s.recSet a w).fresh = s.fresh ∧ (s.recSet a w).power = s.power ∧
    (s.recSet a w).straps = s.straps ∧ (s.recSet a w).regs = s.regs ∧ (s.recSet a w).trace = s.trace ∧
    (s.recSet a w).work = s.work ∧ (s.recSet a w).ply0 = s.ply0 ∧ (s.recSet a w).ply1 = s.ply1 ∧
    (s.recSet a w).ply2 = s.ply2 ∧ (s.recSet a w).flash = s.flash ∧ (s.recSet a w).ticks = s.ticks ∧
    (s.recSet a w).reports = s.reports ∧ (s.recSet a w).mergeOpen = s.mergeOpen ∧ (s.recSet a w).fifo = s.fifo ∧
    (s.recSet a w).causes = s.causes ∧ (s.recSet a w).crossings = s.crossings ∧ (s.recSet a w).gov = s.gov ∧
    (s.recSet a w).weave = s.weave ∧ (s.recSet a w).primary = s.primary ∧ (s.recSet a w).warps = s.warps ∧
    (s.recSet a w).wefts = s.wefts ∧ (s.recSet a w).learn = s.learn ∧ (s.recSet a w).shTok = s.shTok ∧
    (s.recSet a w).bkTok = s.bkTok ∧ (s.recSet a w).pair = s.pair ∧ (s.recSet a w).recJobs = s.recJobs ∧
    (s.recSet a w).acc = s.acc ∧ (s.recSet a w).shuttles = s.shuttles ∧ (s.recSet a w).seqTok = s.seqTok ∧
    (s.recSet a w).pulseOuts = s.pulseOuts ∧ (s.recSet a w).banks = s.banks ∧ (s.recSet a w).cmps = s.cmps ∧
    (s.recSet a w).boosts = s.boosts ∧ (s.recSet a w).closures = s.closures ∧ (s.recSet a w).seqs = s.seqs ∧
    (s.recSet a w).slices = s.slices ∧ (s.recSet a w).rot = s.rot ∧ (s.recSet a w).inCal = s.inCal ∧
    (s.recSet a w).wmons = s.wmons ∧ (s.recSet a w).ptimers = s.ptimers ∧ (s.recSet a w).monTest = s.monTest ∧
    (s.recSet a w).cmbSig = s.cmbSig ∧ (s.recSet a w).pins = s.pins ∧ (s.recSet a w).combust = s.combust ∧
    (s.recSet a w).trimDue = s.trimDue ∧ (s.recSet a w).maps = s.maps ∧ (s.recSet a w).svc = s.svc ∧
    (s.recSet a w).rail = s.rail ∧ (s.recSet a w).ovs = s.ovs ∧ (s.recSet a w).selv = s.selv ∧
    (s.recSet a w).enumStart = s.enumStart ∧ (s.recSet a w).host = s.host ∧ (s.recSet a w).cans = s.cans ∧
    (s.recSet a w).streams = s.streams ∧ (s.recSet a w).ports = s.ports ∧ (s.recSet a w).sents = s.sents ∧
    (s.recSet a w).dma = s.dma ∧ (s.recSet a w).dmaTrigs = s.dmaTrigs ∧ (s.recSet a w).ahead = s.ahead ∧
    (s.recSet a w).strand = s.strand ∧ (s.recSet a w).supply = s.supply ∧ (s.recSet a w).saf = s.saf ∧
    (s.recSet a w).pending = s.pending ∧ (∀ a, (s.recSet a w).reg a = s.reg a) ∧ (∀ f, (s.recSet a w).get f = s.get f) ∧
    (∀ f, (s.recSet a w).is f = s.is f) ∧ (∀ f, (s.recSet a w).getI f = s.getI f) ∧
    (∀ i j, (s.recSet a w).hasTile i j = s.hasTile i j) ∧ (∀ i, (s.recSet a w).sh i = s.sh i) ∧
    (∀ i, (s.recSet a w).bk i = s.bk i) ∧ (∀ i, (s.recSet a w).wp i = s.wp i) ∧ (∀ i, (s.recSet a w).wf i = s.wf i) ∧
    (∀ i, (s.recSet a w).po i = s.po i) ∧ (∀ i, (s.recSet a w).wm i = s.wm i) ∧ (∀ i, (s.recSet a w).sq i = s.sq i) ∧
    (∀ i, (s.recSet a w).bst i = s.bst i) ∧ (∀ i, (s.recSet a w).ch i = s.ch i) ∧ (∀ i, (s.recSet a w).can i = s.can i) ∧
    (∀ i, (s.recSet a w).str i = s.str i) ∧ (∀ i, (s.recSet a w).cmb i = s.cmb i) ∧
    (∀ i, (s.recSet a w).port i = s.port i) ∧ (∀ i, (s.recSet a w).line i = s.line i) := by
  refine ⟨?_, ?_, ?_, ?_, ?_, ?_, ?_, ?_, ?_, ?_, ?_, ?_, ?_, ?_, ?_, ?_, ?_, ?_, ?_, ?_, ?_, ?_, ?_, ?_, ?_, ?_, ?_, ?_, ?_, ?_, ?_, ?_, ?_, ?_, ?_, ?_, ?_, ?_, ?_, ?_, ?_, ?_, ?_, ?_, ?_, ?_, ?_, ?_, ?_, ?_, ?_, ?_, ?_, ?_, ?_, ?_, ?_, ?_, ?_, ?_, ?_, ?_, ?_, ?_, ?_, ?_, ?_, ?_, ?_, ?_, ?_, ?_, ?_, ?_, ?_, ?_, ?_, ?_, ?_, ?_, ?_, ?_, ?_⟩ <;> first | rfl | exact fun _ => rfl | exact fun _ _ => rfl

@[simp] theorem State.flashSet_rest (a v : Nat) :
    (s.flashSet a v).now = s.now ∧ (s.flashSet a v).fresh = s.fresh ∧ (s.flashSet a v).power = s.power ∧
    (s.flashSet a v).straps = s.straps ∧ (s.flashSet a v).regs = s.regs ∧ (s.flashSet a v).trace = s.trace ∧
    (s.flashSet a v).work = s.work ∧ (s.flashSet a v).recMem = s.recMem ∧ (s.flashSet a v).ply0 = s.ply0 ∧
    (s.flashSet a v).ply1 = s.ply1 ∧ (s.flashSet a v).ply2 = s.ply2 ∧ (s.flashSet a v).ticks = s.ticks ∧
    (s.flashSet a v).reports = s.reports ∧ (s.flashSet a v).mergeOpen = s.mergeOpen ∧ (s.flashSet a v).fifo = s.fifo ∧
    (s.flashSet a v).causes = s.causes ∧ (s.flashSet a v).crossings = s.crossings ∧ (s.flashSet a v).gov = s.gov ∧
    (s.flashSet a v).weave = s.weave ∧ (s.flashSet a v).primary = s.primary ∧ (s.flashSet a v).warps = s.warps ∧
    (s.flashSet a v).wefts = s.wefts ∧ (s.flashSet a v).learn = s.learn ∧ (s.flashSet a v).shTok = s.shTok ∧
    (s.flashSet a v).bkTok = s.bkTok ∧ (s.flashSet a v).pair = s.pair ∧ (s.flashSet a v).recJobs = s.recJobs ∧
    (s.flashSet a v).acc = s.acc ∧ (s.flashSet a v).shuttles = s.shuttles ∧ (s.flashSet a v).seqTok = s.seqTok ∧
    (s.flashSet a v).pulseOuts = s.pulseOuts ∧ (s.flashSet a v).banks = s.banks ∧ (s.flashSet a v).cmps = s.cmps ∧
    (s.flashSet a v).boosts = s.boosts ∧ (s.flashSet a v).closures = s.closures ∧ (s.flashSet a v).seqs = s.seqs ∧
    (s.flashSet a v).slices = s.slices ∧ (s.flashSet a v).rot = s.rot ∧ (s.flashSet a v).inCal = s.inCal ∧
    (s.flashSet a v).wmons = s.wmons ∧ (s.flashSet a v).ptimers = s.ptimers ∧ (s.flashSet a v).monTest = s.monTest ∧
    (s.flashSet a v).cmbSig = s.cmbSig ∧ (s.flashSet a v).pins = s.pins ∧ (s.flashSet a v).combust = s.combust ∧
    (s.flashSet a v).trimDue = s.trimDue ∧ (s.flashSet a v).maps = s.maps ∧ (s.flashSet a v).svc = s.svc ∧
    (s.flashSet a v).rail = s.rail ∧ (s.flashSet a v).ovs = s.ovs ∧ (s.flashSet a v).selv = s.selv ∧
    (s.flashSet a v).enumStart = s.enumStart ∧ (s.flashSet a v).host = s.host ∧ (s.flashSet a v).cans = s.cans ∧
    (s.flashSet a v).streams = s.streams ∧ (s.flashSet a v).ports = s.ports ∧ (s.flashSet a v).sents = s.sents ∧
    (s.flashSet a v).dma = s.dma ∧ (s.flashSet a v).dmaTrigs = s.dmaTrigs ∧ (s.flashSet a v).ahead = s.ahead ∧
    (s.flashSet a v).strand = s.strand ∧ (s.flashSet a v).supply = s.supply ∧ (s.flashSet a v).saf = s.saf ∧
    (s.flashSet a v).pending = s.pending ∧ (∀ a, (s.flashSet a v).reg a = s.reg a) ∧
    (∀ f, (s.flashSet a v).get f = s.get f) ∧ (∀ f, (s.flashSet a v).is f = s.is f) ∧
    (∀ f, (s.flashSet a v).getI f = s.getI f) ∧ (∀ i j, (s.flashSet a v).hasTile i j = s.hasTile i j) ∧
    (∀ i, (s.flashSet a v).sh i = s.sh i) ∧ (∀ i, (s.flashSet a v).bk i = s.bk i) ∧
    (∀ i, (s.flashSet a v).wp i = s.wp i) ∧ (∀ i, (s.flashSet a v).wf i = s.wf i) ∧
    (∀ i, (s.flashSet a v).po i = s.po i) ∧ (∀ i, (s.flashSet a v).wm i = s.wm i) ∧
    (∀ i, (s.flashSet a v).sq i = s.sq i) ∧ (∀ i, (s.flashSet a v).bst i = s.bst i) ∧
    (∀ i, (s.flashSet a v).ch i = s.ch i) ∧ (∀ i, (s.flashSet a v).can i = s.can i) ∧
    (∀ i, (s.flashSet a v).str i = s.str i) ∧ (∀ i, (s.flashSet a v).cmb i = s.cmb i) ∧
    (∀ i, (s.flashSet a v).port i = s.port i) ∧ (∀ i, (s.flashSet a v).line i = s.line i) := by
  refine ⟨?_, ?_, ?_, ?_, ?_, ?_, ?_, ?_, ?_, ?_, ?_, ?_, ?_, ?_, ?_, ?_, ?_, ?_, ?_, ?_, ?_, ?_, ?_, ?_, ?_, ?_, ?_, ?_, ?_, ?_, ?_, ?_, ?_, ?_, ?_, ?_, ?_, ?_, ?_, ?_, ?_, ?_, ?_, ?_, ?_, ?_, ?_, ?_, ?_, ?_, ?_, ?_, ?_, ?_, ?_, ?_, ?_, ?_, ?_, ?_, ?_, ?_, ?_, ?_, ?_, ?_, ?_, ?_, ?_, ?_, ?_, ?_, ?_, ?_, ?_, ?_, ?_, ?_, ?_, ?_, ?_, ?_, ?_⟩ <;> first | rfl | exact fun _ => rfl | exact fun _ _ => rfl

@[simp] theorem State.accSet_rest (type key w : Nat) (v : Word) :
    (s.accSet type key w v).now = s.now ∧ (s.accSet type key w v).fresh = s.fresh ∧
    (s.accSet type key w v).power = s.power ∧ (s.accSet type key w v).straps = s.straps ∧
    (s.accSet type key w v).regs = s.regs ∧ (s.accSet type key w v).trace = s.trace ∧
    (s.accSet type key w v).work = s.work ∧ (s.accSet type key w v).recMem = s.recMem ∧
    (s.accSet type key w v).ply0 = s.ply0 ∧ (s.accSet type key w v).ply1 = s.ply1 ∧
    (s.accSet type key w v).ply2 = s.ply2 ∧ (s.accSet type key w v).flash = s.flash ∧
    (s.accSet type key w v).ticks = s.ticks ∧ (s.accSet type key w v).reports = s.reports ∧
    (s.accSet type key w v).mergeOpen = s.mergeOpen ∧ (s.accSet type key w v).fifo = s.fifo ∧
    (s.accSet type key w v).causes = s.causes ∧ (s.accSet type key w v).crossings = s.crossings ∧
    (s.accSet type key w v).gov = s.gov ∧ (s.accSet type key w v).weave = s.weave ∧
    (s.accSet type key w v).primary = s.primary ∧ (s.accSet type key w v).warps = s.warps ∧
    (s.accSet type key w v).wefts = s.wefts ∧ (s.accSet type key w v).learn = s.learn ∧
    (s.accSet type key w v).shTok = s.shTok ∧ (s.accSet type key w v).bkTok = s.bkTok ∧
    (s.accSet type key w v).pair = s.pair ∧ (s.accSet type key w v).recJobs = s.recJobs ∧
    (s.accSet type key w v).shuttles = s.shuttles ∧ (s.accSet type key w v).seqTok = s.seqTok ∧
    (s.accSet type key w v).pulseOuts = s.pulseOuts ∧ (s.accSet type key w v).banks = s.banks ∧
    (s.accSet type key w v).cmps = s.cmps ∧ (s.accSet type key w v).boosts = s.boosts ∧
    (s.accSet type key w v).closures = s.closures ∧ (s.accSet type key w v).seqs = s.seqs ∧
    (s.accSet type key w v).slices = s.slices ∧ (s.accSet type key w v).rot = s.rot ∧
    (s.accSet type key w v).inCal = s.inCal ∧ (s.accSet type key w v).wmons = s.wmons ∧
    (s.accSet type key w v).ptimers = s.ptimers ∧ (s.accSet type key w v).monTest = s.monTest ∧
    (s.accSet type key w v).cmbSig = s.cmbSig ∧ (s.accSet type key w v).pins = s.pins ∧
    (s.accSet type key w v).combust = s.combust ∧ (s.accSet type key w v).trimDue = s.trimDue ∧
    (s.accSet type key w v).maps = s.maps ∧ (s.accSet type key w v).svc = s.svc ∧ (s.accSet type key w v).rail = s.rail ∧
    (s.accSet type key w v).ovs = s.ovs ∧ (s.accSet type key w v).selv = s.selv ∧
    (s.accSet type key w v).enumStart = s.enumStart ∧ (s.accSet type key w v).host = s.host ∧
    (s.accSet type key w v).cans = s.cans ∧ (s.accSet type key w v).streams = s.streams ∧
    (s.accSet type key w v).ports = s.ports ∧ (s.accSet type key w v).sents = s.sents ∧
    (s.accSet type key w v).dma = s.dma ∧ (s.accSet type key w v).dmaTrigs = s.dmaTrigs ∧
    (s.accSet type key w v).ahead = s.ahead ∧ (s.accSet type key w v).strand = s.strand ∧
    (s.accSet type key w v).supply = s.supply ∧ (s.accSet type key w v).saf = s.saf ∧
    (s.accSet type key w v).pending = s.pending ∧ (∀ a, (s.accSet type key w v).reg a = s.reg a) ∧
    (∀ f, (s.accSet type key w v).get f = s.get f) ∧ (∀ f, (s.accSet type key w v).is f = s.is f) ∧
    (∀ f, (s.accSet type key w v).getI f = s.getI f) ∧ (∀ i j, (s.accSet type key w v).hasTile i j = s.hasTile i j) ∧
    (∀ i, (s.accSet type key w v).sh i = s.sh i) ∧ (∀ i, (s.accSet type key w v).bk i = s.bk i) ∧
    (∀ i, (s.accSet type key w v).wp i = s.wp i) ∧ (∀ i, (s.accSet type key w v).wf i = s.wf i) ∧
    (∀ i, (s.accSet type key w v).po i = s.po i) ∧ (∀ i, (s.accSet type key w v).wm i = s.wm i) ∧
    (∀ i, (s.accSet type key w v).sq i = s.sq i) ∧ (∀ i, (s.accSet type key w v).bst i = s.bst i) ∧
    (∀ i, (s.accSet type key w v).ch i = s.ch i) ∧ (∀ i, (s.accSet type key w v).can i = s.can i) ∧
    (∀ i, (s.accSet type key w v).str i = s.str i) ∧ (∀ i, (s.accSet type key w v).cmb i = s.cmb i) ∧
    (∀ i, (s.accSet type key w v).port i = s.port i) ∧ (∀ i, (s.accSet type key w v).line i = s.line i) := by
  refine ⟨?_, ?_, ?_, ?_, ?_, ?_, ?_, ?_, ?_, ?_, ?_, ?_, ?_, ?_, ?_, ?_, ?_, ?_, ?_, ?_, ?_, ?_, ?_, ?_, ?_, ?_, ?_, ?_, ?_, ?_, ?_, ?_, ?_, ?_, ?_, ?_, ?_, ?_, ?_, ?_, ?_, ?_, ?_, ?_, ?_, ?_, ?_, ?_, ?_, ?_, ?_, ?_, ?_, ?_, ?_, ?_, ?_, ?_, ?_, ?_, ?_, ?_, ?_, ?_, ?_, ?_, ?_, ?_, ?_, ?_, ?_, ?_, ?_, ?_, ?_, ?_, ?_, ?_, ?_, ?_, ?_, ?_, ?_⟩ <;> first | rfl | exact fun _ => rfl | exact fun _ _ => rfl

@[simp] theorem State.report_rest (src idx code arg : Nat) (time : Option Word) :
    (s.report src idx code arg time).now = s.now ∧ (s.report src idx code arg time).fresh = s.fresh ∧
    (s.report src idx code arg time).power = s.power ∧ (s.report src idx code arg time).straps = s.straps ∧
    (s.report src idx code arg time).regs = s.regs ∧ (s.report src idx code arg time).trace = s.trace ∧
    (s.report src idx code arg time).work = s.work ∧ (s.report src idx code arg time).recMem = s.recMem ∧
    (s.report src idx code arg time).ply0 = s.ply0 ∧ (s.report src idx code arg time).ply1 = s.ply1 ∧
    (s.report src idx code arg time).ply2 = s.ply2 ∧ (s.report src idx code arg time).flash = s.flash ∧
    (s.report src idx code arg time).ticks = s.ticks ∧ (s.report src idx code arg time).mergeOpen = s.mergeOpen ∧
    (s.report src idx code arg time).fifo = s.fifo ∧ (s.report src idx code arg time).causes = s.causes ∧
    (s.report src idx code arg time).crossings = s.crossings ∧ (s.report src idx code arg time).gov = s.gov ∧
    (s.report src idx code arg time).weave = s.weave ∧ (s.report src idx code arg time).primary = s.primary ∧
    (s.report src idx code arg time).warps = s.warps ∧ (s.report src idx code arg time).wefts = s.wefts ∧
    (s.report src idx code arg time).learn = s.learn ∧ (s.report src idx code arg time).shTok = s.shTok ∧
    (s.report src idx code arg time).bkTok = s.bkTok ∧ (s.report src idx code arg time).pair = s.pair ∧
    (s.report src idx code arg time).recJobs = s.recJobs ∧ (s.report src idx code arg time).acc = s.acc ∧
    (s.report src idx code arg time).shuttles = s.shuttles ∧ (s.report src idx code arg time).seqTok = s.seqTok ∧
    (s.report src idx code arg time).pulseOuts = s.pulseOuts ∧ (s.report src idx code arg time).banks = s.banks ∧
    (s.report src idx code arg time).cmps = s.cmps ∧ (s.report src idx code arg time).boosts = s.boosts ∧
    (s.report src idx code arg time).closures = s.closures ∧ (s.report src idx code arg time).seqs = s.seqs ∧
    (s.report src idx code arg time).slices = s.slices ∧ (s.report src idx code arg time).rot = s.rot ∧
    (s.report src idx code arg time).inCal = s.inCal ∧ (s.report src idx code arg time).wmons = s.wmons ∧
    (s.report src idx code arg time).ptimers = s.ptimers ∧ (s.report src idx code arg time).monTest = s.monTest ∧
    (s.report src idx code arg time).cmbSig = s.cmbSig ∧ (s.report src idx code arg time).pins = s.pins ∧
    (s.report src idx code arg time).combust = s.combust ∧ (s.report src idx code arg time).trimDue = s.trimDue ∧
    (s.report src idx code arg time).maps = s.maps ∧ (s.report src idx code arg time).svc = s.svc ∧
    (s.report src idx code arg time).rail = s.rail ∧ (s.report src idx code arg time).ovs = s.ovs ∧
    (s.report src idx code arg time).selv = s.selv ∧ (s.report src idx code arg time).enumStart = s.enumStart ∧
    (s.report src idx code arg time).host = s.host ∧ (s.report src idx code arg time).cans = s.cans ∧
    (s.report src idx code arg time).streams = s.streams ∧ (s.report src idx code arg time).ports = s.ports ∧
    (s.report src idx code arg time).sents = s.sents ∧ (s.report src idx code arg time).dma = s.dma ∧
    (s.report src idx code arg time).dmaTrigs = s.dmaTrigs ∧ (s.report src idx code arg time).ahead = s.ahead ∧
    (s.report src idx code arg time).strand = s.strand ∧ (s.report src idx code arg time).supply = s.supply ∧
    (s.report src idx code arg time).saf = s.saf ∧ (s.report src idx code arg time).pending = s.pending ∧
    (∀ a, (s.report src idx code arg time).reg a = s.reg a) ∧ (∀ f, (s.report src idx code arg time).get f = s.get f) ∧
    (∀ f, (s.report src idx code arg time).is f = s.is f) ∧ (∀ f, (s.report src idx code arg time).getI f = s.getI f) ∧
    (∀ i j, (s.report src idx code arg time).hasTile i j = s.hasTile i j) ∧
    (∀ i, (s.report src idx code arg time).sh i = s.sh i) ∧ (∀ i, (s.report src idx code arg time).bk i = s.bk i) ∧
    (∀ i, (s.report src idx code arg time).wp i = s.wp i) ∧ (∀ i, (s.report src idx code arg time).wf i = s.wf i) ∧
    (∀ i, (s.report src idx code arg time).po i = s.po i) ∧ (∀ i, (s.report src idx code arg time).wm i = s.wm i) ∧
    (∀ i, (s.report src idx code arg time).sq i = s.sq i) ∧ (∀ i, (s.report src idx code arg time).bst i = s.bst i) ∧
    (∀ i, (s.report src idx code arg time).ch i = s.ch i) ∧ (∀ i, (s.report src idx code arg time).can i = s.can i) ∧
    (∀ i, (s.report src idx code arg time).str i = s.str i) ∧ (∀ i, (s.report src idx code arg time).cmb i = s.cmb i) ∧
    (∀ i, (s.report src idx code arg time).port i = s.port i) ∧ (∀ i, (s.report src idx code arg time).line i = s.line i) := by
  refine ⟨?_, ?_, ?_, ?_, ?_, ?_, ?_, ?_, ?_, ?_, ?_, ?_, ?_, ?_, ?_, ?_, ?_, ?_, ?_, ?_, ?_, ?_, ?_, ?_, ?_, ?_, ?_, ?_, ?_, ?_, ?_, ?_, ?_, ?_, ?_, ?_, ?_, ?_, ?_, ?_, ?_, ?_, ?_, ?_, ?_, ?_, ?_, ?_, ?_, ?_, ?_, ?_, ?_, ?_, ?_, ?_, ?_, ?_, ?_, ?_, ?_, ?_, ?_, ?_, ?_, ?_, ?_, ?_, ?_, ?_, ?_, ?_, ?_, ?_, ?_, ?_, ?_, ?_, ?_, ?_, ?_, ?_, ?_⟩ <;> first | rfl | exact fun _ => rfl | exact fun _ _ => rfl

@[simp] theorem State.cause_rest (code idx : Nat) :
    (s.cause code idx).now = s.now ∧ (s.cause code idx).fresh = s.fresh ∧ (s.cause code idx).power = s.power ∧
    (s.cause code idx).straps = s.straps ∧ (s.cause code idx).regs = s.regs ∧ (s.cause code idx).trace = s.trace ∧
    (s.cause code idx).work = s.work ∧ (s.cause code idx).recMem = s.recMem ∧ (s.cause code idx).ply0 = s.ply0 ∧
    (s.cause code idx).ply1 = s.ply1 ∧ (s.cause code idx).ply2 = s.ply2 ∧ (s.cause code idx).flash = s.flash ∧
    (s.cause code idx).ticks = s.ticks ∧ (s.cause code idx).reports = s.reports ∧
    (s.cause code idx).mergeOpen = s.mergeOpen ∧ (s.cause code idx).fifo = s.fifo ∧
    (s.cause code idx).crossings = s.crossings ∧ (s.cause code idx).gov = s.gov ∧ (s.cause code idx).weave = s.weave ∧
    (s.cause code idx).primary = s.primary ∧ (s.cause code idx).warps = s.warps ∧ (s.cause code idx).wefts = s.wefts ∧
    (s.cause code idx).learn = s.learn ∧ (s.cause code idx).shTok = s.shTok ∧ (s.cause code idx).bkTok = s.bkTok ∧
    (s.cause code idx).pair = s.pair ∧ (s.cause code idx).recJobs = s.recJobs ∧ (s.cause code idx).acc = s.acc ∧
    (s.cause code idx).shuttles = s.shuttles ∧ (s.cause code idx).seqTok = s.seqTok ∧
    (s.cause code idx).pulseOuts = s.pulseOuts ∧ (s.cause code idx).banks = s.banks ∧ (s.cause code idx).cmps = s.cmps ∧
    (s.cause code idx).boosts = s.boosts ∧ (s.cause code idx).closures = s.closures ∧ (s.cause code idx).seqs = s.seqs ∧
    (s.cause code idx).slices = s.slices ∧ (s.cause code idx).rot = s.rot ∧ (s.cause code idx).inCal = s.inCal ∧
    (s.cause code idx).wmons = s.wmons ∧ (s.cause code idx).ptimers = s.ptimers ∧
    (s.cause code idx).monTest = s.monTest ∧ (s.cause code idx).cmbSig = s.cmbSig ∧ (s.cause code idx).pins = s.pins ∧
    (s.cause code idx).combust = s.combust ∧ (s.cause code idx).trimDue = s.trimDue ∧ (s.cause code idx).maps = s.maps ∧
    (s.cause code idx).svc = s.svc ∧ (s.cause code idx).rail = s.rail ∧ (s.cause code idx).ovs = s.ovs ∧
    (s.cause code idx).selv = s.selv ∧ (s.cause code idx).enumStart = s.enumStart ∧ (s.cause code idx).host = s.host ∧
    (s.cause code idx).cans = s.cans ∧ (s.cause code idx).streams = s.streams ∧ (s.cause code idx).ports = s.ports ∧
    (s.cause code idx).sents = s.sents ∧ (s.cause code idx).dma = s.dma ∧ (s.cause code idx).dmaTrigs = s.dmaTrigs ∧
    (s.cause code idx).ahead = s.ahead ∧ (s.cause code idx).strand = s.strand ∧ (s.cause code idx).supply = s.supply ∧
    (s.cause code idx).saf = s.saf ∧ (s.cause code idx).pending = s.pending ∧ (∀ a, (s.cause code idx).reg a = s.reg a) ∧
    (∀ f, (s.cause code idx).get f = s.get f) ∧ (∀ f, (s.cause code idx).is f = s.is f) ∧
    (∀ f, (s.cause code idx).getI f = s.getI f) ∧ (∀ i j, (s.cause code idx).hasTile i j = s.hasTile i j) ∧
    (∀ i, (s.cause code idx).sh i = s.sh i) ∧ (∀ i, (s.cause code idx).bk i = s.bk i) ∧
    (∀ i, (s.cause code idx).wp i = s.wp i) ∧ (∀ i, (s.cause code idx).wf i = s.wf i) ∧
    (∀ i, (s.cause code idx).po i = s.po i) ∧ (∀ i, (s.cause code idx).wm i = s.wm i) ∧
    (∀ i, (s.cause code idx).sq i = s.sq i) ∧ (∀ i, (s.cause code idx).bst i = s.bst i) ∧
    (∀ i, (s.cause code idx).ch i = s.ch i) ∧ (∀ i, (s.cause code idx).can i = s.can i) ∧
    (∀ i, (s.cause code idx).str i = s.str i) ∧ (∀ i, (s.cause code idx).cmb i = s.cmb i) ∧
    (∀ i, (s.cause code idx).port i = s.port i) ∧ (∀ i, (s.cause code idx).line i = s.line i) := by
  refine ⟨?_, ?_, ?_, ?_, ?_, ?_, ?_, ?_, ?_, ?_, ?_, ?_, ?_, ?_, ?_, ?_, ?_, ?_, ?_, ?_, ?_, ?_, ?_, ?_, ?_, ?_, ?_, ?_, ?_, ?_, ?_, ?_, ?_, ?_, ?_, ?_, ?_, ?_, ?_, ?_, ?_, ?_, ?_, ?_, ?_, ?_, ?_, ?_, ?_, ?_, ?_, ?_, ?_, ?_, ?_, ?_, ?_, ?_, ?_, ?_, ?_, ?_, ?_, ?_, ?_, ?_, ?_, ?_, ?_, ?_, ?_, ?_, ?_, ?_, ?_, ?_, ?_, ?_, ?_, ?_, ?_, ?_, ?_⟩ <;> first | rfl | exact fun _ => rfl | exact fun _ _ => rfl

@[simp] theorem State.setWp_rest (n : Nat) (k : Warp) :
    (s.setWp n k).now = s.now ∧ (s.setWp n k).fresh = s.fresh ∧ (s.setWp n k).power = s.power ∧
    (s.setWp n k).straps = s.straps ∧ (s.setWp n k).regs = s.regs ∧ (s.setWp n k).trace = s.trace ∧
    (s.setWp n k).work = s.work ∧ (s.setWp n k).recMem = s.recMem ∧ (s.setWp n k).ply0 = s.ply0 ∧
    (s.setWp n k).ply1 = s.ply1 ∧ (s.setWp n k).ply2 = s.ply2 ∧ (s.setWp n k).flash = s.flash ∧
    (s.setWp n k).ticks = s.ticks ∧ (s.setWp n k).reports = s.reports ∧ (s.setWp n k).mergeOpen = s.mergeOpen ∧
    (s.setWp n k).fifo = s.fifo ∧ (s.setWp n k).causes = s.causes ∧ (s.setWp n k).crossings = s.crossings ∧
    (s.setWp n k).gov = s.gov ∧ (s.setWp n k).weave = s.weave ∧ (s.setWp n k).primary = s.primary ∧
    (s.setWp n k).wefts = s.wefts ∧ (s.setWp n k).learn = s.learn ∧ (s.setWp n k).shTok = s.shTok ∧
    (s.setWp n k).bkTok = s.bkTok ∧ (s.setWp n k).pair = s.pair ∧ (s.setWp n k).recJobs = s.recJobs ∧
    (s.setWp n k).acc = s.acc ∧ (s.setWp n k).shuttles = s.shuttles ∧ (s.setWp n k).seqTok = s.seqTok ∧
    (s.setWp n k).pulseOuts = s.pulseOuts ∧ (s.setWp n k).banks = s.banks ∧ (s.setWp n k).cmps = s.cmps ∧
    (s.setWp n k).boosts = s.boosts ∧ (s.setWp n k).closures = s.closures ∧ (s.setWp n k).seqs = s.seqs ∧
    (s.setWp n k).slices = s.slices ∧ (s.setWp n k).rot = s.rot ∧ (s.setWp n k).inCal = s.inCal ∧
    (s.setWp n k).wmons = s.wmons ∧ (s.setWp n k).ptimers = s.ptimers ∧ (s.setWp n k).monTest = s.monTest ∧
    (s.setWp n k).cmbSig = s.cmbSig ∧ (s.setWp n k).pins = s.pins ∧ (s.setWp n k).combust = s.combust ∧
    (s.setWp n k).trimDue = s.trimDue ∧ (s.setWp n k).maps = s.maps ∧ (s.setWp n k).svc = s.svc ∧
    (s.setWp n k).rail = s.rail ∧ (s.setWp n k).ovs = s.ovs ∧ (s.setWp n k).selv = s.selv ∧
    (s.setWp n k).enumStart = s.enumStart ∧ (s.setWp n k).host = s.host ∧ (s.setWp n k).cans = s.cans ∧
    (s.setWp n k).streams = s.streams ∧ (s.setWp n k).ports = s.ports ∧ (s.setWp n k).sents = s.sents ∧
    (s.setWp n k).dma = s.dma ∧ (s.setWp n k).dmaTrigs = s.dmaTrigs ∧ (s.setWp n k).ahead = s.ahead ∧
    (s.setWp n k).strand = s.strand ∧ (s.setWp n k).supply = s.supply ∧ (s.setWp n k).saf = s.saf ∧
    (s.setWp n k).pending = s.pending ∧ (∀ a, (s.setWp n k).reg a = s.reg a) ∧ (∀ f, (s.setWp n k).get f = s.get f) ∧
    (∀ f, (s.setWp n k).is f = s.is f) ∧ (∀ f, (s.setWp n k).getI f = s.getI f) ∧
    (∀ i j, (s.setWp n k).hasTile i j = s.hasTile i j) ∧ (∀ i, (s.setWp n k).sh i = s.sh i) ∧
    (∀ i, (s.setWp n k).bk i = s.bk i) ∧ (∀ i, (s.setWp n k).wf i = s.wf i) ∧ (∀ i, (s.setWp n k).po i = s.po i) ∧
    (∀ i, (s.setWp n k).wm i = s.wm i) ∧ (∀ i, (s.setWp n k).sq i = s.sq i) ∧ (∀ i, (s.setWp n k).bst i = s.bst i) ∧
    (∀ i, (s.setWp n k).ch i = s.ch i) ∧ (∀ i, (s.setWp n k).can i = s.can i) ∧ (∀ i, (s.setWp n k).str i = s.str i) ∧
    (∀ i, (s.setWp n k).cmb i = s.cmb i) ∧ (∀ i, (s.setWp n k).port i = s.port i) ∧ (∀ i, (s.setWp n k).line i = s.line i) := by
  refine ⟨?_, ?_, ?_, ?_, ?_, ?_, ?_, ?_, ?_, ?_, ?_, ?_, ?_, ?_, ?_, ?_, ?_, ?_, ?_, ?_, ?_, ?_, ?_, ?_, ?_, ?_, ?_, ?_, ?_, ?_, ?_, ?_, ?_, ?_, ?_, ?_, ?_, ?_, ?_, ?_, ?_, ?_, ?_, ?_, ?_, ?_, ?_, ?_, ?_, ?_, ?_, ?_, ?_, ?_, ?_, ?_, ?_, ?_, ?_, ?_, ?_, ?_, ?_, ?_, ?_, ?_, ?_, ?_, ?_, ?_, ?_, ?_, ?_, ?_, ?_, ?_, ?_, ?_, ?_, ?_, ?_, ?_⟩ <;> first | rfl | exact fun _ => rfl | exact fun _ _ => rfl

@[simp] theorem State.setWf_rest (n : Nat) (k : Weft) :
    (s.setWf n k).now = s.now ∧ (s.setWf n k).fresh = s.fresh ∧ (s.setWf n k).power = s.power ∧
    (s.setWf n k).straps = s.straps ∧ (s.setWf n k).regs = s.regs ∧ (s.setWf n k).trace = s.trace ∧
    (s.setWf n k).work = s.work ∧ (s.setWf n k).recMem = s.recMem ∧ (s.setWf n k).ply0 = s.ply0 ∧
    (s.setWf n k).ply1 = s.ply1 ∧ (s.setWf n k).ply2 = s.ply2 ∧ (s.setWf n k).flash = s.flash ∧
    (s.setWf n k).ticks = s.ticks ∧ (s.setWf n k).reports = s.reports ∧ (s.setWf n k).mergeOpen = s.mergeOpen ∧
    (s.setWf n k).fifo = s.fifo ∧ (s.setWf n k).causes = s.causes ∧ (s.setWf n k).crossings = s.crossings ∧
    (s.setWf n k).gov = s.gov ∧ (s.setWf n k).weave = s.weave ∧ (s.setWf n k).primary = s.primary ∧
    (s.setWf n k).warps = s.warps ∧ (s.setWf n k).learn = s.learn ∧ (s.setWf n k).shTok = s.shTok ∧
    (s.setWf n k).bkTok = s.bkTok ∧ (s.setWf n k).pair = s.pair ∧ (s.setWf n k).recJobs = s.recJobs ∧
    (s.setWf n k).acc = s.acc ∧ (s.setWf n k).shuttles = s.shuttles ∧ (s.setWf n k).seqTok = s.seqTok ∧
    (s.setWf n k).pulseOuts = s.pulseOuts ∧ (s.setWf n k).banks = s.banks ∧ (s.setWf n k).cmps = s.cmps ∧
    (s.setWf n k).boosts = s.boosts ∧ (s.setWf n k).closures = s.closures ∧ (s.setWf n k).seqs = s.seqs ∧
    (s.setWf n k).slices = s.slices ∧ (s.setWf n k).rot = s.rot ∧ (s.setWf n k).inCal = s.inCal ∧
    (s.setWf n k).wmons = s.wmons ∧ (s.setWf n k).ptimers = s.ptimers ∧ (s.setWf n k).monTest = s.monTest ∧
    (s.setWf n k).cmbSig = s.cmbSig ∧ (s.setWf n k).pins = s.pins ∧ (s.setWf n k).combust = s.combust ∧
    (s.setWf n k).trimDue = s.trimDue ∧ (s.setWf n k).maps = s.maps ∧ (s.setWf n k).svc = s.svc ∧
    (s.setWf n k).rail = s.rail ∧ (s.setWf n k).ovs = s.ovs ∧ (s.setWf n k).selv = s.selv ∧
    (s.setWf n k).enumStart = s.enumStart ∧ (s.setWf n k).host = s.host ∧ (s.setWf n k).cans = s.cans ∧
    (s.setWf n k).streams = s.streams ∧ (s.setWf n k).ports = s.ports ∧ (s.setWf n k).sents = s.sents ∧
    (s.setWf n k).dma = s.dma ∧ (s.setWf n k).dmaTrigs = s.dmaTrigs ∧ (s.setWf n k).ahead = s.ahead ∧
    (s.setWf n k).strand = s.strand ∧ (s.setWf n k).supply = s.supply ∧ (s.setWf n k).saf = s.saf ∧
    (s.setWf n k).pending = s.pending ∧ (∀ a, (s.setWf n k).reg a = s.reg a) ∧ (∀ f, (s.setWf n k).get f = s.get f) ∧
    (∀ f, (s.setWf n k).is f = s.is f) ∧ (∀ f, (s.setWf n k).getI f = s.getI f) ∧
    (∀ i j, (s.setWf n k).hasTile i j = s.hasTile i j) ∧ (∀ i, (s.setWf n k).sh i = s.sh i) ∧
    (∀ i, (s.setWf n k).bk i = s.bk i) ∧ (∀ i, (s.setWf n k).wp i = s.wp i) ∧ (∀ i, (s.setWf n k).po i = s.po i) ∧
    (∀ i, (s.setWf n k).wm i = s.wm i) ∧ (∀ i, (s.setWf n k).sq i = s.sq i) ∧ (∀ i, (s.setWf n k).bst i = s.bst i) ∧
    (∀ i, (s.setWf n k).ch i = s.ch i) ∧ (∀ i, (s.setWf n k).can i = s.can i) ∧ (∀ i, (s.setWf n k).str i = s.str i) ∧
    (∀ i, (s.setWf n k).cmb i = s.cmb i) ∧ (∀ i, (s.setWf n k).port i = s.port i) ∧ (∀ i, (s.setWf n k).line i = s.line i) := by
  refine ⟨?_, ?_, ?_, ?_, ?_, ?_, ?_, ?_, ?_, ?_, ?_, ?_, ?_, ?_, ?_, ?_, ?_, ?_, ?_, ?_, ?_, ?_, ?_, ?_, ?_, ?_, ?_, ?_, ?_, ?_, ?_, ?_, ?_, ?_, ?_, ?_, ?_, ?_, ?_, ?_, ?_, ?_, ?_, ?_, ?_, ?_, ?_, ?_, ?_, ?_, ?_, ?_, ?_, ?_, ?_, ?_, ?_, ?_, ?_, ?_, ?_, ?_, ?_, ?_, ?_, ?_, ?_, ?_, ?_, ?_, ?_, ?_, ?_, ?_, ?_, ?_, ?_, ?_, ?_, ?_, ?_, ?_⟩ <;> first | rfl | exact fun _ => rfl | exact fun _ _ => rfl

@[simp] theorem State.setSh_rest (n : Nat) (k : Shuttle) :
    (s.setSh n k).now = s.now ∧ (s.setSh n k).fresh = s.fresh ∧ (s.setSh n k).power = s.power ∧
    (s.setSh n k).straps = s.straps ∧ (s.setSh n k).regs = s.regs ∧ (s.setSh n k).trace = s.trace ∧
    (s.setSh n k).work = s.work ∧ (s.setSh n k).recMem = s.recMem ∧ (s.setSh n k).ply0 = s.ply0 ∧
    (s.setSh n k).ply1 = s.ply1 ∧ (s.setSh n k).ply2 = s.ply2 ∧ (s.setSh n k).flash = s.flash ∧
    (s.setSh n k).ticks = s.ticks ∧ (s.setSh n k).reports = s.reports ∧ (s.setSh n k).mergeOpen = s.mergeOpen ∧
    (s.setSh n k).fifo = s.fifo ∧ (s.setSh n k).causes = s.causes ∧ (s.setSh n k).crossings = s.crossings ∧
    (s.setSh n k).gov = s.gov ∧ (s.setSh n k).weave = s.weave ∧ (s.setSh n k).primary = s.primary ∧
    (s.setSh n k).warps = s.warps ∧ (s.setSh n k).wefts = s.wefts ∧ (s.setSh n k).learn = s.learn ∧
    (s.setSh n k).shTok = s.shTok ∧ (s.setSh n k).bkTok = s.bkTok ∧ (s.setSh n k).pair = s.pair ∧
    (s.setSh n k).recJobs = s.recJobs ∧ (s.setSh n k).acc = s.acc ∧ (s.setSh n k).seqTok = s.seqTok ∧
    (s.setSh n k).pulseOuts = s.pulseOuts ∧ (s.setSh n k).banks = s.banks ∧ (s.setSh n k).cmps = s.cmps ∧
    (s.setSh n k).boosts = s.boosts ∧ (s.setSh n k).closures = s.closures ∧ (s.setSh n k).seqs = s.seqs ∧
    (s.setSh n k).slices = s.slices ∧ (s.setSh n k).rot = s.rot ∧ (s.setSh n k).inCal = s.inCal ∧
    (s.setSh n k).wmons = s.wmons ∧ (s.setSh n k).ptimers = s.ptimers ∧ (s.setSh n k).monTest = s.monTest ∧
    (s.setSh n k).cmbSig = s.cmbSig ∧ (s.setSh n k).pins = s.pins ∧ (s.setSh n k).combust = s.combust ∧
    (s.setSh n k).trimDue = s.trimDue ∧ (s.setSh n k).maps = s.maps ∧ (s.setSh n k).svc = s.svc ∧
    (s.setSh n k).rail = s.rail ∧ (s.setSh n k).ovs = s.ovs ∧ (s.setSh n k).selv = s.selv ∧
    (s.setSh n k).enumStart = s.enumStart ∧ (s.setSh n k).host = s.host ∧ (s.setSh n k).cans = s.cans ∧
    (s.setSh n k).streams = s.streams ∧ (s.setSh n k).ports = s.ports ∧ (s.setSh n k).sents = s.sents ∧
    (s.setSh n k).dma = s.dma ∧ (s.setSh n k).dmaTrigs = s.dmaTrigs ∧ (s.setSh n k).ahead = s.ahead ∧
    (s.setSh n k).strand = s.strand ∧ (s.setSh n k).supply = s.supply ∧ (s.setSh n k).saf = s.saf ∧
    (s.setSh n k).pending = s.pending ∧ (∀ a, (s.setSh n k).reg a = s.reg a) ∧ (∀ f, (s.setSh n k).get f = s.get f) ∧
    (∀ f, (s.setSh n k).is f = s.is f) ∧ (∀ f, (s.setSh n k).getI f = s.getI f) ∧
    (∀ i j, (s.setSh n k).hasTile i j = s.hasTile i j) ∧ (∀ i, (s.setSh n k).bk i = s.bk i) ∧
    (∀ i, (s.setSh n k).wp i = s.wp i) ∧ (∀ i, (s.setSh n k).wf i = s.wf i) ∧ (∀ i, (s.setSh n k).po i = s.po i) ∧
    (∀ i, (s.setSh n k).wm i = s.wm i) ∧ (∀ i, (s.setSh n k).sq i = s.sq i) ∧ (∀ i, (s.setSh n k).bst i = s.bst i) ∧
    (∀ i, (s.setSh n k).ch i = s.ch i) ∧ (∀ i, (s.setSh n k).can i = s.can i) ∧ (∀ i, (s.setSh n k).str i = s.str i) ∧
    (∀ i, (s.setSh n k).cmb i = s.cmb i) ∧ (∀ i, (s.setSh n k).port i = s.port i) ∧ (∀ i, (s.setSh n k).line i = s.line i) := by
  refine ⟨?_, ?_, ?_, ?_, ?_, ?_, ?_, ?_, ?_, ?_, ?_, ?_, ?_, ?_, ?_, ?_, ?_, ?_, ?_, ?_, ?_, ?_, ?_, ?_, ?_, ?_, ?_, ?_, ?_, ?_, ?_, ?_, ?_, ?_, ?_, ?_, ?_, ?_, ?_, ?_, ?_, ?_, ?_, ?_, ?_, ?_, ?_, ?_, ?_, ?_, ?_, ?_, ?_, ?_, ?_, ?_, ?_, ?_, ?_, ?_, ?_, ?_, ?_, ?_, ?_, ?_, ?_, ?_, ?_, ?_, ?_, ?_, ?_, ?_, ?_, ?_, ?_, ?_, ?_, ?_, ?_, ?_⟩ <;> first | rfl | exact fun _ => rfl | exact fun _ _ => rfl

@[simp] theorem State.setBk_rest (b : Nat) (k : Bank) :
    (s.setBk b k).now = s.now ∧ (s.setBk b k).fresh = s.fresh ∧ (s.setBk b k).power = s.power ∧
    (s.setBk b k).straps = s.straps ∧ (s.setBk b k).regs = s.regs ∧ (s.setBk b k).trace = s.trace ∧
    (s.setBk b k).work = s.work ∧ (s.setBk b k).recMem = s.recMem ∧ (s.setBk b k).ply0 = s.ply0 ∧
    (s.setBk b k).ply1 = s.ply1 ∧ (s.setBk b k).ply2 = s.ply2 ∧ (s.setBk b k).flash = s.flash ∧
    (s.setBk b k).ticks = s.ticks ∧ (s.setBk b k).reports = s.reports ∧ (s.setBk b k).mergeOpen = s.mergeOpen ∧
    (s.setBk b k).fifo = s.fifo ∧ (s.setBk b k).causes = s.causes ∧ (s.setBk b k).crossings = s.crossings ∧
    (s.setBk b k).gov = s.gov ∧ (s.setBk b k).weave = s.weave ∧ (s.setBk b k).primary = s.primary ∧
    (s.setBk b k).warps = s.warps ∧ (s.setBk b k).wefts = s.wefts ∧ (s.setBk b k).learn = s.learn ∧
    (s.setBk b k).shTok = s.shTok ∧ (s.setBk b k).bkTok = s.bkTok ∧ (s.setBk b k).pair = s.pair ∧
    (s.setBk b k).recJobs = s.recJobs ∧ (s.setBk b k).acc = s.acc ∧ (s.setBk b k).shuttles = s.shuttles ∧
    (s.setBk b k).seqTok = s.seqTok ∧ (s.setBk b k).pulseOuts = s.pulseOuts ∧ (s.setBk b k).boosts = s.boosts ∧
    (s.setBk b k).closures = s.closures ∧ (s.setBk b k).seqs = s.seqs ∧ (s.setBk b k).slices = s.slices ∧
    (s.setBk b k).rot = s.rot ∧ (s.setBk b k).inCal = s.inCal ∧ (s.setBk b k).wmons = s.wmons ∧
    (s.setBk b k).ptimers = s.ptimers ∧ (s.setBk b k).monTest = s.monTest ∧ (s.setBk b k).cmbSig = s.cmbSig ∧
    (s.setBk b k).pins = s.pins ∧ (s.setBk b k).combust = s.combust ∧ (s.setBk b k).trimDue = s.trimDue ∧
    (s.setBk b k).maps = s.maps ∧ (s.setBk b k).svc = s.svc ∧ (s.setBk b k).rail = s.rail ∧ (s.setBk b k).ovs = s.ovs ∧
    (s.setBk b k).selv = s.selv ∧ (s.setBk b k).enumStart = s.enumStart ∧ (s.setBk b k).host = s.host ∧
    (s.setBk b k).cans = s.cans ∧ (s.setBk b k).streams = s.streams ∧ (s.setBk b k).ports = s.ports ∧
    (s.setBk b k).sents = s.sents ∧ (s.setBk b k).dma = s.dma ∧ (s.setBk b k).dmaTrigs = s.dmaTrigs ∧
    (s.setBk b k).ahead = s.ahead ∧ (s.setBk b k).strand = s.strand ∧ (s.setBk b k).supply = s.supply ∧
    (s.setBk b k).saf = s.saf ∧ (s.setBk b k).pending = s.pending ∧ (∀ a, (s.setBk b k).reg a = s.reg a) ∧
    (∀ f, (s.setBk b k).get f = s.get f) ∧ (∀ f, (s.setBk b k).is f = s.is f) ∧ (∀ f, (s.setBk b k).getI f = s.getI f) ∧
    (∀ i j, (s.setBk b k).hasTile i j = s.hasTile i j) ∧ (∀ i, (s.setBk b k).sh i = s.sh i) ∧
    (∀ i, (s.setBk b k).wp i = s.wp i) ∧ (∀ i, (s.setBk b k).wf i = s.wf i) ∧ (∀ i, (s.setBk b k).po i = s.po i) ∧
    (∀ i, (s.setBk b k).wm i = s.wm i) ∧ (∀ i, (s.setBk b k).sq i = s.sq i) ∧ (∀ i, (s.setBk b k).bst i = s.bst i) ∧
    (∀ i, (s.setBk b k).ch i = s.ch i) ∧ (∀ i, (s.setBk b k).can i = s.can i) ∧ (∀ i, (s.setBk b k).str i = s.str i) ∧
    (∀ i, (s.setBk b k).cmb i = s.cmb i) ∧ (∀ i, (s.setBk b k).port i = s.port i) ∧ (∀ i, (s.setBk b k).line i = s.line i) := by
  refine ⟨?_, ?_, ?_, ?_, ?_, ?_, ?_, ?_, ?_, ?_, ?_, ?_, ?_, ?_, ?_, ?_, ?_, ?_, ?_, ?_, ?_, ?_, ?_, ?_, ?_, ?_, ?_, ?_, ?_, ?_, ?_, ?_, ?_, ?_, ?_, ?_, ?_, ?_, ?_, ?_, ?_, ?_, ?_, ?_, ?_, ?_, ?_, ?_, ?_, ?_, ?_, ?_, ?_, ?_, ?_, ?_, ?_, ?_, ?_, ?_, ?_, ?_, ?_, ?_, ?_, ?_, ?_, ?_, ?_, ?_, ?_, ?_, ?_, ?_, ?_, ?_, ?_, ?_, ?_, ?_, ?_⟩ <;> first | rfl | exact fun _ => rfl | exact fun _ _ => rfl

@[simp] theorem State.setBst_rest (g : Nat) (k : Boost) :
    (s.setBst g k).now = s.now ∧ (s.setBst g k).fresh = s.fresh ∧ (s.setBst g k).power = s.power ∧
    (s.setBst g k).straps = s.straps ∧ (s.setBst g k).regs = s.regs ∧ (s.setBst g k).trace = s.trace ∧
    (s.setBst g k).work = s.work ∧ (s.setBst g k).recMem = s.recMem ∧ (s.setBst g k).ply0 = s.ply0 ∧
    (s.setBst g k).ply1 = s.ply1 ∧ (s.setBst g k).ply2 = s.ply2 ∧ (s.setBst g k).flash = s.flash ∧
    (s.setBst g k).ticks = s.ticks ∧ (s.setBst g k).reports = s.reports ∧ (s.setBst g k).mergeOpen = s.mergeOpen ∧
    (s.setBst g k).fifo = s.fifo ∧ (s.setBst g k).causes = s.causes ∧ (s.setBst g k).crossings = s.crossings ∧
    (s.setBst g k).gov = s.gov ∧ (s.setBst g k).weave = s.weave ∧ (s.setBst g k).primary = s.primary ∧
    (s.setBst g k).warps = s.warps ∧ (s.setBst g k).wefts = s.wefts ∧ (s.setBst g k).learn = s.learn ∧
    (s.setBst g k).shTok = s.shTok ∧ (s.setBst g k).bkTok = s.bkTok ∧ (s.setBst g k).pair = s.pair ∧
    (s.setBst g k).recJobs = s.recJobs ∧ (s.setBst g k).acc = s.acc ∧ (s.setBst g k).shuttles = s.shuttles ∧
    (s.setBst g k).seqTok = s.seqTok ∧ (s.setBst g k).pulseOuts = s.pulseOuts ∧ (s.setBst g k).banks = s.banks ∧
    (s.setBst g k).cmps = s.cmps ∧ (s.setBst g k).closures = s.closures ∧ (s.setBst g k).seqs = s.seqs ∧
    (s.setBst g k).slices = s.slices ∧ (s.setBst g k).rot = s.rot ∧ (s.setBst g k).inCal = s.inCal ∧
    (s.setBst g k).wmons = s.wmons ∧ (s.setBst g k).ptimers = s.ptimers ∧ (s.setBst g k).monTest = s.monTest ∧
    (s.setBst g k).cmbSig = s.cmbSig ∧ (s.setBst g k).pins = s.pins ∧ (s.setBst g k).combust = s.combust ∧
    (s.setBst g k).trimDue = s.trimDue ∧ (s.setBst g k).maps = s.maps ∧ (s.setBst g k).svc = s.svc ∧
    (s.setBst g k).rail = s.rail ∧ (s.setBst g k).ovs = s.ovs ∧ (s.setBst g k).selv = s.selv ∧
    (s.setBst g k).enumStart = s.enumStart ∧ (s.setBst g k).host = s.host ∧ (s.setBst g k).cans = s.cans ∧
    (s.setBst g k).streams = s.streams ∧ (s.setBst g k).ports = s.ports ∧ (s.setBst g k).sents = s.sents ∧
    (s.setBst g k).dma = s.dma ∧ (s.setBst g k).dmaTrigs = s.dmaTrigs ∧ (s.setBst g k).ahead = s.ahead ∧
    (s.setBst g k).strand = s.strand ∧ (s.setBst g k).supply = s.supply ∧ (s.setBst g k).saf = s.saf ∧
    (s.setBst g k).pending = s.pending ∧ (∀ a, (s.setBst g k).reg a = s.reg a) ∧ (∀ f, (s.setBst g k).get f = s.get f) ∧
    (∀ f, (s.setBst g k).is f = s.is f) ∧ (∀ f, (s.setBst g k).getI f = s.getI f) ∧
    (∀ i j, (s.setBst g k).hasTile i j = s.hasTile i j) ∧ (∀ i, (s.setBst g k).sh i = s.sh i) ∧
    (∀ i, (s.setBst g k).bk i = s.bk i) ∧ (∀ i, (s.setBst g k).wp i = s.wp i) ∧ (∀ i, (s.setBst g k).wf i = s.wf i) ∧
    (∀ i, (s.setBst g k).po i = s.po i) ∧ (∀ i, (s.setBst g k).wm i = s.wm i) ∧ (∀ i, (s.setBst g k).sq i = s.sq i) ∧
    (∀ i, (s.setBst g k).ch i = s.ch i) ∧ (∀ i, (s.setBst g k).can i = s.can i) ∧ (∀ i, (s.setBst g k).str i = s.str i) ∧
    (∀ i, (s.setBst g k).cmb i = s.cmb i) ∧ (∀ i, (s.setBst g k).port i = s.port i) ∧
    (∀ i, (s.setBst g k).line i = s.line i) := by
  refine ⟨?_, ?_, ?_, ?_, ?_, ?_, ?_, ?_, ?_, ?_, ?_, ?_, ?_, ?_, ?_, ?_, ?_, ?_, ?_, ?_, ?_, ?_, ?_, ?_, ?_, ?_, ?_, ?_, ?_, ?_, ?_, ?_, ?_, ?_, ?_, ?_, ?_, ?_, ?_, ?_, ?_, ?_, ?_, ?_, ?_, ?_, ?_, ?_, ?_, ?_, ?_, ?_, ?_, ?_, ?_, ?_, ?_, ?_, ?_, ?_, ?_, ?_, ?_, ?_, ?_, ?_, ?_, ?_, ?_, ?_, ?_, ?_, ?_, ?_, ?_, ?_, ?_, ?_, ?_, ?_, ?_, ?_⟩ <;> first | rfl | exact fun _ => rfl | exact fun _ _ => rfl

@[simp] theorem State.setCmb_rest (j : Nat) (k : Combust) :
    (s.setCmb j k).now = s.now ∧ (s.setCmb j k).fresh = s.fresh ∧ (s.setCmb j k).power = s.power ∧
    (s.setCmb j k).straps = s.straps ∧ (s.setCmb j k).regs = s.regs ∧ (s.setCmb j k).trace = s.trace ∧
    (s.setCmb j k).work = s.work ∧ (s.setCmb j k).recMem = s.recMem ∧ (s.setCmb j k).ply0 = s.ply0 ∧
    (s.setCmb j k).ply1 = s.ply1 ∧ (s.setCmb j k).ply2 = s.ply2 ∧ (s.setCmb j k).flash = s.flash ∧
    (s.setCmb j k).ticks = s.ticks ∧ (s.setCmb j k).reports = s.reports ∧ (s.setCmb j k).mergeOpen = s.mergeOpen ∧
    (s.setCmb j k).fifo = s.fifo ∧ (s.setCmb j k).causes = s.causes ∧ (s.setCmb j k).crossings = s.crossings ∧
    (s.setCmb j k).gov = s.gov ∧ (s.setCmb j k).weave = s.weave ∧ (s.setCmb j k).primary = s.primary ∧
    (s.setCmb j k).warps = s.warps ∧ (s.setCmb j k).wefts = s.wefts ∧ (s.setCmb j k).learn = s.learn ∧
    (s.setCmb j k).shTok = s.shTok ∧ (s.setCmb j k).bkTok = s.bkTok ∧ (s.setCmb j k).pair = s.pair ∧
    (s.setCmb j k).recJobs = s.recJobs ∧ (s.setCmb j k).acc = s.acc ∧ (s.setCmb j k).shuttles = s.shuttles ∧
    (s.setCmb j k).seqTok = s.seqTok ∧ (s.setCmb j k).pulseOuts = s.pulseOuts ∧ (s.setCmb j k).banks = s.banks ∧
    (s.setCmb j k).cmps = s.cmps ∧ (s.setCmb j k).boosts = s.boosts ∧ (s.setCmb j k).closures = s.closures ∧
    (s.setCmb j k).seqs = s.seqs ∧ (s.setCmb j k).slices = s.slices ∧ (s.setCmb j k).rot = s.rot ∧
    (s.setCmb j k).inCal = s.inCal ∧ (s.setCmb j k).wmons = s.wmons ∧ (s.setCmb j k).ptimers = s.ptimers ∧
    (s.setCmb j k).monTest = s.monTest ∧ (s.setCmb j k).cmbSig = s.cmbSig ∧ (s.setCmb j k).pins = s.pins ∧
    (s.setCmb j k).trimDue = s.trimDue ∧ (s.setCmb j k).maps = s.maps ∧ (s.setCmb j k).svc = s.svc ∧
    (s.setCmb j k).rail = s.rail ∧ (s.setCmb j k).ovs = s.ovs ∧ (s.setCmb j k).selv = s.selv ∧
    (s.setCmb j k).enumStart = s.enumStart ∧ (s.setCmb j k).host = s.host ∧ (s.setCmb j k).cans = s.cans ∧
    (s.setCmb j k).streams = s.streams ∧ (s.setCmb j k).ports = s.ports ∧ (s.setCmb j k).sents = s.sents ∧
    (s.setCmb j k).dma = s.dma ∧ (s.setCmb j k).dmaTrigs = s.dmaTrigs ∧ (s.setCmb j k).ahead = s.ahead ∧
    (s.setCmb j k).strand = s.strand ∧ (s.setCmb j k).supply = s.supply ∧ (s.setCmb j k).saf = s.saf ∧
    (s.setCmb j k).pending = s.pending ∧ (∀ a, (s.setCmb j k).reg a = s.reg a) ∧ (∀ f, (s.setCmb j k).get f = s.get f) ∧
    (∀ f, (s.setCmb j k).is f = s.is f) ∧ (∀ f, (s.setCmb j k).getI f = s.getI f) ∧
    (∀ i j, (s.setCmb j k).hasTile i j = s.hasTile i j) ∧ (∀ i, (s.setCmb j k).sh i = s.sh i) ∧
    (∀ i, (s.setCmb j k).bk i = s.bk i) ∧ (∀ i, (s.setCmb j k).wp i = s.wp i) ∧ (∀ i, (s.setCmb j k).wf i = s.wf i) ∧
    (∀ i, (s.setCmb j k).po i = s.po i) ∧ (∀ i, (s.setCmb j k).wm i = s.wm i) ∧ (∀ i, (s.setCmb j k).sq i = s.sq i) ∧
    (∀ i, (s.setCmb j k).bst i = s.bst i) ∧ (∀ i, (s.setCmb j k).ch i = s.ch i) ∧ (∀ i, (s.setCmb j k).can i = s.can i) ∧
    (∀ i, (s.setCmb j k).str i = s.str i) ∧ (∀ i, (s.setCmb j k).port i = s.port i) ∧
    (∀ i, (s.setCmb j k).line i = s.line i) := by
  refine ⟨?_, ?_, ?_, ?_, ?_, ?_, ?_, ?_, ?_, ?_, ?_, ?_, ?_, ?_, ?_, ?_, ?_, ?_, ?_, ?_, ?_, ?_, ?_, ?_, ?_, ?_, ?_, ?_, ?_, ?_, ?_, ?_, ?_, ?_, ?_, ?_, ?_, ?_, ?_, ?_, ?_, ?_, ?_, ?_, ?_, ?_, ?_, ?_, ?_, ?_, ?_, ?_, ?_, ?_, ?_, ?_, ?_, ?_, ?_, ?_, ?_, ?_, ?_, ?_, ?_, ?_, ?_, ?_, ?_, ?_, ?_, ?_, ?_, ?_, ?_, ?_, ?_, ?_, ?_, ?_, ?_, ?_⟩ <;> first | rfl | exact fun _ => rfl | exact fun _ _ => rfl

@[simp] theorem State.setStr_rest (n : Nat) (k : Stream) :
    (s.setStr n k).now = s.now ∧ (s.setStr n k).fresh = s.fresh ∧ (s.setStr n k).power = s.power ∧
    (s.setStr n k).straps = s.straps ∧ (s.setStr n k).regs = s.regs ∧ (s.setStr n k).trace = s.trace ∧
    (s.setStr n k).work = s.work ∧ (s.setStr n k).recMem = s.recMem ∧ (s.setStr n k).ply0 = s.ply0 ∧
    (s.setStr n k).ply1 = s.ply1 ∧ (s.setStr n k).ply2 = s.ply2 ∧ (s.setStr n k).flash = s.flash ∧
    (s.setStr n k).ticks = s.ticks ∧ (s.setStr n k).reports = s.reports ∧ (s.setStr n k).mergeOpen = s.mergeOpen ∧
    (s.setStr n k).fifo = s.fifo ∧ (s.setStr n k).causes = s.causes ∧ (s.setStr n k).crossings = s.crossings ∧
    (s.setStr n k).gov = s.gov ∧ (s.setStr n k).weave = s.weave ∧ (s.setStr n k).primary = s.primary ∧
    (s.setStr n k).warps = s.warps ∧ (s.setStr n k).wefts = s.wefts ∧ (s.setStr n k).learn = s.learn ∧
    (s.setStr n k).shTok = s.shTok ∧ (s.setStr n k).bkTok = s.bkTok ∧ (s.setStr n k).pair = s.pair ∧
    (s.setStr n k).recJobs = s.recJobs ∧ (s.setStr n k).acc = s.acc ∧ (s.setStr n k).shuttles = s.shuttles ∧
    (s.setStr n k).seqTok = s.seqTok ∧ (s.setStr n k).pulseOuts = s.pulseOuts ∧ (s.setStr n k).banks = s.banks ∧
    (s.setStr n k).cmps = s.cmps ∧ (s.setStr n k).boosts = s.boosts ∧ (s.setStr n k).closures = s.closures ∧
    (s.setStr n k).seqs = s.seqs ∧ (s.setStr n k).slices = s.slices ∧ (s.setStr n k).rot = s.rot ∧
    (s.setStr n k).inCal = s.inCal ∧ (s.setStr n k).wmons = s.wmons ∧ (s.setStr n k).ptimers = s.ptimers ∧
    (s.setStr n k).monTest = s.monTest ∧ (s.setStr n k).cmbSig = s.cmbSig ∧ (s.setStr n k).pins = s.pins ∧
    (s.setStr n k).combust = s.combust ∧ (s.setStr n k).trimDue = s.trimDue ∧ (s.setStr n k).maps = s.maps ∧
    (s.setStr n k).svc = s.svc ∧ (s.setStr n k).rail = s.rail ∧ (s.setStr n k).ovs = s.ovs ∧
    (s.setStr n k).selv = s.selv ∧ (s.setStr n k).enumStart = s.enumStart ∧ (s.setStr n k).host = s.host ∧
    (s.setStr n k).cans = s.cans ∧ (s.setStr n k).ports = s.ports ∧ (s.setStr n k).sents = s.sents ∧
    (s.setStr n k).dma = s.dma ∧ (s.setStr n k).dmaTrigs = s.dmaTrigs ∧ (s.setStr n k).ahead = s.ahead ∧
    (s.setStr n k).strand = s.strand ∧ (s.setStr n k).supply = s.supply ∧ (s.setStr n k).saf = s.saf ∧
    (s.setStr n k).pending = s.pending ∧ (∀ a, (s.setStr n k).reg a = s.reg a) ∧ (∀ f, (s.setStr n k).get f = s.get f) ∧
    (∀ f, (s.setStr n k).is f = s.is f) ∧ (∀ f, (s.setStr n k).getI f = s.getI f) ∧
    (∀ i j, (s.setStr n k).hasTile i j = s.hasTile i j) ∧ (∀ i, (s.setStr n k).sh i = s.sh i) ∧
    (∀ i, (s.setStr n k).bk i = s.bk i) ∧ (∀ i, (s.setStr n k).wp i = s.wp i) ∧ (∀ i, (s.setStr n k).wf i = s.wf i) ∧
    (∀ i, (s.setStr n k).po i = s.po i) ∧ (∀ i, (s.setStr n k).wm i = s.wm i) ∧ (∀ i, (s.setStr n k).sq i = s.sq i) ∧
    (∀ i, (s.setStr n k).bst i = s.bst i) ∧ (∀ i, (s.setStr n k).ch i = s.ch i) ∧ (∀ i, (s.setStr n k).can i = s.can i) ∧
    (∀ i, (s.setStr n k).cmb i = s.cmb i) ∧ (∀ i, (s.setStr n k).port i = s.port i) ∧
    (∀ i, (s.setStr n k).line i = s.line i) := by
  refine ⟨?_, ?_, ?_, ?_, ?_, ?_, ?_, ?_, ?_, ?_, ?_, ?_, ?_, ?_, ?_, ?_, ?_, ?_, ?_, ?_, ?_, ?_, ?_, ?_, ?_, ?_, ?_, ?_, ?_, ?_, ?_, ?_, ?_, ?_, ?_, ?_, ?_, ?_, ?_, ?_, ?_, ?_, ?_, ?_, ?_, ?_, ?_, ?_, ?_, ?_, ?_, ?_, ?_, ?_, ?_, ?_, ?_, ?_, ?_, ?_, ?_, ?_, ?_, ?_, ?_, ?_, ?_, ?_, ?_, ?_, ?_, ?_, ?_, ?_, ?_, ?_, ?_, ?_, ?_, ?_, ?_, ?_⟩ <;> first | rfl | exact fun _ => rfl | exact fun _ _ => rfl

@[simp] theorem State.setCh_rest (c : Nat) (k : DmaChan) :
    (s.setCh c k).now = s.now ∧ (s.setCh c k).fresh = s.fresh ∧ (s.setCh c k).power = s.power ∧
    (s.setCh c k).straps = s.straps ∧ (s.setCh c k).regs = s.regs ∧ (s.setCh c k).trace = s.trace ∧
    (s.setCh c k).work = s.work ∧ (s.setCh c k).recMem = s.recMem ∧ (s.setCh c k).ply0 = s.ply0 ∧
    (s.setCh c k).ply1 = s.ply1 ∧ (s.setCh c k).ply2 = s.ply2 ∧ (s.setCh c k).flash = s.flash ∧
    (s.setCh c k).ticks = s.ticks ∧ (s.setCh c k).reports = s.reports ∧ (s.setCh c k).mergeOpen = s.mergeOpen ∧
    (s.setCh c k).fifo = s.fifo ∧ (s.setCh c k).causes = s.causes ∧ (s.setCh c k).crossings = s.crossings ∧
    (s.setCh c k).gov = s.gov ∧ (s.setCh c k).weave = s.weave ∧ (s.setCh c k).primary = s.primary ∧
    (s.setCh c k).warps = s.warps ∧ (s.setCh c k).wefts = s.wefts ∧ (s.setCh c k).learn = s.learn ∧
    (s.setCh c k).shTok = s.shTok ∧ (s.setCh c k).bkTok = s.bkTok ∧ (s.setCh c k).pair = s.pair ∧
    (s.setCh c k).recJobs = s.recJobs ∧ (s.setCh c k).acc = s.acc ∧ (s.setCh c k).shuttles = s.shuttles ∧
    (s.setCh c k).seqTok = s.seqTok ∧ (s.setCh c k).pulseOuts = s.pulseOuts ∧ (s.setCh c k).banks = s.banks ∧
    (s.setCh c k).cmps = s.cmps ∧ (s.setCh c k).boosts = s.boosts ∧ (s.setCh c k).closures = s.closures ∧
    (s.setCh c k).seqs = s.seqs ∧ (s.setCh c k).slices = s.slices ∧ (s.setCh c k).rot = s.rot ∧
    (s.setCh c k).inCal = s.inCal ∧ (s.setCh c k).wmons = s.wmons ∧ (s.setCh c k).ptimers = s.ptimers ∧
    (s.setCh c k).monTest = s.monTest ∧ (s.setCh c k).cmbSig = s.cmbSig ∧ (s.setCh c k).pins = s.pins ∧
    (s.setCh c k).combust = s.combust ∧ (s.setCh c k).trimDue = s.trimDue ∧ (s.setCh c k).maps = s.maps ∧
    (s.setCh c k).svc = s.svc ∧ (s.setCh c k).rail = s.rail ∧ (s.setCh c k).ovs = s.ovs ∧ (s.setCh c k).selv = s.selv ∧
    (s.setCh c k).enumStart = s.enumStart ∧ (s.setCh c k).host = s.host ∧ (s.setCh c k).cans = s.cans ∧
    (s.setCh c k).streams = s.streams ∧ (s.setCh c k).ports = s.ports ∧ (s.setCh c k).sents = s.sents ∧
    (s.setCh c k).dmaTrigs = s.dmaTrigs ∧ (s.setCh c k).ahead = s.ahead ∧ (s.setCh c k).strand = s.strand ∧
    (s.setCh c k).supply = s.supply ∧ (s.setCh c k).saf = s.saf ∧ (s.setCh c k).pending = s.pending ∧
    (∀ a, (s.setCh c k).reg a = s.reg a) ∧ (∀ f, (s.setCh c k).get f = s.get f) ∧ (∀ f, (s.setCh c k).is f = s.is f) ∧
    (∀ f, (s.setCh c k).getI f = s.getI f) ∧ (∀ i j, (s.setCh c k).hasTile i j = s.hasTile i j) ∧
    (∀ i, (s.setCh c k).sh i = s.sh i) ∧ (∀ i, (s.setCh c k).bk i = s.bk i) ∧ (∀ i, (s.setCh c k).wp i = s.wp i) ∧
    (∀ i, (s.setCh c k).wf i = s.wf i) ∧ (∀ i, (s.setCh c k).po i = s.po i) ∧ (∀ i, (s.setCh c k).wm i = s.wm i) ∧
    (∀ i, (s.setCh c k).sq i = s.sq i) ∧ (∀ i, (s.setCh c k).bst i = s.bst i) ∧ (∀ i, (s.setCh c k).can i = s.can i) ∧
    (∀ i, (s.setCh c k).str i = s.str i) ∧ (∀ i, (s.setCh c k).cmb i = s.cmb i) ∧
    (∀ i, (s.setCh c k).port i = s.port i) ∧ (∀ i, (s.setCh c k).line i = s.line i) := by
  refine ⟨?_, ?_, ?_, ?_, ?_, ?_, ?_, ?_, ?_, ?_, ?_, ?_, ?_, ?_, ?_, ?_, ?_, ?_, ?_, ?_, ?_, ?_, ?_, ?_, ?_, ?_, ?_, ?_, ?_, ?_, ?_, ?_, ?_, ?_, ?_, ?_, ?_, ?_, ?_, ?_, ?_, ?_, ?_, ?_, ?_, ?_, ?_, ?_, ?_, ?_, ?_, ?_, ?_, ?_, ?_, ?_, ?_, ?_, ?_, ?_, ?_, ?_, ?_, ?_, ?_, ?_, ?_, ?_, ?_, ?_, ?_, ?_, ?_, ?_, ?_, ?_, ?_, ?_, ?_, ?_, ?_, ?_⟩ <;> first | rfl | exact fun _ => rfl | exact fun _ _ => rfl

@[simp] theorem State.setSq_rest (n : Nat) (k : Sequencer) :
    (s.setSq n k).now = s.now ∧ (s.setSq n k).fresh = s.fresh ∧ (s.setSq n k).power = s.power ∧
    (s.setSq n k).straps = s.straps ∧ (s.setSq n k).regs = s.regs ∧ (s.setSq n k).trace = s.trace ∧
    (s.setSq n k).work = s.work ∧ (s.setSq n k).recMem = s.recMem ∧ (s.setSq n k).ply0 = s.ply0 ∧
    (s.setSq n k).ply1 = s.ply1 ∧ (s.setSq n k).ply2 = s.ply2 ∧ (s.setSq n k).flash = s.flash ∧
    (s.setSq n k).ticks = s.ticks ∧ (s.setSq n k).reports = s.reports ∧ (s.setSq n k).mergeOpen = s.mergeOpen ∧
    (s.setSq n k).fifo = s.fifo ∧ (s.setSq n k).causes = s.causes ∧ (s.setSq n k).crossings = s.crossings ∧
    (s.setSq n k).gov = s.gov ∧ (s.setSq n k).weave = s.weave ∧ (s.setSq n k).primary = s.primary ∧
    (s.setSq n k).warps = s.warps ∧ (s.setSq n k).wefts = s.wefts ∧ (s.setSq n k).learn = s.learn ∧
    (s.setSq n k).shTok = s.shTok ∧ (s.setSq n k).bkTok = s.bkTok ∧ (s.setSq n k).pair = s.pair ∧
    (s.setSq n k).recJobs = s.recJobs ∧ (s.setSq n k).acc = s.acc ∧ (s.setSq n k).shuttles = s.shuttles ∧
    (s.setSq n k).seqTok = s.seqTok ∧ (s.setSq n k).pulseOuts = s.pulseOuts ∧ (s.setSq n k).banks = s.banks ∧
    (s.setSq n k).cmps = s.cmps ∧ (s.setSq n k).boosts = s.boosts ∧ (s.setSq n k).closures = s.closures ∧
    (s.setSq n k).slices = s.slices ∧ (s.setSq n k).rot = s.rot ∧ (s.setSq n k).inCal = s.inCal ∧
    (s.setSq n k).wmons = s.wmons ∧ (s.setSq n k).ptimers = s.ptimers ∧ (s.setSq n k).monTest = s.monTest ∧
    (s.setSq n k).cmbSig = s.cmbSig ∧ (s.setSq n k).pins = s.pins ∧ (s.setSq n k).combust = s.combust ∧
    (s.setSq n k).trimDue = s.trimDue ∧ (s.setSq n k).maps = s.maps ∧ (s.setSq n k).svc = s.svc ∧
    (s.setSq n k).rail = s.rail ∧ (s.setSq n k).ovs = s.ovs ∧ (s.setSq n k).selv = s.selv ∧
    (s.setSq n k).enumStart = s.enumStart ∧ (s.setSq n k).host = s.host ∧ (s.setSq n k).cans = s.cans ∧
    (s.setSq n k).streams = s.streams ∧ (s.setSq n k).ports = s.ports ∧ (s.setSq n k).sents = s.sents ∧
    (s.setSq n k).dma = s.dma ∧ (s.setSq n k).dmaTrigs = s.dmaTrigs ∧ (s.setSq n k).ahead = s.ahead ∧
    (s.setSq n k).strand = s.strand ∧ (s.setSq n k).supply = s.supply ∧ (s.setSq n k).saf = s.saf ∧
    (s.setSq n k).pending = s.pending ∧ (∀ a, (s.setSq n k).reg a = s.reg a) ∧ (∀ f, (s.setSq n k).get f = s.get f) ∧
    (∀ f, (s.setSq n k).is f = s.is f) ∧ (∀ f, (s.setSq n k).getI f = s.getI f) ∧
    (∀ i j, (s.setSq n k).hasTile i j = s.hasTile i j) ∧ (∀ i, (s.setSq n k).sh i = s.sh i) ∧
    (∀ i, (s.setSq n k).bk i = s.bk i) ∧ (∀ i, (s.setSq n k).wp i = s.wp i) ∧ (∀ i, (s.setSq n k).wf i = s.wf i) ∧
    (∀ i, (s.setSq n k).po i = s.po i) ∧ (∀ i, (s.setSq n k).wm i = s.wm i) ∧ (∀ i, (s.setSq n k).bst i = s.bst i) ∧
    (∀ i, (s.setSq n k).ch i = s.ch i) ∧ (∀ i, (s.setSq n k).can i = s.can i) ∧ (∀ i, (s.setSq n k).str i = s.str i) ∧
    (∀ i, (s.setSq n k).cmb i = s.cmb i) ∧ (∀ i, (s.setSq n k).port i = s.port i) ∧ (∀ i, (s.setSq n k).line i = s.line i) := by
  refine ⟨?_, ?_, ?_, ?_, ?_, ?_, ?_, ?_, ?_, ?_, ?_, ?_, ?_, ?_, ?_, ?_, ?_, ?_, ?_, ?_, ?_, ?_, ?_, ?_, ?_, ?_, ?_, ?_, ?_, ?_, ?_, ?_, ?_, ?_, ?_, ?_, ?_, ?_, ?_, ?_, ?_, ?_, ?_, ?_, ?_, ?_, ?_, ?_, ?_, ?_, ?_, ?_, ?_, ?_, ?_, ?_, ?_, ?_, ?_, ?_, ?_, ?_, ?_, ?_, ?_, ?_, ?_, ?_, ?_, ?_, ?_, ?_, ?_, ?_, ?_, ?_, ?_, ?_, ?_, ?_, ?_, ?_⟩ <;> first | rfl | exact fun _ => rfl | exact fun _ _ => rfl

@[simp] theorem State.setPt_rest (p : Nat) (k : PTimer) :
    (s.setPt p k).now = s.now ∧ (s.setPt p k).fresh = s.fresh ∧ (s.setPt p k).power = s.power ∧
    (s.setPt p k).straps = s.straps ∧ (s.setPt p k).regs = s.regs ∧ (s.setPt p k).trace = s.trace ∧
    (s.setPt p k).work = s.work ∧ (s.setPt p k).recMem = s.recMem ∧ (s.setPt p k).ply0 = s.ply0 ∧
    (s.setPt p k).ply1 = s.ply1 ∧ (s.setPt p k).ply2 = s.ply2 ∧ (s.setPt p k).flash = s.flash ∧
    (s.setPt p k).ticks = s.ticks ∧ (s.setPt p k).reports = s.reports ∧ (s.setPt p k).mergeOpen = s.mergeOpen ∧
    (s.setPt p k).fifo = s.fifo ∧ (s.setPt p k).causes = s.causes ∧ (s.setPt p k).crossings = s.crossings ∧
    (s.setPt p k).gov = s.gov ∧ (s.setPt p k).weave = s.weave ∧ (s.setPt p k).primary = s.primary ∧
    (s.setPt p k).warps = s.warps ∧ (s.setPt p k).wefts = s.wefts ∧ (s.setPt p k).learn = s.learn ∧
    (s.setPt p k).shTok = s.shTok ∧ (s.setPt p k).bkTok = s.bkTok ∧ (s.setPt p k).pair = s.pair ∧
    (s.setPt p k).recJobs = s.recJobs ∧ (s.setPt p k).acc = s.acc ∧ (s.setPt p k).shuttles = s.shuttles ∧
    (s.setPt p k).seqTok = s.seqTok ∧ (s.setPt p k).pulseOuts = s.pulseOuts ∧ (s.setPt p k).banks = s.banks ∧
    (s.setPt p k).cmps = s.cmps ∧ (s.setPt p k).boosts = s.boosts ∧ (s.setPt p k).closures = s.closures ∧
    (s.setPt p k).seqs = s.seqs ∧ (s.setPt p k).slices = s.slices ∧ (s.setPt p k).rot = s.rot ∧
    (s.setPt p k).inCal = s.inCal ∧ (s.setPt p k).wmons = s.wmons ∧ (s.setPt p k).monTest = s.monTest ∧
    (s.setPt p k).cmbSig = s.cmbSig ∧ (s.setPt p k).pins = s.pins ∧ (s.setPt p k).combust = s.combust ∧
    (s.setPt p k).trimDue = s.trimDue ∧ (s.setPt p k).maps = s.maps ∧ (s.setPt p k).svc = s.svc ∧
    (s.setPt p k).rail = s.rail ∧ (s.setPt p k).ovs = s.ovs ∧ (s.setPt p k).selv = s.selv ∧
    (s.setPt p k).enumStart = s.enumStart ∧ (s.setPt p k).host = s.host ∧ (s.setPt p k).cans = s.cans ∧
    (s.setPt p k).streams = s.streams ∧ (s.setPt p k).ports = s.ports ∧ (s.setPt p k).sents = s.sents ∧
    (s.setPt p k).dma = s.dma ∧ (s.setPt p k).dmaTrigs = s.dmaTrigs ∧ (s.setPt p k).ahead = s.ahead ∧
    (s.setPt p k).strand = s.strand ∧ (s.setPt p k).supply = s.supply ∧ (s.setPt p k).saf = s.saf ∧
    (s.setPt p k).pending = s.pending ∧ (∀ a, (s.setPt p k).reg a = s.reg a) ∧ (∀ f, (s.setPt p k).get f = s.get f) ∧
    (∀ f, (s.setPt p k).is f = s.is f) ∧ (∀ f, (s.setPt p k).getI f = s.getI f) ∧
    (∀ i j, (s.setPt p k).hasTile i j = s.hasTile i j) ∧ (∀ i, (s.setPt p k).sh i = s.sh i) ∧
    (∀ i, (s.setPt p k).bk i = s.bk i) ∧ (∀ i, (s.setPt p k).wp i = s.wp i) ∧ (∀ i, (s.setPt p k).wf i = s.wf i) ∧
    (∀ i, (s.setPt p k).po i = s.po i) ∧ (∀ i, (s.setPt p k).wm i = s.wm i) ∧ (∀ i, (s.setPt p k).sq i = s.sq i) ∧
    (∀ i, (s.setPt p k).bst i = s.bst i) ∧ (∀ i, (s.setPt p k).ch i = s.ch i) ∧ (∀ i, (s.setPt p k).can i = s.can i) ∧
    (∀ i, (s.setPt p k).str i = s.str i) ∧ (∀ i, (s.setPt p k).cmb i = s.cmb i) ∧
    (∀ i, (s.setPt p k).port i = s.port i) ∧ (∀ i, (s.setPt p k).line i = s.line i) := by
  refine ⟨?_, ?_, ?_, ?_, ?_, ?_, ?_, ?_, ?_, ?_, ?_, ?_, ?_, ?_, ?_, ?_, ?_, ?_, ?_, ?_, ?_, ?_, ?_, ?_, ?_, ?_, ?_, ?_, ?_, ?_, ?_, ?_, ?_, ?_, ?_, ?_, ?_, ?_, ?_, ?_, ?_, ?_, ?_, ?_, ?_, ?_, ?_, ?_, ?_, ?_, ?_, ?_, ?_, ?_, ?_, ?_, ?_, ?_, ?_, ?_, ?_, ?_, ?_, ?_, ?_, ?_, ?_, ?_, ?_, ?_, ?_, ?_, ?_, ?_, ?_, ?_, ?_, ?_, ?_, ?_, ?_, ?_, ?_⟩ <;> first | rfl | exact fun _ => rfl | exact fun _ _ => rfl

@[simp] theorem State.setLine_rest (l : Nat) (k : SelvLine) :
    (s.setLine l k).now = s.now ∧ (s.setLine l k).fresh = s.fresh ∧ (s.setLine l k).power = s.power ∧
    (s.setLine l k).straps = s.straps ∧ (s.setLine l k).regs = s.regs ∧ (s.setLine l k).trace = s.trace ∧
    (s.setLine l k).work = s.work ∧ (s.setLine l k).recMem = s.recMem ∧ (s.setLine l k).ply0 = s.ply0 ∧
    (s.setLine l k).ply1 = s.ply1 ∧ (s.setLine l k).ply2 = s.ply2 ∧ (s.setLine l k).flash = s.flash ∧
    (s.setLine l k).ticks = s.ticks ∧ (s.setLine l k).reports = s.reports ∧ (s.setLine l k).mergeOpen = s.mergeOpen ∧
    (s.setLine l k).fifo = s.fifo ∧ (s.setLine l k).causes = s.causes ∧ (s.setLine l k).crossings = s.crossings ∧
    (s.setLine l k).gov = s.gov ∧ (s.setLine l k).weave = s.weave ∧ (s.setLine l k).primary = s.primary ∧
    (s.setLine l k).warps = s.warps ∧ (s.setLine l k).wefts = s.wefts ∧ (s.setLine l k).learn = s.learn ∧
    (s.setLine l k).shTok = s.shTok ∧ (s.setLine l k).bkTok = s.bkTok ∧ (s.setLine l k).pair = s.pair ∧
    (s.setLine l k).recJobs = s.recJobs ∧ (s.setLine l k).acc = s.acc ∧ (s.setLine l k).shuttles = s.shuttles ∧
    (s.setLine l k).seqTok = s.seqTok ∧ (s.setLine l k).pulseOuts = s.pulseOuts ∧ (s.setLine l k).banks = s.banks ∧
    (s.setLine l k).cmps = s.cmps ∧ (s.setLine l k).boosts = s.boosts ∧ (s.setLine l k).closures = s.closures ∧
    (s.setLine l k).seqs = s.seqs ∧ (s.setLine l k).slices = s.slices ∧ (s.setLine l k).rot = s.rot ∧
    (s.setLine l k).inCal = s.inCal ∧ (s.setLine l k).wmons = s.wmons ∧ (s.setLine l k).ptimers = s.ptimers ∧
    (s.setLine l k).monTest = s.monTest ∧ (s.setLine l k).cmbSig = s.cmbSig ∧ (s.setLine l k).pins = s.pins ∧
    (s.setLine l k).combust = s.combust ∧ (s.setLine l k).trimDue = s.trimDue ∧ (s.setLine l k).maps = s.maps ∧
    (s.setLine l k).svc = s.svc ∧ (s.setLine l k).rail = s.rail ∧ (s.setLine l k).ovs = s.ovs ∧
    (s.setLine l k).enumStart = s.enumStart ∧ (s.setLine l k).host = s.host ∧ (s.setLine l k).cans = s.cans ∧
    (s.setLine l k).streams = s.streams ∧ (s.setLine l k).ports = s.ports ∧ (s.setLine l k).sents = s.sents ∧
    (s.setLine l k).dma = s.dma ∧ (s.setLine l k).dmaTrigs = s.dmaTrigs ∧ (s.setLine l k).ahead = s.ahead ∧
    (s.setLine l k).strand = s.strand ∧ (s.setLine l k).supply = s.supply ∧ (s.setLine l k).saf = s.saf ∧
    (s.setLine l k).pending = s.pending ∧ (∀ a, (s.setLine l k).reg a = s.reg a) ∧
    (∀ f, (s.setLine l k).get f = s.get f) ∧ (∀ f, (s.setLine l k).is f = s.is f) ∧
    (∀ f, (s.setLine l k).getI f = s.getI f) ∧ (∀ i j, (s.setLine l k).hasTile i j = s.hasTile i j) ∧
    (∀ i, (s.setLine l k).sh i = s.sh i) ∧ (∀ i, (s.setLine l k).bk i = s.bk i) ∧ (∀ i, (s.setLine l k).wp i = s.wp i) ∧
    (∀ i, (s.setLine l k).wf i = s.wf i) ∧ (∀ i, (s.setLine l k).po i = s.po i) ∧ (∀ i, (s.setLine l k).wm i = s.wm i) ∧
    (∀ i, (s.setLine l k).sq i = s.sq i) ∧ (∀ i, (s.setLine l k).bst i = s.bst i) ∧
    (∀ i, (s.setLine l k).ch i = s.ch i) ∧ (∀ i, (s.setLine l k).can i = s.can i) ∧
    (∀ i, (s.setLine l k).str i = s.str i) ∧ (∀ i, (s.setLine l k).cmb i = s.cmb i) ∧
    (∀ i, (s.setLine l k).port i = s.port i) := by
  refine ⟨?_, ?_, ?_, ?_, ?_, ?_, ?_, ?_, ?_, ?_, ?_, ?_, ?_, ?_, ?_, ?_, ?_, ?_, ?_, ?_, ?_, ?_, ?_, ?_, ?_, ?_, ?_, ?_, ?_, ?_, ?_, ?_, ?_, ?_, ?_, ?_, ?_, ?_, ?_, ?_, ?_, ?_, ?_, ?_, ?_, ?_, ?_, ?_, ?_, ?_, ?_, ?_, ?_, ?_, ?_, ?_, ?_, ?_, ?_, ?_, ?_, ?_, ?_, ?_, ?_, ?_, ?_, ?_, ?_, ?_, ?_, ?_, ?_, ?_, ?_, ?_, ?_, ?_, ?_, ?_, ?_, ?_⟩ <;> first | rfl | exact fun _ => rfl | exact fun _ _ => rfl

@[simp] theorem State.setCan_rest (c : Nat) (k : Can) :
    (s.setCan c k).now = s.now ∧ (s.setCan c k).fresh = s.fresh ∧ (s.setCan c k).power = s.power ∧
    (s.setCan c k).straps = s.straps ∧ (s.setCan c k).regs = s.regs ∧ (s.setCan c k).trace = s.trace ∧
    (s.setCan c k).work = s.work ∧ (s.setCan c k).recMem = s.recMem ∧ (s.setCan c k).ply0 = s.ply0 ∧
    (s.setCan c k).ply1 = s.ply1 ∧ (s.setCan c k).ply2 = s.ply2 ∧ (s.setCan c k).flash = s.flash ∧
    (s.setCan c k).ticks = s.ticks ∧ (s.setCan c k).reports = s.reports ∧ (s.setCan c k).mergeOpen = s.mergeOpen ∧
    (s.setCan c k).fifo = s.fifo ∧ (s.setCan c k).causes = s.causes ∧ (s.setCan c k).crossings = s.crossings ∧
    (s.setCan c k).gov = s.gov ∧ (s.setCan c k).weave = s.weave ∧ (s.setCan c k).primary = s.primary ∧
    (s.setCan c k).warps = s.warps ∧ (s.setCan c k).wefts = s.wefts ∧ (s.setCan c k).learn = s.learn ∧
    (s.setCan c k).shTok = s.shTok ∧ (s.setCan c k).bkTok = s.bkTok ∧ (s.setCan c k).pair = s.pair ∧
    (s.setCan c k).recJobs = s.recJobs ∧ (s.setCan c k).acc = s.acc ∧ (s.setCan c k).shuttles = s.shuttles ∧
    (s.setCan c k).seqTok = s.seqTok ∧ (s.setCan c k).pulseOuts = s.pulseOuts ∧ (s.setCan c k).banks = s.banks ∧
    (s.setCan c k).cmps = s.cmps ∧ (s.setCan c k).boosts = s.boosts ∧ (s.setCan c k).closures = s.closures ∧
    (s.setCan c k).seqs = s.seqs ∧ (s.setCan c k).slices = s.slices ∧ (s.setCan c k).rot = s.rot ∧
    (s.setCan c k).inCal = s.inCal ∧ (s.setCan c k).wmons = s.wmons ∧ (s.setCan c k).ptimers = s.ptimers ∧
    (s.setCan c k).monTest = s.monTest ∧ (s.setCan c k).cmbSig = s.cmbSig ∧ (s.setCan c k).pins = s.pins ∧
    (s.setCan c k).combust = s.combust ∧ (s.setCan c k).trimDue = s.trimDue ∧ (s.setCan c k).maps = s.maps ∧
    (s.setCan c k).svc = s.svc ∧ (s.setCan c k).rail = s.rail ∧ (s.setCan c k).ovs = s.ovs ∧
    (s.setCan c k).selv = s.selv ∧ (s.setCan c k).enumStart = s.enumStart ∧ (s.setCan c k).host = s.host ∧
    (s.setCan c k).streams = s.streams ∧ (s.setCan c k).ports = s.ports ∧ (s.setCan c k).sents = s.sents ∧
    (s.setCan c k).dma = s.dma ∧ (s.setCan c k).dmaTrigs = s.dmaTrigs ∧ (s.setCan c k).ahead = s.ahead ∧
    (s.setCan c k).strand = s.strand ∧ (s.setCan c k).supply = s.supply ∧ (s.setCan c k).saf = s.saf ∧
    (s.setCan c k).pending = s.pending ∧ (∀ a, (s.setCan c k).reg a = s.reg a) ∧ (∀ f, (s.setCan c k).get f = s.get f) ∧
    (∀ f, (s.setCan c k).is f = s.is f) ∧ (∀ f, (s.setCan c k).getI f = s.getI f) ∧
    (∀ i j, (s.setCan c k).hasTile i j = s.hasTile i j) ∧ (∀ i, (s.setCan c k).sh i = s.sh i) ∧
    (∀ i, (s.setCan c k).bk i = s.bk i) ∧ (∀ i, (s.setCan c k).wp i = s.wp i) ∧ (∀ i, (s.setCan c k).wf i = s.wf i) ∧
    (∀ i, (s.setCan c k).po i = s.po i) ∧ (∀ i, (s.setCan c k).wm i = s.wm i) ∧ (∀ i, (s.setCan c k).sq i = s.sq i) ∧
    (∀ i, (s.setCan c k).bst i = s.bst i) ∧ (∀ i, (s.setCan c k).ch i = s.ch i) ∧ (∀ i, (s.setCan c k).str i = s.str i) ∧
    (∀ i, (s.setCan c k).cmb i = s.cmb i) ∧ (∀ i, (s.setCan c k).port i = s.port i) ∧
    (∀ i, (s.setCan c k).line i = s.line i) := by
  refine ⟨?_, ?_, ?_, ?_, ?_, ?_, ?_, ?_, ?_, ?_, ?_, ?_, ?_, ?_, ?_, ?_, ?_, ?_, ?_, ?_, ?_, ?_, ?_, ?_, ?_, ?_, ?_, ?_, ?_, ?_, ?_, ?_, ?_, ?_, ?_, ?_, ?_, ?_, ?_, ?_, ?_, ?_, ?_, ?_, ?_, ?_, ?_, ?_, ?_, ?_, ?_, ?_, ?_, ?_, ?_, ?_, ?_, ?_, ?_, ?_, ?_, ?_, ?_, ?_, ?_, ?_, ?_, ?_, ?_, ?_, ?_, ?_, ?_, ?_, ?_, ?_, ?_, ?_, ?_, ?_, ?_, ?_⟩ <;> first | rfl | exact fun _ => rfl | exact fun _ _ => rfl

@[simp] theorem State.setPort_rest (p : Nat) (k : EthPort) :
    (s.setPort p k).now = s.now ∧ (s.setPort p k).fresh = s.fresh ∧ (s.setPort p k).power = s.power ∧
    (s.setPort p k).straps = s.straps ∧ (s.setPort p k).regs = s.regs ∧ (s.setPort p k).trace = s.trace ∧
    (s.setPort p k).work = s.work ∧ (s.setPort p k).recMem = s.recMem ∧ (s.setPort p k).ply0 = s.ply0 ∧
    (s.setPort p k).ply1 = s.ply1 ∧ (s.setPort p k).ply2 = s.ply2 ∧ (s.setPort p k).flash = s.flash ∧
    (s.setPort p k).ticks = s.ticks ∧ (s.setPort p k).reports = s.reports ∧ (s.setPort p k).mergeOpen = s.mergeOpen ∧
    (s.setPort p k).fifo = s.fifo ∧ (s.setPort p k).causes = s.causes ∧ (s.setPort p k).crossings = s.crossings ∧
    (s.setPort p k).gov = s.gov ∧ (s.setPort p k).weave = s.weave ∧ (s.setPort p k).primary = s.primary ∧
    (s.setPort p k).warps = s.warps ∧ (s.setPort p k).wefts = s.wefts ∧ (s.setPort p k).learn = s.learn ∧
    (s.setPort p k).shTok = s.shTok ∧ (s.setPort p k).bkTok = s.bkTok ∧ (s.setPort p k).pair = s.pair ∧
    (s.setPort p k).recJobs = s.recJobs ∧ (s.setPort p k).acc = s.acc ∧ (s.setPort p k).shuttles = s.shuttles ∧
    (s.setPort p k).seqTok = s.seqTok ∧ (s.setPort p k).pulseOuts = s.pulseOuts ∧ (s.setPort p k).banks = s.banks ∧
    (s.setPort p k).cmps = s.cmps ∧ (s.setPort p k).boosts = s.boosts ∧ (s.setPort p k).closures = s.closures ∧
    (s.setPort p k).seqs = s.seqs ∧ (s.setPort p k).slices = s.slices ∧ (s.setPort p k).rot = s.rot ∧
    (s.setPort p k).inCal = s.inCal ∧ (s.setPort p k).wmons = s.wmons ∧ (s.setPort p k).ptimers = s.ptimers ∧
    (s.setPort p k).monTest = s.monTest ∧ (s.setPort p k).cmbSig = s.cmbSig ∧ (s.setPort p k).pins = s.pins ∧
    (s.setPort p k).combust = s.combust ∧ (s.setPort p k).trimDue = s.trimDue ∧ (s.setPort p k).maps = s.maps ∧
    (s.setPort p k).svc = s.svc ∧ (s.setPort p k).rail = s.rail ∧ (s.setPort p k).ovs = s.ovs ∧
    (s.setPort p k).selv = s.selv ∧ (s.setPort p k).enumStart = s.enumStart ∧ (s.setPort p k).host = s.host ∧
    (s.setPort p k).cans = s.cans ∧ (s.setPort p k).streams = s.streams ∧ (s.setPort p k).sents = s.sents ∧
    (s.setPort p k).dma = s.dma ∧ (s.setPort p k).dmaTrigs = s.dmaTrigs ∧ (s.setPort p k).ahead = s.ahead ∧
    (s.setPort p k).strand = s.strand ∧ (s.setPort p k).supply = s.supply ∧ (s.setPort p k).saf = s.saf ∧
    (s.setPort p k).pending = s.pending ∧ (∀ a, (s.setPort p k).reg a = s.reg a) ∧
    (∀ f, (s.setPort p k).get f = s.get f) ∧ (∀ f, (s.setPort p k).is f = s.is f) ∧
    (∀ f, (s.setPort p k).getI f = s.getI f) ∧ (∀ i j, (s.setPort p k).hasTile i j = s.hasTile i j) ∧
    (∀ i, (s.setPort p k).sh i = s.sh i) ∧ (∀ i, (s.setPort p k).bk i = s.bk i) ∧ (∀ i, (s.setPort p k).wp i = s.wp i) ∧
    (∀ i, (s.setPort p k).wf i = s.wf i) ∧ (∀ i, (s.setPort p k).po i = s.po i) ∧ (∀ i, (s.setPort p k).wm i = s.wm i) ∧
    (∀ i, (s.setPort p k).sq i = s.sq i) ∧ (∀ i, (s.setPort p k).bst i = s.bst i) ∧
    (∀ i, (s.setPort p k).ch i = s.ch i) ∧ (∀ i, (s.setPort p k).can i = s.can i) ∧
    (∀ i, (s.setPort p k).str i = s.str i) ∧ (∀ i, (s.setPort p k).cmb i = s.cmb i) ∧
    (∀ i, (s.setPort p k).line i = s.line i) := by
  refine ⟨?_, ?_, ?_, ?_, ?_, ?_, ?_, ?_, ?_, ?_, ?_, ?_, ?_, ?_, ?_, ?_, ?_, ?_, ?_, ?_, ?_, ?_, ?_, ?_, ?_, ?_, ?_, ?_, ?_, ?_, ?_, ?_, ?_, ?_, ?_, ?_, ?_, ?_, ?_, ?_, ?_, ?_, ?_, ?_, ?_, ?_, ?_, ?_, ?_, ?_, ?_, ?_, ?_, ?_, ?_, ?_, ?_, ?_, ?_, ?_, ?_, ?_, ?_, ?_, ?_, ?_, ?_, ?_, ?_, ?_, ?_, ?_, ?_, ?_, ?_, ?_, ?_, ?_, ?_, ?_, ?_, ?_⟩ <;> first | rfl | exact fun _ => rfl | exact fun _ _ => rfl

@[simp] theorem State.setWm_rest (m : Nat) (k : WMon) :
    (s.setWm m k).now = s.now ∧ (s.setWm m k).fresh = s.fresh ∧ (s.setWm m k).power = s.power ∧
    (s.setWm m k).straps = s.straps ∧ (s.setWm m k).regs = s.regs ∧ (s.setWm m k).trace = s.trace ∧
    (s.setWm m k).work = s.work ∧ (s.setWm m k).recMem = s.recMem ∧ (s.setWm m k).ply0 = s.ply0 ∧
    (s.setWm m k).ply1 = s.ply1 ∧ (s.setWm m k).ply2 = s.ply2 ∧ (s.setWm m k).flash = s.flash ∧
    (s.setWm m k).ticks = s.ticks ∧ (s.setWm m k).reports = s.reports ∧ (s.setWm m k).mergeOpen = s.mergeOpen ∧
    (s.setWm m k).fifo = s.fifo ∧ (s.setWm m k).causes = s.causes ∧ (s.setWm m k).crossings = s.crossings ∧
    (s.setWm m k).gov = s.gov ∧ (s.setWm m k).weave = s.weave ∧ (s.setWm m k).primary = s.primary ∧
    (s.setWm m k).warps = s.warps ∧ (s.setWm m k).wefts = s.wefts ∧ (s.setWm m k).learn = s.learn ∧
    (s.setWm m k).shTok = s.shTok ∧ (s.setWm m k).bkTok = s.bkTok ∧ (s.setWm m k).pair = s.pair ∧
    (s.setWm m k).recJobs = s.recJobs ∧ (s.setWm m k).acc = s.acc ∧ (s.setWm m k).shuttles = s.shuttles ∧
    (s.setWm m k).seqTok = s.seqTok ∧ (s.setWm m k).pulseOuts = s.pulseOuts ∧ (s.setWm m k).banks = s.banks ∧
    (s.setWm m k).cmps = s.cmps ∧ (s.setWm m k).boosts = s.boosts ∧ (s.setWm m k).closures = s.closures ∧
    (s.setWm m k).seqs = s.seqs ∧ (s.setWm m k).slices = s.slices ∧ (s.setWm m k).rot = s.rot ∧
    (s.setWm m k).inCal = s.inCal ∧ (s.setWm m k).ptimers = s.ptimers ∧ (s.setWm m k).monTest = s.monTest ∧
    (s.setWm m k).cmbSig = s.cmbSig ∧ (s.setWm m k).pins = s.pins ∧ (s.setWm m k).combust = s.combust ∧
    (s.setWm m k).trimDue = s.trimDue ∧ (s.setWm m k).maps = s.maps ∧ (s.setWm m k).svc = s.svc ∧
    (s.setWm m k).rail = s.rail ∧ (s.setWm m k).ovs = s.ovs ∧ (s.setWm m k).selv = s.selv ∧
    (s.setWm m k).enumStart = s.enumStart ∧ (s.setWm m k).host = s.host ∧ (s.setWm m k).cans = s.cans ∧
    (s.setWm m k).streams = s.streams ∧ (s.setWm m k).ports = s.ports ∧ (s.setWm m k).sents = s.sents ∧
    (s.setWm m k).dma = s.dma ∧ (s.setWm m k).dmaTrigs = s.dmaTrigs ∧ (s.setWm m k).ahead = s.ahead ∧
    (s.setWm m k).strand = s.strand ∧ (s.setWm m k).supply = s.supply ∧ (s.setWm m k).saf = s.saf ∧
    (s.setWm m k).pending = s.pending ∧ (∀ a, (s.setWm m k).reg a = s.reg a) ∧ (∀ f, (s.setWm m k).get f = s.get f) ∧
    (∀ f, (s.setWm m k).is f = s.is f) ∧ (∀ f, (s.setWm m k).getI f = s.getI f) ∧
    (∀ i j, (s.setWm m k).hasTile i j = s.hasTile i j) ∧ (∀ i, (s.setWm m k).sh i = s.sh i) ∧
    (∀ i, (s.setWm m k).bk i = s.bk i) ∧ (∀ i, (s.setWm m k).wp i = s.wp i) ∧ (∀ i, (s.setWm m k).wf i = s.wf i) ∧
    (∀ i, (s.setWm m k).po i = s.po i) ∧ (∀ i, (s.setWm m k).sq i = s.sq i) ∧ (∀ i, (s.setWm m k).bst i = s.bst i) ∧
    (∀ i, (s.setWm m k).ch i = s.ch i) ∧ (∀ i, (s.setWm m k).can i = s.can i) ∧ (∀ i, (s.setWm m k).str i = s.str i) ∧
    (∀ i, (s.setWm m k).cmb i = s.cmb i) ∧ (∀ i, (s.setWm m k).port i = s.port i) ∧ (∀ i, (s.setWm m k).line i = s.line i) := by
  refine ⟨?_, ?_, ?_, ?_, ?_, ?_, ?_, ?_, ?_, ?_, ?_, ?_, ?_, ?_, ?_, ?_, ?_, ?_, ?_, ?_, ?_, ?_, ?_, ?_, ?_, ?_, ?_, ?_, ?_, ?_, ?_, ?_, ?_, ?_, ?_, ?_, ?_, ?_, ?_, ?_, ?_, ?_, ?_, ?_, ?_, ?_, ?_, ?_, ?_, ?_, ?_, ?_, ?_, ?_, ?_, ?_, ?_, ?_, ?_, ?_, ?_, ?_, ?_, ?_, ?_, ?_, ?_, ?_, ?_, ?_, ?_, ?_, ?_, ?_, ?_, ?_, ?_, ?_, ?_, ?_, ?_, ?_⟩ <;> first | rfl | exact fun _ => rfl | exact fun _ _ => rfl

@[simp] theorem State.setPair_rest (k : Pair) :
    (s.setPair k).now = s.now ∧ (s.setPair k).fresh = s.fresh ∧ (s.setPair k).power = s.power ∧
    (s.setPair k).straps = s.straps ∧ (s.setPair k).regs = s.regs ∧ (s.setPair k).trace = s.trace ∧
    (s.setPair k).work = s.work ∧ (s.setPair k).recMem = s.recMem ∧ (s.setPair k).ply0 = s.ply0 ∧
    (s.setPair k).ply1 = s.ply1 ∧ (s.setPair k).ply2 = s.ply2 ∧ (s.setPair k).flash = s.flash ∧
    (s.setPair k).ticks = s.ticks ∧ (s.setPair k).reports = s.reports ∧ (s.setPair k).mergeOpen = s.mergeOpen ∧
    (s.setPair k).fifo = s.fifo ∧ (s.setPair k).causes = s.causes ∧ (s.setPair k).crossings = s.crossings ∧
    (s.setPair k).gov = s.gov ∧ (s.setPair k).weave = s.weave ∧ (s.setPair k).primary = s.primary ∧
    (s.setPair k).warps = s.warps ∧ (s.setPair k).wefts = s.wefts ∧ (s.setPair k).learn = s.learn ∧
    (s.setPair k).shTok = s.shTok ∧ (s.setPair k).bkTok = s.bkTok ∧ (s.setPair k).recJobs = s.recJobs ∧
    (s.setPair k).acc = s.acc ∧ (s.setPair k).shuttles = s.shuttles ∧ (s.setPair k).seqTok = s.seqTok ∧
    (s.setPair k).pulseOuts = s.pulseOuts ∧ (s.setPair k).banks = s.banks ∧ (s.setPair k).cmps = s.cmps ∧
    (s.setPair k).boosts = s.boosts ∧ (s.setPair k).closures = s.closures ∧ (s.setPair k).seqs = s.seqs ∧
    (s.setPair k).slices = s.slices ∧ (s.setPair k).rot = s.rot ∧ (s.setPair k).inCal = s.inCal ∧
    (s.setPair k).wmons = s.wmons ∧ (s.setPair k).ptimers = s.ptimers ∧ (s.setPair k).monTest = s.monTest ∧
    (s.setPair k).cmbSig = s.cmbSig ∧ (s.setPair k).pins = s.pins ∧ (s.setPair k).combust = s.combust ∧
    (s.setPair k).trimDue = s.trimDue ∧ (s.setPair k).maps = s.maps ∧ (s.setPair k).svc = s.svc ∧
    (s.setPair k).rail = s.rail ∧ (s.setPair k).ovs = s.ovs ∧ (s.setPair k).selv = s.selv ∧
    (s.setPair k).enumStart = s.enumStart ∧ (s.setPair k).host = s.host ∧ (s.setPair k).cans = s.cans ∧
    (s.setPair k).streams = s.streams ∧ (s.setPair k).ports = s.ports ∧ (s.setPair k).sents = s.sents ∧
    (s.setPair k).dma = s.dma ∧ (s.setPair k).dmaTrigs = s.dmaTrigs ∧ (s.setPair k).ahead = s.ahead ∧
    (s.setPair k).strand = s.strand ∧ (s.setPair k).supply = s.supply ∧ (s.setPair k).saf = s.saf ∧
    (s.setPair k).pending = s.pending ∧ (∀ a, (s.setPair k).reg a = s.reg a) ∧ (∀ f, (s.setPair k).get f = s.get f) ∧
    (∀ f, (s.setPair k).is f = s.is f) ∧ (∀ f, (s.setPair k).getI f = s.getI f) ∧
    (∀ i j, (s.setPair k).hasTile i j = s.hasTile i j) ∧ (∀ i, (s.setPair k).sh i = s.sh i) ∧
    (∀ i, (s.setPair k).bk i = s.bk i) ∧ (∀ i, (s.setPair k).wp i = s.wp i) ∧ (∀ i, (s.setPair k).wf i = s.wf i) ∧
    (∀ i, (s.setPair k).po i = s.po i) ∧ (∀ i, (s.setPair k).wm i = s.wm i) ∧ (∀ i, (s.setPair k).sq i = s.sq i) ∧
    (∀ i, (s.setPair k).bst i = s.bst i) ∧ (∀ i, (s.setPair k).ch i = s.ch i) ∧ (∀ i, (s.setPair k).can i = s.can i) ∧
    (∀ i, (s.setPair k).str i = s.str i) ∧ (∀ i, (s.setPair k).cmb i = s.cmb i) ∧
    (∀ i, (s.setPair k).port i = s.port i) ∧ (∀ i, (s.setPair k).line i = s.line i) := by
  refine ⟨?_, ?_, ?_, ?_, ?_, ?_, ?_, ?_, ?_, ?_, ?_, ?_, ?_, ?_, ?_, ?_, ?_, ?_, ?_, ?_, ?_, ?_, ?_, ?_, ?_, ?_, ?_, ?_, ?_, ?_, ?_, ?_, ?_, ?_, ?_, ?_, ?_, ?_, ?_, ?_, ?_, ?_, ?_, ?_, ?_, ?_, ?_, ?_, ?_, ?_, ?_, ?_, ?_, ?_, ?_, ?_, ?_, ?_, ?_, ?_, ?_, ?_, ?_, ?_, ?_, ?_, ?_, ?_, ?_, ?_, ?_, ?_, ?_, ?_, ?_, ?_, ?_, ?_, ?_, ?_, ?_, ?_, ?_⟩ <;> first | rfl | exact fun _ => rfl | exact fun _ _ => rfl

@[simp] theorem State.setPo_rest (p : Nat) (k : PulseOut) :
    (s.setPo p k).now = s.now ∧ (s.setPo p k).fresh = s.fresh ∧ (s.setPo p k).power = s.power ∧
    (s.setPo p k).straps = s.straps ∧ (s.setPo p k).regs = s.regs ∧ (s.setPo p k).trace = s.trace ∧
    (s.setPo p k).work = s.work ∧ (s.setPo p k).recMem = s.recMem ∧ (s.setPo p k).ply0 = s.ply0 ∧
    (s.setPo p k).ply1 = s.ply1 ∧ (s.setPo p k).ply2 = s.ply2 ∧ (s.setPo p k).flash = s.flash ∧
    (s.setPo p k).ticks = s.ticks ∧ (s.setPo p k).reports = s.reports ∧ (s.setPo p k).mergeOpen = s.mergeOpen ∧
    (s.setPo p k).fifo = s.fifo ∧ (s.setPo p k).causes = s.causes ∧ (s.setPo p k).crossings = s.crossings ∧
    (s.setPo p k).gov = s.gov ∧ (s.setPo p k).weave = s.weave ∧ (s.setPo p k).primary = s.primary ∧
    (s.setPo p k).warps = s.warps ∧ (s.setPo p k).wefts = s.wefts ∧ (s.setPo p k).learn = s.learn ∧
    (s.setPo p k).shTok = s.shTok ∧ (s.setPo p k).bkTok = s.bkTok ∧ (s.setPo p k).pair = s.pair ∧
    (s.setPo p k).recJobs = s.recJobs ∧ (s.setPo p k).acc = s.acc ∧ (s.setPo p k).shuttles = s.shuttles ∧
    (s.setPo p k).seqTok = s.seqTok ∧ (s.setPo p k).banks = s.banks ∧ (s.setPo p k).cmps = s.cmps ∧
    (s.setPo p k).boosts = s.boosts ∧ (s.setPo p k).closures = s.closures ∧ (s.setPo p k).seqs = s.seqs ∧
    (s.setPo p k).slices = s.slices ∧ (s.setPo p k).rot = s.rot ∧ (s.setPo p k).inCal = s.inCal ∧
    (s.setPo p k).wmons = s.wmons ∧ (s.setPo p k).ptimers = s.ptimers ∧ (s.setPo p k).monTest = s.monTest ∧
    (s.setPo p k).cmbSig = s.cmbSig ∧ (s.setPo p k).pins = s.pins ∧ (s.setPo p k).combust = s.combust ∧
    (s.setPo p k).trimDue = s.trimDue ∧ (s.setPo p k).maps = s.maps ∧ (s.setPo p k).svc = s.svc ∧
    (s.setPo p k).rail = s.rail ∧ (s.setPo p k).ovs = s.ovs ∧ (s.setPo p k).selv = s.selv ∧
    (s.setPo p k).enumStart = s.enumStart ∧ (s.setPo p k).host = s.host ∧ (s.setPo p k).cans = s.cans ∧
    (s.setPo p k).streams = s.streams ∧ (s.setPo p k).ports = s.ports ∧ (s.setPo p k).sents = s.sents ∧
    (s.setPo p k).dma = s.dma ∧ (s.setPo p k).dmaTrigs = s.dmaTrigs ∧ (s.setPo p k).ahead = s.ahead ∧
    (s.setPo p k).strand = s.strand ∧ (s.setPo p k).supply = s.supply ∧ (s.setPo p k).saf = s.saf ∧
    (s.setPo p k).pending = s.pending ∧ (∀ a, (s.setPo p k).reg a = s.reg a) ∧ (∀ f, (s.setPo p k).get f = s.get f) ∧
    (∀ f, (s.setPo p k).is f = s.is f) ∧ (∀ f, (s.setPo p k).getI f = s.getI f) ∧
    (∀ i j, (s.setPo p k).hasTile i j = s.hasTile i j) ∧ (∀ i, (s.setPo p k).sh i = s.sh i) ∧
    (∀ i, (s.setPo p k).bk i = s.bk i) ∧ (∀ i, (s.setPo p k).wp i = s.wp i) ∧ (∀ i, (s.setPo p k).wf i = s.wf i) ∧
    (∀ i, (s.setPo p k).wm i = s.wm i) ∧ (∀ i, (s.setPo p k).sq i = s.sq i) ∧ (∀ i, (s.setPo p k).bst i = s.bst i) ∧
    (∀ i, (s.setPo p k).ch i = s.ch i) ∧ (∀ i, (s.setPo p k).can i = s.can i) ∧ (∀ i, (s.setPo p k).str i = s.str i) ∧
    (∀ i, (s.setPo p k).cmb i = s.cmb i) ∧ (∀ i, (s.setPo p k).port i = s.port i) ∧ (∀ i, (s.setPo p k).line i = s.line i) := by
  refine ⟨?_, ?_, ?_, ?_, ?_, ?_, ?_, ?_, ?_, ?_, ?_, ?_, ?_, ?_, ?_, ?_, ?_, ?_, ?_, ?_, ?_, ?_, ?_, ?_, ?_, ?_, ?_, ?_, ?_, ?_, ?_, ?_, ?_, ?_, ?_, ?_, ?_, ?_, ?_, ?_, ?_, ?_, ?_, ?_, ?_, ?_, ?_, ?_, ?_, ?_, ?_, ?_, ?_, ?_, ?_, ?_, ?_, ?_, ?_, ?_, ?_, ?_, ?_, ?_, ?_, ?_, ?_, ?_, ?_, ?_, ?_, ?_, ?_, ?_, ?_, ?_, ?_, ?_, ?_, ?_, ?_, ?_⟩ <;> first | rfl | exact fun _ => rfl | exact fun _ _ => rfl

@[simp] theorem State.popped_rest  :
    (s.popped).now = s.now ∧ (s.popped).fresh = s.fresh ∧ (s.popped).power = s.power ∧ (s.popped).straps = s.straps ∧
    (s.popped).regs = s.regs ∧ (s.popped).trace = s.trace ∧ (s.popped).work = s.work ∧ (s.popped).recMem = s.recMem ∧
    (s.popped).ply0 = s.ply0 ∧ (s.popped).ply1 = s.ply1 ∧ (s.popped).ply2 = s.ply2 ∧ (s.popped).flash = s.flash ∧
    (s.popped).ticks = s.ticks ∧ (s.popped).reports = s.reports ∧ (s.popped).mergeOpen = s.mergeOpen ∧
    (s.popped).fifo = s.fifo ∧ (s.popped).causes = s.causes ∧ (s.popped).crossings = s.crossings ∧
    (s.popped).gov = s.gov ∧ (s.popped).weave = s.weave ∧ (s.popped).primary = s.primary ∧ (s.popped).warps = s.warps ∧
    (s.popped).wefts = s.wefts ∧ (s.popped).learn = s.learn ∧ (s.popped).shTok = s.shTok ∧ (s.popped).bkTok = s.bkTok ∧
    (s.popped).pair = s.pair ∧ (s.popped).recJobs = s.recJobs ∧ (s.popped).acc = s.acc ∧
    (s.popped).shuttles = s.shuttles ∧ (s.popped).seqTok = s.seqTok ∧ (s.popped).pulseOuts = s.pulseOuts ∧
    (s.popped).banks = s.banks ∧ (s.popped).cmps = s.cmps ∧ (s.popped).boosts = s.boosts ∧
    (s.popped).closures = s.closures ∧ (s.popped).seqs = s.seqs ∧ (s.popped).slices = s.slices ∧ (s.popped).rot = s.rot ∧
    (s.popped).inCal = s.inCal ∧ (s.popped).wmons = s.wmons ∧ (s.popped).ptimers = s.ptimers ∧
    (s.popped).monTest = s.monTest ∧ (s.popped).cmbSig = s.cmbSig ∧ (s.popped).pins = s.pins ∧
    (s.popped).combust = s.combust ∧ (s.popped).trimDue = s.trimDue ∧ (s.popped).maps = s.maps ∧ (s.popped).svc = s.svc ∧
    (s.popped).rail = s.rail ∧ (s.popped).ovs = s.ovs ∧ (s.popped).selv = s.selv ∧ (s.popped).enumStart = s.enumStart ∧
    (s.popped).host = s.host ∧ (s.popped).cans = s.cans ∧ (s.popped).streams = s.streams ∧ (s.popped).ports = s.ports ∧
    (s.popped).sents = s.sents ∧ (s.popped).dma = s.dma ∧ (s.popped).dmaTrigs = s.dmaTrigs ∧ (s.popped).ahead = s.ahead ∧
    (s.popped).strand = s.strand ∧ (s.popped).supply = s.supply ∧ (s.popped).saf = s.saf ∧
    (∀ a, (s.popped).reg a = s.reg a) ∧ (∀ f, (s.popped).get f = s.get f) ∧ (∀ f, (s.popped).is f = s.is f) ∧
    (∀ f, (s.popped).getI f = s.getI f) ∧ (∀ i j, (s.popped).hasTile i j = s.hasTile i j) ∧
    (∀ i, (s.popped).sh i = s.sh i) ∧ (∀ i, (s.popped).bk i = s.bk i) ∧ (∀ i, (s.popped).wp i = s.wp i) ∧
    (∀ i, (s.popped).wf i = s.wf i) ∧ (∀ i, (s.popped).po i = s.po i) ∧ (∀ i, (s.popped).wm i = s.wm i) ∧
    (∀ i, (s.popped).sq i = s.sq i) ∧ (∀ i, (s.popped).bst i = s.bst i) ∧ (∀ i, (s.popped).ch i = s.ch i) ∧
    (∀ i, (s.popped).can i = s.can i) ∧ (∀ i, (s.popped).str i = s.str i) ∧ (∀ i, (s.popped).cmb i = s.cmb i) ∧
    (∀ i, (s.popped).port i = s.port i) ∧ (∀ i, (s.popped).line i = s.line i) := by
  refine ⟨?_, ?_, ?_, ?_, ?_, ?_, ?_, ?_, ?_, ?_, ?_, ?_, ?_, ?_, ?_, ?_, ?_, ?_, ?_, ?_, ?_, ?_, ?_, ?_, ?_, ?_, ?_, ?_, ?_, ?_, ?_, ?_, ?_, ?_, ?_, ?_, ?_, ?_, ?_, ?_, ?_, ?_, ?_, ?_, ?_, ?_, ?_, ?_, ?_, ?_, ?_, ?_, ?_, ?_, ?_, ?_, ?_, ?_, ?_, ?_, ?_, ?_, ?_, ?_, ?_, ?_, ?_, ?_, ?_, ?_, ?_, ?_, ?_, ?_, ?_, ?_, ?_, ?_, ?_, ?_, ?_, ?_, ?_⟩ <;> first | rfl | exact fun _ => rfl | exact fun _ _ => rfl

@[simp] theorem State.sh_setSh {i : Nat} (k) (h : i < 64) : (s.setSh i k).sh i = k := vget_vset_same _ k h
theorem State.sh_setSh_ne {i j : Nat} (k) (h : j ≠ i) : (s.setSh i k).sh j = s.sh j := vget_vset_ne _ k h
@[simp] theorem State.bk_setBk {i : Nat} (k) (h : i < 12) : (s.setBk i k).bk i = k := vget_vset_same _ k h
theorem State.bk_setBk_ne {i j : Nat} (k) (h : j ≠ i) : (s.setBk i k).bk j = s.bk j := vget_vset_ne _ k h
@[simp] theorem State.wp_setWp {i : Nat} (k) (h : i < 6) : (s.setWp i k).wp i = k := vget_vset_same _ k h
theorem State.wp_setWp_ne {i j : Nat} (k) (h : j ≠ i) : (s.setWp i k).wp j = s.wp j := vget_vset_ne _ k h
@[simp] theorem State.wf_setWf {i : Nat} (k) (h : i < 2) : (s.setWf i k).wf i = k := vget_vset_same _ k h
theorem State.wf_setWf_ne {i j : Nat} (k) (h : j ≠ i) : (s.setWf i k).wf j = s.wf j := vget_vset_ne _ k h
@[simp] theorem State.po_setPo {i : Nat} (k) (h : i < 2) : (s.setPo i k).po i = k := vget_vset_same _ k h
theorem State.po_setPo_ne {i j : Nat} (k) (h : j ≠ i) : (s.setPo i k).po j = s.po j := vget_vset_ne _ k h
@[simp] theorem State.wm_setWm {i : Nat} (k) (h : i < 8) : (s.setWm i k).wm i = k := vget_vset_same _ k h
theorem State.wm_setWm_ne {i j : Nat} (k) (h : j ≠ i) : (s.setWm i k).wm j = s.wm j := vget_vset_ne _ k h
@[simp] theorem State.sq_setSq {i : Nat} (k) (h : i < 16) : (s.setSq i k).sq i = k := vget_vset_same _ k h
theorem State.sq_setSq_ne {i j : Nat} (k) (h : j ≠ i) : (s.setSq i k).sq j = s.sq j := vget_vset_ne _ k h
@[simp] theorem State.bst_setBst {i : Nat} (k) (h : i < 3) : (s.setBst i k).bst i = k := vget_vset_same _ k h
theorem State.bst_setBst_ne {i j : Nat} (k) (h : j ≠ i) : (s.setBst i k).bst j = s.bst j := vget_vset_ne _ k h
@[simp] theorem State.ch_setCh {i : Nat} (k) (h : i < 16) : (s.setCh i k).ch i = k := vget_vset_same _ k h
theorem State.ch_setCh_ne {i j : Nat} (k) (h : j ≠ i) : (s.setCh i k).ch j = s.ch j := vget_vset_ne _ k h
@[simp] theorem State.can_setCan {i : Nat} (k) (h : i < 4) : (s.setCan i k).can i = k := vget_vset_same _ k h
theorem State.can_setCan_ne {i j : Nat} (k) (h : j ≠ i) : (s.setCan i k).can j = s.can j := vget_vset_ne _ k h
@[simp] theorem State.str_setStr {i : Nat} (k) (h : i < 8) : (s.setStr i k).str i = k := vget_vset_same _ k h
theorem State.str_setStr_ne {i j : Nat} (k) (h : j ≠ i) : (s.setStr i k).str j = s.str j := vget_vset_ne _ k h
@[simp] theorem State.cmb_setCmb {i : Nat} (k) (h : i < 24) : (s.setCmb i k).cmb i = k := vget_vset_same _ k h
theorem State.cmb_setCmb_ne {i j : Nat} (k) (h : j ≠ i) : (s.setCmb i k).cmb j = s.cmb j := vget_vset_ne _ k h
@[simp] theorem State.port_setPort {i : Nat} (k) (h : i < 2) : (s.setPort i k).port i = k := vget_vset_same _ k h
theorem State.port_setPort_ne {i j : Nat} (k) (h : j ≠ i) : (s.setPort i k).port j = s.port j := vget_vset_ne _ k h
@[simp] theorem State.line_setLine {i : Nat} (k) (h : i < 14) : (s.setLine i k).line i = k := vget_vset_same _ k h
theorem State.line_setLine_ne {i j : Nat} (k) (h : j ≠ i) : (s.setLine i k).line j = s.line j := vget_vset_ne _ k h

end Sys2Proof.Machine
end

