-- ==== Sys2Proof/WellFormed.lean ====
section
/-!
DEFINITION. The checks on a command: every operand fits the width the spec gives it. The types carry the instance
numbers (Fin), so a check stands where an operand is a number or a list with a stated size. exec does not need the
checks to be total; what lies beyond them is no command the block can receive.
-/
namespace Sys2Proof

/-- Every byte of a list is a byte. -/
def bytesOk (bs : List Nat) : Bool := bs.all (fun b => decide (b < 256))

/-- The command is one that the block can receive. -/
def Instr.wf (i : Instr) : Bool :=
  match i with
  | .registerWrite _ _ _ => true
  | .eventMerge _ => true
  | .invalidCodeDetect _ _ => true
  | .handshakeStall _ _ => true
  | .clockLost _ _ => true
  | .crossingResume _ _ => true
  | .governorSample _ _ => true
  | .vcoreRaise _ => true
  | .vcoreLower _ => true
  | .sysLatClr _ => true
  | .loadWeave _ => true
  | .loadComplete _ _ _ => true
  | .runLoom _ => true
  | .loomStart _ => true
  | .stop _ => true
  | .mirror _ _ => true
  | .mirrorDone _ => true
  | .verify _ => true
  | .verifyDone _ => true
  | .erase _ _ => true
  | .eraseDone _ => true
  | .wveCmdReject _ _ _ => true
  | .weaveStoreWrite _ _ _ _ _ => true
  | .weaveProgramDone _ => true
  | .scrubSectionEnd _ _ _ => true
  | .storedPlyCheck _ => true
  | .wheelTransition _ _ _ => true
  | .edgeFilterExpiry _ _ => true
  | .dirSplitExpiry _ _ => true
  | .dirMaxExpiry _ _ => true
  | .stallTimeout _ _ => true
  | .camStallTimeout _ _ => true
  | .wrpCntClr _ _ => true
  | .syncLost _ _ => true
  | .rotationLost _ _ => true
  | .toothUpdateBroadcast _ _ => true
  | .microtickHold _ _ => true
  | .wftUpdRead _ _ => true
  | .wftSnapRead _ _ => true
  | .wftCntClr _ _ => true
  | .shuttleToothUpdate _ _ => true
  | .startCommit _ _ => true
  | .stopCommit _ _ => true
  | .pulseStop _ _ => true
  | .gateOpenCommit _ _ => true
  | .gateOpen _ _ => true
  | .gateCloseCommit _ _ => true
  | .gateClose _ _ => true
  | .gridTickCommit _ _ => true
  | .gridTick _ _ => true
  | .shtEnSet _ _ => true
  | .shtEnClear _ _ => true
  | .shtReadySet _ _ _ => true
  | .shtCntClr _ _ => true
  | .pulseOutputUpdate _ _ => true
  | .pulseOutputEdge _ => true
  | .tachEdge _ => true
  | .bankCommit _ _ => true
  | .bankStartDecision _ _ => true
  | .deadTimeExpiry _ _ => true
  | .trapInstr _ _ => true
  | .drv _ _ => true
  | .riseInstr _ _ => true
  | .fallInstr _ _ => true
  | .chop _ _ _ => true
  | .recov _ _ => true
  | .contInstr _ _ _ => true
  | .setpk _ _ => true
  | .setvy _ _ => true
  | .blank _ _ => true
  | .jmp _ _ => true
  | .brf _ _ _ => true
  | .loopInstr _ _ => true
  | .flt _ _ => true
  | .heddleTimedExpiry _ _ => true
  | .comparatorTrip _ _ _ _ => true
  | .blankingEnd _ _ _ => true
  | .recoveryEndZth _ _ _ => true
  | .recoveryEndRmax _ _ => true
  | .overlapRecoveryEnd _ _ => true
  | .postponeExpiry _ _ => true
  | .contEnable _ _ => true
  | .contDisable _ _ => true
  | .contSetpointWrite _ _ _ _ _ => true
  | .contDwellEnd _ _ _ => true
  | .bnkCntClr _ _ => true
  | .boostEnable _ _ => true
  | .boostRailSample _ _ _ => true
  | .boostOvPersist _ _ => true
  | .openLoadCheck _ _ _ => true
  | .lsDesat _ _ _ => true
  | .hsDesat _ _ _ => true
  | .crossCheckFail _ _ _ _ => true
  | .offtPeriod _ _ => true
  | .offtStart _ _ => true
  | .offtDecide _ _ _ _ _ => true
  | .residualCurrent _ _ _ => true
  | .latchClear _ _ _ => true
  | .tailSample _ _ _ => true
  | .tailWindowEnd _ _ => true
  | .thermalStep _ _ _ => true
  | .bnkDcntClr _ _ => true
  | .conversionSample _ _ => true
  | .conversionComplete _ _ _ => true
  | .openWireSettle _ _ => true
  | .rotationStart _ => true
  | .sliceSwitchStart _ => true
  | .sliceSwitchEnd _ => true
  | .rotationAbandon _ => true
  | .spareCalVerdict _ _ _ _ => true
  | .seqGo _ _ => true
  | .seqEn _ _ _ => true
  | .seqTimer _ _ => true
  | .seqGateOpen _ _ => true
  | .seqGridTick _ _ => true
  | .seqGateClose _ _ => true
  | .passStart _ _ => true
  | .passEnd _ _ => true
  | .windowFinalise _ _ => true
  | .seqCntClr _ _ => true
  | .windowCrossing _ _ _ => true
  | .wmBlankEnd _ _ => true
  | .wmLatchClear _ _ => true
  | .periodTimerEdge _ _ => true
  | .ptEnable _ _ => true
  | .wmCntClr _ _ => true
  | .bankSelftestDone _ _ _ => true
  | .monitorSelftest _ => true
  | .monitorSelftestDone _ _ _ => true
  | .pinTimeout _ _ => true
  | .analysisStart _ _ => true
  | .recordCommit _ _ => true
  | .trimUpdate _ => true
  | .listBuild _ _ _ => true
  | .demandSwap _ => true
  | .demandTimeout _ => true
  | .driftUpdate _ => true
  | .railLoopStep _ => true
  | .setpointRamp _ => true
  | .pinDisagree _ => true
  | .railOverpressure _ => true
  | .overspeedUpdate _ => true
  | .serviceCntClr _ _ => true
  | .enumIdn _ => true
  | .idnCmdInvalid _ _ => true
  | .selvedgeLineReady _ _ => true
  | .selvedgeLineShort _ _ => true
  | .selvedgeReset _ _ => true
  | .rollCall _ _ _ _ => true
  | .selectSite _ _ _ _ => true
  | .selvedgeRead _ _ _ _ => true
  | .enumDone _ => true
  | .backgroundRollCall _ _ _ _ => true
  | .hostRead _ _ _ => true
  | .hostWrite _ _ _ _ => true
  | .hostNop _ _ => true
  | .hostFrameError _ _ => true
  | .eventPop _ _ => true
  | .canTxRequest _ _ _ => true
  | .canTxDone _ _ _ _ => true
  | .canRxFrame _ _ f _ _ => decide (f.id < 2 ^ 29) && decide (f.dlc < 16) && bytesOk f.data && decide (f.data.length ≤ 64)
  | .canRxAck _ _ => true
  | .canBusOff _ _ => true
  | .canBusOn _ _ => true
  | .canBusoffReq _ _ => true
  | .phyLinkPoll _ _ _ => true
  | .datagramStart _ _ => true
  | .streamFlush _ _ => true
  | .ethRxFrame _ _ => true
  | .sentFrame _ _ _ _ _ => true
  | .sentStale _ _ => true
  | .flashRead _ _ _ => true
  | .flashProgram _ _ _ => true
  | .flashErase _ _ => true
  | .flashCmdDone _ => true
  | .jtagExtest _ => true
  | .jtagIdcode _ => true
  | .jtagSamplePreload _ => true
  | .jtagHighz _ => true
  | .jtagClamp _ => true
  | .jtagBypass _ => true
  | .jtagDbgAccess _ _ _ _ _ => true
  | .dmaGo _ _ => true
  | .dmaTrigger _ _ => true
  | .dmaDescriptorLoad _ _ => true
  | .dmaBeatResponse _ _ _ => true
  | .dmaStop _ _ => true
  | .dmaResume _ _ => true
  | .dmaEnable _ _ => true
  | .dmaDisable _ _ => true
  | .dmaDomainReturn _ _ => true
  | .commitTimer _ => true
  | .strandlineCommit _ => true
  | .fullCommit _ => true
  | .recordWriteDone _ => true
  | .coilTempBin _ => true
  | .boostBin _ => true
  | .runSeconds _ => true
  | .strandlineReady _ => true
  | .proexAlign _ => true
  | .proexToothFrame _ _ p => bytesOk p && decide (p.length = 18)
  | .proexBeatFrame _ _ p _ => bytesOk p && decide (p.length = 44)
  | .proexEventFrame _ _ p => bytesOk p && decide (p.length = 28)
  | .proexRecordFrame _ _ p => bytesOk p && decide (p.length = 72)
  | .proexBlockFrame _ _ p => bytesOk p && decide (p.length = 52)
  | .proexFrameError _ _ => true
  | .beatDue _ => true
  | .proexFrameSend _ => true
  | .blockSeriesDue _ _ => true
  | .beatTimeout _ => true
  | .mapTimeout _ => true
  | .mirrorToothTimeout _ => true
  | .divClr _ => true
  | .pairEventPop _ _ => true
  | .supplyMonitorTrip _ _ => true
  | .supplyMonitorRelease _ _ => true
  | .sensorSupplyLow _ => true
  | .ebbActive _ _ => true
  | .ebbInactive _ _ => true
  | .lowWaterReset _ => true
  | .lowWaterEnd _ => true
  | .powerOnReset _ => true
  | .pinReset _ => true
  | .pinResetEnd _ => true
  | .softwareReset _ _ => true
  | .resetEnd _ _ _ => true
  | .startLateTimeout _ => true
  | .domainOffRequest _ _ => true
  | .domainOnRequest _ _ => true
  | .drainEnd _ _ => true
  | .drainTimeout _ _ => true
  | .domainWakeDone _ _ => true
  | .standbyRequest _ _ => true
  | .standbyComplete _ => true
  | .wakeInput _ _ => true
  | .wakeFilterExpiry _ => true
  | .wakeTimer _ => true
  | .headlandCause _ => true
  | .cutHoldExpiry _ => true
  | .safeRelease _ _ => true
  | .headlandSelftestDone _ _ => true
  | .headlandRunEntry _ => true
  | .clockMonitorWindow _ _ _ => true
  | .housekeepingSample _ _ _ => true
  | .safeNMismatch _ => true
  | .safeInChange _ _ => true
  | .clockReturn _ _ => true
  | .safCntClr _ => true
  | .prxCntClr _ => true
  | .recCntClr _ => true
  | .dmaCntClr _ _ => true
  | .lnkCntClr _ _ => true

end Sys2Proof
end

