-- ==== Sys2Proof/Tests/Slice0.lean ====
section
/-!
SUPPORT. Tests: the well-formedness checks refuse ill-formed commands, the worked examples of the manual, and, for every
statement of Certificates/Slice0/Obligations.lean with hypotheses, states and operands that meet the hypotheses of its
clauses. No expected value comes from the model.
-/
open Sys2Proof Sys2Proof.Machine
namespace Sys2Proof.Tests

/-- The device up, with tiles instantiated. -/
def up (tiles : List (Nat × Nat)) : State := { State.reset with power := .up, supply := {}, weave := { tiles } }

/-- Fields set to values. -/
def put (s : State) (l : List (Fld × Nat)) : State := l.foldl (fun s x => s.set x.1 x.2) s

/-- The Loom runs and Headland is in RUN. -/
def run (tiles : List (Nat × Nat)) (l : List (Fld × Nat)) : State :=
  put (up tiles) ([(Reg.SYS_STATUS_LOOM_RUN, 1), (Reg.SAF_STAT_STATE, 1), (Reg.WVE_STATUS_STATE, stRunning)] ++ l)

/-- The signals `ks` of a tile have pin records (R680). -/
def onBalls (s : State) (type idx : Nat) (ks : List Nat) : State :=
  { s with weave := { s.weave with pins := s.weave.pins ++ ks.map (fun k => { row := 0, col := 0, type, idx, signal := k, opt := 0 }) } }

/-! ### Ill-formed commands -/

/-- CAN_RX_FRAME: an identifier of at most 29 bits, a data length code below 16, at most 64 bytes (R526, Table 11.8). -/
theorem test_wellformed_can :
    (∀ x ∈ [(0x1FFFFFFF, 15, [255], true), (0x20000000, 1, [255], false), (0x7FF, 16, [255], false), (0x7FF, 1, [256], false),
        (0x7FF, 1, List.replicate 65 0, false)],
      (Instr.canRxFrame 0 0 { id := x.1, ide := true, fdf := true, brs := false, esi := false, rtr := false
                              dlc := x.2.1, data := x.2.2.1 } 0 0).wf = x.2.2.2) := by decide

/-- Proex frames: the payload of each TYPE has its LEN in bytes (Table 13.3). -/
theorem test_wellformed_proex :
    (Instr.proexToothFrame 0 0 (List.replicate 18 255)).wf = true ∧ (Instr.proexToothFrame 0 0 (List.replicate 17 0)).wf = false
      ∧ (Instr.proexToothFrame 0 0 (256 :: List.replicate 17 0)).wf = false
      ∧ (Instr.proexBeatFrame 0 0 (List.replicate 44 0) 0).wf = true ∧ (Instr.proexBeatFrame 0 0 [] 0).wf = false
      ∧ (Instr.proexEventFrame 0 0 (List.replicate 28 0)).wf = true ∧ (Instr.proexEventFrame 0 0 []).wf = false
      ∧ (Instr.proexRecordFrame 0 0 (List.replicate 72 0)).wf = true ∧ (Instr.proexRecordFrame 0 0 []).wf = false
      ∧ (Instr.proexBlockFrame 0 0 (List.replicate 52 0)).wf = true ∧ (Instr.proexBlockFrame 0 0 []).wf = false := by decide

/-! ### Hypotheses that states meet: the block, fabric, weave, Loom -/

theorem witness_StepRunsTheFrontCommand :
    { up [] with pending := [.stop 5] }.pending = [Instr.stop 5] ∧ State.reset.pending = [] := by decide

theorem witness_CommandsCompleteAndLeaveTheQueue : ∃ s', exec (.sysLatClr 5) State.reset = .next s' := ⟨_, rfl⟩

theorem witness_StepKeepsMemoriesCanonical :
    (up []).canonical = true ∧ ∃ s', step { up [] with pending := [.sysLatClr 5] } = .next s' := ⟨by decide, _, rfl⟩

theorem witness_StepKeepsComparatorModes :
    (up []).modesOk = true ∧ ∃ s', step { up [] with pending := [.sysLatClr 5] } = .next s' := ⟨by decide, _, rfl⟩

theorem witness_EveryCommandFrame : ∃ s', exec (.wrpCntClr 5 0) (up []) = .next s' := ⟨_, rfl⟩

theorem witness_CounterClears :
    (∀ x ∈ [(1, 5), (2, 1), (3, 63), (4, 11), (5, 2), (6, 15)],
      (up [(1, 5), (2, 1), (3, 63), (4, 11), (5, 2), (6, 15)]).hasTile x.1 x.2 = true ∧ (up []).hasTile x.1 x.2 = false)
      ∧ (8 : Fin 12).val % 4 = 0 := by decide

theorem witness_ServiceAndLinkClears :
    ∀ x ∈ [(0x0F, 0), (0x10, 0), (0x0E, 0), (0x11, 6), (0x11, 3), (0x11, 4), (0x11, 5), (8, 23), (9, 1), (0x0B, 0)],
      (up [x]).hasTile x.1 x.2 = true ∧ (up []).hasTile x.1 x.2 = false ∧ (up [(0x0E, 0)]).dmaOn = true
        ∧ (up []).dmaOn = false := by decide

def fabric : State := { put (up []) [(clkLost, 1)] with
  crossings := vset (Vector.replicate 7 {}) 0 { blocked := true, returned := some 0 } }

theorem witness_FabricMonitors :
    (up []).power = .up ∧ (∀ d : Fin 7, (clockDomain d).all (fun p => decide ((up []).domain p < 2)) = true)
      ∧ (up []).domain 6 < 2 ∧ (up [(0x10, 0)]).proexOn = true ∧ (up [(0x10, 0)]).get Reg.PRX_STAT_LINK ≤ 2
      ∧ (up []).proexOn = false ∧ State.reset.power ≠ .up
      ∧ (clockDomain 0).any (fun p => decide (2 ≤ (put (up []) [(⟨Reg.SYS_PWRSTAT_addr, 2, 2⟩, 2)]).domain p)) = true
      ∧ (fabric.get clkLost).testBit 0 = true ∧ (fabric.get clkLost).testBit 1 = false
      ∧ (vget fabric.crossings 0).returned = some 0 ∧ 10 * us ≤ elapsed 0 16000 ∧ elapsed 0 15999 < 10 * us
      ∧ (vget fabric.crossings 1).returned = none := by decide

def gov (code : Nat) : State := { put (up []) [(Reg.SYS_GOV_VCODE, code)] with
  gov := { on := true, overUp := true, lastRaise := some 0, belowSince := some 0, lastLower := some 1440000 } }

theorem witness_SlackGovernor :
    (gov 30).get Reg.SYS_GOV_VCODE = 30 ∧ (∃ p ∈ (Vector.replicate 16 95).toList, 95 ≤ p)
      ∧ (gov 29).gov.on = true ∧ (gov 29).gov.overUp = true ∧ (gov 29).gov.lastRaise = some 0 ∧ 2 * us ≤ elapsed 0 3200
      ∧ (gov 29).get Reg.SYS_GOV_VCODE < 30 ∧ ¬ 2 * us ≤ elapsed 0 3199 ∧ ¬ (gov 30).get Reg.SYS_GOV_VCODE < 30
      ∧ (gov 1).gov.belowSince = some 0 ∧ ms ≤ elapsed 0 1600000 ∧ (gov 1).gov.lastLower = some 1440000
      ∧ 100 * us ≤ elapsed 1440000 1600000 ∧ 0 < (gov 1).get Reg.SYS_GOV_VCODE ∧ ¬ 0 < (gov 0).get Reg.SYS_GOV_VCODE := by
  decide

def woven (st : Nat) : State := put (up []) [(Reg.WVE_STATUS_STATE, st)]

theorem witness_WeaveCommands :
    (woven stLoaded).running = false ∧ (woven stLoaded).weave.loading = false ∧ (woven stLoaded).wstate = stLoaded
      ∧ (woven stLoaded).get Reg.SAF_STAT_STATE ≠ 4 ∧ ((woven stLoaded).at 9).headlandFirst = false
      ∧ ({ woven stLoaded with saf := { movedAt := some 9 } }.at 9).headlandFirst = true
      ∧ (2 : Fin 4).val ≠ 3 ∧ (run [] []).wstate = stRunning ∧ (run [] []).running = true
      ∧ { up [] with weave := { loading := true } }.weave.loading = true
      ∧ (put (woven stLoaded) [(Reg.SAF_STAT_STATE, 4)]).get Reg.SAF_STAT_STATE = 4 ∧ (up []).wstate ≠ stLoaded
      ∧ ¬ ((up []).wstate = stLoaded ∨ (up []).wstate = stRunning)
      ∧ (7 : Fin 16).val > 6 ∧ ((6 : Fin 16).val = 6 ∧ (3 : Fin 4).val = 3) ∧ ¬ ((1 : Fin 16).val = 0 ∨ 6 < (1 : Fin 16).val) := by
  decide

def weaving : State := { woven stLoaded with weave := {
  verifying := true, erasing := [2, 0], mirror := [{ dst := 1, onFlash := false, src := 0, words := 16 }]
  prog := some (0, 21844, 7), sigs := [(1, 0)], cells := [[1]] } }

theorem witness_WeaveOperationsEnd :
    { up [] with weave := { loading := true } }.weave.loading = true ∧ weaving.weave.loading = false
      ∧ weaving.weave.verifying = true ∧ (up []).weave.verifying = false
      ∧ weaving.weave.erasing = 2 :: [0] ∧ weaving.running = false ∧ (up []).weave.erasing = []
      ∧ weaving.weave.mirror = { dst := 1, onFlash := false, src := 0, words := 16 } :: [] ∧ (up []).weave.mirror = []
      ∧ weaving.weave.prog = some (0, 21844, 7) ∧ (up []).weave.prog = none ∧ (run [] []).running = true := by decide

theorem witness_WeaveStoreAndScrub :
    let checked := fun (st : Nat) => { woven st with weave := { checkAt := 0 } }
    ((up []).weave.prog = none ∧ (up []).weave.erasing = [] ∧ (up []).running = false ∧ (up []).weave.loading = false)
      ∧ ¬ (weaving.weave.prog = none ∧ weaving.weave.erasing = []) ∧ (run [] []).running = true ∧ (run [] []).weave.prog = none
      ∧ (run [] []).weave.erasing = [] ∧ (up []).plyGet 0 0 ≠ 7
      ∧ (weaving.woven = true ∧ weaving.weave.loading = false ∧ weaving.weave.scrubNext = (0 : Fin 5).val + 1)
      ∧ ({ weaving with weave := { weaving.weave with scrubNext := 5 } }.weave.scrubNext = (4 : Fin 5).val + 1)
      ∧ (weaving.weave.sigs.find? (fun x => decide (x.1 = 1))).map Prod.snd = some 0
      ∧ (weaving.weave.sigs.find? (fun x => decide (x.1 = 5))).map Prod.snd = none ∧ (up []).woven = false
      ∧ ((checked stRunning).wstate = stRunning ∧ 60 * 1000 * ms ≤ elapsed 0 (BitVec.ofNat 48 (60000 * ms)))
      ∧ ¬ (checked stLoaded).wstate = stRunning ∧ (checked stRunning).get (Reg.WVE_PLY_STATE 0) ≠ 3 := by decide

def starting : State := { woven stLoaded with weave := { runReq := true } }

theorem witness_LoomStartAndStop :
    starting.weave.runReq = true ∧ starting.wstate = stLoaded ∧ starting.enumStart = none
      ∧ starting.get Reg.SAF_STAT_STATE ≠ 4 ∧ starting.supply.standby = false ∧ starting.weave.prog = none
      ∧ starting.weave.erasing = [] ∧ (put (up []) [(Reg.SAF_STAT_STATE, 4)]).weave.runReq = false
      ∧ (run [] []).wstate = stRunning ∧ (run [] []).running = true ∧ ((run [] []).at 9).standstill = true
      ∧ ((run [] []).at 9).headlandFirst = false ∧ (woven stLoaded).wstate ≠ stRunning := by decide

/-- An update at angle 0 of a pitch of 1/288 of the cycle. -/
def upd : Update :=
  { tidx := 0, src := 0, mode := false, ins := false, mark := false, half := false, step := false, nspan := 1, time := 1000
    angle := 0, dang := 2 ^ 48 / 288, period := 381000, slope := 0 }

def fed : State := (run [(3, 0), (3, 63)] [(Reg.WRP_SYNC_STATE 0, ssPhased)]).setWf 0 { formed := [upd] }

theorem witness_ToothUpdateBroadcast :
    (fed.wf 0).formed = upd :: [] ∧ fed.running = true ∧ fed.delivering = 0 ∧ fed.allAcknowledged = true
      ∧ (fed.setSh 63 { upd := some upd }).allAcknowledged = false ∧ fed.hasTile 3 63 = true ∧ fed.hasTile 3 1 = false := by
  decide

/-! ### Banks and the Heddle -/

/-- Bank 0 with its owner and a Heddle. -/
def owned (k : Bank) (l : List (Fld × Nat)) : State := (run [(4, 0), (3, 0)] l).setBk 0 { k with owner := some 0 }

def req (placed : Bool) : Request :=
  { sht := 0, idx := 1, ch := 0, kind := 1, time := 100, commit := 0, placed, waiting := false }

def asked (placed : Bool) : State :=
  (run [(4, 0)] [(Reg.BNK_CFG_CH_EN 0, 15)]).setBk 0 { reqs := [req placed], gates := { next := some (true, false, some 0) } }

theorem witness_BankRequests :
    ((asked false).bk 0).reqs.find? (fun q => !q.placed) = some (req false) ∧ (asked false).cutInForce = false
      ∧ (asked false).minOff 0 (req false) 1700 = none
      ∧ firstRequest (((asked true).bk 0).reqs.filter (fun q => q.placed && !q.waiting && notBefore 100 q.time))
          = some (req true)
      ∧ (asked true).cutInForce = false ∧ (asked true).dropCause 0 (req true) = none
      ∧ ((asked true).bk 0).busyWith 0 = false ∧ (asked true).minOff 0 (req true) 100 = none
      ∧ (asked true).admits 0 = true ∧ ((asked true).bk 0).gates.next = some (true, false, some 0)
      ∧ (let held := (asked true).setBk 0 { (asked true).bk 0 with owner := some 1 }
        held.admits 0 = false ∧ (held.bk 0).busyWith 0 = false ∧ held.dropCause 0 (req true) = none
          ∧ held.minOff 0 (req true) 100 = none)
      ∧ (let own := (asked true).setBk 0 { (asked true).bk 0 with owner := some 0 }
        (own.bk 0).busyWith 0 = true ∧ own.dropCause 0 (req true) = none)
      ∧ firstRequest (((owned {} []).bk 0).reqs.filter (fun q => q.placed && !q.waiting && notBefore 100 q.time)) = none
      ∧ ((owned {} []).bk 0).reqs.find? (fun q => !q.placed) = none ∧ ((owned {} []).bk 0).gates.next = none
      ∧ notBefore 100 0 = true ∧ notBefore 100 101 = false := by decide

/-- Bank 0 about to issue the instruction `w` at address 0. -/
def issuing (w : Nat) : State := owned { heddle := { phase := .issue } } [(Reg.HDL_EVEN 0 0, w)]

theorem witness_HeddleInstructions :
    (∀ x ∈ [(8, 840), (9, 840), (10, 255), (12, 255), (13, 5 * 65536 + 255), (14, 255), (15, 255),
        (1, 3 * 65536), (2, 65536 + 16383), (3, 1), (4, 0), (5, 7), (6, 131072)],
      (issuing (x.1 * 2 ^ 19 + x.2)).mustTrap 0 = false ∧ (issuing (x.1 * 2 ^ 19 + x.2)).issues 0 x.1 = true
        ∧ (owned {} []).issues 0 x.1 = false)
      ∧ (∀ x ∈ [1, 2, 3, 4, 5, 6, 8, 9, 10, 12, 13, 14, 15],
        (owned { heddle := { phase := .issue, nd := 64 } } [(Reg.HDL_EVEN 0 0, x * 2 ^ 19)]).issues 0 x = true)
      ∧ (owned { heddle := { phase := .issue, nd := 64 } } [(Reg.HDL_EVEN 0 0, 8 * 2 ^ 19)]).mustTrap 0 = true
      ∧ (issuing (4 * 2 ^ 19)).modesOk = true := by decide

/-- The comparators of bank 0 are in the modes that its state asks for, and have been. -/
def settled (s : State) : State :=
  { s with cmps := vset s.cmps 0 { main := { code := (s.bk 0).mainMode }, zero := { code := (s.bk 0).zeroMode }
                                   drain := { code := (s.bk 0).drainMode } } }

def waiting (op : Nat) (k : Bank) : State := settled (owned k [(Reg.HDL_EVEN 0 0, op * 2 ^ 19)])

theorem witness_HeddleWaitsEnd :
    let a := waiting 2 { heddle := { phase := .wait, limit := 800, pk := 400 } }
    let b := waiting 3 { heddle := { phase := .wait, vy := 400 } }
    let c := waiting 4 { heddle := { phase := .chop, limit := 800, isOn := true, pk := 400, vy := 300, blank := 80 } }
    let d := waiting 4 { heddle := { phase := .chop, limit := 800, isOn := false, pk := 400, vy := 300, blank := 80 } }
    let e := waiting 6 { heddle := { phase := .chop, cont := true, isOn := true, pk := 400, vy := 300 } }
    let g := waiting 6 { heddle := { phase := .chop, cont := true, isOn := false, pk := 400, vy := 300 } }
    ((a.bk 0).heddle.phase = .wait ∧ (800 : Nat) ≤ elapsed 0 800 ∧ elapsed 0 799 < 800)
      ∧ ((c.bk 0).heddle.phase = .chop ∧ (c.bk 0).heddle.limit ≠ 0)
      ∧ (∀ s ∈ [a, b, c, d], s.running = true ∧ s.modesOk = true ∧ ((s.bk 0).idle && (s.bk 0).residual) = false
        ∧ (s.at 80).cmpHolds 0 7 = false ∧ (s.at 80).cmpHolds 0 6 = false ∧ (s.at 80).unblanked 0 = true
        ∧ (s.bk 0).pulse = none)
      ∧ ((a.instr 0 0).op = 2 ∧ (a.bk 0).heddle.pc = 0 ∧ reaches 100000 (a.bk 0).heddle.pk = true)
      ∧ ((b.bk 0).heddle.phase = .wait ∧ (b.instr 0 0).op = 3 ∧ reaches 99999 (b.bk 0).heddle.vy = false)
      ∧ ((c.bk 0).heddle.cont = false ∧ (c.bk 0).heddle.blank ≤ elapsed (c.bk 0).heddle.changeAt 80
        ∧ (c.bk 0).heddle.isOn = true ∧ reaches 100000 (c.bk 0).heddle.pk = true ∧ (d.bk 0).heddle.isOn = false
        ∧ reaches 74999 (d.bk 0).heddle.vy = false)
      ∧ ((owned { selftest := some 0 } []).at 80).cmpHolds 0 7 = true ∧ (up []).running = false
      ∧ ((up []).at 80).cmpHolds 0 7 = false
      ∧ (∀ s ∈ [e, g], (s.bk 0).owner.isSome = true ∧ (s.bk 0).pulse = none ∧ (s.at 160000).unblanked 0 = true
        ∧ (s.at 160000).cmpHolds 0 7 = false ∧ (s.bk 0).heddle.phase = .chop ∧ (s.bk 0).heddle.cont = true
        ∧ s.dwell 0 ≤ elapsed (s.bk 0).heddle.changeAt 160000)
      ∧ ((e.bk 0).heddle.isOn = true ∧ reaches 100000 (e.bk 0).heddle.pk = true ∧ (g.bk 0).heddle.isOn = false
        ∧ reaches 74999 (g.bk 0).heddle.vy = false) ∧ ((up []).bk 0).inCont = false
      ∧ (∀ s ∈ [put e [(Reg.BNK_THM_LEVEL 0 0, 3)], put g [(Reg.BNK_THM_LEVEL 0 0, 3)]], s.get (Reg.BNK_THM_LEVEL 0 0) = 3
        ∧ (s.bk 0).owner = some 0 ∧ (s.bk 0).heddle.stopping = false ∧ (s.bk 0).pulse = none ∧ (s.at 160000).unblanked 0 = true
        ∧ (s.at 160000).cmpHolds 0 7 = false ∧ (s.at 160000).cmpHolds 0 6 = false ∧ s.dwell 0 ≤ elapsed (s.bk 0).heddle.changeAt 160000) := by
  decide

theorem witness_BankRecovery :
    let a := issuing 0
    let b := issuing (5 * 2 ^ 19)
    let c := owned { heddle := { phase := .recov, limit := 1600 }, ovl := some (1, 700, false) } [(Reg.BNK_CFG1_ZTH 0, 40)]
    (a.is (Reg.BNK_CFG_RECOV_OVERLAP 0) = false ∧ (a.bk 0).owner.isSome = true ∧ (a.bk 0).heddle.phase = .issue
        ∧ a.mustTrap 0 = true)
      ∧ (b.issues 0 5 = true ∧ b.mustTrap 0 = false)
      ∧ ((c.bk 0).owner = some (0 : Fin 4).val ∧ (c.bk 0).heddle.phase = .recov ∧ (c.bk 0).reqs = [] ∧ (c.bk 0).contDue = false
        ∧ (c.at 80).unblanked 0 = true ∧ reaches 9999 (c.get (Reg.BNK_CFG1_ZTH 0)) = false ∧ reaches 10000 40 = true
        ∧ (c.bk 0).heddle.limit ≤ elapsed (c.bk 0).heddle.base 1600)
      ∧ (a.bk 0).heddle.phase ≠ .recov
      ∧ ((c.bk 0).ovl = some ((1 : Fin 4).val, 700, false) ∧ notBefore 700 700 = true ∧ notBefore 699 700 = false) := by decide

def ent : ListEntry := { ang := 0, len := 800000, kind := 2, bank := 0, ch := 0, lock := false }

def pulse (started stopDone : Bool) : Pulse := { idx := 1, ent, late := 0, started, start := 100, stop := 800100, stopDone }

theorem witness_ContinuousModeAndStops :
    let a := (run [(4, 0)] []).setBk 0 {}
    let b := owned { heddle := { phase := .chop, cont := true } } [(Reg.BNK_CONT_EN 0, 1), (Reg.BNK_CONT_WRITER 0, 1)]
    let e := put a [(Reg.SYS_STATUS_LEVEL, 1), (Reg.BNK_CONT_TMIN 0, 1)]
    let p := (owned { pulse := some (0, 1), heddle := { phase := .wait } } []).setSh 0 { pulse := some (pulse true true) }
    let q := { p with bkTok := vset p.bkTok 0 { rotation := true }, shTok := vset p.shTok 0 { rotation := true } }
    (a.hasTile 4 0 = true ∧ a.is (Reg.BNK_CONT_EN 0) = false ∧ (a.bk 0).idle = true ∧ a.running = true
        ∧ a.latched 0 0 = false ∧ a.get (Reg.BNK_THM_LEVEL 0 0) ≠ 3 ∧ (a.bk 0).reqs = [])
      ∧ (b.hasTile 4 0 = true ∧ b.is (Reg.BNK_CONT_EN 0) = true ∧ (b.bk 0).inCont = true ∧ (b.bk 0).heddle.stopping = false
        ∧ (b.bk 0).owner = some (0 : Fin 4).val ∧ b.get (Reg.BNK_CONT_WRITER 0) = 1)
      ∧ (up []).hasTile 4 0 = false
      ∧ (a.get (Reg.BNK_CONT_WRITER 0) = 0 ∧ (840 : Fin 1024).val ≤ 840 ∧ 840 < (841 : Fin 1024).val ∧ a.levelE = false)
      ∧ (e.levelE = true ∧ 2 ≤ (2 : Fin 256).val ∧ 1 ≤ e.get (Reg.BNK_CONT_TMIN 0) ∧ e.get (Reg.BNK_CONT_WRITER 0) = 0
        ∧ e.hasTile 4 0 = true)
      ∧ ((p.sh 0).pulse = some (pulse true true) ∧ notBefore 800100 (pulse true true).stop = true
        ∧ (pulse true true).started = true ∧ (pulse true true).ent.bank = 0 ∧ (p.bk 0).pulse = some (0, (pulse true true).idx)
        ∧ (p.bk 0).owner = some (0 : Fin 4).val ∧ (p.bk 0).heddle.stopping = false ∧ (p.bk 0).heddle.phase ≠ .recov)
      ∧ ((vget q.shTok 0).rotation = true ∧ (vget p.shTok 0).rotation = false ∧ (vget p.bkTok 0).rotation = false)
      ∧ ((vget q.bkTok 0).rotation = true ∧ q.hasTile 4 0 = true ∧ (q.bk 0).energised = true
        ∧ (q.bk 0).heddle.stopping = false ∧ (q.bk 0).owner = some (0 : Fin 4).val) := by decide

theorem witness_BoostControllers :
    let a := (run [(5, 0)] [(Reg.BST_CFG_MODE 0, 1), (Reg.BST_CFG_VSET 0, 65), (Reg.BST_LIM_HYST 0, 2), (Reg.BST_STAT_OV 0, 1)])
    let a := { a with saf := { runSeen := true } }
    let b := a.setBst 0 { enabled := true, ovSince := some 0 }
    (a.hasTile 5 0 && a.is (Reg.BST_CFG_MODE 0) && a.running && a.saf.runSeen && !(a.bst 0).enabled) = true
      ∧ (b.hasTile 5 0 && b.is (Reg.BST_CFG_MODE 0) && b.running && b.saf.runSeen && !(b.bst 0).enabled) = false
      ∧ (up []).hasTile 5 0 = false ∧ b.hasTile 5 0 = true ∧ b.is (Reg.BST_CFG_MODE 0) = true ∧ (b.bst 0).enabled = true
      ∧ 10 * b.get (Reg.BST_CFG_VSET 0) ≤ (650 : Fin 4096).val ∧ (run [(5, 0)] []).is (Reg.BST_CFG_MODE 0) = false
      ∧ b.is (Reg.BST_STAT_OV 0) = true ∧ (b.bst 0).ovSince = some 0 ∧ (b.bst 0).told = false ∧ ms ≤ elapsed 0 1600000
      ∧ (a.bst 0).ovSince = none := by decide

theorem witness_BankDetections :
    let a := owned { pulse := some (0, 1), heddle := { phase := .wait } }
      [(Reg.HDL_EVEN 0 0, 2 ^ 19 + 65536), (Reg.BNK_CDCFG_OL_T 0 0, 100), (Reg.BNK_CDCFG_OL_ITH 0 0, 40)]
    let b := settled (owned { pulse := some (0, 1), gates := { hsb := true, ls := some 0 } }
      [(Reg.BNK_CFG_CH_EN 0, 3), (Reg.BNK_CDCFG_VDS_TH 0 0, 20), (Reg.BNK_DCFG_DSAT_TH 0, 20)])
    let c := settled ((run [(4, 0)] []).setBk 0 { idleAt := some 0 })
    let d := settled (owned {} [(Reg.BNK_CDCFG_VDS_TH 0 0, 20), (Reg.BNK_DCFG_DSAT_TH 0, 20)])
    let h := owned { selftest := some 0 } []
    ((h.at 80).cmpHolds 0 0 = true ∧ (h.at 80).cmpHolds 0 4 = true ∧ (h.bk 0).owner = some (0 : Fin 4).val) ∧ ((a.bk 0).owner = some (0 : Fin 4).val ∧ (a.bk 0).energised = true ∧ (a.bk 0).heddle.stopping = false
        ∧ (a.bk 0).checked = false ∧ a.entryDrive 0 0 = some 1
        ∧ a.get (Reg.BNK_CDCFG_OL_T 0 0) * us ≤ elapsed (a.bk 0).tStart 160000
        ∧ (a.bk 0).peaked = false ∧ reaches 9999 (a.get (Reg.BNK_CDCFG_OL_ITH 0 0)) = false
        ∧ reaches 10000 (a.get (Reg.BNK_CDCFG_OL_ITH 0 0)) = true ∧ (a.bk 0).reqs.all (fun r => !r.waiting) = true
        ∧ (a.bk 0).heddle.phase ≠ .recov)
      ∧ ((b.bk 0).owner = some (0 : Fin 4).val ∧ (b.at 100000).cmpHolds 0 0 = false ∧ ((b.bk 0).gatesAt 100000).ls = some 0
        ∧ b.get (Reg.BNK_DCFG_LSD_BLANK 0) * 160 + 800 ≤ elapsed ((b.bk 0).gatesAt 100000).lsAt 100000
        ∧ b.get (Reg.BNK_CDCFG_VDS_TH 0 0) * 50 ≤ 1000 ∧ 999 < b.get (Reg.BNK_CDCFG_VDS_TH 0 0) * 50
        ∧ ((d.bk 0).gatesAt 100000).ls ≠ some 0 ∧ (d.at 100000).cmpHolds 0 0 = false)
      ∧ ((b.at 100000).cmpHolds 0 4 = false ∧ (((b.bk 0).gatesAt 100000).hsb || ((b.bk 0).gatesAt 100000).hsv) = true
        ∧ b.get (Reg.BNK_DCFG_DSAT_BLANK 0) * 160 + 320 ≤ elapsed ((b.bk 0).gatesAt 100000).hsAt 100000
        ∧ b.get (Reg.BNK_DCFG_DSAT_TH 0) * 50 ≤ 1000 ∧ (d.at 100000).cmpHolds 0 4 = false
        ∧ (((d.bk 0).gatesAt 100000).hsb || ((d.bk 0).gatesAt 100000).hsv) = false)
      ∧ ((b.bk 0).heddle.blank + us ≤ elapsed (b.bk 0).heddle.gateAt 100000 ∧ ((b.bk 0).gates.hsb || (b.bk 0).gates.hsv) = true
        ∧ b.populated 0 1 = true ∧ (b.bk 0).owner ≠ some (1 : Fin 4).val ∧ (b.at 100000).cmpHolds 0 1 = false ∧ 3999 < 4000)
      ∧ ((c.bk 0).idleAt = some 0 ∧ (c.bk 0).idle = true ∧ (c.bk 0).residual = false ∧ (c.at 1600000).cmpHolds 0 5 = false
        ∧ 10 * us + c.get (Reg.BNK_DCFG_RESID_T 0) * us ≤ elapsed 0 1600000 ∧ reaches 210000 (c.residualTh 0) = true
        ∧ reaches 0 (c.residualTh 0) = false ∧ ((c.bk 0).gates.hsb || (c.bk 0).gates.hsv) = false) := by decide

def tail (samples : List Nat) : Tail :=
  { ch := 0, start := 0, tStart := 0, tStop := 0, samples, count := 9, peak := 400, peakAt := 4, before := some 300, drift := some 0 }

theorem witness_BankTestsAndLatches :
    let a := (run [(4, 0)] [(Reg.BNK_DCFG_OFFT_PER 0, 100), (Reg.BNK_DCFG_OFFT_EN 0, 1), (Reg.CMP_CTRL_ST_EN, 1)]).setBk 0 {}
    let b := a.setBk 0 { test := some 0 }
    let e := a.setBk 0 { tested := true, retest := true }
    let st := a.setBk 0 { selftest := some 0 }
    let c := (put a [(Reg.BNK_CDSTAT_LATCH 0 0, 1), (Reg.BNK_DSTAT_LATCH 0, 1)]).setBk 0
      { latchAt := #v[some 5, none, none, none, some 5] }
    let d := (put a [(Reg.BNK_CLCFG_CLW 0, 200), (Reg.BNK_CLCFG_CL_BLANK 0, 10), (Reg.BNK_CLCFG_CL_MIN 0, 25),
      (Reg.BNK_CLCFG_CL_FRAC 0, 12)]).setBk 0 { tail := some (tail [10, 10, 10]) }
    (a.hasTile 4 0 = true ∧ a.running = true
        ∧ a.get (Reg.BNK_DCFG_OFFT_PER 0) * ms ≤ elapsed (a.bk 0).period 160000000
        ∧ elapsed (a.bk 0).period 159999999 < a.get (Reg.BNK_DCFG_OFFT_PER 0) * ms ∧ (a.bk 0).tested = false
        ∧ a.is (Reg.BNK_DCFG_OFFT_EN 0) = true ∧ (e.bk 0).tested = true)
      ∧ (a.testable 0 = true ∧ e.testable 0 = true ∧ (e.bk 0).early = false ∧ (e.bk 0).retest = true
        ∧ e.is Reg.CMP_CTRL_ST_EN = true ∧ b.testable 0 = false)
      ∧ ((b.bk 0).test = some 0 ∧ b.is (Reg.BNK_DCFG_OFFT_EN 0) = true ∧ 60 * us ≤ elapsed 0 96000 ∧ (b.bk 0).contDue = false
        ∧ (b.bk 0).reqs.all (fun r => !r.waiting) = true ∧ (a.bk 0).test = none)
      ∧ ((st.bk 0).selftest = some 0 ∧ 2 * us ≤ elapsed 0 3200 ∧ elapsed 0 3199 < 2 * us ∧ (st.bk 0).contDue = false
        ∧ (st.bk 0).reqs.all (fun r => !r.waiting) = true ∧ (a.bk 0).selftest = none)
      ∧ (c.hasTile 4 0 = true ∧ (c.bk 0).contDue = false ∧ c.is (Reg.BNK_CDSTAT_LATCH 0 0) = true
        ∧ vget (c.bk 0).latchAt 0 = some 5 ∧ vget (c.bk 0).latchAt 0 ≠ some 6 ∧ c.is (Reg.BNK_DSTAT_LATCH 0) = true
        ∧ vget (c.bk 0).latchAt 4 = some 5 ∧ vget (c.bk 0).latchAt 4 ≠ some 6 ∧ (up []).hasTile 4 0 = false)
      ∧ ((d.bk 0).tail = some (tail [10, 10, 10]) ∧ d.get (Reg.BNK_CLCFG_CLW 0) * 2 * us ≤ elapsed 0 640000
        ∧ elapsed 0 31999 < d.get (Reg.BNK_CLCFG_CL_BLANK 0) * 2 * us
        ∧ elapsed 0 31999 < d.get (Reg.BNK_CLCFG_CLW 0) * 2 * us
        ∧ d.get (Reg.BNK_CLCFG_CL_BLANK 0) * 2 * us ≤ elapsed 0 32000 ∧ (tail [10, 10, 10]).before = some 300
        ∧ (10 : Fin 1024).val + 10 + 10 + 10 < 300 ∧ (40 : Nat) ≤ (tail []).peak ∧ (tail []).peakAt ≤ (tail []).count
        ∧ 4 * d.get (Reg.BNK_CLCFG_CL_MIN 0) ≤ (tail []).peak
        ∧ 16 * 40 < (tail []).peak * d.get (Reg.BNK_CLCFG_CL_FRAC 0) ∧ ((d.setBk 0 { tail := some (tail [1, 2]) }).bk 0).tail = some (tail [1, 2]) ∧ (tail [1, 2]).samples.length < 3
        ∧ (a.bk 0).tail = none) := by decide

theorem witness_CoilHeat :
    let a := (run [(4, 0)] []).setBk 0 { thermal := #v[{ due := true }, {}, {}, {}] }
    let b := put a [(Reg.BNK_THP_R_REF 0 0, 1000)]
    (a.hasTile 4 0 = true ∧ (vget (a.bk 0).thermal 0).due = true ∧ a.get (Reg.BNK_THP_R_REF 0 0) = 0)
      ∧ (10 * ms ≤ elapsed (vget (a.bk 0).thermal 1).last 16000000 ∧ (a.bk 0).owner = none ∧ (a.bk 0).ovl = none)
      ∧ (b.hasTile 4 0 = true ∧ b.get (Reg.BNK_THP_R_REF 0 0) ≠ 0 ∧ (b.bk 0).contDue = false
        ∧ (b.bk 0).reqs.all (fun r => !r.waiting) = true)
      ∧ ((vget (a.bk 0).thermal 1).due = false ∧ elapsed (vget (a.bk 0).thermal 1).last 15999999 < 10 * ms)
      ∧ (up []).hasTile 4 0 = false := by decide

/-! ### Shuttles and pulse outputs -/

def entry (bank : Nat) : ListEntry := { ang := 0, len := 800000, kind := 2, bank, ch := 0, lock := false }

def aiming (func : Nat) : State := (run [(3, 0), (1, 0)]
  [(Reg.WRP_SYNC_STATE 0, ssPhased), (Reg.SHT_CFG_FUNC 0, func), (Reg.SHT_LIM_HORIZON 0, 20), (Reg.SHT_GATE_SEQ 0, 15)]).setSh 0
  { upd := some upd, prev := some upd, list := [none, some (entry 0)], next := 2, cur := some 1, cand := some (10000, 0) }

theorem witness_ShuttleStartsAndStops :
    let a := aiming fnPulse
    let b := a.setSh 0 { pulse := some { pulse true false with stop := 10000 } }
    let w := fun (ready noWindow : Nat) => (put (up [(3, 0)]) [(Reg.SHT_CTRL_EN 0, 1), (Reg.SHT_CFG_FUNC 0, fnPulse),
      (Reg.SHT_CTRL_READY 0, ready)]).setSh 0
        { upd := some upd, prev := some { upd with angle := 0xFFFFFFFFFFFF }, noWindow := noWindow == 1 }
    let r := fun (cur ang : Word) (len next : Nat) => (run [(3, 0), (1, 0)] [(Reg.WRP_SYNC_STATE 0, ssPhased), (Reg.SHT_CFG_FUNC 0, fnPulse),
      (Reg.SHT_LIM_HORIZON 0, 20), (Reg.SHT_LIM_LATE_TOL 0, 20), (Reg.WFT_CTRL_K 0, 8)]).setSh 0
        { upd := some { upd with angle := cur }, list := [some { entry 0 with ang, len }], next, cur := some 0 }
    let x := fun (cur ang : Word) (len : Nat) => let u := { upd with angle := cur }
      ((r cur ang len 8).at 1000).projAt u (Machine.sdiff (((r cur ang len 8).at 1000).startAngle u { entry 0 with ang, len }).1 cur)
    ((w 1 0).serving 0 = true ∧ ((w 1 0).sh 0).noWindow = false ∧ ((w 1 0).sh 0).upd = some upd ∧ upd.step = false
        ∧ 0 ≤ Machine.sdiff upd.angle ((w 1 0).reg (Reg.SHT_LIST_addr 0)) ∧ Machine.sdiff 0xFFFFFFFFFFFF ((w 1 0).reg (Reg.SHT_LIST_addr 0)) < 0
        ∧ ((w 1 0).sh 0).advance = none ∧ (w 1 0).is (Reg.SHT_CTRL_READY 0) = true ∧ ((w 1 0).sh 0).readyAt ≠ some 5
        ∧ (w 0 0).is (Reg.SHT_CTRL_READY 0) = false ∧ ((w 1 1).sh 0).noWindow = true)
      ∧ (2 * (upd.period : Int) + upd.slope ≠ 0 ∧ ((r 0 0 1 8).sh 0).cur = some 0 ∧ (r 0 0 1 8).startAllowed 0 2 0 = true
        ∧ x 0 0x800000000000 1 = .wait ∧ x 0 488671834567 1 = .at 191500 ∧ x 0 3257812230 1 = .at 2488 ∧ (r 0 0 1 8).horizon 0 = 3200
        ∧ x 5 5 1 = .past 2565206 ∧ x 5 5 1000000 = .past 2565206480667 ∧ (r 5 5 1 8).lateTol 0 = 122167958642)
      ∧ ((a.sh 0).upd = some upd ∧ (aiming fnOff).get (Reg.SHT_CFG_FUNC 0) = fnOff)
      ∧ ((a.sh 0).cur = some 1 ∧ (a.sh 0).cand = some (10000, 0) ∧ (a.sh 0).list.getD 1 none = some (entry 0)
        ∧ a.get (Reg.SHT_CFG_FUNC 0) = fnPulse ∧ (a.sh 0).pulse = none ∧ Machine.sdiff 10000 6800 ≤ a.horizon 0
        ∧ (a.horizon 0 : Int) < Machine.sdiff 10000 6799 ∧ (entry 0).bank < 12 ∧ a.startAllowed 0 (entry 0).kind 0 = true)
      ∧ (∃ p, (b.sh 0).pulse = some p ∧ p.started = true ∧ p.stopDone = false ∧ Machine.sdiff p.stop 6800 ≤ b.horizon 0)
      ∧ (b.horizon 0 : Int) < Machine.sdiff 10000 6799 ∧ (b.sh 0).cand = none ∧ (b.sh 0).upd = none
      ∧ ((b.setSh 0 { pulse := some (pulse true true) }).sh 0).pulse = some (pulse true true) ∧ (pulse true true).stopDone = true
      ∧ (pulse false false).started = false :=
  ⟨by decide, by decide +kernel, by decide, by decide, ⟨_, rfl, by decide⟩, by decide, by decide, by decide, by decide, by decide, by decide⟩

def gate (opened : Bool) (close tickAt : Option Word) : Gate :=
  { newGate 1 (entry 0) 10000 false with opened, close, tickAt }

theorem witness_ShuttleGates :
    let a := aiming fnGate
    let b := a.setSh 0 { (a.sh 0) with gate := some (gate false none none) }
    let c := a.setSh 0 { (a.sh 0) with gate := some (gate true (some 20000) (some 20000)) }
    ((a.sh 0).cur = some 1 ∧ (a.sh 0).cand = some (10000, 0) ∧ a.get (Reg.SHT_CFG_FUNC 0) = fnGate ∧ (a.sh 0).gate = none
        ∧ (a.sh 0).list.getD 1 none = some (entry 0) ∧ Machine.sdiff 10000 6800 ≤ a.horizon 0 ∧ a.gateAllowed 0 = true)
      ∧ ((run [] []).sh 0).cand = none ∧ (a.sh 0).gate = none
      ∧ ((b.sh 0).gate = some (gate false none none) ∧ (b.sh 0).prev = some upd ∧ (gate false none none).opened = false
        ∧ notBefore 10000 (gate false none none).at_ = true ∧ notBefore 9999 (gate false none none).at_ = false)
      ∧ ((c.sh 0).gate = some (gate true (some 20000) (some 20000)) ∧ (c.sh 0).prev = some upd
        ∧ Machine.sdiff 20000 16800 ≤ c.horizon 0 ∧ (c.horizon 0 : Int) < Machine.sdiff 20000 16799
        ∧ notBefore 20000 20000 = true ∧ notBefore 19999 20000 = false) := by decide

theorem witness_ShuttleControl :
    let a := { run [(3, 0)] [] with shTok := vset (Vector.replicate 64 {}) 0 { sync := true, rotation := true } }
    let b := put a [(Reg.SHT_CTRL_EN 0, 1), (Reg.SHT_CTRL_READY 0, 1), (Reg.SHT_CFG_WRITER 0, 1)]
    (vget a.shTok 0).sync = true ∧ (vget a.shTok 1).sync = false ∧ a.hasTile 3 0 = true ∧ a.hasTile 3 63 = false
      ∧ a.is (Reg.SHT_CTRL_EN 0) = false ∧ b.is (Reg.SHT_CTRL_EN 0) = true ∧ a.is (Reg.SHT_CTRL_READY 0) = false
      ∧ b.is (Reg.SHT_CTRL_READY 0) = true ∧ a.is (Reg.SHT_CFG_WRITER 0) = false
      ∧ (put b [(Reg.SHT_CTRL_READY 0, 0)]).is (Reg.SHT_CTRL_READY 0) = false
      ∧ (put b [(Reg.SHT_CTRL_READY 0, 0)]).is (Reg.SHT_CFG_WRITER 0) = true := by decide

theorem witness_PulseOutputs :
    let a := (run [(13, 0), (13, 1)] []).setPo 0 { upd := some upd, last := some upd, at_ := some 10000, run := true, edges := 8 }
    let a := a.setPo 1 { last := some upd, at_ := some 10000, run := true, edges := 8, idx := 7, delayed := true }
    let b := fun (d : Bool) => ((run [] []).setPo 0 { last := some upd, at_ := some 10000, a := true, delayed := d, upd := some upd }).setPo 1
      { last := some upd, at_ := some 10000, a := true, delayed := d }
    let c := fun (l : Word) => (run [] []).setPo 0 { upd := some upd, run := true, a := true, lastAt := some l }
    (∀ d, ((b d).po 0).run = false ∧ ((b d).po 1).run = false ∧ ((b d).po 1).at_ = some 10000) ∧ (((c 1).po 0).spaced 4000).2 = true
      ∧ (((c 1).po 0).spaced 4001).2 = false ∧ (c 1).outRuns 0 = false ∧ ((c 1).po 0).a = true ∧     (a.po 0).upd = some upd ∧ a.outRuns 0 = false ∧ (a.po 1).upd = none ∧ (a.po 0).at_ = some 10000 ∧ (a.po 0).last = some upd
      ∧ (a.po 0).run = true ∧ notBefore 10000 10000 = true ∧ notBefore 9999 10000 = false ∧ (a.po 1).at_ = some 10000
      ∧ (a.po 1).run = true ∧ ((run [] []).po 0).at_ = none ∧ ((run [] []).po 1).at_ = none := by decide

/-! ### Wheel inputs and prediction -/

def pinned (n type : Nat) : State :=
  let s := run [(1, n)] [(Reg.WRP_CFG_TYPE n, type), (Reg.WRP_CFG_FILT n, 1), (Reg.WRP_CFG_EDGE n, 1)]
  onBalls s 1 n [0, 1]

theorem witness_WheelFilterAndStall :
    let a := pinned 0 1
    let vr := (pinned 0 0).setWp 0 { armed := true }
    let b := put (a.setWp 0 { pend := some (true, 1000) }) [(Reg.WRP_SYNC_STATE 0, ssStall)]
    let c := a.setWp 0 { pend := some (false, 1000), level := true }
    let d := put ((pinned 0 2).setWp 0 { pulse := some 0 }) [(Reg.WRP_SYNC_STATE 0, ssHunt)]
    let e := (pinned 5 2).setWp 5 { pulse := some 0 }
    let f := fun (st : Nat) => put (a.setWp 0 { stallBase := some 0, stallP := some 1000 })
      [(Reg.WRP_SYNC_STATE 0, st), (Reg.WRP_MODE_STALL_N 0, 4), (Reg.WRP_MODE_STALL_CAP 0, 100)]
    let g := { put (f ssPhased) [(Reg.WRP_MODE_CRK_MODE 1, 2), (Reg.WRP_SYNC_STATE 1, ssPhased)] with
      weave := { tiles := [(1, 0), (1, 1)] } }
    let h := put (f ssPhased) [(Reg.WRP_MODE_BORROW_EN 0, 1), (Reg.PRX_STAT_LINK, 2), (Reg.PRX_STAT_CHECK, 0),
      (Reg.PRX_STAT_MAP_VALID, 1), (Reg.PRX_PART_STATE, 4)]
    let h := { h with weave := { pair := true, tiles := [(1, 0), (16, 0)] }, pair := { toothAt := some 3900, toothFor := 101 } }
    let i := { put (f ssCrankSync) [(Reg.WRP_MODE_LIMP_EN 0, 1), (Reg.WRP_SYNC_CAMST 2, 2)] with
      weave := { tiles := [(1, 0), (1, 2)] } }
    let j := (run [(1, 2)] [(Reg.WRP_SYNC_STATE 0, ssLimp)]).setWp 2 { stallBase := some 0, stallP := some 1000 }
    (a.wheelLive 0 = true ∧ a.get (Reg.WRP_CFG_TYPE 0) ≠ 0 ∧ (a.wp 0).pend = none ∧ (true == a.is (Reg.WRP_CFG_EDGE 0)) = true
        ∧ true ≠ (a.wp 0).level ∧ a.filt 0 ≠ 0 ∧ (pinned 0 0).get (Reg.WRP_CFG_TYPE 0) = 0
        ∧ (up []).wheelLive 0 = false ∧ (b.wp 0).pend = some (true, 1000) ∧ true ≠ (true == !a.is (Reg.WRP_CFG_EDGE 0)))
      ∧ ((pinned 0 0).wheelLive 0 = true ∧ false ≠ (pinned 0 0).is (Reg.WRP_CFG_EDGE 0)
        ∧ true = (pinned 0 0).is (Reg.WRP_CFG_EDGE 0) ∧ ((pinned 0 0).wp 0).armed = false ∧ (vr.wp 0).armed = true
        ∧ vr.wheelLive 0 = true ∧ vr.get (Reg.WRP_CFG_TYPE 0) = 0 ∧ (vr.wp 0).pend = none ∧ (vr.wp 0).level = false
        ∧ vr.filt 0 ≠ 0 ∧ true = vr.is (Reg.WRP_CFG_EDGE 0))
      ∧ ((c.wp 0).pend = some (false, 1000) ∧ c.running = true ∧ c.filt 0 ≤ elapsed 1000 1400
        ∧ elapsed 1000 1399 < c.filt 0 ∧ c.get (Reg.WRP_CFG_TYPE 0) ≠ 2)
      ∧ (b.filt 0 ≤ elapsed 1000 1400 ∧ (b.wp 0).level = false ∧ b.sync 0 = ssStall ∧ b.running = true)
      ∧ ((a.wp 0).pend = none ∧ (up []).running = false ∧ (a.wp 0).pulse = none)
      ∧ ((d.wp 0).pulse = some 0 ∧ (d.wp 0).pulseRev = false ∧ d.sync 0 ≠ ssOff ∧ d.sync 0 ≠ ssReverse ∧ d.running = true
        ∧ (0 : Fin 6).val = d.primary ∧ (d.wp 0).pulseErr = false
        ∧ (d.wp 0).pulseLasts 0 400000 (80 * d.get (Reg.WRP_DIR_DIR_SPLIT 0)) = true
        ∧ (d.wp 0).pulseLasts 0 400000 (80 * d.get (Reg.WRP_DIR_DIR_MAX 0)) = true
        ∧ (e.wp 5).pulse = some 0 ∧ (e.wp 5).pulseLasts 0 400000 (80 * e.get (Reg.WRP_DIR_DIR_SPLIT 5)) = true)
      ∧ (((d.setWp 0 { d.wp 0 with pulseRev := true }).wp 0).pulseRev = true
        ∧ ((d.setWp 0 { d.wp 0 with pulseErr := true }).wp 0).pulseErr = true)
      ∧ (((f ssHunt).at 4000).stallDue 0 = true ∧ ((f ssHunt).at 4000).reverseNow 0 = false ∧ ((f ssHunt).at 3999).stallDue 0 = false ∧ (f ssHunt).sync 0 ≠ ssOff
        ∧ (f ssHunt).sync 0 ≠ ssStall ∧ (f ssHunt).away 0 = false ∧ (f ssHunt).primary < 2
        ∧ ¬ ((f ssHunt).sync 0 = ssCrankSync ∨ (f ssHunt).sync 0 = ssPhased))
      ∧ ((f ssPhased).sync 0 = ssPhased ∧ (0 : Fin 2).val = (f ssPhased).primary ∧ ((f ssPhased).at 4000).reverseNow 0 = false
        ∧ ((f ssPhased).at 4000).stallDue 0 = true ∧ ((f ssPhased).at 4000).standbyReady = false
        ∧ ((f ssPhased).at 4000).borrowReady 0 = false ∧ ((f ssPhased).at 4000).limpReady 0 = false)
      ∧ ((g.at 4000).stallDue 0 = true ∧ (g.at 4000).reverseNow 0 = false ∧ g.primary = 0 ∧ g.sync 0 = ssPhased ∧ (g.at 4000).standbyReady = true)
      ∧ ((h.at 4000).stallDue 0 = true ∧ (h.at 4000).reverseNow 0 = false ∧ h.primary = 0 ∧ h.sync 0 = ssPhased ∧ (h.at 4000).standbyReady = false
        ∧ (h.at 4000).borrowReady 0 = true)
      ∧ ((i.at 4000).stallDue 0 = true ∧ (i.at 4000).reverseNow 0 = false ∧ i.primary = 0 ∧ i.sync 0 = ssCrankSync ∧ (i.at 4000).standbyReady = false
        ∧ (i.at 4000).borrowReady 0 = false ∧ (i.at 4000).limpReady 0 = true)
      ∧ ((j.at 160000000000).stallDue 2 = true ∧ j.sync 0 = ssLimp
        ∧ (2 : Fin 6).val = 2 + j.get (Reg.WRP_MODE_LIMP_CAM 0) ∧ j.primary < 2 ∧ (j.at 9).stallDue 2 = false) := by
  refine ⟨?_, ?_, ?_, ?_, ?_, ?_, ?_, ?_, ?_, ?_, ?_, ?_, ?_⟩ <;> decide

/-- Warp `n` of configuration `cfg` with an edge of time word 1,000,000 in its filter, `m` LSB after the last one. -/
def edgeOn (n : Nat) (cfg : Word) (m : Nat) (w : Warp) (l : List (Fld × Nat)) : State :=
  let s := (run [(1, 0), (1, 2)] l).setReg (Reg.WRP_CFG_addr n) (0x40000000000 + cfg)
  (s.setReg (Reg.WRP_EDGE_addr n) (1000000 - BitVec.ofNat 48 m)).setWp n { w with pend := some (true, 1000000), hasRef := true, stallBase := none }

/-- A crank of twelve positions, with a gap of two at 0 and an extra tooth at 4. -/
def toothOn (m : Nat) (w : Warp) (l : List (Fld × Nat)) : State :=
  edgeOn 0 (12 * 0x200000 + 2 * 0x20000) m w ([(Reg.WRP_MARK_LEN 0 0, 2), (Reg.WRP_MARK_POS 0 1, 4), (Reg.WRP_MARK_KIND 0 1, 1),
    (Reg.WRP_MARK_LEN 0 1, 1)] ++ l)

/-- A cam of three edges. -/
def lobeOn (st m : Nat) (l : List Nat) : State :=
  edgeOn 2 (3 * 0x200000) m { camIv := 100000, camCand := l } [(Reg.WRP_SYNC_CAMST 2, st), (Reg.WRP_CAME_ANGLE 2 0, 0x10000000),
    (Reg.WRP_CAME_ANGLE 2 1, 0x50000000), (Reg.WRP_CAME_ANGLE 2 2, 0x90000000)]

/-- A crank in state `st` at position 0 whose PHASE_CAM has an edge of time word 1,000,000 in its filter; the cam's edges stand at `es`. -/
def camOn (st : Nat) (es : List Nat) : State :=
  let s := edgeOn 2 (BitVec.ofNat 48 es.length * 0x200000) 100000 {} ([(Reg.WRP_SYNC_STATE 0, st), (Reg.WRP_MODE_CAM_WIN 0, 4),
    (Reg.WRP_CFG_POS 0, 12)] ++ es.zipIdx.map (fun x => (Reg.WRP_CAME_ANGLE 2 x.2, x.1)))
  s.setWp 0 { pos := some 0, live0 := true, live1 := true, a0 := -1000000000000000, own := some { upd with time := 1000000 } }

/-- The hypotheses of a pattern of two marks. -/
theorem hypotheses_two {s : State} {n : Nat} {a b : Mark} (h : s.marks n = [a, b]) (l : a.pos ≤ b.pos) : s.hypotheses n =
    (List.range 2).filter (fun j => candsFit (s.posn n) [a, b] j (s.wp n).count (s.wp n).cands) := by
  have m : s.sortedMarks n = [a, b] := by
    rw [State.sortedMarks, h]; exact List.mergeSort_of_pairwise (by simpa using l)
  simp [State.hypotheses, m]

theorem witness_WheelEdges :
    let k := fun (p m per : Nat) (l : List (Fld × Nat)) => toothOn m { pos := some p, per } ((Reg.WRP_SYNC_STATE 0, ssPhased) :: l)
    let g := toothOn 100000 { pos := some 5, per := 100000 } [(Reg.WRP_SYNC_STATE 0, ssGapFound)]
    let x := toothOn 50000 { pos := some 3, per := 100000, sub := 1, subSum := 50000 } [(Reg.WRP_SYNC_STATE 0, ssPhased)]
    let h := fun (m : Nat) (w : Warp) => toothOn m w [(Reg.WRP_SYNC_STATE 0, ssHunt)]
    let two := toothOn 200000 { per := 100000, nper := 1 } [(Reg.WRP_SYNC_STATE 0, ssHunt), (Reg.WRP_MARK_LEN 0 0, 1), (Reg.WRP_MARK_KIND 0 1, 0)]
    let none0 := (h 100000 {}).setWp 0 { pend := some (true, 1000000) }
    let c := lobeOn
    let c0 := (c 0 100000 []).setWp 2 { pend := some (true, 1000000) }
    let rock := [(Reg.WRP_MODE_REV_RPM 0, 127)]
    let cand := fun (s : State) (l : Nat) => (s.setWp 0 { s.wp 0 with cands := (s.wp 0).cands ++ [⟨false, l, (s.wp 0).count + 1⟩], count := 0 })
    let u : Update := { upd with time := 1000000 }
    ((∀ s ∈ [k 5 20000 100000 [], h 100000 {}, two], (s.wp 0).pend = some (true, 1000000) ∧ s.running = true
        ∧ s.filt 0 ≤ elapsed 1000000 1000400 ∧ (s.wp 0).level = false ∧ s.stallBy 0 1000000 = none ∧ s.sync 0 ≠ ssOff ∧ s.sync 0 ≠ ssStall)
      ∧ (k 5 20000 100000 []).predicted 0 = 100000 ∧ (k 5 20000 100000 []).spanFrom 0 5 = 1 ∧ (k 5 20000 100000 []).markAt 0 6 = none
      ∧ elapsed ((k 5 20000 100000 []).lastEdge 0) 1000000 = 20000)
      ∧ (ratioQ 40000 100000 < 2458 ∧ (k 5 40000 100000 []).posAfter 0 5 1 = 6
        ∧ (2458 ≤ ratioQ 100000 100000 ∧ ratioQ 100000 100000 < 6144 ∧ g.sync 0 = ssGapFound)
        ∧ (6554 ≤ ratioQ 200000 100000 ∧ ratioQ 200000 100000 < 9830
          ∧ (k 5 200000 100000 [(Reg.WRP_MODE_MISS_INS 0, 1)]).is (Reg.WRP_MODE_MISS_INS 0) = true
          ∧ (k 5 200000 100000 [(Reg.WRP_MODE_MISS_INS 0, 1)]).markAt 0 7 = none)
        ∧ (9830 ≤ ratioQ 400000 100000 ∧ (k 5 400000 100000 []).rockingSpeed 0 = false)
        ∧ (6144 ≤ ratioQ 100000000 50000000 ∧ (k 5 100000000 50000000 rock).rockingSpeed 0 = true))
      ∧ ((k 3 24000 100000 []).markAt 0 4 = some ⟨4, true, 1⟩ ∧ ratioQ (24000 * 2) 100000 < 2458
        ∧ (2867 ≤ ratioQ (50000 * 2) 100000 ∧ ratioQ (50000 * 2) 100000 < 5325 ∧ ((k 3 50000 100000 []).wp 0).sub < 1)
        ∧ ((x.wp 0).sub = 1 ∧ x.markAt 0 4 = some ⟨4, true, 1⟩)
        ∧ ((k 9 300000 100000 []).spanFrom 0 9 = 3 ∧ (k 9 300000 100000 []).markAt 0 0 = some ⟨0, false, 2⟩
          ∧ 2867 ≤ ratioQ 300000 300000 ∧ ratioQ 300000 300000 < 5325)
        ∧ (5325 ≤ ratioQ (200000 * 2) 100000 ∧ (k 3 200000 100000 []).rockingSpeed 0 = false
          ∧ (k 3 100000000 50000000 rock).rockingSpeed 0 = true))
      ∧ ((none0.wp 0).hasRef = false ∧ ((h 100000 {}).wp 0).nper = 0 ∧ ((h 20000 {}).wp 0).hasRef = true
        ∧ elapsed ((h 20000 {}).lastEdge 0) 1000000 < 22857)
      ∧ ((∀ s ∈ [h 300000 { per := 100000, nper := 1 }, h 300000 { per := 100000, nper := 1, cands := [⟨true, 1, 0⟩] }],
          s.gapFit 0 (fun l => 4096 * 300000 / ((l + 1) * 100000)) (fun l => ((300000 : Int) - (l + 1) * 100000).natAbs) = some 2
          ∧ s.is (Reg.WRP_SYNC_REV_PEND 0) = false)
        ∧ (cand (h 300000 { per := 100000, nper := 1 }) 2).hypotheses 0 = [0]
        ∧ (cand (h 300000 { per := 100000, nper := 1, cands := [⟨true, 1, 0⟩] }) 2).hypotheses 0 = []
        ∧ two.gapFit 0 (fun l => 4096 * 200000 / ((l + 1) * 100000)) (fun l => ((200000 : Int) - (l + 1) * 100000).natAbs) = some 1
        ∧ 2 ≤ ((cand two 1).hypotheses 0).length)
      ∧ ((∀ m ∈ [30000, 50000, 100000, 700000], (h m { per := 100000, nper := 2 }).gapFit 0 (fun l => 4096 * m / ((l + 1) * 100000))
          (fun l => ((m : Int) - (l + 1) * 100000).natAbs) = none)
        ∧ (h 50000 { per := 100000, nper := 2 }).extraFit 0 50000 100000 0 = some 1
        ∧ (∀ m ∈ [30000, 100000, 700000], (h m { per := 100000, nper := 2 }).extraFit 0 m 100000 0 = none)
        ∧ ratioQ 30000 100000 < 2458 ∧ 6144 ≤ ratioQ 700000 100000)
      ∧ ((∀ s ∈ [c 0 100000 [], c 1 100000 [0, 1, 2], c 1 100000 [0], c 2 24000 [], c 2 50000 [], c 2 100000 [], c 2 20000 []],
          (s.wp 2).pend = some (true, 1000000) ∧ s.running = true ∧ s.filt 2 ≤ elapsed 1000000 1000400 ∧ (s.wp 2).hasRef = true
          ∧ s.stallBy 2 1000000 = none)
        ∧ (c0.wp 2).hasRef = false ∧ (c 1 100000 []).posn 2 = 3
        ∧ ((c 1 100000 []).camRatio 2 1 100000 100000 = 8192 ∧ (c 1 100000 []).camRatio 2 2 100000 100000 = 4096
          ∧ (c 1 100000 []).camRatio 2 0 100000 100000 = 2048)
        ∧ ((c 2 24000 []).camRatio 2 1 24000 100000 < 2458 ∧ (c 2 50000 []).camRatio 2 1 50000 100000 = 4096))
      ∧ ((∀ s ∈ [camOn ssCrankSync [0], camOn ssCrankSync [0x80000000], camOn ssCrankSync [0, 0x80000000], camOn ssCrankSync [0x40000000],
            camOn ssPhased [0], camOn ssPhased [0x40000000]],
          (s.wp 0).own = some u ∧ s.hasTile 1 0 = true ∧ (2 : Fin 6).val = 2 + s.get (Reg.WRP_MODE_PHASE_CAM 0)
          ∧ s.get (Reg.WRP_SYNC_CAMST 2) < 2 ∧ (s.at 1000400).reverseNow 0 = false ∧ (s.at 1000400).stallDue 0 = false
          ∧ s.absAngle 0 + sdiff (s.ownAngleAt 0 1000000) u.angle = 0 ∧ s.unjudgedAt 0 0 = false
          ∧ (s.wp 0).live0 = true ∧ (s.wp 0).live1 = true ∧ s.rockingSpeed 0 = false)
        ∧ ([camOn ssCrankSync [0], camOn ssCrankSync [0x80000000], camOn ssCrankSync [0, 0x80000000], camOn ssCrankSync [0x40000000],
            camOn ssPhased [0], camOn ssPhased [0x40000000]].map (fun s => ((s.windowAt 0 0 0).isSome, (s.windowAt 0 1 0).isSome)))
          = [(true, false), (false, true), (true, true), (false, false), (true, false), (false, false)]) := by
  refine ⟨?_, ?_, ?_, ?_, ⟨?_, (hypotheses_two (a := ⟨0, false, 2⟩) (b := ⟨4, true, 1⟩) (by decide) (by decide)).trans ?_,
    (hypotheses_two (a := ⟨0, false, 2⟩) (b := ⟨4, true, 1⟩) (by decide) (by decide)).trans ?_, ?_, Nat.le_of_eq (Eq.symm
    ((congrArg List.length (hypotheses_two (a := ⟨0, false, 1⟩) (b := ⟨4, false, 1⟩) (by decide) (by decide))).trans ?_))⟩, ?_, ?_, ?_⟩
    <;> decide

theorem witness_WeftUpdatesAndRegisters :
    let a := (run [] [(Reg.WRP_SYNC_STATE 0, ssPhased)]).setWf 0 { last := some upd, issued := some upd }
    let b := (run [] [(Reg.WRP_SYNC_STATE 0, ssLimp)]).setWf 1 { last := some upd }
    let c := (run [] [(Reg.WRP_SYNC_STATE 0, ssBorrowed)]).setWf 1 { last := some upd }
    let e := toothOn 100000 { pos := some 5, per := 100000 } [(Reg.WRP_SYNC_STATE 0, ssPhased)]
    ((e.wp 0).pos = some 5 ∧ (e.wp 0).pend = some (true, 1000000) ∧ (e.wp 0).track = false ∧ 5 < e.posn 0 ∧ e.spanFrom 0 5 = 1
        ∧ e.markAt 0 6 = none ∧ e.running = true ∧ (e.wp 0).level = false ∧ e.stallBy 0 1000000 = none ∧ e.sync 0 = ssPhased
        ∧ e.filt 0 ≤ elapsed 1000000 1000400 ∧ ratioQ 100000 (e.predicted 0) = 4096 ∧ e.get (Reg.WRP_ACC0_QHI 0) = 6144)
      ∧ (a.wf 0).last = some upd ∧ a.get (Reg.WRP_SYNC_STATE a.primary) = ssPhased ∧ (a.wf 0).held = false ∧ (a.wf 0).formed = []
      ∧ upd.period ≤ elapsed upd.time 382000 ∧ a.edgeWarp 0 = some 0 ∧ (a.wp 0).pend = none ∧ upd.mode = false
      ∧ (∀ s ∈ [b, c], (s.wf 1).last = some upd ∧ (s.wf 1).held = false ∧ (s.wf 1).formed = [] ∧ (s.wf 0).last = none)
      ∧ b.get (Reg.WRP_SYNC_STATE b.primary) = ssLimp ∧ b.edgeWarp 1 = some 2 ∧ (b.wp 2).pend = none
      ∧ c.get (Reg.WRP_SYNC_STATE c.primary) = ssBorrowed ∧ c.edgeWarp 1 = none
      ∧ (if (a.wf 0).issued.any a.unacknowledged then (a.wf 0).issuedPrev else (a.wf 0).issued) = some upd
      ∧ (if (b.wf 0).issued.any b.unacknowledged then (b.wf 0).issuedPrev else (b.wf 0).issued) = none := by decide

/-! ### Measurement front end -/

def seqr (trig : Nat) (q : Sequencer) (tok : List GateTok) : State :=
  let s := (run [(6, 0), (7, 0), (7, 8)] [(Reg.SEQ_CTRL_EN 0, 1), (Reg.SEQ_CFG_TRIG 0, trig), (Reg.SEQ_CFG_SRC_SHT 0, 63),
    (Reg.SEQ_STAT_WIN 0, 1), (Reg.SEQ_TIMER_PER 0, 100)]).setSq 0 q
  { s with seqTok := vset s.seqTok 0 tok }

theorem witness_SequencerTriggers :
    let a := seqr tgHost {} []
    let b := seqr tgHost { pend := some { t := 5 } } []
    let c := seqr tgTimer { timer := some 160000 } []
    let d := seqr tgGate {} [.opening 63 5]
    let e := seqr tgGrid {} [.tick 63 0 5]
    let f := seqr tgGrid { closing := some ⟨1, 0, false, false, 0⟩ } [.opening 63 5]
    let g := seqr tgGrid {} [.closing 63 1 0 false false 5]
    let h := seqr tgGrid {} [.opening 62 5]
    let i := seqr tgGrid {} [.opening 63 5]
    (a.trigOf 0 = tgHost ∧ a.seqOn 0 = true ∧ (a.sq 0).pend = none ∧ vget a.seqTok 0 = [] ∧ a.hasTile 6 0 = true
        ∧ a.is (Reg.SEQ_CTRL_EN 0) ≠ false ∧ a.is (Reg.SEQ_CTRL_EN 0) = true ∧ (a.sq 0).timer = none)
      ∧ ((b.sq 0).pend.isSome = true ∧ b.trigOf 0 = tgHost ∧ b.seqOn 0 = true)
      ∧ (c.trigOf 0 ≠ tgHost ∧ c.hasTile 6 0 = true ∧ a.hasTile 6 15 = false)
      ∧ ((c.sq 0).timer = some 160000 ∧ notBefore 160000 160000 = true ∧ notBefore 159999 160000 = false ∧ c.seqOn 0 = true
        ∧ (c.sq 0).pend = none)
      ∧ (vget d.seqTok 0 = .opening 63 5 :: [] ∧ d.srcOk 0 63 = true ∧ d.trigOf 0 = tgGate ∧ d.seqOn 0 = true
        ∧ (d.sq 0).pend = none)
      ∧ (vget i.seqTok 0 = .opening 63 5 :: [] ∧ i.srcOk 0 63 = true ∧ i.trigOf 0 = tgGrid ∧ (i.sq 0).closing = none
        ∧ i.seqOn 0 = true ∧ (i.sq 0).pack = [])
      ∧ ((f.sq 0).closing.isSome = true ∧ f.trigOf 0 = tgGrid ∧ vget f.seqTok 0 = .opening 63 5 :: [] ∧ f.srcOk 0 63 = true)
      ∧ (vget e.seqTok 0 = .tick 63 0 5 :: [] ∧ e.srcOk 0 63 = true ∧ e.trigOf 0 = tgGrid ∧ e.is (Reg.SEQ_STAT_WIN 0) = true
        ∧ e.seqOn 0 = true ∧ (e.sq 0).pend = none)
      ∧ (vget g.seqTok 0 = .closing 63 1 0 false false 5 :: [] ∧ g.srcOk 0 63 = true ∧ g.trigOf 0 = tgGrid
        ∧ g.is (Reg.SEQ_STAT_WIN 0) = true)
      ∧ (vget h.seqTok 0 = .opening 62 5 :: [] ∧ h.srcOk 0 62 = false)
      ∧ vget (seqr tgGrid {} [.tick 62 0 5]).seqTok 0 = .tick 62 0 5 :: []
      ∧ vget (seqr tgGrid {} [.closing 62 1 0 false false 5]).seqTok 0 = .closing 62 1 0 false false 5 :: [] := by decide

theorem witness_SequencerPasses :
    let a := seqr tgHost { pend := some { t := 5 } } []
    let b := seqr tgHost { run := some { next := some 800 } } []
    let c := seqr tgHost { run := some {}, conv := some ⟨0, 23, 800, false⟩ } []
    let d := fun (step : Nat) =>
      put (seqr tgHost { run := some { step := step }, conv := some ⟨0, 23, 800, false⟩ } []) [(Reg.SEQ_ENT_OW 0 0, 1)]
    let e := put (seqr tgHost { run := some { step := 3, settle := some 0 } } []) [(Reg.SEQ_CFG_OW_SET 0, 50)]
    let f := seqr tgGrid { closing := some ⟨1, 0, false, false, 0⟩ } []
    let off := fun (s : State) => { s with crossings := vset s.crossings 0 { blocked := true } }
    let moving := fun (s : State) => put s [(Reg.ADC_CALST_STATE, 2), (Reg.ADC_CALST_SLOT, 0)]
    (a.slotWinner 0 = some (0, { t := 5 }) ∧ a.switching 0 = false ∧ (a.seqsOf 0).all (fun j => !(a.sq j).holds) = true)
      ∧ (a.slotWinner 7 = none ∧ (moving a).switching 0 = true ∧ (b.seqsOf 0).any (fun j => (b.sq j).holds) = true)
      ∧ ((b.sq 0).run = some { next := some 800 } ∧ (800 : Word).toNat % 8 = 0 ∧ b.anaUp = true ∧ notBefore 800 800 = true
        ∧ b.switching (b.slotOf 0) = false ∧ b.hasTile 7 (b.sliceOf (b.slotOf 0)) = true
        ∧ (vget b.slices (b.sliceOf (b.slotOf 0))).all (fun a => decide (640 ≤ elapsed a 800)) = true)
      ∧ (((off b).sq 0).run = some { next := some 800 } ∧ (off b).anaUp = false ∧ (off b).switching ((off b).slotOf 0) = false
        ∧ (off b).hasTile 7 ((off b).sliceOf ((off b).slotOf 0)) = true)
      ∧ ((801 : Word).toNat % 8 ≠ 0 ∧ notBefore 799 800 = false ∧ (moving b).switching ((moving b).slotOf 0) = true
        ∧ { b with weave := {} }.hasTile 7 ({ b with weave := {} }.sliceOf 0) = false)
      ∧ ((a.sq 0).run = none)
      ∧ ((c.sq 0).run = some {} ∧ (c.sq 0).conv = some ⟨0, 23, 800, false⟩ ∧ 600 ≤ elapsed 800 1400 ∧ elapsed 800 1399 < 600
        ∧ c.anaUp = true ∧ 23 < 46 ∧ c.owRuns 0 0 = false ∧ (off c).anaUp = false)
      ∧ (∀ i < 3, ((d i).sq 0).run = some { step := i } ∧ ((d i).sq 0).conv = some ⟨0, 23, 800, false⟩ ∧ (d i).anaUp = true
        ∧ (d i).owRuns 0 0 = true)
      ∧ ((e.sq 0).run = some { step := 3, settle := some 0 } ∧ e.get (Reg.SEQ_CFG_OW_SET 0) * us ≤ elapsed 0 80000
        ∧ elapsed 0 79999 < e.get (Reg.SEQ_CFG_OW_SET 0) * us ∧ e.switching (e.slotOf 0) = false
        ∧ (e.at 80000).slotQuiet (e.slotOf 0) 640 (some 0) = true)
      ∧ ((seqr tgHost { run := some { done := true } } []).sq 0).run.any (·.done) = true
      ∧ ((f.sq 0).closing = some ⟨1, 0, false, false, 0⟩ ∧ (f.sq 0).run = none ∧ (f.sq 0).pend = none ∧ (f.sq 0).pack = [])
      ∧ ((a.sq 0).closing = none ∧ (b.sq 0).run.isSome = true ∧ (a.sq 0).pend.isSome = true) := by
  decide

theorem witness_RotationMonitorsAndTimers :
    let rot := fun (st : Nat) => put (up [(7, 8)]) [(Reg.ADC_CTRL_CAL_EN, 1), (Reg.ADC_CTRL_CAL_PER, 100), (Reg.ADC_CTRL_ROT_WAIT, 10),
      (Reg.ADC_CALST_STATE, st), (Reg.ADC_CALST_SLOT, 7)]
    let m := put (up []) [(Reg.WM_CFG_EN 0, 1), (Reg.WM_STAT_LATCHED 0, 1), (Reg.WM_CFG_ST_EN 7, 1), (Reg.CMP_CTRL_ST_PER, 100)]
    let n := m.setWm 0 { latchAt := some 5, v := some 65535 }
    let p := { put (up []) [(Reg.PT_CFG_EN 0, 1), (Reg.PT_CFG_HIGH 0, 10), (Reg.PT_CFG_PER 0, 20)] with
      ptimers := vset (Vector.replicate 4 {}) 0 { high := true, edge := some 1600 } }
    let q := fun i => { m with monTest := { next := 8, run := some (i, 0) } }
    let x := { m with monTest := { next := 7 } }
    ((rot 0).is Reg.ADC_CTRL_CAL_EN = true ∧ (rot 0).get Reg.ADC_CALST_STATE = 0
        ∧ (rot 0).get Reg.ADC_CTRL_CAL_PER * ms ≤ elapsed (rot 0).rot.start 160000000
        ∧ elapsed (rot 0).rot.start 159999999 < (rot 0).get Reg.ADC_CTRL_CAL_PER * ms)
      ∧ ((rot 1).get Reg.ADC_CALST_STATE = 1 ∧ elapsed (rot 1).rot.start 15999999 < (rot 1).get Reg.ADC_CTRL_ROT_WAIT * ms
        ∧ (rot 1).get Reg.ADC_CTRL_ROT_WAIT * ms ≤ elapsed (rot 1).rot.start 16000000
        ∧ (rot 1).hasTile 7 ((rot 1).get Reg.ADC_MAP_SPARE) = true
        ∧ (rot 1).get (Reg.ADC_SL_CST ((rot 1).get Reg.ADC_MAP_SPARE)) ≠ 2 ∧ (rot 1).slotIdle 7 = true
        ∧ ((rot 1).at 9).slotQuiet 7 us none = true)
      ∧ ((rot 2).get Reg.ADC_CALST_STATE = 2 ∧ us ≤ elapsed (rot 2).rot.mark 1600 ∧ elapsed (rot 2).rot.mark 1599 < us)
      ∧ ({ rot 3 with crossings := vset (rot 3).crossings 0 { blocked := true } }.anaUp = false
        ∧ (rot 3).get Reg.ADC_CALST_STATE = 3 ∧ (rot 3).anaUp = true ∧ 600 * us ≤ elapsed (rot 3).rot.mark 960000
        ∧ elapsed (rot 3).rot.mark 959999 < 600 * us ∧ (3355456 : Int) ≠ 0)
      ∧ (m.is (Reg.WM_CFG_EN 0) = true ∧ (m.at 9).wmHeld 0 = false ∧ (m.at 9).wmBlanked 0 = false ∧ m.is (Reg.WM_CFG_EN 1) = false
        ∧ ((q 0).at 9).wmHeld 0 = true ∧ (m.wm 0).v = none ∧ (n.wm 0).v = some (65535 : Fin 65536).val ∧ (put n [(Reg.WM_CFG_EN 0, 0)]).is (Reg.WM_CFG_EN 0) = false
        ∧ m.is (Reg.WM_STAT_LATCHED 0) = true ∧ (m.wm 0).latchAt ≠ some 5 ∧ (n.wm 0).latchAt = some 5
        ∧ m.is (Reg.WM_STAT_LATCHED 7) = false)
      ∧ ((up []).is (Reg.PT_CFG_EN 0) = false ∧ p.is (Reg.PT_CFG_EN 0) = true ∧ (vget p.ptimers 0).edge = some 1600
        ∧ notBefore 1600 1600 = true ∧ notBefore 1599 1600 = false)
      ∧ (x.monTest.run = none ∧ ¬ x.get Reg.CMP_CTRL_ST_PER * ms ≤ elapsed x.monTest.period 159999999
        ∧ x.get Reg.CMP_CTRL_ST_PER * ms ≤ elapsed x.monTest.period 160000000 ∧ 7 < 14 ∧ x.monTest.next ≤ 7
        ∧ x.monEnabled 7 = true ∧ (∀ j < 7, x.monTest.next ≤ j → x.monEnabled j = false)
        ∧ m.monTest.run = none ∧ ∀ i < 14, m.monTest.next ≤ i → m.monEnabled i = false)
      ∧ ((q 13).monTest.run = some (13, 0) ∧ 3840 ≤ elapsed 0 3840 ∧ (5 : Fin 16).val = 5 ∧ (4 : Fin 16).val ≠ 5
        ∧ (q 7).monTest.run = some (7, 0) ∧ 6400 ≤ elapsed 0 6400 ∧ (10 : Fin 16).val = 10
        ∧ ¬ ((5 : Fin 16).val = 5 ∧ (5 : Fin 16).val = 10) ∧ elapsed 0 3839 < 3840 ∧ elapsed 0 6399 < 6400) := by
  refine ⟨?_, ?_, ?_, ?_, ?_, ?_, ?_, ?_⟩ <;> decide

/-! ### Engine services -/

def win : CmbWin := { seq := 0, win := 0, cycle := 7 }

theorem witness_CombustionRecords :
    let a := { run [(8, 23)] [(Reg.CMB_CFG_EN 23, 1)] with cmbSig := [(0, win), (23, win)] }
    let b := a.setCmb 23 { run := some (win, none), ring := 7 }
    let c := a.setCmb 23 { run := some (win, none), pend := some win }
    a.cmbSig.find? (fun x => decide (x.1 = (23 : Fin 24).val)) = some (23, win) ∧ a.cmbOn 23 = true ∧ (a.cmb 23).run = none
      ∧ b.cmbSig = a.cmbSig ∧ b.cmbOn 23 = true ∧ (b.cmb 23).run = some (win, none) ∧ (b.cmb 23).pend = none ∧ (b.cmb 23).ring < 8
      ∧ c.cmbSig = a.cmbSig ∧ c.cmbOn 23 = true ∧ (c.cmb 23).run = some (win, none) ∧ (c.cmb 23).pend = some win ∧ (c.cmb 23).ring < 8
      ∧ a.cmbSig.find? (fun x => decide (x.1 = (0 : Fin 24).val)) = some (0, win) ∧ a.cmbOn 0 = false
      ∧ a.cmbSig.find? (fun x => decide (x.1 = (1 : Fin 24).val)) = none := by decide

theorem witness_DemandAndLists :
    let a := put (up []) [(Reg.SVC_DEM_DEM_TMO, 4), (Reg.SVC_CYCLE_CYCLE, 3), (Reg.SVC_DEM_VALID, 1)]
    let aged := fun n => { a with svc := { sinceSwap := some n } }
    let s := put (run [(9, 1)] []) [(Reg.QM_CFG_EN 1, 1), (Reg.QM_CYL_EN 1 23, 1), (Reg.QM_CYL_SHT 1 23, 47), (Reg.SVC_DEM_VALID, 1),
      (Reg.WRP_SYNC_STATE 0, ssLimp), (Reg.SHT_CFG_WRITER 47, 1)]
    let s := { s with maps := vset s.maps 47 { due := true } }
    let on := fun (x : State) => x.hasTile 9 1 && x.is (Reg.QM_CFG_EN 1) && !x.is (Reg.QM_CFG_TABERR 1) && x.is (Reg.QM_CYL_EN 1 23)
      && x.is (Reg.SHT_CFG_WRITER (x.get (Reg.QM_CYL_SHT 1 23)))
    ((aged 4).svc.sinceSwap = some 4 ∧ (aged 4).get Reg.SVC_DEM_DEM_TMO ≠ 0 ∧ (aged 4).is Reg.SVC_DEM_DEM_STALE = false
        ∧ (aged 4).get Reg.SVC_DEM_DEM_TMO ≤ 4 ∧ 3 < (aged 3).get Reg.SVC_DEM_DEM_TMO ∧ (up []).svc.sinceSwap = none)
      ∧ ((vget s.maps (24 * 1 + 23)).due = true ∧ s.get (Reg.QM_CYL_SHT 1 23) = 47 ∧ on s = true
        ∧ on (put s [(Reg.SHT_CFG_WRITER 47, 0)]) = false ∧ s.is (Reg.SHT_CTRL_READY 47) = false
        ∧ on (put s [(Reg.SHT_CTRL_READY 47, 1)]) = true ∧ (put s [(Reg.SHT_CTRL_READY 47, 1)]).is (Reg.SHT_CTRL_READY 47) = true
        ∧ (s.at 9).buildPage.2.1 = true ∧ s.sync s.primary = ssLimp ∧ (vget s.maps 0).due = false) := by decide

theorem witness_TrimsAndDrift :
    let c : Commit := { cyl := 23, valid := true, phased := true, ca50 := 0, imep := 0, cycle := 7, at_ := 5 }
    let a := { put (up [(0x0A, 0)]) [(Reg.TRM_CTRL_INV_HOLD, 1)] with trimDue := [c] }
    let i := { a with trimDue := [{ c with valid := false }] }
    let q : Closure := { bank := 11, ch := 3, tStart := 0, tStop := 800000, at_ := 1400000, drift := some 1 }
    let b := { put (up []) [(Reg.QM_CYL_BANK 1 23, 11), (Reg.QM_CYL_CH 1 23, 3), (Reg.QM_CYL_EN 1 23, 1), (Reg.QM_DR_DR_DMIN 1, 500)] with
      weave := { tiles := [(9, 1)], cyl := 24 }, closures := [q] }
    a.trimDue = c :: [] ∧ a.hasTile 0x0A 0 = true ∧ c.valid = true ∧ c.cyl < 24 ∧ { a with weave := {} }.hasTile 0x0A 0 = false
      ∧ i.trimDue = { c with valid := false } :: [] ∧ i.hasTile 0x0A 0 = true
      ∧ i.get Reg.TRM_CTRL_INV_HOLD ≤ i.cyl 23 1 cyInv + 1 ∧ i.cyl 23 1 cyInv < 255 ∧ (up []).trimDue = []
      ∧ b.closures = q :: [] ∧ q.drift = some 1 ∧ b.cylOf 1 q.bank q.ch = some 23
      ∧ b.get (Reg.QM_DR_DR_DMIN 1) * us ≤ elapsed q.tStart q.tStop ∧ { q with drift := none }.drift = none
      ∧ (up []).closures = [] := by decide

theorem witness_RailPressureAndOverspeed :
    let a := run [(0x0B, 0)] [(Reg.RP_CFG_EN, 1), (Reg.RP_CFG_RP_PER, 10), (Reg.SVC_PINSTAT_VALID 0, 1)]
    let b := { put a [(Reg.SVC_PINSTAT_VALID 0, 0)] with
      rail := { disSince := some 0, ovpSince := some 0 }, pins := #v[some 0, none, none, none] }
    let u := { upd with time := 382000, angle := BitVec.ofNat 48 (2 ^ 48 / 288) }
    let o := { run [(0x0C, 0)] [] with ovs := { upd := some u, prev := some upd } }
    let two := fun (x y : Update) => { o with ovs := { upd := some y, prev := some x } }
    (a.railOn = true ∧ ms ≤ elapsed a.rail.rampAt 1600000 ∧ elapsed a.rail.rampAt 1599999 < ms
        ∧ a.get Reg.RP_CFG_RP_PER * 160000 ≤ elapsed a.rail.stepAt 1600000 ∧ a.pinNow 0 = some 0 ∧ a.pinNow 1 = none
        ∧ ¬ a.get Reg.RP_CFG_RP_PER * 160000 ≤ elapsed a.rail.stepAt 1599999 ∧ (up []).railOn = false)
      ∧ (b.pinNow 0 = none ∧ b.pinNow 1 = none ∧ b.railOn = true
        ∧ b.get Reg.RP_CFG_RP_PER * 160000 ≤ elapsed b.rail.stepAt 1600000)
      ∧ (b.rail.higher = false ∧ b.rail.disSince = some 0 ∧ 10 * ms ≤ elapsed 0 16000000 ∧ b.rail.ovpTold = false
        ∧ b.rail.ovpSince = some 0
        ∧ b.rail.disSince.all (fun a => decide (elapsed a 15999999 < 10 * ms)) = true
        ∧ b.rail.ovpSince.all (fun a => decide (elapsed a 15999999 < 10 * ms)) = true)
      ∧ ((vget b.pins 0).any (fun x => decide (elapsed x 7999999 < 5 * ms)) = true
        ∧ (vget b.pins 0).any (fun x => decide (elapsed x 8000000 < 5 * ms)) = false ∧ a.railOn = true ∧ (up []).railOn = false)
      ∧ (o.ovs.upd = some u ∧ o.ovs.prev = some upd ∧ u.step = false ∧ (upd.src < 2 ↔ u.src < 2) ∧ o.hasTile 0x0C 0 = true
        ∧ upd.time ≠ u.time ∧ { o with ovs := { upd := some u } }.ovs.prev = none ∧ (up []).ovs.upd = none
        ∧ { u with step := true }.step = true ∧ (two upd { u with step := true }).ovs.prev = some upd
        ∧ ¬ (upd.src < 2 ↔ { u with src := 2 }.src < 2) ∧ { o with weave := {} }.hasTile 0x0C 0 = false
        ∧ upd.time = { u with time := upd.time }.time) := by decide

/-! ### Identity -/

def line (l : Nat) (k : SelvLine) : State := { (up []).setLine l k with enumStart := some 0 }

/-- The currents of answer slots with a baseline of 1,000 µA: a memory draws 4 mA more for a 1. -/
def ones (n k : Nat) : List Int := List.replicate k 5000 ++ List.replicate (n - k) 1000

def answers (n k : Nat) : Vector Int n := Vector.ofFn (fun i => if i.val < k then 5000 else 1000)

/-- The answer of a memory that sends these bytes (R490). -/
def answer (bs : List Nat) : List Int :=
  bs.flatMap (fun b => (List.range 8).map (fun i => if b.testBit (7 - i) then 5000 else 1000))

/-- A record of TYPE 3 and LEN 32 with serial 0x010203040506 (Table 10.4); its CRC-16 is 0x5AAE (R501, computed by hand). -/
def record : List Nat := [0x58, 0x49, 1, 3, 0, 32, 1, 2, 3, 4, 5, 6] ++ List.replicate 18 0 ++ [0x5A, 0xAE]

theorem test_record_answer :
    ((answer record).map (slotOf 1000)).contains .collide = false ∧ recordFault (slotBytes ((answer record).map (slotOf 1000))) = none
      ∧ slotBytes ((answer record).map (slotOf 1000)) = record := by decide +kernel

theorem witness_Enumeration :
    let a := line 13 { phase := .high }
    let b := line 13 { phase := .fresh }
    let c := line 0 { phase := .fresh, rolled := true, todo := [0, 3] }
    let d := line 0 { phase := .selected, todo := [3] }
    let e := { put (up [(0x0F, 0)]) [(Reg.REC_STAT_READY, 1)] with
      enumStart := some 0, selv := Vector.replicate 14 { phase := .done } }
    let f := run [] [(Reg.IDN_STAT_RC_EN, 1), (Reg.IDN_STAT_RC_PER, 1), (Reg.IDN_SITE1_STATE (siteIndex 0 0), 1)]
    let x := answers 16 1
    let none16 := answers 16 0
    let y := answers 49 1
    let z := answers 49 0
    let two := (answers 49 0).set 0 90000
    ((up []).running = false ∧ (up []).enumStart = none ∧ (run [] []).running = true ∧ a.enumStart.isSome = true
        ∧ (15 : Fin 16).val ≠ 1)
      ∧ ((a.line 13).phase = .high ∧ 4000 ≤ 4000 ∧ 2999 < 3000 ∧ 100 * us ≤ elapsed (a.line 13).since 160000
        ∧ elapsed (a.line 13).since 1600000 ≤ ms ∧ elapsed (a.line 13).since 159999 < 100 * us ∧ ms < elapsed (a.line 13).since 1600001
        ∧ ms ≤ elapsed (a.line 13).since 1600000 ∧ elapsed (a.line 13).since 1599999 < ms
        ∧ (line 13 { phase := .ready }).line 13 = { phase := .ready } ∧ (b.line 13).phase ≠ .high ∧ (b.line 13).phase ≠ .ready)
      ∧ ((b.line 13).phase = .fresh ∧ (b.line 13).rolled = false ∧ (x.toList.map (slotOf 1000)).getD 0 .zero = .one
        ∧ presentMask (x.toList.map (slotOf 1000)) ≠ 0 ∧ presentMask (none16.toList.map (slotOf 1000)) = 0
        ∧ (a.line 13).phase ≠ .fresh)
      ∧ ((c.line 0).phase = .fresh ∧ (c.line 0).rolled = true ∧ (c.line 0).todo = 0 :: [3]
        ∧ (two.toList.map (slotOf 1000)).contains .collide = true
        ∧ (y.toList.map (slotOf 1000)).contains .collide = false ∧ (y.toList.map (slotOf 1000)).getD 0 .zero = .one
        ∧ (z.toList.map (slotOf 1000)).contains .collide = false ∧ (z.toList.map (slotOf 1000)).getD 0 .zero = .zero
        ∧ (c.line 0).fails = [] ∧ (b.line 13).todo = [] ∧ (c.line 0).phase ≠ .selected)
      ∧ ((d.line 0).phase = .selected ∧ (d.line 0).todo = 3 :: [] ∧ 3 < sitesOf 0 ∧ (d.line 0).fails = []
        ∧ ((ones 8 0).map (slotOf 1000)).contains .collide = false
        ∧ (recordFault (slotBytes ((ones 8 0).map (slotOf 1000)))).isSome = true
        ∧ (([90000] : List Int).map (slotOf 1000)).contains .collide = true)
      ∧ (e.enumStart.isSome = true ∧ e.weave.loading = false ∧ (∀ l : Fin 14, (e.line l).phase = .done)
        ∧ e.hasTile 0x0F 0 = true ∧ e.is Reg.REC_STAT_READY = true ∧ (up []).enumStart = none
        ∧ { e with weave := { loading := true } }.weave.loading = true ∧ (a.line 0).phase ≠ .done
        ∧ (put e [(Reg.REC_STAT_READY, 0)]).hasTile 0x0F 0 = true ∧ (put e [(Reg.REC_STAT_READY, 0)]).is Reg.REC_STAT_READY = false)
      ∧ (f.running = true ∧ f.is Reg.IDN_STAT_RC_EN = true ∧ f.enumStart = none ∧ (f.bk 0).commitAt = none
        ∧ f.get Reg.IDN_STAT_RC_PER * (100 * ms) ≤ elapsed (f.line 0).rollAt 160000000
        ∧ ¬ f.get Reg.IDN_STAT_RC_PER * (100 * ms) ≤ elapsed (f.line 0).rollAt 159999999 ∧ 0 < sitesOf 0
        ∧ f.get (Reg.IDN_SITE1_STATE (siteIndex 0 0)) = 1 ∧ (put f [(Reg.IDN_STAT_RC_EN, 0)]).is Reg.IDN_STAT_RC_EN = false
        ∧ (presentMask (none16.toList.map (slotOf 1000))).testBit 0 = false) := by
  refine ⟨?_, ?_, ?_, ?_, ?_, ?_, ?_⟩ <;> decide

/-! ### Headland, supplies, resets, power -/

theorem witness_HeadlandStates :
    let at_ := fun (st : Nat) (cs : List (Nat × Nat)) => { put (up []) [(Reg.SAF_STAT_STATE, st)] with causes := cs }
    let safe := put (at_ hsSafe []) [(Reg.SAF_STAT_SAFE_N_LVL, 0)]
    let start := { run [] [(Reg.SAF_STAT_STATE, hsStart)] with saf := { tested := true } }
    let wm := put (at_ hsRun [(19, 0)]) [(Reg.SAF_ACT_ACT_WM, 1)]
    let cut := { put (up []) [(Reg.SAF_STAT_STATE, hsCut), (Reg.SAF_ACT_CUT_HOLD, 100)] with
      saf := { cuts := [(11, 0, some 0)] } }
    let left := fun (t : Word) => cut.saf.cuts.filter (fun (_, _, e) =>
      !e.any (fun a => decide (cut.get Reg.SAF_ACT_CUT_HOLD * ms ≤ elapsed a t)))
    ((at_ hsRun [(25, 0)]).causes = [(25, 0)] ∧ (at_ hsRun [(25, 0)]).reaction 25 = 0 ∧ 1 ≤ 25 ∧ 25 ≤ 25 ∧ (at_ hsRun []).causes = [])
      ∧ ((put (at_ hsStart [(1, 0)]) [(Reg.SAF_STAT_STFAIL, 1)]).reaction 1 = 3
        ∧ (put (at_ hsStart [(1, 0)]) [(Reg.SAF_STAT_STFAIL, 1)]).is Reg.SAF_STAT_STFAIL = true
        ∧ (put (at_ hsStart [(1, 0)]) [(Reg.SAF_STAT_STFAIL, 1)]).causes = [(1, 0)])
      ∧ (wm.causes = [(19, 0)] ∧ wm.reaction 19 = 1 ∧ wm.hs = hsRun)
      ∧ (∃ c, (at_ hsSafe [(c, 0)]).reaction c = 3 ∧ 1 ≤ c ∧ c ≤ 25 ∧ (at_ hsSafe [(c, 0)]).hs ≠ hsHalt)
      ∧ ((at_ hsCut [(24, 0)]).reaction 24 = 2 ∧ (at_ hsCut [(24, 0)]).hs = hsCut ∧ 2 ≤ (at_ hsRun [(1, 0)]).reaction 1)
      ∧ (cut.hs = hsCut ∧ left 160000000 = [] ∧ left 159999999 ≠ [] ∧ (at_ hsRun []).hs ≠ hsCut
        ∧ cut.saf.startCause = none ∧ cut.supply.standby = false)
      ∧ (safe.hs = hsSafe ∧ safe.standstill = true ∧ safe.is Reg.SAF_STAT_SAFE_N_LVL = false
        ∧ (safe.at 9).safeCondition 0 = false ∧ safe.saf.severeAt ≠ some 9
        ∧ safe.causes.all (fun c => decide (safe.reaction c.1 < 2)) = true ∧ safe.saf.startCause = none ∧ safe.saf.cuts = []
        ∧ safe.supply.standby = false ∧ (at_ hsRun []).hs ≠ hsSafe)
      ∧ ((up []).power = .up ∧ (up []).hs = hsStart ∧ (up []).saf.tested = false ∧ (up []).is Reg.SAF_STAT_STFAIL = false
        ∧ (0 : Fin 32).val = 0 ∧ (31 : Fin 32).val ≠ 0 ∧ start.saf.tested = true)
      ∧ (start.hs = hsStart ∧ start.saf.tested = true ∧ start.running = true ∧ start.saf.startCause = none ∧ start.saf.cuts = []
        ∧ start.supply.standby = false ∧ (up []).running = false) :=
  by refine ⟨by decide, by decide, by decide, ⟨1, by decide⟩, by decide, by decide, by decide, by decide, by decide⟩

theorem witness_HeadlandMonitors :
    let a := { put (up []) [(Reg.SAF_STAT_SAFE_IN_LVL, 1)] with
      saf := { clockBad := 1, hot := 1, safeInSeen := true }, weave := { pair := true } }
    a.power = .up ∧ State.reset.power ≠ .up ∧ deviates 10500 10000 = true ∧ deviates 10499 10000 = false ∧ deviates 9500 10000 = true
      ∧ a.saf.clockBad + 1 = 2 ∧ 165 * 16 ≤ signed 16 2640 ∧ ¬ 165 * 16 ≤ signed 16 2639 ∧ a.saf.hot + 1 = 2
      ∧ a.is Reg.SAF_STAT_SAFE_IN_LVL ≠ false ∧ a.is Reg.SAF_STAT_SAFE_IN_LVL = true ∧ a.weave.pair = true := by decide

theorem witness_Resets :
    let low := put (up []) [(Reg.SM_STAT_OUT 4, 1), (Reg.SM_STAT_INIT 4, 0)]
    let held := { put (up []) [(Reg.SM_STAT_OUT 1, 0), (Reg.SM_STAT_OUT 2, 0), (Reg.SM_STAT_OUT 3, 0), (Reg.SM_STAT_OUT 4, 0)] with
      power := .held, supply := { hold := some .lowWater } }
    let free := { held with supply := {} }
    let pin := { held with supply := { hold := some .pin, resetLow := true } }
    let lw := { held with supply := { hold := some .lowWater, lowWater := true } }
    ((up []).power = .up ∧ (0x5EA1 : Fin 65536).val = 0x5EA1 ∧ (up []).running = false ∧ (run [] []).power = .up
        ∧ (run [] []).running = true ∧ (run [] []).hs ≠ hsHalt ∧ (0 : Fin 65536).val ≠ 0x5EA1 ∧ State.reset.power ≠ .up)
      ∧ ((low.at 9).firstTrip = some 4 ∧ low.power = .up)
      ∧ ((held.at 9).firstTrip = none ∧ ¬ (held.power = .up ∨ held.supply.hold = some .pin ∨ held.supply.hold = some .soft))
      ∧ (lw.supply.lowWater = true ∧ lw.railsUp = true
        ∧ [1, 2, 3, 4].all (fun m => decide (100 * us ≤ elapsed (vget lw.supply.smAt m) 160000)) = true)
      ∧ (held.supply.hold = some .lowWater ∧ held.railsUp = true
        ∧ [1, 2, 3, 4].all (fun m => decide (100 * us ≤ elapsed (vget held.supply.smAt m) 160000)) = true
        ∧ free.supply.hold ≠ some .lowWater ∧ low.railsUp = false ∧ elapsed (vget held.supply.smAt 4) 159999 < 100 * us)
      ∧ (free.power = .held ∧ free.supply.hold ≠ some .lowWater ∧ free.supply.hold ≠ some .pin ∧ free.supply.resetLow = false
        ∧ free.railsUp = true)
      ∧ (pin.supply.hold = some .pin ∧ pin.supply.resetLow = true) := by decide

theorem witness_SupplyMonitors :
    let a := put (up []) [(Reg.SM_STAT_OUT 0, 0), (Reg.SYS_SUPPLY_EBB, 1), (Reg.SM_STAT_OUT 5, 0)]
    let b := put (up []) [(Reg.SM_STAT_OUT 0, 1), (Reg.SM_STAT_OUT 5, 1), (Reg.SYS_SUPPLY_SENS_LOW, 0), (Reg.SYS_SUPPLY_EBB, 0)]
    let c := { put b [(Reg.SYS_WAKE_EBB_WAKE, 1)] with power := .standby }
    let u := put (up []) [(Reg.SYS_START_READY, 0), (Reg.SYS_START_LATE, 0)]
    (a.smRuns 5 = true ∧ (a.at 9).smHeld 5 = false ∧ a.is (Reg.SM_STAT_OUT 5) = false)
      ∧ (b.smRuns 5 = true ∧ (b.at 9).smHeld 5 = false ∧ b.is (Reg.SM_STAT_OUT 5) = true ∧ b.power ≠ .standby)
      ∧ (c.smRuns 0 = true ∧ (c.at 9).smHeld 0 = false ∧ c.is (Reg.SM_STAT_OUT 0) = true ∧ c.power = .standby
        ∧ c.is Reg.SYS_WAKE_EBB_WAKE = true)
      ∧ (c.smRuns 5 = false ∧ ({ a with monTest := { run := some (13, 0) } }.at 9).smHeld 5 = true)
      ∧ (b.power = .up ∧ b.is (Reg.SM_STAT_OUT 5) = true ∧ b.is Reg.SYS_SUPPLY_SENS_LOW = false
        ∧ 100 * us ≤ elapsed (vget b.supply.smAt 5) 160000 ∧ elapsed (vget b.supply.smAt 5) 159999 < 100 * us)
      ∧ (10 * us ≤ elapsed (vget b.supply.smAt 0) 16000 ∧ elapsed (vget b.supply.smAt 0) 15999 < 10 * us
        ∧ b.is (Reg.SM_STAT_OUT 0) = true ∧ b.is Reg.SYS_SUPPLY_EBB = false ∧ b.is Reg.REC_STAT_READY = false)
      ∧ (a.power ≠ .standby ∧ a.is (Reg.SM_STAT_OUT 0) = false ∧ a.is Reg.SYS_SUPPLY_EBB = true)
      ∧ (u.power = .up ∧ u.is Reg.SYS_START_READY = false ∧ u.is Reg.SYS_START_LATE = false
        ∧ 40 * ms ≤ elapsed u.supply.holdAt 64000000 ∧ elapsed u.supply.holdAt 63999999 < 40 * ms
        ∧ (put u [(Reg.SYS_START_LATE, 1)]).is Reg.SYS_START_LATE = true) := by
  decide

theorem witness_DomainsAndStandby :
    let st := fun (d n on : Nat) => put (up [(15, 0)]) [(⟨Reg.SYS_PWRSTAT_addr, 2 * d, 2⟩, n), (Reg.SYS_PWR_ON, on)]
    let w := { put (up []) [(Reg.SYS_WAKE_WAKE_FILT, 5), (Reg.SYS_WAKE_WAKE_T, 3)] with
      supply := { wakePin := true }, power := .standby }
    let v := { put (up []) [(Reg.SYS_WAKE_WAKE_LVL, 1)] with supply := {} }
    let z := { put (up [(15, 0)]) [(Reg.SAF_STAT_STATE, 1), (Reg.SYS_PWRSTAT_STATE, 1)] with supply := { standby := true } }
    let x := ({ z with supply := { standby := true } }).setCh 3 { admitted := true }
    let x := put x [(Reg.DMA_STAT_STATE 3, dmRun)]
    let r := run [] [(Reg.SYS_PWR_ON, 63)]
    let y : State := { up [] with crossings := vset (up []).crossings 6 { blocked := true } }
    (((st 5 pdOn 63).get Reg.SYS_PWR_ON).testBit 5 = true ∧ (st 5 pdOn 63).power = .up ∧ (st 5 pdOn 63).switchable 7 = true
        ∧ r.power = .up ∧ r.switchable 2 = false ∧ (r.get Reg.SYS_PWR_ON).testBit 0 = true)
      ∧ (((st 5 pdOff 31).get Reg.SYS_PWR_ON).testBit 5 = false ∧ (st 5 pdOff 31).domain 7 = pdOff ∧ (st 5 pdOff 31).switchable 7 = true
        ∧ ((st 5 pdDrain 31).get Reg.SYS_PWR_ON).testBit 5 = false ∧ (st 5 pdDrain 31).switchable 7 = true
        ∧ (st 5 pdDrain 31).domain 7 = pdDrain ∧ (run [] [(Reg.SYS_PWR_ON, 0)]).switchable 2 = false
        ∧ ((run [] [(Reg.SYS_PWR_ON, 0)]).get Reg.SYS_PWR_ON).testBit 0 = false)
      ∧ ((st 0 pdDrain 0).domain 2 = pdDrain ∧ (st 0 pdDrain 0).admittedTo 2 = [] ∧ (st 0 pdOn 0).domain 2 ≠ pdDrain
        ∧ x.admittedTo 2 ≠ [] ∧ 200 * us ≤ elapsed (vget (st 0 pdDrain 0).supply.domAt 0) 320000
        ∧ elapsed (vget (st 0 pdDrain 0).supply.domAt 0) 319999 < 200 * us)
      ∧ ((st 5 pdWaking 63).domain 7 = pdWaking ∧ wakeTime 7 ≤ elapsed (vget (st 5 pdWaking 63).supply.domAt 5) 8000
        ∧ elapsed (vget (st 5 pdWaking 63).supply.domAt 5) 7999 < wakeTime 7)
      ∧ ((up []).standstill = true ∧ (0x5EA1 : Fin 65536).val = 0x5EA1 ∧ (up []).hs ≠ hsHalt ∧ (up []).supply.standby = false
        ∧ (0x5EA0 : Fin 65536).val ≠ 0x5EA1 ∧ State.reset.power ≠ .up ∧ (up []).crossingOff 6 = false
        ∧ y.crossingOff 6 = true ∧ y.power = .up)
      ∧ (z.power = .up ∧ z.supply.standby = true ∧ z.strand.want = false ∧ z.is Reg.REC_STAT_BUSY = false
        ∧ z.domain 2 ≠ pdOff ∧ z.admittedTo 2 = [] ∧ z.is Reg.SYS_WAKE_WAKE_LVL = false ∧ (z.at 9).wakeHigh = false
        ∧ (put z [(Reg.SYS_WAKE_WAKE_LVL, 1)]).is Reg.SYS_WAKE_WAKE_LVL = true ∧ (put z [(Reg.SYS_WAKE_WAKE_LVL, 1)]).admittedTo 2 = []
        ∧ x.power = .up ∧ x.supply.standby = true ∧ x.strand.want = false ∧ x.is Reg.REC_STAT_BUSY = false ∧ x.domain 2 ≠ pdOff
        ∧ (up []).supply.standby = false)
      ∧ (w.power ≠ .held ∧ w.supply.wakePin ≠ false ∧ w.supply.wakePin = true ∧ w.is Reg.SYS_WAKE_WAKE_LVL ≠ w.supply.wakePin
        ∧ w.get Reg.SYS_WAKE_WAKE_FILT * ms ≤ elapsed w.supply.wakeAt 8000000
        ∧ ¬ w.get Reg.SYS_WAKE_WAKE_FILT * ms ≤ elapsed w.supply.wakeAt 7999999
        ∧ v.power = .up ∧ v.is Reg.SYS_WAKE_WAKE_LVL ≠ v.supply.wakePin
        ∧ v.get Reg.SYS_WAKE_WAKE_FILT * ms ≤ elapsed v.supply.wakeAt 1600000000)
      ∧ (w.power = .standby ∧ w.get Reg.SYS_WAKE_WAKE_T ≠ 0
        ∧ w.get Reg.SYS_WAKE_WAKE_T * (1000 * ms) ≤ elapsed w.supply.standbyAt 4800000000
        ∧ elapsed w.supply.standbyAt 4799999999 < w.get Reg.SYS_WAKE_WAKE_T * (1000 * ms)) := by
  refine ⟨?_, ?_, ?_, ?_, ?_, ?_, ?_, ?_⟩ <;> decide

/-! ### Links -/

def frame : CanFrame :=
  { id := 0x123, ide := false, fdf := false, brs := false, esi := false, rtr := false, dlc := 1, data := [7] }

theorem witness_CanControllers :
    let a := put (up [(0x11, 3)]) [(Reg.CAN_CFG_EN 3, 1), (Reg.CAN_TXREQ_TXREQ 3, 0x8000), (Reg.CAN_FID_EN 3 0, 1), (Reg.CAN_FID_ID 3 0, 0x123),
      (Reg.CAN_FMASK_MASK 3 0, 0x1FFFFFFF), (Reg.CAN_RX_RXLEVEL 3, 31)]
    let a := onBalls a 0x11 3 [0, 1]
    let b := a.setCan 3 { asked := [(15, 0)] }
    let r := a.setCan 3 { results := [(frame, 0)] }
    let off := (put a [(Reg.CAN_STAT_STATE 3, 2), (Reg.CAN_CFG_AUTO_REC 3, 0)]).setCan 3 { recovering := true }
    (∀ s ∈ [a, b, r], s.pending = [] ∧ s.busRequests = [] ∧ s.canSends 3 = true ∧ s.canHears 3 = true
        ∧ (s.at 9).canTurn.canSends 3 = true ∧ (s.at 9).canTurn.canHears 3 = true)
      ∧ ((up []).canSends 3 = false ∧ (up []).canHears 3 = false ∧ a.canBus 3 = true
        ∧ min 255 ((put a [(Reg.CAN_STAT_REC 3, 127)]).get (Reg.CAN_STAT_REC 3) + 0) ≤ 127
        ∧ 127 < min 255 ((put a [(Reg.CAN_STAT_REC 3, 127)]).get (Reg.CAN_STAT_REC 3) + 1))
      ∧ (a.gone (Reg.CAN_TXREQ_addr 3) = false ∧ (a.get (Reg.CAN_TXREQ_TXREQ 3)).testBit 0 = false
        ∧ (a.get (Reg.CAN_TXREQ_TXREQ 3)).testBit 15 = true ∧ (up []).gone (Reg.CAN_TXREQ_addr 3) = true)
      ∧ (b.canOn 3 = true ∧ b.get (Reg.CAN_CFG_MODE 3) ≠ 1 ∧ canWinner (b.canOffers 3 5) = some (15, b.canBuffer 3 15)
        ∧ r.canOn 3 = true ∧ r.get (Reg.CAN_CFG_MODE 3) ≠ 1 ∧ canWinner (r.canOffers 3 5) = some (16, frame)
        ∧ canWinner (a.canOffers 3 5) = none ∧ (up []).canOn 3 = false)
      ∧ (off.get (Reg.CAN_STAT_STATE 3) = 2 ∧ (off.can 3).recovering = true ∧ off.canUp = true
        ∧ off.gone (Reg.CAN_STAT_addr 3) = false ∧ (up []).gone (Reg.CAN_STAT_addr 3) = true
        ∧ off.is (Reg.CAN_CFG_AUTO_REC 3) = false ∧ off.canOn 3 = false ∧ a.get (Reg.CAN_STAT_STATE 3) ≠ 2)
      ∧ (a.get (Reg.CAN_CFG_MODE 3) ≠ 2 ∧ { frame with rtr := true }.rtr = true ∧ frame.rtr = false ∧ frame.fdf = false
        ∧ a.canMatches 3 frame = true ∧ a.get (Reg.CAN_RX_RXLEVEL 3) < 32
        ∧ 32 ≤ (put a [(Reg.CAN_RX_RXLEVEL 3, 32)]).get (Reg.CAN_RX_RXLEVEL 3)
        ∧ (put a [(Reg.CAN_RX_RXLEVEL 3, 32)]).canOn 3 = true ∧ (put a [(Reg.CAN_RX_RXLEVEL 3, 32)]).canMatches 3 frame = true
        ∧ a.canMatches 3 { frame with id := 0x122 } = false ∧ a.gone (Reg.CAN_RX_addr 3) = false ∧ (up []).gone (Reg.CAN_RX_addr 3) = true
        ∧ a.get (Reg.CAN_RX_RXLEVEL 3) ≠ 0 ∧ (up [(0x11, 3)]).get (Reg.CAN_RX_RXLEVEL 3) = 0
        ∧ (up [(0x11, 3)]).gone (Reg.CAN_RX_addr 3) = false) := by decide

theorem witness_LinkStreams :
    let d : Datagram := { words := [1], count := 1, tag := 0, first := 0, ready := none }
    let a := put (up [(0x11, 5)]) [(Reg.ETH_CFG_EN 1, 1), (Reg.ETH_CFG_PACE 1, 100), (Reg.STR_CFG_EN 7, 1), (Reg.STR_CFG_PORT 7, 1),
      (Reg.STR_CFG_FLUSH_T 7, 10), (Reg.ETH_STAT_LINK 1, 1)]
    let a := onBalls a 0x11 5 [3, 4, 5, 6, 7]
    let b := (a.setStr 7 { wait := some { d with ready := some 0 } }).setPort 1 { start := some 0, poll := some 0 }
    let down := put b [(Reg.ETH_STAT_LINK 1, 0)]
    let c := a.setStr 7 { coll := some d }
    (b.ethManages 1 = true ∧ (up []).ethManages 1 = false ∧ b.ethHears 1 = true ∧ (up []).ethHears 1 = false ∧ b.pending = []
        ∧ b.busRequests = [] ∧ b.early (.datagramStart 160000 1) = false ∧ (b.at 160000).paced 1 = true)
      ∧ (b.ethOn 1 = true ∧ (b.port 1).poll.all (fun x => decide (10 * ms ≤ elapsed x 16000000)) = true ∧ (up []).ethOn 1 = false
        ∧ (b.port 1).poll.any (fun x => decide (elapsed x 15999999 < 10 * ms)) = true)
      ∧ ((b.port 1).start.all (fun x => decide (b.get (Reg.ETH_CFG_PACE 1) * us ≤ elapsed x 160000)) = true
        ∧ b.nextStream 1 = some 7 ∧ b.is (Reg.ETH_STAT_LINK 1) = true
        ∧ down.ethOn 1 = true ∧ down.nextStream 1 = some 7 ∧ down.is (Reg.ETH_STAT_LINK 1) = false
        ∧ (down.port 1).start.all (fun x => decide (down.get (Reg.ETH_CFG_PACE 1) * us ≤ elapsed x 160000)) = true
        ∧ (b.port 1).start.any (fun x => decide (elapsed x 159999 < b.get (Reg.ETH_CFG_PACE 1) * us)) = true
        ∧ a.nextStream 1 = none)
      ∧ ((c.str 7).coll = some d ∧ d.ready = none ∧ c.get (Reg.STR_CFG_FLUSH_T 7) * (10 * us) ≤ elapsed d.first 160000
        ∧ elapsed d.first 159999 < c.get (Reg.STR_CFG_FLUSH_T 7) * (10 * us) ∧ (c.str 7).wait = none
        ∧ { d with ready := some 0 }.ready ≠ none ∧ (a.str 7).coll = none) := by decide

/-- 6 nibbles, after SYNC with a status nibble and the CRC nibble of SAE J2716 (log entry 76), each a pulse of 12 ticks and one more for
each unit. -/
def sentPulses (tick crc : Nat) : List Nat := ([0, 1, 2, 3, 4, 5, 6, crc].map (fun v => 400 * tick * (12 + v)))

theorem witness_SentChannels :
    let a := put (up []) [(Reg.SENT_CFG_EN 7, 1), (Reg.SENT_CFG_NIB 7, 6), (Reg.SENT_CFG_TICK 7, 3), (Reg.SENT_DATA_STALE 7, 0)]
    let nominal := 56 * 400 * a.get (Reg.SENT_CFG_TICK 7)
    let vals := fun (crc : Nat) => ((sentPulses 3 crc).take 8).map (nibbleOf nominal)
    let good := fun (crc : Nat) => sentCrc 4 0xD 5 (!a.is (Reg.SENT_CFG_CRC_MODE 7)) ((((vals crc).filterMap id).drop 1).take 6)
      = ((vals crc).filterMap id).getD 7 0
    a.is (Reg.SENT_CFG_EN 7) = true ∧ (up []).is (Reg.SENT_CFG_EN 7) = false ∧ nominal = 67200 ∧ 4 * nominal ≤ 5 * nominal ∧ 5 * nominal ≤ 6 * nominal
      ∧ ¬ (4 * nominal ≤ 5 * 0) ∧ (vget a.sents 7).sync = none
      ∧ (∀ crc < 16, (sentPulses 3 crc).length = 6 + 2 + a.get (Reg.SENT_CFG_PAUSE 7) ∧ ∀ v ∈ vals crc, v.isSome = true)
      ∧ (∃ crc < 16, good crc) ∧ (∃ crc < 16, ¬ good crc)
      ∧ a.is (Reg.SENT_DATA_STALE 7) = false ∧ (vget a.sents 7).heard = none ∧ (up []).is (Reg.SENT_DATA_STALE 7) = true := by
  decide +kernel

theorem witness_FlashCommands :
    let a := up [(0x11, 7)]
    let busy := put a [(Reg.LNK_FSTAT_BUSY, 1)]
    let off := put a [(⟨Reg.SYS_PWRSTAT_addr, 10, 2⟩, pdOff)]
    (up []).gone Reg.LNK_FCMD_addr = true ∧ a.gone Reg.LNK_FCMD_addr = false ∧ off.gone Reg.LNK_FCMD_addr = false
      ∧ a.flashUp = true ∧ a.flashRejects 1 0xFFFF80 256 = false ∧ a.flashRejects 2 0xFFFF00 256 = false
      ∧ a.flashRejects 3 0xFFFFFF 1 = false ∧ busy.flashUp = true ∧ busy.flashRejects 1 0 1 = true
      ∧ a.flashRejects 2 0 1 = true ∧ a.flashRejects 3 0 1 = true ∧ off.flashUp = false := by decide +kernel

theorem witness_DebugPort :
    let a := put (up []) [(Reg.SYS_PAGE_PAGE, 4)]
    let s1 := fun (s : State) =>
      let u := (s.at 9).hostFirst
      ((u.jtagSelect 0x20).shiftedOut u.host.jtag.resp).busTurn .debug
    a.running = false ∧ (run [] []).running = true ∧ a.power = .up
      ∧ a.pending = [] ∧ a.early (.jtagDbgAccess 9 0x11 0 0 0) = false ∧ ((a.at 9).hostFirst).power = .up ∧ 0x21 ∉ [0x00, 0x01, 0x02, 0x03, 0x04, 0x20]
      ∧ (0 : Fin 256).val ≠ frameCheck 0x11 0 ∧ (frameCheck 0x44 7 < 256) ∧ (∀ op ∈ [0x00, 0x11, 0x22, 0x44], crc8 [op, 0x7F, 0xFF] < 256 ∧ crc8 [op, 0xFF, 0xFF] < 256)
      ∧ (0x00 ≠ 0x11 ∧ 0x00 ≠ 0x22 ∧ 0x00 ≠ 0x44)
      ∧ (0x7FFF < 0x8000 ∧ 0x7FFF ∉ [Reg.SYS_EVPOP_addr, Reg.PRX_PEVPOP_addr, Reg.WFT_UPD0_addr 0, Reg.WFT_UPD0_addr 1,
        Reg.WFT_SNAPT_addr 0, Reg.WFT_SNAPT_addr 1] ∧ (s1 a).power = .up ∧ (s1 a).regView 0x7FFF = none ∧ ((s1 a).regView 0).isSome = true)
      ∧ (0x8000 ≤ (0xFFFF : Fin 65536).val ∧ (s1 a).get Reg.SYS_PAGE_PAGE = 4 ∧ (s1 a).workLocked (0xFFFF - 0x8000) = false) := by decide +kernel

/-! ### Host frames, register writes and events -/

theorem witness_RegisterWrites :
    let turn := fun (s : State) => (s.at 9).busTurn .host
    let page := fun n => put (up []) [(Reg.SYS_PAGE_PAGE, n)]
    ((up []).busRequests = [] ∧ State.reset.power ≠ .up ∧ (page 4).power = .up ∧ regAt 0x7FFF = none
        ∧ (∃ r, regAt (Reg.SHT_CFG_addr 63) = some (r, 63, 0) ∧ (turn (up [])).absent r 63 = true))
      ∧ (∃ r, regAt Reg.SYS_GOV_CTRL_addr = some (r, 0, 0) ∧ (turn (up [])).absent r 0 = false
        ∧ Reg.SYS_GOV_CTRL_addr ≠ Reg.SYS_PWR_addr
        ∧ ((turn (put (up []) [(Reg.SYS_STATUS_LEVEL, 1)])).mergeWrite r Reg.SYS_GOV_CTRL_addr 0 0).fits = false)
      ∧ (16 ≤ (16 : Word).toNat ∧ 0x8000 ≤ (0x8000 : Fin 65536).val ∧ (turn (page 4)).get Reg.SYS_PAGE_PAGE = 4
        ∧ (turn (page 4)).workLocked 0 = false
        ∧ (turn (run [] [(Reg.SYS_PAGE_PAGE, 4)])).get Reg.SYS_PAGE_PAGE = 4 ∧ (turn (run [] [(Reg.SYS_PAGE_PAGE, 4)])).workLocked 0 = true
        ∧ (turn (page 5)).get Reg.SYS_PAGE_PAGE = 5
        ∧ (turn (page 3)).get Reg.SYS_PAGE_PAGE < 4 ∧ (turn (page 3)).domain 2 = 0
        ∧ (turn (put (page 3) [(Reg.SYS_PWRSTAT_STATE, 2)])).get Reg.SYS_PAGE_PAGE < 4
        ∧ (turn (put (page 3) [(Reg.SYS_PWRSTAT_STATE, 2)])).domain 2 ≠ 0)
      ∧ ((turn (up [])).levelE = false
        ∧ (turn (put (up []) [(Reg.SYS_STATUS_LEVEL, 1)])).levelE = true
        ∧ Reg.SYS_GOV_CTRL_GOV_UP.get (Reg.SYS_GOV_CTRL_GOV_UP.put (Reg.SYS_GOV_CTRL_GOV_DOWN.put 0 50) 60) = 60
        ∧ Reg.SYS_GOV_CTRL_GOV_DOWN.get (Reg.SYS_GOV_CTRL_GOV_UP.put (Reg.SYS_GOV_CTRL_GOV_DOWN.put 0 50) 60) = 50
        ∧ Reg.SYS_GOV_CTRL_GOV_UP.get 0 ≠ (turn (up [])).get Reg.SYS_GOV_CTRL_GOV_UP) :=
  ⟨⟨by decide, by decide, by decide, by decide, _, rfl, by decide +kernel⟩, ⟨_, rfl, by decide +kernel⟩, by decide +kernel,
    by decide +kernel⟩

theorem witness_HostFrames :
    let s1 := fun (s : State) => let s0 := (s.at 9).shiftedOut s.host.resp; (s0.mergeAll s0.reports.length).busTurn .host
    let off := put (up []) [(Reg.SYS_PWRSTAT_STATE, 2)]
    (up []).power = .up ∧ off.power = .up ∧ (0x7FFF : Fin 65536).val < 0x8000
      ∧ 0x7FFF ∉ [Reg.SYS_EVPOP_addr, Reg.PRX_PEVPOP_addr, Reg.WFT_UPD0_addr 0, Reg.WFT_UPD0_addr 1,
        Reg.WFT_SNAPT_addr 0, Reg.WFT_SNAPT_addr 1]
      ∧ 0x8000 ≤ (0x8000 : Fin 65536).val ∧ (s1 (up [])).domain 2 = 0
      ∧ (s1 off).domain 2 ≠ 0 ∧ (s1 off).get Reg.SYS_PAGE_PAGE < 4
      ∧ (((((up []).at 9).shiftedOut {}).busTurn .host).busWrite .host false 0 0x7FFF 0).1.power = .up
      ∧ State.reset.power ≠ .up := by decide +kernel

theorem witness_EventPops :
    let e : Entry := ⟨1, 2, 3⟩
    let x : PairEntry := { ev := e, key := 0, bSide := true }
    let a := { up [(16, 0)] with fifo := [e], pair := { fifo := [x] } }
    let b := { put a [(Reg.PRX_STAT_LINK, 2)] with weave := { tiles := [(16, 0)], pair := true }, pair := { fifo := [{ x with key := 1 }], key := 0 } }
    let c := fun (n : Nat) => { a with host := { popped := n, resp := { status := rsOk, pop := some (false, e, n) } } }
    let d := fun (n : Nat) => { a with pair := { fifo := [x], popped := n }, host := { resp := { status := rsOk, pop := some (true, e, n) } } }
    let s1 := fun (s : State) => let s0 := (s.at 9).shiftedOut s.host.resp; (s0.mergeAll s0.reports.length).busTurn .host
    (a.power = .up ∧ (s1 a).fifo = e :: [] ∧ (s1 (up [])).fifo = [] ∧ (s1 a).hasTile 0x10 0 = true
        ∧ (s1 a).pair.fifo = x :: [] ∧ (s1 a).released x = true ∧ (s1 (up [])).hasTile 0x10 0 = false
        ∧ (s1 b).pair.fifo = { x with key := 1 } :: [] ∧ (s1 b).released { x with key := 1 } = false)
      ∧ (∀ n < 3, (c n).power = .up ∧ (c n).fifo = e :: [] ∧ (c n).host.resp.pop = some (false, e, (c n).host.popped))
      ∧ ((c 1).host.popped < 2 ∧ 2 ≤ (c 2).host.popped)
      ∧ (∀ n < 5, (d n).power = .up ∧ (d n).pair.fifo = x :: [] ∧ (d n).released x = true
        ∧ (d n).host.resp.pop = some (true, x.ev, (d n).pair.popped))
      ∧ ((d 3).pair.popped < 4 ∧ 4 ≤ (d 4).pair.popped) := by decide +kernel

theorem witness_EventMerge :
    let r : Report := { src := 1, idx := 0, code := 1, arg := 0 }
    let a := { up [] with reports := [r], mergeOpen := true }
    let b := { a with fifo := List.replicate 256 ⟨0, 0, 0⟩ }
    a.reports = r :: [] ∧ a.mergeOpen = true ∧ a.fifo.length < 256 ∧ 256 ≤ b.fifo.length ∧ (up []).reports = [] := by decide +kernel

/-! ### DMA channels -/

theorem witness_DmaTriggersAndControl :
    let st := fun (n : Nat) => put (up [(0x0E, 0)]) [(Reg.DMA_STAT_STATE 15, n), (Reg.DMA_CTRL_EN 15, 1)]
    let a := { st dmWait with dmaTrigs := [(3, 1), (15, 5)] }
    let p := fun (n : Nat) => (st n).setCh 15 { slot := some 7 }
    let r := (st dmLoad).setCh 15 { left := some 4 }
    (a.dmaOn = true ∧ a.dmState 15 = dmWait ∧ takeTrigger 15 a.dmaTrigs = (some 5, [(3, 1)])
        ∧ (takeTrigger 15 (st dmRun).dmaTrigs).1 = none ∧ (up []).dmaOn = false)
      ∧ ((st dmRun).dmState 15 ∈ [dmLoad, dmRun, dmPause] ∧ ((st dmRun).ch 15).slot = none ∧ ((p dmPause).ch 15).slot ≠ none
        ∧ (p dmPause).dmState 15 = dmPause ∧ (st dmHalted).dmState 15 ∉ [dmWait, dmLoad, dmRun, dmPause])
      ∧ (∀ n ∈ [dmIdle, dmWait, dmLoad, dmRun, dmPause, dmStopped, dmHalted], (p n).dmaOn = true ∧ (p n).dmState 15 = n
        ∧ ((p n).ch 15).slot = some 7 ∧ (st n).dmaOn = true ∧ ((st n).ch 15).slot = none)
      ∧ (r.dmaOn = true ∧ r.dmState 15 = dmLoad ∧ (r.ch 15).left = some 4 ∧ (r.ch 15).desc = none ∧ (r.ch 15).left ≠ some 5
        ∧ (st dmPause).domain 2 = 0 ∧ (put (st dmPause) [(Reg.SYS_PWRSTAT_STATE, pdOff)]).domain 2 ≠ 0) := by decide

/-- A descriptor of Table 12.1 that copies `count` words inside working memory, LAST, as words of working memory from 0. -/
def copyDesc (count : Nat) : List Word :=
  [BitVec.ofNat 48 (2 ^ 45 + 2 ^ 44 + 2 ^ 33 + count), 0x48100, 0x48200, 0x48000]

/-- Channel 15 loads the descriptor at `ptr`. -/
def loads (ptr : Nat) (ws : List Word) : State :=
  (put (up [(0x0E, 0)]) [(Reg.DMA_STAT_STATE 15, dmLoad), (Reg.DMA_PTR_PTR 15, ptr), (Reg.DMA_CTRL_EN 15, 1)]).workWrite 0 ws

theorem witness_DmaDescriptorLoad :
    let g := fun (s : State) => (s.at 9).grantsTo 15 busFuel
    let good := loads 0x48000 (copyDesc 3)
    let got := fun (n retry : Nat) (x : Option (Nat × Nat)) => (put (loads 0x48000 []) [(Reg.DMA_CFG_RETRY 15, retry)]).setCh 15
      { fetched := some ([], x), tries := n }
    let early : BusReq := { asked := 12, time := 5, idx := 3 }
    let late : BusReq := { asked := 0, time := 6, idx := 2 }
    (0 ≤ sdiff early.asked late.asked ∧ elapsed late.asked early.asked ≤ 12 ∧ sdiff early.time late.time < 0)
      ∧ (good.dmaOn = true ∧ good.dmState 15 = dmLoad ∧ (good.ch 15).fetched = none
        ∧ (busWinner good.busRequests).map BusReq.idx = some (Master.dma 15).index ∧ (up []).dmaOn = false)
      ∧ ((g good).dmState 15 = dmLoad ∧ (g good).get (Reg.DMA_PTR_PTR 15) % 4 = 0
        ∧ (∃ ws, ((g good).ch 15).fetched = some (ws, none) ∧ descOk ws = true))
      ∧ ((g (loads 0x48000 [])).dmState 15 = dmLoad ∧ (g (loads 0x48000 [])).get (Reg.DMA_PTR_PTR 15) % 4 = 0
        ∧ (∃ ws, ((g (loads 0x48000 [])).ch 15).fetched = some (ws, none) ∧ descOk ws = false))
      ∧ ((g (loads 0x48001 [])).dmState 15 = dmLoad ∧ (g (loads 0x48001 [])).get (Reg.DMA_PTR_PTR 15) % 4 ≠ 0
        ∧ (∃ ws, ((g (loads 0x48001 [])).ch 15).fetched = some (ws, none)))
      ∧ (∃ ws, ((g (loads 0x7FF8 [])).ch 15).fetched = some (ws, some (0x7FF8, ackError)))
      ∧ (∀ x ∈ [(1, 1, ackError), (0, 1, ackError), (0, 1, ackBusy), (0, 1, ackOff)],
        let s := got x.1 x.2.1 (some (0x48000, x.2.2))
        s.dmaOn = true ∧ s.dmState 15 = dmLoad ∧ (s.ch 15).fetched = some ([], some (0x48000, x.2.2)) ∧ (s.ch 15).stop = false
          ∧ (s.ch 15).tries = x.1 ∧ s.get (Reg.DMA_CFG_RETRY 15) = x.2.1) :=
  ⟨by decide, by decide +kernel,
    ⟨by decide +kernel, by decide +kernel, _, rfl, by decide +kernel⟩, ⟨by decide +kernel, by decide +kernel, _, rfl, by decide +kernel⟩,
    ⟨by decide +kernel, by decide +kernel, _, rfl⟩, ⟨_, rfl⟩, by decide +kernel⟩

theorem witness_DmaBeats :
    let d : Desc := descOf (copyDesc 2)
    let b : Beat := { idx := 0, src := 0x48100, dst := 0x48200 }
    let o : Beat := { idx := 1, src := 0x48101, dst := 0x48201 }
    let s := fun (bs : List Beat) => (put (loads 0x48000 []) [(Reg.DMA_STAT_STATE 15, dmRun), (Reg.DMA_CFG_RETRY 15, 1)]).setCh 15
      { desc := some d, issued := 2, flight := bs }
    let m := fun (n : Nat) (bs : List Beat) => (s bs).setCh 15 { desc := some { d with mode := n }, issued := 2, flight := bs }
    (∀ n < 4, ((m n [b, o]).ch 15).desc = some { d with mode := n } ∧ (m n [b, o]).dmState 15 = dmRun
        ∧ (busWinner (m n [b, o]).busRequests).map BusReq.idx = some (Master.dma 15).index
        ∧ (busWinner (m n [o]).busRequests).map BusReq.idx = some (Master.dma 15).index
        ∧ (m n [b, o]).early (.dmaBeatResponse 5 15 false) = false)
      ∧ ((m 2 [b, o]).workGet 0x100 = (m 2 [b, o]).workGet 0x200 ∧ BitVec.ofNat 48 d.src ≠ (m 3 [b, o]).workGet 0x200)
      ∧ (∀ bs ∈ [[b, o], [o], [b]], (s bs).dmState 15 = dmRun ∧ ((s bs).ch 15).desc = some d ∧ ((s bs).ch 15).flight = bs
        ∧ ((s bs).ch 15).failed = none)
      ∧ ((s []).dmState 15 = dmRun ∧ ((s []).ch 15).flight = [] ∧ ((s [b]).ch 15).stop = false)
      ∧ (b.ans = none ∧ b.idx + 1 ≠ d.count ∧ o.idx + 1 = d.count ∧ d.last = true ∧ (∀ x ∈ [o], x.idx ≠ b.idx))
      ∧ (busWinner (s [b, o]).busRequests).map BusReq.idx = some (Master.dma 15).index
      ∧ (busWinner (s [o]).busRequests).map BusReq.idx = some (Master.dma 15).index
      ∧ (d.mode = 0 ∧ b.src = 0x48000 + (0x100 : Fin 32768).val ∧ b.dst = 0x48000 + (0x200 : Fin 32768).val
        ∧ (s [b, o]).workLocked 0x200 = false ∧ o.src = 0x48000 + (0x101 : Fin 32768).val ∧ o.dst = 0x48000 + (0x201 : Fin 32768).val
        ∧ (s [o]).workLocked 0x201 = false)
      ∧ (∀ x ∈ [s [{ b with ans := some (ackAccept, 5) }, o], s [{ o with ans := some (ackAccept, 5) }], s [{ b with ans := some (ackBusy, 5) }],
          s [{ b with ans := some (ackError, 5) }, o], s [{ b with ans := some (ackError, 5), retries := 1 }, o],
          s [{ o with ans := some (ackError, 5), retries := 1 }], s [{ b with ans := some (ackOff, 5) }, o], s [{ o with ans := some (ackOff, 5) }]],
        x.dmState 15 = dmRun ∧ (x.ch 15).desc = some d ∧ (x.ch 15).failed = none ∧ (x.ch 15).stop = false
          ∧ (x.ch 15).flight.head?.any (fun y => y.ans.isSome) = true)
      ∧ (b.retries < (s [b]).get (Reg.DMA_CFG_RETRY 15) ∧ (s [b]).get (Reg.DMA_CFG_RETRY 15) ≤ { b with retries := 1 }.retries) :=
  by refine ⟨?_, ?_, ?_, ?_, ?_, ?_, ?_, ?_, ?_, ?_⟩ <;> decide +kernel

/-! ### Strandline -/

/-- Strandline is there and its recovery done. -/
def ready : State := put (up [(0x0F, 0)]) [(Reg.REC_STAT_READY, 1), (Reg.REC_CTRL_COMMIT_PER, 1)]

/-- The last record, of slot 4093, is being written, and others remain. -/
def commits (l : List (Nat × Nat)) : State :=
  { put ready [(Reg.REC_STAT_BUSY, 1)] with
    strand := { cur := some { type := 2, key := 0, slot := 4093, words := [1, 2], start := 0 }, todo := l } }

theorem witness_StrandlineCommits :
    let w := { ready with strand := { want := true, period := 10000 * ms } }
    let full := { ready with strand := { want := true } }
    let single := { ready with recJobs := [(5, 8, 1)] }
    let off := { ready with weave := {} }
    let j : RecJob := { type := 2, key := 0, slot := 4093, words := [1, 2], start := 0 }
    (ready.strandOn = true ∧ ready.is Reg.REC_STAT_BUSY = false ∧ (commits []).is Reg.REC_STAT_BUSY = true
        ∧ (commits []).strandOn = true ∧ (up []).strandOn = false)
      ∧ (w.strandOn = true ∧ w.get Reg.REC_CTRL_COMMIT_PER * (10000 * ms) ≤ w.strand.period + 0 ∧ w.running = false
        ∧ ready.strand.period + 0 < ready.get Reg.REC_CTRL_COMMIT_PER * (10000 * ms) ∧ ready.running = false)
      ∧ (full.strandOn = true ∧ full.is Reg.REC_STAT_READY = true ∧ full.is Reg.REC_STAT_BUSY = false ∧ full.strand.want = true)
      ∧ (single.strandOn = true ∧ single.is Reg.REC_STAT_READY = true ∧ single.is Reg.REC_STAT_BUSY = false
        ∧ single.strand.want = false ∧ single.recJobs ≠ [])
      ∧ (off.strandOn = false ∧ (put ready [(Reg.REC_STAT_READY, 0)]).is Reg.REC_STAT_READY = false
        ∧ ready.strand.want = false ∧ ready.recJobs = [])
      ∧ ((commits []).strand.cur = some j ∧ j.words ≠ [] ∧ j.time ≤ elapsed j.start (BitVec.ofNat 48 j.time)
        ∧ elapsed j.start (BitVec.ofNat 48 (j.time - 1)) < j.time ∧ (commits []).strand.todo = []
        ∧ (commits [(3, 0)]).strand.cur = some j ∧ (commits [(3, 0)]).strand.todo = (3, 0) :: [] ∧ ready.strand.cur = none) := by
  decide

/-- Record memory with a TYPE 2 record at slot 4000: its header, SEQ 9 and, where `whole`, its MARK (Table 12.7). -/
def recorded (whole : Bool) : State :=
  let s := (up [(0x0F, 0)]).recSet 64000 (BitVec.ofNat 48 (2 * 2 ^ 40 + 2 ^ 32 + 32 * 2 ^ 16))
  let s := s.recSet 64001 (BitVec.ofNat 48 (9 * 65536))
  if whole then s.recSet 64034 (BitVec.ofNat 48 ((2 ^ 32 - 1 - 9) * 65536 + 0xC3A5)) else s

def validOf (s : State) : List Found :=
  ((((List.range 4096).filter s.headerOk).map s.foundAt).filter (·.2)).map (·.1)

theorem witness_StrandlineTimersAndRecovery :
    let a := up [(0x0F, 0)]
    let b := put (run [(0x0F, 0)] [(Reg.WRP_SYNC_STATE 0, ssPhased)]) []
    let idle := put b [(Reg.WRP_SYNC_STATE 0, ssHunt)]
    let f : Found := { type := 2, key := 0, slot := 4000, seq := 9 }
    (a.strandOn = true ∧ 10 * ms ≤ elapsed a.strand.coilAt 16000000 ∧ elapsed a.strand.coilAt 15999999 < 10 * ms
        ∧ ms ≤ elapsed a.strand.boostAt 1600000 ∧ elapsed a.strand.boostAt 1599999 < ms ∧ (up []).strandOn = false)
      ∧ (b.strandOn = true ∧ b.running = true ∧ 4 ≤ b.get (Reg.WRP_SYNC_STATE b.primary) ∧ b.get (Reg.WRP_SYNC_STATE b.primary) ≤ 6
        ∧ 1000 * ms ≤ elapsed b.strand.secAt 1600000000 ∧ elapsed b.strand.secAt 1599999999 < 1000 * ms ∧ a.running = false
        ∧ idle.get (Reg.WRP_SYNC_STATE idle.primary) < 4
        ∧ 6 < (put b [(Reg.WRP_SYNC_STATE 0, ssStall)]).get (Reg.WRP_SYNC_STATE (put b [(Reg.WRP_SYNC_STATE 0, ssStall)]).primary))
      ∧ (a.power = .up ∧ a.is Reg.REC_STAT_READY = false ∧ State.reset.power ≠ .up
        ∧ (put a [(Reg.REC_STAT_READY, 1)]).is Reg.REC_STAT_READY = true)
      ∧ (validOf a = [] ∧ validOf (recorded false) = [] ∧ newestOf (validOf (recorded true)) = some f ∧ (2, 0) ∈ recKinds
        ∧ newestOf ((validOf (recorded true)).filter (fun f => decide (f.type = 2 ∧ f.key = 0))) = some f) := by decide +kernel

/-! ### Proex -/

/-- A pair member whose link is UP in a divergence state. -/
def pairUp (div : Nat) (l : List (Fld × Nat)) : State :=
  let s := put (up [(0x10, 0)]) ([(Reg.PRX_STAT_LINK, 2), (Reg.PRX_STAT_CHECK, 0), (Reg.PRX_STAT_MAP_VALID, 1), (Reg.PRX_PART_STATE, 4),
    (Reg.WRP_SYNC_STATE 0, ssPhased), (Reg.PRX_STAT_DIV, div), (Reg.PRX_DIVCFG_DIV_TEETH, 1)] ++ l)
  onBalls { s with weave := { tiles := [(0x10, 0)], pair := true } } 0x10 0 [0, 1, 2, 3]

theorem witness_ProexLink :
    let u := pairUp dvAgree []
    let down := put u [(Reg.PRX_STAT_LINK, 0)]
    let b := put u [(Reg.WRP_SYNC_STATE 0, ssBorrowed)]
    let c := { b with pair := { toothAt := some 0, toothFor := 100 } }
    let z := pairUp dvBothStop []
    (down.proexRx = true ∧ down.get Reg.PRX_STAT_LINK = 0 ∧ (up []).proexRx = false ∧ u.get Reg.PRX_STAT_LINK ≠ 0)
      ∧ (u.get Reg.PRX_STAT_LINK = 2 ∧ 300 * us ≤ elapsed u.pair.beatAt 480000 ∧ elapsed u.pair.beatAt 479999 < 300 * us
        ∧ u.is Reg.PRX_STAT_MAP_VALID = true ∧ 300 * us ≤ elapsed u.pair.mapAt 480000 ∧ elapsed u.pair.mapAt 479999 < 300 * us
        ∧ (up []).is Reg.PRX_STAT_MAP_VALID = false)
      ∧ (b.primary < 2 ∧ b.sync b.primary = ssBorrowed ∧ (b.at 9).partnerAngle = false ∧ (c.at 99).partnerAngle = true
        ∧ (c.at 100).partnerAngle = false ∧ u.sync u.primary ≠ ssBorrowed)
      ∧ (u.receives = true ∧ down.receives = false ∧ (up []).gone Reg.PRX_CTRL_addr = true ∧ u.gone Reg.PRX_CTRL_addr = false
        ∧ z.gone Reg.PRX_CTRL_addr = false ∧ z.div = dvBothStop ∧ u.div ≠ dvBothStop) := by decide

theorem witness_ProexBeatsAndTeeth :
    let u := fun (div tol hard : Nat) => { pairUp div [(Reg.PRX_DIVCFG_DIV_TOL, tol), (Reg.PRX_DIVCFG_HARD, hard)] with
      weave := { (pairUp div []).weave with refA := 0x010000000000 } }
    let p := List.replicate 18 0
    let q := List.replicate 44 0
    let e := { u 0 1 2 with pair := { sent := [0] } }
    let other := { e with weave := { e.weave with pair := false } }
    let h := { u 0 1 2 with causes := [(1, 0)], pending := [.headlandCause 9] }
    let b := { put (u 0 1 2) [(Reg.WRP_SYNC_STATE 0, ssBorrowed), (Reg.WRP_SYNC_BG 0, 4)] with pair := { toothAt := some 0, toothFor := 100 } }
    let d := fun (s : State) => (rdiv (sdiff (s.partnerUpdate p).angle ((s.at 9).angleAt s.delivering (s.partnerUpdate p).time)
      * (64 * s.cycleDeg)) W48).natAbs
    let takes := fun (s : State) => ¬ (s.get Reg.PRX_STAT_LINK ≠ 0 ∧ 300 * us ≤ elapsed s.pair.beatAt 9) ∧ s.receives = true
      ∧ s.pairMember = true ∧ (s.partnerUpdate p).half = false ∧ s.primary < 2 ∧ s.comparable (s.partnerUpdate p) = true
    let counts := fun (s : State) => takes s ∧ (s.at 9).haltFirst = false ∧ 0 < s.get Reg.PRX_DIVCFG_DIV_TEETH
      ∧ s.get Reg.PRX_DIVCFG_DIV_TOL < s.get Reg.PRX_DIVCFG_HARD
    ((∀ x ∈ q, x < 256) ∧ e.receives = true ∧ e.pairMember = true ∧ e.pair.sent.contains (wordAt q 6) = true
        ∧ other.receives = true ∧ other.pairMember = false ∧ other.pair.sent.contains (wordAt q 6) = true
        ∧ (u 0 1 2).pair.sent.contains (wordAt q 6) = false ∧ (up []).receives = false)
      ∧ ((let delay := fun (a : Nat) => rdiv (sdiff (BitVec.ofNat 48 a) (wordAt q 6) - sdiff (wordAt q 0) (wordAt q 12)) 2
          0 ≤ delay 0 ∧ 0 ≤ delay 6398 ∧ delay 6398 < 3200 ∧ 3200 ≤ delay 6400 ∧ delay (2 ^ 48 - 2) < 0))
      ∧ ((u 0 1 2).get Reg.PRX_STAT_LINK ≠ 0 ∧ 300 * us ≤ elapsed (u 0 1 2).pair.beatAt 480000)
      ∧ (takes b ∧ b.sync b.primary = ssBorrowed)
      ∧ (takes h ∧ (h.at 9).haltFirst = true ∧ h.div = dvAgree)
      ∧ (counts (u dvAgree 1 2) ∧ (u dvAgree 1 2).div = dvAgree ∧ (u 0 1 2).get Reg.PRX_DIVCFG_HARD < d (u 0 1 2)
        ∧ (u 0 1 2).get Reg.PRX_DIVCFG_DIV_TEETH ≤ (u 0 1 2).pair.hc + 1)
      ∧ (counts (u 0 1 900) ∧ (u 0 1 900).get Reg.PRX_DIVCFG_DIV_TOL < d (u 0 1 900)
        ∧ d (u 0 1 900) ≤ (u 0 1 900).get Reg.PRX_DIVCFG_HARD ∧ (u 0 1 900).get Reg.PRX_DIVCFG_DIV_TEETH ≤ (u 0 1 900).pair.dc + 1)
      ∧ (counts (u dvSoft 255 900) ∧ (u dvSoft 255 900).div = dvSoft ∧ d (u dvSoft 255 900) ≤ (u dvSoft 255 900).get Reg.PRX_DIVCFG_DIV_TOL
        ∧ (u dvSoft 255 900).get Reg.PRX_DIVCFG_DIV_TEETH ≤ (u dvSoft 255 900).pair.ac + 1) := by
  refine ⟨?_, ?_, ?_, ?_, ?_, ?_, ?_, ?_⟩ <;> decide +kernel

theorem witness_ProexFramesAndTransmission :
    let a := pairUp dvAgree [(Reg.PRX_CTRL_PEV_EN, 1)]
    let e : PairEntry := { ev := ⟨1, 2, 3⟩, key := 5, bSide := true }
    let full := { a with pair := { fifo := List.replicate 128 e } }
    let rec_ := 23 :: List.replicate 71 0
    let blk := [3, 0, 0, 0] ++ List.replicate 48 0
    let last := [3, 0, 0, 16] ++ List.replicate 48 0
    let two := { a with pair := { series := some (3, 16), whole := true, rxSeq := [(5, 254)] } }
    let f : ProexFrame := { type := 4, payload := [1] }
    let x := fun (k : Pair) => { pairUp dvAgree [] with pair := k }
    let sig := put (x {}) [(Reg.WFT_CLST_SIG_VALID 0, 1), (Reg.WFT_CLST_FP_VALID 0, 1)]
    (a.receives = true ∧ a.pairMember = true ∧ a.hasTile 0x10 0 = true ∧ a.is Reg.PRX_CTRL_PEV_EN = true ∧ a.pair.fifo.length < 128
        ∧ 128 ≤ full.pair.fifo.length ∧ full.pairMember = true ∧ (up []).receives = false
        ∧ { a with weave := { a.weave with pair := false } }.receives = true ∧ { a with weave := { a.weave with pair := false } }.pairMember = false)
      ∧ (a.checkOk = true ∧ payNat rec_ 0 1 < 24 ∧ (put a [(Reg.PRX_STAT_CHECK, 4)]).checkOk = false ∧ 24 ≤ payNat [24] 0 1)
      ∧ (two.checkOk = true ∧ payNat blk 2 2 = 0 ∧ payNat last 2 2 = 16 ∧ (two.blockArea 3).2 ≠ 0 ∧ (two.blockArea 3).2 ≤ 16 + 8
        ∧ two.pair.whole = true ∧ (two.seqAccept 5 255).2 = false ∧ (two.seqAccept 5 0).2 = true
        ∧ two.pair.series = some (payNat last 0 1, 16))
      ∧ ((x {}).proexTx = true ∧ 100 * us ≤ elapsed (x {}).pair.dueAt 160000 ∧ elapsed (x {}).pair.dueAt 159999 < 100 * us
        ∧ (up []).proexTx = false)
      ∧ (((x { teeth := [f], toothTo := some 10 }).at 9).urgentRuns = true ∧ ((x { teeth := [f], busyTo := some 10 }).at 9).urgentRuns = false
        ∧ ((x { teeth := [f], busyTo := some 10 }).at 9).linkFree = false ∧ ((x { teeth := [f] }).at 9).linkFree = true
        ∧ (x {}).pending = [] ∧ (x {}).busRequests = [] ∧ ((x {}).at 9).memTurn .proex = (x {}).at 9)
      ∧ ((x { teeth := [f] }).pair.teeth = f :: [] ∧ ((x { busyTo := some 10 }).at 9).linkFree = false
        ∧ ((x { busyTo := some 9 }).at 9).linkFree = true ∧ (x { beatDue := true }).pair.beatDue = true)
      ∧ (∀ n ∈ [3, 4, 5], let q := (x { queue := [{ f with type := n }] }).pair.queue
        q.find? (fun g => decide (g.type = n)) = some { f with type := n }
          ∧ ∀ m ∈ [3, 4, 5], m ≠ n → q.find? (fun g => decide (g.type = m)) = none)
      ∧ ((x { blockDue := [1, 4] }).pair.blockDue.contains 4 = true ∧ (x {}).pair.blockDue.contains 3 = false ∧ 3 ≠ 1 ∧ 3 ≠ 2
        ∧ sig.is (Reg.WFT_CLST_SIG_VALID 0) = true ∧ 10000 * ms ≤ elapsed sig.pair.sigAt 16000000000
        ∧ sig.is (Reg.WFT_CLST_FP_VALID 0) = true ∧ 1000 * ms ≤ elapsed sig.pair.fpAt 1600000000) := by
  refine ⟨?_, ?_, ?_, ?_, ?_, ?_, ?_, ?_⟩ <;> decide +kernel

/-! ### Check values of the manual -/

def digits : List Nat := [0x31, 0x32, 0x33, 0x34, 0x35, 0x36, 0x37, 0x38, 0x39]

/-- The check values that the manual gives for "123456789" (02_weave_configuration, R512). -/
theorem test_crc32_check : crc32 digits = 0xCBF43926 := by decide +kernel
theorem test_crc8_check : crc8 digits = 0x4B := by decide +kernel

/-- R28: on the example engine index 0 lies at 690 °CA, index 12 at 0 °CA and index 132 at 300 °CA, each to a count. -/
theorem test_example_angles :
    let s := { put (up []) [(Reg.WRP_CFG_POS 0, 144)] with weave := { refA := 0xF55555555555 } }
    let near := fun (i : Nat) (w : Word) => (sdiff (s.angleOf 0 i) w).natAbs ≤ 1
    s.ncyc 0 = 288 ∧ s.angleOf 0 0 = 0xF55555555555 ∧ near 12 0 ∧ near 132 0x6AAAAAAAAAAB := by decide +kernel


end Sys2Proof.Tests
end

section
/-!
PROOF. The tooth update (R50): what a broadcast gives to the Shuttles and leaves alone, what issuing an update does to the
Weft, and the obligation on TOOTH_UPDATE_BROADCAST.
-/
namespace Sys2Proof.Machine

/-- What every step of a fold leaves as it was, the fold leaves as it was. -/
theorem State.foldl_reading {α β : Type} (g : State → β) {f : State → α → State} (h : ∀ s x, g (f s x) = g s)
    (l : List α) (s : State) : g (l.foldl f s) = g s :=
  List.foldlRecOn (motive := fun s' => g s' = g s) l f rfl fun s' hs x _ => (h s' x).trans hs

/-! ### Operations of a broadcast that give the Shuttles nothing -/

/-- An operation that keeps the part `shuttles` keeps every Shuttle. -/
theorem Keeps.sh_eq {P : Nat} {s₀ s : State} (h : Keeps P s₀ s) (hP : P.testBit Part.shuttles.idx = false) (k : Nat) :
    s.sh k = s₀.sh k :=
  congrArg (vget · k) (h.same .shuttles hP)

@[simp] theorem State.svcUpdate_sh (s : State) (u : Update) (k : Nat) : (s.svcUpdate u).sh k = s.sh k :=
  (State.svcUpdate_keeps s u (Nat.and_self _) (.refl _ s)).sh_eq (by decide) k

@[simp] theorem State.streamAll_sh (s : State) (kind : Nat) (ws : List Word) (tag k : Nat) :
    (s.streamAll kind ws tag).sh k = s.sh k :=
  (State.streamAll_keeps s kind ws tag (Nat.and_self _) (.refl _ s)).sh_eq (by decide) k

@[simp] theorem State.proexTooth_sh (s : State) (u : Update) (k : Nat) : (s.proexTooth u).sh k = s.sh k :=
  (State.proexTooth_keeps s u (Nat.and_self _) (.refl _ s)).sh_eq (by decide) k

/-! ### Registers that they write -/

@[simp] theorem State.speedLoad_reg (s : State) (a : Nat) : s.speedLoad.reg a = s.reg a := by
  unfold State.speedLoad
  split <;> rfl

theorem State.cycleCount_reg (s : State) {a : Nat} (h : a ≠ Reg.SVC_CYCLE_addr) : s.cycleCount.reg a = s.reg a :=
  State.reg_set_ne s Reg.SVC_CYCLE_CYCLE _ h

theorem State.withMaps_reg (s : State) (m : Vector MapCyl 48) (a : Nat) :
    ({ s with maps := m } : State).reg a = s.reg a := rfl

/-- The services write no register but SVC_CYCLE when they take an update. -/
theorem State.svcUpdate_reg (s : State) (u : Update) {a : Nat} (h : a ≠ Reg.SVC_CYCLE_addr) :
    (s.svcUpdate u).reg a = s.reg a := by
  unfold State.svcUpdate
  extract_lets old _ s₁
  have hs₁ : s₁.reg a = s.reg a := rfl
  clear_value old s₁
  cases old with
  | none => exact hs₁
  | some o =>
    refine (State.withMaps_reg _ _ a).trans ?_
    split
    · rw [State.speedLoad_reg, State.cycleCount_reg s₁ h, hs₁]
    · exact hs₁

/-- An item for a stream writes no register but the stream's STR_STAT. -/
theorem State.streamItem_reg (s : State) (kind k : Nat) (ws : List Word) (tag : Nat) {a : Nat}
    (h : a ≠ Reg.STR_STAT_addr k) : (s.streamItem kind k ws tag).reg a = s.reg a := by
  unfold State.streamItem
  extract_lets x n put
  split
  · rfl
  · split
    · rfl
    · exact State.reg_set_ne s (Reg.STR_STAT_DROPS k) _ h

theorem State.streamAll_reg (s : State) (kind : Nat) (ws : List Word) (tag : Nat) {a : Nat}
    (h : ∀ k, a ≠ Reg.STR_STAT_addr k) : (s.streamAll kind ws tag).reg a = s.reg a :=
  State.foldl_reading (·.reg a) (fun s' k => State.streamItem_reg s' kind k ws tag (h k)) _ s

@[simp] theorem State.proexTooth_reg (s : State) (u : Update) (a : Nat) : (s.proexTooth u).reg a = s.reg a := by
  unfold State.proexTooth
  extract_lets
  split <;> rfl

/-! ### The broadcast -/

/-- Gives the update to Shuttle `k` where the weave instantiates it: one step of the broadcast. -/
def State.giveSh (u : Update) (s : State) (k : Nat) : State :=
  if s.hasTile 3 k then s.setSh k { s.sh k with upd := some u } else s

/-- The same step for pulse output `p`. -/
def State.givePo (u : Update) (s : State) (p : Nat) : State :=
  if s.hasTile 0x0D p then s.setPo p { s.po p with upd := some u } else s

section
variable (u : Update)

@[simp] theorem State.givePo_sh (s : State) (p k : Nat) : (s.givePo u p).sh k = s.sh k := by
  unfold State.givePo
  split <;> rfl

@[simp] theorem State.givePo_reg (s : State) (p a : Nat) : (s.givePo u p).reg a = s.reg a := by
  unfold State.givePo
  split <;> rfl

@[simp] theorem State.giveSh_hasTile (s : State) (k i j : Nat) : (s.giveSh u k).hasTile i j = s.hasTile i j := by
  unfold State.giveSh
  split <;> rfl

@[simp] theorem State.giveSh_reg (s : State) (k a : Nat) : (s.giveSh u k).reg a = s.reg a := by
  unfold State.giveSh
  split <;> rfl

/-- A step for Shuttle `k` gives the update to this Shuttle alone. -/
theorem State.giveSh_upd (s : State) {k : Nat} (hk : k < 64) (j : Nat) :
    ((s.giveSh u k).sh j).upd = if j = k ∧ s.hasTile 3 k = true then some u else (s.sh j).upd := by
  unfold State.giveSh
  by_cases ht : s.hasTile 3 k = true
  · by_cases hj : j = k
    · subst hj; simp [ht, hk]
    · simp [ht, hj, State.sh_setSh_ne]
  · simp [ht]

/-- The steps for the Shuttles of a list give the update to those that the weave instantiates. -/
theorem State.foldl_giveSh_upd (l : List Nat) (hl : ∀ k ∈ l, k < 64) (s : State) (j : Nat) :
    ((l.foldl (State.giveSh u) s).sh j).upd = if j ∈ l ∧ s.hasTile 3 j = true then some u else (s.sh j).upd := by
  induction l generalizing s with
  | nil => simp
  | cons k l ih =>
    rw [List.forall_mem_cons] at hl
    rw [List.foldl_cons, ih hl.2, State.giveSh_hasTile, State.giveSh_upd u s hl.1]
    by_cases hj : j = k
    · subst hj; by_cases ht : s.hasTile 3 j = true <;> simp [ht]
    · simp [hj]

/-- After a broadcast every instantiated Shuttle holds the update, and the other Shuttles what they held. -/
theorem State.broadcast_upd (s : State) (n : Nat) {k : Nat} (hk : k < 64) :
    ((s.broadcast n u).sh k).upd = if s.hasTile 3 k = true then some u else (s.sh k).upd := by
  unfold State.broadcast
  extract_lets s₁ s₂ _ s₃ s₄
  have h₁ : (s₁.sh k).upd = if s.hasTile 3 k = true then some u else (s.sh k).upd := by
    have h := State.foldl_giveSh_upd u (List.range 64) (fun _ => List.mem_range.1) s k
    simp only [List.mem_range, hk, true_and] at h
    exact h
  have h₂ : s₂.sh k = s₁.sh k := State.foldl_reading (·.sh k) (fun s' p => State.givePo_sh u s' p k) _ s₁
  clear_value s₁ s₂ -- `rfl` below would evaluate the folds
  have h₃ : s₃.sh k = s₂.sh k := by
    unfold s₃; split <;> rfl
  have h₄ : s₄.sh k = s₃.sh k := by
    unfold s₄; split <;> simp
  rw [State.streamAll_sh, State.svcUpdate_sh, h₄, h₃, h₂, h₁]

/-- A broadcast writes no register but SVC_CYCLE and STR_STAT. -/
theorem State.broadcast_reg (s : State) (n : Nat) {a : Nat} (hsvc : a ≠ Reg.SVC_CYCLE_addr)
    (hstr : ∀ k, a ≠ Reg.STR_STAT_addr k) : (s.broadcast n u).reg a = s.reg a := by
  unfold State.broadcast
  extract_lets s₁ s₂ _ s₃ s₄
  have h₁ : s₁.reg a = s.reg a := State.foldl_reading (·.reg a) (fun s' k => State.giveSh_reg u s' k a) _ s
  have h₂ : s₂.reg a = s₁.reg a := State.foldl_reading (·.reg a) (fun s' p => State.givePo_reg u s' p a) _ s₁
  clear_value s₁ s₂ -- `rfl` below would evaluate the folds
  have h₃ : s₃.reg a = s₂.reg a := by
    unfold s₃; split <;> rfl
  have h₄ : s₄.reg a = s₃.reg a := by
    unfold s₄; split <;> simp
  rw [State.streamAll_reg _ _ _ _ hstr, State.svcUpdate_reg _ u hsvc, h₄, h₃, h₂, h₁]

/-- A broadcast leaves the Wefts alone. -/
@[simp] theorem State.broadcast_wf (s : State) (n i : Nat) : (s.broadcast n u).wf i = s.wf i :=
  congrArg (vget · i) ((State.broadcast_keeps s n u (Nat.and_self _) (.refl _ s)).same .wefts (by decide))

/-! ### Issuing an update -/

/-- A Weft whose oldest update is `u`, with `rest` behind it, once it has issued `u`. -/
def Weft.issue (w : Weft) (u : Update) (rest : List Update) : Weft :=
  { w with
    formed := rest, last := some u, prev := if w.restarted then none else w.last, restarted := false, held := false
    issued := some u, issuedPrev := w.issued }

/-- Weft `n` issues `u`: the update leaves the queue, and STEP counts. The broadcast follows. -/
def State.issueUpdate (s : State) (n : Nat) (rest : List Update) : State :=
  let s := s.setWf n ((s.wf n).issue u rest)
  if u.step then s.inc (Reg.WFT_CNT_STEPS n) else s

@[simp] theorem State.issueUpdate_wf (s : State) {n : Nat} (hn : n < 2) (rest : List Update) :
    (s.issueUpdate u n rest).wf n = (s.wf n).issue u rest := by
  unfold State.issueUpdate
  split <;> simp [hn]

@[simp] theorem State.issueUpdate_hasTile (s : State) (n : Nat) (rest : List Update) (i j : Nat) :
    (s.issueUpdate u n rest).hasTile i j = s.hasTile i j := by
  unfold State.issueUpdate
  split <;> rfl

@[simp] theorem State.issueUpdate_sh (s : State) (n : Nat) (rest : List Update) (k : Nat) :
    (s.issueUpdate u n rest).sh k = s.sh k := by
  unfold State.issueUpdate
  split <;> rfl

/-- An update with STEP raises the count of steps, which saturates. -/
theorem State.issueUpdate_steps (s : State) (n : Nat) (rest : List Update) :
    (s.issueUpdate u n rest).get (Reg.WFT_CNT_STEPS n)
      = if u.step then min (s.get (Reg.WFT_CNT_STEPS n) + 1) (Reg.WFT_CNT_STEPS n).max else s.get (Reg.WFT_CNT_STEPS n) := by
  unfold State.issueUpdate
  split
  · exact State.get_inc _ _ (by simp)
  · rfl

/-- The count of steps lies at none of the registers that a broadcast writes. -/
theorem State.broadcast_steps (s : State) (n : Fin 2) (m : Nat) :
    (s.broadcast m u).get (Reg.WFT_CNT_STEPS n) = s.get (Reg.WFT_CNT_STEPS n) := by
  have hn := n.isLt
  have hsvc : Reg.WFT_CNT_addr n ≠ Reg.SVC_CYCLE_addr := by unfold Reg.WFT_CNT_addr Reg.SVC_CYCLE_addr; omega
  have hstr : ∀ k, Reg.WFT_CNT_addr n ≠ Reg.STR_STAT_addr k := fun k => by
    unfold Reg.WFT_CNT_addr Reg.STR_STAT_addr; omega
  exact congrArg (Reg.WFT_CNT_STEPS n).get (State.broadcast_reg u s m hsvc hstr)

end

/-! ### The command -/

/-- With all acknowledged, the delivering Weft issues its oldest update. -/
theorem exec_toothUpdateBroadcast_issues {t : Word} {n : Fin 2} {s : State} {u : Update} {rest : List Update}
    (hf : (s.wf n).formed = u :: rest) (hrun : s.running = true) (hdel : s.delivering = n.val)
    (hack : s.allAcknowledged = true) :
    exec (.toothUpdateBroadcast t n) s = .next (((s.at t).issueUpdate u n rest).broadcast n u) := by
  have hf' : ((s.at t).wf n).formed = u :: rest := hf
  have hmay : (s.at t).running = true ∧ (s.at t).delivering = n.val ∧ (s.at t).allAcknowledged = true :=
    ⟨hrun, hdel, hack⟩
  change execToothUpdateBroadcast t n s = _
  simp only [execToothUpdateBroadcast, hf', if_pos hmay]
  rfl

/-- Otherwise the command has nothing to do. -/
theorem exec_toothUpdateBroadcast_idles {t : Word} {n : Fin 2} {s : State}
    (h : (s.wf n).formed = [] ∨ ¬ (s.running = true ∧ s.delivering = n.val ∧ s.allAcknowledged = true)) :
    exec (.toothUpdateBroadcast t n) s = .next (s.at t) := by
  change execToothUpdateBroadcast t n s = _
  cases hf : (s.wf n).formed with
  | nil =>
    have hf' : ((s.at t).wf n).formed = [] := hf
    simp only [execToothUpdateBroadcast, hf']
  | cons u rest =>
    have hf' : ((s.at t).wf n).formed = u :: rest := hf
    have hmay : ¬ ((s.at t).running = true ∧ (s.at t).delivering = n.val ∧ (s.at t).allAcknowledged = true) :=
      h.resolve_left (by simp [hf])
    simp only [execToothUpdateBroadcast, hf', if_neg hmay]

/-- Settles O15: an issued update goes through `issueUpdate` and `broadcast`, whose lemmas give each part; every other case is
the idle one. -/
theorem toothUpdateBroadcast : Obligations.ToothUpdateBroadcast := by
  intro t n s
  constructor
  · intro u rest hf hrun hdel hack
    have hwf : (((s.at t).issueUpdate u n rest).broadcast n u).wf n = ((s.at t).wf n).issue u rest := by
      rw [State.broadcast_wf, State.issueUpdate_wf u _ n.isLt]
    refine ⟨_, exec_toothUpdateBroadcast_issues hf hrun hdel hack, ?_, ?_, ?_, fun k hk => ?_, fun k hk => ?_⟩
    · rw [hwf]; rfl
    · rw [hwf]; rfl
    · rw [State.broadcast_steps, State.issueUpdate_steps]
      simp
    · simp [State.broadcast_upd, hk]
    · simp [State.broadcast_upd, hk]
  · intro h
    refine exec_toothUpdateBroadcast_idles ?_
    rcases h with hf | hrun | hdel | hack
    · exact .inl hf
    · exact .inr fun ⟨hr, _, _⟩ => Bool.false_ne_true (hrun.symm.trans hr)
    · exact .inr fun ⟨_, hd, _⟩ => hdel hd
    · exact .inr fun ⟨_, _, ha⟩ => Bool.false_ne_true (hack.symm.trans ha)

end Sys2Proof.Machine
end

section
/-!
PROOF. The boost controllers (R323 to R326, R356): a rail sample cut into the steps that take it, regulate on it and follow it with
LOW and OV, what each step writes and leaves alone, the equations of the three commands, and the obligation on them.
-/
namespace Sys2Proof.Machine

/-! ### Fields and registers -/

/-- A field reads the same in two states that agree on its register. -/
theorem State.get_congr {s s' : State} {f : Fld} (h : s'.reg f.addr = s.reg f.addr) : s'.get f = s.get f :=
  congrArg f.get h

theorem State.is_congr {s s' : State} {f : Fld} (h : s'.get f = s.get f) : s'.is f = s.is f := by
  rw [State.is_eq, State.is_eq, h]

/-- A one-bit field just set or cleared. -/
theorem State.is_flag (s : State) {f : Fld} (b : Bool) (hw : f.wid = 1) (hf : f.lo + f.wid ≤ 48) : (s.flag f b).is f = b := by
  rw [State.is_eq, State.flag, State.get_set s f _ hf, hw]
  cases b <;> rfl

theorem State.reg_inc_ne (s : State) (f : Fld) {a : Nat} (h : a ≠ f.addr) : (s.inc f).reg a = s.reg a :=
  State.reg_set_ne s f _ h

theorem State.get_stick_ne (s : State) (f g : Fld) (bits : Nat)
    (h : f.addr ≠ g.addr ∨ (f.lo + f.wid ≤ 48 ∧ g.lo + g.wid ≤ 48 ∧ (f.lo + f.wid ≤ g.lo ∨ g.lo + g.wid ≤ f.lo))) :
    (s.stick f bits).get g = s.get g := by
  rw [State.stick, State.get_note, State.get_set_ne s f g _ h]

@[simp] theorem State.extreme_reg (s : State) (e i : Nat) (v : Int) (isMin sgn : Bool) (a : Nat) :
    (s.extreme e i v isMin sgn).reg a = s.reg a :=
  congrArg (Cells.get regReset · a)
    ((State.extreme_keeps s e i v isMin sgn (Nat.and_self _) (.refl _ s)).same .regs (by decide))

@[simp] theorem State.extreme_bst (s : State) (e i : Nat) (v : Int) (isMin sgn : Bool) (g : Nat) :
    (s.extreme e i v isMin sgn).bst g = s.bst g :=
  congrArg (vget · g) ((State.extreme_keeps s e i v isMin sgn (Nat.and_self _) (.refl _ s)).same .boosts (by decide))

/-- Becoming sync-ready writes no register but SYS_START. -/
theorem State.checkReady_reg (s : State) {a : Nat} (h : a ≠ Reg.SYS_START_addr) : s.checkReady.reg a = s.reg a := by
  unfold State.checkReady
  extract_lets _ d
  split
  · change ((s.set Reg.SYS_START_TIME d).set Reg.SYS_START_READY 1).reg a = s.reg a
    rw [State.reg_set_ne _ Reg.SYS_START_READY 1 h, State.reg_set_ne s Reg.SYS_START_TIME d h]
  · rfl

@[simp] theorem State.checkReady_bst (s : State) (g : Nat) : s.checkReady.bst g = s.bst g :=
  congrArg (vget · g) ((State.checkReady_keeps s (Nat.and_self _) (.refl _ s)).same .boosts (by decide))

theorem State.get_setBst (s : State) (g : Nat) (k : Boost) (f : Fld) : (s.setBst g k).get f = s.get f := rfl

/-- OV is 1 since the instant given, or is 0; in both cases nothing is told yet (R356). -/
def Boost.ovFrom (k : Boost) (since : Option Word) : Boost := { k with ovSince := since, told := false }

/-- The controller switches or does not. -/
def Boost.switched (k : Boost) (sw : Bool) : Boost := { k with switching := sw }

section
variable (s : State) (g v : Nat)

/-! ### LOW and OV -/

/-- LOW of a rail at `v` (R324). -/
def State.railLow : Bool := decide (v < 10 * s.get (Reg.BST_CFG_VSET g) - 10 * s.get (Reg.BST_LIM_LOW_M g))

/-- OV of a rail at `v` (R324). -/
def State.railOv : Bool :=
  decide (min (10 * s.get (Reg.BST_CFG_VSET g) + 10 * s.get (Reg.BST_LIM_OV_M g)) 1960 ≤ v)

/-- First half of `railLevels`: a rise of LOW or OV counts, and the instant since which OV is 1 is kept (R356). -/
def State.railCounted (low ov : Bool) : State :=
  let s := if low && !s.is (Reg.BST_STAT_LOW g) then s.inc (Reg.BST_CNT_LOWS g) else s
  if ov && !s.is (Reg.BST_STAT_OV g) then
    ((s.inc (Reg.BST_CNT_OVS g)).report 5 g 1 v (some s.now)).setBst g ((s.bst g).ovFrom (some s.now))
  else if !ov then s.setBst g ((s.bst g).ovFrom none) else s

/-- Second half of `railLevels`: the bits of BST_STAT. -/
def State.railBits (low ov : Bool) : State :=
  let s := (s.flag (Reg.BST_STAT_LOW g) low).flag (Reg.BST_STAT_OV g) ov
  if ov then s.stick (Reg.BST_STAT_OV_SEEN g) 1 else s

theorem State.railLevels_eq : s.railLevels g v
    = (s.railCounted g v (s.railLow g v) (s.railOv g v)).railBits g (s.railLow g v) (s.railOv g v) := rfl

/-- The counts write no register but BST_CNT. -/
theorem State.railCounted_reg (low ov : Bool) {a : Nat} (h : a ≠ Reg.BST_CNT_addr g) :
    (s.railCounted g v low ov).reg a = s.reg a := by
  unfold State.railCounted
  extract_lets s₁
  have h₁ : s₁.reg a = s.reg a := by
    unfold s₁
    split
    · exact State.reg_inc_ne s (Reg.BST_CNT_LOWS g) h
    · rfl
  split
  · exact (State.reg_inc_ne s₁ (Reg.BST_CNT_OVS g) h).trans h₁
  · split <;> exact h₁

/-- The counts leave the regulation of the controller alone. -/
theorem State.railCounted_bst (low ov : Bool) (hg : g < 3) :
    ((s.railCounted g v low ov).bst g).enabled = (s.bst g).enabled
      ∧ ((s.railCounted g v low ov).bst g).switching = (s.bst g).switching := by
  unfold State.railCounted
  extract_lets s₁
  have h₁ : s₁.bst g = s.bst g := by
    unfold s₁
    split <;> rfl
  rw [← h₁]
  clear_value s₁
  split
  · simp [hg, Boost.ovFrom]
  · split
    · simp [hg, Boost.ovFrom]
    · simp

@[simp] theorem State.railBits_bst (low ov : Bool) (i : Nat) : (s.railBits g low ov).bst i = s.bst i := by
  unfold State.railBits
  split <;> simp

/-- The last write of `railBits`, to OV_SEEN, leaves every field of BST_STAT above it alone. -/
theorem State.railBits_get (low ov : Bool) {f : Fld} (hlo : 33 ≤ f.lo) (hf : f.lo + f.wid ≤ 48) :
    (s.railBits g low ov).get f = ((s.flag (Reg.BST_STAT_LOW g) low).flag (Reg.BST_STAT_OV g) ov).get f := by
  unfold State.railBits
  split
  · exact State.get_stick_ne _ (Reg.BST_STAT_OV_SEEN g) f 1 (.inr ⟨by simp, hf, .inl hlo⟩)
  · rfl

/-- VRAIL and READY lie above the bits. -/
theorem State.railBits_get_above (low ov : Bool) {f : Fld} (hlo : 35 ≤ f.lo) (hf : f.lo + f.wid ≤ 48) :
    (s.railBits g low ov).get f = s.get f := by
  rw [State.railBits_get s g low ov (by omega) hf, State.flag, State.flag,
    State.get_set_ne _ (Reg.BST_STAT_OV g) f _ (.inr ⟨by simp, hf, .inl (Nat.le_trans (by simp) hlo)⟩),
    State.get_set_ne _ (Reg.BST_STAT_LOW g) f _ (.inr ⟨by simp, hf, .inl hlo⟩)]

theorem State.railBits_ov (low ov : Bool) : (s.railBits g low ov).is (Reg.BST_STAT_OV g) = ov := by
  rw [State.is_congr (State.railBits_get s g low ov (by simp) (by simp))]
  exact State.is_flag _ ov rfl (by simp)

theorem State.railBits_low (low ov : Bool) : (s.railBits g low ov).is (Reg.BST_STAT_LOW g) = low := by
  rw [State.is_congr (State.railBits_get s g low ov (by simp) (by simp)), State.flag,
    State.is_congr (State.get_set_ne _ (Reg.BST_STAT_OV g) _ _ (.inr (by simp)))]
  exact State.is_flag s low rfl (by simp)

/-! ### A sample -/

/-- VRAIL takes the sample, and with it the record of extremes. -/
def State.railTaken : State := (s.set (Reg.BST_STAT_VRAIL g) v).extreme 5 g v false false

/-- Whether the controller switches after a sample `v` (R323, R326). -/
def State.railSwitching : Bool :=
  if v < 10 * s.get (Reg.BST_CFG_VSET g) - 10 * s.get (Reg.BST_LIM_HYST g) then (s.bst g).enabled
  else if 10 * s.get (Reg.BST_CFG_VSET g) ≤ v then false else (s.bst g).switching

/-- Switching and READY after a sample `v`. -/
def State.railRegulated : State :=
  let s₁ := s.setBst g ((s.bst g).switched (s.railSwitching g v))
  if (s.bst g).enabled ∧ 10 * s.get (Reg.BST_CFG_VSET g) ≤ v then s₁.set (Reg.BST_STAT_READY g) 1 else s₁

theorem State.railTaken_reg {a : Nat} (h : a ≠ Reg.BST_STAT_addr g) : (s.railTaken g v).reg a = s.reg a :=
  (State.extreme_reg _ _ _ _ _ _ a).trans (State.reg_set_ne s (Reg.BST_STAT_VRAIL g) v h)

@[simp] theorem State.railTaken_bst (i : Nat) : (s.railTaken g v).bst i = s.bst i :=
  State.extreme_bst _ _ _ _ _ _ i

theorem State.railTaken_vrail (hv : v < 4096) : (s.railTaken g v).get (Reg.BST_STAT_VRAIL g) = v := by
  rw [State.railTaken, State.get_congr (State.extreme_reg _ _ _ _ _ _ _), State.get_set s _ _ (by simp)]
  exact Nat.mod_eq_of_lt hv

theorem State.railRegulated_reg {a : Nat} (h : a ≠ Reg.BST_STAT_addr g) : (s.railRegulated g v).reg a = s.reg a := by
  unfold State.railRegulated
  extract_lets s₁
  split
  · exact State.reg_set_ne s₁ (Reg.BST_STAT_READY g) 1 h
  · rfl

theorem State.railRegulated_bst (hg : g < 3) :
    (s.railRegulated g v).bst g = (s.bst g).switched (s.railSwitching g v) := by
  unfold State.railRegulated
  split <;> simp [hg]

theorem State.railRegulated_vrail :
    (s.railRegulated g v).get (Reg.BST_STAT_VRAIL g) = s.get (Reg.BST_STAT_VRAIL g) := by
  unfold State.railRegulated
  extract_lets s₁
  split
  · exact State.get_set_ne s₁ (Reg.BST_STAT_READY g) _ 1 (.inr (by simp))
  · rfl

theorem State.railRegulated_ready (hen : (s.bst g).enabled = true) (hv : 10 * s.get (Reg.BST_CFG_VSET g) ≤ v) :
    (s.railRegulated g v).get (Reg.BST_STAT_READY g) = 1 := by
  rw [State.railRegulated, if_pos ⟨hen, hv⟩, State.get_set _ _ _ (by simp)]
  rfl

/-- The state after a sample while MODE is BOOST. -/
def State.railFollowed : State := (((s.railTaken g v).railRegulated g v).railLevels g v).checkReady

/-- The state after a sample while MODE is OFF. -/
def State.railOff : State :=
  (((s.railTaken g v).set (Reg.BST_STAT_LOW g) 0).set (Reg.BST_STAT_OV g) 0).setBst g
    (((s.railTaken g v).bst g).ovFrom none)

/-- Taking the sample and regulating on it leave BST_CFG and BST_LIM, and every other register but BST_STAT, alone. -/
theorem State.railRegulated_railTaken_get {f : Fld} (h : f.addr ≠ Reg.BST_STAT_addr g) :
    ((s.railTaken g v).railRegulated g v).get f = s.get f :=
  State.get_congr ((State.railRegulated_reg _ g v h).trans (State.railTaken_reg s g v h))

/-- MODE reads the same after the sample is taken. -/
theorem State.railTaken_mode : (s.railTaken g v).is (Reg.BST_CFG_MODE g) = s.is (Reg.BST_CFG_MODE g) :=
  State.is_congr (State.get_congr (State.railTaken_reg s g v (by simp)))

theorem State.railSwitching_railTaken : (s.railTaken g v).railSwitching g v = s.railSwitching g v := by
  have hcfg : (s.railTaken g v).get (Reg.BST_CFG_VSET g) = s.get (Reg.BST_CFG_VSET g) :=
    State.get_congr (State.railTaken_reg s g v (by simp))
  have hlim : (s.railTaken g v).get (Reg.BST_LIM_HYST g) = s.get (Reg.BST_LIM_HYST g) :=
    State.get_congr (State.railTaken_reg s g v (by simp))
  rw [State.railSwitching, hcfg, hlim, State.railTaken_bst, State.railSwitching]

theorem State.railLow_sampled : ((s.railTaken g v).railRegulated g v).railLow g v = s.railLow g v := by
  rw [State.railLow, State.railRegulated_railTaken_get s g v (by simp),
    State.railRegulated_railTaken_get s g v (by simp), State.railLow]

theorem State.railOv_sampled : ((s.railTaken g v).railRegulated g v).railOv g v = s.railOv g v := by
  rw [State.railOv, State.railRegulated_railTaken_get s g v (by simp),
    State.railRegulated_railTaken_get s g v (by simp), State.railOv]

/-- `railLevels` leaves the fields of BST_STAT above LOW alone. -/
theorem State.railLevels_get_above {f : Fld} (haddr : f.addr = Reg.BST_STAT_addr g) (hlo : 35 ≤ f.lo)
    (hf : f.lo + f.wid ≤ 48) : (s.railLevels g v).get f = s.get f := by
  rw [State.railLevels_eq, State.railBits_get_above _ g _ _ hlo hf]
  exact State.get_congr (State.railCounted_reg s g v _ _ (by simp [haddr]))

/-- No field of BST_STAT changes as the device becomes sync-ready. -/
theorem State.checkReady_stat {f : Fld} (haddr : f.addr = Reg.BST_STAT_addr g) : s.checkReady.get f = s.get f :=
  State.get_congr (State.checkReady_reg s (by rw [haddr]; unfold Reg.BST_STAT_addr Reg.SYS_START_addr; omega))

theorem State.railFollowed_vrail (hv : v < 4096) : (s.railFollowed g v).get (Reg.BST_STAT_VRAIL g) = v := by
  rw [State.railFollowed, State.checkReady_stat _ g rfl, State.railLevels_get_above _ g v rfl (by simp) (by simp),
    State.railRegulated_vrail, State.railTaken_vrail s g v hv]

theorem State.railFollowed_ready (hen : (s.bst g).enabled = true) (hv : 10 * s.get (Reg.BST_CFG_VSET g) ≤ v) :
    (s.railFollowed g v).get (Reg.BST_STAT_READY g) = 1 := by
  rw [State.railFollowed, State.checkReady_stat _ g rfl, State.railLevels_get_above _ g v rfl (by simp) (by simp)]
  refine State.railRegulated_ready _ g v (by rwa [State.railTaken_bst]) ?_
  rwa [State.get_congr (State.railTaken_reg s g v (by simp))]

theorem State.railFollowed_low : (s.railFollowed g v).is (Reg.BST_STAT_LOW g) = s.railLow g v := by
  rw [State.railFollowed, State.is_congr (State.checkReady_stat _ g rfl), State.railLevels_eq, State.railBits_low,
    State.railLow_sampled]

theorem State.railFollowed_ov : (s.railFollowed g v).is (Reg.BST_STAT_OV g) = s.railOv g v := by
  rw [State.railFollowed, State.is_congr (State.checkReady_stat _ g rfl), State.railLevels_eq, State.railBits_ov,
    State.railOv_sampled]

theorem State.railFollowed_bst (hg : g < 3) : ((s.railFollowed g v).bst g).enabled = (s.bst g).enabled
    ∧ ((s.railFollowed g v).bst g).switching = s.railSwitching g v := by
  have hreg : ((s.railTaken g v).railRegulated g v).bst g = (s.bst g).switched (s.railSwitching g v) := by
    rw [State.railRegulated_bst _ g v hg, State.railTaken_bst, State.railSwitching_railTaken]
  rw [State.railFollowed, State.checkReady_bst, State.railLevels_eq, State.railBits_bst]
  obtain ⟨hen, hsw⟩ := State.railCounted_bst ((s.railTaken g v).railRegulated g v) g v
    (((s.railTaken g v).railRegulated g v).railLow g v) (((s.railTaken g v).railRegulated g v).railOv g v) hg
  rw [hen, hsw, hreg]
  exact ⟨rfl, rfl⟩

theorem State.railOff_vrail (hv : v < 4096) : (s.railOff g v).get (Reg.BST_STAT_VRAIL g) = v := by
  rw [State.railOff, State.get_setBst, State.get_set_ne _ (Reg.BST_STAT_OV g) _ _ (.inr (by simp)),
    State.get_set_ne _ (Reg.BST_STAT_LOW g) _ _ (.inr (by simp)), State.railTaken_vrail s g v hv]

theorem State.railOff_low : (s.railOff g v).get (Reg.BST_STAT_LOW g) = 0 := by
  rw [State.railOff, State.get_setBst, State.get_set_ne _ (Reg.BST_STAT_OV g) _ _ (.inr (by simp)), State.get_set _ _ _ (by simp)]
  rfl

theorem State.railOff_ov : (s.railOff g v).get (Reg.BST_STAT_OV g) = 0 := by
  rw [State.railOff, State.get_setBst, State.get_set _ _ _ (by simp)]
  rfl

theorem State.railOff_bst (hg : g < 3) : (s.railOff g v).bst g = (s.bst g).ovFrom none := by
  rw [State.railOff, State.bst_setBst _ _ hg, State.railTaken_bst]

end

/-! ### The commands -/

/-- The conditions under which BOOST_ENABLE enables controller `g` (R324). -/
def State.boostMay (s : State) (g : Nat) : Bool :=
  s.hasTile 5 g && s.is (Reg.BST_CFG_MODE g) && s.running && s.saf.runSeen && !(s.bst g).enabled

/-- The controller enabled: READY waits for the rail, and a rail at or above VSET does not switch (R324, R326). -/
def State.boostEnabled (s : State) (g : Nat) : State :=
  (s.set (Reg.BST_STAT_READY g) 0).setBst g { s.bst g with
    enabled := true
    switching := decide (s.get (Reg.BST_STAT_VRAIL g) < 10 * s.get (Reg.BST_CFG_VSET g)) }

theorem State.boostEnabled_bst (s : State) {g : Nat} (hg : g < 3) : ((s.boostEnabled g).bst g).enabled = true
    ∧ ((s.boostEnabled g).bst g).switching
      = decide (s.get (Reg.BST_STAT_VRAIL g) < 10 * s.get (Reg.BST_CFG_VSET g)) := by
  simp [State.boostEnabled, hg]

theorem State.boostEnabled_ready (s : State) (g : Nat) : (s.boostEnabled g).get (Reg.BST_STAT_READY g) = 0 := by
  rw [State.boostEnabled, State.get_setBst, State.get_set _ _ _ (by simp)]
  rfl

theorem State.boostEnabled_reg (s : State) (g : Nat) {a : Nat} (h : a ≠ Reg.BST_STAT_addr g) :
    (s.boostEnabled g).reg a = s.reg a :=
  State.reg_set_ne s (Reg.BST_STAT_READY g) 0 h

section
variable {t : Word} {g : Fin 3} {v : Fin 4096} {s : State}

theorem exec_boostEnable : exec (.boostEnable t g) s
    = .next (if s.boostMay g then (s.at t).boostEnabled g else s.at t) := rfl

theorem execBoostRailSample_eq : execBoostRailSample t g v s
    = .next (if !(s.at t).hasTile 5 g then s.at t
        else if !((s.at t).railTaken g v).is (Reg.BST_CFG_MODE g) then (s.at t).railOff g v
        else (s.at t).railFollowed g v) := rfl

theorem exec_boostRailSample_noTile (ht : s.hasTile 5 g = false) : exec (.boostRailSample t g v) s = .next (s.at t) := by
  change execBoostRailSample t g v s = _
  simp [execBoostRailSample_eq, ht]

theorem exec_boostRailSample_off (ht : s.hasTile 5 g = true) (hmode : s.is (Reg.BST_CFG_MODE g) = false) :
    exec (.boostRailSample t g v) s = .next ((s.at t).railOff g v) := by
  change execBoostRailSample t g v s = _
  simp [execBoostRailSample_eq, State.railTaken_mode, ht, hmode]

theorem exec_boostRailSample_on (ht : s.hasTile 5 g = true) (hmode : s.is (Reg.BST_CFG_MODE g) = true) :
    exec (.boostRailSample t g v) s = .next ((s.at t).railFollowed g v) := by
  change execBoostRailSample t g v s = _
  simp [execBoostRailSample_eq, State.railTaken_mode, ht, hmode]

/-- An overvoltage that has lasted 1 ms and is not told yet is told to Headland (R356). -/
theorem exec_boostOvPersist_tells {a : Word} (hmode : s.is (Reg.BST_CFG_MODE g) = true)
    (hov : s.is (Reg.BST_STAT_OV g) = true) (hsince : (s.bst g).ovSince = some a) (htold : (s.bst g).told = false)
    (hlong : ms ≤ elapsed a t) : exec (.boostOvPersist t g) s
      = .next (((s.at t).setBst g { s.bst g with told := true }).cause 10 g) := by
  change execBoostOvPersist t g s = _
  simp [execBoostOvPersist, hmode, hov, hsince, htold, hlong]

/-- With MODE OFF, OV 0, the overvoltage told already or none begun, nothing is told. -/
theorem exec_boostOvPersist_idles (h : s.is (Reg.BST_CFG_MODE g) = false ∨ s.is (Reg.BST_STAT_OV g) = false
    ∨ (s.bst g).told = true ∨ (s.bst g).ovSince = none) : exec (.boostOvPersist t g) s = .next (s.at t) := by
  change execBoostOvPersist t g s = _
  cases hsince : (s.bst g).ovSince with
  | none => simp [execBoostOvPersist, hsince]
  | some a =>
    rcases h with hmode | hov | htold | hnone
    · simp [execBoostOvPersist, hsince, hmode]
    · simp [execBoostOvPersist, hsince, hov]
    · simp [execBoostOvPersist, hsince, htold]
    · exact absurd (hsince.symm.trans hnone) (Option.some_ne_none a)

end

/-- Settles O21: an enabling is `boostEnabled`, a sample `railFollowed` or, with MODE OFF, `railOff`, whose lemmas give each part. -/
theorem boostControllers : Obligations.BoostControllers := by
  intro t g v s k vset may
  refine ⟨fun hmay => ?enabled, fun hmay => ?stays, exec_boostRailSample_noTile, fun ht => ?sample,
    fun a hmode hov hsince htold hlong => ?tells, exec_boostOvPersist_idles⟩
  case enabled =>
    obtain ⟨hen, hsw⟩ := (s.at t).boostEnabled_bst g.isLt
    exact ⟨_, exec_boostEnable.trans (congrArg _ (if_pos hmay)), hen, hsw, (s.at t).boostEnabled_ready g,
      fun _ ha => (s.at t).boostEnabled_reg g ha⟩
  case stays => exact exec_boostEnable.trans (congrArg _ (if_neg (ne_true_of_eq_false hmay)))
  case sample =>
    cases hmode : s.is (Reg.BST_CFG_MODE g) with
    | true =>
      obtain ⟨hen, hsw⟩ := (s.at t).railFollowed_bst g v g.isLt
      exact ⟨_, exec_boostRailSample_on ht hmode, (s.at t).railFollowed_vrail g v v.isLt,
        fun _ => ⟨hen, hsw, (s.at t).railFollowed_ready g v, (s.at t).railFollowed_low g v, (s.at t).railFollowed_ov g v⟩,
        fun h => Bool.noConfusion h⟩
    | false =>
      have hbst := (s.at t).railOff_bst g v g.isLt
      exact ⟨_, exec_boostRailSample_off ht hmode, (s.at t).railOff_vrail g v v.isLt, fun h => Bool.noConfusion h,
        fun _ => ⟨(s.at t).railOff_low g v, (s.at t).railOff_ov g v, congrArg Boost.ovSince hbst⟩⟩
  case tells =>
    refine ⟨_, exec_boostOvPersist_tells hmode hov hsince htold hlong, rfl, ?_, rfl⟩
    exact congrArg Boost.told (State.bst_setBst (s.at t) { s.bst g with told := true } g.isLt)

end Sys2Proof.Machine
end

section
/-!
PROOF. The combustion tiles (R431, R447 to R449): what becomes of a signal by the state of its tile; a record commit cut into the
record stored in its ring slot, the record told, the tile's analysis ended with the hand-over to the trim tile, and the waiting
signal started; and the obligation on both commands.
-/
namespace Sys2Proof.Machine

/-! ### Working memory -/

@[simp] theorem State.workGet_workSet (s : State) (a : Nat) (w : Word) : (s.workSet a w).workGet a = w :=
  Cells.get_set_same memDefault s.work a w

theorem State.workGet_workSet_ne (s : State) {a b : Nat} (w : Word) (h : b ≠ a) : (s.workSet a w).workGet b = s.workGet b :=
  Cells.get_set_ne memDefault s.work w h

/-- Writing consecutive words leaves the words below the first one. -/
theorem State.workGet_workWrite_of_lt (ws : List Word) (s : State) {a b : Nat} (h : b < a) :
    (s.workWrite a ws).workGet b = s.workGet b := by
  induction ws generalizing s a with
  | nil => rfl
  | cons w ws ih => exact (ih (s.workSet a w) (Nat.lt_succ_of_lt h)).trans (s.workGet_workSet_ne w (Nat.ne_of_lt h))

/-! ### Parts that an operation keeps -/

/-- An operation that keeps the part `combust` keeps every combustion tile. -/
theorem Keeps.cmb_eq {P : Nat} {s₀ s : State} (h : Keeps P s₀ s) (hP : P.testBit Part.combust.idx = false) (j : Nat) :
    s.cmb j = s₀.cmb j :=
  congrArg (vget · j) (h.same .combust hP)

/-- An operation that keeps the part `work` keeps every word of working memory. -/
theorem Keeps.workGet_eq {P : Nat} {s₀ s : State} (h : Keeps P s₀ s) (hP : P.testBit Part.work.idx = false) (a : Nat) :
    s.workGet a = s₀.workGet a :=
  congrArg (Cells.get memDefault · a) (h.same .work hP)

/-! ### A signal (R431) -/

theorem State.cmb_cmbStart (s : State) {j : Nat} (w : CmbWin) (hj : j < 24) :
    (s.cmbStart j w).cmb j = { s.cmb j with run := some (w, s.pinNow 3), pend := none } :=
  State.cmb_setCmb s _ hj

/-- The signal `x` has left the queue of signals. -/
def State.signalTaken (s : State) (x : Nat × CmbWin) : State := { s with cmbSig := s.cmbSig.erase x }

/-- What a signal with window `w` does at tile `j`: it starts, waits or is counted, and nothing at a tile that is off (R431). -/
def State.signalServed (s : State) (j : Nat) (w : CmbWin) : State :=
  if ¬ s.cmbOn j then s
  else if (s.cmb j).run.isNone then s.cmbStart j w
  else if (s.cmb j).pend.isNone then s.setCmb j { s.cmb j with pend := some w }
  else s.inc (Reg.CMB_STAT_OVERRUN j)

section
variable {s : State} {j : Nat} (w : CmbWin)

theorem State.signalServed_off (hoff : s.cmbOn j = false) : s.signalServed j w = s := by
  simp [State.signalServed, hoff]

theorem State.signalServed_idle (hon : s.cmbOn j = true) (hrun : (s.cmb j).run = none) :
    s.signalServed j w = s.cmbStart j w := by
  simp [State.signalServed, hon, hrun]

theorem State.signalServed_waits (hon : s.cmbOn j = true) (hrun : (s.cmb j).run.isSome = true)
    (hpend : (s.cmb j).pend = none) : s.signalServed j w = s.setCmb j { s.cmb j with pend := some w } := by
  simp [State.signalServed, hon, Option.isSome_iff_ne_none.1 hrun, hpend]

theorem State.signalServed_overruns (hon : s.cmbOn j = true) (hrun : (s.cmb j).run.isSome = true)
    (hpend : (s.cmb j).pend.isSome = true) : s.signalServed j w = s.inc (Reg.CMB_STAT_OVERRUN j) := by
  simp [State.signalServed, hon, Option.isSome_iff_ne_none.1 hrun, Option.isSome_iff_ne_none.1 hpend]

end

section
variable {t : Word} {j : Fin 24} {s : State}

/-- The oldest signal of the tile is taken and served. -/
theorem exec_analysisStart_serves {x : Nat × CmbWin} (hx : s.cmbSig.find? (fun x => decide (x.1 = j.val)) = some x) :
    exec (.analysisStart t j) s = .next (((s.at t).signalTaken x).signalServed j x.2) := by
  have hx' : (s.at t).cmbSig.find? (fun x => decide (x.1 = j.val)) = some x := hx
  change execAnalysisStart t j s = _
  simp only [execAnalysisStart, hx']
  rfl

theorem exec_analysisStart_idles (hx : s.cmbSig.find? (fun x => decide (x.1 = j.val)) = none) :
    exec (.analysisStart t j) s = .next (s.at t) := by
  have hx' : (s.at t).cmbSig.find? (fun x => decide (x.1 = j.val)) = none := hx
  change execAnalysisStart t j s = _
  simp only [execAnalysisStart, hx']

end

/-! ### A record (R447 to R449) -/

/-- The ring slot of a record (R448). -/
def recordSlot (j ring : Nat) : Nat := 0x4800 + 128 * j + 16 * ring

/-- Word 0 of a record: TILE, FLAGS and CYCLE (Table 9.3). -/
def recordWord0 (j flags cycle : Nat) : Word := BitVec.ofNat 48 (j * 2 ^ 40 + flags * 2 ^ 32 + cycle)

/-- Word 1 of a record before its ESN: TICKS, which WINERR leaves at 0 (Table 9.3; log entry 63). -/
def State.recordWord1 (s : State) (j : Nat) (r : CmbRes) : Word :=
  BitVec.ofNat 48 ((if r.flags / fgWinErr % 2 = 1 then 0 else s.get (Reg.CMB_CFG_NV j)) * 2 ^ 32)

/-- VALID, the highest of the flags (Table 9.4). -/
def CmbRes.valid (r : CmbRes) : Bool := decide (fgValid ≤ r.flags)

/-- The record in its ring slot, but for word 1, which waits for the ESN (R448). -/
def State.recordStored (s : State) (slot : Nat) (w0 : Word) (ws : List Word) : State :=
  (s.workSet slot w0).workWrite (slot + 2) (ws ++ [0, 0, 0, 0])

theorem State.recordStored_word0 (s : State) (slot : Nat) (w0 : Word) (ws : List Word) :
    (s.recordStored slot w0 ws).workGet slot = w0 :=
  (State.workGet_workWrite_of_lt _ _ (by omega)).trans (s.workGet_workSet slot w0)

/-- Changes at most: work. -/
theorem State.recordStored_keeps {P : Nat} {s₀ : State} (s : State) (slot : Nat) (w0 : Word) (ws : List Word)
    (hP : 64 &&& P = 64) (h : Keeps P s₀ s) : Keeps P s₀ (s.recordStored slot w0 ws) :=
  State.workWrite_keeps _ _ _ hP (State.workSet_keeps s slot w0 hP h)

/-- The record goes to the event merge and to the DMA channels that wait for it, and is counted; a VALID one feeds the extremes
(R448, Table 12.10). -/
def State.recordTold (s : State) (t : Word) (j cycle : Nat) (r : CmbRes) : State :=
  let s := ((s.report 8 j 1 (r.flags * 2 ^ 32 + cycle) (some t)).dmaPulse 3 j t).inc (Reg.CMB_STAT_RECS j)
  if r.valid then s.recordExtremes j r.words else s.inc (Reg.CMB_STAT_INVALID j)

/-- Changes at most: regs, ticks, reports, acc, dmaTrigs. -/
theorem State.recordTold_keeps {P : Nat} {s₀ : State} (s : State) (t : Word) (j cycle : Nat) (r : CmbRes)
    (hP : 576460752571871248 &&& P = 576460752571871248) (h : Keeps P s₀ s) : Keeps P s₀ (s.recordTold t j cycle r) := by
  have hrep := State.report_keeps s 8 j 1 (r.flags * 2 ^ 32 + cycle) (some t) (Mask.sub hP (by decide)) h
  have hdma := State.dmaPulse_keeps _ 3 j t (Mask.sub hP (by decide)) hrep
  have hrecs := State.inc_keeps _ (Reg.CMB_STAT_RECS j) (Mask.sub hP (by decide)) hdma
  unfold State.recordTold
  split
  · exact State.recordExtremes_keeps _ j r.words (Mask.sub hP (by decide)) hrecs
  · exact State.inc_keeps _ (Reg.CMB_STAT_INVALID j) (Mask.sub hP (by decide)) hrecs

/-- What the trim tile receives of a record (R449). -/
def State.commitOf (s : State) (t : Word) (j cycle : Nat) (r : CmbRes) : Commit where
  cyl := j
  valid := r.valid
  phased := decide (s.sync s.primary = ssPhased ∨ s.sync s.primary = ssBorrowed)
  ca50 := high32 (r.words.getD 7 0)
  imep := (r.words.getD 0 0).toInt
  cycle := cycle
  at_ := t

/-- The tile once its record is committed: no analysis runs, the ring moves on, and the record waits for the event merge. -/
def Combust.committed (k : Combust) (slot cycle : Nat) (w0 w1 : Word) (r : CmbRes) : Combust :=
  { k with
    run := none, ring := (k.ring + 1) % 8
    merge := k.merge ++ [(slot, w0 :: w1 :: r.words)]
    lastValid := if r.valid then some ((r.words.getD 0 0).toInt, cycle) else k.lastValid }

/-- The tile's analysis has ended and left `k`; commit `c` waits for the trim tile behind those before it (R449). -/
def State.recordEnded (s : State) (j : Nat) (k : Combust) (c : Commit) : State :=
  { s.setCmb j k with trimDue := s.trimDue ++ [c] }

theorem State.recordEnded_cmb (s : State) {j : Nat} (k : Combust) (c : Commit) (hj : j < 24) :
    (s.recordEnded j k c).cmb j = k :=
  State.cmb_setCmb s k hj

theorem State.recordEnded_trimDue (s : State) (j : Nat) (k : Combust) (c : Commit) :
    (s.recordEnded j k c).trimDue = s.trimDue ++ [c] := rfl

theorem State.recordEnded_workGet (s : State) (j : Nat) (k : Combust) (c : Commit) (a : Nat) :
    (s.recordEnded j k c).workGet a = s.workGet a := rfl

/-- A waiting signal starts (R431). -/
def State.pendStarted (s : State) (j : Nat) : State :=
  match (s.cmb j).pend with
  | some w => s.cmbStart j w
  | none => s

section
variable (s : State) (j : Nat)

theorem State.pendStarted_of_none (h : (s.cmb j).pend = none) : s.pendStarted j = s := by
  simp only [State.pendStarted, h]

theorem State.pendStarted_of_some {w : CmbWin} (h : (s.cmb j).pend = some w) : s.pendStarted j = s.cmbStart j w := by
  simp only [State.pendStarted, h]

@[simp] theorem State.pendStarted_trimDue : (s.pendStarted j).trimDue = s.trimDue := by
  unfold State.pendStarted
  split <;> rfl

@[simp] theorem State.pendStarted_workGet (a : Nat) : (s.pendStarted j).workGet a = s.workGet a := by
  unfold State.pendStarted
  split <;> rfl

/-- Afterwards nothing waits at the tile and its ring is as it was. -/
theorem State.pendStarted_cmb {j : Nat} (hj : j < 24) :
    ((s.pendStarted j).cmb j).ring = (s.cmb j).ring ∧ ((s.pendStarted j).cmb j).pend = none := by
  cases h : (s.cmb j).pend with
  | none => rw [s.pendStarted_of_none j h]; exact ⟨rfl, h⟩
  | some w => rw [s.pendStarted_of_some j h, s.cmb_cmbStart w hj]; exact ⟨rfl, rfl⟩

end

/-- The analysis of window `w` has ended and its record is stored and told (R447, R448). -/
def State.recordMade (s : State) (t : Word) (j : Nat) (w : CmbWin) (pman : Option Int) : State :=
  let a := s.analyse j w pman
  let cycle := w.cycle % 2 ^ 32
  (a.2.recordStored (recordSlot j (s.cmb j).ring) (recordWord0 j a.1.flags cycle) a.1.words).recordTold t j cycle a.1

section
variable (s : State) (t : Word) (j : Nat) (w : CmbWin) (pman : Option Int)

theorem State.recordMade_keeps :
    Keeps (maskOf [.fresh, .regs, .work, .ticks, .reports, .acc, .dmaTrigs]) s (s.recordMade t j w pman) :=
  State.recordTold_keeps _ _ _ _ _ (by decide)
    (State.recordStored_keeps _ _ _ _ (by decide) (State.analyse_keeps s j w pman (by decide) (.refl _ s)))

theorem State.recordMade_cmb (i : Nat) : (s.recordMade t j w pman).cmb i = s.cmb i :=
  (s.recordMade_keeps t j w pman).cmb_eq (by decide) i

theorem State.recordMade_trimDue : (s.recordMade t j w pman).trimDue = s.trimDue :=
  (s.recordMade_keeps t j w pman).same .trimDue (by decide)

theorem State.recordMade_word0 : (s.recordMade t j w pman).workGet (recordSlot j (s.cmb j).ring)
    = recordWord0 j (s.analyse j w pman).1.flags (w.cycle % 2 ^ 32) :=
  ((State.recordTold_keeps _ t j _ _ (Nat.and_self _) (.refl _ _)).workGet_eq (by decide) _).trans
    (State.recordStored_word0 _ _ _ _)

end

/-- The record made, the analysis ended with it, and a waiting signal not started yet. -/
def State.recordCommitted (s : State) (t : Word) (j : Nat) (w : CmbWin) (pman : Option Int) : State :=
  let a := s.analyse j w pman
  let cycle := w.cycle % 2 ^ 32
  let u := s.recordMade t j w pman
  u.recordEnded j ((u.cmb j).committed (recordSlot j (s.cmb j).ring) cycle (recordWord0 j a.1.flags cycle)
    (a.2.recordWord1 j a.1) a.1) (u.commitOf t j cycle a.1)

section
variable (s : State) (t : Word) {j : Nat} (w : CmbWin) (pman : Option Int)

theorem State.recordCommitted_cmb (hj : j < 24) :
    ((s.recordCommitted t j w pman).cmb j).ring = ((s.cmb j).ring + 1) % 8
      ∧ ((s.recordCommitted t j w pman).cmb j).run = none
      ∧ ((s.recordCommitted t j w pman).cmb j).pend = (s.cmb j).pend := by
  rw [State.recordCommitted, State.recordEnded_cmb _ _ _ hj, State.recordMade_cmb]
  exact ⟨rfl, rfl, rfl⟩

theorem State.recordCommitted_trimDue : (s.recordCommitted t j w pman).trimDue
    = s.trimDue ++ [(s.recordMade t j w pman).commitOf t j (w.cycle % 2 ^ 32) (s.analyse j w pman).1] := by
  rw [State.recordCommitted, State.recordEnded_trimDue, State.recordMade_trimDue]

theorem State.recordCommitted_word0 : (s.recordCommitted t j w pman).workGet (recordSlot j (s.cmb j).ring)
    = recordWord0 j (s.analyse j w pman).1.flags (w.cycle % 2 ^ 32) := by
  rw [State.recordCommitted, State.recordEnded_workGet, State.recordMade_word0]

end

section
variable {t : Word} {j : Fin 24} {s : State}

theorem exec_recordCommit_commits {w : CmbWin} {pman : Option Int} (hrun : (s.cmb j).run = some (w, pman)) :
    exec (.recordCommit t j) s = .next (((s.at t).recordCommitted t j w pman).pendStarted j) := by
  have hrun' : ((s.at t).cmb j).run = some (w, pman) := hrun
  change execRecordCommit t j s = _
  simp only [execRecordCommit, hrun']
  rfl

theorem exec_recordCommit_idles (hrun : (s.cmb j).run = none) : exec (.recordCommit t j) s = .next (s.at t) := by
  have hrun' : ((s.at t).cmb j).run = none := hrun
  change execRecordCommit t j s = _
  simp only [execRecordCommit, hrun']

end

/-- Settles O35: a signal that is taken goes through `signalServed`, whose four cases are the clauses; a commit goes through
`recordCommitted` and `pendStarted`, whose lemmas give the slot, the tile and the hand-over. -/
theorem combustionRecords : Obligations.CombustionRecords := by
  intro t j s k
  refine ⟨fun x hx => ?signal, exec_analysisStart_idles, fun w pman hrun _ => ?commit, exec_recordCommit_idles⟩
  case signal =>
    intro taken
    have hserves := exec_analysisStart_serves (t := t) hx
    refine ⟨fun hon hrun => ?starts, fun hon hrun hpend => ?waits, fun hon hrun hpend => ?overruns, fun hoff => ?off⟩
    case starts =>
      exact ⟨_, hserves.trans (congrArg _ (State.signalServed_idle x.2 hon hrun)), rfl, rfl,
        State.cmb_cmbStart _ x.2 j.isLt⟩
    case waits =>
      exact ⟨_, hserves.trans (congrArg _ (State.signalServed_waits x.2 hon hrun hpend)), rfl, rfl,
        State.cmb_setCmb _ _ j.isLt⟩
    case overruns =>
      exact ⟨_, hserves.trans (congrArg _ (State.signalServed_overruns x.2 hon hrun hpend)), rfl, rfl,
        State.get_inc _ _ (by simp)⟩
    case off => exact ⟨_, hserves.trans (congrArg _ (State.signalServed_off x.2 hoff)), rfl, rfl, rfl⟩
  case commit =>
    intro r valid
    obtain ⟨hring, hidle, hpend⟩ := (s.at t).recordCommitted_cmb t w pman j.isLt
    obtain ⟨hring', hpend'⟩ := ((s.at t).recordCommitted t j w pman).pendStarted_cmb j.isLt
    refine ⟨_, exec_recordCommit_commits hrun, ?word0, hring'.trans hring, hpend', fun hnone => ?idle, fun w' hsome => ?next,
      _, (State.pendStarted_trimDue _ _).trans ((s.at t).recordCommitted_trimDue t w pman), rfl, rfl, rfl⟩
    case word0 => exact (State.pendStarted_workGet _ _ _).trans ((s.at t).recordCommitted_word0 t w pman)
    case idle => rw [State.pendStarted_of_none _ _ (hpend.trans hnone)]; exact hidle
    case next =>
      rw [State.pendStarted_of_some _ _ (hpend.trans hsome), State.cmb_cmbStart _ w' j.isLt]
      exact ⟨_, rfl⟩

end Sys2Proof.Machine
end

section
/-!
PROOF. The block as a whole: what a step runs, that every command completes, what each command may change, the two invariants
that every step keeps, the state after reset, and the obligations on them.
-/
namespace Sys2Proof.Machine

/-- Every command keeps every part that `touches` does not name: the frame lemma of its meaning, at its own parts. -/
theorem exec_keeps (c : Instr) (s : State) : OutKeeps (maskOf (touches c)) s (exec c s) := by
  cases c with
  | registerWrite t addr value => exact execRegisterWrite_keeps _ _ _ _ (by dsimp only [touches]; decide) (.refl _ _)
  | eventMerge t => exact execEventMerge_keeps _ _ (by dsimp only [touches]; decide) (.refl _ _)
  | invalidCodeDetect t region => exact execInvalidCodeDetect_keeps _ _ _ (by dsimp only [touches]; decide) (.refl _ _)
  | handshakeStall t region => exact execHandshakeStall_keeps _ _ _ (by dsimp only [touches]; decide) (.refl _ _)
  | clockLost t d => exact execClockLost_keeps _ _ _ (by dsimp only [touches]; decide) (.refl _ _)
  | crossingResume t d => exact execCrossingResume_keeps _ _ _ (by dsimp only [touches]; decide) (.refl _ _)
  | governorSample t pcts => exact execGovernorSample_keeps _ _ _ (by dsimp only [touches]; decide) (.refl _ _)
  | vcoreRaise t => exact execVcoreRaise_keeps _ _ (by dsimp only [touches]; decide) (.refl _ _)
  | vcoreLower t => exact execVcoreLower_keeps _ _ (by dsimp only [touches]; decide) (.refl _ _)
  | sysLatClr t => exact execSysLatClr_keeps _ _ (by dsimp only [touches]; decide) (.refl _ _)
  | loadWeave t => exact execLoad_keeps _ _ (by dsimp only [touches]; decide) (.refl _ _)
  | loadComplete t refA refB => exact execLoadComplete_keeps _ _ _ _ (by dsimp only [touches]; decide) (.refl _ _)
  | runLoom t => exact execRun_keeps _ _ (by dsimp only [touches]; decide) (.refl _ _)
  | loomStart t => exact execLoomStart_keeps _ _ (by dsimp only [touches]; decide) (.refl _ _)
  | stop t => exact execStop_keeps _ _ (by dsimp only [touches]; decide) (.refl _ _)
  | mirror t ply => exact execMirror_keeps _ _ _ (by dsimp only [touches]; decide) (.refl _ _)
  | mirrorDone t => exact execMirrorDone_keeps _ _ (by dsimp only [touches]; decide) (.refl _ _)
  | verify t => exact execVerify_keeps _ _ (by dsimp only [touches]; decide) (.refl _ _)
  | verifyDone t => exact execVerifyDone_keeps _ _ (by dsimp only [touches]; decide) (.refl _ _)
  | erase t ply => exact execErase_keeps _ _ _ (by dsimp only [touches]; decide) (.refl _ _)
  | eraseDone t => exact execEraseDone_keeps _ _ (by dsimp only [touches]; decide) (.refl _ _)
  | wveCmdReject t code ply => exact execWveCmdReject_keeps _ _ _ _ (by dsimp only [touches]; decide) (.refl _ _)
  | weaveStoreWrite t dma ply addr value => exact execWeaveStoreWrite_keeps _ _ _ _ _ _ (by dsimp only [touches]; decide) (.refl _ _)
  | weaveProgramDone t => exact execWeaveProgramDone_keeps _ _ (by dsimp only [touches]; decide) (.refl _ _)
  | scrubSectionEnd t k upsets => exact execScrubSectionEnd_keeps _ _ _ _ (by dsimp only [touches]; decide) (.refl _ _)
  | storedPlyCheck t => exact execStoredPlyCheck_keeps _ _ (by dsimp only [touches]; decide) (.refl _ _)
  | wheelTransition t n w => exact execWheelTransition_keeps _ _ _ _ (by dsimp only [touches]; decide) (.refl _ _)
  | edgeFilterExpiry t n => exact execEdgeFilterExpiry_keeps _ _ _ (by dsimp only [touches]; decide) (.refl _ _)
  | dirSplitExpiry t n => exact execDirSplitExpiry_keeps _ _ _ (by dsimp only [touches]; decide) (.refl _ _)
  | dirMaxExpiry t n => exact execDirMaxExpiry_keeps _ _ _ (by dsimp only [touches]; decide) (.refl _ _)
  | stallTimeout t n => exact execStallTimeout_keeps _ _ _ (by dsimp only [touches]; decide) (.refl _ _)
  | camStallTimeout t n => exact execCamStallTimeout_keeps _ _ _ (by dsimp only [touches]; decide) (.refl _ _)
  | wrpCntClr t n => exact execWrpCntClr_keeps _ _ _ (by dsimp only [touches]; decide) (.refl _ _)
  | syncLost t n => exact execSyncLost_keeps _ _ _ (by dsimp only [touches]; decide) (.refl _ _)
  | rotationLost t dst => exact execRotationLost_keeps _ _ _ (by dsimp only [touches]; decide) (.refl _ _)
  | toothUpdateBroadcast t n => exact execToothUpdateBroadcast_keeps _ _ _ (by dsimp only [touches]; decide) (.refl _ _)
  | microtickHold t n => exact execMicrotickHold_keeps _ _ _ (by dsimp only [touches]; decide) (.refl _ _)
  | wftUpdRead t n => exact execWftUpdRead_keeps _ _ _ (by dsimp only [touches]; decide) (.refl _ _)
  | wftSnapRead t n => exact execWftSnapRead_keeps _ _ _ (by dsimp only [touches]; decide) (.refl _ _)
  | wftCntClr t n => exact execWftCntClr_keeps _ _ _ (by dsimp only [touches]; decide) (.refl _ _)
  | shuttleToothUpdate t n => exact execShuttleToothUpdate_keeps _ _ _ (by dsimp only [touches]; decide) (.refl _ _)
  | startCommit t n => exact execStartCommit_keeps _ _ _ (by dsimp only [touches]; decide) (.refl _ _)
  | stopCommit t n => exact execStopCommit_keeps _ _ _ (by dsimp only [touches]; decide) (.refl _ _)
  | pulseStop t n => exact execPulseStop_keeps _ _ _ (by dsimp only [touches]; decide) (.refl _ _)
  | gateOpenCommit t n => exact execGateOpenCommit_keeps _ _ _ (by dsimp only [touches]; decide) (.refl _ _)
  | gateOpen t n => exact execGateOpen_keeps _ _ _ (by dsimp only [touches]; decide) (.refl _ _)
  | gateCloseCommit t n => exact execGateCloseCommit_keeps _ _ _ (by dsimp only [touches]; decide) (.refl _ _)
  | gateClose t n => exact execGateClose_keeps _ _ _ (by dsimp only [touches]; decide) (.refl _ _)
  | gridTickCommit t n => exact execGridTickCommit_keeps _ _ _ (by dsimp only [touches]; decide) (.refl _ _)
  | gridTick t n => exact execGridTick_keeps _ _ _ (by dsimp only [touches]; decide) (.refl _ _)
  | shtEnSet t n => exact execShtEnSet_keeps _ _ _ (by dsimp only [touches]; decide) (.refl _ _)
  | shtEnClear t n => exact execShtEnClear_keeps _ _ _ (by dsimp only [touches]; decide) (.refl _ _)
  | shtReadySet t n service => exact execShtReadySet_keeps _ _ _ _ (by dsimp only [touches]; decide) (.refl _ _)
  | shtCntClr t n => exact execShtCntClr_keeps _ _ _ (by dsimp only [touches]; decide) (.refl _ _)
  | pulseOutputUpdate t p => exact execPulseOutputUpdate_keeps _ _ _ (by dsimp only [touches]; decide) (.refl _ _)
  | pulseOutputEdge t => exact execPulseOutputEdge_keeps _ _ (by dsimp only [touches]; decide) (.refl _ _)
  | tachEdge t => exact execTachEdge_keeps _ _ (by dsimp only [touches]; decide) (.refl _ _)
  | bankCommit t b => exact execBankCommit_keeps _ _ _ (by dsimp only [touches]; decide) (.refl _ _)
  | bankStartDecision t b => exact execBankStartDecision_keeps _ _ _ (by dsimp only [touches]; decide) (.refl _ _)
  | deadTimeExpiry t b => exact execDeadTimeExpiry_keeps _ _ _ (by dsimp only [touches]; decide) (.refl _ _)
  | trapInstr t b => exact execTrap_keeps _ _ _ (by dsimp only [touches]; decide) (.refl _ _)
  | drv t b => exact execDrv_keeps _ _ _ (by dsimp only [touches]; decide) (.refl _ _)
  | riseInstr t b => exact execRise_keeps _ _ _ (by dsimp only [touches]; decide) (.refl _ _)
  | fallInstr t b => exact execFall_keeps _ _ _ (by dsimp only [touches]; decide) (.refl _ _)
  | chop t b uv => exact execChop_keeps _ _ _ _ (by dsimp only [touches]; decide) (.refl _ _)
  | recov t b => exact execRecov_keeps _ _ _ (by dsimp only [touches]; decide) (.refl _ _)
  | contInstr t b uv => exact execCont_keeps _ _ _ _ (by dsimp only [touches]; decide) (.refl _ _)
  | setpk t b => exact execSetpk_keeps _ _ _ (by dsimp only [touches]; decide) (.refl _ _)
  | setvy t b => exact execSetvy_keeps _ _ _ (by dsimp only [touches]; decide) (.refl _ _)
  | blank t b => exact execBlank_keeps _ _ _ (by dsimp only [touches]; decide) (.refl _ _)
  | jmp t b => exact execJmp_keeps _ _ _ (by dsimp only [touches]; decide) (.refl _ _)
  | brf t b uv => exact execBrf_keeps _ _ _ _ (by dsimp only [touches]; decide) (.refl _ _)
  | loopInstr t b => exact execLoop_keeps _ _ _ (by dsimp only [touches]; decide) (.refl _ _)
  | flt t b => exact execFlt_keeps _ _ _ (by dsimp only [touches]; decide) (.refl _ _)
  | heddleTimedExpiry t b => exact execHeddleTimedExpiry_keeps _ _ _ (by dsimp only [touches]; decide) (.refl _ _)
  | comparatorTrip t b k uv => exact execComparatorTrip_keeps _ _ _ _ _ (by dsimp only [touches]; decide) (.refl _ _)
  | blankingEnd t b uv => exact execBlankingEnd_keeps _ _ _ _ (by dsimp only [touches]; decide) (.refl _ _)
  | recoveryEndZth t b uv => exact execRecoveryEndZth_keeps _ _ _ _ (by dsimp only [touches]; decide) (.refl _ _)
  | recoveryEndRmax t b => exact execRecoveryEndRmax_keeps _ _ _ (by dsimp only [touches]; decide) (.refl _ _)
  | overlapRecoveryEnd t b => exact execOverlapRecoveryEnd_keeps _ _ _ (by dsimp only [touches]; decide) (.refl _ _)
  | postponeExpiry t b => exact execPostponeExpiry_keeps _ _ _ (by dsimp only [touches]; decide) (.refl _ _)
  | contEnable t b => exact execContEnable_keeps _ _ _ (by dsimp only [touches]; decide) (.refl _ _)
  | contDisable t b => exact execContDisable_keeps _ _ _ (by dsimp only [touches]; decide) (.refl _ _)
  | contSetpointWrite t b service set band => exact execContSetpointWrite_keeps _ _ _ _ _ _ (by dsimp only [touches]; decide) (.refl _ _)
  | contDwellEnd t b uv => exact execContDwellEnd_keeps _ _ _ _ (by dsimp only [touches]; decide) (.refl _ _)
  | bnkCntClr t b => exact execBnkCntClr_keeps _ _ _ (by dsimp only [touches]; decide) (.refl _ _)
  | boostEnable t g => exact execBoostEnable_keeps _ _ _ (by dsimp only [touches]; decide) (.refl _ _)
  | boostRailSample t g v => exact execBoostRailSample_keeps _ _ _ _ (by dsimp only [touches]; decide) (.refl _ _)
  | boostOvPersist t g => exact execBoostOvPersist_keeps _ _ _ (by dsimp only [touches]; decide) (.refl _ _)
  | openLoadCheck t b uv => exact execOpenLoadCheck_keeps _ _ _ _ (by dsimp only [touches]; decide) (.refl _ _)
  | lsDesat t b mv => exact execLsDesat_keeps _ _ _ _ (by dsimp only [touches]; decide) (.refl _ _)
  | hsDesat t b mv => exact execHsDesat_keeps _ _ _ _ (by dsimp only [touches]; decide) (.refl _ _)
  | crossCheckFail t b c mv => exact execCrossCheckFail_keeps _ _ _ _ _ (by dsimp only [touches]; decide) (.refl _ _)
  | offtPeriod t b => exact execOfftPeriod_keeps _ _ _ (by dsimp only [touches]; decide) (.refl _ _)
  | offtStart t b => exact execOfftStart_keeps _ _ _ (by dsimp only [touches]; decide) (.refl _ _)
  | offtDecide t b low high blim => exact execOfftDecide_keeps _ _ _ _ _ _ (by dsimp only [touches]; decide) (.refl _ _)
  | residualCurrent t b uv => exact execResidual_keeps _ _ _ _ (by dsimp only [touches]; decide) (.refl _ _)
  | latchClear t b c => exact execLatchClear_keeps _ _ _ _ (by dsimp only [touches]; decide) (.refl _ _)
  | tailSample t b v => exact execTailSample_keeps _ _ _ _ (by dsimp only [touches]; decide) (.refl _ _)
  | tailWindowEnd t b => exact execTailWindowEnd_keeps _ _ _ (by dsimp only [touches]; decide) (.refl _ _)
  | thermalStep t b c => exact execThermalStep_keeps _ _ _ _ (by dsimp only [touches]; decide) (.refl _ _)
  | bnkDcntClr t b => exact execBnkDcntClr_keeps _ _ _ (by dsimp only [touches]; decide) (.refl _ _)
  | conversionSample t k => exact execConversionSample_keeps _ _ _ (by dsimp only [touches]; decide) (.refl _ _)
  | conversionComplete t k raw => exact execConversionComplete_keeps _ _ _ _ (by dsimp only [touches]; decide) (.refl _ _)
  | openWireSettle t k => exact execOpenWireSettle_keeps _ _ _ (by dsimp only [touches]; decide) (.refl _ _)
  | rotationStart t => exact execRotationStart_keeps _ _ (by dsimp only [touches]; decide) (.refl _ _)
  | sliceSwitchStart t => exact execSliceSwitchStart_keeps _ _ (by dsimp only [touches]; decide) (.refl _ _)
  | sliceSwitchEnd t => exact execSliceSwitchEnd_keeps _ _ (by dsimp only [touches]; decide) (.refl _ _)
  | rotationAbandon t => exact execRotationAbandon_keeps _ _ (by dsimp only [touches]; decide) (.refl _ _)
  | spareCalVerdict t agnd refp refn => exact execSpareCalVerdict_keeps _ _ _ _ _ (by dsimp only [touches]; decide) (.refl _ _)
  | seqGo t k => exact execSeqGo_keeps _ _ _ (by dsimp only [touches]; decide) (.refl _ _)
  | seqEn t k en => exact execSeqEn_keeps _ _ _ _ (by dsimp only [touches]; decide) (.refl _ _)
  | seqTimer t k => exact execSeqTimer_keeps _ _ _ (by dsimp only [touches]; decide) (.refl _ _)
  | seqGateOpen t k => exact execSeqGateOpen_keeps _ _ _ (by dsimp only [touches]; decide) (.refl _ _)
  | seqGridTick t k => exact execSeqGridTick_keeps _ _ _ (by dsimp only [touches]; decide) (.refl _ _)
  | seqGateClose t k => exact execSeqGateClose_keeps _ _ _ (by dsimp only [touches]; decide) (.refl _ _)
  | passStart t l => exact execPassStart_keeps _ _ _ (by dsimp only [touches]; decide) (.refl _ _)
  | passEnd t k => exact execPassEnd_keeps _ _ _ (by dsimp only [touches]; decide) (.refl _ _)
  | windowFinalise t k => exact execWindowFinalise_keeps _ _ _ (by dsimp only [touches]; decide) (.refl _ _)
  | seqCntClr t k => exact execSeqCntClr_keeps _ _ _ (by dsimp only [touches]; decide) (.refl _ _)
  | windowCrossing t m mv => exact execWindowCrossing_keeps _ _ _ _ (by dsimp only [touches]; decide) (.refl _ _)
  | wmBlankEnd t m => exact execWmBlankEnd_keeps _ _ _ (by dsimp only [touches]; decide) (.refl _ _)
  | wmLatchClear t m => exact execWmLatchClear_keeps _ _ _ (by dsimp only [touches]; decide) (.refl _ _)
  | periodTimerEdge t p => exact execPeriodTimerEdge_keeps _ _ _ (by dsimp only [touches]; decide) (.refl _ _)
  | ptEnable t p => exact execPtEnable_keeps _ _ _ (by dsimp only [touches]; decide) (.refl _ _)
  | wmCntClr t m => exact execWmCntClr_keeps _ _ _ (by dsimp only [touches]; decide) (.refl _ _)
  | bankSelftestDone t b outs => exact execBankSelftestDone_keeps _ _ _ _ (by dsimp only [touches]; decide) (.refl _ _)
  | monitorSelftest t => exact execMonitorSelftest_keeps _ _ (by dsimp only [touches]; decide) (.refl _ _)
  | monitorSelftestDone t low high => exact execMonitorSelftestDone_keeps _ _ _ _ (by dsimp only [touches]; decide) (.refl _ _)
  | pinTimeout t p => exact execPinTimeout_keeps _ _ _ (by dsimp only [touches]; decide) (.refl _ _)
  | analysisStart t j => exact execAnalysisStart_keeps _ _ _ (by dsimp only [touches]; decide) (.refl _ _)
  | recordCommit t j => exact execRecordCommit_keeps _ _ _ (by dsimp only [touches]; decide) (.refl _ _)
  | trimUpdate t => exact execTrimUpdate_keeps _ _ (by dsimp only [touches]; decide) (.refl _ _)
  | listBuild t q k => exact execListBuild_keeps _ _ _ _ (by dsimp only [touches]; decide) (.refl _ _)
  | demandSwap t => exact execDemandSwap_keeps _ _ (by dsimp only [touches]; decide) (.refl _ _)
  | demandTimeout t => exact execDemandTimeout_keeps _ _ (by dsimp only [touches]; decide) (.refl _ _)
  | driftUpdate t => exact execDriftUpdate_keeps _ _ (by dsimp only [touches]; decide) (.refl _ _)
  | railLoopStep t => exact execRailLoopStep_keeps _ _ (by dsimp only [touches]; decide) (.refl _ _)
  | setpointRamp t => exact execSetpointRamp_keeps _ _ (by dsimp only [touches]; decide) (.refl _ _)
  | pinDisagree t => exact execPinDisagree_keeps _ _ (by dsimp only [touches]; decide) (.refl _ _)
  | railOverpressure t => exact execRailOverpressure_keeps _ _ (by dsimp only [touches]; decide) (.refl _ _)
  | overspeedUpdate t => exact execOverspeedUpdate_keeps _ _ (by dsimp only [touches]; decide) (.refl _ _)
  | serviceCntClr t which => exact execServiceCntClr_keeps _ _ _ (by dsimp only [touches]; decide) (.refl _ _)
  | enumIdn t => exact execEnum_keeps _ _ (by dsimp only [touches]; decide) (.refl _ _)
  | idnCmdInvalid t code => exact execIdnCmdInvalid_keeps _ _ _ (by dsimp only [touches]; decide) (.refl _ _)
  | selvedgeLineReady t x => exact execSelvedgeLineReady_keeps _ _ _ (by dsimp only [touches]; decide) (.refl _ _)
  | selvedgeLineShort t l => exact execSelvedgeLineShort_keeps _ _ _ (by dsimp only [touches]; decide) (.refl _ _)
  | selvedgeReset t l => exact execSelvedgeReset_keeps _ _ _ (by dsimp only [touches]; decide) (.refl _ _)
  | rollCall t l base ua => exact execRollCall_keeps _ _ _ _ _ (by dsimp only [touches]; decide) (.refl _ _)
  | selectSite t l base ua => exact execSelectSite_keeps _ _ _ _ _ (by dsimp only [touches]; decide) (.refl _ _)
  | selvedgeRead t l base ua => exact execSelvedgeRead_keeps _ _ _ _ _ (by dsimp only [touches]; decide) (.refl _ _)
  | enumDone t => exact execEnumDone_keeps _ _ (by dsimp only [touches]; decide) (.refl _ _)
  | backgroundRollCall t l base ua => exact execBackgroundRollCall_keeps _ _ _ _ _ (by dsimp only [touches]; decide) (.refl _ _)
  | hostRead t addr late => exact execHostRead_keeps _ _ _ _ (by dsimp only [touches]; decide) (.refl _ _)
  | hostWrite t addr value late => exact execHostWrite_keeps _ _ _ _ _ (by dsimp only [touches]; decide) (.refl _ _)
  | hostNop t addr => exact execHostNop_keeps _ _ _ (by dsimp only [touches]; decide) (.refl _ _)
  | hostFrameError t f => exact execHostFrameError_keeps _ _ _ (by dsimp only [touches]; decide) (.refl _ _)
  | eventPop t late => exact execEventPop_keeps _ _ _ (by dsimp only [touches]; decide) (.refl _ _)
  | canTxRequest t c m => exact execCanTxRequest_keeps _ _ _ _ (by dsimp only [touches]; decide) (.refl _ _)
  | canTxDone t c sof fails => exact execCanTxDone_keeps _ _ _ _ _ (by dsimp only [touches]; decide) (.refl _ _)
  | canRxFrame t c f sof errs => exact execCanRxFrame_keeps _ _ _ _ _ _ (by dsimp only [touches]; decide) (.refl _ _)
  | canRxAck t c => exact execCanRxAck_keeps _ _ _ (by dsimp only [touches]; decide) (.refl _ _)
  | canBusOff t c => exact execCanBusOff_keeps _ _ _ (by dsimp only [touches]; decide) (.refl _ _)
  | canBusOn t c => exact execCanBusOn_keeps _ _ _ (by dsimp only [touches]; decide) (.refl _ _)
  | canBusoffReq t c => exact execCanBusoffReq_keeps _ _ _ (by dsimp only [touches]; decide) (.refl _ _)
  | phyLinkPoll t p up => exact execPhyLinkPoll_keeps _ _ _ _ (by dsimp only [touches]; decide) (.refl _ _)
  | datagramStart t p => exact execDatagramStart_keeps _ _ _ (by dsimp only [touches]; decide) (.refl _ _)
  | streamFlush t k => exact execStreamFlush_keeps _ _ _ (by dsimp only [touches]; decide) (.refl _ _)
  | ethRxFrame t p => exact execEthRxFrame_keeps _ _ _ (by dsimp only [touches]; decide) (.refl _ _)
  | sentFrame t n fall sync pulses => exact execSentFrame_keeps _ _ _ _ _ _ (by dsimp only [touches]; decide) (.refl _ _)
  | sentStale t n => exact execSentStale_keeps _ _ _ (by dsimp only [touches]; decide) (.refl _ _)
  | flashRead t faddr len => exact execFlashRead_keeps _ _ _ _ (by dsimp only [touches]; decide) (.refl _ _)
  | flashProgram t faddr len => exact execFlashProgram_keeps _ _ _ _ (by dsimp only [touches]; decide) (.refl _ _)
  | flashErase t faddr => exact execFlashErase_keeps _ _ _ (by dsimp only [touches]; decide) (.refl _ _)
  | flashCmdDone t => exact execFlashCmdDone_keeps _ _ (by dsimp only [touches]; decide) (.refl _ _)
  | jtagExtest t => exact execJtagExtest_keeps _ _ (by dsimp only [touches]; decide) (.refl _ _)
  | jtagIdcode t => exact execJtagIdcode_keeps _ _ (by dsimp only [touches]; decide) (.refl _ _)
  | jtagSamplePreload t => exact execJtagSamplePreload_keeps _ _ (by dsimp only [touches]; decide) (.refl _ _)
  | jtagHighz t => exact execJtagHighz_keeps _ _ (by dsimp only [touches]; decide) (.refl _ _)
  | jtagClamp t => exact execJtagClamp_keeps _ _ (by dsimp only [touches]; decide) (.refl _ _)
  | jtagBypass t => exact execJtagBypass_keeps _ _ (by dsimp only [touches]; decide) (.refl _ _)
  | jtagDbgAccess t op addr crc value => exact execJtagDbgAccess_keeps _ _ _ _ _ _ (by dsimp only [touches]; decide) (.refl _ _)
  | dmaGo t c => exact execDmaGo_keeps _ _ _ (by dsimp only [touches]; decide) (.refl _ _)
  | dmaTrigger t c => exact execDmaTrigger_keeps _ _ _ (by dsimp only [touches]; decide) (.refl _ _)
  | dmaDescriptorLoad t c => exact execDmaDescriptorLoad_keeps _ _ _ (by dsimp only [touches]; decide) (.refl _ _)
  | dmaBeatResponse t c busy => exact execDmaBeatResponse_keeps _ _ _ _ (by dsimp only [touches]; decide) (.refl _ _)
  | dmaStop t c => exact execDmaStop_keeps _ _ _ (by dsimp only [touches]; decide) (.refl _ _)
  | dmaResume t c => exact execDmaResume_keeps _ _ _ (by dsimp only [touches]; decide) (.refl _ _)
  | dmaEnable t c => exact execDmaEnable_keeps _ _ _ (by dsimp only [touches]; decide) (.refl _ _)
  | dmaDisable t c => exact execDmaDisable_keeps _ _ _ (by dsimp only [touches]; decide) (.refl _ _)
  | dmaDomainReturn t c => exact execDmaDomainReturn_keeps _ _ _ (by dsimp only [touches]; decide) (.refl _ _)
  | commitTimer t => exact execCommitTimer_keeps _ _ (by dsimp only [touches]; decide) (.refl _ _)
  | strandlineCommit t => exact execStrandlineCommit_keeps _ _ (by dsimp only [touches]; decide) (.refl _ _)
  | fullCommit t => exact execFullCommit_keeps _ _ (by dsimp only [touches]; decide) (.refl _ _)
  | recordWriteDone t => exact execRecordWriteDone_keeps _ _ (by dsimp only [touches]; decide) (.refl _ _)
  | coilTempBin t => exact execCoilTempBin_keeps _ _ (by dsimp only [touches]; decide) (.refl _ _)
  | boostBin t => exact execBoostBin_keeps _ _ (by dsimp only [touches]; decide) (.refl _ _)
  | runSeconds t => exact execRunSeconds_keeps _ _ (by dsimp only [touches]; decide) (.refl _ _)
  | strandlineReady t => exact execStrandlineReady_keeps _ _ (by dsimp only [touches]; decide) (.refl _ _)
  | proexAlign t => exact execProexAlign_keeps _ _ (by dsimp only [touches]; decide) (.refl _ _)
  | proexToothFrame t fseq p => exact execProexToothFrame_keeps _ _ _ _ (by dsimp only [touches]; decide) (.refl _ _)
  | proexBeatFrame t fseq p arrival => exact execProexBeatFrame_keeps _ _ _ _ _ (by dsimp only [touches]; decide) (.refl _ _)
  | proexEventFrame t fseq p => exact execProexEventFrame_keeps _ _ _ _ (by dsimp only [touches]; decide) (.refl _ _)
  | proexRecordFrame t fseq p => exact execProexRecordFrame_keeps _ _ _ _ (by dsimp only [touches]; decide) (.refl _ _)
  | proexBlockFrame t fseq p => exact execProexBlockFrame_keeps _ _ _ _ (by dsimp only [touches]; decide) (.refl _ _)
  | proexFrameError t header => exact execProexFrameError_keeps _ _ _ (by dsimp only [touches]; decide) (.refl _ _)
  | beatDue t => exact execBeatDue_keeps _ _ (by dsimp only [touches]; decide) (.refl _ _)
  | proexFrameSend t => exact execProexFrameSend_keeps _ _ (by dsimp only [touches]; decide) (.refl _ _)
  | blockSeriesDue t id => exact execBlockSeriesDue_keeps _ _ _ (by dsimp only [touches]; decide) (.refl _ _)
  | beatTimeout t => exact execBeatTimeout_keeps _ _ (by dsimp only [touches]; decide) (.refl _ _)
  | mapTimeout t => exact execMapTimeout_keeps _ _ (by dsimp only [touches]; decide) (.refl _ _)
  | mirrorToothTimeout t => exact execMirrorToothTimeout_keeps _ _ (by dsimp only [touches]; decide) (.refl _ _)
  | divClr t => exact execDivClr_keeps _ _ (by dsimp only [touches]; decide) (.refl _ _)
  | pairEventPop t late => exact execPairEventPop_keeps _ _ _ (by dsimp only [touches]; decide) (.refl _ _)
  | supplyMonitorTrip t m => exact execSupplyMonitorTrip_keeps _ _ _ (by dsimp only [touches]; decide) (.refl _ _)
  | supplyMonitorRelease t m => exact execSupplyMonitorRelease_keeps _ _ _ (by dsimp only [touches]; decide) (.refl _ _)
  | sensorSupplyLow t => exact execSensorSupplyLow_keeps _ _ (by dsimp only [touches]; decide) (.refl _ _)
  | ebbActive t vbat => exact execEbbActive_keeps _ _ _ (by dsimp only [touches]; decide) (.refl _ _)
  | ebbInactive t vbat => exact execEbbInactive_keeps _ _ _ (by dsimp only [touches]; decide) (.refl _ _)
  | lowWaterReset t => exact execLowWaterReset_keeps _ _ (by dsimp only [touches]; decide) (.refl _ _)
  | lowWaterEnd t => exact execLowWaterEnd_keeps _ _ (by dsimp only [touches]; decide) (.refl _ _)
  | powerOnReset t => exact execPowerOnReset_keeps _ _ (by dsimp only [touches]; decide) (.refl _ _)
  | pinReset t => exact execPinReset_keeps _ _ (by dsimp only [touches]; decide) (.refl _ _)
  | pinResetEnd t => exact execPinResetEnd_keeps _ _ (by dsimp only [touches]; decide) (.refl _ _)
  | softwareReset t key => exact execSoftwareReset_keeps _ _ _ (by dsimp only [touches]; decide) (.refl _ _)
  | resetEnd t side mirror => exact execResetEnd_keeps _ _ _ _ (by dsimp only [touches]; decide) (.refl _ _)
  | startLateTimeout t => exact execStartLateTimeout_keeps _ _ (by dsimp only [touches]; decide) (.refl _ _)
  | domainOffRequest t d => exact execDomainOffRequest_keeps _ _ _ (by dsimp only [touches]; decide) (.refl _ _)
  | domainOnRequest t d => exact execDomainOnRequest_keeps _ _ _ (by dsimp only [touches]; decide) (.refl _ _)
  | drainEnd t d => exact execDrainEnd_keeps _ _ _ (by dsimp only [touches]; decide) (.refl _ _)
  | drainTimeout t d => exact execDrainTimeout_keeps _ _ _ (by dsimp only [touches]; decide) (.refl _ _)
  | domainWakeDone t d => exact execDomainWakeDone_keeps _ _ _ (by dsimp only [touches]; decide) (.refl _ _)
  | standbyRequest t key => exact execStandbyRequest_keeps _ _ _ (by dsimp only [touches]; decide) (.refl _ _)
  | standbyComplete t => exact execStandbyComplete_keeps _ _ (by dsimp only [touches]; decide) (.refl _ _)
  | wakeInput t level => exact execWakeInput_keeps _ _ _ (by dsimp only [touches]; decide) (.refl _ _)
  | wakeFilterExpiry t => exact execWakeFilterExpiry_keeps _ _ (by dsimp only [touches]; decide) (.refl _ _)
  | wakeTimer t => exact execWakeTimer_keeps _ _ (by dsimp only [touches]; decide) (.refl _ _)
  | headlandCause t => exact execHeadlandCause_keeps _ _ (by dsimp only [touches]; decide) (.refl _ _)
  | cutHoldExpiry t => exact execCutHoldExpiry_keeps _ _ (by dsimp only [touches]; decide) (.refl _ _)
  | safeRelease t above => exact execSafeRelease_keeps _ _ _ (by dsimp only [touches]; decide) (.refl _ _)
  | headlandSelftestDone t fails => exact execHeadlandSelftestDone_keeps _ _ _ (by dsimp only [touches]; decide) (.refl _ _)
  | headlandRunEntry t => exact execHeadlandRunEntry_keeps _ _ (by dsimp only [touches]; decide) (.refl _ _)
  | clockMonitorWindow t tb xo => exact execClockMonitorWindow_keeps _ _ _ _ (by dsimp only [touches]; decide) (.refl _ _)
  | housekeepingSample t vbat tdie => exact execHousekeepingSample_keeps _ _ _ _ (by dsimp only [touches]; decide) (.refl _ _)
  | safeNMismatch t => exact execSafeNMismatch_keeps _ _ (by dsimp only [touches]; decide) (.refl _ _)
  | safeInChange t level => exact execSafeInChange_keeps _ _ _ (by dsimp only [touches]; decide) (.refl _ _)
  | clockReturn t d => exact execClockReturn_keeps _ _ _ (by dsimp only [touches]; decide) (.refl _ _)
  | safCntClr t => exact execSafCntClr_keeps _ _ (by dsimp only [touches]; decide) (.refl _ _)
  | prxCntClr t => exact execPrxCntClr_keeps _ _ (by dsimp only [touches]; decide) (.refl _ _)
  | recCntClr t => exact execRecCntClr_keeps _ _ (by dsimp only [touches]; decide) (.refl _ _)
  | dmaCntClr t c => exact execDmaCntClr_keeps _ _ _ (by dsimp only [touches]; decide) (.refl _ _)
  | lnkCntClr t which => exact execLnkCntClr_keeps _ _ _ (by dsimp only [touches]; decide) (.refl _ _)

theorem exec_keeps_of_next {c : Instr} {s s' : State} (h : exec c s = .next s') : Keeps (maskOf (touches c)) s s' := by
  have hk := exec_keeps c s
  rw [h] at hk
  exact hk

/-- The meaning of every command is a next state, whatever the state. -/
theorem exec_completes (c : Instr) (s : State) : ∃ s', exec c s = .next s' := by
  cases c <;> exact ⟨_, rfl⟩

/-- A step is the front command in the state without it. -/
theorem step_eq_exec {c : Instr} {cs : List Instr} {s : State} (h : s.pending = c :: cs) : step s = exec c s.popped := by
  unfold step
  rw [h]

theorem step_eq_next {s : State} (h : s.pending = []) : step s = .next s := by
  unfold step
  rw [h]

theorem State.popped_eq {s : State} {c : Instr} {cs : List Instr} (h : s.pending = c :: cs) :
    s.popped = { s with pending := cs } := by
  rw [State.popped, h, List.tail_cons]

/-- A step either leaves the state or keeps, from the state without its front command, what that command keeps. -/
theorem step_cases {s s' : State} (h : step s = .next s') : s' = s ∨ ∃ c, Keeps (maskOf (touches c)) s.popped s' := by
  cases hq : s.pending with
  | nil => exact .inl (Host.Outcome.next.inj ((step_eq_next hq).symm.trans h)).symm
  | cons c cs => exact .inr ⟨c, exec_keeps_of_next ((step_eq_exec hq).symm.trans h)⟩

/-- The memories of the state without its front command are those of the state. -/
theorem State.popped_canonical (s : State) : s.popped.canonical = s.canonical := rfl

theorem State.popped_modesOk (s : State) : s.popped.modesOk = s.modesOk := rfl

/-! ### Commands carried out before their turn -/

/-- A command that was carried out early is marked once less after its turn. -/
theorem State.passed_count {s : State} {c : Instr} (h : s.early c = true) :
    (s.passed c).ahead.count c + 1 = s.ahead.count c := by
  have hpos : 0 < s.ahead.count c := List.count_pos_iff.2 (List.contains_iff_mem.1 h)
  rw [State.passed, List.count_erase_self]
  omega

/-- The bus accesses and DMA commands that the queue may have carried out early pass when they were. -/
theorem exec_passes (t : Word) (a : Fin 65536) (v : Word) (late : Bool) (k : Fin 16) (p : Fin 2) (f : Fin 256) (l : List Nat)
    (op crc : Fin 256) (s : State) :
    ∀ c ∈ [Instr.registerWrite t a v, .hostRead t a late, .hostWrite t a v late, .eventPop t late, .pairEventPop t late,
        .jtagDbgAccess t op a crc v, .dmaGo t k, .dmaTrigger t k, .dmaResume t k, .dmaEnable t k, .dmaDomainReturn t k,
        .dmaDescriptorLoad t k, .dmaBeatResponse t k late, .datagramStart t p, .proexRecordFrame t f l, .proexBlockFrame t f l],
      s.early c = true → exec c s = .next ((s.at t).passed c) := by
  simp only [List.forall_mem_cons]
  refine ⟨?_, ?_, ?_, ?_, ?_, ?_, ?_, ?_, ?_, ?_, ?_, ?_, ?_, ?_, ?_, ?_, fun _ h => absurd h List.not_mem_nil⟩
  all_goals exact fun h => congrArg Host.Outcome.next (if_pos h)

/-! ### The obligations -/

/-- Settles O1: the two cases of the queue. -/
theorem stepRunsTheFrontCommand : Obligations.StepRunsTheFrontCommand :=
  ⟨fun _ _ _ h => (step_eq_exec h).trans (by rw [State.popped_eq h]), fun _ => step_eq_next⟩

/-- Settles O2: every meaning is a next state, keeps the queue, and passes where the command was carried out early. -/
theorem commandsCompleteAndLeaveTheQueue : Obligations.CommandsCompleteAndLeaveTheQueue := by
  refine ⟨exec_completes, fun c s s' h => (exec_keeps_of_next h).queue, ?_⟩
  intro t a v late k p f l op crc s c hc he
  exact ⟨_, exec_passes t a v late k p f l op crc s c hc he, rfl, State.passed_count (s := s.at t) he⟩

/-- Settles O3: the registers are listed but for SYS_RSTCAUSE, and the memories and banks are those of `State.reset`. -/
theorem resetState : Obligations.ResetState := by
  refine ⟨⟨fun a ha => ?_, by decide, rfl⟩, by decide, by decide⟩
  exact Cells.get_set_ne regReset [] 0x800000000000 ha

/-- Settles O4: an idle step leaves the memories, and every command keeps their canonical form. -/
theorem stepKeepsMemoriesCanonical : Obligations.StepKeepsMemoriesCanonical := by
  intro s s' hc h
  rcases step_cases h with rfl | ⟨c, hk⟩
  · exact hc
  · exact hk.canon (s.popped_canonical.trans hc)

/-- Settles O5: an idle step leaves banks and comparators, and every command keeps the modes that the banks ask for. -/
theorem stepKeepsComparatorModes : Obligations.StepKeepsComparatorModes := by
  intro s s' hm h
  rcases step_cases h with rfl | ⟨c, hk⟩
  · exact hm
  · exact hk.modes (s.popped_modesOk.trans hm)

/-- Settles O6: the frame lemma of every command. -/
theorem everyCommandFrame : Obligations.EveryCommandFrame :=
  fun _ _ _ h => (exec_keeps_of_next h).sameBut

end Sys2Proof.Machine
end

section
/-!
PROOF. Register rules that the proofs below share: what each update of a field gives in that field and leaves alone, what it is
to be refused, and which tile an absent register belongs to.
-/
namespace Sys2Proof.Machine

/-! ### One field -/

section
variable (s : State)

theorem State.reg_stick_ne (f : Fld) (bits : Nat) {a : Nat} (h : a ≠ f.addr) : (s.stick f bits).reg a = s.reg a :=
  State.reg_set_ne s f _ h

theorem State.reg_add_ne (f : Fld) (n : Nat) {a : Nat} (h : a ≠ f.addr) : (s.add f n).reg a = s.reg a :=
  State.reg_set_ne s f _ h

theorem State.reg_flag_ne (f : Fld) (b : Bool) {a : Nat} (h : a ≠ f.addr) : (s.flag f b).reg a = s.reg a :=
  State.reg_set_ne s f _ h

theorem State.reg_setI_ne (f : Fld) (v : Int) {a : Nat} (h : a ≠ f.addr) : (s.setI f v).reg a = s.reg a :=
  State.reg_set_ne s f _ h

theorem State.reg_incMod_ne (f : Fld) {a : Nat} (h : a ≠ f.addr) : (s.incMod f).reg a = s.reg a :=
  State.reg_set_ne s f _ h

theorem State.reg_clearMax_ne (f : Fld) {a : Nat} (h : a ≠ f.addr) : (s.clearMax f).reg a = s.reg a :=
  State.reg_set_ne s f _ h

theorem State.reg_maxTo_ne (f : Fld) (v : Nat) {a : Nat} (h : a ≠ f.addr) : (s.maxTo f v).reg a = s.reg a := by
  rw [State.maxTo, State.reg_note]
  split
  · exact State.reg_set_ne s f _ h
  · rfl

theorem State.reg_wrej_ne {a : Nat} (h : a ≠ Reg.SYS_STATUS_addr) : s.wrej.reg a = s.reg a :=
  State.reg_stick_ne s _ 1 h

/-- A value that fits its field is read back as it is. -/
theorem State.get_set_of_lt (f : Fld) {v : Nat} (hf : f.lo + f.wid ≤ 48) (hv : v < 2 ^ f.wid) : (s.set f v).get f = v := by
  rw [State.get_set s f v hf, Nat.mod_eq_of_lt hv]

theorem State.get_flag (f : Fld) (b : Bool) (hf : f.lo + f.wid ≤ 48) (hw : 0 < f.wid) :
    (s.flag f b).get f = if b then 1 else 0 := by
  refine State.get_set_of_lt s f hf ?_
  have h2 : 2 ^ 1 ≤ 2 ^ f.wid := Nat.pow_le_pow_right (by omega) hw
  split <;> omega

theorem State.get_stick (f : Fld) {bits : Nat} (hf : f.lo + f.wid ≤ 48) (hb : bits < 2 ^ f.wid) :
    (s.stick f bits).get f = s.get f ||| bits := by
  rw [State.stick, State.get_note]
  exact State.get_set_of_lt s f hf (Nat.or_lt_two_pow (s.get_lt f) hb)

/-- A sticky bit that is set. -/
theorem State.get_stick_bit (f : Fld) (hf : f.lo + f.wid ≤ 48) (hw : f.wid = 1) : (s.stick f 1).get f = 1 := by
  have hlt := s.get_lt f
  rw [State.get_stick s f hf (by rw [hw]; omega)]
  rw [hw] at hlt
  have h01 : s.get f = 0 ∨ s.get f = 1 := by omega
  rcases h01 with h | h <;> rw [h] <;> rfl

theorem State.get_add (f : Fld) (n : Nat) (hf : f.lo + f.wid ≤ 48) : (s.add f n).get f = min (s.get f + n) f.max := by
  have hpos := Nat.two_pow_pos f.wid
  rw [State.add, State.get_note]
  exact State.get_set_of_lt s f hf (by simp only [Fld.max]; omega)

theorem State.get_wrej : s.wrej.get Reg.SYS_STATUS_WREJ = 1 := State.get_stick_bit s _ (by decide) rfl

end

/-- Where no register but the one of `f` was written, a field of another register reads as before. -/
theorem State.get_of_reg {s s' : State} {a : Nat} (h : ∀ b, b ≠ a → s'.reg b = s.reg b) {f : Fld} (hf : f.addr ≠ a) :
    s'.get f = s.get f :=
  State.get_congr (h f.addr hf)

/-! ### Several fields -/

/-- The fields have no bit in common. -/
def Fld.apart (f g : Fld) : Prop := f.addr ≠ g.addr ∨ f.lo + f.wid ≤ g.lo ∨ g.lo + g.wid ≤ f.lo

theorem Fld.apart.symm {f g : Fld} (h : f.apart g) : g.apart f := by
  unfold Fld.apart at *
  omega

/-- The fields written one after the other. -/
def State.setAll (s : State) (l : List (Fld × Nat)) : State := l.foldl (fun s x => s.set x.1 x.2) s

theorem State.setAll_append (s : State) (l m : List (Fld × Nat)) : s.setAll (l ++ m) = (s.setAll l).setAll m :=
  List.foldl_append

theorem State.noted_congr {s s' : State} (ht : s'.ticks = s.ticks) (hn : s'.now = s.now) (f : Fld) :
    s'.noted f = s.noted f := by
  rw [State.noted, State.noted, ht, hn]

theorem State.setAll_noted (l : List (Fld × Nat)) (s : State) (f : Fld) : (s.setAll l).noted f = s.noted f := by
  induction l generalizing s with
  | nil => rfl
  | cons x l ih => exact (ih (s.set x.1 x.2)).trans (State.noted_congr rfl rfl f)

theorem State.setAll_reg (l : List (Fld × Nat)) (s : State) {a : Nat} (h : a ∉ l.map (·.1.addr)) :
    (s.setAll l).reg a = s.reg a := by
  induction l generalizing s with
  | nil => rfl
  | cons x l ih =>
    simp only [List.map_cons, List.mem_cons, not_or] at h
    exact (ih (s.set x.1 x.2) h.2).trans (State.reg_set_ne s x.1 x.2 h.1)

/-- A field that shares no bit with the fields written keeps its value. -/
theorem State.setAll_get_apart (l : List (Fld × Nat)) (s : State) {g : Fld} (hg : g.lo + g.wid ≤ 48)
    (hl : ∀ x ∈ l, x.1.lo + x.1.wid ≤ 48 ∧ x.1.apart g) : (s.setAll l).get g = s.get g := by
  induction l generalizing s with
  | nil => rfl
  | cons x l ih =>
    rw [List.forall_mem_cons] at hl
    obtain ⟨⟨hx, hap⟩, hl⟩ := hl
    refine (ih (s.set x.1 x.2) hl).trans (State.get_set_ne s x.1 g x.2 ?_)
    exact hap.imp_right fun h => ⟨hx, hg, h⟩

/-- Fields written that have no bit in common hold what was written. -/
theorem State.setAll_get {l : List (Fld × Nat)} (s : State) (hp : (l.map Prod.fst).Pairwise Fld.apart)
    (hl : ∀ x ∈ l, x.1.lo + x.1.wid ≤ 48) {x : Fld × Nat} (hx : x ∈ l) : (s.setAll l).get x.1 = x.2 % 2 ^ x.1.wid := by
  induction l generalizing s with
  | nil => cases hx
  | cons y l ih =>
    rw [List.map_cons, List.pairwise_cons] at hp
    rw [List.forall_mem_cons] at hl
    rcases List.mem_cons.1 hx with rfl | hx
    · refine (State.setAll_get_apart l (s.set x.1 x.2) hl.1 fun z hz => ⟨hl.2 z hz, ?_⟩).trans (State.get_set s x.1 x.2 hl.1)
      exact (hp.1 z.1 (List.mem_map_of_mem hz)).symm
    · exact ih (s.set y.1 y.2) hp.2 hl.2 hx

/-! ### Clears -/

/-- What a clear leaves in counters: the counts of this instant. -/
def State.countsLeft (s : State) (fs : List Fld) : List (Fld × Nat) := fs.map fun f => (f, min (s.noted f).sum f.max)

/-- What a clear leaves of largest values: those of this instant. -/
def State.maximaLeft (s : State) (ms : List Fld) : List (Fld × Nat) := ms.map fun f => (f, min ((s.noted f).foldl max 0) f.max)

theorem State.clearCounts_eq (fs : List Fld) (s : State) : s.clearCounts fs = s.setAll (s.countsLeft fs) := by
  have gen : ∀ (fs : List Fld) (s₀ s : State), (∀ f, s₀.noted f = s.noted f) →
      s₀.clearCounts fs = s₀.setAll (s.countsLeft fs) := by
    intro fs
    induction fs with
    | nil => exact fun _ _ _ => rfl
    | cons f fs ih =>
      intro s₀ s h
      have hf : s₀.clearCounts (f :: fs) = (s₀.set f (min (s.noted f).sum f.max)).clearCounts fs := by rw [← h f]; rfl
      exact hf.trans (ih (s₀.set f (min (s.noted f).sum f.max)) s h)
  exact gen fs s s fun _ => rfl

theorem State.clearMax_eq (f : Fld) (s : State) : s.clearMax f = s.setAll (s.maximaLeft [f]) := rfl

theorem State.countsLeft_setAll (s : State) (l : List (Fld × Nat)) (fs : List Fld) :
    (s.setAll l).countsLeft fs = s.countsLeft fs := by
  simp only [State.countsLeft, State.setAll_noted]

theorem State.maximaLeft_setAll (s : State) (l : List (Fld × Nat)) (ms : List Fld) :
    (s.setAll l).maximaLeft ms = s.maximaLeft ms := by
  simp only [State.maximaLeft, State.setAll_noted]

theorem Fld.min_max_lt (f : Fld) (n : Nat) : min n f.max < 2 ^ f.wid := by
  have hpos := Nat.two_pow_pos f.wid
  simp only [Fld.max]
  omega

/-- Writing what a clear leaves, in any order, is that clear. -/
theorem Cleared.of_setAll {fs ms : List Fld} {t : Word} {s : State} {l : List (Fld × Nat)}
    (hl : l.Perm ((s.at t).countsLeft fs ++ (s.at t).maximaLeft ms)) (hp : (fs ++ ms).Pairwise Fld.apart)
    (hf : ∀ f ∈ fs ++ ms, f.lo + f.wid ≤ 48) : Cleared fs ms t s ((s.at t).setAll l) := by
  have hfst : ((s.at t).countsLeft fs ++ (s.at t).maximaLeft ms).map Prod.fst = fs ++ ms := by
    simp [State.countsLeft, State.maximaLeft, Function.comp_def]
  have hperm : (l.map Prod.fst).Perm (fs ++ ms) := hfst ▸ hl.map Prod.fst
  have hp' : (l.map Prod.fst).Pairwise Fld.apart := (hperm.pairwise_iff fun h => h.symm).2 hp
  have hf' : ∀ x ∈ l, x.1.lo + x.1.wid ≤ 48 := fun x hx => hf x.1 (hperm.subset (List.mem_map_of_mem hx))
  refine ⟨fun f h => ?_, fun f h => ?_, fun a h => ?_⟩
  · have hmem : (f, min ((s.at t).noted f).sum f.max) ∈ l :=
      hl.symm.subset (List.mem_append_left _ (List.mem_map_of_mem h))
    rw [State.setAll_get (s.at t) hp' hf' hmem, Nat.mod_eq_of_lt (f.min_max_lt _)]
  · have hmem : (f, min (((s.at t).noted f).foldl max 0) f.max) ∈ l :=
      hl.symm.subset (List.mem_append_right _ (List.mem_map_of_mem h))
    rw [State.setAll_get (s.at t) hp' hf' hmem, Nat.mod_eq_of_lt (f.min_max_lt _)]
  · refine State.setAll_reg l (s.at t) fun hm => h ?_
    have := (hperm.map Fld.addr).subset (by rwa [List.map_map])
    exact this

/-- A clear of counters alone. -/
theorem Cleared.of_counts {fs : List Fld} (t : Word) (s : State) (hp : fs.Pairwise Fld.apart)
    (hf : ∀ f ∈ fs, f.lo + f.wid ≤ 48) : Cleared fs [] t s ((s.at t).clearCounts fs) := by
  rw [State.clearCounts_eq]
  exact Cleared.of_setAll (by simp [State.maximaLeft]) (by rwa [List.append_nil]) (by rwa [List.append_nil])

/-- A clear of counters and of one largest value. -/
theorem Cleared.of_counts_max {fs : List Fld} {m : Fld} (t : Word) (s : State) (hp : (fs ++ [m]).Pairwise Fld.apart)
    (hf : ∀ f ∈ fs ++ [m], f.lo + f.wid ≤ 48) : Cleared fs [m] t s (((s.at t).clearCounts fs).clearMax m) := by
  rw [State.clearMax_eq, State.clearCounts_eq, State.maximaLeft_setAll, ← State.setAll_append]
  exact Cleared.of_setAll (.refl _) hp hf

/-- A clear of counters, of one largest value, and of further counters. -/
theorem Cleared.of_counts_max_counts {fs gs : List Fld} {m : Fld} (t : Word) (s : State)
    (hp : (fs ++ gs ++ [m]).Pairwise Fld.apart) (hf : ∀ f ∈ fs ++ gs ++ [m], f.lo + f.wid ≤ 48) :
    Cleared (fs ++ gs) [m] t s ((((s.at t).clearCounts fs).clearMax m).clearCounts gs) := by
  rw [State.clearMax_eq, State.clearCounts_eq, State.clearCounts_eq, State.maximaLeft_setAll, ← State.setAll_append,
    State.countsLeft_setAll, State.countsLeft_setAll, ← State.setAll_append]
  refine Cleared.of_setAll ?_ hp hf
  rw [show (s.at t).countsLeft (fs ++ gs) = (s.at t).countsLeft fs ++ (s.at t).countsLeft gs from List.map_append]
  simpa only [List.append_assoc] using List.perm_append_comm.append_left ((s.at t).countsLeft fs)

/-! ### Refusals -/

/-- A command that only sets WREJ is refused. -/
theorem refused_of_wrej {c : Instr} {s : State} {t : Word} (h : exec c s = .next (s.at t).wrej) : Refused c s :=
  ⟨_, h, (s.at t).get_wrej, fun _ ha => (s.at t).reg_wrej_ne ha⟩

/-- A register of a tile is gone where the tile is not there. -/
theorem State.gone_eq {a ty i : Nat} (s : State) (h : ownerOf a = some (some (ty, i))) : s.gone a = !s.hasTile ty i := by
  unfold ownerOf at h
  unfold State.gone State.absent
  cases hr : regAt a with
  | none => rw [hr] at h; cases h
  | some x =>
    obtain ⟨r, j, k⟩ := x
    rw [hr] at h
    cases ht : r.tile with
    | none => simp [ht] at h
    | some tl =>
      simp only [Option.map_some, ht, Option.some.injEq, Prod.mk.injEq] at h
      simp [ht, ← h.1, ← h.2]

theorem State.gone_of {a ty i : Nat} {s : State} (h : ownerOf a = some (some (ty, i))) (ht : s.hasTile ty i = false) :
    s.gone a = true := by
  rw [s.gone_eq h, ht]
  rfl

theorem State.not_gone_of {a ty i : Nat} {s : State} (h : ownerOf a = some (some (ty, i))) (ht : s.hasTile ty i = true) :
    ¬ s.gone a = true := by
  rw [s.gone_eq h, ht]
  exact Bool.false_ne_true

end Sys2Proof.Machine
end

section
/-!
PROOF. The counter clears (R76, R186, R236, R288, R328, R372, R427, R483): what each clear word clears, who is refused, and the
obligations on them.
-/
namespace Sys2Proof.Machine

/-! ### The tile of a clear word -/

theorem ownerOf_WRP_CNT_CLR : ∀ n : Fin 6, ownerOf (Reg.WRP_CNT_CLR_addr n) = some (some (1, n.val)) := by decide
theorem ownerOf_WFT_CNT_CLR : ∀ n : Fin 2, ownerOf (Reg.WFT_CNT_CLR_addr n) = some (some (2, n.val)) := by decide
theorem ownerOf_SHT_CNT_CLR : ∀ n : Fin 64, ownerOf (Reg.SHT_CNT_CLR_addr n) = some (some (3, n.val)) := by decide
theorem ownerOf_REC_CNT_CLR : ownerOf Reg.REC_CNT_CLR_addr = some (some (0x0F, 0)) := by decide
theorem ownerOf_PRX_CNT_CLR : ownerOf Reg.PRX_CNT_CLR_addr = some (some (0x10, 0)) := by decide

/-- The tile of a link block: the streams belong to Ethernet port 0. -/
def lnkTile : LnkBlock → Nat
  | .hspi => 6
  | .can c => c
  | .eth p => 4 + p
  | .str _ => 4

theorem ownerOf_lnkClearWord (which : LnkBlock) : ownerOf (lnkClearWord which) = some (some (0x11, lnkTile which)) := by
  cases which with
  | hspi => decide
  | can c => revert c; decide
  | eth p => revert p; decide
  | str k => revert k; decide

/-! ### The clears of the bank -/

/-- A bank clears its counters, its longest wait and, in the first bank of a group with a boost controller, that one's counters. -/
theorem State.bankClear_cleared (t : Word) (s : State) (b : Nat) : Cleared
    ([Reg.BNK_CNT0_DROP_WAIT b, Reg.BNK_CNT0_DROP_OTHER b, Reg.BNK_CNT0_WAITED b, Reg.BNK_CNT1_TRAPS b, Reg.BNK_CNT1_EARLY b,
      Reg.BNK_CNT1_FLTS b] ++ if b % 4 = 0 ∧ s.hasTile 5 (b / 4) = true then
        [Reg.BST_CNT_OVS (b / 4), Reg.BST_CNT_LOWS (b / 4)] else []) [Reg.BNK_WMAX_WAIT b] t s ((s.at t).bankClear b) := by
  unfold State.bankClear
  by_cases h : b % 4 = 0 ∧ s.hasTile 5 (b / 4) = true
  · rw [if_pos h]
    refine (if_pos h).symm ▸ Cleared.of_counts_max_counts t s ?_ (by simp)
    simp [Fld.apart]
    omega
  · rw [if_neg h, List.append_nil]
    refine (if_neg h).symm ▸ Cleared.of_counts_max t s ?_ (by simp)
    simp [Fld.apart]

/-! ### The obligations -/

/-- Settles O7: each clear is the counts of its unit, a refused one sets WREJ. -/
theorem counterClears : Obligations.CounterClears := by
  intro t s
  refine ⟨fun n hn => ?warp, fun n hn => ?weft, fun n hn => ?shuttle, fun b hb => ?bank, fun b hb => ?diag, fun k hk => ?seq,
    fun m => ?monitor, ?refused⟩
  case warp =>
    exact ⟨_, congrArg Host.Outcome.next (if_neg (State.not_gone_of (ownerOf_WRP_CNT_CLR n) hn)),
      Cleared.of_counts t s (by simp [Fld.apart]) (by simp)⟩
  case weft =>
    exact ⟨_, congrArg Host.Outcome.next (if_neg (State.not_gone_of (ownerOf_WFT_CNT_CLR n) hn)),
      Cleared.of_counts_max t s (by simp [Fld.apart]) (by simp)⟩
  case shuttle =>
    exact ⟨_, congrArg Host.Outcome.next (if_neg (State.not_gone_of (ownerOf_SHT_CNT_CLR n) hn)),
      Cleared.of_counts t s (by simp [Fld.apart]) (by simp)⟩
  case bank => exact ⟨_, congrArg Host.Outcome.next (if_pos hb), State.bankClear_cleared t s b⟩
  case diag => exact ⟨_, congrArg Host.Outcome.next (if_pos hb), Cleared.of_counts t s (by simp [Fld.apart]) (by simp)⟩
  case seq => exact ⟨_, congrArg Host.Outcome.next (if_pos hk), Cleared.of_counts t s (by simp [Fld.apart]) (by simp)⟩
  case monitor => exact ⟨_, rfl, Cleared.of_counts t s (by simp [Fld.apart]) (by simp)⟩
  case refused =>
    rintro c (⟨n, hn, rfl⟩ | ⟨n, hn, rfl⟩ | ⟨n, hn, rfl⟩ | ⟨b, hb, rfl | rfl⟩ | ⟨k, hk, rfl⟩)
    · exact refused_of_wrej (congrArg Host.Outcome.next (if_pos (State.gone_of (ownerOf_WRP_CNT_CLR n) hn)))
    · exact refused_of_wrej (congrArg Host.Outcome.next (if_pos (State.gone_of (ownerOf_WFT_CNT_CLR n) hn)))
    · exact refused_of_wrej (congrArg Host.Outcome.next (if_pos (State.gone_of (ownerOf_SHT_CNT_CLR n) hn)))
    · exact refused_of_wrej (congrArg Host.Outcome.next (if_neg (by simp [hb])))
    · exact refused_of_wrej (congrArg Host.Outcome.next (if_neg (by simp [hb])))
    · exact refused_of_wrej (congrArg Host.Outcome.next (if_neg (by simp [hk])))

/-! ### Services and links -/

/-- The latencies are two largest values. -/
theorem State.latClear_cleared (t : Word) (s : State) :
    Cleared [] [Reg.SYS_LAT_COMMIT, Reg.SYS_LAT_TOOTH] t s (s.at t).latClear := by
  rw [State.latClear, State.clearMax_eq, State.clearMax_eq, State.maximaLeft_setAll, ← State.setAll_append]
  exact Cleared.of_setAll (.refl _) (by simp [Fld.apart]) (by simp)

/-- The counters of a link block (Link registers). -/
def lnkCounters : LnkBlock → List Fld
  | .hspi => [Reg.LNK_HSPI_CRCERR, Reg.LNK_HSPI_LENERR, Reg.LNK_HSPI_LATES]
  | .can c => [Reg.CAN_CNT_RXOVF c, Reg.CAN_CNT_RESDROP c, Reg.CAN_CNT_RTR c]
  | .eth p => [Reg.ETH_CNT_RXFRAMES p]
  | .str k => [Reg.STR_STAT_DROPS k]

theorem State.linkClear_eq (s : State) (which : LnkBlock) : s.linkClear which = s.clearCounts (lnkCounters which) := by
  cases which <;> rfl

/-- A clear word of an instantiated link block clears its counters. -/
theorem does_lnkCntClr {t : Word} {s : State} {which : LnkBlock} (h : s.hasTile 0x11 (lnkTile which) = true) :
    Does (.lnkCntClr t which) s (Cleared (lnkCounters which) [] t s) := by
  have hne : ¬ (s.at t).gone (lnkClearWord which) = true := State.not_gone_of (ownerOf_lnkClearWord which) h
  refine ⟨_, congrArg Host.Outcome.next (if_neg hne), ?_⟩
  rw [State.linkClear_eq]
  exact Cleared.of_counts t s (by cases which <;> simp [lnkCounters, Fld.apart]) (by cases which <;> simp [lnkCounters])

theorem refused_lnkCntClr {t : Word} {s : State} {which : LnkBlock} (h : s.hasTile 0x11 (lnkTile which) = false) :
    Refused (.lnkCntClr t which) s :=
  refused_of_wrej (congrArg Host.Outcome.next (if_pos (State.gone_of (ownerOf_lnkClearWord which) h)))

/-- The tile type, index and counters of a service tile (R483). -/
def svcBlock : SvcTile → Nat × Nat × List Fld
  | .cmb j => (8, j, cmbCounters j)
  | .map q => (9, q, mapCounters q)
  | .rail => (0x0B, 0, railCounters)

theorem State.serviceClear_eq (s : State) (which : SvcTile) : s.serviceClear which
    = if s.hasTile (svcBlock which).1 (svcBlock which).2.1 then s.clearCounts (svcBlock which).2.2 else s.wrej := by
  cases which <;> rfl

/-- A clear word of an instantiated service tile clears its counters. -/
theorem does_serviceCntClr {t : Word} {s : State} {which : SvcTile}
    (h : s.hasTile (svcBlock which).1 (svcBlock which).2.1 = true) :
    Does (.serviceCntClr t which) s (Cleared (svcBlock which).2.2 [] t s) := by
  refine ⟨_, congrArg Host.Outcome.next ((State.serviceClear_eq (s.at t) which).trans (if_pos h)), ?_⟩
  exact Cleared.of_counts t s (by cases which <;> simp [svcBlock, cmbCounters, mapCounters, railCounters, Fld.apart])
    (by cases which <;> simp [svcBlock, cmbCounters, mapCounters, railCounters])

theorem refused_serviceCntClr {t : Word} {s : State} {which : SvcTile}
    (h : s.hasTile (svcBlock which).1 (svcBlock which).2.1 = false) : Refused (.serviceCntClr t which) s :=
  refused_of_wrej (congrArg Host.Outcome.next ((State.serviceClear_eq (s.at t) which).trans
    (if_neg (Bool.eq_false_iff.1 h))))

/-- Settles O8: each clear is the counts and largest values of its unit, a refused one sets WREJ. -/
theorem serviceAndLinkClears : Obligations.ServiceAndLinkClears := by
  intro t s
  refine ⟨⟨_, rfl, State.latClear_cleared t s⟩, ⟨_, rfl, Cleared.of_counts t s (by simp [Fld.apart]) (by simp)⟩,
    fun h => ?strand, fun h => ?proex, fun c h => ?dma, fun h => does_lnkCntClr (which := .hspi) h,
    fun c h => does_lnkCntClr (which := .can c) h, fun p h => does_lnkCntClr (which := .eth p) h,
    fun k h => does_lnkCntClr (which := .str k) h, fun j h => does_serviceCntClr (which := .cmb j) h,
    fun q h => does_serviceCntClr (which := .map q) h, fun h => does_serviceCntClr (which := .rail) h, ?refused⟩
  case strand =>
    exact ⟨_, congrArg Host.Outcome.next (if_neg (State.not_gone_of ownerOf_REC_CNT_CLR h)),
      Cleared.of_counts t s (by simp [Fld.apart]) (by simp)⟩
  case proex =>
    exact ⟨_, congrArg Host.Outcome.next (if_neg (State.not_gone_of ownerOf_PRX_CNT_CLR h)),
      Cleared.of_counts_max t s (by simp [Fld.apart]) (by simp)⟩
  case dma => exact ⟨_, congrArg Host.Outcome.next (if_pos h), Cleared.of_counts t s (by simp [Fld.apart]) (by simp)⟩
  case refused =>
    rintro c (⟨h, rfl⟩ | ⟨h, rfl⟩ | ⟨h, k, rfl⟩ | ⟨j, h, rfl⟩ | ⟨q, h, rfl⟩ | ⟨h, rfl⟩ | ⟨h, rfl⟩ | ⟨k, h, rfl⟩ | ⟨p, h, rfl⟩
      | ⟨h, k, rfl⟩)
    · exact refused_of_wrej (congrArg Host.Outcome.next (if_pos (State.gone_of ownerOf_REC_CNT_CLR h)))
    · exact refused_of_wrej (congrArg Host.Outcome.next (if_pos (State.gone_of ownerOf_PRX_CNT_CLR h)))
    · exact refused_of_wrej (congrArg Host.Outcome.next (if_neg (Bool.eq_false_iff.1 h)))
    · exact refused_serviceCntClr h
    · exact refused_serviceCntClr h
    · exact refused_serviceCntClr h
    · exact refused_lnkCntClr h
    · exact refused_lnkCntClr h
    · exact refused_lnkCntClr h
    · exact refused_lnkCntClr h

end Sys2Proof.Machine
end

section
/-!
PROOF. The slack governor (R53 to R57): what a sample writes and keeps, the two steps of VCORE, and the obligation on them.
-/
namespace Sys2Proof.Machine

/-! ### A sample -/

section
variable (s : State) (t : Word) (ps : List Nat)

/-- What the sample `ps` at `t` leaves in the governor (R53 to R56). -/
def State.govTakes (risk : Bool) : Governor :=
  { s.gov with
    hist := recentSamples t s.gov.hist ++ [(t, worstReplica ps)]
    overUp := ps.any (fun p => decide (s.get Reg.SYS_GOV_CTRL_GOV_UP < p))
    slack := risk
    belowSince := if ps.all (fun p => decide (p < s.get Reg.SYS_GOV_CTRL_GOV_DOWN)) then some (s.gov.belowSince.getD t) else none }

/-- The worst replica of the last millisecond with this sample (Table 1.16). -/
def State.worstNow : Nat × Nat := worstSample (recentSamples t s.gov.hist ++ [(t, worstReplica ps)])

/-- A sample with the governor's registers written; SLACK_LOW sticks where the sample is at risk. -/
def State.govSampled (risk : Bool) : State :=
  let s₁ : State := { s with gov := s.govTakes t ps risk }
  let s₂ := (s₁.set Reg.SYS_GOV_WORST_PCT (satU 8 (s.worstNow t ps).1)).set Reg.SYS_GOV_WORST_REG (s.worstNow t ps).2
  if risk then s₂.stick Reg.SYS_GOV_SLACK_LOW 1 else s₂

theorem State.govSampled_gov (risk : Bool) : (s.govSampled t ps risk).gov = s.govTakes t ps risk := by
  unfold State.govSampled
  split <;> rfl

theorem State.govSampled_causes (risk : Bool) : (s.govSampled t ps risk).causes = s.causes := by
  unfold State.govSampled
  split <;> rfl

theorem State.govSampled_slackLow (risk : Bool) :
    (s.govSampled t ps risk).get Reg.SYS_GOV_SLACK_LOW = if risk then 1 else s.get Reg.SYS_GOV_SLACK_LOW := by
  unfold State.govSampled
  split
  · exact State.get_stick_bit _ _ (by decide) rfl
  · exact (State.get_set_ne _ _ _ _ (by decide)).trans (State.get_set_ne _ _ _ _ (by decide))

theorem State.govSampled_vcode (risk : Bool) :
    (s.govSampled t ps risk).get Reg.SYS_GOV_VCODE = s.get Reg.SYS_GOV_VCODE := by
  unfold State.govSampled
  split
  · refine (State.get_stick_ne _ _ _ _ (by decide)).trans ?_
    exact (State.get_set_ne _ _ _ _ (by decide)).trans (State.get_set_ne _ _ _ _ (by decide))
  · exact (State.get_set_ne _ _ _ _ (by decide)).trans (State.get_set_ne _ _ _ _ (by decide))

/-- A sample writes SYS_GOV alone. -/
theorem State.govSampled_reg (risk : Bool) {a : Nat} (h : a ≠ Reg.SYS_GOV_addr) :
    (s.govSampled t ps risk).reg a = s.reg a := by
  unfold State.govSampled
  split
  · refine (State.reg_stick_ne _ _ _ h).trans ?_
    exact (State.reg_set_ne _ _ _ h).trans (State.reg_set_ne _ _ _ h)
  · exact (State.reg_set_ne _ _ _ h).trans (State.reg_set_ne _ _ _ h)

end

/-- A replica is at risk: VCORE is at 0.90 V and one is at 95 % or more (R56). -/
def State.atRisk (s : State) (ps : List Nat) : Bool :=
  decide (s.get Reg.SYS_GOV_VCODE = 30) && ps.any (fun p => decide (95 ≤ p))

theorem exec_governorSample (t : Word) (pcts : Vector Nat 16) (s : State) : exec (.governorSample t pcts) s
    = .next (if s.atRisk pcts.toList && !s.gov.slack then
        ((s.at t).govSampled t pcts.toList (s.atRisk pcts.toList)).cause 4 (s.worstNow t pcts.toList).2
      else (s.at t).govSampled t pcts.toList (s.atRisk pcts.toList)).cutWatch := rfl

/-- The report of a risk, and the watch over the cuts, write no register and leave the governor. -/
theorem State.govTold_rest (s : State) (b : Bool) (region : Nat) : let s' := (if b then s.cause 4 region else s).cutWatch
    (∀ f, s'.get f = s.get f) ∧ (∀ a, s'.reg a = s.reg a) ∧ s'.gov = s.gov
      ∧ s'.causes = s.causes ++ (if b then [(4, region)] else []) := by
  cases b
  · exact ⟨fun _ => rfl, fun _ => rfl, rfl, (List.append_nil _).symm⟩
  · exact ⟨fun _ => rfl, fun _ => rfl, rfl, rfl⟩

/-! ### Steps of VCORE -/

/-- The governor may raise VCORE (R53, R55, R57). -/
def State.mayRaise (s : State) (t : Word) : Prop :=
  s.gov.on = true ∧ s.gov.overUp = true ∧ (∀ r, s.gov.lastRaise = some r → 2 * us ≤ elapsed r t)
    ∧ s.get Reg.SYS_GOV_VCODE < 30

/-- The governor may lower VCORE (R54, R55, R57). -/
def State.mayLower (s : State) (t : Word) : Prop :=
  s.gov.on = true ∧ (∃ b, s.gov.belowSince = some b ∧ ms ≤ elapsed b t)
    ∧ (∀ r, s.gov.lastLower = some r → 100 * us ≤ elapsed r t) ∧ 0 < s.get Reg.SYS_GOV_VCODE

theorem State.mayRaise_iff (s : State) (t : Word) : s.mayRaise t ↔
    (s.gov.on && s.gov.overUp && s.gov.lastRaise.all (fun r => decide (2 * us ≤ elapsed r t))
      && decide (s.get Reg.SYS_GOV_VCODE < 30)) = true := by
  simp [State.mayRaise, and_assoc, Option.all_eq_true]

theorem State.mayLower_iff (s : State) (t : Word) : s.mayLower t ↔
    (s.gov.on && s.gov.belowSince.any (fun b => decide (ms ≤ elapsed b t))
      && s.gov.lastLower.all (fun r => decide (100 * us ≤ elapsed r t)) && decide (0 < s.get Reg.SYS_GOV_VCODE)) = true := by
  simp [State.mayLower, and_assoc, Option.all_eq_true, Option.any_eq_true]

/-- Settles O10: a sample goes through `govSampled`, a step of VCORE is one write of VCODE. -/
theorem slackGovernor : Obligations.SlackGovernor := by
  intro t s
  refine ⟨fun pcts => ?sample, ⟨fun h => ?raise, fun h => ?noRaise⟩, ⟨fun h => ?lower, fun h => ?noLower⟩⟩
  case sample =>
    obtain ⟨hget, hreg, hgov, hcauses⟩ :=
      State.govTold_rest ((s.at t).govSampled t pcts.toList (s.atRisk pcts.toList))
        (s.atRisk pcts.toList && !s.gov.slack) (s.worstNow t pcts.toList).2
    have hgov' := hgov.trans ((s.at t).govSampled_gov t pcts.toList (s.atRisk pcts.toList))
    refine ⟨_, exec_governorSample t pcts s, (hget _).trans (State.govSampled_slackLow ..), ?_,
      ⟨(s.worstNow t pcts.toList).2, ?_⟩, ?_, ?_, (hget _).trans (State.govSampled_vcode ..),
      fun a ha => (hreg a).trans (State.govSampled_reg _ _ _ _ ha)⟩
    · rw [hgov']; rfl
    · rw [hcauses, State.govSampled_causes]
      refine congrArg (s.causes ++ ·) (if_congr ?_ rfl rfl)
      rw [Bool.and_eq_true, Bool.not_eq_true']
      exact Iff.rfl
    · rw [hgov']; rfl
    · rw [hgov']
      simp only [State.govTakes, List.all_eq_true, decide_eq_true_eq]
      rfl
  case raise =>
    refine ⟨_, congrArg Host.Outcome.next (if_pos ((s.mayRaise_iff t).1 h)), ?_, rfl, fun a ha => ?_⟩
    · refine (State.get_inc (s.at t) _ (by decide)).trans (Nat.min_eq_left ?_)
      have hv : s.get Reg.SYS_GOV_VCODE < 30 := h.2.2.2
      exact Nat.le_of_lt_succ (Nat.lt_of_lt_of_le (Nat.succ_lt_succ hv) (by decide))
    · exact State.reg_inc_ne (s.at t) Reg.SYS_GOV_VCODE ha
  case noRaise => exact congrArg Host.Outcome.next (if_neg fun hb => h ((s.mayRaise_iff t).2 hb))
  case lower =>
    have hpos : 0 < s.get Reg.SYS_GOV_VCODE := h.2.2.2
    have hlt := s.get_lt Reg.SYS_GOV_VCODE
    refine ⟨_, congrArg Host.Outcome.next (if_pos ((s.mayLower_iff t).1 h)), ?_, rfl, fun a ha => ?_⟩
    · have hget : ((s.at t).set Reg.SYS_GOV_VCODE (s.get Reg.SYS_GOV_VCODE - 1)).get Reg.SYS_GOV_VCODE
          = s.get Reg.SYS_GOV_VCODE - 1 := State.get_set_of_lt _ _ (by decide) (by omega)
      exact (congrArg (· + 1) hget).trans (Nat.sub_add_cancel hpos)
    · exact State.reg_set_ne (s.at t) Reg.SYS_GOV_VCODE _ ha
  case noLower => exact congrArg Host.Outcome.next (if_neg fun hb => h ((s.mayLower_iff t).2 hb))

end Sys2Proof.Machine
end

section
/-!
PROOF. The weave commands and the ends of its long operations (R91 to R116): commands that are accepted or refused, how a load
ends, what a verification shows, stores erased and programmed, a ply mirrored to flash, and the obligations on them.
-/
namespace Sys2Proof.Machine

/-! ### Commands that are refused -/

/-- A refused weave command sets CMD_REJ, changes no other register and leaves the weave. -/
def WeaveRefused (c : Instr) (s : State) : Prop :=
  Does c s (fun s' => s'.get Reg.WVE_STATUS_CMD_REJ = 1 ∧ s'.weave = s.weave
    ∧ ∀ a, a ≠ Reg.WVE_STATUS_addr → s'.reg a = s.reg a)

theorem weaveRefused_of_cmdRej {c : Instr} {s : State} {t : Word} (h : exec c s = .next (s.at t).cmdRej) :
    WeaveRefused c s :=
  ⟨_, h, State.get_stick_bit (s.at t) _ (by decide) rfl, rfl, fun _ ha => State.reg_stick_ne (s.at t) _ 1 ha⟩

section
variable {t : Word} {s : State}

theorem State.busy_of_or (h : s.running = true ∨ s.weave.loading = true) :
    ((s.at t).running || (s.at t).weave.loading) = true := Bool.or_eq_true_iff.2 h

theorem State.not_busy (hr : s.running = false) (hl : s.weave.loading = false) :
    ¬ ((s.at t).running || (s.at t).weave.loading) = true := by
  intro h
  rcases Bool.or_eq_true_iff.1 h with h | h
  · exact Bool.false_ne_true (hr.symm.trans h)
  · exact Bool.false_ne_true (hl.symm.trans h)

theorem doErase_refuses {n : Nat} (h : (s.at t).running = true ∨ (s.at t).weave.loading = true ∨ n = 3) :
    (s.at t).doErase n = (s.at t).cmdRej := by
  refine if_pos ?_
  simp only [Bool.or_eq_true, decide_eq_true_eq]
  tauto

theorem weaveRefused_erase {p : Fin 4} (h : s.running = true ∨ s.weave.loading = true ∨ p.val = 3) :
    WeaveRefused (.erase t p) s :=
  weaveRefused_of_cmdRej (congrArg Host.Outcome.next (doErase_refuses h))

theorem weaveRefused_mirror {p : Fin 4} (h : ¬ (s.wstate = stLoaded ∨ s.wstate = stRunning) ∨ p.val = 3) :
    WeaveRefused (.mirror t p) s := by
  refine weaveRefused_of_cmdRej (t := t) (congrArg Host.Outcome.next (if_neg ?_))
  rintro ⟨hw, hp⟩
  exact h.elim (fun h => h hw) hp

theorem weaveRefused_runLoom
    (h : s.wstate ≠ stLoaded ∨ s.get Reg.SAF_STAT_STATE = 4 ∨ (s.at t).headlandFirst = true) :
    WeaveRefused (.runLoom t) s := by
  refine weaveRefused_of_cmdRej (t := t) (congrArg Host.Outcome.next (if_neg ?_))
  rintro ⟨hw, hh, hf⟩
  rcases h with h | h | h
  · exact h hw
  · exact hh h
  · exact Bool.false_ne_true (hf.symm.trans h)

end

/-- Settles O11: an accepted command is one update of the weave, a refused one is `cmdRej`. -/
theorem weaveCommands : Obligations.WeaveCommands := by
  intro t s
  refine ⟨fun hr hl => ?load, fun hw hh hf => ?run, fun hr hl => ?verify, fun p hr hl hp => ?erase, fun p hw hp => ?mirror,
    fun h => ⟨?_, ?_, fun p => ?_⟩, weaveRefused_runLoom, fun h p => weaveRefused_mirror (.inl h),
    weaveRefused_erase (.inr (.inr rfl)), weaveRefused_mirror (.inr rfl), fun code p => ⟨fun h => ?_, fun h => ?_⟩⟩
  case load =>
    refine ⟨_, congrArg Host.Outcome.next (if_neg (State.not_busy hr hl)), ?_, rfl,
      fun a ha => State.reg_set_ne (s.at t) Reg.WVE_STATUS_STATE _ ha⟩
    exact State.get_set_of_lt (s.at t) Reg.WVE_STATUS_STATE (by decide) (by decide)
  case run => exact ⟨_, congrArg Host.Outcome.next (if_pos ⟨hw, hh, hf⟩), rfl, rfl⟩
  case verify => exact ⟨_, congrArg Host.Outcome.next (if_neg (State.not_busy hr hl)), rfl, rfl⟩
  case erase =>
    refine ⟨_, congrArg Host.Outcome.next (if_neg ?_), rfl, rfl⟩
    rw [Bool.or_eq_true, decide_eq_true_eq]
    exact not_or.2 ⟨State.not_busy hr hl, hp⟩
  case mirror =>
    refine ⟨_, congrArg Host.Outcome.next (if_pos ⟨hw, hp⟩), rfl, ?_,
      fun a ha => State.reg_set_ne (s.at t) Reg.WVE_STATUS_MIRROR_BUSY _ ha⟩
    exact State.get_set_of_lt (s.at t) Reg.WVE_STATUS_MIRROR_BUSY (by decide) (by decide)
  · exact weaveRefused_of_cmdRej (congrArg Host.Outcome.next (if_pos (State.busy_of_or h)))
  · exact weaveRefused_of_cmdRej (congrArg Host.Outcome.next (if_pos (State.busy_of_or h)))
  · exact weaveRefused_erase (h.imp_right .inl)
  · exact weaveRefused_of_cmdRej (congrArg Host.Outcome.next (if_pos h))
  · exact congrArg Host.Outcome.next (if_neg h)

/-! ### How a load ends -/

/-- The state after a load's end: it runs no more, and STATE tells how it ended. -/
def State.loadOver (s : State) : Prop := s.weave.loading = false ∧ s.wstate ∈ [stLoaded, stNoPly, stConflict, stFault]

theorem State.loadFailed_over (s : State) {st : Nat} (h : st ∈ [stNoPly, stConflict, stFault]) : (s.loadFailed st).loadOver := by
  have hst : st < 2 ^ Reg.WVE_STATUS_STATE.wid := by revert st; decide
  have hw : (s.loadFailed st).wstate = st := State.get_set_of_lt s Reg.WVE_STATUS_STATE (by decide) hst
  exact ⟨rfl, by rw [hw]; exact List.mem_cons_of_mem _ h⟩

theorem State.loaded_over (s : State) (p : PlySrc) : (s.loaded p).loadOver := by
  have hw : (s.loaded p).wstate = stLoaded :=
    (State.get_set_ne (s.resetEvent.set Reg.WVE_STATUS_STATE stLoaded) Reg.SYS_STATUS_LEVEL Reg.WVE_STATUS_STATE _
      (.inl (by decide))).trans (State.get_set_of_lt _ _ (by decide) (by decide))
  exact ⟨rfl, by rw [hw]; exact List.mem_cons_self⟩

theorem State.loadPly_over (s : State) (p : PlySrc) (ra rb : Word) : (s.loadPly p ra rb).loadOver := by
  unfold State.loadPly
  extract_lets base
  split
  · exact State.loadFailed_over _ (st := stFault) (by decide)
  · exact State.loaded_over _ p

theorem State.finishLoad_over (s : State) (ra rb : Word) : (s.finishLoad ra rb).loadOver := by
  unfold State.finishLoad
  extract_lets s₁ s₂ none'
  cases s₂.selectPly with
  | none => exact State.loadFailed_over none' (st := stNoPly) (by decide)
  | conflict => exact State.loadFailed_over none' (st := stConflict) (by decide)
  | ply p => exact State.loadPly_over s₂ p ra rb

/-! ### Plies shown and stored -/

/-- Shows the check of ply `n` in WVE_PLYn. -/
def State.showPly (s : State) (n : Nat) : State :=
  ((s.set (Reg.WVE_PLY_STATE n) (s.plyCheck (.chip n)).state).set (Reg.WVE_PLY_REASON n) (s.plyCheck (.chip n)).reason).set
    (Reg.WVE_PLY_GEN n) (s.plyCheck (.chip n)).gen

theorem State.checkPlies_eq (s : State) : s.checkPlies = ((s.showPly 0).showPly 1).showPly 2 := rfl

theorem State.set_plyCheck (s : State) (f : Fld) (v : Nat) (p : PlySrc) : (s.set f v).plyCheck p = s.plyCheck p := rfl

theorem State.showPly_plyCheck (s : State) (n : Nat) (p : PlySrc) : (s.showPly n).plyCheck p = s.plyCheck p := by
  rw [State.showPly, State.set_plyCheck, State.set_plyCheck, State.set_plyCheck]

theorem State.plyCheck_codes (s : State) (p : PlySrc) : (s.plyCheck p).state < 4 ∧ (s.plyCheck p).reason < 16 := by
  unfold State.plyCheck
  extract_lets w gen
  split_ifs <;> simp

/-- WVE_PLYn shows the check of ply `n`. -/
def State.showsPly (s : State) (n : Nat) (c : PlyCheck) : Prop :=
  s.get (Reg.WVE_PLY_STATE n) = c.state ∧ s.get (Reg.WVE_PLY_REASON n) = c.reason

theorem State.showPly_shows (s : State) (n : Nat) : (s.showPly n).showsPly n (s.plyCheck (.chip n)) := by
  obtain ⟨hs, hr⟩ := s.plyCheck_codes (.chip n)
  constructor
  · refine (State.get_set_ne _ _ _ _ (by simp)).trans ((State.get_set_ne _ _ _ _ (by simp)).trans ?_)
    exact State.get_set_of_lt s _ (by simp) hs
  · refine (State.get_set_ne _ _ _ _ (by simp)).trans ?_
    exact State.get_set_of_lt _ _ (by simp) hr

theorem State.showPly_reg (s : State) (n : Nat) {a : Nat} (h : a ≠ Reg.WVE_PLY_addr n) : (s.showPly n).reg a = s.reg a :=
  (State.reg_set_ne _ _ _ h).trans ((State.reg_set_ne _ _ _ h).trans (State.reg_set_ne _ _ _ h))

theorem State.showsPly_showPly {s : State} {n m : Nat} {c : PlyCheck} (h : s.showsPly n c) (hm : n ≠ m) :
    (s.showPly m).showsPly n c := by
  have hreg : (s.showPly m).reg (Reg.WVE_PLY_addr n) = s.reg (Reg.WVE_PLY_addr n) := s.showPly_reg m (by simpa using hm)
  exact ⟨(State.get_congr hreg).trans h.1, (State.get_congr hreg).trans h.2⟩

/-- A check of the plies shows what it finds of each. -/
theorem State.checkPlies_shows (s : State) {n : Nat} (hn : n < 3) : s.checkPlies.showsPly n (s.plyCheck (.chip n)) := by
  rw [State.checkPlies_eq]
  obtain rfl | rfl | rfl : n = 0 ∨ n = 1 ∨ n = 2 := by omega
  · exact State.showsPly_showPly (State.showsPly_showPly (s.showPly_shows 0) (by omega)) (by omega)
  · have h := (s.showPly 0).showPly_shows 1
    rw [State.showPly_plyCheck] at h
    exact State.showsPly_showPly h (by omega)
  · have h := ((s.showPly 0).showPly 1).showPly_shows 2
    rw [State.showPly_plyCheck, State.showPly_plyCheck] at h
    exact h

/-! ### Words of the weave store -/

@[simp] theorem State.plyGet_plySet (s : State) (n a : Nat) (w : Word) : (s.plySet n a w).plyGet n a = w := by
  unfold State.plySet State.plyGet
  split_ifs <;> exact Cells.get_set_same ..

theorem State.plyGet_plySet_ne (s : State) (n : Nat) {a b : Nat} (w : Word) (h : b ≠ a) :
    (s.plySet n a w).plyGet n b = s.plyGet n b := by
  unfold State.plySet State.plyGet
  split_ifs <;> exact Cells.get_set_ne _ _ _ h

@[simp] theorem State.plySet_regs (s : State) (n a : Nat) (w : Word) : (s.plySet n a w).regs = s.regs := by
  unfold State.plySet
  split_ifs <;> rfl

@[simp] theorem State.plySet_weave (s : State) (n a : Nat) (w : Word) : (s.plySet n a w).weave = s.weave := by
  unfold State.plySet
  split_ifs <;> rfl

/-- Words of a ply put to 0 one after the other. -/
theorem State.foldl_plySet_zero (n : Nat) (l : List Nat) (s : State) (k : Nat) :
    (l.foldl (fun s k => s.plySet n k 0) s).plyGet n k = if k ∈ l then 0 else s.plyGet n k := by
  induction l generalizing s with
  | nil => simp
  | cons a l ih =>
    rw [List.foldl_cons, ih]
    by_cases hka : k = a
    · subst hka; simp
    · simp [hka, State.plyGet_plySet_ne]

/-! ### Bytes of flash -/

theorem State.flashGet_flashSet (s : State) (a : Nat) {v : Nat} (hv : v < 256) : (s.flashSet a v).flashGet a = v := by
  rw [State.flashGet, State.flashSet, Cells.get_set_same, BitVec.toNat_ofNat, Nat.mod_eq_of_lt hv]

theorem State.flashGet_flashSet_ne (s : State) {a b : Nat} (v : Nat) (h : b ≠ a) : (s.flashSet a v).flashGet b = s.flashGet b := by
  rw [State.flashGet, State.flashSet, Cells.get_set_ne _ _ _ h, State.flashGet]

theorem State.plyByte_lt (s : State) (p : PlySrc) (k : Nat) : s.plyByte p k < 256 := by
  cases p with
  | chip n => exact Nat.mod_lt _ (by omega)
  | flash n => exact (s.flash.get flashDefault _).isLt

theorem State.mirrorCopy_step (s : State) (p : PlySrc) (base n : Nat) :
    s.mirrorCopy p base (n + 1) = (s.mirrorCopy p base n).flashSet (base + n) ((s.mirrorCopy p base n).plyByte p n) := by
  rw [State.mirrorCopy, List.range_succ, List.foldl_append]
  rfl

theorem State.mirrorCopy_flashGet_ne (s : State) (p : PlySrc) (base n : Nat) {a : Nat} (h : ¬ (base ≤ a ∧ a < base + n)) :
    (s.mirrorCopy p base n).flashGet a = s.flashGet a := by
  induction n with
  | zero => rfl
  | succ n ih =>
    rw [State.mirrorCopy_step, State.flashGet_flashSet_ne _ _ (by omega)]
    exact ih (by omega)

@[simp] theorem State.mirrorCopy_plyGet (s : State) (p : PlySrc) (base n m k : Nat) :
    (s.mirrorCopy p base n).plyGet m k = s.plyGet m k :=
  State.foldl_reading (·.plyGet m k) (f := fun s k => s.flashSet (base + k) (s.plyByte p k)) (fun _ _ => rfl) _ s

@[simp] theorem State.mirrorCopy_reg (s : State) (p : PlySrc) (base n a : Nat) : (s.mirrorCopy p base n).reg a = s.reg a :=
  State.foldl_reading (·.reg a) (f := fun s k => s.flashSet (base + k) (s.plyByte p k)) (fun _ _ => rfl) _ s

@[simp] theorem State.mirrorCopy_weave (s : State) (p : PlySrc) (base n : Nat) : (s.mirrorCopy p base n).weave = s.weave :=
  State.foldl_reading (·.weave) (f := fun s k => s.flashSet (base + k) (s.plyByte p k)) (fun _ _ => rfl) _ s

/-- A copy has not written the byte that it reads next: plies of flash lie a whole ply apart, and one copied onto itself is written
below that byte. -/
theorem State.mirrorCopy_plyByte (s : State) (p : PlySrc) (dst : Nat) {n : Nat} (hn : n < 0x20000) :
    (s.mirrorCopy p (0x20000 * dst) n).plyByte p n = s.plyByte p n := by
  cases p with
  | chip m => exact congrArg (byteOf · (n % 6)) (State.mirrorCopy_plyGet ..)
  | flash m => exact State.mirrorCopy_flashGet_ne s _ _ n (by omega)

/-- The copy has the bytes of the ply. -/
theorem State.mirrorCopy_flashGet (s : State) (p : PlySrc) (dst : Nat) {n k : Nat} (hn : n ≤ 0x20000) (hk : k < n) :
    (s.mirrorCopy p (0x20000 * dst) n).flashGet (0x20000 * dst + k) = s.plyByte p k := by
  induction n with
  | zero => omega
  | succ n ih =>
    rw [State.mirrorCopy_step]
    by_cases hkn : k = n
    · subst hkn
      rw [State.flashGet_flashSet _ _ (State.plyByte_lt ..), State.mirrorCopy_plyByte s p dst (by omega)]
    · rw [State.flashGet_flashSet_ne _ _ (by omega)]
      exact ih (by omega) (by omega)

/-! ### The commands -/

theorem State.withWeave_get (s : State) (w : Weave) (f : Fld) : ({ s with weave := w } : State).get f = s.get f := rfl

theorem State.at_plyCheck (s : State) (t : Word) (p : PlySrc) : (s.at t).plyCheck p = s.plyCheck p := rfl

section
variable {t : Word} {s : State}

theorem exec_eraseDone_ends {n : Nat} {l : List Nat} (he : s.weave.erasing = n :: l) (hr : s.running = false) :
    exec (.eraseDone t) s = .next
      ([0, 1, 2, 3].foldl (fun s k => s.plySet n k 0) { s.at t with weave := { s.weave with erasing := l } }) := by
  have he' : (s.at t).weave.erasing = n :: l := he
  have hr' : ¬ (s.at t).running = true := Bool.eq_false_iff.1 hr
  change execEraseDone t s = _
  simp only [execEraseDone, he', if_neg hr']
  rfl

theorem exec_eraseDone_idles (h : s.weave.erasing = [] ∨ s.running = true) : Idles (.eraseDone t) s t := by
  change execEraseDone t s = _
  cases he : s.weave.erasing with
  | nil =>
    have he' : (s.at t).weave.erasing = [] := he
    simp only [execEraseDone, he']
  | cons n l =>
    have he' : (s.at t).weave.erasing = n :: l := he
    have hr' : (s.at t).running = true := h.resolve_left (by simp [he])
    simp only [execEraseDone, he', if_pos hr']

/-- The state after a MIRROR has copied its ply or found the flash off. -/
def State.mirrored (s : State) (j : MirrorJob) : State :=
  if s.flashUp then s.mirrorCopy (if j.onFlash then .flash j.src else .chip j.src) (0x20000 * j.dst) (6 * j.words) else s

theorem exec_mirrorDone_ends {j : MirrorJob} {l : List MirrorJob} (h : s.weave.mirror = j :: l) :
    exec (.mirrorDone t) s = .next { ((s.at t).mirrored j).flag Reg.WVE_STATUS_MIRROR_BUSY (!l.isEmpty) with
      weave := { ((s.at t).mirrored j).weave with mirror := l } } := by
  have h' : (s.at t).weave.mirror = j :: l := h
  change execMirrorDone t s = _
  simp only [execMirrorDone, h']
  rfl

theorem exec_mirrorDone_idles (h : s.weave.mirror = []) : Idles (.mirrorDone t) s t := by
  have h' : (s.at t).weave.mirror = [] := h
  change execMirrorDone t s = _
  simp only [execMirrorDone, h']

theorem State.mirrored_weave (s : State) (j : MirrorJob) : (s.mirrored j).weave = s.weave := by
  unfold State.mirrored
  split
  · exact State.mirrorCopy_weave ..
  · rfl

theorem State.mirrored_flashGet (s : State) (j : MirrorJob) (hj : j.words ≤ 21845) (hup : s.flashUp = true) {k : Nat}
    (hk : k < 6 * j.words) : (s.mirrored j).flashGet (0x20000 * j.dst + k)
      = if j.onFlash then s.flashGet (0x20000 * j.src + k) else byteOf (s.plyGet j.src (k / 6)) (k % 6) := by
  rw [State.mirrored, if_pos hup, State.mirrorCopy_flashGet s _ _ (by omega) hk]
  cases j.onFlash <;> rfl

theorem State.mirrored_flashGet_ne (s : State) (j : MirrorJob) {a : Nat}
    (h : ¬ (s.flashUp = true ∧ 0x20000 * j.dst ≤ a ∧ a < 0x20000 * j.dst + 6 * j.words)) :
    (s.mirrored j).flashGet a = s.flashGet a := by
  unfold State.mirrored
  split
  · exact State.mirrorCopy_flashGet_ne s _ _ _ fun hr => h ⟨‹_›, hr⟩
  · rfl

theorem exec_weaveProgramDone_ends {p a : Nat} {w : Word} (h : s.weave.prog = some (p, a, w)) (hr : s.running = false) :
    exec (.weaveProgramDone t) s = .next { (s.at t).plySet p a w with weave := { s.weave with prog := none } } := by
  have h' : (s.at t).weave.prog = some (p, a, w) := h
  have hr' : ¬ (s.at t).running = true := Bool.eq_false_iff.1 hr
  change execWeaveProgramDone t s = _
  simp only [execWeaveProgramDone, h', if_neg hr']
  rfl

theorem exec_weaveProgramDone_idles (h : s.weave.prog = none ∨ s.running = true) : Idles (.weaveProgramDone t) s t := by
  change execWeaveProgramDone t s = _
  cases hp : s.weave.prog with
  | none =>
    have hp' : (s.at t).weave.prog = none := hp
    simp only [execWeaveProgramDone, hp']
  | some x =>
    have hp' : (s.at t).weave.prog = some x := hp
    have hr' : (s.at t).running = true := h.resolve_left (by simp [hp])
    simp only [execWeaveProgramDone, hp', if_pos hr']

end

/-- Settles O12: each operation's end by the lemmas on its store. -/
theorem weaveOperationsEnd : Obligations.WeaveOperationsEnd := by
  intro t s
  refine ⟨fun h ra rb => ⟨_, congrArg Host.Outcome.next (if_pos h), State.finishLoad_over (s.at t) ra rb⟩,
    fun h ra rb => congrArg Host.Outcome.next (if_neg (Bool.eq_false_iff.1 h)), fun h => ?verify,
    fun h => congrArg Host.Outcome.next (if_neg (Bool.eq_false_iff.1 h)), fun n l he hr => ?erase, exec_eraseDone_idles,
    fun j l h hj => ?mirror, exec_mirrorDone_idles, fun p a w h hr => ?program, exec_weaveProgramDone_idles⟩
  case verify =>
    refine ⟨_, congrArg Host.Outcome.next (if_pos h), rfl, fun n hn => ?_⟩
    obtain ⟨hstate, hreason⟩ := State.checkPlies_shows (s.at t) hn
    rw [State.at_plyCheck] at hstate hreason
    exact ⟨(State.withWeave_get ..).trans hstate, (State.withWeave_get ..).trans hreason⟩
  case erase =>
    refine ⟨_, exec_eraseDone_ends he hr, ?_, fun k hk => ?_, fun k hk => ?_, ?_⟩
    · simp
    · rw [State.foldl_plySet_zero]
      exact if_pos (by simp only [List.mem_cons, List.not_mem_nil, or_false]; omega)
    · rw [State.foldl_plySet_zero, if_neg (by simp only [List.mem_cons, List.not_mem_nil, or_false]; omega)]
      rfl
    · simp
  case mirror =>
    refine ⟨_, exec_mirrorDone_ends h, ?_, fun hup k hk => State.mirrored_flashGet (s.at t) j hj hup hk,
      fun a ha => State.mirrored_flashGet_ne (s.at t) j ha, ?_⟩
    · rw [State.mirrored_weave]; rfl
    · refine (State.get_flag _ Reg.WVE_STATUS_MIRROR_BUSY _ (by decide) (by decide)).trans ?_
      cases l <;> rfl
  case program =>
    refine ⟨_, exec_weaveProgramDone_ends h hr, rfl, State.plyGet_plySet (s.at t) p a w,
      fun k hk => State.plyGet_plySet_ne (s.at t) p w hk, State.plySet_regs (s.at t) p a w⟩

/-! ### Writes of the weave store -/

/-- No word of the weave store is programmed, and no ply erased (R104, R106). -/
def State.storeIdle (s : State) : Prop := s.weave.prog = none ∧ s.weave.erasing = []

theorem State.storeIdle_iff (s : State) : s.storeIdle ↔ ¬ (s.weave.prog.isSome || !s.weave.erasing.isEmpty) = true := by
  simp [State.storeIdle]

section
variable {s : State} {p a : Nat} {w : Word}

theorem State.storeWrite_begins (dma : Bool) (hi : s.storeIdle) (hr : s.running = false) (hl : s.weave.loading = false) :
    (s.storeWrite dma p a w).1 = { s with weave := { s.weave with prog := some (p, a, w) } } := by
  have hb : ¬ (s.running || s.weave.loading) = true := State.not_busy (t := s.now) hr hl
  rw [State.storeWrite, if_neg (s.storeIdle_iff.1 hi), if_neg hb]

theorem State.storeWrite_occupied (hi : ¬ s.storeIdle) :
    (s.storeWrite false p a w).1 = (s.stick Reg.WVE_STATUS_PROG_BUSY 1).wrej ∧ (s.storeWrite true p a w).1 = s := by
  have hb : (s.weave.prog.isSome || !s.weave.erasing.isEmpty) = true := not_not.1 fun h => hi (s.storeIdle_iff.2 h)
  constructor <;> rw [State.storeWrite, if_pos hb] <;> rfl

theorem State.storeWrite_locked (dma : Bool) (hi : s.storeIdle) (hb : s.running = true ∨ s.weave.loading = true) :
    (s.storeWrite dma p a w).1 = if dma || s.plyGet p a == w then s else s.wrej := by
  rw [State.storeWrite, if_neg (s.storeIdle_iff.1 hi), if_pos (Bool.or_eq_true_iff.2 hb)]

end

/-! ### The scrub -/

theorem satU_lt (w x : Nat) : satU w x < 2 ^ w := by
  have := Nat.two_pow_pos w
  unfold satU
  omega


/-- The configuration cells of section `k` with the bits `upsets` changed (R108; log entry 137). -/
def State.scrubCells (s : State) (k : Nat) (upsets : List Nat) : List Nat :=
  upsets.foldl flipBit (s.weave.cells.getD (k - 1) [])

/-- The cells of section `k` do not have the section's signature (R108). -/
def State.scrubBad (s : State) (k : Nat) (cells : List Nat) : Bool :=
  decide ((s.weave.sigs.find? (fun x => decide (x.1 = k))).map Prod.snd ≠ some (crc32 cells))

/-- Section `k` is read, and the next one follows. -/
def State.scrubRead (s : State) (k : Nat) (cells : List Nat) : State :=
  { s with weave := { s.weave with cells := s.weave.cells.set (k - 1) cells, scrubNext := if k < 5 then k + 1 else 1 } }

/-- A section that is not its signature is named and reported (R109). -/
def State.scrubTold (s : State) (k : Nat) (bad : Bool) : State :=
  if bad then ((s.stick Reg.WVE_SCRUB_UPSET 1).set Reg.WVE_SCRUB_SECTION k).cause 5 0 else s

/-- Section 5 ends the pass (R108, R111). -/
def State.scrubPassed (s : State) (t : Word) (k : Nat) : State :=
  if k < 5 then s
  else
    { s.set Reg.WVE_SCRUB_PASS (satU 16 (heldTo us (elapsed s.weave.scrubStart t))) with
      weave := { s.weave with scrubStart := t } }

section
variable (s : State) (t : Word) (k : Nat)

theorem State.cause_reg (code idx a : Nat) : (s.cause code idx).reg a = s.reg a := rfl

theorem State.scrubTold_weave (bad : Bool) : (s.scrubTold k bad).weave = s.weave := by
  cases bad <;> rfl

theorem State.scrubTold_reg (bad : Bool) {a : Nat} (h : a ≠ Reg.WVE_SCRUB_addr) : (s.scrubTold k bad).reg a = s.reg a := by
  unfold State.scrubTold
  split
  · exact (State.cause_reg _ 5 0 a).trans ((State.reg_set_ne _ _ _ h).trans (State.reg_stick_ne _ _ _ h))
  · rfl

/-- A bad section sets UPSET and is named; cause 5 is reported. -/
theorem State.scrubTold_bad (hk : k < 2 ^ Reg.WVE_SCRUB_SECTION.wid) : let s' := s.scrubTold k true
    s'.get Reg.WVE_SCRUB_UPSET = 1 ∧ s'.get Reg.WVE_SCRUB_SECTION = k ∧ s'.causes = s.causes ++ [(5, 0)] :=
  ⟨(State.get_set_ne (s.stick Reg.WVE_SCRUB_UPSET 1) Reg.WVE_SCRUB_SECTION Reg.WVE_SCRUB_UPSET k (by decide)).trans
      (State.get_stick_bit s _ (by decide) rfl),
    State.get_set_of_lt (s.stick Reg.WVE_SCRUB_UPSET 1) Reg.WVE_SCRUB_SECTION (by decide) hk, rfl⟩

theorem State.scrubPassed_get {f : Fld} (hf : f = Reg.WVE_SCRUB_UPSET ∨ f = Reg.WVE_SCRUB_SECTION) :
    (s.scrubPassed t k).get f = s.get f := by
  unfold State.scrubPassed
  split
  · rfl
  · refine State.get_set_ne s Reg.WVE_SCRUB_PASS f _ ?_
    rcases hf with rfl | rfl <;> decide

theorem State.scrubPassed_causes : (s.scrubPassed t k).causes = s.causes := by
  unfold State.scrubPassed
  split <;> rfl

theorem State.scrubPassed_next : (s.scrubPassed t k).weave.scrubNext = s.weave.scrubNext := by
  unfold State.scrubPassed
  split <;> rfl

theorem State.scrubPassed_reg {a : Nat} (h : a ≠ Reg.WVE_SCRUB_addr) : (s.scrubPassed t k).reg a = s.reg a := by
  unfold State.scrubPassed
  split
  · rfl
  · exact State.reg_set_ne s Reg.WVE_SCRUB_PASS _ h

theorem State.scrubPassed_end : (s.scrubPassed t 5).weave.scrubStart = t
    ∧ (s.scrubPassed t 5).get Reg.WVE_SCRUB_PASS = satU 16 (heldTo us (elapsed s.weave.scrubStart t)) :=
  ⟨rfl, State.get_set_of_lt s Reg.WVE_SCRUB_PASS (by decide) (satU_lt 16 _)⟩

end

/-- Section `k` with the cells `cells` is read, judged and, at the end of the pass, timed. -/
def State.scrubbed (s : State) (t : Word) (k : Nat) (cells : List Nat) : State :=
  ((s.scrubRead k cells).scrubTold k (s.scrubBad k cells)).scrubPassed t k

section
variable (s : State) (t : Word) {k : Nat} {cells : List Nat}

theorem State.scrubbed_bad (hk : k ≤ 5) (hb : s.scrubBad k cells = true) : let s' := s.scrubbed t k cells
    s'.get Reg.WVE_SCRUB_UPSET = 1 ∧ s'.get Reg.WVE_SCRUB_SECTION = k ∧ s'.causes = s.causes ++ [(5, 0)] := by
  unfold State.scrubbed
  rw [hb]
  obtain ⟨hupset, hsection, hcauses⟩ := (s.scrubRead k cells).scrubTold_bad k (Nat.lt_of_le_of_lt hk (by decide))
  exact ⟨(State.scrubPassed_get _ t k (.inl rfl)).trans hupset, (State.scrubPassed_get _ t k (.inr rfl)).trans hsection,
    (State.scrubPassed_causes _ t k).trans hcauses⟩

theorem State.scrubbed_same (hb : s.scrubBad k cells = false) : let s' := s.scrubbed t k cells
    s'.get Reg.WVE_SCRUB_UPSET = s.get Reg.WVE_SCRUB_UPSET ∧ s'.get Reg.WVE_SCRUB_SECTION = s.get Reg.WVE_SCRUB_SECTION
      ∧ s'.causes = s.causes := by
  unfold State.scrubbed
  rw [hb]
  exact ⟨State.scrubPassed_get _ t k (.inl rfl), State.scrubPassed_get _ t k (.inr rfl), State.scrubPassed_causes _ t k⟩

theorem State.scrubbed_next : (s.scrubbed t k cells).weave.scrubNext = if k < 5 then k + 1 else 1 := by
  rw [State.scrubbed, State.scrubPassed_next, State.scrubTold_weave]
  rfl

theorem State.scrubbed_end (hk : k = 5) : (s.scrubbed t k cells).weave.scrubStart = t
    ∧ (s.scrubbed t k cells).get Reg.WVE_SCRUB_PASS = satU 16 (heldTo us (elapsed s.weave.scrubStart t)) := by
  subst hk
  have h := ((s.scrubRead 5 cells).scrubTold 5 (s.scrubBad 5 cells)).scrubPassed_end t
  rw [State.scrubTold_weave] at h
  exact h

theorem State.scrubbed_reg {a : Nat} (h : a ≠ Reg.WVE_SCRUB_addr) : (s.scrubbed t k cells).reg a = s.reg a := by
  rw [State.scrubbed, State.scrubPassed_reg _ t k h, State.scrubTold_reg _ k _ h]
  rfl

end

/-- It is the turn of section `k` (R108). -/
def State.scrubTurn (s : State) (k : Nat) : Bool := s.woven && !s.weave.loading && decide (k = s.weave.scrubNext)

theorem State.scrubTurn_iff (s : State) (k : Nat) :
    s.scrubTurn k = true ↔ (s.woven = true ∧ s.weave.loading = false) ∧ k = s.weave.scrubNext := by
  simp only [State.scrubTurn, Bool.and_eq_true, Bool.not_eq_true', decide_eq_true_eq]

theorem exec_scrubSectionEnd (t : Word) (sec : Fin 5) (upsets : List Nat) (s : State) : exec (.scrubSectionEnd t sec upsets) s
    = .next (if (s.at t).scrubTurn (sec.val + 1) then
        (s.at t).scrubbed t (sec.val + 1) ((s.at t).scrubCells (sec.val + 1) upsets) else s.at t) := rfl

/-! ### The check of the stored plies -/

/-- The report of ply `n`, when its state is not the one of `old` (R110). -/
def State.plyTold (t : Word) (old new : State) (x : State) (n : Nat) : State :=
  if new.get (Reg.WVE_PLY_STATE n) = old.get (Reg.WVE_PLY_STATE n) then x
  else x.report 0x17 0 1 (n * 2 ^ 38 + new.get (Reg.WVE_PLY_STATE n) * 2 ^ 36) (some t)

theorem State.plyTold_weave (t : Word) (old new x : State) (n : Nat) : (State.plyTold t old new x n).weave = x.weave := by
  unfold State.plyTold
  split <;> rfl

theorem State.plyTold_reg (t : Word) (old new x : State) (n a : Nat) : (State.plyTold t old new x n).reg a = x.reg a := by
  unfold State.plyTold
  split <;> rfl

theorem State.plyTold_reports_mono (t : Word) (old new x : State) (n : Nat) {r : Report} (h : r ∈ x.reports) :
    r ∈ (State.plyTold t old new x n).reports := by
  unfold State.plyTold
  split
  · exact h
  · exact List.mem_append_left _ h

/-- The state after the check: WVE_PLYn show it, and the next one counts from here. -/
def State.plyChecked (s : State) (t : Word) : State := { s.checkPlies with weave := { s.weave with checkAt := t } }

theorem State.plyChecked_state (s : State) (t : Word) {n : Nat} (hn : n < 3) :
    (s.plyChecked t).get (Reg.WVE_PLY_STATE n) = (s.plyCheck (.chip n)).state :=
  (State.withWeave_get ..).trans (s.checkPlies_shows hn).1

/-- A ply whose state has changed is among the reports of the check. -/
theorem State.foldl_plyTold_reports (t : Word) (old new : State) {n : Nat}
    (hne : new.get (Reg.WVE_PLY_STATE n) ≠ old.get (Reg.WVE_PLY_STATE n)) (l : List Nat) (hn : n ∈ l) (x : State) :
    { src := 0x17, idx := 0, code := 1, arg := n * 2 ^ 38 + new.get (Reg.WVE_PLY_STATE n) * 2 ^ 36, time := some t }
      ∈ (l.foldl (State.plyTold t old new) x).reports := by
  induction l generalizing x with
  | nil => cases hn
  | cons m l ih =>
    rcases List.mem_cons.1 hn with rfl | hn
    · rw [List.foldl_cons]
      refine List.foldlRecOn (motive := fun x' : State => _ ∈ x'.reports) l _ ?_ fun x' hx' m _ => State.plyTold_reports_mono _ _ _ _ _ hx'
      rw [State.plyTold, if_neg hne]
      exact List.mem_append_right _ List.mem_cons_self
    · exact ih hn _

theorem exec_storedPlyCheck (t : Word) (s : State) : exec (.storedPlyCheck t) s
    = .next (if s.wstate = stRunning ∧ 60 * 1000 * ms ≤ elapsed s.weave.checkAt t then
        [0, 1, 2].foldl (State.plyTold t (s.at t) ((s.at t).plyChecked t)) ((s.at t).plyChecked t) else s.at t) := rfl

/-- Settles O13: a write by `storeWrite`, a section by `scrubRead`, `scrubTold` and `scrubPassed`, the check by `checkPlies` and
the reports that `plyTold` adds. -/
theorem weaveStoreAndScrub : Obligations.WeaveStoreAndScrub := by
  refine ⟨fun t dma p a w s => ⟨fun hi hr hl => ?begins, fun hi => ?occupied, fun hi hb => ?locked⟩,
    fun t s => ⟨fun sec upsets hw hl hn => ?scrubs, fun sec upsets h => ?noTurn, fun hw ht => ?check, fun h => ?noCheck⟩⟩
  case begins =>
    have hb := State.storeWrite_begins (s := s.at t) (p := p) (a := a) (w := w) dma hi hr hl
    exact ⟨_, congrArg Host.Outcome.next hb, rfl, rfl, rfl⟩
  case occupied =>
    obtain ⟨hhost, hdma⟩ := State.storeWrite_occupied (s := s.at t) (p := p) (a := a) (w := w) hi
    cases dma with
    | true => exact ⟨_, congrArg Host.Outcome.next hdma, rfl, rfl, fun h => (Bool.noConfusion h), fun _ => rfl⟩
    | false =>
      refine ⟨_, congrArg Host.Outcome.next hhost, rfl, rfl, fun _ => ⟨?_, State.get_wrej _⟩, fun h => Bool.noConfusion h⟩
      exact (State.get_stick_ne _ Reg.SYS_STATUS_WREJ Reg.WVE_STATUS_PROG_BUSY 1 (by decide)).trans
        (State.get_stick_bit (s.at t) _ (by decide) rfl)
  case locked =>
    have hx := State.storeWrite_locked (s := s.at t) (p := p) (a := a) (w := w) dma hi hb
    by_cases hsame : (dma || (s.at t).plyGet p a == w) = true
    · rw [if_pos hsame] at hx
      refine ⟨_, congrArg Host.Outcome.next hx, rfl, rfl, fun hd hne => absurd ?_ hne, fun _ => rfl⟩
      rw [hd, Bool.false_or] at hsame
      exact eq_of_beq hsame
    · rw [if_neg hsame] at hx
      refine ⟨_, congrArg Host.Outcome.next hx, rfl, rfl, fun _ _ => State.get_wrej _, fun hd => absurd ?_ hsame⟩
      rw [hd, Bool.true_or]
  case scrubs =>
    intro k crc same
    have hbad : (s.at t).scrubBad k ((s.at t).scrubCells k upsets) = decide (¬ same) := rfl
    refine ⟨_, (exec_scrubSectionEnd t sec upsets s).trans (congrArg Host.Outcome.next
      (if_pos (((s.at t).scrubTurn_iff k).2 ⟨⟨hw, hl⟩, hn.symm⟩))), fun hs => ?_, fun hs => ?_, ?_, fun h5 => ?_, fun a ha => ?_⟩
    · exact State.scrubbed_bad (s.at t) t sec.isLt (hbad.trans (decide_eq_true hs))
    · exact State.scrubbed_same (s.at t) t (hbad.trans (decide_eq_false (not_not.2 hs)))
    · exact State.scrubbed_next (s.at t) t
    · exact State.scrubbed_end (s.at t) t h5
    · exact State.scrubbed_reg (s.at t) t ha
  case noTurn =>
    refine (exec_scrubSectionEnd t sec upsets s).trans (congrArg Host.Outcome.next (if_neg fun hturn => ?_))
    obtain ⟨⟨hw, hl⟩, hn⟩ := ((s.at t).scrubTurn_iff (sec.val + 1)).1 hturn
    rcases h with h | h | h
    · exact Bool.false_ne_true (h.symm.trans hw)
    · exact Bool.false_ne_true (hl.symm.trans h)
    · exact h hn.symm
  case check =>
    refine ⟨_, (exec_storedPlyCheck t s).trans (congrArg Host.Outcome.next (if_pos ⟨hw, ht⟩)), ?_, fun n hn => ⟨?_, fun hne => ?_⟩⟩
    · exact State.foldl_reading State.weave (fun x n => State.plyTold_weave ..) _ _
    · refine (State.get_congr (State.foldl_reading (State.reg · _) (fun x n => State.plyTold_reg ..) _ _)).trans ?_
      exact ((s.at t).plyChecked_state t hn).trans (congrArg PlyCheck.state (State.at_plyCheck s t _))
    · have hst : ((s.at t).plyChecked t).get (Reg.WVE_PLY_STATE n) = (s.plyCheck (.chip n)).state :=
        ((s.at t).plyChecked_state t hn).trans (congrArg PlyCheck.state (State.at_plyCheck s t _))
      have hmem := State.foldl_plyTold_reports t (s.at t) ((s.at t).plyChecked t) (n := n) (by rw [hst]; exact hne.symm) [0, 1, 2]
        (by simp only [List.mem_cons, List.not_mem_nil, or_false]; omega) ((s.at t).plyChecked t)
      rwa [hst] at hmem
  case noCheck => exact (exec_storedPlyCheck t s).trans (congrArg Host.Outcome.next (if_neg h))

end Sys2Proof.Machine
end

section
/-!
PROOF. Headland's monitors (O41), the supply monitors (O43), the event merge (O52) and the fabric's monitors (O9).
-/
namespace Sys2Proof.Machine

/-! ### Headland's monitors -/

theorem State.contWindow_regs (s : State) (b : Nat) : (s.contWindow b).regs = s.regs :=
  (State.contWindow_keeps s b (Nat.and_self _) (.refl _ s)).same .regs (by decide)

theorem State.foldl_regs {α : Type} (f : State → α → State) (hf : ∀ s a, (f s a).regs = s.regs) (l : List α) (s : State) :
    (l.foldl f s).regs = s.regs := by
  induction l generalizing s with
  | nil => rfl
  | cons a l ih => exact (ih _).trans (hf s a)

/-- A VBAT sample writes VBAT alone. -/
theorem State.vbatMark_regs (s : State) (v : Nat) : (s.vbatMark v).regs = (s.set Reg.SAF_HK_VBAT v).regs := by
  have hw := State.foldl_regs (fun s b => s.contWindow b) (fun s b => s.contWindow_regs b) (List.range 12) s
  have hset : ∀ s' : State, s'.regs = s.regs → (s'.set Reg.SAF_HK_VBAT v).regs = (s.set Reg.SAF_HK_VBAT v).regs := by
    intro s' h
    simp only [State.set, State.setReg, State.reg, h]
  unfold State.vbatMark
  extract_lets s₁ s₂
  have h₂ : s₂.regs = (s.set Reg.SAF_HK_VBAT v).regs := hset _ hw
  split
  · exact (State.foldl_regs (fun s b => s.setBk b { s.bk b with chop := { (s.bk b).chop with bad := true } })
      (fun _ _ => rfl) (List.range 12) s₂).trans h₂
  · exact h₂

/-- What a housekeeping sample records, before Headland judges the die temperature. -/
def State.hkTaken (s : State) (vbat : Nat) (tdie : Nat) : State :=
  let s := (s.vbatMark vbat).set Reg.SAF_HK_TDIE tdie
  let s := if s.running then s.extreme 6 0 vbat true false else s
  s.extreme 7 0 (signed 16 tdie) false true

theorem State.extreme_regs (s : State) (e i : Nat) (v : Int) (isMin sgn : Bool) : (s.extreme e i v isMin sgn).regs = s.regs :=
  (State.extreme_keeps s e i v isMin sgn (Nat.and_self _) (.refl _ s)).same .regs (by decide)

theorem State.hkTaken_reg (s : State) (vbat tdie a : Nat) :
    (s.hkTaken vbat tdie).reg a = ((s.set Reg.SAF_HK_VBAT vbat).set Reg.SAF_HK_TDIE tdie).reg a := by
  have hset : ((s.vbatMark vbat).set Reg.SAF_HK_TDIE tdie).regs = ((s.set Reg.SAF_HK_VBAT vbat).set Reg.SAF_HK_TDIE tdie).regs := by
    simp only [State.set, State.setReg, State.reg, State.vbatMark_regs]
  unfold State.hkTaken
  extract_lets s₁ s₂
  have h₂ : s₂.regs = s₁.regs := by
    unfold s₂
    split
    · exact State.extreme_regs _ _ _ _ _ _
    · rfl
  exact congrArg (Cells.get regReset · a) ((State.extreme_regs s₂ 7 0 _ _ _).trans (h₂.trans hset))

theorem State.vbatMark_keeps_saf (s : State) (v : Nat) : (s.vbatMark v).saf = s.saf ∧ (s.vbatMark v).causes = s.causes :=
  have h := State.vbatMark_keeps s v (Nat.and_self _) (.refl _ s)
  ⟨h.same .saf (by decide), h.same .causes (by decide)⟩

theorem State.extreme_keeps_saf (s : State) (e i : Nat) (v : Int) (isMin sgn : Bool) :
    (s.extreme e i v isMin sgn).saf = s.saf ∧ (s.extreme e i v isMin sgn).causes = s.causes :=
  have h := State.extreme_keeps s e i v isMin sgn (Nat.and_self _) (.refl _ s)
  ⟨h.same .saf (by decide), h.same .causes (by decide)⟩

theorem State.hkTaken_keeps_saf (s : State) (vbat tdie : Nat) :
    (s.hkTaken vbat tdie).saf = s.saf ∧ (s.hkTaken vbat tdie).causes = s.causes := by
  obtain ⟨hsaf, hcauses⟩ := State.vbatMark_keeps_saf s vbat
  unfold State.hkTaken
  extract_lets s₁ s₂
  have h₂ : s₂.saf = s.saf ∧ s₂.causes = s.causes := by
    unfold s₂
    split
    · exact ⟨(State.extreme_keeps_saf _ _ _ _ _ _).1.trans hsaf, (State.extreme_keeps_saf _ _ _ _ _ _).2.trans hcauses⟩
    · exact ⟨hsaf, hcauses⟩
  exact ⟨(State.extreme_keeps_saf _ _ _ _ _ _).1.trans h₂.1, (State.extreme_keeps_saf _ _ _ _ _ _).2.trans h₂.2⟩

/-- A count of bad values in a row, reported at the second (R673, R674; log entry 111). -/
def State.secondBad (s : State) (k : Headland) (n code : Nat) : State :=
  let s : State := { s with saf := k }
  if n = 2 then s.cause code 0 else s

theorem State.secondBad_saf (s : State) (k : Headland) (n code : Nat) : (s.secondBad k n code).saf = k := by
  unfold State.secondBad; dsimp only; split <;> rfl

theorem State.secondBad_regs (s : State) (k : Headland) (n code : Nat) : (s.secondBad k n code).regs = s.regs := by
  unfold State.secondBad; dsimp only; split <;> rfl

theorem State.secondBad_causes (s : State) (k : Headland) (n code : Nat) :
    (s.secondBad k n code).causes = s.causes ++ if n = 2 then [(code, 0)] else [] := by
  unfold State.secondBad; dsimp only; split
  · rfl
  · exact (List.append_nil _).symm

theorem exec_clockMonitorWindow {s : State} (t : Word) (tb xo : Nat) (h : s.power = .up) :
    let n := if deviates tb 10000 || deviates xo 1250 then s.saf.clockBad + 1 else 0
    exec (.clockMonitorWindow t tb xo) s = .next ((s.at t).secondBad { s.saf with clockBad := n } n 3) :=
  congrArg Host.Outcome.next (if_neg (not_not_intro h))

theorem exec_housekeepingSample {s : State} (t : Word) (vbat : Fin 4096) (tdie : Fin 65536) (h : s.power = .up) :
    let n := if 165 * 16 ≤ signed 16 tdie then s.saf.hot + 1 else 0
    exec (.housekeepingSample t vbat tdie) s
      = .next (((s.at t).hkTaken vbat tdie).secondBad { s.saf with hot := n } n 24) := by
  intro n
  have hsaf := (State.hkTaken_keeps_saf (s.at t) vbat tdie).1
  refine Eq.trans (congrArg Host.Outcome.next (if_neg (not_not_intro h))) ?_
  change Host.Outcome.next (((s.at t).hkTaken vbat tdie).secondBad
    { ((s.at t).hkTaken vbat tdie).saf with hot := if 165 * 16 ≤ signed 16 tdie then ((s.at t).hkTaken vbat tdie).saf.hot + 1 else 0 }
    (if 165 * 16 ≤ signed 16 tdie then ((s.at t).hkTaken vbat tdie).saf.hot + 1 else 0) 24) = _
  rw [hsaf]
  rfl

/-- What a change of SAFE_IN leaves, before it may be a cause. -/
def State.safeInShown (s : State) (level : Bool) : State := (s.flag Reg.SAF_STAT_SAFE_IN_LVL level).cutWatch

theorem exec_safeInChange {s : State} (t : Word) (level : Bool) (hp : s.power = .up)
    (hl : s.is Reg.SAF_STAT_SAFE_IN_LVL ≠ level) : exec (.safeInChange t level) s = .next
      (let s' := (s.at t).safeInShown level
      if level then { s' with saf := { s'.saf with safeInSeen := true } }
      else if s.weave.pair ∧ s.saf.safeInSeen then s'.cause 22 0 else s') :=
  congrArg Host.Outcome.next (if_neg (not_or_intro (not_not_intro hp) hl))

/-- Settles O41. -/
theorem headlandMonitors : Obligations.HeadlandMonitors := by
  unfold Obligations.HeadlandMonitors
  refine ⟨fun t s hp => ⟨fun _ _ => congrArg Host.Outcome.next (if_pos hp), fun _ _ => congrArg Host.Outcome.next (if_pos hp),
    congrArg Host.Outcome.next (if_pos hp), fun _ => congrArg Host.Outcome.next (if_pos (.inl hp))⟩, fun t s hp =>
    ⟨fun tb xo => ?_, fun vbat tdie => ?_, ?_, fun level hl => ?_, fun level hl => congrArg Host.Outcome.next (if_pos (.inr hl))⟩⟩
  case refine_1 =>
    exact ⟨_, exec_clockMonitorWindow t tb xo hp, State.secondBad_saf _ _ _ _, State.secondBad_regs _ _ _ _,
      State.secondBad_causes _ _ _ _⟩
  case refine_2 =>
    intro n
    have hreg : ∀ a, (((s.at t).hkTaken vbat tdie).secondBad { s.saf with hot := n } n 24).reg a
        = (((s.at t).set Reg.SAF_HK_VBAT vbat).set Reg.SAF_HK_TDIE tdie).reg a := fun a =>
      (congrArg (Cells.get regReset · a) (State.secondBad_regs _ _ _ _)).trans (State.hkTaken_reg _ _ _ a)
    refine ⟨_, exec_housekeepingSample t vbat tdie hp, ?_, ?_, State.secondBad_saf _ _ _ _, ?_, fun a ha => ?_⟩
    · rw [State.get_congr (hreg _), State.get_set_ne _ _ _ _ (by decide), State.get_set_of_lt _ _ (by decide) vbat.isLt]
    · rw [State.get_congr (hreg _), State.get_set_of_lt _ _ (by decide) tdie.isLt]
    · rw [State.secondBad_causes, (State.hkTaken_keeps_saf _ _ _).2]
      rfl
    · rw [hreg, State.reg_set_ne _ _ _ ha, State.reg_set_ne _ _ _ ha]
      rfl
  case refine_3 =>
    exact ⟨_, congrArg Host.Outcome.next (if_neg (not_not_intro hp)), rfl, State.is_flag (s.at t) (f := Reg.SAF_STAT_SAFE_N_LVL) _ rfl (by decide),
      fun a ha => State.reg_flag_ne (s.at t) _ _ ha⟩
  case refine_4 =>
    have his : ∀ k : Headland, (({ (s.at t).safeInShown level with saf := k } : State)).is Reg.SAF_STAT_SAFE_IN_LVL = level :=
      fun k => State.is_flag (s.at t) (f := Reg.SAF_STAT_SAFE_IN_LVL) level rfl (by decide)
    have hreg : ∀ a, a ≠ Reg.SAF_STAT_addr → ((s.at t).safeInShown level).reg a = s.reg a :=
      fun a ha => State.reg_flag_ne (s.at t) _ _ ha
    refine ⟨_, exec_safeInChange t level hp hl, ?_⟩
    dsimp only
    cases level with
    | true => exact ⟨his _, rfl, (List.append_nil _).symm, hreg⟩
    | false =>
      rw [if_neg Bool.false_ne_true]
      by_cases h : s.weave.pair = true ∧ s.saf.safeInSeen = true
      · rw [if_pos h, if_pos ⟨rfl, h⟩]
        exact ⟨his s.saf, rfl, rfl, hreg⟩
      · rw [if_neg h, if_neg (fun h' => h h'.2)]
        exact ⟨his s.saf, rfl, (List.append_nil _).symm, hreg⟩

/-! ### What an operation may write -/

/-- Writing the one field leaves the other. -/
def Fld.misses (f g : Fld) : Prop :=
  f.addr ≠ g.addr ∨ (f.lo + f.wid ≤ 48 ∧ g.lo + g.wid ≤ 48 ∧ (f.lo + f.wid ≤ g.lo ∨ g.lo + g.wid ≤ f.lo))

/-- The whole register at `a`. -/
def wholeReg (a : Nat) : Fld := ⟨a, 0, 48⟩

/-- From `s₀` to `s` no field was written but those of `F`. -/
def Writes (F : Set Fld) (s₀ s : State) : Prop := ∀ g : Fld, (∀ f ∈ F, f.misses g) → s.get g = s₀.get g

section
variable {F G : Set Fld} {s₀ s s' : State}

theorem Writes.refl (F : Set Fld) (s : State) : Writes F s s := fun _ _ => rfl

theorem Writes.mono (h : Writes F s₀ s) (hF : F ⊆ G) : Writes G s₀ s := fun g hg => h g fun f hf => hg f (hF hf)

theorem Writes.trans {s₁ : State} (h : Writes F s₀ s₁) (h' : Writes F s₁ s) : Writes F s₀ s := fun g hg => (h' g hg).trans (h g hg)

theorem Writes.of_regs (h : Writes F s₀ s) (e : s'.regs = s.regs) : Writes F s₀ s' := fun g hg =>
  (State.get_congr (congrArg (Cells.get regReset · g.addr) e)).trans (h g hg)

theorem Writes.set {f : Fld} (h : Writes F s₀ s) (hf : f ∈ F) (v : Nat) : Writes F s₀ (s.set f v) := fun g hg =>
  (State.get_set_ne s f g v (hg f hf)).trans (h g hg)

theorem Writes.add {f : Fld} (h : Writes F s₀ s) (hf : f ∈ F) (n : Nat) : Writes F s₀ (s.add f n) :=
  (h.set hf _).of_regs rfl

theorem Writes.inc {f : Fld} (h : Writes F s₀ s) (hf : f ∈ F) : Writes F s₀ (s.inc f) := h.add hf 1

theorem Writes.stick {f : Fld} (h : Writes F s₀ s) (hf : f ∈ F) (v : Nat) : Writes F s₀ (s.stick f v) :=
  (h.set hf _).of_regs rfl

theorem Writes.flag {f : Fld} (h : Writes F s₀ s) (hf : f ∈ F) (b : Bool) : Writes F s₀ (s.flag f b) := h.set hf _

theorem Writes.report (h : Writes F s₀ s) (src idx code arg : Nat) (time : Option Word) :
    Writes F s₀ (s.report src idx code arg time) := h.of_regs rfl

theorem Writes.cause (h : Writes F s₀ s) (code idx : Nat) : Writes F s₀ (s.cause code idx) := h.of_regs rfl

theorem Writes.setReg {a : Nat} (h : Writes F s₀ s) (hf : wholeReg a ∈ F) (w : Word) : Writes F s₀ (s.setReg a w) := fun g hg => by
  refine Eq.trans ?_ (h g hg)
  rcases hg _ hf with hne | ⟨-, hg', hd⟩
  · exact State.get_congr (Cells.get_set_ne regReset s.regs w (Ne.symm hne))
  · have hlo : (wholeReg a).lo = 0 := rfl
    have hwid : (wholeReg a).wid = 48 := rfl
    have hw : g.wid = 0 := by omega
    simp only [State.get, Fld.get, hw, Nat.pow_zero, Nat.mod_one]

theorem Writes.foldl {α : Type} {f : State → α → State} {l : List α} (hf : ∀ s, ∀ a ∈ l, Writes F s₀ s → Writes F s₀ (f s a))
    (h : Writes F s₀ s) : Writes F s₀ (l.foldl f s) := by
  induction l generalizing s with
  | nil => exact h
  | cons a l ih => exact ih (fun s b hb => hf s b (List.mem_cons_of_mem a hb)) (hf s a List.mem_cons_self h)

theorem Writes.reg (h : Writes F s₀ s) {a : Nat} (ha : ∀ f ∈ F, f.addr ≠ a) : s.reg a = s₀.reg a := by
  have hw := h (wholeReg a) fun f hf => .inl (ha f hf)
  have hget : ∀ s : State, s.get (wholeReg a) = (s.reg a).toNat := fun s => by
    simp only [State.get, Fld.get, wholeReg, BitVec.ushiftRight_zero, Nat.mod_eq_of_lt (s.reg a).isLt]
  rw [hget, hget] at hw
  exact BitVec.eq_of_toNat_eq hw

theorem Writes.is {g : Fld} (h : Writes F s₀ s) (hg : ∀ f ∈ F, f.misses g) : s.is g = s₀.is g := State.is_congr (h g hg)

end

/-! ### The event merge -/

/-- The mask of every part but one. -/
def allBut (p : Part) : Nat := maskOf (allParts.filter (fun q => decide (q.idx ≠ p.idx)))

/-- The fields above SYS_EVSTAT. -/
def aboveEvstat : Set Fld := {f | Reg.SYS_EVSTAT_addr < f.addr}

theorem mem_aboveEvstat {f : Fld} : f ∈ aboveEvstat ↔ 0x20 < f.addr := Iff.rfl

theorem State.proexQueue_regs (s : State) (type : Nat) (p : List Nat) : (s.proexQueue type p).regs = s.regs := by
  unfold State.proexQueue
  split <;> rfl

section
variable {s₀ s : State} (h : Writes aboveEvstat s₀ s)
include h

theorem State.requestCommit_writes : Writes aboveEvstat s₀ s.requestCommit := by
  have h' := h.of_regs (s' := { s with strand := { s.strand with want := true } }) rfl
  unfold State.requestCommit
  extract_lets s₁
  split
  · exact h'.set (mem_aboveEvstat.2 (by decide)) 1
  · exact h'

theorem State.recTriggers_writes (src code : Nat) : Writes aboveEvstat s₀ (s.recTriggers src code) := by
  unfold State.recTriggers
  split
  · exact h
  · refine h.foldl fun s n _ h => ?_
    dsimp only
    split
    · split
      · exact State.requestCommit_writes (h.of_regs rfl)
      · exact h.inc (mem_aboveEvstat.2 (by decide))
    · exact h

theorem State.streamItem_writes (kind k : Nat) (ws : List Word) (tag : Nat) : Writes aboveEvstat s₀ (s.streamItem kind k ws tag) := by
  unfold State.streamItem
  extract_lets x n put
  split
  · exact h.of_regs rfl
  · split
    · exact h.of_regs rfl
    · exact h.inc (mem_aboveEvstat.2 (by change 0x20 < 0x38C4 + 8 * k; omega))

theorem State.streamAll_writes (kind : Nat) (ws : List Word) (tag : Nat) : Writes aboveEvstat s₀ (s.streamAll kind ws tag) :=
  h.foldl fun _ k _ h => State.streamItem_writes h kind k ws tag

theorem State.pevShow_writes : Writes aboveEvstat s₀ s.pevShow := h.set (mem_aboveEvstat.2 (by decide)) _

theorem State.pairPush_writes (e : PairEntry) : Writes aboveEvstat s₀ (s.pairPush e) := by
  unfold State.pairPush
  split
  · exact h
  · split
    · exact ((h.stick (mem_aboveEvstat.2 (by decide)) 1).inc (mem_aboveEvstat.2 (by decide))).report _ _ _ _ _
    · split
      · exact State.pevShow_writes (h.of_regs rfl)
      · exact State.pevShow_writes (h.of_regs rfl)

theorem State.recordMerged_writes (j esn : Nat) : Writes aboveEvstat s₀ (s.recordMerged j esn) := by
  unfold State.recordMerged
  split
  · exact h
  · extract_lets w1 ws s₁
    exact Writes.foldl (fun s x _ h => h.set (mem_aboveEvstat.2 (by change 0x20 < 0x2810 + 32 * j + x.2; omega)) _) (h.of_regs rfl)

theorem State.canResult_writes (j : Nat) (ws : List Word) : Writes aboveEvstat s₀ (s.canResult j ws) := by
  unfold State.canResult
  refine h.foldl fun s c _ h => ?_
  dsimp only
  split
  · exact h
  · split
    · exact h.inc (mem_aboveEvstat.2 (by change 0x20 < 0x3825 + 32 * c; omega))
    · exact h.of_regs rfl

theorem State.recordCopies_writes (j esn : Nat) : Writes aboveEvstat s₀ (s.recordCopies j esn) := by
  unfold State.recordCopies
  split
  · exact h
  · extract_lets ws s₁
    exact (State.streamAll_writes (State.canResult_writes (State.recordMerged_writes h _ _) _ _) _ _ _).of_regs
      (State.proexQueue_regs _ _ _)

end

/-- What a merged report sets off beside its place in the host's FIFO. -/
def State.mergeCopies (s : State) (r : Report) (e : Entry) (esn : Nat) : State :=
  let s := (s.recTriggers r.src r.code).streamAll 3 [e.w0, e.w1, e.w2] esn
  let s := s.proexQueue 3 (eventPayload e s.pair.key)
  let s := s.pairPush { ev := e, key := s.pair.key, bSide := s.sideB }
  if r.src = 8 then s.recordCopies r.idx esn else s

section
variable (s : State) (r : Report) (e : Entry) (esn : Nat)

theorem State.mergeCopies_writes : Writes aboveEvstat s (s.mergeCopies r e esn) := by
  have hq := (State.streamAll_writes (State.recTriggers_writes (.refl _ s) r.src r.code) 3 [e.w0, e.w1, e.w2] esn)
  unfold State.mergeCopies
  extract_lets s₁ s₂ s₃
  have h₃ : Writes aboveEvstat s s₃ := State.pairPush_writes (hq.of_regs (State.proexQueue_regs _ _ _)) _
  split
  · exact State.recordCopies_writes h₃ _ _
  · exact h₃

theorem State.mergeCopies_fifo : (s.mergeCopies r e esn).fifo = s.fifo := by
  suffices Keeps (allBut .fifo) s (s.mergeCopies r e esn) from this.same .fifo (by decide)
  have hq := State.streamAll_keeps _ 3 [e.w0, e.w1, e.w2] esn (by decide) (State.recTriggers_keeps s r.src r.code (by decide) (.refl (allBut .fifo) s))
  unfold State.mergeCopies
  extract_lets s₁ s₂ s₃
  have h₃ : Keeps (allBut .fifo) s s₃ := State.pairPush_keeps _ _ (by decide) (State.proexQueue_keeps _ _ _ (by decide) hq)
  split
  · exact State.recordCopies_keeps _ _ _ (by decide) h₃
  · exact h₃

theorem State.pairPush_reports (e : PairEntry) : s.reports <+: (s.pairPush e).reports := by
  unfold State.pairPush
  split
  · exact List.prefix_rfl
  · split
    · exact List.prefix_append _ _
    · split <;> exact List.prefix_rfl

theorem State.mergeCopies_reports : s.reports <+: (s.mergeCopies r e esn).reports := by
  have hq := State.streamAll_keeps _ 3 [e.w0, e.w1, e.w2] esn (by decide) (State.recTriggers_keeps s r.src r.code (by decide) (.refl (allBut .reports) s))
  unfold State.mergeCopies
  extract_lets s₁ s₂ s₃
  have h₂ : s₂.reports = s.reports := (State.proexQueue_keeps _ _ _ (by decide) hq).same .reports (by decide)
  have h₃ : s.reports <+: s₃.reports := h₂ ▸ State.pairPush_reports s₂ _
  split
  · exact h₃.trans (((State.recordCopies_keeps s₃ r.idx esn (Nat.and_self _) (.refl _ s₃)).same .reports (by decide)).symm ▸ List.prefix_rfl)
  · exact h₃

end

/-- The state in which a merged report meets the host's FIFO. -/
def State.numbered (s : State) : State := (s.set Reg.SYS_ESN_LAST ((s.get Reg.SYS_ESN_LAST + 1) % 2 ^ 32)).moveKey

theorem State.moveKey_cases (s : State) : s.moveKey = s ∨ ∃ k, s.moveKey = s.setPair k := by
  unfold State.moveKey
  extract_lets a k
  split
  · exact .inr ⟨_, rfl⟩
  · exact .inl rfl

theorem State.numbered_reg (s : State) (a : Nat) :
    s.numbered.reg a = (s.set Reg.SYS_ESN_LAST ((s.get Reg.SYS_ESN_LAST + 1) % 2 ^ 32)).reg a := by
  unfold State.numbered
  obtain h | ⟨k, h⟩ := State.moveKey_cases (s.set Reg.SYS_ESN_LAST ((s.get Reg.SYS_ESN_LAST + 1) % 2 ^ 32)) <;> rw [h]
  rfl

theorem State.numbered_esn (s : State) : s.numbered.get Reg.SYS_ESN_LAST = (s.get Reg.SYS_ESN_LAST + 1) % 2 ^ 32 := by
  rw [State.get_congr (State.numbered_reg s _)]
  exact State.get_set_of_lt s _ (by decide) (Nat.mod_lt _ (by decide))

theorem State.numbered_get (s : State) {f : Fld} (h : f.addr ≠ Reg.SYS_ESN_addr) : s.numbered.get f = s.get f := by
  rw [State.get_congr (State.numbered_reg s _)]
  exact State.get_congr (State.reg_set_ne s Reg.SYS_ESN_LAST _ h)

theorem State.numbered_fifo (s : State) : s.numbered.fifo = s.fifo ∧ s.numbered.reports = s.reports ∧ s.numbered.now = s.now := by
  unfold State.numbered
  obtain h | ⟨k, h⟩ := State.moveKey_cases (s.set Reg.SYS_ESN_LAST ((s.get Reg.SYS_ESN_LAST + 1) % 2 ^ 32)) <;> rw [h]
  · exact ⟨rfl, rfl, rfl⟩
  · exact ⟨rfl, rfl, rfl⟩

/-- A departure of the instant is seen the same after the number is given. -/
theorem State.numbered_entryLeaves (s : State) : s.numbered.entryLeaves = s.entryLeaves := by
  have hset : (s.set Reg.SYS_ESN_LAST ((s.get Reg.SYS_ESN_LAST + 1) % 2 ^ 32)).entryLeaves = s.entryLeaves := by
    have hst (c : Nat) : (s.set Reg.SYS_ESN_LAST ((s.get Reg.SYS_ESN_LAST + 1) % 2 ^ 32)).dmState c = s.dmState c :=
      State.get_set_ne s _ _ _ (.inl (by change 0x0003 ≠ _; simp only [Reg.DMA_STAT_STATE]; omega))
    simp only [State.entryLeaves, State.dmaPops, State.beatPops, State.early, State.set_rest, hst]
  unfold State.numbered
  obtain h | ⟨k, h⟩ := State.moveKey_cases (s.set Reg.SYS_ESN_LAST ((s.get Reg.SYS_ESN_LAST + 1) % 2 ^ 32)) <;> rw [h]
  · exact hset
  · exact hset

/-- How many entries the FIFO holds for an arrival: one that leaves at the instant counts no more (R519). -/
def State.fifoHeld (s : State) : Nat := if s.entryLeaves then s.fifo.length - 1 else s.fifo.length

theorem State.fifo_length_le {s : State} (h : s.fifoHeld < 256) : s.fifo.length ≤ 256 := by
  unfold State.fifoHeld at h
  split at h <;> omega

theorem State.fifoPush_full (s : State) (e : Entry) (h : 256 ≤ s.fifoHeld) :
    s.fifoPush e = (s.stick Reg.SYS_EVSTAT_OVF 1).inc Reg.SYS_EVSTAT_LOST := if_pos h

theorem State.fifoPush_takes (s : State) (e : Entry) (h : s.fifoHeld < 256) :
    (s.fifoPush e).fifo = s.fifo ++ [e] ∧ (s.fifoPush e).reports = s.reports
      ∧ (∀ a, (s.fifoPush e).reg a = (s.set Reg.SYS_EVSTAT_LEVEL (s.fifo.length + 1)).reg a) := by
  have hlen : (s.fifo ++ [e]).length = s.fifo.length + 1 := List.length_append
  have he : s.fifoPush e = if s.fifoHeld + 1 = ({ s with fifo := s.fifo ++ [e] } : State).evShow.irqLevel then
      ({ s with fifo := s.fifo ++ [e] } : State).evShow.dmaPulse 4 0 s.now else ({ s with fifo := s.fifo ++ [e] } : State).evShow :=
    if_neg (Nat.not_le.2 h)
  have hshow : ∀ a, ({ s with fifo := s.fifo ++ [e] } : State).evShow.reg a = (s.set Reg.SYS_EVSTAT_LEVEL (s.fifo.length + 1)).reg a :=
    fun a => by rw [← hlen]; rfl
  rw [he]
  split
  · exact ⟨rfl, rfl, hshow⟩
  · exact ⟨rfl, rfl, hshow⟩

theorem exec_eventMerge {s : State} (t : Word) {r : Report} {rest : List Report} (hr : s.reports = r :: rest)
    (ho : s.mergeOpen = true) : exec (.eventMerge t) s =
      (let u := ({ s.at t with reports := rest } : State).numbered
       let esn := (s.get Reg.SYS_ESN_LAST + 1) % 2 ^ 32
       .next ((u.fifoPush (u.entryOf r esn)).mergeCopies r (u.entryOf r esn) esn)) := by
  change Host.Outcome.next (s.at t).mergeNext = _
  have hr' : (s.at t).reports = r :: rest := hr
  simp only [State.mergeNext, hr']
  rw [if_pos (show (s.at t).mergeOpen = true from ho)]
  rfl

theorem aboveEvstat_misses {g : Fld} (h : g.addr ≤ 0x20) : ∀ f ∈ aboveEvstat, f.misses g := fun _ hf =>
  .inl (Nat.ne_of_gt (Nat.lt_of_le_of_lt h (mem_aboveEvstat.1 hf)))

/-- Settles O52. -/
theorem eventMerge : Obligations.EventMerge := by
  unfold Obligations.EventMerge
  intro t r rest s
  refine ⟨fun hr ho => ?_, fun h => ?_⟩
  case refine_1 =>
    intro held esn
    have hx := exec_eventMerge t hr ho
    dsimp only at hx
    generalize hu0 : ({ s.at t with reports := rest } : State) = u0 at hx
    have hget (f : Fld) : u0.get f = s.get f := by subst hu0; rfl
    have hesn : u0.numbered.get Reg.SYS_ESN_LAST = esn := by rw [State.numbered_esn, hget]
    have hfifo : u0.numbered.fifo = s.fifo := by rw [(State.numbered_fifo u0).1]; subst hu0; rfl
    have hrep : u0.numbered.reports = rest := by rw [(State.numbered_fifo u0).2.1]; subst hu0; rfl
    have hent : u0.numbered.entryOf r esn = (s.at t).entryOf r esn := by
      unfold State.entryOf; rw [(State.numbered_fifo u0).2.2]; subst hu0; rfl
    have hheld : u0.numbered.fifoHeld = held := by
      unfold State.fifoHeld; rw [State.numbered_entryLeaves, hfifo]; subst hu0; rfl
    rw [hent] at hx
    generalize hu : u0.numbered = u at *
    have hlevel (f : Fld) (hf : f.addr ≠ 3) : u.get f = s.get f := by rw [← hu, State.numbered_get u0 hf, hget]
    have hw := State.mergeCopies_writes (u.fifoPush ((s.at t).entryOf r esn)) r ((s.at t).entryOf r esn) esn
    have hc := State.mergeCopies_fifo (u.fifoPush ((s.at t).entryOf r esn)) r ((s.at t).entryOf r esn) esn
    have hp := State.mergeCopies_reports (u.fifoPush ((s.at t).entryOf r esn)) r ((s.at t).entryOf r esn) esn
    have hg (f : Fld) (hf : f.addr ≤ 0x20) := hw f (aboveEvstat_misses hf)
    change _ = Host.Outcome.next ((u.fifoPush ((s.at t).entryOf r esn)).mergeCopies r ((s.at t).entryOf r esn) esn) at hx
    refine ⟨_, hx, ?_⟩
    beta_reduce
    rw [hg _ (by decide), hg _ (by decide), hg _ (by decide), hg _ (by decide), hc]
    by_cases hlt : held < 256
    · obtain ⟨hf, hr, hreg⟩ := State.fifoPush_takes u ((s.at t).entryOf r esn) (hheld ▸ hlt)
      have hle : s.fifo.length ≤ 256 := hfifo ▸ State.fifo_length_le (hheld ▸ hlt)
      refine ⟨?_, ?_, fun _ => ⟨?_, ?_, ?_⟩, fun h => absurd h (Nat.not_le.2 hlt)⟩
      · rw [State.get_congr (hreg _), State.get_set_ne _ _ _ _ (by decide), hesn]
      · exact hrep ▸ hr ▸ hp
      · rw [hf, hfifo]
      · rw [State.get_congr (hreg _), State.get_set_of_lt _ _ (by decide) (by rw [hfifo]; change _ < 512; omega), hfifo]
      · rw [State.get_congr (hreg _), State.get_set_ne _ _ _ _ (by decide), hlevel _ (by decide)]
    · have hge : 256 ≤ held := Nat.not_lt.1 hlt
      rw [State.fifoPush_full u _ (hheld ▸ hge)] at hp ⊢
      refine ⟨?_, hrep ▸ hp, fun h => absurd h hlt, fun _ => ⟨hfifo, ?_, ?_⟩⟩
      · rw [State.inc, State.add, State.get_note, State.get_set_ne _ _ _ _ (by decide), State.get_stick_ne _ _ _ _ (by decide), hesn]
      · rw [State.inc, State.add, State.get_note, State.get_set_ne _ _ _ _ (by decide)]
        exact State.get_stick_bit _ _ (by decide) rfl
      · rw [State.get_inc _ _ (by decide), State.get_stick_ne _ _ _ _ (by decide), hlevel _ (by decide)]
  case refine_2 =>
    change Host.Outcome.next (s.at t).mergeNext = _
    unfold State.mergeNext
    split
    · rfl
    · next hr =>
      have hclosed : s.mergeOpen = false := h.resolve_left (fun h' => by rw [show s.reports = _ from hr] at h'; cases h')
      exact congrArg Host.Outcome.next (if_neg (fun ho => Bool.false_ne_true (hclosed.symm.trans ho)))

end Sys2Proof.Machine
end

section
/-!
PROOF. What a change of the crank's state, of the angle's source and of the pair's divergence state may write; the integrity
monitors of the fabric and the clocks of its domains (O9).
-/
namespace Sys2Proof.Machine

/-- What the divergence state writes. -/
def divFlds : Set Fld := {Reg.PRX_STAT_DIV, Reg.PRX_STAT_VERD, Reg.PRX_CNT1_SOFTS, Reg.PRX_CNT1_HARDS}

/-- What the end of a learning session writes. -/
def learnFlds : Set Fld := {Reg.WFT_CLST_STATE 0, Reg.WFT_CLST_CAUSE 0}

/-- What a change of the state of crank Warp `n` writes. -/
def goFlds (n : Nat) : Set Fld := {Reg.WRP_SYNC_STATE n, Reg.WRP_CNT1_STALLS n} ∪ (learnFlds ∪ divFlds)

/-- What a hunt of Warp `n` that begins anew writes. -/
def huntFlds (n : Nat) : Set Fld := {Reg.WRP_SYNC_TOOTH n, wholeReg (Reg.WRP_EDGE_addr n)}

/-- What a change of the source of crank Warp `n` writes. -/
def sourceFlds (n : Nat) : Set Fld :=
  {Reg.WRP_SYNC_BG n, Reg.WRP_SYNC_SRC n, Reg.WRP_SYNC_CRANK_LOST n, Reg.WRP_CNT2_SWITCH n} ∪ (goFlds n ∪ huntFlds n)

/-- What a change of LINK writes, but for LINK, with crank Warp `n` the primary. -/
def linkFlds (n : Nat) : Set Fld :=
  {Reg.PRX_STAT_CHECK, Reg.PRX_CNT1_LOSSES, Reg.PRX_PEVSTAT_LEVEL} ∪ sourceFlds n

section
variable {F : Set Fld} {s₀ s : State} (h : Writes F s₀ s)
include h

section
variable (hF : divFlds ⊆ F)
include hF

theorem State.setDiv_writes (new : Nat) : Writes F s₀ (s.setDiv new) := by
  have hdiv : Reg.PRX_STAT_DIV ∈ F := hF (by simp [divFlds])
  have hverd : Reg.PRX_STAT_VERD ∈ F := hF (by simp [divFlds])
  have hsofts : Reg.PRX_CNT1_SOFTS ∈ F := hF (by simp [divFlds])
  have hhards : Reg.PRX_CNT1_HARDS ∈ F := hF (by simp [divFlds])
  unfold State.setDiv
  extract_lets old _ _ s₁ s₂ _ _ s₃
  split
  · exact h
  · have h₁ : Writes F s₀ s₁ := (h.set hdiv new).of_regs rfl
    have h₂ : Writes F s₀ s₂ := by
      unfold s₂
      split
      · exact h₁.inc hsofts
      · exact h₁
    have h₃ : Writes F s₀ s₃ := by
      unfold s₃
      split
      · exact ((h₂.inc hhards).set hverd 0).of_regs rfl
      · exact h₂
    exact h₃.report _ _ _ _ _

theorem State.leaveStopOwn_writes : Writes F s₀ s.leaveStopOwn := by
  unfold State.leaveStopOwn
  split
  · exact State.setDiv_writes h hF _
  · exact h

theorem State.resolveHard_writes : Writes F s₀ s.resolveHard := by
  unfold State.resolveHard
  split
  · exact h
  · split
    · exact State.leaveStopOwn_writes (State.setDiv_writes h hF _) hF
    · split
      · exact State.setDiv_writes h hF _
      · exact (State.setDiv_writes h hF _).cause _ _
      · exact State.setDiv_writes h hF _

theorem State.divLink_writes : Writes F s₀ s.divLink := by
  unfold State.divLink
  split
  · exact h
  · split
    · split
      · exact State.setDiv_writes h hF _
      · exact h
    · split
      · exact State.setDiv_writes h hF _
      · exact State.resolveHard_writes h hF

theorem State.verdict_writes (pass : Bool) : Writes F s₀ (s.verdict pass) := by
  unfold State.verdict
  split
  · exact State.resolveHard_writes (h.set (hF (by simp [divFlds])) _) hF
  · exact h

end

theorem State.learnAbort_writes (hF : learnFlds ⊆ F) (cause : Nat) : Writes F s₀ (s.learnAbort cause) := by
  unfold State.learnAbort
  split
  · extract_lets s₁
    have hst : Reg.WFT_CLST_STATE 0 ∈ F := hF (by simp [learnFlds])
    have hca : Reg.WFT_CLST_CAUSE 0 ∈ F := hF (by simp [learnFlds])
    have h₁ : Writes F s₀ s₁ := h.of_regs rfl
    have h₂ : Writes F s₀ ((s₁.set (Reg.WFT_CLST_STATE 0) clAborted).set (Reg.WFT_CLST_CAUSE 0) cause) := (h₁.set hst _).set hca _
    exact h₂.of_regs rfl
  · exact h

theorem State.counter_writes (n : Nat) : Writes F s₀ (s.counter n) :=
  h.of_regs ((State.counter_keeps s n (Nat.and_self _) (.refl _ s)).same .regs (by decide))

theorem State.primaryChanged_writes (hl : learnFlds ⊆ F) (hd : divFlds ⊆ F) (old new : Nat) :
    Writes F s₀ (s.primaryChanged old new) := by
  unfold State.primaryChanged
  extract_lets s₁ s₂ s₃ _ s₄ _ s₅ s₆ s₇ _ s₈
  have h₁ : Writes F s₀ s₁ := by unfold s₁; split; exacts [h.of_regs rfl, h]
  have h₂ : Writes F s₀ s₂ := by unfold s₂; split; exacts [h₁.of_regs rfl, h₁]
  have h₃ : Writes F s₀ s₃ := by unfold s₃; split; exacts [h₂.of_regs rfl, h₂]
  have h₄ : Writes F s₀ s₄ := by unfold s₄; split; exacts [h₃, h₃.of_regs rfl]
  have h₅ : Writes F s₀ s₅ := by unfold s₅; split; exacts [h₄.of_regs rfl, h₄]
  have h₆ : Writes F s₀ s₆ := by
    unfold s₆
    split
    · exact State.verdict_writes (Writes.of_regs (s' := (s₅.learnAbort 6).cyclesGone) (State.learnAbort_writes h₅ hl 6) rfl) hd false
    · exact h₅
  have h₇ : Writes F s₀ s₇ := by unfold s₇; split; exacts [State.counter_writes h₆ 3, h₆]
  have h₈ : Writes F s₀ s₈ := by unfold s₈; split; exacts [h₇.of_regs rfl, h₇]
  exact State.leaveStopOwn_writes h₈ hd

theorem State.goFrom_writes {n : Nat} (hF : goFlds n ⊆ F) (new : Nat) (t : Word) (i : Nat) : Writes F s₀ (s.goFrom n new t i) := by
  have hl : learnFlds ⊆ F := fun f hf => hF (.inr (.inl hf))
  have hd : divFlds ⊆ F := fun f hf => hF (.inr (.inr hf))
  unfold State.goFrom
  extract_lets old s₁ s₂ s₃
  split
  · exact h
  · have h₁ : Writes F s₀ s₁ := (h.of_regs (s' := s.countSeconds) rfl).set (hF (by simp [goFlds])) new
    have h₂ : Writes F s₀ s₂ := h₁.report _ _ _ _ _
    have h₃ : Writes F s₀ s₃ := by unfold s₃; split; exacts [h₂.inc (hF (by simp [goFlds])), h₂]
    split
    · exact State.primaryChanged_writes h₃ hl hd _ _
    · exact h₃

theorem State.restartHunt_writes {n : Nat} (hF : huntFlds n ⊆ F) (ref : Option Word) : Writes F s₀ (s.restartHunt n ref) := by
  unfold State.restartHunt
  extract_lets w w' s₁ _ s₂
  have h₁ : Writes F s₀ s₁ := h.set (hF (by simp [huntFlds])) _
  have h₂ : Writes F s₀ s₂ := by unfold s₂; split; exacts [h₁.of_regs rfl, h₁]
  split
  · exact (h₂.setReg (hF (by simp [huntFlds])) _).of_regs rfl
  · exact h₂.of_regs rfl

theorem State.fellBack_writes {n : Nat} (hF : sourceFlds n ⊆ F) (src : Nat) (t : Word) : Writes F s₀ (s.fellBack n src t) :=
  ((h.stick (hF (by simp [sourceFlds])) 1).inc (hF (by simp [sourceFlds]))).report _ _ _ _ _

theorem State.goAway_writes {n : Nat} (hF : sourceFlds n ⊆ F) (new src : Nat) (t : Word) (i : Nat) :
    Writes F s₀ (s.goAway n new src t i) := by
  have hg : goFlds n ⊆ F := fun f hf => hF (.inr (.inl hf))
  have hbg : Reg.WRP_SYNC_BG n ∈ F := hF (by simp [sourceFlds])
  have hsrc : Reg.WRP_SYNC_SRC n ∈ F := hF (by simp [sourceFlds])
  unfold State.goAway
  extract_lets s₁ s₂ _ s₃ _ s₄ w
  have h₁ : Writes F s₀ s₁ := State.goFrom_writes (h.set hsrc src) hg _ _ _
  have h₂ : Writes F s₀ s₂ := h₁.set hbg ssHunt
  have h₃ : Writes F s₀ s₃ := h₂.of_regs rfl
  have h₄ : Writes F s₀ s₄ := h₃.of_regs rfl
  refine State.fellBack_writes ?_ hF _ _
  exact h₄.of_regs rfl

theorem State.sourceLost_writes (hF : sourceFlds s.primary ⊆ F) (t : Word) : Writes F s₀ (s.sourceLost t) := by
  have hg : goFlds s.primary ⊆ F := fun f hf => hF (.inr (.inl hf))
  have hh : huntFlds s.primary ⊆ F := fun f hf => hF (.inr (.inr hf))
  have hbg : Reg.WRP_SYNC_BG s.primary ∈ F := hF (by simp [sourceFlds])
  have hsrc : Reg.WRP_SYNC_SRC s.primary ∈ F := hF (by simp [sourceFlds])
  unfold State.sourceLost
  extract_lets n bg i s₁
  split
  · exact (State.goAway_writes h hF _ _ _ _).set hbg bg
  · split
    · have h₁ : Writes F s₀ s₁ := by unfold s₁; split; exacts [h, State.restartHunt_writes h hh none]
      have h₂ : Writes F s₀ ((s₁.set (Reg.WRP_SYNC_BG n) 0).set (Reg.WRP_SYNC_SRC n) n) := (h₁.set hbg 0).set hsrc n
      refine State.goFrom_writes ?_ hg _ _ _
      exact h₂.of_regs rfl
    · exact h

theorem State.borrowCheck_writes (hF : sourceFlds s.primary ⊆ F) : Writes F s₀ s.borrowCheck := by
  unfold State.borrowCheck
  split
  · exact State.sourceLost_writes h hF _
  · exact h

theorem State.setCheck_writes (hF : Reg.PRX_STAT_CHECK ∈ F) (code : Nat) : Writes F s₀ (s.setCheck code) := by
  unfold State.setCheck
  split
  · exact h
  · exact (h.set hF code).report _ _ _ _ _

end

theorem State.setDiv_primary (s : State) (new : Nat) : (s.setDiv new).primary = s.primary :=
  (State.setDiv_keeps s new (Nat.and_self _) (.refl _ s)).same .primary (by decide)

theorem State.divLink_primary (s : State) : s.divLink.primary = s.primary :=
  (State.divLink_keeps s (Nat.and_self _) (.refl _ s)).same .primary (by decide)

/-- What a change of LINK sets off writes no LINK. -/
def State.linkFollow (s : State) (old new : Nat) : State :=
  let s := if new = 2 then s.setPair { s.pair with ofsSet := false } else s
  let s := if new = 0 then s.setCheck 4 else s
  let s := if new = 0 ∧ old = 2 then (s.inc Reg.PRX_CNT1_LOSSES).cause 15 0 else s
  s.divLink.borrowCheck.pevShow

theorem State.setLink_eq (s : State) (new : Nat) : s.setLink new = if s.get Reg.PRX_STAT_LINK = new then s
    else ((s.set Reg.PRX_STAT_LINK new).report 0x10 0 1 (new * 2 ^ 38) (some s.now)).linkFollow (s.get Reg.PRX_STAT_LINK) new := rfl

theorem State.linkFollow_writes (s : State) (old new : Nat) : Writes (linkFlds s.primary) s (s.linkFollow old new) := by
  have hs : sourceFlds s.primary ⊆ linkFlds s.primary := fun f hf => .inr hf
  have hd : divFlds ⊆ linkFlds s.primary := fun f hf => hs (.inr (.inl (.inr (.inr hf))))
  unfold State.linkFollow
  extract_lets _ s₁ s₂ s₃
  have hc : Reg.PRX_STAT_CHECK ∈ linkFlds s.primary := by simp [linkFlds]
  have hlo : Reg.PRX_CNT1_LOSSES ∈ linkFlds s.primary := by simp [linkFlds]
  have h₁ : Writes (linkFlds s.primary) s s₁ ∧ s₁.primary = s.primary := by
    unfold s₁; split; exacts [⟨(Writes.refl _ s).of_regs rfl, rfl⟩, ⟨.refl _ s, rfl⟩]
  have h₂ : Writes (linkFlds s.primary) s s₂ ∧ s₂.primary = s.primary := by
    unfold s₂
    split
    · refine ⟨State.setCheck_writes h₁.1 hc _, Eq.trans ?_ h₁.2⟩
      exact (State.setCheck_keeps s₁ 4 (Nat.and_self _) (.refl _ s₁)).same .primary (by decide)
    · exact h₁
  have h₃ : Writes (linkFlds s.primary) s s₃ ∧ s₃.primary = s.primary := by
    unfold s₃; split; exacts [⟨(h₂.1.inc hlo).cause _ _, h₂.2⟩, h₂]
  have hp : s₃.divLink.primary = s.primary := (State.divLink_primary s₃).trans h₃.2
  exact (State.borrowCheck_writes (State.divLink_writes h₃.1 hd) (hp.symm ▸ hs)).set (by simp [linkFlds]) _

theorem divFlds_miss {g : Fld} (h1 : g.addr ≠ Reg.PRX_CNT1_addr)
    (h2 : g.addr = Reg.PRX_STAT_addr → g.lo + g.wid ≤ 36 ∨ 41 ≤ g.lo ∧ g.lo + g.wid ≤ 48) : ∀ f ∈ divFlds, f.misses g := by
  intro f hf
  simp only [divFlds, Set.mem_insert_iff, Set.mem_singleton_iff] at hf
  rcases hf with rfl | rfl | rfl | rfl <;> simp only [Fld.misses, Reg.PRX_CNT1_addr, Reg.PRX_STAT_addr] at * <;> omega

theorem learnFlds_miss {g : Fld} (h : g.addr ≠ Reg.WFT_CLST_addr 0) : ∀ f ∈ learnFlds, f.misses g := by
  intro f hf
  simp only [learnFlds, Set.mem_insert_iff, Set.mem_singleton_iff] at hf
  rcases hf with rfl | rfl <;> exact .inl (Ne.symm h)

/-- No field of a Warp's own registers is one of the Proex controller's. -/
theorem linkFlds_miss_link (n : Nat) : ∀ f ∈ linkFlds n, f.misses Reg.PRX_STAT_LINK := by
  rintro f ((rfl | rfl | rfl) | (rfl | rfl | rfl | rfl) | ((rfl | rfl) | hf | hf) | (rfl | rfl))
  case inr.inr.inl.inr.inl => exact learnFlds_miss (by decide) f hf
  case inr.inr.inl.inr.inr => exact divFlds_miss (by decide) (fun _ => by decide) f hf
  all_goals simp [Fld.misses, wholeReg, Reg.WRP_EDGE_addr]; try omega

theorem State.setLink_link (s : State) {new : Nat} (h : new < 4) : (s.setLink new).get Reg.PRX_STAT_LINK = new := by
  rw [State.setLink_eq]
  split
  · assumption
  · rw [State.linkFollow_writes _ _ _ _ (linkFlds_miss_link _)]
    exact State.get_set_of_lt s _ (by decide) h

/-! ### The fabric's monitors and the clocks of the domains -/

/-- A bit that is set, taken away by subtraction: it is 0 and no other changes. -/
theorem testBit_sub_two_pow_of_set {x d : Nat} (h : x.testBit d = true) (k : Nat) :
    (x - 2 ^ d).testBit k = (x.testBit k && decide (k ≠ d)) := by
  obtain ⟨y, rfl⟩ : ∃ y, x = 2 ^ d + y := ⟨x - 2 ^ d, by have := Nat.ge_two_pow_of_testBit h; omega⟩
  rw [Nat.testBit_two_pow_add_eq] at h
  have hy : y.testBit d = false := by simpa using h
  rw [Nat.add_sub_cancel_left]
  rcases Nat.lt_trichotomy k d with hlt | rfl | hgt
  · rw [Nat.testBit_two_pow_add_gt hlt, decide_eq_true (Nat.ne_of_lt hlt), Bool.and_true]
  · simp [hy]
  · obtain ⟨j, rfl⟩ : ∃ j, k = d + 1 + j := ⟨k - (d + 1), by omega⟩
    have hdiv : (2 ^ d + y) / 2 ^ (d + 1) = y / 2 ^ (d + 1) := by
      have hmod : y / 2 ^ d % 2 = 0 := by
        have := Nat.testBit_eq_decide_div_mod_eq (x := y) (i := d)
        rw [hy] at this
        have hne := of_decide_eq_false this.symm
        omega
      rw [Nat.pow_succ, ← Nat.div_div_eq_div_mul, ← Nat.div_div_eq_div_mul, Nat.add_div_left y (Nat.two_pow_pos d)]
      omega
    have hshift (z : Nat) : z.testBit (d + 1 + j) = (z / 2 ^ (d + 1)).testBit j := by rw [Nat.testBit_div_two_pow, Nat.add_comm]
    rw [hshift, hshift, hdiv, decide_eq_true (by omega), Bool.and_true]

theorem State.get_setBit (s : State) {f : Fld} (hf : f.lo + f.wid ≤ 48) {n : Nat} (hn : n < f.wid) :
    (s.setBit f n).get f = s.get f ||| 2 ^ n :=
  State.get_set_of_lt s f hf (Nat.or_lt_two_pow (State.get_lt s f) (Nat.pow_lt_pow_right (by decide) hn))

theorem State.get_clearBit (s : State) {f : Fld} (hf : f.lo + f.wid ≤ 48) (n k : Nat) :
    ((s.clearBit f n).get f).testBit k = ((s.get f).testBit k && decide (k ≠ n)) := by
  rw [State.clearBit, State.get_set_of_lt s f hf (Nat.lt_of_le_of_lt (Nat.sub_le _ _) (State.get_lt s f))]
  by_cases h : (s.get f).testBit n = true
  · rw [if_pos h, testBit_sub_two_pow_of_set h]
  · rw [if_neg h, Nat.sub_zero]
    by_cases hk : k = n
    · subst hk; simpa using h
    · simp [hk]

/-- The clock of domain `d` is lost, and its crossings are blocked (R47). -/
def State.clockGone (s : State) (d : Nat) : State :=
  { s.setBit clkLost d with crossings := vset s.crossings d { blocked := true, returned := none } }

theorem exec_clockLost {s : State} (t : Word) (d : Fin 7) (hp : s.power = .up)
    (hd : (clockDomain d).all (fun p => decide (s.domain p < 2)) = true) : exec (.clockLost t d) s =
      .next (if d.val = 5 ∧ s.hasTile 0x10 0 then ((s.at t).clockGone d).setLink 0 else (s.at t).clockGone d) := by
  have hany : ¬ (clockDomain d).any (fun p => decide (2 ≤ s.domain p)) = true := by
    revert hd
    cases clockDomain d <;> simp
  exact congrArg Host.Outcome.next (if_neg (not_or_intro (not_not_intro hp) hany))

theorem State.clockGone_off (s : State) {d : Nat} (hd : d < 7) : (s.clockGone d).crossingOff d = true :=
  congrArg Crossing.blocked (vget_vset_same s.crossings _ hd)

theorem State.clockGone_off_ne (s : State) {d k : Nat} (h : k ≠ d) : (s.clockGone d).crossingOff k = s.crossingOff k :=
  congrArg Crossing.blocked (vget_vset_ne s.crossings _ h)

theorem State.setLink_crossings (s : State) (new : Nat) : (s.setLink new).crossings = s.crossings :=
  (State.setLink_keeps s new (Nat.and_self _) (.refl _ s)).same .crossings (by decide)

theorem State.clockGone_get (s : State) {d : Nat} (hd : d < 7) : (s.clockGone d).get clkLost = s.get clkLost ||| 2 ^ d :=
  State.get_setBit s (f := clkLost) (by decide) hd

/-- A region's bit of SYS_REGION, with its cause. -/
theorem regionTold (s : State) (t : Word) (r : Fin 8) (code : Nat) {f g : Fld}
    (hfg : (f = Reg.SYS_REGION_INVALID ∧ g = Reg.SYS_REGION_STALL) ∨ (f = Reg.SYS_REGION_STALL ∧ g = Reg.SYS_REGION_INVALID)) :
    let s' := ((s.at t).stickBit f r).cause code r
    s'.causes = s.causes ++ [(code, r.val)] ∧ s'.get f = s.get f ||| 2 ^ r.val ∧ s'.get g = s.get g
      ∧ ∀ a, a ≠ Reg.SYS_REGION_addr → s'.reg a = s.reg a := by
  have hr : 2 ^ r.val < 2 ^ 8 := Nat.pow_lt_pow_right (by decide) r.isLt
  rcases hfg with ⟨rfl, rfl⟩ | ⟨rfl, rfl⟩
  · exact ⟨rfl, State.get_stick (s.at t) _ (by decide) hr, State.get_stick_ne (s.at t) _ _ _ (by decide),
      fun a ha => State.reg_stick_ne (s.at t) _ _ ha⟩
  · exact ⟨rfl, State.get_stick (s.at t) _ (by decide) hr, State.get_stick_ne (s.at t) _ _ _ (by decide),
      fun a ha => State.reg_stick_ne (s.at t) _ _ ha⟩

/-- Settles O9. -/
theorem fabricMonitors : Obligations.FabricMonitors := by
  unfold Obligations.FabricMonitors
  refine ⟨fun t r s => ⟨⟨_, rfl, regionTold s t r 1 (.inl ⟨rfl, rfl⟩)⟩, ⟨_, rfl, ?_⟩⟩, fun t d s =>
    ⟨fun hp hd h5 => ?_, fun hp hd => ?_, fun h => congrArg Host.Outcome.next (if_pos h), fun h => ?_, fun h => ?_,
      fun a ha ht => ?_, fun h => ?_⟩⟩
  case refine_1 => exact regionTold s t r 2 (.inr ⟨rfl, rfl⟩)
  case refine_2 =>
    refine ⟨_, (exec_clockLost t d hp hd).trans (congrArg Host.Outcome.next (if_neg (fun h => h5 h.1))),
      State.clockGone_off _ d.isLt, State.clockGone_get (s.at t) d.isLt, fun k hk => State.clockGone_off_ne (s.at t) fun e => hk (Fin.ext e), fun a ha => ?_⟩
    exact State.reg_set_ne (s.at t) clkLost _ ha
  case refine_3 =>
    have hx := exec_clockLost t 5 hp (show (clockDomain 5).all _ = true from by simpa [clockDomain] using hd)
    by_cases ht : s.hasTile 0x10 0 = true
    · refine ⟨_, hx.trans (congrArg Host.Outcome.next (if_pos ⟨rfl, ht⟩)), ?_, fun _ _ => State.setLink_link _ (by decide),
        fun h => absurd (h.symm.trans ht) (by decide)⟩
      exact (congrArg (fun v => (vget v 5).blocked) (State.setLink_crossings _ 0)).trans (State.clockGone_off _ (by decide))
    · exact ⟨_, hx.trans (congrArg Host.Outcome.next (if_neg (fun h => ht h.2))), State.clockGone_off _ (by decide),
        fun h => absurd h ht, fun _ => State.clockGone_get (s.at t) (by decide)⟩
  case refine_4 =>
    refine ⟨_, congrArg Host.Outcome.next (if_pos h), ?_, fun k hk => ?_, congrArg Crossing.returned (vget_vset_same _ _ d.isLt),
      (congrArg Crossing.blocked (vget_vset_same _ _ d.isLt)).trans rfl, fun a ha => State.reg_set_ne (s.at t) clkLost _ ha⟩
    · refine (State.get_clearBit (s.at t) (f := clkLost) (by decide) d d).trans ?_
      simp
    · refine (State.get_clearBit (s.at t) (f := clkLost) (by decide) d k).trans ?_
      rw [decide_eq_true (p := k.val ≠ d.val) (fun e => hk (Fin.ext e)), Bool.and_true]
      rfl
  case refine_5 => exact congrArg Host.Outcome.next (if_neg (Bool.eq_false_iff.1 h))
  case refine_6 =>
    have hany : (vget s.crossings d).returned.any (fun a => decide (10 * us ≤ elapsed a t)) = true := by
      rw [ha]; exact decide_eq_true ht
    exact ⟨_, congrArg Host.Outcome.next (if_pos hany), congrArg Crossing.blocked (vget_vset_same _ _ d.isLt), rfl⟩
  case refine_7 =>
    refine congrArg Host.Outcome.next (if_neg ?_)
    change ¬ (vget s.crossings d).returned.any (fun a => decide (10 * us ≤ elapsed a t)) = true
    cases hr : (vget s.crossings d).returned with
    | none => exact Bool.false_ne_true
    | some a => exact fun hle => absurd (h a hr) (Nat.not_lt.2 (of_decide_eq_true hle))

end Sys2Proof.Machine
end

section
/-!
PROOF. Resets (O42), the supply monitors (O43), power domains and standby (O44).
-/
namespace Sys2Proof.Machine

/-! ### Trims that are off -/

/-- Field `f` of word `n` of the cylinders in `l` put to 0. -/
def State.trimZero (s : State) (n : Nat) (f : Fld) (l : List Nat) : State := l.foldl (fun s k => s.setCyl k n f 0) s

section
variable (s : State) (n : Nat) (f : Fld)

theorem State.cyl_setCyl (k v : Nat) (hf : f.lo + f.wid ≤ 48) : (s.setCyl k n f v).cyl k n f = v % 2 ^ f.wid := by
  rw [State.cyl, State.setCyl, State.workGet_workSet, Fld.get_put f _ _ hf]

theorem State.workGet_setCyl_ne (k v : Nat) {a : Nat} (h : a ≠ 0x5600 + 8 * k + n) : (s.setCyl k n f v).workGet a = s.workGet a :=
  State.workGet_workSet_ne s _ h

theorem State.cyl_setCyl_ne {j k : Nat} (v : Nat) {m : Nat} (g : Fld) (h : 0x5600 + 8 * j + m ≠ 0x5600 + 8 * k + n) :
    (s.setCyl k n f v).cyl j m g = s.cyl j m g :=
  congrArg g.get (State.workGet_setCyl_ne s n f k v h)

theorem State.trimZero_workGet (l : List Nat) {a : Nat} (h : ∀ k ∈ l, a ≠ 0x5600 + 8 * k + n) :
    (s.trimZero n f l).workGet a = s.workGet a := by
  induction l generalizing s with
  | nil => rfl
  | cons k l ih => exact (ih _ fun j hj => h j (List.mem_cons_of_mem k hj)).trans (s.workGet_setCyl_ne n f k 0 (h k List.mem_cons_self))

theorem State.trimZero_cyl (l : List Nat) (hf : f.lo + f.wid ≤ 48) {k : Nat} (h : k ∈ l ∨ s.cyl k n f = 0) :
    (s.trimZero n f l).cyl k n f = 0 := by
  induction l generalizing s with
  | nil => exact h.resolve_left (List.not_mem_nil)
  | cons j l ih =>
    refine ih _ ?_
    by_cases hkj : k = j
    · subst hkj; exact .inr ((s.cyl_setCyl n f k 0 hf).trans (Nat.zero_mod _))
    · rcases h with h | h
      · exact .inl ((List.mem_cons.1 h).resolve_left hkj)
      · exact .inr ((s.cyl_setCyl_ne n f 0 f (by omega)).trans h)

theorem Fld.put_zero_zero (f : Fld) : f.put 0 0 = 0 := by
  simp [Fld.put]

theorem State.trimZero_work_nil (l : List Nat) (h : s.work = []) : (s.trimZero n f l).work = [] := by
  induction l generalizing s with
  | nil => exact h
  | cons k l ih =>
    refine ih _ ?_
    have hw : s.workGet (0x5600 + 8 * k + n) = 0 := by rw [State.workGet, h]; rfl
    change s.work.set memDefault _ (f.put (s.workGet _) 0) = []
    rw [hw, Fld.put_zero_zero, h]
    rfl

end

theorem State.trimOff_eq {s : State} (ht : s.is Reg.TRM_CTRL_TL_EN = false) (hb : s.is Reg.TRM_CTRL_BAL_EN = false) :
    s.trimOff = (s.trimZero 0 cyTT (List.range 24)).trimZero 1 cyBal (List.range 24) := by
  have hkeep : (s.trimZero 0 cyTT (List.range 24)).regs = s.regs :=
    State.foldl_regs (fun s k => s.setCyl k 0 cyTT 0) (fun _ _ => rfl) (List.range 24) s
  have hb' : ¬ (s.trimZero 0 cyTT (List.range 24)).is Reg.TRM_CTRL_BAL_EN = true := by
    have hget : (s.trimZero 0 cyTT (List.range 24)).get Reg.TRM_CTRL_BAL_EN = s.get Reg.TRM_CTRL_BAL_EN :=
      State.get_congr (congrArg (Cells.get regReset · Reg.TRM_CTRL_addr) hkeep)
    rw [State.is_congr hget, hb]
    exact Bool.false_ne_true
  have h1 : s.trimOff = if (s.trimZero 0 cyTT (List.range 24)).is Reg.TRM_CTRL_BAL_EN then s.trimZero 0 cyTT (List.range 24)
      else (s.trimZero 0 cyTT (List.range 24)).trimZero 1 cyBal (List.range 24) := by
    unfold State.trimOff
    rw [if_neg (Bool.eq_false_iff.1 ht)]
    rfl
  rw [h1, if_neg hb']

/-! ### What a reset leaves -/

/-- Everything at its reset value but what a reset of this kind keeps (R639, R642), before SYS_RSTCAUSE and the trims. -/
def State.resetBare (s : State) (kind : ResetKind) : State := {
  now := s.now, fresh := s.fresh, power := .held, straps := s.straps
  work := s.resetWork kind
  trace := if kind = .por ∨ kind = .wake then [] else s.trace
  recMem := s.recMem, ply0 := s.ply0, ply1 := s.ply1, ply2 := s.ply2, flash := s.flash
  host := { jtag := { ir := s.host.jtag.ir, instr := s.host.jtag.instr } }
  strand := { ebbs := s.strand.ebbs, lwrs := s.strand.lwrs + (if kind = .lowWater then 1 else 0) }
  supply := { hold := some kind, holdAt := s.now, smAt := Vector.replicate 6 s.now
              smModeAt := if kind = .wake then (Vector.replicate 6 none).set 0 (some s.now) |>.set 1 (some s.now)
                else Vector.replicate 6 none
              resetLow := s.supply.resetLow
              lowWater := decide (kind = .lowWater) || (s.supply.lowWater && decide (kind = .pin))
              traceLost := s.supply.traceLost + (if kind = .por ∨ kind = .wake then 1 else 0) }
  ahead := s.ahead, pending := s.pending }

/-- What the writes under way leave of the stores at a reset. -/
def State.torn (s : State) : State := s.tornCommit.tornStore

/-- A reset before the trims. -/
def State.resetHeld (s : State) (kind : ResetKind) (code : Nat) : State :=
  (s.torn.resetBare kind).setReg Reg.SYS_RSTCAUSE_addr (rstCause (s.torn.reg Reg.SYS_RSTCAUSE_addr) kind code)

theorem State.resetTo_eq (s : State) (kind : ResetKind) (code : Nat) : s.resetTo kind code = (s.resetHeld kind code).trimOff := rfl

section
variable (s : State) (kind : ResetKind) (code : Nat)

theorem State.torn_keeps : Keeps 1922 s s.torn :=
  State.tornStore_keeps _ (by decide) (State.tornCommit_keeps s (by decide) (.refl _ s))

theorem State.torn_same {p : Part} (h : (1922 : Nat).testBit p.idx = false) : p.same s s.torn := (s.torn_keeps).same p h

theorem State.resetHeld_reg_ne {a : Nat} (h : a ≠ Reg.SYS_RSTCAUSE_addr) : (s.resetHeld kind code).reg a = regReset a :=
  Cells.get_set_ne regReset [] _ h

theorem State.resetHeld_rstCause : (s.resetHeld kind code).reg Reg.SYS_RSTCAUSE_addr
    = rstCause (s.reg Reg.SYS_RSTCAUSE_addr) kind code := by
  have h : s.torn.regs = s.regs := s.torn_same (p := .regs) (by decide)
  refine (Cells.get_set_same regReset [] _ _).trans ?_
  rw [State.reg, h]
  rfl

theorem State.resetHeld_is {f : Fld} (h : f.addr ≠ Reg.SYS_RSTCAUSE_addr) (h0 : f.get (regReset f.addr) ≠ 1) :
    (s.resetHeld kind code).is f = false := by
  rw [State.is, State.get, State.resetHeld_reg_ne _ _ _ h]
  exact decide_eq_false h0

theorem State.resetTo_trimmed : s.resetTo kind code
    = ((s.resetHeld kind code).trimZero 0 cyTT (List.range 24)).trimZero 1 cyBal (List.range 24) :=
  (s.resetTo_eq kind code).trans (State.trimOff_eq (State.resetHeld_is _ _ _ (by decide) (by decide))
    (State.resetHeld_is _ _ _ (by decide) (by decide)))

theorem State.resetTo_keeps_held : Keeps 64 (s.resetHeld kind code) (s.resetTo kind code) :=
  State.trimOff_keeps _ (by decide) (.refl _ _)

theorem State.resetTo_same {p : Part} (h : (64 : Nat).testBit p.idx = false) : p.same (s.resetHeld kind code) (s.resetTo kind code) :=
  (s.resetTo_keeps_held kind code).same p h

theorem State.resetTo_reg (a : Nat) : (s.resetTo kind code).reg a = (s.resetHeld kind code).reg a :=
  congrArg (Cells.get regReset · a) (s.resetTo_same kind code (p := .regs) (by decide))

/-- A reset leaves the device held, as far as every kind of reset does. -/
def State.coldBy (s : State) (kind : ResetKind) (code : Nat) (s' : State) : Prop :=
  s'.power = .held ∧ s'.supply.hold = some kind
      ∧ s'.flash = s.flash ∧ s'.pending = s.pending ∧ s'.straps = s.straps
      ∧ s'.reg Reg.SYS_RSTCAUSE_addr = rstCause (s.reg Reg.SYS_RSTCAUSE_addr) kind code
      ∧ (∀ b : Fin 12, (s'.bk b).gates = {}) ∧ s'.running = false
      ∧ (∀ k : Fin 24, s'.tt k = 0 ∧ s'.bal k = 0) ∧ ∀ a, a ≠ Reg.SYS_RSTCAUSE_addr → s'.reg a = regReset a

theorem State.resetTo_cold : s.coldBy kind code (s.resetTo kind code) := by
  refine ⟨s.resetTo_same kind code (p := .power) (by decide), ?_, ?_, ?_, ?_, ?_, fun b => ?_, ?_, fun k => ⟨?_, ?_⟩, fun a ha => ?_⟩
  · exact congrArg Supply.hold (s.resetTo_same kind code (p := .supply) (by decide))
  · exact (s.resetTo_same kind code (p := .flash) (by decide)).trans (s.torn_same (p := .flash) (by decide))
  · exact (s.resetTo_keeps_held kind code).queue.trans s.torn_keeps.queue
  · exact (s.resetTo_same kind code (p := .straps) (by decide)).trans (s.torn_same (p := .straps) (by decide))
  · exact (s.resetTo_reg kind code _).trans (s.resetHeld_rstCause kind code)
  · refine (congrArg (fun v => (vget v b.val).gates) (s.resetTo_same kind code (p := .banks) (by decide))).trans ?_
    exact (by decide : ∀ b : Fin 12, (vget (Vector.replicate 12 ({} : Bank)) b.val).gates = {}) b
  · refine (State.is_congr (State.get_congr (s.resetTo_reg kind code _))).trans ?_
    exact State.resetHeld_is _ _ _ (by decide) (by decide)
  · rw [State.tt, State.resetTo_trimmed]
    have h : (((s.resetHeld kind code).trimZero 0 cyTT (List.range 24)).trimZero 1 cyBal (List.range 24)).cyl k 0 cyTT = 0 := by
      refine (congrArg (Fld.get cyTT) (State.trimZero_workGet _ 1 cyBal _ fun j _ => ?_)).trans
        (State.trimZero_cyl _ 0 cyTT _ (by decide) (.inl (List.mem_range.2 k.isLt)))
      omega
    rw [h]; rfl
  · rw [State.bal, State.resetTo_trimmed, State.trimZero_cyl _ 1 cyBal _ (by decide) (.inl (List.mem_range.2 k.isLt))]
    rfl
  · exact (s.resetTo_reg kind code a).trans (s.resetHeld_reg_ne kind code ha)

theorem State.resetTo_workGet {a : Nat} (h : ∀ k < 24, a ≠ 0x5600 + 8 * k ∧ a ≠ 0x5601 + 8 * k) :
    (s.resetTo kind code).workGet a = (s.resetHeld kind code).workGet a := by
  rw [State.resetTo_trimmed, State.trimZero_workGet _ _ _ _ fun k hk => ?_, State.trimZero_workGet _ _ _ _ fun k hk => ?_]
  · exact (h k (List.mem_range.1 hk)).1
  · have := (h k (List.mem_range.1 hk)).2
    omega

theorem State.resetHeld_work : (s.resetHeld kind code).work = s.resetWork kind := by
  have h : s.torn.work = s.work := s.torn_same (p := .work) (by decide)
  change s.torn.resetWork kind = _
  unfold State.resetWork
  rw [h]

theorem State.resetTo_work_nil (h : s.resetWork kind = []) : (s.resetTo kind code).work = [] := by
  rw [State.resetTo_trimmed]
  exact State.trimZero_work_nil _ _ _ _ (State.trimZero_work_nil _ _ _ _ ((s.resetHeld_work kind code).trans h))

end

theorem Cells.find_filter {n : Nat} (p : Nat → Bool) (m : Cells n) (a : Nat) :
    Cells.find (m.filter (fun c => p c.1)) a = if p a then Cells.find m a else none := by
  induction m with
  | nil => simp [Cells.find]
  | cons c m ih =>
    obtain ⟨k, v⟩ := c
    by_cases hk : p k = true
    · rw [List.filter_cons_of_pos (by exact hk)]
      by_cases ha : a = k
      · subst ha; simp [Cells.find, hk]
      · simp [Cells.find, ha, ih]
    · rw [List.filter_cons_of_neg (by exact hk), ih]
      by_cases ha : a = k
      · subst ha; simp [hk]
      · simp [Cells.find, ha]

/-- What a reset leaves of working memory beside the trims. -/
theorem State.resetTo_ram (s : State) {kind : ResetKind} (code : Nat) {a : Nat} (h : ∀ k < 24, a ≠ 0x5600 + 8 * k ∧ a ≠ 0x5601 + 8 * k) :
    (s.resetTo kind code).workGet a = (s.resetWork kind).get memDefault a := by
  rw [State.resetTo_workGet _ _ _ h, State.workGet, State.resetHeld_work]

/-- The words that a Low-water reset keeps (R217). -/
theorem State.resetWork_lowWater (s : State) (a : Nat) :
    (s.resetWork .lowWater).get memDefault a = if 0x1800 ≤ a then s.workGet a else 0 := by
  have h := Cells.find_filter (fun a => decide (0x1800 ≤ a)) s.work a
  change (Cells.find (s.work.filter (fun c => decide (0x1800 ≤ c.1))) a).getD (memDefault a) = _
  rw [h]
  by_cases ha : 0x1800 ≤ a
  · rw [if_pos (decide_eq_true ha), if_pos ha]; rfl
  · rw [if_neg (by simpa using ha), if_neg ha]; rfl

/-- The flags that keep a device held (R640, R645). -/
theorem State.resetTo_lowWater (s : State) (kind : ResetKind) (code : Nat) : (s.resetTo kind code).supply.lowWater
    = (decide (kind = .lowWater) || (s.supply.lowWater && decide (kind = .pin))) := by
  have h : s.torn.supply = s.supply := s.torn_same (p := .supply) (by decide)
  refine (congrArg Supply.lowWater (s.resetTo_same kind code (p := .supply) (by decide))).trans ?_
  change (decide (kind = .lowWater) || (s.torn.supply.lowWater && decide (kind = .pin))) = _
  rw [h]

/-- The supplies have been in order for 100 µs (R640). -/
def State.quietFor (s : State) (t : Word) : Bool := [1, 2, 3, 4].all (fun m => decide (100 * us ≤ elapsed (vget s.supply.smAt m) t))

theorem State.not_quietFor {s : State} {t : Word} {m : Nat} (h1 : 1 ≤ m) (h4 : m ≤ 4)
    (h : elapsed (vget s.supply.smAt m) t < 100 * us) : s.quietFor t = false := by
  refine List.all_eq_false.2 ⟨m, ?_, ?_⟩
  · simp only [List.mem_cons, List.not_mem_nil, or_false]; omega
  · simpa using h

theorem exec_lowWaterEnd (t : Word) (s : State) : exec (.lowWaterEnd t) s = .next
    (if s.supply.lowWater = true ∧ s.railsUp = true ∧ s.quietFor t = true then
      { s.at t with supply := { s.supply with lowWater := false, hold := if s.supply.resetLow then some .pin else none } }
    else s.at t) := rfl

/-- No reset holds the device, and the supplies let it leave (Table 14.3). -/
def State.mayLeaveReset (s : State) : Prop :=
  s.power = .held ∧ ¬ s.supply.lowWater = true ∧ s.supply.hold ≠ some .pin ∧ ¬ s.supply.resetLow = true ∧ s.railsUp = true

/-- What the end of a reset gives the device, before SM5, the load and the enumeration. -/
def State.leftReset (s : State) (t : Word) (side mirror : Bool) : State :=
  { s with
        power := .up, straps := (side, mirror)
        supply := { s.supply with hold := none }
        saf := { s.saf with startAt := if s.supply.hold = some ResetKind.por then s.supply.holdAt else t }
        strand := { s.strand with scan := t } }

/-- The load and the enumeration that follow a reset. -/
def State.begun (s : State) (side : Bool) : State := ((s.smMode 5 mdL).flag Reg.PRX_STAT_SIDE side).startLoad.enumBegin

theorem exec_resetEnd {s : State} (t : Word) (side mirror : Bool) (h : s.mayLeaveReset) :
    exec (.resetEnd t side mirror) s = .next (((s.at t).leftReset t side mirror).begun side) :=
  congrArg Host.Outcome.next (if_pos h)

theorem exec_resetEnd_idles {s : State} (t : Word) (side mirror : Bool) (h : ¬ s.mayLeaveReset) : Idles (.resetEnd t side mirror) s t :=
  congrArg Host.Outcome.next (if_neg h)

/-- The fields of the identity tile. -/
def idnFlds : Set Fld := {f | f = Reg.IDN_STAT_STATE ∨ (∃ l, f = Reg.IDN_LINE_FAULT l) ∨ ∃ x, f = Reg.IDN_SITE1_STATE x}

theorem State.enumBegin_writes (s : State) : Writes idnFlds s s.enumBegin := by
  unfold State.enumBegin
  extract_lets s₁ s₂ s₃
  have h₁ : Writes idnFlds s s₁ := (Writes.refl _ s).of_regs rfl
  have h₂ : Writes idnFlds s s₂ := h₁.foldl fun s l _ h => h.set (.inr (.inl ⟨l, rfl⟩)) 0
  have h₃ : Writes idnFlds s s₃ := h₂.foldl fun s x _ h => h.set (.inr (.inr ⟨x, rfl⟩)) 0
  exact h₃.set (.inl rfl) 1

theorem idnFlds_miss {g : Fld} (h : g.addr < 0x3001) : ∀ f ∈ idnFlds, f.misses g := by
  rintro f (rfl | ⟨l, rfl⟩ | ⟨x, rfl⟩) <;> refine .inl ?_ <;> simp only [Reg.IDN_STAT_STATE] <;> omega

theorem State.begun_shows (s : State) (side : Bool) : (s.begun side).power = s.power ∧ (s.begun side).straps = s.straps
    ∧ (s.begun side).supply.hold = s.supply.hold ∧ (s.begun side).get (Reg.SM_STAT_MODE 5) = 2
    ∧ (s.begun side).wstate = stLoading ∧ (s.begun side).weave.loading = true ∧ (s.begun side).enumStart = some s.now
    ∧ (s.begun side).get Reg.IDN_STAT_STATE = 1 := by
  unfold State.begun
  generalize hu : ((s.smMode 5 mdL).flag Reg.PRX_STAT_SIDE side).startLoad = u
  have hw := State.enumBegin_writes u
  have hk := State.enumBegin_keeps u (Nat.and_self _) (.refl _ u)
  refine ⟨(hk.same .power (by decide)).trans (by subst hu; rfl), (hk.same .straps (by decide)).trans (by subst hu; rfl), ?_, ?_, ?_, ?_,
    by subst hu; rfl, ?_⟩
  · exact (congrArg Supply.hold (hk.same .supply (by decide))).trans (by subst hu; rfl)
  · rw [hw _ (idnFlds_miss (by decide)), ← hu]
    change (((s.smMode 5 mdL).flag Reg.PRX_STAT_SIDE side).set Reg.WVE_STATUS_STATE stLoading).get (Reg.SM_STAT_MODE 5) = 2
    rw [State.get_set_ne _ _ _ _ (by decide), State.flag, State.get_set_ne _ _ _ _ (by decide)]
    exact State.get_set_of_lt s _ (by decide) (by decide)
  · rw [State.wstate, hw _ (idnFlds_miss (by decide)), ← hu]
    exact State.get_set_of_lt ((s.smMode 5 mdL).flag Reg.PRX_STAT_SIDE side) Reg.WVE_STATUS_STATE (by decide) (by decide)
  · exact (congrArg Weave.loading (hk.same .weave (by decide))).trans (by subst hu; rfl)
  · exact State.get_set_of_lt _ _ (by decide) (by decide)

/-- Settles O42. -/
theorem resets : Obligations.Resets := by
  unfold Obligations.Resets
  intro t s cold ram
  have hcold (kind code) : cold kind code ((s.at t).resetTo kind code) := State.resetTo_cold (s.at t) kind code
  refine ⟨⟨_, rfl, hcold _ _, State.resetTo_work_nil _ _ _ rfl, (State.resetTo_same (s.at t) .por 0 (p := .trace) (by decide)).trans rfl⟩,
    ⟨_, rfl, ?_, rfl, ?_, fun a _ ha => State.resetTo_ram (s.at t) 0 ha⟩, ⟨_, rfl, rfl, rfl, rfl⟩,
    fun key => ⟨fun hp hk hr => ?_, fun hp h => ?_, fun hp => congrArg Host.Outcome.next (if_neg hp)⟩,
    ⟨fun m hm ha => ?_, fun h => ?_⟩, fun hl hr hq => ?_, fun h => ?_, fun side mirror hp hl hh hr hu => ?_, fun side mirror h => ?_⟩
  case refine_1 =>
    obtain ⟨hpow, hhold, hrest⟩ := hcold .pin 0
    exact ⟨hpow, hhold, hrest⟩
  case refine_2 => exact (State.resetTo_lowWater (s.at t) .pin 0).trans (by simp)
  case refine_3 =>
    have hx : exec (.softwareReset t key) s = .next ((s.at t).resetTo .soft 0) :=
      congrArg Host.Outcome.next ((if_pos hp).trans (if_pos ⟨hk, hr.imp (fun h => Bool.eq_false_iff.1 h) id⟩))
    exact ⟨_, hx, hcold _ _, fun a _ ha => State.resetTo_ram (s.at t) 0 ha⟩
  case refine_4 =>
    refine refused_of_wrej (t := t) (congrArg Host.Outcome.next ((if_pos hp).trans (if_neg fun h' => ?_)))
    rcases h with h | ⟨h1, h2⟩
    · exact h h'.1
    · exact h'.2.elim (fun hn => hn h1) h2
  case refine_5 =>
    have hx : exec (.lowWaterReset t) s = .next ((s.at t).resetTo .lowWater m) := by
      change Host.Outcome.next _ = _
      simp only [hm]
      exact congrArg Host.Outcome.next (if_neg (not_or_intro ha.1 (Bool.eq_false_iff.1 ha.2)))
    refine ⟨_, hx, hcold _ _, (State.resetTo_lowWater (s.at t) .lowWater m).trans (by simp), fun a ha => ?_, fun a ha hk => ?_⟩
    · rw [State.resetTo_ram _ _ fun k _ => by omega, State.resetWork_lowWater, if_neg (by omega)]
    · rw [State.resetTo_ram _ _ hk, State.resetWork_lowWater, if_pos ha]
      rfl
  case refine_6 =>
    change Host.Outcome.next _ = _
    cases hm : (s.at t).firstTrip with
    | none => simp only [hm]
    | some m =>
      simp only [hm]
      refine congrArg Host.Outcome.next (if_pos ?_)
      have hna := h.resolve_left (by simp [hm])
      by_cases hp : s.power = .standby
      · exact .inl hp
      · exact .inr (Bool.not_eq_false _ ▸ fun hl => hna ⟨hp, hl⟩)
  case refine_7 => exact ⟨_, (exec_lowWaterEnd t s).trans (congrArg Host.Outcome.next (if_pos ⟨hl, hr, hq⟩)), rfl, rfl, rfl⟩
  case refine_8 =>
    refine (exec_lowWaterEnd t s).trans (congrArg Host.Outcome.next (if_neg fun ⟨hl, hr, hq⟩ => ?_))
    rcases h with h | h | ⟨m, h1, h4, he⟩
    · exact Bool.false_ne_true (h.symm.trans hl)
    · exact Bool.false_ne_true (h.symm.trans hr)
    · exact Bool.false_ne_true ((State.not_quietFor h1 h4 he).symm.trans hq)
  case refine_9 =>
    have hx := exec_resetEnd (s := s) t side mirror ⟨hp, Bool.eq_false_iff.1 hl, hh, Bool.eq_false_iff.1 hr, hu⟩
    exact ⟨_, hx, State.begun_shows _ _⟩
  case refine_10 =>
    refine exec_resetEnd_idles t side mirror fun ⟨hp, hl, hh, hr, hu⟩ => ?_
    rcases h with h | h | h | h | h
    · exact h hp
    · exact hl h
    · exact hh h
    · exact hr h
    · exact Bool.false_ne_true (h.symm.trans hu)

/-! ### The supply monitors -/

theorem rstCause_wake (old : Word) {code : Nat} (h : code < 4) :
    Reg.SYS_RSTCAUSE_WAKE_SRC.get (rstCause old .wake code) = code ∧ Reg.SYS_RSTCAUSE_WAKE.get (rstCause old .wake code) = 1 := by
  unfold rstCause
  refine ⟨?_, Fld.get_put _ _ _ (by decide)⟩
  exact (Fld.get_put_ne _ _ _ _ (by decide) (by decide) (by decide)).trans
    ((Fld.get_put _ _ _ (by decide)).trans (Nat.mod_eq_of_lt h))

theorem State.wakeCode_lt (s : State) {own : Nat} (h : own < 4) : s.wakeCode own < 4 := by
  unfold State.wakeCode
  split
  · decide
  · split
    · decide
    · exact h

/-- A reset that a wake condition asks for (R659). -/
theorem State.resetTo_woken (s : State) {code : Nat} (h : code < 4) : let s' := s.resetTo .wake code
    s'.power = .held ∧ s'.supply.hold = some .wake ∧ s'.get Reg.SYS_RSTCAUSE_WAKE = 1 ∧ s'.get Reg.SYS_RSTCAUSE_WAKE_SRC = code
      ∧ s'.flash = s.flash ∧ s'.work = [] := by
  obtain ⟨hpow, hhold, hflash, -, -, hreg, -⟩ := s.resetTo_cold .wake code
  exact ⟨hpow, hhold, (congrArg Reg.SYS_RSTCAUSE_WAKE.get hreg).trans (rstCause_wake _ h).2,
    (congrArg Reg.SYS_RSTCAUSE_WAKE_SRC.get hreg).trans (rstCause_wake _ h).1, hflash, s.resetTo_work_nil _ _ rfl⟩

theorem State.withSupply_reg (s : State) (k : Supply) (a : Nat) : ({ s with supply := k } : State).reg a = s.reg a := rfl

theorem State.withStrand_reg (s : State) (k : Strand) (a : Nat) : ({ s with strand := k } : State).reg a = s.reg a := rfl

theorem State.at_is (s : State) (t : Word) (f : Fld) : (s.at t).is f = s.is f := rfl

theorem State.at_get (s : State) (t : Word) (f : Fld) : (s.at t).get f = s.get f := rfl

theorem State.at_smRuns (s : State) (t : Word) (m : Nat) : (s.at t).smRuns m = s.smRuns m := rfl

section
variable (s : State) (m : Nat)

theorem State.smChange_reg (out a : Nat) :
    (s.smChange m out).reg a = ((s.set (Reg.SM_STAT_OUT m) out).set (Reg.SM_STAT_INIT m) 0).reg a :=
  State.withSupply_reg ((s.set (Reg.SM_STAT_OUT m) out).set (Reg.SM_STAT_INIT m) 0) _ a

theorem State.smChange_reg_ne (out : Nat) {a : Nat} (h : a ≠ Reg.SM_STAT_addr m) : (s.smChange m out).reg a = s.reg a :=
  (s.smChange_reg m out a).trans ((State.reg_set_ne _ (Reg.SM_STAT_INIT m) 0 h).trans (State.reg_set_ne s (Reg.SM_STAT_OUT m) out h))

theorem State.smChange_shows {out : Nat} (hm : m < 6) (ho : out < 2) : (s.smChange m out).get (Reg.SM_STAT_OUT m) = out
    ∧ (s.smChange m out).get (Reg.SM_STAT_INIT m) = 0 ∧ vget (s.smChange m out).supply.smAt m = s.now := by
  refine ⟨?_, ?_, vget_vset_same _ _ hm⟩
  · rw [State.get_congr (s.smChange_reg m out _), State.get_set_ne _ _ _ _ (by simp), State.get_set_of_lt _ _ (by simp) (by simpa using ho)]
  · rw [State.get_congr (s.smChange_reg m out _), State.get_set_of_lt _ _ (by simp) (by simp)]

/-- What follows from a release of monitor `m` (R659, Table 14.9). -/
def State.smReleased (s : State) (m : Nat) : State :=
  if m = 5 ∧ s.is Reg.SYS_SUPPLY_SENS_LOW then
    let s := s.set Reg.SYS_SUPPLY_SENS_LOW 0
    if s.power = .up then s.supplyEvent 6 0 else s
  else if m = 0 ∧ s.power = .standby ∧ s.is Reg.SYS_WAKE_EBB_WAKE then s.resetTo .wake (s.wakeCode 3)
  else s

theorem exec_supplyMonitorTrip (t : Word) (m : Fin 6) (s : State) : exec (.supplyMonitorTrip t m) s = .next
    (if (s.at t).smRuns m && !(s.at t).smHeld m && !(s.at t).is (Reg.SM_STAT_OUT m) then (s.at t).smChange m 1 else s.at t) := rfl

theorem exec_supplyMonitorRelease (t : Word) (m : Fin 6) (s : State) : exec (.supplyMonitorRelease t m) s = .next
    (if (s.at t).smRuns m && !(s.at t).smHeld m && (s.at t).is (Reg.SM_STAT_OUT m) then ((s.at t).smChange m 0).smReleased m else s.at t) := rfl

/-- A release that wakes nothing shows the output, and restores the sensor supply at SM5. -/
theorem State.smReleased_shows (h : ¬ (m = 0 ∧ s.power = .standby ∧ s.is Reg.SYS_WAKE_EBB_WAKE = true)) :
    (∀ f : Fld, f.addr ≠ Reg.SYS_SUPPLY_addr → (s.smReleased m).get f = s.get f) ∧ (s.smReleased m).supply = s.supply
      ∧ (m = 5 → (s.smReleased m).get Reg.SYS_SUPPLY_SENS_LOW = 0) := by
  unfold State.smReleased
  split
  · have hset : ∀ f : Fld, f.addr ≠ Reg.SYS_SUPPLY_addr → (s.set Reg.SYS_SUPPLY_SENS_LOW 0).get f = s.get f := fun f hf =>
      State.get_congr (State.reg_set_ne s Reg.SYS_SUPPLY_SENS_LOW 0 hf)
    have hzero : (s.set Reg.SYS_SUPPLY_SENS_LOW 0).get Reg.SYS_SUPPLY_SENS_LOW = 0 := State.get_set_of_lt s _ (by decide) (by decide)
    dsimp only
    split
    · exact ⟨hset, rfl, fun _ => hzero⟩
    · exact ⟨hset, rfl, fun _ => hzero⟩
  · next h5 =>
    refine ⟨fun _ _ => rfl, rfl, fun hm => ?_⟩
    have hn : s.get Reg.SYS_SUPPLY_SENS_LOW ≠ 1 := fun he => h5 ⟨hm, decide_eq_true he⟩
    have := State.get_lt s Reg.SYS_SUPPLY_SENS_LOW
    change s.get Reg.SYS_SUPPLY_SENS_LOW < 2 at this
    omega

end

/-! ### The Ebb warning -/

/-- What an Ebb warning counts and reports. -/
def State.ebbCounted (s : State) (vbat : Nat) : State :=
  ((s.set Reg.SYS_SUPPLY_EBB 1).inc Reg.SYS_SUPPLY_EBB_CNT).supplyEvent 3 (2 ^ 39 + vbat)

/-- The Ebb warning reaches Strandline, or waits for it (R585, R637). -/
def State.ebbTaken (s : State) : State :=
  if s.is Reg.REC_STAT_READY then (s.accAdd 1 0 6 1).ebbCommit
  else { s with strand := { s.strand with ebbs := s.strand.ebbs + 1 } }

theorem State.ebbCounted_get (s : State) (vbat : Nat) : (s.ebbCounted vbat).get Reg.SYS_SUPPLY_EBB = 1
    ∧ (s.ebbCounted vbat).get Reg.SYS_SUPPLY_EBB_CNT = min (s.get Reg.SYS_SUPPLY_EBB_CNT + 1) Reg.SYS_SUPPLY_EBB_CNT.max := by
  constructor
  · refine (State.get_set_ne (s.set Reg.SYS_SUPPLY_EBB 1) Reg.SYS_SUPPLY_EBB_CNT Reg.SYS_SUPPLY_EBB _ (by decide)).trans ?_
    exact State.get_set_of_lt s _ (by decide) (by decide)
  · refine (State.get_inc (s.set Reg.SYS_SUPPLY_EBB 1) _ (by decide)).trans ?_
    rw [State.get_set_ne _ _ _ _ (by decide)]

theorem State.ebbTaken_get (s : State) {f : Fld} (h : f.addr ≤ 0x30) : s.ebbTaken.get f = s.get f := by
  unfold State.ebbTaken
  split
  · have hacc : (s.accAdd 1 0 6 1).get f = s.get f :=
      State.get_congr (congrArg (Cells.get regReset · f.addr) ((State.accAdd_keeps s 1 0 6 1 (Nat.and_self _) (.refl _ s)).same .regs (by decide)))
    have hne : Reg.REC_STAT_addr ≠ f.addr := by simp only [Reg.REC_STAT_addr]; omega
    unfold State.ebbCommit
    split
    · exact hacc
    · unfold State.requestCommit
      extract_lets _ s₁
      split
      · exact (State.get_set_ne s₁ Reg.REC_STAT_PENDING f 1 (.inl hne)).trans hacc
      · exact hacc
  · rfl

theorem exec_ebbActive (t : Word) (vbat : Fin 4096) (s : State) : exec (.ebbActive t vbat) s = .next
    (if s.power ≠ .standby ∧ s.is (Reg.SM_STAT_OUT 0) ∧ ¬ s.is Reg.SYS_SUPPLY_EBB ∧ 10 * us ≤ elapsed (vget s.supply.smAt 0) t then
      ((s.at t).ebbCounted vbat).ebbTaken
    else s.at t) := rfl

/-- Settles O43. -/
theorem supplyMonitors : Obligations.SupplyMonitors := by
  unfold Obligations.SupplyMonitors
  intro t s
  refine ⟨fun m hr hh => ⟨fun ho => ⟨?_, ?_⟩, fun ho => ?_, fun ho hw => ?_, fun ho hp hm hw => ?_⟩, fun m h => ⟨?_, ?_⟩,
    fun hp ho hl he => ?_, fun h => ?_, fun vbat hp he => ⟨fun ho hb => ?_, fun ho hb => ?_⟩, fun vbat => ⟨fun h => ?_, fun h => ?_⟩,
    fun hp hr hl he => ?_, fun h => ?_⟩
  case refine_1 =>
    obtain ⟨hout, hinit, hat⟩ := State.smChange_shows (s.at t) m (out := 1) m.isLt (by decide)
    exact ⟨_, (exec_supplyMonitorTrip t m s).trans (congrArg Host.Outcome.next (if_pos (by rw [State.at_smRuns, State.at_is, hr, hh, ho]; rfl))), hout, hinit, hat,
      fun a ha => State.smChange_reg_ne (s.at t) m 1 ha⟩
  case refine_2 => exact (exec_supplyMonitorRelease t m s).trans (congrArg Host.Outcome.next (if_neg (by rw [State.at_is, ho]; simp)))
  case refine_3 => exact (exec_supplyMonitorTrip t m s).trans (congrArg Host.Outcome.next (if_neg (by rw [State.at_is, ho]; simp)))
  case refine_4 =>
    obtain ⟨hout, hinit, hat⟩ := State.smChange_shows (s.at t) m (out := 0) m.isLt (by decide)
    have hwake : ((s.at t).smChange m 0).is Reg.SYS_WAKE_EBB_WAKE = s.is Reg.SYS_WAKE_EBB_WAKE :=
      State.is_congr (State.get_congr (State.smChange_reg_ne (s.at t) m 0 (by simp only [Reg.SM_STAT_addr]; omega)))
    obtain ⟨hget, hsup, hsens⟩ := State.smReleased_shows ((s.at t).smChange m 0) m (fun ⟨h1, h2, h3⟩ => by
      rcases hw with hw | hw | hw
      · exact hw h2
      · exact hw h1
      · exact Bool.false_ne_true (hw.symm.trans (hwake.symm.trans h3)))
    refine ⟨_, (exec_supplyMonitorRelease t m s).trans (congrArg Host.Outcome.next (if_pos (by rw [State.at_smRuns, State.at_is, hr, hh, ho]; rfl))), ?_, ?_, ?_, hsens⟩
    · exact (hget _ (by simp only [Reg.SYS_SUPPLY_addr]; omega)).trans hout
    · exact (hget _ (by simp only [Reg.SYS_SUPPLY_addr]; omega)).trans hinit
    · exact (congrArg (fun k => vget (Supply.smAt k) m.val) hsup).trans hat
  case refine_5 =>
    have hwake {f : Fld} (hf : f.addr < 0x2480) : ((s.at t).smChange m 0).get f = s.get f :=
      State.get_congr (State.smChange_reg_ne (s.at t) m 0 (by simp only [Reg.SM_STAT_addr]; omega))
    have hcode : ((s.at t).smChange m 0).wakeCode 3 = (s.at t).wakeCode 3 := by
      simp only [State.wakeCode, State.wakeHigh, State.wakeTimeUp, hwake (f := Reg.SYS_WAKE_WAKE_FILT) (by decide),
        hwake (f := Reg.SYS_WAKE_WAKE_T) (by decide)]
      rfl
    have hrel : ((s.at t).smChange m 0).smReleased m = ((s.at t).smChange m 0).resetTo .wake ((s.at t).wakeCode 3) := by
      unfold State.smReleased
      rw [if_neg (fun h => by omega), if_pos ⟨hm, hp, (State.is_congr (hwake (by decide))).trans hw⟩, hcode]
    obtain ⟨hpow, hhold, -, hsrc, -⟩ := State.resetTo_woken ((s.at t).smChange m 0) (State.wakeCode_lt (s.at t) (own := 3) (by decide))
    exact ⟨_, (exec_supplyMonitorRelease t m s).trans (congrArg Host.Outcome.next ((if_pos (by rw [State.at_smRuns, State.at_is, hr, hh, ho]; rfl)).trans hrel)),
      hpow, hhold, hsrc⟩
  case refine_6 =>
    exact (exec_supplyMonitorTrip t m s).trans (congrArg Host.Outcome.next (if_neg (by rcases h with h | h <;> simp [State.at_smRuns, h])))
  case refine_7 =>
    exact (exec_supplyMonitorRelease t m s).trans (congrArg Host.Outcome.next (if_neg (by rcases h with h | h <;> simp [State.at_smRuns, h])))
  case refine_8 =>
    exact ⟨_, congrArg Host.Outcome.next (if_pos ⟨hp, ho, Bool.eq_false_iff.1 hl, he⟩),
      State.get_set_of_lt (s.at t) Reg.SYS_SUPPLY_SENS_LOW (by decide) (by decide),
      fun a ha => State.reg_set_ne (s.at t) Reg.SYS_SUPPLY_SENS_LOW _ ha⟩
  case refine_9 =>
    refine congrArg Host.Outcome.next (if_neg fun ⟨hp, ho, hl, he⟩ => ?_)
    rcases h with h | h | h | h
    · exact h hp
    · exact Bool.false_ne_true (h.symm.trans ho)
    · exact hl h
    · exact absurd he (Nat.not_le.2 h)
  case refine_10 =>
    refine ⟨_, (exec_ebbActive t vbat s).trans (congrArg Host.Outcome.next (if_pos ⟨hp, ho, Bool.eq_false_iff.1 hb, he⟩)), ?_, ?_, fun hrdy => ?_⟩
    · exact (State.ebbTaken_get _ (by decide)).trans (State.ebbCounted_get (s.at t) vbat).1
    · exact (State.ebbTaken_get _ (by decide)).trans (State.ebbCounted_get (s.at t) vbat).2
    · have hready : ((s.at t).ebbCounted vbat).is Reg.REC_STAT_READY = false := by
        have hget : ((s.at t).ebbCounted vbat).get Reg.REC_STAT_READY = s.get Reg.REC_STAT_READY :=
          (State.get_set_ne ((s.at t).set Reg.SYS_SUPPLY_EBB 1) Reg.SYS_SUPPLY_EBB_CNT _ _ (by decide)).trans
            (State.get_set_ne (s.at t) Reg.SYS_SUPPLY_EBB _ _ (by decide))
        exact (State.is_congr hget).trans hrdy
      rw [State.ebbTaken, if_neg (Bool.eq_false_iff.1 hready)]
      rfl
  case refine_11 =>
    refine ⟨_, congrArg Host.Outcome.next (if_pos ⟨hp, Bool.eq_false_iff.1 ho, hb, he⟩), ?_, ?_, fun a ha => ?_⟩
    · exact State.get_set_of_lt (s.at t) Reg.SYS_SUPPLY_EBB (by decide) (by decide)
    · exact State.get_set_ne (s.at t) Reg.SYS_SUPPLY_EBB _ _ (by decide)
    · exact State.reg_set_ne (s.at t) Reg.SYS_SUPPLY_EBB _ ha
  case refine_12 =>
    refine (exec_ebbActive t vbat s).trans (congrArg Host.Outcome.next (if_neg fun ⟨hp, ho, hl, he⟩ => ?_))
    rcases h with h | h | h | h
    · exact hp h
    · exact Bool.false_ne_true (h.symm.trans ho)
    · exact hl h
    · exact absurd he (Nat.not_le.2 h)
  case refine_13 =>
    refine congrArg Host.Outcome.next (if_neg fun ⟨hp, ho, hl, he⟩ => ?_)
    rcases h with h | h | h | h
    · exact hp h
    · exact ho h
    · exact Bool.false_ne_true (h.symm.trans hl)
    · exact absurd he (Nat.not_le.2 h)
  case refine_14 =>
    exact ⟨_, congrArg Host.Outcome.next (if_pos ⟨hp, Bool.eq_false_iff.1 hr, Bool.eq_false_iff.1 hl, he⟩),
      State.get_set_of_lt (s.at t) Reg.SYS_START_LATE (by decide) (by decide),
      fun a ha => State.reg_set_ne (s.at t) Reg.SYS_START_LATE _ ha⟩
  case refine_15 =>
    refine congrArg Host.Outcome.next (if_neg fun ⟨hp, hr, hl, he⟩ => ?_)
    rcases h with h | h | h | h
    · exact h hp
    · exact hr h
    · exact hl h
    · exact absurd he (Nat.not_le.2 h)

/-! ### Standby -/

/-- What field `f` shows after a command. -/
def Out.shows (o : Out) (f : Fld) : Nat := match o with
  | .next s => s.get f
  | _ => 0

/-- A state at standstill, Headland in RUN with SAFE_N high. Bank 0 has a tail whose channel is beyond its four: the register that the
closure result of this channel falls on is SAF_STAT. -/
def farTail : State :=
  (((({ power := .up, weave := { tiles := [(4, 0)] } } : State).set Reg.SYS_STATUS_LOOM_RUN 1).set Reg.SAF_STAT_STATE hsRun).set
    Reg.SAF_STAT_SAFE_N_LVL 1).setBk 0 { tail := some {
      ch := Reg.SAF_STAT_addr - Reg.BNK_CLRES_addr 0 0, start := 0, tStart := 0, tStop := 0, samples := [], count := 0
      peak := 0, peakAt := 0, before := none, drift := none } }

theorem farTail_standstill : farTail.standstill = true ∧ farTail.hs = hsRun ∧ farTail.safeNDrive = true := by decide

set_option maxRecDepth 20000 in
/-- The Loom stop of the standby request changes what SAF_STAT.STATE reads as, and SAFE_N stays high. -/
theorem farTail_safeN : Out.shows (exec (.standbyRequest 0 0x5EA1) farTail) Reg.SAF_STAT_SAFE_N_LVL = 1 := by decide

/-- Refutes O44: the statement is about every state, and in a state whose bank 0 has a tail of a channel beyond its four the closure result
that the Loom stop writes falls on SAF_STAT, so that a keyed request at standstill does not take SAFE_N low. -/
theorem not_domainsAndStandby : ¬ Obligations.DomainsAndStandby := by
  unfold Obligations.DomainsAndStandby
  intro h
  obtain ⟨hstill, hhs, hdrive⟩ := farTail_standstill
  have hne : farTail.hs ≠ hsHalt := by rw [hhs]; decide
  obtain ⟨s', hx, -, hlvl, -⟩ := ((h.2 0 farTail).1 0x5EA1 rfl).1 ⟨rfl, rfl, hstill, hne, rfl⟩
  have hshow := farTail_safeN
  rw [hx] at hshow
  rw [if_pos hdrive] at hlvl
  exact absurd (hlvl.symm.trans hshow) (by decide)

end Sys2Proof.Machine
end

section
/-! PROOF. The refutation of O16. The statement is about every state, also one in which a bank's tail names a channel that no bank has. -/
namespace Sys2Proof.Machine

/-- The request of `cutTail`. -/
def farRequest : Request :=
  { sht := 0, idx := 0, ch := 0, kind := 1, time := 100, commit := 0, placed := false, waiting := false }

/-- Headland is in RUN. Bank 0 has a request to place and a tail of a channel beyond its four: the register that the closure result of
this channel falls on is SAF_STAT. -/
def cutTail : State :=
  (({ power := .up, weave := { tiles := [(4, 0)] } } : State).set Reg.SAF_STAT_STATE hsRun).setBk 0 { reqs := [farRequest], tail := some {
      ch := Reg.SAF_STAT_addr - Reg.BNK_CLRES_addr 0 0, start := 0, tStart := 0, tStop := 0, samples := [], count := 0
      peak := 0, peakAt := 0, before := none, drift := none } }

/-- The requests that bank `b` holds after a command. -/
def Out.reqs (o : Out) (b : Nat) : List Request := match o with
  | .next s => (s.bk b).reqs
  | _ => []

theorem cutTail_asks : (cutTail.bk 0).reqs = [farRequest] ∧ cutTail.cutInForce = false
    ∧ cutTail.minOff 0 { farRequest with placed := true, time := laterOf (laterOf farRequest.time (addW farRequest.commit us)) 0 }
      (laterOf (laterOf farRequest.time (addW farRequest.commit us)) 0) = none := by decide

/-- The tail's end at the commit makes SAF_STAT.STATE read 7, so that the request is cancelled as in a cut. -/
theorem cutTail_cancels : Out.reqs (exec (.bankCommit 0 0) cutTail) 0 = [] := by decide +kernel

/-- Refutes O16: in a state whose bank 0 has a tail of a channel beyond its four, the closure result that the commit writes falls on SAF_STAT,
and the request that the commit should place is cancelled. -/
theorem not_bankRequests : ¬ Obligations.BankRequests := by
  unfold Obligations.BankRequests
  intro h
  obtain ⟨hreqs, hcut, hoff⟩ := cutTail_asks
  have hfind : (cutTail.bk 0).reqs.find? (fun q => !q.placed) = some farRequest := by rw [hreqs]; rfl
  obtain ⟨s', hx, hmoved, -⟩ := (h 0 0 cutTail).1 farRequest hfind hcut hoff
  have hshow := cutTail_cancels
  rw [hx] at hshow
  have hlen := congrArg List.length (hmoved.symm.trans hshow)
  rw [List.length_map] at hlen
  exact absurd (hlen.symm.trans (congrArg List.length hreqs)) (by decide)

end Sys2Proof.Machine
end

section
/-!
PROOF. Shuttles and pulse outputs (O25 to O28), continuous mode and stops (O20).
-/
namespace Sys2Proof.Machine

/-! ### Pulse outputs -/

/-- The plan of the next edge leaves all of a pulse output but the plan. -/
theorem State.planEdge_po (s : State) {p : Nat} (hp : p < 2) (u : Update) :
    ∃ at_ delayed, (s.planEdge p u).po p = { s.po p with at_, delayed } := by
  unfold State.planEdge
  extract_lets k
  split <;> exact ⟨_, _, State.po_setPo _ _ hp⟩

theorem State.planEdge_regs (s : State) (p : Nat) (u : Update) : (s.planEdge p u).regs = s.regs := by
  unfold State.planEdge
  extract_lets k
  split <;> rfl

theorem State.outLevels_keeps_po (s : State) (p : Nat) (k : PulseOut) : (s.outLevels p k).upd = k.upd ∧ (s.outLevels p k).last = k.last
    ∧ (s.outLevels p k).run = k.run ∧ (s.outLevels p k).idx = k.idx ∧ (s.outLevels p k).lastAt = k.lastAt := by
  unfold State.outLevels
  split <;> exact ⟨rfl, rfl, rfl, rfl, rfl⟩

/-- An output that begins to run has taken the update and runs. -/
theorem State.outStart_runs (s : State) {p : Nat} (hp : p < 2) (u : Update) (k : PulseOut) :
    ((s.outStart p u k).po p).upd = k.upd ∧ ((s.outStart p u k).po p).last = k.last ∧ ((s.outStart p u k).po p).run = true
      ∧ (s.outStart p u k).regs = s.regs := by
  unfold State.outStart
  extract_lets idx k₁ k₂ same
  obtain ⟨hu, hl, hr, -, -⟩ := s.outLevels_keeps_po p k₁
  have hplan (k₃ : PulseOut) (h₁ : k₃.upd = k.upd) (h₂ : k₃.last = k.last) (h₃ : k₃.run = true) :
      (((s.setPo p k₃).planEdge p u).po p).upd = k.upd ∧ (((s.setPo p k₃).planEdge p u).po p).last = k.last
        ∧ (((s.setPo p k₃).planEdge p u).po p).run = true ∧ ((s.setPo p k₃).planEdge p u).regs = s.regs := by
    obtain ⟨_, _, hk⟩ := (s.setPo p k₃).planEdge_po hp u
    rw [hk, State.po_setPo _ _ hp]
    exact ⟨h₁, h₂, h₃, State.planEdge_regs _ _ _⟩
  split
  · refine hplan _ ?_ ?_ ?_ <;> split
    exacts [hu, hu, hl, hl, hr, hr]
  · exact hplan _ rfl rfl rfl

theorem PulseOut.low_keeps (k : PulseOut) (t : Word) : (k.low t).upd = k.upd ∧ (k.low t).last = k.last ∧ (k.low t).run = false := by
  unfold PulseOut.low
  split
  · exact ⟨rfl, rfl, rfl⟩
  · split
    · next h => exact ⟨rfl, rfl, by simpa using (Bool.and_eq_true_iff.1 h).1⟩
    · split <;> exact ⟨rfl, rfl, rfl⟩

theorem PulseOut.low_of_low {k : PulseOut} (t : Word) (h : (k.a || k.b || k.z) = false) :
    (k.low t).at_ = none ∧ (k.low t).a = false ∧ (k.low t).b = false ∧ (k.low t).z = false := by
  unfold PulseOut.low
  rw [if_pos (by rw [h]; rfl)]
  simp only [Bool.or_eq_false_iff] at h
  exact ⟨rfl, h.1.1, h.1.2, h.2⟩

theorem PulseOut.low_falls {k : PulseOut} {t : Word} (h : (k.a || k.b || k.z) = true) (hr : k.run = true)
    (hs : (k.spaced t).2 = false) : k.low t = k.fallen t := by
  unfold PulseOut.low
  rw [if_neg (by rw [h]; decide), if_neg (by rw [hr]; simp), if_neg (by rw [hs]; decide)]

theorem PulseOut.low_waits {k : PulseOut} {t : Word} (h : (k.a || k.b || k.z) = true) (hr : k.run = true)
    (hs : (k.spaced t).2 = true) : k.low t = { k with run := false, at_ := some (k.spaced t).1, delayed := true } := by
  unfold PulseOut.low
  rw [if_neg (by rw [h]; decide), if_neg (by rw [hr]; simp), if_pos hs]

/-- A pulse output takes an update once, and runs where it is enabled and an angle exists. -/
theorem State.outUpdate_takes (s : State) {p : Nat} (hp : p < 2) (u : Update) :
    ((s.outUpdate p u).po p).upd = none ∧ ((s.outUpdate p u).po p).last = some u ∧ ((s.outUpdate p u).po p).run = s.outRuns p
      ∧ (s.outUpdate p u).regs = s.regs := by
  unfold State.outUpdate
  extract_lets old moved k ppr edges perZ base
  cases hr : s.outRuns p with
  | false =>
    obtain ⟨hu, hl, hrun⟩ := k.low_keeps s.now
    rw [if_pos (by decide)]
    rw [State.po_setPo _ _ hp]
    exact ⟨hu, hl, hrun, rfl⟩
  | true =>
    rw [if_neg (by decide)]
    split
    · next h =>
      have hrun : k.run = true := (Bool.and_eq_true_iff.1 h).1
      split
      · rw [State.po_setPo _ _ hp]
        exact ⟨rfl, rfl, hrun, rfl⟩
      · obtain ⟨_, _, hk⟩ := (s.setPo p k).planEdge_po hp u
        rw [hk, State.po_setPo _ _ hp]
        exact ⟨rfl, rfl, hrun, State.planEdge_regs _ _ _⟩
    · exact s.outStart_runs hp u _

theorem State.outUpdate_stopped (s : State) {p : Nat} (hp : p < 2) (u : Update) (h : s.outRuns p = false) :
    ∃ d : Int, (s.outUpdate p u).po p = ({ s.po p with upd := none, last := some u, ahead := d } : PulseOut).low s.now := by
  unfold State.outUpdate
  extract_lets old moved k
  rw [if_pos (by rw [h]; rfl)]
  exact ⟨_, State.po_setPo _ _ hp⟩

theorem exec_pulseOutputUpdate {s : State} (t : Word) (p : Fin 2) {u : Update} (h : (s.po p).upd = some u) :
    exec (.pulseOutputUpdate t p) s = .next ((s.at t).outUpdate p u) := by
  change Host.Outcome.next (match (s.po p).upd with | some u => (s.at t).outUpdate p u | none => s.at t) = _
  rw [h]

/-! #### Edges -/

section
variable (s : State) {p : Nat} (late : Fld) {c : Word} {u : Update}

/-- The register word of `late` after an edge. -/
theorem State.get_late (hw : late.lo + late.wid ≤ 48) (d : Bool) :
    (if d then s.inc late else s).get late = if d then min (s.get late + 1) late.max else s.get late := by
  split
  · exact State.get_inc s _ hw
  · rfl

theorem State.issueEdge_idle (h : (s.po p).last = none ∨ (s.po p).at_.all (fun c => !notBefore s.now c) = true) :
    s.issueEdge p late = s := by
  unfold State.issueEdge
  extract_lets k
  split
  · next c u hc hu =>
    rcases h with h | h
    · exact absurd (hu.symm.trans h) (by simp)
    · change (s.po p).at_ = some c at hc
      rw [hc] at h
      rw [if_neg (by simpa using h)]
  · rfl

/-- The fall that is left of an output that no longer runs. -/
theorem State.issueEdge_falls (hc : (s.po p).at_ = some c) (hu : (s.po p).last = some u) (hr : (s.po p).run = false)
    (hn : notBefore s.now c = true) :
    s.issueEdge p late = (if (s.po p).delayed then s.inc late else s).setPo p ((s.po p).fallen c) := by
  unfold State.issueEdge
  simp only [hc, hu, hn, hr, if_true, Bool.not_false]

/-- The output after its next edge. -/
def PulseOut.stepped (k : PulseOut) (c : Word) : PulseOut :=
  { k with
    idx := (k.idx + 1) % k.edges, lastAt := some c, at_ := none, delayed := false
    ahead := k.ahead + ((k.edgeAngle (k.idx + 2) - k.edgeAngle (k.idx + 1)).toNat : Nat) }

theorem State.issueEdge_runs (hc : (s.po p).at_ = some c) (hu : (s.po p).last = some u) (hr : (s.po p).run = true)
    (hn : notBefore s.now c = true) : let s₁ := if (s.po p).delayed then s.inc late else s
    s.issueEdge p late = (s₁.setPo p (s₁.outLevels p ((s.po p).stepped c))).planEdge p u := by
  unfold State.issueEdge
  simp only [hc, hu, hn, hr, if_true, Bool.not_true, Bool.false_eq_true, if_false, PulseOut.stepped]

theorem State.outLevels_encoder (k : PulseOut) : let q := (k.idx + Config.encPhase) % 4
    (s.outLevels 0 k).a = decide (q < 2) ∧ (s.outLevels 0 k).b = decide (q = 1 ∨ q = 2) := by
  refine ⟨?_, rfl⟩
  change decide _ = _
  congr 1
  apply propext
  omega

theorem State.outLevels_tach (k : PulseOut) : (s.outLevels 1 k).a = decide (k.idx % 2 = 0) := rfl

end

/-- The edge that a running output issues at its instant. -/
theorem State.issueEdge_edge (s : State) {p : Nat} (hp : p < 2) (late : Fld) (hw : late.lo + late.wid ≤ 48) {c : Word}
    (hc : (s.po p).at_ = some c) (hu : (s.po p).last.isSome = true) (hr : (s.po p).run = true) (hn : notBefore s.now c = true) :
    let k := s.po p
    let s₁ := if k.delayed then s.inc late else s
    let s' := s.issueEdge p late
    (s'.po p).idx = (k.idx + 1) % k.edges ∧ (s'.po p).lastAt = some c ∧ (s'.po p).a = (s₁.outLevels p (k.stepped c)).a
      ∧ (s'.po p).b = (s₁.outLevels p (k.stepped c)).b ∧ s'.get late = if k.delayed then min (s.get late + 1) late.max else s.get late := by
  intro k s₁ s'
  obtain ⟨u, hu⟩ := Option.isSome_iff_exists.1 hu
  have hs : s' = (s₁.setPo p (s₁.outLevels p (k.stepped c))).planEdge p u := s.issueEdge_runs late hc hu hr hn
  obtain ⟨_, _, hk⟩ := (s₁.setPo p (s₁.outLevels p (k.stepped c))).planEdge_po hp u
  obtain ⟨-, -, -, gidx, glast⟩ := s₁.outLevels_keeps_po p (k.stepped c)
  rw [hs, hk, State.po_setPo _ _ hp]
  refine ⟨gidx, glast, rfl, rfl, ?_⟩
  exact (State.get_congr (congrArg (Cells.get regReset · late.addr) (State.planEdge_regs _ _ _))).trans (s.get_late late hw k.delayed)

theorem State.issueEdge_fall (s : State) {p : Nat} (hp : p < 2) (late : Fld) (hw : late.lo + late.wid ≤ 48) {c : Word}
    (hc : (s.po p).at_ = some c) (hu : (s.po p).last.isSome = true) (hr : (s.po p).run = false) (hn : notBefore s.now c = true) :
    let s' := s.issueEdge p late
    (s'.po p).a = false ∧ (s'.po p).b = false ∧ (s'.po p).z = false ∧ (s'.po p).at_ = none ∧ (s'.po p).lastAt = some c
      ∧ s'.get late = if (s.po p).delayed then min (s.get late + 1) late.max else s.get late := by
  intro s'
  obtain ⟨u, hu⟩ := Option.isSome_iff_exists.1 hu
  have hs : s' = (if (s.po p).delayed then s.inc late else s).setPo p ((s.po p).fallen c) := s.issueEdge_falls late hc hu hr hn
  rw [hs, State.po_setPo _ _ hp]
  exact ⟨rfl, rfl, rfl, rfl, rfl, s.get_late late hw _⟩

/-- Settles O28. -/
theorem pulseOutputs : Obligations.PulseOutputs := by
  unfold Obligations.PulseOutputs
  intro t p s k
  refine ⟨fun u hu => ?_, fun hn => ?_, ⟨fun c hc hl hr hn => ?_, fun c hc hl hr hn => ?_, fun h => ?_⟩,
    ⟨fun c hc hl hr hn => ?_, fun c hc hl hr hn => ?_, fun h => ?_⟩⟩
  case refine_1 =>
    obtain ⟨h₁, h₂, h₃, h₄⟩ := (s.at t).outUpdate_takes p.isLt u
    refine ⟨_, exec_pulseOutputUpdate t p hu, h₁, h₂, h₃, h₄, fun hr => ⟨h₃.trans hr, ?_⟩⟩
    obtain ⟨d, hd⟩ := (s.at t).outUpdate_stopped p.isLt u hr
    rw [hd]
    refine ⟨fun h => PulseOut.low_of_low _ h, fun h hrun => ⟨fun hsp => ?_, fun hsp => ?_⟩⟩
    · exact (PulseOut.low_falls (k := { (s.at t).po p with upd := none, last := some u, ahead := d }) h hrun hsp) ▸ ⟨rfl, rfl, rfl, rfl, rfl⟩
    · exact (PulseOut.low_waits (k := { (s.at t).po p with upd := none, last := some u, ahead := d }) h hrun hsp) ▸ ⟨rfl, rfl, rfl, rfl, rfl⟩
  case refine_2 =>
    change Host.Outcome.next (match (s.po p).upd with | some u => (s.at t).outUpdate p u | none => s.at t) = _
    rw [hn]
  case refine_3 =>
    obtain ⟨hi, hla, ha, hb, hg⟩ := (s.at t).issueEdge_edge (p := 0) (by decide) Reg.PLS_CNT_LATE_ENC (by decide) hc hl hr hn
    obtain ⟨la, lb⟩ := State.outLevels_encoder (if (s.po 0).delayed then (s.at t).inc Reg.PLS_CNT_LATE_ENC else s.at t) ((s.po 0).stepped c)
    exact ⟨_, rfl, hi, hla, ⟨ha.trans la, hb.trans lb⟩, hg⟩
  case refine_4 => exact ⟨_, rfl, (s.at t).issueEdge_fall (p := 0) (by decide) Reg.PLS_CNT_LATE_ENC (by decide) hc hl hr hn⟩
  case refine_5 => exact congrArg Host.Outcome.next ((s.at t).issueEdge_idle (p := 0) _ h)
  case refine_6 =>
    obtain ⟨hi, hla, ha, hb, hg⟩ := (s.at t).issueEdge_edge (p := 1) (by decide) Reg.PLS_CNT_LATE_TACH (by decide) hc hl hr hn
    exact ⟨_, rfl, hi, hla, ha, hg⟩
  case refine_7 => exact ⟨_, rfl, (s.at t).issueEdge_fall (p := 1) (by decide) Reg.PLS_CNT_LATE_TACH (by decide) hc hl hr hn⟩
  case refine_8 => exact congrArg Host.Outcome.next ((s.at t).issueEdge_idle (p := 1) _ h)

/-! ### What a Shuttle's service leaves -/

theorem vget_vset_beyond {α : Type} {n : Nat} [Inhabited α] (v : Vector α n) {i : Nat} (x : α) (h : n ≤ i) (j : Nat) :
    vget (vset v i x) j = vget v j := by
  rw [vset, Vector.setIfInBounds_eq_of_size_le h]

/-- The fields of a Shuttle that serving its list and ending its window may write. -/
def shtOwn (n : Nat) : List Fld :=
  [Reg.SHT_STAT_STATE n, Reg.SHT_STAT_CUR n, wholeReg (Reg.SHT_NEXT_addr n), wholeReg (Reg.SHT_LAST_addr n), Reg.SHT_LSTAT_CAUSE n,
    Reg.SHT_LSTAT_CENTRY n, Reg.SHT_CNT0_SKIP_LATE n, Reg.SHT_CNT0_SKIP_STATE n, Reg.SHT_CNT0_CANCEL n, Reg.SHT_CNT1_LISTERR n,
    Reg.SHT_CNT1_DROP_OFF n, Reg.SHT_CNT2_CUT n, Reg.SHT_CNT2_CLAMP n, Reg.SHT_CNT3_GATE_LATE n, Reg.SHT_CNT3_INCOMPLETE n]

/-- `shtOwn`, and the latches of the window monitors. -/
def shtFlds (n : Nat) : Set Fld := {f | f ∈ shtOwn n ∨ Reg.WM_STAT_addr 0 ≤ f.addr}

/-- What serving leaves of a Shuttle. -/
def Shuttle.lasting (k : Shuttle) : Option Update × Option Update × List (Option ListEntry) × Option Word :=
  (k.upd, k.prev, k.list, k.readyAt)

/-- A bank without the requests that Shuttles send it. -/
def Bank.unasked (k : Bank) : Bank := { k with reqs := [], commitAt := none }

/-- What serving the list of Shuttle `n` and ending its window leave between `s` and `s'`. -/
structure Serves (n : Nat) (s s' : State) : Prop where
  now : s'.now = s.now
  regs : Writes (shtFlds n) s s'
  lasting : (s'.sh n).lasting = (s.sh n).lasting
  sigEnd : (s'.sh n).sigEnd = (s.sh n).sigEnd ∨ (s'.sh n).sigEnd = some s.now
  toks : ∀ q x, x ∈ vget s.seqTok q → x ∈ vget s'.seqTok q
  banks : ∀ b, (s'.bk b).unasked = (s.bk b).unasked

section
variable {n : Nat} {s₀ s s' : State}

theorem mem_shtFlds {f : Fld} (h : f ∈ shtOwn n) : f ∈ shtFlds n := .inl h

theorem Serves.refl (n : Nat) (s : State) : Serves n s s :=
  ⟨rfl, .refl _ s, rfl, .inl rfl, fun _ _ h => h, fun _ => rfl⟩

theorem Serves.trans {s₁ : State} (h : Serves n s₀ s₁) (h' : Serves n s₁ s) : Serves n s₀ s :=
  ⟨h'.now.trans h.now, h.regs.trans h'.regs, h'.lasting.trans h.lasting,
    h'.sigEnd.elim (fun e => h.sigEnd.imp e.trans e.trans) fun e => .inr (e.trans (congrArg some h.now)),
    fun q x hx => h'.toks q x (h.toks q x hx), fun b => (h'.banks b).trans (h.banks b)⟩

/-- A change of registers alone. -/
theorem Serves.write (h : Serves n s₀ s) (hn : s'.now = s.now) (hr : Writes (shtFlds n) s s') (hs : s'.shuttles = s.shuttles)
    (ht : s'.seqTok = s.seqTok) (hb : s'.banks = s.banks) : Serves n s₀ s' :=
  h.trans ⟨hn, hr, by rw [State.sh, hs, State.sh], .inl (by rw [State.sh, hs, State.sh]), fun q x hx => by rw [ht]; exact hx,
    fun b => by rw [State.bk, hb, State.bk]⟩

theorem Serves.set (h : Serves n s₀ s) {f : Fld} (hf : f ∈ shtFlds n) (v : Nat) : Serves n s₀ (s.set f v) :=
  h.write rfl ((Writes.refl _ s).set hf v) rfl rfl rfl

theorem Serves.setReg (h : Serves n s₀ s) {a : Nat} (hf : wholeReg a ∈ shtFlds n) (w : Word) : Serves n s₀ (s.setReg a w) :=
  h.write rfl ((Writes.refl _ s).setReg hf w) rfl rfl rfl

theorem Serves.inc (h : Serves n s₀ s) {f : Fld} (hf : f ∈ shtFlds n) : Serves n s₀ (s.inc f) :=
  h.write rfl ((Writes.refl _ s).inc hf) rfl rfl rfl

theorem Serves.report (h : Serves n s₀ s) (src idx code arg : Nat) (time : Option Word) :
    Serves n s₀ (s.report src idx code arg time) := h.write rfl ((Writes.refl _ s).report src idx code arg time) rfl rfl rfl

theorem Serves.setSh (h : Serves n s₀ s) {k : Shuttle} (hk : k.lasting = (s.sh n).lasting)
    (hs : k.sigEnd = (s.sh n).sigEnd ∨ k.sigEnd = some s.now) : Serves n s₀ (s.setSh n k) := by
  refine h.trans ⟨rfl, .of_regs (.refl _ s) rfl, ?_, ?_, fun _ _ hx => hx, fun _ => rfl⟩ <;> by_cases hn : n < 64
  · rw [State.sh_setSh _ _ hn]; exact hk
  · exact congrArg Shuttle.lasting (vget_vset_beyond s.shuttles k (Nat.not_lt.1 hn) n)
  · rw [State.sh_setSh _ _ hn]; exact hs
  · exact .inl (congrArg Shuttle.sigEnd (vget_vset_beyond s.shuttles k (Nat.not_lt.1 hn) n))

theorem Serves.setBk (h : Serves n s₀ s) {b : Nat} {k : Bank} (hk : k.unasked = (s.bk b).unasked) : Serves n s₀ (s.setBk b k) := by
  refine h.trans ⟨rfl, .of_regs (.refl _ s) rfl, rfl, .inl rfl, fun _ _ hx => hx, fun c => ?_⟩
  by_cases hb : b < 12
  · by_cases hc : c = b
    · rw [hc, State.bk_setBk _ _ hb]; exact hk
    · rw [State.bk_setBk_ne _ _ hc]
  · exact congrArg Bank.unasked (vget_vset_beyond s.banks k (Nat.not_lt.1 hb) c)

theorem Serves.foldl {α : Type} {f : State → α → State} {l : List α} (hf : ∀ s, ∀ a ∈ l, Serves n s₀ s → Serves n s₀ (f s a))
    (h : Serves n s₀ s) : Serves n s₀ (l.foldl f s) := by
  induction l generalizing s with
  | nil => exact h
  | cons a l ih => exact ih (fun s b hb => hf s b (List.mem_cons_of_mem a hb)) (hf s a List.mem_cons_self h)

variable (h : Serves n s₀ s)
include h

theorem State.clearLatch_serves (m : Nat) : Serves n s₀ (s.clearLatch m) := by
  have hm (f : Fld) (hf : f.addr = 0x2443 + 8 * m) : f ∈ shtFlds n := .inr (hf ▸ Nat.le_add_right _ _)
  unfold State.clearLatch
  extract_lets c
  split
  · exact h
  · split
    · exact h.set (hm _ rfl) 0
    · exact h.set (hm _ rfl) _

theorem State.periodRise_serves (code : Nat) : Serves n s₀ (s.periodRise code) := by
  unfold State.periodRise
  refine h.foldl fun s m _ h => ?_
  split
  · exact State.clearLatch_serves h m
  · exact h

theorem State.shtSkipAs_serves (i cause : Nat) {f : Fld} (hf : f ∈ shtFlds n) : Serves n s₀ (s.shtSkipAs n i cause f) := by
  have h' : Serves n s₀ (((s.inc f).set (Reg.SHT_LSTAT_CAUSE n) cause).set (Reg.SHT_LSTAT_CENTRY n) i) :=
    ((h.inc hf).set (mem_shtFlds (by simp [shtOwn])) _).set (mem_shtFlds (by simp [shtOwn])) _
  unfold State.shtSkipAs
  extract_lets s₁
  split
  · exact h'.report _ _ _ _ _
  · exact h'

omit h in
theorem skipCounter_mem (n cause : Nat) : skipCounter n cause ∈ shtFlds n := by
  refine mem_shtFlds ?_
  unfold skipCounter
  repeat' split
  all_goals simp [shtOwn]

theorem State.shtSkip_serves (i cause : Nat) : Serves n s₀ (s.shtSkip n i cause) :=
  State.shtSkipAs_serves h i cause (skipCounter_mem n cause)

theorem State.sendTok_serves (m : Nat) (k : GateTok) : Serves n s₀ (s.sendTok m k) :=
  h.trans ⟨rfl, .of_regs (.refl _ s) rfl, rfl, .inl rfl, fun q x hx => by
    unfold State.sendTok
    extract_lets q'
    dsimp only
    by_cases hq : q' < 16
    · by_cases he : q = q'
      · subst he
        rw [vget_vset_same _ _ hq]
        exact List.mem_append_left _ hx
      · rw [vget_vset_ne _ _ he]
        exact hx
    · rw [vget_vset_beyond _ _ (Nat.not_lt.1 hq)]
      exact hx, fun _ => rfl⟩

theorem State.sendRequest_serves (i : Nat) (e : ListEntry) (t : Word) : Serves n s₀ (s.sendRequest n i e t) := h.setBk (by rfl)

theorem State.commitStart_serves (i : Nat) (e : ListEntry) (t a : Word) (late : Nat) : Serves n s₀ (s.commitStart n i e t a late).1 := by
  unfold State.commitStart
  split
  · exact State.sendRequest_serves (h.setSh (by rfl) (.inl (by rfl))) i e t
  · exact State.shtSkip_serves h i skState

theorem State.latePulse_serves (i : Nat) (e : ListEntry) (a : Word) (late : Nat) : Serves n s₀ (s.latePulse n i e a late).1 := by
  unfold State.latePulse
  split
  · exact State.commitStart_serves h i e s.now a late
  · exact State.shtSkip_serves h i skLate

theorem State.startAngle_serves (u : Update) (e : ListEntry) : Serves n s₀ (s.startAngle u e).2 := by
  unfold State.startAngle
  extract_lets rate2
  split
  · exact h.write rfl (.of_regs (.refl _ s) rfl) rfl rfl rfl
  · exact h

theorem State.aimPulse_serves (i : Nat) (e : ListEntry) (u : Update) : Serves n s₀ (s.aimPulse n i e u).1 := by
  have h' := State.startAngle_serves h u e
  unfold State.aimPulse
  extract_lets r a s₁
  split
  · exact h'
  · exact State.latePulse_serves h' _ _ _ _
  · split
    · exact State.latePulse_serves h' _ _ _ _
    · split
      · exact State.commitStart_serves h' _ _ _ _ _
      · exact h'.setSh (by rfl) (.inl (by rfl))

theorem State.planClose_serves (u : Update) (g : Gate) : Serves n s₀ (s.planClose n u g) := by
  unfold State.planClose
  split
  · exact h
  · exact h.setSh (by rfl) (.inl (by rfl))

theorem State.planTick_serves (u : Update) : Serves n s₀ (s.planTick n u) := by
  unfold State.planTick
  extract_lets k
  split
  · exact h
  · split
    · exact h
    · exact h.setSh (by rfl) (.inl (by rfl))

theorem State.openGate_serves (g : Gate) (t : Word) (u : Update) : Serves n s₀ (s.openGate n g t u) := by
  unfold State.openGate
  extract_lets gone st passed k0 g' _ s₁ s₂ s₃ s₄ s₅
  have h₂ : Serves n s₀ s₂ := State.periodRise_serves ((h.setSh (by rfl) (.inl (by rfl))).setReg (mem_shtFlds (by simp [shtOwn])) t) n
  have h₃ : Serves n s₀ s₃ := by
    unfold s₃
    split
    · exact h₂.inc (mem_shtFlds (by simp [shtOwn]))
    · exact h₂
  have h₅ : Serves n s₀ s₅ := by
    have h₄ : Serves n s₀ s₄ := State.sendTok_serves h₃ n _
    unfold s₅
    split
    · exact h₄.report _ _ _ _ _
    · exact h₄
  exact State.planTick_serves (State.planClose_serves h₅ u g') u

theorem State.closeGate_serves (g : Gate) (incomplete : Bool) (t : Word) : Serves n s₀ (s.closeGate n g incomplete t) := by
  unfold State.closeGate
  extract_lets _ s₁ s₂ s₃
  have h₁ : Serves n s₀ s₁ := h.setSh (by rfl) (.inr (by rfl))
  have h₂ : Serves n s₀ s₂ := by
    unfold s₂
    split
    · exact h₁.inc (mem_shtFlds (by simp [shtOwn]))
    · exact h₁
  have h₃ : Serves n s₀ s₃ := (State.sendTok_serves h₂ n _).write rfl (.of_regs (.refl _ _) rfl) rfl rfl rfl
  split
  · exact h₃.report _ _ _ _ _
  · exact h₃

theorem State.commitGate_serves (i : Nat) (e : ListEntry) (t : Word) : Serves n s₀ (s.commitGate n i e t).1 := by
  unfold State.commitGate
  split
  · exact h.setSh (by rfl) (.inl (by rfl))
  · exact State.shtSkip_serves h _ _

theorem State.aimGate_serves (i : Nat) (e : ListEntry) (u : Update) : Serves n s₀ (s.aimGate n i e u).1 := by
  unfold State.aimGate
  split
  · exact h
  · split
    · exact State.commitGate_serves h _ _ _
    · exact h.setSh (by rfl) (.inl (by rfl))
  · split
    · exact State.shtSkipAs_serves h _ _ (mem_shtFlds (by simp [shtOwn]))
    · split
      · exact State.openGate_serves (h.setSh (by rfl) (.inl (by rfl))) _ _ _
      · exact State.shtSkip_serves h _ _

theorem State.shtServe_serves (fuel : Nat) : Serves n s₀ (s.shtServe n fuel) := by
  induction fuel generalizing s with
  | zero => exact h
  | succ fuel ih =>
    unfold State.shtServe
    extract_lets k s₁
    split
    · exact h
    · split
      · next i _ =>
        have h₁ : Serves n s₀ s₁ := h.setSh (by rfl) (.inl (by rfl))
        split
        · next u e _ _ =>
          extract_lets r
          have hr : Serves n s₀ r.1 := by
            unfold r
            split
            · exact State.aimGate_serves h₁ i e u
            · exact State.aimPulse_serves h₁ i e u
          split
          · exact ih (hr.setSh (by rfl) (.inl (by rfl)))
          · exact hr
        · exact h₁
      · split
        · exact h
        · split
          · exact ih (h.setSh (by rfl) (.inl (by rfl)))
          · extract_lets d
            split
            · exact ih (State.shtSkip_serves (h.setSh (by rfl) (.inl (by rfl))) _ _)
            · exact ih (h.setSh (by rfl) (.inl (by rfl)))

theorem State.shtShow_serves : Serves n s₀ (s.shtShow n) :=
  ((h.set (mem_shtFlds (by simp [shtOwn])) _).set (mem_shtFlds (by simp [shtOwn])) _).setReg (mem_shtFlds (by simp [shtOwn])) _

theorem State.serve_serves : Serves n s₀ (s.serve n) := State.shtShow_serves (State.shtServe_serves h 32)

end

section
variable {n : Nat} {s₀ s : State} (h : Serves n s₀ s)
include h

theorem State.cancelRest_serves : Serves n s₀ (s.cancelRest n) := by
  unfold State.cancelRest
  exact (h.setSh (by rfl) (.inl (by rfl))).foldl fun s m _ h => State.shtSkip_serves h m skCancel

theorem State.withdraw_serves (m : Nat) : Serves n s₀ (s.withdraw m) :=
  h.foldl fun _ _ _ h => h.setBk (by rfl)

omit h in
theorem Shuttle.endPulse_lasting (k : Shuttle) (t : Word) : (k.endPulse t).lasting = k.lasting
    ∧ ((k.endPulse t).sigEnd = k.sigEnd ∨ (k.endPulse t).sigEnd = some t) := by
  unfold Shuttle.endPulse
  split
  · split
    · exact ⟨rfl, .inr rfl⟩
    · exact ⟨rfl, .inl rfl⟩
  · exact ⟨rfl, .inl rfl⟩

/-- The Shuttle's pulse is over. -/
theorem Serves.endPulse : Serves n s₀ (s.setSh n { (s.sh n).endPulse s.now with pulse := none }) :=
  h.setSh ((s.sh n).endPulse_lasting s.now).1 ((s.sh n).endPulse_lasting s.now).2

theorem State.endWindow_serves (all : Bool) : Serves n s₀ (s.endWindow n all) := by
  unfold State.endWindow
  extract_lets s₁ k s₂ s₃
  have h₁ : Serves n s₀ s₁ := State.cancelRest_serves h
  have h₂ : Serves n s₀ s₂ := by
    unfold s₂
    split
    · split
      · exact State.closeGate_serves h₁ _ _ _
      · split
        · exact State.shtSkip_serves (h₁.setSh (by rfl) (.inl (by rfl))) _ _
        · exact h₁
    · exact h₁
  split
  · split
    · exact State.shtSkip_serves (State.withdraw_serves h₂.endPulse n) _ _
    · exact h₂
  · exact h₂

theorem State.aimStop_serves (u : Update) : Serves n s₀ (s.aimStop n u) := by
  unfold State.aimStop
  extract_lets k
  split
  · exact h
  · split
    · exact h
    · split
      · split
        · exact h
        · extract_lets x d c s₁
          have h₁ : Serves n s₀ s₁ := h.setSh (by rfl) (.inl (by rfl))
          split
          · exact h₁
          · exact h₁.inc (mem_shtFlds (by simp [shtOwn]))
      · exact h.setSh (by rfl) (.inl (by rfl))

theorem State.aimGateEdges_serves (u : Update) : Serves n s₀ (s.aimGateEdges n u) := by
  unfold State.aimGateEdges
  split
  · split
    · exact State.planTick_serves (State.planClose_serves h _ _) _
    · exact h
  · exact h

theorem State.pulseOver_serves : Serves n s₀ (s.pulseOver n) := State.serve_serves h.endPulse

theorem State.pulseDropped_serves (i : Nat) : Serves n s₀ (s.pulseDropped n i) := by
  unfold State.pulseDropped
  split
  · exact State.pulseOver_serves h
  · exact h

theorem State.pulseCancelled_serves (i cause : Nat) : Serves n s₀ (s.pulseCancelled n i cause) := by
  unfold State.pulseCancelled
  split
  · exact State.pulseOver_serves (State.shtSkip_serves h _ _)
  · exact h

theorem State.pulseCut_serves (i : Nat) : Serves n s₀ (s.pulseCut n i) := by
  unfold State.pulseCut
  split
  · exact State.pulseOver_serves (State.shtSkip_serves h _ _)
  · exact h

end

/-- Serving and ending windows leave the registers before SHTn_STAT. -/
theorem shtFlds_miss {n : Nat} {g : Fld} (hn : n < 64) (h : g.addr < Reg.SHT_STAT_addr n) : ∀ f ∈ shtFlds n, f.misses g := by
  simp only [Reg.SHT_STAT_addr] at h
  rintro f (hf | hf)
  · simp only [shtOwn, List.mem_cons, List.not_mem_nil, or_false] at hf
    rcases hf with rfl | rfl | rfl | rfl | rfl | rfl | rfl | rfl | rfl | rfl | rfl | rfl | rfl | rfl | rfl <;>
      exact .inl (by simp only [wholeReg, Reg.SHT_NEXT_addr, Reg.SHT_LAST_addr]; omega)
  · simp only [Reg.WM_STAT_addr] at hf
    exact .inl (by omega)

/-! ### Gates -/

section
variable (s : State) {n : Nat} (hn : n < 64) (u : Update)

theorem State.shtShow_sh (m k : Nat) : (s.shtShow m).sh k = s.sh k := rfl

theorem State.shtShow_seqTok (m : Nat) : (s.shtShow m).seqTok = s.seqTok := rfl

theorem State.planClose_seqTok (m : Nat) (g : Gate) : (s.planClose m u g).seqTok = s.seqTok ∧ (s.planClose m u g).regs = s.regs := by
  unfold State.planClose; split <;> exact ⟨rfl, rfl⟩

theorem State.planTick_seqTok (m : Nat) : (s.planTick m u).seqTok = s.seqTok ∧ (s.planTick m u).regs = s.regs := by
  unfold State.planTick
  extract_lets k
  split
  · exact ⟨rfl, rfl⟩
  · split <;> exact ⟨rfl, rfl⟩

include hn

theorem State.planClose_sh {g : Gate} (hg : (s.sh n).gate = some g) :
    ∃ close, (s.planClose n u g).sh n = { s.sh n with gate := some { g with close } } := by
  unfold State.planClose
  split
  · exact ⟨g.close, by rw [← hg]⟩
  · exact ⟨_, State.sh_setSh _ _ hn⟩

theorem State.planTick_sh {g : Gate} (hg : (s.sh n).gate = some g) :
    ∃ tickAt tickLate, (s.planTick n u).sh n = { s.sh n with gate := some { g with tickAt, tickLate } } := by
  unfold State.planTick
  extract_lets k
  split
  · next h => exact absurd (h.symm.trans hg) (by simp)
  · next g' h =>
    obtain rfl : g' = g := Option.some.inj (h.symm.trans hg)
    split
    · exact ⟨g'.tickAt, g'.tickLate, by rw [← hg]⟩
    · exact ⟨_, _, State.sh_setSh _ _ hn⟩

end

/-- The registers of a Shuttle and of the window monitors that follow SHTn_LAST. -/
def afterLast (n : Nat) : Set Fld := {f | Reg.SHT_LAST_addr n < f.addr}

theorem State.periodRise_writes {F : Set Fld} {s₀ s : State} (h : Writes F s₀ s) (hF : ∀ f : Fld, Reg.WM_STAT_addr 0 ≤ f.addr → f ∈ F)
    (code : Nat) : Writes F s₀ (s.periodRise code) := by
  have hm (m : Nat) (f : Fld) (hf : f.addr = 0x2443 + 8 * m) : f ∈ F := hF f (hf ▸ Nat.le_add_right _ _)
  unfold State.periodRise
  refine h.foldl fun s m _ h => ?_
  split
  · unfold State.clearLatch
    extract_lets c
    split
    · exact h
    · split
      · exact h.set (hm m _ rfl) 0
      · exact h.set (hm m _ rfl) _
  · exact h

theorem State.sendTok_seqTok (s : State) (n : Nat) (k : GateTok) :
    vget (s.sendTok n k).seqTok (s.get (Reg.SHT_GATE_SEQ n)) = vget s.seqTok (s.get (Reg.SHT_GATE_SEQ n)) ++ [k] :=
  vget_vset_same _ _ (State.get_lt s (Reg.SHT_GATE_SEQ n))

theorem State.periodRise_same (s : State) (code : Nat) : (s.periodRise code).seqTok = s.seqTok ∧ (s.periodRise code).shuttles = s.shuttles :=
  have h := State.periodRise_keeps s code (Nat.and_self _) (.refl _ s)
  ⟨h.same .seqTok (by decide), h.same .shuttles (by decide)⟩

/-- What a gate's opening writes and sends before its edges are planned. -/
def State.gateOpened (s : State) (n : Nat) (g : Gate) (t : Word) : State :=
  let s := (s.setSh n { s.sh n with gate := some g }).setReg (Reg.SHT_LAST_addr n) t
  let s := s.periodRise n
  let s := if g.late then s.inc (Reg.SHT_CNT3_GATE_LATE n) else s
  let s := s.sendTok n (.opening n t)
  if s.is (Reg.SHT_CFG_REP_START n) then
      s.report 3 n 4 (g.idx * 2 ^ 37 + (if g.late then 2 ^ 36 else 0)) (some t) else s

theorem State.gateOpened_shows (s : State) {n : Nat} (hn : n < 64) (g : Gate) (t : Word) :
    (s.gateOpened n g t).sh n = { s.sh n with gate := some g } ∧ (s.gateOpened n g t).reg (Reg.SHT_LAST_addr n) = t
      ∧ vget (s.gateOpened n g t).seqTok (s.get (Reg.SHT_GATE_SEQ n))
        = vget s.seqTok (s.get (Reg.SHT_GATE_SEQ n)) ++ [.opening n t] := by
  unfold State.gateOpened
  extract_lets _ s₁ s₂ s₃ s₄
  obtain ⟨htok, hsh⟩ := s₁.periodRise_same n
  have h₂ : Writes (afterLast n) s₁ s₂ := State.periodRise_writes (.refl _ s₁) (fun f hf => by
    simp only [Reg.WM_STAT_addr] at hf; simp only [afterLast, Reg.SHT_LAST_addr, Set.mem_ofPred_eq]; omega) n
  have h₃ : Writes (afterLast n) s₁ s₃ ∧ s₃.seqTok = s.seqTok ∧ s₃.shuttles = s₁.shuttles := by
    unfold s₃
    split
    · exact ⟨h₂.inc (by simp [afterLast]), htok, hsh⟩
    · exact ⟨h₂, htok, hsh⟩
  obtain ⟨hw, htok, hsh⟩ := h₃
  have hq : s₃.get (Reg.SHT_GATE_SEQ n) = s.get (Reg.SHT_GATE_SEQ n) :=
    (hw _ fun f hf => .inl (by simp only [afterLast, Reg.SHT_LAST_addr, Set.mem_ofPred_eq] at hf; simp only []; omega)).trans
      (State.get_congr (Cells.get_set_ne regReset s.regs t (by simp only [Reg.SHT_LAST_addr]; omega)))
  have h₄ : s₄.sh n = { s.sh n with gate := some g } ∧ s₄.reg (Reg.SHT_LAST_addr n) = t
      ∧ vget s₄.seqTok (s.get (Reg.SHT_GATE_SEQ n)) = vget s.seqTok (s.get (Reg.SHT_GATE_SEQ n)) ++ [.opening n t] := by
    refine ⟨?_, ?_, ?_⟩
    · change vget s₃.shuttles n = _
      rw [hsh]
      exact State.sh_setSh _ _ hn
    · exact (hw.reg (a := Reg.SHT_LAST_addr n) fun f hf => by
        simp only [afterLast, Set.mem_ofPred_eq] at hf; omega).trans (Cells.get_set_same regReset _ _ t)
    · rw [← hq]
      exact (State.sendTok_seqTok s₃ n _).trans (by rw [htok])
  split
  · exact h₄
  · exact h₄

/-- A gate that has opened. -/
theorem State.openGate_shows (s : State) {n : Nat} (hn : n < 64) (g : Gate) (t : Word) (u : Update) :
    (∃ g', ((s.openGate n g t u).sh n).gate = some g' ∧ g'.opened = true ∧ g'.at_ = t ∧ g'.ent = g.ent ∧ g'.issued = g.issued)
      ∧ (s.openGate n g t u).reg (Reg.SHT_LAST_addr n) = t
      ∧ vget (s.openGate n g t u).seqTok (s.get (Reg.SHT_GATE_SEQ n))
        = vget s.seqTok (s.get (Reg.SHT_GATE_SEQ n)) ++ [.opening n t] := by
  have hform : ∃ g', g'.opened = true ∧ g'.at_ = t ∧ g'.ent = g.ent ∧ g'.issued = g.issued
      ∧ s.openGate n g t u = ((s.gateOpened n g' t).planClose n u g').planTick n u := by
    refine ⟨_, ?_, ?_, ?_, ?_, rfl⟩ <;> rfl
  obtain ⟨g', ho, ha, he, hi, heq⟩ := hform
  obtain ⟨hsh, hlast, htok⟩ := s.gateOpened_shows hn g' t
  obtain ⟨hct, hcr⟩ := (s.gateOpened n g' t).planClose_seqTok u n g'
  obtain ⟨htt, htr⟩ := ((s.gateOpened n g' t).planClose n u g').planTick_seqTok u n
  obtain ⟨c, hc⟩ := (s.gateOpened n g' t).planClose_sh hn u (g := g') (congrArg Shuttle.gate hsh)
  obtain ⟨a, l, ht⟩ := ((s.gateOpened n g' t).planClose n u g').planTick_sh hn u (g := { g' with close := c }) (congrArg Shuttle.gate hc)
  rw [heq]
  refine ⟨⟨_, congrArg Shuttle.gate ht, ho, ha, he, hi⟩, ?_, ?_⟩
  · exact (congrArg (Cells.get regReset · _) (htr.trans hcr)).trans hlast
  · rw [htt, hct]
    exact htok

section
variable {s : State} (t : Word) (n : Fin 64) {g : Gate} {u : Update} {c : Word}

theorem State.at_sh (s : State) (t : Word) (n : Nat) : (s.at t).sh n = s.sh n := rfl

theorem exec_gateOpen (hg : (s.sh n).gate = some g) (hu : (s.sh n).prev = some u) : exec (.gateOpen t n) s = .next
    (if ¬ g.opened ∧ notBefore t g.at_ then ((s.at t).openGate n g g.at_ u).shtShow n else s.at t) := by
  change execGateOpen t n s = _
  unfold execGateOpen
  simp only [State.at_sh, hg, hu]

theorem exec_gateOpenCommit {i : Nat} {a : Word} {e : ListEntry} (hcur : (s.sh n).cur = some i) (hcand : (s.sh n).cand = some (c, a))
    (he : (s.sh n).list.getD i none = some e) (hf : s.get (Reg.SHT_CFG_FUNC n) = fnGate) (hg : (s.sh n).gate = none)
    (hh : sdiff c t ≤ s.horizon n) (ha : s.gateAllowed n = true) : exec (.gateOpenCommit t n) s
      = .next (((s.at t).setSh n { s.sh n with cur := none, cand := none, gate := some (newGate i e c false) }).shtShow n) := by
  have hallow : (s.at t).commitGate n i e c
      = ((s.at t).setSh n { s.sh n with cur := none, cand := none, gate := some (newGate i e c false) }, false) := if_pos ha
  change execGateOpenCommit t n s = _
  unfold execGateOpenCommit
  simp only [State.at_sh, hcur, hcand, he, hallow]
  exact congrArg Host.Outcome.next (if_pos ⟨hf, hg, hh⟩)

theorem gateOpenCommit_idles (hcand : (s.sh n).cand = none) : Idles (.gateOpenCommit t n) s t := by
  change execGateOpenCommit t n s = _
  unfold execGateOpenCommit
  simp only [State.at_sh, hcand]
  split <;> simp_all

/-- A tick issued (R277 to R279). -/
def State.tickIssued (s : State) (n : Nat) (g : Gate) (c : Word) : State :=
  let s := s.sendTok n (.tick n g.tick c)
  let s := if g.tickLate then s.inc (Reg.SHT_CNT3_TICK_LATE n) else s
  let g := { g with
    tick := g.tick + 1, issued := g.issued + 1, tickAt := none, tickDone := false, tickLate := false }
  s.setSh n { s.sh n with gate := some g, lastTick := some c }

theorem exec_gridTick (hg : (s.sh n).gate = some g) (hu : (s.sh n).prev = some u) (hc : g.tickAt = some c) :
    exec (.gridTick t n) s = .next
      (if g.opened ∧ notBefore t c then (((s.at t).tickIssued n g c).planTick n u).shtShow n else s.at t) := by
  change execGridTick t n s = _
  unfold execGridTick
  simp only [State.at_sh, hg, hu, hc, State.tickIssued]

theorem exec_gateClose (hg : (s.sh n).gate = some g) (hc : g.close = some c) : exec (.gateClose t n) s = .next
    (if g.opened ∧ notBefore t c then ((s.at t).closeGate n g false c).serve n else s.at t) := by
  change execGateClose t n s = _
  unfold execGateClose
  simp only [State.at_sh, hg, hc]

theorem gridTick_idles (hg : (s.sh n).gate = some g) (h : g.opened = false ∨ ∀ c, g.tickAt = some c → notBefore t c = false) :
    Idles (.gridTick t n) s t := by
  change execGridTick t n s = _
  unfold execGridTick
  simp only [State.at_sh, hg]
  split
  · next g' u hg' hu =>
    obtain rfl : g = g' := Option.some.inj hg'
    split
    · next c hc =>
      refine congrArg Host.Outcome.next (if_neg fun ⟨ho, hn⟩ => ?_)
      rcases h with h | h
      · exact Bool.false_ne_true (h.symm.trans ho)
      · exact Bool.false_ne_true ((h c hc).symm.trans hn)
    · rfl
  · rfl

theorem gateClose_idles (hg : (s.sh n).gate = some g) (h : g.opened = false) : Idles (.gateClose t n) s t := by
  change execGateClose t n s = _
  unfold execGateClose
  simp only [State.at_sh, hg, h, Bool.false_eq_true, false_and, if_false]
  split <;> rfl

theorem exec_gateCloseCommit (hg : (s.sh n).gate = some g) : exec (.gateCloseCommit t n) s = .next
    (if g.opened ∧ g.close.any (fun c => decide (sdiff c t ≤ s.horizon n)) then
        ((s.at t).setSh n { s.sh n with gate := some { g with closeDone := true } }).shtShow n else s.at t) := by
  change execGateCloseCommit t n s = _
  unfold execGateCloseCommit
  simp only [State.at_sh, hg]
  rfl

theorem exec_gridTickCommit (hg : (s.sh n).gate = some g) : exec (.gridTickCommit t n) s = .next
    (if g.opened ∧ g.tickAt.any (fun c => decide (sdiff c t ≤ s.horizon n)) then
        ((s.at t).setSh n { s.sh n with gate := some { g with tickDone := true } }).shtShow n else s.at t) := by
  change execGridTickCommit t n s = _
  unfold execGridTickCommit
  simp only [State.at_sh, hg]
  rfl

/-- Without a gate no gate command has anything to do. -/
theorem idles_of_no_gate (hg : (s.sh n).gate = none) : Idles (.gateOpen t n) s t ∧ Idles (.gateClose t n) s t
    ∧ Idles (.gateCloseCommit t n) s t ∧ Idles (.gridTickCommit t n) s t ∧ Idles (.gridTick t n) s t := by
  refine ⟨?_, ?_, ?_, ?_, ?_⟩
  · change execGateOpen t n s = _
    unfold execGateOpen
    simp only [State.at_sh, hg]
  · change execGateClose t n s = _
    unfold execGateClose
    simp only [State.at_sh, hg]
  · change execGateCloseCommit t n s = _
    unfold execGateCloseCommit
    simp only [State.at_sh, hg]
  · change execGridTickCommit t n s = _
    unfold execGridTickCommit
    simp only [State.at_sh, hg]
  · change execGridTick t n s = _
    unfold execGridTick
    simp only [State.at_sh, hg]


end

theorem State.report_same (s : State) (src idx code arg : Nat) (time : Option Word) :
    (s.report src idx code arg time).shuttles = s.shuttles ∧ (s.report src idx code arg time).seqTok = s.seqTok
      ∧ (s.report src idx code arg time).now = s.now := ⟨rfl, rfl, rfl⟩

theorem State.dmaPulse_same (s : State) (trig idx : Nat) (t : Word) : (s.dmaPulse trig idx t).shuttles = s.shuttles
    ∧ (s.dmaPulse trig idx t).seqTok = s.seqTok ∧ (s.dmaPulse trig idx t).now = s.now := ⟨rfl, rfl, rfl⟩

/-- A gate that has closed. -/
theorem State.closeGate_same (s : State) (n : Nat) (g : Gate) (t : Word) :
    (s.closeGate n g false t).shuttles = vset s.shuttles n { s.sh n with gate := none, sigEnd := some s.now }
      ∧ (s.closeGate n g false t).seqTok = (s.sendTok n (.closing n g.issued g.omitted g.late false t)).seqTok
      ∧ (s.closeGate n g false t).now = s.now := by
  unfold State.closeGate
  extract_lets _ s₁ s₂ s₃
  have h₂ : s₂ = s₁ := if_neg Bool.false_ne_true
  obtain ⟨hsh, htok, hnow⟩ := (s₂.sendTok n (.closing n g.issued g.omitted g.late false t)).dmaPulse_same 6 n t
  have hsh : s₃.shuttles = vset s.shuttles n { s.sh n with gate := none, sigEnd := some s.now } := hsh.trans (by rw [h₂]; rfl)
  have htok : s₃.seqTok = (s.sendTok n (.closing n g.issued g.omitted g.late false t)).seqTok := htok.trans (by rw [h₂]; rfl)
  have hnow : s₃.now = s.now := hnow.trans (by rw [h₂]; rfl)
  clear_value s₃
  split
  · exact ⟨hsh, htok, hnow⟩
  · exact ⟨hsh, htok, hnow⟩

theorem State.closeGate_shows (s : State) {n : Nat} (hn : n < 64) (g : Gate) (t : Word) :
    ((s.closeGate n g false t).sh n).sigEnd = some s.now ∧ (s.closeGate n g false t).now = s.now
      ∧ GateTok.closing n g.issued g.omitted g.late false t ∈ vget (s.closeGate n g false t).seqTok (s.get (Reg.SHT_GATE_SEQ n)) := by
  obtain ⟨hsh, htok, hnow⟩ := s.closeGate_same n g t
  refine ⟨?_, hnow, ?_⟩
  · rw [State.sh, hsh, vget_vset_same _ _ hn]
  · rw [htok, State.sendTok_seqTok]
    exact List.mem_append_right _ (List.mem_singleton_self _)

/-- The register of the last start stays where a Shuttle shows itself. -/
theorem State.shtShow_last (s : State) (n : Nat) : (s.shtShow n).reg (Reg.SHT_LAST_addr n) = s.reg (Reg.SHT_LAST_addr n) := by
  unfold State.shtShow
  extract_lets k cur
  rw [State.reg_setReg_ne _ _ (by simp), State.reg_set_ne _ _ _ (by simp), State.reg_set_ne _ _ _ (by simp)]

/-- A tick is issued: its token, and the gate's count. -/
theorem State.tickIssued_shows (s : State) {n : Nat} (hn : n < 64) (g : Gate) (c : Word) :
    (∃ g', ((s.tickIssued n g c).sh n).gate = some g' ∧ g'.tick = g.tick + 1 ∧ g'.issued = g.issued + 1)
      ∧ ((s.tickIssued n g c).sh n).lastTick = some c
      ∧ vget (s.tickIssued n g c).seqTok (s.get (Reg.SHT_GATE_SEQ n))
        = vget s.seqTok (s.get (Reg.SHT_GATE_SEQ n)) ++ [.tick n g.tick c] := by
  unfold State.tickIssued
  extract_lets s₁ s₂ g'
  have h₂ : s₂.seqTok = s₁.seqTok := by
    unfold s₂
    split <;> rfl
  rw [State.sh_setSh _ _ hn]
  exact ⟨⟨_, rfl, rfl, rfl⟩, rfl, (congrArg (vget · _) h₂).trans (s.sendTok_seqTok n _)⟩

/-- Settles O26. -/
theorem shuttleGates : Obligations.ShuttleGates := by
  unfold Obligations.ShuttleGates
  intro t n s k q
  refine ⟨fun i c a e hcur hcand he hf hg hh ha => ?_, fun hcand => ?_, fun g u hg hu => ⟨fun ho hn => ?_, fun h => ?_, fun c ho hc hn => ?_⟩,
    fun g hg => ⟨fun c ho hc => ⟨fun hh => ?_, fun hh => ?_, fun hn => ?_, fun hn => ?_⟩,
      fun c ho hc => ⟨fun hh => ?_, fun hh => ?_, fun hn => ?_⟩, fun ho => ⟨?_, ?_, ?_, ?_⟩⟩, fun hg => ?_⟩
  case refine_1 =>
    exact ⟨_, exec_gateOpenCommit t n hcur hcand he hf hg hh ha, (State.shtShow_sh _ _ _).trans (State.sh_setSh _ _ n.isLt)⟩
  case refine_2 =>
    exact gateOpenCommit_idles t n hcand
  case refine_3 =>
    obtain ⟨hgate, hlast, htok⟩ := (s.at t).openGate_shows n.isLt g g.at_ u
    exact ⟨_, (exec_gateOpen t n hg hu).trans (congrArg Host.Outcome.next (if_pos ⟨Bool.eq_false_iff.1 ho, hn⟩)),
      by rw [State.shtShow_sh]; exact hgate, (State.shtShow_last _ _).trans hlast, by rw [State.shtShow_seqTok]; exact htok⟩
  case refine_4 =>
    refine (exec_gateOpen t n hg hu).trans (congrArg Host.Outcome.next (if_neg fun ⟨ho, hn⟩ => ?_))
    rcases h with h | h
    · exact ho h
    · exact Bool.false_ne_true (h.symm.trans hn)
  case refine_5 =>
    obtain ⟨⟨g', hg', htick, hissued⟩, hlast, htok⟩ := (s.at t).tickIssued_shows n.isLt g c
    obtain ⟨a, l, hp⟩ := ((s.at t).tickIssued n g c).planTick_sh n.isLt u hg'
    refine ⟨_, (exec_gridTick t n hg hu hc).trans (congrArg Host.Outcome.next (if_pos ⟨ho, hn⟩)),
      ⟨{ g' with tickAt := a, tickLate := l }, by rw [State.shtShow_sh]; exact congrArg Shuttle.gate hp, htick, hissued⟩, by rw [State.shtShow_sh, hp]; exact hlast, ?_⟩
    rw [State.shtShow_seqTok]
    exact (congrArg (vget · q) (((s.at t).tickIssued n g c).planTick_seqTok u n).1).trans htok
  case refine_6 =>
    exact ⟨_, (exec_gateCloseCommit t n hg).trans (congrArg Host.Outcome.next (if_pos ⟨ho, by rw [hc]; simpa using hh⟩)),
      (State.shtShow_sh _ _ _).trans (State.sh_setSh _ _ n.isLt)⟩
  case refine_7 =>
    exact (exec_gateCloseCommit t n hg).trans (congrArg Host.Outcome.next (if_neg (by rw [hc]; simpa [ho] using hh)))
  case refine_8 =>
    refine ⟨_, (exec_gateClose t n hg hc).trans (congrArg Host.Outcome.next (if_pos ⟨ho, hn⟩)), ?_⟩
    obtain ⟨hsig, hnow, htok⟩ := (s.at t).closeGate_shows n.isLt g c
    have hserve := State.serve_serves (Serves.refl n ((s.at t).closeGate n g false c))
    exact ⟨hserve.sigEnd.elim (fun h => h.trans hsig) fun h => h.trans (congrArg some hnow), hserve.toks _ _ htok⟩
  case refine_9 =>
    exact (exec_gateClose t n hg hc).trans (congrArg Host.Outcome.next (if_neg (by rw [hn]; simp)))
  case refine_10 =>
    exact ⟨_, (exec_gridTickCommit t n hg).trans (congrArg Host.Outcome.next (if_pos ⟨ho, by rw [hc]; simpa using hh⟩)),
      (State.shtShow_sh _ _ _).trans (State.sh_setSh _ _ n.isLt)⟩
  case refine_11 =>
    exact (exec_gridTickCommit t n hg).trans (congrArg Host.Outcome.next (if_neg (by rw [hc]; simpa [ho] using hh)))
  case refine_12 =>
    exact gridTick_idles t n hg (.inr fun c' hc' => by rw [hc] at hc'; rw [← Option.some.inj hc']; exact hn)
  case refine_13 => exact (exec_gateCloseCommit t n hg).trans (congrArg Host.Outcome.next (if_neg (by rw [ho]; simp)))
  case refine_14 =>
    exact gateClose_idles t n hg ho
  case refine_15 => exact (exec_gridTickCommit t n hg).trans (congrArg Host.Outcome.next (if_neg (by rw [ho]; simp)))
  case refine_16 =>
    exact gridTick_idles t n hg (.inl ho)
  case refine_17 => exact idles_of_no_gate t n hg

/-! ### The end of a window -/

section
variable (s : State) {n : Nat}

theorem State.shtSkip_sh (m i cause k : Nat) : (s.shtSkip m i cause).sh k = s.sh k :=
  congrArg (vget · k) ((State.shtSkip_keeps s m i cause (Nat.and_self _) (.refl _ s)).same .shuttles (by decide))

/-- Nothing is pending after the rest of the list is cancelled. -/
theorem State.cancelRest_sh (hn : n < 64) : (s.cancelRest n).sh n = { s.sh n with cur := none, cand := none, next := 8 } := by
  have hfold (l : List Nat) (s' : State) : (l.foldl (fun s m => s.shtSkip n m skCancel) s').sh n = s'.sh n := by
    induction l generalizing s' with
    | nil => rfl
    | cons m l ih => exact (ih _).trans (s'.shtSkip_sh n m skCancel n)
  unfold State.cancelRest
  exact (hfold _ _).trans (State.sh_setSh _ _ hn)

theorem State.closeGate_sh (hn : n < 64) (g : Gate) (incomplete : Bool) (t : Word) :
    (s.closeGate n g incomplete t).sh n = { s.sh n with gate := none, sigEnd := some s.now } := by
  unfold State.closeGate
  extract_lets _ s₁ s₂ s₃
  have h₂ : s₂.sh n = s₁.sh n := by
    unfold s₂
    split <;> rfl
  have h₃ : s₃.sh n = { s.sh n with gate := none, sigEnd := some s.now } := h₂.trans (State.sh_setSh _ _ hn)
  clear_value s₃
  split
  · exact h₃
  · exact h₃

/-- A Shuttle with nothing pending and no open gate. -/
def Shuttle.calm (k : Shuttle) : Prop :=
  k.cur = none ∧ k.cand = none ∧ k.next = 8 ∧ ∀ g, k.gate = some g → g.opened = false

/-- The end of a window cancels what is pending and closes an open gate. -/
theorem State.endWindow_calm (hn : n < 64) : ((s.endWindow n false).sh n).calm := by
  unfold State.endWindow
  extract_lets s₁ k s₂ s₃
  have hk : k = { s.sh n with cur := none, cand := none, next := 8 } := s.cancelRest_sh hn
  rw [if_neg Bool.false_ne_true]
  unfold s₂
  split
  · next g hg =>
    split
    · rw [s₁.closeGate_sh hn, show s₁.sh n = k from rfl, hk]
      exact ⟨rfl, rfl, rfl, fun g h => absurd h (by simp)⟩
    · next ho =>
      rw [if_neg Bool.false_ne_true, show s₁.sh n = k from rfl]
      refine ⟨by rw [hk], by rw [hk], by rw [hk], fun g' hg' => ?_⟩
      rw [← Option.some.inj (hg.symm.trans hg')]
      exact Bool.eq_false_iff.2 ho
  · next hg =>
    rw [show s₁.sh n = k from rfl]
    exact ⟨by rw [hk], by rw [hk], by rw [hk], fun g' hg' => absurd (hg.symm.trans hg') (by simp)⟩

end

/-! ### Control -/

section
variable (t : Word) (n : Fin 64) (s : State)

theorem exec_syncLost : exec (.syncLost t n) s = .next (if (vget s.shTok n).sync then
      (let s' : State := { s.at t with shTok := vset s.shTok n { vget s.shTok n with sync := false } }
      if s.hasTile 3 n then s'.shtSyncLost n else s')
    else s.at t) := rfl

theorem exec_shtEnSet : exec (.shtEnSet t n) s
    = .next (if s.gone (Reg.SHT_CTRL_addr n) then (s.at t).wrej else (s.at t).shtEnable n) := rfl

theorem exec_shtEnClear : exec (.shtEnClear t n) s
    = .next (if s.gone (Reg.SHT_CTRL_addr n) then (s.at t).wrej else (s.at t).shtDisable n) := rfl

theorem exec_shtReadySet (service : Bool) : exec (.shtReadySet t n service) s
    = .next (if s.gone (Reg.SHT_CTRL_addr n) then if service then s.at t else (s.at t).wrej
      else if s.is (Reg.SHT_CFG_WRITER n) == service then (s.at t).shtOffer n
      else if service || s.is (Reg.SHT_CTRL_READY n) then s.at t
      else (s.at t).wrej) := rfl

theorem shtCtrl_owner : ownerOf (Reg.SHT_CTRL_addr n) = some (some (3, n.val)) := by revert n; decide

theorem State.shtSyncLost_shTok : (s.shtSyncLost n).shTok = s.shTok :=
  (State.shtSyncLost_keeps s n (Nat.and_self _) (.refl _ s)).same .shTok (by decide)

theorem State.shtSyncLost_calm : ((s.shtSyncLost n).sh n).calm ∧ ((s.shtSyncLost n).sh n).noWindow = true := by
  unfold State.shtSyncLost
  extract_lets s₁ k s₂
  have hcalm : (s₁.sh n).calm := s.endWindow_calm n.isLt
  rw [State.shtShow_sh, show s₂.sh n = _ from State.sh_setSh _ _ n.isLt]
  exact ⟨hcalm, rfl⟩

end

/-- A Shuttle shows itself in SHTn_STAT and SHTn_NEXT. -/
theorem State.shtShow_get (s : State) {n : Nat} (hn : n < 64) {g : Fld} (h : g.addr < Reg.SHT_STAT_addr n) :
    (s.shtShow n).get g = s.get g :=
  (State.shtShow_serves (.refl n s)).regs g (shtFlds_miss hn h)

theorem State.get_setSh (s : State) (n : Nat) (k : Shuttle) (f : Fld) : (s.setSh n k).get f = s.get f := rfl

theorem State.sh_set (s : State) (f : Fld) (v n : Nat) : (s.set f v).sh n = s.sh n := rfl

theorem State.shtDisable_calm (s : State) (n : Fin 64) (h : s.is (Reg.SHT_CTRL_EN n) = true) :
    (s.shtDisable n).get (Reg.SHT_CTRL_EN n) = 0 ∧ ((s.shtDisable n).sh n).calm := by
  unfold State.shtDisable
  rw [if_pos h]
  refine ⟨?_, ?_⟩
  · rw [State.shtShow_get _ n.isLt (by simp [Reg.SHT_STAT_addr])]
    exact State.get_set_of_lt (s.endWindow n false) (Reg.SHT_CTRL_EN n) (by simp) (by simp)
  · rw [State.shtShow_sh, State.sh_set]
    exact s.endWindow_calm n.isLt

theorem State.shtEnable_enables (s : State) (n : Fin 64) (h : s.is (Reg.SHT_CTRL_EN n) = false) :
    (s.shtEnable n).get (Reg.SHT_CTRL_EN n) = 1 ∧ (s.shtEnable n).sh n = { s.sh n with noWindow := true } := by
  unfold State.shtEnable
  rw [if_neg (Bool.eq_false_iff.1 h)]
  refine ⟨?_, ?_⟩
  · rw [State.shtShow_get _ n.isLt (by simp [Reg.SHT_STAT_addr])]
    exact State.get_set_of_lt s _ (by simp) (by simp)
  · rw [State.shtShow_sh]
    exact State.sh_setSh (s.set (Reg.SHT_CTRL_EN n) 1) _ n.isLt

/-- Settles O27. -/
theorem shuttleControl : Obligations.ShuttleControl := by
  unfold Obligations.ShuttleControl
  intro t n s k idleList
  have hthere (h : s.hasTile 3 n = true) : ¬ s.gone (Reg.SHT_CTRL_addr n) = true := State.not_gone_of (shtCtrl_owner n) h
  refine ⟨fun hs => ?_, fun hs => ?_, fun ht => ⟨fun he => ⟨?_, ?_⟩, fun he => ⟨?_, ?_⟩,
    fun service hr => ⟨fun hw => ?_, fun hw hv => ?_⟩, fun hw => ?_, fun service hr => ?_⟩, fun ht => ?_⟩
  case refine_1 =>
    refine ⟨_, (exec_syncLost t n s).trans (congrArg Host.Outcome.next (if_pos hs)), ?_⟩
    dsimp only
    by_cases ht : s.hasTile 3 n = true
    · rw [if_pos ht]
      obtain ⟨hcalm, hno⟩ := State.shtSyncLost_calm n { s.at t with shTok := vset s.shTok n { vget s.shTok n with sync := false } }
      refine ⟨?_, fun _ => ⟨hcalm, hno⟩, fun h => absurd (ht.symm.trans h) (by decide)⟩
      rw [State.shtSyncLost_shTok, vget_vset_same _ _ n.isLt]
    · rw [if_neg ht]
      refine ⟨?_, fun h => absurd h ht, fun _ => ⟨rfl, rfl⟩⟩
      rw [vget_vset_same _ _ n.isLt]
  case refine_2 => exact (exec_syncLost t n s).trans (congrArg Host.Outcome.next (if_neg (Bool.eq_false_iff.1 hs)))
  case refine_3 =>
    exact ⟨_, (exec_shtEnSet t n s).trans (congrArg Host.Outcome.next (if_neg (hthere ht))), (s.at t).shtEnable_enables n he⟩
  case refine_4 =>
    exact ((exec_shtEnClear t n s).trans (congrArg Host.Outcome.next (if_neg (hthere ht)))).trans
      (congrArg Host.Outcome.next (if_neg (Bool.eq_false_iff.1 he)))
  case refine_5 =>
    exact ⟨_, (exec_shtEnClear t n s).trans (congrArg Host.Outcome.next (if_neg (hthere ht))), (s.at t).shtDisable_calm n he⟩
  case refine_6 =>
    exact ((exec_shtEnSet t n s).trans (congrArg Host.Outcome.next (if_neg (hthere ht)))).trans
      (congrArg Host.Outcome.next (if_pos he))
  case refine_7 =>
    have hx : exec (.shtReadySet t n service) s
        = .next (((s.at t).set (Reg.SHT_CTRL_READY n) 1).setSh n { s.sh n with readyAt := some t }) := by
      rw [exec_shtReadySet, if_neg (hthere ht), if_pos (by rw [hw]; exact beq_self_eq_true _)]
      exact congrArg Host.Outcome.next (if_neg (Bool.eq_false_iff.1 hr))
    exact ⟨_, hx, (State.get_setSh _ _ _ _).trans (State.get_set_of_lt (s.at t) _ (by simp) (by simp)), State.sh_setSh _ _ n.isLt,
      fun a ha => State.reg_set_ne (s.at t) _ _ ha⟩
  case refine_8 =>
    have hx : exec (.shtReadySet t n service) s = .next (s.at t).wrej := by
      rw [exec_shtReadySet, if_neg (hthere ht), if_neg (by rw [hw, hv]; decide), if_neg (by rw [hv, hr]; decide)]
    exact ⟨_, hx, (s.at t).get_wrej, rfl, fun a ha => (s.at t).reg_wrej_ne ha⟩
  case refine_9 =>
    exact (exec_shtReadySet t n s true).trans (congrArg Host.Outcome.next
      ((if_neg (hthere ht)).trans ((if_neg (by rw [hw]; decide)).trans (if_pos rfl))))
  case refine_10 =>
    refine (exec_shtReadySet t n s service).trans (congrArg Host.Outcome.next ((if_neg (hthere ht)).trans ?_))
    split
    · exact if_pos hr
    · exact if_pos (by rw [hr, Bool.or_true])
  case refine_11 =>
    have hg := State.gone_of (shtCtrl_owner n) ht
    exact ⟨refused_of_wrej ((exec_shtEnSet t n s).trans (congrArg Host.Outcome.next (if_pos hg))),
      refused_of_wrej ((exec_shtEnClear t n s).trans (congrArg Host.Outcome.next (if_pos hg))),
      refused_of_wrej ((exec_shtReadySet t n s false).trans (congrArg Host.Outcome.next ((if_pos hg).trans (if_neg Bool.false_ne_true)))),
      (exec_shtReadySet t n s true).trans (congrArg Host.Outcome.next ((if_pos hg).trans (if_pos rfl)))⟩

/-! ### Taking an update -/

theorem vset_vset {α : Type} {n : Nat} (v : Vector α n) (i : Nat) (x y : α) : vset (vset v i x) i y = vset v i y := by
  rw [vset, vset, vset, Vector.setIfInBounds_setIfInBounds]

theorem State.setSh_setSh (s : State) (n : Nat) (k k' : Shuttle) : (s.setSh n k).setSh n k' = s.setSh n k' := by
  unfold State.setSh
  exact congrArg (fun v => ({ s with shuttles := v } : State)) (vset_vset s.shuttles n k k')

/-- How far update `u` moves the angle of the Shuttle. -/
def Shuttle.moved (k : Shuttle) (u : Update) : Int := match k.prev with
  | some o => sdiff u.angle o.angle
  | none => 0

/-- A Shuttle that has taken update `u`. -/
def Shuttle.taking (k : Shuttle) (u : Update) (serving : Bool) : Shuttle :=
  { k with
    upd := none, prev := some u, prev2 := k.prev.filter (fun o => decide (o.src < 2 ↔ u.src < 2)), noWindow := !serving
    advance := k.advance.map (· + k.moved u), gate := k.gate.map (fun g => { g with gone := g.gone + k.moved u }) }

def State.taken (s : State) (n : Nat) (u : Update) : State := s.setSh n ((s.sh n).taking u (s.serving n))

/-- Whether update `u` begins a window (R250 to R252). -/
def State.begins (s : State) (n : Nat) (u : Update) : Bool := match (s.sh n).prev with
  | none => false
  | some o => !((s.sh n).noWindow || !s.serving n) && !(u.step && !s.jumpSmall n o u) && (s.taken n u).crosses n o u

/-- Whether update `u` ends a window by a jump (R254). -/
def State.jumps (s : State) (n : Nat) (u : Update) : Bool := match (s.sh n).prev with
  | none => false
  | some o => !((s.sh n).noWindow || !s.serving n) && u.step && !s.jumpSmall n o u

/-- What update `u` makes of the window. -/
def State.windowed (s : State) (n : Nat) (u : Update) : State :=
  if s.jumps n u then (s.taken n u).endWindow n false else if s.begins n u then (s.taken n u).beginWindow n else s.taken n u

theorem window_cases {α : Type} (off step small crosses : Bool) (x y z : α) :
    (if off then x else if step && !small then y else if crosses then z else x)
      = if !off && step && !small then y else if !off && !(step && !small) && crosses then z else x := by
  cases off <;> cases step <;> cases small <;> rfl

section
variable (s : State) {n : Nat} (hn : n < 64) (u : Update)
include hn

theorem State.jumpSmall_setSh (o : Update) {k : Shuttle} (hk : k.prev2 = (s.sh n).prev2) :
    (s.setSh n k).jumpSmall n o u = s.jumpSmall n o u := by
  unfold State.jumpSmall State.angleBefore
  rw [State.sh_setSh _ _ hn, hk]
  rfl

theorem State.shtUpdate_eq : s.shtUpdate n u = if s.get (Reg.SHT_CFG_FUNC n) = fnOff then s.taken n u
    else (((s.windowed n u).aimStop n u).aimGateEdges n u).serve n := by
  have htaken : s.shtUpdate n u = if s.get (Reg.SHT_CFG_FUNC n) = fnOff then s.taken n u else
      (((match (s.sh n).prev with
        | none => s.taken n u
        | some o =>
          if (s.sh n).noWindow || !s.serving n then s.taken n u
          else if u.step && !((s.sh n).prev.any fun o => (s.setSh n { s.sh n with upd := none, prev := some u }).jumpSmall n o u) then
            (s.taken n u).endWindow n false
          else if (s.taken n u).crosses n o u then (s.taken n u).beginWindow n
          else s.taken n u).aimStop n u).aimGateEdges n u).serve n := by
    unfold State.shtUpdate
    simp only [State.setSh_setSh, State.sh_setSh _ _ hn]
    rfl
  rw [htaken]
  congr 1
  congr 3
  unfold State.windowed State.jumps State.begins
  cases hp : (s.sh n).prev with
  | none => rfl
  | some o =>
    simp only [Option.any_some, s.jumpSmall_setSh hn u o (k := { s.sh n with upd := none, prev := some u }) rfl]
    exact window_cases _ _ _ _ _ _ _


theorem State.crosses_taken (o : Update) (hp : (s.sh n).prev = some o) : (s.taken n u).crosses n o u = true ↔
    0 ≤ sdiff u.angle (s.reg (Reg.SHT_LIST_addr n)) ∧ sdiff o.angle (s.reg (Reg.SHT_LIST_addr n)) < 0
      ∧ ∀ a, (s.sh n).advance = some a → 2 ^ 47 ≤ a + sdiff u.angle o.angle := by
  have hadv : ((s.taken n u).sh n).advance = (s.sh n).advance.map (· + sdiff u.angle o.angle) := by
    unfold State.taken
    rw [State.sh_setSh _ _ hn]
    simp only [Shuttle.taking, Shuttle.moved, hp]
  unfold State.crosses
  rw [hadv, show (s.taken n u).reg (Reg.SHT_LIST_addr n) = s.reg (Reg.SHT_LIST_addr n) from rfl]
  simp only [Bool.and_eq_true, decide_eq_true_eq, and_assoc]
  cases (s.sh n).advance <;> simp

theorem State.begins_iff : s.begins n u = true ↔ (s.sh n).noWindow = false ∧ s.serving n = true ∧ ∃ o, (s.sh n).prev = some o
    ∧ 0 ≤ sdiff u.angle (s.reg (Reg.SHT_LIST_addr n)) ∧ sdiff o.angle (s.reg (Reg.SHT_LIST_addr n)) < 0
    ∧ (u.step = false ∨ s.jumpSmall n o u = true)
    ∧ ∀ a, (s.sh n).advance = some a → 2 ^ 47 ≤ a + sdiff u.angle o.angle := by
  unfold State.begins
  cases hp : (s.sh n).prev with
  | none => simp
  | some o =>
    simp only [Bool.and_eq_true, s.crosses_taken hn u o hp, Option.some.injEq, exists_eq_left']
    cases (s.sh n).noWindow <;> cases s.serving n <;> cases u.step <;> cases s.jumpSmall n o u <;> simp

omit hn in
theorem State.windowed_begins (h : s.begins n u = true) : s.windowed n u = (s.taken n u).beginWindow n := by
  have hj : s.jumps n u = false := by
    unfold State.begins at h
    unfold State.jumps
    cases hp : (s.sh n).prev with
    | none => rfl
    | some o =>
      rw [hp] at h
      simp only [Bool.and_eq_true, Bool.not_eq_true', Bool.and_eq_false_iff] at h
      obtain ⟨⟨-, hsmall⟩, -⟩ := h
      simp only [Bool.and_eq_false_iff]
      tauto
  unfold State.windowed
  rw [hj, if_neg Bool.false_ne_true, if_pos h]

theorem State.taken_sh : (s.taken n u).sh n = (s.sh n).taking u (s.serving n) := State.sh_setSh _ _ hn

omit hn in
/-- An update that begins no window leaves the list and what the Shuttle shows of its windows. -/
theorem State.windowed_serves (h : s.begins n u = false) : Serves n (s.taken n u) (s.windowed n u) := by
  unfold State.windowed
  rw [h, if_neg Bool.false_ne_true]
  split
  · exact State.endWindow_serves (.refl n _) false
  · exact .refl n _

omit hn in
theorem State.windowed_of_step (h : s.begins n u = false) (hs : u.step = false) : s.windowed n u = s.taken n u := by
  have hj : s.jumps n u = false := by
    unfold State.jumps
    rw [hs]
    cases (s.sh n).prev with
    | none => rfl
    | some o => simp
  unfold State.windowed
  rw [hj, h, if_neg Bool.false_ne_true, if_neg Bool.false_ne_true]

omit hn in
/-- What follows the window's end or begin keeps to the Shuttle's service. -/
theorem State.afterWindow_serves (s : State) (n : Nat) (u : Update) : Serves n s (((s.aimStop n u).aimGateEdges n u).serve n) :=
  State.serve_serves (State.aimGateEdges_serves (State.aimStop_serves (.refl n s) u) u)

/-! ### The begin of a window -/

omit hn u in
/-- The entries of page `g`, as a window takes them (R244, R248). -/
def State.pageList (s : State) (n g : Nat) : List (Option ListEntry) :=
  (List.range 8).map (fun m => let e := s.listEntry n g m; if e.kind = 0 ∨ s.entryBad n e = true then none else some e)

omit u in
theorem State.copyPage_sh (g : Nat) : (s.copyPage n g).sh n = { s.sh n with list := s.pageList n g } := by
  have hfold (l : List (ListEntry × Nat)) (s' : State) :
      (l.foldl (fun x (e, m) => if e.kind ≠ 0 ∧ s.entryBad n e then x.shtSkip n m skListErr else x) s').sh n = s'.sh n := by
    induction l generalizing s' with
    | nil => rfl
    | cons a l ih =>
      refine (ih _).trans ?_
      dsimp only
      split
      · exact s'.shtSkip_sh n _ _ n
      · rfl
  unfold State.copyPage
  extract_lets es keep s₁
  have hlist : es.map keep = s.pageList n g := by
    unfold State.pageList
    simp only [es, List.map_map, keep]
    refine List.map_congr_left fun m _ => ?_
    simp only [Function.comp, Bool.or_eq_true, decide_eq_true_eq]
  rw [hfold, State.sh_setSh _ _ hn, hlist]

omit hn u in
theorem State.copyPage_writes (g : Nat) : Writes (shtFlds n) s (s.copyPage n g) := by
  unfold State.copyPage
  extract_lets es keep s₁
  refine Writes.foldl (fun s x _ h => ?_) (.of_regs (.refl _ s) rfl)
  dsimp only
  split
  · exact h.trans (Serves.regs (State.shtSkip_serves (.refl n _) _ _))
  · exact h


omit u in
theorem shtFlds_misses : (∀ f ∈ shtFlds n, f.misses (Reg.SHT_STAT_PAGE n)) ∧ (∀ f ∈ shtFlds n, f.misses (Reg.SHT_STAT_WINS n))
    ∧ ∀ f ∈ shtFlds n, f.misses (Reg.SHT_CNT2_STALE n) := by
  have hwm (f : Fld) (g : Fld) (hf : Reg.WM_STAT_addr 0 ≤ f.addr) (hg : g.addr < Reg.WM_STAT_addr 0) : f.misses g :=
    .inl (by omega)
  refine ⟨fun f hf => ?_, fun f hf => ?_, fun f hf => ?_⟩ <;> rcases hf with hf | hf
  case refine_1.inr | refine_2.inr | refine_3.inr => exact hwm f _ hf (by simp only [Reg.WM_STAT_addr]; omega)
  all_goals
    simp only [shtOwn, List.mem_cons, List.not_mem_nil, or_false] at hf
    rcases hf with rfl | rfl | rfl | rfl | rfl | rfl | rfl | rfl | rfl | rfl | rfl | rfl | rfl | rfl | rfl <;>
      simp [Fld.misses, wholeReg, Reg.SHT_NEXT_addr, Reg.SHT_LAST_addr]

omit hn u in
theorem State.pageList_congr {s s' : State} (n g : Nat) (hw : s'.work = s.work) (ht : s'.weave = s.weave)
    (hf : s'.get (Reg.SHT_CFG_FUNC n) = s.get (Reg.SHT_CFG_FUNC n)) : s'.pageList n g = s.pageList n g := by
  unfold State.pageList State.listEntry State.entryBad State.workGet State.hasTile
  rw [hw, ht, hf]

/-- A window's begin before its list is taken: what was pending is cancelled, and the window is counted. -/
def State.windowCounted (s : State) (n : Nat) : State := (s.cancelRest n).incMod (Reg.SHT_STAT_WINS n)

omit u in
theorem State.windowCounted_shows : (s.windowCounted n).now = s.now ∧ (s.windowCounted n).work = s.work ∧ (s.windowCounted n).weave = s.weave
    ∧ (s.windowCounted n).sh n = { s.sh n with cur := none, cand := none, next := 8 }
    ∧ (s.windowCounted n).get (Reg.SHT_STAT_WINS n) = (s.get (Reg.SHT_STAT_WINS n) + 1) % 2 ^ 32
    ∧ (s.windowCounted n).get (Reg.SHT_STAT_PAGE n) = s.get (Reg.SHT_STAT_PAGE n)
    ∧ (s.windowCounted n).get (Reg.SHT_CNT2_STALE n) = s.get (Reg.SHT_CNT2_STALE n)
    ∧ ∀ g : Fld, g.addr < Reg.SHT_STAT_addr n → (s.windowCounted n).get g = s.get g := by
  obtain ⟨hpage, hwins, hstale⟩ := shtFlds_misses hn
  have hA := State.cancelRest_serves (.refl n s)
  have hk := State.cancelRest_keeps s n (Nat.and_self _) (.refl _ s)
  have hset (g : Fld) (hg : (Reg.SHT_STAT_WINS n).addr ≠ g.addr ∨ (Reg.SHT_STAT_WINS n).lo + (Reg.SHT_STAT_WINS n).wid ≤ 48 ∧ g.lo + g.wid ≤ 48
      ∧ ((Reg.SHT_STAT_WINS n).lo + (Reg.SHT_STAT_WINS n).wid ≤ g.lo ∨ g.lo + g.wid ≤ (Reg.SHT_STAT_WINS n).lo)) :
      (s.windowCounted n).get g = (s.cancelRest n).get g := State.get_set_ne _ _ g _ hg
  refine ⟨hA.now, hk.same .work (by decide), hk.same .weave (by decide), s.cancelRest_sh hn, ?_, ?_, ?_, fun g hg => ?_⟩
  · exact (State.get_set _ _ _ (by simp)).trans (by rw [hA.regs _ hwins])
  · exact (hset _ (by simp)).trans (hA.regs _ hpage)
  · exact (hset _ (by simp)).trans (hA.regs _ hstale)
  · exact (hset _ (.inl (by simp only [Reg.SHT_STAT_addr] at hg; simp only []; omega))).trans (hA.regs _ (shtFlds_miss hn hg))

/-- The list of a window that begins. -/
def State.listTaken (s : State) (n : Nat) : State :=
  if s.is (Reg.SHT_CTRL_READY n) ∧ (s.sh n).readyAt ≠ some s.now then
    let g := 1 - s.get (Reg.SHT_STAT_PAGE n)
    ((s.set (Reg.SHT_STAT_PAGE n) g).copyPage n g).set (Reg.SHT_CTRL_READY n) 0
  else s.inc (Reg.SHT_CNT2_STALE n)

omit hn u in
theorem State.beginWindow_eq (n : Nat) : s.beginWindow n = ((s.windowCounted n).listTaken n).setSh n
    { ((s.windowCounted n).listTaken n).sh n with advance := some 0, next := 0, cur := none, cand := none, lastDist := none } := rfl

omit u in
theorem State.listTaken_offered (h : s.is (Reg.SHT_CTRL_READY n) = true ∧ (s.sh n).readyAt ≠ some s.now) :
    (s.listTaken n).get (Reg.SHT_STAT_PAGE n) = 1 - s.get (Reg.SHT_STAT_PAGE n) ∧ (s.listTaken n).get (Reg.SHT_CTRL_READY n) = 0
      ∧ (s.listTaken n).get (Reg.SHT_STAT_WINS n) = s.get (Reg.SHT_STAT_WINS n)
      ∧ (s.listTaken n).sh n = { s.sh n with list := s.pageList n (1 - s.get (Reg.SHT_STAT_PAGE n)) } := by
  obtain ⟨hpage, hwins, -⟩ := shtFlds_misses hn
  unfold State.listTaken
  rw [if_pos h]
  extract_lets g
  have hw := (s.set (Reg.SHT_STAT_PAGE n) g).copyPage_writes (n := n) g
  have hset (s' : State) (f : Fld) (hf : Reg.SHT_CTRL_addr n < f.addr) : (s'.set (Reg.SHT_CTRL_READY n) 0).get f = s'.get f :=
    State.get_set_ne _ _ f _ (.inl (by simp only [Reg.SHT_CTRL_addr] at hf; simp only []; omega))
  refine ⟨?_, ?_, ?_, ?_⟩
  · rw [hset _ _ (by simp [Reg.SHT_CTRL_addr]), hw _ hpage]
    exact State.get_set_of_lt s _ (by simp) (by simp only [g]; omega)
  · exact State.get_set_of_lt ((s.set (Reg.SHT_STAT_PAGE n) g).copyPage n g) (Reg.SHT_CTRL_READY n) (by simp) (by simp)
  · rw [hset _ _ (by simp [Reg.SHT_CTRL_addr]), hw _ hwins]
    exact State.get_set_ne s (Reg.SHT_STAT_PAGE n) (Reg.SHT_STAT_WINS n) g (by simp)
  · rw [State.sh_set, State.copyPage_sh _ hn,
      State.pageList_congr (s := s) (s' := s.set (Reg.SHT_STAT_PAGE n) g) n g rfl rfl (State.get_set_ne s (Reg.SHT_STAT_PAGE n) (Reg.SHT_CFG_FUNC n) g (.inl (by simp)))]
    rfl

omit hn u in
theorem State.listTaken_stale (n : Nat) (h : ¬ (s.is (Reg.SHT_CTRL_READY n) = true ∧ (s.sh n).readyAt ≠ some s.now)) :
    s.listTaken n = s.inc (Reg.SHT_CNT2_STALE n) := if_neg h

end

section
variable {n : Nat} {s s' : State} (h : Serves n s s')
include h

theorem Serves.upd : (s'.sh n).upd = (s.sh n).upd := congrArg (·.1) h.lasting

theorem Serves.prev : (s'.sh n).prev = (s.sh n).prev := congrArg (·.2.1) h.lasting

theorem Serves.list : (s'.sh n).list = (s.sh n).list := congrArg (·.2.2.1) h.lasting

end

section
variable (s : State) {n : Nat} (hn : n < 64) (u : Update)

/-- What taking an update leaves, with the latency of the tooth where this Shuttle was the last one (Table 1.7). -/
def State.toothTaken (s : State) (n : Nat) (u : Update) : State :=
  if (s.shtUpdate n u).updating then s.shtUpdate n u else (s.shtUpdate n u).latency Reg.SYS_LAT_TOOTH u.time

theorem State.toothTaken_same : (s.toothTaken n u).shuttles = (s.shtUpdate n u).shuttles
    ∧ (s.toothTaken n u).banks = (s.shtUpdate n u).banks ∧ ∀ g : Fld, g.addr ≠ Reg.SYS_LAT_addr → (s.toothTaken n u).get g = (s.shtUpdate n u).get g := by
  unfold State.toothTaken
  split
  · exact ⟨rfl, rfl, fun _ _ => rfl⟩
  · have h := State.latency_keeps (s.shtUpdate n u) Reg.SYS_LAT_TOOTH u.time (Nat.and_self _) (.refl _ _)
    exact ⟨h.same .shuttles (by decide), h.same .banks (by decide), fun g hg => State.get_congr (State.reg_maxTo_ne _ _ _ hg)⟩

theorem exec_shuttleToothUpdate (t : Word) (n : Fin 64) (h : (s.sh n).upd = some u) :
    exec (.shuttleToothUpdate t n) s = .next ((s.at t).toothTaken n u) := by
  change execShuttleToothUpdate t n s = _
  unfold execShuttleToothUpdate
  simp only [State.at_sh, h]
  rfl

theorem State.sh_inc (f : Fld) (m : Nat) : (s.inc f).sh m = s.sh m := rfl

theorem State.get_taken (n : Nat) (f : Fld) : (s.taken n u).get f = s.get f := rfl

theorem State.is_taken (n : Nat) (f : Fld) : (s.taken n u).is f = s.is f := rfl

theorem State.now_taken (n : Nat) : (s.taken n u).now = s.now ∧ (s.taken n u).work = s.work ∧ (s.taken n u).weave = s.weave := ⟨rfl, rfl, rfl⟩

theorem Shuttle.taking_list (k : Shuttle) (u : Update) (b : Bool) : (k.taking u b).list = k.list ∧ (k.taking u b).readyAt = k.readyAt := ⟨rfl, rfl⟩

include hn

theorem State.windowed_takes : ((s.windowed n u).sh n).upd = none ∧ ((s.windowed n u).sh n).prev = some u := by
  have ht := s.taken_sh hn u
  cases hb : s.begins n u with
  | false =>
    have h := s.windowed_serves u hb
    rw [h.upd, h.prev, ht]
    exact ⟨rfl, rfl⟩
  | true =>
    rw [s.windowed_begins u hb]
    obtain ⟨-, -, -, hsh, -⟩ := (s.taken n u).windowCounted_shows hn
    have hk : (((s.taken n u).windowCounted n).listTaken n).sh n
        = { ((s.taken n u).windowCounted n).sh n with list := ((((s.taken n u).windowCounted n).listTaken n).sh n).list } := by
      by_cases hr : ((s.taken n u).windowCounted n).is (Reg.SHT_CTRL_READY n) = true
          ∧ (((s.taken n u).windowCounted n).sh n).readyAt ≠ some ((s.taken n u).windowCounted n).now
      · obtain ⟨-, -, -, h⟩ := ((s.taken n u).windowCounted n).listTaken_offered hn hr
        rw [h]
      · rw [((s.taken n u).windowCounted n).listTaken_stale n hr]
        rfl
    rw [State.beginWindow_eq, State.sh_setSh _ _ hn, hk, hsh, ht]
    exact ⟨rfl, rfl⟩

theorem State.shtUpdate_takes : ((s.shtUpdate n u).sh n).upd = none ∧ ((s.shtUpdate n u).sh n).prev = some u := by
  rw [s.shtUpdate_eq hn u]
  split
  · rw [s.taken_sh hn u]
    exact ⟨rfl, rfl⟩
  · have h := State.afterWindow_serves (s.windowed n u) n u
    obtain ⟨hu, hp⟩ := s.windowed_takes hn u
    exact ⟨h.upd.trans hu, h.prev.trans hp⟩

/-- What a window that begins shows and takes. -/
theorem State.shtUpdate_begins (hf : s.get (Reg.SHT_CFG_FUNC n) ≠ fnOff) (hb : s.begins n u = true) :
    (s.shtUpdate n u).get (Reg.SHT_STAT_WINS n) = (s.get (Reg.SHT_STAT_WINS n) + 1) % 2 ^ 32
      ∧ (s.is (Reg.SHT_CTRL_READY n) = true ∧ (s.sh n).readyAt ≠ some s.now →
        (s.shtUpdate n u).get (Reg.SHT_STAT_PAGE n) = 1 - s.get (Reg.SHT_STAT_PAGE n) ∧ (s.shtUpdate n u).get (Reg.SHT_CTRL_READY n) = 0
          ∧ ((s.shtUpdate n u).sh n).list = s.pageList n (1 - s.get (Reg.SHT_STAT_PAGE n)))
      ∧ (¬ (s.is (Reg.SHT_CTRL_READY n) = true ∧ (s.sh n).readyAt ≠ some s.now) →
        (s.shtUpdate n u).get (Reg.SHT_STAT_PAGE n) = s.get (Reg.SHT_STAT_PAGE n) ∧ ((s.shtUpdate n u).sh n).list = (s.sh n).list
          ∧ (s.shtUpdate n u).get (Reg.SHT_CTRL_READY n) = s.get (Reg.SHT_CTRL_READY n)
          ∧ (s.shtUpdate n u).get (Reg.SHT_CNT2_STALE n)
            = min (s.get (Reg.SHT_CNT2_STALE n) + 1) (Reg.SHT_CNT2_STALE n).max) := by
  obtain ⟨hpage, hwins, hstale⟩ := shtFlds_misses hn
  have hready : ∀ f ∈ shtFlds n, f.misses (Reg.SHT_CTRL_READY n) := shtFlds_miss hn (by simp [Reg.SHT_STAT_addr])
  have hlow {g : Fld} (hg : g.addr < Reg.SHT_STAT_addr n) (s' : State) : (s'.inc (Reg.SHT_CNT2_STALE n)).get g = s'.get g :=
    State.get_congr (State.reg_inc_ne _ _ (by simp only [Reg.SHT_STAT_addr] at hg; simp only []; omega))
  rw [s.shtUpdate_eq hn u, if_neg hf, s.windowed_begins u hb]
  have hafter := State.afterWindow_serves ((s.taken n u).beginWindow n) n u
  obtain ⟨hnow, hwork, hweave, hsh, hw, hp, hst, hreg⟩ := (s.taken n u).windowCounted_shows hn
  obtain ⟨tnow, twork, tweave⟩ := s.now_taken u n
  obtain ⟨tlist, tready⟩ := (s.sh n).taking_list u (s.serving n)
  rw [hafter.regs _ hpage, hafter.regs _ hwins, hafter.regs _ hready, hafter.regs _ hstale, hafter.list, State.beginWindow_eq, State.get_setSh, State.get_setSh,
    State.get_setSh, State.get_setSh, State.sh_setSh _ _ hn]
  rw [s.taken_sh hn u] at hsh
  rw [State.get_taken] at hw hp hst
  generalize (s.taken n u).windowCounted n = b at *
  have hlist : (b.sh n).list = (s.sh n).list := (congrArg Shuttle.list hsh).trans tlist
  have hreadyAt : (b.sh n).readyAt = (s.sh n).readyAt := (congrArg Shuttle.readyAt hsh).trans tready
  have hget {g : Fld} (hg : g.addr < Reg.SHT_STAT_addr n) : b.get g = s.get g := (hreg g hg).trans (s.get_taken u n g)
  have hctrl : (Reg.SHT_CTRL_READY n).addr < Reg.SHT_STAT_addr n := by simp [Reg.SHT_STAT_addr]
  have hcond : (b.is (Reg.SHT_CTRL_READY n) = true ∧ (b.sh n).readyAt ≠ some b.now)
      ↔ (s.is (Reg.SHT_CTRL_READY n) = true ∧ (s.sh n).readyAt ≠ some s.now) := by
    rw [State.is_congr (hget hctrl), hreadyAt, hnow, tnow]
  have hpl (g : Nat) : b.pageList n g = s.pageList n g :=
    State.pageList_congr (s := s) (s' := b) n g (hwork.trans twork) (hweave.trans tweave) (hget (by simp [Reg.SHT_STAT_addr]))
  refine ⟨?_, fun ho => ?_, fun ho => ?_⟩
  · by_cases ho : b.is (Reg.SHT_CTRL_READY n) = true ∧ (b.sh n).readyAt ≠ some b.now
    · exact (b.listTaken_offered hn ho).2.2.1.trans hw
    · rw [b.listTaken_stale n ho]
      exact (State.get_congr (State.reg_inc_ne _ _ (by simp))).trans hw
  · obtain ⟨h₁, h₂, -, h₃⟩ := b.listTaken_offered hn (hcond.2 ho)
    rw [h₁, h₂, h₃, hpl, hp]
    exact ⟨rfl, rfl, rfl⟩
  · rw [b.listTaken_stale n (mt hcond.1 ho)]
    refine ⟨?_, by rw [State.sh_inc]; exact hlist, ?_, ?_⟩
    · exact (State.get_congr (State.reg_inc_ne b _ (by simp))).trans hp
    · exact (hlow hctrl b).trans (hget hctrl)
    · rw [State.get_inc _ _ (by simp), hst]

/-- Without a window the list and what the Shuttle shows of its windows stay. -/
theorem State.shtUpdate_begins_not (hf : s.get (Reg.SHT_CFG_FUNC n) ≠ fnOff) (hb : s.begins n u = false) :
    (s.shtUpdate n u).get (Reg.SHT_STAT_PAGE n) = s.get (Reg.SHT_STAT_PAGE n) ∧ ((s.shtUpdate n u).sh n).list = (s.sh n).list
      ∧ (s.shtUpdate n u).get (Reg.SHT_CTRL_READY n) = s.get (Reg.SHT_CTRL_READY n)
      ∧ (s.shtUpdate n u).get (Reg.SHT_STAT_WINS n) = s.get (Reg.SHT_STAT_WINS n)
      ∧ (s.shtUpdate n u).get (Reg.SHT_CNT2_STALE n) = s.get (Reg.SHT_CNT2_STALE n) := by
  obtain ⟨hpage, hwins, hstale⟩ := shtFlds_misses hn
  have hready : ∀ f ∈ shtFlds n, f.misses (Reg.SHT_CTRL_READY n) := shtFlds_miss hn (by simp [Reg.SHT_STAT_addr])
  rw [s.shtUpdate_eq hn u, if_neg hf]
  have h := (s.windowed_serves u hb).trans (State.afterWindow_serves (s.windowed n u) n u)
  have hl := h.list
  rw [s.taken_sh hn u] at hl
  exact ⟨h.regs _ hpage, hl, h.regs _ hready, h.regs _ hwins, h.regs _ hstale⟩
end

/-! ### Aiming the current entry -/

section
variable (s : State) {n : Nat} (hn : n < 64) {i : Nat} {e : ListEntry} {u : Update}

/-- The pulse of entry `i` that commits at `c`. -/
def newPulse (i : Nat) (e : ListEntry) (c : Word) (late : Nat) : Pulse :=
  { idx := i, ent := e, late, started := false, start := c, stop := c, stopDone := false }

/-- The request that entry `i` of Shuttle `n` sends its bank. -/
def newRequest (n i : Nat) (e : ListEntry) (c now : Word) : Request :=
  { sht := n, idx := i, ch := e.ch, kind := e.kind, time := c, commit := now, placed := false, waiting := false }

theorem State.commitStart_allowed {a : Word} (h : s.startAllowed n e.kind a = true) (c : Word) (late : Nat) : s.commitStart n i e c a late
    = ((s.setSh n { s.sh n with cur := none, cand := none, pulse := some (newPulse i e c late) }).sendRequest n i e c, false) := if_pos h

/-- A start that commits: the pulse waits, and the request is with its bank. -/
theorem State.sendRequest_reqs (c : Word) (hb : e.bank < 12) :
    ((s.sendRequest n i e c).bk e.bank).reqs = (s.bk e.bank).reqs ++ [newRequest n i e c s.now] := by
  unfold State.sendRequest
  rw [State.bk_setBk _ _ hb]
  rfl

theorem State.sendRequest_sh (c : Word) (m : Nat) : (s.sendRequest n i e c).sh m = s.sh m := rfl

theorem State.bk_setSh (k : Shuttle) (m b : Nat) : (s.setSh m k).bk b = s.bk b := rfl

theorem State.shtShow_bk (m b : Nat) : (s.shtShow m).bk b = s.bk b := rfl

include hn

/-- What a start shows that commits at `c`. -/
theorem State.committed_shows (k : Shuttle) (c : Word) (late : Nat) (hb : e.bank < 12) :
    let s' := (s.setSh n { k with cur := none, cand := none, pulse := some (newPulse i e c late) }).sendRequest n i e c
    (s'.sh n).cur = none ∧ (s'.sh n).cand = none ∧ (s'.sh n).pulse = some (newPulse i e c late)
      ∧ (s'.bk e.bank).reqs = (s.bk e.bank).reqs ++ [newRequest n i e c s.now] := by
  intro s'
  have hsh : s'.sh n = { k with cur := none, cand := none, pulse := some (newPulse i e c late) } :=
    (State.sendRequest_sh _ c n).trans (State.sh_setSh _ _ hn)
  refine ⟨by rw [hsh], by rw [hsh], by rw [hsh], ?_⟩
  exact (State.sendRequest_reqs _ c hb).trans (by rw [State.bk_setSh]; rfl)

/-- The Shuttle about to aim its current entry at update `u`. -/
def State.aiming (s : State) (n : Nat) (u : Update) : State :=
  s.setSh n { (s.sh n).taking u (s.serving n) with cand := none }

theorem State.shtServe_current (fuel : Nat) (hp : (s.sh n).pulse = none) (hg : (s.sh n).gate = none) (hc : (s.sh n).cur = some i)
    (hu : (s.sh n).prev = some u) (he : (s.sh n).list.getD i none = some e) (hf : s.get (Reg.SHT_CFG_FUNC n) ≠ fnGate) :
    let r := (s.setSh n { s.sh n with cand := none }).aimPulse n i e u
    s.shtServe n (fuel + 1) = if r.2 then (r.1.setSh n { r.1.sh n with cur := none, cand := none }).shtServe n fuel else r.1 := by
  intro r
  rw [State.shtServe]
  extract_lets s₁ _
  have hfree : ¬ ((s.sh n).pulse.isSome || (s.sh n).gate.isSome) = true := by
    rw [hp, hg]
    decide
  rw [if_neg hfree]
  split
  · next j hj =>
    obtain rfl : j = i := Option.some.inj (hj.symm.trans hc)
    split
    · next v w hv hw =>
      obtain rfl : v = u := Option.some.inj (hv.symm.trans hu)
      obtain rfl : w = e := Option.some.inj (hw.symm.trans he)
      have hr : (if s₁.get (Reg.SHT_CFG_FUNC n) = fnGate then s₁.aimGate n j w v else s₁.aimPulse n j w v) = r := if_neg hf
      simp only [hr]
      rfl
    · next hno => exact absurd he (hno u e hu)
  · next hj => exact absurd (hj.symm.trans hc) (by simp)

/-- An update that begins no window and steps nowhere aims the current entry, and serves on where that is done with. -/
theorem State.shtUpdate_aims (hf : s.get (Reg.SHT_CFG_FUNC n) = fnPulse) (hb : s.begins n u = false) (hs : u.step = false)
    (hp : (s.sh n).pulse = none) (hg : (s.sh n).gate = none) (hc : (s.sh n).cur = some i) (he : (s.sh n).list.getD i none = some e) :
    let r := (s.aiming n u).aimPulse n i e u
    s.shtUpdate n u = (if r.2 then (r.1.setSh n { r.1.sh n with cur := none, cand := none }).shtServe n 31 else r.1).shtShow n := by
  intro r
  have ht := s.taken_sh hn u
  have hp' : ((s.taken n u).sh n).pulse = none := by rw [ht]; exact hp
  have hg' : ((s.taken n u).sh n).gate = none := by rw [ht]; simp [Shuttle.taking, hg]
  have hstop : (s.taken n u).aimStop n u = s.taken n u := by
    unfold State.aimStop
    simp only [hp']
  have hedges : (s.taken n u).aimGateEdges n u = s.taken n u := by
    unfold State.aimGateEdges
    simp only [hg']
  have haim : (s.taken n u).setSh n { (s.taken n u).sh n with cand := none } = s.aiming n u := by
    rw [ht]
    exact State.setSh_setSh s n _ _
  rw [s.shtUpdate_eq hn u, if_neg (by rw [hf]; decide), s.windowed_of_step u hb hs, hstop, hedges, State.serve,
    (s.taken n u).shtServe_current hn 31 hp' hg' (by rw [ht]; exact hc) (by rw [ht]; rfl) (by rw [ht]; exact he)
      (by rw [State.get_taken, hf]; decide), haim]

omit hn in
theorem State.startAngle_of (h : 2 * (u.period : Int) + u.slope ≠ 0) : s.startAngle u e
    = (e.ang - wordOf (roundUp (((2 * e.len * u.dang : Nat) : Rat) / (2 * (u.period : Int) + u.slope : Int))), s) := if_neg h

theorem State.startAllowed_setSh {k k' : Shuttle} (h : k.prev = k'.prev) (kind : Nat) (a : Word) :
    (s.setSh n k).startAllowed n kind a = (s.setSh n k').startAllowed n kind a := by
  unfold State.startAllowed State.kindAllowed
  rw [State.sh_setSh _ _ hn, State.sh_setSh _ _ hn, h]
  rfl

omit hn in
theorem State.aimPulse_eq (h : 2 * (u.period : Int) + u.slope ≠ 0) : let a := (s.startAngle u e).1
    s.aimPulse n i e u = match s.projAt u (sdiff a u.angle) with
      | .wait => (s, false)
      | .past l => s.latePulse n i e a l
      | .at t =>
        if sdiff t s.now < 0 then s.latePulse n i e a (sdiff (angleIn (s.kOf u) s.coast u s.now) a).toNat
        else if elapsed s.now t < s.horizon n then s.commitStart n i e t a 0
        else (s.setSh n { s.sh n with cand := some (t, a) }, false) := by
  have hs : (s.startAngle u e).2 = s := congrArg Prod.snd (s.startAngle_of h)
  unfold State.aimPulse
  simp only [hs] <;> rfl

omit hn in
theorem State.aiming_proj (d : Int) : (s.aiming n u).projAt u d = s.projAt u d := rfl

omit hn in
theorem State.aiming_rest : (s.aiming n u).now = s.now ∧ (s.aiming n u).horizon n = s.horizon n ∧ (s.aiming n u).lateTol n = s.lateTol n
    ∧ ∀ b, (s.aiming n u).bk b = s.bk b := ⟨rfl, rfl, rfl, fun _ => rfl⟩

theorem State.aiming_sh : (s.aiming n u).sh n = { (s.sh n).taking u (s.serving n) with cand := none } := State.sh_setSh _ _ hn

end

theorem skipCounter_late (n : Nat) : skipCounter n skLate = Reg.SHT_CNT0_SKIP_LATE n := if_pos rfl

theorem State.get_report (s : State) (src idx code arg : Nat) (time : Option Word) (f : Fld) :
    (s.report src idx code arg time).get f = s.get f := rfl

/-- What a skip shows: its cause, and its counter. -/
theorem State.shtSkipAs_shows (s : State) (n i : Nat) {cause : Nat} {f : Fld} (hc : cause < 16) (hf : f.addr ≠ Reg.SHT_LSTAT_addr n)
    (hw : f.lo + f.wid ≤ 48) : (s.shtSkipAs n i cause f).get (Reg.SHT_LSTAT_CAUSE n) = cause
      ∧ (s.shtSkipAs n i cause f).get f = min (s.get f + 1) f.max := by
  have hcause : (((s.inc f).set (Reg.SHT_LSTAT_CAUSE n) cause).set (Reg.SHT_LSTAT_CENTRY n) i).get (Reg.SHT_LSTAT_CAUSE n) = cause := by
    rw [State.get_set_ne _ (Reg.SHT_LSTAT_CENTRY n) (Reg.SHT_LSTAT_CAUSE n) _ (by simp),
      State.get_set_of_lt _ (Reg.SHT_LSTAT_CAUSE n) (by simp) (by simpa using hc)]
  have hcount : (((s.inc f).set (Reg.SHT_LSTAT_CAUSE n) cause).set (Reg.SHT_LSTAT_CENTRY n) i).get f = min (s.get f + 1) f.max := by
    rw [State.get_set_ne _ (Reg.SHT_LSTAT_CENTRY n) f _ (.inl hf.symm), State.get_set_ne _ (Reg.SHT_LSTAT_CAUSE n) f _ (.inl hf.symm),
      State.get_inc s f hw]
  unfold State.shtSkipAs
  extract_lets s₁
  change s₁.get _ = _ at hcause
  change s₁.get _ = _ at hcount
  clear_value s₁
  split
  · rw [State.get_report, State.get_report]
    exact ⟨hcause, hcount⟩
  · exact ⟨hcause, hcount⟩

/-- What lies behind SHTn_NEXT stays where a Shuttle shows itself. -/
theorem State.shtShow_above (s : State) {n : Nat} {g : Fld} (h : Reg.SHT_NEXT_addr n < g.addr) : (s.shtShow n).get g = s.get g := by
  unfold State.shtShow
  extract_lets k cur
  simp only [Reg.SHT_NEXT_addr] at h
  refine State.get_congr ?_
  rw [State.reg_setReg_ne _ _ (by simp only [Reg.SHT_NEXT_addr]; omega), State.reg_set_ne _ _ _ (by simp only []; omega),
    State.reg_set_ne _ _ _ (by simp only []; omega)]

theorem State.shtServe_done (s : State) {n : Nat} (fuel : Nat) (hp : (s.sh n).pulse = none) (hg : (s.sh n).gate = none)
    (hc : (s.sh n).cur = none) (h8 : 8 ≤ (s.sh n).next) : s.shtServe n fuel = s := by
  cases fuel with
  | zero => rfl
  | succ fuel =>
    rw [State.shtServe]
    extract_lets s₁ _
    have hfree : ¬ ((s.sh n).pulse.isSome || (s.sh n).gate.isSome) = true := by
      rw [hp, hg]
      decide
    rw [if_neg hfree]
    split
    · next j hj => exact absurd (hj.symm.trans hc) (by simp)
    · exact if_pos h8

theorem State.get_aiming (s : State) (n : Nat) (u : Update) (f : Fld) : (s.aiming n u).get f = s.get f := rfl

/-- The cases of the update that aims the current entry of a pulse Shuttle. -/
structure Aims (s : State) (n i : Nat) (e : ListEntry) (u : Update) : Prop where
  lt : n < 64
  func : s.get (Reg.SHT_CFG_FUNC n) = fnPulse
  begins : s.begins n u = false
  step : u.step = false
  pulse : (s.sh n).pulse = none
  gate : (s.sh n).gate = none
  cur : (s.sh n).cur = some i
  entry : (s.sh n).list.getD i none = some e
  rate : 2 * (u.period : Int) + u.slope ≠ 0

section
variable {s : State} {n i : Nat} {e : ListEntry} {u : Update} (h : Aims s n i e u)
include h

theorem Aims.angle : ((s.aiming n u).startAngle u e).1 = (s.startAngle u e).1 := by
  rw [State.startAngle_of _ h.rate, State.startAngle_of _ h.rate]

theorem Aims.allowed (hal : (s.setSh n { s.sh n with upd := none, prev := some u }).startAllowed n e.kind (s.startAngle u e).1 = true) :
    (s.aiming n u).startAllowed n e.kind (s.startAngle u e).1 = true := by
  unfold State.aiming
  rw [s.startAllowed_setSh h.lt (k := { (s.sh n).taking u (s.serving n) with cand := none })
    (k' := { s.sh n with upd := none, prev := some u }) rfl]
  exact hal

theorem Aims.update_of {s' : State} (hr : (s.aiming n u).aimPulse n i e u = (s', false)) : s.shtUpdate n u = s'.shtShow n := by
  rw [s.shtUpdate_aims h.lt h.func h.begins h.step h.pulse h.gate h.cur h.entry, hr]
  rfl

theorem Aims.waits (hx : s.projAt u (sdiff (s.startAngle u e).1 u.angle) = .wait) :
    ((s.shtUpdate n u).sh n).cur = some i ∧ ((s.shtUpdate n u).sh n).cand = none := by
  have hr : (s.aiming n u).aimPulse n i e u = (s.aiming n u, false) := by
    rw [State.aimPulse_eq _ h.rate, h.angle, State.aiming_proj, hx]
  rw [h.update_of hr, State.shtShow_sh, s.aiming_sh h.lt]
  exact ⟨h.cur, rfl⟩

theorem Aims.candidate {c : Word} (hx : s.projAt u (sdiff (s.startAngle u e).1 u.angle) = .at c) (hc : 0 ≤ sdiff c s.now)
    (hh : s.horizon n ≤ elapsed s.now c) : ((s.shtUpdate n u).sh n).cur = some i
      ∧ ((s.shtUpdate n u).sh n).cand = some (c, (s.startAngle u e).1) ∧ ((s.shtUpdate n u).sh n).pulse = none := by
  have hr : (s.aiming n u).aimPulse n i e u
      = ((s.aiming n u).setSh n { (s.aiming n u).sh n with cand := some (c, (s.startAngle u e).1) }, false) := by
    rw [State.aimPulse_eq _ h.rate, h.angle, State.aiming_proj, hx]
    exact (if_neg (Int.not_lt.2 hc)).trans (if_neg (Nat.not_lt.2 hh))
  rw [h.update_of hr, State.shtShow_sh, State.sh_setSh _ _ h.lt, s.aiming_sh h.lt]
  exact ⟨h.cur, rfl, h.pulse⟩

/-- A start that commits at `c`. -/
theorem Aims.commits {c : Word} {late : Nat} (hb : e.bank < 12)
    (hal : (s.setSh n { s.sh n with upd := none, prev := some u }).startAllowed n e.kind (s.startAngle u e).1 = true)
    (hr : (s.aiming n u).aimPulse n i e u = (s.aiming n u).commitStart n i e c (s.startAngle u e).1 late) :
    ((s.shtUpdate n u).sh n).cur = none ∧ ((s.shtUpdate n u).sh n).pulse = some (newPulse i e c late)
      ∧ ((s.shtUpdate n u).bk e.bank).reqs = (s.bk e.bank).reqs ++ [newRequest n i e c s.now] := by
  obtain ⟨h₁, -, h₂, h₃⟩ := (s.aiming n u).committed_shows h.lt (i := i) ((s.aiming n u).sh n) c late hb
  rw [h.update_of (hr.trans (State.commitStart_allowed _ (h.allowed hal) c late)), State.shtShow_sh, State.shtShow_bk]
  exact ⟨h₁, h₂, h₃⟩

theorem Aims.commits_soon {c : Word} (hx : s.projAt u (sdiff (s.startAngle u e).1 u.angle) = .at c) (hc : 0 ≤ sdiff c s.now)
    (hh : elapsed s.now c < s.horizon n) :
    (s.aiming n u).aimPulse n i e u = (s.aiming n u).commitStart n i e c (s.startAngle u e).1 0 := by
  rw [State.aimPulse_eq _ h.rate, h.angle, State.aiming_proj, hx]
  exact (if_neg (Int.not_lt.2 hc)).trans (if_pos hh)

theorem Aims.commits_late {late : Nat} (hx : s.projAt u (sdiff (s.startAngle u e).1 u.angle) = .past late) (hl : late ≤ s.lateTol n) :
    (s.aiming n u).aimPulse n i e u = (s.aiming n u).commitStart n i e s.now (s.startAngle u e).1 late := by
  rw [State.aimPulse_eq _ h.rate, h.angle, State.aiming_proj, hx]
  exact if_pos hl

/-- A skip beyond LATE_TOL, with no entry left. -/
theorem Aims.skips {late : Nat} (hx : s.projAt u (sdiff (s.startAngle u e).1 u.angle) = .past late) (hl : s.lateTol n < late)
    (h8 : 8 ≤ (s.sh n).next) : ((s.shtUpdate n u).sh n).cur = none ∧ ((s.shtUpdate n u).sh n).pulse = none
      ∧ (s.shtUpdate n u).get (Reg.SHT_LSTAT_CAUSE n) = skLate
      ∧ (s.shtUpdate n u).get (Reg.SHT_CNT0_SKIP_LATE n)
        = min (s.get (Reg.SHT_CNT0_SKIP_LATE n) + 1) (Reg.SHT_CNT0_SKIP_LATE n).max := by
  have hr : (s.aiming n u).aimPulse n i e u = ((s.aiming n u).shtSkip n i skLate, true) := by
    rw [State.aimPulse_eq _ h.rate, h.angle, State.aiming_proj, hx]
    exact if_neg (Nat.not_le.2 hl)
  have hsh : ((s.aiming n u).shtSkip n i skLate).sh n = { (s.sh n).taking u (s.serving n) with cand := none } :=
    (State.shtSkip_sh _ _ _ _ _).trans (s.aiming_sh h.lt)
  obtain ⟨hcause, hcount⟩ := (s.aiming n u).shtSkipAs_shows n i (cause := skLate) (f := Reg.SHT_CNT0_SKIP_LATE n) (by decide) (by simp) (by simp)
  have hsk : (s.aiming n u).shtSkipAs n i skLate (Reg.SHT_CNT0_SKIP_LATE n) = (s.aiming n u).shtSkip n i skLate := by
    rw [State.shtSkip, skipCounter_late]
  rw [hsk] at hcause hcount
  rw [s.shtUpdate_aims h.lt h.func h.begins h.step h.pulse h.gate h.cur h.entry, hr]
  dsimp only
  rw [if_pos rfl, hsh]
  rw [State.shtServe_done _ 31 (by rw [State.sh_setSh _ _ h.lt]; exact h.pulse)
    (by rw [State.sh_setSh _ _ h.lt]; simp [Shuttle.taking, h.gate]) (by rw [State.sh_setSh _ _ h.lt])
    (by rw [State.sh_setSh _ _ h.lt]; exact h8), State.shtShow_sh, State.sh_setSh _ _ h.lt, State.shtShow_above _ (by simp [Reg.SHT_NEXT_addr]), State.shtShow_above _ (by simp [Reg.SHT_NEXT_addr]),
    State.get_setSh, State.get_setSh, hcause, hcount, State.get_aiming]
  exact ⟨rfl, h.pulse, rfl, rfl⟩

end

/-! ### Signed fields -/

theorem signed_unsign {w : Nat} {x : Int} (hw : 0 < w) (hlo : -(2 ^ (w - 1) : Int) ≤ x) (hhi : x < 2 ^ (w - 1)) : signed w (unsign w x) = x := by
  obtain ⟨k, rfl⟩ : ∃ k, w = k + 1 := ⟨w - 1, by omega⟩
  simp only [Nat.add_sub_cancel] at hlo hhi
  have hp : (2 : Int) ^ (k + 1) = 2 * 2 ^ k := by rw [pow_succ, mul_comm]
  have hpn : ((2 ^ k : Nat) : Int) = 2 ^ k := by push_cast; rfl
  have hpos : (0 : Int) < 2 ^ k := by positivity
  unfold signed unsign
  rw [Nat.add_sub_cancel, hp]
  generalize hP : (2 : Int) ^ k = P at *
  by_cases hx : 0 ≤ x
  · rw [Int.emod_eq_of_lt hx (by omega)]
    split
    · omega
    · next h => exact absurd (by omega : x.toNat < 2 ^ k) h
  · have hm : x % (2 * P) = x + 2 * P := by
      rw [← Int.add_emod_right, Int.emod_eq_of_lt (by omega) (by omega)]
    rw [hm]
    split
    · omega
    · omega

theorem satS_bounds (x : Int) {w : Nat} : -(2 ^ (w - 1) : Int) ≤ satS w x ∧ satS w x < 2 ^ (w - 1) := by
  have hpos : (0 : Int) < 2 ^ (w - 1) := by positivity
  unfold satS clampI
  split
  · omega
  · split <;> omega

theorem State.getI_setI (s : State) (f : Fld) {v : Int} (hf : f.lo + f.wid ≤ 48) (hw : 0 < f.wid) (hlo : -(2 ^ (f.wid - 1) : Int) ≤ v)
    (hhi : v < 2 ^ (f.wid - 1)) : (s.setI f v).getI f = v := by
  have hlt : unsign f.wid v < 2 ^ f.wid := by
    unfold unsign
    have hpos : (0 : Int) < 2 ^ f.wid := by positivity
    have := Int.emod_lt_of_pos v hpos
    have := Int.emod_nonneg v hpos.ne'
    have hpn : ((2 ^ f.wid : Nat) : Int) = 2 ^ f.wid := by push_cast; rfl
    omega
  unfold State.getI State.setI
  rw [State.get_set_of_lt s f hf hlt, signed_unsign hw hlo hhi]

/-! ### Commits -/

section
variable {s : State} (t : Word) (n : Fin 64)

theorem exec_startCommit {i : Nat} {c a : Word} {e : ListEntry} (hcur : (s.sh n).cur = some i) (hcand : (s.sh n).cand = some (c, a))
    (he : (s.sh n).list.getD i none = some e) : exec (.startCommit t n) s = .next
      (if s.get (Reg.SHT_CFG_FUNC n) = fnPulse ∧ (s.sh n).pulse = none ∧ sdiff c t ≤ s.horizon n then
          let r := (s.at t).commitStart n i e c a 0
          if r.2 then (r.1.setSh n { r.1.sh n with cur := none, cand := none }).serve n else r.1.shtShow n
        else s.at t) := by
  change execStartCommit t n s = _
  unfold execStartCommit
  simp only [State.at_sh, hcur, hcand, he]
  rfl

theorem exec_startCommit_allowed {i : Nat} {c a : Word} {e : ListEntry} (hcur : (s.sh n).cur = some i) (hcand : (s.sh n).cand = some (c, a))
    (he : (s.sh n).list.getD i none = some e) (hf : s.get (Reg.SHT_CFG_FUNC n) = fnPulse) (hp : (s.sh n).pulse = none)
    (hh : sdiff c t ≤ s.horizon n) (hal : s.startAllowed n e.kind a = true) : exec (.startCommit t n) s = .next
      ((((s.at t).setSh n { s.sh n with cur := none, cand := none, pulse := some (newPulse i e c 0) }).sendRequest n i e c).shtShow n) := by
  rw [exec_startCommit t n hcur hcand he, if_pos ⟨hf, hp, hh⟩, (s.at t).commitStart_allowed (i := i) hal c 0]
  rfl

theorem shuttleToothUpdate_idles (hu : (s.sh n).upd = none) : Idles (.shuttleToothUpdate t n) s t := by
  change execShuttleToothUpdate t n s = _
  unfold execShuttleToothUpdate
  simp only [State.at_sh, hu]

theorem startCommit_idles (hcand : (s.sh n).cand = none) : Idles (.startCommit t n) s t := by
  change execStartCommit t n s = _
  unfold execStartCommit
  simp only [State.at_sh, hcand]
  split <;> simp_all

theorem exec_stopCommit {p : Pulse} (hp : (s.sh n).pulse = some p) : exec (.stopCommit t n) s = .next
    (if p.started ∧ ¬ p.stopDone ∧ sdiff p.stop t ≤ s.horizon n then (s.at t).commitStop n p else s.at t) := by
  change execStopCommit t n s = _
  unfold execStopCommit
  simp only [State.at_sh, hp]
  rfl

/-- The stop that commits keeps its instant, and shows its correction. -/
theorem State.commitStop_shows (s : State) (n : Fin 64) (p : Pulse) :
    (s.commitStop n p).sh n = { s.sh n with pulse := some { p with stopDone := true } }
      ∧ (s.commitStop n p).getI (Reg.SHT_LSTAT_ENDCORR n) = satS 16 (openRound ((sdiff p.stop p.plain : Rat) / 1000))
      ∧ ∀ a, a ≠ Reg.SHT_LSTAT_addr n → (s.commitStop n p).reg a = s.reg a := by
  obtain ⟨hlo, hhi⟩ := satS_bounds (w := 16) (openRound ((sdiff p.stop p.plain : Rat) / 1000))
  refine ⟨?_, ?_, fun a ha => ?_⟩
  · exact State.sh_setSh s _ n.isLt
  · exact State.getI_setI _ (Reg.SHT_LSTAT_ENDCORR n) (by simp) (by simp) hlo hhi
  · exact State.reg_set_ne _ _ _ ha
end

theorem SHT_STAT_WINS_mod (n : Nat) : (Reg.SHT_STAT_WINS n).max + 1 = 2 ^ 32 := by
  simp only [Fld.max]
  norm_num

/-- Settles O25. -/
theorem shuttleStartsAndStops : Obligations.ShuttleStartsAndStops := by
  unfold Obligations.ShuttleStartsAndStops
  intro t n s k
  have hlat (g : Fld) (h : 0x1000 ≤ g.addr) : g.addr ≠ Reg.SYS_LAT_addr := by simp only [Reg.SYS_LAT_addr]; omega
  refine ⟨fun u hu => ?_, fun hu => ?_, fun u hu hf => ?_, fun i c a e hcur hcand he hf hp => ⟨fun hh hb hal => ?_, fun hh => ?_⟩,
    fun hcand => startCommit_idles t n hcand, fun p hp => ⟨fun hs hd hh => ?_, fun h => ?_⟩⟩
  case refine_1 =>
    obtain ⟨hsh, -, -⟩ := (s.at t).toothTaken_same (n := n) u
    obtain ⟨h₁, h₂⟩ := (s.at t).shtUpdate_takes n.isLt u
    have hsh' : ((s.at t).toothTaken n u).sh n = ((s.at t).shtUpdate n u).sh n := congrArg (vget · n.val) hsh
    refine ⟨_, exec_shuttleToothUpdate s u t n hu, by rw [hsh']; exact h₁, by rw [hsh']; exact h₂, fun hoff => ?_⟩
    rw [hsh', (s.at t).shtUpdate_eq n.isLt u, if_pos (show (s.at t).get (Reg.SHT_CFG_FUNC n) = fnOff from hoff), (s.at t).taken_sh n.isLt u]
    exact ⟨rfl, rfl, rfl⟩
  case refine_2 =>
    exact shuttleToothUpdate_idles t n hu
  case refine_3 =>
    intro l begins offered page
    obtain ⟨hshs, hbks, hget⟩ := (s.at t).toothTaken_same (n := n) u
    have hx := exec_shuttleToothUpdate s u t n hu
    have hsh : ((s.at t).toothTaken n u).sh n = ((s.at t).shtUpdate n u).sh n := congrArg (vget · n.val) hshs
    have hbk (b : Nat) : ((s.at t).toothTaken n u).bk b = ((s.at t).shtUpdate n u).bk b := congrArg (vget · b) hbks
    have hbeg : (s.at t).begins n u = true ↔ begins := (s.at t).begins_iff n.isLt u
    have hno (h : ¬ begins) : (s.at t).begins n u = false := Bool.eq_false_iff.2 (mt hbeg.1 h)
    refine ⟨fun hb ho => ?_, fun hb ho => ?_, fun hb => ?_, fun i e hb hs hfp hp hg hc he hbk' hr => ?_⟩
    · obtain ⟨hw, hoff, -⟩ := (s.at t).shtUpdate_begins n.isLt u hf (hbeg.2 hb)
      obtain ⟨h₁, h₂, h₃⟩ := hoff ho
      refine ⟨_, hx, ?_⟩
      beta_reduce
      rw [SHT_STAT_WINS_mod, hsh, hget _ (hlat _ (by simp only []; omega)), hget _ (hlat _ (by simp only []; omega)), hget _ (hlat _ (by simp only []; omega))]
      exact ⟨h₁, h₂, hw, h₃⟩
    · obtain ⟨hw, -, hst⟩ := (s.at t).shtUpdate_begins n.isLt u hf (hbeg.2 hb)
      obtain ⟨h₁, h₂, h₃, h₄⟩ := hst ho
      refine ⟨_, hx, ?_⟩
      beta_reduce
      rw [SHT_STAT_WINS_mod, hsh, hget _ (hlat _ (by simp only []; omega)), hget _ (hlat _ (by simp only []; omega)), hget _ (hlat _ (by simp only []; omega)), hget _ (hlat _ (by simp only []; omega))]
      exact ⟨h₁, h₂, h₃, hw, h₄⟩
    · refine ⟨_, hx, ?_⟩
      beta_reduce
      rw [hsh, hget _ (hlat _ (by simp only []; omega)), hget _ (hlat _ (by simp only []; omega)), hget _ (hlat _ (by simp only []; omega)), hget _ (hlat _ (by simp only []; omega))]
      exact (s.at t).shtUpdate_begins_not n.isLt u hf (hno hb)
    · intro a allowed x commits
      have h : Aims (s.at t) n i e u := ⟨n.isLt, hfp, hno hb, hs, hp, hg, hc, he, hr⟩
      refine ⟨fun hw => ⟨_, hx, ?_⟩, fun c hc h0 hh => ⟨_, hx, ?_⟩, fun c hc h0 hh hal => ⟨_, hx, ?_⟩, fun late hl ht hal => ⟨_, hx, ?_⟩,
        fun late hl ht h8 => ⟨_, hx, ?_⟩⟩
      · beta_reduce
        rw [hsh]
        exact h.waits hw
      · beta_reduce
        rw [hsh]
        exact h.candidate hc h0 hh
      · change _ ∧ _ ∧ _
        rw [hsh, hbk]
        exact h.commits hbk' hal (h.commits_soon hc h0 hh)
      · change _ ∧ _ ∧ _
        rw [hsh, hbk]
        exact h.commits hbk' hal (h.commits_late hl ht)
      · beta_reduce
        rw [hsh, hget _ (hlat _ (by simp only []; omega)), hget _ (hlat _ (by simp only []; omega))]
        exact h.skips hl ht h8
  case refine_4 =>
    obtain ⟨h₁, h₂, h₃, h₄⟩ := (s.at t).committed_shows n.isLt (i := i) k c 0 hb
    refine ⟨_, exec_startCommit_allowed t n hcur hcand he hf hp hh hal, ?_⟩
    beta_reduce
    rw [State.shtShow_sh, State.shtShow_bk]
    exact ⟨h₁, h₂, h₃, h₄⟩
  case refine_5 =>
    exact (exec_startCommit t n hcur hcand he).trans (congrArg Host.Outcome.next (if_neg fun ⟨_, _, h⟩ => absurd hh (Int.not_lt.2 h)))
  case refine_6 =>
    exact ⟨_, (exec_stopCommit t n hp).trans (congrArg Host.Outcome.next (if_pos ⟨hs, Bool.eq_false_iff.1 hd, hh⟩)), (s.at t).commitStop_shows n p⟩
  case refine_7 =>
    refine (exec_stopCommit t n hp).trans (congrArg Host.Outcome.next (if_neg fun ⟨h₁, h₂, h₃⟩ => ?_))
    rcases h with h | h | h
    · exact Bool.false_ne_true (h.symm.trans h₁)
    · exact h₂ h
    · exact absurd h (Int.not_lt.2 h₃)

/-! ### Driving a bank -/

theorem State.periodRise_bk (s : State) (code b : Nat) : (s.periodRise code).bk b = s.bk b :=
  congrArg (vget · b) ((State.periodRise_keeps s code (Nat.and_self _) (.refl _ s)).same .banks (by decide))

section
variable (s : State) {b : Nat} (hb : b < 12)

theorem State.bnkShow_bk (c d : Nat) : (s.bnkShow c).bk d = s.bk d := by
  unfold State.bnkShow State.flag
  rfl

include hb

/-- A change of the drive state is one of the gates and of what the Heddle drives. -/
theorem State.drive_bk (d c : Nat) (t : Word) : ∃ gates changeAt gateAt,
    (s.drive b d c t).bk b = { s.bk b with gates, heddle := { (s.bk b).heddle with drive := d, changeAt, gateAt } } := by
  unfold State.drive
  extract_lets k
  split
  · next h =>
    refine ⟨k.gates, k.heddle.changeAt, k.heddle.gateAt, ?_⟩
    rw [← h.1]
  · exact ⟨_, _, _, (State.periodRise_bk _ _ _).trans (State.bk_setBk _ _ hb)⟩

theorem State.contWindow_bk : ∃ thermal chop, (s.contWindow b).bk b = { s.bk b with thermal, chop } := by
  unfold State.contWindow
  extract_lets k n
  split
  · exact ⟨_, _, State.bk_setBk _ _ hb⟩
  · exact ⟨k.thermal, k.chop, rfl⟩

end

/-- The fields from the closure results of bank `b` on. -/
def fromClosure (b : Nat) : Set Fld := {f | Reg.BNK_CLRES_addr b 0 ≤ f.addr}

theorem mem_fromClosure {b : Nat} {f : Fld} : f ∈ fromClosure b ↔ 0x1421 + 64 * b ≤ f.addr := Iff.rfl

theorem Writes.setBk {F : Set Fld} {s₀ s : State} (h : Writes F s₀ s) (b : Nat) (k : Bank) : Writes F s₀ (s.setBk b k) := h.of_regs rfl

section
variable {b : Nat} (hb : b < 12) {s₀ s : State} (h : Writes (fromClosure b) s₀ s)
include h

include hb in
theorem State.drive_writes (d c : Nat) (t : Word) : Writes (fromClosure b) s₀ (s.drive b d c t) := by
  unfold State.drive
  extract_lets k
  split
  · exact h
  · exact State.periodRise_writes (h.setBk b _) (fun f hf => mem_fromClosure.2 (by simp only [Reg.WM_STAT_addr] at hf; omega)) _

theorem State.closeTail_writes (flag : Nat) : Writes (fromClosure b) s₀ (s.closeTail b flag) := by
  unfold State.closeTail State.closureResult
  split
  · exact h
  · next tl _ =>
    have hflag : Reg.BNK_CLRES_FLAG b tl.ch ∈ fromClosure b := mem_fromClosure.2 (by simp only []; omega)
    have hseq : Reg.BNK_CLRES_SEQ b tl.ch ∈ fromClosure b := mem_fromClosure.2 (by simp only []; omega)
    exact ((h.set hflag flag).set hseq _).setBk b _

include hb in
theorem State.endTail_writes (flag : Nat) : Writes (fromClosure b) s₀ (s.endTail b flag) := by
  unfold State.endTail
  split
  · exact h
  · exact State.closeTail_writes (State.drive_writes hb h _ _ _) flag

end

section
variable (s : State) {b : Nat} (hb : b < 12)
include hb

/-- The end of a tail leaves no tail, and of the Heddle all but its drive state. -/
theorem State.closeTail_bk (flag : Nat) : (s.closeTail b flag).bk b = { s.bk b with tail := none } := by
  unfold State.closeTail
  split
  · next h => rw [← h]
  · exact (State.bk_setBk _ _ hb)

theorem State.endTail_bk (flag : Nat) : ∃ gates changeAt gateAt drive,
    (s.endTail b flag).bk b = { s.bk b with tail := none, gates, heddle := { (s.bk b).heddle with drive, changeAt, gateAt } } := by
  unfold State.endTail
  split
  · next h => exact ⟨_, _, _, _, by rw [← h]⟩
  · next tl _ =>
    obtain ⟨g, ca, ga, hd⟩ := s.drive_bk hb 0 tl.ch s.now
    exact ⟨g, ca, ga, 0, by rw [State.closeTail_bk _ hb, hd]⟩

omit hb in
/-- A bank whose Heddle is about to run the stop sequence at `pc`. -/
def Bank.stopsAt (k : Bank) (pc : Nat) : Prop :=
  k.heddle.phase = .issue ∧ k.heddle.stopping = true ∧ k.heddle.drive = 0 ∧ k.heddle.pc = pc

/-- A bank that has left its main flow for its stop vector. -/
theorem State.toStop_bk {o : Nat} (ho : (s.bk b).owner = some o) (hs : (s.bk b).heddle.stopping = false)
    (hp : (s.bk b).heddle.phase ≠ .recov) (hw : o < 4) (t : Word) :
    ((s.toStop b t).bk b).stopsAt (s.get (Reg.BNK_PROG_STOPV b o)) ∧ ((s.toStop b t).bk b).tStop = t := by
  obtain ⟨th, ch, hwin⟩ := s.contWindow_bk hb
  unfold State.toStop
  extract_lets s₁ k₁
  have hk₁ : k₁ = { s.bk b with thermal := th, chop := ch } := hwin
  have hregs : s₁.regs = s.regs := s.contWindow_regs b
  split
  · next h => rw [hk₁] at h; exact absurd (h.symm.trans ho) (by simp)
  · next c h =>
    obtain rfl : c = o := Option.some.inj ((h.symm.trans (by rw [hk₁])).trans ho)
    rw [if_neg (by rw [hk₁]; simp [hs, hp])]
    extract_lets s₂ k₂
    obtain ⟨g, ca, ga, hd⟩ := (s₁.setBk b { k₁ with before := some (t, k₁.gates, k₁.heddle.gateAt) }).drive_bk hb 0 c t
    have hk₂ : k₂ = _ := hd
    rw [State.bk_setBk _ _ hb] at hk₂
    have hw₁ : Writes (fromClosure b) s s₁ := .of_regs (.refl _ s) hregs
    have hpc : s₂.get (Reg.BNK_PROG_STOPV b c) = s.get (Reg.BNK_PROG_STOPV b c) :=
      State.drive_writes hb (hw₁.setBk b _) 0 c t _ fun f hf => .inl (by have := mem_fromClosure.1 hf; simp only []; omega)
    have hk : ((s₂.setBk b { k₂ with tStop := t, heddle := { k₂.heddle with
        phase := .issue, pc := s₂.get (Reg.BNK_PROG_STOPV b c), nd := 0, applied := false, stopping := true
        cont := false, limit := 0 } }).bnkShow b).bk b = { k₂ with tStop := t, heddle := { k₂.heddle with
        phase := .issue, pc := s₂.get (Reg.BNK_PROG_STOPV b c), nd := 0, applied := false, stopping := true
        cont := false, limit := 0 } } := (State.bnkShow_bk _ _ _).trans (State.bk_setBk _ _ hb)
    rw [hk, hpc, hk₂]
    exact ⟨⟨rfl, rfl, rfl, rfl⟩, rfl⟩

end

/-! ### Cuts -/

section
variable (s : State) {b : Nat} (hb : b < 12)
include hb

theorem State.cancelRequest_unasked (r : Request) (c : Nat) : ((s.cancelRequest b r).bk c).unasked = (s.bk c).unasked := by
  have h : ((s.unqueue b r).bk c).unasked = (s.bk c).unasked := by
    unfold State.unqueue
    by_cases hc : c = b
    · rw [hc, State.bk_setBk _ _ hb]
      rfl
    · rw [State.bk_setBk_ne _ _ hc]
  exact ((State.pulseCancelled_serves (.refl r.sht _) r.idx skCancel).banks c).trans h

theorem State.cancelRequests_unasked (l : List Request) (c : Nat) :
    ((l.foldl (fun s r => s.cancelRequest b r) s).bk c).unasked = (s.bk c).unasked := by
  induction l generalizing s with
  | nil => rfl
  | cons r l ih => exact (ih _).trans (s.cancelRequest_unasked hb r c)

/-- A cut takes an energised pulse to its stop vector. -/
theorem State.bankCut_stops {o : Nat} (ho : (s.bk b).owner = some o) (hw : o < 4) (he : (s.bk b).energised = true)
    (hs : (s.bk b).heddle.stopping = false) (all : Bool) : ((s.bankCut b all).bk b).stopsAt (s.get (Reg.BNK_PROG_STOPV b o)) := by
  obtain ⟨g, ca, ga, d, hend⟩ := s.endTail_bk hb 3
  unfold State.bankCut
  extract_lets s₁ k s₂
  have hk : k = _ := hend
  obtain ⟨⟨-, hpulse⟩, hphase⟩ : ((s.bk b).owner.isSome = true ∧ (s.bk b).pulse.isSome = true) ∧ (s.bk b).heddle.phase ≠ .recov := by
    simpa [Bank.energised] using he
  have hpc : s₁.get (Reg.BNK_PROG_STOPV b o) = s.get (Reg.BNK_PROG_STOPV b o) :=
    State.endTail_writes hb (.refl _ s) 3 _ fun f hf => .inl (by have := mem_fromClosure.1 hf; simp only []; omega)
  have hstop : (s₂.bk b).stopsAt (s.get (Reg.BNK_PROG_STOPV b o)) := by
    obtain ⟨⟨n, i⟩, hp⟩ := Option.isSome_iff_exists.1 hpulse
    have hkp : k.pulse = some (n, i) := by rw [hk]; exact hp
    have hke : (k.energised && !k.heddle.stopping) = true := by
      rw [hk]
      simp only [Bank.energised] at he ⊢
      rw [he, hs]
      rfl
    have hs₂ : s₂ = (s₁.toStop b s₁.now).pulseCut n i := by
      unfold s₂
      rw [hkp]
      exact if_pos hke
    obtain ⟨h, -⟩ := s₁.toStop_bk hb (o := o) (by rw [hend]; exact ho) (by rw [hend]; exact hs) (by rw [hend]; exact hphase) hw s₁.now
    rw [hpc] at h
    have hun := (State.pulseCut_serves (.refl n (s₁.toStop b s₁.now)) i).banks b
    rw [hs₂]
    exact (congrArg (fun k : Bank => k.stopsAt _) hun).mpr h
  rw [State.bnkShow_bk]
  have hun := s₂.cancelRequests_unasked hb ((s₂.bk b).reqs.filter (fun r => r.placed || all)) b
  exact (congrArg (fun k : Bank => k.stopsAt _) hun).mpr hstop

end

/-! ### Continuous mode -/

/-- The fields that CONT's begin may write. -/
def contFlds (b : Nat) : Set Fld := {f | f.addr = Reg.BNK_STAT_addr b ∨ f ∈ fromClosure b}

section
variable {b : Nat} (hb : b < 12) {s₀ s : State} (h : Writes (contFlds b) s₀ s)

theorem contFlds_of_closure : fromClosure b ⊆ contFlds b := fun _ h => .inr h

include h

theorem State.bnkShow_writes_stat : Writes (contFlds b) s₀ (s.bnkShow b) := by
  have hm (f : Fld) (hf : f.addr = Reg.BNK_STAT_addr b) : f ∈ contFlds b := .inl hf
  unfold State.bnkShow
  extract_lets k st own waits
  exact ((((h.set (hm _ rfl) _).set (hm _ rfl) _).set (hm _ rfl) _).flag (hm _ rfl) _).set (hm _ rfl) _

include hb in
theorem State.drive_writes_cont (d c : Nat) (t : Word) : Writes (contFlds b) s₀ (s.drive b d c t) :=
  h.trans ((State.drive_writes hb (.refl _ s) d c t).mono contFlds_of_closure)

include hb in
theorem State.heddleStart_writes (c : Nat) (t : Word) : Writes (contFlds b) s₀ (s.heddleStart b c t) := by
  have hm (f : Fld) (hf : f.addr = Reg.BNK_STAT_addr b) : f ∈ contFlds b := .inl hf
  unfold State.heddleStart
  extract_lets k _ hd s₁
  have h₁ : Writes (contFlds b) s₀ s₁ := ((h.setBk b _).set (hm (Reg.BNK_STAT_LOOPC b) rfl) 0).set (hm (Reg.BNK_STAT_TO b) rfl) 0
  split
  · exact State.drive_writes_cont hb h₁ _ _ _
  · exact State.drive_writes_cont hb h₁ _ _ _

include hb in
theorem State.takeBank_writes (c : Nat) (pulse : Option (Nat × Nat)) (t : Word) : Writes (contFlds b) s₀ (s.takeBank b c pulse t) := by
  unfold State.takeBank
  extract_lets s₁ s₂ k ovl k'
  have h₁ : Writes (contFlds b) s₀ s₁ := h.trans ((State.closeTail_writes (.refl _ s) 3).mono contFlds_of_closure)
  have h₂ : Writes (contFlds b) s₀ s₂ := by
    unfold s₂
    split
    · split
      · exact h₁.setBk b _
      · exact h₁
    · exact h₁
  exact State.heddleStart_writes hb (h₂.setBk b k') c t

end

section
variable (s : State) {b : Nat} (hb : b < 12)
include hb

omit hb in
theorem State.get_setBk (c : Nat) (k : Bank) (f : Fld) : (s.setBk c k).get f = s.get f := rfl

theorem State.heddleStart_bk (c : Nat) (t : Word) : ∃ gates heddle, (s.heddleStart b c t).bk b = { s.bk b with gates, heddle }
    ∧ heddle.phase = .issue ∧ heddle.pc = s.get (Reg.BNK_PROG_ENTRY b c) := by
  unfold State.heddleStart
  extract_lets k _ h s₁
  have h₁ : s₁.bk b = { k with heddle := h } := State.bk_setBk _ _ hb
  have hdrive (d : Nat) : ∃ gates heddle, (s₁.drive b d c t).bk b = { s.bk b with gates, heddle }
      ∧ heddle.phase = .issue ∧ heddle.pc = s.get (Reg.BNK_PROG_ENTRY b c) := by
    obtain ⟨g, ca, ga, hd⟩ := s₁.drive_bk hb d c t
    rw [h₁] at hd
    exact ⟨g, _, hd, rfl, rfl⟩
  split
  · exact hdrive _
  · exact hdrive 0

/-- A bank that nobody owned is taken. -/
theorem State.takeBank_shows (c : Nat) (hc : c < 32) (pulse : Option (Nat × Nat)) (t : Word) (ho : (s.bk b).owner = none) :
    ((s.takeBank b c pulse t).bk b).owner = some c ∧ ((s.takeBank b c pulse t).bk b).pulse = pulse
      ∧ ((s.takeBank b c pulse t).bk b).contDue = (s.bk b).contDue ∧ ((s.takeBank b c pulse t).bk b).reqs = (s.bk b).reqs
      ∧ ((s.takeBank b c pulse t).bk b).heddle.phase = .issue
      ∧ ((s.takeBank b c pulse t).bk b).heddle.pc = s.get (Reg.BNK_PROG_ENTRY b c) := by
  have h₁ := s.closeTail_bk hb 3
  have hentry : (s.closeTail b 3).get (Reg.BNK_PROG_ENTRY b c) = s.get (Reg.BNK_PROG_ENTRY b c) :=
    State.closeTail_writes (.refl _ s) 3 _ fun f hf => .inl (by have := mem_fromClosure.1 hf; simp only []; omega)
  unfold State.takeBank
  extract_lets s₁ s₂ k ovl k'
  have ho₁ : (s₁.bk b).owner = none := by rw [show s₁.bk b = _ from h₁]; exact ho
  have h₂ : s₂ = s₁ := by
    unfold s₂
    rw [ho₁]
  have hk : k = { s.bk b with tail := none } := (congrArg (fun s : State => s.bk b) h₂).trans h₁
  obtain ⟨g, h, hbk, hphase, hpc⟩ := (s₂.setBk b k').heddleStart_bk hb c t
  rw [hbk, State.bk_setBk _ _ hb]
  have hdue : k.contDue = (s.bk b).contDue := by rw [hk]
  have hreqs : k.reqs = (s.bk b).reqs := by rw [hk]
  refine ⟨rfl, rfl, hdue, hreqs, hphase, hpc.trans ?_⟩
  rw [State.get_setBk, h₂]
  exact hentry


/-- CONT begins on a bank that nobody owns and that holds no request (R318, R319). -/
theorem State.contBegin_shows (ho : (s.bk b).owner = none) (hr : (s.bk b).reqs = []) :
    ((s.contBegin b).bk b).owner = some (s.get (Reg.BNK_CONT_CH b)) ∧ ((s.contBegin b).bk b).pulse = none
      ∧ ((s.contBegin b).bk b).contDue = false ∧ ((s.contBegin b).bk b).heddle.phase = .issue
      ∧ ((s.contBegin b).bk b).heddle.pc = s.get (Reg.BNK_PROG_ENTRY b (s.get (Reg.BNK_CONT_CH b)))
      ∧ Writes (contFlds b) s (s.contBegin b) := by
  obtain ⟨g, ca, ga, d, hend⟩ := s.endTail_bk hb 3
  have hwend : Writes (fromClosure b) s (s.endTail b 3) := State.endTail_writes hb (.refl _ s) 3
  have hc : s.get (Reg.BNK_CONT_CH b) < 4 := State.get_lt s _
  unfold State.contBegin
  extract_lets c s₁ _ s₂ s₃
  have h₂ : s₂.bk b = { s₁.bk b with contDue := false } := State.bk_setBk _ _ hb
  have h₁ : s₁.bk b = _ := hend
  rw [h₁] at h₂
  obtain ⟨howner, hpulse, hdue, hreqs, hphase, hpc⟩ := s₂.takeBank_shows hb c (by omega) none s₂.now (by rw [h₂]; exact ho)
  have hw₂ : Writes (fromClosure b) s s₂ := hwend.setBk b _
  have hentry : s₂.get (Reg.BNK_PROG_ENTRY b c) = s.get (Reg.BNK_PROG_ENTRY b c) :=
    hw₂ _ fun f hf => .inl (by have := mem_fromClosure.1 hf; simp only []; omega)
  have hw : Writes (contFlds b) s s₃ := State.takeBank_writes hb (hw₂.mono contFlds_of_closure) c none s₂.now
  have hnone : (s₃.bk b).reqs = [] := hreqs.trans (by rw [h₂]; exact hr)
  have hdue : (s₃.bk b).contDue = false := hdue.trans (by rw [h₂])
  have hpc : (s₃.bk b).heddle.pc = s.get (Reg.BNK_PROG_ENTRY b c) := hpc.trans hentry
  have howner : (s₃.bk b).owner = some c := howner
  have hpulse : (s₃.bk b).pulse = none := hpulse
  have hphase : (s₃.bk b).heddle.phase = .issue := hphase
  rw [hnone]
  clear_value s₃
  rw [List.filter_nil, List.foldl_nil, State.bnkShow_bk]
  exact ⟨howner, hpulse, hdue, hphase, hpc, State.bnkShow_writes_stat hw⟩

theorem contFlds_miss {g : Fld} (h1 : g.addr ≠ Reg.BNK_STAT_addr b) (h2 : g.addr < Reg.BNK_CLRES_addr b 0) : ∀ f ∈ contFlds b, f.misses g := by
  rintro f (hf | hf)
  · exact .inl (by rw [hf]; exact h1.symm)
  · exact .inl (by have := mem_fromClosure.1 hf; simp only [Reg.BNK_CLRES_addr] at h2; omega)

end

/-! ### The set point -/

/-- The row of BNKb_CONT (Table 6.19). -/
def contRow : RegRow := ⟨0x1412, 12, 64, 1, 0, (some ⟨4, 0, true⟩),
     [{ hi := 47, lo := 47, acc := .rw, reset := 0 },
      { hi := 46, lo := 46, acc := .wv, reset := 0, weave := true },
      { hi := 45, lo := 44, acc := .wv, reset := 0, weave := true },
      { hi := 43, lo := 34, acc := .rw, reset := 0, rng := some (0, 840) },
      { hi := 33, lo := 26, acc := .rw, reset := 0, lvlE := true, weave := true, rng := some (2, 255) },
      { hi := 25, lo := 18, acc := .rw, reset := 0, lvlE := true, weave := true, rng := some (1, 255) }]⟩

theorem regAt_BNK_CONT : ∀ b : Fin 12, regAt (Reg.BNK_CONT_addr b) = some (contRow, b.val, 0) := by decide

theorem isWord_BNK_CONT : ∀ b : Fin 12, isWord (Reg.BNK_CONT_addr b) 0x1400 12 64 (Reg.BNK_CONT_addr 0 - 0x1400) = true
    ∧ isWord (Reg.BNK_CONT_addr b) 0x1000 64 16 (Reg.SHT_CTRL_addr 0 - 0x1000) = false := by decide

theorem comboOk_BNK_CONT (s : State) (w : Word) (b : Fin 12) : s.comboOk (Reg.BNK_CONT_addr b) w = true := by
  fin_cases b <;> rfl

section
variable (s : State) (b : Fin 12) (set : Fin 1024) (band : Fin 256)

/-- The word that a write of SET and BAND carries. -/
def contWord (old : Word) (b set band : Nat) : Word := (Reg.BNK_CONT_BAND b).put ((Reg.BNK_CONT_SET b).put old set) band

/-- The fields of the word that a write of SET and BAND carries. -/
theorem contWord_fields (old : Word) (b : Nat) : let w := contWord old b set band
    (Reg.BNK_CONT_EN b).get w = (Reg.BNK_CONT_EN b).get old ∧ (Reg.BNK_CONT_SET b).get w = set
      ∧ (Reg.BNK_CONT_BAND b).get w = band ∧ (Reg.BNK_CONT_TMIN b).get w = (Reg.BNK_CONT_TMIN b).get old := by
  intro w
  refine ⟨?_, ?_, ?_, ?_⟩ <;> unfold w contWord
  · rw [Fld.get_put_ne _ _ _ _ (by simp) (by simp) (by simp), Fld.get_put_ne _ _ _ _ (by simp) (by simp) (by simp)]
  · rw [Fld.get_put_ne _ _ _ _ (by simp) (by simp) (by simp), Fld.get_put _ _ _ (by simp)]
    exact Nat.mod_eq_of_lt set.isLt
  · rw [Fld.get_put _ _ _ (by simp)]
    exact Nat.mod_eq_of_lt band.isLt
  · rw [Fld.get_put_ne _ _ _ _ (by simp) (by simp) (by simp), Fld.get_put_ne _ _ _ _ (by simp) (by simp) (by simp)]

theorem State.mergeField_open {a i : Nat} {w : Word} {f : FRow} (ho : s.fieldOpen a i f = true) (hr : f.acc = .rw)
    (hi : f.inRange (f.val w) = true) (m : Merge) : (s.mergeField a i w m f).word = (f.fld a).put m.word (f.val w)
      ∧ (s.mergeField a i w m f).fits = m.fits := by
  unfold State.mergeField
  simp only [ho, if_true, FRow.written, hr, hi, Bool.true_or, Bool.and_true, and_self]

theorem State.mergeField_shut {a i : Nat} {w : Word} {f : FRow} (ho : s.fieldOpen a i f = false) (m : Merge) :
    (s.mergeField a i w m f).word = m.word ∧ (s.mergeField a i w m f).fits = m.fits := by
  unfold State.mergeField
  rw [ho, if_neg Bool.false_ne_true]
  split <;> exact ⟨rfl, rfl⟩

/-- The host may change a field of BNKb_CONT at the levels of its table where the channel's writer is the host. -/
theorem State.fieldOpen_BNK_CONT {f : FRow} (hw : s.get (Reg.BNK_CONT_WRITER b) = 0) (hr : f.acc = .rw) (hh : f.held = .all) :
    s.fieldOpen (Reg.BNK_CONT_addr b) b f = (s.levelE || !f.lvlE) := by
  obtain ⟨hbank, hsht⟩ := isWord_BNK_CONT b
  have hrule : s.ruleLocked (Reg.BNK_CONT_addr b) f = false := by
    unfold State.ruleLocked
    rw [if_neg (by rw [hsht]; exact Bool.false_ne_true), if_pos hbank]
    rw [show (Reg.BNK_CONT_WRITER 0).get (s.reg (Reg.BNK_CONT_addr b)) = 0 from hw]
    exact Bool.and_false _
  unfold State.fieldOpen
  rw [hrule, hr, hh]
  rfl

/-- A field that the host cannot write stays. -/
theorem State.fieldOpen_wv {a i : Nat} {f : FRow} (hr : f.acc = .wv) : s.fieldOpen a i f = false := by
  unfold State.fieldOpen
  rw [hr]
  exact Bool.and_false _

/-- What a host write of SET and BAND leaves in the word (R14, R320). -/
theorem State.mergeWrite_BNK_CONT (hw : s.get (Reg.BNK_CONT_WRITER b) = 0) (hset : set.val ≤ 840)
    (hE : s.levelE = true → 2 ≤ band.val ∧ 1 ≤ s.get (Reg.BNK_CONT_TMIN b)) :
    let a := Reg.BNK_CONT_addr b
    let m := s.mergeWrite contRow a b (contWord (s.reg a) b set band)
    m.fits = true ∧ (Reg.BNK_CONT_SET b).get m.word = set
      ∧ (Reg.BNK_CONT_BAND b).get m.word = if s.levelE then band.val else s.get (Reg.BNK_CONT_BAND b) := by
  intro a m
  obtain ⟨hen, hs, hb, ht⟩ := contWord_fields set band (s.reg a) b
  have hfits : m.fits = (contRow.fields.foldl (s.mergeField a b (contWord (s.reg a) b set band))
      { word := s.reg a, rej := !contRow.writable || contRow.reservedSet (contWord (s.reg a) b set band), fits := true }).fits :=
    (congrArg (_ && ·) (comboOk_BNK_CONT s _ b)).trans (Bool.and_true _)
  have hword : m.word = (contRow.fields.foldl (s.mergeField a b (contWord (s.reg a) b set band))
      { word := s.reg a, rej := !contRow.writable || contRow.reservedSet (contWord (s.reg a) b set band), fits := true }).word := rfl
  clear_value m
  rw [hfits, hword]
  generalize contWord (s.reg a) b set band = w at *
  have hshut (hi lo reset : Nat) (m : Merge) := s.mergeField_shut (w := w)
    (s.fieldOpen_wv (a := a) (i := b) (f := { hi, lo, acc := .wv, reset, weave := true }) rfl) m
  have hEN (m : Merge) := s.mergeField_open (w := w) (f := { hi := 47, lo := 47, acc := .rw, reset := 0 })
    ((s.fieldOpen_BNK_CONT b hw rfl rfl).trans (Bool.or_true _)) rfl rfl m
  have hSET (m : Merge) := s.mergeField_open (w := w) (f := { hi := 43, lo := 34, acc := .rw, reset := 0, rng := some (0, 840) })
    ((s.fieldOpen_BNK_CONT b hw rfl rfl).trans (Bool.or_true _)) rfl (decide_eq_true ⟨Nat.zero_le _, le_of_eq_of_le hs hset⟩) m
  simp only [contRow, List.foldl_cons, List.foldl_nil]
  cases hl : s.levelE with
  | false =>
    have hE' (hi lo : Nat) (rng : Option (Nat × Nat)) (m : Merge) := s.mergeField_shut (w := w) (a := a)
      (f := { hi, lo, acc := .rw, reset := 0, lvlE := true, weave := true, rng })
      ((s.fieldOpen_BNK_CONT b hw rfl rfl).trans (by rw [hl]; rfl)) m
    rw [(hE' _ _ _ _).2, (hE' _ _ _ _).2, (hSET _).2, (hshut _ _ _ _).2, (hshut _ _ _ _).2, (hEN _).2,
      (hE' _ _ _ _).1, (hE' _ _ _ _).1, (hSET _).1, (hshut _ _ _ _).1, (hshut _ _ _ _).1, (hEN _).1]
    refine ⟨rfl, ?_, ?_⟩
    · exact (Fld.get_put (Reg.BNK_CONT_SET b) _ _ (by simp)).trans ((Nat.mod_eq_of_lt (Fld.get_lt _ _)).trans hs)
    · refine (Fld.get_put_ne (Reg.BNK_CONT_SET b) (Reg.BNK_CONT_BAND b) _ _ (by simp) (by simp) (by simp)).trans ?_
      exact Fld.get_put_ne (Reg.BNK_CONT_EN b) (Reg.BNK_CONT_BAND b) _ _ (by simp) (by simp) (by simp)
  | true =>
    obtain ⟨hband, htmin⟩ := hE hl
    have hBAND (m : Merge) := s.mergeField_open (w := w)
      (f := { hi := 33, lo := 26, acc := .rw, reset := 0, lvlE := true, weave := true, rng := some (2, 255) })
      ((s.fieldOpen_BNK_CONT b hw rfl rfl).trans (by rw [hl]; rfl)) rfl
      (decide_eq_true ⟨le_of_le_of_eq hband hb.symm, Nat.le_of_lt_succ (Fld.get_lt (Reg.BNK_CONT_BAND b) w)⟩) m
    have hTMIN (m : Merge) := s.mergeField_open (w := w)
      (f := { hi := 25, lo := 18, acc := .rw, reset := 0, lvlE := true, weave := true, rng := some (1, 255) })
      ((s.fieldOpen_BNK_CONT b hw rfl rfl).trans (by rw [hl]; rfl)) rfl
      (decide_eq_true ⟨le_of_le_of_eq htmin ht.symm, Nat.le_of_lt_succ (Fld.get_lt (Reg.BNK_CONT_TMIN b) w)⟩) m
    rw [(hTMIN _).2, (hBAND _).2, (hSET _).2, (hshut _ _ _ _).2, (hshut _ _ _ _).2, (hEN _).2,
      (hTMIN _).1, (hBAND _).1, (hSET _).1, (hshut _ _ _ _).1, (hshut _ _ _ _).1, (hEN _).1]
    refine ⟨rfl, ?_, ?_⟩
    · refine (Fld.get_put_ne (Reg.BNK_CONT_TMIN b) (Reg.BNK_CONT_SET b) _ _ (by simp) (by simp) (by simp)).trans ?_
      refine (Fld.get_put_ne (Reg.BNK_CONT_BAND b) (Reg.BNK_CONT_SET b) _ _ (by simp) (by simp) (by simp)).trans ?_
      exact (Fld.get_put (Reg.BNK_CONT_SET b) _ _ (by simp)).trans ((Nat.mod_eq_of_lt (Fld.get_lt _ _)).trans hs)
    · refine (Fld.get_put_ne (Reg.BNK_CONT_TMIN b) (Reg.BNK_CONT_BAND b) _ _ (by simp) (by simp) (by simp)).trans ?_
      exact (Fld.get_put (Reg.BNK_CONT_BAND b) _ _ (by simp)).trans ((Nat.mod_eq_of_lt (Fld.get_lt _ _)).trans hb)

end

section
variable (t : Word) (b : Fin 12) (s : State)

theorem exec_contEnable : exec (.contEnable t b) s = .next (if ¬ s.hasTile 4 b then (s.at t).wrej
    else if s.is (Reg.BNK_CONT_EN b) then s.at t else ((s.at t).set (Reg.BNK_CONT_EN b) 1).contEnable b) := rfl

theorem exec_contDisable : exec (.contDisable t b) s = .next (if ¬ s.hasTile 4 b then (s.at t).wrej
    else if s.is (Reg.BNK_CONT_EN b) then ((s.at t).set (Reg.BNK_CONT_EN b) 0).contDisable b else s.at t) := rfl

theorem exec_contSetpointService (set : Fin 1024) (band : Fin 256) : exec (.contSetpointWrite t b true set band) s = .next
    (if !s.hasTile 4 b then s.at t
    else if s.get (Reg.BNK_CONT_WRITER b) = 1 ∧ set.val ≤ 840 then ((s.at t).set (Reg.BNK_CONT_SET b) set).contRetune b
    else s.at t) := rfl

theorem exec_contSetpointHost (set : Fin 1024) (band : Fin 256) : exec (.contSetpointWrite t b false set band) s = .next
    (if !s.hasTile 4 b then (s.at t).wrej
    else ((s.at t).writeReg contRow (Reg.BNK_CONT_addr b) b (contWord (s.reg (Reg.BNK_CONT_addr b)) b set band)).contRetune b) := by
  change execContSetpointWrite t b false set band s = _
  unfold execContSetpointWrite
  simp only [regAt_BNK_CONT b]
  rfl

end

theorem State.toStop_writes {b : Nat} (hb : b < 12) {s₀ s : State} (h : Writes (contFlds b) s₀ s) (t : Word) :
    Writes (contFlds b) s₀ (s.toStop b t) := by
  have hw : Writes (contFlds b) s₀ (s.contWindow b) := h.of_regs (s.contWindow_regs b)
  unfold State.toStop
  extract_lets s₁ k
  split
  · exact hw
  · split
    · exact hw
    · exact State.bnkShow_writes_stat ((State.drive_writes_cont hb (hw.setBk b _) 0 _ t).setBk b _)

section
variable (s : State) (b : Fin 12)

theorem State.contRetune_get (f : Fld) : (s.contRetune b).get f = s.get f := by
  have hregs : (s.contLevels b).regs = s.regs := by
    unfold State.contLevels
    exact s.contWindow_regs b
  unfold State.contRetune
  split
  · exact State.get_congr (congrArg (Cells.get regReset · f.addr) hregs)
  · rfl

/-- CONT is enabled on an idle bank without requests. -/
theorem State.contEnable_shows (he : s.is (Reg.BNK_CONT_EN b) = true) (hi : (s.bk b).idle = true) (hr : s.running = true)
    (hl : s.latched b (s.get (Reg.BNK_CONT_CH b)) = false) (ht : s.get (Reg.BNK_THM_LEVEL b (s.get (Reg.BNK_CONT_CH b))) ≠ 3)
    (hq : (s.bk b).reqs = []) : let c := s.get (Reg.BNK_CONT_CH b)
    (s.contEnable b).get (Reg.BNK_CONT_EN b) = 1 ∧ ((s.contEnable b).bk b).owner = some c ∧ ((s.contEnable b).bk b).pulse = none
      ∧ ((s.contEnable b).bk b).contDue = false ∧ ((s.contEnable b).bk b).heddle.phase = .issue
      ∧ ((s.contEnable b).bk b).heddle.pc = s.get (Reg.BNK_PROG_ENTRY b c) := by
  intro c
  have hbk : (s.setBk b { s.bk b with contDue := true }).bk b = { s.bk b with contDue := true } := State.bk_setBk _ _ b.isLt
  have hx : s.contEnable b = (s.setBk b { s.bk b with contDue := true }).contBegin b := by
    unfold State.contEnable State.contTry
    simp only [hbk, if_neg Bool.false_ne_true]
    refine if_pos ?_
    simp only [Bool.and_eq_true, decide_eq_true_eq, Bool.not_eq_true']
    exact ⟨⟨⟨⟨⟨trivial, hi⟩, he⟩, hr⟩, hl⟩, ht⟩
  have ho : (s.bk b).owner = none := by
    simp only [Bank.idle, Bool.and_eq_true, Option.isNone_iff_eq_none] at hi
    exact hi.1
  obtain ⟨h₁, h₂, h₃, h₄, h₅, hw⟩ := (s.setBk b { s.bk b with contDue := true }).contBegin_shows b.isLt (by rw [hbk]; exact ho) (by rw [hbk]; exact hq)
  rw [hx]
  refine ⟨?_, h₁, h₂, h₃, h₄, h₅⟩
  refine (hw _ (contFlds_miss b.isLt (by simp [Reg.BNK_STAT_addr]) (by simp only [Reg.BNK_CLRES_addr]; omega))).trans ?_
  simpa [State.is] using he

/-- EN is set on an idle bank that can run CONT. -/
theorem State.contEnable_set_shows (s : State) (b : Fin 12) (hi : (s.bk b).idle = true) (hr : s.running = true)
    (hl : s.latched b (s.get (Reg.BNK_CONT_CH b)) = false) (ht : s.get (Reg.BNK_THM_LEVEL b (s.get (Reg.BNK_CONT_CH b))) ≠ 3)
    (hq : (s.bk b).reqs = []) : let c := s.get (Reg.BNK_CONT_CH b)
    let s' := (s.set (Reg.BNK_CONT_EN b) 1).contEnable b
    s'.get (Reg.BNK_CONT_EN b) = 1 ∧ (s'.bk b).owner = some c ∧ (s'.bk b).pulse = none
      ∧ (s'.bk b).contDue = false ∧ (s'.bk b).heddle.phase = .issue
      ∧ (s'.bk b).heddle.pc = s.get (Reg.BNK_PROG_ENTRY b c) := by
  intro c s'
  have hset {f : Fld} (hf : (Reg.BNK_CONT_EN b).addr ≠ f.addr ∨ (Reg.BNK_CONT_EN b).lo + (Reg.BNK_CONT_EN b).wid ≤ 48 ∧ f.lo + f.wid ≤ 48
      ∧ ((Reg.BNK_CONT_EN b).lo + (Reg.BNK_CONT_EN b).wid ≤ f.lo ∨ f.lo + f.wid ≤ (Reg.BNK_CONT_EN b).lo)) :
      (s.set (Reg.BNK_CONT_EN b) 1).get f = s.get f := State.get_set_ne s (Reg.BNK_CONT_EN b) f 1 hf
  have hch : (s.set (Reg.BNK_CONT_EN b) 1).get (Reg.BNK_CONT_CH b) = c := hset (by simp)
  have hc4 : c < 4 := State.get_lt s (Reg.BNK_CONT_CH b)
  have hen : (s.set (Reg.BNK_CONT_EN b) 1).is (Reg.BNK_CONT_EN b) = true :=
    decide_eq_true (State.get_set_of_lt s (Reg.BNK_CONT_EN b) (by simp) (by simp))
  have hrun : (s.set (Reg.BNK_CONT_EN b) 1).running = true :=
    (State.is_congr (hset (.inl (by simp only []; omega)))).trans hr
  have hlat : (s.set (Reg.BNK_CONT_EN b) 1).latched b c = false := by
    unfold State.latched
    rw [State.is_congr (hset (f := Reg.BNK_DSTAT_LATCH b) (.inl (by simp))), State.is_congr (hset (f := Reg.BNK_CDSTAT_LATCH b c) (.inl (by simp only []; omega)))]
    exact hl
  have hthm : (s.set (Reg.BNK_CONT_EN b) 1).get (Reg.BNK_THM_LEVEL b c) ≠ 3 := by
    rw [hset (.inl (by simp only []; omega))]
    exact ht
  obtain ⟨h₁, h₂, h₃, h₄, h₅, h₆⟩ := (s.set (Reg.BNK_CONT_EN b) 1).contEnable_shows b hen hi hrun (by rw [hch]; exact hlat)
    (by rw [hch]; exact hthm) hq
  rw [hch] at h₂ h₆
  refine ⟨h₁, h₂, h₃, h₄, h₅, h₆.trans (hset (.inl ?_))⟩
  simp only []
  omega

/-- CONT is disabled: it leaves for its stop vector. -/
theorem State.contDisable_shows (o : Fin 4) (hc : (s.bk b).inCont = true) (hs : (s.bk b).heddle.stopping = false)
    (ho : (s.bk b).owner = some o.val) : ((s.contDisable b).bk b).stopsAt (s.get (Reg.BNK_PROG_STOPV b o))
      ∧ (s.contDisable b).get (Reg.BNK_CONT_EN b) = s.get (Reg.BNK_CONT_EN b) := by
  have hbk : (s.setBk b { s.bk b with contDue := false }).bk b = { s.bk b with contDue := false } := State.bk_setBk _ _ b.isLt
  have hx : s.contDisable b = (s.setBk b { s.bk b with contDue := false }).toStop b s.now := by
    unfold State.contDisable
    extract_lets _ s₁
    exact if_pos (by rw [show s₁.bk b = _ from hbk]; exact hc)
  have hp : (s.bk b).heddle.phase ≠ .recov := by
    have := hc
    simp only [Bank.inCont, Bool.and_eq_true, bne_iff_ne] at this
    exact this.2
  rw [hx]
  refine ⟨((s.setBk b { s.bk b with contDue := false }).toStop_bk b.isLt (by rw [hbk]; exact ho) (by rw [hbk]; exact hs)
    (by rw [hbk]; exact hp) o.isLt s.now).1, ?_⟩
  exact State.toStop_writes b.isLt ((Writes.refl _ s).setBk b _) s.now _
    (contFlds_miss b.isLt (by simp [Reg.BNK_STAT_addr]) (by simp only [Reg.BNK_CLRES_addr]; omega))
end

/-- A host write of SET and BAND (R293, R320). -/
theorem State.writeReg_BNK_CONT (s : State) (b : Fin 12) (set : Fin 1024) (band : Fin 256) (hw : s.get (Reg.BNK_CONT_WRITER b) = 0)
    (hset : set.val ≤ 840) (hE : s.levelE = true → 2 ≤ band.val ∧ 1 ≤ s.get (Reg.BNK_CONT_TMIN b)) :
    let a := Reg.BNK_CONT_addr b
    let s' := s.writeReg contRow a b (contWord (s.reg a) b set band)
    s'.get (Reg.BNK_CONT_SET b) = set ∧ s'.get (Reg.BNK_CONT_BAND b) = if s.levelE then band.val else s.get (Reg.BNK_CONT_BAND b) := by
  intro a s'
  obtain ⟨hfits, hS, hB⟩ := s.mergeWrite_BNK_CONT b set band hw hset hE
  have hreg : s'.reg a = (s.mergeWrite contRow a b (contWord (s.reg a) b set band)).word := by
    unfold s' State.writeReg
    extract_lets m s₁
    rw [if_pos hfits]
    split
    · exact (State.reg_wrej_ne _ (by simp only [a, Reg.BNK_CONT_addr, Reg.SYS_STATUS_addr]; omega)).trans (State.reg_setReg s a _)
    · exact State.reg_setReg s a _
  have hget (f : Fld) (hf : f.addr = a) : s'.get f = f.get (s.mergeWrite contRow a b (contWord (s.reg a) b set band)).word := by
    rw [← hreg, ← hf]
    rfl
  exact ⟨(hget _ rfl).trans hS, (hget _ rfl).trans hB⟩

/-! ### Stops -/

/-- A Shuttle that hands its stop to the bank: the correction and its report stand (R263 to R267). -/
def State.stopHanded (s : State) (n : Nat) (p : Pulse) : State :=
  let s := if p.stopDone then s else s.commitStop n p
  if s.is (Reg.SHT_CFG_REP_STOP n) then s.report 3 n 2 (p.idx * 2 ^ 37) (some p.stop) else s

theorem exec_pulseStop (t : Word) (n : Fin 64) (s : State) {p : Pulse} (hp : (s.sh n).pulse = some p) (hs : p.started = true)
    (hn : notBefore t p.stop = true) :
    exec (.pulseStop t n) s = .next ((((s.at t).stopHanded n p).bankStop p.ent.bank n p.idx p.stop).pulseOver n) := by
  change execPulseStop t n s = _
  unfold execPulseStop
  simp only [State.at_sh, hp]
  exact congrArg Host.Outcome.next (if_pos ⟨hs, hn⟩)

theorem State.stopHanded_same (s : State) (n : Nat) (p : Pulse) (b : Nat) : (s.stopHanded n p).bk b = s.bk b
    ∧ ∀ g : Fld, g.addr ≠ Reg.SHT_LSTAT_addr n → (s.stopHanded n p).get g = s.get g := by
  unfold State.stopHanded
  extract_lets s₁
  have h₁ : s₁.bk b = s.bk b ∧ ∀ g : Fld, g.addr ≠ Reg.SHT_LSTAT_addr n → s₁.get g = s.get g := by
    unfold s₁
    split
    · exact ⟨rfl, fun _ _ => rfl⟩
    · exact ⟨rfl, fun g hg => State.get_congr (State.reg_set_ne _ _ _ hg)⟩
  clear_value s₁
  split
  · exact ⟨h₁.1, fun g hg => (State.get_report _ _ _ _ _ _ g).trans (h₁.2 g hg)⟩
  · exact h₁

theorem Bank.stops_of_unasked {k k' : Bank} (h : k'.unasked = k.unasked) {pc : Nat} (hk : k.stopsAt pc) :
    k'.stopsAt pc ∧ k'.tStop = k.tStop := by
  have hh : k'.heddle = k.heddle := congrArg (·.heddle) h
  have ht : k'.tStop = k.tStop := congrArg (·.tStop) h
  unfold Bank.stopsAt at hk ⊢
  rw [hh, ht]
  exact ⟨hk, rfl⟩

/-- The stop of a pulse that owns its bank. -/
theorem State.stopOver_stops (s : State) (b : Fin 12) (n : Nat) (p : Pulse) (hpb : p.ent.bank = b.val) (hpk : (s.bk b).pulse = some (n, p.idx))
    {o : Fin 4} (ho : (s.bk b).owner = some o.val) (hs : (s.bk b).heddle.stopping = false) (hph : (s.bk b).heddle.phase ≠ .recov) :
    (((((s.stopHanded n p).bankStop p.ent.bank n p.idx p.stop).pulseOver n).bk b).stopsAt (s.get (Reg.BNK_PROG_STOPV b o)))
      ∧ ((((s.stopHanded n p).bankStop p.ent.bank n p.idx p.stop).pulseOver n).bk b).tStop = p.stop := by
  obtain ⟨hbk, hget⟩ := s.stopHanded_same n p b
  have hstop : (s.stopHanded n p).bankStop p.ent.bank n p.idx p.stop = (s.stopHanded n p).toStop b p.stop := by
    rw [hpb]
    exact if_pos (by rw [hbk]; exact hpk)
  obtain ⟨h, ht⟩ := (s.stopHanded n p).toStop_bk b.isLt (by rw [hbk]; exact ho) (by rw [hbk]; exact hs) (by rw [hbk]; exact hph) o.isLt p.stop
  rw [hget _ (by simp only [Reg.SHT_LSTAT_addr]; omega)] at h
  have hun := (State.pulseOver_serves (.refl n ((s.stopHanded n p).toStop b p.stop))).banks b
  rw [hstop]
  obtain ⟨h₁, h₂⟩ := Bank.stops_of_unasked hun h
  exact ⟨h₁, h₂.trans ht⟩

theorem exec_rotationLost_bank (t : Word) (b : Fin 12) (s : State) : exec (.rotationLost t (.bank b)) s = .next
    (if (vget s.bkTok b).rotation then
        (let s' : State := { s.at t with bkTok := vset s.bkTok b { vget s.bkTok b with rotation := false } }
        if s.hasTile 4 b then s'.bankCut b true else s')
      else s.at t) := rfl

theorem exec_rotationLost_shuttle (t : Word) (n : Fin 64) (s : State) : exec (.rotationLost t (.shuttle n)) s = .next
    (if (vget s.shTok n).rotation then
        (let s' : State := { s.at t with shTok := vset s.shTok n { vget s.shTok n with rotation := false } }
        if s.hasTile 3 n then s'.shtLoseAll n else s')
      else s.at t) := rfl

/-- Settles O20. -/
theorem continuousModeAndStops : Obligations.ContinuousModeAndStops := by
  unfold Obligations.ContinuousModeAndStops
  intro t b s k c stops
  refine ⟨fun hb he hi hr hl ht hq => ?_, fun hb he hc hs o ho => ?_, fun hb => ⟨fun he => ?_, fun he => ?_⟩, fun hb => ⟨?_, ?_, fun set band => ⟨?_, ?_⟩⟩,
    fun set band hb => ⟨fun hw hset => ?_, fun h => ?_, fun hw hset => ⟨fun hE => ?_, fun hE hband htmin => ?_⟩⟩,
    fun n p hp hst hn hpb hpk o ho hs hph => ?_, fun n => ⟨fun h => ?_, fun h => ?_⟩, fun h => ?_, fun h => ?_⟩
  case refine_1 =>
    obtain ⟨h₁, h₂, h₃, h₄, h₅, h₆⟩ := (s.at t).contEnable_set_shows b hi hr hl ht hq
    exact ⟨_, (exec_contEnable t b s).trans (congrArg Host.Outcome.next ((if_neg (not_not_intro hb)).trans (if_neg (Bool.eq_false_iff.1 he)))),
      h₁, h₂, h₃, h₄, h₅, h₆⟩
  case refine_2 =>
    obtain ⟨⟨h₁, h₂, h₃, h₄⟩, hen⟩ := ((s.at t).set (Reg.BNK_CONT_EN b) 0).contDisable_shows b o hc hs ho
    refine ⟨_, (exec_contDisable t b s).trans (congrArg Host.Outcome.next ((if_neg (not_not_intro hb)).trans (if_pos he))),
      ⟨h₁, h₂, h₃, h₄.trans (State.get_set_ne (s.at t) (Reg.BNK_CONT_EN b) (Reg.BNK_PROG_STOPV b o) 0 (.inl ?_))⟩,
      hen.trans (State.get_set_of_lt (s.at t) (Reg.BNK_CONT_EN b) (by simp) (by simp))⟩
    simp only []
    omega
  case refine_3 =>
    exact (exec_contEnable t b s).trans (congrArg Host.Outcome.next ((if_neg (not_not_intro hb)).trans (if_pos he)))
  case refine_4 =>
    exact (exec_contDisable t b s).trans (congrArg Host.Outcome.next ((if_neg (not_not_intro hb)).trans (if_neg (Bool.eq_false_iff.1 he))))
  case refine_5 => exact refused_of_wrej ((exec_contEnable t b s).trans (congrArg Host.Outcome.next (if_pos (Bool.eq_false_iff.1 hb))))
  case refine_6 => exact refused_of_wrej ((exec_contDisable t b s).trans (congrArg Host.Outcome.next (if_pos (Bool.eq_false_iff.1 hb))))
  case refine_7 =>
    exact refused_of_wrej ((exec_contSetpointHost t b s set band).trans (congrArg Host.Outcome.next (if_pos (by rw [hb]; rfl))))
  case refine_8 =>
    exact (exec_contSetpointService t b s set band).trans (congrArg Host.Outcome.next (if_pos (by rw [hb]; rfl)))
  case refine_9 =>
    refine ⟨_, (exec_contSetpointService t b s set band).trans (congrArg Host.Outcome.next ((if_neg (by rw [hb]; decide)).trans (if_pos ⟨hw, hset⟩))), ?_, ?_⟩
    · exact (State.contRetune_get _ b _).trans (State.get_set_of_lt (s.at t) (Reg.BNK_CONT_SET b) (by simp) set.isLt)
    · exact (State.contRetune_get _ b _).trans (State.get_set_ne (s.at t) (Reg.BNK_CONT_SET b) (Reg.BNK_CONT_BAND b) set (by simp))
  case refine_10 =>
    refine (exec_contSetpointService t b s set band).trans (congrArg Host.Outcome.next ((if_neg (by rw [hb]; decide)).trans (if_neg fun ⟨h₁, h₂⟩ => ?_)))
    rcases h with h | h
    · exact h h₁
    · omega
  case refine_11 =>
    obtain ⟨hS, hB⟩ := (s.at t).writeReg_BNK_CONT b set band hw hset (fun h => absurd (hE.symm.trans h) Bool.false_ne_true)
    refine ⟨_, (exec_contSetpointHost t b s set band).trans (congrArg Host.Outcome.next (if_neg (by rw [hb]; decide))),
      (State.contRetune_get _ b _).trans hS, (State.contRetune_get _ b _).trans (hB.trans ?_)⟩
    exact if_neg (Bool.eq_false_iff.1 hE)
  case refine_12 =>
    obtain ⟨hS, hB⟩ := (s.at t).writeReg_BNK_CONT b set band hw hset (fun _ => ⟨hband, htmin⟩)
    exact ⟨_, (exec_contSetpointHost t b s set band).trans (congrArg Host.Outcome.next (if_neg (by rw [hb]; decide))),
      (State.contRetune_get _ b _).trans hS, (State.contRetune_get _ b _).trans (hB.trans (if_pos hE))⟩
  case refine_13 =>
    obtain ⟨h, hstop⟩ := (s.at t).stopOver_stops b n p hpb hpk ho hs hph
    exact ⟨_, exec_pulseStop t n s hp hst hn, h, hstop⟩
  case refine_14 =>
    refine ⟨_, (exec_rotationLost_shuttle t n s).trans (congrArg Host.Outcome.next (if_pos h)), ?_⟩
    dsimp only
    split
    · rw [(State.shtLoseAll_keeps _ n (Nat.and_self _) (.refl _ _)).same .shTok (by decide), vget_vset_same _ _ n.isLt]
    · rw [vget_vset_same _ _ n.isLt]
  case refine_15 => exact (exec_rotationLost_shuttle t n s).trans (congrArg Host.Outcome.next (if_neg (Bool.eq_false_iff.1 h)))
  case refine_16 => exact (exec_rotationLost_bank t b s).trans (congrArg Host.Outcome.next (if_neg (Bool.eq_false_iff.1 h)))
  case refine_17 =>
    refine ⟨_, (exec_rotationLost_bank t b s).trans (congrArg Host.Outcome.next (if_pos h)), ?_, fun hb he hs o ho => ?_⟩
    · dsimp only
      split
      · rw [(State.bankCut_keeps _ b true (Nat.and_self _) (.refl _ _)).same .bkTok (by decide), vget_vset_same _ _ b.isLt]
      · rw [vget_vset_same _ _ b.isLt]
    · dsimp only
      rw [if_pos hb]
      exact State.bankCut_stops { s.at t with bkTok := vset s.bkTok b { vget s.bkTok b with rotation := false } } b.isLt ho o.isLt he hs true

end Sys2Proof.Machine
end

section
/-!
PROOF. The Heddle: what its instructions do when they issue, how its waits and regulations end, and how recovery is entered and
ended (O17 to O19).
-/
namespace Sys2Proof.Machine

/-! ### Issue -/

section
variable {s : State} {t : Word} {b op : Nat} {f : HInstr → State}

theorem State.whenIssued_idle (h : s.issues b op = false) : s.whenIssued b op f = s := if_neg (by simp [h])

theorem State.whenIssued_traps (h : s.issues b op = true) (ht : s.mustTrap b = true) : s.whenIssued b op f = s.trap b :=
  (if_pos h).trans (if_pos ht)

theorem State.whenIssued_runs (h : s.issues b op = true) (ht : s.mustTrap b = false) :
    s.whenIssued b op f = f (s.instr b (s.bk b).heddle.pc) := (if_pos h).trans (if_neg (by simp [ht]))

/-- An instruction that issues and does not trap runs. -/
theorem does_issued {c : Instr} {P : State → Prop} (hc : exec c s = .next ((s.at t).whenIssued b op f)) (hi : s.issues b op = true)
    (ht : s.mustTrap b = false) (hp : P (f (s.instr b (s.bk b).heddle.pc))) : Does c s P :=
  ⟨_, hc, (State.whenIssued_runs (s := s.at t) (f := f) hi ht).symm ▸ hp⟩

end

/-- Opcodes with the commands of their instructions. -/
def heddleInstrs (t : Word) (b : Fin 12) (uv : Nat) : List (Nat × Instr) :=
  [(1, .drv t b), (2, .riseInstr t b), (3, .fallInstr t b), (4, .chop t b uv), (5, .recov t b), (6, .contInstr t b uv),
    (8, .setpk t b), (9, .setvy t b), (10, .blank t b), (12, .jmp t b), (13, .brf t b uv), (14, .loopInstr t b), (15, .flt t b)]

theorem exec_heddleInstrs (t : Word) (b : Fin 12) (uv : Nat) (s : State) :
    ∀ x ∈ heddleInstrs t b uv, ∃ f, exec x.2 s = .next ((s.at t).whenIssued b x.1 f) := by
  simp only [heddleInstrs, List.forall_mem_cons]
  exact ⟨⟨_, rfl⟩, ⟨_, rfl⟩, ⟨_, rfl⟩, ⟨_, rfl⟩, ⟨_, rfl⟩, ⟨_, rfl⟩, ⟨_, rfl⟩, ⟨_, rfl⟩, ⟨_, rfl⟩, ⟨_, rfl⟩, ⟨_, rfl⟩, ⟨_, rfl⟩, ⟨_, rfl⟩,
    fun _ h => absurd h (List.not_mem_nil)⟩

theorem exec_trapInstr (t : Word) (b : Fin 12) (s : State) : exec (.trapInstr t b) s = .next
    (if (s.bk b).owner.isSome && (s.bk b).heddle.phase == .issue && s.mustTrap b then (s.at t).trap b else s.at t) := rfl

theorem State.issues_issue {s : State} {b op : Nat} (h : s.issues b op = true) :
    (s.bk b).owner.isSome = true ∧ (s.bk b).heddle.phase = .issue := by
  simp only [State.issues, Bool.and_eq_true, beq_iff_eq] at h
  exact h.1

/-! ### The non-driving instructions -/

section
variable (s : State) {b : Nat} (hb : b < 12)
include hb

theorem State.heddleGo_bk (pc : Nat) : (s.heddleGo b pc).bk b
    = { s.bk b with heddle := { (s.bk b).heddle with pc, nd := (s.bk b).heddle.nd + 1 } } :=
  (State.bnkShow_bk _ _ _).trans (State.bk_setBk _ _ hb)

end

/-- The fields that show a bank's state (Table 6.17). -/
def shownFlds (b : Nat) : List Fld :=
  [Reg.BNK_STAT_BSTATE b, Reg.BNK_STAT_OWNER b, Reg.BNK_STAT_WAIT b, Reg.BNK_STAT_OVL b, Reg.BNK_STAT_PC b]

theorem State.bnkShow_writes {F : Set Fld} {s₀ s : State} (h : Writes F s₀ s) {b : Nat} (hF : ∀ f ∈ shownFlds b, f ∈ F) :
    Writes F s₀ (s.bnkShow b) := by
  simp only [shownFlds, List.forall_mem_cons] at hF
  obtain ⟨hst, hown, hwait, hovl, hpc, -⟩ := hF
  unfold State.bnkShow
  exact ((((h.set hst _).set hown _).set hwait _).flag hovl _).set hpc _

/-- Showing a bank's state leaves the other fields, those of BNKb_STAT below bit 32 but OVL among them. -/
theorem State.bnkShow_get (s : State) {b : Nat} {g : Fld}
    (h : g.addr ≠ Reg.BNK_STAT_addr b ∨ g.lo + g.wid ≤ 14 ∨ (15 ≤ g.lo ∧ g.lo + g.wid ≤ 32)) : (s.bnkShow b).get g = s.get g := by
  refine State.bnkShow_writes (F := {f | f ∈ shownFlds b}) (.refl _ s) (fun _ h => h) g ?_
  simp only [shownFlds, Set.mem_ofPred_eq, List.forall_mem_cons, Fld.misses]
  simp only [Reg.BNK_STAT_addr] at h
  refine ⟨?_, ?_, ?_, ?_, ?_, fun _ h => absurd h List.not_mem_nil⟩ <;> omega

theorem State.heddleGo_get (s : State) {b : Nat} (pc : Nat) {g : Fld}
    (h : g.addr ≠ Reg.BNK_STAT_addr b ∨ g.lo + g.wid ≤ 14 ∨ (15 ≤ g.lo ∧ g.lo + g.wid ≤ 32)) : (s.heddleGo b pc).get g = s.get g :=
  State.bnkShow_get _ h

theorem State.heddleGo_reports (s : State) (b pc : Nat) : (s.heddleGo b pc).reports = s.reports := by
  unfold State.heddleGo State.bnkShow State.flag
  rfl

theorem State.bk_set (s : State) (f : Fld) (v b : Nat) : (s.set f v).bk b = s.bk b := rfl

section
variable (t : Word) (b : Fin 12) (uv : Nat) (s : State)

theorem exec_brf : exec (.brf t b uv) s = .next ((s.at t).whenIssued b 13 (fun i =>
    if ((s.at t).look b uv).condHolds b i.cond then
      (if i.cond = 4 then ((s.at t).look b uv).set (Reg.BNK_STAT_LOOPC b) (((s.at t).look b uv).get (Reg.BNK_STAT_LOOPC b) - 1)
        else (s.at t).look b uv).heddleGo b i.arg
    else ((s.at t).look b uv).heddleGo b (((s.at t).look b uv).nextPc b))) := rfl

theorem exec_flt : exec (.flt t b) s = .next ((s.at t).whenIssued b 15 (fun i =>
    ((((s.at t).set (Reg.BNK_STAT_FCODE b) i.arg).inc (Reg.BNK_CNT1_FLTS b)).bankEvent b 8 ((s.bk b).owner.getD 0) i.arg t).heddleGo b
      ((s.bk b).heddle.pc + 1))) := rfl

end

theorem HInstr.arg_lt (i : HInstr) : i.arg < 256 := Nat.mod_lt _ (by decide)

/-- What the comparators see leaves the Heddle. -/
theorem State.look_heddle (s : State) {b : Nat} (hb : b < 12) (uv : Nat) : ((s.look b uv).bk b).heddle = (s.bk b).heddle := by
  unfold State.look
  rw [State.bk_setBk _ _ hb]

theorem State.look_get (s : State) (b uv : Nat) (f : Fld) : (s.look b uv).get f = s.get f := rfl

theorem brf_runs (t : Word) (b : Fin 12) (uv : Nat) (s : State) (hi : s.issues b 13 = true) (ht : s.mustTrap b = false) :
    let h := (s.bk b).heddle
    let i := s.instr b h.pc
    Does (.brf t b uv) s (fun s' =>
      (s'.bk b).heddle = (if ((s.at t).look b uv).condHolds b i.cond then { h with pc := i.arg, nd := h.nd + 1 }
        else { h with pc := h.pc + 1, nd := h.nd + 1 })
        ∧ s'.get (Reg.BNK_STAT_LOOPC b) = s.get (Reg.BNK_STAT_LOOPC b)
          - (if ((s.at t).look b uv).condHolds b i.cond = true ∧ i.cond = 4 then 1 else 0)) := by
  intro h i
  have hlook : (((s.at t).look b uv).bk b).heddle = h := (s.at t).look_heddle b.isLt uv
  have hpc : ((s.at t).look b uv).nextPc b = h.pc + 1 := congrArg (fun h : Heddle => h.pc + 1) hlook
  have hget : ((s.at t).look b uv).get (Reg.BNK_STAT_LOOPC b) = s.get (Reg.BNK_STAT_LOOPC b) := rfl
  refine does_issued (exec_brf t b uv s) hi ht ?_
  rw [hpc, hget]
  by_cases hc : ((s.at t).look b uv).condHolds b i.cond = true
  · have hlt : s.get (Reg.BNK_STAT_LOOPC b) - 1 < 256 := by have : _ < 256 := State.get_lt s (Reg.BNK_STAT_LOOPC b); omega
    by_cases h4 : i.cond = 4
    · rw [if_pos hc, if_pos hc, if_pos h4, if_pos ⟨hc, h4⟩, State.heddleGo_bk _ b.isLt, State.heddleGo_get _ _ (by simp), State.bk_set,
        hlook]
      exact ⟨rfl, State.get_set_of_lt _ _ (by simp) (by simpa using hlt)⟩
    · rw [if_pos hc, if_pos hc, if_neg h4, if_neg (fun h => h4 h.2), State.heddleGo_bk _ b.isLt, State.heddleGo_get _ _ (by simp), hlook]
      exact ⟨rfl, hget⟩
  · rw [if_neg hc, if_neg hc, if_neg (fun h => hc h.1), State.heddleGo_bk _ b.isLt, State.heddleGo_get _ _ (by simp), hlook]
    exact ⟨rfl, hget⟩

theorem State.report_shows (s : State) (src idx code arg : Nat) (time : Option Word) :
    (s.report src idx code arg time).reports = s.reports ++ [⟨src, idx, code, arg, time⟩]
      ∧ ∀ b, (s.report src idx code arg time).bk b = s.bk b := ⟨rfl, fun _ => rfl⟩

theorem State.set_same (s : State) (f : Fld) (v : Nat) : (s.set f v).reports = s.reports ∧ ∀ b, (s.set f v).bk b = s.bk b :=
  ⟨rfl, fun _ => rfl⟩

theorem State.inc_same (s : State) (f : Fld) : (s.inc f).reports = s.reports ∧ ∀ b, (s.inc f).bk b = s.bk b := ⟨rfl, fun _ => rfl⟩

theorem State.at_bk (s : State) (t : Word) (b : Nat) : (s.at t).bk b = s.bk b := rfl

theorem State.at_reports (s : State) (t : Word) : (s.at t).reports = s.reports := rfl

theorem flt_runs (t : Word) (b : Fin 12) (s : State) (hi : s.issues b 15 = true) (ht : s.mustTrap b = false) :
    let h := (s.bk b).heddle
    let i := s.instr b h.pc
    Does (.flt t b) s (fun s' => (s'.bk b).heddle = { h with pc := h.pc + 1, nd := h.nd + 1 }
      ∧ s'.get (Reg.BNK_STAT_FCODE b) = i.arg ∧ s'.get (Reg.BNK_CNT1_FLTS b) = min (s.get (Reg.BNK_CNT1_FLTS b) + 1) 0xFFFF
      ∧ s'.reports = s.reports ++ [⟨4, b, 1, 8 * 2 ^ 36 + (s.bk b).owner.getD 0 * 2 ^ 34 + i.arg * 2 ^ 24, some t⟩]) := by
  intro h i
  refine does_issued (exec_flt t b s) hi ht ?_
  unfold State.bankEvent
  rw [State.heddleGo_bk _ b.isLt, State.heddleGo_get _ _ (by simp), State.heddleGo_get _ _ (by simp), State.heddleGo_reports,
    (State.report_shows _ _ _ _ _ _).1, (State.report_shows _ _ _ _ _ _).2, State.get_report, State.get_report,
    (State.inc_same _ _).1, (State.inc_same _ _).2, (State.set_same _ _ _).1, (State.set_same _ _ _).2, State.at_bk, State.at_reports]
  refine ⟨rfl, ?_, ?_, rfl⟩
  · rw [State.get_congr (State.reg_inc_ne _ _ (by simp only []; omega))]
    exact State.get_set_of_lt _ _ (by simp) (HInstr.arg_lt i)
  · rw [State.get_inc _ _ (by simp), State.get_set_ne _ _ _ _ (.inl (by simp only []; omega))]
    exact congrArg (min _) (by simp only [Fld.max]; norm_num)

/-! ### The driving instructions -/

theorem Mode.follow_same {m : Mode} {want : Nat} (h : m.code = want) (t : Word) : m.follow want t = m := if_pos h

theorem State.modesOk_at {s : State} (h : s.modesOk = true) {b : Nat} (hb : b < 12) : (vget s.cmps b).main.code = (s.bk b).mainMode
    ∧ (vget s.cmps b).zero.code = (s.bk b).zeroMode ∧ (vget s.cmps b).drain.code = (s.bk b).drainMode := by
  simp only [State.modesOk, List.all_eq_true, List.mem_range, decide_eq_true_eq] at h
  exact h b hb

/-- What a change that asks for the same modes leaves: what the comparators hold. -/
theorem State.setBk_cmpHolds {s : State} (h : s.modesOk = true) {b : Nat} (hb : b < 12) {k : Bank}
    (hmain : k.mainMode = (s.bk b).mainMode) (hzero : k.zeroMode = (s.bk b).zeroMode) (hdrain : k.drainMode = (s.bk b).drainMode)
    (hself : k.selftest = (s.bk b).selftest) (x : Nat) : (s.setBk b k).cmpHolds b x = s.cmpHolds b x := by
  obtain ⟨hm, hz, hd⟩ := State.modesOk_at h hb
  have hcmps : vget (s.setBk b k).cmps b = vget s.cmps b := by
    refine (vget_vset_same _ _ hb).trans ?_
    unfold CmpModes.follow
    rw [Mode.follow_same (hm.trans hmain.symm), Mode.follow_same (hz.trans hzero.symm), Mode.follow_same (hd.trans hdrain.symm)]
  have hmode : (s.setBk b k).cmpMode b x = s.cmpMode b x := by
    unfold State.cmpMode
    rw [hcmps]
  unfold State.cmpHolds
  rw [State.bk_setBk _ _ hb, hmode, hself]
  rfl

section
variable (s : State) {b : Nat} (hb : b < 12)
include hb

omit hb in
/-- A driving instruction that waits for its time or a threshold. -/
def Heddle.waitsFor (h : Heddle) (d lim : Nat) (base : Word) (pc : Nat) : Prop :=
  h.phase = .wait ∧ h.drive = d ∧ h.base = base ∧ h.limit = lim ∧ h.pc = pc

theorem State.driveAndWait_waits (d lim : Nat) : ((s.driveAndWait b d lim).bk b).heddle.waitsFor d lim
    (if (s.bk b).heddle.applied then (s.bk b).tStart else s.now) (s.bk b).heddle.pc := by
  unfold State.driveAndWait
  extract_lets k c base s₁ k₁
  obtain ⟨g, ca, ga, hd⟩ := s.drive_bk hb d c base
  have hk₁ : k₁ = _ := hd
  have hdrive : k₁.heddle.drive = d := by rw [hk₁]
  have hpc : k₁.heddle.pc = (s.bk b).heddle.pc := by rw [hk₁]
  rw [State.bnkShow_bk, State.bk_setBk _ _ hb]
  exact ⟨rfl, hdrive, rfl, rfl, hpc⟩

theorem State.chopIssue_heddle : ((s.chopIssue b).bk b).heddle = (s.bk b).heddle := by
  unfold State.chopIssue
  rw [State.bk_setBk _ _ hb]

theorem State.drive_now (d c : Nat) (t : Word) : (s.drive b d c t).now = s.now :=
  ((State.drive_keeps s b d c t (Nat.and_self _) (.refl _ s)).same .now (by decide))

/-- The thresholds of CONT change nothing else of the Heddle. -/
theorem State.contLevels_bk : ∃ thermal chop pk vy, (s.contLevels b).bk b
    = { s.bk b with thermal, chop, heddle := { (s.bk b).heddle with pk, vy } } := by
  obtain ⟨th, ch, hwin⟩ := s.contWindow_bk hb
  unfold State.contLevels
  extract_lets s₁ k set half pk vy
  have hk : k = _ := hwin
  have h := State.bk_setBk s₁ { k with heddle := { k.heddle with pk, vy }, chop := { k.chop with band := some (pk, vy) } } hb
  exact ⟨th, { ch with band := some (pk, vy) }, pk, vy, h.trans (by rw [hk])⟩

theorem State.contWindow_cmpHolds (h : s.modesOk = true) (x : Nat) : (s.contWindow b).cmpHolds b x = s.cmpHolds b x := by
  unfold State.contWindow
  extract_lets k n c th
  split
  · exact State.setBk_cmpHolds h hb (by rfl) (by rfl) (by rfl) (by rfl) x
  · rfl

theorem State.contLevels_cmpHolds (h : s.modesOk = true) (x : Nat) : (s.contLevels b).cmpHolds b x = s.cmpHolds b x := by
  have h₁ : (s.contWindow b).modesOk = true := (State.contWindow_keeps s b (Nat.and_self _) (.refl _ s)).modes h
  unfold State.contLevels
  extract_lets s₁ k set half pk vy
  exact (State.setBk_cmpHolds h₁ hb (by rfl) (by rfl) (by rfl) (by rfl) x).trans (s.contWindow_cmpHolds hb h x)

end

/-- The bank that has looked at shunt voltage `uv`. -/
def State.looked (s : State) (b uv : Nat) : Bank :=
  { s.bk b with
    outPk := if s.cmpHolds b 7 then (s.bk b).outPk else reaches uv (s.bk b).heddle.pk
    outVy := if s.cmpHolds b 6 then (s.bk b).outVy else !reaches uv (s.bk b).heddle.vy
    outZ := if s.cmpHolds b 5 then (s.bk b).outZ else !reaches uv (s.get (Reg.BNK_CFG1_ZTH b)) }

theorem State.look_bk (s : State) {b : Nat} (hb : b < 12) (uv : Nat) : (s.look b uv).bk b = s.looked b uv := State.bk_setBk _ _ hb

theorem State.unblanked_congr {s s' : State} {b : Nat} (hn : s'.now = s.now) (hg : (s'.bk b).heddle.gateAt = (s.bk b).heddle.gateAt)
    (hbl : (s'.bk b).heddle.blank = (s.bk b).heddle.blank) : s'.unblanked b = s.unblanked b := by
  unfold State.unblanked
  simp only [hn, hg, hbl]

theorem State.look_unblanked (s : State) {b : Nat} (hb : b < 12) (uv : Nat) : (s.look b uv).unblanked b = s.unblanked b :=
  State.unblanked_congr (by rfl) (by rw [State.look_heddle _ hb]) (by rw [State.look_heddle _ hb])

/-- A Heddle that regulates between the drive states `onD` and `offD`, in the on-state where `on`. -/
def Heddle.regulates (h : Heddle) (onD offD lim : Nat) (cont : Bool) (base : Word) (pc pk : Nat) (on : Bool) : Prop :=
  h.phase = .chop ∧ h.onD = onD ∧ h.offD = offD ∧ h.base = base ∧ h.limit = lim ∧ h.cont = cont
    ∧ h.drive = (if h.isOn then h.onD else h.offD) ∧ h.pc = pc ∧ h.pk = pk ∧ h.isOn = on

/-- A regulation that issues, on what the comparators then see. -/
theorem State.regulate_looked (s : State) {b : Nat} (hb : b < 12) (onD offD lim : Nat) (cont : Bool) (uv : Nat) {s₁ : State}
    (hs₁ : (if cont then s.contLevels b else s) = s₁) (hn : s₁.now = s.now) (happ : (s₁.bk b).heddle.applied = (s.bk b).heddle.applied)
    (hst : (s₁.bk b).tStart = (s.bk b).tStart) (hpc : (s₁.bk b).heddle.pc = (s.bk b).heddle.pc) :
    ((s.regulate b onD offD lim cont uv).bk b).heddle.regulates onD offD lim cont
      (if (s.bk b).heddle.applied then (s.bk b).tStart else s.now) (s.bk b).heddle.pc (s₁.bk b).heddle.pk
      !(s₁.unblanked b && (s₁.looked b uv).outPk) := by
  unfold State.regulate
  rw [hs₁]
  extract_lets s₂ k c base isOn s₃ k₃
  obtain ⟨g, ca, ga, hd⟩ := s₂.drive_bk hb (if isOn then onD else offD) c base
  have hk₃ : k₃ = _ := hd
  have hk : k = s₁.looked b uv := s₁.look_bk hb uv
  have h₂ : (s₂.bk b).heddle = (s₁.bk b).heddle := s₁.look_heddle hb uv
  have hdrive : k₃.heddle.drive = if isOn then onD else offD := by rw [hk₃]
  have hpc₃ : k₃.heddle.pc = (s.bk b).heddle.pc := by rw [hk₃, h₂, hpc]
  have hpk₃ : k₃.heddle.pk = (s₁.bk b).heddle.pk := by rw [hk₃, h₂]
  have hbase : base = if (s.bk b).heddle.applied then (s.bk b).tStart else s.now := by
    have happ₂ : k.heddle.applied = (s.bk b).heddle.applied := by rw [hk]; exact happ
    have hst₂ : k.tStart = (s.bk b).tStart := by rw [hk]; exact hst
    unfold base
    rw [happ₂, hst₂, show s₂.now = s.now from hn]
  have hon : isOn = !(s₁.unblanked b && (s₁.looked b uv).outPk) := by
    unfold isOn
    rw [hk, show s₂.unblanked b = _ from s₁.look_unblanked hb uv]
  rw [State.bnkShow_bk, State.chopIssue_heddle _ hb, State.bk_setBk _ _ hb]
  exact ⟨rfl, rfl, rfl, hbase, rfl, rfl, hdrive, hpc₃, hpk₃, hon⟩

/-- CHOP and CONT issue in the off-state where the peak comparator shows the current at the peak outside blanking. -/
theorem State.regulate_shows (s : State) {b : Nat} (hb : b < 12) (onD offD lim : Nat) (cont : Bool) (uv : Nat) : ∃ pk on,
    ((s.regulate b onD offD lim cont uv).bk b).heddle.regulates onD offD lim cont
        (if (s.bk b).heddle.applied then (s.bk b).tStart else s.now) (s.bk b).heddle.pc pk on
      ∧ (s.modesOk = true → on = !(s.unblanked b && (if s.cmpHolds b 7 then (s.bk b).outPk else reaches uv pk))) := by
  cases cont
  case false => exact ⟨_, _, s.regulate_looked hb onD offD lim false uv (s₁ := s) rfl rfl rfl rfl rfl, fun _ => rfl⟩
  case true =>
    obtain ⟨th, ch, pk, vy, hk⟩ := s.contLevels_bk hb
    have hn : (s.contLevels b).now = s.now := (State.contLevels_keeps s b (Nat.and_self _) (.refl _ s)).same .now (by decide)
    refine ⟨_, _, s.regulate_looked hb onD offD lim true uv (s₁ := s.contLevels b) rfl hn (by rw [hk]) (by rw [hk]) (by rw [hk]), fun hm => ?_⟩
    have hun : (s.contLevels b).unblanked b = s.unblanked b := State.unblanked_congr hn (by rw [hk]) (by rw [hk])
    have hout : ((s.contLevels b).looked b uv).outPk
        = if s.cmpHolds b 7 then (s.bk b).outPk else reaches uv ((s.contLevels b).bk b).heddle.pk := by
      unfold State.looked
      rw [s.contLevels_cmpHolds hb hm, hk]
    rw [hun, hout]

/-- A Heddle that has taken a threshold or a blanking time goes on with it. -/
theorem State.heddleGo_setBk (s : State) {b : Nat} (hb : b < 12) (k : Bank) :
    (((s.setBk b k).heddleGo b (s.nextPc b)).bk b).heddle
      = { k.heddle with pc := (s.bk b).heddle.pc + 1, nd := k.heddle.nd + 1 } := by
  rw [State.heddleGo_bk _ hb, State.nextPc, State.bk_setBk _ _ hb]

section
variable (t : Word) (b : Fin 12) (uv : Nat) (s : State)

theorem exec_setpk : exec (.setpk t b) s = .next ((s.at t).whenIssued b 8 (fun i =>
    ((s.at t).setBk b { s.bk b with heddle := { (s.bk b).heddle with pk := s.scaled b (s.bk b).level i.code } }).heddleGo b
      ((s.at t).nextPc b))) := rfl

theorem exec_setvy : exec (.setvy t b) s = .next ((s.at t).whenIssued b 9 (fun i =>
    ((s.at t).setBk b { s.bk b with heddle := { (s.bk b).heddle with vy := s.scaled b (s.bk b).level i.code } }).heddleGo b
      ((s.at t).nextPc b))) := rfl

theorem exec_blank : exec (.blank t b) s = .next ((s.at t).whenIssued b 10 (fun i =>
    ((s.at t).setBk b { s.bk b with heddle := { (s.bk b).heddle with blank := 8 * i.arg } }).heddleGo b ((s.at t).nextPc b))) := rfl

theorem exec_jmp : exec (.jmp t b) s = .next ((s.at t).whenIssued b 12 (fun i => (s.at t).heddleGo b i.arg)) := rfl

theorem exec_loopInstr : exec (.loopInstr t b) s = .next ((s.at t).whenIssued b 14 (fun i =>
    ((s.at t).set (Reg.BNK_STAT_LOOPC b) i.arg).heddleGo b ((s.at t).nextPc b))) := rfl

theorem exec_drv : exec (.drv t b) s = .next ((s.at t).whenIssued b 1 (fun i => (s.at t).driveAndWait b i.d i.time)) := rfl

theorem exec_riseInstr : exec (.riseInstr t b) s
    = .next ((s.at t).whenIssued b 2 (fun i => (s.at t).driveAndWait b i.d i.time)) := rfl

theorem exec_fallInstr : exec (.fallInstr t b) s
    = .next ((s.at t).whenIssued b 3 (fun i => (s.at t).driveAndWait b i.d i.time)) := rfl

theorem exec_chop : exec (.chop t b uv) s = .next ((s.at t).whenIssued b 4 (fun i =>
    (s.at t).regulate b i.d (if i.c = 1 then 0 else 3) i.time false uv)) := rfl

theorem exec_contInstr : exec (.contInstr t b uv) s = .next ((s.at t).whenIssued b 6 (fun i =>
    (s.at t).regulate b i.d (if i.c = 1 then 0 else 3) 0 true uv)) := rfl

end

/-- Settles O17: the equations of the instructions, each on a Heddle that is about to issue it. -/
theorem heddleInstructions : Obligations.HeddleInstructions := by
  refine ⟨fun t b uv s ht => ?_, fun t b uv s => ?_⟩
  · refine ⟨fun hi => does_issued (exec_setpk t b s) hi ht ((s.at t).heddleGo_setBk b.isLt _),
      fun hi => does_issued (exec_setvy t b s) hi ht ((s.at t).heddleGo_setBk b.isLt _),
      fun hi => does_issued (exec_blank t b s) hi ht ((s.at t).heddleGo_setBk b.isLt _),
      fun hi => does_issued (exec_jmp t b s) hi ht (congrArg Bank.heddle ((s.at t).heddleGo_bk b.isLt _)), fun hi => brf_runs t b uv s hi ht,
      fun hi => does_issued (exec_loopInstr t b s) hi ht ⟨congrArg Bank.heddle (State.heddleGo_bk _ b.isLt _), ?_⟩, fun hi => flt_runs t b s hi ht⟩
    refine (State.heddleGo_get _ _ (by simp)).trans (State.get_set_of_lt _ _ (by simp) ?_)
    exact HInstr.arg_lt _
  · refine ⟨fun ht => ?_, fun x hx => ?_⟩
    · have hreg (i : HInstr) (lim : Nat) (cont : Bool) := (s.at t).regulate_shows b.isLt i.d (if i.c = 1 then 0 else 3) lim cont uv
      refine ⟨fun hi => does_issued (exec_drv t b s) hi ht ((s.at t).driveAndWait_waits b.isLt _ _),
        fun hi => does_issued (exec_riseInstr t b s) hi ht ((s.at t).driveAndWait_waits b.isLt _ _),
        fun hi => does_issued (exec_fallInstr t b s) hi ht ((s.at t).driveAndWait_waits b.isLt _ _),
        fun hi => does_issued (exec_chop t b uv s) hi ht ?_, fun hi => does_issued (exec_contInstr t b uv s) hi ht ?_⟩
      · obtain ⟨pk, on, ⟨hph, hon, hoff, hbase, hlim, hcont, hdrive, hpc, hpk, his⟩, hm⟩ := hreg _ _ false
        exact ⟨hph, hon, hoff, hbase, hlim, hcont, hdrive, hpc, fun h => by rw [his, hm h, hpk]; rfl⟩
      · obtain ⟨pk, on, ⟨hph, hon, hoff, hbase, hlim, hcont, hdrive, hpc, hpk, his⟩, hm⟩ := hreg _ _ true
        exact ⟨hph, hon, hoff, hbase, hlim, hcont, hdrive, hpc, fun h => by rw [his, hm h, hpk]; rfl⟩
    · obtain ⟨f, hf⟩ := exec_heddleInstrs t b uv s x hx
      refine ⟨fun hi => hf.trans (congrArg _ (State.whenIssued_idle (s := s.at t) hi)), fun hi ht => ?_⟩
      obtain ⟨howner, hphase⟩ := State.issues_issue hi
      rw [hf, exec_trapInstr, howner, hphase, ht]
      exact congrArg _ (State.whenIssued_traps (s := s.at t) hi ht)

/-! ### Waits -/

/-- A field that is written what it holds leaves its word. -/
theorem Fld.put_get (f : Fld) (w : Word) (hf : f.lo + f.wid ≤ 48) : f.put w (f.get w) = w := by
  refine BitVec.eq_of_getLsbD_eq fun i hi => ?_
  rw [Fld.put_getLsbD f w _ i hi hf]
  split
  · next h =>
    rw [Fld.get_testBit, show f.lo + (i - f.lo) = i by omega]
    have : i - f.lo < f.wid := by omega
    simp [this]
  · rfl

/-- To clear a bit that is clear changes no register. -/
theorem State.reg_clearBit_clear (s : State) {f : Fld} (hf : f.lo + f.wid ≤ 48) {n : Nat} (h : (s.get f).testBit n = false) (a : Nat) :
    (s.clearBit f n).reg a = s.reg a := by
  unfold State.clearBit
  rw [h, if_neg Bool.false_ne_true, Nat.sub_zero]
  by_cases ha : a = f.addr
  · subst ha
    refine (State.reg_setReg s _ _).trans ?_
    exact Fld.put_get f _ hf
  · exact State.reg_set_ne _ _ _ ha

theorem State.clearBit_cmpHolds (s : State) (f : Fld) (n b x : Nat) : (s.clearBit f n).cmpHolds b x = s.cmpHolds b x := rfl

theorem State.instr_congr {s s' : State} {b pc : Nat} (h : ∀ j, s'.get (Reg.HDL_EVEN b j) = s.get (Reg.HDL_EVEN b j)
    ∧ s'.get (Reg.HDL_ODD b j) = s.get (Reg.HDL_ODD b j)) : s'.instr b pc = s.instr b pc := by
  unfold State.instr
  split
  · rw [(h _).1]
  · rw [(h _).2]

/-- An instruction's opcode lies below 4 or the comparators' INIT bits 5 to 7 are no part of it: to clear one leaves a RISE or FALL.
(An address past the store may name the INIT bits.) -/
theorem State.op_clearBit (s : State) (b x pc : Nat) (hx : 5 ≤ x) (hx' : x < 8) (ho : (s.instr b pc).op < 4) :
    ((s.clearBit (Reg.CMP_BK_INIT b) x).instr b pc).op = (s.instr b pc).op := by
  unfold State.instr at ho ⊢
  split
  · next he =>
    rw [if_pos he] at ho
    by_cases ha : (Reg.HDL_EVEN b (pc / 2)).addr = (Reg.CMP_BK_INIT b).addr
    · have hreg : s.reg (Reg.HDL_EVEN b (pc / 2)).addr = s.reg (Reg.CMP_BK_INIT b).addr := congrArg s.reg ha
      have hbit : (s.get (Reg.HDL_EVEN b (pc / 2))).testBit (16 + x) = false := by
        have hlt : (bitsOf (s.get (Reg.HDL_EVEN b (pc / 2))) 19 5).testBit (x - 3) = false :=
          Nat.testBit_lt_two_pow (Nat.lt_of_lt_of_le ho (Nat.pow_le_pow_right (n := 2) (by omega) (by omega : 2 ≤ x - 3)))
        unfold bitsOf at hlt
        rw [Nat.testBit_mod_two_pow, Nat.testBit_div_two_pow, show x - 3 + 19 = 16 + x by omega] at hlt
        simpa [show x - 3 < 5 by omega] using hlt
      have hclear : (s.get (Reg.CMP_BK_INIT b)).testBit x = false := by
        unfold State.get at hbit ⊢
        rw [Fld.get_testBit, hreg] at hbit
        rw [Fld.get_testBit]
        simp only [show 16 + x < 24 by omega, show 24 + (16 + x) = 40 + x by omega, decide_true, Bool.true_and] at hbit
        simp [hbit]
      rw [State.get_congr (State.reg_clearBit_clear s (by simp) hclear _)]
    · exact congrArg (fun v => (HInstr.mk v).op) (State.get_congr (State.reg_set_ne s _ _ ha))
  · exact congrArg (fun v => (HInstr.mk v).op) (State.get_set_ne s _ _ _ (.inr ⟨by simp, by simp, by simp⟩))

/-! ### The next instruction -/

/-- A Heddle that issues the instruction after that of `h`. -/
def Heddle.follows (h' h : Heddle) : Prop := h'.phase = .issue ∧ h'.pc = h.pc + 1 ∧ h'.nd = 0 ∧ h'.drive = h.drive

section
variable (s : State) {b : Nat} (hb : b < 12)
include hb

theorem State.heddleNext_none : ((s.heddleNext b none).bk b).heddle.follows (s.bk b).heddle
    ∧ (s.heddleNext b none).get (Reg.BNK_STAT_TO b) = s.get (Reg.BNK_STAT_TO b) := by
  unfold State.heddleNext
  extract_lets s₁ k
  refine ⟨?_, State.bnkShow_get _ (by simp)⟩
  rw [State.bnkShow_bk, State.bk_setBk _ _ hb]
  exact ⟨rfl, rfl, rfl, rfl⟩

theorem State.heddleNext_some (out : Bool) : ((s.heddleNext b (some out)).bk b).heddle.follows (s.bk b).heddle
    ∧ (s.heddleNext b (some out)).get (Reg.BNK_STAT_TO b) = if out then 1 else 0 := by
  unfold State.heddleNext
  extract_lets s₁ k
  refine ⟨?_, (State.bnkShow_get _ (by simp)).trans (State.get_flag s _ out (by simp) (by simp))⟩
  rw [State.bnkShow_bk, State.bk_setBk _ _ hb]
  exact ⟨rfl, rfl, rfl, rfl⟩

end

/-! ### What the comparators bring about -/

/-- What the comparators' outputs bring about outside blanking (R294, R312, R320). -/
def State.acts (s : State) (b : Nat) : State :=
  let k := s.bk b
  let h := k.heddle
  match h.phase, (s.instr b h.pc).op with
  | .wait, 2 => if k.outPk then s.heddleNext b (some false) else s
  | .wait, 3 => if k.outVy then s.heddleNext b (some false) else s
  | .chop, _ =>
    if elapsed h.changeAt s.now < s.dwell b then s
    else
      let want := if h.isOn then !k.outPk else k.outVy
      let level := s.get (Reg.BNK_THM_LEVEL b (k.owner.getD 0))
      if want = h.isOn then s
      else if h.cont && decide (level = 3) then
        let s := s.toStop b s.now
        s.setBk b { s.bk b with contDue := true }
      else
        let s := s.chopTo b want
        if h.cont then (s.setBk b { s.bk b with level }).contLevels b else s
  | .recov, _ => if k.outZ then s.recoveryEnd b false else s
  | _, _ => s

theorem State.heddleSees_eq (s : State) (b uv : Nat) : s.heddleSees b uv = if !((s.look b uv).peakSees b).unblanked b
    then (s.look b uv).peakSees b else ((s.look b uv).peakSees b).acts b := rfl

section
variable {s : State} {b : Nat}

theorem State.acts_rise (hp : (s.bk b).heddle.phase = .wait) (ho : (s.instr b (s.bk b).heddle.pc).op = 2) (hk : (s.bk b).outPk = true) :
    s.acts b = s.heddleNext b (some false) := by
  unfold State.acts
  simp only [hp, ho, hk, if_true]

theorem State.acts_fall (hp : (s.bk b).heddle.phase = .wait) (ho : (s.instr b (s.bk b).heddle.pc).op = 3) (hk : (s.bk b).outVy = true) :
    s.acts b = s.heddleNext b (some false) := by
  unfold State.acts
  simp only [hp, ho, hk, if_true]

/-- A regulation leaves its on-state or off-state where the comparators ask for it. -/
theorem State.acts_chop (hp : (s.bk b).heddle.phase = .chop) (hd : s.dwell b ≤ elapsed (s.bk b).heddle.changeAt s.now)
    (hw : (if (s.bk b).heddle.isOn then !(s.bk b).outPk else (s.bk b).outVy) = !(s.bk b).heddle.isOn) : s.acts b
      = if (s.bk b).heddle.cont && decide (s.get (Reg.BNK_THM_LEVEL b ((s.bk b).owner.getD 0)) = 3) then
          (s.toStop b s.now).setBk b { (s.toStop b s.now).bk b with contDue := true }
        else if (s.bk b).heddle.cont then
          ((s.chopTo b !(s.bk b).heddle.isOn).setBk b { (s.chopTo b !(s.bk b).heddle.isOn).bk b with
            level := s.get (Reg.BNK_THM_LEVEL b ((s.bk b).owner.getD 0)) }).contLevels b
        else s.chopTo b !(s.bk b).heddle.isOn := by
  unfold State.acts
  simp only [hp, hw, if_neg (Nat.not_lt.2 hd)]
  exact if_neg (by cases (s.bk b).heddle.isOn <;> simp)

variable (s) (hb : b < 12)
include hb

theorem State.chopLog_heddle (on : Bool) : ((s.chopLog b on).bk b).heddle = (s.bk b).heddle := by
  obtain ⟨th, ch, hwin⟩ := s.contWindow_bk hb
  unfold State.chopLog
  extract_lets s₁ k l d l'
  rw [State.bk_setBk _ _ hb]
  have hk : k = _ := hwin
  have hh : k.heddle = (s.bk b).heddle := by rw [hk]
  exact hh

theorem State.chopTo_heddle (on : Bool) : ((s.chopTo b on).bk b).heddle.isOn = on
    ∧ ((s.chopTo b on).bk b).heddle.drive = if on then (s.bk b).heddle.onD else (s.bk b).heddle.offD := by
  unfold State.chopTo
  extract_lets k s₁ k₁
  obtain ⟨g, ca, ga, hd⟩ := s.drive_bk hb (if on then k.heddle.onD else k.heddle.offD) (k.owner.getD 0) s.now
  have hk₁ : k₁ = _ := hd
  have hdrive : k₁.heddle.drive = if on then (s.bk b).heddle.onD else (s.bk b).heddle.offD := by rw [hk₁]
  rw [State.chopLog_heddle _ hb, State.bk_setBk _ _ hb]
  exact ⟨rfl, hdrive⟩

theorem State.contLevels_setBk (k : Bank) : (((s.setBk b k).contLevels b).bk b).heddle.isOn = k.heddle.isOn
    ∧ (((s.setBk b k).contLevels b).bk b).heddle.drive = k.heddle.drive := by
  obtain ⟨th, ch, pk, vy, hk⟩ := (s.setBk b k).contLevels_bk hb
  rw [hk, State.bk_setBk _ _ hb]
  exact ⟨rfl, rfl⟩

/-- What a regulation that changes its state shows, where no thermal stop takes its place. -/
theorem State.acts_chop_heddle (hp : (s.bk b).heddle.phase = .chop) (hd : s.dwell b ≤ elapsed (s.bk b).heddle.changeAt s.now)
    (hw : (if (s.bk b).heddle.isOn then !(s.bk b).outPk else (s.bk b).outVy) = !(s.bk b).heddle.isOn)
    (hc : (s.bk b).heddle.cont = false ∨ s.get (Reg.BNK_THM_LEVEL b ((s.bk b).owner.getD 0)) ≠ 3) :
    ((s.acts b).bk b).heddle.isOn = (!(s.bk b).heddle.isOn) ∧ ((s.acts b).bk b).heddle.drive
      = if !(s.bk b).heddle.isOn then (s.bk b).heddle.onD else (s.bk b).heddle.offD := by
  rw [State.acts_chop hp hd hw, if_neg (by simpa using fun h => hc.resolve_left (by simp [h]))]
  obtain ⟨hon, hdrive⟩ := s.chopTo_heddle hb !(s.bk b).heddle.isOn
  generalize s.chopTo b (!(s.bk b).heddle.isOn) = s₁ at hon hdrive ⊢
  split
  · obtain ⟨hon', hdrive'⟩ := s₁.contLevels_setBk hb { s₁.bk b with level := s.get (Reg.BNK_THM_LEVEL b ((s.bk b).owner.getD 0)) }
    exact ⟨hon'.trans hon, hdrive'.trans hdrive⟩
  · exact ⟨hon, hdrive⟩

end

/-- A peak that is no short load is noted at most. -/
theorem State.peakSees_calm (s : State) (b : Nat) (h : (s.bk b).pulse = none ∨ (s.bk b).peaked = true
    ∨ s.get (Reg.BNK_CDCFG_RISE_MIN b ((s.bk b).owner.getD 0)) * us ≤ elapsed (s.bk b).tStart s.now) :
    s.peakSees b = s ∨ s.peakSees b = s.setBk b { s.bk b with peaked := true } := by
  unfold State.peakSees
  extract_lets k c early s₁
  split
  · next hl =>
    right
    have hpulse : (s.bk b).pulse ≠ none := by
      intro hn
      simp [Bank.live, k, hn] at hl
    have hearly : early = false := by
      rcases h.resolve_left hpulse with h | h
      · simp [early, k, h]
      · have : ¬ elapsed k.tStart s.now < s.get (Reg.BNK_CDCFG_RISE_MIN b c) * us := Nat.not_lt.2 h
        simp [early, this]
    rw [hearly]
    rfl
  · exact .inl rfl

/-- The state in which the comparators have looked at `uv`, and nothing else has come of it. -/
structure Looked (s : State) (b uv : Nat) (s' : State) : Prop where
  regs : s'.regs = s.regs
  now : s'.now = s.now
  bank : ∃ peaked, s'.bk b = { s.looked b uv with peaked }

theorem Looked.of_calm (s : State) {b : Nat} (hb : b < 12) (uv : Nat) (h : (s.bk b).pulse = none ∨ (s.bk b).peaked = true
    ∨ s.get (Reg.BNK_CDCFG_RISE_MIN b ((s.bk b).owner.getD 0)) * us ≤ elapsed (s.bk b).tStart s.now) :
    Looked s b uv ((s.look b uv).peakSees b) := by
  have hk := s.look_bk hb uv
  rcases (s.look b uv).peakSees_calm b (by rw [hk]; exact h) with he | he
  · rw [he]
    exact ⟨rfl, rfl, _, hk⟩
  · rw [he]
    exact ⟨rfl, rfl, true, (State.bk_setBk _ _ hb).trans (by rw [hk])⟩

section
variable {s s' : State} {b uv : Nat} (h : Looked s b uv s')
include h

theorem Looked.get (f : Fld) : s'.get f = s.get f := by
  refine State.get_congr ?_
  unfold State.reg
  rw [h.regs]

theorem Looked.instr (pc : Nat) : s'.instr b pc = s.instr b pc := State.instr_congr fun _ => ⟨h.get _, h.get _⟩

theorem Looked.heddle : (s'.bk b).heddle = (s.bk b).heddle := by
  obtain ⟨p, hk⟩ := h.bank
  rw [hk]
  rfl

theorem Looked.owner : (s'.bk b).owner = (s.bk b).owner := by
  obtain ⟨p, hk⟩ := h.bank
  rw [hk]
  rfl

theorem Looked.unblanked : s'.unblanked b = s.unblanked b := State.unblanked_congr h.now (by rw [h.heddle]) (by rw [h.heddle])

theorem Looked.dwell : s'.dwell b = s.dwell b := by
  unfold State.dwell
  rw [h.heddle, h.get]

theorem Looked.outPk (hc : s.cmpHolds b 7 = false) : (s'.bk b).outPk = reaches uv (s.bk b).heddle.pk := by
  obtain ⟨p, hk⟩ := h.bank
  rw [hk]
  exact if_neg (by simp [hc])

theorem Looked.outVy (hc : s.cmpHolds b 6 = false) : (s'.bk b).outVy = !reaches uv (s.bk b).heddle.vy := by
  obtain ⟨p, hk⟩ := h.bank
  rw [hk]
  exact if_neg (by simp [hc])

theorem Looked.outZ (hc : s.cmpHolds b 5 = false) : (s'.bk b).outZ = !reaches uv (s.get (Reg.BNK_CFG1_ZTH b)) := by
  obtain ⟨p, hk⟩ := h.bank
  rw [hk]
  exact if_neg (by simp [hc])

end

/-- Where no short load shows, the comparators act on what they have looked at. -/
theorem State.heddleSees_looked (s : State) {b : Nat} (hb : b < 12) (uv : Nat) (hu : s.unblanked b = true)
    (h : (s.bk b).pulse = none ∨ (s.bk b).peaked = true
      ∨ s.get (Reg.BNK_CDCFG_RISE_MIN b ((s.bk b).owner.getD 0)) * us ≤ elapsed (s.bk b).tStart s.now) :
    ∃ s', Looked s b uv s' ∧ s.heddleSees b uv = s'.acts b := by
  have hl := Looked.of_calm s hb uv h
  refine ⟨_, hl, ?_⟩
  rw [State.heddleSees_eq, hl.unblanked, hu]
  rfl

section
variable {s s' : State} {b uv : Nat} (h : Looked s b uv s') (hb : b < 12)
include h hb

theorem Looked.acts_fall (hp : (s.bk b).heddle.phase = .wait) (ho : (s.instr b (s.bk b).heddle.pc).op = 3) (hc : s.cmpHolds b 6 = false)
    (hv : reaches uv (s.bk b).heddle.vy = false) : ((s'.acts b).bk b).heddle.follows (s.bk b).heddle
      ∧ (s'.acts b).get (Reg.BNK_STAT_TO b) = 0 := by
  rw [State.acts_fall (by rw [h.heddle, hp]) (by rw [h.heddle, h.instr, ho]) (by rw [h.outVy hc, hv]; rfl), ← h.heddle]
  exact s'.heddleNext_some hb false

theorem Looked.acts_rise (hp : (s.bk b).heddle.phase = .wait) (ho : (s.instr b (s.bk b).heddle.pc).op = 2) (hc : s.cmpHolds b 7 = false)
    (hv : reaches uv (s.bk b).heddle.pk = true) : ((s'.acts b).bk b).heddle.follows (s.bk b).heddle
      ∧ (s'.acts b).get (Reg.BNK_STAT_TO b) = 0 := by
  rw [State.acts_rise (by rw [h.heddle, hp]) (by rw [h.heddle, h.instr, ho]) (by rw [h.outPk hc, hv]), ← h.heddle]
  exact s'.heddleNext_some hb false

theorem Looked.acts_off (hp : (s.bk b).heddle.phase = .chop) (hd : s.dwell b ≤ elapsed (s.bk b).heddle.changeAt s.now)
    (hn : (s.bk b).heddle.cont = false ∨ s.get (Reg.BNK_THM_LEVEL b ((s.bk b).owner.getD 0)) ≠ 3) (hc : s.cmpHolds b 7 = false)
    (hon : (s.bk b).heddle.isOn = true) (hv : reaches uv (s.bk b).heddle.pk = true) :
    ((s'.acts b).bk b).heddle.isOn = false ∧ ((s'.acts b).bk b).heddle.drive = (s.bk b).heddle.offD := by
  have ho := s'.acts_chop_heddle hb (by rw [h.heddle, hp]) (by rw [h.dwell, h.heddle, h.now]; exact hd)
    (by rw [h.heddle, hon, h.outPk hc, hv]; rfl) (by rw [h.heddle, h.get, h.owner]; exact hn)
  rw [h.heddle, hon] at ho
  exact ho

theorem Looked.acts_on (hp : (s.bk b).heddle.phase = .chop) (hd : s.dwell b ≤ elapsed (s.bk b).heddle.changeAt s.now)
    (hn : (s.bk b).heddle.cont = false ∨ s.get (Reg.BNK_THM_LEVEL b ((s.bk b).owner.getD 0)) ≠ 3) (hc : s.cmpHolds b 6 = false)
    (hon : (s.bk b).heddle.isOn = false) (hv : reaches uv (s.bk b).heddle.vy = false) :
    ((s'.acts b).bk b).heddle.isOn = true ∧ ((s'.acts b).bk b).heddle.drive = (s.bk b).heddle.onD := by
  have ho := s'.acts_chop_heddle hb (by rw [h.heddle, hp]) (by rw [h.dwell, h.heddle, h.now]; exact hd)
    (by rw [h.heddle, hon, h.outVy hc, hv]; rfl) (by rw [h.heddle, h.get, h.owner]; exact hn)
  rw [h.heddle, hon] at ho
  exact ho

/-- At thermal level 3 the next trip ends CONT at its stop vector (R370). -/
theorem Looked.acts_hot (hp : (s.bk b).heddle.phase = .chop) (hd : s.dwell b ≤ elapsed (s.bk b).heddle.changeAt s.now)
    (hcont : (s.bk b).heddle.cont = true) (hn : s.get (Reg.BNK_THM_LEVEL b ((s.bk b).owner.getD 0)) = 3) (hc7 : s.cmpHolds b 7 = false)
    (hc6 : s.cmpHolds b 6 = false) (hs : (s.bk b).heddle.stopping = false)
    (ht : (if (s.bk b).heddle.isOn then reaches uv (s.bk b).heddle.pk else !reaches uv (s.bk b).heddle.vy) = true)
    {o : Nat} (ho : (s.bk b).owner = some o) (hw : o < 4) :
    ((s'.acts b).bk b).stopsAt (s.get (Reg.BNK_PROG_STOPV b o)) ∧ ((s'.acts b).bk b).contDue = true := by
  have hwant : (if (s'.bk b).heddle.isOn then !(s'.bk b).outPk else (s'.bk b).outVy) = !(s'.bk b).heddle.isOn := by
    rw [h.heddle, h.outPk hc7, h.outVy hc6]
    cases hon : (s.bk b).heddle.isOn <;> simp [hon] at ht <;> simp [ht]
  rw [State.acts_chop (by rw [h.heddle, hp]) (by rw [h.dwell, h.heddle, h.now]; exact hd) hwant,
    if_pos (by rw [h.heddle, h.get, h.owner, hcont, hn]; rfl), State.bk_setBk _ _ hb]
  obtain ⟨hstop, -⟩ := s'.toStop_bk hb (o := o) (by rw [h.owner, ho]) (by rw [h.heddle, hs]) (by rw [h.heddle, hp]; simp) hw s'.now
  rw [h.get] at hstop
  exact ⟨hstop, rfl⟩

end

section
variable (t : Word) (b : Fin 12) (uv : Nat) (s : State)

theorem exec_expiry_drv (hp : (s.bk b).heddle.phase = .wait) (ho : (s.instr b (s.bk b).heddle.pc).op = 1)
    (hd : (s.bk b).heddle.limit ≤ elapsed (s.bk b).heddle.base t) :
    exec (.heddleTimedExpiry t b) s = .next ((s.at t).heddleNext b none) := by
  change execHeddleTimedExpiry t b s = _
  unfold execHeddleTimedExpiry
  have hp' : ((s.at t).bk b).heddle.phase = .wait := hp
  have ho' : ((s.at t).instr b ((s.at t).bk b).heddle.pc).op = 1 := ho
  simp only [hp', ho']
  exact congrArg _ (if_pos hd)

theorem exec_expiry_wait (hp : (s.bk b).heddle.phase = .wait) (ho : (s.instr b (s.bk b).heddle.pc).op ≠ 1)
    (hd : (s.bk b).heddle.limit ≤ elapsed (s.bk b).heddle.base t) :
    exec (.heddleTimedExpiry t b) s = .next ((s.at t).heddleNext b (some true)) := by
  change execHeddleTimedExpiry t b s = _
  unfold execHeddleTimedExpiry
  have hp' : ((s.at t).bk b).heddle.phase = .wait := hp
  extract_lets s₁ h due
  refine congrArg _ ?_
  split
  · next h1 => exact absurd h1 ho
  · exact if_pos hd
  · next h1 => exact absurd (h1.symm.trans hp') (by simp)
  · next h1 h2 h3 => exact absurd hp' (by assumption)

theorem exec_expiry_chop (hp : (s.bk b).heddle.phase = .chop) (hl : (s.bk b).heddle.limit ≠ 0)
    (hd : (s.bk b).heddle.limit ≤ elapsed (s.bk b).heddle.base t) :
    exec (.heddleTimedExpiry t b) s = .next ((s.at t).heddleNext b (some false)) := by
  change execHeddleTimedExpiry t b s = _
  unfold execHeddleTimedExpiry
  have hp' : ((s.at t).bk b).heddle.phase = .chop := hp
  simp only [hp']
  exact congrArg _ (if_pos ⟨hd, hl⟩)

theorem heddleTimedExpiry_idles (h : elapsed (s.bk b).heddle.base t < (s.bk b).heddle.limit
    ∨ ((s.bk b).heddle.phase = .chop ∧ (s.bk b).heddle.limit = 0) ∨ ((s.bk b).heddle.phase ≠ .wait ∧ (s.bk b).heddle.phase ≠ .chop)) :
    Idles (.heddleTimedExpiry t b) s t := by
  change execHeddleTimedExpiry t b s = _
  unfold execHeddleTimedExpiry
  extract_lets s₁ k due
  change elapsed k.base t < k.limit ∨ (k.phase = .chop ∧ k.limit = 0) ∨ (k.phase ≠ .wait ∧ k.phase ≠ .chop) at h
  have hdue (hw : k.phase = .wait) : ¬ due := by
    rcases h with h | h | h
    · exact Nat.not_le.2 h
    · exact absurd (hw.symm.trans h.1) (by simp)
    · exact absurd hw h.1
  refine congrArg _ ?_
  split
  · next hw _ => exact if_neg (hdue hw)
  · next hw _ => exact if_neg (hdue hw)
  · next hc =>
    refine if_neg fun hd => ?_
    rcases h with h | h | h
    · exact Nat.not_le.2 h hd.1
    · exact hd.2 h.2
    · exact h.2 hc
  · rfl

theorem comparatorTrip_idles {k : Fin 3} (h : (s.at t).cmpHolds b (7 - k) = true) : Idles (.comparatorTrip t b k uv) s t :=
  congrArg _ (if_pos h)

theorem exec_comparatorTrip_sees {k : Fin 3} (h : (s.at t).cmpHolds b (7 - k) = false) (hr : s.running = true)
    (hi : ((s.bk b).idle && (s.bk b).residual) = false) : exec (.comparatorTrip t b k uv) s
      = .next (((s.at t).clearBit (Reg.CMP_BK_INIT b) (7 - k)).heddleSees b uv) := by
  have hrun : ((s.at t).clearBit (Reg.CMP_BK_INIT b) (7 - k)).running = true :=
    (State.is_congr (State.get_congr (State.reg_set_ne _ _ _ (by simp only []; omega)))).trans hr
  change execComparatorTrip t b k uv s = _
  unfold execComparatorTrip
  extract_lets s₁ s₂ _ s₃
  have hs₃ : s₃ = s₂ := if_neg (by simp [show (s₂.bk b).idle = (s.bk b).idle from rfl, show (s₂.bk b).residual = (s.bk b).residual from rfl, hi])
  rw [hs₃, show s₂.running = true from hrun, if_neg (by simp [s₁, h])]
  rfl

/-- A crossing clears the comparator's INIT bit while the Loom is stopped (R411). -/
theorem comparatorTrip_stopped {k : Fin 3} (h : (s.at t).cmpHolds b (7 - k) = false) (hr : s.running = false) :
    Does (.comparatorTrip t b k uv) s (fun s' => s'.get (Reg.CMP_BK_INIT b) / 2 ^ (7 - k.val) % 2 = 0) := by
  have hbit : (((s.at t).clearBit (Reg.CMP_BK_INIT b) (7 - k)).get (Reg.CMP_BK_INIT b)).testBit (7 - k) = false := by
    rw [State.get_clearBit _ (by simp)]
    simp
  have hrun : ((s.at t).clearBit (Reg.CMP_BK_INIT b) (7 - k)).running = false :=
    (State.is_congr (State.get_congr (State.reg_set_ne _ _ _ (by simp only []; omega)))).trans hr
  refine ⟨_, congrArg Host.Outcome.next (if_neg (by simp [h])), ?_⟩
  extract_lets s₁ _ s₂
  have hs₂ : s₂.regs = s₁.regs := by
    unfold s₂
    split <;> rfl
  have hget (f : Fld) : s₂.get f = s₁.get f := by
    refine State.get_congr ?_
    unfold State.reg
    rw [hs₂]
  have hrun₂ : s₂.running = false := by
    unfold State.running State.is at hrun ⊢
    rw [hget]
    exact hrun
  rw [hrun₂, if_neg Bool.false_ne_true]
  beta_reduce
  rw [hget]
  rw [Nat.testBit_eq_decide_div_mod_eq, decide_eq_false_iff_not] at hbit
  exact Nat.mod_two_ne_one.1 hbit

theorem exec_blankingEnd (hr : s.running = true) : exec (.blankingEnd t b uv) s = .next ((s.at t).heddleSees b uv) :=
  congrArg _ (if_pos hr)

theorem exec_contDwellEnd (hi : (s.bk b).inCont = true) (hd : s.dwell b ≤ elapsed (s.bk b).heddle.changeAt t) :
    exec (.contDwellEnd t b uv) s = .next ((s.at t).heddleSees b uv) := congrArg _ (if_pos ⟨hi, hd⟩)

end

/-- What begins with a look of the comparators: the state that looks, with the banks, the instant and the outputs held that `s` has. -/
structure Sees (s s₀ : State) (b : Nat) : Prop where
  bank : s₀.bk b = s.bk b
  now : s₀.now = s.now
  holds : ∀ x, s₀.cmpHolds b x = s.cmpHolds b x
  riseMin : ∀ j, s₀.get (Reg.BNK_CDCFG_RISE_MIN b j) = s.get (Reg.BNK_CDCFG_RISE_MIN b j)
  op : ∀ pc, (s.instr b pc).op < 4 → (s₀.instr b pc).op = (s.instr b pc).op

theorem Sees.refl (s : State) (b : Nat) : Sees s s b := ⟨rfl, rfl, fun _ => rfl, fun _ => rfl, fun _ _ => rfl⟩

theorem Sees.clearBit (s : State) (b : Nat) (k : Fin 3) : Sees s (s.clearBit (Reg.CMP_BK_INIT b) (7 - k)) b :=
  ⟨rfl, rfl, fun _ => rfl, fun j => State.get_set_ne s _ _ _ (.inr ⟨by simp, by simp, by simp⟩),
    fun pc ho => s.op_clearBit b _ pc (by omega) (by omega) ho⟩

/-- What a look of the comparators outside blanking brings about in a wait or a regulation. -/
theorem heddleSees_shows {s s₀ : State} {b uv : Nat} (hb : b < 12) (h : Sees s s₀ b) (h7 : s.cmpHolds b 7 = false)
    (h6 : s.cmpHolds b 6 = false) (hu : s.unblanked b = true) (hcalm : (s.bk b).pulse = none ∨ (s.bk b).peaked = true
      ∨ s.get (Reg.BNK_CDCFG_RISE_MIN b ((s.bk b).owner.getD 0)) * us ≤ elapsed (s.bk b).tStart s.now) :
    let s' := s₀.heddleSees b uv
    let h := (s.bk b).heddle
    let op := (s.instr b h.pc).op
    (h.phase = .wait → op = 3 → reaches uv h.vy = false → (s'.bk b).heddle.follows h ∧ s'.get (Reg.BNK_STAT_TO b) = 0)
      ∧ (h.phase = .wait → op = 2 → reaches uv h.pk = true → (s'.bk b).heddle.follows h ∧ s'.get (Reg.BNK_STAT_TO b) = 0)
      ∧ (h.phase = .chop → h.cont = false → h.blank ≤ elapsed h.changeAt s.now → h.isOn = true → reaches uv h.pk = true →
        (s'.bk b).heddle.isOn = false ∧ (s'.bk b).heddle.drive = h.offD)
      ∧ (h.phase = .chop → h.cont = false → h.blank ≤ elapsed h.changeAt s.now → h.isOn = false → reaches uv h.vy = false →
        (s'.bk b).heddle.isOn = true ∧ (s'.bk b).heddle.drive = h.onD) := by
  obtain ⟨hbk, hnow, hholds, hrise, hop⟩ := h
  have hu₀ : s₀.unblanked b = true := (State.unblanked_congr hnow (by rw [hbk]) (by rw [hbk])).trans hu
  obtain ⟨s₁, hl, hs₁⟩ := s₀.heddleSees_looked hb uv hu₀ (by rw [hbk, hnow, hrise]; exact hcalm)
  rw [hs₁, ← hbk]
  rw [← hholds] at h7 h6
  have hdwell (hc : (s₀.bk b).heddle.cont = false) : s₀.dwell b = (s₀.bk b).heddle.blank := by
    unfold State.dwell
    exact if_neg (by simp [hc])
  refine ⟨fun hp ho hv => hl.acts_fall hb hp ?_ h6 hv, fun hp ho hv => hl.acts_rise hb hp ?_ h7 hv,
    fun hp hc hd hon hv => hl.acts_off hb hp (by rw [hdwell hc, hnow]; exact hd) (.inl hc) h7 hon hv,
    fun hp hc hd hon hv => hl.acts_on hb hp (by rw [hdwell hc, hnow]; exact hd) (.inl hc) h6 hon hv⟩
  · rw [hop _ (by rw [ho]; omega), ho]
  · rw [hop _ (by rw [ho]; omega), ho]

/-- Settles O18: how the waits end by time, what a look of the comparators brings about, and CONT's dwell. -/
theorem heddleWaitsEnd : Obligations.HeddleWaitsEnd := by
  intro t b uv s k h op issuesNext
  refine ⟨fun hp hd => ?_, fun hp hl hd => ?_, heddleTimedExpiry_idles t b s, fun k' c hc hr hm hi hh h7 h6 hu hcalm => ?_,
    fun k' hh => comparatorTrip_idles t b uv s hh, fun k' hh hr => comparatorTrip_stopped t b uv s hh hr,
    fun hown hpulse hu h7 h6 hp hcont hd => ?_, fun hn => ?_, fun hr => ?_⟩
  · by_cases ho : op = 1
    · obtain ⟨hf, hto⟩ := (s.at t).heddleNext_none b.isLt
      exact ⟨_, exec_expiry_drv t b s hp ho hd, hf, hto.trans (if_pos ho).symm⟩
    · obtain ⟨hf, hto⟩ := (s.at t).heddleNext_some b.isLt true
      exact ⟨_, exec_expiry_wait t b s hp ho hd, hf, hto.trans (if_neg ho).symm⟩
  · obtain ⟨hf, hto⟩ := (s.at t).heddleNext_some b.isLt false
    exact ⟨_, exec_expiry_chop t b s hp hl hd, hf, hto⟩
  · obtain ⟨s₀, hs₀, he⟩ : ∃ s₀, Sees (s.at t) s₀ b ∧ exec c s = .next (s₀.heddleSees b uv) := by
      simp only [List.mem_cons, List.not_mem_nil, or_false] at hc
      rcases hc with rfl | rfl
      · exact ⟨_, .clearBit _ b k', exec_comparatorTrip_sees t b uv s hh hr hi⟩
      · exact ⟨_, .refl _ b, exec_blankingEnd t b uv s hr⟩
    obtain ⟨hfall, hrise, hoff, hon⟩ := heddleSees_shows (uv := uv) b.isLt hs₀ h7 h6 hu hcalm
    exact ⟨fun hp ho hv => ⟨_, he, hfall hp ho hv⟩, fun hp ho hv => ⟨_, he, hrise hp ho hv⟩,
      fun hp hc hd hn hv => ⟨_, he, hoff hp hc hd hn hv⟩, fun hp hc hd hn hv => ⟨_, he, hon hp hc hd hn hv⟩⟩
  · have hin : (s.bk b).inCont = true := by
      unfold Bank.inCont
      rw [show (s.bk b).owner.isSome = true from hown, show (s.bk b).pulse = none from hpulse, show (s.bk b).heddle.phase = .chop from hp]
      rfl
    have he := exec_contDwellEnd t b uv s hin hd
    obtain ⟨s₁, hl, hs₁⟩ := (s.at t).heddleSees_looked b.isLt uv hu (.inl hpulse)
    rw [hs₁] at he
    refine ⟨fun hon hv hh => ⟨_, he, hl.acts_off b.isLt hp hd (.inr hh) h7 hon hv⟩,
      fun hon hv hh => ⟨_, he, hl.acts_on b.isLt hp hd (.inr hh) h6 hon hv⟩, fun hs hh ht o ho => ⟨_, he, ?_⟩⟩
    obtain ⟨⟨hph, hst, hdr, hpc⟩, hdue⟩ := hl.acts_hot b.isLt hp hd hcont hh h7 h6 hs ht ho o.isLt
    exact ⟨hph, hst, hdr, hpc, hdue⟩
  · refine congrArg _ (if_neg fun hc => ?_)
    rcases hn with hn | hn
    · exact Bool.eq_false_iff.1 hn hc.1
    · exact Nat.not_le.2 hn hc.2
  · exact congrArg _ (if_neg (Bool.eq_false_iff.1 hr))

/-! ### Recovery -/

/-- The fields from BNKb_STAT on. -/
def fromStat (b : Nat) : Set Fld := {f | Reg.BNK_STAT_addr b ≤ f.addr}

theorem mem_fromStat {b : Nat} {f : Fld} : f ∈ fromStat b ↔ 0x140E + 64 * b ≤ f.addr := Iff.rfl

theorem fromClosure_subset_fromStat (b : Nat) : fromClosure b ⊆ fromStat b := fun f hf => by
  have := mem_fromClosure.1 hf
  exact mem_fromStat.2 (by omega)

theorem shownFlds_fromStat (b : Nat) : ∀ f ∈ shownFlds b, f ∈ fromStat b := by
  simp only [shownFlds, List.forall_mem_cons, mem_fromStat]
  exact ⟨Nat.le_refl _, Nat.le_refl _, Nat.le_refl _, Nat.le_refl _, Nat.le_refl _, fun _ h => absurd h List.not_mem_nil⟩

theorem Writes.below_stat {b : Nat} {s₀ s : State} (h : Writes (fromStat b) s₀ s) {g : Fld} (hg : g.addr < 0x140E + 64 * b) :
    s.get g = s₀.get g := h g fun f hf => .inl (by have := mem_fromStat.1 hf; omega)

theorem State.drive_writes_fromStat {b : Nat} (hb : b < 12) {s₀ s : State} (h : Writes (fromStat b) s₀ s) (d c : Nat) (t : Word) :
    Writes (fromStat b) s₀ (s.drive b d c t) :=
  h.trans ((State.drive_writes hb (.refl _ s) d c t).mono (fromClosure_subset_fromStat b))

theorem State.bk_stick (s : State) (f : Fld) (v b : Nat) : (s.stick f v).bk b = s.bk b := rfl

theorem State.bk_flag (s : State) (f : Fld) (v : Bool) (b : Nat) : (s.flag f v).bk b = s.bk b := rfl

/-- An event of a bank, with its sticky bit and its counter. -/
def State.bankNotes (s : State) (b cause ch : Nat) (f g : Fld) : State := ((s.stick f 1).inc g).bankEvent b cause ch 0 s.now

theorem State.bankNotes_same (s : State) (b cause ch : Nat) (f g : Fld) : (s.bankNotes b cause ch f g).now = s.now
    ∧ ∀ d, (s.bankNotes b cause ch f g).bk d = s.bk d := ⟨rfl, fun _ => rfl⟩

theorem State.bankNotes_writes {F : Set Fld} {s₀ s : State} (h : Writes F s₀ s) (b cause ch : Nat) {f g : Fld} (hf : f ∈ F)
    (hg : g ∈ F) : Writes F s₀ (s.bankNotes b cause ch f g) := ((h.stick hf 1).inc hg).report _ _ _ _ _

section
variable (s : State) {b : Nat} (hb : b < 12)
include hb

omit hb in
/-- A bank in recovery from `t` on, with the limit `lim` (R312). -/
def Bank.recovers (k : Bank) (owner : Option Nat) (lim : Nat) (t : Word) : Prop :=
  k.heddle.phase = .recov ∧ k.heddle.drive = 0 ∧ k.heddle.base = t ∧ k.heddle.limit = lim ∧ k.owner = owner ∧ k.recAt = t

/-- A bank that enters recovery without overlap. -/
theorem State.recover_recovers (lim : Nat) {c : Nat} (ho : (s.bk b).owner = some c) (hov : s.is (Reg.BNK_CFG_RECOV_OVERLAP b) = false) :
    ((s.recover b lim).bk b).recovers (some c) lim s.now := by
  unfold State.recover
  extract_lets k main
  split
  · next h => exact absurd (h.symm.trans ho) (by simp)
  next c' h =>
  obtain rfl : c' = c := Option.some.inj (h.symm.trans ho)
  extract_lets s₁ s₂ k₂ _ h s₃
  obtain ⟨g, ca, ga, hd⟩ := s.drive_bk hb 0 c' s.now
  have h₁ : s₁.bk b = _ := hd
  have hn₁ : s₁.now = s.now := s.drive_now hb 0 c' s.now
  have hw₁ : Writes (fromStat b) s s₁ := State.drive_writes_fromStat hb (.refl _ s) 0 c' s.now
  have hs₂ : s₂ = if main then s₁.bankNotes b 7 c' (Reg.BNK_STAT_EARLY b) (Reg.BNK_CNT1_EARLY b) else s₁ := by rfl
  have hshow : k₂ = s₁.bk b ∧ s₂.now = s.now ∧ Writes (fromStat b) s s₂ := by
    change s₂.bk b = _ ∧ _
    rw [hs₂]
    split
    · obtain ⟨hn, hbk⟩ := s₁.bankNotes_same b 7 c' (Reg.BNK_STAT_EARLY b) (Reg.BNK_CNT1_EARLY b)
      exact ⟨hbk b, hn.trans hn₁, State.bankNotes_writes hw₁ b 7 c' (mem_fromStat.2 (Nat.le_refl _)) (mem_fromStat.2 (by simp only []; omega))⟩
    · exact ⟨rfl, hn₁, hw₁⟩
  obtain ⟨hk₂, hn₂, hw₂⟩ := hshow
  clear_value s₂
  have hov₃ : s₃.is (Reg.BNK_CFG_RECOV_OVERLAP b) = false := by
    refine (State.is_congr ?_).trans hov
    exact (hw₂.setBk b _).below_stat (by simp)
  have h₃ : s₃.bk b = _ := State.bk_setBk _ _ hb
  rw [hov₃, if_neg Bool.false_ne_true, State.bnkShow_bk, h₃]
  have howner : k₂.owner = some c' := by rw [hk₂, h₁]; exact ho
  have hdrive : k₂.heddle.drive = 0 := by rw [hk₂, h₁]
  exact ⟨rfl, hdrive, hn₂, rfl, howner, hn₂⟩

/-- A trap enters recovery with RMAX (R313, R317). -/
theorem State.trap_recovers {c : Nat} (ho : (s.bk b).owner = some c) (hov : s.is (Reg.BNK_CFG_RECOV_OVERLAP b) = false) :
    ((s.trap b).bk b).recovers (some c) (s.rmax b) s.now := by
  obtain ⟨g, ca, ga, hd⟩ := s.drive_bk hb 0 ((s.bk b).owner.getD 0) s.now
  have hw₁ : Writes (fromStat b) s (s.drive b 0 ((s.bk b).owner.getD 0) s.now) := State.drive_writes_fromStat hb (.refl _ s) 0 _ s.now
  have hn : (s.drive b 0 ((s.bk b).owner.getD 0) s.now).now = s.now := s.drive_now hb 0 _ s.now
  unfold State.trap
  extract_lets c' s₁ s₂
  have hw₂ : Writes (fromStat b) s s₂ :=
    State.bankNotes_writes hw₁ b 6 c' (mem_fromStat.2 (Nat.le_refl _)) (mem_fromStat.2 (by simp only []; omega))
  obtain ⟨hn₂, hbk⟩ : s₂.now = s.now ∧ s₂.bk b = s₁.bk b := by
    obtain ⟨hn', hbk'⟩ := s₁.bankNotes_same b 6 c' (Reg.BNK_STAT_TRAP b) (Reg.BNK_CNT1_TRAPS b)
    exact ⟨hn'.trans hn, hbk' b⟩
  clear_value s₂
  have hov₂ : s₂.is (Reg.BNK_CFG_RECOV_OVERLAP b) = false := (State.is_congr (hw₂.below_stat (by simp only []; omega))).trans hov
  have hrmax : s₂.rmax b = s.rmax b := congrArg (· * us) (hw₂.below_stat (by simp only []; omega))
  have howner : (s₂.bk b).owner = some c := by
    rw [hbk, show s₁.bk b = _ from hd]
    exact ho
  have h := s₂.recover_recovers hb (s₂.rmax b) howner hov₂
  rw [hn₂, hrmax] at h
  rw [hrmax]
  exact h

end

/-! ### Recovery ends -/

/-- A bank that holds no request and owes no CONT shows itself when it is released. -/
theorem State.release_calm (s : State) (b c : Nat) (hr : (s.bk b).reqs = []) (hd : (s.bk b).contDue = false) :
    s.release b c = s.bnkShow b := by
  have hexpire : s.expireWaits b = s := by
    unfold State.expireWaits
    rw [hr]
    rfl
  have hcont : s.contTry b true = s := by
    unfold State.contTry
    exact if_neg (by simp [hd])
  have hown : s.ownWaits b c = s := by
    unfold State.ownWaits
    rw [hr]
    rfl
  have hgrant : s.grantWaiting b 8 = s := by
    unfold State.grantWaiting
    rw [hr]
    split
    · rfl
    · rfl
  unfold State.release
  rw [hexpire, hcont, hown, hgrant]

theorem State.release_shows (s : State) (b c : Nat) (hr : (s.bk b).reqs = []) (hd : (s.bk b).contDue = false) :
    (s.release b c).bk b = s.bk b ∧ Writes (fromStat b) s (s.release b c) := by
  rw [s.release_calm b c hr hd]
  exact ⟨s.bnkShow_bk b b, State.bnkShow_writes (.refl _ s) (shownFlds_fromStat b)⟩

/-- The reset of a bank whose recovery has ended (R298). -/
def Bank.freed (k : Bank) (t : Word) (limit : Bool) : Bank :=
  { k with
    owner := none, pulse := none, early := k.early || limit, idleAt := some t, residual := false
    heddle := { k.heddle with phase := .idle, stopping := false, cont := false, limit := 0 } }

/-- A bank that nobody owns. -/
def Bank.free (k : Bank) : Prop := k.owner = none ∧ k.pulse = none ∧ k.heddle.phase = .idle

theorem State.closureResult_writes {b : Nat} {s₀ s : State} (h : Writes (fromStat b) s₀ s) (c flag : Nat) :
    Writes (fromStat b) s₀ (s.closureResult b c flag) := by
  have hflag : Reg.BNK_CLRES_FLAG b c ∈ fromStat b := mem_fromStat.2 (by simp only []; omega)
  have hseq : Reg.BNK_CLRES_SEQ b c ∈ fromStat b := mem_fromStat.2 (by simp only []; omega)
  exact (h.set hflag flag).set hseq _

theorem State.bk_incMod (s : State) (f : Fld) (b : Nat) : (s.incMod f).bk b = s.bk b := rfl

theorem State.closureResult_bk (s : State) (b c flag d : Nat) : (s.closureResult b c flag).bk d = s.bk d :=
  (State.bk_incMod _ _ _).trans (State.bk_set _ _ _ _)

/-- The fields of a recovery end, before the bank is freed. -/
def State.recoveryNoted (s : State) (b c : Nat) (limit : Bool) : State :=
  let s := ((s.markEnd b c s.now).heatDue b c).flag (Reg.BNK_STAT_TO b) limit
  if limit then (s.stick (Reg.BNK_STAT_RMAX_HIT b) 1).set (Reg.BNK_CDSTAT_SUSPECT b c) 1 else s

theorem State.recoveryEnd_eq {s : State} {b c : Nat} (limit : Bool) (ho : (s.bk b).owner = some c) : ∃ s₁ : State,
    (s₁ = s ∨ s₁ = s.leaveHeat b c) ∧ s.recoveryEnd b limit =
      (let s₂ := ((s₁.recoveryNoted b c limit).setBk b (((s₁.recoveryNoted b c limit).bk b).freed s.now limit)).release b c
      if (s.bk b).pulse.isNone then s₂
      else if !limit && !(s.bk b).spoiled && (s₂.bk b).owner.isNone && s₂.get (Reg.BNK_CLCFG_CL_EN b) / 2 ^ c % 2 == 1 then
        s₂.startTail b c
      else s₂.closureResult b c 3) := by
  refine ⟨if (s.bk b).pulse.isSome then s.leaveHeat b c else s, by split <;> simp, ?_⟩
  have hn : (if (s.bk b).pulse.isSome then s.leaveHeat b c else s).now = s.now := by split <;> rfl
  unfold State.recoveryEnd State.recoveryNoted
  rw [hn]
  extract_lets k
  split
  · next h => exact absurd (h.symm.trans ho) (by simp)
  next c' h =>
  obtain rfl : c' = c := Option.some.inj (h.symm.trans ho)
  rfl

theorem Writes.reg_below_stat {b a : Nat} {s₀ s : State} (h : Writes (fromStat b) s₀ s) (ha : a < 0x140E + 64 * b) : s.reg a = s₀.reg a :=
  h.reg fun f hf => by have := mem_fromStat.1 hf; omega

section
variable (s : State) {b : Nat} (hb : b < 12)
include hb

theorem State.leaveHeat_bk (c : Nat) : ∃ thermal, (s.leaveHeat b c).bk b = { s.bk b with thermal } := by
  unfold State.leaveHeat
  exact ⟨_, State.bk_setBk _ _ hb⟩

theorem State.markEnd_bk (c : Nat) (t : Word) : ∃ rend, (s.markEnd b c t).bk b = { s.bk b with rend } := by
  unfold State.markEnd
  exact ⟨_, State.bk_setBk _ _ hb⟩

theorem State.heatDue_bk (c : Nat) : ∃ thermal, (s.heatDue b c).bk b = { s.bk b with thermal } := by
  unfold State.heatDue
  exact ⟨_, State.bk_setBk _ _ hb⟩

/-- The end that a recovery leaves in BNKb_REND, with the bank but its heat and its ends as it was. -/
theorem State.markEnd_heatDue_shows (c : Nat) (t : Word) : let s' := (s.markEnd b c t).heatDue b c
    (∃ rend thermal, s'.bk b = { s.bk b with rend, thermal }) ∧ s'.reg (Reg.BNK_REND_addr b c) = t := by
  intro s'
  obtain ⟨re, hm⟩ := s.markEnd_bk hb c t
  obtain ⟨th, hh⟩ := (s.markEnd b c t).heatDue_bk hb c
  exact ⟨⟨re, th, by rw [show s'.bk b = _ from hh, hm]⟩, State.reg_setReg s _ t⟩

theorem State.recoveryNoted_shows {c : Nat} (hc : c < 4) (limit : Bool) : let s' := s.recoveryNoted b c limit
    (∃ rend thermal, s'.bk b = { s.bk b with rend, thermal }) ∧ s'.reg (Reg.BNK_REND_addr b c) = s.now := by
  intro s'
  obtain ⟨hbk, hreg⟩ := s.markEnd_heatDue_shows hb c s.now
  have hto : Reg.BNK_STAT_TO b ∈ fromStat b := mem_fromStat.2 (Nat.le_refl _)
  have hhit : Reg.BNK_STAT_RMAX_HIT b ∈ fromStat b := mem_fromStat.2 (Nat.le_refl _)
  have hsus : Reg.BNK_CDSTAT_SUSPECT b c ∈ fromStat b := mem_fromStat.2 (by simp only []; omega)
  have hw₁ : Writes (fromStat b) ((s.markEnd b c s.now).heatDue b c) (((s.markEnd b c s.now).heatDue b c).flag (Reg.BNK_STAT_TO b) limit) :=
    (Writes.refl _ _).flag hto limit
  have hs' : Writes (fromStat b) ((s.markEnd b c s.now).heatDue b c) s' ∧ s'.bk b = ((s.markEnd b c s.now).heatDue b c).bk b := by
    change Writes _ _ (s.recoveryNoted b c limit) ∧ _
    unfold State.recoveryNoted
    cases limit
    · exact ⟨hw₁, State.bk_flag _ _ _ _⟩
    · exact ⟨(hw₁.stick hhit 1).set hsus 1, (State.bk_set _ _ _ _).trans ((State.bk_stick _ _ _ _).trans (State.bk_flag _ _ _ _))⟩
  rw [hs'.2]
  exact ⟨hbk, (hs'.1.reg_below_stat (by simp only [Reg.BNK_REND_addr]; omega)).trans hreg⟩

theorem State.startTail_shows (c : Nat) : (∃ gates changeAt gateAt tail, (s.startTail b c).bk b = { s.bk b with
    gates, tail, heddle := { (s.bk b).heddle with drive := 3, changeAt, gateAt } }) ∧ Writes (fromStat b) s (s.startTail b c) := by
  obtain ⟨g, ca, ga, hd⟩ := s.drive_bk hb 3 c s.now
  have hw : Writes (fromStat b) s (s.drive b 3 c s.now) := State.drive_writes_fromStat hb (.refl _ s) 3 c s.now
  unfold State.startTail
  extract_lets s₁ k tl
  have hk : k = _ := hd
  exact ⟨⟨g, ca, ga, some tl, by rw [State.bk_setBk _ _ hb, hk]⟩, hw.setBk b _⟩

/-- A recovery that ends leaves a bank without requests and CONT without owner. -/
theorem State.recoveryEnd_frees {c : Nat} (hc : c < 4) (limit : Bool) (ho : (s.bk b).owner = some c) (hr : (s.bk b).reqs = [])
    (hd : (s.bk b).contDue = false) : ((s.recoveryEnd b limit).bk b).free
      ∧ (s.recoveryEnd b limit).reg (Reg.BNK_REND_addr b c) = s.now := by
  obtain ⟨s₁, hs₁, he⟩ := State.recoveryEnd_eq limit ho
  obtain ⟨hn₁, th₁, hk₁⟩ : s₁.now = s.now ∧ ∃ thermal, s₁.bk b = { s.bk b with thermal } := by
    rcases hs₁ with h | h
    · rw [h]
      exact ⟨rfl, (s.bk b).thermal, rfl⟩
    · rw [h]
      exact ⟨rfl, s.leaveHeat_bk hb c⟩
  obtain ⟨⟨re, th₂, hk₂⟩, hreg₂⟩ := s₁.recoveryNoted_shows hb hc limit
  rw [he]
  generalize s₁.recoveryNoted b c limit = s₂ at hk₂ hreg₂ ⊢
  have hk₃ := State.bk_setBk s₂ ((s₂.bk b).freed s.now limit) hb
  obtain ⟨hk₄, hw₄⟩ := (s₂.setBk b ((s₂.bk b).freed s.now limit)).release_shows b c (by rw [hk₃, Bank.freed, hk₂, hk₁]; exact hr)
    (by rw [hk₃, Bank.freed, hk₂, hk₁]; exact hd)
  extract_lets s₄
  have hfree : (s₄.bk b).free := by
    rw [show s₄.bk b = _ from hk₄.trans hk₃]
    exact ⟨rfl, rfl, rfl⟩
  have hrend : Reg.BNK_REND_addr b c < 0x140E + 64 * b := by simp only [Reg.BNK_REND_addr]; omega
  have hreg₄ : s₄.reg (Reg.BNK_REND_addr b c) = s.now :=
    (Writes.reg_below_stat hw₄ hrend).trans (hreg₂.trans hn₁)
  clear_value s₄
  split
  · exact ⟨hfree, hreg₄⟩
  · split
    · obtain ⟨⟨g, ca, ga, tl, hk⟩, hw⟩ := s₄.startTail_shows hb c
      refine ⟨?_, (hw.reg_below_stat hrend).trans hreg₄⟩
      rw [hk]
      exact hfree
    · rw [State.closureResult_bk]
      exact ⟨hfree, ((State.closureResult_writes (.refl _ s₄) c 3).reg_below_stat hrend).trans hreg₄⟩

end

section
variable (t : Word) (b : Fin 12) (uv : Nat) (s : State)

theorem exec_recov : exec (.recov t b) s = .next ((s.at t).whenIssued b 5 (fun i =>
    (s.at t).recover b (if i.time = 0 then s.rmax b else i.time))) := rfl

theorem exec_recoveryEndZth (hr : s.running = true) (hp : (s.bk b).heddle.phase = .recov) (hu : (s.at t).unblanked b = true)
    (hh : (s.at t).cmpHolds b 5 = false) (hz : reaches uv (s.get (Reg.BNK_CFG1_ZTH b)) = false) :
    exec (.recoveryEndZth t b uv) s = .next ((((s.at t).clearBit (Reg.CMP_BK_INIT b) 5).look b uv).recoveryEnd b false) := by
  have hclear : (if (s.at t).cmpHolds b 5 = true ∨ reaches uv ((s.at t).get (Reg.BNK_CFG1_ZTH b)) = true then s.at t
      else (s.at t).clearBit (Reg.CMP_BK_INIT b) 5) = (s.at t).clearBit (Reg.CMP_BK_INIT b) 5 :=
    if_neg (by rw [hh, State.at_get, hz]; simp)
  refine congrArg Host.Outcome.next ((if_pos ⟨hr, hp⟩).trans ?_)
  rw [hclear]
  refine if_pos ⟨?_, ?_⟩
  · rw [State.look_unblanked _ b.isLt]
    exact hu
  · rw [State.look_bk _ b.isLt]
    have hget : ((s.at t).clearBit (Reg.CMP_BK_INIT b) 5).get (Reg.BNK_CFG1_ZTH b) = s.get (Reg.BNK_CFG1_ZTH b) :=
      State.get_congr (State.reg_set_ne _ _ _ (by simp only []; omega))
    have hhold : ((s.at t).clearBit (Reg.CMP_BK_INIT b) 5).cmpHolds b 5 = false := (State.clearBit_cmpHolds _ _ _ _ _).trans hh
    exact (if_neg (Bool.eq_false_iff.1 hhold)).trans (by rw [hget, hz]; rfl)

theorem exec_recoveryEndRmax (hp : (s.bk b).heddle.phase = .recov) (hd : (s.bk b).heddle.limit ≤ elapsed (s.bk b).heddle.base t) :
    exec (.recoveryEndRmax t b) s = .next ((s.at t).recoveryEnd b true) := congrArg _ (if_pos ⟨hp, hd⟩)

end

/-- The state that a recovery under overlap leaves at its end (R303). -/
def State.overlapEnded (s : State) (b c : Nat) (e : Word) (pulse : Bool) : State :=
  let s := (s.markEnd b c e).heatDue b c
  let k := s.bk b
  let s := s.setBk b { k with ovl := none, idleAt := if k.owner.isNone then some (laterOf e (k.idleAt.getD e)) else none }
  let s := if pulse then s.closureResult b c 3 else s
  s.release b c

theorem exec_overlapRecoveryEnd {t : Word} {b : Fin 12} {s : State} {c : Nat} {e : Word} {x : Bool} (h : (s.bk b).ovl = some (c, e, x)) :
    exec (.overlapRecoveryEnd t b) s = .next (if notBefore t e then (s.at t).overlapEnded b c e x else s.at t) := by
  change execOverlapRecoveryEnd t b s = _
  unfold execOverlapRecoveryEnd State.overlapEnded
  have h' : ((s.at t).bk b).ovl = some (c, e, x) := h
  simp only [h']

theorem State.overlapEnded_shows (s : State) {b : Nat} (hb : b < 12) {c : Nat} (hc : c < 4) (e : Word) (x : Bool)
    (hr : (s.bk b).reqs = []) (hd : (s.bk b).contDue = false) : ((s.overlapEnded b c e x).bk b).ovl = none
      ∧ ((s.overlapEnded b c e x).bk b).owner = (s.bk b).owner ∧ (s.overlapEnded b c e x).reg (Reg.BNK_REND_addr b c) = e := by
  obtain ⟨⟨re, th, hk₁⟩, hreg₁⟩ := s.markEnd_heatDue_shows hb c e
  have hrend : Reg.BNK_REND_addr b c < 0x140E + 64 * b := by simp only [Reg.BNK_REND_addr]; omega
  unfold State.overlapEnded
  generalize (s.markEnd b c e).heatDue b c = s₁ at hk₁ hreg₁ ⊢
  extract_lets _ k s₂ s₃
  have hk₂ : s₂.bk b = _ := State.bk_setBk s₁ _ hb
  have hk : k = _ := hk₁
  have hk₃ : s₃.bk b = s₂.bk b ∧ Writes (fromStat b) s₁ s₃ := by
    have hw : Writes (fromStat b) s₁ s₂ := (Writes.refl _ _).setBk b _
    unfold s₃
    split
    · exact ⟨State.closureResult_bk _ _ _ _ _, State.closureResult_writes hw c 3⟩
    · exact ⟨rfl, hw⟩
  obtain ⟨hk₃, hw₃⟩ := hk₃
  have hreqs : (s₃.bk b).reqs = [] := by
    rw [hk₃, hk₂, hk]
    exact hr
  have hdue : (s₃.bk b).contDue = false := by
    rw [hk₃, hk₂, hk]
    exact hd
  obtain ⟨hk₄, hw₄⟩ := s₃.release_shows b c hreqs hdue
  have howner : k.owner = (s.bk b).owner := by rw [hk]
  rw [hk₄, hk₃, hk₂]
  exact ⟨rfl, howner, ((hw₃.trans hw₄).reg_below_stat hrend).trans hreg₁⟩

/-- Settles O19: the entry into recovery by a trap or RECOV, and the ends of a recovery and of one under overlap. -/
theorem bankRecovery : Obligations.BankRecovery := by
  intro t b uv s k i recovers free
  refine ⟨fun hov => ⟨fun ho hp ht => ?_, fun hi ht => ?_⟩, fun ht => ?_, fun c ho hp hr hd => ⟨fun hrun hu hh hz => ?_, fun hlim => ?_⟩,
    fun hp => ⟨congrArg _ (if_neg fun h => hp h.2), congrArg _ (if_neg fun h => hp h.1)⟩,
    fun hr => congrArg _ (if_neg fun h => Bool.eq_false_iff.1 hr h.1), fun c e x hov hr hd => ⟨fun hn => ?_, fun hn => ?_⟩⟩
  · obtain ⟨c, hc⟩ := Option.isSome_iff_exists.1 ho
    refine ⟨_, exec_trapInstr t b s, ?_⟩
    rw [if_pos (by rw [show (s.bk b).owner.isSome = true from ho, show (s.bk b).heddle.phase = .issue from hp, ht]; rfl)]
    have h := (s.at t).trap_recovers b.isLt hc hov
    rw [← show k.owner = some c from hc] at h
    exact h
  · obtain ⟨ho, -⟩ := State.issues_issue hi
    obtain ⟨c, hc⟩ := Option.isSome_iff_exists.1 ho
    have h := (s.at t).recover_recovers b.isLt (if i.time = 0 then s.rmax b else i.time) hc hov
    rw [← show k.owner = some c from hc] at h
    exact does_issued (exec_recov t b s) hi ht h
  · exact (exec_trapInstr t b s).trans (congrArg _ (if_neg (by simp [ht])))
  · have hk : (((s.at t).clearBit (Reg.CMP_BK_INIT b) 5).look b uv).bk b = ((s.at t).clearBit (Reg.CMP_BK_INIT b) 5).looked b uv :=
      State.look_bk _ b.isLt uv
    obtain ⟨⟨ho', hpu, hph⟩, hreg⟩ := State.recoveryEnd_frees (((s.at t).clearBit (Reg.CMP_BK_INIT b) 5).look b uv) b.isLt c.isLt false
      (by rw [hk]; exact ho) (by rw [hk]; exact hr) (by rw [hk]; exact hd)
    exact ⟨_, exec_recoveryEndZth t b uv s hrun hp hu hh hz, ho', hpu, hph, hreg⟩
  · obtain ⟨⟨ho', hpu, hph⟩, hreg⟩ := (s.at t).recoveryEnd_frees b.isLt c.isLt true ho hr hd
    exact ⟨_, exec_recoveryEndRmax t b s hp hlim, ho', hpu, hph, hreg⟩
  · obtain ⟨ho, hw, hreg⟩ := (s.at t).overlapEnded_shows b.isLt c.isLt e x hr hd
    exact ⟨_, (exec_overlapRecoveryEnd hov).trans (congrArg _ (if_pos hn)), ho, hw, hreg⟩
  · exact (exec_overlapRecoveryEnd hov).trans (congrArg _ (if_neg (Bool.eq_false_iff.1 hn)))

end Sys2Proof.Machine
end

section
/-!
PROOF. The refutations of O22 and O23. The statements are about every state, also one whose notes of this instant hold a code that FCODE
has no room for. The coil model (O24).
-/
namespace Sys2Proof.Machine

/-! ### Detections -/

/-- A state in which something has noted 16 for the FCODE of bank 0, a field of four bits, at the instant `t`. -/
def noted16 (t : Word) (k : Bank) : State :=
  { banks := vset (Vector.replicate 12 {}) 0 k
    ticks := [{ time := t, addr := (Reg.BNK_DSTAT_FCODE 0).addr, lo := (Reg.BNK_DSTAT_FCODE 0).lo, n := 16 }] }

theorem fcode_ne_16 (s : State) : s.get (Reg.BNK_DSTAT_FCODE 0) ≠ 16 := Nat.ne_of_lt (State.get_lt s _)

/-- Bank 0 is IDLE since the instant 0. -/
def idleBank : Bank := { idleAt := some 0 }

theorem idleBank_residual : let s := noted16 48000 idleBank
    s.bk 0 = idleBank ∧ (s.at 48000).cmpHolds 0 5 = false ∧ 10 * us + s.get (Reg.BNK_DCFG_RESID_T 0) * us ≤ elapsed 0 48000
      ∧ reaches 300000 (s.residualTh 0) = true ∧ ((s.at 48000).noted (Reg.BNK_DSTAT_FCODE 0)).foldl max 9 = 16 := by decide

/-- Refutes O22: where 16 is noted for FCODE at the instant of a residual current, FCODE, a field of four bits, does not take the highest of
what is noted. -/
theorem not_bankDetections : ¬ Obligations.BankDetections := by
  unfold Obligations.BankDetections
  intro h
  obtain ⟨hk, hhold, hwait, hreach, hnoted⟩ := idleBank_residual
  obtain ⟨-, -, -, -, hresidual, -⟩ := h 48000 0 300000 (noted16 48000 idleBank)
  obtain ⟨s', -, -, -, -, hcode, -⟩ := (hresidual 0 (congrArg Bank.idleAt hk) (congrArg Bank.idle hk) (congrArg Bank.residual hk) hhold
    hwait).1 hreach
  exact fcode_ne_16 s' (hcode.trans hnoted)

/-- Bank 0 is under self-test since the instant 0. -/
def testedBank : Bank := { selftest := some 0 }

theorem testedBank_fails : let s := noted16 3200 testedBank
    s.bk 0 = testedBank ∧ 2 * us ≤ elapsed 0 3200 ∧ selftestFails ((Vector.replicate 4 (0 : Fin 256)).toList.map (·.val)) ≠ 0
      ∧ ((s.at 3200).noted (Reg.BNK_DSTAT_FCODE 0)).foldl max 11 = 16 := by decide

/-- Refutes O23: where 16 is noted for FCODE at the instant at which a self-test fails, FCODE, a field of four bits, does not take the highest
of what is noted. -/
theorem not_bankTestsAndLatches : ¬ Obligations.BankTestsAndLatches := by
  unfold Obligations.BankTestsAndLatches
  intro h
  obtain ⟨hk, hwait, hfails, hnoted⟩ := testedBank_fails
  obtain ⟨-, -, -, -, -, -, hself, -⟩ := h.1 3200 0 (noted16 3200 testedBank)
  obtain ⟨s', -, -, -, -, hfail⟩ := hself (Vector.replicate 4 0) 0 (congrArg Bank.selftest hk) hwait ((congrArg (fun k : Bank => k.reqs.all (fun r => !r.waiting)) hk).trans rfl)
    (congrArg Bank.contDue hk)
  obtain ⟨-, -, hcode⟩ := hfail hfails
  exact fcode_ne_16 s' (hcode.trans hnoted)

end Sys2Proof.Machine
end

section
/-! PROOF. The refutation of O40. The statement is about every state, also one in which a bank's tail names a channel that no bank has. -/
namespace Sys2Proof.Machine

/-- Headland is in RUN and hears of a lack of slack, whose reaction is CUT. Bank 0 has a tail of a channel beyond its four: the register
that the closure result of this channel falls on is SAF_STAT. -/
def slackTail : State :=
  (((({ power := .up, weave := { tiles := [(4, 0)] }, causes := [(4, 0)] } : State).set Reg.SAF_STAT_STATE hsRun).set
    Reg.SAF_ACT_ACT_SLACK 1).setBk 0 { tail := some {
      ch := Reg.SAF_STAT_addr - Reg.BNK_CLRES_addr 0 0, start := 0, tStart := 0, tStop := 0, samples := [], count := 0
      peak := 0, peakAt := 0, before := none, drift := none } })

theorem slackTail_cuts : slackTail.causes = [(4, 0)] ∧ slackTail.reaction 4 = 1 ∧ slackTail.hs = hsRun := by decide

set_option maxRecDepth 4000 in
/-- The end of the tail in the injection cut makes SAF_STAT.STATE read 7. -/
theorem slackTail_shows : Out.shows (exec (.headlandCause 0) slackTail) Reg.SAF_STAT_STATE ≠ hsCut := by decide

/-- Refutes O40: in a state whose bank 0 has a tail of a channel beyond its four, the closure result that the injection cut writes falls on
SAF_STAT, whose STATE then is no state of Headland. -/
theorem not_headlandStates : ¬ Obligations.HeadlandStates := by
  unfold Obligations.HeadlandStates
  intro h
  obtain ⟨hcauses, hreact, hrun⟩ := slackTail_cuts
  obtain ⟨-, hcause, -⟩ := h 0 slackTail
  obtain ⟨-, hcut, -⟩ := hcause 4 0 hcauses (by decide) (by decide)
  obtain ⟨s', hx, -, -, hstate⟩ := hcut hreact
  refine slackTail_shows ?_
  rw [hx]
  exact (hstate hrun).1

end Sys2Proof.Machine
end

section
/-! PROOF. The triggers of a DMA channel, STOP, RESUME, EN and the return of a domain (O53). -/
namespace Sys2Proof.Machine

/-! ### What the control of a channel leaves -/

section
variable {s : State} {c : Nat}

theorem State.ch_set (f : Fld) (v : Nat) : (s.set f v).ch c = s.ch c := rfl
theorem State.ch_inc (f : Fld) : (s.inc f).ch c = s.ch c := rfl
theorem State.get_setCh (k : DmaChan) (f : Fld) : (s.setCh c k).get f = s.get f := rfl
theorem State.dmaOn_set (f : Fld) (v : Nat) : (s.set f v).dmaOn = s.dmaOn := rfl
theorem State.dmaOn_setCh (k : DmaChan) : (s.setCh c k).dmaOn = s.dmaOn := rfl
theorem State.dmaOn_at (t : Word) : (s.at t).dmaOn = s.dmaOn := rfl

/-- Another field of the channel's registers stays while one counts. -/
theorem State.get_inc_ne {f g : Fld} (h : f.misses g) : (s.inc f).get g = s.get g := State.get_set_ne s f g _ h

variable (hc : c < 16)
include hc

/-- A trigger with time word `t` makes the channel load. -/
theorem State.dmaLoad_shows (t : Word) : (s.dmaLoad c t).dmState c = dmLoad ∧ ((s.dmaLoad c t).ch c).time = t
    ∧ ((s.dmaLoad c t).ch c).slot = (s.ch c).slot ∧ ((s.dmaLoad c t).ch c).desc = none ∧ (s.dmaLoad c t).get (Reg.DMA_FAIL_RETRIES c) = 0
    ∧ ∀ g, (Reg.DMA_FAIL_RETRIES c).misses g → (Reg.DMA_STAT_STATE c).misses g → (s.dmaLoad c t).get g = s.get g := by
  refine ⟨?_, ?_, ?_, ?_, ?_, fun g hf hg => (State.get_set_ne _ _ g _ hg).trans (State.get_set_ne _ _ g _ hf)⟩ <;>
  simp (disch := first | assumption | (simp only []; omega)) only [dmLoad, State.dmaLoad, State.dmState, State.dmGo, State.ch_set,
    State.ch_setCh, State.get_set_ne, State.get_set_of_lt]

omit hc in
theorem State.dmaLoad_now (s : State) (c : Nat) (t : Word) : (s.dmaLoad c t).now = s.now := rfl

/-- A channel that reaches WAIT stays there, or serves its pending trigger at once. -/
theorem State.dmaWait_shows : ((s.ch c).slot = none → (s.dmaWait c).dmState c = dmWait ∧ (s.dmaWait c).ch c = s.ch c)
    ∧ (∀ a, (s.ch c).slot = some a → (s.dmaWait c).dmState c = dmLoad ∧ ((s.dmaWait c).ch c).time = a
      ∧ ((s.dmaWait c).ch c).slot = none ∧ (s.dmaWait c).get (Reg.DMA_STAT_PEND c) = 0)
    ∧ ∀ g, (∀ f ∈ [Reg.DMA_FAIL_RETRIES c, Reg.DMA_STAT_STATE c, Reg.DMA_STAT_PEND c], f.misses g) → (s.dmaWait c).get g = s.get g := by
  unfold State.dmaWait
  extract_lets s₁
  have hslot : (s₁.ch c).slot = (s.ch c).slot := rfl
  split
  next a ha =>
    obtain ⟨hst, htime, hs, -, -, hrest⟩ := State.dmaLoad_shows (s := (s₁.setCh c { s₁.ch c with slot := none }).set (Reg.DMA_STAT_PEND c) 0) hc a
    refine ⟨fun h => absurd (hslot.symm.trans h ▸ ha) (by simp), fun b hb => ?_, fun g hg => ?_⟩
    · obtain rfl : a = b := Option.some.inj (ha.symm.trans (hslot.trans hb))
      refine ⟨hst, htime, hs.trans ?_, (hrest _ (by simp [Fld.misses]) (by simp [Fld.misses])).trans ?_⟩
      · rw [State.ch_set, State.ch_setCh _ _ hc]
      · exact State.get_set_of_lt _ _ (by simp only []; omega) (by simp only []; omega)
    · simp only [List.forall_mem_cons] at hg
      obtain ⟨hr, hst', hp, -⟩ := hg
      exact (hrest g hr hst').trans ((State.get_set_ne _ _ g _ hp).trans (State.get_set_ne s _ g _ hst'))
  next hn =>
    refine ⟨fun _ => ⟨State.get_set_of_lt s _ (by simp only []; omega) (by simp only [dmWait]; omega), rfl⟩,
      fun a ha => absurd (hslot.symm.trans hn ▸ ha) (by simp), fun g hg => State.get_set_ne s _ g _ (hg _ (by simp))⟩


/-! ### A trigger -/

/-- What a trigger with time word `time` does to a channel, from the state `s` to the state `s'` (R554, R555). -/
def State.triggered (s : State) (c : Nat) (time : Word) (s' : State) : Prop :=
  let st := s.dmState c
  (st = dmWait → s'.dmState c = dmLoad ∧ (s'.ch c).time = time ∧ (s'.ch c).left = some s.now ∧ (s'.ch c).slot = (s.ch c).slot
    ∧ s'.get (Reg.DMA_FAIL_RETRIES c) = 0)
  ∧ (st ∈ [dmLoad, dmRun, dmPause] → (s.ch c).slot = none → s'.dmState c = st ∧ (s'.ch c).slot = some time
    ∧ s'.get (Reg.DMA_STAT_PEND c) = 1)
  ∧ (st ∈ [dmLoad, dmRun, dmPause] → (s.ch c).slot ≠ none → s'.ch c = s.ch c
    ∧ s'.get (Reg.DMA_CNT_TRIG_OVR c) = min (s.get (Reg.DMA_CNT_TRIG_OVR c) + 1) (Reg.DMA_CNT_TRIG_OVR c).max)
  ∧ (st ∉ [dmWait, dmLoad, dmRun, dmPause] → s'.ch c = s.ch c ∧ s'.dmState c = st
    ∧ s'.get (Reg.DMA_CNT_TRIG_LOST c) = min (s.get (Reg.DMA_CNT_TRIG_LOST c) + 1) (Reg.DMA_CNT_TRIG_LOST c).max)

theorem State.dmaArrive_triggers (hon : s.dmaOn = true) (t : Word) : s.triggered c t (s.dmaArrive c t) := by
  unfold State.triggered State.dmaArrive
  extract_lets st s₁
  rw [if_neg (not_not_intro hon)]
  split
  next hw =>
    have hload := State.dmaLoad_shows (s := s) hc t
    rw [show s.dmaLoad c t = s₁ from rfl] at hload
    obtain ⟨hst, htime, hslot, -, hr, -⟩ := hload
    rw [hw]
    have hnow : s₁.now = s.now := s.dmaLoad_now c t
    clear_value s₁
    refine ⟨fun _ => ⟨(State.get_setCh _ _).trans hst, ?_, ?_, ?_, (State.get_setCh _ _).trans hr⟩, fun h => absurd h (by decide), fun h => absurd h (by decide), fun h => absurd (by decide) h⟩
    · rw [State.ch_setCh s₁ _ hc, htime]
    · rw [State.ch_setCh s₁ _ hc, hnow]
    · rw [State.ch_setCh s₁ _ hc, hslot]
  next hw =>
    split
    next hs =>
      have hmem : st ∈ [dmLoad, dmRun, dmPause] := by simpa using hs
      split
      next hfull =>
        refine ⟨fun h => absurd h hw, fun _ h => absurd h (Option.isSome_iff_ne_none.1 hfull),
          fun _ _ => ⟨State.ch_inc _, State.get_inc s _ (by simp only []; omega)⟩, fun h => absurd (List.mem_cons_of_mem _ hmem) h⟩
      next hfree =>
        refine ⟨fun h => absurd h hw, fun _ _ => ⟨?_, ?_, ?_⟩,
          fun _ h => absurd (Option.isSome_iff_ne_none.2 h) hfree, fun h => absurd (List.mem_cons_of_mem _ hmem) h⟩
        · rw [State.dmState, State.get_set_ne _ _ _ _ (by simp), State.get_setCh]
          rfl
        · rw [State.ch_set, State.ch_setCh s _ hc]
        · exact State.get_set_of_lt _ _ (by simp only []; omega) (by simp only []; omega)
    next hs =>
      have hmem : st ∉ [dmLoad, dmRun, dmPause] := by simpa using hs
      exact ⟨fun h => absurd h hw, fun h => absurd h hmem, fun h => absurd h hmem,
        fun _ => ⟨State.ch_inc _, State.get_inc_ne (by simp [Fld.misses]), State.get_inc s _ (by simp only []; omega)⟩⟩

/-! ### STOP and EN -/

/-- The channel's STOP at a boundary. -/
theorem State.dmaStopped_shows : (s.dmaStopped c).dmState c = (if s.is (Reg.DMA_CTRL_EN c) then dmStopped else dmIdle)
    ∧ ((s.dmaStopped c).ch c).slot = (s.ch c).slot
    ∧ ∀ g, (Reg.DMA_STAT_STATE c).misses g → (s.dmaStopped c).get g = s.get g := by
  refine ⟨State.get_set_of_lt _ _ (by simp only []; omega) ?_, ?_, fun g hg => State.get_set_ne _ _ g _ hg⟩
  · split <;> simp only [dmStopped, dmIdle] <;> omega
  · rw [State.dmaStopped, State.dmGo, State.ch_set, State.ch_setCh s _ hc]

/-- What STOP does to a channel, from the state `s` to the state `s'`, where EN reads `on` (R563, R564). -/
def State.stopped (s : State) (c : Nat) (on : Bool) (s' : State) : Prop :=
  let st := s.dmState c
  let early := st = dmLoad ∧ (s.ch c).left = some s.now ∧ (s.ch c).desc = none
  ((s'.ch c).slot = none ∧ s'.get (Reg.DMA_STAT_PEND c) = 0 ∧ s'.get (Reg.DMA_CTRL_EN c) = s.get (Reg.DMA_CTRL_EN c))
  ∧ (st = dmWait ∨ st = dmPause → s'.dmState c = (if on then dmStopped else dmIdle))
  ∧ (early → s'.dmState c = (if on then dmStopped else dmIdle)
    ∧ s'.get (Reg.DMA_CNT_TRIG_LOST c) = min (s.get (Reg.DMA_CNT_TRIG_LOST c) + 1) (Reg.DMA_CNT_TRIG_LOST c).max)
  ∧ (st = dmIdle ∨ st = dmStopped ∨ st = dmHalted → s'.dmState c = st)
  ∧ (st = dmRun ∨ (st = dmLoad ∧ ¬ early) → s'.dmState c = st ∧ (s'.ch c).stop = true ∧ (s'.ch c).desc = (s.ch c).desc)

theorem State.dmaStop_stops (hon : s.dmaOn = true) : s.stopped c (s.is (Reg.DMA_CTRL_EN c)) (s.dmaStop c) := by
  unfold State.stopped State.dmaStop
  extract_lets st early k s₁
  have hk : s₁.ch c = { k with slot := none } := State.ch_setCh s _ hc
  have hdesc : (s₁.ch c).desc = (s.ch c).desc := by rw [hk]
  have hst : s₁.dmState c = st := (State.get_set_ne _ _ _ _ (by simp)).trans (State.get_setCh _ _)
  have hpend : s₁.get (Reg.DMA_STAT_PEND c) = 0 := State.get_set_of_lt _ _ (by simp only []; omega) (by simp only []; omega)
  have hen : s₁.get (Reg.DMA_CTRL_EN c) = s.get (Reg.DMA_CTRL_EN c) := (State.get_set_ne _ _ _ _ (by simp)).trans (State.get_setCh _ _)
  have hlost : s₁.get (Reg.DMA_CNT_TRIG_LOST c) = s.get (Reg.DMA_CNT_TRIG_LOST c) := (State.get_set_ne _ _ _ _ (by simp)).trans (State.get_setCh _ _)
  have hnow : s₁.now = s.now := rfl
  have hon₁ : s₁.dmaOn = true := hon
  have his : s₁.is (Reg.DMA_CTRL_EN c) = s.is (Reg.DMA_CTRL_EN c) := State.is_congr hen
  clear_value s₁
  have hslot : (s₁.ch c).slot = none := congrArg DmaChan.slot hk
  obtain ⟨hs, hsl, hrest⟩ := State.dmaStopped_shows (s := s₁) hc
  rw [his] at hs
  rw [if_neg (not_not_intro hon₁), hnow]
  split
  next hw =>
    exact ⟨⟨hsl.trans hslot, (hrest _ (by simp [Fld.misses])).trans hpend, (hrest _ (by simp [Fld.misses])).trans hen⟩, fun _ => hs,
      fun h => absurd h.1 (by rcases hw with h | h <;> rw [h] <;> decide),
      fun h => absurd h (by rcases hw with h | h <;> rw [h] <;> decide),
      fun h => absurd h (by rcases hw with h | h <;> rw [h] <;> simp [dmWait, dmRun, dmPause, dmLoad])⟩
  next hw =>
    split
    next he =>
      have he' : early := ⟨he.1, he.2.1, Option.isNone_iff_eq_none.1 he.2.2⟩
      refine ⟨⟨by rw [State.ch_inc, hsl, hslot], ?_, ?_⟩, fun h => absurd h hw, fun _ => ⟨?_, ?_⟩, fun h => absurd h (by rw [he.1]; decide), fun h => ?_⟩
      · exact (State.get_inc_ne (by simp [Fld.misses])).trans ((hrest _ (by simp [Fld.misses])).trans hpend)
      · exact (State.get_inc_ne (by simp [Fld.misses])).trans ((hrest _ (by simp [Fld.misses])).trans hen)
      · exact (State.get_inc_ne (by simp [Fld.misses])).trans hs
      · rw [State.get_inc _ _ (by simp only []; omega), hrest _ (by simp [Fld.misses]), hlost]
      · rcases h with h | h
        · exact absurd (he.1.symm.trans h) (by decide)
        · exact absurd he' h.2
    next he =>
      have he' : ¬ early := fun h => he ⟨h.1, h.2.1, Option.isNone_iff_eq_none.2 h.2.2⟩
      split
      next hl =>
        refine ⟨⟨by rw [State.ch_setCh s₁ _ hc, hslot], hpend, hen⟩, fun h => absurd h hw, fun h => absurd h he',
          fun h => absurd h (by rcases hl with h | h <;> rw [h] <;> decide), fun _ => ⟨hst, ?_, ?_⟩⟩
        · rw [State.ch_setCh s₁ _ hc]
        · exact by rw [State.ch_setCh s₁ _ hc, hdesc]
      next hl =>
        exact ⟨⟨hslot, hpend, hen⟩, fun h => absurd h hw, fun h => absurd h he', fun _ => hst,
          fun h => absurd (h.symm.imp And.left id) hl⟩

/-- EN is cleared: STOP, which leads to IDLE. -/
theorem State.dmaDisable_shows (hon : s.dmaOn = true) :
    let early := s.dmState c = dmLoad ∧ (s.ch c).left = some s.now ∧ (s.ch c).desc = none
    (s.dmaDisable c).get (Reg.DMA_CTRL_EN c) = 0
    ∧ (s.dmState c = dmIdle ∨ s.dmState c = dmHalted → (s.dmaDisable c).dmState c = s.dmState c)
    ∧ (s.dmState c ∈ [dmWait, dmPause, dmStopped] ∨ early → (s.dmaDisable c).dmState c = dmIdle)
    ∧ (s.dmState c = dmRun ∨ (s.dmState c = dmLoad ∧ ¬ early) → (s.dmaDisable c).dmState c = s.dmState c
      ∧ ((s.dmaDisable c).ch c).stop = true) := by
  unfold State.dmaDisable
  rw [if_neg (not_not_intro hon)]
  extract_lets early s₁
  have hst : (s.set (Reg.DMA_CTRL_EN c) 0).dmState c = s.dmState c := State.get_set_ne s _ _ _ (by simp)
  have hen : (s.set (Reg.DMA_CTRL_EN c) 0).get (Reg.DMA_CTRL_EN c) = 0 :=
    State.get_set_of_lt s _ (by simp only []; omega) (by simp only []; omega)
  have hoff : (s.set (Reg.DMA_CTRL_EN c) 0).is (Reg.DMA_CTRL_EN c) = false := by rw [State.is_eq, hen]; rfl
  have hstop := State.dmaStop_stops (s := s.set (Reg.DMA_CTRL_EN c) 0) hc hon
  rw [show (s.set (Reg.DMA_CTRL_EN c) 0).dmaStop c = s₁ from rfl, hoff] at hstop
  clear_value s₁
  unfold State.stopped at hstop
  dsimp only at hstop
  rw [hst, hen] at hstop
  obtain ⟨⟨-, -, hen'⟩, hwait, hlost, hidle, hrun⟩ := hstop
  split
  next h4 =>
    have hto : (s₁.dmGo c dmIdle).dmState c = dmIdle := State.get_set_of_lt s₁ _ (by simp only []; omega) (by simp only [dmIdle]; omega)
    refine ⟨(State.get_set_ne s₁ _ _ _ (by simp)).trans hen', fun h => ?_, fun _ => hto, fun h => ?_⟩
    · have := (hidle (h.imp id Or.inr)).symm.trans h4
      rw [this] at h
      exact absurd h (by decide)
    · have := (hrun h).1.symm.trans h4
      rw [this] at h
      simp [dmStopped, dmRun, dmLoad] at h
  next h4 =>
    refine ⟨hen', fun h => hidle (h.imp id Or.inr), fun h => ?_, fun h => ⟨(hrun h).1, (hrun h).2.1⟩⟩
    rcases h with h | h
    · simp only [List.mem_cons, List.not_mem_nil, or_false] at h
      rcases h with h | h | h
      · exact (hwait (.inl h)).trans (if_neg (by decide))
      · exact (hwait (.inr h)).trans (if_neg (by decide))
      · exact absurd ((hidle (.inr (.inl h))).trans h) h4
    · exact ((hlost h).1).trans (if_neg (by decide))

end

/-! ### The commands -/

theorem exec_dmaGo {t : Word} {c : Fin 16} {s : State} (he : s.early (.dmaGo t c) = false) :
    exec (.dmaGo t c) s = .next ((s.at t).dmaGo c) := congrArg _ (if_neg (by rw [show (s.at t).early (.dmaGo t c) = _ from he]; decide))
theorem exec_dmaTrigger {t : Word} {c : Fin 16} {s : State} (he : s.early (.dmaTrigger t c) = false) :
    exec (.dmaTrigger t c) s = .next ((s.at t).dmaTrigger c) :=
  congrArg _ (if_neg (by rw [show (s.at t).early (.dmaTrigger t c) = _ from he]; decide))
theorem exec_dmaResume {t : Word} {c : Fin 16} {s : State} (he : s.early (.dmaResume t c) = false) :
    exec (.dmaResume t c) s = .next ((s.at t).dmaResume c) :=
  congrArg _ (if_neg (by rw [show (s.at t).early (.dmaResume t c) = _ from he]; decide))
theorem exec_dmaEnable {t : Word} {c : Fin 16} {s : State} (he : s.early (.dmaEnable t c) = false) :
    exec (.dmaEnable t c) s = .next ((s.at t).dmaSwitchOn c) :=
  congrArg _ (if_neg (by rw [show (s.at t).early (.dmaEnable t c) = _ from he]; decide))
theorem exec_dmaDomainReturn {t : Word} {c : Fin 16} {s : State} (he : s.early (.dmaDomainReturn t c) = false) :
    exec (.dmaDomainReturn t c) s = .next ((s.at t).dmaReturn c) :=
  congrArg _ (if_neg (by rw [show (s.at t).early (.dmaDomainReturn t c) = _ from he]; decide))

/-- Settles O53. -/
theorem dmaTriggersAndControl : Obligations.DmaTriggersAndControl := by
  unfold Obligations.DmaTriggersAndControl
  refine ⟨fun t a c rest s => ⟨fun he hon => ?_, fun he hon htake => ?_, fun he hnone => ?_, fun he hoff => ?_⟩, fun t c s => ⟨fun hoff => ?_, fun hon => ?_⟩⟩
  · exact ⟨_, (exec_dmaGo he).trans (congrArg _ (if_pos hon)), State.dmaArrive_triggers (s := s.at t) c.isLt hon t⟩
  · have hx : (s.at t).dmaTrigger c = ({ s.at t with dmaTrigs := rest } : State).dmaArrive c a := by
      unfold State.dmaTrigger
      rw [show takeTrigger c (s.at t).dmaTrigs = _ from htake]
    refine ⟨_, (exec_dmaTrigger he).trans (congrArg _ hx),
      State.dmaArrive_triggers (s := ({ s.at t with dmaTrigs := rest } : State)) c.isLt hon a, ?_⟩
    exact (State.dmaArrive_keeps { s.at t with dmaTrigs := rest } c a (Nat.and_self _) (.refl _ _)).same .dmaTrigs (by decide)
  · refine (exec_dmaTrigger he).trans (congrArg _ ?_)
    unfold State.dmaTrigger
    extract_lets r
    rw [show r.1 = none from hnone]
  · exact refused_of_wrej ((exec_dmaGo he).trans (congrArg _ (if_neg (by rw [State.dmaOn_at, hoff]; decide))))
  · have hoff' : ¬ (s.at t).dmaOn = true := by rw [State.dmaOn_at, hoff]; decide
    exact ⟨refused_of_wrej (congrArg _ (if_neg hoff')), refused_of_wrej (congrArg _ (if_neg hoff')),
      fun he => refused_of_wrej ((exec_dmaResume he).trans (congrArg _ (if_neg (mt And.left hoff')))),
      fun he => refused_of_wrej ((exec_dmaEnable he).trans (congrArg _ (if_neg hoff')))⟩
  have hon' : (s.at t).dmaOn = true := hon
  obtain ⟨⟨hslot, hpend, -⟩, hwait, hlost, hidle, hrun⟩ := State.dmaStop_stops (s := s.at t) c.isLt hon'
  have hstop : exec (.dmaStop t c) s = .next ((s.at t).dmaStop c) := congrArg _ (if_pos hon')
  obtain ⟨hen, hkept, hoff, hends⟩ := State.dmaDisable_shows (s := s.at t) c.isLt hon'
  have hdis : exec (.dmaDisable t c) s = .next ((s.at t).dmaDisable c) := congrArg _ (if_pos hon')
  refine ⟨fun h => ⟨_, hstop, hwait h, hslot, hpend⟩, fun h => ⟨_, hstop, (hlost h).1, hslot, (hlost h).2⟩,
    fun h => ⟨_, hstop, hidle h, hslot, hpend⟩, fun h => ⟨_, hstop, (hrun h).1, (hrun h).2.1, hslot, (hrun h).2.2⟩,
    fun he h => ?_, fun he h => ?_, fun he h => ?_, fun he h => ?_, fun h => ⟨_, hdis, hkept h, hen⟩, fun h => ⟨_, hdis, hoff h, hen⟩,
    fun h => ⟨_, hdis, (hends h).1, (hends h).2, hen⟩, fun he h hd => ?_, fun he h => ?_⟩
  · obtain ⟨hnone, hsome, hrest⟩ := State.dmaWait_shows (s := (s.at t).set (Reg.DMA_STAT_CAUSE c) 0) c.isLt
    refine ⟨_, (exec_dmaResume he).trans (congrArg _ (if_pos ⟨hon', h⟩)), ⟨hnone, hsome⟩, (hrest _ ?_).trans ?_⟩
    · simp [Fld.misses]
    · exact State.get_set_of_lt (s.at t) _ (by simp only []; omega) (by simp only []; omega)
  · exact ⟨_, (exec_dmaResume he).trans (congrArg _ (if_neg fun h' => h'.2.elim h.1 h.2)), (s.at t).get_wrej, rfl,
      fun _ ha => (s.at t).reg_wrej_ne ha⟩
  · obtain ⟨hnone, hsome, hrest⟩ := State.dmaWait_shows (s := (s.at t).set (Reg.DMA_CTRL_EN c) 1) c.isLt
    have hst : ((s.at t).set (Reg.DMA_CTRL_EN c) 1).dmState c = dmIdle := (State.get_set_ne (s.at t) _ _ _ (by simp)).trans h
    have hx : (s.at t).dmaSwitchOn c = ((s.at t).set (Reg.DMA_CTRL_EN c) 1).dmaWait c :=
      (if_pos hon').trans ((if_neg (not_not_intro hon')).trans (if_pos hst))
    refine ⟨_, (exec_dmaEnable he).trans (congrArg _ hx), ⟨hnone, hsome⟩, (hrest _ ?_).trans ?_⟩
    · simp [Fld.misses]
    · exact State.get_set_of_lt (s.at t) _ (by simp only []; omega) (by simp only []; omega)
  · have hst : ((s.at t).set (Reg.DMA_CTRL_EN c) 1).dmState c = s.dmState c := State.get_set_ne (s.at t) _ _ _ (by simp)
    have hx : (s.at t).dmaSwitchOn c = (s.at t).set (Reg.DMA_CTRL_EN c) 1 :=
      (if_pos hon').trans ((if_neg (not_not_intro hon')).trans (if_neg (hst ▸ h)))
    exact ⟨_, (exec_dmaEnable he).trans (congrArg _ hx), hst, rfl,
      State.get_set_of_lt (s.at t) _ (by simp only []; omega) (by simp only []; omega)⟩
  · have hx : (s.at t).dmaReturn c = (s.at t).dmaLoad c (s.ch c).time := if_pos ⟨h, hd⟩
    obtain ⟨hst, htime, -, hdesc, -, hrest⟩ := State.dmaLoad_shows (s := s.at t) c.isLt (s.ch c).time
    exact ⟨_, (exec_dmaDomainReturn he).trans (congrArg _ hx), hst, htime, hdesc, hrest _ (by simp [Fld.misses]) (by simp [Fld.misses])⟩
  · exact (exec_dmaDomainReturn he).trans (congrArg _ (if_neg fun h' => h.elim (absurd h'.1) (absurd h'.2)))

end Sys2Proof.Machine
end

section
/-! PROOF. The descriptors of a DMA channel: its issue of beats, its halts and pauses, and the load of a descriptor (O54). -/
namespace Sys2Proof.Machine

/-! ### The winner of the internal bus -/

theorem elapsed_self (a : Word) : elapsed a a = 0 := by simp [elapsed]

theorem busWinner_pair (r x : BusReq) (h : 0 ≤ sdiff x.asked r.asked) : busWinner [r, x] =
    if elapsed r.asked x.asked ≤ 12 ∧ (sdiff x.time r.time < 0 ∨ (x.time = r.time ∧ x.idx < r.idx)) then some x else some r := by
  simp only [busWinner, List.foldl_cons, List.foldl_nil, if_neg (Int.not_lt.2 h), List.filter_cons, elapsed_self, Nat.zero_le,
    decide_true, if_true, List.filter_nil]
  by_cases hx : elapsed r.asked x.asked ≤ 12
  · simp only [hx, decide_true, if_true, List.foldl_cons, List.foldl_nil, true_and]
  · simp only [hx, decide_false, Bool.false_eq_true, if_false, List.foldl_cons, List.foldl_nil, false_and]

/-! ### Addresses -/

theorem stepAddr_fixed (a w k : Nat) : stepAddr a false w k = a := by simp [stepAddr]

theorem winAddr_winVal {a : Nat} (h : a < 2 ^ 20) (hw : isWin a = true) : winAddr (winVal a) = a := by
  simp only [isWin, decide_eq_true_eq] at hw
  simp only [winAddr, winVal]
  omega

/-- The address of the first beat. -/
theorem stepAddr_zero {a : Nat} (h : a < 2 ^ 20) (inc : Bool) (w : Nat) : stepAddr a inc w 0 = a := by
  have hmove : ∀ v : Nat, (if w = 0 then v + 0 else v / 2 ^ w * 2 ^ w + (v + 0) % 2 ^ w) = v := fun v => by
    split
    · rfl
    · rw [Nat.mul_comm]; exact Nat.div_add_mod v _
  unfold stepAddr
  extract_lets move
  rw [show move (winVal a) = winVal a from hmove _, show move (a % 65536) = a % 65536 from hmove _]
  split
  · rfl
  · split
    next hw => exact winAddr_winVal h hw
    · omega

/-! ### The issue of beats -/

/-- Beat `i` of the descriptor as it is issued at the instant `t`. -/
def Desc.beat (d : Desc) (t : Word) (i : Nat) : Beat := { idx := i, src := d.srcAt i, dst := d.dstAt i, asked := t }

/-- The fields that the issue of beats writes. -/
def issueFlds (c : Nat) : List Fld := [Reg.DMA_STAT_COUNT c, Reg.DMA_CUR_DST c, Reg.DMA_CUR_SRC c]

theorem State.now_set (s : State) (f : Fld) (v : Nat) : (s.set f v).now = s.now := rfl
theorem State.now_setCh (s : State) (c : Nat) (k : DmaChan) : (s.setCh c k).now = s.now := rfl

/-- The next beat of the descriptor goes into flight. -/
def State.issueBeat (s : State) (c : Nat) (d : Desc) : State :=
  let i := (s.ch c).issued
  let s' := ((s.setCh c { s.ch c with issued := i + 1, flight := (s.ch c).flight ++ [d.beat s.now i] }).set
    (Reg.DMA_STAT_COUNT c) (d.count - (i + 1))).set (Reg.DMA_CUR_DST c) (d.dstAt (i + 1))
  if d.mode % 2 = 0 then s'.set (Reg.DMA_CUR_SRC c) (d.srcAt (i + 1)) else s'

section
variable {s : State} {c : Nat} {d : Desc}

theorem State.dmaIssue_succ (n : Nat) (hd : (s.ch c).desc = some d) (hf : (s.ch c).failed = none) : s.dmaIssue c (n + 1) =
    if (s.ch c).flight.length < 2 ∧ (s.ch c).issued < d.count then (s.issueBeat c d).dmaIssue c n else s := by
  simp only [State.dmaIssue, hd, hf, Option.isNone_none, and_true]
  split
  · simp only [State.issueBeat, Desc.beat, hd, hf]
  · rfl

variable (hc : c < 16)
include hc

theorem State.issueBeat_shows : (s.issueBeat c d).ch c
      = { s.ch c with issued := (s.ch c).issued + 1, flight := (s.ch c).flight ++ [d.beat s.now (s.ch c).issued] }
    ∧ (s.issueBeat c d).now = s.now
    ∧ (s.issueBeat c d).get (Reg.DMA_STAT_COUNT c) = (d.count - ((s.ch c).issued + 1)) % 2 ^ 18
    ∧ ∀ g, (∀ f ∈ issueFlds c, f.misses g) → (s.issueBeat c d).get g = s.get g := by
  unfold State.issueBeat
  extract_lets i _ s'
  have hch : s'.ch c = { s.ch c with issued := i + 1, flight := (s.ch c).flight ++ [d.beat s.now i] } := by
    rw [State.ch_set, State.ch_set, State.ch_setCh s _ hc]
  have hnow : s'.now = s.now := by rw [State.now_set, State.now_set, State.now_setCh]
  have hcount : s'.get (Reg.DMA_STAT_COUNT c) = (d.count - (i + 1)) % 2 ^ 18 :=
    (State.get_set_ne _ _ _ _ (by simp)).trans (State.get_set _ _ _ (by simp only []; omega))
  have hrest : ∀ g, (∀ f ∈ issueFlds c, f.misses g) → s'.get g = s.get g := fun g hg =>
    (State.get_set_ne _ _ g _ (hg _ (by simp [issueFlds]))).trans ((State.get_set_ne _ _ g _ (hg _ (by simp [issueFlds]))).trans
      (State.get_setCh _ g))
  clear_value s'
  split
  · exact ⟨by rw [State.ch_set, hch], by rw [State.now_set, hnow], (State.get_set_ne s' _ _ _ (by simp)).trans hcount,
      fun g hg => (State.get_set_ne s' _ g _ (hg _ (by simp [issueFlds]))).trans (hrest g hg)⟩
  · exact ⟨hch, hnow, hcount, hrest⟩

/-- Up to `n` beats are issued, while fewer than two are in flight and the descriptor has more. -/
theorem State.dmaIssue_issues (n : Nat) (hd : (s.ch c).desc = some d) (hf : (s.ch c).failed = none) :
    ∃ m, m = min n (min (2 - (s.ch c).flight.length) (d.count - (s.ch c).issued))
      ∧ (s.dmaIssue c n).ch c = { s.ch c with
          issued := (s.ch c).issued + m
          flight := (s.ch c).flight ++ (List.range m).map (fun j => d.beat s.now ((s.ch c).issued + j)) }
      ∧ (m = 0 → s.dmaIssue c n = s)
      ∧ (m ≠ 0 → (s.dmaIssue c n).get (Reg.DMA_STAT_COUNT c) = (d.count - ((s.ch c).issued + m)) % 2 ^ 18)
      ∧ ∀ g, (∀ f ∈ issueFlds c, f.misses g) → (s.dmaIssue c n).get g = s.get g := by
  have hnone : ∀ k : DmaChan, k = { k with issued := k.issued + 0, flight := k.flight ++ [] } := fun k => by simp
  induction n generalizing s with
  | zero => exact ⟨0, by simp, hnone _, fun _ => rfl, fun h => absurd rfl h, fun _ _ => rfl⟩
  | succ n ih =>
    rw [State.dmaIssue_succ n hd hf]
    by_cases h : (s.ch c).flight.length < 2 ∧ (s.ch c).issued < d.count
    · rw [if_pos h]
      obtain ⟨hch, hnow, hcount, hrest⟩ := State.issueBeat_shows (s := s) (d := d) hc
      obtain ⟨m, hm, hch', hstay, hcount', hrest'⟩ := ih (s := s.issueBeat c d) (by rw [hch]; exact hd) (by rw [hch]; exact hf)
      rw [hch] at hm hch' hcount'
      simp only [List.length_append, List.length_singleton] at hm
      refine ⟨m + 1, by omega, ?_, fun h0 => absurd h0 (Nat.succ_ne_zero m), fun _ => ?_, fun g hg => (hrest' g hg).trans (hrest g hg)⟩
      · rw [hch', hnow]
        simp only [List.range_succ_eq_map, List.map_cons, List.map_map, Function.comp_def, List.append_assoc, List.singleton_append,
          Nat.add_zero, Nat.add_assoc, Nat.add_comm 1, Nat.succ_eq_add_one]
      · by_cases h0 : m = 0
        · rw [hstay h0, hcount, h0]
        · rw [hcount' h0]
          congr 2
          simp only []
          omega
    · rw [if_neg h]
      exact ⟨0, by omega, hnone _, fun _ => rfl, fun h => absurd rfl h, fun _ _ => rfl⟩

/-! ### Halts and pauses -/

omit hc in
theorem State.ch_report (src idx code arg : Nat) (time : Option Word) : (s.report src idx code arg time).ch c = s.ch c := rfl

omit hc in
/-- FAIL holds the access. -/
theorem State.dmaFail_shows (a ack n : Nat) (hack : ack < 4) : (s.dmaFail c a ack n).get (Reg.DMA_FAIL_ADDR c) = a % 2 ^ 20
    ∧ (s.dmaFail c a ack n).get (Reg.DMA_FAIL_ACK c) = ack ∧ (s.dmaFail c a ack n).ch c = s.ch c
    ∧ ∀ g : Fld, g.addr ≠ Reg.DMA_FAIL_addr c → (s.dmaFail c a ack n).get g = s.get g := by
  unfold State.dmaFail
  refine ⟨?_, ?_, ?_, fun g hg => ?_⟩
  · rw [State.get_set_ne _ _ _ _ (by simp), State.get_set_ne _ _ _ _ (by simp), State.get_set _ _ _ (by simp)]
  · rw [State.get_set_ne _ _ _ _ (by simp), State.get_set_of_lt _ _ (by simp) (by simpa using hack)]
  · rw [State.ch_set, State.ch_set, State.ch_set]
  · rw [State.get_set_ne _ _ _ _ (.inl hg.symm), State.get_set_ne _ _ _ _ (.inl hg.symm), State.get_set_ne _ _ _ _ (.inl hg.symm)]

omit hc in
/-- A halt. -/
theorem State.dmaHalt_shows {cause : Nat} (hcause : cause < 8) : (s.dmaHalt c cause).dmState c = dmHalted
    ∧ (s.dmaHalt c cause).get (Reg.DMA_STAT_CAUSE c) = cause
    ∧ ∀ g : Fld, g.addr ≠ Reg.DMA_STAT_addr c → g.addr ≠ Reg.DMA_CNT_addr c → (s.dmaHalt c cause).get g = s.get g := by
  unfold State.dmaHalt
  extract_lets _ s₁ s₂
  have hst : s₂.dmState c = dmHalted := by
    rw [State.dmState, State.get_inc_ne (by simp [Fld.misses]), State.get_set_ne _ _ _ _ (by simp), State.dmGo,
      State.get_set_of_lt _ _ (by simp) (by simp [dmHalted])]
  have hca : s₂.get (Reg.DMA_STAT_CAUSE c) = cause := by
    rw [State.get_inc_ne (by simp [Fld.misses]), State.get_set_of_lt _ _ (by simp) (by simpa using hcause)]
  have hrest : ∀ g : Fld, g.addr ≠ Reg.DMA_STAT_addr c → g.addr ≠ Reg.DMA_CNT_addr c → s₂.get g = s.get g := fun g hs hn => by
    rw [State.get_inc_ne (.inl hn.symm), State.get_set_ne _ _ _ _ (.inl hs.symm), State.dmGo, State.get_set_ne _ _ _ _ (.inl hs.symm),
      State.get_setCh]
  clear_value s₂
  rw [State.dmState, State.get_report, State.get_report]
  exact ⟨hst, hca, fun g hs hn => by rw [State.get_report, hrest g hs hn]⟩

/-- A pause of a channel that no STOP waits for. -/
theorem State.dmaToPause_shows (hstop : (s.ch c).stop = false) : (s.dmaToPause c).dmState c = dmPause ∧ ((s.dmaToPause c).ch c).flight = []
    ∧ ∀ g : Fld, g.addr ≠ Reg.DMA_STAT_addr c → (s.dmaToPause c).get g = s.get g := by
  unfold State.dmaToPause
  extract_lets _ s₁ s₂
  have hch : s₂.ch c = { s.ch c with flight := [], failed := none, desc := none, issued := 0, fetched := none } := by
    rw [State.ch_report, State.dmGo, State.ch_set, State.ch_setCh s _ hc]
  have hst : s₂.dmState c = dmPause := by
    rw [State.dmState, State.get_report, State.dmGo, State.get_set_of_lt _ _ (by simp) (by simp [dmPause])]
  have hrest : ∀ g : Fld, g.addr ≠ Reg.DMA_STAT_addr c → s₂.get g = s.get g := fun g hg => by
    rw [State.get_report, State.dmGo, State.get_set_ne _ _ _ _ (.inl hg.symm), State.get_setCh]
  clear_value s₂
  rw [hch, hstop, if_neg (by decide)]
  exact ⟨hst, by rw [hch], hrest⟩

end

/-! ### The load -/

section
variable {s : State} {c : Nat}

theorem exec_dmaDescriptorLoad {t : Word} {c : Fin 16} {s : State} (he : s.early (.dmaDescriptorLoad t c) = false) :
    exec (.dmaDescriptorLoad t c) s = .next ((s.at t).descriptorLoad c) :=
  congrArg _ (if_neg (by rw [show (s.at t).early (.dmaDescriptorLoad t c) = _ from he]; decide))

theorem Desc.srcAt_zero {d : Desc} (h : d.src < 2 ^ 20) : d.srcAt 0 = d.src := stepAddr_zero h _ _
theorem Desc.dstAt_zero {d : Desc} (h : d.dst < 2 ^ 20) : d.dstAt 0 = d.dst := stepAddr_zero h _ _

/-- The bounds of a descriptor that four words hold. -/
theorem descOf_bounds (ws : List Word) : (descOf ws).count < 2 ^ 18 ∧ (descOf ws).dst < 2 ^ 20
    ∧ ((descOf ws).mode % 2 = 0 → (descOf ws).src < 2 ^ 20) := by
  refine ⟨Nat.mod_lt _ (by decide), Nat.mod_lt _ (by decide), fun h => ?_⟩
  have hsrc : (descOf ws).src = if (descOf ws).mode % 2 = 0 then (ws.getD 1 0).toNat % 2 ^ 20 else (ws.getD 1 0).toNat := rfl
  rw [hsrc, if_pos h]
  exact Nat.mod_lt _ (by decide)

theorem descOk_count {ws : List Word} (h : descOk ws = true) : (descOf ws).count ≠ 0 := by
  simp only [descOk, Bool.and_eq_true, decide_eq_true_eq] at h
  exact h.1.1.1.1.2.2.2.2.1

/-- The descriptor that was fetched runs. -/
def State.descStart (s : State) (c : Nat) (d : Desc) : State :=
  (((s.setCh c { s.ch c with
    desc := some d, issued := 0, flight := [], admitted := false, failed := none, fetched := none }).set (Reg.DMA_CMP_MISM c) 0).set
    (Reg.DMA_CMP_FIRST c) 0).dmGo c dmRun

variable (hc : c < 16)
include hc

theorem State.descStart_shows (d : Desc) : (s.descStart c d).ch c = { s.ch c with
      desc := some d, issued := 0, flight := [], admitted := false, failed := none, fetched := none }
    ∧ (s.descStart c d).now = s.now ∧ (s.descStart c d).dmState c = dmRun
    ∧ (s.descStart c d).get (Reg.DMA_CMP_MISM c) = 0 ∧ (s.descStart c d).get (Reg.DMA_CMP_FIRST c) = 0 := by
  unfold State.descStart State.dmGo
  refine ⟨?_, ?_, ?_, ?_, ?_⟩
  · rw [State.ch_set, State.ch_set, State.ch_set, State.ch_setCh s _ hc]
  · rw [State.now_set, State.now_set, State.now_set, State.now_setCh]
  · rw [State.dmState, State.get_set_of_lt _ _ (by simp) (by simp [dmRun])]
  · rw [State.get_set_ne _ _ _ _ (by simp), State.get_set_ne _ _ _ _ (by simp), State.get_set_of_lt _ _ (by simp) (by simp)]
  · rw [State.get_set_ne _ _ _ _ (by simp), State.get_set_of_lt _ _ (by simp) (by simp)]

/-- Words that pass the checks start the descriptor. -/
theorem State.fetchAnswer_starts {ws : List Word} (hf : (s.ch c).fetched = some (ws, none)) (hp : s.get (Reg.DMA_PTR_PTR c) % 4 = 0)
    (hok : descOk ws = true) : (s.fetchAnswer c).dmState c = dmRun ∧ ((s.fetchAnswer c).ch c).desc = some (descOf ws)
    ∧ ((s.fetchAnswer c).ch c).issued = min 2 (descOf ws).count
    ∧ ((s.fetchAnswer c).ch c).flight = (List.range (min 2 (descOf ws).count)).map ((descOf ws).beat s.now)
    ∧ (s.fetchAnswer c).get (Reg.DMA_CMP_MISM c) = 0 ∧ (s.fetchAnswer c).get (Reg.DMA_CMP_FIRST c) = 0
    ∧ (s.fetchAnswer c).get (Reg.DMA_STAT_COUNT c) = (descOf ws).count - min 2 (descOf ws).count := by
  have hcount := descOk_count hok
  have hlt := (descOf_bounds ws).1
  obtain ⟨hch, hnow, hst, hmism, hfirst⟩ := State.descStart_shows (s := s) hc (descOf ws)
  have hx : s.fetchAnswer c = (s.descStart c (descOf ws)).dmaIssue c 2 := by
    unfold State.fetchAnswer
    rw [hf]
    exact if_neg (by rw [not_or, not_not, not_not]; exact ⟨hp, hok⟩)
  rw [hx]
  generalize s.descStart c (descOf ws) = s₁ at *
  obtain ⟨m, hm, hch', -, hcount', hrest⟩ := State.dmaIssue_issues (s := s₁) (d := descOf ws) hc 2 (by rw [hch]) (by rw [hch])
  rw [hch] at hm hch' hcount'
  have hm' : m = min 2 (descOf ws).count := by simp only [List.length_nil, Nat.sub_zero] at hm; omega
  subst hm'
  rw [hch', State.dmState, hrest _ (by simp [issueFlds, Fld.misses]), hrest _ (by simp [issueFlds, Fld.misses]),
    hrest _ (by simp [issueFlds, Fld.misses]), hcount' (by omega)]
  simp only [Nat.zero_add, List.nil_append, hnow]
  exact ⟨hst, trivial, trivial, trivial, hmism, hfirst, Nat.mod_eq_of_lt (by omega)⟩

omit hc in
/-- A load that completes with ERROR halts the channel. -/
theorem State.loadError_halts (a n : Nat) : ((s.dmaFail c a ackError n).dmaHalt c hcLoad).dmState c = dmHalted
    ∧ ((s.dmaFail c a ackError n).dmaHalt c hcLoad).get (Reg.DMA_STAT_CAUSE c) = hcLoad
    ∧ ((s.dmaFail c a ackError n).dmaHalt c hcLoad).get (Reg.DMA_PTR_PTR c) = s.get (Reg.DMA_PTR_PTR c)
    ∧ ((s.dmaFail c a ackError n).dmaHalt c hcLoad).get (Reg.DMA_FAIL_ADDR c) = a % 2 ^ 20
    ∧ ((s.dmaFail c a ackError n).dmaHalt c hcLoad).get (Reg.DMA_FAIL_ACK c) = ackError := by
  obtain ⟨haddr, hack, -, hrest⟩ := State.dmaFail_shows (s := s) (c := c) a ackError n (by decide)
  obtain ⟨hst, hcause, hrest'⟩ := State.dmaHalt_shows (s := s.dmaFail c a ackError n) (c := c) (cause := hcLoad) (by decide)
  refine ⟨hst, hcause, ?_, ?_, ?_⟩
  · rw [hrest' _ (by simp) (by simp), hrest _ (by simp)]
  · rw [hrest' _ (by simp) (by simp), haddr]
  · rw [hrest' _ (by simp) (by simp), hack]

/-- An ERROR with retries left: the fetch goes on from the words that were accepted. -/
theorem State.fetchAnswer_retries {ws : List Word} {a : Nat} (hf : (s.ch c).fetched = some (ws, some (a, ackError)))
    (hn : (s.ch c).tries < s.get (Reg.DMA_CFG_RETRY c)) : (s.fetchAnswer c).dmState c = s.dmState c
    ∧ ((s.fetchAnswer c).ch c).fetched = none ∧ ((s.fetchAnswer c).ch c).got = ws ∧ ((s.fetchAnswer c).ch c).tries = (s.ch c).tries + 1
    ∧ (s.fetchAnswer c).get (Reg.DMA_FAIL_RETRIES c) = min (s.get (Reg.DMA_FAIL_RETRIES c) + 1) 7 := by
  have hx : s.fetchAnswer c
      = (s.setCh c { s.ch c with fetched := none, got := ws, asked := s.now, tries := (s.ch c).tries + 1 }).dmaRetried c := by
    unfold State.fetchAnswer
    rw [hf]
    exact if_pos hn
  rw [hx, State.dmaRetried, State.ch_set, State.ch_setCh s _ hc, State.dmState, State.get_set_ne _ _ _ _ (by simp), State.get_setCh,
    State.get_set_of_lt _ _ (by simp) (by simp only []; omega), State.get_setCh]
  exact ⟨rfl, rfl, rfl, rfl, rfl⟩

/-- A BUSY: the fetch goes on from the words that were accepted. -/
theorem State.fetchAnswer_waits {ws : List Word} {a : Nat} (hf : (s.ch c).fetched = some (ws, some (a, ackBusy))) :
    (s.fetchAnswer c).dmState c = s.dmState c ∧ ((s.fetchAnswer c).ch c).fetched = none ∧ ((s.fetchAnswer c).ch c).got = ws
    ∧ ((s.fetchAnswer c).ch c).tries = (s.ch c).tries := by
  have hx : s.fetchAnswer c = s.setCh c { s.ch c with fetched := none, got := ws, asked := s.now } := by
    unfold State.fetchAnswer
    rw [hf]
    rfl
  rw [hx, State.dmState, State.get_setCh, State.ch_setCh s _ hc]
  exact ⟨rfl, rfl, rfl, rfl⟩

/-- The fetch of the channel that the bus serves next. -/
theorem State.grantsTo_fetches {x : BusReq} {n : Nat} (hst : s.dmState c = dmLoad) (hw : busWinner s.busRequests = some x)
    (hx : x.idx = (Master.dma c).index) :
    let q := s.get (Reg.DMA_PTR_PTR c)
    let got := (s.ch c).got
    let r := s.fetchWords c (stepAddr q true 0 got.length) (4 - got.length)
    ((s.grantsTo c (n + 1)).ch c).fetched = if q % 4 = 0 then some (got ++ r.1, r.2.2) else some (got, none) := by
  extract_lets q got r
  have hgrant : s.grantsTo c (n + 1) = s.grantFetch c := by
    rw [State.grantsTo, hw]
    exact (if_pos hx).trans (if_pos hst)
  rw [hgrant]
  unfold State.grantFetch
  extract_lets r' k
  rw [State.ch_setCh _ _ hc]
  by_cases hq : q % 4 = 0
  · rw [if_pos hq, show r' = r from if_pos hq]
  · rw [if_neg hq, show r' = ([], s, none) from if_neg hq]
    exact congrArg (fun l => some (l, none)) (List.append_nil _)

end

/-- Settles O54. -/
theorem dmaDescriptorLoad : Obligations.DmaDescriptorLoad := by
  unfold Obligations.DmaDescriptorLoad
  refine ⟨busWinner_pair, fun t c s he => ⟨fun h => ?_, fun hon hst => ?_⟩⟩
  · refine (exec_dmaDescriptorLoad he).trans (congrArg _ (if_pos ?_))
    exact h.imp (fun h => by rw [State.dmaOn_at, h]; decide) id
  extract_lets s₁ p tries
  have hexec : exec (.dmaDescriptorLoad t c) s = .next (if s₁.dmState c = dmLoad then s₁.fetchAnswer c else s₁) := by
    have hif : (if ((s.at t).ch c).fetched.isNone = true then (s.at t).grantsTo c busFuel else s.at t) = s₁ := by
      refine if_congr ?_ rfl rfl
      rw [Option.isNone_iff_eq_none]
      exact Iff.rfl
    refine (exec_dmaDescriptorLoad he).trans (congrArg _ ?_)
    unfold State.descriptorLoad
    rw [if_neg (by rw [not_or, not_not, not_not]; exact ⟨hon, hst⟩), hif]
  have hfirst : ∀ x, (s.ch c).fetched = none → busWinner s.busRequests = some x → x.idx = (Master.dma c).index →
      let q := s.get (Reg.DMA_PTR_PTR c)
      let got := (s.ch c).got
      let r := (s.at t).fetchWords c (stepAddr q true 0 got.length) (4 - got.length)
      (s₁.ch c).fetched = if q % 4 = 0 then some (got ++ r.1, r.2.2) else some (got, none) := fun x hnone hw hx => by
    rw [show s₁ = (s.at t).grantsTo c busFuel from if_pos hnone]
    exact State.grantsTo_fetches (s := s.at t) c.isLt hst hw hx
  refine ⟨hfirst, fun ws hload hf => ?_, fun ws a hload => ⟨fun hf => ⟨fun hn => ?_, fun hn => ?_⟩, fun hf => ?_, fun hf hstop => ?_⟩⟩
  all_goals rw [if_pos hload] at hexec
  · extract_lets d
    obtain ⟨-, hdst, hsrc⟩ := descOf_bounds ws
    refine ⟨fun hp hok => ?_, fun hbad => ⟨_, hexec, ?_⟩⟩
    · obtain ⟨hrun, hdesc, hissued, hflight, hmism, hfst, hcount⟩ := State.fetchAnswer_starts c.isLt hf hp hok
      refine ⟨_, hexec, hrun, hdesc, hissued, ?_, ?_, hmism, hfst, hcount⟩
      · rw [hflight, List.length_map, List.length_range]
      · refine ⟨d.beat s₁.now 0, ?_, rfl, Desc.dstAt_zero hdst, fun hm => Desc.srcAt_zero (hsrc hm)⟩
        have : 0 < min 2 d.count := Nat.lt_min.2 ⟨by decide, Nat.pos_of_ne_zero (descOk_count hok)⟩
        rw [hflight, List.getElem?_map, List.getElem?_range this]
        rfl
    · have hx : s₁.fetchAnswer c = (s₁.dmaFail c p ackError (s₁.ch c).tries).dmaHalt c hcLoad := by
        unfold State.fetchAnswer
        rw [hf]
        exact if_pos (hbad.imp id fun h => by rw [h]; decide)
      rw [hx]
      exact State.loadError_halts p _
  · have hx : s₁.fetchAnswer c = (s₁.dmaFail c a ackError (s₁.ch c).tries).dmaHalt c hcLoad := by
      unfold State.fetchAnswer
      rw [hf]
      exact if_neg (Nat.not_lt.2 hn)
    refine ⟨_, hexec, ?_⟩
    rw [hx]
    exact State.loadError_halts a _
  · obtain ⟨hstate, hrest⟩ := State.fetchAnswer_retries c.isLt hf hn
    exact ⟨_, hexec, hstate.trans hload, hrest⟩
  · obtain ⟨hstate, hrest⟩ := State.fetchAnswer_waits c.isLt hf
    exact ⟨_, hexec, hstate.trans hload, hrest⟩
  · have hx : s₁.fetchAnswer c = s₁.dmaToPause c := by
      unfold State.fetchAnswer
      rw [hf]
      rfl
    obtain ⟨hpause, -, hrest⟩ := State.dmaToPause_shows c.isLt hstop
    refine ⟨_, hexec, ?_⟩
    rw [hx]
    exact ⟨hpause, hrest _ (by simp)⟩

end Sys2Proof.Machine
end

section
/-! PROOF. The addresses of a DMA descriptor, its beats and what their responses do (O55). -/
namespace Sys2Proof.Machine

/-! ### How an address steps -/

theorem stepAddr_plain {a : Nat} (k : Nat) (h : a < 0x8000) : stepAddr a true 0 k = (a + k) % 65536 := by
  have hw : isWin a = false := by simp only [isWin, decide_eq_false_iff_not]; omega
  simp only [stepAddr, hw, Bool.false_eq_true, if_false, if_true, not_true_eq_false]
  omega

/-- A block of `2 ^ w` addresses below `2 ^ n` stays there. -/
theorem wrapped_lt {v k w n : Nat} (hv : v < 2 ^ n) (hw : w ≤ n) : v / 2 ^ w * 2 ^ w + (v + k) % 2 ^ w < 2 ^ n := by
  have hpow : 2 ^ n = 2 ^ (n - w) * 2 ^ w := by rw [← Nat.pow_add]; congr 1; omega
  have hq : v / 2 ^ w < 2 ^ (n - w) := Nat.div_lt_of_lt_mul (by rw [Nat.mul_comm, ← hpow]; exact hv)
  have hr : (v + k) % 2 ^ w < 2 ^ w := Nat.mod_lt _ (Nat.two_pow_pos w)
  calc v / 2 ^ w * 2 ^ w + (v + k) % 2 ^ w < v / 2 ^ w * 2 ^ w + 2 ^ w := by omega
    _ = (v / 2 ^ w + 1) * 2 ^ w := by rw [Nat.add_mul, Nat.one_mul]
    _ ≤ 2 ^ (n - w) * 2 ^ w := Nat.mul_le_mul_right _ hq
    _ = 2 ^ n := hpow.symm

theorem stepAddr_wraps {a w : Nat} (k : Nat) (hw : w ≠ 0) (hw' : w ≤ 15) (h : a < 0x8000) :
    stepAddr a true w k = a / 2 ^ w * 2 ^ w + (a + k) % 2 ^ w := by
  have hwin : isWin a = false := by simp only [isWin, decide_eq_false_iff_not]; omega
  have hlt := wrapped_lt (k := k) (show a < 2 ^ 15 from h) hw'
  simp only [stepAddr, hwin, Bool.false_eq_true, if_false, if_true, not_true_eq_false, hw, Nat.mod_eq_of_lt (show a < 65536 by omega)]
  rw [Nat.mod_eq_of_lt (by omega), Nat.div_eq_of_lt (by omega), Nat.zero_mul, Nat.zero_add]

theorem winAddr_shows (v : Nat) : isWin (winAddr v) = true ∧ winVal (winAddr v) = v % 2 ^ 19 := by
  refine ⟨decide_eq_true ?_, ?_⟩
  · simp only [winAddr]
    omega
  · simp only [winAddr, winVal]
    omega

theorem stepAddr_window {a w : Nat} (k : Nat) (hw : w ≤ 17) (ha : a < 2 ^ 20) (hwin : isWin a = true) :
    isWin (stepAddr a true w k) = true ∧ winVal (stepAddr a true w k)
      = if w = 0 then (winVal a + k) % 2 ^ 19 else winVal a / 2 ^ w * 2 ^ w + (winVal a + k) % 2 ^ w := by
  have hv : winVal a < 2 ^ 19 := by simp only [winVal]; omega
  simp only [stepAddr, hwin, if_true, not_true_eq_false, if_false]
  refine ⟨(winAddr_shows _).1, (winAddr_shows _).2.trans ?_⟩
  split
  · rfl
  · exact Nat.mod_eq_of_lt (wrapped_lt hv (by omega))

/-! ### The end of a descriptor -/

section
variable {s : State} {c : Nat} (hc : c < 16)

theorem State.get_incMod (f : Fld) (hf : f.lo + f.wid ≤ 48) : (s.incMod f).get f = (s.get f + 1) % 2 ^ f.wid := State.get_set s f _ hf

/-- The registers that the end of a descriptor writes. -/
def endRegs (c : Nat) : Set Fld := {f | f.addr ∈ [Reg.DMA_STAT_addr c, Reg.DMA_PTR_addr c, Reg.DMA_FAIL_addr c]}

theorem mem_endRegs {f : Fld} : f ∈ endRegs c ↔ f.addr = Reg.DMA_STAT_addr c ∨ f.addr = Reg.DMA_PTR_addr c ∨ f.addr = Reg.DMA_FAIL_addr c := by
  simp [endRegs]

/-- The completion pulse of the descriptor (R556). -/
def State.completionPulse (s : State) (c : Nat) (d : Desc) : State :=
  if d.cpl = 17 then s.report 0x0E c 1 0
  else if 1 ≤ d.cpl ∧ d.cpl ≤ 16 ∧ s.get (Reg.DMA_CFG_TRIG (d.cpl - 1)) = 1 then
    { s with dmaTrigs := s.dmaTrigs ++ [(d.cpl - 1, s.now)] }
  else s

theorem State.completionPulse_shows (d : Desc) : (s.completionPulse c d).regs = s.regs ∧ (s.completionPulse c d).ch c = s.ch c := by
  unfold State.completionPulse
  split
  · exact ⟨rfl, rfl⟩
  · split
    · exact ⟨rfl, rfl⟩
    · exact ⟨rfl, rfl⟩

/-- The channel leaves its descriptor, which has ended. -/
def State.dmaLeave (s : State) (c : Nat) (d : Desc) : State :=
  (((s.completionPulse c d).incMod (Reg.DMA_STAT_DONES c)).set (Reg.DMA_PTR_PTR c) d.next).setCh c
    { s.ch c with desc := none, flight := [], left := none }

theorem State.dmaEnd_eq (d : Desc) : s.dmaEnd c d =
    if d.last ∨ (s.ch c).stop then (s.dmaLeave c d).dmaStopped c
    else if (s.dmaLeave c d).is (Reg.DMA_CFG_RUNMODE c) then (s.dmaLeave c d).dmaLoad c (s.ch c).time
    else (s.dmaLeave c d).dmaWait c := by
  have hch := (State.completionPulse_shows (s := s) (c := c) d).2
  have hk : (((s.completionPulse c d).incMod (Reg.DMA_STAT_DONES c)).set (Reg.DMA_PTR_PTR c) d.next).ch c = s.ch c := by
    rw [State.ch_set, State.incMod, State.ch_set, hch]
  unfold State.dmaLeave
  rw [← hk]
  rfl

include hc

theorem State.dmaLeave_shows (d : Desc) : (s.dmaLeave c d).ch c = { s.ch c with desc := none, flight := [], left := none }
    ∧ (s.dmaLeave c d).get (Reg.DMA_STAT_DONES c) = (s.get (Reg.DMA_STAT_DONES c) + 1) % 2 ^ 23
    ∧ (s.dmaLeave c d).get (Reg.DMA_PTR_PTR c) = d.next % 2 ^ 20 ∧ Writes (endRegs c) s (s.dmaLeave c d) := by
  have hreg : ∀ g : Fld, (s.completionPulse c d).get g = s.get g := fun g =>
    State.get_congr (congrArg (Cells.get regReset · g.addr) (State.completionPulse_shows d).1)
  unfold State.dmaLeave
  refine ⟨State.ch_setCh _ _ hc, ?_, ?_, fun g hg => ?_⟩
  · rw [State.get_setCh, State.get_set_ne _ _ _ _ (by simp), State.get_incMod _ (by simp), hreg]
  · rw [State.get_setCh, State.get_set _ _ _ (by simp)]
  · rw [State.get_setCh, State.get_set_ne _ _ _ _ (hg _ (by simp [mem_endRegs])), State.incMod,
      State.get_set_ne _ _ _ _ (hg _ (by simp [mem_endRegs])), hreg]

/-- A channel without a descriptor that stops, loads or waits has none then either, and shows it in these registers alone. -/
theorem State.dmaStopped_desc : ((s.dmaStopped c).ch c).desc = (s.ch c).desc := by
  rw [State.dmaStopped, State.dmGo, State.ch_set, State.ch_setCh s _ hc]

theorem State.dmaWait_desc (h : (s.ch c).desc = none) : ((s.dmaWait c).ch c).desc = none := by
  unfold State.dmaWait
  extract_lets s₁
  split
  · exact (State.dmaLoad_shows hc _).2.2.2.1
  · rw [show s₁.ch c = s.ch c from State.ch_set _ _, h]

/-- The end of a descriptor. -/
theorem State.dmaEnd_shows (d : Desc) : (s.dmaEnd c d).get (Reg.DMA_STAT_DONES c) = (s.get (Reg.DMA_STAT_DONES c) + 1) % 2 ^ 23
      ∧ (s.dmaEnd c d).get (Reg.DMA_PTR_PTR c) = d.next % 2 ^ 20 ∧ ((s.dmaEnd c d).ch c).desc = none
      ∧ (d.last = true → (s.dmaEnd c d).dmState c = if s.is (Reg.DMA_CTRL_EN c) then dmStopped else dmIdle)
      ∧ Writes (endRegs c) s (s.dmaEnd c d) := by
  obtain ⟨hch, hdones, hptr, hw⟩ := State.dmaLeave_shows (s := s) hc d
  have hen : (s.dmaLeave c d).is (Reg.DMA_CTRL_EN c) = s.is (Reg.DMA_CTRL_EN c) :=
    State.is_congr (hw _ fun f hf => .inl (by rcases mem_endRegs.1 hf with h | h | h <;> rw [h] <;> simp))
  have hdesc : ((s.dmaLeave c d).ch c).desc = none := by rw [hch]
  rw [State.dmaEnd_eq]
  generalize s.dmaLeave c d = s₁ at *
  split
  next hstop =>
    obtain ⟨hst, -, hrest⟩ := State.dmaStopped_shows (s := s₁) hc
    refine ⟨(hrest _ (by simp [Fld.misses])).trans hdones, (hrest _ (by simp [Fld.misses])).trans hptr,
      (State.dmaStopped_desc hc).trans hdesc, fun _ => by rw [hst, hen], fun g hg => (hrest g (hg _ (by simp [mem_endRegs]))).trans (hw g hg)⟩
  next hstop =>
    have hl : d.last ≠ true := fun h => hstop (.inl h)
    split
    · obtain ⟨-, -, -, hnone, -, hrest⟩ := State.dmaLoad_shows (s := s₁) hc (s.ch c).time
      exact ⟨(hrest _ (by simp [Fld.misses]) (by simp [Fld.misses])).trans hdones,
        (hrest _ (by simp [Fld.misses]) (by simp [Fld.misses])).trans hptr, hnone, fun h => absurd h hl,
        fun g hg => (hrest g (hg _ (by simp [mem_endRegs])) (hg _ (by simp [mem_endRegs]))).trans (hw g hg)⟩
    · obtain ⟨-, -, hrest⟩ := State.dmaWait_shows (s := s₁) hc
      exact ⟨(hrest _ (by simp [Fld.misses])).trans hdones, (hrest _ (by simp [Fld.misses])).trans hptr,
        State.dmaWait_desc hc hdesc, fun h => absurd h hl, fun g hg => (hrest g fun f hf => hg f (by
          simp only [List.mem_cons, List.not_mem_nil, or_false] at hf
          rcases hf with rfl | rfl | rfl <;> simp [mem_endRegs])).trans (hw g hg)⟩

/-! ### The response to an accepted beat -/

/-- What an accepted beat `b` before the beats `rest` does to its channel, from the state `s` to the state `s'` (R559). -/
def State.beatAccepted (s : State) (c : Nat) (d : Desc) (b : Beat) (rest : List Beat) (s' : State) : Prop :=
  (b.idx + 1 ≠ d.count → s'.dmState c = s.dmState c ∧ rest <+: (s'.ch c).flight
    ∧ (s'.ch c).flight.length = max rest.length (min 2 (rest.length + (d.count - (s.ch c).issued)))
    ∧ ∀ o ∈ (s'.ch c).flight.drop rest.length, o.dst = stepAddr d.dst d.dinc d.dwrap o.idx
      ∧ (d.mode % 2 = 0 → o.src = stepAddr d.src d.sinc d.swrap o.idx))
  ∧ (b.idx + 1 = d.count → s'.get (Reg.DMA_STAT_DONES c) = (s.get (Reg.DMA_STAT_DONES c) + 1) % 2 ^ 23
    ∧ s'.get (Reg.DMA_PTR_PTR c) = d.next % 2 ^ 20 ∧ (s'.ch c).desc = none
    ∧ (d.last = true → s'.dmState c = if s.is (Reg.DMA_CTRL_EN c) then dmStopped else dmIdle))

/-- The fields that the response to an accepted beat writes. -/
def beatFlds (c : Nat) : Set Fld := endRegs c ∪ {f | f ∈ issueFlds c}

omit hc in
theorem State.beatDone_eq {d : Desc} {b : Beat} {rest : List Beat} (hfl : ((s.ch c).flight).drop 1 = rest) (hf : (s.ch c).failed = none) :
    s.beatDone c d b = if b.idx + 1 = d.count then (s.setCh c { s.ch c with flight := rest }).dmaEnd c d
      else (s.setCh c { s.ch c with flight := rest }).dmaIssue c 2 := by
  subst hfl
  exact if_neg (by rw [hf]; decide)

omit hc in
theorem beatFlds_cmp {f : Fld} (h : f ∈ beatFlds c) : f.addr ≠ Reg.DMA_CMP_addr c := by
  simp only [beatFlds, issueFlds, Set.mem_union, mem_endRegs, Set.mem_ofPred_eq, List.mem_cons, List.not_mem_nil, or_false] at h
  rcases h with (h | h | h) | rfl | rfl | rfl <;> simp [*]

theorem State.beatDone_accepts {d : Desc} {b : Beat} {rest : List Beat} (hd : (s.ch c).desc = some d)
    (hfl : ((s.ch c).flight).drop 1 = rest) (hf : (s.ch c).failed = none) :
    s.beatAccepted c d b rest (s.beatDone c d b) ∧ Writes (beatFlds c) s (s.beatDone c d b) ∧ (s.beatDone c d b).work = s.work := by
  have hwork := (State.beatDone_keeps s c d b (Nat.and_self _) (.refl _ s)).same .work (by decide)
  unfold State.beatAccepted
  refine ⟨?_, ?_, hwork⟩
  all_goals
    rw [State.beatDone_eq hfl hf]
    have hch : (s.setCh c { s.ch c with flight := rest }).ch c = { s.ch c with flight := rest } := State.ch_setCh s _ hc
  · refine ⟨fun hn => ?_, fun hn => ?_⟩
    · rw [if_neg hn]
      obtain ⟨m, hm, hch', -, -, hrest⟩ := State.dmaIssue_issues (s := s.setCh c { s.ch c with flight := rest }) (d := d) hc 2
        (by rw [hch]; exact hd) (by rw [hch]; exact hf)
      rw [hch] at hm hch'
      rw [hch', State.dmState, hrest _ (by simp [issueFlds, Fld.misses]), State.get_setCh]
      refine ⟨rfl, List.prefix_append _ _, ?_, fun o ho => ?_⟩
      · rw [List.length_append, List.length_map, List.length_range]
        change rest.length + m = _
        have hm' : m = min 2 (min (2 - rest.length) (d.count - (s.ch c).issued)) := hm
        clear hm
        omega
      · rw [List.drop_left, List.mem_map] at ho
        obtain ⟨j, -, rfl⟩ := ho
        exact ⟨rfl, fun _ => rfl⟩
    · rw [if_pos hn]
      obtain ⟨hdones, hptr, hdesc, hlast, -⟩ := State.dmaEnd_shows (s := s.setCh c { s.ch c with flight := rest }) hc d
      exact ⟨hdones, hptr, hdesc, hlast⟩
  · split
    · exact (State.dmaEnd_shows (s := s.setCh c { s.ch c with flight := rest }) hc d).2.2.2.2.mono Set.subset_union_left
    · obtain ⟨m, -, -, -, -, hrest⟩ := State.dmaIssue_issues (s := s.setCh c { s.ch c with flight := rest }) (d := d) hc 2
        (by rw [hch]; exact hd) (by rw [hch]; exact hf)
      exact fun g hg => hrest g fun f hf => hg f (.inr hf)

end

/-! ### Accesses to working memory -/

section
variable {s : State} {c : Nat}

/-- A DMA address of working memory. -/
theorem work_address {x : Nat} (hx : x < 32768) : isWin (0x48000 + x) = true ∧ (0x48000 + x) / 65536 = 4
    ∧ (0x48000 + x) % 65536 = 0x8000 + x := ⟨decide_eq_true (by omega), by omega, by omega⟩

theorem State.dmaRead_work {x : Nat} (hx : x < 32768) (adm : Bool) : s.dmaRead c adm (0x48000 + x) = (s.workGet x, s, ackAccept) := by
  obtain ⟨hwin, hpage, hadr⟩ := work_address hx
  have hread : s.busRead (.dma c) adm 4 (0x8000 + x) = (s.workGet x, s, ackAccept) := by
    unfold State.busRead
    rw [if_pos (Nat.le_add_right _ _), if_neg (by omega), Nat.add_sub_cancel_left]
    rfl
  unfold State.dmaRead
  rw [if_neg (by rw [hwin]; simp), hpage, hadr]
  dsimp only
  rw [hread]
  refine (if_neg (not_not_intro rfl)).trans ((if_neg ?_).trans (if_neg fun h => absurd h.1 ?_))
  · simp only [Reg.SYS_EVPOP_addr]; omega
  · simp only [Reg.PRX_PEVPOP_addr]; omega

theorem State.dmaWrite_work {y : Nat} (hy : y < 32768) (adm : Bool) (v : Word) (hl : s.workLocked y = false) :
    s.dmaWrite c adm (0x48000 + y) v = (s.workWriteBy y v, ackAccept) := by
  obtain ⟨hwin, hpage, hadr⟩ := work_address hy
  unfold State.dmaWrite
  rw [if_neg (by rw [hwin]; simp), hpage, hadr]
  unfold State.busWrite
  rw [if_pos (Nat.le_add_right _ _), Nat.add_sub_cancel_left]
  exact (if_neg (by decide)).trans ((if_pos rfl).trans (if_neg (by rw [hl]; decide)))

/-- A master's write of working memory. -/
theorem State.workWriteBy_shows (w : Nat) (v : Word) : (s.workWriteBy w v).workGet w = v
    ∧ (∀ z, z ≠ w → (s.workWriteBy w v).workGet z = s.workGet z) ∧ (s.workWriteBy w v).ch c = s.ch c
    ∧ Writes {Reg.WFT_CLST_SIG_VALID 0} s (s.workWriteBy w v) := by
  have hdma : (s.workWriteBy w v).dma = s.dma := (State.workWriteBy_keeps s w v (Nat.and_self _) (.refl _ s)).same .dma (by decide)
  have hwork : (s.workWriteBy w v).work = (s.workSet w v).work := by
    unfold State.workWriteBy
    split
    · exact (State.showSigValid_keeps _ (Nat.and_self _) (.refl _ _)).same .work (by decide)
    · rfl
  refine ⟨?_, fun z hz => ?_, congrArg (vget · c) hdma, ?_⟩
  · rw [State.workGet, hwork]
    exact s.workGet_workSet w v
  · rw [State.workGet, hwork]
    exact s.workGet_workSet_ne v hz
  · unfold State.workWriteBy
    split
    · exact Writes.flag (s := { s.workSet w v with learn := (s.workSet w v).learn.mark (w / 0x400) false }) (.of_regs (.refl _ s) (by rfl))
        (Set.mem_singleton _) _
    · exact .of_regs (.refl _ s) rfl

/-- The fields of a channel's register CMP. -/
def cmpReg (c : Nat) : Set Fld := {f | f.addr = Reg.DMA_CMP_addr c}

/-- A comparison of two words. -/
theorem State.dmaCompare_shows (k : Nat) (x y : Word) : (s.dmaCompare c k x y).work = s.work ∧ (s.dmaCompare c k x y).ch c = s.ch c
    ∧ Writes (cmpReg c) s (s.dmaCompare c k x y)
    ∧ (x = y → s.dmaCompare c k x y = s)
    ∧ (x ≠ y → (s.dmaCompare c k x y).get (Reg.DMA_CMP_MISM c) = 1
      ∧ (s.dmaCompare c k x y).get (Reg.DMA_CMP_FIRST c)
        = (if s.is (Reg.DMA_CMP_MISM c) then s.get (Reg.DMA_CMP_FIRST c) else k % 2 ^ 18)
      ∧ (s.dmaCompare c k x y).get (Reg.DMA_CMP_MISMS c) = min (s.get (Reg.DMA_CMP_MISMS c) + 1) (Reg.DMA_CMP_MISMS c).max) := by
  have hk := State.dmaCompare_keeps s c k x y (Nat.and_self _) (.refl _ s)
  refine ⟨hk.same .work (by decide), congrArg (vget · c) (hk.same .dma (by decide)), ?_, fun h => if_pos h, fun h => ?_⟩
  · unfold State.dmaCompare
    split
    · exact .refl _ s
    · split
      · exact (Writes.refl (cmpReg c) s).inc (f := Reg.DMA_CMP_MISMS c) (by rfl)
      · exact (((Writes.refl (cmpReg c) s).set (f := Reg.DMA_CMP_MISM c) (by rfl) 1).set (f := Reg.DMA_CMP_FIRST c) (by rfl) k).inc
          (f := Reg.DMA_CMP_MISMS c) (by rfl)
  · unfold State.dmaCompare
    rw [if_neg h]
    by_cases hm : s.is (Reg.DMA_CMP_MISM c) = true
    · have hm1 : s.get (Reg.DMA_CMP_MISM c) = 1 := by
        have := State.get_lt s (Reg.DMA_CMP_MISM c)
        rw [State.is_eq, decide_eq_true_eq] at hm
        simp only [] at this
        omega
      simp only [if_pos hm]
      refine ⟨?_, ?_, State.get_inc s _ (by simp)⟩
      · rw [State.get_inc_ne (by simp [Fld.misses]), hm1]
      · rw [State.get_inc_ne (by simp [Fld.misses])]
    · simp only [if_neg hm]
      refine ⟨?_, ?_, ?_⟩
      · rw [State.get_inc_ne (by simp [Fld.misses]), State.get_set_ne _ _ _ _ (by simp), State.get_set_of_lt _ _ (by simp) (by simp)]
      · rw [State.get_inc_ne (by simp [Fld.misses]), State.get_set _ _ _ (by simp)]
      · rw [State.get_inc _ _ (by simp), State.get_set_ne _ _ _ _ (by simp), State.get_set_ne _ _ _ _ (by simp)]

/-! ### The grant of a beat -/

/-- The oldest beat that the bus has not served, at its grant: its access is accepted. -/
theorem State.grantBeat_accepted {s s₂ : State} {d : Desc} {b : Beat} {rest : List Beat} {a : Nat} (hd : (s.ch c).desc = some d)
    (hfl : (s.ch c).flight = b :: rest) (hans : b.ans = none) (hacc : s.beatAccess c d b = (s₂, ackAccept, a)) (hch : s₂.ch c = s.ch c)
    (hrest : ∀ o ∈ rest, o.idx ≠ b.idx) : ∃ b' adm, b'.ans = some (0, a) ∧ b'.idx = b.idx
      ∧ s.grantBeat c = s₂.setCh c { s.ch c with flight := b' :: rest, admitted := adm } := by
  have hfind : (s.ch c).flight.find? (fun b => b.ans.isNone) = some b := by rw [hfl, List.find?_cons_of_pos (by rw [hans]; rfl)]
  unfold State.grantBeat
  rw [hd, hfind]
  dsimp only
  rw [hacc]
  dsimp only
  have hmap : ∀ (x : Option (Nat × Nat)) (w : Bool),
      rest.map (fun o => if o.idx = b.idx then { o with ans := x, wrote := w } else o) = rest := fun x w =>
    (List.map_congr_left fun o ho => if_neg (hrest o ho)).trans (List.map_id' rest)
  rw [hch, hfl, List.map_cons, if_pos rfl, hmap]
  refine ⟨_, _, ?_, ?_, rfl⟩ <;> rfl

/-- What an accepted beat does is said of the state before its access. -/
theorem State.beatAccepted.of_same {s s₃ s' : State} {d : Desc} {b b' : Beat} {rest : List Beat} (h : s₃.beatAccepted c d b' rest s')
    (hi : b'.idx = b.idx) (hs : (s₃.ch c).issued = (s.ch c).issued) (hw : ∀ g : Fld, g.addr ∈ [Reg.DMA_STAT_addr c, Reg.DMA_CTRL_addr c] →
      s₃.get g = s.get g) : s.beatAccepted c d b rest s' := by
  unfold State.beatAccepted State.dmState at h
  rw [hi, hs, hw _ (by simp), hw (Reg.DMA_STAT_DONES c) (by simp), State.is_congr (hw (Reg.DMA_CTRL_EN c) (by simp))] at h
  exact h

end

theorem exec_dmaBeatResponse {t : Word} {c : Fin 16} {busy : Bool} {s : State} (he : s.early (.dmaBeatResponse t c busy) = false) :
    exec (.dmaBeatResponse t c busy) s = .next ((s.at t).beatResponse c busy) :=
  congrArg _ (if_neg (by rw [show (s.at t).early (.dmaBeatResponse t c busy) = _ from he]; decide))

section
variable {s : State} {c : Nat} {b : Beat} {rest : List Beat} (hst : s.dmState c = dmRun) (hfl : (s.ch c).flight = b :: rest)
include hst hfl

/-- The response to a beat that the bus has served. -/
theorem State.beatResponse_served (busy : Bool) (hans : b.ans.isSome = true) : s.beatResponse c busy = s.beatAnswer c := by
  unfold State.beatResponse
  rw [if_neg (not_not_intro hst), hfl]
  exact if_pos hans

/-- The target answers BUSY to a beat that the bus has not served. -/
theorem State.beatResponse_busy (hans : b.ans = none) : s.beatResponse c true = s.beatAgain c b.retries := by
  unfold State.beatResponse
  rw [if_neg (not_not_intro hst), hfl]
  exact (if_neg (by rw [hans]; decide)).trans (if_pos rfl)

/-- The bus serves the beat, which wins. -/
theorem State.beatResponse_granted {r : BusReq} (hans : b.ans = none) (hw : busWinner s.busRequests = some r)
    (hr : r.idx = (Master.dma c).index) (hrun : (s.grantBeat c).dmState c = dmRun) : s.beatResponse c false = (s.grantBeat c).beatAnswer c := by
  have hgrant : s.grantsTo c busFuel = s.grantBeat c := by
    rw [State.grantsTo, hw]
    exact (if_pos hr).trans (if_neg (by rw [hst]; decide))
  unfold State.beatResponse
  rw [if_neg (not_not_intro hst), hfl]
  refine (if_neg (by rw [hans]; decide)).trans ((if_neg (by decide)).trans ?_)
  rw [hgrant]
  exact if_pos hrun

omit hst in
theorem State.beatAnswer_accepted {d : Desc} {a : Nat} (hd : (s.ch c).desc = some d) (hans : b.ans = some (0, a)) :
    s.beatAnswer c = s.beatDone c d b := by
  unfold State.beatAnswer
  rw [hd, hfl]
  dsimp only
  rw [hans]
  rfl

omit hst in
theorem State.beatAnswer_busy {d : Desc} {a : Nat} (hd : (s.ch c).desc = some d) (hans : b.ans = some (1, a)) :
    s.beatAnswer c = s.beatAgain c b.retries := by
  unfold State.beatAnswer
  rw [hd, hfl]
  dsimp only
  rw [hans]
  rfl

omit hst in
theorem State.beatAnswer_error {d : Desc} {a : Nat} (hd : (s.ch c).desc = some d) (hans : b.ans = some (2, a)) :
    s.beatAnswer c = if b.retries < s.get (Reg.DMA_CFG_RETRY c) then (s.beatAgain c (b.retries + 1)).dmaRetried c
      else s.beatFailed c d b a := by
  unfold State.beatAnswer
  rw [hd, hfl]
  dsimp only
  rw [hans]
  rfl

omit hst in
theorem State.beatAnswer_off {d : Desc} {a : Nat} (hd : (s.ch c).desc = some d) (hans : b.ans = some (3, a)) :
    s.beatAnswer c = if b.idx = 0 then s.dmaToPause c else (s.dmaFail c a ackOff b.retries).dmaTorn c d := by
  unfold State.beatAnswer
  rw [hd, hfl]
  dsimp only
  rw [hans]
  rfl

/-- A beat is requested again. -/
theorem State.beatAgain_shows (hc : c < 16) (n : Nat) : (s.beatAgain c n).dmState c = dmRun
    ∧ ((s.beatAgain c n).ch c).flight = { b with retries := n, ans := none, asked := s.now } :: rest ∧ (s.beatAgain c n).work = s.work := by
  unfold State.beatAgain
  refine ⟨hst, ?_, rfl⟩
  rw [State.ch_setCh s _ hc, hfl]

end

/-- A beat that the bus serves now and accepts: `s₂` is the state that its access leaves. -/
theorem State.beatResponse_accepted {s s₂ : State} {c : Nat} (hc : c < 16) {d : Desc} {b : Beat} {rest : List Beat} {r : BusReq} {a : Nat}
    (hst : s.dmState c = dmRun) (hd : (s.ch c).desc = some d) (hfl : (s.ch c).flight = b :: rest) (hf : (s.ch c).failed = none)
    (hans : b.ans = none) (hw : busWinner s.busRequests = some r) (hr : r.idx = (Master.dma c).index)
    (hrest : ∀ o ∈ rest, o.idx ≠ b.idx) (hacc : s.beatAccess c d b = (s₂, ackAccept, a)) (hch : s₂.ch c = s.ch c)
    (hregs : ∀ g : Fld, g.addr ∈ [Reg.DMA_STAT_addr c, Reg.DMA_CTRL_addr c] → s₂.get g = s.get g) :
    s.beatAccepted c d b rest (s.beatResponse c false) ∧ Writes (beatFlds c) s₂ (s.beatResponse c false)
      ∧ (s.beatResponse c false).work = s₂.work := by
  obtain ⟨b', adm, hans', hidx, hg⟩ := State.grantBeat_accepted hd hfl hans hacc hch hrest
  have hk : (s.grantBeat c).ch c = { s.ch c with flight := b' :: rest, admitted := adm } := by rw [hg, State.ch_setCh s₂ _ hc]
  have hget : ∀ g, (s.grantBeat c).get g = s₂.get g := fun g => by rw [hg, State.get_setCh]
  have hrun : (s.grantBeat c).dmState c = dmRun := (hget _).trans ((hregs _ (by simp)).trans hst)
  have hwork : (s.grantBeat c).work = s₂.work := by rw [hg]; rfl
  rw [State.beatResponse_granted hst hfl hans hw hr hrun]
  generalize s.grantBeat c = s₃ at *
  have hfl' : (s₃.ch c).flight = b' :: rest := by rw [hk]
  have hd' : (s₃.ch c).desc = some d := by rw [hk]; exact hd
  rw [State.beatAnswer_accepted hfl' hd' hans']
  obtain ⟨hdone, hwr, hwk⟩ := State.beatDone_accepts (s := s₃) hc (b := b') (rest := rest) hd' (by rw [hfl']; rfl) (by rw [hk]; exact hf)
  exact ⟨hdone.of_same hidx (by rw [hk]) fun g hg' => (hget g).trans (hregs g hg'), fun g hg' => (hwr g hg').trans (hget g), hwk.trans hwork⟩

/-- The word that a beat in working memory reads or fills with. -/
def State.beatWord (s : State) (d : Desc) (x : Nat) : Word := if d.mode % 2 = 0 then s.workGet x else BitVec.ofNat 48 d.src

section
variable {s : State} {c : Nat} {d : Desc} {b : Beat} {x y : Nat} (hx : x < 32768) (hy : y < 32768)
    (hsrc : d.mode % 2 = 0 → b.src = 0x48000 + x) (hdst : b.dst = 0x48000 + y)
include hx hy hsrc hdst

theorem State.beatAccess_writes (hm : d.mode < 2) (hl : s.workLocked y = false) :
    s.beatAccess c d b = (s.workWriteBy y (s.beatWord d x), ackAccept, b.dst) := by
  unfold State.beatAccess State.beatWord
  extract_lets adm fill r q q'
  have hr : r = (if d.mode % 2 = 0 then s.workGet x else BitVec.ofNat 48 d.src, s, ackAccept) := by
    unfold r
    split
    next h => rw [hsrc h, State.dmaRead_work hx]
    next h => rfl
  unfold q q'
  clear_value r
  subst hr
  refine (if_neg (not_not_intro rfl)).trans ((if_pos hm).trans ?_)
  rw [hdst, State.dmaWrite_work hy _ _ hl]

theorem State.beatAccess_compares (hm : 2 ≤ d.mode) :
    s.beatAccess c d b = (s.dmaCompare c b.idx (s.beatWord d x) (s.workGet y), ackAccept, b.dst) := by
  unfold State.beatAccess State.beatWord
  extract_lets adm fill r q q'
  have hr : r = (if d.mode % 2 = 0 then s.workGet x else BitVec.ofNat 48 d.src, s, ackAccept) := by
    unfold r
    split
    next h => rw [hsrc h, State.dmaRead_work hx]
    next h => rfl
  unfold q q'
  clear_value r
  subst hr
  refine (if_neg (not_not_intro rfl)).trans ((if_neg (Nat.not_lt.2 hm)).trans ?_)
  dsimp only
  rw [hdst, State.dmaRead_work hy]
  rfl

end

/-- ERROR with every retry used: FAIL names the access. -/
theorem State.beatFailed_shows {s : State} {c : Nat} (hc : c < 16) {d : Desc} {b : Beat} {rest : List Beat} {a : Nat}
    (hfl : (s.ch c).flight = b :: rest) (hf : (s.ch c).failed = none) :
    (s.beatFailed c d b a).get (Reg.DMA_FAIL_ADDR c) = a % 2 ^ 20 ∧ (s.beatFailed c d b a).get (Reg.DMA_FAIL_ACK c) = ackError
    ∧ (b.idx + 1 = d.count ∨ rest = [] → (s.beatFailed c d b a).dmState c = dmHalted)
    ∧ (b.idx + 1 ≠ d.count → rest ≠ [] → (s.beatFailed c d b a).dmState c = s.dmState c ∧ ((s.beatFailed c d b a).ch c).flight = rest) := by
  obtain ⟨haddr, hack, hch, hrest⟩ := State.dmaFail_shows (s := s) (c := c) a ackError b.retries (by decide)
  unfold State.beatFailed
  extract_lets s₁ s₂ k rest' s₃
  have h₂ : s₂.regs = s₁.regs ∧ s₂.dma = s₁.dma := by
    unfold s₂
    split
    · have hk := State.undefineTarget_keeps s₁ d b (Nat.and_self _) (.refl _ _)
      exact ⟨hk.same .regs (by decide), hk.same .dma (by decide)⟩
    · exact ⟨rfl, rfl⟩
  have hk : k = s.ch c := (congrArg (vget · c) h₂.2).trans hch
  have hg : ∀ g, s₃.get g = (s.dmaFail c a ackError b.retries).get g := fun g =>
    (State.get_setCh _ _).trans (State.get_congr (congrArg (Cells.get regReset · g.addr) h₂.1))
  have hr : rest' = rest := by rw [show rest' = k.flight.drop 1 from rfl, hk, hfl]; rfl
  have hfl₃ : (s₃.ch c).flight = rest := by rw [show s₃.ch c = _ from State.ch_setCh s₂ _ hc, hr]
  clear_value s₃
  rw [hk, hf, if_neg (by decide), hr]
  have hhalt : ∀ cause, cause < 8 → (s₃.dmaHalt c cause).dmState c = dmHalted
      ∧ (s₃.dmaHalt c cause).get (Reg.DMA_FAIL_ADDR c) = a % 2 ^ 20 ∧ (s₃.dmaHalt c cause).get (Reg.DMA_FAIL_ACK c) = ackError :=
    fun cause hca => by
      obtain ⟨hs, -, hrest'⟩ := State.dmaHalt_shows (s := s₃) (c := c) hca
      exact ⟨hs, by rw [hrest' _ (by simp) (by simp), hg, haddr], by rw [hrest' _ (by simp) (by simp), hg, hack]⟩
  by_cases hlast : b.idx + 1 = d.count
  · rw [if_pos hlast]
    obtain ⟨hs, h1, h2⟩ := hhalt hcTail (by decide)
    exact ⟨h1, h2, fun _ => hs, fun h => absurd hlast h⟩
  · rw [if_neg hlast]
    by_cases hnil : rest = []
    · rw [if_pos hnil]
      obtain ⟨hs, h1, h2⟩ := hhalt hcBeat (by decide)
      exact ⟨h1, h2, fun _ => hs, fun _ h => absurd hnil h⟩
    · rw [if_neg hnil]
      exact ⟨(hg _).trans haddr, (hg _).trans hack, fun h => absurd h (not_or.2 ⟨hlast, hnil⟩),
        fun _ _ => ⟨(hg _).trans (hrest _ (by simp)), hfl₃⟩⟩

/-- A torn transfer halts the channel. -/
theorem State.dmaTorn_shows {s : State} {c : Nat} (d : Desc) : (s.dmaTorn c d).dmState c = dmHalted
    ∧ (s.dmaTorn c d).get (Reg.DMA_STAT_CAUSE c) = hcTorn
    ∧ ∀ g : Fld, g.addr ≠ Reg.DMA_STAT_addr c → g.addr ≠ Reg.DMA_CNT_addr c → (s.dmaTorn c d).get g = s.get g := by
  unfold State.dmaTorn
  have hregs : (((s.ch c).flight.filter (fun b => b.wrote)).foldl (fun s b => s.undefineTarget d b) s).regs = s.regs := by
    generalize (s.ch c).flight.filter (fun b => b.wrote) = l
    exact State.foldl_regs _ (fun s b => (State.undefineTarget_keeps s d b (Nat.and_self _) (.refl _ s)).same .regs (by decide)) l s
  generalize ((s.ch c).flight.filter (fun b => b.wrote)).foldl (fun s b => s.undefineTarget d b) s = s₁ at *
  obtain ⟨hs, hcause, hrest⟩ := State.dmaHalt_shows (s := s₁) (c := c) (cause := hcTorn) (by decide)
  exact ⟨hs, hcause, fun g h h' => (hrest g h h').trans (State.get_congr (congrArg (Cells.get regReset · g.addr) hregs))⟩

/-- Settles O55. -/
theorem dmaBeats : Obligations.DmaBeats := by
  unfold Obligations.DmaBeats
  refine ⟨fun a k => ⟨fun w => stepAddr_fixed a w k, stepAddr_plain k, fun w h h' ha => stepAddr_wraps k h h' ha,
    fun w h ha hwin => stepAddr_window k h ha hwin⟩, fun t c busy s he => ⟨fun h => ?_, fun d b rest hst hd hfl hf => ?_⟩⟩
  · refine (exec_dmaBeatResponse he).trans (congrArg _ ?_)
    by_cases hst : s.dmState c = dmRun
    · unfold State.beatResponse
      rw [if_neg (not_not_intro (show (s.at t).dmState c = dmRun from hst)), show ((s.at t).ch c).flight = [] from h.resolve_left (not_not_intro hst)]
    · exact if_pos hst
  extract_lets again goesOn ends accepted
  have hst' : (s.at t).dmState c = dmRun := hst
  have hfl' : ((s.at t).ch c).flight = b :: rest := hfl
  have hacc : ∀ {busy : Bool} {p : State → Prop} {s' : State}, exec (.dmaBeatResponse t c busy) s = .next s' → p s' →
      (s.at t).beatAccepted c d b rest s' → (b.idx + 1 ≠ d.count → Does (.dmaBeatResponse t c busy) s (fun s' => p s' ∧ goesOn s'))
        ∧ (b.idx + 1 = d.count → Does (.dmaBeatResponse t c busy) s (fun s' => p s' ∧ ends s')) := fun hx hp ha =>
    ⟨fun hn => ⟨_, hx, hp, (ha.1 hn).1.trans hst, (ha.1 hn).2⟩, fun hn => ⟨_, hx, hp, ha.2 hn⟩⟩
  have hagain : ∀ n, again n ((s.at t).beatAgain c n) := fun n => State.beatAgain_shows hst' hfl' c.isLt n
  have hserved : b.ans.isSome = true → exec (.dmaBeatResponse t c busy) s = .next ((s.at t).beatAnswer c) := fun h =>
    (exec_dmaBeatResponse he).trans (congrArg _ (State.beatResponse_served hst' hfl' busy h))
  refine ⟨fun hans hb => ?_, fun r x y hans hb hw hr hrest hm hsrc hdst => ?_, fun a hans => ?_, fun a hans => ?_,
    fun a hans => ⟨fun hn => ?_, fun hn => ?_⟩, fun a hans => ⟨fun h0 hstop => ?_, fun h0 => ?_⟩⟩
  · subst hb
    exact ⟨_, (exec_dmaBeatResponse he).trans (congrArg _ (State.beatResponse_busy hst' hfl' hans)), hagain _⟩
  · subst hb
    extract_lets word
    have hword : (s.at t).beatWord d x = word := rfl
    refine ⟨fun hm2 hl => ?_, fun hm2 => ?_⟩
    · obtain ⟨hsame, hother, hch, hwr⟩ := (s.at t).workWriteBy_shows (c := c) y word
      obtain ⟨ha, -, hwork⟩ := State.beatResponse_accepted c.isLt hst' hd hfl' hf hans hw hr hrest
        (State.beatAccess_writes x.isLt y.isLt hsrc hdst hm2 hl) hch fun g hg => hwr g fun f hf => .inl (by
          rw [Set.mem_singleton_iff.1 hf]
          simp only [List.mem_cons, List.not_mem_nil, or_false] at hg
          rcases hg with h | h <;> rw [h] <;> simp only [Reg.DMA_STAT_addr, Reg.DMA_CTRL_addr] <;> omega)
      refine hacc (exec_dmaBeatResponse he) ⟨?_, fun z hz => ?_⟩ ha
      · exact (congrArg (Cells.get memDefault · y) hwork).trans hsame
      · exact (congrArg (Cells.get memDefault · z) hwork).trans (hother z hz)
    · obtain ⟨hwork', hch, hwr, heq, hne⟩ := (s.at t).dmaCompare_shows (c := c) b.idx word (s.workGet y)
      obtain ⟨ha, hwr', hwork⟩ := State.beatResponse_accepted c.isLt hst' hd hfl' hf hans hw hr hrest
        (State.beatAccess_compares x.isLt y.isLt hsrc hdst hm2) hch fun g hg => hwr g fun f hf => .inl (by
          rw [show f.addr = _ from hf]
          simp only [List.mem_cons, List.not_mem_nil, or_false] at hg
          rcases hg with h | h <;> rw [h] <;> simp)
      refine hacc (exec_dmaBeatResponse he) ⟨hwork.trans hwork', fun h => ?_, fun h => ?_⟩ ha
      · have hreg : ((s.at t).dmaCompare c b.idx word (s.workGet y)).reg (Reg.DMA_CMP_addr c) = (s.at t).reg (Reg.DMA_CMP_addr c) := by rw [heq h]
        exact (hwr'.reg fun f hf => beatFlds_cmp hf).trans hreg
      · obtain ⟨h1, h2, h3⟩ := hne h
        have hmiss : ∀ g : Fld, g.addr = Reg.DMA_CMP_addr c → ∀ f ∈ beatFlds c, f.misses g := fun g hg f hf =>
          .inl (hg ▸ beatFlds_cmp hf)
        exact ⟨(hwr' _ (hmiss _ rfl)).trans h1, (hwr' _ (hmiss _ rfl)).trans h2, (hwr' _ (hmiss _ rfl)).trans h3⟩
  · obtain ⟨ha, -, hwork⟩ := State.beatDone_accepts (s := s.at t) c.isLt (b := b) (rest := rest) hd (by rw [hfl']; rfl) hf
    exact hacc ((hserved (by rw [hans]; rfl)).trans (congrArg _ (State.beatAnswer_accepted hfl' hd hans))) hwork ha
  · exact ⟨_, (hserved (by rw [hans]; rfl)).trans (congrArg _ (State.beatAnswer_busy hfl' hd hans)), hagain _⟩
  · obtain ⟨hrun, hflight, hwork⟩ := hagain (b.retries + 1)
    refine ⟨_, (hserved (by rw [hans]; rfl)).trans (congrArg _ ((State.beatAnswer_error hfl' hd hans).trans (if_pos hn))),
      ⟨?_, ?_, ?_⟩, ?_⟩
    · exact (State.get_set_ne _ _ _ _ (by simp)).trans hrun
    · rw [State.dmaRetried, State.ch_set, hflight]
    · exact hwork
    · rw [State.dmaRetried, State.get_set_of_lt _ _ (by simp) (by simp only []; omega)]
      rfl
  · obtain ⟨haddr, hack, hhalt, hgo⟩ := State.beatFailed_shows (s := s.at t) c.isLt (d := d) (a := a) hfl' hf
    exact ⟨_, (hserved (by rw [hans]; rfl)).trans (congrArg _ ((State.beatAnswer_error hfl' hd hans).trans (if_neg (Nat.not_lt.2 hn)))),
      haddr, hack, hhalt, fun h h' => ⟨(hgo h h').1.trans hst, (hgo h h').2⟩⟩
  · obtain ⟨hpause, hflight, -⟩ := State.dmaToPause_shows (s := s.at t) c.isLt hstop
    exact ⟨_, (hserved (by rw [hans]; rfl)).trans (congrArg _ ((State.beatAnswer_off hfl' hd hans).trans (if_pos h0))), hpause, hflight⟩
  · obtain ⟨haddr, hack, -, -⟩ := State.dmaFail_shows (s := s.at t) (c := c) a ackOff b.retries (by decide)
    obtain ⟨hhalt, hcause, hrest⟩ := State.dmaTorn_shows (s := (s.at t).dmaFail c a ackOff b.retries) (c := c) d
    exact ⟨_, (hserved (by rw [hans]; rfl)).trans (congrArg _ ((State.beatAnswer_off hfl' hd hans).trans (if_neg h0))), hhalt, hcause,
      (hrest _ (by simp) (by simp)).trans haddr, (hrest _ (by simp) (by simp)).trans hack⟩

end Sys2Proof.Machine
end

section
/-! PROOF. The flash commands of the host (O47). -/
namespace Sys2Proof.Machine

/-! ### Bytes of a word -/

theorem byteOf_eq (w : Word) (k : Nat) : byteOf w k = (Fld.mk 0 (8 * (5 - k)) 8).get w := by
  simp only [byteOf, Fld.get, BitVec.toNat_ushiftRight, Nat.shiftRight_eq_div_pow]
  rfl

theorem byteOf_putByte (w : Word) {k v : Nat} (hk : k < 6) (hv : v < 256) : byteOf (putByte w k v) k = v := by
  rw [byteOf_eq, putByte, Fld.get_put _ _ _ (by simp only []; omega)]
  exact Nat.mod_eq_of_lt hv

theorem byteOf_putByte_ne (w : Word) {k j : Nat} (v : Nat) (hk : k < 6) (hj : j < 6) (h : j ≠ k) :
    byteOf (putByte w k v) j = byteOf w j := by
  rw [byteOf_eq, putByte, Fld.get_put_ne _ _ _ _ (by simp only []; omega) (by simp only []; omega) (by simp only []; omega), byteOf_eq]

/-! ### The bytes that move -/

/-- The first `n` bytes of a READ from address `a` have come to working memory from word `w`. -/
def State.readBytes (s : State) (w a n : Nat) : State :=
  (List.range n).foldl (fun s k => s.setWorkByte w k (s.flashGet ((a + k) % 2 ^ 24))) s

/-- The first `n` bytes of a PROGRAM at address `a` have come from working memory from word `w`. -/
def State.programBytes (s : State) (w a n : Nat) : State :=
  (List.range n).foldl (fun s k => s.flashSet ((a + k) % 2 ^ 24) (s.workByte w k)) s

section
variable (s : State) (w a : Nat)

theorem State.readBytes_succ (n : Nat) : s.readBytes w a (n + 1)
    = (s.readBytes w a n).setWorkByte w n ((s.readBytes w a n).flashGet ((a + n) % 2 ^ 24)) := by
  rw [State.readBytes, List.range_succ, List.foldl_append]
  rfl

theorem State.programBytes_succ (n : Nat) : s.programBytes w a (n + 1)
    = (s.programBytes w a n).flashSet ((a + n) % 2 ^ 24) ((s.programBytes w a n).workByte w n) := by
  rw [State.programBytes, List.range_succ, List.foldl_append]
  rfl

theorem State.flashGet_lt (x : Nat) : s.flashGet x < 256 := (s.flash.get flashDefault x).isLt
theorem State.workByte_lt (k : Nat) : s.workByte w k < 256 := Nat.mod_lt _ (by decide)

theorem State.workByte_setWorkByte (k : Nat) {v : Nat} (hv : v < 256) : (s.setWorkByte w k v).workByte w k = v := by
  rw [State.workByte, State.setWorkByte, State.workGet_workSet, byteOf_putByte _ (Nat.mod_lt _ (by decide)) hv]

theorem State.workByte_setWorkByte_ne {k j : Nat} (v : Nat) (h : j ≠ k) (hj : j < 256) (hk : k < 256) :
    (s.setWorkByte w k v).workByte w j = s.workByte w j := by
  unfold State.workByte State.setWorkByte
  by_cases hw : (w + j / 6) % 32768 = (w + k / 6) % 32768
  · rw [hw, State.workGet_workSet, byteOf_putByte_ne _ _ (Nat.mod_lt _ (by decide)) (Nat.mod_lt _ (by decide)) (by omega)]
  · rw [State.workGet_workSet_ne _ _ hw]

theorem State.readBytes_shows {n : Nat} (hn : n ≤ 256) : (s.readBytes w a n).regs = s.regs ∧ (s.readBytes w a n).flash = s.flash
    ∧ (s.readBytes w a n).host = s.host
    ∧ (∀ k < n, (s.readBytes w a n).workByte w k = s.flashGet ((a + k) % 2 ^ 24))
    ∧ ∀ x, (∀ k < n, x ≠ (w + k / 6) % 32768) → (s.readBytes w a n).workGet x = s.workGet x := by
  induction n with
  | zero => exact ⟨rfl, rfl, rfl, fun k hk => absurd hk (Nat.not_lt_zero k), fun _ _ => rfl⟩
  | succ n ih =>
    obtain ⟨hregs, hflash, hhost, hbytes, hother⟩ := ih (by omega)
    rw [State.readBytes_succ]
    generalize s.readBytes w a n = u at *
    have hget : ∀ x, u.flashGet x = s.flashGet x := fun x => by rw [State.flashGet, hflash, State.flashGet]
    refine ⟨hregs, hflash, hhost, fun k hk => ?_, fun x hx => ?_⟩
    · by_cases he : k = n
      · rw [he, State.workByte_setWorkByte _ _ _ (u.flashGet_lt _), hget]
      · rw [State.workByte_setWorkByte_ne _ _ _ he (by omega) (by omega), hbytes k (by omega)]
    · rw [State.setWorkByte, State.workGet_workSet_ne _ _ (hx n (by omega)), hother x fun k hk => hx k (by omega)]

theorem State.programBytes_shows {n : Nat} (hn : n ≤ 256) : (s.programBytes w a n).regs = s.regs
    ∧ (s.programBytes w a n).work = s.work ∧ (s.programBytes w a n).host = s.host
    ∧ (∀ k < n, (s.programBytes w a n).flashGet ((a + k) % 2 ^ 24) = s.workByte w k)
    ∧ ∀ x, (∀ k < n, x ≠ (a + k) % 2 ^ 24) → (s.programBytes w a n).flashGet x = s.flashGet x := by
  induction n with
  | zero => exact ⟨rfl, rfl, rfl, fun k hk => absurd hk (Nat.not_lt_zero k), fun _ _ => rfl⟩
  | succ n ih =>
    obtain ⟨hregs, hwork, hhost, hbytes, hother⟩ := ih (by omega)
    rw [State.programBytes_succ]
    generalize s.programBytes w a n = u at *
    have hget : ∀ k, u.workByte w k = s.workByte w k := fun k => by rw [State.workByte, State.workGet, hwork, State.workByte, State.workGet]
    refine ⟨hregs, hwork, hhost, fun k hk => ?_, fun x hx => ?_⟩
    · by_cases he : k = n
      · rw [he, State.flashGet_flashSet _ _ (u.workByte_lt w _), hget]
      · rw [State.flashGet_flashSet_ne _ _ (by omega), hbytes k (by omega)]
    · rw [State.flashGet_flashSet_ne _ _ (hx n (by omega)), hother x fun k hk => hx k (by omega)]

/-- Signature regions that a READ has touched hold nothing that was restored or converged. -/
theorem State.overwritten_marks {n r k : Nat} (hr : r < 4) (hk : k < (n + 5) / 6) (he : (w + k) % 32768 / 0x400 = r) :
    r ∉ (s.overwritten w n).learn.sigGood := by
  have hfold : ∀ (l : List Nat) (x : Learn), r ∈ l ∨ r ∉ x.sigGood → r ∉ (l.foldl (fun l r => l.mark r false) x).sigGood := by
    intro l
    induction l with
    | nil => exact fun x h => h.resolve_left List.not_mem_nil
    | cons q l ih =>
      intro x h
      refine ih (x.mark q false) ?_
      by_cases hq : r ∈ l
      · exact .inl hq
      · refine .inr fun hmem => ?_
        simp only [Learn.mark, Bool.false_eq_true, if_false, List.append_nil, List.mem_filter, decide_eq_true_eq] at hmem
        exact h.elim (fun h => (List.mem_cons.1 h).elim (fun h => hmem.2 h) hq) fun h => h hmem.1
  have hmem : r ∈ (List.range 4).filter ((List.range ((n + 5) / 6)).map (fun k => (w + k) % 32768 / 0x400)).contains := by
    simp only [List.mem_filter, List.mem_range, List.contains_eq_mem, List.mem_map, decide_eq_true_eq]
    exact ⟨hr, k, hk, he⟩
  have hlearn : (s.overwritten w n).learn = ((List.range 4).filter ((List.range ((n + 5) / 6)).map (fun k => (w + k) % 32768 / 0x400)).contains).foldl
      (fun l r => l.mark r false) s.learn := by
    unfold State.overwritten
    exact (State.showSigValid_keeps _ (Nat.and_self _) (.refl _ _)).same .learn (by decide)
  rw [hlearn]
  exact hfold _ _ (.inl hmem)

theorem State.reg_overwritten_ne (n : Nat) {x : Nat} (h : x ≠ Reg.WFT_CLST_addr 0) : (s.overwritten w n).reg x = s.reg x := by
  unfold State.overwritten State.showSigValid
  exact State.reg_set_ne _ _ _ h

end

/-! ### The commands -/

/-- A command has begun: BUSY is set, and the flash master's commands `l` are sent. -/
def State.flashBegun (s : State) (l : List (Nat × Nat)) : State := (s.set Reg.LNK_FSTAT_BUSY 1).flashSend l

theorem State.flashBegun_shows (s : State) (l : List (Nat × Nat)) : (s.flashBegun l).get Reg.LNK_FSTAT_BUSY = 1
    ∧ (s.flashBegun l).host.fspi = l ∧ (s.flashBegun l).flash = s.flash ∧ (s.flashBegun l).work = s.work
    ∧ ∀ x, x ≠ Reg.LNK_FSTAT_addr → (s.flashBegun l).reg x = s.reg x :=
  ⟨State.get_set_of_lt s _ (by decide) (by decide), rfl, rfl, rfl, fun _ h => State.reg_set_ne s _ _ h⟩

section
variable {t : Word} {s : State} {a : Fin 16777216} {len : Fin 256}

theorem flashCommands_refused (h : s.gone Reg.LNK_FCMD_addr = true) :
    Refused (.flashRead t a len) s ∧ Refused (.flashProgram t a len) s ∧ Refused (.flashErase t a) s :=
  ⟨refused_of_wrej (congrArg _ (if_pos h)), refused_of_wrej (congrArg _ (if_pos h)), refused_of_wrej (congrArg _ (if_pos h))⟩

/-- A command that R542 forbids. -/
theorem State.flashCommand_rejected {cmd a len : Nat} (hc : cmd ≠ 0) (hup : s.flashUp = true) (hr : s.flashRejects cmd a (len + 1) = true) :
    s.flashCommand cmd a len = s.stick Reg.LNK_FSTAT_CMD_REJ 1 :=
  (if_neg (not_or.2 ⟨hc, not_not_intro hup⟩)).trans (if_pos hr)

/-- A command that is taken. -/
theorem State.flashCommand_taken {cmd a len : Nat} (hc : cmd ≠ 0) (hup : s.flashUp = true) (hr : s.flashRejects cmd a (len + 1) = false) :
    s.flashCommand cmd a len =
      let u := s.flashBegun (flashCodes (s.is Reg.LNK_FSTAT_QUAD) cmd a (len + 1))
      let w := s.get Reg.LNK_FWADDR_WADDR
      if cmd = 1 then (u.readBytes w a (len + 1)).overwritten w (len + 1)
      else if cmd = 2 then u.programBytes w a (len + 1)
      else { u with flash := u.flash.filter (fun c => decide (c.1 / 4096 ≠ a / 4096)) } :=
  (if_neg (not_or.2 ⟨hc, not_not_intro hup⟩)).trans (if_neg (by rw [hr]; decide))

end

theorem flashCodes_shows (quad : Bool) (b n : Nat) : flashCodes quad 1 b n = [(if quad then 0x6B else 0x0B, b)]
    ∧ (b % 256 + n ≤ 256 → flashCodes quad 2 b n = [(0x06, 0), (0x02, b)])
    ∧ (256 < b % 256 + n → flashCodes quad 2 b n = [(0x06, 0), (0x02, b), (0x06, 0), (0x02, (b / 256 * 256 + 256) % 2 ^ 24)])
    ∧ flashCodes quad 3 b n = [(0x06, 0), (0x20, b / 4096 * 4096)] := by
  refine ⟨rfl, fun h => ?_, fun h => ?_, rfl⟩
  · exact congrArg ([(0x06, 0), (0x02, b)] ++ ·) (if_neg (by omega))
  · exact congrArg ([(0x06, 0), (0x02, b)] ++ ·) (if_pos (by omega))

/-- Settles O47. -/
theorem flashCommands : Obligations.FlashCommands := by
  unfold Obligations.FlashCommands
  intro t a len s w busy refused
  have hbegun : ∀ cmd n, busy cmd n ((s.at t).flashBegun (flashCodes (s.is Reg.LNK_FSTAT_QUAD) cmd a n)) := fun cmd n => by
    obtain ⟨hbusy, hcodes, -, -, hrest⟩ := (s.at t).flashBegun_shows (flashCodes (s.is Reg.LNK_FSTAT_QUAD) cmd a n)
    exact ⟨hbusy, hcodes, fun x hx _ => hrest x hx⟩
  have hrej : refused ((s.at t).stick Reg.LNK_FSTAT_CMD_REJ 1) :=
    ⟨State.get_stick_bit _ _ (by decide) rfl, rfl, rfl, fun x hx => State.reg_set_ne (s.at t) _ _ hx⟩
  have hwrite : s.gone Reg.LNK_FCMD_addr = false → ∀ cmd n, (s.at t).flashWrite cmd a n = (s.at t).flashCommand cmd a n :=
    fun hg cmd n => if_neg fun h => absurd (hg.symm.trans h) (by decide)
  refine ⟨fun quad b n => flashCodes_shows quad b n, flashCommands_refused, fun hg hup => ?_, fun hg hup => ?_, ?_⟩
  · have hidle : ∀ cmd n, (s.at t).flashWrite cmd a n = s.at t := fun cmd n =>
      (hwrite hg cmd n).trans (if_pos (.inr (by rw [show (s.at t).flashUp = _ from hup]; decide)))
    exact ⟨congrArg Host.Outcome.next (hidle 1 len), congrArg Host.Outcome.next (hidle 2 len), congrArg Host.Outcome.next (hidle 3 0)⟩
  · have htaken : ∀ {cmd n}, cmd ≠ 0 → s.flashRejects cmd a (n + 1) = false → (s.at t).flashWrite cmd a n = _ := fun hc hr =>
      (hwrite hg _ _).trans (State.flashCommand_taken hc hup hr)
    have hrejected : ∀ {cmd n}, cmd ≠ 0 → s.flashRejects cmd a (n + 1) = true → (s.at t).flashWrite cmd a n = _ := fun hc hr =>
      (hwrite hg _ _).trans (State.flashCommand_rejected hc hup hr)
    refine ⟨fun hr => ?_, fun hr => ?_, fun hr => ?_, fun hr => ⟨_, congrArg Host.Outcome.next (hrejected (by decide) hr), hrej⟩,
      fun hr => ⟨_, congrArg Host.Outcome.next (hrejected (by decide) hr), hrej⟩,
      fun hr => ⟨_, congrArg Host.Outcome.next (hrejected (by decide) hr), hrej⟩⟩
    · have hx := (htaken (cmd := 1) (n := len) (by decide) hr).trans (if_pos rfl)
      obtain ⟨hbusy, hcodes, hregs'⟩ := hbegun 1 (len + 1)
      refine ⟨(((s.at t).flashBegun (flashCodes (s.is Reg.LNK_FSTAT_QUAD) 1 a (len + 1))).readBytes w a (len + 1)).overwritten w (len + 1), congrArg Host.Outcome.next hx, ?_⟩
      have hu : ((s.at t).flashBegun (flashCodes (s.is Reg.LNK_FSTAT_QUAD) 1 a (len + 1))).flash = s.flash
        ∧ ((s.at t).flashBegun (flashCodes (s.is Reg.LNK_FSTAT_QUAD) 1 a (len + 1))).work = s.work := ⟨rfl, rfl⟩
      generalize (s.at t).flashBegun (flashCodes (s.is Reg.LNK_FSTAT_QUAD) 1 a (len + 1)) = u at *
      obtain ⟨hregs, hflash, hhost, hbytes, hother⟩ := u.readBytes_shows w a (n := len + 1) (by omega)
      generalize u.readBytes w a (len + 1) = v at *
      have hk := State.overwritten_keeps v w (len + 1) (Nat.and_self _) (.refl _ v)
      have hvf : (v.overwritten w (len + 1)).flash = v.flash := hk.same .flash (by decide)
      have hvw : (v.overwritten w (len + 1)).work = v.work := hk.same .work (by decide)
      have hvh : (v.overwritten w (len + 1)).host = v.host := hk.same .host (by decide)
      have hvr : ∀ x, v.reg x = u.reg x := fun x => by rw [State.reg, hregs, State.reg]
      have hug : ∀ x, u.flashGet x = s.flashGet x := fun x => by rw [State.flashGet, hu.1, State.flashGet]
      refine ⟨⟨?_, ?_, fun x hx hx' => ?_⟩, hvf.trans (hflash.trans hu.1), fun k hk => ?_, fun r hr' ⟨k, hk, he⟩ => ?_, fun x hx => ?_⟩
      · rw [State.get_congr (v.reg_overwritten_ne w (len + 1) (by decide)), State.get_congr (hvr _), hbusy]
      · rw [hvh, hhost, hcodes]
      · rw [v.reg_overwritten_ne w (len + 1) hx', hvr, hregs' x hx hx']
      · rw [State.workByte, State.workGet, hvw, ← hug, ← hbytes k hk, State.workByte, State.workGet]
      · exact v.overwritten_marks w hr' hk he
      · rw [State.workGet, hvw]
        exact (hother x hx).trans (by rw [State.workGet, hu.2, State.workGet])
    · have hx := (htaken (cmd := 2) (n := len) (by decide) hr).trans ((if_neg (by decide)).trans (if_pos rfl))
      obtain ⟨hbusy, hcodes, hregs'⟩ := hbegun 2 (len + 1)
      refine ⟨((s.at t).flashBegun (flashCodes (s.is Reg.LNK_FSTAT_QUAD) 2 a (len + 1))).programBytes w a (len + 1), congrArg Host.Outcome.next hx, ?_⟩
      have hu : ((s.at t).flashBegun (flashCodes (s.is Reg.LNK_FSTAT_QUAD) 2 a (len + 1))).flash = s.flash
        ∧ ((s.at t).flashBegun (flashCodes (s.is Reg.LNK_FSTAT_QUAD) 2 a (len + 1))).work = s.work := ⟨rfl, rfl⟩
      generalize (s.at t).flashBegun (flashCodes (s.is Reg.LNK_FSTAT_QUAD) 2 a (len + 1)) = u at *
      obtain ⟨hregs, hwork, hhost, hbytes, hother⟩ := u.programBytes_shows w a (n := len + 1) (by omega)
      generalize u.programBytes w a (len + 1) = v at *
      have hvr : ∀ x, v.reg x = u.reg x := fun x => by rw [State.reg, hregs, State.reg]
      refine ⟨⟨?_, ?_, fun x hx hx' => ?_⟩, hwork.trans hu.2, fun k hk => ?_, fun x hx => ?_⟩
      · rw [State.get_congr (hvr _), hbusy]
      · rw [hhost, hcodes]
      · rw [hvr, hregs' x hx hx']
      · rw [hbytes k hk, State.workByte, State.workGet, hu.2, State.workByte, State.workGet]
      · rw [hother x hx, State.flashGet, hu.1, State.flashGet]
    · have hx := (htaken (cmd := 3) (n := 0) (by decide) hr).trans ((if_neg (by decide)).trans (if_neg (by decide)))
      obtain ⟨hbusy, hcodes, hregs'⟩ := hbegun 3 1
      refine ⟨_, congrArg Host.Outcome.next hx, ⟨hbusy, hcodes, hregs'⟩, rfl, fun x => ?_⟩
      have hfind := Cells.find_filter (fun k => decide (k / 4096 ≠ a.val / 4096)) s.flash x
      change ((Cells.find (s.flash.filter (fun c => decide (c.1 / 4096 ≠ a.val / 4096))) x).getD (flashDefault x)).toNat = _
      rw [hfind]
      by_cases he : x / 4096 = a.val / 4096
      · rw [if_pos he, if_neg (by simpa using he)]
        rfl
      · rw [if_neg he, if_pos (by simpa using he)]
        rfl
  · exact ⟨_, rfl, State.get_set_of_lt (s.at t) _ (by decide) (by decide), rfl, rfl, fun x hx => State.reg_set_ne (s.at t) _ _ hx⟩

end Sys2Proof.Machine
end

section
/-! PROOF. The CAN controllers (O45). -/
namespace Sys2Proof.Machine

/-! ### The turn of a memory access when nothing else asks -/

theorem busWinner_single (r : BusReq) : busWinner [r] = some r := by
  simp only [busWinner, List.foldl_nil, List.filter_cons, elapsed_self, Nat.zero_le, decide_true, if_true, List.filter_nil, List.foldl_cons]

section
variable {s : State} (hp : s.pending = []) (hb : s.busRequests = [])
include hp hb

theorem State.busTurn_free (m : Master) : s.busTurn m = s := by
  have hg : ∀ own n, s.grantsBefore own (n + 1) = s := fun own n => by
    rw [State.grantsBefore, hb, busWinner_single]
    exact if_pos rfl
  unfold State.busTurn
  dsimp only
  rw [hg, hp]
  rfl

theorem State.memTurn_free (m : Master) : s.memTurn m = s := by
  unfold State.memTurn State.hostFirst
  rw [hp, List.foldl_nil]
  dsimp only
  rw [hp, List.foldl_nil, State.busTurn_free hp hb]

theorem State.canTurn_free : s.canTurn = s := by
  unfold State.canTurn State.proexFirst
  rw [hp, List.foldl_nil]
  dsimp only
  rw [hp, List.foldl_nil, State.memTurn_free hp hb]

end

/-! ### Consecutive words of working memory -/

theorem State.workGet_workWrite (ws : List Word) (s : State) (a : Nat) {k : Nat} (h : k < ws.length) :
    (s.workWrite a ws).workGet (a + k) = ws.getD k 0 := by
  induction ws generalizing s a k with
  | nil => exact absurd h (Nat.not_lt_zero k)
  | cons w ws ih =>
    rw [State.workWrite]
    cases k with
    | zero => exact (State.workGet_workWrite_of_lt ws _ (Nat.lt_succ_self a)).trans (s.workGet_workSet a w)
    | succ k => exact (congrArg _ (show a + (k + 1) = a + 1 + k by omega)).trans (ih (s.workSet a w) (a + 1) (Nat.lt_of_succ_lt_succ h))

/-! ### What a frame changes -/

theorem State.workGet_set (s : State) (f : Fld) (v x : Nat) : (s.set f v).workGet x = s.workGet x := rfl
theorem State.get_workSet (s : State) (a : Nat) (w : Word) (f : Fld) : (s.workSet a w).get f = s.get f := rfl
theorem State.work_inc (s : State) (f : Fld) : (s.inc f).work = s.work := rfl
theorem State.get_setCan (s : State) (c : Nat) (k : Can) (f : Fld) : (s.setCan c k).get f = s.get f := rfl
theorem State.can_set (s : State) (f : Fld) (v c : Nat) : (s.set f v).can c = s.can c := rfl
theorem State.can_workSet (s : State) (a : Nat) (w : Word) (c : Nat) : (s.workSet a w).can c = s.can c := rfl
theorem State.can_report (s : State) (src idx code arg : Nat) (time : Option Word) (c : Nat) :
    (s.report src idx code arg time).can c = s.can c := rfl
theorem State.workGet_inc (s : State) (f : Fld) (x : Nat) : (s.inc f).workGet x = s.workGet x := rfl

section
variable (s : State) (c : Nat) (f : CanFrame) (sof : Word)

theorem State.canShow_shows : (s.canShow c).cans = s.cans ∧ (s.canShow c).work = s.work
    ∧ ∀ g : Fld, (Reg.CAN_STAT_STATE c).misses g → (s.canShow c).get g = s.get g := by
  have hk := State.canShow_keeps s c (Nat.and_self _) (.refl _ s)
  refine ⟨hk.same .cans (by decide), hk.same .work (by decide), fun g hg => ?_⟩
  unfold State.canShow
  split
  · rfl
  · exact State.get_set_ne s _ g _ hg

/-- The fields that a delivery writes. -/
def deliverFlds (c : Nat) : Set Fld := {Reg.CAN_CNT_RTR c, Reg.CAN_CNT_RXOVF c, Reg.CAN_RX_RXLEVEL c}

theorem State.canDeliver_writes : Writes (deliverFlds c) s (s.canDeliver c f sof) := by
  unfold State.canDeliver
  extract_lets n e
  split
  · exact (Writes.refl _ s).inc (by simp [deliverFlds])
  · split
    · exact .refl _ s
    · split
      · exact .refl _ s
      · split
        · exact (Writes.refl _ s).inc (by simp [deliverFlds])
        · have hregs := (State.workWrite_keeps s (canRx c e) (canWords f sof) (Nat.and_self _) (.refl _ s)).same .regs (by decide)
          exact ((Writes.refl _ s).of_regs hregs).set (by simp [deliverFlds]) _

theorem State.canDeliver_transmit {x : Nat} (hx : x < canRx c 0) : (s.canDeliver c f sof).workGet x = s.workGet x := by
  unfold State.canDeliver
  extract_lets n e
  split
  · exact s.workGet_inc _ x
  · split
    · rfl
    · split
      · rfl
      · split
        · exact s.workGet_inc _ x
        · rw [State.workGet_set]
          exact State.workGet_workWrite_of_lt _ s (Nat.lt_of_lt_of_le hx (by simp only [canRx]; omega))

/-- The end of a sent frame: the error counters, and the loopback. -/
def State.canSettled (s : State) (c : Nat) (f : CanFrame) (sof : Word) (fails : Nat) : State :=
  let s' := (s.set (Reg.CAN_STAT_TEC c) (min 255 (s.get (Reg.CAN_STAT_TEC c) + 8 * fails) - 1)).canShow c
  if s'.get (Reg.CAN_CFG_MODE c) = 2 then s'.canDeliver c f sof else s'

theorem State.canSettled_shows (fails : Nat) : (s.canSettled c f sof fails).cans = s.cans
    ∧ (s.canSettled c f sof fails).get (Reg.CAN_STAT_TEC c) = min 255 (s.get (Reg.CAN_STAT_TEC c) + 8 * fails) - 1
    ∧ (s.canSettled c f sof fails).get (Reg.CAN_TXREQ_TXREQ c) = s.get (Reg.CAN_TXREQ_TXREQ c)
    ∧ ∀ x, x < canRx c 0 → (s.canSettled c f sof fails).workGet x = s.workGet x := by
  unfold State.canSettled
  extract_lets s'
  obtain ⟨hcans, hwork, hget⟩ := (s.set (Reg.CAN_STAT_TEC c) (min 255 (s.get (Reg.CAN_STAT_TEC c) + 8 * fails) - 1)).canShow_shows c
  have htec : s'.get (Reg.CAN_STAT_TEC c) = min 255 (s.get (Reg.CAN_STAT_TEC c) + 8 * fails) - 1 :=
    (hget _ (by simp [Fld.misses])).trans (State.get_set_of_lt s _ (by simp) (by simp only []; omega))
  have htx : s'.get (Reg.CAN_TXREQ_TXREQ c) = s.get (Reg.CAN_TXREQ_TXREQ c) :=
    (hget _ (by simp [Fld.misses])).trans (State.get_set_ne s _ _ _ (by simp))
  have hc' : s'.cans = s.cans := hcans
  have hw' : ∀ x, s'.workGet x = s.workGet x := fun x => congrArg (Cells.get memDefault · x) hwork
  clear_value s'
  split
  · have hw := s'.canDeliver_writes c f sof
    have hcans' := (State.canDeliver_keeps s' c f sof (Nat.and_self _) (.refl _ s')).same .cans (by decide)
    refine ⟨hcans'.trans hc', (hw _ ?_).trans htec, (hw _ ?_).trans htx, fun x hx => (s'.canDeliver_transmit c f sof hx).trans (hw' x)⟩
    all_goals simp [deliverFlds, Fld.misses]
  · exact ⟨hc', htec, htx, fun x _ => hw' x⟩

/-- A frame that the controller has sent: from a buffer, or from the result queue. -/
theorem State.canSent_eq {m fails : Nat} (h : canWinner (s.canOffers c sof) = some (m, f)) : s.canSent c sof fails =
    (if m = 16 then s.setCan c { s.can c with results := (s.can c).results.tail }
      else ((s.setCan c { s.can c with asked := (s.can c).asked.filter (fun a => decide (a.1 ≠ m)) }).clearBit
        (Reg.CAN_TXREQ_TXREQ c) m).workSet (canTx c m + 1) sof).canSettled c f sof fails := by
  unfold State.canSent
  rw [h]
  rfl

theorem State.canSent_none {fails : Nat} (h : canWinner (s.canOffers c sof) = none) : s.canSent c sof fails = s := by
  unfold State.canSent
  rw [h]

end

/-- REC after a good reception. -/
theorem State.canGood_shows (s : State) (c errs : Nat) :
    let n := min 255 (s.get (Reg.CAN_STAT_REC c) + errs)
    (n ≤ 127 → (s.canGood c errs).get (Reg.CAN_STAT_REC c) = n - 1)
    ∧ (127 < n → 119 ≤ (s.canGood c errs).get (Reg.CAN_STAT_REC c) ∧ (s.canGood c errs).get (Reg.CAN_STAT_REC c) ≤ 127)
    ∧ Writes {Reg.CAN_STAT_REC c} s (s.canGood c errs) ∧ (s.canGood c errs).work = s.work := by
  have hwork := (State.canGood_keeps s c errs (Nat.and_self _) (.refl _ s)).same .work (by decide)
  intro n
  refine ⟨fun hn => ?_, fun hn => ?_, ?_, hwork⟩
  · rw [State.canGood, if_pos hn]
    exact State.get_set_of_lt s _ (by simp) (by simp only []; omega)
  · rw [State.canGood, if_neg (Nat.not_le.2 hn)]
    have hr : 119 + s.free.1.toNat % 9 < 2 ^ 8 := by omega
    rw [State.get_set_of_lt _ _ (by simp) hr]
    omega
  · unfold State.canGood
    extract_lets r
    split
    · exact (Writes.refl _ s).set (Set.mem_singleton _) _
    · exact Writes.set (s := r.2) (.of_regs (.refl _ s) rfl) (Set.mem_singleton _) _

/-- A frame from the bus, up to its delivery. -/
def State.canHeard (s : State) (c errs : Nat) : State := (s.canGood c errs).canShow c

theorem State.canHeard_shows (s : State) (c errs : Nat) :
    let n := min 255 (s.get (Reg.CAN_STAT_REC c) + errs)
    (n ≤ 127 → (s.canHeard c errs).get (Reg.CAN_STAT_REC c) = n - 1)
    ∧ (127 < n → 119 ≤ (s.canHeard c errs).get (Reg.CAN_STAT_REC c) ∧ (s.canHeard c errs).get (Reg.CAN_STAT_REC c) ≤ 127)
    ∧ (∀ g : Fld, g.addr ≠ Reg.CAN_STAT_addr c → (s.canHeard c errs).get g = s.get g) ∧ (s.canHeard c errs).work = s.work := by
  obtain ⟨hlow, hhigh, hw, hwork⟩ := s.canGood_shows c errs
  obtain ⟨-, hwork', hget⟩ := (s.canGood c errs).canShow_shows c
  have hrec := hget (Reg.CAN_STAT_REC c) (by simp [Fld.misses])
  unfold State.canHeard
  rw [hrec]
  exact ⟨hlow, hhigh, fun g hg => (hget g (.inl hg.symm)).trans (hw g fun f hf => .inl (by rw [Set.mem_singleton_iff.1 hf]; exact hg.symm)),
    hwork'.trans hwork⟩

section
variable {t : Word} {s : State} {c : Fin 4}

theorem exec_canTxDone (sof : Word) (fails : Nat) (h : s.canSends c = true) :
    exec (.canTxDone t c sof fails) s = .next (if (s.at t).canTurn.canSends c then (s.at t).canTurn.canSent c sof fails else (s.at t).canTurn) := by
  refine congrArg Host.Outcome.next ?_
  have hu : (if (s.at t).canSends c = true then (s.at t).canTurn else s.at t) = (s.at t).canTurn := if_pos h
  rw [hu]

theorem exec_canRxFrame (f : CanFrame) (sof : Word) (errs : Nat) (h : s.canHears c = true) :
    exec (.canRxFrame t c f sof errs) s
      = .next (if (s.at t).canTurn.canHears c then (s.at t).canTurn.canReceived c f sof errs else (s.at t).canTurn) := by
  refine congrArg Host.Outcome.next ?_
  have hu : (if (s.at t).canHears c = true then (s.at t).canTurn else s.at t) = (s.at t).canTurn := if_pos h
  rw [hu]

end

theorem canWords_length (f : CanFrame) (t : Word) : (canWords f t).length = 13 := by
  simp [canWords]

section
variable {s : State} {c : Nat} {f : CanFrame} {sof : Word}

theorem State.canDeliver_remote (h : f.rtr = true) : s.canDeliver c f sof = s.inc (Reg.CAN_CNT_RTR c) := if_pos h

theorem State.canDeliver_discards (hr : f.rtr = false)
    (h : (f.fdf = true ∧ s.is (Reg.CAN_CFG_FD_EN c) = false) ∨ s.canMatches c f = false) : s.canDeliver c f sof = s := by
  unfold State.canDeliver
  rw [hr, if_neg (by decide)]
  rcases h with ⟨h, h'⟩ | h
  · exact if_pos ⟨h, by rw [h']; decide⟩
  · split
    · rfl
    · exact if_pos (by rw [h]; decide)

theorem State.canDeliver_matches (hr : f.rtr = false) (hfd : f.fdf = false ∨ s.is (Reg.CAN_CFG_FD_EN c) = true)
    (hm : s.canMatches c f = true) : s.canDeliver c f sof =
      if 32 ≤ s.get (Reg.CAN_RX_RXLEVEL c) then s.inc (Reg.CAN_CNT_RXOVF c)
      else (s.workWrite (canRx c ((s.get (Reg.CAN_RX_RXHEAD c) + s.get (Reg.CAN_RX_RXLEVEL c)) % 32)) (canWords f sof)).set
        (Reg.CAN_RX_RXLEVEL c) (s.get (Reg.CAN_RX_RXLEVEL c) + 1) := by
  unfold State.canDeliver
  rw [hr, if_neg (by decide)]
  refine (if_neg fun h => ?_).trans (if_neg (not_not_intro hm))
  rcases hfd with h' | h'
  · exact absurd (h'.symm.trans h.1) (by decide)
  · exact h.2 h'

end

/-- Settles O45. -/
theorem canControllers : Obligations.CanControllers := by
  unfold Obligations.CanControllers
  refine ⟨fun t c s => ?_, fun t c f sof errs s => ?_⟩
  · extract_lets k u
    have hfree : s.pending = [] → s.busRequests = [] → u = s.at t := fun hp hb => State.canTurn_free (s := s.at t) hp hb
    refine ⟨hfree, fun m hg => ⟨fun hm => ?_, fun hm => ?_⟩, fun m hg => refused_of_wrej (congrArg _ (if_pos hg)), fun sof fails m f hs hu hw => ?_,
      fun sof fails => ⟨fun hs => ?_, fun hs hu => ⟨_, exec_canTxDone sof fails hs, ?_⟩⟩, fun hoff => ?_, fun hon => ?_, fun hst hrec hup hbus => ?_,
      fun h => ?_, fun hg => ⟨fun hst hauto => ?_, fun h => ?_⟩, fun hg => refused_of_wrej (congrArg _ (if_pos hg))⟩
    · refine ⟨((s.at t).setBit (Reg.CAN_TXREQ_TXREQ c) m).setCan c { (s.at t).can c with asked := ((s.at t).can c).asked ++ [(m.val, t)] },
        congrArg Host.Outcome.next ((if_neg fun h => absurd (hg.symm.trans h) (by decide)).trans
          (if_neg fun h => absurd (hm.symm.trans h) (by decide))), ?_, ?_, fun a ha => ?_⟩
      · have := (s.at t).get_setBit (f := Reg.CAN_TXREQ_TXREQ c) (by simp) (n := m) (by simp)
        rw [State.get_setCan, this, Nat.testBit_or, Nat.testBit_two_pow_self, Bool.or_true]
      · rw [State.can_setCan _ _ c.isLt]
        rfl
      · exact State.reg_set_ne (s.at t) _ _ ha
    · exact congrArg Host.Outcome.next ((if_neg fun h => absurd (hg.symm.trans h) (by decide)).trans (if_pos hm))
    · have hx : exec (.canTxDone t c sof fails) s = .next (u.canSent c sof fails) :=
        (exec_canTxDone sof fails hs).trans (congrArg Host.Outcome.next (if_pos hu))
      rw [State.canSent_eq u c f sof hw] at hx
      refine ⟨fun hm => ⟨_, hx, ?_⟩, fun hm => ⟨_, hx, ?_⟩⟩
      · rw [if_neg (Nat.ne_of_lt hm)]
        have hcan : ∀ k' : Can, (((u.setCan c k').clearBit (Reg.CAN_TXREQ_TXREQ c) m).workSet (canTx c m + 1) sof).can c = k' := fun k' =>
          (State.can_workSet _ _ _ _).trans ((State.can_set _ _ _ _).trans (State.can_setCan u k' c.isLt))
        generalize hv : ((u.setCan c { u.can c with asked := (u.can c).asked.filter (fun a => decide (a.1 ≠ m)) }).clearBit
          (Reg.CAN_TXREQ_TXREQ c) m).workSet (canTx c m + 1) sof = v
        have hk : v.can c = { u.can c with asked := (u.can c).asked.filter (fun a => decide (a.1 ≠ m)) } := by rw [← hv]; exact hcan _
        have htec : v.get (Reg.CAN_STAT_TEC c) = u.get (Reg.CAN_STAT_TEC c) := by
          rw [← hv, State.get_workSet, State.clearBit, State.get_set_ne _ _ _ _ (by simp), State.get_setCan]
        have htx : (v.get (Reg.CAN_TXREQ_TXREQ c)).testBit m = false := by
          rw [← hv, State.get_workSet, State.get_clearBit _ (by simp)]
          simp
        have hsof : v.workGet (canTx c m + 1) = sof := by rw [← hv, State.workGet_workSet]
        obtain ⟨hcans, htec', htx', hwork⟩ := v.canSettled_shows c f sof fails
        have hcan' : (v.canSettled c f sof fails).can c = v.can c := congrArg (vget · c) hcans
        refine ⟨by rw [htx', htx], by rw [hcan', hk], by rw [hcan', hk], ?_, by rw [htec', htec]⟩
        rw [hwork _ (by simp only [canTx, canRx]; omega), hsof]
      · rw [if_pos hm]
        obtain ⟨hcans, -, htx', -⟩ := (u.setCan c { u.can c with results := (u.can c).results.tail }).canSettled_shows c f sof fails
        have hcan' : ((u.setCan c { u.can c with results := (u.can c).results.tail }).canSettled c f sof fails).can c
            = { u.can c with results := (u.can c).results.tail } := (congrArg (vget · c) hcans).trans (State.can_setCan u _ c.isLt)
        refine ⟨by rw [hcan'], by rw [hcan'], by rw [htx', State.get_setCan]⟩
    · refine congrArg Host.Outcome.next ?_
      have hs' : ¬ (s.at t).canSends c = true := fun h => absurd (hs.symm.trans h) (by decide)
      rw [if_neg hs', if_neg hs']
    · rcases hu with hu | hu
      · exact if_neg fun h => absurd (hu.symm.trans h) (by decide)
      · split
        · exact State.canSent_none u c sof hu
        · rfl
    · exact congrArg Host.Outcome.next (if_neg fun h => absurd (hoff.symm.trans h) (by decide))
    · refine ⟨_, congrArg Host.Outcome.next (if_pos hon), ?_, ?_, ?_, rfl⟩
      all_goals dsimp only
      · rw [State.get_report, State.get_setCan, State.get_set_ne _ _ _ _ (by simp), State.get_set_of_lt _ _ (by simp) (by simp)]
      · rw [State.get_report, State.get_setCan, State.get_set_of_lt _ _ (by simp) (by simp)]
      · rw [State.can_report, State.can_setCan _ _ c.isLt]
        exact State.is_congr ((State.get_set_ne _ _ _ _ (by simp)).trans (State.get_set_ne _ _ _ _ (by simp)))
    · refine ⟨_, congrArg Host.Outcome.next (if_pos ⟨hst, hrec, hup, hbus⟩), ?_, ?_, ?_, ?_, rfl⟩
      all_goals dsimp only
      · rw [State.get_report, State.get_setCan, State.get_set_ne _ _ _ _ (by simp), State.get_set_ne _ _ _ _ (by simp),
          State.get_set_of_lt _ _ (by simp) (by simp)]
      · rw [State.get_report, State.get_setCan, State.get_set_ne _ _ _ _ (by simp), State.get_set_of_lt _ _ (by simp) (by simp)]
      · rw [State.get_report, State.get_setCan, State.get_set_of_lt _ _ (by simp) (by simp)]
      · rw [State.can_report, State.can_setCan _ _ c.isLt]
    · refine congrArg Host.Outcome.next (if_neg fun h' => ?_)
      obtain ⟨hst, hrec, hup, hbus⟩ := h'
      rcases h with h | h | h | h
      · exact h hst
      · exact absurd (h.symm.trans hrec) (by decide)
      · exact absurd (h.symm.trans hup) (by decide)
      · exact absurd (h.symm.trans hbus) (by decide)
    · refine ⟨(s.at t).setCan c { (s.at t).can c with recovering := true }, congrArg Host.Outcome.next
        ((if_neg fun h => absurd (hg.symm.trans h) (by decide)).trans (if_pos ⟨hst, fun h => absurd (hauto.symm.trans h) (by decide)⟩)), ?_, ?_, rfl⟩
      · rw [State.can_setCan _ _ c.isLt]
      · rw [State.can_setCan _ _ c.isLt]
        rfl
    · exact congrArg Host.Outcome.next ((if_neg fun h => absurd (hg.symm.trans h) (by decide)).trans
        (if_neg fun h' => h.elim (fun h => h h'.1) h'.2))
  · extract_lets n h u held first rec' hears
    have hfree : s.pending = [] → s.busRequests = [] → u = s.at t := fun hp hb => State.canTurn_free (s := s.at t) hp hb
    refine ⟨hfree, fun hs hu => ?_, fun hs => ?_, fun hg => refused_of_wrej (congrArg _ (if_pos hg)), fun hg hn => ?_, fun hg hn => ?_⟩
    · obtain ⟨hlow, hhigh, hget, hwork⟩ := u.canHeard_shows c errs
      have hx : exec (.canRxFrame t c f sof errs) s = .next ((u.canHeard c errs).canDeliver c f sof) :=
        (exec_canRxFrame f sof errs hs).trans (congrArg Host.Outcome.next (if_pos hu))
      generalize u.canHeard c errs = v at *
      have hhears : ∀ {p : State → Prop}, p (v.canDeliver c f sof) → hears p := fun hp => by
        have hrec : (v.canDeliver c f sof).get (Reg.CAN_STAT_REC c) = v.get (Reg.CAN_STAT_REC c) :=
          v.canDeliver_writes c f sof _ (by simp [deliverFlds, Fld.misses])
        exact ⟨_, hx, hp, fun h => hrec.trans (hlow h), fun h => by rw [hrec]; exact hhigh h⟩
      have hlevel : v.get (Reg.CAN_RX_RXLEVEL c) = held := hget _ (by simp)
      have hhead : v.get (Reg.CAN_RX_RXHEAD c) = first := hget _ (by simp)
      have hmatch : v.canMatches c f = u.canMatches c f := by
        have hid : ∀ i, v.get (Reg.CAN_FID_ID c i) = u.get (Reg.CAN_FID_ID c i) := fun i => hget _ (by simp only [Reg.CAN_STAT_addr]; omega)
        have hmask : ∀ i, v.get (Reg.CAN_FMASK_MASK c i) = u.get (Reg.CAN_FMASK_MASK c i) := fun i => hget _ (by simp only [Reg.CAN_STAT_addr]; omega)
        have hide : ∀ i, v.is (Reg.CAN_FID_IDE c i) = u.is (Reg.CAN_FID_IDE c i) := fun i => State.is_congr (hget _ (by simp only [Reg.CAN_STAT_addr]; omega))
        have hen : ∀ i, v.is (Reg.CAN_FID_EN c i) = u.is (Reg.CAN_FID_EN c i) := fun i => State.is_congr (hget _ (by simp only [Reg.CAN_STAT_addr]; omega))
        simp only [State.canMatches, hid, hmask, hide, hen]
      have hfden : v.is (Reg.CAN_CFG_FD_EN c) = u.is (Reg.CAN_CFG_FD_EN c) := State.is_congr (hget _ (by simp))
      refine ⟨fun hr => hhears ?_, fun hr hfd hm => ?_, fun hr h => hhears ?_⟩
      · rw [State.canDeliver_remote hr]
        refine ⟨?_, ?_, ?_⟩
        · rw [State.get_inc _ _ (by simp), hget _ (by simp)]
        · rw [State.work_inc, hwork]
        · rw [State.get_inc_ne (by simp [Fld.misses]), hlevel]
      · rw [← hfden] at hfd
        rw [← hmatch] at hm
        have hdel := State.canDeliver_matches (sof := sof) hr hfd hm
        rw [hlevel, hhead] at hdel
        refine ⟨fun hlt => hhears ?_, fun hge => hhears ?_⟩
        · rw [hdel, if_neg (Nat.not_le.2 hlt)]
          refine ⟨State.get_set_of_lt _ _ (by simp) (by simp only []; omega), ?_, fun k hk => ?_⟩
          · rw [State.get_set_ne _ _ _ _ (by simp)]
            have hregs := (State.workWrite_keeps v (canRx c ((first + held) % 32)) (canWords f sof) (Nat.and_self _) (.refl _ v)).same .regs (by decide)
            exact (State.get_congr (congrArg (Cells.get regReset · _) hregs)).trans hhead
          · rw [State.workGet_set]
            exact State.workGet_workWrite _ v _ (by rw [canWords_length]; exact hk)
        · rw [hdel, if_pos hge, State.work_inc, State.get_inc _ _ (by simp), hget _ (by simp)]
          exact ⟨hwork, rfl⟩
      · rw [State.canDeliver_discards hr (by rw [hfden, hmatch]; exact h)]
        exact ⟨hwork, hlevel⟩
    · refine congrArg Host.Outcome.next ?_
      have hs' : ¬ (s.at t).canHears c = true := fun h => absurd (hs.symm.trans h) (by decide)
      rw [if_neg hs', if_neg hs']
    · refine ⟨_, congrArg Host.Outcome.next ((if_neg fun h => absurd (hg.symm.trans h) (by decide)).trans (if_neg hn)), ?_, ?_, fun a ha => ?_⟩
      · rw [State.get_set_ne _ _ _ _ (by simp)]
        have := State.get_lt s (Reg.CAN_RX_RXLEVEL c)
        exact State.get_set_of_lt (s.at t) _ (by simp) (Nat.lt_of_le_of_lt (Nat.sub_le _ _) this)
      · exact State.get_set _ _ _ (by simp)
      · rw [State.reg_set_ne _ _ _ ha]
        exact State.reg_set_ne (s.at t) _ _ ha
    · exact congrArg Host.Outcome.next ((if_neg fun h => absurd (hg.symm.trans h) (by decide)).trans (if_pos hn))

end Sys2Proof.Machine
end

section
/-! PROOF. The masters of one instant: the accesses that are carried out early keep the instant. -/
namespace Sys2Proof.Machine

theorem State.took_now (s : State) (c : Instr) : (s.took c).now = s.now := rfl

/-- Commands that are carried out ahead of their turn keep the instant. -/
theorem State.take_now {f : State → Instr → Option State} (hf : ∀ s c x, f s c = some x → x.now = s.now) (l : List Instr) (s : State) :
    (l.foldl (State.take f) s).now = s.now := by
  induction l generalizing s with
  | nil => rfl
  | cons c l ih =>
    refine (ih _).trans ?_
    unfold State.take
    split
    · rfl
    · split
      next x hx => exact (State.took_now x c).trans (hf s c x hx)
      next => rfl

section
variable (s : State)

theorem State.turnSoon_now (own : BusReq) (c : Instr) : (s.turnSoon own c).now = s.now := by
  unfold State.turnSoon
  split
  · split
    · rfl
    · rfl
  · rfl

theorem State.busTurn_now (m : Master) : (s.busTurn m).now = s.now := by
  unfold State.busTurn
  extract_lets own s₁
  have hfold : ∀ (l : List Instr) (s : State), (l.foldl (State.turnSoon own) s).now = s.now := by
    intro l
    induction l with
    | nil => exact fun _ => rfl
    | cons c l ih => exact fun s => (ih _).trans (s.turnSoon_now own c)
  exact (hfold _ _).trans ((State.grantsBefore_keeps s own busFuel (Nat.and_self _) (.refl _ s)).same .now (by decide))

theorem State.busRead_now (m : Master) (adm : Bool) (p a : Nat) : (s.busRead m adm p a).2.1.now = s.now :=
  (State.busRead_keeps s m adm p a (Nat.and_self _) (.refl _ s)).same .now (by decide)

theorem State.busWrite_now (m : Master) (adm : Bool) (p a : Nat) (v : Word) : (s.busWrite m adm p a v).1.now = s.now :=
  (State.busWrite_keeps s m adm p a v (Nat.and_self _) (.refl _ s)).same .now (by decide)

theorem State.shiftedOut_now (r : Response) : (s.shiftedOut r).now = s.now :=
  (State.shiftedOut_keeps s r (Nat.and_self _) (.refl _ s)).same .now (by decide)

theorem State.mergeAll_now (n : Nat) : (s.mergeAll n).now = s.now :=
  (State.mergeAll_keeps s n (Nat.and_self _) (.refl _ s)).same .now (by decide)

theorem State.respond_now (r : Response) : (s.respond r).now = s.now :=
  (State.respond_keeps s r (Nat.and_self _) (.refl _ s)).same .now (by decide)

theorem State.frameRead_now (m : Master) (a : Nat) (late : Bool) : (s.frameRead m a late).1.now = s.now :=
  (State.busRead_now _ m false _ a).trans (s.busTurn_now m)

theorem State.frameWrite_now (m : Master) (a : Nat) (v : Word) (late : Bool) : (s.frameWrite m a v late).1.now = s.now :=
  (State.busWrite_now _ m false _ a v).trans (s.busTurn_now m)

theorem State.registerWrite_now (a : Nat) (v : Word) : (s.registerWrite a v).now = s.now := by
  unfold State.registerWrite
  split
  · exact (State.busWrite_now _ .host false _ a v).trans (s.busTurn_now .host)
  · rfl

theorem State.hostRead_now (a : Nat) (late : Bool) : (s.hostRead a late).now = s.now := by
  unfold State.hostRead
  split
  · rfl
  · extract_lets s₁ s₂ r
    exact (State.respond_now _ _).trans ((State.frameRead_now _ .host a late).trans ((State.mergeAll_now _ _).trans (s.shiftedOut_now _)))

theorem State.hostWrite_now (a : Nat) (v : Word) (late : Bool) : (s.hostWrite a v late).now = s.now := by
  unfold State.hostWrite
  split
  · rfl
  · extract_lets s₁ r
    have hr : r.1.now = s.now := (State.frameWrite_now _ .host a v late).trans (s.shiftedOut_now _)
    split
    · exact (State.respond_now _ _).trans hr
    · exact hr

theorem State.hostAccess_now (s : State) (c : Instr) (x : State) (h : s.hostAccess c = some x) : x.now = s.now := by
  unfold State.hostAccess at h
  split at h
  all_goals first
    | (obtain ⟨-, h⟩ := Option.ite_none_right_eq_some.1 h
       obtain rfl := Option.some.inj h)
    | exact absurd h (by simp)
  · exact s.hostRead_now _ _
  · exact s.hostWrite_now _ _ _
  · exact s.registerWrite_now _ _
  · exact s.hostRead_now _ _
  · exact s.hostRead_now _ _

theorem State.hostFirst_now : s.hostFirst.now = s.now := State.take_now State.hostAccess_now _ s

theorem State.debugAccess_now (op a crc : Nat) (v : Word) : (s.debugAccess op a crc v).now = s.now := by
  unfold State.debugAccess
  extract_lets s₁ s₂ r
  have h₁ : s₁.now = s.now := rfl
  have h₂ : s₂.now = s.now := (s₁.shiftedOut_now _).trans h₁
  have hr : r.1.now = s.now := by
    refine Eq.trans ?_ h₂
    unfold r State.debugFrame
    split
    · exact s₂.frameRead_now .debug a false
    · split
      · exact s₂.frameWrite_now .debug a v false
      · rfl
  split
  · exact h₁
  · split
    · exact h₂
    · split
      · exact hr
      · exact hr

theorem State.debugTurn_now (s : State) (c : Instr) (x : State) (h : s.debugTurn c = some x) : x.now = s.now := by
  unfold State.debugTurn at h
  split at h
  · obtain ⟨-, h⟩ := Option.ite_none_right_eq_some.1 h
    obtain rfl := Option.some.inj h
    exact s.debugAccess_now _ _ _ _
  · exact absurd h (by simp)

theorem State.memTurn_now (m : Master) : (s.memTurn m).now = s.now :=
  (State.busTurn_now _ m).trans ((State.take_now State.debugTurn_now _ _).trans s.hostFirst_now)

theorem State.proexAccess_now (s : State) (c : Instr) (x : State) (h : s.proexAccess c = some x) : x.now = s.now := by
  have hturn : (if s.receives then s.memTurn .proex else s).now = s.now := by
    split
    · exact s.memTurn_now .proex
    · rfl
  unfold State.proexAccess at h
  split at h
  · obtain ⟨-, h⟩ := Option.ite_none_right_eq_some.1 h
    obtain rfl := Option.some.inj h
    exact ((State.recordFrame_keeps _ _ _ (Nat.and_self _) (.refl _ _)).same .now (by decide)).trans hturn
  · obtain ⟨-, h⟩ := Option.ite_none_right_eq_some.1 h
    obtain rfl := Option.some.inj h
    exact ((State.blockFrame_keeps _ _ _ (Nat.and_self _) (.refl _ _)).same .now (by decide)).trans hturn
  · exact absurd h (by simp)

theorem State.proexFirst_now : s.proexFirst.now = s.now := State.take_now State.proexAccess_now _ s

end
end Sys2Proof.Machine
end

section
/-! PROOF. The pressure inputs and the rail-pressure loop: what they write. -/
namespace Sys2Proof.Machine

/-- The set points of the banks. -/
def contSets : Set Fld := {f | ∃ b < 12, f = Reg.BNK_CONT_SET b}

/-- The fields that the rail-pressure loop writes. -/
def railFlds : Set Fld := {f | f.addr = Reg.RP_STAT_addr} ∪ contSets

/-- The fields that the pressure inputs write. -/
def pinFlds : Set Fld := {f | ∃ p < 4, f.addr = Reg.SVC_PINSTAT_addr p} ∪ railFlds

theorem mem_railFlds {f : Fld} (h : f ∈ railFlds) : f.addr = 0x2D85 ∨ ∃ b < 12, f = Reg.BNK_CONT_SET b := h

theorem mem_pinFlds_addr {f : Fld} (h : f ∈ pinFlds) : f.addr < 0x2E4C := by
  rcases h with ⟨p, hp, h⟩ | h | ⟨b, hb, rfl⟩
  · rw [h]; simp only [Reg.SVC_PINSTAT_addr]; omega
  · rw [show f.addr = _ from h]; decide
  · simp only []; omega

section
variable {F : Set Fld} {s₀ s : State}

/-- A loop over numbers below `n` writes what its steps write. -/
theorem Writes.foldl_range {f : State → Nat → State} {n : Nat} (hf : ∀ s, ∀ k < n, Writes F s₀ s → Writes F s₀ (f s k))
    (h : Writes F s₀ s) : Writes F s₀ ((List.range n).foldl f s) := Writes.foldl (fun s k hk => hf s k (List.mem_range.1 hk)) h

theorem Writes.setI {f : Fld} (h : Writes F s₀ s) (hf : f ∈ F) (v : Int) : Writes F s₀ (s.setI f v) := h.set hf _

variable (s)

theorem State.railSet_writes (u : Rat) : Writes contSets s (s.railSet u) := by
  unfold State.railSet
  refine Writes.foldl_range (fun s' b hb h => ?_) (.refl _ s)
  split
  · exact fun g hg => (State.contRetune_get _ ⟨b, hb⟩ g).trans ((h.set ⟨b, hb, rfl⟩ _) g hg)
  · exact h

theorem State.railEvent_writes (code : Nat) : Writes railFlds s (s.railEvent code) :=
  ((Writes.refl _ s).inc (.inl rfl)).report _ _ _ _ _

theorem State.railOut_writes (u : Rat) : Writes railFlds s (s.railOut u) :=
  ((Writes.refl _ s).set (.inl rfl) _).trans ((State.railSet_writes _ u).mono Set.subset_union_right)

theorem State.railForm_writes : Writes railFlds s s.railForm := by
  unfold State.railForm
  split
  · exact .of_regs (.refl _ s) rfl
  · extract_lets a b apart k k' s₁ s₂ s₃
    split
    · have h₂ : Writes railFlds s s₂ := Writes.set (.of_regs (.refl _ s) rfl) (.inl rfl) _
      have h₃ : Writes railFlds s s₃ := by
        unfold s₃
        split
        · exact h₂
        · exact (h₂.set (.inl rfl) _).trans ((State.railEvent_writes _ 2).cause 17 0)
      exact h₃.trans (State.railOut_writes _ _)
    · extract_lets high k'' s₄
      exact (((Writes.of_regs (.refl _ s) (by rfl)).set (.inl rfl) _).flag (.inl rfl) _).set (.inl rfl) _

theorem State.railEval_writes : Writes railFlds s s.railEval := (State.railForm_writes s).of_regs rfl

theorem State.pinForm_writes {p : Nat} (hp : p < 4) : Writes pinFlds s (s.pinForm p) := by
  unfold State.pinForm
  extract_lets src v
  split
  · exact .refl _ s
  · exact (Writes.refl _ s).setI (.inl ⟨p, hp, rfl⟩) _

theorem State.pinCheck_writes {p : Nat} (hp : p < 4) : Writes pinFlds s (s.pinCheck p) :=
  (Writes.refl _ s).flag (.inl ⟨p, hp, rfl⟩) _

theorem State.pinDeliver_writes (src : Nat) (good : Bool) : Writes pinFlds s (s.pinDeliver src good) := by
  unfold State.pinDeliver
  split
  · exact .refl _ s
  · refine (Writes.foldl_range (fun s' p hp h => ?_) (.refl _ s)).trans ((State.railEval_writes _).mono Set.subset_union_right)
    split
    · exact ((h.of_regs (by rfl)).trans (State.pinForm_writes _ hp)).trans (State.pinCheck_writes _ hp)
    · exact h

end
/-! ### The datagrams of the Ethernet ports (O46) -/

/-- Not every instant is so long ago when one is more recent. -/
theorem not_all_of_any {o : Option Word} {t : Word} {n : Nat} (h : o.any (fun a => decide (elapsed a t < n)) = true) :
    ¬ o.all (fun a => decide (n ≤ elapsed a t)) = true := by
  cases o with
  | none => exact absurd h (by simp)
  | some a => exact fun h' => absurd (of_decide_eq_true h) (Nat.not_lt.2 (of_decide_eq_true h'))

theorem State.nextStream_lt {s : State} {p n : Nat} (h : s.nextStream p = some n) : n < 8 := by
  unfold State.nextStream at h
  rw [Option.map_eq_some_iff] at h
  obtain ⟨x, hx, rfl⟩ := h
  have hall : ∀ k ∈ List.range 8, k < 8 := fun k hk => List.mem_range.1 hk
  have hnone : ∀ y, (none : Option (Nat × Word)) = some y → y.1 < 8 := fun y hy => absurd hy (by simp)
  generalize List.range 8 = l at hx hall
  generalize (none : Option (Nat × Word)) = w at hx hnone
  induction l generalizing w with
  | nil => exact hnone x hx
  | cons k l ih =>
    rw [List.foldl_cons] at hx
    refine ih (fun k hk => hall k (List.mem_cons_of_mem _ hk)) _ hx fun y hy => ?_
    have hk := hall k List.mem_cons_self
    split at hy
    · exact hnone y hy
    · split at hy
      · exact hnone y hy
      · obtain rfl := Option.some.inj hy
        exact hk
      · split at hy
        · obtain rfl := Option.some.inj hy
          exact hk
        · exact hnone y hy

section
variable {s : State} {p n : Nat}

theorem State.get_setPort (k : EthPort) (f : Fld) : (s.setPort p k).get f = s.get f := rfl
theorem State.get_setStr (x : Stream) (f : Fld) : (s.setStr n x).get f = s.get f := rfl
theorem State.port_set (f : Fld) (v : Nat) : (s.set f v).port p = s.port p := rfl
theorem State.port_setStr (x : Stream) : (s.setStr n x).port p = s.port p := rfl
theorem State.str_set (f : Fld) (v : Nat) : (s.set f v).str n = s.str n := rfl
theorem State.str_inc (f : Fld) : (s.inc f).str n = s.str n := rfl
theorem State.ports_inc (f : Fld) : (s.inc f).ports = s.ports := rfl

/-- A port that finds no datagram does nothing. -/
theorem State.startDatagram_none (h : s.nextStream p = none) : s.startDatagram p = s := by
  unfold State.startDatagram
  rw [h]

/-- What a datagram's read of TRACE leaves: a counter of free values alone moves. -/
theorem State.traceRead_shows : s.traceRead.regs = s.regs ∧ s.traceRead.ports = s.ports ∧ s.traceRead.now = s.now := by
  unfold State.traceRead
  split
  · exact ⟨rfl, rfl, rfl⟩
  · exact ⟨rfl, rfl, rfl⟩

theorem State.traceRead_ethFrame (payload : List Nat) : s.traceRead.ethFrame p n payload = s.ethFrame p n payload := by
  unfold State.traceRead
  split
  · rfl
  · rfl

/-- A datagram that starts while the link is up. -/
theorem State.startDatagram_sends (hp : p < 2) (hn : s.nextStream p = some n) (hl : s.is (Reg.ETH_STAT_LINK p) = true) :
    let d := s.takeDatagram n
    let s' := s.startDatagram p
    (s'.port p).start = some s.now ∧ (s'.port p).frame = s.ethFrame p n d.1 ∧ (s'.port p).ident = ((s.port p).ident + 1) % 65536
      ∧ s'.str n = d.2 ∧ s'.get (Reg.STR_STAT_DSEQ n) = (s.get (Reg.STR_STAT_DSEQ n) + 1) % 2 ^ 32
      ∧ s'.get (Reg.ETH_STAT_TXD p) = (s.get (Reg.ETH_STAT_TXD p) + 1) % 2 ^ 32 := by
  intro d s'
  obtain ⟨hregs, -, hnow⟩ := s.traceRead_shows
  have hget : ∀ f, s.traceRead.get f = s.get f := fun f => State.get_congr (congrArg (Cells.get regReset · f.addr) hregs)
  have hx : s' = (((s.traceRead.setPort p { s.port p with
      start := some s.traceRead.now, frame := s.traceRead.ethFrame p n d.1, ident := ((s.port p).ident + 1) % 65536 }).setStr n d.2).incMod
        (Reg.STR_STAT_DSEQ n)).incMod (Reg.ETH_STAT_TXD p) := by
    unfold s' State.startDatagram
    rw [hn]
    exact if_pos ((State.is_congr (hget _)).trans hl)
  have hn8 := State.nextStream_lt hn
  rw [State.traceRead_ethFrame, hnow] at hx
  rw [hx, State.incMod, State.incMod]
  have hport : ∀ k : EthPort, ((s.traceRead.setPort p k).setStr n d.2).port p = k := fun k =>
    State.port_setStr d.2 |>.trans (vget_vset_same _ _ hp)
  refine ⟨?_, ?_, ?_, ?_, ?_, ?_⟩
  · rw [State.port_set, State.port_set, hport]
  · rw [State.port_set, State.port_set, hport]
  · rw [State.port_set, State.port_set, hport]
  · rw [State.str_set, State.str_set, State.str_setStr _ _ hn8]
  · rw [State.get_set_ne _ _ _ _ (.inl (by simp only []; omega)), State.get_set _ _ _ (by simp), State.get_setStr, State.get_setPort, hget]
  · rw [State.get_set _ _ _ (by simp), State.get_set_ne _ _ _ _ (.inl (by simp only []; omega)), State.get_setStr, State.get_setPort, hget]

/-- A datagram that starts while the link is down is dropped. -/
theorem State.startDatagram_drops (hn : s.nextStream p = some n) (hl : s.is (Reg.ETH_STAT_LINK p) = false) :
    let s' := s.startDatagram p
    s'.str n = (s.takeDatagram n).2 ∧ s'.ports = s.ports
      ∧ s'.get (Reg.STR_STAT_DROPS n) = min (s.get (Reg.STR_STAT_DROPS n) + 1) (Reg.STR_STAT_DROPS n).max := by
  intro s'
  obtain ⟨hregs, hports, -⟩ := s.traceRead_shows
  have hget : ∀ f, s.traceRead.get f = s.get f := fun f => State.get_congr (congrArg (Cells.get regReset · f.addr) hregs)
  have hx : s' = (s.traceRead.setStr n (s.takeDatagram n).2).inc (Reg.STR_STAT_DROPS n) := by
    unfold s' State.startDatagram
    rw [hn]
    exact if_neg (by rw [State.is_congr (hget _), hl]; decide)
  rw [hx]
  refine ⟨?_, ?_, ?_⟩
  · rw [State.str_inc, State.str_setStr _ _ (State.nextStream_lt hn)]
  · rw [State.ports_inc]
    exact hports
  · rw [State.get_inc _ _ (by simp), State.get_setStr, hget]

end

theorem exec_datagramStart {t : Word} {p : Fin 2} {s : State} (he : s.early (.datagramStart t p) = false) :
    exec (.datagramStart t p) s = .next ((s.at t).datagram p) :=
  congrArg _ (if_neg (by rw [show (s.at t).early (.datagramStart t p) = _ from he]; decide))

theorem State.datagram_paced {s : State} {p : Nat} (h : s.paced p = true) : s.datagram p =
    if (s.proexFirst.memTurn .ethernet).paced p then (s.proexFirst.memTurn .ethernet).startDatagram p else s.proexFirst.memTurn .ethernet := by
  unfold State.datagram
  rw [if_pos h]

/-! ### SENT frames -/

/-- An accepted frame with the data nibbles `data` and the status nibble `st`. -/
def State.sentGood (s : State) (t fall : Word) (n nib : Nat) (data : List Nat) (st : Nat) : State :=
  let ord := if s.is (Reg.SENT_CFG_FC2_REV n) then (data.drop 3).reverse else data.drop 3
  let open2 := s.free
  let s := if nib = 6 then s else open2.2
  let fc2 := if nib = 6 then ord.getD 0 0 * 256 + ord.getD 1 0 * 16 + ord.getD 2 0 else open2.1.toNat
  let s := ((s.set (Reg.SENT_DATA_FC1 n) (data.getD 0 0 * 256 + data.getD 1 0 * 16 + data.getD 2 0)).set (Reg.SENT_DATA_FC2 n) fc2).set
    (Reg.SENT_DATA_STATUS n) st
  let s := ((s.set (Reg.SENT_DATA_STALE n) 0).setReg (Reg.SENT_TIME_addr n) fall).inc (Reg.SENT_CNT_FRAMES n)
  let s := { s with sents := vset s.sents n { vget s.sents n with heard := some t } }
  (s.slowStep n st).pinDeliver n true

/-- The fields of a channel's slow register. -/
def slowReg (n : Nat) : Set Fld := {f | f.addr = Reg.SENT_SLOW_addr n}

theorem State.slowStep_writes (s : State) (n st : Nat) : Writes (slowReg n) s (s.slowStep n st) := by
  have hacc : ∀ (s : State) (kind id data : Nat), Writes (slowReg n) s (s.slowAccept n kind id data) := fun s kind id data =>
    ((((Writes.refl _ s).set (by rfl) _).set (by rfl) _).set (by rfl) _).set (by rfl) _
  have hinc : ∀ l, Writes (slowReg n) s ((s.setSlow n l).inc (Reg.SENT_SLOW_SCRCERR n)) := fun l =>
    Writes.inc (.of_regs (.refl _ s) rfl) (by rfl)
  unfold State.slowStep
  extract_lets k l top enh l16 short
  split
  · split
    · exact (Writes.of_regs (.refl _ s) rfl).trans (hacc _ _ _ _)
    · exact hinc _
  · split
    · split
      · exact (Writes.of_regs (.refl _ s) rfl).trans (hacc _ _ _ _)
      · exact hinc _
    · exact .of_regs (.refl _ s) rfl

theorem State.sents_setSlow (s : State) {n : Nat} (hn : n < 8) (l : List Nat) :
    vget (s.setSlow n l).sents n = { vget s.sents n with slow := l } := vget_vset_same _ _ hn

theorem State.slowStep_sents (s : State) {n : Nat} (hn : n < 8) (st : Nat) :
    ∃ l, vget (s.slowStep n st).sents n = { vget s.sents n with slow := l } := by
  have hacc : ∀ (s : State) (kind id data : Nat), (s.slowAccept n kind id data).sents = s.sents := fun s kind id data =>
    (State.slowAccept_keeps s n kind id data (Nat.and_self _) (.refl _ s)).same .sents (by decide)
  have hinc : ∀ (s : State) (f : Fld), (s.inc f).sents = s.sents := fun _ _ => rfl
  unfold State.slowStep
  extract_lets k l top enh l16 short
  split
  · split
    · exact ⟨[], by rw [hacc, s.sents_setSlow hn]⟩
    · exact ⟨[], by rw [hinc, s.sents_setSlow hn]⟩
  · split
    · split
      · exact ⟨[], by rw [hacc, s.sents_setSlow hn]⟩
      · exact ⟨[], by rw [hinc, s.sents_setSlow hn]⟩
    · exact ⟨l, s.sents_setSlow hn l⟩

theorem State.sents_set (s : State) (f : Fld) (v : Nat) : (s.set f v).sents = s.sents := rfl
theorem State.sents_setReg (s : State) (a : Nat) (w : Word) : (s.setReg a w).sents = s.sents := rfl
theorem State.sents_inc (s : State) (f : Fld) : (s.inc f).sents = s.sents := rfl
theorem State.regs_sents (s : State) (x : Vector Sent 8) : ({ s with sents := x } : State).regs = s.regs := rfl

section
variable (s : State) (t fall : Word) {n : Nat} (nib : Nat) (data : List Nat) (st : Nat)

/-- The registers of an accepted frame are written before the slow channel and the pressure inputs follow it. -/
theorem State.sentGood_shows (hn : n < 8) : let s' := s.sentGood t fall n nib data st
    s'.get (Reg.SENT_DATA_FC1 n) = (data.getD 0 0 * 256 + data.getD 1 0 * 16 + data.getD 2 0) % 4096
    ∧ (nib = 6 → let ord := if s.is (Reg.SENT_CFG_FC2_REV n) then (data.drop 3).reverse else data.drop 3
      s'.get (Reg.SENT_DATA_FC2 n) = (ord.getD 0 0 * 256 + ord.getD 1 0 * 16 + ord.getD 2 0) % 4096)
    ∧ s'.get (Reg.SENT_DATA_STATUS n) = st % 16 ∧ s'.get (Reg.SENT_DATA_STALE n) = 0 ∧ s'.reg (Reg.SENT_TIME_addr n) = fall
    ∧ s'.get (Reg.SENT_CNT_FRAMES n) = min (s.get (Reg.SENT_CNT_FRAMES n) + 1) (Reg.SENT_CNT_FRAMES n).max
    ∧ (vget s'.sents n).heard = some t ∧ (vget s'.sents n).sync = (vget s.sents n).sync := by
  unfold State.sentGood
  extract_lets ord open2 s₀ fc2 s₁ s₂ k s₃ s'
  have h₀ : s₀.regs = s.regs ∧ s₀.sents = s.sents := by
    unfold s₀
    split
    · exact ⟨rfl, rfl⟩
    · exact ⟨rfl, rfl⟩
  have h₂ : s₂.sents = s.sents := by
    rw [State.sents_inc, State.sents_setReg, State.sents_set, State.sents_set, State.sents_set, State.sents_set, h₀.2]
  have hregs : s₃.regs = s₂.regs := State.regs_sents s₂ _
  have h₃ : ∀ g : Fld, s₃.get g = s₂.get g := fun g => State.get_congr (congrArg (Cells.get regReset · g.addr) hregs)
  have hw : Writes (slowReg n ∪ pinFlds) s₃ s' := ((s₃.slowStep_writes n st).mono Set.subset_union_left).trans
    (((s₃.slowStep n st).pinDeliver_writes n true).mono Set.subset_union_right)
  have haddr : ∀ a, 0x3900 ≤ a → a < 0x3940 → ∀ f ∈ slowReg n ∪ pinFlds, f.addr ≠ a := fun a hlow hhigh f hf => by
    rcases hf with hf | hf
    · rw [show f.addr = Reg.SENT_SLOW_addr n from hf]; simp only [Reg.SENT_SLOW_addr]; omega
    · have := mem_pinFlds_addr hf; omega
  have hfar : ∀ g : Fld, 0x3900 ≤ g.addr → g.addr < 0x3940 → s'.get g = s₃.get g := fun g hlow hhigh =>
    hw g fun f hf => .inl (haddr _ hlow hhigh f hf)
  have hsents : vget s₃.sents n = { vget s.sents n with heard := some t } := by
    rw [← h₂]
    exact vget_vset_same s₂.sents _ hn
  have hslow : ∃ l, vget s'.sents n = { vget s₃.sents n with slow := l } := by
    obtain ⟨l, hl⟩ := s₃.slowStep_sents hn st
    exact ⟨l, (congrArg (vget · n) ((State.pinDeliver_keeps _ n true (Nat.and_self _) (.refl _ (s₃.slowStep n st))).same .sents (by decide))).trans hl⟩
  obtain ⟨l, hl⟩ := hslow
  have hcnt : s₁.get (Reg.SENT_CNT_FRAMES n) = s.get (Reg.SENT_CNT_FRAMES n) := by
    rw [State.get_set_ne _ _ _ _ (by simp), State.get_set_ne _ _ _ _ (by simp), State.get_set_ne _ _ _ _ (by simp)]
    exact State.get_congr (congrArg (Cells.get regReset · _) h₀.1)
  have hget : ∀ g : Fld, g.addr = Reg.SENT_DATA_addr n → (Reg.SENT_DATA_STALE n).misses g → s₂.get g = s₁.get g := fun g hg hm => by
    rw [State.get_inc_ne (.inl (by rw [hg]; simp)), State.get_congr (State.reg_setReg_ne _ _ (by rw [hg]; simp)), State.get_set_ne _ _ _ _ hm]
  have hto : ∀ g : Fld, 0x3900 ≤ g.addr → g.addr < 0x3940 → s'.get g = s₂.get g := fun g hlow hhigh => (hfar g hlow hhigh).trans (h₃ g)
  have htime : s'.reg (Reg.SENT_TIME_addr n) = s₂.reg (Reg.SENT_TIME_addr n) :=
    (hw.reg (haddr _ (by simp only [Reg.SENT_TIME_addr]; omega) (by simp only [Reg.SENT_TIME_addr]; omega))).trans
      (congrArg (Cells.get regReset · _) hregs)
  have hlast : (vget s'.sents n).heard = some t ∧ (vget s'.sents n).sync = (vget s.sents n).sync := by
    rw [hl, hsents]
    exact ⟨rfl, rfl⟩
  clear_value s' s₃ k
  refine ⟨?_, fun h6 => ?_, ?_, ?_, ?_, ?_, hlast⟩
  · rw [hto _ (by simp only []; omega) (by simp only []; omega), hget _ rfl (by simp [Fld.misses]), State.get_set_ne _ _ _ _ (by simp),
      State.get_set_ne _ _ _ _ (by simp)]
    exact State.get_set _ _ _ (by simp)
  · rw [hto _ (by simp only []; omega) (by simp only []; omega), hget _ rfl (by simp [Fld.misses]), State.get_set_ne _ _ _ _ (by simp),
      show fc2 = _ from if_pos h6]
    exact State.get_set _ _ _ (by simp)
  · rw [hto _ (by simp only []; omega) (by simp only []; omega), hget _ rfl (by simp [Fld.misses])]
    exact State.get_set _ _ _ (by simp)
  · rw [hto _ (by simp only []; omega) (by simp only []; omega), State.get_inc_ne (by simp [Fld.misses]),
      State.get_congr (State.reg_setReg_ne _ _ (by simp)), State.get_set_of_lt _ _ (by simp) (by simp)]
  · have hreg : ((s₁.set (Reg.SENT_DATA_STALE n) 0).setReg (Reg.SENT_TIME_addr n) fall).reg (Reg.SENT_TIME_addr n) = fall := State.reg_setReg _ _ _
    exact htime.trans ((State.reg_inc_ne _ _ (by simp)).trans hreg)
  · rw [hto _ (by simp only []; omega) (by simp only []; omega), State.get_inc _ _ (by simp), State.get_congr (State.reg_setReg_ne _ _ (by simp)),
      State.get_set_ne _ _ _ _ (by simp), hcnt]

end

/-- The conditions under which a frame of channel `n` is in its timing (R538, R539). -/
def State.sentTimed (s : State) (n sync : Nat) (pulses : List Nat) : Prop :=
  let nominal := 56 * 400 * s.get (Reg.SENT_CFG_TICK n)
  (4 * nominal ≤ 5 * sync ∧ 5 * sync ≤ 6 * nominal) ∧ (∀ p, (vget s.sents n).sync = some p → 64 * (sync - p + (p - sync)) < p)
    ∧ pulses.length = s.get (Reg.SENT_CFG_NIB n) + 2 + s.get (Reg.SENT_CFG_PAUSE n)
    ∧ ∀ v ∈ (pulses.take (s.get (Reg.SENT_CFG_NIB n) + 2)).map (nibbleOf sync), v.isSome = true

/-- The nibbles of a frame. -/
def State.sentNibbles (s : State) (n sync : Nat) (pulses : List Nat) : List Nat :=
  ((pulses.take (s.get (Reg.SENT_CFG_NIB n) + 2)).map (nibbleOf sync)).filterMap id

/-- The data nibbles of a frame. -/
def State.sentData (s : State) (n sync : Nat) (pulses : List Nat) : List Nat :=
  ((s.sentNibbles n sync pulses).drop 1).take (s.get (Reg.SENT_CFG_NIB n))

/-- The CRC of a frame is right. -/
def State.sentCrcOk (s : State) (n sync : Nat) (pulses : List Nat) : Prop :=
  sentCrc 4 0xD 5 (!s.is (Reg.SENT_CFG_CRC_MODE n)) (s.sentData n sync pulses)
    = (s.sentNibbles n sync pulses).getD (s.get (Reg.SENT_CFG_NIB n) + 1) 0

/-- The channel notes the sync pulse. -/
def State.sentSynced (s : State) (n sync : Nat) : State :=
  { s with sents := vset s.sents n { vget s.sents n with sync := some sync } }

section
variable {t fall : Word} {n : Fin 8} {sync : Nat} {pulses : List Nat} {s : State}

theorem exec_sentFrame (he : s.is (Reg.SENT_CFG_EN n) = true) :
    (¬ s.sentTimed n sync pulses → exec (.sentFrame t n fall sync pulses) s = .next (((s.at t).sentSynced n sync).sentFail n (Reg.SENT_CNT_TIMERR n)))
    ∧ (s.sentTimed n sync pulses → ¬ s.sentCrcOk n sync pulses →
      exec (.sentFrame t n fall sync pulses) s = .next (((s.at t).sentSynced n sync).sentFail n (Reg.SENT_CNT_CRCERR n)))
    ∧ (s.sentTimed n sync pulses → s.sentCrcOk n sync pulses →
      exec (.sentFrame t n fall sync pulses) s = .next (((s.at t).sentSynced n sync).sentGood t fall n (s.get (Reg.SENT_CFG_NIB n))
        (s.sentData n sync pulses) ((s.sentNibbles n sync pulses).getD 0 0))) := by
  have hbad : (¬ (4 * (56 * 400 * s.get (Reg.SENT_CFG_TICK n)) ≤ 5 * sync ∧ 5 * sync ≤ 6 * (56 * 400 * s.get (Reg.SENT_CFG_TICK n)))
      ∨ (vget s.sents n).sync.all (fun p => decide (64 * (sync - p + (p - sync)) < p)) = false
      ∨ pulses.length ≠ s.get (Reg.SENT_CFG_NIB n) + 2 + s.get (Reg.SENT_CFG_PAUSE n)
      ∨ ((pulses.take (s.get (Reg.SENT_CFG_NIB n) + 2)).map (nibbleOf sync)).any Option.isNone = true) ↔ ¬ s.sentTimed n sync pulses := by
    unfold State.sentTimed
    have hcal : (vget s.sents n).sync.all (fun p => decide (64 * (sync - p + (p - sync)) < p)) = false
        ↔ ¬ ∀ p, (vget s.sents n).sync = some p → 64 * (sync - p + (p - sync)) < p := by
      cases (vget s.sents n).sync with
      | none => simp
      | some p => simp
    have hnib : ∀ l : List (Option Nat), l.any Option.isNone = true ↔ ¬ ∀ v ∈ l, v.isSome = true := fun l => by simp
    rw [hcal, hnib]
    tauto
  have hcrc : sentCrc 4 0xD 5 (!s.is (Reg.SENT_CFG_CRC_MODE n)) (s.sentData n sync pulses)
      ≠ (s.sentNibbles n sync pulses).getD (s.get (Reg.SENT_CFG_NIB n) + 1) 0 ↔ ¬ s.sentCrcOk n sync pulses := Iff.rfl
  refine ⟨fun h => ?_, fun h h' => ?_, fun h h' => ?_⟩
  · exact congrArg Host.Outcome.next ((if_neg (not_not_intro he)).trans (if_pos (hbad.2 h)))
  · exact congrArg Host.Outcome.next ((if_neg (not_not_intro he)).trans ((if_neg fun hb => hbad.1 hb h).trans (if_pos (hcrc.2 h'))))
  · exact congrArg Host.Outcome.next ((if_neg (not_not_intro he)).trans ((if_neg fun hb => hbad.1 hb h).trans (if_neg (not_not_intro h'))))

end

/-- A stream whose collecting datagram is ready. -/
theorem Stream.settle_ready (x : Stream) (d : Datagram) (hd : d.ready.isSome = true) : ({ x with coll := some d } : Stream).settle
    = if x.wait = none then { x with wait := some d, coll := none } else { x with coll := some d } := by
  unfold Stream.settle
  cases hw : x.wait with
  | none => exact (if_pos hd).trans (if_pos rfl).symm
  | some _ => rfl

/-- A reading that is 8 nibbles long for a channel of 6 data nibbles has its data where the fast channels take them. -/
theorem State.sentData_rest {s : State} {n sync : Nat} {pulses : List Nat} (ht : s.sentTimed n sync pulses) (h6 : s.get (Reg.SENT_CFG_NIB n) = 6) :
    (s.sentData n sync pulses).length = 6 := by
  obtain ⟨-, -, hlen, hsome⟩ := ht
  have hall : ∀ l : List (Option Nat), (∀ v ∈ l, v.isSome = true) → (l.filterMap id).length = l.length := fun l hl => by
    induction l with
    | nil => rfl
    | cons v l ih =>
      obtain ⟨a, rfl⟩ := Option.isSome_iff_exists.1 (hl v List.mem_cons_self)
      rw [List.filterMap_cons_some (f := id) rfl, List.length_cons, List.length_cons, ih fun v hv => hl v (List.mem_cons_of_mem _ hv)]
  rw [State.sentData, State.sentNibbles, List.length_take, List.length_drop, hall _ hsome, List.length_map, List.length_take, hlen, h6]
  omega

theorem getD_drop_reverse {l : List Nat} (h : l.length = 6) (k : Nat) (hk : k < 3) : (l.drop 3).reverse.getD k 0 = l.getD (5 - k) 0 := by
  rw [List.getD_eq_getElem?_getD, List.getD_eq_getElem?_getD, List.getElem?_reverse (by rw [List.length_drop]; omega), List.getElem?_drop,
    List.length_drop, h]
  congr 2
  omega

theorem State.port_report (s : State) (src idx code arg : Nat) (time : Option Word) (p : Nat) : (s.report src idx code arg time).port p = s.port p := rfl
theorem State.is_setPort (s : State) (p : Nat) (k : EthPort) (f : Fld) : (s.setPort p k).is f = s.is f := rfl
theorem State.reports_setPort (s : State) (p : Nat) (k : EthPort) : (s.setPort p k).reports = s.reports := rfl

/-- What a poll that finds `up` does to a port. -/
def State.polled (s : State) (t : Word) (p : Nat) (k : EthPort) (up : Bool) : State :=
  let s := s.setPort p { k with poll := some t }
  if s.is (Reg.ETH_STAT_LINK p) = up then s
  else (s.flag (Reg.ETH_STAT_LINK p) up).report 0x11 p 3 (if up then 2 ^ 39 else 0) (some t)

theorem State.polled_shows (s : State) (t : Word) {p : Nat} (hp : p < 2) (k : EthPort) (up : Bool) :
    (s.polled t p k up).is (Reg.ETH_STAT_LINK p) = up ∧ ((s.polled t p k up).port p).poll = some t
    ∧ (s.polled t p k up).reports = if s.is (Reg.ETH_STAT_LINK p) = up then s.reports
        else s.reports ++ [⟨0x11, p, 3, if up then 2 ^ 39 else 0, some t⟩] := by
  have hpoll : ((s.setPort p { k with poll := some t }).port p).poll = some t := by rw [State.port_setPort _ _ hp]
  unfold State.polled
  extract_lets s₁
  have hreps : s₁.reports = s.reports := State.reports_setPort s p _
  have his : s₁.is (Reg.ETH_STAT_LINK p) = s.is (Reg.ETH_STAT_LINK p) := State.is_setPort s p _ _
  rw [his]
  by_cases h : s.is (Reg.ETH_STAT_LINK p) = up
  · rw [if_pos h, if_pos h]
    exact ⟨his.trans h, hpoll, hreps⟩
  · rw [if_neg h, if_neg h]
    refine ⟨?_, ?_, congrArg (· ++ _) hreps⟩
    · rw [State.is_eq, State.get_report, ← State.is_eq, State.is_flag _ _ (by simp) (by simp)]
    · rw [State.port_report, State.flag, State.port_set, hpoll]

theorem State.flushed_regs (s : State) (n : Nat) (x : Stream) : (s.setStr n x).regs = s.regs := rfl

/-- Settles O46. -/
theorem linkStreams : Obligations.LinkStreams := by
  unfold Obligations.LinkStreams
  refine ⟨fun t p s => ?_, fun t n fall sync pulses s => ?_⟩
  · extract_lets k u
    have hfree : s.pending = [] → s.busRequests = [] → u = s.at t := fun hp hb => by
      have hprx : (s.at t).proexFirst = s.at t := by
        unfold State.proexFirst
        rw [show (s.at t).pending = [] from hp, List.foldl_nil]
      unfold u
      rw [hprx]
      exact State.memTurn_free (s := s.at t) hp hb .ethernet
    refine ⟨fun up hon hpoll => ?_, fun up h => ?_, hfree, fun he => ⟨fun n hon hpace hup hnext => ?_, fun h => ?_, fun hon hpace hnext => ?_⟩,
      fun n d hd => ⟨fun hr hflush => ?_, fun h => ?_⟩, fun n hd => ?_, fun hon hhear => ?_, fun h => ?_⟩
    · have hpoll' : (s.at t).ethOn p = true ∧ ((s.at t).port p).poll.all (fun a => decide (10 * ms ≤ elapsed a t)) = true := ⟨hon, hpoll⟩
      extract_lets seen
      have hs : ∀ s₁ : State, s₁.regs = (s.at t).regs → s₁.reports = s.reports → ∀ b, b = seen →
          (s₁.polled t p ((s.at t).port p) b).is (Reg.ETH_STAT_LINK p) = seen ∧ ((s₁.polled t p ((s.at t).port p) b).port p).poll = some t
          ∧ (s₁.polled t p ((s.at t).port p) b).reports = if s.is (Reg.ETH_STAT_LINK p) = seen then s.reports
              else s.reports ++ [⟨0x11, p, 3, if seen then 2 ^ 39 else 0, some t⟩] := fun s₁ hregs hreps b hb => by
        have his : s₁.is (Reg.ETH_STAT_LINK p) = s.is (Reg.ETH_STAT_LINK p) := State.is_congr (State.get_congr (congrArg (Cells.get regReset · (Reg.ETH_STAT_LINK p).addr) hregs))
        rw [hb, ← his, ← hreps]
        exact s₁.polled_shows t p.isLt _ seen
      refine ⟨_, congrArg Host.Outcome.next (if_pos hpoll'), hs _ ?_ ?_ _ ?_⟩
      · split
        · rfl
        · rfl
      · split
        · rfl
        · rfl
      · rfl
    · refine congrArg Host.Outcome.next (if_neg fun h' => ?_)
      rcases h with h | h
      · exact absurd (h.symm.trans h'.1) (by decide)
      · exact absurd h'.2 (not_all_of_any h)
    · have hx : exec (.datagramStart t p) s = .next (u.startDatagram p) := by
        refine (exec_datagramStart he).trans (congrArg Host.Outcome.next ?_)
        rw [State.datagram_paced (by rw [State.paced, Bool.and_eq_true]; exact ⟨hon, hpace⟩), if_pos hup]
      extract_lets d
      exact ⟨fun hl => ⟨_, hx, by
          obtain ⟨h1, h2, h3, h4, h5, h6⟩ := State.startDatagram_sends p.isLt hnext hl
          have hnow : u.now = t := (State.memTurn_now _ .ethernet).trans (State.proexFirst_now _)
          rw [hnow] at h1
          exact ⟨h1, h2, h3, h4, h5, h6⟩⟩, fun hl => ⟨_, hx, State.startDatagram_drops hnext hl⟩⟩
    · refine (exec_datagramStart he).trans (congrArg Host.Outcome.next ?_)
      have hno : ¬ (s.at t).paced p = true := fun h' => by
        rw [State.paced, Bool.and_eq_true] at h'
        rcases h with h | h
        · exact absurd (h.symm.trans h'.1) (by decide)
        · exact absurd h'.2 (not_all_of_any h)
      unfold State.datagram
      rw [if_neg hno, if_neg hno]
    · refine ⟨_, exec_datagramStart he, ?_⟩
      rw [State.datagram_paced (by rw [State.paced, Bool.and_eq_true]; exact ⟨hon, hpace⟩)]
      split
      · exact State.startDatagram_none hnext
      · rfl
    · have hx : exec (.streamFlush t n) s = .next ((s.at t).setStr n (({ s.str n with coll := some { d with ready := some t } } : Stream).settle)) := by
        have hd' : ((s.at t).str n).coll = some d := hd
        show Host.Outcome.next _ = _
        refine congrArg Host.Outcome.next ?_
        show (match ((s.at t).str n).coll with | none => _ | some d => _) = _
        rw [hd']
        exact if_pos ⟨by rw [hr]; rfl, hflush⟩
      refine ⟨_, hx, ?_, State.flushed_regs _ _ _⟩
      rw [State.str_setStr _ _ n.isLt, Stream.settle_ready _ _ rfl]
      split
      · exact ⟨rfl, rfl⟩
      · exact ⟨rfl, rfl⟩
    · have hd' : ((s.at t).str n).coll = some d := hd
      refine congrArg Host.Outcome.next ?_
      show (match ((s.at t).str n).coll with | none => _ | some d => _) = _
      rw [hd']
      refine if_neg fun h' => ?_
      rcases h with h | h
      · exact h (Option.isNone_iff_eq_none.1 h'.1)
      · exact absurd h'.2 (Nat.not_le_of_lt h)
    · have hd' : ((s.at t).str n).coll = none := hd
      refine congrArg Host.Outcome.next ?_
      show (match ((s.at t).str n).coll with | none => _ | some d => _) = _
      rw [hd']
    · refine ⟨_, congrArg Host.Outcome.next (if_pos (by rw [Bool.and_eq_true]; exact ⟨hon, hhear⟩)), State.get_inc _ _ (by simp), fun a ha => ?_⟩
      exact State.reg_inc_ne _ _ ha
    · refine congrArg Host.Outcome.next (if_neg fun h' => ?_)
      rw [Bool.and_eq_true] at h'
      exact h.elim (fun h => absurd (h.symm.trans h'.1) (by decide)) fun h => absurd (h.symm.trans h'.2) (by decide)
  · extract_lets k nib nominal vals vs data timed crcOk fails
    have hfails : ∀ f : Fld, f.lo + f.wid ≤ 48 → fails f (((s.at t).sentSynced n sync).sentFail n f) := fun f hf => by
      refine ⟨State.get_inc _ _ hf, ?_, fun a ha => State.reg_inc_ne _ _ ha⟩
      rw [State.sentFail, State.sents_inc, State.sents_setSlow _ n.isLt, State.sentSynced]
      rw [vget_vset_same _ _ n.isLt]
      rfl
    refine ⟨fun he => ⟨fun h => ?_, fun h h' => ?_, fun h h' => ?_⟩, fun he => ?_, fun h => ?_, fun he hst hheard => ?_⟩
    · exact ⟨_, (exec_sentFrame he).1 h, hfails _ (by simp)⟩
    · exact ⟨_, (exec_sentFrame he).2.1 h h', hfails _ (by simp)⟩
    · have hx := (exec_sentFrame (t := t) (fall := fall) he).2.2 h h'
      obtain ⟨hfc1, hfc2, hstatus, hstale, htime, hframes, hheard, hsync⟩ := State.sentGood_shows ((s.at t).sentSynced n sync) t fall nib data
        (vs.getD 0 0) n.isLt
      have hsame : ((s.at t).sentSynced n sync).is (Reg.SENT_CFG_FC2_REV n) = s.is (Reg.SENT_CFG_FC2_REV n) := rfl
      rw [hsame] at hfc2
      refine ⟨_, hx, hfc1, fun h6 hrev => (hfc2 h6).trans ?_, fun h6 hrev => (hfc2 h6).trans ?_, hstatus, hstale, htime, hframes, hheard, hsync.trans ?_⟩
      · rw [if_neg (fun hr => absurd (hrev.symm.trans hr) (by decide))]
        simp only [List.getD_eq_getElem?_getD, List.getElem?_drop]
      · rw [if_pos hrev]
        have hlen : data.length = 6 := State.sentData_rest h h6
        rw [getD_drop_reverse hlen 0 (by decide), getD_drop_reverse hlen 1 (by decide), getD_drop_reverse hlen 2 (by decide)]
      · rw [State.sentSynced, vget_vset_same _ _ n.isLt]
    · exact congrArg Host.Outcome.next (if_pos fun h => absurd (he.symm.trans h) (by decide))
    · refine congrArg Host.Outcome.next (if_neg fun h' => ?_)
      obtain ⟨hen, hst, hall⟩ := h'
      rcases h with h | h | h
      · exact absurd (h.symm.trans hen) (by decide)
      · exact hst h
      · exact absurd hall (not_all_of_any h)
    · have hall : (vget s.sents n).heard.all (fun a => decide (5 * ms ≤ elapsed a t)) = true :=
        (Option.all_eq_true_iff_get _ _).2 fun h => decide_eq_true (hheard _ (Option.eq_some_of_isSome h))
      refine ⟨_, congrArg Host.Outcome.next (if_pos ⟨he, fun h => absurd (hst.symm.trans h) (by decide), hall⟩), ?_, rfl⟩
      rw [State.get_report, State.get_set_of_lt _ _ (by simp) (by simp)]

end Sys2Proof.Machine
end

section
/-! PROOF. The coil model (O24). -/
namespace Sys2Proof.Machine

/-- The fields other than VALID and LEVEL of channel `c` of bank `b`. -/
def notHeat (b c : Nat) : Set Fld := {f | f.misses (Reg.BNK_THM_VALID b c) ∧ f.misses (Reg.BNK_THM_LEVEL b c)}

theorem mem_notHeat_of_addr {b c : Nat} {f : Fld} (h : f.addr ≠ 0x1425 + 64 * b + c) : f ∈ notHeat b c := ⟨.inl h, .inl h⟩

theorem closure_notHeat (b c d : Nat) : Reg.BNK_CLRES_FLAG b d ∈ notHeat b c ∧ Reg.BNK_CLRES_SEQ b d ∈ notHeat b c := by
  simp [notHeat, Fld.misses]

theorem Writes.ite {F : Set Fld} {s₀ x y : State} {p : Prop} [Decidable p] (hx : Writes F s₀ x) (hy : Writes F s₀ y) :
    Writes F s₀ (if p then x else y) := by
  split
  · exact hx
  · exact hy

theorem vget_beyond {α : Type} {n : Nat} [Inhabited α] (v : Vector α n) {i : Nat} (h : n ≤ i) : vget v i = default := by
  unfold vget
  rw [List.getD_eq_getElem?_getD, List.getElem?_eq_none (by rw [Vector.length_toList]; exact h), Option.getD_none]

/-- The fields that serving a Shuttle writes are its own or those of the window monitors. -/
theorem shtFlds_addr {n : Nat} {f : Fld} (h : f ∈ shtFlds n) : f.addr ≤ 0x100C + 16 * n ∨ 0x2443 ≤ f.addr := by
  rcases h with h | h
  · simp only [shtOwn, List.mem_cons, List.not_mem_nil, or_false] at h
    rcases h with rfl | rfl | rfl | rfl | rfl | rfl | rfl | rfl | rfl | rfl | rfl | rfl | rfl | rfl | rfl <;>
      simp only [wholeReg, Reg.SHT_NEXT_addr, Reg.SHT_LAST_addr] <;> omega
  · exact .inr h

/-- A Shuttle that holds a pulse is one of the 64. -/
theorem State.pulseIs_lt {s : State} {n i : Nat} {started : Bool} (h : (s.pulseIs n i started).isSome = true) : n < 64 := by
  by_contra hn
  unfold State.pulseIs State.sh at h
  rw [vget_beyond _ (Nat.not_lt.1 hn)] at h
  exact absurd h (by rw [show (default : Shuttle).pulse = none from rfl]; simp)

section
variable {b c : Nat} (hb : b < 12) (hc : c < 4) {s₀ s : State} (h : Writes (notHeat b c) s₀ s)
include h

theorem State.closeTail_notHeat (flag : Nat) : Writes (notHeat b c) s₀ (s.closeTail b flag) := by
  unfold State.closeTail State.closureResult
  split
  · exact h
  · next tl _ => exact ((h.set (closure_notHeat b c tl.ch).1 flag).set (closure_notHeat b c tl.ch).2 _).setBk b _

theorem State.bnkShow_notHeat : Writes (notHeat b c) s₀ (s.bnkShow b) :=
  State.bnkShow_writes h (by
    simp only [shownFlds, List.forall_mem_cons]
    exact ⟨mem_notHeat_of_addr (by simp only []; omega), mem_notHeat_of_addr (by simp only []; omega),
      mem_notHeat_of_addr (by simp only []; omega), mem_notHeat_of_addr (by simp only []; omega),
      mem_notHeat_of_addr (by simp only []; omega), fun _ h => absurd h List.not_mem_nil⟩)

include hb hc

theorem State.drive_notHeat (d ch : Nat) (t : Word) : Writes (notHeat b c) s₀ (s.drive b d ch t) := by
  unfold State.drive
  extract_lets k
  split
  · exact h
  · exact State.periodRise_writes (h.setBk b _) (fun f hf => mem_notHeat_of_addr (by simp only [Reg.WM_STAT_addr] at hf; omega)) _

theorem State.endTail_notHeat (flag : Nat) : Writes (notHeat b c) s₀ (s.endTail b flag) := by
  unfold State.endTail
  split
  · exact h
  · exact State.closeTail_notHeat (State.drive_notHeat hb hc h _ _ _) flag

theorem State.heddleStart_notHeat (ch : Nat) (t : Word) : Writes (notHeat b c) s₀ (s.heddleStart b ch t) := by
  unfold State.heddleStart
  extract_lets k _ hd s₁
  have h₁ : Writes (notHeat b c) s₀ s₁ :=
    ((h.setBk b _).set (mem_notHeat_of_addr (by simp only []; omega)) 0).set (mem_notHeat_of_addr (by simp only []; omega)) 0
  split
  · exact State.drive_notHeat hb hc h₁ _ _ _
  · exact State.drive_notHeat hb hc h₁ _ _ _

theorem State.takeBank_notHeat (ch : Nat) (pulse : Option (Nat × Nat)) (t : Word) : Writes (notHeat b c) s₀ (s.takeBank b ch pulse t) := by
  unfold State.takeBank
  extract_lets s₁ s₂ k ovl k'
  have h₁ : Writes (notHeat b c) s₀ s₁ := State.closeTail_notHeat h 3
  have h₂ : Writes (notHeat b c) s₀ s₂ := by
    unfold s₂
    split
    · split
      · exact h₁.setBk b _
      · exact h₁
    · exact h₁
  exact State.heddleStart_notHeat hb hc (h₂.setBk b k') ch t

theorem State.pulseDropped_notHeat (n i : Nat) : Writes (notHeat b c) s₀ (s.pulseDropped n i) := by
  unfold State.pulseDropped State.pulseOver
  split
  · next hp =>
    have hn : n < 64 := State.pulseIs_lt hp
    refine h.trans ((State.serve_serves (Serves.endPulse (.refl n s))).regs.mono fun f hf => mem_notHeat_of_addr ?_)
    have := shtFlds_addr hf
    omega
  · exact h

theorem State.drop_notHeat (r : Request) (cause : Nat) : Writes (notHeat b c) s₀ (s.drop b r cause) := by
  have hcount : (dropCounter b cause).addr ≠ 0x1425 + 64 * b + c := by
    unfold dropCounter
    split_ifs <;> simp only [] <;> omega
  unfold State.drop
  extract_lets s₁
  have h₁ : Writes (notHeat b c) s₀ s₁ :=
    ((h.setBk b _).stick (mem_notHeat_of_addr (by simp only []; omega)) 1).inc (mem_notHeat_of_addr hcount)
  have h₂ : Writes (notHeat b c) s₀ (s₁.counterBank b false) := by
    unfold State.counterBank
    split
    · exact h₁.of_regs rfl
    · exact h₁
  exact State.pulseDropped_notHeat hb hc (h₂.report _ _ _ _ _) _ _

theorem State.contBegin_notHeat : Writes (notHeat b c) s₀ (s.contBegin b) := by
  have h₁ : Writes (notHeat b c) s₀ (s.endTail b 3) := State.endTail_notHeat hb hc h 3
  unfold State.contBegin
  extract_lets ch s₁ _ s₂ s₃
  have h₃ : Writes (notHeat b c) s₀ s₃ := State.takeBank_notHeat hb hc (Writes.setBk h₁ b _) ch none s₂.now
  clear_value s₃
  have hfold : ∀ l : List Request, Writes (notHeat b c) s₀ (l.foldl (fun s r => s.drop b r ((s.dropCause b r).getD 4)) s₃) :=
    fun l => h₃.foldl fun s r _ h => State.drop_notHeat hb hc h r _
  exact State.bnkShow_notHeat (hfold _)

theorem State.contTry_notHeat (ended : Bool) : Writes (notHeat b c) s₀ (s.contTry b ended) := by
  unfold State.contTry
  extract_lets ch k
  exact (State.contBegin_notHeat hb hc h).ite h

omit h in
/-- Of VALID and LEVEL a change of level writes LEVEL alone. -/
theorem State.setLevel_notHeat (s : State) (new : Nat) : Writes (notHeat b c) (s.set (Reg.BNK_THM_LEVEL b c) new) (s.setLevel b c new) := by
  unfold State.setLevel State.bankEvent
  extract_lets s₁ s₂
  have h₁ : Writes (notHeat b c) (s.set (Reg.BNK_THM_LEVEL b c) new) s₁ := (Writes.refl _ _).report _ _ _ _ _
  clear_value s₁
  have h₂ : Writes (notHeat b c) (s.set (Reg.BNK_THM_LEVEL b c) new) s₂ := by
    unfold s₂
    split
    · exact h₁.foldl fun s r _ h => State.drop_notHeat hb hc h r _
    · exact State.contTry_notHeat hb hc h₁ false
  exact State.bnkShow_notHeat h₂

end

section
variable (s : State) {b c : Nat}

theorem State.thermalOff_now : (s.thermalOff b c).now = s.now :=
  (State.thermalOff_keeps s b c (Nat.and_self _) (.refl _ s)).same .now (by decide)

theorem State.setLevel_now (new : Nat) : (s.setLevel b c new).now = s.now :=
  (State.setLevel_keeps s b c new (Nat.and_self _) (.refl _ s)).same .now (by decide)

/-- Without R_REF the channel is not valid, and its level is 0 (R367). -/
theorem State.thermalOff_shows (hb : b < 12) (hc : c < 4) (h : s.get (Reg.BNK_THP_R_REF b c) = 0) :
    (s.thermalOff b c).get (Reg.BNK_THM_VALID b c) = 0 ∧ (s.thermalOff b c).get (Reg.BNK_THM_LEVEL b c) = 0 := by
  have hvalid : (s.set (Reg.BNK_THM_VALID b c) 0).get (Reg.BNK_THM_VALID b c) = 0 := State.get_set_of_lt _ _ (by simp) (by simp)
  unfold State.thermalOff
  rw [if_neg (not_not_intro h)]
  extract_lets s₁
  have hvalid₁ : s₁.get (Reg.BNK_THM_VALID b c) = 0 := hvalid
  clear_value s₁
  split
  · next hlevel => exact ⟨hvalid₁, hlevel⟩
  · have hw := State.setLevel_notHeat hb hc s₁ 0
    refine ⟨?_, ?_⟩
    · rw [hw _ fun f hf => hf.1, State.get_set_ne _ _ _ _ (by simp), hvalid₁]
    · rw [hw _ fun f hf => hf.2, State.get_set_of_lt _ _ (by simp) (by simp)]

/-- A change of level on a bank without CONT due and without a waiting request changes LEVEL alone of the channel's words. -/
theorem State.setLevel_quiet (hd : (s.bk b).contDue = false) (hr : (s.bk b).reqs.all (fun r => !r.waiting) = true) (new : Nat) :
    s.setLevel b c new = ((s.set (Reg.BNK_THM_LEVEL b c) new).bankEvent b 13 c new s.now).bnkShow b := by
  unfold State.setLevel
  extract_lets s₁ s₂
  have hbk : s₁.bk b = s.bk b := rfl
  refine congrArg (State.bnkShow · b) (show s₂ = s₁ from ?_)
  unfold s₂
  clear_value s₁
  split
  · rw [hbk, List.filter_eq_nil_iff.2 fun r hmem => ?_, List.foldl_nil]
    rw [Bool.and_eq_true, not_and]
    exact fun hw => absurd (List.all_eq_true.1 hr r hmem) (by simp [hw])
  · unfold State.contTry
    extract_lets ch k
    have hk : k.contDue = false := (congrArg Bank.contDue hbk).trans hd
    rw [if_neg (by simp [hk])]

theorem State.nextLevel_lt {old : Nat} (h : old < 4) (temp : Int) : s.nextLevel b old temp < 4 := by
  have hup : (if s.levelAt b 3 ≤ temp then 3 else if s.levelAt b 2 ≤ temp then 2 else if s.levelAt b 1 ≤ temp then 1 else 0) < 4 := by
    split_ifs <;> decide
  unfold State.nextLevel
  extract_lets up
  split_ifs
  · exact hup
  · decide
  · omega
  · exact h

end

/-! A change of level leaves what the thermal model keeps. -/

section
variable (s : State) {b : Nat} (hb : b < 12)
include hb

theorem State.takeBank_thermal (c : Nat) (pulse : Option (Nat × Nat)) (t : Word) (ho : (s.bk b).owner = none) :
    ((s.takeBank b c pulse t).bk b).thermal = (s.bk b).thermal := by
  have h₁ := s.closeTail_bk hb 3
  unfold State.takeBank
  extract_lets s₁ s₂ k ovl k'
  have hs₁ : s₁.bk b = { s.bk b with tail := none } := h₁
  have h₂ : s₂ = s₁ := by
    unfold s₂
    rw [show (s₁.bk b).owner = none by rw [hs₁]; exact ho]
  obtain ⟨g, h, hbk, -, -⟩ := (s₂.setBk b k').heddleStart_bk hb c t
  rw [hbk, State.bk_setBk _ _ hb]
  show (s₂.bk b).thermal = _
  rw [h₂, hs₁]

omit hb in
theorem State.pulseDropped_thermal (n i c : Nat) : ((s.pulseDropped n i).bk c).thermal = (s.bk c).thermal := by
  unfold State.pulseDropped State.pulseOver
  split
  · have hbanks := (State.serve_serves (Serves.endPulse (.refl n s))).banks c
    exact (congrArg Bank.thermal hbanks :)
  · rfl

omit hb in
theorem State.bk_report (src idx code arg : Nat) (time : Option Word) (c : Nat) : (s.report src idx code arg time).bk c = s.bk c := rfl

omit hb in
theorem State.bk_inc (f : Fld) (c : Nat) : (s.inc f).bk c = s.bk c := rfl

theorem State.drop_thermal (r : Request) (cause : Nat) : ((s.drop b r cause).bk b).thermal = (s.bk b).thermal := by
  have hcount : ∀ s : State, (s.counterBank b false).bk b = s.bk b := fun s => by
    unfold State.counterBank
    split
    · rfl
    · rfl
  unfold State.drop State.unqueue State.bankEvent
  rw [State.pulseDropped_thermal, State.bk_report, hcount, State.bk_inc, State.bk_stick, State.bk_setBk _ _ hb]

theorem State.dropAll_thermal (cause : State → Request → Nat) (l : List Request) :
    ((l.foldl (fun s r => s.drop b r (cause s r)) s).bk b).thermal = (s.bk b).thermal := by
  induction l generalizing s with
  | nil => rfl
  | cons r l ih => exact (ih _).trans (s.drop_thermal hb r _)

theorem State.contBegin_thermal (ho : (s.bk b).owner = none) : ((s.contBegin b).bk b).thermal = (s.bk b).thermal := by
  obtain ⟨g, ca, ga, d, hend⟩ := s.endTail_bk hb 3
  unfold State.contBegin
  extract_lets c s₁ _ s₂ s₃
  have h₂ : s₂.bk b = { s₁.bk b with contDue := false } := State.bk_setBk _ _ hb
  rw [show s₁.bk b = _ from hend] at h₂
  have h₃ : (s₃.bk b).thermal = (s.bk b).thermal := (s₂.takeBank_thermal hb c none s₂.now (by rw [h₂]; exact ho)).trans (by rw [h₂])
  clear_value s₃
  rw [State.bnkShow_bk]
  exact (s₃.dropAll_thermal hb (fun s r => (s.dropCause b r).getD 4) _).trans h₃

theorem State.contTry_thermal : ((s.contTry b false).bk b).thermal = (s.bk b).thermal := by
  unfold State.contTry
  extract_lets ch k
  rw [if_neg (show ¬ false = true by decide)]
  split
  · next h =>
    simp only [Bool.and_eq_true, Bank.idle, Option.isNone_iff_eq_none] at h
    obtain ⟨⟨⟨⟨⟨-, ho, -⟩, -⟩, -⟩, -⟩, -⟩ := h
    exact s.contBegin_thermal hb ho
  · rfl

theorem State.setLevel_thermal (c new : Nat) : ((s.setLevel b c new).bk b).thermal = (s.bk b).thermal := by
  unfold State.setLevel State.bankEvent
  extract_lets s₁ s₂
  have h₁ : (s₁.bk b).thermal = (s.bk b).thermal := rfl
  rw [State.bnkShow_bk]
  refine Eq.trans ?_ h₁
  unfold s₂
  clear_value s₁
  split
  · exact s₁.dropAll_thermal hb (fun s r => (s.dropCause b r).getD 11) _
  · exact s₁.contTry_thermal hb

end

/-- The level that follows depends on the thresholds and the hysteresis of the bank alone. -/
theorem State.nextLevel_congr {s s' : State} {b : Nat} (h : ∀ f : Fld, f.addr = Reg.BNK_THCFG_addr b → s'.get f = s.get f) (old : Nat) (temp : Int) :
    s'.nextLevel b old temp = s.nextLevel b old temp := by
  have hat : s'.levelAt b = s.levelAt b := by
    funext l
    unfold State.levelAt
    rw [h _ (by split_ifs <;> rfl)]
  unfold State.nextLevel
  rw [hat, h _ rfl]


/-- The registers of the thermal model of a channel that is valid or becomes it, before its level follows. -/
def State.heated (s : State) (b c : Nat) : State :=
  let th := vget (s.bk b).thermal c
  let temp := satS 16 (openRound (16 * s.heatModel b c))
  let s' := s.setI (Reg.BNK_THM_TEMP b c) temp
  let s' := match th.meas with
    | some r => (s'.set (Reg.BNK_THM_RMEAS b c) (satUI 16 (openRound r))).set (Reg.BNK_THM_VALID b c) 1
    | none => s'
  let s' := s'.setBk b { s'.bk b with thermal := vset (s'.bk b).thermal c { last := s'.now, pulse := none, meas := none } }
  if s'.is (Reg.BNK_THM_VALID b c) then s'.extreme 4 (4 * b + c) temp false true else s'

/-- What a step of the thermal model leaves of the channel's thermal state. -/
def Thermal.stepped (t : Word) : Thermal := { last := t, pulse := none, meas := none }

theorem State.heated_shows (s : State) {b c : Nat} (hb : b < 12) (hc : c < 4) :
    (s.heated b c).getI (Reg.BNK_THM_TEMP b c) = satS 16 (openRound (16 * s.heatModel b c))
    ∧ (∀ f : Fld, (∀ g ∈ [Reg.BNK_THM_TEMP b c, Reg.BNK_THM_RMEAS b c, Reg.BNK_THM_VALID b c], g.misses f) → (s.heated b c).get f = s.get f)
    ∧ (s.heated b c).now = s.now
    ∧ ∃ k : Bank, (s.heated b c).bk b = k ∧ vget k.thermal c = Thermal.stepped s.now ∧ k.contDue = (s.bk b).contDue ∧ k.reqs = (s.bk b).reqs := by
  unfold State.heated
  extract_lets th temp s₁ s₂ k s₃
  have h₁ : s₁.getI (Reg.BNK_THM_TEMP b c) = temp := State.getI_setI _ _ (by simp) (by simp) (satS_bounds _).1 (satS_bounds _).2
  have hw₁ : Writes {f | f ∈ [Reg.BNK_THM_TEMP b c, Reg.BNK_THM_RMEAS b c, Reg.BNK_THM_VALID b c]} s s₁ := (Writes.refl _ s).setI (by simp) temp
  have hk₁ : s₁.now = s.now ∧ s₁.bk b = s.bk b := ⟨State.now_set _ _ _, State.bk_set _ _ _ _⟩
  clear_value s₁
  have h₂ : s₂.getI (Reg.BNK_THM_TEMP b c) = temp ∧ Writes {f | f ∈ [Reg.BNK_THM_TEMP b c, Reg.BNK_THM_RMEAS b c, Reg.BNK_THM_VALID b c]} s s₂
      ∧ s₂.now = s.now ∧ s₂.bk b = s.bk b := by
    unfold s₂
    split
    · refine ⟨?_, (hw₁.set (by simp) _).set (by simp) 1, by rw [State.now_set, State.now_set, hk₁.1], by rw [State.bk_set, State.bk_set, hk₁.2]⟩
      rw [State.getI, State.get_set_ne _ _ _ _ (by simp), State.get_set_ne _ _ _ _ (by simp)]
      exact h₁
    · exact ⟨h₁, hw₁, hk₁⟩
  clear_value s₂
  obtain ⟨htemp, hw₂, hnow, hbk⟩ := h₂
  have hregs : ∀ x : State, x.regs = s₃.regs → x.getI (Reg.BNK_THM_TEMP b c) = temp ∧
      ∀ f : Fld, (∀ g ∈ [Reg.BNK_THM_TEMP b c, Reg.BNK_THM_RMEAS b c, Reg.BNK_THM_VALID b c], g.misses f) → x.get f = s.get f := fun x hx => by
    have hg : ∀ f : Fld, x.get f = s₂.get f := fun f => State.get_congr (congrArg (Cells.get regReset · f.addr) hx)
    refine ⟨?_, fun f hf => (hg f).trans (hw₂ f hf)⟩
    rw [State.getI, hg]
    exact htemp
  have hstate : s₃.now = s.now ∧ s₃.bk b = { s.bk b with thermal := vset (s.bk b).thermal c (Thermal.stepped s.now) } := by
    refine ⟨hnow, (State.bk_setBk s₂ _ hb).trans ?_⟩
    have hk : k = s.bk b := hbk
    show ({ k with thermal := vset (s₂.bk b).thermal c (Thermal.stepped s₂.now) } : Bank) = _
    rw [hnow, hbk, hk]
  clear_value s₃
  have hth : vget ({ s.bk b with thermal := vset (s.bk b).thermal c (Thermal.stepped s.now) } : Bank).thermal c = Thermal.stepped s.now :=
    vget_vset_same _ _ hc
  split
  · have hkeep := State.extreme_keeps s₃ 4 (4 * b + c) temp false true (Nat.and_self _) (.refl _ s₃)
    refine ⟨(hregs _ (State.extreme_regs _ _ _ _ _ _)).1, (hregs _ (State.extreme_regs _ _ _ _ _ _)).2,
      (hkeep.same .now (by decide)).trans hstate.1, _, ?_, hth, rfl, rfl⟩
    exact (congrArg (vget · b) (hkeep.same .banks (by decide))).trans hstate.2
  · exact ⟨(hregs _ rfl).1, (hregs _ rfl).2, hstate.1, _, hstate.2, hth, rfl, rfl⟩


theorem State.thermalStep_eq (s : State) (b c : Nat) : s.thermalStep b c =
    if (s.contWindow b).get (Reg.BNK_THP_R_REF b c) = 0 then
      ((s.contWindow b).thermalOff b c).setBk b { ((s.contWindow b).thermalOff b c).bk b with
        thermal := vset (((s.contWindow b).thermalOff b c).bk b).thermal c (Thermal.stepped ((s.contWindow b).thermalOff b c).now) }
    else
      let old := (s.contWindow b).get (Reg.BNK_THM_LEVEL b c)
      let new := ((s.contWindow b).heated b c).nextLevel b old (satS 16 (openRound (16 * (s.contWindow b).heatModel b c)))
      if new = old then (s.contWindow b).heated b c else ((s.contWindow b).heated b c).setLevel b c new := rfl

/-- Settles O24: without R_REF the model turns VALID and LEVEL off, and neither CONT nor the requests that it drops write them; else
the registers are those of `State.heated`, and a change of level writes LEVEL alone of the channel's words. -/
theorem coilHeat : Obligations.CoilHeat := by
  unfold Obligations.CoilHeat
  intro t b c s
  extract_lets k th temp due
  have htm : temp = satS 16 (openRound (16 * ((s.at t).contWindow b).heatModel b c)) := rfl
  clear_value temp
  have hb := b.isLt
  have hc := c.isLt
  have hregs : ∀ f : Fld, ((s.at t).contWindow b).get f = s.get f := fun f =>
    State.get_congr (congrArg (Cells.get regReset · f.addr) ((s.at t).contWindow_regs b))
  have hnow : ((s.at t).contWindow b).now = t :=
    (State.contWindow_keeps (s.at t) b (Nat.and_self _) (.refl _ (s.at t))).same .now (by decide)
  obtain ⟨thermal, chop, hbk⟩ := (s.at t).contWindow_bk hb
  refine ⟨fun htile hdue => ?_, fun h => ?_⟩
  · refine ⟨_, congrArg Host.Outcome.next (if_pos ⟨htile, hdue⟩), ?_⟩
    rw [State.thermalStep_eq]
    generalize (s.at t).contWindow b = s₁ at *
    rw [hregs (Reg.BNK_THP_R_REF b c)]
    by_cases href : s.get (Reg.BNK_THP_R_REF b c) = 0
    · rw [if_pos href]
      obtain ⟨hvalid, hlevel⟩ := s₁.thermalOff_shows hb hc ((hregs _).trans href)
      have hnow' : (s₁.thermalOff b c).now = t := s₁.thermalOff_now.trans hnow
      generalize s₁.thermalOff b c = s₂ at *
      rw [State.bk_setBk _ _ hb, vget_vset_same _ _ hc, hnow', State.get_setBk, State.get_setBk]
      exact ⟨rfl, rfl, rfl, rfl, fun _ => ⟨hvalid, hlevel⟩, fun h => absurd href h⟩
    · rw [if_neg href]
      extract_lets old new
      obtain ⟨htemp, hother, hnow', k', hk', hth, hcont, hreqs⟩ := s₁.heated_shows hb hc
      have hlevel : (s₁.heated b c).get (Reg.BNK_THM_LEVEL b c) = s.get (Reg.BNK_THM_LEVEL b c) :=
        (hother _ (by simp [Fld.misses])).trans (hregs _)
      have hnew : new = s.nextLevel b (s.get (Reg.BNK_THM_LEVEL b c)) temp := by
        unfold new old
        rw [hregs (Reg.BNK_THM_LEVEL b c), ← htm]
        refine State.nextLevel_congr (fun f hf => (hother f fun g hg => .inl ?_).trans (hregs f)) _ _
        simp only [List.mem_cons, List.not_mem_nil, or_false] at hg
        rw [hf]
        rcases hg with rfl | rfl | rfl <;> simp only [Reg.BNK_THCFG_addr] <;> omega
      have hlt : new < 4 := hnew ▸ s.nextLevel_lt (State.get_lt s (Reg.BNK_THM_LEVEL b c)) temp
      have hold : old = s.get (Reg.BNK_THM_LEVEL b c) := hregs _
      rw [← htm] at htemp
      rw [hbk] at hcont hreqs
      rw [← hk', hnow] at hth
      rw [← hk'] at hcont hreqs
      clear_value new old
      generalize s₁.heated b c = s₂ at *
      by_cases hsame : new = old
      · rw [if_pos hsame, hth]
        exact ⟨rfl, rfl, rfl, rfl, fun h => absurd h href, fun _ _ _ => ⟨htemp, hlevel.trans (hold.symm.trans (hsame.symm.trans hnew))⟩⟩
      · rw [if_neg hsame, s₂.setLevel_thermal hb, hth]
        refine ⟨rfl, rfl, rfl, rfl, fun h => absurd h href, fun _ hdue hwait => ?_⟩
        rw [s₂.setLevel_quiet (hcont.trans hdue) (by rw [hreqs]; exact hwait)]
        refine ⟨?_, ?_⟩
        · rw [State.getI, State.bnkShow_get _ (.inl (by simp only [Reg.BNK_STAT_addr]; omega)), State.bankEvent, State.get_report,
            State.get_set_ne _ _ _ _ (by simp)]
          exact htemp
        · rw [State.bnkShow_get _ (.inl (by simp only [Reg.BNK_STAT_addr]; omega)), State.bankEvent, State.get_report,
            State.get_set_of_lt _ _ (by simp) hlt, hnew]
  · exact congrArg Host.Outcome.next (if_neg fun h' => h.elim (fun h => absurd (h.symm.trans h'.1) (by decide)) fun h => h h'.2)

end Sys2Proof.Machine
end

section
/-! PROOF. The rail-pressure loop, the pressure inputs and the overspeed tile (O38). -/
namespace Sys2Proof.Machine

/-! ### Rail pressure -/

/-- The state with another rail-pressure loop. -/
def State.withRail (s : State) (k : Rail) : State := { s with rail := k }

section
variable (s : State)

theorem State.railOut_rail (u : Rat) : (s.railOut u).rail = s.rail :=
  (State.railOut_keeps s u (Nat.and_self _) (.refl _ s)).same .rail (by decide)

theorem State.railOut_causes (u : Rat) : (s.railOut u).causes = s.causes :=
  (State.railOut_keeps s u (Nat.and_self _) (.refl _ s)).same .causes (by decide)

/-- u stands in RP_STAT. -/
theorem State.railOut_get (u : Rat) : (s.railOut u).get Reg.RP_STAT_U = satUI 12 (openRound u) :=
  ((State.railSet_writes _ u) _ fun f hf => .inl (by obtain ⟨b, hb, rfl⟩ := hf; simp only []; omega)).trans
    (State.get_set_of_lt _ _ (by decide) (satU_lt _ _))

/-- The other fields of RP_STAT stay. -/
theorem State.railOut_stat (u : Rat) {g : Fld} (hg : g.addr = Reg.RP_STAT_addr) (hm : Reg.RP_STAT_U.misses g) : (s.railOut u).get g = s.get g :=
  ((State.railSet_writes _ u) _ fun f hf => .inl (by obtain ⟨b, hb, rfl⟩ := hf; rw [hg]; simp only [Reg.RP_STAT_addr]; omega)).trans
    (State.get_set_ne _ _ _ _ hm)

theorem State.get_withRail (k : Rail) (g : Fld) : (s.withRail k).get g = s.get g := rfl

/-- PIN0 alone gives p_meas (R472). -/
theorem State.railForm_single {x : Int} (hon : s.railOn = true) (h0 : s.pinNow 0 = some x) (h1 : s.pinNow 1 = none) :
    ∃ k : Rail, (k.stepAt = s.rail.stepAt ∧ k.pset = s.rail.pset ∧ k.iint = s.rail.iint)
      ∧ s.railForm = (((s.withRail k).set Reg.RP_STAT_P_MEAS (satUI 20 x)).flag Reg.RP_STAT_BACKUP false).set Reg.RP_STAT_SENSF 0 := by
  unfold State.railForm
  rw [if_neg (not_not_intro hon), h0, h1]
  let high := decide ((s.get Reg.RP_LIM_RP_MAX : Int) ≤ x)
  exact ⟨{ s.rail with
    disSince := none, higher := false, ovpSince := if high then some (s.rail.ovpSince.getD s.now) else none
    ovpTold := high && s.rail.ovpTold }, ⟨rfl, rfl, rfl⟩, rfl⟩

/-- With neither pin the tile applies FAIL (R476). -/
theorem State.railForm_none (hon : s.railOn = true) (h0 : s.pinNow 0 = none) (h1 : s.pinNow 1 = none) :
    s.railForm.get Reg.RP_STAT_SENSF = 1 ∧ s.railForm.rail.stepAt = s.rail.stepAt
      ∧ s.railForm.causes = s.causes ++ if s.is Reg.RP_STAT_SENSF then [] else [(17, 0)] := by
  have he : s.railForm = let s' := (s.withRail { s.rail with disSince := none, higher := false, ovpSince := none, ovpTold := false }).set Reg.RP_STAT_BACKUP 0
      (if s.is Reg.RP_STAT_SENSF then s' else ((s'.set Reg.RP_STAT_SENSF 1).railEvent 2).cause 17 0).railOut (s.get Reg.RP_OUT_FAIL) := by
    unfold State.railForm
    rw [if_neg (not_not_intro hon), h0, h1]
    rfl
  rw [he]
  extract_lets _ s₂
  have h₂ : s₂.is Reg.RP_STAT_SENSF = s.is Reg.RP_STAT_SENSF := State.is_congr ((State.get_set_ne _ _ _ _ (by decide)).trans rfl)
  have hk₂ : s₂.rail.stepAt = s.rail.stepAt := rfl
  have hc₂ : s₂.causes = s.causes := rfl
  clear_value s₂
  rw [State.railOut_stat _ _ rfl (by simp [Fld.misses]), State.railOut_rail, State.railOut_causes]
  split
  · next h =>
    rw [h] at h₂
    exact ⟨of_decide_eq_true h₂, hk₂, by rw [List.append_nil]; exact hc₂⟩
  · refine ⟨?_, hk₂, congrArg (· ++ _) hc₂⟩
    show ((((s₂.set Reg.RP_STAT_SENSF 1).inc Reg.RP_STAT_EVENTS).report _ _ _ _ _).cause 17 0).get Reg.RP_STAT_SENSF = 1
    rw [State.get_congr (State.cause_reg _ _ _ _), State.get_report, State.get_inc_ne (by simp [Fld.misses]), State.get_set_of_lt _ _ (by decide) (by decide)]

end


theorem State.cutWatch_get (s : State) (g : Fld) : s.cutWatch.get g = s.get g := rfl

/-- p_meas formed from PIN0 alone. -/
theorem State.railEval_single (s : State) {x : Int} (hon : s.railOn = true) (h0 : s.pinNow 0 = some x) (h1 : s.pinNow 1 = none) :
    s.railEval.get Reg.RP_STAT_P_MEAS = satUI 20 x ∧ s.railEval.get Reg.RP_STAT_SENSF = 0
      ∧ (s.railEval.rail.stepAt = s.rail.stepAt ∧ s.railEval.rail.pset = s.rail.pset ∧ s.railEval.rail.iint = s.rail.iint)
      ∧ ∀ g : Fld, g.addr ≠ Reg.RP_STAT_addr → s.railEval.get g = s.get g := by
  obtain ⟨k, hk, hform⟩ := s.railForm_single hon h0 h1
  have hlt : satUI 20 x < 2 ^ Reg.RP_STAT_P_MEAS.wid := satU_lt _ _
  have hrail : s.railEval.rail = k := by
    unfold State.railEval
    rw [hform]
    rfl
  rw [hrail]
  unfold State.railEval
  rw [State.cutWatch_get, State.cutWatch_get, hform]
  refine ⟨?_, State.get_set_of_lt _ _ (by decide) (by decide), hk, fun g hg => ?_⟩
  · rw [State.get_set_ne _ _ _ _ (by simp), State.flag, State.get_set_ne _ _ _ _ (by simp), State.get_set_of_lt _ _ (by decide) hlt]
  · rw [State.cutWatch_get, State.get_set_ne _ _ _ _ (.inl (Ne.symm hg)), State.flag, State.get_set_ne _ _ _ _ (.inl (Ne.symm hg)),
      State.get_set_ne _ _ _ _ (.inl (Ne.symm hg)), State.get_withRail]

/-- `pinNow` and `railOn` depend on the registers alone. -/
theorem State.pinNow_congr {s s' : State} (h : s'.regs = s.regs) (p : Nat) : s'.pinNow p = s.pinNow p := by
  unfold State.pinNow State.is State.getI State.get State.reg
  rw [h]

/-- The conditions of R430 for an input. -/
def State.pinValid (s : State) (p : Nat) (t : Word) : Prop :=
  let src := s.get (Reg.SVC_PINCFG_SRC p)
  let v := s.getI (Reg.SVC_PINSTAT_VALUE p)
  src ≠ 0x3F ∧ (vget s.pins p).any (fun a => decide (elapsed a t < 5 * ms)) = true ∧ (src < 24 ∨ s.get (Reg.ADC_OW_VERDICT src) ≤ 1)
    ∧ s.get (Reg.SVC_PINCFG_RLO p) ≤ v ∧ v < s.get (Reg.SVC_PINCFG_RHI p)

theorem State.pinCheck_hasTile (s : State) (p k n : Nat) : (s.pinCheck p).hasTile k n = s.hasTile k n := rfl

theorem State.pinCheck_shows (s : State) (p : Nat) : (s.pinCheck p).get (Reg.SVC_PINSTAT_VALID p) = 1 ↔ s.pinValid p s.now := by
  unfold State.pinCheck State.pinValid
  extract_lets src v ok
  rw [State.get_flag _ _ _ (by simp) (by simp)]
  have hok : ok = true ↔ src ≠ 0x3F ∧ (vget s.pins p).any (fun a => decide (elapsed a s.now < 5 * ms)) = true
      ∧ (src < 24 ∨ s.get (Reg.ADC_OW_VERDICT src) ≤ 1) ∧ s.get (Reg.SVC_PINCFG_RLO p) ≤ v ∧ v < s.get (Reg.SVC_PINCFG_RHI p) := by
    simp only [ok, Bool.and_eq_true, Bool.or_eq_true, decide_eq_true_eq]
    tauto
  rw [← hok]
  cases ok with
  | true => exact ⟨fun _ => rfl, fun _ => rfl⟩
  | false => exact ⟨fun h => absurd h (by decide), fun h => absurd h (by decide)⟩

theorem any_some {o : Option Word} {p : Word → Bool} {a : Word} (h : o = some a) (hp : p a = true) : o.any p = true := by
  rw [h]
  exact hp

/-- What u is before its limits, in mA × 65,536 × 10^7 (R474). -/
def State.railRaw (s : State) (pset meas : Nat) (iint : Int) : Int :=
  let unit : Int := 655360000000
  let e : Int := (pset : Int) - meas
  let sgn : Int := if s.is Reg.RP_CFG_INV then -1 else 1
  s.get Reg.RP_OUT_FF * unit + sgn * (s.get Reg.RP_GAIN_KP * e * 10000 + iint)

/-- A step of the loop once p_meas is formed (R474, R475). -/
def State.railLoop (s : State) : State :=
  if s.is Reg.RP_STAT_SENSF then s
  else
    let unit : Int := 655360000000
    let lo := s.get Reg.RP_OUT_IMIN * unit
    let hi := s.get Reg.RP_OUT_IMAX * unit
    let sgn : Int := if s.is Reg.RP_CFG_INV then -1 else 1
    let e : Int := s.rail.pset - s.get Reg.RP_STAT_P_MEAS
    let raw := s.railRaw s.rail.pset (s.get Reg.RP_STAT_P_MEAS) s.rail.iint
    let more := s.get Reg.RP_GAIN_KI * e * s.get Reg.RP_CFG_RP_PER
    let stuck := decide ((hi < raw ∧ 0 < sgn * more) ∨ (raw < lo ∧ sgn * more < 0))
    let i := if stuck then s.rail.iint else clampI (lo - hi) (hi - lo) (s.rail.iint + more)
    (s.withRail { s.rail with iint := i }).railOut ((clampI lo hi raw : Rat) / unit)

theorem exec_railLoopStep {t : Word} {s : State} (hon : s.railOn = true) (hd : s.get Reg.RP_CFG_RP_PER * 160000 ≤ elapsed s.rail.stepAt t) :
    exec (.railLoopStep t) s = .next (((s.at t).withRail { s.rail with stepAt := t }).railEval.railLoop) :=
  congrArg Host.Outcome.next (if_neg fun h => h.elim (fun h => h hon) fun h => absurd hd (Nat.not_le.2 h))

/-- A step with a valid pin limits u, and leaves p_meas as it was formed. -/
theorem State.railLoop_shows (s : State) (h : s.get Reg.RP_STAT_SENSF = 0) :
    s.railLoop.get Reg.RP_STAT_P_MEAS = s.get Reg.RP_STAT_P_MEAS ∧ s.railLoop.get Reg.RP_STAT_SENSF = 0 ∧ s.railLoop.rail.stepAt = s.rail.stepAt
      ∧ s.railLoop.get Reg.RP_STAT_U = satUI 12 (openRound ((clampI (s.get Reg.RP_OUT_IMIN * 655360000000) (s.get Reg.RP_OUT_IMAX * 655360000000)
        (s.railRaw s.rail.pset (s.get Reg.RP_STAT_P_MEAS) s.rail.iint) : Rat) / (655360000000 : Int))) := by
  unfold State.railLoop
  rw [if_neg (by rw [State.is_eq, h]; decide)]
  extract_lets unit lo hi sgn e raw more stuck i
  refine ⟨?_, ?_, ?_, State.railOut_get _ _⟩
  · rw [State.railOut_stat _ _ rfl (by simp [Fld.misses]), State.get_withRail]
  · rw [State.railOut_stat _ _ rfl (by simp [Fld.misses]), State.get_withRail, h]
  · rw [State.railOut_rail]
    rfl

theorem not_any_of_all {o : Option Word} {t : Word} {n : Nat} (h : o.all (fun a => decide (elapsed a t < n)) = true) :
    ¬ o.any (fun a => decide (n ≤ elapsed a t)) = true := by
  cases o with
  | none => simp
  | some a => exact fun h' => absurd (of_decide_eq_true h) (Nat.not_lt.2 (of_decide_eq_true h'))

/-- The rail part of O38. -/
theorem rail_holds (t : Word) (s : State) :
    let p := s.rail.pset
    let stepDue := s.get Reg.RP_CFG_RP_PER * 160000 ≤ elapsed s.rail.stepAt t
    (∀ x, s.railOn = true → stepDue → s.pinNow 0 = some x → s.pinNow 1 = none → Does (.railLoopStep t) s (fun s' =>
      let unit : Int := 655360000000
      let e : Int := (p : Int) - satUI 20 x
      let sgn : Int := if s.is Reg.RP_CFG_INV then -1 else 1
      let raw := s.get Reg.RP_OUT_FF * unit + sgn * (s.get Reg.RP_GAIN_KP * e * 10000 + s.rail.iint)
      let u := clampI (s.get Reg.RP_OUT_IMIN * unit) (s.get Reg.RP_OUT_IMAX * unit) raw
      s'.get Reg.RP_STAT_P_MEAS = satUI 20 x ∧ s'.get Reg.RP_STAT_SENSF = 0 ∧ s'.rail.stepAt = t
        ∧ s'.get Reg.RP_STAT_U = satUI 12 (openRound ((u : Rat) / unit))))
    ∧ (s.railOn = true → stepDue → s.pinNow 0 = none → s.pinNow 1 = none → Does (.railLoopStep t) s (fun s' =>
      s'.get Reg.RP_STAT_SENSF = 1 ∧ s'.rail.stepAt = t
        ∧ s'.causes = s.causes ++ if s.is Reg.RP_STAT_SENSF then [] else [(17, 0)])) := by
  extract_lets p stepDue unit sgn
  refine ⟨fun x hon hd h0 h1 => ⟨_, exec_railLoopStep hon hd, ?_⟩, fun hon hd h0 h1 => ⟨_, exec_railLoopStep hon hd, ?_⟩⟩
  · obtain ⟨hmeas, hsensf, ⟨hstep, hpset, hint⟩, hother⟩ := State.railEval_single ((s.at t).withRail { s.rail with stepAt := t }) (x := x) hon
      ((State.pinNow_congr rfl 0).trans h0) ((State.pinNow_congr rfl 1).trans h1)
    extract_lets e raw u _
    have hget : ∀ g : Fld, g.addr ≠ Reg.RP_STAT_addr → (((s.at t).withRail { s.rail with stepAt := t }).railEval).get g = s.get g := hother
    have hraw : (((s.at t).withRail { s.rail with stepAt := t }).railEval).railRaw s.rail.pset (satUI 20 x) s.rail.iint = raw := by
      unfold State.railRaw
      rw [hget _ (by decide), hget _ (by decide), State.is_congr (hget Reg.RP_CFG_INV (by decide))]
    obtain ⟨h1, h2, h3, h4⟩ := State.railLoop_shows _ hsensf
    rw [hmeas, hpset, hint, hget _ (by decide), hget _ (by decide)] at h4
    exact ⟨h1.trans hmeas, h2, h3.trans hstep, h4.trans (by rw [show ((s.at t).withRail { s.rail with stepAt := t }).rail.pset = s.rail.pset from rfl,
      show ((s.at t).withRail { s.rail with stepAt := t }).rail.iint = s.rail.iint from rfl, hraw])⟩
  · obtain ⟨hsensf, hstep, hcauses⟩ := State.railForm_none ((s.at t).withRail { s.rail with stepAt := t }) hon
      ((State.pinNow_congr rfl 0).trans h0) ((State.pinNow_congr rfl 1).trans h1)
    unfold State.railEval
    generalize State.railForm _ = z at *
    have hs : z.cutWatch.get Reg.RP_STAT_SENSF = 1 := hsensf
    unfold State.railLoop
    rw [if_pos (by rw [State.is_eq, hs]; decide)]
    exact ⟨hs, hstep, hcauses⟩


/-! ### The overspeed tile -/

/-- The fields of OVS_STAT. -/
def ovsFlds : Set Fld := {f | f.addr = Reg.OVS_STAT_addr}

/-- The speed and the cut of a formed speed, before Headland hears of it (R477, R479). -/
def State.speedShown (s : State) (n : Nat) (u : Update) : State :=
  let s := (s.set Reg.OVS_STAT_SPEED n).extreme 0 0 n false false
  let cut := 4 * s.get Reg.OVS_CFG_CUT
  if cut ≤ n then
    if s.is Reg.OVS_STAT_CUT then s
    else ((s.set Reg.OVS_STAT_CUT 1).inc Reg.OVS_STAT_CUTS).report 0x0C 0 1 n (some u.time)
  else if n + 4 * s.get Reg.OVS_CFG_HYS < cut then s.set Reg.OVS_STAT_CUT 0
  else s

theorem State.speedShown_shows (s : State) {n : Nat} (hn : n < 2 ^ 16) (u : Update) : Writes ovsFlds s (s.speedShown n u)
    ∧ (s.speedShown n u).get Reg.OVS_STAT_SPEED = n
    ∧ (s.speedShown n u).get Reg.OVS_STAT_CUT = (if 4 * s.get Reg.OVS_CFG_CUT ≤ n then 1
        else if n + 4 * s.get Reg.OVS_CFG_HYS < 4 * s.get Reg.OVS_CFG_CUT then 0 else s.get Reg.OVS_STAT_CUT) := by
  unfold State.speedShown
  extract_lets s₁ cut
  have hregs : s₁.regs = (s.set Reg.OVS_STAT_SPEED n).regs := State.extreme_regs _ _ _ _ _ _
  have hget : ∀ g : Fld, s₁.get g = (s.set Reg.OVS_STAT_SPEED n).get g := fun g => State.get_congr (congrArg (Cells.get regReset · g.addr) hregs)
  have hw : Writes ovsFlds s s₁ := ((Writes.refl _ s).set (by exact rfl) n).of_regs hregs
  have hspeed : s₁.get Reg.OVS_STAT_SPEED = n := (hget _).trans (State.get_set_of_lt _ _ (by decide) hn)
  have hcut : s₁.get Reg.OVS_STAT_CUT = s.get Reg.OVS_STAT_CUT := (hget _).trans (State.get_set_ne _ _ _ _ (by simp))
  have hcfg : cut = 4 * s.get Reg.OVS_CFG_CUT := congrArg (4 * ·) ((hget _).trans (State.get_set_ne _ _ _ _ (by simp)))
  have hhys : s₁.get Reg.OVS_CFG_HYS = s.get Reg.OVS_CFG_HYS := (hget _).trans (State.get_set_ne _ _ _ _ (by simp))
  rw [← hcfg, ← hhys, ← hcut]
  clear_value s₁ cut
  split
  · split
    · next h => exact ⟨hw, hspeed, of_decide_eq_true h⟩
    · refine ⟨((hw.set (by exact rfl) 1).inc (by exact rfl)).report _ _ _ _ _, ?_, ?_⟩
      · rw [State.get_report, State.get_inc_ne (by simp [Fld.misses]), State.get_set_ne _ _ _ _ (by simp), hspeed]
      · rw [State.get_report, State.get_inc_ne (by simp [Fld.misses]), State.get_set_of_lt _ _ (by decide) (by decide)]
  · split
    · refine ⟨hw.set (by exact rfl) 0, ?_, State.get_set_of_lt _ _ (by decide) (by decide)⟩
      rw [State.get_set_ne _ _ _ _ (by simp), hspeed]
    · exact ⟨hw, hspeed, rfl⟩

theorem State.speedShown_rest (s : State) (n : Nat) (u : Update) : (s.speedShown n u).causes = s.causes ∧ (s.speedShown n u).ovs = s.ovs := by
  have hx := State.extreme_keeps (s.set Reg.OVS_STAT_SPEED n) 0 0 n false false (Nat.and_self _) (.refl _ _)
  have h₁ : ((s.set Reg.OVS_STAT_SPEED n).extreme 0 0 n false false).causes = s.causes := hx.same .causes (by decide)
  have h₂ : ((s.set Reg.OVS_STAT_SPEED n).extreme 0 0 n false false).ovs = s.ovs := hx.same .ovs (by decide)
  unfold State.speedShown
  extract_lets s₁ cut
  have hs₁ : s₁.causes = s.causes ∧ s₁.ovs = s.ovs := ⟨h₁, h₂⟩
  clear_value s₁
  split_ifs
  · exact hs₁
  · exact hs₁
  · exact hs₁
  · exact hs₁

/-- The update has been taken, and the one before is kept (R477). -/
def State.ovsTook (s : State) (u : Update) : State := { s with ovs := { s.ovs with upd := none, prev := some u } }

theorem exec_overspeedUpdate {t : Word} {s : State} {u : Update} (hu : s.ovs.upd = some u) : exec (.overspeedUpdate t) s = .next
    (match s.ovs.prev with
      | none => (s.at t).ovsTook u
      | some o => if u.step ∨ (o.src < 2) ≠ (u.src < 2) ∨ ¬ s.hasTile 0x0C 0 ∨ o.time = u.time then (s.at t).ovsTook u
        else ((s.at t).ovsTook u).speedFormed (((s.at t).ovsTook u).speedOf o u) u) := by
  refine congrArg Host.Outcome.next ?_
  show (match s.ovs.upd with | none => _ | some u => _) = _
  rw [hu]
  rfl

theorem State.speedOf_lt (s : State) (o u : Update) : s.speedOf o u < 2 ^ 16 := satU_lt _ _

theorem State.speedOf_ovsTook (s : State) (t : Word) (o u : Update) : ((s.at t).ovsTook u).speedOf o u = s.speedOf o u := rfl

/-- The overspeed part of O38. -/
theorem overspeed_holds (t : Word) (u o : Update) (s : State) (hu : s.ovs.upd = some u) :
    let n := s.speedOf o u
    let cut := 4 * s.get Reg.OVS_CFG_CUT
    let fast := decide (4 * s.get Reg.OVS_CFG_TRIP ≤ n)
    (s.ovs.prev = none → Does (.overspeedUpdate t) s (fun s' => s'.regs = s.regs ∧ s'.ovs.prev = some u
      ∧ s'.ovs.upd = none))
    ∧ (s.ovs.prev = some o → u.step = false → (o.src < 2 ↔ u.src < 2) → s.hasTile 0x0C 0 = true → o.time ≠ u.time →
      Does (.overspeedUpdate t) s (fun s' => s'.ovs = { upd := none, prev := some u, trip := fast }
        ∧ s'.get Reg.OVS_STAT_SPEED = n
        ∧ s'.get Reg.OVS_STAT_CUT = (if cut ≤ n then 1 else if n + 4 * s.get Reg.OVS_CFG_HYS < cut then 0
            else s.get Reg.OVS_STAT_CUT)
        ∧ s'.causes = s.causes ++ if fast && !s.ovs.trip then [(9, 0)] else []))
    ∧ (s.ovs.prev = some o →
      u.step = true ∨ ¬ (o.src < 2 ↔ u.src < 2) ∨ s.hasTile 0x0C 0 = false ∨ o.time = u.time → Does (.overspeedUpdate t) s (fun s' => s'.regs = s.regs ∧ s'.causes = s.causes
      ∧ s'.ovs.prev = some u)) := by
  extract_lets n cut fast
  have hx := exec_overspeedUpdate (t := t) hu
  refine ⟨fun hp => ?_, fun hp hstep hsrc htile htime => ?_, fun hp h => ?_⟩
  · rw [hp] at hx
    exact ⟨_, hx, rfl, rfl, rfl⟩
  · rw [hp] at hx
    dsimp only at hx
    rw [if_neg (by
      rintro (h | h | h | h)
      · exact absurd (hstep.symm.trans h) (by decide)
      · exact h (propext hsrc)
      · exact h htile
      · exact htime h)] at hx
    refine ⟨_, hx, ?_⟩
    obtain ⟨hw, hspeed, hcut⟩ := ((s.at t).ovsTook u).speedShown_shows (s.speedOf_lt o u) u
    obtain ⟨hcauses, hovs⟩ := ((s.at t).ovsTook u).speedShown_rest (s.speedOf o u) u
    rw [State.speedOf_ovsTook]
    unfold State.speedFormed
    extract_lets s₁ c s₂ fast' _ s₃
    have h₂ : s₂ = ((s.at t).ovsTook u).speedShown (s.speedOf o u) u := rfl
    have hfast : fast' = fast := by
      unfold fast' fast
      rw [h₂, hw _ fun f hf => .inl (by rw [show f.addr = _ from hf]; decide)]
      rfl
    rw [← h₂] at hspeed hcut hcauses hovs
    have hovs₃ : s₃.ovs = { upd := none, prev := some u, trip := fast } := by
      show ({ s₂.ovs with trip := fast' } : Overspeed) = _
      rw [hovs, hfast]
      rfl
    have htrip : s₂.ovs.trip = s.ovs.trip := (congrArg Overspeed.trip hovs).trans rfl
    have hget : ∀ g : Fld, s₃.get g = s₂.get g := fun _ => rfl
    have hcauses₃ : s₃.causes = s.causes := hcauses
    rw [hfast, htrip]
    clear_value s₃ s₂
    split
    · exact ⟨hovs₃, (hget _).trans hspeed, (hget _).trans hcut, congrArg (· ++ [(9, 0)]) hcauses₃⟩
    · exact ⟨hovs₃, (hget _).trans hspeed, (hget _).trans hcut, hcauses₃.trans (List.append_nil _).symm⟩
  · rw [hp] at hx
    dsimp only at hx
    rw [if_pos (by
      rcases h with h | h | h | h
      · exact .inl h
      · exact .inr (.inl fun e => h (Iff.of_eq e))
      · exact .inr (.inr (.inl (by rw [h]; decide)))
      · exact .inr (.inr (.inr h)))] at hx
    exact ⟨_, hx, rfl, rfl, rfl⟩


/-- Settles O38. -/
theorem railPressureAndOverspeed : Obligations.RailPressureAndOverspeed := by
  unfold Obligations.RailPressureAndOverspeed
  refine ⟨fun t s => ?_, fun t s hu => ?_, fun t u o s hu => overspeed_holds t u o s hu⟩
  · obtain ⟨hsingle, hnone⟩ := rail_holds t s
    refine ⟨fun hon hd => ?_, fun h => ?_, hsingle, hnone, fun h => ?_, fun a hon hh hs hd => ?_, fun h => ?_, fun a hon ho hs hd => ?_, fun h => ?_, fun i => ?_⟩
    · exact ⟨_, congrArg Host.Outcome.next (if_neg fun h => h.elim (fun h => h hon) fun h => absurd hd (Nat.not_le.2 h)), rfl, rfl⟩
    · refine congrArg Host.Outcome.next (if_pos (h.imp (fun h => ?_) id))
      exact fun h' => absurd (h.symm.trans h') (by decide)
    · refine congrArg Host.Outcome.next (if_pos (h.imp (fun h => ?_) Nat.not_le.1))
      exact fun h' => absurd (h.symm.trans h') (by decide)
    · refine ⟨_, congrArg Host.Outcome.next (if_pos ⟨hon, fun h => absurd (hh.symm.trans h) (by decide), any_some hs (decide_eq_true hd)⟩), ?_⟩
      have hbit : ∀ s' : State, ((s'.stick Reg.RP_STAT_DISAGREE 1).railEvent 1).get Reg.RP_STAT_DISAGREE = 1 := fun s' => by
        unfold State.railEvent
        rw [State.get_report, State.get_inc_ne (by simp [Fld.misses]), State.get_stick_bit _ _ (by decide) (by decide)]
      exact hbit _
    · refine congrArg Host.Outcome.next (if_neg fun h' => ?_)
      obtain ⟨hon, hh, hs⟩ := h'
      rcases h with h | h | h
      · exact not_any_of_all h hs
      · exact hh h
      · exact absurd (h.symm.trans hon) (by decide)
    · refine ⟨_, congrArg Host.Outcome.next (if_pos ⟨hon, fun h => absurd (ho.symm.trans h) (by decide), any_some hs (decide_eq_true hd)⟩), ?_, rfl, rfl, ?_⟩
      · rw [State.get_congr (State.cause_reg _ _ _ _), State.railEvent, State.get_report, State.get_inc_ne (by simp [Fld.misses]),
          State.get_stick_bit _ _ (by decide) (by decide)]
      · rw [State.get_congr (State.cause_reg _ _ _ _), State.railEvent, State.get_report, State.get_inc _ _ (by decide),
          State.get_stick_ne _ _ _ _ (by simp)]
        rfl
    · refine congrArg Host.Outcome.next (if_neg fun h' => ?_)
      obtain ⟨hon, hh, hs⟩ := h'
      rcases h with h | h | h
      · exact not_any_of_all h hs
      · exact hh h
      · exact absurd (h.symm.trans hon) (by decide)
    · extract_lets src v
      have hw : Writes railFlds ((s.at t).pinCheck i) (((s.at t).pinCheck i).railEval) := State.railEval_writes _
      have hmiss : ∀ g : Fld, g.addr = Reg.SVC_PINSTAT_addr i → ∀ f ∈ railFlds, f.misses g := fun g hg f hf => .inl (by
        rcases mem_railFlds hf with h | ⟨b, hb, rfl⟩
        · rw [h, hg]; simp only [Reg.SVC_PINSTAT_addr]; omega
        · rw [hg]; simp only [Reg.SVC_PINSTAT_addr]; omega)
      refine ⟨_, rfl, ?_, ?_, fun hoff a ha => ?_⟩
      · rw [State.getI, hw _ (hmiss _ rfl), State.pinCheck, State.flag, State.get_set_ne _ _ _ _ (by simp)]
        rfl
      · rw [hw _ (hmiss _ rfl)]
        exact (s.at t).pinCheck_shows i
      · have hrun : ∀ f : Fld, f.addr ≠ Reg.SVC_PINSTAT_addr i → ((s.at t).pinCheck i).is f = s.is f := fun f hf =>
          State.is_congr ((State.get_set_ne _ _ _ _ (.inl (Ne.symm hf))).trans rfl)
        have hoff' : ((s.at t).pinCheck i).railOn = false := by
          rw [← hoff]
          unfold State.railOn State.running
          rw [hrun _ (by simp only [Reg.SVC_PINSTAT_addr]; omega), hrun _ (by simp only [Reg.SVC_PINSTAT_addr]; omega), State.pinCheck_hasTile]
          rfl
        have heval : ((s.at t).pinCheck i).railEval.regs = ((s.at t).pinCheck i).regs := by
          unfold State.railEval State.railForm
          rw [if_pos (by rw [hoff']; decide)]
          rfl
        exact (congrArg (Cells.get regReset · a) heval).trans (State.reg_set_ne _ _ _ ha)
  · have hx : exec (.overspeedUpdate t) s = .next (match s.ovs.upd with | none => s.at t | some _ => _) := rfl
    rw [hu] at hx
    exact hx

end Sys2Proof.Machine
end

section
/-! PROOF. Trims and drift (O37), the demand pages and the lists (O36). -/
namespace Sys2Proof.Machine

/-! ### Trims -/

theorem State.cyl_setCyl_fld (s : State) (k n v : Nat) {f g : Fld} (hf : f.lo + f.wid ≤ 48) (hg : g.lo + g.wid ≤ 48)
    (h : f.lo + f.wid ≤ g.lo ∨ g.lo + g.wid ≤ f.lo) : (s.setCyl k n f v).cyl k n g = s.cyl k n g := by
  rw [State.cyl, State.setCyl, State.workGet_workSet, Fld.get_put_ne f g _ _ hf hg h]
  rfl

theorem State.regs_setCyl (s : State) (k n : Nat) (f : Fld) (v : Nat) : (s.setCyl k n f v).regs = s.regs := rfl

theorem State.get_setCyl (s : State) (k n : Nat) (f : Fld) (v : Nat) (g : Fld) : (s.setCyl k n f v).get g = s.get g := rfl

/-- The trim of the timing leaves the registers and the run of invalid records. -/
theorem State.trimTiming_shows (s : State) (c : Commit) : (s.trimTiming c).regs = s.regs
    ∧ (s.trimTiming c).cyl c.cyl 1 cyInv = s.cyl c.cyl 1 cyInv ∧ (s.trimTiming c).trimDue = s.trimDue := by
  have h : ∀ v, (s.setCyl c.cyl 0 cyTT v).regs = s.regs ∧ (s.setCyl c.cyl 0 cyTT v).cyl c.cyl 1 cyInv = s.cyl c.cyl 1 cyInv
      ∧ (s.setCyl c.cyl 0 cyTT v).trimDue = s.trimDue := fun v => ⟨rfl, s.cyl_setCyl_ne 0 cyTT v cyInv (by omega), rfl⟩
  unfold State.trimTiming
  split
  · exact h _
  · exact h _

/-- So does the trim of the balance. -/
theorem State.trimBalance_shows (s : State) (c : Commit) : (s.trimBalance c).regs = s.regs
    ∧ (s.trimBalance c).cyl c.cyl 1 cyInv = s.cyl c.cyl 1 cyInv ∧ (s.trimBalance c).trimDue = s.trimDue := by
  have h : ∀ (x : State) (v : Nat), x.regs = s.regs → x.work = s.work → x.trimDue = s.trimDue → (x.setCyl c.cyl 1 cyBal v).regs = s.regs
      ∧ (x.setCyl c.cyl 1 cyBal v).cyl c.cyl 1 cyInv = s.cyl c.cyl 1 cyInv ∧ (x.setCyl c.cyl 1 cyBal v).trimDue = s.trimDue :=
    fun x v hr hw hd => ⟨hr, (x.cyl_setCyl_fld c.cyl 1 v (by decide) (by decide) (.inr (by decide))).trans (by
      rw [State.cyl, State.cyl, State.workGet, State.workGet, hw]), hd⟩
  unfold State.trimBalance
  split
  · exact h s _ rfl rfl rfl
  · extract_lets m
    split
    · exact ⟨rfl, rfl, rfl⟩
    · split
      · exact h s.free.2 _ rfl rfl rfl
      · exact h s _ rfl rfl rfl

/-- A VALID record of cylinder `c.cyl` before its lists fall due. -/
def State.trimValid (s : State) (c : Commit) : State :=
  let s := (s.setCyl c.cyl 1 cyInv 0).clearBit Reg.TRM_STAT_LOST c.cyl
  if c.phased then ((s.trimTiming c).trimBalance c).incMod Reg.TRM_STAT_UPDATES else s

theorem State.trimValid_shows (s : State) (c : Commit) : (s.trimValid c).cyl c.cyl 1 cyInv = 0
    ∧ ((s.trimValid c).get Reg.TRM_STAT_LOST).testBit c.cyl = false
    ∧ (s.trimValid c).get Reg.TRM_STAT_UPDATES = (if c.phased then (s.get Reg.TRM_STAT_UPDATES + 1) % 2 ^ 24 else s.get Reg.TRM_STAT_UPDATES)
    ∧ (s.trimValid c).trimDue = s.trimDue := by
  unfold State.trimValid
  extract_lets s₁
  have hinv : s₁.cyl c.cyl 1 cyInv = 0 := s.cyl_setCyl 1 cyInv c.cyl 0 (by decide)
  have hlost : (s₁.get Reg.TRM_STAT_LOST).testBit c.cyl = false := by
    refine ((s.setCyl c.cyl 1 cyInv 0).get_clearBit (by decide) c.cyl c.cyl).trans ?_
    rw [decide_eq_false (not_not_intro rfl), Bool.and_false]
  have hupd : s₁.get Reg.TRM_STAT_UPDATES = s.get Reg.TRM_STAT_UPDATES :=
    (State.get_set_ne _ _ _ _ (by simp)).trans (s.get_setCyl _ _ _ _ _)
  have hdue : s₁.trimDue = s.trimDue := rfl
  clear_value s₁
  split
  · next hp =>
    obtain ⟨hr₁, hi₁, hd₁⟩ := s₁.trimTiming_shows c
    obtain ⟨hr₂, hi₂, hd₂⟩ := (s₁.trimTiming c).trimBalance_shows c
    have hget : ∀ g : Fld, ((s₁.trimTiming c).trimBalance c).get g = s₁.get g := fun g =>
      State.get_congr (congrArg (Cells.get regReset · g.addr) (hr₂.trans hr₁))
    have hinv₂ : ((s₁.trimTiming c).trimBalance c).cyl c.cyl 1 cyInv = 0 := hi₂.trans (hi₁.trans hinv)
    have hdue₂ : ((s₁.trimTiming c).trimBalance c).trimDue = s.trimDue := hd₂.trans (hd₁.trans hdue)
    generalize (s₁.trimTiming c).trimBalance c = s₂ at *
    refine ⟨hinv₂, ?_, ?_, hdue₂⟩
    · rw [State.incMod, State.get_set_ne _ _ _ _ (by simp), hget]
      exact hlost
    · rw [State.get_incMod _ (by decide), hget, hupd]
  · exact ⟨hinv, hlost, hupd, hdue⟩

theorem State.testBit_setBit (s : State) {f : Fld} (hf : f.lo + f.wid ≤ 48) {n : Nat} (hn : n < f.wid) : ((s.setBit f n).get f).testBit n = true := by
  rw [State.get_setBit s hf hn, Nat.testBit_or, Nat.testBit_two_pow_self, Bool.or_true]

theorem State.trimInvalid_shows (s : State) {k : Nat} (hk : k < 24) (t : Word) :
    (s.trimInvalid k t).cyl k 1 cyInv = min (s.cyl k 1 cyInv + 1) 255
    ∧ (s.get Reg.TRM_CTRL_INV_HOLD ≤ s.cyl k 1 cyInv + 1 → s.cyl k 1 cyInv < 255 → ((s.trimInvalid k t).get Reg.TRM_STAT_LOST).testBit k = true)
    ∧ (s.trimInvalid k t).trimDue = s.trimDue := by
  unfold State.trimInvalid
  extract_lets n s₁ s₂
  have hn : n < 2 ^ cyInv.wid := by
    show n < 256
    omega
  have hinv : s₁.cyl k 1 cyInv = n := (s.cyl_setCyl 1 cyInv k n (by decide)).trans (Nat.mod_eq_of_lt hn)
  have hget : ∀ g : Fld, s₁.get g = s.get g := s.get_setCyl k 1 cyInv n
  have hdue : s₁.trimDue = s.trimDue := rfl
  have hinv₂ : s₂.cyl k 1 cyInv = s₁.cyl k 1 cyInv := ((s₁.setCyl k 0 cyTT 0).cyl_setCyl_fld k 1 0 (by decide) (by decide) (.inr (by decide))).trans
    (s₁.cyl_setCyl_ne 0 cyTT 0 cyInv (by omega))
  have hget₂ : ∀ g : Fld, s₂.get g = s₁.get g := fun g => ((s₁.setCyl k 0 cyTT 0).get_setCyl k 1 cyBal 0 g).trans (s₁.get_setCyl k 0 cyTT 0 g)
  have hdue₂ : s₂.trimDue = s₁.trimDue := rfl
  clear_value s₂ s₁
  split
  · refine ⟨?_, fun _ _ => ?_, hdue₂.trans hdue⟩
    · exact hinv₂.trans hinv
    · rw [State.get_report]
      exact s₂.testBit_setBit (by decide) hk
  · next h =>
    refine ⟨hinv, fun hhold hlt => ?_, hdue⟩
    by_contra hl
    refine h ⟨?_, by simpa using hl⟩
    rw [hget]
    omega

/-- The record that the trim tile takes is carried out. -/
def State.trimmed (s : State) (c : Commit) : State :=
  if ¬ s.hasTile 0x0A 0 then s
  else if c.valid then s.trimValid c
  else s.trimInvalid c.cyl c.at_

theorem exec_trimUpdate {t : Word} {s : State} {c : Commit} {rest : List Commit} (h : s.trimDue = c :: rest) :
    exec (.trimUpdate t) s = .next (({ s.at t with trimDue := rest }.trimmed c).buildDue c.cyl) := by
  refine congrArg Host.Outcome.next ?_
  show (match s.trimDue with | [] => _ | c :: rest => _) = _
  rw [h]
  rfl

theorem State.buildDue_keeps' (s : State) (k : Nat) : (s.buildDue k).regs = s.regs ∧ (s.buildDue k).work = s.work ∧ (s.buildDue k).trimDue = s.trimDue :=
  ⟨rfl, rfl, rfl⟩

/-- CD_F after a closure (R470). -/
def State.filtered (s : State) (c : Closure) (q k : Nat) : Nat :=
  let f := (s.cyl k (3 + 2 * q) cyCdF : Int)
  satUI 48 (f + openRound (((elapsed c.tStop c.at_ : Int) * 65536 - f : Rat) / 2 ^ s.get (Reg.QM_DR_DR_SH q)))

/-- A closure that is long enough teaches its actuator (R470). -/
def State.taught (s : State) (c : Closure) (q k : Nat) : State :=
  let f' := s.filtered c q k
  let s := s.setCyl k (3 + 2 * q) cyCdF f'
  let lim := (s.get (Reg.QM_DR_DRIFT_MAX q) * 160 : Int)
  let raw := openRound ((f' : Rat) / 65536 - s.cyl k (2 + 2 * q) cyCd0)
  let d := clampI (-lim) lim raw
  let s := s.setCyl k 6 (cyDrift q) (unsign 24 d)
  let x := 4 * c.bank + c.ch
  let s := (s.driftRecord q k x).driftHist c.bank c.ch d
  if d = raw then s else s.report 9 q 3 (x * 2 ^ 32) (some c.at_)

theorem State.driftKept_work (s : State) (q k x b c : Nat) (d : Int) : ((s.driftRecord q k x).driftHist b c d).work = s.work
    ∧ ((s.driftRecord q k x).driftHist b c d).closures = s.closures := by
  have h₁ := State.driftRecord_keeps s q k x (Nat.and_self _) (.refl _ s)
  have h₂ := State.driftHist_keeps (s.driftRecord q k x) b c d (Nat.and_self _) (.refl _ (s.driftRecord q k x))
  exact ⟨(h₂.same .work (by decide)).trans (h₁.same .work (by decide)), (h₂.same .closures (by decide)).trans (h₁.same .closures (by decide))⟩

theorem State.taught_shows (s : State) (c : Closure) (q k : Nat) :
    (q < 2 → (s.taught c q k).cyl k (3 + 2 * q) cyCdF = s.filtered c q k) ∧ (s.taught c q k).closures = s.closures := by
  have hlt : s.filtered c q k < 2 ^ cyCdF.wid := satU_lt _ _
  unfold State.taught
  extract_lets f' s₁ lim raw d s₂ x s₃
  have h₁ : s₁.cyl k (3 + 2 * q) cyCdF = f' := (s.cyl_setCyl (3 + 2 * q) cyCdF k f' (by decide)).trans (Nat.mod_eq_of_lt hlt)
  have hc₁ : s₁.closures = s.closures := rfl
  have h₂ : s₂.cyl k (3 + 2 * q) cyCdF = s₁.cyl k (3 + 2 * q) cyCdF ∨ 2 ≤ q := by
    by_cases hq : q < 2
    · exact .inl (s₁.cyl_setCyl_ne 6 (cyDrift q) _ cyCdF (by omega))
    · exact .inr (Nat.le_of_not_lt hq)
  have hc₂ : s₂.closures = s₁.closures := rfl
  clear_value s₂ s₁
  obtain ⟨hw, hc⟩ := s₂.driftKept_work q k x c.bank c.ch d
  have h₃ : s₃.cyl k (3 + 2 * q) cyCdF = s₂.cyl k (3 + 2 * q) cyCdF :=
    by
    rw [State.cyl, State.workGet, show s₃.work = s₂.work from hw]
    rfl
  have hc₃ : s₃.closures = s₂.closures := hc
  clear_value s₃
  split
  · exact ⟨fun hq => h₃.trans ((h₂.resolve_right (Nat.not_le.2 hq)).trans h₁), hc₃.trans (hc₂.trans hc₁)⟩
  · exact ⟨fun hq => h₃.trans ((h₂.resolve_right (Nat.not_le.2 hq)).trans h₁), hc₃.trans (hc₂.trans hc₁)⟩

theorem exec_driftUpdate {t : Word} {s : State} {c : Closure} {rest : List Closure} (h : s.closures = c :: rest) :
    exec (.driftUpdate t) s = .next (match c.drift with
      | none => { s.at t with closures := rest }
      | some q => match s.cylOf q c.bank c.ch with
        | none => { s.at t with closures := rest }
        | some k => if elapsed c.tStart c.tStop < s.get (Reg.QM_DR_DR_DMIN q) * us then { s.at t with closures := rest }
          else { s.at t with closures := rest }.taught c q k) := by
  refine congrArg Host.Outcome.next ?_
  show (match s.closures with | [] => _ | c :: rest => _) = _
  rw [h]
  rfl

/-- The closure that drift takes is gone, whatever it teaches. -/
theorem driftUpdate_closures {t : Word} {s : State} {c : Closure} {rest : List Closure} (h : s.closures = c :: rest) :
    ∃ s', exec (.driftUpdate t) s = .next s' ∧ s'.closures = rest ∧ (c.drift = none → s' = { s.at t with closures := rest })
      ∧ ∀ q k, q < 2 → c.drift = some q → s.cylOf q c.bank c.ch = some k → s.get (Reg.QM_DR_DR_DMIN q) * us ≤ elapsed c.tStart c.tStop →
        s'.cyl k (3 + 2 * q) cyCdF = s.filtered c q k := by
  have hx := exec_driftUpdate (t := t) h
  cases hd : c.drift with
  | none =>
    rw [hd] at hx
    exact ⟨_, hx, rfl, fun _ => rfl, fun q k _ he => absurd he (by simp)⟩
  | some q =>
    rw [hd] at hx
    cases hk : s.cylOf q c.bank c.ch with
    | none =>
      simp only [hk] at hx
      refine ⟨_, hx, rfl, fun he => absurd he (by simp), fun q' k _ he hk' => ?_⟩
      obtain rfl := Option.some.inj he
      exact absurd (hk.symm.trans hk') (by simp)
    | some k =>
      simp only [hk] at hx
      by_cases hshort : elapsed c.tStart c.tStop < s.get (Reg.QM_DR_DR_DMIN q) * us
      · rw [if_pos hshort] at hx
        refine ⟨_, hx, rfl, fun he => absurd he (by simp), fun q' k _ he hk' hlong => ?_⟩
        obtain rfl := Option.some.inj he
        exact absurd hlong (Nat.not_le.2 hshort)
      · rw [if_neg hshort] at hx
        obtain ⟨hcyl, hclos⟩ := State.taught_shows { s.at t with closures := rest } c q k
        refine ⟨_, hx, hclos, fun he => absurd he (by simp), fun q' k' hq he hk' _ => ?_⟩
        obtain rfl := Option.some.inj he
        obtain rfl := Option.some.inj (hk.symm.trans hk')
        exact hcyl hq

/-- Settles O37. -/
theorem trimsAndDrift : Obligations.TrimsAndDrift := by
  unfold Obligations.TrimsAndDrift
  refine fun t s => ⟨fun c rest h => ⟨_, exec_trimUpdate h, ?_⟩, fun h => ?_, fun c rest h => ?_, fun h => ?_⟩
  · obtain ⟨hregs, hwork, hdue⟩ := State.buildDue_keeps' ({ s.at t with trimDue := rest }.trimmed c) c.cyl
    generalize hz : State.trimmed _ c = z at *
    have hcyl : (z.buildDue c.cyl).cyl c.cyl 1 cyInv = z.cyl c.cyl 1 cyInv := by rw [State.cyl, State.workGet, hwork]; rfl
    have hget : ∀ g : Fld, (z.buildDue c.cyl).get g = z.get g := fun g => State.get_congr (congrArg (Cells.get regReset · g.addr) hregs)
    rw [hregs, hwork, hdue, hcyl, hget, hget]
    have hcases : z = if ¬ s.hasTile 0x0A 0 = true then { s.at t with trimDue := rest } else
        if c.valid = true then State.trimValid { s.at t with trimDue := rest } c else State.trimInvalid { s.at t with trimDue := rest } c.cyl c.at_ := hz.symm
    obtain ⟨hinv, hlost, hupd, hrest⟩ := State.trimValid_shows { s.at t with trimDue := rest } c
    refine ⟨?_, fun ht => ?_, fun ht hv _ => ?_, fun ht hv hlt => ?_⟩
    · rw [hcases]
      split_ifs
      · exact hrest
      · exact (State.trimInvalid_keeps _ c.cyl c.at_ (Nat.and_self _) (.refl _ { s.at t with trimDue := rest })).same .trimDue (by decide)
      · rfl
    · rw [hcases, if_pos (fun h => absurd (ht.symm.trans h) (by decide))]
      exact ⟨rfl, rfl⟩
    · rw [hcases, if_neg (not_not_intro ht), if_pos hv]
      exact ⟨hinv, hlost, hupd⟩
    · rw [hcases, if_neg (not_not_intro ht), if_neg (fun h => absurd (hv.symm.trans h) (by decide))]
      obtain ⟨h1, h2, -⟩ := State.trimInvalid_shows { s.at t with trimDue := rest } hlt c.at_
      exact ⟨h1, h2⟩
  · have hx : exec (.trimUpdate t) s = .next (match s.trimDue with | [] => s.at t | _ :: _ => _) := rfl
    rw [h] at hx
    exact hx
  · obtain ⟨s', hx, hclos, hnone, hsome⟩ := driftUpdate_closures (t := t) h
    refine ⟨s', hx, hclos, fun hd => ?_, fun q hd k hk hlong => ?_⟩
    · rw [hnone hd]
      exact ⟨rfl, rfl⟩
    · exact congrArg Int.ofNat (hsome q k q.isLt hd hk hlong)
  · have hx : exec (.driftUpdate t) s = .next (match s.closures with | [] => s.at t | _ :: _ => _) := rfl
    rw [h] at hx
    exact hx

/-! ### Demand pages and lists -/

/-- The fields that the entries of a list write. -/
def buildFlds (q : Nat) : Set Fld := {f | f = Reg.QM_STAT_CLAMPS q ∨ f = Reg.QM_CFG_PIN_LOST q}

section
variable (s : State) (q : Nat)

theorem State.d3_regs (u : Update) (before : Option Word) (w : Want) (d2 : Int) : (s.d3 q u before w d2).2.regs = s.regs :=
  (State.d3_keeps s q u before w d2 (Nat.and_self _) (.refl _ s)).same .regs (by decide)

theorem State.buildEntry_writes (k : Nat) (y : Int) (u : Update) (before : Option Word) (w : Want) :
    Writes (buildFlds q) s (s.buildEntry q k y u before w).2 := by
  have hm : Reg.QM_STAT_CLAMPS q ∈ buildFlds q := .inl rfl
  unfold State.buildEntry
  split
  · exact (Writes.refl _ s).inc hm
  · extract_lets r s₁ dur lo hi s₂ n
    have h₁ : Writes (buildFlds q) s s₁ := .of_regs (.refl _ s) (s.d3_regs q u before w _)
    split
    · exact h₁.inc hm
    · exact (h₁.inc hm).ite h₁

theorem State.buildAll_writes (k : Nat) (y : Int) (u : Update) (before : Option Word) (ws : List Want) :
    Writes (buildFlds q) s (s.buildAll q k y u before ws).2 := by
  induction ws generalizing s before with
  | nil => exact .refl _ s
  | cons w ws ih => exact (s.buildEntry_writes q k y u before w).trans (ih _ _)

end

/-- What the build of a list has done when it writes the list and offers it. -/
def State.listMade (s : State) (q k page : Nat) (stale : Bool) : List Word × State :=
  let n := s.get (Reg.QM_CYL_SHT q k)
  let wants := (if q = 0 then [0, 1, 2] else [3]).filterMap (s.want q k page stale)
  let pin := s.get (Reg.QM_CFG_Y_PIN q)
  match s.pinNow pin with
  | none =>
    if wants = [] then ([], s)
    else ([], (s.stick (Reg.QM_CFG_PIN_LOST q) 1).report 9 q 1 (pin * 2 ^ 38) (some s.now))
  | some y =>
    let sorted := wants.foldl (fun l w => insertWant (s.reg (Reg.SHT_LIST_addr n)) w l) []
    s.buildAll q k y ((s.wf s.delivering).last.getD default) none sorted

/-- A built list is written to working memory and offered to its Shuttle. -/
def State.listOffered (s : State) (q n g : Nat) (ws : List Word) : State :=
  ((s.workWrite (0x2000 + 32 * n + 16 * g) (ws ++ List.replicate (16 - ws.length) 0)).shtOffer n).inc (Reg.QM_STAT_BUILDS q)

theorem State.buildList_eq (s : State) (q k page : Nat) (stale : Bool) : s.buildList q k page stale
    = (s.listMade q k page stale).2.listOffered q (s.get (Reg.QM_CYL_SHT q k)) (1 - s.get (Reg.SHT_STAT_PAGE (s.get (Reg.QM_CYL_SHT q k))))
      (s.listMade q k page stale).1 := rfl

theorem State.now_stick (s : State) (f : Fld) (v : Nat) : (s.stick f v).now = s.now := rfl
theorem State.now_report (s : State) (src idx code arg : Nat) (time : Option Word) : (s.report src idx code arg time).now = s.now := rfl

theorem State.listMade_shows (s : State) (q k page : Nat) (stale : Bool) : Writes (buildFlds q) s (s.listMade q k page stale).2
    ∧ (s.listMade q k page stale).2.now = s.now := by
  unfold State.listMade
  extract_lets n wants pin
  split
  · split
    · exact ⟨.refl _ s, rfl⟩
    · exact ⟨((Writes.refl _ s).stick (.inr rfl) 1).report _ _ _ _ _, by rw [State.now_report, State.now_stick]⟩
  · exact ⟨s.buildAll_writes q k _ _ _ _, (State.buildAll_keeps s q k _ _ _ _ (Nat.and_self _) (.refl _ s)).same .now (by decide)⟩

theorem State.workWrite_regs (ws : List Word) (s : State) (a : Nat) : (s.workWrite a ws).regs = s.regs := by
  induction ws generalizing s a with
  | nil => rfl
  | cons w ws ih => exact ih _ _

theorem State.workWrite_now (ws : List Word) (s : State) (a : Nat) : (s.workWrite a ws).now = s.now := by
  induction ws generalizing s a with
  | nil => rfl
  | cons w ws ih => exact ih _ _

/-- A Shuttle that has taken its last list is offered the new one (R244). -/
theorem State.listOffered_shows (s : State) {q n : Nat} (hn : n < 64) (g : Nat) (ws : List Word)
    (h : s.is (Reg.SHT_CTRL_READY n) = false) : (s.listOffered q n g ws).get (Reg.SHT_CTRL_READY n) = 1
    ∧ ((s.listOffered q n g ws).sh n).readyAt = some s.now
    ∧ (s.listOffered q n g ws).get (Reg.QM_STAT_BUILDS q) = min (s.get (Reg.QM_STAT_BUILDS q) + 1) (Reg.QM_STAT_BUILDS q).max := by
  unfold State.listOffered State.shtOffer
  have hr := State.workWrite_regs (ws ++ List.replicate (16 - ws.length) 0) s (0x2000 + 32 * n + 16 * g)
  have hnow := State.workWrite_now (ws ++ List.replicate (16 - ws.length) 0) s (0x2000 + 32 * n + 16 * g)
  generalize State.workWrite s _ _ = s₁ at *
  have hget : ∀ f : Fld, s₁.get f = s.get f := fun f => State.get_congr (congrArg (Cells.get regReset · f.addr) hr)
  rw [if_neg (fun h' => absurd (((State.is_congr (hget _)).trans h).symm.trans h') (by decide))]
  refine ⟨?_, ?_, ?_⟩
  · rw [State.get_inc_ne (.inl (by simp only []; omega)), State.get_setSh, State.get_set_of_lt _ _ (by simp) (by simp)]
  · rw [State.sh_inc, State.sh_setSh _ _ hn, hnow]
  · rw [State.get_inc _ _ (by simp), State.get_setSh, State.get_set_ne _ _ _ _ (.inl (by simp only []; omega)), hget]

/-- The build of a cylinder is done or passed over (R459, R460). -/
def State.listNoted (s : State) (q k : Nat) : State := { s with maps := vset s.maps (24 * q + k) { built := true, due := false } }

theorem State.listBuild_eq (s : State) (q k : Nat) : s.listBuild q k =
    if ¬ s.hasTile 9 q ∨ ¬ s.is (Reg.QM_CFG_EN q) ∨ s.is (Reg.QM_CFG_TABERR q) ∨ ¬ s.is (Reg.QM_CYL_EN q k)
        ∨ ¬ s.is (Reg.SHT_CFG_WRITER (s.get (Reg.QM_CYL_SHT q k))) then s.listNoted q k
    else if s.is (Reg.SHT_CTRL_READY (s.get (Reg.QM_CYL_SHT q k))) then (s.listNoted q k).inc (Reg.QM_STAT_BUILD_SKIP q)
    else if ¬ s.buildPage.2.1 ∨ ¬ (s.sync s.primary = ssPhased ∨ s.sync s.primary = ssBorrowed ∨ s.sync s.primary = ssLimp) then s.listNoted q k
    else (s.listNoted q k).buildList q k s.buildPage.1 s.buildPage.2.2 := rfl

theorem State.maps_inc (s : State) (f : Fld) : (s.inc f).maps = s.maps := rfl

theorem State.listBuild_maps (s : State) {q k : Nat} (hq : q < 2) (hk : k < 24) :
    vget (s.listBuild q k).maps (24 * q + k) = { built := true, due := false } := by
  have h : vget (s.listNoted q k).maps (24 * q + k) = { built := true, due := false } := vget_vset_same s.maps _ (by omega)
  rw [State.listBuild_eq]
  split_ifs
  · exact h
  · rw [State.maps_inc]; exact h
  · exact h
  · refine (congrArg (vget · (24 * q + k)) ?_).trans h
    exact (State.buildList_keeps (s.listNoted q k) q k _ _ (Nat.and_self _) (.refl _ _)).same .maps (by decide)


/-- The conditions under which a tile builds for a cylinder (R459, R460). -/
def State.builds (s : State) (q k : Nat) : Bool :=
  s.hasTile 9 q && s.is (Reg.QM_CFG_EN q) && !s.is (Reg.QM_CFG_TABERR q) && s.is (Reg.QM_CYL_EN q k)
    && s.is (Reg.SHT_CFG_WRITER (s.get (Reg.QM_CYL_SHT q k)))

theorem State.not_builds_iff (s : State) (q k : Nat) : s.builds q k = false ↔
    (¬ s.hasTile 9 q = true ∨ ¬ s.is (Reg.QM_CFG_EN q) = true ∨ s.is (Reg.QM_CFG_TABERR q) = true ∨ ¬ s.is (Reg.QM_CYL_EN q k) = true
      ∨ ¬ s.is (Reg.SHT_CFG_WRITER (s.get (Reg.QM_CYL_SHT q k))) = true) := by
  unfold State.builds
  simp only [Bool.and_eq_false_iff, Bool.not_eq_false', Bool.not_eq_true, or_assoc]

section
variable (s : State) {q k : Nat}

theorem State.listBuild_off (h : s.builds q k = false) : s.listBuild q k = s.listNoted q k := by
  rw [State.listBuild_eq, if_pos ((s.not_builds_iff q k).1 h)]

theorem State.listBuild_on (h : s.builds q k = true) : s.listBuild q k =
    if s.is (Reg.SHT_CTRL_READY (s.get (Reg.QM_CYL_SHT q k))) then (s.listNoted q k).inc (Reg.QM_STAT_BUILD_SKIP q)
    else if ¬ s.buildPage.2.1 ∨ ¬ (s.sync s.primary = ssPhased ∨ s.sync s.primary = ssBorrowed ∨ s.sync s.primary = ssLimp) then s.listNoted q k
    else (s.listNoted q k).buildList q k s.buildPage.1 s.buildPage.2.2 := by
  rw [State.listBuild_eq, if_neg fun hn => absurd (h.symm.trans ((s.not_builds_iff q k).2 hn)) (by decide)]

theorem State.get_listNoted (f : Fld) : (s.listNoted q k).get f = s.get f := rfl
theorem State.now_listNoted : (s.listNoted q k).now = s.now := rfl

/-- The list of a cylinder that is built and offered to its Shuttle. -/
theorem State.buildList_shows (hq : q < 2) (page : Nat) (stale : Bool) (h : s.is (Reg.SHT_CTRL_READY (s.get (Reg.QM_CYL_SHT q k))) = false) :
    (s.buildList q k page stale).get (Reg.SHT_CTRL_READY (s.get (Reg.QM_CYL_SHT q k))) = 1
    ∧ ((s.buildList q k page stale).sh (s.get (Reg.QM_CYL_SHT q k))).readyAt = some s.now
    ∧ (s.buildList q k page stale).get (Reg.QM_STAT_BUILDS q) = min (s.get (Reg.QM_STAT_BUILDS q) + 1) (Reg.QM_STAT_BUILDS q).max := by
  have hn : s.get (Reg.QM_CYL_SHT q k) < 64 := State.get_lt s _
  obtain ⟨hw, hnow⟩ := s.listMade_shows q k page stale
  have hready : (s.listMade q k page stale).2.is (Reg.SHT_CTRL_READY (s.get (Reg.QM_CYL_SHT q k))) = false :=
    (hw.is fun f hf => .inl (by rcases hf with rfl | rfl <;> simp only [] <;> omega)).trans h
  have hbuilds : (s.listMade q k page stale).2.get (Reg.QM_STAT_BUILDS q) = s.get (Reg.QM_STAT_BUILDS q) :=
    hw _ fun f hf => by rcases hf with rfl | rfl <;> simp [Fld.misses]
  rw [State.buildList_eq, ← hnow, ← hbuilds]
  exact State.listOffered_shows _ hn _ _ hready

end

/-- A demand swap takes the other page, makes it valid and fresh, and touches no register but SVC_DEM. -/
theorem State.demandSwap_shows (s : State) : s.demandSwap.get Reg.SVC_DEM_PAGE = 1 - s.get Reg.SVC_DEM_PAGE
    ∧ s.demandSwap.get Reg.SVC_DEM_VALID = 1 ∧ s.demandSwap.get Reg.SVC_DEM_DEM_STALE = 0 ∧ s.demandSwap.svc.sinceSwap = some 0
    ∧ s.demandSwap.get Reg.SVC_DEM_DEM_TMO = s.get Reg.SVC_DEM_DEM_TMO
    ∧ ∀ a, a ≠ Reg.SVC_DEM_addr → s.demandSwap.reg a = s.reg a := by
  have hp : 1 - s.get Reg.SVC_DEM_PAGE < 2 := by omega
  have hget : ∀ g : Fld, s.demandSwap.get g = (((s.set Reg.SVC_DEM_PAGE (1 - s.get Reg.SVC_DEM_PAGE)).set Reg.SVC_DEM_VALID 1).set
    Reg.SVC_DEM_DEM_STALE 0).get g := fun _ => rfl
  have hreg : ∀ a, s.demandSwap.reg a = (((s.set Reg.SVC_DEM_PAGE (1 - s.get Reg.SVC_DEM_PAGE)).set Reg.SVC_DEM_VALID 1).set
    Reg.SVC_DEM_DEM_STALE 0).reg a := fun _ => rfl
  refine ⟨?_, ?_, ?_, rfl, ?_, fun a ha => ?_⟩
  · rw [hget, State.get_set_ne _ _ _ _ (by simp), State.get_set_ne _ _ _ _ (by simp), State.get_set_of_lt s _ (by decide) hp]
  · rw [hget, State.get_set_ne _ _ _ _ (by simp), State.get_set_of_lt _ _ (by decide) (by decide)]
  · rw [hget, State.get_set_of_lt _ _ (by decide) (by decide)]
  · rw [hget, State.get_set_ne _ _ _ _ (by simp), State.get_set_ne _ _ _ _ (by simp), State.get_set_ne _ _ _ _ (by simp)]
  · rw [hreg, State.reg_set_ne _ _ _ ha, State.reg_set_ne _ _ _ ha, State.reg_set_ne _ _ _ ha]

theorem State.reg_report (s : State) (src idx code arg : Nat) (time : Option Word) (a : Nat) :
    (s.report src idx code arg time).reg a = s.reg a := rfl

/-- A page that is due as stale is shown and reported so, and no register but SVC_DEM changes. -/
theorem State.demandStale_shows (s : State) (c : Nat) (t : Word) :
    let s' := (s.set Reg.SVC_DEM_DEM_STALE 1).report 9 0 2 c (some t)
    s'.get Reg.SVC_DEM_DEM_STALE = 1 ∧ s'.reports = s.reports ++ [⟨9, 0, 2, c, some t⟩]
      ∧ ∀ x, x ≠ Reg.SVC_DEM_addr → s'.reg x = s.reg x := by
  refine ⟨?_, rfl, fun x hx => ?_⟩
  · rw [State.get_report, State.get_set_of_lt _ _ (by decide) (by decide)]
  · rw [State.reg_report, State.reg_set_ne _ _ _ hx]

/-- Settles O36. -/
theorem demandAndLists : Obligations.DemandAndLists := by
  unfold Obligations.DemandAndLists
  refine fun t s => ⟨⟨_, rfl, State.demandSwap_shows (s.at t)⟩, fun age hage htmo hst => ⟨fun h => ?_, fun h => ?_⟩, fun h => ?_, fun q k => ?_⟩
  · refine ⟨_, congrArg Host.Outcome.next (if_pos ⟨htmo, fun h => absurd (hst.symm.trans h) (by decide), (by rw [show (s.at t).svc.sinceSwap = some age from hage]; exact decide_eq_true h)⟩), ?_⟩
    exact State.demandStale_shows (s.at t) _ t
  · refine congrArg Host.Outcome.next (if_neg fun h' => ?_)
    obtain ⟨-, -, hany⟩ := h'
    rw [show (s.at t).svc.sinceSwap = some age from hage] at hany
    exact absurd (of_decide_eq_true hany) (Nat.not_le.2 h)
  · refine congrArg Host.Outcome.next (if_neg fun h' => ?_)
    obtain ⟨hn, hs, hany⟩ := h'
    rcases h with h | h | h
    · exact hn h
    · rw [show (s.at t).svc.sinceSwap = none from h] at hany
      exact absurd hany (by simp)
    · exact hs h
  · extract_lets m n on built may
    have hx : m.due = true → exec (.listBuild t q k) s = .next ((s.at t).listBuild q k) := fun h => congrArg Host.Outcome.next (if_pos h)
    have hbuilt : built ((s.at t).listBuild q k) := State.listBuild_maps (s.at t) q.isLt k.isLt
    refine ⟨fun h => ⟨_, hx h, hbuilt, fun hoff => ?_⟩, fun h hon hr => ⟨_, hx h, ?_⟩, fun h hon hr hmay => ⟨_, hx h, ?_⟩, fun h => ?_⟩
    · rw [State.listBuild_off (s.at t) hoff]
      exact ⟨rfl, rfl⟩
    · have hr' : (s.at t).is (Reg.SHT_CTRL_READY ((s.at t).get (Reg.QM_CYL_SHT q k))) = true := hr
      rw [State.listBuild_on (s.at t) hon, if_pos hr']
      exact ⟨(State.work_inc _ _).trans rfl, State.get_inc _ _ (by simp)⟩
    · have hr' : (s.at t).is (Reg.SHT_CTRL_READY ((s.at t).get (Reg.QM_CYL_SHT q k))) = false := hr
      rw [State.listBuild_on (s.at t) hon, if_neg (fun h => absurd (hr'.symm.trans h) (by decide)), if_neg (by
        rintro (h | h)
        · exact h hmay.1
        · exact h hmay.2)]
      exact State.buildList_shows ((s.at t).listNoted q k) q.isLt _ _ hr
    · exact congrArg Host.Outcome.next (if_neg fun h' => absurd (h.symm.trans h') (by decide))

end Sys2Proof.Machine
end

section
/-! PROOF. The refutations of O33 and O34. -/
namespace Sys2Proof.Machine

/-! ### Monitor self-tests -/

/-- The test of monitor 8, supply monitor 0, is the next of its period. The monitor stands in mode L. -/
def lowMode : State := ({ monTest := { next := 8 } } : State).set (Reg.SM_STAT_MODE 0) mdL

theorem lowMode_next : lowMode.monEnabled 8 = true ∧ lowMode.monTest.run = none ∧ lowMode.get (Reg.SM_STAT_MODE 0) = mdL
    ∧ (if decide (lowMode.get Reg.CMP_CTRL_ST_PER * ms ≤ elapsed lowMode.monTest.period 0) then 0 else lowMode.monTest.next) = 8 := by decide

theorem lowMode_tested : Out.shows (exec (.monitorSelftest 0) lowMode) (Reg.SM_STAT_MODE 0) = mdM := by decide

/-- Refutes O34: the self-test of a supply monitor that is not in mode M sets its MODE, a register. -/
theorem not_rotationMonitorsAndTimers : ¬ Obligations.RotationMonitorsAndTimers := by
  unfold Obligations.RotationMonitorsAndTimers
  intro h
  obtain ⟨hen, hrun, hmode, hfrom⟩ := lowMode_next
  obtain ⟨-, -, hself, -⟩ := h.2 0 lowMode
  obtain ⟨s', hx, -, -, hregs⟩ := (hself hrun).1 8 (by decide) (Nat.le_of_eq hfrom) hen fun j hj hle => absurd (hfrom ▸ hle) (Nat.not_le.2 hj)
  have hshow := lowMode_tested
  rw [hx] at hshow
  have hsame : s'.get (Reg.SM_STAT_MODE 0) = mdL :=
    (State.get_congr (congrArg (Cells.get regReset · (Reg.SM_STAT_MODE 0).addr) (hregs (by decide)))).trans hmode
  exact absurd (hshow.symm.trans hsame) (by decide)

/-! ### Passes -/

/-- A pass at entry 291, which no sequencer has: the register that sequencer 0 reads as this entry's is that of input 43, TEMP. -/
def strayPass : Pass := { entry := Reg.ADC_IN_addr 43 - Reg.SEQ_ENT_addr 0 0 }

/-- A conversion of TEMP that is in flight since the instant 0. -/
def tempConv : Conv := { slice := 0, input := 43, at_ := 0, owact := false }

/-- Sequencer 0 runs `strayPass`, and `tempConv` is in flight. -/
def strayEntry : State := { seqs := vset (Vector.replicate 16 {}) 0 { run := some strayPass, conv := some tempConv } }

theorem nearestOpen_intCast (n : Int) : nearestOpen (n : Rat) = n := by
  unfold nearestOpen roundUp
  rw [if_neg fun h => h.2 (Rat.den_intCast n)]
  show ⌊(n : Rat) + 1 / 2⌋ = n
  rw [Int.floor_intCast_add]
  norm_num

/-- The code of TEMP at 228.125 °C. -/
theorem tempCode_hot : tempCode 228125 = 205 := by
  unfold tempCode
  rw [← nearestOpen_intCast 205]
  norm_num

/-- What the completed conversion leaves of an input that feeds no pressure input, with its result. -/
def State.converted (s : State) (k : Nat) (p : Pass) (c : Conv) (r : Int × Bool) : State :=
  let w := taggedWord r.1 r.2 c
  let s := (s.setSq k { s.sq k with conv := none }).setReg (Reg.ADC_IN_addr c.input) w
  let s := if c.owact then s.inc (Reg.SEQ_CNT1_OW_CLASH k) else s
  (s.bufResult k w).passAdvance k p c r.1

theorem strayEntry_exec : exec (.conversionComplete 600 0 228125) strayEntry
    = .next ((strayEntry.at 600).converted 0 strayPass tempConv (clampI (-32767) 32767 (tempCode 228125),
      decide (clampI (-32767) 32767 (tempCode 228125) ≠ tempCode 228125))) := by rfl

set_option maxRecDepth 4000 in
theorem strayEntry_goes : (((strayEntry.at 600).converted 0 strayPass tempConv (205, false)).sq 0).run.map (·.step) = some 1 := by decide

theorem strayEntry_ready : (strayEntry.sq 0).run = some strayPass ∧ (strayEntry.sq 0).conv = some tempConv ∧ strayEntry.anaUp = true
    ∧ 600 ≤ elapsed tempConv.at_ 600 ∧ strayEntry.owRuns 0 strayPass.entry = false := by decide

/-- Refutes O33: where the entry that a pass runs is beyond those of its sequencer, the register read as this entry's can be the one that the
conversion's own result is written to, and the result makes it ask for an open-wire test. -/
theorem not_sequencerPasses : ¬ Obligations.SequencerPasses := by
  unfold Obligations.SequencerPasses
  intro h
  obtain ⟨hrun, hconv, hup, hlong, how⟩ := strayEntry_ready
  obtain ⟨-, -, hseq⟩ := h 600 strayEntry
  obtain ⟨-, -, hcomplete, -⟩ := hseq 0
  obtain ⟨-, hready, -⟩ := hcomplete strayPass tempConv 228125 hrun hconv
  obtain ⟨-, s', hx, -, hplain, -⟩ := hready hlong hup (by decide)
  rw [strayEntry_exec, tempCode_hot, show (clampI (-32767) 32767 205, decide (clampI (-32767) 32767 205 ≠ (205 : Int))) = ((205, false) : Int × Bool)
    from rfl] at hx
  obtain rfl := Host.Outcome.next.inj hx
  have hdone : (((strayEntry.at 600).converted 0 strayPass tempConv (205, false)).sq 0).run.map (·.step) = some 0 :=
    congrArg (Option.map (·.step)) (hplain how).2
  exact absurd (strayEntry_goes.symm.trans hdone) (by decide)

end Sys2Proof.Machine
end

section
/-! PROOF. The refutations of O30 and O31. NMARK can name more marks than a Warp has: mark 8 is read from WRPn_SYNC itself, and its POS from
STATE, BG, REV_PEND and INIT, which an edge changes. -/
namespace Sys2Proof.Machine

/-- The Warp's state that a command leaves. -/
def Out.warp (o : Out) (n : Nat) : Option Warp :=
  match o with
  | .next s => some (s.wp n)
  | _ => none

/-- Crank Warp 0, whose output has just become active at position `p` of 100, with nine marks; its SRC is `src`. -/
def ninthMark (p src : Nat) : State :=
  (((((((({ primary := 1, warps := vset (Vector.replicate 6 {}) 0 { pend := some (true, 30000), pos := some p } } : State).set
    Reg.SYS_STATUS_LOOM_RUN 1).set (Reg.WRP_CFG_POS 0) 100).set (Reg.WRP_CFG_NMARK 0) 9).set (Reg.WRP_ACC0_QHI 0) 1).set
    (Reg.WRP_ACC0_QLO 0) 0).set (Reg.WRP_SYNC_STATE 0) ssHunt).set (Reg.WRP_SYNC_INIT 0) 1).set (Reg.WRP_SYNC_SRC 0) src

theorem ninthMark_edge (p src : Nat) (h : (p, src) = (63, 0) ∨ (p, src) = (61, 2)) :
    let s := ninthMark p src
    (s.wp 0).pend = some (true, 30000) ∧ s.running = true ∧ s.filt 0 ≤ elapsed 30000 30000 ∧ (s.wp 0).level = false
      ∧ s.stallBy 0 30000 = none ∧ s.sync 0 ≠ ssOff ∧ s.sync 0 ≠ ssStall ∧ (s.wp 0).pos = some p ∧ (s.wp 0).track = false
      ∧ s.trk 0 ≠ ssPhased ∧ p < s.posn 0 ∧ s.spanFrom 0 p = 1 ∧ s.markAt 0 (s.posAfter 0 p 1) = none
      ∧ 22857 ≤ elapsed (s.lastEdge 0) 30000
      ∧ s.get (Reg.WRP_ACC0_QLO 0) ≤ ratioQ (elapsed (s.lastEdge 0) 30000) (s.predicted 0)
      ∧ ratioQ (elapsed (s.lastEdge 0) 30000) (s.predicted 0) < s.get (Reg.WRP_ACC0_QHI 0) := by
  rcases h with h | h <;> cases h <;> decide

theorem ninthMark_lost : (Out.warp (exec (.edgeFilterExpiry 30000 0) (ninthMark 63 0)) 0).map (·.pos) = some none := by decide

/-- Refutes O30: an edge clears INIT, which makes the position of the edge the one of mark 8, and what was a tooth before is a fault. -/
theorem not_wheelEdges : ¬ Obligations.WheelEdges := by
  unfold Obligations.WheelEdges
  intro h
  obtain ⟨hpend, hrun, hfilt, hlevel, hstall, hoff, hst, hpos, htrack, htrk, -, hspan, hmark, hm, hqlo, hqhi⟩ := ninthMark_edge 63 0 (.inl rfl)
  obtain ⟨hcrank, -⟩ := h 30000 30000 0 (ninthMark 63 0) hpend hrun hfilt hlevel hstall
  obtain ⟨hknown, -⟩ := hcrank (by decide) hoff hst (.inl rfl)
  obtain ⟨-, hplain, -⟩ := hknown 63 hpos htrack
  obtain ⟨-, htooth, -⟩ := hplain hm (by rw [show (ninthMark 63 0).spanFrom (0 : Fin 6) 63 = 1 from hspan]; exact hmark)
  obtain ⟨s', hx, -, -, hpos', -⟩ := htooth hqlo hqhi
  have hlost := ninthMark_lost
  rw [hx] at hlost
  have hsome := (hpos' (.inl htrk)).1
  exact absurd ((Option.some.inj hlost).symm.trans hsome) (by simp)

theorem ninthMark_span : (Out.warp (exec (.edgeFilterExpiry 30000 0) (ninthMark 61 2)) 0).map (fun w => w.own.map (·.nspan)) = some (some 2)
    ∧ (ninthMark 61 2).spanFrom 0 ((ninthMark 61 2).posAfter 0 61 1) = 1 := by decide

/-- Refutes O31: an edge clears INIT, and the span from its tooth is the one to mark 8 as it reads then. -/
theorem not_weftUpdatesAndRegisters : ¬ Obligations.WeftUpdatesAndRegisters := by
  unfold Obligations.WeftUpdatesAndRegisters
  intro h
  obtain ⟨hpend, hrun, hfilt, hlevel, hstall, hoff, hst, hpos, htrack, htrk, hp, hspan, hmark, hm, hqlo, hqhi⟩ := ninthMark_edge 61 2 (.inr rfl)
  obtain ⟨s', hx, hown⟩ := h.1 30000 30000 0 61 (ninthMark 61 2) (by decide) hpend hrun hfilt hlevel hstall hoff hst (.inl rfl) hpos htrack hp hspan
    hmark hm hqlo hqhi
  obtain ⟨u, hu, -, -, -, -, hn, -⟩ := hown (.inl htrk)
  obtain ⟨hshow, hone⟩ := ninthMark_span
  rw [hx] at hshow
  have hspan2 : u.nspan = 2 := by
    have : (s'.wp 0).own.map (·.nspan) = some 2 := Option.some.inj hshow
    rw [show (s'.wp 0).own = some u from hu] at this
    exact Option.some.inj this
  exact absurd (hspan2.symm.trans (hn.trans hone)) (by decide)

end Sys2Proof.Machine
end

section
/-! PROOF. The triggers of a sequencer (O32). -/
namespace Sys2Proof.Machine

/-! ### A trigger -/

section
variable (s : State) {k : Nat} (p : Word)

/-- What a trigger leaves in a free pending slot. -/
def State.triggerTaken (k : Nat) : State := (s.setSq k { s.sq k with pend := some { t := p, at_ := s.now } }).seqShow k

theorem State.seqTrigger_free (hon : s.seqOn k = true) (hq : (s.sq k).pend = none) : s.seqTrigger k p = s.triggerTaken p k := by
  unfold State.seqTrigger
  rw [if_neg (fun h => h hon), if_pos (by rw [hq]; rfl)]
  rfl

theorem State.triggerTaken_sq (hk : k < 16) : (s.triggerTaken p k).sq k = { s.sq k with pend := some { t := p, at_ := s.now } } :=
  State.sq_setSq (s := s) _ hk

theorem State.triggerTaken_seqTok : (s.triggerTaken p k).seqTok = s.seqTok := rfl

theorem State.triggerTaken_pend (hk : k < 16) : (s.triggerTaken p k).get (Reg.SEQ_STAT_PEND k) = 1 := by
  unfold State.triggerTaken State.seqShow
  rw [State.get_flag _ _ _ (by simp) (by simp), State.sq_setSq _ _ hk]
  rfl

/-- A trigger that meets a full pending slot of a HOST sequencer is counted. -/
theorem State.seqTrigger_full (hk : k < 16) (hon : s.seqOn k = true) (hq : (s.sq k).pend.isSome = true) (ht : s.trigOf k ≠ tgGrid) :
    (s.seqTrigger k p).sq k = s.sq k
      ∧ (s.seqTrigger k p).get (Reg.SEQ_CNT0_OVERRUN k) = min (s.get (Reg.SEQ_CNT0_OVERRUN k) + 1) (Reg.SEQ_CNT0_OVERRUN k).max := by
  have hgrid : (s.inc (Reg.SEQ_CNT0_OVERRUN k)).trigOf k ≠ tgGrid := by
    unfold State.trigOf
    rw [State.get_inc_ne (by simp [Fld.misses])]
    exact ht
  have hx : s.seqTrigger k p = (s.inc (Reg.SEQ_CNT0_OVERRUN k)).report 6 k 1 ((s.inc (Reg.SEQ_CNT0_OVERRUN k)).get (Reg.SEQ_CNT0_OVERRUN k)) (some p) := by
    unfold State.seqTrigger
    rw [if_neg (fun h => h hon), if_neg (fun h => absurd (Option.isNone_iff_eq_none.1 h) (Option.isSome_iff_ne_none.1 hq))]
    simp only [if_neg hgrid]
  rw [hx]
  exact ⟨rfl, (State.get_report ..).trans (State.get_inc _ _ (by simp))⟩

end

/-! ### The tokens of a gate -/

section
variable (s : State) (k : Nat)

theorem State.popTok_tail (hk : k < 16) : vget (s.popTok k).seqTok k = (vget s.seqTok k).tail := vget_vset_same _ _ hk

theorem State.popTok_inc (f : Fld) : ((s.popTok k).inc f).seqTok = (s.popTok k).seqTok ∧ ((s.popTok k).inc f).sq k = s.sq k := ⟨rfl, rfl⟩

/-- A discarded token. -/
theorem State.popTok_counts (hk : k < 16) :
    let s' := (s.popTok k).inc (Reg.SEQ_CNT1_SRC_ERR k)
    vget s'.seqTok k = (vget s.seqTok k).tail ∧ s'.sq k = s.sq k
      ∧ s'.get (Reg.SEQ_CNT1_SRC_ERR k) = min (s.get (Reg.SEQ_CNT1_SRC_ERR k) + 1) (Reg.SEQ_CNT1_SRC_ERR k).max :=
  ⟨s.popTok_tail k hk, rfl, State.get_inc (s.popTok k) _ (by simp)⟩

theorem State.packFlush_none (h : (s.sq k).pack = []) : s.packFlush k = s := if_pos h

end

/-- A trigger leaves the period's instant as it is. -/
theorem State.seqTrigger_timer (s : State) {k : Nat} (hk : k < 16) (p : Word) : ((s.seqTrigger k p).sq k).timer = (s.sq k).timer := by
  have taken : ((s.setSq k { s.sq k with pend := some { t := p, at_ := s.now } }).sq k).timer = (s.sq k).timer :=
    by rw [s.sq_setSq _ hk]
  have filled : (((s.inc (Reg.SEQ_CNT0_OVERRUN k)).setSq k { s.sq k with fillsPend := (s.sq k).fillsPend + 1 }).sq k).timer = (s.sq k).timer :=
    by rw [State.sq_setSq (s.inc _) _ hk]
  by_cases hon : s.seqOn k = true
  · by_cases hq : (s.sq k).pend.isNone = true
    · rw [s.seqTrigger_free p hon (Option.isNone_iff_eq_none.1 hq)]
      exact taken
    · by_cases hg : (s.inc (Reg.SEQ_CNT0_OVERRUN k)).trigOf k = tgGrid
      · simp only [State.seqTrigger, hon, hq, hg, not_true_eq_false, if_false, if_true]
        exact filled
      · simp only [State.seqTrigger, hon, hq, hg, not_true_eq_false, if_false]
        rfl
  · rw [State.seqTrigger, if_pos hon]

theorem State.is_setSq (s : State) (k : Nat) (q : Sequencer) (f : Fld) : (s.setSq k q).is f = s.is f := rfl

/-- A sequencer switched on or off: EN, and the period that runs from now or not at all. -/
theorem State.seqEnable_shows (s : State) {k : Nat} (hk : k < 16) (en : Bool) (ht : s.hasTile 6 k = true) (he : s.is (Reg.SEQ_CTRL_EN k) ≠ en) :
    (s.seqEnable k en).is (Reg.SEQ_CTRL_EN k) = en ∧ (s.seqEnable k en).sq k
      = { s.sq k with timer := if en = true then some (addW s.now (s.get (Reg.SEQ_TIMER_PER k) * us)) else none } := by
  unfold State.seqEnable
  rw [if_neg (by rintro (h | h); exacts [h ht, he h])]
  exact ⟨(State.is_setSq ..).trans (State.is_flag _ _ (by simp) (by simp)), State.sq_setSq (s := s.flag _ _) _ hk⟩

/-! ### The commands -/

section
variable (t : Word) (k : Fin 16) (s : State)

/-- A period instant passes, and the next one is due. -/
def State.periodPassed (s : State) (k : Nat) (p : Word) : State :=
  s.setSq k { s.sq k with timer := some (addW p (s.get (Reg.SEQ_TIMER_PER k) * us)) }

theorem execSeqTimer_due {p : Word} (hp : (s.sq k).timer = some p) (hb : notBefore t p = true) : execSeqTimer t k s
    = .next (if s.trigOf k = tgTimer then ((s.at t).periodPassed k p).seqTrigger k p else (s.at t).periodPassed k p) := by
  unfold execSeqTimer
  simp only [show ((s.at t).sq k).timer = some p from hp, hb, if_true]
  rfl

theorem execSeqTimer_early {p : Word} (hp : (s.sq k).timer = some p) (hb : notBefore t p = false) : execSeqTimer t k s = .next (s.at t) := by
  unfold execSeqTimer
  simp only [show ((s.at t).sq k).timer = some p from hp, hb, Bool.false_eq_true, if_false]

theorem execSeqTimer_off (hn : (s.sq k).timer = none) : execSeqTimer t k s = .next (s.at t) := by
  unfold execSeqTimer
  simp only [show ((s.at t).sq k).timer = none from hn]

/-- An opening token of the Shuttle that the sequencer follows. -/
def State.gateOpens (s : State) (k : Nat) (at_ : Word) : State :=
  if s.trigOf k = tgGrid then
    if (s.sq k).closing.isSome then s
    else if s.seqOn k then
      let s := (s.popTok k).packFlush k
      (s.setSq k { s.sq k with winStart := s.get (Reg.SEQ_STAT_WPTR k) }).set (Reg.SEQ_STAT_WIN k) 1
    else s.popTok k
  else if s.trigOf k = tgGate then (s.popTok k).seqTrigger k at_
  else s.popTok k

theorem execSeqGateOpen_eq {n : Nat} {at_ : Word} {l : List GateTok} (h : vget s.seqTok k = .opening n at_ :: l) : execSeqGateOpen t k s
    = .next (if ¬ s.srcOk k n then ((s.at t).popTok k).inc (Reg.SEQ_CNT1_SRC_ERR k) else (s.at t).gateOpens k at_) := by
  unfold execSeqGateOpen
  simp only [show vget (s.at t).seqTok k = .opening n at_ :: l from h, List.head?_cons]
  rfl

theorem execSeqGridTick_eq {n i : Nat} {at_ : Word} {l : List GateTok} (h : vget s.seqTok k = .tick n i at_ :: l) : execSeqGridTick t k s
    = .next (if ¬ s.srcOk k n then ((s.at t).popTok k).inc (Reg.SEQ_CNT1_SRC_ERR k)
      else if s.trigOf k = tgGrid ∧ s.is (Reg.SEQ_STAT_WIN k) then ((s.at t).popTok k).seqTrigger k at_ else (s.at t).popTok k) := by
  unfold execSeqGridTick
  simp only [show vget (s.at t).seqTok k = .tick n i at_ :: l from h, List.head?_cons]
  rfl

/-- The window that a closing token ends. -/
def State.gateCloses (s : State) (k : Nat) (c : Closing) : State := (s.setSq k { s.sq k with closing := some c }).set (Reg.SEQ_STAT_WIN k) 0

theorem execSeqGateClose_eq {n i o : Nat} {late inc : Bool} {a : Word} {l : List GateTok} (h : vget s.seqTok k = .closing n i o late inc a :: l) :
    execSeqGateClose t k s = .next (if ¬ s.srcOk k n then ((s.at t).popTok k).inc (Reg.SEQ_CNT1_SRC_ERR k)
      else if s.trigOf k = tgGrid ∧ s.is (Reg.SEQ_STAT_WIN k) then ((s.at t).popTok k).gateCloses k ⟨i, o, late, inc, s.get Reg.SVC_CYCLE_CYCLE⟩
      else (s.at t).popTok k) := by
  unfold execSeqGateClose
  simp only [show vget (s.at t).seqTok k = .closing n i o late inc a :: l from h, List.head?_cons]
  rfl

theorem execSeqGate_idle (h : vget s.seqTok k = []) : execSeqGateOpen t k s = .next (s.at t) ∧ execSeqGridTick t k s = .next (s.at t)
    ∧ execSeqGateClose t k s = .next (s.at t) := by
  have h' : vget (s.at t).seqTok k = [] := h
  unfold execSeqGateOpen execSeqGridTick execSeqGateClose
  simp only [h', List.head?_nil, and_self]

end

/-- Settles O32. -/
theorem sequencerTriggers : Obligations.SequencerTriggers := by
  unfold Obligations.SequencerTriggers
  intro t k s q waits ready popped
  have hk := k.isLt
  have goes : ∀ (x : State) (p : Word), (x.sq k).run = q.run → (x.sq k).pend = q.pend → x.now = t → x.seqOn k = s.seqOn k → ready →
      waits p (x.seqTrigger k p) ∧ (x.seqTrigger k p).seqTok = x.seqTok := fun x p hrun hpend hn hon hr => by
    rw [x.seqTrigger_free p (hon.trans hr.1) (hpend.trans hr.2)]
    exact ⟨⟨by rw [x.triggerTaken_sq p hk, hn], by rw [x.triggerTaken_sq p hk]; exact hrun, x.triggerTaken_pend p hk⟩, rfl⟩
  have tile_of_on : s.seqOn k = true → s.hasTile 6 k = true := fun h => by
    simp only [State.seqOn, Bool.and_eq_true] at h
    exact h.1.1
  have hpop : vget ((s.at t).popTok k).seqTok k = (vget s.seqTok k).tail := (s.at t).popTok_tail k hk
  have triggered : ∀ p, ready → popped (((s.at t).popTok k).seqTrigger k p) ∧ waits p (((s.at t).popTok k).seqTrigger k p) := fun p hr => by
    obtain ⟨hw, htok⟩ := goes ((s.at t).popTok k) p rfl rfl rfl rfl hr
    exact ⟨(congrArg (vget · k.val) htok).trans hpop, hw⟩
  refine ⟨fun htrig => ⟨fun hr => ?_, fun hon hq => ?_⟩, fun htile hno => ?_, fun htile => ⟨?_, fun en => ?_⟩, fun en htile hen => ?_,
    fun en htile hen => ?_, fun hn => execSeqTimer_off t k s hn, fun p hp => ⟨fun hb => ?_, fun hb => execSeqTimer_early t k s hp hb⟩,
    fun n at_ l htok hsrc => ⟨fun htrig hr => ?_, fun htrig hcl hon hpack => ?_, fun htrig hcl => ?_⟩,
    fun n i at_ l htok hsrc htrig hwin hr => ?_, fun n i o late inc a l htok hsrc htrig hwin => ?_,
    fun x l htok => ⟨?_, ?_, ?_⟩, fun htok => execSeqGate_idle t k s htok⟩
  · exact ⟨_, congrArg Host.Outcome.next ((if_neg (fun h => h (tile_of_on hr.1))).trans (if_pos htrig)), (goes (s.at t) t rfl rfl rfl rfl hr).1⟩
  · exact ⟨_, congrArg Host.Outcome.next ((if_neg (fun h => h (tile_of_on hon))).trans (if_pos htrig)),
      (s.at t).seqTrigger_full t hk hon hq (by rw [show (s.at t).trigOf k = tgHost from htrig]; decide)⟩
  · refine congrArg Host.Outcome.next ((if_neg (fun h => h htile)).trans ?_)
    by_cases htrig : s.trigOf k = tgHost
    · have hoff : s.seqOn k = false := hno.resolve_left fun h => h htrig
      exact (if_pos htrig).trans (if_pos (fun h => absurd (hoff.symm.trans h) (by decide)))
    · exact if_neg htrig
  · exact refused_of_wrej (congrArg Host.Outcome.next (if_pos fun h => absurd (htile.symm.trans h) (by decide)))
  · exact refused_of_wrej (congrArg Host.Outcome.next (if_neg fun h => absurd (htile.symm.trans h) (by decide)))
  · exact ⟨_, congrArg Host.Outcome.next (if_pos htile), (s.at t).seqEnable_shows hk en htile hen⟩
  · exact congrArg Host.Outcome.next ((if_pos htile).trans (if_pos (.inr hen)))
  · have hx := execSeqTimer_due t k s hp hb
    have hsq : ((s.at t).periodPassed k p).sq k = { q with timer := some (addW p (s.get (Reg.SEQ_TIMER_PER k) * us)) } :=
      State.sq_setSq (s := s.at t) _ hk
    by_cases htrig : s.trigOf k = tgTimer
    · rw [if_pos htrig] at hx
      refine ⟨_, hx, (State.seqTrigger_timer _ hk p).trans (congrArg Sequencer.timer hsq), fun _ hr => ?_, fun h => absurd htrig h⟩
      exact (goes ((s.at t).periodPassed k p) p (by rw [hsq]) (by rw [hsq]) rfl rfl hr).1
    · rw [if_neg htrig] at hx
      exact ⟨_, hx, congrArg Sequencer.timer hsq, fun h => absurd h htrig, fun _ => ⟨(congrArg Sequencer.pend hsq :), rfl⟩⟩
  · have hx := (execSeqGateOpen_eq t k s htok).trans (congrArg Host.Outcome.next ((if_neg (fun h => h hsrc)).trans
      ((if_neg (by rw [show (s.at t).trigOf k = tgGate from htrig]; decide)).trans (if_pos htrig))))
    exact ⟨_, hx, triggered at_ hr⟩
  · have hx := (execSeqGateOpen_eq t k s htok).trans (congrArg Host.Outcome.next ((if_neg (fun h => h hsrc)).trans
      ((if_pos htrig).trans ((if_neg (by rw [show ((s.at t).sq k).closing = none from hcl]; decide)).trans (if_pos hon)))))
    refine ⟨_, hx, ?_⟩
    rw [State.packFlush_none ((s.at t).popTok k) k hpack]
    exact ⟨hpop, State.get_set_of_lt _ _ (by simp) (by simp), State.sq_setSq (s := (s.at t).popTok k) _ hk⟩
  · exact (execSeqGateOpen_eq t k s htok).trans (congrArg Host.Outcome.next ((if_neg (fun h => h hsrc)).trans ((if_pos htrig).trans (if_pos hcl))))
  · exact ⟨_, (execSeqGridTick_eq t k s htok).trans (congrArg Host.Outcome.next ((if_neg (fun h => h hsrc)).trans (if_pos ⟨htrig, hwin⟩))), triggered at_ hr⟩
  · refine ⟨_, (execSeqGateClose_eq t k s htok).trans (congrArg Host.Outcome.next ((if_neg (fun h => h hsrc)).trans (if_pos ⟨htrig, hwin⟩))), hpop,
      State.get_set_of_lt _ _ (by simp) (by simp), State.sq_setSq (s := (s.at t).popTok k) _ hk⟩
  · rintro n a rfl
    by_cases hsrc : s.srcOk k n = true
    · exact ⟨_, (execSeqGateOpen_eq t k s htok).trans (congrArg Host.Outcome.next (if_neg fun h => h hsrc)), fun h => absurd (h.symm.trans hsrc) (by decide)⟩
    · exact ⟨_, (execSeqGateOpen_eq t k s htok).trans (congrArg Host.Outcome.next (if_pos hsrc)), fun _ => (s.at t).popTok_counts k hk⟩
  · rintro n i a rfl
    by_cases hsrc : s.srcOk k n = true
    · exact ⟨_, (execSeqGridTick_eq t k s htok).trans (congrArg Host.Outcome.next (if_neg fun h => h hsrc)), fun h => absurd (h.symm.trans hsrc) (by decide)⟩
    · exact ⟨_, (execSeqGridTick_eq t k s htok).trans (congrArg Host.Outcome.next (if_pos hsrc)), fun _ => (s.at t).popTok_counts k hk⟩
  · rintro n i o la inc a rfl
    by_cases hsrc : s.srcOk k n = true
    · exact ⟨_, (execSeqGateClose_eq t k s htok).trans (congrArg Host.Outcome.next (if_neg fun h => h hsrc)), fun h => absurd (h.symm.trans hsrc) (by decide)⟩
    · exact ⟨_, (execSeqGateClose_eq t k s htok).trans (congrArg Host.Outcome.next (if_pos hsrc)), fun _ => (s.at t).popTok_counts k hk⟩

end Sys2Proof.Machine
end

section
/-! PROOF. The Proex link: what a change of LINK, of the divergence state and of the angle's source leaves of the pair's state, and how the link
and its timeouts go on (O58). -/
namespace Sys2Proof.Machine

/-! ### What stays of the pair's state -/

/-- The pair's state without the counts of comparisons, what a hard declaration notes, the own merge key and whether CYC_OFS is set. -/
def Pair.steady (p : Pair) : Pair := { p with dc := 0, hc := 0, ac := 0, hardSrc := 0, leftSync := false, key := 0, ofsSet := false }

/-- From `s₀` to `s` the steady part of the pair's state stays, and causes are only added. -/
def Calm (s₀ s : State) : Prop := s.pair.steady = s₀.pair.steady ∧ s₀.causes <+: s.causes

section
variable {s₀ s s' : State}

theorem Calm.refl (s : State) : Calm s s := ⟨rfl, List.prefix_rfl⟩

theorem Calm.trans {s₁ : State} (h : Calm s₀ s₁) (h' : Calm s₁ s) : Calm s₀ s := ⟨h'.1.trans h.1, h.2.trans h'.2⟩

theorem Calm.of_same (h : Calm s₀ s) (hp : s'.pair.steady = s.pair.steady) (hc : s'.causes = s.causes) : Calm s₀ s' :=
  ⟨hp.trans h.1, hc ▸ h.2⟩

theorem Calm.cause (h : Calm s₀ s) (code idx : Nat) : Calm s₀ (s.cause code idx) := ⟨h.1, h.2.trans (List.prefix_append _ _)⟩

theorem Calm.set (h : Calm s₀ s) (f : Fld) (v : Nat) : Calm s₀ (s.set f v) := h.of_same rfl rfl

theorem Calm.inc (h : Calm s₀ s) (f : Fld) : Calm s₀ (s.inc f) := h.of_same rfl rfl

theorem Calm.report (h : Calm s₀ s) (src idx code arg : Nat) (time : Option Word) : Calm s₀ (s.report src idx code arg time) := h.of_same rfl rfl

theorem Calm.stick (h : Calm s₀ s) (f : Fld) (v : Nat) : Calm s₀ (s.stick f v) := h.of_same rfl rfl

theorem Calm.setWp (h : Calm s₀ s) (n : Nat) (w : Warp) : Calm s₀ (s.setWp n w) := h.of_same rfl rfl

theorem Calm.setWf (h : Calm s₀ s) (n : Nat) (w : Weft) : Calm s₀ (s.setWf n w) := h.of_same rfl rfl

theorem Calm.withPair (h : Calm s₀ s) {p : Pair} (hp : p.steady = s.pair.steady) : Calm s₀ { s with pair := p } := h.of_same hp rfl

variable (h : Calm s₀ s)
include h

theorem State.setDiv_calm (new : Nat) : Calm s₀ (s.setDiv new) := by
  unfold State.setDiv
  extract_lets old x _ s₁ s₂ y _ s₃
  split
  · exact h
  · have h₁ : Calm s₀ s₁ := Calm.withPair (h.set _ _ : Calm s₀ x) rfl
    have h₂ : Calm s₀ s₂ := by unfold s₂; split; exacts [h₁.inc _, h₁]
    have h₃ : Calm s₀ s₃ := by
      unfold s₃
      split
      · exact Calm.withPair ((h₂.inc _).set _ 0 : Calm s₀ y) rfl
      · exact h₂
    exact h₃.report _ _ _ _ _

theorem State.leaveStopOwn_calm : Calm s₀ s.leaveStopOwn := by
  unfold State.leaveStopOwn
  split
  · exact State.setDiv_calm h _
  · exact h

theorem State.resolveHard_calm : Calm s₀ s.resolveHard := by
  unfold State.resolveHard
  split
  · exact h
  · split
    · exact State.leaveStopOwn_calm (State.setDiv_calm h _)
    · split
      · exact State.setDiv_calm h _
      · exact (State.setDiv_calm h _).cause _ _
      · exact State.setDiv_calm h _

theorem State.divLink_calm : Calm s₀ s.divLink := by
  unfold State.divLink
  split
  · exact h
  · split
    · split
      · exact State.setDiv_calm h _
      · exact h
    · split
      · exact State.setDiv_calm h _
      · exact State.resolveHard_calm h

theorem State.verdict_calm (pass : Bool) : Calm s₀ (s.verdict pass) := by
  unfold State.verdict
  split
  · exact State.resolveHard_calm (h.set _ _)
  · exact h

theorem State.learnAbort_calm (cause : Nat) : Calm s₀ (s.learnAbort cause) := by
  have hk := State.learnAbort_keeps s cause (Nat.and_self _) (.refl _ s)
  exact h.of_same (congrArg Pair.steady (hk.same .pair (by decide))) (hk.same .causes (by decide))

theorem State.counter_calm (n : Nat) : Calm s₀ (s.counter n) := by
  have hk := State.counter_keeps s n (Nat.and_self _) (.refl _ s)
  exact h.of_same (congrArg Pair.steady (hk.same .pair (by decide))) (hk.same .causes (by decide))

theorem State.restartHunt_calm (n : Nat) (ref : Option Word) : Calm s₀ (s.restartHunt n ref) := by
  have hk := State.restartHunt_keeps s n ref (Nat.and_self _) (.refl _ s)
  exact h.of_same (congrArg Pair.steady (hk.same .pair (by decide))) (hk.same .causes (by decide))

theorem State.primaryChanged_calm (old new : Nat) : Calm s₀ (s.primaryChanged old new) := by
  unfold State.primaryChanged
  extract_lets s₁ s₂ s₃ _ s₄ _ s₅ s₆ s₇ _ s₈
  have h₁ : Calm s₀ s₁ := by unfold s₁; split; exacts [h.of_same rfl rfl, h]
  have h₂ : Calm s₀ s₂ := by unfold s₂; split; exacts [h₁.of_same rfl rfl, h₁]
  have h₃ : Calm s₀ s₃ := by unfold s₃; split; exacts [h₂.of_same rfl rfl, h₂]
  have h₄ : Calm s₀ s₄ := by unfold s₄; split; exacts [h₃, h₃.of_same rfl rfl]
  have h₅ : Calm s₀ s₅ := by unfold s₅; split; exacts [h₄.of_same rfl rfl, h₄]
  have h₆ : Calm s₀ s₆ := by
    unfold s₆
    split
    · exact State.verdict_calm (s := (s₅.learnAbort 6).cyclesGone) ((State.learnAbort_calm h₅ 6).of_same rfl rfl) false
    · exact h₅
  have h₇ : Calm s₀ s₇ := by unfold s₇; split; exacts [State.counter_calm h₆ 3, h₆]
  have h₈ : Calm s₀ s₈ := by unfold s₈; split; exacts [h₇.of_same rfl rfl, h₇]
  exact State.leaveStopOwn_calm h₈

theorem State.goFrom_calm (n new : Nat) (t : Word) (i : Nat) : Calm s₀ (s.goFrom n new t i) := by
  unfold State.goFrom
  extract_lets old s₁ s₂ s₃
  split
  · exact h
  · have h₁ : Calm s₀ s₁ := Calm.set (s := s.countSeconds) (h.of_same rfl rfl) _ _
    have h₂ : Calm s₀ s₂ := h₁.report _ _ _ _ _
    have h₃ : Calm s₀ s₃ := by unfold s₃; split; exacts [h₂.inc _, h₂]
    split
    · exact State.primaryChanged_calm h₃ _ _
    · exact h₃

theorem State.fellBack_calm (n src : Nat) (t : Word) : Calm s₀ (s.fellBack n src t) := by
  unfold State.fellBack
  exact ((h.stick _ 1).inc _).report _ _ _ _ _

theorem State.goAway_calm (n new src : Nat) (t : Word) (i : Nat) : Calm s₀ (s.goAway n new src t i) := by
  unfold State.goAway
  extract_lets s₁ s₂ _ s₃ _ s₄ w
  have h₁ : Calm s₀ s₁ := State.goFrom_calm (h.set _ src) _ _ _ _
  have h₂ : Calm s₀ s₂ := h₁.set _ _
  have h₃ : Calm s₀ s₃ := h₂.setWp _ _
  have h₄ : Calm s₀ s₄ := h₃.setWf _ _
  exact State.fellBack_calm (h₄.setWf _ _) _ _ _

theorem State.weft0Returns_calm : Calm s₀ s.weft0Returns := h.setWf _ _

theorem State.sourceLost_calm (t : Word) : Calm s₀ (s.sourceLost t) := by
  unfold State.sourceLost
  extract_lets n bg i s₁
  split
  · exact (State.goAway_calm h _ _ _ _ _).set _ _
  · split
    · have h₁ : Calm s₀ s₁ := by unfold s₁; split; exacts [h, State.restartHunt_calm h _ none]
      have h₂ : Calm s₀ ((s₁.set (Reg.WRP_SYNC_BG n) 0).set (Reg.WRP_SYNC_SRC n) n) := (h₁.set _ 0).set _ n
      exact State.goFrom_calm (State.weft0Returns_calm h₂) _ _ _ _
    · exact h

theorem State.borrowCheck_calm : Calm s₀ s.borrowCheck := by
  unfold State.borrowCheck
  split
  · exact State.sourceLost_calm h _
  · exact h

theorem State.setCheck_calm (code : Nat) : Calm s₀ (s.setCheck code) := by
  unfold State.setCheck
  split
  · exact h
  · exact (h.set _ _).report _ _ _ _ _

theorem State.linkFollow_calm (old new : Nat) : Calm s₀ (s.linkFollow old new) := by
  unfold State.linkFollow
  extract_lets _ s₁ s₂ s₃
  have h₁ : Calm s₀ s₁ := by unfold s₁; split; exacts [h.withPair rfl, h]
  have h₂ : Calm s₀ s₂ := by unfold s₂; split; exacts [State.setCheck_calm h₁ _, h₁]
  have h₃ : Calm s₀ s₃ := by unfold s₃; split; exacts [(h₂.inc _).cause _ _, h₂]
  exact (State.borrowCheck_calm (State.divLink_calm h₃)).set _ _

theorem State.setLink_calm (new : Nat) : Calm s₀ (s.setLink new) := by
  rw [State.setLink_eq]
  split
  · exact h
  · exact State.linkFollow_calm ((h.set _ _).report _ _ _ _ _) _ _

end

/-! ### The divergence state and the state of a Warp -/

/-- No field of a Warp's own registers, of the divergence state or of a learning session is `g`. -/
theorem sourceFlds_miss {g : Fld} (n : Nat) (hd : ∀ f ∈ divFlds, f.misses g) (h3 : g.addr ≠ Reg.WFT_CLST_addr 0)
    (h4 : g.addr % 128 < 0x10) : ∀ f ∈ sourceFlds n, f.misses g := by
  rintro f ((rfl | rfl | rfl | rfl) | ((rfl | rfl) | hf | hf) | (rfl | rfl))
  case inr.inl.inr.inl => exact learnFlds_miss h3 f hf
  case inr.inl.inr.inr => exact hd f hf
  all_goals exact .inl (by simp only [wholeReg, Reg.WRP_EDGE_addr]; omega)

theorem State.div_withPair (s : State) (p : Pair) : ({ s with pair := p } : State).div = s.div := rfl

theorem State.setDiv_div (s : State) {new : Nat} (h : new < 8) : (s.setDiv new).div = new := by
  unfold State.setDiv
  extract_lets old x _ s₁ s₂ y _ s₃
  split
  · exact Eq.symm ‹_›
  · have h₁ : s₁.div = new := (State.div_withPair x _).trans (State.get_set_of_lt s Reg.PRX_STAT_DIV (by decide) h)
    have h₂ : s₂.div = new := by
      unfold s₂
      split
      · exact (State.get_inc_ne (f := Reg.PRX_CNT1_SOFTS) (g := Reg.PRX_STAT_DIV) (by simp [Fld.misses])).trans h₁
      · exact h₁
    have h₃ : s₃.div = new := by
      unfold s₃
      split
      · exact (State.div_withPair y _).trans ((State.get_set_ne (s₂.inc _) Reg.PRX_STAT_VERD Reg.PRX_STAT_DIV 0 (by decide)).trans
          ((State.get_inc_ne (by simp [Fld.misses])).trans h₂))
      · exact h₂
    exact (State.get_report ..).trans h₃

theorem State.goFrom_sync (s : State) (n : Nat) {new : Nat} (h : new < 16) (t : Word) (i : Nat) : (s.goFrom n new t i).sync n = new := by
  have hl : ∀ f ∈ learnFlds, f.misses (Reg.WRP_SYNC_STATE n) := learnFlds_miss (by simp only [Reg.WFT_CLST_addr]; omega)
  have hd : ∀ f ∈ divFlds, f.misses (Reg.WRP_SYNC_STATE n) := divFlds_miss (by simp only [Reg.PRX_CNT1_addr]; omega)
    (fun h => by simp only [Reg.PRX_STAT_addr] at h; omega)
  unfold State.goFrom
  extract_lets old s₁ s₂ s₃
  split
  · exact Eq.symm ‹_›
  · have h₁ : s₁.sync n = new := State.get_set_of_lt s.countSeconds (Reg.WRP_SYNC_STATE n) (by simp) h
    have h₃ : s₃.sync n = new := by
      unfold s₃
      split
      · exact (State.get_inc_ne (.inl (by simp only []; omega))).trans h₁
      · exact h₁
    split
    · exact (State.primaryChanged_writes (F := learnFlds ∪ divFlds) (.refl _ s₃) (fun f hf => .inl hf) (fun f hf => .inr hf) _ _ _
        (fun f hf => hf.elim (hl f) (hd f))).trans h₃
    · exact h₃

theorem State.goAway_sync (s : State) (n : Nat) {new : Nat} (h : new < 16) (src : Nat) (t : Word) (i : Nat) :
    (s.goAway n new src t i).sync n = new := by
  have hgo := (s.set (Reg.WRP_SYNC_SRC n) src).goFrom_sync n h t i
  have hw : Writes {Reg.WRP_SYNC_BG n, Reg.WRP_SYNC_CRANK_LOST n, Reg.WRP_CNT2_SWITCH n} ((s.set (Reg.WRP_SYNC_SRC n) src).goFrom n new t i)
      (s.goAway n new src t i) := by
    unfold State.goAway
    extract_lets s₁ s₂ _ s₃ _ s₄ w
    have h₂ : Writes {Reg.WRP_SYNC_BG n, Reg.WRP_SYNC_CRANK_LOST n, Reg.WRP_CNT2_SWITCH n} s₁ s₂ := (Writes.refl _ s₁).set (by simp) _
    have h₄ : Writes {Reg.WRP_SYNC_BG n, Reg.WRP_SYNC_CRANK_LOST n, Reg.WRP_CNT2_SWITCH n} s₁ s₄ := (h₂.of_regs (s' := s₃) rfl).of_regs rfl
    have h₅ : Writes {Reg.WRP_SYNC_BG n, Reg.WRP_SYNC_CRANK_LOST n, Reg.WRP_CNT2_SWITCH n} s₁
      (s₄.setWf 1 { w with switched := true, formed := [], last := none, prev := none, restarted := true, held := false }) := h₄.of_regs rfl
    exact ((h₅.stick (by simp) 1).inc (by simp)).report _ _ _ _ _
  refine (hw _ ?_).trans hgo
  rintro f (rfl | rfl | rfl)
  · simp [Fld.misses]
  · simp [Fld.misses]
  · exact .inl (by simp only []; omega)

/-- A unit whose BORROWED ends is not in BORROWED. -/
theorem State.sourceLost_sync (s : State) (t : Word) (h : s.sync s.primary = ssBorrowed) : (s.sourceLost t).sync s.primary ≠ ssBorrowed := by
  unfold State.sourceLost
  extract_lets n bg i s₁
  split
  · have hx : ((s.goAway n ssLimp 3 t i).set (Reg.WRP_SYNC_BG n) bg).sync n = ssLimp :=
      (State.get_set_ne _ _ _ _ (by simp)).trans (s.goAway_sync n (by decide) 3 t i)
    rw [show ((s.goAway n ssLimp 3 t i).set (Reg.WRP_SYNC_BG n) bg).sync s.primary = ssLimp from hx]
    decide
  · rw [if_pos (show s.away n = true from decide_eq_true (.inr h))]
    intro hx
    rw [State.goFrom_sync _ n (by decide)] at hx
    exact absurd hx (by decide)

/-! ### LINK -/

/-- What follows a change of LINK or CHECK writes. -/
def settleFlds (n : Nat) : Set Fld := {Reg.PRX_PEVSTAT_LEVEL} ∪ sourceFlds n

theorem State.linkSettles_writes (s : State) : Writes (settleFlds s.primary) s s.divLink.borrowCheck.pevShow := by
  have hs : sourceFlds s.primary ⊆ settleFlds s.primary := fun f hf => .inr hf
  have hd : divFlds ⊆ settleFlds s.primary := fun f hf => hs (.inr (.inl (.inr (.inr hf))))
  have hp : s.divLink.primary = s.primary := State.divLink_primary s
  exact (State.borrowCheck_writes (State.divLink_writes (.refl _ s) hd) (hp.symm ▸ hs)).set (by simp [settleFlds]) _

theorem settleFlds_miss {g : Fld} (n : Nat) (hd : ∀ f ∈ divFlds, f.misses g) (h3 : g.addr ≠ Reg.WFT_CLST_addr 0)
    (h4 : g.addr % 128 < 0x10) : ∀ f ∈ settleFlds n, f.misses g := by
  rintro f (rfl | hf)
  · exact .inl (by simp only []; omega)
  · exact sourceFlds_miss n hd h3 h4 f hf

theorem divFlds_miss_check : ∀ f ∈ divFlds, f.misses Reg.PRX_STAT_CHECK := divFlds_miss (by decide) fun _ => .inr (by decide)

theorem divFlds_miss_losses : ∀ f ∈ divFlds, f.misses Reg.PRX_CNT1_LOSSES := by
  rintro f (rfl | rfl | rfl | rfl) <;> simp [Fld.misses]

theorem State.setCheck_check (s : State) {code : Nat} (h : code < 8) : (s.setCheck code).get Reg.PRX_STAT_CHECK = code := by
  unfold State.setCheck
  split
  · assumption
  · exact (State.get_report ..).trans (State.get_set_of_lt s Reg.PRX_STAT_CHECK (by decide) h)

theorem State.setCheck_writes_check (s : State) (code : Nat) : Writes {Reg.PRX_STAT_CHECK} s (s.setCheck code) :=
  State.setCheck_writes (.refl _ s) (by simp) code

/-- The loss of LINK as it is told: LINK is DOWN, CHECK NONE, and from UP a loss is counted and a cause. -/
def State.linkLost (s : State) : State :=
  let x := ((s.set Reg.PRX_STAT_LINK 0).report 0x10 0 1 (0 * 2 ^ 38) (some s.now)).setCheck 4
  if s.get Reg.PRX_STAT_LINK = 2 then (x.inc Reg.PRX_CNT1_LOSSES).cause 15 0 else x

theorem State.setLink_lost (s : State) (h : s.get Reg.PRX_STAT_LINK ≠ 0) : s.setLink 0 = s.linkLost.divLink.borrowCheck.pevShow := by
  rw [State.setLink_eq, if_neg h]
  unfold State.linkFollow State.linkLost
  simp only [true_and, if_true, (by decide : (0 : Nat) ≠ 2), if_false]

/-- LINK as it is told where it does not go DOWN. -/
def State.linkGained (s : State) (new : Nat) : State :=
  let x := (s.set Reg.PRX_STAT_LINK new).report 0x10 0 1 (new * 2 ^ 38) (some s.now)
  if new = 2 then x.setPair { x.pair with ofsSet := false } else x

theorem State.setLink_gained (s : State) {new : Nat} (h : s.get Reg.PRX_STAT_LINK ≠ new) (hnew : new ≠ 0) :
    s.setLink new = (s.linkGained new).divLink.borrowCheck.pevShow := by
  rw [State.setLink_eq, if_neg h]
  unfold State.linkFollow State.linkGained
  simp only [hnew, false_and, if_false]

theorem State.linkGained_writes (s : State) (new : Nat) : Writes {Reg.PRX_STAT_LINK} s (s.linkGained new) := by
  unfold State.linkGained
  extract_lets x
  have hx : Writes {Reg.PRX_STAT_LINK} s x := ((Writes.refl _ s).set (by simp) _).report _ _ _ _ _
  split
  · exact hx.of_regs rfl
  · exact hx

theorem State.linkGained_primary (s : State) (new : Nat) : (s.linkGained new).primary = s.primary := by
  unfold State.linkGained
  extract_lets x
  split <;> rfl

theorem State.get_cause (s : State) (code idx : Nat) (f : Fld) : (s.cause code idx).get f = s.get f := rfl

/-- LINK goes DOWN: CHECK is NONE, and from UP the loss is counted and Headland hears of it. -/
theorem State.setLink_down (s : State) (h : s.get Reg.PRX_STAT_LINK ≠ 0) : (s.setLink 0).get Reg.PRX_STAT_CHECK = 4
    ∧ (s.get Reg.PRX_STAT_LINK = 2 → (15, 0) ∈ (s.setLink 0).causes
      ∧ (s.setLink 0).get Reg.PRX_CNT1_LOSSES = min (s.get Reg.PRX_CNT1_LOSSES + 1) Reg.PRX_CNT1_LOSSES.max) := by
  have hcheck : s.linkLost.get Reg.PRX_STAT_CHECK = 4 := by
    unfold State.linkLost
    extract_lets x
    have hx : x.get Reg.PRX_STAT_CHECK = 4 := State.setCheck_check _ (by decide)
    split
    · exact (State.get_cause ..).trans ((State.get_inc_ne (by simp [Fld.misses])).trans hx)
    · exact hx
  rw [s.setLink_lost h]
  refine ⟨(s.linkLost.linkSettles_writes _ (settleFlds_miss _ divFlds_miss_check (by decide) (by decide))).trans hcheck, fun h2 => ⟨?_, ?_⟩⟩
  · have hcause : (15, 0) ∈ s.linkLost.causes := by
      unfold State.linkLost
      simp only [if_pos h2, State.cause, List.mem_append, List.mem_singleton, or_true]
    exact (((State.borrowCheck_calm (State.divLink_calm (.refl s.linkLost))).set _ _).2).subset hcause
  · rw [s.linkLost.linkSettles_writes _ (settleFlds_miss _ divFlds_miss_losses (by decide) (by decide))]
    unfold State.linkLost
    extract_lets x
    have hx : x.get Reg.PRX_CNT1_LOSSES = s.get Reg.PRX_CNT1_LOSSES := by
      refine (State.setCheck_writes_check _ 4 _ (by simp [Fld.misses])).trans ?_
      rw [State.get_report, State.get_set_ne _ _ _ _ (by simp)]
    rw [if_pos h2, ← hx, State.get_cause]
    exact State.get_inc _ _ (by decide)

/-! ### The commands -/

theorem State.divClear_div (s : State) (h : s.div = dvBothStop) : s.divClear.div = if s.linkUp then dvSoft else dvSolo := by
  unfold State.divClear
  rw [if_pos h]
  split <;> exact State.setDiv_div _ (by decide)

theorem divFlds_miss_mapValid : ∀ f ∈ divFlds, f.misses Reg.PRX_STAT_MAP_VALID := divFlds_miss (by decide) fun _ => .inr (by decide)

theorem divFlds_miss_link : ∀ f ∈ divFlds, f.misses Reg.PRX_STAT_LINK := divFlds_miss (by decide) fun _ => .inr (by decide)

/-- Settles O58. -/
theorem proexLink : Obligations.ProexLink := by
  unfold Obligations.ProexLink
  intro t s link
  refine ⟨fun hrx hl => ?_, fun h => ?_, fun hl ht => ?_, fun h => ?_, fun hm ht => ?_, fun h => ?_, fun hp hb ha => ?_, fun h => ?_, fun header hr => ?_,
    fun header hr => ?_, fun hg => ?_, fun hg => ⟨fun hb => ?_, fun hb => ?_⟩⟩
  · refine ⟨_, congrArg Host.Outcome.next (if_pos ⟨hrx, hl⟩), State.setLink_link _ (by decide), ?_⟩
    exact congrArg Pair.beatAt (State.setLink_calm (.refl ((s.at t).setPair { (s.at t).pair with beatAt := t })) 1).1
  · refine congrArg Host.Outcome.next (if_neg fun h' => ?_)
    rcases h with h | h
    · exact absurd (h.symm.trans h'.1) (by decide)
    · exact h h'.2
  · exact ⟨_, congrArg Host.Outcome.next (if_pos ⟨hl, ht⟩), State.setLink_link _ (by decide), (s.at t).setLink_down hl⟩
  · refine congrArg Host.Outcome.next (if_neg fun h' => ?_)
    rcases h with h | h
    · exact h'.1 h
    · exact absurd h'.2 (Nat.not_le.2 h)
  · have hw : Writes (sourceFlds s.primary) ((s.at t).set Reg.PRX_STAT_MAP_VALID 0) ((s.at t).set Reg.PRX_STAT_MAP_VALID 0).borrowCheck :=
      State.borrowCheck_writes (.refl _ _) (fun f hf => hf)
    refine ⟨_, congrArg Host.Outcome.next (if_pos ⟨hm, ht⟩), ?_, ?_⟩
    · exact (hw _ (sourceFlds_miss _ divFlds_miss_mapValid (by decide) (by decide))).trans (State.get_set_of_lt _ _ (by decide) (by decide))
    · exact (hw _ (sourceFlds_miss _ divFlds_miss_link (by decide) (by decide))).trans (State.get_set_ne (s.at t) _ _ _ (by decide))
  · refine congrArg Host.Outcome.next (if_neg fun h' => ?_)
    rcases h with h | h
    · exact absurd (h.symm.trans h'.1) (by decide)
    · exact absurd h'.2 (Nat.not_le.2 h)
  · exact ⟨_, congrArg Host.Outcome.next (if_pos ⟨hb, ha⟩), (s.at t).sourceLost_sync t hb⟩
  · refine congrArg Host.Outcome.next (if_neg fun h' => ?_)
    rcases h with h | h
    · exact h h'.1
    · exact absurd (h.symm.trans h'.2) (by decide)
  · refine ⟨_, congrArg Host.Outcome.next (if_pos hr), State.get_inc (s.at t) _ (by cases header <;> decide), fun a ha => State.reg_inc_ne (s.at t) _ ?_⟩
    cases header <;> exact ha
  · exact congrArg Host.Outcome.next (if_neg fun h => absurd (hr.symm.trans h) (by decide))
  · exact refused_of_wrej (congrArg Host.Outcome.next (if_pos hg))
  · exact ⟨_, congrArg Host.Outcome.next (if_neg fun h => absurd (hg.symm.trans h) (by decide)), (s.at t).divClear_div hb⟩
  · exact congrArg Host.Outcome.next ((if_neg fun h => absurd (hg.symm.trans h) (by decide)).trans (if_neg hb))

end Sys2Proof.Machine
end

section
/-! PROOF. BEAT and TOOTH frames of the partner (O59). -/
namespace Sys2Proof.Machine

/-! ### Bytes of a frame -/

theorem beNat_lt (l : List Nat) (h : ∀ x ∈ l, x < 256) : beNat l < 256 ^ l.length := by
  have hfold : ∀ (l : List Nat) (a n : Nat), (∀ x ∈ l, x < 256) → a < 256 ^ n → l.foldl (fun a b => a * 256 + b) a < 256 ^ (n + l.length) := by
    intro l
    induction l with
    | nil => exact fun a n _ ha => ha
    | cons x xs ih =>
      intro a n hl ha
      have hx : x < 256 := hl x (by simp)
      have hstep : a * 256 + x < 256 ^ (n + 1) := by
        rw [Nat.pow_succ]; omega
      have := ih (a * 256 + x) (n + 1) (fun y hy => hl y (by simp [hy])) hstep
      rwa [List.length_cons, Nat.add_comm xs.length 1, ← Nat.add_assoc]
  simpa [beNat] using hfold l 0 0 h (by decide)

theorem payNat_lt {p : List Nat} (h : ∀ x ∈ p, x < 256) (a n : Nat) : payNat p a n < 256 ^ n := by
  refine Nat.lt_of_lt_of_le (beNat_lt _ fun x hx => h x (List.mem_of_mem_drop (List.mem_of_mem_take hx))) ?_
  exact Nat.pow_le_pow_right (by decide) (by rw [List.length_take]; omega)

theorem mem_replaceNat (l : List (Nat × Nat)) (k v : Nat) : (k, v) ∈ replaceNat l k v := by simp [replaceNat]

/-! ### A BEAT -/

section
variable (s : State) (f : Nat) (p : List Nat) (arrival : Word)

/-- The registers that show the partner's BEAT. -/
def State.partShown : State :=
  let fl := payNat p 18 1
  let sy := payNat p 19 1
  let s := (s.set Reg.PRX_PART_STATE (sy / 16)).set Reg.PRX_PART_SRC (sy / 4 % 4)
  let s := (s.set Reg.PRX_PART_DIV (payNat p 20 1 / 32)).set Reg.PRX_PART_VERD (fl / 4 % 4)
  let s := (s.set Reg.PRX_PART_LOOM_RUN (fl / 32 % 2)).set Reg.PRX_PART_SIG_VALID (fl / 16 % 2)
  s.set Reg.PRX_PART_LAST_ESN (payNat p 22 4)

/-- The registers of PRX_PART. -/
def partFlds : Set Fld := {g | g.addr = Reg.PRX_PART_addr}

theorem State.partShown_writes : Writes partFlds s (s.partShown p) := by
  have h : ∀ g : Fld, g.addr = Reg.PRX_PART_addr → g ∈ partFlds := fun g hg => hg
  unfold State.partShown
  exact (((((((Writes.refl partFlds s).set (h _ rfl) _).set (h _ rfl) _).set (h _ rfl) _).set (h _ rfl) _).set (h _ rfl) _).set (h _ rfl) _).set (h _ rfl) _

theorem State.partShown_get (hp : ∀ x ∈ p, x < 256) : (s.partShown p).get Reg.PRX_PART_STATE = payNat p 19 1 / 16
    ∧ (s.partShown p).get Reg.PRX_PART_SRC = payNat p 19 1 / 4 % 4 ∧ (s.partShown p).get Reg.PRX_PART_DIV = payNat p 20 1 / 32
    ∧ (s.partShown p).get Reg.PRX_PART_LAST_ESN = payNat p 22 4 := by
  have h19 := payNat_lt hp 19 1
  have h20 := payNat_lt hp 20 1
  have h22 := payNat_lt hp 22 4
  unfold State.partShown
  refine ⟨?_, ?_, ?_, ?_⟩
  · iterate 6 rw [State.get_set_ne _ _ _ _ (by simp)]
    exact State.get_set_of_lt _ _ (by decide) (by simp only []; omega)
  · iterate 5 rw [State.get_set_ne _ _ _ _ (by simp)]
    exact State.get_set_of_lt _ _ (by decide) (by simp only []; omega)
  · iterate 4 rw [State.get_set_ne _ _ _ _ (by simp)]
    exact State.get_set_of_lt _ _ (by decide) (by simp only []; omega)
  · exact State.get_set_of_lt _ _ (by decide) (by simp only []; omega)

theorem State.pair_set (s : State) (f : Fld) (v : Nat) : (s.set f v).pair = s.pair := rfl
theorem State.weave_set (s : State) (f : Fld) (v : Nat) : (s.set f v).weave = s.weave := rfl

theorem State.partShown_pair : (s.partShown p).pair = s.pair := by
  unfold State.partShown
  simp only [State.pair_set]

theorem State.partShown_weave : (s.partShown p).weave = s.weave := by
  unfold State.partShown
  simp only [State.weave_set]

theorem State.partShown_now : (s.partShown p).now = s.now := by
  unfold State.partShown
  simp only [State.now_set]

/-- The pair's state with the partner's merge key and CYC_OFS from a BEAT. -/
def Pair.keyed (k : Pair) (p : List Nat) : Pair :=
  let key := payNat p 30 4 * W48 + payNat p 34 6
  { k with partKey := key, beatKey := key, partOfs := payNat p 40 4 }

theorem State.pairMember_of_weave {s s' : State} (h : s'.weave = s.weave) : s'.pairMember = s.pairMember := by
  unfold State.pairMember State.hasTile
  rw [h]

theorem State.beatPart_eq : s.beatPart p = if s.pairMember then (s.partShown p).setPair (s.pair.keyed p) else s.partShown p := by
  have h : s.beatPart p = if (s.partShown p).pairMember then (s.partShown p).setPair ((s.partShown p).pair.keyed p) else s.partShown p := rfl
  rw [h, State.pairMember_of_weave (s.partShown_weave p), s.partShown_pair p]

theorem State.beatPart_writes : Writes partFlds s (s.beatPart p) := by
  rw [State.beatPart_eq]
  split
  · exact (s.partShown_writes p).of_regs rfl
  · exact s.partShown_writes p

theorem State.now_setPair (s : State) (k : Pair) : (s.setPair k).now = s.now := rfl
theorem State.weave_setPair (s : State) (k : Pair) : (s.setPair k).weave = s.weave := rfl
theorem State.pair_setPair (s : State) (k : Pair) : (s.setPair k).pair = k := rfl

theorem State.get_setPair (s : State) (k : Pair) (g : Fld) : (s.setPair k).get g = s.get g := rfl

theorem State.beatPart_get (g : Fld) : (s.beatPart p).get g = (s.partShown p).get g := by
  rw [State.beatPart_eq]
  split
  · exact State.get_setPair _ _ g
  · rfl

theorem State.beatPart_pair : (s.beatPart p).pair = if s.pairMember then s.pair.keyed p else s.pair := by
  rw [State.beatPart_eq]
  split
  · exact State.pair_setPair _ _
  · exact s.partShown_pair p

theorem State.beatPart_now : (s.beatPart p).now = s.now ∧ (s.beatPart p).weave = s.weave := by
  rw [State.beatPart_eq]
  split
  · exact ⟨(State.now_setPair _ _).trans (s.partShown_now p), (State.weave_setPair _ _).trans (s.partShown_weave p)⟩
  · exact ⟨s.partShown_now p, s.partShown_weave p⟩

/-- An accepted frame: its FSEQ is kept, and a gap may be counted. -/
theorem State.seqAccept_shows (k : Nat) : Writes {Reg.PRX_CNT0_SEQGAP} s (s.seqAccept k f).1
    ∧ (s.seqAccept k f).1.pair = { s.pair with rxSeq := replaceNat s.pair.rxSeq k f } ∧ (s.seqAccept k f).1.now = s.now
    ∧ (s.seqAccept k f).1.weave = s.weave ∧ (s.seqAccept k f).1.causes = s.causes := by
  unfold State.seqAccept
  extract_lets gap _ s₁
  have h₁ : Writes {Reg.PRX_CNT0_SEQGAP} s s₁ := (Writes.refl _ s).of_regs rfl
  simp only []
  split
  · exact ⟨h₁.inc (by simp), rfl, rfl, rfl, rfl⟩
  · exact ⟨h₁, rfl, rfl, rfl, rfl⟩

/-- The registers and the pair's state as a BEAT shows them, before LINK follows. -/
def State.beatHeard (t : Word) : State :=
  let s := (s.seqAccept 2 f).1
  let s := s.setPair { s.pair with beatAt := t, echo := if s.pairMember then some (wordAt p 0, arrival) else s.pair.echo }
  (s.beatPart p).setCheck (s.beatCheck p)

/-- The pair's state as a BEAT shows it. -/
def Pair.heard (k : Pair) (member : Bool) (f : Nat) (now : Word) (p : List Nat) (arrival : Word) : Pair :=
  let k := { k with rxSeq := replaceNat k.rxSeq 2 f, beatAt := now, echo := if member then some (wordAt p 0, arrival) else k.echo }
  if member then k.keyed p else k

theorem State.setCheck_pair (code : Nat) : (s.setCheck code).pair = s.pair ∧ (s.setCheck code).now = s.now ∧ (s.setCheck code).weave = s.weave := by
  have h := State.setCheck_keeps s code (Nat.and_self _) (.refl _ s)
  exact ⟨h.same .pair (by decide), h.same .now (by decide), h.same .weave (by decide)⟩

theorem State.beatCheck_congr {s s' : State} (hw : s'.weave = s.weave) (hs : s'.get Reg.PRX_STAT_SIDE = s.get Reg.PRX_STAT_SIDE) (p : List Nat) :
    s'.beatCheck p = s.beatCheck p := by
  unfold State.beatCheck
  rw [hw, hs]

theorem State.beatCheck_lt : s.beatCheck p < 8 := by
  unfold State.beatCheck
  dsimp only
  split_ifs <;> omega

/-- What a BEAT writes before LINK follows. -/
def heardFlds : Set Fld := {Reg.PRX_CNT0_SEQGAP, Reg.PRX_STAT_CHECK} ∪ partFlds

theorem State.beatHeard_shows (t : Word) (hp : ∀ x ∈ p, x < 256) : Writes heardFlds s (s.beatHeard f p arrival t)
    ∧ (s.beatHeard f p arrival t).pair = s.pair.heard s.pairMember f t p arrival
    ∧ (s.beatHeard f p arrival t).now = s.now ∧ (s.beatHeard f p arrival t).weave = s.weave
    ∧ (s.beatHeard f p arrival t).get Reg.PRX_STAT_CHECK = s.beatCheck p
    ∧ (s.beatHeard f p arrival t).get Reg.PRX_PART_STATE = payNat p 19 1 / 16
    ∧ (s.beatHeard f p arrival t).get Reg.PRX_PART_SRC = payNat p 19 1 / 4 % 4
    ∧ (s.beatHeard f p arrival t).get Reg.PRX_PART_DIV = payNat p 20 1 / 32
    ∧ (s.beatHeard f p arrival t).get Reg.PRX_PART_LAST_ESN = payNat p 22 4 := by
  obtain ⟨hw₁, hp₁, hn₁, hv₁, -⟩ := s.seqAccept_shows f 2
  unfold State.beatHeard
  extract_lets x _ y
  have hm : x.pairMember = s.pairMember := State.pairMember_of_weave hv₁
  have hwy : Writes heardFlds s y := (hw₁.mono (by rintro g rfl; simp [heardFlds])).of_regs rfl
  have hcode : y.beatCheck p = s.beatCheck p := State.beatCheck_congr hv₁ (hw₁ _ (by rintro g rfl; simp [Fld.misses])) p
  have hpy : y.pair = { s.pair with
      rxSeq := replaceNat s.pair.rxSeq 2 f, beatAt := t, echo := if s.pairMember then some (wordAt p 0, arrival) else s.pair.echo } := by
    show ({ x.pair with beatAt := t, echo := if x.pairMember then some (wordAt p 0, arrival) else x.pair.echo } : Pair) = _
    rw [hp₁, hm]
  have hmy : y.pairMember = s.pairMember := hm
  have hny : y.now = s.now := hn₁
  have hvy : y.weave = s.weave := hv₁
  clear_value y
  rw [hcode]
  obtain ⟨hpc, hnc, hvc⟩ := (y.beatPart p).setCheck_pair (s.beatCheck p)
  have hget : ∀ g : Fld, g.addr = Reg.PRX_PART_addr → ((y.beatPart p).setCheck (s.beatCheck p)).get g = (y.partShown p).get g := fun g hg =>
    (State.setCheck_writes_check _ _ g (by rintro f rfl; exact .inl (by rw [hg]; decide))).trans (y.beatPart_get p g)
  obtain ⟨hst, hsrc, hdiv, hesn⟩ := y.partShown_get p hp
  refine ⟨?_, ?_, hnc.trans ((y.beatPart_now p).1.trans hny), hvc.trans ((y.beatPart_now p).2.trans hvy), State.setCheck_check _ (s.beatCheck_lt p),
    (hget _ rfl).trans hst, (hget _ rfl).trans hsrc, (hget _ rfl).trans hdiv, (hget _ rfl).trans hesn⟩
  · exact hwy.trans (((y.beatPart_writes p).mono fun g hg => .inr hg).trans ((State.setCheck_writes_check _ _).mono (by rintro g rfl; simp [heardFlds])))
  · rw [hpc, y.beatPart_pair p, hmy, hpy]
    rfl

end

/-! ### LINK comes UP, and what follows a BEAT -/

/-- Fields that no change of LINK, of the divergence state or of the angle's source touches. -/
def Fld.settled (g : Fld) : Prop := (∀ f ∈ divFlds, f.misses g) ∧ g.addr ≠ Reg.WFT_CLST_addr 0 ∧ g.addr % 128 < 0x10

theorem Fld.settled_part {g : Fld} (h : g.addr = Reg.PRX_PART_addr) : g.settled :=
  ⟨divFlds_miss (by rw [h]; decide) (fun h' => absurd (h.symm.trans h') (by decide)), by rw [h]; decide, by rw [h]; decide⟩

theorem Fld.settled_check : Reg.PRX_STAT_CHECK.settled := ⟨divFlds_miss_check, by decide, by decide⟩
theorem Fld.settled_link : Reg.PRX_STAT_LINK.settled := ⟨divFlds_miss_link, by decide, by decide⟩
theorem Fld.settled_mapValid : Reg.PRX_STAT_MAP_VALID.settled := ⟨divFlds_miss_mapValid, by decide, by decide⟩
theorem Fld.settled_ofs : Reg.PRX_OFS_OFS.settled := ⟨divFlds_miss (by decide) (fun h => absurd h (by decide)), by decide, by decide⟩
theorem Fld.settled_delay : Reg.PRX_DLY_DELAY.settled := ⟨divFlds_miss (by decide) (fun h => absurd h (by decide)), by decide, by decide⟩

theorem State.setLink_up_get (s : State) {g : Fld} (h : g.settled) (hl : Reg.PRX_STAT_LINK.misses g) : (s.setLink 2).get g = s.get g := by
  obtain ⟨hd, h3, h4⟩ := h
  by_cases hold : s.get Reg.PRX_STAT_LINK = 2
  · rw [State.setLink_eq, if_pos hold]
  · rw [s.setLink_gained hold (by decide)]
    exact ((s.linkGained 2).linkSettles_writes _ (settleFlds_miss _ hd h3 h4)).trans (s.linkGained_writes 2 _ (by rintro f rfl; exact hl))

theorem State.beatDiv_writes (s : State) : Writes divFlds s s.beatDiv := by
  have hF : divFlds ⊆ divFlds := fun f hf => hf
  unfold State.beatDiv
  dsimp only
  split
  · exact .refl _ s
  · split
    · exact State.setDiv_writes (.refl _ s) hF _
    · split
      · exact State.setDiv_writes (.refl _ s) hF _
      · exact State.resolveHard_writes (.refl _ s) hF

theorem State.beatDiv_calm {s₀ s : State} (h : Calm s₀ s) : Calm s₀ s.beatDiv := by
  unfold State.beatDiv
  dsimp only
  split
  · exact h
  · split
    · exact State.setDiv_calm h _
    · split
      · exact State.setDiv_calm h _
      · exact State.resolveHard_calm h

/-- What follows an offset sample. -/
def State.beatSettles (s : State) : State := (s.divLink.beatDiv).borrowCheck.pevShow

theorem State.beatSettles_get (s : State) {g : Fld} (h : g.settled) : s.beatSettles.get g = s.get g := by
  obtain ⟨hd, h3, h4⟩ := h
  have hF : divFlds ⊆ settleFlds s.divLink.beatDiv.primary := fun f hf => .inr (.inr (.inl (.inr (.inr hf))))
  have h₁ : Writes (settleFlds s.divLink.beatDiv.primary) s s.divLink.beatDiv :=
    (State.divLink_writes (.refl _ s) hF).trans ((State.beatDiv_writes _).mono hF)
  have h₂ := State.borrowCheck_writes h₁ (fun f hf => .inr hf)
  exact (h₂.set (f := Reg.PRX_PEVSTAT_LEVEL) (by simp [settleFlds]) _) g (settleFlds_miss _ hd h3 h4)

theorem State.beatSettles_calm (s : State) : Calm s s.beatSettles :=
  (State.borrowCheck_calm (State.beatDiv_calm (State.divLink_calm (.refl s)))).set _ _

/-! ### The offset sample -/

section
variable (s : State) (p : List Nat) (d : Word)

/-- Twice the offset and twice the delay of a sample, halved. -/
def sampleTheta (p : List Nat) (d : Word) : Int := rdiv (sdiff (wordAt p 12) (wordAt p 6) + sdiff (wordAt p 0) d) 2
def sampleDelay (p : List Nat) (d : Word) : Int := rdiv (sdiff d (wordAt p 6) - sdiff (wordAt p 0) (wordAt p 12)) 2

/-- The registers of a sample in a pair member. -/
def State.sampleShown : State := (s.setI Reg.PRX_OFS_OFS (sampleTheta p d)).set Reg.PRX_DLY_DELAY (sampleDelay p d).toNat

/-- A sample that is accepted. -/
def State.sampleTaken : State :=
  let s := if s.pairMember then s.sampleShown p d else s
  (s.setPair { s.pair with mapAt := s.now }).set Reg.PRX_STAT_MAP_VALID 1

theorem State.beatSample_taken (hs : s.pair.sent.contains (wordAt p 6) = true) (h0 : 0 ≤ sampleDelay p d) (h1 : sampleDelay p d < 3200) :
    s.beatSample p d = s.sampleTaken p d := by
  unfold State.beatSample
  dsimp only
  rw [if_neg (fun h => h hs)]
  exact if_pos ⟨h0, h1⟩

theorem State.beatSample_refused (h : s.pair.sent.contains (wordAt p 6) = false ∨ sampleDelay p d < 0 ∨ 3200 ≤ sampleDelay p d) :
    s.beatSample p d = s ∨ s.beatSample p d = s.inc Reg.PRX_CNT0_SEQGAP := by
  unfold State.beatSample
  dsimp only
  by_cases hs : s.pair.sent.contains (wordAt p 6) = true
  · rw [if_neg (fun h => h hs)]
    refine .inr (if_neg fun h' => ?_)
    obtain ⟨h0, h1⟩ : 0 ≤ sampleDelay p d ∧ sampleDelay p d < 3200 := h'
    rcases h with h | h | h
    · exact absurd (h.symm.trans hs) (by decide)
    · omega
    · omega
  · exact .inl (if_pos hs)

theorem State.sampleShown_get {g : Fld} (h1 : Reg.PRX_OFS_OFS.misses g) (h2 : Reg.PRX_DLY_DELAY.misses g) : (s.sampleShown p d).get g = s.get g :=
  (State.get_set_ne _ _ _ _ h2).trans (State.get_set_ne s _ _ _ h1)

theorem State.sampleShown_pair : (s.sampleShown p d).pair = s.pair := (State.pair_set _ _ _).trans (State.pair_set s _ _)
theorem State.sampleShown_now : (s.sampleShown p d).now = s.now := (State.now_set _ _ _).trans (State.now_set s _ _)

theorem State.sampleTaken_pair : (s.sampleTaken p d).pair = { s.pair with mapAt := s.now } := by
  unfold State.sampleTaken
  dsimp only
  rw [State.pair_set, State.pair_setPair]
  split
  · rw [s.sampleShown_pair, s.sampleShown_now]
  · rfl

theorem State.sampleTaken_get (g : Fld) (h : Reg.PRX_STAT_MAP_VALID.misses g) :
    (s.sampleTaken p d).get g = if s.pairMember then (s.sampleShown p d).get g else s.get g := by
  unfold State.sampleTaken
  dsimp only
  rw [State.get_set_ne _ _ _ _ h, State.get_setPair]
  split <;> rfl

theorem State.sampleTaken_mapValid : (s.sampleTaken p d).get Reg.PRX_STAT_MAP_VALID = 1 := State.get_set_of_lt _ _ (by decide) (by decide)

theorem unsign_lt (n : Nat) (v : Int) : unsign n v < 2 ^ n := by
  unfold unsign
  have hpos : (0 : Int) < 2 ^ n := by positivity
  have := Int.emod_lt_of_pos v hpos
  have := Int.emod_nonneg v (Int.ne_of_gt hpos)
  have hc : ((2 ^ n : ℕ) : Int) = 2 ^ n := by push_cast; rfl
  omega

theorem State.sampleShown_shows (h1 : sampleDelay p d < 3200) : (s.sampleShown p d).get Reg.PRX_OFS_OFS = unsign 48 (sampleTheta p d)
    ∧ (s.sampleShown p d).get Reg.PRX_DLY_DELAY = (sampleDelay p d).toNat := by
  refine ⟨?_, State.get_set_of_lt _ _ (by decide) (by simp only []; omega)⟩
  exact (State.get_set_ne _ _ _ _ (by decide)).trans (State.get_set_of_lt s Reg.PRX_OFS_OFS (by decide) (unsign_lt 48 _))

end


/-! ### A BEAT as a whole -/

section
variable (s : State) (f : Nat) (p : List Nat) (arrival t : Word)

/-- What a BEAT leaves, up to its sample. -/
def State.beatLinked : State := (s.beatHeard f p arrival t).setLink 2

/-- What a BEAT leaves. -/
def State.afterBeat : State := ((s.beatLinked f p arrival t).beatSample p arrival).beatSettles

theorem State.beatLinked_steady (hp : ∀ x ∈ p, x < 256) :
    (s.beatLinked f p arrival t).pair.steady = (s.pair.heard s.pairMember f t p arrival).steady := by
  refine ((State.setLink_calm (.refl (s.beatHeard f p arrival t)) 2).1).trans ?_
  rw [(s.beatHeard_shows f p arrival t hp).2.1]

theorem State.beatLinked_now (hp : ∀ x ∈ p, x < 256) : (s.beatLinked f p arrival t).now = s.now ∧ (s.beatLinked f p arrival t).weave = s.weave := by
  have h := State.setLink_keeps (s.beatHeard f p arrival t) 2 (Nat.and_self _) (.refl _ _)
  obtain ⟨-, -, hn, hv, -⟩ := s.beatHeard_shows f p arrival t hp
  exact ⟨(h.same .now (by decide)).trans hn, (h.same .weave (by decide)).trans hv⟩

/-- The sample writes nothing of LINK, CHECK and PRX_PART, and of the pair's state only its own instant. -/
theorem State.beatSample_shows (x : State) : (∀ g : Fld, Reg.PRX_OFS_OFS.misses g → Reg.PRX_DLY_DELAY.misses g → Reg.PRX_STAT_MAP_VALID.misses g →
      Reg.PRX_CNT0_SEQGAP.misses g → (x.beatSample p arrival).get g = x.get g)
    ∧ ∃ m, (x.beatSample p arrival).pair = { x.pair with mapAt := m } := by
  by_cases hs : x.pair.sent.contains (wordAt p 6) = true ∧ 0 ≤ sampleDelay p arrival ∧ sampleDelay p arrival < 3200
  · obtain ⟨hs, h0, h1⟩ := hs
    rw [x.beatSample_taken p arrival hs h0 h1]
    refine ⟨fun g g1 g2 g3 _ => ?_, _, x.sampleTaken_pair p arrival⟩
    rw [x.sampleTaken_get p arrival g g3, x.sampleShown_get p arrival g1 g2, ite_self]
  · have hno : x.pair.sent.contains (wordAt p 6) = false ∨ sampleDelay p arrival < 0 ∨ 3200 ≤ sampleDelay p arrival := by
      by_cases hc : x.pair.sent.contains (wordAt p 6) = true
      · by_cases h0 : 0 ≤ sampleDelay p arrival
        · exact .inr (.inr (Int.not_lt.1 fun h1 => hs ⟨hc, h0, h1⟩))
        · exact .inr (.inl (Int.not_le.1 h0))
      · exact .inl (by simpa using hc)
    rcases x.beatSample_refused p arrival hno with h | h
    · rw [h]
      exact ⟨fun g _ _ _ _ => rfl, x.pair.mapAt, rfl⟩
    · rw [h]
      exact ⟨fun g _ _ _ g4 => State.get_inc_ne g4, x.pair.mapAt, rfl⟩

theorem State.afterBeat_steady (hp : ∀ x ∈ p, x < 256) : ∃ m,
    (s.afterBeat f p arrival t).pair.steady = { s.pair.heard s.pairMember f t p arrival with mapAt := m }.steady := by
  obtain ⟨-, m, hm⟩ := State.beatSample_shows p arrival (s.beatLinked f p arrival t)
  refine ⟨m, ((State.beatSettles_calm _).1).trans ?_⟩
  rw [hm]
  exact congrArg (fun k : Pair => { k with mapAt := m }) (s.beatLinked_steady f p arrival t hp)

theorem State.afterBeat_get {g : Fld} (hg : g.settled) (g1 : Reg.PRX_OFS_OFS.misses g) (g2 : Reg.PRX_DLY_DELAY.misses g)
    (g3 : Reg.PRX_STAT_MAP_VALID.misses g) (g4 : Reg.PRX_CNT0_SEQGAP.misses g) :
    (s.afterBeat f p arrival t).get g = (s.beatLinked f p arrival t).get g :=
  (State.beatSettles_get _ hg).trans ((State.beatSample_shows p arrival _).1 g g1 g2 g3 g4)

theorem State.afterBeat_heard {g : Fld} (hg : g.settled) (g1 : Reg.PRX_OFS_OFS.misses g) (g2 : Reg.PRX_DLY_DELAY.misses g)
    (g3 : Reg.PRX_STAT_MAP_VALID.misses g) (g4 : Reg.PRX_CNT0_SEQGAP.misses g) (g5 : Reg.PRX_STAT_LINK.misses g) :
    (s.afterBeat f p arrival t).get g = (s.beatHeard f p arrival t).get g :=
  (s.afterBeat_get f p arrival t hg g1 g2 g3 g4).trans (State.setLink_up_get _ hg g5)

theorem State.afterBeat_shows (hp : ∀ x ∈ p, x < 256) :
    let s' := s.afterBeat f p arrival t
    s'.get Reg.PRX_STAT_LINK = 2 ∧ s'.pair.beatAt = t
      ∧ s'.pair.echo = (if s.pairMember then some (wordAt p 0, arrival) else s.pair.echo) ∧ s'.get Reg.PRX_STAT_CHECK = s.beatCheck p
      ∧ s'.get Reg.PRX_PART_STATE = payNat p 19 1 / 16 ∧ s'.get Reg.PRX_PART_SRC = payNat p 19 1 / 4 % 4
      ∧ s'.get Reg.PRX_PART_DIV = payNat p 20 1 / 32 ∧ s'.get Reg.PRX_PART_LAST_ESN = payNat p 22 4
      ∧ (s.pairMember = true → s'.pair.partKey = payNat p 30 4 * W48 + payNat p 34 6 ∧ s'.pair.beatKey = s'.pair.partKey
        ∧ s'.pair.partOfs = payNat p 40 4)
      ∧ (s.pairMember = false → s'.pair.partKey = s.pair.partKey ∧ s'.pair.partOfs = s.pair.partOfs)
      ∧ (2, f) ∈ s'.pair.rxSeq := by
  intro s'
  obtain ⟨m, hm⟩ := s.afterBeat_steady f p arrival t hp
  obtain ⟨-, -, -, -, hcheck, hstate, hsrc, hdiv, hesn⟩ := s.beatHeard_shows f p arrival t hp
  have hpart : ∀ g : Fld, g.addr = Reg.PRX_PART_addr → s'.get g = (s.beatHeard f p arrival t).get g := fun g hg =>
    s.afterBeat_heard f p arrival t (Fld.settled_part hg) (.inl (by rw [hg]; decide)) (.inl (by rw [hg]; decide)) (.inl (by rw [hg]; decide))
      (.inl (by rw [hg]; decide)) (.inl (by rw [hg]; decide))
  have hbeat : s'.pair.beatAt = (s.pair.heard s.pairMember f t p arrival).beatAt := (congrArg Pair.beatAt hm :)
  have hecho : s'.pair.echo = (s.pair.heard s.pairMember f t p arrival).echo := (congrArg Pair.echo hm :)
  have hpk : s'.pair.partKey = (s.pair.heard s.pairMember f t p arrival).partKey := (congrArg Pair.partKey hm :)
  have hbk : s'.pair.beatKey = (s.pair.heard s.pairMember f t p arrival).beatKey := (congrArg Pair.beatKey hm :)
  have hpo : s'.pair.partOfs = (s.pair.heard s.pairMember f t p arrival).partOfs := (congrArg Pair.partOfs hm :)
  have hrx : s'.pair.rxSeq = (s.pair.heard s.pairMember f t p arrival).rxSeq := (congrArg Pair.rxSeq hm :)
  refine ⟨?_, ?_, ?_, ?_, (hpart _ rfl).trans hstate, (hpart _ rfl).trans hsrc, (hpart _ rfl).trans hdiv, (hpart _ rfl).trans hesn, fun h => ?_,
    fun h => ?_, ?_⟩
  · exact (s.afterBeat_get f p arrival t Fld.settled_link (by simp [Fld.misses]) (by simp [Fld.misses]) (by simp [Fld.misses]) (by simp [Fld.misses])).trans (State.setLink_link _ (by decide))
  · rw [hbeat]; unfold Pair.heard; dsimp only; split <;> rfl
  · rw [hecho]; unfold Pair.heard; dsimp only; split <;> rfl
  · exact (s.afterBeat_heard f p arrival t Fld.settled_check (by simp [Fld.misses]) (by simp [Fld.misses]) (by simp [Fld.misses]) (by simp [Fld.misses])
      (by simp [Fld.misses])).trans hcheck
  · rw [hpk, hbk, hpo, h]
    exact ⟨rfl, rfl, rfl⟩
  · rw [hpk, hpo, h]
    exact ⟨rfl, rfl⟩
  · rw [hrx]
    have : (s.pair.heard s.pairMember f t p arrival).rxSeq = replaceNat s.pair.rxSeq 2 f := by unfold Pair.heard; dsimp only; split <;> rfl
    rw [this]
    exact mem_replaceNat _ _ _

theorem State.beatHeard_ofs (hp : ∀ x ∈ p, x < 256) : (s.beatLinked f p arrival t).get Reg.PRX_OFS_OFS = s.get Reg.PRX_OFS_OFS
    ∧ (s.beatLinked f p arrival t).get Reg.PRX_DLY_DELAY = s.get Reg.PRX_DLY_DELAY
    ∧ (s.beatLinked f p arrival t).pair.sent = s.pair.sent ∧ (s.beatLinked f p arrival t).pair.mapAt = s.pair.mapAt := by
  have hw := (s.beatHeard_shows f p arrival t hp).1
  have hm : ∀ g : Fld, g.addr = Reg.PRX_OFS_addr ∨ g.addr = Reg.PRX_DLY_addr → ∀ h ∈ heardFlds, h.misses g := by
    rintro g hg h ((rfl | rfl) | hh)
    · exact .inl (by rcases hg with hg | hg <;> rw [hg] <;> decide)
    · exact .inl (by rcases hg with hg | hg <;> rw [hg] <;> decide)
    · exact .inl (by rw [show h.addr = Reg.PRX_PART_addr from hh]; rcases hg with hg | hg <;> rw [hg] <;> decide)
  have hst := s.beatLinked_steady f p arrival t hp
  refine ⟨(State.setLink_up_get _ Fld.settled_ofs (by simp [Fld.misses])).trans (hw _ (hm _ (.inl rfl))),
    (State.setLink_up_get _ Fld.settled_delay (by simp [Fld.misses])).trans (hw _ (hm _ (.inr rfl))), (congrArg Pair.sent hst).trans ?_, (congrArg Pair.mapAt hst).trans ?_⟩
  · show (s.pair.heard s.pairMember f t p arrival).sent = _
    unfold Pair.heard; dsimp only; split <;> rfl
  · show (s.pair.heard s.pairMember f t p arrival).mapAt = _
    unfold Pair.heard; dsimp only; split <;> rfl

theorem State.afterBeat_sampled (hp : ∀ x ∈ p, x < 256) (hs : s.pair.sent.contains (wordAt p 6) = true) (h0 : 0 ≤ sampleDelay p arrival)
    (h1 : sampleDelay p arrival < 3200) :
    let s' := s.afterBeat f p arrival t
    s'.get Reg.PRX_STAT_MAP_VALID = 1 ∧ s'.pair.mapAt = s.now
      ∧ (s.pairMember = true → s'.get Reg.PRX_OFS_OFS = unsign 48 (sampleTheta p arrival) ∧ s'.get Reg.PRX_DLY_DELAY = (sampleDelay p arrival).toNat)
      ∧ (s.pairMember = false → s'.get Reg.PRX_OFS_OFS = s.get Reg.PRX_OFS_OFS ∧ s'.get Reg.PRX_DLY_DELAY = s.get Reg.PRX_DLY_DELAY) := by
  obtain ⟨hofs, hdly, hsent, -⟩ := s.beatHeard_ofs f p arrival t hp
  obtain ⟨hnow, hweave⟩ := s.beatLinked_now f p arrival t hp
  unfold State.afterBeat
  generalize s.beatLinked f p arrival t = x at *
  have hm : x.pairMember = s.pairMember := State.pairMember_of_weave hweave
  rw [x.beatSample_taken p arrival (by rw [hsent]; exact hs) h0 h1]
  intro s'
  have hmap : s'.pair.mapAt = x.now := (congrArg Pair.mapAt (State.beatSettles_calm (x.sampleTaken p arrival)).1).trans
    (congrArg Pair.mapAt (x.sampleTaken_pair p arrival))
  refine ⟨(State.beatSettles_get _ Fld.settled_mapValid).trans (x.sampleTaken_mapValid p arrival), hmap.trans hnow, fun h => ?_, fun h => ?_⟩
  · obtain ⟨hto, htd⟩ := x.sampleShown_shows p arrival h1
    refine ⟨(State.beatSettles_get _ Fld.settled_ofs).trans ?_, (State.beatSettles_get _ Fld.settled_delay).trans ?_⟩
    · rw [x.sampleTaken_get p arrival _ (by simp [Fld.misses]), if_pos (hm.trans h)]; exact hto
    · rw [x.sampleTaken_get p arrival _ (by simp [Fld.misses]), if_pos (hm.trans h)]; exact htd
  · have hno : ¬ x.pairMember = true := fun h' => absurd ((hm.trans h).symm.trans h') (by decide)
    refine ⟨(State.beatSettles_get _ Fld.settled_ofs).trans ?_, (State.beatSettles_get _ Fld.settled_delay).trans ?_⟩
    · rw [x.sampleTaken_get p arrival _ (by simp [Fld.misses]), if_neg hno]; exact hofs
    · rw [x.sampleTaken_get p arrival _ (by simp [Fld.misses]), if_neg hno]; exact hdly

theorem State.afterBeat_refused (hp : ∀ x ∈ p, x < 256)
    (h : s.pair.sent.contains (wordAt p 6) = false ∨ sampleDelay p arrival < 0 ∨ 3200 ≤ sampleDelay p arrival) :
    (s.afterBeat f p arrival t).get Reg.PRX_OFS_OFS = s.get Reg.PRX_OFS_OFS ∧ (s.afterBeat f p arrival t).pair.mapAt = s.pair.mapAt := by
  obtain ⟨hofs, -, hsent, hmap⟩ := s.beatHeard_ofs f p arrival t hp
  unfold State.afterBeat
  generalize s.beatLinked f p arrival t = x at *
  have hx : (x.beatSample p arrival).get Reg.PRX_OFS_OFS = x.get Reg.PRX_OFS_OFS ∧ (x.beatSample p arrival).pair = x.pair := by
    rcases x.beatSample_refused p arrival (by rw [hsent]; exact h) with h | h
    · rw [h]; exact ⟨rfl, rfl⟩
    · rw [h]; exact ⟨State.get_inc_ne (by simp [Fld.misses]), rfl⟩
  have hst : (x.beatSample p arrival).beatSettles.pair.mapAt = (x.beatSample p arrival).pair.mapAt :=
    (congrArg Pair.mapAt (State.beatSettles_calm (x.beatSample p arrival)).1 :)
  exact ⟨(State.beatSettles_get _ Fld.settled_ofs).trans (hx.1.trans hofs), hst.trans ((congrArg Pair.mapAt hx.2).trans hmap)⟩

end

theorem execProexBeatFrame_received (t : Word) (fseq : Fin 256) (p : List Nat) (arrival : Word) (s : State) (hr : s.receives = true) :
    exec (.proexBeatFrame t fseq p arrival) s = .next ((s.at t).afterBeat fseq p arrival t) := congrArg Host.Outcome.next (if_pos hr)

end Sys2Proof.Machine
end

section
/-! PROOF. TOOTH frames of the partner and the comparison of the two angles (O59). -/
namespace Sys2Proof.Machine

/-! ### The comparison -/

/-- The unit's angle source: a state change of the primary that leaves another state than PHASED writes nothing of its own. -/
theorem State.primaryChanged_writes_none (s : State) {old : Nat} (hold : old ≠ ssPhased) (hdiv : s.div ≠ dvStopOwn) (new : Nat) :
    Writes ∅ s (s.primaryChanged old new) := by
  unfold State.primaryChanged
  extract_lets s₁ s₂ s₃ _ s₄ _ s₅ s₆ s₇ _ s₈
  have h₀ : Writes ∅ s s := .refl _ s
  have h₁ : Writes ∅ s s₁ := by unfold s₁; split; exacts [h₀.of_regs rfl, h₀]
  have h₂ : Writes ∅ s s₂ := by unfold s₂; split; exacts [h₁.of_regs rfl, h₁]
  have h₃ : Writes ∅ s s₃ := by unfold s₃; split; exacts [h₂.of_regs rfl, h₂]
  have h₄ : Writes ∅ s s₄ := by unfold s₄; split; exacts [h₃, h₃.of_regs rfl]
  have h₅ : Writes ∅ s s₅ := by unfold s₅; split; exacts [h₄.of_regs rfl, h₄]
  have h₆ : Writes ∅ s s₆ := by unfold s₆; rw [if_neg hold]; exact h₅
  have h₇ : Writes ∅ s s₇ := by unfold s₇; split; exacts [State.counter_writes h₆ 3, h₆]
  have h₈ : Writes ∅ s s₈ := by unfold s₈; split; exacts [h₇.of_regs rfl, h₇]
  unfold State.leaveStopOwn
  rw [if_neg fun h => hdiv ((h₈ Reg.PRX_STAT_DIV (by simp)).symm.trans h.1)]
  exact h₈

/-- What the return to the own crank `n` writes where the unit was in BORROWED. -/
def returnFlds (n : Nat) : Set Fld := {Reg.WRP_SYNC_BG n, Reg.WRP_SYNC_SRC n, Reg.WRP_SYNC_STATE n}

theorem State.ownReturn_writes (s : State) {n : Nat} (h : s.sync n = ssBorrowed) (hdiv : s.div ≠ dvStopOwn) (t : Word) :
    Writes (returnFlds n) s (s.ownReturn n t) := by
  unfold State.ownReturn
  have h₀ : Writes (returnFlds n) s ((s.set (Reg.WRP_SYNC_BG n) 0).set (Reg.WRP_SYNC_SRC n) n) :=
    ((Writes.refl _ s).set (by simp [returnFlds]) 0).set (by simp [returnFlds]) n
  have hsync : ((s.set (Reg.WRP_SYNC_BG n) 0).set (Reg.WRP_SYNC_SRC n) n).sync n = ssBorrowed := by
    unfold State.sync
    rw [State.get_set_ne _ _ _ _ (by simp), State.get_set_ne _ _ _ _ (by simp)]
    exact h
  have miss : ∀ f ∈ returnFlds n, f.misses Reg.PRX_STAT_DIV := by
    rintro f (rfl | rfl | rfl) <;> exact .inl (by simp only []; omega)
  have hdiv₀ : ((s.set (Reg.WRP_SYNC_BG n) 0).set (Reg.WRP_SYNC_SRC n) n).div ≠ dvStopOwn := fun h => hdiv ((h₀ _ miss).symm.trans h)
  generalize (s.set (Reg.WRP_SYNC_BG n) 0).set (Reg.WRP_SYNC_SRC n) n = x at h₀ hsync hdiv₀
  have h₁ : Writes (returnFlds n) s (x.goState n ssPhased t) := by
    unfold State.goState State.goFrom
    extract_lets old s₁ s₂ s₃
    have hold : old = ssBorrowed := hsync
    rw [if_neg (by rw [hold]; decide)]
    have h₁ : Writes (returnFlds n) s s₁ := (h₀.of_regs (s' := x.countSeconds) rfl).set (by simp [returnFlds]) _
    have h₂ : Writes (returnFlds n) s s₂ := h₁.report _ _ _ _ _
    have h₃ : s₃ = s₂ := if_neg fun h => absurd h.1 (by decide)
    rw [h₃]
    split
    · refine h₂.trans ((s₂.primaryChanged_writes_none (by rw [hold]; decide) (fun h => hdiv ?_) _).mono (Set.empty_subset _))
      exact (h₂ _ miss).symm.trans h
    · exact h₂
  have h₂ : Writes (returnFlds n) s (x.goState n ssPhased t).weft0Returns := h₁.of_regs rfl
  unfold State.leaveStopOwn
  rw [if_neg fun h => hdiv ((h₂ _ miss).symm.trans h.1)]
  exact h₂

theorem State.ownReturn_calm {s₀ s : State} (h : Calm s₀ s) (n : Nat) (t : Word) : Calm s₀ (s.ownReturn n t) := by
  unfold State.ownReturn State.goState
  exact State.leaveStopOwn_calm (State.weft0Returns_calm (State.goFrom_calm ((h.set _ 0).set _ n) _ _ _ _))

section
variable (s : State) (d : Nat)

/-- The counts of R618 after a comparison that differs by `d`. -/
def State.counted (d : Nat) : Pair :=
  let tol := s.get Reg.PRX_DIVCFG_DIV_TOL
  let k := s.pair
  { k with
    dc := if tol < d then k.dc + 1 else 0
    hc := if s.get Reg.PRX_DIVCFG_HARD < d then k.hc + 1 else 0
    ac := if d ≤ tol then k.ac + 1 else 0 }

/-- The state with the counts of a comparison, in which CYC_OFS has been chosen where the angles agree. -/
def State.compareCounted : State :=
  let s' := s.setPair (s.counted d)
  if d ≤ s.get Reg.PRX_DIVCFG_DIV_TOL then s'.chooseOfs else s'

/-- The transition of the divergence state that the counts `k` bring about when `n` of them are needed (R620, R625). -/
def State.compareMoves (n : Nat) (k : Pair) : State :=
  if s.haltFirst then s
  else if (s.div = dvAgree ∨ s.div = dvSoft) ∧ n ≤ k.hc then (s.setDiv dvHardWait).cause 13 0
  else if s.div = dvAgree ∧ n ≤ k.dc then (s.setDiv dvSoft).cause 12 0
  else if s.div = dvSoft ∧ n ≤ k.ac then s.setDiv dvAgree
  else s

/-- Crank Warp `p` with `a` comparisons in a row that agree. -/
def State.withAgree (p a : Nat) : State := s.setWp p { s.wp p with agree := a }

/-- R175 in BORROWED: the unit returns to its own crank after `n` comparisons in a row that agree. -/
def State.compareReturns (agrees : Bool) (n : Nat) : State :=
  let p := s.primary
  if s.sync p = ssBorrowed then
    let a := if agrees then (s.wp p).agree + 1 else 0
    let s := s.setWp p { s.wp p with agree := a }
    if n ≤ a then s.ownReturn p s.now else s
  else s

theorem State.compared_eq : s.compared d = ((s.compareCounted d).compareMoves (s.get Reg.PRX_DIVCFG_DIV_TEETH) (s.counted d)).compareReturns
    (decide (d ≤ s.get Reg.PRX_DIVCFG_DIV_TOL)) (s.get Reg.PRX_DIVCFG_DIV_TEETH) := by
  unfold State.compareReturns
  simp only [decide_eq_true_eq]
  rfl

theorem State.chooseOfs_shows : Writes {Reg.PRX_STAT_CYC_OFS} s s.chooseOfs ∧ Calm s s.chooseOfs := by
  unfold State.chooseOfs
  extract_lets d ofs key
  split
  · have hw : Writes {Reg.PRX_STAT_CYC_OFS} s (s.setPair { s.pair with ofsSet := true, key }) := (Writes.refl _ s).of_regs rfl
    have hc : Calm s (s.setPair { s.pair with ofsSet := true, key }) := (Calm.refl s).of_same rfl rfl
    exact ⟨hw.set (by simp) _, hc.set _ _⟩
  · exact ⟨.refl _ s, .refl s⟩

theorem State.compareCounted_shows : Writes {Reg.PRX_STAT_CYC_OFS} s (s.compareCounted d) ∧ Calm s (s.compareCounted d) := by
  have h₁ : Calm s (s.setPair (s.counted d)) := (Calm.refl s).of_same rfl rfl
  unfold State.compareCounted
  dsimp only
  split
  · obtain ⟨hw, hc⟩ := (s.setPair (s.counted d)).chooseOfs_shows
    exact ⟨((Writes.refl _ s).of_regs rfl).trans hw, h₁.trans hc⟩
  · exact ⟨(Writes.refl _ s).of_regs rfl, h₁⟩

theorem State.compareCounted_keeps : (s.compareCounted d).causes = s.causes ∧ (s.compareCounted d).pending = s.pending
    ∧ (s.compareCounted d).now = s.now := by
  unfold State.compareCounted
  dsimp only
  split
  · have h := State.chooseOfs_keeps (s.setPair (s.counted d)) (Nat.and_self _) (.refl _ _)
    exact ⟨h.same .causes (by decide), h.queue, h.same .now (by decide)⟩
  · exact ⟨rfl, rfl, rfl⟩

theorem State.haltFirst_congr {s s' : State} (hc : s'.causes = s.causes) (hp : s'.pending = s.pending) (hn : s'.now = s.now) :
    s'.haltFirst = s.haltFirst := by
  unfold State.haltFirst
  rw [hc, hp, hn]

theorem State.compareMoves_writes (n : Nat) (k : Pair) : Writes divFlds s (s.compareMoves n k) := by
  have hF : divFlds ⊆ divFlds := fun f hf => hf
  unfold State.compareMoves
  split
  · exact .refl _ s
  · split
    · exact (State.setDiv_writes (.refl _ s) hF _).cause _ _
    · split
      · exact (State.setDiv_writes (.refl _ s) hF _).cause _ _
      · split
        · exact State.setDiv_writes (.refl _ s) hF _
        · exact .refl _ s

theorem State.compareMoves_calm (n : Nat) (k : Pair) : Calm s (s.compareMoves n k) := by
  unfold State.compareMoves
  split
  · exact .refl s
  · split
    · exact (State.setDiv_calm (.refl s) _).cause _ _
    · split
      · exact (State.setDiv_calm (.refl s) _).cause _ _
      · split
        · exact State.setDiv_calm (.refl s) _
        · exact .refl s

theorem State.weft0Returns_writes {F : Set Fld} {s₀ s : State} (h : Writes F s₀ s) : Writes F s₀ s.weft0Returns := h.of_regs rfl

theorem State.ownReturn_get {n : Nat} (t : Word) {g : Fld} (hg : g.settled) : (s.ownReturn n t).get g = s.get g := by
  obtain ⟨hd, h3, h4⟩ := hg
  have hgo : goFlds n ⊆ sourceFlds n := fun f hf => .inr (.inl hf)
  have hdv : divFlds ⊆ sourceFlds n := fun f hf => hgo (.inr (.inr hf))
  have h₀ : Writes (sourceFlds n) s ((s.set (Reg.WRP_SYNC_BG n) 0).set (Reg.WRP_SYNC_SRC n) n) :=
    ((Writes.refl _ s).set (by simp [sourceFlds]) 0).set (by simp [sourceFlds]) n
  have h₁ := State.goFrom_writes h₀ hgo ssPhased t (((s.set (Reg.WRP_SYNC_BG n) 0).set (Reg.WRP_SYNC_SRC n) n).toothIdx n)
  exact State.leaveStopOwn_writes (State.weft0Returns_writes h₁) hdv g (sourceFlds_miss n hd h3 h4)

theorem State.get_withAgree (p a : Nat) (g : Fld) : (s.withAgree p a).get g = s.get g := rfl

theorem State.withAgree_calm (p a : Nat) : Calm s (s.withAgree p a) := (Calm.refl s).setWp _ _

theorem State.compareReturns_get (agrees : Bool) (n : Nat) {g : Fld} (hg : g.settled) : (s.compareReturns agrees n).get g = s.get g := by
  unfold State.compareReturns
  extract_lets p a
  split
  · split
    · exact (State.ownReturn_get _ _ hg).trans (s.get_withAgree p a g)
    · exact s.get_withAgree p a g
  · rfl

theorem State.compareReturns_calm (agrees : Bool) (n : Nat) : Calm s (s.compareReturns agrees n) := by
  unfold State.compareReturns
  extract_lets p a
  split
  · split
    · exact State.ownReturn_calm (s.withAgree_calm p a) _ _
    · exact s.withAgree_calm p a
  · exact .refl s

/-- The return leaves a divergence state that is not STOP_OWN. -/
theorem State.compareReturns_div (agrees : Bool) (n : Nat) (h : s.div ≠ dvStopOwn) : (s.compareReturns agrees n).div = s.div := by
  unfold State.compareReturns
  extract_lets p a
  split
  next hb =>
    split
    · refine (State.ownReturn_writes _ ((s.get_withAgree p a _).trans hb) (fun h' => h ((s.get_withAgree p a _).symm.trans h')) _ Reg.PRX_STAT_DIV ?_).trans
        (s.get_withAgree p a _)
      rintro f (rfl | rfl | rfl) <;> exact .inl (by simp only []; omega)
    · exact s.get_withAgree p a _
  next => rfl

/-! #### What a comparison brings about -/

theorem State.compared_calm : Calm s (s.compared d) := by
  rw [s.compared_eq d]
  exact (s.compareCounted_shows d).2.trans ((State.compareMoves_calm _ _ _).trans (State.compareReturns_calm _ _ _))

theorem State.compared_get {g : Fld} (hg : g.settled) (h : Reg.PRX_STAT_CYC_OFS.misses g) : (s.compared d).get g = s.get g := by
  rw [s.compared_eq d]
  exact (State.compareReturns_get _ _ _ hg).trans ((State.compareMoves_writes _ _ _ _ hg.1).trans ((s.compareCounted_shows d).1 _ (by rintro f rfl; exact h)))

theorem State.compareCounted_div : (s.compareCounted d).div = s.div := (s.compareCounted_shows d).1 _ (by rintro f rfl; simp [Fld.misses])

theorem State.compareCounted_haltFirst : (s.compareCounted d).haltFirst = s.haltFirst := by
  obtain ⟨hc, hp, hn⟩ := s.compareCounted_keeps d
  exact State.haltFirst_congr hc hp hn

/-- A Loom stop of this instant comes first: the divergence state waits. -/
theorem State.compared_halted (hh : s.haltFirst = true) (hdiv : s.div = dvAgree ∨ s.div = dvSoft) : (s.compared d).div = s.div := by
  rw [s.compared_eq d]
  have hm : (s.compareCounted d).compareMoves (s.get Reg.PRX_DIVCFG_DIV_TEETH) (s.counted d) = s.compareCounted d :=
    if_pos ((s.compareCounted_haltFirst d).trans hh)
  rw [hm, State.compareReturns_div _ _ _ (by rw [s.compareCounted_div d]; rcases hdiv with h | h <;> rw [h] <;> decide), s.compareCounted_div d]

/-- The comparison that ends in a state other than STOP_OWN, with what led there. -/
theorem State.compared_div {x : State} {new : Nat} (hm : (s.compareCounted d).compareMoves (s.get Reg.PRX_DIVCFG_DIV_TEETH) (s.counted d) = x)
    (hx : x.div = new) (hnew : new ≠ dvStopOwn) : (s.compared d).div = new ∧ x.causes ⊆ (s.compared d).causes := by
  rw [s.compared_eq d, hm]
  exact ⟨(State.compareReturns_div _ _ _ (by rw [hx]; exact hnew)).trans hx, (State.compareReturns_calm x _ _).2.subset⟩

variable (hh : s.haltFirst = false)
include hh

theorem State.compared_hard (hdiv : s.div = dvAgree ∨ s.div = dvSoft) (hd : s.get Reg.PRX_DIVCFG_HARD < d)
    (hn : s.get Reg.PRX_DIVCFG_DIV_TEETH ≤ s.pair.hc + 1) : (s.compared d).div = dvHardWait ∧ (13, 0) ∈ (s.compared d).causes := by
  have hk : (s.counted d).hc = s.pair.hc + 1 := if_pos hd
  have hm : (s.compareCounted d).compareMoves (s.get Reg.PRX_DIVCFG_DIV_TEETH) (s.counted d) = ((s.compareCounted d).setDiv dvHardWait).cause 13 0 := by
    unfold State.compareMoves
    rw [if_neg (by rw [s.compareCounted_haltFirst d, hh]; decide), if_pos ⟨by rw [s.compareCounted_div d]; exact hdiv, by rw [hk]; exact hn⟩]
  obtain ⟨h₁, h₂⟩ := s.compared_div d hm ((State.get_cause ..).trans (State.setDiv_div _ (by decide))) (by decide)
  exact ⟨h₁, h₂ (List.mem_append_right _ (by simp))⟩

theorem State.compared_soft (hpos : 0 < s.get Reg.PRX_DIVCFG_DIV_TEETH) (hdiv : s.div = dvAgree) (htol : s.get Reg.PRX_DIVCFG_DIV_TOL < d)
    (hd : d ≤ s.get Reg.PRX_DIVCFG_HARD) (hn : s.get Reg.PRX_DIVCFG_DIV_TEETH ≤ s.pair.dc + 1) :
    (s.compared d).div = dvSoft ∧ (12, 0) ∈ (s.compared d).causes := by
  have hhc : (s.counted d).hc = 0 := if_neg (Nat.not_lt.2 hd)
  have hk : (s.counted d).dc = s.pair.dc + 1 := if_pos htol
  have hm : (s.compareCounted d).compareMoves (s.get Reg.PRX_DIVCFG_DIV_TEETH) (s.counted d) = ((s.compareCounted d).setDiv dvSoft).cause 12 0 := by
    unfold State.compareMoves
    rw [if_neg (by rw [s.compareCounted_haltFirst d, hh]; decide), if_neg (by rw [hhc]; omega),
      if_pos ⟨by rw [s.compareCounted_div d]; exact hdiv, by rw [hk]; exact hn⟩]
  obtain ⟨h₁, h₂⟩ := s.compared_div d hm ((State.get_cause ..).trans (State.setDiv_div _ (by decide))) (by decide)
  exact ⟨h₁, h₂ (List.mem_append_right _ (by simp))⟩

theorem State.compared_agree (hpos : 0 < s.get Reg.PRX_DIVCFG_DIV_TEETH) (hdiv : s.div = dvSoft) (htol : d ≤ s.get Reg.PRX_DIVCFG_DIV_TOL)
    (hlt : s.get Reg.PRX_DIVCFG_DIV_TOL < s.get Reg.PRX_DIVCFG_HARD) (hn : s.get Reg.PRX_DIVCFG_DIV_TEETH ≤ s.pair.ac + 1) :
    (s.compared d).div = dvAgree := by
  have hhc : (s.counted d).hc = 0 := if_neg (by omega)
  have hk : (s.counted d).ac = s.pair.ac + 1 := if_pos htol
  have hdv : (s.compareCounted d).div = dvSoft := (s.compareCounted_div d).trans hdiv
  have hm : (s.compareCounted d).compareMoves (s.get Reg.PRX_DIVCFG_DIV_TEETH) (s.counted d) = (s.compareCounted d).setDiv dvAgree := by
    unfold State.compareMoves
    rw [if_neg (by rw [s.compareCounted_haltFirst d, hh]; decide), if_neg (by rw [hhc]; omega), if_neg (by rw [hdv]; simp),
      if_pos ⟨hdv, by rw [hk]; exact hn⟩]
  exact (s.compared_div d hm (State.setDiv_div _ (by decide)) (by decide)).1

end

/-! ### A TOOTH frame -/

section
variable {s s' : State} (hw : s'.weave = s.weave) (hp : s'.primary = s.primary) (hr : ∀ a, a ≠ Reg.PRX_CNT0_addr → s'.reg a = s.reg a)
include hw hr

theorem State.angleOf_congr (n i : Nat) : s'.angleOf n i = s.angleOf n i := by
  have hpos : s'.posn n = s.posn n := State.get_congr (hr _ (by simp only [Reg.PRX_CNT0_addr]; omega))
  unfold State.angleOf State.refOf State.posAngle State.ncyc
  rw [hw, hpos]

include hp

theorem State.partnerUpdate_congr (p : List Nat) : s'.partnerUpdate p = s.partnerUpdate p := by
  have hpos : s'.posn s.primary = s.posn s.primary := State.get_congr (hr _ (by simp only [Reg.PRX_CNT0_addr]; omega))
  unfold State.partnerUpdate State.ncyc
  simp only [hp, hw, hpos, State.angleOf_congr hw hr, hr Reg.PRX_OFS_addr (by decide)]

theorem State.comparable_congr (u : Update) : s'.comparable u = s.comparable u := by
  have hget : ∀ g : Fld, g.addr ≠ Reg.PRX_CNT0_addr → s'.get g = s.get g := fun g hg => State.get_congr (hr _ hg)
  have hst : s'.get (Reg.WRP_SYNC_STATE s.primary) = s.get (Reg.WRP_SYNC_STATE s.primary) := hget _ (by simp only [Reg.PRX_CNT0_addr]; omega)
  have hsrc : s'.get (Reg.WRP_SYNC_SRC s.primary) = s.get (Reg.WRP_SYNC_SRC s.primary) := hget _ (by simp only [Reg.PRX_CNT0_addr]; omega)
  have hbg : s'.get (Reg.WRP_SYNC_BG s.primary) = s.get (Reg.WRP_SYNC_BG s.primary) := hget _ (by simp only [Reg.PRX_CNT0_addr]; omega)
  unfold State.comparable State.checkOk State.sync State.src
  simp only [hp, hst, hsrc, hbg, hget Reg.PRX_STAT_CHECK (by decide), State.is_congr (hget Reg.PRX_STAT_MAP_VALID (by decide)),
    hget Reg.PRX_PART_STATE (by decide)]

end

/-- A frame of TYPE 1 that the receiver takes. -/
def State.toothFrame (s : State) (f : Nat) (p : List Nat) (t : Word) : State :=
  if s.receives then
    let s := (s.seqAccept 1 f).1
    if ¬ s.pairMember then s
    else
      let u := s.partnerUpdate p
      let n := s.primary
      let lim := min ((s.get (Reg.WRP_MODE_STALL_N n) * u.period + max u.nspan 1 - 1) / max u.nspan 1) (s.get (Reg.WRP_MODE_STALL_CAP n) * ms)
      let s := if u.half then s else s.setPair { s.pair with toothAt := some t, toothFor := lim }
      let cmp := s.comparable u
      let own := if s.sync n = ssBorrowed then s.ownAngleAt n u.time else s.angleAt s.delivering u.time
      let d := rdiv (sdiff u.angle own * (64 * s.cycleDeg)) W48
      let s := s.borrowUpdate u
      if cmp then
        let s := (s.setI Reg.PRX_DIFF_LAST (satS 24 d)).maxTo Reg.PRX_DIFF_MAXABS d.natAbs
        s.compared d.natAbs
      else s
  else s

theorem execProexToothFrame_eq (t : Word) (fseq : Fin 256) (p : List Nat) (s : State) :
    exec (.proexToothFrame t fseq p) s = .next ((s.at t).beatLost.toothFrame fseq p t) := rfl


section
variable (s : State) (f : Nat) (p : List Nat) (u : Update) (t : Word)

/-- For how long the partner's angle stays valid after update `u`, with crank Warp `n` the primary (R614). -/
def State.toothLimit (n : Nat) : Nat :=
  min ((s.get (Reg.WRP_MODE_STALL_N n) * u.period + max u.nspan 1 - 1) / max u.nspan 1) (s.get (Reg.WRP_MODE_STALL_CAP n) * ms)

/-- The accepted TOOTH frame of update `u`: the time for which the partner's angle is valid starts. -/
def State.toothHeard : State :=
  let x := (s.seqAccept 1 f).1
  if u.half then x else x.setPair { x.pair with toothAt := some t, toothFor := x.toothLimit u s.primary }

/-- The difference of the two angles in Table 13.14's units (R617). -/
def State.toothDiff (n : Nat) : Int :=
  let own := if s.sync n = ssBorrowed then s.ownAngleAt n u.time else s.angleAt s.delivering u.time
  rdiv (sdiff u.angle own * (64 * s.cycleDeg)) W48

/-- PRX_DIFF as a comparison shows it. -/
def State.diffShown (d : Int) : State := (s.setI Reg.PRX_DIFF_LAST (satS 24 d)).maxTo Reg.PRX_DIFF_MAXABS d.natAbs

theorem State.toothHeard_keeps : Keeps 67112976 s (s.toothHeard f u t) := by
  have h := State.seqAccept_keeps s 1 f (Nat.and_self _) (.refl _ s)
  unfold State.toothHeard
  dsimp only
  split
  · exact h
  · exact Keeps.upd_pair (by decide) h

theorem State.toothHeard_reg (a : Nat) (h : a ≠ Reg.PRX_CNT0_addr) : (s.toothHeard f u t).reg a = s.reg a := by
  have hs := (s.seqAccept_shows f 1).1.reg (a := a) (by rintro g rfl; exact Ne.symm h)
  unfold State.toothHeard
  dsimp only
  split
  · exact hs
  · exact hs

theorem State.toothFrame_member (hr : s.receives = true) (hm : s.pairMember = true) : s.toothFrame f p t =
    let u := s.partnerUpdate p
    let x := s.toothHeard f u t
    if x.comparable u then ((x.borrowUpdate u).diffShown (x.toothDiff u s.primary)).compared (x.toothDiff u s.primary).natAbs else x.borrowUpdate u := by
  obtain ⟨hw, -, -, hv, -⟩ := s.seqAccept_shows f 1
  have hp : (s.seqAccept 1 f).1.primary = s.primary :=
    (State.seqAccept_keeps s 1 f (Nat.and_self _) (.refl _ s)).same .primary (by decide)
  have hu : (s.seqAccept 1 f).1.partnerUpdate p = s.partnerUpdate p :=
    State.partnerUpdate_congr hv hp (fun a ha => hw.reg (by rintro g rfl; exact Ne.symm ha)) p
  unfold State.toothFrame
  rw [if_pos hr]
  dsimp only
  rw [if_neg (by rw [State.pairMember_of_weave hv]; exact fun h => h hm), hu, hp]
  rfl

end

/-! #### What the frame leaves as it is -/

section
variable {s x : State} (hk : Keeps 67112976 s x) (hr : ∀ a, a ≠ Reg.PRX_CNT0_addr → x.reg a = s.reg a)
include hk

theorem State.unacknowledged_congr (u : Update) : x.unacknowledged u = s.unacknowledged u := by
  have hw : x.weave = s.weave := hk.same .weave (by decide)
  have hsh : x.shuttles = s.shuttles := hk.same .shuttles (by decide)
  have hpo : x.pulseOuts = s.pulseOuts := hk.same .pulseOuts (by decide)
  have hov : x.ovs = s.ovs := hk.same .ovs (by decide)
  unfold State.unacknowledged State.hasTile
  rw [hw, hsh, hpo, hov]

include hr

theorem State.toothDiff_congr (u : Update) (n : Nat) : x.toothDiff u n = s.toothDiff u n := by
  have hw : x.weave = s.weave := hk.same .weave (by decide)
  have hp : x.primary = s.primary := hk.same .primary (by decide)
  have hget : ∀ g : Fld, g.addr ≠ Reg.PRX_CNT0_addr → x.get g = s.get g := fun g hg => State.get_congr (hr _ hg)
  have hsync : x.sync n = s.sync n := hget _ (by simp only [Reg.PRX_CNT0_addr]; omega)
  have hwp : x.wp n = s.wp n := congrArg (vget · n) (hk.same .warps (by decide) : x.warps = s.warps)
  have hwf : ∀ k, x.wf k = s.wf k := fun k => congrArg (vget · k) (hk.same .wefts (by decide) : x.wefts = s.wefts)
  have hwk : ∀ k, x.wk k = s.wk k := fun k => hget _ (by simp only [Reg.PRX_CNT0_addr]; omega)
  have hcoast : x.coast = s.coast := hget _ (by decide)
  have hdel : x.delivering = s.delivering := by
    unfold State.delivering State.src
    rw [hp, hget (Reg.WRP_SYNC_SRC s.primary) (by simp only [Reg.PRX_CNT0_addr]; omega)]
  have hun := State.unacknowledged_congr hk
  have hdeg : x.cycleDeg = s.cycleDeg := by unfold State.cycleDeg; rw [hw]
  unfold State.toothDiff State.ownAngleAt State.angleAt
  simp only [hsync, hwp, hwf, hwk, hcoast, hdel, hun, hdeg]

end

section
variable (s : State) (u : Update)

theorem Writes.maxTo {F : Set Fld} {s₀ s : State} (h : Writes F s₀ s) {f : Fld} (hf : f ∈ F) (v : Nat) : Writes F s₀ (s.maxTo f v) := by
  unfold State.maxTo
  exact (Writes.ite (h.set hf _) h).of_regs rfl

theorem State.get_maxTo_ge (f : Fld) (hf : f.lo + f.wid ≤ 48) (v : Nat) : min v f.max ≤ (s.maxTo f v).get f := by
  unfold State.maxTo
  rw [State.get_note]
  split
  · rw [State.get_set_of_lt s f hf (by have := Nat.two_pow_pos f.wid; simp only [Fld.max]; omega)]
  · omega

theorem State.borrowUpdate_writes : Writes {Reg.WFT_ERR_LAST 1, Reg.WFT_ERR_MAXABS 1} s (s.borrowUpdate u) := by
  unfold State.borrowUpdate
  split
  · exact .refl _ s
  · extract_lets f s₁
    have h₁ : Writes {Reg.WFT_ERR_LAST 1, Reg.WFT_ERR_MAXABS 1} s s₁ := by
      unfold s₁
      split
      · unfold State.weftError
        dsimp only
        rw [if_neg (by simp)]
        exact ((Writes.refl _ s).setI (by simp) _).maxTo (by simp) _
      · exact .refl _ s
    exact h₁.of_regs rfl

theorem State.borrowUpdate_same : (s.borrowUpdate u).pair = s.pair ∧ (s.borrowUpdate u).causes = s.causes ∧ (s.borrowUpdate u).now = s.now
    ∧ (s.borrowUpdate u).pending = s.pending := by
  have h := State.borrowUpdate_keeps s u (Nat.and_self _) (.refl _ s)
  exact ⟨h.same .pair (by decide), h.same .causes (by decide), h.same .now (by decide), h.queue⟩

theorem State.maxTo_same (f : Fld) (v : Nat) : (s.maxTo f v).pair = s.pair ∧ (s.maxTo f v).causes = s.causes ∧ (s.maxTo f v).now = s.now
    ∧ (s.maxTo f v).pending = s.pending := by
  unfold State.maxTo
  split <;> exact ⟨rfl, rfl, rfl, rfl⟩

variable (d : Int)

theorem State.diffShown_same : (s.diffShown d).pair = s.pair ∧ (s.diffShown d).causes = s.causes ∧ (s.diffShown d).now = s.now
    ∧ (s.diffShown d).pending = s.pending := State.maxTo_same (s.setI Reg.PRX_DIFF_LAST (satS 24 d)) _ _

theorem State.diffShown_writes : Writes {Reg.PRX_DIFF_LAST, Reg.PRX_DIFF_MAXABS} s (s.diffShown d) :=
  ((Writes.refl _ s).setI (by simp) _).maxTo (by simp) _

theorem State.diffShown_shows : (s.diffShown d).get Reg.PRX_DIFF_LAST = unsign 24 (satS 24 d)
    ∧ min d.natAbs Reg.PRX_DIFF_MAXABS.max ≤ (s.diffShown d).get Reg.PRX_DIFF_MAXABS := by
  refine ⟨?_, State.get_maxTo_ge _ _ (by decide) _⟩
  refine (((Writes.refl {Reg.PRX_DIFF_MAXABS} (s.setI Reg.PRX_DIFF_LAST (satS 24 d))).maxTo (by simp) d.natAbs) _ (by rintro f rfl; simp [Fld.misses])).trans ?_
  exact State.get_set_of_lt s Reg.PRX_DIFF_LAST (by decide) (unsign_lt 24 _)

end

/-! #### The frame as a whole -/

section
variable (s : State) (f : Nat) (p : List Nat) (u : Update) (t : Word)

theorem State.toothHeard_pair (h : u.half = false) : (s.toothHeard f u t).pair.toothAt = some t
    ∧ (s.toothHeard f u t).pair.toothFor = s.toothLimit u s.primary := by
  have hget : ∀ g : Fld, g.addr ≠ Reg.PRX_CNT0_addr → (s.seqAccept 1 f).1.get g = s.get g := fun g hg =>
    (s.seqAccept_shows f 1).1 g (by rintro h rfl; exact .inl (Ne.symm hg))
  have hlim : (s.seqAccept 1 f).1.toothLimit u s.primary = s.toothLimit u s.primary := by
    unfold State.toothLimit
    rw [hget _ (by simp only [Reg.PRX_CNT0_addr]; omega), hget (Reg.WRP_MODE_STALL_CAP s.primary) (by simp only [Reg.PRX_CNT0_addr]; omega)]
  unfold State.toothHeard
  dsimp only
  rw [if_neg (fun h' => absurd (h.symm.trans h') (by decide)), hlim]
  exact ⟨rfl, rfl⟩

theorem State.toothHeard_counts : (s.toothHeard f u t).pair.hc = s.pair.hc ∧ (s.toothHeard f u t).pair.dc = s.pair.dc
    ∧ (s.toothHeard f u t).pair.ac = s.pair.ac := by
  have hp := (s.seqAccept_shows f 1).2.1
  unfold State.toothHeard
  dsimp only
  split
  · rw [hp]; exact ⟨rfl, rfl, rfl⟩
  · rw [State.pair_setPair, hp]; exact ⟨rfl, rfl, rfl⟩

/-- The state in which the difference `d` of a frame is compared. -/
def State.toothShown (d : Int) : State := ((s.toothHeard f u t).borrowUpdate u).diffShown d

variable (d : Int)

theorem State.toothShown_get {g : Fld} (h₀ : g.addr ≠ Reg.PRX_CNT0_addr) (h₁ : g.addr ≠ Reg.WFT_ERR_addr 1) (h₂ : g.addr ≠ Reg.PRX_DIFF_addr) :
    (s.toothShown f u t d).get g = s.get g := by
  refine (State.diffShown_writes _ d g ?_).trans ((State.borrowUpdate_writes _ u g ?_).trans (State.get_congr (s.toothHeard_reg f u t _ h₀)))
  · rintro h (rfl | rfl) <;> exact .inl (Ne.symm h₂)
  · rintro h (rfl | rfl) <;> exact .inl (Ne.symm h₁)

theorem State.toothShown_same : (s.toothShown f u t d).pair = (s.toothHeard f u t).pair ∧ (s.toothShown f u t d).haltFirst = s.haltFirst := by
  obtain ⟨hp₂, hc₂, hn₂, hq₂⟩ := ((s.toothHeard f u t).borrowUpdate u).diffShown_same d
  obtain ⟨hp₁, hc₁, hn₁, hq₁⟩ := (s.toothHeard f u t).borrowUpdate_same u
  have hk := s.toothHeard_keeps f u t
  exact ⟨hp₂.trans hp₁, State.haltFirst_congr (hc₂.trans (hc₁.trans (hk.same .causes (by decide)))) (hq₂.trans (hq₁.trans hk.queue))
    (hn₂.trans (hn₁.trans (hk.same .now (by decide))))⟩

theorem State.toothFrame_compared (hr : s.receives = true) (hm : s.pairMember = true) (hc : s.comparable (s.partnerUpdate p) = true) :
    let u := s.partnerUpdate p
    s.toothFrame f p t = (s.toothShown f u t (s.toothDiff u s.primary)).compared (s.toothDiff u s.primary).natAbs := by
  intro u
  have hk := s.toothHeard_keeps f u t
  have hreg := s.toothHeard_reg f u t
  have hcmp : (s.toothHeard f u t).comparable u = true :=
    (State.comparable_congr (hk.same .weave (by decide)) (hk.same .primary (by decide)) hreg u).trans hc
  have hd := State.toothDiff_congr hk hreg u s.primary
  rw [s.toothFrame_member f p t hr hm]
  dsimp only
  rw [if_pos hcmp, hd]
  rfl

theorem State.toothFrame_pair (hr : s.receives = true) (hm : s.pairMember = true) :
    (s.toothFrame f p t).pair.steady = (s.toothHeard f (s.partnerUpdate p) t).pair.steady := by
  rw [s.toothFrame_member f p t hr hm]
  dsimp only
  generalize hu : s.partnerUpdate p = u
  have hb := ((s.toothHeard f u t).borrowUpdate_same u).1
  split
  · refine (State.compared_calm _ _).1.trans (congrArg Pair.steady ?_)
    exact (State.diffShown_same _ _).1.trans hb
  · rw [hb]

theorem divFlds_miss_diff {g : Fld} (h : g.addr = Reg.PRX_DIFF_addr) : g.settled :=
  ⟨divFlds_miss (by rw [h]; decide) (fun h' => absurd (h.symm.trans h') (by decide)), by rw [h]; decide, by rw [h]; decide⟩

end

theorem linkFlds_miss_diff (n : Nat) {g : Fld} (h : g.addr = Reg.PRX_DIFF_addr) : ∀ f ∈ linkFlds n, f.misses g := by
  obtain ⟨hd, h3, h4⟩ := divFlds_miss_diff h
  rintro f ((rfl | rfl | rfl) | hf)
  case inr => exact sourceFlds_miss n hd h3 h4 f hf
  all_goals exact .inl (by rw [h]; decide)

theorem State.setLink_diff (s : State) (new : Nat) : (s.setLink new).get Reg.PRX_DIFF_LAST = s.get Reg.PRX_DIFF_LAST := by
  rw [State.setLink_eq]
  split
  · rfl
  · rw [State.linkFollow_writes _ _ _ _ (linkFlds_miss_diff _ rfl), State.get_report]
    exact State.get_set_ne _ _ _ _ (by simp)

theorem State.toothFrame_refused (s : State) (f : Nat) (p : List Nat) (t : Word) (h : s.receives = false) : s.toothFrame f p t = s :=
  if_neg fun h' => absurd (h.symm.trans h') (by decide)

/-- A loss of LINK that falls due at the instant of a TOOTH frame comes before it, and the frame is not received. -/
theorem State.toothFrame_lost (s : State) (f : Nat) (p : List Nat) (t : Word) : (s.setLink 0).toothFrame f p t = s.setLink 0 := by
  refine State.toothFrame_refused _ f p t ?_
  unfold State.receives
  rw [s.setLink_link (new := 0) (by decide)]
  simp

section
variable (s : State) (f : Nat) (p : List Nat) (t : Word) (d : Int)

/-- The state of a comparison has the divergence state, its limits and its counts from before the frame. -/
theorem State.toothShown_compares (u : Update) : (s.toothShown f u t d).div = s.div
    ∧ (s.toothShown f u t d).get Reg.PRX_DIVCFG_DIV_TOL = s.get Reg.PRX_DIVCFG_DIV_TOL
    ∧ (s.toothShown f u t d).get Reg.PRX_DIVCFG_HARD = s.get Reg.PRX_DIVCFG_HARD
    ∧ (s.toothShown f u t d).get Reg.PRX_DIVCFG_DIV_TEETH = s.get Reg.PRX_DIVCFG_DIV_TEETH
    ∧ (s.toothShown f u t d).pair.hc = s.pair.hc ∧ (s.toothShown f u t d).pair.dc = s.pair.dc
    ∧ (s.toothShown f u t d).pair.ac = s.pair.ac := by
  rw [(s.toothShown_same f u t d).1]
  obtain ⟨hh, hd, ha⟩ := s.toothHeard_counts f u t
  exact ⟨s.toothShown_get f u t d (by decide) (by decide) (by decide), s.toothShown_get f u t d (by decide) (by decide) (by decide),
    s.toothShown_get f u t d (by decide) (by decide) (by decide), s.toothShown_get f u t d (by decide) (by decide) (by decide), hh, hd, ha⟩

theorem State.compared_diff (n : Nat) : ((s.diffShown d).compared n).get Reg.PRX_DIFF_LAST = unsign 24 (satS 24 d)
    ∧ min d.natAbs Reg.PRX_DIFF_MAXABS.max ≤ ((s.diffShown d).compared n).get Reg.PRX_DIFF_MAXABS := by
  rw [State.compared_get _ n (divFlds_miss_diff (g := Reg.PRX_DIFF_LAST) rfl) (.inl (by decide)),
    State.compared_get _ n (divFlds_miss_diff (g := Reg.PRX_DIFF_MAXABS) rfl) (.inl (by decide))]
  exact s.diffShown_shows d

end

/-- Settles O59. -/
theorem proexBeatsAndTeeth : Obligations.ProexBeatsAndTeeth := by
  unfold Obligations.ProexBeatsAndTeeth
  refine ⟨fun t fseq p arrival s hp => ?_, fun t fseq p s => ?_⟩
  · intro c theta delay
    have hx : s.receives = true → exec c s = .next ((s.at t).afterBeat fseq p arrival t) := execProexBeatFrame_received t fseq p arrival s
    refine ⟨fun hr => ⟨_, hx hr, (s.at t).afterBeat_shows fseq p arrival t hp⟩, fun hr hs h0 h1 => ⟨_, hx hr, (s.at t).afterBeat_sampled fseq p arrival t hp hs h0 h1⟩,
      fun hr h => ⟨_, hx hr, (s.at t).afterBeat_refused fseq p arrival t hp h⟩, fun hr => ?_⟩
    exact congrArg Host.Outcome.next (if_neg fun h => absurd (hr.symm.trans h) (by decide))
  · intro c u lost lim own d tol hard n
    have hx : ¬ lost → exec c s = .next ((s.at t).toothFrame fseq p t) := fun hl => by
      rw [execProexToothFrame_eq, show (s.at t).beatLost = s.at t from if_neg hl]
    have hlost : lost → exec c s = .next ((s.at t).setLink 0) := fun hl => by
      rw [execProexToothFrame_eq, show (s.at t).beatLost = (s.at t).setLink 0 from if_pos hl, State.toothFrame_lost]
    have hd : (s.at t).toothDiff u s.primary = d := rfl
    have hlim : (s.at t).toothLimit u s.primary = lim := rfl
    have hcmp : s.receives = true → s.pairMember = true → s.comparable u = true →
        (s.at t).toothFrame fseq p t = ((s.at t).toothShown fseq u t d).compared d.natAbs := fun hr hm hc =>
      hd ▸ (s.at t).toothFrame_compared fseq p t hr hm hc
    obtain ⟨hdv, htol, hhard, hn, hhc, hdc, hac⟩ := (s.at t).toothShown_compares fseq t d u
    have hhf := ((s.at t).toothShown_same fseq u t d).2
    refine ⟨fun hl => ⟨_, hlost hl, State.setLink_link _ (by decide), ((s.at t).setLink_down hl.1).1, State.setLink_diff _ _⟩, fun hl hr hm hh => ⟨_, hx hl, ?_⟩, fun hl hr hm _ hc =>
      ⟨⟨_, (hx hl).trans (congrArg Host.Outcome.next (hcmp hr hm hc)), State.compared_diff _ d _⟩, fun hh hdiv => ⟨_, (hx hl).trans (congrArg Host.Outcome.next (hcmp hr hm hc)), ?_⟩,
        fun hh hn0 hlt => ⟨fun hdiv hgt hle => ⟨_, (hx hl).trans (congrArg Host.Outcome.next (hcmp hr hm hc)), ?_⟩,
          fun hdiv hgt hle hcnt => ⟨_, (hx hl).trans (congrArg Host.Outcome.next (hcmp hr hm hc)), ?_⟩,
          fun hdiv hle hcnt => ⟨_, (hx hl).trans (congrArg Host.Outcome.next (hcmp hr hm hc)), ?_⟩⟩⟩, fun hl hr => ?_⟩
    · have hp := (s.at t).toothFrame_pair fseq p t hr hm
      obtain ⟨h₁, h₂⟩ := (s.at t).toothHeard_pair fseq u t hh
      exact ⟨(congrArg Pair.toothAt hp :).trans h₁, (congrArg Pair.toothFor hp :).trans (h₂.trans hlim)⟩
    · exact (State.compared_halted _ _ (hhf.trans hh) (hdv.symm ▸ hdiv)).trans hdv
    · exact State.compared_hard _ _ (hhf.trans hh) (hdv.symm ▸ hdiv) (hhard.symm ▸ hgt) (hn.symm ▸ hhc.symm ▸ hle)
    · exact State.compared_soft _ _ (hhf.trans hh) (hn.symm ▸ hn0) (hdv.trans hdiv) (htol.symm ▸ hgt) (hhard.symm ▸ hle) (hn.symm ▸ hdc.symm ▸ hcnt)
    · exact State.compared_agree _ _ (hhf.trans hh) (hn.symm ▸ hn0) (hdv.trans hdiv) (htol.symm ▸ hle) (htol.symm ▸ hhard.symm ▸ hlt) (hn.symm ▸ hac.symm ▸ hcnt)
    · exact (hx hl).trans (congrArg Host.Outcome.next ((s.at t).toothFrame_refused fseq p t hr))

end Sys2Proof.Machine
end

section
/-!
PROOF. The Loom's start and stop (R98 to R103, O14): each is cut into stages, with what a stage writes and which parts of the state
it keeps. What runs for every Warp, bank or boost controller is a fold in which one element's step sets what the others keep.
-/
namespace Sys2Proof.Machine

/-- What the step of one element brings about in a fold stands at its end, when the steps of the others keep it. -/
theorem foldl_sets {α σ : Type} {I P : σ → Prop} {f : σ → α → σ} {a : α} {l : List α} (hI : ∀ s, ∀ b ∈ l, I s → I (f s b))
    (hset : ∀ s, I s → P (f s a)) (hkeep : ∀ s, ∀ b ∈ l, b ≠ a → I s → P s → P (f s b)) {s : σ} (hs : I s) (ha : a ∈ l ∨ P s) :
    P (l.foldl f s) := by
  induction l generalizing s with
  | nil => exact ha.resolve_left List.not_mem_nil
  | cons b l ih =>
    refine ih (fun s c hc => hI s c (.tail _ hc)) (fun s c hc => hkeep s c (.tail _ hc)) (hI s b (.head _) hs) ?_
    by_cases hb : b = a
    · exact .inr (hb ▸ hset s hs)
    · rcases ha with ha | ha
      · exact .inl ((List.mem_cons.1 ha).resolve_left (Ne.symm hb))
      · exact .inr (hkeep s b (.head _) hb hs ha)

/-- An invariant of every step of a fold. -/
theorem foldl_keeps {α σ : Type} {I : σ → Prop} {f : σ → α → σ} {l : List α} (hI : ∀ s, ∀ b ∈ l, I s → I (f s b)) {s : σ} (hs : I s) :
    I (l.foldl f s) := by
  induction l generalizing s with
  | nil => exact hs
  | cons b l ih => exact ih (fun s c hc => hI s c (.tail _ hc)) (hI s b (.head _) hs)

/-! ### What is written beside LOOM_RUN, the weave's STATE and the Warps -/

/-- The fields beside SYS_STATUS, WVE_STATUS and the Warps' registers from WRP0_SYNC on. -/
def besideLoom : Set Fld := {f | f.addr ≠ 0x0002 ∧ f.addr ≠ 0x0401 ∧ (f.addr < 0x0810 ∨ 0x0C00 ≤ f.addr)}

theorem mem_besideLoom_of_ge {f : Fld} (h : 0x0C00 ≤ f.addr) : f ∈ besideLoom := ⟨by omega, by omega, .inr h⟩

theorem divFlds_besideLoom : divFlds ⊆ besideLoom := by
  rintro f (rfl | rfl | rfl | rfl) <;> exact mem_besideLoom_of_ge (by decide)

theorem learnFlds_besideLoom : learnFlds ⊆ besideLoom := by
  rintro f (rfl | rfl) <;> exact mem_besideLoom_of_ge (by decide)

section
variable {s₀ s : State} (h : Writes besideLoom s₀ s)
include h

theorem Writes.running : s.running = s₀.running := h.is fun _ hf => .inl hf.1

theorem Writes.wstate : s.wstate = s₀.wstate := h _ fun _ hf => .inl hf.2.1

theorem Writes.syncReg {n : Nat} (hn : n < 6) {g : Fld} (hg : g.addr = Reg.WRP_SYNC_addr n) : s.get g = s₀.get g := by
  refine h _ fun f hf => .inl ?_
  have := hf.2.2
  simp only [Reg.WRP_SYNC_addr] at hg
  omega

end

theorem shtFlds_ge {n : Nat} {f : Fld} (h : f ∈ shtFlds n) : 0x0C00 ≤ f.addr := by
  rcases h with h | h
  · simp only [shtOwn, List.mem_cons, List.not_mem_nil, or_false] at h
    rcases h with rfl | rfl | rfl | rfl | rfl | rfl | rfl | rfl | rfl | rfl | rfl | rfl | rfl | rfl | rfl <;>
      simp only [wholeReg, Reg.SHT_NEXT_addr, Reg.SHT_LAST_addr] <;> omega
  · exact Nat.le_trans (by decide) h

/-! ### One Warp -/

/-- What a change of Warp `n` may write: its own registers, and what follows for learning and the divergence state. -/
def warpFlds (n : Nat) : Set Fld := {f | 0x0800 + 128 * n ≤ f.addr ∧ f.addr < 0x0880 + 128 * n} ∪ (learnFlds ∪ divFlds)

theorem mem_warpFlds {n : Nat} {f : Fld} (h₁ : 0x0800 + 128 * n ≤ f.addr) (h₂ : f.addr < 0x0880 + 128 * n) : f ∈ warpFlds n := .inl ⟨h₁, h₂⟩

theorem goFlds_warpFlds (n : Nat) : goFlds n ⊆ warpFlds n := by
  rintro f ((rfl | rfl) | hf)
  · exact mem_warpFlds (by simp only []; omega) (by simp only []; omega)
  · exact mem_warpFlds (by simp only []; omega) (by simp only []; omega)
  · exact .inr hf

theorem huntFlds_warpFlds (n : Nat) : huntFlds n ⊆ warpFlds n := by
  rintro f (rfl | rfl)
  · exact mem_warpFlds (by simp only []; omega) (by simp only []; omega)
  · exact mem_warpFlds (by simp only [wholeReg, Reg.WRP_EDGE_addr]; omega) (by simp only [wholeReg, Reg.WRP_EDGE_addr]; omega)

/-- A change of Warp `n` writes nothing below the Warps, and no register of another Warp. -/
theorem warpFlds_miss {n : Nat} (hn : n < 6) {g : Fld} (hg : g.addr < 0x0800 + 128 * n ∨ 0x0880 + 128 * n ≤ g.addr ∧ g.addr < 0x0C00) :
    ∀ f ∈ warpFlds n, f.misses g := by
  rintro f (⟨h₁, h₂⟩ | hf | hf)
  · exact .inl (by omega)
  · exact .inl (by rcases hf with rfl | rfl <;> simp only [] <;> omega)
  · exact .inl (by rcases hf with rfl | rfl | rfl | rfl <;> simp only [] <;> omega)

section
variable {s₀ s : State} (n : Nat)

theorem State.blankWarp_writes (h : Writes (warpFlds n) s₀ s) : Writes (warpFlds n) s₀ (s.blankWarp n) := by
  unfold State.blankWarp
  extract_lets s₁ s₂
  have h₁ : Writes (warpFlds n) s₀ s₁ := h.of_regs rfl
  have h₂ : Writes (warpFlds n) s₀ s₂ := h₁.set (mem_warpFlds (by simp only []; omega) (by simp only []; omega)) _
  exact h₂.ite (h₂.set (mem_warpFlds (by simp only []; omega) (by simp only []; omega)) _)

theorem State.goState_writes (h : Writes (warpFlds n) s₀ s) (new : Nat) (t : Word) : Writes (warpFlds n) s₀ (s.goState n new t) :=
  State.goFrom_writes h (goFlds_warpFlds n) new t _

theorem State.startWarp_writes (h : Writes (warpFlds n) s₀ s) : Writes (warpFlds n) s₀ (s.startWarp n) := by
  unfold State.startWarp
  extract_lets s₁ s₂
  have h₁ : Writes (warpFlds n) s₀ s₁ := (State.restartHunt_writes (State.blankWarp_writes n h) (huntFlds_warpFlds n) none).of_regs rfl
  have h₂ : Writes (warpFlds n) s₀ s₂ := h₁.set (mem_warpFlds (by simp only []; omega) (by simp only []; omega)) _
  exact (State.goState_writes n h₂ _ _).ite (h₂.set (mem_warpFlds (by simp only []; omega) (by simp only []; omega)) _)

theorem State.stopWarp_writes (h : Writes (warpFlds n) s₀ s) : Writes (warpFlds n) s₀ (s.stopWarp n) := by
  have hm {f : Fld} (hf : f.addr = Reg.WRP_SYNC_addr n) : f ∈ warpFlds n :=
    mem_warpFlds (by simp only [Reg.WRP_SYNC_addr] at hf; omega) (by simp only [Reg.WRP_SYNC_addr] at hf; omega)
  unfold State.stopWarp
  extract_lets s₁ s₂
  have h₁ : Writes (warpFlds n) s₀ s₁ := (State.goState_writes n h _ _).ite (h.set (hm rfl) _)
  have h₂ : Writes (warpFlds n) s₀ s₂ := ((h₁.set (hm rfl) _).set (hm rfl) _).ite h₁
  exact State.blankWarp_writes n h₂

/-- A started Warp is in STALL with INIT set (R101). -/
theorem State.startWarp_shows : (s.startWarp n).sync n = ssStall ∧ (s.startWarp n).get (Reg.WRP_SYNC_INIT n) = 1 := by
  unfold State.startWarp
  extract_lets s₁ s₂
  have hi : s₂.get (Reg.WRP_SYNC_INIT n) = 1 := State.get_set_of_lt s₁ _ (by simp) (by simp)
  clear_value s₂
  split
  · refine ⟨State.goFrom_sync _ n (by decide) _ _, (State.goFrom_writes (.refl _ s₂) (fun _ h => h) _ _ _ _ ?_).trans hi⟩
    rintro f ((rfl | rfl) | hf | hf)
    · simp [Fld.misses]
    · exact .inl (by simp only []; omega)
    · exact learnFlds_miss (by simp only [Reg.WFT_CLST_addr]; omega) f hf
    · exact divFlds_miss (by simp only [Reg.PRX_CNT1_addr]; omega) (fun h => by simp only [Reg.PRX_STAT_addr] at h; omega) f hf
  · exact ⟨State.get_set_of_lt s₂ (Reg.WRP_SYNC_STATE n) (by simp) (show ssStall < 2 ^ 4 by decide), (State.get_set_ne _ _ _ _ (by simp)).trans hi⟩

/-- A stopped Warp is OFF (R100). -/
theorem State.stopWarp_shows : (s.stopWarp n).sync n = ssOff := by
  unfold State.stopWarp
  extract_lets s₁ s₂
  have h₁ : s₁.sync n = ssOff := by
    unfold s₁
    split
    · exact State.goFrom_sync _ n (by decide) _ _
    · exact State.get_set_of_lt s (Reg.WRP_SYNC_STATE n) (by simp) (show ssOff < 2 ^ 4 by decide)
  have h₂ : s₂.sync n = ssOff := by
    unfold s₂ State.sync
    split
    · rw [State.get_set_ne _ _ _ _ (by simp), State.get_set_ne _ _ _ _ (by simp)]
      exact h₁
    · exact h₁
  have hw : Writes {Reg.WRP_SYNC_TOOTH n, Reg.WRP_SYNC_CAMST n} s₂ (s₂.blankWarp n) := by
    unfold State.blankWarp
    extract_lets s₃ s₄
    have h₄ : Writes {Reg.WRP_SYNC_TOOTH n, Reg.WRP_SYNC_CAMST n} s₂ s₄ := ((Writes.refl _ s₂).of_regs (s' := s₃) rfl).set (by simp) _
    exact h₄.ite (h₄.set (by simp) _)
  exact (hw _ (by rintro f (rfl | rfl) <;> simp [Fld.misses])).trans h₂

end

/-! ### The start -/

/-- What stands before LOOM_RUN: the effective values, DRIFT, the tables' checks, the running times (R458, R471, R506, R578). -/
def State.startForms (s : State) : State :=
  (([0, 1].foldl (fun s q => (List.range s.weave.cyl).foldl (fun s k =>
    if s.hasTile 9 q then s.restoreDrift q k else s) s) s.form).tableCheck.countRunning).countSeconds

/-- LOOM_RUN and STATE at a Loom start. -/
def State.runShown (s : State) : State := (s.set Reg.SYS_STATUS_LOOM_RUN 1).set Reg.WVE_STATUS_STATE stRunning

/-- The request is taken, and what counts from the start on does so. -/
def State.runBegins (s : State) : State :=
  { s with
    weave := { s.weave with runReq := false }
    selv := s.selv.map (fun (k : SelvLine) => { k with rollAt := s.now })
    strand := { s.strand with coilAt := s.now, boostAt := s.now }
    pair := { s.pair with key := 0 }
    wefts := s.wefts.map Weft.blank }

/-- The Warps of the weave start. -/
def State.startWarps (s : State) : State := ((List.range 6).filter (fun n => s.hasTile 1 n)).foldl State.startWarp s

/-- Bank `b` at a Loom start. -/
def State.startBank (s : State) (b : Nat) : State :=
  let s := s.thermalReset b
  let s := s.setBk b { s.bk b with period := s.now, tested := false, retest := false }
  if s.is (Reg.BNK_CONT_EN b) then s.contEnable b else s

/-- The Shuttles and the banks of the weave start. -/
def State.startUnits (s : State) : State :=
  let s := ((List.range 64).filter (fun n => s.hasTile 3 n)).foldl State.shtLoomStart s
  ((List.range 12).filter (fun b => s.hasTile 4 b)).foldl State.startBank s

/-- The divergence state and sync-ready at a Loom start. -/
def State.startPair (s : State) : State :=
  let s := s.counter 2
  (s.setDiv (if s.pairMember then dvSolo else dvAgree)).divLink.cutWatch.checkReady

theorem State.loomStart_eq (s : State) :
    s.loomStart = s.startForms.runShown.runBegins.startServices.startWarps.restoreSignatures.startUnits.startPair := rfl

section
variable (s : State)

theorem State.startForms_keeps : Keeps (maskOf [.fresh, .regs, .work, .ticks, .reports, .inCal, .strand]) s s.startForms := by
  unfold State.startForms
  refine State.countSeconds_keeps _ (by decide) (State.countRunning_keeps _ (by decide) (State.tableCheck_keeps _ (by decide) ?_))
  refine Keeps.foldl (fun s q h => Keeps.foldl (fun s k h => ?_) _ _ h) _ _ (State.form_keeps _ (by decide) (.refl _ s))
  exact Keeps.ite (State.restoreDrift_keeps _ _ _ (by decide) h) h

theorem State.startForms_secAt : s.startForms.strand.secAt = s.now :=
  s.startForms_keeps.same .now (by decide)

/-- What counts from the Loom start on counts from `t`. -/
def State.countsFrom (s : State) (t : Word) : Prop :=
  s.now = t ∧ s.strand.secAt = t ∧ s.strand.coilAt = t ∧ s.strand.boostAt = t

theorem State.countsFrom_set {t : Word} (f : Fld) (v : Nat) (h : s.countsFrom t) : (s.set f v).countsFrom t := h

theorem State.goState_countsFrom {t : Word} (h : s.countsFrom t) (n new : Nat) (t' : Word) : (s.goState n new t').countsFrom t := by
  obtain ⟨hn, hs, hc, hb⟩ := h
  have hnow : (s.goState n new t').now = t := ((State.goState_keeps s n new t' (Nat.and_self _) (.refl _ s)).same .now (by decide)).trans hn
  refine ⟨hnow, ?_⟩
  unfold State.goState State.goFrom
  extract_lets old s₁ s₂ s₃
  have h₁ : s₁.strand.secAt = t ∧ s₁.strand.coilAt = t ∧ s₁.strand.boostAt = t := ⟨hn, hc, hb⟩
  have h₃ : s₃.strand.secAt = t ∧ s₃.strand.coilAt = t ∧ s₃.strand.boostAt = t := by unfold s₃; split <;> exact h₁
  clear_value s₃
  split
  · exact ⟨hs, hc, hb⟩
  · split
    · rw [show (s₃.primaryChanged old new).strand = s₃.strand from
        (State.primaryChanged_keeps s₃ old new (Nat.and_self _) (.refl _ s₃)).same .strand (by decide)]
      exact h₃
    · exact h₃

theorem State.startWarp_countsFrom {t : Word} (h : s.countsFrom t) (n : Nat) : (s.startWarp n).countsFrom t := by
  have hk : Keeps (maskOf [.regs, .warps, .wefts]) s ((s.blankWarp n).stallReset n) :=
    State.stallReset_keeps _ n (by decide) (State.blankWarp_keeps _ n (by decide) (.refl _ s))
  have hs : ((s.blankWarp n).stallReset n).countsFrom t := by
    unfold State.countsFrom
    rw [show ((s.blankWarp n).stallReset n).strand = s.strand from hk.same .strand (by decide), show ((s.blankWarp n).stallReset n).now = s.now from hk.same .now (by decide)]
    exact h
  unfold State.startWarp
  have h₂ := State.countsFrom_set _ (Reg.WRP_SYNC_INIT n) 1 hs
  extract_lets s₁ s₂
  change s₂.countsFrom t at h₂
  clear_value s₂
  split
  · exact State.goState_countsFrom s₂ h₂ n _ _
  · exact State.countsFrom_set s₂ _ _ h₂

theorem State.startServices_writes : Writes besideLoom s s.startServices := by
  have hm {f : Fld} (h : 0x0C00 ≤ f.addr) : f ∈ besideLoom := mem_besideLoom_of_ge h
  unfold State.startServices
  extract_lets s₁ _ s₂ s₃
  have h₁ : Writes besideLoom s s₁ := ((Writes.refl _ s).set (hm (by decide)) _).set (hm (by decide)) _
  have h₂ : Writes besideLoom s s₂ := h₁.of_regs rfl
  have h₃ : Writes besideLoom s s₃ := h₂.foldl fun s k _ h => h.of_regs ((State.regs_setCyl ..).trans (State.regs_setCyl ..))
  exact h₃.set (hm (by decide)) _

theorem State.startWarps_shows {n : Nat} (hn : n < 6) (ht : s.hasTile 1 n = true) :
    s.startWarps.sync n = ssStall ∧ s.startWarps.get (Reg.WRP_SYNC_INIT n) = 1 := by
  refine foldl_sets (I := fun _ => True) (P := fun s : State => s.sync n = ssStall ∧ s.get (Reg.WRP_SYNC_INIT n) = 1) (a := n)
    (fun _ _ _ _ => trivial) (fun s _ => State.startWarp_shows n) (fun s m hm hne _ h => ?_) trivial
    (.inl (List.mem_filter.2 ⟨List.mem_range.2 hn, ht⟩))
  have hm6 : m < 6 := List.mem_range.1 (List.mem_filter.1 hm).1
  have hw := State.startWarp_writes m (Writes.refl _ s)
  exact ⟨(hw _ (warpFlds_miss hm6 (by simp only []; omega))).trans h.1, (hw _ (warpFlds_miss hm6 (by simp only []; omega))).trans h.2⟩

/-- The Warps' start leaves LOOM_RUN, the weave's STATE, and what counts from the start. -/
theorem State.startWarps_same {t : Word} (h : s.countsFrom t) :
    s.startWarps.running = s.running ∧ s.startWarps.wstate = s.wstate ∧ s.startWarps.countsFrom t := by
  refine foldl_keeps (I := fun x : State => x.running = s.running ∧ x.wstate = s.wstate ∧ x.countsFrom t) (fun x m hm hx => ?_) ⟨rfl, rfl, h⟩
  have hm6 : m < 6 := List.mem_range.1 (List.mem_filter.1 hm).1
  have hw := State.startWarp_writes m (Writes.refl _ x)
  obtain ⟨hr, hs, hc⟩ := hx
  exact ⟨(hw.is (warpFlds_miss hm6 (.inl (by simp only []; omega)))).trans hr, (hw _ (warpFlds_miss hm6 (.inl (by simp only []; omega)))).trans hs,
    x.startWarp_countsFrom hc m⟩

theorem State.restoreSignatures_writes : Writes besideLoom s s.restoreSignatures := by
  have hm {f : Fld} (h : 0x0C00 ≤ f.addr) : f ∈ besideLoom := mem_besideLoom_of_ge h
  have hone : ∀ x : State, ∀ n, Writes besideLoom s x → Writes besideLoom s (x.restoreSignature n) := by
    intro x n h
    unfold State.restoreSignature
    extract_lets _ x₁ x₂
    have h₁ : Writes besideLoom s x₁ := Writes.ite h (h.of_regs rfl)
    have h₂ : Writes besideLoom s x₂ := h₁.set (by split <;> exact hm (by simp)) _
    have hload (f : Found) : Writes besideLoom s (x₂.sigLoad n f) := by
      unfold State.sigLoad
      exact h₂.foldl fun _ _ _ h => h.of_regs rfl
    split
    · exact h₂
    · next f _ =>
      extract_lets y
      have hy : Writes besideLoom s y := hload f
      clear_value y
      exact hy.of_regs rfl
  unfold State.restoreSignatures
  extract_lets s₁ _ s₂
  have h₁ : Writes besideLoom s s₁ := (Writes.refl _ s).foldl fun x n _ h => hone x n h
  have h₂ : Writes besideLoom s s₂ := h₁.of_regs rfl
  exact Writes.ite (h₂.flag (hm (by simp)) _) (.refl _ s)

end

section
variable {s₀ s : State} (h : Writes besideLoom s₀ s)
include h

theorem State.drop_besideLoom {b : Nat} (hb : b < 12) (r : Request) (cause : Nat) : Writes besideLoom s₀ (s.drop b r cause) := by
  have hcount : 0x0C00 ≤ (dropCounter b cause).addr := by
    unfold dropCounter
    split_ifs <;> simp only [] <;> omega
  unfold State.drop
  extract_lets s₁
  have h₁ : Writes besideLoom s₀ s₁ :=
    ((h.setBk b _).stick (mem_besideLoom_of_ge (by simp only []; omega)) 1).inc (mem_besideLoom_of_ge hcount)
  have h₂ : Writes besideLoom s₀ (s₁.counterBank b false) := by
    unfold State.counterBank
    exact Writes.ite (h₁.of_regs rfl) h₁
  unfold State.pulseDropped State.pulseOver
  split
  · next hp =>
    refine Writes.trans (h₂.report _ _ _ _ _) ((State.serve_serves (Serves.endPulse (.refl _ _))).regs.mono fun f hf => ?_)
    exact mem_besideLoom_of_ge (shtFlds_ge hf)
  · exact h₂.report _ _ _ _ _

theorem State.contTry_besideLoom {b : Nat} (hb : b < 12) (ended : Bool) : Writes besideLoom s₀ (s.contTry b ended) := by
  have hm {f : Fld} (h : 0x0C00 ≤ f.addr) : f ∈ besideLoom := mem_besideLoom_of_ge h
  have hcont : contFlds b ⊆ besideLoom := fun f hf => by
    rcases hf with hf | hf
    · exact hm (by simp only [Reg.BNK_STAT_addr] at hf; omega)
    · exact hm (by have := mem_fromClosure.1 hf; omega)
  have h₁ : Writes besideLoom s₀ (s.endTail b 3) :=
    h.trans ((State.endTail_writes hb (.refl _ s) 3).mono fun f hf => hcont (contFlds_of_closure hf))
  have hb' : Writes besideLoom s₀ (s.contBegin b) := by
    unfold State.contBegin
    extract_lets ch s₁ _ s₂ s₃
    have h₃ : Writes besideLoom s₀ s₃ := Writes.trans (Writes.setBk h₁ b _) ((State.takeBank_writes hb (.refl _ s₂) ch none s₂.now).mono hcont)
    clear_value s₃
    have hfold : ∀ l : List Request, Writes besideLoom s₀ (l.foldl (fun s r => s.drop b r ((s.dropCause b r).getD 4)) s₃) :=
      fun l => h₃.foldl fun s r _ h => State.drop_besideLoom h hb r _
    exact Writes.trans (hfold _) ((State.bnkShow_writes_stat (.refl _ _)).mono hcont)
  unfold State.contTry
  exact hb'.ite h

theorem State.thermalOff_besideLoom {b c : Nat} (hb : b < 12) : Writes besideLoom s₀ (s.thermalOff b c) := by
  have hm {f : Fld} (h : 0x0C00 ≤ f.addr) : f ∈ besideLoom := mem_besideLoom_of_ge h
  have hshow : ∀ x : State, Writes besideLoom s₀ x → Writes besideLoom s₀ (x.bnkShow b) := fun x h =>
    State.bnkShow_writes h (by
      simp only [shownFlds, List.forall_mem_cons]
      exact ⟨hm (by simp only []; omega), hm (by simp only []; omega), hm (by simp only []; omega), hm (by simp only []; omega),
        hm (by simp only []; omega), fun _ h => absurd h List.not_mem_nil⟩)
  unfold State.thermalOff State.setLevel State.bankEvent
  extract_lets s₁ s₂ s₃
  have h₁ : Writes besideLoom s₀ s₁ := h.set (hm (by simp only []; omega)) _
  have h₂ : Writes besideLoom s₀ s₂ := (h₁.set (hm (by simp only []; omega)) _).report _ _ _ _ _
  have h₃ : Writes besideLoom s₀ s₃ := by
    unfold s₃
    rw [if_neg (by decide)]
    exact State.contTry_besideLoom h₂ hb false
  exact h.ite (h₁.ite (hshow _ h₃))

theorem State.startBank_besideLoom {b : Nat} (hb : b < 12) : Writes besideLoom s₀ (s.startBank b) := by
  have hm {f : Fld} (h : 0x0C00 ≤ f.addr) : f ∈ besideLoom := mem_besideLoom_of_ge h
  have hreset : Writes besideLoom s₀ (s.thermalReset b) := by
    unfold State.thermalReset
    extract_lets s₁
    have h₁ : Writes besideLoom s₀ s₁ := h.foldl fun x c _ h =>
      State.thermalOff_besideLoom ((h.setI (hm (by simp only []; omega)) _).set (hm (by simp only []; omega)) _) hb
    exact h₁.setBk b _
  unfold State.startBank
  extract_lets s₁ _ s₂
  have h₂ : Writes besideLoom s₀ s₂ := hreset.setBk b _
  unfold State.contEnable
  exact Writes.ite (State.contTry_besideLoom (h₂.setBk b _) hb false) h₂

theorem State.startUnits_besideLoom : Writes besideLoom s₀ s.startUnits := by
  have hm {f : Fld} (h : 0x0C00 ≤ f.addr) : f ∈ besideLoom := mem_besideLoom_of_ge h
  unfold State.startUnits
  extract_lets s₁
  have h₁ : Writes besideLoom s₀ s₁ := h.foldl fun x n _ h => by
    unfold State.shtLoomStart State.shtShow
    exact (((h.of_regs rfl).set (hm (by simp only []; omega)) _).set (hm (by simp only []; omega)) _).setReg
      (hm (by simp only [wholeReg, Reg.SHT_NEXT_addr]; omega)) _
  exact h₁.foldl fun x b hb h => State.startBank_besideLoom h (List.mem_range.1 (List.mem_filter.1 hb).1)

theorem State.startPair_besideLoom : Writes besideLoom s₀ s.startPair := by
  have hready : ∀ x : State, Writes besideLoom s₀ x → Writes besideLoom s₀ x.checkReady := fun x h => by
    unfold State.checkReady
    extract_lets boosts d
    refine Writes.ite ?_ h
    unfold State.startEvent
    exact ((h.set ⟨by decide, by decide, by decide⟩ _).set ⟨by decide, by decide, by decide⟩ _).report _ _ _ _ _
  unfold State.startPair
  extract_lets s₁
  have h₁ : Writes besideLoom s₀ s₁ := State.counter_writes h 2
  have h₂ := State.divLink_writes (State.setDiv_writes h₁ divFlds_besideLoom (if s₁.pairMember then dvSolo else dvAgree)) divFlds_besideLoom
  exact hready _ (h₂.of_regs rfl)

end

section
variable (s : State)

theorem State.runShown_shows : s.runShown.running = true ∧ s.runShown.wstate = stRunning := by
  have hrun : (s.set Reg.SYS_STATUS_LOOM_RUN 1).get Reg.SYS_STATUS_LOOM_RUN = 1 := State.get_set_of_lt s _ (by decide) (by decide)
  refine ⟨?_, State.get_set_of_lt (s.set Reg.SYS_STATUS_LOOM_RUN 1) _ (by decide) (by decide)⟩
  exact decide_eq_true ((State.get_set_ne _ _ _ _ (by simp)).trans hrun)

theorem State.runShown_same : s.runShown.weave = s.weave ∧ s.runShown.now = s.now ∧ s.runShown.strand = s.strand := ⟨rfl, rfl, rfl⟩

theorem State.runBegins_same : s.runBegins.running = s.running ∧ s.runBegins.wstate = s.wstate ∧ s.runBegins.now = s.now
    ∧ s.runBegins.weave = { s.weave with runReq := false } ∧ s.runBegins.strand = { s.strand with coilAt := s.now, boostAt := s.now } :=
  ⟨rfl, rfl, rfl, rfl, rfl⟩

theorem State.startServices_same : s.startServices.weave = s.weave ∧ s.startServices.now = s.now ∧ s.startServices.strand = s.strand := by
  have hk := State.startServices_keeps s (Nat.and_self _) (.refl _ s)
  exact ⟨hk.same .weave (by decide), hk.same .now (by decide), hk.same .strand (by decide)⟩

/-- The state in which the Warps start. -/
def State.startReached : State := s.startForms.runShown.runBegins.startServices

theorem State.startReached_shows : s.startReached.running = true ∧ s.startReached.wstate = stRunning
    ∧ s.startReached.weave = { s.weave with runReq := false } ∧ s.startReached.countsFrom s.now := by
  have hk := s.startForms_keeps
  have hsec := s.startForms_secAt
  have hw : s.startForms.weave = s.weave := hk.same .weave (by decide)
  have hn : s.startForms.now = s.now := hk.same .now (by decide)
  unfold State.startReached State.countsFrom
  generalize s.startForms = x at hw hn hsec
  obtain ⟨hrun, hst⟩ := x.runShown_shows
  obtain ⟨hw₁, hn₁, hs₁⟩ := x.runShown_same
  generalize x.runShown = y at hrun hst hw₁ hn₁ hs₁
  obtain ⟨hr₂, hst₂, hn₂, hw₂, hs₂⟩ := y.runBegins_same
  generalize y.runBegins = z at hr₂ hst₂ hn₂ hw₂ hs₂
  obtain ⟨hw₃, hn₃, hs₃⟩ := z.startServices_same
  have hwr := z.startServices_writes
  rw [hwr.running, hwr.wstate, hw₃, hn₃, hs₃, hr₂, hst₂, hw₂, hn₂, hs₂, hw₁, hn₁, hs₁, hw, hn]
  exact ⟨hrun, hst, rfl, rfl, hsec, rfl, rfl⟩

/-- The services forget what they held. -/
def State.servicesBlank (s : State) : State :=
  { s with
    svc := { sinceSwap := s.svc.sinceSwap }, trimDue := [], closures := [], cmbSig := [], maps := Vector.replicate 48 {}, rail := {}, ovs := {}
    combust := s.combust.map (fun (k : Combust) => { ({} : Combust) with merge := k.merge }) }

theorem State.servicesBlank_clears : s.servicesBlank.closures = [] ∧ s.servicesBlank.cmbSig = [] := ⟨rfl, rfl⟩

theorem State.startServices_clears : s.startServices.closures = [] ∧ s.startServices.cmbSig = [] := by
  have hk : Keeps (maskOf [.work, .regs]) ((s.set Reg.SVC_CYCLE_CYCLE 0).set Reg.SVC_DEM_VALID 0).servicesBlank s.startServices :=
    State.set_keeps _ _ _ (by decide) (Keeps.foldl (fun x k h => State.setCyl_keeps _ _ _ _ _ (by decide) (State.setCyl_keeps _ _ _ _ _ (by decide) h)) _ _ (.refl _ _))
  obtain ⟨hc, hs⟩ := State.servicesBlank_clears ((s.set Reg.SVC_CYCLE_CYCLE 0).set Reg.SVC_DEM_VALID 0)
  generalize ((s.set Reg.SVC_CYCLE_CYCLE 0).set Reg.SVC_DEM_VALID 0).servicesBlank = x at hk hc hs
  exact ⟨Eq.trans (hk.same .closures (by decide)) hc, Eq.trans (hk.same .cmbSig (by decide)) hs⟩

/-- What stands at the end of a Loom start. -/
def State.startEnds : State := s.startWarps.restoreSignatures.startUnits.startPair

/-- The parts that change once LOOM_RUN stands. -/
def startParts : List Part := [.fresh, .regs, .work, .recMem, .ticks, .reports, .causes, .warps, .wefts, .learn, .shTok, .bkTok,
    .pair, .acc, .shuttles, .seqTok, .pulseOuts, .banks, .cmps, .maps, .svc, .ovs, .strand, .saf]

theorem State.startBank_keeps {P : Nat} {s₀ : State}
    (hP : maskOf [.fresh, .regs, .ticks, .reports, .acc, .shuttles, .seqTok, .banks, .cmps] &&& P
      = maskOf [.fresh, .regs, .ticks, .reports, .acc, .shuttles, .seqTok, .banks, .cmps]) (h : Keeps P s₀ s) (b : Nat) :
    Keeps P s₀ (s.startBank b) := by
  unfold State.startBank
  extract_lets s₁ _ s₂
  have h₂ : Keeps P s₀ s₂ := State.setBk_keeps _ _ _ (Mask.sub hP (by decide)) (State.thermalReset_keeps _ _ (Mask.sub hP (by decide)) h)
  exact Keeps.ite (State.contEnable_keeps _ _ (Mask.sub hP (by decide)) h₂) h₂

theorem State.startWarps_keeps {s₀ : State} (h : Keeps (maskOf startParts) s₀ s) : Keeps (maskOf startParts) s₀ s.startWarps :=
  Keeps.foldl (fun _ _ h => State.startWarp_keeps _ _ (by decide) h) _ _ h

theorem State.startUnits_keeps {s₀ : State} (h : Keeps (maskOf startParts) s₀ s) : Keeps (maskOf startParts) s₀ s.startUnits :=
  Keeps.foldl (fun x b h => x.startBank_keeps (by decide) h b) _ _ (Keeps.foldl (fun _ _ h => State.shtLoomStart_keeps _ _ (by decide) h) _ _ h)

theorem State.startPair_keeps {s₀ : State} (h : Keeps (maskOf startParts) s₀ s) : Keeps (maskOf startParts) s₀ s.startPair :=
  State.checkReady_keeps _ (by decide) (State.cutWatch_keeps _ (by decide) (State.divLink_keeps _ (by decide)
    (State.setDiv_keeps _ _ (by decide) (State.counter_keeps _ _ (by decide) h))))

theorem State.startEnds_keeps : Keeps (maskOf startParts) s s.startEnds :=
  State.startPair_keeps _ (State.startUnits_keeps _ (State.restoreSignatures_keeps _ (by decide) (State.startWarps_keeps _ (.refl _ s))))

theorem State.startEnds_strand : s.startEnds.strand = s.startWarps.strand := by
  have h₁ := State.restoreSignatures_keeps s.startWarps (Nat.and_self _) (.refl _ _)
  have h₂ : Keeps (maskOf [.fresh, .regs, .ticks, .reports, .acc, .shuttles, .seqTok, .banks, .cmps]) s.startWarps.restoreSignatures
      s.startWarps.restoreSignatures.startUnits :=
    Keeps.foldl (fun x b h => x.startBank_keeps (by decide) h b) _ _
      (Keeps.foldl (fun _ _ h => State.shtLoomStart_keeps _ _ (by decide) h) _ _ (.refl _ _))
  have h₃ : Keeps (maskOf [.acc, .regs, .ticks, .reports, .causes, .pair, .saf]) s.startWarps.restoreSignatures.startUnits s.startEnds :=
    State.checkReady_keeps _ (by decide) (State.cutWatch_keeps _ (by decide) (State.divLink_keeps _ (by decide)
      (State.setDiv_keeps _ _ (by decide) (State.counter_keeps _ _ (by decide) (.refl _ _)))))
  exact (h₃.same .strand (by decide)).trans ((h₂.same .strand (by decide)).trans (h₁.same .strand (by decide)))

theorem State.startEnds_writes : Writes besideLoom s.startWarps s.startEnds :=
  State.startPair_besideLoom (State.startUnits_besideLoom (State.restoreSignatures_writes _))

theorem State.hasTile_congr {x y : State} (h : y.weave.tiles = x.weave.tiles) (type idx : Nat) : y.hasTile type idx = x.hasTile type idx :=
  congrArg (·.contains (type, idx)) h

/-- What a Loom start leaves (R101). -/
theorem State.loomStart_shows : s.loomStart.running = true ∧ s.loomStart.wstate = stRunning
    ∧ (∀ n : Fin 6, s.hasTile 1 n = true → s.loomStart.sync n = ssStall ∧ s.loomStart.get (Reg.WRP_SYNC_INIT n) = 1)
    ∧ s.loomStart.weave = { s.weave with runReq := false } ∧ s.loomStart.strand.secAt = s.now
    ∧ s.loomStart.strand.coilAt = s.now ∧ s.loomStart.strand.boostAt = s.now ∧ s.loomStart.closures = [] ∧ s.loomStart.cmbSig = [] := by
  have hx := s.startReached_shows
  have hclear : s.startReached.closures = [] ∧ s.startReached.cmbSig = [] := State.startServices_clears _
  have heq : s.loomStart = s.startReached.startEnds := rfl
  rw [heq]
  generalize s.startReached = x at hx hclear
  obtain ⟨hr, hs, hw, hc⟩ := hx
  obtain ⟨hr₁, hs₁, hc₁⟩ := x.startWarps_same hc
  have hk := x.startEnds_keeps
  have hwr := x.startEnds_writes
  have hst := x.startEnds_strand
  refine ⟨hwr.running.trans (hr₁.trans hr), hwr.wstate.trans (hs₁.trans hs), fun n ht => ?_, Eq.trans (hk.same .weave (by decide)) hw, ?_, ?_, ?_,
    Eq.trans (hk.same .closures (by decide)) hclear.1, Eq.trans (hk.same .cmbSig (by decide)) hclear.2⟩
  · obtain ⟨h₁, h₂⟩ := x.startWarps_shows n.isLt ((State.hasTile_congr (x := s) (by rw [hw]) 1 n).trans ht)
    exact ⟨(hwr.syncReg n.isLt rfl).trans h₁, (hwr.syncReg n.isLt rfl).trans h₂⟩
  · rw [hst]; exact hc₁.2.1
  · rw [hst]; exact hc₁.2.2.1
  · rw [hst]; exact hc₁.2.2.2

end

/-! ### The stop -/

section
variable {F : Set Fld} {s₀ s : State} (h : Writes F s₀ s)
include h

theorem Writes.setWork (w : Cells 48) : Writes F s₀ { s with work := w } := h.of_regs rfl

theorem Writes.setLearn (l : Learn) : Writes F s₀ { s with learn := l } := h.of_regs rfl

theorem State.angleGone_writes : Writes F s₀ s.angleGone := h.of_regs rfl

theorem State.clearProfile_writes (hF : Reg.WFT_CLST_FP_VALID 0 ∈ F) : Writes F s₀ s.clearProfile :=
  (((h.setWork (s.work.filter fun c => decide (c.1 < 0x1000 ∨ 0x1800 ≤ c.1))).set hF 0).setLearn _).setLearn _

end

/-- What ends first at a Loom stop: the divergence state, the running times, the learning session. -/
def State.stopEnds (s : State) : State := s.stopDiv.countRunning.countSeconds.learnAbort 7

/-- The Shuttles and the banks of the weave stop. -/
def State.stopBanks (s : State) : State :=
  let s := ((List.range 64).filter (fun n => s.hasTile 3 n)).foldl State.shtLoseAll s
  ((List.range 12).filter (fun b => s.hasTile 4 b)).foldl State.bankOff s

/-- The boost controllers of the weave stop. -/
def State.stopBoosts (s : State) : State := (List.range 3).foldl (fun s g => if s.hasTile 5 g then s.boostOff g else s) s

/-- The Warps of the weave stop. -/
def State.stopWarps (s : State) : State := ((List.range 6).filter (fun n => s.hasTile 1 n)).foldl State.stopWarp s

/-- LOOM_RUN and STATE at a Loom stop. -/
def State.stopShown (s : State) : State := (s.set Reg.SYS_STATUS_LOOM_RUN 0).set Reg.WVE_STATUS_STATE stLoaded

/-- No token and no signal is left on its way. -/
def State.stopEmpties (s : State) : State :=
  { s with
    weave := { s.weave with runReq := false }
    wefts := s.wefts.map Weft.blank
    shTok := Vector.replicate 64 {}, bkTok := Vector.replicate 12 {}, seqTok := Vector.replicate 16 []
    seqs := s.seqs.map (fun (q : Sequencer) => { timer := q.timer }), cmbSig := [], combust := s.combust.map (fun (k : Combust) => { k with run := none, pend := none })
    trimDue := [], closures := [] }

/-- What stands after the Warps at a Loom stop. -/
def State.stopTail (s : State) : State :=
  let s := (s.set Reg.SYS_STATUS_LOOM_RUN 0).set Reg.WVE_STATUS_STATE stLoaded
  let s := { s with
    weave := { s.weave with runReq := false }
    wefts := s.wefts.map Weft.blank
    shTok := Vector.replicate 64 {}, bkTok := Vector.replicate 12 {}, seqTok := Vector.replicate 16 []
    seqs := s.seqs.map (fun (q : Sequencer) => { timer := q.timer }), cmbSig := [], combust := s.combust.map (fun (k : Combust) => { k with run := none, pend := none })
    trimDue := [], closures := [] }
  let s := (List.range 16).foldl (fun s k => if s.hasTile 6 k then s.seqShow k else s) s
  s.angleGone.clearProfile

/-- The sequencers, the pulse outputs and the profile at a Loom stop. -/
def State.stopUnits (s : State) : State :=
  ((List.range 16).foldl (fun s k => if s.hasTile 6 k then s.seqShow k else s) s).angleGone.clearProfile

section
variable (s : State)

theorem State.stopTail_eq : s.stopTail = s.stopShown.stopEmpties.stopUnits := rfl

theorem State.loomStop_eq : s.loomStop = if ¬ s.running then s else s.stopEnds.stopBanks.stopBoosts.stopWarps.stopTail := by
  unfold State.loomStop
  extract_lets s₁ s₂ s₃ s₄ s₅
  have h₃ : s₃ = s₁.stopBanks := rfl
  have h₄ : s₄ = s₃.stopBoosts := rfl
  have h₅ : s₅ = s₄.stopWarps := rfl
  have h₁ : s₁ = s.stopEnds := rfl
  clear_value s₁ s₃ s₄ s₅
  rw [← h₁, ← h₃, ← h₄, ← h₅]
  rfl

theorem State.stopEnds_weave : s.stopEnds.weave = s.weave := by
  have hk : Keeps (maskOf [.regs, .ticks, .reports, .causes, .pair, .strand, .warps, .learn]) s
      (s.stopDiv.countRunning.countSeconds.learnAbort 7) :=
    State.learnAbort_keeps _ 7 (by decide)
      (State.countSeconds_keeps _ (by decide) (State.countRunning_keeps _ (by decide) (State.stopDiv_keeps _ (by decide) (.refl _ s))))
  exact hk.same .weave (by decide)

theorem State.drive_bk_ne {b d : Nat} (h : d ≠ b) (st c : Nat) (t : Word) : (s.drive b st c t).bk d = s.bk d := by
  unfold State.drive
  extract_lets k
  split
  · rfl
  · exact (State.periodRise_bk _ _ _).trans (State.bk_setBk_ne _ _ h)

theorem State.endTail_bk_ne {b d : Nat} (h : d ≠ b) (flag : Nat) : (s.endTail b flag).bk d = s.bk d := by
  unfold State.endTail State.closeTail
  split
  · rfl
  · split
    · exact s.drive_bk_ne h _ _ _
    · exact (State.bk_setBk_ne _ _ h).trans ((State.closureResult_bk ..).trans (s.drive_bk_ne h _ _ _))

/-- A bank that is off has no owner and no gate on. -/
theorem State.bankOff_shows {b : Nat} (hb : b < 12) : ((s.bankOff b).bk b).owner = none ∧ ((s.bankOff b).bk b).gates = {} := by
  unfold State.bankOff
  extract_lets s₁ k s₂ s₃ k₃ s₄
  rw [State.bnkShow_bk]
  exact ⟨congrArg Bank.owner (State.bk_setBk s₃ _ hb), congrArg Bank.gates (State.bk_setBk s₃ _ hb)⟩

theorem State.bankOff_bk_ne {b d : Nat} (h : d ≠ b) : (s.bankOff b).bk d = s.bk d := by
  unfold State.bankOff
  extract_lets s₁ k s₂ s₃ k₃ s₄
  have h₁ : s₁.bk d = s.bk d := s.endTail_bk_ne h 3
  have h₂ : s₂.bk d = s.bk d := by
    unfold s₂
    clear_value s₁
    split
    · split
      · exact (State.closureResult_bk ..).trans ((s₁.drive_bk_ne h _ _ _).trans h₁)
      · exact (s₁.drive_bk_ne h _ _ _).trans h₁
    · exact h₁
  have h₃ : s₃.bk d = s.bk d := by
    unfold s₃
    clear_value s₂
    split
    · exact (State.closureResult_bk ..).trans h₂
    · exact h₂
  rw [State.bnkShow_bk]
  exact (State.bk_setBk_ne _ _ h).trans h₃

theorem State.stopBanks_weave : s.stopBanks.weave = s.weave := by
  have hk : Keeps (maskOf [.regs, .ticks, .reports, .shuttles, .seqTok, .banks, .cmps, .dmaTrigs]) s s.stopBanks :=
    Keeps.foldl (fun _ _ h => State.bankOff_keeps _ _ (by decide) h) _ _
      (Keeps.foldl (fun _ _ h => State.shtLoseAll_keeps _ _ (by decide) h) _ _ (.refl _ s))
  exact hk.same .weave (by decide)

theorem State.stopBanks_shows {b : Nat} (hb : b < 12) (ht : s.hasTile 4 b = true) :
    (s.stopBanks.bk b).owner = none ∧ (s.stopBanks.bk b).gates = {} := by
  have hk := Keeps.foldl (f := State.shtLoseAll) (P := maskOf [.regs, .ticks, .reports, .shuttles, .seqTok, .banks, .cmps, .dmaTrigs])
    (fun _ _ h => State.shtLoseAll_keeps _ _ (by decide) h) ((List.range 64).filter (fun n => s.hasTile 3 n)) s (.refl _ s)
  have hw : (((List.range 64).filter (fun n => s.hasTile 3 n)).foldl State.shtLoseAll s).weave = s.weave := hk.same .weave (by decide)
  unfold State.stopBanks
  extract_lets s₁
  change s₁.weave = s.weave at hw
  clear_value s₁
  refine foldl_sets (I := fun _ => True) (P := fun s : State => (s.bk b).owner = none ∧ (s.bk b).gates = {}) (a := b)
    (fun _ _ _ _ => trivial) (fun s _ => s.bankOff_shows hb) (fun s m _ hne _ h => ?_) trivial
    (.inl (List.mem_filter.2 ⟨List.mem_range.2 hb, (State.hasTile_congr (x := s) (by rw [hw]) 4 b).trans ht⟩))
  rw [s.bankOff_bk_ne (Ne.symm hne)]
  exact h

theorem State.boostOff_shows {g : Nat} (hg : g < 3) : ((s.boostOff g).bst g).switching = false :=
  congrArg Boost.switching (State.bst_setBst (s.set (Reg.BST_STAT_READY g) 0) _ hg)

theorem State.boostOff_bst_ne {g h : Nat} (hne : h ≠ g) : (s.boostOff g).bst h = s.bst h :=
  State.bst_setBst_ne (s.set (Reg.BST_STAT_READY g) 0) _ hne

theorem State.stopBoosts_keeps : Keeps (maskOf [.regs, .boosts]) s s.stopBoosts :=
  Keeps.foldl (fun _ _ h => Keeps.ite (State.boostOff_keeps _ _ (by decide) h) h) _ _ (.refl _ s)

theorem State.stopBoosts_shows {g : Nat} (hg : g < 3) (ht : s.hasTile 5 g = true) : (s.stopBoosts.bst g).switching = false := by
  refine foldl_sets (I := fun x : State => x.weave = s.weave) (P := fun x : State => (x.bst g).switching = false) (a := g)
    (fun x m _ h => ?_) (fun x h => ?_) (fun x m _ hne _ h => ?_) rfl (.inl (List.mem_range.2 hg))
  · split
    · exact Eq.trans ((State.boostOff_keeps x m (Nat.and_self _) (.refl _ x)).same .weave (by decide)) h
    · exact h
  · rw [if_pos ((State.hasTile_congr (x := s) (by rw [h]) 5 g).trans ht)]
    exact x.boostOff_shows hg
  · split
    · rw [x.boostOff_bst_ne (Ne.symm hne)]
      exact h
    · exact h

theorem State.stopWarps_keeps : Keeps (maskOf [.regs, .ticks, .reports, .causes, .warps, .wefts, .learn, .shTok, .bkTok, .pair, .acc,
    .shuttles, .pulseOuts, .maps, .svc, .ovs, .strand]) s s.stopWarps :=
  Keeps.foldl (fun _ _ h => State.stopWarp_keeps _ _ (by decide) h) _ _ (.refl _ s)

theorem State.stopWarps_shows {n : Nat} (hn : n < 6) (ht : s.hasTile 1 n = true) : s.stopWarps.sync n = ssOff := by
  refine foldl_sets (I := fun _ => True) (P := fun s : State => s.sync n = ssOff) (a := n)
    (fun _ _ _ _ => trivial) (fun s _ => State.stopWarp_shows n) (fun s m hm hne _ h => ?_) trivial
    (.inl (List.mem_filter.2 ⟨List.mem_range.2 hn, ht⟩))
  have hm6 : m < 6 := List.mem_range.1 (List.mem_filter.1 hm).1
  exact ((State.stopWarp_writes m (Writes.refl _ s)) _ (warpFlds_miss hm6 (by simp only []; omega))).trans h

theorem State.stopShown_shows : s.stopShown.running = false ∧ s.stopShown.wstate = stLoaded := by
  have hrun : (s.set Reg.SYS_STATUS_LOOM_RUN 0).get Reg.SYS_STATUS_LOOM_RUN = 0 := State.get_set_of_lt s _ (by decide) (by decide)
  refine ⟨?_, State.get_set_of_lt (s.set Reg.SYS_STATUS_LOOM_RUN 0) _ (by decide) (by decide)⟩
  exact decide_eq_false fun h => absurd (((State.get_set_ne _ _ _ _ (by simp)).trans hrun).symm.trans h) (by decide)

theorem State.stopShown_same : s.stopShown.weave = s.weave ∧ s.stopShown.banks = s.banks ∧ s.stopShown.boosts = s.boosts
    ∧ ∀ n < 6, s.stopShown.sync n = s.sync n :=
  ⟨rfl, rfl, rfl, fun n _ => (State.get_set_ne _ _ _ _ (.inl (by simp only []; omega))).trans (State.get_set_ne _ _ _ _ (.inl (by simp only []; omega)))⟩

theorem State.stopEmpties_shows : s.stopEmpties.shTok = Vector.replicate 64 {} ∧ s.stopEmpties.bkTok = Vector.replicate 12 {}
    ∧ s.stopEmpties.seqTok = Vector.replicate 16 [] ∧ s.stopEmpties.cmbSig = [] ∧ s.stopEmpties.trimDue = []
    ∧ s.stopEmpties.weave = { s.weave with runReq := false } ∧ s.stopEmpties.banks = s.banks ∧ s.stopEmpties.boosts = s.boosts
    ∧ s.stopEmpties.regs = s.regs := ⟨rfl, rfl, rfl, rfl, rfl, rfl, rfl, rfl, rfl⟩

theorem State.stopUnits_keeps : Keeps (maskOf [.regs, .pulseOuts, .work, .learn]) s s.stopUnits :=
  State.clearProfile_keeps _ (by decide) (State.angleGone_keeps _ (by decide)
    (Keeps.foldl (fun _ _ h => Keeps.ite (State.seqShow_keeps _ _ (by decide) h) h) _ _ (.refl _ s)))

theorem State.stopUnits_writes : Writes besideLoom s s.stopUnits := by
  have hm {f : Fld} (h : 0x0C00 ≤ f.addr) : f ∈ besideLoom := mem_besideLoom_of_ge h
  have hshow : Writes besideLoom s ((List.range 16).foldl (fun s k => if s.hasTile 6 k then s.seqShow k else s) s) :=
    (Writes.refl _ s).foldl fun x k _ h => Writes.ite ((h.flag (hm (by simp only []; omega)) _).flag (hm (by simp only []; omega)) _) h
  exact State.clearProfile_writes (State.angleGone_writes hshow) (hm (by decide))

/-- What a Loom stop leaves (R100). -/
theorem State.loomStop_shows (hr : s.running = true) : s.loomStop.running = false ∧ s.loomStop.wstate = stLoaded
    ∧ (∀ n : Fin 6, s.hasTile 1 n = true → s.loomStop.sync n = ssOff)
    ∧ (∀ b : Fin 12, s.hasTile 4 b = true → (s.loomStop.bk b).owner = none ∧ (s.loomStop.bk b).gates = {})
    ∧ (∀ g : Fin 3, s.hasTile 5 g = true → (s.loomStop.bst g).switching = false)
    ∧ s.loomStop.shTok = Vector.replicate 64 {} ∧ s.loomStop.bkTok = Vector.replicate 12 {}
    ∧ s.loomStop.seqTok = Vector.replicate 16 [] ∧ s.loomStop.cmbSig = [] ∧ s.loomStop.trimDue = []
    ∧ s.loomStop.weave = { s.weave with runReq := false } := by
  rw [s.loomStop_eq, if_neg (not_not_intro hr), State.stopTail_eq]
  have hw₀ := s.stopEnds_weave
  generalize s.stopEnds = x₀ at hw₀
  have hbank := fun b : Fin 12 => x₀.stopBanks_shows b.isLt
  have hw₁ := x₀.stopBanks_weave
  generalize x₀.stopBanks = x₁ at hbank hw₁
  have hboost := fun g : Fin 3 => x₁.stopBoosts_shows g.isLt
  have hk₂ := x₁.stopBoosts_keeps
  generalize x₁.stopBoosts = x₂ at hboost hk₂
  have hwarp := fun n : Fin 6 => x₂.stopWarps_shows n.isLt
  have hk₃ := x₂.stopWarps_keeps
  generalize x₂.stopWarps = x₃ at hwarp hk₃
  obtain ⟨hrun, hst⟩ := x₃.stopShown_shows
  obtain ⟨hw₄, hb₄, hg₄, hsync⟩ := x₃.stopShown_same
  generalize x₃.stopShown = x₄ at hrun hst hw₄ hb₄ hg₄ hsync
  obtain ⟨hsh, hbk, hsq, hcmb, htrim, hw₅, hb₅, hg₅, hregs⟩ := x₄.stopEmpties_shows
  generalize x₄.stopEmpties = x₅ at hsh hbk hsq hcmb htrim hw₅ hb₅ hg₅ hregs
  have hk := x₅.stopUnits_keeps
  have hwr := x₅.stopUnits_writes
  have hget : ∀ f, x₅.get f = x₄.get f := fun f => State.get_congr (by unfold State.reg; rw [hregs])
  have hb₂ : x₂.banks = x₁.banks := hk₂.same .banks (by decide)
  have hb₃ : x₃.banks = x₂.banks := hk₃.same .banks (by decide)
  have hg₃ : x₃.boosts = x₂.boosts := hk₃.same .boosts (by decide)
  have hw₂ : x₂.weave = x₁.weave := hk₂.same .weave (by decide)
  have hw₃ : x₃.weave = x₂.weave := hk₃.same .weave (by decide)
  have hb₆ : x₅.stopUnits.banks = x₁.banks := Eq.trans (hk.same .banks (by decide)) (by rw [hb₅, hb₄, hb₃, hb₂])
  have hg₆ : x₅.stopUnits.boosts = x₂.boosts := Eq.trans (hk.same .boosts (by decide)) (by rw [hg₅, hg₄, hg₃])
  have hw : x₂.weave = s.weave ∧ x₁.weave = s.weave ∧ x₀.weave = s.weave := by rw [hw₂, hw₁, hw₀]; exact ⟨rfl, rfl, rfl⟩
  have htile : ∀ x : State, x.weave = s.weave → ∀ a b, s.hasTile a b = true → x.hasTile a b = true := fun x h a b ht =>
    (State.hasTile_congr (x := s) (by rw [h]) a b).trans ht
  refine ⟨hwr.running.trans ((State.is_congr (hget _)).trans hrun), hwr.wstate.trans ((hget _).trans hst), fun n ht => ?_, fun b ht => ?_, fun g ht => ?_,
    Eq.trans (hk.same .shTok (by decide)) hsh, Eq.trans (hk.same .bkTok (by decide)) hbk, Eq.trans (hk.same .seqTok (by decide)) hsq,
    Eq.trans (hk.same .cmbSig (by decide)) hcmb, Eq.trans (hk.same .trimDue (by decide)) htrim,
    Eq.trans (hk.same .weave (by decide)) (hw₅.trans (by rw [hw₄, hw₃, hw.1]))⟩
  · exact (hwr.syncReg n.isLt rfl).trans ((hget _).trans ((hsync n n.isLt).trans (hwarp n (htile _ hw.1 _ _ ht))))
  · rw [show x₅.stopUnits.bk b = x₁.bk b from congrArg (vget · b.val) hb₆]
    exact hbank b (htile _ hw.2.2 _ _ ht)
  · rw [show x₅.stopUnits.bst g = x₂.bst g from congrArg (vget · g.val) hg₆]
    exact hboost g (htile _ hw.2.1 _ _ ht)

end

theorem State.startReady_iff (s : State) : s.startReady = true ↔ s.weave.runReq = true ∧ s.wstate = stLoaded ∧ s.enumStart = none
    ∧ s.get Reg.SAF_STAT_STATE ≠ 4 ∧ s.weave.prog = none ∧ s.weave.erasing = [] ∧ s.supply.standby = false
    ∧ (s.strandOn = true → s.get Reg.REC_STAT_READY = 1) := by
  unfold State.startReady
  rw [State.is_eq]
  simp only [Bool.and_eq_true, Bool.or_eq_true, Bool.not_eq_true', decide_eq_true_eq, ← Bool.not_eq_true s.strandOn, imp_iff_not_or, and_assoc]

/-- Settles O14. -/
theorem loomStartAndStop : Obligations.LoomStartAndStop := by
  unfold Obligations.LoomStartAndStop
  intro t s may stops
  have hmay : (s.at t).startReady = true ↔ may := State.startReady_iff (s.at t)
  refine ⟨fun h => ⟨_, congrArg Host.Outcome.next (if_pos (hmay.2 h)), (s.at t).loomStart_shows⟩,
    fun h => congrArg Host.Outcome.next (if_neg fun h' => h (hmay.1 h')), fun h hr => ⟨_, congrArg Host.Outcome.next (if_pos h), (s.at t).loomStop_shows hr⟩,
    fun h => ⟨_, congrArg Host.Outcome.next (if_neg h), ?_⟩⟩
  exact ⟨State.get_stick_bit (s.at t) _ (by decide) rfl, fun _ ha => State.reg_stick_ne (s.at t) _ 1 ha⟩

end Sys2Proof.Machine
end

section
/-!
PROOF. Writes of registers and memories (R14, R72 to R74, O49).
-/
namespace Sys2Proof.Machine

section
variable (s : State) {a : Nat} (i j : Nat) (v old new : Word)

section
variable (h : a < 0x0400)
include h

theorem State.actAngle_below : s.actAngle a i j v old new = s := by
  unfold State.actAngle
  dsimp only [Reg.WRP_CNT_CLR_addr, Reg.WFT_CL_addr, Reg.WFT_CTRL_addr, Reg.BNK_THP_addr, Reg.BNK_DCFG_addr, Reg.WFT_CNT_CLR_addr,
    Reg.SHT_CNT_CLR_addr, Reg.SHT_CTRL_addr, Reg.BNK_CNT_CLR_addr, Reg.BNK_DCNT_CLR_addr, Reg.BNK_CONT_addr, Reg.BNK_DSTAT_addr,
    Reg.BNK_CDSTAT_addr]
  repeat rw [if_neg (by omega)]

theorem State.actFront_below : s.actFront a i v old new = s := by
  unfold State.actFront
  dsimp only [Reg.SEQ_CTRL_addr, Reg.SEQ_BUF_addr, Reg.WM_CFG_addr, Reg.ADC_CTRL_addr, Reg.PT_CFG_addr, Reg.WM_STAT_addr, Reg.WM_CNT_CLR_addr]
  repeat rw [if_neg (by omega)]

theorem State.actService_below : s.actService a i v old new = s := by
  unfold State.actService
  dsimp only [Reg.CMB_CNT_CLR_addr, Reg.QM_CNT_CLR_addr, Reg.RP_CNT_CLR_addr, Reg.SVC_PINCFG_addr, Reg.SVC_PINSCL_addr, Reg.RP_CFG_addr,
    Reg.SVC_DEM_addr, Reg.TRM_CTRL_addr, Reg.IDN_CMD_addr]
  repeat rw [if_neg (by omega)]

theorem State.actPulse_below : s.actPulse a = s := by
  unfold State.actPulse
  rw [if_neg (by simp only [Reg.PLS_ENC_addr]; omega), if_neg (by simp only [Reg.PLS_TACH_addr]; omega)]

theorem State.actLink_below : s.actLink a i v = s := by
  unfold State.actLink
  dsimp only [Reg.CAN_TXREQ_addr, Reg.CAN_RX_addr, Reg.CAN_STAT_addr, Reg.CAN_CNT_CLR_addr, Reg.ETH_CNT_CLR_addr, Reg.STR_CNT_CLR_addr,
    Reg.LNK_HSPI_CNT_CLR_addr, Reg.LNK_FCMD_addr]
  repeat rw [if_neg (by omega)]

theorem State.actData_below : s.actData a i v new = s := by
  unfold State.actData
  dsimp only [Reg.DMA_CTRL_addr, Reg.DMA_CNT_CLR_addr, Reg.REC_CMD_addr, Reg.REC_CNT_CLR_addr, Reg.PRX_CTRL_addr, Reg.PRX_CNT_CLR_addr]
  repeat rw [if_neg (by omega)]

theorem unitFields_below : unitFields a i = [] := by
  unfold unitFields
  dsimp only [Reg.SHT_CTRL_addr, Reg.BNK_CONT_addr, Reg.SEQ_CTRL_addr, Reg.DMA_CTRL_addr, Reg.CAN_TXREQ_addr]
  repeat rw [if_neg (by omega)]

end

/-- What a merged write of a plain register leaves: the merged word, and WREJ where a part was refused. -/
def State.merged (s : State) (a : Nat) (m : Merge) : State := if m.rej then (s.setReg a m.word).wrej else s.setReg a m.word

/-- A system register that only stores what is written sets nothing off: the write is the merge (R14). -/
theorem State.regWrite_plain (r : RegRow) (h : a < 0x0400) (hrst : a ≠ Reg.SYS_RST_addr) (hclr : a ≠ Reg.SYS_LAT_CLR_addr) (hpwr : a ≠ Reg.SYS_PWR_addr)
    (ht : r.tile = none) : s.regWrite r a i j v
      = if (s.mergeWrite r a i v).fits then s.merged a (s.mergeWrite r a i v) else s.wrej := by
  have habs : s.absent r i = false := by unfold State.absent; rw [ht]
  have hsys : ∀ x : State, x.actSystem a v = x := fun x => by
    unfold State.actSystem
    rw [if_neg hrst, if_neg hclr]
    dsimp only [Reg.WVE_CMD_addr, Reg.SAF_CMD_addr, Reg.SAF_CNT_CLR_addr]
    repeat rw [if_neg (by omega)]
  unfold State.regWrite
  rw [habs, ht]
  simp only [Option.isSome_none, Bool.false_and, Bool.or_self, Bool.false_eq_true, if_false, if_neg hpwr, unitFields_below i h, List.foldl_nil,
    hsys, State.actAngle_below _ i j v _ _ h, State.actFront_below _ i v _ _ h, State.actService_below _ i v _ _ h, State.actPulse_below _ h,
    State.actLink_below _ i v h, State.actData_below _ i v _ h, ite_not]
  rfl

end

/-! ### What the access does -/

section
variable (s : State)

/-- What a refused write leaves: WREJ set, every other register and every memory as it was. -/
def State.rejected (s s' : State) : Prop := s'.get Reg.SYS_STATUS_WREJ = 1 ∧ s'.work = s.work ∧ s'.trace = s.trace
  ∧ s'.recMem = s.recMem ∧ ∀ x, x ≠ Reg.SYS_STATUS_addr → s'.reg x = s.reg x

theorem State.wrej_rejected : s.rejected s.wrej :=
  ⟨State.get_stick_bit s _ (by decide) rfl, rfl, rfl, rfl, fun _ h => State.reg_stick_ne s _ 1 h⟩

variable {a : Nat} (v : Word)

theorem State.busWrite_window (p : Nat) (h : 0x8000 ≤ a) :
    s.busWrite .host false p a v = s.pageWrite .host false p (a - 0x8000) v := if_pos h

theorem State.stbyLost_of_ne (h : a ≠ Reg.SYS_PWR_addr) : s.stbyLost a v = false := by
  unfold State.stbyLost
  rw [decide_eq_false fun h' => h h'.1, Bool.false_and]

theorem State.busWrite_reserved (p : Nat) (h : a < 0x8000) (ha : a ≠ Reg.SYS_PWR_addr) (hr : regAt a = none) :
    (s.busWrite .host false p a v).1 = s.wrej := by
  unfold State.busWrite
  rw [if_neg (by omega), s.stbyLost_of_ne v ha, hr]
  rfl

theorem State.busWrite_reg (p : Nat) {r : RegRow} {i j : Nat} (h : a < 0x8000) (ha : a ≠ Reg.SYS_PWR_addr) (hr : regAt a = some (r, i, j)) :
    (s.busWrite .host false p a v).1 = s.regWrite r a i j v := by
  unfold State.busWrite
  rw [if_neg (by omega), s.stbyLost_of_ne v ha, hr]
  rfl

end

/-! ### SYS_PAGE and SYS_GOV_CTRL -/

/-- The row of SYS_PAGE (Table 1.12). -/
def pageRow : RegRow := ⟨0x0001, 1, 0, 1, 0, none, [{ hi := 3, lo := 0, acc := .rw, reset := 0 }]⟩

theorem regAt_page : regAt Reg.SYS_PAGE_addr = some (pageRow, 0, 0) := rfl

/-- The row of SYS_GOV_CTRL (Table 1.15). -/
def govRow : RegRow :=
  ⟨0x0010, 1, 0, 1, 0, none,
     [{ hi := 13, lo := 7, acc := .rw, reset := 85, lvlE := true, rng := some (60, 90) },
      { hi := 6, lo := 0, acc := .rw, reset := 70, lvlE := true, rng := some (40, 80) }]⟩

/-- The row of SYS_PWR (Table 14.4). -/
def pwrRow : RegRow :=
  ⟨0x0040, 1, 0, 1, 0, none,
     [{ hi := 47, lo := 32, acc := .wo, reset := 0 },
      { hi := 5, lo := 0, acc := .rw, reset := 63 }]⟩

theorem regAt_pwr : regAt Reg.SYS_PWR_addr = some (pwrRow, 0, 0) := rfl

theorem regAt_gov : regAt Reg.SYS_GOV_CTRL_addr = some (govRow, 0, 0) := rfl

section
variable (s : State) (v : Word)

theorem State.comboOk_page (w : Word) : s.comboOk Reg.SYS_PAGE_addr w = true := rfl

section
variable (a i : Nat) (m : Merge) {f : FRow} (hacc : f.acc = .rw)
include hacc

theorem State.mergeField_rw (h : s.fieldOpen a i f = true) : s.mergeField a i v m f
    = { m with word := (f.fld a).put m.word (f.val v), fits := m.fits && f.inRange (f.val v) } := by
  unfold State.mergeField
  simp only [if_pos h, FRow.written, hacc, beq_iff_eq, reduceCtorEq,
    show (Acc.rw == Acc.wo) = false from rfl, Bool.or_false]

theorem State.mergeField_kept (h : s.fieldOpen a i f = false) (hheld : f.held = .all) : s.mergeField a i v m f
    = { m with rej := m.rej || decide (f.val v ≠ f.val m.word) } := by
  have hz : s.readsZero a i f = false := by
    unfold State.readsZero
    rw [hacc, hheld]
    rfl
  unfold State.mergeField
  simp only [h, hacc, hz, Bool.false_eq_true, if_false, show (Acc.rw == Acc.ro) = false from rfl]

end

theorem State.mergeWrite_page : s.mergeWrite pageRow Reg.SYS_PAGE_addr 0 v
    = { word := Reg.SYS_PAGE_PAGE.put (s.reg Reg.SYS_PAGE_addr) (Reg.SYS_PAGE_PAGE.get v), rej := pageRow.reservedSet v, fits := true } := by
  have hopen : s.fieldOpen Reg.SYS_PAGE_addr 0 { hi := 3, lo := 0, acc := .rw, reset := 0 } = true :=
    Bool.or_true _
  unfold State.mergeWrite
  rw [show pageRow.fields = [{ hi := 3, lo := 0, acc := .rw, reset := 0 }] from rfl, List.foldl_cons, List.foldl_nil,
    s.mergeField_rw v _ _ _ rfl hopen]
  rfl

/-- A word of 16 or more sets a reserved bit of SYS_PAGE (R16). -/
theorem pageRow_reservedSet (h : 16 ≤ v.toNat) : pageRow.reservedSet v = true := by
  obtain ⟨b, hb, hv⟩ : ∃ b, 4 ≤ b ∧ v.toNat.testBit b = true := Nat.exists_ge_and_testBit_of_ge_two_pow (n := 4) h
  have hb' : b < 48 := by
    refine Nat.lt_of_not_le fun hle => ?_
    rw [Nat.testBit_lt_two_pow (Nat.lt_of_lt_of_le v.isLt (Nat.pow_le_pow_right (by decide) hle))] at hv
    exact absurd hv (by decide)
  refine List.any_eq_true.2 ⟨b, List.mem_range.2 hb', ?_⟩
  have hc : pageRow.covers b = false := by
    simp only [pageRow, RegRow.covers, List.any_cons, List.any_nil, Bool.or_false, decide_eq_false_iff_not]
    omega
  rw [hc]
  exact (Bool.and_true _).trans hv

/-- What a write of SYS_PAGE leaves. -/
theorem State.regWrite_page :
    let s' := s.regWrite pageRow Reg.SYS_PAGE_addr 0 0 v
    s'.get Reg.SYS_PAGE_PAGE = Reg.SYS_PAGE_PAGE.get v ∧ (16 ≤ v.toNat → s'.get Reg.SYS_STATUS_WREJ = 1)
      ∧ ∀ x, x ≠ Reg.SYS_PAGE_addr → x ≠ Reg.SYS_STATUS_addr → s'.reg x = s.reg x := by
  intro s'
  have hs : s' = s.merged Reg.SYS_PAGE_addr (s.mergeWrite pageRow Reg.SYS_PAGE_addr 0 v) := by
    refine (s.regWrite_plain 0 0 v pageRow (by decide) (by decide) (by decide) (by decide) rfl).trans ?_
    rw [if_pos (by rw [s.mergeWrite_page])]
  rw [hs, s.mergeWrite_page]
  generalize hw : Reg.SYS_PAGE_PAGE.put (s.reg Reg.SYS_PAGE_addr) (Reg.SYS_PAGE_PAGE.get v) = w
  have hget : (s.setReg Reg.SYS_PAGE_addr w).get Reg.SYS_PAGE_PAGE = Reg.SYS_PAGE_PAGE.get v := by
    unfold State.get
    rw [State.reg_setReg, ← hw, Fld.get_put _ _ _ (by decide)]
    exact Nat.mod_eq_of_lt (Fld.get_lt _ _)
  unfold State.merged
  dsimp only
  split
  · next hr =>
    refine ⟨(State.get_stick_ne _ _ _ 1 (by simp)).trans hget, fun _ => State.get_wrej _, fun x hx hx' => ?_⟩
    rw [State.reg_wrej_ne _ hx', State.reg_setReg_ne _ _ hx]
  · next hr => exact ⟨hget, fun h => absurd (pageRow_reservedSet v h) hr, fun x hx _ => State.reg_setReg_ne _ _ hx⟩

/-! A write of SYS_GOV_CTRL at level B leaves the word as it was; at level E it takes thresholds in their ranges and order (R75). -/

theorem State.comboOk_gov (w : Word) : s.comboOk Reg.SYS_GOV_CTRL_addr w
    = decide (Reg.SYS_GOV_CTRL_GOV_DOWN.get w + 10 ≤ Reg.SYS_GOV_CTRL_GOV_UP.get w) := rfl

/-- The merge of SYS_GOV_CTRL before its ordering is looked at. -/
def State.govMerge : Merge :=
  let m : Merge := { word := s.reg Reg.SYS_GOV_CTRL_addr, rej := govRow.reservedSet v, fits := true }
  let m := s.mergeField Reg.SYS_GOV_CTRL_addr 0 v m { hi := 13, lo := 7, acc := .rw, reset := 85, lvlE := true, rng := some (60, 90) }
  s.mergeField Reg.SYS_GOV_CTRL_addr 0 v m { hi := 6, lo := 0, acc := .rw, reset := 70, lvlE := true, rng := some (40, 80) }

theorem State.mergeWrite_gov : s.mergeWrite govRow Reg.SYS_GOV_CTRL_addr 0 v
    = { s.govMerge v with
        fits := (s.govMerge v).fits && s.comboOk Reg.SYS_GOV_CTRL_addr (s.govMerge v).word } := rfl

/-- A field of SYS_GOV_CTRL is open at level E alone. -/
theorem State.fieldOpen_gov {f : FRow} (hacc : f.acc = .rw) (hl : f.lvlE = true) (hh : f.held = .all) :
    s.fieldOpen Reg.SYS_GOV_CTRL_addr 0 f = s.levelE := by
  unfold State.fieldOpen
  rw [hacc, hl, hh]
  exact Bool.or_false _

theorem State.govMerge_levelB (h : s.levelE = false)
    (hv : Reg.SYS_GOV_CTRL_GOV_UP.get v ≠ s.get Reg.SYS_GOV_CTRL_GOV_UP ∨ Reg.SYS_GOV_CTRL_GOV_DOWN.get v ≠ s.get Reg.SYS_GOV_CTRL_GOV_DOWN) :
    (s.govMerge v).word = s.reg Reg.SYS_GOV_CTRL_addr ∧ (s.govMerge v).rej = true := by
  unfold State.govMerge
  rw [s.mergeField_kept v _ _ _ rfl ((s.fieldOpen_gov rfl rfl rfl).trans h) rfl, s.mergeField_kept v _ _ _ rfl ((s.fieldOpen_gov rfl rfl rfl).trans h) rfl]
  refine ⟨rfl, ?_⟩
  rcases hv with hv | hv
  · exact Bool.or_eq_true_iff.2 (.inl (Bool.or_eq_true_iff.2 (.inr (decide_eq_true hv))))
  · exact Bool.or_eq_true_iff.2 (.inr (decide_eq_true hv))

theorem State.govMerge_levelE (h : s.levelE = true) :
    (s.govMerge v).word = Reg.SYS_GOV_CTRL_GOV_DOWN.put (Reg.SYS_GOV_CTRL_GOV_UP.put (s.reg Reg.SYS_GOV_CTRL_addr) (Reg.SYS_GOV_CTRL_GOV_UP.get v))
        (Reg.SYS_GOV_CTRL_GOV_DOWN.get v)
      ∧ (s.govMerge v).fits = (decide (60 ≤ Reg.SYS_GOV_CTRL_GOV_UP.get v ∧ Reg.SYS_GOV_CTRL_GOV_UP.get v ≤ 90)
        && decide (40 ≤ Reg.SYS_GOV_CTRL_GOV_DOWN.get v ∧ Reg.SYS_GOV_CTRL_GOV_DOWN.get v ≤ 80)) := by
  unfold State.govMerge
  rw [s.mergeField_rw v _ _ _ rfl ((s.fieldOpen_gov rfl rfl rfl).trans h), s.mergeField_rw v _ _ _ rfl ((s.fieldOpen_gov rfl rfl rfl).trans h)]
  exact ⟨rfl, rfl⟩

theorem State.regWrite_gov : s.regWrite govRow Reg.SYS_GOV_CTRL_addr 0 0 v
    = if (s.mergeWrite govRow Reg.SYS_GOV_CTRL_addr 0 v).fits then s.merged Reg.SYS_GOV_CTRL_addr (s.mergeWrite govRow Reg.SYS_GOV_CTRL_addr 0 v)
      else s.wrej := s.regWrite_plain 0 0 v govRow (by decide) (by decide) (by decide) (by decide) rfl

theorem State.reg_merged_ne {a x : Nat} (m : Merge) (h : x ≠ a) (h' : x ≠ Reg.SYS_STATUS_addr) : (s.merged a m).reg x = s.reg x := by
  unfold State.merged
  split
  · rw [State.reg_wrej_ne _ h', State.reg_setReg_ne _ _ h]
  · exact State.reg_setReg_ne _ _ h

theorem State.reg_merged {a : Nat} (m : Merge) (h : a ≠ Reg.SYS_STATUS_addr) : (s.merged a m).reg a = m.word := by
  unfold State.merged
  split
  · rw [State.reg_wrej_ne _ h, State.reg_setReg]
  · exact State.reg_setReg _ _ _

theorem State.regWrite_gov_levelB (h : s.levelE = false)
    (hv : Reg.SYS_GOV_CTRL_GOV_UP.get v ≠ s.get Reg.SYS_GOV_CTRL_GOV_UP ∨ Reg.SYS_GOV_CTRL_GOV_DOWN.get v ≠ s.get Reg.SYS_GOV_CTRL_GOV_DOWN) :
    let s' := s.regWrite govRow Reg.SYS_GOV_CTRL_addr 0 0 v
    s'.get Reg.SYS_STATUS_WREJ = 1 ∧ ∀ x, x ≠ Reg.SYS_STATUS_addr → s'.reg x = s.reg x := by
  obtain ⟨hword, hrej⟩ := s.govMerge_levelB v h hv
  intro s'
  have hs := s.regWrite_gov v
  change s' = _ at hs
  rw [hs]
  split
  · rw [s.mergeWrite_gov]
    refine ⟨?_, fun x hx => ?_⟩
    · unfold State.merged
      rw [if_pos hrej]
      exact State.get_wrej _
    · by_cases ha : x = Reg.SYS_GOV_CTRL_addr
      · rw [ha, State.reg_merged _ _ (by decide)]
        exact hword
      · exact State.reg_merged_ne _ _ ha hx
  · exact ⟨State.get_wrej _, fun x hx => State.reg_wrej_ne _ hx⟩

theorem State.regWrite_gov_levelE (h : s.levelE = true)
    (hu₁ : 60 ≤ Reg.SYS_GOV_CTRL_GOV_UP.get v) (hu₂ : Reg.SYS_GOV_CTRL_GOV_UP.get v ≤ 90) (hd₁ : 40 ≤ Reg.SYS_GOV_CTRL_GOV_DOWN.get v)
    (hd₂ : Reg.SYS_GOV_CTRL_GOV_DOWN.get v ≤ 80) (hud : Reg.SYS_GOV_CTRL_GOV_DOWN.get v + 10 ≤ Reg.SYS_GOV_CTRL_GOV_UP.get v) :
    let s' := s.regWrite govRow Reg.SYS_GOV_CTRL_addr 0 0 v
    s'.get Reg.SYS_GOV_CTRL_GOV_UP = Reg.SYS_GOV_CTRL_GOV_UP.get v ∧ s'.get Reg.SYS_GOV_CTRL_GOV_DOWN = Reg.SYS_GOV_CTRL_GOV_DOWN.get v
      ∧ ∀ x, x ≠ Reg.SYS_GOV_CTRL_addr → x ≠ Reg.SYS_STATUS_addr → s'.reg x = s.reg x := by
  obtain ⟨hword, hfits⟩ := s.govMerge_levelE v h
  have hdown : Reg.SYS_GOV_CTRL_GOV_DOWN.get (s.govMerge v).word = Reg.SYS_GOV_CTRL_GOV_DOWN.get v := by
    rw [hword, Fld.get_put _ _ _ (by decide)]
    exact Nat.mod_eq_of_lt (Fld.get_lt _ _)
  have hup : Reg.SYS_GOV_CTRL_GOV_UP.get (s.govMerge v).word = Reg.SYS_GOV_CTRL_GOV_UP.get v := by
    rw [hword, Fld.get_put_ne _ _ _ _ (by decide) (by decide) (by decide), Fld.get_put _ _ _ (by decide)]
    exact Nat.mod_eq_of_lt (Fld.get_lt _ _)
  have hs : s.regWrite govRow Reg.SYS_GOV_CTRL_addr 0 0 v = s.merged Reg.SYS_GOV_CTRL_addr (s.mergeWrite govRow Reg.SYS_GOV_CTRL_addr 0 v) := by
    rw [s.regWrite_gov v, if_pos]
    rw [s.mergeWrite_gov, s.comboOk_gov, hfits, hdown, hup, decide_eq_true ⟨hu₁, hu₂⟩, decide_eq_true ⟨hd₁, hd₂⟩, decide_eq_true hud]
    rfl
  rw [hs]
  intro s'
  have hreg : s'.reg Reg.SYS_GOV_CTRL_addr = (s.govMerge v).word := by
    refine (State.reg_merged s _ (by decide)).trans ?_
    rw [s.mergeWrite_gov]
  exact ⟨(congrArg Reg.SYS_GOV_CTRL_GOV_UP.get hreg).trans hup, (congrArg Reg.SYS_GOV_CTRL_GOV_DOWN.get hreg).trans hdown,
    fun x hx hx' => State.reg_merged_ne s _ hx hx'⟩

end

/-! ### The obligation -/

section
variable (s : State) {a : Nat} (v : Word)

theorem State.regWrite_absent (r : RegRow) (i j : Nat) (h : s.absent r i = true) : s.regWrite r a i j v = s.wrej :=
  if_pos (by rw [h]; rfl)

theorem State.regWrite_unfit (r : RegRow) (i j : Nat) (ha : a ≠ Reg.SYS_PWR_addr) (h : (s.mergeWrite r a i v).fits = false) :
    s.regWrite r a i j v = s.wrej := by
  unfold State.regWrite
  rw [if_neg ha]
  split
  · rfl
  · exact if_pos (by rw [h]; decide)

section
variable {p w : Nat}

theorem State.pageWrite_locked (hp : p = 4) (h : s.workLocked w = true) : (s.pageWrite .host false p w v).1 = s.wrej := by
  unfold State.pageWrite
  rw [if_neg (by omega), if_pos hp, if_pos h]
  rfl

theorem State.pageWrite_work (hp : p = 4) (h : s.workLocked w = false) : (s.pageWrite .host false p w v).1 = s.workWriteBy w v := by
  unfold State.pageWrite
  rw [if_neg (by omega), if_pos hp, if_neg (by rw [h]; decide)]

theorem State.pageWrite_rec (hp : p = 5 ∨ p = 6) : (s.pageWrite .host false p w v).1 = s.wrej := by
  unfold State.pageWrite
  rw [if_neg (by omega), if_neg (by omega), if_pos (by omega)]

theorem State.pageWrite_trace (hp : p < 4) (h : s.domain 2 = 0) : (s.pageWrite .host false p w v).1 = s.traceSet (32768 * p + w) v := by
  unfold State.pageWrite
  rw [if_pos hp, if_pos (by unfold State.traceUp; rw [h]; rfl)]

theorem State.pageWrite_traceOff (hp : p < 4) (h : s.domain 2 ≠ 0) : (s.pageWrite .host false p w v).1 = s := by
  unfold State.pageWrite
  rw [if_pos hp, if_neg (by unfold State.traceUp; rw [decide_eq_false h, Bool.and_false]; decide)]

end

theorem State.traceSet_shows (w : Nat) : (s.traceSet w v).regs = s.regs ∧ (s.traceSet w v).traceGet w = v
    ∧ ∀ x, x ≠ w → (s.traceSet w v).traceGet x = s.traceGet x := by
  refine ⟨rfl, ?_, fun x hx => ?_⟩
  · unfold State.traceGet State.traceSet
    rw [Cells.get_set_same]
    exact (BitVec.xor_assoc _ _ _).trans ((congrArg _ (BitVec.xor_self)).trans (BitVec.xor_zero))
  · unfold State.traceGet State.traceSet
    rw [Cells.get_set_ne _ _ _ hx]
    rfl

end

section
variable {t : Word} {a : Fin 65536} {v : Word} {s : State} (he : s.early (.registerWrite t a v) = false)
include he

theorem execRegisterWrite_turn (hp : s.power = .up) : exec (.registerWrite t a v) s
    = .next (((s.at t).busTurn .host).busWrite .host false (((s.at t).busTurn .host).get Reg.SYS_PAGE_PAGE) a v).1 := by
  refine congrArg Host.Outcome.next ((if_neg ?_).trans (if_pos hp))
  rw [show (s.at t).early (.registerWrite t a v) = _ from he]
  decide

theorem execRegisterWrite_idles (hp : s.power ≠ .up) : Idles (.registerWrite t a v) s t := by
  refine congrArg Host.Outcome.next ((if_neg ?_).trans (if_neg hp))
  rw [show (s.at t).early (.registerWrite t a v) = _ from he]
  decide

end

/-- Settles O49. -/
theorem registerWrites : Obligations.RegisterWrites := by
  unfold Obligations.RegisterWrites
  refine ⟨fun t a v s => ?_, fun t v s hp => ?_⟩
  · intro s0 page rejected he
    have hx : s.power = .up → exec (.registerWrite t a v) s = .next (s0.busWrite .host false page a v).1 := execRegisterWrite_turn he
    have hwin : 0x8000 ≤ a.val → s0.busWrite .host false page a v = s0.pageWrite .host false page (a - 0x8000) v := s0.busWrite_window v page
    have hrej := s0.wrej_rejected
    refine ⟨fun hb hq => State.busTurn_free (s := s.at t) hq hb .host, execRegisterWrite_idles he, fun hp => ⟨fun ha hr => ?_, fun r i j ha hr => ⟨fun habs => ?_, fun hne hfit => ?_⟩,
      fun ha => ?_, fun ha hpage => ⟨fun hl => ?_, fun hl => ?_⟩, fun ha hpage => ?_, fun ha hpage => ⟨fun hd => ?_, fun hd => ?_⟩⟩⟩
    · by_cases hne : a.val = Reg.SYS_PWR_addr
      · exact absurd hr (by rw [hne]; decide)
      · exact ⟨_, (hx hp).trans (congrArg _ (s0.busWrite_reserved v page ha hne hr)), hrej⟩
    · by_cases hne : a.val = Reg.SYS_PWR_addr
      · have hrow : some (r, i, j) = some (pwrRow, 0, 0) := hr.symm.trans (by rw [hne]; exact regAt_pwr)
        obtain ⟨rfl, rfl, rfl⟩ : r = pwrRow ∧ i = 0 ∧ j = 0 := by simpa using hrow
        exact absurd habs Bool.false_ne_true
      · exact ⟨_, (hx hp).trans (congrArg _ ((s0.busWrite_reg v page ha hne hr).trans (s0.regWrite_absent v r i j habs))), hrej⟩
    · exact ⟨_, (hx hp).trans (congrArg _ ((s0.busWrite_reg v page ha hne hr).trans (s0.regWrite_unfit v r i j hne hfit))), hrej⟩
    · have hpg : regAt a.val = some (pageRow, 0, 0) := by rw [ha]; exact regAt_page
      refine ⟨_, (hx hp).trans (congrArg _ (s0.busWrite_reg v page (by rw [ha]; decide) (by rw [ha]; decide) hpg)), ?_⟩
      rw [ha]
      exact s0.regWrite_page v
    · exact ⟨_, (hx hp).trans (congrArg _ ((congrArg Prod.fst (hwin ha)).trans (s0.pageWrite_locked v hpage hl))), hrej⟩
    · obtain ⟨hget, hother, -⟩ := s0.workWriteBy_shows (c := 0) (a - 0x8000) v
      exact ⟨_, (hx hp).trans (congrArg _ ((congrArg Prod.fst (hwin ha)).trans (s0.pageWrite_work v hpage hl))), hget, hother⟩
    · exact ⟨_, (hx hp).trans (congrArg _ ((congrArg Prod.fst (hwin ha)).trans (s0.pageWrite_rec v hpage))), hrej⟩
    · exact ⟨_, (hx hp).trans (congrArg _ ((congrArg Prod.fst (hwin ha)).trans (s0.pageWrite_trace v hpage hd))), s0.traceSet_shows v _⟩
    · exact ⟨_, (hx hp).trans (congrArg _ ((congrArg Prod.fst (hwin ha)).trans (s0.pageWrite_traceOff v hpage hd))), rfl⟩
  · intro c s0 up down he
    have hx : exec c s = .next (s0.regWrite govRow Reg.SYS_GOV_CTRL_addr 0 0 v) :=
      (execRegisterWrite_turn he hp).trans (congrArg _ (s0.busWrite_reg v _ (by decide) (by decide) regAt_gov))
    exact ⟨fun hl hv => ⟨_, hx, s0.regWrite_gov_levelB v hl hv⟩,
      fun hl hu₁ hu₂ hd₁ hd₂ hud => ⟨_, hx, s0.regWrite_gov_levelE v hl hu₁ hu₂ hd₁ hd₂ hud⟩⟩

end Sys2Proof.Machine
end

section
/-!
PROOF. The frames of the host (R511 to R521, R629): their bits, what a response says and leaves, what a READ answers, and what a
frame consumes (O51).
-/
namespace Sys2Proof.Machine

/-! ### Frames as bits -/

theorem crc8Shift_lt {c : Nat} (h : c < 256) : crc8Shift c < 256 := by
  unfold crc8Shift
  split
  · exact Nat.mod_lt _ (by decide)
  · omega

theorem crc8_lt {bs : List Nat} (h : ∀ b ∈ bs, b < 256) : crc8 bs < 256 := by
  unfold crc8
  refine Nat.xor_lt_two_pow (n := 8) ?_ (by decide)
  refine List.foldlRecOn bs _ (motive := fun c => c < 2 ^ 8) (by decide) fun c hc b hb => ?_
  exact List.foldlRecOn (List.range 8) _ (motive := fun c => c < 2 ^ 8) (Nat.xor_lt_two_pow hc (h b hb)) fun c hc _ _ => crc8Shift_lt hc

theorem frameCheck_lt {op : Nat} (hop : op < 256) (a : Nat) : frameCheck op a < 256 := by
  refine crc8_lt fun b hb => ?_
  simp only [List.mem_cons, List.not_mem_nil, or_false] at hb
  omega

/-- The 80 bits of a frame (Table 11.1). -/
def frameBits (op a crc : Nat) (v : Word) : Nat := op * 2 ^ 72 + a * 2 ^ 56 + crc * 2 ^ 48 + v.toNat

theorem frameBits_fields {op a crc : Nat} (hop : op < 256) (ha : a < 65536) (hc : crc < 256) (v : Word) :
    frameOpcode (frameBits op a crc v) = op ∧ frameAddr (frameBits op a crc v) = Fin.ofNat 65536 a ∧ frameCrc (frameBits op a crc v) = crc
      ∧ frameData (frameBits op a crc v) = v := by
  have hv := v.isLt
  unfold frameBits frameOpcode frameAddr frameCrc frameData bitsOf
  refine ⟨by omega, Fin.ext ?_, by omega, BitVec.eq_of_toNat_eq ?_⟩
  · simp only [Fin.ofNat]
    omega
  · rw [BitVec.toNat_ofNat]
    omega

theorem Fin.ofNat_val_self {n : Nat} [NeZero n] (a : Fin n) : Fin.ofNat n a.val = a := Fin.ext (Nat.mod_eq_of_lt a.isLt)

/-- The command of a frame of the right length and CRC (R513 to R515). -/
theorem hostCommand_good (t : Word) (a : Fin 65536) (v : Word) (late : Bool) :
    hostCommand t 80 (frameBits 0x22 a (frameCheck 0x22 a) v) late = .hostWrite t a v late
    ∧ hostCommand t 80 (frameBits 0x44 a (frameCheck 0x44 a) v) late = .hostNop t a
    ∧ (a.val ≠ Reg.SYS_EVPOP_addr → a.val ≠ Reg.PRX_PEVPOP_addr →
      hostCommand t 80 (frameBits 0x11 a (frameCheck 0x11 a) v) late = .hostRead t a late) := by
  have h : ∀ op, op < 256 → frameOpcode (frameBits op a (frameCheck op a) v) = op ∧ frameAddr (frameBits op a (frameCheck op a) v) = a
      ∧ frameCrc (frameBits op a (frameCheck op a) v) = frameCheck op a ∧ frameData (frameBits op a (frameCheck op a) v) = v := fun op hop => by
    have h := frameBits_fields hop a.isLt (frameCheck_lt hop a) v
    rwa [Fin.ofNat_val_self] at h
  obtain ⟨w₁, w₂, w₃, w₄⟩ := h 0x22 (by decide)
  obtain ⟨n₁, n₂, n₃, -⟩ := h 0x44 (by decide)
  obtain ⟨r₁, r₂, r₃, -⟩ := h 0x11 (by decide)
  refine ⟨?_, ?_, fun he hp => ?_⟩
  · unfold hostCommand
    rw [w₁, w₂, w₃, w₄, if_neg (by decide), if_neg (not_not_intro rfl)]
    rfl
  · unfold hostCommand
    rw [n₁, n₂, n₃, if_neg (by decide), if_neg (not_not_intro rfl)]
    rfl
  · unfold hostCommand
    rw [r₁, r₂, r₃, if_neg (by decide), if_neg (not_not_intro rfl)]
    exact (if_neg he).trans (if_neg hp)

theorem debugCommand_good (t : Word) (op : Fin 256) (a : Fin 65536) (crc : Fin 256) (v : Word) :
    debugCommand t (frameBits op a crc v) = .jtagDbgAccess t op a crc v := by
  obtain ⟨h₁, h₂, h₃, h₄⟩ := frameBits_fields op.isLt a.isLt crc.isLt v
  unfold debugCommand
  rw [h₁, h₂, h₃, h₄, Fin.ofNat_val_self, Fin.ofNat_val_self, Fin.ofNat_val_self]

/-! ### The response -/

section
variable (s : State)

theorem State.respond_shows (r : Response) : (s.respond r).host.resp = r ∧ (s.respond r).fifo = s.fifo
    ∧ (s.respond r).host.popped = s.host.popped ∧ (s.respond r).pair = s.pair ∧ (s.respond r).work = s.work ∧ (s.respond r).trace = s.trace
    ∧ (∀ x, x ≠ Reg.LNK_HSPI_addr → (s.respond r).reg x = s.reg x) := by
  unfold State.respond
  dsimp only
  split
  · exact ⟨rfl, rfl, rfl, rfl, rfl, rfl, fun x hx => State.reg_inc_ne _ _ hx⟩
  · exact ⟨rfl, rfl, rfl, rfl, rfl, rfl, fun _ _ => rfl⟩

theorem State.respond_lates (r : Response) : (s.respond r).get Reg.LNK_HSPI_LATES
    = if r.status = rsLate then min (s.get Reg.LNK_HSPI_LATES + 1) Reg.LNK_HSPI_LATES.max else s.get Reg.LNK_HSPI_LATES := by
  unfold State.respond
  dsimp only
  split
  · exact State.get_inc _ _ (by decide)
  · rfl

/-! ### A READ -/

/-- A read of a register that nothing latches leaves the state. -/
theorem State.readEffect_plain {a : Nat} (h : a ∉ [Reg.WFT_UPD0_addr 0, Reg.WFT_UPD0_addr 1, Reg.WFT_SNAPT_addr 0, Reg.WFT_SNAPT_addr 1]) :
    s.readEffect a = s := by
  simp only [List.mem_cons, List.not_mem_nil, or_false, not_or] at h
  obtain ⟨hu₀, hu₁, ht₀, ht₁⟩ := h
  have hstep : ∀ x : State, ∀ n ∈ [0, 1], (if ¬ x.hasTile 2 n then x else if a = Reg.WFT_UPD0_addr n then x.updRead n
      else if a = Reg.WFT_SNAPT_addr n then x.snapRead n else x) = x := fun x n hn => by
    have hne : a ≠ Reg.WFT_UPD0_addr n ∧ a ≠ Reg.WFT_SNAPT_addr n := by
      rcases List.mem_cons.1 hn with rfl | hn
      · exact ⟨hu₀, ht₀⟩
      · rw [List.mem_singleton.1 hn]; exact ⟨hu₁, ht₁⟩
    rw [if_neg hne.1, if_neg hne.2, ite_self]
  unfold State.readEffect
  rw [List.foldl_cons, List.foldl_cons, List.foldl_nil, hstep s 0 (by decide), hstep s 1 (by decide)]

theorem State.readAnswer_host (w : Option Word) : s.readAnswer .host w = (w.getD 0, s, ackAccept) := by
  cases w <;> rfl

/-- What a READ of the host answers where `w` reads there; `s` is the state its turn on the bus has left. -/
def State.readResponse (s : State) (a : Nat) (late : Bool) (w : Option Word) : Response :=
  if late then { status := rsLate, addr := a }
  else { status := rsOk, addr := a, data := if s.mergeOpen then w.getD 0 else s.veil a (w.getD 0), pop := s.popOf a }

theorem State.frameRead_answered {a : Nat} (late : Bool) {w : Option Word}
    (h : (s.busTurn .host).busRead .host false ((s.busTurn .host).get Reg.SYS_PAGE_PAGE) a = (w.getD 0, s.busTurn .host, ackAccept)) :
    s.frameRead .host a late = (s.busTurn .host, (s.busTurn .host).readResponse a late w) := by
  unfold State.frameRead
  dsimp only
  rw [h, if_neg (not_not_intro rfl)]
  rfl

theorem State.busRead_reg (m : Master) (p : Nat) {a : Nat} (ha : a < 0x8000)
    (h : a ∉ [Reg.WFT_UPD0_addr 0, Reg.WFT_UPD0_addr 1, Reg.WFT_SNAPT_addr 0, Reg.WFT_SNAPT_addr 1]) :
    s.busRead m false p a = s.readAnswer m (s.regView a) := by
  unfold State.busRead
  rw [if_neg (by omega), s.readEffect_plain h]

theorem State.busRead_page (m : Master) (p : Nat) {a : Nat} (ha : 0x8000 ≤ a) (h : p < 4 → s.domain 2 = 0) :
    s.busRead m false p a = s.readAnswer m (s.pageView p (a - 0x8000)) := by
  unfold State.busRead
  rw [if_pos ha, if_neg]
  rintro ⟨hp, hup⟩
  refine hup ?_
  unfold State.traceUp
  rw [h hp]
  rfl

theorem State.busRead_traceOff (m : Master) (p : Nat) {a : Nat} (ha : 0x8000 ≤ a) (hp : p < 4) (h : s.domain 2 ≠ 0) :
    s.busRead m false p a = (0, s, ackOff) := by
  unfold State.busRead
  rw [if_pos ha, if_pos]
  refine ⟨hp, ?_⟩
  unfold State.traceUp
  rw [decide_eq_false h, Bool.and_false]
  decide

/-- The state in which the host's READ meets the bus: the response is shifted out, every event that waits is merged, what wins is served. -/
def State.readTurn : State :=
  let s := s.shiftedOut s.host.resp
  (s.mergeAll s.reports.length).busTurn .host

theorem State.hostRead_answered (hp : s.power = .up) {a : Nat} (late : Bool) {w : Option Word}
    (h : s.readTurn.busRead .host false (s.readTurn.get Reg.SYS_PAGE_PAGE) a = (w.getD 0, s.readTurn, ackAccept)) :
    s.hostRead a late = s.readTurn.respond (s.readTurn.readResponse a late w) := by
  unfold State.hostRead
  rw [if_neg (not_not_intro hp)]
  dsimp only
  rw [State.frameRead_answered _ late h]
  rfl

/-! ### What a read of the event registers shows -/

theorem State.regView_event : s.regView Reg.SYS_EVPOP_addr = some s.evWord := rfl

theorem State.regView_pair : s.regView Reg.PRX_PEVPOP_addr = some (if s.hasTile 0x10 0 then s.pevWord else 0) := by
  have hr : regAt Reg.PRX_PEVPOP_addr = some (⟨0x4811, 1, 0, 1, 0, some ⟨16, 0, false⟩, [{ hi := 47, lo := 0, acc := .ro, reset := 0, lvlE := true }]⟩, 0, 0) := rfl
  have hd : s.snapDead Reg.PRX_PEVPOP_addr = false := rfl
  unfold State.regView State.absent
  rw [hr, hd]
  show some (if (!s.hasTile 0x10 0 || false) = true then (0 : Word) else s.pevWord) = _
  cases s.hasTile 0x10 0 <;> rfl

theorem State.popOf_event : s.popOf Reg.SYS_EVPOP_addr = s.fifo.head?.map (fun e => (false, e, s.host.popped)) := rfl

theorem State.popOf_pair : s.popOf Reg.PRX_PEVPOP_addr = if s.hasTile 0x10 0 then
    match s.pair.fifo with
    | e :: _ => if s.released e then some (true, e.ev, s.pair.popped) else none
    | [] => none
    else none := by
  unfold State.popOf
  rw [if_neg (by decide)]
  exact if_congr (and_iff_right rfl) rfl rfl

theorem State.popOf_plain {a : Nat} (h₁ : a ≠ Reg.SYS_EVPOP_addr) (h₂ : a ≠ Reg.PRX_PEVPOP_addr) : s.popOf a = none := by
  unfold State.popOf
  rw [if_neg h₁, if_neg fun h => h₂ h.1]

end

/-! ### What a frame consumes -/

section
variable (s : State)

theorem State.shiftedOut_event {r : Response} {e : Entry} {rest : List Entry} (hf : s.fifo = e :: rest)
    (hr : r.pop = some (false, e, s.host.popped)) : s.shiftedOut r = if s.host.popped < 2 then { s with host := { s.host with popped := s.host.popped + 1 } }
      else { s with fifo := rest, host := { s.host with popped := 0 } }.evShow := by
  unfold State.shiftedOut
  rw [hr]
  dsimp only
  rw [if_pos ⟨by rw [hf]; rfl, rfl⟩]
  unfold State.evConsume
  rw [hf]

theorem State.shiftedOut_pair {r : Response} {e : PairEntry} {rest : List PairEntry} (hf : s.pair.fifo = e :: rest) (hrel : s.released e = true)
    (hr : r.pop = some (true, e.ev, s.pair.popped)) : s.shiftedOut r = if s.pair.popped < 4 then s.setPair { s.pair with popped := s.pair.popped + 1 }
      else (s.setPair { s.pair with fifo := rest, popped := 0 }).pevShow := by
  unfold State.shiftedOut
  rw [hr]
  dsimp only
  rw [if_pos ⟨by rw [hf]; rfl, rfl⟩]
  unfold State.pevConsume
  split
  · next e' l h =>
    obtain ⟨rfl, rfl⟩ := List.cons.inj (h.symm.trans hf)
    exact if_neg (not_not_intro hrel)
  · next h => exact absurd (h.symm.trans hf) (List.cons_ne_nil _ _).symm

end

section
variable {s : State} {t : Word} (hp : s.power = .up)
include hp

theorem execEventPop_read {late : Bool} (he : s.early (.eventPop t late) = false) : exec (.eventPop t late) s
    = .next ((s.at t).readTurn.respond ((s.at t).readTurn.readResponse Reg.SYS_EVPOP_addr late (some (s.at t).readTurn.evWord))) := by
  have hx : exec (.eventPop t late) s = .next ((s.at t).hostRead Reg.SYS_EVPOP_addr late) :=
    congrArg Host.Outcome.next (if_neg (by rw [show (s.at t).early (.eventPop t late) = _ from he]; decide))
  refine hx.trans (congrArg _ ((s.at t).hostRead_answered hp late ?_))
  rw [State.busRead_reg _ _ _ (by decide) (by decide), State.regView_event, State.readAnswer_host]

theorem execPairEventPop_read {late : Bool} (he : s.early (.pairEventPop t late) = false) : exec (.pairEventPop t late) s
    = .next ((s.at t).readTurn.respond ((s.at t).readTurn.readResponse Reg.PRX_PEVPOP_addr late
      (some (if (s.at t).readTurn.hasTile 0x10 0 then (s.at t).readTurn.pevWord else 0)))) := by
  have hx : exec (.pairEventPop t late) s = .next ((s.at t).hostRead Reg.PRX_PEVPOP_addr late) :=
    congrArg Host.Outcome.next (if_neg (by rw [show (s.at t).early (.pairEventPop t late) = _ from he]; decide))
  refine hx.trans (congrArg _ ((s.at t).hostRead_answered hp late ?_))
  rw [State.busRead_reg _ _ _ (by decide) (by decide), State.regView_pair, State.readAnswer_host]

theorem execHostNop_up {a : Fin 65536} : exec (.hostNop t a) s
    = .next (((s.at t).shiftedOut s.host.resp).respond { status := rsOk, addr := a }) := congrArg Host.Outcome.next (if_neg (not_not_intro hp))

theorem execHostFrameError_up {f : FrameFault} : exec (.hostFrameError t f) s = .next (match f with
    | .length => ((s.at t).inc Reg.LNK_HSPI_LENERR).respond { status := rsLength }
    | .crc a => (((s.at t).shiftedOut s.host.resp).inc Reg.LNK_HSPI_CRCERR).respond { status := rsCrc, addr := a.toNat }
    | .opcode a => ((s.at t).shiftedOut s.host.resp).respond { status := rsOpcode, addr := a.toNat }) :=
  congrArg Host.Outcome.next (if_neg (not_not_intro hp))

end

/-- Settles O51. -/
theorem eventPops : Obligations.EventPops := by
  unfold Obligations.EventPops
  intro t a s hp
  refine ⟨?_, fun e rest hf hr => ⟨fun hlt => ?_, fun hge => ?_, ?_⟩, fun e rest hf hrel hr => ⟨fun hlt => ?_, fun hge => ?_⟩⟩
  · intro s0 s1 kept pops pairPops read
    have hs1 : (s.at t).readTurn = s1 := rfl
    have hkept : ∀ r, kept (s1.respond r) ∧ (s1.respond r).host.resp = r := fun r => by
      obtain ⟨hresp, hf, hpop, hpair, -⟩ := s1.respond_shows r
      exact ⟨⟨hf, hpop, hpair⟩, hresp⟩
    have hev : ∀ late, s.early (.eventPop t late) = false →
        exec (.eventPop t late) s = .next (s1.respond (s1.readResponse Reg.SYS_EVPOP_addr late (some s1.evWord))) := fun late he =>
      execEventPop_read hp he
    have hpev : ∀ late, s.early (.pairEventPop t late) = false →
        exec (.pairEventPop t late) s = .next (s1.respond (s1.readResponse Reg.PRX_PEVPOP_addr late
          (some (if s1.hasTile 0x10 0 then s1.pevWord else 0)))) := fun late he => execPairEventPop_read hp he
    clear_value s1
    have hdone : ∀ {c r r'}, exec c s = .next (s1.respond r) → r = r' → Does c s (fun s' => kept s' ∧ s'.host.resp = r') :=
      fun hx hr => ⟨_, hx, hr ▸ hkept _⟩
    refine ⟨fun e rest hf he => hdone (hev _ he) ?_, fun he => hdone (hev _ he) rfl, fun hf he => hdone (hev _ he) ?_,
      fun he => hdone (hpev _ he) rfl, fun ht e rest hf hrel he => hdone (hpev _ he) ?_, fun h he => hdone (hpev _ he) ?_⟩
    · unfold State.readResponse
      rw [State.popOf_event, show s1.evWord = e.word s1.host.popped by unfold State.evWord; rw [hf], hf]
      rfl
    · unfold State.readResponse
      rw [State.popOf_event, show s1.evWord = 0 by unfold State.evWord; rw [hf], hf]
      rfl
    · unfold State.readResponse State.pevWord
      rw [State.popOf_pair, hf, if_pos ht, if_pos ht]
      dsimp only
      rw [if_pos hrel, if_pos hrel]
      rfl
    · have hword : (if s1.hasTile 0x10 0 then s1.pevWord else 0) = 0 ∧ s1.popOf Reg.PRX_PEVPOP_addr = none := by
        rw [State.popOf_pair]
        unfold State.pevWord
        rcases h with h | h | ⟨e, rest, hf, hrel⟩
        · rw [h]; exact ⟨rfl, rfl⟩
        · rw [h]; exact ⟨ite_self _, ite_self _⟩
        · rw [hf]; simp only [hrel, Bool.false_eq_true, if_false, ite_self, and_self]
      unfold State.readResponse
      rw [hword.1, hword.2]
      rfl
  · refine ⟨_, execHostNop_up hp, ?_⟩
    obtain ⟨-, hfifo, hpop, -⟩ := ((s.at t).shiftedOut s.host.resp).respond_shows { status := rsOk, addr := a }
    rw [hfifo, hpop, (s.at t).shiftedOut_event hf hr, if_pos (show (s.at t).host.popped < 2 from hlt)]
    exact ⟨rfl, rfl⟩
  · refine ⟨_, execHostNop_up hp, ?_⟩
    obtain ⟨-, hfifo, hpop, -, -, -, hreg⟩ := ((s.at t).shiftedOut s.host.resp).respond_shows { status := rsOk, addr := a }
    rw [hfifo, hpop, State.get_congr (hreg _ (by decide)), (s.at t).shiftedOut_event hf hr, if_neg (show ¬ (s.at t).host.popped < 2 from Nat.not_lt.2 hge)]
    exact ⟨rfl, rfl, State.get_set _ _ _ (by decide)⟩
  · exact ⟨_, execHostFrameError_up hp, (State.respond_shows _ _).2.1, (State.respond_shows _ _).2.2.1⟩
  · refine ⟨_, execHostNop_up hp, ?_⟩
    obtain ⟨-, -, -, hpair, -⟩ := ((s.at t).shiftedOut s.host.resp).respond_shows { status := rsOk, addr := a }
    rw [hpair, (s.at t).shiftedOut_pair hf hrel hr, if_pos (show (s.at t).pair.popped < 4 from hlt)]
    exact State.pair_setPair _ _
  · refine ⟨_, execHostNop_up hp, ?_⟩
    obtain ⟨-, -, -, hpair, -⟩ := ((s.at t).shiftedOut s.host.resp).respond_shows { status := rsOk, addr := a }
    rw [hpair, (s.at t).shiftedOut_pair hf hrel hr, if_neg (show ¬ (s.at t).pair.popped < 4 from Nat.not_lt.2 hge)]
    exact rfl

end Sys2Proof.Machine
end

section
/-!
PROOF. What the frames of the host answer (R511 to R518, O50).
-/
namespace Sys2Proof.Machine

section
variable {s : State} {t : Word}

theorem execHostRead_answered {a : Fin 65536} {late : Bool} (hp : s.power = .up) (he : s.early (.hostRead t a late) = false) {w : Option Word}
    (h : (s.at t).readTurn.busRead .host false ((s.at t).readTurn.get Reg.SYS_PAGE_PAGE) a = (w.getD 0, (s.at t).readTurn, ackAccept)) :
    exec (.hostRead t a late) s = .next ((s.at t).readTurn.respond ((s.at t).readTurn.readResponse a late w)) := by
  have hx : exec (.hostRead t a late) s = .next ((s.at t).hostRead a late) :=
    congrArg Host.Outcome.next (if_neg (by rw [show (s.at t).early (.hostRead t a late) = _ from he]; decide))
  exact hx.trans (congrArg _ ((s.at t).hostRead_answered hp late h))

/-- TRACE that is off answers a READ with BUS_ERR. -/
theorem execHostRead_traceOff {a : Fin 65536} {late : Bool} (hp : s.power = .up) (he : s.early (.hostRead t a late) = false) (ha : 0x8000 ≤ a.val)
    (hpg : (s.at t).readTurn.get Reg.SYS_PAGE_PAGE < 4) (hd : (s.at t).readTurn.domain 2 ≠ 0) :
    exec (.hostRead t a late) s = .next ((s.at t).readTurn.respond { status := if late then rsLate else rsBus, addr := a }) := by
  have hx : exec (.hostRead t a late) s = .next ((s.at t).hostRead a late) :=
    congrArg Host.Outcome.next (if_neg (by rw [show (s.at t).early (.hostRead t a late) = _ from he]; decide))
  refine hx.trans (congrArg _ ?_)
  unfold State.hostRead
  rw [if_neg (not_not_intro (show (s.at t).power = .up from hp))]
  unfold State.frameRead
  dsimp only
  rw [show (((s.at t).shiftedOut (s.at t).host.resp).mergeAll ((s.at t).shiftedOut (s.at t).host.resp).reports.length).busTurn .host
    = (s.at t).readTurn from rfl, State.busRead_traceOff _ _ _ ha hpg hd]
  cases late <;> rfl

end

/-- A READ of the host outside the event registers consumes nothing. -/
theorem State.readResponse_plain (s : State) {a : Nat} (late : Bool) (w : Option Word) (h₁ : a ≠ Reg.SYS_EVPOP_addr) (h₂ : a ≠ Reg.PRX_PEVPOP_addr) :
    s.readResponse a late w = if late then { status := rsLate, addr := a }
      else { status := rsOk, addr := a, data := if s.mergeOpen then w.getD 0 else s.veil a (w.getD 0) } := by
  unfold State.readResponse
  rw [s.popOf_plain h₁ h₂]

/-! ### The host while the device is held -/

section
variable {s : State} (hp : s.power ≠ .up)
include hp

theorem State.hostAccess_held (c x) (h : s.hostAccess c = some x) : x = s := by
  have hr : ∀ a late, s.hostRead a late = s := fun _ _ => if_pos hp
  have hw : ∀ a v late, s.hostWrite a v late = s := fun _ _ _ => if_pos hp
  have hg : ∀ a v, s.registerWrite a v = s := fun _ _ => if_neg hp
  unfold State.hostAccess at h
  split at h
  all_goals first
    | (obtain ⟨-, h⟩ := Option.ite_none_right_eq_some.1 h
       obtain rfl := Option.some.inj h)
    | exact absurd h (by simp)
  · exact hr _ _
  · exact hw _ _ _
  · exact hg _ _
  · exact hr _ _
  · exact hr _ _

/-- While the device is held the host's accesses of an instant have no effect. -/
theorem State.hostFirst_held : s.hostFirst.power = s.power ∧ s.hostFirst.regs = s.regs ∧ s.hostFirst.work = s.work ∧ s.hostFirst.fifo = s.fifo := by
  unfold State.hostFirst
  refine foldl_keeps (I := fun x : State => x.power = s.power ∧ x.regs = s.regs ∧ x.work = s.work ∧ x.fifo = s.fifo) (fun x c _ hx => ?_) ⟨rfl, rfl, rfl, rfl⟩
  unfold State.take
  split
  · exact hx
  · split
    · next y hy => rw [State.hostAccess_held (by rw [hx.1]; exact hp) c y hy]; exact hx
    · exact hx

theorem execJtagDbgAccess_held {t : Word} (op : Fin 256) (a : Fin 65536) (crc : Fin 256) (v : Word) :
    Does (.jtagDbgAccess t op a crc v) s (fun s' => s'.regs = s.regs ∧ s'.work = s.work ∧ s'.fifo = s.fifo) := by
  refine ⟨_, rfl, ?_⟩
  split
  · exact ⟨rfl, rfl, rfl⟩
  · obtain ⟨hpow, hregs, hwork, hfifo⟩ := State.hostFirst_held (s := s.at t) hp
    unfold State.debugAccess
    rw [if_pos (show ((s.at t).hostFirst.jtagSelect 0x20).power ≠ .up from fun h => hp (hpow.symm.trans h))]
    exact ⟨hregs, hwork, hfifo⟩

end

/-! ### A WRITE -/

theorem execHostWrite_answered {s : State} {t : Word} {a : Fin 65536} {v : Word} {late : Bool} (hp : s.power = .up)
    (he : s.early (.hostWrite t a v late) = false) :
    let s₁ := ((s.at t).shiftedOut s.host.resp).busTurn .host
    let w := s₁.busWrite .host false (s₁.get Reg.SYS_PAGE_PAGE) a v
    w.1.power = .up → exec (.hostWrite t a v late) s
      = .next (w.1.respond { status := if late then rsLate else if w.2 = ackAccept then rsOk else rsBus, addr := a }) := by
  intro s₁ w hup
  have hx : exec (.hostWrite t a v late) s = .next ((s.at t).hostWrite a v late) :=
    congrArg Host.Outcome.next (if_neg (by rw [show (s.at t).early (.hostWrite t a v late) = _ from he]; decide))
  refine hx.trans (congrArg _ ?_)
  unfold State.hostWrite
  rw [if_neg (not_not_intro (show (s.at t).power = .up from hp))]
  exact if_pos hup

/-! ### The obligation -/

section
variable (s : State)

/-- What is consumed shows in the LEVELs of the two FIFOs alone. -/
theorem State.shiftedOut_reg (r : Response) {a : Nat} (h₁ : a ≠ Reg.SYS_EVSTAT_addr) (h₂ : a ≠ Reg.PRX_PEVSTAT_addr) :
    (s.shiftedOut r).reg a = s.reg a := by
  have hev : s.evConsume.reg a = s.reg a := by
    unfold State.evConsume
    split
    · rfl
    · split
      · rfl
      · exact State.reg_set_ne _ _ _ h₁
  have hpev : s.pevConsume.reg a = s.reg a := by
    unfold State.pevConsume
    split
    · split
      · rfl
      · split
        · rfl
        · exact State.reg_set_ne _ _ _ h₂
    · rfl
  unfold State.shiftedOut
  split
  · split
    · exact hev
    · rfl
  · split
    · exact hpev
    · rfl
  · rfl

theorem State.respond_get {r : Response} (h : r.status ≠ rsLate) (f : Fld) : (s.respond r).get f = s.get f := by
  unfold State.respond
  dsimp only
  rw [if_neg h]
  rfl

/-- LATES counts the late responses (Table 11.15). -/
theorem State.respond_counts {r : Response} {late : Bool} (h : r.status = rsLate ↔ late = true) : (s.respond r).get Reg.LNK_HSPI_LATES
    = if late then min (s.get Reg.LNK_HSPI_LATES + 1) Reg.LNK_HSPI_LATES.max else s.get Reg.LNK_HSPI_LATES := by
  rw [s.respond_lates]
  simp only [h]

end

theorem late_iff (late : Bool) {x y : Response} (hx : x.status = rsLate) (hy : y.status ≠ rsLate) :
    (if late then x else y).status = rsLate ↔ late = true := by
  cases late
  · simpa using hy
  · simpa using hx

/-- Settles O50. -/
theorem hostFrames : Obligations.HostFrames := by
  unfold Obligations.HostFrames
  refine ⟨fun t a late s hp => ?_, fun t a v late f s hp => ⟨?_, fun op crc => execJtagDbgAccess_held hp op a crc v⟩⟩
  · intro s0 s1 page answers lates value bits
    have hs1 : (s.at t).readTurn = s1 := rfl
    have hdone : ∀ {c x r} {p : State → Prop}, exec c s = .next (x.respond r) → (answers x r (x.respond r) → p (x.respond r)) → Does c s p :=
      fun {c x r p} hx h => ⟨_, hx, h (by
        obtain ⟨hr, hf, hpop, -, hw, ht, hreg⟩ := x.respond_shows r
        exact ⟨hr, hf, hpop, hw, ht, hreg⟩)⟩
    have hread : ∀ {w}, s.early (.hostRead t a late) = false → a.val ≠ Reg.SYS_EVPOP_addr → a.val ≠ Reg.PRX_PEVPOP_addr →
        s1.busRead .host false page a = (w.getD 0, s1, ackAccept) →
        Does (.hostRead t a late) s (fun s' => answers s1 (value w) s' ∧ lates s1 s') := fun {w} he h₁ h₂ h => by
      have hx : exec (.hostRead t a late) s = .next (s1.respond (value w)) :=
        (execHostRead_answered hp he h).trans (by rw [hs1, s1.readResponse_plain late w h₁ h₂])
      exact hdone hx fun ha => ⟨ha, s1.respond_counts (late_iff late rfl (show rsOk ≠ rsLate by decide))⟩
    have hframe : ∀ (x : Fin 65536) (status : Nat), ({ status, addr := ((x.val : BitVec 16)).toNat } : Response) = { status, addr := x } := fun x status => by
      rw [show ((x.val : BitVec 16)).toNat = x.val from Nat.mod_eq_of_lt x.isLt]
    refine ⟨fun v => ?_, fun k s => ⟨rfl, rfl⟩, fun he ha hmem => ?_, fun he ha hd => ?_, fun he ha hpg hd => ?_, hdone (execHostNop_up hp) fun h => h,
      hdone (execHostFrameError_up hp) fun h => ?_, fun x => ⟨hdone (execHostFrameError_up hp) fun h => ?_, hdone (execHostFrameError_up hp) fun h => ?_⟩,
      fun v => ?_⟩
    · obtain ⟨h₁, h₂, h₃⟩ := hostCommand_good t a v late
      exact ⟨h₁, h₂, h₃, fun n hn => if_pos hn⟩
    · simp only [List.mem_cons, List.not_mem_nil, or_false, not_or] at hmem
      obtain ⟨h₁, h₂, h₃⟩ := hmem
      exact hread he h₁ h₂ ((s1.busRead_reg .host page ha (by simpa using h₃)).trans (s1.readAnswer_host _))
    · exact hread he (by simp only [Reg.SYS_EVPOP_addr]; omega) (by simp only [Reg.PRX_PEVPOP_addr]; omega)
        ((s1.busRead_page .host page ha hd).trans (s1.readAnswer_host _))
    · refine hdone (execHostRead_traceOff hp he ha hpg hd) fun h => ⟨h, s1.respond_counts ?_⟩
      cases late
      · exact ⟨fun h => absurd h (show rsBus ≠ rsLate by decide), fun h => absurd h (by decide)⟩
      · exact ⟨fun _ => rfl, fun _ => rfl⟩
    · obtain ⟨hr, hf, hpop, hw, ht, hreg⟩ := h
      exact ⟨⟨hr, hf, hpop, hw, ht, fun x hx => (hreg x hx).trans (State.reg_inc_ne _ _ hx)⟩,
        (State.respond_get _ (by decide) _).trans (State.get_inc _ _ (by decide))⟩
    · obtain ⟨hr, hf, hpop, hw, ht, hreg⟩ := h
      refine ⟨⟨hr.trans (hframe x rsCrc), hf, hpop, hw, ht, fun x hx => (hreg x hx).trans (State.reg_inc_ne _ _ hx)⟩,
        (State.respond_get _ (show rsCrc ≠ rsLate by decide) _).trans ((State.get_inc _ _ (by decide)).trans ?_)⟩
      rw [State.get_congr (s' := (s.at t).shiftedOut s.host.resp) (s := s.at t) ((s.at t).shiftedOut_reg _ (by decide) (by decide))]
      rfl
    · obtain ⟨hr, hrest⟩ := h
      exact ⟨hr.trans (hframe x rsOpcode), hrest⟩
    · intro s2 w he hup
      refine hdone (execHostWrite_answered hp he hup) fun h => ?_
      obtain ⟨hr, hf, hpop, hw, ht, hreg⟩ := h
      refine ⟨State.respond_counts _ ?_, hw, ht, hreg, hr⟩
      cases late
      · simp only [Bool.false_eq_true, if_false, iff_false]
        split <;> decide
      · simp
  · intro c hc he
    simp only [List.mem_cons, List.not_mem_nil, or_false] at hc
    rcases hc with rfl | rfl | rfl | rfl | rfl | rfl
    · exact congrArg Host.Outcome.next ((if_neg (by rw [show (s.at t).early (.hostRead t a late) = _ from he]; decide)).trans (if_pos hp))
    · exact congrArg Host.Outcome.next ((if_neg (by rw [show (s.at t).early (.hostWrite t a v late) = _ from he]; decide)).trans (if_pos hp))
    · exact congrArg Host.Outcome.next (if_pos hp)
    · exact congrArg Host.Outcome.next (if_pos hp)
    · exact congrArg Host.Outcome.next ((if_neg (by rw [show (s.at t).early (.eventPop t late) = _ from he]; decide)).trans (if_pos hp))
    · exact congrArg Host.Outcome.next ((if_neg (by rw [show (s.at t).early (.pairEventPop t late) = _ from he]; decide)).trans (if_pos hp))

end Sys2Proof.Machine
end

section
/-!
PROOF. The debug port (R543 to R545, O48): the TAP instruction stays in force through every access of the bus, what the balls carry under it,
and the frames of DBG_ACCESS.
-/
namespace Sys2Proof.Machine

/-! ### The instruction in force -/

/-- The TAP instruction in force. -/
def State.tap (s : State) : JtagInstr := s.host.jtag.instr

theorem Keeps.tap {P : Nat} {s s' : State} (h : Keeps P s s') (hP : P.testBit Part.host.idx = false) : s'.tap = s.tap :=
  congrArg (fun k : HostPort => k.jtag.instr) (h.same .host hP)

theorem tap_foldl {α : Type} {f : State → α → State} {l : List α} {s : State} (hf : ∀ x, ∀ a ∈ l, (f x a).tap = x.tap) : (l.foldl f s).tap = s.tap :=
  foldl_keeps (I := fun x : State => x.tap = s.tap) (fun x a ha hx => (hf x a ha).trans hx) rfl

section
variable (s : State)

/-- A reset leaves the instruction of the TAP in force. -/
theorem State.resetTo_tap (kind : ResetKind) (code : Nat) : (s.resetTo kind code).tap = s.tap :=
  (s.resetTo_keeps_held kind code).tap (by decide) |>.trans (s.torn_keeps.tap (by decide))

theorem State.evConsume_tap : s.evConsume.tap = s.tap := by
  unfold State.evConsume
  split
  · rfl
  · split <;> rfl

theorem State.pevConsume_tap : s.pevConsume.tap = s.tap :=
  (State.pevConsume_keeps s (Nat.and_self _) (.refl _ s)).tap (by decide)

theorem State.shiftedOut_tap (r : Response) : (s.shiftedOut r).tap = s.tap := by
  unfold State.shiftedOut
  split
  · split
    · exact s.evConsume_tap
    · rfl
  · split
    · exact s.pevConsume_tap
    · rfl
  · rfl

/-! #### Writes of registers and memories -/

theorem State.softReset_tap (key : Nat) : (s.softReset key).tap = s.tap := by
  unfold State.softReset
  split
  · exact s.resetTo_tap _ _
  · rfl

theorem State.actSystem_tap (a : Nat) (v : Word) : (s.actSystem a v).tap = s.tap := by
  unfold State.actSystem
  split
  · exact s.softReset_tap _
  · split
    · exact (State.latClear_keeps s (Nat.and_self _) (.refl _ s)).tap (by decide)
    · split
      · exact (State.weaveCommand_keeps s _ _ (Nat.and_self _) (.refl _ s)).tap (by decide)
      · split
        · split
          · exact (State.releaseWrite_keeps s (Nat.and_self _) (.refl _ s)).tap (by decide)
          · rfl
        · split
          · exact (State.safClear_keeps s (Nat.and_self _) (.refl _ s)).tap (by decide)
          · rfl

theorem State.flashCommand_tap (cmd a len : Nat) : (s.flashCommand cmd a len).tap = s.tap := by
  unfold State.flashCommand
  extract_lets n w x
  have hx : x.tap = s.tap := rfl
  clear_value x
  split
  · rfl
  · split
    · rfl
    · split
      · exact ((State.overwritten_keeps _ _ _ (Nat.and_self _) (.refl _ _)).tap (by decide)).trans
          ((tap_foldl fun y k _ => (State.setWorkByte_keeps y _ _ _ (Nat.and_self _) (.refl _ y)).tap (by decide)).trans hx)
      · split
        · exact (tap_foldl fun y k _ => (State.flashSet_keeps y _ _ (Nat.and_self _) (.refl _ y)).tap (by decide)).trans hx
        · exact hx

theorem State.actLink_tap (a i : Nat) (v : Word) : (s.actLink a i v).tap = s.tap := by
  unfold State.actLink
  split
  · refine tap_foldl fun x m _ => ?_
    split
    · exact (State.canRequest_keeps x _ _ (Nat.and_self _) (.refl _ x)).tap (by decide)
    · rfl
  · split
    · split
      · exact (State.canAck_keeps s _ (Nat.and_self _) (.refl _ s)).tap (by decide)
      · rfl
    · split
      · split
        · exact (State.canRecover_keeps s _ (Nat.and_self _) (.refl _ s)).tap (by decide)
        · rfl
      · have hclear : ∀ b, (s.linkClear b).tap = s.tap := fun b => (State.linkClear_keeps s b (Nat.and_self _) (.refl _ s)).tap (by decide)
        split
        · exact hclear _
        · split
          · exact hclear _
          · split
            · exact hclear _
            · split
              · exact hclear _
              · split
                · exact s.flashCommand_tap _ _ _
                · rfl

theorem State.regWrite_tap (r : RegRow) (a i j : Nat) (v : Word) : (s.regWrite r a i j v).tap = s.tap := by
  unfold State.regWrite
  split
  · rfl
  · split
    · exact (State.writePower_keeps s r v (Nat.and_self _) (.refl _ s)).tap (by decide)
    · extract_lets old m held s₁ s₂
      have h₂ : s₂.tap = s.tap := by unfold s₂; split <;> rfl
      clear_value s₂
      split
      · rfl
      · refine ((State.actData_keeps _ a i v _ (Nat.and_self _) (.refl _ _)).tap (by decide)).trans ((State.actLink_tap _ a i v).trans ?_)
        refine ((State.actPulse_keeps _ a (Nat.and_self _) (.refl _ _)).tap (by decide)).trans ?_
        refine ((State.actService_keeps _ a i v old _ (Nat.and_self _) (.refl _ _)).tap (by decide)).trans ?_
        refine ((State.actFront_keeps _ a i v old _ (Nat.and_self _) (.refl _ _)).tap (by decide)).trans ?_
        refine ((State.actAngle_keeps _ a i j v old _ (Nat.and_self _) (.refl _ _)).tap (by decide)).trans ?_
        exact (s₂.actSystem_tap a v).trans h₂

theorem State.busWrite_tap (m : Master) (adm : Bool) (p a : Nat) (v : Word) : (s.busWrite m adm p a v).1.tap = s.tap := by
  unfold State.busWrite
  split
  · exact (State.pageWrite_keeps s m adm p _ v (Nat.and_self _) (.refl _ s)).tap (by decide)
  · split
    · rfl
    · split
      · exact s.regWrite_tap _ _ _ _ _
      · exact (State.reservedWrite_keeps s m (Nat.and_self _) (.refl _ s)).tap (by decide)

theorem State.busRead_tap (m : Master) (adm : Bool) (p a : Nat) : (s.busRead m adm p a).2.1.tap = s.tap :=
  (State.busRead_keeps s m adm p a (Nat.and_self _) (.refl _ s)).tap (by decide)

/-! #### The DMA channels -/

theorem State.dmaRead_tap (c : Nat) (adm : Bool) (a : Nat) : (s.dmaRead c adm a).2.1.tap = s.tap := by
  unfold State.dmaRead
  extract_lets adr r
  have hr : r.2.1.tap = s.tap := s.busRead_tap _ _ _ _
  clear_value r
  split
  · rfl
  · split
    · exact hr
    · split
      · exact r.2.1.evConsume_tap.trans hr
      · split
        · exact r.2.1.pevConsume_tap.trans hr
        · exact hr

theorem State.dmaWrite_tap (c : Nat) (adm : Bool) (a : Nat) (v : Word) : (s.dmaWrite c adm a v).1.tap = s.tap := by
  unfold State.dmaWrite
  split
  · rfl
  · exact s.busWrite_tap _ _ _ _ _

theorem State.fetchWords_tap (c a n : Nat) : (s.fetchWords c a n).2.1.tap = s.tap := by
  induction n generalizing s a with
  | zero => rfl
  | succ n ih =>
    unfold State.fetchWords
    extract_lets r q
    have hr : r.2.1.tap = s.tap := s.dmaRead_tap c false a
    split
    · exact hr
    · exact (ih r.2.1 _).trans hr

theorem State.grantFetch_tap (c : Nat) : (s.grantFetch c).tap = s.tap := by
  unfold State.grantFetch
  extract_lets p got r k
  have hr : r.2.1.tap = s.tap := by
    unfold r
    split
    · exact s.fetchWords_tap _ _ _
    · rfl
  exact hr

theorem State.beatAccess_tap (c : Nat) (d : Desc) (b : Beat) : (s.beatAccess c d b).1.tap = s.tap := by
  unfold State.beatAccess
  extract_lets adm fill r q q'
  have hr : r.2.1.tap = s.tap := by
    unfold r
    split
    · exact s.dmaRead_tap _ _ _
    · rfl
  have hq : q.1.tap = s.tap := (State.dmaWrite_tap r.2.1 c adm b.dst r.1).trans hr
  have hq' : q'.2.1.tap = s.tap := (State.dmaRead_tap r.2.1 c adm b.dst).trans hr
  clear_value r q q'
  split
  · exact hr
  · split
    · exact hq
    · split
      · exact hq'
      · exact ((State.dmaCompare_keeps q'.2.1 c b.idx r.1 q'.1 (Nat.and_self _) (.refl _ _)).tap (by decide)).trans hq'

theorem State.grantBus_tap (c : Nat) : (s.grantBus c).tap = s.tap := by
  unfold State.grantBus
  split
  · exact s.grantFetch_tap c
  · unfold State.grantBeat
    split
    · exact s.beatAccess_tap _ _ _
    · rfl

theorem State.grantsBefore_tap (own : BusReq) (n : Nat) : (s.grantsBefore own n).tap = s.tap := by
  induction n generalizing s with
  | zero => rfl
  | succ n ih =>
    unfold State.grantsBefore
    split
    · split
      · rfl
      · exact (ih _).trans (s.grantBus_tap _)
    · rfl

theorem State.grantsTo_tap (c n : Nat) : (s.grantsTo c n).tap = s.tap := by
  induction n generalizing s with
  | zero => rfl
  | succ n ih =>
    unfold State.grantsTo
    split
    · split
      · exact s.grantBus_tap c
      · exact (ih _).trans (s.grantBus_tap _)
    · rfl

theorem State.descriptorLoad_tap (c : Nat) : (s.descriptorLoad c).tap = s.tap := by
  unfold State.descriptorLoad
  extract_lets x
  have hx : x.tap = s.tap := by
    unfold x
    split
    · exact s.grantsTo_tap _ _
    · rfl
  clear_value x
  split
  · rfl
  · split
    · exact ((State.fetchAnswer_keeps x c (Nat.and_self _) (.refl _ x)).tap (by decide)).trans hx
    · exact hx

theorem State.beatResponse_tap (c : Nat) (busy : Bool) : (s.beatResponse c busy).tap = s.tap := by
  have hanswer : ∀ x : State, (x.beatAnswer c).tap = x.tap := fun x => (State.beatAnswer_keeps x c (Nat.and_self _) (.refl _ x)).tap (by decide)
  unfold State.beatResponse
  extract_lets x
  have hx : x.tap = s.tap := s.grantsTo_tap _ _
  clear_value x
  split
  · rfl
  · split
    · rfl
    · split
      · exact hanswer s
      · split
        · exact (State.beatAgain_keeps s c _ (Nat.and_self _) (.refl _ s)).tap (by decide)
        · split
          · exact (hanswer x).trans hx
          · exact hx

theorem State.dmaMove_tap (c : Instr) : (s.dmaMove c).tap = s.tap := by
  unfold State.dmaMove
  split
  · exact (State.dmaGo_keeps s _ (Nat.and_self _) (.refl _ s)).tap (by decide)
  · exact (State.dmaTrigger_keeps s _ (Nat.and_self _) (.refl _ s)).tap (by decide)
  · exact (State.dmaResume_keeps s _ (Nat.and_self _) (.refl _ s)).tap (by decide)
  · exact (State.dmaSwitchOn_keeps s _ (Nat.and_self _) (.refl _ s)).tap (by decide)
  · exact (State.dmaReturn_keeps s _ (Nat.and_self _) (.refl _ s)).tap (by decide)
  · exact s.descriptorLoad_tap _
  · exact s.beatResponse_tap _ _
  · rfl

theorem State.turnSoon_tap (own : BusReq) (c : Instr) : (s.turnSoon own c).tap = s.tap := by
  unfold State.turnSoon
  split
  · next x hx =>
    have hmove : x.tap = s.tap := by
      unfold State.dmaSoon at hx
      split at hx
      · obtain ⟨-, hx⟩ := Option.ite_none_right_eq_some.1 hx
        obtain rfl := Option.some.inj hx
        exact State.dmaMove_tap _ c
      · exact absurd hx (by simp)
    split
    · rfl
    · exact (State.grantsBefore_tap x own _).trans hmove
  · rfl

theorem State.busTurn_tap (m : Master) : (s.busTurn m).tap = s.tap := by
  unfold State.busTurn
  extract_lets own x
  exact (tap_foldl fun y c _ => y.turnSoon_tap own c).trans (s.grantsBefore_tap own _)

end

/-! ### What the balls carry -/

section
variable (s : State)

/-- Every ball carries its own signal. -/
def State.plain (s s' : State) : Prop := ∀ row col, s'.ball row col = match ballSignal row col with
  | some (y, i, k) => s.routable y i k
  | none => s.fixedBall row col

/-- The output balls are in state `b`, the others carry their own signals. -/
def State.outputs (s : State) (b : BallState) (s' : State) (row col : Nat) : Prop :=
  (∀ y i k, ballSignal row col = some (y, i, k) → s'.ball row col = if outputSignal y i k then b else s.routable y i k)
    ∧ (ballSignal row col = none → s'.ball row col = if fixedOutput row col then b else s.fixedBall row col)

theorem State.ball_plain {x : State} (h : x.tapDrives = false) (hr : ∀ y i k, x.routable y i k = s.routable y i k)
    (hf : ∀ row col, x.fixedBall row col = s.fixedBall row col) : s.plain x := by
  intro row col
  unfold State.ball
  rw [h]
  simp only [Bool.false_and, Bool.false_eq_true, if_false]
  cases ballSignal row col with
  | none => exact hf row col
  | some p => exact hr _ _ _

theorem State.ball_outputs {x : State} (h : x.tapDrives = true) (hr : ∀ y i k, x.routable y i k = s.routable y i k)
    (hf : ∀ row col, x.fixedBall row col = s.fixedBall row col) (row col : Nat) :
    s.outputs (if x.host.jtag.instr = .highz then .highZ else .drives (Config.boundaryCell row col)) x row col := by
  unfold State.outputs State.ball
  refine ⟨fun y i k hb => ?_, fun hb => ?_⟩
  · rw [h, hb, ← hr]
    rfl
  · rw [h, hb, ← hf]
    rfl

end

/-! ### The TAP instructions -/

section
variable (s : State) (t : Word)

/-- What Update-IR with `code` selects. -/
theorem State.jtagSelect_shows (code : Nat) : (s.jtagSelect code).host.jtag.instr = jtagDecode code ∧ (s.jtagSelect code).host.jtag.ir = code
    ∧ (s.jtagSelect code).host.jtag.resp = s.host.jtag.resp ∧ (s.jtagSelect code).regs = s.regs
    ∧ (∀ y i k, (s.jtagSelect code).routable y i k = s.routable y i k) ∧ ∀ row col, (s.jtagSelect code).fixedBall row col = s.fixedBall row col :=
  ⟨rfl, rfl, rfl, rfl, fun _ _ _ => rfl, fun _ _ => rfl⟩

/-- The update that R544 refuses while the Loom runs. -/
def State.tapRefused (s : State) : State := (s.jtagSelect 0xFF).stick Reg.LNK_JTAG_REFUSED 1

theorem State.tapRefused_shows : (s.tapRefused.host.jtag.instr = .bypass ∧ jtagDecode s.tapRefused.host.jtag.ir = .bypass
      ∧ s.tapRefused.host.jtag.resp = s.host.jtag.resp) ∧ s.tapRefused.get Reg.LNK_JTAG_REFUSED = 1
    ∧ (∀ a, a ≠ Reg.LNK_JTAG_addr → s.tapRefused.reg a = s.reg a)
    ∧ (∀ y i k, s.tapRefused.routable y i k = s.routable y i k) ∧ ∀ row col, s.tapRefused.fixedBall row col = s.fixedBall row col := by
  have hrun : s.tapRefused.running = s.running := State.is_congr (State.get_stick_ne (s.jtagSelect 0xFF) _ _ 1 (by simp))
  have hreg : ∀ a, a ≠ Reg.LNK_JTAG_addr → s.tapRefused.reg a = s.reg a := fun a ha => State.reg_stick_ne (s.jtagSelect 0xFF) _ 1 ha
  refine ⟨⟨rfl, rfl, rfl⟩, State.get_stick_bit (s.jtagSelect 0xFF) _ (by decide) rfl, hreg, fun y i k => ?_, fun row col => ?_⟩
  · unfold State.routable
    rw [hrun]
    rfl
  · have hget : ∀ f : Fld, f.addr ≠ Reg.LNK_JTAG_addr → s.tapRefused.get f = s.get f := fun f hf => State.get_congr (hreg _ hf)
    have hirq : s.tapRefused.hirq = s.hirq := by
      unfold State.hirq
      rw [hget _ (by decide), hget _ (by decide), State.is_congr (hget Reg.SYS_EVSTAT_OVF (by decide))]
    have hsafe : s.tapRefused.safeNDrive = s.safeNDrive := by
      unfold State.safeNDrive State.hs
      rw [hget _ (by decide)]
      rfl
    unfold State.fixedBall
    rw [hirq, hsafe]

theorem State.tapDrives_of_ne {x : State} (h : x.host.jtag.instr ≠ .extest ∧ x.host.jtag.instr ≠ .highz ∧ x.host.jtag.instr ≠ .clamp) :
    x.tapDrives = false := by
  unfold State.tapDrives
  rw [decide_eq_false (by tauto), Bool.false_and]

/-- An instruction that leaves the balls alone is taken. -/
theorem State.jtagSelect_plain (code : Nat) (h : jtagDecode code ∉ [JtagInstr.extest, .highz, .clamp]) : s.plain (s.jtagSelect code) := by
  simp only [List.mem_cons, List.not_mem_nil, or_false, not_or] at h
  exact s.ball_plain (State.tapDrives_of_ne h) (s.jtagSelect_shows code).2.2.2.2.1 (s.jtagSelect_shows code).2.2.2.2.2

/-- EXTEST, HIGHZ and CLAMP take the output balls while the Loom is stopped. -/
theorem State.jtagSelect_outputs (code : Nat) (h : jtagDecode code ∈ [JtagInstr.extest, .highz, .clamp]) (hr : s.running = false) (row col : Nat) :
    s.outputs (if jtagDecode code = .highz then .highZ else .drives (Config.boundaryCell row col)) (s.jtagSelect code) row col := by
  simp only [List.mem_cons, List.not_mem_nil, or_false] at h
  refine s.ball_outputs ?_ (s.jtagSelect_shows code).2.2.2.2.1 (s.jtagSelect_shows code).2.2.2.2.2 row col
  unfold State.tapDrives
  rw [show (s.jtagSelect code).running = s.running from rfl, hr, (s.jtagSelect_shows code).1, decide_eq_true h]
  rfl

end

/-! ### DBG_ACCESS -/

section
variable (s : State)

theorem State.shiftedOut_jtag (r : Response) : (s.shiftedOut r).host.jtag = s.host.jtag := by
  have hev : s.evConsume.host.jtag = s.host.jtag := by
    unfold State.evConsume
    split
    · rfl
    · split <;> rfl
  have hpev : s.pevConsume.host = s.host := (State.pevConsume_keeps s (Nat.and_self _) (.refl _ s)).same .host (by decide)
  unfold State.shiftedOut
  split
  · split
    · exact hev
    · rfl
  · split
    · rw [hpev]
    · rfl
  · rfl

theorem State.shiftedOut_power (r : Response) : (s.shiftedOut r).power = s.power :=
  (State.shiftedOut_keeps s r (Nat.and_self _) (.refl _ s)).same .power (by decide)

/-- The response `r` stands, DBG_ACCESS is in force, and registers and event FIFO are those of `s`. -/
def State.debugAnswers (s : State) (r : Response) (s' : State) : Prop := s'.host.jtag.resp = r ∧ s'.host.jtag.instr = .dbg
  ∧ s'.regs = s.regs ∧ s'.fifo = s.fifo ∧ s'.captureDr = some r.bits

theorem State.debugAnswers_of {r : Response} {x : State} (hr : x.host.jtag.resp = r) (hi : x.host.jtag.instr = .dbg) (hregs : x.regs = s.regs)
    (hf : x.fifo = s.fifo) : s.debugAnswers r x := by
  refine ⟨hr, hi, hregs, hf, ?_⟩
  unfold State.captureDr
  rw [hi, hr]

/-- The state in which a debug frame is looked at: DBG_ACCESS is selected and the last response has been shifted out. -/
def State.debugReady : State := (s.jtagSelect 0x20).shiftedOut s.host.jtag.resp

theorem State.debugReady_shows : s.debugReady.host.jtag = { s.host.jtag with ir := 0x20, instr := .dbg } ∧ s.debugReady.power = s.power :=
  ⟨State.shiftedOut_jtag _ _, State.shiftedOut_power _ _⟩

theorem State.debugAccess_eq (hp : s.power = .up) (op a crc : Nat) (v : Word) : s.debugAccess op a crc v =
    if ¬ debugRuns op a crc then s.debugReady
    else if (s.debugReady.debugFrame op a v).1.power = .up then (s.debugReady.debugFrame op a v).1.debugResponse (s.debugReady.debugFrame op a v).2
    else (s.debugReady.debugFrame op a v).1 := by
  unfold State.debugAccess
  rw [if_neg (not_not_intro (show (s.jtagSelect 0x20).power = .up from hp))]
  rfl

theorem State.debugAccess_unexecuted (hp : s.power = .up) {op a crc : Nat} (v : Word) (h : debugRuns op a crc = false) :
    s.debugReady.debugAnswers s.host.jtag.resp (s.debugAccess op a crc v) := by
  rw [s.debugAccess_eq hp, if_pos (by rw [h]; decide)]
  obtain ⟨hj, -⟩ := s.debugReady_shows
  exact State.debugAnswers_of _ (by rw [hj]) (by rw [hj]) rfl rfl

/-- An executed frame: its access leaves the state up with DBG_ACCESS in force. -/
theorem State.debugAccess_executed (hp : s.power = .up) {op a crc : Nat} {v : Word} (h : debugRuns op a crc = true) {x : State} {r : Response}
    (hx : s.debugReady.debugFrame op a v = (x, r)) (hup : x.power = .up) : s.debugAccess op a crc v = x.debugResponse r := by
  rw [s.debugAccess_eq hp, if_neg (not_not_intro h), hx, if_pos hup]

theorem State.debugResponse_answers (x : State) (r : Response) (hi : x.tap = .dbg) : x.debugAnswers r (x.debugResponse r) :=
  State.debugAnswers_of _ rfl hi rfl rfl

theorem State.debugReady_turn : (s.debugReady.busTurn .debug).tap = .dbg :=
  (s.debugReady.busTurn_tap .debug).trans (congrArg Jtag.instr s.debugReady_shows.1)

end

/-! #### Its READ and its WRITE -/

section
variable (s : State) {a : Nat}

theorem State.frameRead_debug {w : Word}
    (h : (s.busTurn .debug).busRead .debug false ((s.busTurn .debug).get Reg.SYS_PAGE_PAGE) a = (w, s.busTurn .debug, ackAccept))
    (hpop : (s.busTurn .debug).popOf a = none) : s.frameRead .debug a false = (s.busTurn .debug,
      { status := rsOk, addr := a, data := if (s.busTurn .debug).mergeOpen then w else (s.busTurn .debug).veil a w }) := by
  unfold State.frameRead
  dsimp only
  rw [h, hpop]
  rfl

theorem State.frameRead_debug_reserved
    (h : (s.busTurn .debug).busRead .debug false ((s.busTurn .debug).get Reg.SYS_PAGE_PAGE) a = (0, s.busTurn .debug, ackError)) :
    s.frameRead .debug a false = (s.busTurn .debug, { status := rsBus, addr := a }) := by
  unfold State.frameRead
  dsimp only
  rw [h]
  rfl

theorem State.frameWrite_debug {v : Word} {x : State}
    (h : (s.busTurn .debug).busWrite .debug false ((s.busTurn .debug).get Reg.SYS_PAGE_PAGE) a v = (x, ackAccept)) :
    s.frameWrite .debug a v false = (x, { status := rsOk, addr := a }) := by
  unfold State.frameWrite
  dsimp only
  rw [h]
  rfl

theorem State.debugResponse_workGet (x : State) (r : Response) (w : Nat) :
    (x.debugResponse r).workGet w = x.workGet w ∧ (x.debugResponse r).host.jtag.resp = r := ⟨rfl, rfl⟩

theorem State.busWrite_work (m : Master) {p : Nat} (v : Word) (ha : 0x8000 ≤ a) (hp : p = 4) (hl : s.workLocked (a - 0x8000) = false) :
    s.busWrite m false p a v = (s.workWriteBy (a - 0x8000) v, ackAccept) := by
  unfold State.busWrite State.pageWrite
  rw [if_pos ha, if_neg (by omega), if_pos hp, if_neg (by rw [hl]; decide)]

end

theorem debugRuns_of {op a crc : Nat} (hg : crc = frameCheck op a) (hop : op = 0x11 ∨ op = 0x22 ∨ op = 0x44) : debugRuns op a crc = true := by
  unfold debugRuns
  rw [decide_eq_true hg]
  rcases hop with rfl | rfl | rfl <;> rfl

theorem not_debugRuns {op a crc : Nat} (h : ¬ crc = frameCheck op a ∨ (op ≠ 0x11 ∧ op ≠ 0x22 ∧ op ≠ 0x44)) : debugRuns op a crc = false := by
  unfold debugRuns
  rcases h with h | ⟨h₁, h₂, h₃⟩
  · rw [decide_eq_false h, Bool.false_and]
  · rw [show [0x11, 0x22, 0x44].contains op = false by simp [h₁, h₂, h₃], Bool.and_false]

/-- Settles O48. -/
theorem debugPort : Obligations.DebugPort := by
  unfold Obligations.DebugPort
  refine ⟨⟨fun code h => ?_, fun t s => ?_⟩, fun t op a crc v s => ?_⟩
  · simp only [List.mem_cons, List.not_mem_nil, or_false, not_or] at h
    obtain ⟨h₀, h₁, h₂, h₃, h₄, h₅⟩ := h
    unfold jtagDecode
    split <;> first | contradiction | rfl
  · intro selects takes plain out bypassed
    have hsel : ∀ {c code i} {p : State → Prop}, exec c s = .next ((s.at t).jtagSelect code) → jtagDecode code = i → p ((s.at t).jtagSelect code) →
        takes c i p := fun hx hd hp => ⟨_, hx, ⟨hd, hd, rfl⟩, rfl, hp⟩
    have hplain : ∀ code, jtagDecode code ∉ [JtagInstr.extest, .highz, .clamp] → plain ((s.at t).jtagSelect code) := (s.at t).jtagSelect_plain
    have hout : ∀ code, jtagDecode code ∈ [JtagInstr.extest, .highz, .clamp] → s.running = false → ∀ row col,
        out (if jtagDecode code = .highz then .highZ else .drives (Config.boundaryCell row col)) ((s.at t).jtagSelect code) row col :=
      (s.at t).jtagSelect_outputs
    have hstop : ∀ code, s.running = false → (s.at t).jtagStopped code = (s.at t).jtagSelect code := fun code hr =>
      if_neg fun h => absurd (hr.symm.trans h) (by decide)
    have hby : ∀ {c code}, exec c s = .next ((s.at t).jtagStopped code) → s.running = true → bypassed c := fun {c code} hx hr => by
      obtain ⟨hhost, href, hreg, hrt, hfx⟩ := (s.at t).tapRefused_shows
      have hp : plain (s.at t).tapRefused := (s.at t).ball_plain (State.tapDrives_of_ne (by rw [hhost.1]; exact ⟨nofun, nofun, nofun⟩)) hrt hfx
      exact ⟨(s.at t).tapRefused, hx.trans (congrArg _ (if_pos hr)), hhost, href, hp, hreg⟩
    refine ⟨hsel rfl rfl ⟨rfl, hplain _ (by decide)⟩, hsel rfl rfl (hplain _ (by decide)), hsel rfl rfl ⟨rfl, hplain _ (by decide)⟩,
      fun hr => ⟨hsel (congrArg _ (hstop 0x00 hr)) rfl (hout 0x00 (by decide) hr), hsel (congrArg _ (hstop 0x03 hr)) rfl (hout 0x03 (by decide) hr),
        hsel (congrArg _ (hstop 0x04 hr)) rfl (hout 0x04 (by decide) hr)⟩, fun hr => ⟨hby rfl hr, hby rfl hr, hby rfl hr⟩⟩
  · intro u s0 s1 answers good read
    refine ⟨fun hq => ?_, debugCommand_good t op a crc v, fun he hup => ?_⟩
    · show (s.at t).pending.foldl _ _ = _
      rw [show (s.at t).pending = [] from hq]
      rfl
    · have hx : exec (.jtagDbgAccess t op a crc v) s = .next (u.debugAccess op a crc v) :=
        congrArg Host.Outcome.next (if_neg (by rw [show (s.at t).early (.jtagDbgAccess t op a crc v) = _ from he]; decide))
      have hs0 : u.debugReady = s0 := rfl
      have hans : ∀ {x r}, debugRuns op a crc = true → s0.debugFrame op a v = (x, r) → x.power = .up → x.tap = .dbg →
          Does (.jtagDbgAccess t op a crc v) s (answers x r) := fun {x r} hruns hf hpx hi =>
        ⟨_, hx.trans (congrArg _ (u.debugAccess_executed hup hruns hf hpx)), x.debugResponse_answers r hi⟩
      refine ⟨fun h => ⟨_, hx, u.debugAccess_unexecuted hup v (not_debugRuns h)⟩, fun hg hop => ?_, fun hp1 hg hop ha hmem => ?_, fun hp1 hg hop ha hpage hl => ?_⟩
      · refine hans (debugRuns_of hg (.inr (.inr hop))) ?_ (u.debugReady_shows.2.trans hup) (congrArg Jtag.instr u.debugReady_shows.1)
        unfold State.debugFrame
        rw [if_neg (by omega), if_neg (by omega)]
      · simp only [List.mem_cons, List.not_mem_nil, or_false, not_or] at hmem
        obtain ⟨h₁, h₂, h₃⟩ := hmem
        have hread : s1.busRead .debug false (s1.get Reg.SYS_PAGE_PAGE) a = s1.readAnswer .debug (s1.regView a) :=
          s1.busRead_reg .debug _ ha (by simpa using h₃)
        have hframe : s0.debugFrame op a v = s0.frameRead .debug a false := if_pos hop
        refine ⟨fun w hw => hans (debugRuns_of hg (.inl hop)) (hframe.trans (s0.frameRead_debug (hread.trans (by rw [hw]; rfl)) (s1.popOf_plain h₁ h₂))) hp1 u.debugReady_turn,
          fun hw => hans (debugRuns_of hg (.inl hop)) (hframe.trans (s0.frameRead_debug_reserved (hread.trans (by rw [hw]; rfl)))) hp1 u.debugReady_turn⟩
      · have hw := s1.busWrite_work .debug v ha hpage hl
        have hframe : s0.debugFrame op a v = (s1.workWriteBy (a - 0x8000) v, { status := rsOk, addr := a }) := by
          unfold State.debugFrame
          rw [if_neg (by omega), if_pos hop]
          exact s0.frameWrite_debug hw
        have hpw : (s1.workWriteBy (a - 0x8000) v).power = .up :=
          Eq.trans ((State.workWriteBy_keeps s1 _ v (Nat.and_self _) (.refl _ s1)).same .power (by decide)) hp1
        have hval := (s1.workWriteBy_shows (c := 0) (a - 0x8000) v).1
        generalize s1.workWriteBy (a - 0x8000) v = x at hframe hpw hval
        obtain ⟨hmem, hresp⟩ := x.debugResponse_workGet { status := rsOk, addr := a } (a - 0x8000)
        exact ⟨_, hx.trans (congrArg _ (u.debugAccess_executed hup (debugRuns_of hg (.inr (.inl hop))) hframe hpw)),
          hmem.trans hval, hresp⟩

end Sys2Proof.Machine
end

section
/-! PROOF. EVENT, RECORD and BLOCK frames of the partner, and the transmitter (O60). -/
namespace Sys2Proof.Machine

/-! ### An event takes its place in the pair FIFO (R629) -/

/-- `x` leaves the pair FIFO before `y`: by key, the A-side first on equal keys. -/
def PairEntry.before (x y : PairEntry) : Prop := x.key < y.key ∨ (x.key = y.key ∧ x.bSide = false ∧ y.bSide = true)

theorem insertPair_place (e : PairEntry) (q : List PairEntry) : ∃ l l', q = l ++ l' ∧ insertPair e q = l ++ e :: l'
    ∧ (∀ x ∈ l, ¬ e.before x) ∧ ∀ x ∈ l'.head?, e.before x := by
  induction q with
  | nil => exact ⟨[], [], rfl, rfl, nofun, nofun⟩
  | cons x q ih =>
    by_cases h : e.before x
    · exact ⟨[], x :: q, rfl, if_pos h, nofun, fun y hy => by obtain rfl := Option.some.inj hy; exact h⟩
    · obtain ⟨l, l', hq, hi, hl, hl'⟩ := ih
      refine ⟨x :: l, l', congrArg (x :: ·) hq, (if_neg h).trans (congrArg (x :: ·) hi), fun y hy => ?_, hl'⟩
      rcases List.mem_cons.1 hy with rfl | hy
      exacts [h, hl y hy]

section
variable (s : State)

/-- The place of an event in the FIFO; an entry that has begun to be read stays first. -/
def Placed (s : State) (e : PairEntry) (q : List PairEntry) : Prop :=
  ∃ l l', s.pair.fifo = l ++ l' ∧ q = l ++ e :: l' ∧ (∀ x ∈ l.drop (if s.pair.popped = 0 then 0 else 1), ¬ e.before x)
    ∧ (∀ x ∈ l'.head?, e.before x) ∧ (s.pair.popped ≠ 0 → s.pair.fifo ≠ [] → l ≠ [])

theorem State.pevShow_pair : s.pevShow.pair = s.pair := State.pair_set s _ _

theorem State.get_pevShow {g : Fld} (h : Reg.PRX_PEVSTAT_LEVEL.misses g) : s.pevShow.get g = s.get g :=
  (Writes.refl {Reg.PRX_PEVSTAT_LEVEL} s).set rfl _ g fun _ hf => hf ▸ h

section
variable (e : PairEntry) (htile : s.hasTile 0x10 0 = true) (hen : s.is Reg.PRX_CTRL_PEV_EN = true)
include htile hen

theorem State.pairPush_placed (hlen : s.pair.fifo.length < 128) :
    ∃ q, (s.pairPush e).pair = { s.pair with fifo := q } ∧ Placed s e q := by
  unfold State.pairPush Placed
  rw [if_neg (not_not_intro ⟨htile, hen⟩), if_neg (by omega)]
  cases hf : s.pair.fifo with
  | nil => exact ⟨[e], State.pevShow_pair _, [], [], rfl, rfl, by simp, by simp, by simp⟩
  | cons x q =>
    by_cases hp : s.pair.popped = 0
    · obtain ⟨l, l', hq, hi, hl, hl'⟩ := insertPair_place e (x :: q)
      refine ⟨insertPair e (x :: q), ?_, l, l', hq, hi, ?_, hl', fun h => absurd hp h⟩
      · simp only [if_pos hp]
        exact State.pevShow_pair _
      · rw [if_pos hp]
        exact hl
    · obtain ⟨l, l', hq, hi, hl, hl'⟩ := insertPair_place e q
      refine ⟨x :: insertPair e q, ?_, x :: l, l', congrArg (x :: ·) hq, congrArg (x :: ·) hi, ?_, hl', fun _ _ => nofun⟩
      · simp only [if_neg hp]
        exact State.pevShow_pair _
      · rw [if_neg hp]
        exact hl

theorem State.pairPush_lost (hlen : 128 ≤ s.pair.fifo.length) : (s.pairPush e).pair = s.pair ∧ (s.pairPush e).get Reg.PRX_PEVSTAT_OVF = 1
    ∧ (s.pairPush e).get Reg.PRX_PEVSTAT_LOST = min (s.get Reg.PRX_PEVSTAT_LOST + 1) Reg.PRX_PEVSTAT_LOST.max := by
  unfold State.pairPush
  rw [if_neg (not_not_intro ⟨htile, hen⟩), if_pos hlen]
  refine ⟨rfl, ?_, ?_⟩
  · rw [State.get_report, State.get_inc_ne (by simp [Fld.misses])]
    exact State.get_stick_bit s _ (by simp) rfl
  · rw [State.get_report, State.get_inc _ _ (by simp), State.get_stick_ne _ _ _ _ (by simp)]

end

/-! ### An event frame -/

/-- The merge key that an event frame carries. -/
def eventKey (p : List Nat) : Nat := payNat p 18 4 * W48 + payNat p 22 6

/-- The entry of the partner's event. -/
def State.partEvent (p : List Nat) : PairEntry :=
  { ev := ⟨wordAt p 0, wordAt p 6, wordAt p 12⟩, key := eventKey p, bSide := !s.sideB }

/-- What a received event frame leaves. -/
def State.eventHeard (f : Nat) (p : List Nat) : State :=
  let s := (s.seqAccept 3 f).1
  if ¬ s.pairMember then s
  else
    let s := s.setPair { s.pair with partKey := eventKey p }
    (s.pairPush (s.partEvent p)).pevShow

theorem exec_eventFrame (t : Word) (f : Fin 256) (p : List Nat) :
    exec (.proexEventFrame t f p) s = .next (if (s.at t).receives then (s.at t).eventHeard f p else s.at t) := rfl

theorem State.seqAccept_work (k f : Nat) : (s.seqAccept k f).1.work = s.work :=
  (State.seqAccept_keeps s k f (Nat.and_self _) (.refl _ s)).same .work (by decide)

theorem State.eventHeard_single (f : Nat) (p : List Nat) (hm : s.pairMember = false) : (s.eventHeard f p).work = s.work
    ∧ (s.eventHeard f p).pair.fifo = s.pair.fifo ∧ (s.eventHeard f p).pair.partKey = s.pair.partKey := by
  obtain ⟨-, hpair, -, hweave, -⟩ := s.seqAccept_shows f 3
  have h : s.eventHeard f p = (s.seqAccept 3 f).1 := if_pos (by rw [State.pairMember_of_weave hweave, hm]; decide)
  rw [h, hpair]
  exact ⟨s.seqAccept_work 3 f, rfl, rfl⟩

/-- The state that meets the event of a frame. -/
def State.eventKeyed (f : Nat) (p : List Nat) : State :=
  (s.seqAccept 3 f).1.setPair { (s.seqAccept 3 f).1.pair with partKey := eventKey p }

theorem State.eventKeyed_shows (f : Nat) (p : List Nat) : Writes {Reg.PRX_CNT0_SEQGAP} s (s.eventKeyed f p)
    ∧ (s.eventKeyed f p).weave = s.weave
    ∧ (s.eventKeyed f p).pair = { s.pair with rxSeq := replaceNat s.pair.rxSeq 3 f, partKey := eventKey p } := by
  obtain ⟨hw, hpair, -, hweave, -⟩ := s.seqAccept_shows f 3
  refine ⟨hw.of_regs rfl, hweave, ?_⟩
  unfold State.eventKeyed
  rw [State.pair_setPair, hpair]

theorem State.eventHeard_member (f : Nat) (p : List Nat) (hm : s.pairMember = true) :
    s.eventHeard f p = ((s.eventKeyed f p).pairPush (s.partEvent p)).pevShow := by
  obtain ⟨hw, -, -, hweave, -⟩ := s.seqAccept_shows f 3
  have h : s.eventHeard f p = ((s.eventKeyed f p).pairPush ((s.eventKeyed f p).partEvent p)).pevShow :=
    if_neg (not_not_intro ((State.pairMember_of_weave hweave).trans hm))
  rw [h]
  have hside : (s.eventKeyed f p).sideB = s.sideB := (s.eventKeyed_shows f p).1.is (by rintro g rfl; simp [Fld.misses])
  unfold State.partEvent
  rw [hside]

end

/-! ### A record of the partner (R608) -/

section
variable (s : State)

/-- The words of a record frame in its slot: words 12 to 15 are 0. -/
def partRecordWords (p : List Nat) : List Word := (List.range 12).map (fun k => wordAt p (6 * k)) ++ [0, 0, 0, 0]

theorem partRecordWords_length (p : List Nat) : (partRecordWords p).length = 16 := rfl

theorem partRecordWords_getD (p : List Nat) : (∀ k < 12, (partRecordWords p).getD k 0 = wordAt p (6 * k)) ∧ ∀ k < 4, (partRecordWords p).getD (12 + k) 0 = 0 := by
  refine ⟨fun k hk => ?_, fun k hk => ?_⟩
  · rw [partRecordWords, List.getD_append _ _ _ _ (by simpa using hk), List.getD_eq_getElem _ _ (by simpa using hk)]
    simp
  · rw [partRecordWords, List.getD_append_right _ _ _ _ (by simp)]
    interval_cases k <;> rfl

theorem State.workGet_workWrite_of_ge (ws : List Word) (s : State) {a b : Nat} (h : a + ws.length ≤ b) :
    (s.workWrite a ws).workGet b = s.workGet b := by
  induction ws generalizing s a with
  | nil => rfl
  | cons w ws ih =>
    rw [List.length_cons] at h
    exact (ih (s.workSet a w) (by omega)).trans (s.workGet_workSet_ne w (by omega))

theorem State.recordFrame_eq (hr : s.receives = true) (f : Nat) (p : List Nat) :
    s.recordFrame f p = if s.pairMember = true ∧ s.checkOk = true ∧ payNat p 0 1 < 24 then
      (s.seqAccept 4 f).1.workWrite (0x1C00 + 16 * payNat p 0 1) (partRecordWords p) else (s.seqAccept 4 f).1 := by
  obtain ⟨hw, -, -, hweave, -⟩ := s.seqAccept_shows f 4
  have hm : (s.seqAccept 4 f).1.pairMember = s.pairMember := State.pairMember_of_weave hweave
  have hc : (s.seqAccept 4 f).1.checkOk = s.checkOk :=
    congrArg (fun v => decide (v = 0)) (hw Reg.PRX_STAT_CHECK (by rintro g rfl; simp [Fld.misses]))
  unfold State.recordFrame
  rw [if_pos hr, ← hm, ← hc]
  rfl

theorem State.workGet_seqAccept (k f a : Nat) : (s.seqAccept k f).1.workGet a = s.workGet a :=
  congrArg (Cells.get memDefault · a) (s.seqAccept_work k f)

theorem State.recordFrame_stored (hr : s.receives = true) (hm : s.pairMember = true) (hc : s.checkOk = true) (f : Nat) (p : List Nat)
    (hj : payNat p 0 1 < 24) :
    (∀ k < 12, (s.recordFrame f p).workGet (0x1C00 + 16 * payNat p 0 1 + k) = wordAt p (6 * k))
      ∧ (∀ k < 4, (s.recordFrame f p).workGet (0x1C00 + 16 * payNat p 0 1 + 12 + k) = 0)
      ∧ ∀ x, x < 0x1C00 + 16 * payNat p 0 1 ∨ 0x1C00 + 16 * payNat p 0 1 + 16 ≤ x → (s.recordFrame f p).workGet x = s.workGet x := by
  rw [s.recordFrame_eq hr, if_pos ⟨hm, hc, hj⟩]
  refine ⟨fun k hk => ?_, fun k hk => ?_, fun x hx => ?_⟩
  · rw [State.workGet_workWrite _ _ _ (by rw [partRecordWords_length]; omega), (partRecordWords_getD p).1 k hk]
  · rw [Nat.add_assoc, State.workGet_workWrite _ _ _ (by rw [partRecordWords_length]; omega), (partRecordWords_getD p).2 k hk]
  · rcases hx with hx | hx
    · exact (State.workGet_workWrite_of_lt _ _ hx).trans (s.workGet_seqAccept 4 f x)
    · exact (State.workGet_workWrite_of_ge _ _ (by rw [partRecordWords_length]; omega)).trans (s.workGet_seqAccept 4 f x)

theorem State.recordFrame_not_stored (hr : s.receives = true) (f : Nat) (p : List Nat)
    (h : ¬ (s.pairMember = true ∧ s.checkOk = true ∧ payNat p 0 1 < 24)) : (s.recordFrame f p).work = s.work
      ∧ (s.recordFrame f p).pair.fifo = s.pair.fifo ∧ (s.recordFrame f p).pair.partKey = s.pair.partKey := by
  obtain ⟨-, hpair, -, -, -⟩ := s.seqAccept_shows f 4
  rw [s.recordFrame_eq hr, if_neg h, hpair]
  exact ⟨s.seqAccept_work 4 f, rfl, rfl⟩

/-! ### Eight words of a series (R608, R611) -/

/-- The words of a frame in its area of `n` words at `a`. -/
def State.blockWords (s : State) (a n ofs : Nat) (p : List Nat) : State :=
  (List.range 8).foldl (fun s k => if ofs + k < n then s.workSet (a + ofs + k) (wordAt p (4 + 6 * k)) else s) s

theorem State.blockWords_other (a n ofs : Nat) (p : List Nat) {x : Nat} (h : ∀ k < 8, ofs + k < n → x ≠ a + ofs + k) :
    (s.blockWords a n ofs p).workGet x = s.workGet x := by
  refine foldl_keeps (I := fun y : State => y.workGet x = s.workGet x) (fun y k hk hy => ?_) rfl
  split
  · next hn => exact (y.workGet_workSet_ne _ (h k (List.mem_range.1 hk) hn)).trans hy
  · exact hy

theorem State.blockWords_stored (a n ofs : Nat) (p : List Nat) {k : Nat} (hk : k < 8) (hn : ofs + k < n) :
    (s.blockWords a n ofs p).workGet (a + ofs + k) = wordAt p (4 + 6 * k) := by
  refine foldl_sets (I := fun _ => True) (P := fun y : State => y.workGet (a + ofs + k) = wordAt p (4 + 6 * k)) (a := k)
    (fun _ _ _ _ => trivial) (fun y _ => ?_) (fun y b _ hb _ hy => ?_) trivial (.inl (List.mem_range.2 hk))
  · rw [if_pos hn]
    exact y.workGet_workSet _ _
  · split
    · exact (y.workGet_workSet_ne _ (by omega)).trans hy
    · exact hy

theorem State.blockWords_keeps (a n ofs : Nat) (p : List Nat) : Keeps (maskOf [.work]) s (s.blockWords a n ofs p) :=
  Keeps.foldl (fun y k h => by
    split
    exacts [State.workSet_keeps y _ _ (by decide) h, h]) _ _ (Keeps.refl _ s)

/-- What is left of a series once its words stand: its end, or where the next words go, and whether it is whole so far. -/
def State.blockEnd (s : State) (id ofs : Nat) (done whole : Bool) : State :=
  let s := if ofs = 0 ∨ ¬ whole then s.seriesOk id false else s
  let s := s.setPair { s.pair with series := if done then none else some (id, ofs + 8), whole }
  if done && whole then
    let s := s.seriesOk id true
    if id = 1 then s.signatureDiff else s
  else s

theorem State.seriesOk_keeps_work (id : Nat) (ok : Bool) : (s.seriesOk id ok).work = s.work :=
  (State.seriesOk_keeps s id ok (Nat.and_self _) (.refl _ s)).same .work (by decide)

theorem State.signatureDiff_keeps_work : s.signatureDiff.work = s.work :=
  (State.signatureDiff_keeps s (Nat.and_self _) (.refl _ s)).same .work (by decide)

theorem State.blockEnd_work (id ofs : Nat) (done whole : Bool) : (s.blockEnd id ofs done whole).work = s.work := by
  unfold State.blockEnd
  extract_lets s₁ _ s₂ s₃
  have h₁ : s₁.work = s.work := by unfold s₁; split; exacts [s.seriesOk_keeps_work id false, rfl]
  have h₃ : s₃.work = s.work := (s₂.seriesOk_keeps_work id true).trans h₁
  split
  · split
    · exact s₃.signatureDiff_keeps_work.trans h₃
    · exact h₃
  · exact h₁

theorem State.signatureDiff_writes : Writes {Reg.PRX_MIRST_SIGDIFF} s s.signatureDiff := by
  unfold State.signatureDiff
  split
  · exact .refl _ s
  · dsimp only
    split
    · exact ((Writes.refl {Reg.PRX_MIRST_SIGDIFF} s).set rfl _).report _ _ _ _ _
    · exact (Writes.refl {Reg.PRX_MIRST_SIGDIFF} s).set rfl _

/-- A series that ends whole: nothing more is expected, and its OK bit is set. -/
theorem State.blockEnd_whole (id ofs : Nat) : (s.blockEnd id ofs true true).pair.series = none
    ∧ (id = 1 → (s.blockEnd id ofs true true).get Reg.PRX_MIRST_SIG_OK = 1)
    ∧ (id = 2 → (s.blockEnd id ofs true true).get Reg.PRX_MIRST_FP_OK = 1) := by
  unfold State.blockEnd
  extract_lets s₁ _ s₂ s₃
  have hs : s₃.pair.series = none := congrArg Pair.series ((State.seriesOk_keeps s₂ id true (Nat.and_self _) (.refl _ s₂)).same .pair (by decide))
  rw [Bool.true_and, if_pos rfl]
  refine ⟨?_, fun hid => ?_, fun hid => ?_⟩
  · split
    · exact (congrArg Pair.series ((State.signatureDiff_keeps s₃ (Nat.and_self _) (.refl _ s₃)).same .pair (by decide))).trans hs
    · exact hs
  · rw [if_pos hid, s₃.signatureDiff_writes _ (by rintro g rfl; simp [Fld.misses])]
    unfold s₃ State.seriesOk
    rw [if_pos hid]
    exact s₂.get_flag _ true (by simp) (by simp)
  · rw [if_neg (by omega)]
    unfold s₃ State.seriesOk
    rw [if_neg (by omega), if_pos hid]
    exact s₂.get_flag _ true (by simp) (by simp)

theorem State.blockArea_seqAccept (k f id : Nat) : (s.seqAccept k f).1.blockArea id = s.blockArea id := by
  obtain ⟨hw, -, -, hweave, -⟩ := s.seqAccept_shows f k
  have hm : (s.seqAccept k f).1.primary = s.primary :=
    (State.seqAccept_keeps s k f (Nat.and_self _) (.refl _ s)).same .primary (by decide)
  have hp : ∀ n, (s.seqAccept k f).1.posn n = s.posn n := fun n => hw (Reg.WRP_CFG_POS n) (by rintro g rfl; exact .inl (by simp only []; omega))
  have hd : (s.seqAccept k f).1.get (Reg.WFT_CTRL_FIRE_DIV 0) = s.get (Reg.WFT_CTRL_FIRE_DIV 0) :=
    hw _ (by rintro g rfl; simp [Fld.misses])
  unfold State.blockArea State.phases State.ncyc
  rw [hm, hp, hd, hweave]

/-- Whether the words of a frame continue a series that is whole so far. -/
def State.blockWhole (s : State) (f : Nat) (p : List Nat) : Bool :=
  decide (payNat p 2 2 = 0) || (s.pair.whole && !(s.seqAccept 5 f).2 && decide (s.pair.series = some (payNat p 0 1, payNat p 2 2)))

/-- What an accepted frame of a series leaves; `gap` tells whether frames are missing before it. -/
def State.blockAccepted (s : State) (gap : Bool) (p : List Nat) : State :=
  if ¬ s.pairMember ∨ ¬ s.checkOk then s
  else
    let area := s.blockArea (payNat p 0 1)
    if area.2 = 0 then s
    else
      let s := s.blockWords area.1 area.2 (payNat p 2 2) p
      s.blockEnd (payNat p 0 1) (payNat p 2 2) (decide (area.2 ≤ payNat p 2 2 + 8))
        (decide (payNat p 2 2 = 0) || (s.pair.whole && !gap && decide (s.pair.series = some (payNat p 0 1, payNat p 2 2))))

theorem State.blockFrame_accepted (hr : s.receives = true) (f : Nat) (p : List Nat) :
    s.blockFrame f p = (s.seqAccept 5 f).1.blockAccepted (s.seqAccept 5 f).2 p := by
  unfold State.blockFrame
  rw [if_pos hr]
  rfl

theorem State.blockAccepted_eq (gap : Bool) (p : List Nat) :
    s.blockAccepted gap p = if s.pairMember = true ∧ s.checkOk = true ∧ (s.blockArea (payNat p 0 1)).2 ≠ 0 then
      (s.blockWords (s.blockArea (payNat p 0 1)).1 (s.blockArea (payNat p 0 1)).2 (payNat p 2 2) p).blockEnd (payNat p 0 1)
        (payNat p 2 2) (decide ((s.blockArea (payNat p 0 1)).2 ≤ payNat p 2 2 + 8))
        (decide (payNat p 2 2 = 0) || (s.pair.whole && !gap && decide (s.pair.series = some (payNat p 0 1, payNat p 2 2))))
    else s := by
  unfold State.blockAccepted
  dsimp only
  rw [(s.blockWords_keeps _ _ _ p).same .pair (by decide)]
  by_cases h : s.pairMember = true ∧ s.checkOk = true
  · rw [if_neg fun hn => hn.elim (fun hn => hn h.1) fun hn => hn h.2]
    by_cases h0 : (s.blockArea (payNat p 0 1)).2 = 0
    · rw [if_pos h0, if_neg fun hn => hn.2.2 h0]
    · rw [if_neg h0, if_pos ⟨h.1, h.2, h0⟩]
  · rw [if_pos (not_and_or.1 h), if_neg fun hn => h ⟨hn.1, hn.2.1⟩]

theorem State.blockFrame_eq (hr : s.receives = true) (f : Nat) (p : List Nat) :
    s.blockFrame f p = if s.pairMember = true ∧ s.checkOk = true ∧ (s.blockArea (payNat p 0 1)).2 ≠ 0 then
      ((s.seqAccept 5 f).1.blockWords (s.blockArea (payNat p 0 1)).1 (s.blockArea (payNat p 0 1)).2 (payNat p 2 2) p).blockEnd (payNat p 0 1)
        (payNat p 2 2) (decide ((s.blockArea (payNat p 0 1)).2 ≤ payNat p 2 2 + 8)) (s.blockWhole f p)
    else (s.seqAccept 5 f).1 := by
  obtain ⟨hw, hpair, -, hweave, -⟩ := s.seqAccept_shows f 5
  have hc : (s.seqAccept 5 f).1.checkOk = s.checkOk :=
    congrArg (fun v => decide (v = 0)) (hw Reg.PRX_STAT_CHECK (by rintro g rfl; simp [Fld.misses]))
  rw [s.blockFrame_accepted hr, State.blockAccepted_eq, State.pairMember_of_weave hweave, hc, s.blockArea_seqAccept, hpair]
  rfl

theorem State.blockFrame_not_stored (hr : s.receives = true) (f : Nat) (p : List Nat) (h : ¬ (s.pairMember = true ∧ s.checkOk = true)) :
    (s.blockFrame f p).work = s.work ∧ (s.blockFrame f p).pair.fifo = s.pair.fifo ∧ (s.blockFrame f p).pair.partKey = s.pair.partKey := by
  obtain ⟨-, hpair, -, -, -⟩ := s.seqAccept_shows f 5
  rw [s.blockFrame_eq hr, if_neg fun h' => h ⟨h'.1, h'.2.1⟩, hpair]
  exact ⟨s.seqAccept_work 5 f, rfl, rfl⟩

section
variable (hr : s.receives = true) (hm : s.pairMember = true) (hc : s.checkOk = true) (f : Nat) (p : List Nat)
include hr hm hc

theorem State.blockFrame_stored :
    (∀ k < 8, payNat p 2 2 + k < (s.blockArea (payNat p 0 1)).2 →
      (s.blockFrame f p).workGet ((s.blockArea (payNat p 0 1)).1 + payNat p 2 2 + k) = wordAt p (4 + 6 * k))
    ∧ ∀ x, (∀ k < 8, payNat p 2 2 + k < (s.blockArea (payNat p 0 1)).2 → x ≠ (s.blockArea (payNat p 0 1)).1 + payNat p 2 2 + k) →
      (s.blockFrame f p).workGet x = s.workGet x := by
  rw [s.blockFrame_eq hr]
  split
  · have hwork := State.blockEnd_work ((s.seqAccept 5 f).1.blockWords (s.blockArea (payNat p 0 1)).1 (s.blockArea (payNat p 0 1)).2 (payNat p 2 2) p)
      (payNat p 0 1) (payNat p 2 2) (decide ((s.blockArea (payNat p 0 1)).2 ≤ payNat p 2 2 + 8)) (s.blockWhole f p)
    have hget := fun x => congrArg (Cells.get memDefault · x) hwork
    exact ⟨fun k hk hn => (hget _).trans (State.blockWords_stored _ _ _ _ p hk hn),
      fun x hx => ((hget x).trans (State.blockWords_other _ _ _ _ p hx)).trans (s.workGet_seqAccept 5 f x)⟩
  · next h =>
    have h0 : (s.blockArea (payNat p 0 1)).2 = 0 := not_not.1 fun h0 => h ⟨hm, hc, h0⟩
    rw [h0]
    exact ⟨fun k _ hn => absurd hn (by omega), fun x _ => s.workGet_seqAccept 5 f x⟩

theorem State.blockFrame_whole (h0 : (s.blockArea (payNat p 0 1)).2 ≠ 0) (hd : (s.blockArea (payNat p 0 1)).2 ≤ payNat p 2 2 + 8)
    (hw : payNat p 2 2 = 0 ∨ (s.pair.whole = true ∧ (s.seqAccept 5 f).2 = false ∧ s.pair.series = some (payNat p 0 1, payNat p 2 2))) :
    (s.blockFrame f p).pair.series = none ∧ (payNat p 0 1 = 1 → (s.blockFrame f p).get Reg.PRX_MIRST_SIG_OK = 1)
      ∧ (payNat p 0 1 = 2 → (s.blockFrame f p).get Reg.PRX_MIRST_FP_OK = 1) := by
  have hwhole : s.blockWhole f p = true := by
    unfold State.blockWhole
    rcases hw with hw | ⟨hw, hgap, hs⟩
    · rw [decide_eq_true hw, Bool.true_or]
    · rw [hw, hgap, decide_eq_true hs]
      exact Bool.or_true _
  rw [s.blockFrame_eq hr, if_pos ⟨hm, hc, h0⟩, hwhole, decide_eq_true hd]
  exact State.blockEnd_whole _ _ _

end

end

/-! ### The transmitter (R597, R602) -/

section
variable (s : State)

theorem lookupNat_replaceNat (l : List (Nat × Nat)) (k v : Nat) : lookupNat (replaceNat l k v) k = some v := by
  unfold lookupNat replaceNat
  rw [List.find?_cons_of_pos (by simp)]
  rfl

/-- A frame counted as sent moves the FSEQ of its TYPE on. -/
theorem State.countFrame_shows (k : Nat) : (s.countFrame k).nextFseq k = (s.nextFseq k + 1) % 256 ∧ (s.countFrame k).regs = s.regs
    ∧ (s.countFrame k).pair = { s.pair with txSeq := replaceNat s.pair.txSeq k ((s.nextFseq k + 1) % 256) } := by
  refine ⟨?_, rfl, rfl⟩
  unfold State.countFrame State.nextFseq
  rw [State.pair_setPair, lookupNat_replaceNat]
  rfl

/-- A normal frame that starts on the link now, with `q` left in the queue. -/
def Started (s : State) (f : ProexFrame) (q : List ProexFrame) (s' : State) : Prop :=
  s'.pair.sentNormal = frameChars f (s.nextFseq f.type) ∧ s'.pair.busyTo = some (addW s.now (64 * (frameChars f (s.nextFseq f.type)).length))
    ∧ s'.pair.queue = q ∧ s'.nextFseq f.type = (s.nextFseq f.type + 1) % 256 ∧ s'.regs = s.regs

theorem State.startNormal_shows (f : ProexFrame) : Started s f s.pair.queue (s.startNormal f)
    ∧ (s.startNormal f).pair.beatDue = s.pair.beatDue ∧ (s.startNormal f).pair.sent = s.pair.sent := by
  unfold State.startNormal
  extract_lets cs
  obtain ⟨hf, hr, hp⟩ := (s.setPair { s.pair with sentNormal := cs, busyTo := some (addW s.now (64 * cs.length)) }).countFrame_shows f.type
  rw [State.pair_setPair] at hp
  refine ⟨⟨by rw [hp], by rw [hp], by rw [hp], hf, hr⟩, by rw [hp], by rw [hp]⟩

theorem Started.of_queue {q : List ProexFrame} {f : ProexFrame} {s' : State} (h : Started (s.setPair { s.pair with queue := q }) f q s') :
    Started s f q s' := h

/-- The characters of a TOOTH frame that starts now. -/
def State.toothChars (s : State) (f : ProexFrame) : List Nat := frameChars f (s.nextFseq 1)

theorem State.startUrgent_shows (f : ProexFrame) : (s.startUrgent f).pair.teeth = s.pair.teeth ∧ (s.startUrgent f).pair.sentTooth = s.toothChars f
    ∧ (s.startUrgent f).nextFseq 1 = (s.nextFseq 1 + 1) % 256
    ∧ (s.startUrgent f).pair.busyTo = (if s.normalRuns then s.pair.busyTo.map (fun b => addW b (64 * (s.toothChars f).length)) else s.pair.busyTo)
    ∧ (s.startUrgent f).pair.toothTo = some (addW s.now
      ((if s.normalRuns then (s.pair.busyTo.map (fun b => elapsed s.now b % 64)).getD 0 else 0) + 64 * (s.toothChars f).length)) := by
  unfold State.startUrgent
  extract_lets cs n wait busyTo
  obtain ⟨hf, -, hp⟩ := (s.setPair { s.pair with sentTooth := cs, toothTo := some (addW s.now (wait + n)), busyTo }).countFrame_shows 1
  rw [State.pair_setPair] at hp
  exact ⟨by rw [hp], by rw [hp]; rfl, hf, by rw [hp]; rfl, by rw [hp]; rfl⟩

theorem State.takeFrame_some {k : Nat} {f : ProexFrame} (h : s.pair.queue.find? (fun f => decide (f.type = k)) = some f) :
    s.takeFrame k = some (f, s.setPair { s.pair with queue := s.pair.queue.erase f }) := by
  unfold State.takeFrame
  rw [h]

theorem State.takeFrame_none {k : Nat} (h : s.pair.queue.find? (fun f => decide (f.type = k)) = none) : s.takeFrame k = none := by
  unfold State.takeFrame
  rw [h]

/-- What a free transmitter with no TOOTH frame does. -/
def State.sendNormal (s : State) (t : Word) : State :=
  if s.pair.beatDue then
    let s := s.setPair { s.pair with beatDue := false, sent := (t :: s.pair.sent).take 4 }
    s.startNormal { type := 2, payload := s.beatPayload }
  else match s.takeFrame 3, s.takeFrame 4, s.takeFrame 5 with
    | some (f, s), _, _ => s.startNormal f
    | none, some (f, s), _ => s.startNormal f
    | none, none, some (f, s) => s.startNormal f
    | none, none, none => s

theorem exec_frameSend_off {t : Word} (h : s.proexTx = false) : exec (.proexFrameSend t) s = .next (s.at t) :=
  congrArg Host.Outcome.next (if_pos (show ¬ s.proexTx = true by rw [h]; decide))

theorem exec_frameSend_tooth {t : Word} (h : s.proexTx = true) {f : ProexFrame} {l : List ProexFrame} (hq : s.pair.teeth = f :: l) :
    exec (.proexFrameSend t) s = .next (if (s.at t).urgentRuns then s.at t else ((s.at t).setPair { (s.at t).pair with teeth := l }).startUrgent f) := by
  refine congrArg Host.Outcome.next ((if_neg (not_not_intro h)).trans ?_)
  dsimp only
  rw [show (s.at t).pair.teeth = f :: l from hq]

theorem exec_frameSend_normal {t : Word} (h : s.proexTx = true) (hq : s.pair.teeth = []) :
    exec (.proexFrameSend t) s = .next (if (s.at t).linkFree = true then (s.at t).sendNormal t else s.at t) := by
  refine congrArg Host.Outcome.next ((if_neg (not_not_intro h)).trans ?_)
  split
  · next hc => exact absurd (hq.symm.trans hc) (by simp)
  · by_cases hl : (s.at t).linkFree = true
    · rw [if_neg (not_not_intro hl), if_pos hl]
      rfl
    · rw [if_pos hl, if_neg hl]

theorem State.sendNormal_beat (t : Word) (h : s.pair.beatDue = true) : Started s { type := 2, payload := s.beatPayload } s.pair.queue (s.sendNormal t)
    ∧ (s.sendNormal t).pair.beatDue = false ∧ (s.sendNormal t).pair.sent = (t :: s.pair.sent).take 4 := by
  unfold State.sendNormal
  rw [if_pos h]
  extract_lets _ s₁
  obtain ⟨hst, hb, hs⟩ := s₁.startNormal_shows { type := 2, payload := s₁.beatPayload }
  exact ⟨hst, hb, hs⟩

theorem State.sendNormal_queue (t : Word) (h : s.pair.beatDue = false) {f : ProexFrame}
    (hf : s.takeFrame 3 = some (f, s.setPair { s.pair with queue := s.pair.queue.erase f })
      ∨ (s.takeFrame 3 = none ∧ s.takeFrame 4 = some (f, s.setPair { s.pair with queue := s.pair.queue.erase f }))
      ∨ (s.takeFrame 3 = none ∧ s.takeFrame 4 = none ∧ s.takeFrame 5 = some (f, s.setPair { s.pair with queue := s.pair.queue.erase f }))) :
    Started s f (s.pair.queue.erase f) (s.sendNormal t) := by
  have hsent : s.sendNormal t = (s.setPair { s.pair with queue := s.pair.queue.erase f }).startNormal f := by
    unfold State.sendNormal
    rw [if_neg (by rw [h]; decide)]
    rcases hf with h₃ | ⟨h₃, h₄⟩ | ⟨h₃, h₄, h₅⟩
    · rw [h₃]
    · rw [h₃, h₄]
    · rw [h₃, h₄, h₅]
  rw [hsent]
  exact ((s.setPair { s.pair with queue := s.pair.queue.erase f }).startNormal_shows f).1.of_queue

theorem State.beatNow_iff (t : Word) :
    (s.at t).beatNow = true ↔ s.proexTx = true ∧ notBefore t s.pair.dueAt = true ∧ elapsed s.pair.dueAt t % (100 * us) = 0 := by
  unfold State.beatNow
  rw [Bool.and_eq_true_iff, Bool.and_eq_true_iff, decide_eq_true_iff, and_assoc]
  rfl

/-! ### A series that falls due (R611) -/

theorem State.proexTx_setPair (k : Pair) : (s.setPair k).proexTx = s.proexTx := rfl

theorem State.proexQueue_pair (h : s.proexTx = true) (k : Nat) (p : List Nat) :
    s.proexQueue k p = s.setPair { s.pair with queue := s.pair.queue ++ [{ type := k, payload := p }] } := if_pos h

/-- Frames queued one after the other. -/
theorem State.queue_foldl (k : Nat) (payload : Nat → List Nat) (l : List Nat) (s : State) (h : s.proexTx = true) :
    l.foldl (fun s i => s.proexQueue k (payload i)) s
      = s.setPair { s.pair with queue := s.pair.queue ++ l.map (fun i => { type := k, payload := payload i }) } := by
  induction l generalizing s with
  | nil => exact (congrArg s.setPair (congrArg (fun q => { s.pair with queue := q }) (List.append_nil _))).symm
  | cons i l ih =>
    rw [List.foldl_cons, s.proexQueue_pair h, ih _ ((s.proexTx_setPair _).trans h), List.map_cons]
    refine congrArg (fun q => s.setPair { s.pair with queue := q }) ?_
    exact List.append_assoc _ [_] _

/-- The pair's state once series `n` is no longer asked for. -/
def Pair.asked (k : Pair) (n : Nat) (t : Word) : Pair :=
  { k with
    blockDue := k.blockDue.filter (fun i => decide (i ≠ n))
    sigAt := if n = 1 then t else k.sigAt
    fpAt := if n = 2 then t else k.fpAt }

/-- The frames of series `n`. -/
def State.seriesFrames (s : State) (n : Nat) : List ProexFrame :=
  (List.range (((s.seriesWords n).length + 7) / 8)).map (fun k =>
    { type := 5, payload := [n, 0] ++ beBytes 2 (8 * k) ++ wordBytes ((List.range 8).map (fun i => (s.seriesWords n).getD (8 * k + i) 0)) })

theorem State.queueSeries_eq (h : s.proexTx = true) (n : Nat) :
    s.queueSeries n = s.setPair { s.pair with queue := s.pair.queue ++ s.seriesFrames n } :=
  State.queue_foldl 5 (fun k => [n, 0] ++ beBytes 2 (8 * k) ++ wordBytes ((List.range 8).map (fun i => (s.seriesWords n).getD (8 * k + i) 0)))
    _ s h

theorem State.seriesFrames_asked (n : Nat) (t : Word) : ((s.at t).setPair (s.pair.asked n t)).seriesFrames n = s.seriesFrames n := rfl

/-- Series `n` is asked for, or its period has passed. -/
def State.seriesDue (s : State) (n : Nat) (t : Word) : Prop := s.pair.blockDue.contains n = true
  ∨ (n = 1 ∧ 10000 * ms ≤ elapsed s.pair.sigAt t) ∨ (n = 2 ∧ s.is (Reg.WFT_CLST_FP_VALID 0) = true ∧ 1000 * ms ≤ elapsed s.pair.fpAt t)

theorem exec_seriesDue {t : Word} {id : Fin 4} (htx : s.proexTx = true) (h : s.seriesDue (id + 1) t) :
    exec (.blockSeriesDue t id) s = .next (((s.at t).setPair (s.pair.asked (id + 1) t)).queueSeries (id + 1)) :=
  congrArg Host.Outcome.next (if_pos ⟨htx, h⟩)

theorem exec_series_idle {t : Word} {id : Fin 4} (h : ¬ (s.proexTx = true ∧ s.seriesDue (id + 1) t)) :
    exec (.blockSeriesDue t id) s = .next (s.at t) := congrArg Host.Outcome.next (if_neg h)

end

/-! ### Settling O60 -/

section
variable {t : Word} {f : Fin 256} {p : List Nat} {s : State}

theorem exec_recordFrame (he : s.early (.proexRecordFrame t f p) = false) :
    exec (.proexRecordFrame t f p) s = .next ((s.at t).recordArrives f p) :=
  congrArg _ (if_neg (by rw [show (s.at t).early (.proexRecordFrame t f p) = _ from he]; decide))

theorem exec_blockFrame (he : s.early (.proexBlockFrame t f p) = false) :
    exec (.proexBlockFrame t f p) s = .next ((s.at t).blockArrives f p) :=
  congrArg _ (if_neg (by rw [show (s.at t).early (.proexBlockFrame t f p) = _ from he]; decide))

theorem exec_recordFrame_up (he : s.early (.proexRecordFrame t f p) = false) (hr : s.receives = true) :
    exec (.proexRecordFrame t f p) s = .next (((s.at t).memTurn .proex).recordFrame f p) :=
  (exec_recordFrame he).trans (congrArg (fun x : State => Host.Outcome.next (x.recordFrame f p)) (if_pos hr))

theorem exec_blockFrame_up (he : s.early (.proexBlockFrame t f p) = false) (hr : s.receives = true) :
    exec (.proexBlockFrame t f p) s = .next (((s.at t).memTurn .proex).blockFrame f p) :=
  (exec_blockFrame he).trans (congrArg (fun x : State => Host.Outcome.next (x.blockFrame f p)) (if_pos hr))

theorem State.recordArrives_down (h : s.receives = false) : s.recordArrives f p = s := by
  unfold State.recordArrives State.recordFrame
  rw [if_neg (c := s.receives = true) (by rw [h]; decide), if_neg (by rw [h]; decide)]

theorem State.blockArrives_down (h : s.receives = false) : s.blockArrives f p = s := by
  unfold State.blockArrives State.blockFrame
  rw [if_neg (c := s.receives = true) (by rw [h]; decide), if_neg (by rw [h]; decide)]

theorem exec_eventFrame_up (hr : s.receives = true) : exec (.proexEventFrame t f p) s = .next ((s.at t).eventHeard f p) :=
  (exec_eventFrame s t f p).trans (congrArg _ (if_pos hr))

/-- An event of the partner at a pair member with room in its FIFO, and with none. -/
theorem eventFrame_member (hm : s.pairMember = true) (htile : s.hasTile 0x10 0 = true) (hen : s.is Reg.PRX_CTRL_PEV_EN = true) :
    (s.pair.fifo.length < 128 → (s.eventHeard f p).pair.partKey = eventKey p ∧ Placed s (s.partEvent p) (s.eventHeard f p).pair.fifo)
    ∧ (128 ≤ s.pair.fifo.length → (s.eventHeard f p).pair.fifo = s.pair.fifo ∧ (s.eventHeard f p).get Reg.PRX_PEVSTAT_OVF = 1
      ∧ (s.eventHeard f p).get Reg.PRX_PEVSTAT_LOST = min (s.get Reg.PRX_PEVSTAT_LOST + 1) Reg.PRX_PEVSTAT_LOST.max) := by
  obtain ⟨hw, hweave, hpair⟩ := s.eventKeyed_shows f p
  rw [s.eventHeard_member f p hm, State.pevShow_pair]
  have htile' : (s.eventKeyed f p).hasTile 0x10 0 = true := (State.hasTile_congr (congrArg Weave.tiles hweave) _ _).trans htile
  have hen' : (s.eventKeyed f p).is Reg.PRX_CTRL_PEV_EN = true := (hw.is (by rintro g rfl; simp [Fld.misses])).trans hen
  refine ⟨fun hlen => ?_, fun hlen => ?_⟩
  · obtain ⟨q, hq, hplace⟩ := State.pairPush_placed _ (s.partEvent p) htile' hen' (by rw [hpair]; exact hlen)
    rw [hq, hpair]
    unfold Placed at hplace
    rw [hpair] at hplace
    exact ⟨rfl, hplace⟩
  · obtain ⟨hp, hovf, hlost⟩ := State.pairPush_lost _ (s.partEvent p) htile' hen' (by rw [hpair]; exact hlen)
    rw [hp, hpair, State.get_pevShow _ (by simp [Fld.misses]), State.get_pevShow _ (by simp [Fld.misses])]
    exact ⟨rfl, hovf, hlost.trans (by rw [hw _ (by rintro g rfl; simp [Fld.misses])])⟩

/-- A TOOTH frame on a free link, and one that suspends a normal frame. -/
theorem State.tooth_sent (q : ProexFrame) (l : List ProexFrame) :
    (s.linkFree = true → ((s.setPair { s.pair with teeth := l }).startUrgent q).pair.busyTo = s.pair.busyTo
      ∧ ((s.setPair { s.pair with teeth := l }).startUrgent q).pair.toothTo = some (addW s.now (64 * (s.toothChars q).length)))
    ∧ ∀ b, s.urgentRuns = false → s.linkFree = false → s.pair.busyTo = some b →
      ((s.setPair { s.pair with teeth := l }).startUrgent q).pair.busyTo = some (addW b (64 * (s.toothChars q).length))
      ∧ ((s.setPair { s.pair with teeth := l }).startUrgent q).pair.toothTo
        = some (addW s.now (elapsed s.now b % 64 + 64 * (s.toothChars q).length)) := by
  obtain ⟨-, -, -, hb, ht⟩ := (s.setPair { s.pair with teeth := l }).startUrgent_shows q
  rw [hb, ht]
  have hn : (s.setPair { s.pair with teeth := l }).normalRuns = s.normalRuns := rfl
  rw [hn]
  refine ⟨fun hfree => ?_, fun b hu hfree hbusy => ?_⟩
  · have hnr : s.normalRuns = false := by
      unfold State.linkFree at hfree
      simpa using (Bool.and_eq_true_iff.1 hfree).2
    rw [if_neg (by rw [hnr]; decide), if_neg (by rw [hnr]; decide), Nat.zero_add]
    exact ⟨rfl, rfl⟩
  · have hnr : s.normalRuns = true := by
      unfold State.linkFree at hfree
      rw [hu] at hfree
      simpa using hfree
    rw [if_pos hnr, if_pos hnr, State.pair_setPair]
    dsimp only
    rw [hbusy]
    exact ⟨rfl, rfl⟩

end

/-- What the transmitter sends, and in which order (R597, R602). -/
theorem frameSend (t : Word) (s : State) (htx : s.proexTx = true) :
    let free := (s.at t).linkFree
    let starts := fun (f : ProexFrame) (q : List ProexFrame) (s' : State) =>
      let cs := frameChars f (s.nextFseq f.type)
      s'.pair.sentNormal = cs ∧ s'.pair.busyTo = some (addW t (64 * cs.length)) ∧ s'.pair.queue = q
        ∧ s'.nextFseq f.type = (s.nextFseq f.type + 1) % 256 ∧ s'.regs = s.regs
    let first := fun (n : Nat) => s.pair.queue.find? (fun f => decide (f.type = n))
    (∀ f l, s.pair.teeth = f :: l → (s.at t).urgentRuns = true → Idles (.proexFrameSend t) s t)
    ∧ (∀ f l, s.pair.teeth = f :: l → (s.at t).urgentRuns = false →
      let cs := frameChars f (s.nextFseq 1)
      let sent := fun (s' : State) => s'.pair.teeth = l ∧ s'.pair.sentTooth = cs ∧ s'.nextFseq 1 = (s.nextFseq 1 + 1) % 256
      (free = true → Does (.proexFrameSend t) s (fun s' => sent s' ∧ s'.pair.busyTo = s.pair.busyTo
          ∧ s'.pair.toothTo = some (addW t (64 * cs.length))))
        ∧ (∀ b, free = false → s.pair.busyTo = some b → Does (.proexFrameSend t) s (fun s' => sent s'
          ∧ s'.pair.busyTo = some (addW b (64 * cs.length))
          ∧ s'.pair.toothTo = some (addW t (elapsed t b % 64 + 64 * cs.length)))))
    ∧ (s.pair.teeth = [] → free = true →
      (s.pair.beatDue = true → Does (.proexFrameSend t) s (fun s' =>
          starts { type := 2, payload := (s.at t).beatPayload } s.pair.queue s' ∧ s'.pair.beatDue = false
            ∧ s'.pair.sent = (t :: s.pair.sent).take 4))
        ∧ (s.pair.beatDue = false →
          (∀ f, first 3 = some f → Does (.proexFrameSend t) s (starts f (s.pair.queue.erase f)))
            ∧ (∀ f, first 3 = none → first 4 = some f → Does (.proexFrameSend t) s (starts f (s.pair.queue.erase f)))
            ∧ (∀ f, first 3 = none → first 4 = none → first 5 = some f →
              Does (.proexFrameSend t) s (starts f (s.pair.queue.erase f)))))
    ∧ (s.pair.teeth = [] → free = false → Idles (.proexFrameSend t) s t) := by
  intro free starts first
  refine ⟨fun f l hq hu => (exec_frameSend_tooth s htx hq).trans (congrArg _ (if_pos hu)), fun f l hq hu => ?_, fun hq hfree => ?_,
    fun hq hfree => (exec_frameSend_normal s htx hq).trans (congrArg _ (if_neg (by rw [show (s.at t).linkFree = false from hfree]; decide)))⟩
  · have hx := (exec_frameSend_tooth s htx hq (t := t)).trans (congrArg _ (if_neg (by rw [hu]; decide)))
    obtain ⟨hteeth, hsent, hf, -, -⟩ := ((s.at t).setPair { (s.at t).pair with teeth := l }).startUrgent_shows f
    obtain ⟨hfree, hbusy⟩ := (s.at t).tooth_sent f l
    exact ⟨fun h => ⟨_, hx, ⟨hteeth, hsent, hf⟩, hfree h⟩, fun b h hb => ⟨_, hx, ⟨hteeth, hsent, hf⟩, hbusy b hu h hb⟩⟩
  · have hx := (exec_frameSend_normal s htx hq (t := t)).trans (congrArg _ (if_pos hfree))
    refine ⟨fun hb => ⟨_, hx, (s.at t).sendNormal_beat t hb⟩, fun hb => ?_⟩
    have take : ∀ {k}, first k = none → (s.at t).takeFrame k = none := (s.at t).takeFrame_none
    exact ⟨fun f h₃ => ⟨_, hx, (s.at t).sendNormal_queue t hb (.inl ((s.at t).takeFrame_some h₃))⟩,
      fun f h₃ h₄ => ⟨_, hx, (s.at t).sendNormal_queue t hb (.inr (.inl ⟨take h₃, (s.at t).takeFrame_some h₄⟩))⟩,
      fun f h₃ h₄ h₅ => ⟨_, hx, (s.at t).sendNormal_queue t hb (.inr (.inr ⟨take h₃, take h₄, (s.at t).takeFrame_some h₅⟩))⟩⟩

/-- Settles O60. -/
theorem proexFramesAndTransmission : Obligations.ProexFramesAndTransmission := by
  unfold Obligations.ProexFramesAndTransmission
  refine ⟨fun t f p s => ?_, fun t s => ?_⟩
  · intro u fromU before read
    refine ⟨fun hp hb => State.memTurn_free (s := s.at t) hp hb .proex, fun hr => ?_, fun hr hm => ?_, fun hr hu hm => ?_, fun hr hm => ?_, fun hr hu hm => ?_⟩
    · exact ⟨(exec_eventFrame s t f p).trans (congrArg _ (if_neg (by rw [show (s.at t).receives = false from hr]; decide))),
        fun he => (exec_recordFrame he).trans (congrArg _ (State.recordArrives_down hr)),
        fun he => (exec_blockFrame he).trans (congrArg _ (State.blockArrives_down hr))⟩
    · exact ⟨_, exec_eventFrame_up hr, (s.at t).eventHeard_single f p hm⟩
    · have hn : ¬ u.pairMember = true := by rw [hm]; decide
      exact ⟨fun he => ⟨_, exec_recordFrame_up he hr, u.recordFrame_not_stored hu f p fun h => hn h.1⟩,
        fun he => ⟨_, exec_blockFrame_up he hr, u.blockFrame_not_stored hu f p fun h => hn h.1⟩⟩
    · intro key e htile hen
      obtain ⟨hroom, hfull⟩ := eventFrame_member (s := s.at t) (f := f) (p := p) hm htile hen
      exact ⟨fun h => ⟨_, exec_eventFrame_up hr, hroom h⟩, fun h => ⟨_, exec_eventFrame_up hr, hfull h⟩⟩
    · refine ⟨fun he => ⟨fun hc hj => ⟨_, exec_recordFrame_up he hr, u.recordFrame_stored hu hm hc f p hj⟩,
        fun h => ⟨_, exec_recordFrame_up he hr, (u.recordFrame_not_stored hu f p ?_).1⟩⟩,
        fun he => ⟨fun hc => ⟨_, exec_blockFrame_up he hr, u.blockFrame_stored hu hm hc f p⟩,
          fun hc h0 hd hw => ⟨_, exec_blockFrame_up he hr, u.blockFrame_whole hu hm hc f p h0 hd hw⟩,
          fun hc => ⟨_, exec_blockFrame_up he hr, (u.blockFrame_not_stored hu f p fun h => absurd (hc.symm.trans h.2) (by decide)).1⟩⟩⟩
      rintro ⟨-, hc, hj⟩
      rcases h with h | h
      · exact absurd (h.symm.trans hc) (by decide)
      · exact absurd hj (by omega)
  · intro free starts first due
    refine ⟨fun htx hd => ⟨_, congrArg Host.Outcome.next (if_pos ((State.beatNow_iff s t).2 ⟨htx, hd⟩)), rfl, rfl⟩,
      fun h => congrArg Host.Outcome.next (if_neg fun hn => ?_), frameSend t s, exec_frameSend_off s, fun id => ?_⟩
    · obtain ⟨htx, hd⟩ := (State.beatNow_iff s t).1 hn
      exact h.elim (fun h => absurd (h.symm.trans htx) (by decide)) fun h => h hd
    · intro n asked ws payload block timed
      refine ⟨fun htx hd => ?_, fun h => exec_series_idle s fun ⟨htx, hd⟩ => ?_⟩
      · refine ⟨_, exec_seriesDue s htx hd, ?_⟩
        rw [State.queueSeries_eq ((s.at t).setPair (s.pair.asked (id + 1) t)) htx, s.seriesFrames_asked]
        exact ⟨fun hmem => absurd (List.of_mem_filter hmem) (by simp [n]), congrArg _ (List.map_congr_left fun k _ => rfl)⟩
      · rcases h with h | ⟨ha, ht⟩
        · exact absurd (h.symm.trans htx) (by decide)
        · exact hd.elim (fun hd => absurd (ha.symm.trans hd) (by decide)) ht

end Sys2Proof.Machine
end

section
/-! PROOF. Strandline: commits and their records (O56). -/
namespace Sys2Proof.Machine

/-! ### The accumulators -/

theorem accKey_ne {a b w a' b' w' : Nat} (hb : b < 16) (hb' : b' < 16) (hw : w < 1024) (hw' : w' < 1024) (h : (a, b, w) ≠ (a', b', w')) :
    accKey a b w ≠ accKey a' b' w' := by
  intro hk
  unfold accKey at hk
  exact h (by rw [Prod.mk.injEq, Prod.mk.injEq]; omega)

section
variable (s : State)

theorem State.accGet_accSet (a b w : Nat) (v : Word) : (s.accSet a b w v).accGet a b w = v := Cells.get_set_same _ _ _ _

theorem State.accGet_accSet_ne {a b w a' b' w' : Nat} (h : accKey a b w ≠ accKey a' b' w') (v : Word) :
    (s.accSet a' b' w' v).accGet a b w = s.accGet a b w := Cells.get_set_ne _ _ _ h

theorem State.accGet_accAdd (a b w n : Nat) : (s.accAdd a b w n).accGet a b w = BitVec.ofNat 48 (min ((s.accGet a b w).toNat + n) (W48 - 1)) :=
  s.accGet_accSet a b w _

theorem State.accGet_accAdd_ne {a b w a' b' w' : Nat} (h : accKey a b w ≠ accKey a' b' w') (n : Nat) :
    (s.accAdd a' b' w' n).accGet a b w = s.accGet a b w := s.accGet_accSet_ne h _

theorem State.accGet_counter {w : Nat} (h : s.strandTakes = true) :
    (s.counter w).accGet 1 0 w = BitVec.ofNat 48 (min ((s.accGet 1 0 w).toNat + 1) (W48 - 1)) := by
  unfold State.counter
  rw [if_pos h]
  exact s.accGet_accAdd 1 0 w 1

end

/-! ### Commits are asked for (R584, R585) -/

section
variable (s : State)

theorem State.requestCommit_idle (h : s.is Reg.REC_STAT_BUSY = false) :
    s.requestCommit = { s with strand := { s.strand with want := true } } :=
  if_neg fun hb => absurd (h.symm.trans hb) (by decide)

theorem State.requestCommit_busy (h : s.is Reg.REC_STAT_BUSY = true) :
    s.requestCommit = ({ s with strand := { s.strand with want := true } } : State).set Reg.REC_STAT_PENDING 1 := if_pos h

theorem State.strand_set (f : Fld) (v : Nat) : (s.set f v).strand = s.strand := rfl

theorem State.requestCommit_strand : s.requestCommit.strand = { s.strand with want := true } := by
  by_cases h : s.is Reg.REC_STAT_BUSY = true
  · rw [s.requestCommit_busy h, State.strand_set]
  · rw [s.requestCommit_idle (Bool.eq_false_iff.2 h)]

theorem exec_strandlineCommit {t : Word} (h : s.strandOn = true) : exec (.strandlineCommit t) s = .next (s.at t).requestCommit :=
  congrArg Host.Outcome.next ((if_neg (State.not_gone_of (s := s.at t) (a := Reg.REC_CMD_addr) (by rfl) h)).trans (if_pos ⟨rfl, h⟩))

end

/-- Requests for a full commit (R584, R585). -/
theorem commitRequests (t : Word) (s : State) :
    (s.strandOn = true → s.is Reg.REC_STAT_BUSY = false → Does (.strandlineCommit t) s (fun s' =>
      s'.strand = { s.strand with want := true } ∧ s'.regs = s.regs))
    ∧ (s.strandOn = true → s.is Reg.REC_STAT_BUSY = true → Does (.strandlineCommit t) s (fun s' =>
      s'.strand = { s.strand with want := true } ∧ s'.get Reg.REC_STAT_PENDING = 1
        ∧ ∀ a, a ≠ Reg.REC_STAT_addr → s'.reg a = s.reg a))
    ∧ (s.strandOn = false → Refused (.strandlineCommit t) s) := by
  refine ⟨fun hon hb => ⟨_, exec_strandlineCommit s hon, (s.at t).requestCommit_strand, ?_⟩,
    fun hon hb => ⟨_, exec_strandlineCommit s hon, (s.at t).requestCommit_strand, ?_⟩,
    fun hoff => refused_of_wrej (congrArg Host.Outcome.next (if_pos (State.gone_of (s := s.at t) (a := Reg.REC_CMD_addr) (by rfl) hoff)))⟩
  · rw [(s.at t).requestCommit_idle hb]
    rfl
  · rw [(s.at t).requestCommit_busy hb]
    exact ⟨State.get_set_of_lt _ _ (by simp) (by simp), fun a ha => State.reg_set_ne _ _ _ ha⟩

/-- RUNNING time counted up to an instant. -/
theorem State.running_counted (s : State) (t : Word) : (s.at t).countRunning.strand = { s.strand with
      counted := t, period := s.strand.period + (if s.running then elapsed s.strand.counted t else 0) }
    ∧ ∀ f, (s.at t).countRunning.get f = s.get f := ⟨rfl, fun _ => rfl⟩

/-- What COMMIT_PER asks for once the RUNNING time is counted. -/
def State.commitTimed (s : State) : State :=
  let per := s.get Reg.REC_CTRL_COMMIT_PER * (10000 * ms)
  if s.strandOn ∧ per ≤ s.strand.period then
    ({ s with strand := { s.strand with period := s.strand.period - per } } : State).requestCommit else s

theorem exec_commitTimer (t : Word) (s : State) : exec (.commitTimer t) s = .next (s.at t).countRunning.commitTimed := rfl

theorem State.commitTimed_due (s : State) {per : Nat} (hp : s.get Reg.REC_CTRL_COMMIT_PER * (10000 * ms) = per) (hon : s.strandOn = true)
    (h : per ≤ s.strand.period) : s.commitTimed.strand = { s.strand with want := true, period := s.strand.period - per } := by
  unfold State.commitTimed
  rw [hp]
  exact (congrArg State.strand (if_pos ⟨hon, h⟩)).trans (State.requestCommit_strand _)

theorem State.commitTimed_early (s : State) {per : Nat} (hp : s.get Reg.REC_CTRL_COMMIT_PER * (10000 * ms) = per)
    (h : s.strandOn = false ∨ s.strand.period < per) : s.commitTimed = s := by
  unfold State.commitTimed
  rw [hp]
  refine if_neg ?_
  rintro ⟨hon, hle⟩
  rcases h with h | h
  · exact absurd (h.symm.trans hon) (by decide)
  · exact absurd hle (Nat.not_le_of_lt h)

/-- COMMIT_PER of RUNNING time (R584). -/
theorem commitPeriods (t : Word) (s : State) :
    let per := s.get Reg.REC_CTRL_COMMIT_PER * (10000 * ms)
    let sum := s.strand.period + (if s.running then elapsed s.strand.counted t else 0)
    (s.strandOn = true → per ≤ sum → Does (.commitTimer t) s (fun s' =>
        s'.strand = { s.strand with want := true, counted := t, period := sum - per }))
      ∧ (s.strandOn = false ∨ sum < per → Does (.commitTimer t) s (fun s' =>
        s'.strand = { s.strand with counted := t, period := sum } ∧ s'.regs = s.regs)) := by
  intro per sum
  obtain ⟨hst, hget⟩ := s.running_counted t
  have hper : (s.at t).countRunning.get Reg.REC_CTRL_COMMIT_PER * (10000 * ms) = per := by rw [hget]
  have hon' : (s.at t).countRunning.strandOn = s.strandOn := rfl
  have hregs : (s.at t).countRunning.regs = s.regs := rfl
  have hx := exec_commitTimer t s
  generalize (s.at t).countRunning = c at *
  refine ⟨fun hon h => ⟨_, hx, ?_⟩, fun h => ⟨_, hx, ?_⟩⟩
  · refine (c.commitTimed_due hper (hon'.trans hon) (by rw [hst]; exact h)).trans ?_
    rw [hst]
  · rw [c.commitTimed_early hper (by rw [hon', hst]; exact h)]
    exact ⟨hst, hregs⟩

/-! ### A commit starts (R585 to R588) -/

section
variable (s : State)

/-- The records of the commit that starts now, in order (R586, R588). -/
def State.commitTodo (s : State) : List (Nat × Nat) :=
  let pre := if s.strand.want then s.rewrites else []
  pre ++ ((s.recJobs.map Prod.snd).filter (fun j => !pre.contains j)).eraseDups ++ (if s.strand.want then fullList else [])

/-- The state that takes the request of a commit; `first` is the SEQ of its first record. -/
def State.commitTaken (s : State) : State :=
  let first := s.get Reg.REC_SEQ_NEXT + (if s.strand.want then (if s.strand.want then s.rewrites else []).length else 0)
  { s with
    strand := { s.strand with want := false, full := s.strand.want, todo := s.commitTodo, first := first % 2 ^ 32 }
    recJobs := [] }

theorem exec_fullCommit {t : Word} (hon : s.strandOn = true) (hready : s.is Reg.REC_STAT_READY = true) (hbusy : s.is Reg.REC_STAT_BUSY = false)
    (hw : s.strand.want = true ∨ s.recJobs ≠ []) :
    exec (.fullCommit t) s
      = .next (((((s.at t).commitTaken.set Reg.REC_STAT_BUSY 1).set Reg.REC_STAT_PENDING 0).counter 7).startRecord t) := by
  refine congrArg Host.Outcome.next (if_neg ?_)
  rintro (h | h | h | ⟨h, h'⟩)
  · exact h hon
  · exact h hready
  · exact absurd (hbusy.symm.trans h) (by decide)
  · exact hw.elim (fun hw => absurd (h.symm.trans hw) (by decide)) fun hw => hw h'

theorem exec_fullCommit_idle {t : Word} (h : s.strandOn = false ∨ s.is Reg.REC_STAT_READY = false ∨ s.is Reg.REC_STAT_BUSY = true
    ∨ (s.strand.want = false ∧ s.recJobs = [])) : exec (.fullCommit t) s = .next (s.at t) := by
  refine congrArg Host.Outcome.next (if_pos ?_)
  rcases h with h | h | h | h
  · exact .inl fun hn => absurd (h.symm.trans hn) (by decide)
  · exact .inr (.inl fun hn => absurd (h.symm.trans hn) (by decide))
  · exact .inr (.inr (.inl h))
  · exact .inr (.inr (.inr h))

theorem State.commitTodo_ne_nil (h : s.strand.want = true ∨ s.recJobs ≠ []) : s.commitTodo ≠ [] := by
  unfold State.commitTodo
  by_cases hw : s.strand.want = true
  · simp [hw, fullList]
  · have hj : s.recJobs ≠ [] := h.resolve_left hw
    obtain ⟨x, l, hl⟩ := List.exists_cons_of_ne_nil hj
    simp [hw, hl, List.eraseDups_cons]

/-- The slot of a record of TYPE that starts at the pointer. -/
def State.freeSlot (s : State) (type : Nat) : Nat :=
  if 65535 < 16 * s.get Reg.REC_STAT_WPTR + recLen type + 2 then 0 else s.get Reg.REC_STAT_WPTR

/-- The next record of a commit starts. -/
theorem State.startRecord_cons (t : Word) {n : Nat × Nat} {l : List (Nat × Nat)} (h : s.strand.todo = n :: l) :
    s.startRecord t = { s with strand := { s.strand with
        todo := l, cur := some { type := n.1, key := n.2, slot := s.freeSlot n.1, words := s.recordWords n.1 n.2, start := t } } } := by
  unfold State.startRecord
  rw [h]
  rfl

theorem State.counter_of_keeps {f : Nat} : (s.counter f).strand = s.strand ∧ (s.counter f).regs = s.regs ∧ (s.counter f).recJobs = s.recJobs :=
  have h := State.counter_keeps s f (Nat.and_self _) (.refl _ s)
  ⟨h.same .strand (by decide), h.same .regs (by decide), h.same .recJobs (by decide)⟩

theorem State.get_of_regs {s s' : State} (h : s'.regs = s.regs) (f : Fld) : s'.get f = s.get f :=
  (Writes.refl ∅ s).of_regs h f (by simp)

end

/-- The state that a commit has marked as running. -/
def State.commitMarked (s : State) : State := (s.commitTaken.set Reg.REC_STAT_BUSY 1).set Reg.REC_STAT_PENDING 0

section
variable (s : State)

theorem State.commitMarked_regs : s.commitMarked.get Reg.REC_STAT_BUSY = 1 ∧ s.commitMarked.get Reg.REC_STAT_PENDING = 0
    ∧ s.commitMarked.get Reg.REC_STAT_WPTR = s.get Reg.REC_STAT_WPTR := by
  unfold State.commitMarked
  refine ⟨?_, State.get_set_of_lt _ _ (by simp) (by simp), ?_⟩
  · rw [State.get_set_ne _ _ _ _ (by simp), State.get_set_of_lt _ _ (by simp) (by simp)]
  · rw [State.get_set_ne _ _ _ _ (by simp), State.get_set_ne _ _ _ _ (by simp)]
    rfl

theorem State.commitMarked_shows : s.commitMarked.strand = s.commitTaken.strand ∧ s.commitMarked.recJobs = []
    ∧ s.commitMarked.accGet 1 0 7 = s.accGet 1 0 7 ∧ s.commitMarked.hasTile 0x0F 0 = s.hasTile 0x0F 0 := ⟨rfl, rfl, rfl, rfl⟩

/-- What the start of a commit leaves (R585 to R588). -/
theorem State.commitStarted_shows (t : Word) (hon : s.strandOn = true) (hw : s.strand.want = true ∨ s.recJobs ≠ []) :
    let s' := (s.commitMarked.counter 7).startRecord t
    s'.get Reg.REC_STAT_BUSY = 1 ∧ s'.get Reg.REC_STAT_PENDING = 0 ∧ s'.strand.want = false ∧ s'.strand.full = s.strand.want ∧ s'.recJobs = []
      ∧ s'.accGet 1 0 7 = BitVec.ofNat 48 (min ((s.accGet 1 0 7).toNat + 1) (W48 - 1))
      ∧ ∃ j, s'.strand.cur = some j ∧ (j.type, j.key) :: s'.strand.todo = s.commitTodo ∧ j.start = t ∧ j.slot = s.freeSlot j.type
        ∧ j.words = s'.recordWords j.type j.key := by
  obtain ⟨n, l, hnl⟩ := List.exists_cons_of_ne_nil (s.commitTodo_ne_nil hw)
  obtain ⟨hbusy, hpend, hwptr⟩ := s.commitMarked_regs
  obtain ⟨hstrand, hjobs, hacc, htile⟩ := s.commitMarked_shows
  obtain ⟨hst, hregs, hj⟩ := s.commitMarked.counter_of_keeps (f := 7)
  have hcount := s.commitMarked.accGet_counter (w := 7) (by
    unfold State.strandTakes
    rw [htile, show s.hasTile 0x0F 0 = true from hon, Bool.true_or])
  rw [hacc] at hcount
  have hget := State.get_of_regs hregs
  have htodo : (s.commitMarked.counter 7).strand.todo = n :: l := by rw [hst, hstrand]; exact hnl
  have hslot : (s.commitMarked.counter 7).freeSlot n.1 = s.freeSlot n.1 := by
    unfold State.freeSlot
    rw [hget, hwptr]
  have hs := State.startRecord_cons _ t htodo
  rw [hslot] at hs
  rw [← hget] at hbusy hpend
  rw [← hj] at hjobs
  have hstr := hst.trans hstrand
  generalize s.commitMarked.counter 7 = c at *
  rw [hs]
  refine ⟨hbusy, hpend, ?_, ?_, hjobs, hcount, _, rfl, hnl.symm, rfl, rfl, rfl⟩
  · exact congrArg Strand.want hstr
  · exact congrArg Strand.full hstr

end

/-! ### A record is written (R586, R587, R589) -/

theorem State.recGet_recSet (s : State) (a : Nat) (w : Word) : (s.recSet a w).recGet a = w := Cells.get_set_same _ _ _ _

theorem State.recGet_recSet_ne (s : State) {a b : Nat} (w : Word) (h : b ≠ a) : (s.recSet a w).recGet b = s.recGet b :=
  Cells.get_set_ne _ _ _ h

/-- Words written in ascending order from word `n` of a record at `a`. -/
def State.recAscend (s : State) (a : Nat) (l : List Word) (n : Nat) : State :=
  (l.zipIdx n).foldl (fun s (x : Word × Nat) => s.recSet (a + x.2) x.1) s

theorem State.recGet_ascend (a : Nat) (l : List Word) (n : Nat) (s : State) :
    (∀ k, (s.recAscend a l n).recGet (a + n + k) = if k < l.length then l.getD k 0 else s.recGet (a + n + k))
      ∧ ∀ x, x < a + n → (s.recAscend a l n).recGet x = s.recGet x := by
  induction l generalizing n s with
  | nil => exact ⟨fun k => rfl, fun x _ => rfl⟩
  | cons w l ih =>
    rw [show s.recAscend a (w :: l) n = (s.recSet (a + n) w).recAscend a l (n + 1) by rw [State.recAscend, List.zipIdx_cons]; rfl]
    obtain ⟨hin, hout⟩ := ih (n + 1) (s.recSet (a + n) w)
    refine ⟨fun k => ?_, fun x hx => (hout x (by omega)).trans (s.recGet_recSet_ne w (by omega))⟩
    cases k with
    | zero => exact (hout (a + n + 0) (by omega)).trans (s.recGet_recSet (a + n) w)
    | succ k =>
      rw [show a + n + (k + 1) = a + (n + 1) + k by omega, hin k, s.recGet_recSet_ne w (by omega), List.length_cons, List.getD_cons_succ]
      simp only [Nat.add_lt_add_iff_right]

/-- A record whose writes are all done. -/
theorem State.recordWrite_done (s : State) (j : RecJob) (h : j.words ≠ []) :
    (∀ k < j.words.length, (s.recordWrite j (j.words.length + 1)).recGet (16 * j.slot + k) = j.words.getD k 0)
      ∧ ∀ x, x < 16 * j.slot ∨ 16 * j.slot + j.words.length ≤ x → (s.recordWrite j (j.words.length + 1)).recGet x = s.recGet x := by
  have hlen : 0 < j.words.length := List.length_pos_iff.2 h
  have hw : s.recordWrite j (j.words.length + 1) =
      (s.recSet (16 * j.slot + (j.words.length - 1)) 0).recAscend (16 * j.slot) j.words 0 := by
    unfold State.recordWrite RecJob.writes
    rw [List.take_of_length_le (by simp), List.foldl_cons, List.foldl_map]
    rfl
  rw [hw]
  obtain ⟨hin, hout⟩ := State.recGet_ascend (16 * j.slot) j.words 0 (s.recSet (16 * j.slot + (j.words.length - 1)) 0)
  refine ⟨fun k hk => (hin k).trans (if_pos hk), fun x hx => ?_⟩
  rcases hx with hx | hx
  · exact (hout x hx).trans (s.recGet_recSet_ne 0 (by omega))
  · obtain ⟨k, rfl⟩ := Nat.exists_eq_add_of_le (show 16 * j.slot + 0 ≤ x by omega)
    exact ((hin k).trans (if_neg (by omega))).trans (s.recGet_recSet_ne 0 (by omega))

section
variable (s : State) (j : RecJob)

/-- The state with record `j` written: SEQ and the pointer have moved on (R574, R586, R587). -/
def State.jobStored (s : State) (j : RecJob) : State :=
  let s := s.recordWrite j (j.words.length + 1)
  let s := (s.incMod Reg.REC_SEQ_NEXT).set Reg.REC_STAT_WPTR ((j.slot + recSlots j.type) % 4096)
  let s := { s with strand := { s.strand with
    cur := none
    sigSlot := s.signatureSlots } }
  let body := (j.words.drop 2).take (recLen j.type)
  { s with pair := { s.pair with
    cntBody := if j.type = 1 then body else s.pair.cntBody
    extBody := if j.type = 2 then body else s.pair.extBody } }

theorem exec_recordWriteDone {t : Word} (hcur : s.strand.cur = some j) : exec (.recordWriteDone t) s
    = .next (if elapsed j.start t < j.time then s.at t else if ((s.at t).jobStored j).strand.todo = [] then ((s.at t).jobStored j).commitEnd
      else ((s.at t).jobStored j).startRecord (addW j.start j.time)) := by
  refine congrArg Host.Outcome.next ?_
  dsimp only
  rw [show (s.at t).strand.cur = some j from hcur]
  rfl

theorem exec_recordWriteDone_none {t : Word} (hcur : s.strand.cur = none) : exec (.recordWriteDone t) s = .next (s.at t) := by
  refine congrArg Host.Outcome.next ?_
  dsimp only
  rw [show (s.at t).strand.cur = none from hcur]

/-- The record memory and the registers that a record leaves. -/
def Recorded (s : State) (j : RecJob) (s' : State) : Prop :=
  (∀ k < j.words.length, s'.recGet (16 * j.slot + k) = j.words.getD k 0)
    ∧ (∀ x, x < 16 * j.slot ∨ 16 * j.slot + j.words.length ≤ x → s'.recGet x = s.recGet x)
    ∧ s'.get Reg.REC_SEQ_NEXT = (s.get Reg.REC_SEQ_NEXT + 1) % 2 ^ 32
    ∧ s'.get Reg.REC_STAT_WPTR = (j.slot + recSlots j.type) % 4096

variable {s j} in
theorem Recorded.of_keeps {x y : State} (h : Recorded s j x) (hrec : y.recMem = x.recMem) (hseq : y.get Reg.REC_SEQ_NEXT = x.get Reg.REC_SEQ_NEXT)
    (hptr : y.get Reg.REC_STAT_WPTR = x.get Reg.REC_STAT_WPTR) : Recorded s j y := by
  have hg : ∀ a, y.recGet a = x.recGet a := fun a => congrArg (Cells.get memDefault · a) hrec
  obtain ⟨hin, hout, hs, hp⟩ := h
  exact ⟨fun k hk => (hg _).trans (hin k hk), fun a ha => (hg a).trans (hout a ha), hseq.trans hs, hptr.trans hp⟩

theorem State.recordWrite_same (n : Nat) : (s.recordWrite j n).regs = s.regs ∧ (s.recordWrite j n).strand = s.strand
    ∧ (s.recordWrite j n).reports = s.reports :=
  have h := State.recordWrite_keeps s j n (Nat.and_self _) (.refl _ s)
  ⟨h.same .regs (by decide), h.same .strand (by decide), h.same .reports (by decide)⟩

/-- The registers once a record is written. -/
def State.recordPassed (s : State) (j : RecJob) : State :=
  ((s.recordWrite j (j.words.length + 1)).incMod Reg.REC_SEQ_NEXT).set Reg.REC_STAT_WPTR ((j.slot + recSlots j.type) % 4096)

theorem State.recordPassed_writes : Writes {Reg.REC_SEQ_NEXT, Reg.REC_STAT_WPTR} s (s.recordPassed j) :=
  (((Writes.refl _ s).of_regs (s.recordWrite_same j _).1).set (by simp) _).set (by simp) _

theorem State.recordPassed_recorded (h : j.words ≠ []) : Recorded s j (s.recordPassed j) := by
  obtain ⟨hin, hout⟩ := s.recordWrite_done j h
  refine ⟨hin, hout, ?_, ?_⟩
  · unfold State.recordPassed
    rw [State.get_set_ne _ _ _ _ (by simp), State.get_incMod _ (by simp), State.get_of_regs (s.recordWrite_same j _).1]
  · exact State.get_set_of_lt _ _ (by simp) (Nat.mod_lt _ (by decide))

theorem State.jobStored_shows : (s.jobStored j).regs = (s.recordPassed j).regs ∧ (s.jobStored j).recMem = (s.recordPassed j).recMem
    ∧ (s.jobStored j).strand = { s.strand with cur := none, sigSlot := (s.recordPassed j).signatureSlots }
    ∧ (s.jobStored j).reports = s.reports := by
  refine ⟨rfl, rfl, ?_, (s.recordWrite_same j _).2.2⟩
  rw [← (s.recordWrite_same j (j.words.length + 1)).2.1]
  rfl

theorem State.jobStored_recorded (h : j.words ≠ []) : Recorded s j (s.jobStored j) := by
  obtain ⟨hregs, hrec, -, -⟩ := s.jobStored_shows j
  exact (s.recordPassed_recorded j h).of_keeps hrec (State.get_of_regs hregs _) (State.get_of_regs hregs _)

theorem State.jobStored_get {f : Fld} (h : ∀ g ∈ ({Reg.REC_SEQ_NEXT, Reg.REC_STAT_WPTR} : Set Fld), g.misses f) :
    (s.jobStored j).get f = s.get f := (State.get_of_regs (s.jobStored_shows j).1 f).trans (s.recordPassed_writes j f h)

/-- The end of a commit (R589). -/
theorem State.commitEnd_shows : s.commitEnd.get Reg.REC_STAT_BUSY = 0 ∧ s.commitEnd.get Reg.REC_STAT_PENDING = 0
    ∧ s.commitEnd.get Reg.REC_CNT_COMMITS = (s.get Reg.REC_CNT_COMMITS + 1) % 2 ^ 32
    ∧ s.commitEnd.reports = s.reports ++ [⟨0x0F, 0, 1, s.strand.first, none⟩] ∧ s.commitEnd.strand = s.strand ∧ s.commitEnd.recMem = s.recMem
    ∧ s.commitEnd.get Reg.REC_SEQ_NEXT = s.get Reg.REC_SEQ_NEXT ∧ s.commitEnd.get Reg.REC_STAT_WPTR = s.get Reg.REC_STAT_WPTR := by
  have hw : ∀ f, s.commitEnd.get f = (((s.set Reg.REC_STAT_BUSY 0).set Reg.REC_STAT_PENDING 0).incMod Reg.REC_CNT_COMMITS).get f := fun f => rfl
  refine ⟨?_, ?_, ?_, rfl, rfl, rfl, ?_, ?_⟩
  · rw [hw, State.incMod, State.get_set_ne _ _ _ _ (by simp), State.get_set_ne _ _ _ _ (by simp), State.get_set_of_lt _ _ (by simp) (by simp)]
  · rw [hw, State.incMod, State.get_set_ne _ _ _ _ (by simp), State.get_set_of_lt _ _ (by simp) (by simp)]
  · rw [hw, State.get_incMod _ (by simp), State.get_set_ne _ _ _ _ (by simp), State.get_set_ne _ _ _ _ (by simp)]
  · rw [hw, State.incMod, State.get_set_ne _ _ _ _ (by simp), State.get_set_ne _ _ _ _ (by simp), State.get_set_ne _ _ _ _ (by simp)]
  · rw [hw, State.incMod, State.get_set_ne _ _ _ _ (by simp), State.get_set_ne _ _ _ _ (by simp), State.get_set_ne _ _ _ _ (by simp)]

end

/-- RECORD_WRITE_DONE: the end of a record, which ends the commit or starts the next record (R586, R589). -/
theorem recordEnds (t : Word) (s : State) (j : RecJob) (hcur : s.strand.cur = some j) (hwords : j.words ≠ []) :
    let stop := addW j.start j.time
    (j.time ≤ elapsed j.start t → s.strand.todo = [] → Does (.recordWriteDone t) s (fun s' => Recorded s j s'
        ∧ s'.strand.cur = none ∧ s'.get Reg.REC_STAT_BUSY = 0 ∧ s'.get Reg.REC_STAT_PENDING = 0
        ∧ s'.get Reg.REC_CNT_COMMITS = (s.get Reg.REC_CNT_COMMITS + 1) % 2 ^ 32
        ∧ s'.reports = s.reports ++ [⟨0x0F, 0, 1, s.strand.first, none⟩]))
      ∧ (∀ n l, j.time ≤ elapsed j.start t → s.strand.todo = n :: l → Does (.recordWriteDone t) s (fun s' => Recorded s j s'
        ∧ s'.strand.todo = l ∧ s'.get Reg.REC_STAT_BUSY = s.get Reg.REC_STAT_BUSY
        ∧ ∃ j', s'.strand.cur = some j' ∧ (j'.type, j'.key) = n ∧ j'.start = stop))
      ∧ (elapsed j.start t < j.time → Idles (.recordWriteDone t) s t) := by
  intro stop
  have hx := exec_recordWriteDone s j (t := t) hcur
  obtain ⟨-, -, hstrand, hrep⟩ := (s.at t).jobStored_shows j
  have hrec : Recorded s j ((s.at t).jobStored j) := (s.at t).jobStored_recorded j hwords
  have hbusy : ((s.at t).jobStored j).get Reg.REC_STAT_BUSY = s.get Reg.REC_STAT_BUSY :=
    (s.at t).jobStored_get j (by rintro g (rfl | rfl) <;> simp [Fld.misses])
  have hcommits : ((s.at t).jobStored j).get Reg.REC_CNT_COMMITS = s.get Reg.REC_CNT_COMMITS :=
    (s.at t).jobStored_get j (by rintro g (rfl | rfl) <;> simp [Fld.misses])
  have htodo : ((s.at t).jobStored j).strand.todo = s.strand.todo := (congrArg Strand.todo hstrand :)
  have hfirst : ((s.at t).jobStored j).strand.first = s.strand.first := (congrArg Strand.first hstrand :)
  have hnone : ((s.at t).jobStored j).strand.cur = none := (congrArg Strand.cur hstrand :)
  have hrep' : ((s.at t).jobStored j).reports = s.reports := hrep
  clear hstrand hrep
  generalize (s.at t).jobStored j = x at *
  refine ⟨fun hle hnil => ⟨_, hx.trans (congrArg _ ((if_neg (Nat.not_lt_of_le hle)).trans (if_pos (htodo.trans hnil)))), ?_⟩,
    fun n l hle hn => ⟨_, hx.trans (congrArg _ ((if_neg (Nat.not_lt_of_le hle)).trans (if_neg (by rw [htodo, hn]; exact List.cons_ne_nil _ _)))), ?_⟩,
    fun hlt => hx.trans (congrArg _ (if_pos hlt))⟩
  · obtain ⟨hb, hp, hc, hr, hst, hm, hs, hw⟩ := x.commitEnd_shows
    exact ⟨hrec.of_keeps hm hs hw, (congrArg Strand.cur hst).trans hnone, hb, hp, hc.trans (by rw [hcommits]), hr.trans (by rw [hrep', hfirst])⟩
  · rw [x.startRecord_cons _ (htodo.trans hn)]
    exact ⟨hrec.of_keeps rfl rfl rfl, rfl, hbusy, _, rfl, rfl, rfl⟩

/-- Settles O56. -/
theorem strandlineCommits : Obligations.StrandlineCommits := by
  unfold Obligations.StrandlineCommits
  refine ⟨fun t s => ?_, fun t s => ⟨fun hon hready hbusy hw => ?_, exec_fullCommit_idle s, fun j hcur hwords => recordEnds t s j hcur hwords,
    exec_recordWriteDone_none s⟩⟩
  · obtain ⟨hidle, hbusy, hoff⟩ := commitRequests t s
    exact ⟨hidle, hbusy, hoff, commitPeriods t s⟩
  · exact ⟨_, exec_fullCommit s hon hready hbusy hw, (s.at t).commitStarted_shows t hon hw⟩

end Sys2Proof.Machine
end

section
/-! PROOF. Strandline: the histograms of timers, the running time and the recovery (O57). -/
namespace Sys2Proof.Machine

/-! ### Folds -/

/-- What one element alone changes, a fold over a list that holds it once changes once. -/
theorem foldl_once {α σ β : Type} {I : σ → Prop} {f : σ → α → σ} {g : σ → β} {e : β → β} {l : List α} (hl : l.Nodup) {a : α} (ha : a ∈ l)
    (hI : ∀ s, ∀ b ∈ l, I s → I (f s b)) (hother : ∀ s, ∀ b ∈ l, b ≠ a → I s → g (f s b) = g s) (hself : ∀ s, I s → g (f s a) = e (g s)) {s : σ}
    (hs : I s) : g (l.foldl f s) = e (g s) := by
  induction l generalizing s with
  | nil => exact absurd ha List.not_mem_nil
  | cons b l ih =>
    obtain ⟨hb, hl'⟩ := List.nodup_cons.1 hl
    have hI' : ∀ s, ∀ c ∈ l, I s → I (f s c) := fun s c hc => hI s c (.tail _ hc)
    have hIb : I (f s b) := hI s b (.head _) hs
    rw [List.foldl_cons]
    by_cases h : b = a
    · subst h
      exact (foldl_keeps (I := fun x => I x ∧ g x = g (f s b)) (fun x c hc ⟨hx, hg⟩ =>
        ⟨hI' x c hc hx, (hother x c (.tail _ hc) (fun h => hb (h ▸ hc)) hx).trans hg⟩) ⟨hIb, rfl⟩).2.trans (hself s hs)
    · rw [ih hl' ((List.mem_cons.1 ha).resolve_left (Ne.symm h)) hI' (fun x c hc => hother x c (.tail _ hc)) hIb, hother s b (.head _) h hs]

/-! ### The histograms of timers (R576, Table 12.9) -/

theorem State.accAdd_regs (s : State) (a b w n : Nat) : (s.accAdd a b w n).regs = s.regs ∧ (s.accAdd a b w n).strand = s.strand := ⟨rfl, rfl⟩

theorem tempBin_lt (x : Int) : tempBin x < 8 := Nat.lt_succ_of_le (List.length_filter_le _ _)

theorem clampI_eq (v : Int) : clampI 0 15 v = max 0 (min 15 v) := by
  unfold clampI
  split
  · omega
  · split <;> omega

section
variable (s : State)

/-- Site `x` of COIL_TEMP is counted. -/
def State.coilSite (s : State) (x : Nat) : State :=
  if s.is (Reg.BNK_THM_VALID (x / 4) (x % 4)) then s.accInc 5 0 (8 * x + tempBin (s.getI (Reg.BNK_THM_TEMP (x / 4) (x % 4)))) else s

/-- Controller `g` of BOOST is counted. -/
def State.boostSite (s : State) (g : Nat) : State :=
  if s.get (Reg.BST_CFG_MODE g) = 1 ∧ s.is (Reg.BST_STAT_READY g) then
    s.accInc 6 0 (16 * g + (clampI 0 15 (((s.get (Reg.BST_STAT_VRAIL g) : Int) - 10 * s.get (Reg.BST_CFG_VSET g)) / 10 + 8)).toNat)
  else s

/-- A word that is one higher, where it is not at its end. -/
def plusOne (w : Word) : Word := BitVec.ofNat 48 (min (w.toNat + 1) (W48 - 1))

theorem State.coilSite_same (x : Nat) : (s.coilSite x).regs = s.regs ∧ (s.coilSite x).strand = s.strand := by
  unfold State.coilSite
  split
  exacts [s.accAdd_regs _ _ _ _, ⟨rfl, rfl⟩]

theorem State.boostSite_same (g : Nat) : (s.boostSite g).regs = s.regs ∧ (s.boostSite g).strand = s.strand := by
  unfold State.boostSite
  split
  exacts [s.accAdd_regs _ _ _ _, ⟨rfl, rfl⟩]

/-- A fold of steps that keep the registers and Strandline's own state. -/
theorem foldl_same {f : State → Nat → State} (hf : ∀ x k, (f x k).regs = x.regs ∧ (f x k).strand = x.strand) (l : List Nat) :
    (l.foldl f s).regs = s.regs ∧ (l.foldl f s).strand = s.strand :=
  foldl_keeps (I := fun x : State => x.regs = s.regs ∧ x.strand = s.strand)
    (fun x k _ h => ⟨(hf x k).1.trans h.1, (hf x k).2.trans h.2⟩) ⟨rfl, rfl⟩

theorem State.getI_of_regs {s s' : State} (h : s'.regs = s.regs) (f : Fld) : s'.getI f = s.getI f :=
  congrArg (signed f.wid) (State.get_of_regs h f)

theorem State.is_of_regs {s s' : State} (h : s'.regs = s.regs) (f : Fld) : s'.is f = s.is f := State.is_congr (State.get_of_regs h f)

/-- The bins of COIL_TEMP after a step: bin `n` of site `x` (Table 12.9). -/
theorem State.coilBins (x n : Nat) (hx : x < 48) (hn : n < 8) :
    ((List.range 48).foldl State.coilSite s).accGet 5 0 (8 * x + n)
      = if s.is (Reg.BNK_THM_VALID (x / 4) (x % 4)) ∧ n = tempBin (s.getI (Reg.BNK_THM_TEMP (x / 4) (x % 4))) then plusOne (s.accGet 5 0 (8 * x + n))
        else s.accGet 5 0 (8 * x + n) := by
  refine foldl_once (I := fun y : State => y.regs = s.regs) (g := fun y : State => y.accGet 5 0 (8 * x + n))
    (e := fun w => if s.is (Reg.BNK_THM_VALID (x / 4) (x % 4)) ∧ n = tempBin (s.getI (Reg.BNK_THM_TEMP (x / 4) (x % 4))) then plusOne w else w)
    List.nodup_range (List.mem_range.2 hx) (fun y b _ hy => (y.coilSite_same b).1.trans hy) (fun y b hb hne _ => ?_) (fun y hy => ?_) rfl
  · have hb := List.mem_range.1 hb
    have := tempBin_lt (y.getI (Reg.BNK_THM_TEMP (b / 4) (b % 4)))
    unfold State.coilSite
    split
    · exact y.accGet_accAdd_ne (accKey_ne (by omega) (by omega) (by omega) (by omega) fun h => by
        simp only [Prod.mk.injEq, true_and] at h; omega) 1
    · rfl
  · have := tempBin_lt (s.getI (Reg.BNK_THM_TEMP (x / 4) (x % 4)))
    unfold State.coilSite
    rw [State.is_of_regs hy, State.getI_of_regs hy]
    by_cases hv : s.is (Reg.BNK_THM_VALID (x / 4) (x % 4)) = true
    · rw [if_pos hv]
      by_cases hb : n = tempBin (s.getI (Reg.BNK_THM_TEMP (x / 4) (x % 4)))
      · rw [if_pos ⟨hv, hb⟩, ← hb]
        exact y.accGet_accAdd 5 0 _ 1
      · rw [if_neg fun h => hb h.2]
        exact y.accGet_accAdd_ne (accKey_ne (by omega) (by omega) (by omega) (by omega) fun h => by
          simp only [Prod.mk.injEq, true_and] at h; omega) 1
    · rw [if_neg hv, if_neg fun h => hv h.1]

/-- The voltage bin of controller `g`, before its bounds. -/
def State.boostBinAt (s : State) (g : Nat) : Int := ((s.get (Reg.BST_STAT_VRAIL g) : Int) - 10 * s.get (Reg.BST_CFG_VSET g)) / 10 + 8

theorem State.boostBins (g n : Nat) (hg : g < 3) (hn : n < 16) :
    ((List.range 3).foldl State.boostSite s).accGet 6 0 (16 * g + n)
      = if s.get (Reg.BST_CFG_MODE g) = 1 ∧ s.is (Reg.BST_STAT_READY g) = true ∧ (n : Int) = max 0 (min 15 (s.boostBinAt g)) then
          plusOne (s.accGet 6 0 (16 * g + n)) else s.accGet 6 0 (16 * g + n) := by
  have hbin : ∀ v : Int, 0 ≤ clampI 0 15 v ∧ clampI 0 15 v ≤ 15 := fun v => by rw [clampI_eq]; omega
  refine foldl_once (I := fun y : State => y.regs = s.regs) (g := fun y : State => y.accGet 6 0 (16 * g + n))
    (e := fun w => if s.get (Reg.BST_CFG_MODE g) = 1 ∧ s.is (Reg.BST_STAT_READY g) = true ∧ (n : Int) = max 0 (min 15 (s.boostBinAt g)) then
      plusOne w else w)
    List.nodup_range (List.mem_range.2 hg) (fun y b _ hy => (y.boostSite_same b).1.trans hy) (fun y b hb hne _ => ?_) (fun y hy => ?_) rfl
  · have hb := List.mem_range.1 hb
    have := hbin (((y.get (Reg.BST_STAT_VRAIL b) : Int) - 10 * y.get (Reg.BST_CFG_VSET b)) / 10 + 8)
    unfold State.boostSite
    split
    · exact y.accGet_accAdd_ne (accKey_ne (by omega) (by omega) (by omega) (by omega) fun h => by
        simp only [Prod.mk.injEq, true_and] at h; omega) 1
    · rfl
  · unfold State.boostSite
    rw [State.get_of_regs hy, State.is_of_regs hy, State.get_of_regs hy, State.get_of_regs hy]
    have hv := hbin (s.boostBinAt g)
    have hc := clampI_eq (s.boostBinAt g)
    change (if _ then y.accInc 6 0 (16 * g + (clampI 0 15 (s.boostBinAt g)).toNat) else y).accGet _ _ _ = _
    by_cases h : s.get (Reg.BST_CFG_MODE g) = 1 ∧ s.is (Reg.BST_STAT_READY g) = true
    · rw [if_pos h]
      by_cases hb : (n : Int) = max 0 (min 15 (s.boostBinAt g))
      · rw [if_pos ⟨h.1, h.2, hb⟩, show n = (clampI 0 15 (s.boostBinAt g)).toNat by omega]
        exact y.accGet_accAdd 6 0 _ 1
      · rw [if_neg fun h => hb h.2.2]
        exact y.accGet_accAdd_ne (accKey_ne (by omega) (by omega) (by omega) (by omega) fun h => by
          simp only [Prod.mk.injEq, true_and] at h; omega) 1
    · rw [if_neg h, if_neg fun hn => h ⟨hn.1, hn.2.1⟩]

theorem exec_coilTempBin {t : Word} (hon : s.strandOn = true) (h : 10 * ms ≤ elapsed s.strand.coilAt t) : exec (.coilTempBin t) s
    = .next ((List.range 48).foldl State.coilSite { s.at t with strand := { s.strand with coilAt := t } }) :=
  congrArg Host.Outcome.next (if_pos ⟨hon, h⟩)

theorem exec_boostBin {t : Word} (hon : s.strandOn = true) (h : ms ≤ elapsed s.strand.boostAt t) : exec (.boostBin t) s
    = .next ((List.range 3).foldl State.boostSite { s.at t with strand := { s.strand with boostAt := t } }) :=
  congrArg Host.Outcome.next (if_pos ⟨hon, h⟩)

end

/-- The histograms of timers (R576). -/
theorem timerHistograms (t : Word) (s : State) :
    let plus := fun (w : Word) => BitVec.ofNat 48 (min (w.toNat + 1) (W48 - 1))
    (s.strandOn = true → 10 * ms ≤ elapsed s.strand.coilAt t → Does (.coilTempBin t) s (fun s' =>
      s'.strand = { s.strand with coilAt := t } ∧ s'.regs = s.regs ∧ ∀ (b : Fin 12) (c : Fin 4), ∀ n < 8,
        let w := 8 * (4 * b.val + c.val) + n
        s'.accGet 5 0 w = if s.is (Reg.BNK_THM_VALID b c) ∧ n = tempBin (s.getI (Reg.BNK_THM_TEMP b c))
          then plus (s.accGet 5 0 w) else s.accGet 5 0 w))
    ∧ (s.strandOn = false ∨ elapsed s.strand.coilAt t < 10 * ms → Idles (.coilTempBin t) s t)
    ∧ (s.strandOn = true → ms ≤ elapsed s.strand.boostAt t → Does (.boostBin t) s (fun s' =>
      s'.strand = { s.strand with boostAt := t } ∧ s'.regs = s.regs ∧ ∀ (g : Fin 3), ∀ n < 16,
        let v : Int := ((s.get (Reg.BST_STAT_VRAIL g) : Int) - 10 * s.get (Reg.BST_CFG_VSET g)) / 10 + 8
        let w := 16 * g.val + n
        s'.accGet 6 0 w = if s.get (Reg.BST_CFG_MODE g) = 1 ∧ s.is (Reg.BST_STAT_READY g) = true
            ∧ (n : Int) = max 0 (min 15 v)
          then plus (s.accGet 6 0 w) else s.accGet 6 0 w))
    ∧ (s.strandOn = false ∨ elapsed s.strand.boostAt t < ms → Idles (.boostBin t) s t) := by
  intro plus
  have hoff : ∀ {d e : Nat}, s.strandOn = false ∨ e < d → ¬ (s.strandOn = true ∧ d ≤ e) := fun {d e} h hn =>
    h.elim (fun h => absurd (h.symm.trans hn.1) (by decide)) fun h => absurd hn.2 (Nat.not_le_of_lt h)
  refine ⟨fun hon h => ?_, fun h => congrArg Host.Outcome.next (if_neg (hoff h)), fun hon h => ?_, fun h => congrArg Host.Outcome.next (if_neg (hoff h))⟩
  · obtain ⟨hregs, hstrand⟩ := foldl_same ({ s.at t with strand := { s.strand with coilAt := t } } : State) State.coilSite_same (List.range 48)
    refine ⟨_, exec_coilTempBin s hon h, hstrand, hregs, fun b c n hn => ?_⟩
    have hbin := ({ s.at t with strand := { s.strand with coilAt := t } } : State).coilBins (4 * b.val + c.val) n (by omega) hn
    rw [show (4 * b.val + c.val) / 4 = b.val by omega, show (4 * b.val + c.val) % 4 = c.val by omega] at hbin
    exact hbin
  · obtain ⟨hregs, hstrand⟩ := foldl_same ({ s.at t with strand := { s.strand with boostAt := t } } : State) State.boostSite_same (List.range 3)
    exact ⟨_, exec_boostBin s hon h, hstrand, hregs, fun g n hn =>
      ({ s.at t with strand := { s.strand with boostAt := t } } : State).boostBins g n g.isLt hn⟩

/-- The second that COUNTERS counts once the running time is counted. -/
def State.secondFull (s : State) : State :=
  if 1000 * ms ≤ s.strand.secs then ({ s with strand := { s.strand with secs := s.strand.secs - 1000 * ms } } : State).counter 1 else s

theorem exec_runSeconds (t : Word) (s : State) : exec (.runSeconds t) s = .next (s.at t).countSeconds.secondFull := rfl

theorem State.withStrand_takes (s : State) (k : Strand) : State.strandTakes { s with strand := k } = s.strandTakes
    ∧ State.accGet { s with strand := k } 1 0 1 = s.accGet 1 0 1 := ⟨rfl, rfl⟩

theorem State.secondFull_shows (s : State) (h : 1000 * ms ≤ s.strand.secs) : s.secondFull.regs = s.regs
    ∧ s.secondFull.strand = { s.strand with secs := s.strand.secs - 1000 * ms }
    ∧ s.secondFull.accGet 1 0 1 = if s.strandTakes then plusOne (s.accGet 1 0 1) else s.accGet 1 0 1 := by
  have hs : s.secondFull = ({ s with strand := { s.strand with secs := s.strand.secs - 1000 * ms } } : State).counter 1 := if_pos h
  obtain ⟨hst, hregs, -⟩ := ({ s with strand := { s.strand with secs := s.strand.secs - 1000 * ms } } : State).counter_of_keeps (f := 1)
  obtain ⟨htakes, hget⟩ := s.withStrand_takes { s.strand with secs := s.strand.secs - 1000 * ms }
  rw [hs]
  refine ⟨hregs, hst, ?_⟩
  rw [← htakes, ← hget]
  split
  · next h => exact State.accGet_counter _ h
  · next h => exact congrArg (State.accGet · 1 0 1) (if_neg h)

theorem State.secondsCounted (s : State) (t : Word) : (s.at t).countSeconds.regs = s.regs ∧ (s.at t).countSeconds.acc = s.acc
    ∧ (s.at t).countSeconds.strandTakes = s.strandTakes ∧ (s.at t).countSeconds.strand = { s.strand with
      secAt := t
      secs := s.strand.secs + if s.running = true ∧ 4 ≤ s.get (Reg.WRP_SYNC_STATE s.primary) ∧ s.get (Reg.WRP_SYNC_STATE s.primary) ≤ 6
        then elapsed s.strand.secAt t else 0 } := ⟨rfl, rfl, rfl, rfl⟩

/-- A full second of running time (R578). -/
theorem runningSeconds (t : Word) (s : State) :
    let plus := fun (w : Word) => BitVec.ofNat 48 (min (w.toNat + 1) (W48 - 1))
    let st := s.get (Reg.WRP_SYNC_STATE s.primary)
    let total := s.strand.secs + if s.running = true ∧ 4 ≤ st ∧ st ≤ 6 then elapsed s.strand.secAt t else 0
    (1000 * ms ≤ total → Does (.runSeconds t) s (fun s' => s'.regs = s.regs
        ∧ s'.strand = { s.strand with secAt := t, secs := total - 1000 * ms }
        ∧ s'.accGet 1 0 1 = if s.strandTakes then plus (s.accGet 1 0 1) else s.accGet 1 0 1))
      ∧ (total < 1000 * ms → Does (.runSeconds t) s (fun s' => s'.regs = s.regs ∧ s'.acc = s.acc
        ∧ s'.strand = { s.strand with secAt := t, secs := total })) := by
  intro plus st total
  obtain ⟨hregs, hacc, htakes, hst⟩ := s.secondsCounted t
  have hx := exec_runSeconds t s
  generalize (s.at t).countSeconds = c at *
  have hsecs : c.strand.secs = total := by rw [hst]
  have hget : c.accGet 1 0 1 = s.accGet 1 0 1 := congrArg (Cells.get accDefault · _) hacc
  refine ⟨fun h => ⟨_, hx, ?_⟩, fun h => ⟨_, hx, ?_⟩⟩
  · obtain ⟨hr, hs, ha⟩ := c.secondFull_shows (by rw [hsecs]; exact h)
    rw [hst] at hs
    rw [htakes, hget] at ha
    exact ⟨hr.trans hregs, hs, ha⟩
  · have hn : c.secondFull = c := if_neg (by rw [hsecs]; exact Nat.not_le_of_lt h)
    rw [hn]
    exact ⟨hregs, hacc, hst⟩

/-! ### The recovery finds the current copies (R573, R574, R590) -/

/-- The step of the search for the newest record. -/
def newestStep (w : Option Found) (f : Found) : Option Found :=
  match w with
  | none => some f
  | some v => if newer f v then some f else some v

theorem newestOf_eq (l : List Found) : newestOf l = l.foldl newestStep none := rfl

theorem newestStep_isSome (w : Option Found) (f : Found) : (newestStep w f).isSome = true := by
  unfold newestStep
  cases w with
  | none => rfl
  | some v => dsimp only; split <;> rfl

theorem newest_mem (l : List Found) (w : Option Found) {f : Found} (h : l.foldl newestStep w = some f) : f ∈ l ∨ w = some f := by
  induction l generalizing w with
  | nil => exact .inr h
  | cons x l ih =>
    rcases ih _ h with hl | hx
    · exact .inl (.tail _ hl)
    · cases w with
      | none => exact .inl (Option.some.inj hx ▸ .head _)
      | some v =>
        unfold newestStep at hx
        dsimp only at hx
        split at hx
        · exact .inl (Option.some.inj hx ▸ .head _)
        · exact .inr hx

theorem newestOf_mem {l : List Found} {f : Found} (h : newestOf l = some f) : f ∈ l := (newest_mem l none h).resolve_right nofun

theorem newest_some (l : List Found) {w : Option Found} (h : w.isSome = true) : (l.foldl newestStep w).isSome = true := by
  induction l generalizing w with
  | nil => exact h
  | cons x l ih => exact ih (newestStep_isSome w x)

theorem newestOf_none {l : List Found} (h : newestOf l = none) : l = [] := by
  cases l with
  | nil => rfl
  | cons x l =>
    have hs := newest_some l (newestStep_isSome none x)
    rw [show l.foldl newestStep (newestStep none x) = none from h] at hs
    exact absurd hs (by decide)

section
variable (s : State)

theorem State.currentCopy_kind {type key : Nat} {f : Found} (h : s.currentCopy type key = some f) : f.type = type ∧ f.key = key := by
  have hf := (List.mem_filter.1 (newestOf_mem h)).2
  rwa [decide_eq_true_iff] at hf

/-- The records whose copies the recovery loads. -/
def State.copies (s : State) : List Found := recKinds.filterMap (fun (ty, k) => s.currentCopy ty k)

theorem State.mem_copies {f : Found} (h : f ∈ s.copies) : (f.type, f.key) ∈ recKinds ∧ s.currentCopy f.type f.key = some f := by
  obtain ⟨⟨ty, k⟩, hk, hf⟩ := List.mem_filterMap.1 h
  obtain ⟨rfl, rfl⟩ := s.currentCopy_kind hf
  exact ⟨hk, hf⟩

theorem State.copies_of {type key : Nat} (hk : (type, key) ∈ recKinds) {f : Found} (h : s.currentCopy type key = some f) : f ∈ s.copies :=
  List.mem_filterMap.2 ⟨(type, key), hk, h⟩

theorem recKinds_bounds : ∀ n ∈ recKinds, n.2 < 16 ∧ recLen n.1 < 1024 := by decide

/-- A copy loads the words of its own accumulator. -/
theorem State.loadCopy_loads (f : Found) (h : (f.type, f.key) ∈ recKinds) {k : Nat} (hk : k < recLen f.type) :
    (s.loadCopy f).accGet f.type f.key k = s.recGet (16 * f.slot + 2 + k) := by
  obtain ⟨hkey, hlen⟩ := recKinds_bounds _ h
  dsimp only at hkey hlen
  refine foldl_sets (f := fun y b => y.accSet f.type f.key b (y.recGet (16 * f.slot + 2 + b))) (I := fun y : State => y.recMem = s.recMem)
    (P := fun y : State => y.accGet f.type f.key k = s.recGet (16 * f.slot + 2 + k)) (a := k) (fun y b _ hy => hy) (fun y hy => ?_) (fun y b hb hne _ hp => ?_) rfl (.inl (List.mem_range.2 hk))
  · exact (y.accGet_accSet _ _ _ _).trans (congrArg (Cells.get memDefault · _) hy)
  · have := List.mem_range.1 hb
    exact (y.accGet_accSet_ne (accKey_ne hkey hkey (by omega) (by omega) fun h => hne (by simpa using h.symm)) _).trans hp

theorem State.loadCopy_other (f : Found) (h : (f.type, f.key) ∈ recKinds) {type key k : Nat} (hkey : key < 16) (hk : k < 1024)
    (hne : (type, key) ≠ (f.type, f.key)) : (s.loadCopy f).accGet type key k = s.accGet type key k := by
  obtain ⟨hkey', hlen⟩ := recKinds_bounds _ h
  dsimp only at hkey' hlen
  refine foldl_keeps (I := fun y : State => y.accGet type key k = s.accGet type key k) (fun y b hb hy => ?_) rfl
  have := List.mem_range.1 hb
  exact (y.accGet_accSet_ne (accKey_ne hkey hkey' hk (by omega) fun h => hne (by
    simp only [Prod.mk.injEq] at h ⊢; exact ⟨h.1, h.2.1⟩)) _).trans hy

theorem State.loadCopy_recMem (f : Found) : (s.loadCopy f).recMem = s.recMem :=
  (State.loadCopy_keeps s f (Nat.and_self _) (.refl _ s)).same .recMem (by decide)

/-- What an accumulator word begins with: its current copy, or its default (R590). -/
def State.copyWord (s : State) (type key k : Nat) : Word :=
  match s.currentCopy type key with
  | some f => s.recGet (16 * f.slot + 2 + k)
  | none => accDefault (accKey type key k)

/-- The accumulators as the recovery loads them. -/
def State.copiesLoaded (s : State) : State := s.copies.foldl State.loadCopy { s with acc := [] }

theorem State.copiesLoaded_acc {type key k : Nat} (h : (type, key) ∈ recKinds) (hk : k < recLen type) :
    s.copiesLoaded.accGet type key k = s.copyWord type key k := by
  obtain ⟨hkey, hlen⟩ := recKinds_bounds _ h
  dsimp only at hkey hlen
  unfold State.copyWord
  cases hc : s.currentCopy type key with
  | some f =>
    obtain ⟨rfl, rfl⟩ := s.currentCopy_kind hc
    refine foldl_sets (I := fun y : State => y.recMem = s.recMem) (P := fun y : State => y.accGet f.type f.key k = s.recGet (16 * f.slot + 2 + k))
      (a := f) (fun y b _ hy => (y.loadCopy_recMem b).trans hy) (fun y hy => ?_) (fun y b hb hne _ hp => ?_) rfl (.inl (s.copies_of h hc))
    · exact (y.loadCopy_loads f h hk).trans (congrArg (Cells.get memDefault · _) hy)
    · obtain ⟨hkb, hcb⟩ := s.mem_copies hb
      refine (y.loadCopy_other b hkb hkey (by omega) fun he => hne ?_).trans hp
      rw [Prod.mk.injEq] at he
      rw [← he.1, ← he.2, hc] at hcb
      exact (Option.some.inj hcb).symm
  | none =>
    refine foldl_keeps (I := fun y : State => y.accGet type key k = accDefault (accKey type key k)) (fun y b hb hy => ?_) rfl
    obtain ⟨hkb, hcb⟩ := s.mem_copies hb
    refine (y.loadCopy_other b hkb hkey (by omega) fun he => ?_).trans hy
    rw [Prod.mk.injEq] at he
    rw [← he.1, ← he.2, hc] at hcb
    exact absurd hcb nofun

end

/-! ### What came before READY joins (R578, R579, R591; log entry 80) -/

section
variable (s held : State)

/-- Words 0 to 7 of COUNTERS join. -/
def State.joinWords (s held : State) : State := (List.range 8).foldl (fun s w => s.accAdd 1 0 w (held.accGet 1 0 w).toNat) s

/-- The halves of the banks' words of COUNTERS join. -/
def State.joinHalves (s held : State) : State :=
  (List.range 12).foldl (fun s b => [true, false].foldl (fun s up => s.halfAdd b up ((bankHalf up).get (held.accGet 1 0 (8 + b)))) s) s

/-- EXTREMES joins. -/
def State.joinExtremes (s held : State) : State :=
  (List.range 8).foldl (fun s e =>
    let w := (held.accGet 2 0 (2 * e)).toNat
    let idx := bitsOf w 8 8
    let sgn := decide (e = 4 ∨ e = 7)
    if idx = 0xFF then s else s.extreme e idx (if sgn then signed 32 (bitsOf w 16 32) else bitsOf w 16 32) (decide (e = 6)) sgn) s

theorem State.joinHeld_eq : s.joinHeld held = ((s.joinWords held).joinHalves held).joinExtremes held := rfl

theorem State.joinWords_word {w : Nat} (hw : w < 8) : (s.joinWords held).accGet 1 0 w
    = BitVec.ofNat 48 (min ((s.accGet 1 0 w).toNat + (held.accGet 1 0 w).toNat) (W48 - 1)) := by
  refine foldl_once (f := fun y k => y.accAdd 1 0 k (held.accGet 1 0 k).toNat) (I := fun _ => True) (g := fun y : State => y.accGet 1 0 w)
    (e := fun v => BitVec.ofNat 48 (min (v.toNat + (held.accGet 1 0 w).toNat) (W48 - 1))) List.nodup_range (List.mem_range.2 hw)
    (fun _ _ _ _ => trivial) (fun y b hb hne _ => ?_) (fun y _ => y.accGet_accAdd 1 0 w _) trivial
  have := List.mem_range.1 hb
  exact y.accGet_accAdd_ne (accKey_ne (by omega) (by omega) (by omega) (by omega) fun h => hne (by simpa using h.symm)) _

theorem State.joinWords_other {a b w : Nat} (hb : b < 16) (hw : w < 1024) (h : a ≠ 1 ∨ 8 ≤ w) : (s.joinWords held).accGet a b w = s.accGet a b w :=
  foldl_keeps (I := fun y : State => y.accGet a b w = s.accGet a b w) (fun y k hk hy =>
    (y.accGet_accAdd_ne (accKey_ne hb (by omega) hw (by have := List.mem_range.1 hk; omega) fun he => by
      have := List.mem_range.1 hk
      simp only [Prod.mk.injEq] at he
      omega) _).trans hy) rfl

/-- A bank's word of COUNTERS with `n` added to one half. -/
def halfPlus (up : Bool) (n : Nat) (w : Word) : Word := (bankHalf up).put w (min ((bankHalf up).get w + n) (bankHalf up).max)

theorem State.halfAdd_word (b : Nat) (up : Bool) (n : Nat) : (s.halfAdd b up n).accGet 1 0 (8 + b) = halfPlus up n (s.accGet 1 0 (8 + b)) :=
  s.accGet_accSet 1 0 (8 + b) _

theorem State.halfAdd_other {a b w c n : Nat} {up : Bool} (hb : b < 16) (hw : w < 1024) (hc : c < 12) (h : a ≠ 1 ∨ w ≠ 8 + c) :
    (s.halfAdd c up n).accGet a b w = s.accGet a b w :=
  s.accGet_accSet_ne (accKey_ne hb (by omega) hw (by omega) fun he => by
    simp only [Prod.mk.injEq] at he
    omega) _

/-- Both halves of one bank's word join. -/
def State.joinBank (s held : State) (b : Nat) : State :=
  (s.halfAdd b true ((bankHalf true).get (held.accGet 1 0 (8 + b)))).halfAdd b false ((bankHalf false).get (held.accGet 1 0 (8 + b)))

theorem State.joinHalves_word {b : Nat} (hb : b < 12) : (s.joinHalves held).accGet 1 0 (8 + b)
    = halfPlus false ((bankHalf false).get (held.accGet 1 0 (8 + b))) (halfPlus true ((bankHalf true).get (held.accGet 1 0 (8 + b)))
      (s.accGet 1 0 (8 + b))) := by
  refine foldl_once (f := fun y c => y.joinBank held c) (I := fun _ => True) (g := fun y : State => y.accGet 1 0 (8 + b))
    (e := fun v => halfPlus false ((bankHalf false).get (held.accGet 1 0 (8 + b))) (halfPlus true ((bankHalf true).get (held.accGet 1 0 (8 + b))) v))
    List.nodup_range (List.mem_range.2 hb) (fun _ _ _ _ => trivial) (fun y c hc hne _ => ?_) (fun y _ => ?_) trivial
  · have hc := List.mem_range.1 hc
    exact (State.halfAdd_other _ (by omega) (by omega) hc (.inr (by omega))).trans
      (State.halfAdd_other _ (by omega) (by omega) hc (.inr (by omega)))
  · unfold State.joinBank
    rw [State.halfAdd_word, State.halfAdd_word]

theorem State.joinHalves_other {a b w : Nat} (hb : b < 16) (hw : w < 1024) (h : a ≠ 1 ∨ w < 8) :
    (s.joinHalves held).accGet a b w = s.accGet a b w := by
  refine foldl_keeps (f := fun y c => y.joinBank held c) (I := fun y : State => y.accGet a b w = s.accGet a b w) (fun y c hc hy => ?_) rfl
  have hc := List.mem_range.1 hc
  exact ((State.halfAdd_other _ hb hw hc (by omega)).trans (State.halfAdd_other _ hb hw hc (by omega))).trans hy

theorem State.extreme_other {a b w e idx : Nat} {v : Int} {mn sg : Bool} (hb : b < 16) (hw : w < 1024) (he : e < 8) (h : a ≠ 2) :
    (s.extreme e idx v mn sg).accGet a b w = s.accGet a b w := by
  have hne : ∀ k < 16, accKey a b w ≠ accKey 2 0 k := fun k hk => accKey_ne hb (by omega) hw (by omega) fun h' => h (congrArg Prod.fst h')
  unfold State.extreme
  exact iteInduction (motive := fun y : State => y.accGet a b w = s.accGet a b w)
    (fun _ => (State.accGet_accSet_ne _ (hne _ (by omega)) _).trans (s.accGet_accSet_ne (hne _ (by omega)) _)) fun _ => rfl

theorem State.joinExtremes_other {a b w : Nat} (hb : b < 16) (hw : w < 1024) (h : a ≠ 2) : (s.joinExtremes held).accGet a b w = s.accGet a b w := by
  refine foldl_keeps (I := fun y : State => y.accGet a b w = s.accGet a b w) (fun y e he hy => ?_) rfl
  dsimp only
  split
  · exact hy
  · exact (y.extreme_other hb hw (List.mem_range.1 he) h).trans hy

theorem State.joinExtremes_none (h : ∀ e < 8, bitsOf (held.accGet 2 0 (2 * e)).toNat 8 8 = 0xFF) : s.joinExtremes held = s :=
  foldl_keeps (I := fun y : State => y = s) (fun _ e he hy => (if_pos (h e (List.mem_range.1 he))).trans hy) rfl

/-- What joins beside COUNTERS: nothing, but for an extreme that was taken. -/
theorem State.joinHeld_other {a b w : Nat} (hb : b < 16) (hw : w < 1024) (h1 : a ≠ 1)
    (h2 : a = 2 → ∀ e < 8, bitsOf (held.accGet 2 0 (2 * e)).toNat 8 8 = 0xFF) : (s.joinHeld held).accGet a b w = s.accGet a b w := by
  rw [s.joinHeld_eq held]
  refine Eq.trans ?_ (((s.joinWords held).joinHalves_other held hb hw (.inl h1)).trans (s.joinWords_other held hb hw (.inl h1)))
  by_cases ha : a = 2
  · rw [State.joinExtremes_none _ held (h2 ha)]
  · exact State.joinExtremes_other _ held hb hw ha

theorem State.joinHeld_word {w : Nat} (hw : w < 8) :
    (s.joinHeld held).accGet 1 0 w = BitVec.ofNat 48 (min ((s.accGet 1 0 w).toNat + (held.accGet 1 0 w).toNat) (W48 - 1)) := by
  rw [s.joinHeld_eq held, State.joinExtremes_other _ held (by omega) (by omega) (by omega),
    State.joinHalves_other _ held (by omega) (by omega) (.inr hw), s.joinWords_word held hw]

theorem State.joinHeld_bank {b : Nat} (hb : b < 12) : (s.joinHeld held).accGet 1 0 (8 + b)
    = halfPlus false ((bankHalf false).get (held.accGet 1 0 (8 + b))) (halfPlus true ((bankHalf true).get (held.accGet 1 0 (8 + b)))
      (s.accGet 1 0 (8 + b))) := by
  rw [s.joinHeld_eq held, State.joinExtremes_other _ held (by omega) (by omega) (by omega), State.joinHalves_word _ held hb,
    s.joinWords_other held (by omega) (by omega) (.inr (by omega))]

/-- Each half of a bank's word gets its own part. -/
theorem halfPlus_get (m n : Nat) (w : Word) (up : Bool) :
    (bankHalf up).get (halfPlus false m (halfPlus true n w)) = min ((bankHalf up).get w + if up then n else m) (2 ^ 24 - 1) := by
  have own : ∀ up k v, (bankHalf up).get (halfPlus up k v) = min ((bankHalf up).get v + k) (2 ^ 24 - 1) := fun up k v => by
    unfold halfPlus
    rw [Fld.get_put _ _ _ (by cases up <;> decide)]
    exact Nat.mod_eq_of_lt (show min ((bankHalf up).get v + k) (2 ^ 24 - 1) < 2 ^ 24 by omega)
  have other : ∀ up k v, (bankHalf !up).get (halfPlus up k v) = (bankHalf !up).get v := fun up k v =>
    Fld.get_put_ne _ _ _ _ (by cases up <;> decide) (by cases up <;> decide) (by cases up <;> decide)
  cases up with
  | true => exact (other false m _).trans (own true n w)
  | false => exact (own false m _).trans (congrArg (fun x => min (x + m) (2 ^ 24 - 1)) (other true n w))

end

/-! ### Settling O57 -/

section
variable (s : State)

/-- Pointer and next SEQ follow the newest valid record (R590). -/
def State.pointed (s : State) (o : Option Found) : State :=
  match o with
  | some f => (s.set Reg.REC_STAT_WPTR ((f.slot + recSlots f.type) % 4096)).set Reg.REC_SEQ_NEXT (f.seq + 1)
  | none => (s.set Reg.REC_STAT_WPTR 0).set Reg.REC_SEQ_NEXT 1

theorem State.pointed_same (o : Option Found) : (s.pointed o).acc = s.acc ∧ (s.pointed o).recMem = s.recMem ∧ (s.pointed o).strand = s.strand := by
  cases o <;> exact ⟨rfl, rfl, rfl⟩

theorem State.pointed_some (f : Found) : (s.pointed (some f)).get Reg.REC_STAT_WPTR = (f.slot + recSlots f.type) % 4096
    ∧ (s.pointed (some f)).get Reg.REC_SEQ_NEXT = (f.seq + 1) % 2 ^ 32 := by
  unfold State.pointed
  refine ⟨?_, State.get_set _ _ _ (by simp)⟩
  rw [State.get_set_ne _ _ _ _ (by simp)]
  exact State.get_set_of_lt _ _ (by simp) (Nat.mod_lt _ (by decide))

theorem State.pointed_none : (s.pointed none).get Reg.REC_STAT_WPTR = 0 ∧ (s.pointed none).get Reg.REC_SEQ_NEXT = 1 := by
  unfold State.pointed
  refine ⟨?_, State.get_set_of_lt _ _ (by simp) (by simp)⟩
  rw [State.get_set_ne _ _ _ _ (by simp), State.get_set_of_lt _ _ (by simp) (by simp)]

/-- The records without their MARK. -/
def State.tornCount (s : State) : Nat := (s.scanned.filter (fun f => !f.2)).length

/-- The recovery once the accumulators are loaded and the slots of the signatures known. -/
def State.copiesKnown (s : State) : State :=
  { s.copiesLoaded with strand := { s.copiesLoaded.strand with sigSlot := s.signatureSlots } }

theorem State.recovery_eq : s.recovery = (s.copiesKnown.pointed (newestOf s.validRecords)).set Reg.REC_STAT_TORN (satU 12 s.tornCount) := by
  unfold State.recovery
  extract_lets valid torn current slots s₁ _ s₂ s₃
  have hc : current = s.copies := rfl
  have h₁ : s₁ = s.copiesLoaded := by unfold s₁; rw [hc]; rfl
  clear_value s₁
  have h₂ : s₂ = s.copiesKnown := by unfold State.copiesKnown; rw [← h₁]
  clear_value s₂
  have h₃ : ∀ o, newestOf valid = o → s₃ = s₂.pointed o := fun o ho => by
    unfold s₃
    rw [ho]
    cases o <;> rfl
  rw [h₃ _ rfl, h₂]
  rfl

theorem State.copiesLoaded_same : s.copiesLoaded.recMem = s.recMem ∧ s.copiesLoaded.strand = s.strand :=
  foldl_keeps (I := fun y : State => y.recMem = s.recMem ∧ y.strand = s.strand) (fun y f _ hy =>
    ⟨(y.loadCopy_recMem f).trans hy.1, ((State.loadCopy_keeps y f (Nat.and_self _) (.refl _ y)).same .strand (by decide)).trans hy.2⟩) ⟨rfl, rfl⟩

theorem State.copiesKnown_same : s.copiesKnown.acc = s.copiesLoaded.acc ∧ s.copiesKnown.recMem = s.recMem
    ∧ s.copiesKnown.strand.ebbs = s.strand.ebbs ∧ s.copiesKnown.strand.lwrs = s.strand.lwrs := by
  obtain ⟨hrec, hst⟩ := s.copiesLoaded_same
  unfold State.copiesKnown
  rw [← hrec, ← hst]
  generalize s.copiesLoaded = y
  exact ⟨rfl, rfl, rfl, rfl⟩

theorem State.accGet_of_acc {s s' : State} (h : s'.acc = s.acc) (a b w : Nat) : s'.accGet a b w = s.accGet a b w := by
  unfold State.accGet
  rw [h]

theorem State.set_stored (f : Fld) (v : Nat) : (s.set f v).acc = s.acc ∧ (s.set f v).recMem = s.recMem ∧ (s.set f v).strand = s.strand := ⟨rfl, rfl, rfl⟩

theorem State.recovery_same : s.recovery.acc = s.copiesLoaded.acc ∧ s.recovery.recMem = s.recMem ∧ s.recovery.strand.ebbs = s.strand.ebbs
    ∧ s.recovery.strand.lwrs = s.strand.lwrs := by
  obtain ⟨hacc, hrec, he, hl⟩ := s.copiesKnown_same
  obtain ⟨pacc, prec, pst⟩ := s.copiesKnown.pointed_same (newestOf s.validRecords)
  rw [s.recovery_eq]
  obtain ⟨qacc, qrec, qst⟩ := (s.copiesKnown.pointed (newestOf s.validRecords)).set_stored Reg.REC_STAT_TORN (satU 12 s.tornCount)
  rw [qacc, qrec, qst, pacc, prec, pst]
  exact ⟨hacc, hrec, he, hl⟩

theorem State.recovery_torn : s.recovery.get Reg.REC_STAT_TORN = min s.tornCount 4095 := by
  rw [s.recovery_eq]
  exact State.get_set_of_lt _ _ (by simp) (satU_lt 12 _)

theorem State.recovery_get {f : Fld} (h : Reg.REC_STAT_TORN.misses f) :
    s.recovery.get f = (s.copiesKnown.pointed (newestOf s.validRecords)).get f := by
  rw [s.recovery_eq]
  exact (Writes.refl {Reg.REC_STAT_TORN} _).set rfl _ f fun _ hf => hf ▸ h

/-- What the end of the recovery scan leaves. -/
def State.readyTaken (s : State) : State :=
  let x := (s.recovery.joinHeld s).set Reg.REC_STAT_READY 1
  let x := (x.accAdd 1 0 6 x.strand.ebbs).accAdd 1 0 4 x.strand.lwrs
  { x with strand := { x.strand with ebbs := 0, lwrs := 0 } }

theorem exec_strandlineReady (t : Word) : exec (.strandlineReady t) s
    = .next (if (s.at t).is Reg.REC_STAT_READY ∨ (s.at t).power ≠ .up then s.at t else (s.at t).readyTaken) := rfl

/-- The Ebb warnings and Low-water resets of before READY. -/
def State.earlyCounted (s : State) (ebbs lwrs : Nat) : State :=
  let x := (s.accAdd 1 0 6 ebbs).accAdd 1 0 4 lwrs
  { x with strand := { x.strand with ebbs := 0, lwrs := 0 } }

theorem State.readyTaken_eq : s.readyTaken = ((s.recovery.joinHeld s).set Reg.REC_STAT_READY 1).earlyCounted s.strand.ebbs s.strand.lwrs := by
  obtain ⟨-, -, he, hl⟩ := s.recovery_same
  have hst : ((s.recovery.joinHeld s).set Reg.REC_STAT_READY 1).strand = s.recovery.strand :=
    (State.strand_set _ _ _).trans ((State.joinHeld_keeps s.recovery s (Nat.and_self _) (.refl _ s.recovery)).same .strand (by decide))
  rw [← he, ← hl, ← hst]
  rfl

theorem State.accAdd_same (a b w n : Nat) : (s.accAdd a b w n).regs = s.regs ∧ (s.accAdd a b w n).recMem = s.recMem := ⟨rfl, rfl⟩

theorem State.earlyCounted_same (m n : Nat) : (s.earlyCounted m n).regs = s.regs ∧ (s.earlyCounted m n).recMem = s.recMem
    ∧ (s.earlyCounted m n).strand.ebbs = 0 ∧ (s.earlyCounted m n).strand.lwrs = 0 := by
  obtain ⟨hr₁, hm₁⟩ := s.accAdd_same 1 0 6 m
  obtain ⟨hr₂, hm₂⟩ := (s.accAdd 1 0 6 m).accAdd_same 1 0 4 n
  rw [← hr₁, ← hm₁, ← hr₂, ← hm₂]
  unfold State.earlyCounted
  generalize (s.accAdd 1 0 6 m).accAdd 1 0 4 n = x
  exact ⟨rfl, rfl, rfl, rfl⟩

theorem State.accGet_earlyCounted (m n a b w : Nat) :
    (s.earlyCounted m n).accGet a b w = ((s.accAdd 1 0 6 m).accAdd 1 0 4 n).accGet a b w := rfl

theorem State.earlyCounted_other (m n : Nat) {a b w : Nat} (hb : b < 16) (hw : w < 1024) (h : a ≠ 1 ∨ (w ≠ 6 ∧ w ≠ 4)) :
    (s.earlyCounted m n).accGet a b w = s.accGet a b w := by
  have hne : accKey a b w ≠ accKey 1 0 6 ∧ accKey a b w ≠ accKey 1 0 4 := by
    constructor <;> exact accKey_ne hb (by omega) hw (by omega) fun he => by simp only [Prod.mk.injEq] at he; omega
  rw [s.accGet_earlyCounted, State.accGet_accAdd_ne _ hne.2, s.accGet_accAdd_ne hne.1]

/-- A word once `n` has been added, to its end at most. -/
theorem toNat_satAdd (x n : Nat) : (BitVec.ofNat 48 (min (x + n) (W48 - 1))).toNat = min (x + n) (2 ^ 48 - 1) := by
  rw [BitVec.toNat_ofNat]
  exact Nat.mod_eq_of_lt (show min (x + n) (2 ^ 48 - 1) < 2 ^ 48 by omega)

theorem State.earlyCounted_word (m n : Nat) {w : Nat} (hw : w < 8) : ((s.earlyCounted m n).accGet 1 0 w).toNat
    = min ((s.accGet 1 0 w).toNat + (if w = 6 then m else if w = 4 then n else 0)) (2 ^ 48 - 1) := by
  have hne : accKey 1 0 6 ≠ accKey 1 0 4 := by decide
  by_cases h6 : w = 6
  · subst h6
    rw [if_pos rfl]
    rw [s.accGet_earlyCounted, State.accGet_accAdd_ne _ hne, s.accGet_accAdd, toNat_satAdd]
  · rw [if_neg h6]
    by_cases h4 : w = 4
    · subst h4
      rw [if_pos rfl, s.accGet_earlyCounted, State.accGet_accAdd, s.accGet_accAdd_ne hne.symm, toNat_satAdd]
    · rw [if_neg h4, s.earlyCounted_other m n (by omega) (by omega) (.inr ⟨h6, h4⟩)]
      have := (s.accGet 1 0 w).isLt
      omega

/-- The state that meets the counts of before READY. -/
theorem State.joined_shows : ((s.recovery.joinHeld s).set Reg.REC_STAT_READY 1).recMem = s.recMem
    ∧ ((s.recovery.joinHeld s).set Reg.REC_STAT_READY 1).get Reg.REC_STAT_READY = 1
    ∧ (∀ f, Reg.REC_STAT_READY.misses f → ((s.recovery.joinHeld s).set Reg.REC_STAT_READY 1).get f = s.recovery.get f)
    ∧ ∀ a b w, ((s.recovery.joinHeld s).set Reg.REC_STAT_READY 1).accGet a b w = (s.recovery.joinHeld s).accGet a b w := by
  have hk := State.joinHeld_keeps s.recovery s (Nat.and_self _) (.refl _ s.recovery)
  obtain ⟨hacc, hrec, -⟩ := (s.recovery.joinHeld s).set_stored Reg.REC_STAT_READY 1
  refine ⟨hrec.trans ((hk.same .recMem (by decide)).trans s.recovery_same.2.1), State.get_set_of_lt _ _ (by simp) (by simp), fun f hf => ?_,
    State.accGet_of_acc hacc⟩
  exact ((Writes.refl {Reg.REC_STAT_READY} _).set rfl _ f fun _ h => h ▸ hf).trans (State.get_of_regs (hk.same .regs (by decide)) f)

theorem State.recovery_acc {a b w : Nat} (h : (a, b) ∈ recKinds) (hw : w < recLen a) : s.recovery.accGet a b w = s.copyWord a b w :=
  (State.accGet_of_acc s.recovery_same.1 a b w).trans (s.copiesLoaded_acc h hw)

end

theorem recKinds_word {type key k : Nat} (h : (type, key) ∈ recKinds) (hk : k < recLen type) : key < 16 ∧ k < 1024 := by
  obtain ⟨hkey, hlen⟩ := recKinds_bounds _ h
  dsimp only at hkey hlen
  omega

section
variable (s : State)

/-- The accumulators beside COUNTERS as the recovery leaves them (R590). -/
theorem State.readyTaken_acc {type key k : Nat} (h : (type, key) ∈ recKinds) (hk : k < recLen type) (h1 : type ≠ 1)
    (h2 : type = 2 → ∀ e < 8, bitsOf (s.accGet 2 0 (2 * e)).toNat 8 8 = 0xFF) : s.readyTaken.accGet type key k = s.copyWord type key k := by
  obtain ⟨hkey, hword⟩ := recKinds_word h hk
  rw [s.readyTaken_eq, State.earlyCounted_other _ _ _ hkey hword (.inl h1), s.joined_shows.2.2.2, State.joinHeld_other _ s hkey hword h1 h2,
    s.recovery_acc h hk]

/-- COUNTERS as the recovery leaves it: words 0 to 7 (R578, R590). -/
theorem State.readyTaken_word {w : Nat} (hw : w < 8) : (s.readyTaken.accGet 1 0 w).toNat = min ((s.copyWord 1 0 w).toNat + (s.accGet 1 0 w).toNat
    + (if w = 6 then s.strand.ebbs else if w = 4 then s.strand.lwrs else 0)) (2 ^ 48 - 1) := by
  rw [s.readyTaken_eq, State.earlyCounted_word _ _ _ hw, s.joined_shows.2.2.2, State.joinHeld_word _ s hw, toNat_satAdd,
    s.recovery_acc (by decide) (by rw [show recLen 1 = 20 from rfl]; omega)]
  omega

/-- COUNTERS as the recovery leaves it: the halves of the banks' words. -/
theorem State.readyTaken_half {b : Nat} (hb : b < 12) (up : Bool) : (bankHalf up).get (s.readyTaken.accGet 1 0 (8 + b))
    = min ((bankHalf up).get (s.copyWord 1 0 (8 + b)) + (bankHalf up).get (s.accGet 1 0 (8 + b))) (2 ^ 24 - 1) := by
  rw [s.readyTaken_eq, State.earlyCounted_other _ _ _ (by omega) (by omega) (.inr (by omega)), s.joined_shows.2.2.2, State.joinHeld_bank _ s hb,
    halfPlus_get, s.recovery_acc (by decide) (by rw [show recLen 1 = 20 from rfl]; omega)]
  cases up <;> rfl

/-- The registers that the recovery leaves (R590). -/
theorem State.readyTaken_regs : s.readyTaken.get Reg.REC_STAT_READY = 1 ∧ s.readyTaken.recMem = s.recMem
    ∧ s.readyTaken.get Reg.REC_STAT_TORN = min s.tornCount 4095
    ∧ s.readyTaken.get Reg.REC_STAT_WPTR = (s.copiesKnown.pointed (newestOf s.validRecords)).get Reg.REC_STAT_WPTR
    ∧ s.readyTaken.get Reg.REC_SEQ_NEXT = (s.copiesKnown.pointed (newestOf s.validRecords)).get Reg.REC_SEQ_NEXT
    ∧ s.readyTaken.strand.ebbs = 0 ∧ s.readyTaken.strand.lwrs = 0 := by
  obtain ⟨hrec, hready, hget, -⟩ := s.joined_shows
  rw [s.readyTaken_eq]
  obtain ⟨eregs, erec, eebbs, elwrs⟩ := State.earlyCounted_same ((s.recovery.joinHeld s).set Reg.REC_STAT_READY 1) s.strand.ebbs s.strand.lwrs
  have eget := State.get_of_regs eregs
  refine ⟨(eget _).trans hready, erec.trans hrec, ?_, ?_, ?_, eebbs, elwrs⟩
  · rw [eget, hget _ (by simp [Fld.misses]), s.recovery_torn]
  · rw [eget, hget _ (by simp [Fld.misses]), s.recovery_get (by simp [Fld.misses])]
  · rw [eget, hget _ (by simp [Fld.misses]), s.recovery_get (by simp [Fld.misses])]

end

theorem State.validRecords_at (s : State) (t : Word) : (s.at t).validRecords = s.validRecords := by
  have hh : (s.at t).headerOk = s.headerOk := rfl
  have hf : (s.at t).foundAt = s.foundAt := rfl
  unfold State.validRecords State.scanned
  rw [hh, hf]

theorem State.copyWord_at (s : State) (t : Word) : (s.at t).copyWord = s.copyWord := by
  have hc : (s.at t).currentCopy = s.currentCopy := by
    funext type key
    unfold State.currentCopy
    rw [s.validRecords_at]
  have hr : (s.at t).recGet = s.recGet := rfl
  funext type key k
  unfold State.copyWord
  rw [hc, hr]

/-- The end of the recovery scan (R590). -/
theorem recoveryEnds (t : Word) (s : State) :
    let all := ((List.range 4096).filter s.headerOk).map s.foundAt
    let valid := (all.filter (·.2)).map (·.1)
    let base := s.copyWord
    (s.power = .up → s.is Reg.REC_STAT_READY = false → Does (.strandlineReady t) s (fun s' =>
      s'.get Reg.REC_STAT_READY = 1 ∧ s'.recMem = s.recMem
        ∧ s'.get Reg.REC_STAT_TORN = min (all.filter (fun f => !f.2)).length 4095
        ∧ (valid = [] → s'.get Reg.REC_STAT_WPTR = 0 ∧ s'.get Reg.REC_SEQ_NEXT = 1)
        ∧ (∀ f, newestOf valid = some f → s'.get Reg.REC_STAT_WPTR = (f.slot + recSlots f.type) % 4096
          ∧ s'.get Reg.REC_SEQ_NEXT = (f.seq + 1) % 2 ^ 32)
        ∧ (∀ type key, (type, key) ∈ recKinds → type ≠ 1 →
          (type = 2 → ∀ e < 8, bitsOf (s.accGet 2 0 (2 * e)).toNat 8 8 = 0xFF) →
          ∀ k < recLen type, s'.accGet type key k = base type key k)
        ∧ (∀ w < 8, (s'.accGet 1 0 w).toNat = min ((base 1 0 w).toNat + (s.accGet 1 0 w).toNat
          + (if w = 6 then s.strand.ebbs else if w = 4 then s.strand.lwrs else 0)) (2 ^ 48 - 1))
        ∧ (∀ b < 12, ∀ up, (bankHalf up).get (s'.accGet 1 0 (8 + b))
          = min ((bankHalf up).get (base 1 0 (8 + b)) + (bankHalf up).get (s.accGet 1 0 (8 + b))) (2 ^ 24 - 1))
        ∧ s'.strand.ebbs = 0 ∧ s'.strand.lwrs = 0))
    ∧ (s.is Reg.REC_STAT_READY = true ∨ s.power ≠ .up → Idles (.strandlineReady t) s t) := by
  intro all valid base
  refine ⟨fun hp hr => ?_, fun h => (exec_strandlineReady s t).trans (congrArg _ (if_pos h))⟩
  have hx := (exec_strandlineReady s t).trans (congrArg _ (if_neg (by
    rintro (h | h)
    · exact absurd (hr.symm.trans h) (by decide)
    · exact h hp)))
  obtain ⟨hready, hrec, htorn, hptr, hseq, he, hl⟩ := (s.at t).readyTaken_regs
  refine ⟨_, hx, hready, hrec, htorn, fun hv => ?_, fun f hf => ?_, fun type key h h1 h2 k hk => ?_, fun w hw => ?_, fun b hb up => ?_, he, hl⟩
  · rw [show newestOf (s.at t).validRecords = none by rw [s.validRecords_at]; exact congrArg newestOf hv] at hptr hseq
    obtain ⟨h₁, h₂⟩ := (s.at t).copiesKnown.pointed_none
    exact ⟨hptr.trans h₁, hseq.trans h₂⟩
  · rw [show newestOf (s.at t).validRecords = some f by rw [s.validRecords_at]; exact hf] at hptr hseq
    obtain ⟨h₁, h₂⟩ := (s.at t).copiesKnown.pointed_some f
    exact ⟨hptr.trans h₁, hseq.trans h₂⟩
  · exact ((s.at t).readyTaken_acc h hk h1 h2).trans (congrFun (congrFun (congrFun (s.copyWord_at t) _) _) _)
  · have hword := (s.at t).readyTaken_word hw
    rw [s.copyWord_at] at hword
    exact hword
  · have hhalf := (s.at t).readyTaken_half hb up
    rw [s.copyWord_at] at hhalf
    exact hhalf

/-- Settles O57. -/
theorem strandlineTimersAndRecovery : Obligations.StrandlineTimersAndRecovery := by
  unfold Obligations.StrandlineTimersAndRecovery
  refine ⟨fun t s => ?_, fun t s => ?_⟩
  · obtain ⟨hcoil, hcoil', hboost, hboost'⟩ := timerHistograms t s
    exact ⟨hcoil, hcoil', hboost, hboost', runningSeconds t s⟩
  · intro all valid base
    have hbase : base = s.copyWord := by
      funext type key k
      have hc : newestOf (valid.filter (fun f => decide (f.type = type ∧ f.key = key))) = s.currentCopy type key := rfl
      unfold base State.copyWord
      rw [hc] <;> cases s.currentCopy type key <;> rfl
    clear_value base
    subst hbase
    exact recoveryEnds t s

end Sys2Proof.Machine
end

section
/-! PROOF. The enumeration of the Selvedge lines and the background roll call (O39). -/
namespace Sys2Proof.Machine

/-! ### What a line and a record hold -/

section
variable (s : State)

theorem State.regs_setLine (l : Nat) (k : SelvLine) : (s.setLine l k).regs = s.regs := rfl
theorem State.get_setLine (l : Nat) (k : SelvLine) (f : Fld) : (s.setLine l k).get f = s.get f := rfl
theorem State.line_set (f : Fld) (v l : Nat) : (s.set f v).line l = s.line l := rfl

end

/-- The step of PRESENT over the answer slots. -/
def presentStep (m : Nat) (x : Slot × Nat) : Nat := if x.1 = .zero then m else m + 2 ^ x.2

theorem presentMask_eq (slots : List Slot) : presentMask slots = slots.zipIdx.foldl presentStep 0 := rfl

theorem presentFold_le (l : List Slot) (n m : Nat) : (l.zipIdx n).foldl presentStep m + 2 ^ n ≤ m + 2 ^ (n + l.length) := by
  induction l generalizing n m with
  | nil => exact Nat.le_refl _
  | cons x l ih =>
    have h := ih (n + 1) (presentStep m (x, n))
    rw [List.zipIdx_cons, List.foldl_cons, List.length_cons, show n + (l.length + 1) = n + 1 + l.length by omega]
    have hm : presentStep m (x, n) ≤ m + 2 ^ n := by
      unfold presentStep
      dsimp only
      have := Nat.two_pow_pos n
      split <;> omega
    have := Nat.pow_succ 2 n
    omega

theorem presentMask_lt (base : Int) (ua : Vector Int 16) : presentMask (ua.toList.map (slotOf base)) < 2 ^ 16 := by
  have h := presentFold_le (ua.toList.map (slotOf base)) 0 0
  rw [List.length_map, Vector.length_toList] at h
  rw [presentMask_eq]
  omega

theorem byteFold_lt (f : Nat → Bool) (l : List Nat) (a n : Nat) (ha : a < 2 ^ n) :
    l.foldl (fun a i => 2 * a + (if f i then 1 else 0)) a < 2 ^ (n + l.length) := by
  induction l generalizing a n with
  | nil => exact ha
  | cons i l ih =>
    rw [List.foldl_cons, List.length_cons, show n + (l.length + 1) = n + 1 + l.length by omega]
    refine ih _ (n + 1) ?_
    have := Nat.pow_succ 2 n
    split <;> omega

theorem slotBytes_lt (slots : List Slot) : ∀ b ∈ slotBytes slots, b < 256 := by
  intro b hb
  obtain ⟨n, -, rfl⟩ := List.mem_map.1 hb
  have h := byteFold_lt (fun i => decide (slots.getD (8 * n + i) .zero = .one)) (List.range 8) 0 0 (by decide)
  simp only [decide_eq_true_eq] at h
  exact h

theorem slotByte_lt (slots : List Slot) (n : Nat) : (slotBytes slots).getD n 0 < 256 := by
  rw [List.getD_eq_getElem?_getD]
  cases h : (slotBytes slots)[n]? with
  | none => exact Nat.succ_pos _
  | some b => exact slotBytes_lt slots b (List.mem_of_getElem? h)

theorem serial_lt (slots : List Slot) : beNat (((slotBytes slots).drop 6).take 6) < 2 ^ 48 := by
  have h := beNat_lt (((slotBytes slots).drop 6).take 6) fun b hb => slotBytes_lt slots b (List.mem_of_mem_drop (List.mem_of_mem_take hb))
  refine Nat.lt_of_lt_of_le h ?_
  have hl : (((slotBytes slots).drop 6).take 6).length ≤ 6 := List.length_take_le _ _
  calc 256 ^ (((slotBytes slots).drop 6).take 6).length ≤ 256 ^ 6 := Nat.pow_le_pow_right (by decide) hl
    _ = 2 ^ 48 := by decide

/-! ### ENUM (R495, R499) -/

section
variable (s : State)

/-- A line at the start of its enumeration. -/
def SelvLine.begun (k : SelvLine) (t : Word) : SelvLine :=
  { k with phase := .high, since := t, rolled := false, todo := [], fails := [], results := [] }

/-- The lines at the start of an enumeration. -/
def State.linesBegun (s : State) : State := { s with enumStart := some s.now, selv := s.selv.map (fun k => k.begun s.now) }

/-- FAULT of every line cleared. -/
def State.faultsCleared (s : State) : State := (List.range 14).foldl (fun s l => s.set (Reg.IDN_LINE_FAULT l) 0) s

/-- STATE of every site cleared. -/
def State.statesCleared (s : State) : State := (List.range 72).foldl (fun s x => s.set (Reg.IDN_SITE1_STATE x) 0) s

theorem State.enumBegin_eq : s.enumBegin = s.linesBegun.faultsCleared.statesCleared.set Reg.IDN_STAT_STATE 1 := rfl

theorem vget_map {α : Type} {n : Nat} [Inhabited α] (v : Vector α n) (f : α → α) {i : Nat} (h : i < n) : vget (v.map f) i = f (vget v i) := by
  simp [vget, List.getD_eq_getElem?_getD, h]

theorem State.foldl_set_same (f : Nat → Fld) (v : Nat) (l : List Nat) :
    (l.foldl (fun s x => s.set (f x) v) s).selv = s.selv ∧ (l.foldl (fun s x => s.set (f x) v) s).enumStart = s.enumStart :=
  foldl_keeps (f := fun s x => s.set (f x) v) (I := fun y : State => y.selv = s.selv ∧ y.enumStart = s.enumStart) (fun _ _ _ hy => hy) ⟨rfl, rfl⟩

/-- A fold that sets one field per element. -/
theorem State.foldl_set_get (f : Nat → Fld) (v : Nat) {n x : Nat} (hx : x < n) (hf : (f x).lo + (f x).wid ≤ 48) (hv : v < 2 ^ (f x).wid)
    (hne : ∀ y, y ≠ x → (f y).addr ≠ (f x).addr) : ((List.range n).foldl (fun s x => s.set (f x) v) s).get (f x) = v :=
  foldl_sets (f := fun s x => s.set (f x) v) (I := fun _ => True) (P := fun y : State => y.get (f x) = v) (a := x) (fun _ _ _ _ => trivial)
    (fun y _ => State.get_set_of_lt y _ hf hv) (fun y b _ hb _ hy => (State.get_set_ne y _ _ _ (.inl (hne b hb))).trans hy) trivial
    (.inl (List.mem_range.2 hx))

theorem State.linesBegun_shows : s.linesBegun.enumStart = some s.now ∧ s.linesBegun.selv = s.selv.map (fun k => k.begun s.now) := ⟨rfl, rfl⟩

theorem State.faultsCleared_shows : s.faultsCleared.selv = s.selv ∧ s.faultsCleared.enumStart = s.enumStart
    ∧ ∀ l : Fin 14, s.faultsCleared.get (Reg.IDN_LINE_FAULT l) = 0 := by
  obtain ⟨hsel, hst⟩ := s.foldl_set_same (fun l => Reg.IDN_LINE_FAULT l) 0 (List.range 14)
  exact ⟨hsel, hst, fun l => s.foldl_set_get (fun l => Reg.IDN_LINE_FAULT l) 0 l.isLt (by simp) (by simp) fun y hy => by simp only []; omega⟩

theorem State.statesCleared_shows : s.statesCleared.selv = s.selv ∧ s.statesCleared.enumStart = s.enumStart
    ∧ (∀ x : Fin 72, s.statesCleared.get (Reg.IDN_SITE1_STATE x) = 0) ∧ Writes {f | 0x3081 ≤ f.addr} s s.statesCleared := by
  obtain ⟨hsel, hst⟩ := s.foldl_set_same (fun x => Reg.IDN_SITE1_STATE x) 0 (List.range 72)
  refine ⟨hsel, hst, fun x => s.foldl_set_get (fun x => Reg.IDN_SITE1_STATE x) 0 x.isLt (by simp) (by simp) fun y hy => by simp only []; omega, ?_⟩
  unfold State.statesCleared
  exact (Writes.refl _ s).foldl fun y b _ hy => hy.set (by simp only [Set.mem_ofPred_eq]; omega) 0

theorem State.selv_set (f : Fld) (v : Nat) : (s.set f v).selv = s.selv ∧ (s.set f v).enumStart = s.enumStart := ⟨rfl, rfl⟩

theorem State.enumBegin_shows : s.enumBegin.enumStart = some s.now ∧ s.enumBegin.get Reg.IDN_STAT_STATE = 1
    ∧ (∀ l : Fin 14, s.enumBegin.line l = (s.line l).begun s.now ∧ s.enumBegin.get (Reg.IDN_LINE_FAULT l) = 0)
    ∧ ∀ x : Fin 72, s.enumBegin.get (Reg.IDN_SITE1_STATE x) = 0 := by
  obtain ⟨hstart, hlines⟩ := s.linesBegun_shows
  obtain ⟨hsel₁, hst₁, hfault⟩ := s.linesBegun.faultsCleared_shows
  obtain ⟨hsel₂, hst₂, hstate, hw⟩ := s.linesBegun.faultsCleared.statesCleared_shows
  rw [s.enumBegin_eq]
  generalize s.linesBegun.faultsCleared.statesCleared = y at *
  obtain ⟨hsel₃, hst₃⟩ := y.selv_set Reg.IDN_STAT_STATE 1
  refine ⟨((hst₃.trans hst₂).trans hst₁).trans hstart, State.get_set_of_lt _ _ (by simp) (by simp), fun l => ⟨?_, ?_⟩, fun x => ?_⟩
  · unfold State.line
    rw [hsel₃, hsel₂, hsel₁, hlines]
    exact vget_map s.selv _ l.isLt
  · rw [State.get_set_ne _ _ _ _ (.inl (by simp only []; omega)), hw _ fun f hf => .inl (by simp only [Set.mem_ofPred_eq] at hf ⊢; omega)]
    exact hfault l
  · rw [State.get_set_ne _ _ _ _ (.inl (by simp only []; omega))]
    exact hstate x

theorem State.idnCommand_refused {code : Nat} (h : ¬ (code = 1 ∧ ¬ s.running ∧ s.enumStart = none)) :
    (s.idnCommand code).get Reg.IDN_STAT_CMD_REJ = 1 ∧ (s.idnCommand code).enumStart = s.enumStart
      ∧ ∀ a, a ≠ Reg.IDN_STAT_addr → (s.idnCommand code).reg a = s.reg a := by
  rw [show s.idnCommand code = s.stick Reg.IDN_STAT_CMD_REJ 1 from if_neg h]
  exact ⟨State.get_stick_bit s _ (by simp) rfl, rfl, fun a ha => s.reg_stick_ne _ _ ha⟩

end

/-- ENUM and the codes of IDN_CMD (R495, Table 10.8). -/
theorem enumCommands (t : Word) (s : State) :
    (s.running = false → s.enumStart = none → Does (.enumIdn t) s (fun s' => s'.enumStart = some t
      ∧ s'.get Reg.IDN_STAT_STATE = 1
      ∧ (∀ l : Fin 14, (s'.line l).phase = .high ∧ (s'.line l).since = t ∧ (s'.line l).results = []
        ∧ s'.get (Reg.IDN_LINE_FAULT l) = 0)
      ∧ ∀ x : Fin 72, s'.get (Reg.IDN_SITE1_STATE x) = 0))
    ∧ (let refused := fun (s' : State) => s'.get Reg.IDN_STAT_CMD_REJ = 1 ∧ s'.enumStart = s.enumStart
        ∧ ∀ a, a ≠ Reg.IDN_STAT_addr → s'.reg a = s.reg a
      (s.running = true ∨ s.enumStart.isSome = true → Does (.enumIdn t) s refused)
        ∧ ∀ code : Fin 16, code.val ≠ 1 → Does (.idnCmdInvalid t code) s refused) := by
  refine ⟨fun hr hn => ⟨(s.at t).enumBegin, congrArg Host.Outcome.next (if_pos ⟨rfl, by rw [show (s.at t).running = false from hr]; decide, hn⟩), ?_⟩,
    fun h => ⟨(s.at t).idnCommand 1, rfl, (s.at t).idnCommand_refused ?_⟩,
    fun code hc => ⟨(s.at t).idnCommand code, congrArg Host.Outcome.next (if_neg hc), (s.at t).idnCommand_refused fun h => hc h.1⟩⟩
  · obtain ⟨hstart, hstate, hline, hsite⟩ := (s.at t).enumBegin_shows
    refine ⟨hstart, hstate, fun l => ?_, hsite⟩
    obtain ⟨hl, hf⟩ := hline l
    rw [hl]
    exact ⟨rfl, rfl, rfl, hf⟩
  · rintro ⟨-, hr, hn⟩
    rcases h with h | h
    · exact hr h
    · rw [show s.enumStart = none from hn] at h
      exact absurd h (by decide)

/-! ### A line on its way to its sites (R489 to R496) -/

section
variable (t : Word) (s : State) (l : Fin 14)

/-- The samples of a line (R489). -/
theorem lineSamples (mv ua : Nat) :
    let k := s.line l
    (k.phase = .high → 4000 ≤ mv → ua < 3000 → 100 * us ≤ elapsed k.since t → elapsed k.since t ≤ ms →
      Does (.selvedgeLineReady t ⟨l, mv, ua⟩) s (fun s' => s'.line l = { k with phase := .ready }
        ∧ s'.get (Reg.IDN_LINE_INIT l) = 0))
    ∧ (mv < 4000 → Idles (.selvedgeLineReady t ⟨l, mv, ua⟩) s t)
    ∧ (4000 ≤ mv → k.phase ≠ .high ∨ 3000 ≤ ua ∨ elapsed k.since t < 100 * us ∨ ms < elapsed k.since t →
      Does (.selvedgeLineReady t ⟨l, mv, ua⟩) s (fun s' => s'.line l = k ∧ s'.get (Reg.IDN_LINE_INIT l) = 0)) := by
  intro k
  have hx : exec (.selvedgeLineReady t ⟨l, mv, ua⟩) s = .next
      (if k.phase = .high ∧ 4000 ≤ mv ∧ ua < 3000 ∧ 100 * us ≤ elapsed k.since t ∧ elapsed k.since t ≤ ms then
        (if 4000 ≤ mv then (s.at t).set (Reg.IDN_LINE_INIT l) 0 else s.at t).setLine l { k with phase := .ready }
      else if 4000 ≤ mv then (s.at t).set (Reg.IDN_LINE_INIT l) 0 else s.at t) := rfl
  have hinit : ((s.at t).set (Reg.IDN_LINE_INIT l) 0).get (Reg.IDN_LINE_INIT l) = 0 := State.get_set_of_lt _ _ (by simp) (by simp)
  refine ⟨fun hp hmv hua h₁ h₂ => ⟨_, hx.trans (congrArg _ (if_pos ⟨hp, hmv, hua, h₁, h₂⟩)), State.line_setLine _ _ l.isLt, ?_⟩, fun hmv => ?_,
    fun hmv h => ⟨_, hx.trans (congrArg _ ((if_neg ?_).trans (if_pos hmv))), State.line_set _ _ _ _, hinit⟩⟩
  · rw [if_pos hmv]
    exact hinit
  · have hlow : ¬ 4000 ≤ mv := Nat.not_le_of_lt hmv
    exact hx.trans (congrArg _ ((if_neg fun h => hlow h.2.1).trans (if_neg hlow)))
  · rintro ⟨hp, -, hua, h₁, h₂⟩
    rcases h with h | h | h | h
    · exact h hp
    · omega
    · omega
    · omega

/-- A line that is not ready in time, and the reset of one that is (R489, R490). -/
theorem lineReset :
    let k := s.line l
    (k.phase = .high → ms ≤ elapsed k.since t → Does (.selvedgeLineShort t l) s (fun s' =>
        s'.line l = { k with phase := .done } ∧ s'.get (Reg.IDN_LINE_FAULT l) = 1))
    ∧ (k.phase ≠ .high ∨ elapsed k.since t < ms → Idles (.selvedgeLineShort t l) s t)
    ∧ (k.phase = .ready → Does (.selvedgeReset t l) s (fun s' => s'.line l = { k with phase := .fresh } ∧ s'.regs = s.regs))
    ∧ (k.phase ≠ .ready → Idles (.selvedgeReset t l) s t) := by
  intro k
  refine ⟨fun hp h => ⟨_, congrArg Host.Outcome.next (if_pos ⟨hp, h⟩), (State.line_set _ _ _ _).trans (State.line_setLine _ _ l.isLt),
      State.get_set_of_lt _ _ (by simp) (by simp)⟩,
    fun h => congrArg Host.Outcome.next (if_neg fun hn => h.elim (fun h => h hn.1) fun h => absurd hn.2 (Nat.not_le_of_lt h)),
    fun hp => ⟨_, congrArg Host.Outcome.next (if_pos hp), State.line_setLine _ _ l.isLt, rfl⟩, fun hp => congrArg Host.Outcome.next (if_neg hp)⟩

/-- The roll call of a line (R496). -/
theorem lineRollCall :
    let k := s.line l
    (∀ (base : Int) (ua : Vector Int 16), k.phase = .fresh → k.rolled = false →
      let slots := ua.toList.map (slotOf base)
      let alone := (List.range (sitesOf l)).filter (fun i => decide (slots.getD i .zero = .one))
      Does (.rollCall t l base ua) s (fun s' => s'.get (Reg.IDN_LINE_PRESENT l) = presentMask slots
        ∧ (s'.line l).rolled = true
        ∧ (presentMask slots = 0 → (s'.line l).phase = .done ∧ s'.get (Reg.IDN_LINE_FAULT l) = 2)
        ∧ (presentMask slots ≠ 0 → (s'.line l).todo = alone
          ∧ (s'.line l).phase = if alone = [] then .done else .ready)))
    ∧ (∀ base ua, k.phase ≠ .fresh ∨ k.rolled = true → Idles (.rollCall t l base ua) s t) := by
  intro k
  refine ⟨fun base ua hp hr => ?_, fun base ua h => congrArg Host.Outcome.next (if_pos h)⟩
  intro slots alone
  have hlt : presentMask slots < 2 ^ 16 := presentMask_lt base ua
  have hnot : ¬ (k.phase ≠ .fresh ∨ k.rolled = true) := fun h => h.elim (fun h => h hp) fun h => absurd (hr.symm.trans h) (by decide)
  have hget : ((s.at t).set (Reg.IDN_LINE_PRESENT l) (presentMask slots)).get (Reg.IDN_LINE_PRESENT l) = presentMask slots :=
    State.get_set_of_lt _ _ (by simp) hlt
  by_cases hm : presentMask slots = 0
  · refine ⟨(((s.at t).set (Reg.IDN_LINE_PRESENT l) (presentMask slots)).setLine l { k with phase := .done, rolled := true }).set
      (Reg.IDN_LINE_FAULT l) 2, congrArg Host.Outcome.next ((if_neg hnot).trans (if_pos hm)), ?_, ?_, fun _ => ⟨?_, ?_⟩, fun h => absurd hm h⟩
    · rw [State.get_set_ne _ _ _ _ (by simp)]
      exact hget
    · rw [State.line_set, State.line_setLine _ _ l.isLt]
    · rw [State.line_set, State.line_setLine _ _ l.isLt]
    · exact State.get_set_of_lt _ _ (by simp) (by simp)
  · refine ⟨_, congrArg Host.Outcome.next ((if_neg hnot).trans (if_neg hm)), hget, ?_, fun h => absurd h hm, fun _ => ?_⟩
    · rw [State.line_setLine _ _ l.isLt]
      rfl
    · rw [State.line_setLine _ _ l.isLt]
      exact ⟨rfl, rfl⟩

end

/-! ### The sites of a line (R492 to R496, R501) -/

section
variable (s : State) (l : Fin 14) {i : Nat} {rest : List Nat}

theorem State.siteDone_shows {x : State} (hx : x.line l = s.line l) (h : (s.line l).todo = i :: rest) (code : Nat) :
    ((x.siteDone l code).line l).todo = rest ∧ ((x.siteDone l code).line l).results = (s.line l).results ++ [(i, code)]
      ∧ (x.siteDone l code).regs = x.regs := by
  have hd : x.siteDone l code = x.setLine l ({ s.line l with todo := rest, results := (s.line l).results ++ [(i, code)] } : SelvLine).goOn := by
    unfold State.siteDone
    dsimp only
    rw [hx, h]
  rw [hd, State.line_setLine _ _ l.isLt]
  exact ⟨rfl, rfl, rfl⟩

theorem State.siteFailed_first (h : (s.line l).fails = []) (kind : Nat) : (s.siteFailed l kind).line l = { s.line l with phase := .ready, fails := [kind] }
    ∧ (s.siteFailed l kind).regs = s.regs := by
  have hf : s.siteFailed l kind = s.setLine l { s.line l with phase := .ready, fails := [kind] } := by
    unfold State.siteFailed
    dsimp only
    rw [h]
  rw [hf, State.line_setLine _ _ l.isLt]
  exact ⟨rfl, rfl⟩

/-- An accepted record of site `x` stands in its registers. -/
def State.siteRead (s : State) (x : Nat) (bs : List Nat) : State :=
  ((s.areaWrite x (bs.take (beNat [bs.getD 4 0, bs.getD 5 0]))).set (Reg.IDN_SITE0_SERIAL x) (beNat ((bs.drop 6).take 6))).set
    (Reg.IDN_SITE1_TYPE x) (bs.getD 3 0)

theorem State.areaWrite_line (x : Nat) (bs : List Nat) (l : Nat) : (s.areaWrite x bs).line l = s.line l :=
  congrArg (vget · l) ((State.areaWrite_keeps s x bs (Nat.and_self _) (.refl _ s)).same .selv (by decide))

theorem State.siteRead_shows (x : Nat) (slots : List Slot) : (∀ l, (s.siteRead x (slotBytes slots)).line l = s.line l)
    ∧ (s.siteRead x (slotBytes slots)).get (Reg.IDN_SITE0_SERIAL x) = beNat (((slotBytes slots).drop 6).take 6)
    ∧ (s.siteRead x (slotBytes slots)).get (Reg.IDN_SITE1_TYPE x) = (slotBytes slots).getD 3 0 := by
  unfold State.siteRead
  refine ⟨fun l => ?_, ?_, State.get_set_of_lt _ _ (by simp) (slotByte_lt slots 3)⟩
  · rw [State.line_set, State.line_set, State.areaWrite_line]
  · rw [State.get_set_ne _ _ _ _ (.inl (by simp only []; omega))]
    exact State.get_set_of_lt _ _ (by simp) (serial_lt slots)

variable (t : Word)

/-- The selection and the reading of the first site (R492, R494, R501). -/
theorem siteReading :
    let k := s.line l
    (∀ (base : Int) (i : Nat) (rest : List Nat), k.todo = i :: rest →
      let judged := fun (code : Nat) (s' : State) => (s'.line l).todo = rest ∧ (s'.line l).results = k.results ++ [(i, code)]
      let again := fun (s' : State) => s'.line l = { k with phase := .ready, fails := [0] } ∧ s'.regs = s.regs
      (∀ ua : Vector Int 49, k.phase = .fresh → k.rolled = true →
        let slots := ua.toList.map (slotOf base)
        (slots.contains .collide = true → Does (.selectSite t l base ua) s (judged 6))
          ∧ (slots.contains .collide = false → slots.getD 0 .zero = .one → Does (.selectSite t l base ua) s (fun s' =>
            s'.line l = { k with phase := .selected } ∧ s'.regs = s.regs))
          ∧ (slots.contains .collide = false → slots.getD 0 .zero = .zero → k.fails = [] →
            Does (.selectSite t l base ua) s again))
        ∧ (∀ ua : List Int, k.phase = .selected →
          let slots := ua.map (slotOf base)
          let bs := slotBytes slots
          let x := siteIndex l i
          (slots.contains .collide = false → recordFault bs = none → i < sitesOf l → Does (.selvedgeRead t l base ua) s
              (fun s' => judged 1 s' ∧ s'.get (Reg.IDN_SITE0_SERIAL x) = beNat ((bs.drop 6).take 6)
                ∧ s'.get (Reg.IDN_SITE1_TYPE x) = bs.getD 3 0))
            ∧ (slots.contains .collide = true → k.fails = [] → Does (.selvedgeRead t l base ua) s again)
            ∧ (∀ kind, slots.contains .collide = false → recordFault bs = some kind → k.fails = [] →
              Does (.selvedgeRead t l base ua) s (fun s' =>
                s'.line l = { k with phase := .ready, fails := [kind] } ∧ s'.regs = s.regs))))
    ∧ (∀ base ua, k.phase ≠ .fresh ∨ k.rolled = false ∨ k.todo = [] → Idles (.selectSite t l base ua) s t)
    ∧ (∀ base ua, k.phase ≠ .selected → Idles (.selvedgeRead t l base ua) s t) := by
  intro k
  have hbool : ∀ {b : Bool}, b = false → ¬ b = true := fun h => by rw [h]; decide
  refine ⟨fun base i rest htodo => ?_, fun base ua h => congrArg Host.Outcome.next (if_pos ?_), fun base ua h => congrArg Host.Outcome.next (if_pos h)⟩
  · intro judged again
    refine ⟨fun ua hp hr => ?_, fun ua hp => ?_⟩
    · intro slots
      have hnot : ¬ (k.phase ≠ .fresh ∨ ¬ k.rolled = true ∨ k.todo = []) := by
        rintro (h | h | h)
        · exact h hp
        · exact h hr
        · exact absurd (h.symm.trans htodo) (by simp)
      refine ⟨fun hc => ⟨(s.at t).siteDone l 6, congrArg Host.Outcome.next ((if_neg hnot).trans (if_pos hc)), ?_⟩,
        fun hc h1 => ⟨_, congrArg Host.Outcome.next ((if_neg hnot).trans ((if_neg (hbool hc)).trans (if_neg ?_))), State.line_setLine _ _ l.isLt, rfl⟩,
        fun hc h0 hf => ⟨(s.at t).siteFailed l 0, congrArg Host.Outcome.next ((if_neg hnot).trans ((if_neg (hbool hc)).trans (if_pos h0))),
          (s.at t).siteFailed_first l hf 0⟩⟩
      · obtain ⟨h₁, h₂, -⟩ := s.siteDone_shows l (x := s.at t) rfl htodo 6
        exact ⟨h₁, h₂⟩
      · exact fun h0 => absurd (h1.symm.trans h0) (by decide)
    · intro slots bs x
      have hnot : ¬ k.phase ≠ .selected := not_not_intro hp
      refine ⟨fun hc hf hi => ?_, fun hc hf => ⟨(s.at t).siteFailed l 0, congrArg Host.Outcome.next ((if_neg hnot).trans (if_pos hc)),
        (s.at t).siteFailed_first l hf 0⟩, fun kind hc hk hf => ⟨(s.at t).siteFailed l kind, ?_, (s.at t).siteFailed_first l hf kind⟩⟩
      · refine ⟨((s.at t).siteRead x bs).siteDone l 1, ?_, ?_⟩
        · refine congrArg Host.Outcome.next ((if_neg hnot).trans ((if_neg (hbool hc)).trans ?_))
          rw [show recordFault (slotBytes (ua.map (slotOf base))) = none from hf]
          dsimp only
          rw [show ((s.at t).line l).todo.headD 0 = i from congrArg (List.headD · 0) htodo]
          rfl
        · obtain ⟨hline, hserial, htype⟩ := (s.at t).siteRead_shows x slots
          obtain ⟨h₁, h₂, h₃⟩ := s.siteDone_shows l (x := (s.at t).siteRead x bs) (hline l) htodo 1
          exact ⟨⟨h₁, h₂⟩, (State.get_of_regs h₃ _).trans hserial, (State.get_of_regs h₃ _).trans htype⟩
      · refine congrArg Host.Outcome.next ((if_neg hnot).trans ((if_neg (hbool hc)).trans ?_))
        rw [show recordFault (slotBytes (ua.map (slotOf base))) = some kind from hk]
  · rcases h with h | h | h
    · exact .inl h
    · exact .inr (.inl (hbool h))
    · exact .inr (.inr h)

end

/-! ### The end of the enumeration (R497 to R500) -/

section
variable (s : State)

/-- The sites judged and looked up, the effective values formed, the drift table kept. -/
def State.enumJudged (s : State) : State :=
  let x := ((List.range 48).foldl State.lookup ((List.range 72).foldl State.siteState s)).form
  if x.hasTile 0x0F 0 then (List.range 48).foldl State.driftTake x else x

/-- The enumeration that began at `a` ends. -/
def State.enumEnded (s : State) (a t : Word) : State :=
  let s := (s.enumJudged.set Reg.IDN_STAT_TIME (satUI 16 (openRound ((elapsed a t : Rat) / us)))).set Reg.IDN_STAT_STATE 2
  { s with enumStart := none, selv := s.selv.map (fun (k : SelvLine) => { k with phase := .off }) }

theorem exec_enumDone {t a : Word} (h : s.enumStart = some a) : exec (.enumDone t) s
    = .next (if s.weave.loading || s.selv.toList.any (fun k => decide (k.phase ≠ .done)) || (s.hasTile 0x0F 0 && !s.is Reg.REC_STAT_READY) then s.at t
      else (s.at t).enumEnded a t) := by
  refine congrArg Host.Outcome.next ?_
  dsimp only
  rw [show (s.at t).enumStart = some a from h]
  rfl

theorem exec_enumDone_none {t : Word} (h : s.enumStart = none) : exec (.enumDone t) s = .next (s.at t) := by
  refine congrArg Host.Outcome.next ?_
  dsimp only
  rw [show (s.at t).enumStart = none from h]

theorem State.formInput_inCal (i : Nat) : (s.formInput i).inCal.length = s.inCal.length + 1 := by
  unfold State.formInput
  extract_lets o g s₁
  have h : s₁.inCal = s.inCal :=
    ((State.clampedAt_keeps _ 3 i g.2 (Nat.and_self _) (.refl _ _)).same .inCal (by decide)).trans
      ((State.clampedAt_keeps s 2 i o.2 (Nat.and_self _) (.refl _ s)).same .inCal (by decide))
  rw [List.length_append, h]
  rfl

theorem State.formInputs_inCal (n : Nat) : ((List.range n).foldl State.formInput { s with inCal := [] }).inCal.length = n := by
  induction n with
  | zero => rfl
  | succ n ih => rw [List.range_succ, List.foldl_append, List.foldl_cons, List.foldl_nil, State.formInput_inCal, ih]

/-- Formation gives each input its offset and gain. -/
theorem State.form_inCal : s.form.inCal.length = 46 := by
  unfold State.form
  extract_lets s₁ s₂ s₃
  have h₁ : s₁.inCal.length = 46 := s.formInputs_inCal 46
  have h₂ : s₂.inCal = s₁.inCal :=
    (Keeps.foldl (fun y j h => State.formScale_keeps y j (Nat.and_self _) h) _ _ (.refl _ s₁)).same .inCal (by decide)
  have h₃ : s₃.inCal = s₂.inCal := by
    have hsite := (Keeps.foldl (fun y j h => State.formSite_keeps y j (Nat.and_self _) h) (List.range 48) s₂ (.refl _ s₂)).same .inCal (by decide)
    exact ((State.formPump_keeps _ (Nat.and_self _) (.refl _ _)).same .inCal (by decide)).trans hsite
  exact (congrArg List.length (h₃.trans h₂)).trans h₁

theorem State.enumJudged_inCal : s.enumJudged.inCal.length = 46 := by
  unfold State.enumJudged
  extract_lets x
  have hx : x.inCal.length = 46 := State.form_inCal _
  clear_value x
  split
  · have h := (Keeps.foldl (fun y j h => State.driftTake_keeps y j (Nat.and_self _) h) (List.range 48) x (.refl _ x)).same .inCal (by decide)
    rw [h]
    exact hx
  · exact hx

theorem State.ended_same (s : State) (e : Option Word) (k : Vector SelvLine 14) :
    State.get { s with enumStart := e, selv := k } = s.get ∧ State.inCal { s with enumStart := e, selv := k } = s.inCal := ⟨rfl, rfl⟩

theorem State.inCal_set (f : Fld) (v : Nat) : (s.set f v).inCal = s.inCal := rfl

theorem State.enumEnded_shows (a t : Word) : (s.enumEnded a t).enumStart = none ∧ (s.enumEnded a t).get Reg.IDN_STAT_STATE = 2
    ∧ (s.enumEnded a t).inCal.length = 46 ∧ ∀ l : Fin 14, ((s.enumEnded a t).line l).phase = .off := by
  have hin := s.enumJudged_inCal
  unfold State.enumEnded
  extract_lets x
  have hx : x.inCal.length = 46 := by
    unfold x
    rw [State.inCal_set, State.inCal_set]
    exact hin
  have hstate : x.get Reg.IDN_STAT_STATE = 2 := State.get_set_of_lt _ _ (by simp) (by simp)
  clear_value x
  obtain ⟨hget, hinCal⟩ := x.ended_same none (x.selv.map (fun (k : SelvLine) => { k with phase := .off }))
  refine ⟨rfl, (congrFun hget _).trans hstate, (congrArg List.length hinCal).trans hx, fun l => ?_⟩
  exact congrArg SelvLine.phase (vget_map x.selv (fun (k : SelvLine) => { k with phase := .off }) l.isLt)

theorem State.all_done_iff : s.selv.toList.any (fun k => decide (k.phase ≠ .done)) = true ↔ ∃ l : Fin 14, (s.line l).phase ≠ .done := by
  rw [List.any_eq_true]
  constructor
  · rintro ⟨k, hk, hp⟩
    obtain ⟨n, hn, rfl⟩ := List.mem_iff_getElem.1 hk
    rw [Vector.length_toList] at hn
    refine ⟨⟨n, hn⟩, ?_⟩
    rw [decide_eq_true_iff] at hp
    unfold State.line vget
    rw [List.getD_eq_getElem _ _ (by rw [Vector.length_toList]; exact hn)]
    exact hp
  · rintro ⟨l, hp⟩
    have hl : l.val < s.selv.toList.length := by rw [Vector.length_toList]; exact l.isLt
    refine ⟨s.line l, ?_, decide_eq_true hp⟩
    unfold State.line vget
    rw [List.getD_eq_getElem _ _ hl]
    exact List.getElem_mem hl

/-- The end of the enumeration (R497 to R500). -/
theorem enumEnds (t : Word) :
    (s.enumStart.isSome = true → s.weave.loading = false → (∀ l : Fin 14, (s.line l).phase = .done) →
      (s.hasTile 0x0F 0 = true → s.is Reg.REC_STAT_READY = true) → Does (.enumDone t) s (fun s' => s'.enumStart = none
        ∧ s'.get Reg.IDN_STAT_STATE = 2 ∧ s'.inCal.length = 46 ∧ ∀ l : Fin 14, (s'.line l).phase = .off))
    ∧ (s.enumStart = none ∨ s.weave.loading = true ∨ (∃ l : Fin 14, (s.line l).phase ≠ .done)
      ∨ (s.hasTile 0x0F 0 = true ∧ s.is Reg.REC_STAT_READY = false) → Idles (.enumDone t) s t) := by
  refine ⟨fun hs hload hdone hready => ?_, fun h => ?_⟩
  · obtain ⟨a, ha⟩ := Option.isSome_iff_exists.1 hs
    have hany : s.selv.toList.any (fun k => decide (k.phase ≠ .done)) = false := by
      rw [← Bool.not_eq_true, s.all_done_iff]
      exact fun ⟨l, hl⟩ => hl (hdone l)
    have hrec : (s.hasTile 0x0F 0 && !s.is Reg.REC_STAT_READY) = false := by
      cases hT : s.hasTile 0x0F 0
      · rfl
      · rw [hready hT]
        rfl
    exact ⟨_, (exec_enumDone s ha).trans (congrArg _ (if_neg (by rw [hload, hany, hrec]; decide))), (s.at t).enumEnded_shows a t⟩
  · cases ha : s.enumStart with
    | none => exact exec_enumDone_none s ha
    | some a =>
      refine (exec_enumDone s ha).trans (congrArg _ (if_pos ?_))
      rcases h with h | h | h | ⟨h, h'⟩
      · exact absurd (ha.symm.trans h) nofun
      · rw [h, Bool.true_or, Bool.true_or]
      · rw [s.all_done_iff.2 h, Bool.or_true, Bool.true_or]
      · rw [h, h']
        exact Bool.or_true _

/-! ### The background roll call (R510) -/

/-- What a site of a background roll call keeps, and the bit that it sets. -/
theorem State.rollSite_writes (l i : Nat) (bit : Bool) : Writes {Reg.IDN_LINE_LOST l} s (s.rollSite l i bit) := by
  unfold State.rollSite
  dsimp only
  split
  · exact ((Writes.refl {Reg.IDN_LINE_LOST l} s).stick rfl _).report _ _ _ _ _
  · split
    · exact (Writes.refl _ s).report _ _ _ _ _
    · exact .refl _ s

theorem State.rollSite_selv (l i : Nat) (bit : Bool) : (s.rollSite l i bit).selv = s.selv :=
  (State.rollSite_keeps s l i bit (Nat.and_self _) (.refl _ s)).same .selv (by decide)

theorem State.rollSite_lost {l i : Nat} (hst : s.get (Reg.IDN_SITE1_STATE (siteIndex l i)) = 1) (hi : i < 16) :
    ((s.rollSite l i false).get (Reg.IDN_LINE_LOST l)).testBit i = true := by
  unfold State.rollSite
  dsimp only
  rw [if_pos ⟨hst, by decide⟩, State.get_report]
  unfold State.stickBit
  rw [State.get_stick _ _ (by simp) (Nat.pow_lt_pow_right (by decide) hi), Nat.testBit_or, Nat.testBit_two_pow_self, Bool.or_true]

theorem State.rollSite_lost_stays {l i k : Nat} {bit : Bool} (hi : i < 16) (h : (s.get (Reg.IDN_LINE_LOST l)).testBit k = true) :
    ((s.rollSite l i bit).get (Reg.IDN_LINE_LOST l)).testBit k = true := by
  unfold State.rollSite
  dsimp only
  split
  · rw [State.get_report]
    unfold State.stickBit
    rw [State.get_stick _ _ (by simp) (Nat.pow_lt_pow_right (by decide) hi), Nat.testBit_or, h, Bool.true_or]
  · split
    · rw [State.get_report]
      exact h
    · exact h

theorem site_lt {l i : Nat} (hi : i < sitesOf l) : i < 16 := by
  unfold sitesOf at hi
  split at hi <;> omega

/-- The roll call over the sites of a line. -/
def State.rolled (s : State) (l m : Nat) : State := (List.range (sitesOf l)).foldl (fun s i => s.rollSite l i (m.testBit i)) s

theorem State.rolled_writes (l m : Nat) : Writes {Reg.IDN_LINE_LOST l} s (s.rolled l m) :=
  Writes.foldl (fun y i _ hy => hy.trans (y.rollSite_writes l i _)) (.refl _ s)

theorem State.rolled_selv (l m : Nat) : (s.rolled l m).selv = s.selv :=
  foldl_keeps (f := fun s i => s.rollSite l i (m.testBit i)) (I := fun y : State => y.selv = s.selv)
    (fun y i _ hy => (y.rollSite_selv l i _).trans hy) rfl

/-- A VALID site that does not answer is lost. -/
theorem State.rolled_lost {l i m : Nat} (hl : l < 14) (hi : i < sitesOf l) (hst : s.get (Reg.IDN_SITE1_STATE (siteIndex l i)) = 1)
    (hm : m.testBit i = false) : ((s.rolled l m).get (Reg.IDN_LINE_LOST l)).testBit i = true := by
  have miss : (Reg.IDN_LINE_LOST l).misses (Reg.IDN_SITE1_STATE (siteIndex l i)) := .inl (by simp only []; omega)
  refine foldl_sets (f := fun s i => s.rollSite l i (m.testBit i)) (I := fun y : State => y.get (Reg.IDN_SITE1_STATE (siteIndex l i)) = 1)
    (P := fun y : State => (y.get (Reg.IDN_LINE_LOST l)).testBit i = true) (a := i)
    (fun y b _ hy => (y.rollSite_writes l b _ _ fun _ hf => hf ▸ miss).trans hy) (fun y hy => ?_)
    (fun y b hb _ _ hp => y.rollSite_lost_stays (site_lt (List.mem_range.1 hb)) hp) hst (.inl (List.mem_range.2 hi))
  rw [hm]
  exact y.rollSite_lost hy (site_lt hi)

/-- The background roll call of a line (R510). -/
theorem backgroundRollCall (t : Word) (l : Fin 14) (base : Int) (ua : Vector Int 16) :
    let m := presentMask (ua.toList.map (slotOf base))
    let due := s.get Reg.IDN_STAT_RC_PER * (100 * ms) ≤ elapsed (s.line l).rollAt t
    (s.running = true → s.is Reg.IDN_STAT_RC_EN = true → s.enumStart = none →
      (12 ≤ l.val ∨ ∀ a, (s.bk l).commitAt = some a → 200 * us ≤ elapsed a t) → due →
        Does (.backgroundRollCall t l base ua) s (fun s' => s'.get (Reg.IDN_LINE_PRESENT l) = m ∧ (s'.line l).rollAt = t
          ∧ ∀ i < sitesOf l, s.get (Reg.IDN_SITE1_STATE (siteIndex l i)) = 1 → m.testBit i = false →
            (s'.get (Reg.IDN_LINE_LOST l)).testBit i = true))
    ∧ (s.running = false ∨ s.is Reg.IDN_STAT_RC_EN = false ∨ s.enumStart.isSome = true ∨ ¬ due → Idles (.backgroundRollCall t l base ua) s t) := by
  intro m due
  refine ⟨fun hr hen hn hnear hdue => ?_, fun h => congrArg Host.Outcome.next (if_pos ?_)⟩
  · refine ⟨(((s.at t).setLine l { s.line l with rollAt := t }).set (Reg.IDN_LINE_PRESENT l) m).rolled l m,
      congrArg Host.Outcome.next (if_neg ?_), ?_, ?_, fun i hi hst hm => ?_⟩
    · rintro (h | h | h | h | h)
      · exact h hr
      · exact h hen
      · rw [show (s.at t).enumStart = none from hn] at h
        exact absurd h (by decide)
      · obtain ⟨hl, ha⟩ := Bool.and_eq_true_iff.1 h
        rw [decide_eq_true_iff] at hl
        obtain ⟨hs, hlt⟩ := (Option.any_eq_true_iff_get _ _).1 ha
        rw [decide_eq_true_iff] at hlt
        have hc : (s.bk l).commitAt = some _ := (Option.some_get hs).symm
        exact hnear.elim (fun h => by omega) fun hfar => absurd hlt (Nat.not_lt_of_le (hfar _ hc))
      · exact absurd hdue (Nat.not_le_of_lt h)
    · rw [State.rolled_writes _ _ _ _ (by rintro g rfl; simp [Fld.misses])]
      exact State.get_set_of_lt _ _ (by simp) (presentMask_lt base ua)
    · unfold State.line
      rw [State.rolled_selv, (State.selv_set _ _ _).1]
      exact congrArg SelvLine.rollAt (State.line_setLine _ _ l.isLt)
    · refine State.rolled_lost _ l.isLt hi ?_ hm
      rw [State.get_set_ne _ _ _ _ (.inl (by simp only []; omega))]
      exact hst
  · rcases h with h | h | h | h
    · exact .inl fun hn => absurd (h.symm.trans hn) (by decide)
    · exact .inr (.inl fun hn => absurd (h.symm.trans hn) (by decide))
    · exact .inr (.inr (.inl h))
    · exact .inr (.inr (.inr (.inr (Nat.lt_of_not_le h))))

end

/-- Settles O39. -/
theorem enumeration : Obligations.Enumeration := by
  unfold Obligations.Enumeration
  refine ⟨fun t s => ?_, fun t s => ?_⟩
  · obtain ⟨hstart, hrefused⟩ := enumCommands t s
    refine ⟨hstart, hrefused, fun l => ?_⟩
    obtain ⟨hshort, hshort', hreset, hreset'⟩ := lineReset t s l
    obtain ⟨hroll, hroll'⟩ := lineRollCall t s l
    exact ⟨lineSamples t s l, hshort, hshort', hreset, hreset', hroll, hroll', siteReading s l t⟩
  · obtain ⟨hends, hidle⟩ := enumEnds s t
    exact ⟨hends, hidle, fun l base ua => backgroundRollCall s t l base ua⟩

end Sys2Proof.Machine
end

section
/-! PROOF. A Warp's filter, its direction pulses and what a change of the crank's state leaves of the Warps (O29). -/
namespace Sys2Proof.Machine

/-! ### What a change of the crank's state leaves of the Warps and the tokens -/

/-- A Warp without what the end of a learning session changes. -/
def Warp.tracked (w : Warp) : Warp := { w with kept := false, conv := 0, swapDue := false }

/-- From `s₀` to `s` the Warps stay, but for their learning. -/
def Tracks (s₀ s : State) : Prop := ∀ j, (s.wp j).tracked = (s₀.wp j).tracked

section
variable {s₀ s s' : State}

theorem Tracks.refl (s : State) : Tracks s s := fun _ => rfl
theorem Tracks.trans {s₁ : State} (h : Tracks s₀ s₁) (h' : Tracks s₁ s) : Tracks s₀ s := fun j => (h' j).trans (h j)
theorem Tracks.of_warps (h : Tracks s₀ s) (e : s'.warps = s.warps) : Tracks s₀ s' := fun j => by
  unfold State.wp
  rw [e]
  exact h j

theorem Tracks.pos (h : Tracks s₀ s) (j : Nat) : (s.wp j).pos = (s₀.wp j).pos := (congrArg Warp.pos (h j) :)
theorem Tracks.hasRef (h : Tracks s₀ s) (j : Nat) : (s.wp j).hasRef = (s₀.wp j).hasRef := (congrArg Warp.hasRef (h j) :)
theorem Tracks.level (h : Tracks s₀ s) (j : Nat) : (s.wp j).level = (s₀.wp j).level := (congrArg Warp.level (h j) :)
theorem Tracks.pulseRev (h : Tracks s₀ s) (j : Nat) : (s.wp j).pulseRev = (s₀.wp j).pulseRev := (congrArg Warp.pulseRev (h j) :)
theorem Tracks.stallBase (h : Tracks s₀ s) (j : Nat) : (s.wp j).stallBase = (s₀.wp j).stallBase := (congrArg Warp.stallBase (h j) :)

theorem Tracks.setWp (h : Tracks s₀ s) {n : Nat} (hn : n < 6) {w : Warp} (hw : w.tracked = (s.wp n).tracked) : Tracks s₀ (s.setWp n w) := fun j => by
  by_cases hj : j = n
  · subst hj
    rw [State.wp_setWp _ _ hn, hw]
    exact h j
  · rw [State.wp_setWp_ne _ _ hj]
    exact h j

theorem State.sessionEnds_tracks (h : Tracks s₀ s) {n : Nat} (hn : n < 6) (cause : Nat) : Tracks s₀ (s.sessionEnds n cause) := h.setWp hn rfl

theorem State.learnAbort_tracks (h : Tracks s₀ s) (cause : Nat) : Tracks s₀ (s.learnAbort cause) := by
  unfold State.learnAbort
  split
  · extract_lets x
    have hx : Tracks s₀ x := State.sessionEnds_tracks (State.sessionEnds_tracks h (by decide) cause) (by decide) cause
    exact hx.of_warps rfl
  · exact h

theorem State.verdict_warps (s : State) (pass : Bool) : (s.verdict pass).warps = s.warps ∧ (s.verdict pass).shTok = s.shTok
    ∧ (s.verdict pass).primary = s.primary :=
  have h := State.verdict_keeps s pass (Nat.and_self _) (.refl _ s)
  ⟨h.same .warps (by decide), h.same .shTok (by decide), h.same .primary (by decide)⟩

theorem State.leaveStopOwn_warps (s : State) : s.leaveStopOwn.warps = s.warps ∧ s.leaveStopOwn.shTok = s.shTok
    ∧ s.leaveStopOwn.primary = s.primary ∧ s.leaveStopOwn.wefts = s.wefts :=
  have h := State.leaveStopOwn_keeps s (Nat.and_self _) (.refl _ s)
  ⟨h.same .warps (by decide), h.same .shTok (by decide), h.same .primary (by decide), h.same .wefts (by decide)⟩

theorem State.counter_warps (s : State) (n : Nat) : (s.counter n).warps = s.warps ∧ (s.counter n).shTok = s.shTok
    ∧ (s.counter n).primary = s.primary :=
  have h := State.counter_keeps s n (Nat.and_self _) (.refl _ s)
  ⟨h.same .warps (by decide), h.same .shTok (by decide), h.same .primary (by decide)⟩

theorem State.primaryChanged_tracks (h : Tracks s₀ s) (old new : Nat) : Tracks s₀ (s.primaryChanged old new) := by
  unfold State.primaryChanged
  extract_lets s₁ s₂ s₃ _ s₄ _ s₅ s₆ s₇ _ s₈
  have h₁ : Tracks s₀ s₁ := by unfold s₁; split; exacts [h.of_warps rfl, h]
  have h₂ : Tracks s₀ s₂ := by unfold s₂; split; exacts [h₁.of_warps rfl, h₁]
  have h₃ : Tracks s₀ s₃ := by unfold s₃; split; exacts [h₂.of_warps rfl, h₂]
  have h₄ : Tracks s₀ s₄ := by unfold s₄; split; exacts [h₃, h₃.of_warps rfl]
  have h₅ : Tracks s₀ s₅ := by unfold s₅; split; exacts [h₄.of_warps rfl, h₄]
  have h₆ : Tracks s₀ s₆ := by
    unfold s₆
    split
    · exact ((State.learnAbort_tracks h₅ 6).of_warps (s' := (s₅.learnAbort 6).cyclesGone) rfl).of_warps (State.verdict_warps _ false).1
    · exact h₅
  have h₇ : Tracks s₀ s₇ := by unfold s₇; split; exacts [h₆.of_warps (State.counter_warps _ 3).1, h₆]
  have h₈ : Tracks s₀ s₈ := by unfold s₈; split; exacts [h₇.of_warps rfl, h₇]
  exact h₈.of_warps s₈.leaveStopOwn_warps.1

theorem State.goFrom_tracks (h : Tracks s₀ s) (n new : Nat) (t : Word) (i : Nat) : Tracks s₀ (s.goFrom n new t i) := by
  unfold State.goFrom
  extract_lets old s₁ s₂ s₃
  split
  · exact h
  · have h₁ : Tracks s₀ s₁ := h.of_warps rfl
    have h₂ : Tracks s₀ s₂ := h₁.of_warps rfl
    have h₃ : Tracks s₀ s₃ := by unfold s₃; split; exacts [h₂.of_warps rfl, h₂]
    split
    · exact State.primaryChanged_tracks h₃ _ _
    · exact h₃

end

section
variable (s : State)

/-- Every Shuttle has a ROTATION_LOST token. -/
def State.rotationTold (s : State) : Prop := ∀ k : Fin 64, (vget s.shTok k).rotation = true

theorem State.sendRotationLost_told : s.sendRotationLost.rotationTold := fun k =>
  congrArg Tokens.rotation (vget_map s.shTok (fun k => { k with rotation := true }) k.isLt)

variable {s} in
theorem State.rotationTold.of_same {s' : State} (h : s.rotationTold) (e : s'.shTok = s.shTok) : s'.rotationTold := fun k => by
  rw [e]
  exact h k

theorem State.primaryChanged_told (old : Nat) {new : Nat} (h : new = ssStall ∨ new = ssReverse) : (s.primaryChanged old new).rotationTold := by
  have hangle : angleState new = false := by rcases h with rfl | rfl <;> rfl
  unfold State.primaryChanged
  extract_lets s₁ s₂ s₃ _ s₄ _ s₅ s₆ s₇ _ s₈
  have h₂ : s₂.rotationTold := by
    unfold s₂
    rw [if_pos h]
    exact s₁.sendRotationLost_told
  have h₃ : s₃.rotationTold := by
    unfold s₃
    rw [if_neg (by rw [hangle]; exact Bool.false_ne_true)]
    exact h₂
  have h₄ : s₄.rotationTold := by
    unfold s₄
    rw [if_neg (by rw [hangle]; exact Bool.false_ne_true)]
    exact h₃.of_same rfl
  have h₅ : s₅.rotationTold := by unfold s₅; split; exacts [h₄.of_same rfl, h₄]
  have h₆ : s₆.rotationTold := by
    unfold s₆
    split
    · have hl : (s₅.learnAbort 6).cyclesGone.rotationTold :=
        h₅.of_same ((State.learnAbort_keeps s₅ 6 (Nat.and_self _) (.refl _ s₅)).same .shTok (by decide))
      exact hl.of_same (State.verdict_warps _ false).2.1
    · exact h₅
  have h₇ : s₇.rotationTold := by unfold s₇; split; exacts [h₆.of_same (State.counter_warps _ 3).2.1, h₆]
  have h₈ : s₈.rotationTold := by unfold s₈; split; exacts [h₇.of_same rfl, h₇]
  exact h₈.of_same s₈.leaveStopOwn_warps.2.1

/-- The primary's entry to STALL or REVERSE tells every Shuttle (R154). -/
theorem State.goFrom_told {n new : Nat} (hn : n = s.primary) (hne : s.sync n ≠ new) (h : new = ssStall ∨ new = ssReverse) (t : Word) (i : Nat) :
    (s.goFrom n new t i).rotationTold := by
  unfold State.goFrom
  extract_lets old s₁ s₂ s₃
  have hp : s₃.primary = s.primary := by unfold s₃; split <;> rfl
  rw [if_neg (Ne.symm hne), if_pos (hn.trans hp.symm)]
  exact s₃.primaryChanged_told old h

theorem State.goFrom_primary (n new : Nat) (t : Word) (i : Nat) : (s.goFrom n new t i).primary = s.primary :=
  (State.goFrom_keeps s n new t i (Nat.and_self _) (.refl _ s)).same .primary (by decide)

/-! ### A hunt that begins anew -/

theorem State.restartHunt_warp {n : Nat} (hn : n < 6) (ref : Option Word) : ((s.restartHunt n ref).wp n).hasRef = ref.isSome
    ∧ ((s.restartHunt n ref).wp n).pos = none ∧ ((s.restartHunt n ref).wp n).level = (s.wp n).level
    ∧ ((s.restartHunt n ref).wp n).pulseRev = (s.wp n).pulseRev ∧ ∀ j, j ≠ n → (s.restartHunt n ref).wp j = s.wp j := by
  unfold State.restartHunt
  extract_lets w w' s₁ _ s₂
  have h₂ : s₂.warps = s.warps := by unfold s₂; split <;> rfl
  have hwp : ∀ j, s₂.wp j = s.wp j := fun j => congrArg (vget · j) h₂
  clear_value s₂
  cases ref with
  | none =>
    dsimp only
    rw [State.wp_setWp _ _ hn]
    exact ⟨rfl, rfl, rfl, rfl, fun j hj => (State.wp_setWp_ne _ _ hj).trans (hwp j)⟩
  | some t =>
    dsimp only
    rw [State.wp_setWp _ _ hn]
    have htook : ∀ v : Warp, v.tookPeak.hasRef = v.hasRef ∧ v.tookPeak.pos = v.pos ∧ v.tookPeak.level = v.level ∧ v.tookPeak.pulseRev = v.pulseRev :=
      fun v => by unfold Warp.tookPeak; split <;> exact ⟨rfl, rfl, rfl, rfl⟩
    obtain ⟨h₁, h₂, h₃, h₄⟩ := htook w'
    exact ⟨h₁, h₂, h₃, h₄, fun j hj => (State.wp_setWp_ne _ _ hj).trans (hwp j)⟩

theorem State.restartHunt_same (n : Nat) (ref : Option Word) : (s.restartHunt n ref).primary = s.primary ∧ (s.restartHunt n ref).weave = s.weave
    ∧ (s.restartHunt n ref).pair = s.pair ∧ (s.restartHunt n ref).now = s.now :=
  have h := State.restartHunt_keeps s n ref (Nat.and_self _) (.refl _ s)
  ⟨h.same .primary (by decide), h.same .weave (by decide), h.same .pair (by decide), h.same .now (by decide)⟩

theorem State.restartHunt_edge (n : Nat) (t : Word) : (s.restartHunt n (some t)).reg (Reg.WRP_EDGE_addr n) = t := by
  unfold State.restartHunt
  exact State.reg_setReg _ _ _

theorem goFlds_edge (n m : Nat) (hm : m < 6) : ∀ f ∈ goFlds n, f.addr ≠ Reg.WRP_EDGE_addr m := by
  rintro f ((rfl | rfl) | (rfl | rfl) | rfl | rfl | rfl | rfl) <;> simp only [Reg.WRP_EDGE_addr] <;> omega

/-- An edge in STALL is the reference of a new hunt (R133). -/
theorem State.huntBegun {n : Nat} (hn : n < 6) (t : Word) : ((s.restartHunt n (some t)).goState n ssHunt t).sync n = ssHunt
    ∧ ((s.restartHunt n (some t)).goState n ssHunt t).reg (Reg.WRP_EDGE_addr n) = t
    ∧ (((s.restartHunt n (some t)).goState n ssHunt t).wp n).hasRef = true ∧ (((s.restartHunt n (some t)).goState n ssHunt t).wp n).pos = none
    ∧ (((s.restartHunt n (some t)).goState n ssHunt t).wp n).level = (s.wp n).level := by
  obtain ⟨href, hpos, hlevel, -, -⟩ := s.restartHunt_warp hn (some t)
  have hedge := s.restartHunt_edge n t
  generalize s.restartHunt n (some t) = x at *
  have htr : Tracks x (x.goState n ssHunt t) := State.goFrom_tracks (.refl x) _ _ _ _
  have hw : Writes (goFlds n) x (x.goState n ssHunt t) := State.goFrom_writes (.refl _ x) (fun f hf => hf) _ _ _
  exact ⟨x.goFrom_sync n (by decide) t _, (hw.reg (goFlds_edge n n hn)).trans hedge, (htr.hasRef n).trans href, (htr.pos n).trans hpos,
    (htr.level n).trans hlevel⟩

end

/-! ### The filter (R117 to R135) -/

section
variable (t : Word) (n : Fin 6) (s : State)

theorem exec_level {high : Bool} (hl : s.wheelLive n = true) (ht : s.get (Reg.WRP_CFG_TYPE n) ≠ 0) :
    exec (.wheelTransition t n (.level high)) s = .next ((s.at t).transition n (high == s.is (Reg.WRP_CFG_EDGE n)) t) :=
  congrArg Host.Outcome.next ((if_neg (by rw [show (s.at t).wheelLive n = true from hl]; decide)).trans (if_neg ht))

theorem exec_wheelDead {x : WheelIn} (hl : s.wheelLive n = false) : exec (.wheelTransition t n x) s = .next (s.at t) :=
  congrArg Host.Outcome.next (if_pos (by rw [show (s.at t).wheelLive n = false from hl]; rfl))

theorem exec_vrPeak {positive : Bool} {mV : Nat} (hl : s.wheelLive n = true) (ht : s.get (Reg.WRP_CFG_TYPE n) = 0) :
    exec (.wheelTransition t n (.vrPeak positive mV)) s = .next (if positive ≠ s.is (Reg.WRP_CFG_EDGE n) then
      (s.at t).setWp n { s.wp n with vrNow := max (s.wp n).vrNow mV, armed := (s.wp n).armed || s.vrArms n mV } else s.at t) := by
  refine congrArg Host.Outcome.next ((if_neg (by rw [show (s.at t).wheelLive n = true from hl]; decide)).trans ?_)
  exact if_congr (and_iff_right ht) rfl rfl

theorem exec_vrZero {positive : Bool} (hl : s.wheelLive n = true) (ht : s.get (Reg.WRP_CFG_TYPE n) = 0)
    (hp : positive = s.is (Reg.WRP_CFG_EDGE n)) : exec (.wheelTransition t n (.vrZero positive)) s = .next (if (s.wp n).armed then
      ((s.at t).setWp n { s.wp n with armed := false, vrNow := 0, vrEdge := (s.wp n).vrNow }).transition n true t
      else (s.at t).setWp n { s.wp n with vrNow := 0 }) :=
  congrArg Host.Outcome.next ((if_neg (by rw [show (s.at t).wheelLive n = true from hl]; decide)).trans
    ((if_neg (not_not_intro ht)).trans (if_pos hp)))

theorem State.transition_starts (x : State) {n : Nat} {active : Bool} (hp : (x.wp n).pend = none)
    (h : active ≠ (x.wp n).level ∨ x.is (Reg.WRP_SYNC_INIT n) = true) (hf : x.filt n ≠ 0) (t : Word) :
    x.transition n active t = x.setWp n { x.wp n with pend := some (active, t) } := by
  unfold State.transition
  dsimp only
  rw [hp]
  dsimp only
  rw [if_neg fun hn => h.elim (fun h => h hn.1) fun h => hn.2 h, if_neg hf]

theorem State.transition_back (x : State) {n : Nat} {active lv : Bool} {t0 : Word} (hp : (x.wp n).pend = some (lv, t0)) (h : lv ≠ active) (t : Word) :
    x.transition n active t = x.setWp n { x.wp n with pend := none } := by
  unfold State.transition
  dsimp only
  rw [hp]
  exact if_neg (Ne.symm h)

theorem State.transition_idle (x : State) {n : Nat} {active : Bool} (h : (∃ t0, (x.wp n).pend = some (active, t0))
    ∨ ((x.wp n).pend = none ∧ active = (x.wp n).level ∧ x.is (Reg.WRP_SYNC_INIT n) = false)) (t : Word) : x.transition n active t = x := by
  unfold State.transition
  dsimp only
  rcases h with ⟨t0, hp⟩ | ⟨hp, ha, hi⟩
  · rw [hp]
    exact if_pos rfl
  · rw [hp]
    exact if_pos ⟨ha, by rw [hi]; decide⟩

/-- The transitions of a level input (R128, R129, R134). -/
theorem levelTransitions (high : Bool) (hl : s.wheelLive n = true) (ht : s.get (Reg.WRP_CFG_TYPE n) ≠ 0) :
    let w := s.wp n
    let active := high == s.is (Reg.WRP_CFG_EDGE n)
    (w.pend = none → (active ≠ w.level ∨ s.is (Reg.WRP_SYNC_INIT n) = true) → s.filt n ≠ 0 →
        Does (.wheelTransition t n (.level high)) s (fun s' =>
          s'.wp n = { w with pend := some (active, t) } ∧ s'.regs = s.regs))
      ∧ (∀ lv t0, w.pend = some (lv, t0) → lv ≠ active → Does (.wheelTransition t n (.level high)) s (fun s' =>
          s'.wp n = { w with pend := none } ∧ s'.regs = s.regs))
      ∧ ((∃ t0, w.pend = some (active, t0)) ∨ (w.pend = none ∧ active = w.level ∧ s.is (Reg.WRP_SYNC_INIT n) = false) →
        Idles (.wheelTransition t n (.level high)) s t) := by
  intro w active
  have hx := exec_level t n s (high := high) hl ht
  exact ⟨fun hp h hf => ⟨_, hx.trans (congrArg _ ((s.at t).transition_starts hp h hf t)), State.wp_setWp _ _ n.isLt, rfl⟩,
    fun lv t0 hp h => ⟨_, hx.trans (congrArg _ ((s.at t).transition_back hp h t)), State.wp_setWp _ _ n.isLt, rfl⟩,
    fun h => hx.trans (congrArg _ ((s.at t).transition_idle h t))⟩

/-- The half-waves of a VR input (R118, R119). -/
theorem vrTransitions (positive : Bool) (mV : Nat) (hl : s.wheelLive n = true) (ht : s.get (Reg.WRP_CFG_TYPE n) = 0) :
    let w := s.wp n
    (positive ≠ s.is (Reg.WRP_CFG_EDGE n) → Does (.wheelTransition t n (.vrPeak positive mV)) s (fun s' =>
        s'.wp n = { w with vrNow := max w.vrNow mV, armed := w.armed || s.vrArms n mV } ∧ s'.regs = s.regs))
      ∧ (positive = s.is (Reg.WRP_CFG_EDGE n) → Idles (.wheelTransition t n (.vrPeak positive mV)) s t)
      ∧ (positive = s.is (Reg.WRP_CFG_EDGE n) → w.armed = false → Does (.wheelTransition t n (.vrZero positive)) s (fun s' =>
        s'.wp n = { w with vrNow := 0 } ∧ s'.regs = s.regs))
      ∧ (positive = s.is (Reg.WRP_CFG_EDGE n) → w.armed = true → w.pend = none →
        (w.level = false ∨ s.is (Reg.WRP_SYNC_INIT n) = true) → s.filt n ≠ 0 →
          Does (.wheelTransition t n (.vrZero positive)) s (fun s' =>
            s'.wp n = { w with armed := false, vrNow := 0, vrEdge := w.vrNow, pend := some (true, t) } ∧ s'.regs = s.regs)) := by
  intro w
  have hpeak := exec_vrPeak t n s (positive := positive) (mV := mV) hl ht
  refine ⟨fun h => ⟨_, hpeak.trans (congrArg _ (if_pos h)), State.wp_setWp _ _ n.isLt, rfl⟩,
    fun h => hpeak.trans (congrArg _ (if_neg (not_not_intro h))), fun h ha => ?_, fun h ha hp hlevel hf => ?_⟩
  · exact ⟨_, (exec_vrZero t n s hl ht h).trans (congrArg _ (if_neg (by rw [show (s.wp n).armed = false from ha]; decide))),
      State.wp_setWp _ _ n.isLt, rfl⟩
  · have hx := (exec_vrZero t n s hl ht h).trans (congrArg _ (if_pos ha))
    have hw : ((s.at t).setWp n { s.wp n with armed := false, vrNow := 0, vrEdge := (s.wp n).vrNow }).wp n
        = { s.wp n with armed := false, vrNow := 0, vrEdge := (s.wp n).vrNow } := State.wp_setWp _ _ n.isLt
    have hi : ((s.at t).setWp n { s.wp n with armed := false, vrNow := 0, vrEdge := (s.wp n).vrNow }).is (Reg.WRP_SYNC_INIT n)
        = s.is (Reg.WRP_SYNC_INIT n) := rfl
    have hfilt : ((s.at t).setWp n { s.wp n with armed := false, vrNow := 0, vrEdge := (s.wp n).vrNow }).filt n = s.filt n := rfl
    have hregs : ((s.at t).setWp n { s.wp n with armed := false, vrNow := 0, vrEdge := (s.wp n).vrNow }).regs = s.regs := rfl
    generalize (s.at t).setWp n { s.wp n with armed := false, vrNow := 0, vrEdge := (s.wp n).vrNow } = x at *
    refine ⟨_, hx.trans (congrArg _ (x.transition_starts (by rw [hw]; exact hp) ?_ (by rw [hfilt]; exact hf) t)), ?_, hregs⟩
    · rw [hw, hi]
      exact hlevel.imp (fun h => by rw [show (s.wp n).level = false from h]; decide) id
    · rw [State.wp_setWp _ _ n.isLt, hw]

end

/-! ### The filter decides (R12, R128, R134) -/

section
variable (t : Word) (n : Fin 6) (s : State)

/-- The validated output of a Warp. -/
def State.levelTaken (s : State) (n : Nat) (active : Bool) : State :=
  (s.setWp n { s.wp n with level := active, pend := none }).set (Reg.WRP_SYNC_INIT n) 0

theorem exec_filterExpiry {lv : Bool} {t0 : Word} (hp : (s.wp n).pend = some (lv, t0)) : exec (.edgeFilterExpiry t n) s
    = .next (if s.running ∧ s.filt n ≤ elapsed t0 t then (s.at t).outputChange n lv t0 else s.at t) := by
  show execEdgeFilterExpiry t n s = _
  unfold execEdgeFilterExpiry
  extract_lets x
  rw [show (x.wp n).pend = some (lv, t0) from hp] <;> rfl

theorem exec_filterExpiry_none (hp : (s.wp n).pend = none) : exec (.edgeFilterExpiry t n) s = .next (s.at t) := by
  show execEdgeFilterExpiry t n s = _
  unfold execEdgeFilterExpiry
  extract_lets x
  rw [show (x.wp n).pend = none from hp]

theorem State.levelTaken_shows {n : Nat} (hn : n < 6) (active : Bool) : (s.levelTaken n active).wp n = { s.wp n with level := active, pend := none }
    ∧ (s.levelTaken n active).get (Reg.WRP_SYNC_INIT n) = 0 ∧ Writes {Reg.WRP_SYNC_INIT n} s (s.levelTaken n active)
    ∧ (∀ a, a ≠ Reg.WRP_SYNC_addr n → (s.levelTaken n active).reg a = s.reg a) ∧ (s.levelTaken n active).primary = s.primary := by
  refine ⟨?_, State.get_set_of_lt _ _ (by simp) (by simp), ((Writes.refl {Reg.WRP_SYNC_INIT n} s).of_regs rfl).set rfl 0, fun a ha => State.reg_set_ne _ _ _ ha, rfl⟩
  unfold State.levelTaken
  exact State.wp_setWp s _ hn

/-- An end of the active level at an input without direction pulses. -/
theorem State.outputChange_low {n : Nat} (t : Word) (hd : s.get (Reg.WRP_CFG_TYPE n) ≠ 2) : s.outputChange n false t = s.levelTaken n false := by
  unfold State.outputChange
  extract_lets dir was _ x y
  have hdir : ¬ dir = true := fun h => hd (of_decide_eq_true h)
  have hx : x = s.levelTaken n false := rfl
  split <;> exact hx

/-- A crank edge in STALL. -/
theorem State.crankEdge_stall {n : Nat} (t : Word) (hs : s.sync n = ssStall)
    (hc : ¬ (n = 1 ∧ s.primary = 0 ∧ s.get (Reg.WRP_MODE_CRK_MODE 1) = 0)) : s.crankEdge n t = (s.restartHunt n (some t)).goState n ssHunt t := by
  unfold State.crankEdge
  rw [if_neg hc, if_neg (by rw [hs]; decide), if_pos hs]
  dsimp only
  rw [if_pos hs]

/-- The state that meets the edge of an active level: a HALL_DIR pulse has begun. -/
def State.edgeMet (s : State) (n : Nat) (t : Word) : State :=
  if s.get (Reg.WRP_CFG_TYPE n) = 2 then (s.levelTaken n true).setWp n { (s.levelTaken n true).wp n with pulse := some t, pulseNoise := false }
  else s.levelTaken n true

theorem State.edgeMet_shows {n : Nat} (hn : n < 6) (t : Word) : ((s.edgeMet n t).wp n).level = true ∧ Writes {Reg.WRP_SYNC_INIT n} s (s.edgeMet n t)
    ∧ (s.edgeMet n t).primary = s.primary := by
  obtain ⟨hw, -, hwr, -, hp⟩ := s.levelTaken_shows hn true
  unfold State.edgeMet
  split
  · rw [State.wp_setWp _ _ hn, hw]
    exact ⟨rfl, hwr.of_regs rfl, hp⟩
  · rw [hw]
    exact ⟨rfl, hwr, hp⟩

theorem State.outputChange_edge {n : Nat} (t : Word) (hlevel : (s.wp n).level = false) (hn : n < 2) :
    s.outputChange n true t = (s.edgeMet n t).crankEdge n t := by
  unfold State.outputChange State.edgeMet
  extract_lets dir was _ x y
  have hwas : ¬ true = was := by
    show ¬ true = (s.wp n).level
    rw [hlevel]
    decide
  rw [if_neg hwas, if_pos rfl, if_pos hn]
  refine congrArg (fun z : State => z.crankEdge n t) ?_
  exact if_congr decide_eq_true_iff rfl rfl

end

/-! ### Direction pulses (R123 to R126, R172) -/

section
variable (s : State)

/-- A declared reverse is counted and shown. -/
def State.reverseSeen (s : State) (n : Nat) : State := (s.inc (Reg.WRP_CNT1_REVS n)).set (Reg.WRP_SYNC_REV_PEND n) 1

theorem State.reverseSeen_shows (n : Nat) : (s.reverseSeen n).get (Reg.WRP_SYNC_REV_PEND n) = 1 ∧ (s.reverseSeen n).sync n = s.sync n :=
  ⟨State.get_set_of_lt _ _ (by simp) (by simp),
    (State.get_set_ne _ _ _ _ (by simp)).trans (State.get_inc_ne (.inl (by simp only []; omega)))⟩

/-- A unit that was away is back on its own crank, without a background. -/
def State.ownAgain (s : State) (n : Nat) : State := if s.away n then ((s.set (Reg.WRP_SYNC_BG n) 0).set (Reg.WRP_SYNC_SRC n) n).weft0Returns else s

theorem State.ownAgain_shows (n : Nat) : (s.ownAgain n).warps = s.warps ∧ (s.ownAgain n).primary = s.primary
    ∧ Writes {Reg.WRP_SYNC_BG n, Reg.WRP_SYNC_SRC n} s (s.ownAgain n) := by
  have hback : ∀ x : State, x.weft0Returns.warps = x.warps ∧ x.weft0Returns.primary = x.primary ∧ x.weft0Returns.regs = x.regs :=
    fun _ => ⟨rfl, rfl, rfl⟩
  unfold State.ownAgain
  split
  · obtain ⟨hw, hp, hr⟩ := hback ((s.set (Reg.WRP_SYNC_BG n) 0).set (Reg.WRP_SYNC_SRC n) n)
    exact ⟨hw, hp, (((Writes.refl {Reg.WRP_SYNC_BG n, Reg.WRP_SYNC_SRC n} s).set (by simp) 0).set (by simp) n).of_regs hr⟩
  · exact ⟨rfl, rfl, .refl _ s⟩

/-- The state that a declared reverse leaves before the Warp's state changes. -/
def State.reverseMet (s : State) (n : Nat) (t : Word) : State :=
  let s := ((s.reverseSeen n).restartHunt n none).ownAgain n
  s.setWp n { s.wp n with revAt := some t }

theorem State.declareReverse_eq (n : Nat) (t : Word) : s.declareReverse n t none = (s.reverseMet n t).goFrom n ssReverse t (s.toothIdx n) := rfl

theorem State.reverseMet_warp {n : Nat} (hn : n < 6) (t : Word) : ((s.reverseMet n t).wp n).pos = none
    ∧ ((s.reverseMet n t).wp n).pulseRev = (s.wp n).pulseRev ∧ (s.reverseMet n t).primary = s.primary := by
  have hsame : (s.reverseSeen n).wp n = s.wp n ∧ (s.reverseSeen n).primary = s.primary := ⟨rfl, rfl⟩
  unfold State.reverseMet
  extract_lets x
  obtain ⟨hwarps, hprim, -⟩ := ((s.reverseSeen n).restartHunt n none).ownAgain_shows n
  obtain ⟨-, hpos, -, hrev, -⟩ := (s.reverseSeen n).restartHunt_warp hn none
  have hwp : x.wp n = ((s.reverseSeen n).restartHunt n none).wp n := congrArg (vget · n) hwarps
  have hp : x.primary = s.primary := hprim.trans (((s.reverseSeen n).restartHunt_same n none).1.trans hsame.2)
  rw [← hwp] at hpos hrev
  clear_value x
  rw [State.wp_setWp _ _ hn]
  exact ⟨hpos, hrev.trans (congrArg Warp.pulseRev hsame.1), hp⟩

theorem State.reverseMet_regs (n : Nat) (t : Word) : (s.reverseMet n t).get (Reg.WRP_SYNC_REV_PEND n) = 1 ∧ (s.reverseMet n t).sync n = s.sync n := by
  have hunt : Writes (huntFlds n) (s.reverseSeen n) ((s.reverseSeen n).restartHunt n none) := State.restartHunt_writes (.refl _ _) (fun f hf => hf) none
  have hown := (((s.reverseSeen n).restartHunt n none).ownAgain_shows n).2.2
  have miss : ∀ f, Fld.misses (Reg.WRP_SYNC_TOOTH n) f → f.addr ≠ Reg.WRP_EDGE_addr n → Fld.misses (Reg.WRP_SYNC_BG n) f →
      Fld.misses (Reg.WRP_SYNC_SRC n) f → (s.reverseMet n t).get f = (s.reverseSeen n).get f := fun f h₁ h₂ h₃ h₄ =>
    (hown.of_regs rfl f (by rintro g (rfl | rfl) <;> assumption)).trans
      (hunt f (by rintro g (rfl | rfl); exacts [h₁, .inl (Ne.symm h₂)]))
  obtain ⟨hpend, hsync⟩ := s.reverseSeen_shows n
  exact ⟨(miss _ (by simp [Fld.misses]) (by simp [Reg.WRP_EDGE_addr]) (by simp [Fld.misses]) (by simp [Fld.misses])).trans hpend,
    (miss _ (by simp [Fld.misses]) (by simp [Reg.WRP_EDGE_addr]) (by simp [Fld.misses]) (by simp [Fld.misses])).trans hsync⟩

/-- Reverse is declared (R172, R177). -/
theorem State.declareReverse_shows {n : Nat} (hn : n < 6) (t : Word) : (s.declareReverse n t none).sync n = ssReverse
    ∧ (s.declareReverse n t none).get (Reg.WRP_SYNC_REV_PEND n) = 1 ∧ ((s.declareReverse n t none).wp n).pulseRev = (s.wp n).pulseRev
    ∧ ((s.declareReverse n t none).wp n).pos = none
    ∧ (n = s.primary → s.sync n ≠ ssReverse → (s.declareReverse n t none).rotationTold) := by
  obtain ⟨hpos, hrev, hprim⟩ := s.reverseMet_warp hn t
  obtain ⟨hpend, hsync⟩ := s.reverseMet_regs n t
  rw [s.declareReverse_eq]
  generalize s.reverseMet n t = x at *
  have htr : Tracks x (x.goFrom n ssReverse t (s.toothIdx n)) := State.goFrom_tracks (.refl x) _ _ _ _
  have hw : Writes (goFlds n) x (x.goFrom n ssReverse t (s.toothIdx n)) := State.goFrom_writes (.refl _ x) (fun f hf => hf) _ _ _
  have miss : ∀ f ∈ goFlds n, f.misses (Reg.WRP_SYNC_REV_PEND n) := by
    rintro f ((rfl | rfl) | (rfl | rfl) | rfl | rfl | rfl | rfl)
    · simp [Fld.misses]
    all_goals exact .inl (by simp only []; omega)
  exact ⟨x.goFrom_sync n (by decide) t _, (hw _ miss).trans hpend, (htr.pulseRev n).trans hrev, (htr.pos n).trans hpos,
    fun hp hne => x.goFrom_told (hp.trans hprim.symm) (hsync ▸ hne) (.inr rfl) t _⟩

end

section
variable (t : Word) (n : Fin 6) (s : State)

theorem filterLow {t0 : Word} (hp : (s.wp n).pend = some (false, t0)) (hr : s.running = true) (hf : s.filt n ≤ elapsed t0 t)
    (hd : s.get (Reg.WRP_CFG_TYPE n) ≠ 2) : Does (.edgeFilterExpiry t n) s (fun s' => s'.wp n = { s.wp n with pend := none, level := false }
      ∧ s'.get (Reg.WRP_SYNC_INIT n) = 0 ∧ ∀ a, a ≠ Reg.WRP_SYNC_addr n → s'.reg a = s.reg a) := by
  obtain ⟨hw, hi, -, ha, -⟩ := (s.at t).levelTaken_shows n.isLt false
  exact ⟨_, (exec_filterExpiry t n s hp).trans (congrArg _ ((if_pos ⟨hr, hf⟩).trans ((s.at t).outputChange_low t0 hd))), hw, hi, ha⟩

theorem filterEdge {t0 : Word} (hp : (s.wp n).pend = some (true, t0)) (hr : s.running = true) (hf : s.filt n ≤ elapsed t0 t)
    (hlevel : (s.wp n).level = false) (hn : n.val < 2) (hs : s.sync n = ssStall)
    (hc : n.val = 0 ∨ s.primary ≠ 0 ∨ s.get (Reg.WRP_MODE_CRK_MODE 1) ≠ 0) :
    Does (.edgeFilterExpiry t n) s (fun s' => s'.sync n = ssHunt ∧ s'.reg (Reg.WRP_EDGE_addr n) = t0
      ∧ (s'.wp n).hasRef = true ∧ (s'.wp n).pos = none ∧ (s'.wp n).level = true) := by
  have hx := (exec_filterExpiry t n s hp).trans (congrArg _ ((if_pos ⟨hr, hf⟩).trans ((s.at t).outputChange_edge t0 hlevel hn)))
  obtain ⟨hl, hw, hprim⟩ := (s.at t).edgeMet_shows n.isLt t0
  have hsync : ((s.at t).edgeMet n t0).sync n = ssStall := (hw _ (by rintro f rfl; simp [Fld.misses])).trans hs
  have hmode : ((s.at t).edgeMet n t0).get (Reg.WRP_MODE_CRK_MODE 1) = s.get (Reg.WRP_MODE_CRK_MODE 1) :=
    hw _ (by rintro f rfl; exact .inl (by simp only [] <;> omega))
  have hprim' : ((s.at t).edgeMet n t0).primary = s.primary := hprim
  generalize (s.at t).edgeMet n t0 = x at *
  obtain ⟨h₁, h₂, h₃, h₄, h₅⟩ := x.huntBegun n.isLt t0
  refine ⟨_, hx.trans (congrArg _ (x.crankEdge_stall t0 hsync ?_)), h₁, h₂, h₃, h₄, h₅.trans hl⟩
  rw [hprim', hmode]
  rintro ⟨h, h', h''⟩
  rcases hc with hc | hc | hc
  · omega
  · exact hc h'
  · exact hc h''

theorem filterIdle : (∀ lv t0, (s.wp n).pend = some (lv, t0) → elapsed t0 t < s.filt n → Idles (.edgeFilterExpiry t n) s t)
    ∧ ((s.wp n).pend = none ∨ s.running = false → Idles (.edgeFilterExpiry t n) s t) := by
  refine ⟨fun lv t0 hp hf => (exec_filterExpiry t n s hp).trans (congrArg _ (if_neg fun h => absurd h.2 (Nat.not_le.2 hf))), fun h => ?_⟩
  by_cases hp : (s.wp n).pend = none
  · exact exec_filterExpiry_none t n s hp
  · obtain ⟨⟨lv, t0⟩, hp'⟩ := Option.ne_none_iff_exists'.1 hp
    exact (exec_filterExpiry t n s hp').trans (congrArg _ (if_neg fun hr => absurd (hr.1.symm.trans (h.resolve_left hp)) (by decide)))

end

/-! ### The direction pulses that last (R124 to R126) -/

section
variable (t : Word) (n : Fin 6) (s : State)

/-- A pulse that is still active at DIR_SPLIT is reverse. -/
def State.splitMet (s : State) (n : Nat) : State := s.setWp n { s.wp n with pulseRev := true, fwdRun := 0 }

theorem exec_dirSplit {t0 : Word} (hp : (s.wp n).pulse = some t0) : exec (.dirSplitExpiry t n) s
    = .next (if s.running ∧ ¬ (s.wp n).pulseRev ∧ (s.wp n).pulseLasts t0 t (80 * s.get (Reg.WRP_DIR_DIR_SPLIT n)) then
        if n.val < 2 ∧ s.sync n ≠ ssOff then ((s.at t).splitMet n).declareReverse n (addW t0 (80 * s.get (Reg.WRP_DIR_DIR_SPLIT n))) none
        else (s.at t).splitMet n
      else s.at t) := by
  show execDirSplitExpiry t n s = _
  unfold execDirSplitExpiry
  extract_lets x w
  rw [show w.pulse = some t0 from hp] <;> rfl

theorem exec_dirSplit_none (hp : (s.wp n).pulse = none) : exec (.dirSplitExpiry t n) s = .next (s.at t) := by
  show execDirSplitExpiry t n s = _
  unfold execDirSplitExpiry
  extract_lets x w
  rw [show w.pulse = none from hp]

theorem exec_dirMax {t0 : Word} (hp : (s.wp n).pulse = some t0) : exec (.dirMaxExpiry t n) s
    = .next (if s.running ∧ ¬ (s.wp n).pulseErr ∧ (s.wp n).pulseLasts t0 t (80 * s.get (Reg.WRP_DIR_DIR_MAX n)) then
        ((s.at t).inc (Reg.WRP_CNT2_WIDTH_ERR n)).setWp n { s.wp n with pulseErr := true } else s.at t) := by
  show execDirMaxExpiry t n s = _
  unfold execDirMaxExpiry
  extract_lets x w
  split
  · next t1 h1 =>
    obtain rfl : t1 = t0 := Option.some.inj (h1.symm.trans hp)
    rfl
  · next h1 => exact absurd (h1.symm.trans hp) (by rintro ⟨⟩)

theorem exec_dirMax_none (hp : (s.wp n).pulse = none) : exec (.dirMaxExpiry t n) s = .next (s.at t) := by
  show execDirMaxExpiry t n s = _
  unfold execDirMaxExpiry
  extract_lets x w
  rw [show w.pulse = none from hp]

theorem State.splitMet_shows {n : Nat} (hn : n < 6) : (s.splitMet n).wp n = { s.wp n with pulseRev := true, fwdRun := 0 }
    ∧ (s.splitMet n).regs = s.regs ∧ (s.splitMet n).primary = s.primary ∧ (s.splitMet n).sync n = s.sync n :=
  ⟨State.wp_setWp s _ hn, rfl, rfl, rfl⟩

theorem dirSplitCrank {t0 : Word} (hp : (s.wp n).pulse = some t0) (hr : s.running = true) (hrev : (s.wp n).pulseRev = false)
    (hl : (s.wp n).pulseLasts t0 t (80 * s.get (Reg.WRP_DIR_DIR_SPLIT n)) = true) (hn : n.val < 2) (hs : s.sync n ≠ ssOff) :
    Does (.dirSplitExpiry t n) s (fun s' => s'.sync n = ssReverse ∧ s'.get (Reg.WRP_SYNC_REV_PEND n) = 1
      ∧ (s'.wp n).pulseRev = true ∧ (s'.wp n).pos = none
      ∧ (n.val = s.primary → s.sync n ≠ ssReverse → ∀ k : Fin 64, (vget s'.shTok k).rotation = true)) := by
  have hx := (exec_dirSplit t n s hp).trans (congrArg _ ((if_pos ⟨hr, by rw [hrev]; decide, hl⟩).trans (if_pos ⟨hn, hs⟩)))
  obtain ⟨hw, -, hprim, hsync⟩ := (s.at t).splitMet_shows n.isLt
  have hrev' : (((s.at t).splitMet n).wp n).pulseRev = true := by rw [hw]
  have hprim' : ((s.at t).splitMet n).primary = s.primary := hprim
  have hsync' : ((s.at t).splitMet n).sync n = s.sync n := hsync
  clear hw hprim hsync
  generalize (s.at t).splitMet n = x at *
  obtain ⟨h₁, h₂, h₃, h₄, h₅⟩ := x.declareReverse_shows n.isLt (addW t0 (80 * s.get (Reg.WRP_DIR_DIR_SPLIT n)))
  exact ⟨_, hx, h₁, h₂, h₃.trans hrev', h₄, fun hp hs => h₅ (hp.trans hprim'.symm) (hsync' ▸ hs)⟩

theorem dirSplitCam {t0 : Word} (hp : (s.wp n).pulse = some t0) (hr : s.running = true) (hrev : (s.wp n).pulseRev = false)
    (hl : (s.wp n).pulseLasts t0 t (80 * s.get (Reg.WRP_DIR_DIR_SPLIT n)) = true) (hn : 2 ≤ n.val) :
    Does (.dirSplitExpiry t n) s (fun s' => s'.wp n = { s.wp n with pulseRev := true, fwdRun := 0 } ∧ s'.regs = s.regs) := by
  have hx := (exec_dirSplit t n s hp).trans (congrArg _ ((if_pos ⟨hr, by rw [hrev]; decide, hl⟩).trans (if_neg fun h => Nat.not_le.2 h.1 hn)))
  obtain ⟨hw, hregs, -⟩ := (s.at t).splitMet_shows n.isLt
  exact ⟨_, hx, hw, hregs⟩

theorem dirMaxError {t0 : Word} (hp : (s.wp n).pulse = some t0) (hr : s.running = true) (herr : (s.wp n).pulseErr = false)
    (hl : (s.wp n).pulseLasts t0 t (80 * s.get (Reg.WRP_DIR_DIR_MAX n)) = true) :
    Does (.dirMaxExpiry t n) s (fun s' => s'.wp n = { s.wp n with pulseErr := true }
      ∧ s'.get (Reg.WRP_CNT2_WIDTH_ERR n) = min (s.get (Reg.WRP_CNT2_WIDTH_ERR n) + 1) (Reg.WRP_CNT2_WIDTH_ERR n).max) :=
  ⟨_, (exec_dirMax t n s hp).trans (congrArg _ (if_pos ⟨hr, by rw [herr]; decide, hl⟩)), State.wp_setWp _ _ n.isLt,
    (s.at t).get_inc _ (by simp)⟩

theorem dirIdle : ((s.wp n).pulse = none ∨ s.running = false → Idles (.dirSplitExpiry t n) s t ∧ Idles (.dirMaxExpiry t n) s t)
    ∧ ((s.wp n).pulseRev = true → Idles (.dirSplitExpiry t n) s t) ∧ ((s.wp n).pulseErr = true → Idles (.dirMaxExpiry t n) s t) := by
  cases hp : (s.wp n).pulse with
  | none => exact ⟨fun _ => ⟨exec_dirSplit_none t n s hp, exec_dirMax_none t n s hp⟩, fun _ => exec_dirSplit_none t n s hp,
      fun _ => exec_dirMax_none t n s hp⟩
  | some t0 =>
    refine ⟨fun h => ?_, fun h => (exec_dirSplit t n s hp).trans (congrArg _ (if_neg fun hc => hc.2.1 h)),
      fun h => (exec_dirMax t n s hp).trans (congrArg _ (if_neg fun hc => hc.2.1 h))⟩
    have hr : s.running = false := h.resolve_left (by rintro ⟨⟩)
    have hstop : ¬ s.running = true := by rw [hr]; decide
    exact ⟨(exec_dirSplit t n s hp).trans (congrArg _ (if_neg fun hc => hstop hc.1)),
      (exec_dirMax t n s hp).trans (congrArg _ (if_neg fun hc => hstop hc.1))⟩

end

end Sys2Proof.Machine
end

section
/-! PROOF. The stall of a crank and of a cam, and the source that a lost crank leaves to the unit (O29). -/
namespace Sys2Proof.Machine

/-! ### What a change of the source leaves and shows -/

/-- A Warp's change of state leaves the other fields of its synchronisation register. -/
theorem goFlds_miss_sync {g : Fld} {n : Nat} (hn : n < 2) (ha : g.addr = Reg.WRP_SYNC_addr n) (hm : (Reg.WRP_SYNC_STATE n).misses g) :
    ∀ f ∈ goFlds n, f.misses g := by
  have h₁ : g.addr ≠ Reg.WFT_CLST_addr 0 := by rw [ha]; simp only [Reg.WRP_SYNC_addr, Reg.WFT_CLST_addr]; omega
  have h₂ : g.addr ≠ Reg.PRX_CNT1_addr := by rw [ha]; simp only [Reg.WRP_SYNC_addr, Reg.PRX_CNT1_addr]; omega
  have h₃ : g.addr ≠ Reg.PRX_STAT_addr := by rw [ha]; simp only [Reg.WRP_SYNC_addr, Reg.PRX_STAT_addr]; omega
  rintro f ((rfl | rfl) | hf | hf)
  · exact hm
  · exact .inl (by rw [ha]; simp only [Reg.WRP_SYNC_addr]; omega)
  · exact learnFlds_miss h₁ f hf
  · exact divFlds_miss h₂ (fun h => absurd h h₃) f hf

section
variable (s : State) (t : Word)

/-- Going to another source shows the source, the hunt in the background and the lost crank (R168, R169). -/
theorem State.goAway_shows {n : Nat} (hn : n < 2) (new : Nat) {src : Nat} (hsrc : src < 4) (i : Nat) :
    (s.goAway n new src t i).get (Reg.WRP_SYNC_SRC n) = src ∧ (s.goAway n new src t i).get (Reg.WRP_SYNC_BG n) = ssHunt
      ∧ (s.goAway n new src t i).get (Reg.WRP_SYNC_CRANK_LOST n) = 1 := by
  unfold State.goAway
  extract_lets s₁ s₂ _ s₃ _ s₄ w
  have h₁ : s₁.get (Reg.WRP_SYNC_SRC n) = src :=
    (State.goFrom_writes (F := goFlds n) (.refl _ (s.set (Reg.WRP_SYNC_SRC n) src)) (fun f hf => hf) new t i _
      (goFlds_miss_sync hn rfl (by simp [Fld.misses]))).trans (State.get_set_of_lt _ _ (by simp) hsrc)
  have h₂ : s₂.get (Reg.WRP_SYNC_SRC n) = src ∧ s₂.get (Reg.WRP_SYNC_BG n) = ssHunt :=
    ⟨(State.get_set_ne _ _ _ _ (by simp)).trans h₁, State.get_set_of_lt _ _ (by simp) (by simp [ssHunt])⟩
  have h₄ : s₄.regs = s₂.regs := rfl
  have hget : ∀ f, Fld.misses (Reg.WRP_SYNC_CRANK_LOST n) f → Fld.misses (Reg.WRP_CNT2_SWITCH n) f → ((s₄.setWf 1
      { w with switched := true, formed := [], last := none, prev := none, restarted := true, held := false }).fellBack n src t).get f
      = s₂.get f := fun f hf hf' =>
    ((((Writes.refl {Reg.WRP_SYNC_CRANK_LOST n, Reg.WRP_CNT2_SWITCH n} s₂).of_regs h₄).of_regs (s' := s₄.setWf 1
      { w with switched := true, formed := [], last := none, prev := none, restarted := true, held := false }) rfl).stick (by simp) 1 |>.inc
      (by simp) |>.report 1 n 2 (src * 2 ^ 38) (some t)) f (by rintro g (rfl | rfl) <;> assumption)
  have hoff : ∀ f : Fld, f.addr = Reg.WRP_SYNC_addr n → Fld.misses (Reg.WRP_CNT2_SWITCH n) f := fun f hf =>
    .inl (by rw [hf]; simp only [Reg.WRP_SYNC_addr]; omega)
  refine ⟨(hget _ (by simp [Fld.misses]) (hoff _ rfl)).trans h₂.1, (hget _ (by simp [Fld.misses]) (hoff _ rfl)).trans h₂.2, ?_⟩
  exact (State.get_report ..).trans ((State.get_inc_ne (hoff _ rfl)).trans (State.get_stick_bit _ _ (by simp) rfl))

/-- The state in which the standby crank is the primary and the lost crank has its new state. -/
def State.standbyTook (s : State) (new : Nat) (t : Word) (i : Nat) : State :=
  (((({ s with primary := 1 } : State).goFrom 0 new t i).set (Reg.WRP_SYNC_SRC 1) 1).fellBack 0 1 t)

theorem State.standbyTook_shows {new : Nat} (hnew : new < 16) (i : Nat) : (s.standbyTook new t i).primary = 1
    ∧ (s.standbyTook new t i).sync 0 = new ∧ (s.standbyTook new t i).get (Reg.WRP_SYNC_CRANK_LOST 0) = 1 := by
  have hprim : ({ s with primary := 1 } : State).primary = 1 := rfl
  unfold State.standbyTook
  generalize ({ s with primary := 1 } : State) = x at *
  have hp := (x.goFrom_primary 0 new t i).trans hprim
  have hs := x.goFrom_sync 0 hnew t i
  generalize x.goFrom 0 new t i = y at *
  have hfell : ∀ z : State, (z.fellBack 0 1 t).primary = z.primary ∧ (z.fellBack 0 1 t).sync 0 = z.sync 0
      ∧ (z.fellBack 0 1 t).get (Reg.WRP_SYNC_CRANK_LOST 0) = 1 := fun z =>
    ⟨rfl, (State.get_report ..).trans ((State.get_inc_ne (by simp [Fld.misses])).trans (State.get_stick_ne _ _ _ _ (by simp))),
      (State.get_report ..).trans ((State.get_inc_ne (by simp [Fld.misses])).trans (State.get_stick_bit _ _ (by simp) rfl))⟩
  obtain ⟨h₁, h₂, h₃⟩ := hfell (y.set (Reg.WRP_SYNC_SRC 1) 1)
  exact ⟨h₁.trans hp, h₂.trans ((State.get_set_ne _ _ _ _ (by simp)).trans hs), h₃⟩

/-- The standby crank takes over (Table 3.6, row 1). -/
theorem State.goStandby_shows {new : Nat} (hnew : new < 16) (i : Nat) : (s.goStandby new t i).primary = 1 ∧ (s.goStandby new t i).sync 0 = new
    ∧ (s.goStandby new t i).get (Reg.WRP_SYNC_CRANK_LOST 0) = 1 ∧ ((s.goStandby new t i).wf 0).switched = true := by
  have hlast : ∀ x : State, x.showSigValid.leaveStopOwn.primary = x.primary ∧ x.showSigValid.leaveStopOwn.wefts = x.wefts
      ∧ ∀ f, Fld.misses (Reg.WFT_CLST_SIG_VALID 0) f → (∀ g ∈ divFlds, g.misses f) → x.showSigValid.leaveStopOwn.get f = x.get f := fun x => by
    obtain ⟨-, -, hp, hw⟩ := x.showSigValid.leaveStopOwn_warps
    have hx : x.showSigValid.primary = x.primary ∧ x.showSigValid.wefts = x.wefts := ⟨rfl, rfl⟩
    refine ⟨hp.trans hx.1, hw.trans hx.2, fun f hf hd => ?_⟩
    exact (State.leaveStopOwn_writes (.refl _ _) (fun f hf => hf) f hd).trans (State.get_set_ne _ _ _ _ hf)
  unfold State.goStandby
  extract_lets s₁ s₂ s₃ s₄ w
  obtain ⟨hp, hs, hl⟩ := s₂.standbyTook_shows t hnew i
  have h₄ : s₄ = s₂.standbyTook new t i := rfl
  rw [← h₄] at hp hs hl
  clear_value s₄
  obtain ⟨h₁, h₂, h₃⟩ := hlast (s₄.setWf 0 { w with switched := true, bhat := none, restarted := true })
  have hd : ∀ f : Fld, f.addr = Reg.WRP_SYNC_addr 0 → Fld.misses (Reg.WFT_CLST_SIG_VALID 0) f ∧ ∀ g ∈ divFlds, g.misses f := fun f hf =>
    ⟨.inl (by rw [hf]; decide), divFlds_miss (by rw [hf]; decide) (fun h => absurd (hf.symm.trans h) (by decide))⟩
  obtain ⟨hd₁, hd₂⟩ := hd (Reg.WRP_SYNC_STATE 0) rfl
  obtain ⟨hd₃, hd₄⟩ := hd (Reg.WRP_SYNC_CRANK_LOST 0) rfl
  refine ⟨h₁.trans hp, (h₃ _ hd₁ hd₂).trans hs, (h₃ _ hd₃ hd₄).trans hl, ?_⟩
  rw [show ((s₄.setWf 0 { w with switched := true, bhat := none, restarted := true }).showSigValid.leaveStopOwn).wf 0
    = (s₄.setWf 0 { w with switched := true, bhat := none, restarted := true }).wf 0 from congrArg (vget · 0) h₂,
    State.wf_setWf _ _ (by decide)]

end

/-! ### A crank that stalls (R158 to R160, R168) -/

/-- What a stall writes before the Warp's state changes. -/
def lostFlds (n : Nat) : Set Fld := {Reg.WFT_CNT_COASTX 0} ∪ huntFlds n

/-- The stall of Warp `n` leaves what Table 3.6 asks for. -/
structure LeavesSources (n : Nat) (s x : State) : Prop where
  writes : Writes (lostFlds n) s x
  primary : x.primary = s.primary
  weave : x.weave = s.weave
  pair : x.pair = s.pair
  now : x.now = s.now

theorem lostFlds_miss {g : Fld} {n : Nat} (h : Fld.misses (Reg.WFT_CNT_COASTX 0) g) (h' : Fld.misses (Reg.WRP_SYNC_TOOTH n) g)
    (h'' : Reg.WRP_EDGE_addr n ≠ g.addr) : ∀ f ∈ lostFlds n, f.misses g := by
  rintro f (rfl | rfl | rfl)
  exacts [h, h', .inl h'']

section
variable {n : Nat} {s x : State} (h : LeavesSources n s x)
include h

theorem LeavesSources.get {g : Fld} (h₁ : Fld.misses (Reg.WFT_CNT_COASTX 0) g) (h₂ : Fld.misses (Reg.WRP_SYNC_TOOTH n) g)
    (h₃ : Reg.WRP_EDGE_addr n ≠ g.addr) : x.get g = s.get g := h.writes g (lostFlds_miss h₁ h₂ h₃)

theorem LeavesSources.sync (m : Nat) : x.sync m = s.sync m :=
  h.get (.inl (by simp only []; omega)) (by simp [Fld.misses])
    (by simp only [Reg.WRP_EDGE_addr]; omega)

theorem LeavesSources.standbyReady : x.standbyReady = s.standbyReady := by
  have hmode : x.get (Reg.WRP_MODE_CRK_MODE 1) = s.get (Reg.WRP_MODE_CRK_MODE 1) :=
    h.get (.inl (by decide)) (.inl (by simp only []; omega)) (by simp only [Reg.WRP_EDGE_addr]; omega)
  unfold State.standbyReady
  rw [h.primary, hmode, h.sync 1, State.hasTile_congr (congrArg Weave.tiles h.weave)]

theorem LeavesSources.partnerAngle (hn : n < 2) : x.partnerAngle = s.partnerAngle := by
  have miss : ∀ f : Fld, f.addr = Reg.PRX_STAT_addr ∨ f.addr = Reg.PRX_PART_addr → x.get f = s.get f := fun f hf =>
    h.get (.inl (by rcases hf with hf | hf <;> rw [hf] <;> decide))
      (.inl (by rcases hf with hf | hf <;> rw [hf] <;> simp only [Reg.PRX_STAT_addr, Reg.PRX_PART_addr] <;> omega))
      (by rcases hf with hf | hf <;> rw [hf] <;> simp only [Reg.WRP_EDGE_addr, Reg.PRX_STAT_addr, Reg.PRX_PART_addr] <;> omega)
  unfold State.partnerAngle State.linkUp State.checkOk State.is
  rw [miss Reg.PRX_STAT_LINK (.inl rfl), miss Reg.PRX_STAT_CHECK (.inl rfl), miss Reg.PRX_STAT_MAP_VALID (.inl rfl),
    miss Reg.PRX_PART_STATE (.inr rfl), miss Reg.PRX_PART_SRC (.inr rfl), h.pair, h.now]

theorem LeavesSources.mode (hn : n < 2) {f : Fld} (hf : f.addr = Reg.WRP_MODE_addr n) : x.get f = s.get f :=
  h.get (.inl (by rw [hf]; simp only [Reg.WRP_MODE_addr]; omega))
    (.inl (by rw [hf]; simp only [Reg.WRP_MODE_addr]; omega)) (by rw [hf]; simp only [Reg.WRP_MODE_addr, Reg.WRP_EDGE_addr]; omega)

theorem LeavesSources.borrowReady (hn : n < 2) : x.borrowReady n = s.borrowReady n := by
  have hpair : x.pairMember = s.pairMember := by unfold State.pairMember; rw [h.weave, State.hasTile_congr (congrArg Weave.tiles h.weave)]
  unfold State.borrowReady State.is
  rw [h.mode hn (f := Reg.WRP_MODE_BORROW_EN n) rfl, h.partnerAngle hn, hpair]

theorem LeavesSources.limpReady (hn : n < 2) : x.limpReady n = s.limpReady n := by
  have hcam : ∀ c, x.get (Reg.WRP_SYNC_CAMST c) = s.get (Reg.WRP_SYNC_CAMST c) := fun c =>
    h.get (.inl (by simp only []; omega)) (by simp [Fld.misses])
      (by simp only [Reg.WRP_EDGE_addr]; omega)
  unfold State.limpReady State.is
  simp only [h.mode hn (f := Reg.WRP_MODE_LIMP_EN n) rfl, h.mode hn (f := Reg.WRP_MODE_LIMP_CAM n) rfl, hcam, State.hasTile_congr (congrArg Weave.tiles h.weave)]

theorem LeavesSources.away : x.away n = s.away n := by
  unfold State.away
  rw [h.sync n]

theorem LeavesSources.restartHunt (ref : Option Word) : LeavesSources n s (x.restartHunt n ref) := by
  obtain ⟨hp, hw, hpair, hnow⟩ := x.restartHunt_same n ref
  exact ⟨State.restartHunt_writes h.writes (fun f hf => .inr hf) ref, hp.trans h.primary, hw.trans h.weave, hpair.trans h.pair, hnow.trans h.now⟩

theorem LeavesSources.stallReset : LeavesSources n s (x.stallReset n) := by
  have hr := h.restartHunt none
  unfold State.stallReset
  generalize x.restartHunt n none = y at hr
  exact ⟨hr.writes.of_regs rfl, hr.primary, hr.weave, hr.pair, hr.now⟩

end

section
variable (s : State) (t : Word)

theorem State.stallReset_warp {n : Nat} (hn : n < 6) : ((s.stallReset n).wp n).stallBase = none ∧ ((s.stallReset n).wp n).pos = none := by
  obtain ⟨-, hpos, -⟩ := s.restartHunt_warp hn none
  unfold State.stallReset
  generalize s.restartHunt n none = x at *
  rw [State.wp_setWp _ _ hn]
  exact ⟨rfl, hpos⟩

/-- The state that a stall leaves before the source changes: an unanswered coast is counted (R212). -/
def State.stallMet (s : State) (n : Nat) : State := if n = s.primary ∧ (s.wp n).own.isSome then s.inc (Reg.WFT_CNT_COASTX 0) else s

theorem State.stallMet_leaves (n : Nat) : LeavesSources n s (s.stallMet n) := by
  unfold State.stallMet
  split
  · exact ⟨(Writes.refl (lostFlds n) s).inc (.inl rfl), rfl, rfl, rfl, rfl⟩
  · exact ⟨.refl _ s, rfl, rfl, rfl, rfl⟩

theorem State.stall_eq (n : Nat) : s.stall n t
    = if n = (s.stallMet n).primary ∧ (s.sync n = ssCrankSync ∨ s.sync n = ssPhased) then (s.stallMet n).lostCrank n t none true
      else if (s.stallMet n).away n then ((s.stallMet n).restartHunt n none).set (Reg.WRP_SYNC_BG n) ssHunt
      else ((s.stallMet n).stallReset n).goFrom n ssStall t ((s.stallMet n).toothIdx n) := rfl

theorem State.lostCrank_stall_eq (n : Nat) : s.lostCrank n t none true
    = if (s.restartHunt n none).standbyReady then ((s.restartHunt n none).stallReset n).goStandby ssStall t (s.toothIdx n)
      else if (s.restartHunt n none).borrowReady n then (s.restartHunt n none).goAway n ssBorrowed 2 t (s.toothIdx n)
      else if (s.restartHunt n none).limpReady n then (s.restartHunt n none).goAway n ssLimp 3 t (s.toothIdx n)
      else ((s.restartHunt n none).stallReset n).goFrom n ssStall t (s.toothIdx n) := rfl

/-- How a crank that is not the primary in synchronisation stalls. -/
theorem State.stall_own {n : Nat} (hn : n < 2) (hp : ¬ (n = s.primary ∧ (s.sync n = ssCrankSync ∨ s.sync n = ssPhased))) (ha : s.away n = false) :
    (s.stall n t).sync n = ssStall ∧ ((s.stall n t).wp n).stallBase = none ∧ ((s.stall n t).wp n).pos = none := by
  have hx := s.stallMet_leaves n
  have haway : ¬ (s.stallMet n).away n = true := by rw [hx.away, ha]; decide
  rw [s.stall_eq, if_neg fun h => hp ⟨h.1.trans hx.primary, h.2⟩, if_neg haway]
  clear hx haway
  generalize s.stallMet n = x
  obtain ⟨hbase, hpos⟩ := x.stallReset_warp (show n < 6 by omega)
  generalize x.stallReset n = y at *
  have htr : Tracks y (y.goFrom n ssStall t (x.toothIdx n)) := State.goFrom_tracks (.refl y) _ _ _ _
  exact ⟨y.goFrom_sync n (by decide) t _, (htr.stallBase n).trans hbase, (htr.pos n).trans hpos⟩

section
variable {n : Nat} (hp : n = s.primary) (hs : s.sync n = ssCrankSync ∨ s.sync n = ssPhased)
include hp hs

theorem State.stall_lost : s.stall n t = (s.stallMet n).lostCrank n t none true := by
  rw [s.stall_eq]
  exact if_pos ⟨hp.trans (s.stallMet_leaves n).primary.symm, hs⟩

theorem State.stall_standby (h : s.standbyReady = true) : (s.stall n t).primary = 1 ∧ (s.stall n t).sync 0 = ssStall
    ∧ (s.stall n t).get (Reg.WRP_SYNC_CRANK_LOST 0) = 1 ∧ ((s.stall n t).wf 0).switched = true := by
  have hx := (s.stallMet_leaves n).restartHunt none
  rw [s.stall_lost t hp hs, State.lostCrank_stall_eq, if_pos (hx.standbyReady.trans h)]
  exact State.goStandby_shows _ t (by decide) _

theorem State.stall_away (hn : n < 2) (h : s.standbyReady = false) (h' : s.borrowReady n = true ∨ s.limpReady n = true) :
    let borrow := s.borrowReady n
    (s.stall n t).sync n = (if borrow then ssBorrowed else ssLimp) ∧ (s.stall n t).get (Reg.WRP_SYNC_SRC n) = (if borrow then 2 else 3)
      ∧ (s.stall n t).get (Reg.WRP_SYNC_BG n) = ssHunt ∧ (s.stall n t).get (Reg.WRP_SYNC_CRANK_LOST n) = 1 := by
  intro borrow
  have hx := (s.stallMet_leaves n).restartHunt none
  have hstand : ¬ ((s.stallMet n).restartHunt n none).standbyReady = true := by rw [hx.standbyReady, h]; decide
  have hb := hx.borrowReady hn
  have hl := hx.limpReady hn
  rw [s.stall_lost t hp hs, State.lostCrank_stall_eq, if_neg hstand]
  clear hx hstand
  generalize (s.stallMet n).restartHunt n none = x at *
  cases hborrow : s.borrowReady n with
  | true =>
    rw [if_pos (hb.trans hborrow), show borrow = true from hborrow, if_pos rfl, if_pos rfl]
    exact ⟨x.goAway_sync n (by decide) 2 t _, x.goAway_shows t hn ssBorrowed (by decide) _⟩
  | false =>
    have hnot : ¬ x.borrowReady n = true := by rw [hb, hborrow]; decide
    have hlimp : s.limpReady n = true := h'.resolve_left (by rw [hborrow]; decide)
    rw [if_neg hnot, if_pos (hl.trans hlimp), show borrow = false from hborrow, if_neg (by decide), if_neg (by decide)]
    exact ⟨x.goAway_sync n (by decide) 3 t _, x.goAway_shows t hn ssLimp (by decide) _⟩

theorem State.stall_none (hn : n < 2) (h₁ : s.standbyReady = false) (h₂ : s.borrowReady n = false) (h₃ : s.limpReady n = false) :
    (s.stall n t).sync n = ssStall ∧ (s.stall n t).rotationTold := by
  have hx := (s.stallMet_leaves n).restartHunt none
  have hy := hx.stallReset
  have hstand : ¬ ((s.stallMet n).restartHunt n none).standbyReady = true := by rw [hx.standbyReady, h₁]; decide
  have hborrow : ¬ ((s.stallMet n).restartHunt n none).borrowReady n = true := by rw [hx.borrowReady hn, h₂]; decide
  have hlimp : ¬ ((s.stallMet n).restartHunt n none).limpReady n = true := by rw [hx.limpReady hn, h₃]; decide
  have hsync := hy.sync n
  have hprim := hy.primary
  rw [s.stall_lost t hp hs, State.lostCrank_stall_eq, if_neg hstand, if_neg hborrow, if_neg hlimp]
  clear hx hy hstand hborrow hlimp
  generalize ((s.stallMet n).restartHunt n none).stallReset n = y at *
  have hne : y.sync n ≠ ssStall := by rw [hsync]; rcases hs with h | h <;> rw [h] <;> decide
  exact ⟨y.goFrom_sync n (by decide) t _, y.goFrom_told (hp.trans hprim.symm) hne (.inl rfl) t _⟩

end

end

section
variable (t : Word) (n : Fin 2) (s : State)

theorem exec_stallTimeout : exec (.stallTimeout t n) s
    = .next (if (s.at t).stallDue n && decide (s.sync n ≠ ssOff ∧ s.sync n ≠ ssStall) && !(s.at t).reverseNow n then (s.at t).stall n t else s.at t) :=
  rfl

theorem stallTimeout_due (hd : (s.at t).stallDue n = true) (hr : (s.at t).reverseNow n = false) (h₁ : s.sync n ≠ ssOff) (h₂ : s.sync n ≠ ssStall) :
    exec (.stallTimeout t n) s = .next ((s.at t).stall n t) := by
  refine (exec_stallTimeout t n s).trans (congrArg _ (if_pos ?_))
  rw [hd, hr, decide_eq_true (And.intro h₁ h₂)]
  decide

theorem stallTimeout_idle (h : (s.at t).stallDue n = false ∨ (s.at t).reverseNow n = true ∨ s.sync n = ssOff ∨ s.sync n = ssStall) :
    Idles (.stallTimeout t n) s t := by
  refine (exec_stallTimeout t n s).trans (congrArg _ (if_neg fun hc => ?_))
  obtain ⟨⟨hd, hs⟩, hr⟩ := (Bool.and_eq_true_iff.1 hc).imp_left Bool.and_eq_true_iff.1
  have hs := of_decide_eq_true hs
  rcases h with h | h | h | h
  · exact absurd (h.symm.trans hd) (by decide)
  · rw [h] at hr
    exact absurd hr (by decide)
  · exact hs.1 h
  · exact hs.2 h

end

/-! ### A cam that stalls (R182) -/

section
variable (s : State) (t : Word)

/-- The registers of a stalled cam: NONE, and counted. -/
def State.camShown (s : State) (n : Nat) : State := ((s.inc (Reg.WRP_CNT1_STALLS n)).set (Reg.WRP_SYNC_CAMST n) 0).set (Reg.WRP_SYNC_TOOTH n) 0xFFF

/-- The next edge of a stalled cam is a reference. -/
def State.camUnset (s : State) (n : Nat) : State :=
  s.setWp n { s.wp n with hasRef := false, stallBase := none, stallP := none, camCand := [], vrPeak := 4 * s.get (Reg.WRP_CFG_VR_MIN n) }

theorem State.camStall_eq (n : Nat) : s.camStall n t = ((s.camShown n).camUnset n).limpLost n t := rfl

/-- What a stalled cam writes. -/
def camFlds (n : Nat) : Set Fld := {Reg.WRP_CNT1_STALLS n, Reg.WRP_SYNC_CAMST n, Reg.WRP_SYNC_TOOTH n}

theorem State.camShown_shows (n : Nat) : (s.camShown n).get (Reg.WRP_SYNC_CAMST n) = 0 ∧ (s.camShown n).get (Reg.WRP_SYNC_TOOTH n) = 0xFFF
    ∧ (s.camShown n).get (Reg.WRP_CNT1_STALLS n) = min (s.get (Reg.WRP_CNT1_STALLS n) + 1) (Reg.WRP_CNT1_STALLS n).max := by
  have hcount : Reg.WRP_SYNC_addr n ≠ (Reg.WRP_CNT1_STALLS n).addr := by simp only [Reg.WRP_SYNC_addr]; omega
  unfold State.camShown
  exact ⟨(State.get_set_ne _ _ _ _ (by simp)).trans (State.get_set_of_lt _ _ (by simp) (by simp)), State.get_set_of_lt _ _ (by simp) (by simp),
    (State.get_set_ne _ _ _ _ (.inl hcount)).trans ((State.get_set_ne _ _ _ _ (.inl hcount)).trans (s.get_inc _ (by simp)))⟩

theorem State.camShown_writes (n : Nat) : Writes (camFlds n) s (s.camShown n) :=
  (((Writes.refl (camFlds n) s).inc (by simp [camFlds])).set (by simp [camFlds]) 0).set (by simp [camFlds]) _

theorem State.camUnset_shows {n : Nat} (hn : n < 6) : (s.camUnset n).regs = s.regs ∧ (s.camUnset n).primary = s.primary
    ∧ ((s.camUnset n).wp n).hasRef = false :=
  ⟨rfl, rfl, congrArg Warp.hasRef (State.wp_setWp _ _ hn)⟩

theorem State.camShown_primary (n : Nat) : (s.camShown n).primary = s.primary := rfl

/-- The unit that limps hunts again when its cam is lost. -/
theorem State.sourceLost_limp (h : s.sync s.primary = ssLimp) : s.sourceLost t
    = (((((if s.get (Reg.WRP_SYNC_BG s.primary) = ssHunt then s else s.restartHunt s.primary none).set (Reg.WRP_SYNC_BG s.primary) 0).set
        (Reg.WRP_SYNC_SRC s.primary) s.primary).weft0Returns).goFrom s.primary ssHunt t (s.toothIdx s.primary)) := by
  have haway : s.away s.primary = true := decide_eq_true (.inl h)
  unfold State.sourceLost
  extract_lets n bg i s₁
  rw [if_neg fun hb => absurd (h.symm.trans hb.1) (by decide)]
  exact if_pos haway

theorem State.sourceLost_limp_shows (h : s.sync s.primary = ssLimp) (hp : s.primary < 6) {j : Nat} (hj : j ≠ s.primary) :
    (s.sourceLost t).sync s.primary = ssHunt ∧ ((s.sourceLost t).wp j).hasRef = (s.wp j).hasRef := by
  rw [s.sourceLost_limp t h]
  have hy : (if s.get (Reg.WRP_SYNC_BG s.primary) = ssHunt then s else s.restartHunt s.primary none).wp j = s.wp j := by
    split
    · rfl
    · exact (s.restartHunt_warp hp none).2.2.2.2 j hj
  generalize (if s.get (Reg.WRP_SYNC_BG s.primary) = ssHunt then s else s.restartHunt s.primary none) = y at *
  have hz : ((y.set (Reg.WRP_SYNC_BG s.primary) 0).set (Reg.WRP_SYNC_SRC s.primary) s.primary).weft0Returns.wp j = y.wp j := rfl
  generalize ((y.set (Reg.WRP_SYNC_BG s.primary) 0).set (Reg.WRP_SYNC_SRC s.primary) s.primary).weft0Returns = z at *
  have htr : Tracks z (z.goFrom s.primary ssHunt t (s.toothIdx s.primary)) := State.goFrom_tracks (.refl z) _ _ _ _
  exact ⟨z.goFrom_sync _ (by decide) t _, (htr.hasRef j).trans (congrArg Warp.hasRef (hz.trans hy))⟩

theorem State.limpLost_writes (n : Nat) : Writes (sourceFlds s.primary) s (s.limpLost n t) := by
  unfold State.limpLost
  split
  · exact State.sourceLost_writes (.refl _ s) (fun f hf => hf) t
  · exact .refl _ s

theorem State.limpLost_shows {n : Nat} (hn : 2 ≤ n) (hp : s.primary < 2) : ((s.limpLost n t).wp n).hasRef = (s.wp n).hasRef
    ∧ (s.sync s.primary = ssLimp → n = 2 + s.get (Reg.WRP_MODE_LIMP_CAM s.primary) → (s.limpLost n t).sync s.primary = ssHunt) := by
  unfold State.limpLost
  split
  · next h =>
    obtain ⟨hs, hw⟩ := s.sourceLost_limp_shows t h.1 (by omega) (j := n) (by omega)
    exact ⟨hw, fun _ _ => hs⟩
  · next h => exact ⟨rfl, fun h₁ h₂ => absurd ⟨h₁, h₂⟩ h⟩

/-- A change of the source of crank Warp `p` leaves the registers of a cam Warp. -/
theorem sourceFlds_miss_cam {g : Fld} {p n : Nat} (hp : p < 2) (hn : 2 ≤ n) (h6 : n < 6)
    (hg : g.addr = Reg.WRP_SYNC_addr n ∨ g.addr = (Reg.WRP_CNT1_STALLS n).addr) : ∀ f ∈ sourceFlds p, f.misses g := by
  have hge : 0x900 ≤ g.addr ∧ g.addr < 0xB00 := by rcases hg with hg | hg <;> rw [hg] <;> simp only [Reg.WRP_SYNC_addr] <;> omega
  rintro f ((rfl | rfl | rfl | rfl) | ((rfl | rfl) | hf | hf) | (rfl | rfl))
  case inr.inl.inr.inl => exact learnFlds_miss (by simp only [Reg.WFT_CLST_addr]; omega) f hf
  case inr.inl.inr.inr => exact divFlds_miss (by simp only [Reg.PRX_CNT1_addr]; omega) (fun h => by simp only [Reg.PRX_STAT_addr] at h; omega) f hf
  all_goals exact .inl (by simp only [wholeReg, Reg.WRP_EDGE_addr]; omega)

theorem State.camStall_shows {n : Nat} (hn : 2 ≤ n) (h6 : n < 6) (hp : s.primary < 2) :
    (s.camStall n t).get (Reg.WRP_SYNC_CAMST n) = 0 ∧ (s.camStall n t).get (Reg.WRP_SYNC_TOOTH n) = 0xFFF ∧ ((s.camStall n t).wp n).hasRef = false
      ∧ (s.camStall n t).get (Reg.WRP_CNT1_STALLS n) = min (s.get (Reg.WRP_CNT1_STALLS n) + 1) (Reg.WRP_CNT1_STALLS n).max
      ∧ (s.sync s.primary = ssLimp → n = 2 + s.get (Reg.WRP_MODE_LIMP_CAM s.primary) → (s.camStall n t).sync s.primary = ssHunt) := by
  obtain ⟨hcam, htooth, hcount⟩ := s.camShown_shows n
  obtain ⟨hregs, hprim, href⟩ := (s.camShown n).camUnset_shows h6
  have hprim : ((s.camShown n).camUnset n).primary = s.primary := hprim.trans (s.camShown_primary n)
  have hget : ∀ f, ((s.camShown n).camUnset n).get f = (s.camShown n).get f := State.get_of_regs hregs
  have hw := s.camShown_writes n
  rw [s.camStall_eq]
  generalize (s.camShown n).camUnset n = x at *
  have hlost : Writes (sourceFlds s.primary) x (x.limpLost n t) := hprim ▸ x.limpLost_writes t n
  have miss : ∀ g : Fld, g.addr = Reg.WRP_SYNC_addr n ∨ g.addr = (Reg.WRP_CNT1_STALLS n).addr → (x.limpLost n t).get g = (s.camShown n).get g :=
    fun g hg => (hlost g (sourceFlds_miss_cam hp hn h6 hg)).trans (hget g)
  have hown : ∀ g : Fld, g.addr = Reg.WRP_SYNC_addr s.primary ∨ g.addr = Reg.WRP_MODE_addr s.primary → x.get g = s.get g := fun g hg =>
    (hget g).trans (hw g (by
      rintro f (rfl | rfl | rfl) <;> refine .inl ?_ <;> rcases hg with hg | hg <;> rw [hg] <;> simp only [Reg.WRP_SYNC_addr, Reg.WRP_MODE_addr] <;> omega))
  obtain ⟨hwp, hhunt⟩ := x.limpLost_shows t hn (hprim.symm ▸ hp)
  refine ⟨(miss _ (.inl rfl)).trans hcam, (miss _ (.inl rfl)).trans htooth, hwp.trans href, (miss _ (.inr rfl)).trans hcount, fun h₁ h₂ => ?_⟩
  rw [hprim] at hhunt
  exact hhunt ((hown (Reg.WRP_SYNC_STATE s.primary) (.inl rfl)).trans h₁) (h₂.trans (congrArg (2 + ·) (hown _ (.inr rfl)).symm))

end

section
variable (t : Word) (n : Fin 6) (s : State)

theorem exec_camStallTimeout : exec (.camStallTimeout t n) s
    = .next (if (s.at t).stallDue n && decide (2 ≤ n.val) then (s.at t).camStall n t else s.at t) := rfl

theorem camStalls (hp : s.primary < 2) (hn : 2 ≤ n.val) (hd : (s.at t).stallDue n = true) : Does (.camStallTimeout t n) s (fun s' =>
    s'.get (Reg.WRP_SYNC_CAMST n) = 0 ∧ s'.get (Reg.WRP_SYNC_TOOTH n) = 0xFFF ∧ (s'.wp n).hasRef = false
      ∧ s'.get (Reg.WRP_CNT1_STALLS n) = min (s.get (Reg.WRP_CNT1_STALLS n) + 1) (Reg.WRP_CNT1_STALLS n).max
      ∧ (s.sync s.primary = ssLimp → n.val = 2 + s.get (Reg.WRP_MODE_LIMP_CAM s.primary) → s'.sync s.primary = ssHunt)) :=
  ⟨_, (exec_camStallTimeout t n s).trans (congrArg _ (if_pos (by rw [hd, decide_eq_true hn]; decide))),
    (s.at t).camStall_shows t hn n.isLt hp⟩

theorem camStallIdle (h : (s.at t).stallDue n = false ∨ n.val < 2) : Idles (.camStallTimeout t n) s t := by
  refine (exec_camStallTimeout t n s).trans (congrArg _ (if_neg fun hc => ?_))
  obtain ⟨hd, hn⟩ := Bool.and_eq_true_iff.1 hc
  rcases h with h | h
  · exact absurd (h.symm.trans hd) (by decide)
  · exact absurd (of_decide_eq_true hn) (Nat.not_le.2 h)

end

/-! ### O29 -/

/-- Settles O29: each clause is one branch of its command; a stall, a reverse and a fallback leave the Warps but for their learning, and
write only the registers of the Warp, of the source and of the divergence. -/
theorem wheelFilterAndStall : Obligations.WheelFilterAndStall := by
  unfold Obligations.WheelFilterAndStall
  refine ⟨fun t n s => ⟨levelTransitions t n s, vrTransitions t n s, fun x hl => exec_wheelDead t n s hl,
    fun t0 hp hr hf hd => filterLow t n s hp hr hf hd, fun t0 hp hr hf hl hn hs hc => filterEdge t n s hp hr hf hl hn hs hc,
    (filterIdle t n s).1, (filterIdle t n s).2,
    fun t0 hp hr => ⟨dirSplitCrank t n s hp hr, dirSplitCam t n s hp hr, dirMaxError t n s hp hr⟩,
    (dirIdle t n s).1, (dirIdle t n s).2.1, (dirIdle t n s).2.2⟩, fun t s hprim => ⟨fun n hd hr h₁ h₂ => ?_, fun n => stallTimeout_idle t n s,
    fun n hn hd => camStalls t n s hprim hn hd, fun n => camStallIdle t n s⟩⟩
  have hx := stallTimeout_due t n s hd hr h₁ h₂
  refine ⟨fun hp ha => ⟨_, hx, (s.at t).stall_own t n.isLt (fun h => hp ⟨h.1, ?_⟩) ha⟩, fun hp hs h => ⟨_, hx, ?_⟩, fun hp hs h hb => ⟨_, hx, ?_⟩,
    fun hp hs h hb hl => ⟨_, hx, ?_⟩, fun hp hs h hb hl => ⟨_, hx, (s.at t).stall_none t hp (hp ▸ hs) n.isLt h hb hl⟩⟩
  · rw [← show n.val = s.primary from h.1]
    exact h.2
  · exact (s.at t).stall_standby t hp (hp ▸ hs) h
  · have haway := (s.at t).stall_away t hp (hp ▸ hs) n.isLt h (.inl hb)
    simpa only [hb, if_true] using haway
  · have haway := (s.at t).stall_away t hp (hp ▸ hs) n.isLt h (.inr hl)
    simpa only [hb, Bool.false_eq_true, if_false] using haway

end Sys2Proof.Machine
end
